-- ==== Sys2Proof/Word.lean ====
section
/-! DEFINITION. The word types of the EC-9640 (R6: registers are 32 bits wide, little-endian). -/

namespace Sys2Proof

/-- One byte of memory or of a frame. -/
abbrev Byte := BitVec 8

/-- One 32-bit register or instruction word (R6). -/
abbrev Word := BitVec 32

/-- A 64-bit quantity: two consecutive registers, the low word at the lower offset (R6). -/
abbrev DWord := BitVec 64


/-- Who makes an access through the address map (R29, R82). -/
inductive Master where
  | warden
  | pcie
  | remote (dev : Fin 32)
  | debug
  deriving DecidableEq, Repr

/-- How a PMBus transaction ended (R51). -/
inductive PmbResult where
  | ok (readMv : Nat)
  | nack
  | pecError
  deriving DecidableEq, Repr

/-- A frame as the selective-wake decoder sees it (R396). -/
structure WakeFrame where
  error : Bool
  fd : Bool
  rate : Nat
  ide : Bool
  id : Nat
  dlc : Nat
  data : List Byte
  deriving DecidableEq, Repr

/-- How a frame on the CAN bus ended for its sender (R203, R204). -/
inductive TxOutcome where
  | done
  | lostArbitration
  | failed
  deriving DecidableEq, Repr

/-- The rule of ISO 11898-1 by which an error acts on the error counters (R189). -/
inductive CanErrRule where
  | receiver
  | receiver8
  | transmitter
  | exempt
  deriving DecidableEq, Repr

/-- A bus error as a channel detects it: its rule, its kind in the code of CAN_ERR.last_err, whether it was found at a
sample point of a data phase, whether an error flag starts, and whether the frame is an XL frame (R184, R189, R209). -/
structure CanError where
  rule : CanErrRule
  kind : Fin 7
  dataPhase : Bool
  flag : Bool
  xl : Bool := false
  deriving DecidableEq, Repr

/-- A valid frame on a CAN bus (R191, R196): format 0 classic, 1 FD, 2 XL; `dlc` the data bytes, or a classic DLC. -/
structure CanFrame where
  fmt : Fin 3
  ide : Bool
  rtr : Bool
  brs : Bool
  esi : Bool
  dlc : Nat
  id : Nat
  data : List Byte
  sdt : Nat
  vcid : Nat
  sec : Bool
  af : Nat
  /-- Time from its start-of-frame edge to its validity, in ns. -/
  age : Nat := 0
  deriving DecidableEq, Repr

/-- A link of a link-state advertisement: switch port, role, neighbour and its port (R310). -/
structure LsaLink where
  port : Nat
  role : Nat
  peer : Nat
  peerPort : Nat
  deriving DecidableEq, Repr

/-- A link-state advertisement (R310). -/
structure Lsa where
  origin : Nat
  seq : Nat
  headIn : Bool
  links : List LsaLink
  deriving DecidableEq, Repr

/-- The devices that an ASSIGN or a COMMIT names, with their positions in the order of R312; position k below 32 is address
k (R313). -/
structure Assign where
  epoch : Nat
  order : List (Nat × Nat)
  deriving DecidableEq, Repr

/-- A pending event that a mobile routine brings along from its old host (R300). -/
structure MovedEvent where
  kind : Nat
  g2 : Nat
  g3 : Nat
  time : Nat
  g6 : Nat
  g7 : Nat
  data : List Byte
  deriving DecidableEq, Repr

/-- An armed timer that a mobile routine brings along: its number, the time left until it is due and the interval of a periodic
timer in ns, and its argument (R283). -/
structure MovedTimer where
  timer : Fin 4
  left : Nat
  period : Option Nat
  arg : Nat
  deriving DecidableEq, Repr

/-- What a device reports of a mobile routine that it declares: the digest of its code image, the keeper load committed there
and its capacity, and whether it can place the routine (R297, R298). The device that has hosted it so far adds its private data,
its pending events, its timers and whether it is suspended, which cross the fabric if the host changes, with the pause that this makes in
ns (R283, R293, R300). `mode` is the host_mode of the declaration, `core` the core on which the device holds or would place the
routine (R302). -/
structure MobileReport where
  routine : Nat
  addr : Nat
  digest : Nat
  load : Nat
  capacity : Nat
  canPlace : Bool
  data : List Byte := []
  events : List MovedEvent := []
  timers : List MovedTimer := []
  suspended : Bool := false
  pause : Nat := 0
  mode : Nat := 0
  core : Nat := 0
  deriving DecidableEq, Repr

/-- What an uncorrectable word belonged to, where the manual's outcome depends on it (R415): a frame in a bank or in a staging
buffer, an entry of the event queue, a CAN filter element, receive entry, backlog place or transmit buffer, a pending event of a
keeper core, an entry of a tide table. -/
inductive PatrolUnit where
  | none
  | frame (id : Nat)
  | staged (port pos : Nat)
  | entry (slot : Nat)
  | filter (channel element : Nat)
  | received (channel no : Nat)
  | backlog (channel pos : Nat)
  | buffer (channel : Nat) (b : Fin 3)
  | event (pos : Nat)
  | tide (port list index : Nat)
  deriving DecidableEq, Repr

/-- Bridge masters and the firmware: who makes an access (R29, R82). -/
def Master.number : Master → Nat
  | .warden => 0
  | .pcie => 1
  | .remote d => 2 + d.val
  | .debug => 34

end Sys2Proof
end

