-- ==== Sys2Proof/Syntax.lean ====
section
/-! DEFINITION. The commands of the EC-9640: one constructor for each row of the opcode table, with the operands that its rule
needs. Keeper instructions name the core that executes them; a register write names its master. -/

namespace Sys2Proof

inductive Instr where
  /-- REGISTER_WRITE (R8). -/
  | registerWrite (m : Master) (addr : BitVec 40) (wide : Bool) (v : DWord)
  /-- MEMORY_WRITE (R473). -/
  | memoryWrite (m : Master) (addr : BitVec 40) (bs : List (Option Byte))
  /-- ALIAS_WRITE (R27). -/
  | aliasWrite (m : Master) (clear : Bool) (addr : BitVec 38) (wide : Bool) (v : DWord)
  /-- VBAT_VALID (R59). -/
  | vbatValid
  /-- EN_VLINE_VCORE_RAISE (R59). -/
  | enVlineVcoreRaise
  /-- SUP_PG_HIGH (R59). -/
  | supPgHigh
  /-- SUPPLY_START_TIMEOUT (R60). -/
  | supplyStartTimeout
  /-- SUPPLY_RETRY (R60). -/
  | supplyRetry
  /-- SUPPLY_LOST (R74). -/
  | supplyLost
  /-- RESET_RELEASE (R61). -/
  | resetRelease (psel : Fin 4) (head : Bool)
  /-- THERMAL_WAIT_END (R42). -/
  | thermalWaitEnd
  /-- FIRMWARE_VERIFIED (R368). -/
  | firmwareVerified (burns : List Bool)
  /-- COLD_BLOCK_LOADED (R65). -/
  | coldBlockLoaded
  /-- FULL_OPERATION (R62). -/
  | fullOperation (failed : List (Fin 64))
  /-- COLD_PORT_NO_LINK (R63). -/
  | coldPortNoLink (p : Fin 28)
  /-- PERST_N_DEASSERT (R64). -/
  | perstNDeassert
  /-- PCIE_LINK_CHANGE (R333). -/
  | pcieLinkChange (up : Bool)
  /-- FUNCTION_LEVEL_RESET (R333). -/
  | functionLevelReset
  /-- VBAT_SAMPLE (R390). -/
  | vbatSample (mv : Nat)
  /-- CRANKING_HOLD_END (R72). -/
  | crankingHoldEnd
  /-- OVERVOLTAGE_EXIT (R390). -/
  | overvoltageExit
  /-- RIDE_THROUGH_EXPIRY (R72). -/
  | rideThroughExpiry
  /-- BROWN_OUT_RESTART (R73). -/
  | brownOutRestart
  /-- BANK_POWER_ON_RESET (R72). -/
  | bankPowerOnReset
  /-- HEARTBEAT_LOST (R75). -/
  | heartbeatLost
  /-- HB (R75). -/
  | hb (m : Master) (v : Word)
  /-- FATAL (R77). -/
  | fatal
  /-- FATAL_RESET_ASSERT (R77). -/
  | fatalResetAssert
  /-- VCORE_HOLD_END (R77). -/
  | vcoreHoldEnd
  /-- EXT_RST_N (R78). -/
  | extRstN
  /-- DEBUG_PORT_RESET (R78). -/
  | debugPortReset
  /-- SLEEP_REQ (R392). -/
  | sleepReq (m : Master) (v : Word)
  /-- WAKE_INPUT_CHANGE (R391). -/
  | wakeInputChange (i : Fin 8) (level : Bool)
  /-- WAKE_FILTER_EXPIRY (R391). -/
  | wakeFilterExpiry (i : Fin 8)
  /-- WAKE_ARM (R391). -/
  | wakeArm (i : Fin 8)
  /-- WAKE_STUCK (R393). -/
  | wakeStuck (i : Fin 8)
  /-- CAN_WAKE_PATTERN (R395). -/
  | canWakePattern (n : Fin 24)
  /-- SELECTIVE_WAKE_FRAME (R396). -/
  | selectiveWakeFrame (n : Fin 24) (f : WakeFrame)
  /-- TRANSCEIVER_DOMINANT_TIMEOUT (R190). -/
  | transceiverDominantTimeout (n : Fin 24)
  /-- DIKE_LINK_TRANSACTION (R388). -/
  | dikeLinkTransaction (m : Master) (write : Bool) (off : Fin 65536) (v : Word) (arrives answered : Bool)
  /-- DIKE_LINK_RETRY (R389). -/
  | dikeLinkRetry (arrives answered : Bool)
  /-- PWM_PERIOD_START (R399). -/
  | pwmPeriodStart (currents : List Nat)
  /-- HEATER_DEMAND_WRITE (R400). -/
  | heaterDemandWrite (m : Master) (n : Fin 12) (v : Word)
  /-- DEMAND_EXPIRY (R400). -/
  | demandExpiry (n : Fin 12)
  /-- DECAY_STEP (R400). -/
  | decayStep (n : Fin 12)
  /-- HEATER_SHORT (R402). -/
  | heaterShort (n : Fin 12)
  /-- SHORT_RETRY (R402). -/
  | shortRetry (n : Fin 12)
  /-- SHORT_RUN_RESET (R402). -/
  | shortRunReset (n : Fin 12)
  /-- VBAT_SHORT (R402). -/
  | vbatShort (n : Fin 12)
  /-- THERMAL_MODEL_UPDATE (R403). -/
  | thermalModelUpdate
  /-- CLEAR (R402). -/
  | clear (m : Master) (n : Fin 12) (v : Word)
  /-- CLR_MIN (R406). -/
  | clrMin (m : Master) (v : Word)
  /-- GOVERNOR_PERIOD (R46). -/
  | governorPeriod (rates : List Nat)
  /-- NEED_SWAP (R45). -/
  | needSwap (m : Master) (v : Word)
  /-- LOAD_NOT_MET (R47). -/
  | loadNotMet
  /-- PMBUS_TRANSACTION_DONE (R51). -/
  | pmbusTransactionDone (r : PmbResult)
  /-- PMBUS_CLOCK_STRETCH_TIMEOUT (R51). -/
  | pmbusClockStretchTimeout
  /-- PMB_ALERT_N (R51). -/
  | pmbAlertN (fails : Fin 5) (status : BitVec 16)
  /-- VOUT_MODE_READ (R50). -/
  | voutModeRead (fails : Fin 5) (linear : Bool)
  /-- TEMP_SAMPLE (R40). -/
  | tempSample (r : List Int)
  /-- TEMP_CRITICAL (R41). -/
  | tempCritical
  /-- VMON_SAMPLE (R43). -/
  | vmonSample (r : List Nat)
  /-- VCORE_UNDERVOLT (R43). -/
  | vcoreUndervolt (n : Fin 4)
  /-- HLT_TIDE_RATE_WRITE (R53). -/
  | hltTideRateWrite (m : Master) (v : Word)
  /-- STEP_GO (R38). -/
  | stepGo (m : Master) (v : Word)
  /-- CLR_COUNTS (R53). -/
  | clrCounts (m : Master) (v : Word)
  /-- CLR_MAX (R53). -/
  | clrMax (m : Master) (v : Word)
  /-- PRESENTATION_CHECK_RESUME (R147). -/
  | presentationCheckResume
  /-- SYNC_RECEIPT_TIMEOUT (R37). -/
  | syncReceiptTimeout
  /-- GPTP_SYNC (R37). -/
  | gptpSync (offset : Int) (time : Nat)
  /-- FRAME_RECEIVE (R162). -/
  | frameReceive (p : Fin 28) (bytes : List Byte) (phyErr : Bool)
  /-- SPILL_TARGET_RETRY (R90). -/
  | spillTargetRetry (b : Fin 8)
  /-- LEARN_REQUEST_SERVE (R228). -/
  | learnRequestServe
  /-- FRAME_END (R89). -/
  | frameEnd (p : Fin 28)
  /-- MATCHER_ROUND (R100). -/
  | matcherRound
  /-- TRANSFER_COMPLETE (R103). -/
  | transferComplete (i : Fin 32)
  /-- TRANSMIT_FRAME (R168). -/
  | transmitFrame (o : Fin 28) (cells : Fin 37)
  /-- TRANSMIT_UNDERRUN (R169). -/
  | transmitUnderrun (o : Fin 28)
  /-- RESIDUE_TIMEOUT (R104). -/
  | residueTimeout (id : Nat)
  /-- LINK_DOWN (R106). -/
  | linkDown (p : Fin 28)
  /-- PORT_HOLD_EXPIRY (R106). -/
  | portHoldExpiry (p : Fin 28)
  /-- LINK_UP (R161). -/
  | linkUp (p : Fin 28)
  /-- SQI_LOW (R161). -/
  | sqiLow (p : Fin 28) (q : Fin 8)
  /-- BERM_CONFIG_WRITE (R87). -/
  | bermConfigWrite (m : Master) (k : Fin 48) (v : Word)
  /-- SWC_CNT_CLR (R112). -/
  | swcCntClr (m : Master) (p : Fin 32)
  /-- SWC_CNT_CLR_ALL (R112). -/
  | swcCntClrAll (m : Master) (v : Word)
  /-- POLICER_WRITE (R117). -/
  | policerWrite (m : Master) (v : Word)
  /-- POLICER_READ (R132). -/
  | policerRead (m : Master) (v : Word)
  /-- POLICER_CLR (R132). -/
  | policerClr (m : Master) (v : Word)
  /-- CLR_GATE_CNT (R132). -/
  | clrGateCnt (m : Master) (v : Word)
  /-- CLR_POL_CNT (R132). -/
  | clrPolCnt (m : Master) (v : Word)
  /-- SHAPER_CONFIG_WRITE (R119). -/
  | shaperConfigWrite (m : Master) (k : Fin 256) (burst : Bool) (v : Word)
  /-- TIDE_ENTRY_END (R121). -/
  | tideEntryEnd (p : Fin 28)
  /-- CHANGE (R126). -/
  | change (m : Master) (p : Fin 28) (v : Word)
  /-- SCHEDULE_SWITCH (R126). -/
  | scheduleSwitch (p : Fin 28)
  /-- TT_ENABLE (R128). -/
  | ttEnable (m : Master) (p : Fin 28) (v : Word)
  /-- TMG_TT_DATA_WRITE (R127). -/
  | tmgTtDataWrite (m : Master) (v : Word)
  /-- GAUGE_SAMPLE (R130). -/
  | gaugeSample
  /-- TMG_HIST_SEL_WRITE (R130). -/
  | tmgHistSelWrite (m : Master) (h : Fin 64) (v : Word)
  /-- CLR_WM (R129). -/
  | clrWm (m : Master) (v : Word)
  /-- CLR_HIST (R132). -/
  | clrHist (m : Master) (v : Word)
  /-- STALL (R146). -/
  | stall (g : Fin 64)
  /-- LOSS_WINDOW_END (R145). -/
  | lossWindowEnd (g : Fin 64)
  /-- STATUS_MESSAGE_REPEAT (R153). -/
  | statusMessageRepeat (g : Fin 64)
  /-- AUTO_REVERT (R156). -/
  | autoRevert (g : Fin 64)
  /-- REVERT (R156). -/
  | revert (m : Master) (g : Fin 64) (v : Word)
  /-- CSG_G_CFG_WRITE (R151). -/
  | csgGCfgWrite (m : Master) (g : Fin 64) (v : Word)
  /-- CSG_G_BACKUP_WRITE (R156). -/
  | csgGBackupWrite (m : Master) (g : Fin 64) (v : Word)
  /-- CSG_FRER_CFG_WRITE (R141). -/
  | csgFrerCfgWrite (m : Master) (c : Fin 512) (v : Word)
  /-- RECOVERY_RESET_TIMEOUT (R141). -/
  | recoveryResetTimeout (c : Fin 512)
  /-- MEMBER_SILENT (R142). -/
  | memberSilent (c : Fin 512) (j : Fin 4)
  /-- CSG_CLR_GUARDS (R159). -/
  | csgClrGuards (m : Master) (v : Word)
  /-- CSG_CLR_FRER (R159). -/
  | csgClrFrer (m : Master) (v : Word)
  /-- CSG_CLR_REFUSED (R159). -/
  | csgClrRefused (m : Master) (v : Word)
  /-- ETH_PHY_CFG_WRITE (R161). -/
  | ethPhyCfgWrite (m : Master) (p : Fin 28) (v : Word)
  /-- SA_WORD0_WRITE (R173). -/
  | saWord0Write (m : Master) (p : Fin 20) (e : Fin 36) (v : Word)
  /-- TX_AN_SWITCH (R173). -/
  | txAnSwitch (m : Master) (p : Fin 20) (v : Word)
  /-- TXTS_ACK (R177). -/
  | txtsAck (m : Master) (p : Fin 28) (v : Word)
  /-- TC10_SLEEP_REQ (R178). -/
  | tc10SleepReq (m : Master) (p : Fin 28) (v : Word)
  /-- WAKE_REQ (R179). -/
  | wakeReq (m : Master) (p : Fin 28) (v : Word)
  /-- TC10_PARTNER_SLEEP (R178). -/
  | tc10PartnerSleep (p : Fin 28)
  /-- TC10_SLEEP_ENTERED (R178). -/
  | tc10SleepEntered (p : Fin 28)
  /-- TC10_WAKE_RECEIVED (R178). -/
  | tc10WakeReceived (p : Fin 28)
  /-- ETH_CNT_CLR (R183). -/
  | ethCntClr (m : Master) (p : Fin 28) (v : Word)
  /-- CAN_MODE_WRITE (R188). -/
  | canModeWrite (m : Master) (n : Fin 24) (v : Word)
  /-- CAN_MODE_CHANGE (R188). -/
  | canModeChange (n : Fin 24)
  /-- CAN_CONFIG_WRITE (R187). -/
  | canConfigWrite (m : Master) (n : Fin 24) (k : Fin 5) (v : Word)
  /-- CAN_INTEGRATION_DONE (R188). -/
  | canIntegrationDone (n : Fin 24)
  /-- CAN_FRAME_RECEIVED (R191). -/
  | canFrameReceived (n : Fin 24) (f : CanFrame)
  /-- CAN_ERROR (R189). -/
  | canError (n : Fin 24) (e : CanError)
  /-- BUS_OFF_RECOVERED (R189). -/
  | busOffRecovered (n : Fin 24) (seqs : Fin 129)
  /-- BUS_STUCK (R190). -/
  | busStuck (n : Fin 24)
  /-- BUS_STUCK_END (R190). -/
  | busStuckEnd (n : Fin 24)
  /-- FILTER_ELEMENT_WRITE (R193). -/
  | filterElementWrite (m : Master) (n : Fin 24) (v : Word)
  /-- RXQ_ACK (R195). -/
  | rxqAck (m : Master) (n : Fin 24) (v : Word)
  /-- AGGREGATOR_HANDOFF (R198). -/
  | aggregatorHandoff
  /-- AGGREGATOR_TX_RECORD (R201). -/
  | aggregatorTxRecord
  /-- SUBMIT (R201). -/
  | submit (m : Master) (n : Fin 24) (v : Word)
  /-- BACKLOG_TO_BUFFER (R203). -/
  | backlogToBuffer (n : Fin 24)
  /-- CAN_TX_END (R203). -/
  | canTxEnd (n : Fin 24) (o : TxOutcome)
  /-- IDENTIFIER_COLLISION (R206). -/
  | identifierCollision (n : Fin 24) (dataPhase : Bool)
  /-- CANCEL (R204). -/
  | cancel (m : Master) (n : Fin 24) (b : Fin 3) (v : Word)
  /-- FLUSH (R204). -/
  | flush (m : Master) (n : Fin 24) (v : Word)
  /-- CAN_CNT_CLR (R210). -/
  | canCntClr (m : Master) (n : Fin 24) (v : Word)
  /-- TRIE_EPOCH_ADVANCE (R223). -/
  | trieEpochAdvance
  /-- AGING_SWEEP (R229). -/
  | agingSweep (changed : List Nat)
  /-- SWEEP_NOW (R237). -/
  | sweepNow (m : Master) (v : Word)
  /-- TBL_CNT_CLR (R238). -/
  | tblCntClr (m : Master) (v : Word)
  /-- CLUSTER_PORT_TAKE (R246). -/
  | clusterPortTake
  /-- INVOCATION_START (R245). -/
  | invocationStart (c : Fin 64)
  /-- KEEPER_TIMER_DUE (R263). -/
  | keeperTimerDue (r : Fin 1024) (t : Fin 4)
  /-- ADD (R251). -/
  | add (c : Fin 64) (rd rs1 rs2 : Fin 32)
  /-- SUB (R251). -/
  | sub (c : Fin 64) (rd rs1 rs2 : Fin 32)
  /-- AND (R251). -/
  | and (c : Fin 64) (rd rs1 rs2 : Fin 32)
  /-- OR (R251). -/
  | or (c : Fin 64) (rd rs1 rs2 : Fin 32)
  /-- XOR (R251). -/
  | xor (c : Fin 64) (rd rs1 rs2 : Fin 32)
  /-- SLL (R251). -/
  | sll (c : Fin 64) (rd rs1 rs2 : Fin 32)
  /-- SRL (R251). -/
  | srl (c : Fin 64) (rd rs1 rs2 : Fin 32)
  /-- SRA (R251). -/
  | sra (c : Fin 64) (rd rs1 rs2 : Fin 32)
  /-- SLT (R251). -/
  | slt (c : Fin 64) (rd rs1 rs2 : Fin 32)
  /-- SLTU (R251). -/
  | sltu (c : Fin 64) (rd rs1 rs2 : Fin 32)
  /-- MUL (R251). -/
  | mul (c : Fin 64) (rd rs1 rs2 : Fin 32)
  /-- MULH (R251). -/
  | mulh (c : Fin 64) (rd rs1 rs2 : Fin 32)
  /-- MULHU (R251). -/
  | mulhu (c : Fin 64) (rd rs1 rs2 : Fin 32)
  /-- DIV (R251). -/
  | div (c : Fin 64) (rd rs1 rs2 : Fin 32)
  /-- DIVU (R251). -/
  | divu (c : Fin 64) (rd rs1 rs2 : Fin 32)
  /-- REM (R251). -/
  | rem (c : Fin 64) (rd rs1 rs2 : Fin 32)
  /-- REMU (R251). -/
  | remu (c : Fin 64) (rd rs1 rs2 : Fin 32)
  /-- MIN (R251). -/
  | min (c : Fin 64) (rd rs1 rs2 : Fin 32)
  /-- MAX (R251). -/
  | max (c : Fin 64) (rd rs1 rs2 : Fin 32)
  /-- MINU (R251). -/
  | minu (c : Fin 64) (rd rs1 rs2 : Fin 32)
  /-- MAXU (R251). -/
  | maxu (c : Fin 64) (rd rs1 rs2 : Fin 32)
  /-- REV (R251). -/
  | rev (c : Fin 64) (rd rs1 : Fin 32)
  /-- REVH (R251). -/
  | revh (c : Fin 64) (rd rs1 : Fin 32)
  /-- ADDI (R250). -/
  | addi (c : Fin 64) (rd rs1 : Fin 32) (k : Fin 65536)
  /-- ANDI (R250). -/
  | andi (c : Fin 64) (rd rs1 : Fin 32) (k : Fin 65536)
  /-- ORI (R250). -/
  | ori (c : Fin 64) (rd rs1 : Fin 32) (k : Fin 65536)
  /-- XORI (R250). -/
  | xori (c : Fin 64) (rd rs1 : Fin 32) (k : Fin 65536)
  /-- SLTI (R250). -/
  | slti (c : Fin 64) (rd rs1 : Fin 32) (k : Fin 65536)
  /-- SLTIU (R250). -/
  | sltiu (c : Fin 64) (rd rs1 : Fin 32) (k : Fin 65536)
  /-- SLLI (R250). -/
  | slli (c : Fin 64) (rd rs1 : Fin 32) (n : Fin 32)
  /-- SRLI (R250). -/
  | srli (c : Fin 64) (rd rs1 : Fin 32) (n : Fin 32)
  /-- SRAI (R250). -/
  | srai (c : Fin 64) (rd rs1 : Fin 32) (n : Fin 32)
  /-- LUI (R250). -/
  | lui (c : Fin 64) (rd : Fin 32) (k : Fin 65536)
  /-- LPC (R250). -/
  | lpc (c : Fin 64) (rd : Fin 32) (k : Fin 65536)
  /-- LW (R250). -/
  | lw (c : Fin 64) (rd rs1 : Fin 32) (k : Fin 65536)
  /-- LH (R250). -/
  | lh (c : Fin 64) (rd rs1 : Fin 32) (k : Fin 65536)
  /-- LHU (R250). -/
  | lhu (c : Fin 64) (rd rs1 : Fin 32) (k : Fin 65536)
  /-- LB (R250). -/
  | lb (c : Fin 64) (rd rs1 : Fin 32) (k : Fin 65536)
  /-- LBU (R250). -/
  | lbu (c : Fin 64) (rd rs1 : Fin 32) (k : Fin 65536)
  /-- SW (R250). -/
  | sw (c : Fin 64) (rs2 rs1 : Fin 32) (k : Fin 65536)
  /-- SH (R250). -/
  | sh (c : Fin 64) (rs2 rs1 : Fin 32) (k : Fin 65536)
  /-- SB (R250). -/
  | sb (c : Fin 64) (rs2 rs1 : Fin 32) (k : Fin 65536)
  /-- BEQ (R252). -/
  | beq (c : Fin 64) (rs1 rs2 : Fin 32) (k : Fin 65536)
  /-- BNE (R252). -/
  | bne (c : Fin 64) (rs1 rs2 : Fin 32) (k : Fin 65536)
  /-- BLT (R252). -/
  | blt (c : Fin 64) (rs1 rs2 : Fin 32) (k : Fin 65536)
  /-- BGE (R252). -/
  | bge (c : Fin 64) (rs1 rs2 : Fin 32) (k : Fin 65536)
  /-- BLTU (R252). -/
  | bltu (c : Fin 64) (rs1 rs2 : Fin 32) (k : Fin 65536)
  /-- BGEU (R252). -/
  | bgeu (c : Fin 64) (rs1 rs2 : Fin 32) (k : Fin 65536)
  /-- J (R252). -/
  | j (c : Fin 64) (k : Fin 67108864)
  /-- JAL (R252). -/
  | jal (c : Fin 64) (k : Fin 67108864)
  /-- JR (R252). -/
  | jr (c : Fin 64) (rd rs1 : Fin 32) (k : Fin 65536)
  /-- CAS (R253). -/
  | cas (c : Fin 64) (rd rs1 rs2 : Fin 32)
  /-- AADD (R253). -/
  | aadd (c : Fin 64) (rd rs1 rs2 : Fin 32)
  /-- MCPY (R253). -/
  | mcpy (c : Fin 64) (rd rs1 rs2 : Fin 32)
  /-- BFX (R254). -/
  | bfx (c : Fin 64) (rd rs1 : Fin 32) (start : Fin 512) (len1 : Fin 32) (be sign : Bool)
  /-- BFI (R254). -/
  | bfi (c : Fin 64) (rs2 rs1 : Fin 32) (start : Fin 512) (len1 : Fin 32) (be : Bool)
  /-- CRC (R255). -/
  | crc (c : Fin 64) (rd rs1 rs2 : Fin 32) (sel : Fin 7)
  /-- SCX (R257). -/
  | scx (c : Fin 64) (rd rs1 rs2 : Fin 32) (sign : Bool) (len1 : Fin 32)
  /-- SCF (R257). -/
  | scf (c : Fin 64) (rd rs1 rs2 : Fin 32) (sign : Bool) (len1 : Fin 32)
  /-- USX (R257). -/
  | usx (c : Fin 64) (rd rs1 rs2 : Fin 32) (sign : Bool) (len1 : Fin 32)
  /-- UFS (R257). -/
  | ufs (c : Fin 64) (rd rs1 rs2 : Fin 32) (sign : Bool) (len1 : Fin 32)
  /-- SGET (R258). -/
  | sget (c : Fin 64) (rd rs1 rs2 : Fin 32)
  /-- SPUT (R259). -/
  | sput (c : Fin 64) (rd rs1 rs2 : Fin 32)
  /-- TLK (R260). -/
  | tlk (c : Fin 64) (rd rs1 rs2 : Fin 32) (type : Fin 8) (sr : Fin 32)
  /-- EMIT (R261). -/
  | emit (c : Fin 64) (rd rs1 rs2 : Fin 32)
  /-- TARM (R263). -/
  | tarm (c : Fin 64) (rd rs1 rs2 : Fin 32) (t : Fin 4) (periodic : Bool)
  /-- TARM_CANCEL (R263). -/
  | tarmCancel (c : Fin 64) (rd rs1 rs2 : Fin 32) (t : Fin 4) (periodic : Bool)
  /-- HSET (R264). -/
  | hset (c : Fin 64) (rd rs1 rs2 : Fin 32)
  /-- CIPH (R265). -/
  | ciph (c : Fin 64) (rd rs1 : Fin 32)
  /-- NOP (R267). -/
  | nop (c : Fin 64)
  /-- TNOW (R267). -/
  | tnow (c : Fin 64) (pair : Fin 15)
  /-- RND (R267). -/
  | rnd (c : Fin 64) (rd : Fin 32)
  /-- BUDL (R267). -/
  | budl (c : Fin 64) (rd : Fin 32)
  /-- WHO (R267). -/
  | who (c : Fin 64) (rd : Fin 32)
  /-- DONE (R270). -/
  | done (c : Fin 64)
  /-- ABANDON (R268). -/
  | abandon (c : Fin 64)
  /-- DONE_WAIT_END (R270). -/
  | doneWaitEnd (c : Fin 64)
  /-- RESUME (R274). -/
  | resume (m : Master) (v : Word)
  /-- ROUTINE_CLR (R276). -/
  | routineClr (m : Master) (v : Word)
  /-- KPR_CNT_CLR (R276). -/
  | kprCntClr (m : Master) (v : Word)
  /-- MAP_COMMIT (R290). -/
  | mapCommit
  /-- MIGRATION (R293). -/
  | migration (pause : Nat)
  /-- MOBILE_HOST_CHOICE (R298). -/
  | mobileHostChoice (head : Fin 32) (reports : List MobileReport)
  /-- PERSISTENT_BLOCK_SAVE (R280). -/
  | persistentBlockSave
  /-- PLC_CNT_CLR (R302). -/
  | plcCntClr (m : Master) (v : Word)
  /-- HELLO_SEND (R307). -/
  | helloSend (p : Fin 8)
  /-- HELLO (R308). -/
  | hello
  /-- HELLO_TIMEOUT (R309). -/
  | helloTimeout (p : Fin 8)
  /-- HEAD_INPUT_CHANGE (R310). -/
  | headInputChange (level : Bool)
  /-- LSA (R316). -/
  | lsa (l : Lsa)
  /-- LSA_SEND (R310). -/
  | lsaSend
  /-- SETTLE_END (R313). -/
  | settleEnd
  /-- ASSIGN (R313). -/
  | assign (a : Assign) (rep : Nat)
  /-- ASSIGN_REPEAT (R313). -/
  | assignRepeat
  /-- ACK (R313). -/
  | ack (id epoch rep : Nat)
  /-- COMMIT (R313). -/
  | commit (a : Assign)
  /-- FABRIC_FRAME_FORWARD (R317). -/
  | fabricFrameForward
  /-- EPOCH_HOLD_EXPIRY (R317). -/
  | epochHoldExpiry
  /-- MSG (R322). -/
  | msg (forwarded : Bool)
  /-- CMD_FRAME (R441). -/
  | cmdFrame
  /-- RA_READ (R326). -/
  | raRead
  /-- RA_POSTED_WRITE (R325). -/
  | raPostedWrite
  /-- RA_RSP (R324). -/
  | raRsp
  /-- RA_FETCH_DONE (R326). -/
  | raFetchDone (n : Fin 16)
  /-- READ_SLOT_EXPIRY (R326). -/
  | readSlotExpiry (n : Fin 16)
  /-- RA_READ_REISSUE (R326). -/
  | raReadReissue (tag : Nat)
  /-- RA_WRITE_RESEND (R325). -/
  | raWriteResend (d : Fin 32)
  /-- RA_TIMEOUT (R331). -/
  | raTimeout (tag : Nat)
  /-- APERTURE_ACCESS (R335). -/
  | apertureAccess (off : Fin 67108864) (write : Bool) (n : Nat) (data : List Word)
  /-- GO (R332). -/
  | go (m : Master) (v : Word)
  /-- SIGNAL (R332). -/
  | signal
  /-- REDISCOVER (R338). -/
  | rediscover (m : Master) (v : Word)
  /-- FAB_CNT_CLR (R339). -/
  | fabCntClr (m : Master) (v : Word)
  /-- REQ (R347). -/
  | req (m : Master) (v : Word)
  /-- RELEASE (R347). -/
  | release (m : Master) (v : Word)
  /-- LOCK_GRANT (R347). -/
  | lockGrant
  /-- LOCK_TIMEOUT (R349). -/
  | lockTimeout (c : Fin 64)
  /-- HOLD_EXCEEDED (R348). -/
  | holdExceeded
  /-- ENGINE_GO (R352). -/
  | engineGo (m : Master) (v : Word)
  /-- CIPHER_OPERATION_END (R350). -/
  | cipherOperationEnd
  /-- UNWRAP (R345). -/
  | unwrap
  /-- WRAP (R344). -/
  | wrap
  /-- DERIVE (R344). -/
  | derive
  /-- GENERATE (R344). -/
  | generate
  /-- ERASE (R354). -/
  | erase
  /-- RNG_ACK (R356). -/
  | rngAck (m : Master) (v : Word)
  /-- TRNG_HEALTH_FAIL (R356). -/
  | trngHealthFail
  /-- DRBG_RESEED (R356). -/
  | drbgReseed
  /-- SEC_CNT_CLR (R359). -/
  | secCntClr (m : Master) (v : Word)
  /-- VERIFY (R386). -/
  | verify
  /-- ATTEST_SIGN (R384). -/
  | attestSign
  /-- INIT (R386). -/
  | init (m : Master) (v : Word)
  /-- UPDATE (R386). -/
  | update (m : Master) (v : Word)
  /-- FINAL (R386). -/
  | final (m : Master) (v : Word)
  /-- INSTALL_BLOCK_COPY (R376). -/
  | installBlockCopy
  /-- FUSE_BURN (R373). -/
  | fuseBurn (ok : Bool)
  /-- WARDEN_HANDOVER (R377). -/
  | wardenHandover (outcome : Fin 3) (pause : Nat)
  /-- PATROL_READ (R413). -/
  | patrolRead (mem : Fin 83) (a : Nat) (result : Fin 3) (written : Bool) (u : PatrolUnit)
  /-- MRAM_WRITE (R417). -/
  | mramWrite (off : Fin 16777216) (bs : List Byte) (fails : Fin 5)
  /-- OPERATING_HOUR (R419). -/
  | operatingHour
  /-- SCRUB_SLICE (R419). -/
  | scrubSlice (n : Fin 65537)
  /-- EVENT_POST (R429). -/
  | eventPost (b : Fin 16)
  /-- FAULT_POLICY_ACTION (R427). -/
  | faultPolicyAction
  /-- DONE_FAULT (R423). -/
  | doneFault (m : Master) (v : Word)
  /-- HANDLE_TIMEOUT (R425). -/
  | handleTimeout
  /-- EVQ_ACK (R431). -/
  | evqAck (m : Master) (v : Word)
  /-- FLT_CLR_LOST (R435). -/
  | fltClrLost (m : Master) (v : Word)
  /-- FLT_CLR_SRC (R435). -/
  | fltClrSrc (m : Master) (v : Word)
  /-- FLT_CLR_ECC (R435). -/
  | fltClrEcc (m : Master) (v : Word)
  /-- PROD (R437). -/
  | prod (m : Master) (v : Word)
  /-- CMD_ACK (R438). -/
  | cmdAck (m : Master) (v : Word)
  /-- NOP_COMMAND (R445). -/
  | nopCommand
  /-- READ_IDENTITY (R382). -/
  | readIdentity
  /-- RESET (R443). -/
  | reset
  /-- SLEEP (R69). -/
  | sleep
  /-- SWITCH_PROFILE (R448). -/
  | switchProfile
  /-- SWITCH_INSTANT (R449). -/
  | switchInstant
  /-- SET_START_OPTIONS (R65). -/
  | setStartOptions
  /-- SET_POLDERS (R453). -/
  | setPolders
  /-- ADMIT_STREAM (R137). -/
  | admitStream
  /-- REMOVE_STREAM (R138). -/
  | removeStream
  /-- ADD_TRIE_ENTRY (R222). -/
  | addTrieEntry
  /-- REMOVE_TRIE_ENTRY (R223). -/
  | removeTrieEntry
  /-- ADD_MAC_ENTRY (R445). -/
  | addMacEntry
  /-- REMOVE_MAC_ENTRY (R445). -/
  | removeMacEntry
  /-- FLUSH_MAC_TABLE (R445). -/
  | flushMacTable
  /-- RESUME_ROUTINE (R274). -/
  | resumeRoutine
  /-- SET_KEEPER_POLDERS (R290). -/
  | setKeeperPolders
  /-- WRITE_IMAGE_CHUNK (R374). -/
  | writeImageChunk
  /-- INSTALL_IMAGE (R376). -/
  | installImage
  /-- LOAD_BUNDLE (R379). -/
  | loadBundle
  /-- PROGRAM_CUSTOMER_ROOT (R361). -/
  | programCustomerRoot
  /-- REVOKE_CUSTOMER_ROOT (R361). -/
  | revokeCustomerRoot
  /-- ATTEST (R383). -/
  | attest
  /-- SCRUB_MRAM (R419). -/
  | scrubMram
  /-- SET_REMOTE_ACCESS (R323). -/
  | setRemoteAccess
  /-- EXT_RST_N_HIGH (R78). -/
  | extRstNHigh
  /-- APERTURE_READ_TIMEOUT (R335). -/
  | apertureReadTimeout (tag : Nat)
  /-- CAN_CTL_RECOVER (R189). -/
  | canCtlRecover (m : Master) (n : Fin 24) (v : Word)
  /-- ILLEGAL_INSTRUCTION (R249). -/
  | illegalInstruction (c : Fin 64)
  /-- SYNC_INTERVAL (R177). -/
  | syncInterval
  /-- PEER_DELAY_MEASUREMENT (R177). -/
  | peerDelayMeasurement
  deriving DecidableEq, Repr

end Sys2Proof
end

