-- ==== Sys2Proof/Decode.lean ====
section
/-! DEFINITION. Words that spell a command: the opcode table gives none of its rows any bits. -/

namespace Sys2Proof

/-- The command that a word of `nbits` bits spells by the opcode table: none, as no row has bits. -/
def decodeTableWord (_nbits _w : Nat) : Option Instr := none

end Sys2Proof
end

