-- ==== Sys2Proof/Machine/Bits.lean ====
section
/-! DEFINITION. Bit fields, byte order, saturation and sparse tables: the plain helpers every block uses. -/

namespace Sys2Proof.Machine

/-- A register field, written `[hi:lo]` in the manual (bit 0 is the least significant). -/
structure Fld where
  hi : Nat
  lo : Nat
  deriving DecidableEq, Repr

def Fld.width (f : Fld) : Nat := f.hi + 1 - f.lo

/-- The field's value in a word. -/
def Fld.get (f : Fld) (w : Word) : Nat := (w.toNat >>> f.lo) % 2 ^ f.width

/-- The word with the field replaced by `v` (cut to the field's width). -/
def Fld.put (f : Fld) (w : Word) (v : Nat) : Word :=
  BitVec.ofNat 32 (w.toNat - (f.get w) * 2 ^ f.lo + (v % 2 ^ f.width) * 2 ^ f.lo)

/-- Bits `[hi:lo]` of a number. -/
def bits (hi lo n : Nat) : Nat := (n >>> lo) % 2 ^ (hi + 1 - lo)

/-- Bit `i` of a number. -/
def bit (i n : Nat) : Bool := n.testBit i

def boolNat (b : Bool) : Nat := if b then 1 else 0

/-- The number with bit `i` set or cleared. -/
def withBit (n i : Nat) (b : Bool) : Nat :=
  if n.testBit i = b then n else if b then n + 2 ^ i else n - 2 ^ i

/-- The two's complement reading of the low `w` bits. -/
def signed (w n : Nat) : Int :=
  let m := n % 2 ^ w
  if m < 2 ^ (w - 1) then (m : Int) else (m : Int) - (2 ^ w : Nat)

/-- The low `w` bits of a signed number in two's complement. -/
def unsigned (w : Nat) (i : Int) : Nat := (i % ((2 ^ w : Nat) : Int)).toNat

/-- A counter saturates at its all-ones value (R11). -/
def satAdd (w a b : Nat) : Nat := min (a + b) (2 ^ w - 1)

def clampNat (lo hi v : Nat) : Nat := min hi (max lo v)

/-- Little-endian: the number's `n` low bytes, lowest first (R6). -/
def leBytes : Nat → Nat → List Byte
  | 0, _ => []
  | n + 1, v => BitVec.ofNat 8 v :: leBytes n (v / 256)

/-- Little-endian: the number that the bytes hold, lowest first. -/
def leNat : List Byte → Nat
  | [] => 0
  | b :: bs => b.toNat + 256 * leNat bs

/-- Big-endian (network order): the number that the bytes hold, highest first. -/
def beNat (bs : List Byte) : Nat := bs.foldl (fun a b => a * 256 + b.toNat) 0

/-- Big-endian: the number as `n` bytes, highest first. -/
def beBytes (n v : Nat) : List Byte := (leBytes n v).reverse

/-- `n` bytes of a list from offset `o`. -/
def slice (o n : Nat) (bs : List Byte) : List Byte := (bs.drop o).take n

/-- The bytes padded with zeros, or cut, to length `n`. -/
def padTo (n : Nat) (bs : List Byte) : List Byte := bs.take n ++ List.replicate (n - bs.length) 0

/-- A sparse table: (key, value) pairs in strictly rising key order, no entry equal to what an unlisted key reads as. -/
abbrev Tab (α : Type) := List (Nat × α)

/-- Read a table; an unlisted key reads as `d`. -/
def tget {α : Type} (d : α) : Tab α → Nat → α
  | [], _ => d
  | (j, v) :: t, k => if j = k then v else tget d t k

/-- Put an entry in its place by key. -/
def tput {α : Type} : Tab α → Nat → α → Tab α
  | [], k, v => [(k, v)]
  | (j, w) :: t, k, v =>
    if k < j then (k, v) :: (j, w) :: t
    else if k = j then (k, v) :: t
    else (j, w) :: tput t k v

/-- Remove the entry of a key. -/
def tdel {α : Type} (t : Tab α) (k : Nat) : Tab α := t.filter (fun e => e.1 != k)

/-- Write a table; a value equal to what an unlisted key reads as leaves no entry. -/
def tset {α : Type} [DecidableEq α] (d : α) (t : Tab α) (k : Nat) (v : α) : Tab α :=
  if v = d then tdel t k else tput t k v

/-- Change one entry of a table. -/
def tmod {α : Type} [DecidableEq α] (d : α) (t : Tab α) (k : Nat) (f : α → α) : Tab α :=
  tset d t k (f (tget d t k))

/-- Keys rise strictly and no entry is a default: the canonical form. -/
def twf {α : Type} [DecidableEq α] (d : Nat → α) : Tab α → Bool
  | [] => true
  | [(k, v)] => v != d k
  | (k, v) :: (j, w) :: t => v != d k && decide (k < j) && twf d ((j, w) :: t)

/-- The first index below `n` for which `p` holds, counting up from `i`. -/
def findFrom (p : Nat → Bool) : Nat → Nat → Option Nat
  | 0, _ => none
  | n + 1, i => if p i then some i else findFrom p n (i + 1)

/-- The indices of the bits set in a number, below `n`. -/
def bitsOf (n m : Nat) : List Nat := (List.range n).filter (fun i => m.testBit i)

/-- The bit mask of a list of indices. -/
def maskOf (l : List Nat) : Nat := l.foldl (fun m i => withBit m i true) 0

/-- A list with its element at `i` replaced by `f` of it. -/
def modAt {α : Type} (l : List α) (i : Nat) (f : α → α) : List α := l.modify i f

/-! The dike link (R388, R389) -/

/-- The CRC-8 of R388: polynomial 0x2F, initial value 0xFF, final XOR 0xFF, over the 56 bits before it, most significant
bit first. -/
def crc8 (n : Nat) : Nat :=
  ((List.range 56).foldl (fun c i =>
    let top := (c.testBit 7 != n.testBit (55 - i))
    let sh := c * 2 % 256
    if top then Nat.xor sh 0x2F else sh) 0xFF) ^^^ 0xFF

/-- A frame of the register path: command, sequence number, offset, data, CRC-8, most significant bit first. -/
def dikeFrame (cmd seq off data : Nat) : DWord :=
  let body := ((cmd % 16 * 16 + seq % 16) * 2 ^ 16 + off % 2 ^ 16) * 2 ^ 32 + data % 2 ^ 32
  BitVec.ofNat 64 (body * 256 + crc8 body)

def dikeGood (f : DWord) : Bool := crc8 (f.toNat / 256) == f.toNat % 256

end Sys2Proof.Machine
end

