-- ==== Sys2Proof/Machine/Crc.lean ====
section
/-! DEFINITION. The cyclic redundancy checks that the manual names: CRC-32 of the Ethernet FCS and CRC-32C (R149). -/

namespace Sys2Proof.Machine

/-- One bit step of a reflected CRC. -/
def crcBit (poly c : Nat) : Nat := if c.testBit 0 then Nat.xor (c / 2) poly else c / 2

/-- One byte of a reflected CRC. -/
def crcByte (poly c : Nat) (b : Byte) : Nat :=
  let x := Nat.xor c b.toNat
  crcBit poly (crcBit poly (crcBit poly (crcBit poly (crcBit poly (crcBit poly (crcBit poly (crcBit poly x)))))))

/-- A reflected 32-bit CRC with initial value and final XOR 0xFFFF_FFFF. -/
def crc32With (poly : Nat) (bs : List Byte) : Nat :=
  Nat.xor (bs.foldl (crcByte poly) 0xFFFFFFFF) 0xFFFFFFFF

/-- The Ethernet FCS, CRC-32 of IEEE 802.3. -/
def crc32 (bs : List Byte) : Nat := crc32With 0xEDB88320 bs

/-- CRC-32C with the parameters of R149. -/
def crc32c (bs : List Byte) : Nat := crc32With 0x82F63B78 bs

/-- The FCS as it is sent: low byte first. -/
def fcsBytes (bs : List Byte) : List Byte := leBytes 4 (crc32 bs)

/-- The step of the 32-bit drop register of R95: polynomial x^32 + x^22 + x^2 + x + 1, Fibonacci form. -/
def lfsrStep (r : Nat) : Nat :=
  let fb := (r.testBit 31 != r.testBit 21) != (r.testBit 1 != r.testBit 0)
  r * 2 % 2 ^ 32 + boolNat fb

end Sys2Proof.Machine
end

