-- ==== Sys2Proof/Config.lean ====
section
/-! DEFINITION. What one chip fixes, and the free values: constants without a body, so that no proof can see a value. -/

namespace Sys2Proof.Machine.Config

/-- The node covers of the trie: bytes that read 0xFF until they are written (assumption 4). -/
def coversBase : Nat := 0x304B9000
def coversEnd : Nat := 0x304B9800

/-- Which free storage slot a posting takes (R428 does not say). -/
opaque freeSlotPick : Nat → Nat

/-- The repaired column of a macro's repair entry 0 to 3, where the entry is in use (R416, R472). -/
opaque repairedColumn : Nat → Nat → Option (Fin 576)

/-- Spare MRAM lines that production test has used, at most 24 of the 1,024, and the operating hours of a new part, at most 24
(R418, R472). -/
opaque mramTested : Fin 25
opaque mramShipped : Fin 25
def mramSpareFree : Nat := 1024 - mramTested.val
def mramHours : Nat := mramShipped.val

/-- The rate that the firmware servo chooses for an offset (R37 leaves the servo open). -/
opaque servoRate : Nat → Word

/-- The need of a monitor that the firmware computes from the placement map's words and the bytes of the admitted streams: R45
gives no formula. -/
opaque needOf : List (Nat × Word) → List (Nat × Byte) → Nat → BitVec 16

/-- Whether the tide PLL has locked at a reading (R53). -/
opaque pllLocked : Nat → Bool

/-- What a diagnostic window shows of a buffer bank: the manual does not say where in it a cell lies (R26). -/
opaque bankWord : Nat → Nat → DWord

/-- Bytes of a frame that had arrived when its input port lost its link (R109). -/
opaque lostBytes : Nat → Nat

/-- Bytes of a frame that had left its port when the frame was ended (R99, R169). -/
opaque sentBytes : Nat → Nat

/-- An entry of the firmware's own signals at a reading: the manual says what they are about, not where each lies (R233). -/
opaque ownSignal : Nat → Nat → Nat

/-- COLLIDE responses to the writes of one spilled frame (R91 leaves the cycles open). -/
opaque spillCollisions : Nat → Nat

/-- Whether a copy beyond the guaranteed number comes too late for the write port (R94). -/
opaque copyLate : Nat → Bool

/-- Random words: the DRBG's outputs (R356). -/
opaque drbgWord : Nat → Word

/-- Time of a hash update, in ns, which R386 bounds. -/
opaque shaNs : Nat → Nat

/-- Root keys in OTP: 64 the device key, 66 the bundle key, 67 the debug authentication key (R343). -/
opaque rootKey : Nat → List Byte

/-- The customer key-encryption key in OTP, where the customer has programmed one (R343). -/
opaque customerKek : Option (List Byte)

/-- Modulus and secret exponent of the attestation key, where one is present (R384, R386). -/
opaque attestKey : Option (Nat × Nat)

/-- What a report has in place of a signature where the attestation key is absent (R383 gives nothing). -/
opaque noSignature : List Byte

/-- Grade, silicon step less 1, and serial number less 1 of the part (R381). -/
opaque devicePart : Fin 2 × Fin 15 × Fin 1099511627775

/-- The gPTP time of the scrub pass before shipping (R419). -/
opaque mramTestTime : Nat

/-- The device certificate in the boot record: an X.509 certificate that names the subject serial number and the public key
(R382). -/
opaque certificateOf : List Byte → Option Nat → List Byte

/-- Vendor ID of the PCIe endpoint, which the manual does not give (R333). -/
opaque vendorId : BitVec 16

/-- The other words of the endpoint's configuration space (R333). -/
opaque configWord : Nat → Word

/-- Keys that the hardware derives: slot 66 from slot 64 and the customer root hashes, and that of the sub-counter's CMAC from slot 64
(R343, R370). -/
opaque bundleKey : List Byte → List (List Byte) → List Byte
opaque subKey : List Byte → List Byte

/-- Whether an MRAM word that holds what a failed write left reads as uncorrectable (R415, R418). -/
opaque failedWord : Nat → Bool

/-- The device identifier in OTP (R381). -/
def deviceId : Nat :=
  0x9640 * 2 ^ 48 + 2 ^ 40 + 2 ^ 44 * devicePart.1.val + 2 ^ 40 * devicePart.2.1.val + (devicePart.2.2.val + 1)

/-- A hexadecimal digit in ASCII. -/
def hexDigit (n : Nat) : Byte := BitVec.ofNat 8 (if n < 10 then 48 + n else 55 + n)

/-- The subject serial number: the device identifier in hexadecimal (R382). -/
def serialName : List Byte := (List.range 16).map (fun i => hexDigit (deviceId / 16 ^ (15 - i) % 16))

def certificate : List Byte := certificateOf serialName (attestKey.map (fun k => k.1))

/-- Bytes of a flooded fabric frame: the manual gives them no layout (R310, R313). -/
opaque fabBytes : Nat → List Byte

/-- Bytes of the bodies of gPTP messages, which the warden firmware's stack fills in (R177). -/
opaque gptpBytes : Nat → List Byte

/-- The tag that the firmware gives such a frame (R177). -/
opaque gptpTag : Nat → BitVec 16

/-- Block, less 1, and cause, less 1, of the class 7 fault that a handover failing after the switch of halves is: R378 gives no
code, R12 the blocks and the causes that a code can have. -/
opaque handoverBlock : Fin 16
opaque handoverCause : Fin 255
def handoverEvent : Nat := (handoverBlock.val + 1) * 256 + handoverCause.val + 1

/-- REC after a good frame at a receiver above 127: ISO 11898-1 allows 119 to 127 (R189). -/
opaque recAfterPassive : Nat → Nat

/-- A routine's default argument, which "the bundle" gives in no field of its layout (R244, R278). -/
opaque defaultArg : Nat → Word

/-- TLK with one register for result and status: whether the status is what stands (R260). -/
opaque tlkStatusStands : Bool

/-- Data bits of the bank die's answer to a write, which R388 leaves open. -/
opaque dikeData : Nat → Word

/-- What an MRAM word holds after a write that failed with no spare line left (R418). -/
opaque failedCell : Nat → Byte

end Sys2Proof.Machine.Config
end

