-- ==== Sys2Proof/Machine/RegMap.lean ====
section
/-! DEFINITION. The register map: the address of every register of the manual, its fields, its reset value and what a
write does to each field (R8, R10, R26, R30, R471). Names are the manual's; an index that the manual writes as a letter is
an argument. -/

namespace Sys2Proof.Machine

def HLT_TIDE_TIME_LO : Nat := 0x20010000
def HLT_TIDE_TIME_LO_ns_lo : Fld := ⟨31, 0⟩
def HLT_TIDE_TIME_HI : Nat := 0x20010004
def HLT_TIDE_TIME_HI_ns_hi : Fld := ⟨31, 0⟩
def HLT_TIDE_RATE : Nat := 0x20010008
def HLT_TIDE_RATE_rate_adj : Fld := ⟨31, 0⟩
def HLT_TIDE_STEP_LO : Nat := 0x20010010
def HLT_TIDE_STEP_LO_step : Fld := ⟨31, 0⟩
def HLT_TIDE_STEP_HI : Nat := 0x20010014
def HLT_TIDE_STEP_HI_step : Fld := ⟨31, 0⟩
def HLT_TIDE_CTL : Nat := 0x20010018
def HLT_TIDE_CTL_step_go : Fld := ⟨0, 0⟩
def HLT_TIDE_CTL_holdover : Fld := ⟨1, 1⟩
def HLT_TIDE_STATUS : Nat := 0x2001001C
def HLT_TIDE_STATUS_step_done : Fld := ⟨0, 0⟩
def HLT_TIDE_STATUS_rate_clamped : Fld := ⟨1, 1⟩
def HLT_TIDE_STATUS_pll_locked : Fld := ⟨2, 2⟩
def HLT_GOV_CTL : Nat := 0x20010100
def HLT_GOV_CTL_enable : Fld := ⟨0, 0⟩
def HLT_GOV_CTL_need_swap : Fld := ⟨1, 1⟩
def HLT_GOV_CTL_period : Fld := ⟨15, 8⟩
def HLT_GOV_CTL_floor_pct : Fld := ⟨23, 16⟩
def HLT_GOV_CTL_lower_pct : Fld := ⟨31, 24⟩
def HLT_GOV_CTL2 : Nat := 0x20010104
def HLT_GOV_CTL2_fixed_mv : Fld := ⟨9, 0⟩
def HLT_GOV_CTL2_vmin_mv : Fld := ⟨19, 10⟩
def HLT_GOV_CTL2_dwell : Fld := ⟨27, 20⟩
def HLT_GOV_STATUS : Nat := 0x20010108
def HLT_GOV_STATUS_vcore_cmd_mv : Fld := ⟨9, 0⟩
def HLT_GOV_STATUS_worst_mon : Fld := ⟨15, 10⟩
def HLT_GOV_STATUS_min_margin : Fld := ⟨27, 16⟩
def HLT_GOV_STATUS_at_vmax : Fld := ⟨28, 28⟩
def HLT_GOV_STATUS_headroom_alarm : Fld := ⟨29, 29⟩
def HLT_GOV_STATUS_load_not_met : Fld := ⟨30, 30⟩
def HLT_PMB_CFG : Nat := 0x20010110
def HLT_PMB_CFG_addr : Fld := ⟨6, 0⟩
def HLT_PMB_CFG_fast_plus : Fld := ⟨8, 8⟩
def HLT_PMB_CFG_clr_counts : Fld := ⟨9, 9⟩
def HLT_PMB_STATUS : Nat := 0x20010114
def HLT_PMB_STATUS_err_count : Fld := ⟨15, 0⟩
def HLT_PMB_STATUS_link_lost : Fld := ⟨16, 16⟩
def HLT_PMB_STATUS_reg_fault : Fld := ⟨17, 17⟩
def HLT_PMB_STATUS_mode_refused : Fld := ⟨18, 18⟩
def HLT_PMB_STATUS_vmismatch : Fld := ⟨19, 19⟩
def HLT_RATE_NEED (n : Nat) : Nat := 0x20010200 + 4 * n
def HLT_RATE_NEED_need_active : Fld := ⟨15, 0⟩
def HLT_RATE_NEED_need_next : Fld := ⟨31, 16⟩
def HLT_RATE_MEAS (n : Nat) : Nat := 0x20010300 + 4 * n
def HLT_RATE_MEAS_rate : Fld := ⟨15, 0⟩
def HLT_RATE_MEAS_excluded : Fld := ⟨16, 16⟩
def HLT_RATE_MEAS_fault : Fld := ⟨17, 17⟩
def HLT_TEMP (n : Nat) : Nat := 0x20010400 + 4 * n
def HLT_TEMP_temp : Fld := ⟨11, 0⟩
def HLT_TEMP_valid : Fld := ⟨12, 12⟩
def HLT_TEMP_max_hold : Fld := ⟨27, 16⟩
def HLT_TEMP_LIM : Nat := 0x20010480
def HLT_TEMP_LIM_warn : Fld := ⟨7, 0⟩
def HLT_TEMP_LIM_limit : Fld := ⟨15, 8⟩
def HLT_TEMP_LIM_crit : Fld := ⟨23, 16⟩
def HLT_TEMP_LIM_clr_max : Fld := ⟨24, 24⟩
def HLT_VMON (n : Nat) : Nat := 0x20010500 + 4 * n
def HLT_VMON_mv : Fld := ⟨11, 0⟩
def HLT_VMON_low : Fld := ⟨12, 12⟩
def HLT_VMON_high : Fld := ⟨13, 13⟩
def HLT_VMON_LIM (n : Nat) : Nat := 0x20010540 + 4 * n
def HLT_VMON_LIM_lo_mv : Fld := ⟨11, 0⟩
def HLT_VMON_LIM_hi_mv : Fld := ⟨27, 16⟩
def SYS_RESET_CAUSE : Nat := 0x20000200
def SYS_RESET_CAUSE_cause : Fld := ⟨3, 0⟩
def SYS_RESET_CAUSE_fatal_count : Fld := ⟨7, 4⟩
def SYS_RESET_CAUSE_reduced : Fld := ⟨8, 8⟩
def SYS_RESET_CAUSE_thermal_wait : Fld := ⟨9, 9⟩
def SYS_RESET_CAUSE_fatal_event : Fld := ⟨31, 16⟩
def SYS_BOOT_STATUS : Nat := 0x20000204
def SYS_BOOT_STATUS_phase : Fld := ⟨2, 0⟩
def SYS_BOOT_STATUS_psel : Fld := ⟨4, 3⟩
def SYS_BOOT_STATUS_head : Fld := ⟨5, 5⟩
def SYS_BOOT_STATUS_profile : Fld := ⟨7, 6⟩
def SYS_BOOT_STATUS_fallback_used : Fld := ⟨8, 8⟩
def SYS_BOOT_STATUS_supply_retries : Fld := ⟨10, 9⟩
def SYS_BOOT_MARK (n : Nat) : Nat := 0x20000210 + 4 * n
def SYS_BOOT_MARK_ns : Fld := ⟨31, 0⟩
def SWC_CTL : Nat := 0x20030000
def SWC_CTL_iter : Fld := ⟨1, 0⟩
def SWC_STATUS : Nat := 0x20030004
def SWC_STATUS_berm_refused : Fld := ⟨0, 0⟩
def SWC_STATUS_rec_exhausted : Fld := ⟨1, 1⟩
def SWC_PORT_HOLD : Nat := 0x20030008
def SWC_PORT_HOLD_hold_us : Fld := ⟨16, 0⟩
def SWC_MC_CTL : Nat := 0x2003000C
def SWC_MC_CTL_residue_us : Fld := ⟨16, 0⟩
def SWC_LIFE (t : Nat) : Nat := 0x20030020 + 4 * t
def SWC_LIFE_life_us : Fld := ⟨19, 0⟩
def SWC_VOQ_CAP (t : Nat) : Nat := 0x20030040 + 4 * t
def SWC_VOQ_CAP_cap_cells : Fld := ⟨14, 0⟩
def SWC_PORT_CFG (n : Nat) : Nat := 0x20030100 + 4 * n
def SWC_PORT_CFG_en : Fld := ⟨0, 0⟩
def SWC_PORT_CFG_mc_copy : Fld := ⟨1, 1⟩
def SWC_PORT_CFG_cut : Fld := ⟨2, 2⟩
def SWC_PORT_CFG_max_cells : Fld := ⟨8, 3⟩
def SWC_BERM_LO (b : Nat) : Nat := 0x20030200 + 8 * b
def SWC_BERM_LO_tc0 : Fld := ⟨7, 0⟩
def SWC_BERM_LO_tc1 : Fld := ⟨15, 8⟩
def SWC_BERM_LO_tc2 : Fld := ⟨23, 16⟩
def SWC_BERM_LO_tc3 : Fld := ⟨31, 24⟩
def SWC_BERM_HI (b : Nat) : Nat := 0x20030204 + 8 * b
def SWC_BERM_HI_tc4 : Fld := ⟨7, 0⟩
def SWC_BERM_HI_tc5 : Fld := ⟨15, 8⟩
def SWC_BERM_HI_tc6 : Fld := ⟨23, 16⟩
def SWC_BERM_HI_tc7 : Fld := ⟨31, 24⟩
def SWC_BANK_FREE (b : Nat) : Nat := 0x20030300 + 16 * b
def SWC_BANK_FREE_free_cells : Fld := ⟨14, 0⟩
def SWC_BANK_FREE_pool : Fld := ⟨30, 16⟩
def SWC_BANK_SPILL (b : Nat) : Nat := 0x20030304 + 16 * b
def SWC_BANK_SPILL_spilling : Fld := ⟨0, 0⟩
def SWC_BANK_SPILL_target : Fld := ⟨3, 1⟩
def SWC_BANK_SPILL_no_target : Fld := ⟨4, 4⟩
def SWC_BANK_SPILL_spill_in : Fld := ⟨21, 8⟩
def SWC_BANK_BERM (b : Nat) : Nat := 0x20030308 + 16 * b
def SWC_BANK_BERM_berm_total : Fld := ⟨13, 0⟩
def SWC_BANK_COLLIDE (b : Nat) : Nat := 0x2003030C + 16 * b
def SWC_BANK_COLLIDE_collide : Fld := ⟨31, 0⟩
def SWC_SPILL_CFG : Nat := 0x20030380
def SWC_SPILL_CFG_spill_on : Fld := ⟨7, 0⟩
def SWC_SPILL_CFG_spill_off : Fld := ⟨15, 8⟩
def SWC_SPILL_CFG_spill_accept : Fld := ⟨23, 16⟩
def SWC_SPILL_CFG_spill_max : Fld := ⟨31, 24⟩
def SWC_SPILL_MASK_LO : Nat := 0x20030384
def SWC_SPILL_MASK_LO_mask_b0 : Fld := ⟨7, 0⟩
def SWC_SPILL_MASK_LO_mask_b1 : Fld := ⟨15, 8⟩
def SWC_SPILL_MASK_LO_mask_b2 : Fld := ⟨23, 16⟩
def SWC_SPILL_MASK_LO_mask_b3 : Fld := ⟨31, 24⟩
def SWC_SPILL_MASK_HI : Nat := 0x20030388
def SWC_SPILL_MASK_HI_mask_b0 : Fld := ⟨7, 0⟩
def SWC_SPILL_MASK_HI_mask_b1 : Fld := ⟨15, 8⟩
def SWC_SPILL_MASK_HI_mask_b2 : Fld := ⟨23, 16⟩
def SWC_SPILL_MASK_HI_mask_b3 : Fld := ⟨31, 24⟩
def SWC_RED_SEED : Nat := 0x20030400
def SWC_RED_SEED_seed : Fld := ⟨31, 0⟩
def SWC_RED_PROF (p k : Nat) : Nat := 0x20030800 + 16 * p + 4 * k
def SWC_RED_PROF_min : Fld := ⟨15, 0⟩
def SWC_RED_PROF_max : Fld := ⟨31, 16⟩
def SWC_RED_PROF_3 (p : Nat) : Nat := 0x2003080C + 16 * p
def SWC_RED_PROF_3_pmax_g : Fld := ⟨7, 0⟩
def SWC_RED_PROF_3_pmax_y : Fld := ⟨15, 8⟩
def SWC_RED_PROF_3_pmax_r : Fld := ⟨23, 16⟩
def SWC_RED_PROF_3_weight : Fld := ⟨27, 24⟩
def SWC_RED_SEL (o : Nat) : Nat := 0x20030900 + 4 * o
def SWC_RED_SEL_prof : Fld := ⟨31, 0⟩
def SWC_VOQ_SEL : Nat := 0x20030A00
def SWC_VOQ_SEL_index : Fld := ⟨12, 0⟩
def SWC_VOQ_DEPTH : Nat := 0x20030A04
def SWC_VOQ_DEPTH_ref_cells : Fld := ⟨14, 0⟩
def SWC_VOQ_DEPTH_active : Fld := ⟨15, 15⟩
def SWC_VOQ_DEPTH_frames : Fld := ⟨30, 16⟩
def SWC_VOQ_DEPTH_eligible : Fld := ⟨31, 31⟩
def SWC_VOQ_AGE : Nat := 0x20030A08
def SWC_VOQ_AGE_head_ns : Fld := ⟨31, 0⟩
def SWC_VOQ_BERM : Nat := 0x20030A0C
def SWC_VOQ_BERM_berm_used : Fld := ⟨6, 0⟩
def SWC_CNT (n k : Nat) : Nat := 0x20031000 + 0x40 * n + 4 * k
def SWC_CNT_CLR : Nat := 0x20031800
def SWC_CNT_CLR_port : Fld := ⟨4, 0⟩
def SWC_CNT_CLR_all : Fld := ⟨5, 5⟩
def SWC_CNT_CLR_go : Fld := ⟨6, 6⟩
def TMG_CTL : Nat := 0x20040000
def TMG_CTL_clr_gate_cnt : Fld := ⟨0, 0⟩
def TMG_CTL_clr_pol_cnt : Fld := ⟨1, 1⟩
def TMG_PORT_CLS (n : Nat) : Nat := 0x20040100 + 4 * n
def TMG_PORT_CLS_def_tc : Fld := ⟨2, 0⟩
def TMG_PORT_CLS_def_colour : Fld := ⟨4, 3⟩
def TMG_PORT_CLS_pcp_en : Fld := ⟨5, 5⟩
def TMG_PORT_CLS_pol : Fld := ⟨17, 6⟩
def TMG_PCP_MAP (n : Nat) : Nat := 0x20040200 + 4 * n
def TMG_PCP_MAP_map : Fld := ⟨23, 0⟩
def TMG_PCP_MAP_dei1_colour : Fld := ⟨25, 24⟩
def TMG_POL_SEL : Nat := 0x20040400
def TMG_POL_SEL_index : Fld := ⟨11, 0⟩
def TMG_POL_RATE : Nat := 0x20040404
def TMG_POL_RATE_rate_kbps : Fld := ⟨23, 0⟩
def TMG_POL_RATE_en : Fld := ⟨31, 31⟩
def TMG_POL_BURST : Nat := 0x20040408
def TMG_POL_BURST_burst_bytes : Fld := ⟨23, 0⟩
def TMG_POL_CMD : Nat := 0x2004040C
def TMG_POL_CMD_write : Fld := ⟨0, 0⟩
def TMG_POL_CMD_read : Fld := ⟨1, 1⟩
def TMG_POL_CMD_clr : Fld := ⟨2, 2⟩
def TMG_POL_CMD_busy : Fld := ⟨3, 3⟩
def TMG_POL_LEVEL : Nat := 0x20040410
def TMG_POL_LEVEL_level : Fld := ⟨31, 0⟩
def TMG_POL_PASS : Nat := 0x20040414
def TMG_POL_PASS_count : Fld := ⟨31, 0⟩
def TMG_POL_DROP : Nat := 0x20040418
def TMG_POL_DROP_count : Fld := ⟨31, 0⟩
def TMG_SHP_CFG (s : Nat) : Nat := 0x20041000 + 8 * s
def TMG_SHP_CFG_rate_kbps : Fld := ⟨23, 0⟩
def TMG_SHP_CFG_ovh : Fld := ⟨29, 24⟩
def TMG_SHP_CFG_en : Fld := ⟨31, 31⟩
def TMG_SHP_BURST (s : Nat) : Nat := 0x20041004 + 8 * s
def TMG_SHP_BURST_burst_bytes : Fld := ⟨23, 0⟩
def TMG_SHP_CREDIT (s : Nat) : Nat := 0x20041800 + 4 * s
def TMG_SHP_CREDIT_credit : Fld := ⟨31, 0⟩
def TMG_TT_ADDR : Nat := 0x20042000
def TMG_TT_ADDR_index : Fld := ⟨9, 0⟩
def TMG_TT_ADDR_list : Fld := ⟨10, 10⟩
def TMG_TT_ADDR_port : Fld := ⟨15, 11⟩
def TMG_TT_DATA : Nat := 0x20042004
def TMG_TT_DATA_entry : Fld := ⟨31, 0⟩
def TMG_TT_CTL (p : Nat) : Nat := 0x20042100 + 32 * p
def TMG_TT_CTL_en : Fld := ⟨0, 0⟩
def TMG_TT_CTL_list : Fld := ⟨1, 1⟩
def TMG_TT_CTL_change : Fld := ⟨2, 2⟩
def TMG_TT_CTL_pending : Fld := ⟨3, 3⟩
def TMG_TT_CTL_change_refused : Fld := ⟨4, 4⟩
def TMG_TT_CTL_write_refused : Fld := ⟨5, 5⟩
def TMG_TT_LEN (p : Nat) : Nat := 0x20042104 + 32 * p
def TMG_TT_LEN_len0 : Fld := ⟨10, 0⟩
def TMG_TT_LEN_len1 : Fld := ⟨26, 16⟩
def TMG_TT_CYCLE (p : Nat) : Nat := 0x20042108 + 32 * p
def TMG_TT_CYCLE_cycle_ns : Fld := ⟨31, 0⟩
def TMG_TT_BASE_LO (p : Nat) : Nat := 0x2004210C + 32 * p
def TMG_TT_BASE_LO_base : Fld := ⟨31, 0⟩
def TMG_TT_BASE_HI (p : Nat) : Nat := 0x20042110 + 32 * p
def TMG_TT_BASE_HI_base : Fld := ⟨31, 0⟩
def TMG_TT_CHG_LO (p : Nat) : Nat := 0x20042114 + 32 * p
def TMG_TT_CHG_LO_chg : Fld := ⟨31, 0⟩
def TMG_TT_CHG_HI (p : Nat) : Nat := 0x20042118 + 32 * p
def TMG_TT_CHG_HI_chg : Fld := ⟨31, 0⟩
def TMG_TT_LEAD (p : Nat) : Nat := 0x2004211C + 32 * p
def TMG_TT_LEAD_lead_ns : Fld := ⟨11, 0⟩
def TMG_GATE_CNT (p k : Nat) : Nat := 0x20042800 + 8 * p + 4 * k
def TMG_GATE_CNT_count : Fld := ⟨31, 0⟩
def TMG_GAUGE_CTL : Nat := 0x20043000
def TMG_GAUGE_CTL_en : Fld := ⟨0, 0⟩
def TMG_GAUGE_CTL_period_us : Fld := ⟨17, 8⟩
def TMG_GAUGE_CTL_clr_wm : Fld := ⟨18, 18⟩
def TMG_GAUGE_CTL_clr_hist : Fld := ⟨19, 19⟩
def TMG_WM_SEL : Nat := 0x20043004
def TMG_WM_SEL_index : Fld := ⟨12, 0⟩
def TMG_WM_DEPTH : Nat := 0x20043008
def TMG_WM_DEPTH_max_cells : Fld := ⟨14, 0⟩
def TMG_WM_DELAY : Nat := 0x2004300C
def TMG_WM_DELAY_max_ns : Fld := ⟨31, 0⟩
def TMG_HIST_SEL (h : Nat) : Nat := 0x20043100 + 4 * h
def TMG_HIST_SEL_index : Fld := ⟨12, 0⟩
def TMG_HIST_SEL_agg : Fld := ⟨13, 13⟩
def TMG_HIST_SEL_u : Fld := ⟨18, 14⟩
def TMG_HIST_SEL_en : Fld := ⟨31, 31⟩
def TMG_HIST_DEPTH (h k : Nat) : Nat := 0x20044000 + 0x80 * h + 4 * k
def TMG_HIST_DEPTH_samples : Fld := ⟨31, 0⟩
def TMG_HIST_DELAY (h k : Nat) : Nat := 0x20044040 + 0x80 * h + 4 * k
def TMG_HIST_DELAY_samples : Fld := ⟨31, 0⟩
def CSG_CTL : Nat := 0x20060000
def CSG_CTL_en : Fld := ⟨0, 0⟩
def CSG_CTL_time_valid : Fld := ⟨1, 1⟩
def CSG_STATUS : Nat := 0x20060004
def CSG_STATUS_any_fault : Fld := ⟨0, 0⟩
def CSG_STATUS_table_full : Fld := ⟨1, 1⟩
def CSG_STATUS_frer_full : Fld := ⟨2, 2⟩
def CSG_SRC_MAC_LO : Nat := 0x20060008
def CSG_SRC_MAC_LO_mac : Fld := ⟨31, 0⟩
def CSG_SRC_MAC_HI : Nat := 0x2006000C
def CSG_SRC_MAC_HI_mac : Fld := ⟨15, 0⟩
def CSG_REFUSED : Nat := 0x20060010
def CSG_REFUSED_count : Fld := ⟨31, 0⟩
def CSG_CNT_CLR : Nat := 0x20060020
def CSG_CNT_CLR_guards : Fld := ⟨0, 0⟩
def CSG_CNT_CLR_frer : Fld := ⟨1, 1⟩
def CSG_CNT_CLR_refused : Fld := ⟨2, 2⟩
def CSG_FRER_SEL : Nat := 0x20060100
def CSG_FRER_SEL_ctx : Fld := ⟨8, 0⟩
def CSG_FRER_STAT : Nat := 0x20060108
def CSG_FRER_STAT_take_any : Fld := ⟨0, 0⟩
def CSG_FRER_STAT_silent : Fld := ⟨4, 1⟩
def CSG_FRER_CNT (k : Nat) : Nat := 0x20060110 + 4 * k
def CSG_FRER_CNT_count : Fld := ⟨31, 0⟩
def CSG_G_CFG (g : Nat) : Nat := 0x20061000 + 0x40 * g
def CSG_G_CFG_en : Fld := ⟨0, 0⟩
def CSG_G_CFG_handle : Fld := ⟨14, 1⟩
def CSG_G_CFG_bmode : Fld := ⟨15, 15⟩
def CSG_G_CFG_o_mon : Fld := ⟨20, 16⟩
def CSG_G_CFG_act_msg : Fld := ⟨21, 21⟩
def CSG_G_CFG_act_redir : Fld := ⟨22, 22⟩
def CSG_G_CFG_auto_revert : Fld := ⟨23, 23⟩
def CSG_G_BACKUP (g : Nat) : Nat := 0x20061004 + 0x40 * g
def CSG_G_BACKUP_backup : Fld := ⟨13, 0⟩
def CSG_G_BACKUP_backup_en : Fld := ⟨14, 14⟩
def CSG_G_SAMPLE (g : Nat) : Nat := 0x20061008 + 0x40 * g
def CSG_G_SAMPLE_offset : Fld := ⟨13, 0⟩
def CSG_G_SAMPLE_len_m1 : Fld := ⟨19, 14⟩
def CSG_G_SAMPLE_samp_first : Fld := ⟨27, 20⟩
def CSG_G_SAMPLE_count_m1 : Fld := ⟨31, 28⟩
def CSG_G_MARK (g : Nat) : Nat := 0x2006100C + 0x40 * g
def CSG_G_MARK_mk_off : Fld := ⟨13, 0⟩
def CSG_G_MARK_mk_mask : Fld := ⟨21, 14⟩
def CSG_G_FRZ (g : Nat) : Nat := 0x20061010 + 0x40 * g
def CSG_G_FRZ_frz_max : Fld := ⟨9, 0⟩
def CSG_G_FRZ_acq_vf : Fld := ⟨19, 10⟩
def CSG_G_FRZ_clear_vf : Fld := ⟨29, 20⟩
def CSG_G_LOSS (g : Nat) : Nat := 0x20061014 + 0x40 * g
def CSG_G_LOSS_loss_max : Fld := ⟨15, 0⟩
def CSG_G_LOSS_loss_win_ms : Fld := ⟨31, 16⟩
def CSG_G_STALL (g : Nat) : Nat := 0x20061018 + 0x40 * g
def CSG_G_STALL_stall_us : Fld := ⟨19, 0⟩
def CSG_G_LAT (g : Nat) : Nat := 0x2006101C + 0x40 * g
def CSG_G_LAT_lat_min_us : Fld := ⟨15, 0⟩
def CSG_G_LAT_lat_max : Fld := ⟨31, 16⟩
def CSG_G_MSG (g : Nat) : Nat := 0x20061020 + 0x40 * g
def CSG_G_MSG_msg_period_ms : Fld := ⟨15, 0⟩
def CSG_G_MSG_ok_period_ms : Fld := ⟨31, 16⟩
def CSG_G_DA_LO (g : Nat) : Nat := 0x20061024 + 0x40 * g
def CSG_G_DA_LO_da_lo : Fld := ⟨31, 0⟩
def CSG_G_DA_HI (g : Nat) : Nat := 0x20061028 + 0x40 * g
def CSG_G_DA_HI_da_hi : Fld := ⟨15, 0⟩
def CSG_G_DA_HI_vid : Fld := ⟨27, 16⟩
def CSG_G_DA_HI_tagged : Fld := ⟨28, 28⟩
def CSG_G_REVERT (g : Nat) : Nat := 0x2006102C + 0x40 * g
def CSG_G_REVERT_revert_ms : Fld := ⟨15, 0⟩
def CSG_G_REVERT_revert : Fld := ⟨16, 16⟩
def CSG_G_STATE (g : Nat) : Nat := 0x20061030 + 0x40 * g
def CSG_G_STATE_state : Fld := ⟨1, 0⟩
def CSG_G_STATE_redirected : Fld := ⟨2, 2⟩
def CSG_G_STATE_redir_added : Fld := ⟨3, 3⟩
def CSG_G_STATE_findings : Fld := ⟨8, 4⟩
def CSG_G_STATE_hash_valid : Fld := ⟨9, 9⟩
def CSG_G_STATE_frz_run : Fld := ⟨19, 10⟩
def CSG_G_HASH (g : Nat) : Nat := 0x20061034 + 0x40 * g
def CSG_G_HASH_hash : Fld := ⟨31, 0⟩
def CSG_G_MISS (g : Nat) : Nat := 0x20061038 + 0x40 * g
def CSG_G_MISS_count : Fld := ⟨31, 0⟩
def CSG_G_FAULTS (g : Nat) : Nat := 0x2006103C + 0x40 * g
def CSG_G_FAULTS_count : Fld := ⟨31, 0⟩
def CSG_FRER_CFG (c : Nat) : Nat := 0x20064000 + 4 * c
def CSG_FRER_CFG_en : Fld := ⟨0, 0⟩
def CSG_FRER_CFG_hist_len : Fld := ⟨6, 1⟩
def CSG_FRER_CFG_reset_ms : Fld := ⟨15, 8⟩
def CSG_FRER_CFG_silent_ms : Fld := ⟨31, 16⟩
def ETH_PHY_CFG (n : Nat) : Nat := 0x20080000 + 0x1000 * n
def ETH_PHY_CFG_en : Fld := ⟨0, 0⟩
def ETH_PHY_CFG_speed : Fld := ⟨2, 1⟩
def ETH_PHY_CFG_master : Fld := ⟨3, 3⟩
def ETH_PHY_CFG_loopback : Fld := ⟨4, 4⟩
def ETH_PHY_CFG_sqi_warn : Fld := ⟨7, 5⟩
def ETH_PHY_STATUS (n : Nat) : Nat := 0x20080004 + 0x1000 * n
def ETH_PHY_STATUS_link : Fld := ⟨0, 0⟩
def ETH_PHY_STATUS_training : Fld := ⟨1, 1⟩
def ETH_PHY_STATUS_sqi : Fld := ⟨4, 2⟩
def ETH_PHY_STATUS_link_lost : Fld := ⟨5, 5⟩
def ETH_PHY_STATUS_asleep : Fld := ⟨6, 6⟩
def ETH_MAC_CFG (n : Nat) : Nat := 0x20080010 + 0x1000 * n
def ETH_MAC_CFG_max_len : Fld := ⟨13, 0⟩
def ETH_MAC_CFG_pass_bad : Fld := ⟨14, 14⟩
def ETH_MAC_CFG_bad_dest : Fld := ⟨15, 15⟩
def ETH_MAC_CFG_mc_all : Fld := ⟨16, 16⟩
def ETH_MAC_CFG_bcast_en : Fld := ⟨17, 17⟩
def ETH_MAC_CFG_tx_start : Fld := ⟨22, 18⟩
def ETH_MAC_CFG_gptp_en : Fld := ⟨23, 23⟩
def ETH_MAC_STATUS (n : Nat) : Nat := 0x20080014 + 0x1000 * n
def ETH_MAC_STATUS_underrun : Fld := ⟨0, 0⟩
def ETH_MAC_STATUS_ts_lost : Fld := ⟨1, 1⟩
def ETH_MC_HASH (n k : Nat) : Nat := 0x20080040 + 0x1000 * n + 4 * k
def ETH_MC_HASH_bins : Fld := ⟨31, 0⟩
def ETH_TS_ADJ (n : Nat) : Nat := 0x20080080 + 0x1000 * n
def ETH_TS_ADJ_rx_adj_ns : Fld := ⟨15, 0⟩
def ETH_TS_ADJ_tx_adj_ns : Fld := ⟨31, 16⟩
def ETH_TXTS_LO (n : Nat) : Nat := 0x20080090 + 0x1000 * n
def ETH_TXTS_LO_ns : Fld := ⟨31, 0⟩
def ETH_TXTS_HI (n : Nat) : Nat := 0x20080094 + 0x1000 * n
def ETH_TXTS_HI_ns : Fld := ⟨31, 0⟩
def ETH_TXTS_INFO (n : Nat) : Nat := 0x20080098 + 0x1000 * n
def ETH_TXTS_INFO_tag : Fld := ⟨15, 0⟩
def ETH_TXTS_INFO_count : Fld := ⟨18, 16⟩
def ETH_TXTS_ACK (n : Nat) : Nat := 0x2008009C + 0x1000 * n
def ETH_TXTS_ACK_ack : Fld := ⟨0, 0⟩
def ETH_TC10_CFG (n : Nat) : Nat := 0x200800A0 + 0x1000 * n
def ETH_TC10_CFG_en : Fld := ⟨0, 0⟩
def ETH_TC10_CFG_accept_sleep : Fld := ⟨1, 1⟩
def ETH_TC10_CFG_sleep_req : Fld := ⟨2, 2⟩
def ETH_TC10_CFG_wake_req : Fld := ⟨3, 3⟩
def ETH_TC10_STATUS (n : Nat) : Nat := 0x200800A4 + 0x1000 * n
def ETH_TC10_STATUS_state : Fld := ⟨1, 0⟩
def ETH_TC10_STATUS_wake_rx : Fld := ⟨2, 2⟩
def ETH_TC10_STATUS_sleep_rx : Fld := ⟨3, 3⟩
def ETH_TC10_STATUS_sleep_refused : Fld := ⟨4, 4⟩
def ETH_SEC_CFG (n : Nat) : Nat := 0x20080100 + 0x1000 * n
def ETH_SEC_CFG_tx_en : Fld := ⟨0, 0⟩
def ETH_SEC_CFG_rx_en : Fld := ⟨1, 1⟩
def ETH_SEC_CFG_xpn : Fld := ⟨2, 2⟩
def ETH_SEC_CFG_validate : Fld := ⟨4, 3⟩
def ETH_SEC_CFG_conf : Fld := ⟨5, 5⟩
def ETH_SEC_CFG_offset30 : Fld := ⟨6, 6⟩
def ETH_SEC_CFG_include_sci : Fld := ⟨7, 7⟩
def ETH_SEC_CFG_tx_an : Fld := ⟨9, 8⟩
def ETH_SEC_REPLAY (n : Nat) : Nat := 0x20080104 + 0x1000 * n
def ETH_SEC_REPLAY_window : Fld := ⟨30, 0⟩
def ETH_SEC_STATUS (n : Nat) : Nat := 0x20080108 + 0x1000 * n
def ETH_SEC_STATUS_pn_warn : Fld := ⟨0, 0⟩
def ETH_SEC_STATUS_pn_exhausted : Fld := ⟨1, 1⟩
def ETH_SEC_STATUS_key_erased : Fld := ⟨2, 2⟩
def ETH_SEC_TXSCI_LO (n : Nat) : Nat := 0x20080110 + 0x1000 * n
def ETH_SEC_TXSCI_LO_sci : Fld := ⟨31, 0⟩
def ETH_SEC_TXSCI_HI (n : Nat) : Nat := 0x20080114 + 0x1000 * n
def ETH_SEC_TXSCI_HI_sci : Fld := ⟨31, 0⟩
def ETH_SEC_RXSCI_LO (n s : Nat) : Nat := 0x20080180 + 0x1000 * n + 8 * s
def ETH_SEC_RXSCI_LO_sci : Fld := ⟨31, 0⟩
def ETH_SEC_RXSCI_HI (n s : Nat) : Nat := 0x20080184 + 0x1000 * n + 8 * s
def ETH_SEC_RXSCI_HI_sci : Fld := ⟨31, 0⟩
def ETH_CNT (n k : Nat) : Nat := 0x20080800 + 0x1000 * n + 4 * k
def ETH_CNT_CLR (n : Nat) : Nat := 0x20080900 + 0x1000 * n
def ETH_CNT_CLR_go : Fld := ⟨0, 0⟩
def CAN_CTL (n : Nat) : Nat := 0x200A0000 + 0x1000 * n
def CAN_CTL_mode : Fld := ⟨2, 0⟩
def CAN_CTL_boff_mode : Fld := ⟨3, 3⟩
def CAN_CTL_recover : Fld := ⟨4, 4⟩
def CAN_CTL_rxq_mode : Fld := ⟨5, 5⟩
def CAN_CTL_tx_order : Fld := ⟨6, 6⟩
def CAN_CTL_coll_stop : Fld := ⟨7, 7⟩
def CAN_CTL_dar : Fld := ⟨8, 8⟩
def CAN_CTL_flt_default : Fld := ⟨10, 9⟩
def CAN_CTL_rrf_rej : Fld := ⟨11, 11⟩
def CAN_CTL_pex : Fld := ⟨12, 12⟩
def CAN_STATUS (n : Nat) : Nat := 0x200A0004 + 0x1000 * n
def CAN_STATUS_state : Fld := ⟨2, 0⟩
def CAN_STATUS_bus_stuck : Fld := ⟨3, 3⟩
def CAN_STATUS_cfg_refused : Fld := ⟨4, 4⟩
def CAN_STATUS_collide_fault : Fld := ⟨5, 5⟩
def CAN_STATUS_owner_err : Fld := ⟨6, 6⟩
def CAN_STATUS_tx_refused : Fld := ⟨7, 7⟩
def CAN_STATUS_rec_seq : Fld := ⟨15, 8⟩
def CAN_ERR (n : Nat) : Nat := 0x200A0008 + 0x1000 * n
def CAN_ERR_tec : Fld := ⟨7, 0⟩
def CAN_ERR_rec : Fld := ⟨15, 8⟩
def CAN_ERR_last_err : Fld := ⟨19, 16⟩
def CAN_ERR_last_err_data : Fld := ⟨20, 20⟩
def CAN_NBT (n : Nat) : Nat := 0x200A0010 + 0x1000 * n
def CAN_NBT_brp : Fld := ⟨4, 0⟩
def CAN_NBT_tseg1 : Fld := ⟨12, 5⟩
def CAN_NBT_tseg2 : Fld := ⟨19, 13⟩
def CAN_NBT_sjw : Fld := ⟨26, 20⟩
def CAN_DBT (n : Nat) : Nat := 0x200A0014 + 0x1000 * n
def CAN_DBT_brp : Fld := ⟨4, 0⟩
def CAN_DBT_tseg1 : Fld := ⟨10, 5⟩
def CAN_DBT_tseg2 : Fld := ⟨15, 11⟩
def CAN_DBT_sjw : Fld := ⟨20, 16⟩
def CAN_DBT_tdc_en : Fld := ⟨21, 21⟩
def CAN_DBT_tdc_off : Fld := ⟨28, 22⟩
def CAN_XBT (n : Nat) : Nat := 0x200A0018 + 0x1000 * n
def CAN_XBT_brp : Fld := ⟨4, 0⟩
def CAN_XBT_tseg1 : Fld := ⟨10, 5⟩
def CAN_XBT_tseg2 : Fld := ⟨15, 11⟩
def CAN_XBT_sjw : Fld := ⟨20, 16⟩
def CAN_XBT_tdc_en : Fld := ⟨21, 21⟩
def CAN_XBT_tdc_off : Fld := ⟨28, 22⟩
def CAN_XPWM (n : Nat) : Nat := 0x200A001C + 0x1000 * n
def CAN_XPWM_pwms : Fld := ⟨5, 0⟩
def CAN_XPWM_pwml : Fld := ⟨11, 6⟩
def CAN_XPWM_pwmo : Fld := ⟨17, 12⟩
def CAN_XPWM_trx_fast : Fld := ⟨18, 18⟩
def CAN_FD_CFG (n : Nat) : Nat := 0x200A0020 + 0x1000 * n
def CAN_FD_CFG_fd_en : Fld := ⟨0, 0⟩
def CAN_FD_CFG_xl_en : Fld := ⟨1, 1⟩
def CAN_FD_CFG_pad_byte : Fld := ⟨15, 8⟩
def CAN_AGG_CFG (n : Nat) : Nat := 0x200A0030 + 0x1000 * n
def CAN_AGG_CFG_tc_q0 : Fld := ⟨2, 0⟩
def CAN_AGG_CFG_tc_q1 : Fld := ⟨6, 4⟩
def CAN_FLT_ADDR (n : Nat) : Nat := 0x200A0040 + 0x1000 * n
def CAN_FLT_ADDR_index : Fld := ⟨8, 0⟩
def CAN_FLT_DATA0 (n : Nat) : Nat := 0x200A0044 + 0x1000 * n
def CAN_FLT_DATA0_word : Fld := ⟨31, 0⟩
def CAN_FLT_DATA1 (n : Nat) : Nat := 0x200A0048 + 0x1000 * n
def CAN_FLT_DATA1_word : Fld := ⟨31, 0⟩
def CAN_FLT_LEN (n : Nat) : Nat := 0x200A004C + 0x1000 * n
def CAN_FLT_LEN_len : Fld := ⟨9, 0⟩
def CAN_RXQ_STATUS (n : Nat) : Nat := 0x200A0060 + 0x1000 * n
def CAN_RXQ_STATUS_q0_count : Fld := ⟨6, 0⟩
def CAN_RXQ_STATUS_q1_count : Fld := ⟨14, 8⟩
def CAN_RXQ_STATUS_q0_lost : Fld := ⟨16, 16⟩
def CAN_RXQ_STATUS_q1_lost : Fld := ⟨17, 17⟩
def CAN_RXQ_STATUS_pool_free : Fld := ⟨26, 18⟩
def CAN_RXQ_SEL (n : Nat) : Nat := 0x200A0064 + 0x1000 * n
def CAN_RXQ_SEL_q : Fld := ⟨0, 0⟩
def CAN_RXQ_ACK (n : Nat) : Nat := 0x200A0068 + 0x1000 * n
def CAN_RXQ_ACK_ack0 : Fld := ⟨0, 0⟩
def CAN_RXQ_ACK_ack1 : Fld := ⟨1, 1⟩
def CAN_TX_STATUS (n : Nat) : Nat := 0x200A0070 + 0x1000 * n
def CAN_TX_STATUS_backlog : Fld := ⟨6, 0⟩
def CAN_TX_STATUS_tpool_free : Fld := ⟨16, 8⟩
def CAN_TX_CTL (n : Nat) : Nat := 0x200A0074 + 0x1000 * n
def CAN_TX_CTL_flush : Fld := ⟨0, 0⟩
def CAN_TXB_STATUS (n b : Nat) : Nat := 0x200A0100 + 0x1000 * n + 32 * b
def CAN_TXB_STATUS_state : Fld := ⟨1, 0⟩
def CAN_TXB_STATUS_result : Fld := ⟨4, 2⟩
def CAN_TXB_STATUS_cancel_late : Fld := ⟨5, 5⟩
def CAN_TXB_STATUS_coll_run : Fld := ⟨7, 6⟩
def CAN_TXB_ID (n b : Nat) : Nat := 0x200A0104 + 0x1000 * n + 32 * b
def CAN_TXB_ID_id : Fld := ⟨28, 0⟩
def CAN_TXB_ID_ide : Fld := ⟨29, 29⟩
def CAN_TXB_ID_fmt : Fld := ⟨31, 30⟩
def CAN_TXB_TS_LO (n b : Nat) : Nat := 0x200A0108 + 0x1000 * n + 32 * b
def CAN_TXB_TS_LO_ns : Fld := ⟨31, 0⟩
def CAN_TXB_TS_HI (n b : Nat) : Nat := 0x200A010C + 0x1000 * n + 32 * b
def CAN_TXB_TS_HI_ns : Fld := ⟨31, 0⟩
def CAN_TXB_CMD (n b : Nat) : Nat := 0x200A0110 + 0x1000 * n + 32 * b
def CAN_TXB_CMD_cancel : Fld := ⟨0, 0⟩
def CAN_CNT (n k : Nat) : Nat := 0x200A0180 + 0x1000 * n + 4 * k
def CAN_CNT_CLR (n : Nat) : Nat := 0x200A01E0 + 0x1000 * n
def CAN_CNT_CLR_go : Fld := ⟨0, 0⟩
def CAN_TXR (n k : Nat) : Nat := 0x200A0200 + 0x1000 * n + 4 * k
def CAN_TXR_word : Fld := ⟨31, 0⟩
def CAN_TXR_DATA (n k : Nat) : Nat := 0x200A0220 + 0x1000 * n + 4 * k
def CAN_TXR_DATA_word : Fld := ⟨31, 0⟩
def CAN_TXR_CMD (n : Nat) : Nat := 0x200A0260 + 0x1000 * n
def CAN_TXR_CMD_submit : Fld := ⟨0, 0⟩
def CAN_TXR_CMD_busy : Fld := ⟨1, 1⟩
def CAN_RXH (n k : Nat) : Nat := 0x200A0400 + 0x1000 * n + 4 * k
def CAN_RXH_word : Fld := ⟨31, 0⟩
def TBL_CTL : Nat := 0x20050000
def TBL_CTL_age_en : Fld := ⟨0, 0⟩
def TBL_CTL_evict_random : Fld := ⟨1, 1⟩
def TBL_CTL_sweep_now : Fld := ⟨2, 2⟩
def TBL_STATUS : Nat := 0x20050004
def TBL_STATUS_trie_full : Fld := ⟨0, 0⟩
def TBL_STATUS_learn_full : Fld := ⟨1, 1⟩
def TBL_STATUS_move_refused : Fld := ⟨2, 2⟩
def TBL_STATUS_learn_lost : Fld := ⟨3, 3⟩
def TBL_LEARN_SEED : Nat := 0x2005000C
def TBL_LEARN_SEED_seed : Fld := ⟨31, 0⟩
def TBL_AGE_CFG : Nat := 0x20050010
def TBL_AGE_CFG_sweep_ms : Fld := ⟨15, 0⟩
def TBL_AGE_CFG_age_sweeps : Fld := ⟨30, 16⟩
def TBL_AGE_STATUS : Nat := 0x20050014
def TBL_AGE_STATUS_sweep_count : Fld := ⟨15, 0⟩
def TBL_AGE_STATUS_sweeping : Fld := ⟨16, 16⟩
def TBL_AGE_STATUS_learn_q : Fld := ⟨23, 17⟩
def TBL_TRIE_EPOCH : Nat := 0x20050020
def TBL_TRIE_EPOCH_epoch : Fld := ⟨31, 0⟩
def TBL_TRIE_USE : Nat := 0x20050024
def TBL_TRIE_USE_nodes : Fld := ⟨9, 0⟩
def TBL_TRIE_USE_leaves : Fld := ⟨27, 10⟩
def TBL_MAC_USE : Nat := 0x20050028
def TBL_MAC_USE_used : Fld := ⟨14, 0⟩
def TBL_MAC_USE_fixed : Fld := ⟨30, 16⟩
def TBL_PORT_CFG (n : Nat) : Nat := 0x20050100 + 4 * n
def TBL_PORT_CFG_pvid : Fld := ⟨11, 0⟩
def TBL_PORT_CFG_learn_en : Fld := ⟨12, 12⟩
def TBL_PORT_CFG_learn_priv : Fld := ⟨13, 13⟩
def TBL_PORT_CFG_flood_uc : Fld := ⟨14, 14⟩
def TBL_PORT_CFG_flood_mc : Fld := ⟨15, 15⟩
def TBL_PORT_CFG_in_filter : Fld := ⟨16, 16⟩
def TBL_CNT (k : Nat) : Nat := 0x20050200 + 4 * k
def TBL_CNT_CLR : Nat := 0x20050280
def TBL_CNT_CLR_go : Fld := ⟨0, 0⟩
def KPR_CTL : Nat := 0x200E0000
def KPR_CTL_ciph_wait_us : Fld := ⟨15, 0⟩
def KPR_CTL_susp_aborts : Fld := ⟨19, 16⟩
def KPR_STATUS : Nat := 0x200E0004
def KPR_STATUS_suspended : Fld := ⟨0, 0⟩
def KPR_STATUS_abort_seen : Fld := ⟨1, 1⟩
def KPR_RT_SEL : Nat := 0x200E0010
def KPR_RT_SEL_routine : Fld := ⟨9, 0⟩
def KPR_RT_INFO : Nat := 0x200E0014
def KPR_RT_INFO_core : Fld := ⟨5, 0⟩
def KPR_RT_INFO_placed : Fld := ⟨6, 6⟩
def KPR_RT_INFO_prio : Fld := ⟨9, 7⟩
def KPR_RT_INFO_state : Fld := ⟨11, 10⟩
def KPR_RT_BUDGET : Nat := 0x200E0018
def KPR_RT_BUDGET_budget : Fld := ⟨15, 0⟩
def KPR_RT_BUDGET_max_used : Fld := ⟨31, 16⟩
def KPR_RT_LAST : Nat := 0x200E001C
def KPR_RT_LAST_pc : Fld := ⟨14, 0⟩
def KPR_RT_LAST_cause : Fld := ⟨18, 16⟩
def KPR_RT_CMD : Nat := 0x200E0020
def KPR_RT_CMD_resume : Fld := ⟨0, 0⟩
def KPR_RT_CMD_clr : Fld := ⟨1, 1⟩
def KPR_RT_CNT (k : Nat) : Nat := 0x200E0040 + 4 * k
def KPR_RT_CNT_count : Fld := ⟨31, 0⟩
def KPR_CORE (n : Nat) : Nat := 0x200E0100 + 4 * n
def KPR_CORE_powered : Fld := ⟨0, 0⟩
def KPR_CORE_busy : Fld := ⟨1, 1⟩
def KPR_CORE_routine : Fld := ⟨11, 2⟩
def KPR_CORE_placed : Fld := ⟨21, 12⟩
def KPR_CNT_CLR : Nat := 0x200E0200
def KPR_CNT_CLR_go : Fld := ⟨0, 0⟩
def PLC_STATUS : Nat := 0x200F0000
def PLC_STATUS_state : Fld := ⟨1, 0⟩
def PLC_STATUS_shed_any : Fld := ⟨2, 2⟩
def PLC_STATUS_excluded_any : Fld := ⟨3, 3⟩
def PLC_STATUS_placed : Fld := ⟨14, 4⟩
def PLC_STATUS_infeasible : Fld := ⟨15, 15⟩
def PLC_POLICY : Nat := 0x200F0004
def PLC_POLICY_cap_pct : Fld := ⟨7, 0⟩
def PLC_POLICY_w_load : Fld := ⟨15, 8⟩
def PLC_POLICY_w_count : Fld := ⟨23, 16⟩
def PLC_POLICY_w_stay : Fld := ⟨31, 24⟩
def PLC_POLICY2 : Nat := 0x200F0008
def PLC_POLICY2_w_open : Fld := ⟨15, 0⟩
def PLC_POLICY2_w_polder : Fld := ⟨31, 16⟩
def PLC_EXCL_LO : Nat := 0x200F0010
def PLC_EXCL_LO_cores : Fld := ⟨31, 0⟩
def PLC_EXCL_HI : Nat := 0x200F0014
def PLC_EXCL_HI_cores : Fld := ⟨31, 0⟩
def PLC_KPOLDER : Nat := 0x200F0018
def PLC_KPOLDER_pd5_use : Fld := ⟨0, 0⟩
def PLC_KPOLDER_pd6_use : Fld := ⟨1, 1⟩
def PLC_DIGEST_BASE : Nat := 0x200F0020
def PLC_DIGEST_BASE_digest : Fld := ⟨31, 0⟩
def PLC_DIGEST_CUR : Nat := 0x200F0024
def PLC_DIGEST_CUR_digest : Fld := ⟨31, 0⟩
def PLC_MAX_PAUSE : Nat := 0x200F0030
def PLC_MAX_PAUSE_max_pause_ns : Fld := ⟨31, 0⟩
def PLC_CORE_LOAD (n : Nat) : Nat := 0x200F0100 + 4 * n
def PLC_CORE_LOAD_load_ku : Fld := ⟨19, 0⟩
def PLC_CNT (k : Nat) : Nat := 0x200F0200 + 4 * k
def PLC_CNT_count : Fld := ⟨31, 0⟩
def PLC_CNT_CLR : Nat := 0x200F0280
def PLC_CNT_CLR_go : Fld := ⟨0, 0⟩
def PLC_MAP (r : Nat) : Nat := 0x200F1000 + 4 * r
def PLC_MAP_core : Fld := ⟨5, 0⟩
def PLC_MAP_fab_addr : Fld := ⟨10, 6⟩
def PLC_MAP_placed : Fld := ⟨11, 11⟩
def PLC_MAP_mobile : Fld := ⟨12, 12⟩
def PLC_MAP_shed : Fld := ⟨13, 13⟩
def PLC_MAP_remote : Fld := ⟨14, 14⟩
def PLC_MAP_moved : Fld := ⟨15, 15⟩
def PLC_MAP_state_reset : Fld := ⟨16, 16⟩
def PLC_FB (k w : Nat) : Nat := 0x200F2000 + 16 * k + 4 * w
def PLC_MOB (m : Nat) : Nat := 0x200F2400 + 4 * m
def PLC_MOB_routine : Fld := ⟨9, 0⟩
def PLC_MOB_host : Fld := ⟨14, 10⟩
def PLC_MOB_valid : Fld := ⟨15, 15⟩
def PLC_MOB_here : Fld := ⟨16, 16⟩
def FAB_CTL : Nat := 0x200C0000
def FAB_CTL_en : Fld := ⟨0, 0⟩
def FAB_CTL_rediscover : Fld := ⟨1, 1⟩
def FAB_CTL_settle_ms : Fld := ⟨15, 8⟩
def FAB_STATUS : Nat := 0x200C0004
def FAB_STATUS_state : Fld := ⟨1, 0⟩
def FAB_STATUS_is_head : Fld := ⟨2, 2⟩
def FAB_STATUS_head_in : Fld := ⟨3, 3⟩
def FAB_STATUS_addr : Fld := ⟨8, 4⟩
def FAB_STATUS_addressed : Fld := ⟨9, 9⟩
def FAB_STATUS_epoch : Fld := ⟨31, 16⟩
def FAB_ID_LO : Nat := 0x200C0008
def FAB_ID_LO_id : Fld := ⟨31, 0⟩
def FAB_ID_HI : Nat := 0x200C000C
def FAB_ID_HI_id : Fld := ⟨31, 0⟩
def FAB_HEAD_LO : Nat := 0x200C0010
def FAB_HEAD_LO_id : Fld := ⟨31, 0⟩
def FAB_HEAD_HI : Nat := 0x200C0014
def FAB_HEAD_HI_id : Fld := ⟨31, 0⟩
def FAB_MAC_LO : Nat := 0x200C0018
def FAB_MAC_LO_mac : Fld := ⟨31, 0⟩
def FAB_MAC_HI : Nat := 0x200C001C
def FAB_MAC_HI_mac : Fld := ⟨15, 0⟩
def FAB_PORT_CFG (n : Nat) : Nat := 0x200C0100 + 4 * n
def FAB_PORT_CFG_role : Fld := ⟨1, 0⟩
def FAB_PORT_STATUS (n : Nat) : Nat := 0x200C0120 + 4 * n
def FAB_PORT_STATUS_state : Fld := ⟨2, 0⟩
def FAB_PORT_STATUS_peer_port : Fld := ⟨7, 3⟩
def FAB_PORT_STATUS_went_down : Fld := ⟨8, 8⟩
def FAB_PEER_LO (n : Nat) : Nat := 0x200C0140 + 8 * n
def FAB_PEER_LO_id : Fld := ⟨31, 0⟩
def FAB_PEER_HI (n : Nat) : Nat := 0x200C0144 + 8 * n
def FAB_PEER_HI_id : Fld := ⟨31, 0⟩
def FAB_MEMBER_LO (a : Nat) : Nat := 0x200C0200 + 8 * a
def FAB_MEMBER_LO_id : Fld := ⟨31, 0⟩
def FAB_MEMBER_HI (a : Nat) : Nat := 0x200C0204 + 8 * a
def FAB_MEMBER_HI_id : Fld := ⟨31, 0⟩
def FAB_ROUTE (a : Nat) : Nat := 0x200C0300 + 4 * a
def FAB_ROUTE_port : Fld := ⟨4, 0⟩
def FAB_ROUTE_valid : Fld := ⟨5, 5⟩
def FAB_ROUTE_hops : Fld := ⟨10, 6⟩
def FAB_RA_CFG : Nat := 0x200C0400
def FAB_RA_CFG_tc : Fld := ⟨2, 0⟩
def FAB_RA_CFG_timeout_ms : Fld := ⟨15, 8⟩
def FAB_RA_ALLOW : Nat := 0x200C0404
def FAB_RA_ALLOW_mask : Fld := ⟨31, 0⟩
def FAB_RA_ALLOW_W : Nat := 0x200C0408
def FAB_RA_ALLOW_W_mask : Fld := ⟨31, 0⟩
def FAB_CMD_ALLOW : Nat := 0x200C040C
def FAB_CMD_ALLOW_mask : Fld := ⟨31, 0⟩
def FAB_SIG_SEND : Nat := 0x200C0410
def FAB_SIG_SEND_dst : Fld := ⟨4, 0⟩
def FAB_SIG_SEND_go : Fld := ⟨5, 5⟩
def FAB_SIG_VAL : Nat := 0x200C0414
def FAB_SIG_VAL_value : Fld := ⟨31, 0⟩
def FAB_SIG_RX : Nat := 0x200C0418
def FAB_SIG_RX_value : Fld := ⟨31, 0⟩
def FAB_APT0 (k : Nat) : Nat := 0x200C0500 + 8 * k
def FAB_APT0_en : Fld := ⟨0, 0⟩
def FAB_APT0_pref : Fld := ⟨1, 1⟩
def FAB_APT0_target : Fld := ⟨6, 2⟩
def FAB_APT1 (k : Nat) : Nat := 0x200C0504 + 8 * k
def FAB_APT1_base : Fld := ⟨15, 0⟩
def FAB_IRQ_STATUS : Nat := 0x200C0600
def FAB_IRQ_STATUS_evq : Fld := ⟨0, 0⟩
def FAB_IRQ_STATUS_cmd : Fld := ⟨1, 1⟩
def FAB_IRQ_STATUS_fabric : Fld := ⟨2, 2⟩
def FAB_IRQ_STATUS_signal : Fld := ⟨3, 3⟩
def FAB_IRQ_STATUS_apt_err : Fld := ⟨4, 4⟩
def FAB_IRQ_MASK : Nat := 0x200C0604
def FAB_IRQ_MASK_mask : Fld := ⟨4, 0⟩
def FAB_CNT (k : Nat) : Nat := 0x200C0800 + 4 * k
def FAB_CNT_CLR : Nat := 0x200C0880
def FAB_CNT_CLR_go : Fld := ⟨0, 0⟩
def SEC_LOCK_CFG : Nat := 0x200D0000
def SEC_LOCK_CFG_hold_us : Fld := ⟨13, 0⟩
def SEC_LOCK_REQ : Nat := 0x200D0004
def SEC_LOCK_REQ_req : Fld := ⟨0, 0⟩
def SEC_LOCK_REQ_release : Fld := ⟨1, 1⟩
def SEC_LOCK_STATUS : Nat := 0x200D0008
def SEC_LOCK_STATUS_owner : Fld := ⟨6, 0⟩
def SEC_LOCK_STATUS_queued : Fld := ⟨13, 7⟩
def SEC_LOCK_STATUS_warden_queued : Fld := ⟨14, 14⟩
def SEC_LOCK_STATUS_hold_exceeded : Fld := ⟨15, 15⟩
def SEC_STATUS : Nat := 0x200D000C
def SEC_STATUS_key_erased : Fld := ⟨0, 0⟩
def SEC_STATUS_kop_refused : Fld := ⟨1, 1⟩
def SEC_ENG_DESC (k : Nat) : Nat := 0x200D0100 + 4 * k
def SEC_ENG_DESC_word : Fld := ⟨31, 0⟩
def SEC_ENG_CMD : Nat := 0x200D0120
def SEC_ENG_CMD_go : Fld := ⟨0, 0⟩
def SEC_ENG_CMD_busy : Fld := ⟨1, 1⟩
def SEC_ENG_STATUS : Nat := 0x200D0124
def SEC_ENG_STATUS_result : Fld := ⟨3, 0⟩
def SEC_ENG_STATUS_done : Fld := ⟨4, 4⟩
def SEC_KOP_CMD : Nat := 0x200D0200
def SEC_KOP_CMD_op : Fld := ⟨2, 0⟩
def SEC_KOP_CMD_dst : Fld := ⟨9, 3⟩
def SEC_KOP_CMD_src : Fld := ⟨16, 10⟩
def SEC_KOP_CMD_kek : Fld := ⟨23, 17⟩
def SEC_KOP_CMD_go : Fld := ⟨24, 24⟩
def SEC_KOP_CMD_busy : Fld := ⟨25, 25⟩
def SEC_KOP_ATTR : Nat := 0x200D0204
def SEC_KOP_ATTR_attr : Fld := ⟨31, 0⟩
def SEC_KOP_LEN : Nat := 0x200D0208
def SEC_KOP_LEN_len : Fld := ⟨6, 0⟩
def SEC_KOP_STATUS : Nat := 0x200D020C
def SEC_KOP_STATUS_result : Fld := ⟨3, 0⟩
def SEC_KOP_STATUS_done : Fld := ⟨4, 4⟩
def SEC_KOP_STATUS_out_len : Fld := ⟨11, 5⟩
def SEC_KOP_DATA (k : Nat) : Nat := 0x200D0240 + 4 * k
def SEC_KOP_DATA_data : Fld := ⟨31, 0⟩
def SEC_RNG_DATA : Nat := 0x200D0300
def SEC_RNG_DATA_word : Fld := ⟨31, 0⟩
def SEC_RNG_STATUS : Nat := 0x200D0304
def SEC_RNG_STATUS_avail : Fld := ⟨3, 0⟩
def SEC_RNG_STATUS_health_fail : Fld := ⟨4, 4⟩
def SEC_RNG_STATUS_failed : Fld := ⟨5, 5⟩
def SEC_RNG_STATUS_restarts : Fld := ⟨15, 8⟩
def SEC_RNG_ACK : Nat := 0x200D0308
def SEC_RNG_ACK_ack : Fld := ⟨0, 0⟩
def SEC_CNT (k : Nat) : Nat := 0x200D0400 + 4 * k
def SEC_CNT_CLR : Nat := 0x200D0480
def SEC_CNT_CLR_go : Fld := ⟨0, 0⟩
def SEC_SLOT (n : Nat) : Nat := 0x200D1000 + 8 * n
def SEC_SLOT_loaded : Fld := ⟨0, 0⟩
def SEC_SLOT_ktype : Fld := ⟨2, 1⟩
def SEC_SLOT_klen_w : Fld := ⟨7, 3⟩
def SEC_SLOT_scm : Fld := ⟨9, 8⟩
def SEC_SLOT_u_cmac : Fld := ⟨10, 10⟩
def SEC_SLOT_u_gcm : Fld := ⟨11, 11⟩
def SEC_SLOT_u_ctr : Fld := ⟨12, 12⟩
def SEC_SLOT_u_hmac : Fld := ⟨13, 13⟩
def SEC_SLOT_u_macsec : Fld := ⟨14, 14⟩
def SEC_SLOT_u_kek : Fld := ⟨15, 15⟩
def SEC_SLOT_keeper : Fld := ⟨16, 16⟩
def SEC_SLOT_warden : Fld := ⟨17, 17⟩
def SEC_SLOT_export : Fld := ⟨18, 18⟩
def SEC_SLOT_pending : Fld := ⟨19, 19⟩
def SEC_SLOT_root : Fld := ⟨20, 20⟩
def SEC_SLOT_KCV (n : Nat) : Nat := 0x200D1004 + 8 * n
def SEC_SLOT_KCV_kcv : Fld := ⟨23, 0⟩
def SEC_PKA_CMD : Nat := 0x200D0800
def SEC_PKA_CMD_op : Fld := ⟨1, 0⟩
def SEC_PKA_CMD_go : Fld := ⟨2, 2⟩
def SEC_PKA_CMD_busy : Fld := ⟨3, 3⟩
def SEC_PKA_ADDR : Nat := 0x200D0804
def SEC_PKA_ADDR_addr : Fld := ⟨31, 0⟩
def SEC_PKA_STATUS : Nat := 0x200D0808
def SEC_PKA_STATUS_result : Fld := ⟨1, 0⟩
def SEC_PKA_STATUS_done : Fld := ⟨2, 2⟩
def SEC_SHA_SRC : Nat := 0x200D0810
def SEC_SHA_SRC_addr : Fld := ⟨31, 0⟩
def SEC_SHA_LEN : Nat := 0x200D0814
def SEC_SHA_LEN_len : Fld := ⟨21, 0⟩
def SEC_SHA_CMD : Nat := 0x200D0818
def SEC_SHA_CMD_init : Fld := ⟨0, 0⟩
def SEC_SHA_CMD_update : Fld := ⟨1, 1⟩
def SEC_SHA_CMD_final : Fld := ⟨2, 2⟩
def SEC_SHA_CMD_busy : Fld := ⟨3, 3⟩
def SEC_SHA_DIGEST (k : Nat) : Nat := 0x200D0840 + 4 * k
def SEC_SHA_DIGEST_word : Fld := ⟨31, 0⟩
def SYS_ID_LO : Nat := 0x20000300
def SYS_ID_LO_id : Fld := ⟨31, 0⟩
def SYS_ID_HI : Nat := 0x20000304
def SYS_ID_HI_id : Fld := ⟨31, 0⟩
def SYS_FW_VERSION : Nat := 0x20000308
def SYS_FW_VERSION_version : Fld := ⟨31, 0⟩
def SYS_ROLLBACK : Nat := 0x2000030C
def SYS_ROLLBACK_counter : Fld := ⟨18, 0⟩
def SYS_ROLLBACK_fuses : Fld := ⟨25, 19⟩
def SYS_ROLLBACK_fuse_fail : Fld := ⟨28, 26⟩
def SYS_ROLLBACK_sub_lost : Fld := ⟨29, 29⟩
def SYS_UPD_STATUS : Nat := 0x20000310
def SYS_UPD_STATUS_state : Fld := ⟨2, 0⟩
def SYS_UPD_STATUS_target : Fld := ⟨5, 3⟩
def SYS_UPD_STATUS_pending_start : Fld := ⟨6, 6⟩
def SYS_UPD_STATUS_recovery : Fld := ⟨7, 7⟩
def SYS_UPD_STATUS_reason : Fld := ⟨15, 8⟩
def SYS_UPD_PROGRESS : Nat := 0x20000314
def SYS_UPD_PROGRESS_next_block : Fld := ⟨9, 0⟩
def BNK_CTL : Nat := 0x20100000
def BNK_CTL_hb : Fld := ⟨0, 0⟩
def BNK_CTL_sleep_req : Fld := ⟨1, 1⟩
def BNK_CTL_fatal : Fld := ⟨2, 2⟩
def BNK_CTL_safe_run : Fld := ⟨3, 3⟩
def BNK_STATUS : Nat := 0x20100004
def BNK_STATUS_vbat_band : Fld := ⟨1, 0⟩
def BNK_STATUS_sleep_declined : Fld := ⟨2, 2⟩
def BNK_STATUS_link_err : Fld := ⟨10, 3⟩
def BNK_STATUS_sum_limit : Fld := ⟨11, 11⟩
def BNK_SUP_CFG : Nat := 0x20100010
def BNK_SUP_CFG_ride_ms : Fld := ⟨4, 0⟩
def BNK_SUP_CFG_clr_min : Fld := ⟨8, 8⟩
def BNK_VBAT : Nat := 0x20100014
def BNK_VBAT_mv : Fld := ⟨15, 0⟩
def BNK_VBAT_min_mv : Fld := ⟨31, 16⟩
def BNK_WAKE_CFG : Nat := 0x20100020
def BNK_WAKE_CFG_en : Fld := ⟨7, 0⟩
def BNK_WAKE_CFG_low_act : Fld := ⟨15, 8⟩
def BNK_WAKE_STATUS : Nat := 0x20100024
def BNK_WAKE_STATUS_level : Fld := ⟨7, 0⟩
def BNK_WAKE_STATUS_masked : Fld := ⟨15, 8⟩
def BNK_WAKE_STATUS_edge : Fld := ⟨23, 16⟩
def BNK_WAKE_STATUS_stuck : Fld := ⟨31, 24⟩
def BNK_WAKE_CAUSE : Nat := 0x20100028
def BNK_WAKE_CAUSE_src : Fld := ⟨3, 0⟩
def BNK_WAKE_CAUSE_channel : Fld := ⟨8, 4⟩
def BNK_CANW_CFG : Nat := 0x20100030
def BNK_CANW_CFG_wup_en : Fld := ⟨23, 0⟩
def BNK_CANW_STATUS : Nat := 0x20100034
def BNK_CANW_STATUS_flag : Fld := ⟨23, 0⟩
def BNK_HTR_GLB : Nat := 0x20100200
def BNK_HTR_GLB_pwm_hz : Fld := ⟨9, 0⟩
def BNK_HTR_GLB_budget : Fld := ⟨24, 12⟩
def BNK_HTR_DEMAND (n : Nat) : Nat := 0x20100400 + 32 * n
def BNK_HTR_DEMAND_duty : Fld := ⟨9, 0⟩
def BNK_HTR_CFG (n : Nat) : Nat := 0x20100404 + 32 * n
def BNK_HTR_CFG_safe_duty : Fld := ⟨9, 0⟩
def BNK_HTR_CFG_en : Fld := ⟨10, 10⟩
def BNK_HTR_CFG_prio : Fld := ⟨12, 11⟩
def BNK_HTR_CFG_refresh_ms : Fld := ⟨26, 13⟩
def BNK_HTR_CFG_decay_step : Fld := ⟨31, 27⟩
def BNK_HTR_DIAG (n : Nat) : Nat := 0x20100408 + 32 * n
def BNK_HTR_DIAG_open_ma : Fld := ⟨11, 0⟩
def BNK_HTR_MODEL (n : Nat) : Nat := 0x2010040C + 32 * n
def BNK_HTR_MODEL_r_th : Fld := ⟨15, 0⟩
def BNK_HTR_MODEL_tau_s : Fld := ⟨25, 16⟩
def BNK_HTR_LIMIT (n : Nat) : Nat := 0x20100410 + 32 * n
def BNK_HTR_LIMIT_th_max : Fld := ⟨15, 0⟩
def BNK_HTR_LIMIT_th_hyst : Fld := ⟨31, 16⟩
def BNK_HTR_STATUS (n : Nat) : Nat := 0x20100414 + 32 * n
def BNK_HTR_STATUS_eff_duty : Fld := ⟨9, 0⟩
def BNK_HTR_STATUS_fresh : Fld := ⟨10, 10⟩
def BNK_HTR_STATUS_decaying : Fld := ⟨11, 11⟩
def BNK_HTR_STATUS_model_clamp : Fld := ⟨12, 12⟩
def BNK_HTR_STATUS_budget_cut : Fld := ⟨13, 13⟩
def BNK_HTR_STATUS_open_load : Fld := ⟨14, 14⟩
def BNK_HTR_STATUS_short : Fld := ⟨15, 15⟩
def BNK_HTR_STATUS_short_latched : Fld := ⟨16, 16⟩
def BNK_HTR_STATUS_vbat_short : Fld := ⟨17, 17⟩
def BNK_HTR_STATUS_ot_group : Fld := ⟨18, 18⟩
def BNK_HTR_STATUS_short_run : Fld := ⟨20, 19⟩
def BNK_HTR_MEAS (n : Nat) : Nat := 0x20100418 + 32 * n
def BNK_HTR_MEAS_i_ma : Fld := ⟨11, 0⟩
def BNK_HTR_MEAS_theta : Fld := ⟨31, 16⟩
def BNK_HTR_CMD (n : Nat) : Nat := 0x2010041C + 32 * n
def BNK_HTR_CMD_clear : Fld := ⟨0, 0⟩
def FLT_CTL : Nat := 0x20020000
def FLT_CTL_handle_ms : Fld := ⟨15, 0⟩
def FLT_CTL_reader : Fld := ⟨16, 16⟩
def FLT_CTL_log_min : Fld := ⟨19, 17⟩
def FLT_STATUS : Nat := 0x20020004
def FLT_STATUS_depth : Fld := ⟨2, 0⟩
def FLT_STATUS_cur_class : Fld := ⟨5, 3⟩
def FLT_STATUS_fault_lost : Fld := ⟨6, 6⟩
def FLT_FAULT_CUR (k : Nat) : Nat := 0x20020010 + 4 * k
def FLT_FAULT_CUR_word : Fld := ⟨31, 0⟩
def FLT_FAULT_DONE : Nat := 0x20020020
def FLT_FAULT_DONE_done : Fld := ⟨0, 0⟩
def FLT_FAULT_STACK (k : Nat) : Nat := 0x20020030 + 4 * k
def FLT_FAULT_STACK_word0 : Fld := ⟨31, 0⟩
def FLT_EVQ_HEAD (k : Nat) : Nat := 0x20020100 + 4 * k
def FLT_EVQ_HEAD_word : Fld := ⟨31, 0⟩
def FLT_EVQ_ACK : Nat := 0x20020110
def FLT_EVQ_ACK_tag : Fld := ⟨19, 0⟩
def FLT_EVQ_STATUS : Nat := 0x20020114
def FLT_EVQ_STATUS_count : Fld := ⟨12, 0⟩
def FLT_EVQ_STATUS_ack_miss : Fld := ⟨13, 13⟩
def FLT_EVQ_STATUS_overflow : Fld := ⟨14, 14⟩
def FLT_EVQ_STATUS_ecc_lost : Fld := ⟨31, 16⟩
def FLT_EVQ_LOST (c : Nat) : Nat := 0x20020120 + 4 * c
def FLT_EVQ_LOST_count : Fld := ⟨31, 0⟩
def FLT_SRC_LOST (b : Nat) : Nat := 0x20020140 + 4 * (b - 1)
def FLT_SRC_LOST_count : Fld := ⟨31, 0⟩
def FLT_CNT_CLR : Nat := 0x20020180
def FLT_CNT_CLR_lost : Fld := ⟨0, 0⟩
def FLT_CNT_CLR_src : Fld := ⟨1, 1⟩
def FLT_CNT_CLR_ecc : Fld := ⟨2, 2⟩
def FLT_ECC_CFG : Nat := 0x20020300
def FLT_ECC_CFG_ecc_warn : Fld := ⟨15, 0⟩
def FLT_ECC_CFG_patrol_en : Fld := ⟨16, 16⟩
def FLT_ECC_SEL : Nat := 0x20020304
def FLT_ECC_SEL_mem : Fld := ⟨6, 0⟩
def FLT_ECC_CNT : Nat := 0x20020308
def FLT_ECC_CNT_corrected : Fld := ⟨15, 0⟩
def FLT_ECC_CNT_uncorrectable : Fld := ⟨31, 16⟩
def FLT_ECC_ADDR_LO : Nat := 0x2002030C
def FLT_ECC_ADDR_LO_addr : Fld := ⟨31, 0⟩
def FLT_ECC_ADDR_HI : Nat := 0x20020310
def FLT_ECC_ADDR_HI_addr : Fld := ⟨7, 0⟩
def FLT_ECC_ADDR_HI_uncorr : Fld := ⟨8, 8⟩
def FLT_ECC_ADDR_HI_hard : Fld := ⟨9, 9⟩
def FLT_REP_SEL : Nat := 0x20020400
def FLT_REP_SEL_macro : Fld := ⟨8, 0⟩
def FLT_REP_MAP_0 : Nat := 0x20020404
def FLT_REP_MAP_0_col_a : Fld := ⟨9, 0⟩
def FLT_REP_MAP_0_used_a : Fld := ⟨15, 15⟩
def FLT_REP_MAP_0_col_b : Fld := ⟨25, 16⟩
def FLT_REP_MAP_0_used_b : Fld := ⟨31, 31⟩
def FLT_REP_MAP_1 : Nat := 0x20020408
def FLT_REP_MAP_1_col_a : Fld := ⟨9, 0⟩
def FLT_REP_MAP_1_used_a : Fld := ⟨15, 15⟩
def FLT_REP_MAP_1_col_b : Fld := ⟨25, 16⟩
def FLT_REP_MAP_1_used_b : Fld := ⟨31, 31⟩
def FLT_MRAM_STATUS : Nat := 0x20020500
def FLT_MRAM_STATUS_spare_free : Fld := ⟨10, 0⟩
def FLT_MRAM_STATUS_scrub_active : Fld := ⟨11, 11⟩
def FLT_MRAM_STATUS_scrub_due : Fld := ⟨12, 12⟩
def FLT_MRAM_HOURS : Nat := 0x20020504
def FLT_MRAM_HOURS_hours : Fld := ⟨31, 0⟩
def SYS_CMD_PROD : Nat := 0x20000000
def SYS_CMD_PROD_prod : Fld := ⟨7, 0⟩
def SYS_CMD_DONE : Nat := 0x20000004
def SYS_CMD_DONE_done : Fld := ⟨7, 0⟩
def SYS_CMD_ACK : Nat := 0x20000008
def SYS_CMD_ACK_ack : Fld := ⟨7, 0⟩
def SYS_CMD_STATUS : Nat := 0x2000000C
def SYS_CMD_STATUS_busy : Fld := ⟨0, 0⟩
def SYS_CMD_STATUS_paused : Fld := ⟨1, 1⟩
def SYS_CMD_STATUS_prod_err : Fld := ⟨2, 2⟩
def SYS_CMD_STATUS_ack_err : Fld := ⟨3, 3⟩
def SYS_CMD_STATUS_slot_err : Fld := ⟨4, 4⟩
def SYS_CMD_STATUS_fab_waiting : Fld := ⟨7, 5⟩
def SYS_PROFILE : Nat := 0x20000100
def SYS_PROFILE_active : Fld := ⟨1, 0⟩
def SYS_PROFILE_target : Fld := ⟨3, 2⟩
def SYS_PROFILE_switching : Fld := ⟨4, 4⟩
def SYS_PROFILE_fallback : Fld := ⟨7, 5⟩
def SYS_PROFILE_slot_valid : Fld := ⟨11, 8⟩
def SYS_POLDER : Nat := 0x20000104
def SYS_POLDER_on : Fld := ⟨11, 0⟩
def SYS_POLDER_permit_off : Fld := ⟨23, 12⟩
def SYS_CMD_ENT (s k : Nat) : Nat := 0x20001000 + 0x80 * s + 4 * k
def SYS_CMD_ENT_word : Fld := ⟨31, 0⟩
def SYS_CMD_RES (s k : Nat) : Nat := 0x20001040 + 0x80 * s + 4 * k
def SYS_CMD_RES_word : Fld := ⟨31, 0⟩
def SYS_CMD_DATA (s k : Nat) : Nat := 0x20008000 + 0x1000 * s + 4 * k
def SYS_CMD_DATA_word : Fld := ⟨31, 0⟩
/-- Word w of selective-wake entry s (R407). -/
def BNK_SEL (s w : Nat) : Nat := 0x20100100 + 32 * s + 4 * w
/-- Word w of MSI-X table entry v, and the pending bit array (R336). -/
def FAB_MSIX (v w : Nat) : Nat := 0x200C4000 + 16 * v + 4 * w
def FAB_PBA : Nat := 0x200C4800

/-- What a write does to a field (R8): RW loads the written value (within the field's stated range, R471), W1C clears the
bits written 1. RO, WO and reserved fields are not listed: a write leaves the stored bits as they are. -/
inductive FAcc where
  | rw (hi lo : Nat)
  | rwr (hi lo min max : Nat)
  | w1c (hi lo : Nat)
  deriving DecidableEq, Repr

/-- A register of a block, or an array of them: offset, two strides and counts, reset value, writable fields. -/
structure RegDesc where
  off : Nat
  s1 : Nat
  c1 : Nat
  s2 : Nat
  c2 : Nat
  reset : Nat
  fields : List FAcc
  deriving DecidableEq, Repr

def regsHLT0 : List RegDesc :=
  [⟨0x0, 4, 1, 4, 1, 0x0, []⟩,
   ⟨0x4, 4, 1, 4, 1, 0x0, []⟩,
   ⟨0x8, 4, 1, 4, 1, 0x0, [.rw 31 0]⟩,
   ⟨0x10, 4, 1, 4, 1, 0x0, [.rw 31 0]⟩,
   ⟨0x14, 4, 1, 4, 1, 0x0, [.rw 31 0]⟩,
   ⟨0x18, 4, 1, 4, 1, 0x0, [.rw 1 1]⟩,
   ⟨0x1C, 4, 1, 4, 1, 0x0, [.w1c 0 0, .w1c 1 1]⟩,
   ⟨0x100, 4, 1, 4, 1, 0x190F0200, [.rw 0 0, .rwr 15 8 0 100, .rwr 23 16 15 250, .rw 31 24]⟩,
   ⟨0x104, 4, 1, 4, 1, 0x19B4352, [.rwr 9 0 780 900, .rwr 19 10 720 900, .rw 27 20]⟩,
   ⟨0x108, 4, 1, 4, 1, 0x352, []⟩,
   ⟨0x110, 4, 1, 4, 1, 0x140, [.rw 6 0, .rw 8 8]⟩,
   ⟨0x114, 4, 1, 4, 1, 0x0, [.w1c 16 16, .w1c 17 17, .w1c 18 18, .w1c 19 19]⟩,
   ⟨0x200, 4, 32, 4, 1, 0x0, [.rw 31 16]⟩,
   ⟨0x300, 4, 32, 4, 1, 0x0, [.w1c 17 17]⟩,
   ⟨0x400, 4, 24, 4, 1, 0x0, []⟩,
   ⟨0x480, 4, 1, 4, 1, 0x827D78, [.rwr 7 0 85 124]⟩,
   ⟨0x500, 4, 12, 4, 1, 0x0, [.w1c 12 12, .w1c 13 13]⟩,
   ⟨0x540, 4, 4, 4, 1, 0x39802BC, [.rw 11 0, .rw 27 16]⟩,
   ⟨0x550, 4, 2, 4, 1, 0x3B10357, [.rw 11 0, .rw 27 16]⟩,
   ⟨0x558, 4, 2, 4, 1, 0x76206AE, [.rw 11 0, .rw 27 16]⟩,
   ⟨0x560, 4, 2, 4, 1, 0xD890C3F, [.rw 11 0, .rw 27 16]⟩,
   ⟨0x568, 4, 1, 4, 1, 0x4EC0474, [.rw 11 0, .rw 27 16]⟩,
   ⟨0x56C, 4, 1, 4, 1, 0x3B10357, [.rw 11 0, .rw 27 16]⟩]

/-- The HLT block's registers. -/
def regsHLT : List RegDesc := regsHLT0

def regsSYS0 : List RegDesc :=
  [⟨0x200, 4, 1, 4, 1, 0x0, []⟩,
   ⟨0x204, 4, 1, 4, 1, 0x0, []⟩,
   ⟨0x210, 4, 4, 4, 1, 0x0, []⟩,
   ⟨0x300, 4, 1, 4, 1, 0x0, []⟩,
   ⟨0x304, 4, 1, 4, 1, 0x0, []⟩,
   ⟨0x308, 4, 1, 4, 1, 0x0, []⟩,
   ⟨0x30C, 4, 1, 4, 1, 0x0, []⟩,
   ⟨0x310, 4, 1, 4, 1, 0x0, []⟩,
   ⟨0x314, 4, 1, 4, 1, 0x0, []⟩,
   ⟨0x0, 4, 1, 4, 1, 0x0, [.rw 7 0]⟩,
   ⟨0x4, 4, 1, 4, 1, 0x0, []⟩,
   ⟨0x8, 4, 1, 4, 1, 0x0, [.rw 7 0]⟩,
   ⟨0xC, 4, 1, 4, 1, 0x0, [.w1c 2 2, .w1c 3 3, .w1c 4 4]⟩,
   ⟨0x100, 4, 1, 4, 1, 0x80, []⟩,
   ⟨0x104, 4, 1, 4, 1, 0xF93, []⟩,
   ⟨0x1000, 128, 8, 4, 16, 0x0, [.rw 31 0]⟩,
   ⟨0x1040, 128, 8, 4, 8, 0x0, []⟩,
   ⟨0x8000, 4096, 8, 4, 1024, 0x0, [.rw 31 0]⟩]

/-- The SYS block's registers. -/
def regsSYS : List RegDesc := regsSYS0

def regsSWC0 : List RegDesc :=
  [⟨0x0, 4, 1, 4, 1, 0x3, [.rw 1 0]⟩,
   ⟨0x4, 4, 1, 4, 1, 0x0, [.w1c 0 0, .w1c 1 1]⟩,
   ⟨0x8, 4, 1, 4, 1, 0x1388, [.rwr 16 0 0 100000]⟩,
   ⟨0xC, 4, 1, 4, 1, 0x7D0, [.rwr 16 0 100 100000]⟩,
   ⟨0x20, 4, 4, 4, 1, 0x186A0, [.rwr 19 0 0 1000000]⟩,
   ⟨0x30, 4, 2, 4, 1, 0x4E20, [.rwr 19 0 0 1000000]⟩,
   ⟨0x38, 4, 1, 4, 1, 0xFA0, [.rwr 19 0 0 1000000]⟩,
   ⟨0x3C, 4, 1, 4, 1, 0x3E8, [.rwr 19 0 0 1000000]⟩,
   ⟨0x40, 4, 8, 4, 1, 0x400, [.rwr 14 0 0 16384]⟩,
   ⟨0x100, 4, 32, 4, 1, 0x120, [.rw 0 0, .rw 1 1, .rw 2 2, .rwr 8 3 0 36]⟩,
   ⟨0x200, 8, 8, 4, 1, 0x0, [.rwr 7 0 0 64, .rwr 15 8 0 64, .rwr 23 16 0 64, .rwr 31 24 0 64]⟩,
   ⟨0x204, 8, 8, 4, 1, 0x8040000, [.rwr 7 0 0 64, .rwr 15 8 0 64, .rwr 23 16 0 64, .rwr 31 24 0 64]⟩,
   ⟨0x300, 16, 8, 4, 1, 0x40004000, []⟩,
   ⟨0x304, 16, 8, 4, 1, 0x0, []⟩,
   ⟨0x308, 16, 8, 4, 1, 0x0, []⟩,
   ⟨0x30C, 16, 8, 4, 1, 0x0, []⟩,
   ⟨0x380, 4, 1, 4, 1, 0x40804020, [.rw 7 0, .rw 15 8, .rw 23 16, .rw 31 24]⟩,
   ⟨0x384, 4, 1, 4, 1, 0x70B0D0E, [.rw 7 0, .rw 15 8, .rw 23 16, .rw 31 24]⟩,
   ⟨0x388, 4, 1, 4, 1, 0x70B0D0E0, [.rw 7 0, .rw 15 8, .rw 23 16, .rw 31 24]⟩,
   ⟨0x400, 4, 1, 4, 1, 0x1, [.rw 31 0]⟩,
   ⟨0x800, 16, 16, 4, 3, 0xFFFFFFFF, [.rw 15 0, .rw 31 16]⟩,
   ⟨0x80C, 16, 16, 4, 1, 0x9000000, [.rw 7 0, .rw 15 8, .rw 23 16, .rw 27 24]⟩,
   ⟨0x900, 4, 32, 4, 1, 0x0, [.rw 31 0]⟩,
   ⟨0xA00, 4, 1, 4, 1, 0x0, [.rw 12 0]⟩]

def regsSWC1 : List RegDesc :=
  [⟨0xA04, 4, 1, 4, 1, 0x0, []⟩,
   ⟨0xA08, 4, 1, 4, 1, 0x0, []⟩,
   ⟨0xA0C, 4, 1, 4, 1, 0x0, []⟩,
   ⟨0x1000, 64, 32, 4, 16, 0x0, []⟩,
   ⟨0x1800, 4, 1, 4, 1, 0x0, []⟩]

/-- The SWC block's registers. -/
def regsSWC : List RegDesc := regsSWC0 ++ regsSWC1

def regsTMG0 : List RegDesc :=
  [⟨0x0, 4, 1, 4, 1, 0x0, []⟩,
   ⟨0x100, 4, 32, 4, 1, 0x20, [.rw 2 0, .rw 4 3, .rw 5 5, .rw 17 6]⟩,
   ⟨0x200, 4, 28, 4, 1, 0x1FAC688, [.rw 23 0, .rw 25 24]⟩,
   ⟨0x400, 4, 1, 4, 1, 0x0, [.rw 11 0]⟩,
   ⟨0x404, 4, 1, 4, 1, 0x0, [.rw 23 0, .rw 31 31]⟩,
   ⟨0x408, 4, 1, 4, 1, 0x0, [.rw 23 0]⟩,
   ⟨0x40C, 4, 1, 4, 1, 0x0, []⟩,
   ⟨0x410, 4, 1, 4, 1, 0x0, []⟩,
   ⟨0x414, 4, 1, 4, 1, 0x0, []⟩,
   ⟨0x418, 4, 1, 4, 1, 0x0, []⟩,
   ⟨0x1000, 8, 256, 4, 1, 0x14000000, [.rw 23 0, .rw 29 24, .rw 31 31]⟩,
   ⟨0x1004, 8, 256, 4, 1, 0x0, [.rw 23 0]⟩,
   ⟨0x1800, 4, 256, 4, 1, 0x0, []⟩,
   ⟨0x2000, 4, 1, 4, 1, 0x0, [.rw 9 0, .rw 10 10, .rw 15 11]⟩,
   ⟨0x2004, 4, 1, 4, 1, 0x0, [.rw 31 0]⟩,
   ⟨0x2100, 32, 28, 4, 1, 0x0, [.rw 0 0, .rw 1 1, .w1c 4 4, .w1c 5 5]⟩,
   ⟨0x2104, 32, 28, 4, 1, 0x0, [.rwr 10 0 0 1024, .rwr 26 16 0 1024]⟩,
   ⟨0x2108, 32, 28, 4, 1, 0x0, [.rw 31 0]⟩,
   ⟨0x210C, 32, 28, 4, 1, 0x0, [.rw 31 0]⟩,
   ⟨0x2110, 32, 28, 4, 1, 0x0, [.rw 31 0]⟩,
   ⟨0x2114, 32, 28, 4, 1, 0x0, [.rw 31 0]⟩,
   ⟨0x2118, 32, 28, 4, 1, 0x0, [.rw 31 0]⟩,
   ⟨0x211C, 32, 28, 4, 1, 0x190, [.rw 11 0]⟩,
   ⟨0x2800, 8, 28, 4, 2, 0x0, []⟩]

def regsTMG1 : List RegDesc :=
  [⟨0x3000, 4, 1, 4, 1, 0x6400, [.rw 0 0, .rwr 17 8 1 1000]⟩,
   ⟨0x3004, 4, 1, 4, 1, 0x0, [.rw 12 0]⟩,
   ⟨0x3008, 4, 1, 4, 1, 0x0, []⟩,
   ⟨0x300C, 4, 1, 4, 1, 0x0, []⟩,
   ⟨0x3100, 4, 64, 4, 1, 0x0, [.rw 12 0, .rw 13 13, .rwr 18 14 0 20, .rw 31 31]⟩,
   ⟨0x4000, 128, 64, 4, 16, 0x0, []⟩,
   ⟨0x4040, 128, 64, 4, 16, 0x0, []⟩]

/-- The TMG block's registers. -/
def regsTMG : List RegDesc := regsTMG0 ++ regsTMG1

def regsCSG0 : List RegDesc :=
  [⟨0x0, 4, 1, 4, 1, 0x0, [.rw 0 0, .rw 1 1]⟩,
   ⟨0x4, 4, 1, 4, 1, 0x0, [.w1c 1 1, .w1c 2 2]⟩,
   ⟨0x8, 4, 1, 4, 1, 0x0, [.rw 31 0]⟩,
   ⟨0xC, 4, 1, 4, 1, 0x0, [.rw 15 0]⟩,
   ⟨0x10, 4, 1, 4, 1, 0x0, []⟩,
   ⟨0x20, 4, 1, 4, 1, 0x0, []⟩,
   ⟨0x100, 4, 1, 4, 1, 0x0, [.rw 8 0]⟩,
   ⟨0x108, 4, 1, 4, 1, 0x1, []⟩,
   ⟨0x110, 4, 6, 4, 1, 0x0, []⟩,
   ⟨0x1000, 64, 64, 4, 1, 0x0, [.rw 0 0, .rw 14 1, .rw 15 15, .rw 20 16, .rw 21 21, .rw 22 22, .rw 23 23]⟩,
   ⟨0x1004, 64, 64, 4, 1, 0x0, [.rw 13 0, .rw 14 14]⟩,
   ⟨0x1008, 64, 64, 4, 1, 0x0, [.rwr 13 0 0 9215, .rw 19 14, .rw 27 20, .rw 31 28]⟩,
   ⟨0x100C, 64, 64, 4, 1, 0x0, [.rw 13 0, .rw 21 14]⟩,
   ⟨0x1010, 64, 64, 4, 1, 0xA0101E, [.rwr 9 0 1 1023, .rwr 19 10 1 1023, .rwr 29 20 1 1023]⟩,
   ⟨0x1014, 64, 64, 4, 1, 0x640000, [.rw 15 0, .rwr 31 16 1 65535]⟩,
   ⟨0x1018, 64, 64, 4, 1, 0x186A0, [.rwr 19 0 100 1000000]⟩,
   ⟨0x101C, 64, 64, 4, 1, 0x1F403E8, [.rw 15 0, .rw 31 16]⟩,
   ⟨0x1020, 64, 64, 4, 1, 0x64, [.rw 15 0, .rw 31 16]⟩,
   ⟨0x1024, 64, 64, 4, 1, 0x0, [.rw 31 0]⟩,
   ⟨0x1028, 64, 64, 4, 1, 0x0, [.rw 15 0, .rw 27 16, .rw 28 28]⟩,
   ⟨0x102C, 64, 64, 4, 1, 0x7D0, [.rw 15 0]⟩,
   ⟨0x1030, 64, 64, 4, 1, 0x0, [.w1c 8 4]⟩,
   ⟨0x1034, 64, 64, 4, 1, 0x0, []⟩,
   ⟨0x1038, 64, 64, 4, 1, 0x0, []⟩]

def regsCSG1 : List RegDesc :=
  [⟨0x103C, 64, 64, 4, 1, 0x0, []⟩,
   ⟨0x4000, 4, 512, 4, 1, 0x320A40, [.rw 0 0, .rwr 6 1 1 32, .rwr 15 8 1 255, .rwr 31 16 1 65535]⟩]

/-- The CSG block's registers. -/
def regsCSG : List RegDesc := regsCSG0 ++ regsCSG1

def regsETH0 : List RegDesc :=
  [⟨0x0, 4, 1, 4, 1, 0x40, [.rw 0 0, .rw 2 1, .rw 3 3, .rw 4 4, .rw 7 5]⟩,
   ⟨0x4, 4, 1, 4, 1, 0x0, [.w1c 5 5]⟩,
   ⟨0x10, 4, 1, 4, 1, 0xA05F2, [.rwr 13 0 64 9216, .rw 14 14, .rw 15 15, .rw 16 16, .rw 17 17, .rwr 22 18 1 16, .rw 23 23]⟩,
   ⟨0x14, 4, 1, 4, 1, 0x0, [.w1c 0 0, .w1c 1 1]⟩,
   ⟨0x40, 4, 16, 4, 1, 0x0, [.rw 31 0]⟩,
   ⟨0x80, 4, 1, 4, 1, 0x0, [.rw 15 0, .rw 31 16]⟩,
   ⟨0x90, 4, 1, 4, 1, 0x0, []⟩,
   ⟨0x94, 4, 1, 4, 1, 0x0, []⟩,
   ⟨0x98, 4, 1, 4, 1, 0x0, []⟩,
   ⟨0x9C, 4, 1, 4, 1, 0x0, []⟩,
   ⟨0xA0, 4, 1, 4, 1, 0x0, [.rw 0 0, .rw 1 1]⟩,
   ⟨0xA4, 4, 1, 4, 1, 0x0, [.w1c 2 2, .w1c 3 3, .w1c 4 4]⟩,
   ⟨0x100, 4, 1, 4, 1, 0xB4, [.rw 0 0, .rw 1 1, .rw 2 2, .rw 4 3, .rw 5 5, .rw 6 6, .rw 7 7, .rw 9 8]⟩,
   ⟨0x104, 4, 1, 4, 1, 0x0, [.rwr 30 0 0 1073741824]⟩,
   ⟨0x108, 4, 1, 4, 1, 0x0, [.w1c 0 0, .w1c 1 1, .w1c 2 2]⟩,
   ⟨0x110, 4, 1, 4, 1, 0x0, [.rw 31 0]⟩,
   ⟨0x114, 4, 1, 4, 1, 0x0, [.rw 31 0]⟩,
   ⟨0x180, 8, 8, 4, 1, 0x0, [.rw 31 0]⟩,
   ⟨0x184, 8, 8, 4, 1, 0x0, [.rw 31 0]⟩,
   ⟨0x800, 4, 18, 4, 1, 0x0, []⟩,
   ⟨0x900, 4, 1, 4, 1, 0x0, []⟩]

/-- The ETH block's registers. -/
def regsETH : List RegDesc := regsETH0

def regsCAN0 : List RegDesc :=
  [⟨0x0, 4, 1, 4, 1, 0x1800, [.rw 2 0, .rw 3 3, .rw 5 5, .rw 6 6, .rw 7 7, .rw 8 8, .rw 10 9, .rw 11 11, .rw 12 12]⟩,
   ⟨0x4, 4, 1, 4, 1, 0x0, [.w1c 4 4, .w1c 5 5, .w1c 6 6, .w1c 7 7]⟩,
   ⟨0x8, 4, 1, 4, 1, 0x0, []⟩,
   ⟨0x10, 4, 1, 4, 1, 0x1F3EFC0, [.rw 4 0, .rwr 12 5 1 255, .rw 19 13, .rw 26 20]⟩,
   ⟨0x14, 4, 1, 4, 1, 0x8273BC0, [.rw 4 0, .rw 10 5, .rw 15 11, .rw 20 16, .rw 21 21, .rw 28 22]⟩,
   ⟨0x18, 4, 1, 4, 1, 0x1A10880, [.rw 4 0, .rw 10 5, .rw 15 11, .rw 20 16, .rw 21 21, .rw 28 22]⟩,
   ⟨0x1C, 4, 1, 4, 1, 0x40608, [.rwr 5 0 1 63, .rwr 11 6 1 63, .rw 17 12, .rw 18 18]⟩,
   ⟨0x20, 4, 1, 4, 1, 0x1, [.rw 0 0, .rw 1 1, .rw 15 8]⟩,
   ⟨0x30, 4, 1, 4, 1, 0x46, [.rw 2 0, .rw 6 4]⟩,
   ⟨0x40, 4, 1, 4, 1, 0x0, [.rw 8 0]⟩,
   ⟨0x44, 4, 1, 4, 1, 0x0, [.rw 31 0]⟩,
   ⟨0x48, 4, 1, 4, 1, 0x0, [.rw 31 0]⟩,
   ⟨0x4C, 4, 1, 4, 1, 0x0, [.rwr 9 0 0 512]⟩,
   ⟨0x60, 4, 1, 4, 1, 0x4000000, [.w1c 16 16, .w1c 17 17]⟩,
   ⟨0x64, 4, 1, 4, 1, 0x0, [.rw 0 0]⟩,
   ⟨0x68, 4, 1, 4, 1, 0x0, []⟩,
   ⟨0x70, 4, 1, 4, 1, 0x10000, []⟩,
   ⟨0x74, 4, 1, 4, 1, 0x0, []⟩,
   ⟨0x100, 32, 3, 4, 1, 0x0, [.w1c 5 5]⟩,
   ⟨0x104, 32, 3, 4, 1, 0x0, []⟩,
   ⟨0x108, 32, 3, 4, 1, 0x0, []⟩,
   ⟨0x10C, 32, 3, 4, 1, 0x0, []⟩,
   ⟨0x110, 32, 3, 4, 1, 0x0, []⟩,
   ⟨0x180, 4, 19, 4, 1, 0x0, []⟩]

def regsCAN1 : List RegDesc :=
  [⟨0x1E0, 4, 1, 4, 1, 0x0, []⟩,
   ⟨0x200, 4, 8, 4, 1, 0x0, [.rw 31 0]⟩,
   ⟨0x220, 4, 16, 4, 1, 0x0, [.rw 31 0]⟩,
   ⟨0x260, 4, 1, 4, 1, 0x0, []⟩,
   ⟨0x400, 4, 8, 4, 1, 0x0, []⟩]

/-- The CAN block's registers. -/
def regsCAN : List RegDesc := regsCAN0 ++ regsCAN1

def regsTBL0 : List RegDesc :=
  [⟨0x0, 4, 1, 4, 1, 0x1, [.rw 0 0, .rw 1 1]⟩,
   ⟨0x4, 4, 1, 4, 1, 0x0, [.w1c 0 0, .w1c 1 1, .w1c 2 2, .w1c 3 3]⟩,
   ⟨0xC, 4, 1, 4, 1, 0x1, [.rw 31 0]⟩,
   ⟨0x10, 4, 1, 4, 1, 0x12C03E8, [.rwr 15 0 10 65535, .rwr 30 16 1 32767]⟩,
   ⟨0x14, 4, 1, 4, 1, 0x0, []⟩,
   ⟨0x20, 4, 1, 4, 1, 0x0, []⟩,
   ⟨0x24, 4, 1, 4, 1, 0x0, []⟩,
   ⟨0x28, 4, 1, 4, 1, 0x0, []⟩,
   ⟨0x100, 4, 32, 4, 1, 0xC001, [.rw 11 0, .rw 12 12, .rw 13 13, .rw 14 14, .rw 15 15, .rw 16 16]⟩,
   ⟨0x200, 4, 13, 4, 1, 0x0, []⟩,
   ⟨0x280, 4, 1, 4, 1, 0x0, []⟩]

/-- The TBL block's registers. -/
def regsTBL : List RegDesc := regsTBL0

def regsKPR0 : List RegDesc :=
  [⟨0x0, 4, 1, 4, 1, 0x80032, [.rw 15 0, .rw 19 16]⟩,
   ⟨0x4, 4, 1, 4, 1, 0x0, [.w1c 1 1]⟩,
   ⟨0x10, 4, 1, 4, 1, 0x0, [.rw 9 0]⟩,
   ⟨0x14, 4, 1, 4, 1, 0x0, []⟩,
   ⟨0x18, 4, 1, 4, 1, 0x0, []⟩,
   ⟨0x1C, 4, 1, 4, 1, 0x0, []⟩,
   ⟨0x20, 4, 1, 4, 1, 0x0, []⟩,
   ⟨0x40, 4, 9, 4, 1, 0x0, []⟩,
   ⟨0x100, 4, 64, 4, 1, 0x0, []⟩,
   ⟨0x200, 4, 1, 4, 1, 0x0, []⟩]

/-- The KPR block's registers. -/
def regsKPR : List RegDesc := regsKPR0

def regsPLC0 : List RegDesc :=
  [⟨0x0, 4, 1, 4, 1, 0x0, [.w1c 15 15]⟩,
   ⟨0x4, 4, 1, 4, 1, 0xC8080146, []⟩,
   ⟨0x8, 4, 1, 4, 1, 0x3E80190, []⟩,
   ⟨0x10, 4, 1, 4, 1, 0x0, []⟩,
   ⟨0x14, 4, 1, 4, 1, 0x0, []⟩,
   ⟨0x18, 4, 1, 4, 1, 0x3, []⟩,
   ⟨0x20, 4, 1, 4, 1, 0x0, []⟩,
   ⟨0x24, 4, 1, 4, 1, 0x0, []⟩,
   ⟨0x30, 4, 1, 4, 1, 0x0, []⟩,
   ⟨0x100, 4, 64, 4, 1, 0x0, []⟩,
   ⟨0x200, 4, 6, 4, 1, 0x0, []⟩,
   ⟨0x280, 4, 1, 4, 1, 0x0, []⟩,
   ⟨0x1000, 4, 1024, 4, 1, 0x0, []⟩,
   ⟨0x2000, 16, 64, 4, 4, 0x0, []⟩,
   ⟨0x2400, 4, 64, 4, 1, 0x0, []⟩]

/-- The PLC block's registers. -/
def regsPLC : List RegDesc := regsPLC0

def regsFAB0 : List RegDesc :=
  [⟨0x0, 4, 1, 4, 1, 0x3201, [.rw 0 0, .rwr 15 8 10 150]⟩,
   ⟨0x4, 4, 1, 4, 1, 0x0, []⟩,
   ⟨0x8, 4, 1, 4, 1, 0x0, []⟩,
   ⟨0xC, 4, 1, 4, 1, 0x0, []⟩,
   ⟨0x10, 4, 1, 4, 1, 0x0, []⟩,
   ⟨0x14, 4, 1, 4, 1, 0x0, []⟩,
   ⟨0x18, 4, 1, 4, 1, 0x0, [.rw 31 0]⟩,
   ⟨0x1C, 4, 1, 4, 1, 0x0, [.rw 15 0]⟩,
   ⟨0x100, 4, 8, 4, 1, 0x0, [.rw 1 0]⟩,
   ⟨0x120, 4, 8, 4, 1, 0x0, [.w1c 8 8]⟩,
   ⟨0x140, 8, 8, 4, 1, 0x0, []⟩,
   ⟨0x144, 8, 8, 4, 1, 0x0, []⟩,
   ⟨0x200, 8, 32, 4, 1, 0x0, []⟩,
   ⟨0x204, 8, 32, 4, 1, 0x0, []⟩,
   ⟨0x300, 4, 32, 4, 1, 0x0, []⟩,
   ⟨0x400, 4, 1, 4, 1, 0x6405, [.rw 2 0, .rwr 15 8 1 255]⟩,
   ⟨0x404, 4, 1, 4, 1, 0x0, []⟩,
   ⟨0x408, 4, 1, 4, 1, 0x0, []⟩,
   ⟨0x40C, 4, 1, 4, 1, 0x0, []⟩,
   ⟨0x410, 4, 1, 4, 1, 0x0, [.rw 4 0]⟩,
   ⟨0x414, 4, 1, 4, 1, 0x0, [.rw 31 0]⟩,
   ⟨0x418, 4, 1, 4, 1, 0x0, []⟩,
   ⟨0x500, 8, 4, 4, 1, 0x0, [.rw 0 0, .rw 1 1, .rw 6 2]⟩,
   ⟨0x504, 8, 4, 4, 1, 0x0, [.rw 15 0]⟩]

def regsFAB1 : List RegDesc :=
  [⟨0x600, 4, 1, 4, 1, 0x0, [.w1c 0 0, .w1c 1 1, .w1c 2 2, .w1c 3 3, .w1c 4 4]⟩,
   ⟨0x604, 4, 1, 4, 1, 0x1F, [.rw 4 0]⟩,
   ⟨0x800, 4, 14, 4, 1, 0x0, []⟩,
   ⟨0x880, 4, 1, 4, 1, 0x0, []⟩,
   ⟨0x4000, 16, 8, 4, 3, 0x0, [.rw 31 0]⟩,
   ⟨0x400C, 16, 8, 4, 1, 0x1, [.rw 0 0]⟩,
   ⟨0x4800, 4, 2, 4, 1, 0x0, []⟩]

/-- The FAB block's registers. -/
def regsFAB : List RegDesc := regsFAB0 ++ regsFAB1

def regsSEC0 : List RegDesc :=
  [⟨0x0, 4, 1, 4, 1, 0x1F4, [.rwr 13 0 200 10000]⟩,
   ⟨0x4, 4, 1, 4, 1, 0x0, []⟩,
   ⟨0x8, 4, 1, 4, 1, 0x7F, [.w1c 15 15]⟩,
   ⟨0xC, 4, 1, 4, 1, 0x0, [.w1c 0 0, .w1c 1 1]⟩,
   ⟨0x100, 4, 8, 4, 1, 0x0, [.rw 31 0]⟩,
   ⟨0x120, 4, 1, 4, 1, 0x0, []⟩,
   ⟨0x124, 4, 1, 4, 1, 0x0, [.w1c 4 4]⟩,
   ⟨0x200, 4, 1, 4, 1, 0x0, [.rw 2 0, .rw 9 3, .rwr 16 10 0 67, .rw 23 17]⟩,
   ⟨0x204, 4, 1, 4, 1, 0x0, [.rw 31 0]⟩,
   ⟨0x208, 4, 1, 4, 1, 0x0, [.rwr 6 0 0 80]⟩,
   ⟨0x20C, 4, 1, 4, 1, 0x0, [.w1c 4 4]⟩,
   ⟨0x240, 4, 20, 4, 1, 0x0, [.rw 31 0]⟩,
   ⟨0x300, 4, 1, 4, 1, 0x0, []⟩,
   ⟨0x304, 4, 1, 4, 1, 0x0, [.w1c 4 4]⟩,
   ⟨0x308, 4, 1, 4, 1, 0x0, []⟩,
   ⟨0x400, 4, 8, 4, 1, 0x0, []⟩,
   ⟨0x480, 4, 1, 4, 1, 0x0, []⟩,
   ⟨0x1000, 8, 68, 4, 1, 0x0, []⟩,
   ⟨0x1004, 8, 68, 4, 1, 0x0, []⟩,
   ⟨0x800, 4, 1, 4, 1, 0x0, [.rw 1 0]⟩,
   ⟨0x804, 4, 1, 4, 1, 0x0, [.rw 31 0]⟩,
   ⟨0x808, 4, 1, 4, 1, 0x0, [.w1c 2 2]⟩,
   ⟨0x810, 4, 1, 4, 1, 0x0, [.rw 31 0]⟩,
   ⟨0x814, 4, 1, 4, 1, 0x0, [.rwr 21 0 0 2097152]⟩]

def regsSEC1 : List RegDesc :=
  [⟨0x818, 4, 1, 4, 1, 0x0, []⟩,
   ⟨0x840, 4, 8, 4, 1, 0x0, []⟩]

/-- The SEC block's registers. -/
def regsSEC : List RegDesc := regsSEC0 ++ regsSEC1

def regsBNK0 : List RegDesc :=
  [⟨0x0, 4, 1, 4, 1, 0x0, [.rw 3 3]⟩,
   ⟨0x4, 4, 1, 4, 1, 0x0, [.w1c 2 2, .w1c 11 11]⟩,
   ⟨0x10, 4, 1, 4, 1, 0x5, [.rwr 4 0 0 20]⟩,
   ⟨0x14, 4, 1, 4, 1, 0x0, []⟩,
   ⟨0x20, 4, 1, 4, 1, 0xFF, [.rw 7 0, .rw 15 8]⟩,
   ⟨0x24, 4, 1, 4, 1, 0x0, [.w1c 23 16, .w1c 31 24]⟩,
   ⟨0x28, 4, 1, 4, 1, 0x0, []⟩,
   ⟨0x30, 4, 1, 4, 1, 0xFFFFFF, [.rw 23 0]⟩,
   ⟨0x34, 4, 1, 4, 1, 0x0, [.w1c 23 0]⟩,
   ⟨0x200, 4, 1, 4, 1, 0x1F400C8, [.rwr 9 0 100 1000, .rwr 24 12 0 8000]⟩,
   ⟨0x400, 32, 12, 4, 1, 0x0, [.rwr 9 0 0 1000]⟩,
   ⟨0x404, 32, 12, 4, 1, 0x287D0400, [.rwr 9 0 0 1000, .rw 10 10, .rw 12 11, .rwr 26 13 100 10000, .rw 31 27]⟩,
   ⟨0x408, 32, 12, 4, 1, 0x64, [.rw 11 0]⟩,
   ⟨0x40C, 32, 12, 4, 1, 0x3C0000, [.rw 15 0, .rwr 25 16 1 600]⟩,
   ⟨0x410, 32, 12, 4, 1, 0x3203E8, [.rw 15 0, .rw 31 16]⟩,
   ⟨0x414, 32, 12, 4, 1, 0x0, [.w1c 14 14, .w1c 15 15, .w1c 17 17]⟩,
   ⟨0x418, 32, 12, 4, 1, 0x0, []⟩,
   ⟨0x41C, 32, 12, 4, 1, 0x0, []⟩,
   ⟨0x100, 32, 8, 4, 5, 0x0, [.rw 31 0]⟩,
   ⟨0x114, 32, 8, 4, 1, 0x0, []⟩]

/-- The BNK block's registers. -/
def regsBNK : List RegDesc := regsBNK0

def regsFLT0 : List RegDesc :=
  [⟨0x0, 4, 1, 4, 1, 0x60064, [.rwr 15 0 1 65535, .rw 16 16, .rw 19 17]⟩,
   ⟨0x4, 4, 1, 4, 1, 0x0, [.w1c 6 6]⟩,
   ⟨0x10, 4, 4, 4, 1, 0x0, []⟩,
   ⟨0x20, 4, 1, 4, 1, 0x0, []⟩,
   ⟨0x30, 4, 4, 4, 1, 0x0, []⟩,
   ⟨0x100, 4, 4, 4, 1, 0x0, []⟩,
   ⟨0x110, 4, 1, 4, 1, 0x0, []⟩,
   ⟨0x114, 4, 1, 4, 1, 0x0, [.w1c 13 13, .w1c 14 14]⟩,
   ⟨0x120, 4, 8, 4, 1, 0x0, []⟩,
   ⟨0x140, 4, 16, 4, 1, 0x0, []⟩,
   ⟨0x180, 4, 1, 4, 1, 0x0, []⟩,
   ⟨0x300, 4, 1, 4, 1, 0x10040, [.rwr 15 0 1 65535, .rw 16 16]⟩,
   ⟨0x304, 4, 1, 4, 1, 0x0, [.rwr 6 0 0 83]⟩,
   ⟨0x308, 4, 1, 4, 1, 0x0, []⟩,
   ⟨0x30C, 4, 1, 4, 1, 0x0, []⟩,
   ⟨0x310, 4, 1, 4, 1, 0x0, []⟩,
   ⟨0x400, 4, 1, 4, 1, 0x0, [.rwr 8 0 0 321]⟩,
   ⟨0x404, 4, 1, 4, 1, 0x0, []⟩,
   ⟨0x408, 4, 1, 4, 1, 0x0, []⟩,
   ⟨0x500, 4, 1, 4, 1, 0x0, []⟩,
   ⟨0x504, 4, 1, 4, 1, 0x0, []⟩]

/-- The FLT block's registers. -/
def regsFLT : List RegDesc := regsFLT0

/-- The register of a block that occupies an offset, if one does. -/
def RegDesc.holds (d : RegDesc) (off : Nat) : Bool :=
  d.off ≤ off && (off - d.off) / d.s1 < d.c1 && (off - d.off) % d.s1 % d.s2 == 0 && (off - d.off) % d.s1 / d.s2 < d.c2

/-- A block of the register space at an address (R26): its registers and the address's offset in it. -/
def blockAt (a : Nat) : Option (List RegDesc × Nat) :=
  let o := a % 0x10000
  match a / 0x10000 with
  | 0x2000 => some (regsSYS, o)
  | 0x2001 => some (regsHLT, o)
  | 0x2002 => some (regsFLT, o)
  | 0x2003 => some (regsSWC, o)
  | 0x2004 => some (regsTMG, o)
  | 0x2005 => some (regsTBL, o)
  | 0x2006 => some (regsCSG, o)
  | 0x2008 => some (regsETH, a % 0x1000)
  | 0x2009 => if o < 0xC000 then some (regsETH, a % 0x1000) else none
  | 0x200A => some (regsCAN, a % 0x1000)
  | 0x200B => if o < 0x8000 then some (regsCAN, a % 0x1000) else none
  | 0x200C => some (regsFAB, o)
  | 0x200D => some (regsSEC, o)
  | 0x200E => some (regsKPR, o)
  | 0x200F => some (regsPLC, o)
  | 0x2010 => some (regsBNK, o)
  | _ => none

/-- The register at a physical address; none where the space is unmapped or no register occupies the offset (R30). -/
def regAt (a : Nat) : Option RegDesc :=
  match blockAt a with
  | some (l, o) => l.find? (fun d => d.holds o)
  | none => none

/-- Registers that exist on C0–C7 only: CAN_XBT and CAN_XPWM read zero at reset on C8–C23. -/
def canXlOnly (a : Nat) : Bool :=
  0x200A8000 ≤ a && a < 0x200B8000 && (a % 0x1000 == 0x18 || a % 0x1000 == 0x1C)

/-- The value a register holds after reset (R10). Registers that the model computes when they are read (queue counts,
selected windows, per-device values) do not use it. -/
def regDefault (a : Nat) : Word :=
  match regAt a with
  | some d => if canXlOnly a then 0 else BitVec.ofNat 32 d.reset
  | none => 0

/-- One field's part of a write (R8, R471). -/
def FAcc.write (old v : Word) (acc : Word) : FAcc → Word
  | .rw hi lo => (Fld.mk hi lo).put acc ((Fld.mk hi lo).get v)
  | .rwr hi lo mn mx => (Fld.mk hi lo).put acc (clampNat mn mx ((Fld.mk hi lo).get v))
  | .w1c hi lo => (Fld.mk hi lo).put acc ((Fld.mk hi lo).get (old &&& ~~~v))

/-- What the register holds after `v` is written over `old`. -/
def RegDesc.write (d : RegDesc) (old v : Word) : Word :=
  d.fields.foldl (fun acc f => FAcc.write old v acc f) old

end Sys2Proof.Machine
end

