-- ==== Sys2Proof/Machine/State.lean ====
section
/-! DEFINITION. The machine's state: plain data, every register, queue, buffer, counter, mode and pin that the spec gives.
Registers that software sees live in one sparse table (`regs`); what the spec gives beside them has named fields. -/

namespace Sys2Proof.Machine


/-- A PMBus transaction of the device (R50, R51). -/
inductive PmbCmd where
  | voutMode
  | vout (mv : Nat)
  /-- The read-back of a command. -/
  | readVout (mv : Nat)
  | statusWord
  | clearFaults
  deriving DecidableEq, Repr

/-- What leaves the device: frames, bus transactions and messages, newest first in `State.outputs`. -/
inductive Output where
  /-- An Ethernet frame at a port, preamble excluded, FCS included. -/
  | ethFrame (port : Nat) (bytes : List Byte)
  /-- A frame ended at once with an inverted FCS (R99, R169, R175). -/
  | ethAborted (port : Nat)
  /-- An MSI-X message (R336). -/
  | msix (vector addr : Nat) (data : Word)
  | pmbus (addr : Nat) (cmd : PmbCmd)
  /-- A dike link frame (R388). -/
  | dike (toBank : Bool) (frame : DWord)
  /-- An access answered with an error response (R29). -/
  | busError (m : Master) (addr : Nat)
  /-- The data of a register or memory read. -/
  | busRead (m : Master) (addr value : Nat)
  /-- TC10 signalling on a port: 0 sleep request, 1 accept, 2 refuse, 3 wake-up (R178). -/
  | tc10 (port signal : Nat)
  /-- A CAN frame that a channel has sent, as its record, an error frame, an acknowledgement, and a frame withdrawn before its
  point of no return (R188, R203, R205, R206). -/
  | canFrame (channel : Nat) (record : List Byte)
  | canError (channel : Nat)
  | canAck (channel : Nat)
  | canWithdrawn (channel : Nat)
  /-- A PCIe completion of a host access through an aperture; none is Completer Abort (R335). -/
  | completion (value : Option Nat)
  deriving DecidableEq, Repr

/-- A posting that a block holds until the event queue takes it (R429). -/
structure Posting where
  code : Nat
  cls : Nat
  inst : Nat
  detail : Nat
  ts : Nat
  /-- Posted escalated already by its own rule (R425). -/
  esc : Bool := false
  deriving DecidableEq, Repr

/-- Where the handling of a stored entry stands (R423, R431). -/
inductive Handling where
  | none      -- class below 3: nothing to handle
  | waiting   -- a fault that waits, unhandled
  | stacked   -- on the handling stack
  | ended     -- popped
  deriving DecidableEq, Repr

/-- A stored event queue entry (R428). -/
structure EvEntry where
  code : Nat
  cls : Nat
  esc : Bool
  inst : Nat
  detail : Nat
  ts : Nat
  gen : Nat
  slot : Nat
  read : Bool := false
  handling : Handling := .none
  deriving DecidableEq, Repr

/-- A fault on the handling stack: its storage slot, and whether 0x0302 was raised for this push (R425). -/
structure StackItem where
  slot : Nat
  timedOut : Bool := false
  deriving DecidableEq, Repr

/-- The error counts and last error of one memory (R412, R414). -/
structure EccMem where
  corrected : Nat := 0
  uncorrectable : Nat := 0
  addr : Nat := 0
  uncorr : Bool := false
  hard : Bool := false
  /-- 0x0F01 raised since the last clear. -/
  warned : Bool := false
  /-- Words that the patrol corrected when it last read them and that have not been written since. -/
  mended : Tab Nat := []
  /-- Words found uncorrectable that nothing has restored or written whole since (R411). -/
  lost : List Nat := []
  deriving DecidableEq, Repr

/-- The fault manager and event queue (lost at a logic-die reset, R433). -/
structure FltState where
  post : Tab (List Posting) := []
  /-- Stored entries, oldest first. -/
  queue : List EvEntry := []
  /-- Times each storage slot has been used. -/
  uses : Tab Nat := []
  /-- Handling stack, top first. -/
  stack : List StackItem := []
  ecc : Tab EccMem := []
  /-- Last raise of an event under a rate limit: key code × 4096 + unit, value elapsed ns + 1. -/
  lim : Tab Nat := []
  deriving DecidableEq, Repr

/-- The update journal's record (R375): the state, the target (0 vendor firmware, 1 to 4 profile slots), the digest of the inlet
image, and the deferred option. -/
structure Journal where
  state : Nat := 0
  target : Nat := 0
  length : Nat := 0
  digest : List Byte := []
  next : Nat := 0
  rb : Nat := 0
  deferred : Bool := false
  deriving DecidableEq, Repr

/-- A copy of the journal's record: its sequence number, its CRC-32C as it stands, and whether that fits (R375). -/
structure JournalCopy where
  rec_ : Journal := {}
  seq : Nat := 0
  crc : Nat := 0
  good : Bool := false
  deriving DecidableEq, Repr

/-- A copy of the rollback sub-counter: its value, its sequence number, its AES-CMAC where that does not verify, and whether it
does (R370). -/
structure SubCopy where
  value : Nat := 0
  seq : Nat := 0
  mac : List Byte := []
  valid : Bool := true
  deriving DecidableEq, Repr

/-- When the last completed scrub pass began: before shipping, at a gPTP time, or at an instant without one (R419). -/
inductive PassStart where
  | shipped
  | gptp (t : Nat)
  | unsynced (elapsed : Nat)
  deriving DecidableEq, Repr

/-- The MRAM's own state: it survives every reset (R417–R420, R427). -/
structure MramState where
  /-- Writes counted per 256-byte line. -/
  wear : Tab Nat := []
  /-- Lines remapped: line to spare line. -/
  remap : Tab Nat := []
  spareUsed : Nat := 0
  /-- Where the next entry of the event log ring goes, of 65,536 (R427). -/
  logNext : Nat := 0
  /-- Operating hours since the last completed scrub pass, beyond the device's reset value. -/
  hours : Nat := 0
  hoursCleared : Bool := false
  scrubActive : Bool := false
  scrubDue : Bool := false
  /-- Next line of the running pass. -/
  scrubPos : Nat := 0
  /-- The start of the running and of the last completed pass. -/
  scrubStart : PassStart := .shipped
  lastStart : PassStart := .shipped
  /-- 64-bit words that read as uncorrectable (R415). -/
  lost : List Nat := []
  /-- The device certificate of the boot record (R382). -/
  certificate : List Byte := Sys2Proof.Machine.Config.certificate
  journal0 : JournalCopy := {}
  journal1 : JournalCopy := {}
  sub0 : SubCopy := {}
  sub1 : SubCopy := {}
  /-- Start options of the boot record: the fallback profile, 4 for none (R65). -/
  fallback : Nat := 4
  /-- Digest of the bundle whose persistent block is saved, by share group (R280). -/
  saved : Tab (List Byte) := []
  deriving DecidableEq, Repr

/-- The device states of R54. -/
inductive DevState where
  | unpowered | bankOnly | logicReset | boot | cold | full | reduced
  deriving DecidableEq, Repr

/-- Where the bank die's supply sequence stands (R59, R60, R73, R77, R78). -/
inductive SeqPhase where
  | idle          -- no start in progress
  | waitLine      -- EN_V18 high, the 1 ms to EN_VLINE and EN_VCORE runs
  | waitPg        -- all enables high, SUP_PG awaited
  | waitRelease   -- SUP_PG high, the 1 ms to reset release runs
  | running       -- logic-die reset released
  | retryWait     -- a start failed, the 100 ms wait runs
  | brownWait     -- enables low until VBAT has been 6.0 V or more for 10 ms
  | vcoreHold     -- EN_VCORE held low for 2 ms
  deriving DecidableEq, Repr

/-- A wake input (R391, R393). `level` is the filtered level of the ball. -/
structure WakeIn where
  pin : Bool := false
  level : Bool := false
  filtering : Bool := false
  armed : Bool := false
  armTimer : Bool := true
  stuckTimer : Bool := false
  deriving DecidableEq, Repr

/-- The selective-wake entry in force on a channel (R396, R407). -/
structure SelEntry where
  index : Nat
  ide : Bool
  rate : Nat
  dlc : Nat
  dlcChk : Bool
  id : Nat
  idMask : Nat
  dmask : Nat
  deriving DecidableEq, Repr

/-- A heater channel's state beside its registers (R399–R404). -/
structure Heater where
  /-- A demand was written since the last reset release. -/
  demanded : Bool := false
  /-- A demand write waits for the next period start to count as fresh. -/
  pendFresh : Bool := false
  dec : Nat := 0
  shortOff : Bool := false
  openRun : Nat := 0
  /-- Measured since the channel was enabled. -/
  measured : Bool := false
  /-- θ with 8 fractional bits. -/
  theta : Nat := 0
  /-- Instants of the shorts, newest first (R402). -/
  shorts : List Nat := []
  /-- mA × mV × duty × ns since the last model update, up to the instant `since` (R403). -/
  energy : Nat := 0
  since : Nat := 0
  deriving DecidableEq, Repr

/-- A dike link write or read that has no response yet (R389). -/
structure DikeReq where
  /-- Whose access it is; none: the device's own. -/
  master : Option Master
  frame : DWord
  tries : Nat
  /-- The event that a fatal request names beside its frame (R426). -/
  event : Nat := 0
  deriving DecidableEq, Repr

/-- The bank die: it keeps its state through logic-die resets and sleep (R10, R16). -/
structure BankDie where
  enV18 : Bool := false
  enVline : Bool := false
  enVcore : Bool := false
  /-- The SUP_PG ball. -/
  supPg : Bool := false
  /-- EXT_RST_N held low, and its 2 ms minimum hold still running (R78). -/
  extLow : Bool := false
  minHold : Bool := false
  seq : SeqPhase := .idle
  /-- The 50 ms limit of R60 runs. -/
  pgTimer : Bool := false
  /-- Failed attempts of the present series, and since the last start that succeeded (R60). -/
  attempts : Nat := 0
  failed : Nat := 0
  /-- Reset record (R81). -/
  cause : Nat := 1
  fatalEvent : Nat := 0
  /-- Elapsed times of the class 7 resets counted by R80, newest first. -/
  fatals : List Nat := []
  reduced : Bool := false
  /-- A fatal request made and not yet acted on: its event code (R426). -/
  fatalReq : Option Nat := none
  /-- Elapsed ns at the last heartbeat (R75). -/
  lastHb : Nat := 0
  /-- A fatal sequence is in progress: the cause and event it will record (R77, R78). -/
  fatal : Option (Nat × Nat) := none
  /-- Heaters are held by the cranking band; its 100 ms, ride-through, overvoltage, 3.5 V and 6.0 V timers (R72, R390). -/
  crankHeld : Bool := false
  crankTimer : Bool := false
  /-- A VBAT reading was taken since power-up or clr_min: min_mv is valid. -/
  minValid : Bool := false
  /-- The instant at which the running ride-through timer expires (R390). -/
  rideEnd : Option Nat := none
  /-- Heaters are held by the overvoltage band. -/
  ovHeld : Bool := false
  ovTimer : Bool := false
  lowTimer : Bool := false
  brownTimer : Bool := false
  wakeIn : Tab WakeIn := []
  /-- Stuck findings made in sleep and not yet reported (R393). -/
  stuckNew : List Nat := []
  sel : Tab SelEntry := []
  /-- The instant of the last wake from bank only (R394). -/
  wokeAt : Option Nat := none
  /-- Channels whose frame decoder runs, and error overflows of the last wake not yet reported (R396). -/
  decoding : List Nat := []
  overflowNew : List Nat := []
  heaters : Tab Heater := []
  /-- The last update of the thermal model (R403). -/
  modelAt : Nat := 0
  /-- HTR groups 0–3 whose sensor is at 150 °C or more (R404). -/
  hot : Nat := 0
  /-- Elapsed times of the last 0x0E15 and 0x0E18 (at most once per 1 s), plus one. -/
  lastBudget : Nat := 0
  lastGuard : Nat := 0
  /-- Dike link: next write sequence number, the last one applied, and the open transaction (R388, R389). -/
  nextSeq : Nat := 0
  lastSeq : Option Nat := none
  open_ : Option DikeReq := none
  /-- Accesses posted behind the open one, in issue order (R14), each with whether its first frame and its answer arrive. -/
  posted : List (DikeReq × Bool × Bool) := []
  deriving DecidableEq, Repr

/-- Boot, pins and whole-device state of the logic die. -/
structure DevInfo where
  state : DevState := .boot
  /-- Elapsed ns at the reference of R62. -/
  bootRef : Nat := 0
  thermalWait : Bool := false
  /-- gPTP synchronised, and its time (R419). -/
  synced : Bool := false
  gptpTime : Nat := 0
  /-- Boot recovery (R369): only image commands from PCIe are served. -/
  recovery : Bool := false
  /-- The PCIe endpoint trains, is past its Configuration Request Retry Status, and has a link (R56, R64). -/
  pcieTrain : Bool := false
  pcieReady : Bool := false
  pcieUp : Bool := false
  /-- Uncorrectable errors that the endpoint reports (R333): Completer Abort in bit 15, Unsupported Request in bit 20. -/
  aer : Word := 0
  deriving DecidableEq, Repr

/-- Balls that the board drives and that outlive a reset. -/
structure Pins where
  psel : Nat := 0
  head : Bool := false
  /-- VBAT as last sampled, in mV. -/
  vbat : Nat := 24000
  perstN : Bool := false
  deriving DecidableEq, Repr

/-- What adds load: a stream, a map of the placer, a program with its tables (R45). -/
inductive LoadKind where
  | stream | placement | program
  deriving DecidableEq, Repr

/-- Health and timing: state beside the HLT registers (lost at a logic-die reset). -/
structure HltState where
  swapPending : Bool := false
  /-- Consecutive periods above lower_pct (the law's `above`). -/
  above : Nat := 0
  everEnabled : Bool := false
  /-- Monitors found faulty (latched until a logic-die reset, R44). -/
  faulty : Nat := 0
  havePrev : Bool := false
  vcoreChanged : Bool := false
  marginNeg : Bool := false
  /-- Sensors 0–23 found invalid (R40). -/
  tempBad : Nat := 0
  /-- A reading was taken since the reset: max_hold is valid. -/
  tempSeen : Bool := false
  warnActive : Bool := false
  limitActive : Bool := false
  critTimer : Bool := false
  /-- VCORE monitors below 680 mV (R43). -/
  underTimer : Nat := 0
  /-- The open PMBus transaction and its repeats so far, and the commands that wait for its end (R51). -/
  pmb : Option (PmbCmd × Nat) := none
  pmbWait : List PmbCmd := []
  /-- The start read found a format that is not linear: no VOUT_COMMAND is issued (R50). -/
  notLinear : Bool := false
  /-- The last change of the command was a raise (R51). -/
  lastRaise : Bool := false
  /-- Elapsed ns of the last write of need_swap. -/
  swapAt : Nat := 0
  /-- Higher needs were swapped in by the write at this instant, and no period since has reached the floor (R45). -/
  raising : Option Nat := none
  /-- The load for which the firmware has swapped in higher needs, until it is committed or refused (R45). -/
  asked : Option LoadKind := none
  deriving DecidableEq, Repr

/-- The content of a flooded fabric frame, whose byte layout the manual does not give. An ASSIGN and its acknowledgements
carry which repetition they belong to. -/
inductive FabMsg where
  | lsa (l : Lsa)
  | assign (a : Assign) (rep : Nat)
  | ack (id epoch rep : Nat)
  | commit (a : Assign)
  deriving DecidableEq, Repr

/-- A policer (R116). The level is in units of 1/8,000,000 byte, so that kbit/s × ns is exact. -/
structure Policer where
  rate : Nat := 0
  burst : Nat := 0
  en : Bool := false
  level : Int := 0
  pass : Nat := 0
  drop : Nat := 0
  /-- Elapsed ns at which the level was last brought up to date. -/
  last : Nat := 0
  deriving DecidableEq, Repr

/-- A shaper's credit, in the same units (R118). -/
structure Shaper where
  credit : Int := 0
  last : Nat := 0
  deriving DecidableEq, Repr

/-- A schedule in force or captured (R121, R126). -/
structure Sched where
  list : Nat
  len : Nat
  cycle : Nat
  base : Nat
  deriving DecidableEq, Repr

/-- A pending schedule change and its switch instant (R126). -/
structure TidePending where
  sched : Sched
  at_ : Nat
  deriving DecidableEq, Repr

/-- A port's tide table: the operating schedule, the pending change, the gate states in force, and the gate states held
after a step with the instant that ends the hold (R39, R122, R126). -/
structure TideSched where
  oper : Option Sched := none
  pending : Option TidePending := none
  gates : Nat := 0xFF
  held : Option (Nat × Nat) := none
  deriving DecidableEq, Repr

/-- The traffic manager beside its registers. -/
structure TmState where
  pol : Tab Policer := []
  shp : Tab Shaper := []
  scheds : Tab TideSched := []
  /-- Tide table entries: port × 2,048 + list × 1,024 + index. -/
  entries : Tab Word := []
  wmDepth : Tab Nat := []
  wmDelay : Tab Nat := []
  /-- Histogram selections in force, and the slots whose written selection waits for a period boundary (R130). -/
  histSel : Tab Word := []
  histPend : List Nat := []
  deriving DecidableEq, Repr

/-- The header fields of a fabric frame; inside the device they travel with the frame (R305, R306). -/
structure FabHdr where
  type : Nat
  tc : Nat := 0
  colour : Nat := 0
  seqValid : Bool := false
  dst : Nat := 0xFF
  src : Nat := 0xFE
  epoch : Nat := 0
  seq : Nat := 0
  hop : Nat := 32
  tag : Nat := 0
  /-- The header is completed when the frame leaves (R318). -/
  fresh : Bool := false
  deriving DecidableEq, Repr

/-- What crosses the switch: an Ethernet frame, a CAN record, a fabric message, or a fabric frame of a type other than
STREAM (R197, R261, R306). -/
inductive FrameKind where
  | eth | canRecord | message | fabric
  deriving DecidableEq, Repr

/-- A frame held in a bank, or staged: its frame record and internal header (R84, R113, R166, R198). -/
structure Frame where
  id : Nat := 0
  input : Nat
  kind : FrameKind := .eth
  /-- Destination address to the last byte before the FCS; a record, a message, or the data after a fabric header. -/
  data : List Byte
  tc : Nat := 0
  colour : Nat := 0
  handle : Option Nat := none
  fab : Option FabHdr := none
  /-- Content of a flooded fabric frame that this device originates or passes on. -/
  msg : Option FabMsg := none
  /-- Status word of a delivered bad frame (R166). -/
  bad : Option Nat := none
  /-- Routine and argument in the internal header (R198, R282). -/
  routine : Option (Nat × Nat) := none
  /-- Receive entry of the CAN record: channel and entry number (R199). -/
  canEntry : Option (Nat × Nat) := none
  /-- Receive timestamp (R176) and transmit timestamp mark (R177). -/
  ts : Nat := 0
  txTag : Option Nat := none
  /-- Arrival of the first cell, in elapsed ns (R97, R104). -/
  arrive : Nat := 0
  bank : Nat := 0
  /-- Queue whose berm supplied the cells; none: the bank's pool (R89). -/
  berm : Option Nat := none
  cells : Nat := 0
  /-- The last cell has been written. -/
  complete : Bool := false
  cut : Bool := false
  native : Bool := false
  /-- Destination set after admission, and the destinations of it not yet served (R84, R103). -/
  dest : List Nat := []
  residue : List Nat := []
  begun : List Nat := []
  /-- When the last cell was written, in elapsed ns (R104). -/
  done : Nat := 0
  deriving DecidableEq, Repr

/-- A frame that the MAC has started while it is in transfer, as it leaves (R168, R173): its bytes, none where it is discarded,
and the key slot that protects it (R175). -/
structure TxFrame where
  bytes : Option (List Byte)
  slot : Option Nat := none
  /-- The slot has been rewritten since the frame's start (R354). -/
  stale : Bool := false
  deriving DecidableEq, Repr

/-- A connection of the matcher, until the last cell of its frame has been transferred (R100). -/
structure Xfer where
  input : Nat
  output : Nat
  tc : Nat
  id : Nat
  /-- The MAC has started the frame. -/
  tx : Option TxFrame := none
  deriving DecidableEq, Repr

/-- A frame on the wire of an external port: its class, when it ends in tenths of a ns of elapsed time, and whether its gate has
been closed meanwhile (R124). -/
structure AirFrame where
  tc : Nat
  ends : Nat
  closed : Bool
  deriving DecidableEq, Repr

/-- The switch core beside its registers (lost at a logic-die reset, R109). -/
structure SwState where
  frames : List Frame := []
  nextId : Nat := 0
  /-- The 8,192 virtual output queues: frame numbers, head first (R96). -/
  queues : Tab (List Nat) := []
  xfers : List Xfer := []
  staged : Tab (List Frame) := []
  /-- Instant, in tenths of a ns of elapsed time, at which the frames that the MAC has started have left the wire (R123). -/
  busy : Tab Nat := []
  /-- The frame that each external port sends (R124). -/
  onAir : List (Nat × AirFrame) := []
  /-- Frames that a port in near-end loopback has cut, on their way back to its receiver (R181). -/
  echo : List (Nat × List Byte) := []
  grantPtr : Tab Nat := []
  acceptPtr : Tab Nat := []
  /-- Averages of R95, 8 fractional bits, and the drop register. -/
  redAvg : Tab Nat := []
  redReg : Nat := 1
  /-- External ports whose hold timer runs, and those whose hold time has passed (R106). -/
  holding : List Nat := []
  pastHold : List Nat := []
  /-- Ports whose link has been up since the logic-die reset. -/
  seenUp : List Nat := []
  deriving DecidableEq, Repr

/-- A queued learn request (R227, R228). -/
structure LearnReq where
  mac : Nat
  vid : Nat
  port : Nat
  deriving DecidableEq, Repr

/-- Nodes and leaves that await release until the epoch (R223). -/
structure TrieRelease where
  epoch : Nat
  nodes : List Nat
  leaves : List Nat
  deriving DecidableEq, Repr

/-- The table engines beside the table memory and the TBL registers. -/
structure TblState where
  learn : List LearnReq := []
  /-- The eviction register (R227). -/
  lfsr : Nat := 1
  /-- Trie nodes and leaves in use (not those that await release). -/
  nodes : List Nat := []
  leaves : List Nat := []
  released : List TrieRelease := []
  deriving DecidableEq, Repr

/-- A recovery context (R141, R142). Counters: passed, discarded, out_of_order, rogue, lost, resets. -/
structure FrerCtx where
  takeAny : Bool := true
  recov : Nat := 0
  hist : Nat := 0
  cnt : List Nat := [0, 0, 0, 0, 0, 0]
  timer : Bool := false
  silent : Nat := 0
  /-- Members that have delivered nothing since the context last passed a frame of another member. -/
  waiting : Nat := 0
  deriving DecidableEq, Repr

/-- A guard slot beside its registers (R143–R156). -/
structure Guard where
  /-- sequence_num of the last frame; none: the next frame only sets it (R144). -/
  last : Option Nat := none
  stallArmed : Bool := false
  missing : Nat := 0
  /-- avtp_timestamp of the current video frame; the video frame has begun. -/
  vfTs : Option Nat := none
  vfOpen : Bool := false
  vfNum : Nat := 0
  vfBad : Bool := false
  crc : Nat := 0xFFFFFFFF
  crcAny : Bool := false
  goodRun : Nat := 0
  goodNs : Nat := 0
  /-- Findings of the current FAULT episode. -/
  episode : Nat := 0
  frzRun : Nat := 0
  msgSeq : Nat := 0
  /-- Handle whose frames the overlay adds o_mon to, and whether the redirection waits for the backup (R155). -/
  redirTo : Nat := 0
  waitBackup : Bool := false
  deriving DecidableEq, Repr

/-- The camera stream path beside the stream table and the CSG registers. -/
structure CsgState where
  ctx : Tab FrerCtx := []
  slots : Tab Guard := []
  /-- The presentation-time check is suspended after a tide clock step (R147). -/
  suspended : Bool := false
  /-- Slots that owe a status message for this instant (R153). -/
  owed : List Nat := []
  deriving DecidableEq, Repr

/-- The frame in reception at an external port, from its first cell to its end (R99, R116, R162, R175). -/
structure RxFrame where
  /-- Bytes received, FCS included, up to max_len. -/
  bytes : Nat
  /-- Errors found at its end where it was passed on before: bit 0 FCS, 1 runt, 2 too long, 3 PHY. -/
  late : Nat := 0
  /-- It has reached stream identification. -/
  passed : Bool := false
  /-- The policer that charges it at its end. -/
  policer : Option Nat := none
  /-- Key slot that verifies it, and whether the slot has been rewritten since the frame's start (R354). -/
  slot : Option Nat := none
  stale : Bool := false
  deriving DecidableEq, Repr

/-- An Ethernet port beside its registers (R161–R178). -/
structure EthPort where
  /-- The frame in reception. -/
  rx : Option RxFrame := none
  /-- Since when the signal quality index stays at or below its threshold, and whether 0x080A was raised for it (R161). -/
  sqiSince : Option Nat := none
  sqiRaised : Bool := false
  /-- Transmit timestamp queue: time and tag, head first (R177). -/
  txts : List (Nat × Nat) := []
  /-- Staged words 1–7 of the SA table: 8 × entry + word (R173). -/
  staged : Tab Word := []
  /-- Transmit associations for which the packet number warning was raised (R174). -/
  warned : List Nat := []
  deriving DecidableEq, Repr

/-- A receive queue entry: its record (R196), and whether the aggregator has taken it (R198). -/
structure CanEntry where
  no : Nat
  record : List Byte
  taken : Bool := false
  deriving DecidableEq, Repr

/-- A CAN channel beside its registers (R188–R207). -/
structure CanChan where
  rxq0 : List CanEntry := []
  rxq1 : List CanEntry := []
  nextNo : Nat := 0
  /-- Filter elements: word w of element e at 2 × e + w; and the staged word 0 (R193). -/
  flt : Tab Word := []
  fltStaged : Word := 0
  /-- Records in the backlog, head first, and in the transmit buffers. -/
  backlog : List (List Byte) := []
  bufs : Tab (List Byte) := []
  /-- Buffers whose frame a late cancel has marked (R204). -/
  lateCancel : List Nat := []
  /-- The buffer whose frame the channel sends; its start of frame in elapsed ns and in tide ticks (R185, R204). -/
  onBus : Option Nat := none
  since : Nat := 0
  sof : Nat := 0
  /-- The channel is the transmitter of what is on the bus, its own error or overload flag included (R189). -/
  sender : Bool := false
  /-- The start of frame of a frame that the channel goes on receiving after lost arbitration or a withdrawal (R185). -/
  rxSof : Option Nat := none
  /-- The mode in effect, and a change that waits for bus idle or for the end of recovery (R188). -/
  mode : Nat := 0
  change : Option Nat := none
  deriving DecidableEq, Repr

/-- The CAN channels and the aggregator's round-robin positions, one per queue (R198). -/
structure CanState where
  chans : Tab CanChan := []
  rr0 : Nat := 0
  rr1 : Nat := 0
  deriving DecidableEq, Repr

/-- A routine of a bundle (R278). -/
structure Routine where
  code : List Byte := []
  entryWord : Nat := 0
  image : List Byte := []
  dataBytes : Nat := 0
  group : Nat := 0
  prio : Nat := 0
  budget : Nat := 0
  clusterMask : Nat := 0
  shedClass : Nat := 0
  mobile : Bool := false
  freshState : Bool := false
  hostMode : Nat := 0
  loadKu : Nat := 0
  hostMask : Nat := 0
  keyMask : Nat := 0
  heaterMask : Nat := 0
  deriving DecidableEq, Repr

/-- A signal declaration (R281). -/
structure SigDecl where
  index : Nat
  type : Nat
  notify : Nat
  anyWriter : Bool
  writer : Nat
  init : Nat
  deriving DecidableEq, Repr

/-- A load timer (R284). -/
structure LoadTimer where
  routine : Nat
  timer : Nat
  periodic : Bool
  delay : Nat
  arg : Nat
  deriving DecidableEq, Repr

/-- A trie entry as a bundle or a command names it (R215, R217). -/
structure TrieKey where
  type : Nat
  word : Nat
  len : Nat
  result : Nat
  deriving DecidableEq, Repr

/-- A share group (R280). -/
structure Group where
  no : Nat
  sharedBytes : Nat
  persistWords : Nat
  image : List Byte := []
  deriving DecidableEq, Repr

/-- The program sections of a bundle (R277). -/
structure Program where
  routines : List Routine := []
  groups : List Group := []
  signals : List SigDecl := []
  canBind : List (Nat × Word) := []
  trie : List TrieKey := []
  frameBind : List (List Word) := []
  notify : List (Nat × List Word) := []
  timers : List LoadTimer := []
  policy : Word := 0xC8080146
  policy2 : Word := 0x03E80190
  kpolder : Nat := 3
  /-- Polders that the profile of the program starts off, PD5 and PD6 in bits 5 and 6 (R446). -/
  off : Nat := 0
  deriving DecidableEq, Repr

/-- A pending or running event of a routine (R244, R245). Kinds: 1 frame, 2 CAN record, 3 timer, 4 signal change,
5 fabric message. -/
structure KEvent where
  kind : Nat
  routine : Nat
  g2 : Nat := 0
  g3 : Nat := 0
  /-- g4 and g5. -/
  time : Nat := 0
  g6 : Nat := 0
  g7 : Nat := 0
  data : List Byte := []
  canEntry : Option (Nat × Nat) := none
  deriving DecidableEq, Repr

/-- A buffered signal write: value, status bits [23:21] of word 3 (R259). -/
structure SigWrite where
  index : Nat
  value : Nat
  status : Nat
  deriving DecidableEq, Repr

/-- A buffered timer operation (R263); a delay of 0 cancels. -/
structure TimerOp where
  timer : Nat
  delay : Nat
  periodic : Bool
  arg : Nat
  deriving DecidableEq, Repr

/-- What an invocation waits for: nothing, the outbound buffer at DONE (R270), the cipher engine (R265). -/
inductive KWait where
  | none | done | ciph
  deriving DecidableEq, Repr

/-- An invocation (R239, R244, R270). -/
structure Invocation where
  ev : KEvent
  pc : Nat
  regs : Vector Word 32
  /-- Budget units left (R271). -/
  left : Nat
  sputs : List SigWrite := []
  emits : List (List Byte) := []
  timers : List TimerOp := []
  hsets : List (Nat × Nat) := []
  wait : KWait := .none
  /-- Register that receives the result of a CIPH in progress, and the address of its descriptor. -/
  ciphRd : Nat := 0
  ciphAt : Nat := 0
  deriving DecidableEq, Repr

/-- An armed timer of a routine, in elapsed ns (R263). -/
structure KTimer where
  due : Nat
  /-- Interval of a periodic timer, in ns. -/
  period : Option Nat := none
  arg : Nat := 0
  deriving DecidableEq, Repr

/-- A routine's run-time state (R274, R276). -/
structure RtState where
  /-- Where its code and private data lie in its core's memories. -/
  codeAt : Nat := 0
  dataAt : Nat := 0
  cnt : List Nat := [0, 0, 0, 0, 0, 0, 0, 0, 0]
  maxUsed : Nat := 0
  lastPc : Nat := 0
  lastCause : Nat := 0
  abortRun : Nat := 0
  suspended : Bool := false
  deriving DecidableEq, Repr

/-- The keeper clusters. -/
structure KprState where
  /-- Pending events in the order in which they became pending. -/
  pend : List KEvent := []
  /-- Running invocations: core and invocation. -/
  run : List (Nat × Invocation) := []
  /-- Timers: 4 × routine + timer. -/
  timers : List (Nat × KTimer) := []
  rts : Tab RtState := []
  /-- Emit buffers: 16,384 × core + offset. -/
  emitBuf : Tab Byte := []
  /-- Emits that sp28 carries: cluster, bytes, and the instant at which they have left, in tenths of ns. -/
  outbound : List (Nat × Nat × Nat) := []
  deriving DecidableEq, Repr

/-- A migration of a batch (R293): the routine goes to the target core, with a new descriptor and code where the batch belongs
to a change of program. It keeps its private data by R295, or restarts from its initial image; `reset` marks the restart of
R296. -/
structure Move where
  routine : Nat
  target : Nat
  desc : Option Routine := none
  fresh : Bool := false
  reset : Bool := false
  /-- A mobile routine leaves for the device of this address, where it stands on core `target` (R300). -/
  away : Option Nat := none
  deriving DecidableEq, Repr

/-- Where a share group lies in a cluster's shared memory. -/
structure GroupPlace where
  cluster : Nat
  off : Nat
  len : Nat
  deriving DecidableEq, Repr

/-- What makes the placer compute a map (R290): a change of the unavailable cores, a new bundle with its digest, which an update
gives a predecessor and the hitless condition of R295, or a change of the fabric, with the head and the candidates' reports. -/
inductive Trigger where
  | derived
  | program (p : Program) (digest : List Byte) (update : Bool)
  | mobile (head : Nat) (reports : List MobileReport)
  deriving DecidableEq, Repr

/-- The placer: the running bundle, its base map (routine to core + 1) and the batch in progress. -/
structure PlcState where
  prog : Program := {}
  base : Tab Nat := []
  batch : List Move := []
  /-- Where share group g lies; the copy that members see which the batch has still to switch (R293); and the groups whose region
  the batch has still to make for the new program (R280, R295). -/
  groupAt : Tab (Option GroupPlace) := []
  groupOld : Tab (Option GroupPlace) := []
  groupNew : List Nat := []
  /-- Bundle digest of the placed program (R280). -/
  digest : List Byte := []
  /-- The triggers that wait for the placer, in order of arrival (R290). -/
  trigger : List Trigger := []
  /-- The batch belongs to a hitless update (R379). -/
  update : Bool := false
  /-- Mobile hosts as the head chose them: routine to fabric address + 1 (R298). -/
  hosts : Tab Nat := []
  deriving DecidableEq, Repr


/-- What the hellos of a fabric link have told (R307, R308). -/
structure FabPort where
  /-- Consecutive hellos that count towards UP. -/
  run : Nat := 0
  /-- Elapsed ns of the last hello. -/
  last : Nat := 0
  heard : Bool := false
  /-- device_id, fabric MAC, role, address and epoch of the neighbour, and the head it follows. -/
  peer : Nat := 0
  mac : Nat := 0
  role : Nat := 0
  addr : Nat := 0xFE
  epoch : Nat := 0
  head : Nat := 0
  deriving DecidableEq, Repr

/-- A remote read that has not completed (R324–R326): its tag, target, address and words. -/
structure RaRead where
  tag : Nat
  target : Nat
  addr : Nat
  words : Nat
  pref : Bool
  /-- Answered RETRY: it is issued again. -/
  retry : Bool := false
  deriving DecidableEq, Repr

/-- A posted write that no ack covers yet (R325). -/
structure RaWrite where
  tag : Nat
  target : Nat
  wseq : Nat
  addr : Nat
  data : List Word
  aperture : Bool := false
  /-- Sent; a 33rd write of a target waits. -/
  sent : Bool := false
  /-- Its place among what the bridge sends in order (R327). -/
  ord : Nat := 0
  deriving DecidableEq, Repr

/-- A read slot of the target bridge (R326, R329): whose read it serves, the range, the write sequence number that the fetch
waits for, and its data once fetched. A prefetched block serves every read inside it. -/
structure ReadSlot where
  no : Nat
  src : Nat
  tag : Nat
  pref : Bool
  addr : Nat
  words : Nat
  wseq : Nat
  data : Option (List Word) := none
  deriving DecidableEq, Repr

/-- What waits for earlier posted writes to its target (R322, R327): a message, or a signal's tag and value. -/
inductive FabItem where
  | message (f : Frame)
  | signal (tag val : Nat)
  deriving DecidableEq, Repr

/-- What waits in the bridge for earlier posted writes to its target (R327, R332), with its place in that order and its target. -/
structure FabWait where
  ord : Nat
  dst : Nat
  item : FabItem
  deriving DecidableEq, Repr

/-- A host read through an aperture (R335): its first tag, and the reads that it is made of, with the words of those that are done. -/
structure HostRead where
  tag : Nat
  parts : List (Nat × Option (List Byte))
  deriving DecidableEq, Repr

/-- The bridge and the fabric beside the FAB registers. -/
structure FabState where
  ports : Tab FabPort := []
  db : List Lsa := []
  seq : Nat := 0
  /-- The settle time runs (R313). -/
  settling : Bool := false
  /-- The head's open sequence: ASSIGNs sent, and the devices that have acknowledged. -/
  open_ : Option (Assign × Nat × List Nat) := none
  /-- Flooded messages already passed on. -/
  seen : List FabMsg := []
  /-- Devices of the COMMIT in force, with their addresses. -/
  members : List (Nat × Nat) := []
  /-- The highest epoch seen; none before the first (R311). -/
  maxEpoch : Option Nat := none
  /-- LSAs that have been flooded on: origin, sequence number, and the elapsed ns (R310). -/
  lsaSeen : List (Nat × Nat × Nat) := []
  /-- Newer-epoch frames held, with the elapsed ns at which they arrived (R317). -/
  held : List (Nat × Frame) := []
  reads : List RaRead := []
  /-- Host reads through an aperture that have not completed (R335). -/
  hostReads : List HostRead := []
  /-- Messages and signals that wait for earlier writes, in order, and the number of the next thing sent in order (R327, R332). -/
  waiting : List FabWait := []
  ord : Nat := 0
  writes : List RaWrite := []
  /-- Last write sequence number issued to each target, and applied from each source. -/
  issued : Tab Nat := []
  applied : Tab Nat := []
  /-- Posted writes that arrived before an earlier one: source and write. -/
  early : List (Nat × RaWrite) := []
  slots : List ReadSlot := []
  nextTag : Nat := 0
  /-- More than one HEAD input was active at the last choice (R310). -/
  multiHead : Bool := false
  deriving DecidableEq, Repr


/-- An operation of the shared cipher engine from the grant to its result (R350): the requester (core, or 64 for the warden),
the descriptor words, the slot's key as the setup read it (R354), and the result found at the setup, if any. -/
structure SecOp where
  req : Nat
  desc : List Nat
  slot : Nat
  key : List Byte
  early : Option Nat := none
  /-- The slot has been rewritten since the setup (R354). -/
  stale : Bool := false
  deriving DecidableEq, Repr

/-- A key operation in progress: its fields, its data bytes, and the keys that it read (R344, R354). -/
structure KopOp where
  op : Nat
  dst : Nat
  src : Nat
  kek : Nat
  attr : Nat
  data : List Byte
  srcKey : List Byte
  srcAttr : Nat
  kekKey : List Byte
  /-- A source slot was erased during the operation. -/
  erased : Bool := false
  /-- Source slots that have been rewritten since the operation read them (R354). -/
  stale : List Nat := []
  deriving DecidableEq, Repr

/-- The security unit beside the SEC registers (R340–R359, R386). -/
structure SecState where
  /-- Keys of the software slots; a slot without a key is empty. -/
  keys : Tab (List Byte) := []
  /-- Holder of the engine lock, and the requests queued, first come first served (R347). -/
  owner : Option Nat := none
  queue : List Nat := []
  eng : Option SecOp := none
  kop : Option KopOp := none
  /-- Random words queued for the warden, head first (R356). -/
  rng : List Word := []
  /-- Requests to the DRBG since it was seeded last (R356). -/
  requests : Nat := 0
  /-- Health test failures within the present reseed interval. -/
  failures : Nat := 0
  /-- Bytes hashed since the last init, and the open operation of the RSA accelerator (R386). -/
  sha : List Byte := []
  /-- Elapsed ns at which the hash step in progress ends. -/
  shaUntil : Nat := 0
  /-- The open operation of the RSA accelerator, with its address as it stood at the start (R386). -/
  pka : Option (Nat × Nat) := none
  deriving DecidableEq, Repr

/-- One setting of a profile (R66, R446): a register written as the warden writes it, a read-only register that the profile
loads, bytes of the table memory, a trie entry, a policer, a word of a port's tide table. -/
inductive Setting where
  | reg (addr : Nat) (v : Word)
  | fixed (addr : Nat) (v : Word)
  | mem (addr : Nat) (v : List Byte)
  | trie (k : TrieKey)
  | policer (n rate burst : Nat) (en : Bool)
  | tide (port list index : Nat) (v : Word)
  deriving DecidableEq, Repr

/-- A cold forwarding block: its settings and the ports that it names (R66). -/
structure ColdBlock where
  settings : List Setting := []
  ports : Nat := 0
  deriving DecidableEq, Repr

/-- A safe-state record: Ethernet frames by port, CAN records by channel (R76). -/
structure SafeRecord where
  eth : List (Nat × List Byte) := []
  can : List (Nat × List Byte) := []
  deriving DecidableEq, Repr

/-- A fault policy entry: event code, action, and the profile of action 5 (R427). -/
structure Policy where
  code : Nat
  action : Nat
  profile : Nat
  deriving DecidableEq, Repr

/-- Port and profile settings (R446): register settings, polders permitted off and those that start off, ports marked for the
TC10 handshake of Sleep, ports in the gPTP master role and the one in the slave role, if any, fixed peer delays, the fault policy. -/
structure ProfileSet where
  settings : List Setting := []
  permitOff : Nat := 0
  startOff : Nat := 0
  tc10 : Nat := 0
  master : Nat := 0
  slave : Option (Fin 28) := none
  fixedDelay : List (Nat × Nat) := []
  policy : List Policy := []
  deriving DecidableEq, Repr

/-- The decrypted content of a bundle's sections (R363). -/
structure Bundle where
  cold : ColdBlock := {}
  program : Program := {}
  tables : List Setting := []
  keys : List (List Byte) := []
  safe : SafeRecord := {}
  set : ProfileSet := {}
  digest : List Byte := []
  deriving DecidableEq, Repr

/-- Who sent a warden command: a ring index, with whether the PCIe host issued it, or a fabric device with its tag, entry
words and data (R441, R442). `during` says that it arrived during an update (R374). -/
inductive Arrival where
  | ring (index : Nat) (host during : Bool)
  | fabric (src tag : Nat) (entry : List Nat) (data : List Byte) (during : Bool)
  deriving DecidableEq, Repr

/-- A switch to another profile between preparation and completion (R448, R449), or the tables of a hitless update (R379). -/
structure Switching where
  slot : Nat
  bundle : Bundle
  /-- It ends the command at the front. -/
  command : Bool
  /-- Fault policy action 5 asked for it: the storage slot of the fault. -/
  fault : Option Nat := none
  update : Bool := false
  /-- The switch instant S, and the ports whose schedule differs; `written` once the entries have been written. -/
  instant : Nat
  ports : List Nat
  written : Bool := false
  /-- It is the transition from cold forwarding to full operation (R68): the cores whose self-test has failed, and whether the higher
  needs were refused (R45). -/
  start : Option (List (Fin 64) × Bool) := none
  deriving DecidableEq, Repr

/-- The warden firmware beside the SYS registers (R436–R453, R377). -/
structure WrdState where
  /-- Commands that wait, in order of arrival; the front one may be in progress. -/
  arrivals : List Arrival := []
  inProgress : Bool := false
  /-- The running profile: its bundle; none in profile hold. -/
  run : Option Bundle := none
  /-- The cold block of the profile that the boot has loaded. -/
  cold : Option ColdBlock := none
  /-- Bundle digest of the running profile, and the root position that signed it (R383). -/
  signed : List Byte × Nat := ([], 0)
  switching : Option Switching := none
  /-- Running vendor firmware: version, and SHA-256 of its signed region. -/
  fwVersion : Nat := 0
  fwDigest : List Byte := []
  /-- Half of the warden SRAM that is active (R26); an error in the staging half bars a handover (R415). -/
  half : Nat := 0
  stagingBad : Bool := false
  /-- A new firmware waits for the handover (R377). -/
  handover : Bool := false
  /-- The debug port has authenticated since reset (R383). -/
  debug : Bool := false
  /-- A fatal or Reset sequence sends safe-state frames still (R77). -/
  safeCan : List (Nat × List Byte) := []
  /-- Failed burns of the fuse in turn (R373). -/
  burns : Nat := 0
  /-- Installed images that take effect at the next start or switch, by journal target (R378, R379). -/
  pendingStart : List Nat := []
  deriving DecidableEq, Repr

/-- One-time programmable memory (R343, R361, R370): rollback fuses blown, customer root hashes and revocations. -/
structure OtpState where
  fuses : Nat := 0
  roots : Tab (List Byte) := []
  revoked : Nat := 0
  deriving DecidableEq, Repr


/-- Faults of a step: there is none. Every command of the block has an outcome (safe or as the spec says). -/
inductive Fault where
  deriving DecidableEq, Repr

/-- Refusals of a step. -/
inductive Refusal where
  /-- Raised by the dispatch for a command that has no meaning yet; safe: nothing happens. -/
  | notModelled (mnemonic : String)
  deriving DecidableEq, Repr

/-- The EC-9640. -/
structure State where
  /-- Commands that wait, first in, first out. -/
  pending : List Instr := []
  /-- Time since power-up in ns; a tide clock step does not change it. -/
  elapsed : Nat := 0
  /-- The tide clock in ns (R35), and its fraction in units of 10^-9 ns × ppb (R38). -/
  tide : DWord := 0
  tideFrac : Nat := 0
  /-- Index of the next free value (the model's own field, not the spec's). -/
  free : Nat := 0
  outputs : List Output := []
  regs : Tab Word := []
  mem : List Host.Cell := []
  dev : DevInfo := {}
  pins : Pins := {}
  bank : BankDie := {}
  mram : MramState := {}
  hlt : HltState := {}
  flt : FltState := {}
  sw : SwState := {}
  tm : TmState := {}
  csg : CsgState := {}
  eth : Tab EthPort := []
  tbl : TblState := {}
  wrd : WrdState := {}
  otp : OtpState := {}
  sec : SecState := {}
  fab : FabState := {}
  plc : PlcState := {}
  kpr : KprState := {}
  can : CanState := {}
  deriving DecidableEq, Repr

/-- The machine right after the release of its first reset: a power-on start with VBAT valid, every supply enabled, the boot ROM
starting (R54, R59, R61). Every register that the table `regs` does not list holds its reset value. -/
def State.reset : State :=
  { bank := { enV18 := true, enVline := true, enVcore := true, supPg := true, seq := .running }
    regs := [(0x20000200, 1)] }

end Sys2Proof.Machine
end

