-- ==== Sys2Proof/Machine/Ops.lean ====
section
/-! DEFINITION. The named operations that every block shares: registers, memory, free values, the posting of events,
the PCIe interrupt bits, and the permissions of the address map. -/

namespace Sys2Proof.Machine

/-! Registers -/

/-- The stored value of the register at a physical address. -/
def State.rd (s : State) (a : Nat) : Word := tget (regDefault a) s.regs a

def State.wr (s : State) (a : Nat) (v : Word) : State := { s with regs := tset (regDefault a) s.regs a v }

/-- A field of a register. -/
def State.fld (s : State) (a : Nat) (f : Fld) : Nat := f.get (s.rd a)

def State.fldB (s : State) (a : Nat) (f : Fld) : Bool := s.fld a f != 0

def State.setFld (s : State) (a : Nat) (f : Fld) (v : Nat) : State := s.wr a (f.put (s.rd a) v)

/-- Add to a counter field; it saturates at all ones (R11). -/
def State.addFld (s : State) (a : Nat) (f : Fld) (n : Nat) : State := s.setFld a f (satAdd f.width (s.fld a f) n)

/-- Count on a 32-bit counter register (R11). -/
def State.bump (s : State) (a : Nat) (n : Nat := 1) : State := s.addFld a ⟨31, 0⟩ n

/-- What a plain write loads: RW fields, W1C clears (R8, R471). An offset that no register occupies takes nothing (R30). -/
def State.wrPlain (s : State) (a : Nat) (v : Word) : State :=
  match regAt a with
  | some d => s.wr a (d.write (s.rd a) v)
  | none => s

/-- Two consecutive registers as one 64-bit number (R6). -/
def State.rd64 (s : State) (lo hi : Nat) : Nat := (s.rd lo).toNat + (s.rd hi).toNat * 2 ^ 32

def State.wr64 (s : State) (lo hi : Nat) (v : Nat) : State :=
  (s.wr lo (BitVec.ofNat 32 v)).wr hi (BitVec.ofNat 32 (v / 2 ^ 32))

/-- Clear a range of counters. -/
def State.clearRegs (s : State) (as : List Nat) : State := as.foldl (fun s a => s.wr a 0) s

/-! Memory -/

/-- What a byte that nothing has written reads as (assumption 4). -/
def memDefault (a : Nat) : Byte := if Config.coversBase ≤ a ∧ a < Config.coversEnd then 0xFF else 0

def State.mb (s : State) (a : Nat) : Byte := tget (memDefault a) s.mem a

def State.mwb (s : State) (a : Nat) (v : Byte) : State := { s with mem := tset (memDefault a) s.mem a v }

/-- `n` bytes from an address, lowest first. -/
def State.mbytes (s : State) (a n : Nat) : List Byte := (List.range n).map (fun i => s.mb (a + i))

def State.mwbytes (s : State) (a : Nat) : List Byte → State
  | [] => s
  | b :: bs => (s.mwb a b).mwbytes (a + 1) bs

/-- A little-endian number of `n` bytes (R6). -/
def State.mrd (s : State) (a n : Nat) : Nat := leNat (s.mbytes a n)

def State.mwr (s : State) (a n v : Nat) : State := s.mwbytes a (leBytes n v)

/-! Free values -/

/-- Take the next free value's index. -/
def State.freeIx (s : State) : Nat × State := (s.free, { s with free := s.free + 1 })

/-! Time -/

/-- The logic die runs: its reset is released (R54). -/
def State.running (s : State) : Bool :=
  match s.dev.state with
  | .boot | .cold | .full | .reduced => true
  | .unpowered | .bankOnly | .logicReset => false

def State.out (s : State) (o : Output) : State := { s with outputs := o :: s.outputs }

/-- The profile whose entries are in force: from the switch instant on, that of a switch under way (R449). -/
def State.profileNow (s : State) : Option Bundle :=
  match s.wrd.switching with
  | some x => if x.written then some x.bundle else s.wrd.run
  | none => s.wrd.run

/-! Events (R12, R421, R422, R429) -/

/-- The instance field of an event that records no unit (R422). -/
def noInst : Nat := 0xFFF

/-- Put a posting into its block's buffer; where 16 already wait it is lost and counted (R429). -/
def State.putPosting (s : State) (p : Posting) : State × Bool :=
  let b := p.code / 256
  let q := tget [] s.flt.post b
  if q.length < 16 then
    ({ s with flt := { s.flt with post := tset [] s.flt.post b (q ++ [p]) } }, true)
  else (s.bump (FLT_SRC_LOST b), false)

/-- Whether an event under a limit of once per 1 ms may be raised now for this unit. -/
def State.mayRaise (s : State) (code unit : Nat) : Bool :=
  let l := tget 0 s.flt.lim (code * 4096 + unit)
  l == 0 || l + 1000000 ≤ s.elapsed + 1

def State.markRaise (s : State) (code unit : Nat) : State :=
  { s with flt := { s.flt with lim := tset 0 s.flt.lim (code * 4096 + unit) (s.elapsed + 1) } }

/-- The dike link is idle: nothing is open and nothing is posted. -/
def State.dikeIdle (s : State) : Bool := s.bank.open_.isNone && s.bank.posted.isEmpty

/-- The bank die takes a fatal request: the first event stays recorded (R426). -/
def State.fatalTaken (s : State) (code : Nat) : State :=
  { s with bank := { s.bank with fatalReq := some (s.bank.fatalReq.getD code) } }

/-- A fatal request of the fault manager: its hardware writes BNK_CTL.fatal over the dike link, behind the accesses posted before
it (R14, R426). DESIGN CHOICE (assumption 105): safe_run is written as it stands, and the event's code travels beside the frame. -/
def State.requestFatal (s : State) (code : Nat) : State :=
  let b := s.bank
  let f := dikeFrame 2 b.nextSeq 0 (4 + 8 * s.fld BNK_CTL BNK_CTL_safe_run)
  let next := (b.nextSeq + 1) % 16
  if s.dikeIdle then
    let (k, s1) := ({ s with bank := { b with nextSeq := next, lastSeq := some b.nextSeq } }.out (.dike true f)).freeIx
    (s1.fatalTaken code).out (.dike false (dikeFrame 2 b.nextSeq 0 (Config.dikeData k).toNat))
  else
    { s with bank := { b with
        nextSeq := next, posted := b.posted ++ [({ master := none, frame := f, tries := 0, event := code }, true, true)] } }

/-- The events that the bank die finds (R82, R405): those of its block but the logic die's report of a failed access. -/
def bankEvent (code : Nat) : Bool := code / 256 == 0x0E && code != 0x0E20

/-- Raise a ready posting; a full buffer raises 0x0304, at most once per 1 ms per block (R429, R434). A class 7
event makes its fatal request at once (R426), and one of the bank die crosses the dike link in an event frame, whose data bits are
a free value (R388). DESIGN CHOICE (assumption 83): an event of the bank die whose cause falls while the logic die does not run is
not posted later, but for those that R393 and R396 report at the next wake. -/
def State.raiseP (s : State) (p : Posting) : State :=
  if s.running then
    let s0 := if bankEvent p.code then
        let (k, t) := s.freeIx
        t.out (.dike false (dikeFrame 3 0 0 (Config.dikeData k).toNat))
      else s
    let (s1, ok) := (if 7 ≤ p.cls then s0.requestFatal p.code else s0).putPosting p
    if ok then s1
    else if s1.mayRaise 0x0304 (p.code / 256) then
      ((s1.markRaise 0x0304 (p.code / 256)).putPosting
        { code := 0x0304, cls := 2, inst := p.code / 256, detail := 0, ts := s.tide.toNat % 2 ^ 44 }).1
    else s1
  else s

/-- Raise an event with its class, unit and detail word. -/
def State.raise (s : State) (code cls : Nat) (inst : Nat := noInst) (detail : Nat := 0) : State :=
  s.raiseP { code := code, cls := cls, inst := inst % 4096, detail := detail % 2 ^ 32, ts := s.tide.toNat % 2 ^ 44 }

/-- Raise an event at most once per 1 ms, whichever unit it records. -/
def State.raiseOnce (s : State) (code cls inst : Nat) : State :=
  if s.running && s.mayRaise code noInst then (s.markRaise code noInst).raise code cls inst else s

/-- Raise an event at most once per 1 ms per unit. -/
def State.raiseLim (s : State) (code cls : Nat) (inst : Nat := noInst) (detail : Nat := 0) : State :=
  if s.running && s.mayRaise code inst then (s.markRaise code inst).raise code cls inst detail else s

/-! PCIe interrupts (R336) -/

/-- Send an MSI-X vector, or set its pending bit while it is masked in the table. -/
def State.sendMsix (s : State) (v : Nat) : State :=
  if (s.rd (FAB_MSIX v 3)).toNat.testBit 0 then s.wr FAB_PBA (BitVec.ofNat 32 (withBit (s.rd FAB_PBA).toNat v true))
  else s.out (.msix v (s.rd64 (FAB_MSIX v 0) (FAB_MSIX v 1)) (s.rd (FAB_MSIX v 2)))

/-- Set a bit of FAB_IRQ_STATUS; a rising bit whose mask bit is 0 sends its vector. -/
def State.irq (s : State) (v : Nat) : State :=
  if (s.rd FAB_IRQ_STATUS).toNat.testBit v then s
  else
    let s1 := s.wr FAB_IRQ_STATUS (BitVec.ofNat 32 (withBit (s.rd FAB_IRQ_STATUS).toNat v true))
    if (s.rd FAB_IRQ_MASK).toNat.testBit v then s1 else s1.sendMsix v

/-! The address map (R25, R26, R28, R29, R473) -/

/-- The rows of the permission table of R29. -/
inductive Region where
  | bootRom | wardenSram | mram | regsOpen | regsClosed | tables | bufDiag | keeper
  deriving DecidableEq, Repr

/-- The region that holds a location, bits [37:0] (R26); none where the map has nothing. -/
def regionOf (a : Nat) : Option Region :=
  if a ≤ 0x3FFFF then some .bootRom
  else if 0x01000000 ≤ a ∧ a ≤ 0x013FFFFF then some .wardenSram
  else if 0x10000000 ≤ a ∧ a ≤ 0x10FFFFFF then some .mram
  else if (blockAt a).isSome then
    some (if 0x200D0000 ≤ a then .regsClosed else .regsOpen)
  else if 0x30000000 ≤ a ∧ a ≤ 0x307FFFFF then some .tables
  else if 0x40000000 ≤ a ∧ a ≤ 0x41FFFFFF then some .bufDiag
  else if 0x50000000 ≤ a ∧ a < 0x50800000 then
    let o := (a - 0x50000000) % 0x20000
    if o < 0x8000 ∨ 0x10000 ≤ o then some .keeper else none
  else if 0x50800000 ≤ a ∧ a ≤ 0x508FFFFF then some .keeper
  else none

/-- Offsets of the table window that no entry occupies: they read as zero and take nothing (R30, R211). -/
def tableGap (a : Nat) : Bool := decide (0x304B9800 ≤ a ∧ a < 0x304C0000)

def mayRead : Master → Region → Bool
  | .warden, _ => true
  | .debug, _ => true
  | _, .bootRom | _, .wardenSram | _, .mram => false
  | _, _ => true

def mayWrite : Master → Region → Bool
  | _, .bootRom | _, .bufDiag => false
  | .warden, _ => true
  | .debug, .mram => false
  | .debug, _ => true
  | _, .regsOpen => true
  | _, _ => false

/-- Whether an access passes R29: mapped, permitted, sized and aligned by R473, no excluded alias (R28). `addr` is the
40-bit physical address. DESIGN CHOICE (assumption 81): an aligned 64-bit access to two neighbouring registers that hold no
64-bit quantity is not refused; it is two word accesses. -/
def accessOk (m : Master) (write : Bool) (addr size : Nat) : Bool :=
  let kind := addr / 2 ^ 38
  let a := addr % 2 ^ 38
  match regionOf a, regionOf (a + size - 1) with
  | some r, some r' =>
    let isReg := r == .regsOpen || r == .regsClosed
    r == r' && (if write then mayWrite m r else mayRead m r)
      && (size == 1 || size == 2 || size == 4 || size == 8) && a % size == 0
      && (!isReg || 4 ≤ size)
      && (kind == 0 || (kind < 3 && (r == .wardenSram || r == .tables || r == .keeper) && 4 ≤ size))
  | _, _ => false

/-- The endpoint reports an uncorrectable error of a request (R333). -/
def State.pcieError (s : State) (k : Nat) : State :=
  { s with dev := { s.dev with aer := BitVec.ofNat 32 (withBit s.dev.aer.toNat k true) } }

/-- An access that is refused: an error response and event 0x0140, at most once per master per 1 ms (R29, R82). -/
def State.refuse (s : State) (m : Master) (addr : Nat) : State :=
  let s1 := if m = .pcie then s.pcieError 20 else s
  (s1.out (.busError m addr)).raiseLim 0x0140 1 m.number (addr % 2 ^ 32)

end Sys2Proof.Machine
end

