-- ==== Sys2Proof/Machine/Events.lean ====
section
/-! DEFINITION. The event queue and the fault manager (R421–R434). -/

namespace Sys2Proof.Machine

/-- The fault being handled, on top of the stack (R423). -/
def State.entryAt (s : State) (slot : Nat) : Option EvEntry := s.flt.queue.find? (fun e => e.slot == slot)

def State.topFault (s : State) : Option EvEntry :=
  match s.flt.stack with
  | [] => none
  | i :: _ => s.entryAt i.slot

/-- Class of the fault being handled; 0 when the stack is empty. -/
def State.topClass (s : State) : Nat := ((s.topFault).map EvEntry.cls).getD 0

/-- The block code of an entry's resource (R422). Event 0x0302 carries the resource of the fault that it times (R425). DESIGN CHOICE
(assumption 127): its instance is that fault's, and its detail word holds that fault's block code. -/
def EvEntry.block (e : EvEntry) : Nat := if e.code = 0x0302 then e.detail else e.code / 256

/-- A fault of this resource (block code and unit) is being handled or suspended (R422, R424). -/
def State.onStack (s : State) (code inst : Nat) : Bool :=
  s.flt.stack.any (fun i => match s.entryAt i.slot with
    | some e => e.block == code / 256 && e.inst == inst
    | none => false)

/-- Class and escalated bit at the posting (R424). -/
def State.escalate (s : State) (p : Posting) : Nat × Bool :=
  if p.esc then (p.cls, true)
  else if 2 ≤ p.cls ∧ p.cls < 7 ∧ s.onStack p.code p.inst then (p.cls + 1, true)
  else (p.cls, false)

def modEntry (q : List EvEntry) (slot : Nat) (f : EvEntry → EvEntry) : List EvEntry :=
  q.map (fun e => if e.slot = slot then f e else e)

/-- A stored entry leaves when it is read and no handling of it remains (R431). -/
def EvEntry.gone (e : EvEntry) : Bool := e.read && (e.handling == .none || e.handling == .ended)

def State.setQueue (s : State) (q : List EvEntry) : State := { s with flt := { s.flt with queue := q } }

/-- Push a stored fault: it pre-empts what is handled (R423). -/
def State.pushFault (s : State) (e : EvEntry) : State :=
  { s with flt := { s.flt with
      queue := modEntry s.flt.queue e.slot (fun x => { x with handling := .stacked })
      stack := { slot := e.slot } :: s.flt.stack } }

def EvEntry.words (e : EvEntry) : List Nat :=
  [e.code + e.cls * 2 ^ 16 + boolNat e.esc * 2 ^ 19 + e.inst * 2 ^ 20, e.detail, e.ts % 2 ^ 32,
   e.ts / 2 ^ 32 % 4096 + e.gen * 2 ^ 12 + e.slot * 2 ^ 20]

/-- The entry that FLT_EVQ_HEAD_k shows: the unread entry of the highest class, among those the oldest (R430). -/
def State.evHead (s : State) : Option EvEntry :=
  (s.flt.queue.filter (fun e => !e.read)).foldl
    (fun best e => match best with
      | none => some e
      | some b => if b.cls < e.cls then some e else some b) none

def State.candidates (s : State) : List EvEntry := s.flt.queue.filter (fun e => e.handling != .stacked)

/-- The entry that a posting overwrites in a full queue: the oldest candidate of the lowest class (R432). -/
def State.victim (s : State) : Option EvEntry :=
  s.candidates.foldl
    (fun best e => match best with
      | none => some e
      | some b => if e.cls < b.cls then some e else some b) none

/-- A free storage slot. The spec does not say which one a posting takes: a free value picks among the free ones. -/
def State.pickSlot (s : State) : Nat × State :=
  let free := (List.range 4096).filter (fun i => !(s.flt.queue.any (fun e => e.slot == i)))
  let (k, s1) := s.freeIx
  (free.getD (Config.freeSlotPick k % free.length) 0, s1)

/-- Store an entry in a slot; its generation counts the slot's uses (R428). -/
def State.storeAt (s : State) (slot : Nat) (p : Posting) (cls : Nat) (esc : Bool) : State × EvEntry :=
  let n := tget 0 s.flt.uses slot
  let e : EvEntry := { code := p.code, cls := cls, esc := esc, inst := p.inst, detail := p.detail, ts := p.ts,
                       gen := n % 256, slot := slot
                       handling := if 3 ≤ cls ∧ cls < 7 then .waiting else .none }
  ({ s with flt := { s.flt with queue := s.flt.queue ++ [e], uses := tset 0 s.flt.uses slot (n + 1) } }, e)

/-- A posting enters the queue, overwrites an entry or is discarded (R432). -/
def State.enqueue (s : State) (p : Posting) (cls : Nat) (esc : Bool) : State × Option EvEntry :=
  if s.flt.queue.length < 4096 then
    let (slot, s1) := s.pickSlot
    let (s2, e) := s1.storeAt slot p cls esc
    (s2, some e)
  else
    let s := s.setFld FLT_EVQ_STATUS FLT_EVQ_STATUS_overflow 1
    match s.victim with
    | some v =>
      if v.cls ≤ cls then
        let s1 := if v.handling == .waiting then s.setFld FLT_STATUS FLT_STATUS_fault_lost 1 else s
        let s2 := (s1.bump (FLT_EVQ_LOST v.cls)).setQueue (s.flt.queue.filter (fun e => e.slot != v.slot))
        let (s3, e) := s2.storeAt v.slot p cls esc
        (s3.raiseLim 0x0301 1, some e)
      else ((s.bump (FLT_EVQ_LOST cls)).raiseLim 0x0301 1, none)
    | none => ((s.bump (FLT_EVQ_LOST cls)).raiseLim 0x0301 1, none)

/-- The handling of a posted fault (R423). -/
def State.postFault (s : State) (code cls : Nat) (e : Option EvEntry) : State :=
  if 7 ≤ cls then s.requestFatal code
  else match e with
    | some e => if 3 ≤ cls ∧ s.topClass < cls then s.pushFault e else s
    | none => s

/-- The event queue takes the oldest posting that a block holds (R429). One of class 7 has made its fatal request when it was raised
(R426). -/
def State.takePosting (s : State) (b : Nat) : State :=
  match tget [] s.flt.post b with
  | [] => s
  | p :: rest =>
    let s0 := { s with flt := { s.flt with post := tset [] s.flt.post b rest } }
    let (cls, esc) := s0.escalate p
    let (s1, e) := s0.enqueue p cls esc
    let s2 := if e.isSome && s1.fldB FLT_CTL FLT_CTL_reader then s1.irq 0 else s1
    if 7 ≤ p.cls then s2 else s2.postFault p.code cls e

/-! MRAM writes (R417, R418) -/

def mramBase : Nat := 0x10000000

def State.setMram (s : State) (x : MramState) : State := { s with mram := x }

/-- Spare lines left (R418). -/
def State.spareFree (s : State) : Nat := Config.mramSpareFree - s.mram.spareUsed

/-- A line moves to a spare line (R418); the event 0x0F06 marks the remap that leaves fewer than 64. -/
def State.mramRemap (s : State) (line : Nat) : State :=
  let s1 := s.setMram { s.mram with remap := tput s.mram.remap line s.mram.spareUsed, spareUsed := s.mram.spareUsed + 1
                                    wear := tset 0 s.mram.wear line 0 }
  let s2 := s1.raise 0x0F05 1
  if s2.spareFree = 63 then s2.raise 0x0F06 3 else s2

/-- One write operation on a line is counted; at 80,000,000 the line moves, where a spare line is left (R418). -/
def State.mramWear (s : State) (line : Nat) : State :=
  let n := tget 0 s.mram.wear line + 1
  let s1 := s.setMram { s.mram with wear := tset 0 s.mram.wear line n }
  if 80000000 ≤ n ∧ 0 < s1.spareFree then s1.mramRemap line else s1

/-- The lines that `n` bytes at an MRAM offset touch. -/
def linesOf (off n : Nat) : List Nat := (List.range ((off + n + 255) / 256 - off / 256)).map (fun i => off / 256 + i)

/-- Write bytes at an MRAM offset: one write operation for each line touched. A word written whole is good again (R411). -/
def State.mramPut (s : State) (off : Nat) (bs : List Byte) : State :=
  let s1 := s.mwbytes (mramBase + off) bs
  let s2 := s1.setMram { s1.mram with lost := s1.mram.lost.filter (fun w => decide (8 * w < off ∨ off + bs.length < 8 * w + 8)) }
  (if bs = [] then [] else linesOf off bs.length).foldl State.mramWear s2

/-- Bytes written to MRAM one 256-byte line at a time. -/
def State.putLines (s : State) (off : Nat) (bs : List Byte) : State :=
  (List.range ((bs.length + 255) / 256)).foldl (fun t k => t.mramPut (off + 256 * k) (slice (256 * k) 256 bs)) s

/-- The MRAM event log (R367, R427): a ring of 65,536 entries of four words. DESIGN CHOICE (assumption 118): they stand one after
another from the start of the log region. -/
def logBase : Nat := 0xE00000

/-- Copy an entry to the MRAM event log; the oldest is overwritten (R427). -/
def State.logEvent (s : State) (e : EvEntry) : State :=
  let s1 := s.mramPut (logBase + 16 * s.mram.logNext) (e.words.flatMap (leBytes 4))
  s1.setMram { s1.mram with logNext := (s.mram.logNext + 1) % 65536 }

/-- The waiting fault of the highest class, oldest first (R423). -/
def State.nextWaiting (s : State) : Option EvEntry :=
  (s.flt.queue.filter (fun e => e.handling == .waiting)).foldl
    (fun best e => match best with
      | none => some e
      | some b => if b.cls < e.cls then some e else some b) none

/-- FLT_FAULT_DONE.done: the top fault's handling ends and the next is pushed or resumed (R423). -/
def State.faultDone (s : State) : State :=
  match s.flt.stack with
  | [] => s
  | i :: rest =>
    let q := (modEntry s.flt.queue i.slot (fun x => { x with handling := .ended })).filter (fun e => !e.gone)
    let s1 := { s with flt := { s.flt with queue := q, stack := rest } }
    match s1.nextWaiting with
    | some w => if s1.topClass < w.cls then s1.pushFault w else s1
    | none => s1

/-- FLT_EVQ_ACK: mark the entry with this slot and generation as read (R430, R431). The warden firmware, as reader,
first copies an entry of class log_min or above to the MRAM event log. -/
def State.evAck (s : State) (m : Master) (tag : Nat) : State :=
  let reader := if s.fldB FLT_CTL FLT_CTL_reader then Master.pcie else Master.warden
  if m = reader then
    match s.flt.queue.find? (fun e => e.slot == tag / 256 && e.gen == tag % 256) with
    | none => s.setFld FLT_EVQ_STATUS FLT_EVQ_STATUS_ack_miss 1
    | some e =>
      let s1 := if m = .warden ∧ !e.read ∧ s.fld FLT_CTL FLT_CTL_log_min ≤ e.cls then s.logEvent e else s
      s1.setQueue ((modEntry s1.flt.queue e.slot (fun x => { x with read := true })).filter (fun e => !e.gone))
  else s

/-- The handling time limit of the fault being handled has passed (R425). -/
def State.handleTimeout (s : State) : State :=
  match s.flt.stack, s.topFault with
  | i :: rest, some e =>
    if i.timedOut then s
    else
      { s with flt := { s.flt with stack := { i with timedOut := true } :: rest } }.raiseP
        { code := 0x0302, cls := min 7 (e.cls + 1), inst := e.inst, detail := e.block,
          ts := s.tide.toNat % 2 ^ 44, esc := true }
  | _, _ => s

/-! ECC counts (R411, R412) -/

def State.eccOf (s : State) (mem : Nat) : EccMem := tget {} s.flt.ecc mem

def State.setEcc (s : State) (mem : Nat) (e : EccMem) : State :=
  { s with flt := { s.flt with ecc := tset {} s.flt.ecc mem e } }

/-- FLT_REP_MAP_0 or FLT_REP_MAP_1 of a macro: two repair entries, column in bits 9:0 and used in bit 15 (R416). -/
def repairWord (macro_ k : Nat) : Nat :=
  let half (e : Nat) : Nat := match Config.repairedColumn macro_ e with
    | some c => c.val + 2 ^ 15
    | none => 0
  half (2 * k) + half (2 * k + 1) * 2 ^ 16

/-- A read corrected one bit: the count, and 0x0F01 once when it reaches ecc_warn (R412). -/
def State.eccCorrected (s : State) (mem addr : Nat) (hard : Bool) : State :=
  let e := s.eccOf mem
  let n := satAdd 16 e.corrected 1
  let warn := !e.warned && s.fld FLT_ECC_CFG FLT_ECC_CFG_ecc_warn ≤ n
  let s1 := s.setEcc mem { e with corrected := n, addr := addr, uncorr := false, hard := hard, warned := e.warned || warn }
  if warn then s1.raiseLim 0x0F01 1 mem else s1

def State.eccUncorrectable (s : State) (mem addr : Nat) : State :=
  let e := s.eccOf mem
  s.setEcc mem { e with uncorrectable := satAdd 16 e.uncorrectable 1, addr := addr, uncorr := true, hard := false }

/-! FLT register reads that show the queue and the stack (R435) -/

def State.fltRead (s : State) (off : Nat) : Option Nat :=
  if off = 0x0004 then
    some (s.flt.stack.length + s.topClass * 8 + s.fld FLT_STATUS FLT_STATUS_fault_lost * 64)
  else if 0x0010 ≤ off ∧ off < 0x0020 then
    some (((s.topFault).map (fun e => e.words.getD ((off - 0x10) / 4) 0)).getD 0)
  else if 0x0030 ≤ off ∧ off < 0x0040 then
    let k := (off - 0x30) / 4
    some (match s.flt.stack.reverse[k]? with
      | some i => ((s.entryAt i.slot).map (fun e => e.words.getD 0 0)).getD 0
      | none => 0)
  else if 0x0100 ≤ off ∧ off < 0x0110 then
    some (((s.evHead).map (fun e => e.words.getD ((off - 0x100) / 4) 0)).getD 0)
  else if off = 0x0114 then
    some (s.flt.queue.length + ((s.rd FLT_EVQ_STATUS).toNat - (s.rd FLT_EVQ_STATUS).toNat % 2 ^ 13))
  else if off = 0x0308 then
    let e := s.eccOf (s.fld FLT_ECC_SEL FLT_ECC_SEL_mem)
    some (e.corrected + e.uncorrectable * 2 ^ 16)
  else if off = 0x030C then some ((s.eccOf (s.fld FLT_ECC_SEL FLT_ECC_SEL_mem)).addr % 2 ^ 32)
  else if off = 0x0310 then
    let e := s.eccOf (s.fld FLT_ECC_SEL FLT_ECC_SEL_mem)
    some (e.addr / 2 ^ 32 % 256 + boolNat e.uncorr * 256 + boolNat e.hard * 512)
  else if off = 0x0404 ∨ off = 0x0408 then
    some (repairWord (s.fld FLT_REP_SEL FLT_REP_SEL_macro) ((off - 0x404) / 4))
  else if off = 0x0500 then
    some (Config.mramSpareFree - s.mram.spareUsed + boolNat s.mram.scrubActive * 2 ^ 11 + boolNat s.mram.scrubDue * 2 ^ 12)
  else if off = 0x0504 then
    some (satAdd 32 (if s.mram.hoursCleared then 0 else Config.mramHours) s.mram.hours)
  else none

/-- FLT register writes with an effect of their own (R431, R435). -/
def State.fltWrite (s : State) (m : Master) (off : Nat) (v : Word) : State :=
  let a := 0x20020000 + off
  if off = 0x0020 then if v.toNat.testBit 0 then s.faultDone else s
  else if off = 0x0110 then s.evAck m (v.toNat % 2 ^ 20)
  else if off = 0x0180 then
    let s1 := if v.toNat.testBit 0 then
      (s.clearRegs ((List.range 8).map FLT_EVQ_LOST)).setFld FLT_EVQ_STATUS FLT_EVQ_STATUS_ecc_lost 0 else s
    let s2 := if v.toNat.testBit 1 then s1.clearRegs ((List.range 16).map (fun i => FLT_SRC_LOST (i + 1))) else s1
    if v.toNat.testBit 2 then
      { s2 with flt := { s2.flt with ecc := s2.flt.ecc.map (fun e =>
          (e.1, { e.2 with corrected := 0, uncorrectable := 0, warned := false })) } }
    else s2
  else s.wrPlain a v

/-! The rows of the table -/

def execEventPost (b : Fin 16) (s : State) : Host.Outcome State Fault Refusal := .next (s.takePosting (b.val + 1))

def execHandleTimeout (s : State) : Host.Outcome State Fault Refusal := .next s.handleTimeout

end Sys2Proof.Machine
end

