-- ==== Sys2Proof/Machine/Tables.lean ====
section
/-! DEFINITION. The table engines: VLAN, MAC and trie lookups and changes, learning and aging (R211–R230). -/

namespace Sys2Proof.Machine

def State.mem32 (s : State) (a : Nat) : Nat := s.mrd a 4

def State.setMem32 (s : State) (a v : Nat) : State := s.mwr a 4 v

def State.tblCount (s : State) (k : Nat) : State := s.bump (TBL_CNT k)

/-! VLAN table (R214) -/

def State.vlanMembers (s : State) (v : Nat) : Nat := if v = 0 ∨ v = 4095 then 0 else s.mem32 (0x304B0000 + 8 * v)

def State.vlanUntag (s : State) (v : Nat) : Nat := if v = 0 ∨ v = 4095 then 0 else s.mem32 (0x304B0004 + 8 * v)

/-! MAC table (R224–R230) -/

/-- Bucket of an address and VID: bits [10:0] of the CRC-32C over the VID and the address as sent (R225). -/
def macBucket (mac vid : Nat) : Nat := crc32c (beBytes 2 (vid % 4096) ++ beBytes 6 mac) % 2048

/-- Address of entry `e` = 8 × bucket + way. -/
def macAddr (e : Nat) : Nat := 0x304C0000 + 16 * e

structure MacEntry where
  mac : Nat
  vid : Nat
  kind : Nat
  hit : Bool
  seenClear : Bool
  dest : Nat
  stamp : Nat
  deriving DecidableEq, Repr

def State.macEntry (s : State) (e : Nat) : MacEntry :=
  let w1 := s.mem32 (macAddr e + 4)
  { mac := s.mem32 (macAddr e) + bits 15 0 w1 * 2 ^ 32, vid := bits 27 16 w1, kind := bits 29 28 w1
    hit := bit 30 w1, seenClear := bit 31 w1, dest := s.mem32 (macAddr e + 8), stamp := bits 15 0 (s.mem32 (macAddr e + 12)) }

def MacEntry.bytes (m : MacEntry) : List Byte :=
  leBytes 4 (m.mac % 2 ^ 32) ++
  leBytes 4 (m.mac / 2 ^ 32 % 2 ^ 16 + m.vid * 2 ^ 16 + m.kind * 2 ^ 28 + boolNat m.hit * 2 ^ 30 + boolNat m.seenClear * 2 ^ 31) ++
  leBytes 4 m.dest ++ leBytes 4 m.stamp

def State.setMac (s : State) (e : Nat) (m : MacEntry) : State := s.mwbytes (macAddr e) m.bytes

/-- An empty way: all four words zero. -/
def State.clearMac (s : State) (e : Nat) : State := s.mwbytes (macAddr e) (List.replicate 16 0)

/-- The entry of an address and VID. -/
def State.macFind (s : State) (mac vid : Nat) : Option Nat :=
  findFrom (fun e => let m := s.macEntry e; m.kind != 0 && m.mac == mac && m.vid == vid) 8 (8 * macBucket mac vid)

/-- Entries of the MAC table that hold anything, in address order. -/
def State.macListed (s : State) : List Nat :=
  ((s.mem.filter (fun c => 0x304C0000 ≤ c.1 && c.1 < 0x30500000)).map (fun c => (c.1 - 0x304C0000) / 16)).dedup

def State.macUsed (s : State) : List Nat := s.macListed.filter (fun e => (s.macEntry e).kind != 0)

def State.sweepCount (s : State) : Nat := s.fld TBL_AGE_STATUS TBL_AGE_STATUS_sweep_count

/-- Draw a way among the dynamic ways of a full bucket: the oldest, or a random one (R227). -/
def State.evictWay (s : State) (b : Nat) : Option Nat × State :=
  let dyn := ((List.range 8).map (8 * b + ·)).filter (fun e => (s.macEntry e).kind == 1)
  match dyn with
  | [] => (none, s)
  | d :: ds =>
    if s.fldB TBL_CTL TBL_CTL_evict_random then
      let r := lfsrStep s.tbl.lfsr
      (dyn[(r % 65536) * dyn.length / 65536]?, { s with tbl := { s.tbl with lfsr := r } })
    else
      let age (e : Nat) : Nat := (s.sweepCount + 65536 - (s.macEntry e).stamp) % 65536
      (some (ds.foldl (fun best e => if age best < age e then e else best) d), s)

/-- Put an entry into its bucket: the lowest empty way, else a dynamic way evicted with 0x0603; false where neither exists
(R227, R445). -/
def State.macInsert (s : State) (port : Nat) (m : MacEntry) : State × Bool :=
  let b := macBucket m.mac m.vid
  match findFrom (fun e => (s.macEntry e).kind == 0) 8 (8 * b) with
  | some e => (s.setMac e m, true)
  | none =>
    match s.evictWay b with
    | (some e, s1) => (((s1.setMac e m).tblCount 1).raiseLim 0x0603 1 port, true)
    | (none, s1) => (s1, false)

/-- The learning lookup of a received frame's source address (R227, R228). -/
def State.learnFrom (s : State) (port mac vid : Nat) : State :=
  if !s.fldB (TBL_PORT_CFG port) TBL_PORT_CFG_learn_en then s
  else match s.macFind mac vid with
    | some e =>
      let m := s.macEntry e
      if m.dest.testBit port then
        if m.kind = 1 then if m.stamp = s.sweepCount then s else s.setMac e { m with stamp := s.sweepCount }
        else if m.kind = 2 then if m.hit then s else s.setMac e { m with hit := true }
        else s
      else if m.kind = 1 then
        (s.setMac e { m with dest := 2 ^ port, stamp := s.sweepCount }).tblCount 4
      else ((s.tblCount 5).setFld TBL_STATUS TBL_STATUS_move_refused 1).raise 0x0604 3 port
    | none =>
      if s.tbl.learn.any (fun r => r.mac == mac && r.vid == vid) then s
      else if s.tbl.learn.length < 64 then
        { s with tbl := { s.tbl with learn := s.tbl.learn ++ [{ mac := mac, vid := vid, port := port }] } }
      else ((s.tblCount 3).setFld TBL_STATUS TBL_STATUS_learn_lost 1).raiseLim 0x0605 2 port

/-- A queued learn request is served (R227). -/
def State.learnServe (s : State) : State :=
  match s.tbl.learn with
  | [] => s
  | r :: rest =>
    let s0 := { s with tbl := { s.tbl with learn := rest } }
    let kind := if s0.fldB (TBL_PORT_CFG r.port) TBL_PORT_CFG_learn_priv then 2 else 1
    match s0.macFind r.mac r.vid with
    | some _ => s0
    | none =>
      match s0.macInsert r.port { mac := r.mac, vid := r.vid, kind := kind, hit := false, seenClear := false
                                  dest := 2 ^ r.port, stamp := if kind = 1 then s0.sweepCount else 0 } with
      | (s1, true) => s1.tblCount 0
      | (s1, false) => ((s1.tblCount 2).setFld TBL_STATUS TBL_STATUS_learn_full 1).raiseLim 0x0602 2 r.port

/-- The sweeper's access to one entry: compare-and-write and compare-and-remove (R229, R230). `changed` says that words 1
and 3 no longer equal what the sweeper read: the access then aborts. -/
def State.sweepEntry (s : State) (changed : Bool) (e : Nat) : State :=
  let m := s.macEntry e
  let age := (s.sweepCount + 65536 - m.stamp) % 65536
  let abort (t : State) : State := if changed then s.tblCount 8 else t
  if m.kind = 1 then
    if s.fld TBL_AGE_CFG TBL_AGE_CFG_age_sweeps ≤ age then abort ((s.clearMac e).tblCount 6) else s
  else if m.kind = 2 then
    if m.hit then abort (s.setMac e { m with hit := false, seenClear := false })
    else if !m.seenClear then abort (s.setMac e { m with seenClear := true })
    else abort (((s.clearMac e).tblCount 7).raise 0x0606 2 ((bitsOf 32 m.dest).headD 0))
  else s

def State.sweeping (s : State) : Bool := s.fldB TBL_AGE_STATUS TBL_AGE_STATUS_sweeping

/-- A sweep starts (R229, R237). DESIGN CHOICE (assumption 91): a start while one is in progress does nothing. -/
def State.sweepStart (s : State) : State :=
  if s.sweeping then s
  else (s.setFld TBL_AGE_STATUS TBL_AGE_STATUS_sweep_count ((s.sweepCount + 1) % 65536)).setFld TBL_AGE_STATUS
    TBL_AGE_STATUS_sweeping 1

/-- The sweep in progress goes over the table in address order and ends (R229). `changed` names the entries that a hit update
changed between the sweeper's read and its access. -/
def State.sweepRun (s : State) (changed : List Nat) : State :=
  (s.macListed.foldl (fun t e => t.sweepEntry (changed.contains e) e) s).setFld TBL_AGE_STATUS TBL_AGE_STATUS_sweeping 0

/-! The prefix trie (R215–R223) -/

def leafAddr (l : Nat) : Nat := 0x30580000 + 16 * l
def nodeAddr (n : Nat) : Nat := 0x30780000 + 1024 * n
def coverAddr (n : Nat) : Nat := 0x304B9000 + 4 * n
def rootAddr (ty : Nat) : Nat := if ty = 1 then 0x30500000 else 0x30540000
def noCover : Nat := 0xFFFFFFFF

/-- The stage-s bits of a trie word (R215). -/
def stageBits (w s : Nat) : Nat := if s = 0 then w / 2 ^ 48 % 65536 else w / 2 ^ (48 - 8 * s) % 256

/-- Bits of a key consumed at the end of stage s. -/
def stageEnd (s : Nat) : Nat := 16 + 8 * s

structure Leaf where
  word : Nat
  result : Nat
  len : Nat
  valid : Bool
  ty : Nat
  deriving DecidableEq, Repr

def State.leaf (s : State) (l : Nat) : Leaf :=
  let w3 := s.mem32 (leafAddr l + 12)
  { word := s.mrd (leafAddr l) 8, result := s.mem32 (leafAddr l + 8), len := bits 6 0 w3, valid := bit 7 w3, ty := bits 10 8 w3 }

def Leaf.bytes (l : Leaf) : List Byte :=
  leBytes 8 l.word ++ leBytes 4 l.result ++ leBytes 4 (l.len + boolNat l.valid * 128 + l.ty * 256)

/-- The top `n` bits of two trie words agree. -/
def topAgree (n a b : Nat) : Bool := a / 2 ^ (64 - n) == b / 2 ^ (64 - n)

def Leaf.matches (l : Leaf) (w ty : Nat) : Bool := l.valid && l.ty == ty && topAgree l.len l.word w

/-- The lookup of R218 from a slot table at `base`, at stage `st`; `best` is the best leaf so far. -/
def State.trieWalk (s : State) (w ty : Nat) : Nat → Nat → Nat → Option Nat → Option Nat
  | 0, _, _, best => best
  | fuel + 1, base, st, best =>
    let slot := s.mem32 (base + 4 * stageBits w st)
    let ix := slot % 2 ^ 17
    if slot / 2 ^ 30 = 1 ∧ st < 6 then
      let n := ix % 512
      let c := s.mem32 (coverAddr n)
      s.trieWalk w ty fuel (nodeAddr n) (st + 1) (if c = noCover then best else some (c % 2 ^ 17))
    else if slot / 2 ^ 30 = 2 ∧ (s.leaf ix).matches w ty then some ix
    else best

/-- The leaf that a lookup finds; types 0 and 7 never match (R215). -/
def State.trieFind (s : State) (w ty : Nat) : Option Nat :=
  if ty = 0 ∨ ty = 7 then none else s.trieWalk w ty 7 (rootAddr ty) 0 none

/-- The result word of the longest matching entry (R217, R218). -/
def State.trieLookup (s : State) (w ty : Nat) : Option Nat := (s.trieFind w ty).map (fun l => (s.leaf l).result)

/-- The entry of exactly this key, length and type. -/
def State.trieExact (s : State) (w len ty : Nat) : Option Nat :=
  s.tbl.leaves.find? (fun l => let e := s.leaf l; e.valid && e.len == len && e.ty == ty && topAgree len e.word w)

/-- Nodes and leaves that are free: neither in use nor awaiting release (R221, R223). The lowest is taken first. -/
def State.nodeTaken (s : State) (n : Nat) : Bool := s.tbl.nodes.contains n || s.tbl.released.any (fun r => r.nodes.contains n)
def State.leafTaken (s : State) (l : Nat) : Bool := s.tbl.leaves.contains l || s.tbl.released.any (fun r => r.leaves.contains l)

def State.takeNode (s : State) : Option (Nat × State) :=
  (findFrom (fun n => !s.nodeTaken n) 512 0).map (fun n =>
    (n, (({ s with tbl := { s.tbl with nodes := s.tbl.nodes ++ [n] } }.mwbytes (nodeAddr n) (List.replicate 1024 0))).setMem32
      (coverAddr n) noCover))

def State.takeLeaf (s : State) (e : Leaf) : Option (Nat × State) :=
  (findFrom (fun l => !s.leafTaken l) 131072 0).map (fun l =>
    (l, { s with tbl := { s.tbl with leaves := s.tbl.leaves ++ [l] } }.mwbytes (leafAddr l) e.bytes))

/-- First slot and number of slots that a prefix fills in a stage (R219). -/
def slotRange (w len st : Nat) : Nat × Nat :=
  let e := stageEnd st
  if e ≤ len then (stageBits w st, 1)
  else
    let n := 2 ^ (e - len)
    (stageBits w st / n * n, n)

mutual
/-- Put a leaf of length `len` under the slot table at `base`, stage `st` (R219). -/
def State.trieAdd (s : State) : Nat → Nat → Nat → Nat → Leaf → Option State
  | 0, _, _, _, _ => none
  | fuel + 1, base, st, l, e =>
    let (i0, n) := slotRange e.word e.len st
    (List.range n).foldl (fun (acc : Option State) k => acc.bind (fun t => t.trieSlot fuel (base + 4 * (i0 + k)) st l e)) (some s)
termination_by structural x => x

/-- One slot of the stage that the leaf fills or passes. -/
def State.trieSlot (s : State) : Nat → Nat → Nat → Nat → Leaf → Option State
  | 0, _, _, _, _ => none
  | fuel + 1, slot, st, l, e =>
    let v := s.mem32 slot
    let ix := v % 2 ^ 17
    let here (t : State) : Option State := some (t.setMem32 slot (2 ^ 31 + l))
    /- a child node that holds the old leaf or covers it, and takes the new one -/
    let split (cover : Option Nat) (old : Option Nat) (new : Bool) : Option State :=
      (s.takeNode).bind (fun (n, t) =>
        let t1 := match cover with | some c => t.setMem32 (coverAddr n) c | none => t
        let t2 := match old with | some o => t1.trieAdd fuel (nodeAddr n) (st + 1) o (t1.leaf o) | none => some t1
        let t3 := if new then t2.bind (fun u => u.trieAdd fuel (nodeAddr n) (st + 1) l e) else t2
        t3.map (fun u => u.setMem32 slot (2 ^ 30 + n)))
    if v / 2 ^ 30 = 1 then
      let n := ix % 512
      if e.len ≤ stageEnd st then
        let c := s.mem32 (coverAddr n)
        if c = noCover ∨ (s.leaf (c % 2 ^ 17)).len ≤ e.len then some (s.setMem32 (coverAddr n) l) else some s
      else s.trieAdd fuel (nodeAddr n) (st + 1) l e
    else if v / 2 ^ 30 = 2 then
      let o := s.leaf ix
      if o.len = e.len ∧ topAgree e.len o.word e.word then here s
      else if e.len ≤ stageEnd st then
        if o.len ≤ stageEnd st then (if o.len < e.len then here s else some s)
        else split (some l) (some ix) false
      else if o.len ≤ stageEnd st then split (some ix) none true
      else split none (some ix) true
    else here s
termination_by structural x => x
end

/-- A refused trie change: nothing changes but its count, status bit and event 0x0601 (R221). -/
def State.trieRefused (s : State) : State :=
  ((s.tblCount 9).setFld TBL_STATUS TBL_STATUS_trie_full 1).raise 0x0601 2

/-- Nodes and leaves made unreachable wait until the epoch has reached E + 2 (R223). -/
def State.trieRelease (s : State) (ns ls : List Nat) : State :=
  if ns = [] ∧ ls = [] then s
  else { s with tbl := { s.tbl with
    nodes := s.tbl.nodes.filter (fun n => !ns.contains n), leaves := s.tbl.leaves.filter (fun l => !ls.contains l)
    released := s.tbl.released ++ [{ epoch := (s.rd TBL_TRIE_EPOCH).toNat + 2, nodes := ns, leaves := ls }] } }

/-- Add an entry by copy-on-write, or refuse it whole (R221, R222); an entry of the same key is replaced. -/
def State.trieInsert (s : State) (e : Leaf) : State × Bool :=
  match (s.takeLeaf e).bind (fun (l, t) => t.trieAdd 16 (rootAddr e.ty) 0 l e) with
  | some t =>
    (match s.trieExact e.word e.len e.ty with
      | some old => t.trieRelease [] [old]
      | none => t, true)
  | none => (s.trieRefused, false)

/-- The longest other entry that fills a slot in its stage: what the slot shows once an entry has gone. -/
def State.nextBest (s : State) (ty w lo hi : Nat) (gone : Nat) : Option Nat :=
  s.tbl.leaves.foldl (fun best l =>
    let e := s.leaf l
    if l ≠ gone ∧ e.valid ∧ (ty = 1 ↔ e.ty = 1) ∧ lo < e.len ∧ e.len ≤ hi ∧ topAgree e.len e.word w then
      match best with
      | some b => if (s.leaf b).len < e.len then some l else best
      | none => some l
    else best) none

/-- A node without children whose content is one leaf, or its cover alone, folds into the slot above it. -/
def State.foldNode (s : State) (n : Nat) : Option Nat :=
  let slots := ((List.range 256).map (fun i => s.mem32 (nodeAddr n + 4 * i))).filter (· ≠ 0)
  let c := s.mem32 (coverAddr n)
  match slots.dedup with
  | [] => some (if c = noCover then 0 else 2 ^ 31 + c)
  | [v] => if c = noCover ∧ v / 2 ^ 30 = 2 then some v else none
  | _ => none

/-- Take a leaf out of the slot table at `base`: each slot it fills shows the next shorter prefix of its stage, and nodes
left with one entry fold. Returns the nodes made unreachable. -/
def State.trieTake (s : State) (g : Nat) (e : Leaf) : Nat → Nat → Nat → State × List Nat
  | 0, _, _ => (s, [])
  | fuel + 1, base, st =>
    let (i0, n) := slotRange e.word e.len st
    (List.range n).foldl (fun (acc : State × List Nat) k =>
      let t := acc.1
      let a := base + 4 * (i0 + k)
      let v := t.mem32 a
      /- the key that agrees with this slot, down to the end of the stage -/
      let key := (e.word / 2 ^ (64 - stageEnd st) - stageBits e.word st + (i0 + k)) * 2 ^ (64 - stageEnd st)
      let lo := if st = 0 then 0 else stageEnd (st - 1)
      let best := t.nextBest e.ty key lo (stageEnd st) g
      if v = 2 ^ 31 + g then (t.setMem32 a (match best with | some b => 2 ^ 31 + b | none => 0), acc.2)
      else if v / 2 ^ 30 = 1 then
        let nd := v % 512
        let (u, freed) :=
          if t.mem32 (coverAddr nd) = g then (t.setMem32 (coverAddr nd) (best.getD noCover), [])
          else if stageEnd st < e.len then t.trieTake g e fuel (nodeAddr nd) (st + 1)
          else (t, [])
        match u.foldNode nd with
        | some w => (u.setMem32 a w, acc.2 ++ freed ++ [nd])
        | none => (u, acc.2 ++ freed)
      else acc) (s, [])

/-- Remove an entry; its nodes and leaf are released after two epochs (R223). False where it does not exist. -/
def State.trieRemove (s : State) (w len ty : Nat) : State × Bool :=
  match s.trieExact w len ty with
  | some g =>
    let (t, ns) := s.trieTake g (s.leaf g) 7 (rootAddr ty) 0
    (t.trieRelease ns [g], true)
  | none => (s, false)

/-- The epoch increments, and what waited two increments becomes free (R223). -/
def State.epochAdvance (s : State) : State :=
  let e := ((s.rd TBL_TRIE_EPOCH).toNat + 1) % 2 ^ 32
  let s1 := s.wr TBL_TRIE_EPOCH (BitVec.ofNat 32 e)
  { s1 with tbl := { s1.tbl with released := s1.tbl.released.filter (fun r => r.epoch % 2 ^ 32 != e) } }

/-! TBL registers -/

def State.tblWrite (s : State) (off : Nat) (v : Word) : State :=
  let a := 0x20050000 + off
  if off = 0x0000 then
    let s1 := s.wrPlain a v
    if v.toNat.testBit 2 then s1.sweepStart else s1
  else if off = 0x000C then
    let n := if v = 0 then 1 else v
    { s.wrPlain a n with tbl := { s.tbl with lfsr := n.toNat } }
  else if off = 0x0280 then if v.toNat.testBit 0 then s.clearRegs ((List.range 13).map TBL_CNT) else s
  else s.wrPlain a v

def State.tblRead (s : State) (off : Nat) : Option Nat :=
  if off = 0x0014 then some (s.sweepCount + boolNat s.sweeping * 2 ^ 16 + s.tbl.learn.length * 2 ^ 17)
  else if off = 0x0024 then
    let n := s.tbl.nodes.length + (s.tbl.released.map (fun r => r.nodes.length)).sum
    let l := s.tbl.leaves.length + (s.tbl.released.map (fun r => r.leaves.length)).sum
    some (n + l * 2 ^ 10)
  else if off = 0x0028 then
    let u := s.macUsed
    some (u.length + (u.filter (fun e => 2 ≤ (s.macEntry e).kind)).length * 2 ^ 16)
  else none

/-! The rows of the table -/

def execLearnRequestServe (s : State) : Host.Outcome State Fault Refusal := .next s.learnServe
def execTrieEpochAdvance (s : State) : Host.Outcome State Fault Refusal := .next s.epochAdvance
/-- The sweep that sweep_now has started, or a periodic one while age_en is 1 (R229). -/
def execAgingSweep (changed : List Nat) (s : State) : Host.Outcome State Fault Refusal :=
  .next (if s.sweeping ∨ s.fldB TBL_CTL TBL_CTL_age_en then s.sweepStart.sweepRun changed else s)

end Sys2Proof.Machine
end

