-- ==== Sys2Proof/Machine/Tide.lean ====
section
/-! DEFINITION. Tide tables: gate states, windows and schedule changes (R120–R128). -/

namespace Sys2Proof.Machine

def State.tideOf (s : State) (p : Nat) : TideSched := tget {} s.tm.scheds p

def State.setTide (s : State) (p : Nat) (t : TideSched) : State :=
  { s with tm := { s.tm with scheds := tset {} s.tm.scheds p t } }

/-- Entry `i` of a list of a port (R120). -/
def State.ttEntry (s : State) (p l i : Nat) : Word := tget 0 s.tm.entries (p * 2048 + l * 1024 + i)

/-- The segments (length in ns, gates) of one cycle: entries of 0 ns skipped, the schedule cut at the end of the cycle, the
last entry holding to it (R121). -/
def segments : Nat → List (Nat × Nat) → List (Nat × Nat)
  | _, [] => []
  | left, [(_, g)] => if left = 0 then [] else [(left, g)]
  | left, (d, g) :: rest =>
    if left = 0 then [] else if d = 0 then segments left rest
    else (min d left, g) :: segments (left - min d left) rest

def State.schedSegs (s : State) (p : Nat) (c : Sched) : List (Nat × Nat) :=
  segments c.cycle ((List.range c.len).map (fun i =>
    let w := (s.ttEntry p c.list i).toNat
    (w / 256, w % 256)))

/-- Position in the cycle; defined for times before the base as well (R121). -/
def Sched.pos (c : Sched) (t : Nat) : Nat := (((t : Int) - c.base) % (c.cycle : Int)).toNat

/-- The first cycle boundary at or after `t`. -/
def Sched.boundary (c : Sched) (t : Nat) : Nat := if c.pos t = 0 then t else t + (c.cycle - c.pos t)

/-- The gates at a position of a cycle. -/
def gatesAtPos : List (Nat × Nat) → Nat → Nat
  | [], _ => 0xFF
  | [(_, g)], _ => g
  | (d, g) :: rest, pos => if pos < d then g else gatesAtPos rest (pos - d)

/-- gate_state(t) of R121. -/
def State.gateState (s : State) (p : Nat) (c : Sched) (t : Nat) : Nat := gatesAtPos (s.schedSegs p c) (c.pos t)

/-- The segments from a position on, the first one cut, followed by one whole cycle. -/
def segsFrom (segs : List (Nat × Nat)) (pos : Nat) : List (Nat × Nat) := dropSegs segs pos ++ segs
where
  dropSegs : List (Nat × Nat) → Nat → List (Nat × Nat)
    | [], _ => []
    | (d, g) :: rest, p => if p < d then (d - p, g) :: rest else dropSegs rest (p - d)

/-- Time until the gate of a class is closed, within the segments given; none where it does not close. -/
def closeAfter (tc : Nat) : List (Nat × Nat) → Nat → Option Nat
  | [], _ => none
  | (d, g) :: rest, acc => if g.testBit tc then closeAfter tc rest (acc + d) else some acc

/-- The gate state function that a port follows: constant gates, or a schedule, each up to an instant. -/
inductive GatePhase where
  | const (gates : Nat)
  | sched (c : Sched)
  deriving DecidableEq, Repr

/-- The phases that port `p` will actually follow: gates held after a step, the operating schedule, the pending change from
its switch instant (R39, R123, R126). -/
def State.phases (s : State) (p : Nat) : List (Option Nat × GatePhase) :=
  let t := s.tideOf p
  match t.oper with
  | none => [(none, .const 0xFF)]
  | some c =>
    (match t.held with
      | some (g, u) => [(some u, GatePhase.const g)]
      | none => []) ++
    (match t.pending with
      | some n => [(some n.at_, GatePhase.sched c), (none, .sched n.sched)]
      | none => [(none, GatePhase.sched c)])

def State.phaseGates (s : State) (p : Nat) (ph : GatePhase) (t : Nat) : Nat :=
  match ph with
  | .const g => g
  | .sched c => s.gateState p c t

/-- The first instant at or after `t` at which the phase has the gate closed. -/
def State.phaseClose (s : State) (p tc : Nat) (ph : GatePhase) (t : Nat) : Option Nat :=
  match ph with
  | .const g => if g.testBit tc then none else some t
  | .sched c => (closeAfter tc (segsFrom (s.schedSegs p c) (c.pos t)) 0).map (t + ·)

/-- Gates in force at time `t` on the phases. -/
def State.gatesOn (s : State) (p : Nat) : List (Option Nat × GatePhase) → Nat → Nat
  | [], _ => 0xFF
  | (none, ph) :: _, t => s.phaseGates p ph t
  | (some u, ph) :: rest, t => if t < u then s.phaseGates p ph t else s.gatesOn p rest t

/-- next_close of R123: the first instant at or after `t` at which the gate of the class is closed. -/
def State.closeOn (s : State) (p tc : Nat) : List (Option Nat × GatePhase) → Nat → Option Nat
  | [], _ => none
  | (none, ph) :: _, t => s.phaseClose p tc ph t
  | (some u, ph) :: rest, t =>
    if u ≤ t then s.closeOn p tc rest t
    else match s.phaseClose p tc ph t with
      | some x => if x < u then some x else s.closeOn p tc rest u
      | none => s.closeOn p tc rest u

def State.gatesAt (s : State) (p t : Nat) : Nat := if p < 28 then s.gatesOn p (s.phases p) t else 0xFF

def State.nextClose (s : State) (p tc t : Nat) : Option Nat := if p < 28 then s.closeOn p tc (s.phases p) t else none

/-- The longest open window of a class in a cyclic schedule, windows joined across boundaries; none is infinite (R125). -/
def longestWindow (tc : Nat) (segs : List (Nat × Nat)) : Option Nat :=
  if segs.all (fun x => x.2.testBit tc) then none
  else
    some ((segs ++ segs).foldl (fun acc x =>
      let run := if x.2.testBit tc then acc.2 + x.1 else 0
      (max acc.1 run, run)) (0, 0)).1

/-- W(tc) of a port's operating schedule (R125). -/
def State.window (s : State) (p tc : Nat) : Option Nat :=
  match (s.tideOf p).oper with
  | some c => if p < 28 then longestWindow tc (s.schedSegs p c) else none
  | none => none

/-- The current gate states follow the state function (R121, R122); a hold whose end is reached is over (R39). -/
def State.gatesRefresh (s : State) (p : Nat) : State :=
  let t := s.tideOf p
  let now := s.tide.toNat
  let held := match t.held with
    | some (g, u) => if u ≤ now then none else some (g, u)
    | none => none
  let s1 := s.setTide p { t with held := held }
  s1.setTide p { s1.tideOf p with gates := s1.gatesAt p now }

/-- What port `p` has on the wire. -/
def State.airSet (s : State) (p : Nat) (x : AirFrame) : State :=
  { s with sw := { s.sw with onAir := s.sw.onAir.map (fun (y : Nat × AirFrame) => if y.1 = p then (p, x) else y) } }

/-- A frame on the wire is cut, or has ended. -/
def State.airCut (s : State) (p : Nat) : State :=
  { s with sw := { s.sw with onAir := s.sw.onAir.filter (fun (y : Nat × AirFrame) => y.1 != p) } }

/-- The frames on the wire at this instant: a gate that is closed under one is noted, and a frame that has ended leaves the list.
One that ended after its gate had closed counts in gate_overrun, with 0x0502 (R124); its end is that of R123, with the 20 bytes of
overhead. -/
def State.gateWatch (s : State) : State :=
  s.sw.onAir.foldl (fun t e =>
    let p := e.1
    let x := e.2
    if x.ends ≤ t.elapsed * 10 then
      let t1 := t.airCut p
      if x.closed then (t1.bump (TMG_GATE_CNT p 0)).raiseLim 0x0502 2 p else t1
    else if x.closed || (t.gatesAt p t.tide.toNat).testBit x.tc then t
    else t.airSet p { x with closed := true }) s

/-- A port starts a frame; what it sent before has ended. -/
def State.airStart (s : State) (p tc ends : Nat) : State :=
  let s1 := match s.sw.onAir.find? (fun y => y.1 == p) with
    | some y => (s.airSet p { y.2 with ends := 0 }).gateWatch
    | none => s
  ({ s1 with sw := { s1.sw with onAir := s1.sw.onAir ++ [(p, ({ tc := tc, ends := ends, closed := false } : AirFrame))] } }).gateWatch

/-- A pending change takes effect: the other list operates, pending clears, 0x0504 (R126). -/
def State.applyPending (s : State) (p : Nat) (n : TidePending) : State :=
  let s1 := s.setTide p { s.tideOf p with oper := some n.sched, pending := none }
  let s2 := ((s1.setFld (TMG_TT_CTL p) TMG_TT_CTL_pending 0).setFld (TMG_TT_CTL p) TMG_TT_CTL_list n.sched.list)
  (s2.raise 0x0504 0 p).gatesRefresh p

/-- The switch instant (R126). -/
def State.scheduleSwitch (s : State) (p : Nat) : State :=
  match (s.tideOf p).pending with
  | some n => if n.at_ ≤ s.tide.toNat then s.applyPending p n else s
  | none => s

/-- One port's part of a tide clock step (R39): the gate states just before the step hold until the first cycle boundary,
at or after the new time, of the schedule that applies there; a pending change whose instant is reached applies at once. -/
def State.tideStepPort (s : State) (t : Nat) (p : Nat) : State :=
  let ts := s.tideOf p
  match ts.oper with
  | none => s
  | some c =>
    let g := s.gatesAt p s.tide.toNat
    let hold (u : State) (c : Sched) : State := u.setTide p { u.tideOf p with held := some (g, c.boundary t), gates := g }
    match ts.pending with
    | some n => if n.at_ ≤ t then hold (s.applyPending p n) n.sched else hold s c
    | none => hold s c

def State.ttRefuse (s : State) (p : Nat) (f : Fld) : State := (s.setFld (TMG_TT_CTL p) f 1).raise 0x0505 2 p

/-- The list length that TMG_TT_LEN_p gives. -/
def State.ttLen (s : State) (p l : Nat) : Nat :=
  s.fld (TMG_TT_LEN p) (if l = 0 then TMG_TT_LEN_len0 else TMG_TT_LEN_len1)

/-- The schedule that the admin registers describe for a list. -/
def State.adminSched (s : State) (p l : Nat) : Sched :=
  { list := l, len := s.ttLen p l, cycle := (s.rd (TMG_TT_CYCLE p)).toNat
    base := s.rd64 (TMG_TT_BASE_LO p) (TMG_TT_BASE_HI p) }

def Sched.valid (c : Sched) : Bool := c.len != 0 && 1000 ≤ c.cycle && c.cycle ≤ 1000000000

/-- TMG_TT_CTL.change: capture the new schedule and fix the switch instant, or refuse (R126, R127). -/
def State.ttChange (s : State) (p : Nat) : State :=
  match (s.tideOf p).oper with
  | none => s.ttRefuse p TMG_TT_CTL_change_refused
  | some c =>
    let n := s.adminSched p (1 - c.list)
    if n.valid then
      let chg := s.rd64 (TMG_TT_CHG_LO p) (TMG_TT_CHG_HI p)
      let now := s.tide.toNat
      let at_ := if chg < now then c.boundary (now + 1) else c.boundary chg
      (s.setTide p { s.tideOf p with pending := some { sched := n, at_ := at_ } }).setFld (TMG_TT_CTL p) TMG_TT_CTL_pending 1
    else s.ttRefuse p TMG_TT_CTL_change_refused

/-- A write of TMG_TT_CTL_p (R126–R128). DESIGN CHOICE (assumption 90): a write that sets en and change together enables the
table first and then asks for the change; with en cleared by the write, the change is refused; and a write that clears en and gives
another list takes that list, though list was read-only while en was 1. -/
def State.ttCtlWrite (s : State) (p : Nat) (v : Word) : State :=
  let a := TMG_TT_CTL p
  let was := s.fldB a TMG_TT_CTL_en
  let oldList := s.fld a TMG_TT_CTL_list
  let s1 := s.wrPlain a v
  if v.toNat.testBit 0 then
    let s2 :=
      if was then s1.setFld a TMG_TT_CTL_list oldList
      else
        let c := s1.adminSched p (s1.fld a TMG_TT_CTL_list)
        if c.valid then (s1.setTide p { s1.tideOf p with oper := some c, pending := none, held := none }).gatesRefresh p
        else (s1.setFld a TMG_TT_CTL_en 0).ttRefuse p TMG_TT_CTL_change_refused
    if v.toNat.testBit 2 then s2.ttChange p else s2
  else
    let s2 := (s1.setTide p {}).setFld a TMG_TT_CTL_pending 0
    if v.toNat.testBit 2 then s2.ttRefuse p TMG_TT_CTL_change_refused else s2

/-- TMG_TT_DATA: an entry is written unless it is in the operating list of an enabled port or in the pending list; the index
then increments, wrapping (R127, R132). -/
def State.ttDataWrite (s : State) (v : Word) : State :=
  let p := s.fld TMG_TT_ADDR TMG_TT_ADDR_port
  let l := s.fld TMG_TT_ADDR TMG_TT_ADDR_list
  let i := s.fld TMG_TT_ADDR TMG_TT_ADDR_index
  if 28 ≤ p then s
  else
    let t := s.tideOf p
    let busy := (t.oper.any (fun c => c.list == l)) || (t.pending.any (fun n => n.sched.list == l))
    let s1 := if busy then s.ttRefuse p TMG_TT_CTL_write_refused
      else { s with tm := { s.tm with entries := tset 0 s.tm.entries (p * 2048 + l * 1024 + i) v } }
    s1.setFld TMG_TT_ADDR TMG_TT_ADDR_index ((i + 1) % 1024)

def State.ttDataRead (s : State) : Nat :=
  let p := s.fld TMG_TT_ADDR TMG_TT_ADDR_port
  if 28 ≤ p then 0 else (s.ttEntry p (s.fld TMG_TT_ADDR TMG_TT_ADDR_list) (s.fld TMG_TT_ADDR TMG_TT_ADDR_index)).toNat

/-! The rows of the table -/

def execTideEntryEnd (p : Fin 28) (s : State) : Host.Outcome State Fault Refusal := .next (s.gatesRefresh p.val)

end Sys2Proof.Machine
end

