-- ==== Sys2Proof/Machine/Traffic.lean ====
section
/-! DEFINITION. Policers and shapers (R115–R119) and the TMG registers that command them (R132). Levels and credits are
kept in units of 1/8,000,000 byte: one kbit/s over one ns. -/

namespace Sys2Proof.Machine

/-- Units of a level or credit in one byte. -/
def unitsPerByte : Nat := 8000000

/-! Policers -/

def State.pol (s : State) (p : Nat) : Policer := tget {} s.tm.pol p

def State.setPol (s : State) (p : Nat) (x : Policer) : State := { s with tm := { s.tm with pol := tset {} s.tm.pol p x } }

/-- The level after the time since the last decision, capped at the burst (R116). -/
def Policer.levelAt (x : Policer) (now : Nat) : Int :=
  min (x.level + (x.rate * (now - x.last) : Nat)) (x.burst * unitsPerByte : Nat)

/-- The policer's decision at a frame's first cell (R116). -/
def State.police (s : State) (p : Nat) : State × Bool :=
  let x := s.pol p
  if x.en then
    let l := x.levelAt s.elapsed
    if l < 0 then (s.setPol p { x with level := l, last := s.elapsed, drop := satAdd 32 x.drop 1 }, false)
    else (s.setPol p { x with level := l, last := s.elapsed, pass := satAdd 32 x.pass 1 }, true)
  else (s.setPol p { x with pass := satAdd 32 x.pass 1 }, true)

/-- The charge, at its end, of a frame that an enabled policer passed: the bytes received (R116). -/
def State.policeEnd (s : State) (p bytes : Nat) : State :=
  s.setPol p { s.pol p with level := (s.pol p).level - (bytes * unitsPerByte : Nat) }

/-- A policer takes rate, burst and en as one unit (R117). -/
def State.polSet (s : State) (p rate burst : Nat) (en : Bool) : State :=
  let x := s.pol p
  let now : Int := if x.en then x.levelAt s.elapsed else x.level
  s.setPol p { x with
    rate := rate, burst := burst, en := en, last := s.elapsed
    level := if en && !x.en then (burst * unitsPerByte : Nat) else min now (burst * unitsPerByte : Nat) }

/-- TMG_POL_CMD.write (R132). -/
def State.polWrite (s : State) (p : Nat) : State :=
  s.polSet p (s.fld TMG_POL_RATE TMG_POL_RATE_rate_kbps) (s.fld TMG_POL_BURST TMG_POL_BURST_burst_bytes)
    (s.fldB TMG_POL_RATE TMG_POL_RATE_en)

/-- TMG_POL_CMD.read: the policer's settings, level in whole bytes and counters appear in the registers (R132). DESIGN CHOICE
(assumption 70): a fraction of a byte in the level is rounded down, for a negative level as well. -/
def State.polRead (s : State) (p : Nat) : State :=
  let x := s.pol p
  let l := if x.en then x.levelAt s.elapsed else x.level
  ((((s.wr TMG_POL_RATE (BitVec.ofNat 32 (x.rate + boolNat x.en * 2 ^ 31))).wr TMG_POL_BURST (BitVec.ofNat 32 x.burst)).wr
    TMG_POL_LEVEL (BitVec.ofInt 32 (l / unitsPerByte))).wr TMG_POL_PASS (BitVec.ofNat 32 x.pass)).wr
    TMG_POL_DROP (BitVec.ofNat 32 x.drop)

def State.polClr (s : State) (p : Nat) : State := s.setPol p { s.pol p with pass := 0, drop := 0 }

/-- One command: its parts in the order write, read, clr (R132). -/
def State.polCommand (s : State) (v : Nat) : State :=
  let p := s.fld TMG_POL_SEL TMG_POL_SEL_index
  let s1 := if bit 0 v then s.polWrite p else s
  let s2 := if bit 1 v then s1.polRead p else s1
  if bit 2 v then s2.polClr p else s2

def State.clrPolCnt (s : State) : State := s.tm.pol.foldl (fun t e => t.polClr e.1) s

/-! Shapers -/

def State.shpEn (s : State) (k : Nat) : Bool := s.fldB (TMG_SHP_CFG k) TMG_SHP_CFG_en

def State.shpBurst (s : State) (k : Nat) : Nat := s.fld (TMG_SHP_BURST k) TMG_SHP_BURST_burst_bytes * unitsPerByte

/-- The credit now: it rises whether the queue holds frames or not, capped at the burst (R118). -/
def State.credit (s : State) (k : Nat) : Int :=
  let x := tget {} s.tm.shp k
  if s.shpEn k then
    min (x.credit + (s.fld (TMG_SHP_CFG k) TMG_SHP_CFG_rate_kbps * (s.elapsed - x.last) : Nat)) (s.shpBurst k : Nat)
  else x.credit

def State.setCredit (s : State) (k : Nat) (c : Int) : State :=
  { s with tm := { s.tm with shp := tset {} s.tm.shp k { credit := c, last := s.elapsed } } }

def State.shaperPermits (s : State) (k : Nat) : Bool := !s.shpEn k || decide (0 ≤ s.credit k)

/-- A grant charges L + ovh (R118). -/
def State.shaperGrant (s : State) (k len : Nat) : State :=
  if s.shpEn k then s.setCredit k (s.credit k - ((len + s.fld (TMG_SHP_CFG k) TMG_SHP_CFG_ovh) * unitsPerByte : Nat)) else s

/-- A write of a shaper register takes effect between two grants; the credit is limited to the new burst, and a shaper that
is turned on starts with a full burst (R119). -/
def State.shaperWrite (s : State) (k : Nat) (a : Nat) (v : Word) : State :=
  let was := s.shpEn k
  let c := s.credit k
  let s1 := s.wrPlain a v
  let b : Int := (s1.shpBurst k : Nat)
  if s1.shpEn k then s1.setCredit k (if was then min c b else b) else s1.setCredit k (min c b)

/-! TMG registers, but for the gauge -/

def State.tmgCtlWrite (s : State) (v : Nat) : State :=
  let s1 := if bit 0 v then
      s.clearRegs ((List.range 28).flatMap (fun p => [TMG_GATE_CNT p 0, TMG_GATE_CNT p 1])) else s
  if bit 1 v then s1.clrPolCnt else s1

end Sys2Proof.Machine
end

