-- ==== Sys2Proof/Machine/Guard.lean ====
section
/-! DEFINITION. The camera stream path: stream entries, recovery and the guard (R133–R159). -/

namespace Sys2Proof.Machine

/-! Stream entries (R134, R135) -/

def streamAddr (h : Nat) : Nat := 0x30400000 + 32 * h

def State.streamWord (s : State) (h k : Nat) : Nat := s.mem32 (streamAddr h + 4 * k)

structure StreamEntry where
  valid : Bool
  keyType : Nat
  inPort : Nat
  anyPort : Bool
  role : Nat
  tc : Nat
  colour : Nat
  policer : Nat
  dest : Nat
  ctx : Nat
  comp : Nat
  genSeq : Nat
  key : Nat
  deriving DecidableEq, Repr

/-- The entry of a handle; a role of 3 makes it invalid (R135). -/
def State.stream (s : State) (h : Nat) : StreamEntry :=
  let w0 := s.streamWord h 0
  let w3 := s.streamWord h 3
  { valid := bit 0 w0 && bits 10 9 w0 != 3, keyType := bits 2 1 w0, inPort := bits 7 3 w0, anyPort := bit 8 w0
    role := bits 10 9 w0, tc := bits 13 11 w0, colour := bits 15 14 w0, policer := bits 27 16 w0
    dest := s.streamWord h 1, ctx := bits 8 0 (s.streamWord h 2), comp := bits 13 0 w3, genSeq := bits 31 16 w3
    key := s.streamWord h 4 + s.streamWord h 5 * 2 ^ 32 }

/-- A matched frame: counted, and its time noted (R135). -/
def State.streamMatched (s : State) (h : Nat) : State :=
  (s.setMem32 (streamAddr h + 24) (satAdd 32 (s.streamWord h 6) 1)).setMem32 (streamAddr h + 28) (s.tide.toNat % 2 ^ 32)

/-- Take the next sequence number of a generate entry (R139). -/
def State.takeSeq (s : State) (h : Nat) : Nat × State :=
  let w := s.streamWord h 3
  let n := bits 31 16 w
  (n, s.setMem32 (streamAddr h + 12) (w % 2 ^ 16 + (n + 1) % 65536 * 2 ^ 16))

/-! Recovery (R141, R142) -/

def State.frer (s : State) (c : Nat) : FrerCtx := tget {} s.csg.ctx c

def State.setFrer (s : State) (c : Nat) (x : FrerCtx) : State := { s with csg := { s.csg with ctx := tset {} s.csg.ctx c x } }

def FrerCtx.count (x : FrerCtx) (k : Nat) (n : Nat := 1) : FrerCtx := { x with cnt := modAt x.cnt k (fun v => satAdd 32 v n) }

/-- A rogue frame: counted, with 0x0730 at most once per context per 1 ms (R140, R141, R158). -/
def State.rogue (s : State) (c : Nat) : State := (s.setFrer c ((s.frer c).count 3)).raiseLim 0x0730 2 c

/-- Number of zero bits among the top `d` of `n` history bits that a shift by `d` moves out. -/
def lostBits (n hist d : Nat) : Nat := ((List.range n).filter (fun i => n ≤ i + d && !hist.testBit i)).length

/-- A context passes a frame: the reset timer restarts. -/
def FrerCtx.pass (x : FrerCtx) : FrerCtx := { x.count 0 with timer := true }

/-- The vector recovery algorithm of R141; true passes the frame. -/
def State.recover (s : State) (c seq : Nat) : State × Bool :=
  let a := CSG_FRER_CFG c
  let x := s.frer c
  let n := s.fld a CSG_FRER_CFG_hist_len
  if !s.fldB a CSG_FRER_CFG_en then (s.setFrer c (x.count 0), true)
  else if x.takeAny then
    (s.setFrer c { x with recov := seq, hist := 1, takeAny := false }.pass, true)
  else
    let d := signed 16 ((seq + 65536 - x.recov) % 65536)
    if (n : Int) ≤ d ∨ d ≤ -(n : Int) then (s.rogue c, false)
    else if d ≤ 0 then
      let k := d.natAbs
      if x.hist.testBit k then (s.setFrer c (x.count 1), false)
      else (s.setFrer c ({ x with hist := withBit x.hist k true }.count 2).pass, true)
    else
      let k := d.toNat
      let y := { x with hist := withBit (x.hist * 2 ^ k % 2 ^ n) 0 true, recov := seq }.count 4 (lostBits n x.hist k)
      (s.setFrer c (if 1 < k then y.count 2 else y).pass, true)

/-- A frame of member `j` arrives: a silent member delivers again (R142). -/
def State.memberSeen (s : State) (c j : Nat) : State :=
  let x := s.frer c
  let s1 := s.setFrer c { x with waiting := withBit x.waiting j false, silent := withBit x.silent j false }
  if x.silent.testBit j then s1.raise 0x0733 0 c else s1

/-- The context passed a frame of member `j` of `m`: the others are timed (R142). -/
def State.memberPassed (s : State) (c j m : Nat) : State :=
  let x := s.frer c
  s.setFrer c { x with waiting := maskOf ((List.range m).filter (fun k => k ≠ j || x.waiting.testBit k)) }

/-- The reset timer of a context expires (R141). -/
def State.frerReset (s : State) (c : Nat) : State :=
  let x := s.frer c
  if x.timer then
    (s.setFrer c { x.count 5 with takeAny := true, timer := false, waiting := 0 }).raise 0x0731 1 c
  else s

/-- Member `j` has been silent for silent_ms (R142). -/
def State.memberSilent (s : State) (c j : Nat) : State :=
  let x := s.frer c
  if x.waiting.testBit j && !x.silent.testBit j then
    (s.setFrer c { x with silent := withBit x.silent j true }).raise 0x0732 3 c
  else s

/-- A write of CSG_FRER_CFG_c; turning en on sets take_any (R141). -/
def State.frerCfgWrite (s : State) (c : Nat) (v : Word) : State :=
  let was := s.fldB (CSG_FRER_CFG c) CSG_FRER_CFG_en
  let s1 := s.wrPlain (CSG_FRER_CFG c) v
  if v.toNat.testBit 0 && !was then s1.setFrer c { s1.frer c with takeAny := true, timer := false, waiting := 0 }
  else if v.toNat.testBit 0 then s1 else s1.setFrer c { s1.frer c with timer := false, waiting := 0 }

/-! Guard slots -/

def State.slot (s : State) (g : Nat) : Guard := tget {} s.csg.slots g

def State.setSlot (s : State) (g : Nat) (x : Guard) : State := { s with csg := { s.csg with slots := tset {} s.csg.slots g x } }

/-- State of a slot: 0 OFF, 1 ACQUIRING, 2 OK, 3 FAULT (R151). -/
def State.gState (s : State) (g : Nat) : Nat := s.fld (CSG_G_STATE g) CSG_G_STATE_state

def State.gHandle (s : State) (g : Nat) : Nat := s.fld (CSG_G_CFG g) CSG_G_CFG_handle

def State.gMon (s : State) (g : Nat) : Nat := s.fld (CSG_G_CFG g) CSG_G_CFG_o_mon

def State.gRedir (s : State) (g : Nat) : Bool := s.fldB (CSG_G_STATE g) CSG_G_STATE_redirected

/-- A slot owes a status message at this instant (R153). -/
def State.owe (s : State) (g : Nat) : State :=
  if s.fldB (CSG_G_CFG g) CSG_G_CFG_act_msg && !s.csg.owed.contains g then
    { s with csg := { s.csg with owed := s.csg.owed ++ [g] } }
  else s

/-- End a slot's redirection, with event 0x0721 (R156). -/
def State.endRedir (s : State) (g : Nat) (event : Bool := true) : State :=
  let s0 := s.setSlot g { s.slot g with waitBackup := false }
  if s.gRedir g then
    let s1 := (s0.setFld (CSG_G_STATE g) CSG_G_STATE_redirected 0).setFld (CSG_G_STATE g) CSG_G_STATE_redir_added 0
    if event then s1.raise 0x0721 1 g else s1
  else s0

/-- Slots that watch a handle. -/
def State.watchers (s : State) (h : Nat) : List Nat :=
  (List.range 64).filter (fun g => s.gState g != 0 && s.gHandle g == h)

/-- The backup qualifies: configured, valid, and unguarded or watched by a slot in OK (R155). -/
def State.backupUsable (s : State) (g : Nat) : Bool :=
  let h := s.fld (CSG_G_BACKUP g) CSG_G_BACKUP_backup
  (s.stream h).valid && (s.watchers h == [] || (s.watchers h).any (fun k => s.gState k == 2))

/-- Put the overlay in force (R155). -/
def State.redirect (s : State) (g : Nat) : State :=
  let h := s.fld (CSG_G_BACKUP g) CSG_G_BACKUP_backup
  let added := !(s.stream h).dest.testBit (s.gMon g)
  (((s.setFld (CSG_G_STATE g) CSG_G_STATE_redirected 1).setFld (CSG_G_STATE g) CSG_G_STATE_redir_added (boolNat added)).setSlot g
    { s.slot g with redirTo := h, waitBackup := false }).raise 0x0720 3 g

/-- A slot enters FAULT: redirect, or wait for the backup with 0x0722 (R155). -/
def State.redirAtFault (s : State) (g : Nat) : State :=
  if s.fldB (CSG_G_CFG g) CSG_G_CFG_act_redir && s.fldB (CSG_G_BACKUP g) CSG_G_BACKUP_backup_en && !s.gRedir g then
    if s.backupUsable g then s.redirect g
    else (s.setSlot g { s.slot g with waitBackup := true }).raise 0x0722 3 g
  else s

/-- A slot's state changes (R151, R153). -/
def State.gEnter (s : State) (g st : Nat) : State :=
  ((s.setFld (CSG_G_STATE g) CSG_G_STATE_state st).setSlot g { s.slot g with goodRun := 0 }).owe g

/-- The slot entered OK: 0x0718 ends the episode, and slots in FAULT that wait for this stream redirect (R152, R155). -/
def State.gOk (s : State) (g : Nat) : State :=
  let s1 := (s.gEnter g 2).setSlot g { (s.gEnter g 2).slot g with episode := 0, waitBackup := false }
  let s2 := s1.raise 0x0718 1 g
  (List.range 64).foldl (fun t k =>
    if (t.slot k).waitBackup && t.gState k == 3 && t.fld (CSG_G_BACKUP k) CSG_G_BACKUP_backup == t.gHandle g then t.redirect k
    else t) s2

/-- The slot entered FAULT: counted, redirection judged; redirections of OK slots to this stream end (R155, R156). -/
def State.gFault (s : State) (g : Nat) : State :=
  let s1 := ((s.gEnter g 3).bump (CSG_G_FAULTS g)).redirAtFault g
  (List.range 64).foldl (fun t k =>
    if t.gRedir k && t.gState k == 2 && (t.slot k).redirTo == t.gHandle g then t.endRedir k else t) s1

def findingEvent (k : Nat) : Nat := 0x0710 + k

/-- Findings of one instant, bits 0 LOSS, 1 STALL, 2 LATE, 3 EARLY, 4 FROZEN, in this order (R151, R152). -/
def State.findings (s : State) (g : Nat) (ks : List Nat) : State :=
  ks.foldl (fun t k =>
    let st := t.gState g
    if st = 0 ∨ (st = 1 ∧ k ≠ 1) then t
    else
      let x := t.slot g
      let fresh := !x.episode.testBit k
      let w := t.fld (CSG_G_STATE g) CSG_G_STATE_findings
      let t1 := (t.setFld (CSG_G_STATE g) CSG_G_STATE_findings (withBit w k true)).setSlot g
        { x with goodRun := 0, episode := withBit x.episode k true }
      let t2 := if fresh then (t1.raise (findingEvent k) 4 g).owe g else t1
      if st = 3 then t2 else t2.gFault g) s

/-- Missing AVTPDUs are counted; the window's count exceeding loss_max is a LOSS finding (R144, R145). -/
def State.gMissing (s : State) (g n : Nat) : State × List Nat :=
  let x := s.slot g
  let mx := s.fld (CSG_G_LOSS g) CSG_G_LOSS_loss_max
  let s1 := (s.setSlot g { x with missing := x.missing + n, vfBad := true }).bump (CSG_G_MISS g) n
  (s1, if n ≠ 0 ∧ x.missing ≤ mx ∧ mx < x.missing + n then [0] else [])

/-- A removal of the destination o_mon from a frame of the handle is one missing AVTPDU (R143). -/
def State.guardRemoved (s : State) (h : Option Nat) (o : Nat) : State :=
  match h with
  | none => s
  | some h =>
    (List.range 64).foldl (fun t g =>
      if t.gState g ≠ 0 ∧ t.gHandle g = h ∧ t.gMon g = o then
        let (t1, f) := t.gMissing g 1
        t1.findings g f
      else t) s

/-- A video frame completes (R149, R150): its hash is compared with the one before; a good one counts (R151). -/
def State.vfComplete (s : State) (g : Nat) : State × List Nat :=
  let x := s.slot g
  if !x.vfOpen then (s, [])
  else
    let hash := if x.crcAny then Nat.xor x.crc 0xFFFFFFFF else 0
    let seen := s.fldB (CSG_G_STATE g) CSG_G_STATE_hash_valid
    let same := seen && (s.rd (CSG_G_HASH g)).toNat == hash
    let run := if same then x.frzRun + 1 else 0
    let good := !x.vfBad && !same
    let s1 := ((((s.wr (CSG_G_HASH g) (BitVec.ofNat 32 hash)).setFld (CSG_G_STATE g) CSG_G_STATE_hash_valid 1).setFld
      (CSG_G_STATE g) CSG_G_STATE_frz_run (min run 1023)).setSlot g
      { x with frzRun := run, goodRun := if good then x.goodRun + 1 else 0
               goodNs := if good then s.tide.toNat else x.goodNs
               vfOpen := false, vfNum := 0, vfBad := false, crc := 0xFFFFFFFF, crcAny := false })
    let need := if s.gState g = 1 then s.fld (CSG_G_FRZ g) CSG_G_FRZ_acq_vf else s.fld (CSG_G_FRZ g) CSG_G_FRZ_clear_vf
    let s2 := if good ∧ (s.gState g = 1 ∨ s.gState g = 3) ∧ need ≤ x.goodRun + 1 then s1.gOk g else s1
    (s2, if same ∧ run = s.fld (CSG_G_FRZ g) CSG_G_FRZ_frz_max then [4] else [])

/-- Offset of the AVTPDU in a frame, where it has EtherType 0x22F0 after at most one tag (R134). -/
def avtpOffset (data : List Byte) : Option Nat :=
  let et (o : Nat) := beNat (slice o 2 data)
  if 18 ≤ data.length ∧ et 12 = 0x8100 then (if et 16 = 0x22F0 then some 18 else none)
  else if 14 ≤ data.length ∧ et 12 = 0x22F0 then some 14 else none

def byteAt (bs : List Byte) (i : Nat) : Nat := (bs.getD i 0).toNat

/-- The sample bytes of the frame join the hash (R149). -/
def State.vfSample (s : State) (g : Nat) (avtp : List Byte) : State :=
  let x := s.slot g
  let f := s.fld (CSG_G_SAMPLE g)
  let n := x.vfNum
  let first := f CSG_G_SAMPLE_samp_first
  let take :=
    if first ≤ n ∧ n < first + (f CSG_G_SAMPLE_count_m1 + 1) then slice (f CSG_G_SAMPLE_offset) (f CSG_G_SAMPLE_len_m1 + 1) avtp
    else []
  s.setSlot g { x with vfNum := n + 1, crc := take.foldl (crcByte 0x82F63B78) x.crc, crcAny := x.crcAny || !take.isEmpty }

/-- The presentation-time check (R147). -/
def State.slackFindings (s : State) (g ts arrival : Nat) : List Nat :=
  if s.fldB CSG_CTL CSG_CTL_time_valid && !s.csg.suspended then
    let slack := signed 32 ((ts + 2 ^ 32 - arrival % 2 ^ 32) % 2 ^ 32)
    let lo := signed 16 (s.fld (CSG_G_LAT g) CSG_G_LAT_lat_min_us) * 1000
    let hi : Int := (s.fld (CSG_G_LAT g) CSG_G_LAT_lat_max * 100000 : Nat)
    (if slack < lo then [2] else []) ++ if hi < slack then [3] else []
  else []

/-- One slot observes an AVTPDU: sequence, video frame boundary, presentation time, sample (R143–R150). The hash and the video
frame logic ignore a duplicate; a slack outside its limits makes the current video frame not good all the same (DESIGN CHOICE,
assumption 87). -/
def State.observeAvtp (s : State) (g : Nat) (avtp : List Byte) (arrival : Nat) : State :=
  let x := s.slot g
  let seq := byteAt avtp 2
  let tv := (byteAt avtp 1).testBit 0
  let ts := beNat (slice 12 4 avtp)
  let d := match x.last with
    | some l => (seq + 256 - l) % 256
    | none => 1
  let s0 := s.setSlot g { x with last := some seq }
  let f3 := if tv then s.slackFindings g ts arrival else []
  if d = 0 then (if f3 = [] then s0 else s0.setSlot g { s0.slot g with vfBad := true }).findings g f3
  else
    let (s1, f1) := if 2 ≤ d then s0.gMissing g (d - 1) else (s0, [])
    let marker := s1.fldB (CSG_G_CFG g) CSG_G_CFG_bmode
    let starts := !marker && tv && x.vfTs != some ts
    let (s2, f2) := if starts && x.vfOpen then s1.vfComplete g else (s1, [])
    let s3 := s2.setSlot g { s2.slot g with vfOpen := true, vfTs := if tv then some ts else x.vfTs }
    let s4 := (if f3 = [] then s3 else s3.setSlot g { s3.slot g with vfBad := true }).vfSample g avtp
    let mk := s4.fld (CSG_G_MARK g)
    let isLast := marker && (Nat.land (byteAt avtp (mk CSG_G_MARK_mk_off)) (mk CSG_G_MARK_mk_mask) != 0)
    let (s5, f5) := if isLast then s4.vfComplete g else (s4, [])
    s5.findings g (f1 ++ f3 ++ f2 ++ f5)

/-- The guard observes a frame of a handle (R143). -/
def State.guardObserve (s : State) (h : Nat) (data : List Byte) (arrival : Nat) : State :=
  (List.range 64).foldl (fun t g =>
    if t.gState g ≠ 0 ∧ t.gHandle g = h then
      let t1 := t.setSlot g { t.slot g with stallArmed := true }
      match avtpOffset data with
      | some o => t1.observeAvtp g (data.drop o) arrival
      | none => t1
    else t) s

/-- No frame for the stall limit (R146). After a stall the next frame is not compared. -/
def State.stall (s : State) (g : Nat) : State :=
  let x := s.slot g
  if s.gState g ≠ 0 ∧ x.stallArmed then (s.setSlot g { x with stallArmed := false, last := none }).findings g [1] else s

/-- The end of a loss window (R145). -/
def State.lossWindowEnd (s : State) (g : Nat) : State := s.setSlot g { s.slot g with missing := 0 }

/-- A slot enters ACQUIRING with nothing observed; the time of its last good video frame stays for the messages (R151, R154,
R157). -/
def State.gAcquire (s : State) (g : Nat) : State :=
  let s1 := (s.setSlot g { msgSeq := (s.slot g).msgSeq, goodNs := (s.slot g).goodNs, stallArmed := true }).setFld (CSG_G_STATE g) CSG_G_STATE_frz_run 0
  (s1.setFld (CSG_G_STATE g) CSG_G_STATE_hash_valid 0).gEnter g 1

/-- A slot returns to OFF; what its message shows stays (R151, R153, R154). -/
def State.gStop (s : State) (g : Nat) : State :=
  if s.gState g = 0 then s
  else
    let s1 := s.gEnter g 0
    let x := s1.slot g
    s1.setSlot g { msgSeq := x.msgSeq, goodNs := x.goodNs, frzRun := x.frzRun, missing := x.missing, redirTo := x.redirTo }

/-- A slot is disabled, and its redirection ends (R156). -/
def State.gOff (s : State) (g : Nat) : State := if s.gState g = 0 then s else (s.endRedir g).gStop g

/-- A slot runs when it and CSG_CTL.en are enabled (R151, R159). -/
def State.gEnabled (s : State) (g : Nat) : Bool := s.fldB CSG_CTL CSG_CTL_en && s.fldB (CSG_G_CFG g) CSG_G_CFG_en

/-- The slot's state follows its enables. -/
def State.gUpdate (s : State) (g : Nat) : State :=
  if s.gEnabled g then (if s.gState g = 0 then s.gAcquire g else s) else s.gOff g

/-- A slot whose settings a profile switch has replaced: it acquires with the new ones, or stops (R157). -/
def State.gRestart (s : State) (g : Nat) : State := if s.gEnabled g then s.gAcquire g else s.gStop g

/-- A repetition period of the status message expires: msg_period_ms in ACQUIRING and FAULT, ok_period_ms in OK (R153). -/
def State.statusRepeat (s : State) (g : Nat) : State :=
  let st := s.gState g
  let period := if st = 2 then s.fld (CSG_G_MSG g) CSG_G_MSG_ok_period_ms else s.fld (CSG_G_MSG g) CSG_G_MSG_msg_period_ms
  if st ≠ 0 ∧ period ≠ 0 then s.owe g else s

/-- revert_ms in OK with auto_revert (R156). -/
def State.autoRevert (s : State) (g : Nat) : State :=
  if s.gState g = 2 && s.fldB (CSG_G_CFG g) CSG_G_CFG_auto_revert then s.endRedir g else s

/-- The overlay of R155 on the destination set of a frame of handle `h`. -/
def State.overlay (s : State) (h dest : Nat) : Nat :=
  let on := (List.range 64).filter (fun g => s.gRedir g)
  let cut := on.foldl (fun d g => if s.gHandle g = h then withBit d (s.gMon g) false else d) dest
  on.foldl (fun d g => if (s.slot g).redirTo = h then withBit d (s.gMon g) true else d) cut

/-- A stream entry was written: redirections to a backup that is now invalid end (R156). -/
def State.streamWritten (s : State) (h : Nat) : State :=
  if (s.stream h).valid then s
  else (List.range 64).foldl (fun t g => if t.gRedir g && (t.slot g).redirTo == h then t.endRedir g else t) s

/-- The key that a status message names: that of the entry, or of the first member of a compound entry (R154). -/
def State.streamIdOf (s : State) (h : Nat) : Nat :=
  let e := s.stream h
  if e.keyType = 0 then
    match findFrom (fun k => let m := s.stream k; m.valid && m.role == 2 && m.comp == h) 16384 0 with
    | some k => (s.stream k).key
    | none => e.key
  else e.key

/-- The status message frame of a slot (R154), from its destination address to the last payload byte. -/
def State.statusFrame (s : State) (g : Nat) : List Byte :=
  let x := s.slot g
  let da := s.fld (CSG_G_DA_HI g) CSG_G_DA_HI_da_hi * 2 ^ 32 + (s.rd (CSG_G_DA_LO g)).toNat
  let sa := s.fld CSG_SRC_MAC_HI ⟨15, 0⟩ * 2 ^ 32 + (s.rd CSG_SRC_MAC_LO).toNat
  let tag := if s.fldB (CSG_G_DA_HI g) CSG_G_DA_HI_tagged then
      beBytes 2 0x8100 ++ beBytes 2 (7 * 2 ^ 13 + s.fld (CSG_G_DA_HI g) CSG_G_DA_HI_vid) else []
  let ben := s.fldB (CSG_G_BACKUP g) CSG_G_BACKUP_backup_en
  let flags := boolNat (s.gRedir g) + boolNat ben * 2 + boolNat (s.fldB CSG_CTL CSG_CTL_time_valid) * 4
  let fab := if s.fld FAB_STATUS FAB_STATUS_state = 1 then s.fld FAB_STATUS FAB_STATUS_addr else 0xFF
  beBytes 6 da ++ beBytes 6 sa ++ tag ++ beBytes 2 0x88B6 ++
    beBytes 1 1 ++ beBytes 1 1 ++ beBytes 2 x.msgSeq ++ beBytes 8 (s.streamIdOf (s.gHandle g)) ++
    beBytes 1 g ++ beBytes 1 (s.gState g) ++ beBytes 1 x.episode ++ beBytes 1 flags ++
    beBytes 8 s.tide.toNat ++ beBytes 8 x.goodNs ++ beBytes 2 (min x.frzRun 0xFFFF) ++ beBytes 2 (min x.missing 0xFFFF) ++
    beBytes 1 fab ++ beBytes 1 (s.gMon g) ++
    beBytes 8 (if ben then (s.stream (s.fld (CSG_G_BACKUP g) CSG_G_BACKUP_backup)).key else 0)

/-! CSG registers -/

def State.csgWrite (s : State) (off : Nat) (v : Word) : State :=
  let a := 0x20060000 + off
  let n := v.toNat
  if off = 0 then (List.range 64).foldl (fun t g => t.gUpdate g) (s.wrPlain a v)
  else if off = 0x20 then
    let s1 := if bit 0 n then s.clearRegs ((List.range 64).flatMap (fun g => [CSG_G_MISS g, CSG_G_FAULTS g])) else s
    let s2 := if bit 1 n then s1.csg.ctx.foldl (fun t e => t.setFrer e.1 { t.frer e.1 with cnt := [0, 0, 0, 0, 0, 0] }) s1 else s1
    if bit 2 n then s2.wr CSG_REFUSED 0 else s2
  else if 0x4000 ≤ off ∧ off < 0x4800 ∧ off % 4 = 0 then s.frerCfgWrite ((off - 0x4000) / 4) v
  else if 0x1000 ≤ off ∧ off < 0x2000 then
    let g := (off - 0x1000) / 0x40
    let s1 := s.wrPlain a v
    if off % 0x40 = 0 then s1.gUpdate g
    else if off % 0x40 = 4 then if bit 14 n then s1 else s1.endRedir g
    else if off % 0x40 = 0x2C then if bit 16 n then s1.endRedir g else s1
    else s1
  else s.wrPlain a v

def State.csgRead (s : State) (off : Nat) : Option Nat :=
  let c := s.frer (s.fld CSG_FRER_SEL CSG_FRER_SEL_ctx)
  if off = 4 then
    some ((s.rd CSG_STATUS).toNat + boolNat ((List.range 64).any (fun g => s.gState g == 3)))
  else if off = 0x108 then some (boolNat c.takeAny + c.silent * 2)
  else if 0x110 ≤ off ∧ off < 0x128 ∧ off % 4 = 0 then some (c.cnt.getD ((off - 0x110) / 4) 0)
  else none

end Sys2Proof.Machine
end

