-- ==== Sys2Proof/Machine/Supply.lean ====
section
/-! DEFINITION. The bank die's supply sequence, VBAT supervision, resets, wake inputs, CAN wake and the dike link
(R14–R16, R54–R61, R69–R81, R388–R396). -/

namespace Sys2Proof.Machine

def State.setBank (s : State) (b : BankDie) : State := { s with bank := b }

def State.setDev (s : State) (d : DevState) : State := { s with dev := { s.dev with state := d } }

/-- Addresses of the BNK block: its registers are not changed by a logic-die reset (R10). -/
def isBnk (a : Nat) : Bool := 0x20100000 ≤ a && a < 0x20110000

/-- The MRAM window: its contents outlive every reset. -/
def isMram (a : Nat) : Bool := 0x10000000 ≤ a && a ≤ 0x10FFFFFF

/-- The logic die's state at a logic-die reset: registers at their Reset column, SRAM lost, MRAM, fuses and the bank die
kept (R10, R35, R433, R442). -/
def State.clearLogic (s : State) : State :=
  { s with
    regs := s.regs.filter (fun e => isBnk e.1)
    mem := s.mem.filter (fun e => isMram e.1)
    tide := 0, tideFrac := 0
    dev := { state := s.dev.state }
    hlt := {}, flt := {}, sw := {}, tm := {}, csg := {}, eth := {}, can := {}, tbl := {}, kpr := {}, plc := {}
    fab := {}, sec := {}, wrd := {} }

/-! Heater registers that every switch-off shares -/

/-- The product of current, supply and duty of a channel is summed over the time up to now (R403). -/
def State.accrue (s : State) (n : Nat) : State :=
  let h := tget {} s.bank.heaters n
  let p := s.fld (BNK_HTR_MEAS n) BNK_HTR_MEAS_i_ma * s.pins.vbat * s.fld (BNK_HTR_STATUS n) BNK_HTR_STATUS_eff_duty
  { s with bank := { s.bank with
      heaters := tset {} s.bank.heaters n { h with energy := h.energy + p * (s.elapsed - h.since), since := s.elapsed } } }

/-- A heater channel is turned off: its duty in force is zero (R77, R398). -/
def State.heaterOff (s : State) (n : Nat) : State := (s.accrue n).setFld (BNK_HTR_STATUS n) BNK_HTR_STATUS_eff_duty 0

def State.heatersOff (s : State) : State := (List.range 12).foldl State.heaterOff s

/-- The selective-wake entry that acts on a channel: the lowest-numbered enabled entry that names it (R396, R407). -/
def State.selFor (s : State) (ch : Nat) : Option SelEntry :=
  (findFrom (fun i => bit 5 (s.rd (BNK_SEL i 0)).toNat && bits 4 0 (s.rd (BNK_SEL i 0)).toNat == ch) 8 0).map
    (fun i =>
      let w := (s.rd (BNK_SEL i 0)).toNat
      { index := i, ide := bit 6 w, rate := bits 8 7 w, dlc := bits 12 9 w, dlcChk := bit 13 w,
        id := bits 28 0 (s.rd (BNK_SEL i 1)).toNat, idMask := bits 28 0 (s.rd (BNK_SEL i 2)).toNat,
        dmask := s.rd64 (BNK_SEL i 3) (BNK_SEL i 4) })

/-- A transceiver enters standby: the selective-wake entries as written then take effect on it (R407). -/
def State.enterStandby (s : State) (ch : Nat) : State :=
  { s with bank := { s.bank with
      sel := (match s.selFor ch with
        | some e => tput s.bank.sel ch e
        | none => tdel s.bank.sel ch)
      decoding := s.bank.decoding.filter (· != ch) } }

def State.allStandby (s : State) : State := (List.range 24).foldl State.enterStandby s

/-! Reset -/

/-- Class 7 resets within the 60 s window (R80). -/
def State.fatalsNow (s : State) : List Nat := s.bank.fatals.filter (fun t => s.elapsed < t + 60000000000)

/-- The reset record (R80, R81): class 7 faults and heartbeat loss count; the Reset command, sleep, brown-out and power-on
clear the count and the reduced start. -/
def State.recordCause (s : State) (cause event : Nat) : State :=
  if cause = 4 ∨ cause = 5 then
    let f := s.elapsed :: s.fatalsNow
    s.setBank { s.bank with cause := cause, fatalEvent := if cause = 4 then event else 0, fatals := f
                            reduced := s.bank.reduced || 3 ≤ f.length }
  else if cause = 1 ∨ cause = 3 ∨ cause = 7 then
    s.setBank { s.bank with cause := cause, fatalEvent := 0, fatals := [], reduced := false }
  else s.setBank { s.bank with cause := cause, fatalEvent := 0 }

/-- The bank die asserts logic-die reset: heaters off, the logic die's state lost, the transceivers in standby (R16, R55,
R56). -/
def State.assertReset (s : State) (cause event : Nat) : State :=
  let s1 := ((s.recordCause cause event).heatersOff.allStandby).clearLogic
  (s1.setBank { s1.bank with fatal := none, fatalReq := none, attempts := 0, open_ := none, posted := [] }).setDev .logicReset

/-- All enables driven low: bank only (R54, R69, R73). -/
def State.enablesLow (s : State) (next : SeqPhase) : State :=
  (s.setBank { s.bank with enV18 := false, enVline := false, enVcore := false, seq := next, pgTimer := false
                           brownTimer := false, minHold := false }).setDev .bankOnly

/-- The supply sequence from event 3 of R59: EN_V18 high. -/
def State.startSupply (s : State) : State :=
  s.setBank { s.bank with enV18 := true, seq := .waitLine, pgTimer := true }

/-- EN_VCORE goes low for at least 2 ms (R77 step 5, R78). -/
def State.holdVcore (s : State) : State :=
  s.setBank { s.bank with enVcore := false, seq := .vcoreHold, minHold := true }

/-- EN_VCORE goes high again and SUP_PG is awaited; while it was low, SUP_PG was ignored (R77 step 6). In a start that has not
completed, the 50 ms limit of R60 has gone on running (DESIGN CHOICE, assumption 106). -/
def State.raiseVcore (s : State) : State :=
  s.setBank { s.bank with enVcore := true, seq := if s.bank.supPg then .waitRelease else .waitPg
                          pgTimer := s.bank.pgTimer && !s.bank.supPg }

/-- A brown-out reset: no safe-state frames, all enables low, a restart once VBAT is back (R73, R74). -/
def State.brownOut (s : State) (cause : Nat) : State :=
  (s.assertReset cause 0).enablesLow .brownWait

/-- Bank die power-up from VBAT: every bank die state and BNK register at its reset value (R10, R72). An input that is high then
passes the filter as any level does (R391). -/
def State.bankPowerUp (s : State) : State :=
  { s with regs := s.regs.filter (fun e => !isBnk e.1)
           bank := { supPg := s.bank.supPg, extLow := s.bank.extLow, modelAt := s.elapsed
                     wakeIn := s.bank.wakeIn.map (fun e => (e.1, { pin := e.2.pin, filtering := e.2.pin })) } }

/-- VBAT valid: VBAT rises through 5.8 V (R59). It starts an unpowered device, and one that three failed attempts have left in
bank only (R60); a sleeping device goes on sleeping. DESIGN CHOICE (assumption 107): the start after three failed attempts records
power-on, which clears the fatal count and the reduced start. -/
def State.vbatValid (s : State) : State :=
  match s.dev.state with
  | .unpowered => (s.bankPowerUp.startSupply).setDev .bankOnly
  | .bankOnly =>
    if s.bank.seq = .idle ∧ 3 ≤ s.bank.attempts then
      ((s.recordCause 1 0).setBank { (s.recordCause 1 0).bank with attempts := 0 }).startSupply
    else s
  | _ => s

/-- Event 4 of R59. While EXT_RST_N holds reset, EN_VCORE stays low (R78). -/
def State.raiseLineVcore (s : State) : State :=
  if s.bank.seq = .waitLine then
    (if s.bank.extLow ∨ s.bank.minHold then s.setBank { s.bank with enVline := true, seq := .vcoreHold }
     else s.setBank { s.bank with enVline := true, enVcore := true
                                  seq := if s.bank.supPg then .waitRelease else .waitPg
                                  pgTimer := !s.bank.supPg }).setDev .logicReset
  else s

def State.supPgHigh (s : State) : State :=
  let b := { s.bank with supPg := true }
  if s.bank.seq = .waitPg then s.setBank { b with seq := .waitRelease, pgTimer := false } else s.setBank b

/-- SUP_PG not high within 50 ms of EN_V18: three failed attempts leave the device in bank only (R60). -/
def State.supplyTimeout (s : State) : State :=
  if s.bank.pgTimer ∧ (s.bank.seq = .waitPg ∨ s.bank.seq = .waitLine) then
    let n := s.bank.attempts + 1
    let s1 := s.enablesLow (if 3 ≤ n then .idle else .retryWait)
    s1.setBank { s1.bank with attempts := n, failed := min 3 (s.bank.failed + 1) }
  else s

def State.supplyRetry (s : State) : State := if s.bank.seq = .retryWait then s.startSupply else s

/-- SUP_PG falls (R74). While EN_VCORE is held low it is ignored; before reset release it is awaited again. -/
def State.supplyLost (s : State) : State :=
  let s1 := s.setBank { s.bank with supPg := false }
  if s.running then s1.brownOut (if s.pins.vbat < 4500 then 3 else 9)
  else if s.bank.seq = .waitRelease then s1.setBank { s1.bank with seq := .waitPg }
  else s1

/-- Logic-die reset release (R61, R81, R399): the balls sampled, the reset record loaded, heater demands cleared. At the
next wake each input found stuck in sleep raises 0x0E08, and a selective-wake error overflow 0x0E0C (R393, R396). -/
def State.release (s : State) : State :=
  let s0 := s.clearLogic
  let b := s0.bank
  let s1 := (s0.setBank { b with seq := .running, attempts := 0, failed := 0, fatals := s0.fatalsNow, lastHb := s.elapsed }).setDev .boot
  let s2 := (((s1.setFld SYS_RESET_CAUSE SYS_RESET_CAUSE_cause b.cause).setFld SYS_RESET_CAUSE SYS_RESET_CAUSE_fatal_count
      (min 15 s0.fatalsNow.length)).setFld SYS_RESET_CAUSE SYS_RESET_CAUSE_reduced (boolNat b.reduced)).setFld
      SYS_RESET_CAUSE SYS_RESET_CAUSE_fatal_event b.fatalEvent
  let wait := b.cause = 4 ∧ b.fatalEvent = 0x0212
  let s3 := s2.setFld SYS_RESET_CAUSE SYS_RESET_CAUSE_thermal_wait (boolNat wait)
  let s4 := ((((s3.setFld SYS_BOOT_STATUS SYS_BOOT_STATUS_psel s.pins.psel).setFld SYS_BOOT_STATUS SYS_BOOT_STATUS_head
      (boolNat s.pins.head)).setFld SYS_BOOT_STATUS SYS_BOOT_STATUS_profile s.pins.psel).setFld SYS_BOOT_STATUS
      SYS_BOOT_STATUS_supply_retries b.failed)
  let s5 := (List.range 12).foldl (fun t n =>
      let t1 := (t.setFld (BNK_HTR_DEMAND n) BNK_HTR_DEMAND_duty 0).setFld (BNK_HTR_STATUS n) BNK_HTR_STATUS_fresh 0
      let t2 := t1.setFld (BNK_HTR_STATUS n) BNK_HTR_STATUS_decaying 0
      t2.setBank { t2.bank with heaters := (tmod {} t2.bank.heaters n
        (fun h => { h with demanded := false, pendFresh := false, dec := 0 })) }) s4
  let s6 := s5.setFld BNK_CTL BNK_CTL_safe_run 0
  let s7 := { s6 with dev := { s6.dev with thermalWait := wait, bootRef := s.elapsed } }
  let s8 := if b.cause = 1 ∨ b.cause = 2 then s7 else s7.raise 0x0102 2 noInst (s7.rd SYS_RESET_CAUSE).toNat
  let s9 := if b.reduced then s8.raise 0x0105 5 else s8
  let s10 := s9.bank.stuckNew.foldl (fun t i => t.raise 0x0E08 2 i) s9
  let s11 := s10.bank.overflowNew.foldl (fun t ch => t.raise 0x0E0C 2 ch) s10
  s11.setBank { s11.bank with stuckNew := [], overflowNew := [] }

/-! The fatal sequence (R77, R78) -/

/-- Steps 1 and 2 that every cause shares on the bank side: heaters off, and the sequence marked with the cause that the
reset will record. The switch, keeper and safe-state side is `State.fatalLogic`. -/
def State.fatalBegin (s : State) (cause event : Nat) : State :=
  let s1 := s.heatersOff
  s1.setBank { s1.bank with fatal := some (cause, event), fatalReq := none }

/-- Steps 4 and 5: logic-die reset asserted and EN_VCORE held low. -/
def State.fatalAssert (s : State) : State :=
  match s.bank.fatal with
  | some (cause, event) => (s.assertReset cause event).holdVcore
  | none => s

/-- The 2 ms hold has passed: EN_VCORE rises unless EXT_RST_N still holds it (R77, R78). -/
def State.vcoreHoldEnd (s : State) : State :=
  if s.bank.minHold then
    let s1 := s.setBank { s.bank with minHold := false }
    if s.bank.extLow ∨ s.bank.seq ≠ .vcoreHold then s1 else s1.raiseVcore
  else s

/-- EXT_RST_N low for at least 10 µs (R78). -/
def State.extReset (s : State) : State :=
  let s1 := s.setBank { s.bank with extLow := true }
  if s.running then (s1.assertReset 6 0).holdVcore
  else if s.dev.state = .logicReset then s1.holdVcore
  else if s.dev.state = .bankOnly then s1.setBank { s1.bank with minHold := true }
  else s1

def State.extHigh (s : State) : State :=
  let s1 := s.setBank { s.bank with extLow := false }
  if s.bank.extLow ∧ s.bank.seq = .vcoreHold ∧ !s.bank.minHold then s1.raiseVcore else s1

/-- A sleep request at the bank die: declined while a wake edge or CAN flag is set (R69, R392). -/
def State.sleepRequest (s : State) : State :=
  if s.fld BNK_WAKE_STATUS BNK_WAKE_STATUS_edge ≠ 0 ∨ s.fld BNK_CANW_STATUS BNK_CANW_STATUS_flag ≠ 0 then
    s.setFld BNK_STATUS BNK_STATUS_sleep_declined 1
  else
    let s1 := (s.assertReset 0 0).enablesLow .idle
    s1.setBank { s1.bank with fatals := [], reduced := false }

/-! VBAT supervision (R72, R390) -/

def State.setBand (s : State) (b : Nat) : State := s.setFld BNK_STATUS BNK_STATUS_vbat_band b

/-- Entry into the cranking band: heaters held, 0x0E01 (R72). -/
def State.enterCranking (s : State) : State :=
  if s.bank.crankHeld then s
  else (s.heatersOff.setBank { s.heatersOff.bank with crankHeld := true }).raise 0x0E01 2

/-- The band that VBAT and the holds in force make (R72, R390): below 4.5 V ride-through, below 6.0 V cranking, then overvoltage
until its exit, then the cranking hold. -/
def State.bandNow (s : State) : Nat :=
  if s.pins.vbat < 4500 then 2 else if s.pins.vbat < 6000 then 1 else if s.bank.ovHeld then 3 else if s.bank.crankHeld then 1 else 0

/-- A VBAT reading while the bank die runs. The timer of R72 takes its length from ride_ms as VBAT falls below 4.5 V (R390). -/
def State.vbatReading (s : State) (mv : Nat) : State :=
  let low := if s.bank.minValid then min (s.fld BNK_VBAT BNK_VBAT_min_mv) mv else mv
  let s0 := (List.range 12).foldl State.accrue s
  let s1 := (s0.setFld BNK_VBAT BNK_VBAT_mv (min mv 0xFFFF)).setFld BNK_VBAT BNK_VBAT_min_mv (min low 0xFFFF)
  let s2 := { s1 with pins := { s1.pins with vbat := mv } }
  let ride := s2.bank.rideEnd.getD (s2.elapsed + 1000000 * s2.fld BNK_SUP_CFG BNK_SUP_CFG_ride_ms)
  let s3 := s2.setBank { s2.bank with minValid := true, lowTimer := mv < 3500
                                      brownTimer := s2.bank.seq = .brownWait ∧ 6000 ≤ mv
                                      rideEnd := if mv < 4500 then some ride else none }
  let s4 := if mv < 6000 then s3.enterCranking
    else if 36000 < mv ∧ !s3.bank.ovHeld then
      (s3.heatersOff.setBank { s3.heatersOff.bank with ovHeld := true }).raise 0x0E03 2
    else s3
  (s4.setBank { s4.bank with crankTimer := decide (6000 ≤ mv) && s4.bank.crankHeld
                             ovTimer := s4.bank.ovHeld && decide (mv ≤ 35000) }).setBand s4.bandNow

/-- VBAT as the bank die samples it; without the bank die there is no reading. -/
def State.vbatSample (s : State) (mv : Nat) : State :=
  if s.dev.state = .unpowered then { s with pins := { s.pins with vbat := mv } } else s.vbatReading mv

/-- The cranking hold ends 100 ms after VBAT has risen back to 6.0 V (R72). DESIGN CHOICE (assumption 82): the band is left,
with 0x0E02, at the end of the hold, so that a dip within it is no new entry. -/
def State.crankingEnd (s : State) : State :=
  if s.bank.crankTimer then
    let s1 := s.setBank { s.bank with crankHeld := false, crankTimer := false }
    (s1.setBand s1.bandNow).raise 0x0E02 0
  else s

/-- VBAT has been 35.0 V or less for 100 ms since it was above 36.0 V (R390). -/
def State.overvoltageExit (s : State) : State :=
  if s.bank.ovTimer then
    let s1 := s.setBank { s.bank with ovHeld := false, ovTimer := false }
    (s1.setBand s1.bandNow).raise 0x0E04 0
  else s

/-- The ride-through timer expires: a brown-out reset follows, wherever the supply sequence stands (R72, R73). -/
def State.rideExpiry (s : State) : State :=
  if s.bank.rideEnd.any (fun t => decide (t ≤ s.elapsed)) ∧ s.dev.state ≠ .unpowered then
    (s.setBank { s.bank with rideEnd := none }).brownOut 3
  else s

def State.brownRestart (s : State) : State :=
  if s.bank.seq = .brownWait ∧ s.bank.brownTimer then
    (s.setBank { s.bank with brownTimer := false }).startSupply
  else s

def State.bankPor (s : State) : State :=
  if s.bank.lowTimer then (s.clearLogic.bankPowerUp).setDev .unpowered else s

/-! Wake (R71, R391–R396) -/

/-- A wake event: in bank only it is recorded and starts the supply sequence; otherwise it sets its edge bit or flag. -/
def State.wakeStart (s : State) (src ch : Nat) : State :=
  let s1 := (s.setFld BNK_WAKE_CAUSE BNK_WAKE_CAUSE_src src).setFld BNK_WAKE_CAUSE BNK_WAKE_CAUSE_channel ch
  let s2 := s1.recordCause 2 0
  (s2.setBank { s2.bank with attempts := 0, wokeAt := some s.elapsed }).startSupply

/-- The device sleeps: bank only with no start in progress. -/
def State.asleep (s : State) : Bool := s.dev.state == .bankOnly && s.bank.seq == .idle

/-- A source sets its edge or flag bit. -/
def State.markSource (s : State) (src ch : Nat) : State :=
  if src ≤ 8 then s.setFld BNK_WAKE_STATUS BNK_WAKE_STATUS_edge (withBit (s.fld BNK_WAKE_STATUS BNK_WAKE_STATUS_edge) (src - 1) true)
  else s.setFld BNK_CANW_STATUS BNK_CANW_STATUS_flag (withBit (s.fld BNK_CANW_STATUS BNK_CANW_STATUS_flag) ch true)

/-- A source fires while the device does not sleep: it sets its bit. Of those of the tick that woke the device, the lowest is the
cause and the others set their bits (R394); a CAN detection sets its flag in any case (R395). -/
def State.wakeJoin (s : State) (src ch : Nat) : State :=
  let cur := s.fld BNK_WAKE_CAUSE BNK_WAKE_CAUSE_src
  if s.dev.state = .bankOnly ∧ s.bank.wokeAt = some s.elapsed ∧ src < cur then
    let s1 := s.markSource cur (s.fld BNK_WAKE_CAUSE BNK_WAKE_CAUSE_channel)
    ((if src ≤ 8 then s1 else s1.markSource src ch).setFld BNK_WAKE_CAUSE BNK_WAKE_CAUSE_src src).setFld
      BNK_WAKE_CAUSE BNK_WAKE_CAUSE_channel ch
  else s.markSource src ch

def State.wakeOf (s : State) (i : Nat) : WakeIn := tget {} s.bank.wakeIn i

def State.setWake (s : State) (i : Nat) (w : WakeIn) : State :=
  s.setBank { s.bank with wakeIn := tset {} s.bank.wakeIn i w }

def State.wakeEnabled (s : State) (i : Nat) : Bool := (s.fld BNK_WAKE_CFG BNK_WAKE_CFG_en).testBit i

/-- A filtered level is active as low_act says (R391). -/
def State.wakeActive (s : State) (i : Nat) : Bool :=
  (s.wakeOf i).level != (s.fld BNK_WAKE_CFG BNK_WAKE_CFG_low_act).testBit i

def State.setMaskBit (s : State) (f : Fld) (i : Nat) (b : Bool) : State :=
  s.setFld BNK_WAKE_STATUS f (withBit (s.fld BNK_WAKE_STATUS f) i b)

def State.wakeChange (s : State) (i : Nat) (level : Bool) : State :=
  let w := s.wakeOf i
  s.setWake i { w with pin := level, filtering := s.wakeEnabled i && level != w.level }

/-- What follows when an input's activity may have changed: an armed input that becomes active causes a wake event and is
masked; an inactive one starts its 10 ms towards armed (R391). -/
def State.wakeUpdate (s : State) (i : Nat) (was : Bool) : State :=
  let w := s.wakeOf i
  let now := s.wakeActive i
  if now && !was then
    let s2 := (s.setWake i { w with armTimer := false, armed := false, stuckTimer := true }).setMaskBit
      BNK_WAKE_STATUS_masked i true
    if w.armed then
      if s2.asleep then s2.wakeStart (i + 1) 0
      else (s2.wakeJoin (i + 1) 0).raise 0x0E09 0 i
    else s2
  else if !now && was then s.setWake i { w with armTimer := true, stuckTimer := false }
  else s

def State.wakeFilter (s : State) (i : Nat) : State :=
  let w := s.wakeOf i
  if w.filtering then
    (s.setWake i { w with level := w.pin, filtering := false }).wakeUpdate i (s.wakeActive i)
  else s

/-- 10 ms of inactivity arm an enabled input (R391). DESIGN CHOICE (assumption 108): not while a new level passes the filter. -/
def State.wakeArm (s : State) (i : Nat) : State :=
  let w := s.wakeOf i
  if w.armTimer ∧ !w.filtering ∧ s.wakeEnabled i ∧ !s.wakeActive i then
    (s.setWake i { w with armed := true, armTimer := false }).setMaskBit BNK_WAKE_STATUS_masked i false
  else s

/-- A masked input has stayed active for 5 s in bank only (R393). -/
def State.wakeStuck (s : State) (i : Nat) : State :=
  if s.dev.state = .bankOnly ∧ (s.wakeOf i).stuckTimer ∧ s.wakeActive i ∧
      (s.fld BNK_WAKE_STATUS BNK_WAKE_STATUS_masked).testBit i ∧ !(s.fld BNK_WAKE_STATUS BNK_WAKE_STATUS_stuck).testBit i then
    let s1 := s.setMaskBit BNK_WAKE_STATUS_stuck i true
    s1.setBank { s1.bank with stuckNew := s1.bank.stuckNew.filter (· != i) ++ [i] }
  else s

/-- A write of BNK_WAKE_CFG: a disabled input is never armed; an enabled one is armed after 10 ms of inactivity. -/
def State.wakeCfgWrite (s : State) (v : Word) : State :=
  let s1 := s.wrPlain BNK_WAKE_CFG v
  (List.range 8).foldl (fun t i =>
    let w := t.wakeOf i
    if t.wakeEnabled i then
      if s.wakeEnabled i then t.wakeUpdate i (s.wakeActive i)
      else t.setWake i { w with armed := false, filtering := w.pin != w.level, armTimer := !t.wakeActive i }
    else t.setWake i { w with armed := false, filtering := false, armTimer := false, stuckTimer := false }) s1

/-- A transceiver is in standby: the device is asleep or in reset, not yet in full operation, or the channel is in mode 0
(R56, R188, R395); a mode of 5 to 7 acts as 0. -/
def State.inStandby (s : State) (ch : Nat) : Bool :=
  !(s.dev.state == .full) || s.fld (CAN_STATUS ch) CAN_STATUS_state == 0

/-- A CAN wake of a channel: it wakes a sleeping device, else sets its flag and, as the flag rises, raises 0x0E0A. -/
def State.canWake (s : State) (src ch : Nat) : State :=
  let flag := (s.fld BNK_CANW_STATUS BNK_CANW_STATUS_flag).testBit ch
  if s.asleep then (s.markSource src ch).wakeStart src ch
  else if flag then s else (s.wakeJoin src ch).raise 0x0E0A 0 ch

/-- A wake-up pattern (R395); on a selective-wake channel it only starts the frame decoder (R396). -/
def State.canPattern (s : State) (ch : Nat) : State :=
  if !s.inStandby ch then s
  else if (s.bank.sel.any (fun e => e.1 == ch)) then
    s.setBank { s.bank with decoding := s.bank.decoding.filter (· != ch) ++ [ch] }
  else if (s.fld BNK_CANW_CFG BNK_CANW_CFG_wup_en).testBit ch then s.canWake 9 ch
  else s

/-- A decoded classic frame matches the entry (R396). -/
def SelEntry.matches (e : SelEntry) (f : WakeFrame) : Bool :=
  f.ide == e.ide && (Nat.xor f.id e.id) &&& e.idMask == 0 && (!e.dlcChk || f.dlc == e.dlc)
    && (e.dmask == 0 || f.data.isEmpty || (leNat (f.data.take 8)) &&& e.dmask != 0)

def State.selectiveFrame (s : State) (ch : Nat) (f : WakeFrame) : State :=
  match s.bank.sel.find? (fun e => e.1 == ch) with
  | some (_, e) =>
    if s.inStandby ch ∧ ch ∈ s.bank.decoding ∧ !f.fd ∧ f.rate = e.rate then
      let a := BNK_SEL e.index 5
      let n := (s.rd a).toNat
      if f.error then
        let s1 := s.wr a (BitVec.ofNat 32 (min 63 (n + 1)))
        if n = 31 then
          let s2 := if s1.asleep then s1.wakeStart 11 ch
            else if s1.dev.state = .bankOnly ∧ s1.bank.wokeAt = some s1.elapsed then s1.wakeJoin 11 ch else s1
          if s2.running then s2.raise 0x0E0C 2 ch else s2.setBank { s2.bank with overflowNew := ch :: s2.bank.overflowNew }
        else s1
      else
        let s1 := s.wr a (BitVec.ofNat 32 (n - 1))
        if e.matches f then s1.canWake 10 ch else s1
    else s
  | none => s

end Sys2Proof.Machine
end

