-- ==== Sys2Proof/Machine/CanQueue.lean ====
section
/-! DEFINITION. CAN records and receive queues (R194–R199): what the switch needs to know of the aggregator's entries. -/

namespace Sys2Proof.Machine

def State.chan (s : State) (n : Nat) : CanChan := tget {} s.can.chans n

def State.setChan (s : State) (n : Nat) (c : CanChan) : State :=
  { s with can := { s.can with chans := tset {} s.can.chans n c } }

def State.canCount (s : State) (n k : Nat) : State := s.bump (CAN_CNT n k)

/-! Records (R196) -/

def recWord (r : List Byte) (k : Nat) : Nat := leNat (slice (4 * k) 4 r)

def recChannel (r : List Byte) : Nat := bits 4 0 (recWord r 0)
def recFmt (r : List Byte) : Nat := bits 7 6 (recWord r 0)
def recIde (r : List Byte) : Bool := bit 8 (recWord r 0)
def recRtr (r : List Byte) : Bool := bit 9 (recWord r 0)
def recReplace (r : List Byte) : Bool := bit 12 (recWord r 0)
def recLen (r : List Byte) : Nat := bits 27 16 (recWord r 0)
def recId (r : List Byte) : Nat := bits 28 0 (recWord r 1)

/-- The record with one of its header words changed. -/
def recSet (r : List Byte) (k v : Nat) : List Byte := r.take (4 * k) ++ leBytes 4 v ++ r.drop (4 * k + 4)

/-- Pool blocks of a record: data beyond 64 bytes, in blocks of 256 (R194). -/
def recBlocks (r : List Byte) : Nat := (r.length - 32 - 64 + 255) / 256

/-- Entries of both queues of a channel. -/
def CanChan.entries (c : CanChan) : List CanEntry := c.rxq0 ++ c.rxq1

def CanChan.rxBlocks (c : CanChan) : Nat := (c.entries.map (fun e => recBlocks e.record)).sum

/-- An entry is acknowledged: it is freed at once, wherever it stands (R199). -/
def State.canFree (s : State) (ch no : Nat) : State :=
  let c := s.chan ch
  s.setChan ch { c with rxq0 := c.rxq0.filter (fun e => e.no != no), rxq1 := c.rxq1.filter (fun e => e.no != no) }

/-- The switch removed a record's frame undelivered (R199). -/
def State.canDropped (s : State) (ch no : Nat) : State := ((s.canCount ch 16).raiseLim 0x090E 2 ch).canFree ch no

end Sys2Proof.Machine
end

