-- ==== Sys2Proof/Machine/Switch.lean ====
section
/-! DEFINITION. The switch core: banks, admission, virtual output queues, the matcher and port loss (R83–R112). -/

namespace Sys2Proof.Machine

/-! Ports -/

/-- Line rate of a port as tenths of ns per byte: M ports by their speed field, G 1 Gbit/s, F 100 Mbit/s, the internal ports
at their rates of the port table (R23, R160). -/
def State.byteTime (s : State) (p : Nat) : Nat :=
  if p < 8 then
    match s.fld (ETH_PHY_CFG p) ETH_PHY_CFG_speed with
    | 0 => 32
    | 1 => 16
    | _ => 8
  else if p < 20 then 80
  else if p < 28 then 800
  else if p = 28 then 4
  else if p = 29 then 20
  else if p = 30 then 80
  else 5

/-- The polder of an internal port is on (R108): sp28 has the keeper polders, sp29 PD4, sp30 PD7, sp31 PD11. DESIGN CHOICE
(assumption 115): sp28 counts as on while either keeper polder is on, since each of PD5 and PD6 holds two of the clusters behind
the port; R17's "a subsystem in two polders needs both" would have the whole port off with one of them. -/
def State.portPolderOn (s : State) (p : Nat) : Bool :=
  let on := s.fld SYS_POLDER SYS_POLDER_on
  if p = 28 then on.testBit 5 || on.testBit 6 else if p = 29 then on.testBit 4 else if p = 30 then on.testBit 7 else on.testBit 11

def State.loopback (s : State) (p : Nat) : Bool := s.fldB (ETH_PHY_CFG p) ETH_PHY_CFG_loopback

def State.linkUp (s : State) (p : Nat) : Bool := s.fldB (ETH_PHY_STATUS p) ETH_PHY_STATUS_link

/-- The output port is up (R98, R108). -/
def State.portUp (s : State) (p : Nat) : Bool := if p < 28 then s.linkUp p else s.portPolderOn p

/-- An Ethernet port beside its registers. -/
def State.port (s : State) (p : Nat) : EthPort := tget {} s.eth p

def State.setPort (s : State) (p : Nat) (x : EthPort) : State := { s with eth := tset {} s.eth p x }

/-- Down past its hold time: destinations are removed at admission (R106, R108). -/
def State.pastHold (s : State) (p : Nat) : Bool :=
  if p < 28 then
    !s.linkUp p && (s.sw.pastHold.contains p || !s.sw.seenUp.contains p || !s.fldB (ETH_PHY_CFG p) ETH_PHY_CFG_en)
  else !s.portPolderOn p

def State.swCount (s : State) (p k : Nat) (n : Nat := 1) : State := s.bump (SWC_CNT p k) n

/-! Frames, queues and banks -/

/-- The bank of an input group (R24). -/
def homeBank (i : Nat) : Nat :=
  if i < 8 then i / 2 else if i < 14 then 4 else if i < 20 then 5 else if i < 28 ∨ i = 30 then 6 else 7

/-- Headroom H and maximum frame in cells (R85); 0 acts as 1. -/
def State.headroom (s : State) (i : Nat) : Nat := max 1 (s.fld (SWC_PORT_CFG i) SWC_PORT_CFG_max_cells)

def State.mcCopy (s : State) (i : Nat) : Bool := s.fldB (SWC_PORT_CFG i) SWC_PORT_CFG_mc_copy

def qIndex (i o tc : Nat) : Nat := i * 256 + o * 8 + tc

def State.queue (s : State) (q : Nat) : List Nat := tget [] s.sw.queues q

def State.setQ (s : State) (q : Nat) (l : List Nat) : State := { s with sw := { s.sw with queues := tset [] s.sw.queues q l } }

def State.frame (s : State) (id : Nat) : Option Frame := s.sw.frames.find? (fun f => f.id == id)

def State.modFrame (s : State) (id : Nat) (g : Frame → Frame) : State :=
  { s with sw := { s.sw with frames := s.sw.frames.map (fun f => if f.id = id then g f else f) } }

/-- Cells of a frame without its FCS (R83). -/
def cellsOf (n : Nat) : Nat := max 1 ((n + 255) / 256)

def State.portEn (s : State) (n : Nat) : Bool := s.fldB (SWC_PORT_CFG n) SWC_PORT_CFG_en

/-- A queue is active when both its ports take part (R86). -/
def State.active (s : State) (q : Nat) : Bool := s.portEn (q / 256) && s.portEn (q / 8 % 32)

/-- Berm of a bank and class (R86). -/
def State.bermOf (s : State) (b tc : Nat) : Nat :=
  min 64 (bits (8 * (tc % 4) + 7) (8 * (tc % 4)) (s.rd (if tc < 4 then SWC_BERM_LO b else SWC_BERM_HI b)).toNat)

/-- Berm of the active queues of a bank (R87). -/
def State.bermTotal (s : State) (b : Nat) : Nat :=
  ((List.range 32).filter (fun i => homeBank i == b && s.portEn i)).length *
    ((List.range 32).filter s.portEn).length * ((List.range 8).map (s.bermOf b)).sum

def State.bermUsed (s : State) (q : Nat) : Nat :=
  ((s.sw.frames.filter (fun f => f.berm == some q)).map (fun f => f.cells)).sum

def State.bermUnused (s : State) (q : Nat) : Nat :=
  if s.active q then s.bermOf (homeBank (q / 256)) (q % 8) - s.bermUsed q else 0

def State.freeCells (s : State) (b : Nat) : Nat :=
  16384 - ((s.sw.frames.filter (fun f => f.bank == b)).map (fun f => f.cells)).sum

/-- A bank's pool: its free cells minus the unused berm of its active queues (R86). -/
def State.pool (s : State) (b : Nat) : Nat :=
  let qs := ((s.sw.frames.filter (fun f => f.bank == b)).filterMap (fun f => f.berm)).dedup
  let used := ((qs.filter s.active).map (fun q => min (s.bermUsed q) (s.bermOf b (q % 8)))).sum
  s.freeCells b - (s.bermTotal b - used)

/-- Cells of other banks' frames held in bank `b` (R92). -/
def State.spillIn (s : State) (b : Nat) : Nat :=
  ((s.sw.frames.filter (fun f => f.bank == b && homeBank f.input != b)).map (fun f => f.cells)).sum

/-- Referenced depth of a queue: the cells of all frames with an entry in it (R88). -/
def State.refDepth (s : State) (q : Nat) : Nat :=
  ((s.queue q).map (fun id => match s.frame id with | some f => f.cells | none => 0)).sum

/-! Watermarks (R129) -/

def State.wmDepth (s : State) (q : Nat) : State :=
  { s with tm := { s.tm with wmDepth := tmod 0 s.tm.wmDepth q (fun v => max v (min (s.refDepth q) 32767)) } }

def State.wmDelay (s : State) (q ns : Nat) : State :=
  { s with tm := { s.tm with wmDelay := tmod 0 s.tm.wmDelay q (fun v => max v (min ns (2 ^ 32 - 1))) } }

/-! Spill (R90–R92) -/

def State.spilling (s : State) (b : Nat) : Bool := s.fldB (SWC_BANK_SPILL b) SWC_BANK_SPILL_spilling

def State.bankPolderOn (s : State) (b : Nat) : Bool := (s.fld SYS_POLDER SYS_POLDER_on).testBit (if b < 4 then 8 else 9)

def State.spillMask (s : State) (b : Nat) : Nat :=
  bits (8 * (b % 4) + 7) (8 * (b % 4)) (s.rd (if b < 4 then SWC_SPILL_MASK_LO else SWC_SPILL_MASK_HI)).toNat

/-- Bank `t` may take new spill from bank `b` (R90). -/
def State.candidate (s : State) (b t : Nat) : Bool :=
  t != b && (s.spillMask b).testBit t && s.bankPolderOn t && !s.spilling t &&
    decide (s.fld SWC_SPILL_CFG SWC_SPILL_CFG_spill_accept * 64 < s.pool t) &&
    decide (s.spillIn t < s.fld SWC_SPILL_CFG SWC_SPILL_CFG_spill_max * 64)

/-- Choose a target: the candidate with the largest pool, the lowest bank on a tie (R90). -/
def State.chooseTarget (s : State) (b : Nat) : State :=
  let a := SWC_BANK_SPILL b
  let best := ((List.range 8).filter (s.candidate b)).foldl
    (fun (m : Option Nat) t => match m with
      | some x => if s.pool x < s.pool t then some t else m
      | none => some t) none
  match best with
  | some t => (s.setFld a SWC_BANK_SPILL_target t).setFld a SWC_BANK_SPILL_no_target 0
  | none =>
    let s1 := (s.setFld a SWC_BANK_SPILL_target 0).setFld a SWC_BANK_SPILL_no_target 1
    if s.fldB a SWC_BANK_SPILL_no_target then s1 else s1.raise 0x0407 3 b

/-- Start or stop spill from a bank as its pool stands (R90). DESIGN CHOICE (assumption 88): `target` keeps the last target once
spill has stopped. -/
def State.spillCheck (s : State) (b : Nat) : State :=
  let a := SWC_BANK_SPILL b
  let on := s.fld SWC_SPILL_CFG SWC_SPILL_CFG_spill_on * 64
  let off := max on (s.fld SWC_SPILL_CFG SWC_SPILL_CFG_spill_off * 64)
  if s.spilling b then
    if off ≤ s.pool b ∨ on = 0 then
      ((s.setFld a SWC_BANK_SPILL_spilling 0).setFld a SWC_BANK_SPILL_no_target 0).raise 0x0403 0 b
    else s
  else if s.pool b < on then (s.setFld a SWC_BANK_SPILL_spilling 1).raise 0x0402 1 b
  else s

/-- A bank that has started spill, or whose target no longer meets the conditions, chooses a target (R90); `was` is the state
before its spill was checked. -/
def State.spillTarget (was s : State) (b : Nat) : State :=
  let a := SWC_BANK_SPILL b
  if s.spilling b && (!was.spilling b ||
      (!s.fldB a SWC_BANK_SPILL_no_target && !s.candidate b (s.fld a SWC_BANK_SPILL_target))) then s.chooseTarget b
  else s

/-- The placer's look at every bank: which banks spill first, then their targets. -/
def State.spillAll (s : State) : State :=
  (List.range 8).foldl s.spillTarget ((List.range 8).foldl State.spillCheck s)

/-- The choice repeated every 10 µs while there is no target (R90). -/
def State.spillRetry (s : State) (b : Nat) : State :=
  if s.spilling b && s.fldB (SWC_BANK_SPILL b) SWC_BANK_SPILL_no_target then s.chooseTarget b else s

/-- The target can take `h` cells (R93). -/
def State.targetTakes (s : State) (b h : Nat) : Option Nat :=
  let a := SWC_BANK_SPILL b
  let t := s.fld a SWC_BANK_SPILL_target
  if s.spilling b && !s.fldB a SWC_BANK_SPILL_no_target && s.candidate b t && decide (h ≤ s.pool t) &&
      decide (s.spillIn t + h ≤ s.fld SWC_SPILL_CFG SWC_SPILL_CFG_spill_max * 64) then some t
  else none

/-! Random early drop (R95) -/

/-- The decision of R95 towards (o, tc); the average is updated and a value drawn only where p is above 0. DESIGN CHOICE
(assumption 88): (d − avg) / 2^w is rounded down to the 8 fractional bits kept, for a negative difference as well. -/
def State.redDrop (s : State) (o tc colour : Nat) : State × Bool :=
  let k := o * 8 + tc
  let p := bits (4 * tc + 3) (4 * tc) (s.rd (SWC_RED_SEL o)).toNat
  let col := min colour 2
  let w := s.fld (SWC_RED_PROF_3 p) SWC_RED_PROF_3_weight
  let pm := bits (8 * col + 7) (8 * col) (s.rd (SWC_RED_PROF_3 p)).toNat
  let mn := s.fld (SWC_RED_PROF p col) SWC_RED_PROF_min
  let mx := s.fld (SWC_RED_PROF p col) SWC_RED_PROF_max
  let d := ((List.range 32).map (fun i => s.refDepth (qIndex i o tc))).sum
  let old := tget 0 s.sw.redAvg k
  let avg := ((old : Int) + ((d * 256 : Nat) - (old : Int)) / (2 ^ w : Nat)).toNat
  let s1 := { s with sw := { s.sw with redAvg := tset 0 s.sw.redAvg k avg } }
  if mx ≠ 0xFFFF ∧ mx * 256 ≤ avg then (s1, true)
  else if mx ≤ mn ∨ avg < mn * 256 ∨ mn = 0xFFFF then (s1, false)
  else
    let num := pm * (avg - mn * 256)
    let den := 256 * ((mx - mn) * 256)
    if mx = 0xFFFF ∨ num = 0 then (s1, false)
    else
      let r := lfsrStep s1.sw.redReg
      ({ s1 with sw := { s1.sw with redReg := r } }, decide (r % 65536 * den < 65536 * num))

/-! Leaving a queue -/

/-- A frame whose last destination is gone is freed, and its cells return (R89, R103). -/
def State.freeIfDone (s : State) (id : Nat) : State :=
  match s.frame id with
  | some f => if f.residue = [] then { s with sw := { s.sw with frames := s.sw.frames.filter (fun g => g.id != id) } } else s
  | none => s

/-- An entry leaves its queue; the head's residence is a head delay (R129). -/
def State.leaveQueue (s : State) (id o : Nat) : State :=
  match s.frame id with
  | none => s
  | some f =>
    let q := qIndex f.input o f.tc
    let s1 := if (s.queue q).head? = some id then s.wmDelay q (s.elapsed - f.arrive) else s
    let s2 := s1.setQ q ((s1.queue q).filter (· != id))
    s2.modFrame id (fun g => { g with residue := g.residue.filter (· != o), begun := g.begun.filter (· != o) })

/-- A destination is removed undelivered: the CAN entry behind a record is acknowledged (R199). -/
def State.undelivered (s : State) (f : Frame) (o : Nat) : State :=
  match f.canEntry with
  | some (ch, no) => if o = 28 then s.canDropped ch no else s
  | none => s

/-- Remove one destination of a frame, counted by counter `k` of the output; `guard` says that it is a missing AVTPDU
(R143). A transfer of it ends. -/
def State.removeDest (s : State) (id o : Nat) (k : Option Nat) (guard : Bool) : State :=
  match s.frame id with
  | none => s
  | some f =>
    let s1 := (s.leaveQueue id o).freeIfDone id
    let s2 := match k with | some k => s1.swCount o k | none => s1
    let s3 := { s2 with sw := { s2.sw with xfers := s2.sw.xfers.filter (fun x => !(x.id == id && x.output == o)) } }
    let s4 := s3.undelivered f o
    if guard then s4.guardRemoved f.handle o else s4

/-- A frame is discarded whole, nothing counted at its outputs. -/
def State.dropFrame (s : State) (id : Nat) : State :=
  match s.frame id with
  | none => s
  | some f => f.residue.foldl (fun t o => t.removeDest id o none false) s

/-! Admission (R93, R94) -/

/-- One destination's checks at admission. -/
def State.admitDest (s : State) (i o tc colour h : Nat) (handle : Option Nat) : State × Bool :=
  if s.pastHold o then ((s.swCount o 4).guardRemoved handle o, false)
  else
    let (s1, drop) := s.redDrop o tc colour
    if drop then ((s1.swCount o (6 + min colour 2)).guardRemoved handle o, false)
    else if s.fld (SWC_VOQ_CAP tc) SWC_VOQ_CAP_cap_cells < s1.refDepth (qIndex i o tc) + h then
      ((s1.swCount o 5).guardRemoved handle o, false)
    else (s1, true)

/-- The destinations that pass. DESIGN CHOICE (assumption 88): they are judged, and draw from the one shared register of R95,
in ascending port order. -/
def State.admitDests (s : State) (i tc colour h : Nat) (handle : Option Nat) : List Nat → State × List Nat
  | [] => (s, [])
  | o :: rest =>
    let (s1, ok) := s.admitDest i o tc colour h handle
    let (s2, l) := s1.admitDests i tc colour h handle rest
    (s2, if ok then o :: l else l)

/-- Frame records and queue entries of a bank (R84). -/
def State.recordsIn (s : State) (b : Nat) : Nat := (s.sw.frames.filter (fun f => f.bank == b)).length
def State.entriesIn (s : State) (b : Nat) : Nat :=
  ((s.sw.frames.filter (fun f => f.bank == b)).map (fun f => f.residue.length)).sum

/-- Event 0x0406 and its status bit (R93, R110). -/
def State.descDrop (s : State) (i : Nat) : State :=
  ((s.swCount i 11).setFld SWC_STATUS SWC_STATUS_rec_exhausted 1).raiseLim 0x0406 3 i

/-- Admit a frame to a destination set as one frame (R93). Answers the frame's number where it was admitted. A bank whose
polder is off supplies no cells (R17). DESIGN CHOICE (assumption 88): how many of a spilled frame's cell writes collide is a
free value, at most one for each cell (R91). -/
def State.admitOne (s : State) (f : Frame) (ds : List Nat) (native : Bool) : State × Option Nat :=
  let i := f.input
  let h := s.headroom i
  let (s1, d) := s.admitDests i f.tc f.colour h f.handle ds
  let lost (t : State) : State × Option Nat := (t.undelivered f 28, none)
  match d with
  | [] => lost s1
  | a :: _ =>
    let q := qIndex i a f.tc
    let b := homeBank i
    let src : Option (Option Nat × Nat) :=
      if s1.bankPolderOn b && decide (h ≤ s1.bermUnused q) then some (some q, b)
      else match s1.targetTakes b h with
        | some t => some (none, t)
        | none => if s1.bankPolderOn b && decide (h ≤ s1.pool b) then some (none, b) else none
    match src with
    | none => lost (s1.swCount i 10)
    | some (berm, cb) =>
      if 16384 ≤ s1.recordsIn cb ∨ 32768 < s1.entriesIn cb + d.length then lost (s1.descDrop i)
      else
        let id := s1.sw.nextId
        let g := { f with
          id := id, bank := cb, berm := berm, cells := h, complete := false, arrive := s1.elapsed
          native := native && decide (2 ≤ d.length), dest := d, residue := d, begun := [] }
        let s2 := { s1 with sw := { s1.sw with nextId := id + 1, frames := s1.sw.frames ++ [g] } }
        let s3 := d.foldl (fun t o => let k := qIndex i o f.tc; (t.setQ k (t.queue k ++ [id])).wmDepth k) s2
        let s4 :=
          if cb = b then s3
          else
            let (k, t) := (s3.swCount i 13).freeIx
            t.bump (SWC_BANK_COLLIDE cb) (min (cellsOf f.data.length) (Config.spillCollisions k))
        (s4.spillAll, some id)

/-- Copies that the primary write port takes at the input's full rate (R94). DESIGN CHOICE (assumption 88): 8 for an internal
input, of which R94 says nothing. -/
def copyLimit (i : Nat) : Nat := if i < 8 then 4 else 8

/-- Compatibility mode: one unicast frame per destination (R94). Whether a copy beyond the guaranteed number is taken in
time is a free value. -/
def State.admitCopies (s : State) (f : Frame) : List Nat → Nat → State × List Nat
  | [], _ => (s, [])
  | o :: rest, n =>
    let (k, s0) := s.freeIx
    if copyLimit f.input ≤ n ∧ Config.copyLate k then (s0.swCount f.input 12).admitCopies f rest n
    else
      let (s1, r) := s0.admitOne f [o] false
      let (s2, l) := s1.admitCopies f rest (n + r.toList.length)
      (s2, r.toList ++ l)

/-- Admission of a frame to the destinations of a mask. -/
def State.admitFrame (s : State) (f : Frame) (dest : Nat) : State × List Nat :=
  let ds := bitsOf 32 dest
  if s.mcCopy f.input && decide (2 ≤ ds.length) then s.admitCopies f ds 0
  else
    let (t, r) := s.admitOne f ds true
    (t, r.toList)

/-- The last cell of a frame is written: the unused provisional cells return (R89). -/
def State.writeLast (s : State) (id : Nat) : State :=
  match s.frame id with
  | none => s
  | some f =>
    if f.complete then s
    else (s.modFrame id (fun g => { g with complete := true, cells := cellsOf f.data.length, done := s.elapsed })).spillAll

/-- The frame reaches cell max_cells + 1 of its input (R85). -/
def State.tooManyCells (s : State) (f : Frame) : Bool := decide (s.headroom f.input < cellsOf f.data.length)

/-- Frames that a port is receiving: one, or a copy for each destination in compatibility mode. -/
def State.receiving (s : State) (p : Nat) : List Frame := s.sw.frames.filter (fun f => f.input == p && !f.complete)

/-- A frame that an internal source hands over whole; beyond its headroom it is discarded (R85). -/
def State.admitWhole (s : State) (f : Frame) (dest : Nat) : State :=
  let (t, ids) := s.admitFrame f dest
  if ids ≠ [] ∧ s.tooManyCells f then ((ids.foldl State.dropFrame t).swCount f.input 14).spillAll
  else ids.foldl State.writeLast t

/-- What a frame of `n` bytes is charged: beyond its headroom, the bytes delivered before it was cut (R85, R116). -/
def State.delivered (s : State) (f : Frame) (n : Nat) : Nat :=
  if s.tooManyCells f then n - (f.data.length + 4 - s.headroom f.input * 256) else n

/-- EtherType after at most one tag, and the VID of the tag. -/
def etherType (data : List Byte) : Nat :=
  if beNat (slice 12 2 data) = 0x8100 then beNat (slice 16 2 data) else beNat (slice 12 2 data)

def tagVid (data : List Byte) : Option Nat :=
  if beNat (slice 12 2 data) = 0x8100 then some (beNat (slice 14 2 data) % 4096) else none

/-- The VID of a frame at its input: its tag's, and the port's pvid where it has none or a priority tag (R214). -/
def State.vidOf (s : State) (p : Nat) (data : List Byte) : Nat :=
  match tagVid data with
  | some v => if v = 0 then s.fld (TBL_PORT_CFG p) TBL_PORT_CFG_pvid else v
  | none => s.fld (TBL_PORT_CFG p) TBL_PORT_CFG_pvid

/-- A frame that has passed its policer is looked up by its source address and VID (R227). -/
def State.learn (s : State) (p : Nat) (data : List Byte) : State := s.learnFrom p (beNat (slice 6 6 data)) (s.vidOf p data)

/-- Police a frame of an internal port by its port's policer, then take it in towards the set that `dest` gives (R113 item 3,
R116, R227). It belongs to no stream entry. -/
def State.sendTo (s : State) (f : Frame) (dest : State → State × Nat) : State :=
  let p := s.fld (TMG_PORT_CLS f.input) TMG_PORT_CLS_pol
  let (s1, ok) := s.police p
  if ok then
    let (s2, m) := dest (if f.kind = .eth then s1.learn f.input f.data else s1)
    let s3 := s2.admitWhole { f with handle := none } m
    if (s.pol p).en then s3.policeEnd p (s.delivered f (f.data.length + 4)) else s3
  else s1.undelivered f 28

def State.sendInternal (s : State) (f : Frame) (dest : Nat) : State := s.sendTo f (fun t => (t, dest))

/-- Status messages that slots owe enter at sp29, tc7, green (R153). -/
def State.sendOwed (s : State) : State :=
  let gs := s.csg.owed
  gs.foldl (fun t g =>
    let f : Frame := { input := 29, data := t.statusFrame g, tc := 7, ts := t.tide.toNat }
    let x := t.slot g
    (t.setSlot g { x with msgSeq := (x.msgSeq + 1) % 65536 }).sendInternal f (2 ^ t.gMon g))
    { s with csg := { s.csg with owed := [] } }

/-! The matcher (R97–R102) -/

/-- A fabric link: role forward or back; 3 acts as 0 (R303). -/
def State.fabLink (s : State) (o : Nat) : Bool :=
  decide (o < 8) && (s.fld (FAB_PORT_CFG o) FAB_PORT_CFG_role == 1 || s.fld (FAB_PORT_CFG o) FAB_PORT_CFG_role == 2)

/-- A frame that leaves a fabric link with a fabric header: every other frame leaves it as it would an ordinary port (R318). -/
def State.encapsulated (s : State) (f : Frame) (o : Nat) : Bool :=
  s.fabLink o && (f.kind == .eth) && (f.handle.isSome || f.fab.isSome)

/-- An Ethernet frame leaves without its tag where the untag mask of its VID says so; a priority tag counts as the port's pvid
(R214). A stream frame keeps its tag on a fabric link. -/
def State.outData (s : State) (f : Frame) (o : Nat) : List Byte :=
  match tagVid f.data with
  | some v =>
    let vid := if v = 0 then s.fld (TBL_PORT_CFG f.input) TBL_PORT_CFG_pvid else v
    if f.kind = .eth ∧ !(s.encapsulated f o) ∧ (s.vlanUntag vid).testBit o then f.data.take 12 ++ f.data.drop 16 else f.data
  | none => f.data

def isGptp (data : List Byte) : Bool := beNat (slice 0 6 data) == 0x0180C200000E && beNat (slice 12 2 data) == 0x88F7

def isEapol (data : List Byte) : Bool := beNat (slice 12 2 data) == 0x888E

/-- Frames of the uncontrolled port bypass the SecY (R171). -/
def uncontrolled (data : List Byte) : Bool := isGptp data || isEapol data

/-- MACsec protects the frame at this output (R171). -/
def State.protects (s : State) (f : Frame) (o : Nat) : Bool :=
  decide (o < 20) && s.fldB (ETH_SEC_CFG o) ETH_SEC_CFG_tx_en && (s.encapsulated f o || f.kind == .fabric || !uncontrolled f.data)

/-- Length at an output: encapsulation, padding, FCS and MACsec included; no MAC pads at an internal one (R118, R123, R167, R171,
R319). -/
def State.wireLen (s : State) (f : Frame) (o : Nat) : Nat :=
  let fab := if s.encapsulated f o ∨ f.kind = .fabric then 30 else 0
  let sec := if s.protects f o then (if s.fldB (ETH_SEC_CFG o) ETH_SEC_CFG_include_sci then 32 else 24) else 0
  max (if o < 28 then 60 else 0) ((s.outData f o).length + fab) + 4 + sec

/-- Time of a frame on the wire with 20 bytes of overhead, in tenths of ns. -/
def State.wireTime (s : State) (f : Frame) (o : Nat) : Nat := (s.wireLen f o + 20) * s.byteTime o

def State.txStart (s : State) (o : Nat) : Nat := if o < 28 then s.fld (ETH_MAC_CFG o) ETH_MAC_CFG_tx_start else 1

/-- The lead of R123 in ns. -/
def State.lead (s : State) (o : Nat) : Nat := max (s.fld (TMG_TT_LEAD o) TMG_TT_LEAD_lead_ns) ((s.txStart o + 2) * 100)

def State.stagedAt (s : State) (o : Nat) : List Frame := tget [] s.sw.staged o

/-- When what is staged or in transfer has left the wire, as a delay from now in tenths of ns: the rest of the frame that the
MAC sends, then every other one at line rate with its overhead (R123). -/
def State.drainDelay (s : State) (o : Nat) : Nat :=
  let moving := (s.sw.xfers.filter (fun x => x.output == o && x.tx.isNone)).filterMap (fun x => s.frame x.id)
  tget 0 s.sw.busy o - s.elapsed * 10 + ((s.stagedAt o ++ moving).map (fun f => s.wireTime f o)).sum

/-- fits of R123. -/
def State.fits (s : State) (f : Frame) (o : Nat) : Bool :=
  if 28 ≤ o ∨ (s.tideOf o).oper.isNone then true
  else
    let t0 := s.tide.toNat * 10 + s.drainDelay o + s.lead o * 10
    (s.gatesAt o (t0 / 10)).testBit f.tc &&
      (match s.nextClose o f.tc (t0 / 10) with
        | some c => decide (t0 + s.wireTime f o ≤ c * 10)
        | none => true)

/-- Longer than every open window of its class (R125). -/
def State.oversize (s : State) (f : Frame) (o : Nat) : Bool :=
  match s.window o f.tc with
  | some w => decide (w * 10 < s.wireTime f o + s.lead o * 10)
  | none => false

/-- Cells of the staging buffer that are free, transfers in progress counted (R98). -/
def State.stagingFree (s : State) (o : Nat) : Nat :=
  40 - ((s.stagedAt o).map (fun f => f.cells)).sum -
    ((s.sw.xfers.filter (fun x => x.output == o)).map (fun x => match s.frame x.id with | some f => f.cells | none => 0)).sum

/-! What sp28 can take (R246, R282) -/

/-- A frame binding entry matches a frame (R282). -/
def State.bindMatches (s : State) (f : Frame) (k : Nat) : Bool :=
  let w0 := (s.rd (PLC_FB k 0)).toNat
  let w1 := (s.rd (PLC_FB k 1)).toNat
  bit 0 w0 && (s.rd (PLC_FB k 2)).toNat.testBit f.input && (f.bad.isSome == bit 4 w0) &&
    (!bit 1 w0 || bit 4 w0 || f.handle == some (bits 18 5 w0)) &&
    (!bit 2 w0 || etherType f.data == bits 15 0 w1) &&
    (!bit 3 w0 || s.vidOf f.input f.data == bits 27 16 w1)

/-- Routine and argument of a frame at sp28: of its internal header, else of the first frame binding that matches. -/
def State.bindingOf (s : State) (f : Frame) : Option (Nat × Nat) :=
  match f.routine with
  | some r => some r
  | none => (findFrom (s.bindMatches f) 64 0).map (fun k =>
      let w3 := (s.rd (PLC_FB k 3)).toNat
      (bits 9 0 w3, bits 31 17 w3))

def State.rt (s : State) (r : Nat) : RtState := tget {} s.kpr.rts r

/-- The core that holds a placed routine. -/
def State.coreOf (s : State) (r : Nat) : Option Nat :=
  if s.fldB (PLC_MAP r) PLC_MAP_placed && !s.fldB (PLC_MAP r) PLC_MAP_remote then some (s.fld (PLC_MAP r) PLC_MAP_core) else none

def KEvent.frameLike (e : KEvent) : Bool := e.kind == 1 || e.kind == 2 || e.kind == 5

/-- Bytes of a cluster's receive pool in use: pending and running frame-like events (R246). -/
def State.poolUsed (s : State) (c : Nat) : Nat :=
  (((s.kpr.pend.filter (fun e => (s.coreOf e.routine).any (fun k => k / 16 == c))).map (fun e => e.data.length)).sum) +
    (((s.kpr.run.filter (fun r => r.1 / 16 == c)).map (fun r => r.2.ev.data.length)).sum)

/-- The core has room for one more frame-like event of `n` bytes; `extra` are frames on their way (R246). -/
def State.clusterRoom (s : State) (core n : Nat) (extra : List Frame) : Bool :=
  let on (f : Frame) : Option Nat := (s.bindingOf f).bind (fun b => s.coreOf b.1)
  decide ((s.kpr.pend.filter (fun e => e.frameLike && s.coreOf e.routine == some core)).length +
      (extra.filter (fun f => on f == some core)).length < 8) &&
    decide (s.poolUsed (core / 16) +
      ((extra.filter (fun f => (on f).any (fun k => k / 16 == core / 16))).map (fun f => f.data.length)).sum + n ≤ 65536)

/-- Frames staged for sp28 or in transfer to it. -/
def State.toward28 (s : State) : List Frame :=
  s.stagedAt 28 ++ (s.sw.xfers.filter (fun x => x.output == 28)).filterMap (fun x => s.frame x.id)

/-- The cluster port would take the frame now; a frame without a routine that runs is taken and discarded. -/
def State.portTakes (s : State) (f : Frame) : Bool :=
  match s.bindingOf f with
  | none => true
  | some (r, _) =>
    if (s.rt r).suspended then true
    else match s.coreOf r with
      | some c => s.clusterRoom c f.data.length s.toward28
      | none => true

/-- Eligibility of a head frame towards an output (R98). DESIGN CHOICE (assumption 88): a frame of a cut-through input that is
already complete counts with the cells that it has, as a stored frame does. -/
def State.headEligible (s : State) (f : Frame) (o : Nat) : Bool :=
  (f.complete || (f.cut && decide (s.byteTime f.input ≤ s.byteTime o))) && s.portUp o &&
    decide (f.cells ≤ s.stagingFree o) && s.shaperPermits (o * 8 + f.tc) && s.fits f o && (o != 28 || s.portTakes f)

/-- A frame's residence exceeds the lifetime of its class (R97). -/
def State.pastLife (s : State) (f : Frame) : Bool :=
  let life := s.fld (SWC_LIFE f.tc) SWC_LIFE_life_us * 1000
  life != 0 && decide (life < s.elapsed - f.arrive)

/-- The residue timeout of a native multicast frame is reached (R104). -/
def State.residueDue (s : State) (f : Frame) : Bool :=
  f.native && f.complete && decide (f.done + s.fld SWC_MC_CTL SWC_MC_CTL_residue_us * 1000 ≤ s.elapsed)

/-- The residue timeout of a frame: every destination not begun is removed (R104). -/
def State.residueDrop (s : State) (f : Frame) : State :=
  (f.residue.filter (fun o => !f.begun.contains o)).foldl
    (fun t o => (t.removeDest f.id o (some 2) true).raiseLim 0x0408 2 o) s

/-- A head considered for a request is removed while it is oversize for its gate, or past its lifetime; where its residue
timeout is reached as well, the residue rule acts (R97, R105, R125). -/
def State.dequeueHead (s : State) (q : Nat) : Nat → State
  | 0 => s
  | fuel + 1 =>
    match (s.queue q).head?.bind s.frame with
    | none => s
    | some f =>
      let o := q / 8 % 32
      if s.oversize f o then
        (((s.removeDest f.id o none false).bump (TMG_GATE_CNT o 1)).raiseLim 0x0503 2 o).dequeueHead q fuel
      else if s.pastLife f then
        if s.residueDue f then (s.residueDrop f).dequeueHead q fuel
        else ((s.removeDest f.id o (some 1) true).raiseLim 0x0409 1 o).dequeueHead q fuel
      else s

/-- The queue's head remains after the checks of R97 and R125, and is eligible. -/
def State.eligible (s : State) (q : Nat) : Bool :=
  s.active q && (match (s.queue q).head?.bind s.frame with
    | some f => !s.oversize f (q / 8 % 32) && !s.pastLife f && s.headEligible f (q / 8 % 32)
    | none => false)

/-- The request of an input towards an output: the highest eligible class (R100). -/
def State.request (s : State) (i o : Nat) : List Nat → State × Option Nat
  | [] => (s, none)
  | tc :: rest =>
    let q := qIndex i o tc
    if s.queue q ≠ [] ∧ s.active q ∧ s.portUp o then
      let s1 := s.dequeueHead q (s.queue q).length
      if s1.eligible q then (s1, some tc) else s1.request i o rest
    else s.request i o rest

structure Request where
  input : Nat
  output : Nat
  tc : Nat
  deriving DecidableEq, Repr

def State.lockedIn (s : State) (i : Nat) : Bool := s.sw.xfers.any (fun x => x.input == i)
def State.lockedOut (s : State) (o : Nat) : Bool := s.sw.xfers.any (fun x => x.output == o)

/-- The requests of a round. -/
def State.requests (s : State) : State × List Request :=
  ((s.sw.queues.map (fun e => e.1 / 8)).dedup).foldl
    (fun acc k =>
      let i := k / 32
      let o := k % 32
      if acc.1.lockedIn i || acc.1.lockedOut o then acc
      else
        let (t, r) := acc.1.request i o [7, 6, 5, 4, 3, 2, 1, 0]
        (t, match r with | some tc => acc.2 ++ [{ input := i, output := o, tc := tc }] | none => acc.2)) (s, [])

/-- The requester that comes first at or after a pointer, modulo 32, among those of the highest class. -/
def pickFirst (rs : List Request) (side : Request → Nat) (ptr : Nat → Nat) : Option Request :=
  let c := (rs.map (fun r => r.tc)).foldl max 0
  (rs.filter (fun r => r.tc == c)).foldl
    (fun best r => match best with
      | some b => if (side r + 32 - ptr c) % 32 < (side b + 32 - ptr c) % 32 then some r else best
      | none => some r) none

/-- One iteration's accepted grants (R100). -/
def State.iterate (s : State) (rs : List Request) : List Request :=
  let grants := (List.range 32).filterMap (fun o =>
    pickFirst (rs.filter (fun r => r.output == o)) (fun r => r.input) (fun c => tget 0 s.sw.grantPtr (o * 8 + c)))
  (List.range 32).filterMap (fun i =>
    pickFirst (grants.filter (fun r => r.input == i)) (fun r => r.output) (fun c => tget 0 s.sw.acceptPtr (i * 8 + c)))

/-- A match: the pair is locked, the shaper charged; the pointers advance in the first iteration only (R100, R118). -/
def State.connect (s : State) (first : Bool) (r : Request) : State :=
  match (s.queue (qIndex r.input r.output r.tc)).head?.bind s.frame with
  | none => s
  | some f =>
    let k := r.output * 8 + r.tc
    let s1 := if first then
        { s with sw := { s.sw with
          grantPtr := tset 0 s.sw.grantPtr k ((r.input + 1) % 32)
          acceptPtr := tset 0 s.sw.acceptPtr (r.input * 8 + r.tc) ((r.output + 1) % 32) } }
      else s
    let s2 := (s1.shaperGrant k (s1.wireLen f r.output)).modFrame f.id (fun g => { g with begun := g.begun ++ [r.output] })
    { s2 with sw := { s2.sw with
        xfers := s2.sw.xfers ++ [{ input := r.input, output := r.output, tc := r.tc, id := f.id }] } }

/-- The iterations of a round: each works on the inputs and outputs not yet matched. -/
def State.iterations (s : State) (rs : List Request) : Nat → Bool → State
  | 0, _ => s
  | n + 1, first =>
    let ms := s.iterate rs
    let s1 := ms.foldl (fun t r => t.connect first r) s
    s1.iterations (rs.filter (fun r => !(ms.any (fun m => m.input == r.input || m.output == r.output)))) n false

/-- A round of the matcher (R100). -/
def State.matcherRound (s : State) : State :=
  if s.running then
    let (s1, rs) := s.requests
    (s1.iterations rs (max 1 (s1.fld SWC_CTL SWC_CTL_iter)) true).spillAll
  else s

/-! Residue, holds and flushes (R104–R109) -/

/-- Expiry of a native multicast frame's residue timeout: every destination not begun is removed (R104). -/
def State.residueTimeout (s : State) (id : Nat) : State :=
  match s.frame id with
  | some f => if f.native ∧ f.complete then (s.residueDrop f).spillAll else s
  | none => s

/-- Every entry in the queues of an output is removed and counts in flush_drop (R106, R108). -/
def State.flushOutput (s : State) (o : Nat) : State :=
  let es := (s.sw.queues.filter (fun e => e.1 / 8 % 32 == o)).flatMap (fun e => e.2)
  (es.foldl (fun t id => t.removeDest id o (some 3) true) s).spillAll

/-- The hold timer of an external output expires (R106). -/
def State.holdExpiry (s : State) (p : Nat) : State :=
  if s.sw.holding.contains p then
    let s1 := { s with sw := { s.sw with holding := s.sw.holding.filter (· != p), pastHold := p :: s.sw.pastHold } }
    (s1.flushOutput p).raise 0x0404 3 p
  else s

/-- What leaves of a cut frame: the bytes sent so far and their inverted FCS. In near-end loopback it comes back to the port's own
receiver (PRESUMED, assumption 94); how many bytes were sent is a free value. -/
def State.sendCut (s : State) (o : Nat) (bytes : List Byte) : State :=
  if s.loopback o then
    let (k, s1) := s.freeIx
    let b := bytes.take (Config.sentBytes k)
    { s1 with sw := { s1.sw with echo := s1.sw.echo ++ [(o, b ++ (fcsBytes b).map (fun x => ~~~x))] } }
  else s.out (.ethAborted o)

/-- A transfer ends before its frame's last byte: the output ends the frame with an inverted FCS, and the wire is free (R99,
R169, R175). A frame that the MAC was discarding leaves nothing. -/
def State.endSent (s : State) (id o : Nat) : State :=
  let tx := (s.sw.xfers.find? (fun x => x.id == id && x.output == o)).bind (fun x => x.tx)
  let s1 := s.removeDest id o none false
  if o < 28 ∧ !(tx.any (fun t => t.bytes.isNone)) then
    let s2 := s1.airCut o
    ({ s2 with sw := { s2.sw with busy := tset 0 s2.sw.busy o 0 } }.wr (ETH_CNT o 9) (s2.rd (ETH_CNT o 9) + 1)).sendCut o
      ((tx.bind (fun t => t.bytes)).getD [])
  else s1

/-- A frame in reception that must not be passed on: begun destinations end with an inverted FCS, counted by `k`, the others
are removed (R99). -/
def State.failFrame (s : State) (id : Nat) (k : Option Nat) : State :=
  match s.frame id with
  | none => s
  | some f =>
    f.residue.foldl (fun t o =>
      if f.begun.contains o then
        let t1 := t.endSent id o
        match k with | some k => t1.swCount o k | none => t1
      else t.removeDest id o none false) s

/-- The charge of a received frame at its end, `n` bytes (R116). -/
def State.chargeEnd (s : State) (x : RxFrame) (n : Nat) : State :=
  match x.policer with
  | some q => s.policeEnd q n
  | none => s

/-- The end of the frame that a port receives (R85, R89, R99, R162): a frame passed on before its FCS was verified is judged,
one that is too long for its port is discarded, and the last cell of any other is written. DESIGN CHOICE (assumption 89): a
frame cut by max_cells counts once in rx_trunc however many copies it has, and a transfer of it that has begun ends with an
inverted FCS, uncounted in cut_bad. -/
def State.frameEnd (s : State) (p : Nat) : State :=
  match (s.port p).rx with
  | none => s
  | some x =>
    let fs := s.receiving p
    let long := fs.any s.tooManyCells
    let s0 := s.setPort p { s.port p with rx := none }
    let s1 := s0.chargeEnd x (match fs with | f :: _ => s.delivered f x.bytes | [] => x.bytes)
    let s2 := if x.late ≠ 0 then (bitsOf 4 x.late).foldl (fun t k => t.bump (ETH_CNT p (k + 1))) s1
      else if x.passed then s1.wr (ETH_CNT p 0) (s1.rd (ETH_CNT p 0) + 1) else s1
    if long then (fs.foldl (fun t f => t.failFrame f.id none) (s2.swCount p 14)).spillAll
    else if x.late ≠ 0 then (fs.foldl (fun t f => t.failFrame f.id (some 9)) s2).spillAll
    else fs.foldl (fun t f => t.writeLast f.id) s2

/-- An input port loses its link: the frame in reception is discarded and counts in rx_trunc, once for all its copies
(assumption 89), or ends where a transfer of it has begun (R109). How many of its bytes were delivered is a free value. -/
def State.inputLost (s : State) (p : Nat) : State :=
  match (s.port p).rx with
  | none => s
  | some x =>
    let fs := s.receiving p
    let (k, s0) := (s.setPort p { s.port p with rx := none }).freeIx
    let s1 := s0.chargeEnd x (min x.bytes (Config.lostBytes k))
    let s2 := fs.foldl (fun t f => t.failFrame f.id (some 9)) s1
    (if fs ≠ [] ∧ fs.all (fun f => f.begun == []) then s2.swCount p 14 else s2).spillAll

/-- What an output holds in its staging buffer is discarded and counts in flush_drop: whole frames, and a frame in transfer to
it (R106; DEDUCED, assumption 89). -/
def State.stagingLost (s : State) (p : Nat) : State :=
  let s1 := { s.swCount p 3 (s.stagedAt p).length with sw := { s.sw with
    staged := tset [] s.sw.staged p [], busy := tset 0 s.sw.busy p 0 } }
  ((s.sw.xfers.filter (fun x => x.output == p)).foldl (fun t x => t.removeDest x.id p (some 3) true) s1).spillAll

/-- An external output port reports link down (R106, R107). -/
def State.outputLost (s : State) (p : Nat) : State :=
  let s1 := s.stagingLost p
  let s2 := { s1 with sw := { s1.sw with holding := p :: s1.sw.holding.filter (· != p) } }
  if s.fld SWC_PORT_HOLD SWC_PORT_HOLD_hold_us = 0 then s2.holdExpiry p else s2

/-- A port whose en is 0 is down past its hold time until its link is up again, and no hold timer runs (R106). -/
def State.outputDisabled (s : State) (p : Nat) : State :=
  { s with sw := { s.sw with holding := s.sw.holding.filter (· != p), pastHold := p :: s.sw.pastHold.filter (· != p) } }

/-- The polder of an internal port is switched off (R108). -/
def State.internalOff (s : State) (p : Nat) : State := (s.flushOutput p).sendOwed

/-! SWC registers (R111, R112) -/

/-- A write of a berm or port enable that would exceed 12,288 berm cells is refused whole (R87). -/
def State.bermWrite (s : State) (a : Nat) (v : Word) : State :=
  let s1 := s.wrPlain a v
  if (List.range 8).any (fun b => decide (12288 < s1.bermTotal b)) then
    (s.setFld SWC_STATUS SWC_STATUS_berm_refused 1).raise 0x0401 2
  else s1.spillAll

/-- SWC_CNT_CLR (R112). -/
def State.swcClear (s : State) (v : Nat) : State :=
  if bit 6 v then
    if bit 5 v then
      s.clearRegs ((List.range 32).flatMap (fun n => (List.range 16).map (SWC_CNT n)) ++ (List.range 8).map SWC_BANK_COLLIDE)
    else s.clearRegs ((List.range 16).map (SWC_CNT (v % 32)))
  else s

def State.swcWrite (s : State) (off : Nat) (v : Word) : State :=
  let a := 0x20030000 + off
  if (0x100 ≤ off ∧ off < 0x180) ∨ (0x200 ≤ off ∧ off < 0x240) then s.bermWrite a v
  else if off = 0x400 then
    let n := if v = 0 then 1 else v
    { s.wrPlain a n with sw := { s.sw with redReg := n.toNat } }
  else if off = 0x1800 then s.swcClear v.toNat
  else (s.wrPlain a v).spillAll

def State.swcRead (s : State) (off : Nat) : Option Nat :=
  let q := s.fld SWC_VOQ_SEL SWC_VOQ_SEL_index
  if 0x300 ≤ off ∧ off < 0x380 then
    let b := (off - 0x300) / 16
    if off % 16 = 0 then some (s.freeCells b + s.pool b * 2 ^ 16)
    else if off % 16 = 4 then
      some ((s.rd (SWC_BANK_SPILL b)).toNat % 256 + min (s.spillIn b) 16383 * 2 ^ 8)
    else if off % 16 = 8 then some (s.bermTotal b)
    else none
  else if off = 0xA04 then
    some (min (s.refDepth q) 32767 + boolNat (s.active q) * 2 ^ 15 + min (s.queue q).length 32767 * 2 ^ 16 +
      boolNat (s.eligible q) * 2 ^ 31)
  else if off = 0xA08 then
    some (match (s.queue q).head?.bind s.frame with
      | some f => min (s.elapsed - f.arrive) (2 ^ 32 - 1)
      | none => 0)
  else if off = 0xA0C then some (min (s.bermUsed q) 127)
  else none

/-! The gauge (R130) -/

/-- Depth bin: 0 for 0, k for 2^(k−1) to 2^k − 1, 15 for 16,384 or more. -/
def depthBin (d : Nat) : Nat := if d = 0 then 0 else min 15 (d.log2 + 1)

/-- Head delay bin with unit 2^u ns. -/
def delayBin (u d : Nat) : Nat := if d < 2 ^ u then 0 else min 15 ((d / 2 ^ u).log2 + 1)

def State.headDelay (s : State) (q : Nat) : Nat :=
  match (s.queue q).head?.bind s.frame with
  | some f => s.elapsed - f.arrive
  | none => 0

/-- Depth and delay of a histogram slot's queue or aggregate. -/
def State.gaugeOf (s : State) (sel : Nat) : Nat × Nat :=
  let ix := bits 12 0 sel
  if bit 13 sel then
    let qs := (List.range 32).map (fun i => qIndex i (ix / 8 % 32) (ix % 8))
    ((qs.map s.refDepth).sum, (qs.map s.headDelay).foldl max 0)
  else (s.refDepth ix, s.headDelay ix)

def histRegs (h : Nat) : List Nat := (List.range 16).map (TMG_HIST_DEPTH h) ++ (List.range 16).map (TMG_HIST_DELAY h)

/-- A period boundary: written selections take effect, then each enabled slot is sampled (R130). -/
def State.gaugeSample (s : State) : State :=
  let s1 := s.tm.histPend.foldl (fun t h =>
    { t with tm := { t.tm with histSel := tset 0 t.tm.histSel h (t.rd (TMG_HIST_SEL h)) } })
    { s with tm := { s.tm with histPend := [] } }
  if s.fldB TMG_GAUGE_CTL TMG_GAUGE_CTL_en then
    s1.tm.histSel.foldl (fun t e =>
      let sel := e.2.toNat
      if bit 31 sel then
        let (d, w) := t.gaugeOf sel
        (t.bump (TMG_HIST_DEPTH e.1 (depthBin d))).bump (TMG_HIST_DELAY e.1 (delayBin (bits 18 14 sel) w))
      else t) s1
  else s1

/-! TMG registers -/

def State.gaugeCtlWrite (s : State) (v : Word) : State :=
  let s1 := s.wrPlain TMG_GAUGE_CTL v
  let s2 := if v.toNat.testBit 18 then { s1 with tm := { s1.tm with wmDepth := [], wmDelay := [] } } else s1
  if v.toNat.testBit 19 then s2.clearRegs ((List.range 64).flatMap histRegs) else s2

def State.tmgWrite (s : State) (off : Nat) (v : Word) : State :=
  let a := 0x20040000 + off
  if off = 0 then s.tmgCtlWrite v.toNat
  else if off = 0x40C then s.polCommand v.toNat
  else if 0x1000 ≤ off ∧ off < 0x1800 then s.shaperWrite ((off - 0x1000) / 8) a v
  else if off = 0x2004 then s.ttDataWrite v
  else if 0x2100 ≤ off ∧ off < 0x2480 ∧ off % 32 = 0 then s.ttCtlWrite ((off - 0x2100) / 32) v
  else if off = 0x3000 then s.gaugeCtlWrite v
  else if 0x3100 ≤ off ∧ off < 0x3200 then
    let h := (off - 0x3100) / 4
    { (s.wrPlain a v).clearRegs (histRegs h) with tm := { s.tm with histPend := s.tm.histPend.filter (· != h) ++ [h] } }
  else s.wrPlain a v

def State.tmgRead (s : State) (off : Nat) : Option Nat :=
  if 0x1800 ≤ off ∧ off < 0x1C00 then some (unsigned 32 (s.credit ((off - 0x1800) / 4) / unitsPerByte))
  else if off = 0x2004 then some s.ttDataRead
  else if off = 0x3008 then some (tget 0 s.tm.wmDepth (s.fld TMG_WM_SEL TMG_WM_SEL_index))
  else if off = 0x300C then some (tget 0 s.tm.wmDelay (s.fld TMG_WM_SEL TMG_WM_SEL_index))
  else none

end Sys2Proof.Machine
end

