-- ==== Sys2Proof/Machine/Can.lean ====
section
/-! DEFINITION. The CAN channels and the aggregator (R184–R210). What happens on the wire reaches a channel as a command: a
valid frame, an error under a rule of ISO 11898-1, the end of a transmission. -/

namespace Sys2Proof.Machine

/-- rx_frames and tx_frames wrap; every other counter saturates (R210). -/
def State.canWrap (s : State) (n k : Nat) : State := s.wr (CAN_CNT n k) (s.rd (CAN_CNT n k) + 1)

/-- Modes 5 to 7 act as 0 (R188). -/
def canModeOf (v : Nat) : Nat := if 4 < v then 0 else v

def State.canMode (s : State) (n : Nat) : Nat := canModeOf (s.fld (CAN_CTL n) CAN_CTL_mode)

def State.canSt (s : State) (n : Nat) : Nat := s.fld (CAN_STATUS n) CAN_STATUS_state

def State.setCanSt (s : State) (n st : Nat) : State := s.setFld (CAN_STATUS n) CAN_STATUS_state st

/-- The channel takes part in the bus: error active or error passive. -/
def State.canPart (s : State) (n : Nat) : Bool := s.canSt n == 2 || s.canSt n == 3

def State.xlEn (s : State) (n : Nat) : Bool := decide (n < 8) && s.fldB (CAN_FD_CFG n) CAN_FD_CFG_xl_en

def State.fdEn (s : State) (n : Nat) : Bool := s.fldB (CAN_FD_CFG n) CAN_FD_CFG_fd_en

/-! Records and the transmit side (R201–R204, R207) -/

/-- Identifier bits that the record's format uses. -/
def recIdBits (r : List Byte) : Nat := if recIde r then recId r else recId r % 2048

/-- The arbitration key of R203: the lower value wins. -/
def recKey (r : List Byte) : Nat :=
  let rtr := boolNat (recRtr r && recFmt r == 0)
  if recIde r then recId r / 2 ^ 18 * 2 ^ 21 + 2 ^ 20 + 2 ^ 19 + recId r % 2 ^ 18 * 2 + rtr
  else recId r % 2048 * 2 ^ 21 + rtr * 2 ^ 20

def CanChan.buf (c : CanChan) (b : Nat) : List Byte := tget [] c.bufs b

def CanChan.loaded (c : CanChan) (b : Nat) : Bool := !(c.buf b).isEmpty

/-- Transmit pool blocks in use. -/
def CanChan.txBlocks (c : CanChan) : Nat := (c.backlog.map recBlocks).sum + (c.bufs.map (fun e => recBlocks e.2)).sum

/-- A frame enters the backlog after every entry whose key is not higher (R202). -/
def keyInsert (l : List (List Byte)) (r : List Byte) : List (List Byte) :=
  let later := (l.reverse.takeWhile (fun x => recKey r < recKey x)).reverse
  l.take (l.length - later.length) ++ [r] ++ later

/-- The buffer that the channel offers at bus idle (R203). -/
def CanChan.offered (c : CanChan) (order : Bool) : Option Nat :=
  let ls := (List.range 3).filter c.loaded
  if order then ls.head?
  else ls.foldl (fun best b => match best with
    | none => some b
    | some a => if recKey (c.buf b) < recKey (c.buf a) then some b else some a) none

/-- A buffer takes a frame, or becomes empty; its earlier frame is not on the bus any more. -/
def State.setBuf (s : State) (n b : Nat) (r : List Byte) : State :=
  let c := s.chan n
  s.setChan n { c with
    bufs := tset [] c.bufs b r, lateCancel := c.lateCancel.filter (· != b)
    onBus := if c.onBus = some b then none else c.onBus }

/-- A buffer's frame ends with a result (R207). -/
def State.txEnd (s : State) (n b result : Nat) : State := (s.setBuf n b []).setFld (CAN_TXB_STATUS n b) CAN_TXB_STATUS_result result

def State.collRun (s : State) (n b : Nat) : Nat := s.fld (CAN_TXB_STATUS n b) CAN_TXB_STATUS_coll_run

def State.setColl (s : State) (n b k : Nat) : State := s.setFld (CAN_TXB_STATUS n b) CAN_TXB_STATUS_coll_run k

/-- A frame is cancelled: TX_CANCELLED (R204, R206). -/
def State.txCancelled (s : State) (n b : Nat) : State := ((s.txEnd n b 2).setColl n b 0).canCount n 6

/-- A buffer loads a frame. -/
def State.loadBuf (s : State) (n b : Nat) (r : List Byte) : State :=
  ((s.setBuf n b r).setColl n b 0).wr (CAN_TXB_ID n b)
    (BitVec.ofNat 32 (recIdBits r + boolNat (recIde r) * 2 ^ 29 + recFmt r * 2 ^ 30))

/-- The backlog is emptied; its entries count in tx_flushed (R204, R207). -/
def State.emptyBacklog (s : State) (n : Nat) : State :=
  let c := s.chan n
  (s.bump (CAN_CNT n 18) c.backlog.length).setChan n { c with backlog := [] }

/-- The safe-state record of a channel takes TXB0 as soon as it is empty (R77, R207). -/
def State.loadSafe (s : State) (n : Nat) : State :=
  match s.wrd.safeCan.find? (fun e => e.1 == n) with
  | some (_, r) =>
    if (s.chan n).loaded 0 then s
    else ({ s with wrd := { s.wrd with safeCan := s.wrd.safeCan.filter (fun e => e.1 != n) } }).loadBuf n 0 r
  | none => s

/-- Every loaded frame that is not on the bus ends with TX_FLUSHED, and the backlog is emptied (R207). -/
def State.flushTx (s : State) (n : Nat) : State :=
  ((List.range 3).foldl (fun t b =>
    if (t.chan n).loaded b ∧ (t.chan n).onBus ≠ some b then (t.txEnd n b 5).canCount n 18 else t) s).emptyBacklog n

/-! The point of no return (R186, R204) -/

/-- Arbitration bits of a frame from start of frame to its RTR or RRS bit; false is dominant. -/
def arbBits (r : List Byte) : List Bool :=
  let field (hi lo : Nat) : List Bool := ((List.range (hi + 1 - lo)).map (fun k => (recId r).testBit (hi - k)))
  let last := recRtr r && recFmt r == 0
  if recIde r then false :: field 28 18 ++ [true, true] ++ field 17 0 ++ [last] else false :: field 10 0 ++ [last]

/-- Stuff bits sent before the last bit of a list: one after each run of five equal bits, a stuff bit being part of the next
run. -/
def stuffBits : Bool → Nat → List Bool → Nat
  | _, _, [] => 0
  | last, run, b :: rest =>
    if run = 5 then 1 + stuffBits b (if b = last then 1 else 2) rest
    else stuffBits b (if b = last then run + 1 else 1) rest

/-- From the start-of-frame edge to the sample of a frame's last arbitration bit, in units of 12.5 ns. -/
def State.pDelay (s : State) (n : Nat) (r : List Byte) : Nat :=
  let f (x : Fld) : Nat := s.fld (CAN_NBT n) x + 1
  let quanta := 1 + f CAN_NBT_tseg1 + f CAN_NBT_tseg2
  let bits := arbBits r
  f CAN_NBT_brp * ((bits.length - 1 + stuffBits false 0 bits) * quanta + 1 + f CAN_NBT_tseg1)

/-- The frame of a buffer is on the bus, and has reached its point of no return. -/
def State.pastP (s : State) (n b : Nat) : Bool :=
  let c := s.chan n
  (c.onBus == some b) && decide (c.since * 10 + 125 * s.pDelay n (c.buf b) ≤ s.elapsed * 10)

/-- CAN_TXB_STATUS.state of a buffer. -/
def State.txState (s : State) (n b : Nat) : Nat :=
  let c := s.chan n
  if !c.loaded b then 0 else if c.onBus ≠ some b then 1 else if s.pastP n b then 3 else 2

/-- A cancel registers (R204); a frame on the bus before P is withdrawn, and the channel is a receiver from then on (R205). -/
def State.cancel (s : State) (n b : Nat) : State :=
  let c := s.chan n
  if !c.loaded b then s
  else if s.pastP n b then
    ((s.setFld (CAN_TXB_STATUS n b) CAN_TXB_STATUS_cancel_late 1).canCount n 7).setChan n
      { c with lateCancel := b :: c.lateCancel.filter (· != b) }
  else if c.onBus = some b then
    let s1 := s.txCancelled n b
    (s1.setChan n { s1.chan n with sender := false, rxSof := some c.sof }).out (.canWithdrawn n)
  else s.txCancelled n b

/-- CAN_TX_CTL.flush cancels the three buffers and empties the backlog (R204). -/
def State.canFlush (s : State) (n : Nat) : State := ((List.range 3).foldl (fun t b => t.cancel n b) s).emptyBacklog n

/-- A record is refused (R201). -/
def State.txRefuse (s : State) (n : Nat) : State :=
  ((s.canCount n 10).setFld (CAN_STATUS n) CAN_STATUS_tx_refused 1).raiseLim 0x090B 2 n

def State.backlogDrop (s : State) (n : Nat) : State := (s.canCount n 8).raiseLim 0x0906 2 n

/-- A record enters the backlog (R202). -/
def State.canEnqueue (s : State) (n : Nat) (r : List Byte) : State :=
  let c := s.chan n
  let same (w : List Byte) : Bool := recIdBits w == recIdBits r && recIde w == recIde r && recFmt w == recFmt r
  if recReplace r ∧ c.backlog.any same then
    s.setChan n { c with backlog := c.backlog.modify (c.backlog.findIdx same) (fun _ => r) }
  else if 256 < c.txBlocks + recBlocks r then s.backlogDrop n
  else if c.backlog.length < 64 then s.setChan n { c with backlog := keyInsert c.backlog r }
  else
    match c.backlog.getLast? with
    | some w =>
      if recKey r < recKey w then
        ((s.canCount n 9).setChan n { c with backlog := keyInsert c.backlog.dropLast r }).raiseLim 0x0906 2 n
      else s.backlogDrop n
    | none => s

/-- Length that an FD record is padded to (R201). -/
def fdLen (n : Nat) : Nat := ([12, 16, 20, 24, 32, 48, 64].find? (fun k => decide (n ≤ k))).getD 64

/-- The record with FD padding, cut to its own length (R196, R201). -/
def State.padRecord (s : State) (n : Nat) (r : List Byte) : List Byte :=
  let len := recLen r
  let k := if recFmt r = 1 ∧ 8 < len then fdLen len else len
  let data := padTo (if recFmt r = 0 ∧ recRtr r then 0 else len) (r.drop 32)
  let fill : Byte := BitVec.ofNat 8 (s.fld (CAN_FD_CFG n) CAN_FD_CFG_pad_byte)
  recSet (padTo 32 r) 0 (recWord r 0 - len * 65536 + k * 65536) ++ data ++ List.replicate (k - len) fill

/-- Whether the checks of R201 accept a record for a channel. -/
def State.txOk (s : State) (n : Nat) (r : List Byte) : Bool :=
  let len := recLen r
  decide (s.canMode n ≠ 0) &&
    (match recFmt r with
     | 0 => decide (len ≤ 8)
     | 1 => s.fdEn n && decide (len ≤ 64)
     | 2 => s.xlEn n && !recIde r && decide (1 ≤ len ∧ len ≤ 2048)
     | _ => false)

def State.canTx (s : State) (n : Nat) (r : List Byte) : State :=
  if s.txOk n r then s.canEnqueue n (s.padRecord n r) else s.txRefuse n

/-- The aggregator takes a record from the staging buffer of sp30 (R201). -/
def State.aggTx (s : State) : State :=
  match s.stagedAt 30 with
  | [] => s
  | f :: rest =>
    let t := { s with sw := { s.sw with staged := tset [] s.sw.staged 30 rest } }
    let n := recChannel f.data
    if 24 ≤ n then t.raiseLim 0x090B 2 n else t.canTx n f.data

/-- The record of the register transmit path; its channel field is ignored (R209). -/
def State.txrRecord (s : State) (n : Nat) : List Byte :=
  let ws (f : Nat → Nat) (k : Nat) : List Byte := (List.range k).flatMap (fun i => leBytes 4 (s.rd (f i)).toNat)
  let r := ws (CAN_TXR n) 8 ++ ws (CAN_TXR_DATA n) 16
  recSet r 0 (recWord r 0 - recChannel r + n)

def State.submit (s : State) (n : Nat) : State :=
  let r := s.txrRecord n
  if 64 < recLen r then s.txRefuse n else s.canTx n r

/-- The backlog head moves into the lowest empty buffer; in identifier order a loaded frame of higher key that has not
started goes back for it (R203). -/
def State.toBuffer (s : State) (n : Nat) : State :=
  let c := s.chan n
  match c.backlog with
  | [] => s
  | h :: rest =>
    match (List.range 3).find? (fun b => !c.loaded b) with
    | some b => (s.setChan n { c with backlog := rest }).loadBuf n b h
    | none =>
      let worst := ((List.range 3).filter (fun b => c.onBus != some b)).foldl (fun w b => match w with
        | none => some b
        | some a => if recKey (c.buf a) ≤ recKey (c.buf b) then some b else some a) (none : Option Nat)
      match worst with
      | some b =>
        if !s.fldB (CAN_CTL n) CAN_CTL_tx_order ∧ recKey h < recKey (c.buf b) then
          (s.setChan n { c with backlog := keyInsert rest (c.buf b) }).loadBuf n b h
        else s
      | none => s

/-! Error counters and states (R189) -/

def State.canTec (s : State) (n : Nat) : Nat := s.fld (CAN_ERR n) CAN_ERR_tec
def State.canRec (s : State) (n : Nat) : Nat := s.fld (CAN_ERR n) CAN_ERR_rec

/-- The channel goes off: the transmit side is flushed, the counters cleared, the transceiver put in standby (R188). -/
def State.canOff (s : State) (n : Nat) : State :=
  let s1 := ((s.setChan n { s.chan n with onBus := none, sender := false, rxSof := none }).flushTx n).setFld (CAN_ERR n) CAN_ERR_tec 0
  let s2 := ((s1.setFld (CAN_ERR n) CAN_ERR_rec 0).setFld (CAN_STATUS n) CAN_STATUS_rec_seq 0).setCanSt n 0
  let s3 := s2.setChan n { s2.chan n with mode := 0, change := none }
  s3.enterStandby n

/-- A frame that failed by an error ends, or stays for another attempt (R203, R204). -/
def State.txFailed (s : State) (n b : Nat) : State :=
  if (s.chan n).lateCancel.contains b then s.txCancelled n b
  else if s.fldB (CAN_CTL n) CAN_CTL_dar then s.txEnd n b 4
  else s

/-- Bus-off; a pending write of mode 0 takes effect at once (R188, R189). The frame on the bus has failed by the error that led
here (R203, R204). -/
def State.busOff (s : State) (n : Nat) : State :=
  let st := if s.fldB (CAN_CTL n) CAN_CTL_boff_mode then 4 else 5
  let s1 := ((((s.setCanSt n st).setFld (CAN_ERR n) CAN_ERR_tec 255).setFld (CAN_STATUS n) CAN_STATUS_rec_seq 0).canCount n
    12).raise 0x0901 3 n
  let s2 := s1.setChan n { s1.chan n with onBus := none, sender := false, rxSof := none }
  let s3 := match (s.chan n).onBus with | some b => s2.txFailed n b | none => s2
  if (s3.chan n).change = some 0 then s3.canOff n else s3

/-- The counters take new values; error passive, its end, and bus-off follow from them. -/
def State.setCounters (s : State) (n tec rec : Nat) : State :=
  let s1 := (s.setFld (CAN_ERR n) CAN_ERR_tec (min tec 255)).setFld (CAN_ERR n) CAN_ERR_rec (min rec 255)
  if 256 ≤ tec then s1.busOff n
  else if 128 ≤ tec ∨ 128 ≤ rec then
    if s.canSt n = 2 then ((s1.setCanSt n 3).canCount n 13).raise 0x0903 2 n else s1
  else if s.canSt n = 3 then (s1.setCanSt n 2).raise 0x0904 0 n
  else s1

/-- The counters do not change in modes 2 and 3 (R188). -/
def State.counting (s : State) (n : Nat) : Bool := (s.chan n).mode == 1 || (s.chan n).mode == 4

/-- A frame received without error: REC goes down by one; above 127 it takes a value from 119 to 127, which ISO 11898-1
leaves open. -/
def State.recGood (s : State) (n : Nat) : State :=
  if !s.counting n then s
  else if 127 < s.canRec n then
    let (k, t) := s.freeIx
    t.setCounters n (t.canTec n) (119 + Config.recAfterPassive k % 9)
  else s.setCounters n (s.canTec n) (s.canRec n - 1)

def State.tecGood (s : State) (n : Nat) : State := if s.counting n then s.setCounters n (s.canTec n - 1) (s.canRec n) else s

def State.noteErr (s : State) (n kind : Nat) (dataPhase : Bool) : State :=
  (s.setFld (CAN_ERR n) CAN_ERR_last_err kind).setFld (CAN_ERR n) CAN_ERR_last_err_data (boolNat dataPhase)

/-- With transceiver mode switching, error signalling is disabled in the data phase of an XL frame (R184); in loopback TXD is held
recessive (R188). -/
def State.signals (s : State) (n : Nat) (xl dataPhase : Bool) : Bool :=
  (s.chan n).mode != 4 && !(xl && dataPhase && s.fldB (CAN_XPWM n) CAN_XPWM_trx_fast)

/-- A detected error acts on the counters by its rule of ISO 11898-1. A channel is the transmitter from its start of frame on, in
its own error or overload flag as well; one that sends no frame, or has withdrawn its own, counts as a receiver (R205). -/
def State.canError (s : State) (n : Nat) (e : CanError) : State :=
  if !s.canPart n then s
  else
    let s0 := s.noteErr n e.kind.val e.dataPhase
    let s1 := s0.setChan n { s0.chan n with rxSof := none }
    if !s.counting n then s1
    else
      let s2 := if e.flag ∧ s.signals n e.xl e.dataPhase then (s1.canCount n 15).out (.canError n) else s1
      match e.rule with
      | .receiver => s2.setCounters n (s2.canTec n) (s2.canRec n + 1)
      | .receiver8 => s2.setCounters n (s2.canTec n) (s2.canRec n + 8)
      | .transmitter =>
        if (s.chan n).sender then s2.setCounters n (s2.canTec n + 8) (s2.canRec n)
        else s2.setCounters n (s2.canTec n) (s2.canRec n + 1)
      | .exempt => s2

/-- The participation that integration leads to: error active after mode 0, else by the counters held. -/
def State.integrated (s : State) (n : Nat) : State :=
  if s.canSt n = 1 then s.setCanSt n (if 128 ≤ s.canTec n ∨ 128 ≤ s.canRec n then 3 else 2) else s

/-! Modes (R188) -/

/-- A pending or held mode takes effect. -/
def State.canApply (s : State) (n m : Nat) : State :=
  let c := s.chan n
  if m = 0 then s.canOff n
  else
    let s1 := s.setChan n { c with mode := m, change := none }
    if m = 4 ∨ c.mode = 4 then s1.setCanSt n 1 else s1

/-- A mode has been requested by a write of CAN_CTL.mode. Outside full operation a channel stays in standby (R56, R67, R80). -/
def State.canRequest (s : State) (n m : Nat) : State :=
  let c := s.chan n
  let change := if m = c.mode then none else some m
  match s.canSt n with
  | 0 =>
    if m = 0 ∨ s.dev.state ≠ .full then s
    else
      let s1 := (s.setChan n { c with mode := m, change := none }).setCanSt n 1
      s1.setBank { s1.bank with decoding := s1.bank.decoding.filter (· != n) }
  | 1 => if m = 0 then s.canOff n else s.setChan n { c with mode := m, change := none }
  | 2 | 3 => s.setChan n { c with change := change }
  | _ => if m = 0 then s.canOff n else s.setChan n { c with change := change }

/-- A channel in mode 1 or 4 that takes part starts the frame that it offers, but not while the bus is stuck (R190, R203). -/
def State.canStart (s : State) (n : Nat) : State :=
  let c := s.chan n
  if s.canPart n && s.counting n && !s.fldB (CAN_STATUS n) CAN_STATUS_bus_stuck then
    match c.offered (s.fldB (CAN_CTL n) CAN_CTL_tx_order) with
    | some b => s.setChan n { c with onBus := some b, since := s.elapsed, sof := s.tide.toNat, sender := true }
    | none => s
  else s

/-- The channel sees its bus idle: a pending change takes effect, and the frame offered starts (R188, R203). While the channel
sends a frame its bus is not idle. -/
def State.canIdle (s : State) (n : Nat) : State :=
  if (s.chan n).onBus.isSome then s
  else
    let s1 := s.setChan n { s.chan n with sender := false, rxSof := none }
    match (s1.chan n).change with
    | some m => if s1.canPart n then (s1.canApply n m).canStart n else s1
    | none => s1.canStart n

/-- Recovery counts `k` further occurrences of 11 recessive bits, and completes with the 128th (R189). -/
def State.recovered (s : State) (n k : Nat) : State :=
  if s.canSt n = 5 then
    let seqs := min 128 (s.fld (CAN_STATUS n) CAN_STATUS_rec_seq + k)
    let s0 := s.setFld (CAN_STATUS n) CAN_STATUS_rec_seq seqs
    if seqs < 128 then s0
    else
      let s1 := ((s0.setFld (CAN_ERR n) CAN_ERR_tec 0).setFld (CAN_ERR n) CAN_ERR_rec 0).setCanSt n 2
      let s2 := s1.raise 0x0902 0 n
      match (s2.chan n).change with
      | some m => s2.canApply n m
      | none => s2
  else s

def State.cfgRefuse (s : State) (n : Nat) : State := (s.setFld (CAN_STATUS n) CAN_STATUS_cfg_refused 1).raise 0x090C 2 n

/-- Configuration registers take a write only while the mode is 0 and the channel off (R187). -/
def State.cfgOpen (s : State) (n : Nat) : Bool := s.canMode n == 0 && s.canSt n == 0

def State.canCtlWrite (s : State) (n : Nat) (v : Word) : State :=
  let a := CAN_CTL n
  let old := s.fld a CAN_CTL_rxq_mode
  let changes := CAN_CTL_rxq_mode.get v != old
  let s1 := s.wrPlain a v
  let s2 := if changes && !s.cfgOpen n then (s1.setFld a CAN_CTL_rxq_mode old).cfgRefuse n else s1
  let s3 := s2.canRequest n (s2.canMode n)
  if CAN_CTL_recover.get v = 1 ∧ s3.canSt n = 4 ∧ s3.fldB a CAN_CTL_boff_mode then
    (s3.setCanSt n 5).setFld (CAN_STATUS n) CAN_STATUS_rec_seq 0
  else s3

/-! Reception (R191–R196) -/

/-- Whether a filter element hits an identifier (R192). -/
def fltHit (w0 w1 : Nat) (ide : Bool) (id : Nat) : Bool :=
  let m := if ide then 2 ^ 29 else 2048
  let i1 := w0 % m
  let i2 := w1 % m
  bit 29 w0 == ide &&
    (match bits 31 30 w0 with
     | 0 => false
     | 1 => decide (i1 ≤ id ∧ id ≤ i2)
     | 2 => id == i1 || id == i2
     | _ => Nat.land id i2 == Nat.land i1 i2)

def CanChan.fltWord (c : CanChan) (e w : Nat) : Nat := (tget 0 c.flt (2 * e + w)).toNat

/-- The queue that the filter list names, with the element; none rejects (R192). -/
def State.canFilter (s : State) (n : Nat) (ide : Bool) (id : Nat) : Option (Nat × Option Nat) :=
  let c := s.chan n
  match (List.range (s.fld (CAN_FLT_LEN n) CAN_FLT_LEN_len)).find? (fun e => fltHit (c.fltWord e 0) (c.fltWord e 1) ide id) with
  | some e =>
    match bits 31 30 (c.fltWord e 1) with
    | 0 => some (1, some e)
    | 1 => some (0, some e)
    | _ => none
  | none =>
    match s.fld (CAN_CTL n) CAN_CTL_flt_default with
    | 1 => some (1, none)
    | 2 => some (0, none)
    | _ => none

/-- Data length of a received frame (R196). -/
def canLen (f : CanFrame) : Nat := if f.fmt = 0 then min f.dlc 8 else f.dlc

/-- The record of a received frame (R196). -/
def canRecord (f : CanFrame) (n q sof : Nat) (elem : Option Nat) : List Byte :=
  let xl := f.fmt.val == 2
  let ide := f.ide && !xl
  let rtr := f.rtr && f.fmt.val == 0
  let w0 := n + q * 2 ^ 5 + f.fmt.val * 2 ^ 6 + boolNat ide * 2 ^ 8 + boolNat rtr * 2 ^ 9 +
    boolNat (f.brs && f.fmt.val == 1) * 2 ^ 10 + boolNat (f.esi && f.fmt.val == 1) * 2 ^ 11 + canLen f % 4096 * 2 ^ 16
  let w4 := if xl then f.sdt % 256 + f.vcid % 256 * 2 ^ 8 + boolNat f.sec * 2 ^ 16 else 0
  let w6 := match elem with
    | some e => e
    | none => 2 ^ 9
  leBytes 4 w0 ++ leBytes 4 (if ide then f.id % 2 ^ 29 else f.id % 2048) ++ leBytes 8 sof ++ leBytes 4 w4 ++
    leBytes 4 (if xl then f.af % 2 ^ 32 else 0) ++ leBytes 4 w6 ++ leBytes 4 0 ++ (if rtr then [] else padTo (canLen f) f.data)

/-- A frame is lost for a full queue or pool (R194). -/
def State.rxLost (s : State) (n q : Nat) : State :=
  ((s.canCount n 1).setFld (CAN_RXQ_STATUS n) (if q = 0 then CAN_RXQ_STATUS_q0_lost else CAN_RXQ_STATUS_q1_lost) 1).raiseLim
    0x0905 2 n

/-- A valid frame: remote frame rule, filter, entry into its queue (R191). -/
def State.canTake (s : State) (n : Nat) (f : CanFrame) (sof : Nat) : State :=
  let ide := f.ide && f.fmt.val != 2
  if f.fmt.val = 0 ∧ f.rtr ∧ s.fldB (CAN_CTL n) CAN_CTL_rrf_rej then s.canCount n 2
  else match s.canFilter n ide (if ide then f.id % 2 ^ 29 else f.id % 2048) with
    | none => s.canCount n 2
    | some (q, elem) =>
      let c := s.chan n
      let r := canRecord f n q sof elem
      let e : CanEntry := { no := c.nextNo, record := r }
      if 64 ≤ (if q = 0 then c.rxq0 else c.rxq1).length ∨ 256 < c.rxBlocks + recBlocks r then s.rxLost n q
      else if q = 0 then (s.setChan n { c with rxq0 := c.rxq0 ++ [e], nextNo := c.nextNo + 1 }).canWrap n 0
      else (s.setChan n { c with rxq1 := c.rxq1 ++ [e], nextNo := c.nextNo + 1 }).canWrap n 0

/-- A frame of another node becomes valid, and is acknowledged in modes 1 and 2 (R188, R191). One of a format that is not
enabled is a protocol exception (R184, R209). Its timestamp is the tide clock at its start-of-frame edge (R185): the one of the
channel's own attempt where it lost arbitration or withdrew, else the edge that lies the frame's age back. -/
def State.canReceive (s : State) (n : Nat) (f : CanFrame) : State :=
  if !s.canPart n ∨ (s.chan n).mode = 4 then s
  else
    let c := s.chan n
    let s0 := s.setChan n { c with sender := false, rxSof := none }
    if (f.fmt.val = 1 ∧ !s.fdEn n) ∨ (f.fmt.val = 2 ∧ !s.xlEn n) then
      if s.fldB (CAN_CTL n) CAN_CTL_pex then s0.canCount n 17 else s0
    else
      let s1 := if c.mode ≤ 2 then s0.out (.canAck n) else s0
      (s1.recGood n).canTake n f (c.rxSof.getD (s.tide - BitVec.ofNat 64 f.age).toNat)

/-- A transmitted frame as the channel itself receives it in loopback (R188), with the channel's own error state. -/
def recFrame (r : List Byte) (esi : Bool) : CanFrame :=
  { fmt := ⟨recFmt r % 3, Nat.mod_lt _ (by decide)⟩, ide := recIde r, rtr := recRtr r, brs := bit 10 (recWord r 0), esi := esi
    dlc := recLen r, id := recId r, data := r.drop 32, sdt := bits 7 0 (recWord r 4), vcid := bits 15 8 (recWord r 4)
    sec := bit 16 (recWord r 4), af := recWord r 5 }

/-- CAN_FLT_DATA1: both words apply to the element at index, which then goes on (R193). -/
def State.fltWriteElem (s : State) (n : Nat) (v : Word) : State :=
  let c := s.chan n
  let i := s.fld (CAN_FLT_ADDR n) CAN_FLT_ADDR_index
  (s.setChan n { c with flt := tset 0 (tset 0 c.flt (2 * i) c.fltStaged) (2 * i + 1) (v &&& 0xDFFFFFFF#32) }).setFld
    (CAN_FLT_ADDR n) CAN_FLT_ADDR_index ((i + 1) % 512)

/-- Two-phase removal in register mode (R195). -/
def State.rxqAck (s : State) (n : Nat) (v : Nat) : State :=
  if s.fldB (CAN_CTL n) CAN_CTL_rxq_mode then
    let c := s.chan n
    s.setChan n { c with rxq0 := if bit 0 v then c.rxq0.drop 1 else c.rxq0, rxq1 := if bit 1 v then c.rxq1.drop 1 else c.rxq1 }
  else s

/-! Transmission on the bus (R203–R206) -/

/-- A frame as the channel sends it: its esi bit is the channel's own error state (R196). -/
def State.ownEsi (s : State) (n : Nat) (r : List Byte) : List Byte :=
  recSet r 0 (withBit (recWord r 0) 11 (recFmt r == 1 && s.canSt n == 3))

/-- The frame that the channel sends leaves the bus (R203, R204). -/
def State.canTxEnd (s : State) (n : Nat) (o : TxOutcome) : State :=
  let c := s.chan n
  match c.onBus with
  | none => s
  | some b =>
    let s0 := s.setChan n { c with onBus := none }
    match o with
    | .done =>
      let r := s.ownEsi n (c.buf b)
      let s1 := (((s0.txEnd n b 1).setColl n b 0).wr64 (CAN_TXB_TS_LO n b) (CAN_TXB_TS_HI n b) c.sof).canWrap n 5
      if c.mode = 4 then (s1.tecGood n).canTake n (recFrame r (s.canSt n == 3)) c.sof
      else (s1.tecGood n).out (.canFrame n r)
    | .lostArbitration =>
      let s1 := s0.setChan n { s0.chan n with sender := false, rxSof := some c.sof }
      if s.fldB (CAN_CTL n) CAN_CTL_dar then s1.txEnd n b 4 else s1
    | .failed => s0.txFailed n b

/-- An identifier collision of the frame that the channel sends, after P (R206). -/
def State.collision (s : State) (n : Nat) (dataPhase : Bool) : State :=
  let c := s.chan n
  match c.onBus with
  | none => s
  | some b =>
    if !s.pastP n b ∨ c.mode = 4 then s
    else
      let k := s.collRun n b
      let s0 := ((s.setChan n { c with onBus := none }).noteErr n 4 dataPhase)
      let s1 := (s0.canCount n 11).raiseLim 0x0907 1 n
      let s2 := s1.setColl n b (min 3 (k + 1))
      let s3 := if s.signals n (recFmt (c.buf b) == 2) dataPhase then
          ((s2.canCount n 15).out (.canError n)).setCounters n (s.canTec n + 8) (s.canRec n)
        else s2
      let s4 := if k = 2 then (s3.setFld (CAN_STATUS n) CAN_STATUS_collide_fault 1).raise 0x0908 4 n else s3
      if k = 2 ∧ s.fldB (CAN_CTL n) CAN_CTL_coll_stop ∧ !c.lateCancel.contains b then s4.txEnd n b 3
      else s4.txFailed n b

def State.busStuck (s : State) (n : Nat) : State :=
  if s.canSt n = 0 then s
  else ((s.setFld (CAN_STATUS n) CAN_STATUS_bus_stuck 1).canCount n 14).raise 0x090A 4 n

/-! The aggregator's receive side (R198–R200) -/

/-- The next entry of a queue class that the aggregator hands over, round-robin by channel. -/
def State.aggNext (s : State) (q0 : Bool) (start : Nat) : Option (Nat × CanEntry) :=
  ((List.range 24).map (fun i => (start + i) % 24)).findSome? (fun n =>
    if s.fldB (CAN_CTL n) CAN_CTL_rxq_mode then none
    else ((if q0 then (s.chan n).rxq0 else (s.chan n).rxq1).find? (fun e => !e.taken)).map (fun e => (n, e)))

/-- The binding word of a received record; none where no binding exists (R198, R213, R215). -/
def State.canBinding (s : State) (n : Nat) (r : List Byte) : Option Nat :=
  let w := if recIde r then s.trieLookup (4 * 2 ^ 60 + n * 2 ^ 55 + recId r * 2 ^ 26) 4
    else some (s.mem32 (0x30480000 + 4 * (n * 2048 + recId r % 2048)))
  w.bind (fun x => if bit 0 x then some x else none)

def markTaken (l : List CanEntry) (no : Nat) : List CanEntry := l.map (fun e => if e.no = no then { e with taken := true } else e)

/-- An entry goes to the keepers, with owner_err set where the binding names another owner (R198, R200). -/
def State.aggSend (s : State) (n q : Nat) (e : CanEntry) (w : Nat) : State :=
  let c := s.chan n
  let s1 := s.setChan n { c with rxq0 := markTaken c.rxq0 e.no, rxq1 := markTaken c.rxq1 e.no }
  let bad := bit 11 w && bits 16 12 w != n
  let s2 := if bad then ((s1.canCount n 4).setFld (CAN_STATUS n) CAN_STATUS_owner_err 1).raiseLim 0x0909 3 n else s1
  let data := if bad then recSet e.record 0 (withBit (recWord e.record 0) 13 true) else e.record
  s2.sendInternal { input := 30, kind := .canRecord, data := data, routine := some (bits 10 1 w, bits 31 17 w)
                    tc := s.fld (CAN_AGG_CFG n) (if q = 0 then CAN_AGG_CFG_tc_q0 else CAN_AGG_CFG_tc_q1)
                    canEntry := some (n, e.no), ts := leNat (slice 8 8 e.record) } (2 ^ 28)

def State.aggTake (s : State) (n q : Nat) (e : CanEntry) : State :=
  match s.canBinding n e.record with
  | some w => s.aggSend n q e w
  | none => ((s.canCount n 3).raiseLim 0x090D 1 n).canFree n e.no

def State.aggHandoff (s : State) : State :=
  match s.aggNext true s.can.rr0 with
  | some (n, e) => { s with can := { s.can with rr0 := (n + 1) % 24 } }.aggTake n 0 e
  | none =>
    match s.aggNext false s.can.rr1 with
    | some (n, e) => { s with can := { s.can with rr1 := (n + 1) % 24 } }.aggTake n 1 e
    | none => s

/-! Registers (R209, R210) -/

def State.canWrite (s : State) (n off : Nat) (v : Word) : State :=
  let a := CAN_CTL n + off
  if off = 0x0000 then s.canCtlWrite n v
  else if 0x0010 ≤ off ∧ off ≤ 0x0020 then
    if 8 ≤ n ∧ (off = 0x0018 ∨ off = 0x001C) then s
    else if !s.cfgOpen n then s.cfgRefuse n
    else if 8 ≤ n ∧ off = 0x0020 then (s.wrPlain a v).setFld a CAN_FD_CFG_xl_en 0
    else s.wrPlain a v
  else if off = 0x0044 then s.setChan n { s.chan n with fltStaged := v }
  else if off = 0x0048 then s.fltWriteElem n v
  else if off = 0x0068 then s.rxqAck n v.toNat
  else if off = 0x0074 then if bit 0 v.toNat then (s.canFlush n).loadSafe n else s
  else if off = 0x0110 ∨ off = 0x0130 ∨ off = 0x0150 then
    if bit 0 v.toNat then (s.cancel n ((off - 0x0110) / 0x20)).loadSafe n else s
  else if off = 0x01E0 then if bit 0 v.toNat then s.clearRegs ((List.range 19).map (CAN_CNT n)) else s
  else if off = 0x0260 then if bit 0 v.toNat then s.submit n else s
  else s.wrPlain a v

/-- The head record that the register windows show (R195). -/
def State.rxHead (s : State) (n : Nat) : List Byte :=
  let c := s.chan n
  (((if s.fldB (CAN_RXQ_SEL n) CAN_RXQ_SEL_q then c.rxq1 else c.rxq0).head?).map CanEntry.record).getD []

def State.canRead (s : State) (n off : Nat) : Option Nat :=
  let c := s.chan n
  let pool (used : Nat) : Nat := if n < 8 then 256 - used else 0
  let base (a : Nat) : Nat := (s.rd a).toNat
  if off = 0x0044 then some (c.fltWord (s.fld (CAN_FLT_ADDR n) CAN_FLT_ADDR_index) 0)
  else if off = 0x0048 then some (c.fltWord (s.fld (CAN_FLT_ADDR n) CAN_FLT_ADDR_index) 1)
  else if off = 0x0060 then
    some (c.rxq0.length + c.rxq1.length * 2 ^ 8 + bits 17 16 (base (CAN_RXQ_STATUS n)) * 2 ^ 16 + pool c.rxBlocks * 2 ^ 18)
  else if off = 0x0070 then some (c.backlog.length + pool c.txBlocks * 2 ^ 8)
  else if off = 0x0100 ∨ off = 0x0120 ∨ off = 0x0140 then
    let b := (off - 0x0100) / 0x20
    some (CAN_TXB_STATUS_state.put (s.rd (CAN_TXB_STATUS n b)) (s.txState n b)).toNat
  else if 0x0400 ≤ off ∧ off < 0x0420 then some (leNat (slice (off - 0x0400) 4 (s.rxHead n)))
  else if 0x0800 ≤ off ∧ off < 0x1000 then some (leNat (slice (off - 0x0800) 4 ((s.rxHead n).drop 32)))
  else none

/-! The rows of the table that no register write makes -/

def execCanModeChange (n : Fin 24) (s : State) : Host.Outcome State Fault Refusal := .next (s.canIdle n.val)
def execCanIntegrationDone (n : Fin 24) (s : State) : Host.Outcome State Fault Refusal := .next (s.integrated n.val)
def execCanFrameReceived (n : Fin 24) (f : CanFrame) (s : State) : Host.Outcome State Fault Refusal :=
  .next (s.canReceive n.val f)
def execCanError (n : Fin 24) (e : CanError) (s : State) : Host.Outcome State Fault Refusal := .next (s.canError n.val e)
def execBusOffRecovered (n : Fin 24) (seqs : Fin 129) (s : State) : Host.Outcome State Fault Refusal :=
  .next (s.recovered n.val seqs.val)
def execBusStuck (n : Fin 24) (s : State) : Host.Outcome State Fault Refusal := .next (s.busStuck n.val)
def execBusStuckEnd (n : Fin 24) (s : State) : Host.Outcome State Fault Refusal :=
  .next (s.setFld (CAN_STATUS n.val) CAN_STATUS_bus_stuck 0)
def execAggregatorHandoff (s : State) : Host.Outcome State Fault Refusal := .next s.aggHandoff
def execAggregatorTxRecord (s : State) : Host.Outcome State Fault Refusal := .next s.aggTx
def execBacklogToBuffer (n : Fin 24) (s : State) : Host.Outcome State Fault Refusal := .next (s.toBuffer n.val)
def execCanTxEnd (n : Fin 24) (o : TxOutcome) (s : State) : Host.Outcome State Fault Refusal :=
  .next ((s.canTxEnd n.val o).loadSafe n.val)
def execIdentifierCollision (n : Fin 24) (dataPhase : Bool) (s : State) : Host.Outcome State Fault Refusal :=
  .next ((s.collision n.val dataPhase).loadSafe n.val)

end Sys2Proof.Machine
end

