-- ==== Sys2Proof/Machine/Heaters.lean ====
section
/-! DEFINITION. The twelve heater channels of the bank die (R398–R404). -/

namespace Sys2Proof.Machine

def State.heater (s : State) (n : Nat) : Heater := tget {} s.bank.heaters n

def State.setHeater (s : State) (n : Nat) (h : Heater) : State :=
  s.setBank { s.bank with heaters := tset {} s.bank.heaters n h }

def State.htr (s : State) (n : Nat) (f : Fld) : Nat := s.fld (BNK_HTR_STATUS n) f

def State.setHtr (s : State) (n : Nat) (f : Fld) (v : Nat) : State := s.setFld (BNK_HTR_STATUS n) f v

/-- The bands in which every heater is held at zero duty: cranking and its 100 ms, overvoltage (R72, R390). -/
def State.bandHeld (s : State) : Bool := s.bank.crankHeld || s.bank.ovHeld

/-- The duty a channel asks for (R399). DESIGN CHOICE (assumption 109): R399's procedure decides in every device state, so a demand
that is written in boot or cold forwarding drives its heater, though the table of R56 names none there. -/
def State.target (s : State) (n : Nat) : Nat :=
  let h := s.heater n
  if !s.running || s.bank.fatal.isSome || s.bank.fatalReq.isSome || !s.fldB (BNK_HTR_CFG n) BNK_HTR_CFG_en then 0
  else if s.bandHeld then 0
  else if h.shortOff || s.htr n BNK_HTR_STATUS_short_latched ≠ 0 || s.htr n BNK_HTR_STATUS_ot_group ≠ 0
      || s.htr n BNK_HTR_STATUS_model_clamp ≠ 0 then 0
  else if s.fldB BNK_CTL BNK_CTL_safe_run then s.fld (BNK_HTR_CFG n) BNK_HTR_CFG_safe_duty
  else if !h.demanded then 0
  else if s.htr n BNK_HTR_STATUS_fresh ≠ 0 then s.fld (BNK_HTR_DEMAND n) BNK_HTR_DEMAND_duty
  else h.dec

/-- The order in which duties are reduced: lowest prio first, within one prio the highest channel first (R401). -/
def State.cutOrder (s : State) : List Nat :=
  (List.range 4).flatMap (fun p =>
    ((List.range 12).reverse).filter (fun n => s.fld (BNK_HTR_CFG n) BNK_HTR_CFG_prio == p))

/-- Take `excess` off the duties in order, each channel as far as 0 before the next. -/
def cutDuties : List Nat → Nat → List Nat → List Nat
  | [], _, d => d
  | n :: ns, excess, d =>
    let cut := min excess (d.getD n 0)
    cutDuties ns (excess - cut) (d.set n (d.getD n 0 - cut))

/-- Start of each channel's pulse in the period: one after another in channel order, wrapping (R398). -/
def pulseStarts (d : List Nat) : List Nat :=
  (d.foldl (fun acc x => (acc.1 ++ [acc.2 % 1000], acc.2 + x)) (([] : List Nat), 0)).1

/-- A channel conducts at instant `t` (0.1 % of the period). -/
def conducts (start duty t : Nat) : Bool := duty ≠ 0 && (t + 1000 - start) % 1000 < duty

/-- Current a channel counts with in the module guard: its last measurement, or 1,500 mA without one (R401). -/
def State.guardMa (s : State) (n : Nat) : Nat :=
  if (s.heater n).measured then s.fld (BNK_HTR_MEAS n) BNK_HTR_MEAS_i_ma else 1500

/-- The highest total current of the channels that conduct at one instant. It occurs where some pulse starts. -/
def peakMa (ma d : List Nat) : Nat :=
  let st := pulseStarts d
  st.foldl (fun best t =>
    max best ((List.range 12).foldl (fun a n => if conducts (st.getD n 0) (d.getD n 0) t then a + ma.getD n 0 else a) 0)) 0

/-- The module current guard: reduce in the order of the budget reduction until the total is 12,000 mA or less, a channel
by 0.1 % at a time. -/
def guardCut (ma : List Nat) : Nat → List Nat → List Nat → List Nat
  | 0, _, d => d
  | _, [], d => d
  | fuel + 1, n :: ns, d =>
    if peakMa ma d ≤ 12000 then d
    else if d.getD n 0 = 0 then guardCut ma fuel ns d
    else guardCut ma fuel (n :: ns) (d.set n (d.getD n 0 - 1))

/-- A measured pulse (R402): the current, and the open-load check over 10 consecutive measured pulses. -/
def State.measure (s : State) (n ma : Nat) : State :=
  let s0 := s.accrue n
  let h := s0.heater n
  let s1 := s0.setFld (BNK_HTR_MEAS n) BNK_HTR_MEAS_i_ma (min ma 4095)
  let run := if ma < s.fld (BNK_HTR_DIAG n) BNK_HTR_DIAG_open_ma then h.openRun + 1 else 0
  let s2 := s1.setHeater n { h with measured := true, openRun := min run 10 }
  if 10 ≤ run ∧ s.htr n BNK_HTR_STATUS_open_load = 0 then
    (s2.setHtr n BNK_HTR_STATUS_open_load 1).raise 0x0E10 3 n
  else s2

/-- A pulse of `duty` lasts 100 µs or longer at the PWM frequency in force. -/
def State.longPulse (s : State) (duty : Nat) : Bool :=
  100 * s.fld BNK_HTR_GLB BNK_HTR_GLB_pwm_hz ≤ duty * 1000

/-- The first channel, in the order of reduction, whose duty has gone down: the channel that the event records (R405; DESIGN
CHOICE, assumption 110). -/
def State.firstCut (s : State) (before after : List Nat) : Nat :=
  (s.cutOrder.find? (fun n => decide (after.getD n 0 < before.getD n 0))).getD 0

/-- A PWM period start (R398–R401). `currents` are the currents that the period's pulses draw, in mA. -/
def State.pwmPeriod (s : State) (currents : List Nat) : State :=
  let s0 := (List.range 12).foldl (fun t n =>
    let h := t.heater n
    if h.pendFresh then
      ((t.setHeater n { h with pendFresh := false }).setHtr n BNK_HTR_STATUS_fresh 1).setHtr n BNK_HTR_STATUS_decaying 0
    else t) s
  let tg := (List.range 12).map s0.target
  let budget := s0.fld BNK_HTR_GLB BNK_HTR_GLB_budget
  let d1 := cutDuties s0.cutOrder (tg.sum - budget) tg
  let ma := (List.range 12).map s0.guardMa
  let d2 := guardCut ma 12100 s0.cutOrder d1
  let s1 := (List.range 12).foldl (fun t n =>
    ((t.accrue n).setHtr n BNK_HTR_STATUS_eff_duty (d2.getD n 0)).setHtr n BNK_HTR_STATUS_budget_cut
      (boolNat (d2.getD n 0 < tg.getD n 0))) s0
  let s2 := if d1 ≠ tg ∧ (s1.bank.lastBudget = 0 ∨ s1.bank.lastBudget + 1000000000 ≤ s1.elapsed + 1) then
      (s1.setBank { s1.bank with lastBudget := s1.elapsed + 1 }).raise 0x0E15 1 (s0.firstCut tg d1) else s1
  let s3 := if d2 ≠ d1 then
      let t := s2.setFld BNK_STATUS BNK_STATUS_sum_limit 1
      if t.bank.lastGuard = 0 ∨ t.bank.lastGuard + 1000000000 ≤ t.elapsed + 1 then
        (t.setBank { t.bank with lastGuard := t.elapsed + 1 }).raise 0x0E18 3 (s0.firstCut d1 d2) else t
    else s2
  (List.range 12).foldl (fun t n =>
    if d2.getD n 0 ≠ 0 ∧ s3.longPulse (d2.getD n 0) then t.measure n (currents.getD n 0) else t) s3

/-- A write of a demand: fresh for refresh_ms, from the next period start (R400). -/
def State.demandWrite (s : State) (n : Nat) (v : Word) : State :=
  let s1 := s.wrPlain (BNK_HTR_DEMAND n) v
  s1.setHeater n { s1.heater n with demanded := true, pendFresh := true }

/-- refresh_ms has passed without a new write: the channel decays (R400). -/
def State.demandExpiry (s : State) (n : Nat) : State :=
  if s.htr n BNK_HTR_STATUS_fresh ≠ 0 ∧ !(s.heater n).pendFresh then
    let d := if s.fld (BNK_HTR_CFG n) BNK_HTR_CFG_decay_step = 0 then s.fld (BNK_HTR_CFG n) BNK_HTR_CFG_safe_duty
      else s.fld (BNK_HTR_DEMAND n) BNK_HTR_DEMAND_duty
    (((s.setHeater n { s.heater n with dec := d }).setHtr n BNK_HTR_STATUS_fresh 0).setHtr n
      BNK_HTR_STATUS_decaying 1).raise 0x0E14 2 n
  else s

/-- 100 ms of decay: dec moves decay_step points towards the safe duty (R400). -/
def State.decayStep (s : State) (n : Nat) : State :=
  if s.htr n BNK_HTR_STATUS_decaying ≠ 0 then
    let h := s.heater n
    let safe := s.fld (BNK_HTR_CFG n) BNK_HTR_CFG_safe_duty
    let st := 10 * s.fld (BNK_HTR_CFG n) BNK_HTR_CFG_decay_step
    let d := if st = 0 then safe else if safe < h.dec then max safe (h.dec - st) else min safe (h.dec + st)
    s.setHeater n { h with dec := d }
  else s

/-- The shorts of a channel within the last 10 s, at most 3 (R402). -/
def State.shortRun (s : State) (n : Nat) : Nat :=
  min 3 ((s.heater n).shorts.filter (fun t => decide (s.elapsed < t + 10000000000))).length

/-- Above 2.0 A for 10 µs while the channel is on (R402). -/
def State.heaterShort (s : State) (n : Nat) : State :=
  if s.htr n BNK_HTR_STATUS_eff_duty = 0 then s
  else
    let s1 := s.heaterOff n
    let h := s1.heater n
    let s2 := s1.setHeater n { h with
      shortOff := true, shorts := (s.elapsed :: h.shorts.filter (fun t => decide (s.elapsed < t + 10000000000))).take 3 }
    let s3 := if s.htr n BNK_HTR_STATUS_short = 0 then (s2.setHtr n BNK_HTR_STATUS_short 1).raise 0x0E11 4 n else s2
    if s2.shortRun n = 3 ∧ s.htr n BNK_HTR_STATUS_short_latched = 0 then
      (s3.setHtr n BNK_HTR_STATUS_short_latched 1).raise 0x0E12 4 n
    else s3

/-- One second after a short the channel is tried again; a latched one stays off by its latch. -/
def State.shortRetry (s : State) (n : Nat) : State := s.setHeater n { s.heater n with shortOff := false }

/-- 10 s have passed without a short: short_run is 0 (R402). -/
def State.shortRunReset (s : State) (n : Nat) : State :=
  if s.shortRun n = 0 then s.setHeater n { s.heater n with shorts := [] } else s

/-- Output above 3 V for 1 ms while the channel is off (R402). -/
def State.vbatShort (s : State) (n : Nat) : State :=
  if s.htr n BNK_HTR_STATUS_eff_duty = 0 ∧ s.htr n BNK_HTR_STATUS_vbat_short = 0 then (s.setHtr n BNK_HTR_STATUS_vbat_short 1).raise 0x0E17 4 n else s

/-- BNK_HTR_CMD_n.clear: a short of the same tick counts after it (R406). -/
def State.heaterClear (s : State) (n : Nat) (v : Word) : State :=
  if v.toNat.testBit 0 then
    (s.setHtr n BNK_HTR_STATUS_short_latched 0).setHeater n
      { s.heater n with shorts := (s.heater n).shorts.filter (· == s.elapsed) }
  else s

/-- A write of BNK_HTR_CFG_n: a disabled channel turns off; one that becomes enabled has no measurement (R398, R401). -/
def State.heaterCfgWrite (s : State) (n : Nat) (v : Word) : State :=
  let s1 := s.wrPlain (BNK_HTR_CFG n) v
  if !s1.fldB (BNK_HTR_CFG n) BNK_HTR_CFG_en then s1.heaterOff n
  else if s.fldB (BNK_HTR_CFG n) BNK_HTR_CFG_en then s1
  else s1.setHeater n { s1.heater n with measured := false }

/-- One 0.1 s step of the thermal model (R403): θ moves towards θs = r_th × P / 10 with time constant tau_s. P, in units of
10^-9 W, is `energy` over `span`. 8 fractional bits are kept, and a step is rounded to the nearest of them (assumption 22). -/
def thetaStep (theta r tau energy span : Nat) : Nat :=
  let ts : Nat := r * energy * 256 / (10000000000 * span)
  ((theta : Int) + (((ts : Int) - theta) + 5 * tau) / (10 * tau : Nat)).toNat

/-- P is averaged over the time since the last update; where none has passed, it is that of this instant. -/
def State.modelUpdate1 (s : State) (n : Nat) : State :=
  let h := (s.accrue n).heater n
  let r := s.fld (BNK_HTR_MODEL n) BNK_HTR_MODEL_r_th
  let s0 := s.setHeater n { h with energy := 0 }
  if r = 0 then s0.setHtr n BNK_HTR_STATUS_model_clamp 0
  else
    let now := s.fld (BNK_HTR_MEAS n) BNK_HTR_MEAS_i_ma * s.pins.vbat * s.htr n BNK_HTR_STATUS_eff_duty
    let span := s.elapsed - s.bank.modelAt
    let th := thetaStep h.theta r (max 1 (s.fld (BNK_HTR_MODEL n) BNK_HTR_MODEL_tau_s))
      (if span = 0 then now else h.energy) (max 1 span)
    let s1 := (s0.setHeater n { s0.heater n with theta := th }).setFld (BNK_HTR_MEAS n) BNK_HTR_MEAS_theta
      (min (th / 256) 0xFFFF)
    let mx := s.fld (BNK_HTR_LIMIT n) BNK_HTR_LIMIT_th_max
    let hy := min (s.fld (BNK_HTR_LIMIT n) BNK_HTR_LIMIT_th_hyst) mx
    if s.htr n BNK_HTR_STATUS_model_clamp = 0 then
      if mx * 256 ≤ th then ((s1.heaterOff n).setHtr n BNK_HTR_STATUS_model_clamp 1).raise 0x0E13 2 n else s1
    else if th ≤ (mx - hy) * 256 then s1.setHtr n BNK_HTR_STATUS_model_clamp 0
    else s1

def State.modelUpdate (s : State) : State :=
  let s1 := (List.range 12).foldl State.modelUpdate1 s
  s1.setBank { s1.bank with modelAt := s.elapsed }

/-- Switch-group overtemperature (R404): `t` are the readings of sensors 20–23 in 0.125 °C, none where invalid. -/
def State.groupTemp (s : State) (g : Nat) (t : Option Int) : State :=
  match t with
  | none => s
  | some t =>
    if 1200 ≤ t then s.setBank { s.bank with hot := withBit s.bank.hot g true }
    else if t < 1080 then s.setBank { s.bank with hot := withBit s.bank.hot g false }
    else s

def State.groupsApply (s : State) : State :=
  (List.range 12).foldl (fun t n =>
    let ot := t.bank.hot.testBit (n / 4) || t.bank.hot.testBit 3
    let was := t.htr n BNK_HTR_STATUS_ot_group ≠ 0
    let t1 := t.setHtr n BNK_HTR_STATUS_ot_group (boolNat ot)
    if ot && !was then (t1.heaterOff n).raise 0x0E16 3 n else t1) s

/-! The rows of the table -/

def execPwmPeriodStart (currents : List Nat) (s : State) : Host.Outcome State Fault Refusal := .next (s.pwmPeriod currents)
def execDemandExpiry (n : Fin 12) (s : State) : Host.Outcome State Fault Refusal := .next (s.demandExpiry n.val)
def execDecayStep (n : Fin 12) (s : State) : Host.Outcome State Fault Refusal := .next (s.decayStep n.val)
def execHeaterShort (n : Fin 12) (s : State) : Host.Outcome State Fault Refusal := .next (s.heaterShort n.val)
def execShortRetry (n : Fin 12) (s : State) : Host.Outcome State Fault Refusal := .next (s.shortRetry n.val)
def execShortRunReset (n : Fin 12) (s : State) : Host.Outcome State Fault Refusal := .next (s.shortRunReset n.val)
def execVbatShort (n : Fin 12) (s : State) : Host.Outcome State Fault Refusal := .next (s.vbatShort n.val)
def execThermalModelUpdate (s : State) : Host.Outcome State Fault Refusal := .next s.modelUpdate

end Sys2Proof.Machine
end

