-- ==== Sys2Proof/Machine/Dike.lean ====
section
/-! DEFINITION. The BNK registers and the dike link that reaches them (R14, R15, R388, R389, R406, R407). -/

namespace Sys2Proof.Machine

/-- The reserved bits of a selective-wake word (R407). -/
def selMask (w : Nat) : Word := if w = 0 then 0x3FFF else if w = 1 ∨ w = 2 then 0x1FFFFFFF else 0xFFFFFFFF

/-- BNK_CTL: safe_run, a fatal request, a sleep request (R77, R392, R399). Its heartbeat comes in a frame of its own (R388). -/
def State.bnkCtl (s : State) (v : Word) (event : Nat) : State :=
  let s1 := s.wrPlain BNK_CTL v
  let s2 := if v.toNat.testBit 2 then s1.fatalTaken event else s1
  if v.toNat.testBit 1 then s2.sleepRequest else s2

/-- A selective-wake word as it loads: the channel of word 0 is at most 23 (R406, R407). -/
def selWord (w : Nat) (v : Word) : Word :=
  let x := v &&& selMask w
  if w = 0 ∧ 23 < x.toNat % 32 then BitVec.ofNat 32 (x.toNat - x.toNat % 32 + 23) else x

/-- What a write does in the bank die. -/
def State.bnkWrite (s : State) (off : Nat) (v : Word) (event : Nat := 0) : State :=
  let a := 0x20100000 + off
  if off = 0 then s.bnkCtl v event
  else if off = 0x10 then
    let s1 := s.wrPlain a v
    if v.toNat.testBit 8 then s1.setFld BNK_VBAT BNK_VBAT_min_mv (s1.fld BNK_VBAT BNK_VBAT_mv) else s1
  else if off = 0x20 then s.wakeCfgWrite v
  else if 0x100 ≤ off ∧ off < 0x200 then s.wrPlain a (selWord (off % 32 / 4) v)
  else if 0x400 ≤ off ∧ off < 0x580 then
    let n := (off - 0x400) / 32
    if off % 32 = 0 then s.demandWrite n v
    else if off % 32 = 4 then s.heaterCfgWrite n v
    else if off % 32 = 0x1C then s.heaterClear n v
    else s.wrPlain a v
  else s.wrPlain a v

/-- What a read of a BNK register returns: the wake levels and short_run are as they stand at the read. -/
def State.bnkRead (s : State) (off : Nat) : Nat :=
  let w := s.rd (0x20100000 + off)
  if off = 0x24 then
    w.toNat / 256 * 256 + maskOf ((List.range 8).filter (fun i => s.wakeEnabled i && s.wakeActive i))
  else if 0x400 ≤ off ∧ off < 0x580 ∧ off % 32 = 0x14 then
    (BNK_HTR_STATUS_short_run.put w (s.shortRun ((off - 0x400) / 32))).toNat
  else w.toNat

/-- The bank die takes a frame and answers a read or a write; a repeated write is applied once (R389). A heartbeat frame refreshes
the heartbeat (R75), and a frame with a command that is none of the link's is a bad frame (R388). -/
def State.bankTakes (s : State) (f : DWord) (event : Nat := 0) : State × Option DWord :=
  let n := f.toNat
  let off := bits 55 40 n
  let seq := bits 59 56 n
  let cmd := bits 63 60 n
  if cmd = 1 then (s, some (dikeFrame 1 0 off (s.bnkRead off)))
  else if cmd = 2 then
    if s.bank.lastSeq = some seq then
      let (k, s1) := s.freeIx
      (s1, some (dikeFrame 2 seq off (Config.dikeData k).toNat))
    else
      let (k, s1) := (s.setBank { s.bank with lastSeq := some seq }).freeIx
      (s1.bnkWrite off (BitVec.ofNat 32 (bits 39 8 n)) event, some (dikeFrame 2 seq off (Config.dikeData k).toNat))
  else if cmd = 4 then (s.setBank { s.bank with lastHb := s.elapsed }, none)
  else if cmd = 3 then (s, none)
  else (s.addFld BNK_STATUS BNK_STATUS_link_err 1, none)

/-- One try of a transaction: `arrives`, the frame reaches the bank die whole; `answered`, its answer reaches the logic die
whole. A frame that asks for no answer ends with its try. -/
def State.dikeTry (s : State) (q : DikeReq) (arrives answered : Bool) : State :=
  let s0 := s.out (.dike true q.frame)
  let off := bits 55 40 q.frame.toNat
  let asks := bits 63 60 q.frame.toNat = 1 ∨ bits 63 60 q.frame.toNat = 2
  if arrives then
    match s0.bankTakes q.frame q.event with
    | (s1, none) => s1
    | (s1, some r) =>
      let s2 := s1.out (.dike false r)
      if answered ∧ s2.running then
        let s3 := s2.setBank { s2.bank with open_ := none }
        match q.master with
        | some m => if bits 63 60 q.frame.toNat = 1 then s3.out (.busRead m (0x20100000 + off) (bits 39 8 r.toNat)) else s3
        | none => s3
      else s2.setBank { s2.bank with open_ := if s2.running then some q else none }
  else
    let s1 := s0.addFld BNK_STATUS BNK_STATUS_link_err 1
    if asks then s1.setBank { s1.bank with open_ := some q } else s1

/-- Accesses posted behind the open one take the link in their order, up to one that stays open (R14). -/
def State.dikeDrain : Nat → State → State
  | 0, s => s
  | n + 1, s =>
    match s.bank.open_, s.bank.posted with
    | none, (q, arrives, answered) :: rest =>
      State.dikeDrain n ((s.setBank { s.bank with posted := rest }).dikeTry q arrives answered)
    | _, _ => s

/-- A frame is posted, and takes the link at once where no access is open (R14). -/
def State.dikePost (s : State) (q : DikeReq) (arrives answered : Bool) : State :=
  let s1 := s.setBank { s.bank with posted := s.bank.posted ++ [(q, arrives, answered)] }
  State.dikeDrain s1.bank.posted.length s1

/-- The warden's heartbeat (R75): a heartbeat frame, which carries no sequence number and has no answer (R388). -/
def State.heartbeat (s : State) (arrives : Bool) : State :=
  s.dikePost { master := none, frame := dikeFrame 4 0 0 0, tries := 0 } arrives true

/-- A read or write of a BNK register (R388), of a master or of the device itself. Each write takes the next sequence number.
DESIGN CHOICE (assumption 111): a write of BNK_CTL with hb is followed by a heartbeat frame. -/
def State.dikeAccess (s : State) (m : Option Master) (write : Bool) (off : Nat) (v : Word) (arrives answered : Bool) : State :=
  if !s.running then s
  else
    let n := s.bank.nextSeq
    let q : DikeReq := { master := m, frame := if write then dikeFrame 2 n off v.toNat else dikeFrame 1 0 off 0, tries := 0 }
    let s1 := (s.setBank { s.bank with nextSeq := if write then (n + 1) % 16 else n }).dikePost q arrives answered
    if write ∧ off = 0 ∧ v.toNat.testBit 0 ∧ s1.running then s1.heartbeat arrives else s1

/-- An access ends without an answer: an error response to its master, and 0x0E20 (R389). -/
def State.dikeFailed (s : State) (q : DikeReq) : State :=
  let s1 := s.setBank { s.bank with open_ := none }
  (match q.master with
    | some m => s1.out (.busError m (0x20100000 + bits 55 40 q.frame.toNat))
    | none => s1).raise 0x0E20 5

/-- No answer within 4 µs: the transaction is repeated, three times at most; then the access ends (R389), and the next one
posted takes the link. -/
def State.dikeRetry (s : State) (arrives answered : Bool) : State :=
  match s.bank.open_ with
  | none => s
  | some q =>
    let t := if q.tries < 3 then s.dikeTry { q with tries := q.tries + 1 } arrives answered else s.dikeFailed q
    State.dikeDrain t.bank.posted.length t

/-- A write of a BNK register has not yet taken effect: a read must wait for it (R15). -/
def State.dikeBusy (s : State) : Bool := !s.dikeIdle

end Sys2Proof.Machine
end

