-- ==== Sys2Proof/Machine/Aes.lean ====
section
/-! DEFINITION. The algorithms that the manual names by their standards: AES (FIPS 197), CTR, CMAC, GCM, AES-KW (RFC 3394),
SHA-256 and HMAC (FIPS 180-4, FIPS 198-1). PRESUMED: from those standards, not from the manual (assumption 6). -/

namespace Sys2Proof.Machine

def xorBytes : List Byte → List Byte → List Byte
  | a :: as, b :: bs => (a ^^^ b) :: xorBytes as bs
  | _, _ => []

/-! AES -/

/-- Multiplication by x in GF(2^8) with polynomial 0x11B. -/
def xtime (b : Byte) : Byte := if b.msb then (b <<< 1) ^^^ 0x1B else b <<< 1

def gmul (a b : Byte) : Byte :=
  ((List.range 8).foldl (fun (acc : Byte × Byte) i =>
    (if b.getLsbD i then acc.1 ^^^ acc.2 else acc.1, xtime acc.2)) ((0 : Byte), a)).1

/-- The inverse in GF(2^8), as the 254th power; 0 gives 0. -/
def ginv (a : Byte) : Byte :=
  let sq (x : Byte) := gmul x x
  let a2 := sq a; let a4 := sq a2; let a8 := sq a4; let a16 := sq a8; let a32 := sq a16; let a64 := sq a32; let a128 := sq a64
  gmul a2 (gmul a4 (gmul a8 (gmul a16 (gmul a32 (gmul a64 a128)))))

def sbox (a : Byte) : Byte :=
  let i := ginv a
  i ^^^ i.rotateLeft 1 ^^^ i.rotateLeft 2 ^^^ i.rotateLeft 3 ^^^ i.rotateLeft 4 ^^^ 0x63

def rcon : Nat → Byte
  | 0 => 1
  | n + 1 => xtime (rcon n)

/-- One more word of the key schedule; `w` holds the words so far, the newest last. -/
def keyWord (nk : Nat) (w : List (List Byte)) : List (List Byte) :=
  let i := w.length
  let prev := w.getD (i - 1) []
  let t :=
    if i % nk = 0 then
      match (prev.drop 1 ++ prev.take 1).map sbox with
      | b :: bs => (b ^^^ rcon (i / nk - 1)) :: bs
      | [] => []
    else if nk = 8 ∧ i % 8 = 4 then prev.map sbox
    else prev
  w ++ [xorBytes (w.getD (i - nk) []) t]

/-- The round keys of a 16- or 32-byte key, 16 bytes each. -/
def roundKeys (key : List Byte) : List (List Byte) :=
  let nk := key.length / 4
  let rounds := nk + 7
  let w0 := (List.range nk).map (fun i => slice (4 * i) 4 key)
  let w := (List.range (4 * rounds - nk)).foldl (fun w _ => keyWord nk w) w0
  (List.range rounds).map (fun r => ((List.range 4).map (fun j => w.getD (4 * r + j) [])).flatten)

def shiftRows (b : List Byte) : List Byte :=
  (List.range 16).map (fun k => b.getD (k % 4 + 4 * ((k / 4 + k % 4) % 4)) 0)

def unshiftRows (b : List Byte) : List Byte :=
  (List.range 16).map (fun k => b.getD (k % 4 + 4 * ((k / 4 + 4 - k % 4) % 4)) 0)

/-- A column times the circulant matrix with first row `m`. -/
def mixWith (m : List Byte) (b : List Byte) : List Byte :=
  (List.range 16).map (fun k =>
    ((List.range 4).map (fun j => gmul (m.getD ((j + 4 - k % 4) % 4) 0) (b.getD (4 * (k / 4) + j) 0))).foldl (· ^^^ ·) 0)

/-- AES encryption of one 16-byte block. -/
def aesEnc (key block : List Byte) : List Byte :=
  match roundKeys key with
  | [] => block
  | k0 :: ks =>
    let mid := ks.dropLast
    let b := mid.foldl (fun b k => xorBytes (mixWith [2, 3, 1, 1] (shiftRows (b.map sbox))) k) (xorBytes block k0)
    xorBytes (shiftRows (b.map sbox)) (ks.getLastD [])

/-- The inverse of `sbox`. -/
def invSbox (a : Byte) : Byte :=
  ginv (a.rotateLeft 1 ^^^ a.rotateLeft 3 ^^^ a.rotateLeft 6 ^^^ 0x05)

/-- AES decryption of one block. -/
def aesDec (key block : List Byte) : List Byte :=
  match (roundKeys key).reverse with
  | [] => block
  | k0 :: ks =>
    let mid := ks.dropLast
    let b := mid.foldl (fun b k => mixWith [14, 11, 13, 9] (xorBytes ((unshiftRows b).map invSbox) k)) (xorBytes block k0)
    xorBytes ((unshiftRows b).map invSbox) (ks.getLastD [])

/-- The bytes cut into blocks of 16, the last one perhaps shorter. -/
def blocks16 (bs : List Byte) : List (List Byte) :=
  (List.range ((bs.length + 15) / 16)).map (fun i => slice (16 * i) 16 bs)

/-- A 16-byte counter block plus `i` in its low `w` bits. -/
def ctrAdd (w : Nat) (blk : List Byte) (i : Nat) : List Byte :=
  let n := beNat blk
  beBytes 16 (n / 2 ^ w * 2 ^ w + (n + i) % 2 ^ w)

/-- AES-CTR from an initial counter block, counting in its low `w` bits. -/
def aesCtr (w : Nat) (key ctr data : List Byte) : List Byte :=
  ((blocks16 data).zipIdx.map (fun (b, i) => xorBytes b (aesEnc key (ctrAdd w ctr i)))).flatten

/-- Doubling in GF(2^128) for CMAC. -/
def cmacDouble (b : List Byte) : List Byte :=
  let n := beNat b
  beBytes 16 (if n.testBit 127 then Nat.xor (n * 2 % 2 ^ 128) 0x87 else n * 2)

/-- AES-CMAC (NIST SP 800-38B). -/
def aesCmac (key msg : List Byte) : List Byte :=
  let k1 := cmacDouble (aesEnc key (List.replicate 16 0))
  let k2 := cmacDouble k1
  let n := (msg.length + 15) / 16
  let whole := decide (0 < n) && msg.length % 16 == 0
  let init := (List.range (n - 1)).map (fun i => slice (16 * i) 16 msg)
  let last := msg.drop (16 * (n - 1))
  let m := if whole then xorBytes last k1 else xorBytes (padTo 16 (last ++ [0x80])) k2
  (init ++ [m]).foldl (fun c b => aesEnc key (xorBytes c b)) (List.replicate 16 0)

/-- Multiplication in GF(2^128) for GHASH, both numbers with bit 127 as the first. -/
def ghashMul (x y : Nat) : Nat :=
  ((List.range 128).foldl (fun (acc : Nat × Nat) i =>
    (if x.testBit (127 - i) then Nat.xor acc.1 acc.2 else acc.1,
     if acc.2.testBit 0 then Nat.xor (acc.2 / 2) (0xE1 * 2 ^ 120) else acc.2 / 2)) (0, y)).1

def ghash (h : Nat) (bs : List Byte) : Nat :=
  (blocks16 bs).foldl (fun y b => ghashMul (Nat.xor y (beNat (padTo 16 b))) h) 0

def padBlock (bs : List Byte) : List Byte := bs ++ List.replicate ((16 - bs.length % 16) % 16) 0

/-- The GCM tag over additional data and ciphertext, for a 12-byte nonce. -/
def gcmTag (key nonce aad ct : List Byte) : List Byte :=
  let h := beNat (aesEnc key (List.replicate 16 0))
  let g := ghash h (padBlock aad ++ padBlock ct ++ beBytes 8 (8 * aad.length) ++ beBytes 8 (8 * ct.length))
  xorBytes (beBytes 16 g) (aesEnc key (nonce ++ beBytes 4 1))

/-- GCM encryption or decryption of the data, without the tag. -/
def gcmCrypt (key nonce data : List Byte) : List Byte := aesCtr 32 key (nonce ++ beBytes 4 2) data

/-! AES key wrap (RFC 3394) -/

def kwIv : Nat := 0xA6A6A6A6A6A6A6A6

/-- Wrap a plaintext of n ≥ 2 semiblocks. -/
def kwWrap (kek pt : List Byte) : List Byte :=
  let n := pt.length / 8
  let r0 := (List.range n).map (fun i => slice (8 * i) 8 pt)
  let (a, r) := (List.range (6 * n)).foldl (fun (acc : List Byte × List (List Byte)) t =>
    let b := aesEnc kek (acc.1 ++ acc.2.getD (t % n) [])
    (beBytes 8 (Nat.xor (beNat (b.take 8)) (t + 1)), acc.2.set (t % n) (b.drop 8))) (beBytes 8 kwIv, r0)
  a ++ r.flatten

/-- Unwrap; none where the integrity check fails. -/
def kwUnwrap (kek ct : List Byte) : Option (List Byte) :=
  let n := ct.length / 8 - 1
  let r0 := (List.range n).map (fun i => slice (8 * i + 8) 8 ct)
  let (a, r) := (List.range (6 * n)).reverse.foldl (fun (acc : List Byte × List (List Byte)) t =>
    let b := aesDec kek (beBytes 8 (Nat.xor (beNat acc.1) (t + 1)) ++ acc.2.getD (t % n) [])
    (b.take 8, acc.2.set (t % n) (b.drop 8))) (ct.take 8, r0)
  if beNat a = kwIv then some r.flatten else none

/-! SHA-256 -/

/-- The largest number below `2 ^ bits` above `r` whose `k`-th power does not exceed `n`, bit by bit. -/
def rootFrom (k n : Nat) : Nat → Nat → Nat
  | 0, r => r
  | b + 1, r => rootFrom k n b (if (r + 2 ^ b) ^ k ≤ n then r + 2 ^ b else r)

/-- The first 32 bits behind the point of the `k`-th root of a number below 2^9. -/
def rootWord (k p : Nat) : Word := BitVec.ofNat 32 (rootFrom k (p * 2 ^ (32 * k)) 37 0)

/-- The primes below 312: numbers above 1 that no smaller prime below 18 divides. -/
def shaPrimes : List Nat :=
  (List.range 312).filter (fun n => decide (1 < n) && [2, 3, 5, 7, 11, 13, 17].all (fun d => n == d || n % d != 0))

/-- The round constants: cube roots of the first 64 primes (FIPS 180-4). -/
def shaRounds : List Word := shaPrimes.map (rootWord 3)

/-- The first hash value: square roots of the first eight primes. -/
def shaStart : List Word := (shaPrimes.take 8).map (rootWord 2)

/-- One more word of the message schedule. -/
def shaExpand (w : List Word) : List Word :=
  let t := w.length
  let g (k : Nat) : Word := w.getD (t - k) 0
  let s0 (x : Word) : Word := x.rotateRight 7 ^^^ x.rotateRight 18 ^^^ (x >>> 3)
  let s1 (x : Word) : Word := x.rotateRight 17 ^^^ x.rotateRight 19 ^^^ (x >>> 10)
  w ++ [s1 (g 2) + g 7 + s0 (g 15) + g 16]

def shaRound (v : List Word) (kw : Word × Word) : List Word :=
  match v with
  | [a, b, c, d, e, f, g, h] =>
    let t1 := h + (e.rotateRight 6 ^^^ e.rotateRight 11 ^^^ e.rotateRight 25) + ((e &&& f) ^^^ (~~~e &&& g)) + kw.1 + kw.2
    let t2 := (a.rotateRight 2 ^^^ a.rotateRight 13 ^^^ a.rotateRight 22) + ((a &&& b) ^^^ (a &&& c) ^^^ (b &&& c))
    [t1 + t2, a, b, c, d + t1, e, f, g]
  | _ => v

/-- The compression function over one 64-byte block. -/
def shaBlock (h : List Word) (blk : List Byte) : List Word :=
  let w0 := (List.range 16).map (fun i => BitVec.ofNat 32 (beNat (slice (4 * i) 4 blk)))
  let w := (List.range 48).foldl (fun w _ => shaExpand w) w0
  let v := (shaRounds.zip w).foldl shaRound h
  (h.zip v).map (fun (a, b) => a + b)

def shaPad (msg : List Byte) : List Byte :=
  msg ++ [0x80] ++ List.replicate ((119 - msg.length % 64) % 64) 0 ++ beBytes 8 (8 * msg.length)

def sha256 (msg : List Byte) : List Byte :=
  let p := shaPad msg
  let h := (List.range (p.length / 64)).foldl (fun h i => shaBlock h (slice (64 * i) 64 p)) shaStart
  (h.map (fun w => beBytes 4 w.toNat)).flatten

/-- HMAC-SHA-256. -/
def hmac256 (key msg : List Byte) : List Byte :=
  let k := padTo 64 (if 64 < key.length then sha256 key else key)
  sha256 (k.map (· ^^^ 0x5C) ++ sha256 (k.map (· ^^^ 0x36) ++ msg))

/-! RSA -/

/-- Modular exponentiation for the public operation; `e` is read from its lowest bit over `fuel` bits. -/
def powMod (m : Nat) : Nat → Nat → Nat → Nat → Nat
  | 0, _, _, acc => acc
  | fuel + 1, b, e, acc => powMod m fuel (b * b % m) (e / 2) (if e % 2 = 1 then acc * b % m else acc)

end Sys2Proof.Machine
end

