-- ==== Sys2Proof/Machine/KView.lean ====
section
/-! DEFINITION. A keeper routine's view of memory and of its core: windows, aliases and faults (R239–R243), the running
invocation, and the routine's counters (R276). -/

namespace Sys2Proof.Machine

/-! Invocations and routines -/

def State.inv (s : State) (c : Nat) : Option Invocation := (s.kpr.run.find? (fun e => e.1 == c)).map (fun e => e.2)

def State.setInv (s : State) (c : Nat) (iv : Invocation) : State :=
  { s with kpr := { s.kpr with run := s.kpr.run.map (fun e => if e.1 = c then (c, iv) else e) } }

def State.setRt (s : State) (r : Nat) (x : RtState) : State := { s with kpr := { s.kpr with rts := tset {} s.kpr.rts r x } }

/-- The bundle's declaration of a routine (R278). -/
def State.routine (s : State) (r : Nat) : Routine := s.plc.prog.routines.getD r {}

/-- Count on counter `k` of a routine; invocations wrap, the others saturate (R276). -/
def State.rtCount (s : State) (r k : Nat) : State :=
  let x := s.rt r
  s.setRt r { x with cnt := modAt x.cnt k (fun n => if k = 0 then (n + 1) % 2 ^ 32 else satAdd 32 n 1) }

/-- A table or heater access refused (R260). -/
def State.rtRefused (s : State) (r : Nat) : State := (s.rtCount r 5).raiseLim 0x0C05 1 r

/-! General registers (R239) -/

def Invocation.g (iv : Invocation) (r : Fin 32) : Word := if r = 0 then 0 else iv.regs[r]

/-- A write of g0 is discarded. -/
def Invocation.setG (iv : Invocation) (r : Fin 32) (v : Word) : Invocation :=
  if r = 0 then iv else { iv with regs := iv.regs.set r v }

/-! Windows (R241, R242) -/

inductive KWin where
  | code | priv | shared | frame | emit
  deriving DecidableEq, Repr

inductive KAlias where
  | plain | set | clear
  deriving DecidableEq, Repr

/-- A place of the routine view: window, alias, offset in the window. -/
structure KPlace where
  win : KWin
  alia : KAlias
  off : Nat
  deriving DecidableEq, Repr

/-- Physical address of code memory, data memory and shared memory (R25). -/
def codeBase (core : Nat) : Nat := 0x50000000 + core * 0x20000
def dataBase (core : Nat) : Nat := 0x50010000 + core * 0x20000
def sharedBase (cluster : Nat) : Nat := 0x50800000 + cluster * 0x40000

/-- The share group of a routine, where it has one; group 0 is none (R278, R280). -/
def State.groupOf (s : State) (r : Nat) : Option Group :=
  let g := (s.routine r).group
  if g = 0 then none else s.plc.prog.groups.find? (fun x => x.no == g)

/-- The shared region that a routine sees: one that the batch has still to switch sees its group's old copy, while there is one
(R293). -/
def State.region (s : State) (r : Nat) : Option GroupPlace :=
  let g := (s.routine r).group
  let old := tget none s.plc.groupOld g
  if old.isSome && s.plc.batch.any (fun m => m.routine == r) then old else tget none s.plc.groupAt g

/-- Bound of a window for a routine (R241). -/
def State.bound (s : State) (r : Nat) : KWin → Nat
  | .code => (s.routine r).code.length
  | .priv => (s.routine r).dataBytes
  | .shared => if (s.routine r).group = 0 then 0 else match s.region r with | some x => x.len | none => 0
  | .frame => 9216
  | .emit => 16384

/-- The place that an address of the routine view names; none outside every window (R241, R242). -/
def State.place (s : State) (r a : Nat) : Option KPlace :=
  let alia : Option KAlias := match a / 2 ^ 26 % 4 with
    | 0 => some .plain
    | 1 => some .set
    | 2 => some .clear
    | _ => none
  let o := a % 2 ^ 26
  let w : Option (KWin × Nat) := match a / 2 ^ 28 with
    | 0 => some (.code, o)
    | 1 => some (.priv, o)
    | 2 => some (.shared, o)
    | 3 => if o < 0x10000 then some (.frame, o) else some (.emit, o - 0x10000)
    | _ => none
  match alia, w with
  | some al, some (win, off) => if off < s.bound r win then some { win := win, alia := al, off := off } else none
  | _, _ => none

/-- Physical address of a byte of the code, private or shared window of a routine on a core. -/
def State.kAddr (s : State) (core r : Nat) (p : KPlace) : Nat :=
  match p.win with
  | .code => codeBase core + (s.rt r).codeAt + p.off
  | .priv => dataBase core + (s.rt r).dataAt + p.off
  | _ => match s.region r with
    | some x => sharedBase x.cluster + x.off + p.off
    | none => sharedBase (core / 16) + p.off

/-- The byte at a place (R241): the event frame reads zero at and beyond its length. -/
def State.kByte (s : State) (core : Nat) (iv : Invocation) (p : KPlace) : Byte :=
  match p.win with
  | .frame => iv.ev.data.getD p.off 0
  | .emit => tget 0 s.kpr.emitBuf (core * 16384 + p.off)
  | _ => s.mb (s.kAddr core iv.ev.routine p)

/-- Store a byte at a place of a writable window. -/
def State.kPut (s : State) (core : Nat) (iv : Invocation) (p : KPlace) (b : Byte) : State :=
  match p.win with
  | .frame => s
  | .emit => { s with kpr := { s.kpr with emitBuf := tset 0 s.kpr.emitBuf (core * 16384 + p.off) b } }
  | _ => s.mwb (s.kAddr core iv.ev.routine p) b

/-! Faults: the causes of KPR_RT_LAST (R243, R276) -/

def causeBudget : Nat := 1
def causeIllegal : Nat := 2
def causeWindow : Nat := 3
def causePermission : Nat := 4
def causeAlign : Nat := 5

def KWin.writable : KWin → Bool
  | .priv | .shared | .emit => true
  | .code | .frame => false

/-- First and last byte of a range lie in one window. -/
def State.range (s : State) (r a n : Nat) : Option KPlace :=
  match s.place r a, s.place r (a + n - 1) with
  | some p, some q => if p.win = q.win ∧ p.alia = q.alia then some p else none
  | _, _ => none

/-- A load of `n` bytes at `a`, aligned to `al`: its place, or the cause of the fault. The misalignment is found first. -/
def State.loadAt (s : State) (r a n al : Nat) : Except Nat KPlace :=
  if a % al ≠ 0 then .error causeAlign
  else match s.range r a n with
    | some p => .ok p
    | none => .error causeWindow

/-- A store of `n` bytes; `word` says that it may go through an alias (R242). -/
def State.storeAtK (s : State) (r a n al : Nat) (word : Bool) : Except Nat KPlace :=
  if a % al ≠ 0 then .error causeAlign
  else match s.range r a n with
    | some p =>
      if !p.win.writable then .error causePermission
      else if p.alia = .plain then .ok p
      else if word && p.win != .emit then .ok p
      else .error causePermission
    | none => .error causeWindow

/-- `n` bytes from a place. -/
def State.kBytes (s : State) (core : Nat) (iv : Invocation) (p : KPlace) (n : Nat) : List Byte :=
  (List.range n).map (fun i => s.kByte core iv { p with off := p.off + i })

/-- Store bytes from a place on. -/
def State.kPuts (s : State) (core : Nat) (iv : Invocation) (p : KPlace) : List Byte → State
  | [] => s
  | b :: bs => (s.kPut core iv p b).kPuts core iv { p with off := p.off + 1 } bs

/-- Store a word: a set alias sets the bits written as 1, a clear alias clears them, in one access (R27, R242). -/
def State.kPutWord (s : State) (core : Nat) (iv : Invocation) (p : KPlace) (v : Word) : State :=
  let old : Word := BitVec.ofNat 32 (leNat (s.kBytes core iv p 4))
  let w : Word := match p.alia with
    | .plain => v
    | .set => old ||| v
    | .clear => old &&& ~~~v
  s.kPuts core iv p (leBytes 4 w.toNat)

/-- A range of `n` bytes that may be read; an empty range needs no window. -/
def State.readable (s : State) (r a n : Nat) : Bool := n == 0 || (s.range r a n).isSome

/-- A range of `n` bytes that may be written by byte stores. -/
def State.writableRange (s : State) (r a n : Nat) : Bool :=
  n == 0 || (match s.range r a n with | some p => p.win.writable && p.alia == .plain | none => false)

/-- The bytes of a readable range. -/
def State.viewBytes (s : State) (core : Nat) (iv : Invocation) (a n : Nat) : List Byte :=
  if n = 0 then []
  else match s.range iv.ev.routine a n with
    | some p => s.kBytes core iv p n
    | none => []

/-- Write bytes to a writable range. -/
def State.viewWrite (s : State) (core : Nat) (iv : Invocation) (a : Nat) (bs : List Byte) : State :=
  if bs = [] then s
  else match s.range iv.ev.routine a bs.length with
    | some p => s.kPuts core iv p bs
    | none => s

end Sys2Proof.Machine
end

