-- ==== Sys2Proof/Machine/Mram.lean ====
section
/-! DEFINITION. The MRAM controller: write failures, the scrub pass, the boot record and the journal (R367, R370, R375, R415–R420). -/

namespace Sys2Proof.Machine

/-! Uncorrectable words (R411, R415) -/

/-- 64-bit words that `n` bytes at an offset touch. -/
def wordsAt (off n : Nat) : List Nat := (List.range ((off + n + 7) / 8 - off / 8)).map (fun i => off / 8 + i)

/-- A word of a range of the MRAM reads as uncorrectable. -/
def State.mramLost (s : State) (off n : Nat) : Bool := s.mram.lost.any (fun w => decide (off / 8 ≤ w ∧ 8 * w < off + n))

/-- The outcome of an uncorrectable word that has no more than the event (R415): memory 83, its counts, 0x0F03. -/
def State.mramError (s : State) (off : Nat) : State := (s.eccUncorrectable 83 (mramBase + off)).raise 0x0F03 4 83 (mramBase + off)

/-! The scrub pass (R419, R420) -/

/-- Operating hours since the last completed pass. -/
def State.mramHours (s : State) : Nat := (if s.mram.hoursCleared then 0 else Config.mramHours) + s.mram.hours

/-- Five years of 365.25 days, in ns. -/
def fiveYears : Nat := 157788000 * 1000000000

/-- How long ago, by a synchronised gPTP time, the last completed pass began. -/
def State.passAge (s : State) : Option Nat :=
  if s.dev.synced then
    some (match s.mram.lastStart with
      | .shipped => s.dev.gptpTime - Config.mramTestTime
      | .gptp t => s.dev.gptpTime - t
      | .unsynced e => s.elapsed - e)
  else none

/-- It began 5 years ago or earlier (R419). -/
def State.scrubOld (s : State) : Bool := s.passAge.any (fun n => decide (fiveYears ≤ n))

def State.scrubBegin (s : State) : State :=
  if s.mram.scrubActive then s
  else s.setMram { s.mram with scrubActive := true, scrubDue := true, scrubPos := 0
                               scrubStart := if s.dev.synced then .gptp s.dev.gptpTime else .unsynced s.elapsed }

def State.operatingHour (s : State) : State :=
  if s.running then
    let s1 := s.setMram { s.mram with hours := s.mram.hours + 1 }
    if 8760 ≤ s1.mramHours ∨ s1.scrubOld then s1.scrubBegin else s1
  else s

/-- A slice of the pass rewrites the next `n` lines; after the last line, spare lines in use included, the pass is complete. -/
def State.scrubSlice (s : State) (n : Nat) : State :=
  if s.running ∧ s.mram.scrubActive then
    let m := s.mram
    let total := 65536 + m.spareUsed
    let k := min n (total - m.scrubPos)
    let s1 := (List.range k).foldl (fun t i => t.mramWear (m.scrubPos + i)) s
    let pos := m.scrubPos + k
    if total ≤ pos then
      (s1.setMram { s1.mram with scrubActive := false, scrubDue := false, scrubPos := 0, hours := 0, hoursCleared := true
                                 lastStart := m.scrubStart }).raise 0x0F08 0
    else s1.setMram { s1.mram with scrubPos := pos }
  else s

/-- The first gPTP time of a start finds the last pass more than 5 years old: 0x0F09, and a pass starts at once (R420). Later times
start one at 5 years (R419). -/
def State.scrubOverdue (s : State) (was : Bool) : State :=
  if !was ∧ s.passAge.any (fun n => decide (fiveYears < n)) then (s.raise 0x0F09 3).scrubBegin
  else if s.scrubOld then s.scrubBegin else s

/-! The journal (R375) -/

/-- The record's bytes. DESIGN CHOICE (assumption 118): the manual names the fields and gives no layout. -/
def Journal.bytes (j : Journal) : List Byte :=
  [BitVec.ofNat 8 j.state, BitVec.ofNat 8 j.target, BitVec.ofNat 8 (boolNat j.deferred), 0] ++ leBytes 4 j.length ++ leBytes 4 j.next ++
    leBytes 4 j.rb ++ padTo 32 j.digest

def journalOf (bs : List Byte) : Journal :=
  let b (i : Nat) : Nat := (bs.getD i 0).toNat
  { state := b 0, target := b 1, deferred := b 2 == 1, length := leNat (slice 4 4 bs), next := leNat (slice 8 4 bs)
    rb := leNat (slice 12 4 bs), digest := slice 16 32 bs }

/-- What the CRC-32C of a copy covers. -/
def JournalCopy.covered (c : JournalCopy) : List Byte := leBytes 4 c.seq ++ c.rec_.bytes

def JournalCopy.bytes (c : JournalCopy) : List Byte := c.covered ++ leBytes 4 c.crc

def journalCopyOf (bs : List Byte) : JournalCopy :=
  let c : JournalCopy := { rec_ := journalOf (bs.drop 4), seq := leNat (slice 0 4 bs), crc := leNat (slice 52 4 bs) }
  { c with good := crc32c c.covered == c.crc }

/-- Copy 1 is the one that counts. -/
def MramState.second (x : MramState) : Bool := x.journal1.good && (!x.journal0.good || decide (x.journal0.seq < x.journal1.seq))

/-- The record in force: that of the valid copy with the higher sequence number; without one, IDLE. -/
def MramState.journal (x : MramState) : Journal :=
  if x.second then x.journal1.rec_ else if x.journal0.good then x.journal0.rec_ else {}

/-- A record is written in full into the other copy, with the next sequence number. -/
def State.setJournal (s : State) (j : Journal) : State :=
  let m := s.mram
  let one := !m.second && m.journal0.good
  let c : JournalCopy := { rec_ := j, seq := (if m.second then m.journal1.seq else if one then m.journal0.seq else 0) + 1, good := true }
  let c := { c with crc := crc32c c.covered }
  let s1 := s.mramWear (if one then 0x2101 else 0x2100)
  s1.setMram (if one then { s1.mram with journal1 := c } else { s1.mram with journal0 := c })

/-! The sub-counter (R370) -/

def SubCopy.covered (c : SubCopy) : List Byte := leBytes 4 c.value ++ leBytes 4 c.seq

def subMac (c : SubCopy) : List Byte := aesCmac (Config.subKey (Config.rootKey 64)) c.covered

def SubCopy.bytes (c : SubCopy) : List Byte := c.covered ++ (if c.valid then subMac c else c.mac)

def subCopyOf (bs : List Byte) : SubCopy :=
  let c : SubCopy := { value := leNat (slice 0 4 bs), seq := leNat (slice 4 4 bs), mac := slice 8 16 bs }
  { c with valid := c.mac == subMac c }

/-! The boot record and the journal in the window (R367). DESIGN CHOICE (assumption 118): the manual gives no places within
them. -/

/-- The records that are held by their meaning: their offsets, and their bytes. -/
def State.mramRecords (s : State) : List (Nat × List Byte) :=
  let m := s.mram
  [(0, padTo 0x8000 m.certificate), (0x8000, m.sub0.bytes), (0x8100, m.sub1.bytes), (0x8200, leBytes 1 m.fallback),
    (0x8300, leBytes 4 s.mramHours ++ leBytes 4 m.scrubPos ++ leBytes 1 (boolNat m.scrubActive)),
    (0x210000, m.journal0.bytes), (0x210100, m.journal1.bytes)]

/-- New bytes of a record, by its place in that list. -/
def State.putRecord (s : State) (k : Nat) (bs : List Byte) : State :=
  let m := s.mram
  s.setMram (match k with
    | 0 => { m with certificate := bs }
    | 1 => { m with sub0 := subCopyOf bs }
    | 2 => { m with sub1 := subCopyOf bs }
    | 3 => { m with fallback := leNat bs }
    | 4 => { m with hours := leNat (slice 0 4 bs), hoursCleared := true, scrubPos := leNat (slice 4 4 bs)
                    scrubActive := bit 0 (leNat (slice 8 1 bs)) }
    | 5 => { m with journal0 := journalCopyOf bs }
    | _ => { m with journal1 := journalCopyOf bs })

/-- Bytes at an offset of the window, records included. -/
def State.mramShown (s : State) (off n : Nat) : List Byte :=
  (List.range n).map (fun i =>
    match s.mramRecords.find? (fun r => decide (r.1 ≤ off + i ∧ off + i < r.1 + r.2.length)) with
    | some r => r.2.getD (off + i - r.1) 0
    | none => s.mb (mramBase + off + i))

/-- A write of the window that touches a record changes it. -/
def State.recordWrite (s : State) (off : Nat) (bs : List Byte) : State :=
  s.mramRecords.zipIdx.foldl (fun t r =>
    let (base, old) := r.1
    if bs ≠ [] ∧ off < base + old.length ∧ base < off + bs.length then
      t.putRecord r.2 ((List.range old.length).map (fun i =>
        if off ≤ base + i ∧ base + i < off + bs.length then bs.getD (base + i - off) 0 else old.getD i 0))
    else t) s

/-- A write of the window. -/
def State.mramStore (s : State) (off : Nat) (bs : List Byte) : State := (s.mramPut off bs).recordWrite off bs

/-- Bytes of warden SRAM, or of the MRAM window, as the accelerator reads and writes them (R386). -/
def State.accBytes (s : State) (a n : Nat) : List Byte := if isMram a then s.mramShown (a - mramBase) n else s.mbytes a n

def State.accPut (s : State) (a : Nat) (bs : List Byte) : State :=
  if isMram a then s.mramStore (a - mramBase) bs else s.mwbytes a bs

/-- A write of which `fails` attempts fail the read-back (R417, R418): with four failures the line moves to a spare line, and
without one the write ends with an error response and 0x0F07. -/
def State.mramWrite (s : State) (m : Master) (off : Nat) (bs : List Byte) (fails : Nat) : State :=
  if fails < 4 then s.mramStore off bs
  else if 0 < s.spareFree then (s.mramRemap (off / 256)).mramStore off bs
  else
    let (k, s1) := s.freeIx
    let bad := (wordsAt off bs.length).filter (fun w => Config.failedWord (k + w))
    let s2 := (s1.mwbytes (mramBase + off) ((List.range bs.length).map (fun i => Config.failedCell (k + i)))).mramWear (off / 256)
    ((s2.setMram { s2.mram with lost := s2.mram.lost.filter (fun w => !(wordsAt off bs.length).contains w) ++ bad }).out
      (.busError m (mramBase + off))).raise 0x0F07 4

/-! The rows of the table -/

def execMramWrite (off : Fin 16777216) (bs : List Byte) (fails : Fin 5) (s : State) : Host.Outcome State Fault Refusal :=
  .next (if s.running then s.mramWrite .warden off.val bs fails.val else s)
def execOperatingHour (s : State) : Host.Outcome State Fault Refusal := .next s.operatingHour
def execScrubSlice (n : Fin 65537) (s : State) : Host.Outcome State Fault Refusal := .next (s.scrubSlice n.val)

end Sys2Proof.Machine
end

