-- ==== Sys2Proof/Machine/Cipher.lean ====
section
/-! DEFINITION. The cipher engine, its lock, the key slots, the random number generator and the accelerator (R340–R359,
R386). -/

namespace Sys2Proof.Machine

def State.setSec (s : State) (x : SecState) : State := { s with sec := x }

/-- The warden as a requester of the engine lock (R347). -/
def wardenReq : Nat := 64

/-! Free random words -/

/-- `n` words of one output: free values. -/
def State.freeWords (s : State) : Nat → State × List Word
  | 0 => (s, [])
  | n + 1 =>
    let (k, s1) := s.freeIx
    let (s2, l) := s1.freeWords n
    (s2, Config.drbgWord k :: l)

/-- The DRBG reseeds: a new reseed interval. Once the entropy source has failed it goes on with its last seed (R356). -/
def State.reseed (s : State) : State :=
  if s.fldB SEC_RNG_STATUS SEC_RNG_STATUS_failed then s else s.setSec { s.sec with failures := 0, requests := 0 }

/-- A request to the DRBG; it reseeds after 2^20 of them (R356). -/
def State.drbgUse (s : State) : State :=
  let s1 := s.setSec { s.sec with requests := s.sec.requests + 1 }
  if 2 ^ 20 ≤ s1.sec.requests then s1.reseed else s1

/-- Take `n` words from the DRBG in one request (R356). -/
def State.randomWords (s : State) (n : Nat) : State × List Word := s.drbgUse.freeWords n

def wordBytes (l : List Word) : List Byte := l.flatMap (fun w => leBytes 4 w.toNat)

/-! Slots (R341–R343) -/

/-- Attributes of a slot in the layout of SEC_SLOT_n; the root slots are fixed (R343). -/
def State.slotAttr (s : State) (n : Nat) : Nat :=
  if n < 64 then (s.rd (SEC_SLOT n)).toNat
  else if n = 65 ∧ Config.customerKek.isNone then 2 ^ 20
  else if n < 68 then 1 + 1 * 2 + 8 * 8 + (if n = 64 ∨ n = 65 then 2 ^ 15 else 0) + 2 ^ 20
  else 0

def State.slotKey (s : State) (n : Nat) : List Byte :=
  if n < 64 then tget [] s.sec.keys n
  else if n = 65 then Config.customerKek.getD []
  else if n = 66 then Config.bundleKey (Config.rootKey 64) ((List.range 4).map (tget [] s.otp.roots))
  else Config.rootKey n

def State.slotLoaded (s : State) (n : Nat) : Bool := bit 0 (s.slotAttr n)

def attrType (a : Nat) : Nat := bits 2 1 a
def attrLen (a : Nat) : Nat := 4 * bits 7 3 a

/-- The key check value (R341): the first three bytes of the CMAC or HMAC of a message of length zero. -/
def kcvOf (attr : Nat) (key : List Byte) : Nat :=
  leNat ((if attrType attr = 2 then hmac256 key [] else aesCmac key []).take 3)

/-- Attributes that a slot may take (R346): type 0 to 2 with its key length. -/
def attrValid (a : Nat) : Bool :=
  let w := bits 7 3 a
  match attrType a with
  | 0 => w == 4
  | 1 => w == 8
  | 2 => decide (4 ≤ w ∧ w ≤ 16)
  | _ => false

/-- A key operation uses the slot as src or kek (R354). -/
def KopOp.uses (k : KopOp) (n : Nat) : Bool :=
  (k.op == 1 || k.op == 2 || k.op == 3) && k.src == n || k.op == 2 && k.kek == n

/-- The users that hold the key of a slot hold its old key from here on: an engine or key operation, and the MACsec frames in
progress (R354). -/
def State.markStale (s : State) (n : Nat) : State :=
  let tx (x : Xfer) : Xfer := { x with tx := x.tx.map (fun (t : TxFrame) => { t with stale := t.stale || t.slot == some n }) }
  let rx (p : EthPort) : EthPort := { p with rx := p.rx.map (fun (r : RxFrame) => { r with stale := r.stale || r.slot == some n }) }
  { s with
    sec := { s.sec with
      eng := s.sec.eng.map (fun (e : SecOp) => { e with stale := e.stale || (e.slot == n && e.early.isNone) })
      kop := s.sec.kop.map (fun (k : KopOp) => { k with stale := if k.uses n then n :: k.stale else k.stale }) }
    sw := { s.sw with xfers := s.sw.xfers.map tx }
    eth := s.eth.map (fun (e : Nat × EthPort) => (e.1, rx e.2)) }

/-- A rewrite of the slot is staged: somebody holds its old key (R354). -/
def State.slotPending (s : State) (n : Nat) : Bool :=
  s.sec.eng.any (fun e => e.stale && e.slot == n) || s.sec.kop.any (fun k => k.stale.contains n) ||
    s.sw.xfers.any (fun x => x.tx.any (fun t => t.stale && t.slot == some n)) ||
    s.eth.any (fun e => e.2.rx.any (fun r => r.stale && r.slot == some n))

/-- A slot is loaded: attributes and check value show the new key at once; whoever holds the old key goes on with it (R354). -/
def State.loadSlot (s : State) (n attr : Nat) (key : List Byte) : State :=
  let s1 := s.markStale n
  ((s1.wr (SEC_SLOT n) (BitVec.ofNat 32 (1 + (attr / 2 % 2 ^ 18) * 2))).wr (SEC_SLOT_KCV n)
    (BitVec.ofNat 32 (kcvOf attr key))).setSec { s1.sec with keys := tset [] s.sec.keys n key }

def State.secCount (s : State) (k : Nat) : State :=
  if k = 0 then s.wr (SEC_CNT 0) (s.rd (SEC_CNT 0) + 1) else s.bump (SEC_CNT k)

/-! The engine lock (R347–R349) -/

/-- Queue a requester; one that is queued or holds the lock is not queued again. -/
def State.lockRequest (s : State) (q : Nat) : State :=
  if s.sec.owner = some q ∨ q ∈ s.sec.queue then s else s.setSec { s.sec with queue := s.sec.queue ++ [q] }

def State.lockWithdraw (s : State) (q : Nat) : State := s.setSec { s.sec with queue := s.sec.queue.filter (· != q) }

/-- The warden's release: the lock is free, or its queued request is withdrawn. -/
def State.lockRelease (s : State) : State :=
  if s.sec.owner = some wardenReq then s.setSec { s.sec with owner := none } else s.lockWithdraw wardenReq

/-! Engine operations (R265, R340, R350–R352) -/

structure Desc where
  alg : Nat
  slot : Nat
  tagLen : Nat
  src : Nat
  len : Nat
  dst : Nat
  aad : Nat
  aadLen : Nat
  iv : Nat
  tag : Nat
  deriving DecidableEq, Repr

def descOf (w : List Nat) : Desc :=
  let x (k : Nat) := w.getD k 0
  { alg := bits 3 0 (x 0), slot := bits 9 4 (x 0), tagLen := bits 23 16 (x 0), src := x 1, len := bits 13 0 (x 2), dst := x 3
    aad := x 4, aadLen := bits 13 0 (x 5), iv := x 6, tag := x 7 }

/-- Every field is in range and what the layout calls zero is zero (R265). -/
def Desc.fieldsOk (w : List Nat) : Bool :=
  let d := descOf w
  let x (k : Nat) := w.getD k 0
  decide (1 ≤ d.alg ∧ d.alg ≤ 7) && d.len ≤ 9216 && bits 15 10 (x 0) == 0 && bits 31 24 (x 0) == 0 && bits 31 14 (x 2) == 0 &&
    decide (d.aadLen ≤ 9216) && bits 31 14 (x 5) == 0 &&
    (d.alg == 5 || decide (1 ≤ d.tagLen ∧ d.tagLen ≤ if d.alg < 6 then 16 else 32))

/-- Ranges that the operation reads and writes: (address, length, written). -/
def Desc.ranges (d : Desc) : List (Nat × Nat × Bool) :=
  let ivLen := if d.alg = 5 then 16 else 12
  [(d.src, d.len, false)] ++
    (if d.alg = 3 ∨ d.alg = 4 ∨ d.alg = 5 then [(d.dst, d.len, true), (d.iv, ivLen, false)] else []) ++
    (if d.alg = 3 ∨ d.alg = 4 then [(d.aad, d.aadLen, false)] else []) ++
    (if d.alg = 5 then [] else [(d.tag, d.tagLen, d.alg = 1 || d.alg = 3 || d.alg = 6)])

/-- Warden SRAM, which the warden's descriptor addresses by byte offset (R352). -/
def sramBase : Nat := 0x01000000
def sramSize : Nat := 0x400000

def State.rangeOk (s : State) (q : Nat) (x : Nat × Nat × Bool) : Bool :=
  if q = wardenReq then x.2.1 == 0 || decide (x.1 + x.2.1 ≤ sramSize)
  else match s.inv q with
    | some iv => if x.2.2 then s.writableRange iv.ev.routine x.1 x.2.1 else s.readable iv.ev.routine x.1 x.2.1
    | none => false

def State.opBytes (s : State) (q a n : Nat) : List Byte :=
  if q = wardenReq then s.mbytes (sramBase + a) n
  else match s.inv q with
    | some iv => s.viewBytes q iv a n
    | none => []

def State.opWrite (s : State) (q a : Nat) (bs : List Byte) : State :=
  if q = wardenReq then s.mwbytes (sramBase + a) bs
  else match s.inv q with
    | some iv => s.viewWrite q iv a bs
    | none => s

/-- Whether the slot's attributes permit the algorithm to this requester (R342). -/
def State.keyUse (s : State) (q : Nat) (d : Desc) : Bool :=
  let a := s.slotAttr d.slot
  let u := if d.alg ≤ 2 then bit 10 a else if d.alg ≤ 4 then bit 11 a else if d.alg = 5 then bit 12 a else bit 13 a
  let ty := if d.alg ≤ 5 then attrType a ≤ 1 else attrType a = 2
  let who :=
    if q = wardenReq then bit 17 a
    else bit 16 a && (match s.inv q with | some iv => (s.routine iv.ev.routine).keyMask.testBit d.slot | none => false)
  u && ty && who

/-- The operation's refusal at its setup: BAD_DESC, then KEY_EMPTY, then KEY_USE (R266, R342). -/
def State.opRefusal (s : State) (q : Nat) (w : List Nat) : Option Nat :=
  let d := descOf w
  if !(Desc.fieldsOk w) || !(d.ranges.all (s.rangeOk q)) then some 13
  else if !s.slotLoaded d.slot then some 10
  else if !s.keyUse q d then some 11
  else none

/-- An operation begins: the setup reads the descriptor and the slot. -/
def State.opStart (s : State) (q : Nat) (w : List Nat) : State :=
  let d := descOf w
  s.setSec { s.sec with eng := some { req := q, desc := w, slot := d.slot, key := s.slotKey d.slot, early := s.opRefusal q w } }

/-- What an operation computes: the output and the tag it writes, or none where the tag does not match (R340, R351). -/
def opCompute (d : Desc) (key msg aad iv tag : List Byte) : Option (List Byte × List Byte) :=
  match d.alg with
  | 1 => some ([], (aesCmac key msg).take d.tagLen)
  | 2 => if (aesCmac key msg).take d.tagLen = tag then some ([], []) else none
  | 3 =>
    let ct := gcmCrypt key iv msg
    some (ct, (gcmTag key iv aad ct).take d.tagLen)
  | 4 => if (gcmTag key iv aad msg).take d.tagLen = tag then some (gcmCrypt key iv msg, []) else none
  | 5 => some (aesCtr 32 key iv msg, [])
  | 6 => some ([], (hmac256 key msg).take d.tagLen)
  | _ => if (hmac256 key msg).take d.tagLen = tag then some ([], []) else none

/-- Deliver a result to the requester: the routine's register, its pc and its counter, or SEC_ENG_STATUS (R266, R352). -/
def State.opResult (s : State) (q res : Nat) : State :=
  if q = wardenReq then
    ((s.setFld SEC_ENG_STATUS SEC_ENG_STATUS_result res).setFld SEC_ENG_STATUS SEC_ENG_STATUS_done 1).setFld SEC_ENG_CMD
      SEC_ENG_CMD_busy 0
  else match s.inv q with
    | some iv =>
      let s1 := s.setInv q { iv.setG (Fin.ofNat 32 iv.ciphRd) (BitVec.ofNat 32 res) with wait := .none, pc := iv.pc + 4 }
      if res = 0 then s1 else s1.rtCount iv.ev.routine 7
    | none => s

/-- An operation ends with a result: counted; a keeper's lock is released (R348, R359). -/
def State.opEnd (s : State) (e : SecOp) (res : Nat) : State :=
  let s1 := (s.setSec { s.sec with eng := none, owner := if e.req = wardenReq then s.sec.owner else none }).secCount 0
  let s2 := if res = 8 then s1.secCount 1 else if res = 9 then s1.secCount 2 else if res = 10 then s1.secCount 3
    else if res = 11 then s1.secCount 4 else s1
  s2.opResult e.req res

/-- The engine time has passed: output and tag are written, or the failure result alone (R350, R352). -/
def State.cipherEnd (s : State) : State :=
  match s.sec.eng with
  | none => s
  | some e =>
    match e.early with
    | some r => s.opEnd e r
    | none =>
      let d := descOf e.desc
      let msg := s.opBytes e.req d.src d.len
      let aad := s.opBytes e.req d.aad d.aadLen
      let iv := s.opBytes e.req d.iv (if d.alg = 5 then 16 else 12)
      let tag := s.opBytes e.req d.tag d.tagLen
      match opCompute d e.key msg aad iv tag with
      | some (out, t) => ((s.opWrite e.req d.dst out).opWrite e.req d.tag t).opEnd e 0
      | none => s.opEnd e 8

/-- The lock passes to the next requester; a keeper's operation begins at the grant (R347, R348). The engine is idle
then. -/
def State.lockGrant (s : State) : State :=
  match s.sec.owner, s.sec.eng, s.sec.kop, s.sec.queue with
  | none, none, none, q :: rest =>
    let s1 := s.setSec { s.sec with owner := some q, queue := rest }
    if q = wardenReq then s1
    else match s1.inv q with
      | some iv =>
        let a := iv.ciphAt
        let inShared : Bool := match s1.range iv.ev.routine a 32 with
          | some p => (p.win == .priv || p.win == .shared) && a % 4 == 0
          | none => false
        if inShared then s1.opStart q ((List.range 8).map (fun k => leNat (s1.viewBytes q iv (a + 4 * k) 4)))
        else s1.setSec { s1.sec with eng := some { req := q, desc := [], slot := 64, key := [], early := some 13 } }
      | none => s1.setSec { s1.sec with owner := none }
  | _, _, _, _ => s

/-- A keeper request has waited ciph_wait_us (R349). -/
def State.lockTimeout (s : State) (q : Nat) : State :=
  if q ∈ s.sec.queue ∧ q ≠ wardenReq then
    match s.inv q with
    | some iv => (((s.lockWithdraw q).secCount 5).opResult q 12).raiseLim 0x0C07 2 iv.ev.routine
    | none => s.lockWithdraw q
  else s

/-- SEC_ENG_CMD.go: the warden's descriptor starts; without the lock it ends with NOT_OWNER (R352). -/
def State.engineGo (s : State) : State :=
  if s.fldB SEC_ENG_CMD SEC_ENG_CMD_busy then s
  else if s.sec.owner = some wardenReq then
    (s.opStart wardenReq ((List.range 8).map (fun k => (s.rd (SEC_ENG_DESC k)).toNat))).setFld SEC_ENG_CMD SEC_ENG_CMD_busy 1
  else ((s.setFld SEC_ENG_STATUS SEC_ENG_STATUS_result 15).setFld SEC_ENG_STATUS SEC_ENG_STATUS_done 1).secCount 0

/-! Key operations (R344–R346) -/

/-- A key operation ends: the status, the data registers cleared but for the output of WRAP. -/
def State.kopEnd (s : State) (res : Nat) (out : Option (List Byte)) : State :=
  let s1 := s.setSec { s.sec with kop := none }
  let s2 := (((s1.setFld SEC_KOP_CMD SEC_KOP_CMD_busy 0).setFld SEC_KOP_STATUS SEC_KOP_STATUS_result res).setFld SEC_KOP_STATUS
    SEC_KOP_STATUS_done 1).setFld SEC_KOP_STATUS SEC_KOP_STATUS_out_len ((out.map List.length).getD 0)
  (List.range 20).foldl (fun t k => t.wr (SEC_KOP_DATA k) (BitVec.ofNat 32 (leNat (slice (4 * k) 4 (out.getD []))))) s2

/-- A refused key operation (R346); KEY_EMPTY counts (R359). -/
def State.kopRefused (s : State) (res : Nat) : State :=
  let s1 := if res = 8 then s.secCount 3 else s
  ((s1.kopEnd res none).setFld SEC_STATUS SEC_STATUS_kop_refused 1).raise 0x0B03 2

def kopBad : Nat := 7

/-- The refusal of a key operation, if any: its result code (R344, R346). While slot 65 is empty, no wrapped key can be loaded
(R343). -/
def State.kopRefusal (s : State) (op dst src kek len attr : Nat) : Option Nat :=
  let empty (n : Nat) : Bool := !s.slotLoaded n
  let isKek (n : Nat) : Bool := bit 15 (s.slotAttr n) && attrType (s.slotAttr n) == 1
  let lenW := attrLen (s.slotAttr src)
  match op with
  | 1 =>
    if 64 ≤ dst ∨ (64 ≤ src ∧ src ≠ 65) then some 2
    else if empty src ∨ empty 65 then some 8
    else if !isKek src then some 3
    else if len < 32 ∨ 80 < len ∨ len % 8 ≠ 0 then some kopBad else none
  | 2 =>
    if 64 ≤ src ∨ 64 ≤ kek then some 2
    else if empty src ∨ empty kek then some 8
    else if !bit 18 (s.slotAttr src) ∨ !isKek kek then some 3
    else if lenW % 8 ≠ 0 then some kopBad else none
  | 3 =>
    if 64 ≤ dst ∨ (64 ≤ src ∧ src ≠ 64) then some 2
    else if empty src then some 8
    else if !bit 15 (s.slotAttr src) ∨ attrType (s.slotAttr src) = 2 then some 3
    else if 64 < len ∨ !attrValid attr then some kopBad else none
  | 4 =>
    if 64 ≤ dst then some 2
    else if s.fldB SEC_RNG_STATUS SEC_RNG_STATUS_failed then some 6
    else if !attrValid attr then some kopBad else none
  | 5 => if 64 ≤ dst then some 2 else none
  | _ => some kopBad

def State.kopData (s : State) (len : Nat) : List Byte :=
  ((List.range 20).flatMap (fun k => leBytes 4 (s.rd (SEC_KOP_DATA k)).toNat)).take len

/-- SEC_KOP_CMD.go (R344). -/
def State.kopGo (s : State) (v : Nat) : State :=
  let f (x : Fld) : Nat := x.get (BitVec.ofNat 32 v)
  let len := s.fld SEC_KOP_LEN SEC_KOP_LEN_len
  let attr := (s.rd SEC_KOP_ATTR).toNat
  let dst := f SEC_KOP_CMD_dst
  let src := f SEC_KOP_CMD_src
  let kek := f SEC_KOP_CMD_kek
  let op := f SEC_KOP_CMD_op
  if s.sec.owner ≠ some wardenReq then s.kopEnd 1 none
  else match s.kopRefusal op dst src kek len attr with
    | some r => s.kopRefused r
    | none =>
      (s.setSec { s.sec with kop := some { op := op, dst := dst, src := src, kek := kek, attr := attr, data := s.kopData len
                                           srcKey := s.slotKey src, srcAttr := s.slotAttr src, kekKey := s.slotKey kek } }).setFld
        SEC_KOP_CMD SEC_KOP_CMD_busy 1

/-- A write of SEC_KOP_CMD: go is ignored while an operation is in progress. -/
def State.kopCmdWrite (s : State) (v : Word) : State :=
  let s1 := s.wrPlain SEC_KOP_CMD v
  if v.toNat.testBit 24 ∧ s.sec.kop.isNone then s1.kopGo v.toNat else s1

/-- The header of a wrapped blob obeys R345 for slot `dst`. -/
def blobOk (pt : List Byte) (dst : Nat) : Bool :=
  let w0 := leNat (slice 0 4 pt)
  let w1 := leNat (slice 4 4 pt)
  !bit 0 w0 && bits 31 19 w0 == 0 && w1 == dst && attrValid w0 && attrLen w0 == pt.length - 8

/-- Output of the key derivation: PRF(i ‖ data ‖ L) for i from 1 (R344). -/
def deriveKey (key data : List Byte) (n : Nat) : List Byte :=
  ((List.range ((n + 15) / 16)).flatMap (fun i => aesCmac key (beBytes 1 (i + 1) ++ data ++ beBytes 2 (8 * n)))).take n

def State.unwrap (s : State) (k : KopOp) : State :=
  match kwUnwrap k.srcKey k.data with
  | some pt =>
    if blobOk pt k.dst then (s.loadSlot k.dst (leNat (slice 0 4 pt)) (pt.drop 8)).kopEnd 0 none
    else (s.kopEnd 4 none).raise 0x0B07 4
  | none => (s.kopEnd 4 none).raise 0x0B07 4

def State.wrap (s : State) (k : KopOp) : State :=
  let pt := leBytes 4 (k.srcAttr / 2 % 2 ^ 18 * 2) ++ leBytes 4 k.src ++ k.srcKey
  s.kopEnd 0 (some (kwWrap k.kekKey pt))

def State.derive (s : State) (k : KopOp) : State :=
  (s.loadSlot k.dst k.attr (deriveKey k.srcKey k.data (attrLen k.attr))).kopEnd 0 none

def State.generate (s : State) (k : KopOp) : State :=
  let (s1, l) := s.randomWords (bits 7 3 k.attr)
  (s1.loadSlot k.dst k.attr (wordBytes l)).kopEnd 0 none

/-- An abort by the erase of a slot: SEC_STATUS.key_erased and 0x0B02 (R354). -/
def State.eraseAbort (s : State) (n : Nat) : State := (s.setFld SEC_STATUS SEC_STATUS_key_erased 1).raiseLim 0x0B02 2 n

/-- An erased slot that a port's associations use: the frames in progress with its key are aborted, one being sent with an
inverted FCS, one in reception discarded and counted in sec_icv_fail (R175, R354). -/
def State.macsecErased (s : State) (slot p : Nat) : State :=
  let used := (List.range 36).any (fun e =>
    let w := (s.rd (0x20080200 + 0x1000 * p + 32 * e)).toNat
    bit 0 w && bits 6 1 w == slot)
  let sent := s.sw.xfers.filter (fun x => x.output == p && x.tx.any (fun t => t.slot == some slot))
  let rx := (s.port p).rx.filter (fun x => x.slot == some slot)
  if used || !sent.isEmpty || rx.isSome then
    let s1 := sent.foldl (fun t x => t.endSent x.id p) s
    let s2 := match rx with
      | some x => (((s1.receiving p).foldl (fun (t : State) (f : Frame) => t.failFrame f.id none) s1).bump (ETH_CNT p 12)).setPort p
          { s1.port p with rx := some { x with late := 0, passed := false, slot := none } }
      | none => s1
    let s3 := (s2.setFld (ETH_SEC_STATUS p) ETH_SEC_STATUS_key_erased 1).raise 0x0807 3 p
    (if !sent.isEmpty || rx.isSome then (s3.secCount 2).eraseAbort slot else s3).spillAll
  else s

/-- ERASE of a slot (R354): its key and attributes go; every user aborts with KEY_ERASED. -/
def State.eraseSlot (s : State) (n : Nat) : State :=
  let s1 := (((s.wr (SEC_SLOT n) 0).wr (SEC_SLOT_KCV n) 0)).setSec { s.sec with keys := tset [] s.sec.keys n [] }
  let s2 := match s1.sec.eng with
    | some e => if e.slot = n ∧ e.early.isNone then (s1.opEnd e 9).eraseAbort n else s1
    | none => s1
  let s3 := match s2.sec.kop with
    | some k =>
      if k.uses n then (s2.setSec { s2.sec with kop := some { k with erased := true } }).eraseAbort n else s2
    | none => s2
  (List.range 20).foldl (fun t p => t.macsecErased n p) s3

def State.erase (s : State) (k : KopOp) : State := (s.eraseSlot k.dst).kopEnd 0 none

/-- The key operation in progress completes (R344). -/
def State.kopComplete (s : State) (op : Nat) : State :=
  match s.sec.kop with
  | some k =>
    if k.op ≠ op then s
    else if k.erased then (s.kopEnd 5 none).secCount 2
    else match op with
      | 1 => s.unwrap k
      | 2 => s.wrap k
      | 3 => s.derive k
      | 4 => s.generate k
      | _ => s.erase k
  | none => s

/-- The warden's hold limit expires (R348). -/
def State.holdExceeded (s : State) : State :=
  if s.sec.owner = some wardenReq then
    let s1 := match s.sec.eng with
      | some e => s.opEnd e 14
      | none => s
    let s2 := if s1.sec.kop.isSome then s1.kopEnd 9 none else s1
    (((s2.setSec { s2.sec with owner := none }).setFld SEC_LOCK_STATUS SEC_LOCK_STATUS_hold_exceeded 1).secCount 6).raise
      0x0B01 3
  else s

/-! Random numbers (R356) -/

/-- The random word queue refills by one word. -/
def State.rngRefill (s : State) : State :=
  if s.sec.rng.length < 8 then
    let (s1, l) := s.randomWords 1
    s1.setSec { s1.sec with rng := s1.sec.rng ++ l }
  else s

def State.rngAck (s : State) : State := s.setSec { s.sec with rng := s.sec.rng.drop 1 }

/-- A health test fails (R356). -/
def State.trngFail (s : State) : State :=
  let s1 := ((s.setFld SEC_RNG_STATUS SEC_RNG_STATUS_health_fail 1).addFld SEC_RNG_STATUS SEC_RNG_STATUS_restarts 1).raise
    0x0B04 3
  let n := s.sec.failures + 1
  let s2 := s1.setSec { s1.sec with failures := n }
  if 3 ≤ n ∧ !s2.fldB SEC_RNG_STATUS SEC_RNG_STATUS_failed then
    (s2.setFld SEC_RNG_STATUS SEC_RNG_STATUS_failed 1).raise 0x0B05 5
  else s2

/-! The SHA-256 and RSA accelerator (R386) -/

/-- Bytes at physical addresses in warden SRAM or in the MRAM window. -/
def accRange (a n : Nat) : Bool :=
  decide (0x01000000 ≤ a ∧ a + n ≤ 0x01400000) || decide (0x10000000 ≤ a ∧ a + n ≤ 0x11000000)

/-- A hash step is in progress (R386). -/
def State.shaBusy (s : State) : Bool := decide (s.elapsed < s.sec.shaUntil)

/-- The time of an update, in ns: at most 120 ns for each block (R386). -/
def shaTime (n : Nat) : Nat := min (120 * ((n + 63) / 64)) (Config.shaNs n)

/-- A write of SEC_SHA_CMD; one during busy is ignored. A range outside gives BAD, in the accelerator's one result field. -/
def State.shaCmd (s : State) (v : Nat) : State :=
  if s.shaBusy then s
  else
    let s1 := if bit 0 v then s.setSec { s.sec with sha := [] } else s
    let a := (s1.rd SEC_SHA_SRC).toNat
    let n := s1.fld SEC_SHA_LEN SEC_SHA_LEN_len
    let s2 := if !bit 1 v then s1
      else if accRange a n then s1.setSec { s1.sec with sha := s1.sec.sha ++ s1.accBytes a n, shaUntil := s1.elapsed + shaTime n }
      else s1.wr SEC_PKA_STATUS (BitVec.ofNat 32 (2 + 4))
    if bit 2 v then
      let d := sha256 s2.sec.sha
      (List.range 8).foldl (fun t k => t.wr (SEC_SHA_DIGEST k) (BitVec.ofNat 32 (leNat (slice (4 * k) 4 d)))) s2
    else s2

/-- The mask generation function MGF1 over SHA-256 (RFC 8017). -/
def mgf1 (seed : List Byte) (n : Nat) : List Byte :=
  ((List.range ((n + 31) / 32)).flatMap (fun i => sha256 (seed ++ beBytes 4 i))).take n

/-- The encoded message of RSASSA-PSS for a 3,072-bit modulus with a 32-byte salt (R360). -/
def pssEncode (digest salt : List Byte) : List Byte :=
  let h := sha256 (List.replicate 8 0 ++ digest ++ salt)
  let db := List.replicate 318 (0 : Byte) ++ [1] ++ salt
  let masked : List Byte := (db.zip (mgf1 h 351)).map (fun x => x.1 ^^^ x.2)
  let top : List Byte := match masked with
    | [] => []
    | b :: bs => (b &&& 0x7F) :: bs
  top ++ h ++ ([0xBC] : List Byte)

/-- Verify the encoded message of a signature: the salt is taken from it (R360). -/
def pssCheck (digest em : List Byte) : Bool :=
  let h := slice 351 32 em
  let db := ((em.take 351).zip (mgf1 h 351)).map (fun x => x.1 ^^^ x.2)
  em == pssEncode digest (db.drop 319)

def rsaVerify (modulus digest signature : List Byte) : Bool :=
  let n := beNat modulus
  let m := beNat signature
  decide (m < n) && pssCheck digest (beBytes 384 (powMod n 3072 m 65537 1))

/-- The signature of the attestation key over a digest; the salt is free. -/
def State.attestSign (s : State) (digest : List Byte) : Option (State × List Byte) :=
  Config.attestKey.map (fun k =>
    let (s1, l) := s.randomWords 8
    (s1, beBytes 384 (powMod k.1 3072 (beNat (pssEncode digest (wordBytes l))) k.2 1)))

def State.pkaEnd (s : State) (res : Nat) : State :=
  ((s.setSec { s.sec with pka := none }).setFld SEC_PKA_CMD SEC_PKA_CMD_busy 0).wr SEC_PKA_STATUS (BitVec.ofNat 32 (res + 4))

/-- A write of SEC_PKA_CMD: go is ignored while an operation is in progress. -/
def State.pkaCmdWrite (s : State) (v : Word) : State :=
  let s1 := s.wrPlain SEC_PKA_CMD v
  if v.toNat.testBit 2 ∧ s.sec.pka.isNone then
    let op := v.toNat % 4
    let a := (s1.rd SEC_PKA_ADDR).toNat
    if (op = 1 ∧ accRange a 800) ∨ (op = 2 ∧ accRange a 416) then
      (s1.setSec { s1.sec with pka := some (op, a) }).setFld SEC_PKA_CMD SEC_PKA_CMD_busy 1
    else s1.pkaEnd 2
  else s1

def State.pkaVerify (s : State) : State :=
  match s.sec.pka with
  | some (1, a) => s.pkaEnd (if rsaVerify (s.accBytes a 384) (s.accBytes (a + 384) 32) (s.accBytes (a + 416) 384) then 0 else 1)
  | _ => s

def State.pkaSign (s : State) : State :=
  match s.sec.pka with
  | some (2, a) =>
    (match s.attestSign (s.accBytes a 32) with
    | some (s1, sig) => (s1.accPut (a + 32) sig).pkaEnd 0
    | none => s.pkaEnd 3)
  | _ => s

/-! SEC registers (R358) -/

def State.secWrite (s : State) (off : Nat) (v : Word) : State :=
  let a := 0x200D0000 + off
  let n := v.toNat
  if off = 0x0004 then
    let s1 := if bit 0 n then s.lockRequest wardenReq else s
    if bit 1 n then s1.lockRelease else s1
  else if off = 0x0120 then if bit 0 n then s.engineGo else s
  else if off = 0x0200 then s.kopCmdWrite v
  else if off = 0x0308 then if bit 0 n then s.rngAck else s
  else if off = 0x0480 then if bit 0 n then s.clearRegs ((List.range 8).map SEC_CNT) else s
  else if off = 0x0800 then s.pkaCmdWrite v
  else if off = 0x0818 then s.shaCmd n
  else s.wrPlain a v

def State.secRead (s : State) (off : Nat) : Option Nat :=
  if off = 0x0008 then
    some (s.sec.owner.getD 127 + s.sec.queue.length * 2 ^ 7 + boolNat (s.sec.queue.contains wardenReq) * 2 ^ 14 +
      s.fld SEC_LOCK_STATUS SEC_LOCK_STATUS_hold_exceeded * 2 ^ 15)
  else if off = 0x0300 then some (s.sec.rng.headD 0).toNat
  else if off = 0x0818 then some (boolNat s.shaBusy * 8)
  else if off = 0x0304 then some ((s.rd SEC_RNG_STATUS).toNat / 16 * 16 + s.sec.rng.length)
  else if 0x1000 ≤ off ∧ off < 0x1200 ∧ off % 8 = 0 then
    let k := (off - 0x1000) / 8
    some (s.slotAttr k + boolNat (s.slotPending k) * 2 ^ 19)
  else if 0x1200 ≤ off ∧ off < 0x1220 then
    let k := 64 + (off - 0x1200) / 8
    some (if off % 8 = 0 then s.slotAttr k
      else if off % 8 = 4 ∧ s.slotLoaded k then kcvOf (s.slotAttr k) (s.slotKey k) else 0)
  else none

/-! The rows of the table -/

def execLockGrant (s : State) : Host.Outcome State Fault Refusal := .next s.lockGrant
def execLockTimeout (c : Fin 64) (s : State) : Host.Outcome State Fault Refusal := .next (s.lockTimeout c.val)
def execHoldExceeded (s : State) : Host.Outcome State Fault Refusal := .next s.holdExceeded
def execCipherOperationEnd (s : State) : Host.Outcome State Fault Refusal := .next s.cipherEnd
def execUnwrap (s : State) : Host.Outcome State Fault Refusal := .next (s.kopComplete 1)
def execWrap (s : State) : Host.Outcome State Fault Refusal := .next (s.kopComplete 2)
def execDerive (s : State) : Host.Outcome State Fault Refusal := .next (s.kopComplete 3)
def execGenerate (s : State) : Host.Outcome State Fault Refusal := .next (s.kopComplete 4)
def execErase (s : State) : Host.Outcome State Fault Refusal := .next (s.kopComplete 5)
def execTrngHealthFail (s : State) : Host.Outcome State Fault Refusal := .next s.trngFail
def execDrbgReseed (s : State) : Host.Outcome State Fault Refusal := .next s.reseed
def execVerify (s : State) : Host.Outcome State Fault Refusal := .next s.pkaVerify
def execAttestSign (s : State) : Host.Outcome State Fault Refusal := .next s.pkaSign

end Sys2Proof.Machine
end

