-- ==== Sys2Proof/Machine/Fabric.lean ====
section
/-! DEFINITION. The fabric: headers, hellos and link states, the head, addressing, routes (R303–R317, R332). -/

namespace Sys2Proof.Machine

/-! Headers (R304, R305) -/

def FabHdr.bytes (h : FabHdr) (length : Nat) : List Byte :=
  beBytes 1 (16 + h.type) ++ beBytes 1 (h.tc * 32 + h.colour * 8 + boolNat h.seqValid * 4) ++ beBytes 1 h.dst ++ beBytes 1 h.src ++
    beBytes 2 h.epoch ++ beBytes 2 h.seq ++ beBytes 1 h.hop ++ [0] ++ beBytes 2 length ++ beBytes 4 h.tag

/-- The header of a fabric frame's bytes after the outer header, and its data; none where it is bad (R306). -/
def parseFab (p : List Byte) : Option (FabHdr × List Byte) :=
  let b (i : Nat) : Nat := (p.getD i 0).toNat
  let len := beNat (slice 10 2 p)
  if p.length < 16 ∨ b 0 / 16 ≠ 1 ∨ b 0 % 16 = 0 ∨ 12 < b 0 % 16 ∨ p.length - 16 < len then none
  else some ({ type := b 0 % 16, tc := b 1 / 32, colour := b 1 / 8 % 4, seqValid := bit 2 (b 1), dst := b 2, src := b 3
               epoch := beNat (slice 4 2 p), seq := beNat (slice 6 2 p), hop := b 8, tag := beNat (slice 12 4 p) }, slice 16 len p)

/-! The device's place in the fabric -/

def State.fabCount (s : State) (k : Nat) : State :=
  if k = 0 ∨ k = 12 then s.wr (FAB_CNT k) (s.rd (FAB_CNT k) + 1) else s.bump (FAB_CNT k)

def State.setFab (s : State) (x : FabState) : State := { s with fab := x }

def State.fabState (s : State) : Nat := s.fld FAB_STATUS FAB_STATUS_state
def State.fabEpoch (s : State) : Nat := s.fld FAB_STATUS FAB_STATUS_epoch
def State.addressed (s : State) : Bool := s.fldB FAB_STATUS FAB_STATUS_addressed

/-- This device's fabric address; 0 without one (R261, R315). -/
def State.fabAddr (s : State) : Nat := if s.addressed then s.fld FAB_STATUS FAB_STATUS_addr else 0

/-- src of a header: 0xFE while the device has no address (R305). -/
def State.fabSrc (s : State) : Nat := if s.addressed then s.fld FAB_STATUS FAB_STATUS_addr else 0xFE

def State.fabMac (s : State) : Nat := s.fld FAB_MAC_HI FAB_MAC_HI_mac * 2 ^ 32 + (s.rd FAB_MAC_LO).toNat

/-- The bridge runs: PD11 is on, and cold forwarding has been reached (R56). -/
def State.bridgeOn (s : State) : Bool :=
  s.running && s.dev.state != .boot && s.portPolderOn 31 && s.fldB FAB_CTL FAB_CTL_en

def State.linkState (s : State) (p : Nat) : Nat := s.fld (FAB_PORT_STATUS p) FAB_PORT_STATUS_state

def State.fabPort (s : State) (p : Nat) : FabPort := tget {} s.fab.ports p

def State.setFabPort (s : State) (p : Nat) (x : FabPort) : State := s.setFab { s.fab with ports := tset {} s.fab.ports p x }

def State.peerId (s : State) (p : Nat) : Nat := s.rd64 (FAB_PEER_LO p) (FAB_PEER_HI p)

def State.headId (s : State) : Nat := s.rd64 FAB_HEAD_LO FAB_HEAD_HI

def State.isHead (s : State) : Bool := s.fldB FAB_STATUS FAB_STATUS_is_head

/-- `a` is newer than `b` as a 16-bit serial number (R311). -/
def epochNewer (a b : Nat) : Bool :=
  let d := (a + 65536 - b % 65536) % 65536
  decide (1 ≤ d ∧ d ≤ 32767)

/-! Sending -/

/-- A fabric frame of the bridge to a port. -/
def State.fabOut (s : State) (p : Nat) (h : FabHdr) (data : List Byte) (msg : Option FabMsg := none) : State :=
  s.sendInternal { input := 31, kind := .fabric, data := data, tc := h.tc, colour := h.colour, fab := some h, msg := msg
                   ts := s.tide.toNat } (2 ^ p)

/-- An addressed frame to its route's port; without a route it is discarded and counts in no_route (R316, R317). -/
def State.fabSend (s : State) (h : FabHdr) (data : List Byte) : State :=
  if h.dst < 32 ∧ s.fldB (FAB_ROUTE h.dst) FAB_ROUTE_valid then s.fabOut (s.fld (FAB_ROUTE h.dst) FAB_ROUTE_port) h data
  else s.fabCount 6

/-- A new header of this device. -/
def State.newHdr (s : State) (type tc dst tag : Nat) : FabHdr :=
  { type := type, tc := tc, dst := dst, src := s.fabSrc, epoch := s.fabEpoch, tag := tag }

/-- A flooded message over every UP, OPEN and HELD link but one (R310, R313). -/
def State.flood (s : State) (m : FabMsg) (type : Nat) (except_ : Option Nat) : State :=
  ((List.range 8).filter (fun p => s.fabLink p && decide (2 ≤ s.linkState p) && some p != except_)).foldl
    (fun t p => t.fabOut p (t.newHdr type 6 0xFF 0) [] (some m)) s

/-! The link-state database (R310–R312) -/

def ownId : Nat := Config.deviceId

/-- This device's own advertisement. -/
def State.ownLsa (s : State) : Lsa :=
  { origin := ownId, seq := s.fab.seq, headIn := s.fldB FAB_STATUS FAB_STATUS_head_in
    links := ((List.range 8).filter (fun p => s.fabLink p && decide (2 ≤ s.linkState p))).map (fun p =>
      { port := p, role := s.fld (FAB_PORT_CFG p) FAB_PORT_CFG_role, peer := s.peerId p
        peerPort := s.fld (FAB_PORT_STATUS p) FAB_PORT_STATUS_peer_port }) }

def dbOf (db : List Lsa) (id : Nat) : Option Lsa := db.find? (fun l => l.origin == id)

/-- Put an advertisement in the database, in place of its origin's earlier one; at most 64 devices. -/
def dbPut (db : List Lsa) (l : Lsa) : List Lsa :=
  if db.any (fun x => x.origin == l.origin) then db.map (fun x => if x.origin = l.origin then l else x)
  else if db.length < 64 then db ++ [l] else db

/-- The link is listed at both ends (R312). -/
def bothEnds (db : List Lsa) (o : Nat) (l : LsaLink) : Bool :=
  (dbOf db l.peer).any (fun v => v.links.any (fun m => m.peer == o && m.port == l.peerPort))

/-- Neighbours of a device over links UP at both ends, in ascending switch port; `fwd` keeps forward links only. -/
def neighbours (db : List Lsa) (fwd : Bool) (id : Nat) : List Nat :=
  match dbOf db id with
  | some x => ((x.links.filter (fun l => bothEnds db id l && (!fwd || l.role == 1))).mergeSort (fun a b => a.port ≤ b.port)).map
      (fun l => l.peer)
  | none => []

/-- One phase of R312: walk the order, which grows as neighbours are appended. -/
def orderWalk (db : List Lsa) (fwd : Bool) : Nat → Nat → List Nat → List Nat
  | 0, _, o => o
  | fuel + 1, i, o =>
    match o[i]? with
    | some id =>
      orderWalk db fwd fuel (i + 1) ((neighbours db fwd id).foldl (fun l v => if l.contains v then l else l ++ [v]) o)
    | none => o

/-- The devices in position order from a head (R312). -/
def positions (db : List Lsa) (head : Nat) : List Nat := orderWalk db false 130 0 (orderWalk db true 130 0 [head])

/-- Devices reachable from this one. -/
def State.reachable (s : State) : List Nat := orderWalk s.fab.db false 130 0 [ownId]

/-! Routes (R316) -/

/-- Layers of the breadth-first search: (device, first port) reached with `hops` hops. The lowest port of the first link
wins among routes of equal length. -/
def routeLayers (db : List Lsa) (members : List Nat) : Nat → List (Nat × Nat) → List Nat → List (List (Nat × Nat))
  | 0, _, _ => []
  | fuel + 1, layer, seen =>
    if layer = [] then []
    else
      let seen1 := seen ++ layer.map (fun x => x.1)
      let next := layer.foldl (fun (acc : List (Nat × Nat)) x =>
        (neighbours db false x.1).foldl (fun acc v =>
          if seen1.contains v || !members.contains v then acc
          else match acc.find? (fun y => y.1 == v) with
            | some y => if x.2 < y.2 then acc.map (fun z => if z.1 = v then (v, x.2) else z) else acc
            | none => acc ++ [(v, x.2)]) acc) []
      layer :: routeLayers db members fuel next seen1

/-- First hop and hops towards a device, over OPEN links. -/
def State.routeTo (s : State) (id : Nat) : Option (Nat × Nat) :=
  let members := (s.fab.members.filter (fun m => decide (m.2 < 32))).map (fun m => m.1)
  let first := ((List.range 8).filter (fun p => s.linkState p == 3)).foldl
    (fun (acc : List (Nat × Nat)) p => if acc.any (fun x => x.1 == s.peerId p) then acc else acc ++ [(s.peerId p, p)]) []
  let layers := routeLayers s.fab.db members 64 first [ownId]
  (layers.zipIdx.findSome? (fun (l, k) => (l.find? (fun x => x.1 == id)).map (fun x => (x.2, k + 1))))

/-- Compute the routes again; a member's address that has lost its route, or has none after a COMMIT, raises 0x0A0A (R316). -/
def State.computeRoutes (s : State) (commit : Bool := false) : State :=
  (List.range 32).foldl (fun t a =>
    let id := t.rd64 (FAB_MEMBER_LO a) (FAB_MEMBER_HI a)
    let old := t.fldB (FAB_ROUTE a) FAB_ROUTE_valid
    match (if id = 0 ∨ id = ownId ∨ !t.addressed then none else t.routeTo id) with
    | some (p, h) => t.wr (FAB_ROUTE a) (BitVec.ofNat 32 (p + 32 + h * 64))
    | none =>
      let t1 := t.wr (FAB_ROUTE a) 0
      if (old || (commit && t.addressed)) ∧ id ≠ 0 ∧ id ≠ ownId then t1.raise 0x0A0A 3 noInst a else t1) s

/-! Link states (R308, R309, R314, R315) -/

/-- A device is fenced: at position 32 or higher, or beyond the 64th of a full database (R314). -/
def State.fencedId (s : State) (id : Nat) : Bool :=
  s.fab.members.any (fun m => m.1 == id && decide (32 ≤ m.2)) ||
    (s.fab.db.length == 64 && !s.fab.db.any (fun l => l.origin == id))

/-- State of a link that is UP: OPEN between members with addresses, HELD beside a fenced or headless end, else UP. -/
def State.upState (s : State) (p : Nat) : Nat :=
  if s.fabState = 0 ∨ s.fabState = 2 ∨ s.fencedId (s.peerId p) ∨ (s.fabPort p).head = 0 then 4
  else if s.addressed && s.fab.members.any (fun m => m.1 == s.peerId p && decide (m.2 < 32)) then 3
  else 2

def State.setLink (s : State) (p st : Nat) : State := s.setFld (FAB_PORT_STATUS p) FAB_PORT_STATUS_state st

/-- Every link that is UP takes the state that its ends give it. -/
def State.relink (s : State) : State :=
  ((List.range 8).filter (fun p => decide (2 ≤ s.linkState p))).foldl (fun t p => t.setLink p (t.upState p)) s

/-- The placement map's words of the routines on this device carry its address (R302). -/
def State.mapAddress (s : State) : State :=
  (List.range 1024).foldl (fun t r =>
    if t.fldB (PLC_MAP r) PLC_MAP_placed ∧ !t.fldB (PLC_MAP r) PLC_MAP_remote ∧ t.fld (PLC_MAP r) PLC_MAP_fab_addr ≠ t.fabAddr
    then t.setFld (PLC_MAP r) PLC_MAP_fab_addr t.fabAddr else t) s

/-- This device becomes headless (R315). -/
def State.headless (s : State) : State :=
  let was := s.fabState
  let s1 := (((s.setFld FAB_STATUS FAB_STATUS_state 0).setFld FAB_STATUS FAB_STATUS_addr 0).setFld FAB_STATUS
    FAB_STATUS_addressed 0).setFld FAB_STATUS FAB_STATUS_is_head 0
  let s2 := (s1.wr64 FAB_HEAD_LO FAB_HEAD_HI 0).setFab { s1.fab with members := [] }
  let s3 := ((List.range 32).foldl (fun t a => t.wr64 (FAB_MEMBER_LO a) (FAB_MEMBER_HI a) 0) s2).relink.mapAddress
  if was = 0 then s3 else (s3.raise 0x0A09 2).irq 2

/-- Choose the head among the reachable devices (R310): 0 where there is none. -/
def State.chooseHead (s : State) (reach : List Nat) : Nat :=
  let act (id : Nat) : Bool := (dbOf s.fab.db id).any (fun l => l.headIn)
  let active := reach.filter act
  let lowest := active.foldl (fun m id => if m = 0 ∨ id < m then id else m) 0
  let told := ((List.range 8).filter (fun p => decide (2 ≤ s.linkState p))).map (fun p => (s.fabPort p).head)
  let cur := if s.headId ≠ 0 ∧ reach.contains s.headId then s.headId
    else (told.find? (fun h => h != 0 && reach.contains h)).getD 0
  if cur ≠ 0 then if act cur ∨ active = [] then cur else lowest else lowest

/-- The device that is followed, where there is one: an own head that has been lost is none. -/
def State.follow (s : State) (h : Nat) : State :=
  let s1 := (s.wr64 FAB_HEAD_LO FAB_HEAD_HI h).setFld FAB_STATUS FAB_STATUS_is_head (boolNat (h == ownId))
  if s1.fabState = 0 then s1.setFld FAB_STATUS FAB_STATUS_state 3 else s1

/-- The head is chosen again (R310). -/
def State.headAgain (s : State) : State :=
  let reach := s.reachable
  let n := (reach.filter (fun id => (dbOf s.fab.db id).any (fun l => l.headIn))).length
  let s1 := if 2 ≤ n ∧ !s.fab.multiHead then s.raise 0x0A08 2 else s
  let s2 := s1.setFab { s1.fab with multiHead := decide (2 ≤ n) }
  let h := s2.chooseHead reach
  if h = 0 then s2.headless else s2.follow h

/-- The database has changed: routes, the head, and the settle time (R310, R313, R316). -/
def State.dbChanged (s : State) : State :=
  let s1 := (s.setFab { s.fab with open_ := none }).headAgain
  (s1.setFab { s1.fab with settling := s1.isHead }).computeRoutes

/-- A neighbour's hello names another head: the choice may change, which starts a settle time of its own at a new head (R310). -/
def State.headTold (s : State) : State :=
  let s1 := s.headAgain
  if s1.headId = s.headId then s1
  else (s1.setFab { s1.fab with open_ := none, settling := s1.isHead }).computeRoutes

/-- A fresh LSA of this device: stored, flooded (R310). -/
def State.lsaSend (s : State) : State :=
  let s1 := s.setFab { s.fab with seq := (s.fab.seq + 1) % 2 ^ 32 }
  let l := s1.ownLsa
  let s2 := s1.setFab { s1.fab with db := dbPut s1.fab.db l }
  s2.flood (.lsa l) 2 none

/-- The LSA after a change of this device's links or HEAD input. -/
def State.linksChanged (s : State) : State := s.lsaSend.dbChanged

/-- A link goes DOWN, and on to PROBING where its PHY link allows it (R309). What leaves UP, OPEN or HELD counts, and changes the
LSA. -/
def State.fabLinkLost (s : State) (p next : Nat) : State :=
  let was := s.linkState p
  let s1 := (((s.setLink p next).setFabPort p {}).wr64 (FAB_PEER_LO p) (FAB_PEER_HI p) 0).setFld (FAB_PORT_STATUS p)
    FAB_PORT_STATUS_peer_port 0
  if 2 ≤ was then
    (((s1.setFld (FAB_PORT_STATUS p) FAB_PORT_STATUS_went_down 1).fabCount 1).raise 0x0A02 2 p).linksChanged
  else if was = 1 then s1.raise 0x0A02 2 p
  else s1

/-- The PHY link of a fabric port goes up or down (R308, R309). -/
def State.fabPhy (s : State) (p : Nat) (up : Bool) : State :=
  if s.fabLink p ∧ s.bridgeOn then (if up then (if s.linkState p = 0 then s.setLink p 1 else s) else s.fabLinkLost p 0) else s

/-- FAB_CTL.en or a port's role has changed: links that are no fabric links any more are DOWN. -/
def State.fabRefresh (s : State) : State :=
  (List.range 8).foldl (fun t p =>
    if t.fabLink p ∧ t.bridgeOn then (if t.linkUp p ∧ t.linkState p = 0 then t.setLink p 1 else t)
    else if t.linkState p ≠ 0 then t.fabLinkLost p 0 else t) s

/-! Hellos (R307, R308) -/

/-- The 32 data bytes of a hello. -/
def State.helloData (s : State) (p : Nat) : List Byte :=
  let x := s.fabPort p
  let heard := if x.heard ∧ s.elapsed ≤ x.last + 3000000 then x.peer else 0
  beBytes 8 ownId ++ beBytes 6 s.fabMac ++ beBytes 1 p ++ beBytes 1 (s.fld (FAB_PORT_CFG p) FAB_PORT_CFG_role) ++
    beBytes 8 heard ++ beBytes 8 s.headId

def State.helloSend (s : State) (p : Nat) : State :=
  if s.bridgeOn ∧ s.fabLink p ∧ s.linkUp p then s.fabOut p (s.newHdr 1 6 0xFF 0) (s.helloData p) else s

/-- An epoch has been seen: the highest is kept (R311). -/
def State.sawEpoch (s : State) (e : Nat) : State :=
  s.setFab { s.fab with maxEpoch := match s.fab.maxEpoch with
    | some m => if epochNewer e m then some e else some m
    | none => some e }

/-- A received hello on link `p`. -/
def State.helloTake (s : State) (p : Nat) (h : FabHdr) (d : List Byte) : State :=
  let id := beNat (slice 0 8 d)
  let s0 := s.fabCount 0
  let changed := decide (2 ≤ s0.linkState p) && s0.peerId p != id
  let s1 := if changed then (s0.raise 0x0A03 2 p).fabLinkLost p 1 else s0
  let x := s1.fabPort p
  let heardMe := beNat (slice 16 8 d) == ownId
  let inTime := x.heard && x.peer == id && decide (s1.elapsed ≤ x.last + 1500000)
  let run := if heardMe then (if inTime then min 3 (x.run + 1) else 1) else 0
  let head := beNat (slice 24 8 d)
  let s2 := (s1.setFabPort p { run := run, last := s1.elapsed, heard := true, peer := id, mac := beNat (slice 8 6 d)
                               role := beNat (slice 15 1 d), addr := h.src, epoch := h.epoch, head := head }).sawEpoch h.epoch
  let s3 := if s2.linkState p = 0 then s2 else
    (s2.wr64 (FAB_PEER_LO p) (FAB_PEER_HI p) id).setFld (FAB_PORT_STATUS p) FAB_PORT_STATUS_peer_port (beNat (slice 14 1 d))
  if s3.linkState p = 1 ∧ run = 3 then (((s3.setLink p (s3.upState p)).raise 0x0A01 0 p).linksChanged).relink
  else if 2 ≤ s3.linkState p ∧ head ≠ x.head then s3.headTold.relink
  else s3.relink

/-- The staged frame at the head of sp31 (R22, R306). -/
def State.head31 (s : State) : Option Frame := (s.stagedAt 31).head?

def State.pop31 (s : State) : State := { s with sw := { s.sw with staged := tset [] s.sw.staged 31 ((s.stagedAt 31).drop 1) } }

/-- Take the head of sp31 where it is a fabric frame of one type; flooded types and hellos carry no address. -/
def State.take31 (s : State) (type : Nat) : Option (Frame × FabHdr × State) :=
  match s.head31 with
  | some f => match f.fab with
    | some h => if h.type = type ∧ f.kind = .fabric then some (f, h, s.pop31) else none
    | none => none
  | none => none

def State.hello (s : State) : State :=
  match s.take31 1 with
  | some (f, h, t) => if t.bridgeOn ∧ t.fabLink f.input ∧ t.linkUp f.input then t.helloTake f.input h f.data else t
  | none => s

/-- No hello for 3 ms (R309): the link returns to PROBING. -/
def State.helloTimeout (s : State) (p : Nat) : State :=
  if 2 ≤ s.linkState p then s.fabLinkLost p (if s.linkUp p then 1 else 0) else s

/-- The filtered HEAD input changes (R310). -/
def State.headChange (s : State) (level : Bool) : State :=
  let s1 := { s with pins := { s.pins with head := level } }
  if s1.running then (s1.setFld FAB_STATUS FAB_STATUS_head_in (boolNat level)).linksChanged else s1

/-! Flooded messages (R310, R313) -/

def State.seenBefore (s : State) (m : FabMsg) : Bool := s.fab.seen.contains m

def State.noteSeen (s : State) (m : FabMsg) : State := s.setFab { s.fab with seen := m :: s.fab.seen }

/-- The message is an LSA of a device. -/
def FabMsg.lsaOf (id : Nat) : FabMsg → Bool
  | .lsa x => x.origin == id
  | .assign .. | .ack .. | .commit _ => false

/-- How long a device remembers an LSA that it has flooded on, in ns. DESIGN CHOICE (assumption 119): longer than an LSA takes through
a fabric, shorter than a device's way through a reset, after which its sequence numbers start again. -/
def lsaMemory : Nat := 200000000

/-- An LSA of this origin and sequence number has been here (R310). -/
def State.lsaRepeat (s : State) (l : Lsa) : Bool :=
  (dbOf s.fab.db l.origin).any (fun x => x.seq == l.seq) ||
    s.fab.lsaSeen.any (fun x => x.1 == l.origin && x.2.1 == l.seq && decide (s.elapsed ≤ x.2.2 + lsaMemory))

def State.lsaNote (s : State) (l : Lsa) : State :=
  s.setFab { s.fab with
    seen := .lsa l :: s.fab.seen.filter (fun m => !m.lsaOf l.origin)
    lsaSeen := (l.origin, l.seq, s.elapsed) :: s.fab.lsaSeen.filter (fun x => decide (s.elapsed ≤ x.2.2 + lsaMemory)) }

/-- A received LSA: flooded once and kept; the routes are computed again, and the settle time starts again, where it says
something new. The head reports a device that is fenced for want of room (R314). -/
def State.lsaTake (s : State) (l : Lsa) : State :=
  match s.take31 2 with
  | some (f, _, t) =>
    let old := dbOf t.fab.db l.origin
    if l.origin = ownId ∨ t.lsaRepeat l then t
    else
      let known := t.fab.seen.any (FabMsg.lsaOf l.origin)
      let t1 := (t.lsaNote l).flood (.lsa l) 2 (some f.input)
      if t1.fab.db.length = 64 ∧ old.isNone then
        if t1.isHead ∧ !known then t1.raise 0x0A07 3 noInst (l.origin % 2 ^ 32) else t1
      else
        let t2 := t1.setFab { t1.fab with db := dbPut t1.fab.db l }
        if old.any (fun x => x.headIn == l.headIn && x.links == l.links) then t2 else t2.dbChanged
  | none => s

/-- Next epoch of an ASSIGN: a head raises its own by 1, a new head the highest that it has seen (R311). -/
def State.nextEpoch (s : State) : Nat :=
  ((if s.addressed ∧ s.fabAddr = 0 then s.fabEpoch else s.fab.maxEpoch.getD 0) + 1) % 65536

def State.ownAck (s : State) (a : Assign) (rep : Nat) : State := s.flood (.ack ownId a.epoch rep) 4 none

/-- A host access through an aperture has failed (R335). -/
def State.apertureFail (s : State) : State := (s.irq 4).raiseLim 0x0A32 2

/-- No ASSIGN of this epoch has named this device, whose database is full: it is fenced (R314). -/
def State.neverNamed (s : State) (a : Assign) : Bool :=
  s.fab.db.length == 64 && !s.fab.seen.any (fun m => match m with
    | .ack id e _ => id == ownId && e == a.epoch
    | .lsa _ | .assign .. | .commit _ => false)

/-- The COMMIT takes effect at this device (R313, R331). -/
def State.commitTake (s : State) (a : Assign) : State :=
  let mine := (a.order.find? (fun m => m.1 == ownId)).or (if s.neverNamed a then some (ownId, 64) else none)
  let old := s.fab.members
  let aborts := s.fab.reads.length + s.fab.writes.length
  let s1 := (List.range 32).foldl (fun t k =>
    t.wr64 (FAB_MEMBER_LO k) (FAB_MEMBER_HI k) (((a.order.find? (fun m => m.2 == k)).map (fun m => m.1)).getD 0)) s
  let s2 := (s1.sawEpoch a.epoch).setFab { (s1.sawEpoch a.epoch).fab with
    members := a.order, open_ := none, reads := [], writes := [], early := [], issued := [], applied := [], slots := [], waiting := []
    seen := s1.fab.seen.filter (fun m => match m with | .lsa _ => true | .commit b => b == a | _ => false) }
  let s2 := if s.fab.writes.any (fun w => w.aperture) then s2.apertureFail else s2
  let s3 := if aborts = 0 then s2 else (s2.bump (FAB_CNT 10) aborts).raise 0x0A12 1
  let s4 := match mine with
    | some (_, k) =>
      if k < 32 then (((s3.setFld FAB_STATUS FAB_STATUS_state 1).setFld FAB_STATUS FAB_STATUS_addr k).setFld FAB_STATUS
        FAB_STATUS_addressed 1).setFld FAB_STATUS FAB_STATUS_epoch a.epoch
      else (((s3.setFld FAB_STATUS FAB_STATUS_state 2).setFld FAB_STATUS FAB_STATUS_addr 0).setFld FAB_STATUS
        FAB_STATUS_addressed 0).raise 0x0A07 3
    | none => ((s3.setFld FAB_STATUS FAB_STATUS_state 3).setFld FAB_STATUS FAB_STATUS_addr 0).setFld FAB_STATUS
        FAB_STATUS_addressed 0
  let s4 := match a.order.find? (fun m => m.2 == 0) with
    | some m => if s4.headId = m.1 then s4 else
        (s4.wr64 FAB_HEAD_LO FAB_HEAD_HI m.1).setFld FAB_STATUS FAB_STATUS_is_head (boolNat (m.1 == ownId))
    | none => s4
  let s5 := s4.mapAddress.relink.computeRoutes true
  let s6 := (s5.raise 0x0A04 1 noInst a.epoch).irq 2
  let s7 := if s6.isHead then
      let joined := a.order.filter (fun m => decide (m.2 < 32) && m.1 != ownId && !old.any (fun o => o.1 == m.1 && decide (o.2 < 32)))
      let left := old.filter (fun o => decide (o.2 < 32) && !a.order.any (fun m => m.1 == o.1 && decide (m.2 < 32)))
      let t := joined.foldl (fun t m => t.raise 0x0A05 1 noInst (m.1 % 2 ^ 32)) s6
      let t1 := left.foldl (fun t m => t.raise 0x0A06 2 noInst (m.1 % 2 ^ 32)) t
      (a.order.filter (fun m => decide (32 ≤ m.2) && m.1 != ownId)).foldl (fun t m => t.raise 0x0A07 3 noInst (m.1 % 2 ^ 32)) t1
    else s6
  /- held frames of the new epoch go on (R317) -/
  let (now, rest) := s7.fab.held.partition (fun x => match x.2.fab with | some h => h.epoch == a.epoch | none => true)
  { s7.setFab { s7.fab with held := rest } with
    sw := { s7.sw with staged := tset [] s7.sw.staged 31 (now.map (fun x => x.2) ++ s7.stagedAt 31) } }

/-- Every device that the ASSIGN names has acknowledged, or the fourth has been sent: the head floods the COMMIT. -/
def State.commitSend (s : State) (a : Assign) (acks : List Nat) : State :=
  let c : Assign := { a with order := a.order.filter (fun m => acks.contains m.1) }
  ((s.noteSeen (.commit c)).flood (.commit c) 5 none).commitTake c

/-- The settle time ends at the head (R311, R313): addresses are assigned again only when the head or the set of devices has
changed. -/
def State.settleEnd (s : State) : State :=
  if s.fab.settling then
    let s0 := s.setFab { s.fab with settling := false }
    if s0.isHead then
      let order := positions s0.fab.db ownId
      let named := order.zipIdx
      let same := s0.addressed && s0.fabAddr == 0 && order.length == s0.fab.members.length &&
        order.all (fun id => s0.fab.members.any (fun m => m.1 == id))
      if same then s0
      else
        let a : Assign := { epoch := s0.nextEpoch, order := named }
        let s1 := (s0.setFab { s0.fab with open_ := some (a, 1, [ownId]) }).flood (.assign a 1) 3 none
        if order = [ownId] then s1.commitSend a [ownId] else s1
    else s0
  else s

/-- Every 10 ms the ASSIGN is repeated, at most four times in all; 10 ms after the fourth the head commits (R313). -/
def State.assignRepeat (s : State) : State :=
  match s.fab.open_ with
  | some (a, n, acks) =>
    if 4 ≤ n then s.commitSend a acks
    else (s.setFab { s.fab with open_ := some (a, n + 1, acks) }).flood (.assign a (n + 1)) 3 none
  | none => s

/-- A received ASSIGN: flooded on once; a device that it names acknowledges (R313). -/
def State.assignTake (s : State) (a : Assign) (rep : Nat) : State :=
  match s.take31 3 with
  | some (f, _, t) =>
    if t.seenBefore (.assign a rep) then t
    else
      let t1 := (t.noteSeen (.assign a rep)).flood (.assign a rep) 3 (some f.input)
      if a.order.any (fun m => m.1 == ownId) then (t1.noteSeen (.ack ownId a.epoch rep)).ownAck a rep else t1
  | none => s

/-- A received ACK: flooded on once; the head records it and commits when all have acknowledged (R313). -/
def State.ackTake (s : State) (id epoch rep : Nat) : State :=
  match s.take31 4 with
  | some (f, _, t) =>
    if t.seenBefore (.ack id epoch rep) then t
    else
      let t1 := (t.noteSeen (.ack id epoch rep)).flood (.ack id epoch rep) 4 (some f.input)
      match t1.fab.open_ with
      | some (a, n, acks) =>
        if a.epoch = epoch ∧ a.order.any (fun m => m.1 == id) then
          let acks1 := if acks.contains id then acks else id :: acks
          if a.order.all (fun m => acks1.contains m.1) then t1.commitSend a acks1
          else t1.setFab { t1.fab with open_ := some (a, n, acks1) }
        else t1
      | none => t1
  | none => s

/-- A COMMIT of an epoch that this device has left behind: its own, or an older one of the head that it follows (R311). -/
def State.oldCommit (s : State) (a : Assign) : Bool :=
  s.addressed && (a.epoch == s.fabEpoch ||
    (!epochNewer a.epoch s.fabEpoch && a.order.any (fun m => m.2 == 0 && m.1 == s.headId)))

/-- A received COMMIT: flooded on once and taken (R313). -/
def State.commitRecv (s : State) (a : Assign) : State :=
  match s.take31 5 with
  | some (f, _, t) =>
    if t.seenBefore (.commit a) ∨ t.oldCommit a then t
    else ((t.noteSeen (.commit a)).flood (.commit a) 5 (some f.input)).commitTake a
  | none => s

/-! Addressed frames at sp31 (R317) -/

def State.staleFrame (s : State) : State := (s.fabCount 3).raiseLim 0x0A13 1

/-- The frame at the head of sp31 is for this device, in its epoch: taken by its function. -/
def State.mine31 (s : State) (type : Nat) : Option (Frame × FabHdr × State) :=
  match s.take31 type with
  | some (f, h, t) => if s.addressed ∧ h.dst = s.fabAddr ∧ h.epoch = s.fabEpoch then some (f, h, t) else none
  | none => none

/-! What leaves in order (R322, R327, R332) -/

def State.tagNext (s : State) : Nat × State := (s.fab.nextTag, s.setFab { s.fab with nextTag := (s.fab.nextTag + 1) % 2 ^ 32 })

/-- The next place in the order of what this device posts. -/
def State.ordNext (s : State) : Nat × State := (s.fab.ord, s.setFab { s.fab with ord := s.fab.ord + 1 })

/-! Requests (R324) -/

/-- A request as its words give it. -/
structure RaReq where
  op : Nat
  pref : Bool
  words : Nat
  wseq : Nat
  addr : Nat
  data : List Word
  deriving DecidableEq, Repr

/-- The 32-bit words of bytes; a short last word is filled with zeros. -/
def bytesWords : List Byte → List Nat
  | b0 :: b1 :: b2 :: b3 :: l => leNat [b0, b1, b2, b3] :: bytesWords l
  | [] => []
  | l => [leNat l]

def wordsOf (bs : List Byte) : List Word := (bytesWords bs).map (BitVec.ofNat 32)

def raReqOf (bs : List Byte) : RaReq :=
  let w0 := leNat (slice 0 4 bs)
  { op := bits 3 0 w0, pref := bit 4 w0, words := bits 15 8 w0 + 1, wseq := bits 31 16 w0
    addr := leNat (slice 4 4 bs) + leNat (slice 8 1 bs) * 2 ^ 32, data := wordsOf (bs.drop 12) }

def RaReq.bytes (q : RaReq) : List Byte :=
  leBytes 4 (q.op + boolNat q.pref * 16 + (q.words - 1) * 256 + q.wseq * 65536) ++ leBytes 4 (q.addr % 2 ^ 32) ++
    leBytes 4 (q.addr / 2 ^ 32) ++ q.data.flatMap (fun w => leBytes 4 w.toNat)

/-- The last write sequence number issued to a device. -/
def State.issuedTo (s : State) (d : Nat) : Nat := tget 0 s.fab.issued d

def State.raSend (s : State) (dst tag : Nat) (q : RaReq) : State :=
  s.fabSend (s.newHdr 8 (s.fld FAB_RA_CFG FAB_RA_CFG_tc) dst tag) q.bytes

def RaWrite.req (w : RaWrite) : RaReq :=
  { op := 2, pref := false, words := w.data.length, wseq := w.wseq, addr := w.addr, data := w.data }

/-! What this device posts to others: writes, messages and signals, each in its order (R322, R325, R327) -/

/-- A message of this device to another has not left it yet. -/
def State.msgInside (s : State) (d : Nat) : Bool :=
  s.sw.frames.any (fun f => f.kind == .fabric && f.input == 31 && f.fab.any (fun h => h.type == 7 && h.dst == d && h.src == s.fabSrc))

/-- A SIGNAL frame leaves. -/
def State.signalOut (s : State) (dst tag val : Nat) : State :=
  s.fabSend (s.newHdr 10 (s.fld FAB_RA_CFG FAB_RA_CFG_tc) dst tag) (beBytes 4 val)

/-- What waited leaves: a keeper's message as a MSG frame (R322), a signal as a SIGNAL frame. -/
def State.itemOut (s : State) (x : FabWait) : State :=
  match x.item with
  | .message f =>
    (match f.fab with
    | some h => s.fabSend { s.newHdr 7 f.tc h.dst h.tag with colour := f.colour } f.data
    | none => s)
  | .signal tag val => s.signalOut x.dst tag val

/-- A message or a signal may leave: nothing posted to its target earlier is left (R327 rules 1 and 4). -/
def State.itemReady (s : State) (x : FabWait) : Bool :=
  !s.fab.writes.any (fun w => w.target == x.dst && decide (w.ord < x.ord)) &&
    !s.fab.waiting.any (fun y => y.dst == x.dst && decide (y.ord < x.ord)) && !s.msgInside x.dst

/-- A write that waits at the source may leave: fewer than 32 of its target's are unacknowledged (R325), and no message posted to
the target before it is left (R322). -/
def State.writeReady (s : State) (w : RaWrite) : Bool :=
  !w.sent && decide ((s.fab.writes.filter (fun x => x.target == w.target && x.sent)).length < 32) &&
    !s.fab.waiting.any (fun y => y.dst == w.target && decide (y.ord < w.ord)) && !s.msgInside w.target

/-- What may leave does, one after another; `n` bounds how many. -/
def State.postSteps : Nat → State → State
  | 0, s => s
  | n + 1, s =>
    match s.fab.waiting.find? s.itemReady with
    | some x => State.postSteps n ((s.setFab { s.fab with waiting := s.fab.waiting.filter (fun y => y.ord != x.ord) }).itemOut x)
    | none =>
      match s.fab.writes.find? s.writeReady with
      | some w =>
        let s1 := s.setFab { s.fab with writes := s.fab.writes.map (fun x => if x = w then { x with sent := true } else x) }
        State.postSteps n (s1.raSend w.target w.tag w.req)
      | none => s

def State.postsGo (s : State) : State := State.postSteps (s.fab.waiting.length + s.fab.writes.length) s

def State.itemPost (s : State) (d : Nat) (item : FabItem) : State :=
  let (n, s1) := s.ordNext
  (s1.setFab { s1.fab with waiting := s1.fab.waiting ++ [{ ord := n, dst := d, item := item }] }).postsGo

/-- A message to a device is still owed to it. -/
def State.messageOwed (s : State) (d : Nat) : Bool :=
  s.msgInside d || s.fab.waiting.any (fun y => y.dst == d && (match y.item with | .message _ => true | .signal .. => false))

/-- A keeper's message to another device takes its turn (R322). -/
def State.msgSend (s : State) (f : Frame) : State :=
  match f.fab with
  | some h => s.itemPost h.dst (.message f)
  | none => s

/-- An addressed frame that is not for this device, a stale or a newer one, or an answer to a command (R317, R322). -/
def State.fabForward (s : State) : State :=
  match s.head31 with
  | none => s
  | some f =>
    match f.kind, f.fab with
    | .message, _ => s.pop31.msgSend f
    | .fabric, some h =>
      if h.type < 7 then s
      else if epochNewer h.epoch s.fabEpoch then
        let t := s.pop31
        t.setFab { t.fab with held := t.fab.held ++ [(t.elapsed, f)] }
      else if h.epoch ≠ s.fabEpoch then s.pop31.staleFrame
      else if s.addressed ∧ h.dst = s.fabAddr then (if h.type = 12 then s.pop31 else s)
      else if h.hop = 0 then (s.pop31.fabCount 4).raiseLim 0x0A14 2
      else s.pop31.fabSend { h with hop := h.hop - 1 } f.data
    | _, _ => s.pop31

/-- A newer-epoch frame has been held 20 ms without the COMMIT (R317). -/
def State.epochHoldExpiry (s : State) : State :=
  match s.fab.held with
  | [] => s
  | _ :: rest => (s.setFab { s.fab with held := rest }).staleFrame

/-! Signals (R332) -/

/-- FAB_SIG_SEND.go: the SIGNAL takes effect after everything posted to its target before it (R327 rule 4). -/
def State.signalSend (s : State) : State :=
  let (tag, s1) := s.tagNext
  s1.itemPost (s1.fld FAB_SIG_SEND FAB_SIG_SEND_dst) (.signal tag (s1.rd FAB_SIG_VAL).toNat)

def State.signalTake (s : State) : State :=
  match s.mine31 10 with
  | some (f, h, t) =>
    let v := beNat (slice 0 4 f.data)
    (((t.wr FAB_SIG_RX (BitVec.ofNat 32 v)).fabCount 13).raise 0x0A20 0 h.src v).irq 3
  | none => s

/-! PCIe link, configuration and function-level reset (R64, R333) -/

/-- A Configuration Request is answered with Retry Status: the endpoint trains and is not ready (R64). -/
def State.configRetry (s : State) : Bool := s.dev.pcieTrain && !s.dev.pcieReady

/-- What a Configuration Request reads: none for Retry Status. Device ID 0x9640 and the Vendor ID (R333), and the uncorrectable errors
of advanced error reporting, in the register that the PCI Express Base Specification gives them; the manual gives no other word of the
configuration space a value. -/
def State.configRead (s : State) (off : Nat) : Option Word :=
  if s.configRetry then none
  else if off = 0 then some (0x9640#16 ++ Config.vendorId)
  else if off = 0x104 then some s.dev.aer
  else some (Config.configWord off)

def State.pcieLink (s : State) (up : Bool) : State :=
  if s.running && s.dev.pcieTrain && s.dev.pcieUp != up then
    { s with dev := { s.dev with pcieUp := up } }.raise (if up then 0x0A30 else 0x0A31) (if up then 0 else 3)
  else s

/-- The apertures and the MSI-X state return to their reset values; nothing else. -/
def State.functionReset (s : State) : State :=
  { s with regs := s.regs.filter (fun e => !(decide (0x200C0500 ≤ e.1 ∧ e.1 < 0x200C0520) ||
      decide (0x200C4000 ≤ e.1 ∧ e.1 < 0x200C4080) || e.1 == FAB_PBA)) }

/-! FAB registers (R338, R339) -/

def State.fabWrite (s : State) (off : Nat) (v : Word) : State :=
  let a := 0x200C0000 + off
  let n := v.toNat
  if off = 0x0000 then
    let s1 := (s.wrPlain a v).fabRefresh
    if bit 1 n then
      let s2 := s1.lsaSend
      s2.setFab { s2.fab with settling := s2.isHead, open_ := none }
    else s1
  else if 0x0100 ≤ off ∧ off < 0x0120 then (s.wrPlain a v).fabRefresh
  else if off = 0x0410 then
    let s1 := s.wrPlain a v
    if bit 5 n then s1.signalSend else s1
  else if 0x4000 ≤ off ∧ off < 0x4080 then
    let k := (off - 0x4000) / 16
    let s1 := s.wrPlain a v
    if off % 16 = 12 ∧ !bit 0 n ∧ (s1.rd FAB_PBA).toNat.testBit k then
      (s1.wr FAB_PBA (BitVec.ofNat 32 (withBit (s1.rd FAB_PBA).toNat k false))).sendMsix k
    else s1
  else if off = 0x0880 then if bit 0 n then s.clearRegs ((List.range 14).map FAB_CNT) else s
  else s.wrPlain a v

def State.fabRead (off : Nat) : Option Nat :=
  if off = 0x0008 then some (ownId % 2 ^ 32) else if off = 0x000C then some (ownId / 2 ^ 32 % 2 ^ 32) else none

/-! The rows of the table -/

def execHelloSend (p : Fin 8) (s : State) : Host.Outcome State Fault Refusal := .next (s.helloSend p.val)
def execHello (s : State) : Host.Outcome State Fault Refusal := .next s.hello
def execHelloTimeout (p : Fin 8) (s : State) : Host.Outcome State Fault Refusal := .next (s.helloTimeout p.val)
def execHeadInputChange (level : Bool) (s : State) : Host.Outcome State Fault Refusal := .next (s.headChange level)
def execLsa (l : Lsa) (s : State) : Host.Outcome State Fault Refusal := .next (s.lsaTake l)
def execLsaSend (s : State) : Host.Outcome State Fault Refusal := .next (if s.bridgeOn then s.lsaSend else s)
def execSettleEnd (s : State) : Host.Outcome State Fault Refusal := .next s.settleEnd
def execAssign (a : Assign) (rep : Nat) (s : State) : Host.Outcome State Fault Refusal := .next (s.assignTake a rep)
def execAssignRepeat (s : State) : Host.Outcome State Fault Refusal := .next s.assignRepeat
def execAck (id epoch rep : Nat) (s : State) : Host.Outcome State Fault Refusal := .next (s.ackTake id epoch rep)
def execCommit (a : Assign) (s : State) : Host.Outcome State Fault Refusal := .next (s.commitRecv a)
def execFabricFrameForward (s : State) : Host.Outcome State Fault Refusal := .next s.fabForward
def execEpochHoldExpiry (s : State) : Host.Outcome State Fault Refusal := .next s.epochHoldExpiry
def execSignal (s : State) : Host.Outcome State Fault Refusal := .next s.signalTake
def execPcieLinkChange (up : Bool) (s : State) : Host.Outcome State Fault Refusal := .next (s.pcieLink up)
def execFunctionLevelReset (s : State) : Host.Outcome State Fault Refusal := .next s.functionReset

end Sys2Proof.Machine
end

