-- ==== Sys2Proof/Machine/Eth.lean ====
section
/-! DEFINITION. The Ethernet ports: reception, stream identification and classification, transmission, MACsec, timestamps,
links and TC10 (R67, R113, R133–R142, R160–R183, R214, R226, R318). -/

namespace Sys2Proof.Machine

/-- Count on a port's counter: rx_frames and tx_frames wrap, the others saturate (R183). -/
def State.ethCount (s : State) (p k : Nat) : State :=
  if k = 0 ∨ k = 9 then s.wr (ETH_CNT p k) (s.rd (ETH_CNT p k) + 1) else s.bump (ETH_CNT p k)

/-- In the cold forwarding state, which reduced operation continues, a frame that matches no loaded entry is dropped (R54, R67). -/
def State.coldOnly (s : State) : Bool := !(s.dev.state == .full)

/-! Stream identification (R133–R142) -/

inductive StreamHit where
  | none
  | refused
  | handle (h : Nat)
  | discard
  deriving DecidableEq, Repr

def tagged (data : List Byte) : Bool := beNat (slice 12 2 data) == 0x8100

/-- The frame's keys in the order of lookup: key type and trie word (R133, R215). -/
def streamKeys (data : List Byte) : List (Nat × Nat) :=
  let vid := (tagVid data).getD 0
  (match avtpOffset data with
    | some o => if byteAt data (o + 1) / 128 = 1 then [(1, beNat (slice (o + 4) 8 data))] else []
    | none => []) ++
  [(2, 2 ^ 61 + vid * 2 ^ 48 + beNat (slice 0 6 data)), (3, 3 * 2 ^ 60 + vid * 2 ^ 48 + beNat (slice 6 6 data))]

/-- The members of a compound stream that begins at handle `h` (R140). -/
def State.membersFrom (s : State) (h : Nat) : List Nat :=
  let c := s.stream h
  ((List.range 4).map (fun k => h + k)).takeWhile (fun k =>
    let e := s.stream k
    e.valid && e.role == 2 && e.key == c.key && e.keyType == c.keyType)

/-- A member's frame passes through its recovery context (R140–R142). -/
def State.memberFrame (s : State) (h p : Nat) (hdr : Option FabHdr) : State × StreamHit :=
  let ctx := (s.stream h).ctx
  match hdr, (s.membersFrom h).find? (fun k => (s.stream k).inPort == p) with
  | some f, some k =>
    let e := s.stream k
    let s1 := (s.streamMatched k).memberSeen e.ctx (k - h)
    match s1.recover e.ctx f.seq with
    | (s2, false) => (s2, .discard)
    | (s2, true) =>
      let s3 := s2.memberPassed e.ctx (k - h) (s.membersFrom h).length
      if (s3.stream e.comp).valid then (s3, .handle e.comp) else (s3.rogue e.ctx, .discard)
  | _, _ => (s.rogue ctx, .discard)

/-- The first key found decides; an entry for another input port does not match (R133, R136). -/
def State.findStream (s : State) (p : Nat) (hdr : Option FabHdr) : List (Nat × Nat) → State × StreamHit
  | [] => (s, .none)
  | (ty, w) :: rest =>
    match s.trieLookup w ty with
    | none => s.findStream p hdr rest
    | some r =>
      if bit 31 r then (s, .refused)
      else
        let h := r % 2 ^ 14
        let e := s.stream h
        if !e.valid ∨ e.keyType ≠ ty then s.findStream p hdr rest
        else if e.role = 2 then s.memberFrame h p hdr
        else if e.inPort ≠ p ∧ !e.anyPort then s.findStream p hdr rest
        else (s, .handle h)

/-! Forwarding by the MAC table (R214, R226) -/

def broadcast : Nat := 0xFFFFFFFFFFFF

/-- The destination set of a frame forwarded by its address and VID, the input port removed; the VLAN drops come first. -/
def State.macDest (s : State) (p : Nat) (data : List Byte) : State × Nat :=
  let vid := s.vidOf p data
  if tagVid data = some 4095 then (s.tblCount 11, 0)
  else if s.fldB (TBL_PORT_CFG p) TBL_PORT_CFG_in_filter ∧ !(s.vlanMembers vid).testBit p then
    ((s.tblCount 11).raiseLim 0x0607 1 p, 0)
  else
    let da := beNat (slice 0 6 data)
    let members := s.vlanMembers vid
    let group := (byteAt data 0).testBit 0
    let flood (f : Fld) : Nat := maskOf ((bitsOf 32 members).filter (fun n => s.fldB (TBL_PORT_CFG n) f))
    let hit := s.macFind da vid
    let (s1, m) :=
      if da = broadcast then (s, members)
      else match hit with
        | some e => (s, Nat.land (s.macEntry e).dest members)
        | none => if group then (s, flood TBL_PORT_CFG_flood_mc) else (s.tblCount 12, flood TBL_PORT_CFG_flood_uc)
    (s1, withBit m p false)

/-! Classification (R113) -/

structure Class where
  tc : Nat
  colour : Nat
  policer : Nat
  deriving DecidableEq, Repr

def State.defClass (s : State) (p : Nat) : Class :=
  let f (x : Fld) : Nat := s.fld (TMG_PORT_CLS p) x
  { tc := f TMG_PORT_CLS_def_tc, colour := f TMG_PORT_CLS_def_colour, policer := f TMG_PORT_CLS_pol }

/-- A frame that no admitted stream classifies: its tag, else the port's defaults (R113 items 4 and 5). -/
def State.portClass (s : State) (p : Nat) (data : List Byte) : Class :=
  let d := s.defClass p
  if s.fldB (TMG_PORT_CLS p) TMG_PORT_CLS_pcp_en && tagged data then
    let tci := beNat (slice 14 2 data)
    let pcp := tci / 2 ^ 13
    { d with
      tc := bits (3 * pcp + 2) (3 * pcp) (s.rd (TMG_PCP_MAP p)).toNat
      colour := if bit 12 tci then s.fld (TMG_PCP_MAP p) TMG_PCP_MAP_dei1_colour else d.colour }
  else d

/-- A frame in reception passes its policer, which charges it at its end (R116), and is looked up by its source (R227). -/
def State.policed (s : State) (f : Frame) (pol : Nat) : State × Bool :=
  let (s1, ok) := s.police pol
  let x := s1.port f.input
  let s2 := if ok ∧ (s.pol pol).en then s1.setPort f.input { x with rx := x.rx.map (fun r => { r with policer := some pol }) } else s1
  (if ok then s2.learn f.input f.data else s2, ok)

/-- A frame of an admitted stream: policed, numbered, observed, admitted (R113 item 1, R139, R143). A finding that the frame
itself raises does not change its own destinations (R155). -/
def State.streamFrame (s : State) (f : Frame) (h : Nat) : State :=
  let e := s.stream h
  let (s1, ok) := (s.streamMatched h).policed f e.policer
  if !ok then s1
  else
    let (fab, s2) :=
      if e.role = 1 then
        let (n, t) := s1.takeSeq h
        (match f.fab with
          | some x => (some { x with seqValid := true, seq := n }, t)
          | none => (some ({ type := 6, seqValid := true, seq := n, fresh := true } : FabHdr), t))
      else (f.fab, s1)
    ((s2.guardObserve h f.data f.ts).admitFrame { f with tc := e.tc, colour := e.colour, handle := some h, fab := fab }
      (s2.overlay h e.dest)).1

/-- Count at reception by a step that may come before the frame has proved bad: a bad frame counts by its error only (R99,
R166). -/
def State.rxCount (s : State) (p k : Nat) : State :=
  if (s.port p).rx.any (fun x => x.late != 0) then s else s.ethCount p k

/-- A frame that no admitted stream entry classifies is policed and forwarded by the MAC table; in the cold forwarding
state it is dropped and counted as unmatched (R67, R137, R226). -/
def State.plainFrame (s : State) (f : Frame) (c : Class) : State :=
  if s.coldOnly then s.rxCount f.input 7
  else
    let (s1, ok) := s.policed f c.policer
    if !ok then s1
    else
      let (s2, dest) := s1.macDest f.input f.data
      (s2.admitFrame { f with tc := c.tc, colour := c.colour } dest).1

/-- Stream identification and classification of a frame at an external port. -/
def State.identify (s : State) (f : Frame) : State :=
  match s.findStream f.input f.fab (streamKeys f.data) with
  | (s1, .handle h) => s1.streamFrame f h
  | (s1, .refused) => s1.plainFrame f { s1.defClass f.input with tc := 0 }
  | (s1, .none) => s1.plainFrame f (s1.portClass f.input f.data)
  | (s1, .discard) => s1

/-- A fabric frame at its receiving MAC (R303, R306, R308, R318). -/
def State.fabricFrame (s : State) (f : Frame) : State :=
  if !s.fabLink f.input then s.fabCount 2
  else match parseFab (f.data.drop 14) with
    | none => s.fabCount 2
    | some (h, d) =>
      let st := s.linkState f.input
      if 6 ≤ h.type ∧ st ≠ 3 then s.fabCount 5
      else if st = 0 ∨ (st = 1 ∧ h.type ≠ 1) then s
      else if h.type = 6 then s.identify { f with data := d, fab := some h }
      else
        let c := s.defClass f.input
        let (s1, ok) := s.policed f c.policer
        if ok then (s1.admitFrame { f with data := d, kind := .fabric, fab := some h, tc := c.tc, colour := c.colour } (2 ^ 31)).1
        else s1

/-! Reception (R162–R166) -/

/-- Errors of a received frame: bit 0 FCS, 1 runt, 2 too long, 3 PHY (R163, R166). -/
def State.rxErrors (s : State) (p : Nat) (bytes : List Byte) (phyErr : Bool) : Nat :=
  let n := bytes.length
  boolNat (decide (n < 4) || bytes.drop (n - 4) != fcsBytes (bytes.take (n - 4))) + boolNat (decide (n < 64)) * 2 +
    boolNat (decide (s.fld (ETH_MAC_CFG p) ETH_MAC_CFG_max_len < n)) * 4 + boolNat phyErr * 8

/-- Count a bad frame by its errors. -/
def State.countErrors (s : State) (p e : Nat) : State :=
  (bitsOf 4 e).foldl (fun t k => t.ethCount p (k + 1)) s

/-- A bad frame: counted, and delivered where pass_bad is 1 in full operation (R166). It is policed, and its source is looked up
where its policer passes it (R227). -/
def State.badFrame (s : State) (p : Nat) (bytes : List Byte) (e ts : Nat) : State :=
  let s1 := s.countErrors p e
  if s.fldB (ETH_MAC_CFG p) ETH_MAC_CFG_pass_bad && s.dev.state == .full && decide (18 ≤ bytes.length) then
    let n := min bytes.length (s.fld (ETH_MAC_CFG p) ETH_MAC_CFG_max_len)
    let s2 := s1.ethCount p 6
    let c := s2.defClass p
    let f : Frame := { input := p, data := bytes.take (n - 4), tc := 0, colour := 2, bad := some (n + e * 2 ^ 16), ts := ts }
    let (s3, ok) := s2.policed f c.policer
    if ok then (s3.admitFrame f (if s.fldB (ETH_MAC_CFG p) ETH_MAC_CFG_bad_dest then 2 ^ 29 else 2 ^ 28)).1 else s3
  else s1

def linkLocal (data : List Byte) : Bool := beNat (slice 0 6 data) / 16 == 0x0180C200000

def State.macsecOn (s : State) (p : Nat) : Bool :=
  decide (p < 20) && (s.fldB (ETH_SEC_CFG p) ETH_SEC_CFG_tx_en || s.fldB (ETH_SEC_CFG p) ETH_SEC_CFG_rx_en)

/-- The group filter: bits [31:23] of the CRC-32 over the destination address (R164). -/
def State.groupAccepted (s : State) (p : Nat) (data : List Byte) : Bool :=
  let da := data.take 6
  if !(byteAt data 0).testBit 0 then true
  else
    let bin := crc32 da / 2 ^ 23
    (beNat da == broadcast && s.fldB (ETH_MAC_CFG p) ETH_MAC_CFG_bcast_en) || s.fldB (ETH_MAC_CFG p) ETH_MAC_CFG_mc_all ||
      (s.rd (ETH_MC_HASH p (bin / 32))).toNat.testBit (bin % 32)

/-- R165 delivers the frame to sp29. -/
def State.traps (s : State) (p : Nat) (data : List Byte) : Bool :=
  (isGptp data && s.fldB (ETH_MAC_CFG p) ETH_MAC_CFG_gptp_en) || (isEapol data && s.macsecOn p)

/-- Steps 3 to 5 of R162. -/
def State.rxForward (s : State) (f : Frame) : State :=
  let p := f.input
  if s.traps p f.data then (s.admitFrame { f with tc := 6, colour := 0 } (2 ^ 29)).1
  else if linkLocal f.data then s.rxCount p 8
  else if !s.groupAccepted p f.data then s.rxCount p 5
  else
    let x := s.port p
    let s1 := s.setPort p { x with rx := x.rx.map (fun r => { r with passed := true }) }
    if beNat (slice 12 2 f.data) = 0x88B5 then s1.fabricFrame f else s1.identify f

/-! MACsec (R170–R175, R355) -/

/-- Word `w` of entry `e` of the SA table (R182). -/
def saAddr (p e w : Nat) : Nat := 0x20080200 + 0x1000 * p + 32 * e + 4 * w

def State.sa (s : State) (p e w : Nat) : Nat := (s.rd (saAddr p e w)).toNat

def State.saValid (s : State) (p e : Nat) : Bool := bit 0 (s.sa p e 0)

def State.saPn (s : State) (p e : Nat) : Nat := s.sa p e 2 + s.sa p e 3 * 2 ^ 32

def State.setSaPn (s : State) (p e pn : Nat) : State := s.wr64 (saAddr p e 2) (saAddr p e 3) pn

def State.xpn (s : State) (p : Nat) : Bool := s.fldB (ETH_SEC_CFG p) ETH_SEC_CFG_xpn

/-- The key of an association: its slot must hold an AES-256 key with u_macsec (R355). -/
def State.saKey (s : State) (p e : Nat) : Option (List Byte) :=
  let n := bits 6 1 (s.sa p e 0)
  let a := s.slotAttr n
  if s.saValid p e && bit 0 a && attrType a == 1 && bit 14 a then some (s.slotKey n) else none

/-- A frame that needs an association whose slot is not usable (R355). -/
def State.noKey (s : State) (p e : Nat) : State := (s.secCount 7).raiseLim 0x0B06 2 (bits 6 1 (s.sa p e 0))

/-- The 96-bit nonce of a suite. -/
def State.secNonce (s : State) (p e sci pn : Nat) : List Byte :=
  if s.xpn p then
    let salt := s.sa p e 4 + s.sa p e 5 * 2 ^ 32 + s.sa p e 6 * 2 ^ 64
    beBytes 12 (Nat.xor salt (s.sa p e 1 * 2 ^ 64 + pn))
  else beBytes 8 sci ++ beBytes 4 pn

/-- Additional data and secured part of a frame: all of the user data after the offset is encrypted, or none. -/
def State.secSplit (s : State) (p : Nat) (hdr user : List Byte) (conf : Bool) : List Byte × List Byte :=
  let off := if s.fldB (ETH_SEC_CFG p) ETH_SEC_CFG_offset30 then 30 else 0
  if conf then (hdr ++ user.take off, user.drop off) else (hdr ++ user, [])

/-- Protect a frame with association `e`: SecTAG, secured data, ICV (R171, R174). None: the frame is discarded. DEDUCED
(assumption 92): next_pn increments as the frame takes its number, at its start. -/
def State.secProtect (s : State) (p e : Nat) (data : List Byte) : State × Option (List Byte) :=
  let full := if s.xpn p then 2 ^ 64 - 1 else 2 ^ 32 - 1
  let pn := s.saPn p e
  match s.saKey p e with
  | none => ((s.noKey p e).ethCount p 11, none)
  | some key =>
    if full ≤ pn then (((s.ethCount p 11).setFld (ETH_SEC_STATUS p) ETH_SEC_STATUS_pn_exhausted 1).raise 0x0806 4 p, none)
    else
      let sc := s.fldB (ETH_SEC_CFG p) ETH_SEC_CFG_include_sci
      let conf := s.fldB (ETH_SEC_CFG p) ETH_SEC_CFG_conf
      let sci := s.rd64 (ETH_SEC_TXSCI_LO p) (ETH_SEC_TXSCI_HI p)
      let user := data.drop 12
      let sl := if user.length < 48 then user.length else 0
      let tag := beBytes 2 0x88E5 ++ beBytes 1 (boolNat sc * 32 + (if conf then 12 else 0) + e) ++ beBytes 1 sl ++
        beBytes 4 (pn % 2 ^ 32) ++ (if sc then beBytes 8 sci else [])
      let nonce := s.secNonce p e sci pn
      let (aad, pt) := s.secSplit p (data.take 12 ++ tag) user conf
      let ct := gcmCrypt key nonce pt
      let icv := gcmTag key nonce aad ct
      let s1 := s.setSaPn p e (pn + 1)
      let mark := if s.xpn p then 0xC000000000000000 else 0xC0000000
      let s2 := if mark ≤ pn + 1 ∧ !(s1.port p).warned.contains e then
          ((s1.setPort p { s1.port p with warned := e :: (s1.port p).warned }).setFld (ETH_SEC_STATUS p)
            ETH_SEC_STATUS_pn_warn 1).raise 0x0805 2 p
        else s1
      (s2, some (aad ++ ct ++ icv))

/-- A frame that fails verification: counted, with 0x0804 (R172). -/
def State.secFail (s : State) (p k : Nat) : State := (s.ethCount p k).raiseLim 0x0804 3 p

/-- The full packet number of a received frame (IEEE 802.1AE, extended numbering). -/
def fullPn (lowest pn : Nat) : Nat :=
  let hi := lowest / 2 ^ 32
  if bit 31 (lowest % 2 ^ 32) ∧ !bit 31 pn then (hi + 1) * 2 ^ 32 + pn else hi * 2 ^ 32 + pn

/-- The SecTAG is one that IEEE 802.1AE lets a SecY take: version 0, no SCI beside ES or SCB, no E without C, a short length
below 48 that the frame holds (48 bytes or more where it is 0), and a packet number other than 0 (PRESUMED, assumption 93). -/
def tagValid (tci sl n pn : Nat) (xpn : Bool) : Bool :=
  !bit 7 tci && !(bit 5 tci && (bit 6 tci || bit 4 tci)) && !(bit 3 tci && !bit 2 tci) &&
    decide (if sl = 0 then 48 ≤ n else sl < 48 ∧ sl ≤ n) && (xpn || pn != 0)

/-- The SCI that a received SecTAG gives: its own, or the one that the ES or SCB bit implies from the source address; none where the
one channel of a point-to-point link is meant (PRESUMED from IEEE 802.1AE-2018, assumption 93). -/
def tagSci (tci : Nat) (data : List Byte) : Option Nat :=
  if bit 5 tci then some (beNat (slice 20 8 data))
  else if bit 4 tci then some (beNat (slice 6 6 data) * 65536)
  else if bit 6 tci then some (beNat (slice 6 6 data) * 65536 + 1)
  else none

/-- Verify and decrypt a received frame (R172): the frame without SecTAG and ICV and the slot used, or none where it is
discarded. A frame whose C bit is set is not passed unverified on a valid channel (PRESUMED from IEEE 802.1AE, assumption
93). -/
def State.secVerify (s : State) (p : Nat) (data : List Byte) : State × Option (List Byte × Option Nat) :=
  let v := s.fld (ETH_SEC_CFG p) ETH_SEC_CFG_validate
  let strict := decide (2 ≤ v)
  if beNat (slice 12 2 data) ≠ 0x88E5 ∨ data.length < 36 then
    if strict then (s.secFail p 12, none) else (s.ethCount p 15, some (data, none))
  else
    let tci := byteAt data 14
    let sc := bit 5 tci
    let an := tci % 4
    let hlen := if sc then 28 else 20
    let sl := byteAt data 15
    let avail := data.length - hlen - 16
    let n := if sl ≠ 0 then sl else avail
    let secured := slice hlen n data
    let icv := slice (hlen + n) 16 data
    let valid (c : Nat) : Bool := (List.range 4).any (fun a => s.saValid p (4 + 4 * c + a))
    let chan := (List.range 8).find? (fun c => valid c && (match tagSci tci data with
      | some sci => s.rd64 (ETH_SEC_RXSCI_LO p c) (ETH_SEC_RXSCI_HI p c) == sci
      | none => true))
    let plain := data.take 12 ++ secured
    let pass (t : State) : State × Option (List Byte × Option Nat) := (t.ethCount p 15, some (plain, none))
    if !tagValid tci sl avail (beNat (slice 16 4 data)) (s.xpn p) ∨ data.length < hlen + 16 then (s.secFail p 12, none)
    else match chan with
    | none =>
      let s1 := s.ethCount p 14
      if strict then (s1, none) else pass s1
    | some ch =>
      let e := 4 + 4 * ch + an
      let c := bit 2 tci
      if v = 0 ∧ !c then pass s
      else if !s.saValid p e then (if strict ∨ c then (s.secFail p 12, none) else pass s)
      else match s.saKey p e with
        | none => ((s.noKey p e).ethCount p 12, none)
        | some key =>
          let low := s.saPn p e
          let pnw := beNat (slice 16 4 data)
          let pn := if s.xpn p then fullPn low pnw else pnw
          let sci := s.rd64 (ETH_SEC_RXSCI_LO p ch) (ETH_SEC_RXSCI_HI p ch)
          let nonce := s.secNonce p e sci pn
          let conf := bit 3 tci
          let (aad, ct) := s.secSplit p (data.take hlen) secured conf
          if pn < low then (s.secFail p 13, none)
          else if gcmTag key nonce aad ct ≠ icv then (s.secFail p 12, none)
          else
            let pt := gcmCrypt key nonce ct
            let user := if conf then secured.take (secured.length - ct.length) ++ pt else secured
            let win := s.fld (ETH_SEC_REPLAY p) ETH_SEC_REPLAY_window
            (s.setSaPn p e (max low (pn + 1 - win)), some (data.take 12 ++ user, some (bits 6 1 (s.sa p e 0))))

/-- Cut-through is ignored where receive validation is Strict (R171). -/
def State.cutAt (s : State) (p : Nat) : Bool :=
  s.fldB (SWC_PORT_CFG p) SWC_PORT_CFG_cut &&
    !(decide (p < 20) && s.fldB (ETH_SEC_CFG p) ETH_SEC_CFG_rx_en && decide (2 ≤ s.fld (ETH_SEC_CFG p) ETH_SEC_CFG_validate))

/-- Receive timestamp: the tide clock with the port's correction (R176). -/
def State.rxStamp (s : State) (p : Nat) : Nat :=
  (BitVec.ofInt 64 ((s.tide.toNat : Int) + signed 16 (s.fld (ETH_TS_ADJ p) ETH_TS_ADJ_rx_adj_ns))).toNat

/-- A frame received at a port, FCS included (R162). An earlier frame of the port has ended. A frame cut at max_len reaches the
switch as far as it was received (R163). -/
def State.receive (s : State) (p : Nat) (bytes : List Byte) (phyErr : Bool) : State :=
  if !s.running ∨ !s.linkUp p then s
  else
    let s0 := s.frameEnd p
    let e := s0.rxErrors p bytes phyErr
    let ts := s0.rxStamp p
    let data := bytes.take (bytes.length - 4)
    let cut := s0.cutAt p
    let n := min bytes.length (s0.fld (ETH_MAC_CFG p) ETH_MAC_CFG_max_len)
    let into (t : State) (late : Nat) (slot : Option Nat) : State :=
      t.setPort p { t.port p with rx := some { bytes := n, late := late, slot := slot } }
    if bytes.length < 18 ∨ (e ≠ 0 ∧ !cut) then (into s0 0 none).badFrame p bytes e ts
    else
      let f : Frame := { input := p, data := data, ts := ts, cut := cut }
      if p < 20 ∧ s0.fldB (ETH_SEC_CFG p) ETH_SEC_CFG_rx_en ∧ !uncontrolled data then
        match s0.secVerify p data with
        | (s1, some (d, slot)) => (into (if e = 0 then s1 else s0) e slot).rxForward { f with data := d.take (n - 4) }
        | (s1, none) => if e = 0 then s1 else into s0 e none
      else (into s0 e none).rxForward { f with data := data.take (n - 4) }

/-! Transmission (R167–R169, R318) -/

/-- A hello or a flooded message of the bridge. -/
def Frame.control (f : Frame) : Bool := f.kind == .fabric && f.fab.any (fun h => decide (h.type < 6))

/-- A frame may not leave by a port's link state (R308). -/
def State.fabClosed (s : State) (f : Frame) (o : Nat) : Bool :=
  s.fabLink o && (match f.fab with
    | some h =>
      if f.kind = .fabric ∧ h.type < 6 then (if h.type = 1 then s.linkState o == 0 else s.linkState o < 2)
      else s.linkState o != 3
    | none => f.handle.isSome && s.linkState o != 3)

/-- The bytes of a frame at an output before MACsec and FCS: encapsulated on a fabric link (R304, R318). None: the hop limit
is reached, or the inner frame is longer than 9,186 bytes with its FCS (R319). -/
def State.onWire (s : State) (f : Frame) (o : Nat) : State × Option (List Byte) :=
  let outer (bc : Bool) : List Byte :=
    beBytes 6 (if bc then broadcast else (s.fabPort o).mac) ++ beBytes 6 s.fabMac ++ beBytes 2 0x88B5
  if f.kind = .fabric then
    match f.fab with
    | some h =>
      let (d, t) := match f.msg with
        | some _ => let (k, t) := s.freeIx; (Config.fabBytes k, t)
        | none => (f.data, s)
      (t, some (outer (h.type < 6) ++ h.bytes d.length ++ d))
    | none => (s, some f.data)
  else if s.fabLink o ∧ (f.handle.isSome ∨ f.fab.isSome) then
    let h : FabHdr := match f.fab with
      | some h => if h.fresh then { h with tc := f.tc, colour := f.colour, src := s.fabSrc, epoch := s.fabEpoch, fresh := false }
          else { h with hop := h.hop - 1 }
      | none => { s.newHdr 6 f.tc 0xFF 0 with colour := f.colour }
    if h.hop = 0 then ((s.fabCount 4).raiseLim 0x0A14 2, none)
    else if 9182 < f.data.length then (s, none)
    else (s, some (outer false ++ h.bytes f.data.length ++ f.data))
  else (s, some (s.outData f o))

/-- The transmit timestamp of a marked frame (R177). -/
def State.txStamp (s : State) (o tag : Nat) : State :=
  let x := s.port o
  if x.txts.length < 4 then
    let t := (BitVec.ofInt 64 ((s.tide.toNat : Int) + signed 16 (s.fld (ETH_TS_ADJ o) ETH_TS_ADJ_tx_adj_ns))).toNat
    s.setPort o { x with txts := x.txts ++ [(t, tag)] }
  else (s.setFld (ETH_MAC_STATUS o) ETH_MAC_STATUS_ts_lost 1).raise 0x080B 1 o

/-- A frame as it leaves by a port, FCS included: padded, protected by the association in use at its start (R167, R171, R173). -/
def State.frameOut (s : State) (o : Nat) (f : Frame) : State × TxFrame :=
  if s.fabClosed f o then (if f.control then s else s.fabCount 5, { bytes := none })
  else match s.onWire f o with
    | (s1, none) => (s1, { bytes := none })
    | (s1, some d) =>
      let d60 := d ++ List.replicate (60 - d.length) 0
      let an := s1.fld (ETH_SEC_CFG o) ETH_SEC_CFG_tx_an
      if s1.protects f o then
        match s1.secProtect o an d60 with
        | (s2, some b) => (s2, { bytes := some (b ++ fcsBytes b), slot := some (bits 6 1 (s1.sa o an 0)) })
        | (s2, none) => (s2, { bytes := none })
      else (s1, { bytes := some (d60 ++ fcsBytes d60) })

/-- The MAC starts a frame: the wire is taken, where R124 watches its gate, and a marked frame is timestamped (R168, R176). -/
def State.startFrame (s : State) (o : Nat) (f : Frame) : State × TxFrame :=
  match s.frameOut o f with
  | (s1, x) =>
    if x.bytes.isNone then (s1, x)
    else
      let ends := s1.elapsed * 10 + s1.wireTime f o
      let s2 := s1.airStart o f.tc ends
      let s3 := { s2 with sw := { s2.sw with busy := tset 0 s2.sw.busy o ends } }
      (match f.txTag with
        | some tag => s3.txStamp o tag
        | none => s3, x)

/-- The MAC has sent a frame whole; in near-end loopback the PHY hands it back to the port's own receiver (PRESUMED, assumption
94). -/
def State.sentFrame (s : State) (o : Nat) (x : TxFrame) : State :=
  match x.bytes with
  | none => s
  | some b => if s.loopback o then (s.ethCount o 9).receive o b false else (s.out (.ethFrame o b)).ethCount o 9

/-- A port starts a frame: the head of its staging buffer, or the frame in transfer to it once tx_start cells of it, or all of
them, are staged (R168). `cells` is how many cells of that frame the crossbar has moved. -/
def State.transmit (s : State) (o cells : Nat) : State :=
  if !s.linkUp o then s
  else match s.stagedAt o with
    | f :: rest =>
      let (s1, x) := { s with sw := { s.sw with staged := tset [] s.sw.staged o rest } }.startFrame o f
      s1.sentFrame o x
    | [] =>
      match s.sw.xfers.find? (fun x => x.output == o && x.tx.isNone) with
      | none => s
      | some x =>
        match s.frame x.id with
        | none => s
        | some f =>
          if cells < min (s.txStart o) (cellsOf f.data.length) then s
          else
            let (s1, t) := s.startFrame o f
            { s1 with sw := { s1.sw with xfers := s1.sw.xfers.map (fun (y : Xfer) => if y = x then { y with tx := some t } else y) } }

/-- The frame of an input is wholly in the staging buffer of its output (R103); a frame already being sent ends. -/
def State.transferDone (s : State) (i : Nat) : State :=
  match s.sw.xfers.find? (fun x => x.input == i) with
  | none => s
  | some x =>
    match s.frame x.id with
    | none => { s with sw := { s.sw with xfers := s.sw.xfers.filter (fun y => y != x) } }
    | some f =>
      if !f.complete then s
      else
        let o := x.output
        let s1 := ((s.leaveQueue x.id o).freeIfDone x.id).swCount o 0
        let s2 := { s1 with sw := { s1.sw with xfers := s1.sw.xfers.filter (fun y => y != x) } }
        (match x.tx with
          | some t => s2.sentFrame o t
          | none => { s2 with sw := { s2.sw with staged := tset [] s2.sw.staged o (s2.stagedAt o ++ [f]) } }).spillAll

/-- The staging buffer runs empty before a frame's last byte (R169). -/
def State.txUnderrun (s : State) (o : Nat) : State :=
  match s.sw.xfers.find? (fun x => x.output == o && x.tx.any (fun t => t.bytes.isSome)) with
  | none => s
  | some x =>
    let n := s.fld (ETH_MAC_CFG o) ETH_MAC_CFG_tx_start
    let s1 := s.endSent x.id o
    ((((s1.setFld (ETH_MAC_CFG o) ETH_MAC_CFG_tx_start (min 16 (n + 1))).ethCount o 10).setFld (ETH_MAC_STATUS o)
      ETH_MAC_STATUS_underrun 1).raiseLim 0x0803 2 o).spillAll

/-! Links (R106, R161, R178, R179) -/

/-- The port has lost its link. -/
def State.dropLink (s : State) (p : Nat) : State :=
  if s.linkUp p then
    let s1 := ((((s.setFld (ETH_PHY_STATUS p) ETH_PHY_STATUS_link 0).setFld (ETH_PHY_STATUS p) ETH_PHY_STATUS_link_lost 1).ethCount
      p 16).raise 0x0802 2 p).inputLost p
    ((if s.fldB (ETH_PHY_CFG p) ETH_PHY_CFG_en then s1.outputLost p else s1.stagingLost p).fabPhy p false).sendOwed
  else s

def State.training (s : State) (p : Nat) (on : Bool) : State :=
  s.setFld (ETH_PHY_STATUS p) ETH_PHY_STATUS_training (boolNat on)

def State.linkDown (s : State) (p : Nat) : State :=
  if s.linkUp p then (s.dropLink p).training p true else s

def State.linkUpEvent (s : State) (p : Nat) : State :=
  if s.fldB (ETH_PHY_STATUS p) ETH_PHY_STATUS_training ∧ !s.linkUp p then
    let s1 := (s.training p false).setFld (ETH_PHY_STATUS p) ETH_PHY_STATUS_link 1
    let s2 := { s1 with sw := { s1.sw with
      holding := s1.sw.holding.filter (· != p), pastHold := s1.sw.pastHold.filter (· != p)
      seenUp := p :: s1.sw.seenUp.filter (· != p) } }
    let s3 := if s.sw.holding.contains p then s2.raise 0x0405 0 p else s2
    (s3.raise 0x0801 0 p).fabPhy p true
  else s

/-- The polder of an external port is on: PD2 for M ports, PD3 for G and F ports (R17). -/
def State.phyPolderOn (s : State) (p : Nat) : Bool := (s.fld SYS_POLDER SYS_POLDER_on).testBit (if p < 8 then 2 else 3)

/-- A write of ETH_PHY_CFG_n: training starts, stops, or starts again in a new mode (R161); a speed of 3 acts as 2 (R471). While the port's polder is off, en
ignores writes (R452). -/
def State.phyCfgWrite (s : State) (p : Nat) (v : Word) : State :=
  let a := ETH_PHY_CFG p
  let v0 := if p < 8 then v else ETH_PHY_CFG_speed.put v 0
  let v1 := if s.phyPolderOn p then v0 else ETH_PHY_CFG_en.put v0 0
  let s1 := s.wrPlain a v1
  let was := s.fldB a ETH_PHY_CFG_en
  let mode (t : State) : Nat × Nat := (min 2 (t.fld a ETH_PHY_CFG_speed), t.fld a ETH_PHY_CFG_master)
  if !s1.fldB a ETH_PHY_CFG_en then ((s1.dropLink p).outputDisabled p).training p false
  else if !was then s1.training p true
  else if mode s ≠ mode s1 then (s1.dropLink p).training p true
  else s1

/-- The quality index as refreshed every 1 ms; once it has stayed at or below sqi_warn for 100 ms it raises 0x080A, again only
after a rise (R161). -/
def State.sqi (s : State) (p q : Nat) : State :=
  let s1 := s.setFld (ETH_PHY_STATUS p) ETH_PHY_STATUS_sqi q
  let x := s.port p
  if s.fld (ETH_PHY_CFG p) ETH_PHY_CFG_sqi_warn < q then s1.setPort p { x with sqiSince := none, sqiRaised := false }
  else
    let t0 := x.sqiSince.getD s.elapsed
    if !x.sqiRaised ∧ t0 + 100000000 ≤ s.elapsed then
      (s1.setPort p { x with sqiSince := some t0, sqiRaised := true }).raise 0x080A 2 p
    else s1.setPort p { x with sqiSince := some t0 }

def State.tc10On (s : State) (p : Nat) : Bool := decide (8 ≤ p) && s.fldB (ETH_TC10_CFG p) ETH_TC10_CFG_en

def State.tc10State (s : State) (p : Nat) : Nat := s.fld (ETH_TC10_STATUS p) ETH_TC10_STATUS_state

def State.setTc10 (s : State) (p st : Nat) : State :=
  (s.setFld (ETH_TC10_STATUS p) ETH_TC10_STATUS_state st).setFld (ETH_PHY_STATUS p) ETH_PHY_STATUS_asleep (boolNat (st == 2))

/-- The link goes to TC10 sleep: it is down for R106 (R178, R179). -/
def State.tc10Sleep (s : State) (p : Nat) : State := (((s.dropLink p).training p false).setTc10 p 2).raise 0x0808 0 p

/-- Leave sleep and train again; an open sleep request is abandoned (R178, R179). -/
def State.tc10Wake (s : State) (p : Nat) : State :=
  if s.tc10State p = 2 then (s.setTc10 p 0).training p (s.fldB (ETH_PHY_CFG p) ETH_PHY_CFG_en) else s.setTc10 p 0

def State.tc10Write (s : State) (p : Nat) (v : Word) : State :=
  if p < 8 then s
  else
    let s1 := s.wrPlain (ETH_TC10_CFG p) v
    if !s1.tc10On p then s1
    else if v.toNat.testBit 3 then (s1.out (.tc10 p 3)).tc10Wake p
    else if v.toNat.testBit 2 ∧ s1.tc10State p = 0 ∧ s1.linkUp p then (s1.out (.tc10 p 0)).setTc10 p 1
    else s1

/-- None of the port's queues and neither of its staging buffers holds a frame (R178). -/
def State.portEmpty (s : State) (p : Nat) : Bool :=
  (s.sw.queues.all (fun e => e.1 / 8 % 32 != p)) && (s.stagedAt p).isEmpty && !s.lockedOut p && (s.receiving p).isEmpty

def State.partnerSleep (s : State) (p : Nat) : State :=
  if s.tc10On p ∧ s.tc10State p ≠ 2 then
    let s1 := s.setFld (ETH_TC10_STATUS p) ETH_TC10_STATUS_sleep_rx 1
    if s.fldB (ETH_TC10_CFG p) ETH_TC10_CFG_accept_sleep ∧ s.portEmpty p then (s1.out (.tc10 p 1)).tc10Sleep p
    else (s1.out (.tc10 p 2)).setFld (ETH_TC10_STATUS p) ETH_TC10_STATUS_sleep_refused 1
  else s

def State.tc10Entered (s : State) (p : Nat) : State := if s.tc10On p ∧ s.tc10State p = 1 then s.tc10Sleep p else s

def State.tc10Received (s : State) (p : Nat) : State :=
  if s.tc10On p then
    (((s.setFld (ETH_TC10_STATUS p) ETH_TC10_STATUS_wake_rx 1).ethCount p 17).raise 0x0809 1 p).tc10Wake p
  else s

/-! ETH registers (R181–R183) -/

/-- A write of the SA table: words 1 to 7 are staged; word 0 applies them (R173). -/
def State.saWrite (s : State) (p e w : Nat) (v : Word) : State :=
  let x := s.port p
  if w ≠ 0 then s.setPort p { x with staged := tput x.staged (8 * e + w) v }
  else
    let s1 := (List.range 7).foldl (fun t k =>
      match x.staged.find? (fun y => y.1 == 8 * e + (k + 1)) with
      | some y => t.wr (saAddr p e (k + 1)) (if k = 6 ∨ (k = 2 ∧ !s.xpn p) then 0 else y.2)
      | none => t) s
    (s1.wr (saAddr p e 0) (BitVec.ofNat 32 (v.toNat % 128))).setPort p
      { x with staged := x.staged.filter (fun y => y.1 / 8 != e), warned := x.warned.filter (· != e) }

def State.ethWrite (s : State) (p off : Nat) (v : Word) : State :=
  let a := 0x20080000 + 0x1000 * p + off
  if off = 0x0000 then s.phyCfgWrite p v
  else if off = 0x009C then
    if v.toNat.testBit 0 then s.setPort p { s.port p with txts := (s.port p).txts.drop 1 } else s
  else if off = 0x00A0 then s.tc10Write p v
  else if off = 0x0900 then if v.toNat.testBit 0 then s.clearRegs ((List.range 18).map (ETH_CNT p)) else s
  else if 0x0100 ≤ off ∧ off < 0x0680 then
    if 20 ≤ p then s
    else if 0x0200 ≤ off then s.saWrite p ((off - 0x200) / 32) (off % 32 / 4) v
    else s.wrPlain a v
  else s.wrPlain a v

def State.ethRead (s : State) (p off : Nat) : Option Nat :=
  let q := (s.port p).txts
  if off = 0x0090 then some ((q.head?.map (fun x => x.1 % 2 ^ 32)).getD 0)
  else if off = 0x0094 then some ((q.head?.map (fun x => x.1 / 2 ^ 32)).getD 0)
  else if off = 0x0098 then some ((q.head?.map (fun x => x.2 % 65536)).getD 0 + q.length * 2 ^ 16)
  else if 20 ≤ p ∧ 0x0100 ≤ off ∧ off < 0x0680 then some 0
  else none

/-! gPTP of the warden firmware (R177): its frames leave from sp29, marked for a timestamp. -/

/-- A gPTP frame of the firmware to a port; the content is the firmware's. -/
def State.gptpSend (s : State) (p : Nat) (body : List Byte) (tag : Nat) : State :=
  let f : Frame := { input := 29, tc := 6, ts := s.tide.toNat, txTag := some tag
                     data := beBytes 6 0x0180C200000E ++ beBytes 6 s.fabMac ++ beBytes 2 0x88F7 ++ body }
  s.sendInternal f (2 ^ p)

/-- Cut frames that come back in near-end loopback reach the receivers, what the guard owes is sent, and what waits in the bridge for a
message before it follows. -/
def State.settled (s : State) : State :=
  let s0 : State := { s with sw := { s.sw with echo := [] } }
  (s.sw.echo.foldl (fun t e => t.receive e.1 e.2 false) s0).sendOwed.postsGo

/-! The rows of the table -/

def execFrameReceive (p : Fin 28) (bytes : List Byte) (phyErr : Bool) (s : State) : Host.Outcome State Fault Refusal :=
  .next (if s.loopback p.val then s else (s.receive p.val bytes phyErr).settled)
def execFrameEnd (p : Fin 28) (s : State) : Host.Outcome State Fault Refusal := .next (s.frameEnd p.val).settled
def execTransferComplete (i : Fin 32) (s : State) : Host.Outcome State Fault Refusal := .next (s.transferDone i.val).settled
def execTransmitFrame (o : Fin 28) (cells : Fin 37) (s : State) : Host.Outcome State Fault Refusal :=
  .next (s.transmit o.val cells.val).settled
def execTransmitUnderrun (o : Fin 28) (s : State) : Host.Outcome State Fault Refusal := .next (s.txUnderrun o.val).settled
def execLinkDown (p : Fin 28) (s : State) : Host.Outcome State Fault Refusal := .next (s.linkDown p.val).settled
def execLinkUp (p : Fin 28) (s : State) : Host.Outcome State Fault Refusal := .next (s.linkUpEvent p.val)
def execSqiLow (p : Fin 28) (q : Fin 8) (s : State) : Host.Outcome State Fault Refusal := .next (s.sqi p.val q.val)
def execTc10PartnerSleep (p : Fin 28) (s : State) : Host.Outcome State Fault Refusal := .next (s.partnerSleep p.val)
def execTc10SleepEntered (p : Fin 28) (s : State) : Host.Outcome State Fault Refusal := .next (s.tc10Entered p.val)
def execTc10WakeReceived (p : Fin 28) (s : State) : Host.Outcome State Fault Refusal := .next (s.tc10Received p.val)
def execSpillTargetRetry (b : Fin 8) (s : State) : Host.Outcome State Fault Refusal := .next (s.spillRetry b.val)
def execMatcherRound (s : State) : Host.Outcome State Fault Refusal := .next s.matcherRound.sendOwed
def execResidueTimeout (id : Nat) (s : State) : Host.Outcome State Fault Refusal := .next (s.residueTimeout id).sendOwed
def execPortHoldExpiry (p : Fin 28) (s : State) : Host.Outcome State Fault Refusal := .next (s.holdExpiry p.val).sendOwed
def execGaugeSample (s : State) : Host.Outcome State Fault Refusal := .next s.gaugeSample
def execStall (g : Fin 64) (s : State) : Host.Outcome State Fault Refusal := .next (s.stall g.val).sendOwed
def execLossWindowEnd (g : Fin 64) (s : State) : Host.Outcome State Fault Refusal := .next (s.lossWindowEnd g.val)
def execStatusMessageRepeat (g : Fin 64) (s : State) : Host.Outcome State Fault Refusal := .next (s.statusRepeat g.val).sendOwed
def execAutoRevert (g : Fin 64) (s : State) : Host.Outcome State Fault Refusal := .next (s.autoRevert g.val)
def execRecoveryResetTimeout (c : Fin 512) (s : State) : Host.Outcome State Fault Refusal := .next (s.frerReset c.val)
def execMemberSilent (c : Fin 512) (j : Fin 4) (s : State) : Host.Outcome State Fault Refusal := .next (s.memberSilent c.val j.val)

end Sys2Proof.Machine
end

