-- ==== Sys2Proof/Machine/Health.lean ====
section
/-! DEFINITION. Health and timing: the tide clock, the monitors, the throughput governor and its PMBus link (R32–R53). -/

namespace Sys2Proof.Machine

def State.setHlt (s : State) (h : HltState) : State := { s with hlt := h }

/-! Tide clock (R35–R39) -/

/-- One 500 MHz tick: a nominal 2 ns, adjusted by the fractional rate accumulator in units of 2^-40 (R35); the gates are then compared
with what is on the wire (R124). -/
def State.tick (s : State) : State :=
  if s.running then
    let adj := signed 32 (s.rd HLT_TIDE_RATE).toNat
    let f : Int := (s.tideFrac : Int) + 2 * 2 ^ 40 + 2 * adj
    ({ s with elapsed := s.elapsed + 2, tide := s.tide + BitVec.ofNat 64 (f / 2 ^ 40).toNat
              tideFrac := (f % 2 ^ 40).toNat }).gateWatch
  else { s with elapsed := s.elapsed + 2 }

/-- A rate write, clamped to ±500 ppm with 0x0203 (R53). -/
def State.rateWrite (s : State) (v : Word) : State :=
  let r := signed 32 v.toNat
  if 549755814 < r then clampTo s 549755814
  else if r < -549755814 then clampTo s (-549755814)
  else s.wr HLT_TIDE_RATE v
where
  clampTo (s : State) (r : Int) : State :=
    ((s.wr HLT_TIDE_RATE (BitVec.ofInt 32 r)).setFld HLT_TIDE_STATUS HLT_TIDE_STATUS_rate_clamped 1).raise 0x0203 1

/-- A step of the tide clock (R38, R39): one tick for every timestamp point. Each tide table keeps its gate states until a
cycle boundary at the new time; a pending change whose instant is reached takes effect with 0x0504; the guard's
presentation check is suspended for 1 ms. -/
def State.tideStep (s : State) (d : Int) : State :=
  let t : DWord := BitVec.ofInt 64 ((s.tide.toNat : Int) + d)
  let s1 := (List.range 28).foldl (fun u p => u.tideStepPort t.toNat p) s
  let s2 := { s1 with tide := t, csg := { s1.csg with suspended := true } }
  (s2.setFld HLT_TIDE_STATUS HLT_TIDE_STATUS_step_done 1).raise 0x0201 0

def State.stepValue (s : State) : Int := signed 64 (s.rd64 HLT_TIDE_STEP_LO HLT_TIDE_STEP_HI)

/-- HLT_TIDE_CTL: step_go applies the step (R38). -/
def State.tideCtlWrite (s : State) (v : Word) : State :=
  let s1 := s.wrPlain HLT_TIDE_CTL v
  if v.toNat.testBit 0 then s1.tideStep s1.stepValue else s1

/-- The port in the slave role of gPTP, which the profile fixes; a device without one is grandmaster and runs from its own
clock (R177). -/
def State.slavePort (s : State) : Option (Fin 28) := s.profileNow.bind (fun b => b.set.slave)

/-- The firmware servo on a received sync (R37): one step above 1 µs, else a rate adjustment, whose value the spec leaves
to the firmware (a free value within ±500 ppm). While the system is synchronised or in holdover, time_valid is set (R147). -/
def State.gptpSync (s : State) (offset : Int) (time : Nat) : State :=
  if !s.running ∨ s.slavePort.isNone then s else
  let s0 := (({ s with dev := { s.dev with synced := true, gptpTime := time } }).setFld HLT_TIDE_CTL HLT_TIDE_CTL_holdover 0).setFld
    CSG_CTL CSG_CTL_time_valid 1
  if 1000 < offset ∨ offset < -1000 then
    let d := BitVec.ofInt 64 (-offset)
    (s0.wr64 HLT_TIDE_STEP_LO HLT_TIDE_STEP_HI d.toNat).tideStep (-offset)
  else if offset = 0 then s0
  else
    let (k, s1) := s0.freeIx
    s1.rateWrite (BitVec.ofInt 32 ((Config.servoRate k).toNat % 1099511629 - 549755814))

/-- Sync receipt timeout: holdover and 0x0202; the rate stays (R37). -/
def State.syncTimeout (s : State) : State :=
  if s.running ∧ s.slavePort.isSome then
    (({ s with dev := { s.dev with synced := false } }.setFld HLT_TIDE_CTL HLT_TIDE_CTL_holdover 1).setFld CSG_CTL
      CSG_CTL_time_valid 1).raise 0x0202 2
  else s

/-! Temperature (R40–R42) -/

/-- Die of a sensor: 0 logic, 1 line, 2 bank. -/
def sensorDie (n : Nat) : Nat := if n < 14 then 0 else if n < 20 then 1 else 2

def State.tempValid (s : State) (n : Nat) : Bool := !s.hlt.tempBad.testBit n

/-- A reading is implausible: outside −55 to +175 °C, or more than 15 °C from every other valid sensor of its die. DESIGN CHOICE
(assumption 85): where the die has no other valid sensor, the second test is skipped; the other sensors are those valid before
the sample, so one found invalid in the same sample still counts among them. -/
def State.tempImplausible (s : State) (r : List Int) (n : Nat) : Bool :=
  let x := r.getD n 0
  let others := (List.range 24).filter (fun m => m != n && sensorDie m == sensorDie n && s.tempValid m)
  x < -440 || 1400 < x || (!others.isEmpty && others.all (fun m => 120 < x - r.getD m 0 || 120 < r.getD m 0 - x))

/-- Every 100 µs all sensors are read (R40): readings in 0.125 °C. DESIGN CHOICE (assumption 112): while none of sensors 0 to 19 is
valid, the warning, the limit and the critical timer stay as they are. -/
def State.tempSample (s : State) (r : List Int) : State :=
  if !s.running then s else
  let s1 := (List.range 24).foldl (fun t n =>
    let x := r.getD n 0
    let bad := s.hlt.tempBad.testBit n || s.tempImplausible r n
    let t1 := if bad && !s.hlt.tempBad.testBit n then
      (t.setHlt { t.hlt with tempBad := withBit t.hlt.tempBad n true }).raise 0x0213 3 n else t
    let mx := signed 12 (s.fld (HLT_TEMP n) HLT_TEMP_max_hold)
    let hold := if s.hlt.tempSeen then max mx x else x
    ((t1.setFld (HLT_TEMP n) HLT_TEMP_temp (unsigned 12 x)).setFld (HLT_TEMP n) HLT_TEMP_valid
      (boolNat (!bad))).setFld (HLT_TEMP n) HLT_TEMP_max_hold (unsigned 12 hold)) (s.setHlt { s.hlt with tempSeen := true })
  let vals := ((List.range 20).filter s1.tempValid).map (fun n => r.getD n 0)
  let s2 := match vals with
    | [] => s1
    | v :: vs =>
      let top := vs.foldl max v
      let warn : Int := 8 * s1.fld HLT_TEMP_LIM HLT_TEMP_LIM_warn
      let h := s1.hlt
      let u := if h.warnActive then
          if top < warn - 40 then (s1.setHlt { h with warnActive := false }).raise 0x0214 0 else s1
        else if warn ≤ top then (s1.setHlt { h with warnActive := true }).raise 0x0210 3 else s1
      let u1 := if u.hlt.limitActive then
          if top < 960 then u.setHlt { u.hlt with limitActive := false } else u
        else if 1000 ≤ top then (u.setHlt { u.hlt with limitActive := true }).raise 0x0211 5 else u
      u1.setHlt { u1.hlt with critTimer := 1040 ≤ top }
  let grp (n : Nat) : Option Int := if s2.tempValid n then some (r.getD n 0) else none
  ((((s2.groupTemp 0 (grp 20)).groupTemp 1 (grp 21)).groupTemp 2 (grp 22)).groupTemp 3 (grp 23)).groupsApply

/-- 130 °C for 1 ms: class 7 (R41). -/
def State.tempCritical (s : State) : State := if s.hlt.critTimer then s.raise 0x0212 7 else s

/-- The sensors have been read since the reset, and every valid logic- and line-die sensor read below 115 °C (R42). -/
def State.thermalOk (s : State) : Bool :=
  s.hlt.tempSeen && (List.range 20).all (fun n =>
    !s.tempValid n || decide (signed 12 (s.fld (HLT_TEMP n) HLT_TEMP_temp) < 920))

/-- After a critical-temperature reset the wait ends, and the bounds of R62 count from here (R42). -/
def State.thermalEnd (s : State) : State :=
  if s.dev.thermalWait && s.thermalOk then
    { s with dev := { s.dev with thermalWait := false, bootRef := s.elapsed } }
  else s

def State.clrMax (s : State) : State :=
  (List.range 24).foldl (fun t n => t.setFld (HLT_TEMP n) HLT_TEMP_max_hold (t.fld (HLT_TEMP n) HLT_TEMP_temp)) s

/-! Voltage (R43, R50) -/

def State.vcoreCmd (s : State) : Nat := s.fld HLT_GOV_STATUS HLT_GOV_STATUS_vcore_cmd_mv

def absDiff (a b : Nat) : Nat := (a - b) + (b - a)

/-- A reading differs from the command by more than 25 mV (R50). -/
def State.checkVout (s : State) (cmd mv : Nat) : State :=
  if 25 < absDiff mv cmd then (s.setFld HLT_PMB_STATUS HLT_PMB_STATUS_vmismatch 1).raise 0x0233 4 else s

def State.checkVcore (s : State) (mv : Nat) : State := s.checkVout s.vcoreCmd mv

def State.vmonSample (s : State) (r : List Nat) : State :=
  if !s.running then s else
  (List.range 12).foldl (fun t n =>
    let mv := r.getD n 0
    let t1 := t.setFld (HLT_VMON n) HLT_VMON_mv (min mv 4095)
    let low := decide (mv < t1.fld (HLT_VMON_LIM n) HLT_VMON_LIM_lo_mv)
    let high := decide (t1.fld (HLT_VMON_LIM n) HLT_VMON_LIM_hi_mv < mv)
    let u := if low then t1.setFld (HLT_VMON n) HLT_VMON_low 1 else t1
    let u1 := if high then u.setFld (HLT_VMON n) HLT_VMON_high 1 else u
    let t2 := if low || high then u1.raise 0x0240 4 n else u1
    if n < 4 then
      (t2.setHlt { t2.hlt with underTimer := withBit t2.hlt.underTimer n (mv < 680) }).checkVcore mv
    else t2) s

/-- A VCORE monitor below 680 mV for 10 µs: class 7 (R43). -/
def State.undervolt (s : State) (n : Nat) : State := if s.hlt.underTimer.testBit n then s.raise 0x0241 7 n else s

/-! PMBus (R50, R51) -/

/-- An attempt at a transaction on the regulator link. -/
def State.pmbOut (s : State) (c : PmbCmd) : State := s.out (.pmbus (s.fld HLT_PMB_CFG HLT_PMB_CFG_addr) c)

/-- A transaction opens on the regulator link. -/
def State.pmbStart (s : State) (c : PmbCmd) : State := (s.setHlt { s.hlt with pmb := some (c, 0) }).pmbOut c

def PmbCmd.isVout : PmbCmd → Bool
  | .vout _ => true
  | .voutMode | .readVout _ | .statusWord | .clearFaults => false

/-- A transaction starts once the link is free. DESIGN CHOICE (assumption 86): while another is open it waits, and a
VOUT_COMMAND takes the place of one that waits. -/
def State.pmbSend (s : State) (c : PmbCmd) : State :=
  match s.hlt.pmb with
  | none => s.pmbStart c
  | some _ =>
    s.setHlt { s.hlt with pmbWait := (if c.isVout then s.hlt.pmbWait.filter (fun d => !d.isVout) else s.hlt.pmbWait) ++ [c] }

/-- The open transaction has ended: the next that waits starts. -/
def State.pmbEnd (s : State) : State :=
  match s.hlt.pmbWait with
  | [] => s.setHlt { s.hlt with pmb := none }
  | c :: l => (s.setHlt { s.hlt with pmbWait := l }).pmbStart c

/-- A changed command is sent unless the output format is not linear (R50). -/
def State.sendVout (s : State) : State := if s.hlt.notLinear then s else s.pmbSend (.vout s.vcoreCmd)

/-- The VCORE command changes; 900 mV shows at_vmax (R46). -/
def State.setVcore (s : State) (mv : Nat) : State :=
  if mv = s.vcoreCmd then s
  else
    let s1 := (s.setFld HLT_GOV_STATUS HLT_GOV_STATUS_vcore_cmd_mv mv).setFld HLT_GOV_STATUS HLT_GOV_STATUS_at_vmax
      (boolNat (mv = 900))
    (s1.setHlt { s1.hlt with vcoreChanged := true, lastRaise := decide (s.vcoreCmd < mv) }).sendVout

/-- All repeats have failed (R51). -/
def State.pmbLost (s : State) : State := (s.setFld HLT_PMB_STATUS HLT_PMB_STATUS_link_lost 1).raise 0x0230 4

/-- A failed attempt of the open transaction: counted, repeated up to three times, then the link is lost (R51). -/
def State.pmbError (s : State) : State :=
  match s.hlt.pmb with
  | none => s
  | some (c, n) =>
    let s1 := s.addFld HLT_PMB_STATUS HLT_PMB_STATUS_err_count 1
    if n < 3 then (s1.setHlt { s1.hlt with pmb := some (c, n + 1) }).pmbOut c else s1.pmbEnd.pmbLost

/-- The open transaction has gone through: a VOUT_COMMAND is read back (R50). -/
def State.pmbDone (s : State) (r : PmbResult) : State :=
  match r with
  | .nack | .pecError => s.pmbError
  | .ok mv =>
    match s.hlt.pmb with
    | none => s
    | some (.vout sent, _) => s.pmbStart (.readVout sent)
    | some (.readVout sent, _) => (s.checkVout sent mv).pmbEnd
    | some (.voutMode, _) | some (.statusWord, _) | some (.clearFaults, _) => s.pmbEnd

/-- A read that the device makes at once, of which the first `fails` attempts fail; whether it was answered (R51). -/
def State.pmbRead (s : State) (c : PmbCmd) (fails : Nat) : State × Bool :=
  let s1 := (List.range (min 4 (fails + 1))).foldl (fun t _ => t.pmbOut c) s
  let s2 := s1.addFld HLT_PMB_STATUS HLT_PMB_STATUS_err_count (min 4 fails)
  if fails < 4 then (s2, true) else (s2.pmbLost, false)

/-- PMB_ALERT_N: STATUS_WORD is read; a fault is reported and cleared (R51). -/
def State.pmbAlert (s : State) (fails status : Nat) : State :=
  if !s.running then s else
  match s.pmbRead .statusWord fails with
  | (s1, false) => s1
  | (s1, true) =>
    if status = 0 then s1
    else ((s1.setFld HLT_PMB_STATUS HLT_PMB_STATUS_reg_fault 1).raise 0x0231 4).pmbSend .clearFaults

/-- The start read of VOUT_MODE (R50). -/
def State.voutMode (s : State) (fails : Nat) (linear : Bool) : State :=
  if !s.running then s else
  match s.pmbRead .voutMode fails with
  | (s1, false) => s1
  | (s1, true) =>
    let s2 := s1.setHlt { s1.hlt with notLinear := !linear }
    if linear then s2 else (s2.setFld HLT_PMB_STATUS HLT_PMB_STATUS_mode_refused 1).raise 0x0232 5

/-! The governor (R44–R48) -/

/-- The polder of a rate monitor's region (R17, R44). -/
def monPolder (n : Nat) : Nat :=
  if n < 8 then 5 else if n < 16 then 6 else if n < 20 then 7 else if n < 22 then 8 else if n < 24 then 9
  else if n < 26 then 7 else if n < 28 then 10 else if n < 30 then 4 else 11

def State.monOn (s : State) (n : Nat) : Bool := (s.fld SYS_POLDER SYS_POLDER_on).testBit (monPolder n)

/-- A rate changed by more than 40 % (R44). -/
def rateJump (old new : Nat) : Bool := 40 * old < 100 * absDiff new old

/-- Measure one monitor at a period's end (R44). DESIGN CHOICE (assumption 85): the rate of the period before counts also where
the polder was off in it. -/
def State.measureRate (s : State) (n rate : Nat) : State :=
  let a := HLT_RATE_MEAS n
  let old := s.fld a HLT_RATE_MEAS_rate
  let new := min rate 0xFFFF
  let bad := s.monOn n && !s.hlt.faulty.testBit n &&
    (new == 0 || (s.hlt.havePrev && !s.hlt.vcoreChanged && rateJump old new))
  let s1 := s.setFld a HLT_RATE_MEAS_rate new
  let s2 := if bad then
      ((s1.setHlt { s1.hlt with faulty := withBit s1.hlt.faulty n true }).setFld a HLT_RATE_MEAS_fault 1).raise 0x0222 3 n
    else s1
  let ex := s2.fld (HLT_RATE_NEED n) HLT_RATE_NEED_need_active = 0 || !s2.monOn n || s2.hlt.faulty.testBit n
  s2.setFld a HLT_RATE_MEAS_excluded (boolNat ex)

/-- The monitor with the least rate/need among those included: (monitor, rate, need). DESIGN CHOICE (assumption 113): of equal ones
the lowest number. -/
def State.worst (s : State) : Option (Nat × Nat × Nat) :=
  (List.range 32).foldl (fun best n =>
    if s.fldB (HLT_RATE_MEAS n) HLT_RATE_MEAS_excluded then best
    else
      let r := s.fld (HLT_RATE_MEAS n) HLT_RATE_MEAS_rate
      let d := s.fld (HLT_RATE_NEED n) HLT_RATE_NEED_need_active
      match best with
      | none => some (n, r, d)
      | some (_, r', d') => if r * d' < r' * d then some (n, r, d) else best) none

/-- The margin in 0.1 %, to the nearest, saturating at −2,048 and +2,047. -/
def marginTenths (r d : Nat) : Int :=
  max (-2048) (min 2047 (((2000 * r + d) / (2 * d) : Nat) - 1000))

/-- A next need is above the active one. -/
def State.needsRise (s : State) : Bool :=
  (List.range 32).any (fun n =>
    decide (s.fld (HLT_RATE_NEED n) HLT_RATE_NEED_need_active < s.fld (HLT_RATE_NEED n) HLT_RATE_NEED_need_next))

def State.needActive (s : State) (n : Nat) : Nat := s.fld (HLT_RATE_NEED n) HLT_RATE_NEED_need_active

/-- The words of the placement map as the batch of migrations will leave them. -/
def State.mapAhead (s : State) : Tab Word :=
  s.plc.batch.foldl (fun (t : Tab Word) m => if m.away.isSome then t
    else tput t (PLC_MAP m.routine) (BitVec.ofNat 32 (m.target + 2 ^ 11)))
    (s.regs.filter (fun e => decide (PLC_MAP 0 ≤ e.1 ∧ e.1 < PLC_MAP 1024)))

/-- The need of a monitor for the load that a state carries: its placement map and its admitted streams (R45). -/
def State.needFor (s : State) (n : Nat) : Nat :=
  (Config.needOf s.mapAhead (s.mem.filter (fun e => decide (0x30400000 ≤ e.1 ∧ e.1 < 0x30480000))) n).toNat

/-- Write the next needs and ask for the swap (R45). -/
def State.swapIn (s : State) (need : Nat → Nat) : State :=
  let s1 := (List.range 32).foldl (fun t n => t.setFld (HLT_RATE_NEED n) HLT_RATE_NEED_need_next (need n)) s
  s1.setHlt { s1.hlt with swapPending := true, swapAt := s1.elapsed }

/-- What the warden may do with a load (R45): commit it, raise the needs for it first, wait for a period whose margin reaches the
floor, or refuse it 2 ms after the swap. -/
inductive LoadGate where
  | go | ask | wait | refused
  deriving DecidableEq, Repr

/-- The gate for a load of a kind, given as the state `t` that would carry it. Needs that are swapped in for a load stand until it
is committed or refused; a load of another kind waits behind it. -/
def State.loadGate (s : State) (k : LoadKind) (t : State) : LoadGate :=
  if s.hlt.asked = some k then
    match if s.hlt.swapPending && s.needsRise then some s.hlt.swapAt else s.hlt.raising with
    | none => .go
    | some x => if s.elapsed < x + 2000000 then .wait else .refused
  else if s.hlt.asked.isSome then .wait
  else if (List.range 32).all (fun n => decide (t.needFor n ≤ s.needActive n)) then .go
  else .ask

/-- The higher of the active needs and those of the load `t` are swapped in first (R45, R290). -/
def State.askNeeds (s : State) (k : LoadKind) (t : State) : State :=
  let s1 := s.swapIn (fun n => max (s.needActive n) (t.needFor n))
  s1.setHlt { s1.hlt with asked := some k }

/-- A load is under way still: a bundle that is being installed or switched to, a program that the placer has to commit, a batch of
migrations. -/
def State.loadOpen (s : State) : Bool :=
  s.wrd.switching.isSome || s.plc.batch != [] || decide (2 ≤ s.mram.journal.state) ||
    s.plc.trigger.any (fun x => match x with
      | .program .. => true
      | .derived | .mobile .. => false)

/-- A load has been committed: the needs of what the device now carries are swapped in, once nothing is under way (R45, R290). -/
def State.needsDone (s : State) : State :=
  if s.loadOpen then s
  else
    let s1 := if (List.range 32).all (fun n => decide (s.needFor n = s.needActive n)) then s else s.swapIn s.needFor
    s1.setHlt { s1.hlt with asked := none }

/-- The refusal has been acted on: the needs of the load that stays are swapped in again. -/
def State.dropRise (s : State) : State :=
  (s.setHlt { s.hlt with swapPending := false, raising := none, asked := none }).needsDone

/-- A load change by the rule of R45: `load` is the state that will carry it, `commit` makes it or begins it, `refuse` says what its
refusal brings. -/
def State.beginLoad (s : State) (k : LoadKind) (load : State) (commit refuse : State → State) : State :=
  match s.loadGate k load with
  | .go => (commit s).needsDone
  | .ask => s.askNeeds k load
  | .wait => s
  | .refused => refuse s.dropRise

/-- A load change that one step makes. -/
def State.commitLoad (s : State) (k : LoadKind) (commit refuse : State → State) : State :=
  s.beginLoad k (commit s) commit refuse

/-- Needs swapped in at the period boundary, all at once (R45). -/
def State.swapNeeds (s : State) : State :=
  if s.hlt.swapPending then
    let s1 := s.setHlt { s.hlt with swapPending := false, raising := if s.needsRise then some s.hlt.swapAt else none }
    (List.range 32).foldl (fun t n =>
      t.setFld (HLT_RATE_NEED n) HLT_RATE_NEED_need_active (t.fld (HLT_RATE_NEED n) HLT_RATE_NEED_need_next)) s1
  else s

/-- The law of R46: the command for the next period and the count of periods above lower_pct. `r / d` is the least rate
over need; none when no monitor is included, where no bound holds the command up. -/
def govLaw (cmd above floorPct lowerPct dwell vmin hold : Nat) (noLower : Bool) (m : Option (Nat × Nat)) : Nat × Nat :=
  let below (pct : Nat) : Bool := match m with
    | some (r, d) => decide (100 * r < (100 + pct) * d)
    | none => false
  let overv (pct : Nat) : Bool := match m with
    | some (r, d) => decide ((100 + pct) * d < 100 * r)
    | none => true
  let up := if below 5 then 30 else if below floorPct then 10 else 0
  let (c, a) :=
    if 0 < up then (min (cmd + up) 900, 0)
    else if overv lowerPct then
      if max 1 dwell ≤ above + 1 then (if noLower then cmd else max (max (cmd - 5) vmin) hold, 0) else (cmd, above + 1)
    else (cmd, 0)
  (max c hold, a)

/-- The floor under the governor's commands while a monitor is excluded as faulty (R44). -/
def State.floorHold (s : State) : Nat := if s.hlt.faulty ≠ 0 then 850 else 0

/-- A governor period boundary with the 32 rates counted over the period (R44–R48). DESIGN CHOICE (assumption 114): headroom_alarm
and 0x0220 are the enabled governor's, load_not_met and 0x0221 follow the margin in any case. While the link is lost, only a raise
is retried (R51). -/
def State.govPeriod (s : State) (rates : List Nat) : State :=
  if !s.running then s else
  let s1 := (List.range 32).foldl (fun t n => t.measureRate n (rates.getD n 0)) s
  let s2 := s1.setHlt { s1.hlt with havePrev := true, vcoreChanged := false }
  let w := s2.worst
  let s3 := match w with
    | some (n, r, d) => (s2.setFld HLT_GOV_STATUS HLT_GOV_STATUS_worst_mon n).setFld HLT_GOV_STATUS
        HLT_GOV_STATUS_min_margin (unsigned 12 (marginTenths r d))
    | none => s2.setFld HLT_GOV_STATUS HLT_GOV_STATUS_min_margin 2047
  let neg := match w with | some (_, r, d) => decide (r < d) | none => false
  let s4 := s3.setHlt { s3.hlt with marginNeg := neg }
  let s5 := if neg then s4 else s4.setFld HLT_GOV_STATUS HLT_GOV_STATUS_load_not_met 0
  let floorPct := s5.fld HLT_GOV_CTL HLT_GOV_CTL_floor_pct
  let belowFloor := match w with | some (_, r, d) => decide (100 * r < (100 + floorPct) * d) | none => false
  let s5 := if belowFloor then s5
    else (s5.setHlt { s5.hlt with raising := none }).setFld HLT_GOV_STATUS HLT_GOV_STATUS_headroom_alarm 0
  let s6 :=
    if s5.fldB HLT_GOV_CTL HLT_GOV_CTL_enable then
      let cmd := s5.vcoreCmd
      let t := if belowFloor ∧ cmd = 900 ∧ !s5.fldB HLT_GOV_STATUS HLT_GOV_STATUS_headroom_alarm then
            (s5.setFld HLT_GOV_STATUS HLT_GOV_STATUS_headroom_alarm 1).raise 0x0220 3 else s5
      let lost := t.fldB HLT_PMB_STATUS HLT_PMB_STATUS_link_lost
      let (c, a) := govLaw cmd t.hlt.above floorPct (t.fld HLT_GOV_CTL HLT_GOV_CTL_lower_pct)
        (t.fld HLT_GOV_CTL2 HLT_GOV_CTL2_dwell) (t.fld HLT_GOV_CTL2 HLT_GOV_CTL2_vmin_mv)
        t.floorHold lost (w.map (fun x => (x.2.1, x.2.2)))
      let t1 := t.setHlt { t.hlt with above := a }
      if lost ∧ c = cmd then (if t1.hlt.lastRaise then t1.sendVout else t1) else t1.setVcore c
    else s5
  s6.swapNeeds

/-- The command between periods: 850 mV until the governor is first enabled, fixed_mv while it is disabled (R48), and at least
vmin_mv, and what a faulty monitor asks for, while it is enabled (R44, R46). -/
def State.govMode (s : State) : State :=
  if s.fldB HLT_GOV_CTL HLT_GOV_CTL_enable then
    (s.setHlt { s.hlt with everEnabled := true }).setVcore
      (max (max s.vcoreCmd (s.fld HLT_GOV_CTL2 HLT_GOV_CTL2_vmin_mv)) s.floorHold)
  else if s.hlt.everEnabled then s.setVcore (s.fld HLT_GOV_CTL2 HLT_GOV_CTL2_fixed_mv)
  else s

/-- HLT_GOV_CTL: floor_pct is loaded first, then lower_pct to at least floor_pct + 5 (at most 255); need_swap marks the swap
(R45, R53). The count towards dwell starts anew when enable changes. -/
def State.govCtlWrite (s : State) (v : Word) : State :=
  let s1 := s.wrPlain HLT_GOV_CTL v
  let fl := s1.fld HLT_GOV_CTL HLT_GOV_CTL_floor_pct
  let s2 := s1.setFld HLT_GOV_CTL HLT_GOV_CTL_lower_pct (min 255 (max (HLT_GOV_CTL_lower_pct.get v) (fl + 5)))
  let s3 := if v.toNat.testBit 1 then s2.setHlt { s2.hlt with swapPending := true, swapAt := s2.elapsed } else s2
  let s4 := if s.fldB HLT_GOV_CTL HLT_GOV_CTL_enable = s3.fldB HLT_GOV_CTL HLT_GOV_CTL_enable then s3
    else s3.setHlt { s3.hlt with above := 0 }
  s4.govMode

/-- A margin below zero for 1 ms (R47). -/
def State.loadNotMet (s : State) : State :=
  if s.hlt.marginNeg ∧ !s.fldB HLT_GOV_STATUS HLT_GOV_STATUS_load_not_met then
    (s.setFld HLT_GOV_STATUS HLT_GOV_STATUS_load_not_met 1).raise 0x0221 5
  else s

/-- HLT register writes with an effect of their own. -/
def State.hltWrite (s : State) (off : Nat) (v : Word) : State :=
  let a := 0x20010000 + off
  if off = 0x0008 then s.rateWrite v
  else if off = 0x0018 then s.tideCtlWrite v
  else if off = 0x0100 then s.govCtlWrite v
  else if off = 0x0104 then (s.wrPlain a v).govMode
  else if off = 0x0110 then
    let s1 := s.wrPlain a v
    if v.toNat.testBit 9 then s1.setFld HLT_PMB_STATUS HLT_PMB_STATUS_err_count 0 else s1
  else if off = 0x0480 then
    let s1 := s.wrPlain a v
    if v.toNat.testBit 24 then s1.clrMax else s1
  else s.wrPlain a v

def State.hltRead (s : State) (off : Nat) : Option Nat :=
  if off = 0x0000 then some (s.tide.toNat % 2 ^ 32)
  else if off = 0x0004 then some (s.tide.toNat / 2 ^ 32)
  else if off = 0x001C then some ((s.rd HLT_TIDE_STATUS).toNat % 4 + 4 * boolNat (s.tide != 0 && Config.pllLocked s.elapsed))
  else none

/-! The rows of the table -/

def execTempSample (r : List Int) (s : State) : Host.Outcome State Fault Refusal := .next (s.tempSample r)
def execTempCritical (s : State) : Host.Outcome State Fault Refusal := .next s.tempCritical
def execThermalWaitEnd (s : State) : Host.Outcome State Fault Refusal := .next s.thermalEnd
def execVmonSample (r : List Nat) (s : State) : Host.Outcome State Fault Refusal := .next (s.vmonSample r)
def execVcoreUndervolt (n : Fin 4) (s : State) : Host.Outcome State Fault Refusal := .next (s.undervolt n.val)
def execGovernorPeriod (rates : List Nat) (s : State) : Host.Outcome State Fault Refusal := .next (s.govPeriod rates)
def execLoadNotMet (s : State) : Host.Outcome State Fault Refusal := .next s.loadNotMet
def execPmbusTransactionDone (r : PmbResult) (s : State) : Host.Outcome State Fault Refusal := .next (s.pmbDone r)
def execPmbusClockStretchTimeout (s : State) : Host.Outcome State Fault Refusal := .next s.pmbError
def execPmbAlertN (fails : Fin 5) (status : BitVec 16) (s : State) : Host.Outcome State Fault Refusal :=
  .next (s.pmbAlert fails.val status.toNat)
def execVoutModeRead (fails : Fin 5) (linear : Bool) (s : State) : Host.Outcome State Fault Refusal :=
  .next (s.voutMode fails.val linear)
def execSyncReceiptTimeout (s : State) : Host.Outcome State Fault Refusal := .next s.syncTimeout
def execPresentationCheckResume (s : State) : Host.Outcome State Fault Refusal :=
  .next { s with csg := { s.csg with suspended := false } }

end Sys2Proof.Machine
end

