-- ==== Sys2Proof/Machine/Atn.lean ====
section
/-! DEFINITION. The Atnan instruction word: instructions, their encoding and their decoding (R248–R268). A word that decodes
to none is an illegal instruction (R249, R250). -/

namespace Sys2Proof.Machine

/-- Register arithmetic, in the order of fn (R251). -/
inductive AluOp where
  | add | sub | and | or | xor | sll | srl | sra | slt | sltu | mul
  | mulh | mulhu | div | divu | rem | remu | min | max | minu | maxu
  deriving DecidableEq, Repr

inductive ImmOp where
  | addi | andi | ori | xori | slti | sltiu
  deriving DecidableEq, Repr

inductive ShOp where
  | slli | srli | srai
  deriving DecidableEq, Repr

inductive LoadOp where
  | lw | lh | lhu | lb | lbu
  deriving DecidableEq, Repr

inductive StoreOp where
  | sw | sh | sb
  deriving DecidableEq, Repr

inductive BranchOp where
  | beq | bne | blt | bge | bltu | bgeu
  deriving DecidableEq, Repr

/-- The operations of SCL (R257). -/
inductive SclOp where
  | scx | scf | usx | ufs
  deriving DecidableEq, Repr

/-- An instruction of a keeper core. Register fields are named as in R249. -/
inductive KInstr where
  | alu (op : AluOp) (rd rs1 rs2 : Fin 32)
  /-- REV, or REVH where `half` holds. -/
  | rev (half : Bool) (rd rs1 : Fin 32)
  | imm (op : ImmOp) (rd rs1 : Fin 32) (imm : Fin 65536)
  | shi (op : ShOp) (rd rs1 : Fin 32) (amt : Fin 32)
  | lui (rd : Fin 32) (imm : Fin 65536)
  | lpc (rd : Fin 32) (imm : Fin 65536)
  | load (op : LoadOp) (rd rs1 : Fin 32) (imm : Fin 65536)
  | store (op : StoreOp) (rs2 rs1 : Fin 32) (imm : Fin 65536)
  | branch (op : BranchOp) (rs1 rs2 : Fin 32) (off : Fin 65536)
  /-- J, or JAL where `link` holds. -/
  | jump (link : Bool) (off : Fin 67108864)
  | jr (rd rs1 : Fin 32) (imm : Fin 65536)
  /-- CAS, or AADD where `add` holds. -/
  | atom (add : Bool) (rd rs1 rs2 : Fin 32)
  | mcpy (rd rs1 rs2 : Fin 32)
  /-- `len1` is len − 1. -/
  | bfx (rd rs1 : Fin 32) (start : Fin 512) (len1 : Fin 32) (be sign : Bool)
  | bfi (rs2 rs1 : Fin 32) (start : Fin 512) (len1 : Fin 32) (be : Bool)
  | crc (rd rs1 rs2 : Fin 32) (sel : Fin 7)
  | scl (op : SclOp) (rd rs1 rs2 : Fin 32) (sign : Bool) (len1 : Fin 32)
  | sget (rd rs1 rs2 : Fin 32)
  | sput (rd rs1 rs2 : Fin 32)
  | tlk (rd rs1 rs2 : Fin 32) (type : Fin 8) (sr : Fin 32)
  | emit (rd rs1 rs2 : Fin 32)
  | tarm (rd rs1 rs2 : Fin 32) (timer : Fin 4) (periodic cancel : Bool)
  | hset (rd rs1 rs2 : Fin 32)
  | ciph (rd rs1 : Fin 32)
  | nop
  /-- rd is 2 × (`pair` + 1): even, 2 to 30. -/
  | tnow (pair : Fin 15)
  | rnd (rd : Fin 32)
  | budl (rd : Fin 32)
  | who (rd : Fin 32)
  | done
  | abandon
  deriving DecidableEq, Repr

/-! Codes -/

def AluOp.code : AluOp → Nat
  | .add => 0 | .sub => 1 | .and => 2 | .or => 3 | .xor => 4 | .sll => 5 | .srl => 6 | .sra => 7 | .slt => 8 | .sltu => 9
  | .mul => 10 | .mulh => 11 | .mulhu => 12 | .div => 13 | .divu => 14 | .rem => 15 | .remu => 16 | .min => 17 | .max => 18
  | .minu => 19 | .maxu => 20

def AluOp.ofCode : Nat → Option AluOp
  | 0 => some .add | 1 => some .sub | 2 => some .and | 3 => some .or | 4 => some .xor | 5 => some .sll | 6 => some .srl
  | 7 => some .sra | 8 => some .slt | 9 => some .sltu | 10 => some .mul | 11 => some .mulh | 12 => some .mulhu | 13 => some .div
  | 14 => some .divu | 15 => some .rem | 16 => some .remu | 17 => some .min | 18 => some .max | 19 => some .minu
  | 20 => some .maxu | _ => none

def ImmOp.code : ImmOp → Nat
  | .addi => 2 | .andi => 3 | .ori => 4 | .xori => 5 | .slti => 6 | .sltiu => 7

def ShOp.code : ShOp → Nat
  | .slli => 0 | .srli => 1 | .srai => 2

def LoadOp.code : LoadOp → Nat
  | .lw => 11 | .lh => 12 | .lhu => 13 | .lb => 14 | .lbu => 15

def StoreOp.code : StoreOp → Nat
  | .sw => 16 | .sh => 17 | .sb => 18

def BranchOp.code : BranchOp → Nat
  | .beq => 19 | .bne => 20 | .blt => 21 | .bge => 22 | .bltu => 23 | .bgeu => 24

def SclOp.code : SclOp → Nat
  | .scx => 0 | .scf => 1 | .usx => 2 | .ufs => 3

def SclOp.ofCode : Nat → SclOp
  | 0 => .scx | 1 => .scf | 2 => .usx | _ => .ufs

/-! Formats (R249) -/

/-- Formats I, S, B and F: two register fields and the low 16 bits. -/
def fmtI (op : Nat) (a b : Fin 32) (low : Nat) : Nat := op * 2 ^ 26 + a.val * 2 ^ 21 + b.val * 2 ^ 16 + low

/-- Format R: three register fields and fn. -/
def fmtR (op : Nat) (a b c : Fin 32) (fn : Nat) : Nat := fmtI op a b (c.val * 2 ^ 11 + fn)

/-- The word of an instruction (R249–R268). -/
def KInstr.encode : KInstr → Nat
  | .alu op rd rs1 rs2 => fmtR 0x01 rd rs1 rs2 op.code
  | .rev half rd rs1 => fmtR 0x01 rd rs1 0 (0x015 + boolNat half)
  | .imm op rd rs1 i16 => fmtI op.code rd rs1 i16.val
  | .shi op rd rs1 amt => fmtI 0x08 rd rs1 (op.code * 32 + amt.val)
  | .lui rd i16 => fmtI 0x09 rd 0 i16.val
  | .lpc rd i16 => fmtI 0x0A rd 0 i16.val
  | .load op rd rs1 i16 => fmtI op.code rd rs1 i16.val
  | .store op rs2 rs1 i16 => fmtI op.code rs2 rs1 i16.val
  | .branch op rs1 rs2 off => fmtI op.code rs1 rs2 off.val
  | .jump link off => (0x19 + boolNat link) * 2 ^ 26 + off.val
  | .jr rd rs1 i16 => fmtI 0x1B rd rs1 i16.val
  | .atom add rd rs1 rs2 => fmtR 0x1C rd rs1 rs2 (boolNat add)
  | .mcpy rd rs1 rs2 => fmtR 0x1D rd rs1 rs2 0
  | .bfx rd rs1 start len1 be sign => fmtI 0x20 rd rs1 (start.val * 128 + len1.val * 4 + boolNat be * 2 + boolNat sign)
  | .bfi rs2 rs1 start len1 be => fmtI 0x21 rs2 rs1 (start.val * 128 + len1.val * 4 + boolNat be * 2)
  | .crc rd rs1 rs2 sel => fmtR 0x22 rd rs1 rs2 sel.val
  | .scl op rd rs1 rs2 sign len1 => fmtR 0x23 rd rs1 rs2 (op.code + boolNat sign * 4 + len1.val * 8)
  | .sget rd rs1 rs2 => fmtR 0x24 rd rs1 rs2 0
  | .sput rd rs1 rs2 => fmtR 0x25 rd rs1 rs2 0
  | .tlk rd rs1 rs2 type sr => fmtR 0x26 rd rs1 rs2 (type.val + sr.val * 8)
  | .emit rd rs1 rs2 => fmtR 0x27 rd rs1 rs2 0
  | .tarm rd rs1 rs2 timer periodic cancel => fmtR 0x28 rd rs1 rs2 (timer.val + boolNat periodic * 4 + boolNat cancel * 8)
  | .hset rd rs1 rs2 => fmtR 0x29 rd rs1 rs2 0
  | .ciph rd rs1 => fmtR 0x2A rd rs1 0 0
  | .nop => fmtR 0x3E 0 0 0 0
  | .tnow pair => fmtR 0x3E (Fin.ofNat 32 (2 * pair.val + 2)) 0 0 1
  | .rnd rd => fmtR 0x3E rd 0 0 2
  | .budl rd => fmtR 0x3E rd 0 0 3
  | .who rd => fmtR 0x3E rd 0 0 4
  | .done => fmtR 0x3F 0 0 0 0
  | .abandon => fmtR 0x3F 0 0 0 1

/-- The fields of a word, each as wide as R249 gives it. -/
structure KFields where
  op : Nat
  a : Fin 32
  b : Fin 32
  c : Fin 32
  fn : Nat
  imm : Fin 65536
  off : Fin 67108864
  deriving DecidableEq, Repr

def kFields (w : Nat) : KFields :=
  { op := w / 2 ^ 26, a := Fin.ofNat 32 (w / 2 ^ 21), b := Fin.ofNat 32 (w / 2 ^ 16), c := Fin.ofNat 32 (w / 2 ^ 11)
    fn := w % 2048, imm := Fin.ofNat 65536 w, off := Fin.ofNat 67108864 w }

/-- The instruction where a condition on reserved fields holds. -/
def onlyIf (p : Bool) (i : KInstr) : Option KInstr := if p then some i else none

/-- ALU by fn (R251). -/
def decodeAlu (f : KFields) : Option KInstr :=
  if f.fn = 0x015 then onlyIf (f.c == 0) (.rev false f.a f.b)
  else if f.fn = 0x016 then onlyIf (f.c == 0) (.rev true f.a f.b)
  else (AluOp.ofCode f.fn).map (fun op => .alu op f.a f.b f.c)

/-- SHI by imm16[6:5] (R250). -/
def decodeShi (f : KFields) : Option KInstr :=
  let amt := Fin.ofNat 32 f.imm.val
  match f.imm.val / 32 with
  | 0 => some (.shi .slli f.a f.b amt)
  | 1 => some (.shi .srli f.a f.b amt)
  | 2 => some (.shi .srai f.a f.b amt)
  | _ => none

/-- SYS by fn (R267). -/
def decodeSys (f : KFields) : Option KInstr :=
  if f.b ≠ 0 ∨ f.c ≠ 0 then none
  else match f.fn with
    | 0 => onlyIf (f.a == 0) .nop
    | 1 => if f.a.val % 2 = 0 ∧ 2 ≤ f.a.val then some (.tnow (Fin.ofNat 15 (f.a.val / 2 - 1))) else none
    | 2 => some (.rnd f.a)
    | 3 => some (.budl f.a)
    | 4 => some (.who f.a)
    | _ => none

/-- END by fn (R268). -/
def decodeEnd (f : KFields) : Option KInstr :=
  if f.a ≠ 0 ∨ f.b ≠ 0 ∨ f.c ≠ 0 then none
  else match f.fn with
    | 0 => some .done
    | 1 => some .abandon
    | _ => none

/-- Format F (R254): start, length − 1, order, sign. -/
def decodeBit (f : KFields) (insert : Bool) : Option KInstr :=
  let start := Fin.ofNat 512 (f.imm.val / 128)
  let len1 := Fin.ofNat 32 (f.imm.val / 4)
  let be := f.imm.val.testBit 1
  let sign := f.imm.val.testBit 0
  if insert then onlyIf (!sign) (.bfi f.a f.b start len1 be) else some (.bfx f.a f.b start len1 be sign)

/-- By major opcode (R250). -/
def decodeFields (f : KFields) : Option KInstr :=
  match f.op with
  | 0x01 => decodeAlu f
  | 0x02 => some (.imm .addi f.a f.b f.imm)
  | 0x03 => some (.imm .andi f.a f.b f.imm)
  | 0x04 => some (.imm .ori f.a f.b f.imm)
  | 0x05 => some (.imm .xori f.a f.b f.imm)
  | 0x06 => some (.imm .slti f.a f.b f.imm)
  | 0x07 => some (.imm .sltiu f.a f.b f.imm)
  | 0x08 => decodeShi f
  | 0x09 => onlyIf (f.b == 0) (.lui f.a f.imm)
  | 0x0A => onlyIf (f.b == 0) (.lpc f.a f.imm)
  | 0x0B => some (.load .lw f.a f.b f.imm)
  | 0x0C => some (.load .lh f.a f.b f.imm)
  | 0x0D => some (.load .lhu f.a f.b f.imm)
  | 0x0E => some (.load .lb f.a f.b f.imm)
  | 0x0F => some (.load .lbu f.a f.b f.imm)
  | 0x10 => some (.store .sw f.a f.b f.imm)
  | 0x11 => some (.store .sh f.a f.b f.imm)
  | 0x12 => some (.store .sb f.a f.b f.imm)
  | 0x13 => some (.branch .beq f.a f.b f.imm)
  | 0x14 => some (.branch .bne f.a f.b f.imm)
  | 0x15 => some (.branch .blt f.a f.b f.imm)
  | 0x16 => some (.branch .bge f.a f.b f.imm)
  | 0x17 => some (.branch .bltu f.a f.b f.imm)
  | 0x18 => some (.branch .bgeu f.a f.b f.imm)
  | 0x19 => some (.jump false f.off)
  | 0x1A => some (.jump true f.off)
  | 0x1B => some (.jr f.a f.b f.imm)
  | 0x1C => onlyIf (decide (f.fn < 2)) (.atom (f.fn == 1) f.a f.b f.c)
  | 0x1D => onlyIf (f.fn == 0) (.mcpy f.a f.b f.c)
  | 0x20 => decodeBit f false
  | 0x21 => decodeBit f true
  | 0x22 => onlyIf (decide (f.fn < 7)) (.crc f.a f.b f.c (Fin.ofNat 7 f.fn))
  | 0x23 => onlyIf (decide (f.fn < 256))
      (.scl (SclOp.ofCode (f.fn % 4)) f.a f.b f.c (f.fn.testBit 2) (Fin.ofNat 32 (f.fn / 8)))
  | 0x24 => onlyIf (f.fn == 0) (.sget f.a f.b f.c)
  | 0x25 => onlyIf (f.fn == 0) (.sput f.a f.b f.c)
  | 0x26 => onlyIf (decide (f.fn < 256)) (.tlk f.a f.b f.c (Fin.ofNat 8 f.fn) (Fin.ofNat 32 (f.fn / 8)))
  | 0x27 => onlyIf (f.fn == 0) (.emit f.a f.b f.c)
  | 0x28 => onlyIf (decide (f.fn < 16)) (.tarm f.a f.b f.c (Fin.ofNat 4 f.fn) (f.fn.testBit 2) (f.fn.testBit 3))
  | 0x29 => onlyIf (f.fn == 0) (.hset f.a f.b f.c)
  | 0x2A => onlyIf (f.c == 0 && f.fn == 0) (.ciph f.a f.b)
  | 0x3E => decodeSys f
  | 0x3F => decodeEnd f
  | _ => none

/-- The instruction that a word encodes; none is an illegal instruction. -/
def atnDecode (w : Nat) : Option KInstr := decodeFields (kFields w)

end Sys2Proof.Machine
end

