-- ==== Sys2Proof/Machine/Float.lean ====
section
/-! DEFINITION. The conversions of SCL (R256, R257): exact arithmetic on integers and on binary32 values, one rounding. -/

namespace Sys2Proof.Machine

/-- A binary32 value: finite ones are ± m × 2^e. -/
inductive F32 where
  | nan
  | inf (neg : Bool)
  | fin (neg : Bool) (m : Nat) (e : Int)
  deriving DecidableEq, Repr

def f32Of (w : Nat) : F32 :=
  let neg := bit 31 w
  let x := bits 30 23 w
  let m := bits 22 0 w
  if x = 255 then if m = 0 then .inf neg else .nan
  else if x = 0 then .fin neg m (-149)
  else .fin neg (m + 2 ^ 23) ((x : Int) - 150)

/-- m / 2^k rounded to nearest, ties to even. -/
def halfEven (m k : Nat) : Nat :=
  let q := m / 2 ^ k
  let r := m % 2 ^ k * 2
  if 2 ^ k < r ∨ (r = 2 ^ k ∧ q % 2 = 1) then q + 1 else q

/-- ± m × 2^e as binary32 bits, rounded once; a result beyond the range saturates to the largest finite value (R257). -/
def f32Round (neg : Bool) (m : Nat) (e : Int) : Nat :=
  let sign := boolNat neg * 2 ^ 31
  if m = 0 then sign
  else
    let e1 := max (e + m.log2 - 23) (-149)
    let q := if e1 ≤ e then m * 2 ^ (e - e1).toNat else halfEven m (e1 - e).toNat
    let w := if q < 2 ^ 23 then q else (e1 + 150).toNat * 2 ^ 23 + (q - 2 ^ 23)
    sign + min w 0x7F7FFFFF

def defaultNan : Nat := 0x7FC00000

/-- ± m × 2^e on the grid 2^e0. -/
def scaled (neg : Bool) (m : Nat) (e e0 : Int) : Int := (if neg then -1 else 1) * (m : Int) * 2 ^ (e - e0).toNat

/-- raw × f + o, rounded once (SCF). -/
def scf (raw : Int) (f o : F32) : Nat :=
  let prod : F32 := match f with
    | .nan => .nan
    | .inf n => if raw = 0 then .nan else .inf (n != decide (raw < 0))
    | .fin n m e => .fin (n != decide (raw < 0)) (m * raw.natAbs) e
  match prod, o with
  | .nan, _ | _, .nan => defaultNan
  | .inf a, .inf b => if a = b then boolNat a * 2 ^ 31 + 0x7F7FFFFF else defaultNan
  | .inf a, .fin _ _ _ | .fin _ _ _, .inf a => boolNat a * 2 ^ 31 + 0x7F7FFFFF
  | .fin a m e, .fin b n d =>
    let e0 := min e d
    let v := scaled a m e e0 + scaled b n d e0
    f32Round (if v = 0 then a && b && m == 0 && n == 0 else decide (v < 0)) v.natAbs e0

/-- n / d rounded to the nearest integer, halves away from zero; d is not 0. -/
def rndDiv (n d : Int) : Int :=
  let q : Nat := (2 * n.natAbs + d.natAbs) / (2 * d.natAbs)
  if decide (n < 0) == decide (d < 0) then q else -(q : Int)

/-- Saturate to a raw length and signedness. -/
def satLen (len : Nat) (sign : Bool) (v : Int) : Int :=
  if sign then max (-(2 ^ (len - 1) : Nat) : Int) (min v ((2 ^ (len - 1) : Nat) - 1)) else max 0 (min v ((2 ^ len : Nat) - 1))

/-- Far beyond every raw range: saturates on the side of the sign. -/
def farOut (neg : Bool) : Int := if neg then -(2 ^ 64 : Nat) else (2 ^ 64 : Nat)

/-- (x − o) / f rounded to an integer, before saturation (UFS). A NaN, or f = 0, gives 0. -/
def ufs (x f o : F32) : Int :=
  match x, o, f with
  | .nan, _, _ | _, .nan, _ | _, _, .nan => 0
  | _, _, .fin _ 0 _ => 0
  | .inf a, .inf b, .fin n _ _ => if a = b then 0 else farOut (a != n)
  | .inf a, .fin _ _ _, .fin n _ _ => farOut (a != n)
  | .fin _ _ _, .inf b, .fin n _ _ => farOut (b == n)
  | _, _, .inf _ => 0
  | .fin a m e, .fin b k d, .fin n q g =>
    let e0 := min (min e d) g
    rndDiv (scaled a m e e0 - scaled b k d e0) (scaled n q g e0)

/-- floor(raw × m / 2^s) + a, saturated to 32 bits signed (SCX). -/
def scx (raw m a : Int) (s : Nat) : Int := satLen 32 true (raw * m / (2 ^ s : Nat) + a)

/-- (x − a) × 2^s / m rounded; where m is 0, the saturation value of the numerator's sign (USX). -/
def usx (x m a : Int) (s : Nat) : Int :=
  let n := (x - a) * (2 ^ s : Nat)
  if m = 0 then (if n = 0 then 0 else farOut (decide (n < 0))) else rndDiv n m

end Sys2Proof.Machine
end

