-- ==== Sys2Proof/Machine/Keepers.lean ====
section
/-! DEFINITION. The keeper cores: events and their dispatch, outputs and their commit, aborts (R231–R234, R244–R247,
R258–R276). -/

namespace Sys2Proof.Machine

/-- A routine's default argument: the bundle layout of R278 has no field for it (R244). -/
def State.defaultArg (r : Nat) : Nat := (Config.defaultArg r).toNat

/-- Keeper clusters 0 and 1 are in PD5, 2 and 3 in PD6. -/
def State.corePowered (s : State) (c : Nat) : Bool := (s.fld SYS_POLDER SYS_POLDER_on).testBit (if c < 32 then 5 else 6)

def State.coreExcluded (s : State) (c : Nat) : Bool := (s.rd64 PLC_EXCL_LO PLC_EXCL_HI).testBit c

/-- The core executes: full operation, no fatal sequence (R77), its polder on, not excluded (R296). -/
def State.coreRuns (s : State) (c : Nat) : Bool :=
  s.dev.state == .full && s.bank.fatal.isNone && s.corePowered c && !s.coreExcluded c

/-! Pending events (R245–R247, R274) -/

/-- Discard an event of a suspended or unplaced routine: a CAN entry is acknowledged (R274, R291). -/
def State.discardEvent (s : State) (r : Nat) (frameLike : Bool) (entry : Option (Nat × Nat)) : State :=
  let s1 := if frameLike then s.rtCount r 8 else s
  match entry with
  | some (ch, no) => s1.canFree ch no
  | none => s1

/-- Events of the routine are discarded: suspended, shed or unplaced. -/
def State.deaf (s : State) (r : Nat) : Bool := (s.rt r).suspended || (s.coreOf r).isNone

def State.setKpr (s : State) (k : KprState) : State := { s with kpr := k }

def State.addEvent (s : State) (e : KEvent) : State := s.setKpr { s.kpr with pend := s.kpr.pend ++ [e] }

/-- The event that a frame at sp28 becomes (R244, R261, R322). -/
def State.eventOf (s : State) (f : Frame) (r arg : Nat) : KEvent :=
  match f.kind with
  | .canRecord =>
    { kind := 2, routine := r, g2 := bits 5 0 (recWord f.data 0), g3 := f.data.length, time := f.ts, g6 := arg, data := f.data
      canEntry := f.canEntry }
  | .message =>
    let h := f.fab.getD { type := 7 }
    { kind := 5, routine := r, g2 := h.src % 32 + h.tag / 1024 % 1024 * 32, g3 := f.data.length, time := f.ts
      g6 := State.defaultArg r, data := f.data }
  | _ =>
    { kind := 1, routine := r, g2 := f.input + f.tc * 32 + boolNat f.bad.isSome * 256, g3 := f.data.length, time := f.ts, g6 := arg
      g7 := f.bad.getD 0, data := f.data }

/-- The cluster port takes the frame at the head of sp28's staging buffer, when the target has room (R246, R282). -/
def State.clusterTake (s : State) : State :=
  match s.stagedAt 28 with
  | [] => s
  | f :: rest =>
    let t := { s with sw := { s.sw with staged := tset [] s.sw.staged 28 rest } }
    match s.bindingOf f with
    | none => (t.bump (PLC_CNT 3)).raiseLim 0x0D0A 1
    | some (r, arg) =>
      if s.deaf r then t.discardEvent r true f.canEntry
      else match s.coreOf r with
        | some c => if s.clusterRoom c f.data.length [] then t.addEvent (s.eventOf f r arg) else s
        | none => s

/-- The pending event that a free core starts: highest priority first, then the oldest (R245). -/
def State.nextEvent (s : State) (c : Nat) : Option KEvent :=
  (s.kpr.pend.filter (fun e => s.coreOf e.routine == some c && !(s.rt e.routine).suspended)).foldl
    (fun best e => match best with
      | none => some e
      | some b => if (s.routine b.routine).prio < (s.routine e.routine).prio then some e else some b) none

def Routine.units (r : Routine) : Nat := if r.budget = 0 then 4096 else r.budget

/-- Registers on entry (R244). -/
def entryRegs (e : KEvent) : Vector Word 32 :=
  let w (n : Nat) : Word := BitVec.ofNat 32 n
  ((((((((Vector.replicate 32 (0 : Word)).set 1 (w e.kind)).set 2 (w e.g2)).set 3 (w e.g3)).set 4 (w e.time)).set 5
    (w (e.time / 2 ^ 32))).set 6 (w e.g6)).set 7 (w e.g7))

def State.startInvocation (s : State) (c : Nat) : State :=
  if !s.coreRuns c ∨ (s.inv c).isSome then s
  else match s.nextEvent c with
    | none => s
    | some e =>
      let r := s.routine e.routine
      let iv : Invocation := { ev := e, pc := 4 * r.entryWord, regs := entryRegs e, left := r.units }
      (s.setKpr { s.kpr with pend := s.kpr.pend.erase e, run := s.kpr.run ++ [(c, iv)] }).rtCount e.routine 0

/-- The due time as a tide clock value: a step does not move the timer (R39, R263). -/
def State.dueTide (s : State) (due : Nat) : Nat := (s.tide.toNat + 2 ^ 64 + due - s.elapsed) % 2 ^ 64

/-- A timer of a routine falls due; its event merges with one still pending (R247, R263). -/
def State.timerDue (s : State) (r t : Nat) : State :=
  match s.kpr.timers.find? (fun e => e.1 == 4 * r + t) with
  | none => s
  | some (k, x) =>
    if s.elapsed < x.due then s
    else
      let s1 := s.setKpr { s.kpr with timers := match x.period with
        | some p => tput s.kpr.timers k { x with due := x.due + p }
        | none => tdel s.kpr.timers k }
      if s.deaf r then s1
      else if s.kpr.pend.any (fun e => e.kind == 3 && e.routine == r && e.g2 == t) then (s1.rtCount r 6).raiseLim 0x0C06 1 r
      else s1.addEvent { kind := 3, routine := r, g2 := t, time := s.dueTide x.due, g6 := x.arg }

/-! The signal table (R231–R234) -/

def signalAddr (i : Nat) : Nat := 0x30000000 + 16 * i

/-- A commit posts a signal-change event to a subscriber, unless one is still pending (R234). -/
def State.notifyOne (s : State) (i : Nat) (changed : Bool) (w : Nat) : State :=
  let r := w % 1024
  if bit 31 w ∧ (bit 30 w ∨ changed) then
    if s.deaf r then s
    else if s.kpr.pend.any (fun e => e.kind == 4 && e.routine == r && e.g2 == i) then s.tblCount 10
    else s.addEvent { kind := 4, routine := r, g2 := i, time := s.tide.toNat, g6 := State.defaultArg r }
  else s

/-- A committed signal write: words 0 to 3 in one access, then the notifications (R232, R234, R259). -/
def State.signalWrite (s : State) (i value status : Nat) : State :=
  let a := signalAddr i
  let v0 := s.mrd a 8
  let w3 := s.mem32 (a + 12)
  let n3 := (w3 % 65536 + 1) % 65536 + bits 19 16 w3 * 2 ^ 16 + 2 ^ 20 + status % 8 * 2 ^ 21 + bits 31 24 w3 * 2 ^ 24
  let s1 := ((s.mwr a 8 value).setMem32 (a + 8) (s.tide.toNat / 65536)).setMem32 (a + 12) n3
  let changed := value % 2 ^ 64 != v0 || bits 23 20 n3 != bits 23 20 w3
  let g := bits 31 24 w3
  if g = 0 then s1
  else (List.range 4).foldl (fun t k => t.notifyOne i changed (t.mem32 (0x304B8000 + 16 * g + 4 * k))) s1

/-! Ends of an invocation (R268, R270, R273, R274) -/

/-- The core is free again; a CAN entry is acknowledged (R199). -/
def State.endRun (s : State) (c : Nat) (iv : Invocation) : State :=
  let s1 := s.setKpr { s.kpr with run := s.kpr.run.filter (fun e => e.1 != c) }
  match iv.ev.canEntry with
  | some (ch, no) => s1.canFree ch no
  | none => s1

/-- A routine is suspended: what is pending for it is discarded (R274). -/
def State.suspend (s : State) (r : Nat) : State :=
  let s1 := (s.setRt r { s.rt r with suspended := true }).raise 0x0C03 4 r
  let s2 := s1.setKpr { s1.kpr with pend := s1.kpr.pend.filter (fun e => e.routine != r) }
  (s.kpr.pend.filter (fun e => e.routine == r)).foldl (fun t e => t.discardEvent r e.frameLike e.canEntry) s2

/-- The invocation aborts: outputs discarded, cause and pc recorded (R273, R274). -/
def State.kAbort (s : State) (c : Nat) (iv : Invocation) (cause : Nat) : State :=
  let r := iv.ev.routine
  let s1 := (s.endRun c iv).rtCount r (if cause = causeBudget then 3 else 4)
  let x := s1.rt r
  let s2 := (s1.setRt r { x with lastPc := iv.pc % 2 ^ 15, lastCause := cause, abortRun := x.abortRun + 1 }).setFld KPR_STATUS
    KPR_STATUS_abort_seen 1
  let s3 := if cause = causeBudget then s2.raiseLim 0x0C01 2 r else s2.raiseLim 0x0C02 3 r
  let k := s.fld KPR_CTL KPR_CTL_susp_aborts
  if k ≠ 0 ∧ k ≤ x.abortRun + 1 then s3.suspend r else s3

/-- A suspension ends (R274). -/
def State.resume (s : State) (r : Nat) : State :=
  if (s.rt r).suspended then (s.setRt r { s.rt r with suspended := false, abortRun := 0 }).raise 0x0C04 0 r else s

/-- The invocation ends by DONE or ABANDON: units used are recorded, the run of aborts ends. -/
def State.kEnd (s : State) (c : Nat) (iv : Invocation) (k : Nat) : State :=
  let r := iv.ev.routine
  let s1 := (s.endRun c iv).rtCount r k
  let x := s1.rt r
  s1.setRt r { x with maxUsed := max x.maxUsed ((s.routine r).units - iv.left), abortRun := 0 }

/-! Outputs (R261–R264, R270) -/

/-- The head word of a kind 3 destination (R261). -/
def msgHdr (s : State) (r tc colour dst target : Nat) : FabHdr :=
  { type := 7, tc := tc, colour := colour, dst := dst, src := s.fabAddr, tag := target + r * 1024, fresh := true }

/-- The device that hosts a mobile routine, where it is another one: the head has distributed the hosts to every device (R298, R299).
A fixed routine of the device's own program is never meant. -/
def State.hostElsewhere (s : State) (r : Nat) : Option Nat :=
  if r < s.plc.prog.routines.length ∧ !(s.routine r).mobile then none
  else ((List.range 64).find? (fun m => s.fldB (PLC_MOB m) PLC_MOB_valid && s.fld (PLC_MOB m) PLC_MOB_routine == r &&
    !s.fldB (PLC_MOB m) PLC_MOB_here)).map (fun m => s.fld (PLC_MOB m) PLC_MOB_host)

/-- A committed emit enters the switch at sp28 (R261, R262). A message for a mobile routine that another device hosts goes
to that host (R299). -/
def State.sendEmit (s : State) (r : Nat) (e : List Byte) : State :=
  let w0 := recWord e 0
  let w1 := recWord e 1
  let data := e.drop 8
  let f : Frame := { input := 28, data := data, tc := bits 4 2 w0, colour := bits 6 5 w0, ts := s.tide.toNat }
  match w0 % 4 with
  | 0 => s.sendInternal f w1
  | 1 => s.sendTo f (fun t => t.macDest 28 data)
  | 2 => s.sendInternal { f with kind := .canRecord } (2 ^ 30)
  | _ =>
    let target := bits 14 5 w1
    let host := if w1 % 32 = s.fabAddr then (s.hostElsewhere target).getD s.fabAddr else w1 % 32
    let g : Frame := { f with kind := .message, fab := some (msgHdr s r f.tc f.colour host target) }
    if host = s.fabAddr then s.sendInternal { g with routine := some (target, State.defaultArg target) } (2 ^ 28)
    else s.sendInternal g (2 ^ 31)

/-- Bytes in a cluster's outbound buffer: what sp28 has not carried yet, at 20 Gbit/s (R270). -/
def State.outboundUsed (s : State) (k : Nat) : Nat :=
  ((s.kpr.outbound.filter (fun e => e.1 == k && decide (s.elapsed * 10 < e.2.2))).map (fun e => e.2.1)).sum

def Invocation.emitBytes (iv : Invocation) : Nat := (iv.emits.map List.length).sum

/-- An emit takes its place in the outbound buffer. -/
def State.queueEmit (s : State) (k n : Nat) : State :=
  let live := s.kpr.outbound.filter (fun e => decide (s.elapsed * 10 < e.2.2))
  let start := live.foldl (fun a e => max a e.2.2) (s.elapsed * 10)
  s.setKpr { s.kpr with outbound := live ++ [(k, n, start + 4 * n)] }

/-- A timer operation takes effect (R263). -/
def State.timerApply (s : State) (r : Nat) (o : TimerOp) : State :=
  let k := 4 * r + o.timer
  if o.delay = 0 then
    s.setKpr { s.kpr with timers := tdel s.kpr.timers k
                          pend := s.kpr.pend.filter (fun e => !(e.kind == 3 && e.routine == r && e.g2 == o.timer)) }
  else
    let x : KTimer :=
      { due := s.elapsed + o.delay * 1000, period := if o.periodic then some (o.delay * 1000) else none, arg := o.arg }
    s.setKpr { s.kpr with timers := tput s.kpr.timers k x }

/-- Steps 2 to 5 of the commit, once the outbound buffer has room (R270). -/
def State.commitRest (s : State) (c : Nat) (iv : Invocation) : State :=
  let r := iv.ev.routine
  let s1 := iv.emits.foldl (fun t e => (t.queueEmit (c / 16) e.length).sendEmit r e) s
  let s2 := (List.range 4).foldl (fun t k => (iv.timers.filter (fun o => o.timer == k)).foldl (fun u o => u.timerApply r o) t) s1
  let s3 := iv.hsets.foldl (fun t h => t.dikeAccess none true (0x400 + 32 * h.1) (BitVec.ofNat 32 h.2) true true) s2
  s3.kEnd c { iv with wait := .none } 1

/-- The emits of the invocation fit the outbound buffer. -/
def State.outboundRoom (s : State) (c : Nat) (iv : Invocation) : Bool :=
  decide (s.outboundUsed (c / 16) + iv.emitBytes ≤ 32768)

/-- DONE: the signal writes are applied; then the emits pass, or DONE waits for room (R270). -/
def State.kDone (s : State) (c : Nat) (iv : Invocation) : State :=
  let s1 := iv.sputs.foldl (fun t w => t.signalWrite w.index w.value w.status) s
  let iv1 := { iv with sputs := [] }
  if s1.outboundRoom c iv1 then s1.commitRest c iv1 else s1.setInv c { iv1 with wait := .done }

/-- Room has come for a waiting DONE. -/
def State.doneWaitEnd (s : State) (c : Nat) : State :=
  match s.inv c with
  | some iv => if iv.wait = .done ∧ s.outboundRoom c iv then s.commitRest c iv else s
  | none => s

/-! Registers (R276) -/

def State.rtClear (s : State) (r : Nat) : State :=
  s.setRt r { s.rt r with cnt := [0, 0, 0, 0, 0, 0, 0, 0, 0], maxUsed := 0 }

def State.kprSel (s : State) : Nat := s.fld KPR_RT_SEL KPR_RT_SEL_routine

def State.kprWrite (s : State) (off : Nat) (v : Word) : State :=
  if off = 0x0020 then
    let s1 := if bit 0 v.toNat then s.resume s.kprSel else s
    if bit 1 v.toNat then s1.rtClear s.kprSel else s1
  else if off = 0x0200 then
    if bit 0 v.toNat then
      s.setKpr { s.kpr with rts := s.kpr.rts.foldl (fun t e =>
        tset {} t e.1 { e.2 with cnt := [0, 0, 0, 0, 0, 0, 0, 0, 0], maxUsed := 0 }) [] }
    else s
  else s.wrPlain (0x200E0000 + off) v

def State.kprRead (s : State) (off : Nat) : Option Nat :=
  let r := s.kprSel
  let x := s.rt r
  let at_ := s.coreOf r
  if off = 0x0004 then
    some ((s.rd KPR_STATUS).toNat / 2 * 2 + boolNat (s.kpr.rts.any (fun e => e.2.suspended)))
  else if off = 0x0014 then
    let st := if x.suspended then 3 else if s.kpr.run.any (fun e => e.2.ev.routine == r) then 2
      else if s.kpr.pend.any (fun e => e.routine == r) then 1 else 0
    some (at_.getD 0 + boolNat at_.isSome * 64 + (s.routine r).prio * 128 + st * 1024)
  else if off = 0x0018 then some ((if r < s.plc.prog.routines.length then (s.routine r).units else 0) + min x.maxUsed 65535 * 65536)
  else if off = 0x001C then some (x.lastPc + x.lastCause * 65536)
  else if 0x0040 ≤ off ∧ off < 0x0064 then some (x.cnt.getD ((off - 0x0040) / 4) 0)
  else if 0x0100 ≤ off ∧ off < 0x0200 then
    let c := (off - 0x0100) / 4
    some (boolNat (s.corePowered c) + boolNat (s.inv c).isSome * 2 + ((s.inv c).map (fun iv => iv.ev.routine)).getD 0 * 4 +
      ((List.range s.plc.prog.routines.length).filter (fun k => s.coreOf k == some c)).length * 4096)
  else none

/-! The rows of the table -/

def execClusterPortTake (s : State) : Host.Outcome State Fault Refusal := .next s.clusterTake
def execInvocationStart (c : Fin 64) (s : State) : Host.Outcome State Fault Refusal := .next (s.startInvocation c.val)
def execKeeperTimerDue (r : Fin 1024) (t : Fin 4) (s : State) : Host.Outcome State Fault Refusal := .next (s.timerDue r.val t.val)
def execDoneWaitEnd (c : Fin 64) (s : State) : Host.Outcome State Fault Refusal := .next (s.doneWaitEnd c.val)

end Sys2Proof.Machine
end

