-- ==== Sys2Proof/Machine/Placer.lean ====
section
/-! DEFINITION. The placer: base and derived maps, commits, shedding and migration (R277–R302). -/

namespace Sys2Proof.Machine

/-! Planning (R285–R289). A plan lists routines with their cores. -/

abbrev Plan := List (Nat × Nat)

def Plan.core (p : Plan) (r : Nat) : Option Nat := (p.find? (fun e => e.1 == r)).map (fun e => e.2)

/-- What a computation works with: the program, the cores that are not available, the polders that are off, the predecessor's
map of R288, whether groups must stay in their cluster (R295), and the mobile routines that the device hosts, which come as the last
units (R298). DEDUCED (assumption 30): a polder counts as off where the
profile starts it off and the map that the computation begins with leaves it unused, so that the five inputs of R285 decide. -/
structure Placing where
  prog : Program
  bad : Nat
  off5 : Bool
  off6 : Bool
  pred : Option Plan
  keep : Bool
  mob : List Nat
  deriving DecidableEq, Repr

def Program.placing (p : Program) (bad : Nat) (pred : Option Plan) (keep : Bool) (mob : List Nat) (from_ : Plan) : Placing :=
  { prog := p, bad := bad, pred := pred, keep := keep, mob := mob
    off5 := p.off.testBit 5 && !from_.any (fun e => decide (e.2 < 32))
    off6 := p.off.testBit 6 && !from_.any (fun e => decide (32 ≤ e.2)) }

def Program.rt (p : Program) (r : Nat) : Routine := p.routines.getD r {}

def Program.groupSize (p : Program) (g : Nat) : Nat := ((p.groups.find? (fun x => x.no == g)).map Group.sharedBytes).getD 0

/-- Total of a measure over the routines that a plan places on the cores in question. -/
def Program.total (p : Program) (pl : Plan) (on : Nat → Bool) (f : Routine → Nat) : Nat :=
  ((pl.filter (fun e => on e.2)).map (fun e => f (p.rt e.1))).sum

def Program.cap (p : Program) : Nat := 900000 * bits 7 0 p.policy.toNat / 100
def Program.wLoad (p : Program) : Nat := bits 15 8 p.policy.toNat
def Program.wCount (p : Program) : Nat := bits 23 16 p.policy.toNat
def Program.wStay (p : Program) : Nat := bits 31 24 p.policy.toNat
def Program.wOpen (p : Program) : Nat := bits 15 0 p.policy2.toNat
def Program.wPolder (p : Program) : Nat := bits 31 16 p.policy2.toNat

def onCore (c : Nat) : Nat → Bool := fun x => x == c
def onCluster (k : Nat) : Nat → Bool := fun x => x / 16 == k

/-- Permitted clusters of a routine; 0 acts as all (R278). -/
def Routine.mask (r : Routine) : Nat := if r.clusterMask = 0 then 15 else r.clusterMask

def ceilDiv (a b : Nat) : Nat := (a + b - 1) / b

/-- The polder of a core is off (R288). -/
def Placing.isOff (x : Placing) (c : Nat) : Bool := if c < 32 then x.off5 else x.off6

/-- Feasibility of a core (R286). -/
def Placing.feasible (x : Placing) (pl : Plan) (r c : Nat) : Bool :=
  let m := x.prog.rt r
  !x.bad.testBit c && m.mask.testBit (c / 16) &&
    decide (x.prog.total pl (onCore c) (fun q => q.code.length) + m.code.length ≤ 32768) &&
    decide (x.prog.total pl (onCore c) Routine.dataBytes + m.dataBytes ≤ 65536) &&
    decide (x.prog.total pl (onCore c) Routine.loadKu + m.loadKu ≤ x.prog.cap)

/-- ccost of R288; `opening` counts the w_open term. -/
def Placing.coreCost (x : Placing) (pl : Plan) (opening : Bool) (r c : Nat) : Nat :=
  let p := x.prog
  p.wLoad * ceilDiv ((p.total pl (onCore c) Routine.loadKu + (p.rt r).loadKu) * 1000) p.cap +
    p.wCount * (pl.filter (fun e => e.2 == c)).length +
    (if opening && !pl.any (fun e => e.2 / 16 == c / 16) then p.wOpen else 0) +
    (if x.isOff c then p.wPolder else 0) +
    (match x.pred with | some q => if q.core r = some c then 0 else p.wStay | none => 0)

/-- gcost of R288. -/
def Placing.groupCost (x : Placing) (pl : Plan) (ms : List Nat) (k : Nat) : Nat :=
  let p := x.prog
  p.wLoad * ceilDiv ((p.total pl (onCluster k) Routine.loadKu + (ms.map (fun r => (p.rt r).loadKu)).sum) * 1000) (16 * p.cap) +
    (if pl.any (fun e => e.2 / 16 == k) then 0 else p.wOpen) +
    (if x.isOff (16 * k) then p.wPolder else 0) +
    (match x.pred with
     | some q => if ms.any (fun r => (q.core r).any (fun c => c / 16 != k)) then p.wStay else 0
     | none => 0)

/-- The candidate of lowest cost, the first of equals. -/
def cheapest (cost : Nat → Nat) (l : List Nat) : Option Nat :=
  l.foldl (fun best c => match best with
    | none => some c
    | some b => if cost c < cost b then some c else some b) none

def Placing.pickCore (x : Placing) (pl : Plan) (opening : Bool) (r : Nat) (cores : List Nat) : Option Nat :=
  cheapest (x.coreCost pl opening r) (cores.filter (x.feasible pl r))

def clusterCores (k : Nat) : List Nat := (List.range 16).map (fun i => 16 * k + i)

/-- Place members one at a time in a cluster: the member step of R288. -/
def Placing.members (x : Placing) (k : Nat) : List Nat → Plan → Option Plan
  | [], pl => some pl
  | r :: rs, pl =>
    match x.pickCore pl false r (clusterCores k) with
    | some c => x.members k rs (pl ++ [(r, c)])
    | none => none

/-- Shared memory of a cluster in use: the groups that the plan has there. -/
def Placing.sharedUsed (x : Placing) (pl : Plan) (k : Nat) : Nat :=
  ((((pl.filter (fun e => e.2 / 16 == k)).map (fun e => (x.prog.rt e.1).group)).filter (· != 0)).eraseDups.map
    x.prog.groupSize).sum

/-- Feasibility of a cluster for a group (R286, R295). -/
def Placing.clusterOk (x : Placing) (pl : Plan) (ms : List Nat) (k : Nat) : Bool :=
  decide (x.sharedUsed pl k + x.prog.groupSize (x.prog.rt (ms.headD 0)).group ≤ 262144) && (x.members k ms pl).isSome &&
    (match x.pred with
     | some q => !x.keep || ms.all (fun r => match q.core r with | some c => c / 16 == k | none => true)
     | none => true)

/-- place_unit of R288: a lone routine, or the members of a group; the error is the routine that could not be placed. -/
def Placing.unit (x : Placing) (u : List Nat) (pl : Plan) : Except Nat Plan :=
  match u with
  | [] => .ok pl
  | r :: _ =>
    if (x.prog.rt r).group = 0 then
      match x.pickCore pl true r (List.range 64) with
      | some c => .ok (pl ++ [(r, c)])
      | none => .error r
    else
      match cheapest (x.groupCost pl u) ((List.range 4).filter (x.clusterOk pl u)) with
      | some k => match x.members k u pl with
        | some q => .ok q
        | none => .error (u.foldl min r)
      | none => .error (u.foldl min r)

/-- Insertion by a strict order; equals keep their order. -/
def insertBy {α : Type} (lt : α → α → Bool) (a : α) : List α → List α
  | [] => [a]
  | b :: l => if lt a b then a :: b :: l else b :: insertBy lt a l

def sortBy {α : Type} (lt : α → α → Bool) (l : List α) : List α := l.foldr (insertBy lt) []

/-- Members in descending load, then ascending number (R287). -/
def Program.memberLt (p : Program) (a b : Nat) : Bool :=
  decide ((p.rt b).loadKu < (p.rt a).loadKu ∨ ((p.rt b).loadKu = (p.rt a).loadKu ∧ a < b))

def Program.sumOf (p : Program) (u : List Nat) (f : Routine → Nat) : Nat := (u.map (fun r => f (p.rt r))).sum

/-- Units in descending load, then descending code, then ascending lowest number (R287). -/
def Program.unitLt (p : Program) (a b : List Nat) : Bool :=
  let la := p.sumOf a Routine.loadKu
  let lb := p.sumOf b Routine.loadKu
  let ca := p.sumOf a (fun r => r.code.length)
  let cb := p.sumOf b (fun r => r.code.length)
  decide (lb < la ∨ (lb = la ∧ (cb < ca ∨ (cb = ca ∧ a.foldl min 1024 < b.foldl min 1024))))

/-- The units of the routines that are to be placed (R287); mobile routines come last (R298). -/
def Program.units (p : Program) (l : List Nat) : List (List Nat) :=
  let rs := l.filter (fun r => !(p.rt r).mobile)
  let lone := (rs.filter (fun r => (p.rt r).group == 0)).map (fun r => [r])
  let gs := ((rs.map (fun r => (p.rt r).group)).filter (· != 0)).eraseDups
  sortBy p.unitLt (lone ++ gs.map (fun g => sortBy p.memberLt (rs.filter (fun r => (p.rt r).group == g)))) ++
    (l.filter (fun r => (p.rt r).mobile)).map (fun r => [r])

def Program.fixedRoutines (p : Program) : List Nat := (List.range p.routines.length).filter (fun r => !(p.rt r).mobile)

def Placing.placeAll (x : Placing) : List (List Nat) → Plan → Except Nat Plan
  | [], pl => .ok pl
  | u :: us, pl =>
    match x.unit u pl with
    | .ok q => x.placeAll us q
    | .error r => .error r

/-- Every routine that a map has to place here. -/
def Placing.all_ (x : Placing) : List Nat := x.prog.fixedRoutines ++ x.mob

/-- The base map of R288. -/
def Placing.baseMap (x : Placing) : Except Nat Plan := x.placeAll (x.prog.units x.all_) []

/-- A unit of the derived map: a group with members left tries its own cluster first (R289). -/
def Placing.rederive (x : Placing) (base : Plan) (u : List Nat) (pl : Plan) : Except Nat Plan :=
  let left := u.filter (fun r => (pl.core r).isNone)
  if left = [] then .ok pl
  else
    let home := if (x.prog.rt (u.headD 0)).group = 0 then none else (u.findSome? base.core).map (fun c => c / 16)
    match home.bind (fun k => x.members k left pl) with
    | some q => .ok q
    | none => x.unit u (pl.filter (fun e => !u.contains e.1))

def Placing.rederiveAll (x : Placing) (base : Plan) : List (List Nat) → Plan → Except Nat Plan
  | [], pl => .ok pl
  | u :: us, pl =>
    match x.rederive base u pl with
    | .ok q => x.rederiveAll base us q
    | .error r => .error r

/-- The derived map of R289 over the routines that are not shed. -/
def Placing.derivedMap (x : Placing) (base : Plan) (rs : List Nat) : Except Nat Plan :=
  x.rederiveAll base (x.prog.units rs) (base.filter (fun e => rs.contains e.1 && !x.bad.testBit e.2))

/-- The next routine that shedding takes: the lowest class below 3 first, class 3 at the end, the highest number (R291). -/
def Program.shedNext (p : Program) (rs : List Nat) : Option Nat :=
  rs.foldl (fun best r => match best with
    | none => some r
    | some b => if (p.rt r).shedClass < (p.rt b).shedClass ∨ ((p.rt r).shedClass = (p.rt b).shedClass ∧ b < r) then some r
      else some b) none

/-- Shed until the rest can be placed (R291). -/
def Placing.shedding (x : Placing) (base : Plan) : Nat → List Nat → Plan
  | 0, _ => []
  | n + 1, rs =>
    match x.derivedMap base rs with
    | .ok q => q
    | .error _ =>
      match x.prog.shedNext rs with
      | some r => x.shedding base n (rs.filter (· != r))
      | none => []

/-! Checks of a bundle's program (R277–R284) -/

def Routine.ok (r : Routine) : Bool :=
  decide (4 ≤ r.code.length ∧ r.code.length ≤ 32768) && r.code.length % 4 == 0 && decide (4 * r.entryWord < r.code.length) &&
    decide (r.dataBytes ≤ 65536 ∧ r.image.length ≤ r.dataBytes) && decide (r.group < 256 ∧ r.prio < 8) &&
    (r.budget == 0 || decide (16 ≤ r.budget ∧ r.budget ≤ 65535)) && decide (r.clusterMask < 16 ∧ r.shedClass < 4) &&
    decide (r.loadKu ≤ 900000 ∧ r.hostMask < 2 ^ 32 ∧ r.keyMask < 2 ^ 64 ∧ r.heaterMask < 4096) &&
    (!r.mobile || (decide (r.hostMode < 3) && r.hostMask != 0 && r.group == 0 && r.heaterMask == 0))

/-- The limits of a share group entry (R280). -/
def Group.ok (x : Group) : Bool :=
  decide (1 ≤ x.no ∧ x.no < 256 ∧ x.sharedBytes ≤ 262144 ∧ x.persistWords ≤ 1024 ∧ 4 * x.persistWords ≤ x.sharedBytes ∧
    x.image.length ≤ x.sharedBytes)

/-- Members of each group have a cluster in common, and the group an entry (R279). -/
def Program.groupOk (p : Program) (g : Nat) : Bool :=
  p.groups.any (fun x => x.no == g) &&
    (List.range 4).any (fun k => p.routines.all (fun r => r.group != g || r.mask.testBit k))

def Program.exists_ (p : Program) (r : Nat) : Bool := decide (r < p.routines.length)

/-- Routines that bindings, subscriptions and load timers name (R279). -/
def Program.bound (p : Program) : List Nat :=
  ((p.canBind.map (fun b => b.2.toNat)).filter (bit 0)).map (bits 10 1) ++
    (((p.trie.filter (fun k => k.type == 4)).map TrieKey.result).filter (bit 0)).map (bits 10 1) ++
    (p.frameBind.filter (fun f => bit 0 (f.headD 0).toNat)).map (fun f => bits 9 0 (f.getD 3 0).toNat) ++
    (p.notify.flatMap (fun n => (n.2.filter (fun w => bit 31 w.toNat)).map (fun w => bits 9 0 w.toNat)))

/-- Every condition of R279 but the feasibility of the placement. -/
def Program.ok (p : Program) : Bool :=
  decide (p.routines.length ≤ 1024) && p.routines.all Routine.ok &&
    p.routines.all (fun r => r.group == 0 || p.groupOk r.group) && decide (p.groups.length ≤ 255) && p.groups.all Group.ok &&
    (List.range 12).all (fun n => decide ((p.routines.filter (fun r => r.heaterMask.testBit n)).length ≤ 1)) &&
    decide (p.signals.length ≤ 250000) && p.signals.all (fun d => decide (d.index < 250000) && p.exists_ d.writer) &&
    decide ((p.signals.map SigDecl.index).eraseDups.length = p.signals.length) &&
    p.bound.all (fun r => p.exists_ r && !(p.rt r).mobile) &&
    p.timers.all (fun t => p.exists_ t.routine && t.delay != 0 &&
      decide ((p.timers.filter (fun u => u.routine == t.routine)).length ≤ 4)) && decide (p.frameBind.length ≤ 64 ∧ p.notify.length ≤ 255) &&
    decide ((p.routines.filter Routine.mobile).length ≤ 64) &&
    decide (10 ≤ bits 7 0 p.policy.toNat ∧ bits 7 0 p.policy.toNat ≤ 90)

/-! The machine's side of a placement -/

def State.setPlc (s : State) (x : PlcState) : State := { s with plc := x }

/-- Cores of polders that are not permitted (R286); bit 0 permits PD5, bit 1 PD6. -/
def forbiddenOf (k : Nat) : Nat :=
  (if bit 0 k then 0 else 2 ^ 32 - 1) + (if bit 1 k then 0 else (2 ^ 32 - 1) * 2 ^ 32)

def State.forbidden (s : State) : Nat := forbiddenOf (s.rd PLC_KPOLDER).toNat

/-- Excluded cores and cores of polders not permitted (R289). -/
def State.unavailable (s : State) : Nat := Nat.lor s.forbidden (s.rd64 PLC_EXCL_LO PLC_EXCL_HI)

def planOf (t : Tab Nat) : Plan := t.map (fun e => (e.1, e.2 - 1))
def tabOf (pl : Plan) : Tab Nat := pl.foldl (fun t e => tput t e.1 (e.2 + 1)) []

/-- The routines that this device hosts, with their cores. -/
def State.current (s : State) : Plan :=
  (List.range s.plc.prog.routines.length).filterMap (fun r => (s.coreOf r).map (fun c => (r, c)))

/-- The mobile routines of a program that this device hosts and that do not leave it. -/
def State.hosted (s : State) (p : Program) : List Nat :=
  (List.range p.routines.length).filter (fun r => (p.rt r).mobile && (s.coreOf r).isSome &&
    !s.plc.batch.any (fun m => m.routine == r && m.away.isSome))

/-! Memory of a core (R293, R295) -/

/-- A range of memory takes its unwritten value. -/
def State.clearMem (s : State) (a n : Nat) : State := { s with mem := s.mem.filter (fun c => decide (c.1 < a ∨ a + n ≤ c.1)) }

/-- What a core holds: routine, code, private data. -/
def State.contents (s : State) (c : Nat) : List (Nat × List Byte × List Byte) :=
  ((List.range s.plc.prog.routines.length).filter (fun r => s.coreOf r == some c)).map (fun r =>
    (r, (s.routine r).code, s.mbytes (dataBase c + (s.rt r).dataAt) (s.routine r).dataBytes))

/-- Lay out routines one after another. -/
def State.layOut (s : State) (c : Nat) : List (Nat × List Byte × List Byte) → Nat → Nat → State
  | [], _, _ => s
  | (r, code, data) :: l, ca, da =>
    let s1 := (s.mwbytes (codeBase c + ca) code).mwbytes (dataBase c + da) data
    (s1.setRt r { s1.rt r with codeAt := ca, dataAt := da }).layOut c l (ca + code.length) (da + data.length)

/-- The core's memories hold exactly these routines, in ascending number. -/
def State.layCore (s : State) (c : Nat) (l : List (Nat × List Byte × List Byte)) : State :=
  ((s.clearMem (codeBase c) 0x8000).clearMem (dataBase c) 0x10000).layOut c (sortBy (fun a b => decide (a.1 < b.1)) l) 0 0

/-- The emit buffer of a core reads zero after a bundle load or a migration onto it (R241). -/
def State.clearEmit (s : State) (c : Nat) : State :=
  s.setKpr { s.kpr with emitBuf := s.kpr.emitBuf.filter (fun e => e.1 / 16384 != c) }

/-! Share groups (R280, R293, R295) -/

/-- Shared regions in a cluster, one after another; `old` lays the copies of R293. -/
def State.layGroups (s : State) (k : Nat) (old : Bool) : List (Nat × List Byte) → Nat → State
  | [], _ => s
  | (g, bs) :: l, o =>
    let s1 := s.mwbytes (sharedBase k + o) bs
    let x : GroupPlace := { cluster := k, off := o, len := bs.length }
    (s1.setPlc (if old then { s1.plc with groupOld := tset none s1.plc.groupOld g (some x) }
      else { s1.plc with groupAt := tset none s1.plc.groupAt g (some x) })).layGroups k old l (o + bs.length)

def State.groupRegion (s : State) (g : Nat) : Option GroupPlace := tget none s.plc.groupAt g

def State.groupBytes (s : State) (g : Nat) : List Byte :=
  match s.groupRegion g with
  | some x => s.mbytes (sharedBase x.cluster + x.off) x.len
  | none => []

/-- A place in the persistent region for the block of each group: 4 KiB per group (R280, R367). -/
def persistAddr (g : Nat) : Nat := 0x10220000 + 4096 * (g - 1)

/-- A group's region when it is first placed: its saved block where the digest matches and it can be read, else its initial image
(R280, R415). -/
def State.groupInit (s : State) (g : Nat) : List Byte :=
  match s.plc.prog.groups.find? (fun x => x.no == g) with
  | some x =>
    let base := padTo x.sharedBytes x.image
    if tget [] s.mram.saved g = s.plc.digest ∧ s.plc.digest ≠ [] ∧ !s.mramLost (persistAddr g - mramBase) (4 * x.persistWords) then
      s.mbytes (persistAddr g) (4 * x.persistWords) ++ base.drop (4 * x.persistWords)
    else base
  | none => []

/-- A group's region for a new program: an update keeps the old one, cut or filled up from the new image (R295). -/
def State.groupFirst (s : State) (g : Nat) : List Byte :=
  match s.groupRegion g, s.plc.prog.groups.find? (fun x => x.no == g) with
  | some _, some x =>
    if s.plc.update then
      let old := s.groupBytes g
      old.take x.sharedBytes ++ (padTo x.sharedBytes x.image).drop old.length
    else s.groupInit g
  | _, _ => s.groupInit g

/-- A group takes its place in a cluster with the given content, and what lies there is packed again: live groups first, then what
members that the batch has still to switch see. DESIGN CHOICE (assumption 117): where both do not fit into the cluster's shared
memory, the latter is given up. -/
def State.placeGroup (s : State) (g k : Nat) (bs : List Byte) : State :=
  let waits := s.plc.batch.any (fun m => (s.routine m.routine).group == g)
  let old := (s.groupRegion g).bind (fun x => if x.cluster ≠ k ∧ waits then some x else none)
  let s1 := s.setPlc { s.plc with groupAt := tset none s.plc.groupAt g none, groupOld := tset none s.plc.groupOld g old }
  let here (t : Tab (Option GroupPlace)) : List (Nat × List Byte) := t.filterMap (fun e => e.2.bind (fun x =>
    if x.cluster = k then some (e.1, s.mbytes (sharedBase k + x.off) x.len) else none))
  let live (e : Nat × List Byte) : Bool := s.plc.prog.groups.any (fun x => x.no == e.1) && !s.plc.groupNew.contains e.1
  let all_ := here s1.plc.groupAt
  let new := sortBy (fun a b => decide (a.1 < b.1)) ((g, bs) :: all_.filter live)
  let size (l : List (Nat × List Byte)) : Nat := (l.map (fun e => e.2.length)).sum
  let stale := all_.filter (fun e => !live e)
  let olds := here s1.plc.groupOld
  let s2 := (s1.clearMem (sharedBase k) 0x40000).layGroups k false new 0
  if size new + size stale + size olds ≤ 0x40000 then
    (s2.layGroups k false stale (size new)).layGroups k true olds (size new + size stale)
  else s2.setPlc { s2.plc with
    groupAt := stale.foldl (fun t e => tset none t e.1 none) s2.plc.groupAt
    groupOld := olds.foldl (fun t e => tset none t e.1 none) s2.plc.groupOld }

/-- The group of a routine that has arrived in a cluster: made for the new program, brought along from another cluster, or there
already. -/
def State.joinGroup (s : State) (g k : Nat) : State :=
  if g = 0 then s
  else if s.plc.groupNew.contains g then
    (s.setPlc { s.plc with groupNew := s.plc.groupNew.filter (· != g) }).placeGroup g k (s.groupFirst g)
  else match s.groupRegion g with
    | some x => if x.cluster = k then s else s.placeGroup g k (s.groupBytes g)
    | none => s.placeGroup g k (s.groupInit g)

/-! Persistent blocks (R280) -/

/-- A placed group's persistent block is saved with the bundle digest that it belongs to; a region that the batch has still to make
for the new program belongs to none. -/
def State.saveGroup (s : State) (x : Group) : State :=
  if (s.groupRegion x.no).isSome ∧ 0 < x.persistWords ∧ !s.plc.groupNew.contains x.no then
    let s1 := s.putLines (persistAddr x.no - mramBase) ((s.groupBytes x.no).take (4 * x.persistWords))
    s1.setMram { s1.mram with saved := tset [] s1.mram.saved x.no s1.plc.digest }
  else s

def State.saveBlocks (s : State) : State := s.plc.prog.groups.foldl State.saveGroup s

/-! The placement map (R292, R302) -/

/-- A word of the map for a routine on a core of this device. -/
def State.mapWord (s : State) (c : Nat) (mobile : Bool) : Nat := c + s.fabAddr * 64 + 2048 + boolNat mobile * 4096

/-- The base map's words (R292): those of the base map's cores, and of a mobile routine that another device hosts its own. -/
def State.baseWords (s : State) : List Nat :=
  (List.range 1024).map (fun r => match tget 0 s.plc.base r with
    | 0 => if s.fldB (PLC_MAP r) PLC_MAP_remote then (s.rd (PLC_MAP r)).toNat else 0
    | c + 1 => s.mapWord c (s.routine r).mobile)

def wordsCrc (l : List Nat) : Nat := crc32c (l.flatMap (leBytes 4))

/-- Loads, counts and status bits that follow from the map. -/
def State.plcRefresh (s : State) : State :=
  let n := s.plc.prog.routines.length
  let placed := (List.range n).filter (fun r => s.fldB (PLC_MAP r) PLC_MAP_placed)
  let s1 := (List.range 64).foldl (fun t c => t.wr (PLC_CORE_LOAD c)
    (BitVec.ofNat 32 (((List.range n).filter (fun r => s.coreOf r == some c)).map (fun r => (s.routine r).loadKu)).sum)) s
  let s2 := (s1.setFld PLC_STATUS PLC_STATUS_placed placed.length).setFld PLC_STATUS PLC_STATUS_shed_any
    (boolNat ((List.range n).any (fun r => s.fldB (PLC_MAP r) PLC_MAP_shed)))
  (s2.setFld PLC_STATUS PLC_STATUS_excluded_any (boolNat (s2.rd64 PLC_EXCL_LO PLC_EXCL_HI != 0))).setFld PLC_STATUS
    PLC_STATUS_state (if s2.plc.batch.isEmpty then 0 else 2)

/-- The digests of the base map and of the current map (R292). -/
def State.digestBase (s : State) : Nat := wordsCrc s.baseWords
def State.digestCur (s : State) : Nat := wordsCrc ((List.range 1024).map (fun r => (s.rd (PLC_MAP r)).toNat))

def State.plcRead (s : State) (off : Nat) : Option Nat :=
  if 0x200F0000 + off = PLC_DIGEST_BASE then some s.digestBase
  else if 0x200F0000 + off = PLC_DIGEST_CUR then some s.digestCur
  else none

/-- The map's word of a routine that stands on a core; moved is set where the base map has another core. -/
def State.setMap (s : State) (r c : Nat) (reset : Bool) : State :=
  let moved := tget 0 s.plc.base r != c + 1
  s.wr (PLC_MAP r) (BitVec.ofNat 32 (s.mapWord c (s.routine r).mobile + boolNat moved * 2 ^ 15 + boolNat reset * 2 ^ 16))

/-! Keeper polders (R290, R452) -/

def State.setPolder (s : State) (n : Nat) (on : Bool) : State :=
  s.setFld SYS_POLDER SYS_POLDER_on (withBit (s.fld SYS_POLDER SYS_POLDER_on) n on)

/-- Cores of a keeper polder: 0 to 31 in PD5, 32 to 63 in PD6. -/
def polderCores (n : Nat) : List Nat := (List.range 32).map (fun i => i + (if n = 5 then 0 else 32))

/-- A keeper polder goes off: its memories lose their content; with the last of them sp28 stops (R108, R452). -/
def State.keeperOff (s : State) (n : Nat) : State :=
  let s1 := (polderCores n).foldl (fun t c => ((t.clearMem (codeBase c) 0x8000).clearMem (dataBase c) 0x10000).clearEmit c)
    (s.setPolder n false)
  let k := if n = 5 then 0 else 2
  let s2 := (s1.clearMem (sharedBase k) 0x40000).clearMem (sharedBase (k + 1)) 0x40000
  if s2.portPolderOn 28 then s2 else s2.internalOff 28

/-- A polder that the map needs and that is off goes on. -/
def State.keeperOn (s : State) (cores : List Nat) : State :=
  let need (n : Nat) : Bool := cores.any (fun c => (polderCores n).contains c)
  let s1 := if need 5 ∧ !s.corePowered 0 then s.setPolder 5 true else s
  if need 6 ∧ !s1.corePowered 32 then s1.setPolder 6 true else s1

/-- After the last migration an unused keeper polder goes off where the profile permits it. -/
def State.keeperUnused (s : State) (n : Nat) : State :=
  let used := (List.range s.plc.prog.routines.length).any (fun r => (s.coreOf r).any (fun c => (polderCores n).contains c))
  if !used ∧ (s.fld SYS_POLDER SYS_POLDER_on).testBit n ∧ (s.fld SYS_POLDER SYS_POLDER_permit_off).testBit n then s.keeperOff n else s

/-! Moving a routine (R293, R295, R296) -/

/-- Private data on the new core: kept by R295, or the initial image. -/
def State.newData (s : State) (m : Move) (desc : Routine) : List Byte :=
  let image := padTo desc.dataBytes desc.image
  match s.coreOf m.routine with
  | some c =>
    if m.fresh ∨ m.reset then image
    else
      let old := s.mbytes (dataBase c + (s.rt m.routine).dataAt) (s.routine m.routine).dataBytes
      old.take desc.dataBytes ++ image.drop old.length
  | none => image

def State.setDesc (s : State) (r : Nat) (d : Routine) : State :=
  let rs := s.plc.prog.routines
  let rs1 := rs ++ List.replicate (r + 1 - rs.length) ({} : Routine)
  s.setPlc { s.plc with prog := { s.plc.prog with routines := rs1.set r d } }

/-- The routine leaves its core: its memory there is given back. -/
def State.leaveCore (s : State) (r : Nat) : State :=
  match s.coreOf r with
  | some c =>
    let l := (s.contents c).filter (fun e => e.1 != r)
    (s.setFld (PLC_MAP r) PLC_MAP_placed 0).layCore c l
  | none => s

/-- Event 4 of R293: the routine stands on its target core. The first member of a group brings its shared region along. -/
def State.arrive (s : State) (m : Move) : State :=
  let d := m.desc.getD (s.routine m.routine)
  let data := s.newData m d
  let s1 := ((s.leaveCore m.routine).setDesc m.routine d).joinGroup d.group (m.target / 16)
  let s2 := s1.layCore m.target ((m.routine, d.code, data) :: s1.contents m.target)
  let s3 := (s2.clearEmit m.target).setMap m.routine m.target m.reset
  if m.reset then s3.raise 0x0D05 3 m.routine else s3

/-- A routine is unplaced: a running invocation ends, what is pending for it is discarded (R291). -/
def State.unplace (s : State) (r : Nat) : State :=
  let s1 := match s.kpr.run.find? (fun e => e.2.ev.routine == r) with
    | some (c, iv) => s.endRun c iv
    | none => s
  let mine := s1.kpr.pend.filter (fun e => e.routine == r)
  let s2 := mine.foldl (fun t e => t.discardEvent r e.frameLike e.canEntry)
    (s1.setKpr { s1.kpr with pend := s1.kpr.pend.filter (fun e => e.routine != r) })
  s2.leaveCore r

/-- A routine is shed: counted, with event 0x0D03 (R291). -/
def State.shedRoutine (s : State) (r : Nat) : State :=
  let s1 := (s.unplace r).wr (PLC_MAP r) (BitVec.ofNat 32 (2 ^ 13 + boolNat (s.routine r).mobile * 2 ^ 12))
  (s1.bump (PLC_CNT 2)).raise 0x0D03 (if (s.routine r).shedClass = 3 then 5 else 4) r

/-! Commits (R290, R291) -/

/-- Load timers armed at the first commit after a load; a routine that continues keeps its timers (R284). -/
def State.armTimers (s : State) (fresh : Nat → Bool) : State :=
  (s.plc.prog.timers.filter (fun t => fresh t.routine)).foldl (fun u t =>
    u.timerApply t.routine { timer := t.timer, delay := t.delay, periodic := t.periodic, arg := t.arg }) s

/-- The batch has ended: regions that nobody sees any more are given back, unused polders go off, a hitless update is complete, and
the needs of the new map alone are swapped in (R290, R379). -/
def State.batchEnd (s : State) : State :=
  if s.plc.batch ≠ [] then s
  else
    let s0 := s.setPlc { s.plc with
      groupOld := [], groupNew := []
      groupAt := s.plc.groupAt.filter (fun e => s.plc.prog.groups.any (fun x => x.no == e.1)) }
    let s1 := (s0.keeperUnused 5).keeperUnused 6
    let s2 := if s1.plc.update then (s1.setPlc { s1.plc with update := false }).raise 0x1009 0 else s1
    s2.plcRefresh.needsDone

/-- Order of the migrations: that of R287. -/
def Program.order (p : Program) (rs : List Nat) : List Nat := (p.units rs).flatten

/-- A map is committed: what it sheds leaves, the rest moves in a batch (R290). -/
def State.commitMap (s : State) (plan : Plan) (moves : List Move) : State :=
  let n := s.plc.prog.routines.length
  let gone := (List.range n).filter (fun r => (s.coreOf r).isSome && (plan.core r).isNone &&
    !moves.any (fun m => m.routine == r && m.away.isSome))
  let back := plan.filter (fun e => s.fldB (PLC_MAP e.1) PLC_MAP_shed)
  let s1 := gone.foldl State.shedRoutine (s.keeperOn (plan.map (fun e => e.2)))
  let s2 := back.foldl (fun t e => t.raise 0x0D0C 0 e.1) s1
  let s3 := ((s2.bump (PLC_CNT 0)).raise 0x0D01 0).setPlc { s2.plc with batch := moves }
  s3.batchEnd.plcRefresh

/-- The move of a batch that concerns a routine. -/
def State.moveOf (s : State) (r : Nat) : Option Move := s.plc.batch.find? (fun m => m.routine == r)

/-- The program that the batch leads to. -/
def State.targetProg (s : State) : Program :=
  let p := s.plc.prog
  { p with routines := p.routines.zipIdx.map (fun e => ((s.moveOf e.2).bind (fun m => m.desc)).getD e.1) }

/-- Moves of a derived map: routines whose core changes, and those that a batch of a new program has still to switch; a shed one that
returns starts afresh (R291, R294, R296). -/
def State.derivedMoves (s : State) (plan : Plan) (failed : Nat → Bool) : List Move :=
  (s.targetProg.order (plan.map (fun e => e.1))).filterMap (fun r =>
    let old := s.moveOf r
    match plan.core r with
    | some c =>
      if s.coreOf r = some c ∧ !(old.any (fun m => m.desc.isSome)) then none
      else some { routine := r, target := c, desc := old.bind (fun m => m.desc)
                  fresh := (s.coreOf r).isNone || old.any (fun m => m.fresh), reset := failed r || old.any (fun m => m.reset) }
    | none => none) ++ s.plc.batch.filter (fun m => m.away.isSome)

/-- The routines to place: where the swap of the higher needs was refused, one more is shed (R45, R291). -/
def Placing.toPlace (x : Placing) (refused : Bool) : List Nat :=
  if refused then
    match x.prog.shedNext x.all_ with
    | some r => x.all_.filter (· != r)
    | none => []
  else x.all_

/-- The derived map from a map, with shedding (R289, R291). -/
def State.commitFrom (s : State) (from_ : Plan) (failed : Nat → Bool) (refused : Bool) : State :=
  let p := s.targetProg
  let x := p.placing s.unavailable none false (s.hosted p) from_
  let plan := x.shedding from_ 1025 (x.toPlace refused)
  s.commitMap plan (s.derivedMoves plan failed)

/-- Exclusion and Set keeper polders: the derived map, with shedding (R290, R291). `failed` names routines whose private region
has lost a word; `refused`: the swap of the higher needs was refused. -/
def State.commitDerived (s : State) (failed : Nat → Bool) (refused : Bool := false) : State :=
  s.commitFrom (planOf s.plc.base) failed refused

/-- Descriptor and code of a routine are the same in both programs, whatever their initial images (R451). -/
def sameRoutine (a b : Routine) : Bool := a == { b with image := a.image }

/-- Tables that a program brings: CAN bindings, notify groups, frame bindings, signals (R277). -/
def State.loadSignals (s : State) (old : Program) : State :=
  let p := s.plc.prog
  let gone := old.signals.filter (fun d => !p.signals.any (fun e => e.index == d.index))
  let s1 := gone.foldl (fun t d => t.mwr (signalAddr d.index) 16 0) s
  p.signals.foldl (fun t d =>
    let w3 := d.type * 2 ^ 16 + d.notify * 2 ^ 24
    if old.signals.any (fun e => e.index == d.index && e.type == d.type) then
      t.setMem32 (signalAddr d.index + 12) (t.mem32 (signalAddr d.index + 12) % 2 ^ 24 + d.notify * 2 ^ 24)
    else (t.mwr (signalAddr d.index) 8 d.init).mwr (signalAddr d.index + 8) 8 (w3 * 2 ^ 32)) s1

def State.loadBindings (s : State) (old : Program) : State :=
  let p := s.plc.prog
  let s1 := (old.canBind.foldl (fun t b => t.setMem32 (0x30480000 + 4 * b.1) 0) s)
  let s2 := p.canBind.foldl (fun t b => t.setMem32 (0x30480000 + 4 * b.1) b.2.toNat) s1
  let s3 := (old.trie.filter (fun k => !p.trie.contains k)).foldl (fun t k => (t.trieRemove k.word k.len k.type).1) s2
  let s4 := (p.trie.filter (fun k => !old.trie.contains k)).foldl (fun t k =>
    (t.trieInsert { word := k.word, result := k.result, len := k.len, valid := true, ty := k.type }).1) s3
  let s5 := old.notify.foldl (fun t n => t.mwr (0x304B8000 + 16 * n.1) 16 0) s4
  let s6 := p.notify.foldl (fun t n => t.mwbytes (0x304B8000 + 16 * n.1) (n.2.flatMap (fun w => leBytes 4 w.toNat))) s5
  (List.range 64).foldl (fun t k => (List.range 4).foldl (fun u w => u.wr (PLC_FB k w) ((p.frameBind.getD k []).getD w 0)) t) s6

/-- The placement policy, and the profile's keeper polder permissions; an update leaves these as Set keeper polders last changed
them (R285). -/
def State.loadPolicy (s : State) (update : Bool) : State :=
  let p := s.plc.prog
  let s1 := (s.wr PLC_POLICY p.policy).wr PLC_POLICY2 p.policy2
  if update then s1 else s1.wr PLC_KPOLDER (BitVec.ofNat 32 (p.kpolder % 4))

/-- The first placement after a start: base map, derived map, shedding; every routine is loaded at once (R290, R291). `refused`: the
swap of the higher needs was refused. -/
def State.firstPlacement (s : State) (p : Program) (digest : List Byte) (refused : Bool) : State :=
  let s1 := (((s.setPlc { prog := p, digest := digest, groupNew := p.groups.map Group.no }).loadPolicy false).loadSignals
    {}).loadBindings {}
  let x := p.placing s1.forbidden none false [] []
  let base := match x.baseMap with
    | .ok q => q
    | .error _ => x.shedding [] 1025 x.all_
  let y := p.placing s1.unavailable none false [] base
  let plan := y.shedding base 1025 (y.toPlace refused)
  let s2 := (s1.keeperOn (plan.map (fun e => e.2))).setPlc { s1.plc with base := tabOf base }
  let s3 := (p.order (plan.map (fun e => e.1))).foldl (fun t r => match plan.core r with
    | some c => t.arrive { routine := r, target := c, fresh := true }
    | none => t) s2
  let s4 := (p.fixedRoutines.filter (fun r => (plan.core r).isNone)).foldl State.shedRoutine s3
  (((s4.bump (PLC_CNT 0)).raise 0x0D01 0).armTimers (fun _ => true)).batchEnd.plcRefresh

/-- The base map of a bundle that does not run: that of R285 under the permissions that its profile brings. The error is the first
routine that has no place. -/
def Program.freshPlan (p : Program) : Except Nat Plan := (p.placing (forbiddenOf p.kpolder) none false [] []).baseMap

/-- The base map that a new program is to have here, with the mobile routines that this device hosts; an update has the running map as
predecessor and the permissions as they stand (R285, R290). -/
def State.programInput (s : State) (p : Program) (update : Bool) : Placing :=
  let pred := if update then some (planOf s.plc.base) else none
  p.placing (if update then s.forbidden else forbiddenOf p.kpolder) pred update (s.hosted p) (pred.getD [])

def State.programPlan (s : State) (p : Program) (update : Bool) : Except Nat Plan := (s.programInput p update).baseMap

/-- A new bundle, or a load, that cannot be placed is refused; the event records the routine, where one is known (R291, R301). -/
def State.infeasible (s : State) (r : Nat) : State := (s.setFld PLC_STATUS PLC_STATUS_infeasible 1).raise 0x0D02 3 r

/-- A group of the new program whose members all stay where they are: its region is made at once. -/
def State.groupStays (s : State) (g : Nat) : State :=
  match s.groupRegion g with
  | some x => if s.plc.batch.any (fun m => (m.desc.getD (s.routine m.routine)).group == g) then s else s.joinGroup g x.cluster
  | none => s

/-- A new program takes over: tables at once, routines by migration (R290, R295, R451). Emit buffers read zero and suspensions
end (R241, R274). The persistent blocks of the old program are saved first (R280). Its preparation has found it feasible; a mobile
routine that has come since and has no place is shed (R291). -/
def State.commitProgram (s : State) (p : Program) (digest : List Byte) (update : Bool) : State :=
  let y := s.programInput p update
  let base := match y.baseMap with
    | .ok q => q
    | .error _ => y.shedding [] 1025 y.all_
  let old := s.plc.prog
  let removed := (List.range old.routines.length).filter (fun r => !p.exists_ r)
  let s0 := (List.range old.routines.length).foldl State.resume ((List.range 64).foldl State.clearEmit s.saveBlocks)
  let s1 := removed.foldl (fun t r => (t.unplace r).wr (PLC_MAP r) 0) s0
  let keeps (r : Nat) : Bool := sameRoutine (old.rt r) (p.rt r) && decide (r < old.routines.length)
  let s2 := s1.setPlc { s1.plc with
    base := tabOf base, update := update, digest := digest, groupNew := p.groups.map Group.no
    prog := { p with routines := p.routines.zipIdx.map (fun e => if keeps e.2 then e.1 else old.rt e.2) } }
  let s3 := (((s2.loadPolicy update).loadSignals old).loadBindings old)
  let x := p.placing s3.unavailable none false (s3.hosted p) base
  let plan := x.shedding base 1025 x.all_
  let fresh (r : Nat) : Bool := if update then (p.rt r).freshState else !keeps r
  let moves := (p.order (plan.map (fun e => e.1))).filterMap (fun r => match plan.core r with
    | some c => if s3.coreOf r = some c ∧ keeps r ∧ !fresh r then none
      else some { routine := r, target := c, desc := some (p.rt r), fresh := fresh r }
    | none => none)
  let lost := p.fixedRoutines.filter (fun r => (plan.core r).isNone && (s3.coreOf r).isNone)
  let s4 := lost.foldl State.shedRoutine s3
  let s5 := (p.groups.map Group.no).foldl State.groupStays (s4.setPlc { s4.plc with batch := moves })
  (s5.commitMap plan moves).armTimers (fun r => !keeps r)

/-! Migration (R293, R294) -/

def State.busyRoutine (s : State) (r : Nat) : Bool := s.kpr.run.any (fun e => e.2.ev.routine == r)

/-- A migration and its pause, in ns, which is too long beyond `limit` (R293, R300). -/
def State.countMove (s : State) (r pause limit : Nat) : State :=
  let s1 := (s.bump (PLC_CNT 1)).wr PLC_MAX_PAUSE (BitVec.ofNat 32 (min (2 ^ 32 - 1) (max (s.rd PLC_MAX_PAUSE).toNat pause)))
  if limit < pause then (s1.bump (PLC_CNT 5)).raise 0x0D06 3 r else s1

/-- A routine's timers end here. -/
def State.dropTimers (s : State) (r : Nat) : State :=
  s.setKpr { s.kpr with timers := s.kpr.timers.filter (fun e => e.1 / 4 != r) }

/-- A mobile routine has left for another device, with its pending events, its timers and its suspension (R283, R300). -/
def State.handOff (s : State) (r h core : Nat) : State :=
  let s1 := (s.setKpr { s.kpr with pend := s.kpr.pend.filter (fun e => e.routine != r) }).dropTimers r
  let s2 := (s1.leaveCore r).setRt r { s1.rt r with suspended := false, abortRun := 0 }
  (s2.setPlc { s2.plc with base := tdel s2.plc.base r }).wr (PLC_MAP r)
    (BitVec.ofNat 32 (core % 64 + h % 32 * 64 + 2 ^ 11 + 2 ^ 12 + 2 ^ 14))

/-- The routine that the batch has reached is switched once it is idle; `pause` is the pause that it made, in ns. -/
def State.migrate (s : State) (pause : Nat) : State :=
  match s.plc.batch with
  | [] => s
  | m :: rest =>
    if s.busyRoutine m.routine then s
    else
      let s1 := (s.setPlc { s.plc with batch := rest })
      let s2 := match m.away with | some h => s1.handOff m.routine h m.target | none => s1.arrive m
      (s2.countMove m.routine pause 20000).plcRefresh.batchEnd

/-- The map that a batch was reaching when core `c` was excluded: a migration onto that core is abandoned, and its routine stays on
its source (R294). -/
def State.reaching (s : State) (c : Nat) : Plan :=
  (List.range s.plc.prog.routines.length).filterMap (fun r =>
    (match s.moveOf r with
      | some m => if m.away.isSome then none else if m.target = c then s.coreOf r else some m.target
      | none => s.coreOf r).map (fun k => (r, k)))

/-- A keeper core is excluded: its invocation aborts, its routines move to their cores in the derived map; a batch is computed
again from the map that it was reaching (R294, R296). `failed` is the offset in its data memory of the word that was lost. -/
def State.exclude (s : State) (c : Nat) (failed : Option Nat) : State :=
  if s.coreExcluded c then s
  else
    let hit (r : Nat) : Bool := s.coreOf r == some c && failed.any (fun o =>
      decide ((s.rt r).dataAt < o + 8 ∧ o < (s.rt r).dataAt + (s.routine r).dataBytes))
    let s1 := (s.wr64 PLC_EXCL_LO PLC_EXCL_HI (withBit (s.rd64 PLC_EXCL_LO PLC_EXCL_HI) c true)).raise 0x0D04 4 c
    let s2 := match s1.inv c with
      | some iv => s1.kAbort c iv causeWindow
      | none => s1
    s2.commitFrom (if s2.plc.batch = [] then planOf s2.plc.base else s2.reaching c) hit false

/-! Mobile routines (R297–R300) -/

/-- The declaration of the head, or of the lowest-addressed candidate, is the reference; others are refused (R297). -/
def mobileReference (head : Nat) (l : List MobileReport) : Option Nat :=
  match l.find? (fun x => x.addr == head) with
  | some x => some x.digest
  | none => (l.foldl (fun best x => match best with
    | none => some x
    | some (b : MobileReport) => if x.addr < b.addr then some x else some b) none).map MobileReport.digest

/-- The host by host_mode (R298). -/
def mobileHost (mode head : Nat) (l : List MobileReport) : Option Nat :=
  let able := l.filter MobileReport.canPlace
  let first := able.foldl (fun best x => match best with
    | none => some x
    | some (b : MobileReport) => if x.addr < b.addr then some x else some b) none
  let lighter (a b : MobileReport) : Bool :=
    decide (a.load * b.capacity < b.load * a.capacity ∨ (a.load * b.capacity = b.load * a.capacity ∧ a.addr < b.addr))
  if mode = 0 ∧ able.any (fun x => x.addr == head) then some head
  else if mode = 2 then (able.foldl (fun best x => match best with
    | none => some x
    | some b => if lighter x b then some x else some b) none).map MobileReport.addr
  else first.map MobileReport.addr

/-- The private data, the pending events, the timers and the suspension that a routine brings from its old host (R283, R300). The
pause is held against the 500 µs of R300. -/
def State.bringState (s : State) (r : Nat) (x : MobileReport) : State :=
  match s.coreOf r with
  | some c =>
    let s1 := (s.mwbytes (dataBase c + (s.rt r).dataAt) (x.data.take (s.routine r).dataBytes)).setRt r
      { s.rt r with suspended := x.suspended }
    (s1.setKpr { s1.kpr with
      pend := s1.kpr.pend ++ x.events.map (fun e =>
        { kind := e.kind, routine := r, g2 := e.g2, g3 := e.g3, time := e.time, g6 := e.g6, g7 := e.g7, data := e.data })
      timers := x.timers.foldl (fun l t => tput l (4 * r + t.timer.val)
        { due := s1.elapsed + t.left, period := t.period, arg := t.arg }) s1.kpr.timers }).countMove r x.pause 500000
  | none => s

/-- A mobile routine has no place: its word shows it, with 0x0D03 (R298). -/
def State.noPlace (s : State) (r : Nat) : State :=
  (s.wr (PLC_MAP r) (BitVec.ofNat 32 (2 ^ 12 + 2 ^ 13))).raise 0x0D03 (if (s.routine r).shedClass = 3 then 5 else 4) r

/-- This device hosts a mobile routine: it is placed as the last unit, in the base map and in the current one (R298). -/
def State.placeMobile (s : State) (r : Nat) (from_ : Option MobileReport) : State :=
  let p := s.plc.prog
  let base := planOf s.plc.base
  let x := p.placing s.forbidden none false [] base
  let home := x.pickCore base true r (List.range 64)
  let y := p.placing s.unavailable none false [] base
  let now := match home with
    | some c => if y.feasible s.current r c then some c else y.pickCore s.current true r (List.range 64)
    | none => y.pickCore s.current true r (List.range 64)
  match now with
  | some c =>
    let s1 := (s.setPlc { s.plc with base := tset 0 s.plc.base r ((home.map (· + 1)).getD 0) }).dropTimers r
    let s2 := (s1.keeperOn [c]).arrive { routine := r, target := c, fresh := true }
    (match from_ with | some x => s2.bringState r x | none => s2)
  | none => s.noPlace r

/-- The host of a mobile routine that this device declares: placed here, handed off, given up, or noted (R298, R300). -/
def State.mobileHere (s : State) (r : Nat) (host : Option Nat) (core : Nat) (from_ : Option MobileReport) : State :=
  match host with
  | none =>
    let s1 := if (s.coreOf r).isSome then s.unplace r else s
    (s1.setPlc { s1.plc with base := tdel s1.plc.base r }).noPlace r
  | some h =>
    if h = s.fabAddr then (if (s.coreOf r).isSome then s else s.placeMobile r from_)
    else if (s.coreOf r).isSome then
      s.setPlc { s.plc with batch := s.plc.batch ++ [{ routine := r, target := core, away := some h }] }
    else s.wr (PLC_MAP r) (BitVec.ofNat 32 (core % 64 + h % 32 * 64 + 2 ^ 11 + 2 ^ 12 + 2 ^ 14))

/-- One mobile routine of the fabric: its host is chosen and stands in PLC_MOB entry `m` (R297, R298). Digests are compared by the
head, whether it declares the routine or not. -/
def State.mobileSet (s : State) (head : Nat) (reports : List MobileReport) (m r : Nat) : State :=
  let own := s.plc.prog.exists_ r && (s.routine r).mobile
  let l := reports.filter (fun x => x.routine == r && (!own || (s.routine r).hostMask.testBit x.addr))
  let ref := mobileReference head l
  let good := l.filter (fun x => some x.digest == ref)
  let bad := l.filter (fun x => some x.digest != ref)
  let s1 := if s.fabAddr = head then bad.foldl (fun t _ => t.raise 0x0D09 3 r) s else s
  let mode := if own then (s.routine r).hostMode else ((good.find? (fun x => some x.digest == ref)).map MobileReport.mode).getD 0
  let host := mobileHost mode head good
  let old := tget 0 s.plc.hosts r
  let new := (host.map (· + 1)).getD 0
  let from_ := reports.find? (fun x => x.routine == r && x.addr + 1 == old)
  let s2 := s1.setPlc { s1.plc with hosts := tset 0 s1.plc.hosts r new }
  let s3 := if old ≠ new ∧ old ≠ 0 ∧ new ≠ 0 then s2.raise 0x0D07 2 r else s2
  let s4 := if old ≠ new ∧ old ≠ 0 ∧ new ≠ 0 ∧ from_.isNone then s3.raise 0x0D08 3 r else s3
  let s5 := s4.wr (PLC_MOB m) (BitVec.ofNat 32 (r + (new - 1) % 32 * 2 ^ 10 + boolNat (new != 0) * 2 ^ 15 +
    boolNat (host == some s.fabAddr) * 2 ^ 16))
  let core := (((good.find? (fun x => x.addr + 1 == new)).map MobileReport.core).getD 0)
  if own then s5.mobileHere r host core from_ else s5

/-- The choice of hosts after a change of topology or head, from the candidates' reports, committed as a map (R290, R297, R298). -/
def State.mobileChoice (s : State) (head : Nat) (reports : List MobileReport) : State :=
  let own := (List.range s.plc.prog.routines.length).filter (fun r => (s.routine r).mobile)
  let rs := (sortBy (fun a b => decide (a < b)) ((own ++ reports.map MobileReport.routine).dedup)).take 64
  let s1 := (List.range 64).foldl (fun t m => t.wr (PLC_MOB m) 0) s
  let s2 := rs.zipIdx.foldl (fun t e => t.mobileSet head reports e.2 e.1) s1
  ((s2.bump (PLC_CNT 0)).raise 0x0D01 0).batchEnd.plcRefresh

/-! The placer's triggers (R290) -/

/-- The placer acts on the trigger that has waited longest, once no batch runs. The needs of a new program were raised in its
preparation; a derived map or a choice of hosts waits for its own, and where these are refused the map sheds and the hosts stay
(R45, R290, R291). -/
def State.mapCommit (s : State) : State :=
  if s.plc.batch ≠ [] then s
  else match s.plc.trigger with
    | [] => s
    | .program p d update :: rest => (s.setPlc { s.plc with trigger := rest }).commitProgram p d update
    | .derived :: rest =>
      s.commitLoad .placement (fun t => (t.setPlc { t.plc with trigger := rest }).commitDerived (fun _ => false))
        (fun t => (t.setPlc { t.plc with trigger := rest }).commitDerived (fun _ => false) true)
    | .mobile h l :: rest =>
      s.commitLoad .placement (fun t => (t.setPlc { t.plc with trigger := rest }).mobileChoice h l)
        (fun t => t.setPlc { t.plc with trigger := rest })

/-- A change of topology or of the head: the hosts are chosen again, behind what the placer has to do already. -/
def State.hostChoice (s : State) (head : Nat) (reports : List MobileReport) : State :=
  (s.setPlc { s.plc with trigger := s.plc.trigger ++ [.mobile head reports] }).mapCommit

/-! Registers and rows -/

/-- Policy, map and binding registers are loaded by the device; no write changes them (R302). -/
def State.plcWrite (s : State) (off : Nat) (v : Word) : State :=
  if off = 0x0280 then
    if bit 0 v.toNat then (s.clearRegs ((List.range 6).map PLC_CNT)).wr PLC_MAX_PAUSE 0 else s
  else s.wrPlain (0x200F0000 + off) v

def execMapCommit (s : State) : Host.Outcome State Fault Refusal := .next s.mapCommit
def execMigration (pause : Nat) (s : State) : Host.Outcome State Fault Refusal := .next (s.migrate pause)
def execMobileHostChoice (head : Fin 32) (reports : List MobileReport) (s : State) : Host.Outcome State Fault Refusal :=
  .next (s.hostChoice head.val reports)

end Sys2Proof.Machine
end

