-- ==== Sys2Proof/Machine/Ring.lean ====
section
/-! DEFINITION. The command ring and the fabric queue: how commands arrive, when the warden serves them, and how a command
completes (R436–R444, R370). -/

namespace Sys2Proof.Machine

def State.setWrd (s : State) (x : WrdState) : State := { s with wrd := x }

/-! Stored values that results show (R370, R367) -/

/-- The valid sub-counter copy (R370). -/
def MramState.sub (x : MramState) : Option SubCopy :=
  match x.sub0.valid, x.sub1.valid with
  | true, true => some (if x.sub1.seq ≤ x.sub0.seq then x.sub0 else x.sub1)
  | true, false => some x.sub0
  | false, true => some x.sub1
  | false, false => none

/-- The rollback counter C (R370). -/
def State.rollback (s : State) : Nat := max (s.otp.fuses * 4096) ((s.mram.sub.map SubCopy.value).getD 0)

/-- Base of a profile slot in the MRAM window (R367). -/
def profileBase (p : Nat) : Nat := 0x400000 + 0x200000 * p

/-- A profile slot holds a bundle: the image magic stands at its start (R362). -/
def State.slotHolds (s : State) (p : Nat) : Bool := s.mrd (mramBase + profileBase p) 4 == 0x4A519640

/-! The ring (R436–R439) -/

/-- Who may write the ring: the PCIe host and the authenticated debug port (R439). -/
def ringMaster : Master → Bool
  | .pcie | .debug => true
  | .warden | .remote _ => false

def State.ringProd (s : State) : Nat := s.fld SYS_CMD_PROD SYS_CMD_PROD_prod
def State.ringDone (s : State) : Nat := s.fld SYS_CMD_DONE SYS_CMD_DONE_done
def State.ringAck (s : State) : Nat := s.fld SYS_CMD_ACK SYS_CMD_ACK_ack

/-- How far an index lies ahead of another, modulo 256. -/
def ahead (a b : Nat) : Nat := (a + 256 - b) % 256

/-- A slot holds a command that has been issued and not yet acknowledged. -/
def State.slotTaken (s : State) (k : Nat) : Bool := (List.range (ahead s.ringProd s.ringAck)).any (fun i => (s.ringAck + i) % 8 == k)

/-- A write of an entry word or of a data buffer (R438, R439). -/
def State.slotWrite (s : State) (m : Master) (k off : Nat) (v : Word) : State :=
  if !ringMaster m then s
  else if s.slotTaken k then s.setFld SYS_CMD_STATUS SYS_CMD_STATUS_slot_err 1
  else s.wrPlain (0x20000000 + off) v

/-- A write of SYS_CMD_ACK: it frees result slots, or is ignored with ack_err beyond done (R438). -/
def State.ackWrite (s : State) (m : Master) (v : Nat) : State :=
  if ringMaster m then
    let n := v % 256
    if ahead n s.ringAck ≤ ahead s.ringDone s.ringAck then s.setFld SYS_CMD_ACK SYS_CMD_ACK_ack n
    else s.setFld SYS_CMD_STATUS SYS_CMD_STATUS_ack_err 1
  else s

/-! Arrivals -/

def Arrival.fromFabric : Arrival → Bool
  | .ring .. => false
  | .fabric .. => true

/-- It arrived while the journal stood in VERIFIED to COMMITTED (R374, R380). -/
def Arrival.late : Arrival → Bool
  | .ring _ _ d => d
  | .fabric _ _ _ _ d => d

/-- The PCIe host issued it (R442). -/
def Arrival.fromHost : Arrival → Bool
  | .ring _ h _ => h
  | .fabric .. => false

/-- CMD frames that wait for execution (R441). -/
def State.fabWaiting (s : State) : Nat :=
  ((if s.wrd.inProgress then s.wrd.arrivals.drop 1 else s.wrd.arrivals).filter Arrival.fromFabric).length

/-- The journal is in VERIFIED to COMMITTED (R375). -/
def State.copying (s : State) : Bool := decide (2 ≤ s.mram.journal.state)

/-- An update is in progress: from VERIFIED to the end of a handover or of a hitless migration (R374–R380). -/
def State.updating (s : State) : Bool :=
  s.copying || s.wrd.handover || s.plc.update || s.wrd.switching.any Switching.update ||
    s.plc.trigger.any (fun x => match x with
      | .program _ _ u => u
      | .derived | .mobile .. => false)

/-- Base of slot k's registers. -/
def entryAddr (index word : Nat) : Nat := 0x20001000 + 0x80 * (index % 8) + 4 * word
def resultAddr (index word : Nat) : Nat := 0x20001040 + 0x80 * (index % 8) + 4 * word
def dataAddr (index : Nat) : Nat := 0x20008000 + 0x1000 * (index % 8)

/-- Entry word k of the command at the front (R440). -/
def State.entryWord (s : State) (k : Nat) : Nat :=
  match s.wrd.arrivals with
  | .ring i _ _ :: _ => (s.rd (entryAddr i k)).toNat
  | .fabric _ _ e _ _ :: _ => e.getD k 0
  | [] => 0

def State.cmdCode (s : State) : Nat := s.entryWord 0 % 65536
def State.cmdLen (s : State) : Nat := s.entryWord 1 % 8192

/-- The bytes of a ring of registers from an address. -/
def State.regBytes (s : State) (a n : Nat) : List Byte :=
  ((List.range ((n + 3) / 4)).flatMap (fun i => leBytes 4 (s.rd (a + 4 * i)).toNat)).take n

/-- The argument data of the command at the front. -/
def State.cmdData (s : State) : List Byte :=
  match s.wrd.arrivals with
  | .ring i _ _ :: _ => s.regBytes (dataAddr i) s.cmdLen
  | .fabric _ _ _ d _ :: _ => padTo s.cmdLen d
  | [] => []

/-! Completion (R437, R440, R444) -/

/-- The eight words of a result. -/
def resultWords (res code : Nat) (vals : List Nat) (out : Nat) : List Nat :=
  [res + code * 256, out] ++ (vals ++ List.replicate 6 0).take 6

/-- Words stored from a register address on. -/
def State.putWords (s : State) (a : Nat) : List Nat → State
  | [] => s
  | w :: l => (s.wr a (BitVec.ofNat 32 w)).putWords (a + 4) l

/-- Returned bytes over what a data buffer holds. -/
def State.bufferWords (s : State) (a : Nat) (out : List Byte) : List Nat :=
  bytesWords (out ++ (s.regBytes a ((out.length + 3) / 4 * 4)).drop out.length)

/-- The command at the front completes: its result and returned data in the slot, done + 1 and vector 1; or a CMD_RSP. -/
def State.post (s : State) (res : Nat) (vals : List Nat := []) (out : List Byte := []) : State :=
  let code := s.cmdCode
  let w := resultWords res code vals out.length
  match s.wrd.arrivals with
  | [] => s
  | .ring i _ _ :: rest =>
    let s1 := ((s.setWrd { s.wrd with arrivals := rest, inProgress := false }).putWords (resultAddr i 0) w).putWords (dataAddr i)
      (s.bufferWords (dataAddr i) out)
    (s1.setFld SYS_CMD_DONE SYS_CMD_DONE_done ((i + 1) % 256)).irq 1
  | .fabric src tag _ _ _ :: rest =>
    let s1 := s.setWrd { s.wrd with arrivals := rest, inProgress := false }
    s1.fabSend (s1.newHdr 12 (s1.fld FAB_RA_CFG FAB_RA_CFG_tc) src tag) (w.flatMap (leBytes 4) ++ out)

/-! What is decided as the warden takes a command -/

def commandCodes : List Nat :=
  [0x0001, 0x0002, 0x0003, 0x0004, 0x0101, 0x0102, 0x0103, 0x0201, 0x0202, 0x0203, 0x0204, 0x0205, 0x0206, 0x0207, 0x0301,
    0x0302, 0x0401, 0x0402, 0x0403, 0x0404, 0x0405, 0x0406, 0x0407, 0x0501]

/-- The warden serves commands: from row 3 of R62 on, or in recovery (R369, R442). -/
def State.serving (s : State) : Bool :=
  s.running && s.bank.fatal.isNone && (s.dev.recovery || s.fld SYS_BOOT_STATUS SYS_BOOT_STATUS_phase != 0)

/-- The result that a command gets before any rule of its own: none where its own rule decides (R440–R445). -/
def State.intake (s : State) (a : Arrival) : Option Nat :=
  let code := s.cmdCode
  if s.dev.recovery ∧ !(a.fromHost ∧ (code = 0x0401 ∨ code = 0x0402 ∨ code = 0x0003)) then some 12
  else if !commandCodes.contains code then some 2
  else if a.fromFabric ∧ (code = 0x0404 ∨ code = 0x0405 ∨ code = 0x0501) then some 4
  else if 4096 < s.cmdLen then some 3
  else none

/-- Commands that `intake` answers complete at once, one after another. -/
def State.settle : Nat → State → State
  | 0, s => s
  | n + 1, s =>
    match s.wrd.arrivals with
    | [] => s
    | a :: _ =>
      if s.wrd.inProgress then s
      else match s.intake a with
        | some r => State.settle n (s.post r)
        | none => s

def State.served (s : State) : State := if s.serving then State.settle s.wrd.arrivals.length s else s

/-- The command at the front completes, and the next is taken. -/
def State.answer (s : State) (res : Nat) (vals : List Nat := []) (out : List Byte := []) : State := (s.post res vals out).served

/-- The commands from `prod` that a write issues, in index order; each remembers who wrote, and whether an image was being installed. -/
def issued (m : Master) (prod n : Nat) (during : Bool) : List Arrival :=
  (List.range n).map (fun k => .ring ((prod + k) % 256) (m == .pcie) during)

/-- A write of SYS_CMD_PROD: it issues commands, or is ignored with prod_err where it moves backwards or more than 8 ahead of
ack (R438). -/
def State.prodWrite (s : State) (m : Master) (v : Nat) : State :=
  if ringMaster m then
    let n := v % 256
    let k := ahead n s.ringProd
    if ahead n s.ringAck ≤ 8 ∧ ahead s.ringProd s.ringAck ≤ ahead n s.ringAck then
      ((s.setFld SYS_CMD_PROD SYS_CMD_PROD_prod n).setWrd
        { s.wrd with arrivals := s.wrd.arrivals ++ issued m s.ringProd k s.copying }).served
    else s.setFld SYS_CMD_STATUS SYS_CMD_STATUS_prod_err 1
  else s

/-! Commands from the fabric (R322, R441) -/

/-- A CMD_RSP at once: the source is not allowed, or eight commands wait. -/
def State.cmdRefuse (s : State) (h : FabHdr) (res code : Nat) : State :=
  s.fabSend (s.newHdr 12 (s.fld FAB_RA_CFG FAB_RA_CFG_tc) h.src h.tag) ((resultWords res code [] 0).flatMap (leBytes 4))

def State.cmdFrame (s : State) : State :=
  match s.mine31 11 with
  | some (f, h, t) =>
    let e := (bytesWords (padTo 64 f.data))
    let code := e.getD 0 0 % 65536
    if !(t.rd FAB_CMD_ALLOW).toNat.testBit h.src then (t.fabCount 7).cmdRefuse h 4 code
    else if 8 ≤ t.fabWaiting then t.cmdRefuse h 1 code
    else (t.setWrd { t.wrd with arrivals := t.wrd.arrivals ++ [.fabric h.src h.tag e (f.data.drop 64) t.copying] }).served
  | none => s

def execCmdFrame (s : State) : Host.Outcome State Fault Refusal := .next s.cmdFrame

end Sys2Proof.Machine
end

