-- ==== Sys2Proof/Machine/Bus.lean ====
section
/-! DEFINITION. Accesses through the address map: the SYS registers, and the one function each for a
register write, a memory write and a read by any master (R6–R8, R25–R30, R436–R439, R455, R473). -/

namespace Sys2Proof.Machine

def State.sysWrite (s : State) (m : Master) (off : Nat) (v : Word) : State :=
  if off = 0 then s.prodWrite m v.toNat
  else if off = 8 then s.ackWrite m v.toNat
  else if 0x1000 ≤ off ∧ off < 0x1400 ∧ off % 0x80 < 0x40 then s.slotWrite m ((off - 0x1000) / 0x80) off v
  else if 0x8000 ≤ off then s.slotWrite m ((off - 0x8000) / 0x1000) off v
  else s.wrPlain (0x20000000 + off) v

/-! Registers of the SYS block that are computed when they are read (R370, R387, R455) -/

def State.sysRead (s : State) (off : Nat) : Option Nat :=
  if off = 0x000C then
    let w := (s.rd SYS_CMD_STATUS).toNat
    some (boolNat s.wrd.inProgress + bits 4 1 w * 2 + min 7 s.fabWaiting * 32)
  else if off = 0x0100 then
    some ((s.rd SYS_PROFILE).toNat % 256 + maskOf ((List.range 4).filter s.slotHolds) * 256)
  else if off = 0x0300 then some (ownId % 2 ^ 32)
  else if off = 0x0304 then some (ownId / 2 ^ 32 % 2 ^ 32)
  else if off = 0x0308 then some s.wrd.fwVersion
  else if off = 0x030C then some (s.rollback % 2 ^ 19 + s.otp.fuses * 2 ^ 19 + bits 31 26 (s.rd SYS_ROLLBACK).toNat * 2 ^ 26)
  else if off = 0x0310 then
    some (s.mram.journal.state + s.mram.journal.target * 8 + boolNat (s.wrd.pendingStart != []) * 64 + boolNat s.dev.recovery * 128 +
      bits 15 8 (s.rd SYS_UPD_STATUS).toNat * 256)
  else if off = 0x0314 then some s.mram.journal.next
  else none

/-! Registers -/

/-- A permitted write of one register at a physical address (R7, R8, R30). -/
def State.regWrite (s : State) (m : Master) (a : Nat) (v : Word) : State :=
  let o := a % 0x10000
  match a / 0x10000 with
  | 0x2000 => s.sysWrite m o v
  | 0x2001 => s.hltWrite o v
  | 0x2002 => s.fltWrite m o v
  | 0x2003 => s.swcWrite o v
  | 0x2004 => s.tmgWrite o v
  | 0x2005 => s.tblWrite o v
  | 0x2006 => (s.csgWrite o v).sendOwed
  | 0x2008 | 0x2009 => s.ethWrite ((a - 0x20080000) / 0x1000) (a % 0x1000) v
  | 0x200A | 0x200B =>
    let n := (a - 0x200A0000) / 0x1000
    s.canWrite n (a % 0x1000) v
  | 0x200C => s.fabWrite o v
  | 0x200D => s.secWrite o v
  | 0x200E => s.kprWrite o v
  | 0x200F => s.plcWrite o v
  | 0x2010 => s.dikeAccess (some m) true o v true true
  | _ => s

/-- A register that its block computes when it is read; none where the stored value is what a read returns. -/
def State.regShown (s : State) (a : Nat) : Option Nat :=
  let o := a % 0x10000
  match a / 0x10000 with
  | 0x2000 => s.sysRead o
  | 0x2001 => s.hltRead o
  | 0x2002 => s.fltRead o
  | 0x2003 => s.swcRead o
  | 0x2004 => s.tmgRead o
  | 0x2005 => s.tblRead o
  | 0x2006 => s.csgRead o
  | 0x2008 | 0x2009 => s.ethRead ((a - 0x20080000) / 0x1000) (a % 0x1000)
  | 0x200A | 0x200B => s.canRead ((a - 0x200A0000) / 0x1000) (a % 0x1000)
  | 0x200C => State.fabRead o
  | 0x200D => s.secRead o
  | 0x200E => s.kprRead o
  | 0x200F => s.plcRead o
  | 0x2010 => some (s.bnkRead o)
  | _ => none

def State.regRead (s : State) (a : Nat) : Nat := (s.regShown a).getD (s.rd a).toNat

/-! Accesses -/

/-- Base address and alias kind of a 40-bit physical address (R25). -/
def addrBase (a : Nat) : Nat := a % 2 ^ 38
def addrAlias (a : Nat) : Nat := a / 2 ^ 38

/-- Stream entries that a write of `n` bytes touches (R134). -/
def streamsIn (a n : Nat) : List Nat :=
  if 0x30400000 ≤ a ∧ a < 0x30480000 then (List.range ((a + n - 1) / 32 - a / 32 + 1)).map (fun i => (a - 0x30400000) / 32 + i)
  else []

/-- Stream entry `h` has been written over what `old` held: gen_seq starts from 0 where the entry becomes valid, and keeps its
running value where it stays valid (R135, R139); a backup written invalid ends its redirection (R156). -/
def State.streamTaken (s old : State) (h : Nat) : State :=
  let a := 0x30400000 + 32 * h
  let s1 := if (s.stream h).valid then s.mwr (a + 14) 2 (if (old.stream h).valid then old.mrd (a + 14) 2 else 0) else s
  s1.streamWritten h

/-- Bytes go to the memory behind the map; what falls into the gap of the table window has no effect (R30, R211). -/
def State.mapPut (s : State) (a : Nat) (bs : List Byte) : State :=
  if a + bs.length ≤ 0x304B9800 ∨ 0x304C0000 ≤ a then s.mwbytes a bs
  else (s.mwbytes a (bs.take (0x304B9800 - a))).mwbytes (max a 0x304C0000) (bs.drop (0x304C0000 - a))

/-- A permitted write of memory: only the addressed bytes change (R473). MRAM goes through its controller; stream entries take
effect with their guard slots (R156). -/
def State.memPut (s : State) (a : Nat) (bs : List Byte) : State :=
  if isMram a then s.mramStore (a - mramBase) bs
  else if streamsIn a bs.length = [] then s.mapPut a bs
  else ((streamsIn a bs.length).foldl (fun t h => t.streamTaken s h) (s.mwbytes a bs)).sendOwed

/-- What an alias write stores: bits set or cleared, by the alias (R27). -/
def aliasValue (kind old v : Nat) : Nat :=
  if kind = 1 then old ||| v else if kind = 2 then old ^^^ (old &&& v) else v

/-- The debug port accesses the map only once it has authenticated (R29, R383). -/
def State.seen (s : State) (m : Master) : State := if m = .debug then s.setWrd { s.wrd with debug := true } else s

/-- An access of `n` bytes writes through the map (R25–R30, R473); a refused one changes nothing but 0x0140. -/
def State.busWrite (s : State) (m : Master) (addr n v : Nat) : State :=
  if !s.running then s
  else if accessOk m true addr n then
    let a := addrBase addr
    if (blockAt a).isSome then
      let s1 := (s.seen m).regWrite m a (BitVec.ofNat 32 v)
      if n = 8 then s1.regWrite m (a + 4) (BitVec.ofNat 32 (v / 2 ^ 32)) else s1
    else (s.seen m).memPut a (leBytes n (aliasValue (addrAlias addr) (s.mrd a n) v))
  else (s.seen m).refuse m addr

/-- The value of a permitted read of `n` bytes. A diagnostic window shows the bank's cells, of which the manual does not say
where in the window each lies: what is read there is a free value (assumption 84). -/
def State.readValue (s : State) (addr n : Nat) : Nat :=
  let a := addrBase addr
  if (blockAt a).isSome then s.regRead a + (if n = 8 then s.regRead (a + 4) * 2 ^ 32 else 0)
  else if tableGap a then 0
  else if regionOf a = some .bufDiag then (Config.bankWord s.free a).toNat % 2 ^ (8 * n)
  else if isMram a then leNat (s.mramShown (a - mramBase) n)
  else if 0x303D0900 ≤ a ∧ a < 0x30400000 then
    Config.ownSignal s.free ((a - 0x30000000) / 16) / 2 ^ (8 * (a % 16)) % 2 ^ (8 * n)
  else s.mrd a n

/-- The register region of the map that holds an address: Ethernet ports and CAN channels take two blocks of 64 KiB each (R26). -/
def mapRegion (a : Nat) : Nat :=
  if a / 0x10000 = 0x2009 then 0x2008 else if a / 0x10000 = 0x200B then 0x200A else a / 0x10000

/-- A write request of the PCIe host: the bytes that its byte enables select, from a word address on. Whole words are written one
after another in ascending order, each as an access of its own; a request that does not select whole words is refused (R473), and
one that crosses into another region is refused whole (R334). -/
def State.pcieWrite (s : State) (addr : Nat) (bs : List (Option Byte)) : State :=
  let word (i : Nat) : List (Option Byte) := (bs.drop (4 * i)).take 4
  let n := bs.length / 4
  if (blockAt addr).isSome ∧ mapRegion addr = mapRegion (addr + bs.length - 1) ∧ addr % 4 = 0 ∧ bs.length % 4 = 0 ∧
      (List.range n).all (fun i => (word i).all Option.isSome || (word i).all Option.isNone) then
    (List.range n).foldl (fun t i =>
      if (word i).all Option.isSome then t.busWrite .pcie (addr + 4 * i) 4 (leNat ((word i).filterMap id)) else t) s
  else if s.running then s.refuse .pcie addr else s

/-- A write of bytes of memory, by any master. -/
def State.memWrite (s : State) (m : Master) (addr : Nat) (bs : List (Option Byte)) : State :=
  if m = .pcie then s.pcieWrite addr bs
  else if bs.all Option.isSome then s.busWrite m addr bs.length (leNat (bs.filterMap id))
  else if s.running then (s.seen m).refuse m addr else s

/-- One register write, by a command that is such a write (32 bits). -/
def State.regCommand (s : State) (m : Master) (a : Nat) (v : Word) : State := s.busWrite m a 4 v.toNat

/-! Stream entries and their policers (R115) -/

/-- Handles of the entries that the stream table holds. -/
def State.streamHandles (s : State) : List Nat :=
  (((s.mem.filter (fun c => 0x30400000 ≤ c.1 && c.1 < 0x30480000)).map (fun c => (c.1 - 0x30400000) / 32)).dedup).filter
    (fun h => (s.stream h).valid)

/-- None of policers 1 to 4,095 is free: each is named by a stream entry other than the one at `h`, or by a port (DEDUCED,
assumption 95). -/
def State.policersTaken (s : State) (h : Nat) : Bool :=
  decide (4095 ≤ (((((s.streamHandles.filter (· != h)).map (fun k => (s.stream k).policer)) ++
    (List.range 32).map (fun n => s.fld (TMG_PORT_CLS n) TMG_PORT_CLS_pol)).filter (· != 0)).dedup).length)

/-- A stream entry is written by a bundle load or a run-time admission. One that asks for a policer when none is free is bound
to the catch-all meter, with 0x0501 (R115). -/
def State.putStream (s : State) (h : Nat) (bs : List Byte) : State :=
  let w := leNat (slice 0 4 bs)
  if bit 0 w ∧ bits 27 16 w ≠ 0 ∧ s.policersTaken h then
    (s.memPut (streamAddr h) (leBytes 4 (w - bits 27 16 w * 2 ^ 16) ++ bs.drop 4)).raise 0x0501 2
  else s.memPut (streamAddr h) bs

end Sys2Proof.Machine
end

