-- ==== Sys2Proof/Machine/Images.lean ====
section
/-! DEFINITION. Images and profiles: the header, the signature, the sections, the checks of R366 and the parts of a bundle
(R360–R366, R371). The manual gives the contents of a section no byte layout: what its bytes hold is left to Config. -/

namespace Sys2Proof.Machine

/-- The program section as it stands in a bundle: the words of its entries, with the images (R277). -/
structure RawProgram where
  /-- Routine descriptors in routine number order: eight words each (R278). -/
  descs : List (List Word) := []
  code : List (List Byte) := []
  images : List (List Byte) := []
  /-- Share group entries, group 1 first, and their initial images (R280). -/
  groups : List (Word × List Byte) := []
  /-- Signal declarations: four words each (R281). -/
  signals : List (List Word) := []
  canBind : List (Nat × Word) := []
  trie : List TrieKey := []
  frameBind : List (List Word) := []
  notify : List (Nat × List Word) := []
  /-- Load timers: three words each (R284). -/
  timers : List (List Word) := []
  policy : Word := 0xC8080146
  policy2 : Word := 0x03E80190
  kpolder : Nat := 3
  deriving DecidableEq, Repr

end Sys2Proof.Machine

namespace Sys2Proof.Machine.Config

/-- What the plaintext of each section of a bundle holds; none where it holds anything else (R363). -/
opaque coldOf : List Byte → Option ColdBlock
opaque programOf : List Byte → Option RawProgram
opaque tablesOf : List Byte → Option (List Setting)
opaque keysOf : List Byte → Option (List (List Byte))
opaque safeOf : List Byte → Option SafeRecord
opaque settingsOf : List Byte → Option ProfileSet

/-- Reason codes of a rejected image, which the manual does not number (R366). -/
opaque reasonCode : Nat → BitVec 8

/-- Vendor root positions: the hash of a modulus, and whether the position is revoked (R361). -/
opaque vendorRoot : Nat → Option (List Byte)
opaque vendorRevoked : Nat → Bool

end Sys2Proof.Machine.Config

namespace Sys2Proof.Machine

def State.setOtp (s : State) (x : OtpState) : State := { s with otp := x }

/-! Places in the MRAM window (R367) -/

def vendorBase : Nat := 0x010000
def inletBase : Nat := 0xC00000
def regionSize : Nat := 0x200000

/-- Target of an installation: 0 vendor firmware, 1 to 4 profile slots (R375). -/
def targetBase (t : Nat) : Nat := if t = 0 then vendorBase else profileBase (t - 1)

/-- `n` bytes of the image that starts at an MRAM offset, from byte `o` on. -/
def State.img (s : State) (base o n : Nat) : List Byte := s.mbytes (mramBase + base + o) n

def State.imgNum (s : State) (base o n : Nat) : Nat := leNat (s.img base o n)

/-! The header and the section table (R362, R363) -/

structure Section where
  type : Nat
  off : Nat
  len : Nat
  /-- The 64 bytes of the table entry. -/
  entry : List Byte
  deriving DecidableEq, Repr

def Section.iv (x : Section) : List Byte := slice 12 12 x.entry
def Section.check (x : Section) : List Byte := x.entry.drop 32
def Section.aad (x : Section) : List Byte := x.entry.take 32 ++ List.replicate 32 0

def State.imgClass (s : State) (b : Nat) : Nat := s.imgNum b 5 1
def State.imgCount (s : State) (b : Nat) : Nat := s.imgNum b 6 2
def State.imgLen (s : State) (b : Nat) : Nat := s.imgNum b 8 4
def State.imgVersion (s : State) (b : Nat) : Nat := s.imgNum b 12 4
def State.imgRollback (s : State) (b : Nat) : Nat := s.imgNum b 16 4
def State.imgRoot (s : State) (b : Nat) : Nat := s.imgNum b 20 1
def State.imgMask (s : State) (b : Nat) : Nat := s.imgNum b 21 1
def State.imgStored (s : State) (b : Nat) : Bool := s.imgNum b 22 1 == 1
def State.imgBind (s : State) (b : Nat) : Nat := s.imgNum b 24 8

def State.imgSections (s : State) (b : Nat) : List Section :=
  (List.range (s.imgCount b)).map (fun i =>
    let e := s.img b (512 + 64 * i) 64
    { type := leNat (slice 0 2 e), off := leNat (slice 4 4 e), len := leNat (slice 8 4 e), entry := e })

/-- The sections lie in table order, on 256-byte boundaries, without overlap, inside the image. -/
def sectionsFit (total : Nat) : Nat → List Section → Bool
  | _, [] => true
  | from_, x :: l =>
    decide (from_ ≤ x.off) && x.off % 256 == 0 && decide (1 ≤ x.len ∧ x.len ≤ 2097152) && decide (x.off + x.len ≤ total) &&
      sectionsFit total (x.off + x.len) l

/-- The types that a class may hold; the first is fixed, and a warden image holds at most 1,572,864 bytes (R363). -/
def sectionTypes (cls : Nat) (l : List Section) : Bool :=
  if cls = 1 then
    (l.head?).any (fun x => x.type == 0x10) && l.all (fun x => x.type == 0x10 && decide (x.len ≤ 1572864) || x.type == 0x11)
  else (l.head?).any (fun x => x.type == 1) && l.all (fun x => decide (1 ≤ x.type ∧ x.type ≤ 6))

/-- magic, format, class, n_sect and every length are in range, and the sections fit (R366). -/
def State.headerOk (s : State) (b : Nat) : Bool :=
  let n := s.imgCount b
  s.imgNum b 0 4 == 0x4A519640 && s.imgNum b 4 1 == 1 && decide (s.imgClass b = 1 ∨ s.imgClass b = 2) &&
    decide (1 ≤ n ∧ n ≤ 32) && decide (s.imgLen b ≤ regionSize) &&
    sectionsFit (s.imgLen b) (512 + 64 * n + 384) (s.imgSections b) && sectionTypes (s.imgClass b) (s.imgSections b)

/-- The signed region: byte 0 to the end of the section table, bytes 64 to 111 and 22 taken as zero (R364). -/
def State.signedBytes (s : State) (b : Nat) : List Byte :=
  s.img b 0 22 ++ [0] ++ s.img b 23 41 ++ List.replicate 48 0 ++ s.img b 112 (400 + 64 * s.imgCount b)

/-- The digest over the signed region; of a class 2 image, the bundle digest (R364). -/
def State.imgDigest (s : State) (b : Nat) : List Byte := sha256 (s.signedBytes b)

/-- The hash in a root position; none where it is empty or revoked (R361). -/
def State.rootHash (s : State) (cls k : Nat) : Option (List Byte) :=
  if 4 ≤ k then none
  else if cls = 1 then (if Config.vendorRevoked k then none else Config.vendorRoot k)
  else if s.otp.revoked.testBit k then none
  else match tget [] s.otp.roots k with
    | [] => none
    | h => some h

def State.rootOk (s : State) (b : Nat) : Bool :=
  s.rootHash (s.imgClass b) (s.imgRoot b) == some (sha256 (s.img b 128 384))

def State.signatureOk (s : State) (b : Nat) : Bool :=
  rsaVerify (s.img b 128 384) (s.imgDigest b) (s.img b (512 + 64 * s.imgCount b) 384)

/-! The content key and the sections (R364, R365) -/

/-- Attributes of the content key: AES-256, u_gcm, warden; neither keeper nor export (R365). -/
def cekAttr : Nat := 2 + 8 * 8 + 2 ^ 11 + 2 ^ 17

def cekBlobOk (pt : List Byte) : Bool :=
  blobOk pt 63 && bits 7 1 (leNat (slice 0 4 pt)) == bits 7 1 cekAttr && bits 18 10 (leNat (slice 0 4 pt)) == bits 18 10 cekAttr

/-- The unwrapped blob of the content key, by slot 65 in transit form and by slot 66 in storage form; none where it fails. -/
def State.cekBlob (s : State) (b : Nat) : Option (List Byte) :=
  let w := s.img b 64 48
  let pt := if s.imgStored b then kwUnwrap (s.slotKey 66) w else (Config.customerKek).bind (fun k => kwUnwrap k w)
  pt.bind (fun p => if cekBlobOk p then some p else none)

/-- The image's form, root and signature hold, and every word of it can be read (R360–R366, R415). -/
def State.imgSigned (s : State) (b cls : Nat) : Bool :=
  s.headerOk b && s.imgClass b == cls && s.rootOk b && s.signatureOk b && !s.mramLost b (s.imgLen b)

/-- A use of a bundle's content key, whatever comes of it: the key goes into slot 63, and the slot is erased (R365). -/
def State.cekUsed (s : State) (b : Nat) : State :=
  if s.imgSigned b 2 then
    match s.cekBlob b with
    | some pt => (s.loadSlot 63 (leNat (slice 0 4 pt)) (pt.drop 8)).eraseSlot 63
    | none => s
  else s

/-- The content of a section; none where its check fails. -/
def State.sectionData (s : State) (b : Nat) (cek : List Byte) (x : Section) : Option (List Byte) :=
  let d := s.img b x.off x.len
  if s.imgClass b = 1 then if sha256 d = x.check then some d else none
  else if gcmTag cek x.iv x.aad d ++ List.replicate 16 0 = x.check then some (gcmCrypt cek x.iv d) else none

/-- Every section's content with its type; none where a check fails. -/
def State.contents_ (s : State) (b : Nat) (cek : List Byte) (l : List Section) : Option (List (Nat × List Byte)) :=
  l.mapM (fun x => (s.sectionData b cek x).map (fun d => (x.type, d)))

def State.sectionsOf (s : State) (b : Nat) : Option (List (Nat × List Byte)) :=
  if s.imgClass b = 1 then s.contents_ b [] (s.imgSections b)
  else (s.cekBlob b).bind (fun pt => s.contents_ b (pt.drop 8) (s.imgSections b))

/-- The cold forwarding block alone, ahead of the other sections (R65): none where the slot is empty or it fails. -/
def State.coldSection (s : State) (b : Nat) : Option (List Byte) :=
  if s.imgSigned b 2 then
    (s.cekBlob b).bind (fun pt => (s.imgSections b).head?.bind (fun x => s.sectionData b (pt.drop 8) x))
  else none

/-! Bundles (R66, R277, R279, R363) -/

/-- A register of a bank of 32 per-port registers, of a port that is named. -/
def namedReg (ports base stride a : Nat) : Bool :=
  decide (base ≤ a ∧ a < base + 32 * stride) && ports.testBit ((a - base) / stride)

/-- Port settings (R66): the port's ETH block, its switch, class, priority and table configuration, and its fabric role. -/
def portSetting (ports a : Nat) : Bool :=
  (namedReg ports (ETH_PHY_CFG 0) 0x1000 a && decide (a < ETH_PHY_CFG 28)) || namedReg ports (SWC_PORT_CFG 0) 4 a ||
    namedReg ports (TMG_PORT_CLS 0) 4 a || namedReg ports (TMG_PCP_MAP 0) 4 a || namedReg ports (TBL_PORT_CFG 0) 4 a ||
    (namedReg ports (FAB_PORT_CFG 0) 4 a && decide (a < FAB_PORT_CFG 8))

/-- VLAN table words name no external port but those of the cold forwarding block. -/
def vlanOk (ports : Nat) (v : List Byte) : Bool :=
  (List.range (v.length / 4)).all (fun i => (bitsOf 28 (leNat (slice (4 * i) 4 v))).all ports.testBit)

/-- MAC table entries are static or empty (R224). -/
def macsOk (v : List Byte) : Bool :=
  (List.range (v.length / 16)).all (fun i =>
    let k := bits 29 28 (leNat (slice (16 * i + 4) 4 v))
    k == 0 || k == 3)

/-- The value that settings leave in a register. -/
def settingReg (l : List Setting) (a : Nat) : Word :=
  l.foldl (fun v x => match x with
    | .reg b w => if b = a then w else v
    | .fixed .. | .mem .. | .trie _ | .policer .. | .tide .. => v) (regDefault a)

/-- Stream and member entries by handle, each with its 32 bytes, as settings leave them (R135). -/
def streamEntries (l : List Setting) : Tab (List Byte) :=
  l.foldl (fun t x => match x with
    | .mem a v =>
      if 0x30400000 ≤ a ∧ a < 0x30480000 then
        (List.range (v.length / 32)).foldl (fun u i => tput u ((a - 0x30400000) / 32 + i) (slice (32 * i) 32 v)) t
      else t
    | .trie _ | .policer .. | .tide .. | .reg .. | .fixed .. => t) []

/-- The first word of an entry says that it is in use and no invalid role. -/
def entryUsed (e : List Byte) : Bool := bit 0 (leNat (slice 0 4 e)) && bits 10 9 (leNat (slice 0 4 e)) != 3

/-- Recovery contexts of the members among entries. -/
def entryContexts (t : Tab (List Byte)) : List Nat :=
  (t.filter (fun e => entryUsed e.2 && bits 10 9 (leNat (slice 0 4 e.2)) == 2)).map (fun e => leNat (slice 8 4 e.2) % 512)

/-- Guard slots that settings give to streams of entries, the backup included. -/
def guardSlots (l : List Setting) (t : Tab (List Byte)) : List Nat :=
  let has (h : Nat) : Bool := t.any (fun e => e.1 == h && entryUsed e.2)
  (List.range 64).filter (fun g =>
    has (CSG_G_CFG_handle.get (settingReg l (CSG_G_CFG g))) &&
      (CSG_G_BACKUP_backup_en.get (settingReg l (CSG_G_BACKUP g)) == 0 ||
        has (CSG_G_BACKUP_backup.get (settingReg l (CSG_G_BACKUP g)))))

/-- The settings enable a guard slot. -/
def guardsOn (l : List Setting) : Bool := (List.range 64).any (fun g => CSG_G_CFG_en.get (settingReg l (CSG_G_CFG g)) == 1)

/-- What a cold forwarding block may hold, item by item (R66): stream entries and their keys, static MAC entries, the VLAN
settings of its ports; policers; tide tables and port settings of its ports; shaper and random-early-drop settings; the FRER
contexts `ctxs` of its members, and the guard's enable with the slots `slots` of its guarded streams. -/
def coldAllowed (ports : Nat) (ctxs slots : List Nat) : Setting → Bool
  | .mem a v =>
    decide (0x30400000 ≤ a ∧ a + v.length ≤ 0x30480000) ||
      (decide (0x304B0000 ≤ a ∧ a + v.length ≤ 0x304B8000) && a % 4 == 0 && v.length % 4 == 0 && vlanOk ports v) ||
      (decide (0x304C0000 ≤ a ∧ a + v.length ≤ 0x30500000) && a % 16 == 0 && v.length % 16 == 0 && macsOk v)
  | .trie k => decide (1 ≤ k.type ∧ k.type ≤ 3)
  | .policer .. => true
  | .tide p _ _ _ => ports.testBit p
  | .reg a _ | .fixed a _ =>
    portSetting ports a || namedReg ports (TMG_TT_CTL 0) 32 a ||
      decide (TMG_SHP_CFG 0 ≤ a ∧ a < TMG_SHP_CREDIT 0) ||
      decide (SWC_RED_SEED ≤ a ∧ a < SWC_RED_SEED + 4) || decide (SWC_RED_PROF 0 0 ≤ a ∧ a < SWC_VOQ_SEL) ||
      ctxs.any (fun n => decide (CSG_FRER_CFG n ≤ a ∧ a < CSG_FRER_CFG (n + 1))) || a == CSG_CTL ||
      slots.any (fun g => decide (CSG_G_CFG g ≤ a ∧ a < CSG_G_CFG (g + 1)))

def ColdBlock.ok (c : ColdBlock) (bytes : Nat) : Bool :=
  let t := streamEntries c.settings
  decide (bytes ≤ 262144) && c.settings.all (coldAllowed c.ports (entryContexts t) (guardSlots c.settings t))

/-- A setting of a stream: its entry or a key that leads to it. -/
def streamSetting : Setting → Bool
  | .mem a _ => decide (0x30400000 ≤ a ∧ a < 0x30480000)
  | .trie k => decide (1 ≤ k.type ∧ k.type ≤ 3)
  | .policer .. | .tide .. | .reg .. | .fixed .. => false

/-- The settings of full operation: the full tables alone say which streams there are (R68). -/
def fullSettings (cold tables set : List Setting) : List Setting :=
  cold.filter (fun x => !streamSetting x) ++ tables ++ set

/-- The cold forwarding block of a profile slot, where it verifies (R65, R66). -/
def State.coldBlock (s : State) (p : Nat) : Option ColdBlock :=
  (s.coldSection (profileBase p)).bind (fun d => (Config.coldOf d).bind (fun c => if c.ok d.length then some c else none))

/-- At most 16,384 stream entries, and 1,024 members among them (R137, R140). -/
def streamsOk (l : List Setting) : Bool :=
  let t := (streamEntries l).filter (fun e => entryUsed e.2)
  decide (t.length ≤ 16384 ∧ (entryContexts t).length ≤ 1024)

/-- The limits of a safe-state record (R76). -/
def SafeRecord.ok (r : SafeRecord) : Bool :=
  decide (r.eth.length ≤ 16 ∧ r.can.length ≤ 8) && r.eth.all (fun e => decide (e.1 < 28 ∧ e.2.length ≤ 256)) &&
    r.can.all (fun e => decide (e.1 < 24)) && decide ((r.can.map (fun e => e.1)).Nodup)

/-! The program section (R277–R284): a word whose reserved bits are not zero is refused. -/

def wordAt (l : List Word) (i : Nat) : Nat := (l.getD i 0).toNat

/-- A routine descriptor (R278). -/
def routineOf (d : List Word) (code image : List Byte) : Option Routine :=
  let w := wordAt d
  if d.length = 8 ∧ bits 31 30 (w 0) = 0 ∧ bits 31 28 (w 1) = 0 ∧ bits 31 26 (w 2) = 0 ∧ bits 31 20 (w 3) = 0 ∧
      bits 31 12 (w 7) = 0 ∧ code.length = bits 16 0 (w 0) then
    some { code := code, entryWord := bits 29 17 (w 0), image := image, dataBytes := bits 16 0 (w 1), group := bits 24 17 (w 1)
           prio := bits 27 25 (w 1), budget := bits 15 0 (w 2), clusterMask := bits 19 16 (w 2), shedClass := bits 21 20 (w 2)
           mobile := bit 22 (w 2), freshState := bit 23 (w 2), hostMode := bits 25 24 (w 2), loadKu := bits 19 0 (w 3)
           hostMask := w 4, keyMask := w 5 + w 6 * 2 ^ 32, heaterMask := bits 11 0 (w 7) }
  else none

/-- A share group entry (R280). -/
def groupOf (no : Nat) (x : Word × List Byte) : Option Group :=
  let w := x.1.toNat
  if bits 31 30 w = 0 then some { no := no, sharedBytes := bits 18 0 w, persistWords := bits 29 19 w, image := x.2 } else none

/-- A signal declaration (R281). -/
def signalOf (d : List Word) : Option SigDecl :=
  let w := wordAt d
  if d.length = 4 ∧ bit 31 (w 0) = false ∧ bits 31 10 (w 1) = 0 then
    some { index := bits 17 0 (w 0), type := bits 21 18 (w 0), notify := bits 29 22 (w 0), anyWriter := bit 30 (w 0)
           writer := bits 9 0 (w 1), init := w 2 + w 3 * 2 ^ 32 }
  else none

/-- A load timer (R284). -/
def loadTimerOf (d : List Word) : Option LoadTimer :=
  let w := wordAt d
  if d.length = 3 ∧ bits 31 13 (w 0) = 0 then
    some { routine := bits 9 0 (w 0), timer := bits 11 10 (w 0), periodic := bit 12 (w 0), delay := w 1, arg := w 2 }
  else none

/-- Reserved bits of a frame binding (R282). -/
def frameBindOk (d : List Word) : Bool :=
  d.length == 4 && bits 31 19 (wordAt d 0) == 0 && bits 31 28 (wordAt d 1) == 0 && bits 16 10 (wordAt d 3) == 0

/-- The program that the section's words spell; none where a word is out of its form. -/
def RawProgram.decode (x : RawProgram) : Option Program :=
  match x.descs.zipIdx.mapM (fun e => routineOf e.1 (x.code.getD e.2 []) (x.images.getD e.2 [])),
      x.groups.zipIdx.mapM (fun e => groupOf (e.2 + 1) e.1), x.signals.mapM signalOf, x.timers.mapM loadTimerOf with
  | some rs, some gs, some ss, some ts =>
    if x.frameBind.all frameBindOk then
      some { routines := rs, groups := gs, signals := ss, timers := ts, canBind := x.canBind, trie := x.trie
             frameBind := x.frameBind, notify := x.notify, policy := x.policy, policy2 := x.policy2, kpolder := x.kpolder }
    else none
  | _, _, _, _ => none

/-- The trie content fits an empty trie (R221). -/
def trieFits (l : List TrieKey) : Bool :=
  (l.foldl (fun (acc : State × Bool) k =>
    let (t, ok) := acc.1.trieInsert { word := k.word, result := k.result, len := k.len, valid := true, ty := k.type }
    ({ t with tbl := { t.tbl with released := [] } }, acc.2 && ok)) (({} : State), true)).2

def trieKeys (l : List Setting) : List TrieKey :=
  l.filterMap (fun x => match x with
    | .trie k => some k
    | .reg .. | .fixed .. | .mem .. | .policer .. | .tide .. => none)

/-- The first section of a type, read by its form; an omitted section is empty (R277). -/
def partOf {α : Type} (l : List (Nat × List Byte)) (type : Nat) (f : List Byte → Option α) (empty : α) : Option α :=
  match l.find? (fun x => x.1 == type) with
  | some x => f x.2
  | none => some empty

/-- No blob of the key section loads slot 63 (R365). -/
def keysOk (blobs : List (List Byte)) : Bool :=
  blobs.all (fun b => match Config.customerKek.bind (fun k => kwUnwrap k b) with
    | some pt => leNat (slice 4 4 pt) != 63
    | none => true)

/-- A bundle from its sections; none where it breaks R66, R279 or R365, placement apart. -/
def bundleOf (l : List (Nat × List Byte)) (digest : List Byte) : Option Bundle :=
  match partOf l 1 Config.coldOf {}, (partOf l 2 Config.programOf {}).bind RawProgram.decode, partOf l 3 Config.tablesOf [],
      partOf l 4 Config.keysOf [], partOf l 5 Config.safeOf {}, partOf l 6 Config.settingsOf {} with
  | some c, some p0, some t, some k, some f, some g =>
    let p := { p0 with off := Nat.land g.startOff g.permitOff }
    let b : Bundle := { cold := c, program := p, tables := t, keys := k, safe := f, set := g, digest := digest }
    if c.ok (((l.find? (fun x => x.1 == 1)).map (fun x => x.2.length)).getD 0) ∧ p.ok ∧ streamsOk c.settings ∧ streamsOk t ∧ keysOk k ∧ f.ok ∧
        trieFits (trieKeys c.settings) ∧ trieFits (trieKeys (fullSettings c.settings t g.settings) ++ p.trie) then some b
    else none
  | _, _, _, _, _, _ => none

/-- The bundle in a profile slot, every check passed; none where the slot is empty or anything fails (R65, R448). -/
def State.bundleAt (s : State) (p : Nat) : Option Bundle :=
  let b := profileBase p
  if s.imgSigned b 2 then
    (s.sectionsOf b).bind (fun l => bundleOf l (s.imgDigest b))
  else none

/-! The checks of an image in the inlet (R366, R371) -/

/-- The first of the cases of R366 that holds, in its order: 0 none, 1 form, 2 root, 3 signature, 4 section check, 5 bind_id,
6 profile_mask, 7 content, 8 version or rollback. `b` is the image's base, `target` the journal's number of its place. -/
def State.rejectionAt (s : State) (b target : Nat) : Nat :=
  let want := if target = 0 then 1 else 2
  if !s.headerOk b ∨ s.imgClass b ≠ want then 1
  else if !s.rootOk b then 2
  else if !s.signatureOk b then 3
  else match s.sectionsOf b with
    | none => 4
    | some l =>
      if s.imgBind b ≠ 0 ∧ s.imgBind b ≠ ownId then 5
      else if target ≠ 0 ∧ !(s.imgMask b).testBit (target - 1) then 6
      else if target ≠ 0 ∧ (bundleOf l (s.imgDigest b)).isNone then 7
      else if target = 0 ∧ !(decide (s.wrd.fwVersion ≤ s.imgVersion b ∧ s.rollback ≤ s.imgRollback b ∧ s.imgRollback b ≤ 397311)) then 8
      else 0

/-- The checks of the image in the inlet. -/
def State.rejection (s : State) (target : Nat) : Nat := s.rejectionAt inletBase target

/-- The reason that a stored profile is rejected for (R444, R448): a word that cannot be read fails the section check. -/
def State.profileReason (s : State) (p : Nat) : Nat :=
  match s.rejectionAt (profileBase p) (p + 1) with
  | 0 => 4
  | k => k

/-- The storage form of R365 is written into the inlet: the content key wrapped by slot 66, store_form 1. -/
def State.storeForm (s : State) : State :=
  match s.cekBlob inletBase with
  | some pt => (s.mramPut (inletBase + 64) (kwWrap (s.slotKey 66) pt)).mramPut (inletBase + 22) [1]
  | none => s

/-- The vendor firmware in MRAM passes step 3 of R368: header, root, signature, sections and R371 against the counter. -/
def State.vendorOk (s : State) : Bool :=
  let b := vendorBase
  s.imgSigned b 1 && (s.sectionsOf b).isSome &&
    (s.imgBind b == 0 || s.imgBind b == ownId) && decide (s.rollback ≤ s.imgRollback b ∧ s.imgRollback b ≤ 397311)

end Sys2Proof.Machine
end

