-- ==== Sys2Proof/Machine/Profile.lean ====
section
/-! DEFINITION. What a profile does to the machine: its settings written and removed, its keys, its persistent blocks, and the
run-time switch (R66, R157, R280, R365, R446–R452). -/

namespace Sys2Proof.Machine

/-! Settings -/

/-- One setting takes effect as the warden writes it. -/
def State.loadSetting (s : State) : Setting → State
  | .reg a v => s.regWrite .warden a v
  | .fixed a v => s.wr a v
  | .mem a v => if 0x30400000 ≤ a ∧ a < 0x30480000 ∧ a % 32 = 0 ∧ v.length = 32 then s.putStream ((a - 0x30400000) / 32) v else s.memPut a v
  | .trie k => (s.trieInsert { word := k.word, result := k.result, len := k.len, valid := true, ty := k.type }).1
  | .policer n rate burst en => s.polSet n rate burst en
  | .tide p l i v =>
    if p < 28 ∧ l < 2 ∧ i < 1024 then { s with tm := { s.tm with entries := tset 0 s.tm.entries (p * 2048 + l * 1024 + i) v } } else s

/-- The place of a setting, without its value. -/
def Setting.place : Setting → Setting
  | .reg a _ | .fixed a _ => .reg a 0
  | .mem a v => .mem a (List.replicate v.length 0)
  | .trie k => .trie { k with result := 0 }
  | .policer n _ _ _ => .policer n 0 0 false
  | .tide p l i _ => .tide p l i 0

/-- What a setting leaves behind when no profile has it any more: the reset value (R450). -/
def State.dropSetting (s : State) : Setting → State
  | .reg a _ => s.regWrite .warden a (regDefault a)
  | .fixed a _ => s.wr a (regDefault a)
  | .mem a v => s.memPut a (List.replicate v.length 0)
  | .trie k => (s.trieRemove k.word k.len k.type).1
  | .policer n _ _ _ => s.polSet n 0 0 false
  | .tide p l i _ => s.loadSetting (.tide p l i 0)

/-- Every setting of a profile in full operation, in the order of its sections. -/
def Bundle.settings (b : Bundle) : List Setting := fullSettings b.cold.settings b.tables b.set.settings

/-- The settings of the running profile (R450). -/
def State.runSettings (s : State) : List Setting :=
  match s.profileNow with
  | some b => if s.bank.reduced then b.cold.settings else b.settings
  | none => (s.wrd.cold.map ColdBlock.settings).getD []

/-- A profile in use: SYS_BOOT_STATUS.profile at start, SYS_PROFILE.active at run time (R61, R455). -/
def State.bootProfile (s : State) : Nat := s.fld SYS_BOOT_STATUS SYS_BOOT_STATUS_profile
def State.activeProfile (s : State) : Nat := s.fld SYS_PROFILE SYS_PROFILE_active

/-- The wrapped keys of a bundle are loaded into their slots (R343, R345). -/
def State.loadKeys (s : State) (blobs : List (List Byte)) : State :=
  blobs.foldl (fun t b => match Config.customerKek.bind (fun k => kwUnwrap k b) with
    | some pt =>
      let n := leNat (slice 4 4 pt)
      if n < 63 ∧ blobOk pt n then t.loadSlot n (leNat (slice 0 4 pt)) (pt.drop 8) else t.raise 0x0B07 4
    | none => t.raise 0x0B07 4) s

/-! Polders (R452) -/

/-- ETH_PHY_CFG of the ports of PD2 or PD3 at its reset value. -/
def State.phyReset (s : State) (n : Nat) : State :=
  (if n = 2 then List.range 8 else (List.range 20).map (· + 8)).foldl
    (fun (t : State) p => t.wr (ETH_PHY_CFG p) (regDefault (ETH_PHY_CFG p))) s

/-- PD2, PD3 or PD8 goes off and loses its content: the PHY settings with PD2 and PD3, the frames of banks B0 to B3 with PD8. -/
def State.polderOff (s : State) (n : Nat) : State :=
  let s1 := s.setPolder n false
  if n = 8 then ((s1.sw.frames.filter (fun f => decide (f.bank < 4))).foldl (fun t f => t.dropFrame f.id) s1).spillAll
  else s1.phyReset n

/-- Settings of the PHYs of a polder: ETH_PHY_CFG of its ports. -/
def phySetting (n : Nat) : Setting → Bool
  | .reg a _ => decide (0x20080000 ≤ a ∧ a < 0x2009C000) && a % 0x1000 == 0 && decide (a < 0x20088000) == decide (n = 2)
  | _ => false

/-- A polder goes on at its reset values, and the profile's content is restored into it (R452). -/
def State.polderOn (s : State) (n : Nat) : State :=
  let s1 := s.setPolder n true
  if n = 2 ∨ n = 3 then (s1.runSettings.filter (phySetting n)).foldl State.loadSetting (s1.phyReset n) else s1.spillAll

/-- The condition of R452 for switching a polder off. -/
def State.mayOff (s : State) (n : Nat) : Bool :=
  if n = 2 then (List.range 8).all (fun p => !s.fldB (ETH_PHY_CFG p) ETH_PHY_CFG_en)
  else if n = 3 then (List.range 20).all (fun p => !s.fldB (ETH_PHY_CFG (p + 8)) ETH_PHY_CFG_en)
  else (List.range 8).all (fun p => !s.portEn p) && (List.range 4).all (fun b => s.spillIn b == 0)

/-! Schedules of a profile (R449) -/

/-- A port's schedule as settings describe it: its entries, cycle and base; none where it is not enabled. -/
def scheduleOf (l : List Setting) (p : Nat) : Option (List Word × Word × Word × Word) :=
  let val : Nat → Word := settingReg l
  let ctl := val (TMG_TT_CTL p)
  if TMG_TT_CTL_en.get ctl = 1 then
    let k := TMG_TT_CTL_list.get ctl
    let n := (if k = 0 then TMG_TT_LEN_len0 else TMG_TT_LEN_len1).get (val (TMG_TT_LEN p))
    let entry (i : Nat) : Word := l.foldl (fun v x => match x with
      | .tide q m j w => if q = p ∧ m = k ∧ j = i then w else v
      | _ => v) 0
    some ((List.range n).map entry, val (TMG_TT_CYCLE p), val (TMG_TT_BASE_LO p), val (TMG_TT_BASE_HI p))
  else none

/-- Ports whose schedule differs between two lists of settings. -/
def schedulesDiffer (old new : List Setting) : List Nat :=
  (List.range 28).filter (fun p => scheduleOf old p != scheduleOf new p)

/-- A setting that belongs to the schedule of one of the ports. -/
def ofSchedule (ps : List Nat) : Setting → Bool
  | .tide p _ _ _ => ps.contains p
  | .reg a _ => ps.any (fun p => a == TMG_TT_CTL p || a == TMG_TT_LEN p || a == TMG_TT_CYCLE p || a == TMG_TT_BASE_LO p ||
      a == TMG_TT_BASE_HI p || a == TMG_TT_CHG_LO p || a == TMG_TT_CHG_HI p)
  | _ => false

/-- A new schedule in one of a port's lists, and its length, cycle and base. -/
def State.putSchedule (s : State) (p k : Nat) (x : List Word × Word × Word × Word) : State :=
  let s1 := x.1.zipIdx.foldl (fun t e => t.loadSetting (.tide p k e.2 e.1)) s
  let s2 := s1.setFld (TMG_TT_LEN p) (if k = 0 then TMG_TT_LEN_len0 else TMG_TT_LEN_len1) x.1.length
  ((s2.wr (TMG_TT_CYCLE p) x.2.1).wr (TMG_TT_BASE_LO p) x.2.2.1).wr (TMG_TT_BASE_HI p) x.2.2.2

/-- A differing schedule of a port that runs one is changed by R126 with change time S. -/
def State.changeSchedule (s : State) (new : List Setting) (at_ p : Nat) : State :=
  match (s.tideOf p).oper, scheduleOf new p with
  | some c, some x => ((s.putSchedule p (1 - c.list) x).wr64 (TMG_TT_CHG_LO p) (TMG_TT_CHG_HI p) at_).ttChange p
  | _, _ => s

/-- At S a schedule that starts is enabled, and one that ends is disabled. -/
def State.startSchedule (s : State) (new : List Setting) (p : Nat) : State :=
  match (s.tideOf p).oper, scheduleOf new p with
  | none, some x => (s.putSchedule p 0 x).ttCtlWrite p 1
  | some _, none => s.ttCtlWrite p 0
  | _, _ => s

/-! Guard slots in a switch (R157) -/

/-- Guard slots whose settings differ, or whose watched or backup entry a switch writes. -/
def State.guardsDiffer (s : State) (changed : List Setting) : List Nat :=
  let streams := changed.flatMap (fun x => match x with | .mem a v => streamsIn a v.length | _ => [])
  let hit (g h : Nat) : Bool := streams.contains h
  (List.range 64).filter (fun g =>
    changed.any (fun x => match x with
      | .reg a _ => decide (CSG_G_CFG g ≤ a ∧ a < CSG_G_CFG g + 0x40)
      | _ => false) || hit g (s.gHandle g) ||
      (s.fldB (CSG_G_BACKUP g) CSG_G_BACKUP_backup_en && hit g (s.fld (CSG_G_BACKUP g) CSG_G_BACKUP_backup)))

/-- A register of a guard slot. -/
def isGuardReg (a : Nat) : Bool := decide (CSG_G_CFG 0 ≤ a ∧ a < CSG_G_CFG 64)

/-- A setting in a switch: the registers of a guard slot change together, before its state follows. -/
def State.putSetting (s : State) (x : Setting) : State :=
  match x with
  | .reg a v => if isGuardReg a then s.wrPlain a v else s.loadSetting x
  | .fixed .. | .mem .. | .trie _ | .policer .. | .tide .. => s.loadSetting x

def State.takeSetting (s : State) (x : Setting) : State :=
  match x with
  | .reg a _ => if isGuardReg a then s.wrPlain a (regDefault a) else s.dropSetting x
  | .fixed .. | .mem .. | .trie _ | .policer .. | .tide .. => s.dropSetting x

/-- Refused keys end with the load of another bundle or profile (R138). -/
def State.clearRefused (s : State) : State :=
  s.tbl.leaves.foldl (fun t i =>
    let l := t.leaf i
    if decide (1 ≤ l.ty ∧ l.ty ≤ 3) && bit 31 l.result then (t.trieRemove l.word l.len l.ty).1 else t) s

/-! The run-time switch (R447–R451) -/

/-- Entries of a new profile that the running one does not have identically, and those that only the running one has. -/
def settingsDiffer (old new : List Setting) : List Setting × List Setting :=
  (new.filter (fun x => !old.contains x), old.filter (fun x => !new.any (fun y => y.place == x.place)))

/-- The settings that a switch writes: reduced operation runs the cold forwarding block alone (R80). -/
def State.newSettings (s : State) (b : Bundle) : List Setting := if s.bank.reduced then b.cold.settings else b.settings

/-- A refused switch raises 0x0109 (R448). -/
def State.switchRefused (s : State) : State := s.raise 0x0109 3

/-- Outcome of the preparation: the bundle, or the result code and its values (R444, R448). -/
def State.switchCheck (s : State) (p : Nat) : Except (Nat × List Nat) Bundle :=
  if !s.slotHolds p then .error (13, [])
  else match s.bundleAt p with
    | none => .error (10, [(Config.reasonCode (s.profileReason p)).toNat])
    | some b =>
      if s.bank.reduced then .ok b
      else match s.programPlan b.program false with
        | .error r => .error (7, [r])
        | .ok _ => .ok b

/-- The instant S from `t` on: a cycle boundary of the first port whose schedule differs (R449). -/
def State.switchAt (s : State) (ps : List Nat) (t : Nat) : Nat :=
  match ps with
  | p :: _ => (match (s.tideOf p).oper with | some c => c.boundary t | none => t)
  | [] => t

/-- The instant S is fixed for a switch at or after `t`, and the differing schedules change from S on (R449). -/
def State.switchFrom (s : State) (x : Switching) (t : Nat) : State :=
  let new := s.newSettings x.bundle
  let ps := schedulesDiffer s.runSettings new
  let at_ := s.switchAt ps t
  let s1 := ps.foldl (fun u p => u.changeSchedule new at_ p) s
  s1.setWrd { s1.wrd with switching := some { x with instant := at_, ports := ps, written := false } }

/-- SYS_PROFILE shows a switch to a profile, or none (R455). -/
def State.showSwitch (s : State) (p : Nat) : State :=
  (s.setFld SYS_PROFILE SYS_PROFILE_switching 1).setFld SYS_PROFILE SYS_PROFILE_target p

def State.hideSwitch (s : State) : State :=
  (s.setFld SYS_PROFILE SYS_PROFILE_switching 0).setFld SYS_PROFILE SYS_PROFILE_target 0

/-- Preparation has ended: T is 1 ms from now (R449). -/
def State.switchBegin (s : State) (x : Switching) : State :=
  let s1 := s.showSwitch x.slot
  s1.switchFrom x (s1.tide.toNat + 1000000)

/-- Every differing entry is written, and what only the old settings have is taken out; schedules of `ports` change by R126
(R450). -/
def State.applySettings (s : State) (old new : List Setting) (ports : List Nat) : State :=
  let rest (l : List Setting) : List Setting := l.filter (fun y => !ofSchedule ports y)
  let (put, gone) := settingsDiffer old new
  let gs := s.guardsDiffer (put ++ gone)
  let s1 := gs.foldl (fun t g => t.endRedir g false) s.clearRefused
  let s2 := (rest gone).foldl State.takeSetting s1
  let s3 := (rest put).foldl State.putSetting s2
  let s4 := ports.foldl (fun t p => t.startSchedule new p) s3
  (gs.foldl State.gRestart s4).sendOwed

/-- The switch instant S (R449). -/
def State.switchWrite (s : State) (x : Switching) : State :=
  let s1 := s.applySettings s.runSettings (s.newSettings x.bundle) x.ports
  s1.setWrd { s1.wrd with switching := some { x with written := true } }

/-- The fault whose action has completed (R427). -/
def State.faultEnded (s : State) (slot : Nat) : State :=
  match s.flt.stack with
  | i :: _ => if i.slot = slot then s.faultDone else s
  | [] => s

/-- Full operation begins: each CAN channel leaves standby as its mode says (R56, R62 row 8). -/
def State.enterFull (s : State) : State :=
  let s1 := ((s.setDev .full).setFld SYS_BOOT_STATUS SYS_BOOT_STATUS_phase 3).wr (SYS_BOOT_MARK 3)
    (BitVec.ofNat 32 (min (2 ^ 32 - 1) (s.elapsed - s.dev.bootRef)))
  (List.range 24).foldl (fun (t : State) n => t.canRequest n (t.canMode n)) (s1.raise 0x0101 0)

/-- BNK settings of the profile, which reduced operation needs for its safe duties (R80). -/
def bankSetting : Setting → Bool
  | .reg a _ => isBnk a
  | .fixed .. | .mem .. | .trie _ | .policer .. | .tide .. => false

/-- Reduced operation of a bundle, or of a cold forwarding block whose bundle does not verify: no keepers, the heaters at their safe
duties (R80). -/
def State.enterReduced (s : State) (b : Option Bundle) : State :=
  let s1 := ((b.map Bundle.settings).getD []).filter bankSetting |>.foldl State.loadSetting s
  let s2 := (s1.setWrd { s1.wrd with run := b }).regWrite .warden BNK_CTL (BitVec.ofNat 32 8)
  (s2.setFld SYS_BOOT_STATUS SYS_BOOT_STATUS_phase 4).setDev .reduced

/-- Keys of a bundle that the running one does not have, and its polder permissions. -/
def State.takeKeys (s : State) (b : Bundle) : State :=
  let old := (s.wrd.run.map Bundle.keys).getD []
  (s.loadKeys (b.keys.filter (fun k => !old.contains k))).setFld SYS_POLDER SYS_POLDER_permit_off b.set.permitOff

/-- Routines and keys of the new profile: the map is committed by R290 (R451). A reduced start has neither (R80). -/
def State.takeProgram (s : State) (x : Switching) : State :=
  if s.bank.reduced then s.enterReduced (some x.bundle)
  else
    let s1 := s.takeKeys x.bundle
    if s1.dev.state = .full then
      s1.setPlc { s1.plc with trigger := s1.plc.trigger ++ [.program x.bundle.program x.bundle.digest x.update] }
    else (s1.firstPlacement x.bundle.program x.bundle.digest false).enterFull

/-- Keepers reloaded and routines placed for the transition from cold forwarding (R62 row 8, R68, R446): `failed` are the cores whose
self-test fails (R296), `refused` says that the higher needs were refused (R45, R291). -/
def State.startProgram (s : State) (b : Bundle) (failed : List (Fin 64)) (refused : Bool) : State :=
  let s1 := s.takeKeys b
  let s2 := ([2, 3, 8].filter (fun n => b.set.startOff.testBit n && b.set.permitOff.testBit n)).foldl State.polderOff s1
  let s3 := failed.foldl (fun t c =>
    if t.coreExcluded c.val then t
    else (t.wr64 PLC_EXCL_LO PLC_EXCL_HI (withBit (t.rd64 PLC_EXCL_LO PLC_EXCL_HI) c.val true)).raise 0x0D04 4 c.val) s2
  (s3.firstPlacement b.program b.digest refused).enterFull

/-- The state that will carry the load of a switch: the new streams and the new map (R45). -/
def State.switchLoad (s : State) (x : Switching) (refused : Bool) : State :=
  let t := s.switchWrite x
  match x.start with
  | some (failed, _) => t.startProgram x.bundle failed refused
  | none =>
    if s.dev.state = .full then t.commitProgram x.bundle.program x.bundle.digest x.update else t.takeProgram x

/-- The device runs the bundle of a switch. -/
def State.nowRuns (s : State) (x : Switching) : State :=
  s.setWrd { s.wrd with switching := none, run := some x.bundle, cold := some x.bundle.cold
                        pendingStart := s.wrd.pendingStart.filter (· != x.slot + 1)
                        signed := (x.bundle.digest, s.imgRoot (profileBase x.slot)) }

/-- A preparation that fails: 0x0109, and for a bundle that cannot be placed what R291 says; a content key that was used is erased
(R365, R448). -/
def State.switchFailed (s : State) (p r : Nat) (vals : List Nat) : State :=
  let s1 := if r = 13 then s else s.cekUsed (profileBase p)
  (if r = 7 then s1.infeasible (vals.headD noInst) else s1).switchRefused

/-- A preparation that succeeds: the switch begins once the needs that it brings hold (R45, R448). SYS_PROFILE shows it from the
command on (R455). -/
def State.switchPrepare (s : State) (x : Switching) (taken refused : State → State) : State :=
  let load := s.switchLoad x false
  match s.loadGate .program load with
  | .ask => (s.askNeeds .program load).showSwitch x.slot
  | .go | .wait | .refused =>
    s.beginLoad .program load (fun t => (taken (t.cekUsed (profileBase x.slot))).switchBegin x)
      (fun t => refused (t.hideSwitch.switchFailed x.slot 7 []))

/-- Every schedule and entry has taken effect: 0x0108, and the command's result (R449). The transition from cold forwarding ends in
full operation instead (R68). What the placer has to do follows at once, or with its next commit. -/
def State.switchFinish (s : State) : State :=
  match s.wrd.switching with
  | some x =>
    if x.written ∧ x.ports.all (fun p => (s.tideOf p).pending.isNone) then
      match x.start with
      | some (failed, refused) => ((s.startProgram x.bundle failed refused).nowRuns x).needsDone
      | none =>
        let s1 := (s.takeProgram x).nowRuns x
        let s2 := (s1.hideSwitch.setFld SYS_PROFILE SYS_PROFILE_active x.slot).setFld SYS_BOOT_STATUS SYS_BOOT_STATUS_profile x.slot
        let s3 := s2.raise 0x0108 1
        let s4 := match x.fault with | some k => s3.faultEnded k | none => s3
        let s5 := if s4.plc.trigger = [] then s4.needsDone else s4
        if x.command then s5.answer 0 else s5
    else s
  | none => s

/-- The switch instant S has come. -/
def State.switchInstant (s : State) : State :=
  match s.wrd.switching with
  | some x =>
    if x.written then s.switchFinish
    else if x.instant ≤ s.tide.toNat then (s.switchWrite x).switchFinish
    else s
  | none => s

/-! The rows of the table -/

def execSwitchInstant (s : State) : Host.Outcome State Fault Refusal := .next s.switchInstant
/-- A schedule takes effect at its instant; the last one may complete a profile switch (R126, R449). -/
def execScheduleSwitch (p : Fin 28) (s : State) : Host.Outcome State Fault Refusal := .next (s.scheduleSwitch p.val).switchFinish
def execPersistentBlockSave (s : State) : Host.Outcome State Fault Refusal := .next (if s.dev.state = .full then s.saveBlocks else s)

end Sys2Proof.Machine
end

