-- ==== Sys2Proof/Machine/Boot.lean ====
section
/-! DEFINITION. Start-up, the fatal sequence on the logic side, and installation in MRAM (R59–R82, R368–R380), with the rows of
the bank die's supply, reset and wake. -/

namespace Sys2Proof.Machine

/-! The fatal sequence (R75–R78) -/

/-- The safe-state record in force: that of the loaded profile (R76). -/
def State.safeRecord (s : State) : SafeRecord :=
  match s.profileNow with
  | some b => b.safe
  | none => if s.wrd.cold.isSome then ((s.bundleAt s.bootProfile).map Bundle.safe).getD {} else {}

/-- Step 2 of R77: every queued frame is discarded and the keepers stop. A frame discarded at the head of its queue shows in the
delay watermark (R129), and the CAN entry behind a record is acknowledged (R199). -/
def State.stopTraffic (s : State) : State :=
  let s1 := s.sw.frames.foldl (fun t f => t.dropFrame f.id) s
  let s2 := (s1.stagedAt 28).foldl (fun t f => t.undelivered f 28) s1
  { s2 with sw := { s2.sw with frames := [], queues := [], xfers := [], staged := [], busy := [], onAir := [] }
            kpr := { s2.kpr with run := [], outbound := [] } }

/-- A safe-state Ethernet frame as the firmware hands it to a port. -/
def safeFrame (bs : List Byte) : Frame :=
  { input := 29, data := bs, tc := 7, cells := cellsOf bs.length, complete := true }

/-- Step 3 of R77: the Ethernet frames stand in the staging buffers; each named channel is flushed and its frame takes TXB0. -/
def State.sendSafe (s : State) (r : SafeRecord) : State :=
  let s1 := (List.range 28).foldl (fun t p =>
    let fs := (r.eth.filter (fun e => e.1 == p)).map (fun e => safeFrame e.2)
    if t.linkUp p ∧ fs ≠ [] then { t with sw := { t.sw with staged := tset [] t.sw.staged p fs } } else t) s
  let s2 := s1.setWrd { s1.wrd with safeCan := r.can }
  ((r.can.map (fun e => e.1)).filter (fun n => decide (n < 24))).foldl (fun t n => (t.flushTx n).loadSafe n) s2

/-- Steps 1 to 3 of R77 for a cause and its event; only some causes send safe-state frames (R75, R78). -/
def State.fatalStart (s : State) (cause event : Nat) (frames : Bool) : State :=
  if s.running ∧ s.bank.fatal.isNone then
    let r := s.safeRecord
    let s1 := (s.fatalBegin cause event).stopTraffic
    if frames then s1.sendSafe r else s1
  else s

/-- A fatal request reaches the bank die (R77, R426). -/
def State.fatalRequest (s : State) : State := s.fatalStart 4 (s.bank.fatalReq.getD 0) true

/-- 50 ms without a heartbeat while the logic die is out of reset (R75). -/
def State.heartbeatLost (s : State) : State := if s.bank.lastHb + 50000000 ≤ s.elapsed then s.fatalStart 5 0 false else s

/-- The Reset command (R78, R280, R443). -/
def State.resetCommand (s : State) : State := s.saveBlocks.fatalStart 7 0 true

/-! Boot phases (R61–R68, R368, R369) -/

/-- Reset release samples the balls, and the boot ROM loads the stored fallback (R61, R455). -/
def State.resetRelease (s : State) (psel : Nat) (head : Bool) : State :=
  if s.bank.seq = .waitRelease then
    let s1 := { s with pins := { s.pins with psel := psel, head := head } }.release
    s1.setFld SYS_PROFILE SYS_PROFILE_fallback s1.mram.fallback
  else s

/-- The time from the reference of R62, as a mark holds it (R81). -/
def State.mark (s : State) (n : Nat) : State := s.wr (SYS_BOOT_MARK n) (BitVec.ofNat 32 (min (2 ^ 32 - 1) (s.elapsed - s.dev.bootRef)))

def State.phase (s : State) : Nat := s.fld SYS_BOOT_STATUS SYS_BOOT_STATUS_phase
def State.setPhase (s : State) (n : Nat) : State := s.setFld SYS_BOOT_STATUS SYS_BOOT_STATUS_phase n

/-! Installation in MRAM (R370–R376) -/

def blocksOf (length : Nat) : Nat := (length + 4095) / 4096

/-- Block k of the inlet is written over block k of the target, and next_block follows (R376 step 3). -/
def State.copyBlock (s : State) (k : Nat) : State :=
  let j := s.mram.journal
  let s1 := s.mramPut (targetBase j.target + 4096 * k) (s.img inletBase (4096 * k) 4096)
  s1.setJournal { s1.mram.journal with next := k + 1 }

/-- The target holds the inlet image (R376 step 4). -/
def State.targetOk (s : State) : Bool :=
  sha256 (s.img (targetBase s.mram.journal.target) 0 s.mram.journal.length) == s.mram.journal.digest

/-- Fuses that the installed image asks for (R372). -/
def State.fusesWanted (s : State) : Nat := s.mram.journal.rb / 4096

/-- S := rb goes into the older sub-counter copy, with the next sequence number (R372). -/
def State.writeSub (s : State) : State :=
  let m := s.mram
  let seq := max (if m.sub0.valid then m.sub0.seq else 0) (if m.sub1.valid then m.sub1.seq else 0) + 1
  let c : SubCopy := { value := m.journal.rb, seq := seq }
  let older0 := !m.sub0.valid || (m.sub1.valid && decide (m.sub0.seq < m.sub1.seq))
  let s1 := s.mramWear (if older0 then 0x80 else 0x81)
  s1.setMram (if older0 then { s1.mram with sub0 := c } else { s1.mram with sub1 := c })

/-- One attempt to blow a fuse; after three failures of one step 0x100B, and the counter rests on S (R373). True when no
further attempt follows. -/
def State.burnOnce (s : State) (ok : Bool) : State × Bool :=
  if ok then
    let s1 := (s.setOtp { s.otp with fuses := s.otp.fuses + 1 }).setWrd { s.wrd with burns := 0 }
    (s1, decide (s.fusesWanted ≤ s1.otp.fuses))
  else
    let s1 := s.addFld SYS_ROLLBACK SYS_ROLLBACK_fuse_fail 1
    if s.wrd.burns = 2 then ((s1.setWrd { s1.wrd with burns := 0 }).raise 0x100B 5, true)
    else (s1.setWrd { s1.wrd with burns := s.wrd.burns + 1 }, false)

/-- Burns at boot, attempt by attempt; attempts beyond those listed succeed. -/
def State.burnAll : Nat → List Bool → State → State
  | 0, _, s => s
  | n + 1, l, s =>
    if s.fusesWanted ≤ s.otp.fuses then s
    else match s.burnOnce (l.headD true) with
      | (s1, true) => s1
      | (s1, false) => State.burnAll n (l.drop 1) s1

/-- The journal's state is written with the record as it stands. -/
def State.journalState (s : State) (n : Nat) : State := s.setJournal { s.mram.journal with state := n }

/-- COMMITTED, then IDLE (R376). -/
def State.journalEnd (s : State) : State := (s.journalState 5).setJournal {}

/-- Step 5 of R376 at a start. -/
def State.commitBoot (s : State) (burns : List Bool) : State :=
  let s1 := if s.mram.journal.target = 0 then State.burnAll 400 burns s.writeSub else s
  s1.journalEnd.raise 0x1004 2

/-- What the journal shows at a start is acted on (R376). A copy goes through its read-back; a target that cannot be made good is
emptied. -/
def State.journalBoot (s : State) (burns : List Bool) : State :=
  let j := s.mram.journal
  let lost (t : State) : State := (t.mramPut (targetBase j.target) (List.replicate 4 0)).setJournal {}
  if j.state = 1 ∨ j.state = 2 then (s.setJournal {}).raise 0x1005 2
  else if j.state = 3 then
    if sha256 (s.img inletBase 0 j.length) = j.digest ∧ !s.mramLost inletBase j.length then
      let s1 := (List.range (blocksOf j.length - j.next)).foldl (fun t k => t.copyBlock (j.next + k)) s
      if s1.targetOk then (s1.journalState 4).commitBoot burns else lost s1
    else lost s
  else if j.state = 4 then s.commitBoot burns
  else if j.state = 5 then s.setJournal {}
  else s

/-- What the profile of a start says of its PHYs and its fabric MAC: of the whole bundle, or, where that does not verify, of its
cold forwarding block. -/
def startSetting : Setting → Bool
  | .reg a _ | .fixed a _ =>
    (decide (ETH_PHY_CFG 0 ≤ a ∧ a < ETH_PHY_CFG 28) && a % 0x1000 == 0) || a == FAB_MAC_LO || a == FAB_MAC_HI
  | .mem .. | .trie _ | .policer .. | .tide .. => false

def State.startSettings (s : State) (p : Nat) : List Setting :=
  (match s.bundleAt p with
   | some b => b.settings
   | none => ((s.coldBlock p).map ColdBlock.settings).getD []).filter startSetting

/-- PHY training starts on every port that the profile enables (R62 row 4, R81). -/
def State.phyStart (s : State) (p : Nat) : State := ((s.startSettings p).foldl State.loadSetting s).mark 1

/-- The PCIe endpoint trains, and is ready once PERST_N is deasserted too (R64). -/
def State.pcieStart (s : State) : State :=
  { s with dev := { s.dev with pcieTrain := true, pcieReady := s.pins.perstN } }

/-- PERST_N is deasserted (R64). -/
def State.perstHigh (s : State) : State :=
  { s with pins := { s.pins with perstN := true }, dev := { s.dev with pcieReady := s.dev.pcieTrain } }

/-- The firmware writes the seed of random early drop from the TRNG as it starts (R111). -/
def State.seedRed (s : State) : State :=
  let (s1, l) := s.randomWords 1
  s1.regWrite .warden SWC_RED_SEED (l.headD 0)

/-- An image that cannot be read whole: the uncorrectable word shows (R415). -/
def State.imgError (s : State) (b : Nat) : State := if s.mramLost b (s.imgLen b) then s.mramError b else s

/-- The verification of the vendor firmware ends (R368 steps 2 and 3): the warden image starts, or recovery begins (R369). -/
def State.firmwareVerified (s : State) (burns : List Bool) : State :=
  if s.dev.state = .boot ∧ s.phase = 0 ∧ !s.dev.recovery ∧ !s.dev.thermalWait ∧ s.bank.fatal.isNone then
    let s1 := s.journalBoot burns
    let s2 := if s1.mram.sub.isSome then s1
      else (s1.setFld SYS_ROLLBACK SYS_ROLLBACK_sub_lost 1).raise 0x1004 2 noInst (Config.reasonCode 9).toNat
    let s2 := s2.imgError vendorBase
    if s2.vendorOk then
      let image := ((s2.imgSections vendorBase).head?.map (fun x => s2.img vendorBase x.off x.len)).getD []
      let s3 := (s2.mwbytes (sramBase + 0x200000 * s2.wrd.half) image).setWrd
        { s2.wrd with fwVersion := s2.imgVersion vendorBase, fwDigest := s2.imgDigest vendorBase }
      (((((s3.seedRed.setPhase 1).mark 0).pcieStart.setPolder 2 true).setPolder 3 true).phyStart s3.bootProfile).served
    else ({ s2 with dev := { s2.dev with recovery := true } }.pcieStart.raise 0x1001 5).served
  else s

/-- The blocks that a profile fills, at their reset values: forwarding ends (R65). -/
def State.unloadProfile (s : State) : State :=
  let keep (a : Nat) : Bool :=
    decide (a < 0x20030000) || decide (0x200C0500 ≤ a ∧ a < 0x200E0000) || decide (0x20100000 ≤ a) ||
      a == PLC_EXCL_LO || a == PLC_EXCL_HI || a == PLC_MAX_PAUSE || decide (PLC_CNT 0 ≤ a ∧ a < PLC_CNT 6)
  { s with
    regs := s.regs.filter (fun e => keep e.1)
    mem := s.mem.filter (fun e => decide (e.1 < 0x30000000))
    sw := {}, tm := {}, csg := {}, eth := {}, can := {}, tbl := {}, kpr := {}, plc := {}
    fab := {}, wrd := { s.wrd with run := none, cold := none, switching := none } }

/-- The selected profile, or the fallback, has failed: 0x0103; then the fallback once, from row 3 of R62, else profile hold
(R65). -/
def State.profileFailed (s : State) : State :=
  let s0 := (if s.wrd.cold.isSome then s.unloadProfile else (s.startSettings s.bootProfile).foldl State.dropSetting s).imgError
    (profileBase s.bootProfile)
  let s1 := (s0.setDev .boot).raise 0x0103 5
  let f := s1.mram.fallback
  if f < 4 ∧ !s1.fldB SYS_BOOT_STATUS SYS_BOOT_STATUS_fallback_used then
    let s2 := (s1.setFld SYS_BOOT_STATUS SYS_BOOT_STATUS_fallback_used 1).setFld SYS_BOOT_STATUS SYS_BOOT_STATUS_profile f
    ((s2.setPhase 1).raise 0x0104 4).phyStart f
  else s1.setPhase 5

/-- Digest and root position of the bundle in a slot (R364, R383). -/
def State.signedBy (s : State) (p : Nat) : List Byte × Nat := (s.imgDigest (profileBase p), s.imgRoot (profileBase p))

/-- The guard is enabled where the block enables one of its slots, so that its streams start in ACQUIRING (R67, R157). DEDUCED
(assumption 116). -/
def State.guardStart (s : State) (c : ColdBlock) : State :=
  if guardsOn c.settings ∧ !s.fldB CSG_CTL CSG_CTL_en then
    s.regWrite .warden CSG_CTL (CSG_CTL_en.put (s.rd CSG_CTL) 1)
  else s

/-- The cold forwarding block has been verified and loaded (R62 rows 4 and 5, R65, R67, R80). Its load is committed at once, and the
needs follow (R45; assumption 75). -/
def State.coldLoaded (s : State) : State :=
  if s.dev.state = .boot ∧ s.phase = 1 ∧ s.bank.fatal.isNone then
    let p := s.bootProfile
    match s.coldBlock p with
    | none => (s.cekUsed (profileBase p)).profileFailed
    | some c =>
      let s0 := (c.settings.foldl State.loadSetting (s.cekUsed (profileBase p))).guardStart c
      let s1 := s0.setWrd { s0.wrd with cold := some c, signed := s.signedBy p }
      let s2 := (s1.mark 2).setFld SYS_PROFILE SYS_PROFILE_active p
      let s3 := s2.setFld FAB_STATUS FAB_STATUS_head_in (boolNat s2.pins.head)
      let s4 := if s3.bank.reduced then s3.enterReduced (s3.bundleAt p) else (s3.setPhase 2).setDev .cold
      s4.fabRefresh.linksChanged.needsDone
  else s

/-- The rest of the profile has been verified: the full tables take over from the cold forwarding block by the rules of a run-time
switch, whose T is this instant, and full operation follows (R62 row 8, R68, R446). `failed` are the cores whose self-test fails (R296).
The higher needs that the load brings hold it back as R45 says. -/
def State.fullOperation (s : State) (failed : List (Fin 64)) : State :=
  if s.dev.state = .cold ∧ s.bank.fatal.isNone ∧ s.wrd.switching.isNone then
    match s.bundleAt s.bootProfile with
    | none => (s.cekUsed (profileBase s.bootProfile)).profileFailed
    | some b =>
      let x : Switching := { slot := s.bootProfile, bundle := b, command := false, instant := 0, ports := []
                             start := some (failed, false) }
      s.beginLoad .program (s.switchLoad x false)
        (fun t => ((t.cekUsed (profileBase x.slot)).switchFrom x t.tide.toNat).switchInstant)
        (fun t => ((t.cekUsed (profileBase x.slot)).switchFrom { x with start := some (failed, true) } t.tide.toNat).switchInstant)
  else s

/-- A port that the cold forwarding block names has no link 100 ms after training started (R63). -/
def State.coldNoLink (s : State) (p : Nat) : State :=
  if s.wrd.cold.any (fun c => c.ports.testBit p) ∧ !s.linkUp p then s.raise 0x0106 3 p else s

/-! Installation while the device runs (R376, R379) -/

/-- An installed image takes effect at the next start or switch (R378, R379). -/
def State.pendStart (s : State) (target : Nat) : State :=
  s.setWrd { s.wrd with pendingStart := target :: s.wrd.pendingStart.filter (· != target) }

/-- The installation is committed: 0x1006, the result, and what follows for the target (R376–R379): a handover for the firmware; for the
running slot the switch to the new tables, or the next start. A start that is under way from the slot takes the image up as it goes on. -/
def State.installDone (s : State) : State :=
  let j := s.mram.journal
  let s1 := s.journalEnd.raise 0x1006 0
  if s1.dev.recovery then (s1.pendStart 0).answer 0
  else if j.target = 0 then (s1.setWrd { s1.wrd with handover := true }).answer 0
  else if (s1.wrd.run.isSome ∨ s1.wrd.cold.isSome) ∧ s1.activeProfile + 1 = j.target then
    if j.deferred ∨ s1.dev.state ≠ .full then (s1.pendStart j.target).answer 0
    else match s1.bundleAt (j.target - 1) with
      | some b => (s1.switchBegin { slot := j.target - 1, bundle := b, command := false, update := true, instant := 0, ports := [] }).answer 0
      | none => s1.answer 0
  else s1.answer 0

/-- Every block is in place: COPIED; a class 1 image then raises the counter (R372, R376). A target that does not read back is
copied again. -/
def State.copied (s : State) : State :=
  if s.targetOk then
    let s1 := s.journalState 4
    if s1.mram.journal.target = 0 then
      let s2 := s1.writeSub
      if s2.fusesWanted ≤ s2.otp.fuses then s2.installDone else s2
    else s1.installDone
  else s.setJournal { s.mram.journal with next := 0 }

/-- The next block of an installation is copied, read back and recorded (R376). -/
def State.installBlock (s : State) : State :=
  let j := s.mram.journal
  if s.running ∧ s.bank.fatal.isNone ∧ s.wrd.inProgress ∧ (j.state = 2 ∨ j.state = 3) then
    let s1 := (s.setJournal { j with state := 3 }).copyBlock j.next
    if blocksOf j.length ≤ j.next + 1 then s1.copied else s1
  else s

/-- A fuse burn of an installation completes and is read back (R373). -/
def State.fuseBurn (s : State) (ok : Bool) : State :=
  if s.running ∧ s.bank.fatal.isNone ∧ s.wrd.inProgress ∧ s.mram.journal.state = 4 ∧ s.mram.journal.target = 0 then
    match s.burnOnce ok with
    | (s1, true) => s1.installDone
    | (s1, false) => s1
  else s

/-- The staging half of warden SRAM takes the new warden image from MRAM; its digest is checked (R377). -/
def State.stageImage (s : State) : State × Bool :=
  match (s.imgSections vendorBase).head? with
  | some x =>
    let d := s.img vendorBase x.off x.len
    (s.mwbytes (sramBase + 0x200000 * (1 - s.wrd.half)) d, sha256 d == x.check && !s.mramLost (vendorBase + x.off) x.len)
  | none => (s, false)

/-- The staging half becomes the active one, with the new firmware (R377 row 3). -/
def State.switchHalf (s : State) : State :=
  s.setWrd { s.wrd with half := 1 - s.wrd.half, fwVersion := s.imgVersion vendorBase, fwDigest := s.imgDigest vendorBase }

def State.setPaused (s : State) (on : Bool) : State := s.setFld SYS_CMD_STATUS SYS_CMD_STATUS_paused (boolNat on)

/-- A handover, from the preparation on: it succeeds with a pause in ns, fails before the point of no return, or fails after it
(R377, R378). Command intake stops at row 1 and resumes at row 5; after the point of no return a failure is a class 7 fault. -/
def State.handover (s : State) (outcome pause : Nat) : State :=
  if s.wrd.handover ∧ s.running ∧ s.bank.fatal.isNone ∧ !s.wrd.inProgress then
    let (s0, good) := (s.setWrd { s.wrd with handover := false }).stageImage
    let late (t : State) : State := if 50000 < pause then t.raise 0x100D 3 else t
    if outcome = 1 ∨ s.wrd.stagingBad ∨ !good then (late (s0.pendStart 0)).raise 0x1008 3
    else
      let s1 := (s0.setPaused true).switchHalf
      if outcome = 2 then s1.raise Config.handoverEvent 7
      else
        let s2 := ((late s1).heartbeat true).setPaused false
        (s2.setWrd { s2.wrd with pendingStart := s2.wrd.pendingStart.filter (· != 0) }).raise 0x1007 0
  else s

/-! The rows of the table -/

def execVbatValid (s : State) : Host.Outcome State Fault Refusal := .next s.vbatValid
def execEnVlineVcoreRaise (s : State) : Host.Outcome State Fault Refusal := .next s.raiseLineVcore
def execSupPgHigh (s : State) : Host.Outcome State Fault Refusal := .next s.supPgHigh
def execSupplyStartTimeout (s : State) : Host.Outcome State Fault Refusal := .next s.supplyTimeout
def execSupplyRetry (s : State) : Host.Outcome State Fault Refusal := .next s.supplyRetry
def execSupplyLost (s : State) : Host.Outcome State Fault Refusal := .next s.supplyLost
def execResetRelease (psel : Fin 4) (head : Bool) (s : State) : Host.Outcome State Fault Refusal := .next (s.resetRelease psel.val head)
def execFirmwareVerified (burns : List Bool) (s : State) : Host.Outcome State Fault Refusal := .next (s.firmwareVerified burns)
def execColdBlockLoaded (s : State) : Host.Outcome State Fault Refusal := .next s.coldLoaded
def execFullOperation (failed : List (Fin 64)) (s : State) : Host.Outcome State Fault Refusal := .next (s.fullOperation failed)
def execColdPortNoLink (p : Fin 28) (s : State) : Host.Outcome State Fault Refusal := .next (s.coldNoLink p.val)
def execPerstNDeassert (s : State) : Host.Outcome State Fault Refusal := .next s.perstHigh
def execVbatSample (mv : Nat) (s : State) : Host.Outcome State Fault Refusal := .next (s.vbatSample mv)
def execCrankingHoldEnd (s : State) : Host.Outcome State Fault Refusal := .next s.crankingEnd
def execOvervoltageExit (s : State) : Host.Outcome State Fault Refusal := .next s.overvoltageExit
def execRideThroughExpiry (s : State) : Host.Outcome State Fault Refusal := .next s.rideExpiry
def execBrownOutRestart (s : State) : Host.Outcome State Fault Refusal := .next s.brownRestart
def execBankPowerOnReset (s : State) : Host.Outcome State Fault Refusal := .next s.bankPor
def execHeartbeatLost (s : State) : Host.Outcome State Fault Refusal := .next s.heartbeatLost
def execFatal (s : State) : Host.Outcome State Fault Refusal := .next s.fatalRequest
def execFatalResetAssert (s : State) : Host.Outcome State Fault Refusal := .next s.fatalAssert
def execVcoreHoldEnd (s : State) : Host.Outcome State Fault Refusal := .next s.vcoreHoldEnd
def execExtRstN (s : State) : Host.Outcome State Fault Refusal := .next s.extReset
def execExtRstNHigh (s : State) : Host.Outcome State Fault Refusal := .next s.extHigh
/-- The debug port has authenticated (R383); its reset sends no safe-state frames (R78). -/
def execDebugPortReset (s : State) : Host.Outcome State Fault Refusal := .next ((s.seen .debug).fatalStart 8 0 false)
def execWakeInputChange (i : Fin 8) (level : Bool) (s : State) : Host.Outcome State Fault Refusal := .next (s.wakeChange i.val level)
def execWakeFilterExpiry (i : Fin 8) (s : State) : Host.Outcome State Fault Refusal := .next (s.wakeFilter i.val)
def execWakeArm (i : Fin 8) (s : State) : Host.Outcome State Fault Refusal := .next (s.wakeArm i.val)
def execWakeStuck (i : Fin 8) (s : State) : Host.Outcome State Fault Refusal := .next (s.wakeStuck i.val)
def execCanWakePattern (n : Fin 24) (s : State) : Host.Outcome State Fault Refusal := .next (s.canPattern n.val)
def execSelectiveWakeFrame (n : Fin 24) (f : WakeFrame) (s : State) : Host.Outcome State Fault Refusal := .next (s.selectiveFrame n.val f)
/-- The transceiver, out of standby, ends the drive; the bank die reports it (R190). -/
def execTransceiverDominantTimeout (n : Fin 24) (s : State) : Host.Outcome State Fault Refusal :=
  .next (if s.inStandby n.val then s else s.raise 0x0E0B 3 n.val)
/-- A measured offset and the synchronised time; an overdue scrub pass shows at the first one of a start (R37, R420). -/
def execGptpSync (offset : Int) (time : Nat) (s : State) : Host.Outcome State Fault Refusal :=
  .next (if s.running ∧ s.slavePort.isSome then (s.gptpSync offset time).scrubOverdue (decide (s.dev.gptpTime ≠ 0)) else s)
def execInstallBlockCopy (s : State) : Host.Outcome State Fault Refusal := .next s.installBlock
def execFuseBurn (ok : Bool) (s : State) : Host.Outcome State Fault Refusal := .next (s.fuseBurn ok)
def execWardenHandover (outcome : Fin 3) (pause : Nat) (s : State) : Host.Outcome State Fault Refusal :=
  .next (s.handover outcome.val pause)

end Sys2Proof.Machine
end

