-- ==== Sys2Proof/Machine/Store.lean ====
section
/-! DEFINITION. The patrol and the outcomes of uncorrectable errors (R408–R415), the fault policy (R427), and the periodic
messages of the firmware's time-aware system (R177). -/

namespace Sys2Proof.Machine

/-! Restoring entries (R415) -/

/-- Where an entry of the table memory starts, and its length (R134, R214, R216, R224, R255). -/
def tableEntry (a : Nat) : Nat × Nat :=
  if a < 0x30400000 then (a / 16 * 16, 16)
  else if a < 0x30480000 then (a / 32 * 32, 32)
  else if 0x304B8000 ≤ a ∧ a < 0x304B9000 then (a / 16 * 16, 16)
  else if 0x304C0000 ≤ a ∧ a < 0x30500000 then (a / 16 * 16, 16)
  else (a / 8 * 8, 8)

/-- Bytes that the running profile gives within a range of the table memory. -/
def State.profileBytes (s : State) (a n : Nat) : List (Nat × List Byte) :=
  let part (b : Nat) (v : List Byte) : Option (Nat × List Byte) :=
    if b < a + n ∧ a < b + v.length then some (max a b, ((v.drop (a - b)).take (a + n - max a b))) else none
  s.runSettings.filterMap (fun x => match x with | .mem b v => part b v | _ => none) ++
    s.plc.prog.canBind.filterMap (fun b => part (0x30480000 + 4 * b.1) (leBytes 4 b.2.toNat)) ++
    s.plc.prog.notify.filterMap (fun g => part (0x304B8000 + 16 * g.1) (g.2.flatMap (fun w => leBytes 4 w.toNat)))

/-- An entry reads as absent, and the warden restores it from the running profile (R415). -/
def State.restoreEntry (s : State) (a : Nat) : State :=
  let (b, n) := tableEntry a
  let s1 := s.mwbytes b ((List.range n).map (fun i => memDefault (b + i)))
  let s2 := (s.profileBytes b n).foldl (fun t x => t.mwbytes x.1 x.2) s1
  (streamsIn b n).foldl (fun t h => t.streamTaken s h) s2

/-- A signal entry takes its initial value with qual_bad set; one that no program declares reads zero (R255, R415). -/
def State.restoreSignal (s : State) (i : Nat) : State :=
  match s.plc.prog.signals.find? (fun d => d.index == i) with
  | some d => (s.mwr (signalAddr i) 8 d.init).mwr (signalAddr i + 8) 8 ((d.type * 2 ^ 16 + d.notify * 2 ^ 24 + 2 ^ 22) * 2 ^ 32)
  | none => s.mwr (signalAddr i) 16 0

/-- A leaf that the running profile has is written again; any other entry is gone. The slots and covers that lead to leaves
hold nothing of their own and are written as they were. -/
def State.restoreLeaf (s : State) (l : Nat) : State :=
  let e := s.leaf l
  let has := s.plc.prog.trie.any (fun k => k.type == e.ty && k.len == e.len && topAgree e.len k.word e.word) ||
    s.runSettings.any (fun x => match x with
      | .trie k => k.type == e.ty && k.len == e.len && topAgree e.len k.word e.word
      | _ => false)
  if s.tbl.leaves.contains l ∧ !has then (s.trieRemove e.word e.len e.ty).1 else s

/-- Table memory (R415). -/
def State.tableLost (s : State) (a : Nat) : State :=
  if a < 0x30000000 + 16 * 250000 then s.restoreSignal ((a - 0x30000000) / 16)
  else if 0x30580000 ≤ a ∧ a < 0x30780000 then s.restoreLeaf ((a - 0x30580000) / 16)
  else if (0x30500000 ≤ a) ∨ (0x304B9000 ≤ a ∧ a < 0x304B9800) then s
  else s.restoreEntry a

/-- Share groups whose region holds a word start again: initial image, persistent block from the last save (R415). -/
def State.groupLost (s : State) (a : Nat) : State :=
  (s.plc.prog.groups.map Group.no).foldl (fun t g =>
    match t.groupRegion g with
    | some x =>
      let b := sharedBase x.cluster + x.off
      if b ≤ a ∧ a < b + x.len then t.mwbytes b (padTo x.len (t.groupInit g)) else t
    | none => t) s

/-- An entry of the event queue is lost (R415). -/
def State.eventLost (s : State) (slot : Nat) : State :=
  let s1 := s.addFld FLT_EVQ_STATUS FLT_EVQ_STATUS_ecc_lost 1
  { s1 with flt := { s1.flt with queue := s1.flt.queue.filter (fun e => e.slot != slot)
                                 stack := s1.flt.stack.filter (fun i => i.slot != slot) } }

/-- Words that the running profile gives a filter element (R193): those written through its address. -/
def State.profileFilter (s : State) (n e : Nat) : Word × Word :=
  let step (acc : Nat × Word × Word × Word) (x : Setting) : Nat × Word × Word × Word :=
    match x with
    | .reg a v =>
      if a = CAN_FLT_ADDR n then (CAN_FLT_ADDR_index.get v, acc.2)
      else if a = CAN_FLT_DATA0 n then (acc.1, v, acc.2.2)
      else if a = CAN_FLT_DATA1 n then
        ((acc.1 + 1) % 512, acc.2.1, if acc.1 = e then (acc.2.1, v &&& 0xDFFFFFFF#32) else acc.2.2)
      else acc
    | _ => acc
  (s.runSettings.foldl step (0, 0, 0, 0)).2.2

/-- CAN memories, tide tables and other small SRAM: zero until the profile restores the word; what has no profile copy is
discarded and counted as lost (R415). -/
def State.smallLost (s : State) (u : PatrolUnit) : State :=
  match u with
  | .filter n e =>
    let c := s.chan n
    let w := s.profileFilter n e
    s.setChan n { c with flt := tset 0 (tset 0 c.flt (2 * e) w.1) (2 * e + 1) w.2 }
  | .received n no =>
    match (s.chan n).rxq0.find? (fun x => x.no == no) with
    | some _ => (s.canFree n no).rxLost n 0
    | none => if (s.chan n).rxq1.any (fun x => x.no == no) then (s.canFree n no).rxLost n 1 else s
  | .backlog n pos =>
    let c := s.chan n
    if pos < c.backlog.length then (s.setChan n { c with backlog := c.backlog.eraseIdx pos }).backlogDrop n else s
  | .buffer n b => if (s.chan n).loaded b.val then (s.setBuf n b.val []).backlogDrop n else s
  | .staged p pos =>
    match (s.stagedAt p)[pos]? with
    | some f => ({ s with sw := { s.sw with staged := tset [] s.sw.staged p ((s.stagedAt p).eraseIdx pos) } }.swCount p 3).undelivered f p
    | none => s
  | .event pos =>
    match s.kpr.pend[pos]? with
    | some e => (s.setKpr { s.kpr with pend := s.kpr.pend.eraseIdx pos }).discardEvent e.routine e.frameLike e.canEntry
    | none => s
  | .tide p l i =>
    let v := s.runSettings.foldl (fun (w : Word) x => match x with | .tide q m j y => if q = p ∧ m = l ∧ j = i then y else w | _ => w) 0
    s.loadSetting (.tide p l i v)
  | .none | .frame _ | .entry _ => s

/-- Class of event 0x0F03 by memory (R415); `half` is the active half of warden SRAM. -/
def uncorrectableClass (mem half : Nat) : Nat :=
  if mem < 72 then 3 else if mem < 76 then 4 else if mem = 76 + half then 7 else if mem < 78 then 3
  else if mem = 78 then 4 else if mem < 83 then 3 else 4

/-- What follows an uncorrectable error (R415). -/
def State.uncorrectable (s : State) (mem a : Nat) (u : PatrolUnit) : State :=
  let s1 := (s.eccUncorrectable mem a).raise 0x0F03 (uncorrectableClass mem s.wrd.half) mem a
  if mem < 8 then (match u with | .frame id => (s1.failFrame id none).spillAll | _ => s1)
  else if mem < 72 then
    let c := mem - 8
    s1.exclude c (if dataBase c ≤ a ∧ a < dataBase c + 0x10000 then some (a - dataBase c) else none)
  else if mem < 76 then s1.groupLost a
  else if mem < 78 then (if mem = 76 + s.wrd.half then s1 else s1.setWrd { s1.wrd with stagingBad := true })
  else if mem = 78 then s1.tableLost a
  else if mem = 79 then (match u with | .entry k => s1.eventLost k | _ => s1)
  else s1.smallLost u

/-- A word of a memory, in `mended`: its address in units of 64 bits, with the value that it holds where the patrol mends it. -/
def State.setMended (s : State) (mem word : Nat) (on : Bool) : State :=
  let e := s.eccOf mem
  s.setEcc mem { e with mended := if on then tput e.mended word (s.mrd (8 * word) 8) else tdel e.mended word }

/-- The patrol corrected the word on its previous pass, and the word has not been written since: it holds what it held, and no write of
the same value came (`written`). -/
def State.mendedStill (s : State) (mem word : Nat) (written : Bool) : Bool :=
  !written && (s.eccOf mem).mended.any (fun e => e.1 == word && e.2 == s.mrd (8 * word) 8)

/-- A word of a memory, in `lost`. -/
def State.setLost (s : State) (mem word : Nat) (on : Bool) : State :=
  let e := s.eccOf mem
  s.setEcc mem { e with lost := e.lost.filter (· != word) ++ (if on then [word] else []) }

/-- The patrol reads a word: good, one bit in error, or uncorrectable. A word corrected on the previous pass and not written in
between is a hard error (R413, R414). -/
def State.patrol (s : State) (mem a : Nat) (result : Nat) (written : Bool) (u : PatrolUnit) : State :=
  if s.running ∧ s.fldB FLT_ECC_CFG FLT_ECC_CFG_patrol_en then
    let word := a / 8
    if result = 0 then s.setMended mem word false
    else if result = 1 then
      let hard := s.mendedStill mem word written
      let s1 := (s.eccCorrected mem a hard).setMended mem word true
      if hard then s1.raise 0x0F02 2 mem a else s1
    else
      let s1 := (s.setMended mem word false).uncorrectable mem a u
      if (8 ≤ mem ∧ mem < 72) ∨ mem = 76 ∨ mem = 77 then s1.setLost mem word true else s1
  else s

/-! Writes of memory (R27, R411, R473) -/

/-- The memory that holds a location outside MRAM (R408). -/
def memoryAt (a : Nat) : Option Nat :=
  if 0x01000000 ≤ a ∧ a < 0x01400000 then some (76 + (a - 0x01000000) / 0x200000)
  else if 0x50000000 ≤ a ∧ a < 0x50800000 then some (8 + (a - 0x50000000) / 0x20000)
  else if 0x50800000 ≤ a ∧ a < 0x50900000 then some (72 + (a - 0x50800000) / 0x40000)
  else none

/-- A write of less than 64 bits reads its word first; where that read is uncorrectable, the write is refused with an error
response and the word stays as it is (R411). A write of the whole word mends it. `part` says that the word is read first. The
controller of the MRAM checks a write of its own words (R415, R417). -/
def State.checkedWrite (s : State) (m : Master) (addr n : Nat) (part : Bool) (go : State → State) : State :=
  let a := addrBase addr
  match memoryAt a with
  | some mem =>
    if s.running ∧ accessOk m true addr n ∧ (s.eccOf mem).lost.contains (a / 8) then
      if part then (s.out (.busError m addr)).uncorrectable mem a .none else go (s.setLost mem (a / 8) false)
    else go s
  | none =>
    if s.running ∧ isMram a ∧ accessOk m true addr n ∧ part ∧ s.mramLost (a - mramBase) n then
      (s.out (.busError m addr)).mramError (a - mramBase)
    else go s

/-! The fault policy (R427) -/

/-- Action of the profile's policy for a code, with the profile of action 5; the default of its class where it has no entry. -/
def State.policyOf (s : State) (e : EvEntry) : Nat × Nat :=
  match ((s.profileNow.map (fun b => b.set.policy)).getD []).find? (fun p => p.code == e.code) with
  | some p => if p.action = 0 then (if e.cls = 3 then 1 else 2, 0) else (p.action, p.profile)
  | none => (if e.cls = 3 then 1 else 2, 0)

/-- Shed the lowest class below 3 that still has routines placed (R278, R427). -/
def State.shedClass (s : State) : State :=
  let placed := (s.plc.prog.fixedRoutines.filter (fun r => (s.coreOf r).isSome)).reverse
  match (List.range 3).find? (fun c => placed.any (fun r => (s.routine r).shedClass == c)) with
  | some c => ((placed.filter (fun r => (s.routine r).shedClass == c)).foldl State.shedRoutine s).plcRefresh
  | none => s

/-- Events whose instance is an external port: those of the Ethernet ports and of the traffic manager, and those of the switch core
and of the fabric that record a port or a link (R110, R131, R180, R337). -/
def portEvent (code : Nat) : Bool :=
  code / 256 == 8 || code / 256 == 5 || [0x0404, 0x0405, 0x0406, 0x0408, 0x0409, 0x0A01, 0x0A02, 0x0A03].contains code

/-- The port or channel that the instance names goes off and starts again. -/
def State.restartUnit (s : State) (code n : Nat) : State :=
  if portEvent code ∧ n < 28 then (s.dropLink n).training n (s.fldB (ETH_PHY_CFG n) ETH_PHY_CFG_en)
  else if code / 256 = 9 ∧ n < 24 then (s.canOff n).canRequest n (s.canMode n)
  else s

/-- Action 5: it waits until any command in progress has completed (R447). -/
def State.policySwitch (s : State) (slot p : Nat) : State :=
  if s.wrd.inProgress ∨ s.wrd.switching.isSome ∨ s.updating then s
  else if s.wrd.run.isSome ∧ s.activeProfile = p then s.faultDone
  else match s.switchCheck p with
    | .error (r, vals) => (s.switchFailed p r vals).faultDone
    | .ok b =>
      s.switchPrepare { slot := p, bundle := b, command := false, fault := some slot, instant := 0, ports := [] } id State.faultDone

/-- The warden performs the action for the fault being handled, and writes done when it has completed (R427). -/
def State.policyAction (s : State) : State :=
  if !s.serving then s
  else match s.topFault with
    | none => s
    | some e =>
      let (act, p) := s.policyOf e
      if act = 1 then (s.logEvent e).faultDone
      else if act = 2 then ((s.logEvent e).irq 0).faultDone
      else if act = 3 then s.shedClass.faultDone
      else if act = 4 then (s.restartUnit e.code e.inst).faultDone
      else if act = 5 then s.policySwitch e.slot p
      else if act = 6 then s.resetCommand
      else s.requestFatal e.code

/-! gPTP messages (R177) -/

/-- One message of the firmware to each of the ports with a link. -/
def State.gptpTo (s : State) (ports : List Nat) : State :=
  (ports.filter s.linkUp).foldl (fun t p =>
    let (k, t1) := t.freeIx
    t1.gptpSend p (Config.gptpBytes k) (Config.gptpTag k).toNat) s

def State.timeAware (s : State) : Bool := s.serving && s.profileNow.isSome

/-- Sync on the ports in the master role. -/
def State.syncSend (s : State) : State :=
  if s.timeAware then s.gptpTo (bitsOf 28 ((s.profileNow.map (fun b => b.set.master)).getD 0)) else s

/-- Peer delay on each port without a fixed value. -/
def State.peerDelay (s : State) : State :=
  if s.timeAware then
    s.gptpTo ((List.range 28).filter (fun p => !((s.profileNow.map (fun b => b.set.fixedDelay)).getD []).any (fun e => e.1 == p)))
  else s

/-! The rows of the table -/

/-- R473: a write of memory changes only the bytes that it selects; its size and alignment are checked. -/
def execMemoryWrite (m : Master) (addr : BitVec 40) (bs : List (Option Byte)) (s : State) : Host.Outcome State Fault Refusal :=
  .next (if bs.all Option.isSome then s.checkedWrite m addr.toNat bs.length (decide (bs.length < 8)) (fun t => t.memWrite m addr.toNat bs)
    else s.memWrite m addr.toNat bs)

/-- R27: a write through the set alias, or the clear alias, of a location. It always reads its word first. -/
def execAliasWrite (m : Master) (clear : Bool) (addr : BitVec 38) (wide : Bool) (v : DWord) (s : State) :
    Host.Outcome State Fault Refusal :=
  let a := (if clear then 2 else 1) * 2 ^ 38 + addr.toNat
  let n := if wide then 8 else 4
  .next (s.checkedWrite m a n true (fun t => t.busWrite m a n v.toNat))

def execPatrolRead (mem : Fin 83) (a : Nat) (result : Fin 3) (written : Bool) (u : PatrolUnit) (s : State) :
    Host.Outcome State Fault Refusal := .next (s.patrol mem.val a result.val written u)
def execFaultPolicyAction (s : State) : Host.Outcome State Fault Refusal := .next s.policyAction
def execSyncInterval (s : State) : Host.Outcome State Fault Refusal := .next s.syncSend
def execPeerDelayMeasurement (s : State) : Host.Outcome State Fault Refusal := .next s.peerDelay

end Sys2Proof.Machine
end

