-- ==== Sys2Proof/Machine/Commands.lean ====
section
/-! DEFINITION. The commands of the warden (R436–R453, R69, R137–R140, R221–R227, R274, R290, R361, R374–R384, R419). A command
acts when it stands at the front, the warden serves it, and no other is in progress. -/

namespace Sys2Proof.Machine

/-- The warden takes a command of this code now. -/
def State.taken (s : State) (code : Nat) : Bool :=
  match s.wrd.arrivals with
  | [] => false
  | a :: _ => s.serving && !s.wrd.inProgress && s.cmdCode == code && (s.intake a).isNone

/-- A command that is taken acts; any other event of its row changes nothing. -/
def State.onCommand (s : State) (code : Nat) (f : State → State) : State := if s.taken code then f s else s

/-- The command at the front arrived during an update, or one runs (R374). -/
def State.updateBusy (s : State) : Bool := s.updating || (s.wrd.arrivals.head?.any Arrival.late)

def badArg : Nat := 3
def refused : Nat := 5
def tableFull : Nat := 6
def notFound : Nat := 9

/-- Argument k as the table of R445 numbers it. -/
def State.arg (s : State) (k : Nat) : Nat := s.entryWord k

def State.arg64 (s : State) (k : Nat) : Nat := s.arg k + s.arg (k + 1) * 2 ^ 32

/-! Identity, Reset and Sleep -/

def State.readIdentity (s : State) : State :=
  s.answer 0 [ownId % 2 ^ 32, ownId / 2 ^ 32 % 2 ^ 32] (s.mram.certificate.take 4096)

/-- OK is posted, the persistent blocks are saved, and step 1 of R77 begins (R443). -/
def State.resetTaken (s : State) : State := (s.post 0).resetCommand

/-- Ports that the profile marks for the TC10 handshake and whose link is up (R69). -/
def State.sleepPorts (s : State) : List Nat :=
  (bitsOf 28 ((s.profileNow.map (fun b => b.set.tc10)).getD 0)).filter (fun p => s.tc10On p && s.tc10State p != 2 && s.linkUp p)

/-- The bank die declines a sleep request now (R392). -/
def State.sleepDeclined (s : State) : Bool :=
  s.fldB BNK_WAKE_STATUS BNK_WAKE_STATUS_edge || s.fldB BNK_CANW_STATUS BNK_CANW_STATUS_flag

/-- Sleep (R69, R380, R443): the handshakes, the saved blocks, the request over the dike link. -/
def State.sleepTaken (s : State) : State :=
  if s.copying ∨ s.wrd.arrivals.head?.any Arrival.late then s.answer 1
  else if s.bank.open_.isSome then s
  else
    let s1 := s.setJournal {}
    let s2 := s1.sleepPorts.foldl (fun t p => (t.out (.tc10 p 0)).tc10Sleep p) s1
    let s3 := s2.saveBlocks
    if s3.sleepDeclined then (s3.regWrite .warden BNK_CTL 2).answer 8
    else (s3.post 0).regWrite .warden BNK_CTL 2

/-! Profiles and polders -/

/-- Switch profile (R447, R448): it waits for an update and for a switch that is under way. -/
def State.switchTaken (s : State) : State :=
  let p := s.arg 2 % 4
  if s.updating ∨ s.phase < 2 ∨ s.wrd.switching.isSome then s
  else if (s.wrd.run.isSome ∨ s.wrd.cold.isSome) ∧ s.activeProfile = p then s.answer 0
  else match s.switchCheck p with
    | .error (r, vals) => (s.switchFailed p r vals).answer r vals
    | .ok b =>
      s.switchPrepare { slot := p, bundle := b, command := true, instant := 0, ports := [] }
        (fun t => t.setWrd { t.wrd with inProgress := true }) (fun t => t.answer 7)

/-- The fallback is stored in the boot record (R65). -/
def State.startOptions (s : State) : State :=
  let f := s.arg 2 % 8
  if 4 < f then s.answer badArg else (s.setMram { s.mram with fallback := f }).answer 0

/-- The polders that a mask names. -/
def polderList (m : Nat) : List Nat := bitsOf 12 m

/-- A Set polders command that R453 refuses. -/
def State.poldersRefused (s : State) (on off : Nat) : Bool :=
  let settable (n : Nat) : Bool := n == 2 || n == 3 || n == 8
  let permit := s.fld SYS_POLDER SYS_POLDER_permit_off
  (polderList on).any (fun n => !settable n || off.testBit n) ||
    (polderList off).any (fun n => !settable n || !permit.testBit n || !s.mayOff n)

def State.isPolderOn (s : State) (n : Nat) : Bool := (s.fld SYS_POLDER SYS_POLDER_on).testBit n

/-- Set polders (R452, R453). -/
def State.setPolders (s : State) : State :=
  let on := s.arg 2 % 4096
  let off := s.arg 3 % 4096
  if s.poldersRefused on off then (s.raise 0x0107 2).answer refused [0x0107]
  else
    let s1 := ((polderList off).filter s.isPolderOn).foldl State.polderOff s
    (((polderList on).filter (fun n => !s1.isPolderOn n)).foldl State.polderOn s1).answer 0

/-! Streams (R135, R137, R138, R140) -/

/-- The trie word of a stream key (R133, R215). -/
def streamWordOf (kt key : Nat) : Nat := if kt = 1 then key else kt * 2 ^ 60 + key % 2 ^ 60

/-- Member entries in the stream table, and the recovery contexts that they use. -/
def State.members (s : State) : List Nat :=
  s.streamHandles.filter (fun h => (s.stream h).role == 2)

/-- Member entries or recovery contexts would exceed their limits (R140). -/
def State.frerFull (s : State) (ctx : Nat) : Bool :=
  let m := s.members
  let c := (m.map (fun h => (s.stream h).ctx)).dedup
  decide (1024 ≤ m.length) || (!c.contains ctx && decide (512 ≤ c.length))

/-- The member group that a key already leads to: its first handle and its members. -/
def State.memberGroup (s : State) (word kt : Nat) : List Nat :=
  match s.trieExact word 64 kt with
  | some l =>
    let r := (s.leaf l).result
    if bit 31 r then [] else s.membersFrom (r % 2 ^ 14)
  | none => []

def State.freeHandle (s : State) : Option Nat := findFrom (fun h => !(s.stream h).valid) 16384 0

/-- No free handle: the key is refused, one that leads to a compound stream's members included (R137). -/
def State.admitRefused (s : State) (word kt : Nat) : State :=
  let s1 := if kt = 0 then s
    else (s.trieInsert { word := word, result := 2 ^ 31, len := 64, valid := true, ty := kt }).1
  (((s1.bump CSG_REFUSED).setFld CSG_STATUS CSG_STATUS_table_full 1).raise 0x0701 2).answer tableFull

/-- The stream stands at a handle: key in the trie, entry in the table. -/
def State.admitAt (s : State) (h word kt : Nat) (bs : List Byte) (keyed : Bool) : State :=
  if kt = 0 ∨ !keyed then (s.putStream h bs).answer 0 [h]
  else match s.trieInsert { word := word, result := h, len := 64, valid := true, ty := kt } with
    | (s1, true) => (s1.putStream h bs).answer 0 [h]
    | (s1, false) => s1.answer tableFull

/-- Admit stream with an entry in range: its place in the table, if there is one. A further member of a compound stream takes
the handle after its group. -/
def State.admitEntry (s : State) (bs : List Byte) (word kt role : Nat) : State :=
  if role = 2 ∧ s.frerFull (leNat (slice 8 4 bs) % 512) then
    ((s.setFld CSG_STATUS CSG_STATUS_frer_full 1).raise 0x0702 2).answer refused [0x0702]
  else
    match (if role = 2 then s.memberGroup word kt else []) with
    | [] => (match s.freeHandle with
      | some h => s.admitAt h word kt bs true
      | none => s.admitRefused word kt)
    | g :: gs =>
      let h := g + gs.length + 1
      if 4 ≤ gs.length + 1 then s.answer badArg
      else if 16384 ≤ h ∨ (s.stream h).valid then s.admitRefused word kt else s.admitAt h word kt bs false

/-- Admit stream. The load that it adds waits for the needs that the warden has raised for it, and is refused with them: an
infeasible placement, without a routine to name (R45, R291; assumption 98). -/
def State.admitStream (s : State) : State :=
  let bs := s.cmdData
  let w0 := leNat (slice 0 4 bs)
  let kt := bits 2 1 w0
  let role := bits 10 9 w0
  if s.cmdLen ≠ 32 ∨ !bit 0 w0 ∨ role = 3 ∨ (role = 2 ∧ kt = 0) then s.answer badArg
  else s.commitLoad .stream (fun t => t.admitEntry bs (streamWordOf kt (leNat (slice 16 8 bs))) kt role)
    (fun t => (t.infeasible noInst).answer 7)

/-- Remove stream: a refused key leaves the trie, a stream leaves with its entries (R138). -/
def State.removeStream (s : State) : State :=
  let kt := s.arg 4 % 4
  let word := streamWordOf kt (s.arg64 2)
  if kt = 0 then s.answer badArg
  else match s.trieExact word 64 kt with
    | none => s.answer notFound
    | some l =>
      let r := (s.leaf l).result
      let s1 := (s.trieRemove word 64 kt).1
      if bit 31 r then s1.answer 0
      else
        let h := r % 2 ^ 14
        let hs := if (s.stream h).role = 2 then s.membersFrom h else [h]
        (hs.foldl (fun t k => t.memPut (streamAddr k) (List.replicate 32 0)) s1).answer 0

/-! The trie and the MAC table (R215, R221–R227, R445) -/

/-- Word, length and type of a trie command; none where they are out of range (R215). -/
def State.trieArgs (s : State) : Option (Nat × Nat × Nat) :=
  let w := s.arg64 2
  let len := bits 6 0 (s.arg 4)
  let ty := bits 10 8 (s.arg 4)
  let lo := if ty ≤ 3 then 64 else 4
  let hi := if ty = 5 then 36 else 64
  if 1 ≤ ty ∧ ty ≤ 6 ∧ lo ≤ len ∧ len ≤ hi ∧ (ty = 1 ∨ w / 2 ^ 60 = ty) then some (w, len, ty) else none

def State.addTrie (s : State) : State :=
  match s.trieArgs with
  | none => s.answer badArg
  | some (w, len, ty) =>
    match s.trieInsert { word := w, result := s.arg 5, len := len, valid := true, ty := ty } with
    | (s1, true) => s1.answer 0
    | (s1, false) => s1.answer tableFull

def State.removeTrie (s : State) : State :=
  match s.trieArgs with
  | none => s.answer badArg
  | some (w, len, ty) =>
    match s.trieRemove w len ty with
    | (s1, true) => s1.answer 0
    | (s1, false) => s1.answer notFound

/-- Add MAC entry: an entry of the same address and VID is replaced (R445). -/
def State.addMac (s : State) : State :=
  let bs := s.cmdData
  let w1 := leNat (slice 4 4 bs)
  let m : MacEntry := { mac := leNat (slice 0 4 bs) + bits 15 0 w1 * 2 ^ 32, vid := bits 27 16 w1, kind := 3, hit := false
                        seenClear := false, dest := leNat (slice 8 4 bs), stamp := 0 }
  if s.cmdLen ≠ 16 ∨ bits 29 28 w1 ≠ 3 then s.answer badArg
  else match s.macFind m.mac m.vid with
    | some e => (s.setMac e m).answer 0
    | none => match s.macInsert noInst m with
      | (s1, true) => s1.answer 0
      | (s1, false) => (s1.raise 0x0608 2).answer refused [0x0608]

def State.removeMac (s : State) : State :=
  match s.macFind (s.arg 2 + bits 15 0 (s.arg 3) * 2 ^ 32) (bits 27 16 (s.arg 3)) with
  | some e => (s.clearMac e).answer 0
  | none => s.answer notFound

def State.flushMac (s : State) : State :=
  let gone := s.macUsed.filter (fun e =>
    let m := s.macEntry e
    Nat.land m.dest (s.arg 2) != 0 && (!bit 0 (s.arg 3) || m.kind == 1))
  (gone.foldl State.clearMac s).answer 0 [gone.length]

/-! Keepers -/

def State.resumeRoutine (s : State) : State := (s.resume (s.arg 2 % 1024)).answer 0

/-- Routines that a map shows as shed. -/
def State.shedNow (s : State) : List Nat :=
  (List.range s.plc.prog.routines.length).filter (fun r => s.fldB (PLC_MAP r) PLC_MAP_shed)

/-- Set keeper polders: the new permissions and the map that they lead to. -/
def State.poldersCommit (s : State) (refused : Bool) : State :=
  let s1 := (s.wr PLC_KPOLDER (BitVec.ofNat 32 (s.arg 2 % 4))).commitDerived (fun _ => false) refused
  s1.answer 0 [(s1.shedNow.filter (fun r => !s.shedNow.contains r)).length]

/-- Set keeper polders: the derived map, once the placer has nothing else to do, with the needs that it brings; where these are refused,
it sheds (R45, R290, R291). -/
def State.keeperPolders (s : State) : State :=
  if s.plc.batch ≠ [] ∨ s.plc.trigger ≠ [] ∨ s.wrd.switching.isSome then s
  else if s.dev.state = .full then s.commitLoad .placement (fun t => t.poldersCommit false) (fun t => t.poldersCommit true)
  else (s.wr PLC_KPOLDER (BitVec.ofNat 32 (s.arg 2 % 4))).answer 0

/-! Images (R374–R380) -/

/-- The inlet is discarded. -/
def State.discardInlet (s : State) : State := s.setJournal {}

/-- Write image chunk: chunks stand at ascending offsets, without gap or overlap (R374). -/
def State.imageChunk (s : State) : State :=
  let off := s.arg 2
  let n := s.cmdLen
  if s.updateBusy then s.answer 1
  else if regionSize < off + n then s.answer badArg
  else if off ≠ (if s.mram.journal.state = 1 then s.mram.journal.length else 0) then s.discardInlet.answer badArg
  else ((s.mramPut (inletBase + off) s.cmdData).setJournal { state := 1, length := off + n }).answer 0

/-- The image is turned away: 0x1002 or, for R371, 0x1003 in its place, with its reason (R366, R371, R385). -/
def State.imageRejected (s : State) (reason : Nat) : State :=
  let code := (Config.reasonCode reason).toNat
  let s1 := s.discardInlet.setFld SYS_UPD_STATUS SYS_UPD_STATUS_reason code
  if reason = 8 then (s1.raise 0x1003 3 noInst code).answer 11
  else (s1.raise 0x1002 3 noInst code).answer 10 [code]

/-- The checked image gets its storage form and its digest: VERIFIED (R376 step 2). -/
def State.imageVerified (s : State) (target : Nat) (deferred : Bool) : State :=
  let s1 := if target = 0 then s else s.storeForm
  let n := s1.imgLen inletBase
  let j : Journal := { state := 2, target := target, length := n, digest := sha256 (s1.img inletBase 0 n), next := 0
                       rb := s1.imgRollback inletBase, deferred := deferred }
  (s1.setJournal j).setWrd { s1.wrd with inProgress := true }

/-- A bundle for the running slot, hitless. -/
def State.hitless (s : State) (target : Nat) (deferred : Bool) : Bool :=
  target != 0 && !deferred && s.dev.state == .full && s.activeProfile + 1 == target

/-- The bundle of the inlet. -/
def State.inletBundle (s : State) : Option Bundle :=
  (s.sectionsOf inletBase).bind (fun l => bundleOf l (s.imgDigest inletBase))

/-- The inlet's bundle cannot be placed (R279, R291, R366): its base map, or, hitless, the simulated migration (R379), which raises
0x100A in place of 0x1002. -/
def State.unplaceable (s : State) (hit : Bool) (r : Nat) : State :=
  let s1 := s.discardInlet.infeasible r
  (if hit then s1.raise 0x100A 3 r
    else (s1.setFld SYS_UPD_STATUS SYS_UPD_STATUS_reason (Config.reasonCode 7).toNat).raise 0x1002 3 noInst (Config.reasonCode 7).toNat).answer
      7 [r]

/-- An image that has passed its checks is placed, and, hitless, waits for the needs that it brings (R45, R379). -/
def State.imagePlaced (s : State) (target : Nat) (deferred : Bool) : State :=
  match (if target = 0 then none else s.inletBundle) with
  | none => s.imageVerified target deferred
  | some b =>
    let hit := s.hitless target deferred
    match (if hit then s.programPlan b.program true else b.program.freshPlan) with
    | .error r => s.unplaceable hit r
    | .ok _ =>
      if hit then
        s.beginLoad .program (s.switchLoad { slot := target - 1, bundle := b, command := false, update := true, instant := 0, ports := [] } false)
          (fun t => t.imageVerified target deferred) (fun t => t.unplaceable true noInst)
      else s.imageVerified target deferred

/-- Install image (R366, R369, R371, R376, R379). It waits for a switch that is under way; the content key is used and erased,
whatever comes of it (R365). -/
def State.install (s : State) (target : Nat) (deferred : Bool) : State :=
  if s.updateBusy then s.answer 1
  else if 4 < target then s.answer badArg
  else if s.wrd.switching.isSome then s
  else
    let j := s.mram.journal
    let whole := j.state = 1 ∧ s.imgLen inletBase ≤ j.length
    if !whole ∨ (s.dev.recovery ∧ target ≠ 0) then s.imageRejected 1
    else match s.rejection target with
      | 0 => (s.cekUsed inletBase).imagePlaced target deferred
      | k => (s.cekUsed inletBase).imageRejected k

def State.installImage (s : State) : State := s.install (s.arg 2 % 8) (bit 3 (s.arg 2))

/-- Load bundle: the running slot is the target, and the option is hitless; without a running profile there is no target. -/
def State.loadBundle (s : State) : State :=
  if s.wrd.run.isSome ∨ s.wrd.cold.isSome then s.install (s.activeProfile + 1) false else s.answer badArg

/-! Roots and attestation (R361, R382–R384) -/

def State.programRoot (s : State) : State :=
  let k := s.arg 2 % 4
  if s.cmdLen ≠ 32 then s.answer badArg
  else if tget [] s.otp.roots k ≠ [] then s.answer refused
  else (s.setOtp { s.otp with roots := tset [] s.otp.roots k s.cmdData }).answer 0

/-- A stored profile is signed under a customer position. -/
def State.rootInUse (s : State) (k : Nat) : Bool :=
  (List.range 4).any (fun p => s.slotHolds p && s.imgRoot (profileBase p) == k)

def State.revokeRoot (s : State) : State :=
  let k := s.arg 2 % 4
  if s.rootInUse k then s.answer refused
  else (s.setOtp { s.otp with revoked := withBit s.otp.revoked k true }).answer 0

/-- The 288 bytes that a report signs (R383). -/
def State.reportBody (s : State) (nonce : List Byte) : List Byte :=
  let hold := s.wrd.run.isNone && s.wrd.cold.isNone
  let p := s.activeProfile
  let zeros (n : Nat) : List Byte := List.replicate n 0
  let flags := boolNat s.wrd.debug + boolNat s.updating * 2 + boolNat (s.wrd.pendingStart != []) * 4 +
    boolNat (s.dev.state == .reduced) * 8 + s.fld SYS_ROLLBACK SYS_ROLLBACK_sub_lost * 16
  let fab := s.fabAddr + boolNat s.isHead * 32 + s.fld FAB_STATUS FAB_STATUS_epoch * 64
  leBytes 4 0x4A51A77E ++ [1] ++ zeros 3 ++ leBytes 8 ownId ++ padTo 32 nonce ++ leBytes 8 s.tide.toNat ++
    leBytes 4 s.wrd.fwVersion ++ leBytes 4 s.rollback ++ padTo 32 s.wrd.fwDigest ++
    (if hold then zeros 32 else padTo 32 s.wrd.signed.1) ++
    leBytes 1 (if hold then 0xFF else p) ++ leBytes 1 s.phase ++ leBytes 1 (s.fld SYS_RESET_CAUSE SYS_RESET_CAUSE_cause) ++
    leBytes 1 flags ++ leBytes 4 s.digestBase ++ leBytes 4 s.digestCur ++ leBytes 4 fab ++
    (if hold then zeros 32 else padTo 32 (tget [] s.otp.roots s.wrd.signed.2)) ++
    (List.range 4).flatMap (fun k => if s.slotHolds k then (s.imgDigest (profileBase k)).take 8 else zeros 8) ++ zeros 80

/-- Attest: the report with its signature, and 0x100C (R383, R384). -/
def State.attest (s : State) : State :=
  if s.cmdLen ≠ 32 then s.answer badArg
  else
    let body := s.reportBody s.cmdData
    let (s1, sig) := (s.attestSign (sha256 body)).getD (s, Config.noSignature)
    (s1.raise 0x100C 0).answer 0 [] (body ++ padTo 384 sig)

def State.scrubCommand (s : State) : State := s.scrubBegin.answer 0

/-- Set remote access (R323). -/
def State.remoteAccess (s : State) : State :=
  (((s.wr FAB_RA_ALLOW (BitVec.ofNat 32 (s.arg 2))).wr FAB_RA_ALLOW_W (BitVec.ofNat 32 (s.arg 3))).wr FAB_CMD_ALLOW
    (BitVec.ofNat 32 (s.arg 4))).answer 0

/-! The rows of the table -/

def execNopCommand (s : State) : Host.Outcome State Fault Refusal := .next (s.onCommand 0x0001 (fun t => t.answer 0))
def execReadIdentity (s : State) : Host.Outcome State Fault Refusal := .next (s.onCommand 0x0002 State.readIdentity)
def execReset (s : State) : Host.Outcome State Fault Refusal := .next (s.onCommand 0x0003 State.resetTaken)
def execSleep (s : State) : Host.Outcome State Fault Refusal := .next (s.onCommand 0x0004 State.sleepTaken)
def execSwitchProfile (s : State) : Host.Outcome State Fault Refusal := .next (s.onCommand 0x0101 State.switchTaken)
def execSetStartOptions (s : State) : Host.Outcome State Fault Refusal := .next (s.onCommand 0x0102 State.startOptions)
def execSetPolders (s : State) : Host.Outcome State Fault Refusal := .next (s.onCommand 0x0103 State.setPolders)
def execAdmitStream (s : State) : Host.Outcome State Fault Refusal := .next (s.onCommand 0x0201 State.admitStream)
def execRemoveStream (s : State) : Host.Outcome State Fault Refusal := .next (s.onCommand 0x0202 State.removeStream)
def execAddTrieEntry (s : State) : Host.Outcome State Fault Refusal := .next (s.onCommand 0x0203 State.addTrie)
def execRemoveTrieEntry (s : State) : Host.Outcome State Fault Refusal := .next (s.onCommand 0x0204 State.removeTrie)
def execAddMacEntry (s : State) : Host.Outcome State Fault Refusal := .next (s.onCommand 0x0205 State.addMac)
def execRemoveMacEntry (s : State) : Host.Outcome State Fault Refusal := .next (s.onCommand 0x0206 State.removeMac)
def execFlushMacTable (s : State) : Host.Outcome State Fault Refusal := .next (s.onCommand 0x0207 State.flushMac)
def execResumeRoutine (s : State) : Host.Outcome State Fault Refusal := .next (s.onCommand 0x0301 State.resumeRoutine)
def execSetKeeperPolders (s : State) : Host.Outcome State Fault Refusal := .next (s.onCommand 0x0302 State.keeperPolders)
def execWriteImageChunk (s : State) : Host.Outcome State Fault Refusal := .next (s.onCommand 0x0401 State.imageChunk)
def execInstallImage (s : State) : Host.Outcome State Fault Refusal := .next (s.onCommand 0x0402 State.installImage)
def execLoadBundle (s : State) : Host.Outcome State Fault Refusal := .next (s.onCommand 0x0403 State.loadBundle)
def execProgramCustomerRoot (s : State) : Host.Outcome State Fault Refusal := .next (s.onCommand 0x0404 State.programRoot)
def execRevokeCustomerRoot (s : State) : Host.Outcome State Fault Refusal := .next (s.onCommand 0x0405 State.revokeRoot)
def execAttest (s : State) : Host.Outcome State Fault Refusal := .next (s.onCommand 0x0406 State.attest)
def execScrubMram (s : State) : Host.Outcome State Fault Refusal := .next (s.onCommand 0x0407 State.scrubCommand)
def execSetRemoteAccess (s : State) : Host.Outcome State Fault Refusal := .next (s.onCommand 0x0501 State.remoteAccess)

end Sys2Proof.Machine
end

