-- ==== Sys2Proof/Machine/Bridge.lean ====
section
/-! DEFINITION. The remote access bridge: messages, posted writes, reads, and the host's apertures (R299, R322–R331, R335). -/

namespace Sys2Proof.Machine

/-! Messages (R299, R322) -/

/-- A received MSG goes to sp28; one for a mobile routine that another device hosts is forwarded once, by whichever device holds
it (R299). One that has been forwarded and finds no host here is discarded. -/
def State.msgTake (s : State) (forwarded : Bool) : State :=
  match s.mine31 7 with
  | some (f, h, t) =>
    let r := h.tag % 1024
    match t.hostElsewhere r with
    | some host =>
      if forwarded then (t.bump (PLC_CNT 4)).raiseOnce 0x0D0B 1 r
      else if h.hop = 0 then (t.fabCount 4).raiseLim 0x0A14 2
      else t.fabSend { h with dst := host, hop := h.hop - 1 } f.data
    | none =>
      if forwarded ∧ (t.coreOf r).isNone then (t.bump (PLC_CNT 4)).raiseOnce 0x0D0B 1 r
      else
        (t.fabCount 12).sendInternal { f with input := 31, kind := .message, tc := h.tc, colour := h.colour
                                              routine := some (r, State.defaultArg r) } (2 ^ 28)
  | none => s

/-! Requests and responses (R324) -/

/-- In form: aligned, within a 256-byte block (so at most 64 words), with all its data. -/
def RaReq.ok (q : RaReq) : Bool :=
  q.addr % 4 == 0 && q.addr / 256 == (q.addr + 4 * q.words - 1) / 256 && (q.op != 2 || decide (q.words ≤ q.data.length))

/-- Highest write sequence number from a device that has taken effect. -/
def State.appliedFrom (s : State) (d : Nat) : Nat := tget 0 s.fab.applied d
/-- The bridge answers: status, ack, and the data of a completed read. -/
def State.raAnswer (s : State) (h : FabHdr) (status : Nat) (data : List Word := []) : State :=
  s.fabSend (s.newHdr 9 (s.fld FAB_RA_CFG FAB_RA_CFG_tc) h.src h.tag)
    (leBytes 4 (status + s.appliedFrom h.src * 65536) ++ data.flatMap (fun w => leBytes 4 w.toNat))

/-- The source is a member, and its bit is set in the register in question (R323). -/
def State.raAllowed (s : State) (src : Nat) (reg : Nat) : Bool :=
  s.fab.members.any (fun m => m.2 == src && decide (src < 32)) && (s.rd reg).toNat.testBit src

def State.raDenied (s : State) (src : Nat) : State := (s.fabCount 7).raiseOnce 0x0A10 2 src

/-- R29 for every word of a request. -/
def remoteOk (write : Bool) (src : Nat) (q : RaReq) : Bool :=
  (List.range q.words).all (fun i => accessOk (.remote ⟨src % 32, by omega⟩) write (q.addr + 4 * i) 4)

def remoteMaster (src : Nat) : Master := .remote ⟨src % 32, by omega⟩

/-- Words of a range as the target's map gives them. -/
def State.readWords (s : State) (addr n : Nat) : List Word := (List.range n).map (fun i => BitVec.ofNat 32 (s.readValue (addr + 4 * i) 4))

/-! The target: reads (R326, R329) -/

/-- A slot holds, or fetches, what the read asks for. -/
def ReadSlot.serves (x : ReadSlot) (src tag : Nat) (q : RaReq) : Bool :=
  if q.pref then x.pref && x.src == src && x.addr == q.addr / 256 * 256
  else !x.pref && x.src == src && x.tag == tag && x.addr == q.addr && x.words == q.words

/-- The slot's data may lack a write that the read must see (R327 row 2). -/
def ReadSlot.old (x : ReadSlot) (q : RaReq) : Bool := epochNewer q.wseq x.wseq

/-- Start a fetch where a slot is free. -/
def State.fetchBegin (s : State) (src tag : Nat) (q : RaReq) : State :=
  match findFrom (fun n => !s.fab.slots.any (fun x => x.no == n)) 16 0 with
  | some n =>
    let x : ReadSlot := { no := n, src := src, tag := tag, pref := q.pref, wseq := q.wseq
                          addr := if q.pref then q.addr / 256 * 256 else q.addr, words := if q.pref then 64 else q.words }
    s.setFab { s.fab with slots := s.fab.slots ++ [x] }
  | none => s

/-- A permitted read is answered at once: data from a slot, or RETRY. A response to a device waits for this device's own earlier
writes to it (R327 row 5). -/
def State.readAnswer (s : State) (h : FabHdr) (q : RaReq) : State :=
  match s.fab.slots.find? (fun x => x.serves h.src h.tag q) with
  | some x =>
    if x.old q then ((s.setFab { s.fab with slots := s.fab.slots.filter (fun y => y.no != x.no) }).fetchBegin h.src h.tag q).raAnswer h 1
    else (match x.data with
      | some d =>
        if s.fab.writes.any (fun w => w.target == h.src) ∨ s.messageOwed h.src then s.raAnswer h 1
        else s.raAnswer h 0 ((d.drop ((q.addr - x.addr) / 4)).take q.words)
      | none => s.raAnswer h 1)
  | none => (s.fetchBegin h.src h.tag q).raAnswer h 1

/-- A word of the range that is known to be uncorrectable: its memory, and its address in units of 64 bits. What reads it gets an
error response (R411, R415), which the bridge passes on as REFUSED. DESIGN CHOICE (assumption 121). -/
def State.lostWord (s : State) (addr n : Nat) : Option (Nat × Nat) :=
  match memoryAt (addrBase addr) with
  | some mem => ((s.eccOf mem).lost.find? (fun w => decide (addrBase addr / 8 ≤ w ∧ 8 * w < addrBase addr + n))).map (fun w => (mem, w))
  | none => none

/-- The op of the request at the head of sp31. -/
def State.raOp (s : State) : Nat := (s.head31.map (fun f => (raReqOf f.data).op)).getD 0

/-- A read request, or one whose op is neither of the two (R323, R324, R326). -/
def State.raRead (s : State) : State :=
  if s.raOp = 2 then s
  else match s.mine31 8 with
    | some (f, h, t) =>
      let q := raReqOf f.data
      if q.op ≠ 1 ∨ !q.ok then t.raAnswer h 5
      else if !t.raAllowed h.src FAB_RA_ALLOW then (t.raDenied h.src).raAnswer h 2
      else if !remoteOk false h.src q then (t.refuse (remoteMaster h.src) q.addr).raAnswer h 3
      else match t.lostWord q.addr (4 * q.words) with
        | some x => (t.uncorrectable x.1 (8 * x.2) .none).raAnswer h 3
        | none => t.readAnswer h q
    | none => s

/-- The slot's range lies in the BNK block. -/
def ReadSlot.onBank (x : ReadSlot) : Bool := isBnk (addrBase x.addr)

/-- A fetch completes once the requester's earlier writes have taken effect; one of BNK registers, once every write that was
posted to the bank die before it has (R15). -/
def State.fetchDone (s : State) (n : Nat) : State :=
  match s.fab.slots.find? (fun x => x.no == n) with
  | some x =>
    if x.data.isNone ∧ !epochNewer x.wseq (s.appliedFrom x.src) ∧ !(s.dikeBusy && x.onBank) then
      { s with free := s.free + 1 }.setFab { s.fab with slots := s.fab.slots.map (fun (y : ReadSlot) =>
        if y.no = n then { y with data := some (s.readWords x.addr x.words) } else y) }
    else s
  | none => s

/-- Fetched data has stood for 200 µs: the slot is free. -/
def State.slotExpiry (s : State) (n : Nat) : State :=
  s.setFab { s.fab with slots := s.fab.slots.filter (fun x => !(x.no == n && x.data.isSome)) }

/-! The target: posted writes (R325) -/

/-- A posted write takes its turn: checked, applied word by word, answered. A write that is turned away takes its number. -/
def State.writeApply (s : State) (h : FabHdr) (q : RaReq) : State :=
  let s1 := s.setFab { s.fab with applied := tset 0 s.fab.applied h.src q.wseq }
  if !q.ok then s1.raAnswer h 5
  else if !s1.raAllowed h.src FAB_RA_ALLOW_W then (s1.raDenied h.src).raAnswer h 2
  else if !remoteOk true h.src q then (s1.refuse (remoteMaster h.src) q.addr).raAnswer h 3
  else
    ((q.data.take q.words).zipIdx.foldl (fun t w => t.busWrite (remoteMaster h.src) (q.addr + 4 * w.2) 4 w.1.toNat) s1).raAnswer h 0

/-- Writes that came before an earlier one follow in their order. -/
def State.earlyApply (h : FabHdr) : Nat → State → State
  | 0, s => s
  | n + 1, s =>
    let want := (s.appliedFrom h.src + 1) % 65536
    match s.fab.early.find? (fun e => e.1 == h.src && e.2.wseq == want) with
    | some e =>
      let t := s.setFab { s.fab with early := s.fab.early.filter (fun x => x != e) }
      State.earlyApply h n (t.writeApply { h with tag := e.2.tag }
        { op := 2, pref := false, words := e.2.data.length, wseq := want, addr := e.2.addr, data := e.2.data })
    | none => s

/-- A posted write: the next in order is applied, a repeat is counted and acknowledged, a later one is held. -/
def State.raWrite (s : State) : State :=
  if s.raOp ≠ 2 then s
  else match s.mine31 8 with
    | some (f, h, t) =>
      let q := raReqOf f.data
      let a := t.appliedFrom h.src
      if !t.fab.members.any (fun m => m.2 == h.src && decide (h.src < 32)) then (t.raDenied h.src).raAnswer h 2
      else if q.wseq = (a + 1) % 65536 then State.earlyApply h 32 (t.writeApply h q)
      else if epochNewer q.wseq a then
        if t.fab.early.any (fun e => e.1 == h.src && e.2.wseq == q.wseq) then t.fabCount 11
        else t.setFab { t.fab with early := t.fab.early ++ [(h.src,
          { tag := h.tag, target := h.src, wseq := q.wseq, addr := q.addr, data := q.data.take q.words })] }
      else (t.fabCount 11).raAnswer h 0
    | none => s

/-! The source (R325, R326, R331) -/

/-- A posted write of this device to another. -/
def State.writePost (s : State) (d addr : Nat) (data : List Word) (aperture : Bool) : State :=
  let (tag, s1) := s.tagNext
  let (k, s2) := s1.ordNext
  let n := (s2.issuedTo d + 1) % 65536
  (s2.setFab { s2.fab with issued := tset 0 s2.fab.issued d n
                           writes := s2.fab.writes ++ [{ tag := tag, target := d, wseq := n, addr := addr, data := data
                                                         aperture := aperture, ord := k }] }).postsGo

def State.readSend (s : State) (x : RaRead) : State :=
  s.raSend x.target x.tag { op := 1, pref := x.pref, words := x.words, wseq := s.issuedTo x.target, addr := x.addr, data := [] }

/-- A part of a host read has ended. With the last part its data go to the host; without an answer all of it ends, with Completer
Abort (R335). -/
def State.hostEnd (s : State) (tag : Nat) (value : Option (List Byte)) : State :=
  match s.fab.hostReads.find? (fun h => h.parts.any (fun p => p.1 == tag)) with
  | none => s
  | some h =>
    let parts := h.parts.map (fun p => if p.1 = tag then (p.1, value) else p)
    let rest := s.fab.hostReads.filter (fun y => y.tag != h.tag)
    if value.isNone then
      ((s.setFab { s.fab with hostReads := rest, reads := s.fab.reads.filter (fun x => !parts.any (fun p => p.1 == x.tag)) }).out
        (.completion none)).pcieError 15 |>.apertureFail
    else if parts.all (fun p => p.2.isSome) then
      (s.setFab { s.fab with hostReads := rest }).out (.completion (some (leNat ((parts.filterMap (fun p => p.2)).flatten))))
    else s.setFab { s.fab with hostReads := s.fab.hostReads.map (fun y => if y.tag = h.tag then { y with parts := parts } else y) }

/-- The writes to a device that an ack covers are released, and what waited for them goes. -/
def State.acked (s : State) (d ack : Nat) : State :=
  (s.setFab { s.fab with writes := s.fab.writes.filter (fun w => w.target != d || epochNewer w.wseq ack) }).postsGo

def State.raRsp (s : State) : State :=
  match s.mine31 9 with
  | some (f, h, t) =>
    let w0 := leNat (slice 0 4 f.data)
    let status := bits 3 0 w0
    let failed := decide (status ≠ 0) && t.fab.writes.any (fun w => w.target == h.src && w.tag == h.tag && w.aperture)
    let t1 := t.acked h.src (bits 31 16 w0)
    let t2 := if failed then t1.apertureFail else t1
    match t2.fab.reads.find? (fun x => x.tag == h.tag && x.target == h.src) with
    | some x =>
      if status = 1 then
        (t2.fabCount 8).setFab { t2.fab with reads := t2.fab.reads.map (fun y => if y.tag = x.tag then { y with retry := true } else y) }
      else
        (t2.setFab { t2.fab with reads := t2.fab.reads.filter (fun y => y.tag != x.tag) }).hostEnd x.tag
          (if status = 0 then some ((f.data.drop 4).take (4 * x.words)) else none)
    | none => t2
  | none => s

/-- A read answered RETRY is issued again: a new read for the order of writes (R326, R327). -/
def State.readReissue (s : State) (tag : Nat) : State :=
  match s.fab.reads.find? (fun x => x.tag == tag && x.retry) with
  | some x =>
    (s.setFab { s.fab with reads := s.fab.reads.map (fun y => if y.tag = tag then { y with retry := false } else y) }).readSend x
  | none => s

/-- No ack for 1 ms: the unacknowledged writes are sent again, in order, by the current route (R325). -/
def State.writeResend (s : State) (d : Nat) : State :=
  (s.fab.writes.filter (fun w => w.target == d && w.sent)).foldl (fun t w => t.raSend d w.tag w.req) s

/-- timeout_ms has passed: the access is abandoned (R331); a host's write has failed (R335). -/
def State.raTimeout (s : State) (tag : Nat) : State :=
  if s.fab.reads.any (fun x => x.tag == tag) then
    ((s.setFab { s.fab with reads := s.fab.reads.filter (fun x => x.tag != tag) }).fabCount 9).raise 0x0A11 3
  else match s.fab.writes.find? (fun w => w.tag == tag) with
    | some w =>
      let s1 := ((s.setFab { s.fab with writes := s.fab.writes.filter (fun x => x.tag != tag) }).fabCount 9).raise 0x0A11 3
      (if w.aperture then s1.apertureFail else s1).postsGo
    | none => s

/-! Apertures (R335) -/

/-- A range of words, cut where 256-byte blocks begin (R324): each part's address and words. -/
def blockParts : Nat → Nat → Nat → List (Nat × Nat)
  | 0, _, _ => []
  | fuel + 1, a, n =>
    if n = 0 then [] else
      let k := min n (64 - a % 256 / 4)
      (a, k) :: blockParts fuel (a + 4 * k) (n - k)

/-- A host read becomes one remote read for each 256-byte block that it touches. -/
def State.hostRead (s : State) (d addr n : Nat) (pref : Bool) : State :=
  let first := s.fab.nextTag
  let parts := blockParts n addr n
  if parts = [] then s.out (.completion (some 0))
  else
    let s1 := s.setFab { s.fab with hostReads := s.fab.hostReads ++
      [{ tag := first, parts := (List.range parts.length).map (fun i => ((first + i) % 2 ^ 32, none)) }] }
    parts.foldl (fun t p =>
      let (tag, t1) := t.tagNext
      let x : RaRead := { tag := tag, target := d, addr := p.1, words := p.2, pref := pref }
      (t1.setFab { t1.fab with reads := t1.fab.reads ++ [x] }).readSend x) s1

/-- A host access at a BAR4 offset: a write of words, or a read of `n` words. One that crosses into the next aperture is refused
whole (R334); it fails at once where the aperture is disabled or its target has no route (R335). -/
def State.apertureAccess (s : State) (off : Nat) (write : Bool) (n : Nat) (data : List Word) : State :=
  let k := off / 2 ^ 24 % 4
  let d := s.fld (FAB_APT0 k) FAB_APT0_target
  let addr := s.fld (FAB_APT1 k) FAB_APT1_base * 2 ^ 24 + off % 2 ^ 24
  let words := if write then data.length else n
  if !s.running then s
  else if 2 ^ 24 < off % 2 ^ 24 + 4 * words then s.refuse .pcie off
  else if !s.fldB (FAB_APT0 k) FAB_APT0_en ∨ !s.fldB (FAB_ROUTE d) FAB_ROUTE_valid then
    (if write then s else (s.out (.completion none)).pcieError 15).apertureFail
  else if write then
    (blockParts words addr words).foldl (fun t p => t.writePost d p.1 ((data.drop ((p.1 - addr) / 4)).take p.2) true) s
  else s.hostRead d addr n (s.fldB (FAB_APT0 k) FAB_APT0_pref)

/-- 10 ms have passed without an answer to a host read. -/
def State.apertureTimeout (s : State) (tag : Nat) : State := s.hostEnd tag none

/-! The block's own clock -/

/-- What happens while no command waits: the tide clock ticks (R35), and the random word queue refills (R356). -/
def State.idle (s : State) : State := if s.running then s.tick.rngRefill.settled else s.tick

/-! The rows of the table -/

def execMsg (forwarded : Bool) (s : State) : Host.Outcome State Fault Refusal := .next (s.msgTake forwarded)
def execRaRead (s : State) : Host.Outcome State Fault Refusal := .next s.raRead
def execRaPostedWrite (s : State) : Host.Outcome State Fault Refusal := .next s.raWrite
def execRaRsp (s : State) : Host.Outcome State Fault Refusal := .next s.raRsp
def execRaFetchDone (n : Fin 16) (s : State) : Host.Outcome State Fault Refusal := .next (s.fetchDone n.val)
def execReadSlotExpiry (n : Fin 16) (s : State) : Host.Outcome State Fault Refusal := .next (s.slotExpiry n.val)
def execRaReadReissue (tag : Nat) (s : State) : Host.Outcome State Fault Refusal := .next (s.readReissue tag)
def execRaWriteResend (d : Fin 32) (s : State) : Host.Outcome State Fault Refusal := .next (s.writeResend d.val)
def execRaTimeout (tag : Nat) (s : State) : Host.Outcome State Fault Refusal := .next (s.raTimeout tag)
def execApertureAccess (off : Fin 67108864) (write : Bool) (n : Nat) (data : List Word) (s : State) :
    Host.Outcome State Fault Refusal := .next (s.apertureAccess off.val write n data)
def execApertureReadTimeout (tag : Nat) (s : State) : Host.Outcome State Fault Refusal := .next (s.apertureTimeout tag)

end Sys2Proof.Machine
end

