-- ==== Sys2Proof/Machine/AtnExec.lean ====
section
/-! DEFINITION. What an instruction does on a keeper core (R239–R243, R250–R269, R271, R273). A command that names an
instruction acts when the core's program counter stands at that instruction's word. -/

namespace Sys2Proof.Machine

/-- rd receives a value and pc goes on to the next instruction. -/
def State.kSet (s : State) (c : Nat) (iv : Invocation) (rd : Fin 32) (v : Word) : State :=
  s.setInv c { iv.setG rd v with pc := iv.pc + 4 }

/-- pc goes on to the next instruction. -/
def State.kNext (s : State) (c : Nat) (iv : Invocation) : State := s.setInv c { iv with pc := iv.pc + 4 }

def sext16 (i : Fin 65536) : Word := (BitVec.ofNat 16 i.val).signExtend 32

def zext16 (i : Fin 65536) : Word := BitVec.ofNat 32 i.val

def boolWord (b : Bool) : Word := if b then 1 else 0

/-! Arithmetic (R250, R251) -/

/-- Signed quotient: rounded towards zero; −2^31 / −1 gives −2^31; a zero divisor gives all ones (R251). -/
def divWord (a b : Word) : Word := if b = 0 then 0xFFFFFFFF#32 else a.sdiv b

def remWord (a b : Word) : Word := if b = 0 then a else a.srem b

def aluOp (op : AluOp) (a b : Word) : Word :=
  let sh := b.toNat % 32
  match op with
  | .add => a + b
  | .sub => a - b
  | .and => a &&& b
  | .or => a ||| b
  | .xor => a ^^^ b
  | .sll => a <<< sh
  | .srl => a >>> sh
  | .sra => a.sshiftRight sh
  | .slt => boolWord (a.slt b)
  | .sltu => boolWord (a.ult b)
  | .mul => a * b
  | .mulh => BitVec.ofInt 32 (a.toInt * b.toInt / 2 ^ 32)
  | .mulhu => BitVec.ofNat 32 (a.toNat * b.toNat / 2 ^ 32)
  | .div => divWord a b
  | .divu => if b = 0 then 0xFFFFFFFF#32 else a / b
  | .rem => remWord a b
  | .remu => if b = 0 then a else a % b
  | .min => if a.slt b then a else b
  | .max => if a.slt b then b else a
  | .minu => if a.ult b then a else b
  | .maxu => if a.ult b then b else a

def immOp (op : ImmOp) (a : Word) (i : Fin 65536) : Word :=
  match op with
  | .addi => a + sext16 i
  | .andi => a &&& zext16 i
  | .ori => a ||| zext16 i
  | .xori => a ^^^ zext16 i
  | .slti => boolWord (a.slt (sext16 i))
  | .sltiu => boolWord (a.ult (sext16 i))

def shOp (op : ShOp) (a : Word) (n : Nat) : Word :=
  match op with
  | .slli => a <<< n
  | .srli => a >>> n
  | .srai => a.sshiftRight n

/-- REV reverses the bytes; REVH swaps the two low bytes, zero-extended (R251). -/
def revWord (half : Bool) (a : Word) : Word :=
  let b (i : Nat) : Nat := a.toNat / 2 ^ (8 * i) % 256
  BitVec.ofNat 32 (if half then b 0 * 256 + b 1 else b 0 * 2 ^ 24 + b 1 * 2 ^ 16 + b 2 * 2 ^ 8 + b 3)

def branchTaken (op : BranchOp) (a b : Word) : Bool :=
  match op with
  | .beq => a == b
  | .bne => a != b
  | .blt => a.slt b
  | .bge => !a.slt b
  | .bltu => a.ult b
  | .bgeu => !a.ult b

/-- pc + 4 × offset, in 32 bits (R252). -/
def jumpTo (pc : Nat) (off : Word) : Nat := (BitVec.ofNat 32 pc + 4#32 * off).toNat

/-! Loads and stores (R240–R243, R250) -/

def LoadOp.size : LoadOp → Nat
  | .lw => 4
  | .lh | .lhu => 2
  | .lb | .lbu => 1

def loadExtend (op : LoadOp) (v : Nat) : Word :=
  match op with
  | .lw | .lhu | .lbu => BitVec.ofNat 32 v
  | .lh => (BitVec.ofNat 16 v).signExtend 32
  | .lb => (BitVec.ofNat 8 v).signExtend 32

def State.kLoad (s : State) (c : Nat) (iv : Invocation) (op : LoadOp) (rd : Fin 32) (a : Nat) : State :=
  match s.loadAt iv.ev.routine a op.size op.size with
  | .ok p => s.kSet c iv rd (loadExtend op (leNat (s.kBytes c iv p op.size)))
  | .error cause => s.kAbort c iv cause

def StoreOp.size : StoreOp → Nat
  | .sw => 4
  | .sh => 2
  | .sb => 1

def State.kStore (s : State) (c : Nat) (iv : Invocation) (op : StoreOp) (v : Word) (a : Nat) : State :=
  match s.storeAtK iv.ev.routine a op.size op.size (op == .sw) with
  | .ok p => (if op = .sw then s.kPutWord c iv p v else s.kPuts c iv p (leBytes op.size v.toNat)).kNext c iv
  | .error cause => s.kAbort c iv cause

/-- ATOM: an aligned word of the private or shared window, not through an alias (R253). -/
def State.atomAt (s : State) (r a : Nat) : Except Nat KPlace :=
  match s.loadAt r a 4 4 with
  | .ok p => if (p.win = .priv ∨ p.win = .shared) ∧ p.alia = .plain then .ok p else .error causePermission
  | .error e => .error e

def State.kAtom (s : State) (c : Nat) (iv : Invocation) (add : Bool) (rd rs1 rs2 : Fin 32) : State :=
  match s.atomAt iv.ev.routine (iv.g rs1).toNat with
  | .ok p =>
    let t : Word := BitVec.ofNat 32 (leNat (s.kBytes c iv p 4))
    let s1 := if add then s.kPutWord c iv p (t + iv.g rs2) else if t = iv.g rd then s.kPutWord c iv p (iv.g rs2) else s
    s1.kSet c iv rd t
  | .error cause => s.kAbort c iv cause

/-- MCPY: both ranges are checked before any byte is copied (R253). -/
def State.kCopy (s : State) (c : Nat) (iv : Invocation) (dst src n : Nat) : State :=
  let r := iv.ev.routine
  if n = 0 then s.kNext c iv
  else if 16384 < n then s.kAbort c iv causeWindow
  else match s.loadAt r src n 1, s.storeAtK r dst n 1 false with
    | .ok p, .ok q => (s.kPuts c iv q (s.kBytes c iv p n)).kNext c iv
    | .error e, _ => s.kAbort c iv e
    | _, .error e => s.kAbort c iv e

/-! Bit fields (R254) -/

/-- Memory bits of a field, bit 0 of the field first. -/
def fieldBits (start len : Nat) (be : Bool) : List Nat :=
  if be then
    ((List.range (len - 1)).foldl (fun (l : List Nat) _ => match l with
      | [] => l
      | b :: _ => (if b % 8 = 0 then b + 15 else b - 1) :: l) [start])
  else (List.range len).map (fun k => start + k)

/-- The bytes that a field touches. -/
def fieldBytes (bs : List Nat) : List Nat := (bs.map (fun b => b / 8)).eraseDups

def addr32 (a n : Nat) : Nat := (a + n) % 2 ^ 32

/-- The cause of the fault of the first byte that may not be read, or written where `write` holds. -/
def State.byteFault (s : State) (r base : Nat) (write : Bool) (offs : List Nat) : Option Nat :=
  offs.findSome? (fun o =>
    match (if write then s.storeAtK r (addr32 base o) 1 1 false else s.loadAt r (addr32 base o) 1 1) with
    | .ok _ => none
    | .error e => some e)

/-- A byte of the view; the address is one that `byteFault` has passed. -/
def State.viewByte (s : State) (c : Nat) (iv : Invocation) (a : Nat) : Byte :=
  match s.place iv.ev.routine a with
  | some p => s.kByte c iv p
  | none => 0

def State.fieldGet (s : State) (c : Nat) (iv : Invocation) (base : Nat) (bs : List Nat) : Nat :=
  (bs.zipIdx.map (fun (b, k) => boolNat ((s.viewByte c iv (addr32 base (b / 8))).toNat.testBit (b % 8)) * 2 ^ k)).sum

def State.kExtract (s : State) (c : Nat) (iv : Invocation) (rd : Fin 32) (base start len : Nat) (be sign : Bool) : State :=
  let bs := fieldBits start len be
  match s.byteFault iv.ev.routine base false (fieldBytes bs) with
  | some e => s.kAbort c iv e
  | none =>
    let v := s.fieldGet c iv base bs
    s.kSet c iv rd (if sign then BitVec.ofInt 32 (signed len v) else BitVec.ofNat 32 v)

/-- The byte at offset `o` with the field's bits put in. -/
def insertBits (bs : List Nat) (o : Nat) (v : Nat) (old : Byte) : Byte :=
  BitVec.ofNat 8 ((bs.zipIdx.filter (fun (b, _) => b / 8 == o)).foldl (fun m (b, k) => withBit m (b % 8) (v.testBit k)) old.toNat)

def State.kInsert (s : State) (c : Nat) (iv : Invocation) (v : Word) (base start len : Nat) (be : Bool) : State :=
  let bs := fieldBits start len be
  match s.byteFault iv.ev.routine base true (fieldBytes bs) with
  | some e => s.kAbort c iv e
  | none =>
    ((fieldBytes bs).foldl (fun t o =>
      match t.place iv.ev.routine (addr32 base o) with
      | some p => t.kPut c iv p (insertBits bs o v.toNat (t.kByte c iv p))
      | none => t) s).kNext c iv

/-! CRC (R255) -/

/-- Width, polynomial, reflected. -/
def crcParams (sel : Nat) : Nat × Nat × Bool :=
  match sel with
  | 0 => (8, 0x1D, false)
  | 1 => (8, 0x2F, false)
  | 2 => (16, 0x1021, false)
  | 3 => (16, 0x8005, true)
  | 4 => (32, 0x04C11DB7, true)
  | 5 => (32, 0x1EDC6F41, true)
  | _ => (32, 0xF4ACFB13, true)

def reflect (w p : Nat) : Nat := ((List.range w).map (fun i => boolNat (p.testBit i) * 2 ^ (w - 1 - i))).sum

/-- One bit of the register of an unreflected or a reflected CRC. -/
def crcShift (w poly : Nat) (refl : Bool) (x : Nat) : Nat :=
  if refl then (if x.testBit 0 then Nat.xor (x / 2) (reflect w poly) else x / 2)
  else (if x.testBit (w - 1) then Nat.xor (x * 2) poly else x * 2) % 2 ^ w

def crcStep (sel : Nat) (x : Nat) (b : Byte) : Nat :=
  let (w, poly, refl) := crcParams sel
  let x0 := Nat.xor x (if refl then b.toNat else b.toNat * 2 ^ (w - 8))
  (List.range 8).foldl (fun y _ => crcShift w poly refl y) x0

def crcRun (sel : Nat) (x : Nat) (bs : List Byte) : Nat := bs.foldl (crcStep sel) (x % 2 ^ (crcParams sel).1)

def State.kCrc (s : State) (c : Nat) (iv : Invocation) (rd : Fin 32) (a n : Nat) (sel : Nat) : State :=
  if 9216 < n ∨ !s.readable iv.ev.routine a n then s.kAbort c iv causeWindow
  else s.kSet c iv rd (BitVec.ofNat 32 (crcRun sel (iv.g rd).toNat (s.viewBytes c iv a n)))

/-! Scale and offset (R256, R257) -/

def sclResult (op : SclOp) (x : Word) (len : Nat) (sign : Bool) (p0 p1 p2 : Nat) : Word :=
  let raw : Int := if sign then signed len x.toNat else (x.toNat % 2 ^ len : Nat)
  let sh := p2 % 32
  match op with
  | .scx => BitVec.ofInt 32 (scx raw (signed 32 p0) (signed 32 p1) sh)
  | .scf => BitVec.ofNat 32 (scf raw (f32Of p0) (f32Of p1))
  | .usx => BitVec.ofInt 32 (satLen len sign (usx x.toInt (signed 32 p0) (signed 32 p1) sh))
  | .ufs => BitVec.ofInt 32 (satLen len sign (ufs (f32Of x.toNat) (f32Of p0) (f32Of p1)))

def State.kScale (s : State) (c : Nat) (iv : Invocation) (op : SclOp) (rd rs1 rs2 : Fin 32) (sign : Bool) (len : Nat) : State :=
  match s.loadAt iv.ev.routine (iv.g rs2).toNat 12 4 with
  | .ok p =>
    let bs := s.kBytes c iv p 12
    s.kSet c iv rd (sclResult op (iv.g rs1) len sign (leNat (slice 0 4 bs)) (leNat (slice 4 4 bs)) (leNat (slice 8 4 bs)))
  | .error e => s.kAbort c iv e

/-! Signals and lookups (R258–R260) -/

/-- The 16 bytes of SGET and SPUT: 8-byte aligned, wholly in the private, shared or emit buffer window. -/
def State.entryAt16 (s : State) (r a : Nat) : Except Nat KPlace := s.storeAtK r a 16 8 false

/-- SGET: the signal's whole entry (R232, R258). The firmware's own signals are free values (assumption 97). -/
def State.kSget (s : State) (c : Nat) (iv : Invocation) (rd rs1 rs2 : Fin 32) : State :=
  match s.entryAt16 iv.ev.routine (iv.g rs2).toNat with
  | .error e => s.kAbort c iv e
  | .ok p =>
    if 262144 ≤ (iv.g rs1).toNat then (s.rtRefused iv.ev.routine).kSet c iv rd 4
    else if 250000 ≤ (iv.g rs1).toNat then
      let (k, t) := s.freeIx
      (t.kPuts c iv p (leBytes 16 (Config.ownSignal k (iv.g rs1).toNat))).kSet c iv rd 0
    else (s.kPuts c iv p (s.mbytes (signalAddr (iv.g rs1).toNat) 16)).kSet c iv rd 0

/-- Whether the bundle lets a routine write a signal (R281). -/
def State.maySput (s : State) (r i : Nat) : Bool :=
  s.plc.prog.signals.any (fun d => d.index == i && (d.anyWriter || d.writer == r))

def State.kSput (s : State) (c : Nat) (iv : Invocation) (rd rs1 rs2 : Fin 32) : State :=
  let r := iv.ev.routine
  let i := (iv.g rs1).toNat
  match s.entryAt16 r (iv.g rs2).toNat with
  | .error e => s.kAbort c iv e
  | .ok p =>
    let bs := s.kBytes c iv p 16
    let w : SigWrite := { index := i, value := leNat (bs.take 8), status := bits 23 21 (leNat (slice 12 4 bs)) }
    if 250000 ≤ i ∨ !s.maySput r i then (s.rtRefused r).kSet c iv rd 4
    else if iv.sputs.any (fun x => x.index == i) then
      s.kSet c { iv with sputs := iv.sputs.map (fun x => if x.index = i then w else x) } rd 0
    else if 64 ≤ iv.sputs.length then s.kSet c iv rd 2
    else s.kSet c { iv with sputs := iv.sputs ++ [w] } rd 0

/-- Result and status of TLK. A word of the types 2 to 6 that does not carry its type in its top four bits misses (R260). -/
def State.lookup (s : State) (type hi lo : Nat) : Nat × Nat :=
  if type = 7 then (0, 3)
  else if type = 0 then
    if 49151 < lo then (0, 3)
    else
      let w := s.mem32 (0x30480000 + 4 * lo)
      if bit 0 w then (w, 0) else (0, 1)
  else if 2 ≤ type ∧ bits 31 28 hi ≠ type then (0, 1)
  else match s.trieLookup (hi * 2 ^ 32 + lo) type with
    | some w => (w, 0)
    | none => (0, 1)

def State.kTlk (s : State) (c : Nat) (iv : Invocation) (rd rs1 rs2 : Fin 32) (type : Nat) (sr : Fin 32) : State :=
  let (w, st) := s.lookup type (iv.g rs1).toNat (iv.g rs2).toNat
  let res : Word := BitVec.ofNat 32 w
  let sta : Word := BitVec.ofNat 32 st
  if rd = sr then s.kSet c iv rd (if Config.tlkStatusStands then sta else res)
  else s.kSet c (iv.setG rd res) sr sta

/-! Buffered outputs (R261–R264) -/

/-- Whether the header and length of an emit keep the rules of R261; `e` is the whole record. -/
def emitOk (e : List Byte) : Bool :=
  let w0 := recWord e 0
  let w1 := recWord e 1
  let n := e.length - 8
  let data := e.drop 8
  decide (w0 < 128) &&
    (match w0 % 4 with
     | 0 => decide (w1 < 2 ^ 28 ∧ 14 ≤ n ∧ n ≤ 9212)
     | 1 => decide (w1 = 0 ∧ 14 ≤ n ∧ n ≤ 9212)
     | 2 => decide (w1 = 0 ∧ 32 ≤ n ∧ n = 32 + (if recFmt data = 0 ∧ recRtr data then 0 else recLen data))
     | _ => decide (w1 < 2 ^ 15 ∧ 1 ≤ n ∧ n ≤ 1024))

/-- The place of an emit record: aligned, wholly in the emit buffer window. -/
def State.emitAt (s : State) (r a n : Nat) : Except Nat KPlace :=
  match s.loadAt r a n 4 with
  | .ok p => if p.win = .emit ∧ p.alia = .plain then .ok p else .error causeWindow
  | .error e => .error e

def State.kEmit (s : State) (c : Nat) (iv : Invocation) (rd rs1 rs2 : Fin 32) : State :=
  let n := (iv.g rs2).toNat
  if n < 8 ∨ 9220 < n then s.kSet c iv rd 3
  else match s.emitAt iv.ev.routine (iv.g rs1).toNat n with
    | .error e => s.kAbort c iv e
    | .ok p =>
      let e := s.kBytes c iv p n
      if !emitOk e then s.kSet c iv rd 3
      else if 16 ≤ iv.emits.length ∨ 16384 < iv.emitBytes + n then s.kSet c iv rd 2
      else s.kSet c { iv with emits := iv.emits ++ [e] } rd 0

/-- TARM: a delay of 0 in the buffered operation stands for a cancel (R263). -/
def State.kTimer (s : State) (c : Nat) (iv : Invocation) (rd rs1 rs2 : Fin 32) (t : Nat) (periodic cancel : Bool) : State :=
  let d := (iv.g rs1).toNat
  if !cancel ∧ d = 0 then s.kSet c iv rd 3
  else
    let o : TimerOp := { timer := t, delay := if cancel then 0 else d, periodic := periodic, arg := (iv.g rs2).toNat }
    s.kSet c { iv with timers := iv.timers.filter (fun x => x.timer != t) ++ [o] } rd 0

def State.kHset (s : State) (c : Nat) (iv : Invocation) (rd rs1 rs2 : Fin 32) : State :=
  let ch := (iv.g rs1).toNat
  let duty := (iv.g rs2).toNat
  let r := iv.ev.routine
  if 11 < ch ∨ 1000 < duty then s.kSet c iv rd 3
  else if !(s.routine r).heaterMask.testBit ch then (s.rtRefused r).kSet c iv rd 4
  else s.kSet c { iv with hsets := iv.hsets.filter (fun x => x.1 != ch) ++ [(ch, duty)] } rd 0

/-! System (R265, R267) -/

/-- CIPH: the routine asks for the engine lock and waits (R265). -/
def State.kCiph (s : State) (c : Nat) (iv : Invocation) (rd rs1 : Fin 32) : State :=
  (s.setInv c { iv with wait := .ciph, ciphRd := rd.val, ciphAt := (iv.g rs1).toNat }).lockRequest c

def State.kRnd (s : State) (c : Nat) (iv : Invocation) (rd : Fin 32) : State :=
  let (t, l) := s.randomWords 1
  t.kSet c iv rd (l.headD 0)

def State.kTnow (s : State) (c : Nat) (iv : Invocation) (pair : Nat) : State :=
  let t := s.tide.toNat
  s.kSet c (iv.setG (Fin.ofNat 32 (2 * pair + 2)) (BitVec.ofNat 32 t)) (Fin.ofNat 32 (2 * pair + 3)) (BitVec.ofNat 32 (t / 2 ^ 32))

def State.whoWord (s : State) (c r : Nat) : Word := BitVec.ofNat 32 (c + c / 16 * 64 + s.fabAddr * 256 + r * 8192)

/-- The effect of an instruction whose cost has been paid. -/
def State.kExec (s : State) (c : Nat) (iv : Invocation) (i : KInstr) : State :=
  match i with
  | .alu op rd rs1 rs2 => s.kSet c iv rd (aluOp op (iv.g rs1) (iv.g rs2))
  | .rev half rd rs1 => s.kSet c iv rd (revWord half (iv.g rs1))
  | .imm op rd rs1 k => s.kSet c iv rd (immOp op (iv.g rs1) k)
  | .shi op rd rs1 n => s.kSet c iv rd (shOp op (iv.g rs1) n.val)
  | .lui rd k => s.kSet c iv rd (zext16 k <<< 16)
  | .lpc rd k => s.kSet c iv rd (BitVec.ofNat 32 iv.pc + sext16 k)
  | .load op rd rs1 k => s.kLoad c iv op rd (iv.g rs1 + sext16 k).toNat
  | .store op rs2 rs1 k => s.kStore c iv op (iv.g rs2) (iv.g rs1 + sext16 k).toNat
  | .branch op rs1 rs2 k =>
    if branchTaken op (iv.g rs1) (iv.g rs2) then s.setInv c { iv with pc := jumpTo iv.pc (sext16 k) } else s.kNext c iv
  | .jump link k =>
    let iv1 := if link then iv.setG 31 (BitVec.ofNat 32 (iv.pc + 4)) else iv
    s.setInv c { iv1 with pc := jumpTo iv.pc ((BitVec.ofNat 26 k.val).signExtend 32) }
  | .jr rd rs1 k =>
    let t := (iv.g rs1 + sext16 k).toNat
    if t % 4 = 0 then s.setInv c { iv.setG rd (BitVec.ofNat 32 (iv.pc + 4)) with pc := t } else s.kAbort c iv causeAlign
  | .atom add rd rs1 rs2 => s.kAtom c iv add rd rs1 rs2
  | .mcpy rd rs1 rs2 => s.kCopy c iv (iv.g rd).toNat (iv.g rs1).toNat (iv.g rs2).toNat
  | .bfx rd rs1 start len1 be sign => s.kExtract c iv rd (iv.g rs1).toNat start.val (len1.val + 1) be sign
  | .bfi rs2 rs1 start len1 be => s.kInsert c iv (iv.g rs2) (iv.g rs1).toNat start.val (len1.val + 1) be
  | .crc rd rs1 rs2 sel => s.kCrc c iv rd (iv.g rs1).toNat (iv.g rs2).toNat sel.val
  | .scl op rd rs1 rs2 sign len1 => s.kScale c iv op rd rs1 rs2 sign (len1.val + 1)
  | .sget rd rs1 rs2 => s.kSget c iv rd rs1 rs2
  | .sput rd rs1 rs2 => s.kSput c iv rd rs1 rs2
  | .tlk rd rs1 rs2 type sr => s.kTlk c iv rd rs1 rs2 type.val sr
  | .emit rd rs1 rs2 => s.kEmit c iv rd rs1 rs2
  | .tarm rd rs1 rs2 t periodic cancel => s.kTimer c iv rd rs1 rs2 t.val periodic cancel
  | .hset rd rs1 rs2 => s.kHset c iv rd rs1 rs2
  | .ciph rd rs1 => s.kCiph c iv rd rs1
  | .nop => s.kNext c iv
  | .tnow pair => s.kTnow c iv pair.val
  | .rnd rd => s.kRnd c iv rd
  | .budl rd => s.kSet c iv rd (BitVec.ofNat 32 iv.left)
  | .who rd => s.kSet c iv rd (s.whoWord c iv.ev.routine)
  | .done => s.kDone c iv
  | .abandon => s.kEnd c iv 2

/-- Budget units that an instruction consumes (R250). -/
def kCost (iv : Invocation) : KInstr → Nat
  | .atom _ _ _ _ | .scl _ _ _ _ _ _ | .sget _ _ _ | .sput _ _ _ | .tlk _ _ _ _ _ | .tarm _ _ _ _ _ _ | .hset _ _ _ => 2
  | .mcpy _ _ rs2 => 1 + ((iv.g rs2).toNat + 31) / 32
  | .crc _ _ rs2 _ => 1 + ((iv.g rs2).toNat + 15) / 16
  | .emit _ _ rs2 => 2 + ((iv.g rs2).toNat + 63) / 64
  | .ciph _ _ => 4
  | .alu _ _ _ _ | .rev _ _ _ | .imm _ _ _ _ | .shi _ _ _ _ | .lui _ _ | .lpc _ _ | .load _ _ _ _ | .store _ _ _ _
  | .branch _ _ _ _ | .jump _ _ | .jr _ _ _ | .bfx _ _ _ _ _ _ | .bfi _ _ _ _ _ | .nop | .tnow _ | .rnd _ | .budl _
  | .who _ | .done | .abandon => 1

/-- The cost is subtracted, then the instruction executes; without the budget it does not, and the invocation aborts
(R271). -/
def State.kCharge (s : State) (c : Nat) (iv : Invocation) (i : KInstr) : State :=
  let n := kCost iv i
  if iv.left < n then s.kAbort c iv causeBudget else s.kExec c { iv with left := iv.left - n } i

/-- The word at pc; none outside the code window (R252). -/
def State.kFetch (s : State) (c : Nat) (iv : Invocation) : Option Nat :=
  match s.range iv.ev.routine iv.pc 4 with
  | some p => if p.win = .code ∧ p.alia = .plain then some (leNat (s.kBytes c iv p 4)) else none
  | none => none

/-- A core whose program counter stands at the instruction's word executes it. A fetch outside the code window is a memory
fault (R252). -/
def State.kRun (s : State) (c : Fin 64) (i : KInstr) : State :=
  match s.inv c.val with
  | none => s
  | some iv =>
    if iv.wait ≠ .none then s
    else match s.kFetch c.val iv with
      | none => s.kAbort c.val iv causeWindow
      | some w => if w = i.encode then s.kCharge c.val iv i else s

/-- The core fetches a word that no instruction has (R249). -/
def State.kIllegal (s : State) (c : Fin 64) : State :=
  match s.inv c.val with
  | none => s
  | some iv =>
    if iv.wait ≠ .none then s
    else match s.kFetch c.val iv with
      | none => s.kAbort c.val iv causeWindow
      | some w => if (atnDecode w).isNone then s.kAbort c.val iv causeIllegal else s

/-! The rows of the table -/

abbrev Out := Host.Outcome State Fault Refusal

def execAdd (c : Fin 64) (rd rs1 rs2 : Fin 32) (s : State) : Out := .next (s.kRun c (.alu .add rd rs1 rs2))
def execSub (c : Fin 64) (rd rs1 rs2 : Fin 32) (s : State) : Out := .next (s.kRun c (.alu .sub rd rs1 rs2))
def execAnd (c : Fin 64) (rd rs1 rs2 : Fin 32) (s : State) : Out := .next (s.kRun c (.alu .and rd rs1 rs2))
def execOr (c : Fin 64) (rd rs1 rs2 : Fin 32) (s : State) : Out := .next (s.kRun c (.alu .or rd rs1 rs2))
def execXor (c : Fin 64) (rd rs1 rs2 : Fin 32) (s : State) : Out := .next (s.kRun c (.alu .xor rd rs1 rs2))
def execSll (c : Fin 64) (rd rs1 rs2 : Fin 32) (s : State) : Out := .next (s.kRun c (.alu .sll rd rs1 rs2))
def execSrl (c : Fin 64) (rd rs1 rs2 : Fin 32) (s : State) : Out := .next (s.kRun c (.alu .srl rd rs1 rs2))
def execSra (c : Fin 64) (rd rs1 rs2 : Fin 32) (s : State) : Out := .next (s.kRun c (.alu .sra rd rs1 rs2))
def execSlt (c : Fin 64) (rd rs1 rs2 : Fin 32) (s : State) : Out := .next (s.kRun c (.alu .slt rd rs1 rs2))
def execSltu (c : Fin 64) (rd rs1 rs2 : Fin 32) (s : State) : Out := .next (s.kRun c (.alu .sltu rd rs1 rs2))
def execMul (c : Fin 64) (rd rs1 rs2 : Fin 32) (s : State) : Out := .next (s.kRun c (.alu .mul rd rs1 rs2))
def execMulh (c : Fin 64) (rd rs1 rs2 : Fin 32) (s : State) : Out := .next (s.kRun c (.alu .mulh rd rs1 rs2))
def execMulhu (c : Fin 64) (rd rs1 rs2 : Fin 32) (s : State) : Out := .next (s.kRun c (.alu .mulhu rd rs1 rs2))
def execDiv (c : Fin 64) (rd rs1 rs2 : Fin 32) (s : State) : Out := .next (s.kRun c (.alu .div rd rs1 rs2))
def execDivu (c : Fin 64) (rd rs1 rs2 : Fin 32) (s : State) : Out := .next (s.kRun c (.alu .divu rd rs1 rs2))
def execRem (c : Fin 64) (rd rs1 rs2 : Fin 32) (s : State) : Out := .next (s.kRun c (.alu .rem rd rs1 rs2))
def execRemu (c : Fin 64) (rd rs1 rs2 : Fin 32) (s : State) : Out := .next (s.kRun c (.alu .remu rd rs1 rs2))
def execMin (c : Fin 64) (rd rs1 rs2 : Fin 32) (s : State) : Out := .next (s.kRun c (.alu .min rd rs1 rs2))
def execMax (c : Fin 64) (rd rs1 rs2 : Fin 32) (s : State) : Out := .next (s.kRun c (.alu .max rd rs1 rs2))
def execMinu (c : Fin 64) (rd rs1 rs2 : Fin 32) (s : State) : Out := .next (s.kRun c (.alu .minu rd rs1 rs2))
def execMaxu (c : Fin 64) (rd rs1 rs2 : Fin 32) (s : State) : Out := .next (s.kRun c (.alu .maxu rd rs1 rs2))
def execRev (c : Fin 64) (rd rs1 : Fin 32) (s : State) : Out := .next (s.kRun c (.rev false rd rs1))
def execRevh (c : Fin 64) (rd rs1 : Fin 32) (s : State) : Out := .next (s.kRun c (.rev true rd rs1))
def execAddi (c : Fin 64) (rd rs1 : Fin 32) (k : Fin 65536) (s : State) : Out := .next (s.kRun c (.imm .addi rd rs1 k))
def execAndi (c : Fin 64) (rd rs1 : Fin 32) (k : Fin 65536) (s : State) : Out := .next (s.kRun c (.imm .andi rd rs1 k))
def execOri (c : Fin 64) (rd rs1 : Fin 32) (k : Fin 65536) (s : State) : Out := .next (s.kRun c (.imm .ori rd rs1 k))
def execXori (c : Fin 64) (rd rs1 : Fin 32) (k : Fin 65536) (s : State) : Out := .next (s.kRun c (.imm .xori rd rs1 k))
def execSlti (c : Fin 64) (rd rs1 : Fin 32) (k : Fin 65536) (s : State) : Out := .next (s.kRun c (.imm .slti rd rs1 k))
def execSltiu (c : Fin 64) (rd rs1 : Fin 32) (k : Fin 65536) (s : State) : Out := .next (s.kRun c (.imm .sltiu rd rs1 k))
def execSlli (c : Fin 64) (rd rs1 : Fin 32) (n : Fin 32) (s : State) : Out := .next (s.kRun c (.shi .slli rd rs1 n))
def execSrli (c : Fin 64) (rd rs1 : Fin 32) (n : Fin 32) (s : State) : Out := .next (s.kRun c (.shi .srli rd rs1 n))
def execSrai (c : Fin 64) (rd rs1 : Fin 32) (n : Fin 32) (s : State) : Out := .next (s.kRun c (.shi .srai rd rs1 n))
def execLui (c : Fin 64) (rd : Fin 32) (k : Fin 65536) (s : State) : Out := .next (s.kRun c (.lui rd k))
def execLpc (c : Fin 64) (rd : Fin 32) (k : Fin 65536) (s : State) : Out := .next (s.kRun c (.lpc rd k))
def execLw (c : Fin 64) (rd rs1 : Fin 32) (k : Fin 65536) (s : State) : Out := .next (s.kRun c (.load .lw rd rs1 k))
def execLh (c : Fin 64) (rd rs1 : Fin 32) (k : Fin 65536) (s : State) : Out := .next (s.kRun c (.load .lh rd rs1 k))
def execLhu (c : Fin 64) (rd rs1 : Fin 32) (k : Fin 65536) (s : State) : Out := .next (s.kRun c (.load .lhu rd rs1 k))
def execLb (c : Fin 64) (rd rs1 : Fin 32) (k : Fin 65536) (s : State) : Out := .next (s.kRun c (.load .lb rd rs1 k))
def execLbu (c : Fin 64) (rd rs1 : Fin 32) (k : Fin 65536) (s : State) : Out := .next (s.kRun c (.load .lbu rd rs1 k))
def execSw (c : Fin 64) (rs2 rs1 : Fin 32) (k : Fin 65536) (s : State) : Out := .next (s.kRun c (.store .sw rs2 rs1 k))
def execSh (c : Fin 64) (rs2 rs1 : Fin 32) (k : Fin 65536) (s : State) : Out := .next (s.kRun c (.store .sh rs2 rs1 k))
def execSb (c : Fin 64) (rs2 rs1 : Fin 32) (k : Fin 65536) (s : State) : Out := .next (s.kRun c (.store .sb rs2 rs1 k))
def execBeq (c : Fin 64) (rs1 rs2 : Fin 32) (k : Fin 65536) (s : State) : Out := .next (s.kRun c (.branch .beq rs1 rs2 k))
def execBne (c : Fin 64) (rs1 rs2 : Fin 32) (k : Fin 65536) (s : State) : Out := .next (s.kRun c (.branch .bne rs1 rs2 k))
def execBlt (c : Fin 64) (rs1 rs2 : Fin 32) (k : Fin 65536) (s : State) : Out := .next (s.kRun c (.branch .blt rs1 rs2 k))
def execBge (c : Fin 64) (rs1 rs2 : Fin 32) (k : Fin 65536) (s : State) : Out := .next (s.kRun c (.branch .bge rs1 rs2 k))
def execBltu (c : Fin 64) (rs1 rs2 : Fin 32) (k : Fin 65536) (s : State) : Out := .next (s.kRun c (.branch .bltu rs1 rs2 k))
def execBgeu (c : Fin 64) (rs1 rs2 : Fin 32) (k : Fin 65536) (s : State) : Out := .next (s.kRun c (.branch .bgeu rs1 rs2 k))
def execJ (c : Fin 64) (k : Fin 67108864) (s : State) : Out := .next (s.kRun c (.jump false k))
def execJal (c : Fin 64) (k : Fin 67108864) (s : State) : Out := .next (s.kRun c (.jump true k))
def execJr (c : Fin 64) (rd rs1 : Fin 32) (k : Fin 65536) (s : State) : Out := .next (s.kRun c (.jr rd rs1 k))
def execCas (c : Fin 64) (rd rs1 rs2 : Fin 32) (s : State) : Out := .next (s.kRun c (.atom false rd rs1 rs2))
def execAadd (c : Fin 64) (rd rs1 rs2 : Fin 32) (s : State) : Out := .next (s.kRun c (.atom true rd rs1 rs2))
def execMcpy (c : Fin 64) (rd rs1 rs2 : Fin 32) (s : State) : Out := .next (s.kRun c (.mcpy rd rs1 rs2))
def execBfx (c : Fin 64) (rd rs1 : Fin 32) (start : Fin 512) (len1 : Fin 32) (be sign : Bool) (s : State) : Out := .next (s.kRun c (.bfx rd rs1 start len1 be sign))
def execBfi (c : Fin 64) (rs2 rs1 : Fin 32) (start : Fin 512) (len1 : Fin 32) (be : Bool) (s : State) : Out := .next (s.kRun c (.bfi rs2 rs1 start len1 be))
def execCrc (c : Fin 64) (rd rs1 rs2 : Fin 32) (sel : Fin 7) (s : State) : Out := .next (s.kRun c (.crc rd rs1 rs2 sel))
def execScx (c : Fin 64) (rd rs1 rs2 : Fin 32) (sign : Bool) (len1 : Fin 32) (s : State) : Out := .next (s.kRun c (.scl .scx rd rs1 rs2 sign len1))
def execScf (c : Fin 64) (rd rs1 rs2 : Fin 32) (sign : Bool) (len1 : Fin 32) (s : State) : Out := .next (s.kRun c (.scl .scf rd rs1 rs2 sign len1))
def execUsx (c : Fin 64) (rd rs1 rs2 : Fin 32) (sign : Bool) (len1 : Fin 32) (s : State) : Out := .next (s.kRun c (.scl .usx rd rs1 rs2 sign len1))
def execUfs (c : Fin 64) (rd rs1 rs2 : Fin 32) (sign : Bool) (len1 : Fin 32) (s : State) : Out := .next (s.kRun c (.scl .ufs rd rs1 rs2 sign len1))
def execSget (c : Fin 64) (rd rs1 rs2 : Fin 32) (s : State) : Out := .next (s.kRun c (.sget rd rs1 rs2))
def execSput (c : Fin 64) (rd rs1 rs2 : Fin 32) (s : State) : Out := .next (s.kRun c (.sput rd rs1 rs2))
def execTlk (c : Fin 64) (rd rs1 rs2 : Fin 32) (type : Fin 8) (sr : Fin 32) (s : State) : Out := .next (s.kRun c (.tlk rd rs1 rs2 type sr))
def execEmit (c : Fin 64) (rd rs1 rs2 : Fin 32) (s : State) : Out := .next (s.kRun c (.emit rd rs1 rs2))
def execTarm (c : Fin 64) (rd rs1 rs2 : Fin 32) (t : Fin 4) (periodic : Bool) (s : State) : Out := .next (s.kRun c (.tarm rd rs1 rs2 t periodic false))
def execTarmCancel (c : Fin 64) (rd rs1 rs2 : Fin 32) (t : Fin 4) (periodic : Bool) (s : State) : Out := .next (s.kRun c (.tarm rd rs1 rs2 t periodic true))
def execHset (c : Fin 64) (rd rs1 rs2 : Fin 32) (s : State) : Out := .next (s.kRun c (.hset rd rs1 rs2))
def execCiph (c : Fin 64) (rd rs1 : Fin 32) (s : State) : Out := .next (s.kRun c (.ciph rd rs1))
def execNop (c : Fin 64) (s : State) : Out := .next (s.kRun c (.nop))
def execTnow (c : Fin 64) (pair : Fin 15) (s : State) : Out := .next (s.kRun c (.tnow pair))
def execRnd (c : Fin 64) (rd : Fin 32) (s : State) : Out := .next (s.kRun c (.rnd rd))
def execBudl (c : Fin 64) (rd : Fin 32) (s : State) : Out := .next (s.kRun c (.budl rd))
def execWho (c : Fin 64) (rd : Fin 32) (s : State) : Out := .next (s.kRun c (.who rd))
def execDone (c : Fin 64) (s : State) : Out := .next (s.kRun c (.done))
def execAbandon (c : Fin 64) (s : State) : Out := .next (s.kRun c (.abandon))
def execIllegalInstruction (c : Fin 64) (s : State) : Out := .next (s.kIllegal c)

end Sys2Proof.Machine
end

