-- ==== Sys2Proof/Machine/RegRows.lean ====
section
/-! DEFINITION. The commands that are register writes: each is one write of its register by a master, with the bit that names the
command set (R8, R29). -/

namespace Sys2Proof.Machine

/-- R75: A write of BNK_CTL.hb refreshes the warden heartbeat in the bank die. -/
def execHb (m : Master) (v : Word) (s : State) : Host.Outcome State Fault Refusal :=
  .next (s.regCommand m BNK_CTL (v ||| 1))

/-- R392: A sleep request to the bank die is declined if a wake edge or CAN flag is set, otherwise heaters go off and the device enters bank only. -/
def execSleepReq (m : Master) (v : Word) (s : State) : Host.Outcome State Fault Refusal :=
  .next (s.regCommand m BNK_CTL (v ||| 2))

/-- R400: A write of a heater demand makes it fresh for refresh_ms from the next period start. -/
def execHeaterDemandWrite (m : Master) (n : Fin 12) (v : Word) (s : State) : Host.Outcome State Fault Refusal :=
  .next (s.regCommand m (BNK_HTR_DEMAND n.val) v)

/-- R402: A write of BNK_HTR_CMD_n.clear clears short_latched and short_run. -/
def execClear (m : Master) (n : Fin 12) (v : Word) (s : State) : Host.Outcome State Fault Refusal :=
  .next (s.regCommand m (BNK_HTR_CMD n.val) (v ||| 1))

/-- R406: A write of BNK_SUP_CFG.clr_min sets min_mv to the current reading. -/
def execClrMin (m : Master) (v : Word) (s : State) : Host.Outcome State Fault Refusal :=
  .next (s.regCommand m BNK_SUP_CFG (v ||| 256))

/-- R45: A write of need_swap swaps the next needs into active for all monitors at the next period boundary. -/
def execNeedSwap (m : Master) (v : Word) (s : State) : Host.Outcome State Fault Refusal :=
  .next (s.regCommand m HLT_GOV_CTL (v ||| 2))

/-- R53: A write of the tide rate loads the adjustment, clamping beyond ±500 ppm with event 0x0203. -/
def execHltTideRateWrite (m : Master) (v : Word) (s : State) : Host.Outcome State Fault Refusal :=
  .next (s.regCommand m HLT_TIDE_RATE v)

/-- R38: A write of step_go adds the signed step to the tide clock at one tick for every timestamp point. -/
def execStepGo (m : Master) (v : Word) (s : State) : Host.Outcome State Fault Refusal :=
  .next (s.regCommand m HLT_TIDE_CTL (v ||| 1))

/-- R53: A write of HLT_PMB_CFG.clr_counts clears err_count. -/
def execClrCounts (m : Master) (v : Word) (s : State) : Host.Outcome State Fault Refusal :=
  .next (s.regCommand m HLT_PMB_CFG (v ||| 512))

/-- R53: A write of HLT_TEMP_LIM.clr_max sets every max_hold to the current reading. -/
def execClrMax (m : Master) (v : Word) (s : State) : Host.Outcome State Fault Refusal :=
  .next (s.regCommand m HLT_TEMP_LIM (v ||| 0x1000000))

/-- R87: A write of a berm or port enable that would exceed 12,288 berm cells is refused whole with event 0x0401. -/
def execBermConfigWrite (m : Master) (k : Fin 48) (v : Word) (s : State) : Host.Outcome State Fault Refusal :=
  .next (s.regCommand m (if k.val < 32 then SWC_PORT_CFG k.val else SWC_BERM_LO 0 + 4 * (k.val - 32)) v)

/-- R112: A write of SWC_CNT_CLR with go clears the 16 counters of the named port. -/
def execSwcCntClr (m : Master) (p : Fin 32) (s : State) : Host.Outcome State Fault Refusal :=
  .next (s.regCommand m SWC_CNT_CLR (BitVec.ofNat 32 (p.val + 64)))

/-- R112: A write of SWC_CNT_CLR with all and go clears every SWC counter and collide counter. -/
def execSwcCntClrAll (m : Master) (v : Word) (s : State) : Host.Outcome State Fault Refusal :=
  .next (s.regCommand m SWC_CNT_CLR (v ||| 96))

/-- R117: The write command replaces a policer's rate, burst and en between two decisions. -/
def execPolicerWrite (m : Master) (v : Word) (s : State) : Host.Outcome State Fault Refusal :=
  .next (s.regCommand m TMG_POL_CMD (v ||| 1))

/-- R132: The read command loads the selected policer's settings, level and counters into the TMG registers. -/
def execPolicerRead (m : Master) (v : Word) (s : State) : Host.Outcome State Fault Refusal :=
  .next (s.regCommand m TMG_POL_CMD (v ||| 2))

/-- R132: The clr command clears the selected policer's pass and drop counters. -/
def execPolicerClr (m : Master) (v : Word) (s : State) : Host.Outcome State Fault Refusal :=
  .next (s.regCommand m TMG_POL_CMD (v ||| 4))

/-- R132: A write of TMG_CTL.clr_gate_cnt clears every gate counter. -/
def execClrGateCnt (m : Master) (v : Word) (s : State) : Host.Outcome State Fault Refusal :=
  .next (s.regCommand m TMG_CTL (v ||| 1))

/-- R132: A write of TMG_CTL.clr_pol_cnt clears the pass and drop counters of all policers. -/
def execClrPolCnt (m : Master) (v : Word) (s : State) : Host.Outcome State Fault Refusal :=
  .next (s.regCommand m TMG_CTL (v ||| 2))

/-- R119: A shaper write takes effect between two grants and limits the credit to the new burst. -/
def execShaperConfigWrite (m : Master) (k : Fin 256) (burst : Bool) (v : Word) (s : State) : Host.Outcome State Fault Refusal :=
  .next (s.regCommand m (if burst then TMG_SHP_BURST k.val else TMG_SHP_CFG k.val) v)

/-- R126: A write of TMG_TT_CTL.change captures the new schedule and fixes the switch instant, or is refused. -/
def execChange (m : Master) (p : Fin 28) (v : Word) (s : State) : Host.Outcome State Fault Refusal :=
  .next (s.regCommand m (TMG_TT_CTL p.val) (v ||| 4))

/-- R128: A write of TMG_TT_CTL.en starts the named list at once, or opens all gates and cancels a pending change. -/
def execTtEnable (m : Master) (p : Fin 28) (v : Word) (s : State) : Host.Outcome State Fault Refusal :=
  .next (s.regCommand m (TMG_TT_CTL p.val) v)

/-- R127: A write of a tide table entry is applied unless it targets the operating or pending list, and increments the index. -/
def execTmgTtDataWrite (m : Master) (v : Word) (s : State) : Host.Outcome State Fault Refusal :=
  .next (s.regCommand m TMG_TT_DATA v)

/-- R130: A write of a histogram selector clears that slot's bins from the next period boundary. -/
def execTmgHistSelWrite (m : Master) (h : Fin 64) (v : Word) (s : State) : Host.Outcome State Fault Refusal :=
  .next (s.regCommand m (TMG_HIST_SEL h.val) v)

/-- R129: A write of clr_wm clears all watermarks. -/
def execClrWm (m : Master) (v : Word) (s : State) : Host.Outcome State Fault Refusal :=
  .next (s.regCommand m TMG_GAUGE_CTL (v ||| 0x40000))

/-- R132: A write of clr_hist clears all histogram bins. -/
def execClrHist (m : Master) (v : Word) (s : State) : Host.Outcome State Fault Refusal :=
  .next (s.regCommand m TMG_GAUGE_CTL (v ||| 0x80000))

/-- R156: A write of CSG_G_REVERT_g.revert ends the slot's redirection. -/
def execRevert (m : Master) (g : Fin 64) (v : Word) (s : State) : Host.Outcome State Fault Refusal :=
  .next (s.regCommand m (CSG_G_REVERT g.val) (v ||| 0x10000))

/-- R151: A write of a slot's configuration enables it into ACQUIRING or returns it to OFF and ends redirection. -/
def execCsgGCfgWrite (m : Master) (g : Fin 64) (v : Word) (s : State) : Host.Outcome State Fault Refusal :=
  .next (s.regCommand m (CSG_G_CFG g.val) v)

/-- R156: A write clearing backup_en ends the slot's redirection. -/
def execCsgGBackupWrite (m : Master) (g : Fin 64) (v : Word) (s : State) : Host.Outcome State Fault Refusal :=
  .next (s.regCommand m (CSG_G_BACKUP g.val) v)

/-- R141: A write of a recovery context takes effect between two frames and sets take_any when en rises. -/
def execCsgFrerCfgWrite (m : Master) (c : Fin 512) (v : Word) (s : State) : Host.Outcome State Fault Refusal :=
  .next (s.regCommand m (CSG_FRER_CFG c.val) v)

/-- R159: A write of CSG_CNT_CLR.guards clears every slot's missing and fault counters. -/
def execCsgClrGuards (m : Master) (v : Word) (s : State) : Host.Outcome State Fault Refusal :=
  .next (s.regCommand m CSG_CNT_CLR (v ||| 1))

/-- R159: A write of CSG_CNT_CLR.frer clears every FRER counter. -/
def execCsgClrFrer (m : Master) (v : Word) (s : State) : Host.Outcome State Fault Refusal :=
  .next (s.regCommand m CSG_CNT_CLR (v ||| 2))

/-- R159: A write of CSG_CNT_CLR.refused clears CSG_REFUSED. -/
def execCsgClrRefused (m : Master) (v : Word) (s : State) : Host.Outcome State Fault Refusal :=
  .next (s.regCommand m CSG_CNT_CLR (v ||| 4))

/-- R161: A write of the PHY configuration starts or stops training, or restarts it in a new mode. -/
def execEthPhyCfgWrite (m : Master) (p : Fin 28) (v : Word) (s : State) : Host.Outcome State Fault Refusal :=
  .next (s.regCommand m (ETH_PHY_CFG p.val) v)

/-- R173: A write of word 0 of a secure association applies its staged words and loads the key copy. -/
def execSaWord0Write (m : Master) (p : Fin 20) (e : Fin 36) (v : Word) (s : State) : Host.Outcome State Fault Refusal :=
  .next (s.regCommand m (saAddr p.val e.val 0) v)

/-- R173: A write of tx_an switches transmission to another association at the next frame boundary. -/
def execTxAnSwitch (m : Master) (p : Fin 20) (v : Word) (s : State) : Host.Outcome State Fault Refusal :=
  .next (s.regCommand m (ETH_SEC_CFG p.val) v)

/-- R177: A write of ETH_TXTS_ACK.ack removes the head transmit timestamp. -/
def execTxtsAck (m : Master) (p : Fin 28) (v : Word) (s : State) : Host.Outcome State Fault Refusal :=
  .next (s.regCommand m (ETH_TXTS_ACK p.val) (v ||| 1))

/-- R178: A write of sleep_req sends a TC10 sleep request to the link partner. -/
def execTc10SleepReq (m : Master) (p : Fin 28) (v : Word) (s : State) : Host.Outcome State Fault Refusal :=
  .next (s.regCommand m (ETH_TC10_CFG p.val) (v ||| 4))

/-- R179: A write of wake_req leaves TC10 sleep and restarts training. -/
def execWakeReq (m : Master) (p : Fin 28) (v : Word) (s : State) : Host.Outcome State Fault Refusal :=
  .next (s.regCommand m (ETH_TC10_CFG p.val) (v ||| 8))

/-- R183: A write of ETH_CNT_CLR.go clears the port's counters. -/
def execEthCntClr (m : Master) (p : Fin 28) (v : Word) (s : State) : Host.Outcome State Fault Refusal :=
  .next (s.regCommand m (ETH_CNT_CLR p.val) (v ||| 1))

/-- R188: A write of CAN_CTL.mode requests a mode change, held or pending as the rules state. -/
def execCanModeWrite (m : Master) (n : Fin 24) (v : Word) (s : State) : Host.Outcome State Fault Refusal :=
  .next (s.regCommand m (CAN_CTL n.val) v)

/-- R187: A write of a bit-timing or format register is applied only while the channel is off, otherwise refused. -/
def execCanConfigWrite (m : Master) (n : Fin 24) (k : Fin 5) (v : Word) (s : State) : Host.Outcome State Fault Refusal :=
  .next (s.regCommand m (CAN_CTL n.val + 0x10 + 4 * k.val) v)

/-- R193: A write of CAN_FLT_DATA1 applies both staged words to the element and increments the index. -/
def execFilterElementWrite (m : Master) (n : Fin 24) (v : Word) (s : State) : Host.Outcome State Fault Refusal :=
  .next (s.regCommand m (CAN_FLT_DATA1 n.val) v)

/-- R195: A write of ack0 or ack1 removes the head of the named receive queue in register mode. -/
def execRxqAck (m : Master) (n : Fin 24) (v : Word) (s : State) : Host.Outcome State Fault Refusal :=
  .next (s.regCommand m (CAN_RXQ_ACK n.val) v)

/-- R201: A write of CAN_TXR_CMD.submit passes the register record to the transmit checks and backlog. -/
def execSubmit (m : Master) (n : Fin 24) (v : Word) (s : State) : Host.Outcome State Fault Refusal :=
  .next (s.regCommand m (CAN_TXR_CMD n.val) (v ||| 1))

/-- R204: A write of CAN_TXB_CMD_b.cancel removes, withdraws or lets complete the buffer's frame by its state at the edge. -/
def execCancel (m : Master) (n : Fin 24) (b : Fin 3) (v : Word) (s : State) : Host.Outcome State Fault Refusal :=
  .next (s.regCommand m (CAN_TXB_CMD n.val b.val) (v ||| 1))

/-- R204: A write of CAN_TX_CTL.flush cancels all three buffers and empties the backlog. -/
def execFlush (m : Master) (n : Fin 24) (v : Word) (s : State) : Host.Outcome State Fault Refusal :=
  .next (s.regCommand m (CAN_TX_CTL n.val) (v ||| 1))

/-- R210: A write of CAN_CNT_CLR.go clears the channel's counters. -/
def execCanCntClr (m : Master) (n : Fin 24) (v : Word) (s : State) : Host.Outcome State Fault Refusal :=
  .next (s.regCommand m (CAN_CNT_CLR n.val) (v ||| 1))

/-- R189: A write of CAN_CTL.recover while the channel is bus-off with boff_mode 1 starts bus-off recovery; at any other time it has no effect. -/
def execCanCtlRecover (m : Master) (n : Fin 24) (v : Word) (s : State) : Host.Outcome State Fault Refusal :=
  .next (s.regCommand m (CAN_CTL n.val) (v ||| 16))

/-- R237: A write of TBL_CTL.sweep_now starts a sweep at once. -/
def execSweepNow (m : Master) (v : Word) (s : State) : Host.Outcome State Fault Refusal :=
  .next (s.regCommand m TBL_CTL (v ||| 4))

/-- R238: A write of TBL_CNT_CLR.go clears every TBL counter. -/
def execTblCntClr (m : Master) (v : Word) (s : State) : Host.Outcome State Fault Refusal :=
  .next (s.regCommand m TBL_CNT_CLR (v ||| 1))

/-- R274: A write of KPR_RT_CMD.resume ends the selected routine's suspension. -/
def execResume (m : Master) (v : Word) (s : State) : Host.Outcome State Fault Refusal :=
  .next (s.regCommand m KPR_RT_CMD (v ||| 1))

/-- R276: A write of KPR_RT_CMD.clr clears the selected routine's counters and max_used. -/
def execRoutineClr (m : Master) (v : Word) (s : State) : Host.Outcome State Fault Refusal :=
  .next (s.regCommand m KPR_RT_CMD (v ||| 2))

/-- R276: A write of KPR_CNT_CLR.go clears the counters of every routine. -/
def execKprCntClr (m : Master) (v : Word) (s : State) : Host.Outcome State Fault Refusal :=
  .next (s.regCommand m KPR_CNT_CLR (v ||| 1))

/-- R302: A write of PLC_CNT_CLR.go clears every PLC counter and the maximum pause. -/
def execPlcCntClr (m : Master) (v : Word) (s : State) : Host.Outcome State Fault Refusal :=
  .next (s.regCommand m PLC_CNT_CLR (v ||| 1))

/-- R332: A write of FAB_SIG_SEND.go sends a SIGNAL carrying FAB_SIG_VAL. -/
def execGo (m : Master) (v : Word) (s : State) : Host.Outcome State Fault Refusal :=
  .next (s.regCommand m FAB_SIG_SEND (v ||| 32))

/-- R338: A write of FAB_CTL.rediscover floods a fresh LSA and restarts the settle time. -/
def execRediscover (m : Master) (v : Word) (s : State) : Host.Outcome State Fault Refusal :=
  .next (s.regCommand m FAB_CTL (v ||| 2))

/-- R339: A write of FAB_CNT_CLR.go clears every FAB counter. -/
def execFabCntClr (m : Master) (v : Word) (s : State) : Host.Outcome State Fault Refusal :=
  .next (s.regCommand m FAB_CNT_CLR (v ||| 1))

/-- R347: A write of SEC_LOCK_REQ.req queues the warden's request for the engine lock. -/
def execReq (m : Master) (v : Word) (s : State) : Host.Outcome State Fault Refusal :=
  .next (s.regCommand m SEC_LOCK_REQ (v ||| 1))

/-- R347: A write of release frees the lock held by the warden or withdraws its request. -/
def execRelease (m : Master) (v : Word) (s : State) : Host.Outcome State Fault Refusal :=
  .next (s.regCommand m SEC_LOCK_REQ (v ||| 2))

/-- R352: A write of SEC_ENG_CMD.go starts the warden's descriptor operation on the engine. -/
def execEngineGo (m : Master) (v : Word) (s : State) : Host.Outcome State Fault Refusal :=
  .next (s.regCommand m SEC_ENG_CMD (v ||| 1))

/-- R356: A write of SEC_RNG_ACK.ack removes the head random word. -/
def execRngAck (m : Master) (v : Word) (s : State) : Host.Outcome State Fault Refusal :=
  .next (s.regCommand m SEC_RNG_ACK (v ||| 1))

/-- R359: A write of SEC_CNT_CLR.go clears every SEC counter. -/
def execSecCntClr (m : Master) (v : Word) (s : State) : Host.Outcome State Fault Refusal :=
  .next (s.regCommand m SEC_CNT_CLR (v ||| 1))

/-- R386: A write of SEC_SHA_CMD.init starts a new hash. -/
def execInit (m : Master) (v : Word) (s : State) : Host.Outcome State Fault Refusal :=
  .next (s.regCommand m SEC_SHA_CMD (v ||| 1))

/-- R386: A write of SEC_SHA_CMD.update hashes the given range. -/
def execUpdate (m : Master) (v : Word) (s : State) : Host.Outcome State Fault Refusal :=
  .next (s.regCommand m SEC_SHA_CMD (v ||| 2))

/-- R386: A write of SEC_SHA_CMD.final pads and writes the digest. -/
def execFinal (m : Master) (v : Word) (s : State) : Host.Outcome State Fault Refusal :=
  .next (s.regCommand m SEC_SHA_CMD (v ||| 4))

/-- R423: A write of FLT_FAULT_DONE.done pops the top fault and pushes or resumes the next. -/
def execDoneFault (m : Master) (v : Word) (s : State) : Host.Outcome State Fault Refusal :=
  .next (s.regCommand m FLT_FAULT_DONE (v ||| 1))

/-- R431: A write of FLT_EVQ_ACK marks the entry with that slot and generation as read. -/
def execEvqAck (m : Master) (v : Word) (s : State) : Host.Outcome State Fault Refusal :=
  .next (s.regCommand m FLT_EVQ_ACK v)

/-- R435: A write of FLT_CNT_CLR.lost clears the lost counters and ecc_lost. -/
def execFltClrLost (m : Master) (v : Word) (s : State) : Host.Outcome State Fault Refusal :=
  .next (s.regCommand m FLT_CNT_CLR (v ||| 1))

/-- R435: A write of FLT_CNT_CLR.src clears every posting-lost counter. -/
def execFltClrSrc (m : Master) (v : Word) (s : State) : Host.Outcome State Fault Refusal :=
  .next (s.regCommand m FLT_CNT_CLR (v ||| 2))

/-- R435: A write of FLT_CNT_CLR.ecc clears the ECC counts of every memory. -/
def execFltClrEcc (m : Master) (v : Word) (s : State) : Host.Outcome State Fault Refusal :=
  .next (s.regCommand m FLT_CNT_CLR (v ||| 4))

/-- R437: A write of SYS_CMD_PROD issues commands, or is ignored with prod_err. -/
def execProd (m : Master) (v : Word) (s : State) : Host.Outcome State Fault Refusal :=
  .next (s.regCommand m SYS_CMD_PROD v)

/-- R438: A write of SYS_CMD_ACK frees result slots, or is ignored with ack_err. -/
def execCmdAck (m : Master) (v : Word) (s : State) : Host.Outcome State Fault Refusal :=
  .next (s.regCommand m SYS_CMD_ACK v)

/-! The commands for the rest of the map -/

/-- R8: a write of any register, of one or of two words, by its physical address. A PCIe request of two words is two word
accesses (R473). -/
def execRegisterWrite (m : Master) (addr : BitVec 40) (wide : Bool) (v : DWord) (s : State) : Host.Outcome State Fault Refusal :=
  .next (if m = .pcie then s.pcieWrite addr.toNat ((leBytes (if wide then 8 else 4) v.toNat).map some)
    else s.busWrite m addr.toNat (if wide then 8 else 4) v.toNat)

/-- R388: a read or a write of a BNK register over the dike link; the two flags say whether the frame and its answer arrive. -/
def execDikeLinkTransaction (m : Master) (write : Bool) (off : Fin 65536) (v : Word) (arrives answered : Bool) (s : State) :
    Host.Outcome State Fault Refusal :=
  .next (if !s.running then s
    else if accessOk m write (0x20100000 + off.val) 4 then (s.seen m).dikeAccess (some m) write off.val v arrives answered
    else (s.seen m).refuse m (0x20100000 + off.val))

/-- R389: no answer has come within 4 µs. -/
def execDikeLinkRetry (arrives answered : Bool) (s : State) : Host.Outcome State Fault Refusal :=
  .next (s.dikeRetry arrives answered)

end Sys2Proof.Machine
end

