-- ==== Sys2Proof/Machine/Dispatch.lean ====
section
/-! DEFINITION. The dispatch: one arm for each command. -/

namespace Sys2Proof.Machine

open Sys2Proof

def exec (i : Instr) (s : State) : Host.Outcome State Fault Refusal :=
  match i with
  | .registerWrite m addr wide v => Sys2Proof.Machine.execRegisterWrite m addr wide v s
  | .memoryWrite m addr bs => Sys2Proof.Machine.execMemoryWrite m addr bs s
  | .aliasWrite m clear addr wide v => Sys2Proof.Machine.execAliasWrite m clear addr wide v s
  | .vbatValid => Sys2Proof.Machine.execVbatValid s
  | .enVlineVcoreRaise => Sys2Proof.Machine.execEnVlineVcoreRaise s
  | .supPgHigh => Sys2Proof.Machine.execSupPgHigh s
  | .supplyStartTimeout => Sys2Proof.Machine.execSupplyStartTimeout s
  | .supplyRetry => Sys2Proof.Machine.execSupplyRetry s
  | .supplyLost => Sys2Proof.Machine.execSupplyLost s
  | .resetRelease psel head => Sys2Proof.Machine.execResetRelease psel head s
  | .thermalWaitEnd => Sys2Proof.Machine.execThermalWaitEnd s
  | .firmwareVerified burns => Sys2Proof.Machine.execFirmwareVerified burns s
  | .coldBlockLoaded => Sys2Proof.Machine.execColdBlockLoaded s
  | .fullOperation failed => Sys2Proof.Machine.execFullOperation failed s
  | .coldPortNoLink p => Sys2Proof.Machine.execColdPortNoLink p s
  | .perstNDeassert => Sys2Proof.Machine.execPerstNDeassert s
  | .pcieLinkChange up => Sys2Proof.Machine.execPcieLinkChange up s
  | .functionLevelReset => Sys2Proof.Machine.execFunctionLevelReset s
  | .vbatSample mv => Sys2Proof.Machine.execVbatSample mv s
  | .crankingHoldEnd => Sys2Proof.Machine.execCrankingHoldEnd s
  | .overvoltageExit => Sys2Proof.Machine.execOvervoltageExit s
  | .rideThroughExpiry => Sys2Proof.Machine.execRideThroughExpiry s
  | .brownOutRestart => Sys2Proof.Machine.execBrownOutRestart s
  | .bankPowerOnReset => Sys2Proof.Machine.execBankPowerOnReset s
  | .heartbeatLost => Sys2Proof.Machine.execHeartbeatLost s
  | .hb m v => Sys2Proof.Machine.execHb m v s
  | .fatal => Sys2Proof.Machine.execFatal s
  | .fatalResetAssert => Sys2Proof.Machine.execFatalResetAssert s
  | .vcoreHoldEnd => Sys2Proof.Machine.execVcoreHoldEnd s
  | .extRstN => Sys2Proof.Machine.execExtRstN s
  | .debugPortReset => Sys2Proof.Machine.execDebugPortReset s
  | .sleepReq m v => Sys2Proof.Machine.execSleepReq m v s
  | .wakeInputChange ix level => Sys2Proof.Machine.execWakeInputChange ix level s
  | .wakeFilterExpiry ix => Sys2Proof.Machine.execWakeFilterExpiry ix s
  | .wakeArm ix => Sys2Proof.Machine.execWakeArm ix s
  | .wakeStuck ix => Sys2Proof.Machine.execWakeStuck ix s
  | .canWakePattern n => Sys2Proof.Machine.execCanWakePattern n s
  | .selectiveWakeFrame n f => Sys2Proof.Machine.execSelectiveWakeFrame n f s
  | .transceiverDominantTimeout n => Sys2Proof.Machine.execTransceiverDominantTimeout n s
  | .dikeLinkTransaction m write off v arrives answered => Sys2Proof.Machine.execDikeLinkTransaction m write off v arrives answered s
  | .dikeLinkRetry arrives answered => Sys2Proof.Machine.execDikeLinkRetry arrives answered s
  | .pwmPeriodStart currents => Sys2Proof.Machine.execPwmPeriodStart currents s
  | .heaterDemandWrite m n v => Sys2Proof.Machine.execHeaterDemandWrite m n v s
  | .demandExpiry n => Sys2Proof.Machine.execDemandExpiry n s
  | .decayStep n => Sys2Proof.Machine.execDecayStep n s
  | .heaterShort n => Sys2Proof.Machine.execHeaterShort n s
  | .shortRetry n => Sys2Proof.Machine.execShortRetry n s
  | .shortRunReset n => Sys2Proof.Machine.execShortRunReset n s
  | .vbatShort n => Sys2Proof.Machine.execVbatShort n s
  | .thermalModelUpdate => Sys2Proof.Machine.execThermalModelUpdate s
  | .clear m n v => Sys2Proof.Machine.execClear m n v s
  | .clrMin m v => Sys2Proof.Machine.execClrMin m v s
  | .governorPeriod rates => Sys2Proof.Machine.execGovernorPeriod rates s
  | .needSwap m v => Sys2Proof.Machine.execNeedSwap m v s
  | .loadNotMet => Sys2Proof.Machine.execLoadNotMet s
  | .pmbusTransactionDone r => Sys2Proof.Machine.execPmbusTransactionDone r s
  | .pmbusClockStretchTimeout => Sys2Proof.Machine.execPmbusClockStretchTimeout s
  | .pmbAlertN fails status => Sys2Proof.Machine.execPmbAlertN fails status s
  | .voutModeRead fails linear => Sys2Proof.Machine.execVoutModeRead fails linear s
  | .tempSample r => Sys2Proof.Machine.execTempSample r s
  | .tempCritical => Sys2Proof.Machine.execTempCritical s
  | .vmonSample r => Sys2Proof.Machine.execVmonSample r s
  | .vcoreUndervolt n => Sys2Proof.Machine.execVcoreUndervolt n s
  | .hltTideRateWrite m v => Sys2Proof.Machine.execHltTideRateWrite m v s
  | .stepGo m v => Sys2Proof.Machine.execStepGo m v s
  | .clrCounts m v => Sys2Proof.Machine.execClrCounts m v s
  | .clrMax m v => Sys2Proof.Machine.execClrMax m v s
  | .presentationCheckResume => Sys2Proof.Machine.execPresentationCheckResume s
  | .syncReceiptTimeout => Sys2Proof.Machine.execSyncReceiptTimeout s
  | .gptpSync offset time => Sys2Proof.Machine.execGptpSync offset time s
  | .frameReceive p bytes phyErr => Sys2Proof.Machine.execFrameReceive p bytes phyErr s
  | .spillTargetRetry b => Sys2Proof.Machine.execSpillTargetRetry b s
  | .learnRequestServe => Sys2Proof.Machine.execLearnRequestServe s
  | .frameEnd p => Sys2Proof.Machine.execFrameEnd p s
  | .matcherRound => Sys2Proof.Machine.execMatcherRound s
  | .transferComplete ix => Sys2Proof.Machine.execTransferComplete ix s
  | .transmitFrame o cells => Sys2Proof.Machine.execTransmitFrame o cells s
  | .transmitUnderrun o => Sys2Proof.Machine.execTransmitUnderrun o s
  | .residueTimeout id => Sys2Proof.Machine.execResidueTimeout id s
  | .linkDown p => Sys2Proof.Machine.execLinkDown p s
  | .portHoldExpiry p => Sys2Proof.Machine.execPortHoldExpiry p s
  | .linkUp p => Sys2Proof.Machine.execLinkUp p s
  | .sqiLow p q => Sys2Proof.Machine.execSqiLow p q s
  | .bermConfigWrite m k v => Sys2Proof.Machine.execBermConfigWrite m k v s
  | .swcCntClr m p => Sys2Proof.Machine.execSwcCntClr m p s
  | .swcCntClrAll m v => Sys2Proof.Machine.execSwcCntClrAll m v s
  | .policerWrite m v => Sys2Proof.Machine.execPolicerWrite m v s
  | .policerRead m v => Sys2Proof.Machine.execPolicerRead m v s
  | .policerClr m v => Sys2Proof.Machine.execPolicerClr m v s
  | .clrGateCnt m v => Sys2Proof.Machine.execClrGateCnt m v s
  | .clrPolCnt m v => Sys2Proof.Machine.execClrPolCnt m v s
  | .shaperConfigWrite m k burst v => Sys2Proof.Machine.execShaperConfigWrite m k burst v s
  | .tideEntryEnd p => Sys2Proof.Machine.execTideEntryEnd p s
  | .change m p v => Sys2Proof.Machine.execChange m p v s
  | .scheduleSwitch p => Sys2Proof.Machine.execScheduleSwitch p s
  | .ttEnable m p v => Sys2Proof.Machine.execTtEnable m p v s
  | .tmgTtDataWrite m v => Sys2Proof.Machine.execTmgTtDataWrite m v s
  | .gaugeSample => Sys2Proof.Machine.execGaugeSample s
  | .tmgHistSelWrite m h v => Sys2Proof.Machine.execTmgHistSelWrite m h v s
  | .clrWm m v => Sys2Proof.Machine.execClrWm m v s
  | .clrHist m v => Sys2Proof.Machine.execClrHist m v s
  | .stall g => Sys2Proof.Machine.execStall g s
  | .lossWindowEnd g => Sys2Proof.Machine.execLossWindowEnd g s
  | .statusMessageRepeat g => Sys2Proof.Machine.execStatusMessageRepeat g s
  | .autoRevert g => Sys2Proof.Machine.execAutoRevert g s
  | .revert m g v => Sys2Proof.Machine.execRevert m g v s
  | .csgGCfgWrite m g v => Sys2Proof.Machine.execCsgGCfgWrite m g v s
  | .csgGBackupWrite m g v => Sys2Proof.Machine.execCsgGBackupWrite m g v s
  | .csgFrerCfgWrite m c v => Sys2Proof.Machine.execCsgFrerCfgWrite m c v s
  | .recoveryResetTimeout c => Sys2Proof.Machine.execRecoveryResetTimeout c s
  | .memberSilent c j => Sys2Proof.Machine.execMemberSilent c j s
  | .csgClrGuards m v => Sys2Proof.Machine.execCsgClrGuards m v s
  | .csgClrFrer m v => Sys2Proof.Machine.execCsgClrFrer m v s
  | .csgClrRefused m v => Sys2Proof.Machine.execCsgClrRefused m v s
  | .ethPhyCfgWrite m p v => Sys2Proof.Machine.execEthPhyCfgWrite m p v s
  | .saWord0Write m p e v => Sys2Proof.Machine.execSaWord0Write m p e v s
  | .txAnSwitch m p v => Sys2Proof.Machine.execTxAnSwitch m p v s
  | .txtsAck m p v => Sys2Proof.Machine.execTxtsAck m p v s
  | .tc10SleepReq m p v => Sys2Proof.Machine.execTc10SleepReq m p v s
  | .wakeReq m p v => Sys2Proof.Machine.execWakeReq m p v s
  | .tc10PartnerSleep p => Sys2Proof.Machine.execTc10PartnerSleep p s
  | .tc10SleepEntered p => Sys2Proof.Machine.execTc10SleepEntered p s
  | .tc10WakeReceived p => Sys2Proof.Machine.execTc10WakeReceived p s
  | .ethCntClr m p v => Sys2Proof.Machine.execEthCntClr m p v s
  | .canModeWrite m n v => Sys2Proof.Machine.execCanModeWrite m n v s
  | .canModeChange n => Sys2Proof.Machine.execCanModeChange n s
  | .canConfigWrite m n k v => Sys2Proof.Machine.execCanConfigWrite m n k v s
  | .canIntegrationDone n => Sys2Proof.Machine.execCanIntegrationDone n s
  | .canFrameReceived n f => Sys2Proof.Machine.execCanFrameReceived n f s
  | .canError n e => Sys2Proof.Machine.execCanError n e s
  | .busOffRecovered n seqs => Sys2Proof.Machine.execBusOffRecovered n seqs s
  | .busStuck n => Sys2Proof.Machine.execBusStuck n s
  | .busStuckEnd n => Sys2Proof.Machine.execBusStuckEnd n s
  | .filterElementWrite m n v => Sys2Proof.Machine.execFilterElementWrite m n v s
  | .rxqAck m n v => Sys2Proof.Machine.execRxqAck m n v s
  | .aggregatorHandoff => Sys2Proof.Machine.execAggregatorHandoff s
  | .aggregatorTxRecord => Sys2Proof.Machine.execAggregatorTxRecord s
  | .submit m n v => Sys2Proof.Machine.execSubmit m n v s
  | .backlogToBuffer n => Sys2Proof.Machine.execBacklogToBuffer n s
  | .canTxEnd n o => Sys2Proof.Machine.execCanTxEnd n o s
  | .identifierCollision n dataPhase => Sys2Proof.Machine.execIdentifierCollision n dataPhase s
  | .cancel m n b v => Sys2Proof.Machine.execCancel m n b v s
  | .flush m n v => Sys2Proof.Machine.execFlush m n v s
  | .canCntClr m n v => Sys2Proof.Machine.execCanCntClr m n v s
  | .trieEpochAdvance => Sys2Proof.Machine.execTrieEpochAdvance s
  | .agingSweep changed => Sys2Proof.Machine.execAgingSweep changed s
  | .sweepNow m v => Sys2Proof.Machine.execSweepNow m v s
  | .tblCntClr m v => Sys2Proof.Machine.execTblCntClr m v s
  | .clusterPortTake => Sys2Proof.Machine.execClusterPortTake s
  | .invocationStart c => Sys2Proof.Machine.execInvocationStart c s
  | .keeperTimerDue r t => Sys2Proof.Machine.execKeeperTimerDue r t s
  | .add c rd rs1 rs2 => Sys2Proof.Machine.execAdd c rd rs1 rs2 s
  | .sub c rd rs1 rs2 => Sys2Proof.Machine.execSub c rd rs1 rs2 s
  | .and c rd rs1 rs2 => Sys2Proof.Machine.execAnd c rd rs1 rs2 s
  | .or c rd rs1 rs2 => Sys2Proof.Machine.execOr c rd rs1 rs2 s
  | .xor c rd rs1 rs2 => Sys2Proof.Machine.execXor c rd rs1 rs2 s
  | .sll c rd rs1 rs2 => Sys2Proof.Machine.execSll c rd rs1 rs2 s
  | .srl c rd rs1 rs2 => Sys2Proof.Machine.execSrl c rd rs1 rs2 s
  | .sra c rd rs1 rs2 => Sys2Proof.Machine.execSra c rd rs1 rs2 s
  | .slt c rd rs1 rs2 => Sys2Proof.Machine.execSlt c rd rs1 rs2 s
  | .sltu c rd rs1 rs2 => Sys2Proof.Machine.execSltu c rd rs1 rs2 s
  | .mul c rd rs1 rs2 => Sys2Proof.Machine.execMul c rd rs1 rs2 s
  | .mulh c rd rs1 rs2 => Sys2Proof.Machine.execMulh c rd rs1 rs2 s
  | .mulhu c rd rs1 rs2 => Sys2Proof.Machine.execMulhu c rd rs1 rs2 s
  | .div c rd rs1 rs2 => Sys2Proof.Machine.execDiv c rd rs1 rs2 s
  | .divu c rd rs1 rs2 => Sys2Proof.Machine.execDivu c rd rs1 rs2 s
  | .rem c rd rs1 rs2 => Sys2Proof.Machine.execRem c rd rs1 rs2 s
  | .remu c rd rs1 rs2 => Sys2Proof.Machine.execRemu c rd rs1 rs2 s
  | .min c rd rs1 rs2 => Sys2Proof.Machine.execMin c rd rs1 rs2 s
  | .max c rd rs1 rs2 => Sys2Proof.Machine.execMax c rd rs1 rs2 s
  | .minu c rd rs1 rs2 => Sys2Proof.Machine.execMinu c rd rs1 rs2 s
  | .maxu c rd rs1 rs2 => Sys2Proof.Machine.execMaxu c rd rs1 rs2 s
  | .rev c rd rs1 => Sys2Proof.Machine.execRev c rd rs1 s
  | .revh c rd rs1 => Sys2Proof.Machine.execRevh c rd rs1 s
  | .addi c rd rs1 k => Sys2Proof.Machine.execAddi c rd rs1 k s
  | .andi c rd rs1 k => Sys2Proof.Machine.execAndi c rd rs1 k s
  | .ori c rd rs1 k => Sys2Proof.Machine.execOri c rd rs1 k s
  | .xori c rd rs1 k => Sys2Proof.Machine.execXori c rd rs1 k s
  | .slti c rd rs1 k => Sys2Proof.Machine.execSlti c rd rs1 k s
  | .sltiu c rd rs1 k => Sys2Proof.Machine.execSltiu c rd rs1 k s
  | .slli c rd rs1 n => Sys2Proof.Machine.execSlli c rd rs1 n s
  | .srli c rd rs1 n => Sys2Proof.Machine.execSrli c rd rs1 n s
  | .srai c rd rs1 n => Sys2Proof.Machine.execSrai c rd rs1 n s
  | .lui c rd k => Sys2Proof.Machine.execLui c rd k s
  | .lpc c rd k => Sys2Proof.Machine.execLpc c rd k s
  | .lw c rd rs1 k => Sys2Proof.Machine.execLw c rd rs1 k s
  | .lh c rd rs1 k => Sys2Proof.Machine.execLh c rd rs1 k s
  | .lhu c rd rs1 k => Sys2Proof.Machine.execLhu c rd rs1 k s
  | .lb c rd rs1 k => Sys2Proof.Machine.execLb c rd rs1 k s
  | .lbu c rd rs1 k => Sys2Proof.Machine.execLbu c rd rs1 k s
  | .sw c rs2 rs1 k => Sys2Proof.Machine.execSw c rs2 rs1 k s
  | .sh c rs2 rs1 k => Sys2Proof.Machine.execSh c rs2 rs1 k s
  | .sb c rs2 rs1 k => Sys2Proof.Machine.execSb c rs2 rs1 k s
  | .beq c rs1 rs2 k => Sys2Proof.Machine.execBeq c rs1 rs2 k s
  | .bne c rs1 rs2 k => Sys2Proof.Machine.execBne c rs1 rs2 k s
  | .blt c rs1 rs2 k => Sys2Proof.Machine.execBlt c rs1 rs2 k s
  | .bge c rs1 rs2 k => Sys2Proof.Machine.execBge c rs1 rs2 k s
  | .bltu c rs1 rs2 k => Sys2Proof.Machine.execBltu c rs1 rs2 k s
  | .bgeu c rs1 rs2 k => Sys2Proof.Machine.execBgeu c rs1 rs2 k s
  | .j c k => Sys2Proof.Machine.execJ c k s
  | .jal c k => Sys2Proof.Machine.execJal c k s
  | .jr c rd rs1 k => Sys2Proof.Machine.execJr c rd rs1 k s
  | .cas c rd rs1 rs2 => Sys2Proof.Machine.execCas c rd rs1 rs2 s
  | .aadd c rd rs1 rs2 => Sys2Proof.Machine.execAadd c rd rs1 rs2 s
  | .mcpy c rd rs1 rs2 => Sys2Proof.Machine.execMcpy c rd rs1 rs2 s
  | .bfx c rd rs1 start len1 be sign => Sys2Proof.Machine.execBfx c rd rs1 start len1 be sign s
  | .bfi c rs2 rs1 start len1 be => Sys2Proof.Machine.execBfi c rs2 rs1 start len1 be s
  | .crc c rd rs1 rs2 sel => Sys2Proof.Machine.execCrc c rd rs1 rs2 sel s
  | .scx c rd rs1 rs2 sign len1 => Sys2Proof.Machine.execScx c rd rs1 rs2 sign len1 s
  | .scf c rd rs1 rs2 sign len1 => Sys2Proof.Machine.execScf c rd rs1 rs2 sign len1 s
  | .usx c rd rs1 rs2 sign len1 => Sys2Proof.Machine.execUsx c rd rs1 rs2 sign len1 s
  | .ufs c rd rs1 rs2 sign len1 => Sys2Proof.Machine.execUfs c rd rs1 rs2 sign len1 s
  | .sget c rd rs1 rs2 => Sys2Proof.Machine.execSget c rd rs1 rs2 s
  | .sput c rd rs1 rs2 => Sys2Proof.Machine.execSput c rd rs1 rs2 s
  | .tlk c rd rs1 rs2 type sr => Sys2Proof.Machine.execTlk c rd rs1 rs2 type sr s
  | .emit c rd rs1 rs2 => Sys2Proof.Machine.execEmit c rd rs1 rs2 s
  | .tarm c rd rs1 rs2 t periodic => Sys2Proof.Machine.execTarm c rd rs1 rs2 t periodic s
  | .tarmCancel c rd rs1 rs2 t periodic => Sys2Proof.Machine.execTarmCancel c rd rs1 rs2 t periodic s
  | .hset c rd rs1 rs2 => Sys2Proof.Machine.execHset c rd rs1 rs2 s
  | .ciph c rd rs1 => Sys2Proof.Machine.execCiph c rd rs1 s
  | .nop c => Sys2Proof.Machine.execNop c s
  | .tnow c pair => Sys2Proof.Machine.execTnow c pair s
  | .rnd c rd => Sys2Proof.Machine.execRnd c rd s
  | .budl c rd => Sys2Proof.Machine.execBudl c rd s
  | .who c rd => Sys2Proof.Machine.execWho c rd s
  | .done c => Sys2Proof.Machine.execDone c s
  | .abandon c => Sys2Proof.Machine.execAbandon c s
  | .doneWaitEnd c => Sys2Proof.Machine.execDoneWaitEnd c s
  | .resume m v => Sys2Proof.Machine.execResume m v s
  | .routineClr m v => Sys2Proof.Machine.execRoutineClr m v s
  | .kprCntClr m v => Sys2Proof.Machine.execKprCntClr m v s
  | .mapCommit => Sys2Proof.Machine.execMapCommit s
  | .migration pause => Sys2Proof.Machine.execMigration pause s
  | .mobileHostChoice head reports => Sys2Proof.Machine.execMobileHostChoice head reports s
  | .persistentBlockSave => Sys2Proof.Machine.execPersistentBlockSave s
  | .plcCntClr m v => Sys2Proof.Machine.execPlcCntClr m v s
  | .helloSend p => Sys2Proof.Machine.execHelloSend p s
  | .hello => Sys2Proof.Machine.execHello s
  | .helloTimeout p => Sys2Proof.Machine.execHelloTimeout p s
  | .headInputChange level => Sys2Proof.Machine.execHeadInputChange level s
  | .lsa l => Sys2Proof.Machine.execLsa l s
  | .lsaSend => Sys2Proof.Machine.execLsaSend s
  | .settleEnd => Sys2Proof.Machine.execSettleEnd s
  | .assign a rep => Sys2Proof.Machine.execAssign a rep s
  | .assignRepeat => Sys2Proof.Machine.execAssignRepeat s
  | .ack id epoch rep => Sys2Proof.Machine.execAck id epoch rep s
  | .commit a => Sys2Proof.Machine.execCommit a s
  | .fabricFrameForward => Sys2Proof.Machine.execFabricFrameForward s
  | .epochHoldExpiry => Sys2Proof.Machine.execEpochHoldExpiry s
  | .msg forwarded => Sys2Proof.Machine.execMsg forwarded s
  | .cmdFrame => Sys2Proof.Machine.execCmdFrame s
  | .raRead => Sys2Proof.Machine.execRaRead s
  | .raPostedWrite => Sys2Proof.Machine.execRaPostedWrite s
  | .raRsp => Sys2Proof.Machine.execRaRsp s
  | .raFetchDone n => Sys2Proof.Machine.execRaFetchDone n s
  | .readSlotExpiry n => Sys2Proof.Machine.execReadSlotExpiry n s
  | .raReadReissue tag => Sys2Proof.Machine.execRaReadReissue tag s
  | .raWriteResend d => Sys2Proof.Machine.execRaWriteResend d s
  | .raTimeout tag => Sys2Proof.Machine.execRaTimeout tag s
  | .apertureAccess off write n data => Sys2Proof.Machine.execApertureAccess off write n data s
  | .go m v => Sys2Proof.Machine.execGo m v s
  | .signal => Sys2Proof.Machine.execSignal s
  | .rediscover m v => Sys2Proof.Machine.execRediscover m v s
  | .fabCntClr m v => Sys2Proof.Machine.execFabCntClr m v s
  | .req m v => Sys2Proof.Machine.execReq m v s
  | .release m v => Sys2Proof.Machine.execRelease m v s
  | .lockGrant => Sys2Proof.Machine.execLockGrant s
  | .lockTimeout c => Sys2Proof.Machine.execLockTimeout c s
  | .holdExceeded => Sys2Proof.Machine.execHoldExceeded s
  | .engineGo m v => Sys2Proof.Machine.execEngineGo m v s
  | .cipherOperationEnd => Sys2Proof.Machine.execCipherOperationEnd s
  | .unwrap => Sys2Proof.Machine.execUnwrap s
  | .wrap => Sys2Proof.Machine.execWrap s
  | .derive => Sys2Proof.Machine.execDerive s
  | .generate => Sys2Proof.Machine.execGenerate s
  | .erase => Sys2Proof.Machine.execErase s
  | .rngAck m v => Sys2Proof.Machine.execRngAck m v s
  | .trngHealthFail => Sys2Proof.Machine.execTrngHealthFail s
  | .drbgReseed => Sys2Proof.Machine.execDrbgReseed s
  | .secCntClr m v => Sys2Proof.Machine.execSecCntClr m v s
  | .verify => Sys2Proof.Machine.execVerify s
  | .attestSign => Sys2Proof.Machine.execAttestSign s
  | .init m v => Sys2Proof.Machine.execInit m v s
  | .update m v => Sys2Proof.Machine.execUpdate m v s
  | .final m v => Sys2Proof.Machine.execFinal m v s
  | .installBlockCopy => Sys2Proof.Machine.execInstallBlockCopy s
  | .fuseBurn ok => Sys2Proof.Machine.execFuseBurn ok s
  | .wardenHandover outcome pause => Sys2Proof.Machine.execWardenHandover outcome pause s
  | .patrolRead mem a result written u => Sys2Proof.Machine.execPatrolRead mem a result written u s
  | .mramWrite off bs fails => Sys2Proof.Machine.execMramWrite off bs fails s
  | .operatingHour => Sys2Proof.Machine.execOperatingHour s
  | .scrubSlice n => Sys2Proof.Machine.execScrubSlice n s
  | .eventPost b => Sys2Proof.Machine.execEventPost b s
  | .faultPolicyAction => Sys2Proof.Machine.execFaultPolicyAction s
  | .doneFault m v => Sys2Proof.Machine.execDoneFault m v s
  | .handleTimeout => Sys2Proof.Machine.execHandleTimeout s
  | .evqAck m v => Sys2Proof.Machine.execEvqAck m v s
  | .fltClrLost m v => Sys2Proof.Machine.execFltClrLost m v s
  | .fltClrSrc m v => Sys2Proof.Machine.execFltClrSrc m v s
  | .fltClrEcc m v => Sys2Proof.Machine.execFltClrEcc m v s
  | .prod m v => Sys2Proof.Machine.execProd m v s
  | .cmdAck m v => Sys2Proof.Machine.execCmdAck m v s
  | .nopCommand => Sys2Proof.Machine.execNopCommand s
  | .readIdentity => Sys2Proof.Machine.execReadIdentity s
  | .reset => Sys2Proof.Machine.execReset s
  | .sleep => Sys2Proof.Machine.execSleep s
  | .switchProfile => Sys2Proof.Machine.execSwitchProfile s
  | .switchInstant => Sys2Proof.Machine.execSwitchInstant s
  | .setStartOptions => Sys2Proof.Machine.execSetStartOptions s
  | .setPolders => Sys2Proof.Machine.execSetPolders s
  | .admitStream => Sys2Proof.Machine.execAdmitStream s
  | .removeStream => Sys2Proof.Machine.execRemoveStream s
  | .addTrieEntry => Sys2Proof.Machine.execAddTrieEntry s
  | .removeTrieEntry => Sys2Proof.Machine.execRemoveTrieEntry s
  | .addMacEntry => Sys2Proof.Machine.execAddMacEntry s
  | .removeMacEntry => Sys2Proof.Machine.execRemoveMacEntry s
  | .flushMacTable => Sys2Proof.Machine.execFlushMacTable s
  | .resumeRoutine => Sys2Proof.Machine.execResumeRoutine s
  | .setKeeperPolders => Sys2Proof.Machine.execSetKeeperPolders s
  | .writeImageChunk => Sys2Proof.Machine.execWriteImageChunk s
  | .installImage => Sys2Proof.Machine.execInstallImage s
  | .loadBundle => Sys2Proof.Machine.execLoadBundle s
  | .programCustomerRoot => Sys2Proof.Machine.execProgramCustomerRoot s
  | .revokeCustomerRoot => Sys2Proof.Machine.execRevokeCustomerRoot s
  | .attest => Sys2Proof.Machine.execAttest s
  | .scrubMram => Sys2Proof.Machine.execScrubMram s
  | .setRemoteAccess => Sys2Proof.Machine.execSetRemoteAccess s
  | .extRstNHigh => Sys2Proof.Machine.execExtRstNHigh s
  | .apertureReadTimeout tag => Sys2Proof.Machine.execApertureReadTimeout tag s
  | .canCtlRecover m n v => Sys2Proof.Machine.execCanCtlRecover m n v s
  | .illegalInstruction c => Sys2Proof.Machine.execIllegalInstruction c s
  | .syncInterval => Sys2Proof.Machine.execSyncInterval s
  | .peerDelayMeasurement => Sys2Proof.Machine.execPeerDelayMeasurement s

end Sys2Proof.Machine
end

