-- ==== Sys2Proof/Safety.lean ====
section
/-! DEFINITION. What a safe run is, and the words that statements use: a command that gives a next state with a property, a write
that the address map permits, what a command keeps, and the canonical form of memory and registers. -/

namespace Sys2Proof.Machine

/-- The command answers a next state, and it has this property. -/
def Gives (c : Instr) (s : State) (P : State → Prop) : Prop := ∃ t, exec c s = .next t ∧ P t

/-- The logic die runs, and R29 lets this master write the register at this address. -/
abbrev State.writable (s : State) (m : Master) (a : Nat) : Prop := s.running = true ∧ accessOk m true a 4 = true

/-- Memory, MRAM and one-time memory are as before. -/
def State.keeps (s t : State) : Prop := t.mem = s.mem ∧ t.mram = s.mram ∧ t.otp = s.otp

/-- Nothing changes but registers and the event queue's buffers. -/
def State.regFrame (s t : State) : Prop := t = { s with regs := t.regs, flt := t.flt }

/-- Nothing changes but registers, the bank die, the event queue's buffers and what crosses the dike link. -/
def State.bankFrame (s t : State) : Prop :=
  t = { s with regs := t.regs, flt := t.flt, bank := t.bank, outputs := t.outputs, free := t.free }

/-- So many event frames of the bank die have crossed the dike link, and nothing else has left the device (R388). -/
def State.eventFrames (s t : State) (n : Nat) : Prop :=
  t.free = s.free + n ∧ ∃ l : List Output, l.length = n ∧ t.outputs = l ++ s.outputs ∧
    ∀ x ∈ l, ∃ r : DWord, x = .dike false r ∧ bits 63 60 r.toNat = 3

/-- Every register outside a list is as before; the lost-posting counters of the event queue apart (R429). -/
def State.onlyRegs (s t : State) (l : List Nat) : Prop :=
  ∀ a, a ∉ l → (a < FLT_SRC_LOST 1 ∨ FLT_SRC_LOST 16 < a) → t.rd a = s.rd a

/-- Where the logic die runs and the block's buffer has room, one event with this code, class and unit stands last in it
(R422, R429). -/
def State.posts (s t : State) (code cls inst : Nat) : Prop :=
  s.running = true → (tget [] s.flt.post (code / 256)).length < 16 →
    ∃ p, tget [] t.flt.post (code / 256) = tget [] s.flt.post (code / 256) ++ [p] ∧ p.code = code ∧ p.cls = cls ∧ p.inst = inst

/-- One event of the bank die is raised, where the logic die runs, and one event frame brings it (R388, R429). -/
def State.bankPosts (s t : State) (code cls inst : Nat) : Prop := s.posts t code cls inst ∧ s.eventFrames t (boolNat s.running)

/-- The same beside an event that need not be the last one raised: it stands among those raised, where the block's buffer has room
for `n`. -/
def State.tells (s t : State) (n code cls inst : Nat) : Prop :=
  s.running = true → (tget [] s.flt.post (code / 256)).length + n ≤ 16 →
    ∃ p ∈ (tget [] t.flt.post (code / 256)).drop (tget [] s.flt.post (code / 256)).length, p.code = code ∧ p.cls = cls ∧ p.inst = inst

/-- A 32-bit counter has counted once; it stays at all ones (R11). -/
def State.counts (s t : State) (a : Nat) : Prop := (t.rd a).toNat = min ((s.rd a).toNat + 1) (2 ^ 32 - 1)

/-- The fault manager has made a fatal request: its write of BNK_CTL.fatal has reached the bank die, or waits for the link behind the
accesses posted before it; the first event stays recorded (R14, R426). That safe_run is written as it stands, and that the code
travels beside the frame, are the model's choices (assumption 105). -/
def State.fatalAsked (s t : State) (code : Nat) : Prop :=
  let frame := dikeFrame 2 s.bank.nextSeq 0 (4 + 8 * s.fld BNK_CTL BNK_CTL_safe_run)
  (s.dikeIdle = true → t.bank = { s.bank with nextSeq := (s.bank.nextSeq + 1) % 16, lastSeq := some s.bank.nextSeq
                                              fatalReq := some (s.bank.fatalReq.getD code) } ∧
    ∃ r, t.outputs = .dike false r :: .dike true frame :: s.outputs) ∧
  (s.dikeIdle = false → t.bank = { s.bank with
      nextSeq := (s.bank.nextSeq + 1) % 16
      posted := s.bank.posted ++ [({ master := none, frame := frame, tries := 0, event := code }, true, true)] } ∧
    t.outputs = s.outputs ∧ t.free = s.free)

/-- What a heater channel has been supplied with since the last update of its thermal model, up to now (R403). -/
def State.supplied (s : State) (n : Nat) : Nat :=
  (s.heater n).energy + s.fld (BNK_HTR_MEAS n) BNK_HTR_MEAS_i_ma * s.pins.vbat * s.htr n BNK_HTR_STATUS_eff_duty *
    (s.elapsed - (s.heater n).since)

/-- The status registers of the heater channels. -/
def htrStatus : List Nat := (List.range 12).map BNK_HTR_STATUS

/-- Every heater channel is off. -/
def State.heatersZero (t : State) : Prop := ∀ n < 12, t.fld (BNK_HTR_STATUS n) BNK_HTR_STATUS_eff_duty = 0

/-- The logic die is lost in a reset: every heater off, its registers at their reset values, its SRAM as after reset, every block
as after reset; the MRAM, the one-time memory, the balls and the BNK registers outside a list are kept (R10, R16). -/
def State.logicLost (s t : State) (l : List Nat) : Prop :=
  (∀ a, isBnk a = false → t.rd a = regDefault a) ∧ t.heatersZero ∧ (∀ a, isBnk a = true → a ∉ htrStatus ++ l → t.rd a = s.rd a) ∧
  (∀ a, isMram a = true → t.mb a = s.mb a) ∧ (∀ a, isMram a = false → t.mb a = memDefault a) ∧
  t = { s with
    free := t.free, outputs := t.outputs, regs := t.regs, mem := t.mem, bank := t.bank, tide := 0, tideFrac := 0
    dev := { state := t.dev.state }, hlt := {}, flt := {}, sw := {}, tm := {}, csg := {}, eth := {}, tbl := {}, wrd := {}, sec := {}
    fab := {}, plc := {}, kpr := {}, can := {} }

/-- The bank die's own state as it asserts logic-die reset for a cause: the reset record, and the link and the fatal sequence ended;
the selective-wake entries in force, and what the heaters have been supplied with, are those of `t` (R77, R80, R81). -/
def State.resetBank (s t : State) (cause event : Nat) : BankDie :=
  { s.bank with
    cause := cause, fatalEvent := if cause = 4 then event else 0
    fatals := if cause = 4 ∨ cause = 5 then s.elapsed :: s.fatalsNow else if cause = 1 ∨ cause = 3 ∨ cause = 7 then [] else s.bank.fatals
    reduced := if cause = 4 ∨ cause = 5 then s.bank.reduced || decide (3 ≤ s.fatalsNow.length + 1)
      else if cause = 1 ∨ cause = 3 ∨ cause = 7 then false else s.bank.reduced
    fatal := none, fatalReq := none, attempts := 0, open_ := none, posted := [], sel := t.bank.sel, decoding := t.bank.decoding
    heaters := t.bank.heaters }

/-- Every spill register: any change of a bank's pool may change them (R90). -/
def spillRegs : List Nat := (List.range 8).map SWC_BANK_SPILL

/-- Steps 1 and 2 of R77: every heater off, every queued frame and event in the switch discarded, the keepers' invocations and
outbound buffers gone, the fatal sequence under way with its cause. -/
def State.stopped (s t : State) (cause event : Nat) : Prop :=
  t.heatersZero ∧ t.bank = { s.bank with fatal := some (cause, event), fatalReq := none, heaters := t.bank.heaters } ∧
  (∀ n < 12, t.heater n = { s.heater n with energy := (t.heater n).energy, since := s.elapsed }) ∧
  t.sw = { s.sw with frames := [], queues := [], xfers := [], busy := [], onAir := [], staged := t.sw.staged } ∧
  t.kpr = { s.kpr with run := [], outbound := [] } ∧ t.tm = { s.tm with wmDelay := t.tm.wmDelay }

/-- No CAN record was queued in the switch: of the registers only the heaters' status and the banks' spill status may change. -/
def State.silent (s t : State) : Prop :=
  (∀ f ∈ s.sw.frames ++ s.stagedAt 28, f.canEntry = none) → t.can = s.can ∧ s.onlyRegs t (htrStatus ++ spillRegs)

/-- The dike link is free, and the next write's sequence number differs from that of the last write applied (R389). -/
abbrev State.dikeReady (s : State) : Prop :=
  s.bank.open_ = none ∧ s.bank.posted = [] ∧ s.bank.lastSeq ≠ some (s.bank.nextSeq % 16)

/-- A write has gone over the dike link: its frame and an answer, and the heartbeat that hb asks for; the registers outside a list are as
before, and nothing else changes but the bank die (R388, R389). -/
def State.linkWrote (s t : State) (m : Master) (off : Nat) (v : Word) (l : List Nat) : Prop :=
  t = { s.seen m with free := s.free + 1, outputs := t.outputs, regs := t.regs, bank := t.bank } ∧ s.onlyRegs t l ∧
  ∃ r, t.outputs = (if off = 0 ∧ v.toNat.testBit 0 = true then [.dike true (dikeFrame 4 0 0 0)] else []) ++
    .dike false r :: .dike true (dikeFrame 2 s.bank.nextSeq off v.toNat) :: s.outputs

/-- The bank die beside what a write does: the link's sequence numbers (R389). -/
def State.linkBank (s : State) : BankDie :=
  { s.bank with nextSeq := (s.bank.nextSeq + 1) % 16, lastSeq := some (s.bank.nextSeq % 16) }

/-- A wake source that fires in the tick of the wake, and is lower than the cause recorded (R394). -/
abbrev State.joins (s : State) (src : Nat) : Prop :=
  s.dev.state = .bankOnly ∧ s.bank.wokeAt = some s.elapsed ∧ src < s.fld BNK_WAKE_CAUSE BNK_WAKE_CAUSE_src

/-- A wake event has started the supply sequence and is recorded (R394, R59). -/
def State.woken (s t : State) (src ch : Nat) : Prop :=
  t.fld BNK_WAKE_CAUSE BNK_WAKE_CAUSE_src = src ∧ t.fld BNK_WAKE_CAUSE BNK_WAKE_CAUSE_channel = ch ∧
  t.bank = { s.bank with cause := 2, fatalEvent := 0, attempts := 0, wokeAt := some s.elapsed, enV18 := true, seq := .waitLine
                         pgTimer := true, wakeIn := t.bank.wakeIn, overflowNew := t.bank.overflowNew }

/-- A frame of input `i` towards output `o` alone passes every check of admission and finds its cells in its queue's berm
(R87, R93 to R95). -/
abbrev State.roomFor (s : State) (i o tc colour : Nat) : Prop :=
  s.pastHold o = false ∧ (s.redDrop o tc colour).2 = false ∧
  s.refDepth (qIndex i o tc) + s.headroom i ≤ s.fld (SWC_VOQ_CAP tc) SWC_VOQ_CAP_cap_cells ∧ s.bankPolderOn (homeBank i) = true ∧
  s.headroom i ≤ s.bermUnused (qIndex i o tc) ∧ s.recordsIn (homeBank i) < 16384 ∧ s.entriesIn (homeBank i) < 32768

/-- It stands last in that queue, with its provisional cells; no other frame, queue or transfer changes (R84, R85, R93). -/
def State.admitted (s t : State) (f : Frame) (o : Nat) : Prop :=
  let q := qIndex f.input o f.tc
  let g : Frame := { f with id := s.sw.nextId, bank := homeBank f.input, berm := some q, cells := s.headroom f.input, complete := false
                            arrive := s.elapsed, native := false, dest := [o], residue := [o], begun := [] }
  t.sw = { s.sw with nextId := s.sw.nextId + 1, frames := s.sw.frames ++ [g]
                     queues := tset [] s.sw.queues q (s.queue q ++ [s.sw.nextId]), redAvg := t.sw.redAvg, redReg := t.sw.redReg }

/-- A keeper core stands at this word with at least so many budget units, and waits for nothing (R252, R271). -/
abbrev State.kReady (s : State) (c : Fin 64) (iv : Invocation) (w n : Nat) : Prop :=
  s.inv c = some iv ∧ iv.wait = .none ∧ s.kFetch c iv = some w ∧ n ≤ iv.left

/-- A core's invocation becomes another value; nothing else changes. -/
def State.coreTo (s t : State) (c : Fin 64) (iv : Invocation) : Prop :=
  t.inv c = some iv ∧ (∀ k, k ≠ c.val → t.inv k = s.inv k) ∧ t = { s with kpr := { s.kpr with run := t.kpr.run } }

/-- The same where the instruction also stores bytes from a physical address on: exactly these bytes change. -/
def State.coreStores (s t : State) (c : Fin 64) (iv : Invocation) (a : Nat) (bs : List Byte) : Prop :=
  t.inv c = some iv ∧ (∀ k, k ≠ c.val → t.inv k = s.inv k) ∧
  t = { s with mem := t.mem, kpr := { s.kpr with run := t.kpr.run } } ∧
  ∀ x, t.mb x = if a ≤ x ∧ x < a + bs.length then bs.getD (x - a) 0 else s.mb x

/-- The same where the bytes go into the core's emit buffer, from an offset on (R241). -/
def State.coreEmits (s t : State) (c : Fin 64) (iv : Invocation) (off : Nat) (bs : List Byte) : Prop :=
  t.inv c = some iv ∧ (∀ k, k ≠ c.val → t.inv k = s.inv k) ∧
  t = { s with kpr := { s.kpr with run := t.kpr.run, emitBuf := t.kpr.emitBuf } } ∧
  ∀ x, tget 0 t.kpr.emitBuf (16384 * c.val + x) = if off ≤ x ∧ x < off + bs.length then bs.getD (x - off) 0
    else tget 0 s.kpr.emitBuf (16384 * c.val + x)

/-- After an instruction: rd holds the value, pc is at the next word, the cost is paid (R239, R252, R271). -/
def Invocation.after (iv : Invocation) (rd : Fin 32) (v : Word) (cost : Nat) : Invocation :=
  { iv.setG rd v with pc := iv.pc + 4, left := iv.left - cost }

/-- The invocation aborts: it is over, its cause and pc are recorded, its buffered outputs never act, memory is kept (R273). -/
def State.aborts (s t : State) (c : Fin 64) (iv : Invocation) (cause : Nat) : Prop :=
  t.inv c = none ∧ (∀ k, k ≠ c.val → t.inv k = s.inv k) ∧ (t.rt iv.ev.routine).lastCause = cause ∧
  (t.rt iv.ev.routine).lastPc = iv.pc % 2 ^ 15 ∧ t.fld KPR_STATUS KPR_STATUS_abort_seen = 1 ∧ t.sw = s.sw ∧
  t.kpr.timers = s.kpr.timers ∧ t.bank = s.bank ∧ s.keeps t

/-- The command at the front completes with this result, these values and these returned bytes, once what it does has been done;
`P` says what the state is then (R437, R444). -/
def State.answers (s t : State) (res : Nat) (vals : List Nat) (P : State → Prop) : Prop :=
  ∃ u : State, t = u.answer res vals ∧ u.wrd.arrivals = s.wrd.arrivals ∧ P u

/-- A store of bytes from an address on: these bytes, and every other byte as before. -/
def State.stores (s t : State) (a : Nat) (bs : List Byte) : Prop :=
  ∀ x, t.mb x = if a ≤ x ∧ x < a + bs.length then bs.getD (x - a) 0 else s.mb x

/-- The memory's canonical form: addresses rise, and no entry holds what an unlisted address reads as (assumption 4). -/
def Memory.wf (m : List Host.Cell) : Bool := twf memDefault m

/-- The same for the registers: no entry holds its reset value. -/
def Regs.wf (r : Tab Word) : Bool := twf regDefault r

/-- The form that every step keeps. -/
def State.Inv (s : State) : Prop := Memory.wf s.mem = true ∧ Regs.wf s.regs = true

end Sys2Proof.Machine
end

