-- ==== Sys2Proof/Certificates/Slice0/Obligations.lean ====
section
/-! DEFINITION. The statements for the provers. -/

open Sys2Proof Sys2Proof.Machine

/-- The supply sequence of the bank die (R59, R60, R73, R78), each event with the whole state it leaves, at its stage and outside it. That a start after three failed attempts records power-on, and that the limit of a start goes on through a held reset, are the model's (assumptions 107 and 106). VBAT valid gives an unpowered device a bank die at reset with EN_V18 high, starts a device again that three failed attempts left in bank only, and changes no other. EN_VLINE and EN_VCORE rise together, EN_VCORE not while EXT_RST_N or its 2 ms hold reset; SUP_PG is awaited or found high. A start that times out drops every enable and counts, the third in a row is the last. A retry and the restart after a brown-out raise EN_V18. -/
def Obligations.SupplySequence : Prop :=
  ∀ s : State,
    (s.dev.state = .unpowered → Gives .vbatValid s (fun t =>
      t = { s with regs := t.regs, dev := { s.dev with state := .bankOnly }, bank := { supPg := s.bank.supPg, extLow := s.bank.extLow, modelAt := s.elapsed, wakeIn := t.bank.wakeIn, enV18 := true, seq := .waitLine, pgTimer := true } } ∧
      (∀ a, t.rd a = if isBnk a then regDefault a else s.rd a) ∧ (∀ i, t.wakeOf i = { pin := (s.wakeOf i).pin, filtering := (s.wakeOf i).pin }))) ∧
    (s.dev.state = .bankOnly → s.bank.seq = .idle → 3 ≤ s.bank.attempts → Gives .vbatValid s (fun t =>
      t = { s with bank := { s.bank with cause := 1, fatalEvent := 0, fatals := [], reduced := false, attempts := 0, enV18 := true, seq := .waitLine, pgTimer := true } })) ∧
    (s.dev.state ≠ .unpowered → ¬ (s.dev.state = .bankOnly ∧ s.bank.seq = .idle ∧ 3 ≤ s.bank.attempts) → Gives .vbatValid s (fun t => t = s)) ∧
    (s.bank.seq = .waitLine → s.bank.extLow = false → s.bank.minHold = false → Gives .enVlineVcoreRaise s (fun t =>
      t = { s with dev := { s.dev with state := .logicReset }, bank := { s.bank with enVline := true, enVcore := true, seq := (if s.bank.supPg then .waitRelease else .waitPg), pgTimer := !s.bank.supPg } })) ∧
    (s.bank.seq = .waitLine → s.bank.extLow = true ∨ s.bank.minHold = true → Gives .enVlineVcoreRaise s (fun t =>
      t = { s with dev := { s.dev with state := .logicReset }, bank := { s.bank with enVline := true, seq := .vcoreHold } })) ∧
    (s.bank.seq ≠ .waitLine → Gives .enVlineVcoreRaise s (fun t => t = s)) ∧
    (s.bank.seq = .waitPg → Gives .supPgHigh s (fun t =>
      t = { s with bank := { s.bank with supPg := true, seq := .waitRelease, pgTimer := false } })) ∧
    (s.bank.seq ≠ .waitPg → Gives .supPgHigh s (fun t => t = { s with bank := { s.bank with supPg := true } })) ∧
    (s.bank.pgTimer = true → s.bank.seq = .waitPg ∨ s.bank.seq = .waitLine → Gives .supplyStartTimeout s (fun t =>
      t = { s with dev := { s.dev with state := .bankOnly }, bank := { s.bank with enV18 := false, enVline := false, enVcore := false, seq := (if 3 ≤ s.bank.attempts + 1 then .idle else .retryWait), pgTimer := false, brownTimer := false, minHold := false, attempts := s.bank.attempts + 1, failed := min 3 (s.bank.failed + 1) } })) ∧
    (s.bank.pgTimer = false ∨ (s.bank.seq ≠ .waitPg ∧ s.bank.seq ≠ .waitLine) → Gives .supplyStartTimeout s (fun t => t = s)) ∧
    (s.bank.seq = .retryWait → Gives .supplyRetry s (fun t =>
      t = { s with bank := { s.bank with enV18 := true, seq := .waitLine, pgTimer := true } })) ∧
    (s.bank.seq ≠ .retryWait → Gives .supplyRetry s (fun t => t = s)) ∧
    (s.bank.seq = .brownWait → s.bank.brownTimer = true → Gives .brownOutRestart s (fun t =>
      t = { s with bank := { s.bank with enV18 := true, seq := .waitLine, pgTimer := true, brownTimer := false } })) ∧
    (s.bank.seq ≠ .brownWait ∨ s.bank.brownTimer = false → Gives .brownOutRestart s (fun t => t = s))

/-- A logic-die reset, by the fall of SUP_PG in operation, by step 4 of R77, by EXT_RST_N or by the end of the ride-through (R10, R16, R72, R74, R77, R78): every heater is off, every register and block of the logic die is at its reset value and its SRAM lost; the MRAM, the one-time memory and every other register of the bank die are kept; the bank die's own state is as before but for the reset record, the enables and the stage of the sequence, which are stated for each cause. Where the logic die is already in reset or without supply, the same events move the sequence alone, or change nothing. -/
def Obligations.LogicDieReset : Prop :=
  ∀ s : State,
    (s.running = true → Gives .supplyLost s (fun t => s.logicLost t [] ∧ t.dev.state = .bankOnly ∧ t.outputs = s.outputs ∧ t.free = s.free ∧
      t.bank = { s.resetBank t (if s.pins.vbat < 4500 then 3 else 9) 0 with supPg := false, enV18 := false, enVline := false, enVcore := false, seq := .brownWait, pgTimer := false, brownTimer := false, minHold := false })) ∧
    (s.running = false → Gives .supplyLost s (fun t =>
      t = { s with bank := { s.bank with supPg := false, seq := (if s.bank.seq = .waitRelease then .waitPg else s.bank.seq) } })) ∧
    (∀ c e : Nat, s.bank.fatal = some (c, e) → Gives .fatalResetAssert s (fun t => s.logicLost t [] ∧ t.dev.state = .logicReset ∧
      t.outputs = s.outputs ∧ t.free = s.free ∧
      t.bank = { s.resetBank t c e with enVcore := false, seq := .vcoreHold, minHold := true })) ∧
    (s.bank.fatal = none → Gives .fatalResetAssert s (fun t => t = s)) ∧
    (s.running = true → Gives .extRstN s (fun t => s.logicLost t [] ∧ t.dev.state = .logicReset ∧ t.outputs = s.outputs ∧ t.free = s.free ∧
      t.bank = { s.resetBank t 6 0 with extLow := true, enVcore := false, seq := .vcoreHold, minHold := true })) ∧
    (s.dev.state = .logicReset → Gives .extRstN s (fun t =>
      t = { s with bank := { s.bank with extLow := true, enVcore := false, seq := .vcoreHold, minHold := true } })) ∧
    (s.dev.state = .bankOnly → Gives .extRstN s (fun t => t = { s with bank := { s.bank with extLow := true, minHold := true } })) ∧
    (s.dev.state = .unpowered → Gives .extRstN s (fun t => t = { s with bank := { s.bank with extLow := true } })) ∧
    (∀ e : Nat, s.bank.rideEnd = some e → e ≤ s.elapsed → s.dev.state ≠ .unpowered → Gives .rideThroughExpiry s (fun t => s.logicLost t [] ∧
      t.dev.state = .bankOnly ∧ t.outputs = s.outputs ∧ t.free = s.free ∧
      t.bank = { s.resetBank t 3 0 with rideEnd := none, enV18 := false, enVline := false, enVcore := false, seq := .brownWait, pgTimer := false, brownTimer := false, minHold := false })) ∧
    (s.bank.rideEnd = none ∨ (∃ e, s.bank.rideEnd = some e ∧ s.elapsed < e) ∨ s.dev.state = .unpowered → Gives .rideThroughExpiry s (fun t => t = s))

/-- The steps before the reset of R77: a fatal request that the bank die takes, 50 ms without a heartbeat (R75), and a reset by the debug port (R78) turn every heater off, discard every queued frame, end the keepers' invocations and note the cause that the reset will record; a fatal request records its event code. For a fatal request alone, the safe-state frames of each linked port stand in its staging buffer, and each named CAN channel is flushed and its frame takes TXB0, unless TXB0's frame is on the bus. The other two send nothing. A discarded CAN record is acknowledged in its channel; without one no register changes but the heaters' status and the spill status of a bank. While the sequence is under way, or with the logic die not running, each changes nothing. -/
def Obligations.FatalSequence : Prop :=
  ∀ s : State,
    (s.running = true → s.bank.fatal = none →
      Gives .fatal s (fun t => s.stopped t 4 (s.bank.fatalReq.getD 0) ∧
        t = { s with regs := t.regs, bank := t.bank, sw := t.sw, kpr := t.kpr, can := t.can, tm := t.tm, flt := t.flt, wrd := { s.wrd with safeCan := t.wrd.safeCan } } ∧
        (∀ a, a ∉ htrStatus ++ spillRegs → (a < FLT_SRC_LOST 1 ∨ FLT_SRC_LOST 16 < a) → (a < 0x200A0000 ∨ 0x200B8000 ≤ a) → t.rd a = s.rd a) ∧
        (∀ p < 28, t.stagedAt p = if s.linkUp p then (s.safeRecord.eth.filter (fun e => e.1 == p)).map (fun e => safeFrame e.2) else []) ∧
        ((s.safeRecord.can.map (fun (e : Nat × List Byte) => e.1)).Nodup → ∀ (n : Nat) (r : List Byte), (n, r) ∈ s.safeRecord.can → n < 24 →
          (t.chan n).backlog = [] ∧ (t.chan n).buf 0 = (if (s.chan n).onBus = some 0 ∧ (s.chan n).loaded 0 = true then (s.chan n).buf 0 else r) ∧
          ∀ b, b = 1 ∨ b = 2 → (s.chan n).onBus ≠ some b → (t.chan n).buf b = [])) ∧
      (s.bank.lastHb + 50000000 ≤ s.elapsed →
        Gives .heartbeatLost s (fun t => s.stopped t 5 0 ∧ t.sw.staged = [] ∧ s.silent t ∧
          t = { s with regs := t.regs, bank := t.bank, sw := t.sw, kpr := t.kpr, can := t.can, tm := t.tm, flt := t.flt })) ∧
      Gives .debugPortReset s (fun t => s.stopped t 8 0 ∧ t.sw.staged = [] ∧ s.silent t ∧
        t = { s with regs := t.regs, bank := t.bank, sw := t.sw, kpr := t.kpr, can := t.can, tm := t.tm, flt := t.flt, wrd := { s.wrd with debug := true } })) ∧
    (s.running = false ∨ s.bank.fatal.isSome = true → Gives .fatal s (fun t => t = s) ∧ Gives .heartbeatLost s (fun t => t = s) ∧
      Gives .debugPortReset s (fun t => t = { s with wrd := { s.wrd with debug := true } })) ∧
    (s.elapsed < s.bank.lastHb + 50000000 → Gives .heartbeatLost s (fun t => t = s))

/-- The release of the logic die's reset samples the balls, loads the reset record, clears the heater demands, starts the boot ROM with the logic die as after reset, and raises 0x0102 but after power-on and wake, 0x0105 in a reduced start, and the events of inputs found stuck and of error overflows during sleep (R61, R80, R81, R393, R396, R399); EN_VCORE rises again when its 2 ms have passed, unless EXT_RST_N still holds it, or when EXT_RST_N rises after them (R77, R78); VBAT below 3.5 V for its time powers the bank die off (R72); the wait after a critical-temperature reset ends once the sensors have been read and every valid logic-die and line-die sensor is below 115 °C (R42). Each event outside its condition changes nothing, but that EXT_RST_N is seen high. -/
def Obligations.ResetRelease : Prop :=
  ∀ s : State,
    (∀ (psel : Fin 4) (head : Bool), s.bank.seq = .waitRelease →
      Gives (.resetRelease psel head) s (fun t =>
        t.fld SYS_BOOT_STATUS SYS_BOOT_STATUS_phase = 0 ∧ t.fld SYS_BOOT_STATUS SYS_BOOT_STATUS_psel = psel.val ∧
        t.fld SYS_BOOT_STATUS SYS_BOOT_STATUS_head = boolNat head ∧ t.fld SYS_BOOT_STATUS SYS_BOOT_STATUS_profile = psel.val ∧
        t.fld SYS_BOOT_STATUS SYS_BOOT_STATUS_supply_retries = s.bank.failed % 4 ∧
        t.fld SYS_RESET_CAUSE SYS_RESET_CAUSE_cause = s.bank.cause % 16 ∧
        t.fld SYS_RESET_CAUSE SYS_RESET_CAUSE_fatal_count = min 15 s.fatalsNow.length ∧
        t.fld SYS_RESET_CAUSE SYS_RESET_CAUSE_reduced = boolNat s.bank.reduced ∧
        t.fld SYS_RESET_CAUSE SYS_RESET_CAUSE_fatal_event = s.bank.fatalEvent % 65536 ∧
        t.fld SYS_RESET_CAUSE SYS_RESET_CAUSE_thermal_wait = (if s.bank.cause = 4 ∧ s.bank.fatalEvent = 0x0212 then 1 else 0) ∧
        t.fld SYS_PROFILE SYS_PROFILE_fallback = s.mram.fallback % 8 ∧
        (∀ n < 12, t.fld (BNK_HTR_DEMAND n) BNK_HTR_DEMAND_duty = 0 ∧ t.htr n BNK_HTR_STATUS_fresh = 0 ∧
          t.htr n BNK_HTR_STATUS_decaying = 0 ∧
          t.heater n = { s.heater n with demanded := false, pendFresh := false, dec := 0 }) ∧ t.fld BNK_CTL BNK_CTL_safe_run = 0 ∧
        (∀ a, isBnk a = false → a ∉ [SYS_BOOT_STATUS, SYS_RESET_CAUSE, SYS_PROFILE] → (a < FLT_SRC_LOST 1 ∨ FLT_SRC_LOST 16 < a) → t.rd a = regDefault a) ∧
        (∀ a, isBnk a = true → a ∉ BNK_CTL :: htrStatus ++ (List.range 12).map BNK_HTR_DEMAND → t.rd a = s.rd a) ∧
        (s.bank.cause ≠ 1 → s.bank.cause ≠ 2 → ∃ p ∈ tget [] t.flt.post 1, p.code = 0x0102 ∧ p.cls = 2) ∧
        (s.bank.reduced = true → ∃ p ∈ tget [] t.flt.post 1, p.code = 0x0105 ∧ p.cls = 5) ∧
        (s.bank.stuckNew.length + s.bank.overflowNew.length ≤ 16 →
          (∀ i ∈ s.bank.stuckNew, ∃ p ∈ tget [] t.flt.post 14, p.code = 0x0E08 ∧ p.cls = 2 ∧ p.inst = i % 4096) ∧
          (∀ n ∈ s.bank.overflowNew, ∃ p ∈ tget [] t.flt.post 14, p.code = 0x0E0C ∧ p.cls = 2 ∧ p.inst = n % 4096)) ∧
        (s.bank.stuckNew = [] → s.bank.overflowNew = [] → t.outputs = s.outputs ∧ t.free = s.free) ∧
        (∀ a, t.mb a = if isMram a then s.mb a else memDefault a) ∧
        t.bank = { s.bank with seq := .running, attempts := 0, failed := 0, fatals := s.fatalsNow, lastHb := s.elapsed, stuckNew := [], overflowNew := [], heaters := t.bank.heaters } ∧
        t = { s with regs := t.regs, mem := t.mem, bank := t.bank, flt := t.flt, outputs := t.outputs, free := t.free, tide := 0, tideFrac := 0, pins := { s.pins with psel := psel.val, head := head }, dev := { state := .boot, thermalWait := decide (s.bank.cause = 4 ∧ s.bank.fatalEvent = 0x0212), bootRef := s.elapsed }, hlt := {}, sw := {}, tm := {}, csg := {}, eth := {}, tbl := {}, wrd := {}, sec := {}, fab := {}, plc := {}, kpr := {}, can := {} })) ∧
    (∀ (psel : Fin 4) (head : Bool), s.bank.seq ≠ .waitRelease → Gives (.resetRelease psel head) s (fun t => t = s)) ∧
    (s.bank.minHold = true → s.bank.seq = .vcoreHold → s.bank.extLow = false → Gives .vcoreHoldEnd s (fun t =>
      t = { s with bank := { s.bank with minHold := false, enVcore := true, seq := (if s.bank.supPg then .waitRelease else .waitPg), pgTimer := s.bank.pgTimer && !s.bank.supPg } })) ∧
    (s.bank.minHold = true → s.bank.seq ≠ .vcoreHold ∨ s.bank.extLow = true → Gives .vcoreHoldEnd s (fun t =>
      t = { s with bank := { s.bank with minHold := false } })) ∧
    (s.bank.minHold = false → Gives .vcoreHoldEnd s (fun t => t = s)) ∧
    (s.bank.seq = .vcoreHold → s.bank.extLow = true → s.bank.minHold = false → Gives .extRstNHigh s (fun t =>
      t = { s with bank := { s.bank with extLow := false, enVcore := true, seq := (if s.bank.supPg then .waitRelease else .waitPg), pgTimer := s.bank.pgTimer && !s.bank.supPg } })) ∧
    (s.bank.seq ≠ .vcoreHold ∨ s.bank.extLow = false ∨ s.bank.minHold = true → Gives .extRstNHigh s (fun t =>
      t = { s with bank := { s.bank with extLow := false } })) ∧
    (s.bank.lowTimer = true → Gives .bankPowerOnReset s (fun t => (∀ a, t.rd a = regDefault a) ∧
      (∀ a, t.mb a = if isMram a then s.mb a else memDefault a) ∧ (∀ i, t.wakeOf i = { pin := (s.wakeOf i).pin, filtering := (s.wakeOf i).pin }) ∧
      t = { s with regs := t.regs, mem := t.mem, tide := 0, tideFrac := 0, dev := { state := .unpowered }, bank := { supPg := s.bank.supPg, extLow := s.bank.extLow, modelAt := s.elapsed, wakeIn := t.bank.wakeIn }, hlt := {}, flt := {}, sw := {}, tm := {}, csg := {}, eth := {}, tbl := {}, wrd := {}, sec := {}, fab := {}, plc := {}, kpr := {}, can := {} })) ∧
    (s.bank.lowTimer = false → Gives .bankPowerOnReset s (fun t => t = s)) ∧
    (s.dev.thermalWait = true → s.hlt.tempSeen = true →
      (∀ n < 20, s.tempValid n = true → signed 12 (s.fld (HLT_TEMP n) HLT_TEMP_temp) < 920) →
      Gives .thermalWaitEnd s (fun t => t = { s with dev := { s.dev with thermalWait := false, bootRef := s.elapsed } })) ∧
    (s.dev.thermalWait = false ∨ s.hlt.tempSeen = false ∨ (∃ n < 20, s.tempValid n = true ∧ 920 ≤ signed 12 (s.fld (HLT_TEMP n) HLT_TEMP_temp)) →
      Gives .thermalWaitEnd s (fun t => t = s))

/-- A VBAT reading of a powered device (R72, R390, R403, R406): it is reported, with the least reading; below 4.5 V the ride-through runs, its end fixed by ride_ms as the reading first falls there; below 6.0 V the heaters are held, above 36.0 V the overvoltage hold begins; each entry turns the heaters off and raises its event in an event frame; what the heaters have drawn up to now is summed; nothing else changes. An unpowered device only has the level. The cranking band ends with 0x0E02, 100 ms after 6.0 V (that its end waits for the end of the hold is the model's choice, assumption 82), and overvoltage 100 ms after 35.0 V with 0x0E04. -/
def Obligations.VbatSupervision : Prop :=
  ∀ s : State,
    (∀ mv : Nat, s.dev.state = .unpowered → Gives (.vbatSample mv) s (fun t => t = { s with pins := { s.pins with vbat := mv } })) ∧
    (∀ mv : Nat, s.dev.state ≠ .unpowered →
      let crank := s.bank.crankHeld || decide (mv < 6000)
      let tooHigh := s.bank.ovHeld || decide (36000 < mv)
      let ride := s.bank.rideEnd.getD (s.elapsed + 1000000 * s.fld BNK_SUP_CFG BNK_SUP_CFG_ride_ms)
      let entered := (decide (mv < 6000) && !s.bank.crankHeld) || (decide (36000 < mv) && !s.bank.ovHeld)
      Gives (.vbatSample mv) s (fun t =>
        t.fld BNK_VBAT BNK_VBAT_mv = min mv 65535 ∧
        t.fld BNK_VBAT BNK_VBAT_min_mv = min (if s.bank.minValid then min (s.fld BNK_VBAT BNK_VBAT_min_mv) mv else mv) 65535 ∧
        t.fld BNK_STATUS BNK_STATUS_vbat_band = (if mv < 4500 then 2 else if mv < 6000 then 1 else if tooHigh then 3 else if crank then 1 else 0) ∧
        (∀ f ∈ [BNK_STATUS_link_err, BNK_STATUS_sum_limit, BNK_STATUS_sleep_declined], t.fld BNK_STATUS f = s.fld BNK_STATUS f) ∧
        t.bank = { s.bank with minValid := true, lowTimer := decide (mv < 3500), brownTimer := decide (s.bank.seq = .brownWait ∧ 6000 ≤ mv), rideEnd := (if mv < 4500 then some ride else none), crankHeld := crank, ovHeld := tooHigh, crankTimer := decide (6000 ≤ mv) && s.bank.crankHeld, ovTimer := tooHigh && decide (mv ≤ 35000), heaters := t.bank.heaters } ∧
        (∀ n < 12, t.heater n = { s.heater n with energy := s.supplied n, since := s.elapsed }) ∧
        (mv < 6000 → s.bank.crankHeld = false → s.posts t 0x0E01 2 noInst ∧ t.heatersZero) ∧
        (36000 < mv → s.bank.ovHeld = false → s.posts t 0x0E03 2 noInst ∧ t.heatersZero) ∧
        s.eventFrames t (boolNat (s.running && entered)) ∧
        (entered = false → t.flt = s.flt ∧ s.onlyRegs t [BNK_VBAT, BNK_STATUS]) ∧
        s.onlyRegs t (BNK_VBAT :: BNK_STATUS :: htrStatus) ∧
        t = { s with regs := t.regs, flt := t.flt, bank := t.bank, outputs := t.outputs, free := t.free, pins := { s.pins with vbat := mv } })) ∧
    (s.bank.crankTimer = true → Gives .crankingHoldEnd s (fun t => t.bank = { s.bank with crankHeld := false, crankTimer := false } ∧
      t.fld BNK_STATUS BNK_STATUS_vbat_band = (if s.pins.vbat < 4500 then 2 else if s.pins.vbat < 6000 then 1 else if s.bank.ovHeld then 3 else 0) ∧
      s.bankPosts t 0x0E02 0 noInst ∧ s.onlyRegs t [BNK_STATUS] ∧ s.bankFrame t)) ∧
    (s.bank.crankTimer = false → Gives .crankingHoldEnd s (fun t => t = s)) ∧
    (s.bank.ovTimer = true → Gives .overvoltageExit s (fun t => t.bank = { s.bank with ovHeld := false, ovTimer := false } ∧
      t.fld BNK_STATUS BNK_STATUS_vbat_band = (if s.pins.vbat < 4500 then 2 else if s.pins.vbat < 6000 then 1 else if s.bank.crankHeld then 1 else 0) ∧
      s.bankPosts t 0x0E04 0 noInst ∧ s.onlyRegs t [BNK_STATUS] ∧ s.bankFrame t)) ∧
    (s.bank.ovTimer = false → Gives .overvoltageExit s (fun t => t = s))

/-- The wake inputs and CAN wake (R71, R391, R393, R394, R395, R396, R190): a level counts after its filter time; an armed input that becomes active is masked and wakes a sleeping device, or sets its edge bit in an awake one with 0x0E09; an input is armed by its timer; one held active in sleep is found stuck; a wake-up pattern in standby, or a matching selective-wake frame, wakes a sleeping device with its own cause, or sets its flag once with 0x0E0A; the frame error count goes up and down, and its overflow wakes the device or is reported; of the sources of the waking tick the lowest is the cause. A transceiver's dominant time-out is reported out of standby. -/
def Obligations.WakeInputs : Prop :=
  ∀ s : State,
    (∀ (i : Fin 8) (level : Bool),
      Gives (.wakeInputChange i level) s (fun t =>
        t.wakeOf i = { s.wakeOf i with pin := level, filtering := s.wakeEnabled i && level != (s.wakeOf i).level } ∧
        (∀ j, j ≠ i.val → t.wakeOf j = s.wakeOf j) ∧ t = { s with bank := { s.bank with wakeIn := t.bank.wakeIn } })) ∧
    (∀ i : Fin 8, (s.wakeOf i).filtering = false → Gives (.wakeFilterExpiry i) s (fun t => t = s)) ∧
    (∀ i : Fin 8, (s.wakeOf i).filtering = true →
      Gives (.wakeFilterExpiry i) s (fun t =>
        let w := { s.wakeOf i with level := (s.wakeOf i).pin, filtering := false }
        let changed := (s.wakeOf i).pin ≠ (s.wakeOf i).level
        (∀ j, j ≠ i.val → t.wakeOf j = s.wakeOf j) ∧ s.onlyRegs t [BNK_WAKE_STATUS, BNK_WAKE_CAUSE, BNK_CANW_STATUS] ∧ s.bankFrame t ∧
        (¬ changed → t.wakeOf i = w ∧ t.regs = s.regs ∧ t.flt = s.flt ∧ s.eventFrames t 0) ∧
        (changed → s.wakeActive i = true → t.wakeOf i = { w with armTimer := true, stuckTimer := false } ∧ t.regs = s.regs ∧ t.flt = s.flt ∧ s.eventFrames t 0) ∧
        (changed → s.wakeActive i = false → t.wakeOf i = { w with armTimer := false, armed := false, stuckTimer := true } ∧
          (t.fld BNK_WAKE_STATUS BNK_WAKE_STATUS_masked).testBit i = true ∧
          ((s.wakeOf i).armed = false → s.onlyRegs t [BNK_WAKE_STATUS] ∧ t.flt = s.flt ∧ s.eventFrames t 0 ∧
            t.fld BNK_WAKE_STATUS BNK_WAKE_STATUS_edge = s.fld BNK_WAKE_STATUS BNK_WAKE_STATUS_edge) ∧
          ((s.wakeOf i).armed = true → s.asleep = true → s.woken t (i.val + 1) 0 ∧ t.flt = s.flt ∧ s.eventFrames t 0) ∧
          ((s.wakeOf i).armed = true → s.asleep = false → s.bankPosts t 0x0E09 0 i ∧
            (s.joins (i.val + 1) → t.fld BNK_WAKE_CAUSE BNK_WAKE_CAUSE_src = i.val + 1 ∧ t.fld BNK_WAKE_CAUSE BNK_WAKE_CAUSE_channel = 0) ∧
            (¬ s.joins (i.val + 1) → (t.fld BNK_WAKE_STATUS BNK_WAKE_STATUS_edge).testBit i = true ∧
              s.onlyRegs t [BNK_WAKE_STATUS]))))) ∧
    (∀ i : Fin 8, (s.wakeOf i).armTimer = true → (s.wakeOf i).filtering = false → s.wakeEnabled i = true → s.wakeActive i = false →
      Gives (.wakeArm i) s (fun t => t.wakeOf i = { s.wakeOf i with armed := true, armTimer := false } ∧
        (∀ j, j ≠ i.val → t.wakeOf j = s.wakeOf j) ∧ (t.fld BNK_WAKE_STATUS BNK_WAKE_STATUS_masked).testBit i = false ∧
        (∀ f ∈ [BNK_WAKE_STATUS_edge, BNK_WAKE_STATUS_stuck], t.fld BNK_WAKE_STATUS f = s.fld BNK_WAKE_STATUS f) ∧
        s.onlyRegs t [BNK_WAKE_STATUS] ∧ t = { s with regs := t.regs, bank := { s.bank with wakeIn := t.bank.wakeIn } })) ∧
    (∀ i : Fin 8, (s.wakeOf i).armTimer = false ∨ (s.wakeOf i).filtering = true ∨ s.wakeEnabled i = false ∨ s.wakeActive i = true → Gives (.wakeArm i) s (fun t => t = s)) ∧
    (∀ i : Fin 8, s.dev.state = .bankOnly → (s.wakeOf i).stuckTimer = true → s.wakeActive i = true →
      (s.fld BNK_WAKE_STATUS BNK_WAKE_STATUS_masked).testBit i = true → (s.fld BNK_WAKE_STATUS BNK_WAKE_STATUS_stuck).testBit i = false →
      Gives (.wakeStuck i) s (fun t => (t.fld BNK_WAKE_STATUS BNK_WAKE_STATUS_stuck).testBit i = true ∧ i.val ∈ t.bank.stuckNew ∧
        (∀ k, k ≠ i.val → (k ∈ t.bank.stuckNew ↔ k ∈ s.bank.stuckNew)) ∧ s.onlyRegs t [BNK_WAKE_STATUS] ∧
        t = { s with regs := t.regs, bank := { s.bank with stuckNew := t.bank.stuckNew } })) ∧
    (∀ i : Fin 8, s.dev.state ≠ .bankOnly ∨ (s.wakeOf i).stuckTimer = false ∨ s.wakeActive i = false ∨
      (s.fld BNK_WAKE_STATUS BNK_WAKE_STATUS_masked).testBit i = false ∨ (s.fld BNK_WAKE_STATUS BNK_WAKE_STATUS_stuck).testBit i = true →
      Gives (.wakeStuck i) s (fun t => t = s)) ∧
    (∀ n : Fin 24,
      let flag := (s.fld BNK_CANW_STATUS BNK_CANW_STATUS_flag).testBit n
      let sel := s.bank.sel.any (fun e => e.1 == n.val)
      let wup := (s.fld BNK_CANW_CFG BNK_CANW_CFG_wup_en).testBit n
      (s.inStandby n = false → Gives (.canWakePattern n) s (fun t => t = s)) ∧
      (s.inStandby n = true → sel = true → Gives (.canWakePattern n) s (fun t => n.val ∈ t.bank.decoding ∧
        (∀ k, k ≠ n.val → (k ∈ t.bank.decoding ↔ k ∈ s.bank.decoding)) ∧ t = { s with bank := { s.bank with decoding := t.bank.decoding } })) ∧
      (s.inStandby n = true → sel = false → wup = false → Gives (.canWakePattern n) s (fun t => t = s)) ∧
      (s.asleep = true → sel = false → wup = true → Gives (.canWakePattern n) s (fun t => s.woken t 9 n ∧
        (t.fld BNK_CANW_STATUS BNK_CANW_STATUS_flag).testBit n = true ∧ s.onlyRegs t [BNK_WAKE_CAUSE, BNK_CANW_STATUS] ∧
        t = { s with regs := t.regs, bank := t.bank })) ∧
      (s.inStandby n = true → s.asleep = false → sel = false → wup = true → flag = true → Gives (.canWakePattern n) s (fun t => t = s)) ∧
      (s.inStandby n = true → s.asleep = false → sel = false → wup = true → flag = false → ¬ s.joins 9 → Gives (.canWakePattern n) s (fun t =>
        (t.fld BNK_CANW_STATUS BNK_CANW_STATUS_flag).testBit n = true ∧ s.bankPosts t 0x0E0A 0 n ∧ s.onlyRegs t [BNK_CANW_STATUS] ∧ s.bankFrame t ∧ t.bank = s.bank)) ∧
      (s.inStandby n = true → s.asleep = false → sel = false → wup = true → flag = false → s.joins 9 → Gives (.canWakePattern n) s (fun t =>
        t.fld BNK_WAKE_CAUSE BNK_WAKE_CAUSE_src = 9 ∧ t.fld BNK_WAKE_CAUSE BNK_WAKE_CAUSE_channel = n ∧
        (t.fld BNK_CANW_STATUS BNK_CANW_STATUS_flag).testBit n = true ∧ s.onlyRegs t [BNK_WAKE_STATUS, BNK_WAKE_CAUSE, BNK_CANW_STATUS] ∧ s.regFrame t))) ∧
    (∀ (n : Fin 24) (f : WakeFrame) (e : SelEntry), s.bank.sel.find? (fun x => x.1 == n.val) = some (n.val, e) → e.index < 8 →
      let a := BNK_SEL e.index 5
      let k := (s.rd a).toNat
      let heard := s.inStandby n = true ∧ n.val ∈ s.bank.decoding ∧ f.fd = false ∧ f.rate = e.rate
      let count := fun (t : State) (v : Nat) => (t.rd a).toNat = v
      let woke := s.dev.state = .bankOnly ∧ s.bank.wokeAt = some s.elapsed
      (¬ heard → Gives (.selectiveWakeFrame n f) s (fun t => t = s)) ∧
      (heard → f.error = true → k ≠ 31 → Gives (.selectiveWakeFrame n f) s (fun t => count t (min 63 (k + 1)) ∧ s.onlyRegs t [a] ∧
        t = { s with regs := t.regs })) ∧
      (heard → f.error = true → k = 31 → s.asleep = true → Gives (.selectiveWakeFrame n f) s (fun t => count t 32 ∧ s.woken t 11 n ∧
        t.bank.overflowNew = n.val :: s.bank.overflowNew ∧ s.onlyRegs t [a, BNK_WAKE_CAUSE] ∧ t = { s with regs := t.regs, bank := t.bank })) ∧
      (heard → f.error = true → k = 31 → s.running = true → Gives (.selectiveWakeFrame n f) s (fun t => count t 32 ∧
        s.bankPosts t 0x0E0C 2 n ∧ s.onlyRegs t [a] ∧ s.bankFrame t ∧ t.bank = s.bank)) ∧
      (heard → f.error = true → k = 31 → s.running = false → s.asleep = false → ¬ woke → Gives (.selectiveWakeFrame n f) s (fun t => count t 32 ∧
        s.onlyRegs t [a] ∧ t = { s with regs := t.regs, bank := { s.bank with overflowNew := n.val :: s.bank.overflowNew } })) ∧
      (heard → f.error = true → k = 31 → s.asleep = false → woke → Gives (.selectiveWakeFrame n f) s (fun t => count t 32 ∧
        (t.fld BNK_CANW_STATUS BNK_CANW_STATUS_flag).testBit n = true ∧ s.onlyRegs t [a, BNK_WAKE_STATUS, BNK_WAKE_CAUSE, BNK_CANW_STATUS] ∧
        (s.joins 11 → t.fld BNK_WAKE_CAUSE BNK_WAKE_CAUSE_src = 11 ∧ t.fld BNK_WAKE_CAUSE BNK_WAKE_CAUSE_channel = n) ∧
        (¬ s.joins 11 → s.onlyRegs t [a, BNK_CANW_STATUS]) ∧
        t = { s with regs := t.regs, bank := { s.bank with overflowNew := n.val :: s.bank.overflowNew } })) ∧
      (heard → f.error = false → e.matches f = false → Gives (.selectiveWakeFrame n f) s (fun t => count t (k - 1) ∧ s.onlyRegs t [a] ∧
        t = { s with regs := t.regs })) ∧
      (heard → f.error = false → e.matches f = true → s.asleep = true → Gives (.selectiveWakeFrame n f) s (fun t => count t (k - 1) ∧
        s.woken t 10 n ∧ (t.fld BNK_CANW_STATUS BNK_CANW_STATUS_flag).testBit n = true ∧
        s.onlyRegs t [a, BNK_WAKE_CAUSE, BNK_CANW_STATUS] ∧ t = { s with regs := t.regs, bank := t.bank })) ∧
      (heard → f.error = false → e.matches f = true → s.asleep = false → ¬ s.joins 10 ∨ (s.fld BNK_CANW_STATUS BNK_CANW_STATUS_flag).testBit n = true → Gives (.selectiveWakeFrame n f) s (fun t =>
        count t (k - 1) ∧ (t.fld BNK_CANW_STATUS BNK_CANW_STATUS_flag).testBit n = true ∧
        ((s.fld BNK_CANW_STATUS BNK_CANW_STATUS_flag).testBit n = false → s.bankPosts t 0x0E0A 0 n) ∧
        ((s.fld BNK_CANW_STATUS BNK_CANW_STATUS_flag).testBit n = true → t.flt = s.flt ∧ s.eventFrames t 0) ∧
        s.onlyRegs t [a, BNK_CANW_STATUS] ∧ s.bankFrame t ∧ t.bank = s.bank)) ∧
      (heard → f.error = false → e.matches f = true → s.asleep = false → (s.fld BNK_CANW_STATUS BNK_CANW_STATUS_flag).testBit n = false →
        s.joins 10 → Gives (.selectiveWakeFrame n f) s (fun t => count t (k - 1) ∧ (t.fld BNK_CANW_STATUS BNK_CANW_STATUS_flag).testBit n = true ∧
        t.fld BNK_WAKE_CAUSE BNK_WAKE_CAUSE_src = 10 ∧ t.fld BNK_WAKE_CAUSE BNK_WAKE_CAUSE_channel = n ∧
        s.onlyRegs t [a, BNK_WAKE_STATUS, BNK_WAKE_CAUSE, BNK_CANW_STATUS] ∧ t = { s with regs := t.regs }))) ∧
    (∀ (n : Fin 24) (f : WakeFrame), s.bank.sel.find? (fun x => x.1 == n.val) = none → Gives (.selectiveWakeFrame n f) s (fun t => t = s)) ∧
    (∀ n : Fin 24, (s.inStandby n = false → Gives (.transceiverDominantTimeout n) s (fun t => s.bankPosts t 0x0E0B 3 n ∧ s.onlyRegs t [] ∧ s.bankFrame t ∧ t.bank = s.bank)) ∧
      (s.inStandby n = true → Gives (.transceiverDominantTimeout n) s (fun t => t = s)))

/-- An access to a BNK register (R14, R388, R389): a read brings the register's value back to its master and changes no register; a frame that does not arrive counts in link_err and leaves the transaction open; an access that finds one open, or others posted, waits behind them; behind a write of BNK_CTL with hb a heartbeat frame follows (the model's reading, assumption 111). A retry that gets through ends the read with its value, and does not apply a write again that the bank die already took; after three repeats without an answer the access ends with an error response and 0x0E20 at class 5, and what was posted takes the link. An access that is not permitted, or with the logic die not running, does not reach the link. -/
def Obligations.DikeLink : Prop :=
  ∀ s : State,
    let beat : DikeReq := { master := none, frame := dikeFrame 4 0 0 0, tries := 0 }
    let asks := fun q : DikeReq => bits 63 60 q.frame.toNat = 1 ∨ bits 63 60 q.frame.toNat = 2
    (∀ (m : Master) (off : Fin 65536) (v : Word), s.running = true → accessOk m false (0x20100000 + off.val) 4 = true →
      s.bank.open_ = none → s.bank.posted = [] →
      Gives (.dikeLinkTransaction m false off v true true) s (fun t =>
        t = { s.seen m with outputs := .busRead m (0x20100000 + off.val) (bits 39 8 (dikeFrame 1 0 off (s.bnkRead off)).toNat) :: .dike false (dikeFrame 1 0 off (s.bnkRead off)) :: .dike true (dikeFrame 1 0 off 0) :: s.outputs })) ∧
    (∀ (m : Master) (write : Bool) (off : Fin 65536) (v : Word) (answered : Bool), s.running = true →
      accessOk m write (0x20100000 + off.val) 4 = true → s.bank.open_ = none → s.bank.posted = [] →
      let q : DikeReq := { master := some m, frame := if write then dikeFrame 2 s.bank.nextSeq off v.toNat else dikeFrame 1 0 off 0, tries := 0 }
      Gives (.dikeLinkTransaction m write off v false answered) s (fun t =>
        t.bank = { s.bank with open_ := some q, posted := (if write && decide (off.val = 0) && v.toNat.testBit 0 then [(beat, false, true)] else []), nextSeq := (if write then (s.bank.nextSeq + 1) % 16 else s.bank.nextSeq) } ∧
        t.fld BNK_STATUS BNK_STATUS_link_err = min (s.fld BNK_STATUS BNK_STATUS_link_err + 1) 255 ∧ s.onlyRegs t [BNK_STATUS] ∧
        t = { s.seen m with regs := t.regs, bank := t.bank, outputs := .dike true q.frame :: s.outputs })) ∧
    (∀ (m : Master) (write : Bool) (off : Fin 65536) (v : Word) (arrives answered : Bool), s.running = true →
      accessOk m write (0x20100000 + off.val) 4 = true → s.bank.open_.isSome = true →
      let q : DikeReq := { master := some m, frame := if write then dikeFrame 2 s.bank.nextSeq off v.toNat else dikeFrame 1 0 off 0, tries := 0 }
      Gives (.dikeLinkTransaction m write off v arrives answered) s (fun t =>
        t = { s.seen m with bank := { s.bank with posted := s.bank.posted ++ (q, arrives, answered) :: (if write && decide (off.val = 0) && v.toNat.testBit 0 then [(beat, arrives, true)] else []), nextSeq := (if write then (s.bank.nextSeq + 1) % 16 else s.bank.nextSeq) } })) ∧
    (∀ (m : Master) (write : Bool) (off : Fin 65536) (v : Word) (arrives answered : Bool),
      (s.running = false → Gives (.dikeLinkTransaction m write off v arrives answered) s (fun t => t = s)) ∧
      (s.running = true → accessOk m write (0x20100000 + off.val) 4 = false → Gives (.dikeLinkTransaction m write off v arrives answered) s (fun t =>
        t.outputs = .busError m (0x20100000 + off.val) :: s.outputs ∧ t.bank = s.bank ∧ s.onlyRegs t [] ∧
        t = { s.seen m with outputs := t.outputs, regs := t.regs, flt := t.flt, dev := { s.dev with aer := t.dev.aer } }))) ∧
    (∀ (q : DikeReq) (arrives answered : Bool), s.bank.open_ = some q →
      (q.tries < 3 → asks q → Gives (.dikeLinkRetry false answered) s (fun t =>
        t.bank = { s.bank with open_ := some { q with tries := q.tries + 1 } } ∧
        t.fld BNK_STATUS BNK_STATUS_link_err = min (s.fld BNK_STATUS BNK_STATUS_link_err + 1) 255 ∧ s.onlyRegs t [BNK_STATUS] ∧
        t = { s with regs := t.regs, bank := t.bank, outputs := .dike true q.frame :: s.outputs })) ∧
      (q.tries < 3 → s.bank.posted = [] → s.running = true → bits 63 60 q.frame.toNat = 2 → s.bank.lastSeq = some (bits 59 56 q.frame.toNat) →
        Gives (.dikeLinkRetry true true) s (fun t => ∃ r : DWord, t = { s with free := s.free + 1, bank := { s.bank with open_ := none }, outputs := .dike false r :: .dike true q.frame :: s.outputs })) ∧
      (∀ m : Master, q.tries < 3 → s.bank.posted = [] → s.running = true → bits 63 60 q.frame.toNat = 1 → q.master = some m →
        let off := bits 55 40 q.frame.toNat
        let r := dikeFrame 1 0 off (s.bnkRead off)
        Gives (.dikeLinkRetry true true) s (fun t => t = { s with bank := { s.bank with open_ := none }, outputs := .busRead m (0x20100000 + off) (bits 39 8 r.toNat) :: .dike false r :: .dike true q.frame :: s.outputs })) ∧
      (3 ≤ q.tries → s.bank.posted = [] → Gives (.dikeLinkRetry arrives answered) s (fun t =>
        t.bank = { s.bank with open_ := none } ∧
        t.outputs = (q.master.map (fun m => Output.busError m (0x20100000 + bits 55 40 q.frame.toNat))).toList ++ s.outputs ∧
        s.posts t 0x0E20 5 noInst ∧ s.onlyRegs t [] ∧ t = { s with outputs := t.outputs, regs := t.regs, flt := t.flt, bank := t.bank })) ∧
      (∀ (p : DikeReq) (b : Bool) (rest : List (DikeReq × Bool × Bool)), 3 ≤ q.tries → asks p → s.bank.posted = (p, false, b) :: rest →
        Gives (.dikeLinkRetry arrives answered) s (fun t => t.bank = { s.bank with open_ := some p, posted := rest } ∧
          s.posts t 0x0E20 5 noInst ∧ s.onlyRegs t [BNK_STATUS] ∧ t.mem = s.mem ∧ t.mram = s.mram ∧ t.otp = s.otp))) ∧
    (∀ arrives answered : Bool, s.bank.open_ = none → Gives (.dikeLinkRetry arrives answered) s (fun t => t = s))

/-- The commands that write a BNK register over a link that is free (R75, R77, R389, R392, R400, R402, R406): one frame with the next sequence number goes out and is answered; the heartbeat follows a write of BNK_CTL with hb in a frame of its own (assumption 111) and is refreshed; a sleep request is declined while a wake edge or a CAN flag is set, and otherwise loses the logic die and takes the device into bank only; a demand is loaded, at most 1,000, and counts as fresh from the next period; the clear bit clears the latch and the run of shorts, but for a short of the same tick; clr_min takes the present reading. Each changes nothing else. -/
def Obligations.BankWrites : Prop :=
  ∀ (s : State) (m : Master) (v : Word), s.dikeReady →
    let fatalReq := if v.toNat.testBit 2 then some (s.bank.fatalReq.getD 0) else s.bank.fatalReq
    (s.writable m BNK_CTL → v.toNat.testBit 1 = false →
      Gives (.hb m v) s (fun t => s.linkWrote t m 0 (v ||| 1) [BNK_CTL] ∧ t.fld BNK_CTL BNK_CTL_safe_run = BNK_CTL_safe_run.get v ∧
        t.bank = { s.linkBank with lastHb := s.elapsed, fatalReq := fatalReq })) ∧
    (s.writable m BNK_CTL → v.toNat.testBit 1 = true → exec (.hb m v) s = exec (.sleepReq m (v ||| 1)) s) ∧
    (s.writable m BNK_CTL → s.fld BNK_WAKE_STATUS BNK_WAKE_STATUS_edge ≠ 0 ∨ s.fld BNK_CANW_STATUS BNK_CANW_STATUS_flag ≠ 0 →
      Gives (.sleepReq m v) s (fun t => s.linkWrote t m 0 (v ||| 2) [BNK_CTL, BNK_STATUS] ∧
        t.fld BNK_STATUS BNK_STATUS_sleep_declined = 1 ∧ t.fld BNK_CTL BNK_CTL_safe_run = BNK_CTL_safe_run.get v ∧
        t.bank = { s.linkBank with lastHb := (if v.toNat.testBit 0 then s.elapsed else s.bank.lastHb), fatalReq := fatalReq })) ∧
    (s.writable m BNK_CTL → s.fld BNK_WAKE_STATUS BNK_WAKE_STATUS_edge = 0 → s.fld BNK_CANW_STATUS BNK_CANW_STATUS_flag = 0 →
      Gives (.sleepReq m v) s (fun t => s.logicLost t [BNK_CTL] ∧ t.dev.state = .bankOnly ∧
        t.bank = { s.resetBank t 0 0 with fatals := [], reduced := false, nextSeq := (s.bank.nextSeq + 1) % 16, lastSeq := some (s.bank.nextSeq % 16), enV18 := false, enVline := false, enVcore := false, seq := .idle, pgTimer := false, brownTimer := false, minHold := false })) ∧
    (∀ n : Fin 12, s.writable m (BNK_HTR_DEMAND n) →
      Gives (.heaterDemandWrite m n v) s (fun t => s.linkWrote t m (0x400 + 32 * n.val) v [BNK_HTR_DEMAND n] ∧
        t.fld (BNK_HTR_DEMAND n) BNK_HTR_DEMAND_duty = min (BNK_HTR_DEMAND_duty.get v) 1000 ∧
        t.heater n = { s.heater n with demanded := true, pendFresh := true } ∧ (∀ k, k ≠ n.val → t.heater k = s.heater k) ∧
        t.bank = { s.linkBank with heaters := t.bank.heaters })) ∧
    (∀ n : Fin 12, s.writable m (BNK_HTR_CMD n) →
      Gives (.clear m n v) s (fun t => s.linkWrote t m (0x41C + 32 * n.val) (v ||| 1) [BNK_HTR_STATUS n] ∧
        t.htr n BNK_HTR_STATUS_short_latched = 0 ∧ t.htr n BNK_HTR_STATUS_eff_duty = s.htr n BNK_HTR_STATUS_eff_duty ∧
        t.heater n = { s.heater n with shorts := (s.heater n).shorts.filter (fun x => x == s.elapsed) } ∧
        (∀ k, k ≠ n.val → t.heater k = s.heater k) ∧ t.bank = { s.linkBank with heaters := t.bank.heaters })) ∧
    (s.writable m BNK_SUP_CFG →
      Gives (.clrMin m v) s (fun t => s.linkWrote t m 0x10 (v ||| 0x100) [BNK_SUP_CFG, BNK_VBAT] ∧
        t.fld BNK_VBAT BNK_VBAT_min_mv = s.fld BNK_VBAT BNK_VBAT_mv ∧ t.fld BNK_VBAT BNK_VBAT_mv = s.fld BNK_VBAT BNK_VBAT_mv ∧
        t.bank = s.linkBank))

/-- At a PWM period start (R398, R399, R400, R401, R402): what each channel asks for, by the procedure of R399, with a demand written before the period counting as fresh from it on; the duties after the budget reduction sum to the budget, or to what is asked where that is less; the duties in force are at most these, and the currents that conduct at one instant at most 12,000 mA; budget_cut shows a channel that is reduced. In the cranking and overvoltage hold, in a fatal sequence and out of operation every duty is zero. A pulse of 100 µs or more brings its measurement. Nothing else changes but BNK_STATUS, what the channels have drawn, the events and their frames. -/
def Obligations.HeaterBudget : Prop :=
  ∀ (s : State) (currents : List Nat),
    let cfg := fun n => BNK_HTR_CFG n
    let off := fun n => !s.running || s.bank.fatal.isSome || s.bank.fatalReq.isSome || !s.fldB (cfg n) BNK_HTR_CFG_en || s.bandHeld ||
      (s.heater n).shortOff || decide (s.htr n BNK_HTR_STATUS_short_latched ≠ 0 ∨ s.htr n BNK_HTR_STATUS_ot_group ≠ 0 ∨ s.htr n BNK_HTR_STATUS_model_clamp ≠ 0)
    let asks := (List.range 12).map (fun n =>
      if off n then 0 else if s.fldB BNK_CTL BNK_CTL_safe_run then s.fld (cfg n) BNK_HTR_CFG_safe_duty
      else if !(s.heater n).demanded then 0
      else if (s.heater n).pendFresh || decide (s.htr n BNK_HTR_STATUS_fresh ≠ 0) then s.fld (BNK_HTR_DEMAND n) BNK_HTR_DEMAND_duty
      else (s.heater n).dec)
    let budget := s.fld BNK_HTR_GLB BNK_HTR_GLB_budget
    let ma := (List.range 12).map s.guardMa
    let cut := cutDuties s.cutOrder (asks.sum - budget) asks
    (cut.sum = min asks.sum budget) ∧
    Gives (.pwmPeriodStart currents) s (fun t =>
      let duty := (List.range 12).map (fun n => t.htr n BNK_HTR_STATUS_eff_duty)
      duty.sum ≤ budget ∧ (budget ≤ 8000 → (∀ x ∈ asks, x ≤ 1000) → peakMa ma duty ≤ 12000) ∧
      (budget ≤ 8000 → (∀ x ∈ asks, x ≤ 1000) → peakMa ma cut ≤ 12000 → duty = cut) ∧
      (∀ n < 12, duty.getD n 0 ≤ asks.getD n 0 ∧ (t.htr n BNK_HTR_STATUS_budget_cut = 0 → asks.getD n 0 < 1024 → duty.getD n 0 = asks.getD n 0) ∧
        (asks.getD n 0 < 1024 → duty.getD n 0 < asks.getD n 0 → t.htr n BNK_HTR_STATUS_budget_cut = 1) ∧
        t.heater n = { s.heater n with pendFresh := false, measured := (t.heater n).measured, openRun := (t.heater n).openRun, energy := s.supplied n, since := s.elapsed } ∧
        ((s.heater n).pendFresh = true → t.htr n BNK_HTR_STATUS_fresh = 1 ∧ t.htr n BNK_HTR_STATUS_decaying = 0) ∧
        ((s.heater n).pendFresh = false → t.htr n BNK_HTR_STATUS_fresh = s.htr n BNK_HTR_STATUS_fresh ∧
          t.htr n BNK_HTR_STATUS_decaying = s.htr n BNK_HTR_STATUS_decaying) ∧
        (t.fld (BNK_HTR_MEAS n) BNK_HTR_MEAS_i_ma = if duty.getD n 0 * 1000 < 100 * s.fld BNK_HTR_GLB BNK_HTR_GLB_pwm_hz ∨ duty.getD n 0 = 0
          then s.fld (BNK_HTR_MEAS n) BNK_HTR_MEAS_i_ma else min (currents.getD n 0) 4095)) ∧
      (s.bandHeld = true ∨ s.bank.fatal.isSome = true ∨ s.bank.fatalReq.isSome = true ∨ s.running = false → t.heatersZero) ∧
      s.onlyRegs t (BNK_STATUS :: htrStatus ++ (List.range 12).map BNK_HTR_MEAS) ∧ s.bankFrame t)

/-- What happens to a heater channel (R399, R400, R402, R403): a period start takes over the demand written before it, and gives a channel that is not enabled nothing; a demand that is not refreshed expires with 0x0E14, from its duty or, with decay_step 0, at the safe duty; a decay step moves it towards the safe duty and never past it; a short turns the channel off with 0x0E11, and the third within 10 s latches it off with 0x0E12; a second later it is tried again, and 10 s without one end the run; an output short to VBAT is found while the channel is off, with 0x0E17; the thermal model moves by its step from the power averaged since its last update, clamps the channel with 0x0E13 at its limit and frees it below the hysteresis. Each event crosses the link in an event frame. Where the condition does not hold, nothing changes. -/
def Obligations.HeaterChannels : Prop :=
  ∀ (s : State) (n : Fin 12),
    (s.htr n BNK_HTR_STATUS_fresh ≠ 0 → (s.heater n).pendFresh = false →
      Gives (.demandExpiry n) s (fun t => t.htr n BNK_HTR_STATUS_fresh = 0 ∧ t.htr n BNK_HTR_STATUS_decaying = 1 ∧
        t.htr n BNK_HTR_STATUS_eff_duty = s.htr n BNK_HTR_STATUS_eff_duty ∧
        t.heater n = { s.heater n with dec := (if s.fld (BNK_HTR_CFG n) BNK_HTR_CFG_decay_step = 0 then s.fld (BNK_HTR_CFG n) BNK_HTR_CFG_safe_duty
          else s.fld (BNK_HTR_DEMAND n) BNK_HTR_DEMAND_duty) } ∧ (∀ k, k ≠ n.val → t.heater k = s.heater k) ∧
        s.bankPosts t 0x0E14 2 n ∧ s.onlyRegs t [BNK_HTR_STATUS n] ∧ s.bankFrame t ∧ t.bank = { s.bank with heaters := t.bank.heaters })) ∧
    (s.htr n BNK_HTR_STATUS_fresh = 0 ∨ (s.heater n).pendFresh = true → Gives (.demandExpiry n) s (fun t => t = s)) ∧
    (s.htr n BNK_HTR_STATUS_decaying ≠ 0 →
      let safe := s.fld (BNK_HTR_CFG n) BNK_HTR_CFG_safe_duty
      let st := 10 * s.fld (BNK_HTR_CFG n) BNK_HTR_CFG_decay_step
      let h := s.heater n
      Gives (.decayStep n) s (fun t => t = { s with bank := { s.bank with heaters := t.bank.heaters } } ∧
        (∀ k, k ≠ n.val → t.heater k = s.heater k) ∧ t.heater n = { h with dec := (t.heater n).dec } ∧
        (st = 0 → (t.heater n).dec = safe) ∧ (st ≠ 0 → safe + st ≤ h.dec → (t.heater n).dec = h.dec - st) ∧
        (st ≠ 0 → h.dec + st ≤ safe → (t.heater n).dec = h.dec + st) ∧
        (h.dec < safe + st → safe < h.dec + st → (t.heater n).dec = safe))) ∧
    (s.htr n BNK_HTR_STATUS_decaying = 0 → Gives (.decayStep n) s (fun t => t = s)) ∧
    (s.htr n BNK_HTR_STATUS_eff_duty ≠ 0 →
      let recent := (s.heater n).shorts.filter (fun x => decide (s.elapsed < x + 10000000000))
      let first := decide (s.htr n BNK_HTR_STATUS_short = 0)
      let latches := decide (2 ≤ recent.length ∧ s.htr n BNK_HTR_STATUS_short_latched = 0)
      Gives (.heaterShort n) s (fun t => t.htr n BNK_HTR_STATUS_eff_duty = 0 ∧ t.htr n BNK_HTR_STATUS_short = 1 ∧
        t.heater n = { s.heater n with shortOff := true, shorts := (s.elapsed :: recent).take 3, energy := s.supplied n, since := s.elapsed } ∧
        (∀ k, k ≠ n.val → t.heater k = s.heater k) ∧ t.shortRun n = min 3 (recent.length + 1) ∧
        (first = true → s.tells t 2 0x0E11 4 n) ∧ (latches = true → s.tells t 2 0x0E12 4 n) ∧
        t.htr n BNK_HTR_STATUS_short_latched = (if latches then 1 else s.htr n BNK_HTR_STATUS_short_latched) ∧
        s.eventFrames t (boolNat (s.running && first) + boolNat (s.running && latches)) ∧
        s.onlyRegs t [BNK_HTR_STATUS n] ∧ s.bankFrame t ∧ t.bank = { s.bank with heaters := t.bank.heaters })) ∧
    (s.htr n BNK_HTR_STATUS_eff_duty = 0 → Gives (.heaterShort n) s (fun t => t = s)) ∧
    Gives (.shortRetry n) s (fun t => t.heater n = { s.heater n with shortOff := false } ∧ (∀ k, k ≠ n.val → t.heater k = s.heater k) ∧
      t = { s with bank := { s.bank with heaters := t.bank.heaters } }) ∧
    Gives (.shortRunReset n) s (fun t => t.shortRun n = s.shortRun n ∧ (s.shortRun n = 0 → (t.heater n).shorts = []) ∧
      (s.shortRun n ≠ 0 → t = s) ∧ t.heater n = { s.heater n with shorts := (t.heater n).shorts } ∧
      (∀ k, k ≠ n.val → t.heater k = s.heater k) ∧ t = { s with bank := { s.bank with heaters := t.bank.heaters } }) ∧
    (s.htr n BNK_HTR_STATUS_eff_duty = 0 → s.htr n BNK_HTR_STATUS_vbat_short = 0 →
      Gives (.vbatShort n) s (fun t => t.htr n BNK_HTR_STATUS_vbat_short = 1 ∧ s.bankPosts t 0x0E17 4 n ∧
        s.onlyRegs t [BNK_HTR_STATUS n] ∧ s.bankFrame t ∧ t.bank = s.bank)) ∧
    (s.htr n BNK_HTR_STATUS_eff_duty ≠ 0 ∨ s.htr n BNK_HTR_STATUS_vbat_short ≠ 0 → Gives (.vbatShort n) s (fun t => t = s)) ∧
    (∀ currents : List Nat, Gives (.pwmPeriodStart currents) s (fun t => (t.heater n).pendFresh = false ∧
      (s.fld (BNK_HTR_CFG n) BNK_HTR_CFG_en = 0 → t.htr n BNK_HTR_STATUS_eff_duty = 0) ∧
      ((s.heater n).pendFresh = true → t.htr n BNK_HTR_STATUS_fresh = 1 ∧ t.htr n BNK_HTR_STATUS_decaying = 0) ∧
      t.fld (BNK_HTR_DEMAND n) BNK_HTR_DEMAND_duty = s.fld (BNK_HTR_DEMAND n) BNK_HTR_DEMAND_duty ∧ s.bankFrame t)) ∧
    Gives .thermalModelUpdate s (fun t =>
      let r := s.fld (BNK_HTR_MODEL n) BNK_HTR_MODEL_r_th
      let tau := max 1 (s.fld (BNK_HTR_MODEL n) BNK_HTR_MODEL_tau_s)
      let span := s.elapsed - s.bank.modelAt
      let theta := thetaStep (s.heater n).theta r tau (if span = 0 then s.fld (BNK_HTR_MEAS n) BNK_HTR_MEAS_i_ma * s.pins.vbat * s.htr n BNK_HTR_STATUS_eff_duty
        else s.supplied n) (max 1 span)
      let mx := s.fld (BNK_HTR_LIMIT n) BNK_HTR_LIMIT_th_max
      let hy := min (s.fld (BNK_HTR_LIMIT n) BNK_HTR_LIMIT_th_hyst) mx
      t.heater n = { s.heater n with energy := 0, since := s.elapsed, theta := (if r = 0 then (s.heater n).theta else theta) } ∧
      (r = 0 → t.htr n BNK_HTR_STATUS_model_clamp = 0) ∧
      (r ≠ 0 → t.fld (BNK_HTR_MEAS n) BNK_HTR_MEAS_theta = min (theta / 256) 65535 ∧
        (s.htr n BNK_HTR_STATUS_model_clamp = 0 → mx * 256 ≤ theta → t.htr n BNK_HTR_STATUS_model_clamp = 1 ∧
          t.htr n BNK_HTR_STATUS_eff_duty = 0 ∧ s.tells t 12 0x0E13 2 n) ∧
        (s.htr n BNK_HTR_STATUS_model_clamp = 0 → theta < mx * 256 → t.htr n BNK_HTR_STATUS_model_clamp = 0) ∧
        (s.htr n BNK_HTR_STATUS_model_clamp ≠ 0 → theta ≤ (mx - hy) * 256 → t.htr n BNK_HTR_STATUS_model_clamp = 0) ∧
        (s.htr n BNK_HTR_STATUS_model_clamp ≠ 0 → (mx - hy) * 256 < theta → t.htr n BNK_HTR_STATUS_model_clamp ≠ 0)) ∧
      s.onlyRegs t (htrStatus ++ (List.range 12).map BNK_HTR_MEAS) ∧ s.bankFrame t ∧
      t.bank = { s.bank with heaters := t.bank.heaters, modelAt := s.elapsed })

/-- The law (R46): below a margin of 5 % the command rises 30 mV, below the floor 10 mV, not above 900 mV; after dwell periods in a row above lower_pct it falls 5 mV, not below vmin, unless the link is lost; a faulty monitor holds it at 850 mV; with no monitor included it falls the same way. A period boundary (R44, R45, R47): every rate is loaded, a monitor that reads 0 or jumps by more than 40 % is found faulty with 0x0222 and excluded (that the rate before counts also where the polder was off in it is the model's choice, assumption 85), the least margin is shown (of equal ones that of the lowest monitor, assumption 113), headroom_alarm is set with 0x0220 below the floor at 900 mV while the governor is enabled (assumption 114), the enabled governor's command takes what the law gives, and waiting needs are swapped in for all monitors at once. need_swap marks the swap; a margin below zero for 1 ms sets load_not_met with 0x0221. -/
def Obligations.GovernorPeriod : Prop :=
  ∀ s : State,
    (∀ (cmd above floorPct lowerPct dwell vmin hold r d : Nat) (noLower : Bool), 5 ≤ floorPct → floorPct + 5 ≤ lowerPct →
    let law := govLaw cmd above floorPct lowerPct dwell vmin hold noLower (some (r, d))
    let down := max (if noLower then cmd else max (max (cmd - 5) vmin) hold) hold
    (100 * r < 105 * d → law = (max (min (cmd + 30) 900) hold, 0)) ∧
    (105 * d ≤ 100 * r → 100 * r < (100 + floorPct) * d → law = (max (min (cmd + 10) 900) hold, 0)) ∧
    ((100 + floorPct) * d ≤ 100 * r → 100 * r ≤ (100 + lowerPct) * d → law = (max cmd hold, 0)) ∧
    ((100 + lowerPct) * d < 100 * r → above + 1 < max 1 dwell → law = (max cmd hold, above + 1)) ∧
    ((100 + lowerPct) * d < 100 * r → max 1 dwell ≤ above + 1 → law = (down, 0)) ∧
    (above + 1 < max 1 dwell → govLaw cmd above floorPct lowerPct dwell vmin hold noLower none = (max cmd hold, above + 1)) ∧
    (max 1 dwell ≤ above + 1 → govLaw cmd above floorPct lowerPct dwell vmin hold noLower none = (down, 0))) ∧
    (∀ rates : List Nat, s.running = false → Gives (.governorPeriod rates) s (fun t => t = s)) ∧
    (∀ rates : List Nat, s.running = true →
      let u := (List.range 32).foldl (fun (x : State) n => x.measureRate n (rates.getD n 0)) s
      let new := fun n : Nat => min (rates.getD n 0) 65535
      let bad := fun n : Nat => s.monOn n && !s.hlt.faulty.testBit n && (new n == 0 || (s.hlt.havePrev && !s.hlt.vcoreChanged && rateJump (s.fld (HLT_RATE_MEAS n) HLT_RATE_MEAS_rate) (new n)))
      let newly := ((List.range 32).filter bad).length
      let enabled := s.fld HLT_GOV_CTL HLT_GOV_CTL_enable = 1
      let alarm := s.fld HLT_GOV_STATUS HLT_GOV_STATUS_headroom_alarm
      let floorPct := s.fld HLT_GOV_CTL HLT_GOV_CTL_floor_pct
      let low := u.worst.any (fun w => decide (100 * w.2.1 < (100 + floorPct) * w.2.2))
      let neg := u.worst.any (fun w => decide (w.2.1 < w.2.2))
      let law := govLaw s.vcoreCmd s.hlt.above floorPct (s.fld HLT_GOV_CTL HLT_GOV_CTL_lower_pct) (s.fld HLT_GOV_CTL2 HLT_GOV_CTL2_dwell) (s.fld HLT_GOV_CTL2 HLT_GOV_CTL2_vmin_mv) (if u.hlt.faulty ≠ 0 then 850 else 0) (s.fldB HLT_PMB_STATUS HLT_PMB_STATUS_link_lost) (u.worst.map (fun w => (w.2.1, w.2.2)))
      Gives (.governorPeriod rates) s (fun t =>
        (∀ n < 32, t.fld (HLT_RATE_MEAS n) HLT_RATE_MEAS_rate = new n ∧
          t.hlt.faulty.testBit n = (s.hlt.faulty.testBit n || bad n) ∧
          t.fld (HLT_RATE_MEAS n) HLT_RATE_MEAS_fault = (if bad n then 1 else s.fld (HLT_RATE_MEAS n) HLT_RATE_MEAS_fault) ∧
          (bad n = true → s.tells t (newly + 1) 0x0222 3 n) ∧
          t.fld (HLT_RATE_MEAS n) HLT_RATE_MEAS_excluded = boolNat (s.fld (HLT_RATE_NEED n) HLT_RATE_NEED_need_active = 0 || !s.monOn n || t.hlt.faulty.testBit n) ∧
          t.fld (HLT_RATE_NEED n) HLT_RATE_NEED_need_next = s.fld (HLT_RATE_NEED n) HLT_RATE_NEED_need_next ∧
          t.fld (HLT_RATE_NEED n) HLT_RATE_NEED_need_active =
            (if s.hlt.swapPending then s.fld (HLT_RATE_NEED n) HLT_RATE_NEED_need_next else s.fld (HLT_RATE_NEED n) HLT_RATE_NEED_need_active)) ∧
        t.hlt.swapPending = false ∧ t.hlt.havePrev = true ∧ t.hlt.marginNeg = neg ∧
        t.hlt.raising = (if s.hlt.swapPending then (if s.needsRise then some s.hlt.swapAt else none) else if low then s.hlt.raising else none) ∧
        (∀ w ∈ u.worst, t.fld HLT_GOV_STATUS HLT_GOV_STATUS_worst_mon = w.1 ∧
          t.fld HLT_GOV_STATUS HLT_GOV_STATUS_min_margin = unsigned 12 (marginTenths w.2.1 w.2.2)) ∧
        (u.worst = none → t.fld HLT_GOV_STATUS HLT_GOV_STATUS_min_margin = 2047) ∧
        (neg = false → t.fld HLT_GOV_STATUS HLT_GOV_STATUS_load_not_met = 0) ∧
        (low = false → t.fld HLT_GOV_STATUS HLT_GOV_STATUS_headroom_alarm = 0) ∧
        (low = true → s.vcoreCmd = 900 → enabled → t.fld HLT_GOV_STATUS HLT_GOV_STATUS_headroom_alarm = 1 ∧
          (alarm = 0 → s.tells t (newly + 1) 0x0220 3 noInst)) ∧
        (enabled → t.vcoreCmd = law.1 % 1024 ∧ t.hlt.above = law.2) ∧
        (¬ enabled → t.vcoreCmd = s.vcoreCmd ∧ t.hlt.above = s.hlt.above ∧ t.outputs = s.outputs) ∧
        s.onlyRegs t (HLT_GOV_STATUS :: (List.range 32).map HLT_RATE_MEAS ++ (List.range 32).map HLT_RATE_NEED) ∧
        t = { s with regs := t.regs, flt := t.flt, hlt := t.hlt, outputs := t.outputs })) ∧
    (∀ (m : Master) (v : Word), s.writable m HLT_GOV_CTL →
      Gives (.needSwap m v) s (fun t => t.hlt.swapPending = true ∧ t.hlt.swapAt = s.elapsed ∧
        t.fld HLT_GOV_CTL HLT_GOV_CTL_enable = HLT_GOV_CTL_enable.get v ∧
        t.fld HLT_GOV_CTL HLT_GOV_CTL_period = min (HLT_GOV_CTL_period.get v) 100 ∧
        t.fld HLT_GOV_CTL HLT_GOV_CTL_floor_pct = max 15 (min (HLT_GOV_CTL_floor_pct.get v) 250) ∧
        t.fld HLT_GOV_CTL HLT_GOV_CTL_lower_pct = min 255 (max (HLT_GOV_CTL_lower_pct.get v) (t.fld HLT_GOV_CTL HLT_GOV_CTL_floor_pct + 5)) ∧
        (HLT_GOV_CTL_enable.get v = 1 → t.vcoreCmd = max (max s.vcoreCmd (s.fld HLT_GOV_CTL2 HLT_GOV_CTL2_vmin_mv)) (if s.hlt.faulty ≠ 0 then 850 else 0)) ∧
        (HLT_GOV_CTL_enable.get v = 0 → t.vcoreCmd = (if s.hlt.everEnabled then s.fld HLT_GOV_CTL2 HLT_GOV_CTL2_fixed_mv else s.vcoreCmd)) ∧
        s.onlyRegs t [HLT_GOV_CTL, HLT_GOV_STATUS] ∧ t = { s.seen m with regs := t.regs, hlt := t.hlt, outputs := t.outputs })) ∧
    (s.hlt.marginNeg = true → s.fld HLT_GOV_STATUS HLT_GOV_STATUS_load_not_met = 0 →
      Gives .loadNotMet s (fun t => t.fld HLT_GOV_STATUS HLT_GOV_STATUS_load_not_met = 1 ∧ t.vcoreCmd = s.vcoreCmd ∧ s.posts t 0x0221 5 noInst ∧
        s.onlyRegs t [HLT_GOV_STATUS] ∧ s.regFrame t)) ∧
    (s.hlt.marginNeg = false ∨ s.fld HLT_GOV_STATUS HLT_GOV_STATUS_load_not_met = 1 → Gives .loadNotMet s (fun t => t = s))

/-- The regulator link (R50, R51): an answered VOUT_COMMAND is read back, and a read-back more than 25 mV off sets vmismatch with 0x0233; a transaction's end starts the one that waits (that transactions wait for one another is the model's choice, assumption 86); a failed attempt counts and is repeated up to three times, then link_lost is set with 0x0230. PMB_ALERT_N reads STATUS_WORD and the start reads VOUT_MODE, each with its own repeats; a non-zero status sets reg_fault with 0x0231 and sends CLEAR_FAULTS; a format other than linear sets mode_refused with 0x0232. -/
def Obligations.RegulatorLink : Prop :=
  ∀ s : State,
    let addr := s.fld HLT_PMB_CFG HLT_PMB_CFG_addr
    let err := s.fld HLT_PMB_STATUS HLT_PMB_STATUS_err_count
    (∀ (x n mv : Nat), s.hlt.pmb = some (.vout x, n) → Gives (.pmbusTransactionDone (.ok mv)) s (fun t =>
      t = { s with hlt := { s.hlt with pmb := some (.readVout x, 0) }, outputs := .pmbus addr (.readVout x) :: s.outputs })) ∧
    (∀ (c : PmbCmd) (n mv : Nat), s.hlt.pmb = some (c, n) → c.isVout = false →
      Gives (.pmbusTransactionDone (.ok mv)) s (fun t =>
        (s.hlt.pmbWait = [] → t.hlt = { s.hlt with pmb := none } ∧ t.outputs = s.outputs) ∧
        (∀ (d : PmbCmd) (l : List PmbCmd), s.hlt.pmbWait = d :: l →
          t.hlt = { s.hlt with pmb := some (d, 0), pmbWait := l } ∧ t.outputs = .pmbus addr d :: s.outputs) ∧
        (∀ x : Nat, c = .readVout x → 25 < absDiff mv x → t.fld HLT_PMB_STATUS HLT_PMB_STATUS_vmismatch = 1 ∧ s.posts t 0x0233 4 noInst) ∧
        ((∀ x : Nat, c = .readVout x → absDiff mv x ≤ 25) → t.regs = s.regs ∧ t.flt = s.flt) ∧
        t.fld HLT_PMB_STATUS HLT_PMB_STATUS_err_count = err ∧
        s.onlyRegs t [HLT_PMB_STATUS] ∧ t = { s with regs := t.regs, flt := t.flt, hlt := t.hlt, outputs := t.outputs })) ∧
    (∀ (c : PmbCmd) (n : Nat) (cmd : Instr), s.hlt.pmb = some (c, n) →
      cmd = .pmbusTransactionDone .nack ∨ cmd = .pmbusTransactionDone .pecError ∨ cmd = .pmbusClockStretchTimeout →
      Gives cmd s (fun t => t.fld HLT_PMB_STATUS HLT_PMB_STATUS_err_count = min (err + 1) 65535 ∧
        (n < 3 → t.hlt = { s.hlt with pmb := some (c, n + 1) } ∧ t.outputs = .pmbus addr c :: s.outputs ∧ t.flt = s.flt ∧
          t.fld HLT_PMB_STATUS HLT_PMB_STATUS_link_lost = s.fld HLT_PMB_STATUS HLT_PMB_STATUS_link_lost) ∧
        (3 ≤ n → t.fld HLT_PMB_STATUS HLT_PMB_STATUS_link_lost = 1 ∧ s.posts t 0x0230 4 noInst) ∧
        (3 ≤ n → s.hlt.pmbWait = [] → t.hlt = { s.hlt with pmb := none } ∧ t.outputs = s.outputs) ∧
        (∀ (d : PmbCmd) (l : List PmbCmd), 3 ≤ n → s.hlt.pmbWait = d :: l →
          t.hlt = { s.hlt with pmb := some (d, 0), pmbWait := l } ∧ t.outputs = .pmbus addr d :: s.outputs) ∧
        s.onlyRegs t [HLT_PMB_STATUS] ∧ t = { s with regs := t.regs, flt := t.flt, hlt := t.hlt, outputs := t.outputs })) ∧
    (∀ (r : PmbResult) (cmd : Instr), s.hlt.pmb = none → cmd = .pmbusTransactionDone r ∨ cmd = .pmbusClockStretchTimeout →
      Gives cmd s (fun t => t = s)) ∧
    (∀ (fails : Fin 5) (status : BitVec 16), s.running = true →
      let reads := List.replicate (min 4 (fails + 1)) (Output.pmbus addr .statusWord) ++ s.outputs
      Gives (.pmbAlertN fails status) s (fun t => t.fld HLT_PMB_STATUS HLT_PMB_STATUS_err_count = min (err + fails) 65535 ∧
        (fails = 4 → t.fld HLT_PMB_STATUS HLT_PMB_STATUS_link_lost = 1 ∧ s.posts t 0x0230 4 noInst ∧ t.outputs = reads ∧ t.hlt = s.hlt) ∧
        (fails ≠ 4 → status = 0 → t.flt = s.flt ∧ t.outputs = reads ∧ t.hlt = s.hlt ∧
          t.fld HLT_PMB_STATUS HLT_PMB_STATUS_reg_fault = s.fld HLT_PMB_STATUS HLT_PMB_STATUS_reg_fault) ∧
        (fails ≠ 4 → status ≠ 0 → t.fld HLT_PMB_STATUS HLT_PMB_STATUS_reg_fault = 1 ∧ s.posts t 0x0231 4 noInst ∧
          (s.hlt.pmb = none → t.outputs = .pmbus addr .clearFaults :: reads ∧ t.hlt = { s.hlt with pmb := some (.clearFaults, 0) }) ∧
          (s.hlt.pmb ≠ none → t.outputs = reads ∧ t.hlt = { s.hlt with pmbWait := s.hlt.pmbWait ++ [.clearFaults] })) ∧
        s.onlyRegs t [HLT_PMB_STATUS] ∧ t = { s with regs := t.regs, flt := t.flt, hlt := t.hlt, outputs := t.outputs })) ∧
    (∀ (fails : Fin 5) (linear : Bool), s.running = true →
      let reads := List.replicate (min 4 (fails + 1)) (Output.pmbus addr .voutMode) ++ s.outputs
      Gives (.voutModeRead fails linear) s (fun t => t.fld HLT_PMB_STATUS HLT_PMB_STATUS_err_count = min (err + fails) 65535 ∧ t.outputs = reads ∧
        (fails = 4 → t.fld HLT_PMB_STATUS HLT_PMB_STATUS_link_lost = 1 ∧ s.posts t 0x0230 4 noInst ∧ t.hlt = s.hlt) ∧
        (fails ≠ 4 → t.hlt = { s.hlt with notLinear := !linear } ∧
          (linear = true → t.flt = s.flt ∧ t.fld HLT_PMB_STATUS HLT_PMB_STATUS_mode_refused = s.fld HLT_PMB_STATUS HLT_PMB_STATUS_mode_refused) ∧
          (linear = false → t.fld HLT_PMB_STATUS HLT_PMB_STATUS_mode_refused = 1 ∧ s.posts t 0x0232 5 noInst)) ∧
        s.onlyRegs t [HLT_PMB_STATUS] ∧ t = { s with regs := t.regs, flt := t.flt, hlt := t.hlt, outputs := t.outputs })) ∧
    (∀ (fails : Fin 5) (status : BitVec 16) (linear : Bool), s.running = false →
      Gives (.pmbAlertN fails status) s (fun t => t = s) ∧ Gives (.voutModeRead fails linear) s (fun t => t = s))

/-- The monitors (R40, R41, R43, R50, R53): each sensor register takes its reading; an implausible reading makes its sensor invalid for good with 0x0213 (the tests' corners are the model's choice, assumption 85); the warning, limit and critical thresholds apply to the hottest valid logic- or line-die sensor (without one all stay as they are, assumption 112); a bank-die group at 150 °C stops its heaters until it is below 135 °C with 0x0E16. Each voltage register takes its reading, with low or high set outside the limits and 0x0240; a core supply off its command by more than 25 mV sets vmismatch. 130 °C for 1 ms and a core supply below 680 mV for 10 µs raise class 7 events. clr_max and clr_counts clear what they name. -/
def Obligations.Sensors : Prop :=
  ∀ s : State,
    (∀ r : List Int, s.running = false → Gives (.tempSample r) s (fun t => t = s)) ∧
    (∀ r : List Int, s.running = true →
      let bad := fun n : Nat => s.hlt.tempBad.testBit n || s.tempImplausible r n
      let vals := ((List.range 20).filter (fun n => !bad n)).map (fun n => r.getD n 0)
      let warn : Int := 8 * s.fld HLT_TEMP_LIM HLT_TEMP_LIM_warn
      let newly := ((List.range 24).filter (fun n => !s.hlt.tempBad.testBit n && bad n)).length
      let hot := fun (t : State) (n : Nat) => t.htr n BNK_HTR_STATUS_ot_group = 1 ∧ s.htr n BNK_HTR_STATUS_ot_group = 0
      Gives (.tempSample r) s (fun t => t.hlt.tempSeen = true ∧
        (∀ n < 24, t.fld (HLT_TEMP n) HLT_TEMP_temp = unsigned 12 (r.getD n 0) ∧ t.fld (HLT_TEMP n) HLT_TEMP_valid = boolNat (!bad n) ∧
          t.fld (HLT_TEMP n) HLT_TEMP_max_hold = unsigned 12 (if s.hlt.tempSeen then max (signed 12 (s.fld (HLT_TEMP n) HLT_TEMP_max_hold)) (r.getD n 0) else r.getD n 0) ∧
          t.hlt.tempBad.testBit n = bad n ∧ (s.hlt.tempBad.testBit n = false → bad n = true → s.tells t (newly + 2) 0x0213 3 n)) ∧
        (vals = [] → t.hlt.warnActive = s.hlt.warnActive ∧ t.hlt.limitActive = s.hlt.limitActive ∧ t.hlt.critTimer = s.hlt.critTimer) ∧
        (∀ top ∈ vals, (∀ v ∈ vals, v ≤ top) →
          t.hlt.warnActive = (if s.hlt.warnActive then decide (warn - 40 ≤ top) else decide (warn ≤ top)) ∧
          t.hlt.limitActive = (if s.hlt.limitActive then decide (960 ≤ top) else decide (1000 ≤ top)) ∧
          t.hlt.critTimer = decide (1040 ≤ top) ∧
          (s.hlt.warnActive = false → warn ≤ top → s.tells t (newly + 2) 0x0210 3 noInst) ∧
          (s.hlt.warnActive = true → top < warn - 40 → s.tells t (newly + 2) 0x0214 0 noInst) ∧
          (s.hlt.limitActive = false → 1000 ≤ top → s.tells t (newly + 2) 0x0211 5 noInst)) ∧
        (∀ g < 4, t.bank.hot.testBit g = (if bad (20 + g) then s.bank.hot.testBit g
          else if 1200 ≤ r.getD (20 + g) 0 then true else if r.getD (20 + g) 0 < 1080 then false else s.bank.hot.testBit g)) ∧
        (∀ n < 12, t.htr n BNK_HTR_STATUS_ot_group = boolNat (t.bank.hot.testBit (n / 4) || t.bank.hot.testBit 3) ∧
          (hot t n → t.htr n BNK_HTR_STATUS_eff_duty = 0 ∧ t.heater n = { s.heater n with energy := s.supplied n, since := s.elapsed } ∧
            s.tells t 12 0x0E16 3 n) ∧
          (¬ hot t n → t.htr n BNK_HTR_STATUS_eff_duty = s.htr n BNK_HTR_STATUS_eff_duty ∧ t.heater n = s.heater n)) ∧
        s.eventFrames t ((List.range 12).filter (fun n => decide (hot t n))).length ∧
        s.onlyRegs t ((List.range 24).map HLT_TEMP ++ htrStatus) ∧
        t = { s with regs := t.regs, flt := t.flt, hlt := t.hlt, outputs := t.outputs, free := t.free, bank := { s.bank with hot := t.bank.hot, heaters := t.bank.heaters } })) ∧
    (s.hlt.critTimer = true → s.running = true →
      Gives .tempCritical s (fun t => s.posts t 0x0212 7 noInst ∧ s.fatalAsked t 0x0212 ∧
        s.onlyRegs t [] ∧ s.bankFrame t)) ∧
    (s.hlt.critTimer = false ∨ s.running = false → Gives .tempCritical s (fun t => t = s)) ∧
    (∀ r : List Nat, s.running = false → Gives (.vmonSample r) s (fun t => t = s)) ∧
    (∀ r : List Nat, s.running = true →
      let low := fun n : Nat => decide (r.getD n 0 < s.fld (HLT_VMON_LIM n) HLT_VMON_LIM_lo_mv)
      let high := fun n : Nat => decide (s.fld (HLT_VMON_LIM n) HLT_VMON_LIM_hi_mv < r.getD n 0)
      let off := fun n : Nat => decide (25 < absDiff (r.getD n 0) s.vcoreCmd)
      let k := ((List.range 12).filter (fun n => low n || high n)).length + ((List.range 4).filter off).length
      Gives (.vmonSample r) s (fun t =>
        (∀ n < 12, t.fld (HLT_VMON n) HLT_VMON_mv = min (r.getD n 0) 4095 ∧
          t.fld (HLT_VMON n) HLT_VMON_low = (if low n then 1 else s.fld (HLT_VMON n) HLT_VMON_low) ∧
          t.fld (HLT_VMON n) HLT_VMON_high = (if high n then 1 else s.fld (HLT_VMON n) HLT_VMON_high) ∧
          (low n = true ∨ high n = true → s.tells t k 0x0240 4 n)) ∧
        (∀ n < 4, t.hlt.underTimer.testBit n = decide (r.getD n 0 < 680)) ∧
        (∀ n < 4, off n = true → t.fld HLT_PMB_STATUS HLT_PMB_STATUS_vmismatch = 1 ∧ s.tells t k 0x0233 4 noInst) ∧
        ((∀ n < 4, off n = false) → t.rd HLT_PMB_STATUS = s.rd HLT_PMB_STATUS) ∧ (k = 0 → t.flt = s.flt) ∧
        s.onlyRegs t (HLT_PMB_STATUS :: (List.range 12).map HLT_VMON) ∧
        t = { s with regs := t.regs, flt := t.flt, hlt := { s.hlt with underTimer := t.hlt.underTimer } })) ∧
    (∀ n : Fin 4, s.hlt.underTimer.testBit n = true → s.running = true →
      Gives (.vcoreUndervolt n) s (fun t => s.posts t 0x0241 7 n ∧ s.fatalAsked t 0x0241 ∧
        s.onlyRegs t [] ∧ s.bankFrame t)) ∧
    (∀ n : Fin 4, s.hlt.underTimer.testBit n = false ∨ s.running = false → Gives (.vcoreUndervolt n) s (fun t => t = s)) ∧
    (∀ (m : Master) (v : Word), s.writable m HLT_TEMP_LIM →
      Gives (.clrMax m v) s (fun t => t = { s.seen m with regs := t.regs } ∧ s.onlyRegs t (HLT_TEMP_LIM :: (List.range 24).map HLT_TEMP) ∧
        t.fld HLT_TEMP_LIM HLT_TEMP_LIM_warn = max 85 (min (HLT_TEMP_LIM_warn.get v) 124) ∧
        t.fld HLT_TEMP_LIM HLT_TEMP_LIM_limit = s.fld HLT_TEMP_LIM HLT_TEMP_LIM_limit ∧
        t.fld HLT_TEMP_LIM HLT_TEMP_LIM_crit = s.fld HLT_TEMP_LIM HLT_TEMP_LIM_crit ∧
        ∀ n < 24, t.fld (HLT_TEMP n) HLT_TEMP_max_hold = s.fld (HLT_TEMP n) HLT_TEMP_temp ∧
          t.fld (HLT_TEMP n) HLT_TEMP_temp = s.fld (HLT_TEMP n) HLT_TEMP_temp ∧
          t.fld (HLT_TEMP n) HLT_TEMP_valid = s.fld (HLT_TEMP n) HLT_TEMP_valid)) ∧
    (∀ (m : Master) (v : Word), s.writable m HLT_PMB_CFG →
      Gives (.clrCounts m v) s (fun t => t.fld HLT_PMB_STATUS HLT_PMB_STATUS_err_count = 0 ∧
        (∀ f ∈ [HLT_PMB_STATUS_link_lost, HLT_PMB_STATUS_reg_fault, HLT_PMB_STATUS_mode_refused, HLT_PMB_STATUS_vmismatch],
          t.fld HLT_PMB_STATUS f = s.fld HLT_PMB_STATUS f) ∧
        t.fld HLT_PMB_CFG HLT_PMB_CFG_addr = HLT_PMB_CFG_addr.get v ∧ t.fld HLT_PMB_CFG HLT_PMB_CFG_fast_plus = HLT_PMB_CFG_fast_plus.get v ∧
        s.onlyRegs t [HLT_PMB_CFG, HLT_PMB_STATUS] ∧ t = { s.seen m with regs := t.regs }))

/-- The tide clock (R35 to R39, R53, R147, R177): a rate within ±500 ppm is loaded as written, one beyond it is clamped with 0x0203; a step adds the signed amount at once, sets step_done with 0x0201, suspends the presentation check and holds each running tide table's gates to the next cycle boundary at the new time; a Sync at the slave port more than 1 µs off is corrected by one step, one closer leaves the clock and sets a rate within the limits (its value is free, assumption 9); a lost Sync goes into holdover with 0x0202 and leaves the rate; both set CSG_CTL.time_valid; a Sync that finds the last scrub pass begun more than five years ago has a pass begin, and the first one of a start raises 0x0F09 (R420); without a slave port neither changes anything. Sync and peer-delay messages go to their ports with a link. -/
def Obligations.TideClock : Prop :=
  ∀ s : State,
    (∀ (m : Master) (v : Word), s.writable m HLT_TIDE_RATE →
      let r := signed 32 v.toNat
      Gives (.hltTideRateWrite m v) s (fun t => t = { s.seen m with regs := t.regs, flt := t.flt } ∧
        (-549755814 ≤ r → r ≤ 549755814 → t.rd HLT_TIDE_RATE = v ∧ s.onlyRegs t [HLT_TIDE_RATE] ∧ t.flt = s.flt) ∧
        (549755814 < r → t.rd HLT_TIDE_RATE = BitVec.ofInt 32 549755814) ∧
        (r < -549755814 → t.rd HLT_TIDE_RATE = BitVec.ofInt 32 (-549755814)) ∧
        (549755814 < r ∨ r < -549755814 → s.posts t 0x0203 1 noInst ∧
          t.fld HLT_TIDE_STATUS HLT_TIDE_STATUS_rate_clamped = 1 ∧ s.onlyRegs t [HLT_TIDE_RATE, HLT_TIDE_STATUS]))) ∧
    (∀ (m : Master) (v : Word), s.writable m HLT_TIDE_CTL →
      let now := s.tide + (s.rd HLT_TIDE_STEP_HI ++ s.rd HLT_TIDE_STEP_LO)
      Gives (.stepGo m v) s (fun t => t.tide = now ∧ t.fld HLT_TIDE_STATUS HLT_TIDE_STATUS_step_done = 1 ∧
        t.fld HLT_TIDE_CTL HLT_TIDE_CTL_holdover = HLT_TIDE_CTL_holdover.get v ∧ s.posts t 0x0201 0 noInst ∧
        (∀ p < 28, (s.tideOf p).oper = none → t.tideOf p = s.tideOf p) ∧
        (∀ (p : Nat) (c : Sched), p < 28 → (s.tideOf p).oper = some c →
          let g := s.gatesAt p s.tide.toNat
          ((∀ n : TidePending, (s.tideOf p).pending = some n → now.toNat < n.at_) →
            t.tideOf p = { s.tideOf p with held := some (g, c.boundary now.toNat), gates := g }) ∧
          (∀ n : TidePending, (s.tideOf p).pending = some n → n.at_ ≤ now.toNat →
            t.tideOf p = { s.tideOf p with oper := some n.sched, pending := none, held := some (g, n.sched.boundary now.toNat), gates := g } ∧
            t.fld (TMG_TT_CTL p) TMG_TT_CTL_pending = 0 ∧ t.fld (TMG_TT_CTL p) TMG_TT_CTL_list = n.sched.list % 2 ∧ s.tells t 28 0x0504 0 p)) ∧
        s.onlyRegs t (HLT_TIDE_CTL :: HLT_TIDE_STATUS :: (List.range 28).map TMG_TT_CTL) ∧
        t = { s.seen m with regs := t.regs, flt := t.flt, tide := now, tm := { s.tm with scheds := t.tm.scheds }, csg := { s.csg with suspended := true } })) ∧
    (∀ (offset : Int) (time : Nat), s.running = true → s.slavePort.isSome = true →
      Gives (.gptpSync offset time) s (fun t => t.dev = { s.dev with synced := true, gptpTime := time } ∧
        t.fld HLT_TIDE_CTL HLT_TIDE_CTL_holdover = 0 ∧ t.fld CSG_CTL CSG_CTL_time_valid = 1 ∧ t.elapsed = s.elapsed ∧ t.mem = s.mem ∧ t.otp = s.otp ∧ t.wrd = s.wrd ∧ t.bank = s.bank ∧
        (1000 < offset ∨ offset < -1000 → t.tide = s.tide + BitVec.ofInt 64 (-offset) ∧ t.csg.suspended = true ∧
          t.fld HLT_TIDE_STATUS HLT_TIDE_STATUS_step_done = 1 ∧ s.tells t 1 0x0201 0 noInst ∧ t.rd HLT_TIDE_RATE = s.rd HLT_TIDE_RATE) ∧
        (-1000 ≤ offset → offset ≤ 1000 → t.tide = s.tide ∧ t.tm = s.tm ∧ t.csg = s.csg ∧ s.onlyRegs t [HLT_TIDE_CTL, HLT_TIDE_RATE, CSG_CTL] ∧
          (offset = 0 → t.rd HLT_TIDE_RATE = s.rd HLT_TIDE_RATE) ∧
          (offset ≠ 0 → -549755814 ≤ signed 32 (t.rd HLT_TIDE_RATE).toNat ∧ signed 32 (t.rd HLT_TIDE_RATE).toNat ≤ 549755814)) ∧
        (∀ age : Nat, ({ s with dev := t.dev } : State).passAge = some age → fiveYears < age →
          t.mram.scrubActive = true ∧ (s.dev.gptpTime = 0 → s.tells t 1 0x0F09 3 noInst)))) ∧
    (s.running = true → s.slavePort.isSome = true →
      Gives .syncReceiptTimeout s (fun t => t.fld HLT_TIDE_CTL HLT_TIDE_CTL_holdover = 1 ∧ t.fld CSG_CTL CSG_CTL_time_valid = 1 ∧
        s.posts t 0x0202 2 noInst ∧ s.onlyRegs t [HLT_TIDE_CTL, CSG_CTL] ∧
        t = { s with regs := t.regs, flt := t.flt, dev := { s.dev with synced := false } })) ∧
    (∀ (offset : Int) (time : Nat), s.running = false ∨ s.slavePort = none →
      Gives (.gptpSync offset time) s (fun t => t = s) ∧ Gives .syncReceiptTimeout s (fun t => t = s)) ∧
    Gives .presentationCheckResume s (fun t => t = { s with csg := { s.csg with suspended := false } }) ∧
    (s.timeAware = false → Gives .syncInterval s (fun t => t = s) ∧ Gives .peerDelayMeasurement s (fun t => t = s)) ∧
    (∀ b : Bundle, s.timeAware = true → s.profileNow = some b →
      ((∀ p < 28, s.linkUp p = true → b.set.master.testBit p = false) → Gives .syncInterval s (fun t => t = s)) ∧
      ((∀ p < 28, s.linkUp p = true → b.set.fixedDelay.any (fun e => e.1 == p) = true) → Gives .peerDelayMeasurement s (fun t => t = s)) ∧
      (∀ p < 28, s.linkUp p = true →
        let sent := { s with free := s.free + 1 }.gptpSend p (Config.gptpBytes s.free) (Config.gptpTag s.free).toNat
        (b.set.master.testBit p = true → (∀ k < 28, k ≠ p → s.linkUp k = true → b.set.master.testBit k = false) →
          Gives .syncInterval s (fun t => t = sent)) ∧
        (b.set.fixedDelay.any (fun e => e.1 == p) = false → (∀ k < 28, k ≠ p → s.linkUp k = true → b.set.fixedDelay.any (fun e => e.1 == k) = true) →
          Gives .peerDelayMeasurement s (fun t => t = sent)))) ∧
    (∀ b : Bundle, s.timeAware = true → s.profileNow = some b →
      Gives .syncInterval s (fun t => t = s.gptpTo (bitsOf 28 b.set.master)) ∧
      Gives .peerDelayMeasurement s (fun t => t = s.gptpTo ((List.range 28).filter (fun p => !b.set.fixedDelay.any (fun e => e.1 == p)))))

/-- The boot (R62 to R65, R67, R68, R80, R81, R369, R376): the end of verification acts on the journal, then either starts the warden in phase 1 with its identity, PCIe training, both PHY polders and marks 0 and 1, or leads into recovery with 0x1001. A cold block that verifies is loaded, and the device is in cold forwarding, or in reduced operation after repeated fatal resets; a whole bundle takes it into full operation by the rules of a run-time switch, once the governor lets its load in, at once or at the cycle boundary that a running schedule gives; a profile that fails raises 0x0103 and hands over to the fallback once, with 0x0104, else the device is in profile hold. A cold port without a link is reported. Outside their conditions these rows change nothing. -/
def Obligations.BootPhases : Prop :=
  ∀ s : State,
    (∀ burns : List Bool, s.dev.state = .boot → s.phase = 0 → s.dev.recovery = false → s.dev.thermalWait = false → s.bank.fatal = none →
      let j := s.mram.journal
      let u := s.journalBoot burns
      Gives (.firmwareVerified burns) s (fun t =>
        let idle := t.mram.journal = {} ∧ t.otp = s.otp ∧
          t.mram = { s.mram with journal0 := t.mram.journal0, journal1 := t.mram.journal1, wear := t.mram.wear
                                 remap := t.mram.remap, spareUsed := t.mram.spareUsed }
        (j.state = 0 → t.mram = s.mram ∧ t.otp = s.otp) ∧
        (j.state = 1 ∨ j.state = 2 → idle ∧ s.tells t 1 0x1005 2 noInst) ∧
        (j.state = 4 → j.target ≠ 0 → idle ∧ s.tells t 1 0x1004 2 noInst) ∧ (j.state = 5 → idle) ∧
        (u.mram.sub = none → t.fld SYS_ROLLBACK SYS_ROLLBACK_sub_lost = 1) ∧
        t.dev = { s.dev with recovery := !u.vendorOk, pcieTrain := true, pcieReady := s.pins.perstN } ∧
        (u.vendorOk = true → t.phase = 1 ∧ t.wrd.fwVersion = u.imgVersion vendorBase ∧ t.wrd.fwDigest = u.imgDigest vendorBase ∧
          t.isPolderOn 2 = true ∧ t.isPolderOn 3 = true ∧
          ∀ k < 2, (t.rd (SYS_BOOT_MARK k)).toNat = min (2 ^ 32 - 1) (s.elapsed - s.dev.bootRef)) ∧
        (u.vendorOk = false → t.phase = 0 ∧ s.tells t 8 0x1001 5 noInst ∧ t.wrd.fwVersion = s.wrd.fwVersion))) ∧
    (∀ burns : List Bool, s.dev.state ≠ .boot ∨ s.phase ≠ 0 ∨ s.dev.recovery = true ∨ s.dev.thermalWait = true ∨ s.bank.fatal.isSome = true →
      Gives (.firmwareVerified burns) s (fun t => t = s)) ∧
    (s.dev.state = .boot → s.phase = 1 → s.bank.fatal = none →
      Gives .coldBlockLoaded s (fun t =>
        let last := 4 ≤ s.mram.fallback ∨ s.fld SYS_BOOT_STATUS SYS_BOOT_STATUS_fallback_used = 1
        let failed := s.coldBlock s.bootProfile = none
        (∀ c : ColdBlock, s.coldBlock s.bootProfile = some c → t.wrd.cold = some c ∧ t.wrd.signed = s.signedBy s.bootProfile ∧
          t.fld SYS_PROFILE SYS_PROFILE_active = s.bootProfile ∧ t.fld FAB_STATUS FAB_STATUS_head_in = boolNat s.pins.head ∧
          (t.rd (SYS_BOOT_MARK 2)).toNat = min (2 ^ 32 - 1) (s.elapsed - s.dev.bootRef) ∧
          (s.bank.reduced = false → t.dev.state = .cold ∧ t.phase = 2 ∧ t.wrd.run = s.wrd.run) ∧
          (s.bank.reduced = true → t.dev.state = .reduced ∧ t.phase = 4)) ∧
        (failed → s.wrd.cold = none → t.dev.state = .boot ∧ t.mram = s.mram ∧ t.otp = s.otp) ∧
        (failed → s.wrd.cold = none → last → t.phase = 5 ∧ s.tells t 1 0x0103 5 noInst) ∧
        (failed → s.wrd.cold = none → ¬ last → t.phase = 1 ∧ t.bootProfile = s.mram.fallback ∧
          t.fld SYS_BOOT_STATUS SYS_BOOT_STATUS_fallback_used = 1 ∧ s.tells t 2 0x0103 5 noInst ∧ s.tells t 2 0x0104 4 noInst))) ∧
    (s.dev.state ≠ .boot ∨ s.phase ≠ 1 ∨ s.bank.fatal.isSome = true → Gives .coldBlockLoaded s (fun t => t = s)) ∧
    (∀ failed : List (Fin 64), s.dev.state = .cold → s.bank.fatal = none → s.wrd.switching = none →
      Gives (.fullOperation failed) s (fun t =>
        (∀ b : Bundle, s.bundleAt s.bootProfile = some b →
          let x : Switching := { slot := s.bootProfile, bundle := b, command := false, instant := 0, ports := [], start := some (failed, false) }
          let gate := s.loadGate .program (s.switchLoad x false)
          let clash := schedulesDiffer s.runSettings (s.newSettings b)
          let at_ := s.switchAt clash s.tide.toNat
          (gate = .wait → t = s) ∧ (gate = .ask → t = s.askNeeds .program (s.switchLoad x false)) ∧
          (gate = .go ∨ gate = .refused → clash = [] → t.dev.state = .full ∧ t.phase = 3 ∧ t.wrd.run = some b ∧ t.wrd.switching = none ∧
            t.wrd.signed = (b.digest, s.imgRoot (profileBase s.bootProfile)) ∧ t.plc.prog = b.program ∧
            (t.rd (SYS_BOOT_MARK 3)).toNat = min (2 ^ 32 - 1) (s.elapsed - s.dev.bootRef)) ∧
          (gate = .go ∨ gate = .refused → s.tide.toNat < at_ → t.dev.state = .cold ∧ t.wrd.run = s.wrd.run ∧
            t.wrd.switching = some { x with instant := at_, ports := clash, start := some (failed, decide (gate = .refused)) })) ∧
        (s.bundleAt s.bootProfile = none → t.dev.state = .boot ∧ t.wrd.cold = none ∧ (t.phase = 1 ∨ t.phase = 5) ∧
          (s.wrd.cold.isSome = true → t.wrd.run = none ∧ t.sw.frames = []) ∧ s.tells t 1 0x0103 5 noInst))) ∧
    (∀ failed : List (Fin 64), s.dev.state ≠ .cold ∨ s.bank.fatal.isSome = true ∨ s.wrd.switching.isSome = true →
      Gives (.fullOperation failed) s (fun t => t = s)) ∧
    (∀ (p : Fin 28) (c : ColdBlock), s.wrd.cold = some c → c.ports.testBit p = true → s.linkUp p = false →
      Gives (.coldPortNoLink p) s (fun t => s.posts t 0x0106 3 p ∧ s.onlyRegs t [] ∧ s.regFrame t)) ∧
    (∀ p : Fin 28, s.wrd.cold = none ∨ s.linkUp p = true → Gives (.coldPortNoLink p) s (fun t => t = s)) ∧
    (∀ (p : Fin 28) (c : ColdBlock), s.wrd.cold = some c → c.ports.testBit p = false → Gives (.coldPortNoLink p) s (fun t => t = s)) ∧
    Gives .perstNDeassert s (fun t =>
      t = { s with pins := { s.pins with perstN := true }, dev := { s.dev with pcieReady := s.dev.pcieTrain } })

/-- PCI Express (R64, R333): once the endpoint trains, a link that comes up raises 0x0A30 at class 0 and one that goes down 0x0A31 at class 3, and nothing else changes; a report that changes nothing, or comes before training, has no effect. A function-level reset returns the aperture and MSI-X registers to their reset values and changes nothing else. -/
def Obligations.PcieLink : Prop :=
  ∀ s : State,
    (∀ up : Bool, s.running = true → s.dev.pcieTrain = true → s.dev.pcieUp ≠ up → Gives (.pcieLinkChange up) s (fun t =>
      s.posts t (if up then 0x0A30 else 0x0A31) (if up then 0 else 3) noInst ∧ s.onlyRegs t [] ∧
      t = { s with regs := t.regs, flt := t.flt, dev := { s.dev with pcieUp := up } })) ∧
    (∀ up : Bool, s.running = false ∨ s.dev.pcieTrain = false ∨ s.dev.pcieUp = up → Gives (.pcieLinkChange up) s (fun t => t = s)) ∧
    Gives .functionLevelReset s (fun t => t = { s with regs := t.regs } ∧
      (∀ a, (0x200C0500 ≤ a ∧ a < 0x200C0520 ∨ 0x200C4000 ≤ a ∧ a < 0x200C4080 ∨ a = FAB_PBA) → t.rd a = regDefault a) ∧
      (∀ a, ¬ (0x200C0500 ≤ a ∧ a < 0x200C0520 ∨ 0x200C4000 ≤ a ∧ a < 0x200C4080 ∨ a = FAB_PBA) → t.rd a = s.rd a))

/-- The link protocol (R307 to R310, R314): a hello of 32 bytes is sent on a fabric link whose PHY is up; a received hello counts and is kept, and the third in time that has heard this device brings a probing link up, and names its neighbour once the link probes; the time-out ends the link, forgets the neighbour, counts and raises 0x0A02. An advertisement that is new is kept while there is room, and one that is not new is dropped; the device's own goes out with the next sequence number, at a change of the HEAD input too. Where the head of sp31 holds no frame of the row's type, or the bridge or the link is off, the row only takes the frame or changes nothing. -/
def Obligations.FabricLinks : Prop :=
  ∀ s : State,
    (∀ p : Fin 8, s.bridgeOn = true → s.fabLink p = true → s.linkUp p = true →
      Gives (.helloSend p) s (fun t => t = s.fabOut p (s.newHdr 1 6 0xFF 0) (s.helloData p) ∧ (s.helloData p).length = 32)) ∧
    (∀ p : Fin 8, s.bridgeOn = false ∨ s.fabLink p = false ∨ s.linkUp p = false → Gives (.helloSend p) s (fun t => t = s)) ∧
    (∀ (f : Frame) (h : FabHdr) (u : State), s.take31 1 = some (f, h, u) → u.bridgeOn = true → u.fabLink f.input = true →
      u.linkUp f.input = true →
      let p := f.input
      let id := beNat (slice 0 8 f.data)
      let x := u.fabPort p
      let run := if beNat (slice 16 8 f.data) = ownId then (if x.heard = true ∧ x.peer = id ∧ u.elapsed ≤ x.last + 1500000 then min 3 (x.run + 1) else 1) else 0
      Gives .hello s (fun t => (t.fabPort p).heard = true ∧ (t.fabPort p).last = s.elapsed ∧ (t.fabPort p).peer = id ∧
        (t.fabPort p).mac = beNat (slice 8 6 f.data) ∧ (t.fabPort p).role = beNat (slice 15 1 f.data) ∧
        (t.fabPort p).head = beNat (slice 24 8 f.data) ∧ (t.fabPort p).addr = h.src ∧ (t.fabPort p).epoch = h.epoch ∧
        (u.linkState p = 1 → (t.fabPort p).run = run ∧ (run ≠ 3 → t.linkState p = 1) ∧
          (run = 3 → 2 ≤ t.linkState p ∧ s.tells t 1 0x0A01 0 p)) ∧
        (u.linkState p ≠ 0 → t.peerId p = id ∧ t.fld (FAB_PORT_STATUS p) FAB_PORT_STATUS_peer_port = beNat (slice 14 1 f.data)) ∧
        t.rd (FAB_CNT 0) = s.rd (FAB_CNT 0) + 1 ∧ t.mem = s.mem ∧ t.mram = s.mram ∧ t.otp = s.otp)) ∧
    (∀ (f : Frame) (h : FabHdr) (u : State), s.take31 1 = some (f, h, u) →
      u.bridgeOn = false ∨ u.fabLink f.input = false ∨ u.linkUp f.input = false → Gives .hello s (fun t => t = u)) ∧
    (s.take31 1 = none → Gives .hello s (fun t => t = s)) ∧
    (∀ p : Fin 8, 2 ≤ s.linkState p →
      Gives (.helloTimeout p) s (fun t => t.linkState p = (if s.linkUp p then 1 else 0) ∧ t.fabPort p = {} ∧ t.peerId p = 0 ∧
        t.fld (FAB_PORT_STATUS p) FAB_PORT_STATUS_went_down = 1 ∧ s.counts t (FAB_CNT 1) ∧ s.tells t 1 0x0A02 2 p ∧ t.mem = s.mem)) ∧
    (∀ p : Fin 8, s.linkState p < 2 → Gives (.helloTimeout p) s (fun t => t = s)) ∧
    (∀ level : Bool, s.running = true →
      let u := { s with pins := { s.pins with head := level } }.setFld FAB_STATUS FAB_STATUS_head_in (boolNat level)
      Gives (.headInputChange level) s (fun t => t.pins = { s.pins with head := level } ∧ t.fld FAB_STATUS FAB_STATUS_head_in = boolNat level ∧
        t.fab.seq = (s.fab.seq + 1) % 2 ^ 32 ∧ t.fab.db = dbPut s.fab.db { u.ownLsa with seq := (s.fab.seq + 1) % 2 ^ 32 } ∧ t.mem = s.mem)) ∧
    (∀ level : Bool, s.running = false → Gives (.headInputChange level) s (fun t => t = { s with pins := { s.pins with head := level } })) ∧
    (s.bridgeOn = true → Gives .lsaSend s (fun t => t.fab = { s.fab with seq := (s.fab.seq + 1) % 2 ^ 32, db := dbPut s.fab.db { s.ownLsa with seq := (s.fab.seq + 1) % 2 ^ 32 } } ∧
      (∀ p < 8, t.linkState p = s.linkState p) ∧ t.mem = s.mem)) ∧
    (s.bridgeOn = false → Gives .lsaSend s (fun t => t = s)) ∧
    (∀ (l : Lsa) (f : Frame) (h : FabHdr) (u : State), s.take31 2 = some (f, h, u) →
      let old := dbOf s.fab.db l.origin
      let stale := l.origin = ownId ∨ s.lsaRepeat l = true
      (stale → Gives (.lsa l) s (fun t => t = u)) ∧
      (¬ stale → Gives (.lsa l) s (fun t => FabMsg.lsa l ∈ t.fab.seen ∧ (l.origin, l.seq, s.elapsed) ∈ t.fab.lsaSeen ∧
        t.fab.seq = s.fab.seq ∧ t.mem = s.mem ∧
        (s.fab.db.length ≠ 64 ∨ old.isSome = true → t.fab.db = dbPut s.fab.db l) ∧
        (s.fab.db.length = 64 → old = none → t.fab.db = s.fab.db)))) ∧
    (∀ l : Lsa, s.take31 2 = none → Gives (.lsa l) s (fun t => t = s))

/-- Addressing (R311, R313, R314, R331): when the settle time ends, a head whose fabric is as addressed does nothing more, one alone in its fabric commits at once and has address 0, and one with others opens a sequence; the ASSIGN is repeated up to four times and then committed with those that acknowledged; each acknowledgement is recorded, and the last one commits. A message that was passed on before, or a COMMIT of an epoch already left, is dropped. A COMMIT that names the device gives it its address and epoch, one that names it at position 32 or higher fences it, one that does not name it leaves it without an address; each names the head and aborts every remote access. -/
def Obligations.FabricAddressing : Prop :=
  ∀ s : State,
    let order := positions s.fab.db ownId
    let same := s.addressed = true ∧ s.fabAddr = 0 ∧ order.length = s.fab.members.length ∧ (order.all (fun id => s.fab.members.any (fun m => m.1 == id))) = true
    let quiet := { s with fab := { s.fab with settling := false } }
    (s.fab.settling = false → Gives .settleEnd s (fun t => t = s)) ∧
    (s.fab.settling = true → s.isHead = false ∨ same → Gives .settleEnd s (fun t => t = quiet)) ∧
    (s.fab.settling = true → s.isHead = true → ¬ same → order = [ownId] →
      Gives .settleEnd s (fun t => t.fab.settling = false ∧ t.fab.open_ = none ∧ t.addressed = true ∧ t.fabAddr = 0 ∧ t.fabState = 1 ∧
        t.fabEpoch = s.nextEpoch ∧ t.fab.members = [(ownId, 0)] ∧ t.mem = s.mem)) ∧
    (s.fab.settling = true → s.isHead = true → ¬ same → order ≠ [ownId] →
      Gives .settleEnd s (fun t => t.fab = { s.fab with settling := false, open_ := some ({ epoch := s.nextEpoch, order := order.zipIdx }, 1, [ownId]) } ∧
        t.addressed = s.addressed ∧ t.mem = s.mem)) ∧
    (s.fab.open_ = none → Gives .assignRepeat s (fun t => t = s)) ∧
    (∀ (a : Assign) (n : Nat) (acks : List Nat), s.fab.open_ = some (a, n, acks) →
      (n < 4 → Gives .assignRepeat s (fun t => t.fab = { s.fab with open_ := some (a, n + 1, acks) } ∧ t.mem = s.mem)) ∧
      (4 ≤ n → Gives .assignRepeat s (fun t => t.fab.open_ = none ∧ t.fab.members = a.order.filter (fun m => acks.contains m.1) ∧
        t.fab.reads = [] ∧ t.fab.writes = [] ∧ t.mem = s.mem))) ∧
    (∀ (id epoch rep : Nat) (f : Frame) (h : FabHdr) (u : State), s.take31 4 = some (f, h, u) →
      (FabMsg.ack id epoch rep ∈ s.fab.seen → Gives (.ack id epoch rep) s (fun t => t = u)) ∧
      (FabMsg.ack id epoch rep ∉ s.fab.seen → s.fab.open_ = none →
        Gives (.ack id epoch rep) s (fun t => t.fab = { s.fab with seen := FabMsg.ack id epoch rep :: s.fab.seen } ∧ t.mem = s.mem)) ∧
      (∀ (a : Assign) (n : Nat) (acks : List Nat), FabMsg.ack id epoch rep ∉ s.fab.seen → s.fab.open_ = some (a, n, acks) →
        let acks1 := if acks.contains id then acks else id :: acks
        let named := a.epoch = epoch ∧ a.order.any (fun m => m.1 == id) = true
        (¬ named → Gives (.ack id epoch rep) s (fun t => t.fab = { s.fab with seen := FabMsg.ack id epoch rep :: s.fab.seen } ∧ t.mem = s.mem)) ∧
        (named → a.order.all (fun m => acks1.contains m.1) = false → Gives (.ack id epoch rep) s (fun t =>
          t.fab = { s.fab with seen := FabMsg.ack id epoch rep :: s.fab.seen, open_ := some (a, n, acks1) } ∧ t.mem = s.mem)) ∧
        (named → a.order.all (fun m => acks1.contains m.1) = true → Gives (.ack id epoch rep) s (fun t =>
          t.fab.open_ = none ∧ t.fab.members = a.order ∧ t.mem = s.mem)))) ∧
    (∀ id epoch rep : Nat, s.take31 4 = none → Gives (.ack id epoch rep) s (fun t => t = s)) ∧
    (∀ (a : Assign) (rep : Nat) (f : Frame) (h : FabHdr) (u : State), s.take31 3 = some (f, h, u) →
      (FabMsg.assign a rep ∈ s.fab.seen → Gives (.assign a rep) s (fun t => t = u)) ∧
      (FabMsg.assign a rep ∉ s.fab.seen → a.order.any (fun m => m.1 == ownId) = true → Gives (.assign a rep) s (fun t =>
        t.fab = { s.fab with seen := FabMsg.ack ownId a.epoch rep :: FabMsg.assign a rep :: s.fab.seen } ∧ t.mem = s.mem)) ∧
      (FabMsg.assign a rep ∉ s.fab.seen → a.order.any (fun m => m.1 == ownId) = false → Gives (.assign a rep) s (fun t =>
        t.fab = { s.fab with seen := FabMsg.assign a rep :: s.fab.seen } ∧ t.mem = s.mem))) ∧
    (∀ (a : Assign) (rep : Nat), s.take31 3 = none → Gives (.assign a rep) s (fun t => t = s)) ∧
    (∀ (a : Assign) (f : Frame) (h : FabHdr) (u : State), s.take31 5 = some (f, h, u) →
      let mine := a.order.find? (fun m => m.1 == ownId)
      let fenced := s.fab.db.length = 64 ∧ ∀ rep : Nat, FabMsg.ack ownId a.epoch rep ∉ s.fab.seen
      let past := FabMsg.commit a ∈ s.fab.seen ∨ s.oldCommit a = true
      (past → Gives (.commit a) s (fun t => t = u)) ∧
      (¬ past → Gives (.commit a) s (fun t => t.fab.members = a.order ∧ t.fab.open_ = none ∧ t.fab.reads = [] ∧
        t.fab.writes = [] ∧ t.fab.waiting = [] ∧ FabMsg.commit a ∈ t.fab.seen ∧ t.mem = s.mem ∧
        (∀ m : Nat × Nat, a.order.find? (fun m => m.2 == 0) = some m → m.1 < 2 ^ 64 → t.headId = m.1) ∧
        (∀ k : Nat, mine = some (ownId, k) → k < 32 → t.addressed = true ∧ t.fabAddr = k ∧ t.fabState = 1 ∧ t.fabEpoch = a.epoch % 65536) ∧
        (∀ k : Nat, mine = some (ownId, k) → 32 ≤ k → t.addressed = false ∧ t.fabState = 2) ∧
        (mine = none → fenced → t.addressed = false ∧ t.fabState = 2) ∧
        (mine = none → ¬ fenced → t.addressed = false ∧ t.fabState = 3)))) ∧
    (∀ a : Assign, s.take31 5 = none → Gives (.commit a) s (fun t => t = s))

/-- Addressed frames (R317, R322, R327, R332): a frame for another device leaves by its route with one hop fewer, and one without hops left is discarded and counted; a stale one is discarded and counted; one of a newer epoch is held, and discarded as stale when its COMMIT does not come; one for this device waits for its own row. A received signal sets FAB_SIG_RX, counts, raises 0x0A20 and its interrupt bit; FAB_SIG_SEND.go takes the next tag; a keeper's message and a signal leave at once, or wait behind what was posted to their target before. Rediscovery sends an advertisement and starts the settle time again at the head. -/
def Obligations.FabricForwarding : Prop :=
  ∀ s : State,
    let calm := s.fab.waiting = [] ∧ ∀ w ∈ s.fab.writes, w.sent = true
    let behind (d : Nat) := s.msgInside d = true ∨ ∃ w ∈ s.fab.writes, w.target = d ∧ w.ord < s.fab.ord
    (s.head31 = none → Gives .fabricFrameForward s (fun t => t = s)) ∧
    (∀ f : Frame, s.head31 = some f → f.kind ≠ .fabric → f.kind ≠ .message → Gives .fabricFrameForward s (fun t => t = s.pop31)) ∧
    (∀ (f : Frame) (h : FabHdr), s.head31 = some f → f.kind = .message → f.fab = some h → calm →
      let w := { s.pop31 with fab := { s.fab with ord := s.fab.ord + 1 } }
      (behind h.dst → Gives .fabricFrameForward s (fun t =>
        t = { w with fab := { w.fab with waiting := [{ ord := s.fab.ord, dst := h.dst, item := .message f }] } })) ∧
      (¬ behind h.dst → Gives .fabricFrameForward s (fun t =>
        t = w.fabSend { s.newHdr 7 f.tc h.dst h.tag with colour := f.colour } f.data))) ∧
    (∀ f : Frame, s.head31 = some f → f.kind = .message → f.fab = none → Gives .fabricFrameForward s (fun t => t = s.pop31)) ∧
    (∀ (f : Frame) (h : FabHdr), s.head31 = some f → f.kind = .fabric → f.fab = some h →
      let newer := epochNewer h.epoch s.fabEpoch
      let mine := s.addressed = true ∧ h.dst = s.fabAddr
      (h.type < 7 → Gives .fabricFrameForward s (fun t => t = s)) ∧
      (7 ≤ h.type → newer = true → Gives .fabricFrameForward s (fun t =>
        t = { s.pop31 with fab := { s.fab with held := s.fab.held ++ [(s.elapsed, f)] } })) ∧
      (7 ≤ h.type → newer = false → h.epoch ≠ s.fabEpoch → Gives .fabricFrameForward s (fun t => s.counts t (FAB_CNT 3) ∧
        s.onlyRegs t [FAB_CNT 3] ∧ t = { s.pop31 with regs := t.regs, flt := t.flt })) ∧
      (7 ≤ h.type → newer = false → h.epoch = s.fabEpoch → mine → Gives .fabricFrameForward s (fun t => t = if h.type = 12 then s.pop31 else s)) ∧
      (7 ≤ h.type → newer = false → h.epoch = s.fabEpoch → ¬ mine → h.hop ≠ 0 → Gives .fabricFrameForward s (fun t =>
        t = s.pop31.fabSend { h with hop := h.hop - 1 } f.data)) ∧
      (7 ≤ h.type → newer = false → h.epoch = s.fabEpoch → ¬ mine → h.hop = 0 → Gives .fabricFrameForward s (fun t =>
        s.counts t (FAB_CNT 4) ∧ s.onlyRegs t [FAB_CNT 4] ∧ t = { s.pop31 with regs := t.regs, flt := t.flt }))) ∧
    (∀ (x : Nat × Frame) (rest : List (Nat × Frame)), s.fab.held = x :: rest →
      Gives .epochHoldExpiry s (fun t => s.counts t (FAB_CNT 3) ∧ s.onlyRegs t [FAB_CNT 3] ∧
        t = { s with regs := t.regs, flt := t.flt, fab := { s.fab with held := rest } })) ∧
    (s.fab.held = [] → Gives .epochHoldExpiry s (fun t => t = s)) ∧
    (∀ (f : Frame) (h : FabHdr) (u : State), s.mine31 10 = some (f, h, u) →
      Gives .signal s (fun t => (t.rd FAB_SIG_RX).toNat = beNat (slice 0 4 f.data) ∧ (t.rd FAB_IRQ_STATUS).toNat.testBit 3 = true ∧
        s.counts t (FAB_CNT 13) ∧ s.posts t 0x0A20 0 (h.src % 4096) ∧ s.onlyRegs t [FAB_SIG_RX, FAB_IRQ_STATUS, FAB_CNT 13, FAB_PBA] ∧
        t = { u with regs := t.regs, flt := t.flt, outputs := t.outputs })) ∧
    (s.mine31 10 = none → Gives .signal s (fun t => t = s)) ∧
    (∀ (m : Master) (v : Word), s.writable m FAB_SIG_SEND → calm →
      let dst := FAB_SIG_SEND_dst.get v
      let w := { (s.seen m).wrPlain FAB_SIG_SEND (v ||| 32) with
        fab := { s.fab with nextTag := (s.fab.nextTag + 1) % 2 ^ 32, ord := s.fab.ord + 1 } }
      let item : FabItem := .signal s.fab.nextTag (s.rd FAB_SIG_VAL).toNat
      (behind dst → Gives (.go m v) s (fun t =>
        t = { w with fab := { w.fab with waiting := [{ ord := s.fab.ord, dst := dst, item := item }] } })) ∧
      (¬ behind dst → Gives (.go m v) s (fun t =>
        t = w.fabSend (s.newHdr 10 (s.fld FAB_RA_CFG FAB_RA_CFG_tc) dst s.fab.nextTag) (beBytes 4 (s.rd FAB_SIG_VAL).toNat)))) ∧
    (∀ (m : Master) (v : Word), s.writable m FAB_CTL →
      Gives (.rediscover m v) s (fun t => t.fld FAB_CTL FAB_CTL_en = FAB_CTL_en.get v ∧ t.fab.settling = t.isHead ∧ t.fab.open_ = none ∧
        (dbOf s.fab.db ownId ≠ none ∨ s.fab.db.length < 64 → dbOf t.fab.db ownId = some { t.ownLsa with seq := t.fab.seq }) ∧
        t.mem = s.mem ∧ t.mram = s.mram ∧ t.otp = s.otp))

/-- Reception at a port without a frame in reception (R162 to R166, R67), where admission finds room: a frame for the link-local traps stands in the queue to sp29 at tc6; a bad frame counts under each of its errors and nowhere else, and where bad frames are passed in full operation stands in the queue to its destination at tc0, red; a good link-local frame, one outside the group filter, and in the cold state one that no key of it finds, is dropped and counted. A port that is down, or in loopback, takes nothing. The end of a frame (R85, R89, R99): the last cell is written and the unused cells return; one longer than its input's maximum, or found bad, is discarded with its counts; the port's own count follows where the frame was identified. -/
def Obligations.FrameReception : Prop :=
  ∀ (s : State) (p : Fin 28), s.csg.owed = [] →
    (∀ (bytes : List Byte) (phyErr : Bool), s.running = false ∨ s.linkUp p = false ∨ s.loopback p = true →
      Gives (.frameReceive p bytes phyErr) s (fun t => t = s)) ∧
    (∀ (bytes : List Byte) (phyErr : Bool), s.running = true → s.linkUp p = true → s.loopback p = false → (s.port p).rx = none →
      let e := s.rxErrors p bytes phyErr
      let rx := fun passed : Bool => { s.port p with rx := some { bytes := min bytes.length (s.fld (ETH_MAC_CFG p) ETH_MAC_CFG_max_len), passed := passed } }
      let data := bytes.take (bytes.length - 4)
      let bad := e ≠ 0 ∧ (bytes.length < 18 ∨ s.cutAt p = false)
      let passBad := s.fld (ETH_MAC_CFG p) ETH_MAC_CFG_pass_bad = 1 ∧ s.dev.state = .full ∧ 18 ≤ bytes.length
      let counted := fun (t : State) (more : List Nat) => (∀ k < 4, e.testBit k = true → s.counts t (ETH_CNT p (k + 1))) ∧ (∀ k < 4, e.testBit k = false → t.rd (ETH_CNT p (k + 1)) = s.rd (ETH_CNT p (k + 1))) ∧ s.onlyRegs t ([ETH_CNT p 1, ETH_CNT p 2, ETH_CNT p 3, ETH_CNT p 4] ++ more)
      (bad → ¬ passBad → Gives (.frameReceive p bytes phyErr) s (fun t => counted t [] ∧ t.port p = rx false ∧
        (∀ q, q ≠ p.val → t.port q = s.port q) ∧ t = { s with regs := t.regs, eth := t.eth })) ∧
      (bad → passBad → s.fld (TBL_PORT_CFG p) TBL_PORT_CFG_learn_en = 0 → (s.pol (s.defClass p).policer).en = false →
        let o := if s.fld (ETH_MAC_CFG p) ETH_MAC_CFG_bad_dest = 1 then 29 else 28
        let n := min bytes.length (s.fld (ETH_MAC_CFG p) ETH_MAC_CFG_max_len)
        s.roomFor p o 0 2 → Gives (.frameReceive p bytes phyErr) s (fun t => counted t (ETH_CNT p 6 :: spillRegs) ∧ s.counts t (ETH_CNT p 6) ∧
          s.admitted t { input := p.val, data := bytes.take (n - 4), tc := 0, colour := 2, bad := some (n + e * 2 ^ 16), ts := s.rxStamp p } o ∧
          t = { s with regs := t.regs, flt := t.flt, eth := t.eth, sw := t.sw, tm := t.tm })) ∧
      (e = 0 → s.traps p data = true → s.roomFor p 29 6 0 → Gives (.frameReceive p bytes phyErr) s (fun t =>
        s.admitted t { input := p.val, data := data, tc := 6, ts := s.rxStamp p, cut := s.cutAt p } 29 ∧ t.port p = rx false ∧ s.onlyRegs t spillRegs ∧
        t = { s with regs := t.regs, flt := t.flt, eth := t.eth, sw := t.sw, tm := t.tm })) ∧
      (e = 0 → s.traps p data = false → 20 ≤ p.val ∨ s.fld (ETH_SEC_CFG p) ETH_SEC_CFG_rx_en = 0 → linkLocal data = true →
        Gives (.frameReceive p bytes phyErr) s (fun t => s.counts t (ETH_CNT p 8) ∧ s.onlyRegs t [ETH_CNT p 8] ∧ t.port p = rx false ∧
          t = { s with regs := t.regs, eth := t.eth })) ∧
      (e = 0 → s.traps p data = false → 20 ≤ p.val ∨ s.fld (ETH_SEC_CFG p) ETH_SEC_CFG_rx_en = 0 → linkLocal data = false → s.groupAccepted p data = false →
        Gives (.frameReceive p bytes phyErr) s (fun t => s.counts t (ETH_CNT p 5) ∧ s.onlyRegs t [ETH_CNT p 5] ∧ t.port p = rx false ∧
          t = { s with regs := t.regs, eth := t.eth })) ∧
      (e = 0 → s.traps p data = false → 20 ≤ p.val ∨ s.fld (ETH_SEC_CFG p) ETH_SEC_CFG_rx_en = 0 → linkLocal data = false → s.groupAccepted p data = true →
        beNat (slice 12 2 data) ≠ 0x88B5 → (∀ k ∈ streamKeys data, s.trieLookup k.2 k.1 = none) → s.coldOnly = true →
        Gives (.frameReceive p bytes phyErr) s (fun t => s.counts t (ETH_CNT p 7) ∧ s.onlyRegs t [ETH_CNT p 7] ∧ t.port p = rx true ∧
          t = { s with regs := t.regs, eth := t.eth }))) ∧
    ((s.port p).rx = none → Gives (.frameEnd p) s (fun t => t = s)) ∧
    (∀ x : RxFrame, (s.port p).rx = some x → x.policer = none →
      let stored := fun t : State => (t.port p).rx = none ∧ t = { s with regs := t.regs, flt := t.flt, eth := t.eth, sw := t.sw, tm := t.tm, can := t.can }
      let good := fun t : State => t.rd (ETH_CNT p 0) = (if x.late = 0 ∧ x.passed = true then s.rd (ETH_CNT p 0) + 1 else s.rd (ETH_CNT p 0)) ∧ ∀ k < 4, x.late.testBit k = true → s.counts t (ETH_CNT p (k + 1))
      (s.receiving p = [] → Gives (.frameEnd p) s (fun t => stored t ∧ good t ∧ t.sw = s.sw ∧
        s.onlyRegs t ((List.range 5).map (ETH_CNT p)))) ∧
      (∀ f : Frame, s.receiving p = [f] → s.frame f.id = some f → s.tooManyCells f = false → x.late = 0 →
        Gives (.frameEnd p) s (fun t => stored t ∧ good t ∧ (∀ id, id ≠ f.id → t.frame id = s.frame id) ∧ t.sw.queues = s.sw.queues ∧
          t.frame f.id = some { f with complete := true, cells := cellsOf f.data.length, done := s.elapsed } ∧
          s.onlyRegs t (ETH_CNT p 0 :: spillRegs))) ∧
      (∀ f : Frame, s.receiving p = [f] → s.frame f.id = some f → f.residue ≠ [] → f.begun = [] → s.tooManyCells f = true ∨ x.late ≠ 0 →
        Gives (.frameEnd p) s (fun t => stored t ∧ good t ∧ t.frame f.id = none ∧ (∀ o ∈ f.residue, f.id ∉ t.queue (qIndex f.input o f.tc)) ∧
          (s.tooManyCells f = true → s.counts t (SWC_CNT p 14)) ∧ t.outputs = s.outputs)))

/-- The matcher (R97, R100): a round connects pairs of one input and one output; where no input and no output had two transfers before, none has after, so a transfer never waits for another at either side. Where one queue alone holds one frame, nothing is in transfer and the frame is eligible, the round begins its transfer. The round changes no memory; while the logic die does not run, it changes nothing. -/
def Obligations.MatcherLocks : Prop :=
  ∀ s : State,
    (s.running = true → (s.sw.xfers.map (fun x => x.input)).Nodup → (s.sw.xfers.map (fun x => x.output)).Nodup →
      Gives .matcherRound s (fun t => (t.sw.xfers.map (fun x => x.input)).Nodup ∧ (t.sw.xfers.map (fun x => x.output)).Nodup ∧ s.keeps t)) ∧
    (∀ (i o : Fin 32) (tc : Fin 8) (f : Frame), s.running = true → s.csg.owed = [] → s.sw.xfers = [] →
      s.sw.queues = [(qIndex i o tc, [f.id])] → s.frame f.id = some f → f.input = i.val → f.tc = tc.val → s.eligible (qIndex i o tc) = true →
      Gives .matcherRound s (fun t => t.sw.xfers = [{ input := i.val, output := o.val, tc := tc.val, id := f.id }] ∧
        t.frame f.id = some { f with begun := f.begun ++ [o.val] } ∧ (∀ id, id ≠ f.id → t.frame id = s.frame id) ∧
        t.sw.queues = s.sw.queues ∧ s.onlyRegs t spillRegs ∧ t = { s with regs := t.regs, flt := t.flt, sw := t.sw, tm := t.tm })) ∧
    (s.running = false → s.csg.owed = [] → Gives .matcherRound s (fun t => t = s))

/-- The way out of the switch (R103, R104, R167, R168, R169): a complete transfer that the MAC has not started stands last in the staging buffer, counts, and leaves its queue; a port sends the head of its staging buffer, or starts a frame in transfer once tx_start cells of it are moved, an unprotected frame padded and with its FCS; an underrun ends the frame with an inverted FCS, counts and raises the start threshold; a residue timeout leaves a multicast frame only the destinations whose transfer has begun. Where there is no such transfer or frame, the rows change nothing. -/
def Obligations.Transfers : Prop :=
  ∀ s : State, s.csg.owed = [] →
    (∀ i : Fin 32, s.sw.xfers.find? (fun y => y.input == i.val) = none → Gives (.transferComplete i) s (fun t => t = s)) ∧
    (∀ (i : Fin 32) (x : Xfer) (f : Frame), s.sw.xfers.find? (fun y => y.input == i.val) = some x → s.frame x.id = some f →
      (f.complete = false → Gives (.transferComplete i) s (fun t => t = s)) ∧
      (f.complete = true → x.tx = none → Gives (.transferComplete i) s (fun t =>
        t.stagedAt x.output = s.stagedAt x.output ++ [f] ∧ (∀ o, o ≠ x.output → t.stagedAt o = s.stagedAt o) ∧
        t.sw.xfers = s.sw.xfers.filter (fun y => y != x) ∧ s.counts t (SWC_CNT x.output 0) ∧
        t.queue (qIndex f.input x.output f.tc) = (s.queue (qIndex f.input x.output f.tc)).filter (· != x.id) ∧
        (f.residue.filter (· != x.output) = [] → t.frame x.id = none) ∧
        (∀ a b, f.residue.filter (· != x.output) = a :: b → ∃ g, t.frame x.id = some g ∧ g.residue = a :: b ∧ g.data = f.data) ∧
        s.onlyRegs t (SWC_CNT x.output 0 :: spillRegs) ∧ t = { s with regs := t.regs, flt := t.flt, sw := t.sw, tm := t.tm }))) ∧
    (∀ (o : Fin 28) (cells : Fin 37),
      let plain := fun f : Frame => s.fabLink o = false ∧ f.kind = .eth ∧ (s.tideOf o).oper = none ∧ s.loopback o = false ∧ s.protects f o = false
      let body := fun f : Frame => s.outData f o ++ List.replicate (60 - (s.outData f o).length) 0
      let wire := fun f : Frame => body f ++ fcsBytes (body f)
      let ends := fun f : Frame => s.elapsed * 10 + s.wireTime f o
      let w := fun f : Frame => s.airStart o f.tc (ends f)
      let busy := fun f : Frame => tset 0 s.sw.busy o (ends f)
      (s.linkUp o = false → Gives (.transmitFrame o cells) s (fun t => t = s)) ∧
      (∀ (f : Frame) (rest : List Frame), s.linkUp o = true → s.stagedAt o = f :: rest → plain f →
        Gives (.transmitFrame o cells) s (fun t => t.outputs = .ethFrame o (wire f) :: (w f).outputs ∧ t.rd (ETH_CNT o 9) = s.rd (ETH_CNT o 9) + 1 ∧
          t.sw = { (w f).sw with staged := tset [] s.sw.staged o rest, busy := busy f } ∧
          (f.txTag = none → t.eth = s.eth ∧ (w f).onlyRegs t [ETH_CNT o 9]) ∧
          (∀ tag : Nat, f.txTag = some tag → (s.port o).txts.length < 4 → (w f).onlyRegs t [ETH_CNT o 9] ∧ ∃ at_ : Nat,
            t.port o = { s.port o with txts := (s.port o).txts ++ [(at_, tag)] }) ∧
          (∀ tag : Nat, f.txTag = some tag → 4 ≤ (s.port o).txts.length → t.eth = s.eth ∧
            t.fld (ETH_MAC_STATUS o) ETH_MAC_STATUS_ts_lost = 1 ∧ (w f).posts t 0x080B 1 o ∧ (w f).onlyRegs t [ETH_CNT o 9, ETH_MAC_STATUS o]) ∧
          t = { s with regs := t.regs, flt := t.flt, outputs := t.outputs, sw := t.sw, eth := t.eth })) ∧
      (∀ (x : Xfer) (f : Frame), s.linkUp o = true → s.stagedAt o = [] → s.sw.xfers.find? (fun y => y.output == o.val && y.tx.isNone) = some x →
        s.frame x.id = some f →
        (cells.val < min (s.txStart o) (cellsOf f.data.length) → Gives (.transmitFrame o cells) s (fun t => t = s)) ∧
        (min (s.txStart o) (cellsOf f.data.length) ≤ cells.val → plain f → f.txTag = none → Gives (.transmitFrame o cells) s (fun t =>
          t = { w f with sw := { (w f).sw with busy := busy f, xfers := s.sw.xfers.map (fun (y : Xfer) => if y = x then { y with tx := some { bytes := some (wire f) } } else y) } }))) ∧
      (∀ (f : Frame), s.sw.onAir = [] → s.elapsed * 10 < ends f → (w f).sw.onAir = [(o.val, { tc := f.tc, ends := ends f, closed := !(s.gatesAt o s.tide.toNat).testBit f.tc })] ∧
        w f = { s with sw := { s.sw with onAir := (w f).sw.onAir } }) ∧
      (∀ (f : Frame) (p : Fin 28) (x : AirFrame), p ≠ o → s.sw.onAir = [(p.val, x)] → x.ends ≤ s.elapsed * 10 → x.closed = true →
        s.counts (w f) (TMG_GATE_CNT p 0) ∧ (∀ y ∈ (w f).sw.onAir, y.1 = o.val)) ∧
      (s.stagedAt o = [] → s.sw.xfers.find? (fun y => y.output == o.val && y.tx.isNone) = none → Gives (.transmitFrame o cells) s (fun t => t = s))) ∧
    (∀ o : Fin 28, s.sw.xfers.find? (fun y => y.output == o.val && y.tx.any (fun z => z.bytes.isSome)) = none →
      Gives (.transmitUnderrun o) s (fun t => t = s)) ∧
    (∀ (o : Fin 28) (x : Xfer) (f : Frame), s.sw.xfers.find? (fun y => y.output == o.val && y.tx.any (fun z => z.bytes.isSome)) = some x →
      s.sw.xfers.filter (fun y => y.id == x.id && y.output == o.val) = [x] → s.frame x.id = some f → f.canEntry = none →
      Gives (.transmitUnderrun o) s (fun t => t.outputs = .ethAborted o :: s.outputs ∧
        t.fld (ETH_MAC_CFG o) ETH_MAC_CFG_tx_start = min 16 (s.fld (ETH_MAC_CFG o) ETH_MAC_CFG_tx_start + 1) ∧
        t.fld (ETH_MAC_STATUS o) ETH_MAC_STATUS_underrun = 1 ∧ s.counts t (ETH_CNT o 10) ∧ t.rd (ETH_CNT o 9) = s.rd (ETH_CNT o 9) + 1 ∧
        t.sw.xfers = s.sw.xfers.filter (fun y => !(y.id == x.id && y.output == o.val)) ∧
        s.onlyRegs t ([ETH_MAC_CFG o, ETH_MAC_STATUS o, ETH_CNT o 9, ETH_CNT o 10] ++ spillRegs) ∧
        t = { s with regs := t.regs, flt := t.flt, outputs := t.outputs, sw := t.sw, tm := t.tm })) ∧
    (∀ id : Nat, s.frame id = none → Gives (.residueTimeout id) s (fun t => t = s)) ∧
    (∀ (id : Nat) (f : Frame), s.frame id = some f →
      (f.native = false ∨ f.complete = false → Gives (.residueTimeout id) s (fun t => t = s)) ∧
      (f.native = true → f.complete = true → f.handle = none → f.residue ≠ [] → Gives (.residueTimeout id) s (fun t =>
        (∀ g, t.frame id = some g → g.data = f.data ∧ ∀ o, o ∈ g.residue ↔ o ∈ f.residue ∧ o ∈ f.begun) ∧
        ((∀ o ∈ f.residue, o ∉ f.begun) → t.frame id = none) ∧ s.keeps t ∧ t.outputs = s.outputs)))

/-- Background work of the switch and its tables (R90, R223, R227, R229, R237): a spilling bank without a target takes a candidate, or still has none; a learn request whose address is known is dropped, one that finds an empty way is written to the lowest and counted, and one whose bucket holds no empty and no dynamic way is counted with learn_full; sweep_now starts a sweep unless one is in progress (the model's choice, assumption 91); a sweep, started so or periodic, ends with the count one higher and touches no memory but the MAC table; the trie epoch increments and frees what waited for it. -/
def Obligations.SpillAndLearning : Prop :=
  ∀ s : State,
    (∀ b : Fin 8, s.spilling b = true → s.fld (SWC_BANK_SPILL b) SWC_BANK_SPILL_no_target = 1 →
      Gives (.spillTargetRetry b) s (fun t =>
        ((∃ k < 8, s.candidate b k = true) → t.fld (SWC_BANK_SPILL b) SWC_BANK_SPILL_no_target = 0 ∧
          s.candidate b (t.fld (SWC_BANK_SPILL b) SWC_BANK_SPILL_target) = true ∧
          ∀ k < 8, s.candidate b k = true → s.pool k ≤ s.pool (t.fld (SWC_BANK_SPILL b) SWC_BANK_SPILL_target)) ∧
        ((∀ k < 8, s.candidate b k = false) → t.fld (SWC_BANK_SPILL b) SWC_BANK_SPILL_no_target = 1) ∧
        s.onlyRegs t [SWC_BANK_SPILL b] ∧ t = { s with regs := t.regs })) ∧
    (∀ b : Fin 8, s.spilling b = false ∨ s.fld (SWC_BANK_SPILL b) SWC_BANK_SPILL_no_target = 0 → Gives (.spillTargetRetry b) s (fun t => t = s)) ∧
    (s.tbl.learn = [] → Gives .learnRequestServe s (fun t => t = s)) ∧
    (∀ (r : LearnReq) (rest : List LearnReq), s.tbl.learn = r :: rest →
      let priv := s.fld (TBL_PORT_CFG r.port) TBL_PORT_CFG_learn_priv = 1
      let bucket := 8 * macBucket r.mac r.vid
      let served := { s with tbl := { s.tbl with learn := rest } }
      (∀ e : Nat, s.macFind r.mac r.vid = some e → Gives .learnRequestServe s (fun t => t = served)) ∧
      (∀ e : Nat, s.macFind r.mac r.vid = none → findFrom (fun k => (s.macEntry k).kind == 0) 8 bucket = some e →
        Gives .learnRequestServe s (fun t =>
          t.mem = (s.setMac e { mac := r.mac, vid := r.vid, kind := if priv then 2 else 1, hit := false, seenClear := false, dest := 2 ^ r.port, stamp := if priv then 0 else s.sweepCount }).mem ∧
          s.counts t (TBL_CNT 0) ∧ s.onlyRegs t [TBL_CNT 0] ∧ t = { served with mem := t.mem, regs := t.regs })) ∧
      (s.macFind r.mac r.vid = none → (∀ k < 8, 2 ≤ (s.macEntry (bucket + k)).kind) →
        Gives .learnRequestServe s (fun t => s.counts t (TBL_CNT 2) ∧ t.fld TBL_STATUS TBL_STATUS_learn_full = 1 ∧
          s.onlyRegs t [TBL_CNT 2, TBL_STATUS] ∧ t = { served with regs := t.regs, flt := t.flt }))) ∧
    (∀ changed : List Nat, s.sweeping = false → s.fld TBL_CTL TBL_CTL_age_en = 0 → Gives (.agingSweep changed) s (fun t => t = s)) ∧
    (∀ changed : List Nat, s.sweeping = true ∨ s.fld TBL_CTL TBL_CTL_age_en = 1 →
      let n := if s.sweeping then s.sweepCount else (s.sweepCount + 1) % 65536
      Gives (.agingSweep changed) s (fun t => t.sweepCount = n ∧ t.sweeping = false ∧
        (∀ e < 32768, changed.contains e = false → (s.macEntry e).kind = 1 →
          (t.macEntry e).kind = (if s.fld TBL_AGE_CFG TBL_AGE_CFG_age_sweeps ≤ (n + 65536 - (s.macEntry e).stamp) % 65536 then 0 else 1)) ∧
        (∀ a, a < 0x304C0000 ∨ 0x30500000 ≤ a → t.mb a = s.mb a) ∧ s.onlyRegs t [TBL_AGE_STATUS, TBL_CNT 6, TBL_CNT 7, TBL_CNT 8] ∧
        t = { s with regs := t.regs, flt := t.flt, mem := t.mem })) ∧
    (∀ (m : Master) (v : Word), s.writable m TBL_CTL →
      Gives (.sweepNow m v) s (fun t => t.sweeping = true ∧ t.sweepCount = (if s.sweeping then s.sweepCount else (s.sweepCount + 1) % 65536) ∧
        t.fld TBL_CTL TBL_CTL_age_en = TBL_CTL_age_en.get v ∧ s.onlyRegs t [TBL_CTL, TBL_AGE_STATUS] ∧ t = { s.seen m with regs := t.regs })) ∧
    Gives .trieEpochAdvance s (fun t => t.rd TBL_TRIE_EPOCH = s.rd TBL_TRIE_EPOCH + 1 ∧ s.onlyRegs t [TBL_TRIE_EPOCH] ∧
      t = { s with regs := t.regs, tbl := { s.tbl with released := s.tbl.released.filter (fun r => r.epoch % 2 ^ 32 != (s.rd TBL_TRIE_EPOCH + 1).toNat) } })

/-- The state of a port's link (R106, R110, R161, R452): a link that goes down shows link_lost, empties the staging buffer, trains again and starts the hold time; the end of the hold time raises 0x0404, and the output is then down past it; a link that trains and comes up ends both with 0x0801, and with 0x0405 within the hold time. A quality at or below the threshold for 100 ms raises 0x080A once. A write of the PHY configuration with en 0 ends the link and its training and starts no hold time; one that sets en starts training where the port's polder is on. -/
def Obligations.PortLinks : Prop :=
  ∀ (s : State) (p : Fin 28),
    (s.linkUp p = true → s.csg.owed = [] →
      Gives (.linkDown p) s (fun t => t.linkUp p = false ∧ t.fld (ETH_PHY_STATUS p) ETH_PHY_STATUS_link_lost = 1 ∧
        t.fld (ETH_PHY_STATUS p) ETH_PHY_STATUS_training = 1 ∧ s.counts t (ETH_CNT p 16) ∧ t.stagedAt p = [] ∧ s.tells t 1 0x0802 2 p ∧
        (s.fld (ETH_PHY_CFG p) ETH_PHY_CFG_en = 1 → s.fld SWC_PORT_HOLD SWC_PORT_HOLD_hold_us ≠ 0 → t.sw.holding.contains p.val = true) ∧
        t.mram = s.mram ∧ t.otp = s.otp)) ∧
    (s.linkUp p = false → s.csg.owed = [] → Gives (.linkDown p) s (fun t => t = s)) ∧
    (s.sw.holding.contains p.val = true → s.csg.owed = [] →
      Gives (.portHoldExpiry p) s (fun t => t.sw.holding = s.sw.holding.filter (· != p.val) ∧ t.sw.pastHold.contains p.val = true ∧
        s.tells t 1 0x0404 3 p ∧ t.mram = s.mram ∧ t.otp = s.otp)) ∧
    (s.sw.holding.contains p.val = false → s.csg.owed = [] → Gives (.portHoldExpiry p) s (fun t => t = s)) ∧
    (s.fld (ETH_PHY_STATUS p) ETH_PHY_STATUS_training = 1 → s.linkUp p = false →
      Gives (.linkUp p) s (fun t => t.linkUp p = true ∧ t.fld (ETH_PHY_STATUS p) ETH_PHY_STATUS_training = 0 ∧
        t.sw = { s.sw with holding := s.sw.holding.filter (· != p.val), pastHold := s.sw.pastHold.filter (· != p.val), seenUp := p.val :: s.sw.seenUp.filter (· != p.val) } ∧
        (s.sw.holding.contains p.val = true → s.tells t 1 0x0405 0 p) ∧ s.posts t 0x0801 0 p ∧
        s.onlyRegs t ((List.range 8).map FAB_PORT_STATUS ++ [ETH_PHY_STATUS p]) ∧ t = { s with regs := t.regs, flt := t.flt, sw := t.sw })) ∧
    (s.fld (ETH_PHY_STATUS p) ETH_PHY_STATUS_training = 0 ∨ s.linkUp p = true → Gives (.linkUp p) s (fun t => t = s)) ∧
    (∀ q : Fin 8,
      let x := s.port p
      let low := q.val ≤ s.fld (ETH_PHY_CFG p) ETH_PHY_CFG_sqi_warn
      let due := x.sqiRaised = false ∧ x.sqiSince.getD s.elapsed + 100000000 ≤ s.elapsed
      Gives (.sqiLow p q) s (fun t => t.fld (ETH_PHY_STATUS p) ETH_PHY_STATUS_sqi = q.val ∧ s.onlyRegs t [ETH_PHY_STATUS p] ∧
        (¬ low → t.port p = { x with sqiSince := none, sqiRaised := false } ∧ t.flt = s.flt) ∧
        (low → ¬ due → t.port p = { x with sqiSince := some (x.sqiSince.getD s.elapsed) } ∧ t.flt = s.flt) ∧
        (low → due → t.port p = { x with sqiSince := some (x.sqiSince.getD s.elapsed), sqiRaised := true } ∧ s.posts t 0x080A 2 p) ∧
        t = { s with regs := t.regs, flt := t.flt, eth := t.eth })) ∧
    (∀ (m : Master) (v : Word), s.writable m (ETH_PHY_CFG p) →
      let en := v.toNat.testBit 0 = true ∧ s.phyPolderOn p = true
      let set := fun t : State => t.fld (ETH_PHY_CFG p) ETH_PHY_CFG_sqi_warn = ETH_PHY_CFG_sqi_warn.get v ∧ t.fld (ETH_PHY_CFG p) ETH_PHY_CFG_master = ETH_PHY_CFG_master.get v
      (¬ en → Gives (.ethPhyCfgWrite m p v) s (fun t => set t ∧ t.linkUp p = false ∧ t.fld (ETH_PHY_STATUS p) ETH_PHY_STATUS_training = 0 ∧
        t.fld (ETH_PHY_CFG p) ETH_PHY_CFG_en = 0 ∧ t.sw.holding.contains p.val = false ∧ t.sw.pastHold.contains p.val = true ∧
        t.mram = s.mram ∧ t.otp = s.otp)) ∧
      (en → s.fld (ETH_PHY_CFG p) ETH_PHY_CFG_en = 0 → Gives (.ethPhyCfgWrite m p v) s (fun t => set t ∧
        t.fld (ETH_PHY_STATUS p) ETH_PHY_STATUS_training = 1 ∧ t.fld (ETH_PHY_CFG p) ETH_PHY_CFG_en = 1 ∧
        s.onlyRegs t [ETH_PHY_CFG p, ETH_PHY_STATUS p] ∧ t = { s.seen m with regs := t.regs })))

/-- TC10 (R178, R179): on a port that has it, a request of this device goes out and waits for the partner; a wake-up request goes out, leaves sleep and abandons an open request; a partner's request is accepted where the profile allows it and the port holds no frame, else refused; a sleep entered after a request takes the link down; a wake-up received counts with 0x0809 and leaves sleep. A port that leaves sleep trains where it is enabled. On a port without TC10, or in another state, a row of the partner changes nothing. -/
def Obligations.Tc10 : Prop :=
  ∀ (s : State) (p : Fin 28),
    let on := s.tc10On p
    let st := s.tc10State p
    (∀ (m : Master) (v : Word), s.writable m (ETH_TC10_CFG p) →
      let cfg := fun t : State => t.fld (ETH_TC10_CFG p) ETH_TC10_CFG_en = ETH_TC10_CFG_en.get v ∧ t.fld (ETH_TC10_CFG p) ETH_TC10_CFG_accept_sleep = ETH_TC10_CFG_accept_sleep.get v
      (p.val < 8 → Gives (.tc10SleepReq m p v) s (fun t => t = s.seen m) ∧ Gives (.wakeReq m p v) s (fun t => t = s.seen m)) ∧
      (8 ≤ p.val → v.toNat.testBit 0 = false →
        Gives (.tc10SleepReq m p v) s (fun t => cfg t ∧ s.onlyRegs t [ETH_TC10_CFG p] ∧ t = { s.seen m with regs := t.regs }) ∧
        Gives (.wakeReq m p v) s (fun t => cfg t ∧ s.onlyRegs t [ETH_TC10_CFG p] ∧ t = { s.seen m with regs := t.regs })) ∧
      (8 ≤ p.val → v.toNat.testBit 0 = true → v.toNat.testBit 3 = false → st = 0 → s.linkUp p = true →
        Gives (.tc10SleepReq m p v) s (fun t => cfg t ∧ t.tc10State p = 1 ∧ s.onlyRegs t [ETH_TC10_CFG p, ETH_TC10_STATUS p, ETH_PHY_STATUS p] ∧
          t = { s.seen m with regs := t.regs, outputs := .tc10 p 0 :: s.outputs })) ∧
      (8 ≤ p.val → v.toNat.testBit 0 = true → v.toNat.testBit 3 = false → st ≠ 0 ∨ s.linkUp p = false →
        Gives (.tc10SleepReq m p v) s (fun t => cfg t ∧ s.onlyRegs t [ETH_TC10_CFG p] ∧ t = { s.seen m with regs := t.regs })) ∧
      (8 ≤ p.val → v.toNat.testBit 0 = true → Gives (.wakeReq m p v) s (fun t => cfg t ∧ t.tc10State p = 0 ∧
        t.fld (ETH_PHY_STATUS p) ETH_PHY_STATUS_asleep = 0 ∧
        (st = 2 → t.fld (ETH_PHY_STATUS p) ETH_PHY_STATUS_training = s.fld (ETH_PHY_CFG p) ETH_PHY_CFG_en) ∧
        s.onlyRegs t [ETH_TC10_CFG p, ETH_TC10_STATUS p, ETH_PHY_STATUS p] ∧
        t = { s.seen m with regs := t.regs, outputs := .tc10 p 3 :: s.outputs }))) ∧
    (on = false ∨ st = 2 → Gives (.tc10PartnerSleep p) s (fun t => t = s)) ∧
    (on = true → st ≠ 2 → (s.fld (ETH_TC10_CFG p) ETH_TC10_CFG_accept_sleep = 0 ∨ s.portEmpty p = false) →
      Gives (.tc10PartnerSleep p) s (fun t => t.fld (ETH_TC10_STATUS p) ETH_TC10_STATUS_sleep_rx = 1 ∧
        t.fld (ETH_TC10_STATUS p) ETH_TC10_STATUS_sleep_refused = 1 ∧ t.tc10State p = st ∧
        s.onlyRegs t [ETH_TC10_STATUS p] ∧ t = { s with regs := t.regs, outputs := .tc10 p 2 :: s.outputs })) ∧
    (on = true → st ≠ 2 → s.fld (ETH_TC10_CFG p) ETH_TC10_CFG_accept_sleep = 1 → s.portEmpty p = true →
      Gives (.tc10PartnerSleep p) s (fun t => t.tc10State p = 2 ∧ t.fld (ETH_PHY_STATUS p) ETH_PHY_STATUS_asleep = 1 ∧ t.linkUp p = false ∧
        t.fld (ETH_TC10_STATUS p) ETH_TC10_STATUS_sleep_rx = 1 ∧
        (s.linkUp p = false → t.outputs = .tc10 p 1 :: s.outputs ∧ s.posts t 0x0808 0 p) ∧ t.mram = s.mram ∧ t.otp = s.otp)) ∧
    (on = true → st = 1 →
      Gives (.tc10SleepEntered p) s (fun t => t.tc10State p = 2 ∧ t.fld (ETH_PHY_STATUS p) ETH_PHY_STATUS_asleep = 1 ∧
        t.fld (ETH_PHY_STATUS p) ETH_PHY_STATUS_training = 0 ∧ t.linkUp p = false ∧ t.mram = s.mram ∧ t.otp = s.otp)) ∧
    (on = false ∨ st ≠ 1 → Gives (.tc10SleepEntered p) s (fun t => t = s)) ∧
    (on = true → Gives (.tc10WakeReceived p) s (fun t => t.tc10State p = 0 ∧ t.fld (ETH_TC10_STATUS p) ETH_TC10_STATUS_wake_rx = 1 ∧
      t.fld (ETH_PHY_STATUS p) ETH_PHY_STATUS_asleep = 0 ∧
      (st = 2 → t.fld (ETH_PHY_STATUS p) ETH_PHY_STATUS_training = s.fld (ETH_PHY_CFG p) ETH_PHY_CFG_en) ∧
      s.counts t (ETH_CNT p 17) ∧ s.posts t 0x0809 1 p ∧ s.onlyRegs t [ETH_TC10_STATUS p, ETH_PHY_STATUS p, ETH_CNT p 17] ∧ s.regFrame t)) ∧
    (on = false → Gives (.tc10WakeReceived p) s (fun t => t = s))

/-- A write of a berm register or of a port configuration (R87, R111): where the berm of some bank would then exceed 12,288 cells, the register keeps its value, berm_refused is set and 0x0401 is raised; otherwise the register takes the value that its fields allow, and of the other registers only the banks' spill registers may change. -/
def Obligations.BermWrites : Prop :=
  ∀ (s : State) (m : Master) (k : Fin 48) (v : Word),
    let a := if k.val < 32 then SWC_PORT_CFG k.val else SWC_BERM_LO 0 + 4 * (k.val - 32)
    s.writable m a →
      ((∃ b < 8, 12288 < (s.wrPlain a v).bermTotal b) →
        Gives (.bermConfigWrite m k v) s (fun t => t.rd a = s.rd a ∧ t.fld SWC_STATUS SWC_STATUS_berm_refused = 1 ∧
          s.posts t 0x0401 2 noInst ∧ s.onlyRegs t [SWC_STATUS] ∧ (s.seen m).regFrame t)) ∧
      ((∀ b < 8, (s.wrPlain a v).bermTotal b ≤ 12288) →
        Gives (.bermConfigWrite m k v) s (fun t => t.rd a = (s.wrPlain a v).rd a ∧ s.onlyRegs t (a :: spillRegs) ∧ (s.seen m).regFrame t))

/-- Registers of a port's MACsec and timestamps (R173, R174, R177, R181, R182): a write of word 0 of an association puts the staged words of it into effect, word 7 as 0 and word 3 as 0 without extended numbering, drops what is staged for it and forgets its packet number warning; no other association changes. A write of the security configuration loads tx_an and changes nothing else. An acknowledgement removes the head timestamp and no other. -/
def Obligations.SecurePorts : Prop :=
  ∀ (s : State) (m : Master) (v : Word),
    (∀ (p : Fin 20) (e : Fin 36), s.writable m (saAddr p e 0) →
      let x := s.port p
      Gives (.saWord0Write m p e v) s (fun t => t.sa p e 0 = v.toNat % 128 ∧
        t.port p = { x with staged := x.staged.filter (fun y => y.1 / 8 != e.val), warned := x.warned.filter (· != e.val) } ∧
        (∀ k < 7, t.sa p e (k + 1) = (match x.staged.find? (fun y => y.1 == 8 * e.val + (k + 1)) with | some y => if k = 6 ∨ (k = 2 ∧ s.xpn p = false) then 0 else y.2.toNat | none => s.sa p e (k + 1))) ∧
        s.onlyRegs t ((List.range 8).map (saAddr p e)) ∧ (∀ q, q ≠ p.val → t.port q = s.port q) ∧
        t = { s.seen m with regs := t.regs, eth := t.eth })) ∧
    (∀ p : Fin 20, s.writable m (ETH_SEC_CFG p) →
      Gives (.txAnSwitch m p v) s (fun t => t.fld (ETH_SEC_CFG p) ETH_SEC_CFG_tx_an = ETH_SEC_CFG_tx_an.get v ∧
        t.fld (ETH_SEC_CFG p) ETH_SEC_CFG_tx_en = ETH_SEC_CFG_tx_en.get v ∧ t.fld (ETH_SEC_CFG p) ETH_SEC_CFG_rx_en = ETH_SEC_CFG_rx_en.get v ∧
        s.onlyRegs t [ETH_SEC_CFG p] ∧ t = { s.seen m with regs := t.regs })) ∧
    (∀ p : Fin 28, s.writable m (ETH_TXTS_ACK p) →
      Gives (.txtsAck m p v) s (fun t => t.port p = { s.port p with txts := (s.port p).txts.drop 1 } ∧
        (∀ q, q ≠ p.val → t.port q = s.port q) ∧ t = { s.seen m with eth := t.eth }))

/-- The commands of the traffic manager (R117, R119, R132). Each policer command carries out the parts whose bits are set, write, then read, then clr, on the selected policer: write gives it the rate, burst and enable of the registers as one unit, one that is turned on starts full and any other keeps at most the new burst; read shows its settings, level in whole bytes and counters; clr clears its counters. No other policer changes. A shaper's register takes what its fields allow; a shaper that is turned on starts with a full burst, any other keeps at most the new burst, and no other shaper changes. -/
def Obligations.PolicersAndShapers : Prop :=
  ∀ (s : State) (m : Master) (v : Word),
    let p := s.fld TMG_POL_SEL TMG_POL_SEL_index
    let x := s.pol p
    let burst := s.fld TMG_POL_BURST TMG_POL_BURST_burst_bytes
    let en := s.fldB TMG_POL_RATE TMG_POL_RATE_en
    let now : Int := if x.en then x.levelAt s.elapsed else x.level
    let wrote : Policer := { x with rate := s.fld TMG_POL_RATE TMG_POL_RATE_rate_kbps, burst := burst, en := en, last := s.elapsed, level := if en = true ∧ x.en = false then ((burst * unitsPerByte : Nat) : Int) else min now ((burst * unitsPerByte : Nat) : Int) }
    let shows := fun (t : State) (y : Policer) => t.rd TMG_POL_RATE = BitVec.ofNat 32 (y.rate + boolNat y.en * 2 ^ 31) ∧ t.rd TMG_POL_BURST = BitVec.ofNat 32 y.burst ∧ t.rd TMG_POL_LEVEL = BitVec.ofInt 32 ((if y.en then y.levelAt s.elapsed else y.level) / (unitsPerByte : Int)) ∧ t.rd TMG_POL_PASS = BitVec.ofNat 32 y.pass ∧ t.rd TMG_POL_DROP = BitVec.ofNat 32 y.drop
    let after := fun (write read clr : Bool) (t : State) => let y := if write then wrote else x; t.pol p = (if clr then { y with pass := 0, drop := 0 } else y) ∧ (read = true → shows t y) ∧ (read = false → t.regs = s.regs) ∧ (∀ q, q ≠ p → t.pol q = s.pol q) ∧ s.onlyRegs t [TMG_POL_RATE, TMG_POL_BURST, TMG_POL_LEVEL, TMG_POL_PASS, TMG_POL_DROP] ∧ t = { s.seen m with regs := t.regs, tm := { s.tm with pol := t.tm.pol } }
    (s.writable m TMG_POL_CMD → Gives (.policerWrite m v) s (fun t => after true (v.toNat.testBit 1) (v.toNat.testBit 2) t)) ∧
    (s.writable m TMG_POL_CMD → Gives (.policerRead m v) s (fun t => after (v.toNat.testBit 0) true (v.toNat.testBit 2) t)) ∧
    (s.writable m TMG_POL_CMD → Gives (.policerClr m v) s (fun t => after (v.toNat.testBit 0) (v.toNat.testBit 1) true t)) ∧
    (∀ (k : Fin 256) (b : Bool),
      let a := if b then TMG_SHP_BURST k.val else TMG_SHP_CFG k.val
      s.writable m a →
      Gives (.shaperConfigWrite m k b v) s (fun t => t.rd a = (s.wrPlain a v).rd a ∧ (b = false → (t.shpEn k = true ↔ TMG_SHP_CFG_en.get v = 1)) ∧
        tget {} t.tm.shp k = { credit := (if t.shpEn k = true ∧ s.shpEn k = false then ((t.shpBurst k : Nat) : Int) else min (s.credit k) ((t.shpBurst k : Nat) : Int)), last := s.elapsed } ∧
        (∀ j, j ≠ k.val → tget {} t.tm.shp j = tget {} s.tm.shp j) ∧ s.onlyRegs t [a] ∧
        t = { s.seen m with regs := t.regs, tm := { s.tm with shp := t.tm.shp } }))

/-- A port's tide table (R121, R122, R126, R127, R128). The gates follow the state function, and a hold whose end is reached is over. A write with en 0 opens all gates and cancels a pending change; one that sets en starts the named list where it is valid, and is refused with 0x0505 otherwise; while enabled, the list stays. A change captures the other list's schedule, and its switch instant is the cycle boundary at or after the given time, or after now where that time has passed; it is refused with 0x0505 where the port is disabled or the schedule is not valid. A write that sets en and change together enables first (the model's choice, assumption 90). At its instant the change takes effect with 0x0504. An entry is written, or refused with 0x0505 where its list operates or is pending; the index goes on either way, and a port above 27 has no entries. -/
def Obligations.TideTables : Prop :=
  ∀ (s : State) (m : Master) (v : Word),
    let only := fun (p : Nat) (t : State) => (∀ q, q ≠ p → t.tideOf q = s.tideOf q) ∧ s.onlyRegs t [TMG_TT_CTL p] ∧ t = { s.seen m with regs := t.regs, flt := t.flt, tm := { s.tm with scheds := t.tm.scheds } }
    let asks := fun (p : Nat) (c : Sched) (t : State) => let n := s.adminSched p (1 - c.list); let chg := s.rd64 (TMG_TT_CHG_LO p) (TMG_TT_CHG_HI p); (n.valid = true → t.fld (TMG_TT_CTL p) TMG_TT_CTL_pending = 1 ∧ (t.tideOf p).oper = some c ∧ (t.tideOf p).pending = some { sched := n, at_ := if chg < s.tide.toNat then c.boundary (s.tide.toNat + 1) else c.boundary chg }) ∧ (n.valid = false → t.fld (TMG_TT_CTL p) TMG_TT_CTL_change_refused = 1 ∧ (t.tideOf p).oper = some c ∧ s.posts t 0x0505 2 p)
    (∀ p : Fin 28, Gives (.tideEntryEnd p) s (fun t =>
      t.tideOf p = { s.tideOf p with held := (match (s.tideOf p).held with | some (g, u) => if u ≤ s.tide.toNat then none else some (g, u) | none => none), gates := t.gatesAt p s.tide.toNat } ∧
      (∀ q, q ≠ p.val → t.tideOf q = s.tideOf q) ∧ t = { s with tm := { s.tm with scheds := t.tm.scheds } })) ∧
    (∀ p : Fin 28, s.writable m (TMG_TT_CTL p) →
      let was := s.fldB (TMG_TT_CTL p) TMG_TT_CTL_en
      let first := s.adminSched p (TMG_TT_CTL_list.get v)
      (v.toNat.testBit 0 = false → Gives (.change m p v) s (fun t => t.tideOf p = {} ∧ t.fld (TMG_TT_CTL p) TMG_TT_CTL_change_refused = 1 ∧
        t.fld (TMG_TT_CTL p) TMG_TT_CTL_pending = 0 ∧ t.fld (TMG_TT_CTL p) TMG_TT_CTL_en = 0 ∧ s.posts t 0x0505 2 p ∧ only p t)) ∧
      (v.toNat.testBit 0 = true → was = true → (s.tideOf p).oper = none → Gives (.change m p v) s (fun t => t.tideOf p = s.tideOf p ∧
        t.fld (TMG_TT_CTL p) TMG_TT_CTL_change_refused = 1 ∧ s.posts t 0x0505 2 p ∧ only p t)) ∧
      (∀ c : Sched, v.toNat.testBit 0 = true → was = true → (s.tideOf p).oper = some c → Gives (.change m p v) s (fun t => asks p c t ∧
        t.fld (TMG_TT_CTL p) TMG_TT_CTL_list = s.fld (TMG_TT_CTL p) TMG_TT_CTL_list ∧ ((s.adminSched p (1 - c.list)).valid = false → t.tideOf p = s.tideOf p) ∧ only p t)) ∧
      (v.toNat.testBit 0 = true → was = false → first.valid = true → Gives (.change m p v) s (fun t => asks p first t ∧
        t.fld (TMG_TT_CTL p) TMG_TT_CTL_en = 1 ∧ only p t)) ∧
      (v.toNat.testBit 0 = true → was = false → first.valid = false → (s.tideOf p).oper = none → Gives (.change m p v) s (fun t => t.tideOf p = s.tideOf p ∧
        t.fld (TMG_TT_CTL p) TMG_TT_CTL_en = 0 ∧ t.fld (TMG_TT_CTL p) TMG_TT_CTL_change_refused = 1 ∧ s.tells t 2 0x0505 2 p ∧ only p t)) ∧
      (v.toNat.testBit 2 = true → exec (.ttEnable m p v) s = exec (.change m p v) s) ∧
      (v.toNat.testBit 2 = false → v.toNat.testBit 0 = false → Gives (.ttEnable m p v) s (fun t => t.tideOf p = {} ∧ (∀ now, t.gatesAt p now = 0xFF) ∧
        t.fld (TMG_TT_CTL p) TMG_TT_CTL_en = 0 ∧ t.fld (TMG_TT_CTL p) TMG_TT_CTL_pending = 0 ∧ only p t)) ∧
      (v.toNat.testBit 2 = false → v.toNat.testBit 0 = true → was = true → Gives (.ttEnable m p v) s (fun t => t.tideOf p = s.tideOf p ∧
        t.fld (TMG_TT_CTL p) TMG_TT_CTL_en = 1 ∧ t.fld (TMG_TT_CTL p) TMG_TT_CTL_list = s.fld (TMG_TT_CTL p) TMG_TT_CTL_list ∧ only p t)) ∧
      (v.toNat.testBit 2 = false → v.toNat.testBit 0 = true → was = false → first.valid = true → Gives (.ttEnable m p v) s (fun t =>
        t.tideOf p = { oper := some first, gates := t.gatesAt p s.tide.toNat } ∧ t.fld (TMG_TT_CTL p) TMG_TT_CTL_en = 1 ∧
        t.fld (TMG_TT_CTL p) TMG_TT_CTL_list = TMG_TT_CTL_list.get v ∧ only p t)) ∧
      (v.toNat.testBit 2 = false → v.toNat.testBit 0 = true → was = false → first.valid = false → Gives (.ttEnable m p v) s (fun t => t.tideOf p = s.tideOf p ∧
        t.fld (TMG_TT_CTL p) TMG_TT_CTL_en = 0 ∧ t.fld (TMG_TT_CTL p) TMG_TT_CTL_change_refused = 1 ∧ s.posts t 0x0505 2 p ∧ only p t))) ∧
    (∀ (p : Fin 28) (n : TidePending), (s.tideOf p).pending = some n → n.at_ ≤ s.tide.toNat → s.wrd.switching = none →
      Gives (.scheduleSwitch p) s (fun t => (t.tideOf p).oper = some n.sched ∧ (t.tideOf p).pending = none ∧ (t.tideOf p).gates = t.gatesAt p s.tide.toNat ∧
        t.fld (TMG_TT_CTL p) TMG_TT_CTL_pending = 0 ∧ t.fld (TMG_TT_CTL p) TMG_TT_CTL_list = n.sched.list % 2 ∧ s.posts t 0x0504 0 p ∧
        (∀ q, q ≠ p.val → t.tideOf q = s.tideOf q) ∧ s.onlyRegs t [TMG_TT_CTL p] ∧ t = { s with regs := t.regs, flt := t.flt, tm := { s.tm with scheds := t.tm.scheds } })) ∧
    (∀ p : Fin 28, (∀ n ∈ (s.tideOf p).pending, s.tide.toNat < n.at_) → s.wrd.switching = none → Gives (.scheduleSwitch p) s (fun t => t = s)) ∧
    (s.writable m TMG_TT_DATA →
      let p := s.fld TMG_TT_ADDR TMG_TT_ADDR_port
      let l := s.fld TMG_TT_ADDR TMG_TT_ADDR_list
      let i := s.fld TMG_TT_ADDR TMG_TT_ADDR_index
      let busy := (∃ c ∈ (s.tideOf p).oper, c.list = l) ∨ (∃ n ∈ (s.tideOf p).pending, n.sched.list = l)
      (28 ≤ p → Gives (.tmgTtDataWrite m v) s (fun t => t = s.seen m)) ∧
      (p < 28 → ¬ busy → Gives (.tmgTtDataWrite m v) s (fun t => t.fld TMG_TT_ADDR TMG_TT_ADDR_index = (i + 1) % 1024 ∧ t.ttEntry p l i = v ∧
        (∀ e, e ≠ p * 2048 + l * 1024 + i → tget 0 t.tm.entries e = tget 0 s.tm.entries e) ∧ s.onlyRegs t [TMG_TT_ADDR] ∧
        t = { s.seen m with regs := t.regs, tm := { s.tm with entries := t.tm.entries } })) ∧
      (p < 28 → busy → Gives (.tmgTtDataWrite m v) s (fun t => t.fld TMG_TT_ADDR TMG_TT_ADDR_index = (i + 1) % 1024 ∧
        t.fld (TMG_TT_CTL p) TMG_TT_CTL_write_refused = 1 ∧ s.posts t 0x0505 2 p ∧ s.onlyRegs t [TMG_TT_ADDR, TMG_TT_CTL p] ∧
        t = { s.seen m with regs := t.regs, flt := t.flt })))

/-- Histograms (R130): a written selection clears its slot's bins, and the old one stays in force until the next period boundary. At a boundary the written selections take effect; while the gauge is on, each slot whose selection is enabled then counts in the one depth bin and the one delay bin of its queue or aggregate, and no other register changes. Enabled slots are below 64 and listed once, as every write leaves them. -/
def Obligations.GaugesAndHistograms : Prop :=
  ∀ s : State,
    (∀ (m : Master) (h : Fin 64) (v : Word), s.writable m (TMG_HIST_SEL h) →
      Gives (.tmgHistSelWrite m h v) s (fun t => t.rd (TMG_HIST_SEL h) = (s.wrPlain (TMG_HIST_SEL h) v).rd (TMG_HIST_SEL h) ∧
        (∀ k < 16, t.rd (TMG_HIST_DEPTH h k) = 0 ∧ t.rd (TMG_HIST_DELAY h k) = 0) ∧ s.onlyRegs t (TMG_HIST_SEL h :: histRegs h) ∧
        t = { s.seen m with regs := t.regs, tm := { s.tm with histPend := s.tm.histPend.filter (· != h.val) ++ [h.val] } })) ∧
    ((s.tm.histSel.map (·.1)).Nodup → (∀ e ∈ s.tm.histSel, e.1 < 64) → (∀ h ∈ s.tm.histPend, h < 64) →
      let sel := fun h : Nat => if h ∈ s.tm.histPend then s.rd (TMG_HIST_SEL h) else tget 0 s.tm.histSel h
      let on := fun h : Nat => s.fld TMG_GAUGE_CTL TMG_GAUGE_CTL_en = 1 ∧ (sel h).toNat.testBit 31 = true
      let depth := fun h : Nat => TMG_HIST_DEPTH h (depthBin (s.gaugeOf (sel h).toNat).1)
      let delay := fun h : Nat => TMG_HIST_DELAY h (delayBin (bits 18 14 (sel h).toNat) (s.gaugeOf (sel h).toNat).2)
      Gives .gaugeSample s (fun t => (∀ h < 64, tget 0 t.tm.histSel h = sel h) ∧
        (∀ h < 64, on h → s.counts t (depth h) ∧ s.counts t (delay h) ∧ ∀ a ∈ histRegs h, a ≠ depth h → a ≠ delay h → t.rd a = s.rd a) ∧
        (∀ h < 64, ¬ on h → ∀ a ∈ histRegs h, t.rd a = s.rd a) ∧ s.onlyRegs t ((List.range 64).flatMap histRegs) ∧
        t = { s with regs := t.regs, tm := { s.tm with histPend := [], histSel := t.tm.histSel } }))

/-- The commands that clear counters (R112, R132, R129, R159, R183, R210, R238, R302, R339, R359, R435): each sets the counters that it names to zero and changes no other register; one whose register has other command bits clears what those bits name as well, and the gauge's clear commands write the gauge's settings with the same value. -/
def Obligations.CountersClear : Prop :=
  ∀ (s : State) (m : Master) (v : Word),
    let clears := fun (l : List Nat) (t : State) => (∀ a ∈ l, t.rd a = 0) ∧ s.onlyRegs t l ∧ t = { s.seen m with regs := t.regs }
    let gates := (List.range 28).flatMap (fun p => [TMG_GATE_CNT p 0, TMG_GATE_CNT p 1])
    let policed := fun (on : Bool) (t : State) => (on = true → ∀ p, t.pol p = { s.pol p with pass := 0, drop := 0 }) ∧ (on = false → t.tm = s.tm) ∧ t = { s.seen m with regs := t.regs, tm := { s.tm with pol := t.tm.pol } }
    let gauge := fun (wm hist : Bool) (t : State) => t.rd TMG_GAUGE_CTL = (s.wrPlain TMG_GAUGE_CTL v).rd TMG_GAUGE_CTL ∧ (hist = true → ∀ a ∈ (List.range 64).flatMap histRegs, t.rd a = 0) ∧ s.onlyRegs t (TMG_GAUGE_CTL :: if hist then (List.range 64).flatMap histRegs else []) ∧ t = { s.seen m with regs := t.regs, tm := if wm then { s.tm with wmDepth := [], wmDelay := [] } else s.tm }
    let guards := (List.range 64).flatMap (fun g => [CSG_G_MISS g, CSG_G_FAULTS g])
    let camera := fun (g f r : Bool) (t : State) => (∀ a ∈ (if g then guards else []) ++ (if r then [CSG_REFUSED] else []), t.rd a = 0) ∧ (f = true → ∀ e ∈ s.csg.ctx, t.frer e.1 = { s.frer e.1 with cnt := [0, 0, 0, 0, 0, 0] }) ∧ (f = false → t.csg = s.csg) ∧ s.onlyRegs t ((if g then guards else []) ++ (if r then [CSG_REFUSED] else [])) ∧ t = { s.seen m with regs := t.regs, csg := { s.csg with ctx := t.csg.ctx } }
    let lost := fun (w : Word) (t : State) => (w.toNat.testBit 0 = true → (∀ k < 8, t.rd (FLT_EVQ_LOST k) = 0) ∧ t.fld FLT_EVQ_STATUS FLT_EVQ_STATUS_ecc_lost = 0) ∧ (w.toNat.testBit 1 = true → ∀ k < 16, t.rd (FLT_SRC_LOST (k + 1)) = 0) ∧ (w.toNat.testBit 1 = false → ∀ k < 16, t.rd (FLT_SRC_LOST (k + 1)) = s.rd (FLT_SRC_LOST (k + 1))) ∧ (w.toNat.testBit 2 = true → ∀ n : Nat, t.eccOf n = { s.eccOf n with corrected := 0, uncorrectable := 0, warned := false }) ∧ (w.toNat.testBit 2 = false → t.flt = s.flt) ∧ s.onlyRegs t (if w.toNat.testBit 0 then FLT_EVQ_STATUS :: (List.range 8).map FLT_EVQ_LOST else []) ∧ t = { s.seen m with regs := t.regs, flt := { s.flt with ecc := t.flt.ecc } }
    (∀ p : Fin 32, s.writable m SWC_CNT_CLR → Gives (.swcCntClr m p) s (clears ((List.range 16).map (SWC_CNT p)))) ∧
    (s.writable m SWC_CNT_CLR → Gives (.swcCntClrAll m v) s (clears ((List.range 32).flatMap (fun n => (List.range 16).map (SWC_CNT n)) ++ (List.range 8).map SWC_BANK_COLLIDE))) ∧
    (s.writable m TMG_CTL → Gives (.clrGateCnt m v) s (fun t => (∀ a ∈ gates, t.rd a = 0) ∧ s.onlyRegs t gates ∧ policed (v.toNat.testBit 1) t)) ∧
    (s.writable m TMG_CTL → Gives (.clrPolCnt m v) s (fun t => (v.toNat.testBit 0 = true → ∀ a ∈ gates, t.rd a = 0) ∧ s.onlyRegs t (if v.toNat.testBit 0 then gates else []) ∧ policed true t)) ∧
    (s.writable m TMG_GAUGE_CTL → Gives (.clrWm m v) s (gauge true (v.toNat.testBit 19))) ∧
    (s.writable m TMG_GAUGE_CTL → Gives (.clrHist m v) s (gauge (v.toNat.testBit 18) true)) ∧
    (s.writable m CSG_CNT_CLR → s.csg.owed = [] → Gives (.csgClrGuards m v) s (camera true (v.toNat.testBit 1) (v.toNat.testBit 2))) ∧
    (s.writable m CSG_CNT_CLR → s.csg.owed = [] → Gives (.csgClrFrer m v) s (camera (v.toNat.testBit 0) true (v.toNat.testBit 2))) ∧
    (s.writable m CSG_CNT_CLR → s.csg.owed = [] → Gives (.csgClrRefused m v) s (camera (v.toNat.testBit 0) (v.toNat.testBit 1) true)) ∧
    (∀ p : Fin 28, s.writable m (ETH_CNT_CLR p) → Gives (.ethCntClr m p v) s (clears ((List.range 18).map (ETH_CNT p)))) ∧
    (∀ n : Fin 24, s.writable m (CAN_CNT_CLR n) → Gives (.canCntClr m n v) s (clears ((List.range 19).map (CAN_CNT n)))) ∧
    (s.writable m TBL_CNT_CLR → Gives (.tblCntClr m v) s (clears ((List.range 13).map TBL_CNT))) ∧
    (s.writable m FAB_CNT_CLR → Gives (.fabCntClr m v) s (clears ((List.range 14).map FAB_CNT))) ∧
    (s.writable m PLC_CNT_CLR → Gives (.plcCntClr m v) s (clears (PLC_MAX_PAUSE :: (List.range 6).map PLC_CNT))) ∧
    (s.writable m SEC_CNT_CLR → Gives (.secCntClr m v) s (clears ((List.range 8).map SEC_CNT))) ∧
    (s.writable m FLT_CNT_CLR → Gives (.fltClrLost m v) s (fun t => lost (v ||| 1) t)) ∧
    (s.writable m FLT_CNT_CLR → Gives (.fltClrSrc m v) s (fun t => lost (v ||| 2) t)) ∧
    (s.writable m FLT_CNT_CLR → Gives (.fltClrEcc m v) s (fun t => lost (v ||| 4) t))

/-- The stream guard (R145, R146, R151 to R156), where no slot owes a status message, as every step leaves it (StatusMessagesSent). A slot that sees no frame for its limit has a STALL finding: it is not armed again until a frame comes, a finding new in the episode raises 0x0711, and a slot that is not yet in FAULT goes there, counts, and is redirected with 0x0720 where its backup can be used, or waits for it with 0x0722; the redirections of slots in OK to its stream end. The loss window starts its count again. A repetition period owes one message, with the sequence number that follows; where admission finds room for it and no policer acts, it stands last in the queue from sp29 to o_mon at tc7, complete. Enabling a slot starts it in ACQUIRING with nothing observed, disabling returns it to OFF and ends its redirection; a revert, an automatic revert and a backup that is disabled end the redirection with 0x0721. A write that enables nothing new and disables nothing changes its register alone. Where the slot sends messages, a change of its state sends one. -/
def Obligations.StreamGuard : Prop :=
  ∀ (s : State) (g : Fin 64), s.csg.owed = [] →
    let x := s.slot g
    let st := s.gState g
    let msg := s.fldB (CSG_G_CFG g) CSG_G_CFG_act_msg
    let others := fun t : State => ∀ k, k ≠ g.val → t.slot k = s.slot k
    let sent := fun t : State => (t.slot g).msgSeq = (x.msgSeq + 1) % 65536 ∧ t.csg.owed = []
    let ends := fun (base t : State) (l : List Nat) => t.gRedir g = false ∧ t.slot g = { x with waitBackup := false } ∧ others t ∧ (s.gRedir g = true → s.posts t 0x0721 1 g) ∧ t.gState g = st ∧ s.onlyRegs t (CSG_G_STATE g :: l) ∧ t = { base with regs := t.regs, flt := t.flt, csg := { s.csg with slots := t.csg.slots } }
    (st = 0 ∨ x.stallArmed = false → Gives (.stall g) s (fun t => t = s)) ∧
    (st = 3 → x.stallArmed = true → msg = false →
      Gives (.stall g) s (fun t => (t.fld (CSG_G_STATE g) CSG_G_STATE_findings).testBit 1 = true ∧ t.gState g = 3 ∧
        t.slot g = { x with stallArmed := false, last := none, goodRun := 0, episode := withBit x.episode 1 true } ∧ others t ∧
        (x.episode.testBit 1 = false → s.posts t 0x0711 4 g) ∧ s.onlyRegs t [CSG_G_STATE g] ∧
        t = { s with regs := t.regs, flt := t.flt, csg := { s.csg with slots := t.csg.slots } })) ∧
    (st = 1 ∨ st = 2 → x.stallArmed = true → msg = false →
      let due := s.fldB (CSG_G_CFG g) CSG_G_CFG_act_redir && s.fldB (CSG_G_BACKUP g) CSG_G_BACKUP_backup_en && !s.gRedir g
      Gives (.stall g) s (fun t => t.gState g = 3 ∧ (t.fld (CSG_G_STATE g) CSG_G_STATE_findings).testBit 1 = true ∧
        (t.slot g).stallArmed = false ∧ (t.slot g).last = none ∧ s.counts t (CSG_G_FAULTS g) ∧
        (x.episode.testBit 1 = false → s.tells t 68 0x0711 4 g) ∧
        t.gRedir g = (s.gRedir g || (due && t.backupUsable g)) ∧
        (due = true → t.backupUsable g = true → (t.slot g).redirTo = s.fld (CSG_G_BACKUP g) CSG_G_BACKUP_backup ∧ s.tells t 68 0x0720 3 g) ∧
        (due = true → t.backupUsable g = false → (t.slot g).waitBackup = true ∧ s.tells t 68 0x0722 3 g) ∧
        (∀ k < 64, k ≠ g.val → t.gState k = s.gState k ∧
          t.gRedir k = (s.gRedir k && !(decide (s.gState k = 2) && decide ((s.slot k).redirTo = s.gHandle g)))) ∧
        s.onlyRegs t (CSG_G_FAULTS g :: (List.range 64).map CSG_G_STATE) ∧
        t = { s with regs := t.regs, flt := t.flt, csg := { s.csg with slots := t.csg.slots } })) ∧
    (st ≠ 0 → x.stallArmed = true → msg = true → st ≠ 3 ∨ x.episode.testBit 1 = false →
      Gives (.stall g) s (fun t => sent t ∧ t.gState g = 3 ∧ (t.fld (CSG_G_STATE g) CSG_G_STATE_findings).testBit 1 = true ∧
        (t.slot g).stallArmed = false ∧ (t.slot g).last = none ∧ t.mram = s.mram ∧ t.otp = s.otp)) ∧
    Gives (.lossWindowEnd g) s (fun t => t.slot g = { x with missing := 0 } ∧ others t ∧ t = { s with csg := { s.csg with slots := t.csg.slots } }) ∧
    (let period := if st = 2 then s.fld (CSG_G_MSG g) CSG_G_MSG_ok_period_ms else s.fld (CSG_G_MSG g) CSG_G_MSG_msg_period_ms
     (st = 0 ∨ period = 0 ∨ msg = false → Gives (.statusMessageRepeat g) s (fun t => t = s)) ∧
     (st ≠ 0 → period ≠ 0 → msg = true → Gives (.statusMessageRepeat g) s (fun t => sent t ∧ t.slot g = { x with msgSeq := (x.msgSeq + 1) % 65536 } ∧ others t ∧ t.mram = s.mram ∧ t.otp = s.otp)) ∧
     (st ≠ 0 → period ≠ 0 → msg = true → (s.pol (s.fld (TMG_PORT_CLS 29) TMG_PORT_CLS_pol)).en = false → s.fld (TBL_PORT_CFG 29) TBL_PORT_CFG_learn_en = 0 →
       s.roomFor 29 (s.gMon g) 7 0 → s.tooManyCells { input := 29, data := s.statusFrame g } = false →
       let q := qIndex 29 (s.gMon g) 7
       Gives (.statusMessageRepeat g) s (fun t => t.queue q = s.queue q ++ [s.sw.nextId] ∧ (∀ k, k ≠ q → t.queue k = s.queue k) ∧
         t.frame s.sw.nextId = some { input := 29, data := s.statusFrame g, tc := 7, colour := 0, ts := s.tide.toNat, id := s.sw.nextId, bank := homeBank 29, berm := some q, cells := cellsOf (s.statusFrame g).length, complete := true, arrive := s.elapsed, done := s.elapsed, native := false, dest := [s.gMon g], residue := [s.gMon g], begun := [] } ∧
         (∀ id, id ≠ s.sw.nextId → t.frame id = s.frame id) ∧ s.onlyRegs t spillRegs ∧
         t = { s with regs := t.regs, flt := t.flt, sw := t.sw, tm := t.tm, csg := { s.csg with slots := t.csg.slots } }))) ∧
    (st = 2 → s.fldB (CSG_G_CFG g) CSG_G_CFG_auto_revert = true → Gives (.autoRevert g) s (fun t => ends s t [])) ∧
    (st ≠ 2 ∨ s.fldB (CSG_G_CFG g) CSG_G_CFG_auto_revert = false → Gives (.autoRevert g) s (fun t => t = s)) ∧
    (∀ (m : Master) (v : Word),
      (s.writable m (CSG_G_REVERT g) → Gives (.revert m g v) s (fun t => ends (s.seen m) t [CSG_G_REVERT g])) ∧
      (s.writable m (CSG_G_BACKUP g) → v.toNat.testBit 14 = false →
        Gives (.csgGBackupWrite m g v) s (fun t => t.rd (CSG_G_BACKUP g) = (s.wrPlain (CSG_G_BACKUP g) v).rd (CSG_G_BACKUP g) ∧
          t.fldB (CSG_G_BACKUP g) CSG_G_BACKUP_backup_en = false ∧ ends (s.seen m) t [CSG_G_BACKUP g])) ∧
      (s.writable m (CSG_G_BACKUP g) → v.toNat.testBit 14 = true →
        Gives (.csgGBackupWrite m g v) s (fun t => t.rd (CSG_G_BACKUP g) = (s.wrPlain (CSG_G_BACKUP g) v).rd (CSG_G_BACKUP g) ∧
          t.fldB (CSG_G_BACKUP g) CSG_G_BACKUP_backup_en = true ∧ s.onlyRegs t [CSG_G_BACKUP g] ∧ t = { s.seen m with regs := t.regs })) ∧
      (s.writable m (CSG_G_CFG g) →
        let set := fun t : State => t.rd (CSG_G_CFG g) = (s.wrPlain (CSG_G_CFG g) v).rd (CSG_G_CFG g) ∧ t.gHandle g = CSG_G_CFG_handle.get v
        let on := s.fldB CSG_CTL CSG_CTL_en && v.toNat.testBit 0
        let loud := CSG_G_CFG_act_msg.get v = 1
        (on = true → st = 0 → ¬ loud → Gives (.csgGCfgWrite m g v) s (fun t => set t ∧ t.gState g = 1 ∧
          t.slot g = { msgSeq := x.msgSeq, goodNs := x.goodNs, stallArmed := true } ∧ others t ∧ t.fld (CSG_G_STATE g) CSG_G_STATE_hash_valid = 0 ∧
          t.fld (CSG_G_STATE g) CSG_G_STATE_frz_run = 0 ∧ s.onlyRegs t [CSG_G_CFG g, CSG_G_STATE g] ∧
          t = { s.seen m with regs := t.regs, csg := { s.csg with slots := t.csg.slots } })) ∧
        (on = true → st = 0 → loud → Gives (.csgGCfgWrite m g v) s (fun t => set t ∧ t.gState g = 1 ∧ sent t ∧
          (t.slot g).stallArmed = true ∧ (t.slot g).goodNs = x.goodNs ∧ t.mram = s.mram ∧ t.otp = s.otp)) ∧
        (on = false → st ≠ 0 → ¬ loud → Gives (.csgGCfgWrite m g v) s (fun t => set t ∧ t.gState g = 0 ∧ t.gRedir g = false ∧
          t.slot g = { msgSeq := x.msgSeq, goodNs := x.goodNs, frzRun := x.frzRun, missing := x.missing, redirTo := x.redirTo } ∧ others t ∧
          (s.gRedir g = true → s.posts t 0x0721 1 g) ∧ s.onlyRegs t [CSG_G_CFG g, CSG_G_STATE g] ∧
          t = { s.seen m with regs := t.regs, flt := t.flt, csg := { s.csg with slots := t.csg.slots } })) ∧
        (on = false → st ≠ 0 → loud → Gives (.csgGCfgWrite m g v) s (fun t => set t ∧ t.gState g = 0 ∧ t.gRedir g = false ∧ sent t ∧ t.mram = s.mram ∧ t.otp = s.otp)) ∧
        ((on = true ↔ st ≠ 0) → Gives (.csgGCfgWrite m g v) s (fun t => set t ∧ s.onlyRegs t [CSG_G_CFG g] ∧ t = { s.seen m with regs := t.regs }))))

/-- A slot sends its status message at the change or the period that calls for it (R153): from every state in which no slot owes a message, every step leads to such a state. It holds of reset, where no slot runs (ResetState). -/
def Obligations.StatusMessagesSent : Prop :=
  ∀ s t : State, s.csg.owed = [] → step s = .next t → t.csg.owed = []

/-- Frame recovery (R141, R142): turning a context on makes it take any sequence number, with no timer and no member timed; turning it off ends its timers; any other write changes its register alone. The reset timer makes the context take any sequence number, counts and raises 0x0731, and nothing happens where it does not run. A member that delivered nothing while it was timed is marked silent with 0x0732; one that was not timed, or is silent already, is not. -/
def Obligations.Recovery : Prop :=
  ∀ (s : State) (c : Fin 512),
    let x := s.frer c
    let others := fun t : State => ∀ k, k ≠ c.val → t.frer k = s.frer k
    (∀ (m : Master) (v : Word), s.csg.owed = [] → s.writable m (CSG_FRER_CFG c) →
      let on := v.toNat.testBit 0
      Gives (.csgFrerCfgWrite m c v) s (fun t => t.rd (CSG_FRER_CFG c) = (s.wrPlain (CSG_FRER_CFG c) v).rd (CSG_FRER_CFG c) ∧
        t.frer c = (if on then (if s.fldB (CSG_FRER_CFG c) CSG_FRER_CFG_en then x else { x with takeAny := true, timer := false, waiting := 0 }) else { x with timer := false, waiting := 0 }) ∧
        others t ∧ s.onlyRegs t [CSG_FRER_CFG c] ∧ t = { s.seen m with regs := t.regs, csg := { s.csg with ctx := t.csg.ctx } })) ∧
    (x.timer = false → Gives (.recoveryResetTimeout c) s (fun t => t = s)) ∧
    (x.timer = true →
      Gives (.recoveryResetTimeout c) s (fun t => t.frer c = { x with takeAny := true, timer := false, waiting := 0, cnt := modAt x.cnt 5 (fun v => satAdd 32 v 1) } ∧
        others t ∧ s.posts t 0x0731 1 c ∧ s.onlyRegs t [] ∧ t = { s with regs := t.regs, flt := t.flt, csg := { s.csg with ctx := t.csg.ctx } })) ∧
    (∀ j : Fin 4, x.waiting.testBit j = false ∨ x.silent.testBit j = true → Gives (.memberSilent c j) s (fun t => t = s)) ∧
    (∀ j : Fin 4, x.waiting.testBit j = true → x.silent.testBit j = false →
      Gives (.memberSilent c j) s (fun t => t.frer c = { x with silent := withBit x.silent j true } ∧ others t ∧
        s.posts t 0x0732 3 c ∧ s.onlyRegs t [] ∧ t = { s with regs := t.regs, flt := t.flt, csg := { s.csg with ctx := t.csg.ctx } }))

/-- A channel's mode and error state (R56, R187 to R190, R203, R205). A mode written while the channel is off starts integration in full operation, and is only stored elsewhere; one written in operation waits for bus idle, in bus-off and recovery for its end; mode 0 turns a channel in integration, bus-off or recovery off at once. A write of rxq_mode that changes it is refused with 0x090C while the channel is not off (the model's choice, assumption 24). recover starts recovery from a bus-off that boff_mode 1 keeps, and has no other effect. A configuration register takes a write only while the channel is off, and C8 to C23 have no XL registers. Integration ends by the counters held. At bus idle a pending mode takes effect and the frame offered starts, unless the bus is stuck; while the channel sends, its bus is not idle. An error is noted, and counts by its rule of ISO 11898-1; a channel is the transmitter from its start of frame on, in its own error flag as well, and one that sends nothing or has withdrawn its frame counts as a receiver; past 255 the channel is bus-off with 0x0901, and the frame on the bus has failed (R203, R204). Recovery counts and ends at 128 with 0x0902; a stuck bus counts and raises 0x090A. -/
def Obligations.CanBus : Prop :=
  ∀ (s : State) (n : Fin 24),
    let c := s.chan n
    let st := s.canSt n
    let stuck := s.fldB (CAN_STATUS n) CAN_STATUS_bus_stuck
    let others := fun t : State => ∀ k, k ≠ n.val → t.chan k = s.chan k
    let off := fun t : State => t.canSt n = 0 ∧ t.canTec n = 0 ∧ t.canRec n = 0 ∧ (t.chan n).mode = 0 ∧ (t.chan n).change = none ∧ (t.chan n).onBus = none ∧ (t.chan n).backlog = [] ∧ (∀ b < 3, (t.chan n).loaded b = false) ∧ (t.chan n).rxq0 = c.rxq0 ∧ (t.chan n).rxq1 = c.rxq1 ∧ (t.chan n).flt = c.flt ∧ others t ∧ s.keeps t
    let starts := fun (x : CanChan) (on : Bool) => if on && !stuck then (match x.offered (s.fldB (CAN_CTL n) CAN_CTL_tx_order) with | some b => { x with onBus := some b, since := s.elapsed, sof := s.tide.toNat, sender := true } | none => x) else x
    let still : CanChan := { c with sender := false, rxSof := none }
    let only := fun (base t : State) (l : List Nat) => others t ∧ s.onlyRegs t l ∧ t = { base with regs := t.regs, flt := t.flt, can := t.can }
    (∀ (m : Master) (v : Word), s.writable m (CAN_CTL n) →
      let md := canModeOf (CAN_CTL_mode.get v)
      let refused := CAN_CTL_rxq_mode.get v ≠ s.fld (CAN_CTL n) CAN_CTL_rxq_mode ∧ s.cfgOpen n = false
      let ctl := fun t : State => t.fld (CAN_CTL n) CAN_CTL_mode = CAN_CTL_mode.get v ∧ t.fld (CAN_CTL n) CAN_CTL_boff_mode = CAN_CTL_boff_mode.get v ∧ t.fld (CAN_CTL n) CAN_CTL_rxq_mode = (if refused then s.fld (CAN_CTL n) CAN_CTL_rxq_mode else CAN_CTL_rxq_mode.get v) ∧ (refused → t.fld (CAN_STATUS n) CAN_STATUS_cfg_refused = 1 ∧ s.tells t 1 0x090C 2 n)
      let waits : CanChan := { c with change := if md = c.mode then none else some md }
      let recovers := st = 4 ∧ CAN_CTL_recover.get v = 1 ∧ CAN_CTL_boff_mode.get v = 1
      (st = 0 → md ≠ 0 → s.dev.state = .full → Gives (.canModeWrite m n v) s (fun t => ctl t ∧ t.canSt n = 1 ∧ t.chan n = { c with mode := md, change := none } ∧
        others t ∧ s.onlyRegs t [CAN_CTL n, CAN_STATUS n] ∧
        t = { s.seen m with regs := t.regs, flt := t.flt, can := t.can, bank := { s.bank with decoding := s.bank.decoding.filter (· != n.val) } })) ∧
      (st = 0 → md = 0 ∨ s.dev.state ≠ .full → Gives (.canModeWrite m n v) s (fun t => ctl t ∧ t.canSt n = 0 ∧ t.can = s.can ∧ only (s.seen m) t [CAN_CTL n, CAN_STATUS n])) ∧
      (st = 1 → md ≠ 0 → Gives (.canModeWrite m n v) s (fun t => ctl t ∧ t.canSt n = 1 ∧ t.chan n = { c with mode := md, change := none } ∧ only (s.seen m) t [CAN_CTL n, CAN_STATUS n])) ∧
      (st = 2 ∨ st = 3 → Gives (.canModeWrite m n v) s (fun t => ctl t ∧ t.canSt n = st ∧ t.chan n = waits ∧ only (s.seen m) t [CAN_CTL n, CAN_STATUS n])) ∧
      (st = 1 ∨ 4 ≤ st → md = 0 → Gives (.canModeWrite m n v) s (fun t => ctl t ∧ off t)) ∧
      (4 ≤ st → md ≠ 0 → ¬ recovers → Gives (.canModeWrite m n v) s (fun t => ctl t ∧ t.canSt n = st ∧ t.chan n = waits ∧ only (s.seen m) t [CAN_CTL n, CAN_STATUS n])) ∧
      (md ≠ 0 → recovers → Gives (.canModeWrite m n v) s (fun t => ctl t ∧ t.canSt n = 5 ∧ t.fld (CAN_STATUS n) CAN_STATUS_rec_seq = 0 ∧ t.chan n = waits ∧
        only (s.seen m) t [CAN_CTL n, CAN_STATUS n])) ∧
      (st = 4 → md ≠ 0 → CAN_CTL_boff_mode.get v = 1 → Gives (.canCtlRecover m n v) s (fun t => ctl t ∧ t.canSt n = 5 ∧
        t.fld (CAN_STATUS n) CAN_STATUS_rec_seq = 0 ∧ t.chan n = waits ∧ only (s.seen m) t [CAN_CTL n, CAN_STATUS n])) ∧
      (st = 2 ∨ st = 3 → Gives (.canCtlRecover m n v) s (fun t => ctl t ∧ t.canSt n = st ∧ t.chan n = waits ∧ only (s.seen m) t [CAN_CTL n, CAN_STATUS n])) ∧
      exec (.canCtlRecover m n v) s = exec (.canModeWrite m n (v ||| 16)) s) ∧
    (∀ (m : Master) (k : Fin 5) (v : Word),
      let a := CAN_CTL n + 0x10 + 4 * k
      let none_ := 8 ≤ n.val ∧ (k.val = 2 ∨ k.val = 3)
      s.writable m a →
      (none_ → Gives (.canConfigWrite m n k v) s (fun t => t = s.seen m)) ∧
      (¬ none_ → s.cfgOpen n = true → n.val < 8 ∨ k.val ≠ 4 → Gives (.canConfigWrite m n k v) s (fun t =>
        t.rd a = (s.wrPlain a v).rd a ∧ s.onlyRegs t [a] ∧ t = { s.seen m with regs := t.regs })) ∧
      (8 ≤ n.val → k.val = 4 → s.cfgOpen n = true → Gives (.canConfigWrite m n k v) s (fun t => t.rd a = ((s.wrPlain a v).setFld a CAN_FD_CFG_xl_en 0).rd a ∧
        t.fld (CAN_FD_CFG n) CAN_FD_CFG_xl_en = 0 ∧ s.onlyRegs t [a] ∧ t = { s.seen m with regs := t.regs })) ∧
      (¬ none_ → s.cfgOpen n = false → Gives (.canConfigWrite m n k v) s (fun t =>
        t.fld (CAN_STATUS n) CAN_STATUS_cfg_refused = 1 ∧ s.posts t 0x090C 2 n ∧ s.onlyRegs t [CAN_STATUS n] ∧ t = { s.seen m with regs := t.regs, flt := t.flt }))) ∧
    (st = 1 → Gives (.canIntegrationDone n) s (fun t => t.canSt n = (if 128 ≤ s.canTec n ∨ 128 ≤ s.canRec n then 3 else 2) ∧
      s.onlyRegs t [CAN_STATUS n] ∧ t = { s with regs := t.regs })) ∧
    (st ≠ 1 → Gives (.canIntegrationDone n) s (fun t => t = s)) ∧
    (c.onBus ≠ none → Gives (.canModeChange n) s (fun t => t = s)) ∧
    (c.onBus = none → c.change = none → Gives (.canModeChange n) s (fun t => t.chan n = starts still (s.canPart n && s.counting n) ∧ others t ∧ t = { s with can := t.can })) ∧
    (c.onBus = none → c.change ≠ none → s.canPart n = false → Gives (.canModeChange n) s (fun t => t.chan n = still ∧ others t ∧ t = { s with can := t.can })) ∧
    (c.onBus = none → c.change = some 0 → s.canPart n = true → Gives (.canModeChange n) s (fun t => off t)) ∧
    (∀ m : Nat, c.onBus = none → c.change = some m → s.canPart n = true →
      (m ≠ 0 → m = 4 ∨ c.mode = 4 → Gives (.canModeChange n) s (fun t => t.canSt n = 1 ∧ t.chan n = { still with mode := m, change := none } ∧
        others t ∧ s.onlyRegs t [CAN_STATUS n] ∧ t = { s with regs := t.regs, can := t.can })) ∧
      (m ≠ 0 → m ≠ 4 → c.mode ≠ 4 → Gives (.canModeChange n) s (fun t => t.chan n = starts { still with mode := m, change := none } (m == 1) ∧
        others t ∧ t = { s with can := t.can }))) ∧
    (∀ e : CanError,
      let noted := fun t : State => t.fld (CAN_ERR n) CAN_ERR_last_err = e.kind ∧ t.fld (CAN_ERR n) CAN_ERR_last_err_data = boolNat e.dataPhase
      let signalled := e.flag = true ∧ s.signals n e.xl e.dataPhase = true
      let shown := fun t : State => (signalled → t.outputs = .canError n :: s.outputs ∧ s.counts t (CAN_CNT n 15)) ∧ (¬ signalled → t.outputs = s.outputs ∧ t.rd (CAN_CNT n 15) = s.rd (CAN_CNT n 15))
      let tec := if e.rule = .transmitter ∧ c.sender = true then s.canTec n + 8 else s.canTec n
      let rec_ := if e.rule = .receiver8 then s.canRec n + 8 else if e.rule = .transmitter ∧ c.sender = true then s.canRec n else s.canRec n + 1
      let passive := 128 ≤ tec ∨ 128 ≤ rec_
      let same := fun t : State => t.chan n = { c with rxSof := none } ∧ others t
      let counted := [CAN_ERR n, CAN_STATUS n, CAN_CNT n 12, CAN_CNT n 13, CAN_CNT n 15]
      (s.canPart n = false → Gives (.canError n e) s (fun t => t = s)) ∧
      (s.canPart n = true → s.counting n = false → Gives (.canError n e) s (fun t => noted t ∧ t.canTec n = s.canTec n ∧ t.canRec n = s.canRec n ∧
        same t ∧ s.onlyRegs t [CAN_ERR n] ∧ t = { s with regs := t.regs, can := t.can })) ∧
      (s.canPart n = true → s.counting n = true → e.rule = .exempt → Gives (.canError n e) s (fun t => noted t ∧ shown t ∧ t.canTec n = s.canTec n ∧
        t.canRec n = s.canRec n ∧ t.canSt n = st ∧ same t ∧ s.onlyRegs t counted ∧ t = { s with regs := t.regs, outputs := t.outputs, can := t.can })) ∧
      (s.canPart n = true → s.counting n = true → e.rule ≠ .exempt → tec < 256 → Gives (.canError n e) s (fun t => noted t ∧ shown t ∧ t.canTec n = tec ∧
        t.canRec n = min rec_ 255 ∧ (passive → t.canSt n = 3 ∧ (st = 2 → s.posts t 0x0903 2 n ∧ s.counts t (CAN_CNT n 13))) ∧
        (¬ passive → t.canSt n = 2 ∧ (st = 3 → s.posts t 0x0904 0 n)) ∧
        same t ∧ s.onlyRegs t counted ∧ t = { s with regs := t.regs, flt := t.flt, outputs := t.outputs, can := t.can })) ∧
      (s.canPart n = true → s.counting n = true → e.rule ≠ .exempt → 256 ≤ tec → c.change ≠ some 0 → Gives (.canError n e) s (fun t => noted t ∧ shown t ∧ t.canTec n = 255 ∧
        t.canRec n = s.canRec n ∧ t.canSt n = (if s.fldB (CAN_CTL n) CAN_CTL_boff_mode then 4 else 5) ∧ t.fld (CAN_STATUS n) CAN_STATUS_rec_seq = 0 ∧
        s.counts t (CAN_CNT n 12) ∧ s.posts t 0x0901 3 n ∧ (c.onBus = none → t.chan n = { still with onBus := none }) ∧
        (∀ b : Fin 3, c.onBus = some b.val →
          let late := c.lateCancel.contains b.val
          let ended := fun r : Nat => (t.chan n).loaded b = false ∧ t.fld (CAN_TXB_STATUS n b) CAN_TXB_STATUS_result = r
          (late = true → ended 2 ∧ s.counts t (CAN_CNT n 6)) ∧ (late = false → s.fldB (CAN_CTL n) CAN_CTL_dar = true → ended 4) ∧
          (late = false → s.fldB (CAN_CTL n) CAN_CTL_dar = false → t.chan n = { still with onBus := none })) ∧ others t ∧
        s.onlyRegs t (CAN_TXB_STATUS n (c.onBus.getD 0) :: CAN_CNT n 6 :: counted) ∧ t = { s with regs := t.regs, flt := t.flt, outputs := t.outputs, can := t.can })) ∧
      (s.canPart n = true → s.counting n = true → e.rule ≠ .exempt → 256 ≤ tec → c.change = some 0 → Gives (.canError n e) s (fun t => noted t ∧ shown t ∧ off t ∧
        s.counts t (CAN_CNT n 12) ∧ s.posts t 0x0901 3 n))) ∧
    (∀ k : Fin 129,
      let seqs := s.fld (CAN_STATUS n) CAN_STATUS_rec_seq + k.val
      let done_ := fun t : State => t.canTec n = 0 ∧ t.canRec n = 0 ∧ t.fld (CAN_STATUS n) CAN_STATUS_rec_seq = 128 ∧ s.posts t 0x0902 0 n ∧ others t ∧ s.onlyRegs t [CAN_STATUS n, CAN_ERR n] ∧ t = { s with regs := t.regs, flt := t.flt, can := t.can }
      (st ≠ 5 → Gives (.busOffRecovered n k) s (fun t => t = s)) ∧
      (st = 5 → seqs < 128 → Gives (.busOffRecovered n k) s (fun t => t.canSt n = 5 ∧ t.fld (CAN_STATUS n) CAN_STATUS_rec_seq = seqs ∧
        s.onlyRegs t [CAN_STATUS n] ∧ t = { s with regs := t.regs })) ∧
      (st = 5 → 128 ≤ seqs → c.change = none → Gives (.busOffRecovered n k) s (fun t => done_ t ∧ t.canSt n = 2 ∧ t.chan n = c)) ∧
      (∀ m : Nat, st = 5 → 128 ≤ seqs → c.change = some m → m ≠ 0 → Gives (.busOffRecovered n k) s (fun t => done_ t ∧
        t.canSt n = (if m = 4 ∨ c.mode = 4 then 1 else 2) ∧ t.chan n = { c with mode := m, change := none })) ∧
      (st = 5 → 128 ≤ seqs → c.change = some 0 → Gives (.busOffRecovered n k) s (fun t => off t ∧ s.posts t 0x0902 0 n))) ∧
    (st = 0 → Gives (.busStuck n) s (fun t => t = s)) ∧
    (st ≠ 0 → Gives (.busStuck n) s (fun t => t.fld (CAN_STATUS n) CAN_STATUS_bus_stuck = 1 ∧ t.canSt n = st ∧ s.counts t (CAN_CNT n 14) ∧ s.posts t 0x090A 4 n ∧
      s.onlyRegs t [CAN_STATUS n, CAN_CNT n 14] ∧ s.regFrame t)) ∧
    Gives (.busStuckEnd n) s (fun t => t.fld (CAN_STATUS n) CAN_STATUS_bus_stuck = 0 ∧ t.canSt n = st ∧
      s.onlyRegs t [CAN_STATUS n] ∧ t = { s with regs := t.regs })

/-- A valid frame of another node (R184, R188, R189, R191 to R196): a channel that takes no part, or sends in loopback, takes nothing; a format that is not enabled is a protocol exception, counted where pex is set. Otherwise modes 1 and 2 acknowledge, a good reception counts REC down (from above 127 to a free value of 119 to 127), and the frame enters the queue that the filter list names, as one record stamped with the tide clock at its start of frame, that of the channel's own attempt where it lost the arbitration or withdrew (assumption 96), while the queue and the pool have room; it is lost and marked otherwise, and one that no element accepts, or a refused remote frame, is counted. A filter element takes both staged words at once and the index goes on; in register mode ack0 and ack1 each free one head. The aggregator takes an entry, queue 0 first and channels in turn: one without a binding is freed and counted; one with a binding is marked, an owner other than its channel is shown, and its record goes to the routine at sp28, where admission finds room for it. -/
def Obligations.CanReception : Prop :=
  ∀ (s : State) (n : Fin 24),
    let c := s.chan n
    let others := fun t : State => ∀ k, k ≠ n.val → t.chan k = s.chan k
    (∀ f : CanFrame,
      let ide := f.ide && f.fmt.val != 2
      let off := (f.fmt.val = 1 ∧ s.fdEn n = false) ∨ (f.fmt.val = 2 ∧ s.xlEn n = false)
      let hit := if f.fmt.val = 0 ∧ f.rtr = true ∧ s.fldB (CAN_CTL n) CAN_CTL_rrf_rej = true then none else s.canFilter n ide (if ide then f.id % 2 ^ 29 else f.id % 2048)
      let c0 : CanChan := { c with sender := false, rxSof := none }
      let taken := fun t : State => t.outputs = (if c.mode ≤ 2 then .canAck n :: s.outputs else s.outputs) ∧ (s.counting n = false → t.canRec n = s.canRec n ∧ t.canSt n = s.canSt n) ∧ (s.counting n = true → t.canTec n = s.canTec n ∧ (s.canRec n ≤ 127 → t.canRec n = s.canRec n - 1) ∧ (127 < s.canRec n → 119 ≤ t.canRec n ∧ t.canRec n ≤ 127) ∧ (s.canTec n < 128 → t.canSt n = 2)) ∧ others t ∧ s.onlyRegs t [CAN_ERR n, CAN_STATUS n, CAN_CNT n 0, CAN_CNT n 1, CAN_CNT n 2, CAN_CNT n 13, CAN_RXQ_STATUS n] ∧ t = { s with regs := t.regs, flt := t.flt, outputs := t.outputs, free := t.free, can := t.can }
      (s.canPart n = false ∨ c.mode = 4 → Gives (.canFrameReceived n f) s (fun t => t = s)) ∧
      (s.canPart n = true → c.mode ≠ 4 → off → s.fldB (CAN_CTL n) CAN_CTL_pex = false → Gives (.canFrameReceived n f) s (fun t => t.chan n = c0 ∧ others t ∧ t = { s with can := t.can })) ∧
      (s.canPart n = true → c.mode ≠ 4 → off → s.fldB (CAN_CTL n) CAN_CTL_pex = true → Gives (.canFrameReceived n f) s (fun t => s.counts t (CAN_CNT n 17) ∧
        t.chan n = c0 ∧ others t ∧ s.onlyRegs t [CAN_CNT n 17] ∧ t = { s with regs := t.regs, can := t.can })) ∧
      (s.canPart n = true → c.mode ≠ 4 → ¬ off → hit = none → Gives (.canFrameReceived n f) s (fun t => taken t ∧ t.chan n = c0 ∧ s.counts t (CAN_CNT n 2) ∧
        t.rd (CAN_CNT n 0) = s.rd (CAN_CNT n 0))) ∧
      (∀ (q : Nat) (elem : Option Nat), s.canPart n = true → c.mode ≠ 4 → ¬ off → hit = some (q, elem) →
        let queue := if q = 0 then c.rxq0 else c.rxq1
        let r := canRecord f n q (c.rxSof.getD (s.tide - BitVec.ofNat 64 f.age).toNat) elem
        let e : CanEntry := { no := c.nextNo, record := r }
        let lost := if q = 0 then CAN_RXQ_STATUS_q0_lost else CAN_RXQ_STATUS_q1_lost
        (queue.length < 64 → c.rxBlocks + recBlocks r ≤ 256 → Gives (.canFrameReceived n f) s (fun t => taken t ∧ t.rd (CAN_CNT n 0) = s.rd (CAN_CNT n 0) + 1 ∧
          t.rd (CAN_CNT n 1) = s.rd (CAN_CNT n 1) ∧
          t.chan n = (if q = 0 then { c0 with rxq0 := c.rxq0 ++ [e], nextNo := c.nextNo + 1 } else { c0 with rxq1 := c.rxq1 ++ [e], nextNo := c.nextNo + 1 }))) ∧
        (64 ≤ queue.length ∨ 256 < c.rxBlocks + recBlocks r → Gives (.canFrameReceived n f) s (fun t => taken t ∧ t.chan n = c0 ∧ s.counts t (CAN_CNT n 1) ∧
          t.fld (CAN_RXQ_STATUS n) lost = 1 ∧ t.rd (CAN_CNT n 0) = s.rd (CAN_CNT n 0))))) ∧
    (∀ (m : Master) (v : Word), s.writable m (CAN_FLT_DATA1 n) →
      let i := s.fld (CAN_FLT_ADDR n) CAN_FLT_ADDR_index
      Gives (.filterElementWrite m n v) s (fun t =>
        t.chan n = { c with flt := (t.chan n).flt } ∧ (t.chan n).fltWord i 0 = c.fltStaged.toNat ∧ (t.chan n).fltWord i 1 = (v &&& 0xDFFFFFFF#32).toNat ∧
        (∀ k, k ≠ 2 * i → k ≠ 2 * i + 1 → tget 0 (t.chan n).flt k = tget 0 c.flt k) ∧ others t ∧
        t.fld (CAN_FLT_ADDR n) CAN_FLT_ADDR_index = (i + 1) % 512 ∧ s.onlyRegs t [CAN_FLT_ADDR n] ∧ t = { s.seen m with regs := t.regs, can := t.can })) ∧
    (∀ (m : Master) (v : Word), s.writable m (CAN_RXQ_ACK n) →
      (s.fldB (CAN_CTL n) CAN_CTL_rxq_mode = true → Gives (.rxqAck m n v) s (fun t =>
        t.chan n = { c with rxq0 := if v.toNat.testBit 0 then c.rxq0.tail else c.rxq0, rxq1 := if v.toNat.testBit 1 then c.rxq1.tail else c.rxq1 } ∧
        others t ∧ t = { s.seen m with can := t.can })) ∧
      (s.fldB (CAN_CTL n) CAN_CTL_rxq_mode = false → Gives (.rxqAck m n v) s (fun t => t = s.seen m))) ∧
    (s.aggNext true s.can.rr0 = none → s.aggNext false s.can.rr1 = none → Gives .aggregatorHandoff s (fun t => t = s)) ∧
    (∀ (q : Bool) (e : CanEntry), (q = true → s.aggNext true s.can.rr0 = none) → s.aggNext (!q) (if q then s.can.rr1 else s.can.rr0) = some (n.val, e) →
      let turns := fun t : State => t.can.rr0 = (if q then s.can.rr0 else (n.val + 1) % 24) ∧ t.can.rr1 = (if q then (n.val + 1) % 24 else s.can.rr1)
      let marked : CanChan := { c with rxq0 := markTaken c.rxq0 e.no, rxq1 := markTaken c.rxq1 e.no }
      (s.canBinding n e.record = none → Gives .aggregatorHandoff s (fun t => turns t ∧ others t ∧ s.counts t (CAN_CNT n 3) ∧
        t.chan n = { c with rxq0 := c.rxq0.filter (fun x => x.no != e.no), rxq1 := c.rxq1.filter (fun x => x.no != e.no) } ∧
        s.onlyRegs t [CAN_CNT n 3] ∧ t = { s with regs := t.regs, flt := t.flt, can := t.can })) ∧
      (∀ w : Nat, s.canBinding n e.record = some w →
        let foreign := bit 11 w = true ∧ bits 16 12 w ≠ n.val
        let data := if foreign then recSet e.record 0 (withBit (recWord e.record 0) 13 true) else e.record
        let tc := s.fld (CAN_AGG_CFG n) (if q then CAN_AGG_CFG_tc_q1 else CAN_AGG_CFG_tc_q0)
        let k := qIndex 30 28 tc
        (s.pol (s.fld (TMG_PORT_CLS 30) TMG_PORT_CLS_pol)).en = false → s.roomFor 30 28 tc 0 → s.tooManyCells { input := 30, data := data } = false →
        Gives .aggregatorHandoff s (fun t => turns t ∧ others t ∧ t.chan n = marked ∧ t.queue k = s.queue k ++ [s.sw.nextId] ∧
          (foreign → s.counts t (CAN_CNT n 4) ∧ t.fld (CAN_STATUS n) CAN_STATUS_owner_err = 1) ∧
          t.frame s.sw.nextId = some { input := 30, kind := .canRecord, data := data, routine := some (bits 10 1 w, bits 31 17 w), tc := tc, canEntry := some (n.val, e.no), ts := leNat (slice 8 8 e.record), id := s.sw.nextId, bank := homeBank 30, berm := some k, cells := cellsOf data.length, complete := true, arrive := s.elapsed, done := s.elapsed, dest := [28], residue := [28] } ∧
          (∀ id, id ≠ s.sw.nextId → t.frame id = s.frame id) ∧ (∀ j, j ≠ k → t.queue j = s.queue j) ∧
          s.onlyRegs t (CAN_CNT n 4 :: CAN_STATUS n :: spillRegs) ∧ t = { s with regs := t.regs, flt := t.flt, can := t.can, sw := t.sw, tm := t.tm }))) ∧
    (∀ (e : CanEntry) (w : Nat), s.aggNext true s.can.rr0 = some (n.val, e) → s.canBinding n e.record = some w →
      Gives .aggregatorHandoff s (fun t => t.can.rr0 = (n.val + 1) % 24 ∧ (∀ x ∈ (t.chan n).entries, x.no = e.no → x.taken = true) ∧ others t ∧ s.keeps t))

/-- The transmit side (R201 to R207), where no safe-state record of the channel waits. A record that fails the checks is refused and counted with tx_refused; one that passes replaces an entry of its identifier where it asks for that, is dropped and counted where the pool is full, and else enters the backlog behind every entry whose key is not higher; a full backlog takes it in place of its last entry where its key is lower. The backlog's head loads the lowest empty buffer; in identifier order, a full set of buffers gives back the highest key that has not started. The frame that the channel sends leaves the bus sent, with TX_OK, its start-of-frame time and its own error state in it, or received by the channel itself in loopback; lost in arbitration, it stays unless dar is set; failed, it stays unless it was cancelled or dar is set. A collision after the point of no return is noted and counted; the third in a row marks collide_fault with 0x0908 and ends the frame where coll_stop is set. A cancel before the point of no return ends with TX_CANCELLED, on the bus by withdrawing the frame; a later one is only marked. A flush cancels the three buffers and empties the backlog. A waiting safe-state record takes TXB0 once it is empty. -/
def Obligations.CanTransmission : Prop :=
  ∀ (s : State) (n : Fin 24),
    let c := s.chan n
    let quiet := s.wrd.safeCan.find? (fun e => e.1 == n.val) = none
    let others := fun t : State => ∀ k, k ≠ n.val → t.chan k = s.chan k
    let result := fun (t : State) (b r : Nat) => (t.chan n).loaded b = false ∧ t.fld (CAN_TXB_STATUS n b) CAN_TXB_STATUS_result = r ∧ ∀ k, k ≠ b → (t.chan n).buf k = c.buf k
    let took := fun (base : State) (r : List Byte) (t : State) =>
      let p := s.padRecord n r
      let same : List Byte → Bool := fun w => recIdBits w == recIdBits p && recIde w == recIde p && recFmt w == recFmt p
      let swap := recReplace p = true ∧ c.backlog.any same = true
      let fits := c.txBlocks + recBlocks p ≤ 256
      let evict := ∃ w ∈ c.backlog.getLast?, recKey p < recKey w
      let drops := (s.counts t (CAN_CNT n 8) ∧ t.chan n = c)
      (s.txOk n r = false → s.counts t (CAN_CNT n 10) ∧ t.fld (CAN_STATUS n) CAN_STATUS_tx_refused = 1 ∧ t.chan n = c ∧ s.onlyRegs t [CAN_CNT n 10, CAN_STATUS n]) ∧
      (s.txOk n r = true → s.onlyRegs t [CAN_CNT n 8, CAN_CNT n 9] ∧
        (swap → t.chan n = { c with backlog := c.backlog.modify (c.backlog.findIdx same) (fun _ => p) }) ∧ (¬ swap → ¬ fits → drops) ∧
        (¬ swap → fits → c.backlog.length < 64 → t.chan n = { c with backlog := keyInsert c.backlog p } ∧ t.regs = s.regs) ∧
        (¬ swap → fits → 64 ≤ c.backlog.length → evict → s.counts t (CAN_CNT n 9) ∧ t.chan n = { c with backlog := keyInsert c.backlog.dropLast p }) ∧
        (¬ swap → fits → 64 ≤ c.backlog.length → ¬ evict → drops)) ∧
      others t ∧ t = { base with regs := t.regs, flt := t.flt, can := t.can }
    (s.stagedAt 30 = [] → Gives .aggregatorTxRecord s (fun t => t = s)) ∧
    (∀ (f : Frame) (rest : List Frame), s.stagedAt 30 = f :: rest →
      let base : State := { s with sw := { s.sw with staged := tset [] s.sw.staged 30 rest } }
      (24 ≤ recChannel f.data → Gives .aggregatorTxRecord s (fun t => t = { base with flt := t.flt })) ∧
      (recChannel f.data = n → Gives .aggregatorTxRecord s (fun t => took base f.data t))) ∧
    (∀ (m : Master) (v : Word), s.writable m (CAN_TXR_CMD n) →
      (recLen (s.txrRecord n) ≤ 64 → Gives (.submit m n v) s (fun t => took (s.seen m) (s.txrRecord n) t)) ∧
      (64 < recLen (s.txrRecord n) → Gives (.submit m n v) s (fun t => s.counts t (CAN_CNT n 10) ∧ t.fld (CAN_STATUS n) CAN_STATUS_tx_refused = 1 ∧
        s.onlyRegs t [CAN_CNT n 10, CAN_STATUS n] ∧ t = { s.seen m with regs := t.regs, flt := t.flt }))) ∧
    (c.backlog = [] → Gives (.backlogToBuffer n) s (fun t => t = s)) ∧
    (∀ (h : List Byte) (rest : List (List Byte)), c.backlog = h :: rest →
      let loads := fun (t : State) (b : Nat) (left : List (List Byte)) => (t.chan n).backlog = left ∧ (t.chan n).buf b = h ∧ (∀ k, k ≠ b → (t.chan n).buf k = c.buf k) ∧ t.chan n = { c with backlog := left, bufs := (t.chan n).bufs, lateCancel := c.lateCancel.filter (· != b), onBus := if c.onBus = some b then none else c.onBus } ∧ others t ∧ t.fld (CAN_TXB_STATUS n b) CAN_TXB_STATUS_coll_run = 0 ∧ (t.rd (CAN_TXB_ID n b)).toNat % 2 ^ 29 = recIdBits h ∧ s.onlyRegs t [CAN_TXB_STATUS n b, CAN_TXB_ID n b] ∧ t = { s with regs := t.regs, can := t.can }
      (∀ b : Fin 3, (∀ k < b.val, c.loaded k = true) → c.loaded b = false → Gives (.backlogToBuffer n) s (fun t => loads t b rest)) ∧
      (∀ b : Fin 3, (∀ k < 3, c.loaded k = true) → c.onBus ≠ some b.val → (∀ k < 3, k ≠ b.val → c.onBus ≠ some k → recKey (c.buf k) < recKey (c.buf b)) →
        s.fldB (CAN_CTL n) CAN_CTL_tx_order = false → recKey h < recKey (c.buf b) →
        Gives (.backlogToBuffer n) s (fun t => loads t b (keyInsert rest (c.buf b)))) ∧
      ((∀ k < 3, c.loaded k = true) → s.fldB (CAN_CTL n) CAN_CTL_tx_order = true ∨ (∀ k < 3, c.onBus ≠ some k → recKey (c.buf k) ≤ recKey h) →
        Gives (.backlogToBuffer n) s (fun t => t = s))) ∧
    (quiet → c.onBus = none → ∀ o : TxOutcome, Gives (.canTxEnd n o) s (fun t => t = s)) ∧
    (∀ b : Fin 3, quiet → c.onBus = some b.val →
      let sent := fun t : State => result t b 1 ∧ (t.chan n).onBus = none ∧ (t.chan n).backlog = c.backlog ∧ t.rd64 (CAN_TXB_TS_LO n b) (CAN_TXB_TS_HI n b) = c.sof % 2 ^ 64 ∧ t.rd (CAN_CNT n 5) = s.rd (CAN_CNT n 5) + 1 ∧ (s.counting n = true → s.canTec n < 256 → t.canTec n = s.canTec n - 1) ∧ others t
      let only := fun (t : State) (l : List Nat) => others t ∧ s.onlyRegs t l ∧ t = { s with regs := t.regs, can := t.can }
      (c.mode ≠ 4 → Gives (.canTxEnd n .done) s (fun t => sent t ∧ t.outputs = .canFrame n (s.ownEsi n (c.buf b)) :: s.outputs ∧
        (t.chan n).rxq0 = c.rxq0 ∧ (t.chan n).rxq1 = c.rxq1 ∧
        s.onlyRegs t [CAN_TXB_STATUS n b, CAN_TXB_TS_LO n b, CAN_TXB_TS_HI n b, CAN_CNT n 5, CAN_ERR n, CAN_STATUS n, CAN_CNT n 13] ∧
        t = { s with regs := t.regs, flt := t.flt, outputs := t.outputs, can := t.can })) ∧
      (c.mode = 4 → Gives (.canTxEnd n .done) s (fun t => sent t ∧ t.outputs = s.outputs ∧ t = { s with regs := t.regs, flt := t.flt, can := t.can })) ∧
      (s.fldB (CAN_CTL n) CAN_CTL_dar = false → Gives (.canTxEnd n .lostArbitration) s (fun t => t.chan n = { c with onBus := none, sender := false, rxSof := some c.sof } ∧ only t [])) ∧
      (s.fldB (CAN_CTL n) CAN_CTL_dar = true → Gives (.canTxEnd n .lostArbitration) s (fun t => result t b 4 ∧ (t.chan n).onBus = none ∧ (t.chan n).sender = false ∧ (t.chan n).rxSof = some c.sof ∧
        only t [CAN_TXB_STATUS n b])) ∧
      (c.lateCancel.contains b.val = true → Gives (.canTxEnd n .failed) s (fun t => result t b 2 ∧ (t.chan n).onBus = none ∧ s.counts t (CAN_CNT n 6) ∧
        only t [CAN_TXB_STATUS n b, CAN_CNT n 6])) ∧
      (c.lateCancel.contains b.val = false → s.fldB (CAN_CTL n) CAN_CTL_dar = true → Gives (.canTxEnd n .failed) s (fun t => result t b 4 ∧ (t.chan n).onBus = none ∧
        only t [CAN_TXB_STATUS n b])) ∧
      (c.lateCancel.contains b.val = false → s.fldB (CAN_CTL n) CAN_CTL_dar = false → Gives (.canTxEnd n .failed) s (fun t => t.chan n = { c with onBus := none } ∧ only t []))) ∧
    (∀ d : Bool, quiet → c.onBus = none ∨ c.mode = 4 ∨ (∃ b ∈ c.onBus, s.pastP n b = false) → Gives (.identifierCollision n d) s (fun t => t = s)) ∧
    (∀ (b : Fin 3) (d : Bool), quiet → c.onBus = some b.val → c.mode ≠ 4 → s.pastP n b = true → s.canTec n < 248 →
      let third := s.collRun n b = 2
      let late := c.lateCancel.contains b.val
      let stops := third ∧ s.fldB (CAN_CTL n) CAN_CTL_coll_stop = true ∧ late = false
      let dar := s.fldB (CAN_CTL n) CAN_CTL_dar
      Gives (.identifierCollision n d) s (fun t => (t.chan n).onBus = none ∧ s.counts t (CAN_CNT n 11) ∧ t.fld (CAN_ERR n) CAN_ERR_last_err = 4 ∧
        t.fld (CAN_ERR n) CAN_ERR_last_err_data = boolNat d ∧ (third → t.fld (CAN_STATUS n) CAN_STATUS_collide_fault = 1 ∧ s.tells t 3 0x0908 4 n) ∧
        (s.signals n (recFmt (c.buf b) == 2) d = true → t.canTec n = s.canTec n + 8 ∧ t.outputs = .canError n :: s.outputs) ∧
        (s.signals n (recFmt (c.buf b) == 2) d = false → t.canTec n = s.canTec n ∧ t.outputs = s.outputs) ∧
        (stops → result t b 3) ∧ (late = true → result t b 2 ∧ s.counts t (CAN_CNT n 6)) ∧ (late = false → ¬ stops → dar = true → result t b 4) ∧
        (late = false → ¬ stops → dar = false → t.chan n = { c with onBus := none } ∧ t.fld (CAN_TXB_STATUS n b) CAN_TXB_STATUS_coll_run = min 3 (s.collRun n b + 1)) ∧
        others t ∧ s.onlyRegs t [CAN_ERR n, CAN_STATUS n, CAN_TXB_STATUS n b, CAN_CNT n 6, CAN_CNT n 11, CAN_CNT n 13, CAN_CNT n 15] ∧
        t = { s with regs := t.regs, flt := t.flt, outputs := t.outputs, can := t.can })) ∧
    (∀ (m : Master) (b : Fin 3) (v : Word), s.writable m (CAN_TXB_CMD n b) → quiet →
      let ended := fun t : State => result t b 2 ∧ t.fld (CAN_TXB_STATUS n b) CAN_TXB_STATUS_coll_run = 0 ∧ s.counts t (CAN_CNT n 6) ∧ (t.chan n).backlog = c.backlog ∧ (t.chan n).onBus = (if c.onBus = some b.val then none else c.onBus) ∧ others t ∧ s.onlyRegs t [CAN_TXB_STATUS n b, CAN_CNT n 6] ∧ t = { s.seen m with regs := t.regs, outputs := t.outputs, can := t.can }
      (c.loaded b = false → Gives (.cancel m n b v) s (fun t => t = s.seen m)) ∧
      (c.loaded b = true → c.onBus ≠ some b.val → Gives (.cancel m n b v) s (fun t => ended t ∧ t.outputs = s.outputs)) ∧
      (c.loaded b = true → c.onBus = some b.val → s.pastP n b = false → Gives (.cancel m n b v) s (fun t => ended t ∧ (t.chan n).sender = false ∧ (t.chan n).rxSof = some c.sof ∧
        t.outputs = .canWithdrawn n :: s.outputs)) ∧
      (c.loaded b = true → s.pastP n b = true → Gives (.cancel m n b v) s (fun t => t.chan n = { c with lateCancel := b.val :: c.lateCancel.filter (· != b.val) } ∧
        t.fld (CAN_TXB_STATUS n b) CAN_TXB_STATUS_cancel_late = 1 ∧ s.counts t (CAN_CNT n 7) ∧ others t ∧
        s.onlyRegs t [CAN_TXB_STATUS n b, CAN_CNT n 7] ∧ t = { s.seen m with regs := t.regs, can := t.can }))) ∧
    (∀ (m : Master) (v : Word), s.writable m (CAN_TX_CTL n) → quiet →
      Gives (.flush m n v) s (fun t => (t.chan n).backlog = [] ∧ (t.rd (CAN_CNT n 18)).toNat = min ((s.rd (CAN_CNT n 18)).toNat + c.backlog.length) (2 ^ 32 - 1) ∧
        (∀ b < 3, c.loaded b = true → s.pastP n b = false → (t.chan n).loaded b = false ∧ t.fld (CAN_TXB_STATUS n b) CAN_TXB_STATUS_result = 2) ∧
        (∀ b < 3, s.pastP n b = true → c.loaded b = true → (t.chan n).buf b = c.buf b ∧ b ∈ (t.chan n).lateCancel ∧ t.fld (CAN_TXB_STATUS n b) CAN_TXB_STATUS_cancel_late = 1) ∧
        (t.chan n).rxq0 = c.rxq0 ∧ (t.chan n).rxq1 = c.rxq1 ∧ others t ∧
        s.onlyRegs t [CAN_TXB_STATUS n 0, CAN_TXB_STATUS n 1, CAN_TXB_STATUS n 2, CAN_CNT n 6, CAN_CNT n 7, CAN_CNT n 18] ∧
        t = { s.seen m with regs := t.regs, outputs := t.outputs, can := t.can })) ∧
    (∀ r : List Byte, s.wrd.safeCan.find? (fun e => e.1 == n.val) = some (n.val, r) → c.onBus = none → c.loaded 0 = false →
      Gives (.canTxEnd n .done) s (fun t => (t.chan n).buf 0 = r ∧ t.wrd.safeCan = s.wrd.safeCan.filter (fun e => e.1 != n.val) ∧
        (∀ k, k ≠ 0 → (t.chan n).buf k = c.buf k) ∧ others t ∧ s.onlyRegs t [CAN_TXB_STATUS n 0, CAN_TXB_ID n 0] ∧
        t = { s with regs := t.regs, can := t.can, wrd := { s.wrd with safeCan := t.wrd.safeCan } }))

/-- R251 whole: the fn values, the result of every operation of the table, the shift amount rs2[4:0], the wrapping, the two division corners, the illegal fn values and the reserved rs2 of REV and REVH. Each operation writes rd, moves pc on and costs one unit; nothing else changes. -/
def Obligations.KeeperAlu : Prop :=
  ∀ (s : State) (c : Fin 64) (iv : Invocation) (rd rs1 rs2 : Fin 32),
    let a := iv.g rs1
    let b := iv.g rs2
    let n := b.toNat % 32
    (∀ x ∈ ([(0x00, .add c rd rs1 rs2, a + b), (0x01, .sub c rd rs1 rs2, a - b), (0x02, .and c rd rs1 rs2, a &&& b),
        (0x03, .or c rd rs1 rs2, a ||| b), (0x04, .xor c rd rs1 rs2, a ^^^ b), (0x05, .sll c rd rs1 rs2, a <<< n),
        (0x06, .srl c rd rs1 rs2, a >>> n), (0x07, .sra c rd rs1 rs2, BitVec.ofInt 32 (a.toInt / 2 ^ n)),
        (0x08, .slt c rd rs1 rs2, if a.toInt < b.toInt then 1 else 0), (0x09, .sltu c rd rs1 rs2, if a.toNat < b.toNat then 1 else 0),
        (0x0A, .mul c rd rs1 rs2, a * b), (0x0B, .mulh c rd rs1 rs2, BitVec.ofInt 32 (a.toInt * b.toInt / 2 ^ 32)),
        (0x0C, .mulhu c rd rs1 rs2, BitVec.ofNat 32 (a.toNat * b.toNat / 2 ^ 32)),
        (0x0D, .div c rd rs1 rs2, if b = 0 then 0xFFFFFFFF#32 else BitVec.ofInt 32 (a.toInt.tdiv b.toInt)),
        (0x0E, .divu c rd rs1 rs2, if b = 0 then 0xFFFFFFFF#32 else BitVec.ofNat 32 (a.toNat / b.toNat)),
        (0x0F, .rem c rd rs1 rs2, if b = 0 then a else BitVec.ofInt 32 (a.toInt.tmod b.toInt)),
        (0x10, .remu c rd rs1 rs2, if b = 0 then a else BitVec.ofNat 32 (a.toNat % b.toNat)),
        (0x11, .min c rd rs1 rs2, if a.toInt < b.toInt then a else b), (0x12, .max c rd rs1 rs2, if a.toInt < b.toInt then b else a),
        (0x13, .minu c rd rs1 rs2, if a.toNat < b.toNat then a else b),
        (0x14, .maxu c rd rs1 rs2, if a.toNat < b.toNat then b else a)] : List (Nat × Instr × Word)),
      s.kReady c iv (fmtR 0x01 rd rs1 rs2 x.1) 1 → Gives x.2.1 s (fun t => s.coreTo t c (iv.after rd x.2.2 1))) ∧
    (s.kReady c iv (fmtR 0x01 rd rs1 0 0x15) 1 → Gives (.rev c rd rs1) s (fun t => s.coreTo t c (iv.after rd
      (a.extractLsb' 0 8 ++ a.extractLsb' 8 8 ++ a.extractLsb' 16 8 ++ a.extractLsb' 24 8) 1))) ∧
    (s.kReady c iv (fmtR 0x01 rd rs1 0 0x16) 1 → Gives (.revh c rd rs1) s (fun t => s.coreTo t c (iv.after rd
      ((0#16) ++ a.extractLsb' 0 8 ++ a.extractLsb' 8 8) 1))) ∧
    (∀ fn : Nat, 0x17 ≤ fn → fn < 2048 → atnDecode (fmtR 0x01 rd rs1 rs2 fn) = none) ∧
    (rs2 ≠ 0 → atnDecode (fmtR 0x01 rd rs1 rs2 0x15) = none ∧ atnDecode (fmtR 0x01 rd rs1 rs2 0x16) = none)

/-- The immediate forms of R250: each adds, masks, compares or shifts by its 16-bit or 5-bit operand, extended as its row says, writes rd, moves pc on and costs one unit. A branch whose condition holds goes to pc + 4 × sext(off16), else pc goes on by 4; J and JAL go to pc + 4 × sext(off26), JAL leaves pc + 4 in g31; JR leaves pc + 4 in rd and goes to rs1 + sext(imm16), and aborts with the alignment cause where that is no multiple of 4 (R252). A register reads back what was written, and g0 reads as zero (R239). NOP, TNOW, RND, BUDL and WHO complete for one unit with what R267 says they leave in the registers. DONE with nothing buffered, at once or after its wait, and ABANDON free the core and change no memory, register or output; a word that no instruction has aborts with the illegal cause (R249, R268, R270). -/
def Obligations.KeeperControl : Prop :=
  ∀ (s : State) (c : Fin 64) (iv : Invocation) (rd rs1 rs2 : Fin 32) (k : Fin 65536) (n : Fin 32) (o : Fin 67108864),
    let a := iv.g rs1
    let b := iv.g rs2
    let sx : Word := (BitVec.ofNat 16 k.val).signExtend 32
    let zx : Word := (BitVec.ofNat 16 k.val).zeroExtend 32
    let pc : Word := BitVec.ofNat 32 iv.pc
    let far := (pc + 4 * (BitVec.ofNat 26 o.val).signExtend 32).toNat
    let link : Word := BitVec.ofNat 32 (iv.pc + 4)
    (∀ x ∈ ([(0x02, .addi c rd rs1 k, a + sx), (0x03, .andi c rd rs1 k, a &&& zx), (0x04, .ori c rd rs1 k, a ||| zx),
        (0x05, .xori c rd rs1 k, a ^^^ zx), (0x06, .slti c rd rs1 k, if a.toInt < sx.toInt then 1 else 0),
        (0x07, .sltiu c rd rs1 k, if a.toNat < sx.toNat then 1 else 0)] : List (Nat × Instr × Word)),
      s.kReady c iv (fmtI x.1 rd rs1 k) 1 → Gives x.2.1 s (fun t => s.coreTo t c (iv.after rd x.2.2 1))) ∧
    (∀ x ∈ ([(0, .slli c rd rs1 n, a <<< n.val), (1, .srli c rd rs1 n, a >>> n.val),
        (2, .srai c rd rs1 n, BitVec.ofInt 32 (a.toInt / 2 ^ n.val))] : List (Nat × Instr × Word)),
      s.kReady c iv (fmtI 0x08 rd rs1 (x.1 * 32 + n)) 1 → Gives x.2.1 s (fun t => s.coreTo t c (iv.after rd x.2.2 1))) ∧
    (s.kReady c iv (fmtI 0x09 rd 0 k) 1 → Gives (.lui c rd k) s (fun t =>
      s.coreTo t c (iv.after rd (BitVec.ofNat 32 (k.val * 65536)) 1))) ∧
    (s.kReady c iv (fmtI 0x0A rd 0 k) 1 → Gives (.lpc c rd k) s (fun t =>
      s.coreTo t c (iv.after rd (BitVec.ofNat 32 iv.pc + sx) 1))) ∧
    (∀ (v : Word) (r : Fin 32), (iv.setG rd v).g r = if r = 0 then 0 else if r = rd then v else iv.g r) ∧
    (∀ x ∈ ([(0x13, .beq c rs1 rs2 k, decide (a = b)), (0x14, .bne c rs1 rs2 k, decide (a ≠ b)),
        (0x15, .blt c rs1 rs2 k, decide (a.toInt < b.toInt)), (0x16, .bge c rs1 rs2 k, decide (b.toInt ≤ a.toInt)),
        (0x17, .bltu c rs1 rs2 k, decide (a.toNat < b.toNat)), (0x18, .bgeu c rs1 rs2 k, decide (b.toNat ≤ a.toNat))] :
        List (Nat × Instr × Bool)),
      s.kReady c iv (fmtI x.1 rs1 rs2 k) 1 → Gives x.2.1 s (fun t => s.coreTo t c { iv with
        pc := (if x.2.2 then (pc + 4 * sx).toNat else iv.pc + 4), left := iv.left - 1 })) ∧
    (s.kReady c iv (0x19 * 2 ^ 26 + o) 1 → Gives (.j c o) s (fun t => s.coreTo t c { iv with pc := far, left := iv.left - 1 })) ∧
    (s.kReady c iv (0x1A * 2 ^ 26 + o) 1 → Gives (.jal c o) s (fun t =>
      s.coreTo t c { iv.setG 31 link with pc := far, left := iv.left - 1 })) ∧
    (s.kReady c iv (fmtI 0x1B rd rs1 k) 1 →
      ((a + sx).toNat % 4 = 0 → Gives (.jr c rd rs1 k) s (fun t =>
        s.coreTo t c { iv.setG rd link with pc := (a + sx).toNat, left := iv.left - 1 })) ∧
      ((a + sx).toNat % 4 ≠ 0 → Gives (.jr c rd rs1 k) s (fun t => s.aborts t c iv 5))) ∧
    (∀ x ∈ ([(fmtR 0x3E 0 0 0 0, .nop c, iv.after 0 0 1), (fmtR 0x3E rd 0 0 3, .budl c rd, iv.after rd (BitVec.ofNat 32 (iv.left - 1)) 1),
        (fmtR 0x3E rd 0 0 4, .who c rd, iv.after rd (BitVec.ofNat 32 (c.val + c.val / 16 * 64 + s.fabAddr * 256 + iv.ev.routine * 8192)) 1)] :
        List (Nat × Instr × Invocation)),
      s.kReady c iv x.1 1 → Gives x.2.1 s (fun t => s.coreTo t c x.2.2)) ∧
    (∀ (pair : Fin 15) (lo hi : Fin 32), lo.val = 2 * pair.val + 2 → hi.val = lo.val + 1 → s.kReady c iv (fmtR 0x3E lo 0 0 1) 1 →
      Gives (.tnow c pair) s (fun t => s.coreTo t c
        (Invocation.after (iv.setG lo (BitVec.ofNat 32 s.tide.toNat)) hi (BitVec.ofNat 32 (s.tide.toNat / 2 ^ 32)) 1))) ∧
    (s.kReady c iv (fmtR 0x3E rd 0 0 2) 1 → Gives (.rnd c rd) s (fun t => t.inv c = some (iv.after rd (Config.drbgWord s.free) 1) ∧
      (∀ j, j ≠ c.val → t.inv j = s.inv j) ∧ t = { s with free := s.free + 1, sec := t.sec, kpr := { s.kpr with run := t.kpr.run } })) ∧
    (iv.sputs = [] → iv.emits = [] → iv.timers = [] → iv.hsets = [] → s.outboundRoom c iv = true →
      let over_ := fun t : State => t.inv c = none ∧ (∀ j, j ≠ c.val → t.inv j = s.inv j) ∧ t.sw = s.sw ∧ t.bank = s.bank ∧
        t.regs = s.regs ∧ t.outputs = s.outputs ∧ s.keeps t
      (s.kReady c iv (fmtR 0x3F 0 0 0 0) 1 → Gives (.done c) s over_) ∧
      (s.inv c = some iv → iv.wait = .done → Gives (.doneWaitEnd c) s over_)) ∧
    (s.kReady c iv (fmtR 0x3F 0 0 0 1) 1 → Gives (.abandon c) s (fun t => t.inv c = none ∧ (∀ j, j ≠ c.val → t.inv j = s.inv j) ∧
      t.sw = s.sw ∧ t.bank = s.bank ∧ t.kpr.timers = s.kpr.timers ∧ t.regs = s.regs ∧ t.outputs = s.outputs ∧ s.keeps t)) ∧
    (∀ w : Nat, s.kReady c iv w 0 → atnDecode w = none → Gives (.illegalInstruction c) s (fun t => s.aborts t c iv 2))

/-- A load gives rd the bytes of the routine's view, extended as its row says; a store changes exactly its bytes; CAS and AADD read and write one word; MCPY copies as through a buffer (R240–R243, R250, R253); a store to the emit buffer window changes its bytes alone. Misaligned, outside every window, or a store where none may be, through an alias too: the invocation aborts with that cause and memory is kept. -/
def Obligations.KeeperMemory : Prop :=
  ∀ (s : State) (c : Fin 64) (iv : Invocation) (rd rs1 rs2 : Fin 32) (k : Fin 65536) (p : KPlace),
    let r := iv.ev.routine
    let a := (iv.g rs1 + (BitVec.ofNat 16 k.val).signExtend 32).toNat
    let v := iv.g rs2
    let num := fun n => leNat (s.kBytes c iv p n)
    let go : Invocation := { iv with pc := iv.pc + 4, left := iv.left - 1 }
    (∀ x ∈ ([(0x0B, .lw c rd rs1 k, 4, BitVec.ofNat 32 (num 4)), (0x0C, .lh c rd rs1 k, 2, (BitVec.ofNat 16 (num 2)).signExtend 32),
        (0x0D, .lhu c rd rs1 k, 2, BitVec.ofNat 32 (num 2)), (0x0E, .lb c rd rs1 k, 1, (BitVec.ofNat 8 (num 1)).signExtend 32),
        (0x0F, .lbu c rd rs1 k, 1, BitVec.ofNat 32 (num 1))] : List (Nat × Instr × Nat × Word)),
      s.kReady c iv (fmtI x.1 rd rs1 k) 1 →
        (a % x.2.2.1 = 0 → s.range r a x.2.2.1 = some p → Gives x.2.1 s (fun t => s.coreTo t c (iv.after rd x.2.2.2 1))) ∧
        (a % x.2.2.1 = 0 → s.range r a x.2.2.1 = none → Gives x.2.1 s (fun t => s.aborts t c iv 3)) ∧
        (a % x.2.2.1 ≠ 0 → Gives x.2.1 s (fun t => s.aborts t c iv 5))) ∧
    (∀ x ∈ ([(0x10, .sw c rs2 rs1 k, 4), (0x11, .sh c rs2 rs1 k, 2), (0x12, .sb c rs2 rs1 k, 1)] : List (Nat × Instr × Nat)),
      s.kReady c iv (fmtI x.1 rs2 rs1 k) 1 →
        (a % x.2.2 = 0 → s.range r a x.2.2 = some p → p.alia = .plain → p.win = .priv ∨ p.win = .shared →
          Gives x.2.1 s (fun t => s.coreStores t c go (s.kAddr c r p) (leBytes x.2.2 v.toNat))) ∧
        (a % x.2.2 = 0 → s.range r a x.2.2 = some p → p.alia = .plain → p.win = .emit →
          Gives x.2.1 s (fun t => s.coreEmits t c go p.off (leBytes x.2.2 v.toNat))) ∧
        (a % x.2.2 = 0 → s.range r a x.2.2 = some p →
          p.win = .code ∨ p.win = .frame ∨ (p.alia ≠ .plain ∧ (x.2.2 ≠ 4 ∨ p.win = .emit)) →
          Gives x.2.1 s (fun t => s.aborts t c iv 4)) ∧
        (a % x.2.2 = 0 → s.range r a x.2.2 = none → Gives x.2.1 s (fun t => s.aborts t c iv 3)) ∧
        (a % x.2.2 ≠ 0 → Gives x.2.1 s (fun t => s.aborts t c iv 5))) ∧
    (s.kReady c iv (fmtI 0x10 rs2 rs1 k) 1 → a % 4 = 0 → s.range r a 4 = some p → p.win = .priv ∨ p.win = .shared →
      let old : Word := BitVec.ofNat 32 (num 4)
      (p.alia = .set → Gives (.sw c rs2 rs1 k) s (fun t => s.coreStores t c go (s.kAddr c r p) (leBytes 4 (old ||| v).toNat))) ∧
      (p.alia = .clear → Gives (.sw c rs2 rs1 k) s (fun t => s.coreStores t c go (s.kAddr c r p) (leBytes 4 (old &&& ~~~v).toNat)))) ∧
    (∀ old : Word, old = BitVec.ofNat 32 (num 4) → s.atomAt r (iv.g rs1).toNat = .ok p →
      (s.kReady c iv (fmtR 0x1C rd rs1 rs2 0) 2 → Gives (.cas c rd rs1 rs2) s (fun t =>
        s.coreStores t c (iv.after rd old 2) (s.kAddr c r p) (if old = iv.g rd then leBytes 4 v.toNat else s.kBytes c iv p 4))) ∧
      (s.kReady c iv (fmtR 0x1C rd rs1 rs2 1) 2 → Gives (.aadd c rd rs1 rs2) s (fun t =>
        s.coreStores t c (iv.after rd old 2) (s.kAddr c r p) (leBytes 4 (old + v).toNat)))) ∧
    (∀ e : Nat, s.atomAt r (iv.g rs1).toNat = .error e →
      (s.kReady c iv (fmtR 0x1C rd rs1 rs2 0) 2 → Gives (.cas c rd rs1 rs2) s (fun t => s.aborts t c iv e)) ∧
      (s.kReady c iv (fmtR 0x1C rd rs1 rs2 1) 2 → Gives (.aadd c rd rs1 rs2) s (fun t => s.aborts t c iv e))) ∧
    (s.kReady c iv (fmtR 0x1D rd rs1 rs2 0) (1 + (v.toNat + 31) / 32) →
      (∀ q : KPlace, 0 < v.toNat → v.toNat ≤ 16384 → s.range r (iv.g rs1).toNat v.toNat = some q →
        s.storeAtK r (iv.g rd).toNat v.toNat 1 false = .ok p → p.win = .priv ∨ p.win = .shared →
        Gives (.mcpy c rd rs1 rs2) s (fun t => s.coreStores t c { go with left := iv.left - (1 + (v.toNat + 31) / 32) }
          (s.kAddr c r p) (s.kBytes c iv q v.toNat))) ∧
      (∀ q : KPlace, 0 < v.toNat → v.toNat ≤ 16384 → s.range r (iv.g rs1).toNat v.toNat = some q →
        s.storeAtK r (iv.g rd).toNat v.toNat 1 false = .ok p → p.win = .emit →
        Gives (.mcpy c rd rs1 rs2) s (fun t => s.coreEmits t c { go with left := iv.left - (1 + (v.toNat + 31) / 32) }
          p.off (s.kBytes c iv q v.toNat))) ∧
      (∀ e : Nat, 0 < v.toNat → v.toNat ≤ 16384 → s.storeAtK r (iv.g rd).toNat v.toNat 1 false = .error e →
        Gives (.mcpy c rd rs1 rs2) s (fun t =>
          s.aborts t c iv (if s.range r (iv.g rs1).toNat v.toNat = none then 3 else e))) ∧
      (0 < v.toNat → v.toNat ≤ 16384 → s.range r (iv.g rs1).toNat v.toNat = none →
        Gives (.mcpy c rd rs1 rs2) s (fun t => s.aborts t c iv 3)) ∧
      (v.toNat = 0 → Gives (.mcpy c rd rs1 rs2) s (fun t => s.coreTo t c go)) ∧
      (16384 < v.toNat → Gives (.mcpy c rd rs1 rs2) s (fun t => s.aborts t c iv 3)))

/-- BFX collects, and BFI sets, exactly the memory bits of R254, in both orders; CRC runs the step of R255 over the bytes, and gives its seven check values; SCX and the other three conversions of R256 and R257 take their parameters from the three words at rs2. Each aborts with the cause of the range that it may not read or write, CRC with a range beyond 9,216 bytes too. -/
def Obligations.KeeperFields : Prop :=
  ∀ (s : State) (c : Fin 64) (iv : Invocation) (rd rs1 rs2 : Fin 32) (start : Fin 512) (len1 : Fin 32) (be sign : Bool),
    let r := iv.ev.routine
    let base := (iv.g rs1).toNat
    let bs := fieldBits start (len1 + 1) be
    let go : Invocation := { iv with pc := iv.pc + 4, left := iv.left - 1 }
    (bs.length = len1.val + 1 ∧ (be = false → ∀ j ≤ len1.val, bs.getD j 0 = start + j) ∧
      (be = true → bs.getD len1 0 = start ∧ ∀ j < len1.val, bs.getD j 0 =
        (if bs.getD (j + 1) 0 % 8 = 0 then bs.getD (j + 1) 0 + 15 else bs.getD (j + 1) 0 - 1))) ∧
    (s.kReady c iv (fmtI 0x20 rd rs1 (start.val * 128 + len1.val * 4 + boolNat be * 2 + boolNat sign)) 1 →
      s.byteFault r base false (fieldBytes bs) = none →
      Gives (.bfx c rd rs1 start len1 be sign) s (fun t => ∃ v : Word, s.coreTo t c (iv.after rd v 1) ∧
        ∀ j < 32, v.toNat.testBit j = (if j ≤ len1.val ∨ sign = true then
          (s.viewByte c iv (addr32 base (bs.getD (min j len1) 0 / 8))).toNat.testBit (bs.getD (min j len1) 0 % 8) else false))) ∧
    (∀ e : Nat, s.kReady c iv (fmtI 0x20 rd rs1 (start.val * 128 + len1.val * 4 + boolNat be * 2 + boolNat sign)) 1 →
      s.byteFault r base false (fieldBytes bs) = some e → Gives (.bfx c rd rs1 start len1 be sign) s (fun t => s.aborts t c iv e)) ∧
    (∀ e : Nat, s.kReady c iv (fmtI 0x21 rs2 rs1 (start.val * 128 + len1.val * 4 + boolNat be * 2)) 1 →
      s.byteFault r base true (fieldBytes bs) = some e → Gives (.bfi c rs2 rs1 start len1 be) s (fun t => s.aborts t c iv e)) ∧
    (∀ w : KWin, w = .priv ∨ w = .shared ∨ w = .emit →
      s.kReady c iv (fmtI 0x21 rs2 rs1 (start.val * 128 + len1.val * 4 + boolNat be * 2)) 1 →
      (∀ o ∈ fieldBytes bs, ∃ p, s.place r (addr32 base o) = some p ∧ p.win = w ∧ p.alia = .plain) →
      Gives (.bfi c rs2 rs1 start len1 be) s (fun t => t.inv c = some go ∧ (∀ k, k ≠ c.val → t.inv k = s.inv k) ∧
        t = { s with mem := t.mem, kpr := { s.kpr with run := t.kpr.run, emitBuf := t.kpr.emitBuf } } ∧
        (w = .emit → t.mem = s.mem) ∧ (w ≠ .emit → t.kpr.emitBuf = s.kpr.emitBuf) ∧
        (∀ x, (∀ o ∈ fieldBytes bs, ∀ p, s.place r (addr32 base o) = some p → 16384 * c.val + p.off ≠ x) →
          tget 0 t.kpr.emitBuf x = tget 0 s.kpr.emitBuf x) ∧
        (∀ j ≤ len1.val, (t.viewByte c iv (addr32 base (bs.getD j 0 / 8))).toNat.testBit (bs.getD j 0 % 8) =
          (iv.g rs2).toNat.testBit j) ∧
        (∀ o ∈ fieldBytes bs, ∀ i < 8, 8 * o + i ∉ bs → (t.viewByte c iv (addr32 base o)).toNat.testBit i =
          (s.viewByte c iv (addr32 base o)).toNat.testBit i) ∧
        (∀ x, (∀ o ∈ fieldBytes bs, ∀ p, s.place r (addr32 base o) = some p → s.kAddr c r p ≠ x) → t.mb x = s.mb x))) ∧
    (∀ sel : Fin 7, s.kReady c iv (fmtR 0x22 rd rs1 rs2 sel) (1 + ((iv.g rs2).toNat + 15) / 16) →
      ((iv.g rs2).toNat ≤ 9216 → s.readable r base (iv.g rs2).toNat = true →
        Gives (.crc c rd rs1 rs2 sel) s (fun t => s.coreTo t c (iv.after rd (BitVec.ofNat 32 ((s.viewBytes c iv base
          (iv.g rs2).toNat).foldl (crcStep sel) ((iv.g rd).toNat % 2 ^ (crcParams sel).1))) (1 + ((iv.g rs2).toNat + 15) / 16)))) ∧
      (9216 < (iv.g rs2).toNat ∨ s.readable r base (iv.g rs2).toNat = false →
        Gives (.crc c rd rs1 rs2 sel) s (fun t => s.aborts t c iv 3))) ∧
    (∀ x ∈ ([(0, 0xFF, 0xFF, 0x4B), (1, 0xFF, 0xFF, 0xDF), (2, 0xFFFF, 0, 0x29B1), (3, 0, 0, 0xBB3D),
        (4, 0xFFFFFFFF, 0xFFFFFFFF, 0xCBF43926), (5, 0xFFFFFFFF, 0xFFFFFFFF, 0xE3069283),
        (6, 0xFFFFFFFF, 0xFFFFFFFF, 0x1697D06A)] : List (Nat × Nat × Nat × Nat)),
      Nat.xor (crcRun x.1 x.2.1 ([0x31, 0x32, 0x33, 0x34, 0x35, 0x36, 0x37, 0x38, 0x39] : List Byte)) x.2.2.1 = x.2.2.2) ∧
    (∀ e : Nat, s.loadAt r (iv.g rs2).toNat 12 4 = .error e →
      ∀ x ∈ ([(0, .scx c rd rs1 rs2 sign len1), (1, .scf c rd rs1 rs2 sign len1), (2, .usx c rd rs1 rs2 sign len1),
          (3, .ufs c rd rs1 rs2 sign len1)] : List (Nat × Instr)),
        s.kReady c iv (fmtR 0x23 rd rs1 rs2 (x.1 + boolNat sign * 4 + len1.val * 8)) 2 → Gives x.2 s (fun t => s.aborts t c iv e)) ∧
    (∀ (p : KPlace) (p0 p1 p2 : Nat), s.loadAt r (iv.g rs2).toNat 12 4 = .ok p →
      p0 = leNat (slice 0 4 (s.kBytes c iv p 12)) → p1 = leNat (slice 4 4 (s.kBytes c iv p 12)) →
      p2 = leNat (slice 8 4 (s.kBytes c iv p 12)) →
      let raw : Int := if sign then signed (len1 + 1) (iv.g rs1).toNat else ((iv.g rs1).toNat % 2 ^ (len1.val + 1) : Nat)
      let w := fun op : Nat => fmtR 0x23 rd rs1 rs2 (op + boolNat sign * 4 + len1.val * 8)
      (s.kReady c iv (w 0) 2 → Gives (.scx c rd rs1 rs2 sign len1) s (fun t => s.coreTo t c (iv.after rd (BitVec.ofInt 32
        (max (-2 ^ 31) (min (2 ^ 31 - 1) (raw * signed 32 p0 / 2 ^ (p2 % 32) + signed 32 p1)))) 2))) ∧
      (s.kReady c iv (w 1) 2 → Gives (.scf c rd rs1 rs2 sign len1) s (fun t => s.coreTo t c (iv.after rd (BitVec.ofNat 32
        (scf raw (f32Of p0) (f32Of p1))) 2))) ∧
      (s.kReady c iv (w 2) 2 → Gives (.usx c rd rs1 rs2 sign len1) s (fun t => s.coreTo t c (iv.after rd (BitVec.ofInt 32
        (satLen (len1 + 1) sign (usx (iv.g rs1).toInt (signed 32 p0) (signed 32 p1) (p2 % 32)))) 2))) ∧
      (s.kReady c iv (w 3) 2 → Gives (.ufs c rd rs1 rs2 sign len1) s (fun t => s.coreTo t c (iv.after rd (BitVec.ofInt 32
        (satLen (len1 + 1) sign (ufs (f32Of (iv.g rs1).toNat) (f32Of p0) (f32Of p1)))) 2))))

/-- SGET copies an entry of the signal table (one of the firmware's own signals as a free value, assumption 97), SPUT buffers a write, in place of an earlier one to the same signal, and TLK looks a key up; where rd and sr of TLK are one register the spec names no winner, and a free choice decides (assumption 27). EMIT, TARM and HSET buffer outputs and act on nothing else; CIPH asks for the engine lock and waits. Each status is the one that R258 to R265 name for that case, a refused access is counted and raises 0x0C05, and a faulty place aborts with its cause. -/
def Obligations.KeeperTables : Prop :=
  ∀ (s : State) (c : Fin 64) (iv : Invocation) (rd rs1 rs2 : Fin 32),
    let r := iv.ev.routine
    let a := (iv.g rs1).toNat
    let b := (iv.g rs2).toNat
    let cnt5 := fun t : State => (s.rt r).cnt.length = 9 → (t.rt r).cnt.getD 5 0 = min ((s.rt r).cnt.getD 5 0 + 1) (2 ^ 32 - 1)
    let refused := fun t : State => t.inv c = some (iv.after rd 4 2) ∧ (∀ k, k ≠ c.val → t.inv k = s.inv k) ∧ cnt5 t ∧ (∀ q, q ≠ r → t.rt q = s.rt q) ∧ s.onlyRegs t [] ∧ t = { s with regs := t.regs, flt := t.flt, kpr := { s.kpr with run := t.kpr.run, rts := t.kpr.rts } }
    (∀ e : Nat, s.entryAt16 r b = .error e →
      (s.kReady c iv (fmtR 0x24 rd rs1 rs2 0) 2 → Gives (.sget c rd rs1 rs2) s (fun t => s.aborts t c iv e)) ∧
      (s.kReady c iv (fmtR 0x25 rd rs1 rs2 0) 2 → Gives (.sput c rd rs1 rs2) s (fun t => s.aborts t c iv e))) ∧
    (∀ p : KPlace, s.entryAt16 r b = .ok p →
      let drawn : State := { s with free := s.free + 1 }
      (s.kReady c iv (fmtR 0x24 rd rs1 rs2 0) 2 →
        (a < 250000 → p.win = .priv ∨ p.win = .shared → Gives (.sget c rd rs1 rs2) s (fun t =>
          s.coreStores t c (iv.after rd 0 2) (s.kAddr c r p) (s.mbytes (0x30000000 + 16 * a) 16))) ∧
        (a < 250000 → p.win = .emit → Gives (.sget c rd rs1 rs2) s (fun t =>
          s.coreEmits t c (iv.after rd 0 2) p.off (s.mbytes (0x30000000 + 16 * a) 16))) ∧
        (250000 ≤ a → a < 262144 → p.win = .priv ∨ p.win = .shared → Gives (.sget c rd rs1 rs2) s (fun t =>
          drawn.coreStores t c (iv.after rd 0 2) (s.kAddr c r p) (leBytes 16 (Config.ownSignal s.free a)))) ∧
        (250000 ≤ a → a < 262144 → p.win = .emit → Gives (.sget c rd rs1 rs2) s (fun t =>
          drawn.coreEmits t c (iv.after rd 0 2) p.off (leBytes 16 (Config.ownSignal s.free a)))) ∧
        (262144 ≤ a → Gives (.sget c rd rs1 rs2) s (fun t => refused t))) ∧
      (s.kReady c iv (fmtR 0x25 rd rs1 rs2 0) 2 →
        let e := s.kBytes c iv p 16
        let w : SigWrite := { index := a, value := leNat (e.take 8), status := leNat (slice 12 4 e) / 2 ^ 21 % 8 }
        (a < 250000 → s.maySput r a = true → (∀ x ∈ iv.sputs, x.index ≠ a) →
          (iv.sputs.length < 64 → Gives (.sput c rd rs1 rs2) s (fun t =>
            s.coreTo t c { iv.after rd 0 2 with sputs := iv.sputs ++ [w] })) ∧
          (64 ≤ iv.sputs.length → Gives (.sput c rd rs1 rs2) s (fun t => s.coreTo t c (iv.after rd 2 2)))) ∧
        (a < 250000 → s.maySput r a = true → (∃ x ∈ iv.sputs, x.index = a) → Gives (.sput c rd rs1 rs2) s (fun t =>
          s.coreTo t c { iv.after rd 0 2 with sputs := iv.sputs.map (fun x => if x.index = a then w else x) })) ∧
        (250000 ≤ a ∨ s.maySput r a = false → Gives (.sput c rd rs1 rs2) s (fun t => refused t)))) ∧
    (∀ (type : Fin 8) (sr : Fin 32), s.kReady c iv (fmtR 0x26 rd rs1 rs2 (type + sr.val * 8)) 2 →
      let out := fun res st : Nat => Gives (.tlk c rd rs1 rs2 type sr) s (fun t => s.coreTo t c
        (if rd = sr then iv.after rd (BitVec.ofNat 32 (if Config.tlkStatusStands then st else res)) 2
          else Invocation.after (iv.setG rd (BitVec.ofNat 32 res)) sr (BitVec.ofNat 32 st) 2))
      let w := s.mem32 (0x30480000 + 4 * b)
      (type.val = 7 → out 0 3) ∧ (type.val = 0 → 49151 < b → out 0 3) ∧
      (type.val = 0 → b ≤ 49151 → w % 2 = 1 → out w 0) ∧ (type.val = 0 → b ≤ 49151 → w % 2 = 0 → out 0 1) ∧
      (2 ≤ type.val → type.val ≤ 6 → a / 2 ^ 28 ≠ type.val → out 0 1) ∧
      (1 ≤ type.val → type.val ≤ 6 → s.trieLookup (a * 2 ^ 32 + b) type = none → out 0 1) ∧
      (∀ x : Nat, 1 ≤ type.val → type.val ≤ 6 → type.val = 1 ∨ a / 2 ^ 28 = type.val → s.trieLookup (a * 2 ^ 32 + b) type = some x → out x 0)) ∧
    (s.kReady c iv (fmtR 0x27 rd rs1 rs2 0) (2 + (b + 63) / 64) →
      (b < 8 ∨ 9220 < b → Gives (.emit c rd rs1 rs2) s (fun t => s.coreTo t c (iv.after rd 3 (2 + (b + 63) / 64)))) ∧
      (∀ e : Nat, 8 ≤ b → b ≤ 9220 → s.emitAt r a b = .error e → Gives (.emit c rd rs1 rs2) s (fun t => s.aborts t c iv e)) ∧
      (∀ p : KPlace, 8 ≤ b → b ≤ 9220 → s.emitAt r a b = .ok p → emitOk (s.kBytes c iv p b) = false →
        Gives (.emit c rd rs1 rs2) s (fun t => s.coreTo t c (iv.after rd 3 (2 + (b + 63) / 64)))) ∧
      (∀ p : KPlace, 8 ≤ b → b ≤ 9220 → s.emitAt r a b = .ok p → emitOk (s.kBytes c iv p b) = true →
        (iv.emits.length < 16 → iv.emitBytes + b ≤ 16384 → Gives (.emit c rd rs1 rs2) s (fun t =>
          s.coreTo t c { iv.after rd 0 (2 + (b + 63) / 64) with emits := iv.emits ++ [s.kBytes c iv p b] })) ∧
        (16 ≤ iv.emits.length ∨ 16384 < iv.emitBytes + b → Gives (.emit c rd rs1 rs2) s (fun t =>
          s.coreTo t c (iv.after rd 2 (2 + (b + 63) / 64)))))) ∧
    (∀ (n : Fin 4) (per : Bool),
      let others := iv.timers.filter (fun x => x.timer != n.val)
      (s.kReady c iv (fmtR 0x28 rd rs1 rs2 (n.val + boolNat per * 4)) 2 →
        (a ≠ 0 → Gives (.tarm c rd rs1 rs2 n per) s (fun t => s.coreTo t c { iv.after rd 0 2 with
          timers := others ++ [{ timer := n.val, delay := a, periodic := per, arg := b }] })) ∧
        (a = 0 → Gives (.tarm c rd rs1 rs2 n per) s (fun t => s.coreTo t c (iv.after rd 3 2)))) ∧
      (s.kReady c iv (fmtR 0x28 rd rs1 rs2 (n.val + boolNat per * 4 + 8)) 2 →
        Gives (.tarmCancel c rd rs1 rs2 n per) s (fun t => s.coreTo t c { iv.after rd 0 2 with
          timers := others ++ [{ timer := n.val, delay := 0, periodic := per, arg := b }] }))) ∧
    (s.kReady c iv (fmtR 0x29 rd rs1 rs2 0) 2 →
      (a ≤ 11 → b ≤ 1000 → (s.routine r).heaterMask.testBit a = true → Gives (.hset c rd rs1 rs2) s (fun t =>
        s.coreTo t c { iv.after rd 0 2 with hsets := iv.hsets.filter (fun x => x.1 != a) ++ [(a, b)] })) ∧
      (11 < a ∨ 1000 < b → Gives (.hset c rd rs1 rs2) s (fun t => s.coreTo t c (iv.after rd 3 2))) ∧
      (a ≤ 11 → b ≤ 1000 → (s.routine r).heaterMask.testBit a = false → Gives (.hset c rd rs1 rs2) s (fun t =>
        refused t))) ∧
    (s.kReady c iv (fmtR 0x2A rd rs1 0 0) 4 → Gives (.ciph c rd rs1) s (fun t =>
      t.inv c = some { iv with left := iv.left - 4, wait := .ciph, ciphRd := rd, ciphAt := a } ∧ (∀ k, k ≠ c.val → t.inv k = s.inv k) ∧
      t.sec = (if s.sec.owner = some c.val ∨ c.val ∈ s.sec.queue then s.sec else { s.sec with queue := s.sec.queue ++ [c.val] }) ∧
      t = { s with sec := t.sec, kpr := { s.kpr with run := t.kpr.run } }))

/-- NOP, TNOW, RND (a free word of the DRBG, which counts the request and reseeds after 2^20), BUDL and WHO (R267); DONE ends the invocation and commits, here nothing, a signal write, a timer, a heater demand or a CAN record, or waits for room in the outbound buffer after its signal writes; ABANDON ends it without outputs or event and counts; a CAN entry of the event is acknowledged (R199, R268, R270). An illegal word, a fetch outside the code window and an instruction beyond the budget abort (R249, R252, R271, R273); a command whose instruction does not stand at the core's pc has no effect. -/
def Obligations.KeeperSystem : Prop :=
  ∀ (s : State) (c : Fin 64) (iv : Invocation) (rd : Fin 32),
    let r := iv.ev.routine
    let x := s.rt r
    let done_ := fmtR 0x3F 0 0 0 0
    let freed := fun t : State => t.inv c = none ∧ (∀ k, k ≠ c.val → t.inv k = s.inv k) ∧ (∀ q, q ≠ r → t.rt q = s.rt q)
    let ended := fun (t : State) (k left : Nat) => freed t ∧ t.rt r = { x with abortRun := 0, maxUsed := max x.maxUsed ((s.routine r).units - left), cnt := (t.rt r).cnt } ∧ (x.cnt.length = 9 → (t.rt r).cnt.getD k 0 = min (x.cnt.getD k 0 + 1) (2 ^ 32 - 1))
    let acks := fun t : State => t.can = (match iv.ev.canEntry with | none => s.can | some (ch, no) => (s.canFree ch no).can)
    let kept := fun (t : State) (k : KprState) => t = { s with can := t.can, kpr := { k with run := t.kpr.run, rts := t.kpr.rts } }
    (s.kReady c iv (fmtR 0x3E 0 0 0 0) 1 → Gives (.nop c) s (fun t => s.coreTo t c { iv with pc := iv.pc + 4, left := iv.left - 1 })) ∧
    (∀ pair : Fin 15, ∀ lo : Fin 32, lo.val = 2 * pair.val + 2 → s.kReady c iv (fmtR 0x3E lo 0 0 1) 1 →
      Gives (.tnow c pair) s (fun t => s.coreTo t c (Invocation.after (iv.setG lo (s.tide.extractLsb' 0 32)) (lo + 1)
        (s.tide.extractLsb' 32 32) 1))) ∧
    (s.kReady c iv (fmtR 0x3E rd 0 0 2) 1 → Gives (.rnd c rd) s (fun t =>
      let n := if 2 ^ 20 ≤ s.sec.requests + 1 ∧ s.fldB SEC_RNG_STATUS SEC_RNG_STATUS_failed = false then { s.sec with failures := 0, requests := 0 }
        else { s.sec with requests := s.sec.requests + 1 }
      ({ s with free := s.free + 1, sec := n } : State).coreTo t c (iv.after rd (Config.drbgWord s.free) 1))) ∧
    (s.kReady c iv (fmtR 0x3E rd 0 0 3) 1 → Gives (.budl c rd) s (fun t => s.coreTo t c (iv.after rd (BitVec.ofNat 32 (iv.left - 1)) 1))) ∧
    (s.kReady c iv (fmtR 0x3E rd 0 0 4) 1 → Gives (.who c rd) s (fun t => s.coreTo t c (iv.after rd
      (BitVec.ofNat 32 (c.val + c.val / 16 * 64 + s.fabAddr * 256 + r * 8192)) 1))) ∧
    (s.kReady c iv done_ 1 → iv.sputs = [] → iv.emits = [] → iv.hsets = [] → s.outboundRoom c iv = true →
      (iv.timers = [] → Gives (.done c) s (fun t => ended t 1 (iv.left - 1) ∧ acks t ∧ kept t s.kpr)) ∧
      (∀ o : TimerOp, iv.timers = [o] → o.timer < 4 → 0 < o.delay →
        Gives (.done c) s (fun t => ended t 1 (iv.left - 1) ∧ acks t ∧ kept t { s.kpr with timers := tput s.kpr.timers (4 * r + o.timer) { due := s.elapsed + o.delay * 1000, period := if o.periodic then some (o.delay * 1000) else none, arg := o.arg } })) ∧
      (∀ o : TimerOp, iv.timers = [o] → o.timer < 4 → o.delay = 0 →
        Gives (.done c) s (fun t => ended t 1 (iv.left - 1) ∧ acks t ∧ kept t { s.kpr with timers := tdel s.kpr.timers (4 * r + o.timer), pend := s.kpr.pend.filter (fun e => !(e.kind == 3 && e.routine == r && e.g2 == o.timer)) }))) ∧
    (∀ (n : Fin 12) (d : Nat), s.kReady c iv done_ 1 → iv.sputs = [] → iv.emits = [] → iv.timers = [] → iv.hsets = [(n.val, d)] →
      s.outboundRoom c iv = true → d ≤ 1000 → s.dikeReady → s.running = true →
      Gives (.done c) s (fun t => ended t 1 (iv.left - 1) ∧ acks t ∧ t.fld (BNK_HTR_DEMAND n) BNK_HTR_DEMAND_duty = d ∧
        (∃ a, t.outputs = .dike false a :: .dike true (dikeFrame 2 s.bank.nextSeq (0x400 + 32 * n.val) d) :: s.outputs) ∧
        t.heater n = { s.heater n with demanded := true, pendFresh := true } ∧ (∀ k, k ≠ n.val → t.heater k = s.heater k) ∧
        s.onlyRegs t [BNK_HTR_DEMAND n] ∧ t = { s with free := s.free + 1, outputs := t.outputs, regs := t.regs, can := t.can, bank := { s.linkBank with heaters := t.bank.heaters }, kpr := { s.kpr with run := t.kpr.run, rts := t.kpr.rts } })) ∧
    (∀ w : SigWrite, s.kReady c iv done_ 1 → iv.emits = [] → iv.hsets = [] → iv.timers = [] → iv.sputs = [w] → s.outboundRoom c iv = true →
      Gives (.done c) s (fun t => t.inv c = none ∧ (∀ k, k ≠ c.val → t.inv k = s.inv k) ∧
        t.mbytes (0x30000000 + 16 * w.index) 8 = leBytes 8 w.value ∧ (t.mb (0x30000000 + 16 * w.index + 14)).toNat.testBit 4 = true ∧
        (∀ y, (y < 0x30000000 + 16 * w.index ∨ 0x30000000 + 16 * w.index + 16 ≤ y) → t.mb y = s.mb y))) ∧
    (∀ (data : List Byte) (tc : Fin 8), s.kReady c iv done_ 1 → iv.sputs = [] → iv.hsets = [] → iv.timers = [] →
      iv.emits = [leBytes 4 (2 + 4 * tc.val) ++ leBytes 4 0 ++ data] → s.outboundRoom c iv = true →
      (s.pol (s.fld (TMG_PORT_CLS 28) TMG_PORT_CLS_pol)).en = false → s.roomFor 28 30 tc 0 → s.tooManyCells { input := 28, data := data } = false →
      let q := qIndex 28 30 tc
      Gives (.done c) s (fun t => ended t 1 (iv.left - 1) ∧ acks t ∧ t.queue q = s.queue q ++ [s.sw.nextId] ∧
        t.frame s.sw.nextId = some { input := 28, kind := .canRecord, data := data, tc := tc, ts := s.tide.toNat, id := s.sw.nextId, bank := homeBank 28, berm := some q, cells := cellsOf data.length, complete := true, arrive := s.elapsed, done := s.elapsed, dest := [30], residue := [30] } ∧
        (∀ id, id ≠ s.sw.nextId → t.frame id = s.frame id) ∧ (∀ j, j ≠ q → t.queue j = s.queue j) ∧ s.onlyRegs t spillRegs ∧ s.keeps t)) ∧
    (s.kReady c iv done_ 1 → iv.sputs = [] → s.outboundRoom c iv = false → Gives (.done c) s (fun t =>
      s.coreTo t c { iv with left := iv.left - 1, wait := .done })) ∧
    (s.inv c = some iv → iv.wait = .done → s.outboundRoom c iv = true → iv.emits = [] → iv.timers = [] → iv.hsets = [] →
      Gives (.doneWaitEnd c) s (fun t => ended t 1 iv.left ∧ acks t ∧ kept t s.kpr)) ∧
    (s.inv c = none ∨ (s.inv c = some iv ∧ (iv.wait ≠ .done ∨ s.outboundRoom c iv = false)) → Gives (.doneWaitEnd c) s (fun t => t = s)) ∧
    (s.kReady c iv (fmtR 0x3F 0 0 0 1) 1 → Gives (.abandon c) s (fun t => ended t 2 (iv.left - 1) ∧ acks t ∧ kept t s.kpr)) ∧
    (∀ w : Nat, s.kReady c iv w 0 → atnDecode w = none → Gives (.illegalInstruction c) s (fun t => s.aborts t c iv 2)) ∧
    (∀ i ∈ ([.illegalInstruction c, .nop c, .done c, .abandon c] : List Instr), s.inv c = some iv → iv.wait = .none → s.kFetch c iv = none →
      Gives i s (fun t => s.aborts t c iv 3)) ∧
    (∀ w : Nat, s.kReady c iv w 0 → atnDecode w ≠ none → Gives (.illegalInstruction c) s (fun t => t = s)) ∧
    (∀ w : Nat, s.kReady c iv w 0 → w ≠ done_ → Gives (.done c) s (fun t => t = s)) ∧
    (∀ i ∈ ([.illegalInstruction c, .nop c, .done c, .abandon c, .budl c rd, .rnd c rd] : List Instr),
      s.inv c = none ∨ (s.inv c = some iv ∧ iv.wait ≠ .none) → Gives i s (fun t => t = s)) ∧
    (s.kReady c iv done_ 0 → iv.left = 0 → Gives (.done c) s (fun t => s.aborts t c iv 1)) ∧
    (∀ w : Nat, w < 2 ^ 26 → atnDecode w = none)

/-- The cluster port takes the frame at the head of sp28 for the routine that its binding names, waits where the cluster has no room, discards and counts one for a suspended or unplaced routine, and drops one without a binding (R246, R274, R282); a free core that runs starts the oldest of its pending events of the highest priority, with the registers of R244 (R245), and no other core starts any; a timer that falls due posts its event and goes on or disarms, and merges with an event of it that is still pending (R247, R263); the resume and clear commands of R274 and R276. -/
def Obligations.KeeperEvents : Prop :=
  ∀ s : State,
    (s.stagedAt 28 = [] → Gives .clusterPortTake s (fun t => t = s)) ∧
    (∀ (f : Frame) (rest : List Frame), s.stagedAt 28 = f :: rest →
      let base : State := { s with sw := { s.sw with staged := tset [] s.sw.staged 28 rest } }
      (s.bindingOf f = none → Gives .clusterPortTake s (fun t => s.counts t (PLC_CNT 3) ∧
        s.onlyRegs t [PLC_CNT 3] ∧ t = { base with regs := t.regs, flt := t.flt })) ∧
      (∀ r arg : Nat, s.bindingOf f = some (r, arg) → s.deaf r = true → Gives .clusterPortTake s (fun t => (∀ q, q ≠ r → t.rt q = s.rt q) ∧
        t.rt r = { s.rt r with cnt := (t.rt r).cnt } ∧
        ((s.rt r).cnt.length = 9 → (t.rt r).cnt.getD 8 0 = min ((s.rt r).cnt.getD 8 0 + 1) (2 ^ 32 - 1)) ∧
        t.can = (match f.canEntry with | some (ch, no) => (s.canFree ch no).can | none => s.can) ∧
        t = { base with can := t.can, kpr := { s.kpr with rts := t.kpr.rts } })) ∧
      (∀ r arg c : Nat, s.bindingOf f = some (r, arg) → s.deaf r = false → s.coreOf r = some c →
        (s.clusterRoom c f.data.length [] = true → Gives .clusterPortTake s (fun t =>
          t = { base with kpr := { s.kpr with pend := s.kpr.pend ++ [s.eventOf f r arg] } })) ∧
        (s.clusterRoom c f.data.length [] = false → Gives .clusterPortTake s (fun t => t = s)))) ∧
    (∀ (c : Fin 64) (e : KEvent), s.coreRuns c = true → s.inv c = none → s.nextEvent c = some e →
      let iv : Invocation := { ev := e, pc := 4 * (s.routine e.routine).entryWord, regs := entryRegs e, left := if (s.routine e.routine).budget = 0 then 4096 else (s.routine e.routine).budget }
      Gives (.invocationStart c) s (fun t =>
        e ∈ s.kpr.pend ∧ s.coreOf e.routine = some c.val ∧
        (∀ x ∈ s.kpr.pend, s.coreOf x.routine = some c.val → (s.rt x.routine).suspended = false →
          (s.routine x.routine).prio ≤ (s.routine e.routine).prio) ∧
        (∀ q, q ≠ e.routine → t.rt q = s.rt q) ∧ t.rt e.routine = { s.rt e.routine with cnt := (t.rt e.routine).cnt } ∧
        ((s.rt e.routine).cnt.length = 9 → (t.rt e.routine).cnt.getD 0 0 = ((s.rt e.routine).cnt.getD 0 0 + 1) % 2 ^ 32) ∧
        t = { s with kpr := { s.kpr with pend := s.kpr.pend.erase e, run := s.kpr.run ++ [(c.val, iv)], rts := t.kpr.rts } } ∧
        iv.g 1 = BitVec.ofNat 32 e.kind ∧ iv.g 2 = BitVec.ofNat 32 e.g2 ∧ iv.g 3 = BitVec.ofNat 32 e.g3 ∧
        iv.g 4 = BitVec.ofNat 32 e.time ∧ iv.g 5 = BitVec.ofNat 32 (e.time / 2 ^ 32) ∧ iv.g 6 = BitVec.ofNat 32 e.g6 ∧
        iv.g 7 = BitVec.ofNat 32 e.g7 ∧ (∀ j : Fin 32, 8 ≤ j.val → iv.g j = 0))) ∧
    (∀ c : Fin 64, s.coreRuns c = false ∨ s.inv c ≠ none ∨ s.nextEvent c = none → Gives (.invocationStart c) s (fun t => t = s)) ∧
    (∀ (r : Fin 1024) (n : Fin 4), s.kpr.timers.find? (fun e => e.1 == 4 * r.val + n.val) = none →
      Gives (.keeperTimerDue r n) s (fun t => t = s)) ∧
    (∀ (r : Fin 1024) (n : Fin 4) (x : KTimer), s.kpr.timers.find? (fun e => e.1 == 4 * r.val + n.val) = some (4 * r.val + n.val, x) →
      let next := match x.period with | some p => tput s.kpr.timers (4 * r.val + n.val) { x with due := x.due + p } | none => tdel s.kpr.timers (4 * r.val + n.val)
      let waits := s.kpr.pend.any (fun e => e.kind == 3 && e.routine == r.val && e.g2 == n.val)
      (s.elapsed < x.due → Gives (.keeperTimerDue r n) s (fun t => t = s)) ∧
      (x.due ≤ s.elapsed → s.deaf r = true → Gives (.keeperTimerDue r n) s (fun t => t = { s with kpr := { s.kpr with timers := next } })) ∧
      (x.due ≤ s.elapsed → s.deaf r = false → waits = true → Gives (.keeperTimerDue r n) s (fun t =>
        ((s.rt r).cnt.length = 9 → (t.rt r).cnt.getD 6 0 = min ((s.rt r).cnt.getD 6 0 + 1) (2 ^ 32 - 1)) ∧ (∀ q, q ≠ r.val → t.rt q = s.rt q) ∧
        s.onlyRegs t [] ∧ t = { s with regs := t.regs, flt := t.flt, kpr := { s.kpr with timers := next, rts := t.kpr.rts } })) ∧
      (x.due ≤ s.elapsed → s.deaf r = false → waits = false → Gives (.keeperTimerDue r n) s (fun t =>
        t = { s with kpr := { s.kpr with timers := next, pend := s.kpr.pend ++ [{ kind := 3, routine := r.val, g2 := n.val, time := s.dueTide x.due, g6 := x.arg }] } }))) ∧
    (∀ (m : Master) (v : Word),
      let r := s.fld KPR_RT_SEL KPR_RT_SEL_routine
      let cleared := fun (y : RtState) => { y with cnt := [0, 0, 0, 0, 0, 0, 0, 0, 0], maxUsed := 0 }
      let only := fun t : State => (∀ q, q ≠ r → t.rt q = s.rt q) ∧ s.onlyRegs t [] ∧ t = { s.seen m with regs := t.regs, flt := t.flt, kpr := { s.kpr with rts := t.kpr.rts } }
      (s.writable m KPR_RT_CMD → v.toNat.testBit 1 = false →
        Gives (.resume m v) s (fun t => only t ∧ t.rt r = (if (s.rt r).suspended then { s.rt r with suspended := false, abortRun := 0 } else s.rt r) ∧
          ((s.rt r).suspended = true → s.posts t 0x0C04 0 r))) ∧
      (s.writable m KPR_RT_CMD → v.toNat.testBit 0 = false →
        Gives (.routineClr m v) s (fun t => only t ∧ t.rt r = cleared (s.rt r) ∧ t.flt = s.flt)) ∧
      (s.writable m KPR_RT_CMD → v.toNat.testBit 0 = true → v.toNat.testBit 1 = true → (s.rt r).suspended = true →
        Gives (.resume m v) s (fun t => only t ∧ t.rt r = cleared { s.rt r with suspended := false, abortRun := 0 } ∧ s.posts t 0x0C04 0 r)) ∧
      (s.writable m KPR_CNT_CLR → Gives (.kprCntClr m v) s (fun t => (∀ q, (t.rt q).cnt = [0, 0, 0, 0, 0, 0, 0, 0, 0] ∧ (t.rt q).maxUsed = 0) ∧
        (twf (fun _ => ({} : RtState)) s.kpr.rts = true → ∀ q, t.rt q = cleared (s.rt q)) ∧
        t = { s.seen m with kpr := { s.kpr with rts := t.kpr.rts } })))

/-- The placer (R45, R280, R290, R291, R293, R297, R298, R300). A trigger waits while a batch runs. A derived map, and a choice of hosts, ask for their needs, wait for the margin, and are then committed and counted, with what moves as the batch; where the needs are refused the map is that of one routine fewer, and the hosts stay. What a map does not place is shed, with 0x0D03. A program that has been prepared brings its policy, permissions and base map, clears the emit buffers and ends the suspensions; its routines switch in the batch. A routine of the batch moves to its target when it is idle, never while it runs, counts, and raises 0x0D06 for a pause beyond 20 µs; one that leaves for another device takes its pending events and timers along. The host of a mobile routine is the one candidate that can place it. In full operation a persistent block is saved as the group's region has it. Statements about PLC_MAP are about bundles of at most 1,024 routines (R279). -/
def Obligations.Placement : Prop :=
  ∀ s : State,
    let quietly (t : State) := t.otp = s.otp ∧ t.dev = s.dev ∧ t.bank = s.bank ∧ t.wrd = s.wrd ∧ t.sec = s.sec ∧ t.fab = s.fab
    let worn (t : State) := t.mram = { s.mram with
      wear := t.mram.wear, remap := t.mram.remap, spareUsed := t.mram.spareUsed, lost := t.mram.lost, saved := t.mram.saved }
    (s.plc.batch ≠ [] ∨ s.plc.trigger = [] → Gives .mapCommit s (fun t => t = s)) ∧
    (∀ rest : List Trigger, s.plc.batch = [] → s.plc.trigger = .derived :: rest → s.plc.prog.routines.length ≤ 1024 →
      let p := s.plc.prog
      let load := { s with plc := { s.plc with trigger := rest } }.commitDerived (fun _ => false)
      let gate := s.loadGate .placement load
      let base := planOf s.plc.base
      let x := p.placing s.unavailable none false (s.hosted p) base
      let plan := x.shedding base 1025 (x.toPlace (decide (gate = .refused)))
      let moves := s.derivedMoves plan (fun _ => false)
      let gone := (List.range p.routines.length).filter (fun r => (s.coreOf r).isSome && (plan.core r).isNone)
      (gate = .wait → Gives .mapCommit s (fun t => t = s)) ∧ (s.hlt.asked = none → Gives .mapCommit s (fun t => gate = .ask → t = s.askNeeds .placement load)) ∧
      (gate = .go ∨ gate = .refused → Gives .mapCommit s (fun t =>
        (moves ≠ [] → t.plc = { s.plc with trigger := rest, batch := moves } ∧ (gate = .go → t.hlt = s.hlt)) ∧
        (moves = [] → t.plc = { s.plc with
          trigger := rest, batch := [], update := false, groupOld := [], groupNew := []
          groupAt := s.plc.groupAt.filter (fun e => p.groups.any (fun y => y.no == e.1)) }) ∧
        s.counts t (PLC_CNT 0) ∧ t.fld PLC_STATUS PLC_STATUS_state = (if moves.isEmpty then 0 else 2) ∧
        (∀ r ∈ gone, t.coreOf r = none ∧ t.fldB (PLC_MAP r) PLC_MAP_shed = true) ∧
        (gone = [] → (∀ e ∈ plan, s.fldB (PLC_MAP e.1) PLC_MAP_shed = false) → s.posts t 0x0D01 0 noInst) ∧
        (gate = .refused → t.hlt.raising = none) ∧ t.mram = s.mram ∧ quietly t))) ∧
    (∀ (p : Program) (d : List Byte) (u : Bool) (rest : List Trigger), s.plc.batch = [] → s.plc.trigger = .program p d u :: rest →
      s.plc.prog.routines.length ≤ 1024 → p.routines.length ≤ 1024 →
      let y := s.programInput p u
      let base := match y.baseMap with | .ok q => q | .error _ => y.shedding [] 1025 y.all_
      let keeps (r : Nat) := r < s.plc.prog.routines.length ∧ sameRoutine (s.routine r) (p.rt r) = true
      Gives .mapCommit s (fun t => t.plc.trigger = rest ∧ t.plc.base = tabOf base ∧ t.plc.digest = d ∧
        t.plc.prog = { p with routines := t.plc.prog.routines } ∧ t.plc.prog.routines.length = p.routines.length ∧
        (∀ r < p.routines.length, (keeps r → t.routine r = p.rt r) ∧ (¬ keeps r → t.routine r = s.routine r)) ∧
        t.plc.update = (u && !t.plc.batch.isEmpty) ∧ t.rd PLC_POLICY = p.policy ∧ t.rd PLC_POLICY2 = p.policy2 ∧
        (u = false → (t.rd PLC_KPOLDER).toNat = p.kpolder % 4) ∧ (u = true → t.rd PLC_KPOLDER = s.rd PLC_KPOLDER) ∧
        (∀ x < 64 * 16384, tget 0 t.kpr.emitBuf x = 0) ∧ (∀ r < s.plc.prog.routines.length, (t.rt r).suspended = false) ∧
        (∀ m ∈ t.plc.batch, m.desc = some (p.rt m.routine) ∧ m.away = none) ∧ s.counts t (PLC_CNT 0) ∧
        (t.plc.batch ≠ [] → t.hlt = s.hlt) ∧ worn t ∧ quietly t)) ∧
    (∀ (h : Nat) (l : List MobileReport) (rest : List Trigger), s.plc.batch = [] → s.plc.trigger = .mobile h l :: rest →
      let u := { s with plc := { s.plc with trigger := rest } }
      (s.loadGate .placement (u.mobileChoice h l) = .wait → Gives .mapCommit s (fun t => t = s)) ∧
      (s.loadGate .placement (u.mobileChoice h l) = .refused → Gives .mapCommit s (fun t => t.plc = u.plc ∧ t.hlt.raising = none ∧ t.mram = s.mram ∧ quietly t))) ∧
    (s.plc.batch = [] → ∀ pause : Nat, Gives (.migration pause) s (fun t => t = s)) ∧
    (∀ (pause : Nat) (m : Move) (rest : List Move), s.plc.batch = m :: rest →
      (s.busyRoutine m.routine = true → Gives (.migration pause) s (fun t => t = s)) ∧
      (s.busyRoutine m.routine = false → m.routine < 1024 → Gives (.migration pause) s (fun t =>
        t.plc.batch = rest ∧ s.counts t (PLC_CNT 1) ∧
        (t.rd PLC_MAX_PAUSE).toNat = min (2 ^ 32 - 1) (max (s.rd PLC_MAX_PAUSE).toNat pause) ∧
        (20000 < pause → s.counts t (PLC_CNT 5)) ∧ (pause ≤ 20000 → t.rd (PLC_CNT 5) = s.rd (PLC_CNT 5)) ∧
        (20000 < pause → s.tells t 3 0x0D06 3 m.routine) ∧ t.plc.trigger = s.plc.trigger ∧
        (m.away = none → m.target < 64 → t.coreOf m.routine = some m.target ∧ t.plc.base = s.plc.base ∧
          ∀ d : Routine, m.desc = some d → t.plc.prog.routines.getD m.routine {} = d) ∧
        (m.away.isSome = true → t.coreOf m.routine = none ∧ t.fldB (PLC_MAP m.routine) PLC_MAP_remote = true ∧
          (∀ e ∈ t.kpr.pend, e.routine ≠ m.routine) ∧ ∀ e ∈ t.kpr.timers, e.1 / 4 ≠ m.routine) ∧
        (rest ≠ [] → t.hlt = s.hlt) ∧ t.mram = s.mram ∧ quietly t ∧ t.can = s.can))) ∧
    (∀ (head : Fin 32) (l : List MobileReport), s.plc.batch ≠ [] → Gives (.mobileHostChoice head l) s (fun t =>
      t = { s with plc := { s.plc with trigger := s.plc.trigger ++ [.mobile head l] } })) ∧
    (∀ (head : Fin 32) (l : List MobileReport), s.plc.batch = [] → s.plc.trigger = [] →
      let own := (List.range s.plc.prog.routines.length).filter (fun k => (s.routine k).mobile)
      let gate := s.loadGate .placement (s.mobileChoice head l)
      (gate = .wait → Gives (.mobileHostChoice head l) s (fun t => t = { s with plc := { s.plc with trigger := [.mobile head l] } })) ∧
      (gate = .go → own = [] → l = [] → Gives (.mobileHostChoice head l) s (fun t => (∀ k < 64, t.rd (PLC_MOB k) = 0) ∧
        s.counts t (PLC_CNT 0) ∧ s.posts t 0x0D01 0 noInst ∧ t.plc.hosts = s.plc.hosts ∧ t.mram = s.mram ∧ quietly t)) ∧
      (∀ (r : Nat) (x : MobileReport), gate = .go → r < 1024 → own = [r] → l = [x] → x.routine = r → x.addr < 32 →
        (s.routine r).hostMask.testBit x.addr = true → x.canPlace = true → (s.routine r).hostMode = 1 → x.addr ≠ s.fabAddr →
        tget 0 s.plc.hosts r = 0 → Gives (.mobileHostChoice head l) s (fun t => tget 0 t.plc.hosts r = x.addr + 1 ∧
          t.fld (PLC_MOB 0) PLC_MOB_routine = r ∧ t.fld (PLC_MOB 0) PLC_MOB_host = x.addr ∧
          (s.coreOf r = none → t.fld (PLC_MAP r) PLC_MAP_fab_addr = x.addr ∧ t.fld (PLC_MAP r) PLC_MAP_remote = 1 ∧ t.coreOf r = none) ∧
          ((s.coreOf r).isSome = true → t.plc.batch = [{ routine := r, target := x.core, away := some x.addr }] ∧ t.coreOf r = s.coreOf r) ∧
          t.mram = s.mram)) ∧
      (∀ r : Nat, gate = .go → r < 1024 → own = [r] → l = [] →
        Gives (.mobileHostChoice head l) s (fun t => tget 0 t.plc.hosts r = 0 ∧ t.fldB (PLC_MAP r) PLC_MAP_shed = true ∧ t.coreOf r = none ∧
          s.tells t 1 0x0D03 (if (s.routine r).shedClass = 3 then 5 else 4) r ∧ t.mram = s.mram))) ∧
    (∀ (head : Nat) (l : List MobileReport) (a : Nat), mobileHost 1 head l = some a →
      (∃ x ∈ l, x.canPlace = true ∧ x.addr = a) ∧ ∀ x ∈ l, x.canPlace = true → a ≤ x.addr) ∧
    (∀ (g : Group) (x : GroupPlace), s.dev.state = .full → s.plc.prog.groups = [g] → 1 ≤ g.no → g.no ≤ 256 → 4 * g.persistWords ≤ 4096 →
      s.groupRegion g.no = some x → 0 < g.persistWords → 4 * g.persistWords ≤ x.len → s.plc.groupNew.contains g.no = false →
      let at_ := 0x10220000 + 4096 * (g.no - 1)
      Gives .persistentBlockSave s (fun t =>
        t.mbytes at_ (4 * g.persistWords) = (s.groupBytes g.no).take (4 * g.persistWords) ∧ tget [] t.mram.saved g.no = s.plc.digest ∧
        (∀ y, ¬(at_ ≤ y ∧ y < at_ + 4 * g.persistWords) → t.mb y = s.mb y) ∧ worn t ∧
        t = { s with regs := t.regs, flt := t.flt, mem := t.mem, mram := t.mram })) ∧
    (s.dev.state ≠ .full → Gives .persistentBlockSave s (fun t => t = s)) ∧
    (∀ (f : Frame) (rest : List Frame) (r arg c : Nat), s.stagedAt 28 = f :: rest → s.bindingOf f = some (r, arg) → s.deaf r = false →
      s.coreOf r = some c → s.clusterRoom c f.data.length [] = true → Gives .clusterPortTake s (fun t =>
        t = { s with sw := { s.sw with staged := tset [] s.sw.staged 28 rest }, kpr := { s.kpr with pend := s.kpr.pend ++ [s.eventOf f r arg] } })) ∧
    (∀ (c : Fin 64) (e : KEvent), s.coreRuns c = true → s.inv c = none → s.kpr.pend = [e] → s.coreOf e.routine = some c.val →
      (s.rt e.routine).suspended = false → Gives (.invocationStart c) s (fun t => t.kpr.pend = [] ∧ (∀ k, k ≠ c.val → t.inv k = s.inv k) ∧
        (∃ iv : Invocation, t.inv c = some iv ∧ iv.ev = e ∧ iv.pc = 4 * (s.routine e.routine).entryWord ∧ iv.g 1 = BitVec.ofNat 32 e.kind ∧
          iv.left = (if (s.routine e.routine).budget = 0 then 4096 else (s.routine e.routine).budget)) ∧ t = { s with kpr := t.kpr })) ∧
    (∀ (r : Fin 1024) (n : Fin 4) (x : KTimer), s.kpr.timers = [(4 * r.val + n.val, x)] → x.due ≤ s.elapsed → x.period = none →
      s.deaf r = false → s.kpr.pend = [] → Gives (.keeperTimerDue r n) s (fun t => t.kpr.timers = [] ∧
        (∃ e : KEvent, t.kpr.pend = [e] ∧ e.kind = 3 ∧ e.routine = r.val ∧ e.g2 = n.val ∧ e.g6 = x.arg) ∧ t = { s with kpr := t.kpr })) ∧
    (∀ (m : Master) (v : Word), s.writable m KPR_RT_CMD → v.toNat.testBit 0 = false → v.toNat.testBit 1 = false →
      let r := s.fld KPR_RT_SEL KPR_RT_SEL_routine
      Gives (.resume m v) s (fun t => (t.rt r).suspended = false ∧ (t.rt r).cnt = (s.rt r).cnt ∧ (∀ q, q ≠ r → t.rt q = s.rt q) ∧ t.mem = s.mem) ∧
      Gives (.routineClr m v) s (fun t => (t.rt r).cnt = [0, 0, 0, 0, 0, 0, 0, 0, 0] ∧ (t.rt r).maxUsed = 0 ∧
        (t.rt r).suspended = (s.rt r).suspended ∧ (∀ q, q ≠ r → t.rt q = s.rt q) ∧ t.regs = s.regs ∧ t.mem = s.mem)) ∧
    (∀ (m : Master) (v : Word), s.writable m KPR_CNT_CLR → Gives (.kprCntClr m v) s (fun t =>
      (∀ q, (t.rt q).cnt = [0, 0, 0, 0, 0, 0, 0, 0, 0] ∧ (t.rt q).maxUsed = 0) ∧ t.regs = s.regs ∧ t.mem = s.mem))

/-- What the bridge does with an addressed frame for this device at the head of sp31 (R299, R322–R329, R441); with any other it does nothing. A message goes to sp28, is forwarded once to the device that hosts its mobile routine, or is dropped and counted; a command of a device that is not allowed, or the ninth that waits, is denied, and another one waits in the order of arrival. A request in bad form is answered 5, one of a device without permission 2, one that R29 refuses, or that meets a word known to be lost (the model's choice, assumption 121), 3; a permitted read starts a fetch and is answered RETRY, and its data once fetched; a fetch waits for the requester's earlier writes, and one of the bank die for what was posted to it before (R15); the next write in order is applied and acknowledged, a repeat only acknowledged, a later one held. -/
def Obligations.BridgeTarget : Prop :=
  ∀ (s : State) (f : Frame) (h : FabHdr) (u : State),
    let r := h.tag % 1024
    let q := raReqOf f.data
    let member := u.fab.members.any (fun m => m.2 == h.src && decide (h.src < 32))
    let denied := u.raDenied h.src
    let refused := u.refuse (remoteMaster h.src) q.addr
    (∀ fwd : Bool, s.mine31 7 = some (f, h, u) → u.hostElsewhere r = none → fwd = false ∨ u.coreOf r ≠ none →
      Gives (.msg fwd) s (fun t => t = (u.fabCount 12).sendInternal ({
        f with input := 31, kind := .message, tc := h.tc, colour := h.colour, routine := some (r, State.defaultArg r) } : Frame) (2 ^ 28))) ∧
    (∀ fwd : Bool, s.mine31 7 = some (f, h, u) →
      (fwd = true → u.coreOf r = none ∨ u.hostElsewhere r ≠ none → Gives (.msg fwd) s (fun t => s.counts t (PLC_CNT 4) ∧
        t.stagedAt 31 = (s.stagedAt 31).drop 1 ∧ s.onlyRegs t [PLC_CNT 4] ∧ t = { u with regs := t.regs, flt := t.flt })) ∧
      (fwd = false → u.hostElsewhere r ≠ none → h.hop = 0 → Gives (.msg fwd) s (fun t => s.counts t (FAB_CNT 4) ∧
        t.stagedAt 31 = (s.stagedAt 31).drop 1 ∧ s.onlyRegs t [FAB_CNT 4] ∧ t = { u with regs := t.regs, flt := t.flt })) ∧
      (∀ a : Nat, fwd = false → u.hostElsewhere r = some a → h.hop ≠ 0 → Gives (.msg fwd) s (fun t =>
        t = u.fabSend { h with dst := a, hop := h.hop - 1 } f.data))) ∧
    (∀ fwd : Bool, s.mine31 7 = none → Gives (.msg fwd) s (fun t => t = s)) ∧
    (s.mine31 11 = some (f, h, u) →
      let words := bytesWords (padTo 64 f.data)
      let allowed := (s.rd FAB_CMD_ALLOW).toNat.testBit h.src
      (allowed = false → Gives .cmdFrame s (fun t => t = (u.fabCount 7).cmdRefuse h 4 (words.getD 0 0 % 65536))) ∧
      (allowed = true → 8 ≤ s.fabWaiting → Gives .cmdFrame s (fun t => t = u.cmdRefuse h 1 (words.getD 0 0 % 65536))) ∧
      (allowed = true → s.fabWaiting < 8 → s.serving = false ∨ s.wrd.inProgress = true →
        Gives .cmdFrame s (fun t => t.stagedAt 31 = (s.stagedAt 31).drop 1 ∧
          t = { u with wrd := { s.wrd with arrivals := s.wrd.arrivals ++ [.fabric h.src h.tag words (f.data.drop 64) s.copying] } }))) ∧
    (s.mine31 11 = none → Gives .cmdFrame s (fun t => t = s)) ∧
    (s.mine31 8 = none → Gives .raRead s (fun t => t = s) ∧ Gives .raPostedWrite s (fun t => t = s)) ∧
    (s.mine31 8 = some (f, h, u) → q.op ≠ 2 → Gives .raPostedWrite s (fun t => t = s)) ∧
    (s.mine31 8 = some (f, h, u) → q.op = 2 → Gives .raRead s (fun t => t = s)) ∧
    (s.mine31 8 = some (f, h, u) → q.op ≠ 2 →
      (q.op ≠ 1 ∨ q.ok = false → Gives .raRead s (fun t => t = u.raAnswer h 5)) ∧
      (q.op = 1 → q.ok = true → u.raAllowed h.src FAB_RA_ALLOW = false → Gives .raRead s (fun t => t = denied.raAnswer h 2)) ∧
      (q.op = 1 → q.ok = true → u.raAllowed h.src FAB_RA_ALLOW = true → remoteOk false h.src q = false →
        Gives .raRead s (fun t => t = refused.raAnswer h 3)) ∧
      (∀ x : Nat × Nat, q.op = 1 → q.ok = true → u.raAllowed h.src FAB_RA_ALLOW = true → remoteOk false h.src q = true →
        u.lostWord q.addr (4 * q.words) = some x → Gives .raRead s (fun t => t = (u.uncorrectable x.1 (8 * x.2) .none).raAnswer h 3))) ∧
    (s.mine31 8 = some (f, h, u) → q.op = 1 → q.ok = true → u.raAllowed h.src FAB_RA_ALLOW = true → remoteOk false h.src q = true →
      u.lostWord q.addr (4 * q.words) = none →
      let kept := u.fab.slots.find? (fun x => x.serves h.src h.tag q)
      let first := fun (l : List ReadSlot) (no : Nat) => no < 16 ∧ (∀ x ∈ l, x.no ≠ no) ∧ ∀ k < no, ∃ x ∈ l, x.no = k
      let fresh := fun no : Nat => ({ no := no, src := h.src, tag := h.tag, pref := q.pref, wseq := q.wseq, addr := if q.pref then q.addr / 256 * 256 else q.addr, words := if q.pref then 64 else q.words } : ReadSlot)
      (∀ no : Fin 16, kept = none → first u.fab.slots no → Gives .raRead s (fun t => t = (u.setFab { u.fab with slots := u.fab.slots ++ [fresh no] }).raAnswer h 1)) ∧
      (kept = none → (∀ no < 16, ∃ x ∈ u.fab.slots, x.no = no) → Gives .raRead s (fun t => t = u.raAnswer h 1)) ∧
      (∀ (x : ReadSlot) (no : Fin 16), kept = some x → x.old q = true → first (u.fab.slots.filter (fun y => y.no != x.no)) no →
        Gives .raRead s (fun t => t = (u.setFab { u.fab with slots := u.fab.slots.filter (fun y => y.no != x.no) ++ [fresh no] }).raAnswer h 1)) ∧
      (∀ x : ReadSlot, kept = some x → x.old q = false → x.data = none ∨ (∃ w ∈ u.fab.writes, w.target = h.src) ∨ u.messageOwed h.src = true →
        Gives .raRead s (fun t => t = u.raAnswer h 1)) ∧
      (∀ (x : ReadSlot) (d : List Word), kept = some x → x.data = some d → x.old q = false → (∀ w ∈ u.fab.writes, w.target ≠ h.src) → u.messageOwed h.src = false →
        Gives .raRead s (fun t => t = u.raAnswer h 0 ((d.drop ((q.addr - x.addr) / 4)).take q.words)))) ∧
    (s.mine31 8 = some (f, h, u) → q.op = 2 → member = false → Gives .raPostedWrite s (fun t => t = denied.raAnswer h 2)) ∧
    (∀ w : Word, s.mine31 8 = some (f, h, u) → q.op = 2 → member = true →
      let next := u.setFab { u.fab with applied := tset 0 u.fab.applied h.src q.wseq }
      let inTurn := q.wseq = (u.appliedFrom h.src + 1) % 65536
      (inTurn → q.ok = false → Gives .raPostedWrite s (fun t => t = State.earlyApply h 32 (next.raAnswer h 5))) ∧
      (inTurn → q.ok = true → u.raAllowed h.src FAB_RA_ALLOW_W = false → Gives .raPostedWrite s (fun t =>
        t = State.earlyApply h 32 ((next.raDenied h.src).raAnswer h 2))) ∧
      (inTurn → q.ok = true → u.raAllowed h.src FAB_RA_ALLOW_W = true → remoteOk true h.src q = false → Gives .raPostedWrite s (fun t =>
        t = State.earlyApply h 32 ((next.refuse (remoteMaster h.src) q.addr).raAnswer h 3))) ∧
      (inTurn → q.words = 1 → q.data = [w] → q.ok = true → u.raAllowed h.src FAB_RA_ALLOW_W = true → remoteOk true h.src q = true →
        Gives .raPostedWrite s (fun t => t = State.earlyApply h 32 ((next.busWrite (remoteMaster h.src) q.addr 4 w.toNat).raAnswer h 0))) ∧
      (¬ inTurn → epochNewer q.wseq (u.appliedFrom h.src) = false → Gives .raPostedWrite s (fun t => t = (u.fabCount 11).raAnswer h 0)) ∧
      (¬ inTurn → epochNewer q.wseq (u.appliedFrom h.src) = true → (∃ e ∈ u.fab.early, e.1 = h.src ∧ e.2.wseq = q.wseq) →
        Gives .raPostedWrite s (fun t => t = u.fabCount 11)) ∧
      (¬ inTurn → epochNewer q.wseq (u.appliedFrom h.src) = true → (∀ e ∈ u.fab.early, ¬(e.1 = h.src ∧ e.2.wseq = q.wseq)) →
        Gives .raPostedWrite s (fun t => t = { u with fab := { s.fab with early := s.fab.early ++ [(h.src,
          { tag := h.tag, target := h.src, wseq := q.wseq, addr := q.addr, data := q.data.take q.words })] } }))) ∧
    (∀ (n : Fin 16) (x : ReadSlot), s.fab.slots.find? (fun y => y.no == n.val) = some x →
      let ready := x.data = none ∧ epochNewer x.wseq (s.appliedFrom x.src) = false ∧ ¬(s.dikeBusy = true ∧ x.onBank = true)
      (ready → Gives (.raFetchDone n) s (fun t => t = { s with free := s.free + 1, fab := { s.fab with slots := s.fab.slots.map (fun (y : ReadSlot) =>
        if y.no = n then { y with data := some (s.readWords x.addr x.words) } else y) } })) ∧
      (¬ ready → Gives (.raFetchDone n) s (fun t => t = s))) ∧
    (∀ n : Fin 16, s.fab.slots.find? (fun y => y.no == n.val) = none → Gives (.raFetchDone n) s (fun t => t = s)) ∧
    (∀ (n : Fin 16), Gives (.readSlotExpiry n) s (fun t => t = { s with fab := { s.fab with
      slots := s.fab.slots.filter (fun (x : ReadSlot) => x.no != n.val || x.data.isNone) } }))

/-- A host access through an aperture becomes a remote write with the next sequence number, or a remote read with the next tag, one for each 256-byte block that it touches (the model's choice, assumption 64); it is refused whole where it crosses into the next aperture, and fails at once with interrupt 4 where the aperture is off or its target has no route, a read with Completer Abort. A response releases the writes that it acknowledges, completes the host's read, or marks it to be issued again; an access that is not completed in time is abandoned with 0x0A11, a host's write with interrupt 4 too; a host read without an answer ends with Completer Abort (R324–R327, R331, R335). What names nothing under way has no effect. -/
def Obligations.BridgeSource : Prop :=
  ∀ s : State,
    let calm (l : List RaWrite) := s.fab.waiting = [] ∧ ∀ w ∈ l, w.sent = true
    let irq4 := fun (o : List Output) (t : State) => (t.rd FAB_IRQ_STATUS).toNat.testBit 4 = true ∧ s.onlyRegs t [FAB_IRQ_STATUS, FAB_PBA] ∧ ∃ l, t.outputs = l ++ o
    (∀ (off : Fin 67108864) (n : Nat) (data : List Word), s.running = true →
      let k := off.val / 2 ^ 24
      let d := s.fld (FAB_APT0 k) FAB_APT0_target
      let addr := s.fld (FAB_APT1 k) FAB_APT1_base * 2 ^ 24 + off.val % 2 ^ 24
      let open_ := s.fldB (FAB_APT0 k) FAB_APT0_en = true ∧ s.fldB (FAB_ROUTE d) FAB_ROUTE_valid = true
      let within (len : Nat) := off.val % 2 ^ 24 + 4 * len ≤ 2 ^ 24
      let block (len : Nat) := 0 < len ∧ len ≤ 64 - addr % 256 / 4
      let first := s.fab.nextTag
      let tagged := { s.fab with nextTag := (first + 1) % 2 ^ 32 }
      let x : RaRead := { tag := first, target := d, addr := addr, words := n, pref := s.fldB (FAB_APT0 k) FAB_APT0_pref }
      let w : RaWrite := { tag := first, target := d, wseq := (s.issuedTo d + 1) % 65536, addr := addr, data := data, aperture := true, ord := s.fab.ord }
      let posted := { tagged with ord := s.fab.ord + 1, issued := tset 0 s.fab.issued d ((s.issuedTo d + 1) % 65536) }
      let room := (s.fab.writes.filter (fun y => y.target == d)).length < 32 ∧ s.msgInside d = false
      let failed := { s with dev := { s.dev with aer := BitVec.ofNat 32 (withBit s.dev.aer.toNat 15 true) } }
      (open_ → within data.length → block data.length → calm s.fab.writes → room → Gives (.apertureAccess off true n data) s (fun t =>
        t = State.raSend { s with fab := { posted with writes := s.fab.writes ++ [{ w with sent := true }] } } d first w.req)) ∧
      (open_ → within data.length → block data.length → calm s.fab.writes → ¬ room → Gives (.apertureAccess off true n data) s (fun t =>
        t = { s with fab := { posted with writes := s.fab.writes ++ [w] } })) ∧
      (open_ → within n → block n → Gives (.apertureAccess off false n data) s (fun t => t = State.readSend { s with
        fab := { tagged with reads := s.fab.reads ++ [x], hostReads := s.fab.hostReads ++ [{ tag := first, parts := [(first % 2 ^ 32, none)] }] } } x)) ∧
      (open_ → within n → off.val % 4 = 0 → 0 < n → Gives (.apertureAccess off false n data) s (fun t =>
        let new := t.fab.reads.drop s.fab.reads.length
        t.fab.reads.take s.fab.reads.length = s.fab.reads ∧ (new.map (fun y => y.words)).sum = n ∧ s.keeps t ∧
        ∀ y ∈ new, y.target = d ∧ 0 < y.words ∧ (y.addr + 4 * y.words - 1) / 256 = y.addr / 256)) ∧
      (¬ open_ → within data.length → Gives (.apertureAccess off true n data) s (fun t => irq4 s.outputs t ∧
        t = { s with regs := t.regs, flt := t.flt, outputs := t.outputs })) ∧
      (¬ open_ → within n → Gives (.apertureAccess off false n data) s (fun t => irq4 (.completion none :: s.outputs) t ∧
        t = { failed with regs := t.regs, flt := t.flt, outputs := t.outputs })) ∧
      (∀ b : Bool, ¬ within (if b then data.length else n) → Gives (.apertureAccess off b n data) s (fun t => t = s.refuse .pcie off))) ∧
    (∀ (off : Fin 67108864) (b : Bool) (n : Nat) (data : List Word), s.running = false →
      Gives (.apertureAccess off b n data) s (fun t => t = s)) ∧
    (s.mine31 9 = none → Gives .raRsp s (fun t => t = s)) ∧
    (∀ (f : Frame) (h : FabHdr) (u : State), s.mine31 9 = some (f, h, u) →
      let status := leNat (slice 0 4 f.data) % 16
      let ack := leNat (slice 0 4 f.data) / 65536
      let left := u.fab.writes.filter (fun w => w.target != h.src || epochNewer w.wseq ack)
      let failed := status ≠ 0 ∧ u.fab.writes.any (fun w => w.target == h.src && w.tag == h.tag && w.aperture) = true
      calm left →
      (u.fab.reads.find? (fun x => x.tag == h.tag && x.target == h.src) = none → ¬ failed → Gives .raRsp s (fun t =>
        t = { u with fab := { u.fab with writes := left } })) ∧
      (u.fab.reads.find? (fun x => x.tag == h.tag && x.target == h.src) = none → failed → Gives .raRsp s (fun t => irq4 s.outputs t ∧
        t = { u with regs := t.regs, flt := t.flt, outputs := t.outputs, fab := { u.fab with writes := left } })) ∧
      (∀ x : RaRead, u.fab.reads = [x] → x.tag = h.tag → x.target = h.src → u.fab.writes = [] →
        let bytes := (f.data.drop 4).take (4 * x.words)
        (∀ k : Nat, status = 0 → u.fab.hostReads = [{ tag := k, parts := [(x.tag, none)] }] → Gives .raRsp s (fun t =>
          t = { u with outputs := .completion (some (leNat bytes)) :: s.outputs, fab := { u.fab with reads := [], hostReads := [] } })) ∧
        (∀ k j : Nat, status = 0 → u.fab.hostReads = [{ tag := k, parts := [(x.tag, none), (j, none)] }] → j ≠ x.tag → Gives .raRsp s (fun t =>
          t = { u with fab := { u.fab with reads := [], hostReads := [{ tag := k, parts := [(x.tag, some bytes), (j, none)] }] } })) ∧
        (∀ k : Nat, 2 ≤ status → u.fab.hostReads = [{ tag := k, parts := [(x.tag, none)] }] → Gives .raRsp s (fun t => irq4 (.completion none :: s.outputs) t ∧
          t.dev.aer.toNat.testBit 15 = true ∧
          t = { u with regs := t.regs, flt := t.flt, outputs := t.outputs, dev := { s.dev with aer := t.dev.aer }, fab := { u.fab with reads := [], hostReads := [] } })) ∧
        (status ≠ 1 → u.fab.hostReads = [] → Gives .raRsp s (fun t => t = { u with fab := { u.fab with reads := [] } })) ∧
        (status = 1 → Gives .raRsp s (fun t => s.counts t (FAB_CNT 8) ∧ s.onlyRegs t [FAB_CNT 8] ∧
          t = { u with regs := t.regs, fab := { u.fab with reads := [{ x with retry := true }] } })))) ∧
    (∀ (tag : Nat) (x : RaRead), s.fab.reads = [x] → x.tag = tag →
      (x.retry = true → Gives (.raReadReissue tag) s (fun t => t = State.readSend ({ s with fab := { s.fab with reads := [{ x with retry := false }] } } : State) x)) ∧
      (x.retry = false → Gives (.raReadReissue tag) s (fun t => t = s))) ∧
    (∀ (d : Fin 32) (w : RaWrite), s.fab.writes.filter (fun w => w.target == d.val && w.sent) = [w] →
      Gives (.raWriteResend d) s (fun t => t = s.raSend d w.tag w.req)) ∧
    (∀ d : Fin 32, s.fab.writes.filter (fun w => w.target == d.val && w.sent) = [] → Gives (.raWriteResend d) s (fun t => t = s)) ∧
    (∀ tag : Nat, s.fab.reads.any (fun x => x.tag == tag) = true →
      Gives (.raTimeout tag) s (fun t => s.counts t (FAB_CNT 9) ∧ s.posts t 0x0A11 3 noInst ∧ s.onlyRegs t [FAB_CNT 9] ∧
        t = { s with regs := t.regs, flt := t.flt, fab := { s.fab with reads := s.fab.reads.filter (fun x => x.tag != tag) } })) ∧
    (∀ (tag : Nat) (w : RaWrite), s.fab.reads.any (fun x => x.tag == tag) = false → s.fab.writes.find? (fun x => x.tag == tag) = some w →
      calm s.fab.writes →
      let left := { s.fab with writes := s.fab.writes.filter (fun x => x.tag != tag) }
      (w.aperture = false → Gives (.raTimeout tag) s (fun t => s.counts t (FAB_CNT 9) ∧ s.posts t 0x0A11 3 noInst ∧ s.onlyRegs t [FAB_CNT 9] ∧
        t = { s with regs := t.regs, flt := t.flt, fab := left })) ∧
      (w.aperture = true → Gives (.raTimeout tag) s (fun t => s.counts t (FAB_CNT 9) ∧ s.tells t 2 0x0A11 3 noInst ∧
        (t.rd FAB_IRQ_STATUS).toNat.testBit 4 = true ∧ s.onlyRegs t [FAB_CNT 9, FAB_IRQ_STATUS, FAB_PBA] ∧
        t = { s with regs := t.regs, flt := t.flt, outputs := t.outputs, fab := left }))) ∧
    (∀ tag : Nat, s.fab.reads.any (fun x => x.tag == tag) = false → s.fab.writes.find? (fun x => x.tag == tag) = none →
      Gives (.raTimeout tag) s (fun t => t = s)) ∧
    (∀ (tag : Nat) (y : HostRead), s.fab.hostReads.find? (fun y => y.parts.any (fun p => p.1 == tag)) = some y →
      Gives (.apertureReadTimeout tag) s (fun t => irq4 (.completion none :: s.outputs) t ∧ t.dev.aer.toNat.testBit 15 = true ∧
        t = { s with regs := t.regs, flt := t.flt, outputs := t.outputs, dev := { s.dev with aer := t.dev.aer }, fab := { s.fab with
          reads := s.fab.reads.filter (fun x => !y.parts.any (fun p => p.1 == x.tag)), hostReads := s.fab.hostReads.filter (fun z => z.tag != y.tag) } })) ∧
    (∀ tag : Nat, s.fab.hostReads.find? (fun y => y.parts.any (fun p => p.1 == tag)) = none → Gives (.apertureReadTimeout tag) s (fun t => t = s))

/-- The engine lock and the shared engine (R265, R340, R342, R347 to R352, R356). The warden's request queues once; its release frees the lock or withdraws the request. An idle engine goes to the head of the queue; a keeper's operation begins with its grant, from the descriptor in its private or shared data, and elsewhere ends BAD_DESC. An operation's setup refuses a bad field or range, then an empty slot, then a use that the slot's attributes deny. A keeper's request that waits too long ends with LOCK_TIMEOUT; the hold limit ends the warden's operations with HOLD_EXCEEDED. The warden's operation needs the lock. An operation that ends is counted and gives its result; one that fails its tag or its setup stores nothing, another stores its output and its tag. A keeper's operation frees the lock. A random word leaves its queue; a health failure restarts the generator, and the third in one reseed interval fails it; a reseed begins a new interval unless it has failed. -/
def Obligations.EngineLock : Prop :=
  ∀ (s : State) (m : Master) (v : Word),
    let q := s.sec.queue
    let free : SecState := if s.sec.owner = some 64 then { s.sec with owner := none } else { s.sec with queue := q.filter (· != 64) }
    let only := fun (t : State) (l : List Nat) => s.onlyRegs t l ∧ t = { s with regs := t.regs, flt := t.flt, sec := t.sec }
    let words := (List.range 8).map (fun k => (s.rd (SEC_ENG_DESC k)).toNat)
    let counted := fun (t : State) (r : Nat) => t.rd (SEC_CNT 0) = s.rd (SEC_CNT 0) + 1 ∧
      (r = 8 → s.counts t (SEC_CNT 1)) ∧ (r = 9 → s.counts t (SEC_CNT 2)) ∧ (r = 10 → s.counts t (SEC_CNT 3)) ∧ (r = 11 → s.counts t (SEC_CNT 4))
    let counters := fun r : Nat => SEC_CNT 0 :: (if 8 ≤ r ∧ r ≤ 11 then [SEC_CNT (r - 7)] else [])
    let shown := fun (t : State) (r : Nat) => t.fld SEC_ENG_STATUS SEC_ENG_STATUS_result = r ∧ t.fld SEC_ENG_STATUS SEC_ENG_STATUS_done = 1 ∧
      t.fld SEC_ENG_CMD SEC_ENG_CMD_busy = 0
    let keeper := fun (t : State) (c : Fin 64) (iv : Invocation) (r : Nat) =>
      t.inv c = some { iv.setG (Fin.ofNat 32 iv.ciphRd) (BitVec.ofNat 32 r) with wait := .none, pc := iv.pc + 4 } ∧
      (∀ k, k ≠ c.val → t.inv k = s.inv k) ∧ (∀ k, k ≠ iv.ev.routine → t.rt k = s.rt k) ∧
      t.rt iv.ev.routine = { s.rt iv.ev.routine with cnt := (t.rt iv.ev.routine).cnt } ∧ (r = 0 → t.rt iv.ev.routine = s.rt iv.ev.routine) ∧
      (r ≠ 0 → (s.rt iv.ev.routine).cnt.length = 9 → (t.rt iv.ev.routine).cnt.getD 7 0 = min ((s.rt iv.ev.routine).cnt.getD 7 0 + 1) (2 ^ 32 - 1))
    (s.writable m SEC_LOCK_REQ →
      (v.toNat.testBit 1 = false → Gives (.req m v) s (fun t =>
        t = if s.sec.owner = some 64 ∨ 64 ∈ q then s.seen m else { s.seen m with sec := { s.sec with queue := q ++ [64] } })) ∧
      (v.toNat.testBit 1 = true → Gives (.req m v) s (fun t => t = { s.seen m with sec := free })) ∧
      Gives (.release m v) s (fun t => t = { s.seen m with sec := free })) ∧
    (s.sec.owner ≠ none ∨ s.sec.eng ≠ none ∨ s.sec.kop ≠ none ∨ q = [] → Gives .lockGrant s (fun t => t = s)) ∧
    (∀ rest : List Nat, s.sec.owner = none → s.sec.eng = none → s.sec.kop = none → q = 64 :: rest →
      Gives .lockGrant s (fun t => t = { s with sec := { s.sec with owner := some 64, queue := rest } })) ∧
    (∀ (c : Fin 64) (rest : List Nat), s.sec.owner = none → s.sec.eng = none → s.sec.kop = none → q = c.val :: rest →
      let granted := fun e : SecOp => ({ s with sec := { s.sec with owner := some c.val, queue := rest, eng := some e } } : State)
      (∀ (iv : Invocation) (p : KPlace), s.inv c = some iv → iv.ciphAt % 4 = 0 → s.range iv.ev.routine iv.ciphAt 32 = some p → p.win = .priv ∨ p.win = .shared →
        let d := (List.range 8).map (fun k => leNat (s.viewBytes c iv (iv.ciphAt + 4 * k) 4))
        Gives .lockGrant s (fun t => t = granted { req := c, desc := d, slot := (descOf d).slot, key := s.slotKey (descOf d).slot, early := s.opRefusal c d })) ∧
      (∀ iv : Invocation, s.inv c = some iv → iv.ciphAt % 4 ≠ 0 ∨ (∀ p : KPlace, s.range iv.ev.routine iv.ciphAt 32 = some p → p.win ≠ .priv ∧ p.win ≠ .shared) →
        Gives .lockGrant s (fun t => t = granted { req := c, desc := [], slot := 64, key := [], early := some 13 })) ∧
      (s.inv c = none → Gives .lockGrant s (fun t => t = { s with sec := { s.sec with queue := rest } }))) ∧
    (∀ (r : Nat) (w : List Nat),
      let d := descOf w
      let a := s.slotAttr d.slot
      let usage := if d.alg ≤ 2 then a.testBit 10 else if d.alg ≤ 4 then a.testBit 11 else if d.alg = 5 then a.testBit 12 else a.testBit 13
      let keyKind := if d.alg ≤ 5 then attrType a ≤ 1 else attrType a = 2
      let bad := Desc.fieldsOk w = false ∨ ∃ x ∈ d.ranges, s.rangeOk r x = false
      (bad → s.opRefusal r w = some 13) ∧ (¬bad → a.testBit 0 = false → s.opRefusal r w = some 10) ∧
      (¬bad → a.testBit 0 = true → usage = false ∨ ¬keyKind ∨ (r = 64 ∧ a.testBit 17 = false) ∨ (r ≠ 64 ∧ a.testBit 16 = false) ∨
        (∃ iv : Invocation, r ≠ 64 ∧ s.inv r = some iv ∧ (s.routine iv.ev.routine).keyMask.testBit d.slot = false) → s.opRefusal r w = some 11) ∧
      (¬bad → a.testBit 0 = true → usage = true → keyKind → r = 64 → a.testBit 17 = true → s.opRefusal r w = none) ∧
      (∀ iv : Invocation, ¬bad → a.testBit 0 = true → usage = true → keyKind → r ≠ 64 → a.testBit 16 = true → s.inv r = some iv →
        (s.routine iv.ev.routine).keyMask.testBit d.slot = true → s.opRefusal r w = none)) ∧
    (∀ c : Fin 64, c.val ∉ q → Gives (.lockTimeout c) s (fun t => t = s)) ∧
    (∀ c : Fin 64, c.val ∈ q →
      (s.inv c = none → Gives (.lockTimeout c) s (fun t => t = { s with sec := { s.sec with queue := q.filter (· != c.val) } })) ∧
      (∀ iv : Invocation, s.inv c = some iv → Gives (.lockTimeout c) s (fun t => keeper t c iv 12 ∧ s.counts t (SEC_CNT 5) ∧
        (s.mayRaise 0x0C07 iv.ev.routine = true → s.posts t 0x0C07 2 (iv.ev.routine % 4096)) ∧ s.onlyRegs t [SEC_CNT 5] ∧
        t = { s with regs := t.regs, flt := t.flt, kpr := { s.kpr with run := t.kpr.run, rts := t.kpr.rts }, sec := { s.sec with queue := q.filter (· != c.val) } }))) ∧
    (s.sec.owner ≠ some 64 → Gives .holdExceeded s (fun t => t = s)) ∧
    (s.sec.owner = some 64 → (∀ e : SecOp, s.sec.eng = some e → e.req = 64) → Gives .holdExceeded s (fun t =>
      t.sec = { s.sec with owner := none, eng := none, kop := none } ∧ t.fld SEC_LOCK_STATUS SEC_LOCK_STATUS_hold_exceeded = 1 ∧
      s.counts t (SEC_CNT 6) ∧ s.posts t 0x0B01 3 noInst ∧ (s.sec.eng ≠ none → counted t 14 ∧ shown t 14) ∧
      (s.sec.kop ≠ none → t.fld SEC_KOP_STATUS SEC_KOP_STATUS_result = 9 ∧ t.fld SEC_KOP_STATUS SEC_KOP_STATUS_done = 1 ∧
        t.fld SEC_KOP_CMD SEC_KOP_CMD_busy = 0 ∧ ∀ j < 20, t.rd (SEC_KOP_DATA j) = 0) ∧
      only t ([SEC_LOCK_STATUS, SEC_CNT 6] ++ (if s.sec.eng ≠ none then [SEC_ENG_STATUS, SEC_ENG_CMD, SEC_CNT 0] else []) ++
        (if s.sec.kop ≠ none then SEC_KOP_CMD :: SEC_KOP_STATUS :: (List.range 20).map SEC_KOP_DATA else [])))) ∧
    (s.writable m SEC_ENG_CMD →
      (s.fldB SEC_ENG_CMD SEC_ENG_CMD_busy = true → Gives (.engineGo m v) s (fun t => t = s.seen m)) ∧
      (s.fldB SEC_ENG_CMD SEC_ENG_CMD_busy = false → s.sec.owner = some 64 → Gives (.engineGo m v) s (fun t =>
        t.fld SEC_ENG_CMD SEC_ENG_CMD_busy = 1 ∧ s.onlyRegs t [SEC_ENG_CMD] ∧ t = { s.seen m with regs := t.regs, sec := { s.sec with
          eng := some { req := 64, desc := words, slot := (descOf words).slot, key := s.slotKey (descOf words).slot, early := s.opRefusal 64 words } } })) ∧
      (s.fldB SEC_ENG_CMD SEC_ENG_CMD_busy = false → s.sec.owner ≠ some 64 → Gives (.engineGo m v) s (fun t => shown t 15 ∧ counted t 15 ∧
        s.onlyRegs t [SEC_ENG_STATUS, SEC_CNT 0] ∧ t = { s.seen m with regs := t.regs }))) ∧
    (s.sec.eng = none → Gives .cipherOperationEnd s (fun t => t = s)) ∧
    (∀ e : SecOp, s.sec.eng = some e →
      let d := descOf e.desc
      let out := opCompute d e.key (s.opBytes e.req d.src d.len) (s.opBytes e.req d.aad d.aadLen) (s.opBytes e.req d.iv (if d.alg = 5 then 16 else 12)) (s.opBytes e.req d.tag d.tagLen)
      let res := match e.early with
        | some r => r
        | none => if out.isSome then 0 else 8
      let stored := match e.early, out with
        | none, some o => (s.opWrite e.req d.dst o.1).opWrite e.req d.tag o.2
        | _, _ => s
      (e.req = 64 → res < 16 → Gives .cipherOperationEnd s (fun t => t.sec = { s.sec with eng := none } ∧ shown t res ∧ counted t res ∧ t.mem = stored.mem ∧
        s.onlyRegs t ([SEC_ENG_STATUS, SEC_ENG_CMD] ++ counters res) ∧ t = { s with regs := t.regs, mem := t.mem, sec := t.sec })) ∧
      (∀ (c : Fin 64) (iv : Invocation), e.req = c.val → s.inv c = some iv → Gives .cipherOperationEnd s (fun t =>
        t.sec = { s.sec with eng := none, owner := none } ∧ keeper t c iv res ∧ counted t res ∧ t.mem = stored.mem ∧ s.onlyRegs t (counters res) ∧
        t = { s with regs := t.regs, mem := t.mem, sec := t.sec, kpr := { s.kpr with run := t.kpr.run, rts := t.kpr.rts, emitBuf := stored.kpr.emitBuf } }))) ∧
    (∀ (d : Desc) (key msg aad iv tag : List Byte),
      let o := opCompute d key msg aad iv tag
      (d.alg = 1 → o = some ([], (aesCmac key msg).take d.tagLen)) ∧
      (d.alg = 2 → o = if (aesCmac key msg).take d.tagLen = tag then some ([], []) else none) ∧
      (d.alg = 3 → o = some (gcmCrypt key iv msg, (gcmTag key iv aad (gcmCrypt key iv msg)).take d.tagLen)) ∧
      (d.alg = 4 → o = if (gcmTag key iv aad msg).take d.tagLen = tag then some (gcmCrypt key iv msg, []) else none) ∧
      (d.alg = 5 → o = some (aesCtr 32 key iv msg, [])) ∧
      (d.alg = 6 → o = some ([], (hmac256 key msg).take d.tagLen)) ∧
      (d.alg = 7 → o = if (hmac256 key msg).take d.tagLen = tag then some ([], []) else none)) ∧
    (s.writable m SEC_RNG_ACK → Gives (.rngAck m v) s (fun t => t = { s.seen m with sec := { s.sec with rng := s.sec.rng.tail } })) ∧
    (let fails := decide (2 ≤ s.sec.failures) && !s.fldB SEC_RNG_STATUS SEC_RNG_STATUS_failed
     Gives .trngHealthFail s (fun t => t.sec = { s.sec with failures := s.sec.failures + 1 } ∧ t.fld SEC_RNG_STATUS SEC_RNG_STATUS_health_fail = 1 ∧
        t.fld SEC_RNG_STATUS SEC_RNG_STATUS_restarts = min (s.fld SEC_RNG_STATUS SEC_RNG_STATUS_restarts + 1) 255 ∧
        t.fldB SEC_RNG_STATUS SEC_RNG_STATUS_failed = (s.fldB SEC_RNG_STATUS SEC_RNG_STATUS_failed || fails) ∧ s.tells t 2 0x0B04 3 noInst ∧
        (fails = true → s.tells t 2 0x0B05 5 noInst) ∧ only t [SEC_RNG_STATUS])) ∧
    (s.fldB SEC_RNG_STATUS SEC_RNG_STATUS_failed = false → Gives .drbgReseed s (fun t => t = { s with sec := { s.sec with failures := 0, requests := 0 } })) ∧
    (s.fldB SEC_RNG_STATUS SEC_RNG_STATUS_failed = true → Gives .drbgReseed s (fun t => t = s))

/-- A key operation in progress ends with its effect (R341, R344 to R346, R354); another one's end does nothing. One whose source slot was erased ends KEY_ERASED. UNWRAP loads the slot that the blob names, or ends UNWRAP_FAIL with 0x0B07; WRAP gives the wrapped bytes; DERIVE and GENERATE load a key of the attributes' length, with its key check value; those who hold the slot's old key go on with it. ERASE empties the slot, where no engine operation and no port uses it without any other effect, and sets key_erased, with 0x0807, at the one port whose associations name it. A hash starts, takes a range of bytes in warden SRAM or MRAM for a time, answers BAD to any other range, and gives its digest; while it is busy a write does nothing; a signature is verified to its result, and the attestation key signs over a random salt, or answers 3 where the device has none (R386). -/
def Obligations.KeyOperations : Prop :=
  ∀ s : State,
    let data := (List.range 20).map SEC_KOP_DATA
    let kregs := SEC_KOP_CMD :: SEC_KOP_STATUS :: data
    let ended := fun (t : State) (res : Nat) (out : List Byte) => t.fld SEC_KOP_STATUS SEC_KOP_STATUS_result = res ∧
      t.fld SEC_KOP_STATUS SEC_KOP_STATUS_done = 1 ∧ t.fld SEC_KOP_STATUS SEC_KOP_STATUS_out_len = out.length ∧ t.fld SEC_KOP_CMD SEC_KOP_CMD_busy = 0 ∧
      ∀ j < 20, t.rd (SEC_KOP_DATA j) = BitVec.ofNat 32 (leNat (slice (4 * j) 4 out))
    let loads := fun (t : State) (n attr : Nat) (key : List Byte) => ended t 0 [] ∧ t.rd (SEC_SLOT n) = BitVec.ofNat 32 (1 + attr / 2 % 2 ^ 18 * 2) ∧
      t.rd (SEC_SLOT_KCV n) = BitVec.ofNat 32 (leNat ((if attrType attr = 2 then hmac256 key [] else aesCmac key []).take 3)) ∧
      s.onlyRegs t (SEC_SLOT n :: SEC_SLOT_KCV n :: kregs) ∧
      t = { s.markStale n with free := t.free, regs := t.regs, sec := { (s.markStale n).sec with keys := tset [] s.sec.keys n key, kop := none, requests := t.sec.requests, failures := t.sec.failures } }
    let drawn := fun t : State => (s.sec.requests + 1 < 2 ^ 20 → t.sec.requests = s.sec.requests + 1 ∧ t.sec.failures = s.sec.failures) ∧
      (2 ^ 20 ≤ s.sec.requests + 1 → s.fldB SEC_RNG_STATUS SEC_RNG_STATUS_failed = false → t.sec.requests = 0 ∧ t.sec.failures = 0)
    let undrawn := fun t : State => t.free = s.free ∧ t.sec.requests = s.sec.requests ∧ t.sec.failures = s.sec.failures
    let gone := fun t : State => t = { s with regs := t.regs, flt := t.flt, sec := { s.sec with kop := none } }
    let held := fun (a n : Nat) => if isMram a then s.mramShown (a - 0x10000000) n else s.mbytes a n
    (∀ c ∈ ([(1, Instr.unwrap), (2, .wrap), (3, .derive), (4, .generate), (5, .erase)] : List (Nat × Instr)),
      ((∀ k : KopOp, s.sec.kop = some k → k.op ≠ c.1) → Gives c.2 s (fun t => t = s)) ∧
      (∀ k : KopOp, s.sec.kop = some k → k.op = c.1 → k.erased = true → Gives c.2 s (fun t => ended t 5 [] ∧ s.counts t (SEC_CNT 2) ∧
        s.onlyRegs t (SEC_CNT 2 :: kregs) ∧ gone t))) ∧
    (∀ k : KopOp, s.sec.kop = some k → k.erased = false →
      (k.op = 1 → k.dst < 64 → Gives .unwrap s (fun t =>
        (∀ pt : List Byte, kwUnwrap k.srcKey k.data = some pt → blobOk pt k.dst = true →
          undrawn t ∧ loads t k.dst (leNat (slice 0 4 pt)) (pt.drop 8)) ∧
        ((kwUnwrap k.srcKey k.data).all (fun pt => !blobOk pt k.dst) = true →
          ended t 4 [] ∧ s.posts t 0x0B07 4 noInst ∧ s.onlyRegs t kregs ∧ gone t))) ∧
      (k.op = 2 → Gives .wrap s (fun t =>
        ended t 0 (kwWrap k.kekKey (leBytes 4 (k.srcAttr / 2 % 2 ^ 18 * 2) ++ leBytes 4 k.src ++ k.srcKey)) ∧ s.onlyRegs t kregs ∧ gone t)) ∧
      (k.op = 3 → k.dst < 64 → Gives .derive s (fun t => undrawn t ∧ loads t k.dst k.attr (deriveKey k.srcKey k.data (attrLen k.attr)))) ∧
      (k.op = 4 → k.dst < 64 → Gives .generate s (fun t => drawn t ∧
        loads t k.dst k.attr ((List.range (k.attr / 8 % 32)).flatMap (fun i => leBytes 4 (Config.drbgWord (s.free + i)).toNat)))) ∧
      (k.op = 5 → k.dst < 64 →
        let named := fun p : Nat => (List.range 36).any (fun x => let w := (s.rd (0x20080200 + 0x1000 * p + 32 * x)).toNat; w.testBit 0 && bits 6 1 w == k.dst)
        let emptied := fun t : State => ended t 0 [] ∧ t.rd (SEC_SLOT k.dst) = 0 ∧ t.rd (SEC_SLOT_KCV k.dst) = 0 ∧ tget [] t.sec.keys k.dst = [] ∧
          (∀ n, n ≠ k.dst → tget [] t.sec.keys n = tget [] s.sec.keys n) ∧ t.sec = { s.sec with keys := t.sec.keys, kop := none }
        let quiet := s.sec.eng = none ∧ s.sw.xfers = [] ∧ ∀ p < 20, (s.port p).rx = none
        (quiet → (∀ p < 20, named p = false) → Gives .erase s (fun t => emptied t ∧ s.onlyRegs t (SEC_SLOT k.dst :: SEC_SLOT_KCV k.dst :: kregs) ∧
          t = { s with regs := t.regs, sec := t.sec })) ∧
        (∀ p : Fin 20, quiet → named p = true → (∀ x < 20, x ≠ p.val → named x = false) → Gives .erase s (fun t => emptied t ∧
          t.fld (ETH_SEC_STATUS p) ETH_SEC_STATUS_key_erased = 1 ∧ s.tells t 1 0x0807 3 p ∧ s.keeps t)))) ∧
    (∀ (m : Master) (v : Word), s.writable m SEC_SHA_CMD →
      let src := (s.rd SEC_SHA_SRC).toNat
      let len := s.fld SEC_SHA_LEN SEC_SHA_LEN_len
      let inRange := (0x01000000 ≤ src ∧ src + len ≤ 0x01400000) ∨ (0x10000000 ≤ src ∧ src + len ≤ 0x11000000)
      let does := fun (init update final : Bool) (t : State) =>
        (s.shaBusy = true → t = s.seen m) ∧ (s.shaBusy = false →
        t.sec = { s.sec with
          sha := (if init then [] else s.sec.sha) ++ (if update = true ∧ inRange then held src len else []),
          shaUntil := if update = true ∧ inRange then s.elapsed + shaTime len else s.sec.shaUntil } ∧
        t = { s.seen m with regs := t.regs, sec := t.sec } ∧ (final = false → ¬(update = true ∧ ¬ inRange) → t.regs = s.regs) ∧
        (update = true → ¬ inRange → t.rd SEC_PKA_STATUS = 6) ∧
        s.onlyRegs t ((if update = true ∧ ¬ inRange then [SEC_PKA_STATUS] else []) ++ if final then (List.range 8).map SEC_SHA_DIGEST else []) ∧
        (final = true → ∀ j < 8, t.rd (SEC_SHA_DIGEST j) = BitVec.ofNat 32 (leNat (slice (4 * j) 4 (sha256 t.sec.sha)))))
      Gives (.init m v) s (fun t => does true (v.toNat.testBit 1) (v.toNat.testBit 2) t) ∧ Gives (.update m v) s (fun t => does (v.toNat.testBit 0) true (v.toNat.testBit 2) t) ∧
      Gives (.final m v) s (fun t => does (v.toNat.testBit 0) (v.toNat.testBit 1) true t)) ∧
    ((∀ a : Nat, s.sec.pka ≠ some (1, a)) → Gives .verify s (fun t => t = s)) ∧
    ((∀ a : Nat, s.sec.pka ≠ some (2, a)) → Gives .attestSign s (fun t => t = s)) ∧
    (∀ a : Nat,
      let status := fun (t : State) (res : Nat) => t.rd SEC_PKA_STATUS = BitVec.ofNat 32 (4 + res) ∧ t.fld SEC_PKA_CMD SEC_PKA_CMD_busy = 0 ∧
        t.sec = { s.sec with pka := none, requests := t.sec.requests, failures := t.sec.failures } ∧ s.onlyRegs t [SEC_PKA_CMD, SEC_PKA_STATUS]
      (s.sec.pka = some (1, a) → Gives .verify s (fun t => undrawn t ∧
        status t (if rsaVerify (held a 384) (held (a + 384) 32) (held (a + 416) 384) then 0 else 1) ∧ t = { s with regs := t.regs, sec := t.sec })) ∧
      (s.sec.pka = some (2, a) → Gives .attestSign s (fun t =>
        (∀ k, Config.attestKey = some k → status t 0 ∧ drawn t ∧
          let salt := (List.range 8).flatMap (fun i => leBytes 4 (Config.drbgWord (s.free + i)).toNat)
          let sig := beBytes 384 (powMod k.1 3072 (beNat (pssEncode (held a 32) salt)) k.2 1)
          let w := ({ s with free := s.free + 8 } : State).mramStore (a + 32 - 0x10000000) sig
          (isMram (a + 32) = false → s.stores t (a + 32) sig ∧ t = { s with free := s.free + 8, regs := t.regs, mem := t.mem, sec := t.sec }) ∧
          (isMram (a + 32) = true → t = { w with regs := t.regs, sec := t.sec } ∧ w.onlyRegs t [SEC_PKA_CMD, SEC_PKA_STATUS])) ∧
        (Config.attestKey = none → status t 3 ∧ undrawn t ∧ t = { s with regs := t.regs, sec := t.sec }))))

/-- The command ring (R369, R436 to R442, R444). A valid write of prod appends the new indices to the commands that wait, in index order, and one that moves backwards or too far ahead only sets prod_err; a write of ack within done frees slots, and one beyond it only sets ack_err. While the warden serves and no command is in progress, a command at the front that is unknown, too long, from the fabric where it may not be, or not for recovery mode completes at once with its result, and then the next. A command of the ring that completes leaves its result words and its returned bytes in its slot, done one further and FAB_IRQ_STATUS.cmd set, and no other register changes. Nop answers OK, Read identity the device_id and the certificate. A command's event changes nothing unless the warden takes a command of its code. -/
def Obligations.CommandRing : Prop :=
  ∀ s : State,
    (∀ (m : Master) (v : Word), s.writable m SYS_CMD_PROD → ringMaster m = true →
      let n := v.toNat % 256
      (ahead n s.ringAck ≤ 8 → ahead s.ringProd s.ringAck ≤ ahead n s.ringAck → Gives (.prod m v) s (fun t =>
        t = (((s.seen m).setFld SYS_CMD_PROD SYS_CMD_PROD_prod n).setWrd { (s.seen m).wrd with
          arrivals := s.wrd.arrivals ++ (List.range (ahead n s.ringProd)).map (fun k => .ring ((s.ringProd + k) % 256) (m == .pcie) s.copying) }).served)) ∧
      (8 < ahead n s.ringAck ∨ ahead n s.ringAck < ahead s.ringProd s.ringAck → Gives (.prod m v) s (fun t =>
        t = (s.seen m).setFld SYS_CMD_STATUS SYS_CMD_STATUS_prod_err 1))) ∧
    (∀ (m : Master) (v : Word), s.writable m SYS_CMD_ACK → ringMaster m = true →
      let n := v.toNat % 256
      (ahead n s.ringAck ≤ ahead s.ringDone s.ringAck → Gives (.cmdAck m v) s (fun t => t = (s.seen m).setFld SYS_CMD_ACK SYS_CMD_ACK_ack n)) ∧
      (ahead s.ringDone s.ringAck < ahead n s.ringAck → Gives (.cmdAck m v) s (fun t => t = (s.seen m).setFld SYS_CMD_STATUS SYS_CMD_STATUS_ack_err 1))) ∧
    (s.serving = false ∨ s.wrd.inProgress = true ∨ s.wrd.arrivals = [] → s.served = s) ∧
    (∀ (a : Arrival) (rest : List Arrival), s.wrd.arrivals = a :: rest →
      let code := s.cmdCode
      let hold := s.dev.recovery = true ∧ ¬(a.fromHost = true ∧ (code = 0x0401 ∨ code = 0x0402 ∨ code = 0x0003))
      let barred := a.fromFabric = true ∧ (code = 0x0404 ∨ code = 0x0405 ∨ code = 0x0501)
      (hold → s.intake a = some 12) ∧ (¬hold → code ∉ commandCodes → s.intake a = some 2) ∧
      (¬hold → code ∈ commandCodes → barred → s.intake a = some 4) ∧
      (¬hold → code ∈ commandCodes → ¬barred → 4096 < s.cmdLen → s.intake a = some 3) ∧
      (¬hold → code ∈ commandCodes → ¬barred → s.cmdLen ≤ 4096 → s.intake a = none ∧ s.served = s)) ∧
    (∀ (i : Nat) (h d : Bool) (rest : List Arrival) (r : Nat), s.wrd.arrivals = .ring i h d :: rest → s.serving = true → s.wrd.inProgress = false →
      s.intake (.ring i h d) = some r → s.served = (s.post r).served) ∧
    (∀ (i : Nat) (h d : Bool) (rest : List Arrival) (res : Nat) (vals : List Nat) (out : List Byte), s.wrd.arrivals = .ring i h d :: rest →
      res < 256 → out.length ≤ 4096 →
      let t := s.post res vals out
      t.rd (resultAddr i 0) = BitVec.ofNat 32 (res + s.cmdCode * 256) ∧ t.rd (resultAddr i 1) = BitVec.ofNat 32 out.length ∧
      (∀ k < 6, t.rd (resultAddr i (k + 2)) = BitVec.ofNat 32 (vals.getD k 0)) ∧ t.regBytes (dataAddr i) out.length = out ∧
      t.ringDone = (i + 1) % 256 ∧ (t.rd FAB_IRQ_STATUS).toNat.testBit 1 = true ∧
      s.onlyRegs t ((List.range 8).map (resultAddr i) ++ (List.range ((out.length + 3) / 4)).map (fun k => dataAddr i + 4 * k) ++ [SYS_CMD_DONE, FAB_IRQ_STATUS, FAB_PBA]) ∧
      t = { s with regs := t.regs, outputs := t.outputs, wrd := { s.wrd with arrivals := rest, inProgress := false } }) ∧
    (s.taken 0x0001 = true → Gives .nopCommand s (fun t => t = (s.post 0).served)) ∧
    (s.taken 0x0002 = true → Gives .readIdentity s (fun t => t = (s.post 0 [ownId % 2 ^ 32, ownId / 2 ^ 32 % 2 ^ 32] (s.mram.certificate.take 4096)).served)) ∧
    (∀ c ∈ ([(0x0001, .nopCommand), (0x0002, .readIdentity), (0x0003, .reset), (0x0004, .sleep), (0x0101, .switchProfile), (0x0102, .setStartOptions),
        (0x0103, .setPolders), (0x0201, .admitStream), (0x0202, .removeStream), (0x0203, .addTrieEntry), (0x0204, .removeTrieEntry), (0x0205, .addMacEntry),
        (0x0206, .removeMacEntry), (0x0207, .flushMacTable), (0x0301, .resumeRoutine), (0x0302, .setKeeperPolders), (0x0401, .writeImageChunk),
        (0x0402, .installImage), (0x0403, .loadBundle), (0x0404, .programCustomerRoot), (0x0405, .revokeCustomerRoot), (0x0406, .attest),
        (0x0407, .scrubMram), (0x0501, .setRemoteAccess)] : List (Nat × Instr)), s.taken c.1 = false → Gives c.2 s (fun t => t = s))

/-- R439: SYS_CMD_PROD, SYS_CMD_ACK and the slots take writes of the PCIe host and of the debug port; a write of them by a remote fabric device, or by any other master, changes nothing. -/
def Obligations.RingWriters : Prop :=
  ∀ (s : State) (m : Master), s.running = true →
    (m ≠ .pcie → m ≠ .debug →
      (∀ v : Word, Gives (.prod m v) s (fun t => t = s) ∧ Gives (.cmdAck m v) s (fun t => t = s)) ∧
      (∀ (a : BitVec 40) (wide : Bool) (v : DWord),
        (0x20001000 ≤ a.toNat ∧ a.toNat < 0x20001400) ∨ (0x20008000 ≤ a.toNat ∧ a.toNat < 0x20010000) →
        a.toNat % (if wide then 8 else 4) = 0 →
        Gives (.registerWrite m a wide v) s (fun t => (∀ b, t.rd b = s.rd b) ∧ t = { s with regs := t.regs }))) ∧
    (m = .pcie ∨ m = .debug →
      (∀ v : Word, ahead (v.toNat % 256) s.ringAck ≤ 8 → ahead s.ringProd s.ringAck ≤ ahead (v.toNat % 256) s.ringAck →
        Gives (.prod m v) s (fun t => ∃ u : State, t = u.served ∧ u.ringProd = v.toNat % 256)) ∧
      (∀ v : Word, ahead (v.toNat % 256) s.ringAck ≤ ahead s.ringDone s.ringAck →
        Gives (.cmdAck m v) s (fun t => t.ringAck = v.toNat % 256)) ∧
      (∀ (k : Fin 8) (w : Fin 16) (v : DWord), s.slotTaken k = false →
        Gives (.registerWrite m (BitVec.ofNat 40 (entryAddr k w)) false v) s (fun t => t.rd (entryAddr k w) = v.truncate 32)) ∧
      (∀ (k : Fin 8) (w : Fin 1024) (v : DWord), s.slotTaken k = false →
        Gives (.registerWrite m (BitVec.ofNat 40 (dataAddr k + 4 * w)) false v) s (fun t => t.rd (dataAddr k + 4 * w) = v.truncate 32)))

/-- What these commands do once the warden takes them (R45, R69, R274, R290, R323, R443, R445, R447 to R449, R452, R453). Reset posts its result, saves the persistent blocks and starts the fatal sequence with cause 7. Sleep is BUSY while an image is being copied; with its handshakes done and its blocks saved it is declined with WAKE_PENDING, or takes the device into bank only; while the dike link is in use it waits (the model's choice, assumption 57). Switch profile waits for an update, for a switch under way and for full operation to be reached (the model's choice, assumption 50), answers at once for the profile in use, is refused with 0x0109 for an empty slot, a bundle that fails or a placement that is infeasible, shows in SYS_PROFILE and waits for the needs that its load brings, or fixes the instant S and the schedules that change. At S the differing entries are written, from when on the new profile's safe-state record and fault policy hold, and a switch that no fault asked for completes with 0x0108 once every schedule has taken effect; the one from cold forwarding ends in full operation. The start option is stored; the polders that R452 gives to the command go on at their reset values and off with what they hold, or the command is refused with 0x0107; keeper polders wait for the placer, and answer how many routines the new map sheds; a suspension ends with 0x0C04; remote access takes its three masks. -/
def Obligations.DeviceCommands : Prop :=
  ∀ s : State,
    let done := fun (u : State) (r : Nat) (vals : List Nat) => (u.post r vals).served
    (s.taken 0x0003 = true →
      let u := (s.post 0).saveBlocks
      Gives .reset s (fun t => u.stopped t 7 0 ∧
        t = { u with regs := t.regs, bank := t.bank, sw := t.sw, kpr := t.kpr, can := t.can, tm := t.tm, flt := t.flt, wrd := { u.wrd with safeCan := t.wrd.safeCan } } ∧
        (∀ a, a ∉ htrStatus ++ spillRegs → (a < FLT_SRC_LOST 1 ∨ FLT_SRC_LOST 16 < a) → (a < 0x200A0000 ∨ 0x200B8000 ≤ a) → t.rd a = u.rd a))) ∧
    (s.taken 0x0004 = true →
      let u := (s.sleepPorts.foldl (fun (x : State) p => (x.out (.tc10 p 0)).tc10Sleep p) (s.setJournal {})).saveBlocks
      let late := s.copying = true ∨ s.wrd.arrivals.head?.any Arrival.late = true
      (late → Gives .sleep s (fun t => t = done s 1 [])) ∧
      (¬late → s.bank.open_.isSome = true → Gives .sleep s (fun t => t = s)) ∧
      (¬late → s.dikeReady → s.sleepDeclined = true → Gives .sleep s (fun t => t = done (u.regWrite .warden BNK_CTL 2) 8 [] ∧
        t.dev.state = s.dev.state ∧ t.fld BNK_STATUS BNK_STATUS_sleep_declined = 1 ∧ t.bank.open_ = none)) ∧
      (¬late → s.dikeReady → s.sleepDeclined = false → Gives .sleep s (fun t => (u.post 0).logicLost t [BNK_CTL] ∧ t.dev.state = .bankOnly ∧
        t.bank.seq = .idle ∧ t.bank.enV18 = false ∧ t.bank.enVline = false ∧ t.bank.enVcore = false ∧ t.bank.fatals = [] ∧ t.bank.reduced = false))) ∧
    (s.taken 0x0101 = true →
      let p := s.arg 2 % 4
      let running := s.wrd.run.isSome ∨ s.wrd.cold.isSome
      let ready := s.updating = false ∧ 2 ≤ s.phase ∧ s.wrd.switching = none
      let refused := s.raise 0x0109 3
      let shown := fun (u : State) (on slot : Nat) => (u.setFld SYS_PROFILE SYS_PROFILE_switching on).setFld SYS_PROFILE SYS_PROFILE_target slot
      (¬ready → Gives .switchProfile s (fun t => t = s)) ∧
      (ready → running → s.activeProfile = p → Gives .switchProfile s (fun t => t = done s 0 [])) ∧
      (ready → ¬(running ∧ s.activeProfile = p) → s.slotHolds p = false → Gives .switchProfile s (fun t => t = done refused 13 [])) ∧
      (ready → ¬(running ∧ s.activeProfile = p) → s.slotHolds p = true → Gives .switchProfile s (fun t =>
        let used := s.cekUsed (profileBase p)
        (s.bundleAt p = none → t = done (used.raise 0x0109 3) 10 [(Config.reasonCode (s.profileReason p)).toNat]) ∧
        (∀ (b : Bundle) (e : Nat), s.bundleAt p = some b → s.bank.reduced = false → s.programPlan b.program false = .error e →
          t = done (((used.setFld PLC_STATUS PLC_STATUS_infeasible 1).raise 0x0D02 3 e).raise 0x0109 3) 7 [e]) ∧
        (∀ (b : Bundle) (pl : Plan), s.bundleAt p = some b → s.bank.reduced = true ∨ s.programPlan b.program false = .ok pl →
          let load := s.switchLoad { slot := p, bundle := b, command := true, instant := 0, ports := [] } false
          let gate := s.loadGate .program load
          (gate = .wait → t = s) ∧ (gate = .ask → t = shown (s.askNeeds .program load) 1 p) ∧
          (gate = .refused → t = done ((((shown s.dropRise 0 0).cekUsed (profileBase p)).infeasible noInst).raise 0x0109 3) 7 [])) ∧
        (∀ (b : Bundle) (pl : Plan), s.bundleAt p = some b → s.bank.reduced = true ∨ s.programPlan b.program false = .ok pl →
          s.loadGate .program (s.switchLoad { slot := p, bundle := b, command := true, instant := 0, ports := [] } false) = .go →
          let ps := schedulesDiffer s.runSettings (s.newSettings b)
          (∃ at_ : Nat, t.wrd.switching = some { slot := p, bundle := b, command := true, instant := at_, ports := ps } ∧ s.tide.toNat + 1000000 ≤ at_ ∧
            (ps = [] → at_ = s.tide.toNat + 1000000)) ∧ t.wrd.inProgress = true ∧ t.wrd.arrivals = s.wrd.arrivals ∧
          t.fld SYS_PROFILE SYS_PROFILE_switching = 1 ∧ t.fld SYS_PROFILE SYS_PROFILE_target = p ∧ t.activeProfile = s.activeProfile ∧
          t.dev = s.dev ∧ t.bank = s.bank ∧ t.mram = s.mram ∧ t.otp = s.otp ∧ t.plc = s.plc)))) ∧
    (s.wrd.switching = none → s.profileNow = s.wrd.run) ∧
    (∀ x : Switching, s.wrd.switching = some x → s.profileNow = if x.written then some x.bundle else s.wrd.run) ∧
    (s.wrd.switching = none → Gives .switchInstant s (fun t => t = s)) ∧
    (∀ x : Switching, s.wrd.switching = some x →
      let pendings := fun u : State => x.ports.all (fun p => (u.tideOf p).pending.isNone)
      let w := s.applySettings s.runSettings (s.newSettings x.bundle) x.ports
      let u : State := { w with wrd := { w.wrd with switching := some { x with written := true } } }
      let ends := fun (v t : State) => t.wrd.switching = none ∧ t.wrd.run = some x.bundle ∧ t.wrd.cold = some x.bundle.cold ∧ t.activeProfile = x.slot ∧
        t.bootProfile = x.slot ∧ t.fld SYS_PROFILE SYS_PROFILE_switching = 0 ∧ v.tells t 2 0x0108 1 noInst ∧
        (s.dev.state = .full → s.bank.reduced = false → t.dev = s.dev ∧
          t.plc.trigger = s.plc.trigger ++ [.program x.bundle.program x.bundle.digest x.update])
      let starts := fun t : State => t.wrd.switching = none ∧ t.wrd.run = some x.bundle ∧ t.wrd.cold = some x.bundle.cold ∧ t.dev.state = .full ∧
        t.phase = 3 ∧ t.plc.prog = x.bundle.program
      (x.written = false → s.tide.toNat < x.instant → Gives .switchInstant s (fun t => t = s)) ∧
      (x.written = false → x.instant ≤ s.tide.toNat → pendings u = false → Gives .switchInstant s (fun t => t = u)) ∧
      (x.written = false → x.instant ≤ s.tide.toNat → pendings u = true → x.start = none → x.fault = none → x.slot < 4 → Gives .switchInstant s (fun t => ends u t)) ∧
      (x.written = false → x.instant ≤ s.tide.toNat → pendings u = true → x.start.isSome = true → Gives .switchInstant s (fun t => starts t)) ∧
      (x.written = true → pendings s = false → Gives .switchInstant s (fun t => t = s)) ∧
      (x.written = true → pendings s = true → x.start = none → x.fault = none → x.slot < 4 → Gives .switchInstant s (fun t => ends s t)) ∧
      (x.written = true → pendings s = true → x.start.isSome = true → Gives .switchInstant s (fun t => starts t))) ∧
    (s.taken 0x0102 = true →
      (s.arg 2 % 8 ≤ 4 → Gives .setStartOptions s (fun t => t = done { s with mram := { s.mram with fallback := s.arg 2 % 8 } } 0 [])) ∧
      (4 < s.arg 2 % 8 → Gives .setStartOptions s (fun t => t = done s 3 []))) ∧
    (s.taken 0x0103 = true →
      let on := s.arg 2 % 4096
      let off := s.arg 3 % 4096
      let mayOff := fun n : Nat => (s.fld SYS_POLDER SYS_POLDER_permit_off).testBit n = true ∧
        (n = 2 → ∀ p < 8, s.fld (ETH_PHY_CFG p) ETH_PHY_CFG_en = 0) ∧ (n = 3 → ∀ p < 20, s.fld (ETH_PHY_CFG (p + 8)) ETH_PHY_CFG_en = 0) ∧
        (n = 8 → (∀ p < 8, s.portEn p = false) ∧ ∀ b < 4, s.spillIn b = 0)
      let bad := ∃ n < 12, (on.testBit n = true ∧ (n ∉ [2, 3, 8] ∨ off.testBit n = true)) ∨ (off.testBit n = true ∧ (n ∉ [2, 3, 8] ∨ ¬mayOff n))
      let after := fun (u : State) (n : Nat) => if on.testBit n then true else if off.testBit n then false else s.isPolderOn n
      let u := ((polderList on).filter (fun n => on.testBit n && !s.isPolderOn n)).foldl State.polderOn (((polderList off).filter s.isPolderOn).foldl State.polderOff s)
      (bad → Gives .setPolders s (fun t => t = done (s.raise 0x0107 2) 5 [0x0107])) ∧
      (¬bad → Gives .setPolders s (fun t => t = done u 0 [] ∧ (∀ n < 12, t.isPolderOn n = after t n) ∧
        (off.testBit 2 = true → s.isPolderOn 2 = true → ∀ p < 8, t.rd (ETH_PHY_CFG p) = regDefault (ETH_PHY_CFG p)) ∧
        (off.testBit 3 = true → s.isPolderOn 3 = true → ∀ p < 20, t.rd (ETH_PHY_CFG (p + 8)) = regDefault (ETH_PHY_CFG (p + 8))) ∧
        (on = 0 → off.testBit 8 = true → s.isPolderOn 8 = true → ∀ (id : Nat) (f : Frame), s.frame id = some f → f.bank < 4 → f.residue ≠ [] → t.frame id = none)))) ∧
    (s.taken 0x0302 = true →
      let u := s.wr PLC_KPOLDER (BitVec.ofNat 32 (s.arg 2 % 4))
      let shed := fun (x : State) (r : Nat) => x.fldB (PLC_MAP r) PLC_MAP_shed
      let free := s.plc.batch = [] ∧ s.plc.trigger = [] ∧ s.wrd.switching = none
      let gate := s.loadGate .placement (s.poldersCommit false)
      (¬free → Gives .setKeeperPolders s (fun t => t = s)) ∧
      (free → s.dev.state ≠ .full → Gives .setKeeperPolders s (fun t => t = done u 0 [])) ∧
      let after := fun (refused : Bool) =>
        let v := if refused then s.dropRise else s
        let w := (v.wr PLC_KPOLDER (BitVec.ofNat 32 (s.arg 2 % 4))).commitDerived (fun _ => false) refused
        done w 0 [((List.range w.plc.prog.routines.length).filter (fun r => shed w r && !(shed s r && decide (r < s.plc.prog.routines.length)))).length]
      (free → s.dev.state = .full → gate = .wait → Gives .setKeeperPolders s (fun t => t = s)) ∧
      (free → s.dev.state = .full → s.hlt.asked = none → Gives .setKeeperPolders s (fun t => gate = .ask → t = s.askNeeds .placement (s.poldersCommit false))) ∧
      (free → s.dev.state = .full → gate = .go → Gives .setKeeperPolders s (fun t => t = (after false).needsDone)) ∧
      (free → s.dev.state = .full → gate = .refused → Gives .setKeeperPolders s (fun t => t = after true))) ∧
    (s.taken 0x0301 = true →
      let r := s.arg 2 % 1024
      ((s.rt r).suspended = false → Gives .resumeRoutine s (fun t => t = done s 0 [])) ∧
      ((s.rt r).suspended = true → Gives .resumeRoutine s (fun t =>
        t = done ((s.setRt r { s.rt r with suspended := false, abortRun := 0 }).raise 0x0C04 0 r) 0 []))) ∧
    (s.taken 0x0501 = true → Gives .setRemoteAccess s (fun t => t = done (((s.wr FAB_RA_ALLOW (BitVec.ofNat 32 (s.arg 2))).wr FAB_RA_ALLOW_W
      (BitVec.ofNat 32 (s.arg 3))).wr FAB_CMD_ALLOW (BitVec.ofNat 32 (s.arg 4))) 0 [] ∧
      t.rd FAB_RA_ALLOW = BitVec.ofNat 32 (s.arg 2) ∧ t.rd FAB_RA_ALLOW_W = BitVec.ofNat 32 (s.arg 3) ∧ t.rd FAB_CMD_ALLOW = BitVec.ofNat 32 (s.arg 4)))

/-- The table commands once the warden takes them (R45, R115, R135, R137, R138, R140, R221, R223, R227, R445). A stream entry in range waits for the needs raised for it, or is refused with them (the model's choice, assumption 98); otherwise it takes the lowest free handle, and a further member the handle after its group (the model's choice, assumption 58), with its key in the trie; members and contexts over their limits are refused with 0x0702, no handle with 0x0701, CSG_REFUSED and a marker in the trie. The entry then stands as its bytes say, bound to policer 0 with 0x0501 where it asks for one and none is free. Removing a stream takes its key and its entries away, or the marker alone. A trie entry takes a free leaf, or is refused whole with 0x0601; a removed leaf waits two epochs. A MAC entry replaces its own, fills the lowest empty way, evicts a dynamic way with 0x0603, or is refused with 0x0608; a flush removes exactly the entries that its mask names. What does not exist answers NOT_FOUND, an argument out of range BAD_ARG. -/
def Obligations.TableCommands : Prop :=
  ∀ s : State,
    let done := fun (u : State) (r : Nat) (vals : List Nat) => (u.post r vals).served
    (s.taken 0x0201 = true →
      let bs := s.cmdData
      let w0 := leNat (slice 0 4 bs)
      let kt := bits 2 1 w0
      let role := bits 10 9 w0
      let word := streamWordOf kt (leNat (slice 16 8 bs))
      let ctx := leNat (slice 8 4 bs) % 512
      let ctxs := (s.members.map (fun h => (s.stream h).ctx)).dedup
      let good := s.cmdLen = 32 ∧ bit 0 w0 = true ∧ role ≠ 3 ∧ ¬(role = 2 ∧ kt = 0)
      let excess := role = 2 ∧ (1024 ≤ s.members.length ∨ (ctx ∉ ctxs ∧ 512 ≤ ctxs.length))
      let group := if role = 2 then s.memberGroup word kt else []
      let unbound := fun h : Nat => decide (bits 27 16 w0 ≠ 0) && s.policersTaken h
      let stands := fun (t : State) (h : Nat) => t.stream h = { t.stream h with valid := true, keyType := kt, inPort := bits 7 3 w0, anyPort := bit 8 w0, role := role, tc := bits 13 11 w0, policer := if unbound h then 0 else bits 27 16 w0 } ∧
        (∀ k < 16384, k ≠ h → t.stream k = s.stream k)
      let marked := if kt = 0 then s else (s.trieInsert { word := word, result := 2 ^ 31, len := 64, valid := true, ty := kt }).1
      let full := ((marked.bump CSG_REFUSED).setFld CSG_STATUS CSG_STATUS_table_full 1).raise 0x0701 2
      (¬good → Gives .admitStream s (fun t => t = done s 3 [])) ∧
      let load := s.admitEntry bs word kt role
      let goes := s.loadGate .stream load = .go
      let did := fun (u : State) (r : Nat) (vals : List Nat) => (done u r vals).needsDone
      (good → s.loadGate .stream load = .wait → Gives .admitStream s (fun t => t = s)) ∧
      (good → s.hlt.asked = none → Gives .admitStream s (fun t => s.loadGate .stream load = .ask → t = s.askNeeds .stream load)) ∧
      (good → s.loadGate .stream load = .refused → Gives .admitStream s (fun t => t = done (s.dropRise.infeasible noInst) 7 [])) ∧
      (good → goes → excess → Gives .admitStream s (fun t => t = did ((s.setFld CSG_STATUS CSG_STATUS_frer_full 1).raise 0x0702 2) 5 [0x0702])) ∧
      (∀ h : Nat, good → goes → ¬excess → group = [] → h < 16384 → (s.stream h).valid = false → (∀ k < h, (s.stream k).valid = true) →
        let x := s.trieInsert { word := word, result := h, len := 64, valid := true, ty := kt }
        (kt = 0 → Gives .admitStream s (fun t => t = did (s.putStream h bs) 0 [h] ∧ stands t h)) ∧
        (kt ≠ 0 → x.2 = true → Gives .admitStream s (fun t => t = did (x.1.putStream h bs) 0 [h] ∧ stands t h)) ∧
        (kt ≠ 0 → x.2 = false → Gives .admitStream s (fun t => t = did x.1 6 []))) ∧
      (good → goes → ¬excess → group = [] → (∀ k < 16384, (s.stream k).valid = true) → Gives .admitStream s (fun t => t = did full 6 [])) ∧
      (∀ (g : Nat) (gs : List Nat), good → goes → ¬excess → group = g :: gs →
        let h := g + gs.length + 1
        (3 ≤ gs.length → Gives .admitStream s (fun t => t = did s 3 [])) ∧
        (gs.length < 3 → 16384 ≤ h ∨ (s.stream h).valid = true → Gives .admitStream s (fun t => t = did full 6 [])) ∧
        (gs.length < 3 → h < 16384 → (s.stream h).valid = false → Gives .admitStream s (fun t => t = did (s.putStream h bs) 0 [h] ∧ stands t h)))) ∧
    (∀ (h : Nat) (bs : List Byte), h < 16384 → bs.length = 32 →
      let w0 := leNat (slice 0 4 bs)
      let unbound := decide (bits 27 16 w0 ≠ 0) && s.policersTaken h
      (bit 0 w0 = true → unbound = true → (s.putStream h bs).stream h = { (s.memPut (streamAddr h) bs).stream h with policer := 0 } ∧ s.tells (s.putStream h bs) 2 0x0501 2 noInst) ∧
      (bit 0 w0 = false ∨ unbound = false → s.putStream h bs = s.memPut (streamAddr h) bs)) ∧
    (s.taken 0x0202 = true →
      let kt := s.arg 4 % 4
      let word := streamWordOf kt (s.arg64 2)
      let u := (s.trieRemove word 64 kt).1
      (kt = 0 → Gives .removeStream s (fun t => t = done s 3 [])) ∧
      (kt ≠ 0 → s.trieExact word 64 kt = none → Gives .removeStream s (fun t => t = done s 9 [])) ∧
      (∀ l : Nat, kt ≠ 0 → s.trieExact word 64 kt = some l → bit 31 (s.leaf l).result = true → Gives .removeStream s (fun t => t = done u 0 [])) ∧
      (∀ l : Nat, kt ≠ 0 → s.trieExact word 64 kt = some l → bit 31 (s.leaf l).result = false →
        let h := (s.leaf l).result % 16384
        let hs := if (s.stream h).role = 2 then s.membersFrom h else [h]
        Gives .removeStream s (fun t => t = done (hs.foldl (fun (x : State) k => x.memPut (streamAddr k) (List.replicate 32 0)) u) 0 [] ∧
          (∀ k ∈ hs, k < 16384 → (t.stream k).valid = false) ∧ (∀ k < 16384, k ∉ hs → t.stream k = s.stream k)))) ∧
    (s.taken 0x0203 = true ∨ s.taken 0x0204 = true →
      let w := s.arg64 2
      let len := s.arg 4 % 128
      let ty := s.arg 4 / 256 % 8
      let good := 1 ≤ ty ∧ ty ≤ 6 ∧ (if ty ≤ 3 then 64 else 4) ≤ len ∧ len ≤ (if ty = 5 then 36 else 64) ∧ (ty = 1 ∨ w / 2 ^ 60 = ty)
      let x := s.trieInsert { word := w, result := s.arg 5, len := len, valid := true, ty := ty }
      (s.taken 0x0203 = true →
        (¬good → Gives .addTrieEntry s (fun t => t = done s 3 [])) ∧
        (good → x.2 = true → Gives .addTrieEntry s (fun t => t = done x.1 0 [] ∧ ∃ l < 131072, s.leafTaken l = false ∧ l ∈ t.tbl.leaves ∧
          t.leaf l = { word := w % 2 ^ 64, result := s.arg 5 % 2 ^ 32, len := len, valid := true, ty := ty })) ∧
        (good → x.2 = false → Gives .addTrieEntry s (fun t => t = done (((s.bump (TBL_CNT 9)).setFld TBL_STATUS TBL_STATUS_trie_full 1).raise 0x0601 2) 6 []))) ∧
      (s.taken 0x0204 = true →
        (¬good → Gives .removeTrieEntry s (fun t => t = done s 3 [])) ∧
        (good → s.trieExact w len ty = none → Gives .removeTrieEntry s (fun t => t = done s 9 [])) ∧
        (∀ g : Nat, good → s.trieExact w len ty = some g → Gives .removeTrieEntry s (fun t => t = done (s.trieRemove w len ty).1 0 [] ∧ g ∉ t.tbl.leaves ∧
          ∃ r ∈ t.tbl.released, g ∈ r.leaves ∧ r.epoch = (s.rd TBL_TRIE_EPOCH).toNat + 2)))) ∧
    (s.taken 0x0205 = true →
      let bs := s.cmdData
      let w1 := leNat (slice 4 4 bs)
      let m : MacEntry := { mac := leNat (slice 0 4 bs) + w1 % 2 ^ 16 * 2 ^ 32, vid := bits 27 16 w1, kind := 3, hit := false, seenClear := false, dest := leNat (slice 8 4 bs), stamp := 0 }
      let b := 8 * macBucket m.mac m.vid
      let good := s.cmdLen = 16 ∧ bits 29 28 w1 = 3
      let kind := fun e : Nat => (s.macEntry e).kind
      let age := fun e : Nat => (s.sweepCount + 65536 - (s.macEntry e).stamp) % 65536
      let isNew := s.macFind m.mac m.vid = none
      let full := ∀ i < 8, kind (b + i) ≠ 0
      let dyn := ((List.range 8).map (b + ·)).filter (fun e => kind e == 1)
      let evicts := fun (u : State) (e : Nat) => ((u.setMac e m).bump (TBL_CNT 1)).raiseLim 0x0603 1
      (¬good → Gives .addMacEntry s (fun t => t = done s 3 [])) ∧
      (∀ e : Nat, good → s.macFind m.mac m.vid = some e → Gives .addMacEntry s (fun t => t = done (s.setMac e m) 0 [] ∧ t.macEntry e = m)) ∧
      (∀ i : Nat, good → isNew → i < 8 → kind (b + i) = 0 → (∀ k < i, kind (b + k) ≠ 0) →
        Gives .addMacEntry s (fun t => t = done (s.setMac (b + i) m) 0 [] ∧ t.macEntry (b + i) = m)) ∧
      (∀ i : Nat, good → isNew → full → s.fldB TBL_CTL TBL_CTL_evict_random = false → i < 8 → kind (b + i) = 1 →
        (∀ k < 8, kind (b + k) = 1 → if k < i then age (b + k) < age (b + i) else age (b + k) ≤ age (b + i)) →
        Gives .addMacEntry s (fun t => t = done (evicts s (b + i)) 0 [] ∧ t.macEntry (b + i) = m)) ∧
      (∀ e : Nat, good → isNew → full → s.fldB TBL_CTL TBL_CTL_evict_random = true →
        let r := lfsrStep s.tbl.lfsr
        dyn[r % 65536 * dyn.length / 65536]? = some e →
        Gives .addMacEntry s (fun t => t = done (evicts { s with tbl := { s.tbl with lfsr := r } } e) 0 [] ∧ t.macEntry e = m)) ∧
      (good → isNew → full → dyn = [] → Gives .addMacEntry s (fun t => t = done (s.raise 0x0608 2) 5 [0x0608]))) ∧
    (s.taken 0x0206 = true →
      let find := s.macFind (s.arg 2 + s.arg 3 % 2 ^ 16 * 2 ^ 32) (bits 27 16 (s.arg 3))
      (find = none → Gives .removeMacEntry s (fun t => t = done s 9 [])) ∧
      (∀ e : Nat, find = some e → Gives .removeMacEntry s (fun t => t = done (s.mwbytes (macAddr e) (List.replicate 16 0)) 0 [] ∧ (t.macEntry e).kind = 0))) ∧
    (s.taken 0x0207 = true →
      let gone := s.macUsed.filter (fun e => Nat.land (s.macEntry e).dest (s.arg 2) != 0 && (!bit 0 (s.arg 3) || (s.macEntry e).kind == 1))
      Gives .flushMacTable s (fun t => t = done (gone.foldl (fun (x : State) e => x.mwbytes (macAddr e) (List.replicate 16 0)) s) 0 [gone.length] ∧
        (∀ e ∈ gone, (t.macEntry e).kind = 0) ∧ (∀ e, e ∉ gone → t.macEntry e = s.macEntry e)))

/-- Update and attestation (R45, R291, R361, R365, R366, R371 to R379, R382 to R384, R419). A chunk stands in the inlet where the last one ended; another offset discards the inlet, as does a rejection (the model's choice, assumption 60). An image that is not whole, or fails a check of R366, is rejected with 0x1002, for the rollback rule with 0x1003, and one without a placement with 0x0D02 too, a hitless one with 0x100A in place of 0x1002; any other is VERIFIED, of a profile in its storage form, a hitless one once its needs hold. Each block is copied and recorded. The last one commits a target that reads back, 0x1006, and answers; another target is copied again from block 0. For the firmware the rollback counter is raised first: by the sub-counter, then fuse by fuse, until the third failure in a row gives 0x100B. Committed firmware waits for its handover, a profile in use for the next start or its hitless switch. A handover starts the new firmware in the other half, leaves it pending with 0x1008, or is a class 7 fault with a free event code (assumption 17) once it has passed the point of no return; a pause beyond 50 µs adds 0x100D. A root is programmed once, and never revoked while a stored profile uses it. Attest returns the report of R383 signed over a random salt, with 0x100C; without an attestation key the signature is a free value (assumption 14). Scrub starts a pass where none runs. -/
def Obligations.ImageCommands : Prop :=
  ∀ s : State,
    let answered := fun (u : State) (r : Nat) (vals : List Nat) (out : List Byte) => (u.post r vals out).served
    let done := fun (u : State) (r : Nat) (vals : List Nat) => answered u r vals []
    let j := s.mram.journal
    let pend := fun (u : State) (n : Nat) => ({ u with wrd := { u.wrd with pendingStart := n :: u.wrd.pendingStart.filter (· != n) } } : State)
    let rejected := fun (v t : State) (k : Nat) =>
      let code := (Config.reasonCode k).toNat
      let u := (v.setJournal {}).setFld SYS_UPD_STATUS SYS_UPD_STATUS_reason code
      t = if k = 8 then done (u.raise 0x1003 3 noInst code) 11 [] else done (u.raise 0x1002 3 noInst code) 10 [code]
    let verified := fun (v : State) (target : Nat) (deferred : Bool) =>
      let w := if target = 0 then v else v.storeForm
      let n := w.imgLen inletBase
      let x := w.setJournal { state := 2, target := target, length := n, digest := sha256 (w.img inletBase 0 n), next := 0, rb := w.imgRollback inletBase, deferred := deferred }
      ({ x with wrd := { x.wrd with inProgress := true } } : State)
    let unplaced := fun (v : State) (hit : Bool) (r : Nat) =>
      let code := (Config.reasonCode 7).toNat
      let u := (v.setJournal {}).infeasible r
      done (if hit then u.raise 0x100A 3 r else (u.setFld SYS_UPD_STATUS SYS_UPD_STATUS_reason code).raise 0x1002 3 noInst code) 7 [r]
    let installs := fun (t : State) (target : Nat) (deferred : Bool) =>
      let open_ := s.updateBusy = false ∧ target ≤ 4 ∧ s.wrd.switching = none
      let whole := j.state = 1 ∧ s.imgLen inletBase ≤ j.length ∧ (s.dev.recovery = false ∨ target = 0)
      let v := s.cekUsed inletBase
      let bundle := if target = 0 then none else v.inletBundle
      let hit := target != 0 && !deferred && s.dev.state == .full && s.activeProfile + 1 == target
      let good := open_ ∧ whole ∧ s.rejection target = 0
      (s.updateBusy = true → t = done s 1 []) ∧ (s.updateBusy = false → 4 < target → t = done s 3 []) ∧
      (s.updateBusy = false → target ≤ 4 → s.wrd.switching ≠ none → t = s) ∧ (open_ → ¬whole → rejected s t 1) ∧
      (open_ → whole → s.rejection target ≠ 0 → rejected v t (s.rejection target)) ∧
      (good → bundle = none → t = verified v target deferred) ∧
      (∀ x : Bundle, good → bundle = some x → hit = false →
        (∀ r : Nat, x.program.freshPlan = .error r → t = unplaced v false r) ∧
        (∀ pl : Plan, x.program.freshPlan = .ok pl → t = verified v target deferred)) ∧
      (∀ x : Bundle, good → bundle = some x → hit = true →
        let load := v.switchLoad { slot := target - 1, bundle := x, command := false, update := true, instant := 0, ports := [] } false
        (∀ r : Nat, v.programPlan x.program true = .error r → t = unplaced v true r) ∧
        (∀ pl : Plan, v.programPlan x.program true = .ok pl → (v.loadGate .program load = .go → t = verified v target deferred) ∧
          (v.loadGate .program load = .ask → t = v.askNeeds .program load) ∧ (v.loadGate .program load = .wait → t = v) ∧
          (v.loadGate .program load = .refused → t = unplaced v.dropRise true noInst)))
    let committed := fun (v t : State) =>
      let u := ((v.setJournal { v.mram.journal with state := 5 }).setJournal {}).raise 0x1006 0
      let inUse := (u.wrd.run.isSome = true ∨ u.wrd.cold.isSome = true) ∧ u.activeProfile + 1 = j.target
      (u.dev.recovery = true → t = done (pend u 0) 0 []) ∧
      (u.dev.recovery = false → j.target = 0 → t = done { u with wrd := { u.wrd with handover := true } } 0 []) ∧
      (u.dev.recovery = false → j.target ≠ 0 → ¬inUse → t = done u 0 []) ∧
      (u.dev.recovery = false → j.target ≠ 0 → inUse → j.deferred = true ∨ u.dev.state ≠ .full → t = done (pend u j.target) 0 []) ∧
      (u.dev.recovery = false → j.target ≠ 0 → inUse → j.deferred = false → u.dev.state = .full → u.bundleAt (j.target - 1) = none → t = done u 0 []) ∧
      (∀ b : Bundle, u.bundleAt (j.target - 1) = some b → u.dev.recovery = false → j.target ≠ 0 → inUse → j.deferred = false → u.dev.state = .full →
        t = done (u.switchBegin { slot := j.target - 1, bundle := b, command := false, update := true, instant := 0, ports := [] }) 0 [])
    let active := s.running = true ∧ s.bank.fatal = none ∧ s.wrd.inProgress = true
    (s.taken 0x0401 = true →
      let next := if j.state = 1 then j.length else 0
      (s.updateBusy = true → Gives .writeImageChunk s (fun t => t = done s 1 [])) ∧
      (s.updateBusy = false → 0x200000 < s.arg 2 + s.cmdLen → Gives .writeImageChunk s (fun t => t = done s 3 [])) ∧
      (s.updateBusy = false → s.arg 2 + s.cmdLen ≤ 0x200000 → s.arg 2 ≠ next → Gives .writeImageChunk s (fun t => t = done (s.setJournal {}) 3 [])) ∧
      (s.updateBusy = false → s.arg 2 + s.cmdLen ≤ 0x200000 → s.arg 2 = next → Gives .writeImageChunk s (fun t =>
        t = done ((s.mramPut (0xC00000 + s.arg 2) s.cmdData).setJournal { state := 1, length := s.arg 2 + s.cmdLen }) 0 [] ∧ s.stores t (0x10C00000 + s.arg 2) s.cmdData))) ∧
    (s.taken 0x0402 = true → Gives .installImage s (fun t => installs t (s.arg 2 % 8) (bit 3 (s.arg 2)))) ∧
    (s.taken 0x0403 = true →
      (s.wrd.run = none → s.wrd.cold = none → Gives .loadBundle s (fun t => t = done s 3 [])) ∧
      (s.wrd.run ≠ none ∨ s.wrd.cold ≠ none → Gives .loadBundle s (fun t => installs t (s.activeProfile + 1) false))) ∧
    (¬active ∨ (j.state ≠ 2 ∧ j.state ≠ 3) → Gives .installBlockCopy s (fun t => t = s)) ∧
    (active → j.state = 2 ∨ j.state = 3 →
      let p := (s.setJournal { j with state := 3 }).mramPut (targetBase j.target + 4096 * j.next) (s.img inletBase (4096 * j.next) 4096)
      let v := p.setJournal { j with state := 3, next := j.next + 1 }
      let readsBack := sha256 (v.img (targetBase j.target) 0 j.length) = j.digest
      let w := v.setJournal { j with state := 4, next := j.next + 1 }
      (j.next + 1 < blocksOf j.length → Gives .installBlockCopy s (fun t => t = v ∧ s.stores t (0x10000000 + (targetBase j.target + 4096 * j.next)) (s.img inletBase (4096 * j.next) 4096))) ∧
      (blocksOf j.length ≤ j.next + 1 → ¬readsBack → Gives .installBlockCopy s (fun t => t = v.setJournal { j with state := 3, next := 0 })) ∧
      (blocksOf j.length ≤ j.next + 1 → readsBack → j.target ≠ 0 → Gives .installBlockCopy s (fun t => committed w t)) ∧
      (blocksOf j.length ≤ j.next + 1 → readsBack → j.target = 0 → s.otp.fuses < j.rb / 4096 → Gives .installBlockCopy s (fun t => t = w.writeSub)) ∧
      (blocksOf j.length ≤ j.next + 1 → readsBack → j.target = 0 → j.rb / 4096 ≤ s.otp.fuses → Gives .installBlockCopy s (fun t => committed w.writeSub t))) ∧
    (let a := s.mram.sub0
      let b := s.mram.sub1
      let t := s.writeSub
      let first := fun n : Nat => t.mram.sub0 = { value := j.rb, seq := n } ∧ t.mram.sub1 = b ∧ t.mram.journal = j ∧ t.otp = s.otp
      let second := fun n : Nat => t.mram.sub1 = { value := j.rb, seq := n } ∧ t.mram.sub0 = a ∧ t.mram.journal = j ∧ t.otp = s.otp
      (a.valid = false → first ((if b.valid then b.seq else 0) + 1)) ∧
      (a.valid = true → b.valid = false → second (a.seq + 1)) ∧
      (a.valid = true → b.valid = true → a.seq < b.seq → first (b.seq + 1)) ∧
      (a.valid = true → b.valid = true → b.seq ≤ a.seq → second (a.seq + 1))) ∧
    (∀ ok : Bool, ¬active ∨ j.state ≠ 4 ∨ j.target ≠ 0 → Gives (.fuseBurn ok) s (fun t => t = s)) ∧
    (active → j.state = 4 → j.target = 0 →
      let blown : State := { s with otp := { s.otp with fuses := s.otp.fuses + 1 }, wrd := { s.wrd with burns := 0 } }
      let failed := fun n : Nat => ({ s with regs := (s.setFld SYS_ROLLBACK SYS_ROLLBACK_fuse_fail (satAdd SYS_ROLLBACK_fuse_fail.width (s.fld SYS_ROLLBACK SYS_ROLLBACK_fuse_fail) 1)).regs, wrd := { s.wrd with burns := n } } : State)
      (s.otp.fuses + 1 < j.rb / 4096 → Gives (.fuseBurn true) s (fun t => t = blown)) ∧
      (j.rb / 4096 ≤ s.otp.fuses + 1 → Gives (.fuseBurn true) s (fun t => committed blown t)) ∧
      (s.wrd.burns ≠ 2 → Gives (.fuseBurn false) s (fun t => t = failed (s.wrd.burns + 1))) ∧
      (s.wrd.burns = 2 → Gives (.fuseBurn false) s (fun t => committed ((failed 0).raise 0x100B 5) t))) ∧
    (∀ k : Journal, (s.setJournal k).mram.journal = k ∧ (s.mram.second = true → (s.setJournal k).mram.journal1 = s.mram.journal1) ∧
      (s.mram.second = false → s.mram.journal0.good = true → (s.setJournal k).mram.journal0 = s.mram.journal0)) ∧
    (∀ x : Section, (s.imgSections vendorBase).head? = some x →
      let image := s.img vendorBase x.off x.len
      s.stageImage = (s.mwbytes (0x01000000 + 0x200000 * (1 - s.wrd.half)) image, sha256 image == x.check && !s.mramLost (vendorBase + x.off) x.len)) ∧
    (∀ (outcome : Fin 3) (pause : Nat),
      let ready := s.wrd.handover = true ∧ s.running = true ∧ s.bank.fatal = none ∧ s.wrd.inProgress = false
      let base : State := { s with wrd := { s.wrd with handover := false } }
      let u := base.stageImage.1
      let good := base.stageImage.2 = true ∧ s.wrd.stagingBad = false
      let late := fun x : State => if 50000 < pause then x.raise 0x100D 3 else x
      let v := u.setFld SYS_CMD_STATUS SYS_CMD_STATUS_paused 1
      let w : State := { v with wrd := { v.wrd with half := 1 - s.wrd.half, fwVersion := s.imgVersion vendorBase, fwDigest := s.imgDigest vendorBase } }
      (¬ready → Gives (.wardenHandover outcome pause) s (fun t => t = s)) ∧
      (ready → outcome = 1 ∨ ¬good → Gives (.wardenHandover outcome pause) s (fun t => t = (late (pend u 0)).raise 0x1008 3)) ∧
      (ready → outcome = 2 → good → Gives (.wardenHandover outcome pause) s (fun t => t = w.raise Config.handoverEvent 7 ∧ w.fatalAsked t Config.handoverEvent)) ∧
      (ready → outcome = 0 → good → Gives (.wardenHandover outcome pause) s (fun t =>
        t.wrd = { w.wrd with pendingStart := s.wrd.pendingStart.filter (· != 0) } ∧ t.fld SYS_CMD_STATUS SYS_CMD_STATUS_paused = 0 ∧
        (s.dikeIdle = true → t.bank.lastHb = s.elapsed) ∧ s.tells t 2 0x1007 0 noInst ∧ t.mem = u.mem ∧ t.mram = s.mram ∧ t.otp = s.otp ∧ t.dev = s.dev))) ∧
    (s.taken 0x0404 = true →
      let k := s.arg 2 % 4
      (s.cmdLen ≠ 32 → Gives .programCustomerRoot s (fun t => t = done s 3 [])) ∧
      (s.cmdLen = 32 → tget [] s.otp.roots k ≠ [] → Gives .programCustomerRoot s (fun t => t = done s 5 [])) ∧
      (s.cmdLen = 32 → tget [] s.otp.roots k = [] → Gives .programCustomerRoot s (fun t =>
        t = done { s with otp := { s.otp with roots := tset [] s.otp.roots k s.cmdData } } 0 [] ∧ tget [] t.otp.roots k = s.cmdData))) ∧
    (s.taken 0x0405 = true →
      let k := s.arg 2 % 4
      let inUse := ∃ p < 4, s.slotHolds p = true ∧ s.imgRoot (profileBase p) = k
      (inUse → Gives .revokeCustomerRoot s (fun t => t = done s 5 [])) ∧
      (¬inUse → Gives .revokeCustomerRoot s (fun t => t = done { s with otp := { s.otp with revoked := s.otp.revoked ||| 2 ^ k } } 0 [] ∧ s.otp.revoked ≤ t.otp.revoked))) ∧
    (s.taken 0x0406 = true →
      let body := s.reportBody s.cmdData
      let salt := (List.range 8).flatMap (fun i => leBytes 4 (Config.drbgWord (s.free + i)).toNat)
      (s.cmdLen ≠ 32 → Gives .attest s (fun t => t = done s 3 [])) ∧
      (s.cmdLen = 32 → Gives .attest s (fun t =>
        (∀ k, Config.attestKey = some k → t = answered (({ s.drbgUse with free := s.free + 8 } : State).raise 0x100C 0) 0 []
          (body ++ beBytes 384 (powMod k.1 3072 (beNat (pssEncode (sha256 body) salt)) k.2 1))) ∧
        (Config.attestKey = none → t = answered (s.raise 0x100C 0) 0 [] (body ++ padTo 384 Config.noSignature))))) ∧
    (∀ nonce : List Byte, nonce.length = 32 →
      let body := s.reportBody nonce
      body.length = 288 ∧ slice 0 4 body = leBytes 4 0x4A51A77E ∧ slice 8 8 body = leBytes 8 ownId ∧ slice 16 32 body = nonce ∧
      slice 48 8 body = leBytes 8 s.tide.toNat ∧ slice 56 4 body = leBytes 4 s.wrd.fwVersion ∧ slice 60 4 body = leBytes 4 s.rollback ∧
      slice 64 32 body = padTo 32 s.wrd.fwDigest ∧ slice 132 4 body = leBytes 4 s.digestBase ∧ slice 136 4 body = leBytes 4 s.digestCur) ∧
    (s.taken 0x0407 = true →
      (s.mram.scrubActive = true → Gives .scrubMram s (fun t => t = done s 0 [])) ∧
      (s.mram.scrubActive = false → Gives .scrubMram s (fun t => t = done { s with mram := { s.mram with scrubActive := true, scrubDue := true, scrubPos := 0, scrubStart := if s.dev.synced then .gptp s.dev.gptpTime else .unsynced s.elapsed } } 0 [])))

/-- The event queue and the fault manager (R422 to R432). A posting takes a free storage slot, free among those (assumption 8), with a generation that counts its uses from 0 (assumption 76); a fault of class 2 to 6 of a resource whose fault is being handled counts one class higher; one of class 3 to 6 above the one being handled goes on the stack, a fault escalated to class 7 requests the fatal sequence as it is taken, one raised at class 7 did so when it was raised. The request is a write of BNK_CTL.fatal over the dike link: taken at once where the link is idle, else behind the accesses posted before it (assumption 105). A full queue discards what is below every entry off the stack, or overwrites the oldest of their lowest class. Done ends the top fault and starts the highest that waits, where it is above what is then on top. The handling limit posts 0x0302 once, with the fault's resource: its unit, and its block in the detail word (assumption 127). An acknowledged entry is read, the firmware's logged from log_min on, and gone once its handling is over. The policy of the profile acts for the fault on top: log, alert the host, shed the lowest class placed, restart a port or channel, switch the profile when no command is in progress, reset, or else the fatal sequence. -/
def Obligations.EventQueue : Prop :=
  ∀ s : State,
    let read := fun (q : List EvEntry) => q.filter (fun e => !e.gone)
    let marked := fun (q : List EvEntry) (slot : Nat) (h : Handling) => q.map (fun e => if e.slot = slot then { e with handling := h } else e)
    let pushed := fun (u : State) (slot : Nat) =>
      ({ u with flt := { u.flt with queue := marked u.flt.queue slot .stacked, stack := { slot := slot } :: u.flt.stack } } : State)
    let logged := fun (u : State) (e : EvEntry) =>
      let w := u.mramPut (0xE00000 + 16 * u.mram.logNext) (e.words.flatMap (leBytes 4))
      ({ w with mram := { w.mram with logNext := (u.mram.logNext + 1) % 65536 } } : State)
    let write : DWord := dikeFrame 2 s.bank.nextSeq 0 (if s.fldB BNK_CTL BNK_CTL_safe_run then 12 else 4)
    let host := s.fldB FLT_CTL FLT_CTL_reader
    let ended := fun (u t : State) =>
      (u.flt.stack = [] → t = u) ∧
      (∀ i, u.flt.stack.head? = some i →
        let v : State := { u with flt := { u.flt with queue := read (marked u.flt.queue i.slot .ended), stack := u.flt.stack.tail } }
        ((∀ w, v.nextWaiting = some w → w.cls ≤ v.topClass) → t = v) ∧
        (∀ w, v.nextWaiting = some w → v.topClass < w.cls → t = pushed v w.slot))
    (∀ b : Fin 16,
      (tget [] s.flt.post (b.val + 1) = [] → Gives (.eventPost b) s (fun t => t = s)) ∧
      (∀ (p : Posting) (rest : List Posting), tget [] s.flt.post (b.val + 1) = p :: rest →
        let up := p.esc = false ∧ 2 ≤ p.cls ∧ p.cls < 7 ∧ s.onStack p.code p.inst = true
        let c := if up then p.cls + 1 else p.cls
        let s0 : State := { s with flt := { s.flt with post := tset [] s.flt.post (b.val + 1) rest } }
        let stored := fun (u : State) (slot : Nat) => ({ u with flt := { u.flt with
          queue := u.flt.queue ++ [{ code := p.code, cls := c, esc := p.esc || decide up, inst := p.inst, detail := p.detail, ts := p.ts,
                                     gen := tget 0 s.flt.uses slot % 256, slot := slot, handling := if 3 ≤ c ∧ c < 7 then .waiting else .none }],
          uses := tset 0 u.flt.uses slot (tget 0 s.flt.uses slot + 1) } } : State)
        let handled := fun (u t : State) (slot : Nat) =>
          let v := if host then u.irq 0 else u
          (7 ≤ c → t = (if 7 ≤ p.cls then v else v.requestFatal p.code)) ∧ (c < 7 → 3 ≤ c → v.topClass < c → t = pushed v slot) ∧
          (c < 7 → c < 3 ∨ c ≤ v.topClass → t = v)
        let full := s0.setFld FLT_EVQ_STATUS FLT_EVQ_STATUS_overflow 1
        (s.flt.queue.length < 4096 → Gives (.eventPost b) s (fun t => ∃ slot < 4096, (∀ x ∈ s.flt.queue, x.slot ≠ slot) ∧
          handled { stored s0 slot with free := s.free + 1 } t slot)) ∧
        (4096 ≤ s.flt.queue.length → (∀ e ∈ s.candidates, c < e.cls) → Gives (.eventPost b) s (fun t =>
          let u := (full.bump (FLT_EVQ_LOST c)).raiseLim 0x0301 1
          t = (if 7 ≤ c ∧ p.cls < 7 then u.requestFatal p.code else u))) ∧
        (∀ v : EvEntry, s.victim = some v → 4096 ≤ s.flt.queue.length → v.cls ≤ c → Gives (.eventPost b) s (fun t =>
          let u := if v.handling = .waiting then full.setFld FLT_STATUS FLT_STATUS_fault_lost 1 else full
          let w := u.bump (FLT_EVQ_LOST v.cls)
          handled ((stored { w with flt := { w.flt with queue := w.flt.queue.filter (fun e => e.slot != v.slot) } } v.slot).raiseLim 0x0301 1) t v.slot)))) ∧
    (∀ code inst : Nat, s.onStack code inst = true ↔ ∃ i ∈ s.flt.stack, ∃ e : EvEntry, s.entryAt i.slot = some e ∧ e.inst = inst ∧
      (if e.code = 0x0302 then e.detail else e.code / 256) = code / 256) ∧
    (∀ (pre post : List EvEntry) (v : EvEntry), s.flt.queue.filter (fun e => e.handling != .stacked) = pre ++ v :: post →
      (∀ x ∈ pre, v.cls < x.cls) → (∀ x ∈ post, v.cls ≤ x.cls) → s.victim = some v) ∧
    (∀ (pre post : List EvEntry) (w : EvEntry), s.flt.queue.filter (fun e => e.handling == .waiting) = pre ++ w :: post →
      (∀ x ∈ pre, x.cls < w.cls) → (∀ x ∈ post, x.cls ≤ w.cls) → s.nextWaiting = some w) ∧
    (∀ (m : Master) (v : Word), s.writable m FLT_FAULT_DONE → Gives (.doneFault m v) s (fun t => ended (s.seen m) t)) ∧
    (∀ i : StackItem, s.flt.stack.head? = some i → ∀ e : EvEntry, s.topFault = some e →
      (i.timedOut = true → Gives .handleTimeout s (fun t => t = s)) ∧
      (i.timedOut = false → Gives .handleTimeout s (fun t =>
        t = ({ s with flt := { s.flt with stack := { i with timedOut := true } :: s.flt.stack.tail } } : State).raiseP
          { code := 0x0302, cls := min 7 (e.cls + 1), inst := e.inst, detail := if e.code = 0x0302 then e.detail else e.code / 256, ts := s.tide.toNat % 2 ^ 44, esc := true }))) ∧
    (s.topFault = none → Gives .handleTimeout s (fun t => t = s)) ∧
    (∀ (m : Master) (v : Word), s.writable m FLT_EVQ_ACK →
      let reader := if host then Master.pcie else Master.warden
      let u := s.seen m
      let found := s.flt.queue.find? (fun x => x.slot == v.toNat % 2 ^ 20 / 256 && x.gen == v.toNat % 256)
      (m ≠ reader → Gives (.evqAck m v) s (fun t => t = u)) ∧
      (m = reader → found = none → Gives (.evqAck m v) s (fun t => t = u.setFld FLT_EVQ_STATUS FLT_EVQ_STATUS_ack_miss 1)) ∧
      (∀ e : EvEntry, found = some e → m = reader →
        Gives (.evqAck m v) s (fun t =>
          let w := if m = .warden ∧ e.read = false ∧ s.fld FLT_CTL FLT_CTL_log_min ≤ e.cls then logged u e else u
          t = { w with flt := { w.flt with queue := read (w.flt.queue.map (fun x => if x.slot = e.slot then { x with read := true } else x)) } }))) ∧
    (∀ code : Nat,
      (s.bank.open_ = none → s.bank.posted = [] → ∃ answer : Nat,
        s.requestFatal code = { s with
          bank := { s.bank with nextSeq := (s.bank.nextSeq + 1) % 16, lastSeq := some s.bank.nextSeq,
                                fatalReq := some (s.bank.fatalReq.getD code) },
          outputs := .dike false (dikeFrame 2 s.bank.nextSeq 0 answer) :: .dike true write :: s.outputs,
          free := s.free + 1 }) ∧
      (s.bank.open_.isSome = true ∨ s.bank.posted ≠ [] → s.requestFatal code = { s with
        bank := { s.bank with nextSeq := (s.bank.nextSeq + 1) % 16,
                              posted := s.bank.posted ++ [({ master := none, frame := write, tries := 0, event := code }, true, true)] } })) ∧
    (s.serving = false ∨ s.topFault = none → Gives .faultPolicyAction s (fun t => t = s)) ∧
    (∀ e : EvEntry, s.topFault = some e → s.serving = true →
      let entry := ((s.profileNow.map (fun b => b.set.policy)).getD []).find? (fun p => p.code == e.code)
      let act : Nat := match entry with
        | some p => if p.action = 0 then (if e.cls = 3 then 1 else 2) else p.action
        | none => if e.cls = 3 then 1 else 2
      let profile := (entry.map (fun p => p.profile)).getD 0
      let port := e.code / 256 = 8 ∨ e.code / 256 = 5 ∨ e.code ∈ [0x0404, 0x0405, 0x0406, 0x0408, 0x0409, 0x0A01, 0x0A02, 0x0A03]
      let placed := (s.plc.prog.fixedRoutines.filter (fun r => (s.coreOf r).isSome)).reverse
      let unit := e.inst
      let waits := s.wrd.inProgress = true ∨ s.wrd.switching.isSome = true ∨ s.updating = true
      let active := s.wrd.run.isSome = true ∧ s.activeProfile = profile
      (act = 1 → Gives .faultPolicyAction s (fun t => ended (logged s e) t)) ∧
      (act = 2 → Gives .faultPolicyAction s (fun t => ended ((logged s e).irq 0) t)) ∧
      (act = 3 → (∀ r ∈ placed, (s.routine r).shedClass = 3) → Gives .faultPolicyAction s (fun t => ended s t)) ∧
      (∀ c < 3, act = 3 → (∃ r ∈ placed, (s.routine r).shedClass = c) → (∀ r ∈ placed, c ≤ (s.routine r).shedClass) →
        Gives .faultPolicyAction s (fun t => ended ((placed.filter (fun r => (s.routine r).shedClass == c)).foldl State.shedRoutine s).plcRefresh t)) ∧
      (act = 4 → port → unit < 28 → Gives .faultPolicyAction s (fun t =>
        ended ((s.dropLink unit).training unit (s.fldB (ETH_PHY_CFG unit) ETH_PHY_CFG_en)) t)) ∧
      (act = 4 → e.code / 256 = 9 → unit < 24 → Gives .faultPolicyAction s (fun t => ended ((s.canOff unit).canRequest unit (s.canMode unit)) t)) ∧
      (act = 4 → ¬(port ∧ unit < 28) → ¬(e.code / 256 = 9 ∧ unit < 24) → Gives .faultPolicyAction s (fun t => ended s t)) ∧
      (act = 5 → waits → Gives .faultPolicyAction s (fun t => t = s)) ∧
      (act = 5 → ¬waits → active → Gives .faultPolicyAction s (fun t => ended s t)) ∧
      (act = 5 → ¬waits → ¬active → Gives .faultPolicyAction s (fun t =>
        (∀ r vals, s.switchCheck profile = .error (r, vals) → ended (s.switchFailed profile r vals) t) ∧
        (∀ b : Bundle, s.switchCheck profile = .ok b →
          t = s.switchPrepare { slot := profile, bundle := b, command := false, fault := some e.slot, instant := 0, ports := [] } id State.faultDone))) ∧
      (act = 6 → Gives .faultPolicyAction s (fun t => t = s.saveBlocks.fatalStart 7 0 true)) ∧
      (7 ≤ act → Gives .faultPolicyAction s (fun t => t = s.requestFatal e.code)))

/-- Accesses and upkeep of memory (R8, R25 to R30, R408 to R420, R473). A permitted write changes exactly the addressed bytes, by an alias the bits that it sets or clears; the gap of the table window takes nothing; a stream entry keeps its generation counter while it stays valid. The PCIe host writes registers only, in whole words, each an access of its own in ascending order. A refused access, of whichever command, has an error response and 0x0140 and no other effect; where the logic die does not run, no access has any. An access of less than 64 bits to a word that the patrol found uncorrectable is refused; a whole one mends it. The patrol counts and reports, and each memory has its outcome. A MRAM write counts its lines; a failing or worn line moves to a spare line, events 0x0F05 and 0x0F06; without one, 0x0F07 with the bytes left free (assumption 21). The scrub pass runs line by line to its end. That a 64-bit access to any two neighbouring registers passes is assumption 81. -/
def Obligations.Memories : Prop :=
  ∀ s : State,
    let refused := fun (m : Master) (addr : Nat) (t : State) =>
      t = ({ s.seen m with
        dev := if m = .pcie then { s.dev with aer := BitVec.ofNat 32 (withBit s.dev.aer.toNat 20 true) } else s.dev,
        outputs := .busError m addr :: s.outputs } : State).raiseLim 0x0140 1 m.number (addr % 2 ^ 32)
    let lost := fun a : Nat => (memoryAt a).any (fun k => (s.eccOf k).lost.contains (a / 8)) = true
    let bad := fun (m : Master) (addr : Nat) (t : State) =>
      ∀ mem, memoryAt (addr % 2 ^ 38) = some mem →
        t = ({ s with outputs := .busError m addr :: s.outputs } : State).uncorrectable mem (addr % 2 ^ 38) .none
    let kept := fun (off n : Nat) => s.mram.lost.filter (fun w => decide (8 * w < off ∨ off + n < 8 * w + 8))
    let plain := fun (m : Master) (t : State) (a : Nat) (bs : List Byte) =>
      s.stores t a bs ∧ t = { s.seen m with mem := t.mem, flt := { s.flt with ecc := t.flt.ecc } } ∧
      (∀ k, some k ≠ memoryAt a → t.eccOf k = s.eccOf k) ∧
      (∀ k, memoryAt a = some k → t.eccOf k = { s.eccOf k with lost := (s.eccOf k).lost.filter (· != a / 8) })
    let ecc := fun (t : State) (mem : Nat) (e : EccMem) => t.eccOf mem = e ∧ ∀ k, k ≠ mem → t.eccOf k = s.eccOf k
    let moved := fun (x : MramState) (line : Nat) =>
      ({ x with remap := tput x.remap line x.spareUsed, spareUsed := x.spareUsed + 1, wear := tset 0 x.wear line 0 } : MramState)
    let worn := fun (u : State) (line : Nat) =>
      let v : State := ({ u with mram := moved u.mram line } : State).raise 0x0F05 1
      if v.spareFree = 63 then v.raise 0x0F06 3 else v
    (∀ (m : Master) (addr : BitVec 40) (bs : List (Option Byte)),
      let n := bs.length
      let a := addr.toNat % 2 ^ 38
      let kind := addr.toNat / 2 ^ 38
      let all := ∀ b ∈ bs, b ≠ none
      let v := leNat (bs.filterMap id)
      let stored := leBytes n (if kind = 1 then s.mrd a n ||| v else if kind = 2 then s.mrd a n ^^^ (s.mrd a n &&& v) else v)
      let ok := accessOk m true addr.toNat n = true
      (s.running = false → Gives (.memoryWrite m addr bs) s (fun t => t = s)) ∧
      (s.running = true → m ≠ .pcie → ¬ok → Gives (.memoryWrite m addr bs) s (fun t => refused m addr.toNat t)) ∧
      (s.running = true → m ≠ .pcie → ok → all → n < 8 → lost a → Gives (.memoryWrite m addr bs) s (fun t => bad m addr.toNat t)) ∧
      (s.running = true → m ≠ .pcie → ok → ¬all → Gives (.memoryWrite m addr bs) s (fun t => refused m addr.toNat t)) ∧
      (s.running = true → m ≠ .pcie → ok → n = 8 ∨ ¬lost a → all → blockAt a = none → isMram a = false → streamsIn a n = [] → tableGap a = false →
        Gives (.memoryWrite m addr bs) s (fun t => plain m t a stored)) ∧
      (s.running = true → m ≠ .pcie → ok → all → tableGap a = true → Gives (.memoryWrite m addr bs) s (fun t => t = s.seen m)) ∧
      (s.running = true → m ≠ .pcie → ok → all → isMram a = true → n < 8 → s.mramLost (a - 0x10000000) n = true →
        Gives (.memoryWrite m addr bs) s (fun t =>
          t = ({ s with outputs := .busError m addr.toNat :: s.outputs } : State).mramError (a - 0x10000000))) ∧
      (s.running = true → m ≠ .pcie → ok → all → isMram a = true → n = 8 ∨ s.mramLost (a - 0x10000000) n = false →
        (∀ l, tget 0 s.mram.wear l < 79999999) → Gives (.memoryWrite m addr bs) s (fun t =>
        let v : State := { t with mram := { s.mram with wear := t.mram.wear, lost := t.mram.lost } }
        s.stores v a stored ∧ v = { s.seen m with mem := t.mem, mram := v.mram } ∧ t.mram.lost = kept (a - 0x10000000) n ∧
        t = v.recordWrite (a - 0x10000000) stored ∧
        ∀ l, tget 0 t.mram.wear l = tget 0 s.mram.wear l + if l = (a - 0x10000000) / 256 then 1 else 0)) ∧
      (s.running = true → m ≠ .pcie → ok → all → streamsIn a n ≠ [] → s.csg.owed = [] → Gives (.memoryWrite m addr bs) s (fun t =>
        (∀ x, x % 32 ≠ 14 → x % 32 ≠ 15 → t.mb x = if a ≤ x ∧ x < a + n then stored.getD (x - a) 0 else s.mb x) ∧
        ∀ h ∈ streamsIn a n, (t.stream h).valid = true →
          t.mrd (0x30400000 + 32 * h + 14) 2 = if (s.stream h).valid then s.mrd (0x30400000 + 32 * h + 14) 2 else 0)) ∧
      (s.running = true → m ≠ .pcie → ok → all → blockAt a ≠ none → Gives (.memoryWrite m addr bs) s (fun t =>
        exec (.registerWrite m addr (n == 8) (BitVec.ofNat 64 v)) s = .next t)) ∧
      (s.running = true → blockAt addr.toNat = none ∨ addr.toNat % 4 ≠ 0 ∨ n % 4 ≠ 0 → Gives (.memoryWrite .pcie addr bs) s (fun t => refused .pcie addr.toNat t)) ∧
      (∀ w x : Word, s.running = true → blockAt addr.toNat ≠ none → addr.toNat % 4 = 0 →
        let put := fun (u : State) (b : Nat) (w : Word) => u.busWrite .pcie b 4 w.toNat
        Gives (.memoryWrite .pcie addr ((leBytes 4 w.toNat).map some)) s (fun t => t = put s addr.toNat w) ∧
        let inside := mapRegion addr.toNat = mapRegion (addr.toNat + 7)
        let both := (leBytes 4 w.toNat ++ leBytes 4 x.toNat).map some
        let second := List.replicate 4 none ++ (leBytes 4 x.toNat).map some
        (inside → Gives (.memoryWrite .pcie addr both) s (fun t => t = put (put s addr.toNat w) (addr.toNat + 4) x)) ∧
        (inside → Gives (.memoryWrite .pcie addr second) s (fun t => t = put s (addr.toNat + 4) x)) ∧
        (¬inside → Gives (.memoryWrite .pcie addr both) s (fun t => refused .pcie addr.toNat t)) ∧
        (¬inside → Gives (.memoryWrite .pcie addr second) s (fun t => refused .pcie addr.toNat t)) ∧
        Gives (.memoryWrite .pcie addr (none :: ((leBytes 4 w.toNat ++ leBytes 4 x.toNat).drop 1).map some)) s (fun t => refused .pcie addr.toNat t))) ∧
    (∀ (m : Master) (clear wide : Bool) (addr : BitVec 38) (v : DWord),
      let n := if wide then 8 else 4
      let full := (if clear then 2 else 1) * 2 ^ 38 + addr.toNat
      let a := addr.toNat
      let old := s.mrd a n
      let ok := accessOk m true full n = true
      let stored := leBytes n (if clear then old ^^^ (old &&& v.toNat) else old ||| v.toNat)
      (s.running = false → Gives (.aliasWrite m clear addr wide v) s (fun t => t = s)) ∧
      (s.running = true → ¬ok → Gives (.aliasWrite m clear addr wide v) s (fun t => refused m full t)) ∧
      (s.running = true → ok → lost a → Gives (.aliasWrite m clear addr wide v) s (fun t => bad m full t)) ∧
      (s.running = true → ok → ¬lost a → streamsIn a n = [] → tableGap a = false →
        Gives (.aliasWrite m clear addr wide v) s (fun t => s.stores t a stored ∧ t = { s.seen m with mem := t.mem })) ∧
      (s.running = true → ok → tableGap a = true → Gives (.aliasWrite m clear addr wide v) s (fun t => t = s.seen m)) ∧
      (s.running = true → ok → streamsIn a n ≠ [] → s.csg.owed = [] → Gives (.aliasWrite m clear addr wide v) s (fun t =>
        (∀ x, x % 32 ≠ 14 → x % 32 ≠ 15 → t.mb x = if a ≤ x ∧ x < a + n then stored.getD (x - a) 0 else s.mb x)))) ∧
    (∀ (m : Master) (v : Word) (burst : Bool) (n12 : Fin 12) (k48 : Fin 48) (p32 : Fin 32) (k256 : Fin 256) (p28 : Fin 28) (g64 : Fin 64) (c512 : Fin 512) (p20 : Fin 20) (e36 : Fin 36) (n24 : Fin 24) (k5 : Fin 5) (b3 : Fin 3),
      let rows1 : List (Instr × Nat) :=
        [(.hb m v, BNK_CTL), (.sleepReq m v, BNK_CTL), (.heaterDemandWrite m n12 v, BNK_HTR_DEMAND n12),
        (.clear m n12 v, BNK_HTR_CMD n12), (.clrMin m v, BNK_SUP_CFG), (.needSwap m v, HLT_GOV_CTL),
        (.hltTideRateWrite m v, HLT_TIDE_RATE), (.stepGo m v, HLT_TIDE_CTL), (.clrCounts m v, HLT_PMB_CFG),
        (.clrMax m v, HLT_TEMP_LIM),
        (.bermConfigWrite m k48 v, if k48 < 32 then SWC_PORT_CFG k48 else SWC_BERM_LO 0 + 4 * (k48 - 32)),
        (.swcCntClr m p32, SWC_CNT_CLR), (.swcCntClrAll m v, SWC_CNT_CLR), (.policerWrite m v, TMG_POL_CMD),
        (.policerRead m v, TMG_POL_CMD), (.policerClr m v, TMG_POL_CMD), (.clrGateCnt m v, TMG_CTL), (.clrPolCnt m v, TMG_CTL)]
      let rows2 : List (Instr × Nat) :=
        [(.shaperConfigWrite m k256 burst v, if burst then TMG_SHP_BURST k256 else TMG_SHP_CFG k256),
        (.change m p28 v, TMG_TT_CTL p28), (.ttEnable m p28 v, TMG_TT_CTL p28), (.tmgTtDataWrite m v, TMG_TT_DATA),
        (.tmgHistSelWrite m g64 v, TMG_HIST_SEL g64), (.clrWm m v, TMG_GAUGE_CTL), (.clrHist m v, TMG_GAUGE_CTL),
        (.revert m g64 v, CSG_G_REVERT g64), (.csgGCfgWrite m g64 v, CSG_G_CFG g64),
        (.csgGBackupWrite m g64 v, CSG_G_BACKUP g64), (.csgFrerCfgWrite m c512 v, CSG_FRER_CFG c512),
        (.csgClrGuards m v, CSG_CNT_CLR), (.csgClrFrer m v, CSG_CNT_CLR), (.csgClrRefused m v, CSG_CNT_CLR),
        (.ethPhyCfgWrite m p28 v, ETH_PHY_CFG p28), (.saWord0Write m p20 e36 v, saAddr p20 e36 0),
        (.txAnSwitch m p20 v, ETH_SEC_CFG p20), (.txtsAck m p28 v, ETH_TXTS_ACK p28)]
      let rows3 : List (Instr × Nat) :=
        [(.tc10SleepReq m p28 v, ETH_TC10_CFG p28), (.wakeReq m p28 v, ETH_TC10_CFG p28), (.ethCntClr m p28 v, ETH_CNT_CLR p28),
        (.canModeWrite m n24 v, CAN_CTL n24), (.canConfigWrite m n24 k5 v, CAN_CTL n24 + 0x10 + 4 * k5),
        (.filterElementWrite m n24 v, CAN_FLT_DATA1 n24), (.rxqAck m n24 v, CAN_RXQ_ACK n24),
        (.submit m n24 v, CAN_TXR_CMD n24), (.cancel m n24 b3 v, CAN_TXB_CMD n24 b3), (.flush m n24 v, CAN_TX_CTL n24),
        (.canCntClr m n24 v, CAN_CNT_CLR n24), (.canCtlRecover m n24 v, CAN_CTL n24), (.sweepNow m v, TBL_CTL),
        (.tblCntClr m v, TBL_CNT_CLR), (.resume m v, KPR_RT_CMD), (.routineClr m v, KPR_RT_CMD), (.kprCntClr m v, KPR_CNT_CLR),
        (.plcCntClr m v, PLC_CNT_CLR)]
      let rows4 : List (Instr × Nat) :=
        [(.go m v, FAB_SIG_SEND), (.rediscover m v, FAB_CTL), (.fabCntClr m v, FAB_CNT_CLR), (.req m v, SEC_LOCK_REQ),
        (.release m v, SEC_LOCK_REQ), (.engineGo m v, SEC_ENG_CMD), (.rngAck m v, SEC_RNG_ACK), (.secCntClr m v, SEC_CNT_CLR),
        (.init m v, SEC_SHA_CMD), (.update m v, SEC_SHA_CMD), (.final m v, SEC_SHA_CMD), (.doneFault m v, FLT_FAULT_DONE),
        (.evqAck m v, FLT_EVQ_ACK), (.fltClrLost m v, FLT_CNT_CLR), (.fltClrSrc m v, FLT_CNT_CLR),
        (.fltClrEcc m v, FLT_CNT_CLR), (.prod m v, SYS_CMD_PROD), (.cmdAck m v, SYS_CMD_ACK)]
      let rows : List (Instr × Nat) := rows1 ++ rows2 ++ rows3 ++ rows4
      (s.running = false → ∀ x ∈ rows, Gives x.1 s (fun t => t = s)) ∧
      (s.running = true → ∀ x ∈ rows, accessOk m true x.2 4 = false → Gives x.1 s (fun t => refused m x.2 t))) ∧
    (∀ (m : Master) (addr : BitVec 40) (wide : Bool) (v : DWord),
      let n := if wide then 8 else 4
      (s.running = false → Gives (.registerWrite m addr wide v) s (fun t => t = s)) ∧
      (s.running = true → m ≠ .pcie → accessOk m true addr.toNat n = false → Gives (.registerWrite m addr wide v) s (fun t => refused m addr.toNat t)) ∧
      (s.running = true → blockAt addr.toNat = none ∨ addr.toNat % 4 ≠ 0 → Gives (.registerWrite .pcie addr wide v) s (fun t => refused .pcie addr.toNat t)) ∧
      (∀ lo hi : State, s.running = true → m ≠ .pcie → accessOk m true addr.toNat 8 = true → blockAt addr.toNat ≠ none →
        exec (.registerWrite m addr false v) s = .next lo →
        exec (.registerWrite m (addr + 4) false (v >>> 32)) lo = .next hi → Gives (.registerWrite m addr true v) s (fun t => t = hi))) ∧
    (∀ (m : Master) (off : Fin 16384) (v : DWord),
      let a := 0x200F0000 + 4 * off.val
      s.writable m a → a ≠ PLC_CNT_CLR →
      (∀ d : RegDesc, regAt a = some d →
        Gives (.registerWrite m (BitVec.ofNat 40 a) false v) s (fun t => t.rd a = d.write (s.rd a) (v.truncate 32) ∧
          s.onlyRegs t [a] ∧ t = { s.seen m with regs := t.regs })) ∧
      (regAt a = none → Gives (.registerWrite m (BitVec.ofNat 40 a) false v) s (fun t => t = s.seen m))) ∧
    (∀ (mem : Fin 83) (a : Nat) (result : Fin 3) (written : Bool) (u : PatrolUnit),
      s.running = false ∨ s.fldB FLT_ECC_CFG FLT_ECC_CFG_patrol_en = false → Gives (.patrolRead mem a result written u) s (fun t => t = s)) ∧
    (∀ (mem : Fin 83) (a : Nat) (written : Bool) (u : PatrolUnit), s.running = true → s.fldB FLT_ECC_CFG FLT_ECC_CFG_patrol_en = true →
      let e := s.eccOf mem
      let cured := tdel e.mended (a / 8)
      let held := s.mrd (8 * (a / 8)) 8
      let hard := written = false ∧ e.mended.any (fun x => x.1 == a / 8 && x.2 == held) = true
      let count := min (e.corrected + 1) 65535
      let warns := e.warned = false ∧ s.fld FLT_ECC_CFG FLT_ECC_CFG_ecc_warn ≤ count
      let one : EccMem := { e with corrected := count, addr := a, uncorr := false, hard := decide hard, warned := e.warned || decide warns, mended := tput e.mended (a / 8) held }
      let two : EccMem := { e with uncorrectable := min (e.uncorrectable + 1) 65535, addr := a, uncorr := true, hard := false, mended := cured }
      let cls := if mem.val < 72 then 3 else if mem.val < 76 then 4 else if mem.val = 76 + s.wrd.half then 7 else if mem.val = 78 then 4 else 3
      let found := (s.setMended mem (a / 8) false).eccUncorrectable mem a
      let told := found.raise 0x0F03 cls mem a
      let noted := fun t : State => t.setLost mem (a / 8) true
      Gives (.patrolRead mem a 0 written u) s (fun t => ecc t mem { e with mended := cured } ∧ t = { s with flt := { s.flt with ecc := t.flt.ecc } }) ∧
      Gives (.patrolRead mem a 1 written u) s (fun t => ecc t mem one ∧ s.onlyRegs t [] ∧
        (¬hard → ¬warns → t = { s with flt := { s.flt with ecc := t.flt.ecc } }) ∧
        (warns → s.mayRaise 0x0F01 mem = true → s.tells t 2 0x0F01 1 mem) ∧ (hard → s.tells t 2 0x0F02 2 mem) ∧ s.regFrame t) ∧
      (ecc found mem two ∧ found = { s with flt := { s.flt with ecc := found.flt.ecc } }) ∧
      (∀ id : Nat, mem.val < 8 → Gives (.patrolRead mem a 2 written (.frame id)) s (fun t => t = (told.failFrame id none).spillAll)) ∧
      (8 ≤ mem.val → mem.val < 72 → Gives (.patrolRead mem a 2 written u) s (fun t => t = noted (told.exclude (mem.val - 8)
        (if dataBase (mem.val - 8) ≤ a ∧ a < dataBase (mem.val - 8) + 0x10000 then some (a - dataBase (mem.val - 8)) else none)))) ∧
      (72 ≤ mem.val → mem.val < 76 → Gives (.patrolRead mem a 2 written u) s (fun t => t = told.groupLost a)) ∧
      (mem.val = 76 + s.wrd.half → mem.val < 78 → Gives (.patrolRead mem a 2 written u) s (fun t => t = noted told)) ∧
      (76 ≤ mem.val → mem.val < 78 → mem.val ≠ 76 + s.wrd.half → Gives (.patrolRead mem a 2 written u) s (fun t =>
        t = noted { told with wrd := { told.wrd with stagingBad := true } })) ∧
      (mem.val = 78 → Gives (.patrolRead mem a 2 written u) s (fun t => t = told.tableLost a)) ∧
      (∀ slot : Nat, mem.val = 79 → Gives (.patrolRead mem a 2 written (.entry slot)) s (fun t =>
        let v := told.addFld FLT_EVQ_STATUS FLT_EVQ_STATUS_ecc_lost 1
        t = { v with flt := { v.flt with queue := s.flt.queue.filter (fun e => e.slot != slot), stack := s.flt.stack.filter (fun i => i.slot != slot) } })) ∧
      (80 ≤ mem.val → Gives (.patrolRead mem a 2 written u) s (fun t => t = told.smallLost u)) ∧
      (mem.val < 8 ∨ mem.val = 79 ∨ 80 ≤ mem.val → Gives (.patrolRead mem a 2 written .none) s (fun t => t = told))) ∧
    (∀ (off : Fin 16777216) (bs : List Byte) (fails : Fin 5),
      let line := off.val / 256
      let one := bs ≠ [] ∧ off.val % 256 + bs.length ≤ 256
      let put := fun u : State => u.mwbytes (mramBase + off.val) bs
      let count := tget 0 s.mram.wear line + 1
      (s.running = false ∨ (bs = [] ∧ fails < 4) → Gives (.mramWrite off bs fails) s (fun t => t = s)) ∧
      (s.running = true → fails < 4 → (∀ l, tget 0 s.mram.wear l < 79999999) → Gives (.mramWrite off bs fails) s (fun t =>
        let v : State := { t with mram := { s.mram with wear := t.mram.wear, lost := t.mram.lost } }
        s.stores v (mramBase + off.val) bs ∧ v = { s with mem := t.mem, mram := v.mram } ∧ t.mram.lost = kept off.val bs.length ∧
        t = v.recordWrite off.val bs ∧
        (∀ l, tget 0 t.mram.wear l = tget 0 s.mram.wear l + if bs ≠ [] ∧ line ≤ l ∧ l ≤ (off.val + bs.length - 1) / 256 then 1 else 0))) ∧
      (s.running = true → fails < 4 → one → count < 80000000 ∨ s.spareFree = 0 → Gives (.mramWrite off bs fails) s (fun t =>
        t = ({ put s with mram := { s.mram with wear := tset 0 s.mram.wear line count, lost := kept off.val bs.length } } : State).recordWrite off.val bs)) ∧
      (s.running = true → fails < 4 → one → 80000000 ≤ count → 0 < s.spareFree → Gives (.mramWrite off bs fails) s (fun t =>
        t = (worn { put s with mram := { s.mram with wear := tset 0 s.mram.wear line count, lost := kept off.val bs.length } } line).recordWrite off.val bs)) ∧
      (s.running = true → fails = 4 → one → 0 < s.spareFree → Gives (.mramWrite off bs fails) s (fun t =>
        let r := worn s line
        let v : State := { r with mem := t.mem, mram := { r.mram with wear := tset 0 r.mram.wear line 1, lost := kept off.val bs.length } }
        s.stores v (mramBase + off.val) bs ∧ t = v.recordWrite off.val bs)) ∧
      (s.running = true → fails = 4 → s.spareFree = 0 → Gives (.mramWrite off bs fails) s (fun t =>
        let junk := (List.range bs.length).map (fun i => Config.failedCell (s.free + i))
        let u := ({ s with free := s.free + 1 } : State).mwbytes (mramBase + off.val) junk
        let touched := (List.range ((off.val + bs.length + 7) / 8 - off.val / 8)).map (fun i => off.val / 8 + i)
        let gone := s.mram.lost.filter (fun w => !touched.contains w) ++ touched.filter (fun w => Config.failedWord (s.free + w))
        t = ({ u with mram := { s.mram with wear := tset 0 s.mram.wear line count, lost := gone }, outputs := .busError .warden (mramBase + off.val) :: s.outputs } : State).raise 0x0F07 4))) ∧
    (∀ (off : Nat) (bs : List Byte), (∀ r ∈ s.mramRecords, off + bs.length ≤ r.1 ∨ r.1 + r.2.length ≤ off) → s.recordWrite off bs = s) ∧
    (∀ b : Byte, s.recordWrite 0x8200 [b] = { s with mram := { s.mram with fallback := b.toNat } }) ∧
    (s.running = false → Gives .operatingHour s (fun t => t = s)) ∧
    (s.running = true →
      let m : MramState := { s.mram with hours := s.mram.hours + 1 }
      let age : Nat := match s.mram.lastStart with
        | .shipped => s.dev.gptpTime - Config.mramTestTime
        | .gptp x => s.dev.gptpTime - x
        | .unsynced x => s.elapsed - x
      let due := 8760 ≤ s.mramHours + 1 ∨ (s.dev.synced = true ∧ 157788000 * 1000000000 ≤ age)
      Gives .operatingHour s (fun t => t = { s with mram :=
        if due ∧ m.scrubActive = false then { m with scrubActive := true, scrubDue := true, scrubPos := 0, scrubStart := if s.dev.synced then .gptp s.dev.gptpTime else .unsynced s.elapsed } else m })) ∧
    (∀ n : Fin 65537, s.running = false ∨ s.mram.scrubActive = false → Gives (.scrubSlice n) s (fun t => t = s)) ∧
    (∀ n : Fin 65537, s.running = true → s.mram.scrubActive = true → (∀ l, tget 0 s.mram.wear l < 79999999) →
      let pos := s.mram.scrubPos
      let total := 65536 + s.mram.spareUsed
      let wear := fun (t : State) (k : Nat) => ∀ l, tget 0 t.mram.wear l = tget 0 s.mram.wear l + if pos ≤ l ∧ l < k then 1 else 0
      pos ≤ total →
      (pos + n.val < total → Gives (.scrubSlice n) s (fun t => wear t (pos + n.val) ∧
        t = { s with mram := { s.mram with wear := t.mram.wear, scrubPos := pos + n.val } })) ∧
      (total ≤ pos + n.val → Gives (.scrubSlice n) s (fun t => wear t total ∧
        t = ({ s with mram := { s.mram with scrubActive := false, scrubDue := false, scrubPos := 0, hours := 0, hoursCleared := true, wear := t.mram.wear, lastStart := s.mram.scrubStart } } : State).raise 0x0F08 0))) ∧
    (s.running = true → s.mram.scrubActive = true → 79999999 ≤ tget 0 s.mram.wear s.mram.scrubPos → 0 < s.spareFree →
      s.mram.scrubPos + 1 < 65536 + s.mram.spareUsed → Gives (.scrubSlice 1) s (fun t =>
        let line := s.mram.scrubPos
        let r := worn { s with mram := { s.mram with wear := tset 0 s.mram.wear line (tget 0 s.mram.wear line + 1) } } line
        t = { r with mram := { r.mram with scrubPos := line + 1 } }))

/-- The step of the block, a choice of the model (assumption 1): with a command at the front of its queue, a step is exec of that command on the state with the queue's rest; on an empty queue the block idles, which is a tick of its clock. -/
def Obligations.StepRunsCommand : Prop :=
  ∀ (c : Instr) (s : State) (rest : List Instr),
    step { s with pending := c :: rest } = exec c { s with pending := rest } ∧
    (s.pending = [] → step s = .next s.idle)

/-- The state after reset (R10, R54, R59, R61, R81): every register at the value of its Reset column but the reset cause, which says power-on; nothing queued, nothing running, nothing in memory, the boot ROM starting with every supply on. What the manual gives no reset value for is the model's choice (assumption 2). -/
def Obligations.ResetState : Prop :=
  State.reset.Inv ∧ State.reset.pending = [] ∧ State.reset.mem = [] ∧ State.reset.dev.state = .boot ∧ State.reset.phase = 0 ∧
    (∀ a, a ≠ SYS_RESET_CAUSE → State.reset.rd a = regDefault a) ∧
    State.reset = { regs := State.reset.regs, bank := { enV18 := true, enVline := true, enVcore := true, supPg := true, seq := .running } } ∧
    State.reset.csg.owed = [] ∧ State.reset.running = true ∧ State.reset.tide = 0 ∧ State.reset.eth = [] ∧ State.reset.can = {} ∧
    State.reset.fld SYS_RESET_CAUSE SYS_RESET_CAUSE_cause = 1 ∧ State.reset.flt = {} ∧ State.reset.kpr = {} ∧
    State.reset.wrd.arrivals = [] ∧ State.reset.sw.frames = [] ∧ State.reset.bank.enVcore = true ∧
    regDefault FLT_CTL = 0x60064#32 ∧ regDefault FLT_ECC_CFG = 0x10040#32 ∧ regDefault BNK_SUP_CFG = 5#32 ∧
    regDefault BNK_WAKE_CFG = 0xFF#32 ∧ regDefault (BNK_HTR_DEMAND 11) = 0 ∧ regDefault (BNK_HTR_CFG 11) = 0x287D0400#32 ∧
    regDefault FAB_IRQ_MASK = 0x1F#32 ∧ regDefault SYS_CMD_PROD = 0

/-- The encoding of the Atnan instruction set (R239 to R241, R250): for every instruction, with every operand at every value that its encoding admits, the decoder reads from the encoded word the instruction itself; so no two instructions share a word and no operand bit is dropped. -/
def Obligations.KeeperRoundTrip : Prop :=
  (∀ i : KInstr, i.encode < 2 ^ 32 ∧ atnDecode i.encode = some i) ∧
    ∀ i j : KInstr, i.encode = j.encode → i = j

/-- The invariant of the model's memory and register tables (assumption 4): from every state in which addresses rise and no entry holds what an unlisted address reads as, every step leads to such a state; so two equal memories are equal data. -/
def Obligations.StepKeepsForm : Prop :=
  ∀ s t : State, s.Inv → step s = .next t → t.Inv
end

