-- ==== Sys2Proof/Laws/State.lean ====
section
/-! SUPPORT. What each update of the state does to each field: true by unfolding one record update. -/

namespace Sys2Proof.Machine

variable (s : State)

@[simp] theorem State.wr_pending (a : Nat) (v : Word) : (s.wr a v).pending = s.pending := rfl
@[simp] theorem State.wr_elapsed (a : Nat) (v : Word) : (s.wr a v).elapsed = s.elapsed := rfl
@[simp] theorem State.wr_tide (a : Nat) (v : Word) : (s.wr a v).tide = s.tide := rfl
@[simp] theorem State.wr_tideFrac (a : Nat) (v : Word) : (s.wr a v).tideFrac = s.tideFrac := rfl
@[simp] theorem State.wr_free (a : Nat) (v : Word) : (s.wr a v).free = s.free := rfl
@[simp] theorem State.wr_outputs (a : Nat) (v : Word) : (s.wr a v).outputs = s.outputs := rfl
@[simp] theorem State.wr_regs (a : Nat) (v : Word) : (s.wr a v).regs = tset (regDefault a) s.regs a v := rfl
@[simp] theorem State.wr_mem (a : Nat) (v : Word) : (s.wr a v).mem = s.mem := rfl
@[simp] theorem State.wr_dev (a : Nat) (v : Word) : (s.wr a v).dev = s.dev := rfl
@[simp] theorem State.wr_pins (a : Nat) (v : Word) : (s.wr a v).pins = s.pins := rfl
@[simp] theorem State.wr_bank (a : Nat) (v : Word) : (s.wr a v).bank = s.bank := rfl
@[simp] theorem State.wr_mram (a : Nat) (v : Word) : (s.wr a v).mram = s.mram := rfl
@[simp] theorem State.wr_hlt (a : Nat) (v : Word) : (s.wr a v).hlt = s.hlt := rfl
@[simp] theorem State.wr_flt (a : Nat) (v : Word) : (s.wr a v).flt = s.flt := rfl
@[simp] theorem State.wr_sw (a : Nat) (v : Word) : (s.wr a v).sw = s.sw := rfl
@[simp] theorem State.wr_tm (a : Nat) (v : Word) : (s.wr a v).tm = s.tm := rfl
@[simp] theorem State.wr_csg (a : Nat) (v : Word) : (s.wr a v).csg = s.csg := rfl
@[simp] theorem State.wr_eth (a : Nat) (v : Word) : (s.wr a v).eth = s.eth := rfl
@[simp] theorem State.wr_tbl (a : Nat) (v : Word) : (s.wr a v).tbl = s.tbl := rfl
@[simp] theorem State.wr_wrd (a : Nat) (v : Word) : (s.wr a v).wrd = s.wrd := rfl
@[simp] theorem State.wr_otp (a : Nat) (v : Word) : (s.wr a v).otp = s.otp := rfl
@[simp] theorem State.wr_sec (a : Nat) (v : Word) : (s.wr a v).sec = s.sec := rfl
@[simp] theorem State.wr_fab (a : Nat) (v : Word) : (s.wr a v).fab = s.fab := rfl
@[simp] theorem State.wr_plc (a : Nat) (v : Word) : (s.wr a v).plc = s.plc := rfl
@[simp] theorem State.wr_kpr (a : Nat) (v : Word) : (s.wr a v).kpr = s.kpr := rfl
@[simp] theorem State.wr_can (a : Nat) (v : Word) : (s.wr a v).can = s.can := rfl
@[simp] theorem State.wr_mb (a : Nat) (v : Word) (k : Nat) : (s.wr a v).mb k = s.mb k := rfl
@[simp] theorem State.wr_running (a : Nat) (v : Word) : (s.wr a v).running = s.running := rfl

@[simp] theorem State.setFld_pending (a : Nat) (f : Fld) (v : Nat) : (s.setFld a f v).pending = s.pending := rfl
@[simp] theorem State.setFld_elapsed (a : Nat) (f : Fld) (v : Nat) : (s.setFld a f v).elapsed = s.elapsed := rfl
@[simp] theorem State.setFld_tide (a : Nat) (f : Fld) (v : Nat) : (s.setFld a f v).tide = s.tide := rfl
@[simp] theorem State.setFld_tideFrac (a : Nat) (f : Fld) (v : Nat) : (s.setFld a f v).tideFrac = s.tideFrac := rfl
@[simp] theorem State.setFld_free (a : Nat) (f : Fld) (v : Nat) : (s.setFld a f v).free = s.free := rfl
@[simp] theorem State.setFld_outputs (a : Nat) (f : Fld) (v : Nat) : (s.setFld a f v).outputs = s.outputs := rfl
@[simp] theorem State.setFld_regs (a : Nat) (f : Fld) (v : Nat) : (s.setFld a f v).regs = tset (regDefault a) s.regs a (f.put (s.rd a) v) := rfl
@[simp] theorem State.setFld_mem (a : Nat) (f : Fld) (v : Nat) : (s.setFld a f v).mem = s.mem := rfl
@[simp] theorem State.setFld_dev (a : Nat) (f : Fld) (v : Nat) : (s.setFld a f v).dev = s.dev := rfl
@[simp] theorem State.setFld_pins (a : Nat) (f : Fld) (v : Nat) : (s.setFld a f v).pins = s.pins := rfl
@[simp] theorem State.setFld_bank (a : Nat) (f : Fld) (v : Nat) : (s.setFld a f v).bank = s.bank := rfl
@[simp] theorem State.setFld_mram (a : Nat) (f : Fld) (v : Nat) : (s.setFld a f v).mram = s.mram := rfl
@[simp] theorem State.setFld_hlt (a : Nat) (f : Fld) (v : Nat) : (s.setFld a f v).hlt = s.hlt := rfl
@[simp] theorem State.setFld_flt (a : Nat) (f : Fld) (v : Nat) : (s.setFld a f v).flt = s.flt := rfl
@[simp] theorem State.setFld_sw (a : Nat) (f : Fld) (v : Nat) : (s.setFld a f v).sw = s.sw := rfl
@[simp] theorem State.setFld_tm (a : Nat) (f : Fld) (v : Nat) : (s.setFld a f v).tm = s.tm := rfl
@[simp] theorem State.setFld_csg (a : Nat) (f : Fld) (v : Nat) : (s.setFld a f v).csg = s.csg := rfl
@[simp] theorem State.setFld_eth (a : Nat) (f : Fld) (v : Nat) : (s.setFld a f v).eth = s.eth := rfl
@[simp] theorem State.setFld_tbl (a : Nat) (f : Fld) (v : Nat) : (s.setFld a f v).tbl = s.tbl := rfl
@[simp] theorem State.setFld_wrd (a : Nat) (f : Fld) (v : Nat) : (s.setFld a f v).wrd = s.wrd := rfl
@[simp] theorem State.setFld_otp (a : Nat) (f : Fld) (v : Nat) : (s.setFld a f v).otp = s.otp := rfl
@[simp] theorem State.setFld_sec (a : Nat) (f : Fld) (v : Nat) : (s.setFld a f v).sec = s.sec := rfl
@[simp] theorem State.setFld_fab (a : Nat) (f : Fld) (v : Nat) : (s.setFld a f v).fab = s.fab := rfl
@[simp] theorem State.setFld_plc (a : Nat) (f : Fld) (v : Nat) : (s.setFld a f v).plc = s.plc := rfl
@[simp] theorem State.setFld_kpr (a : Nat) (f : Fld) (v : Nat) : (s.setFld a f v).kpr = s.kpr := rfl
@[simp] theorem State.setFld_can (a : Nat) (f : Fld) (v : Nat) : (s.setFld a f v).can = s.can := rfl
@[simp] theorem State.setFld_mb (a : Nat) (f : Fld) (v : Nat) (k : Nat) : (s.setFld a f v).mb k = s.mb k := rfl
@[simp] theorem State.setFld_running (a : Nat) (f : Fld) (v : Nat) : (s.setFld a f v).running = s.running := rfl

@[simp] theorem State.mwb_pending (a : Nat) (v : Byte) : (s.mwb a v).pending = s.pending := rfl
@[simp] theorem State.mwb_elapsed (a : Nat) (v : Byte) : (s.mwb a v).elapsed = s.elapsed := rfl
@[simp] theorem State.mwb_tide (a : Nat) (v : Byte) : (s.mwb a v).tide = s.tide := rfl
@[simp] theorem State.mwb_tideFrac (a : Nat) (v : Byte) : (s.mwb a v).tideFrac = s.tideFrac := rfl
@[simp] theorem State.mwb_free (a : Nat) (v : Byte) : (s.mwb a v).free = s.free := rfl
@[simp] theorem State.mwb_outputs (a : Nat) (v : Byte) : (s.mwb a v).outputs = s.outputs := rfl
@[simp] theorem State.mwb_regs (a : Nat) (v : Byte) : (s.mwb a v).regs = s.regs := rfl
@[simp] theorem State.mwb_mem (a : Nat) (v : Byte) : (s.mwb a v).mem = tset (memDefault a) s.mem a v := rfl
@[simp] theorem State.mwb_dev (a : Nat) (v : Byte) : (s.mwb a v).dev = s.dev := rfl
@[simp] theorem State.mwb_pins (a : Nat) (v : Byte) : (s.mwb a v).pins = s.pins := rfl
@[simp] theorem State.mwb_bank (a : Nat) (v : Byte) : (s.mwb a v).bank = s.bank := rfl
@[simp] theorem State.mwb_mram (a : Nat) (v : Byte) : (s.mwb a v).mram = s.mram := rfl
@[simp] theorem State.mwb_hlt (a : Nat) (v : Byte) : (s.mwb a v).hlt = s.hlt := rfl
@[simp] theorem State.mwb_flt (a : Nat) (v : Byte) : (s.mwb a v).flt = s.flt := rfl
@[simp] theorem State.mwb_sw (a : Nat) (v : Byte) : (s.mwb a v).sw = s.sw := rfl
@[simp] theorem State.mwb_tm (a : Nat) (v : Byte) : (s.mwb a v).tm = s.tm := rfl
@[simp] theorem State.mwb_csg (a : Nat) (v : Byte) : (s.mwb a v).csg = s.csg := rfl
@[simp] theorem State.mwb_eth (a : Nat) (v : Byte) : (s.mwb a v).eth = s.eth := rfl
@[simp] theorem State.mwb_tbl (a : Nat) (v : Byte) : (s.mwb a v).tbl = s.tbl := rfl
@[simp] theorem State.mwb_wrd (a : Nat) (v : Byte) : (s.mwb a v).wrd = s.wrd := rfl
@[simp] theorem State.mwb_otp (a : Nat) (v : Byte) : (s.mwb a v).otp = s.otp := rfl
@[simp] theorem State.mwb_sec (a : Nat) (v : Byte) : (s.mwb a v).sec = s.sec := rfl
@[simp] theorem State.mwb_fab (a : Nat) (v : Byte) : (s.mwb a v).fab = s.fab := rfl
@[simp] theorem State.mwb_plc (a : Nat) (v : Byte) : (s.mwb a v).plc = s.plc := rfl
@[simp] theorem State.mwb_kpr (a : Nat) (v : Byte) : (s.mwb a v).kpr = s.kpr := rfl
@[simp] theorem State.mwb_can (a : Nat) (v : Byte) : (s.mwb a v).can = s.can := rfl
@[simp] theorem State.mwb_rd (a : Nat) (v : Byte) (k : Nat) : (s.mwb a v).rd k = s.rd k := rfl
@[simp] theorem State.mwb_running (a : Nat) (v : Byte) : (s.mwb a v).running = s.running := rfl

@[simp] theorem State.out_pending (o : Output) : (s.out o).pending = s.pending := rfl
@[simp] theorem State.out_elapsed (o : Output) : (s.out o).elapsed = s.elapsed := rfl
@[simp] theorem State.out_tide (o : Output) : (s.out o).tide = s.tide := rfl
@[simp] theorem State.out_tideFrac (o : Output) : (s.out o).tideFrac = s.tideFrac := rfl
@[simp] theorem State.out_free (o : Output) : (s.out o).free = s.free := rfl
@[simp] theorem State.out_outputs (o : Output) : (s.out o).outputs = o :: s.outputs := rfl
@[simp] theorem State.out_regs (o : Output) : (s.out o).regs = s.regs := rfl
@[simp] theorem State.out_mem (o : Output) : (s.out o).mem = s.mem := rfl
@[simp] theorem State.out_dev (o : Output) : (s.out o).dev = s.dev := rfl
@[simp] theorem State.out_pins (o : Output) : (s.out o).pins = s.pins := rfl
@[simp] theorem State.out_bank (o : Output) : (s.out o).bank = s.bank := rfl
@[simp] theorem State.out_mram (o : Output) : (s.out o).mram = s.mram := rfl
@[simp] theorem State.out_hlt (o : Output) : (s.out o).hlt = s.hlt := rfl
@[simp] theorem State.out_flt (o : Output) : (s.out o).flt = s.flt := rfl
@[simp] theorem State.out_sw (o : Output) : (s.out o).sw = s.sw := rfl
@[simp] theorem State.out_tm (o : Output) : (s.out o).tm = s.tm := rfl
@[simp] theorem State.out_csg (o : Output) : (s.out o).csg = s.csg := rfl
@[simp] theorem State.out_eth (o : Output) : (s.out o).eth = s.eth := rfl
@[simp] theorem State.out_tbl (o : Output) : (s.out o).tbl = s.tbl := rfl
@[simp] theorem State.out_wrd (o : Output) : (s.out o).wrd = s.wrd := rfl
@[simp] theorem State.out_otp (o : Output) : (s.out o).otp = s.otp := rfl
@[simp] theorem State.out_sec (o : Output) : (s.out o).sec = s.sec := rfl
@[simp] theorem State.out_fab (o : Output) : (s.out o).fab = s.fab := rfl
@[simp] theorem State.out_plc (o : Output) : (s.out o).plc = s.plc := rfl
@[simp] theorem State.out_kpr (o : Output) : (s.out o).kpr = s.kpr := rfl
@[simp] theorem State.out_can (o : Output) : (s.out o).can = s.can := rfl
@[simp] theorem State.out_rd (o : Output) (k : Nat) : (s.out o).rd k = s.rd k := rfl
@[simp] theorem State.out_mb (o : Output) (k : Nat) : (s.out o).mb k = s.mb k := rfl
@[simp] theorem State.out_running (o : Output) : (s.out o).running = s.running := rfl

@[simp] theorem State.setBank_pending (x : BankDie) : (s.setBank x).pending = s.pending := rfl
@[simp] theorem State.setBank_elapsed (x : BankDie) : (s.setBank x).elapsed = s.elapsed := rfl
@[simp] theorem State.setBank_tide (x : BankDie) : (s.setBank x).tide = s.tide := rfl
@[simp] theorem State.setBank_tideFrac (x : BankDie) : (s.setBank x).tideFrac = s.tideFrac := rfl
@[simp] theorem State.setBank_free (x : BankDie) : (s.setBank x).free = s.free := rfl
@[simp] theorem State.setBank_outputs (x : BankDie) : (s.setBank x).outputs = s.outputs := rfl
@[simp] theorem State.setBank_regs (x : BankDie) : (s.setBank x).regs = s.regs := rfl
@[simp] theorem State.setBank_mem (x : BankDie) : (s.setBank x).mem = s.mem := rfl
@[simp] theorem State.setBank_dev (x : BankDie) : (s.setBank x).dev = s.dev := rfl
@[simp] theorem State.setBank_pins (x : BankDie) : (s.setBank x).pins = s.pins := rfl
@[simp] theorem State.setBank_bank (x : BankDie) : (s.setBank x).bank = x := rfl
@[simp] theorem State.setBank_mram (x : BankDie) : (s.setBank x).mram = s.mram := rfl
@[simp] theorem State.setBank_hlt (x : BankDie) : (s.setBank x).hlt = s.hlt := rfl
@[simp] theorem State.setBank_flt (x : BankDie) : (s.setBank x).flt = s.flt := rfl
@[simp] theorem State.setBank_sw (x : BankDie) : (s.setBank x).sw = s.sw := rfl
@[simp] theorem State.setBank_tm (x : BankDie) : (s.setBank x).tm = s.tm := rfl
@[simp] theorem State.setBank_csg (x : BankDie) : (s.setBank x).csg = s.csg := rfl
@[simp] theorem State.setBank_eth (x : BankDie) : (s.setBank x).eth = s.eth := rfl
@[simp] theorem State.setBank_tbl (x : BankDie) : (s.setBank x).tbl = s.tbl := rfl
@[simp] theorem State.setBank_wrd (x : BankDie) : (s.setBank x).wrd = s.wrd := rfl
@[simp] theorem State.setBank_otp (x : BankDie) : (s.setBank x).otp = s.otp := rfl
@[simp] theorem State.setBank_sec (x : BankDie) : (s.setBank x).sec = s.sec := rfl
@[simp] theorem State.setBank_fab (x : BankDie) : (s.setBank x).fab = s.fab := rfl
@[simp] theorem State.setBank_plc (x : BankDie) : (s.setBank x).plc = s.plc := rfl
@[simp] theorem State.setBank_kpr (x : BankDie) : (s.setBank x).kpr = s.kpr := rfl
@[simp] theorem State.setBank_can (x : BankDie) : (s.setBank x).can = s.can := rfl
@[simp] theorem State.setBank_rd (x : BankDie) (k : Nat) : (s.setBank x).rd k = s.rd k := rfl
@[simp] theorem State.setBank_mb (x : BankDie) (k : Nat) : (s.setBank x).mb k = s.mb k := rfl
@[simp] theorem State.setBank_running (x : BankDie) : (s.setBank x).running = s.running := rfl

@[simp] theorem State.setDev_pending (x : DevState) : (s.setDev x).pending = s.pending := rfl
@[simp] theorem State.setDev_elapsed (x : DevState) : (s.setDev x).elapsed = s.elapsed := rfl
@[simp] theorem State.setDev_tide (x : DevState) : (s.setDev x).tide = s.tide := rfl
@[simp] theorem State.setDev_tideFrac (x : DevState) : (s.setDev x).tideFrac = s.tideFrac := rfl
@[simp] theorem State.setDev_free (x : DevState) : (s.setDev x).free = s.free := rfl
@[simp] theorem State.setDev_outputs (x : DevState) : (s.setDev x).outputs = s.outputs := rfl
@[simp] theorem State.setDev_regs (x : DevState) : (s.setDev x).regs = s.regs := rfl
@[simp] theorem State.setDev_mem (x : DevState) : (s.setDev x).mem = s.mem := rfl
@[simp] theorem State.setDev_dev (x : DevState) : (s.setDev x).dev = { s.dev with state := x } := rfl
@[simp] theorem State.setDev_pins (x : DevState) : (s.setDev x).pins = s.pins := rfl
@[simp] theorem State.setDev_bank (x : DevState) : (s.setDev x).bank = s.bank := rfl
@[simp] theorem State.setDev_mram (x : DevState) : (s.setDev x).mram = s.mram := rfl
@[simp] theorem State.setDev_hlt (x : DevState) : (s.setDev x).hlt = s.hlt := rfl
@[simp] theorem State.setDev_flt (x : DevState) : (s.setDev x).flt = s.flt := rfl
@[simp] theorem State.setDev_sw (x : DevState) : (s.setDev x).sw = s.sw := rfl
@[simp] theorem State.setDev_tm (x : DevState) : (s.setDev x).tm = s.tm := rfl
@[simp] theorem State.setDev_csg (x : DevState) : (s.setDev x).csg = s.csg := rfl
@[simp] theorem State.setDev_eth (x : DevState) : (s.setDev x).eth = s.eth := rfl
@[simp] theorem State.setDev_tbl (x : DevState) : (s.setDev x).tbl = s.tbl := rfl
@[simp] theorem State.setDev_wrd (x : DevState) : (s.setDev x).wrd = s.wrd := rfl
@[simp] theorem State.setDev_otp (x : DevState) : (s.setDev x).otp = s.otp := rfl
@[simp] theorem State.setDev_sec (x : DevState) : (s.setDev x).sec = s.sec := rfl
@[simp] theorem State.setDev_fab (x : DevState) : (s.setDev x).fab = s.fab := rfl
@[simp] theorem State.setDev_plc (x : DevState) : (s.setDev x).plc = s.plc := rfl
@[simp] theorem State.setDev_kpr (x : DevState) : (s.setDev x).kpr = s.kpr := rfl
@[simp] theorem State.setDev_can (x : DevState) : (s.setDev x).can = s.can := rfl
@[simp] theorem State.setDev_rd (x : DevState) (k : Nat) : (s.setDev x).rd k = s.rd k := rfl
@[simp] theorem State.setDev_mb (x : DevState) (k : Nat) : (s.setDev x).mb k = s.mb k := rfl

@[simp] theorem State.setMram_pending (x : MramState) : (s.setMram x).pending = s.pending := rfl
@[simp] theorem State.setMram_elapsed (x : MramState) : (s.setMram x).elapsed = s.elapsed := rfl
@[simp] theorem State.setMram_tide (x : MramState) : (s.setMram x).tide = s.tide := rfl
@[simp] theorem State.setMram_tideFrac (x : MramState) : (s.setMram x).tideFrac = s.tideFrac := rfl
@[simp] theorem State.setMram_free (x : MramState) : (s.setMram x).free = s.free := rfl
@[simp] theorem State.setMram_outputs (x : MramState) : (s.setMram x).outputs = s.outputs := rfl
@[simp] theorem State.setMram_regs (x : MramState) : (s.setMram x).regs = s.regs := rfl
@[simp] theorem State.setMram_mem (x : MramState) : (s.setMram x).mem = s.mem := rfl
@[simp] theorem State.setMram_dev (x : MramState) : (s.setMram x).dev = s.dev := rfl
@[simp] theorem State.setMram_pins (x : MramState) : (s.setMram x).pins = s.pins := rfl
@[simp] theorem State.setMram_bank (x : MramState) : (s.setMram x).bank = s.bank := rfl
@[simp] theorem State.setMram_mram (x : MramState) : (s.setMram x).mram = x := rfl
@[simp] theorem State.setMram_hlt (x : MramState) : (s.setMram x).hlt = s.hlt := rfl
@[simp] theorem State.setMram_flt (x : MramState) : (s.setMram x).flt = s.flt := rfl
@[simp] theorem State.setMram_sw (x : MramState) : (s.setMram x).sw = s.sw := rfl
@[simp] theorem State.setMram_tm (x : MramState) : (s.setMram x).tm = s.tm := rfl
@[simp] theorem State.setMram_csg (x : MramState) : (s.setMram x).csg = s.csg := rfl
@[simp] theorem State.setMram_eth (x : MramState) : (s.setMram x).eth = s.eth := rfl
@[simp] theorem State.setMram_tbl (x : MramState) : (s.setMram x).tbl = s.tbl := rfl
@[simp] theorem State.setMram_wrd (x : MramState) : (s.setMram x).wrd = s.wrd := rfl
@[simp] theorem State.setMram_otp (x : MramState) : (s.setMram x).otp = s.otp := rfl
@[simp] theorem State.setMram_sec (x : MramState) : (s.setMram x).sec = s.sec := rfl
@[simp] theorem State.setMram_fab (x : MramState) : (s.setMram x).fab = s.fab := rfl
@[simp] theorem State.setMram_plc (x : MramState) : (s.setMram x).plc = s.plc := rfl
@[simp] theorem State.setMram_kpr (x : MramState) : (s.setMram x).kpr = s.kpr := rfl
@[simp] theorem State.setMram_can (x : MramState) : (s.setMram x).can = s.can := rfl
@[simp] theorem State.setMram_rd (x : MramState) (k : Nat) : (s.setMram x).rd k = s.rd k := rfl
@[simp] theorem State.setMram_mb (x : MramState) (k : Nat) : (s.setMram x).mb k = s.mb k := rfl
@[simp] theorem State.setMram_running (x : MramState) : (s.setMram x).running = s.running := rfl

@[simp] theorem State.setHlt_pending (x : HltState) : (s.setHlt x).pending = s.pending := rfl
@[simp] theorem State.setHlt_elapsed (x : HltState) : (s.setHlt x).elapsed = s.elapsed := rfl
@[simp] theorem State.setHlt_tide (x : HltState) : (s.setHlt x).tide = s.tide := rfl
@[simp] theorem State.setHlt_tideFrac (x : HltState) : (s.setHlt x).tideFrac = s.tideFrac := rfl
@[simp] theorem State.setHlt_free (x : HltState) : (s.setHlt x).free = s.free := rfl
@[simp] theorem State.setHlt_outputs (x : HltState) : (s.setHlt x).outputs = s.outputs := rfl
@[simp] theorem State.setHlt_regs (x : HltState) : (s.setHlt x).regs = s.regs := rfl
@[simp] theorem State.setHlt_mem (x : HltState) : (s.setHlt x).mem = s.mem := rfl
@[simp] theorem State.setHlt_dev (x : HltState) : (s.setHlt x).dev = s.dev := rfl
@[simp] theorem State.setHlt_pins (x : HltState) : (s.setHlt x).pins = s.pins := rfl
@[simp] theorem State.setHlt_bank (x : HltState) : (s.setHlt x).bank = s.bank := rfl
@[simp] theorem State.setHlt_mram (x : HltState) : (s.setHlt x).mram = s.mram := rfl
@[simp] theorem State.setHlt_hlt (x : HltState) : (s.setHlt x).hlt = x := rfl
@[simp] theorem State.setHlt_flt (x : HltState) : (s.setHlt x).flt = s.flt := rfl
@[simp] theorem State.setHlt_sw (x : HltState) : (s.setHlt x).sw = s.sw := rfl
@[simp] theorem State.setHlt_tm (x : HltState) : (s.setHlt x).tm = s.tm := rfl
@[simp] theorem State.setHlt_csg (x : HltState) : (s.setHlt x).csg = s.csg := rfl
@[simp] theorem State.setHlt_eth (x : HltState) : (s.setHlt x).eth = s.eth := rfl
@[simp] theorem State.setHlt_tbl (x : HltState) : (s.setHlt x).tbl = s.tbl := rfl
@[simp] theorem State.setHlt_wrd (x : HltState) : (s.setHlt x).wrd = s.wrd := rfl
@[simp] theorem State.setHlt_otp (x : HltState) : (s.setHlt x).otp = s.otp := rfl
@[simp] theorem State.setHlt_sec (x : HltState) : (s.setHlt x).sec = s.sec := rfl
@[simp] theorem State.setHlt_fab (x : HltState) : (s.setHlt x).fab = s.fab := rfl
@[simp] theorem State.setHlt_plc (x : HltState) : (s.setHlt x).plc = s.plc := rfl
@[simp] theorem State.setHlt_kpr (x : HltState) : (s.setHlt x).kpr = s.kpr := rfl
@[simp] theorem State.setHlt_can (x : HltState) : (s.setHlt x).can = s.can := rfl
@[simp] theorem State.setHlt_rd (x : HltState) (k : Nat) : (s.setHlt x).rd k = s.rd k := rfl
@[simp] theorem State.setHlt_mb (x : HltState) (k : Nat) : (s.setHlt x).mb k = s.mb k := rfl
@[simp] theorem State.setHlt_running (x : HltState) : (s.setHlt x).running = s.running := rfl

@[simp] theorem State.setWrd_pending (x : WrdState) : (s.setWrd x).pending = s.pending := rfl
@[simp] theorem State.setWrd_elapsed (x : WrdState) : (s.setWrd x).elapsed = s.elapsed := rfl
@[simp] theorem State.setWrd_tide (x : WrdState) : (s.setWrd x).tide = s.tide := rfl
@[simp] theorem State.setWrd_tideFrac (x : WrdState) : (s.setWrd x).tideFrac = s.tideFrac := rfl
@[simp] theorem State.setWrd_free (x : WrdState) : (s.setWrd x).free = s.free := rfl
@[simp] theorem State.setWrd_outputs (x : WrdState) : (s.setWrd x).outputs = s.outputs := rfl
@[simp] theorem State.setWrd_regs (x : WrdState) : (s.setWrd x).regs = s.regs := rfl
@[simp] theorem State.setWrd_mem (x : WrdState) : (s.setWrd x).mem = s.mem := rfl
@[simp] theorem State.setWrd_dev (x : WrdState) : (s.setWrd x).dev = s.dev := rfl
@[simp] theorem State.setWrd_pins (x : WrdState) : (s.setWrd x).pins = s.pins := rfl
@[simp] theorem State.setWrd_bank (x : WrdState) : (s.setWrd x).bank = s.bank := rfl
@[simp] theorem State.setWrd_mram (x : WrdState) : (s.setWrd x).mram = s.mram := rfl
@[simp] theorem State.setWrd_hlt (x : WrdState) : (s.setWrd x).hlt = s.hlt := rfl
@[simp] theorem State.setWrd_flt (x : WrdState) : (s.setWrd x).flt = s.flt := rfl
@[simp] theorem State.setWrd_sw (x : WrdState) : (s.setWrd x).sw = s.sw := rfl
@[simp] theorem State.setWrd_tm (x : WrdState) : (s.setWrd x).tm = s.tm := rfl
@[simp] theorem State.setWrd_csg (x : WrdState) : (s.setWrd x).csg = s.csg := rfl
@[simp] theorem State.setWrd_eth (x : WrdState) : (s.setWrd x).eth = s.eth := rfl
@[simp] theorem State.setWrd_tbl (x : WrdState) : (s.setWrd x).tbl = s.tbl := rfl
@[simp] theorem State.setWrd_wrd (x : WrdState) : (s.setWrd x).wrd = x := rfl
@[simp] theorem State.setWrd_otp (x : WrdState) : (s.setWrd x).otp = s.otp := rfl
@[simp] theorem State.setWrd_sec (x : WrdState) : (s.setWrd x).sec = s.sec := rfl
@[simp] theorem State.setWrd_fab (x : WrdState) : (s.setWrd x).fab = s.fab := rfl
@[simp] theorem State.setWrd_plc (x : WrdState) : (s.setWrd x).plc = s.plc := rfl
@[simp] theorem State.setWrd_kpr (x : WrdState) : (s.setWrd x).kpr = s.kpr := rfl
@[simp] theorem State.setWrd_can (x : WrdState) : (s.setWrd x).can = s.can := rfl
@[simp] theorem State.setWrd_rd (x : WrdState) (k : Nat) : (s.setWrd x).rd k = s.rd k := rfl
@[simp] theorem State.setWrd_mb (x : WrdState) (k : Nat) : (s.setWrd x).mb k = s.mb k := rfl
@[simp] theorem State.setWrd_running (x : WrdState) : (s.setWrd x).running = s.running := rfl

@[simp] theorem State.setOtp_pending (x : OtpState) : (s.setOtp x).pending = s.pending := rfl
@[simp] theorem State.setOtp_elapsed (x : OtpState) : (s.setOtp x).elapsed = s.elapsed := rfl
@[simp] theorem State.setOtp_tide (x : OtpState) : (s.setOtp x).tide = s.tide := rfl
@[simp] theorem State.setOtp_tideFrac (x : OtpState) : (s.setOtp x).tideFrac = s.tideFrac := rfl
@[simp] theorem State.setOtp_free (x : OtpState) : (s.setOtp x).free = s.free := rfl
@[simp] theorem State.setOtp_outputs (x : OtpState) : (s.setOtp x).outputs = s.outputs := rfl
@[simp] theorem State.setOtp_regs (x : OtpState) : (s.setOtp x).regs = s.regs := rfl
@[simp] theorem State.setOtp_mem (x : OtpState) : (s.setOtp x).mem = s.mem := rfl
@[simp] theorem State.setOtp_dev (x : OtpState) : (s.setOtp x).dev = s.dev := rfl
@[simp] theorem State.setOtp_pins (x : OtpState) : (s.setOtp x).pins = s.pins := rfl
@[simp] theorem State.setOtp_bank (x : OtpState) : (s.setOtp x).bank = s.bank := rfl
@[simp] theorem State.setOtp_mram (x : OtpState) : (s.setOtp x).mram = s.mram := rfl
@[simp] theorem State.setOtp_hlt (x : OtpState) : (s.setOtp x).hlt = s.hlt := rfl
@[simp] theorem State.setOtp_flt (x : OtpState) : (s.setOtp x).flt = s.flt := rfl
@[simp] theorem State.setOtp_sw (x : OtpState) : (s.setOtp x).sw = s.sw := rfl
@[simp] theorem State.setOtp_tm (x : OtpState) : (s.setOtp x).tm = s.tm := rfl
@[simp] theorem State.setOtp_csg (x : OtpState) : (s.setOtp x).csg = s.csg := rfl
@[simp] theorem State.setOtp_eth (x : OtpState) : (s.setOtp x).eth = s.eth := rfl
@[simp] theorem State.setOtp_tbl (x : OtpState) : (s.setOtp x).tbl = s.tbl := rfl
@[simp] theorem State.setOtp_wrd (x : OtpState) : (s.setOtp x).wrd = s.wrd := rfl
@[simp] theorem State.setOtp_otp (x : OtpState) : (s.setOtp x).otp = x := rfl
@[simp] theorem State.setOtp_sec (x : OtpState) : (s.setOtp x).sec = s.sec := rfl
@[simp] theorem State.setOtp_fab (x : OtpState) : (s.setOtp x).fab = s.fab := rfl
@[simp] theorem State.setOtp_plc (x : OtpState) : (s.setOtp x).plc = s.plc := rfl
@[simp] theorem State.setOtp_kpr (x : OtpState) : (s.setOtp x).kpr = s.kpr := rfl
@[simp] theorem State.setOtp_can (x : OtpState) : (s.setOtp x).can = s.can := rfl
@[simp] theorem State.setOtp_rd (x : OtpState) (k : Nat) : (s.setOtp x).rd k = s.rd k := rfl
@[simp] theorem State.setOtp_mb (x : OtpState) (k : Nat) : (s.setOtp x).mb k = s.mb k := rfl
@[simp] theorem State.setOtp_running (x : OtpState) : (s.setOtp x).running = s.running := rfl

@[simp] theorem State.setSec_pending (x : SecState) : (s.setSec x).pending = s.pending := rfl
@[simp] theorem State.setSec_elapsed (x : SecState) : (s.setSec x).elapsed = s.elapsed := rfl
@[simp] theorem State.setSec_tide (x : SecState) : (s.setSec x).tide = s.tide := rfl
@[simp] theorem State.setSec_tideFrac (x : SecState) : (s.setSec x).tideFrac = s.tideFrac := rfl
@[simp] theorem State.setSec_free (x : SecState) : (s.setSec x).free = s.free := rfl
@[simp] theorem State.setSec_outputs (x : SecState) : (s.setSec x).outputs = s.outputs := rfl
@[simp] theorem State.setSec_regs (x : SecState) : (s.setSec x).regs = s.regs := rfl
@[simp] theorem State.setSec_mem (x : SecState) : (s.setSec x).mem = s.mem := rfl
@[simp] theorem State.setSec_dev (x : SecState) : (s.setSec x).dev = s.dev := rfl
@[simp] theorem State.setSec_pins (x : SecState) : (s.setSec x).pins = s.pins := rfl
@[simp] theorem State.setSec_bank (x : SecState) : (s.setSec x).bank = s.bank := rfl
@[simp] theorem State.setSec_mram (x : SecState) : (s.setSec x).mram = s.mram := rfl
@[simp] theorem State.setSec_hlt (x : SecState) : (s.setSec x).hlt = s.hlt := rfl
@[simp] theorem State.setSec_flt (x : SecState) : (s.setSec x).flt = s.flt := rfl
@[simp] theorem State.setSec_sw (x : SecState) : (s.setSec x).sw = s.sw := rfl
@[simp] theorem State.setSec_tm (x : SecState) : (s.setSec x).tm = s.tm := rfl
@[simp] theorem State.setSec_csg (x : SecState) : (s.setSec x).csg = s.csg := rfl
@[simp] theorem State.setSec_eth (x : SecState) : (s.setSec x).eth = s.eth := rfl
@[simp] theorem State.setSec_tbl (x : SecState) : (s.setSec x).tbl = s.tbl := rfl
@[simp] theorem State.setSec_wrd (x : SecState) : (s.setSec x).wrd = s.wrd := rfl
@[simp] theorem State.setSec_otp (x : SecState) : (s.setSec x).otp = s.otp := rfl
@[simp] theorem State.setSec_sec (x : SecState) : (s.setSec x).sec = x := rfl
@[simp] theorem State.setSec_fab (x : SecState) : (s.setSec x).fab = s.fab := rfl
@[simp] theorem State.setSec_plc (x : SecState) : (s.setSec x).plc = s.plc := rfl
@[simp] theorem State.setSec_kpr (x : SecState) : (s.setSec x).kpr = s.kpr := rfl
@[simp] theorem State.setSec_can (x : SecState) : (s.setSec x).can = s.can := rfl
@[simp] theorem State.setSec_rd (x : SecState) (k : Nat) : (s.setSec x).rd k = s.rd k := rfl
@[simp] theorem State.setSec_mb (x : SecState) (k : Nat) : (s.setSec x).mb k = s.mb k := rfl
@[simp] theorem State.setSec_running (x : SecState) : (s.setSec x).running = s.running := rfl

@[simp] theorem State.setFab_pending (x : FabState) : (s.setFab x).pending = s.pending := rfl
@[simp] theorem State.setFab_elapsed (x : FabState) : (s.setFab x).elapsed = s.elapsed := rfl
@[simp] theorem State.setFab_tide (x : FabState) : (s.setFab x).tide = s.tide := rfl
@[simp] theorem State.setFab_tideFrac (x : FabState) : (s.setFab x).tideFrac = s.tideFrac := rfl
@[simp] theorem State.setFab_free (x : FabState) : (s.setFab x).free = s.free := rfl
@[simp] theorem State.setFab_outputs (x : FabState) : (s.setFab x).outputs = s.outputs := rfl
@[simp] theorem State.setFab_regs (x : FabState) : (s.setFab x).regs = s.regs := rfl
@[simp] theorem State.setFab_mem (x : FabState) : (s.setFab x).mem = s.mem := rfl
@[simp] theorem State.setFab_dev (x : FabState) : (s.setFab x).dev = s.dev := rfl
@[simp] theorem State.setFab_pins (x : FabState) : (s.setFab x).pins = s.pins := rfl
@[simp] theorem State.setFab_bank (x : FabState) : (s.setFab x).bank = s.bank := rfl
@[simp] theorem State.setFab_mram (x : FabState) : (s.setFab x).mram = s.mram := rfl
@[simp] theorem State.setFab_hlt (x : FabState) : (s.setFab x).hlt = s.hlt := rfl
@[simp] theorem State.setFab_flt (x : FabState) : (s.setFab x).flt = s.flt := rfl
@[simp] theorem State.setFab_sw (x : FabState) : (s.setFab x).sw = s.sw := rfl
@[simp] theorem State.setFab_tm (x : FabState) : (s.setFab x).tm = s.tm := rfl
@[simp] theorem State.setFab_csg (x : FabState) : (s.setFab x).csg = s.csg := rfl
@[simp] theorem State.setFab_eth (x : FabState) : (s.setFab x).eth = s.eth := rfl
@[simp] theorem State.setFab_tbl (x : FabState) : (s.setFab x).tbl = s.tbl := rfl
@[simp] theorem State.setFab_wrd (x : FabState) : (s.setFab x).wrd = s.wrd := rfl
@[simp] theorem State.setFab_otp (x : FabState) : (s.setFab x).otp = s.otp := rfl
@[simp] theorem State.setFab_sec (x : FabState) : (s.setFab x).sec = s.sec := rfl
@[simp] theorem State.setFab_fab (x : FabState) : (s.setFab x).fab = x := rfl
@[simp] theorem State.setFab_plc (x : FabState) : (s.setFab x).plc = s.plc := rfl
@[simp] theorem State.setFab_kpr (x : FabState) : (s.setFab x).kpr = s.kpr := rfl
@[simp] theorem State.setFab_can (x : FabState) : (s.setFab x).can = s.can := rfl
@[simp] theorem State.setFab_rd (x : FabState) (k : Nat) : (s.setFab x).rd k = s.rd k := rfl
@[simp] theorem State.setFab_mb (x : FabState) (k : Nat) : (s.setFab x).mb k = s.mb k := rfl
@[simp] theorem State.setFab_running (x : FabState) : (s.setFab x).running = s.running := rfl

@[simp] theorem State.setPlc_pending (x : PlcState) : (s.setPlc x).pending = s.pending := rfl
@[simp] theorem State.setPlc_elapsed (x : PlcState) : (s.setPlc x).elapsed = s.elapsed := rfl
@[simp] theorem State.setPlc_tide (x : PlcState) : (s.setPlc x).tide = s.tide := rfl
@[simp] theorem State.setPlc_tideFrac (x : PlcState) : (s.setPlc x).tideFrac = s.tideFrac := rfl
@[simp] theorem State.setPlc_free (x : PlcState) : (s.setPlc x).free = s.free := rfl
@[simp] theorem State.setPlc_outputs (x : PlcState) : (s.setPlc x).outputs = s.outputs := rfl
@[simp] theorem State.setPlc_regs (x : PlcState) : (s.setPlc x).regs = s.regs := rfl
@[simp] theorem State.setPlc_mem (x : PlcState) : (s.setPlc x).mem = s.mem := rfl
@[simp] theorem State.setPlc_dev (x : PlcState) : (s.setPlc x).dev = s.dev := rfl
@[simp] theorem State.setPlc_pins (x : PlcState) : (s.setPlc x).pins = s.pins := rfl
@[simp] theorem State.setPlc_bank (x : PlcState) : (s.setPlc x).bank = s.bank := rfl
@[simp] theorem State.setPlc_mram (x : PlcState) : (s.setPlc x).mram = s.mram := rfl
@[simp] theorem State.setPlc_hlt (x : PlcState) : (s.setPlc x).hlt = s.hlt := rfl
@[simp] theorem State.setPlc_flt (x : PlcState) : (s.setPlc x).flt = s.flt := rfl
@[simp] theorem State.setPlc_sw (x : PlcState) : (s.setPlc x).sw = s.sw := rfl
@[simp] theorem State.setPlc_tm (x : PlcState) : (s.setPlc x).tm = s.tm := rfl
@[simp] theorem State.setPlc_csg (x : PlcState) : (s.setPlc x).csg = s.csg := rfl
@[simp] theorem State.setPlc_eth (x : PlcState) : (s.setPlc x).eth = s.eth := rfl
@[simp] theorem State.setPlc_tbl (x : PlcState) : (s.setPlc x).tbl = s.tbl := rfl
@[simp] theorem State.setPlc_wrd (x : PlcState) : (s.setPlc x).wrd = s.wrd := rfl
@[simp] theorem State.setPlc_otp (x : PlcState) : (s.setPlc x).otp = s.otp := rfl
@[simp] theorem State.setPlc_sec (x : PlcState) : (s.setPlc x).sec = s.sec := rfl
@[simp] theorem State.setPlc_fab (x : PlcState) : (s.setPlc x).fab = s.fab := rfl
@[simp] theorem State.setPlc_plc (x : PlcState) : (s.setPlc x).plc = x := rfl
@[simp] theorem State.setPlc_kpr (x : PlcState) : (s.setPlc x).kpr = s.kpr := rfl
@[simp] theorem State.setPlc_can (x : PlcState) : (s.setPlc x).can = s.can := rfl
@[simp] theorem State.setPlc_rd (x : PlcState) (k : Nat) : (s.setPlc x).rd k = s.rd k := rfl
@[simp] theorem State.setPlc_mb (x : PlcState) (k : Nat) : (s.setPlc x).mb k = s.mb k := rfl
@[simp] theorem State.setPlc_running (x : PlcState) : (s.setPlc x).running = s.running := rfl

@[simp] theorem State.setKpr_pending (x : KprState) : (s.setKpr x).pending = s.pending := rfl
@[simp] theorem State.setKpr_elapsed (x : KprState) : (s.setKpr x).elapsed = s.elapsed := rfl
@[simp] theorem State.setKpr_tide (x : KprState) : (s.setKpr x).tide = s.tide := rfl
@[simp] theorem State.setKpr_tideFrac (x : KprState) : (s.setKpr x).tideFrac = s.tideFrac := rfl
@[simp] theorem State.setKpr_free (x : KprState) : (s.setKpr x).free = s.free := rfl
@[simp] theorem State.setKpr_outputs (x : KprState) : (s.setKpr x).outputs = s.outputs := rfl
@[simp] theorem State.setKpr_regs (x : KprState) : (s.setKpr x).regs = s.regs := rfl
@[simp] theorem State.setKpr_mem (x : KprState) : (s.setKpr x).mem = s.mem := rfl
@[simp] theorem State.setKpr_dev (x : KprState) : (s.setKpr x).dev = s.dev := rfl
@[simp] theorem State.setKpr_pins (x : KprState) : (s.setKpr x).pins = s.pins := rfl
@[simp] theorem State.setKpr_bank (x : KprState) : (s.setKpr x).bank = s.bank := rfl
@[simp] theorem State.setKpr_mram (x : KprState) : (s.setKpr x).mram = s.mram := rfl
@[simp] theorem State.setKpr_hlt (x : KprState) : (s.setKpr x).hlt = s.hlt := rfl
@[simp] theorem State.setKpr_flt (x : KprState) : (s.setKpr x).flt = s.flt := rfl
@[simp] theorem State.setKpr_sw (x : KprState) : (s.setKpr x).sw = s.sw := rfl
@[simp] theorem State.setKpr_tm (x : KprState) : (s.setKpr x).tm = s.tm := rfl
@[simp] theorem State.setKpr_csg (x : KprState) : (s.setKpr x).csg = s.csg := rfl
@[simp] theorem State.setKpr_eth (x : KprState) : (s.setKpr x).eth = s.eth := rfl
@[simp] theorem State.setKpr_tbl (x : KprState) : (s.setKpr x).tbl = s.tbl := rfl
@[simp] theorem State.setKpr_wrd (x : KprState) : (s.setKpr x).wrd = s.wrd := rfl
@[simp] theorem State.setKpr_otp (x : KprState) : (s.setKpr x).otp = s.otp := rfl
@[simp] theorem State.setKpr_sec (x : KprState) : (s.setKpr x).sec = s.sec := rfl
@[simp] theorem State.setKpr_fab (x : KprState) : (s.setKpr x).fab = s.fab := rfl
@[simp] theorem State.setKpr_plc (x : KprState) : (s.setKpr x).plc = s.plc := rfl
@[simp] theorem State.setKpr_kpr (x : KprState) : (s.setKpr x).kpr = x := rfl
@[simp] theorem State.setKpr_can (x : KprState) : (s.setKpr x).can = s.can := rfl
@[simp] theorem State.setKpr_rd (x : KprState) (k : Nat) : (s.setKpr x).rd k = s.rd k := rfl
@[simp] theorem State.setKpr_mb (x : KprState) (k : Nat) : (s.setKpr x).mb k = s.mb k := rfl
@[simp] theorem State.setKpr_running (x : KprState) : (s.setKpr x).running = s.running := rfl

end Sys2Proof.Machine
end

