-- ==== Sys2Proof/Laws/Tab.lean ====
section
/-! SUPPORT. Sparse tables: a read after a write, and the canonical form. -/

namespace Sys2Proof.Machine

variable {α : Type}

theorem tget_tput (d : α) (t : Tab α) (k j : Nat) (v : α) : tget d (tput t k v) j = if j = k then v else tget d t j := by
  induction t with
  | nil => simp [tput, tget, eq_comm]
  | cons e t ih =>
    obtain ⟨i, w⟩ := e
    simp only [tput]
    split
    · simp [tget, eq_comm]
    · split
      · rename_i h1 h2
        subst h2
        by_cases h : k = j
        · subst h; simp [tget]
        · simp [tget, h, Ne.symm h]
      · rename_i h1 h2
        by_cases h : i = j
        · subst h; simp [tget, Ne.symm h2]
        · simp [tget, h, ih]

theorem tget_tdel (d : α) (t : Tab α) (k j : Nat) : tget d (tdel t k) j = if j = k then d else tget d t j := by
  induction t with
  | nil => simp [tdel, tget]
  | cons e t ih =>
    obtain ⟨i, w⟩ := e
    simp only [tdel, List.filter_cons] at ih ⊢
    by_cases h : i = k
    · subst h; simp only [bne_self_eq_false, Bool.false_eq_true, if_false, ih, tget]
      by_cases h' : j = i
      · simp [h']
      · simp [h', Ne.symm h']
    · simp only [bne_iff_ne, ne_eq, h, not_false_eq_true, if_true, tget, ih]
      by_cases h' : i = j
      · subst h'; simp [h]
      · simp [h']

/-- A read after a write; the default of other keys plays no part. -/
theorem tget_tset [DecidableEq α] (d e : α) (t : Tab α) (k j : Nat) (v : α) (h : j = k → d = e) :
    tget d (tset e t k v) j = if j = k then v else tget d t j := by
  simp only [tset]
  split
  · rw [tget_tdel]; split
    · simp_all
    · rfl
  · exact tget_tput d t k j v

@[simp] theorem tget_nil (d : α) (j : Nat) : tget d ([] : Tab α) j = d := rfl

@[simp] theorem tget_tset_same [DecidableEq α] (d : α) (t : Tab α) (k : Nat) (v : α) : tget d (tset d t k v) k = v := by
  simp [tget_tset d d t k k v]

theorem tget_tset_ne [DecidableEq α] (d : α) (t : Tab α) {k j : Nat} (v : α) (h : j ≠ k) :
    tget d (tset d t k v) j = tget d t j := by
  simp [tget_tset d d t k j v, h]

/-! The canonical form -/

section
variable [DecidableEq α]

theorem twf_cons (d : Nat → α) (k : Nat) (v : α) (t : Tab α) :
    twf d ((k, v) :: t) = true ↔ v ≠ d k ∧ (∀ e ∈ t, k < e.1) ∧ twf d t = true := by
  induction t generalizing k v with
  | nil => simp [twf]
  | cons e t ih =>
    obtain ⟨j, w⟩ := e
    simp only [twf, Bool.and_eq_true, bne_iff_ne, decide_eq_true_eq, List.mem_cons, forall_eq_or_imp]
    constructor
    · rintro ⟨⟨h1, h2⟩, h3⟩
      refine ⟨h1, ⟨h2, fun e he => ?_⟩, h3⟩
      exact Nat.lt_trans h2 (((ih j w).1 h3).2.1 e he)
    · rintro ⟨h1, ⟨h2, -⟩, h3⟩
      exact ⟨⟨h1, h2⟩, h3⟩

/-- A filtered table keeps its form. -/
theorem twf_filter (d : Nat → α) (p : Nat × α → Bool) (t : Tab α) (h : twf d t = true) : twf d (t.filter p) = true := by
  induction t with
  | nil => rfl
  | cons e t ih =>
    obtain ⟨k, v⟩ := e
    obtain ⟨h1, h2, h3⟩ := (twf_cons d k v t).1 h
    rw [List.filter_cons]
    split
    · exact (twf_cons d k v _).2 ⟨h1, fun e he => h2 e (List.mem_filter.1 he).1, ih h3⟩
    · exact ih h3

omit [DecidableEq α] in
theorem tput_mem (t : Tab α) (k : Nat) (v : α) (e : Nat × α) (h : e ∈ tput t k v) : e.1 = k ∨ e ∈ t := by
  induction t with
  | nil => simp [tput] at h; simp [h]
  | cons x t ih =>
    obtain ⟨j, w⟩ := x
    simp only [tput] at h
    split at h
    · simp at h; rcases h with h | h | h <;> simp [h]
    · split at h
      · simp at h; rcases h with h | h <;> simp [h]
      · simp at h; rcases h with h | h
        · simp [h]
        · rcases ih h with h | h <;> simp [h]

theorem twf_tput (d : Nat → α) (t : Tab α) (k : Nat) (v : α) (hv : v ≠ d k) (h : twf d t = true) : twf d (tput t k v) = true := by
  induction t with
  | nil => simp [tput, twf, hv]
  | cons e t ih =>
    obtain ⟨j, w⟩ := e
    obtain ⟨h1, h2, h3⟩ := (twf_cons d j w t).1 h
    simp only [tput]
    split
    · rename_i hk
      refine (twf_cons d k v _).2 ⟨hv, fun e he => ?_, h⟩
      rcases List.mem_cons.1 he with he | he
      · simpa [he] using hk
      · exact Nat.lt_trans hk (h2 e he)
    · split
      · rename_i hk; subst hk
        exact (twf_cons d k v _).2 ⟨hv, h2, h3⟩
      · rename_i hk1 hk2
        refine (twf_cons d j w _).2 ⟨h1, fun e he => ?_, ih h3⟩
        rcases tput_mem t k v e he with he | he
        · omega
        · exact h2 e he

/-- A write keeps the form. -/
theorem twf_tset (d : Nat → α) (t : Tab α) (k : Nat) (v : α) (h : twf d t = true) : twf d (tset (d k) t k v) = true := by
  simp only [tset]
  split
  · exact twf_filter d _ t h
  · exact twf_tput d t k v ‹_› h

end

end Sys2Proof.Machine
end

