-- ==== Sys2Proof/Laws/Regs.lean ====
section
/-! SUPPORT. Registers and memory: reads after writes, fields of a register, the canonical form. -/

namespace Sys2Proof.Machine

theorem State.rd_wr (s : State) (a b : Nat) (v : Word) : (s.wr a v).rd b = if b = a then v else s.rd b := by
  simp only [State.rd, State.wr]
  exact tget_tset _ _ _ _ _ _ (fun h => by rw [h])

@[simp] theorem State.rd_wr_same (s : State) (a : Nat) (v : Word) : (s.wr a v).rd a = v := by simp [State.rd_wr]

theorem State.rd_wr_ne (s : State) {a b : Nat} (v : Word) (h : b ≠ a) : (s.wr a v).rd b = s.rd b := by simp [State.rd_wr, h]

theorem State.rd_setFld (s : State) (a b : Nat) (f : Fld) (v : Nat) :
    (s.setFld a f v).rd b = if b = a then f.put (s.rd a) v else s.rd b := State.rd_wr s a b _

theorem State.mb_mwb (s : State) (a b : Nat) (v : Byte) : (s.mwb a v).mb b = if b = a then v else s.mb b := by
  simp only [State.mb, State.mwb]
  exact tget_tset _ _ _ _ _ _ (fun h => by rw [h])

/-- What a run of bytes leaves at an address. -/
theorem State.mb_mwbytes (s : State) (a b : Nat) (l : List Byte) :
    (s.mwbytes a l).mb b = if a ≤ b ∧ b < a + l.length then l.getD (b - a) 0 else s.mb b := by
  induction l generalizing s a with
  | nil => simp [State.mwbytes]
  | cons x l ih =>
    simp only [State.mwbytes, ih, State.mb_mwb, List.length_cons]
    by_cases h1 : a + 1 ≤ b ∧ b < a + 1 + l.length
    · have h2 : a ≤ b ∧ b < a + (l.length + 1) := by omega
      rw [if_pos h1, if_pos h2, show b - a = (b - (a + 1)) + 1 by omega]
      rfl
    · rw [if_neg h1]
      by_cases h3 : b = a
      · subst h3; simp
      · rw [if_neg h3, if_neg (by omega)]

/-- A run of bytes changes memory and nothing else. -/
theorem State.mwbytes_eq (s : State) (a : Nat) (l : List Byte) : ∃ m, s.mwbytes a l = { s with mem := m } := by
  induction l generalizing s a with
  | nil => exact ⟨s.mem, rfl⟩
  | cons x l ih => obtain ⟨m, h⟩ := ih (s.mwb a x) (a + 1); exact ⟨m, h⟩

/-! Fields -/

theorem Fld.get_eq (f : Fld) (w : Word) : f.get w = w.toNat / 2 ^ f.lo % 2 ^ f.width := by
  rw [Fld.get, Nat.shiftRight_eq_div_pow]

theorem Fld.get_lt (f : Fld) (w : Word) : f.get w < 2 ^ f.width := Nat.mod_lt _ (Nat.two_pow_pos _)

/-- A word splits into what lies above a field, the field, and what lies below. -/
theorem Fld.split (f : Fld) (w : Word) :
    w.toNat = w.toNat / 2 ^ f.lo / 2 ^ f.width * (2 ^ f.width * 2 ^ f.lo) + f.get w * 2 ^ f.lo + w.toNat % 2 ^ f.lo := by
  have h1 := Nat.div_add_mod w.toNat (2 ^ f.lo)
  have h2 := Nat.div_add_mod (w.toNat / 2 ^ f.lo) (2 ^ f.width)
  rw [Fld.get_eq]
  calc w.toNat = 2 ^ f.lo * (w.toNat / 2 ^ f.lo) + w.toNat % 2 ^ f.lo := h1.symm
    _ = 2 ^ f.lo * (2 ^ f.width * (w.toNat / 2 ^ f.lo / 2 ^ f.width) + w.toNat / 2 ^ f.lo % 2 ^ f.width) + w.toNat % 2 ^ f.lo := by
        rw [h2]
    _ = _ := by ring

theorem Fld.toNat_put (f : Fld) (w : Word) (v : Nat) (h : f.lo ≤ f.hi) (h32 : f.hi < 32) :
    (f.put w v).toNat = w.toNat / 2 ^ f.lo / 2 ^ f.width * (2 ^ f.width * 2 ^ f.lo) + v % 2 ^ f.width * 2 ^ f.lo + w.toNat % 2 ^ f.lo := by
  have hs := f.split w
  have hw : f.width = f.hi + 1 - f.lo := rfl
  have hp : 2 ^ f.width * 2 ^ f.lo = 2 ^ (f.hi + 1) := by rw [← Nat.pow_add, hw]; congr 1; omega
  have hlt : v % 2 ^ f.width * 2 ^ f.lo + w.toNat % 2 ^ f.lo < 2 ^ (f.hi + 1) := by
    have h1 : v % 2 ^ f.width < 2 ^ f.width := Nat.mod_lt _ (Nat.two_pow_pos _)
    have h2 : w.toNat % 2 ^ f.lo < 2 ^ f.lo := Nat.mod_lt _ (Nat.two_pow_pos _)
    rw [← hp]
    calc v % 2 ^ f.width * 2 ^ f.lo + w.toNat % 2 ^ f.lo < v % 2 ^ f.width * 2 ^ f.lo + 2 ^ f.lo := by omega
      _ = (v % 2 ^ f.width + 1) * 2 ^ f.lo := by ring
      _ ≤ 2 ^ f.width * 2 ^ f.lo := Nat.mul_le_mul_right _ h1
  have hbig : w.toNat / 2 ^ f.lo / 2 ^ f.width * 2 ^ (f.hi + 1) + 2 ^ (f.hi + 1) ≤ 2 ^ 32 := by
    have hd : 2 ^ 32 = 2 ^ (31 - f.hi) * 2 ^ (f.hi + 1) := by rw [← Nat.pow_add]; congr 1; omega
    have : w.toNat / 2 ^ f.lo / 2 ^ f.width < 2 ^ (31 - f.hi) := by
      rw [Nat.div_div_eq_div_mul, Nat.mul_comm, hp]
      exact Nat.div_lt_of_lt_mul (by rw [Nat.mul_comm, ← hd]; exact w.isLt)
    rw [hd]
    calc _ = (w.toNat / 2 ^ f.lo / 2 ^ f.width + 1) * 2 ^ (f.hi + 1) := by ring
      _ ≤ _ := Nat.mul_le_mul_right _ this
  rw [Fld.put, BitVec.toNat_ofNat, Nat.mod_eq_of_lt]
  · omega
  · rw [hp] at hs; omega

theorem Fld.get_put (f : Fld) (w : Word) (v : Nat) (h : f.lo ≤ f.hi) (h32 : f.hi < 32) : f.get (f.put w v) = v % 2 ^ f.width := by
  rw [Fld.get_eq, Fld.toNat_put f w v h h32]
  have h2 : w.toNat % 2 ^ f.lo < 2 ^ f.lo := Nat.mod_lt _ (Nat.two_pow_pos _)
  have : (w.toNat / 2 ^ f.lo / 2 ^ f.width * (2 ^ f.width * 2 ^ f.lo) + v % 2 ^ f.width * 2 ^ f.lo + w.toNat % 2 ^ f.lo) / 2 ^ f.lo
      = w.toNat / 2 ^ f.lo / 2 ^ f.width * 2 ^ f.width + v % 2 ^ f.width := by
    rw [show w.toNat / 2 ^ f.lo / 2 ^ f.width * (2 ^ f.width * 2 ^ f.lo) + v % 2 ^ f.width * 2 ^ f.lo + w.toNat % 2 ^ f.lo
      = w.toNat % 2 ^ f.lo + (w.toNat / 2 ^ f.lo / 2 ^ f.width * 2 ^ f.width + v % 2 ^ f.width) * 2 ^ f.lo by ring,
      Nat.add_mul_div_right _ _ (Nat.two_pow_pos _), Nat.div_eq_of_lt h2, Nat.zero_add]
  rw [this, Nat.mul_add_mod_of_lt' (Nat.mod_lt _ (Nat.two_pow_pos _))]
where
  /-- A multiple of a number leaves the rest. -/
  Nat.mul_add_mod_of_lt' {a b c : Nat} (h : c < b) : (a * b + c) % b = c := by
    rw [Nat.mul_comm, Nat.mul_add_mod, Nat.mod_eq_of_lt h]

/-- Another field of the register, below or above, keeps its value. -/
theorem Fld.get_put_ne (f g : Fld) (w : Word) (v : Nat) (h : f.lo ≤ f.hi) (h32 : f.hi < 32) (hg : g.lo ≤ g.hi)
    (hne : g.hi < f.lo ∨ f.hi < g.lo) : g.get (f.put w v) = g.get w := by
  apply Nat.eq_of_testBit_eq
  intro i
  simp only [Fld.get, Nat.testBit_mod_two_pow, Nat.testBit_shiftRight]
  by_cases hi : i < g.width
  · simp only [hi, decide_true, Bool.true_and]
    have hgw : g.width = g.hi + 1 - g.lo := rfl
    have hfw : f.width = f.hi + 1 - f.lo := rfl
    have key : ∀ x, x < 2 ^ f.width → (w.toNat / 2 ^ f.lo / 2 ^ f.width * (2 ^ f.width * 2 ^ f.lo) + x * 2 ^ f.lo + w.toNat % 2 ^ f.lo).testBit
        (g.lo + i) = if g.lo + i < f.lo then (w.toNat % 2 ^ f.lo).testBit (g.lo + i)
          else (w.toNat / 2 ^ f.lo / 2 ^ f.width).testBit (g.lo + i - f.lo - f.width) := by
      intro x hx
      rw [show w.toNat / 2 ^ f.lo / 2 ^ f.width * (2 ^ f.width * 2 ^ f.lo) + x * 2 ^ f.lo + w.toNat % 2 ^ f.lo
        = 2 ^ f.lo * (2 ^ f.width * (w.toNat / 2 ^ f.lo / 2 ^ f.width) + x) + w.toNat % 2 ^ f.lo by ring,
        Nat.testBit_two_pow_mul_add _ (Nat.mod_lt _ (Nat.two_pow_pos _))]
      split
      · rfl
      · rw [Nat.testBit_two_pow_mul_add _ hx, if_neg (by omega)]
    rw [Fld.toNat_put f w v h h32, key _ (Nat.mod_lt _ (Nat.two_pow_pos _)), ← key _ (f.get_lt w), ← f.split w]
  · simp [hi]

/-! The canonical form -/

theorem State.wr_wf (s : State) (a : Nat) (v : Word) (h : twf regDefault s.regs = true) : twf regDefault (s.wr a v).regs = true :=
  twf_tset regDefault s.regs a v h

theorem State.mwb_wf (s : State) (a : Nat) (v : Byte) (h : twf memDefault s.mem = true) : twf memDefault (s.mwb a v).mem = true :=
  twf_tset memDefault s.mem a v h

theorem State.mwbytes_wf (s : State) (a : Nat) (l : List Byte) (h : twf memDefault s.mem = true) :
    twf memDefault (s.mwbytes a l).mem = true := by
  induction l generalizing s a with
  | nil => exact h
  | cons x l ih => exact ih _ _ (s.mwb_wf a x h)

end Sys2Proof.Machine
end

