-- ==== Sys2Proof/Laws/Events.lean ====
section
/-! SUPPORT. What raising an event changes: the event queue's buffers, a lost-posting counter, and what the fatal request of class 7
or an event frame of the bank die does to the link; nothing else. -/

namespace Sys2Proof.Machine

/-- The lost-posting counters (R429). -/
def isSrcLost (a : Nat) : Bool := decide (FLT_SRC_LOST 1 ≤ a ∧ a ≤ FLT_SRC_LOST 16)

theorem srcLost_addr {b : Nat} (h : b ≤ 16) : isSrcLost (FLT_SRC_LOST b) = true := by
  simp [isSrcLost, FLT_SRC_LOST]; omega

/-- Everything that a posting can change: the event queue's buffers, a lost-posting counter, and what crosses the dike link. -/
structure PostFrame (s t : State) : Prop where
  eq : ∃ f r, t = { s with flt := f, regs := r, bank := t.bank, outputs := t.outputs, free := t.free }
  rd : ∀ a, isSrcLost a = false → t.rd a = s.rd a

theorem PostFrame.refl (s : State) : PostFrame s s := ⟨⟨s.flt, s.regs, rfl⟩, fun _ _ => rfl⟩

theorem PostFrame.trans {s t u : State} (h1 : PostFrame s t) (h2 : PostFrame t u) : PostFrame s u := by
  obtain ⟨⟨f, r, e1⟩, k1⟩ := h1
  obtain ⟨⟨f', r', e2⟩, k2⟩ := h2
  exact ⟨⟨f', r', by rw [e2, e1]⟩, fun a ha => by rw [k2 a ha, k1 a ha]⟩

/-- The bank die, what leaves the device and the free values are as before: the event is neither fatal nor the bank die's. -/
structure SameLink (s t : State) : Prop where
  bank : t.bank = s.bank
  outputs : t.outputs = s.outputs
  free : t.free = s.free

theorem SameLink.refl (s : State) : SameLink s s := ⟨rfl, rfl, rfl⟩

theorem SameLink.trans {s t u : State} (h1 : SameLink s t) (h2 : SameLink t u) : SameLink s u :=
  ⟨h2.bank.trans h1.bank, h2.outputs.trans h1.outputs, h2.free.trans h1.free⟩

theorem State.putPosting_frame (s : State) (p : Posting) (h : p.code < 0x1100) :
    PostFrame s (s.putPosting p).1 ∧ SameLink s (s.putPosting p).1 := by
  simp only [State.putPosting]
  split
  · exact ⟨⟨⟨_, s.regs, rfl⟩, fun _ _ => rfl⟩, rfl, rfl, rfl⟩
  · refine ⟨⟨⟨s.flt, _, rfl⟩, fun a ha => ?_⟩, rfl, rfl, rfl⟩
    refine State.rd_wr_ne s _ (fun e => ?_)
    have hb : p.code / 256 ≤ 16 := by omega
    rw [e, srcLost_addr hb] at ha
    exact Bool.noConfusion ha

theorem State.requestFatal_frame (s : State) (code : Nat) : PostFrame s (s.requestFatal code) := by
  simp only [State.requestFatal]
  split <;> exact ⟨⟨s.flt, s.regs, rfl⟩, fun _ _ => rfl⟩

/-- The event frame of the bank die (R388). -/
theorem State.eventFrame_frame (s : State) (c : Bool) (f : Nat → DWord) :
    PostFrame s (if c = true then (s.freeIx.2.out (.dike false (f s.freeIx.1))) else s) ∧
      (c = false → SameLink s (if c = true then (s.freeIx.2.out (.dike false (f s.freeIx.1))) else s)) := by
  cases c
  · exact ⟨PostFrame.refl s, fun _ => SameLink.refl s⟩
  · exact ⟨⟨⟨s.flt, s.regs, rfl⟩, fun _ _ => rfl⟩, fun h => Bool.noConfusion h⟩

theorem State.raiseP_frame (s : State) (p : Posting) (h : p.code < 0x1100) :
    PostFrame s (s.raiseP p) ∧ (p.cls < 7 → bankEvent p.code = false → SameLink s (s.raiseP p)) := by
  simp only [State.raiseP]
  by_cases hr : s.running = true
  · rw [if_pos hr]
    have h0 := State.eventFrame_frame s (bankEvent p.code) (fun k => dikeFrame 3 0 0 (Config.dikeData k).toNat)
    generalize (if bankEvent p.code = true then
      (s.freeIx.2.out (.dike false (dikeFrame 3 0 0 (Config.dikeData s.freeIx.1).toNat))) else s) = w at h0 ⊢
    have h1 : PostFrame w (if 7 ≤ p.cls then w.requestFatal p.code else w) ∧
        (p.cls < 7 → SameLink w (if 7 ≤ p.cls then w.requestFatal p.code else w)) := by
      split
      · exact ⟨State.requestFatal_frame w p.code, fun h' => absurd h' (by omega)⟩
      · exact ⟨PostFrame.refl w, fun _ => SameLink.refl w⟩
    generalize (if 7 ≤ p.cls then w.requestFatal p.code else w) = u at h1 ⊢
    have h2 := State.putPosting_frame u p h
    generalize u.putPosting p = x at h2 ⊢
    obtain ⟨s1, ok⟩ := x
    simp only at h2 ⊢
    have hf := (h0.1.trans h1.1).trans h2.1
    have hl : p.cls < 7 → bankEvent p.code = false → SameLink s s1 := fun hc hb => ((h0.2 hb).trans (h1.2 hc)).trans h2.2
    split
    · exact ⟨hf, hl⟩
    · split
      · have h3 := State.putPosting_frame (s1.markRaise 0x0304 (p.code / 256))
          { code := 0x0304, cls := 2, inst := p.code / 256, detail := 0, ts := s.tide.toNat % 2 ^ 44 } (by simp)
        have h4 : PostFrame s1 (s1.markRaise 0x0304 (p.code / 256)) := ⟨⟨_, s1.regs, rfl⟩, fun _ _ => rfl⟩
        have h5 : SameLink s1 (s1.markRaise 0x0304 (p.code / 256)) := ⟨rfl, rfl, rfl⟩
        exact ⟨(hf.trans h4).trans h3.1, fun hc hb => ((hl hc hb).trans h5).trans h3.2⟩
      · exact ⟨hf, hl⟩
  · rw [if_neg hr]
    exact ⟨PostFrame.refl s, fun _ _ => SameLink.refl s⟩

theorem State.raise_frame (s : State) (c k i d : Nat) (h : c < 0x1100) : PostFrame s (s.raise c k i d) := (s.raiseP_frame _ h).1

theorem State.raise_link (s : State) (c k i d : Nat) (h : c < 0x1100) (hk : k < 7) (hb : bankEvent c = false) :
    SameLink s (s.raise c k i d) := (s.raiseP_frame _ h).2 hk hb

theorem State.raise_rd (s : State) (c k i d a : Nat) (h : c < 0x1100) (ha : isSrcLost a = false) :
    (s.raise c k i d).rd a = s.rd a := (s.raise_frame c k i d h).rd a ha

theorem State.raiseLim_frame (s : State) (c k i d : Nat) (h : c < 0x1100) : PostFrame s (s.raiseLim c k i d) := by
  simp only [State.raiseLim]
  split
  · have h3 : PostFrame s (s.markRaise c i) := ⟨⟨_, s.regs, rfl⟩, fun _ _ => rfl⟩
    exact h3.trans (State.raise_frame _ c k i d h)
  · exact PostFrame.refl s

theorem State.raiseLim_link (s : State) (c k i d : Nat) (h : c < 0x1100) (hk : k < 7) (hb : bankEvent c = false) :
    SameLink s (s.raiseLim c k i d) := by
  simp only [State.raiseLim]
  split
  · have h3 : SameLink s (s.markRaise c i) := ⟨rfl, rfl, rfl⟩
    exact h3.trans (State.raise_link _ c k i d h hk hb)
  · exact SameLink.refl s

theorem State.raiseLim_rd (s : State) (c k i d a : Nat) (h : c < 0x1100) (ha : isSrcLost a = false) :
    (s.raiseLim c k i d).rd a = s.rd a := (s.raiseLim_frame c k i d h).rd a ha

theorem PostFrame.pending {s t : State} (h : PostFrame s t) : t.pending = s.pending := by obtain ⟨⟨_, _, e⟩, _⟩ := h; rw [e]
theorem PostFrame.elapsed {s t : State} (h : PostFrame s t) : t.elapsed = s.elapsed := by obtain ⟨⟨_, _, e⟩, _⟩ := h; rw [e]
theorem PostFrame.tide {s t : State} (h : PostFrame s t) : t.tide = s.tide := by obtain ⟨⟨_, _, e⟩, _⟩ := h; rw [e]
theorem PostFrame.tideFrac {s t : State} (h : PostFrame s t) : t.tideFrac = s.tideFrac := by obtain ⟨⟨_, _, e⟩, _⟩ := h; rw [e]
theorem PostFrame.mem {s t : State} (h : PostFrame s t) : t.mem = s.mem := by obtain ⟨⟨_, _, e⟩, _⟩ := h; rw [e]
theorem PostFrame.dev {s t : State} (h : PostFrame s t) : t.dev = s.dev := by obtain ⟨⟨_, _, e⟩, _⟩ := h; rw [e]
theorem PostFrame.pins {s t : State} (h : PostFrame s t) : t.pins = s.pins := by obtain ⟨⟨_, _, e⟩, _⟩ := h; rw [e]
theorem PostFrame.mram {s t : State} (h : PostFrame s t) : t.mram = s.mram := by obtain ⟨⟨_, _, e⟩, _⟩ := h; rw [e]
theorem PostFrame.hlt {s t : State} (h : PostFrame s t) : t.hlt = s.hlt := by obtain ⟨⟨_, _, e⟩, _⟩ := h; rw [e]
theorem PostFrame.sw {s t : State} (h : PostFrame s t) : t.sw = s.sw := by obtain ⟨⟨_, _, e⟩, _⟩ := h; rw [e]
theorem PostFrame.tm {s t : State} (h : PostFrame s t) : t.tm = s.tm := by obtain ⟨⟨_, _, e⟩, _⟩ := h; rw [e]
theorem PostFrame.csg {s t : State} (h : PostFrame s t) : t.csg = s.csg := by obtain ⟨⟨_, _, e⟩, _⟩ := h; rw [e]
theorem PostFrame.eth {s t : State} (h : PostFrame s t) : t.eth = s.eth := by obtain ⟨⟨_, _, e⟩, _⟩ := h; rw [e]
theorem PostFrame.tbl {s t : State} (h : PostFrame s t) : t.tbl = s.tbl := by obtain ⟨⟨_, _, e⟩, _⟩ := h; rw [e]
theorem PostFrame.wrd {s t : State} (h : PostFrame s t) : t.wrd = s.wrd := by obtain ⟨⟨_, _, e⟩, _⟩ := h; rw [e]
theorem PostFrame.otp {s t : State} (h : PostFrame s t) : t.otp = s.otp := by obtain ⟨⟨_, _, e⟩, _⟩ := h; rw [e]
theorem PostFrame.sec {s t : State} (h : PostFrame s t) : t.sec = s.sec := by obtain ⟨⟨_, _, e⟩, _⟩ := h; rw [e]
theorem PostFrame.fab {s t : State} (h : PostFrame s t) : t.fab = s.fab := by obtain ⟨⟨_, _, e⟩, _⟩ := h; rw [e]
theorem PostFrame.plc {s t : State} (h : PostFrame s t) : t.plc = s.plc := by obtain ⟨⟨_, _, e⟩, _⟩ := h; rw [e]
theorem PostFrame.kpr {s t : State} (h : PostFrame s t) : t.kpr = s.kpr := by obtain ⟨⟨_, _, e⟩, _⟩ := h; rw [e]
theorem PostFrame.can {s t : State} (h : PostFrame s t) : t.can = s.can := by obtain ⟨⟨_, _, e⟩, _⟩ := h; rw [e]

end Sys2Proof.Machine
end

