-- ==== Sys2Proof/Laws/Fold.lean ====
section
/-! SUPPORT. Folds over the units of a block: what each step keeps, the fold keeps; and filtered tables. -/

namespace Sys2Proof.Machine

theorem foldl_keep {σ α β : Type} (g : σ → β) (f : σ → α → σ) (h : ∀ t x, g (f t x) = g t) (l : List α) (s : σ) :
    g (l.foldl f s) = g s := by
  induction l generalizing s with
  | nil => rfl
  | cons x l ih => rw [List.foldl_cons, ih, h]

/-- A property that one element establishes and every other step keeps. -/
theorem foldl_gets {σ α : Type} (P : σ → Prop) (f : σ → α → σ) (l : List α) (x : α) (hx : x ∈ l) (hf : ∀ t, P (f t x))
    (hk : ∀ t y, P t → P (f t y)) (s : σ) : P (l.foldl f s) := by
  have keep : ∀ (l : List α) (t : σ), P t → P (l.foldl f t) := by
    intro l
    induction l with
    | nil => exact fun t h => h
    | cons y l ih => exact fun t h => ih _ (hk t y h)
  induction l generalizing s with
  | nil => simp at hx
  | cons y l ih =>
    rw [List.foldl_cons]
    rcases List.mem_cons.1 hx with h | h
    · subst h; exact keep l _ (hf s)
    · exact ih h _

theorem tget_filter {α : Type} (d : α) (p : Nat → Bool) (t : Tab α) (k : Nat) :
    tget d (t.filter (fun e => p e.1)) k = if p k then tget d t k else d := by
  induction t with
  | nil => simp
  | cons e t ih =>
    obtain ⟨j, w⟩ := e
    rw [List.filter_cons]
    by_cases hj : p j
    · by_cases h : j = k
      · subst h; simp [tget, hj]
      · simp [tget, hj, h, ih]
    · by_cases h : j = k
      · subst h; simp [hj, ih]
      · simp [tget, hj, h, ih]

/-- Setting several registers to zero. -/
theorem State.clearRegs_rd (s : State) (l : List Nat) (a : Nat) : (s.clearRegs l).rd a = if a ∈ l then 0 else s.rd a := by
  unfold State.clearRegs
  induction l generalizing s with
  | nil => simp
  | cons x l ih =>
    rw [List.foldl_cons, ih, State.rd_wr]
    by_cases h : a ∈ l
    · simp [h]
    · by_cases h2 : a = x <;> simp [h, h2]

theorem State.clearRegs_eq (s : State) (l : List Nat) : ∃ r, s.clearRegs l = { s with regs := r } := by
  unfold State.clearRegs
  induction l generalizing s with
  | nil => exact ⟨s.regs, rfl⟩
  | cons x l ih => obtain ⟨r, h⟩ := ih (s.wr x 0); exact ⟨r, h⟩

end Sys2Proof.Machine
end

