-- ==== Sys2Proof/WellFormed.lean ====
section
/-! DEFINITION. Which commands are well formed: operands that the hardware can be given. Register numbers, ports, cores and
channels are in range by their types. -/

namespace Sys2Proof

/-- Identifier, data length code and data of a CAN frame fit its format (R191, R196). -/
def CanFrame.wellFormed (f : CanFrame) : Bool :=
  let idOk := if f.fmt = 2 then decide (f.id < 2 ^ 11) else decide (f.id < if f.ide then 2 ^ 29 else 2 ^ 11)
  let dlcOk := if f.fmt = 0 then decide (f.dlc ≤ 15) else if f.fmt = 1 then decide (f.dlc ≤ 64) else decide (1 ≤ f.dlc ∧ f.dlc ≤ 2048)
  let dataOk := if f.fmt = 0 then f.data.length == (if f.rtr then 0 else min f.dlc 8) else f.data.length == f.dlc
  idOk && dlcOk && dataOk

/-- A frame of the selective-wake decoder: an 11 or 29 bit identifier, at most 64 data bytes (R396). -/
def WakeFrame.wellFormed (f : WakeFrame) : Bool :=
  decide (f.id < if f.ide then 2 ^ 29 else 2 ^ 11) && decide (f.dlc ≤ 15) && decide (f.data.length ≤ 64)

/-- At most eight links, each on a port of the device (R310). -/
def Lsa.wellFormed (l : Lsa) : Bool :=
  decide (l.seq < 2 ^ 32 ∧ l.links.length ≤ 8) && l.links.all (fun x => decide (x.port < 8 ∧ x.role < 4 ∧ x.peerPort < 8))

/-- Each device has one position (R312). -/
def Assign.wellFormed (a : Assign) : Bool :=
  decide (a.epoch < 2 ^ 16 ∧ a.order.length ≤ 64) && (a.order.map (fun m => m.1)).dedup.length == a.order.length

def MobileReport.wellFormed (x : MobileReport) : Bool := decide (x.routine < 1024 ∧ x.addr < 32 ∧ x.data.length ≤ 65536)

/-- A host access: whole words, a write of at most 256 bytes of payload, a read of at most 512 bytes (R333). -/
def hostOk (off n : Nat) (write : Bool) : Bool := off % 4 == 0 && decide (1 ≤ n ∧ n ≤ (if write then 64 else 128))

/-- The operands of a command are such as the hardware can be given. -/
def Instr.wellFormed : Instr → Bool
  | .vbatSample mv => decide (mv < 2 ^ 16)
  | .selectiveWakeFrame _ f => f.wellFormed
  | .pwmPeriodStart l => l.length == 12
  | .governorPeriod l => l.length == 32
  | .tempSample l => l.length == 24
  | .vmonSample l => l.length == 12
  | .pmbusTransactionDone (.ok mv) => decide (mv < 2 ^ 16)
  | .canFrameReceived _ f => f.wellFormed
  | .agingSweep l => l.all (fun e => decide (e < 16384))
  | .mobileHostChoice _ l => l.all MobileReport.wellFormed
  | .lsa l => l.wellFormed
  | .assign a rep => a.wellFormed && decide (1 ≤ rep ∧ rep ≤ 4)
  | .ack _ epoch rep => decide (epoch < 2 ^ 16 ∧ 1 ≤ rep ∧ rep ≤ 4)
  | .commit a => a.wellFormed
  | .apertureAccess off write n data => hostOk off.val n write && (!write || data.length == n)
  | .mramWrite off l _ => decide (1 ≤ l.length) && off.val / 256 == (off.val + l.length - 1) / 256
  | .frameReceive _ l _ => decide (1 ≤ l.length)
  | _ => true

end Sys2Proof
end

