-- ==== Sys2Proof/Tests/Slice0.lean ====
section
/-! SUPPORT. The package's own tests: small states, words of the keeper cores written out from the spec, single steps worked out
from the rules, ill-formed commands, and for each statement that has hypotheses a theorem that shows, clause by clause, a state
and operands that meet them all. -/

namespace Sys2Proof.Tests

open Sys2Proof Sys2Proof.Machine

set_option maxRecDepth 20000
set_option Elab.async false

def on : State := State.reset
def fr : Frame := { input := 0, data := List.replicate 64 0, complete := true }
/-- A bundle with a port in the gPTP master role. -/
def bundle : Bundle := { set := { master := 2 ^ 27 } }
def hd : FabHdr := { type := 1 }
/-- Two devices with one link UP at both ends. -/
def db2 (o : Nat) : List Lsa := [{ origin := o, seq := 1, headIn := true, links := [{ port := 7, role := 1, peer := o + 1, peerPort := 7 }] },
  { origin := o + 1, seq := 1, headIn := false, links := [{ port := 7, role := 1, peer := o, peerPort := 7 }] }]
/-- An invocation of routine 0 with values in g1, g2 and g3. -/
def kiv (g1 g2 g3 : Word) : Invocation :=
  { ev := { kind := 3, routine := 0, g2 := 0 }, pc := 0, regs := ((((Vector.replicate 32 0).set 1 g1).set 2 g2).set 3 g3), left := 1000 }
/-- Core 63 runs it and stands at the instruction word `w`. -/
def kst (b : State) (w : Nat) (iv : Invocation) : State :=
  State.mwr { b with plc := { b.plc with prog := { routines := [{ code := List.replicate 64 0, dataBytes := 256, group := 1, heaterMask := 2048 }], groups := [{ no := 1, sharedBytes := 256, persistWords := 4 }], signals := [{ index := 249999, type := 0, notify := 0, anyWriter := true, writer := 0, init := 0 }] }, groupAt := [(1, some { cluster := 3, off := 16, len := 256 })] }, kpr := { b.kpr with run := [(63, iv)] } } (codeBase 63) 4 w
/-- A command frame from fabric address 3 waits in front, with these entry words and data bytes. -/
def cst (b : State) (e : List Nat) (d : List Byte) : State :=
  { b.setFld SYS_BOOT_STATUS SYS_BOOT_STATUS_phase 3 with wrd := { b.wrd with arrivals := [.fabric 3 5 e d false] } }
/-- The same command in slot 0 of the ring. -/
def rst (b : State) (e : List Nat) (d : List Byte) : State :=
  { (((b.setFld SYS_BOOT_STATUS SYS_BOOT_STATUS_phase 3).putWords (entryAddr 0 0) e).putWords (dataAddr 0) (bytesWords d)) with
    wrd := { b.wrd with arrivals := [.ring 0 true false] } }
/-- An entry of the event queue. -/
def evt (cls slot : Nat) (h : Handling) : EvEntry :=
  { code := 0x0803, cls := cls, esc := false, inst := 7, detail := 0, ts := 0, gen := 0, slot := slot, handling := h }
/-- Stream entries from handle `k` on, with these first words. -/
def streams (w : Nat → Nat) : Nat → Nat → Tab Byte
  | 0, _ => []
  | n + 1, k => (0x30400000 + 32 * k, BitVec.ofNat 8 (w k)) :: (0x30400000 + 32 * k + 1, BitVec.ofNat 8 (w k / 256)) ::
      (0x30400000 + 32 * k + 2, BitVec.ofNat 8 (w k / 65536)) :: (0x30400000 + 32 * k + 3, BitVec.ofNat 8 (w k / 16777216)) :: streams w n (k + 1)

/-- A byte of a listed stream entry's first word. -/
theorem streams_get (w : Nat → Nat) (d : Byte) (n k j i : Nat) (h1 : k ≤ j) (h2 : j < k + n) (hi : i < 4) :
    tget d (streams w n k) (0x30400000 + 32 * j + i) = BitVec.ofNat 8 (w j / 256 ^ i) := by
  induction n generalizing k with
  | zero => omega
  | succ n ih =>
    by_cases h : j = k
    · subst h
      match i, hi with
      | 0, _ => simp [streams, tget]
      | 1, _ => simp [streams, tget]
      | 2, _ => simp [streams, tget]
      | 3, _ => simp [streams, tget]
    · rw [streams, tget, if_neg (by omega), tget, if_neg (by omega), tget, if_neg (by omega), tget, if_neg (by omega)]
      exact ih (k + 1) (by omega) (by omega)

theorem streams_word (w : Nat → Nat) (s : State) (n h : Nat) (hm : s.mem = streams w n 0) (hh : h < n) (hw : w h < 2 ^ 32) :
    s.streamWord h 0 = w h := by
  have hb : ∀ i < 4, s.mb (0x30400000 + 32 * h + i) = BitVec.ofNat 8 (w h / 256 ^ i) := by
    intro i hi
    rw [State.mb, hm, streams_get w _ n 0 h i (by omega) (by omega) hi]
  have e : streamAddr h + 4 * 0 = 0x30400000 + 32 * h := by simp [streamAddr]
  have r4 : List.range 4 = [0, 1, 2, 3] := rfl
  rw [State.streamWord, e]
  simp only [State.mem32, State.mrd, State.mbytes, r4, List.map_cons, List.map_nil, hb 0 (by omega), hb 1 (by omega), hb 2 (by omega),
    hb 3 (by omega), leNat, BitVec.toNat_ofNat]
  omega

theorem streams_valid (w : Nat → Nat) (s : State) (n h : Nat) (hm : s.mem = streams w n 0) (hh : h < n) (hw : w h < 2 ^ 32)
    (h1 : bit 0 (w h) = true) (h2 : bits 10 9 (w h) ≠ 3) : (s.stream h).valid = true := by
  simp [State.stream, streams_word w s n h hm hh hw, h1, h2]

theorem streams_mem (w : Nat → Nat) (n k j : Nat) (h1 : k ≤ j) (h2 : j < k + n) :
    (0x30400000 + 32 * j, BitVec.ofNat 8 (w j)) ∈ streams w n k := by
  induction n generalizing k with
  | zero => omega
  | succ n ih =>
    by_cases h : j = k
    · subst h; simp [streams]
    · simp only [streams, List.mem_cons]
      exact .inr (.inr (.inr (.inr (ih (k + 1) (by omega) (by omega)))))

theorem streams_handle (w : Nat → Nat) (s : State) (n h : Nat) (hm : s.mem = streams w n 0) (hn : n ≤ 16384) (hh : h < n)
    (hv : (s.stream h).valid = true) : h ∈ s.streamHandles := by
  simp only [State.streamHandles, List.mem_filter, List.mem_dedup, List.mem_map]
  refine ⟨⟨(0x30400000 + 32 * h, BitVec.ofNat 8 (w h)), ⟨by rw [hm]; exact streams_mem w n 0 h (by omega) (by omega), ?_⟩, ?_⟩, hv⟩
  · simp only [Bool.and_eq_true, decide_eq_true_eq]; omega
  · show (0x30400000 + 32 * h - 0x30400000) / 32 = h; omega

theorem streams_full (s : State) (hm : s.mem = streams (fun _ => 1025) 1024 0) : 1024 ≤ s.members.length := by
  have hs : List.range 1024 ⊆ s.members := by
    intro h hh
    have hlt := List.mem_range.mp hh
    have hv := streams_valid (fun _ => 1025) s 1024 h hm hlt (by omega) rfl (by decide)
    simp only [State.members, List.mem_filter]
    refine ⟨streams_handle _ s 1024 h hm (by omega) hlt hv, ?_⟩
    simp only [State.stream, streams_word (fun _ => 1025) s 1024 h hm hlt (by omega)]
    rfl
  have := (List.nodup_range (n := 1024)).subperm hs |>.length_le
  simpa using this

theorem streams_bound (s : State) (h : Nat) (hm : s.mem = streams (fun k => (k + 1) * 65536 + 1) 4095 0) (hh : 4095 ≤ h) :
    s.policersTaken h = true := by
  have hs : (List.range 4095).map (· + 1) ⊆ ((((s.streamHandles.filter (· != h)).map (fun k => (s.stream k).policer)) ++
      (List.range 32).map (fun n => s.fld (TMG_PORT_CLS n) TMG_PORT_CLS_pol)).filter (· != 0)).dedup := by
    intro p hp
    obtain ⟨k, hk, rfl⟩ := List.mem_map.mp hp
    have hlt := List.mem_range.mp hk
    have hw := streams_word (fun k => (k + 1) * 65536 + 1) s 4095 k hm hlt (by show (k + 1) * 65536 + 1 < _; omega)
    have hv := streams_valid (fun k => (k + 1) * 65536 + 1) s 4095 k hm hlt (by show (k + 1) * 65536 + 1 < _; omega)
      (by simp only [bit, Nat.testBit_zero, decide_eq_true_eq]; omega) (by simp only [bits, Nat.shiftRight_eq_div_pow]; omega)
    have hin := streams_handle _ s 4095 k hm (by omega) hlt hv
    have hpol : (s.stream k).policer = k + 1 := by
      simp only [State.stream, hw, bits, Nat.shiftRight_eq_div_pow]
      omega
    simp only [List.mem_dedup, List.mem_filter, List.mem_append, List.mem_map]
    exact ⟨.inl ⟨k, ⟨hin, by simp; omega⟩, hpol⟩, by simp⟩
  have nd : ((List.range 4095).map (· + 1)).Nodup := List.Nodup.map (fun _ _ => Nat.succ.inj) (List.nodup_range (n := 4095))
  have := nd.subperm hs |>.length_le
  simp only [State.policersTaken, decide_eq_true_eq]
  simpa using this

theorem db2_next (o : Nat) : neighbours (db2 o) true o = [o + 1] := by
  simp [neighbours, dbOf, bothEnds, db2, List.find?, List.filter]
theorem db2_back (o : Nat) : neighbours (db2 o) true (o+1) = [o] := by
  simp [neighbours, dbOf, bothEnds, db2, List.find?, List.filter]
theorem db2_next' (o : Nat) : neighbours (db2 o) false o = [o + 1] := by
  simp [neighbours, dbOf, bothEnds, db2, List.find?, List.filter]
theorem db2_back' (o : Nat) : neighbours (db2 o) false (o+1) = [o] := by
  simp [neighbours, dbOf, bothEnds, db2, List.find?, List.filter]
theorem db2_positions (o : Nat) : positions (db2 o) o = [o, o + 1] := by
  have h : ∀ b, neighbours (db2 o) b o = [o + 1] := by intro b; cases b; exact db2_next' o; exact db2_next o
  have h' : ∀ b, neighbours (db2 o) b (o+1) = [o] := by intro b; cases b; exact db2_back' o; exact db2_back o
  have w : ∀ b, orderWalk (db2 o) b 130 0 [o] = [o, o+1] := by
    intro b
    simp [orderWalk, h, h']
  have w' : ∀ b, orderWalk (db2 o) b 130 0 [o,o+1] = [o, o+1] := by
    intro b
    simp [orderWalk, h, h']
  simp [positions, w, w']

theorem db0_positions (o : Nat) : positions [] o = [o] := by
  have h : ∀ b, neighbours [] b o = [] := by intro b; simp [neighbours, dbOf]
  have w : ∀ b, orderWalk [] b 130 0 [o] = [o] := by intro b; simp [orderWalk, h]
  simp [positions, w]
theorem db0_any (o : Nat) (f : Lsa → Bool) : (dbOf [] o).any f = false := by simp [dbOf]
/-- The state after a step. -/
def after (o : Host.Outcome State Fault Refusal) : State :=
  match o with
  | .next t => t
  | _ => on

/-! Words of the keeper cores, written out bit by bit from the formats of R249 and the tables of R250, R251 and R267. -/

/-- ALU, format R (R249, R250, R251). -/
theorem test_decode_arithmetic :
    atnDecode 0b00000100001000100001100000000000 = some (.alu .add 1 2 3) ∧
    atnDecode 0b00000111111000011000000000010000 = some (.alu .remu 31 1 16) ∧
    atnDecode 0b00000100101001100000000000010110 = some (.rev true 5 6) := by
  decide +kernel

/-- formats I (R250): ADDI, SRAI with imm16[6:5] = 2, LUI, LPC. -/
theorem test_decode_immediates :
    atnDecode 0b00001000011001001000000000000000 = some (.imm .addi 3 4 0x8000) ∧
    atnDecode 0b00100000011001000000000001011111 = some (.shi .srai 3 4 31) ∧
    atnDecode 0b00100100111000001010101111001101 = some (.lui 7 0xABCD) ∧
    atnDecode 0b00101000111000000000000000000100 = some (.lpc 7 4) := by
  decide +kernel

/-- loads, stores, ATOM and MCPY (R250, R253). -/
theorem test_decode_memory :
    atnDecode 0b00110101000010011111111111111110 = some (.load .lhu 8 9 0xFFFE) ∧
    atnDecode 0b01001001000010010000000000000001 = some (.store .sb 8 9 1) ∧
    atnDecode 0b01110000001000100001100000000001 = some (.atom true 1 2 3) ∧
    atnDecode 0b01110100001000100001100000000000 = some (.mcpy 1 2 3) := by
  decide +kernel

/-- branches and jumps (R250, R252). -/
theorem test_decode_control :
    atnDecode 0b01011100010000011111111111111111 = some (.branch .bltu 2 1 0xFFFF) ∧
    atnDecode 0b01101011111111111111111111111111 = some (.jump true 0x3FFFFFF) ∧
    atnDecode 0b01101100000111110000000000000000 = some (.jr 0 31 0) := by
  decide +kernel

/-- bit fields and CRC (R250, R254, R255). -/
theorem test_decode_fields :
    atnDecode 0b10000000001000101001011001111111 = some (.bfx 1 2 300 31 true true) ∧
    atnDecode 0b10000100001000100000001110010010 = some (.bfi 1 2 7 4 true) ∧
    atnDecode 0b10001000001000100001100000000110 = some (.crc 1 2 3 6) := by
  decide +kernel

/-- signals, tables and records (R250, R258 to R261). -/
theorem test_decode_tables :
    atnDecode 0b10011000001000100001100001001010 = some (.tlk 1 2 3 2 9) ∧
    atnDecode 0b10011100001000100001100000000000 = some (.emit 1 2 3) := by
  decide +kernel

/-- TARM with fn[3:0] = 0101, HSET, TNOW of g30, WHO, ABANDON (R263, R264, R267, R268). -/
theorem test_decode_system :
    atnDecode 0b10100000001000100001100000000101 = some (.tarm 1 2 3 1 true false) ∧
    atnDecode 0b10100100001000100001100000000000 = some (.hset 1 2 3) ∧
    atnDecode 0b11111011110000000000000000000001 = some (.tnow 14) ∧
    atnDecode 0b11111001001000000000000000000100 = some (.who 9) ∧
    atnDecode 0b11111100000000000000000000000001 = some (.abandon) := by
  decide +kernel

/-- Illegal words (R249, R250, R251, R254, R255, R267): the zero word, an ALU fn of 0x17, REV with rs2 set, SHI 3, LUI with rs1 set,
CRC selector 7, TNOW of g31, DONE with rd set, BFI with its reserved bit set. -/
theorem test_illegal_words : ∀ w ∈ [0,
    0b00000100001000100001100000010111,
    0b00000100001000100000100000010101,
    0b00100000001000100000000001100000,
    0b00100100001000010000000000000000,
    0b10001000001000100001100000000111,
    0b11111011111000000000000000000001,
    0b11111100001000000000000000000000,
    0b10000100001000100000001110010011], atnDecode w = none := by
  decide +kernel

/-! One step of a command, with results worked out from the rules. -/

/-- The value of a keeper register of core 63 after a step. -/
def keeperAfter (o : Host.Outcome State Fault Refusal) (r : Fin 32) : Option Word :=
  match o with
  | .next t => (t.kpr.run.lookup 63).map (fun iv => iv.regs[r])
  | _ => none

/-- A divisor of zero gives a quotient of all ones (R251). -/
theorem test_divu_by_zero : keeperAfter (exec (.divu 63 4 1 2) (kst on (fmtR 1 4 1 2 0xE) (kiv 7 0 0))) 4 = some 0xFFFFFFFF := by
  decide +kernel

/-- The most negative number by −1 gives itself (R251). -/
theorem test_div_overflow :
    keeperAfter (exec (.div 63 4 1 2) (kst on (fmtR 1 4 1 2 0xD) (kiv 0x80000000 0xFFFFFFFF 0))) 4 = some 0x80000000 := by
  decide +kernel

/-- MULH takes its operands signed: −1 by 1 has −1 in the high word (R251). -/
theorem test_mulh_signed : keeperAfter (exec (.mulh 63 4 1 2) (kst on (fmtR 1 4 1 2 0xB) (kiv 0xFFFFFFFF 1 0))) 4 = some 0xFFFFFFFF := by
  decide +kernel

/-- REVH swaps the two low bytes (R251). -/
theorem test_revh : keeperAfter (exec (.revh 63 4 1) (kst on (fmtR 1 4 1 0 0x16) (kiv 0x11223344 0 0))) 4 = some 0x4433 := by
  decide +kernel

/-- A result in g0 is discarded (R248). -/
theorem test_g0_is_zero : keeperAfter (exec (.ori 63 0 1 1) (kst on (fmtI 4 0 1 1) (kiv 2 0 0))) 0 = some 0 := by
  decide +kernel

/-- The check values of the bytes 49 to 57 (R255), the final XOR applied. -/
theorem test_crc_check_values :
    let bs : List Byte := [49, 50, 51, 52, 53, 54, 55, 56, 57]
    bs.foldl (crcStep 0) 0xFF = 0x4B ^^^ 0xFF ∧ bs.foldl (crcStep 1) 0xFF = 0xDF ^^^ 0xFF ∧
    bs.foldl (crcStep 2) 0xFFFF = 0x29B1 ∧ bs.foldl (crcStep 3) 0 = 0xBB3D ∧
    bs.foldl (crcStep 4) 0xFFFFFFFF = 0xCBF43926 ^^^ 0xFFFFFFFF ∧ bs.foldl (crcStep 5) 0xFFFFFFFF = 0xE3069283 ^^^ 0xFFFFFFFF ∧
    bs.foldl (crcStep 6) 0xFFFFFFFF = 0x1697D06A ^^^ 0xFFFFFFFF := by
  decide +kernel

/-- A step takes the command at the front and leaves the rest of the queue. -/
theorem test_step_takes_the_front :
    (after (step { on with pending := [.nop 63, .unwrap] })).pending = [.unwrap] ∧ (after (step on)).pending = [] := by
  decide +kernel


/-! Every check of `Instr.wellFormed` refuses a command that breaks it. -/

/-- A Classical CAN frame of one byte. -/
def canFr : CanFrame :=
  { fmt := 0, ide := false, rtr := false, brs := false, esi := false, dlc := 1, id := 5, data := [0], sdt := 0, vcid := 0, sec := false, af := 0 }

def wakeFr : WakeFrame := { error := false, fd := false, rate := 500, ide := false, id := 5, dlc := 1, data := [0] }

theorem test_wellFormed_refuses :
    ∀ i ∈ ([.vbatSample (2 ^ 16), .selectiveWakeFrame 0 { wakeFr with id := 2 ^ 11 }, .selectiveWakeFrame 0 { wakeFr with dlc := 16 },
      .selectiveWakeFrame 0 { wakeFr with data := List.replicate 65 0 }, .pwmPeriodStart [], .governorPeriod [], .tempSample [],
      .vmonSample [], .pmbusTransactionDone (.ok (2 ^ 16)), .canFrameReceived 0 { canFr with id := 2 ^ 11 },
      .canFrameReceived 0 { canFr with dlc := 16 }, .canFrameReceived 0 { canFr with data := [] }, .agingSweep [16384],
      .mobileHostChoice 0 [{ routine := 1024, addr := 0, digest := 0, load := 0, capacity := 0, canPlace := true }],
      .lsa { origin := 1, seq := 2 ^ 32, headIn := false, links := [] },
      .lsa { origin := 1, seq := 1, headIn := false, links := [{ port := 8, role := 0, peer := 2, peerPort := 0 }] },
      .assign { epoch := 2 ^ 16, order := [] } 1, .assign { epoch := 1, order := [(7, 0), (7, 1)] } 1, .assign { epoch := 1, order := [] } 5,
      .ack 1 (2 ^ 16) 1, .ack 1 1 0, .commit { epoch := 2 ^ 16, order := [] }, .apertureAccess 2 false 1 [],
      .apertureAccess 252 false 129 [], .apertureAccess 0 true 2 [0], .apertureAccess 0 true 65 (List.replicate 65 0), .mramWrite 0 [] 0, .mramWrite 255 [0, 0] 0,
      .frameReceive 0 [] false] : List Instr), i.wellFormed = false := by
  decide +kernel

/-- The same commands with operands in range are well formed. -/
theorem test_wellFormed_accepts :
    ∀ i ∈ ([.vbatSample 12000, .selectiveWakeFrame 0 wakeFr, .pwmPeriodStart (List.replicate 12 0), .pmbusTransactionDone (.ok 800),
      .canFrameReceived 0 canFr, .agingSweep [16383], .assign { epoch := 1, order := [(7, 0), (8, 1)] } 1, .ack 1 1 4,
      .apertureAccess 252 true 64 (List.replicate 64 0), .apertureAccess 252 false 128 [], .mramWrite 255 [0] 0, .frameReceive 0 [0] false] : List Instr), i.wellFormed = true := by
  decide +kernel

/-! Each statement's hypotheses can be met: for every clause that has hypotheses, a state and operands that meet all of them. -/

theorem witness_GovernorLaw :
    (∃ cmd floorPct lowerPct r d : Nat, cmd ≤ 900 ∧ 5 ≤ floorPct ∧ floorPct + 5 ≤ lowerPct ∧ 100 * r < 105 * d) ∧
    (∃ cmd floorPct lowerPct r d : Nat, cmd ≤ 900 ∧ 5 ≤ floorPct ∧ floorPct + 5 ≤ lowerPct ∧ 105 * d ≤ 100 * r ∧
      100 * r < (100 + floorPct) * d) ∧
    (∃ cmd floorPct lowerPct r d : Nat, cmd ≤ 900 ∧ 5 ≤ floorPct ∧ floorPct + 5 ≤ lowerPct ∧ (100 + floorPct) * d ≤ 100 * r ∧
      100 * r ≤ (100 + lowerPct) * d) ∧
    (∃ cmd above floorPct lowerPct dwell r d : Nat, cmd ≤ 900 ∧ 5 ≤ floorPct ∧ floorPct + 5 ≤ lowerPct ∧
      (100 + lowerPct) * d < 100 * r ∧ above + 1 < max 1 dwell) ∧
    (∃ cmd above floorPct lowerPct dwell r d : Nat, cmd ≤ 900 ∧ 5 ≤ floorPct ∧ floorPct + 5 ≤ lowerPct ∧
      (100 + lowerPct) * d < 100 * r ∧ max 1 dwell ≤ above + 1) := by
  exact ⟨⟨900, 10, 15, 104, 100, by decide⟩, ⟨900, 10, 15, 105, 100, by decide⟩, ⟨900, 10, 15, 115, 100, by decide⟩,
    ⟨900, 0, 10, 15, 2, 116, 100, by decide⟩, ⟨900, 1, 10, 15, 2, 116, 100, by decide⟩⟩

theorem witness_HeaterBudget :
    (∃ s : State, ∃ n, n < 12 ∧ (s.heater n).pendFresh = true) ∧ (∃ s : State, s.bank.crankHeld = true ∨ s.running = false) := by
  exact ⟨⟨on.setHeater 11 { on.heater 11 with pendFresh := true }, 11, by decide, by decide +kernel⟩,
    ⟨{ on with bank := { on.bank with crankHeld := true } }, by decide +kernel⟩⟩

/-- A state with a byte of SRAM written and a command that waits. -/
def oneByte : State := { on with mem := [(0x01000000, 1)], pending := [.trngHealthFail] }

theorem witness_StepKeepsForm : ∃ s t : State, s.Inv ∧ step s = .next t := by
  exact ⟨oneByte, after (step oneByte), ⟨by decide +kernel, by decide +kernel⟩, rfl⟩

theorem witness_StatusMessagesSent : ∃ s t : State, s.csg.owed = [] ∧ step s = .next t := by
  exact ⟨oneByte, after (step oneByte), by decide +kernel, rfl⟩

theorem witness_ResetState : ∃ a, a ≠ SYS_RESET_CAUSE := by
  exact ⟨0, by decide⟩
theorem witness_SupplySequence :
    (∃ s : State, (s.dev.state = .unpowered)) ∧
    (∃ s : State, ((s.dev.state = .bankOnly) ∧ (s.bank.seq = .idle) ∧ (3 ≤ s.bank.attempts))) ∧
    (∃ s : State, (s.dev.state ≠ .unpowered) ∧ (¬ (s.dev.state = .bankOnly ∧ s.bank.seq = .idle ∧ 3 ≤ s.bank.attempts))) ∧
    (∃ s : State, ((s.bank.seq = .waitLine) ∧ (s.bank.extLow = false) ∧ (s.bank.minHold = false))) ∧
    (∃ s : State, (s.bank.seq = .waitLine) ∧ (s.bank.extLow = true ∨ s.bank.minHold = true)) ∧
    (∃ s : State, (s.bank.seq ≠ .waitLine)) ∧
    (∃ s : State, (s.bank.seq = .waitPg)) ∧
    (∃ s : State, (s.bank.seq ≠ .waitPg)) ∧
    (∃ s : State, (s.bank.pgTimer = true) ∧ (s.bank.seq = .waitPg ∨ s.bank.seq = .waitLine)) ∧
    (∃ s : State, (s.bank.pgTimer = false ∨ (s.bank.seq ≠ .waitPg ∧ s.bank.seq ≠ .waitLine))) ∧
    (∃ s : State, (s.bank.seq = .retryWait)) ∧
    (∃ s : State, (s.bank.seq ≠ .retryWait)) ∧
    (∃ s : State, (s.bank.seq = .brownWait) ∧ (s.bank.brownTimer = true)) ∧
    (∃ s : State, (s.bank.seq ≠ .brownWait ∨ s.bank.brownTimer = false)) := by
  exact ⟨⟨{ on with dev := { on.dev with state := .unpowered } }, by decide +kernel⟩,
    ⟨{ on with dev := { on.dev with state := .bankOnly }, bank := { on.bank with seq := .idle, attempts := 3 } }, by decide +kernel⟩,
    ⟨on, by decide +kernel⟩,
    ⟨{ on with bank := { on.bank with seq := .waitLine } }, by decide +kernel⟩,
    ⟨{ on with bank := { on.bank with seq := .waitLine, extLow := true } }, by decide +kernel⟩,
    ⟨on, by decide +kernel⟩,
    ⟨{ on with bank := { on.bank with seq := .waitPg } }, by decide +kernel⟩,
    ⟨on, by decide +kernel⟩,
    ⟨{ on with bank := { on.bank with seq := .waitPg, pgTimer := true, attempts := 2 } }, by decide +kernel⟩,
    ⟨on, by decide +kernel⟩,
    ⟨{ on with bank := { on.bank with seq := .retryWait } }, by decide +kernel⟩,
    ⟨on, by decide +kernel⟩,
    ⟨{ on with bank := { on.bank with seq := .brownWait, brownTimer := true } }, by decide +kernel⟩,
    ⟨on, by decide +kernel⟩⟩

theorem witness_LogicDieReset :
    (∃ s : State, (s.running = true)) ∧
    (∃ s : State, (s.running = false)) ∧
    (∃ s : State, ∃ c : Nat, ∃ e : Nat, (s.bank.fatal = some (c, e))) ∧
    (∃ s : State, (s.bank.fatal = none)) ∧
    (∃ s : State, (s.running = true)) ∧
    (∃ s : State, (s.dev.state = .logicReset)) ∧
    (∃ s : State, (s.dev.state = .bankOnly)) ∧
    (∃ s : State, (s.dev.state = .unpowered)) ∧
    (∃ s : State, ∃ e : Nat, ((s.bank.rideEnd = some e) ∧ (e ≤ s.elapsed) ∧ (s.dev.state ≠ .unpowered))) ∧
    (∃ s : State, (s.bank.rideEnd = none ∨ (∃ e, s.bank.rideEnd = some e ∧ s.elapsed < e) ∨ s.dev.state = .unpowered)) := by
  exact ⟨⟨on, by decide +kernel⟩,
    ⟨{ on with dev := { on.dev with state := .bankOnly } }, by decide +kernel⟩,
    ⟨{ on with bank := { on.bank with fatal := some (4, 0x0212) } }, 4, 0x0212, by decide +kernel⟩,
    ⟨on, by decide +kernel⟩,
    ⟨on, by decide +kernel⟩,
    ⟨{ on with dev := { on.dev with state := .logicReset } }, by decide +kernel⟩,
    ⟨{ on with dev := { on.dev with state := .bankOnly } }, by decide +kernel⟩,
    ⟨{ on with dev := { on.dev with state := .unpowered } }, by decide +kernel⟩,
    ⟨{ on with bank := { on.bank with rideEnd := some 0 } }, 0, by decide +kernel⟩,
    ⟨on, by decide +kernel⟩⟩

theorem witness_FatalSequence :
    (∃ s : State, (s.running = true) ∧ (s.bank.fatal = none)) ∧
    (∃ s : State, ((s.running = true) ∧ (s.bank.fatal = none) ∧ (s.bank.lastHb + 50000000 ≤ s.elapsed))) ∧
    (∃ s : State, (s.running = true) ∧ (s.bank.fatal = none)) ∧
    (∃ s : State, (s.running = false ∨ s.bank.fatal.isSome = true)) ∧
    (∃ s : State, (s.running = false ∨ s.bank.fatal.isSome = true)) ∧
    (∃ s : State, (s.running = false ∨ s.bank.fatal.isSome = true)) ∧
    (∃ s : State, (s.elapsed < s.bank.lastHb + 50000000)) := by
  exact ⟨⟨on, by decide +kernel⟩,
    ⟨{ on with elapsed := 50000000 }, by decide +kernel⟩,
    ⟨on, by decide +kernel⟩,
    ⟨{ on with dev := { on.dev with state := .bankOnly } }, by decide +kernel⟩,
    ⟨{ on with dev := { on.dev with state := .bankOnly } }, by decide +kernel⟩,
    ⟨{ on with dev := { on.dev with state := .bankOnly } }, by decide +kernel⟩,
    ⟨on, by decide +kernel⟩⟩

theorem witness_ResetRelease :
    (∃ s : State, ∃ psel : Fin 4, ∃ head : Bool, (s.bank.seq = .waitRelease)) ∧
    (∃ s : State, ∃ psel : Fin 4, ∃ head : Bool, (s.bank.seq ≠ .waitRelease)) ∧
    (∃ s : State, ((s.bank.minHold = true) ∧ (s.bank.seq = .vcoreHold) ∧ (s.bank.extLow = false))) ∧
    (∃ s : State, (s.bank.minHold = true) ∧ (s.bank.seq ≠ .vcoreHold ∨ s.bank.extLow = true)) ∧
    (∃ s : State, (s.bank.minHold = false)) ∧
    (∃ s : State, ((s.bank.seq = .vcoreHold) ∧ (s.bank.extLow = true) ∧ (s.bank.minHold = false))) ∧
    (∃ s : State, (s.bank.seq ≠ .vcoreHold ∨ s.bank.extLow = false ∨ s.bank.minHold = true)) ∧
    (∃ s : State, (s.bank.lowTimer = true)) ∧
    (∃ s : State, (s.bank.lowTimer = false)) ∧
    (∃ s : State, ((s.dev.thermalWait = true) ∧ (s.hlt.tempSeen = true) ∧ ((∀ n < 20, s.tempValid n = true → signed 12 (s.fld (HLT_TEMP n) HLT_TEMP_temp) < 920)))) ∧
    (∃ s : State, (s.dev.thermalWait = false ∨ s.hlt.tempSeen = false ∨ (∃ n < 20, s.tempValid n = true ∧ 920 ≤ signed 12 (s.fld (HLT_TEMP n) HLT_TEMP_temp)))) := by
  exact ⟨⟨{ on with bank := { on.bank with seq := .waitRelease, cause := 4, fatalEvent := 0x0212, reduced := true } }, 3, true, by decide +kernel⟩,
    ⟨on, 0, true, by decide +kernel⟩,
    ⟨{ on with bank := { on.bank with seq := .vcoreHold, minHold := true } }, by decide +kernel⟩,
    ⟨{ on with bank := { on.bank with seq := .vcoreHold, minHold := true, extLow := true } }, by decide +kernel⟩,
    ⟨on, by decide +kernel⟩,
    ⟨{ on with bank := { on.bank with seq := .vcoreHold, extLow := true } }, by decide +kernel⟩,
    ⟨on, by decide +kernel⟩,
    ⟨{ on with bank := { on.bank with lowTimer := true } }, by decide +kernel⟩,
    ⟨on, by decide +kernel⟩,
    ⟨{ on with dev := { on.dev with thermalWait := true }, hlt := { on.hlt with tempSeen := true } }, by decide +kernel⟩,
    ⟨on, by decide +kernel⟩⟩

theorem witness_VbatSupervision :
    (∃ s : State, ∃ mv : Nat, (s.dev.state = .unpowered)) ∧
    (∃ s : State, ∃ mv : Nat, (s.dev.state ≠ .unpowered)) ∧
    (∃ s : State, (s.bank.crankTimer = true)) ∧
    (∃ s : State, (s.bank.crankTimer = false)) ∧
    (∃ s : State, (s.bank.ovTimer = true)) ∧
    (∃ s : State, (s.bank.ovTimer = false)) := by
  exact ⟨⟨{ on with dev := { on.dev with state := .unpowered } }, 0, by decide +kernel⟩,
    ⟨on, 4499, by decide +kernel⟩,
    ⟨(({ on with bank := { on.bank with crankTimer := true, crankHeld := true } }).setFld (BNK_STATUS) BNK_STATUS_vbat_band (1)), by decide +kernel⟩,
    ⟨on, by decide +kernel⟩,
    ⟨(({ on with bank := { on.bank with ovTimer := true } }).setFld (BNK_STATUS) BNK_STATUS_vbat_band (3)), by decide +kernel⟩,
    ⟨on, by decide +kernel⟩⟩

theorem witness_WakeInputs :
    (∃ s : State, ∃ i : Fin 8, ((s.wakeOf i).filtering = false)) ∧
    (∃ s : State, ∃ i : Fin 8, ((s.wakeOf i).filtering = true)) ∧
    (∃ s : State, ∃ i : Fin 8, (((s.wakeOf i).armTimer = true) ∧ ((s.wakeOf i).filtering = false) ∧ (s.wakeEnabled i = true) ∧ (s.wakeActive i = false))) ∧
    (∃ s : State, ∃ i : Fin 8, ((s.wakeOf i).armTimer = false ∨ (s.wakeOf i).filtering = true ∨ s.wakeEnabled i = false ∨ s.wakeActive i = true)) ∧
    (∃ s : State, ∃ i : Fin 8, ((s.dev.state = .bankOnly) ∧ ((s.wakeOf i).stuckTimer = true) ∧ (s.wakeActive i = true) ∧ ((s.fld BNK_WAKE_STATUS BNK_WAKE_STATUS_masked).testBit i = true) ∧ ((s.fld BNK_WAKE_STATUS BNK_WAKE_STATUS_stuck).testBit i = false))) ∧
    (∃ s : State, ∃ i : Fin 8, (s.dev.state ≠ .bankOnly ∨ (s.wakeOf i).stuckTimer = false ∨ s.wakeActive i = false ∨ (s.fld BNK_WAKE_STATUS BNK_WAKE_STATUS_masked).testBit i = false ∨ (s.fld BNK_WAKE_STATUS BNK_WAKE_STATUS_stuck).testBit i = true)) ∧
    (∃ s : State, ∃ n : Fin 24, (s.inStandby n = false)) ∧
    (∃ s : State, ∃ n : Fin 24, (let sel := s.bank.sel.any (fun e => e.1 == n.val); (s.inStandby n = true) ∧ (sel = true))) ∧
    (∃ s : State, ∃ n : Fin 24, (let sel := s.bank.sel.any (fun e => e.1 == n.val); (let wup := (s.fld BNK_CANW_CFG BNK_CANW_CFG_wup_en).testBit n; ((s.inStandby n = true) ∧ (sel = false) ∧ (wup = false))))) ∧
    (∃ s : State, ∃ n : Fin 24, (let sel := s.bank.sel.any (fun e => e.1 == n.val); (let wup := (s.fld BNK_CANW_CFG BNK_CANW_CFG_wup_en).testBit n; ((s.asleep = true) ∧ (sel = false) ∧ (wup = true))))) ∧
    (∃ s : State, ∃ n : Fin 24, (let flag := (s.fld BNK_CANW_STATUS BNK_CANW_STATUS_flag).testBit n; (let sel := s.bank.sel.any (fun e => e.1 == n.val); (let wup := (s.fld BNK_CANW_CFG BNK_CANW_CFG_wup_en).testBit n; ((s.inStandby n = true) ∧ (s.asleep = false) ∧ (sel = false) ∧ (wup = true) ∧ (flag = true)))))) ∧
    (∃ s : State, ∃ n : Fin 24, (let flag := (s.fld BNK_CANW_STATUS BNK_CANW_STATUS_flag).testBit n; (let sel := s.bank.sel.any (fun e => e.1 == n.val); (let wup := (s.fld BNK_CANW_CFG BNK_CANW_CFG_wup_en).testBit n; ((s.inStandby n = true) ∧ (s.asleep = false) ∧ (sel = false) ∧ (wup = true) ∧ (flag = false) ∧ (¬ s.joins 9)))))) ∧
    (∃ s : State, ∃ n : Fin 24, (let flag := (s.fld BNK_CANW_STATUS BNK_CANW_STATUS_flag).testBit n; (let sel := s.bank.sel.any (fun e => e.1 == n.val); (let wup := (s.fld BNK_CANW_CFG BNK_CANW_CFG_wup_en).testBit n; ((s.inStandby n = true) ∧ (s.asleep = false) ∧ (sel = false) ∧ (wup = true) ∧ (flag = false) ∧ (s.joins 9)))))) ∧
    (∃ s : State, ∃ n : Fin 24, ∃ f : WakeFrame, ∃ e : SelEntry, (s.bank.sel.find? (fun x => x.1 == n.val) = some (n.val, e)) ∧ (e.index < 8) ∧ (let heard := s.inStandby n = true ∧ n.val ∈ s.bank.decoding ∧ f.fd = false ∧ f.rate = e.rate; (¬ heard))) ∧
    (∃ s : State, ∃ n : Fin 24, ∃ f : WakeFrame, ∃ e : SelEntry, (s.bank.sel.find? (fun x => x.1 == n.val) = some (n.val, e)) ∧ (e.index < 8) ∧ (let a := BNK_SEL e.index 5; (let k := (s.rd a).toNat; (let heard := s.inStandby n = true ∧ n.val ∈ s.bank.decoding ∧ f.fd = false ∧ f.rate = e.rate; ((heard) ∧ (f.error = true) ∧ (k ≠ 31)))))) ∧
    (∃ s : State, ∃ n : Fin 24, ∃ f : WakeFrame, ∃ e : SelEntry, (s.bank.sel.find? (fun x => x.1 == n.val) = some (n.val, e)) ∧ (e.index < 8) ∧ (let a := BNK_SEL e.index 5; (let k := (s.rd a).toNat; (let heard := s.inStandby n = true ∧ n.val ∈ s.bank.decoding ∧ f.fd = false ∧ f.rate = e.rate; ((heard) ∧ (f.error = true) ∧ (k = 31) ∧ (s.asleep = true)))))) ∧
    (∃ s : State, ∃ n : Fin 24, ∃ f : WakeFrame, ∃ e : SelEntry, (s.bank.sel.find? (fun x => x.1 == n.val) = some (n.val, e)) ∧ (e.index < 8) ∧ (let a := BNK_SEL e.index 5; (let k := (s.rd a).toNat; (let heard := s.inStandby n = true ∧ n.val ∈ s.bank.decoding ∧ f.fd = false ∧ f.rate = e.rate; ((heard) ∧ (f.error = true) ∧ (k = 31) ∧ (s.running = true)))))) ∧
    (∃ s : State, ∃ n : Fin 24, ∃ f : WakeFrame, ∃ e : SelEntry, (s.bank.sel.find? (fun x => x.1 == n.val) = some (n.val, e)) ∧ (e.index < 8) ∧ (let a := BNK_SEL e.index 5; (let k := (s.rd a).toNat; (let heard := s.inStandby n = true ∧ n.val ∈ s.bank.decoding ∧ f.fd = false ∧ f.rate = e.rate; (let woke := s.dev.state = .bankOnly ∧ s.bank.wokeAt = some s.elapsed; ((heard) ∧ (f.error = true) ∧ (k = 31) ∧ (s.running = false) ∧ (s.asleep = false) ∧ (¬ woke))))))) ∧
    (∃ s : State, ∃ n : Fin 24, ∃ f : WakeFrame, ∃ e : SelEntry, (s.bank.sel.find? (fun x => x.1 == n.val) = some (n.val, e)) ∧ (e.index < 8) ∧ (let a := BNK_SEL e.index 5; (let k := (s.rd a).toNat; (let heard := s.inStandby n = true ∧ n.val ∈ s.bank.decoding ∧ f.fd = false ∧ f.rate = e.rate; (let woke := s.dev.state = .bankOnly ∧ s.bank.wokeAt = some s.elapsed; ((heard) ∧ (f.error = true) ∧ (k = 31) ∧ (s.asleep = false) ∧ (woke))))))) ∧
    (∃ s : State, ∃ n : Fin 24, ∃ f : WakeFrame, ∃ e : SelEntry, (s.bank.sel.find? (fun x => x.1 == n.val) = some (n.val, e)) ∧ (e.index < 8) ∧ (let heard := s.inStandby n = true ∧ n.val ∈ s.bank.decoding ∧ f.fd = false ∧ f.rate = e.rate; ((heard) ∧ (f.error = false) ∧ (e.matches f = false)))) ∧
    (∃ s : State, ∃ n : Fin 24, ∃ f : WakeFrame, ∃ e : SelEntry, (s.bank.sel.find? (fun x => x.1 == n.val) = some (n.val, e)) ∧ (e.index < 8) ∧ (let heard := s.inStandby n = true ∧ n.val ∈ s.bank.decoding ∧ f.fd = false ∧ f.rate = e.rate; ((heard) ∧ (f.error = false) ∧ (e.matches f = true) ∧ (s.asleep = true)))) ∧
    (∃ s : State, ∃ n : Fin 24, ∃ f : WakeFrame, ∃ e : SelEntry, (s.bank.sel.find? (fun x => x.1 == n.val) = some (n.val, e)) ∧ (e.index < 8) ∧ (let heard := s.inStandby n = true ∧ n.val ∈ s.bank.decoding ∧ f.fd = false ∧ f.rate = e.rate; ((heard) ∧ (f.error = false) ∧ (e.matches f = true) ∧ (s.asleep = false) ∧ (¬ s.joins 10 ∨ (s.fld BNK_CANW_STATUS BNK_CANW_STATUS_flag).testBit n = true)))) ∧
    (∃ s : State, ∃ n : Fin 24, ∃ f : WakeFrame, ∃ e : SelEntry, (s.bank.sel.find? (fun x => x.1 == n.val) = some (n.val, e)) ∧ (e.index < 8) ∧ (let heard := s.inStandby n = true ∧ n.val ∈ s.bank.decoding ∧ f.fd = false ∧ f.rate = e.rate; ((heard) ∧ (f.error = false) ∧ (e.matches f = true) ∧ (s.asleep = false) ∧ ((s.fld BNK_CANW_STATUS BNK_CANW_STATUS_flag).testBit n = false) ∧ (s.joins 10)))) ∧
    (∃ s : State, ∃ n : Fin 24, ∃ f : WakeFrame, (s.bank.sel.find? (fun x => x.1 == n.val) = none)) ∧
    (∃ s : State, ∃ n : Fin 24, (s.inStandby n = false)) ∧
    (∃ s : State, ∃ n : Fin 24, (s.inStandby n = true)) := by
  exact ⟨⟨on, 7, by decide +kernel⟩,
    ⟨(((on).wr (BNK_WAKE_CFG) (0xFFFF)).setWake 7 { filtering := true, pin := false, level := true, armed := true }), 7, by decide +kernel⟩,
    ⟨((on).setWake 7 { armTimer := true }), 7, by decide +kernel⟩,
    ⟨((on).setWake 7 { armTimer := false }), 7, by decide +kernel⟩,
    ⟨((({ on with dev := { on.dev with state := .bankOnly } }).setWake 7 { stuckTimer := true, level := true }).setFld (BNK_WAKE_STATUS) BNK_WAKE_STATUS_masked (128)), 7, by decide +kernel⟩,
    ⟨on, 0, by decide +kernel⟩,
    ⟨((({ on with dev := { on.dev with state := .full } }).setFld (CAN_STATUS 23) CAN_STATUS_state 2)), 23, by decide +kernel⟩,
    ⟨{ on with bank := { on.bank with sel := [(23, { index := 7, rate := 0, ide := false, id := 5, idMask := 0, dlcChk := false, dmask := 0, dlc := 0 })] } }, 23, by decide +kernel⟩,
    ⟨(on.setFld BNK_CANW_CFG BNK_CANW_CFG_wup_en 0), 23, by decide +kernel⟩,
    ⟨{ on with dev := { on.dev with state := .bankOnly }, bank := { on.bank with seq := .idle } }, 23, by decide +kernel⟩,
    ⟨(on.setFld BNK_CANW_STATUS BNK_CANW_STATUS_flag (2 ^ 23)), 23, by decide +kernel⟩,
    ⟨on, 23, by decide +kernel⟩,
    ⟨(({ on with dev := { on.dev with state := .bankOnly }, bank := { on.bank with seq := .waitLine, wokeAt := some 0 } }).setFld (BNK_WAKE_CAUSE) BNK_WAKE_CAUSE_src (10)), 23, by decide +kernel⟩,
    ⟨{ on with dev := { on.dev with state := .bankOnly }, bank := { on.bank with seq := .idle, sel := [(23, { index := 7, rate := 0, ide := false, id := 5, idMask := 0, dlcChk := false, dmask := 0, dlc := 0 })], decoding := [23] } }, 23, { error := false, fd := true, rate := 0, ide := false, id := 5, dlc := 0, data := [] }, { index := 7, rate := 0, ide := false, id := 5, idMask := 0, dlcChk := false, dmask := 0, dlc := 0 }, by decide +kernel⟩,
    ⟨{ on with dev := { on.dev with state := .boot }, bank := { on.bank with seq := .idle, sel := [(23, { index := 7, rate := 0, ide := false, id := 5, idMask := 0, dlcChk := false, dmask := 0, dlc := 0 })], decoding := [23] } }, 23, { error := true, fd := false, rate := 0, ide := false, id := 5, dlc := 0, data := [] }, { index := 7, rate := 0, ide := false, id := 5, idMask := 0, dlcChk := false, dmask := 0, dlc := 0 }, by decide +kernel⟩,
    ⟨((({ on with dev := { on.dev with state := .bankOnly }, bank := { on.bank with seq := .idle, sel := [(23, { index := 7, rate := 0, ide := false, id := 5, idMask := 0, dlcChk := false, dmask := 0, dlc := 0 })], decoding := [23] } }).wr (BNK_SEL 7 5) 31)), 23, { error := true, fd := false, rate := 0, ide := false, id := 5, dlc := 0, data := [] }, { index := 7, rate := 0, ide := false, id := 5, idMask := 0, dlcChk := false, dmask := 0, dlc := 0 }, by decide +kernel⟩,
    ⟨((({ on with dev := { on.dev with state := .boot }, bank := { on.bank with seq := .idle, sel := [(23, { index := 7, rate := 0, ide := false, id := 5, idMask := 0, dlcChk := false, dmask := 0, dlc := 0 })], decoding := [23] } }).wr (BNK_SEL 7 5) 31)), 23, { error := true, fd := false, rate := 0, ide := false, id := 5, dlc := 0, data := [] }, { index := 7, rate := 0, ide := false, id := 5, idMask := 0, dlcChk := false, dmask := 0, dlc := 0 }, by decide +kernel⟩,
    ⟨((({ on with dev := { on.dev with state := .logicReset }, bank := { on.bank with seq := .idle, sel := [(23, { index := 7, rate := 0, ide := false, id := 5, idMask := 0, dlcChk := false, dmask := 0, dlc := 0 })], decoding := [23] } }).wr (BNK_SEL 7 5) 31)), 23, { error := true, fd := false, rate := 0, ide := false, id := 5, dlc := 0, data := [] }, { index := 7, rate := 0, ide := false, id := 5, idMask := 0, dlcChk := false, dmask := 0, dlc := 0 }, by decide +kernel⟩,
    ⟨((({ (on) with dev := { (on).dev with state := .bankOnly }, bank := { (on).bank with seq := .waitLine, sel := [(23, { index := 7, rate := 0, ide := false, id := 5, idMask := 0, dlcChk := false, dmask := 0, dlc := 0 })], decoding := [23], wokeAt := some 0 } }).wr (BNK_SEL 7 5) 31).setFld BNK_WAKE_CAUSE BNK_WAKE_CAUSE_src 12), 23, { error := true, fd := false, rate := 0, ide := false, id := 5, dlc := 0, data := [] }, { index := 7, rate := 0, ide := false, id := 5, idMask := 0, dlcChk := false, dmask := 0, dlc := 0 }, by decide +kernel⟩,
    ⟨{ on with dev := { on.dev with state := .boot }, bank := { on.bank with seq := .idle, sel := [(23, { index := 7, rate := 0, ide := true, id := 5, idMask := 0, dlcChk := false, dmask := 0, dlc := 0 })], decoding := [23] } }, 23, { error := false, fd := false, rate := 0, ide := false, id := 5, dlc := 0, data := [] }, { index := 7, rate := 0, ide := true, id := 5, idMask := 0, dlcChk := false, dmask := 0, dlc := 0 }, by decide +kernel⟩,
    ⟨{ on with dev := { on.dev with state := .bankOnly }, bank := { on.bank with seq := .idle, sel := [(23, { index := 7, rate := 0, ide := false, id := 5, idMask := 0, dlcChk := false, dmask := 0, dlc := 0 })], decoding := [23] } }, 23, { error := false, fd := false, rate := 0, ide := false, id := 5, dlc := 0, data := [] }, { index := 7, rate := 0, ide := false, id := 5, idMask := 0, dlcChk := false, dmask := 0, dlc := 0 }, by decide +kernel⟩,
    ⟨{ (on) with dev := { (on).dev with state := .boot }, bank := { (on).bank with seq := .idle, sel := [(23, { index := 7, rate := 0, ide := false, id := 5, idMask := 0, dlcChk := false, dmask := 0, dlc := 0 })], decoding := [23] } }, 23, { error := false, fd := false, rate := 0, ide := false, id := 5, dlc := 0, data := [] }, { index := 7, rate := 0, ide := false, id := 5, idMask := 0, dlcChk := false, dmask := 0, dlc := 0 }, by decide +kernel⟩,
    ⟨((({ (on) with dev := { (on).dev with state := .bankOnly }, bank := { (on).bank with seq := .waitLine, sel := [(23, { index := 7, rate := 0, ide := false, id := 5, idMask := 0, dlcChk := false, dmask := 0, dlc := 0 })], decoding := [23], wokeAt := some 0 } }).wr (BNK_SEL 7 5) 5).setFld BNK_WAKE_CAUSE BNK_WAKE_CAUSE_src 12), 23, { error := false, fd := false, rate := 0, ide := false, id := 5, dlc := 0, data := [] }, { index := 7, rate := 0, ide := false, id := 5, idMask := 0, dlcChk := false, dmask := 0, dlc := 0 }, by decide +kernel⟩,
    ⟨on, 23, { error := false, fd := false, rate := 0, ide := false, id := 5, dlc := 0, data := [] }, by decide +kernel⟩,
    ⟨((({ on with dev := { on.dev with state := .full } }).setFld (CAN_STATUS 23) CAN_STATUS_state 2)), 23, by decide +kernel⟩,
    ⟨on, 23, by decide +kernel⟩⟩

theorem witness_DikeLink :
    (∃ s : State, ∃ m : Master, ∃ off : Fin 65536, ∃ v : Word, ((s.running = true) ∧ (accessOk m false (0x20100000 + off.val) 4 = true) ∧ (s.bank.open_ = none) ∧ (s.bank.posted = []))) ∧
    (∃ s : State, ∃ m : Master, ∃ write : Bool, ∃ off : Fin 65536, ∃ v : Word, ∃ answered : Bool, ((s.running = true) ∧ (accessOk m write (0x20100000 + off.val) 4 = true) ∧ (s.bank.open_ = none) ∧ (s.bank.posted = []))) ∧
    (∃ s : State, ∃ m : Master, ∃ write : Bool, ∃ off : Fin 65536, ∃ v : Word, ∃ arrives : Bool, ∃ answered : Bool, ((s.running = true) ∧ (accessOk m write (0x20100000 + off.val) 4 = true) ∧ (s.bank.open_.isSome = true))) ∧
    (∃ s : State, ∃ m : Master, ∃ write : Bool, ∃ off : Fin 65536, ∃ v : Word, ∃ arrives : Bool, ∃ answered : Bool, (s.running = false)) ∧
    (∃ s : State, ∃ m : Master, ∃ write : Bool, ∃ off : Fin 65536, ∃ v : Word, ∃ arrives : Bool, ∃ answered : Bool, (s.running = true) ∧ (accessOk m write (0x20100000 + off.val) 4 = false)) ∧
    (∃ s : State, (let asks := fun q : DikeReq => bits 63 60 q.frame.toNat = 1 ∨ bits 63 60 q.frame.toNat = 2; ∃ q : DikeReq, ∃ arrives : Bool, ∃ answered : Bool, ((s.bank.open_ = some q) ∧ (q.tries < 3) ∧ (asks q)))) ∧
    (∃ s : State, ∃ q : DikeReq, ∃ arrives : Bool, ∃ answered : Bool, ((s.bank.open_ = some q) ∧ (q.tries < 3) ∧ (s.bank.posted = []) ∧ (s.running = true) ∧ (bits 63 60 q.frame.toNat = 2) ∧ (s.bank.lastSeq = some (bits 59 56 q.frame.toNat)))) ∧
    (∃ s : State, ∃ q : DikeReq, ∃ arrives : Bool, ∃ answered : Bool, (s.bank.open_ = some q) ∧ ∃ m : Master, ((q.tries < 3) ∧ (s.bank.posted = []) ∧ (s.running = true) ∧ (bits 63 60 q.frame.toNat = 1) ∧ (q.master = some m))) ∧
    (∃ s : State, ∃ q : DikeReq, ∃ arrives : Bool, ∃ answered : Bool, ((s.bank.open_ = some q) ∧ (3 ≤ q.tries) ∧ (s.bank.posted = []))) ∧
    (∃ s : State, (let asks := fun q : DikeReq => bits 63 60 q.frame.toNat = 1 ∨ bits 63 60 q.frame.toNat = 2; ∃ q : DikeReq, ∃ arrives : Bool, ∃ answered : Bool, (s.bank.open_ = some q) ∧ ∃ p : DikeReq, ∃ b : Bool, ∃ rest : List (DikeReq × Bool × Bool), ((3 ≤ q.tries) ∧ (asks p) ∧ (s.bank.posted = (p, false, b) :: rest)))) ∧
    (∃ s : State, ∃ arrives : Bool, ∃ answered : Bool, (s.bank.open_ = none)) := by
  exact ⟨⟨on, .warden, 0x400, 0, by decide +kernel⟩,
    ⟨on, .warden, true, 0x400, 0, true, by decide +kernel⟩,
    ⟨{ on with bank := { on.bank with open_ := some { master := some .warden, frame := dikeFrame 2 3 0x200 5, tries := 0 } } }, .warden, true, 0x400, 0, true, true, by decide +kernel⟩,
    ⟨{ on with dev := { on.dev with state := .bankOnly } }, .warden, true, 0, 0, true, true, by decide +kernel⟩,
    ⟨on, .pcie, true, 1, 0, true, true, by decide +kernel⟩,
    ⟨{ on with bank := { on.bank with open_ := some { master := some .warden, frame := dikeFrame 2 3 0x200 5, tries := 0 } } }, { master := some .warden, frame := dikeFrame 2 3 0x200 5, tries := 0 }, true, true, by decide +kernel⟩,
    ⟨{ on with bank := { on.bank with lastSeq := some 3, open_ := some { master := some .warden, frame := dikeFrame 2 3 0x200 5, tries := 0 } } }, { master := some .warden, frame := dikeFrame 2 3 0x200 5, tries := 0 }, true, true, by decide +kernel⟩,
    ⟨{ on with bank := { on.bank with open_ := some { master := some .warden, frame := dikeFrame 1 0 0x200 0, tries := 2 } } }, { master := some .warden, frame := dikeFrame 1 0 0x200 0, tries := 2 }, true, true, by decide +kernel, .warden, by decide +kernel⟩,
    ⟨{ on with bank := { on.bank with open_ := some { master := some .warden, frame := dikeFrame 1 0 0x200 0, tries := 3 } } }, { master := some .warden, frame := dikeFrame 1 0 0x200 0, tries := 3 }, true, true, by decide +kernel⟩,
    ⟨{ on with bank := { on.bank with open_ := some { master := some .warden, frame := dikeFrame 1 0 0x200 0, tries := 3 }, posted := [({ master := some .warden, frame := dikeFrame 2 3 0x200 5, tries := 0 }, false, false)] } }, { master := some .warden, frame := dikeFrame 1 0 0x200 0, tries := 3 }, true, true, by decide +kernel, { master := some .warden, frame := dikeFrame 2 3 0x200 5, tries := 0 }, false, [], by decide +kernel⟩,
    ⟨on, true, true, by decide +kernel⟩⟩

theorem witness_BankWrites :
    (∃ s : State, ∃ m : Master, ∃ v : Word, ((s.dikeReady) ∧ (s.writable m BNK_CTL) ∧ (v.toNat.testBit 1 = false))) ∧
    (∃ s : State, ∃ m : Master, ∃ v : Word, ((s.dikeReady) ∧ (s.writable m BNK_CTL) ∧ (v.toNat.testBit 1 = true))) ∧
    (∃ s : State, ∃ m : Master, ∃ v : Word, ((s.dikeReady) ∧ (s.writable m BNK_CTL) ∧ (s.fld BNK_WAKE_STATUS BNK_WAKE_STATUS_edge ≠ 0 ∨ s.fld BNK_CANW_STATUS BNK_CANW_STATUS_flag ≠ 0))) ∧
    (∃ s : State, ∃ m : Master, ∃ v : Word, ((s.dikeReady) ∧ (s.writable m BNK_CTL) ∧ (s.fld BNK_WAKE_STATUS BNK_WAKE_STATUS_edge = 0) ∧ (s.fld BNK_CANW_STATUS BNK_CANW_STATUS_flag = 0))) ∧
    (∃ s : State, ∃ m : Master, ∃ v : Word, (s.dikeReady) ∧ ∃ n : Fin 12, (s.writable m (BNK_HTR_DEMAND n))) ∧
    (∃ s : State, ∃ m : Master, ∃ v : Word, (s.dikeReady) ∧ ∃ n : Fin 12, (s.writable m (BNK_HTR_CMD n))) ∧
    (∃ s : State, ∃ m : Master, ∃ v : Word, (s.dikeReady) ∧ (s.writable m BNK_SUP_CFG)) := by
  exact ⟨⟨{ on with bank := { on.bank with lastSeq := some 15 } }, .warden, 0x101, by decide +kernel⟩,
    ⟨{ on with bank := { on.bank with lastSeq := some 15 } }, .warden, 3, by decide +kernel⟩,
    ⟨(({ on with bank := { on.bank with lastSeq := some 15 } }).setFld (BNK_WAKE_STATUS) BNK_WAKE_STATUS_edge (128)), .warden, 5, by decide +kernel⟩,
    ⟨{ on with bank := { on.bank with lastSeq := some 15 } }, .warden, 0x101, by decide +kernel⟩,
    ⟨{ on with bank := { on.bank with lastSeq := some 15 } }, .warden, 1001, by decide +kernel, 11, by decide +kernel⟩,
    ⟨{ on with bank := { on.bank with lastSeq := some 15 } }, .warden, 0x101, by decide +kernel, 11, by decide +kernel⟩,
    ⟨{ on with bank := { on.bank with lastSeq := some 15 } }, .warden, 0x101, by decide +kernel⟩⟩

theorem witness_HeaterChannels :
    (∃ s : State, ∃ n : Fin 12, (s.htr n BNK_HTR_STATUS_fresh ≠ 0) ∧ ((s.heater n).pendFresh = false)) ∧
    (∃ s : State, ∃ n : Fin 12, (s.htr n BNK_HTR_STATUS_fresh = 0 ∨ (s.heater n).pendFresh = true)) ∧
    (∃ s : State, ∃ n : Fin 12, (s.htr n BNK_HTR_STATUS_decaying ≠ 0)) ∧
    (∃ s : State, ∃ n : Fin 12, (s.htr n BNK_HTR_STATUS_decaying = 0)) ∧
    (∃ s : State, ∃ n : Fin 12, (s.htr n BNK_HTR_STATUS_eff_duty ≠ 0)) ∧
    (∃ s : State, ∃ n : Fin 12, (s.htr n BNK_HTR_STATUS_eff_duty = 0)) ∧
    (∃ s : State, ∃ n : Fin 12, (s.htr n BNK_HTR_STATUS_eff_duty = 0) ∧ (s.htr n BNK_HTR_STATUS_vbat_short = 0)) ∧
    (∃ s : State, ∃ n : Fin 12, (s.htr n BNK_HTR_STATUS_eff_duty ≠ 0 ∨ s.htr n BNK_HTR_STATUS_vbat_short ≠ 0)) := by
  exact ⟨⟨((on).setFld (BNK_HTR_STATUS 11) BNK_HTR_STATUS_fresh (1)), 11, by decide +kernel⟩,
    ⟨on, 0, by decide +kernel⟩,
    ⟨(((on).setFld (BNK_HTR_STATUS 11) BNK_HTR_STATUS_decaying (1)).setBank { on.bank with heaters := [(11, { dec := 50 })] }), 11, by decide +kernel⟩,
    ⟨on, 0, by decide +kernel⟩,
    ⟨((((on).setFld (BNK_HTR_STATUS 11) BNK_HTR_STATUS_eff_duty (500)).setFld (BNK_HTR_STATUS 11) BNK_HTR_STATUS_short_run 2)), 11, by decide +kernel⟩,
    ⟨on, 0, by decide +kernel⟩,
    ⟨on, 11, by decide +kernel⟩,
    ⟨((on).setFld (BNK_HTR_STATUS 11) BNK_HTR_STATUS_vbat_short (1)), 11, by decide +kernel⟩⟩

theorem witness_GovernorPeriod :
    (∃ s : State, ∃ cmd : Nat, ∃ above : Nat, ∃ floorPct : Nat, ∃ lowerPct : Nat, ∃ dwell : Nat, ∃ vmin : Nat, ∃ hold : Nat, ∃ r : Nat, ∃ d : Nat, ∃ noLower : Bool, ((5 ≤ floorPct) ∧ (floorPct + 5 ≤ lowerPct) ∧ (100 * r < 105 * d))) ∧
    (∃ s : State, ∃ cmd : Nat, ∃ above : Nat, ∃ floorPct : Nat, ∃ lowerPct : Nat, ∃ dwell : Nat, ∃ vmin : Nat, ∃ hold : Nat, ∃ r : Nat, ∃ d : Nat, ∃ noLower : Bool, ((5 ≤ floorPct) ∧ (floorPct + 5 ≤ lowerPct) ∧ (105 * d ≤ 100 * r) ∧ (100 * r < (100 + floorPct) * d))) ∧
    (∃ s : State, ∃ cmd : Nat, ∃ above : Nat, ∃ floorPct : Nat, ∃ lowerPct : Nat, ∃ dwell : Nat, ∃ vmin : Nat, ∃ hold : Nat, ∃ r : Nat, ∃ d : Nat, ∃ noLower : Bool, ((5 ≤ floorPct) ∧ (floorPct + 5 ≤ lowerPct) ∧ ((100 + floorPct) * d ≤ 100 * r) ∧ (100 * r ≤ (100 + lowerPct) * d))) ∧
    (∃ s : State, ∃ cmd : Nat, ∃ above : Nat, ∃ floorPct : Nat, ∃ lowerPct : Nat, ∃ dwell : Nat, ∃ vmin : Nat, ∃ hold : Nat, ∃ r : Nat, ∃ d : Nat, ∃ noLower : Bool, ((5 ≤ floorPct) ∧ (floorPct + 5 ≤ lowerPct) ∧ ((100 + lowerPct) * d < 100 * r) ∧ (above + 1 < max 1 dwell))) ∧
    (∃ s : State, ∃ cmd : Nat, ∃ above : Nat, ∃ floorPct : Nat, ∃ lowerPct : Nat, ∃ dwell : Nat, ∃ vmin : Nat, ∃ hold : Nat, ∃ r : Nat, ∃ d : Nat, ∃ noLower : Bool, ((5 ≤ floorPct) ∧ (floorPct + 5 ≤ lowerPct) ∧ ((100 + lowerPct) * d < 100 * r) ∧ (max 1 dwell ≤ above + 1))) ∧
    (∃ s : State, ∃ cmd : Nat, ∃ above : Nat, ∃ floorPct : Nat, ∃ lowerPct : Nat, ∃ dwell : Nat, ∃ vmin : Nat, ∃ hold : Nat, ∃ r : Nat, ∃ d : Nat, ∃ noLower : Bool, ((5 ≤ floorPct) ∧ (floorPct + 5 ≤ lowerPct) ∧ (above + 1 < max 1 dwell))) ∧
    (∃ s : State, ∃ cmd : Nat, ∃ above : Nat, ∃ floorPct : Nat, ∃ lowerPct : Nat, ∃ dwell : Nat, ∃ vmin : Nat, ∃ hold : Nat, ∃ r : Nat, ∃ d : Nat, ∃ noLower : Bool, ((5 ≤ floorPct) ∧ (floorPct + 5 ≤ lowerPct) ∧ (max 1 dwell ≤ above + 1))) ∧
    (∃ s : State, ∃ rates : List Nat, (s.running = false)) ∧
    (∃ s : State, ∃ rates : List Nat, (s.running = true)) ∧
    (∃ s : State, ∃ m : Master, ∃ v : Word, (s.writable m HLT_GOV_CTL)) ∧
    (∃ s : State, (s.hlt.marginNeg = true) ∧ (s.fld HLT_GOV_STATUS HLT_GOV_STATUS_load_not_met = 0)) ∧
    (∃ s : State, (s.hlt.marginNeg = false ∨ s.fld HLT_GOV_STATUS HLT_GOV_STATUS_load_not_met = 1)) := by
  exact ⟨⟨on, 880, 0, 15, 25, 0, 0, 850, 104, 100, true, by decide +kernel⟩,
    ⟨on, 880, 0, 15, 25, 0, 0, 850, 105, 100, true, by decide +kernel⟩,
    ⟨on, 880, 0, 15, 25, 0, 0, 850, 125, 100, true, by decide +kernel⟩,
    ⟨on, 880, 0, 15, 25, 2, 0, 850, 126, 100, true, by decide +kernel⟩,
    ⟨on, 880, 1, 15, 25, 2, 0, 850, 126, 100, true, by decide +kernel⟩,
    ⟨on, 880, 0, 15, 25, 2, 0, 850, 0, 100, true, by decide +kernel⟩,
    ⟨on, 880, 0, 15, 25, 0, 0, 850, 0, 100, true, by decide +kernel⟩,
    ⟨{ on with dev := { on.dev with state := .bankOnly } }, [], by decide +kernel⟩,
    ⟨(((((on.setFld SYS_POLDER SYS_POLDER_on 4095)).setFld HLT_GOV_CTL HLT_GOV_CTL_enable 1).setFld (HLT_RATE_NEED 17) HLT_RATE_NEED_need_active 100)), ((List.replicate 32 104)), by decide +kernel⟩,
    ⟨on, .warden, 0x1F0E0901, by decide +kernel⟩,
    ⟨{ (on) with hlt := { (on).hlt with marginNeg := true } }, by decide +kernel⟩,
    ⟨on, by decide +kernel⟩⟩

theorem witness_RegulatorLink :
    (∃ s : State, ∃ x : Nat, ∃ n : Nat, ∃ mv : Nat, (s.hlt.pmb = some (.vout x, n))) ∧
    (∃ s : State, ∃ c : PmbCmd, ∃ n : Nat, ∃ mv : Nat, (s.hlt.pmb = some (c, n)) ∧ (c.isVout = false)) ∧
    (∃ s : State, ∃ c : PmbCmd, ∃ n : Nat, ∃ cmd : Instr, (s.hlt.pmb = some (c, n)) ∧ (cmd = .pmbusTransactionDone .nack ∨ cmd = .pmbusTransactionDone .pecError ∨ cmd = .pmbusClockStretchTimeout)) ∧
    (∃ s : State, ∃ r : PmbResult, ∃ cmd : Instr, (s.hlt.pmb = none) ∧ (cmd = .pmbusTransactionDone r ∨ cmd = .pmbusClockStretchTimeout)) ∧
    (∃ s : State, ∃ fails : Fin 5, ∃ status : BitVec 16, (s.running = true)) ∧
    (∃ s : State, ∃ fails : Fin 5, ∃ linear : Bool, (s.running = true)) ∧
    (∃ s : State, ∃ fails : Fin 5, ∃ status : BitVec 16, ∃ linear : Bool, (s.running = false)) ∧
    (∃ s : State, ∃ fails : Fin 5, ∃ status : BitVec 16, ∃ linear : Bool, (s.running = false)) := by
  exact ⟨⟨{ (on) with hlt := { (on).hlt with pmb := some (.vout 500, 1), pmbWait := [] } }, 500, 1, 0, by decide +kernel⟩,
    ⟨{ (on) with hlt := { (on).hlt with pmb := some (.readVout 500, 1), pmbWait := [] } }, (.readVout 500), 1, 526, by decide +kernel⟩,
    ⟨{ (on) with hlt := { (on).hlt with pmb := some (.vout 900, 2), pmbWait := [] } }, (.vout 900), 2, .pmbusClockStretchTimeout, by decide +kernel⟩,
    ⟨on, .nack, .pmbusClockStretchTimeout, by decide +kernel⟩,
    ⟨on, 0, 1, by decide +kernel⟩,
    ⟨on, 0, true, by decide +kernel⟩,
    ⟨{ on with dev := { on.dev with state := .bankOnly } }, 4, 0, true, by decide +kernel⟩,
    ⟨{ on with dev := { on.dev with state := .bankOnly } }, 0, 0, true, by decide +kernel⟩⟩

theorem witness_Sensors :
    (∃ s : State, ∃ r : List Int, (s.running = false)) ∧
    (∃ s : State, ∃ r : List Int, (s.running = true)) ∧
    (∃ s : State, (s.hlt.critTimer = true) ∧ (s.running = true)) ∧
    (∃ s : State, (s.hlt.critTimer = false ∨ s.running = false)) ∧
    (∃ s : State, ∃ r : List Nat, (s.running = false)) ∧
    (∃ s : State, ∃ r : List Nat, (s.running = true)) ∧
    (∃ s : State, ∃ n : Fin 4, (s.hlt.underTimer.testBit n = true) ∧ (s.running = true)) ∧
    (∃ s : State, ∃ n : Fin 4, (s.hlt.underTimer.testBit n = false ∨ s.running = false)) ∧
    (∃ s : State, ∃ m : Master, ∃ v : Word, (s.writable m HLT_TEMP_LIM)) ∧
    (∃ s : State, ∃ m : Master, ∃ v : Word, (s.writable m HLT_PMB_CFG)) := by
  exact ⟨⟨{ on with dev := { on.dev with state := .bankOnly } }, [], by decide +kernel⟩,
    ⟨on, ((List.replicate 24 1300)), by decide +kernel⟩,
    ⟨{ (on) with hlt := { (on).hlt with critTimer := true } }, by decide +kernel⟩,
    ⟨on, by decide +kernel⟩,
    ⟨{ on with dev := { on.dev with state := .bankOnly } }, [], by decide +kernel⟩,
    ⟨on, [], by decide +kernel⟩,
    ⟨{ (on) with hlt := { (on).hlt with underTimer := 8 } }, 3, by decide +kernel⟩,
    ⟨on, 3, by decide +kernel⟩,
    ⟨on, .warden, 0xFF, by decide +kernel⟩,
    ⟨((on).wr (HLT_PMB_STATUS) (0xFFFFF)), .warden, 0x1FF, by decide +kernel⟩⟩

theorem witness_TideClock :
    (∃ s : State, ∃ m : Master, ∃ v : Word, (s.writable m HLT_TIDE_RATE)) ∧
    (∃ s : State, ∃ m : Master, ∃ v : Word, (s.writable m HLT_TIDE_CTL)) ∧
    (∃ s : State, ∃ offset : Int, ∃ time : Nat, (s.running = true) ∧ (s.slavePort.isSome = true)) ∧
    (∃ s : State, (s.running = true) ∧ (s.slavePort.isSome = true)) ∧
    (∃ s : State, ∃ offset : Int, ∃ time : Nat, (s.running = false ∨ s.slavePort = none)) ∧
    (∃ s : State, ∃ offset : Int, ∃ time : Nat, (s.running = false ∨ s.slavePort = none)) ∧
    (∃ s : State, (s.timeAware = false)) ∧
    (∃ s : State, (s.timeAware = false)) ∧
    (∃ s : State, ∃ b : Bundle, ((s.timeAware = true) ∧ (s.profileNow = some b) ∧ ((∀ p < 28, s.linkUp p = true → b.set.master.testBit p = false)))) ∧
    (∃ s : State, ∃ b : Bundle, ((s.timeAware = true) ∧ (s.profileNow = some b) ∧ ((∀ p < 28, s.linkUp p = true → b.set.fixedDelay.any (fun e => e.1 == p) = true)))) ∧
    (∃ s : State, ∃ b : Bundle, (s.timeAware = true) ∧ (s.profileNow = some b) ∧ ∃ p, p < 28 ∧ ((s.linkUp p = true) ∧ (b.set.master.testBit p = true) ∧ ((∀ k < 28, k ≠ p → s.linkUp k = true → b.set.master.testBit k = false)))) ∧
    (∃ s : State, ∃ b : Bundle, (s.timeAware = true) ∧ (s.profileNow = some b) ∧ ∃ p, p < 28 ∧ ((s.linkUp p = true) ∧ (b.set.fixedDelay.any (fun e => e.1 == p) = false) ∧ ((∀ k < 28, k ≠ p → s.linkUp k = true → b.set.fixedDelay.any (fun e => e.1 == k) = true)))) ∧
    (∃ s : State, ∃ b : Bundle, (s.timeAware = true) ∧ (s.profileNow = some b)) ∧
    (∃ s : State, ∃ b : Bundle, (s.timeAware = true) ∧ (s.profileNow = some b)) := by
  exact ⟨⟨on, .warden, 549755814, by decide +kernel⟩,
    ⟨on, .warden, 2, by decide +kernel⟩,
    ⟨{ on with wrd := { on.wrd with run := some { bundle with set := { bundle.set with slave := some 3 } } } }, 1001, 0, by decide +kernel⟩,
    ⟨{ on with wrd := { on.wrd with run := some { bundle with set := { bundle.set with slave := some 3 } } } }, by decide +kernel⟩,
    ⟨on, 0, 0, by decide +kernel⟩,
    ⟨on, 0, 0, by decide +kernel⟩,
    ⟨on, by decide +kernel⟩,
    ⟨on, by decide +kernel⟩,
    ⟨((({ on with dev := { on.dev with state := .full }, wrd := { on.wrd with run := some bundle } }).setFld SYS_BOOT_STATUS SYS_BOOT_STATUS_phase 3)), bundle, by decide +kernel⟩,
    ⟨((({ on with dev := { on.dev with state := .full }, wrd := { on.wrd with run := some bundle } }).setFld SYS_BOOT_STATUS SYS_BOOT_STATUS_phase 3)), bundle, by decide +kernel⟩,
    ⟨((((({ on with dev := { on.dev with state := .full }, wrd := { on.wrd with run := some bundle } }).setFld SYS_BOOT_STATUS SYS_BOOT_STATUS_phase 3)).setFld (ETH_PHY_STATUS 27) ETH_PHY_STATUS_link 1)), bundle, by decide +kernel, by decide +kernel, 27, by decide +kernel⟩,
    ⟨((((({ on with dev := { on.dev with state := .full }, wrd := { on.wrd with run := some bundle } }).setFld SYS_BOOT_STATUS SYS_BOOT_STATUS_phase 3)).setFld (ETH_PHY_STATUS 27) ETH_PHY_STATUS_link 1)), bundle, by decide +kernel, by decide +kernel, 27, by decide +kernel⟩,
    ⟨((({ on with dev := { on.dev with state := .full }, wrd := { on.wrd with run := some bundle } }).setFld SYS_BOOT_STATUS SYS_BOOT_STATUS_phase 3)), bundle, by decide +kernel⟩,
    ⟨((({ on with dev := { on.dev with state := .full }, wrd := { on.wrd with run := some bundle } }).setFld SYS_BOOT_STATUS SYS_BOOT_STATUS_phase 3)), bundle, by decide +kernel⟩⟩

theorem witness_BootPhases :
    (∃ s : State, ∃ burns : List Bool, ((s.dev.state = .boot) ∧ (s.phase = 0) ∧ (s.dev.recovery = false) ∧ (s.dev.thermalWait = false) ∧ (s.bank.fatal = none))) ∧
    (∃ s : State, ∃ burns : List Bool, (s.dev.state ≠ .boot ∨ s.phase ≠ 0 ∨ s.dev.recovery = true ∨ s.dev.thermalWait = true ∨ s.bank.fatal.isSome = true)) ∧
    (∃ s : State, ((s.dev.state = .boot) ∧ (s.phase = 1) ∧ (s.bank.fatal = none))) ∧
    (∃ s : State, (s.dev.state ≠ .boot ∨ s.phase ≠ 1 ∨ s.bank.fatal.isSome = true)) ∧
    (∃ s : State, ∃ failed : List (Fin 64), ((s.dev.state = .cold) ∧ (s.bank.fatal = none) ∧ (s.wrd.switching = none))) ∧
    (∃ s : State, ∃ failed : List (Fin 64), (s.dev.state ≠ .cold ∨ s.bank.fatal.isSome = true ∨ s.wrd.switching.isSome = true)) ∧
    (∃ s : State, ∃ p : Fin 28, ∃ c : ColdBlock, ((s.wrd.cold = some c) ∧ (c.ports.testBit p = true) ∧ (s.linkUp p = false))) ∧
    (∃ s : State, ∃ p : Fin 28, (s.wrd.cold = none ∨ s.linkUp p = true)) ∧
    (∃ s : State, ∃ p : Fin 28, ∃ c : ColdBlock, (s.wrd.cold = some c) ∧ (c.ports.testBit p = false)) := by
  exact ⟨⟨{ on with mram := { on.mram with sub0 := { valid := true } } }, [], by decide +kernel⟩,
    ⟨{ on with dev := { on.dev with state := .bankOnly } }, [], by decide +kernel⟩,
    ⟨(((on).setFld SYS_BOOT_STATUS SYS_BOOT_STATUS_phase 1)), by decide +kernel⟩,
    ⟨on, by decide +kernel⟩,
    ⟨{ on with dev := { on.dev with state := .cold } }, [], by decide +kernel⟩,
    ⟨on, [], by decide +kernel⟩,
    ⟨{ on with wrd := { on.wrd with cold := some { ports := 2 ^ 27 } } }, 27, { ports := 2 ^ 27 }, by decide +kernel⟩,
    ⟨on, 27, by decide +kernel⟩,
    ⟨{ on with wrd := { on.wrd with cold := some { ports := 2 ^ 26 } } }, 27, { ports := 2 ^ 26 }, by decide +kernel⟩⟩

theorem witness_PcieLink :
    (∃ s : State, ∃ up : Bool, ((s.running = true) ∧ (s.dev.pcieTrain = true) ∧ (s.dev.pcieUp ≠ up))) ∧
    (∃ s : State, ∃ up : Bool, (s.running = false ∨ s.dev.pcieTrain = false ∨ s.dev.pcieUp = up)) := by
  exact ⟨⟨{ on with dev := { on.dev with pcieTrain := true } }, true, by decide +kernel⟩,
    ⟨on, true, by decide +kernel⟩⟩

theorem witness_FabricLinks :
    (∃ s : State, ∃ p : Fin 8, ((s.bridgeOn = true) ∧ (s.fabLink p = true) ∧ (s.linkUp p = true))) ∧
    (∃ s : State, ∃ p : Fin 8, (s.bridgeOn = false ∨ s.fabLink p = false ∨ s.linkUp p = false)) ∧
    (∃ s : State, ∃ f : Frame, ∃ h : FabHdr, ∃ u : State, (s.take31 1 = some (f, h, u)) ∧ ((u.bridgeOn = true) ∧ (u.fabLink f.input = true) ∧ (u.linkUp f.input = true))) ∧
    (∃ s : State, ∃ f : Frame, ∃ h : FabHdr, ∃ u : State, (s.take31 1 = some (f, h, u)) ∧ (u.bridgeOn = false ∨ u.fabLink f.input = false ∨ u.linkUp f.input = false)) ∧
    (∃ s : State, (s.take31 1 = none)) ∧
    (∃ s : State, ∃ p : Fin 8, (2 ≤ s.linkState p)) ∧
    (∃ s : State, ∃ p : Fin 8, (s.linkState p < 2)) ∧
    (∃ s : State, ∃ level : Bool, (s.running = true)) ∧
    (∃ s : State, ∃ level : Bool, (s.running = false)) ∧
    (∃ s : State, (s.bridgeOn = true)) ∧
    (∃ s : State, (s.bridgeOn = false)) ∧
    (∃ s : State, ∃ l : Lsa, ∃ f : Frame, ∃ h : FabHdr, ∃ u : State, (s.take31 2 = some (f, h, u)) ∧ (let stale := l.origin = ownId ∨ s.lsaRepeat l = true; (stale))) ∧
    (∃ s : State, ∃ l : Lsa, ∃ f : Frame, ∃ h : FabHdr, ∃ u : State, (s.take31 2 = some (f, h, u)) ∧ (let stale := l.origin = ownId ∨ s.lsaRepeat l = true; (¬ stale))) ∧
    (∃ s : State, ∃ l : Lsa, (s.take31 2 = none)) := by
  exact ⟨⟨(((({ on with dev := { on.dev with state := .cold } }).setFld (ETH_PHY_STATUS 7) ETH_PHY_STATUS_link (1)).setFld (FAB_PORT_CFG 7) FAB_PORT_CFG_role (1)).setFld (FAB_CTL) FAB_CTL_en (1)), 7, by decide +kernel⟩,
    ⟨on, 7, by decide +kernel⟩,
    ⟨{ (((({ on with dev := { on.dev with state := .cold } }).setFld (ETH_PHY_STATUS 7) ETH_PHY_STATUS_link (1)).setFld (FAB_PORT_CFG 7) FAB_PORT_CFG_role (1)).setFld (FAB_CTL) FAB_CTL_en (1)) with sw := { (((({ on with dev := { on.dev with state := .cold } }).setFld (ETH_PHY_STATUS 7) ETH_PHY_STATUS_link (1)).setFld (FAB_PORT_CFG 7) FAB_PORT_CFG_role (1)).setFld (FAB_CTL) FAB_CTL_en (1)).sw with staged := [(31, [{ input := 7, kind := .fabric, data := List.replicate 32 0, fab := some { type := 1 } }])] } }, { input := 7, kind := .fabric, data := List.replicate 32 0, fab := some { type := 1 } }, { type := 1 }, (({ (((({ on with dev := { on.dev with state := .cold } }).setFld (ETH_PHY_STATUS 7) ETH_PHY_STATUS_link (1)).setFld (FAB_PORT_CFG 7) FAB_PORT_CFG_role (1)).setFld (FAB_CTL) FAB_CTL_en (1)) with sw := { (((({ on with dev := { on.dev with state := .cold } }).setFld (ETH_PHY_STATUS 7) ETH_PHY_STATUS_link (1)).setFld (FAB_PORT_CFG 7) FAB_PORT_CFG_role (1)).setFld (FAB_CTL) FAB_CTL_en (1)).sw with staged := [(31, [{ input := 7, kind := .fabric, data := List.replicate 32 0, fab := some { type := 1 } }])] } }).pop31), rfl, by decide +kernel⟩,
    ⟨{ (on) with sw := { (on).sw with staged := [(31, [{ input := 7, kind := .fabric, data := List.replicate 32 0, fab := some { type := 1 } }])] } }, { input := 7, kind := .fabric, data := List.replicate 32 0, fab := some { type := 1 } }, { type := 1 }, (({ (on) with sw := { (on).sw with staged := [(31, [{ input := 7, kind := .fabric, data := List.replicate 32 0, fab := some { type := 1 } }])] } }).pop31), rfl, by decide +kernel⟩,
    ⟨on, by decide +kernel⟩,
    ⟨(((((on).setFld (FAB_PORT_STATUS 7) FAB_PORT_STATUS_state (3)).setFld (ETH_PHY_STATUS 7) ETH_PHY_STATUS_link (1)).setFld (FAB_PORT_CFG 7) FAB_PORT_CFG_role (1)).setFld (FAB_CTL) FAB_CTL_en (1)), 7, by decide +kernel⟩,
    ⟨on, 7, by decide +kernel⟩,
    ⟨(((({ on with dev := { on.dev with state := .cold } }).setFld (ETH_PHY_STATUS 7) ETH_PHY_STATUS_link (1)).setFld (FAB_PORT_CFG 7) FAB_PORT_CFG_role (1)).setFld (FAB_CTL) FAB_CTL_en (1)), true, by decide +kernel⟩,
    ⟨{ on with dev := { on.dev with state := .bankOnly } }, true, by decide +kernel⟩,
    ⟨(((({ on with dev := { on.dev with state := .cold } }).setFld (ETH_PHY_STATUS 7) ETH_PHY_STATUS_link (1)).setFld (FAB_PORT_CFG 7) FAB_PORT_CFG_role (1)).setFld (FAB_CTL) FAB_CTL_en (1)), by decide +kernel⟩,
    ⟨on, by decide +kernel⟩,
    ⟨{ (on) with sw := { (on).sw with staged := [(31, [{ input := 7, kind := .fabric, data := List.replicate 32 0, fab := some { type := 2 } }])] } }, { origin := ownId, seq := 5, headIn := false, links := [] }, { input := 7, kind := .fabric, data := List.replicate 32 0, fab := some { type := 2 } }, { type := 2 }, (({ (on) with sw := { (on).sw with staged := [(31, [{ input := 7, kind := .fabric, data := List.replicate 32 0, fab := some { type := 2 } }])] } }).pop31), rfl, .inl rfl⟩,
    ⟨{ (on) with sw := { (on).sw with staged := [(31, [{ input := 7, kind := .fabric, data := List.replicate 32 0, fab := some { type := 2 } }])] } }, { origin := ownId + 1, seq := 5, headIn := false, links := [] }, { input := 7, kind := .fabric, data := List.replicate 32 0, fab := some { type := 2 } }, { type := 2 }, (({ (on) with sw := { (on).sw with staged := [(31, [{ input := 7, kind := .fabric, data := List.replicate 32 0, fab := some { type := 2 } }])] } }).pop31), rfl, fun h => h.elim (fun h => by have h2 : ownId + 1 = ownId := h; omega) (fun h => Bool.false_ne_true h)⟩,
    ⟨on, { origin := ownId + 1, seq := 5, headIn := false, links := [] }, by decide +kernel⟩⟩

theorem witness_FabricAddressing :
    (∃ s : State, (s.fab.settling = false)) ∧
    (∃ s : State, (let order := positions s.fab.db ownId; (let same := s.addressed = true ∧ s.fabAddr = 0 ∧ order.length = s.fab.members.length ∧ (order.all (fun id => s.fab.members.any (fun m => m.1 == id))) = true; (s.fab.settling = true) ∧ (s.isHead = false ∨ same)))) ∧
    (∃ s : State, (let order := positions s.fab.db ownId; (let same := s.addressed = true ∧ s.fabAddr = 0 ∧ order.length = s.fab.members.length ∧ (order.all (fun id => s.fab.members.any (fun m => m.1 == id))) = true; (s.fab.settling = true) ∧ (s.isHead = true) ∧ (¬ same) ∧ (order = [ownId])))) ∧
    (∃ s : State, (let order := positions s.fab.db ownId; (let same := s.addressed = true ∧ s.fabAddr = 0 ∧ order.length = s.fab.members.length ∧ (order.all (fun id => s.fab.members.any (fun m => m.1 == id))) = true; (s.fab.settling = true) ∧ (s.isHead = true) ∧ (¬ same) ∧ (order ≠ [ownId])))) ∧
    (∃ s : State, (s.fab.open_ = none)) ∧
    (∃ s : State, ∃ a : Assign, ∃ n : Nat, ∃ acks : List Nat, (s.fab.open_ = some (a, n, acks)) ∧ (n < 4)) ∧
    (∃ s : State, ∃ a : Assign, ∃ n : Nat, ∃ acks : List Nat, (s.fab.open_ = some (a, n, acks)) ∧ (4 ≤ n)) ∧
    (∃ s : State, ∃ id : Nat, ∃ epoch : Nat, ∃ rep : Nat, ∃ f : Frame, ∃ h : FabHdr, ∃ u : State, (s.take31 4 = some (f, h, u)) ∧ (FabMsg.ack id epoch rep ∈ s.fab.seen)) ∧
    (∃ s : State, ∃ id : Nat, ∃ epoch : Nat, ∃ rep : Nat, ∃ f : Frame, ∃ h : FabHdr, ∃ u : State, (s.take31 4 = some (f, h, u)) ∧ (FabMsg.ack id epoch rep ∉ s.fab.seen) ∧ (s.fab.open_ = none)) ∧
    (∃ s : State, ∃ id : Nat, ∃ epoch : Nat, ∃ rep : Nat, ∃ f : Frame, ∃ h : FabHdr, ∃ u : State, (s.take31 4 = some (f, h, u)) ∧ ∃ a : Assign, ∃ n : Nat, ∃ acks : List Nat, (FabMsg.ack id epoch rep ∉ s.fab.seen) ∧ (s.fab.open_ = some (a, n, acks)) ∧ (let named := a.epoch = epoch ∧ a.order.any (fun m => m.1 == id) = true; (¬ named))) ∧
    (∃ s : State, ∃ id : Nat, ∃ epoch : Nat, ∃ rep : Nat, ∃ f : Frame, ∃ h : FabHdr, ∃ u : State, (s.take31 4 = some (f, h, u)) ∧ ∃ a : Assign, ∃ n : Nat, ∃ acks : List Nat, (FabMsg.ack id epoch rep ∉ s.fab.seen) ∧ (s.fab.open_ = some (a, n, acks)) ∧ (let acks1 := if acks.contains id then acks else id :: acks; (let named := a.epoch = epoch ∧ a.order.any (fun m => m.1 == id) = true; (named) ∧ (a.order.all (fun m => acks1.contains m.1) = false)))) ∧
    (∃ s : State, ∃ id : Nat, ∃ epoch : Nat, ∃ rep : Nat, ∃ f : Frame, ∃ h : FabHdr, ∃ u : State, (s.take31 4 = some (f, h, u)) ∧ ∃ a : Assign, ∃ n : Nat, ∃ acks : List Nat, (FabMsg.ack id epoch rep ∉ s.fab.seen) ∧ (s.fab.open_ = some (a, n, acks)) ∧ (let acks1 := if acks.contains id then acks else id :: acks; (let named := a.epoch = epoch ∧ a.order.any (fun m => m.1 == id) = true; (named) ∧ (a.order.all (fun m => acks1.contains m.1) = true)))) ∧
    (∃ s : State, ∃ id : Nat, ∃ epoch : Nat, ∃ rep : Nat, (s.take31 4 = none)) ∧
    (∃ s : State, ∃ a : Assign, ∃ rep : Nat, ∃ f : Frame, ∃ h : FabHdr, ∃ u : State, (s.take31 3 = some (f, h, u)) ∧ (FabMsg.assign a rep ∈ s.fab.seen)) ∧
    (∃ s : State, ∃ a : Assign, ∃ rep : Nat, ∃ f : Frame, ∃ h : FabHdr, ∃ u : State, (s.take31 3 = some (f, h, u)) ∧ (FabMsg.assign a rep ∉ s.fab.seen) ∧ (a.order.any (fun m => m.1 == ownId) = true)) ∧
    (∃ s : State, ∃ a : Assign, ∃ rep : Nat, ∃ f : Frame, ∃ h : FabHdr, ∃ u : State, (s.take31 3 = some (f, h, u)) ∧ (FabMsg.assign a rep ∉ s.fab.seen) ∧ (a.order.any (fun m => m.1 == ownId) = false)) ∧
    (∃ s : State, ∃ a : Assign, ∃ rep : Nat, (s.take31 3 = none)) ∧
    (∃ s : State, ∃ a : Assign, ∃ f : Frame, ∃ h : FabHdr, ∃ u : State, (s.take31 5 = some (f, h, u)) ∧ (let past := FabMsg.commit a ∈ s.fab.seen ∨ s.oldCommit a = true; (past))) ∧
    (∃ s : State, ∃ a : Assign, ∃ f : Frame, ∃ h : FabHdr, ∃ u : State, (s.take31 5 = some (f, h, u)) ∧ (let past := FabMsg.commit a ∈ s.fab.seen ∨ s.oldCommit a = true; (¬ past))) ∧
    (∃ s : State, ∃ a : Assign, (s.take31 5 = none)) := by
  exact ⟨⟨on, by decide +kernel⟩,
    ⟨{ on with fab := { (on).fab with settling := true } }, by decide +kernel⟩,
    ⟨{ ((on).setFld (FAB_STATUS) FAB_STATUS_is_head (1)) with fab := { (on).fab with settling := true } }, by decide +kernel, by decide +kernel, fun h => absurd h.1 (by decide +kernel), db0_positions ownId⟩,
    ⟨{ ((on).setFld (FAB_STATUS) FAB_STATUS_is_head (1)) with fab := { (on).fab with settling := true, db := [{ origin := ownId, seq := 1, headIn := true, links := [{ port := 7, role := 1, peer := ownId + 1, peerPort := 7 }] }, { origin := ownId + 1, seq := 1, headIn := false, links := [{ port := 7, role := 1, peer := ownId, peerPort := 7 }] }] } }, by decide +kernel, by decide +kernel, fun h => absurd h.1 (by decide +kernel), fun h => by have := (db2_positions ownId).symm.trans h; simp at this⟩,
    ⟨on, by decide +kernel⟩,
    ⟨{ on with fab := { on.fab with open_ := some ({ epoch := 5, order := [(7, 0), (8, 1)] }, 3, []) } }, { epoch := 5, order := [(7, 0), (8, 1)] }, 3, [], by decide +kernel⟩,
    ⟨{ on with fab := { on.fab with open_ := some ({ epoch := 5, order := [(7, 0), (8, 1)] }, 4, [7]) } }, { epoch := 5, order := [(7, 0), (8, 1)] }, 4, [7], by decide +kernel⟩,
    ⟨{ ({ on with fab := { on.fab with seen := [.ack 7 5 1] } }) with sw := { ({ on with fab := { on.fab with seen := [.ack 7 5 1] } }).sw with staged := [(31, [{ input := 7, kind := .fabric, data := List.replicate 32 0, fab := some { type := 4 } }])] } }, 7, 5, 1, { input := 7, kind := .fabric, data := List.replicate 32 0, fab := some { type := 4 } }, { type := 4 }, (({ ({ on with fab := { on.fab with seen := [.ack 7 5 1] } }) with sw := { ({ on with fab := { on.fab with seen := [.ack 7 5 1] } }).sw with staged := [(31, [{ input := 7, kind := .fabric, data := List.replicate 32 0, fab := some { type := 4 } }])] } }).pop31), rfl, by decide +kernel⟩,
    ⟨{ (on) with sw := { (on).sw with staged := [(31, [{ input := 7, kind := .fabric, data := List.replicate 32 0, fab := some { type := 4 } }])] } }, 7, 5, 1, { input := 7, kind := .fabric, data := List.replicate 32 0, fab := some { type := 4 } }, { type := 4 }, (({ (on) with sw := { (on).sw with staged := [(31, [{ input := 7, kind := .fabric, data := List.replicate 32 0, fab := some { type := 4 } }])] } }).pop31), rfl, by decide +kernel⟩,
    ⟨{ ({ on with fab := { on.fab with open_ := some ({ epoch := 5, order := [(7, 0), (8, 1)] }, 1, []) } }) with sw := { ({ on with fab := { on.fab with open_ := some ({ epoch := 5, order := [(7, 0), (8, 1)] }, 1, []) } }).sw with staged := [(31, [{ input := 7, kind := .fabric, data := List.replicate 32 0, fab := some { type := 4 } }])] } }, 7, 6, 1, { input := 7, kind := .fabric, data := List.replicate 32 0, fab := some { type := 4 } }, { type := 4 }, (({ ({ on with fab := { on.fab with open_ := some ({ epoch := 5, order := [(7, 0), (8, 1)] }, 1, []) } }) with sw := { ({ on with fab := { on.fab with open_ := some ({ epoch := 5, order := [(7, 0), (8, 1)] }, 1, []) } }).sw with staged := [(31, [{ input := 7, kind := .fabric, data := List.replicate 32 0, fab := some { type := 4 } }])] } }).pop31), rfl, { epoch := 5, order := [(7, 0), (8, 1)] }, 1, [], by decide +kernel⟩,
    ⟨{ ({ on with fab := { on.fab with open_ := some ({ epoch := 5, order := [(7, 0), (8, 1)] }, 1, []) } }) with sw := { ({ on with fab := { on.fab with open_ := some ({ epoch := 5, order := [(7, 0), (8, 1)] }, 1, []) } }).sw with staged := [(31, [{ input := 7, kind := .fabric, data := List.replicate 32 0, fab := some { type := 4 } }])] } }, 7, 5, 1, { input := 7, kind := .fabric, data := List.replicate 32 0, fab := some { type := 4 } }, { type := 4 }, (({ ({ on with fab := { on.fab with open_ := some ({ epoch := 5, order := [(7, 0), (8, 1)] }, 1, []) } }) with sw := { ({ on with fab := { on.fab with open_ := some ({ epoch := 5, order := [(7, 0), (8, 1)] }, 1, []) } }).sw with staged := [(31, [{ input := 7, kind := .fabric, data := List.replicate 32 0, fab := some { type := 4 } }])] } }).pop31), rfl, { epoch := 5, order := [(7, 0), (8, 1)] }, 1, [], by decide +kernel⟩,
    ⟨{ ({ on with fab := { on.fab with open_ := some ({ epoch := 5, order := [(7, 0), (8, 1)] }, 1, [8]) } }) with sw := { ({ on with fab := { on.fab with open_ := some ({ epoch := 5, order := [(7, 0), (8, 1)] }, 1, [8]) } }).sw with staged := [(31, [{ input := 7, kind := .fabric, data := List.replicate 32 0, fab := some { type := 4 } }])] } }, 7, 5, 1, { input := 7, kind := .fabric, data := List.replicate 32 0, fab := some { type := 4 } }, { type := 4 }, (({ ({ on with fab := { on.fab with open_ := some ({ epoch := 5, order := [(7, 0), (8, 1)] }, 1, [8]) } }) with sw := { ({ on with fab := { on.fab with open_ := some ({ epoch := 5, order := [(7, 0), (8, 1)] }, 1, [8]) } }).sw with staged := [(31, [{ input := 7, kind := .fabric, data := List.replicate 32 0, fab := some { type := 4 } }])] } }).pop31), rfl, { epoch := 5, order := [(7, 0), (8, 1)] }, 1, [8], by decide +kernel⟩,
    ⟨on, 0, 0, 0, by decide +kernel⟩,
    ⟨{ ({ on with fab := { on.fab with seen := [.assign { epoch := 5, order := [(7, 0), (8, 1)] } 4] } }) with sw := { ({ on with fab := { on.fab with seen := [.assign { epoch := 5, order := [(7, 0), (8, 1)] } 4] } }).sw with staged := [(31, [{ input := 7, kind := .fabric, data := List.replicate 32 0, fab := some { type := 3 } }])] } }, { epoch := 5, order := [(7, 0), (8, 1)] }, 4, { input := 7, kind := .fabric, data := List.replicate 32 0, fab := some { type := 3 } }, { type := 3 }, (({ ({ on with fab := { on.fab with seen := [.assign { epoch := 5, order := [(7, 0), (8, 1)] } 4] } }) with sw := { ({ on with fab := { on.fab with seen := [.assign { epoch := 5, order := [(7, 0), (8, 1)] } 4] } }).sw with staged := [(31, [{ input := 7, kind := .fabric, data := List.replicate 32 0, fab := some { type := 3 } }])] } }).pop31), rfl, by decide +kernel⟩,
    ⟨{ (on) with sw := { (on).sw with staged := [(31, [{ input := 7, kind := .fabric, data := List.replicate 32 0, fab := some { type := 3 } }])] } }, { epoch := 5, order := [(ownId, 31)] }, 4, { input := 7, kind := .fabric, data := List.replicate 32 0, fab := some { type := 3 } }, { type := 3 }, (({ (on) with sw := { (on).sw with staged := [(31, [{ input := 7, kind := .fabric, data := List.replicate 32 0, fab := some { type := 3 } }])] } }).pop31), rfl, by decide +kernel, by simp⟩,
    ⟨{ (on) with sw := { (on).sw with staged := [(31, [{ input := 7, kind := .fabric, data := List.replicate 32 0, fab := some { type := 3 } }])] } }, { epoch := 5, order := [] }, 4, { input := 7, kind := .fabric, data := List.replicate 32 0, fab := some { type := 3 } }, { type := 3 }, (({ (on) with sw := { (on).sw with staged := [(31, [{ input := 7, kind := .fabric, data := List.replicate 32 0, fab := some { type := 3 } }])] } }).pop31), rfl, by decide +kernel, by simp⟩,
    ⟨on, { epoch := 5, order := [(7, 0), (8, 1)] }, 0, by decide +kernel⟩,
    ⟨{ ({ on with fab := { on.fab with seen := [.commit { epoch := 5, order := [(7, 0), (8, 1)] }] } }) with sw := { ({ on with fab := { on.fab with seen := [.commit { epoch := 5, order := [(7, 0), (8, 1)] }] } }).sw with staged := [(31, [{ input := 7, kind := .fabric, data := List.replicate 32 0, fab := some { type := 5 } }])] } }, { epoch := 5, order := [(7, 0), (8, 1)] }, { input := 7, kind := .fabric, data := List.replicate 32 0, fab := some { type := 5 } }, { type := 5 }, (({ ({ on with fab := { on.fab with seen := [.commit { epoch := 5, order := [(7, 0), (8, 1)] }] } }) with sw := { ({ on with fab := { on.fab with seen := [.commit { epoch := 5, order := [(7, 0), (8, 1)] }] } }).sw with staged := [(31, [{ input := 7, kind := .fabric, data := List.replicate 32 0, fab := some { type := 5 } }])] } }).pop31), rfl, by decide +kernel⟩,
    ⟨{ (on) with sw := { (on).sw with staged := [(31, [{ input := 7, kind := .fabric, data := List.replicate 32 0, fab := some { type := 5 } }])] } }, { epoch := 5, order := [(ownId, 31)] }, { input := 7, kind := .fabric, data := List.replicate 32 0, fab := some { type := 5 } }, { type := 5 }, (({ (on) with sw := { (on).sw with staged := [(31, [{ input := 7, kind := .fabric, data := List.replicate 32 0, fab := some { type := 5 } }])] } }).pop31), rfl, by decide +kernel⟩,
    ⟨on, { epoch := 5, order := [(7, 0), (8, 1)] }, by decide +kernel⟩⟩

theorem witness_FabricForwarding :
    (∃ s : State, (s.head31 = none)) ∧
    (∃ s : State, ∃ f : Frame, ((s.head31 = some f) ∧ (f.kind ≠ .fabric) ∧ (f.kind ≠ .message))) ∧
    (∃ s : State, (let calm := s.fab.waiting = [] ∧ ∀ w ∈ s.fab.writes, w.sent = true; (let behind (d : Nat) := s.msgInside d = true ∨ ∃ w ∈ s.fab.writes, w.target = d ∧ w.ord < s.fab.ord; ∃ f : Frame, ∃ h : FabHdr, ((s.head31 = some f) ∧ (f.kind = .message) ∧ (f.fab = some h) ∧ (calm) ∧ (behind h.dst))))) ∧
    (∃ s : State, (let calm := s.fab.waiting = [] ∧ ∀ w ∈ s.fab.writes, w.sent = true; (let behind (d : Nat) := s.msgInside d = true ∨ ∃ w ∈ s.fab.writes, w.target = d ∧ w.ord < s.fab.ord; ∃ f : Frame, ∃ h : FabHdr, ((s.head31 = some f) ∧ (f.kind = .message) ∧ (f.fab = some h) ∧ (calm) ∧ (¬ behind h.dst))))) ∧
    (∃ s : State, ∃ f : Frame, ((s.head31 = some f) ∧ (f.kind = .message) ∧ (f.fab = none))) ∧
    (∃ s : State, ∃ f : Frame, ∃ h : FabHdr, ((s.head31 = some f) ∧ (f.kind = .fabric) ∧ (f.fab = some h) ∧ (h.type < 7))) ∧
    (∃ s : State, ∃ f : Frame, ∃ h : FabHdr, ((s.head31 = some f) ∧ (f.kind = .fabric) ∧ (f.fab = some h)) ∧ (let newer := epochNewer h.epoch s.fabEpoch; (7 ≤ h.type) ∧ (newer = true))) ∧
    (∃ s : State, ∃ f : Frame, ∃ h : FabHdr, ((s.head31 = some f) ∧ (f.kind = .fabric) ∧ (f.fab = some h)) ∧ (let newer := epochNewer h.epoch s.fabEpoch; ((7 ≤ h.type) ∧ (newer = false) ∧ (h.epoch ≠ s.fabEpoch)))) ∧
    (∃ s : State, ∃ f : Frame, ∃ h : FabHdr, ((s.head31 = some f) ∧ (f.kind = .fabric) ∧ (f.fab = some h)) ∧ (let newer := epochNewer h.epoch s.fabEpoch; (let mine := s.addressed = true ∧ h.dst = s.fabAddr; ((7 ≤ h.type) ∧ (newer = false) ∧ (h.epoch = s.fabEpoch) ∧ (mine))))) ∧
    (∃ s : State, ∃ f : Frame, ∃ h : FabHdr, ((s.head31 = some f) ∧ (f.kind = .fabric) ∧ (f.fab = some h)) ∧ (let newer := epochNewer h.epoch s.fabEpoch; (let mine := s.addressed = true ∧ h.dst = s.fabAddr; ((7 ≤ h.type) ∧ (newer = false) ∧ (h.epoch = s.fabEpoch) ∧ (¬ mine) ∧ (h.hop ≠ 0))))) ∧
    (∃ s : State, ∃ f : Frame, ∃ h : FabHdr, ((s.head31 = some f) ∧ (f.kind = .fabric) ∧ (f.fab = some h)) ∧ (let newer := epochNewer h.epoch s.fabEpoch; (let mine := s.addressed = true ∧ h.dst = s.fabAddr; ((7 ≤ h.type) ∧ (newer = false) ∧ (h.epoch = s.fabEpoch) ∧ (¬ mine) ∧ (h.hop = 0))))) ∧
    (∃ s : State, ∃ x : Nat × Frame, ∃ rest : List (Nat × Frame), (s.fab.held = x :: rest)) ∧
    (∃ s : State, (s.fab.held = [])) ∧
    (∃ s : State, ∃ f : Frame, ∃ h : FabHdr, ∃ u : State, (s.mine31 10 = some (f, h, u))) ∧
    (∃ s : State, (s.mine31 10 = none)) ∧
    (∃ s : State, (let calm := s.fab.waiting = [] ∧ ∀ w ∈ s.fab.writes, w.sent = true; (let behind (d : Nat) := s.msgInside d = true ∨ ∃ w ∈ s.fab.writes, w.target = d ∧ w.ord < s.fab.ord; ∃ m : Master, ∃ v : Word, (s.writable m FAB_SIG_SEND) ∧ (calm) ∧ (let dst := FAB_SIG_SEND_dst.get v; (behind dst))))) ∧
    (∃ s : State, (let calm := s.fab.waiting = [] ∧ ∀ w ∈ s.fab.writes, w.sent = true; (let behind (d : Nat) := s.msgInside d = true ∨ ∃ w ∈ s.fab.writes, w.target = d ∧ w.ord < s.fab.ord; ∃ m : Master, ∃ v : Word, (s.writable m FAB_SIG_SEND) ∧ (calm) ∧ (let dst := FAB_SIG_SEND_dst.get v; (¬ behind dst))))) ∧
    (∃ s : State, ∃ m : Master, ∃ v : Word, (s.writable m FAB_CTL)) := by
  exact ⟨⟨on, by decide +kernel⟩,
    ⟨{ (on) with sw := { (on).sw with staged := [(31, [fr])] } }, fr, by decide +kernel⟩,
    ⟨{ (on) with sw := { (on).sw with staged := [(31, [{ input := 7, kind := .message, data := List.replicate 32 0, fab := some { type := 7, dst := 9 } }])], frames := [] }, fab := { on.fab with writes := [{ tag := 1, target := 9, addr := 0, data := [], wseq := 0, aperture := false, ord := 1, sent := true }], ord := 3 } }, { input := 7, kind := .message, data := List.replicate 32 0, fab := some { type := 7, dst := 9 } }, { type := 7, dst := 9 }, by decide +kernel⟩,
    ⟨{ (on) with sw := { (on).sw with staged := [(31, [{ input := 7, kind := .message, data := List.replicate 32 0, fab := some { type := 7, dst := 9 } }])], frames := [] }, fab := { on.fab with ord := 3 } }, { input := 7, kind := .message, data := List.replicate 32 0, fab := some { type := 7, dst := 9 } }, { type := 7, dst := 9 }, by decide +kernel⟩,
    ⟨{ (on) with sw := { (on).sw with staged := [(31, [{ input := 7, kind := .message, data := [] }])], frames := [] }, fab := { on.fab with ord := 3 } }, { input := 7, kind := .message, data := [] }, by decide +kernel⟩,
    ⟨{ (on) with sw := { (on).sw with staged := [(31, [{ input := 7, kind := .fabric, data := List.replicate 32 0, fab := some { type := 6 } }])] } }, { input := 7, kind := .fabric, data := List.replicate 32 0, fab := some { type := 6 } }, { type := 6 }, by decide +kernel⟩,
    ⟨{ (on) with sw := { (on).sw with staged := [(31, [{ input := 7, kind := .fabric, data := List.replicate 32 0, fab := some { type := 10, epoch := 1 } }])] } }, { input := 7, kind := .fabric, data := List.replicate 32 0, fab := some { type := 10, epoch := 1 } }, { type := 10, epoch := 1 }, by decide +kernel⟩,
    ⟨{ (on) with sw := { (on).sw with staged := [(31, [{ input := 7, kind := .fabric, data := List.replicate 32 0, fab := some { type := 10, epoch := 40000 } }])] } }, { input := 7, kind := .fabric, data := List.replicate 32 0, fab := some { type := 10, epoch := 40000 } }, { type := 10, epoch := 40000 }, by decide +kernel⟩,
    ⟨{ (((on).setFld (FAB_STATUS) FAB_STATUS_addressed (1)).setFld (FAB_STATUS) FAB_STATUS_addr (5)) with sw := { (((on).setFld (FAB_STATUS) FAB_STATUS_addressed (1)).setFld (FAB_STATUS) FAB_STATUS_addr (5)).sw with staged := [(31, [{ input := 7, kind := .fabric, data := List.replicate 32 0, fab := some { type := 12, dst := 5 } }])] } }, { input := 7, kind := .fabric, data := List.replicate 32 0, fab := some { type := 12, dst := 5 } }, { type := 12, dst := 5 }, by decide +kernel⟩,
    ⟨{ (on) with sw := { (on).sw with staged := [(31, [{ input := 7, kind := .fabric, data := List.replicate 32 0, fab := some { type := 10, dst := 9, hop := 15 } }])] } }, { input := 7, kind := .fabric, data := List.replicate 32 0, fab := some { type := 10, dst := 9, hop := 15 } }, { type := 10, dst := 9, hop := 15 }, by decide +kernel⟩,
    ⟨{ (on) with sw := { (on).sw with staged := [(31, [{ input := 7, kind := .fabric, data := List.replicate 32 0, fab := some { type := 10, dst := 9, hop := 0 } }])] } }, { input := 7, kind := .fabric, data := List.replicate 32 0, fab := some { type := 10, dst := 9, hop := 0 } }, { type := 10, dst := 9, hop := 0 }, by decide +kernel⟩,
    ⟨{ on with fab := { on.fab with held := [(0, fr)] } }, ((0, fr)), [], by decide +kernel⟩,
    ⟨on, by decide +kernel⟩,
    ⟨{ (((on).setFld (FAB_STATUS) FAB_STATUS_addressed (1)).setFld (FAB_STATUS) FAB_STATUS_addr (5)) with sw := { (((on).setFld (FAB_STATUS) FAB_STATUS_addressed (1)).setFld (FAB_STATUS) FAB_STATUS_addr (5)).sw with staged := [(31, [{ input := 7, kind := .fabric, data := [0, 0, 0, 9], fab := some { type := 10, dst := 5, src := 3 } }])] } }, { input := 7, kind := .fabric, data := [0, 0, 0, 9], fab := some { type := 10, dst := 5, src := 3 } }, { type := 10, dst := 5, src := 3 }, (({ (((on).setFld (FAB_STATUS) FAB_STATUS_addressed (1)).setFld (FAB_STATUS) FAB_STATUS_addr (5)) with sw := { (((on).setFld (FAB_STATUS) FAB_STATUS_addressed (1)).setFld (FAB_STATUS) FAB_STATUS_addr (5)).sw with staged := [(31, [{ input := 7, kind := .fabric, data := [0, 0, 0, 9], fab := some { type := 10, dst := 5, src := 3 } }])] } }).pop31), rfl⟩,
    ⟨on, by decide +kernel⟩,
    ⟨{ on with fab := { on.fab with writes := [{ tag := 1, target := 9, addr := 0, data := [], wseq := 0, aperture := false, ord := 1, sent := true }], ord := 3 } }, .warden, 9, by decide +kernel⟩,
    ⟨on, .warden, 9, by decide +kernel⟩,
    ⟨on, .warden, 1, by decide +kernel⟩⟩

theorem witness_FrameReception :
    (∃ s : State, ∃ p : Fin 28, (s.csg.owed = []) ∧ ∃ bytes : List Byte, ∃ phyErr : Bool, (s.running = false ∨ s.linkUp p = false ∨ s.loopback p = true)) ∧
    (∃ s : State, ∃ p : Fin 28, (s.csg.owed = []) ∧ ∃ bytes : List Byte, ∃ phyErr : Bool, ((s.running = true) ∧ (s.linkUp p = true) ∧ (s.loopback p = false) ∧ ((s.port p).rx = none)) ∧ (let e := s.rxErrors p bytes phyErr; (let bad := e ≠ 0 ∧ (bytes.length < 18 ∨ s.cutAt p = false); (let passBad := s.fld (ETH_MAC_CFG p) ETH_MAC_CFG_pass_bad = 1 ∧ s.dev.state = .full ∧ 18 ≤ bytes.length; (bad) ∧ (¬ passBad))))) ∧
    (∃ s : State, ∃ p : Fin 28, (s.csg.owed = []) ∧ ∃ bytes : List Byte, ∃ phyErr : Bool, ((s.running = true) ∧ (s.linkUp p = true) ∧ (s.loopback p = false) ∧ ((s.port p).rx = none)) ∧ (let e := s.rxErrors p bytes phyErr; (let bad := e ≠ 0 ∧ (bytes.length < 18 ∨ s.cutAt p = false); (let passBad := s.fld (ETH_MAC_CFG p) ETH_MAC_CFG_pass_bad = 1 ∧ s.dev.state = .full ∧ 18 ≤ bytes.length; ((bad) ∧ (passBad) ∧ (s.fld (TBL_PORT_CFG p) TBL_PORT_CFG_learn_en = 0) ∧ ((s.pol (s.defClass p).policer).en = false)) ∧ (let o := if s.fld (ETH_MAC_CFG p) ETH_MAC_CFG_bad_dest = 1 then 29 else 28; (s.roomFor p o 0 2)))))) ∧
    (∃ s : State, ∃ p : Fin 28, (s.csg.owed = []) ∧ ∃ bytes : List Byte, ∃ phyErr : Bool, ((s.running = true) ∧ (s.linkUp p = true) ∧ (s.loopback p = false) ∧ ((s.port p).rx = none)) ∧ (let e := s.rxErrors p bytes phyErr; (let data := bytes.take (bytes.length - 4); ((e = 0) ∧ (s.traps p data = true) ∧ (s.roomFor p 29 6 0))))) ∧
    (∃ s : State, ∃ p : Fin 28, (s.csg.owed = []) ∧ ∃ bytes : List Byte, ∃ phyErr : Bool, ((s.running = true) ∧ (s.linkUp p = true) ∧ (s.loopback p = false) ∧ ((s.port p).rx = none)) ∧ (let e := s.rxErrors p bytes phyErr; (let data := bytes.take (bytes.length - 4); ((e = 0) ∧ (s.traps p data = false) ∧ (20 ≤ p.val ∨ s.fld (ETH_SEC_CFG p) ETH_SEC_CFG_rx_en = 0) ∧ (linkLocal data = true))))) ∧
    (∃ s : State, ∃ p : Fin 28, (s.csg.owed = []) ∧ ∃ bytes : List Byte, ∃ phyErr : Bool, ((s.running = true) ∧ (s.linkUp p = true) ∧ (s.loopback p = false) ∧ ((s.port p).rx = none)) ∧ (let e := s.rxErrors p bytes phyErr; (let data := bytes.take (bytes.length - 4); ((e = 0) ∧ (s.traps p data = false) ∧ (20 ≤ p.val ∨ s.fld (ETH_SEC_CFG p) ETH_SEC_CFG_rx_en = 0) ∧ (linkLocal data = false) ∧ (s.groupAccepted p data = false))))) ∧
    (∃ s : State, ∃ p : Fin 28, (s.csg.owed = []) ∧ ∃ bytes : List Byte, ∃ phyErr : Bool, ((s.running = true) ∧ (s.linkUp p = true) ∧ (s.loopback p = false) ∧ ((s.port p).rx = none)) ∧ (let e := s.rxErrors p bytes phyErr; (let data := bytes.take (bytes.length - 4); ((e = 0) ∧ (s.traps p data = false) ∧ (20 ≤ p.val ∨ s.fld (ETH_SEC_CFG p) ETH_SEC_CFG_rx_en = 0) ∧ (linkLocal data = false) ∧ (s.groupAccepted p data = true) ∧ (beNat (slice 12 2 data) ≠ 0x88B5) ∧ ((∀ k ∈ streamKeys data, s.trieLookup k.2 k.1 = none)) ∧ (s.coldOnly = true))))) ∧
    (∃ s : State, ∃ p : Fin 28, (s.csg.owed = []) ∧ ((s.port p).rx = none)) ∧
    (∃ s : State, ∃ p : Fin 28, (s.csg.owed = []) ∧ ∃ x : RxFrame, (((s.port p).rx = some x) ∧ (x.policer = none) ∧ (s.receiving p = []))) ∧
    (∃ s : State, ∃ p : Fin 28, (s.csg.owed = []) ∧ ∃ x : RxFrame, ((s.port p).rx = some x) ∧ (x.policer = none) ∧ ∃ f : Frame, ((s.receiving p = [f]) ∧ (s.frame f.id = some f) ∧ (s.tooManyCells f = false) ∧ (x.late = 0))) ∧
    (∃ s : State, ∃ p : Fin 28, (s.csg.owed = []) ∧ ∃ x : RxFrame, ((s.port p).rx = some x) ∧ (x.policer = none) ∧ ∃ f : Frame, ((s.receiving p = [f]) ∧ (s.frame f.id = some f) ∧ (f.residue ≠ []) ∧ (f.begun = []) ∧ (s.tooManyCells f = true ∨ x.late ≠ 0))) := by
  exact ⟨⟨on, 27, by decide +kernel, (List.replicate 64 0), true, by decide +kernel⟩,
    ⟨(({ on with dev := { on.dev with state := .full } }).setFld (ETH_PHY_STATUS 27) ETH_PHY_STATUS_link (1)), 27, by decide +kernel, (List.replicate 64 0), true, by decide +kernel⟩,
    ⟨((((((((((({ on with dev := { on.dev with state := .full } }).setFld (ETH_PHY_STATUS 27) ETH_PHY_STATUS_link (1)).wr SYS_POLDER 4095).wr (SWC_BERM_LO 6) 0x40404040).wr (SWC_BERM_HI 6) 0x40404040).wr (SWC_PORT_CFG 27) 0x31).wr (SWC_PORT_CFG 28) 0x31).wr (SWC_PORT_CFG 29) 0x31)).setFld (ETH_MAC_CFG 27) ETH_MAC_CFG_pass_bad 1).setFld (TBL_PORT_CFG 27) TBL_PORT_CFG_learn_en 0), 27, by decide +kernel, (List.replicate 64 7), true, by decide +kernel⟩,
    ⟨(((((((((({ on with dev := { on.dev with state := .full } }).setFld (ETH_PHY_STATUS 27) ETH_PHY_STATUS_link (1)).wr SYS_POLDER 4095).wr (SWC_BERM_LO 6) 0x40404040).wr (SWC_BERM_HI 6) 0x40404040).wr (SWC_PORT_CFG 27) 0x31).wr (SWC_PORT_CFG 28) 0x31).wr (SWC_PORT_CFG 29) 0x31)).setFld (ETH_MAC_CFG 27) ETH_MAC_CFG_gptp_en 1), 27, by decide +kernel, (((beBytes 6 0x0180C200000E ++ beBytes 6 5 ++ beBytes 2 0x88F7 ++ List.replicate 46 0) ++ fcsBytes (beBytes 6 0x0180C200000E ++ beBytes 6 5 ++ beBytes 2 0x88F7 ++ List.replicate 46 0))), false, by decide +kernel⟩,
    ⟨((({ on with dev := { on.dev with state := .full } }).setFld (ETH_PHY_STATUS 27) ETH_PHY_STATUS_link (1)).setFld (ETH_MAC_CFG 27) ETH_MAC_CFG_gptp_en 0), 27, by decide +kernel, (((beBytes 6 0x0180C200000E ++ beBytes 6 5 ++ beBytes 2 0x88F7 ++ List.replicate 46 0) ++ fcsBytes (beBytes 6 0x0180C200000E ++ beBytes 6 5 ++ beBytes 2 0x88F7 ++ List.replicate 46 0))), false, by decide +kernel⟩,
    ⟨((({ on with dev := { on.dev with state := .full } }).setFld (ETH_PHY_STATUS 27) ETH_PHY_STATUS_link (1)).setFld (ETH_MAC_CFG 27) ETH_MAC_CFG_bcast_en 0), 27, by decide +kernel, (((beBytes 6 0xFFFFFFFFFFFF ++ beBytes 6 5 ++ beBytes 2 0x0800 ++ List.replicate 46 0) ++ fcsBytes (beBytes 6 0xFFFFFFFFFFFF ++ beBytes 6 5 ++ beBytes 2 0x0800 ++ List.replicate 46 0))), false, by decide +kernel⟩,
    ⟨(({ on with dev := { on.dev with state := .cold } }).setFld (ETH_PHY_STATUS 27) ETH_PHY_STATUS_link (1)), 27, by decide +kernel, (((beBytes 6 0x020000000000 ++ beBytes 6 5 ++ beBytes 2 0x0800 ++ List.replicate 46 0) ++ fcsBytes (beBytes 6 0x020000000000 ++ beBytes 6 5 ++ beBytes 2 0x0800 ++ List.replicate 46 0))), false, by decide +kernel⟩,
    ⟨on, 27, by decide +kernel⟩,
    ⟨(((({ on with dev := { on.dev with state := .full } }).setFld (ETH_PHY_STATUS 27) ETH_PHY_STATUS_link (1)).setPort 27 { rx := some { bytes := 64, late := 0, passed := true, policer := none } })), 27, by decide +kernel, { bytes := 64, late := 0, passed := true, policer := none }, by decide +kernel⟩,
    ⟨{ (((({ on with dev := { on.dev with state := .full } }).setFld (ETH_PHY_STATUS 27) ETH_PHY_STATUS_link (1)).setPort 27 { rx := some { bytes := 64, late := 0, passed := true, policer := none } })) with sw := { (((({ on with dev := { on.dev with state := .full } }).setFld (ETH_PHY_STATUS 27) ETH_PHY_STATUS_link (1)).setPort 27 { rx := some { bytes := 64, late := 0, passed := true, policer := none } })).sw with frames := [{ input := 27, id := 7, data := List.replicate 60 0, bank := 6, residue := [28], dest := [28], tc := 3, cells := 6, berm := some (qIndex 27 28 3) }], queues := [(qIndex 27 28 3, [7])] } }, 27, by decide +kernel, { bytes := 64, late := 0, passed := true, policer := none }, by decide +kernel, by decide +kernel, { input := 27, id := 7, data := List.replicate 60 0, bank := 6, residue := [28], dest := [28], tc := 3, cells := 6, berm := some (qIndex 27 28 3) }, by decide +kernel⟩,
    ⟨{ (((({ on with dev := { on.dev with state := .full } }).setFld (ETH_PHY_STATUS 27) ETH_PHY_STATUS_link (1)).setPort 27 { rx := some { bytes := 64, late := 1, passed := true, policer := none } })) with sw := { (((({ on with dev := { on.dev with state := .full } }).setFld (ETH_PHY_STATUS 27) ETH_PHY_STATUS_link (1)).setPort 27 { rx := some { bytes := 64, late := 1, passed := true, policer := none } })).sw with frames := [{ input := 27, id := 7, data := List.replicate 60 0, bank := 6, residue := [28], dest := [28], tc := 3, cells := 6, berm := some (qIndex 27 28 3) }], queues := [(qIndex 27 28 3, [7])] } }, 27, by decide +kernel, { bytes := 64, late := 1, passed := true, policer := none }, by decide +kernel, by decide +kernel, { input := 27, id := 7, data := List.replicate 60 0, bank := 6, residue := [28], dest := [28], tc := 3, cells := 6, berm := some (qIndex 27 28 3) }, by decide +kernel⟩⟩

theorem witness_MatcherLocks :
    (∃ s : State, ((s.running = true) ∧ ((s.sw.xfers.map (fun x => x.input)).Nodup) ∧ ((s.sw.xfers.map (fun x => x.output)).Nodup))) ∧
    (∃ s : State, ∃ i : Fin 32, ∃ o : Fin 32, ∃ tc : Fin 8, ∃ f : Frame, ((s.running = true) ∧ (s.csg.owed = []) ∧ (s.sw.xfers = []) ∧ (s.sw.queues = [(qIndex i o tc, [f.id])]) ∧ (s.frame f.id = some f) ∧ (f.input = i.val) ∧ (f.tc = tc.val) ∧ (s.eligible (qIndex i o tc) = true))) ∧
    (∃ s : State, (s.running = false) ∧ (s.csg.owed = [])) := by
  exact ⟨⟨{ (on) with sw := { (on).sw with xfers := [{ input := 3, output := 4, tc := 7, id := 1 }] } }, by decide +kernel⟩,
    ⟨{ ((((((((({ on with dev := { on.dev with state := .full } }).setFld (ETH_PHY_STATUS 27) ETH_PHY_STATUS_link (1)).wr SYS_POLDER 4095).wr (SWC_BERM_LO 6) 0x40404040).wr (SWC_BERM_HI 6) 0x40404040).wr (SWC_PORT_CFG 27) 0x31).wr (SWC_PORT_CFG 28) 0x31).wr (SWC_PORT_CFG 29) 0x31)) with sw := { ((((((((({ on with dev := { on.dev with state := .full } }).setFld (ETH_PHY_STATUS 27) ETH_PHY_STATUS_link (1)).wr SYS_POLDER 4095).wr (SWC_BERM_LO 6) 0x40404040).wr (SWC_BERM_HI 6) 0x40404040).wr (SWC_PORT_CFG 27) 0x31).wr (SWC_PORT_CFG 28) 0x31).wr (SWC_PORT_CFG 29) 0x31)).sw with frames := [{ input := 27, id := 7, data := List.replicate 60 0, bank := 6, residue := [28], dest := [28], tc := 3, cells := 1, complete := true, berm := some (qIndex 27 28 3) }], queues := [(qIndex 27 28 3, [7])] } }, 27, 28, 3, { input := 27, id := 7, data := List.replicate 60 0, bank := 6, residue := [28], dest := [28], tc := 3, cells := 1, complete := true, berm := some (qIndex 27 28 3) }, by decide +kernel⟩,
    ⟨{ on with dev := { on.dev with state := .bankOnly } }, by decide +kernel⟩⟩

theorem witness_Transfers :
    (∃ s : State, (s.csg.owed = []) ∧ ∃ i : Fin 32, (s.sw.xfers.find? (fun y => y.input == i.val) = none)) ∧
    (∃ s : State, (s.csg.owed = []) ∧ ∃ i : Fin 32, ∃ x : Xfer, ∃ f : Frame, ((s.sw.xfers.find? (fun y => y.input == i.val) = some x) ∧ (s.frame x.id = some f) ∧ (f.complete = false))) ∧
    (∃ s : State, (s.csg.owed = []) ∧ ∃ i : Fin 32, ∃ x : Xfer, ∃ f : Frame, ((s.sw.xfers.find? (fun y => y.input == i.val) = some x) ∧ (s.frame x.id = some f) ∧ (f.complete = true) ∧ (x.tx = none))) ∧
    (∃ s : State, (s.csg.owed = []) ∧ ∃ o : Fin 28, ∃ cells : Fin 37, (s.linkUp o = false)) ∧
    (∃ s : State, (s.csg.owed = []) ∧ ∃ o : Fin 28, ∃ cells : Fin 37, (let plain := fun f : Frame => s.fabLink o = false ∧ f.kind = .eth ∧ (s.tideOf o).oper = none ∧ s.loopback o = false ∧ s.protects f o = false; ∃ f : Frame, ∃ rest : List Frame, ((s.linkUp o = true) ∧ (s.stagedAt o = f :: rest) ∧ (plain f)))) ∧
    (∃ s : State, (s.csg.owed = []) ∧ ∃ o : Fin 28, ∃ cells : Fin 37, ∃ x : Xfer, ∃ f : Frame, ((s.linkUp o = true) ∧ (s.stagedAt o = []) ∧ (s.sw.xfers.find? (fun y => y.output == o.val && y.tx.isNone) = some x) ∧ (s.frame x.id = some f) ∧ (cells.val < min (s.txStart o) (cellsOf f.data.length)))) ∧
    (∃ s : State, (s.csg.owed = []) ∧ ∃ o : Fin 28, ∃ cells : Fin 37, (let plain := fun f : Frame => s.fabLink o = false ∧ f.kind = .eth ∧ (s.tideOf o).oper = none ∧ s.loopback o = false ∧ s.protects f o = false; ∃ x : Xfer, ∃ f : Frame, ((s.linkUp o = true) ∧ (s.stagedAt o = []) ∧ (s.sw.xfers.find? (fun y => y.output == o.val && y.tx.isNone) = some x) ∧ (s.frame x.id = some f) ∧ (min (s.txStart o) (cellsOf f.data.length) ≤ cells.val) ∧ (plain f) ∧ (f.txTag = none)))) ∧
    (∃ s : State, (s.csg.owed = [])) ∧
    (∃ s : State, (s.csg.owed = [])) ∧
    (∃ s : State, (s.csg.owed = []) ∧ ∃ o : Fin 28, ∃ cells : Fin 37, (s.stagedAt o = []) ∧ (s.sw.xfers.find? (fun y => y.output == o.val && y.tx.isNone) = none)) ∧
    (∃ s : State, (s.csg.owed = []) ∧ ∃ o : Fin 28, (s.sw.xfers.find? (fun y => y.output == o.val && y.tx.any (fun z => z.bytes.isSome)) = none)) ∧
    (∃ s : State, (s.csg.owed = []) ∧ ∃ o : Fin 28, ∃ x : Xfer, ∃ f : Frame, ((s.sw.xfers.find? (fun y => y.output == o.val && y.tx.any (fun z => z.bytes.isSome)) = some x) ∧ (s.sw.xfers.filter (fun y => y.id == x.id && y.output == o.val) = [x]) ∧ (s.frame x.id = some f) ∧ (f.canEntry = none))) ∧
    (∃ s : State, (s.csg.owed = []) ∧ ∃ id : Nat, (s.frame id = none)) ∧
    (∃ s : State, (s.csg.owed = []) ∧ ∃ id : Nat, ∃ f : Frame, (s.frame id = some f) ∧ (f.native = false ∨ f.complete = false)) ∧
    (∃ s : State, (s.csg.owed = []) ∧ ∃ id : Nat, ∃ f : Frame, ((s.frame id = some f) ∧ (f.native = true) ∧ (f.complete = true) ∧ (f.handle = none) ∧ (f.residue ≠ []))) := by
  exact ⟨⟨on, by decide +kernel, 31, by decide +kernel⟩,
    ⟨{ (({ on with dev := { on.dev with state := .full } }).setFld (ETH_PHY_STATUS 27) ETH_PHY_STATUS_link (1)) with sw := { (({ on with dev := { on.dev with state := .full } }).setFld (ETH_PHY_STATUS 27) ETH_PHY_STATUS_link (1)).sw with frames := [{ input := 31, id := 9, data := List.replicate 60 0, cells := 1, complete := false, residue := [27], begun := [27] }], xfers := [{ input := 31, output := 27, tc := 7, id := 9 }], queues := [(qIndex 31 27 0, [9])] } }, by decide +kernel, 31, { input := 31, output := 27, tc := 7, id := 9 }, { input := 31, id := 9, data := List.replicate 60 0, cells := 1, complete := false, residue := [27], begun := [27] }, by decide +kernel⟩,
    ⟨{ (({ on with dev := { on.dev with state := .full } }).setFld (ETH_PHY_STATUS 27) ETH_PHY_STATUS_link (1)) with sw := { (({ on with dev := { on.dev with state := .full } }).setFld (ETH_PHY_STATUS 27) ETH_PHY_STATUS_link (1)).sw with frames := [{ input := 31, id := 9, data := List.replicate 60 0, cells := 1, complete := true, residue := [27], begun := [27] }], xfers := [{ input := 31, output := 27, tc := 7, id := 9 }], queues := [(qIndex 31 27 0, [9])] } }, by decide +kernel, 31, { input := 31, output := 27, tc := 7, id := 9 }, { input := 31, id := 9, data := List.replicate 60 0, cells := 1, complete := true, residue := [27], begun := [27] }, by decide +kernel⟩,
    ⟨on, by decide +kernel, 27, 0, by decide +kernel⟩,
    ⟨{ (({ on with dev := { on.dev with state := .full } }).setFld (ETH_PHY_STATUS 27) ETH_PHY_STATUS_link (1)) with sw := { (({ on with dev := { on.dev with state := .full } }).setFld (ETH_PHY_STATUS 27) ETH_PHY_STATUS_link (1)).sw with staged := [(27, [{ input := 31, id := 9, data := List.replicate 40 3, cells := 1, complete := true, txTag := none }])] } }, by decide +kernel, 27, 0, { input := 31, id := 9, data := List.replicate 40 3, cells := 1, complete := true, txTag := none }, [], by decide +kernel⟩,
    ⟨{ (({ on with dev := { on.dev with state := .full } }).setFld (ETH_PHY_STATUS 27) ETH_PHY_STATUS_link (1)) with sw := { (({ on with dev := { on.dev with state := .full } }).setFld (ETH_PHY_STATUS 27) ETH_PHY_STATUS_link (1)).sw with frames := [{ input := 31, id := 9, data := List.replicate 60 0, cells := 1, complete := true, residue := [27], begun := [27] }], xfers := [{ input := 31, output := 27, tc := 7, id := 9 }], queues := [(qIndex 31 27 0, [9])] } }, by decide +kernel, 27, 0, { input := 31, output := 27, tc := 7, id := 9 }, { input := 31, id := 9, data := List.replicate 60 0, cells := 1, complete := true, residue := [27], begun := [27] }, by decide +kernel⟩,
    ⟨{ (({ on with dev := { on.dev with state := .full } }).setFld (ETH_PHY_STATUS 27) ETH_PHY_STATUS_link (1)) with sw := { (({ on with dev := { on.dev with state := .full } }).setFld (ETH_PHY_STATUS 27) ETH_PHY_STATUS_link (1)).sw with frames := [{ input := 31, id := 9, data := List.replicate 60 0, cells := 1, complete := true, residue := [27], begun := [27] }], xfers := [{ input := 31, output := 27, tc := 7, id := 9 }], queues := [(qIndex 31 27 0, [9])] } }, by decide +kernel, 27, 1, { input := 31, output := 27, tc := 7, id := 9 }, { input := 31, id := 9, data := List.replicate 60 0, cells := 1, complete := true, residue := [27], begun := [27] }, by decide +kernel⟩,
    ⟨on, by decide +kernel⟩,
    ⟨{ on with elapsed := 50, sw := { on.sw with onAir := [(27, { tc := 3, ends := 500, closed := true })] } }, by decide +kernel⟩,
    ⟨on, by decide +kernel, 27, 0, by decide +kernel⟩,
    ⟨on, by decide +kernel, 27, by decide +kernel⟩,
    ⟨{ (({ on with dev := { on.dev with state := .full } }).setFld (ETH_PHY_STATUS 27) ETH_PHY_STATUS_link (1)) with sw := { (({ on with dev := { on.dev with state := .full } }).setFld (ETH_PHY_STATUS 27) ETH_PHY_STATUS_link (1)).sw with frames := [{ input := 31, id := 9, data := List.replicate 60 0, cells := 1, complete := true, residue := [27], begun := [27] }], xfers := [{ input := 31, output := 27, tc := 7, id := 9, tx := some { bytes := some [1, 2] } }], queues := [(qIndex 31 27 0, [9])] } }, by decide +kernel, 27, { input := 31, output := 27, tc := 7, id := 9, tx := some { bytes := some [1, 2] } }, { input := 31, id := 9, data := List.replicate 60 0, cells := 1, complete := true, residue := [27], begun := [27] }, by decide +kernel⟩,
    ⟨on, by decide +kernel, 9, by decide +kernel⟩,
    ⟨{ (on) with sw := { (on).sw with frames := [{ input := 31, id := 9, data := List.replicate 60 0, cells := 1, complete := true, residue := [27], begun := [27] }] } }, by decide +kernel, 9, { input := 31, id := 9, data := List.replicate 60 0, cells := 1, complete := true, residue := [27], begun := [27] }, by decide +kernel⟩,
    ⟨{ (on) with sw := { (on).sw with frames := [{ input := 3, id := 9, data := List.replicate 60 0, cells := 1, complete := true, native := (true), residue := [4], begun := [5] }] } }, by decide +kernel, 9, { input := 3, id := 9, data := List.replicate 60 0, cells := 1, complete := true, native := (true), residue := [4], begun := [5] }, by decide +kernel⟩⟩

theorem witness_SpillAndLearning :
    (∃ s : State, ∃ b : Fin 8, (s.spilling b = true) ∧ (s.fld (SWC_BANK_SPILL b) SWC_BANK_SPILL_no_target = 1)) ∧
    (∃ s : State, ∃ b : Fin 8, (s.spilling b = false ∨ s.fld (SWC_BANK_SPILL b) SWC_BANK_SPILL_no_target = 0)) ∧
    (∃ s : State, (s.tbl.learn = [])) ∧
    (∃ s : State, ∃ r : LearnReq, ∃ rest : List LearnReq, (s.tbl.learn = r :: rest) ∧ ∃ e : Nat, (s.macFind r.mac r.vid = some e)) ∧
    (∃ s : State, ∃ r : LearnReq, ∃ rest : List LearnReq, (s.tbl.learn = r :: rest) ∧ (let bucket := 8 * macBucket r.mac r.vid; ∃ e : Nat, (s.macFind r.mac r.vid = none) ∧ (findFrom (fun k => (s.macEntry k).kind == 0) 8 bucket = some e))) ∧
    (∃ s : State, ∃ r : LearnReq, ∃ rest : List LearnReq, (s.tbl.learn = r :: rest) ∧ (let bucket := 8 * macBucket r.mac r.vid; (s.macFind r.mac r.vid = none) ∧ ((∀ k < 8, 2 ≤ (s.macEntry (bucket + k)).kind)))) ∧
    (∃ s : State, ∃ changed : List Nat, (s.sweeping = false) ∧ (s.fld TBL_CTL TBL_CTL_age_en = 0)) ∧
    (∃ s : State, ∃ changed : List Nat, (s.sweeping = true ∨ s.fld TBL_CTL TBL_CTL_age_en = 1)) ∧
    (∃ s : State, ∃ m : Master, ∃ v : Word, (s.writable m TBL_CTL)) := by
  exact ⟨⟨(((on).setFld (SWC_BANK_SPILL 7) SWC_BANK_SPILL_no_target (1)).setFld (SWC_BANK_SPILL 7) SWC_BANK_SPILL_spilling (1)), 7, by decide +kernel⟩,
    ⟨on, 7, by decide +kernel⟩,
    ⟨on, by decide +kernel⟩,
    ⟨(({ on with tbl := { on.tbl with learn := [{ mac := 2 ^ 48 - 1, vid := 4094, port := 27 }] } }).setMac ((8 * macBucket (2 ^ 48 - 1) 4094) + 3) { mac := 2 ^ 48 - 1, vid := 4094, kind := 1, hit := false, seenClear := false, dest := 5, stamp := 3 }), { mac := 2 ^ 48 - 1, vid := 4094, port := 27 }, [], by decide +kernel, (((8 * macBucket (2 ^ 48 - 1) 4094) + 3)), by decide +kernel⟩,
    ⟨{ on with tbl := { on.tbl with learn := [{ mac := 2 ^ 48 - 1, vid := 4094, port := 27 }] } }, { mac := 2 ^ 48 - 1, vid := 4094, port := 27 }, [], by decide +kernel, ((8 * macBucket (2 ^ 48 - 1) 4094)), by decide +kernel⟩,
    ⟨((List.range 8).foldl (fun (t : State) k => t.setMac ((8 * macBucket (2 ^ 48 - 1) 4094) + k) { mac := k, vid := 4094, kind := 2, hit := false, seenClear := false, dest := 5, stamp := 3 }) ({ on with tbl := { on.tbl with learn := [{ mac := 2 ^ 48 - 1, vid := 4094, port := 27 }] } })), { mac := 2 ^ 48 - 1, vid := 4094, port := 27 }, [], by decide +kernel⟩,
    ⟨(on.wr TBL_CTL 0), [], by decide +kernel⟩,
    ⟨((on).setFld (TBL_CTL) TBL_CTL_age_en (1)), [], by decide +kernel⟩,
    ⟨on, .warden, 3, by decide +kernel⟩⟩

theorem witness_PortLinks :
    (∃ s : State, ∃ p : Fin 28, (s.linkUp p = true) ∧ (s.csg.owed = [])) ∧
    (∃ s : State, ∃ p : Fin 28, (s.linkUp p = false) ∧ (s.csg.owed = [])) ∧
    (∃ s : State, ∃ p : Fin 28, (s.sw.holding.contains p.val = true) ∧ (s.csg.owed = [])) ∧
    (∃ s : State, ∃ p : Fin 28, (s.sw.holding.contains p.val = false) ∧ (s.csg.owed = [])) ∧
    (∃ s : State, ∃ p : Fin 28, (s.fld (ETH_PHY_STATUS p) ETH_PHY_STATUS_training = 1) ∧ (s.linkUp p = false)) ∧
    (∃ s : State, ∃ p : Fin 28, (s.fld (ETH_PHY_STATUS p) ETH_PHY_STATUS_training = 0 ∨ s.linkUp p = true)) ∧
    (∃ s : State, ∃ p : Fin 28, ∃ m : Master, ∃ v : Word, (s.writable m (ETH_PHY_CFG p)) ∧ (let en := v.toNat.testBit 0 = true ∧ s.phyPolderOn p = true; (¬ en))) ∧
    (∃ s : State, ∃ p : Fin 28, ∃ m : Master, ∃ v : Word, (s.writable m (ETH_PHY_CFG p)) ∧ (let en := v.toNat.testBit 0 = true ∧ s.phyPolderOn p = true; (en) ∧ (s.fld (ETH_PHY_CFG p) ETH_PHY_CFG_en = 0))) := by
  exact ⟨⟨(({ on with dev := { on.dev with state := .full } }).setFld (ETH_PHY_STATUS 27) ETH_PHY_STATUS_link (1)), 27, by decide +kernel⟩,
    ⟨on, 27, by decide +kernel⟩,
    ⟨{ (on) with sw := { (on).sw with holding := [27] } }, 27, by decide +kernel⟩,
    ⟨on, 27, by decide +kernel⟩,
    ⟨((on).setFld (ETH_PHY_STATUS 27) ETH_PHY_STATUS_training (1)), 27, by decide +kernel⟩,
    ⟨on, 27, by decide +kernel⟩,
    ⟨(({ on with dev := { on.dev with state := .full } }).setFld (ETH_PHY_STATUS 27) ETH_PHY_STATUS_link (1)), 27, .warden, 0, by decide +kernel⟩,
    ⟨(on.wr SYS_POLDER 4095), 27, .warden, 0x1F, by decide +kernel⟩⟩

theorem witness_Tc10 :
    (∃ s : State, ∃ p : Fin 28, ∃ m : Master, ∃ v : Word, (s.writable m (ETH_TC10_CFG p)) ∧ (p.val < 8)) ∧
    (∃ s : State, ∃ p : Fin 28, ∃ m : Master, ∃ v : Word, (s.writable m (ETH_TC10_CFG p)) ∧ (p.val < 8)) ∧
    (∃ s : State, ∃ p : Fin 28, ∃ m : Master, ∃ v : Word, ((s.writable m (ETH_TC10_CFG p)) ∧ (8 ≤ p.val) ∧ (v.toNat.testBit 0 = false))) ∧
    (∃ s : State, ∃ p : Fin 28, ∃ m : Master, ∃ v : Word, ((s.writable m (ETH_TC10_CFG p)) ∧ (8 ≤ p.val) ∧ (v.toNat.testBit 0 = false))) ∧
    (∃ s : State, ∃ p : Fin 28, (let st := s.tc10State p; ∃ m : Master, ∃ v : Word, ((s.writable m (ETH_TC10_CFG p)) ∧ (8 ≤ p.val) ∧ (v.toNat.testBit 0 = true) ∧ (v.toNat.testBit 3 = false) ∧ (st = 0) ∧ (s.linkUp p = true)))) ∧
    (∃ s : State, ∃ p : Fin 28, (let st := s.tc10State p; ∃ m : Master, ∃ v : Word, ((s.writable m (ETH_TC10_CFG p)) ∧ (8 ≤ p.val) ∧ (v.toNat.testBit 0 = true) ∧ (v.toNat.testBit 3 = false) ∧ (st ≠ 0 ∨ s.linkUp p = false)))) ∧
    (∃ s : State, ∃ p : Fin 28, ∃ m : Master, ∃ v : Word, ((s.writable m (ETH_TC10_CFG p)) ∧ (8 ≤ p.val) ∧ (v.toNat.testBit 0 = true))) ∧
    (∃ s : State, ∃ p : Fin 28, (let on := s.tc10On p; (let st := s.tc10State p; (on = false ∨ st = 2)))) ∧
    (∃ s : State, ∃ p : Fin 28, (let on := s.tc10On p; (let st := s.tc10State p; ((on = true) ∧ (st ≠ 2) ∧ ((s.fld (ETH_TC10_CFG p) ETH_TC10_CFG_accept_sleep = 0 ∨ s.portEmpty p = false)))))) ∧
    (∃ s : State, ∃ p : Fin 28, (let on := s.tc10On p; (let st := s.tc10State p; ((on = true) ∧ (st ≠ 2) ∧ (s.fld (ETH_TC10_CFG p) ETH_TC10_CFG_accept_sleep = 1) ∧ (s.portEmpty p = true))))) ∧
    (∃ s : State, ∃ p : Fin 28, (let on := s.tc10On p; (let st := s.tc10State p; (on = true) ∧ (st = 1)))) ∧
    (∃ s : State, ∃ p : Fin 28, (let on := s.tc10On p; (let st := s.tc10State p; (on = false ∨ st ≠ 1)))) ∧
    (∃ s : State, ∃ p : Fin 28, (let on := s.tc10On p; (on = true))) ∧
    (∃ s : State, ∃ p : Fin 28, (let on := s.tc10On p; (on = false))) := by
  exact ⟨⟨on, 7, .warden, 0xF, by decide +kernel⟩,
    ⟨on, 7, .warden, 0xF, by decide +kernel⟩,
    ⟨(((on).setFld (ETH_TC10_CFG 27) ETH_TC10_CFG_en (1)).setFld (ETH_PHY_STATUS 27) ETH_PHY_STATUS_link (1)), 27, .warden, 2, by decide +kernel⟩,
    ⟨(((on).setFld (ETH_TC10_CFG 27) ETH_TC10_CFG_en (1)).setFld (ETH_PHY_STATUS 27) ETH_PHY_STATUS_link (1)), 27, .warden, 2, by decide +kernel⟩,
    ⟨(((on).setFld (ETH_TC10_CFG 27) ETH_TC10_CFG_en (1)).setFld (ETH_PHY_STATUS 27) ETH_PHY_STATUS_link (1)), 27, .warden, 7, by decide +kernel⟩,
    ⟨on, 27, .warden, 7, by decide +kernel⟩,
    ⟨(((((on).setFld (ETH_TC10_CFG 27) ETH_TC10_CFG_en (1)).setFld (ETH_PHY_STATUS 27) ETH_PHY_STATUS_link (1)).setFld (ETH_TC10_STATUS 27) ETH_TC10_STATUS_state 2)), 27, .warden, 15, by decide +kernel⟩,
    ⟨on, 27, by decide +kernel⟩,
    ⟨(((on).setFld (ETH_TC10_CFG 27) ETH_TC10_CFG_en (1)).setFld (ETH_PHY_STATUS 27) ETH_PHY_STATUS_link (1)), 27, by decide +kernel⟩,
    ⟨(((on).setFld (ETH_TC10_CFG 27) ETH_TC10_CFG_en (1)).setFld (ETH_TC10_CFG 27) ETH_TC10_CFG_accept_sleep (1)), 27, by decide +kernel⟩,
    ⟨(((((on).setFld (ETH_TC10_CFG 27) ETH_TC10_CFG_en (1)).setFld (ETH_PHY_STATUS 27) ETH_PHY_STATUS_link (1)).setFld (ETH_TC10_STATUS 27) ETH_TC10_STATUS_state 1)), 27, by decide +kernel⟩,
    ⟨on, 27, by decide +kernel⟩,
    ⟨(((on).setFld (ETH_TC10_CFG 27) ETH_TC10_CFG_en (1)).setFld (ETH_PHY_STATUS 27) ETH_PHY_STATUS_link (1)), 27, by decide +kernel⟩,
    ⟨on, 27, by decide +kernel⟩⟩

theorem witness_BermWrites :
    (∃ s : State, ∃ m : Master, ∃ k : Fin 48, ∃ v : Word, (let a := if k.val < 32 then SWC_PORT_CFG k.val else SWC_BERM_LO 0 + 4 * (k.val - 32); (s.writable m a) ∧ ((∃ b < 8, 12288 < (s.wrPlain a v).bermTotal b)))) ∧
    (∃ s : State, ∃ m : Master, ∃ k : Fin 48, ∃ v : Word, (let a := if k.val < 32 then SWC_PORT_CFG k.val else SWC_BERM_LO 0 + 4 * (k.val - 32); (s.writable m a) ∧ ((∀ b < 8, (s.wrPlain a v).bermTotal b ≤ 12288)))) := by
  exact ⟨⟨(((List.range 32).foldl (fun (t : State) i => t.setFld (SWC_PORT_CFG i) SWC_PORT_CFG_en 1) on).wr (SWC_BERM_LO 7) 0x40404040), .warden, 47, 0x40404040, by decide +kernel⟩,
    ⟨on, .warden, 47, 0xFF, by decide +kernel⟩⟩

theorem witness_SecurePorts :
    (∃ s : State, ∃ m : Master, ∃ v : Word, ∃ p : Fin 20, ∃ e : Fin 36, (s.writable m (saAddr p e 0))) ∧
    (∃ s : State, ∃ m : Master, ∃ v : Word, ∃ p : Fin 20, (s.writable m (ETH_SEC_CFG p))) ∧
    (∃ s : State, ∃ m : Master, ∃ v : Word, ∃ p : Fin 28, (s.writable m (ETH_TXTS_ACK p))) := by
  exact ⟨⟨on, .warden, 0xFF, 19, 35, by decide +kernel⟩,
    ⟨on, .warden, 0xFF, 19, by decide +kernel⟩,
    ⟨on, .warden, 0, 27, by decide +kernel⟩⟩

theorem witness_PolicersAndShapers :
    (∃ s : State, ∃ m : Master, ∃ v : Word, (s.writable m TMG_POL_CMD)) ∧
    (∃ s : State, ∃ m : Master, ∃ v : Word, (s.writable m TMG_POL_CMD)) ∧
    (∃ s : State, ∃ m : Master, ∃ v : Word, (s.writable m TMG_POL_CMD)) ∧
    (∃ s : State, ∃ m : Master, ∃ v : Word, ∃ k : Fin 256, ∃ b : Bool, (let a := if b then TMG_SHP_BURST k.val else TMG_SHP_CFG k.val; (s.writable m a))) := by
  exact ⟨⟨((((on).wr (TMG_POL_RATE) (0x800003E8)).wr (TMG_POL_BURST) (5000)).wr (TMG_POL_SEL) (4095)), .warden, 0, by decide +kernel⟩,
    ⟨((((on).wr (TMG_POL_RATE) (0x800003E8)).wr (TMG_POL_BURST) (5000)).wr (TMG_POL_SEL) (4095)), .warden, 0, by decide +kernel⟩,
    ⟨((((on).wr (TMG_POL_RATE) (0x800003E8)).wr (TMG_POL_BURST) (5000)).wr (TMG_POL_SEL) (4095)), .warden, 0, by decide +kernel⟩,
    ⟨on, .warden, 0x80000100, 255, false, by decide +kernel⟩⟩

theorem witness_TideTables :
    (∃ s : State, ∃ m : Master, ∃ v : Word, ∃ p : Fin 28, (s.writable m (TMG_TT_CTL p)) ∧ (v.toNat.testBit 0 = false)) ∧
    (∃ s : State, ∃ m : Master, ∃ v : Word, ∃ p : Fin 28, (s.writable m (TMG_TT_CTL p)) ∧ (let was := s.fldB (TMG_TT_CTL p) TMG_TT_CTL_en; ((v.toNat.testBit 0 = true) ∧ (was = true) ∧ ((s.tideOf p).oper = none)))) ∧
    (∃ s : State, ∃ m : Master, ∃ v : Word, ∃ p : Fin 28, (s.writable m (TMG_TT_CTL p)) ∧ (let was := s.fldB (TMG_TT_CTL p) TMG_TT_CTL_en; ∃ c : Sched, ((v.toNat.testBit 0 = true) ∧ (was = true) ∧ ((s.tideOf p).oper = some c)))) ∧
    (∃ s : State, ∃ m : Master, ∃ v : Word, ∃ p : Fin 28, (s.writable m (TMG_TT_CTL p)) ∧ (let was := s.fldB (TMG_TT_CTL p) TMG_TT_CTL_en; (let first := s.adminSched p (TMG_TT_CTL_list.get v); ((v.toNat.testBit 0 = true) ∧ (was = false) ∧ (first.valid = true))))) ∧
    (∃ s : State, ∃ m : Master, ∃ v : Word, ∃ p : Fin 28, (s.writable m (TMG_TT_CTL p)) ∧ (let was := s.fldB (TMG_TT_CTL p) TMG_TT_CTL_en; (let first := s.adminSched p (TMG_TT_CTL_list.get v); ((v.toNat.testBit 0 = true) ∧ (was = false) ∧ (first.valid = false) ∧ ((s.tideOf p).oper = none))))) ∧
    (∃ s : State, ∃ m : Master, ∃ v : Word, ∃ p : Fin 28, (s.writable m (TMG_TT_CTL p)) ∧ (v.toNat.testBit 2 = true)) ∧
    (∃ s : State, ∃ m : Master, ∃ v : Word, ∃ p : Fin 28, ((s.writable m (TMG_TT_CTL p)) ∧ (v.toNat.testBit 2 = false) ∧ (v.toNat.testBit 0 = false))) ∧
    (∃ s : State, ∃ m : Master, ∃ v : Word, ∃ p : Fin 28, (s.writable m (TMG_TT_CTL p)) ∧ (let was := s.fldB (TMG_TT_CTL p) TMG_TT_CTL_en; ((v.toNat.testBit 2 = false) ∧ (v.toNat.testBit 0 = true) ∧ (was = true)))) ∧
    (∃ s : State, ∃ m : Master, ∃ v : Word, ∃ p : Fin 28, (s.writable m (TMG_TT_CTL p)) ∧ (let was := s.fldB (TMG_TT_CTL p) TMG_TT_CTL_en; (let first := s.adminSched p (TMG_TT_CTL_list.get v); ((v.toNat.testBit 2 = false) ∧ (v.toNat.testBit 0 = true) ∧ (was = false) ∧ (first.valid = true))))) ∧
    (∃ s : State, ∃ m : Master, ∃ v : Word, ∃ p : Fin 28, (s.writable m (TMG_TT_CTL p)) ∧ (let was := s.fldB (TMG_TT_CTL p) TMG_TT_CTL_en; (let first := s.adminSched p (TMG_TT_CTL_list.get v); ((v.toNat.testBit 2 = false) ∧ (v.toNat.testBit 0 = true) ∧ (was = false) ∧ (first.valid = false))))) ∧
    (∃ s : State, ∃ m : Master, ∃ v : Word, ∃ p : Fin 28, ∃ n : TidePending, (((s.tideOf p).pending = some n) ∧ (n.at_ ≤ s.tide.toNat) ∧ (s.wrd.switching = none))) ∧
    (∃ s : State, ∃ m : Master, ∃ v : Word, ∃ p : Fin 28, ((∀ n ∈ (s.tideOf p).pending, s.tide.toNat < n.at_)) ∧ (s.wrd.switching = none)) ∧
    (∃ s : State, ∃ m : Master, ∃ v : Word, (s.writable m TMG_TT_DATA) ∧ (let p := s.fld TMG_TT_ADDR TMG_TT_ADDR_port; (28 ≤ p))) ∧
    (∃ s : State, ∃ m : Master, ∃ v : Word, (s.writable m TMG_TT_DATA) ∧ (let p := s.fld TMG_TT_ADDR TMG_TT_ADDR_port; (let l := s.fld TMG_TT_ADDR TMG_TT_ADDR_list; (let busy := (∃ c ∈ (s.tideOf p).oper, c.list = l) ∨ (∃ n ∈ (s.tideOf p).pending, n.sched.list = l); (p < 28) ∧ (¬ busy))))) ∧
    (∃ s : State, ∃ m : Master, ∃ v : Word, (s.writable m TMG_TT_DATA) ∧ (let p := s.fld TMG_TT_ADDR TMG_TT_ADDR_port; (let l := s.fld TMG_TT_ADDR TMG_TT_ADDR_list; (let busy := (∃ c ∈ (s.tideOf p).oper, c.list = l) ∨ (∃ n ∈ (s.tideOf p).pending, n.sched.list = l); (p < 28) ∧ (busy))))) := by
  exact ⟨⟨on, .warden, 8, 27, by decide +kernel⟩,
    ⟨((on).setFld (TMG_TT_CTL 27) TMG_TT_CTL_en (1)), .warden, 1, 27, by decide +kernel⟩,
    ⟨{ (({ (((on).setFld (TMG_TT_LEN 27) TMG_TT_LEN_len1 (1)).setFld (TMG_TT_LEN 27) TMG_TT_LEN_len0 (1)).wr (TMG_TT_CYCLE 27) 1000 with tide := 5500 }).setFld (TMG_TT_CTL 27) TMG_TT_CTL_en (1)) with tm := { (({ (((on).setFld (TMG_TT_LEN 27) TMG_TT_LEN_len1 (1)).setFld (TMG_TT_LEN 27) TMG_TT_LEN_len0 (1)).wr (TMG_TT_CYCLE 27) 1000 with tide := 5500 }).setFld (TMG_TT_CTL 27) TMG_TT_CTL_en (1)).tm with scheds := [(27, { oper := some { list := 0, len := 1, cycle := 1000, base := 0 } })], entries := [(27 * 2048, 0x3E801), (27 * 2048 + 1024, 0x3E802)] } }, .warden, 1, 27, by decide +kernel, { list := 0, len := 1, cycle := 1000, base := 0 }, by decide +kernel⟩,
    ⟨{ (((on).setFld (TMG_TT_LEN 27) TMG_TT_LEN_len1 (1)).setFld (TMG_TT_LEN 27) TMG_TT_LEN_len0 (1)).wr (TMG_TT_CYCLE 27) 1000 with tide := 5500 }, .warden, 1, 27, by decide +kernel⟩,
    ⟨on, .warden, 1, 27, by decide +kernel⟩,
    ⟨{ (({ (((on).setFld (TMG_TT_LEN 27) TMG_TT_LEN_len1 (1)).setFld (TMG_TT_LEN 27) TMG_TT_LEN_len0 (1)).wr (TMG_TT_CYCLE 27) 1000 with tide := 5500 }).setFld (TMG_TT_CTL 27) TMG_TT_CTL_en (1)) with tm := { (({ (((on).setFld (TMG_TT_LEN 27) TMG_TT_LEN_len1 (1)).setFld (TMG_TT_LEN 27) TMG_TT_LEN_len0 (1)).wr (TMG_TT_CYCLE 27) 1000 with tide := 5500 }).setFld (TMG_TT_CTL 27) TMG_TT_CTL_en (1)).tm with scheds := [(27, { oper := some { list := 0, len := 1, cycle := 1000, base := 0 } })], entries := [(27 * 2048, 0x3E801), (27 * 2048 + 1024, 0x3E802)] } }, .warden, 5, 27, by decide +kernel⟩,
    ⟨{ (({ (((on).setFld (TMG_TT_LEN 27) TMG_TT_LEN_len1 (1)).setFld (TMG_TT_LEN 27) TMG_TT_LEN_len0 (1)).wr (TMG_TT_CYCLE 27) 1000 with tide := 5500 }).setFld (TMG_TT_CTL 27) TMG_TT_CTL_en (1)) with tm := { (({ (((on).setFld (TMG_TT_LEN 27) TMG_TT_LEN_len1 (1)).setFld (TMG_TT_LEN 27) TMG_TT_LEN_len0 (1)).wr (TMG_TT_CYCLE 27) 1000 with tide := 5500 }).setFld (TMG_TT_CTL 27) TMG_TT_CTL_en (1)).tm with scheds := [(27, { oper := some { list := 0, len := 1, cycle := 1000, base := 0 } })], entries := [(27 * 2048, 0x3E801), (27 * 2048 + 1024, 0x3E802)] } }, .warden, 0, 27, by decide +kernel⟩,
    ⟨{ (({ (((on).setFld (TMG_TT_LEN 27) TMG_TT_LEN_len1 (1)).setFld (TMG_TT_LEN 27) TMG_TT_LEN_len0 (1)).wr (TMG_TT_CYCLE 27) 1000 with tide := 5500 }).setFld (TMG_TT_CTL 27) TMG_TT_CTL_en (1)) with tm := { (({ (((on).setFld (TMG_TT_LEN 27) TMG_TT_LEN_len1 (1)).setFld (TMG_TT_LEN 27) TMG_TT_LEN_len0 (1)).wr (TMG_TT_CYCLE 27) 1000 with tide := 5500 }).setFld (TMG_TT_CTL 27) TMG_TT_CTL_en (1)).tm with scheds := [(27, { oper := some { list := 0, len := 1, cycle := 1000, base := 0 } })], entries := [(27 * 2048, 0x3E801), (27 * 2048 + 1024, 0x3E802)] } }, .warden, 3, 27, by decide +kernel⟩,
    ⟨{ (((on).setFld (TMG_TT_LEN 27) TMG_TT_LEN_len1 (1)).setFld (TMG_TT_LEN 27) TMG_TT_LEN_len0 (1)).wr (TMG_TT_CYCLE 27) 1000 with tide := 5500 }, .warden, 3, 27, by decide +kernel⟩,
    ⟨on, .warden, 1, 27, by decide +kernel⟩,
    ⟨{ (({ (((on).setFld (TMG_TT_LEN 27) TMG_TT_LEN_len1 (1)).setFld (TMG_TT_LEN 27) TMG_TT_LEN_len0 (1)).wr (TMG_TT_CYCLE 27) 1000 with tide := 5500 }).setFld (TMG_TT_CTL 27) TMG_TT_CTL_en (1)) with tm := { (({ (((on).setFld (TMG_TT_LEN 27) TMG_TT_LEN_len1 (1)).setFld (TMG_TT_LEN 27) TMG_TT_LEN_len0 (1)).wr (TMG_TT_CYCLE 27) 1000 with tide := 5500 }).setFld (TMG_TT_CTL 27) TMG_TT_CTL_en (1)).tm with scheds := [(27, { oper := some { list := 0, len := 1, cycle := 1000, base := 0 }, pending := some { sched := { list := 1, len := 1, cycle := 1000, base := 0 }, at_ := 5500 } })], entries := [(27 * 2048, 0x3E801), (27 * 2048 + 1024, 0x3E802)] } }, .warden, 0, 27, { sched := { list := 1, len := 1, cycle := 1000, base := 0 }, at_ := 5500 }, by decide +kernel⟩,
    ⟨on, .warden, 0, 27, by decide +kernel⟩,
    ⟨(((((on).setFld TMG_TT_ADDR TMG_TT_ADDR_port 28).setFld TMG_TT_ADDR TMG_TT_ADDR_index 1023).setFld TMG_TT_ADDR TMG_TT_ADDR_list 0)), .warden, 0, by decide +kernel⟩,
    ⟨((((({ ({ (((on).setFld (TMG_TT_LEN 27) TMG_TT_LEN_len1 (1)).setFld (TMG_TT_LEN 27) TMG_TT_LEN_len0 (1)).wr (TMG_TT_CYCLE 27) 1000 with tide := 5500 }) with tm := { ({ (((on).setFld (TMG_TT_LEN 27) TMG_TT_LEN_len1 (1)).setFld (TMG_TT_LEN 27) TMG_TT_LEN_len0 (1)).wr (TMG_TT_CYCLE 27) 1000 with tide := 5500 }).tm with scheds := [(27, { oper := some { list := 0, len := 1, cycle := 1000, base := 0 } })], entries := [(27 * 2048, 0x3E801), (27 * 2048 + 1024, 0x3E802)] } }).setFld TMG_TT_ADDR TMG_TT_ADDR_port 27).setFld TMG_TT_ADDR TMG_TT_ADDR_index 1023).setFld TMG_TT_ADDR TMG_TT_ADDR_list 1)), .warden, 77, by decide +kernel⟩,
    ⟨((((({ ({ (((on).setFld (TMG_TT_LEN 27) TMG_TT_LEN_len1 (1)).setFld (TMG_TT_LEN 27) TMG_TT_LEN_len0 (1)).wr (TMG_TT_CYCLE 27) 1000 with tide := 5500 }) with tm := { ({ (((on).setFld (TMG_TT_LEN 27) TMG_TT_LEN_len1 (1)).setFld (TMG_TT_LEN 27) TMG_TT_LEN_len0 (1)).wr (TMG_TT_CYCLE 27) 1000 with tide := 5500 }).tm with scheds := [(27, { oper := some { list := 0, len := 1, cycle := 1000, base := 0 } })], entries := [(27 * 2048, 0x3E801), (27 * 2048 + 1024, 0x3E802)] } }).setFld TMG_TT_ADDR TMG_TT_ADDR_port 27).setFld TMG_TT_ADDR TMG_TT_ADDR_index 1023).setFld TMG_TT_ADDR TMG_TT_ADDR_list 0)), .warden, 77, by decide +kernel⟩⟩

theorem witness_GaugesAndHistograms :
    (∃ s : State, ∃ m : Master, ∃ h : Fin 64, ∃ v : Word, (s.writable m (TMG_HIST_SEL h))) ∧
    (∃ s : State, (((s.tm.histSel.map (·.1)).Nodup) ∧ ((∀ e ∈ s.tm.histSel, e.1 < 64)) ∧ ((∀ h ∈ s.tm.histPend, h < 64)))) := by
  exact ⟨⟨on, .warden, 63, 0xFFFFFFFF, by decide +kernel⟩,
    ⟨on, by decide +kernel⟩⟩

theorem witness_CountersClear :
    (∃ s : State, ∃ m : Master, ∃ v : Word, ∃ p : Fin 32, (s.writable m SWC_CNT_CLR)) ∧
    (∃ s : State, ∃ m : Master, ∃ v : Word, (s.writable m SWC_CNT_CLR)) ∧
    (∃ s : State, ∃ m : Master, ∃ v : Word, (s.writable m TMG_CTL)) ∧
    (∃ s : State, ∃ m : Master, ∃ v : Word, (s.writable m TMG_CTL)) ∧
    (∃ s : State, ∃ m : Master, ∃ v : Word, (s.writable m TMG_GAUGE_CTL)) ∧
    (∃ s : State, ∃ m : Master, ∃ v : Word, (s.writable m TMG_GAUGE_CTL)) ∧
    (∃ s : State, ∃ m : Master, ∃ v : Word, (s.writable m CSG_CNT_CLR) ∧ (s.csg.owed = [])) ∧
    (∃ s : State, ∃ m : Master, ∃ v : Word, (s.writable m CSG_CNT_CLR) ∧ (s.csg.owed = [])) ∧
    (∃ s : State, ∃ m : Master, ∃ v : Word, (s.writable m CSG_CNT_CLR) ∧ (s.csg.owed = [])) ∧
    (∃ s : State, ∃ m : Master, ∃ v : Word, ∃ p : Fin 28, (s.writable m (ETH_CNT_CLR p))) ∧
    (∃ s : State, ∃ m : Master, ∃ v : Word, ∃ n : Fin 24, (s.writable m (CAN_CNT_CLR n))) ∧
    (∃ s : State, ∃ m : Master, ∃ v : Word, (s.writable m TBL_CNT_CLR)) ∧
    (∃ s : State, ∃ m : Master, ∃ v : Word, (s.writable m FAB_CNT_CLR)) ∧
    (∃ s : State, ∃ m : Master, ∃ v : Word, (s.writable m PLC_CNT_CLR)) ∧
    (∃ s : State, ∃ m : Master, ∃ v : Word, (s.writable m SEC_CNT_CLR)) ∧
    (∃ s : State, ∃ m : Master, ∃ v : Word, (s.writable m FLT_CNT_CLR)) ∧
    (∃ s : State, ∃ m : Master, ∃ v : Word, (s.writable m FLT_CNT_CLR)) ∧
    (∃ s : State, ∃ m : Master, ∃ v : Word, (s.writable m FLT_CNT_CLR)) := by
  exact ⟨⟨on, .warden, 0, 31, by decide +kernel⟩,
    ⟨on, .warden, 0, by decide +kernel⟩,
    ⟨on, .warden, 0, by decide +kernel⟩,
    ⟨on, .warden, 0, by decide +kernel⟩,
    ⟨on, .warden, 0, by decide +kernel⟩,
    ⟨on, .warden, 0, by decide +kernel⟩,
    ⟨on, .warden, 0, by decide +kernel⟩,
    ⟨on, .warden, 0, by decide +kernel⟩,
    ⟨on, .warden, 0, by decide +kernel⟩,
    ⟨on, .warden, 0, 27, by decide +kernel⟩,
    ⟨on, .warden, 0, 23, by decide +kernel⟩,
    ⟨on, .warden, 0, by decide +kernel⟩,
    ⟨on, .warden, 0, by decide +kernel⟩,
    ⟨on, .warden, 0, by decide +kernel⟩,
    ⟨on, .warden, 0, by decide +kernel⟩,
    ⟨on, .warden, 0, by decide +kernel⟩,
    ⟨on, .warden, 0, by decide +kernel⟩,
    ⟨on, .warden, 0, by decide +kernel⟩⟩

theorem witness_StreamGuard :
    (∃ s : State, ∃ g : Fin 64, (s.csg.owed = []) ∧ (let x := s.slot g; (let st := s.gState g; (st = 0 ∨ x.stallArmed = false)))) ∧
    (∃ s : State, ∃ g : Fin 64, (s.csg.owed = []) ∧ (let x := s.slot g; (let st := s.gState g; (let msg := s.fldB (CSG_G_CFG g) CSG_G_CFG_act_msg; ((st = 3) ∧ (x.stallArmed = true) ∧ (msg = false)))))) ∧
    (∃ s : State, ∃ g : Fin 64, (s.csg.owed = []) ∧ (let x := s.slot g; (let st := s.gState g; (let msg := s.fldB (CSG_G_CFG g) CSG_G_CFG_act_msg; ((st = 1 ∨ st = 2) ∧ (x.stallArmed = true) ∧ (msg = false)))))) ∧
    (∃ s : State, ∃ g : Fin 64, (s.csg.owed = []) ∧ (let x := s.slot g; (let st := s.gState g; (let msg := s.fldB (CSG_G_CFG g) CSG_G_CFG_act_msg; ((st ≠ 0) ∧ (x.stallArmed = true) ∧ (msg = true) ∧ (st ≠ 3 ∨ x.episode.testBit 1 = false)))))) ∧
    (∃ s : State, ∃ g : Fin 64, (s.csg.owed = [])) ∧
    (∃ s : State, ∃ g : Fin 64, (s.csg.owed = []) ∧ (let st := s.gState g; (let msg := s.fldB (CSG_G_CFG g) CSG_G_CFG_act_msg; (let period := if st = 2 then s.fld (CSG_G_MSG g) CSG_G_MSG_ok_period_ms else s.fld (CSG_G_MSG g) CSG_G_MSG_msg_period_ms; (st = 0 ∨ period = 0 ∨ msg = false))))) ∧
    (∃ s : State, ∃ g : Fin 64, (s.csg.owed = []) ∧ (let st := s.gState g; (let msg := s.fldB (CSG_G_CFG g) CSG_G_CFG_act_msg; (let period := if st = 2 then s.fld (CSG_G_MSG g) CSG_G_MSG_ok_period_ms else s.fld (CSG_G_MSG g) CSG_G_MSG_msg_period_ms; ((st ≠ 0) ∧ (period ≠ 0) ∧ (msg = true)))))) ∧
    (∃ s : State, ∃ g : Fin 64, (s.csg.owed = []) ∧ (let st := s.gState g; (let msg := s.fldB (CSG_G_CFG g) CSG_G_CFG_act_msg; (let period := if st = 2 then s.fld (CSG_G_MSG g) CSG_G_MSG_ok_period_ms else s.fld (CSG_G_MSG g) CSG_G_MSG_msg_period_ms; ((st ≠ 0) ∧ (period ≠ 0) ∧ (msg = true) ∧ ((s.pol (s.fld (TMG_PORT_CLS 29) TMG_PORT_CLS_pol)).en = false) ∧ (s.fld (TBL_PORT_CFG 29) TBL_PORT_CFG_learn_en = 0) ∧ (s.roomFor 29 (s.gMon g) 7 0) ∧ (s.tooManyCells { input := 29, data := s.statusFrame g } = false)))))) ∧
    (∃ s : State, ∃ g : Fin 64, (s.csg.owed = []) ∧ (let st := s.gState g; (st = 2) ∧ (s.fldB (CSG_G_CFG g) CSG_G_CFG_auto_revert = true))) ∧
    (∃ s : State, ∃ g : Fin 64, (s.csg.owed = []) ∧ (let st := s.gState g; (st ≠ 2 ∨ s.fldB (CSG_G_CFG g) CSG_G_CFG_auto_revert = false))) ∧
    (∃ s : State, ∃ g : Fin 64, (s.csg.owed = []) ∧ ∃ m : Master, ∃ v : Word, (s.writable m (CSG_G_REVERT g))) ∧
    (∃ s : State, ∃ g : Fin 64, (s.csg.owed = []) ∧ ∃ m : Master, ∃ v : Word, (s.writable m (CSG_G_BACKUP g)) ∧ (v.toNat.testBit 14 = false)) ∧
    (∃ s : State, ∃ g : Fin 64, (s.csg.owed = []) ∧ ∃ m : Master, ∃ v : Word, (s.writable m (CSG_G_BACKUP g)) ∧ (v.toNat.testBit 14 = true)) ∧
    (∃ s : State, ∃ g : Fin 64, (s.csg.owed = []) ∧ (let st := s.gState g; ∃ m : Master, ∃ v : Word, (s.writable m (CSG_G_CFG g)) ∧ (let on := s.fldB CSG_CTL CSG_CTL_en && v.toNat.testBit 0; (let loud := CSG_G_CFG_act_msg.get v = 1; ((on = true) ∧ (st = 0) ∧ (¬ loud)))))) ∧
    (∃ s : State, ∃ g : Fin 64, (s.csg.owed = []) ∧ (let st := s.gState g; ∃ m : Master, ∃ v : Word, (s.writable m (CSG_G_CFG g)) ∧ (let on := s.fldB CSG_CTL CSG_CTL_en && v.toNat.testBit 0; (let loud := CSG_G_CFG_act_msg.get v = 1; ((on = true) ∧ (st = 0) ∧ (loud)))))) ∧
    (∃ s : State, ∃ g : Fin 64, (s.csg.owed = []) ∧ (let st := s.gState g; ∃ m : Master, ∃ v : Word, (s.writable m (CSG_G_CFG g)) ∧ (let on := s.fldB CSG_CTL CSG_CTL_en && v.toNat.testBit 0; (let loud := CSG_G_CFG_act_msg.get v = 1; ((on = false) ∧ (st ≠ 0) ∧ (¬ loud)))))) ∧
    (∃ s : State, ∃ g : Fin 64, (s.csg.owed = []) ∧ (let st := s.gState g; ∃ m : Master, ∃ v : Word, (s.writable m (CSG_G_CFG g)) ∧ (let on := s.fldB CSG_CTL CSG_CTL_en && v.toNat.testBit 0; (let loud := CSG_G_CFG_act_msg.get v = 1; ((on = false) ∧ (st ≠ 0) ∧ (loud)))))) ∧
    (∃ s : State, ∃ g : Fin 64, (s.csg.owed = []) ∧ (let st := s.gState g; ∃ m : Master, ∃ v : Word, (s.writable m (CSG_G_CFG g)) ∧ (let on := s.fldB CSG_CTL CSG_CTL_en && v.toNat.testBit 0; ((on = true ↔ st ≠ 0))))) := by
  exact ⟨⟨on, 63, by decide +kernel⟩,
    ⟨((((on).setFld (CSG_G_STATE 63) CSG_G_STATE_state (3)).setSlot 63 { stallArmed := true, msgSeq := 65535, goodNs := 7, goodRun := 3, missing := 4, last := some 3 })), 63, by decide +kernel⟩,
    ⟨((((on).setFld (CSG_G_STATE 63) CSG_G_STATE_state (2)).setSlot 63 { stallArmed := true, msgSeq := 65535, goodNs := 7, goodRun := 3, missing := 4, last := some 3 })), 63, by decide +kernel⟩,
    ⟨(((((on).setFld (CSG_G_STATE 63) CSG_G_STATE_state (2)).setSlot 63 { stallArmed := true, msgSeq := 65535, goodNs := 7, goodRun := 3, missing := 4, last := some 3 })).setFld (CSG_G_CFG 63) CSG_G_CFG_act_msg (1)), 63, by decide +kernel⟩,
    ⟨(((on).setSlot 63 { stallArmed := true, msgSeq := 65535, goodNs := 7, goodRun := 3, missing := 4, last := some 3 })), 63, by decide +kernel⟩,
    ⟨on, 63, by decide +kernel⟩,
    ⟨((((((((on).setFld (CSG_G_STATE 63) CSG_G_STATE_state (2)).setSlot 63 { stallArmed := true, msgSeq := 65535, goodNs := 7, goodRun := 3, missing := 4, last := some 3 })).setFld (CSG_G_CFG 63) CSG_G_CFG_act_msg (1)).setFld (CSG_G_MSG 63) CSG_G_MSG_ok_period_ms 5).setFld (CSG_G_MSG 63) CSG_G_MSG_msg_period_ms 5)), 63, by decide +kernel⟩,
    ⟨((((((((((((((((((on).setFld (CSG_G_STATE 63) CSG_G_STATE_state (2)).setSlot 63 { stallArmed := true, msgSeq := 65535, goodNs := 7, goodRun := 3, missing := 4, last := some 3 })).setFld (CSG_G_CFG 63) CSG_G_CFG_act_msg (1)).setFld (CSG_G_MSG 63) CSG_G_MSG_ok_period_ms 5).setFld (CSG_G_MSG 63) CSG_G_MSG_msg_period_ms 5)).wr SYS_POLDER 4095).wr (SWC_BERM_LO 7) 0x40404040).wr (SWC_BERM_HI 7) 0x40404040).wr (SWC_PORT_CFG 29) 0x31).wr (SWC_PORT_CFG 27) 0x31).setFld (CSG_G_CFG 63) CSG_G_CFG_o_mon 27).setFld (TBL_PORT_CFG 29) TBL_PORT_CFG_learn_en 0)).setFld (ETH_PHY_STATUS 27) ETH_PHY_STATUS_link 1)), 63, by decide +kernel⟩,
    ⟨(((((on).setFld (CSG_G_STATE 63) CSG_G_STATE_state (2)).setFld (CSG_G_CFG 63) CSG_G_CFG_auto_revert (1)).setSlot 63 { stallArmed := true, msgSeq := 65535, goodNs := 7, goodRun := 3, missing := 4, last := some 3, waitBackup := true })), 63, by decide +kernel⟩,
    ⟨on, 63, by decide +kernel⟩,
    ⟨on, 63, by decide +kernel, .warden, 5, by decide +kernel⟩,
    ⟨on, 63, by decide +kernel, .warden, 0x3FFF, by decide +kernel⟩,
    ⟨((((((on).setFld (CSG_G_STATE 63) CSG_G_STATE_state (3)).setSlot 63 { stallArmed := true, msgSeq := 65535, goodNs := 7, goodRun := 3, missing := 4, last := some 3 })).setFld (CSG_G_STATE 63) CSG_G_STATE_redirected 1)), 63, by decide +kernel, .warden, 0xFFFFFFFF, by decide +kernel⟩,
    ⟨((((on).setSlot 63 { stallArmed := true, msgSeq := 65535, goodNs := 7, goodRun := 3, missing := 4, last := some 3 })).setFld (CSG_CTL) CSG_CTL_en (1)), 63, by decide +kernel, .warden, 1, by decide +kernel⟩,
    ⟨((((on).setSlot 63 { stallArmed := true, msgSeq := 65535, goodNs := 7, goodRun := 3, missing := 4, last := some 3 })).setFld (CSG_CTL) CSG_CTL_en (1)), 63, by decide +kernel, .warden, ((1 ||| (BitVec.ofNat 32 (2 ^ CSG_G_CFG_act_msg.lo)))), by decide +kernel⟩,
    ⟨(((((((on).setFld (CSG_G_STATE 63) CSG_G_STATE_state (3)).setSlot 63 { stallArmed := true, msgSeq := 65535, goodNs := 7, goodRun := 3, missing := 4, last := some 3 })).setFld (CSG_G_STATE 63) CSG_G_STATE_redirected 1)).setFld (CSG_CTL) CSG_CTL_en (1)), 63, by decide +kernel, .warden, 0, by decide +kernel⟩,
    ⟨(((((((on).setFld (CSG_G_STATE 63) CSG_G_STATE_state (3)).setSlot 63 { stallArmed := true, msgSeq := 65535, goodNs := 7, goodRun := 3, missing := 4, last := some 3 })).setFld (CSG_G_STATE 63) CSG_G_STATE_redirected 1)).setFld (CSG_CTL) CSG_CTL_en (1)), 63, by decide +kernel, .warden, ((BitVec.ofNat 32 (2 ^ CSG_G_CFG_act_msg.lo))), by decide +kernel⟩,
    ⟨on, 63, by decide +kernel, .warden, 0, by decide +kernel⟩⟩

theorem witness_Recovery :
    (∃ s : State, ∃ c : Fin 512, ∃ m : Master, ∃ v : Word, (s.csg.owed = []) ∧ (s.writable m (CSG_FRER_CFG c))) ∧
    (∃ s : State, ∃ c : Fin 512, (let x := s.frer c; (x.timer = false))) ∧
    (∃ s : State, ∃ c : Fin 512, (let x := s.frer c; (x.timer = true))) ∧
    (∃ s : State, ∃ c : Fin 512, (let x := s.frer c; ∃ j : Fin 4, (x.waiting.testBit j = false ∨ x.silent.testBit j = true))) ∧
    (∃ s : State, ∃ c : Fin 512, (let x := s.frer c; ∃ j : Fin 4, (x.waiting.testBit j = true) ∧ (x.silent.testBit j = false))) := by
  exact ⟨⟨on, 511, .warden, 1, by decide +kernel⟩,
    ⟨on, 511, by decide +kernel⟩,
    ⟨(((on).setFrer 511 { timer := true, waiting := 3, cnt := [1, 2, 3, 4, 5, 6], takeAny := false })), 511, by decide +kernel⟩,
    ⟨on, 511, 3, by decide +kernel⟩,
    ⟨(((on).setFrer 511 { waiting := 9, silent := 2 })), 511, 3, by decide +kernel⟩⟩

theorem witness_CanBus :
    (∃ s : State, ∃ n : Fin 24, (let st := s.canSt n; ∃ m : Master, ∃ v : Word, (s.writable m (CAN_CTL n)) ∧ (let md := canModeOf (CAN_CTL_mode.get v); ((st = 0) ∧ (md ≠ 0) ∧ (s.dev.state = .full))))) ∧
    (∃ s : State, ∃ n : Fin 24, (let st := s.canSt n; ∃ m : Master, ∃ v : Word, (s.writable m (CAN_CTL n)) ∧ (let md := canModeOf (CAN_CTL_mode.get v); (st = 0) ∧ (md = 0 ∨ s.dev.state ≠ .full)))) ∧
    (∃ s : State, ∃ n : Fin 24, (let st := s.canSt n; ∃ m : Master, ∃ v : Word, (s.writable m (CAN_CTL n)) ∧ (let md := canModeOf (CAN_CTL_mode.get v); (st = 1) ∧ (md ≠ 0)))) ∧
    (∃ s : State, ∃ n : Fin 24, (let st := s.canSt n; ∃ m : Master, ∃ v : Word, (s.writable m (CAN_CTL n)) ∧ (st = 2 ∨ st = 3))) ∧
    (∃ s : State, ∃ n : Fin 24, (let st := s.canSt n; ∃ m : Master, ∃ v : Word, (s.writable m (CAN_CTL n)) ∧ (let md := canModeOf (CAN_CTL_mode.get v); (st = 1 ∨ 4 ≤ st) ∧ (md = 0)))) ∧
    (∃ s : State, ∃ n : Fin 24, (let st := s.canSt n; ∃ m : Master, ∃ v : Word, (s.writable m (CAN_CTL n)) ∧ (let md := canModeOf (CAN_CTL_mode.get v); (let recovers := st = 4 ∧ CAN_CTL_recover.get v = 1 ∧ CAN_CTL_boff_mode.get v = 1; ((4 ≤ st) ∧ (md ≠ 0) ∧ (¬ recovers)))))) ∧
    (∃ s : State, ∃ n : Fin 24, (let st := s.canSt n; ∃ m : Master, ∃ v : Word, (s.writable m (CAN_CTL n)) ∧ (let md := canModeOf (CAN_CTL_mode.get v); (let recovers := st = 4 ∧ CAN_CTL_recover.get v = 1 ∧ CAN_CTL_boff_mode.get v = 1; (md ≠ 0) ∧ (recovers))))) ∧
    (∃ s : State, ∃ n : Fin 24, (let st := s.canSt n; ∃ m : Master, ∃ v : Word, (s.writable m (CAN_CTL n)) ∧ (let md := canModeOf (CAN_CTL_mode.get v); ((st = 4) ∧ (md ≠ 0) ∧ (CAN_CTL_boff_mode.get v = 1))))) ∧
    (∃ s : State, ∃ n : Fin 24, (let st := s.canSt n; ∃ m : Master, ∃ v : Word, (s.writable m (CAN_CTL n)) ∧ (st = 2 ∨ st = 3))) ∧
    (∃ s : State, ∃ n : Fin 24, ∃ m : Master, ∃ v : Word, (s.writable m (CAN_CTL n))) ∧
    (∃ s : State, ∃ n : Fin 24, ∃ m : Master, ∃ k : Fin 5, ∃ v : Word, (let a := CAN_CTL n + 0x10 + 4 * k; (let none_ := 8 ≤ n.val ∧ (k.val = 2 ∨ k.val = 3); (s.writable m a) ∧ (none_)))) ∧
    (∃ s : State, ∃ n : Fin 24, ∃ m : Master, ∃ k : Fin 5, ∃ v : Word, (let a := CAN_CTL n + 0x10 + 4 * k; (let none_ := 8 ≤ n.val ∧ (k.val = 2 ∨ k.val = 3); ((s.writable m a) ∧ (¬ none_) ∧ (s.cfgOpen n = true) ∧ (n.val < 8 ∨ k.val ≠ 4))))) ∧
    (∃ s : State, ∃ n : Fin 24, ∃ m : Master, ∃ k : Fin 5, ∃ v : Word, (let a := CAN_CTL n + 0x10 + 4 * k; ((s.writable m a) ∧ (8 ≤ n.val) ∧ (k.val = 4) ∧ (s.cfgOpen n = true)))) ∧
    (∃ s : State, ∃ n : Fin 24, ∃ m : Master, ∃ k : Fin 5, ∃ v : Word, (let a := CAN_CTL n + 0x10 + 4 * k; (let none_ := 8 ≤ n.val ∧ (k.val = 2 ∨ k.val = 3); ((s.writable m a) ∧ (¬ none_) ∧ (s.cfgOpen n = false))))) ∧
    (∃ s : State, ∃ n : Fin 24, (let st := s.canSt n; (st = 1))) ∧
    (∃ s : State, ∃ n : Fin 24, (let st := s.canSt n; (st ≠ 1))) ∧
    (∃ s : State, ∃ n : Fin 24, (let c := s.chan n; (c.onBus ≠ none))) ∧
    (∃ s : State, ∃ n : Fin 24, (let c := s.chan n; (c.onBus = none) ∧ (c.change = none))) ∧
    (∃ s : State, ∃ n : Fin 24, (let c := s.chan n; ((c.onBus = none) ∧ (c.change ≠ none) ∧ (s.canPart n = false)))) ∧
    (∃ s : State, ∃ n : Fin 24, (let c := s.chan n; ((c.onBus = none) ∧ (c.change = some 0) ∧ (s.canPart n = true)))) ∧
    (∃ s : State, ∃ n : Fin 24, (let c := s.chan n; ∃ m : Nat, ((c.onBus = none) ∧ (c.change = some m) ∧ (s.canPart n = true) ∧ (m ≠ 0) ∧ (m = 4 ∨ c.mode = 4)))) ∧
    (∃ s : State, ∃ n : Fin 24, (let c := s.chan n; ∃ m : Nat, ((c.onBus = none) ∧ (c.change = some m) ∧ (s.canPart n = true) ∧ (m ≠ 0) ∧ (m ≠ 4) ∧ (c.mode ≠ 4)))) ∧
    (∃ s : State, ∃ n : Fin 24, ∃ e : CanError, (s.canPart n = false)) ∧
    (∃ s : State, ∃ n : Fin 24, ∃ e : CanError, (s.canPart n = true) ∧ (s.counting n = false)) ∧
    (∃ s : State, ∃ n : Fin 24, ∃ e : CanError, ((s.canPart n = true) ∧ (s.counting n = true) ∧ (e.rule = .exempt))) ∧
    (∃ s : State, ∃ n : Fin 24, (let c := s.chan n; ∃ e : CanError, (let tec := if e.rule = .transmitter ∧ c.sender = true then s.canTec n + 8 else s.canTec n; ((s.canPart n = true) ∧ (s.counting n = true) ∧ (e.rule ≠ .exempt) ∧ (tec < 256))))) ∧
    (∃ s : State, ∃ n : Fin 24, (let c := s.chan n; ∃ e : CanError, (let tec := if e.rule = .transmitter ∧ c.sender = true then s.canTec n + 8 else s.canTec n; ((s.canPart n = true) ∧ (s.counting n = true) ∧ (e.rule ≠ .exempt) ∧ (256 ≤ tec) ∧ (c.change ≠ some 0))))) ∧
    (∃ s : State, ∃ n : Fin 24, (let c := s.chan n; ∃ e : CanError, (let tec := if e.rule = .transmitter ∧ c.sender = true then s.canTec n + 8 else s.canTec n; ((s.canPart n = true) ∧ (s.counting n = true) ∧ (e.rule ≠ .exempt) ∧ (256 ≤ tec) ∧ (c.change = some 0))))) ∧
    (∃ s : State, ∃ n : Fin 24, (let st := s.canSt n; ∃ k : Fin 129, (st ≠ 5))) ∧
    (∃ s : State, ∃ n : Fin 24, (let st := s.canSt n; ∃ k : Fin 129, (let seqs := s.fld (CAN_STATUS n) CAN_STATUS_rec_seq + k.val; (st = 5) ∧ (seqs < 128)))) ∧
    (∃ s : State, ∃ n : Fin 24, (let c := s.chan n; (let st := s.canSt n; ∃ k : Fin 129, (let seqs := s.fld (CAN_STATUS n) CAN_STATUS_rec_seq + k.val; ((st = 5) ∧ (128 ≤ seqs) ∧ (c.change = none)))))) ∧
    (∃ s : State, ∃ n : Fin 24, (let c := s.chan n; (let st := s.canSt n; ∃ k : Fin 129, (let seqs := s.fld (CAN_STATUS n) CAN_STATUS_rec_seq + k.val; ∃ m : Nat, ((st = 5) ∧ (128 ≤ seqs) ∧ (c.change = some m) ∧ (m ≠ 0)))))) ∧
    (∃ s : State, ∃ n : Fin 24, (let c := s.chan n; (let st := s.canSt n; ∃ k : Fin 129, (let seqs := s.fld (CAN_STATUS n) CAN_STATUS_rec_seq + k.val; ((st = 5) ∧ (128 ≤ seqs) ∧ (c.change = some 0)))))) ∧
    (∃ s : State, ∃ n : Fin 24, (let st := s.canSt n; (st = 0))) ∧
    (∃ s : State, ∃ n : Fin 24, (let st := s.canSt n; (st ≠ 0))) := by
  exact ⟨⟨(({ on with dev := { on.dev with state := .full } }).setChan 23 { change := some 3, mode := 0 }), 23, .warden, 1, by decide +kernel⟩,
    ⟨{ on with dev := { on.dev with state := .full } }, 23, .warden, 0xFFFFFFF8, by decide +kernel⟩,
    ⟨(((on).setFld (CAN_STATUS 23) CAN_STATUS_state (1)).setChan 23 { mode := 1, change := some 0 }), 23, .warden, 3, by decide +kernel⟩,
    ⟨(((on).setFld (CAN_STATUS 23) CAN_STATUS_state (2)).setChan 23 { mode := 1, onBus := some 2, bufs := [(2,[1])] }), 23, .warden, 4, by decide +kernel⟩,
    ⟨(((((on).setFld (CAN_STATUS 23) CAN_STATUS_state (1)).setChan 23 { mode := 1, change := some 3, onBus := some 1, bufs := [(1,[1,2]),(2,[3])], backlog := [[1],[2]], lateCancel := [1], rxq0 := [{no := 0, record := [1]}] }).setFld (CAN_ERR 23) CAN_ERR_rec (7)).setFld (CAN_ERR 23) CAN_ERR_tec (200)), 23, .warden, 0, by decide +kernel⟩,
    ⟨(((on).setFld (CAN_STATUS 23) CAN_STATUS_state (5)).setChan 23 { mode := 1 }), 23, .warden, 1, by decide +kernel⟩,
    ⟨(((on).setFld (CAN_STATUS 23) CAN_STATUS_state (4)).setChan 23 { mode := 1 }), 23, .warden, 0x19, by decide +kernel⟩,
    ⟨(((on).setFld (CAN_STATUS 23) CAN_STATUS_state (4)).setChan 23 { mode := 1 }), 23, .warden, 9, by decide +kernel⟩,
    ⟨(((on).setFld (CAN_STATUS 23) CAN_STATUS_state (2)).setChan 23 { mode := 1 }), 23, .warden, 4, by decide +kernel⟩,
    ⟨(((on).setFld (CAN_STATUS 23) CAN_STATUS_state (4)).setChan 23 { mode := 1 }), 23, .warden, 9, by decide +kernel⟩,
    ⟨on, 8, .warden, 3, 1, by decide +kernel⟩,
    ⟨on, 23, .warden, 1, 0xFFFFFFFF, by decide +kernel⟩,
    ⟨on, 8, .warden, 4, 0xFFFFFFFF, by decide +kernel⟩,
    ⟨((on).setFld (CAN_STATUS 23) CAN_STATUS_state (2)), 23, .warden, 4, 0xFFFFFFFF, by decide +kernel⟩,
    ⟨((on).setFld (CAN_STATUS 23) CAN_STATUS_state (1)), 23, by decide +kernel⟩,
    ⟨((on).setFld (CAN_STATUS 23) CAN_STATUS_state (2)), 23, by decide +kernel⟩,
    ⟨(((on).setFld (CAN_STATUS 23) CAN_STATUS_state (2)).setChan 23 { onBus := some 1, change := some 0 }), 23, by decide +kernel⟩,
    ⟨(({ ((on).setFld (CAN_STATUS 23) CAN_STATUS_state (2)) with elapsed := 77, tide := 88 }).setChan 23 { mode := 1, bufs := [(2, List.replicate 40 3),(1, List.replicate 40 7)] }), 23, by decide +kernel⟩,
    ⟨(((on).setFld (CAN_STATUS 23) CAN_STATUS_state (5)).setChan 23 { change := some 1, mode := 1 }), 23, by decide +kernel⟩,
    ⟨(((on).setFld (CAN_STATUS 23) CAN_STATUS_state (3)).setChan 23 { change := some 0, mode := 1, bufs := [(2, List.replicate 40 3),(1, List.replicate 40 7)], backlog := [[1]], lateCancel := [2], rxq1 := [{no := 0, record := [1]}] }), 23, by decide +kernel⟩,
    ⟨(((on).setFld (CAN_STATUS 23) CAN_STATUS_state (3)).setChan 23 { change := some 4, mode := 1, bufs := [(2, List.replicate 40 3),(1, List.replicate 40 7)] }), 23, 4, by decide +kernel⟩,
    ⟨(((on).setFld (CAN_STATUS 23) CAN_STATUS_state (3)).setChan 23 { change := some 1, mode := 3, bufs := [(2, List.replicate 40 3),(1, List.replicate 40 7)] }), 23, 1, by decide +kernel⟩,
    ⟨((on).setFld (CAN_STATUS 23) CAN_STATUS_state (5)), 23, { rule := .receiver, kind := 6, dataPhase := true, flag := true, xl := false }, by decide +kernel⟩,
    ⟨(((on).setFld (CAN_STATUS 23) CAN_STATUS_state (2)).setChan 23 { mode := 3 }), 23, { rule := .transmitter, kind := 6, dataPhase := true, flag := true, xl := false }, by decide +kernel⟩,
    ⟨(((on).setFld (CAN_STATUS 23) CAN_STATUS_state (2)).setChan 23 { mode := 1 }), 23, { rule := .exempt, kind := 6, dataPhase := true, flag := true, xl := false }, by decide +kernel⟩,
    ⟨((((on).setFld (CAN_STATUS 23) CAN_STATUS_state (2)).setChan 23 { mode := 1 }).setFld (CAN_ERR 23) CAN_ERR_rec (126)), 23, { rule := .receiver, kind := 6, dataPhase := true, flag := true, xl := false }, by decide +kernel⟩,
    ⟨(((((on).setFld (CAN_STATUS 23) CAN_STATUS_state (3)).setChan 23 { onBus := some 2, sender := true, mode := 1, bufs := [(2,[1])] }).setFld (CAN_ERR 23) CAN_ERR_tec (248)).setFld (CAN_CTL 23) CAN_CTL_boff_mode (0)), 23, { rule := .transmitter, kind := 6, dataPhase := true, flag := true, xl := false }, by decide +kernel⟩,
    ⟨(((((on).setFld (CAN_STATUS 23) CAN_STATUS_state (3)).setChan 23 { onBus := some 2, sender := true, mode := 1, bufs := [(2,[1])], change := some 0, backlog := [[1]] }).setFld (CAN_ERR 23) CAN_ERR_tec (248)).setFld (CAN_CTL 23) CAN_CTL_boff_mode (0)), 23, { rule := .transmitter, kind := 6, dataPhase := true, flag := true, xl := false }, by decide +kernel⟩,
    ⟨((on).setFld (CAN_STATUS 23) CAN_STATUS_state (4)), 23, 128, by decide +kernel⟩,
    ⟨((on).setFld (CAN_STATUS 23) CAN_STATUS_state (5)), 23, 127, by decide +kernel⟩,
    ⟨(((((on).setFld (CAN_STATUS 23) CAN_STATUS_state (5)).setChan 23 { mode := 1 }).setFld (CAN_ERR 23) CAN_ERR_rec (4)).setFld (CAN_ERR 23) CAN_ERR_tec (255)), 23, 128, by decide +kernel⟩,
    ⟨(((on).setFld (CAN_STATUS 23) CAN_STATUS_state (5)).setChan 23 { mode := 1, change := some 4 }), 23, 128, 4, by decide +kernel⟩,
    ⟨(((on).setFld (CAN_STATUS 23) CAN_STATUS_state (5)).setChan 23 { mode := 1, change := some 0, backlog := [[1]] }), 23, 128, by decide +kernel⟩,
    ⟨on, 23, by decide +kernel⟩,
    ⟨((on).setFld (CAN_STATUS 23) CAN_STATUS_state (5)), 23, by decide +kernel⟩⟩

theorem witness_CanReception :
    (∃ s : State, ∃ n : Fin 24, (let c := s.chan n; ∃ f : CanFrame, (s.canPart n = false ∨ c.mode = 4))) ∧
    (∃ s : State, ∃ n : Fin 24, (let c := s.chan n; ∃ f : CanFrame, (let off := (f.fmt.val = 1 ∧ s.fdEn n = false) ∨ (f.fmt.val = 2 ∧ s.xlEn n = false); ((s.canPart n = true) ∧ (c.mode ≠ 4) ∧ (off) ∧ (s.fldB (CAN_CTL n) CAN_CTL_pex = false))))) ∧
    (∃ s : State, ∃ n : Fin 24, (let c := s.chan n; ∃ f : CanFrame, (let off := (f.fmt.val = 1 ∧ s.fdEn n = false) ∨ (f.fmt.val = 2 ∧ s.xlEn n = false); ((s.canPart n = true) ∧ (c.mode ≠ 4) ∧ (off) ∧ (s.fldB (CAN_CTL n) CAN_CTL_pex = true))))) ∧
    (∃ s : State, ∃ n : Fin 24, (let c := s.chan n; ∃ f : CanFrame, (let ide := f.ide && f.fmt.val != 2; (let off := (f.fmt.val = 1 ∧ s.fdEn n = false) ∨ (f.fmt.val = 2 ∧ s.xlEn n = false); (let hit := if f.fmt.val = 0 ∧ f.rtr = true ∧ s.fldB (CAN_CTL n) CAN_CTL_rrf_rej = true then none else s.canFilter n ide (if ide then f.id % 2 ^ 29 else f.id % 2048); ((s.canPart n = true) ∧ (c.mode ≠ 4) ∧ (¬ off) ∧ (hit = none))))))) ∧
    (∃ s : State, ∃ n : Fin 24, (let c := s.chan n; ∃ f : CanFrame, (let ide := f.ide && f.fmt.val != 2; (let off := (f.fmt.val = 1 ∧ s.fdEn n = false) ∨ (f.fmt.val = 2 ∧ s.xlEn n = false); (let hit := if f.fmt.val = 0 ∧ f.rtr = true ∧ s.fldB (CAN_CTL n) CAN_CTL_rrf_rej = true then none else s.canFilter n ide (if ide then f.id % 2 ^ 29 else f.id % 2048); ∃ q : Nat, ∃ elem : Option Nat, ((s.canPart n = true) ∧ (c.mode ≠ 4) ∧ (¬ off) ∧ (hit = some (q, elem))) ∧ (let queue := if q = 0 then c.rxq0 else c.rxq1; (let r := canRecord f n q (c.rxSof.getD (s.tide - BitVec.ofNat 64 f.age).toNat) elem; (queue.length < 64) ∧ (c.rxBlocks + recBlocks r ≤ 256)))))))) ∧
    (∃ s : State, ∃ n : Fin 24, (let c := s.chan n; ∃ f : CanFrame, (let ide := f.ide && f.fmt.val != 2; (let off := (f.fmt.val = 1 ∧ s.fdEn n = false) ∨ (f.fmt.val = 2 ∧ s.xlEn n = false); (let hit := if f.fmt.val = 0 ∧ f.rtr = true ∧ s.fldB (CAN_CTL n) CAN_CTL_rrf_rej = true then none else s.canFilter n ide (if ide then f.id % 2 ^ 29 else f.id % 2048); ∃ q : Nat, ∃ elem : Option Nat, ((s.canPart n = true) ∧ (c.mode ≠ 4) ∧ (¬ off) ∧ (hit = some (q, elem))) ∧ (let queue := if q = 0 then c.rxq0 else c.rxq1; (let r := canRecord f n q (c.rxSof.getD (s.tide - BitVec.ofNat 64 f.age).toNat) elem; (64 ≤ queue.length ∨ 256 < c.rxBlocks + recBlocks r)))))))) ∧
    (∃ s : State, ∃ n : Fin 24, ∃ m : Master, ∃ v : Word, (s.writable m (CAN_FLT_DATA1 n))) ∧
    (∃ s : State, ∃ n : Fin 24, ∃ m : Master, ∃ v : Word, (s.writable m (CAN_RXQ_ACK n)) ∧ (s.fldB (CAN_CTL n) CAN_CTL_rxq_mode = true)) ∧
    (∃ s : State, ∃ n : Fin 24, ∃ m : Master, ∃ v : Word, (s.writable m (CAN_RXQ_ACK n)) ∧ (s.fldB (CAN_CTL n) CAN_CTL_rxq_mode = false)) ∧
    (∃ s : State, ∃ n : Fin 24, (s.aggNext true s.can.rr0 = none) ∧ (s.aggNext false s.can.rr1 = none)) ∧
    (∃ s : State, ∃ n : Fin 24, ∃ q : Bool, ∃ e : CanEntry, (((q = true → s.aggNext true s.can.rr0 = none)) ∧ (s.aggNext (!q) (if q then s.can.rr1 else s.can.rr0) = some (n.val, e)) ∧ (s.canBinding n e.record = none))) ∧
    (∃ s : State, ∃ n : Fin 24, ∃ q : Bool, ∃ e : CanEntry, ((q = true → s.aggNext true s.can.rr0 = none)) ∧ (s.aggNext (!q) (if q then s.can.rr1 else s.can.rr0) = some (n.val, e)) ∧ ∃ w : Nat, (s.canBinding n e.record = some w) ∧ (let foreign := bit 11 w = true ∧ bits 16 12 w ≠ n.val; (let data := if foreign then recSet e.record 0 (withBit (recWord e.record 0) 13 true) else e.record; (let tc := s.fld (CAN_AGG_CFG n) (if q then CAN_AGG_CFG_tc_q1 else CAN_AGG_CFG_tc_q0); (((s.pol (s.fld (TMG_PORT_CLS 30) TMG_PORT_CLS_pol)).en = false) ∧ (s.roomFor 30 28 tc 0) ∧ (s.tooManyCells { input := 30, data := data } = false)))))) ∧
    (∃ s : State, ∃ n : Fin 24, ∃ e : CanEntry, ∃ w : Nat, (s.aggNext true s.can.rr0 = some (n.val, e)) ∧ (s.canBinding n e.record = some w)) := by
  exact ⟨⟨((on).setFld (CAN_STATUS 23) CAN_STATUS_state (5)), 23, { fmt := 0, ide := true, rtr := false, brs := false, esi := false, dlc := 8, id := 2 ^ 29 - 1, data := List.replicate 8 255, sdt := 0, vcid := 0, sec := false, af := 0 }, by decide +kernel⟩,
    ⟨(((((({ (on) with tide := 99 }).setFld (CAN_STATUS 23) CAN_STATUS_state (2)).setChan 23 { mode := 1 }).setFld (CAN_CTL 23) CAN_CTL_flt_default (2)).setFld (CAN_FD_CFG 23) CAN_FD_CFG_fd_en (0)).setFld (CAN_CTL 23) CAN_CTL_pex (0)), 23, { fmt := 1, ide := true, rtr := false, brs := false, esi := false, dlc := 8, id := 2 ^ 29 - 1, data := List.replicate 8 255, sdt := 0, vcid := 0, sec := false, af := 0 }, by decide +kernel⟩,
    ⟨((((({ (on) with tide := 99 }).setFld (CAN_STATUS 23) CAN_STATUS_state (2)).setChan 23 { mode := 1 }).setFld (CAN_CTL 23) CAN_CTL_flt_default (2)).setFld (CAN_CTL 23) CAN_CTL_pex (1)), 23, { fmt := 2, ide := true, rtr := false, brs := false, esi := false, dlc := 8, id := 2 ^ 29 - 1, data := List.replicate 8 255, sdt := 0, vcid := 0, sec := false, af := 0 }, by decide +kernel⟩,
    ⟨((((({ (on) with tide := 99 }).setFld (CAN_STATUS 23) CAN_STATUS_state (2)).setChan 23 { mode := 1 }).setFld (CAN_CTL 23) CAN_CTL_flt_default (2)).setFld (CAN_CTL 23) CAN_CTL_flt_default (0)), 23, { fmt := 0, ide := true, rtr := false, brs := false, esi := false, dlc := 8, id := 2 ^ 29 - 1, data := List.replicate 8 255, sdt := 0, vcid := 0, sec := false, af := 0 }, by decide +kernel⟩,
    ⟨(((({ (on) with tide := 99 }).setFld (CAN_STATUS 23) CAN_STATUS_state (2)).setChan 23 { mode := 1 }).setFld (CAN_CTL 23) CAN_CTL_flt_default (2)), 23, { fmt := 0, ide := true, rtr := false, brs := false, esi := false, dlc := 8, id := 2 ^ 29 - 1, data := List.replicate 8 255, sdt := 0, vcid := 0, sec := false, af := 0 }, 0, ((none : Option Nat)), by decide +kernel⟩,
    ⟨(((({ (on) with tide := 99 }).setFld (CAN_STATUS 23) CAN_STATUS_state (2)).setChan 23 { mode := 1, rxq0 := List.replicate 64 { no := 0, record := List.replicate 40 0 } }).setFld (CAN_CTL 23) CAN_CTL_flt_default (2)), 23, { fmt := 0, ide := true, rtr := false, brs := false, esi := false, dlc := 8, id := 2 ^ 29 - 1, data := List.replicate 8 255, sdt := 0, vcid := 0, sec := false, af := 0 }, 0, ((none : Option Nat)), by decide +kernel⟩,
    ⟨((on).setChan 23 { fltStaged := 0x12345678 }), 23, .warden, 0xFFFFFFFF, by decide +kernel⟩,
    ⟨(((on).setChan 23 { rxq0 := [{ no := 0, record := List.replicate 40 0 }, { no := 1, record := List.replicate 40 1 }], rxq1 := [{ no := 2, record := List.replicate 40 2 }] }).setFld (CAN_CTL 23) CAN_CTL_rxq_mode (1)), 23, .warden, 1, by decide +kernel⟩,
    ⟨((on).setChan 23 { rxq0 := [{ no := 0, record := List.replicate 40 0 }, { no := 1, record := List.replicate 40 1 }], rxq1 := [{ no := 2, record := List.replicate 40 2 }] }), 23, .warden, 3, by decide +kernel⟩,
    ⟨on, 23, by decide +kernel⟩,
    ⟨((on).setChan 23 { rxq0 := [{ no := 0, record := List.replicate 40 0 }, { no := 1, record := List.replicate 40 1 }], rxq1 := [{ no := 2, record := List.replicate 40 2 }] }), 23, false, { no := 0, record := List.replicate 40 0 }, by decide +kernel⟩,
    ⟨((((((((((({ (on) with elapsed := 55 }).setChan 23 { rxq0 := [{ no := 0, record := List.replicate 40 0 }, { no := 1, record := List.replicate 40 1 }], rxq1 := [{ no := 2, record := List.replicate 40 2 }] }).wr SYS_POLDER 4095).wr (SWC_BERM_LO 7) 0x40404040).wr (SWC_BERM_HI 7) 0x40404040).wr (SWC_BERM_LO 6) 0x40404040).wr (SWC_BERM_HI 6) 0x40404040).wr (SWC_PORT_CFG 30) 0x31).wr (SWC_PORT_CFG 28) 0x31)).mwr (0x30480000 + 4 * (23 * 2048)) 4 1), 23, false, { no := 0, record := List.replicate 40 0 }, by decide +kernel, by decide +kernel, 1, by decide +kernel⟩,
    ⟨((((((((((({ (on) with elapsed := 55 }).setChan 23 { rxq0 := [{ no := 0, record := List.replicate 40 0 }, { no := 1, record := List.replicate 40 1 }], rxq1 := [{ no := 2, record := List.replicate 40 2 }] }).wr SYS_POLDER 4095).wr (SWC_BERM_LO 7) 0x40404040).wr (SWC_BERM_HI 7) 0x40404040).wr (SWC_BERM_LO 6) 0x40404040).wr (SWC_BERM_HI 6) 0x40404040).wr (SWC_PORT_CFG 30) 0x31).wr (SWC_PORT_CFG 28) 0x31)).mwr (0x30480000 + 4 * (23 * 2048)) 4 1), 23, { no := 0, record := List.replicate 40 0 }, 1, by decide +kernel⟩⟩

theorem witness_CanTransmission :
    (∃ s : State, ∃ n : Fin 24, (s.stagedAt 30 = [])) ∧
    (∃ s : State, ∃ n : Fin 24, ∃ f : Frame, ∃ rest : List Frame, (s.stagedAt 30 = f :: rest) ∧ (24 ≤ recChannel f.data)) ∧
    (∃ s : State, ∃ n : Fin 24, ∃ f : Frame, ∃ rest : List Frame, (s.stagedAt 30 = f :: rest) ∧ (recChannel f.data = n)) ∧
    (∃ s : State, ∃ n : Fin 24, ∃ m : Master, ∃ v : Word, (s.writable m (CAN_TXR_CMD n)) ∧ (recLen (s.txrRecord n) ≤ 64)) ∧
    (∃ s : State, ∃ n : Fin 24, ∃ m : Master, ∃ v : Word, (s.writable m (CAN_TXR_CMD n)) ∧ (64 < recLen (s.txrRecord n))) ∧
    (∃ s : State, ∃ n : Fin 24, (let c := s.chan n; (c.backlog = []))) ∧
    (∃ s : State, ∃ n : Fin 24, (let c := s.chan n; ∃ h : List Byte, ∃ rest : List (List Byte), (c.backlog = h :: rest) ∧ ∃ b : Fin 3, ((∀ k < b.val, c.loaded k = true)) ∧ (c.loaded b = false))) ∧
    (∃ s : State, ∃ n : Fin 24, (let c := s.chan n; ∃ h : List Byte, ∃ rest : List (List Byte), (c.backlog = h :: rest) ∧ ∃ b : Fin 3, (((∀ k < 3, c.loaded k = true)) ∧ (c.onBus ≠ some b.val) ∧ ((∀ k < 3, k ≠ b.val → c.onBus ≠ some k → recKey (c.buf k) < recKey (c.buf b))) ∧ (s.fldB (CAN_CTL n) CAN_CTL_tx_order = false) ∧ (recKey h < recKey (c.buf b))))) ∧
    (∃ s : State, ∃ n : Fin 24, (let c := s.chan n; ∃ h : List Byte, ∃ rest : List (List Byte), ((c.backlog = h :: rest) ∧ ((∀ k < 3, c.loaded k = true)) ∧ (s.fldB (CAN_CTL n) CAN_CTL_tx_order = true ∨ (∀ k < 3, c.onBus ≠ some k → recKey (c.buf k) ≤ recKey h))))) ∧
    (∃ s : State, ∃ n : Fin 24, (let c := s.chan n; (let quiet := s.wrd.safeCan.find? (fun e => e.1 == n.val) = none; (quiet) ∧ (c.onBus = none)))) ∧
    (∃ s : State, ∃ n : Fin 24, (let c := s.chan n; (let quiet := s.wrd.safeCan.find? (fun e => e.1 == n.val) = none; ∃ b : Fin 3, ((quiet) ∧ (c.onBus = some b.val) ∧ (c.mode ≠ 4))))) ∧
    (∃ s : State, ∃ n : Fin 24, (let c := s.chan n; (let quiet := s.wrd.safeCan.find? (fun e => e.1 == n.val) = none; ∃ b : Fin 3, ((quiet) ∧ (c.onBus = some b.val) ∧ (c.mode = 4))))) ∧
    (∃ s : State, ∃ n : Fin 24, (let c := s.chan n; (let quiet := s.wrd.safeCan.find? (fun e => e.1 == n.val) = none; ∃ b : Fin 3, ((quiet) ∧ (c.onBus = some b.val) ∧ (s.fldB (CAN_CTL n) CAN_CTL_dar = false))))) ∧
    (∃ s : State, ∃ n : Fin 24, (let c := s.chan n; (let quiet := s.wrd.safeCan.find? (fun e => e.1 == n.val) = none; ∃ b : Fin 3, ((quiet) ∧ (c.onBus = some b.val) ∧ (s.fldB (CAN_CTL n) CAN_CTL_dar = true))))) ∧
    (∃ s : State, ∃ n : Fin 24, (let c := s.chan n; (let quiet := s.wrd.safeCan.find? (fun e => e.1 == n.val) = none; ∃ b : Fin 3, ((quiet) ∧ (c.onBus = some b.val) ∧ (c.lateCancel.contains b.val = true))))) ∧
    (∃ s : State, ∃ n : Fin 24, (let c := s.chan n; (let quiet := s.wrd.safeCan.find? (fun e => e.1 == n.val) = none; ∃ b : Fin 3, ((quiet) ∧ (c.onBus = some b.val) ∧ (c.lateCancel.contains b.val = false) ∧ (s.fldB (CAN_CTL n) CAN_CTL_dar = true))))) ∧
    (∃ s : State, ∃ n : Fin 24, (let c := s.chan n; (let quiet := s.wrd.safeCan.find? (fun e => e.1 == n.val) = none; ∃ b : Fin 3, ((quiet) ∧ (c.onBus = some b.val) ∧ (c.lateCancel.contains b.val = false) ∧ (s.fldB (CAN_CTL n) CAN_CTL_dar = false))))) ∧
    (∃ s : State, ∃ n : Fin 24, (let c := s.chan n; (let quiet := s.wrd.safeCan.find? (fun e => e.1 == n.val) = none; ∃ d : Bool, (quiet) ∧ (c.onBus = none ∨ c.mode = 4 ∨ (∃ b ∈ c.onBus, s.pastP n b = false))))) ∧
    (∃ s : State, ∃ n : Fin 24, (let c := s.chan n; (let quiet := s.wrd.safeCan.find? (fun e => e.1 == n.val) = none; ∃ b : Fin 3, ∃ d : Bool, ((quiet) ∧ (c.onBus = some b.val) ∧ (c.mode ≠ 4) ∧ (s.pastP n b = true) ∧ (s.canTec n < 248))))) ∧
    (∃ s : State, ∃ n : Fin 24, (let c := s.chan n; (let quiet := s.wrd.safeCan.find? (fun e => e.1 == n.val) = none; ∃ m : Master, ∃ b : Fin 3, ∃ v : Word, ((s.writable m (CAN_TXB_CMD n b)) ∧ (quiet) ∧ (c.loaded b = false))))) ∧
    (∃ s : State, ∃ n : Fin 24, (let c := s.chan n; (let quiet := s.wrd.safeCan.find? (fun e => e.1 == n.val) = none; ∃ m : Master, ∃ b : Fin 3, ∃ v : Word, ((s.writable m (CAN_TXB_CMD n b)) ∧ (quiet) ∧ (c.loaded b = true) ∧ (c.onBus ≠ some b.val))))) ∧
    (∃ s : State, ∃ n : Fin 24, (let c := s.chan n; (let quiet := s.wrd.safeCan.find? (fun e => e.1 == n.val) = none; ∃ m : Master, ∃ b : Fin 3, ∃ v : Word, ((s.writable m (CAN_TXB_CMD n b)) ∧ (quiet) ∧ (c.loaded b = true) ∧ (c.onBus = some b.val) ∧ (s.pastP n b = false))))) ∧
    (∃ s : State, ∃ n : Fin 24, (let c := s.chan n; (let quiet := s.wrd.safeCan.find? (fun e => e.1 == n.val) = none; ∃ m : Master, ∃ b : Fin 3, ∃ v : Word, ((s.writable m (CAN_TXB_CMD n b)) ∧ (quiet) ∧ (c.loaded b = true) ∧ (s.pastP n b = true))))) ∧
    (∃ s : State, ∃ n : Fin 24, (let quiet := s.wrd.safeCan.find? (fun e => e.1 == n.val) = none; ∃ m : Master, ∃ v : Word, (s.writable m (CAN_TX_CTL n)) ∧ (quiet))) ∧
    (∃ s : State, ∃ n : Fin 24, (let c := s.chan n; ∃ r : List Byte, ((s.wrd.safeCan.find? (fun e => e.1 == n.val) = some (n.val, r)) ∧ (c.onBus = none) ∧ (c.loaded 0 = false)))) := by
  exact ⟨⟨on, 23, by decide +kernel⟩,
    ⟨{ ((((on).setFld (CAN_CTL 23) CAN_CTL_mode (1)).setFld (CAN_STATUS 23) CAN_STATUS_state (2)).setChan 23 { mode := 1 }) with sw := { (on).sw with staged := [(30, [{ input := 30, data := (leBytes 4 (31 + 8 * 2 ^ 16 + 0) ++ leBytes 4 0 ++ List.replicate 32 0) }])] } }, 23, { input := 30, data := (leBytes 4 (31 + 8 * 2 ^ 16 + 0) ++ leBytes 4 0 ++ List.replicate 32 0) }, [], by decide +kernel⟩,
    ⟨{ ((((on).setFld (CAN_CTL 23) CAN_CTL_mode (1)).setFld (CAN_STATUS 23) CAN_STATUS_state (2)).setChan 23 { mode := 1 }) with sw := { (on).sw with staged := [(30, [{ input := 30, data := (leBytes 4 (23 + 8 * 2 ^ 16 + 0) ++ leBytes 4 0 ++ List.replicate 32 0) }])] } }, 23, { input := 30, data := (leBytes 4 (23 + 8 * 2 ^ 16 + 0) ++ leBytes 4 0 ++ List.replicate 32 0) }, [], by decide +kernel⟩,
    ⟨(((((on).setFld (CAN_CTL 23) CAN_CTL_mode (1)).setFld (CAN_STATUS 23) CAN_STATUS_state (2)).setChan 23 { mode := 1 }).wr (CAN_TXR 23 0) (8 * 2 ^ 16)), 23, .warden, 1, by decide +kernel⟩,
    ⟨(((((on).setFld (CAN_CTL 23) CAN_CTL_mode (1)).setFld (CAN_STATUS 23) CAN_STATUS_state (2)).setChan 23 { mode := 1 }).wr (CAN_TXR 23 0) (65 * 2 ^ 16)), 23, .warden, 1, by decide +kernel⟩,
    ⟨on, 23, by decide +kernel⟩,
    ⟨(((on).setFld (CAN_STATUS 23) CAN_STATUS_state (2)).setChan 23 { mode := 1, backlog := (leBytes 4 (23 + 8 * 2 ^ 16 + 0) ++ leBytes 4 5 ++ List.replicate 32 0) :: [(leBytes 4 (23 + 8 * 2 ^ 16 + 0) ++ leBytes 4 6 ++ List.replicate 32 0), (leBytes 4 (23 + 8 * 2 ^ 16 + 0) ++ leBytes 4 30 ++ List.replicate 32 0)], onBus := some 2, lateCancel := [2], bufs := [(0, (leBytes 4 (23 + 8 * 2 ^ 16 + 0) ++ leBytes 4 1 ++ List.replicate 32 0)), (1, (leBytes 4 (23 + 8 * 2 ^ 16 + 0) ++ leBytes 4 2 ++ List.replicate 32 0))] }), 23, ((leBytes 4 (23 + 8 * 2 ^ 16 + 0) ++ leBytes 4 5 ++ List.replicate 32 0)), ([(leBytes 4 (23 + 8 * 2 ^ 16 + 0) ++ leBytes 4 6 ++ List.replicate 32 0), (leBytes 4 (23 + 8 * 2 ^ 16 + 0) ++ leBytes 4 30 ++ List.replicate 32 0)]), by decide +kernel, 2, by decide +kernel⟩,
    ⟨(((on).setFld (CAN_STATUS 23) CAN_STATUS_state (2)).setChan 23 { mode := 1, backlog := (leBytes 4 (23 + 8 * 2 ^ 16 + 0) ++ leBytes 4 5 ++ List.replicate 32 0) :: [(leBytes 4 (23 + 8 * 2 ^ 16 + 0) ++ leBytes 4 6 ++ List.replicate 32 0), (leBytes 4 (23 + 8 * 2 ^ 16 + 0) ++ leBytes 4 30 ++ List.replicate 32 0)], bufs := [(0, (leBytes 4 (23 + 8 * 2 ^ 16 + 0) ++ leBytes 4 1 ++ List.replicate 32 0)), (1, (leBytes 4 (23 + 8 * 2 ^ 16 + 0) ++ leBytes 4 20 ++ List.replicate 32 0)), (2, (leBytes 4 (23 + 8 * 2 ^ 16 + 0) ++ leBytes 4 10 ++ List.replicate 32 0))] }), 23, ((leBytes 4 (23 + 8 * 2 ^ 16 + 0) ++ leBytes 4 5 ++ List.replicate 32 0)), ([(leBytes 4 (23 + 8 * 2 ^ 16 + 0) ++ leBytes 4 6 ++ List.replicate 32 0), (leBytes 4 (23 + 8 * 2 ^ 16 + 0) ++ leBytes 4 30 ++ List.replicate 32 0)]), by decide +kernel, 1, by decide +kernel⟩,
    ⟨((((on).setFld (CAN_STATUS 23) CAN_STATUS_state (2)).setChan 23 { mode := 1, backlog := (leBytes 4 (23 + 8 * 2 ^ 16 + 0) ++ leBytes 4 5 ++ List.replicate 32 0) :: [(leBytes 4 (23 + 8 * 2 ^ 16 + 0) ++ leBytes 4 6 ++ List.replicate 32 0), (leBytes 4 (23 + 8 * 2 ^ 16 + 0) ++ leBytes 4 30 ++ List.replicate 32 0)], bufs := [(0, (leBytes 4 (23 + 8 * 2 ^ 16 + 0) ++ leBytes 4 1 ++ List.replicate 32 0)), (1, (leBytes 4 (23 + 8 * 2 ^ 16 + 0) ++ leBytes 4 20 ++ List.replicate 32 0)), (2, (leBytes 4 (23 + 8 * 2 ^ 16 + 0) ++ leBytes 4 10 ++ List.replicate 32 0))] }).setFld (CAN_CTL 23) CAN_CTL_tx_order (1)), 23, ((leBytes 4 (23 + 8 * 2 ^ 16 + 0) ++ leBytes 4 5 ++ List.replicate 32 0)), ([(leBytes 4 (23 + 8 * 2 ^ 16 + 0) ++ leBytes 4 6 ++ List.replicate 32 0), (leBytes 4 (23 + 8 * 2 ^ 16 + 0) ++ leBytes 4 30 ++ List.replicate 32 0)]), by decide +kernel⟩,
    ⟨on, 23, by decide +kernel⟩,
    ⟨((((on).setFld (CAN_STATUS 23) CAN_STATUS_state (2)).setChan 23 { mode := 1, onBus := some 2, sof := 0x1234567890, backlog := [(leBytes 4 (23 + 8 * 2 ^ 16 + 0) ++ leBytes 4 5 ++ List.replicate 32 0)], bufs := [(0, (leBytes 4 (23 + 8 * 2 ^ 16 + 0) ++ leBytes 4 1 ++ List.replicate 32 0)), (1, (leBytes 4 (23 + 8 * 2 ^ 16 + 0) ++ leBytes 4 20 ++ List.replicate 32 0)), (2, (leBytes 4 (23 + 8 * 2 ^ 16 + 0) ++ leBytes 4 10 ++ List.replicate 32 0))] }).setFld (CAN_ERR 23) CAN_ERR_tec (5)), 23, 2, by decide +kernel⟩,
    ⟨((((on).setFld (CAN_STATUS 23) CAN_STATUS_state (2)).setChan 23 { mode := 4, onBus := some 2, sof := 0x1234567890, backlog := [(leBytes 4 (23 + 8 * 2 ^ 16 + 0) ++ leBytes 4 5 ++ List.replicate 32 0)], bufs := [(0, (leBytes 4 (23 + 8 * 2 ^ 16 + 0) ++ leBytes 4 1 ++ List.replicate 32 0)), (1, (leBytes 4 (23 + 8 * 2 ^ 16 + 0) ++ leBytes 4 20 ++ List.replicate 32 0)), (2, (leBytes 4 (23 + 8 * 2 ^ 16 + 0) ++ leBytes 4 10 ++ List.replicate 32 0))] }).setFld (CAN_CTL 23) CAN_CTL_flt_default (2)), 23, 2, by decide +kernel⟩,
    ⟨(((on).setFld (CAN_STATUS 23) CAN_STATUS_state (2)).setChan 23 { mode := 1, onBus := some 2, sof := 0x1234567890, backlog := [(leBytes 4 (23 + 8 * 2 ^ 16 + 0) ++ leBytes 4 5 ++ List.replicate 32 0)], bufs := [(0, (leBytes 4 (23 + 8 * 2 ^ 16 + 0) ++ leBytes 4 1 ++ List.replicate 32 0)), (1, (leBytes 4 (23 + 8 * 2 ^ 16 + 0) ++ leBytes 4 20 ++ List.replicate 32 0)), (2, (leBytes 4 (23 + 8 * 2 ^ 16 + 0) ++ leBytes 4 10 ++ List.replicate 32 0))] }), 23, 2, by decide +kernel⟩,
    ⟨((((on).setFld (CAN_STATUS 23) CAN_STATUS_state (2)).setChan 23 { mode := 1, onBus := some 2, sof := 0x1234567890, backlog := [(leBytes 4 (23 + 8 * 2 ^ 16 + 0) ++ leBytes 4 5 ++ List.replicate 32 0)], bufs := [(0, (leBytes 4 (23 + 8 * 2 ^ 16 + 0) ++ leBytes 4 1 ++ List.replicate 32 0)), (1, (leBytes 4 (23 + 8 * 2 ^ 16 + 0) ++ leBytes 4 20 ++ List.replicate 32 0)), (2, (leBytes 4 (23 + 8 * 2 ^ 16 + 0) ++ leBytes 4 10 ++ List.replicate 32 0))] }).setFld (CAN_CTL 23) CAN_CTL_dar (1)), 23, 2, by decide +kernel⟩,
    ⟨((((on).setFld (CAN_STATUS 23) CAN_STATUS_state (2)).setChan 23 { mode := 1, onBus := some 2, sof := 0x1234567890, backlog := [(leBytes 4 (23 + 8 * 2 ^ 16 + 0) ++ leBytes 4 5 ++ List.replicate 32 0)], bufs := [(0, (leBytes 4 (23 + 8 * 2 ^ 16 + 0) ++ leBytes 4 1 ++ List.replicate 32 0)), (1, (leBytes 4 (23 + 8 * 2 ^ 16 + 0) ++ leBytes 4 20 ++ List.replicate 32 0)), (2, (leBytes 4 (23 + 8 * 2 ^ 16 + 0) ++ leBytes 4 10 ++ List.replicate 32 0))], lateCancel := [2] }).setFld (CAN_CTL 23) CAN_CTL_dar (1)), 23, 2, by decide +kernel⟩,
    ⟨((((on).setFld (CAN_STATUS 23) CAN_STATUS_state (2)).setChan 23 { mode := 1, onBus := some 2, sof := 0x1234567890, backlog := [(leBytes 4 (23 + 8 * 2 ^ 16 + 0) ++ leBytes 4 5 ++ List.replicate 32 0)], bufs := [(0, (leBytes 4 (23 + 8 * 2 ^ 16 + 0) ++ leBytes 4 1 ++ List.replicate 32 0)), (1, (leBytes 4 (23 + 8 * 2 ^ 16 + 0) ++ leBytes 4 20 ++ List.replicate 32 0)), (2, (leBytes 4 (23 + 8 * 2 ^ 16 + 0) ++ leBytes 4 10 ++ List.replicate 32 0))], lateCancel := [1] }).setFld (CAN_CTL 23) CAN_CTL_dar (1)), 23, 2, by decide +kernel⟩,
    ⟨(((on).setFld (CAN_STATUS 23) CAN_STATUS_state (2)).setChan 23 { mode := 1, onBus := some 2, sof := 0x1234567890, backlog := [(leBytes 4 (23 + 8 * 2 ^ 16 + 0) ++ leBytes 4 5 ++ List.replicate 32 0)], bufs := [(0, (leBytes 4 (23 + 8 * 2 ^ 16 + 0) ++ leBytes 4 1 ++ List.replicate 32 0)), (1, (leBytes 4 (23 + 8 * 2 ^ 16 + 0) ++ leBytes 4 20 ++ List.replicate 32 0)), (2, (leBytes 4 (23 + 8 * 2 ^ 16 + 0) ++ leBytes 4 10 ++ List.replicate 32 0))], lateCancel := [1] }), 23, 2, by decide +kernel⟩,
    ⟨on, 23, true, by decide +kernel⟩,
    ⟨((({ (on) with elapsed := 100000000 }).setFld (CAN_STATUS 23) CAN_STATUS_state (2)).setChan 23 { mode := 1, onBus := some 2, sof := 0x1234567890, backlog := [(leBytes 4 (23 + 8 * 2 ^ 16 + 0) ++ leBytes 4 5 ++ List.replicate 32 0)], bufs := [(0, (leBytes 4 (23 + 8 * 2 ^ 16 + 0) ++ leBytes 4 1 ++ List.replicate 32 0)), (1, (leBytes 4 (23 + 8 * 2 ^ 16 + 0) ++ leBytes 4 20 ++ List.replicate 32 0)), (2, (leBytes 4 (23 + 8 * 2 ^ 16 + 0) ++ leBytes 4 10 ++ List.replicate 32 0))] }), 23, 2, true, by decide +kernel⟩,
    ⟨on, 23, .warden, 2, 1, by decide +kernel⟩,
    ⟨((({ (on) with elapsed := 100000000 }).setFld (CAN_STATUS 23) CAN_STATUS_state (2)).setChan 23 { mode := 1, onBus := some 2, sof := 0x1234567890, backlog := [(leBytes 4 (23 + 8 * 2 ^ 16 + 0) ++ leBytes 4 5 ++ List.replicate 32 0)], bufs := [(0, (leBytes 4 (23 + 8 * 2 ^ 16 + 0) ++ leBytes 4 1 ++ List.replicate 32 0)), (1, (leBytes 4 (23 + 8 * 2 ^ 16 + 0) ++ leBytes 4 20 ++ List.replicate 32 0)), (2, (leBytes 4 (23 + 8 * 2 ^ 16 + 0) ++ leBytes 4 10 ++ List.replicate 32 0))] }), 23, .warden, 1, 1, by decide +kernel⟩,
    ⟨(((on).setFld (CAN_STATUS 23) CAN_STATUS_state (2)).setChan 23 { mode := 1, onBus := some 2, sof := 0x1234567890, backlog := [(leBytes 4 (23 + 8 * 2 ^ 16 + 0) ++ leBytes 4 5 ++ List.replicate 32 0)], bufs := [(0, (leBytes 4 (23 + 8 * 2 ^ 16 + 0) ++ leBytes 4 1 ++ List.replicate 32 0)), (1, (leBytes 4 (23 + 8 * 2 ^ 16 + 0) ++ leBytes 4 20 ++ List.replicate 32 0)), (2, (leBytes 4 (23 + 8 * 2 ^ 16 + 0) ++ leBytes 4 10 ++ List.replicate 32 0))] }), 23, .warden, 2, 1, by decide +kernel⟩,
    ⟨((({ (on) with elapsed := 100000000 }).setFld (CAN_STATUS 23) CAN_STATUS_state (2)).setChan 23 { mode := 1, onBus := some 2, sof := 0x1234567890, backlog := [(leBytes 4 (23 + 8 * 2 ^ 16 + 0) ++ leBytes 4 5 ++ List.replicate 32 0)], bufs := [(0, (leBytes 4 (23 + 8 * 2 ^ 16 + 0) ++ leBytes 4 1 ++ List.replicate 32 0)), (1, (leBytes 4 (23 + 8 * 2 ^ 16 + 0) ++ leBytes 4 20 ++ List.replicate 32 0)), (2, (leBytes 4 (23 + 8 * 2 ^ 16 + 0) ++ leBytes 4 10 ++ List.replicate 32 0))] }), 23, .warden, 2, 1, by decide +kernel⟩,
    ⟨((({ (on) with elapsed := 100000000 }).setFld (CAN_STATUS 23) CAN_STATUS_state (2)).setChan 23 { mode := 1, onBus := some 2, sof := 0x1234567890, backlog := [(leBytes 4 (23 + 8 * 2 ^ 16 + 0) ++ leBytes 4 5 ++ List.replicate 32 0)], bufs := [(0, (leBytes 4 (23 + 8 * 2 ^ 16 + 0) ++ leBytes 4 1 ++ List.replicate 32 0)), (1, (leBytes 4 (23 + 8 * 2 ^ 16 + 0) ++ leBytes 4 20 ++ List.replicate 32 0)), (2, (leBytes 4 (23 + 8 * 2 ^ 16 + 0) ++ leBytes 4 10 ++ List.replicate 32 0))] }), 23, .warden, 1, by decide +kernel⟩,
    ⟨{ (((on).setFld (CAN_STATUS 23) CAN_STATUS_state (2)).setChan 23 { mode := 1, bufs := [(1, (leBytes 4 (23 + 8 * 2 ^ 16 + 0) ++ leBytes 4 0 ++ List.replicate 32 0))] }) with wrd := { (on).wrd with safeCan := [(23, [1,2,3]), (4,[5])] } }, 23, [1,2,3], by decide +kernel⟩⟩

theorem witness_KeeperAlu :
    (∃ s : State, ∃ c : Fin 64, ∃ iv : Invocation, ∃ rd : Fin 32, ∃ rs1 : Fin 32, ∃ rs2 : Fin 32, (let a := iv.g rs1; (let b := iv.g rs2; (let n := b.toNat % 32; ∃ x, x ∈ ([(0x00, .add c rd rs1 rs2, a + b), (0x01, .sub c rd rs1 rs2, a - b), (0x02, .and c rd rs1 rs2, a &&& b), (0x03, .or c rd rs1 rs2, a ||| b), (0x04, .xor c rd rs1 rs2, a ^^^ b), (0x05, .sll c rd rs1 rs2, a <<< n), (0x06, .srl c rd rs1 rs2, a >>> n), (0x07, .sra c rd rs1 rs2, BitVec.ofInt 32 (a.toInt / 2 ^ n)), (0x08, .slt c rd rs1 rs2, if a.toInt < b.toInt then 1 else 0), (0x09, .sltu c rd rs1 rs2, if a.toNat < b.toNat then 1 else 0), (0x0A, .mul c rd rs1 rs2, a * b), (0x0B, .mulh c rd rs1 rs2, BitVec.ofInt 32 (a.toInt * b.toInt / 2 ^ 32)), (0x0C, .mulhu c rd rs1 rs2, BitVec.ofNat 32 (a.toNat * b.toNat / 2 ^ 32)), (0x0D, .div c rd rs1 rs2, if b = 0 then 0xFFFFFFFF#32 else BitVec.ofInt 32 (a.toInt.tdiv b.toInt)), (0x0E, .divu c rd rs1 rs2, if b = 0 then 0xFFFFFFFF#32 else BitVec.ofNat 32 (a.toNat / b.toNat)), (0x0F, .rem c rd rs1 rs2, if b = 0 then a else BitVec.ofInt 32 (a.toInt.tmod b.toInt)), (0x10, .remu c rd rs1 rs2, if b = 0 then a else BitVec.ofNat 32 (a.toNat % b.toNat)), (0x11, .min c rd rs1 rs2, if a.toInt < b.toInt then a else b), (0x12, .max c rd rs1 rs2, if a.toInt < b.toInt then b else a), (0x13, .minu c rd rs1 rs2, if a.toNat < b.toNat then a else b), (0x14, .maxu c rd rs1 rs2, if a.toNat < b.toNat then b else a)] : List (Nat × Instr × Word)) ∧ (s.kReady c iv (fmtR 0x01 rd rs1 rs2 x.1) 1))))) ∧
    (∃ s : State, ∃ c : Fin 64, ∃ iv : Invocation, ∃ rd : Fin 32, ∃ rs1 : Fin 32, ∃ rs2 : Fin 32, (s.kReady c iv (fmtR 0x01 rd rs1 0 0x15) 1)) ∧
    (∃ s : State, ∃ c : Fin 64, ∃ iv : Invocation, ∃ rd : Fin 32, ∃ rs1 : Fin 32, ∃ rs2 : Fin 32, (s.kReady c iv (fmtR 0x01 rd rs1 0 0x16) 1)) ∧
    (∃ s : State, ∃ c : Fin 64, ∃ iv : Invocation, ∃ rd : Fin 32, ∃ rs1 : Fin 32, ∃ rs2 : Fin 32, (rs2 ≠ 0)) ∧
    (∃ s : State, ∃ c : Fin 64, ∃ iv : Invocation, ∃ rd : Fin 32, ∃ rs1 : Fin 32, ∃ rs2 : Fin 32, (rs2 ≠ 0)) := by
  exact ⟨⟨((kst (on) (fmtR 0x01 3 1 2 0x0D) (kiv (0x80000000) (0xFFFFFFFF) (0)))), 63, ((kiv (0x80000000) (0xFFFFFFFF) (0))), 3, 1, 2, ((0x0D, .div 63 3 1 2, 0x80000000#32)), by decide +kernel⟩,
    ⟨((kst (on) (fmtR 0x01 3 1 0 0x15) (kiv (0x12345678) (0) (0)))), 63, ((kiv (0x12345678) (0) (0))), 3, 1, 2, by decide +kernel⟩,
    ⟨((kst (on) (fmtR 0x01 3 1 0 0x16) (kiv (0x12345678) (0) (0)))), 63, ((kiv (0x12345678) (0) (0))), 3, 1, 2, by decide +kernel⟩,
    ⟨((kst (on) (0) (kiv (0) (0) (0)))), 63, ((kiv (0) (0) (0))), 3, 1, 31, by decide +kernel⟩,
    ⟨((kst (on) (0) (kiv (0) (0) (0)))), 63, ((kiv (0) (0) (0))), 3, 1, 31, by decide +kernel⟩⟩

theorem witness_KeeperControl :
    (∃ s : State, ∃ c : Fin 64, ∃ iv : Invocation, ∃ rd : Fin 32, ∃ rs1 : Fin 32, ∃ rs2 : Fin 32, ∃ k : Fin 65536, ∃ n : Fin 32, ∃ o : Fin 67108864, (let a := iv.g rs1; (let sx : Word := (BitVec.ofNat 16 k.val).signExtend 32; (let zx : Word := (BitVec.ofNat 16 k.val).zeroExtend 32; ∃ x, x ∈ ([(0x02, .addi c rd rs1 k, a + sx), (0x03, .andi c rd rs1 k, a &&& zx), (0x04, .ori c rd rs1 k, a ||| zx), (0x05, .xori c rd rs1 k, a ^^^ zx), (0x06, .slti c rd rs1 k, if a.toInt < sx.toInt then 1 else 0), (0x07, .sltiu c rd rs1 k, if a.toNat < sx.toNat then 1 else 0)] : List (Nat × Instr × Word)) ∧ (s.kReady c iv (fmtI x.1 rd rs1 k) 1))))) ∧
    (∃ s : State, ∃ c : Fin 64, ∃ iv : Invocation, ∃ rd : Fin 32, ∃ rs1 : Fin 32, ∃ rs2 : Fin 32, ∃ k : Fin 65536, ∃ n : Fin 32, ∃ o : Fin 67108864, (let a := iv.g rs1; ∃ x, x ∈ ([(0, .slli c rd rs1 n, a <<< n.val), (1, .srli c rd rs1 n, a >>> n.val), (2, .srai c rd rs1 n, BitVec.ofInt 32 (a.toInt / 2 ^ n.val))] : List (Nat × Instr × Word)) ∧ (s.kReady c iv (fmtI 0x08 rd rs1 (x.1 * 32 + n)) 1))) ∧
    (∃ s : State, ∃ c : Fin 64, ∃ iv : Invocation, ∃ rd : Fin 32, ∃ rs1 : Fin 32, ∃ rs2 : Fin 32, ∃ k : Fin 65536, ∃ n : Fin 32, ∃ o : Fin 67108864, (s.kReady c iv (fmtI 0x09 rd 0 k) 1)) ∧
    (∃ s : State, ∃ c : Fin 64, ∃ iv : Invocation, ∃ rd : Fin 32, ∃ rs1 : Fin 32, ∃ rs2 : Fin 32, ∃ k : Fin 65536, ∃ n : Fin 32, ∃ o : Fin 67108864, (s.kReady c iv (fmtI 0x0A rd 0 k) 1)) ∧
    (∃ s : State, ∃ c : Fin 64, ∃ iv : Invocation, ∃ rd : Fin 32, ∃ rs1 : Fin 32, ∃ rs2 : Fin 32, ∃ k : Fin 65536, ∃ n : Fin 32, ∃ o : Fin 67108864, (let a := iv.g rs1; (let b := iv.g rs2; ∃ x, x ∈ ([(0x13, .beq c rs1 rs2 k, decide (a = b)), (0x14, .bne c rs1 rs2 k, decide (a ≠ b)), (0x15, .blt c rs1 rs2 k, decide (a.toInt < b.toInt)), (0x16, .bge c rs1 rs2 k, decide (b.toInt ≤ a.toInt)), (0x17, .bltu c rs1 rs2 k, decide (a.toNat < b.toNat)), (0x18, .bgeu c rs1 rs2 k, decide (b.toNat ≤ a.toNat))] : List (Nat × Instr × Bool)) ∧ (s.kReady c iv (fmtI x.1 rs1 rs2 k) 1)))) ∧
    (∃ s : State, ∃ c : Fin 64, ∃ iv : Invocation, ∃ rd : Fin 32, ∃ rs1 : Fin 32, ∃ rs2 : Fin 32, ∃ k : Fin 65536, ∃ n : Fin 32, ∃ o : Fin 67108864, (s.kReady c iv (0x19 * 2 ^ 26 + o) 1)) ∧
    (∃ s : State, ∃ c : Fin 64, ∃ iv : Invocation, ∃ rd : Fin 32, ∃ rs1 : Fin 32, ∃ rs2 : Fin 32, ∃ k : Fin 65536, ∃ n : Fin 32, ∃ o : Fin 67108864, (s.kReady c iv (0x1A * 2 ^ 26 + o) 1)) ∧
    (∃ s : State, ∃ c : Fin 64, ∃ iv : Invocation, ∃ rd : Fin 32, ∃ rs1 : Fin 32, ∃ rs2 : Fin 32, ∃ k : Fin 65536, ∃ n : Fin 32, ∃ o : Fin 67108864, (let a := iv.g rs1; (let sx : Word := (BitVec.ofNat 16 k.val).signExtend 32; (s.kReady c iv (fmtI 0x1B rd rs1 k) 1) ∧ ((a + sx).toNat % 4 = 0)))) ∧
    (∃ s : State, ∃ c : Fin 64, ∃ iv : Invocation, ∃ rd : Fin 32, ∃ rs1 : Fin 32, ∃ rs2 : Fin 32, ∃ k : Fin 65536, ∃ n : Fin 32, ∃ o : Fin 67108864, (let a := iv.g rs1; (let sx : Word := (BitVec.ofNat 16 k.val).signExtend 32; (s.kReady c iv (fmtI 0x1B rd rs1 k) 1) ∧ ((a + sx).toNat % 4 ≠ 0)))) ∧
    (∃ s : State, ∃ c : Fin 64, ∃ iv : Invocation, ∃ rd : Fin 32, ∃ rs1 : Fin 32, ∃ rs2 : Fin 32, ∃ k : Fin 65536, ∃ n : Fin 32, ∃ o : Fin 67108864, ∃ x, x ∈ ([(fmtR 0x3E 0 0 0 0, .nop c, iv.after 0 0 1), (fmtR 0x3E rd 0 0 3, .budl c rd, iv.after rd (BitVec.ofNat 32 (iv.left - 1)) 1), (fmtR 0x3E rd 0 0 4, .who c rd, iv.after rd (BitVec.ofNat 32 (c.val + c.val / 16 * 64 + s.fabAddr * 256 + iv.ev.routine * 8192)) 1)] : List (Nat × Instr × Invocation)) ∧ (s.kReady c iv x.1 1)) ∧
    (∃ s : State, ∃ c : Fin 64, ∃ iv : Invocation, ∃ rd : Fin 32, ∃ rs1 : Fin 32, ∃ rs2 : Fin 32, ∃ k : Fin 65536, ∃ n : Fin 32, ∃ o : Fin 67108864, ∃ pair : Fin 15, ∃ lo : Fin 32, ∃ hi : Fin 32, ((lo.val = 2 * pair.val + 2) ∧ (hi.val = lo.val + 1) ∧ (s.kReady c iv (fmtR 0x3E lo 0 0 1) 1))) ∧
    (∃ s : State, ∃ c : Fin 64, ∃ iv : Invocation, ∃ rd : Fin 32, ∃ rs1 : Fin 32, ∃ rs2 : Fin 32, ∃ k : Fin 65536, ∃ n : Fin 32, ∃ o : Fin 67108864, (s.kReady c iv (fmtR 0x3E rd 0 0 2) 1)) ∧
    (∃ s : State, ∃ c : Fin 64, ∃ iv : Invocation, ∃ rd : Fin 32, ∃ rs1 : Fin 32, ∃ rs2 : Fin 32, ∃ k : Fin 65536, ∃ n : Fin 32, ∃ o : Fin 67108864, ((iv.sputs = []) ∧ (iv.emits = []) ∧ (iv.timers = []) ∧ (iv.hsets = []) ∧ (s.outboundRoom c iv = true) ∧ (s.kReady c iv (fmtR 0x3F 0 0 0 0) 1))) ∧
    (∃ s : State, ∃ c : Fin 64, ∃ iv : Invocation, ∃ rd : Fin 32, ∃ rs1 : Fin 32, ∃ rs2 : Fin 32, ∃ k : Fin 65536, ∃ n : Fin 32, ∃ o : Fin 67108864, ((iv.sputs = []) ∧ (iv.emits = []) ∧ (iv.timers = []) ∧ (iv.hsets = []) ∧ (s.outboundRoom c iv = true) ∧ (s.inv c = some iv) ∧ (iv.wait = .done))) ∧
    (∃ s : State, ∃ c : Fin 64, ∃ iv : Invocation, ∃ rd : Fin 32, ∃ rs1 : Fin 32, ∃ rs2 : Fin 32, ∃ k : Fin 65536, ∃ n : Fin 32, ∃ o : Fin 67108864, (s.kReady c iv (fmtR 0x3F 0 0 0 1) 1)) ∧
    (∃ s : State, ∃ c : Fin 64, ∃ iv : Invocation, ∃ rd : Fin 32, ∃ rs1 : Fin 32, ∃ rs2 : Fin 32, ∃ k : Fin 65536, ∃ n : Fin 32, ∃ o : Fin 67108864, ∃ w : Nat, (s.kReady c iv w 0) ∧ (atnDecode w = none)) := by
  exact ⟨⟨((kst (on) (fmtI 0x02 3 1 65535) (kiv (0) (0) (0)))), 63, ((kiv (0) (0) (0))), 3, 1, 2, 65535, 0, 0, ((0x02, .addi 63 3 1 65535, 0xFFFFFFFF#32)), by decide +kernel⟩,
    ⟨((kst (on) (fmtI 0x08 3 1 95) (kiv (0x80000000) (0) (0)))), 63, ((kiv (0x80000000) (0) (0))), 3, 1, 2, 0, 31, 0, ((2, .srai 63 3 1 31, 0xFFFFFFFF#32)), by decide +kernel⟩,
    ⟨((kst (on) (fmtI 0x09 3 0 65535) (kiv (0) (0) (0)))), 63, ((kiv (0) (0) (0))), 3, 1, 2, 65535, 0, 0, by decide +kernel⟩,
    ⟨((kst (on) (fmtI 0x0A 3 0 65535) (kiv (0) (0) (0)))), 63, ((kiv (0) (0) (0))), 3, 1, 2, 65535, 0, 0, by decide +kernel⟩,
    ⟨((kst (on) (fmtI 0x16 1 2 65535) (kiv (0x80000000) (1) (0)))), 63, ((kiv (0x80000000) (1) (0))), 3, 1, 2, 65535, 0, 0, ((0x16, .bge 63 1 2 65535, false)), by decide +kernel⟩,
    ⟨((kst (on) (0x19 * 2 ^ 26 + 67108863) (kiv (0) (0) (0)))), 63, ((kiv (0) (0) (0))), 3, 1, 2, 0, 0, 67108863, by decide +kernel⟩,
    ⟨((kst (on) (0x1A * 2 ^ 26 + 33554431) (kiv (0) (0) (0)))), 63, ((kiv (0) (0) (0))), 3, 1, 2, 0, 0, 33554431, by decide +kernel⟩,
    ⟨((kst (on) (fmtI 0x1B 3 1 65535) (kiv (1) (0) (0)))), 63, ((kiv (1) (0) (0))), 3, 1, 2, 65535, 0, 0, by decide +kernel⟩,
    ⟨((kst (on) (fmtI 0x1B 3 1 65535) (kiv (0) (0) (0)))), 63, ((kiv (0) (0) (0))), 3, 1, 2, 65535, 0, 0, by decide +kernel⟩,
    ⟨((kst (on) (fmtR 0x3E 0 0 0 0) ((kiv 0 0 0)))), 63, ((kiv 0 0 0)), 3, 0, 0, 0, 0, 0, (((fmtR 0x3E 0 0 0 0, .nop 63, (kiv 0 0 0).after 0 0 1))), by decide +kernel⟩,
    ⟨{ (kst (on) (fmtR 0x3E 30 0 0 1) ((kiv 0 0 0))) with tide := 0xFFFFFFFF00000001 }, 63, ((kiv 0 0 0)), 0, 0, 0, 0, 0, 0, 14, 30, 31, by decide +kernel⟩,
    ⟨((kst (on) (fmtR 0x3E 31 0 0 2) ((kiv 0 0 0)))), 63, ((kiv 0 0 0)), 31, 0, 0, 0, 0, 0, by decide +kernel⟩,
    ⟨((kst (on) (fmtR 0x3F 0 0 0 0) ((kiv 0 0 0)))), 63, ((kiv 0 0 0)), 0, 0, 0, 0, 0, 0, by decide +kernel⟩,
    ⟨((kst (on) (0) (({ kiv 0 0 0 with wait := .done })))), 63, (({ kiv 0 0 0 with wait := .done })), 0, 0, 0, 0, 0, 0, by decide +kernel⟩,
    ⟨((kst (on) (fmtR 0x3F 0 0 0 1) ((kiv 0 0 0)))), 63, ((kiv 0 0 0)), 0, 0, 0, 0, 0, 0, by decide +kernel⟩,
    ⟨((kst (on) (0) ((kiv 0 0 0)))), 63, ((kiv 0 0 0)), 0, 0, 0, 0, 0, 0, 0, by decide +kernel⟩⟩

theorem witness_KeeperMemory :
    (∃ s : State, ∃ c : Fin 64, ∃ iv : Invocation, ∃ rd : Fin 32, ∃ rs1 : Fin 32, ∃ rs2 : Fin 32, ∃ k : Fin 65536, ∃ p : KPlace, (let r := iv.ev.routine; (let a := (iv.g rs1 + (BitVec.ofNat 16 k.val).signExtend 32).toNat; (let num := fun n => leNat (s.kBytes c iv p n); ∃ x, x ∈ ([(0x0B, .lw c rd rs1 k, 4, BitVec.ofNat 32 (num 4)), (0x0C, .lh c rd rs1 k, 2, (BitVec.ofNat 16 (num 2)).signExtend 32), (0x0D, .lhu c rd rs1 k, 2, BitVec.ofNat 32 (num 2)), (0x0E, .lb c rd rs1 k, 1, (BitVec.ofNat 8 (num 1)).signExtend 32), (0x0F, .lbu c rd rs1 k, 1, BitVec.ofNat 32 (num 1))] : List (Nat × Instr × Nat × Word)) ∧ ((s.kReady c iv (fmtI x.1 rd rs1 k) 1) ∧ (a % x.2.2.1 = 0) ∧ (s.range r a x.2.2.1 = some p)))))) ∧
    (∃ s : State, ∃ c : Fin 64, ∃ iv : Invocation, ∃ rd : Fin 32, ∃ rs1 : Fin 32, ∃ rs2 : Fin 32, ∃ k : Fin 65536, ∃ p : KPlace, (let r := iv.ev.routine; (let a := (iv.g rs1 + (BitVec.ofNat 16 k.val).signExtend 32).toNat; (let num := fun n => leNat (s.kBytes c iv p n); ∃ x, x ∈ ([(0x0B, .lw c rd rs1 k, 4, BitVec.ofNat 32 (num 4)), (0x0C, .lh c rd rs1 k, 2, (BitVec.ofNat 16 (num 2)).signExtend 32), (0x0D, .lhu c rd rs1 k, 2, BitVec.ofNat 32 (num 2)), (0x0E, .lb c rd rs1 k, 1, (BitVec.ofNat 8 (num 1)).signExtend 32), (0x0F, .lbu c rd rs1 k, 1, BitVec.ofNat 32 (num 1))] : List (Nat × Instr × Nat × Word)) ∧ ((s.kReady c iv (fmtI x.1 rd rs1 k) 1) ∧ (a % x.2.2.1 = 0) ∧ (s.range r a x.2.2.1 = none)))))) ∧
    (∃ s : State, ∃ c : Fin 64, ∃ iv : Invocation, ∃ rd : Fin 32, ∃ rs1 : Fin 32, ∃ rs2 : Fin 32, ∃ k : Fin 65536, ∃ p : KPlace, (let a := (iv.g rs1 + (BitVec.ofNat 16 k.val).signExtend 32).toNat; (let num := fun n => leNat (s.kBytes c iv p n); ∃ x, x ∈ ([(0x0B, .lw c rd rs1 k, 4, BitVec.ofNat 32 (num 4)), (0x0C, .lh c rd rs1 k, 2, (BitVec.ofNat 16 (num 2)).signExtend 32), (0x0D, .lhu c rd rs1 k, 2, BitVec.ofNat 32 (num 2)), (0x0E, .lb c rd rs1 k, 1, (BitVec.ofNat 8 (num 1)).signExtend 32), (0x0F, .lbu c rd rs1 k, 1, BitVec.ofNat 32 (num 1))] : List (Nat × Instr × Nat × Word)) ∧ (s.kReady c iv (fmtI x.1 rd rs1 k) 1) ∧ (a % x.2.2.1 ≠ 0)))) ∧
    (∃ s : State, ∃ c : Fin 64, ∃ iv : Invocation, ∃ rd : Fin 32, ∃ rs1 : Fin 32, ∃ rs2 : Fin 32, ∃ k : Fin 65536, ∃ p : KPlace, (let r := iv.ev.routine; (let a := (iv.g rs1 + (BitVec.ofNat 16 k.val).signExtend 32).toNat; ∃ x, x ∈ ([(0x10, .sw c rs2 rs1 k, 4), (0x11, .sh c rs2 rs1 k, 2), (0x12, .sb c rs2 rs1 k, 1)] : List (Nat × Instr × Nat)) ∧ ((s.kReady c iv (fmtI x.1 rs2 rs1 k) 1) ∧ (a % x.2.2 = 0) ∧ (s.range r a x.2.2 = some p) ∧ (p.alia = .plain) ∧ (p.win = .priv ∨ p.win = .shared))))) ∧
    (∃ s : State, ∃ c : Fin 64, ∃ iv : Invocation, ∃ rd : Fin 32, ∃ rs1 : Fin 32, ∃ rs2 : Fin 32, ∃ k : Fin 65536, ∃ p : KPlace, (let r := iv.ev.routine; (let a := (iv.g rs1 + (BitVec.ofNat 16 k.val).signExtend 32).toNat; ∃ x, x ∈ ([(0x10, .sw c rs2 rs1 k, 4), (0x11, .sh c rs2 rs1 k, 2), (0x12, .sb c rs2 rs1 k, 1)] : List (Nat × Instr × Nat)) ∧ ((s.kReady c iv (fmtI x.1 rs2 rs1 k) 1) ∧ (a % x.2.2 = 0) ∧ (s.range r a x.2.2 = some p) ∧ (p.alia = .plain) ∧ (p.win = .emit))))) ∧
    (∃ s : State, ∃ c : Fin 64, ∃ iv : Invocation, ∃ rd : Fin 32, ∃ rs1 : Fin 32, ∃ rs2 : Fin 32, ∃ k : Fin 65536, ∃ p : KPlace, (let r := iv.ev.routine; (let a := (iv.g rs1 + (BitVec.ofNat 16 k.val).signExtend 32).toNat; ∃ x, x ∈ ([(0x10, .sw c rs2 rs1 k, 4), (0x11, .sh c rs2 rs1 k, 2), (0x12, .sb c rs2 rs1 k, 1)] : List (Nat × Instr × Nat)) ∧ ((s.kReady c iv (fmtI x.1 rs2 rs1 k) 1) ∧ (a % x.2.2 = 0) ∧ (s.range r a x.2.2 = some p) ∧ (p.win = .code ∨ p.win = .frame ∨ (p.alia ≠ .plain ∧ (x.2.2 ≠ 4 ∨ p.win = .emit))))))) ∧
    (∃ s : State, ∃ c : Fin 64, ∃ iv : Invocation, ∃ rd : Fin 32, ∃ rs1 : Fin 32, ∃ rs2 : Fin 32, ∃ k : Fin 65536, ∃ p : KPlace, (let r := iv.ev.routine; (let a := (iv.g rs1 + (BitVec.ofNat 16 k.val).signExtend 32).toNat; ∃ x, x ∈ ([(0x10, .sw c rs2 rs1 k, 4), (0x11, .sh c rs2 rs1 k, 2), (0x12, .sb c rs2 rs1 k, 1)] : List (Nat × Instr × Nat)) ∧ ((s.kReady c iv (fmtI x.1 rs2 rs1 k) 1) ∧ (a % x.2.2 = 0) ∧ (s.range r a x.2.2 = none))))) ∧
    (∃ s : State, ∃ c : Fin 64, ∃ iv : Invocation, ∃ rd : Fin 32, ∃ rs1 : Fin 32, ∃ rs2 : Fin 32, ∃ k : Fin 65536, ∃ p : KPlace, (let a := (iv.g rs1 + (BitVec.ofNat 16 k.val).signExtend 32).toNat; ∃ x, x ∈ ([(0x10, .sw c rs2 rs1 k, 4), (0x11, .sh c rs2 rs1 k, 2), (0x12, .sb c rs2 rs1 k, 1)] : List (Nat × Instr × Nat)) ∧ (s.kReady c iv (fmtI x.1 rs2 rs1 k) 1) ∧ (a % x.2.2 ≠ 0))) ∧
    (∃ s : State, ∃ c : Fin 64, ∃ iv : Invocation, ∃ rd : Fin 32, ∃ rs1 : Fin 32, ∃ rs2 : Fin 32, ∃ k : Fin 65536, ∃ p : KPlace, (let r := iv.ev.routine; (let a := (iv.g rs1 + (BitVec.ofNat 16 k.val).signExtend 32).toNat; ((s.kReady c iv (fmtI 0x10 rs2 rs1 k) 1) ∧ (a % 4 = 0) ∧ (s.range r a 4 = some p) ∧ (p.win = .priv ∨ p.win = .shared) ∧ (p.alia = .set))))) ∧
    (∃ s : State, ∃ c : Fin 64, ∃ iv : Invocation, ∃ rd : Fin 32, ∃ rs1 : Fin 32, ∃ rs2 : Fin 32, ∃ k : Fin 65536, ∃ p : KPlace, (let r := iv.ev.routine; (let a := (iv.g rs1 + (BitVec.ofNat 16 k.val).signExtend 32).toNat; ((s.kReady c iv (fmtI 0x10 rs2 rs1 k) 1) ∧ (a % 4 = 0) ∧ (s.range r a 4 = some p) ∧ (p.win = .priv ∨ p.win = .shared) ∧ (p.alia = .clear))))) ∧
    (∃ s : State, ∃ c : Fin 64, ∃ iv : Invocation, ∃ rd : Fin 32, ∃ rs1 : Fin 32, ∃ rs2 : Fin 32, ∃ k : Fin 65536, ∃ p : KPlace, (let r := iv.ev.routine; (let num := fun n => leNat (s.kBytes c iv p n); ∃ old : Word, ((old = BitVec.ofNat 32 (num 4)) ∧ (s.atomAt r (iv.g rs1).toNat = .ok p) ∧ (s.kReady c iv (fmtR 0x1C rd rs1 rs2 0) 2))))) ∧
    (∃ s : State, ∃ c : Fin 64, ∃ iv : Invocation, ∃ rd : Fin 32, ∃ rs1 : Fin 32, ∃ rs2 : Fin 32, ∃ k : Fin 65536, ∃ p : KPlace, (let r := iv.ev.routine; (let num := fun n => leNat (s.kBytes c iv p n); ∃ old : Word, ((old = BitVec.ofNat 32 (num 4)) ∧ (s.atomAt r (iv.g rs1).toNat = .ok p) ∧ (s.kReady c iv (fmtR 0x1C rd rs1 rs2 1) 2))))) ∧
    (∃ s : State, ∃ c : Fin 64, ∃ iv : Invocation, ∃ rd : Fin 32, ∃ rs1 : Fin 32, ∃ rs2 : Fin 32, ∃ k : Fin 65536, ∃ p : KPlace, (let r := iv.ev.routine; ∃ e : Nat, (s.atomAt r (iv.g rs1).toNat = .error e) ∧ (s.kReady c iv (fmtR 0x1C rd rs1 rs2 0) 2))) ∧
    (∃ s : State, ∃ c : Fin 64, ∃ iv : Invocation, ∃ rd : Fin 32, ∃ rs1 : Fin 32, ∃ rs2 : Fin 32, ∃ k : Fin 65536, ∃ p : KPlace, (let r := iv.ev.routine; ∃ e : Nat, (s.atomAt r (iv.g rs1).toNat = .error e) ∧ (s.kReady c iv (fmtR 0x1C rd rs1 rs2 1) 2))) ∧
    (∃ s : State, ∃ c : Fin 64, ∃ iv : Invocation, ∃ rd : Fin 32, ∃ rs1 : Fin 32, ∃ rs2 : Fin 32, ∃ k : Fin 65536, ∃ p : KPlace, (let r := iv.ev.routine; (let v := iv.g rs2; (s.kReady c iv (fmtR 0x1D rd rs1 rs2 0) (1 + (v.toNat + 31) / 32)) ∧ ∃ q : KPlace, ((0 < v.toNat) ∧ (v.toNat ≤ 16384) ∧ (s.range r (iv.g rs1).toNat v.toNat = some q) ∧ (s.storeAtK r (iv.g rd).toNat v.toNat 1 false = .ok p) ∧ (p.win = .priv ∨ p.win = .shared))))) ∧
    (∃ s : State, ∃ c : Fin 64, ∃ iv : Invocation, ∃ rd : Fin 32, ∃ rs1 : Fin 32, ∃ rs2 : Fin 32, ∃ k : Fin 65536, ∃ p : KPlace, (let r := iv.ev.routine; (let v := iv.g rs2; (s.kReady c iv (fmtR 0x1D rd rs1 rs2 0) (1 + (v.toNat + 31) / 32)) ∧ ∃ q : KPlace, ((0 < v.toNat) ∧ (v.toNat ≤ 16384) ∧ (s.range r (iv.g rs1).toNat v.toNat = some q) ∧ (s.storeAtK r (iv.g rd).toNat v.toNat 1 false = .ok p) ∧ (p.win = .emit))))) ∧
    (∃ s : State, ∃ c : Fin 64, ∃ iv : Invocation, ∃ rd : Fin 32, ∃ rs1 : Fin 32, ∃ rs2 : Fin 32, ∃ k : Fin 65536, ∃ p : KPlace, (let r := iv.ev.routine; (let v := iv.g rs2; (s.kReady c iv (fmtR 0x1D rd rs1 rs2 0) (1 + (v.toNat + 31) / 32)) ∧ ∃ e : Nat, ((0 < v.toNat) ∧ (v.toNat ≤ 16384) ∧ (s.storeAtK r (iv.g rd).toNat v.toNat 1 false = .error e))))) ∧
    (∃ s : State, ∃ c : Fin 64, ∃ iv : Invocation, ∃ rd : Fin 32, ∃ rs1 : Fin 32, ∃ rs2 : Fin 32, ∃ k : Fin 65536, ∃ p : KPlace, (let r := iv.ev.routine; (let v := iv.g rs2; ((s.kReady c iv (fmtR 0x1D rd rs1 rs2 0) (1 + (v.toNat + 31) / 32)) ∧ (0 < v.toNat) ∧ (v.toNat ≤ 16384) ∧ (s.range r (iv.g rs1).toNat v.toNat = none))))) ∧
    (∃ s : State, ∃ c : Fin 64, ∃ iv : Invocation, ∃ rd : Fin 32, ∃ rs1 : Fin 32, ∃ rs2 : Fin 32, ∃ k : Fin 65536, ∃ p : KPlace, (let v := iv.g rs2; (s.kReady c iv (fmtR 0x1D rd rs1 rs2 0) (1 + (v.toNat + 31) / 32)) ∧ (v.toNat = 0))) ∧
    (∃ s : State, ∃ c : Fin 64, ∃ iv : Invocation, ∃ rd : Fin 32, ∃ rs1 : Fin 32, ∃ rs2 : Fin 32, ∃ k : Fin 65536, ∃ p : KPlace, (let v := iv.g rs2; (s.kReady c iv (fmtR 0x1D rd rs1 rs2 0) (1 + (v.toNat + 31) / 32)) ∧ (16384 < v.toNat))) := by
  exact ⟨⟨((kst (on) (fmtI 0x0C 3 1 65535) (kiv (0x100000FF) (0) (0)))), 63, ((kiv (0x100000FF) (0) (0))), 3, 1, 2, 65535, { win := .priv, alia := .plain, off := 254 }, ((0x0C, .lh 63 3 1 65535, 2, 0#32)), by decide +kernel⟩,
    ⟨((kst (on) (fmtI 0x0B 3 1 0) (kiv (0x10000100) (0) (0)))), 63, ((kiv (0x10000100) (0) (0))), 3, 1, 2, 0, { win := .priv, alia := .plain, off := 0 }, ((0x0B, .lw 63 3 1 0, 4, 0#32)), by decide +kernel⟩,
    ⟨((kst (on) (fmtI 0x0B 3 1 0) (kiv (0x10000001) (0) (0)))), 63, ((kiv (0x10000001) (0) (0))), 3, 1, 2, 0, { win := .priv, alia := .plain, off := 0 }, ((0x0B, .lw 63 3 1 0, 4, 0#32)), by decide +kernel⟩,
    ⟨((kst (on) (fmtI 0x10 2 1 0) (kiv (0x200000FC) (0xFFFFFFFF) (0)))), 63, ((kiv (0x200000FC) (0xFFFFFFFF) (0))), 3, 1, 2, 0, { win := .shared, alia := .plain, off := 252 }, ((0x10, .sw 63 2 1 0, 4)), by decide +kernel⟩,
    ⟨((kst (on) (fmtI 0x12 2 1 0) (kiv (0x30013FFF) (0xFFFFFFFF) (0)))), 63, ((kiv (0x30013FFF) (0xFFFFFFFF) (0))), 3, 1, 2, 0, { win := .emit, alia := .plain, off := 16383 }, ((0x12, .sb 63 2 1 0, 1)), by decide +kernel⟩,
    ⟨((kst (on) (fmtI 0x11 2 1 0) (kiv (0x3E) (0xFFFFFFFF) (0)))), 63, ((kiv (0x3E) (0xFFFFFFFF) (0))), 3, 1, 2, 0, { win := .code, alia := .plain, off := 62 }, ((0x11, .sh 63 2 1 0, 2)), by decide +kernel⟩,
    ⟨((kst (on) (fmtI 0x10 2 1 0) (kiv (0x10000100) (0) (0)))), 63, ((kiv (0x10000100) (0) (0))), 3, 1, 2, 0, { win := .priv, alia := .plain, off := 0 }, ((0x10, .sw 63 2 1 0, 4)), by decide +kernel⟩,
    ⟨((kst (on) (fmtI 0x11 2 1 0) (kiv (0x3F) (0) (0)))), 63, ((kiv (0x3F) (0) (0))), 3, 1, 2, 0, { win := .priv, alia := .plain, off := 0 }, ((0x11, .sh 63 2 1 0, 2)), by decide +kernel⟩,
    ⟨((kst (on) (fmtI 0x10 2 1 0) (kiv (0x140000FC) (0xFFFFFFFF) (0)))), 63, ((kiv (0x140000FC) (0xFFFFFFFF) (0))), 3, 1, 2, 0, { win := .priv, alia := .set, off := 252 }, by decide +kernel⟩,
    ⟨((kst (on) (fmtI 0x10 2 1 0) (kiv (0x28000000) (0xFFFFFFFF) (0)))), 63, ((kiv (0x28000000) (0xFFFFFFFF) (0))), 3, 1, 2, 0, { win := .shared, alia := .clear, off := 0 }, by decide +kernel⟩,
    ⟨((kst (on) (fmtR 0x1C 3 1 2 0) (kiv (0x10000000) (5) (0)))), 63, ((kiv (0x10000000) (5) (0))), 3, 1, 2, 0, { win := .priv, alia := .plain, off := 0 }, 0, by decide +kernel⟩,
    ⟨((kst (on) (fmtR 0x1C 3 1 2 1) (kiv (0x10000000) (5) (0)))), 63, ((kiv (0x10000000) (5) (0))), 3, 1, 2, 0, { win := .priv, alia := .plain, off := 0 }, 0, by decide +kernel⟩,
    ⟨((kst (on) (fmtR 0x1C 3 1 2 0) (kiv (0x30010000) (0) (0)))), 63, ((kiv (0x30010000) (0) (0))), 3, 1, 2, 0, { win := .priv, alia := .plain, off := 0 }, 4, by decide +kernel⟩,
    ⟨((kst (on) (fmtR 0x1C 3 1 2 1) (kiv (0x10000002) (0) (0)))), 63, ((kiv (0x10000002) (0) (0))), 3, 1, 2, 0, { win := .priv, alia := .plain, off := 0 }, 5, by decide +kernel⟩,
    ⟨((kst (on) (fmtR 0x1D 3 1 2 0) (kiv (0x0) (64) (0x10000000)))), 63, ((kiv (0x0) (64) (0x10000000))), 3, 1, 2, 0, { win := .priv, alia := .plain, off := 0 }, by decide +kernel, { win := .code, alia := .plain, off := 0 }, by decide +kernel⟩,
    ⟨((kst (on) (fmtR 0x1D 3 1 2 0) (kiv (0x0) (64) (0x30010000)))), 63, ((kiv (0x0) (64) (0x30010000))), 3, 1, 2, 0, { win := .emit, alia := .plain, off := 0 }, by decide +kernel, { win := .code, alia := .plain, off := 0 }, by decide +kernel⟩,
    ⟨((kst (on) (fmtR 0x1D 3 1 2 0) (kiv (0x0) (64) (0x30000000)))), 63, ((kiv (0x0) (64) (0x30000000))), 3, 1, 2, 0, { win := .priv, alia := .plain, off := 0 }, by decide +kernel, 4, by decide +kernel⟩,
    ⟨((kst (on) (fmtR 0x1D 3 1 2 0) (kiv (0x10) (64) (0x10000000)))), 63, ((kiv (0x10) (64) (0x10000000))), 3, 1, 2, 0, { win := .priv, alia := .plain, off := 0 }, by decide +kernel⟩,
    ⟨((kst (on) (fmtR 0x1D 3 1 2 0) (kiv (0) (0) (0)))), 63, ((kiv (0) (0) (0))), 3, 1, 2, 0, { win := .priv, alia := .plain, off := 0 }, by decide +kernel⟩,
    ⟨((kst (on) (fmtR 0x1D 3 1 2 0) (kiv (0) (16385) (0)))), 63, ((kiv (0) (16385) (0))), 3, 1, 2, 0, { win := .priv, alia := .plain, off := 0 }, by decide +kernel⟩⟩

theorem witness_KeeperFields :
    (∃ s : State, ∃ c : Fin 64, ∃ iv : Invocation, ∃ rd : Fin 32, ∃ rs1 : Fin 32, ∃ rs2 : Fin 32, ∃ start : Fin 512, ∃ len1 : Fin 32, ∃ be : Bool, ∃ sign : Bool, (be = false)) ∧
    (∃ s : State, ∃ c : Fin 64, ∃ iv : Invocation, ∃ rd : Fin 32, ∃ rs1 : Fin 32, ∃ rs2 : Fin 32, ∃ start : Fin 512, ∃ len1 : Fin 32, ∃ be : Bool, ∃ sign : Bool, (be = true)) ∧
    (∃ s : State, ∃ c : Fin 64, ∃ iv : Invocation, ∃ rd : Fin 32, ∃ rs1 : Fin 32, ∃ rs2 : Fin 32, ∃ start : Fin 512, ∃ len1 : Fin 32, ∃ be : Bool, ∃ sign : Bool, (be = true)) ∧
    (∃ s : State, ∃ c : Fin 64, ∃ iv : Invocation, ∃ rd : Fin 32, ∃ rs1 : Fin 32, ∃ rs2 : Fin 32, ∃ start : Fin 512, ∃ len1 : Fin 32, ∃ be : Bool, ∃ sign : Bool, (let r := iv.ev.routine; (let base := (iv.g rs1).toNat; (let bs := fieldBits start (len1 + 1) be; (s.kReady c iv (fmtI 0x20 rd rs1 (start.val * 128 + len1.val * 4 + boolNat be * 2 + boolNat sign)) 1) ∧ (s.byteFault r base false (fieldBytes bs) = none))))) ∧
    (∃ s : State, ∃ c : Fin 64, ∃ iv : Invocation, ∃ rd : Fin 32, ∃ rs1 : Fin 32, ∃ rs2 : Fin 32, ∃ start : Fin 512, ∃ len1 : Fin 32, ∃ be : Bool, ∃ sign : Bool, (let r := iv.ev.routine; (let base := (iv.g rs1).toNat; (let bs := fieldBits start (len1 + 1) be; ∃ e : Nat, (s.kReady c iv (fmtI 0x20 rd rs1 (start.val * 128 + len1.val * 4 + boolNat be * 2 + boolNat sign)) 1) ∧ (s.byteFault r base false (fieldBytes bs) = some e))))) ∧
    (∃ s : State, ∃ c : Fin 64, ∃ iv : Invocation, ∃ rd : Fin 32, ∃ rs1 : Fin 32, ∃ rs2 : Fin 32, ∃ start : Fin 512, ∃ len1 : Fin 32, ∃ be : Bool, ∃ sign : Bool, (let r := iv.ev.routine; (let base := (iv.g rs1).toNat; (let bs := fieldBits start (len1 + 1) be; ∃ e : Nat, (s.kReady c iv (fmtI 0x21 rs2 rs1 (start.val * 128 + len1.val * 4 + boolNat be * 2)) 1) ∧ (s.byteFault r base true (fieldBytes bs) = some e))))) ∧
    (∃ s : State, ∃ c : Fin 64, ∃ iv : Invocation, ∃ rd : Fin 32, ∃ rs1 : Fin 32, ∃ rs2 : Fin 32, ∃ start : Fin 512, ∃ len1 : Fin 32, ∃ be : Bool, ∃ sign : Bool, (let r := iv.ev.routine; (let base := (iv.g rs1).toNat; (let bs := fieldBits start (len1 + 1) be; ∃ w : KWin, ((w = .priv ∨ w = .shared ∨ w = .emit) ∧ (s.kReady c iv (fmtI 0x21 rs2 rs1 (start.val * 128 + len1.val * 4 + boolNat be * 2)) 1) ∧ ((∀ o ∈ fieldBytes bs, ∃ p, s.place r (addr32 base o) = some p ∧ p.win = w ∧ p.alia = .plain))))))) ∧
    (∃ s : State, ∃ c : Fin 64, ∃ iv : Invocation, ∃ rd : Fin 32, ∃ rs1 : Fin 32, ∃ rs2 : Fin 32, ∃ start : Fin 512, ∃ len1 : Fin 32, ∃ be : Bool, ∃ sign : Bool, (let r := iv.ev.routine; (let base := (iv.g rs1).toNat; ∃ sel : Fin 7, ((s.kReady c iv (fmtR 0x22 rd rs1 rs2 sel) (1 + ((iv.g rs2).toNat + 15) / 16)) ∧ ((iv.g rs2).toNat ≤ 9216) ∧ (s.readable r base (iv.g rs2).toNat = true))))) ∧
    (∃ s : State, ∃ c : Fin 64, ∃ iv : Invocation, ∃ rd : Fin 32, ∃ rs1 : Fin 32, ∃ rs2 : Fin 32, ∃ start : Fin 512, ∃ len1 : Fin 32, ∃ be : Bool, ∃ sign : Bool, (let r := iv.ev.routine; (let base := (iv.g rs1).toNat; ∃ sel : Fin 7, (s.kReady c iv (fmtR 0x22 rd rs1 rs2 sel) (1 + ((iv.g rs2).toNat + 15) / 16)) ∧ (9216 < (iv.g rs2).toNat ∨ s.readable r base (iv.g rs2).toNat = false)))) ∧
    (∃ s : State, ∃ c : Fin 64, ∃ iv : Invocation, ∃ rd : Fin 32, ∃ rs1 : Fin 32, ∃ rs2 : Fin 32, ∃ start : Fin 512, ∃ len1 : Fin 32, ∃ be : Bool, ∃ sign : Bool, (let r := iv.ev.routine; ∃ e : Nat, (s.loadAt r (iv.g rs2).toNat 12 4 = .error e) ∧ ∃ x, x ∈ ([(0, .scx c rd rs1 rs2 sign len1), (1, .scf c rd rs1 rs2 sign len1), (2, .usx c rd rs1 rs2 sign len1), (3, .ufs c rd rs1 rs2 sign len1)] : List (Nat × Instr)) ∧ (s.kReady c iv (fmtR 0x23 rd rs1 rs2 (x.1 + boolNat sign * 4 + len1.val * 8)) 2))) ∧
    (∃ s : State, ∃ c : Fin 64, ∃ iv : Invocation, ∃ rd : Fin 32, ∃ rs1 : Fin 32, ∃ rs2 : Fin 32, ∃ start : Fin 512, ∃ len1 : Fin 32, ∃ be : Bool, ∃ sign : Bool, (let r := iv.ev.routine; ∃ p : KPlace, ∃ p0 : Nat, ∃ p1 : Nat, ∃ p2 : Nat, ((s.loadAt r (iv.g rs2).toNat 12 4 = .ok p) ∧ (p0 = leNat (slice 0 4 (s.kBytes c iv p 12))) ∧ (p1 = leNat (slice 4 4 (s.kBytes c iv p 12))) ∧ (p2 = leNat (slice 8 4 (s.kBytes c iv p 12)))) ∧ (let w := fun op : Nat => fmtR 0x23 rd rs1 rs2 (op + boolNat sign * 4 + len1.val * 8); (s.kReady c iv (w 0) 2)))) ∧
    (∃ s : State, ∃ c : Fin 64, ∃ iv : Invocation, ∃ rd : Fin 32, ∃ rs1 : Fin 32, ∃ rs2 : Fin 32, ∃ start : Fin 512, ∃ len1 : Fin 32, ∃ be : Bool, ∃ sign : Bool, (let r := iv.ev.routine; ∃ p : KPlace, ∃ p0 : Nat, ∃ p1 : Nat, ∃ p2 : Nat, ((s.loadAt r (iv.g rs2).toNat 12 4 = .ok p) ∧ (p0 = leNat (slice 0 4 (s.kBytes c iv p 12))) ∧ (p1 = leNat (slice 4 4 (s.kBytes c iv p 12))) ∧ (p2 = leNat (slice 8 4 (s.kBytes c iv p 12)))) ∧ (let w := fun op : Nat => fmtR 0x23 rd rs1 rs2 (op + boolNat sign * 4 + len1.val * 8); (s.kReady c iv (w 1) 2)))) ∧
    (∃ s : State, ∃ c : Fin 64, ∃ iv : Invocation, ∃ rd : Fin 32, ∃ rs1 : Fin 32, ∃ rs2 : Fin 32, ∃ start : Fin 512, ∃ len1 : Fin 32, ∃ be : Bool, ∃ sign : Bool, (let r := iv.ev.routine; ∃ p : KPlace, ∃ p0 : Nat, ∃ p1 : Nat, ∃ p2 : Nat, ((s.loadAt r (iv.g rs2).toNat 12 4 = .ok p) ∧ (p0 = leNat (slice 0 4 (s.kBytes c iv p 12))) ∧ (p1 = leNat (slice 4 4 (s.kBytes c iv p 12))) ∧ (p2 = leNat (slice 8 4 (s.kBytes c iv p 12)))) ∧ (let w := fun op : Nat => fmtR 0x23 rd rs1 rs2 (op + boolNat sign * 4 + len1.val * 8); (s.kReady c iv (w 2) 2)))) ∧
    (∃ s : State, ∃ c : Fin 64, ∃ iv : Invocation, ∃ rd : Fin 32, ∃ rs1 : Fin 32, ∃ rs2 : Fin 32, ∃ start : Fin 512, ∃ len1 : Fin 32, ∃ be : Bool, ∃ sign : Bool, (let r := iv.ev.routine; ∃ p : KPlace, ∃ p0 : Nat, ∃ p1 : Nat, ∃ p2 : Nat, ((s.loadAt r (iv.g rs2).toNat 12 4 = .ok p) ∧ (p0 = leNat (slice 0 4 (s.kBytes c iv p 12))) ∧ (p1 = leNat (slice 4 4 (s.kBytes c iv p 12))) ∧ (p2 = leNat (slice 8 4 (s.kBytes c iv p 12)))) ∧ (let w := fun op : Nat => fmtR 0x23 rd rs1 rs2 (op + boolNat sign * 4 + len1.val * 8); (s.kReady c iv (w 3) 2)))) := by
  exact ⟨⟨on, 0, ((kiv 0 0 0)), 0, 0, 0, 511, 31, false, true, by decide +kernel⟩,
    ⟨on, 0, ((kiv 0 0 0)), 0, 0, 0, 511, 31, true, true, by decide +kernel⟩,
    ⟨on, 0, ((kiv 0 0 0)), 0, 0, 0, 0, 31, true, true, by decide +kernel⟩,
    ⟨((kst (on) (fmtI 0x20 3 1 (511 * 128 + 31 * 4 + 1 * 2 + 1)) (kiv (0x10000000) (0) (0)))), 63, ((kiv (0x10000000) (0) (0))), 3, 1, 2, 511, 31, true, true, by decide +kernel⟩,
    ⟨((kst (on) (fmtI 0x20 3 1 (511 * 128 + 31 * 4 + 1 * 2 + 1)) (kiv (0x100000F0) (0) (0)))), 63, ((kiv (0x100000F0) (0) (0))), 3, 1, 2, 511, 31, true, true, 3, by decide +kernel⟩,
    ⟨((kst (on) (fmtI 0x21 2 1 (511 * 128 + 31 * 4 + 0)) (kiv (0x10) (0xFFFFFFFF) (0)))), 63, ((kiv (0x10) (0xFFFFFFFF) (0))), 3, 1, 2, 511, 31, false, true, 3, by decide +kernel⟩,
    ⟨((kst (on) (fmtI 0x21 2 1 (511 * 128 + 31 * 4 + 0)) (kiv (0x10000000) (0xFFFFFFFF) (0)))), 63, ((kiv (0x10000000) (0xFFFFFFFF) (0))), 3, 1, 2, 511, 31, false, true, .priv, by decide +kernel⟩,
    ⟨((kst (on) (fmtR 0x22 3 1 2 6) (kiv (0x10000000) (255) (0)))), 63, ((kiv (0x10000000) (255) (0))), 3, 1, 2, 0, 0, true, true, 6, by decide +kernel⟩,
    ⟨((kst (on) (fmtR 0x22 3 1 2 6) (kiv (0x10000000) (9217) (0)))), 63, ((kiv (0x10000000) (9217) (0))), 3, 1, 2, 0, 0, true, true, 6, by decide +kernel⟩,
    ⟨((kst (on) (fmtR 0x23 3 1 2 (3 + 1 * 4 + 31 * 8)) (kiv (0x80000000) (0x100000F8) (0)))), 63, ((kiv (0x80000000) (0x100000F8) (0))), 3, 1, 2, 0, 31, true, true, 3, by decide +kernel, ((3, .ufs 63 3 1 2 true 31)), by decide +kernel⟩,
    ⟨((State.mwr (kst (on) (fmtR 0x23 3 1 2 (0 + boolNat true * 4 + 31 * 8)) (kiv (0x80000000) (0x100000F4) (0))) (dataBase 63 + 244) 12 0x3F8000003F8000003F800000)), 63, ((kiv (0x80000000) (0x100000F4) (0))), 3, 1, 2, 0, 31, true, true, { win := .priv, alia := .plain, off := 244 }, 0x3F800000, 0x3F800000, 0x3F800000, by decide +kernel⟩,
    ⟨((State.mwr (kst (on) (fmtR 0x23 3 1 2 (1 + boolNat true * 4 + 31 * 8)) (kiv (0x80000000) (0x100000F4) (0))) (dataBase 63 + 244) 12 0x3F8000003F8000003F800000)), 63, ((kiv (0x80000000) (0x100000F4) (0))), 3, 1, 2, 0, 31, true, true, { win := .priv, alia := .plain, off := 244 }, 0x3F800000, 0x3F800000, 0x3F800000, by decide +kernel⟩,
    ⟨((State.mwr (kst (on) (fmtR 0x23 3 1 2 (2 + boolNat true * 4 + 31 * 8)) (kiv (0x80000000) (0x100000F4) (0))) (dataBase 63 + 244) 12 0x3F8000003F8000003F800000)), 63, ((kiv (0x80000000) (0x100000F4) (0))), 3, 1, 2, 0, 31, true, true, { win := .priv, alia := .plain, off := 244 }, 0x3F800000, 0x3F800000, 0x3F800000, by decide +kernel⟩,
    ⟨((State.mwr (kst (on) (fmtR 0x23 3 1 2 (3 + boolNat true * 4 + 31 * 8)) (kiv (0x80000000) (0x100000F4) (0))) (dataBase 63 + 244) 12 0x3F8000003F8000003F800000)), 63, ((kiv (0x80000000) (0x100000F4) (0))), 3, 1, 2, 0, 31, true, true, { win := .priv, alia := .plain, off := 244 }, 0x3F800000, 0x3F800000, 0x3F800000, by decide +kernel⟩⟩

theorem witness_KeeperTables :
    (∃ s : State, ∃ c : Fin 64, ∃ iv : Invocation, ∃ rd : Fin 32, ∃ rs1 : Fin 32, ∃ rs2 : Fin 32, (let r := iv.ev.routine; (let b := (iv.g rs2).toNat; ∃ e : Nat, (s.entryAt16 r b = .error e) ∧ (s.kReady c iv (fmtR 0x24 rd rs1 rs2 0) 2)))) ∧
    (∃ s : State, ∃ c : Fin 64, ∃ iv : Invocation, ∃ rd : Fin 32, ∃ rs1 : Fin 32, ∃ rs2 : Fin 32, (let r := iv.ev.routine; (let b := (iv.g rs2).toNat; ∃ e : Nat, (s.entryAt16 r b = .error e) ∧ (s.kReady c iv (fmtR 0x25 rd rs1 rs2 0) 2)))) ∧
    (∃ s : State, ∃ c : Fin 64, ∃ iv : Invocation, ∃ rd : Fin 32, ∃ rs1 : Fin 32, ∃ rs2 : Fin 32, (let r := iv.ev.routine; (let a := (iv.g rs1).toNat; (let b := (iv.g rs2).toNat; ∃ p : KPlace, ((s.entryAt16 r b = .ok p) ∧ (s.kReady c iv (fmtR 0x24 rd rs1 rs2 0) 2) ∧ (a < 250000) ∧ (p.win = .priv ∨ p.win = .shared)))))) ∧
    (∃ s : State, ∃ c : Fin 64, ∃ iv : Invocation, ∃ rd : Fin 32, ∃ rs1 : Fin 32, ∃ rs2 : Fin 32, (let r := iv.ev.routine; (let a := (iv.g rs1).toNat; (let b := (iv.g rs2).toNat; ∃ p : KPlace, ((s.entryAt16 r b = .ok p) ∧ (s.kReady c iv (fmtR 0x24 rd rs1 rs2 0) 2) ∧ (a < 250000) ∧ (p.win = .emit)))))) ∧
    (∃ s : State, ∃ c : Fin 64, ∃ iv : Invocation, ∃ rd : Fin 32, ∃ rs1 : Fin 32, ∃ rs2 : Fin 32, (let r := iv.ev.routine; (let a := (iv.g rs1).toNat; (let b := (iv.g rs2).toNat; ∃ p : KPlace, ((s.entryAt16 r b = .ok p) ∧ (s.kReady c iv (fmtR 0x24 rd rs1 rs2 0) 2) ∧ (250000 ≤ a) ∧ (a < 262144) ∧ (p.win = .priv ∨ p.win = .shared)))))) ∧
    (∃ s : State, ∃ c : Fin 64, ∃ iv : Invocation, ∃ rd : Fin 32, ∃ rs1 : Fin 32, ∃ rs2 : Fin 32, (let r := iv.ev.routine; (let a := (iv.g rs1).toNat; (let b := (iv.g rs2).toNat; ∃ p : KPlace, ((s.entryAt16 r b = .ok p) ∧ (s.kReady c iv (fmtR 0x24 rd rs1 rs2 0) 2) ∧ (250000 ≤ a) ∧ (a < 262144) ∧ (p.win = .emit)))))) ∧
    (∃ s : State, ∃ c : Fin 64, ∃ iv : Invocation, ∃ rd : Fin 32, ∃ rs1 : Fin 32, ∃ rs2 : Fin 32, (let r := iv.ev.routine; (let a := (iv.g rs1).toNat; (let b := (iv.g rs2).toNat; ∃ p : KPlace, ((s.entryAt16 r b = .ok p) ∧ (s.kReady c iv (fmtR 0x24 rd rs1 rs2 0) 2) ∧ (262144 ≤ a)))))) ∧
    (∃ s : State, ∃ c : Fin 64, ∃ iv : Invocation, ∃ rd : Fin 32, ∃ rs1 : Fin 32, ∃ rs2 : Fin 32, (let r := iv.ev.routine; (let a := (iv.g rs1).toNat; (let b := (iv.g rs2).toNat; ∃ p : KPlace, ((s.entryAt16 r b = .ok p) ∧ (s.kReady c iv (fmtR 0x25 rd rs1 rs2 0) 2) ∧ (a < 250000) ∧ (s.maySput r a = true) ∧ ((∀ x ∈ iv.sputs, x.index ≠ a)) ∧ (iv.sputs.length < 64)))))) ∧
    (∃ s : State, ∃ c : Fin 64, ∃ iv : Invocation, ∃ rd : Fin 32, ∃ rs1 : Fin 32, ∃ rs2 : Fin 32, (let r := iv.ev.routine; (let a := (iv.g rs1).toNat; (let b := (iv.g rs2).toNat; ∃ p : KPlace, ((s.entryAt16 r b = .ok p) ∧ (s.kReady c iv (fmtR 0x25 rd rs1 rs2 0) 2) ∧ (a < 250000) ∧ (s.maySput r a = true) ∧ ((∀ x ∈ iv.sputs, x.index ≠ a)) ∧ (64 ≤ iv.sputs.length)))))) ∧
    (∃ s : State, ∃ c : Fin 64, ∃ iv : Invocation, ∃ rd : Fin 32, ∃ rs1 : Fin 32, ∃ rs2 : Fin 32, (let r := iv.ev.routine; (let a := (iv.g rs1).toNat; (let b := (iv.g rs2).toNat; ∃ p : KPlace, ((s.entryAt16 r b = .ok p) ∧ (s.kReady c iv (fmtR 0x25 rd rs1 rs2 0) 2) ∧ (a < 250000) ∧ (s.maySput r a = true) ∧ ((∃ x ∈ iv.sputs, x.index = a))))))) ∧
    (∃ s : State, ∃ c : Fin 64, ∃ iv : Invocation, ∃ rd : Fin 32, ∃ rs1 : Fin 32, ∃ rs2 : Fin 32, (let r := iv.ev.routine; (let a := (iv.g rs1).toNat; (let b := (iv.g rs2).toNat; ∃ p : KPlace, ((s.entryAt16 r b = .ok p) ∧ (s.kReady c iv (fmtR 0x25 rd rs1 rs2 0) 2) ∧ (250000 ≤ a ∨ s.maySput r a = false)))))) ∧
    (∃ s : State, ∃ c : Fin 64, ∃ iv : Invocation, ∃ rd : Fin 32, ∃ rs1 : Fin 32, ∃ rs2 : Fin 32, ∃ type : Fin 8, ∃ sr : Fin 32, (s.kReady c iv (fmtR 0x26 rd rs1 rs2 (type + sr.val * 8)) 2) ∧ (type.val = 7)) ∧
    (∃ s : State, ∃ c : Fin 64, ∃ iv : Invocation, ∃ rd : Fin 32, ∃ rs1 : Fin 32, ∃ rs2 : Fin 32, (let b := (iv.g rs2).toNat; ∃ type : Fin 8, ∃ sr : Fin 32, ((s.kReady c iv (fmtR 0x26 rd rs1 rs2 (type + sr.val * 8)) 2) ∧ (type.val = 0) ∧ (49151 < b)))) ∧
    (∃ s : State, ∃ c : Fin 64, ∃ iv : Invocation, ∃ rd : Fin 32, ∃ rs1 : Fin 32, ∃ rs2 : Fin 32, (let b := (iv.g rs2).toNat; ∃ type : Fin 8, ∃ sr : Fin 32, (s.kReady c iv (fmtR 0x26 rd rs1 rs2 (type + sr.val * 8)) 2) ∧ (let w := s.mem32 (0x30480000 + 4 * b); ((type.val = 0) ∧ (b ≤ 49151) ∧ (w % 2 = 1))))) ∧
    (∃ s : State, ∃ c : Fin 64, ∃ iv : Invocation, ∃ rd : Fin 32, ∃ rs1 : Fin 32, ∃ rs2 : Fin 32, (let b := (iv.g rs2).toNat; ∃ type : Fin 8, ∃ sr : Fin 32, (s.kReady c iv (fmtR 0x26 rd rs1 rs2 (type + sr.val * 8)) 2) ∧ (let w := s.mem32 (0x30480000 + 4 * b); ((type.val = 0) ∧ (b ≤ 49151) ∧ (w % 2 = 0))))) ∧
    (∃ s : State, ∃ c : Fin 64, ∃ iv : Invocation, ∃ rd : Fin 32, ∃ rs1 : Fin 32, ∃ rs2 : Fin 32, (let a := (iv.g rs1).toNat; ∃ type : Fin 8, ∃ sr : Fin 32, ((s.kReady c iv (fmtR 0x26 rd rs1 rs2 (type + sr.val * 8)) 2) ∧ (2 ≤ type.val) ∧ (type.val ≤ 6) ∧ (a / 2 ^ 28 ≠ type.val)))) ∧
    (∃ s : State, ∃ c : Fin 64, ∃ iv : Invocation, ∃ rd : Fin 32, ∃ rs1 : Fin 32, ∃ rs2 : Fin 32, (let a := (iv.g rs1).toNat; (let b := (iv.g rs2).toNat; ∃ type : Fin 8, ∃ sr : Fin 32, ((s.kReady c iv (fmtR 0x26 rd rs1 rs2 (type + sr.val * 8)) 2) ∧ (1 ≤ type.val) ∧ (type.val ≤ 6) ∧ (s.trieLookup (a * 2 ^ 32 + b) type = none))))) ∧
    (∃ s : State, ∃ c : Fin 64, ∃ iv : Invocation, ∃ rd : Fin 32, ∃ rs1 : Fin 32, ∃ rs2 : Fin 32, ∃ type : Fin 8, ∃ sr : Fin 32, (s.kReady c iv (fmtR 0x26 rd rs1 rs2 (type + sr.val * 8)) 2)) ∧
    (∃ s : State, ∃ c : Fin 64, ∃ iv : Invocation, ∃ rd : Fin 32, ∃ rs1 : Fin 32, ∃ rs2 : Fin 32, (let b := (iv.g rs2).toNat; (s.kReady c iv (fmtR 0x27 rd rs1 rs2 0) (2 + (b + 63) / 64)) ∧ (b < 8 ∨ 9220 < b))) ∧
    (∃ s : State, ∃ c : Fin 64, ∃ iv : Invocation, ∃ rd : Fin 32, ∃ rs1 : Fin 32, ∃ rs2 : Fin 32, (let r := iv.ev.routine; (let a := (iv.g rs1).toNat; (let b := (iv.g rs2).toNat; (s.kReady c iv (fmtR 0x27 rd rs1 rs2 0) (2 + (b + 63) / 64)) ∧ ∃ e : Nat, ((8 ≤ b) ∧ (b ≤ 9220) ∧ (s.emitAt r a b = .error e)))))) ∧
    (∃ s : State, ∃ c : Fin 64, ∃ iv : Invocation, ∃ rd : Fin 32, ∃ rs1 : Fin 32, ∃ rs2 : Fin 32, (let r := iv.ev.routine; (let a := (iv.g rs1).toNat; (let b := (iv.g rs2).toNat; (s.kReady c iv (fmtR 0x27 rd rs1 rs2 0) (2 + (b + 63) / 64)) ∧ ∃ p : KPlace, ((8 ≤ b) ∧ (b ≤ 9220) ∧ (s.emitAt r a b = .ok p) ∧ (emitOk (s.kBytes c iv p b) = false)))))) ∧
    (∃ s : State, ∃ c : Fin 64, ∃ iv : Invocation, ∃ rd : Fin 32, ∃ rs1 : Fin 32, ∃ rs2 : Fin 32, (let r := iv.ev.routine; (let a := (iv.g rs1).toNat; (let b := (iv.g rs2).toNat; (s.kReady c iv (fmtR 0x27 rd rs1 rs2 0) (2 + (b + 63) / 64)) ∧ ∃ p : KPlace, ((8 ≤ b) ∧ (b ≤ 9220) ∧ (s.emitAt r a b = .ok p) ∧ (emitOk (s.kBytes c iv p b) = true) ∧ (iv.emits.length < 16) ∧ (iv.emitBytes + b ≤ 16384)))))) ∧
    (∃ s : State, ∃ c : Fin 64, ∃ iv : Invocation, ∃ rd : Fin 32, ∃ rs1 : Fin 32, ∃ rs2 : Fin 32, (let r := iv.ev.routine; (let a := (iv.g rs1).toNat; (let b := (iv.g rs2).toNat; (s.kReady c iv (fmtR 0x27 rd rs1 rs2 0) (2 + (b + 63) / 64)) ∧ ∃ p : KPlace, ((8 ≤ b) ∧ (b ≤ 9220) ∧ (s.emitAt r a b = .ok p) ∧ (emitOk (s.kBytes c iv p b) = true) ∧ (16 ≤ iv.emits.length ∨ 16384 < iv.emitBytes + b)))))) ∧
    (∃ s : State, ∃ c : Fin 64, ∃ iv : Invocation, ∃ rd : Fin 32, ∃ rs1 : Fin 32, ∃ rs2 : Fin 32, (let a := (iv.g rs1).toNat; ∃ n : Fin 4, ∃ per : Bool, (s.kReady c iv (fmtR 0x28 rd rs1 rs2 (n.val + boolNat per * 4)) 2) ∧ (a ≠ 0))) ∧
    (∃ s : State, ∃ c : Fin 64, ∃ iv : Invocation, ∃ rd : Fin 32, ∃ rs1 : Fin 32, ∃ rs2 : Fin 32, (let a := (iv.g rs1).toNat; ∃ n : Fin 4, ∃ per : Bool, (s.kReady c iv (fmtR 0x28 rd rs1 rs2 (n.val + boolNat per * 4)) 2) ∧ (a = 0))) ∧
    (∃ s : State, ∃ c : Fin 64, ∃ iv : Invocation, ∃ rd : Fin 32, ∃ rs1 : Fin 32, ∃ rs2 : Fin 32, ∃ n : Fin 4, ∃ per : Bool, (s.kReady c iv (fmtR 0x28 rd rs1 rs2 (n.val + boolNat per * 4 + 8)) 2)) ∧
    (∃ s : State, ∃ c : Fin 64, ∃ iv : Invocation, ∃ rd : Fin 32, ∃ rs1 : Fin 32, ∃ rs2 : Fin 32, (let r := iv.ev.routine; (let a := (iv.g rs1).toNat; (let b := (iv.g rs2).toNat; ((s.kReady c iv (fmtR 0x29 rd rs1 rs2 0) 2) ∧ (a ≤ 11) ∧ (b ≤ 1000) ∧ ((s.routine r).heaterMask.testBit a = true)))))) ∧
    (∃ s : State, ∃ c : Fin 64, ∃ iv : Invocation, ∃ rd : Fin 32, ∃ rs1 : Fin 32, ∃ rs2 : Fin 32, (let a := (iv.g rs1).toNat; (let b := (iv.g rs2).toNat; (s.kReady c iv (fmtR 0x29 rd rs1 rs2 0) 2) ∧ (11 < a ∨ 1000 < b)))) ∧
    (∃ s : State, ∃ c : Fin 64, ∃ iv : Invocation, ∃ rd : Fin 32, ∃ rs1 : Fin 32, ∃ rs2 : Fin 32, (let r := iv.ev.routine; (let a := (iv.g rs1).toNat; (let b := (iv.g rs2).toNat; ((s.kReady c iv (fmtR 0x29 rd rs1 rs2 0) 2) ∧ (a ≤ 11) ∧ (b ≤ 1000) ∧ ((s.routine r).heaterMask.testBit a = false)))))) ∧
    (∃ s : State, ∃ c : Fin 64, ∃ iv : Invocation, ∃ rd : Fin 32, ∃ rs1 : Fin 32, ∃ rs2 : Fin 32, (s.kReady c iv (fmtR 0x2A rd rs1 0 0) 4)) := by
  exact ⟨⟨((kst (on) (fmtR 0x24 3 1 2 0) (kiv (0) (0x100000F8) (0)))), 63, ((kiv (0) (0x100000F8) (0))), 3, 1, 2, 3, by decide +kernel⟩,
    ⟨((kst (on) (fmtR 0x25 3 1 2 0) (kiv (0) (0x10000004) (0)))), 63, ((kiv (0) (0x10000004) (0))), 3, 1, 2, 5, by decide +kernel⟩,
    ⟨((kst (on) (fmtR 0x24 3 1 2 0) (kiv (249999) (0x100000F0) (0)))), 63, ((kiv (249999) (0x100000F0) (0))), 3, 1, 2, { win := .priv, alia := .plain, off := 240 }, by decide +kernel⟩,
    ⟨((kst (on) (fmtR 0x24 3 1 2 0) (kiv (249999) (0x30013FF0) (0)))), 63, ((kiv (249999) (0x30013FF0) (0))), 3, 1, 2, { win := .emit, alia := .plain, off := 16368 }, by decide +kernel⟩,
    ⟨((kst (on) (fmtR 0x24 3 1 2 0) (kiv (250000) (0x100000F0) (0)))), 63, ((kiv (250000) (0x100000F0) (0))), 3, 1, 2, { win := .priv, alia := .plain, off := 240 }, by decide +kernel⟩,
    ⟨((kst (on) (fmtR 0x24 3 1 2 0) (kiv (262143) (0x30013FF0) (0)))), 63, ((kiv (262143) (0x30013FF0) (0))), 3, 1, 2, { win := .emit, alia := .plain, off := 16368 }, by decide +kernel⟩,
    ⟨((kst (on) (fmtR 0x24 3 1 2 0) (kiv (262144) (0x100000F0) (0)))), 63, ((kiv (262144) (0x100000F0) (0))), 3, 1, 2, { win := .priv, alia := .plain, off := 240 }, by decide +kernel⟩,
    ⟨((kst (on) (fmtR 0x25 3 1 2 0) (kiv (249999) (0x100000F0) (0)))), 63, ((kiv (249999) (0x100000F0) (0))), 3, 1, 2, { win := .priv, alia := .plain, off := 240 }, by decide +kernel⟩,
    ⟨((kst (on) (fmtR 0x25 3 1 2 0) ({ kiv (249999) (0x100000F0) (0) with sputs := List.replicate 64 { index := 1, value := 0, status := 0 } }))), 63, (({ kiv (249999) (0x100000F0) (0) with sputs := List.replicate 64 { index := 1, value := 0, status := 0 } })), 3, 1, 2, { win := .priv, alia := .plain, off := 240 }, by decide +kernel⟩,
    ⟨((kst (on) (fmtR 0x25 3 1 2 0) ({ kiv (249999) (0x100000F0) (0) with sputs := [{ index := 1, value := 4, status := 0 }, { index := 249999, value := 5, status := 0 }] }))), 63, (({ kiv (249999) (0x100000F0) (0) with sputs := [{ index := 1, value := 4, status := 0 }, { index := 249999, value := 5, status := 0 }] })), 3, 1, 2, { win := .priv, alia := .plain, off := 240 }, by decide +kernel⟩,
    ⟨((kst (on) (fmtR 0x25 3 1 2 0) (kiv (250000) (0x100000F0) (0)))), 63, ((kiv (250000) (0x100000F0) (0))), 3, 1, 2, { win := .priv, alia := .plain, off := 240 }, by decide +kernel⟩,
    ⟨((kst (on) (fmtR 0x26 3 1 2 (7 + 31 * 8)) (kiv (0) (0) (0)))), 63, ((kiv (0) (0) (0))), 3, 1, 2, 7, 31, by decide +kernel⟩,
    ⟨((kst (on) (fmtR 0x26 3 1 2 (0 + 31 * 8)) (kiv (0) (49152) (0)))), 63, ((kiv (0) (49152) (0))), 3, 1, 2, 0, 31, by decide +kernel⟩,
    ⟨((State.mwr (kst (on) (fmtR 0x26 3 1 2 (0 + 31 * 8)) (kiv (0) (49151) (0))) (0x30480000 + 4 * 49151) 4 1)), 63, ((kiv (0) (49151) (0))), 3, 1, 2, 0, 31, by decide +kernel⟩,
    ⟨((kst (on) (fmtR 0x26 3 1 2 (0 + 31 * 8)) (kiv (0) (49151) (0)))), 63, ((kiv (0) (49151) (0))), 3, 1, 2, 0, 31, by decide +kernel⟩,
    ⟨((kst (on) (fmtR 0x26 3 1 2 (2 + 5 * 8)) (kiv 0x30000000 0 0))), 63, ((kiv 0x30000000 0 0)), 3, 1, 2, 2, 5, by decide +kernel⟩,
    ⟨((kst (on) (fmtR 0x26 3 1 2 (6 + 31 * 8)) (kiv (0) (0) (0)))), 63, ((kiv (0) (0) (0))), 3, 1, 2, 6, 31, by decide +kernel⟩,
    ⟨((kst ((on.trieInsert ({ word := 2 ^ 62 + 5 * 2 ^ 28, result := 9, len := 36, valid := true, ty := 4 } : Leaf)).1) (fmtR 0x26 3 1 2 (4 + 31 * 8)) (kiv (2 ^ 30) (5 * 2 ^ 28) (0)))), 63, ((kiv (2 ^ 30) (5 * 2 ^ 28) (0))), 3, 1, 2, 4, 31, by decide +kernel⟩,
    ⟨((kst (on) (fmtR 0x27 3 1 2 0) (kiv (0) (9221) (0)))), 63, ((kiv (0) (9221) (0))), 3, 1, 2, by decide +kernel⟩,
    ⟨((kst (on) (fmtR 0x27 3 1 2 0) (kiv (0x10000000) (23) (0)))), 63, ((kiv (0x10000000) (23) (0))), 3, 1, 2, by decide +kernel, 3, by decide +kernel⟩,
    ⟨((kst (on) (fmtR 0x27 3 1 2 0) (kiv (0x30010000) (8) (0)))), 63, ((kiv (0x30010000) (8) (0))), 3, 1, 2, by decide +kernel, { win := .emit, alia := .plain, off := 0 }, by decide +kernel⟩,
    ⟨((State.setKpr (kst (on) (fmtR 0x27 3 1 2 0) (kiv (0x30013FE0) (23) (0))) { (kst on (fmtR 0x27 3 1 2 0) (kiv 0x30013FE0 23 0)).kpr with emitBuf := [(16384 * 63 + 16352, 1)] })), 63, ((kiv (0x30013FE0) (23) (0))), 3, 1, 2, by decide +kernel, { win := .emit, alia := .plain, off := 16352 }, by decide +kernel⟩,
    ⟨((State.setKpr (kst (on) (fmtR 0x27 3 1 2 0) ({ kiv (0x30013FE0) (23) (0) with emits := List.replicate 16 [] })) { (kst on (fmtR 0x27 3 1 2 0) { kiv 0x30013FE0 23 0 with emits := List.replicate 16 [] }).kpr with emitBuf := [(16384 * 63 + 16352, 1)] })), 63, (({ kiv (0x30013FE0) (23) (0) with emits := List.replicate 16 [] })), 3, 1, 2, by decide +kernel, { win := .emit, alia := .plain, off := 16352 }, by decide +kernel⟩,
    ⟨((kst (on) (fmtR 0x28 3 1 2 7) (kiv (1) (0) (0)))), 63, ((kiv (1) (0) (0))), 3, 1, 2, 3, true, by decide +kernel⟩,
    ⟨((kst (on) (fmtR 0x28 3 1 2 7) (kiv (0) (0) (0)))), 63, ((kiv (0) (0) (0))), 3, 1, 2, 3, true, by decide +kernel⟩,
    ⟨((kst (on) (fmtR 0x28 3 1 2 15) (kiv (0) (0) (0)))), 63, ((kiv (0) (0) (0))), 3, 1, 2, 3, true, by decide +kernel⟩,
    ⟨((kst (on) (fmtR 0x29 3 1 2 0) (kiv (11) (1000) (0)))), 63, ((kiv (11) (1000) (0))), 3, 1, 2, by decide +kernel⟩,
    ⟨((kst (on) (fmtR 0x29 3 1 2 0) (kiv (12) (1001) (0)))), 63, ((kiv (12) (1001) (0))), 3, 1, 2, by decide +kernel⟩,
    ⟨((kst (on) (fmtR 0x29 3 1 2 0) (kiv (10) (1000) (0)))), 63, ((kiv (10) (1000) (0))), 3, 1, 2, by decide +kernel⟩,
    ⟨((kst (on) (fmtR 0x2A 3 1 0 0) (kiv (0x10000000) (0) (0)))), 63, ((kiv (0x10000000) (0) (0))), 3, 1, 2, by decide +kernel⟩⟩

theorem witness_KeeperSystem :
    (∃ s : State, ∃ c : Fin 64, ∃ iv : Invocation, ∃ rd : Fin 32, (s.kReady c iv (fmtR 0x3E 0 0 0 0) 1)) ∧
    (∃ s : State, ∃ c : Fin 64, ∃ iv : Invocation, ∃ rd : Fin 32, ∃ pair : Fin 15, ∃ lo : Fin 32, (lo.val = 2 * pair.val + 2) ∧ (s.kReady c iv (fmtR 0x3E lo 0 0 1) 1)) ∧
    (∃ s : State, ∃ c : Fin 64, ∃ iv : Invocation, ∃ rd : Fin 32, (s.kReady c iv (fmtR 0x3E rd 0 0 2) 1)) ∧
    (∃ s : State, ∃ c : Fin 64, ∃ iv : Invocation, ∃ rd : Fin 32, (s.kReady c iv (fmtR 0x3E rd 0 0 3) 1)) ∧
    (∃ s : State, ∃ c : Fin 64, ∃ iv : Invocation, ∃ rd : Fin 32, (s.kReady c iv (fmtR 0x3E rd 0 0 4) 1)) ∧
    (∃ s : State, ∃ c : Fin 64, ∃ iv : Invocation, ∃ rd : Fin 32, (let done_ := fmtR 0x3F 0 0 0 0; ((s.kReady c iv done_ 1) ∧ (iv.sputs = []) ∧ (iv.emits = []) ∧ (iv.hsets = []) ∧ (s.outboundRoom c iv = true) ∧ (iv.timers = [])))) ∧
    (∃ s : State, ∃ c : Fin 64, ∃ iv : Invocation, ∃ rd : Fin 32, (let done_ := fmtR 0x3F 0 0 0 0; ((s.kReady c iv done_ 1) ∧ (iv.sputs = []) ∧ (iv.emits = []) ∧ (iv.hsets = []) ∧ (s.outboundRoom c iv = true)) ∧ ∃ o : TimerOp, ((iv.timers = [o]) ∧ (o.timer < 4) ∧ (0 < o.delay)))) ∧
    (∃ s : State, ∃ c : Fin 64, ∃ iv : Invocation, ∃ rd : Fin 32, (let done_ := fmtR 0x3F 0 0 0 0; ((s.kReady c iv done_ 1) ∧ (iv.sputs = []) ∧ (iv.emits = []) ∧ (iv.hsets = []) ∧ (s.outboundRoom c iv = true)) ∧ ∃ o : TimerOp, ((iv.timers = [o]) ∧ (o.timer < 4) ∧ (o.delay = 0)))) ∧
    (∃ s : State, ∃ c : Fin 64, ∃ iv : Invocation, ∃ rd : Fin 32, (let done_ := fmtR 0x3F 0 0 0 0; ∃ n : Fin 12, ∃ d : Nat, ((s.kReady c iv done_ 1) ∧ (iv.sputs = []) ∧ (iv.emits = []) ∧ (iv.timers = []) ∧ (iv.hsets = [(n.val, d)]) ∧ (s.outboundRoom c iv = true) ∧ (d ≤ 1000) ∧ (s.dikeReady) ∧ (s.running = true)))) ∧
    (∃ s : State, ∃ c : Fin 64, ∃ iv : Invocation, ∃ rd : Fin 32, (let done_ := fmtR 0x3F 0 0 0 0; ∃ w : SigWrite, ((s.kReady c iv done_ 1) ∧ (iv.emits = []) ∧ (iv.hsets = []) ∧ (iv.timers = []) ∧ (iv.sputs = [w]) ∧ (s.outboundRoom c iv = true)))) ∧
    (∃ s : State, ∃ c : Fin 64, ∃ iv : Invocation, ∃ rd : Fin 32, (let done_ := fmtR 0x3F 0 0 0 0; ∃ data : List Byte, ∃ tc : Fin 8, ((s.kReady c iv done_ 1) ∧ (iv.sputs = []) ∧ (iv.hsets = []) ∧ (iv.timers = []) ∧ (iv.emits = [leBytes 4 (2 + 4 * tc.val) ++ leBytes 4 0 ++ data]) ∧ (s.outboundRoom c iv = true) ∧ ((s.pol (s.fld (TMG_PORT_CLS 28) TMG_PORT_CLS_pol)).en = false) ∧ (s.roomFor 28 30 tc 0) ∧ (s.tooManyCells { input := 28, data := data } = false)))) ∧
    (∃ s : State, ∃ c : Fin 64, ∃ iv : Invocation, ∃ rd : Fin 32, (let done_ := fmtR 0x3F 0 0 0 0; ((s.kReady c iv done_ 1) ∧ (iv.sputs = []) ∧ (s.outboundRoom c iv = false)))) ∧
    (∃ s : State, ∃ c : Fin 64, ∃ iv : Invocation, ∃ rd : Fin 32, ((s.inv c = some iv) ∧ (iv.wait = .done) ∧ (s.outboundRoom c iv = true) ∧ (iv.emits = []) ∧ (iv.timers = []) ∧ (iv.hsets = []))) ∧
    (∃ s : State, ∃ c : Fin 64, ∃ iv : Invocation, ∃ rd : Fin 32, (s.inv c = none ∨ (s.inv c = some iv ∧ (iv.wait ≠ .done ∨ s.outboundRoom c iv = false)))) ∧
    (∃ s : State, ∃ c : Fin 64, ∃ iv : Invocation, ∃ rd : Fin 32, (s.kReady c iv (fmtR 0x3F 0 0 0 1) 1)) ∧
    (∃ s : State, ∃ c : Fin 64, ∃ iv : Invocation, ∃ rd : Fin 32, ∃ w : Nat, (s.kReady c iv w 0) ∧ (atnDecode w = none)) ∧
    (∃ s : State, ∃ c : Fin 64, ∃ iv : Invocation, ∃ rd : Fin 32, ∃ i, i ∈ ([.illegalInstruction c, .nop c, .done c, .abandon c] : List Instr) ∧ ((s.inv c = some iv) ∧ (iv.wait = .none) ∧ (s.kFetch c iv = none))) ∧
    (∃ s : State, ∃ c : Fin 64, ∃ iv : Invocation, ∃ rd : Fin 32, ∃ w : Nat, (s.kReady c iv w 0) ∧ (atnDecode w ≠ none)) ∧
    (∃ s : State, ∃ c : Fin 64, ∃ iv : Invocation, ∃ rd : Fin 32, (let done_ := fmtR 0x3F 0 0 0 0; ∃ w : Nat, (s.kReady c iv w 0) ∧ (w ≠ done_))) ∧
    (∃ s : State, ∃ c : Fin 64, ∃ iv : Invocation, ∃ rd : Fin 32, ∃ i, i ∈ ([.illegalInstruction c, .nop c, .done c, .abandon c, .budl c rd, .rnd c rd] : List Instr) ∧ (s.inv c = none ∨ (s.inv c = some iv ∧ iv.wait ≠ .none))) ∧
    (∃ s : State, ∃ c : Fin 64, ∃ iv : Invocation, ∃ rd : Fin 32, (let done_ := fmtR 0x3F 0 0 0 0; (s.kReady c iv done_ 0) ∧ (iv.left = 0))) := by
  exact ⟨⟨((kst (on) (fmtR 0x3E 0 0 0 0) (kiv (0) (0) (0)))), 63, ((kiv (0) (0) (0))), 3, by decide +kernel⟩,
    ⟨((kst (on) (fmtR 0x3E 30 0 0 1) (kiv (0) (0) (0)))), 63, ((kiv (0) (0) (0))), 3, 14, 30, by decide +kernel⟩,
    ⟨((kst (on) (fmtR 0x3E 3 0 0 2) (kiv (0) (0) (0)))), 63, ((kiv (0) (0) (0))), 3, by decide +kernel⟩,
    ⟨((kst (on) (fmtR 0x3E 3 0 0 3) (kiv (0) (0) (0)))), 63, ((kiv (0) (0) (0))), 3, by decide +kernel⟩,
    ⟨((kst (on) (fmtR 0x3E 3 0 0 4) (kiv (0) (0) (0)))), 63, ((kiv (0) (0) (0))), 3, by decide +kernel⟩,
    ⟨((kst (on) (fmtR 0x3F 0 0 0 0) (kiv (0) (0) (0)))), 63, ((kiv (0) (0) (0))), 3, by decide +kernel⟩,
    ⟨((kst (on) (fmtR 0x3F 0 0 0 0) ({ kiv (0) (0) (0) with timers := [{ timer := 3, delay := 1, periodic := true, arg := 9 }] }))), 63, (({ kiv (0) (0) (0) with timers := [{ timer := 3, delay := 1, periodic := true, arg := 9 }] })), 3, by decide +kernel, { timer := 3, delay := 1, periodic := true, arg := 9 }, by decide +kernel⟩,
    ⟨((kst ({ on with kpr := { on.kpr with timers := [(3, { due := 100, period := some 50, arg := 4 })], pend := [{ kind := 3, routine := 0, g2 := 3 }, { kind := 3, routine := 0, g2 := 2 }] } }) (fmtR 0x3F 0 0 0 0) ({ kiv (0) (0) (0) with timers := [{ timer := 3, delay := 0, periodic := true, arg := 9 }] }))), 63, (({ kiv (0) (0) (0) with timers := [{ timer := 3, delay := 0, periodic := true, arg := 9 }] })), 3, by decide +kernel, { timer := 3, delay := 0, periodic := true, arg := 9 }, by decide +kernel⟩,
    ⟨((kst ({ on with bank := { on.bank with lastSeq := some 15 } }) (fmtR 0x3F 0 0 0 0) ({ kiv (0) (0) (0) with hsets := [(11, 1000)] }))), 63, (({ kiv (0) (0) (0) with hsets := [(11, 1000)] })), 3, 11, 1000, by decide +kernel⟩,
    ⟨((kst (on) (fmtR 0x3F 0 0 0 0) ({ kiv (0) (0) (0) with sputs := [{ index := 249999, value := 5, status := 0 }] }))), 63, (({ kiv (0) (0) (0) with sputs := [{ index := 249999, value := 5, status := 0 }] })), 3, { index := 249999, value := 5, status := 0 }, by decide +kernel⟩,
    ⟨((kst ((((((((({ on with elapsed := 77, tide := 99 }).wr SYS_POLDER 4095).wr (SWC_BERM_LO 7) 0x40404040).wr (SWC_BERM_HI 7) 0x40404040).wr (SWC_BERM_LO 6) 0x40404040).wr (SWC_BERM_HI 6) 0x40404040).wr (SWC_PORT_CFG 30) 0x31).wr (SWC_PORT_CFG 28) 0x31)) (fmtR 0x3F 0 0 0 0) ({ kiv (0) (0) (0) with emits := [leBytes 4 (2 + 4 * 7) ++ leBytes 4 0 ++ List.replicate 40 9] }))), 63, (({ kiv (0) (0) (0) with emits := [leBytes 4 (2 + 4 * 7) ++ leBytes 4 0 ++ List.replicate 40 9] })), 3, (List.replicate 40 9), 7, by decide +kernel⟩,
    ⟨{ (kst (on) (fmtR 0x3F 0 0 0 0) ({ kiv (0) (0) (0) with emits := [List.replicate 8 0] })) with kpr := { (kst on (fmtR 0x3F 0 0 0 0) { kiv 0 0 0 with emits := [List.replicate 8 0] }).kpr with outbound := [(3, 32768, 1000)] } }, 63, (({ kiv (0) (0) (0) with emits := [List.replicate 8 0] })), 3, by decide +kernel⟩,
    ⟨((kst (on) (0) ({ kiv (0) (0) (0) with wait := .done }))), 63, (({ kiv (0) (0) (0) with wait := .done })), 3, by decide +kernel⟩,
    ⟨on, 63, (kiv 0 0 0), 0, by decide +kernel⟩,
    ⟨((kst (on) (fmtR 0x3F 0 0 0 1) (kiv (0) (0) (0)))), 63, ((kiv (0) (0) (0))), 3, by decide +kernel⟩,
    ⟨((kst (on) (0) (kiv (0) (0) (0)))), 63, ((kiv (0) (0) (0))), 3, 0, by decide +kernel⟩,
    ⟨((kst (on) (0) ({ kiv (0) (0) (0) with pc := 64 }))), 63, (({ kiv (0) (0) (0) with pc := 64 })), 3, (.nop 63), by decide +kernel⟩,
    ⟨((kst (on) (fmtR 0x3F 0 0 0 0) (kiv (0) (0) (0)))), 63, ((kiv (0) (0) (0))), 3, (fmtR 0x3F 0 0 0 0), by decide +kernel⟩,
    ⟨((kst (on) (fmtR 0x3E 0 0 0 0) (kiv (0) (0) (0)))), 63, ((kiv (0) (0) (0))), 3, (fmtR 0x3E 0 0 0 0), by decide +kernel⟩,
    ⟨on, 63, (kiv 0 0 0), 0, (.done 63), by decide +kernel⟩,
    ⟨((kst (on) (fmtR 0x3F 0 0 0 0) ({ kiv (0) (0) (0) with left := 0 }))), 63, (({ kiv (0) (0) (0) with left := 0 })), 3, by decide +kernel⟩⟩

theorem witness_KeeperEvents :
    (∃ s : State, (s.stagedAt 28 = [])) ∧
    (∃ s : State, ∃ f : Frame, ∃ rest : List Frame, (s.stagedAt 28 = f :: rest) ∧ (s.bindingOf f = none)) ∧
    (∃ s : State, ∃ f : Frame, ∃ rest : List Frame, (s.stagedAt 28 = f :: rest) ∧ ∃ r : Nat, ∃ arg : Nat, (s.bindingOf f = some (r, arg)) ∧ (s.deaf r = true)) ∧
    (∃ s : State, ∃ f : Frame, ∃ rest : List Frame, (s.stagedAt 28 = f :: rest) ∧ ∃ r : Nat, ∃ arg : Nat, ∃ c : Nat, ((s.bindingOf f = some (r, arg)) ∧ (s.deaf r = false) ∧ (s.coreOf r = some c) ∧ (s.clusterRoom c f.data.length [] = true))) ∧
    (∃ s : State, ∃ f : Frame, ∃ rest : List Frame, (s.stagedAt 28 = f :: rest) ∧ ∃ r : Nat, ∃ arg : Nat, ∃ c : Nat, ((s.bindingOf f = some (r, arg)) ∧ (s.deaf r = false) ∧ (s.coreOf r = some c) ∧ (s.clusterRoom c f.data.length [] = false))) ∧
    (∃ s : State, ∃ c : Fin 64, ∃ e : KEvent, ((s.coreRuns c = true) ∧ (s.inv c = none) ∧ (s.nextEvent c = some e))) ∧
    (∃ s : State, ∃ c : Fin 64, (s.coreRuns c = false ∨ s.inv c ≠ none ∨ s.nextEvent c = none)) ∧
    (∃ s : State, ∃ r : Fin 1024, ∃ n : Fin 4, (s.kpr.timers.find? (fun e => e.1 == 4 * r.val + n.val) = none)) ∧
    (∃ s : State, ∃ r : Fin 1024, ∃ n : Fin 4, ∃ x : KTimer, (s.kpr.timers.find? (fun e => e.1 == 4 * r.val + n.val) = some (4 * r.val + n.val, x)) ∧ (s.elapsed < x.due)) ∧
    (∃ s : State, ∃ r : Fin 1024, ∃ n : Fin 4, ∃ x : KTimer, ((s.kpr.timers.find? (fun e => e.1 == 4 * r.val + n.val) = some (4 * r.val + n.val, x)) ∧ (x.due ≤ s.elapsed) ∧ (s.deaf r = true))) ∧
    (∃ s : State, ∃ r : Fin 1024, ∃ n : Fin 4, ∃ x : KTimer, (s.kpr.timers.find? (fun e => e.1 == 4 * r.val + n.val) = some (4 * r.val + n.val, x)) ∧ (let waits := s.kpr.pend.any (fun e => e.kind == 3 && e.routine == r.val && e.g2 == n.val); ((x.due ≤ s.elapsed) ∧ (s.deaf r = false) ∧ (waits = true)))) ∧
    (∃ s : State, ∃ r : Fin 1024, ∃ n : Fin 4, ∃ x : KTimer, (s.kpr.timers.find? (fun e => e.1 == 4 * r.val + n.val) = some (4 * r.val + n.val, x)) ∧ (let waits := s.kpr.pend.any (fun e => e.kind == 3 && e.routine == r.val && e.g2 == n.val); ((x.due ≤ s.elapsed) ∧ (s.deaf r = false) ∧ (waits = false)))) ∧
    (∃ s : State, ∃ m : Master, ∃ v : Word, (s.writable m KPR_RT_CMD) ∧ (v.toNat.testBit 1 = false)) ∧
    (∃ s : State, ∃ m : Master, ∃ v : Word, (s.writable m KPR_RT_CMD) ∧ (v.toNat.testBit 0 = false)) ∧
    (∃ s : State, ∃ m : Master, ∃ v : Word, (let r := s.fld KPR_RT_SEL KPR_RT_SEL_routine; ((s.writable m KPR_RT_CMD) ∧ (v.toNat.testBit 0 = true) ∧ (v.toNat.testBit 1 = true) ∧ ((s.rt r).suspended = true)))) ∧
    (∃ s : State, ∃ m : Master, ∃ v : Word, (s.writable m KPR_CNT_CLR)) := by
  exact ⟨⟨on, by decide +kernel⟩,
    ⟨{ (on) with sw := { on.sw with staged := [(28, [{ input := 3, data := List.replicate 64 0, complete := true }])] } }, { input := 3, data := List.replicate 64 0, complete := true }, [], by decide +kernel⟩,
    ⟨{ ((on).setChan 5 { rxq0 := [{ no := 1, record := [1] }, { no := 2, record := [2] }] }) with sw := { on.sw with staged := [(28, [{ input := 30, kind := .canRecord, data := List.replicate 40 0, complete := true, routine := some (7, 9), canEntry := some (5, 1) }])] } }, { input := 30, kind := .canRecord, data := List.replicate 40 0, complete := true, routine := some (7, 9), canEntry := some (5, 1) }, [], by decide +kernel, 7, 9, by decide +kernel⟩,
    ⟨{ (((on).setFld (PLC_MAP 7) PLC_MAP_placed (1)).setFld (PLC_MAP 7) PLC_MAP_core (63)) with sw := { on.sw with staged := [(28, [{ input := 3, data := List.replicate 64 0, complete := true, routine := some (7, 9) }])] } }, { input := 3, data := List.replicate 64 0, complete := true, routine := some (7, 9) }, [], by decide +kernel, 7, 9, 63, by decide +kernel⟩,
    ⟨{ { (((on).setFld (PLC_MAP 7) PLC_MAP_placed (1)).setFld (PLC_MAP 7) PLC_MAP_core (63)) with sw := { on.sw with staged := [(28, [{ input := 3, data := List.replicate 64 0, complete := true, routine := some (7, 9) }])] } } with kpr := { on.kpr with pend := List.replicate 8 { kind := 1, routine := 7, g2 := 0, data := [1] } } }, { input := 3, data := List.replicate 64 0, complete := true, routine := some (7, 9) }, [], by decide +kernel, 7, 9, 63, by decide +kernel⟩,
    ⟨{ ((((on).setFld (PLC_MAP 7) PLC_MAP_placed (1)).setFld (PLC_MAP 7) PLC_MAP_core (63)).setFld (SYS_POLDER) SYS_POLDER_on (64)) with dev := { on.dev with state := .full }, kpr := { on.kpr with pend := [{ kind := 3, routine := 8, g2 := 2, g3 := 8, time := 2 ^ 40 + 5, g6 := 4, g7 := 6 }, { kind := 3, routine := 7, g2 := 2, g3 := 8, time := 2 ^ 40 + 5, g6 := 4, g7 := 6 }] } }, 63, { kind := 3, routine := 7, g2 := 2, g3 := 8, time := 2 ^ 40 + 5, g6 := 4, g7 := 6 }, by decide +kernel⟩,
    ⟨on, 63, by decide +kernel⟩,
    ⟨on, 7, 3, by decide +kernel⟩,
    ⟨{ ((((on).setFld (PLC_MAP 7) PLC_MAP_placed (1)).setFld (PLC_MAP 7) PLC_MAP_core (63)).setFld (SYS_POLDER) SYS_POLDER_on (64)) with elapsed := 99, tide := 200, kpr := { on.kpr with timers := [(30, { due := 1, period := none, arg := 4 }), (31, { due := 100, period := some 50, arg := 4 })] } }, 7, 3, { due := 100, period := some 50, arg := 4 }, by decide +kernel⟩,
    ⟨{ on with elapsed := 100, tide := 200, kpr := { on.kpr with timers := [(30, { due := 1, period := none, arg := 4 }), (31, { due := 100, period := some 50, arg := 4 })] } }, 7, 3, { due := 100, period := some 50, arg := 4 }, by decide +kernel⟩,
    ⟨{ ((((on).setFld (PLC_MAP 7) PLC_MAP_placed (1)).setFld (PLC_MAP 7) PLC_MAP_core (63)).setFld (SYS_POLDER) SYS_POLDER_on (64)) with elapsed := 100, tide := 200, kpr := { on.kpr with timers := [(30, { due := 1, period := none, arg := 4 }), (31, { due := 100, period := some 50, arg := 4 })], pend := [{ kind := 3, routine := 7, g2 := 3 }] } }, 7, 3, { due := 100, period := some 50, arg := 4 }, by decide +kernel⟩,
    ⟨{ ((((on).setFld (PLC_MAP 7) PLC_MAP_placed (1)).setFld (PLC_MAP 7) PLC_MAP_core (63)).setFld (SYS_POLDER) SYS_POLDER_on (64)) with elapsed := 100, tide := 200, kpr := { on.kpr with timers := [(30, { due := 1, period := none, arg := 4 }), (31, { due := 100, period := some 50, arg := 4 })], pend := [{ kind := 3, routine := 7, g2 := 2 }] } }, 7, 3, { due := 100, period := some 50, arg := 4 }, by decide +kernel⟩,
    ⟨(on.setRt 0 { suspended := true, abortRun := 3, cnt := [1,2,3,4,5,6,7,8,9], maxUsed := 7 }), .warden, 1, by decide +kernel⟩,
    ⟨(on.setRt 0 { suspended := true, abortRun := 3, cnt := [1,2,3,4,5,6,7,8,9], maxUsed := 7 }), .warden, 2, by decide +kernel⟩,
    ⟨(on.setRt 0 { suspended := true, abortRun := 3, cnt := [1,2,3,4,5,6,7,8,9], maxUsed := 7 }), .warden, 3, by decide +kernel⟩,
    ⟨((on.setRt 0 { suspended := true, abortRun := 3, cnt := [1,2,3,4,5,6,7,8,9], maxUsed := 7 }).setRt 700 { lastPc := 4, maxUsed := 5 }), .warden, 0, by decide +kernel⟩⟩

theorem witness_Placement :
    (∃ s : State, (s.plc.batch ≠ [] ∨ s.plc.trigger = [])) ∧
    (∃ s : State, ∃ rest : List Trigger, ((s.plc.batch = []) ∧ (s.plc.trigger = .derived :: rest) ∧ (s.plc.prog.routines.length ≤ 1024)) ∧ (let load := { s with plc := { s.plc with trigger := rest } }.commitDerived (fun _ => false); (let gate := s.loadGate .placement load; (gate = .wait)))) ∧
    (∃ s : State, ∃ rest : List Trigger, ((s.plc.batch = []) ∧ (s.plc.trigger = .derived :: rest) ∧ (s.plc.prog.routines.length ≤ 1024) ∧ (s.hlt.asked = none))) ∧
    (∃ s : State, ∃ rest : List Trigger, ((s.plc.batch = []) ∧ (s.plc.trigger = .derived :: rest) ∧ (s.plc.prog.routines.length ≤ 1024)) ∧ (let load := { s with plc := { s.plc with trigger := rest } }.commitDerived (fun _ => false); (let gate := s.loadGate .placement load; (gate = .go ∨ gate = .refused)))) ∧
    (∃ s : State, ∃ p : Program, ∃ d : List Byte, ∃ u : Bool, ∃ rest : List Trigger, ((s.plc.batch = []) ∧ (s.plc.trigger = .program p d u :: rest) ∧ (s.plc.prog.routines.length ≤ 1024) ∧ (p.routines.length ≤ 1024))) ∧
    (∃ s : State, ∃ h : Nat, ∃ l : List MobileReport, ∃ rest : List Trigger, (s.plc.batch = []) ∧ (s.plc.trigger = .mobile h l :: rest) ∧ (let u := { s with plc := { s.plc with trigger := rest } }; (s.loadGate .placement (u.mobileChoice h l) = .wait))) ∧
    (∃ s : State, ∃ h : Nat, ∃ l : List MobileReport, ∃ rest : List Trigger, (s.plc.batch = []) ∧ (s.plc.trigger = .mobile h l :: rest) ∧ (let u := { s with plc := { s.plc with trigger := rest } }; (s.loadGate .placement (u.mobileChoice h l) = .refused))) ∧
    (∃ s : State, (s.plc.batch = [])) ∧
    (∃ s : State, ∃ pause : Nat, ∃ m : Move, ∃ rest : List Move, (s.plc.batch = m :: rest) ∧ (s.busyRoutine m.routine = true)) ∧
    (∃ s : State, ∃ pause : Nat, ∃ m : Move, ∃ rest : List Move, ((s.plc.batch = m :: rest) ∧ (s.busyRoutine m.routine = false) ∧ (m.routine < 1024))) ∧
    (∃ s : State, ∃ head : Fin 32, ∃ l : List MobileReport, (s.plc.batch ≠ [])) ∧
    (∃ s : State, ∃ head : Fin 32, ∃ l : List MobileReport, (s.plc.batch = []) ∧ (s.plc.trigger = []) ∧ (let gate := s.loadGate .placement (s.mobileChoice head l); (gate = .wait))) ∧
    (∃ s : State, ∃ head : Fin 32, ∃ l : List MobileReport, (s.plc.batch = []) ∧ (s.plc.trigger = []) ∧ (let own := (List.range s.plc.prog.routines.length).filter (fun k => (s.routine k).mobile); (let gate := s.loadGate .placement (s.mobileChoice head l); ((gate = .go) ∧ (own = []) ∧ (l = []))))) ∧
    (∃ s : State, ∃ head : Fin 32, ∃ l : List MobileReport, (s.plc.batch = []) ∧ (s.plc.trigger = []) ∧ (let own := (List.range s.plc.prog.routines.length).filter (fun k => (s.routine k).mobile); (let gate := s.loadGate .placement (s.mobileChoice head l); ∃ r : Nat, ∃ x : MobileReport, ((gate = .go) ∧ (r < 1024) ∧ (own = [r]) ∧ (l = [x]) ∧ (x.routine = r) ∧ (x.addr < 32) ∧ ((s.routine r).hostMask.testBit x.addr = true) ∧ (x.canPlace = true) ∧ ((s.routine r).hostMode = 1) ∧ (x.addr ≠ s.fabAddr) ∧ (tget 0 s.plc.hosts r = 0))))) ∧
    (∃ s : State, ∃ head : Fin 32, ∃ l : List MobileReport, (s.plc.batch = []) ∧ (s.plc.trigger = []) ∧ (let own := (List.range s.plc.prog.routines.length).filter (fun k => (s.routine k).mobile); (let gate := s.loadGate .placement (s.mobileChoice head l); ∃ r : Nat, ((gate = .go) ∧ (r < 1024) ∧ (own = [r]) ∧ (l = []))))) ∧
    (∃ s : State, ∃ g : Group, ∃ x : GroupPlace, ((s.dev.state = .full) ∧ (s.plc.prog.groups = [g]) ∧ (1 ≤ g.no) ∧ (g.no ≤ 256) ∧ (4 * g.persistWords ≤ 4096) ∧ (s.groupRegion g.no = some x) ∧ (0 < g.persistWords) ∧ (4 * g.persistWords ≤ x.len) ∧ (s.plc.groupNew.contains g.no = false))) ∧
    (∃ s : State, (s.dev.state ≠ .full)) ∧
    (∃ s : State, ∃ f : Frame, ∃ rest : List Frame, ∃ r : Nat, ∃ arg : Nat, ∃ c : Nat, ((s.stagedAt 28 = f :: rest) ∧ (s.bindingOf f = some (r, arg)) ∧ (s.deaf r = false) ∧ (s.coreOf r = some c) ∧ (s.clusterRoom c f.data.length [] = true))) ∧
    (∃ s : State, ∃ c : Fin 64, ∃ e : KEvent, ((s.coreRuns c = true) ∧ (s.inv c = none) ∧ (s.kpr.pend = [e]) ∧ (s.coreOf e.routine = some c.val) ∧ ((s.rt e.routine).suspended = false))) ∧
    (∃ s : State, ∃ r : Fin 1024, ∃ n : Fin 4, ∃ x : KTimer, ((s.kpr.timers = [(4 * r.val + n.val, x)]) ∧ (x.due ≤ s.elapsed) ∧ (x.period = none) ∧ (s.deaf r = false) ∧ (s.kpr.pend = []))) ∧
    (∃ s : State, ∃ m : Master, ∃ v : Word, ((s.writable m KPR_RT_CMD) ∧ (v.toNat.testBit 0 = false) ∧ (v.toNat.testBit 1 = false))) ∧
    (∃ s : State, ∃ m : Master, ∃ v : Word, ((s.writable m KPR_RT_CMD) ∧ (v.toNat.testBit 0 = false) ∧ (v.toNat.testBit 1 = false))) ∧
    (∃ s : State, ∃ m : Master, ∃ v : Word, (s.writable m KPR_CNT_CLR)) := by
  exact ⟨⟨{ (on) with plc := { (on).plc with batch := [{ routine := 7, target := 3 }], trigger := [.derived] } }, by decide +kernel⟩,
    ⟨{ ({ (on) with plc := { (on).plc with trigger := [.derived] } }) with hlt := { ({ (on) with plc := { (on).plc with trigger := [.derived] } }).hlt with asked := some .placement, raising := some 5 } }, [], by decide +kernel⟩,
    ⟨{ (on) with plc := { (on).plc with trigger := [.derived], prog := { routines := [{ group := 1, loadKu := 5, dataBytes := 8, code := [1,2,3,4] }, { shedClass := 2 }], groups := [{ no := 1, sharedBytes := 64, persistWords := 4 }] } } }, [], by decide +kernel⟩,
    ⟨{ ({ (on) with plc := { (on).plc with trigger := [.derived] } }) with hlt := { ({ (on) with plc := { (on).plc with trigger := [.derived] } }).hlt with asked := some .placement } }, [], by decide +kernel⟩,
    ⟨{ (on) with plc := { (on).plc with trigger := [.program {} [1] false] } }, (({} : Program)), [1], false, [], by decide +kernel⟩,
    ⟨{ ({ (on) with plc := { (on).plc with trigger := [.mobile 31 []] } }) with hlt := { ({ (on) with plc := { (on).plc with trigger := [.mobile 31 []] } }).hlt with asked := some .placement, raising := some 5 } }, 31, [], [], by decide +kernel⟩,
    ⟨{ ({ ({ (on) with plc := { (on).plc with trigger := [.mobile 31 [{ routine := 0, addr := 31, digest := 0, load := 0, capacity := 100, canPlace := true }]] } }) with hlt := { ({ (on) with plc := { (on).plc with trigger := [.mobile 31 [{ routine := 0, addr := 31, digest := 0, load := 0, capacity := 100, canPlace := true }]] } }).hlt with asked := some .placement, raising := some 0 } }) with elapsed := 2000000 }, 31, ([{ routine := 0, addr := 31, digest := 0, load := 0, capacity := 100, canPlace := true }]), [], by decide +kernel⟩,
    ⟨on, by decide +kernel⟩,
    ⟨{ ({ on with kpr := { on.kpr with run := [(5, { kiv 0 0 0 with ev := { kind := 3, routine := 7, g2 := 0 } })] } }) with plc := { ({ on with kpr := { on.kpr with run := [(5, { kiv 0 0 0 with ev := { kind := 3, routine := 7, g2 := 0 } })] } }).plc with batch := [{ routine := 7, target := 63, desc := some { dataBytes := 8, image := [1, 2] } }] } }, 3, { routine := 7, target := 63, desc := some { dataBytes := 8, image := [1, 2] } }, [], by decide +kernel⟩,
    ⟨{ (on) with plc := { (on).plc with batch := [{ routine := 7, target := 63, desc := some { dataBytes := 8, image := [1, 2] } }] } }, 3, { routine := 7, target := 63, desc := some { dataBytes := 8, image := [1, 2] } }, [], by decide +kernel⟩,
    ⟨{ (on) with plc := { (on).plc with batch := [{ routine := 7, target := 63, desc := some { dataBytes := 8, image := [1, 2] } }] } }, 31, [], by decide +kernel⟩,
    ⟨{ (on) with hlt := { (on).hlt with asked := some .placement, raising := some 5 } }, 31, ([{ routine := 0, addr := 31, digest := 0, load := 0, capacity := 100, canPlace := true }]), by decide +kernel⟩,
    ⟨{ (on) with hlt := { (on).hlt with asked := some .placement } }, 31, [], by decide +kernel⟩,
    ⟨{ ({ (on) with plc := { (on).plc with prog := { routines := [{ mobile := true, hostMode := 1, hostMask := 2 ^ 31, shedClass := 3 }] } } }) with hlt := { ({ (on) with plc := { (on).plc with prog := { routines := [{ mobile := true, hostMode := 1, hostMask := 2 ^ 31, shedClass := 3 }] } } }).hlt with asked := some .placement } }, 31, ([{ routine := 0, addr := 31, digest := 0, load := 0, capacity := 100, canPlace := true }]), by decide +kernel, by decide +kernel, 0, { routine := 0, addr := 31, digest := 0, load := 0, capacity := 100, canPlace := true }, by decide +kernel⟩,
    ⟨{ ({ (on) with plc := { (on).plc with prog := { routines := [{ mobile := true, hostMode := 1, hostMask := 2 ^ 31, shedClass := 3 }] } } }) with hlt := { ({ (on) with plc := { (on).plc with prog := { routines := [{ mobile := true, hostMode := 1, hostMask := 2 ^ 31, shedClass := 3 }] } } }).hlt with asked := some .placement } }, 31, [], by decide +kernel, by decide +kernel, 0, by decide +kernel⟩,
    ⟨{ ((({ on with dev := { on.dev with state := .full } }).mwr (sharedBase 3 + 20) 4 0x12345678)) with plc := { ((({ on with dev := { on.dev with state := .full } }).mwr (sharedBase 3 + 20) 4 0x12345678)).plc with prog := { groups := [{ no := 256, sharedBytes := 64, persistWords := 4 }] }, groupAt := [(256, some { cluster := 3, off := 16, len := 64 })] } }, { no := 256, sharedBytes := 64, persistWords := 4 }, { cluster := 3, off := 16, len := 64 }, by decide +kernel⟩,
    ⟨on, by decide +kernel⟩,
    ⟨{ (((on).setFld (PLC_MAP 1023) PLC_MAP_placed (1)).setFld (PLC_MAP 1023) PLC_MAP_core (63)) with sw := { on.sw with staged := [(28, [{ input := 5, data := List.replicate 64 1, routine := some (1023, 7), complete := true, cells := 1 }])] } }, { input := 5, data := List.replicate 64 1, routine := some (1023, 7), complete := true, cells := 1 }, [], 1023, 7, 63, by decide +kernel⟩,
    ⟨{ ((((on).setFld (SYS_POLDER) SYS_POLDER_on (0xFFF)).setFld (PLC_MAP 0) PLC_MAP_placed (1)).setFld (PLC_MAP 0) PLC_MAP_core (63)) with dev := { on.dev with state := .full }, kpr := { on.kpr with pend := [{ kind := 3, routine := 0, g2 := 2, g6 := 9, time := 5 }] }, plc := { on.plc with prog := { routines := [{ entryWord := 5, budget := 0 }, { budget := 77, entryWord := 9 }] } } }, 63, { kind := 3, routine := 0, g2 := 2, g6 := 9, time := 5 }, by decide +kernel⟩,
    ⟨{ ({ ((((on).setFld (SYS_POLDER) SYS_POLDER_on (0xFFF)).setFld (PLC_MAP 1) PLC_MAP_placed (1)).setFld (PLC_MAP 1) PLC_MAP_core (63)) with dev := { on.dev with state := .full }, kpr := { on.kpr with timers := [(7, { due := 5, period := none, arg := 3 })] }, plc := { on.plc with prog := { routines := [{ entryWord := 5, budget := 0 }, { budget := 77, entryWord := 9 }] } } }) with elapsed := 5 }, 1, 3, { due := 5, period := none, arg := 3 }, by decide +kernel⟩,
    ⟨(((on.setFld KPR_RT_SEL KPR_RT_SEL_routine 1023).setRt 1023 { suspended := true, maxUsed := 9, cnt := [1,2,3,4,5,6,7,8,9] }).setRt 0 { suspended := true, maxUsed := 9, cnt := [1] }), .warden, 4, by decide +kernel⟩,
    ⟨(((on.setFld KPR_RT_SEL KPR_RT_SEL_routine 1023).setRt 1023 { suspended := true, maxUsed := 9, cnt := [1,2,3,4,5,6,7,8,9] }).setRt 0 { suspended := true, maxUsed := 9, cnt := [1] }), .warden, 0, by decide +kernel⟩,
    ⟨(((on.setFld KPR_RT_SEL KPR_RT_SEL_routine 1023).setRt 1023 { suspended := true, maxUsed := 9, cnt := [1,2,3,4,5,6,7,8,9] }).setRt 0 { suspended := true, maxUsed := 9, cnt := [1] }), .warden, 1, by decide +kernel⟩⟩

theorem witness_BridgeTarget_1 :
    (∃ s : State, ∃ f : Frame, ∃ h : FabHdr, ∃ u : State, (let r := h.tag % 1024; ∃ fwd : Bool, (s.mine31 7 = some (f, h, u)) ∧ (u.hostElsewhere r = none) ∧ (fwd = false ∨ u.coreOf r ≠ none))) ∧
    (∃ s : State, ∃ f : Frame, ∃ h : FabHdr, ∃ u : State, (let r := h.tag % 1024; ∃ fwd : Bool, (s.mine31 7 = some (f, h, u)) ∧ (fwd = true) ∧ (u.coreOf r = none ∨ u.hostElsewhere r ≠ none))) ∧
    (∃ s : State, ∃ f : Frame, ∃ h : FabHdr, ∃ u : State, (let r := h.tag % 1024; ∃ fwd : Bool, (s.mine31 7 = some (f, h, u)) ∧ ((fwd = false) ∧ (u.hostElsewhere r ≠ none) ∧ (h.hop = 0)))) ∧
    (∃ s : State, ∃ f : Frame, ∃ h : FabHdr, ∃ u : State, (let r := h.tag % 1024; ∃ fwd : Bool, (s.mine31 7 = some (f, h, u)) ∧ ∃ a : Nat, ((fwd = false) ∧ (u.hostElsewhere r = some a) ∧ (h.hop ≠ 0)))) ∧
    (∃ s : State, ∃ f : Frame, ∃ h : FabHdr, ∃ u : State, ∃ fwd : Bool, (s.mine31 7 = none)) ∧
    (∃ s : State, ∃ f : Frame, ∃ h : FabHdr, ∃ u : State, (s.mine31 11 = some (f, h, u)) ∧ (let allowed := (s.rd FAB_CMD_ALLOW).toNat.testBit h.src; (allowed = false))) ∧
    (∃ s : State, ∃ f : Frame, ∃ h : FabHdr, ∃ u : State, (s.mine31 11 = some (f, h, u)) ∧ (let allowed := (s.rd FAB_CMD_ALLOW).toNat.testBit h.src; (allowed = true) ∧ (8 ≤ s.fabWaiting))) ∧
    (∃ s : State, ∃ f : Frame, ∃ h : FabHdr, ∃ u : State, (s.mine31 11 = some (f, h, u)) ∧ (let allowed := (s.rd FAB_CMD_ALLOW).toNat.testBit h.src; ((allowed = true) ∧ (s.fabWaiting < 8) ∧ (s.serving = false ∨ s.wrd.inProgress = true)))) ∧
    (∃ s : State, ∃ f : Frame, ∃ h : FabHdr, ∃ u : State, (s.mine31 11 = none)) ∧
    (∃ s : State, ∃ f : Frame, ∃ h : FabHdr, ∃ u : State, (s.mine31 8 = none)) ∧
    (∃ s : State, ∃ f : Frame, ∃ h : FabHdr, ∃ u : State, (s.mine31 8 = none)) ∧
    (∃ s : State, ∃ f : Frame, ∃ h : FabHdr, ∃ u : State, (let q := raReqOf f.data; (s.mine31 8 = some (f, h, u)) ∧ (q.op ≠ 2))) ∧
    (∃ s : State, ∃ f : Frame, ∃ h : FabHdr, ∃ u : State, (let q := raReqOf f.data; (s.mine31 8 = some (f, h, u)) ∧ (q.op = 2))) ∧
    (∃ s : State, ∃ f : Frame, ∃ h : FabHdr, ∃ u : State, (let q := raReqOf f.data; (s.mine31 8 = some (f, h, u)) ∧ (q.op ≠ 2) ∧ (q.op ≠ 1 ∨ q.ok = false))) ∧
    (∃ s : State, ∃ f : Frame, ∃ h : FabHdr, ∃ u : State, (let q := raReqOf f.data; (s.mine31 8 = some (f, h, u)) ∧ ((q.op ≠ 2) ∧ (q.op = 1) ∧ (q.ok = true) ∧ (u.raAllowed h.src FAB_RA_ALLOW = false)))) ∧
    (∃ s : State, ∃ f : Frame, ∃ h : FabHdr, ∃ u : State, (let q := raReqOf f.data; (s.mine31 8 = some (f, h, u)) ∧ ((q.op ≠ 2) ∧ (q.op = 1) ∧ (q.ok = true) ∧ (u.raAllowed h.src FAB_RA_ALLOW = true) ∧ (remoteOk false h.src q = false)))) ∧
    (∃ s : State, ∃ f : Frame, ∃ h : FabHdr, ∃ u : State, (let q := raReqOf f.data; (s.mine31 8 = some (f, h, u)) ∧ (q.op ≠ 2) ∧ ∃ x : Nat × Nat, ((q.op = 1) ∧ (q.ok = true) ∧ (u.raAllowed h.src FAB_RA_ALLOW = true) ∧ (remoteOk false h.src q = true) ∧ (u.lostWord q.addr (4 * q.words) = some x)))) ∧
    (∃ s : State, ∃ f : Frame, ∃ h : FabHdr, ∃ u : State, (let q := raReqOf f.data; (s.mine31 8 = some (f, h, u)) ∧ ((q.op = 1) ∧ (q.ok = true) ∧ (u.raAllowed h.src FAB_RA_ALLOW = true) ∧ (remoteOk false h.src q = true) ∧ (u.lostWord q.addr (4 * q.words) = none)) ∧ (let kept := u.fab.slots.find? (fun x => x.serves h.src h.tag q); (let first := fun (l : List ReadSlot) (no : Nat) => no < 16 ∧ (∀ x ∈ l, x.no ≠ no) ∧ ∀ k < no, ∃ x ∈ l, x.no = k; ∃ no : Fin 16, (kept = none) ∧ (first u.fab.slots no))))) := by
  exact ⟨⟨{ (((on).setFld (FAB_STATUS) FAB_STATUS_addressed (1)).setFld (FAB_STATUS) FAB_STATUS_addr (5)) with sw := { (((on).setFld (FAB_STATUS) FAB_STATUS_addressed (1)).setFld (FAB_STATUS) FAB_STATUS_addr (5)).sw with staged := [(31, [{ input := 7, kind := .fabric, data := List.replicate 32 0, fab := some { type := 7, tag := 1023, dst := 5, src := 3 } }])] } }, { input := 7, kind := .fabric, data := List.replicate 32 0, fab := some { type := 7, tag := 1023, dst := 5, src := 3 } }, { type := 7, tag := 1023, dst := 5, src := 3 }, (({ (((on).setFld (FAB_STATUS) FAB_STATUS_addressed (1)).setFld (FAB_STATUS) FAB_STATUS_addr (5)) with sw := { (((on).setFld (FAB_STATUS) FAB_STATUS_addressed (1)).setFld (FAB_STATUS) FAB_STATUS_addr (5)).sw with staged := [(31, [{ input := 7, kind := .fabric, data := List.replicate 32 0, fab := some { type := 7, tag := 1023, dst := 5, src := 3 } }])] } }).pop31), false, rfl, by decide +kernel⟩,
    ⟨{ ({ ((((((on).setFld (FAB_STATUS) FAB_STATUS_addressed (1)).setFld (FAB_STATUS) FAB_STATUS_addr (5)).setFld (PLC_MOB 5) PLC_MOB_valid 1).setFld (PLC_MOB 5) PLC_MOB_routine 0).setFld (PLC_MOB 5) PLC_MOB_host 9) with plc := { on.plc with prog := { routines := [{ mobile := true }] } } }) with sw := { ({ ((((((on).setFld (FAB_STATUS) FAB_STATUS_addressed (1)).setFld (FAB_STATUS) FAB_STATUS_addr (5)).setFld (PLC_MOB 5) PLC_MOB_valid 1).setFld (PLC_MOB 5) PLC_MOB_routine 0).setFld (PLC_MOB 5) PLC_MOB_host 9) with plc := { on.plc with prog := { routines := [{ mobile := true }] } } }).sw with staged := [(31, [{ input := 7, kind := .fabric, data := List.replicate 32 0, fab := some { type := 7, tag := 0, dst := 5, src := 3 } }])] } }, { input := 7, kind := .fabric, data := List.replicate 32 0, fab := some { type := 7, tag := 0, dst := 5, src := 3 } }, { type := 7, tag := 0, dst := 5, src := 3 }, (({ ({ ((((((on).setFld (FAB_STATUS) FAB_STATUS_addressed (1)).setFld (FAB_STATUS) FAB_STATUS_addr (5)).setFld (PLC_MOB 5) PLC_MOB_valid 1).setFld (PLC_MOB 5) PLC_MOB_routine 0).setFld (PLC_MOB 5) PLC_MOB_host 9) with plc := { on.plc with prog := { routines := [{ mobile := true }] } } }) with sw := { ({ ((((((on).setFld (FAB_STATUS) FAB_STATUS_addressed (1)).setFld (FAB_STATUS) FAB_STATUS_addr (5)).setFld (PLC_MOB 5) PLC_MOB_valid 1).setFld (PLC_MOB 5) PLC_MOB_routine 0).setFld (PLC_MOB 5) PLC_MOB_host 9) with plc := { on.plc with prog := { routines := [{ mobile := true }] } } }).sw with staged := [(31, [{ input := 7, kind := .fabric, data := List.replicate 32 0, fab := some { type := 7, tag := 0, dst := 5, src := 3 } }])] } }).pop31), true, rfl, by decide +kernel⟩,
    ⟨{ ({ ((((((on).setFld (FAB_STATUS) FAB_STATUS_addressed (1)).setFld (FAB_STATUS) FAB_STATUS_addr (5)).setFld (PLC_MOB 5) PLC_MOB_valid 1).setFld (PLC_MOB 5) PLC_MOB_routine 0).setFld (PLC_MOB 5) PLC_MOB_host 9) with plc := { on.plc with prog := { routines := [{ mobile := true }] } } }) with sw := { ({ ((((((on).setFld (FAB_STATUS) FAB_STATUS_addressed (1)).setFld (FAB_STATUS) FAB_STATUS_addr (5)).setFld (PLC_MOB 5) PLC_MOB_valid 1).setFld (PLC_MOB 5) PLC_MOB_routine 0).setFld (PLC_MOB 5) PLC_MOB_host 9) with plc := { on.plc with prog := { routines := [{ mobile := true }] } } }).sw with staged := [(31, [{ input := 7, kind := .fabric, data := List.replicate 32 0, fab := some { type := 7, tag := 0, hop := 0, dst := 5, src := 3 } }])] } }, { input := 7, kind := .fabric, data := List.replicate 32 0, fab := some { type := 7, tag := 0, hop := 0, dst := 5, src := 3 } }, { type := 7, tag := 0, hop := 0, dst := 5, src := 3 }, (({ ({ ((((((on).setFld (FAB_STATUS) FAB_STATUS_addressed (1)).setFld (FAB_STATUS) FAB_STATUS_addr (5)).setFld (PLC_MOB 5) PLC_MOB_valid 1).setFld (PLC_MOB 5) PLC_MOB_routine 0).setFld (PLC_MOB 5) PLC_MOB_host 9) with plc := { on.plc with prog := { routines := [{ mobile := true }] } } }) with sw := { ({ ((((((on).setFld (FAB_STATUS) FAB_STATUS_addressed (1)).setFld (FAB_STATUS) FAB_STATUS_addr (5)).setFld (PLC_MOB 5) PLC_MOB_valid 1).setFld (PLC_MOB 5) PLC_MOB_routine 0).setFld (PLC_MOB 5) PLC_MOB_host 9) with plc := { on.plc with prog := { routines := [{ mobile := true }] } } }).sw with staged := [(31, [{ input := 7, kind := .fabric, data := List.replicate 32 0, fab := some { type := 7, tag := 0, hop := 0, dst := 5, src := 3 } }])] } }).pop31), false, rfl, by decide +kernel⟩,
    ⟨{ ((((((on).setFld (FAB_STATUS) FAB_STATUS_addressed (1)).setFld (FAB_STATUS) FAB_STATUS_addr (5)).setFld (PLC_MOB 5) PLC_MOB_valid 1).setFld (PLC_MOB 5) PLC_MOB_routine 0).setFld (PLC_MOB 5) PLC_MOB_host 9) with sw := { ((((((on).setFld (FAB_STATUS) FAB_STATUS_addressed (1)).setFld (FAB_STATUS) FAB_STATUS_addr (5)).setFld (PLC_MOB 5) PLC_MOB_valid 1).setFld (PLC_MOB 5) PLC_MOB_routine 0).setFld (PLC_MOB 5) PLC_MOB_host 9).sw with staged := [(31, [{ input := 7, kind := .fabric, data := List.replicate 32 0, fab := some { type := 7, tag := 0, hop := 3, dst := 5, src := 3 } }])] } }, { input := 7, kind := .fabric, data := List.replicate 32 0, fab := some { type := 7, tag := 0, hop := 3, dst := 5, src := 3 } }, { type := 7, tag := 0, hop := 3, dst := 5, src := 3 }, (({ ((((((on).setFld (FAB_STATUS) FAB_STATUS_addressed (1)).setFld (FAB_STATUS) FAB_STATUS_addr (5)).setFld (PLC_MOB 5) PLC_MOB_valid 1).setFld (PLC_MOB 5) PLC_MOB_routine 0).setFld (PLC_MOB 5) PLC_MOB_host 9) with sw := { ((((((on).setFld (FAB_STATUS) FAB_STATUS_addressed (1)).setFld (FAB_STATUS) FAB_STATUS_addr (5)).setFld (PLC_MOB 5) PLC_MOB_valid 1).setFld (PLC_MOB 5) PLC_MOB_routine 0).setFld (PLC_MOB 5) PLC_MOB_host 9).sw with staged := [(31, [{ input := 7, kind := .fabric, data := List.replicate 32 0, fab := some { type := 7, tag := 0, hop := 3, dst := 5, src := 3 } }])] } }).pop31), false, rfl, 9, by decide +kernel⟩,
    ⟨on, fr, hd, on, true, by decide +kernel⟩,
    ⟨{ (((on).setFld (FAB_STATUS) FAB_STATUS_addressed (1)).setFld (FAB_STATUS) FAB_STATUS_addr (5)) with sw := { (((on).setFld (FAB_STATUS) FAB_STATUS_addressed (1)).setFld (FAB_STATUS) FAB_STATUS_addr (5)).sw with staged := [(31, [{ input := 7, kind := .fabric, data := [0, 0, 0, 0], fab := some { type := 11, dst := 5, src := 3 } }])] } }, { input := 7, kind := .fabric, data := [0, 0, 0, 0], fab := some { type := 11, dst := 5, src := 3 } }, { type := 11, dst := 5, src := 3 }, (({ (((on).setFld (FAB_STATUS) FAB_STATUS_addressed (1)).setFld (FAB_STATUS) FAB_STATUS_addr (5)) with sw := { (((on).setFld (FAB_STATUS) FAB_STATUS_addressed (1)).setFld (FAB_STATUS) FAB_STATUS_addr (5)).sw with staged := [(31, [{ input := 7, kind := .fabric, data := [0, 0, 0, 0], fab := some { type := 11, dst := 5, src := 3 } }])] } }).pop31), rfl, by decide +kernel⟩,
    ⟨{ ({ (((on).setFld (FAB_STATUS) FAB_STATUS_addressed (1)).setFld (FAB_STATUS) FAB_STATUS_addr (5)).wr (FAB_CMD_ALLOW) (8) with wrd := { on.wrd with arrivals := List.replicate 8 (.fabric 3 5 [] [] false) } }) with sw := { ({ (((on).setFld (FAB_STATUS) FAB_STATUS_addressed (1)).setFld (FAB_STATUS) FAB_STATUS_addr (5)).wr (FAB_CMD_ALLOW) (8) with wrd := { on.wrd with arrivals := List.replicate 8 (.fabric 3 5 [] [] false) } }).sw with staged := [(31, [{ input := 7, kind := .fabric, data := [1, 0, 0, 0], fab := some { type := 11, dst := 5, src := 3 } }])] } }, { input := 7, kind := .fabric, data := [1, 0, 0, 0], fab := some { type := 11, dst := 5, src := 3 } }, { type := 11, dst := 5, src := 3 }, (({ ({ (((on).setFld (FAB_STATUS) FAB_STATUS_addressed (1)).setFld (FAB_STATUS) FAB_STATUS_addr (5)).wr (FAB_CMD_ALLOW) (8) with wrd := { on.wrd with arrivals := List.replicate 8 (.fabric 3 5 [] [] false) } }) with sw := { ({ (((on).setFld (FAB_STATUS) FAB_STATUS_addressed (1)).setFld (FAB_STATUS) FAB_STATUS_addr (5)).wr (FAB_CMD_ALLOW) (8) with wrd := { on.wrd with arrivals := List.replicate 8 (.fabric 3 5 [] [] false) } }).sw with staged := [(31, [{ input := 7, kind := .fabric, data := [1, 0, 0, 0], fab := some { type := 11, dst := 5, src := 3 } }])] } }).pop31), rfl, by decide +kernel⟩,
    ⟨{ ((((on).setFld (FAB_STATUS) FAB_STATUS_addressed (1)).setFld (FAB_STATUS) FAB_STATUS_addr (5)).wr (FAB_CMD_ALLOW) (8)) with sw := { ((((on).setFld (FAB_STATUS) FAB_STATUS_addressed (1)).setFld (FAB_STATUS) FAB_STATUS_addr (5)).wr (FAB_CMD_ALLOW) (8)).sw with staged := [(31, [{ input := 7, kind := .fabric, data := [1, 0, 0, 0], fab := some { type := 11, dst := 5, src := 3 } }])] } }, { input := 7, kind := .fabric, data := [1, 0, 0, 0], fab := some { type := 11, dst := 5, src := 3 } }, { type := 11, dst := 5, src := 3 }, (({ ((((on).setFld (FAB_STATUS) FAB_STATUS_addressed (1)).setFld (FAB_STATUS) FAB_STATUS_addr (5)).wr (FAB_CMD_ALLOW) (8)) with sw := { ((((on).setFld (FAB_STATUS) FAB_STATUS_addressed (1)).setFld (FAB_STATUS) FAB_STATUS_addr (5)).wr (FAB_CMD_ALLOW) (8)).sw with staged := [(31, [{ input := 7, kind := .fabric, data := [1, 0, 0, 0], fab := some { type := 11, dst := 5, src := 3 } }])] } }).pop31), rfl, by decide +kernel⟩,
    ⟨on, fr, hd, on, by decide +kernel⟩,
    ⟨on, fr, hd, on, by decide +kernel⟩,
    ⟨on, fr, hd, on, by decide +kernel⟩,
    ⟨{ (((on).setFld (FAB_STATUS) FAB_STATUS_addressed (1)).setFld (FAB_STATUS) FAB_STATUS_addr (5)) with sw := { (((on).setFld (FAB_STATUS) FAB_STATUS_addressed (1)).setFld (FAB_STATUS) FAB_STATUS_addr (5)).sw with staged := [(31, [{ input := 7, kind := .fabric, data := (leBytes 4 (1 + 0 * 16 + 0 * 256 + 0 * 65536) ++ leBytes 4 (0x20000000) ++ leBytes 4 0), fab := some { type := 8, dst := 5, src := 3 } }])] } }, { input := 7, kind := .fabric, data := (leBytes 4 (1 + 0 * 16 + 0 * 256 + 0 * 65536) ++ leBytes 4 (0x20000000) ++ leBytes 4 0), fab := some { type := 8, dst := 5, src := 3 } }, { type := 8, dst := 5, src := 3 }, (({ (((on).setFld (FAB_STATUS) FAB_STATUS_addressed (1)).setFld (FAB_STATUS) FAB_STATUS_addr (5)) with sw := { (((on).setFld (FAB_STATUS) FAB_STATUS_addressed (1)).setFld (FAB_STATUS) FAB_STATUS_addr (5)).sw with staged := [(31, [{ input := 7, kind := .fabric, data := (leBytes 4 (1 + 0 * 16 + 0 * 256 + 0 * 65536) ++ leBytes 4 (0x20000000) ++ leBytes 4 0), fab := some { type := 8, dst := 5, src := 3 } }])] } }).pop31), rfl, by decide +kernel⟩,
    ⟨{ (((on).setFld (FAB_STATUS) FAB_STATUS_addressed (1)).setFld (FAB_STATUS) FAB_STATUS_addr (5)) with sw := { (((on).setFld (FAB_STATUS) FAB_STATUS_addressed (1)).setFld (FAB_STATUS) FAB_STATUS_addr (5)).sw with staged := [(31, [{ input := 7, kind := .fabric, data := (leBytes 4 (2 + 0 * 16 + 0 * 256 + 0 * 65536) ++ leBytes 4 (0x20000000) ++ leBytes 4 0 ++ leBytes 4 7), fab := some { type := 8, dst := 5, src := 3 } }])] } }, { input := 7, kind := .fabric, data := (leBytes 4 (2 + 0 * 16 + 0 * 256 + 0 * 65536) ++ leBytes 4 (0x20000000) ++ leBytes 4 0 ++ leBytes 4 7), fab := some { type := 8, dst := 5, src := 3 } }, { type := 8, dst := 5, src := 3 }, (({ (((on).setFld (FAB_STATUS) FAB_STATUS_addressed (1)).setFld (FAB_STATUS) FAB_STATUS_addr (5)) with sw := { (((on).setFld (FAB_STATUS) FAB_STATUS_addressed (1)).setFld (FAB_STATUS) FAB_STATUS_addr (5)).sw with staged := [(31, [{ input := 7, kind := .fabric, data := (leBytes 4 (2 + 0 * 16 + 0 * 256 + 0 * 65536) ++ leBytes 4 (0x20000000) ++ leBytes 4 0 ++ leBytes 4 7), fab := some { type := 8, dst := 5, src := 3 } }])] } }).pop31), rfl, by decide +kernel⟩,
    ⟨{ (((on).setFld (FAB_STATUS) FAB_STATUS_addressed (1)).setFld (FAB_STATUS) FAB_STATUS_addr (5)) with sw := { (((on).setFld (FAB_STATUS) FAB_STATUS_addressed (1)).setFld (FAB_STATUS) FAB_STATUS_addr (5)).sw with staged := [(31, [{ input := 7, kind := .fabric, data := (leBytes 4 (7 + 0 * 16 + 0 * 256 + 0 * 65536) ++ leBytes 4 (0x20000000) ++ leBytes 4 0), fab := some { type := 8, dst := 5, src := 3 } }])] } }, { input := 7, kind := .fabric, data := (leBytes 4 (7 + 0 * 16 + 0 * 256 + 0 * 65536) ++ leBytes 4 (0x20000000) ++ leBytes 4 0), fab := some { type := 8, dst := 5, src := 3 } }, { type := 8, dst := 5, src := 3 }, (({ (((on).setFld (FAB_STATUS) FAB_STATUS_addressed (1)).setFld (FAB_STATUS) FAB_STATUS_addr (5)) with sw := { (((on).setFld (FAB_STATUS) FAB_STATUS_addressed (1)).setFld (FAB_STATUS) FAB_STATUS_addr (5)).sw with staged := [(31, [{ input := 7, kind := .fabric, data := (leBytes 4 (7 + 0 * 16 + 0 * 256 + 0 * 65536) ++ leBytes 4 (0x20000000) ++ leBytes 4 0), fab := some { type := 8, dst := 5, src := 3 } }])] } }).pop31), rfl, by decide +kernel⟩,
    ⟨{ ({ (((on).setFld (FAB_STATUS) FAB_STATUS_addressed (1)).setFld (FAB_STATUS) FAB_STATUS_addr (5)) with fab := { (on).fab with members := [(77, 3)] } }) with sw := { ({ (((on).setFld (FAB_STATUS) FAB_STATUS_addressed (1)).setFld (FAB_STATUS) FAB_STATUS_addr (5)) with fab := { (on).fab with members := [(77, 3)] } }).sw with staged := [(31, [{ input := 7, kind := .fabric, data := (leBytes 4 (1 + 0 * 16 + 0 * 256 + 0 * 65536) ++ leBytes 4 (0x20000000) ++ leBytes 4 0), fab := some { type := 8, dst := 5, src := 3 } }])] } }, { input := 7, kind := .fabric, data := (leBytes 4 (1 + 0 * 16 + 0 * 256 + 0 * 65536) ++ leBytes 4 (0x20000000) ++ leBytes 4 0), fab := some { type := 8, dst := 5, src := 3 } }, { type := 8, dst := 5, src := 3 }, (({ ({ (((on).setFld (FAB_STATUS) FAB_STATUS_addressed (1)).setFld (FAB_STATUS) FAB_STATUS_addr (5)) with fab := { (on).fab with members := [(77, 3)] } }) with sw := { ({ (((on).setFld (FAB_STATUS) FAB_STATUS_addressed (1)).setFld (FAB_STATUS) FAB_STATUS_addr (5)) with fab := { (on).fab with members := [(77, 3)] } }).sw with staged := [(31, [{ input := 7, kind := .fabric, data := (leBytes 4 (1 + 0 * 16 + 0 * 256 + 0 * 65536) ++ leBytes 4 (0x20000000) ++ leBytes 4 0), fab := some { type := 8, dst := 5, src := 3 } }])] } }).pop31), rfl, by decide +kernel⟩,
    ⟨{ ({ ((((on).setFld (FAB_STATUS) FAB_STATUS_addressed (1)).setFld (FAB_STATUS) FAB_STATUS_addr (5)).wr (FAB_RA_ALLOW) (8)) with fab := { (on).fab with members := [(77, 3)] } }) with sw := { ({ ((((on).setFld (FAB_STATUS) FAB_STATUS_addressed (1)).setFld (FAB_STATUS) FAB_STATUS_addr (5)).wr (FAB_RA_ALLOW) (8)) with fab := { (on).fab with members := [(77, 3)] } }).sw with staged := [(31, [{ input := 7, kind := .fabric, data := (leBytes 4 (1 + 0 * 16 + 0 * 256 + 0 * 65536) ++ leBytes 4 (0x01000000) ++ leBytes 4 0), fab := some { type := 8, dst := 5, src := 3 } }])] } }, { input := 7, kind := .fabric, data := (leBytes 4 (1 + 0 * 16 + 0 * 256 + 0 * 65536) ++ leBytes 4 (0x01000000) ++ leBytes 4 0), fab := some { type := 8, dst := 5, src := 3 } }, { type := 8, dst := 5, src := 3 }, (({ ({ ((((on).setFld (FAB_STATUS) FAB_STATUS_addressed (1)).setFld (FAB_STATUS) FAB_STATUS_addr (5)).wr (FAB_RA_ALLOW) (8)) with fab := { (on).fab with members := [(77, 3)] } }) with sw := { ({ ((((on).setFld (FAB_STATUS) FAB_STATUS_addressed (1)).setFld (FAB_STATUS) FAB_STATUS_addr (5)).wr (FAB_RA_ALLOW) (8)) with fab := { (on).fab with members := [(77, 3)] } }).sw with staged := [(31, [{ input := 7, kind := .fabric, data := (leBytes 4 (1 + 0 * 16 + 0 * 256 + 0 * 65536) ++ leBytes 4 (0x01000000) ++ leBytes 4 0), fab := some { type := 8, dst := 5, src := 3 } }])] } }).pop31), rfl, by decide +kernel⟩,
    ⟨{ ({ ({ ((((on).setFld (FAB_STATUS) FAB_STATUS_addressed (1)).setFld (FAB_STATUS) FAB_STATUS_addr (5)).wr (FAB_RA_ALLOW) (8)) with fab := { (on).fab with members := [(77, 3)] } }) with flt := { on.flt with ecc := [(8, { lost := [0x0A000002] })] } }) with sw := { ({ ({ ((((on).setFld (FAB_STATUS) FAB_STATUS_addressed (1)).setFld (FAB_STATUS) FAB_STATUS_addr (5)).wr (FAB_RA_ALLOW) (8)) with fab := { (on).fab with members := [(77, 3)] } }) with flt := { on.flt with ecc := [(8, { lost := [0x0A000002] })] } }).sw with staged := [(31, [{ input := 7, kind := .fabric, data := (leBytes 4 (1 + 0 * 16 + 1 * 256 + 0 * 65536) ++ leBytes 4 (0x5000000C) ++ leBytes 4 0), fab := some { type := 8, tag := 5, dst := 5, src := 3 } }])] } }, { input := 7, kind := .fabric, data := (leBytes 4 (1 + 0 * 16 + 1 * 256 + 0 * 65536) ++ leBytes 4 (0x5000000C) ++ leBytes 4 0), fab := some { type := 8, tag := 5, dst := 5, src := 3 } }, { type := 8, tag := 5, dst := 5, src := 3 }, (({ ({ ({ ((((on).setFld (FAB_STATUS) FAB_STATUS_addressed (1)).setFld (FAB_STATUS) FAB_STATUS_addr (5)).wr (FAB_RA_ALLOW) (8)) with fab := { (on).fab with members := [(77, 3)] } }) with flt := { on.flt with ecc := [(8, { lost := [0x0A000002] })] } }) with sw := { ({ ({ ((((on).setFld (FAB_STATUS) FAB_STATUS_addressed (1)).setFld (FAB_STATUS) FAB_STATUS_addr (5)).wr (FAB_RA_ALLOW) (8)) with fab := { (on).fab with members := [(77, 3)] } }) with flt := { on.flt with ecc := [(8, { lost := [0x0A000002] })] } }).sw with staged := [(31, [{ input := 7, kind := .fabric, data := (leBytes 4 (1 + 0 * 16 + 1 * 256 + 0 * 65536) ++ leBytes 4 (0x5000000C) ++ leBytes 4 0), fab := some { type := 8, tag := 5, dst := 5, src := 3 } }])] } }).pop31), rfl, by decide +kernel, ((8, 0x0A000002)), by decide +kernel⟩,
    ⟨{ ({ ((((on).setFld (FAB_STATUS) FAB_STATUS_addressed (1)).setFld (FAB_STATUS) FAB_STATUS_addr (5)).wr (FAB_RA_ALLOW) (8)) with fab := { (on).fab with members := [(77, 3)] } }) with sw := { ({ ((((on).setFld (FAB_STATUS) FAB_STATUS_addressed (1)).setFld (FAB_STATUS) FAB_STATUS_addr (5)).wr (FAB_RA_ALLOW) (8)) with fab := { (on).fab with members := [(77, 3)] } }).sw with staged := [(31, [{ input := 7, kind := .fabric, data := (leBytes 4 (1 + 0 * 16 + 0 * 256 + 0 * 65536) ++ leBytes 4 (0x20000000) ++ leBytes 4 0), fab := some { type := 8, tag := 5, dst := 5, src := 3 } }])] } }, { input := 7, kind := .fabric, data := (leBytes 4 (1 + 0 * 16 + 0 * 256 + 0 * 65536) ++ leBytes 4 (0x20000000) ++ leBytes 4 0), fab := some { type := 8, tag := 5, dst := 5, src := 3 } }, { type := 8, tag := 5, dst := 5, src := 3 }, (({ ({ ((((on).setFld (FAB_STATUS) FAB_STATUS_addressed (1)).setFld (FAB_STATUS) FAB_STATUS_addr (5)).wr (FAB_RA_ALLOW) (8)) with fab := { (on).fab with members := [(77, 3)] } }) with sw := { ({ ((((on).setFld (FAB_STATUS) FAB_STATUS_addressed (1)).setFld (FAB_STATUS) FAB_STATUS_addr (5)).wr (FAB_RA_ALLOW) (8)) with fab := { (on).fab with members := [(77, 3)] } }).sw with staged := [(31, [{ input := 7, kind := .fabric, data := (leBytes 4 (1 + 0 * 16 + 0 * 256 + 0 * 65536) ++ leBytes 4 (0x20000000) ++ leBytes 4 0), fab := some { type := 8, tag := 5, dst := 5, src := 3 } }])] } }).pop31), rfl, by decide +kernel, 0, by decide +kernel⟩⟩

theorem witness_BridgeTarget_2 :
    (∃ s : State, ∃ f : Frame, ∃ h : FabHdr, ∃ u : State, (let q := raReqOf f.data; (s.mine31 8 = some (f, h, u)) ∧ ((q.op = 1) ∧ (q.ok = true) ∧ (u.raAllowed h.src FAB_RA_ALLOW = true) ∧ (remoteOk false h.src q = true) ∧ (u.lostWord q.addr (4 * q.words) = none)) ∧ (let kept := u.fab.slots.find? (fun x => x.serves h.src h.tag q); (kept = none) ∧ ((∀ no < 16, ∃ x ∈ u.fab.slots, x.no = no))))) ∧
    (∃ s : State, ∃ f : Frame, ∃ h : FabHdr, ∃ u : State, (let q := raReqOf f.data; (s.mine31 8 = some (f, h, u)) ∧ ((q.op = 1) ∧ (q.ok = true) ∧ (u.raAllowed h.src FAB_RA_ALLOW = true) ∧ (remoteOk false h.src q = true) ∧ (u.lostWord q.addr (4 * q.words) = none)) ∧ (let kept := u.fab.slots.find? (fun x => x.serves h.src h.tag q); (let first := fun (l : List ReadSlot) (no : Nat) => no < 16 ∧ (∀ x ∈ l, x.no ≠ no) ∧ ∀ k < no, ∃ x ∈ l, x.no = k; ∃ x : ReadSlot, ∃ no : Fin 16, ((kept = some x) ∧ (x.old q = true) ∧ (first (u.fab.slots.filter (fun y => y.no != x.no)) no)))))) ∧
    (∃ s : State, ∃ f : Frame, ∃ h : FabHdr, ∃ u : State, (let q := raReqOf f.data; (s.mine31 8 = some (f, h, u)) ∧ ((q.op = 1) ∧ (q.ok = true) ∧ (u.raAllowed h.src FAB_RA_ALLOW = true) ∧ (remoteOk false h.src q = true) ∧ (u.lostWord q.addr (4 * q.words) = none)) ∧ (let kept := u.fab.slots.find? (fun x => x.serves h.src h.tag q); ∃ x : ReadSlot, ((kept = some x) ∧ (x.old q = false) ∧ (x.data = none ∨ (∃ w ∈ u.fab.writes, w.target = h.src) ∨ u.messageOwed h.src = true))))) ∧
    (∃ s : State, ∃ f : Frame, ∃ h : FabHdr, ∃ u : State, (let q := raReqOf f.data; (s.mine31 8 = some (f, h, u)) ∧ ((q.op = 1) ∧ (q.ok = true) ∧ (u.raAllowed h.src FAB_RA_ALLOW = true) ∧ (remoteOk false h.src q = true) ∧ (u.lostWord q.addr (4 * q.words) = none)) ∧ (let kept := u.fab.slots.find? (fun x => x.serves h.src h.tag q); ∃ x : ReadSlot, ∃ d : List Word, ((kept = some x) ∧ (x.data = some d) ∧ (x.old q = false) ∧ ((∀ w ∈ u.fab.writes, w.target ≠ h.src)) ∧ (u.messageOwed h.src = false))))) ∧
    (∃ s : State, ∃ f : Frame, ∃ h : FabHdr, ∃ u : State, (let q := raReqOf f.data; (let member := u.fab.members.any (fun m => m.2 == h.src && decide (h.src < 32)); (s.mine31 8 = some (f, h, u)) ∧ (q.op = 2) ∧ (member = false)))) ∧
    (∃ s : State, ∃ f : Frame, ∃ h : FabHdr, ∃ u : State, (let q := raReqOf f.data; (let member := u.fab.members.any (fun m => m.2 == h.src && decide (h.src < 32)); ∃ w : Word, (s.mine31 8 = some (f, h, u)) ∧ (q.op = 2) ∧ (member = true) ∧ (let inTurn := q.wseq = (u.appliedFrom h.src + 1) % 65536; (inTurn) ∧ (q.ok = false))))) ∧
    (∃ s : State, ∃ f : Frame, ∃ h : FabHdr, ∃ u : State, (let q := raReqOf f.data; (let member := u.fab.members.any (fun m => m.2 == h.src && decide (h.src < 32)); ∃ w : Word, (s.mine31 8 = some (f, h, u)) ∧ (q.op = 2) ∧ (member = true) ∧ (let inTurn := q.wseq = (u.appliedFrom h.src + 1) % 65536; ((inTurn) ∧ (q.ok = true) ∧ (u.raAllowed h.src FAB_RA_ALLOW_W = false)))))) ∧
    (∃ s : State, ∃ f : Frame, ∃ h : FabHdr, ∃ u : State, (let q := raReqOf f.data; (let member := u.fab.members.any (fun m => m.2 == h.src && decide (h.src < 32)); ∃ w : Word, (s.mine31 8 = some (f, h, u)) ∧ (q.op = 2) ∧ (member = true) ∧ (let inTurn := q.wseq = (u.appliedFrom h.src + 1) % 65536; ((inTurn) ∧ (q.ok = true) ∧ (u.raAllowed h.src FAB_RA_ALLOW_W = true) ∧ (remoteOk true h.src q = false)))))) := by
  exact ⟨⟨{ ({ ((((on).setFld (FAB_STATUS) FAB_STATUS_addressed (1)).setFld (FAB_STATUS) FAB_STATUS_addr (5)).wr (FAB_RA_ALLOW) (8)) with fab := { (on).fab with members := [(77, 3)], slots := [{ no := 0, src := 3, tag := 100, pref := false, addr := 0x20000000, words := 1, wseq := 0, data := some [42] }, { no := 1, src := 3, tag := 101, pref := false, addr := 0x20000000, words := 1, wseq := 0, data := some [42] }, { no := 2, src := 3, tag := 102, pref := false, addr := 0x20000000, words := 1, wseq := 0, data := some [42] }, { no := 3, src := 3, tag := 103, pref := false, addr := 0x20000000, words := 1, wseq := 0, data := some [42] }, { no := 4, src := 3, tag := 104, pref := false, addr := 0x20000000, words := 1, wseq := 0, data := some [42] }, { no := 5, src := 3, tag := 105, pref := false, addr := 0x20000000, words := 1, wseq := 0, data := some [42] }, { no := 6, src := 3, tag := 106, pref := false, addr := 0x20000000, words := 1, wseq := 0, data := some [42] }, { no := 7, src := 3, tag := 107, pref := false, addr := 0x20000000, words := 1, wseq := 0, data := some [42] }, { no := 8, src := 3, tag := 108, pref := false, addr := 0x20000000, words := 1, wseq := 0, data := some [42] }, { no := 9, src := 3, tag := 109, pref := false, addr := 0x20000000, words := 1, wseq := 0, data := some [42] }, { no := 10, src := 3, tag := 110, pref := false, addr := 0x20000000, words := 1, wseq := 0, data := some [42] }, { no := 11, src := 3, tag := 111, pref := false, addr := 0x20000000, words := 1, wseq := 0, data := some [42] }, { no := 12, src := 3, tag := 112, pref := false, addr := 0x20000000, words := 1, wseq := 0, data := some [42] }, { no := 13, src := 3, tag := 113, pref := false, addr := 0x20000000, words := 1, wseq := 0, data := some [42] }, { no := 14, src := 3, tag := 114, pref := false, addr := 0x20000000, words := 1, wseq := 0, data := some [42] }, { no := 15, src := 3, tag := 115, pref := false, addr := 0x20000000, words := 1, wseq := 0, data := some [42] }] } }) with sw := { ({ ((((on).setFld (FAB_STATUS) FAB_STATUS_addressed (1)).setFld (FAB_STATUS) FAB_STATUS_addr (5)).wr (FAB_RA_ALLOW) (8)) with fab := { (on).fab with members := [(77, 3)], slots := [{ no := 0, src := 3, tag := 100, pref := false, addr := 0x20000000, words := 1, wseq := 0, data := some [42] }, { no := 1, src := 3, tag := 101, pref := false, addr := 0x20000000, words := 1, wseq := 0, data := some [42] }, { no := 2, src := 3, tag := 102, pref := false, addr := 0x20000000, words := 1, wseq := 0, data := some [42] }, { no := 3, src := 3, tag := 103, pref := false, addr := 0x20000000, words := 1, wseq := 0, data := some [42] }, { no := 4, src := 3, tag := 104, pref := false, addr := 0x20000000, words := 1, wseq := 0, data := some [42] }, { no := 5, src := 3, tag := 105, pref := false, addr := 0x20000000, words := 1, wseq := 0, data := some [42] }, { no := 6, src := 3, tag := 106, pref := false, addr := 0x20000000, words := 1, wseq := 0, data := some [42] }, { no := 7, src := 3, tag := 107, pref := false, addr := 0x20000000, words := 1, wseq := 0, data := some [42] }, { no := 8, src := 3, tag := 108, pref := false, addr := 0x20000000, words := 1, wseq := 0, data := some [42] }, { no := 9, src := 3, tag := 109, pref := false, addr := 0x20000000, words := 1, wseq := 0, data := some [42] }, { no := 10, src := 3, tag := 110, pref := false, addr := 0x20000000, words := 1, wseq := 0, data := some [42] }, { no := 11, src := 3, tag := 111, pref := false, addr := 0x20000000, words := 1, wseq := 0, data := some [42] }, { no := 12, src := 3, tag := 112, pref := false, addr := 0x20000000, words := 1, wseq := 0, data := some [42] }, { no := 13, src := 3, tag := 113, pref := false, addr := 0x20000000, words := 1, wseq := 0, data := some [42] }, { no := 14, src := 3, tag := 114, pref := false, addr := 0x20000000, words := 1, wseq := 0, data := some [42] }, { no := 15, src := 3, tag := 115, pref := false, addr := 0x20000000, words := 1, wseq := 0, data := some [42] }] } }).sw with staged := [(31, [{ input := 7, kind := .fabric, data := (leBytes 4 (1 + 0 * 16 + 0 * 256 + 0 * 65536) ++ leBytes 4 (0x20000000) ++ leBytes 4 0), fab := some { type := 8, tag := 5, dst := 5, src := 3 } }])] } }, { input := 7, kind := .fabric, data := (leBytes 4 (1 + 0 * 16 + 0 * 256 + 0 * 65536) ++ leBytes 4 (0x20000000) ++ leBytes 4 0), fab := some { type := 8, tag := 5, dst := 5, src := 3 } }, { type := 8, tag := 5, dst := 5, src := 3 }, (({ ({ ((((on).setFld (FAB_STATUS) FAB_STATUS_addressed (1)).setFld (FAB_STATUS) FAB_STATUS_addr (5)).wr (FAB_RA_ALLOW) (8)) with fab := { (on).fab with members := [(77, 3)], slots := [{ no := 0, src := 3, tag := 100, pref := false, addr := 0x20000000, words := 1, wseq := 0, data := some [42] }, { no := 1, src := 3, tag := 101, pref := false, addr := 0x20000000, words := 1, wseq := 0, data := some [42] }, { no := 2, src := 3, tag := 102, pref := false, addr := 0x20000000, words := 1, wseq := 0, data := some [42] }, { no := 3, src := 3, tag := 103, pref := false, addr := 0x20000000, words := 1, wseq := 0, data := some [42] }, { no := 4, src := 3, tag := 104, pref := false, addr := 0x20000000, words := 1, wseq := 0, data := some [42] }, { no := 5, src := 3, tag := 105, pref := false, addr := 0x20000000, words := 1, wseq := 0, data := some [42] }, { no := 6, src := 3, tag := 106, pref := false, addr := 0x20000000, words := 1, wseq := 0, data := some [42] }, { no := 7, src := 3, tag := 107, pref := false, addr := 0x20000000, words := 1, wseq := 0, data := some [42] }, { no := 8, src := 3, tag := 108, pref := false, addr := 0x20000000, words := 1, wseq := 0, data := some [42] }, { no := 9, src := 3, tag := 109, pref := false, addr := 0x20000000, words := 1, wseq := 0, data := some [42] }, { no := 10, src := 3, tag := 110, pref := false, addr := 0x20000000, words := 1, wseq := 0, data := some [42] }, { no := 11, src := 3, tag := 111, pref := false, addr := 0x20000000, words := 1, wseq := 0, data := some [42] }, { no := 12, src := 3, tag := 112, pref := false, addr := 0x20000000, words := 1, wseq := 0, data := some [42] }, { no := 13, src := 3, tag := 113, pref := false, addr := 0x20000000, words := 1, wseq := 0, data := some [42] }, { no := 14, src := 3, tag := 114, pref := false, addr := 0x20000000, words := 1, wseq := 0, data := some [42] }, { no := 15, src := 3, tag := 115, pref := false, addr := 0x20000000, words := 1, wseq := 0, data := some [42] }] } }) with sw := { ({ ((((on).setFld (FAB_STATUS) FAB_STATUS_addressed (1)).setFld (FAB_STATUS) FAB_STATUS_addr (5)).wr (FAB_RA_ALLOW) (8)) with fab := { (on).fab with members := [(77, 3)], slots := [{ no := 0, src := 3, tag := 100, pref := false, addr := 0x20000000, words := 1, wseq := 0, data := some [42] }, { no := 1, src := 3, tag := 101, pref := false, addr := 0x20000000, words := 1, wseq := 0, data := some [42] }, { no := 2, src := 3, tag := 102, pref := false, addr := 0x20000000, words := 1, wseq := 0, data := some [42] }, { no := 3, src := 3, tag := 103, pref := false, addr := 0x20000000, words := 1, wseq := 0, data := some [42] }, { no := 4, src := 3, tag := 104, pref := false, addr := 0x20000000, words := 1, wseq := 0, data := some [42] }, { no := 5, src := 3, tag := 105, pref := false, addr := 0x20000000, words := 1, wseq := 0, data := some [42] }, { no := 6, src := 3, tag := 106, pref := false, addr := 0x20000000, words := 1, wseq := 0, data := some [42] }, { no := 7, src := 3, tag := 107, pref := false, addr := 0x20000000, words := 1, wseq := 0, data := some [42] }, { no := 8, src := 3, tag := 108, pref := false, addr := 0x20000000, words := 1, wseq := 0, data := some [42] }, { no := 9, src := 3, tag := 109, pref := false, addr := 0x20000000, words := 1, wseq := 0, data := some [42] }, { no := 10, src := 3, tag := 110, pref := false, addr := 0x20000000, words := 1, wseq := 0, data := some [42] }, { no := 11, src := 3, tag := 111, pref := false, addr := 0x20000000, words := 1, wseq := 0, data := some [42] }, { no := 12, src := 3, tag := 112, pref := false, addr := 0x20000000, words := 1, wseq := 0, data := some [42] }, { no := 13, src := 3, tag := 113, pref := false, addr := 0x20000000, words := 1, wseq := 0, data := some [42] }, { no := 14, src := 3, tag := 114, pref := false, addr := 0x20000000, words := 1, wseq := 0, data := some [42] }, { no := 15, src := 3, tag := 115, pref := false, addr := 0x20000000, words := 1, wseq := 0, data := some [42] }] } }).sw with staged := [(31, [{ input := 7, kind := .fabric, data := (leBytes 4 (1 + 0 * 16 + 0 * 256 + 0 * 65536) ++ leBytes 4 (0x20000000) ++ leBytes 4 0), fab := some { type := 8, tag := 5, dst := 5, src := 3 } }])] } }).pop31), rfl, by decide +kernel⟩,
    ⟨{ ({ ((((on).setFld (FAB_STATUS) FAB_STATUS_addressed (1)).setFld (FAB_STATUS) FAB_STATUS_addr (5)).wr (FAB_RA_ALLOW) (8)) with fab := { (on).fab with members := [(77, 3)], slots := [{ no := 1, src := 3, tag := 101, pref := false, addr := 0x20000000, words := 1, wseq := 0, data := some [42] }, { no := 0, src := 3, tag := 5, pref := false, addr := 0x20000000, words := 1, wseq := 0, data := some [42] }] } }) with sw := { ({ ((((on).setFld (FAB_STATUS) FAB_STATUS_addressed (1)).setFld (FAB_STATUS) FAB_STATUS_addr (5)).wr (FAB_RA_ALLOW) (8)) with fab := { (on).fab with members := [(77, 3)], slots := [{ no := 1, src := 3, tag := 101, pref := false, addr := 0x20000000, words := 1, wseq := 0, data := some [42] }, { no := 0, src := 3, tag := 5, pref := false, addr := 0x20000000, words := 1, wseq := 0, data := some [42] }] } }).sw with staged := [(31, [{ input := 7, kind := .fabric, data := (leBytes 4 (1 + 0 * 16 + 0 * 256 + 1 * 65536) ++ leBytes 4 (0x20000000) ++ leBytes 4 0), fab := some { type := 8, tag := 5, dst := 5, src := 3 } }])] } }, { input := 7, kind := .fabric, data := (leBytes 4 (1 + 0 * 16 + 0 * 256 + 1 * 65536) ++ leBytes 4 (0x20000000) ++ leBytes 4 0), fab := some { type := 8, tag := 5, dst := 5, src := 3 } }, { type := 8, tag := 5, dst := 5, src := 3 }, (({ ({ ((((on).setFld (FAB_STATUS) FAB_STATUS_addressed (1)).setFld (FAB_STATUS) FAB_STATUS_addr (5)).wr (FAB_RA_ALLOW) (8)) with fab := { (on).fab with members := [(77, 3)], slots := [{ no := 1, src := 3, tag := 101, pref := false, addr := 0x20000000, words := 1, wseq := 0, data := some [42] }, { no := 0, src := 3, tag := 5, pref := false, addr := 0x20000000, words := 1, wseq := 0, data := some [42] }] } }) with sw := { ({ ((((on).setFld (FAB_STATUS) FAB_STATUS_addressed (1)).setFld (FAB_STATUS) FAB_STATUS_addr (5)).wr (FAB_RA_ALLOW) (8)) with fab := { (on).fab with members := [(77, 3)], slots := [{ no := 1, src := 3, tag := 101, pref := false, addr := 0x20000000, words := 1, wseq := 0, data := some [42] }, { no := 0, src := 3, tag := 5, pref := false, addr := 0x20000000, words := 1, wseq := 0, data := some [42] }] } }).sw with staged := [(31, [{ input := 7, kind := .fabric, data := (leBytes 4 (1 + 0 * 16 + 0 * 256 + 1 * 65536) ++ leBytes 4 (0x20000000) ++ leBytes 4 0), fab := some { type := 8, tag := 5, dst := 5, src := 3 } }])] } }).pop31), rfl, by decide +kernel, { no := 0, src := 3, tag := 5, pref := false, addr := 0x20000000, words := 1, wseq := 0, data := some [42] }, 0, by decide +kernel⟩,
    ⟨{ ({ ((((on).setFld (FAB_STATUS) FAB_STATUS_addressed (1)).setFld (FAB_STATUS) FAB_STATUS_addr (5)).wr (FAB_RA_ALLOW) (8)) with fab := { (on).fab with members := [(77, 3)], slots := [{ no := 0, src := 3, tag := 5, pref := false, addr := 0x20000000, words := 1, wseq := 0, data := none }] } }) with sw := { ({ ((((on).setFld (FAB_STATUS) FAB_STATUS_addressed (1)).setFld (FAB_STATUS) FAB_STATUS_addr (5)).wr (FAB_RA_ALLOW) (8)) with fab := { (on).fab with members := [(77, 3)], slots := [{ no := 0, src := 3, tag := 5, pref := false, addr := 0x20000000, words := 1, wseq := 0, data := none }] } }).sw with staged := [(31, [{ input := 7, kind := .fabric, data := (leBytes 4 (1 + 0 * 16 + 0 * 256 + 0 * 65536) ++ leBytes 4 (0x20000000) ++ leBytes 4 0), fab := some { type := 8, tag := 5, dst := 5, src := 3 } }])] } }, { input := 7, kind := .fabric, data := (leBytes 4 (1 + 0 * 16 + 0 * 256 + 0 * 65536) ++ leBytes 4 (0x20000000) ++ leBytes 4 0), fab := some { type := 8, tag := 5, dst := 5, src := 3 } }, { type := 8, tag := 5, dst := 5, src := 3 }, (({ ({ ((((on).setFld (FAB_STATUS) FAB_STATUS_addressed (1)).setFld (FAB_STATUS) FAB_STATUS_addr (5)).wr (FAB_RA_ALLOW) (8)) with fab := { (on).fab with members := [(77, 3)], slots := [{ no := 0, src := 3, tag := 5, pref := false, addr := 0x20000000, words := 1, wseq := 0, data := none }] } }) with sw := { ({ ((((on).setFld (FAB_STATUS) FAB_STATUS_addressed (1)).setFld (FAB_STATUS) FAB_STATUS_addr (5)).wr (FAB_RA_ALLOW) (8)) with fab := { (on).fab with members := [(77, 3)], slots := [{ no := 0, src := 3, tag := 5, pref := false, addr := 0x20000000, words := 1, wseq := 0, data := none }] } }).sw with staged := [(31, [{ input := 7, kind := .fabric, data := (leBytes 4 (1 + 0 * 16 + 0 * 256 + 0 * 65536) ++ leBytes 4 (0x20000000) ++ leBytes 4 0), fab := some { type := 8, tag := 5, dst := 5, src := 3 } }])] } }).pop31), rfl, by decide +kernel, { no := 0, src := 3, tag := 5, pref := false, addr := 0x20000000, words := 1, wseq := 0, data := none }, by decide +kernel⟩,
    ⟨{ ({ ((((on).setFld (FAB_STATUS) FAB_STATUS_addressed (1)).setFld (FAB_STATUS) FAB_STATUS_addr (5)).wr (FAB_RA_ALLOW) (8)) with fab := { (on).fab with members := [(77, 3)], slots := [{ no := 0, src := 3, tag := 5, pref := false, addr := 0x20000000, words := 1, wseq := 0, data := some [42] }] } }) with sw := { ({ ((((on).setFld (FAB_STATUS) FAB_STATUS_addressed (1)).setFld (FAB_STATUS) FAB_STATUS_addr (5)).wr (FAB_RA_ALLOW) (8)) with fab := { (on).fab with members := [(77, 3)], slots := [{ no := 0, src := 3, tag := 5, pref := false, addr := 0x20000000, words := 1, wseq := 0, data := some [42] }] } }).sw with staged := [(31, [{ input := 7, kind := .fabric, data := (leBytes 4 (1 + 0 * 16 + 0 * 256 + 0 * 65536) ++ leBytes 4 (0x20000000) ++ leBytes 4 0), fab := some { type := 8, tag := 5, dst := 5, src := 3 } }])] } }, { input := 7, kind := .fabric, data := (leBytes 4 (1 + 0 * 16 + 0 * 256 + 0 * 65536) ++ leBytes 4 (0x20000000) ++ leBytes 4 0), fab := some { type := 8, tag := 5, dst := 5, src := 3 } }, { type := 8, tag := 5, dst := 5, src := 3 }, (({ ({ ((((on).setFld (FAB_STATUS) FAB_STATUS_addressed (1)).setFld (FAB_STATUS) FAB_STATUS_addr (5)).wr (FAB_RA_ALLOW) (8)) with fab := { (on).fab with members := [(77, 3)], slots := [{ no := 0, src := 3, tag := 5, pref := false, addr := 0x20000000, words := 1, wseq := 0, data := some [42] }] } }) with sw := { ({ ((((on).setFld (FAB_STATUS) FAB_STATUS_addressed (1)).setFld (FAB_STATUS) FAB_STATUS_addr (5)).wr (FAB_RA_ALLOW) (8)) with fab := { (on).fab with members := [(77, 3)], slots := [{ no := 0, src := 3, tag := 5, pref := false, addr := 0x20000000, words := 1, wseq := 0, data := some [42] }] } }).sw with staged := [(31, [{ input := 7, kind := .fabric, data := (leBytes 4 (1 + 0 * 16 + 0 * 256 + 0 * 65536) ++ leBytes 4 (0x20000000) ++ leBytes 4 0), fab := some { type := 8, tag := 5, dst := 5, src := 3 } }])] } }).pop31), rfl, by decide +kernel, { no := 0, src := 3, tag := 5, pref := false, addr := 0x20000000, words := 1, wseq := 0, data := some [42] }, [42], by decide +kernel⟩,
    ⟨{ (((on).setFld (FAB_STATUS) FAB_STATUS_addressed (1)).setFld (FAB_STATUS) FAB_STATUS_addr (5)) with sw := { (((on).setFld (FAB_STATUS) FAB_STATUS_addressed (1)).setFld (FAB_STATUS) FAB_STATUS_addr (5)).sw with staged := [(31, [{ input := 7, kind := .fabric, data := (leBytes 4 (2 + 0 * 16 + 0 * 256 + 1 * 65536) ++ leBytes 4 (0x20000004) ++ leBytes 4 0 ++ leBytes 4 7), fab := some { type := 8, dst := 5, src := 3 } }])] } }, { input := 7, kind := .fabric, data := (leBytes 4 (2 + 0 * 16 + 0 * 256 + 1 * 65536) ++ leBytes 4 (0x20000004) ++ leBytes 4 0 ++ leBytes 4 7), fab := some { type := 8, dst := 5, src := 3 } }, { type := 8, dst := 5, src := 3 }, (({ (((on).setFld (FAB_STATUS) FAB_STATUS_addressed (1)).setFld (FAB_STATUS) FAB_STATUS_addr (5)) with sw := { (((on).setFld (FAB_STATUS) FAB_STATUS_addressed (1)).setFld (FAB_STATUS) FAB_STATUS_addr (5)).sw with staged := [(31, [{ input := 7, kind := .fabric, data := (leBytes 4 (2 + 0 * 16 + 0 * 256 + 1 * 65536) ++ leBytes 4 (0x20000004) ++ leBytes 4 0 ++ leBytes 4 7), fab := some { type := 8, dst := 5, src := 3 } }])] } }).pop31), rfl, by decide +kernel⟩,
    ⟨{ ({ (((on).setFld (FAB_STATUS) FAB_STATUS_addressed (1)).setFld (FAB_STATUS) FAB_STATUS_addr (5)) with fab := { (on).fab with members := [(77, 3)] } }) with sw := { ({ (((on).setFld (FAB_STATUS) FAB_STATUS_addressed (1)).setFld (FAB_STATUS) FAB_STATUS_addr (5)) with fab := { (on).fab with members := [(77, 3)] } }).sw with staged := [(31, [{ input := 7, kind := .fabric, data := (leBytes 4 (2 + 0 * 16 + 0 * 256 + 1 * 65536) ++ leBytes 4 (0x20000002) ++ leBytes 4 0 ++ leBytes 4 7), fab := some { type := 8, dst := 5, src := 3 } }])] } }, { input := 7, kind := .fabric, data := (leBytes 4 (2 + 0 * 16 + 0 * 256 + 1 * 65536) ++ leBytes 4 (0x20000002) ++ leBytes 4 0 ++ leBytes 4 7), fab := some { type := 8, dst := 5, src := 3 } }, { type := 8, dst := 5, src := 3 }, (({ ({ (((on).setFld (FAB_STATUS) FAB_STATUS_addressed (1)).setFld (FAB_STATUS) FAB_STATUS_addr (5)) with fab := { (on).fab with members := [(77, 3)] } }) with sw := { ({ (((on).setFld (FAB_STATUS) FAB_STATUS_addressed (1)).setFld (FAB_STATUS) FAB_STATUS_addr (5)) with fab := { (on).fab with members := [(77, 3)] } }).sw with staged := [(31, [{ input := 7, kind := .fabric, data := (leBytes 4 (2 + 0 * 16 + 0 * 256 + 1 * 65536) ++ leBytes 4 (0x20000002) ++ leBytes 4 0 ++ leBytes 4 7), fab := some { type := 8, dst := 5, src := 3 } }])] } }).pop31), 0, rfl, by decide +kernel⟩,
    ⟨{ ({ (((on).setFld (FAB_STATUS) FAB_STATUS_addressed (1)).setFld (FAB_STATUS) FAB_STATUS_addr (5)) with fab := { (on).fab with members := [(77, 3)] } }) with sw := { ({ (((on).setFld (FAB_STATUS) FAB_STATUS_addressed (1)).setFld (FAB_STATUS) FAB_STATUS_addr (5)) with fab := { (on).fab with members := [(77, 3)] } }).sw with staged := [(31, [{ input := 7, kind := .fabric, data := (leBytes 4 (2 + 0 * 16 + 0 * 256 + 1 * 65536) ++ leBytes 4 (0x20000004) ++ leBytes 4 0 ++ leBytes 4 7), fab := some { type := 8, dst := 5, src := 3 } }])] } }, { input := 7, kind := .fabric, data := (leBytes 4 (2 + 0 * 16 + 0 * 256 + 1 * 65536) ++ leBytes 4 (0x20000004) ++ leBytes 4 0 ++ leBytes 4 7), fab := some { type := 8, dst := 5, src := 3 } }, { type := 8, dst := 5, src := 3 }, (({ ({ (((on).setFld (FAB_STATUS) FAB_STATUS_addressed (1)).setFld (FAB_STATUS) FAB_STATUS_addr (5)) with fab := { (on).fab with members := [(77, 3)] } }) with sw := { ({ (((on).setFld (FAB_STATUS) FAB_STATUS_addressed (1)).setFld (FAB_STATUS) FAB_STATUS_addr (5)) with fab := { (on).fab with members := [(77, 3)] } }).sw with staged := [(31, [{ input := 7, kind := .fabric, data := (leBytes 4 (2 + 0 * 16 + 0 * 256 + 1 * 65536) ++ leBytes 4 (0x20000004) ++ leBytes 4 0 ++ leBytes 4 7), fab := some { type := 8, dst := 5, src := 3 } }])] } }).pop31), 0, rfl, by decide +kernel⟩,
    ⟨{ ({ ((((on).setFld (FAB_STATUS) FAB_STATUS_addressed (1)).setFld (FAB_STATUS) FAB_STATUS_addr (5)).wr (FAB_RA_ALLOW_W) (8)) with fab := { (on).fab with members := [(77, 3)] } }) with sw := { ({ ((((on).setFld (FAB_STATUS) FAB_STATUS_addressed (1)).setFld (FAB_STATUS) FAB_STATUS_addr (5)).wr (FAB_RA_ALLOW_W) (8)) with fab := { (on).fab with members := [(77, 3)] } }).sw with staged := [(31, [{ input := 7, kind := .fabric, data := (leBytes 4 (2 + 0 * 16 + 0 * 256 + 1 * 65536) ++ leBytes 4 (0x20100000) ++ leBytes 4 0 ++ leBytes 4 7), fab := some { type := 8, dst := 5, src := 3 } }])] } }, { input := 7, kind := .fabric, data := (leBytes 4 (2 + 0 * 16 + 0 * 256 + 1 * 65536) ++ leBytes 4 (0x20100000) ++ leBytes 4 0 ++ leBytes 4 7), fab := some { type := 8, dst := 5, src := 3 } }, { type := 8, dst := 5, src := 3 }, (({ ({ ((((on).setFld (FAB_STATUS) FAB_STATUS_addressed (1)).setFld (FAB_STATUS) FAB_STATUS_addr (5)).wr (FAB_RA_ALLOW_W) (8)) with fab := { (on).fab with members := [(77, 3)] } }) with sw := { ({ ((((on).setFld (FAB_STATUS) FAB_STATUS_addressed (1)).setFld (FAB_STATUS) FAB_STATUS_addr (5)).wr (FAB_RA_ALLOW_W) (8)) with fab := { (on).fab with members := [(77, 3)] } }).sw with staged := [(31, [{ input := 7, kind := .fabric, data := (leBytes 4 (2 + 0 * 16 + 0 * 256 + 1 * 65536) ++ leBytes 4 (0x20100000) ++ leBytes 4 0 ++ leBytes 4 7), fab := some { type := 8, dst := 5, src := 3 } }])] } }).pop31), 0, rfl, by decide +kernel⟩⟩

theorem witness_BridgeTarget_3 :
    (∃ s : State, ∃ f : Frame, ∃ h : FabHdr, ∃ u : State, (let q := raReqOf f.data; (let member := u.fab.members.any (fun m => m.2 == h.src && decide (h.src < 32)); ∃ w : Word, (s.mine31 8 = some (f, h, u)) ∧ (q.op = 2) ∧ (member = true) ∧ (let inTurn := q.wseq = (u.appliedFrom h.src + 1) % 65536; ((inTurn) ∧ (q.words = 1) ∧ (q.data = [w]) ∧ (q.ok = true) ∧ (u.raAllowed h.src FAB_RA_ALLOW_W = true) ∧ (remoteOk true h.src q = true)))))) ∧
    (∃ s : State, ∃ f : Frame, ∃ h : FabHdr, ∃ u : State, (let q := raReqOf f.data; (let member := u.fab.members.any (fun m => m.2 == h.src && decide (h.src < 32)); ∃ w : Word, (s.mine31 8 = some (f, h, u)) ∧ (q.op = 2) ∧ (member = true) ∧ (let inTurn := q.wseq = (u.appliedFrom h.src + 1) % 65536; (¬ inTurn) ∧ (epochNewer q.wseq (u.appliedFrom h.src) = false))))) ∧
    (∃ s : State, ∃ f : Frame, ∃ h : FabHdr, ∃ u : State, (let q := raReqOf f.data; (let member := u.fab.members.any (fun m => m.2 == h.src && decide (h.src < 32)); ∃ w : Word, (s.mine31 8 = some (f, h, u)) ∧ (q.op = 2) ∧ (member = true) ∧ (let inTurn := q.wseq = (u.appliedFrom h.src + 1) % 65536; ((¬ inTurn) ∧ (epochNewer q.wseq (u.appliedFrom h.src) = true) ∧ ((∃ e ∈ u.fab.early, e.1 = h.src ∧ e.2.wseq = q.wseq))))))) ∧
    (∃ s : State, ∃ f : Frame, ∃ h : FabHdr, ∃ u : State, (let q := raReqOf f.data; (let member := u.fab.members.any (fun m => m.2 == h.src && decide (h.src < 32)); ∃ w : Word, (s.mine31 8 = some (f, h, u)) ∧ (q.op = 2) ∧ (member = true) ∧ (let inTurn := q.wseq = (u.appliedFrom h.src + 1) % 65536; ((¬ inTurn) ∧ (epochNewer q.wseq (u.appliedFrom h.src) = true) ∧ ((∀ e ∈ u.fab.early, ¬(e.1 = h.src ∧ e.2.wseq = q.wseq)))))))) ∧
    (∃ s : State, ∃ f : Frame, ∃ h : FabHdr, ∃ u : State, ∃ n : Fin 16, ∃ x : ReadSlot, (s.fab.slots.find? (fun y => y.no == n.val) = some x) ∧ (let ready := x.data = none ∧ epochNewer x.wseq (s.appliedFrom x.src) = false ∧ ¬(s.dikeBusy = true ∧ x.onBank = true); (ready))) ∧
    (∃ s : State, ∃ f : Frame, ∃ h : FabHdr, ∃ u : State, ∃ n : Fin 16, ∃ x : ReadSlot, (s.fab.slots.find? (fun y => y.no == n.val) = some x) ∧ (let ready := x.data = none ∧ epochNewer x.wseq (s.appliedFrom x.src) = false ∧ ¬(s.dikeBusy = true ∧ x.onBank = true); (¬ ready))) ∧
    (∃ s : State, ∃ f : Frame, ∃ h : FabHdr, ∃ u : State, ∃ n : Fin 16, (s.fab.slots.find? (fun y => y.no == n.val) = none)) := by
  exact ⟨⟨{ ({ ((((on).setFld (FAB_STATUS) FAB_STATUS_addressed (1)).setFld (FAB_STATUS) FAB_STATUS_addr (5)).wr (FAB_RA_ALLOW_W) (8)) with fab := { (on).fab with members := [(77, 3)] } }) with sw := { ({ ((((on).setFld (FAB_STATUS) FAB_STATUS_addressed (1)).setFld (FAB_STATUS) FAB_STATUS_addr (5)).wr (FAB_RA_ALLOW_W) (8)) with fab := { (on).fab with members := [(77, 3)] } }).sw with staged := [(31, [{ input := 7, kind := .fabric, data := (leBytes 4 (2 + 0 * 16 + 0 * 256 + 1 * 65536) ++ leBytes 4 (0x20000004) ++ leBytes 4 0 ++ leBytes 4 7), fab := some { type := 8, dst := 5, src := 3 } }])] } }, { input := 7, kind := .fabric, data := (leBytes 4 (2 + 0 * 16 + 0 * 256 + 1 * 65536) ++ leBytes 4 (0x20000004) ++ leBytes 4 0 ++ leBytes 4 7), fab := some { type := 8, dst := 5, src := 3 } }, { type := 8, dst := 5, src := 3 }, (({ ({ ((((on).setFld (FAB_STATUS) FAB_STATUS_addressed (1)).setFld (FAB_STATUS) FAB_STATUS_addr (5)).wr (FAB_RA_ALLOW_W) (8)) with fab := { (on).fab with members := [(77, 3)] } }) with sw := { ({ ((((on).setFld (FAB_STATUS) FAB_STATUS_addressed (1)).setFld (FAB_STATUS) FAB_STATUS_addr (5)).wr (FAB_RA_ALLOW_W) (8)) with fab := { (on).fab with members := [(77, 3)] } }).sw with staged := [(31, [{ input := 7, kind := .fabric, data := (leBytes 4 (2 + 0 * 16 + 0 * 256 + 1 * 65536) ++ leBytes 4 (0x20000004) ++ leBytes 4 0 ++ leBytes 4 7), fab := some { type := 8, dst := 5, src := 3 } }])] } }).pop31), 7, rfl, by decide +kernel⟩,
    ⟨{ ({ (((on).setFld (FAB_STATUS) FAB_STATUS_addressed (1)).setFld (FAB_STATUS) FAB_STATUS_addr (5)) with fab := { (on).fab with members := [(77, 3)] } }) with sw := { ({ (((on).setFld (FAB_STATUS) FAB_STATUS_addressed (1)).setFld (FAB_STATUS) FAB_STATUS_addr (5)) with fab := { (on).fab with members := [(77, 3)] } }).sw with staged := [(31, [{ input := 7, kind := .fabric, data := (leBytes 4 (2 + 0 * 16 + 0 * 256 + 0 * 65536) ++ leBytes 4 (0x20000004) ++ leBytes 4 0 ++ leBytes 4 7), fab := some { type := 8, dst := 5, src := 3 } }])] } }, { input := 7, kind := .fabric, data := (leBytes 4 (2 + 0 * 16 + 0 * 256 + 0 * 65536) ++ leBytes 4 (0x20000004) ++ leBytes 4 0 ++ leBytes 4 7), fab := some { type := 8, dst := 5, src := 3 } }, { type := 8, dst := 5, src := 3 }, (({ ({ (((on).setFld (FAB_STATUS) FAB_STATUS_addressed (1)).setFld (FAB_STATUS) FAB_STATUS_addr (5)) with fab := { (on).fab with members := [(77, 3)] } }) with sw := { ({ (((on).setFld (FAB_STATUS) FAB_STATUS_addressed (1)).setFld (FAB_STATUS) FAB_STATUS_addr (5)) with fab := { (on).fab with members := [(77, 3)] } }).sw with staged := [(31, [{ input := 7, kind := .fabric, data := (leBytes 4 (2 + 0 * 16 + 0 * 256 + 0 * 65536) ++ leBytes 4 (0x20000004) ++ leBytes 4 0 ++ leBytes 4 7), fab := some { type := 8, dst := 5, src := 3 } }])] } }).pop31), 7, rfl, by decide +kernel⟩,
    ⟨{ ({ (((on).setFld (FAB_STATUS) FAB_STATUS_addressed (1)).setFld (FAB_STATUS) FAB_STATUS_addr (5)) with fab := { (on).fab with members := [(77, 3)], early := [(3, { tag := 0, target := 3, wseq := 2, addr := 0x20000004, data := [9] })] } }) with sw := { ({ (((on).setFld (FAB_STATUS) FAB_STATUS_addressed (1)).setFld (FAB_STATUS) FAB_STATUS_addr (5)) with fab := { (on).fab with members := [(77, 3)], early := [(3, { tag := 0, target := 3, wseq := 2, addr := 0x20000004, data := [9] })] } }).sw with staged := [(31, [{ input := 7, kind := .fabric, data := (leBytes 4 (2 + 0 * 16 + 0 * 256 + 2 * 65536) ++ leBytes 4 (0x20000004) ++ leBytes 4 0 ++ leBytes 4 7), fab := some { type := 8, dst := 5, src := 3 } }])] } }, { input := 7, kind := .fabric, data := (leBytes 4 (2 + 0 * 16 + 0 * 256 + 2 * 65536) ++ leBytes 4 (0x20000004) ++ leBytes 4 0 ++ leBytes 4 7), fab := some { type := 8, dst := 5, src := 3 } }, { type := 8, dst := 5, src := 3 }, (({ ({ (((on).setFld (FAB_STATUS) FAB_STATUS_addressed (1)).setFld (FAB_STATUS) FAB_STATUS_addr (5)) with fab := { (on).fab with members := [(77, 3)], early := [(3, { tag := 0, target := 3, wseq := 2, addr := 0x20000004, data := [9] })] } }) with sw := { ({ (((on).setFld (FAB_STATUS) FAB_STATUS_addressed (1)).setFld (FAB_STATUS) FAB_STATUS_addr (5)) with fab := { (on).fab with members := [(77, 3)], early := [(3, { tag := 0, target := 3, wseq := 2, addr := 0x20000004, data := [9] })] } }).sw with staged := [(31, [{ input := 7, kind := .fabric, data := (leBytes 4 (2 + 0 * 16 + 0 * 256 + 2 * 65536) ++ leBytes 4 (0x20000004) ++ leBytes 4 0 ++ leBytes 4 7), fab := some { type := 8, dst := 5, src := 3 } }])] } }).pop31), 7, rfl, by decide +kernel⟩,
    ⟨{ ({ (((on).setFld (FAB_STATUS) FAB_STATUS_addressed (1)).setFld (FAB_STATUS) FAB_STATUS_addr (5)) with fab := { (on).fab with members := [(77, 3)] } }) with sw := { ({ (((on).setFld (FAB_STATUS) FAB_STATUS_addressed (1)).setFld (FAB_STATUS) FAB_STATUS_addr (5)) with fab := { (on).fab with members := [(77, 3)] } }).sw with staged := [(31, [{ input := 7, kind := .fabric, data := (leBytes 4 (2 + 0 * 16 + 0 * 256 + 2 * 65536) ++ leBytes 4 (0x20000004) ++ leBytes 4 0 ++ leBytes 4 7), fab := some { type := 8, dst := 5, src := 3 } }])] } }, { input := 7, kind := .fabric, data := (leBytes 4 (2 + 0 * 16 + 0 * 256 + 2 * 65536) ++ leBytes 4 (0x20000004) ++ leBytes 4 0 ++ leBytes 4 7), fab := some { type := 8, dst := 5, src := 3 } }, { type := 8, dst := 5, src := 3 }, (({ ({ (((on).setFld (FAB_STATUS) FAB_STATUS_addressed (1)).setFld (FAB_STATUS) FAB_STATUS_addr (5)) with fab := { (on).fab with members := [(77, 3)] } }) with sw := { ({ (((on).setFld (FAB_STATUS) FAB_STATUS_addressed (1)).setFld (FAB_STATUS) FAB_STATUS_addr (5)) with fab := { (on).fab with members := [(77, 3)] } }).sw with staged := [(31, [{ input := 7, kind := .fabric, data := (leBytes 4 (2 + 0 * 16 + 0 * 256 + 2 * 65536) ++ leBytes 4 (0x20000004) ++ leBytes 4 0 ++ leBytes 4 7), fab := some { type := 8, dst := 5, src := 3 } }])] } }).pop31), 7, rfl, by decide +kernel⟩,
    ⟨{ on with fab := { on.fab with slots := [{ no := 15, src := 3, tag := 5, pref := false, addr := 0x20000000, words := 1, wseq := 0, data := none }] } }, fr, hd, on, 15, { no := 15, src := 3, tag := 5, pref := false, addr := 0x20000000, words := 1, wseq := 0, data := none }, by decide +kernel⟩,
    ⟨{ ({ on with fab := { on.fab with slots := [{ no := 15, src := 3, tag := 5, pref := false, addr := 0x20100010, words := 1, wseq := 0, data := none }] } }) with bank := { on.bank with posted := [({ master := some .warden, frame := dikeFrame 2 3 0x200 5, tries := 0 }, false, false)] } }, fr, hd, on, 15, { no := 15, src := 3, tag := 5, pref := false, addr := 0x20100010, words := 1, wseq := 0, data := none }, by decide +kernel⟩,
    ⟨{ on with fab := { on.fab with slots := [{ no := 0, src := 3, tag := 5, pref := false, addr := 0x20000000, words := 1, wseq := 0, data := some [42] }] } }, fr, hd, on, 15, by decide +kernel⟩⟩

theorem witness_BridgeSource_1 :
    (∃ s : State, (let calm (l : List RaWrite) := s.fab.waiting = [] ∧ ∀ w ∈ l, w.sent = true; ∃ off : Fin 67108864, ∃ n : Nat, ∃ data : List Word, (s.running = true) ∧ (let k := off.val / 2 ^ 24; (let d := s.fld (FAB_APT0 k) FAB_APT0_target; (let addr := s.fld (FAB_APT1 k) FAB_APT1_base * 2 ^ 24 + off.val % 2 ^ 24; (let open_ := s.fldB (FAB_APT0 k) FAB_APT0_en = true ∧ s.fldB (FAB_ROUTE d) FAB_ROUTE_valid = true; (let within (len : Nat) := off.val % 2 ^ 24 + 4 * len ≤ 2 ^ 24; (let block (len : Nat) := 0 < len ∧ len ≤ 64 - addr % 256 / 4; (let room := (s.fab.writes.filter (fun y => y.target == d)).length < 32 ∧ s.msgInside d = false; ((open_) ∧ (within data.length) ∧ (block data.length) ∧ (calm s.fab.writes) ∧ (room))))))))))) ∧
    (∃ s : State, (let calm (l : List RaWrite) := s.fab.waiting = [] ∧ ∀ w ∈ l, w.sent = true; ∃ off : Fin 67108864, ∃ n : Nat, ∃ data : List Word, (s.running = true) ∧ (let k := off.val / 2 ^ 24; (let d := s.fld (FAB_APT0 k) FAB_APT0_target; (let addr := s.fld (FAB_APT1 k) FAB_APT1_base * 2 ^ 24 + off.val % 2 ^ 24; (let open_ := s.fldB (FAB_APT0 k) FAB_APT0_en = true ∧ s.fldB (FAB_ROUTE d) FAB_ROUTE_valid = true; (let within (len : Nat) := off.val % 2 ^ 24 + 4 * len ≤ 2 ^ 24; (let block (len : Nat) := 0 < len ∧ len ≤ 64 - addr % 256 / 4; (let room := (s.fab.writes.filter (fun y => y.target == d)).length < 32 ∧ s.msgInside d = false; ((open_) ∧ (within data.length) ∧ (block data.length) ∧ (calm s.fab.writes) ∧ (¬ room))))))))))) ∧
    (∃ s : State, ∃ off : Fin 67108864, ∃ n : Nat, ∃ data : List Word, (s.running = true) ∧ (let k := off.val / 2 ^ 24; (let d := s.fld (FAB_APT0 k) FAB_APT0_target; (let addr := s.fld (FAB_APT1 k) FAB_APT1_base * 2 ^ 24 + off.val % 2 ^ 24; (let open_ := s.fldB (FAB_APT0 k) FAB_APT0_en = true ∧ s.fldB (FAB_ROUTE d) FAB_ROUTE_valid = true; (let within (len : Nat) := off.val % 2 ^ 24 + 4 * len ≤ 2 ^ 24; (let block (len : Nat) := 0 < len ∧ len ≤ 64 - addr % 256 / 4; ((open_) ∧ (within n) ∧ (block n))))))))) ∧
    (∃ s : State, ∃ off : Fin 67108864, ∃ n : Nat, ∃ data : List Word, (s.running = true) ∧ (let k := off.val / 2 ^ 24; (let d := s.fld (FAB_APT0 k) FAB_APT0_target; (let open_ := s.fldB (FAB_APT0 k) FAB_APT0_en = true ∧ s.fldB (FAB_ROUTE d) FAB_ROUTE_valid = true; (let within (len : Nat) := off.val % 2 ^ 24 + 4 * len ≤ 2 ^ 24; ((open_) ∧ (within n) ∧ (off.val % 4 = 0) ∧ (0 < n))))))) ∧
    (∃ s : State, ∃ off : Fin 67108864, ∃ n : Nat, ∃ data : List Word, (s.running = true) ∧ (let k := off.val / 2 ^ 24; (let d := s.fld (FAB_APT0 k) FAB_APT0_target; (let open_ := s.fldB (FAB_APT0 k) FAB_APT0_en = true ∧ s.fldB (FAB_ROUTE d) FAB_ROUTE_valid = true; (let within (len : Nat) := off.val % 2 ^ 24 + 4 * len ≤ 2 ^ 24; (¬ open_) ∧ (within data.length)))))) ∧
    (∃ s : State, ∃ off : Fin 67108864, ∃ n : Nat, ∃ data : List Word, (s.running = true) ∧ (let k := off.val / 2 ^ 24; (let d := s.fld (FAB_APT0 k) FAB_APT0_target; (let open_ := s.fldB (FAB_APT0 k) FAB_APT0_en = true ∧ s.fldB (FAB_ROUTE d) FAB_ROUTE_valid = true; (let within (len : Nat) := off.val % 2 ^ 24 + 4 * len ≤ 2 ^ 24; (¬ open_) ∧ (within n)))))) ∧
    (∃ s : State, ∃ off : Fin 67108864, ∃ n : Nat, ∃ data : List Word, (s.running = true) ∧ (let within (len : Nat) := off.val % 2 ^ 24 + 4 * len ≤ 2 ^ 24; ∃ b : Bool, (¬ within (if b then data.length else n)))) ∧
    (∃ s : State, ∃ off : Fin 67108864, ∃ b : Bool, ∃ n : Nat, ∃ data : List Word, (s.running = false)) ∧
    (∃ s : State, (s.mine31 9 = none)) ∧
    (∃ s : State, (let calm (l : List RaWrite) := s.fab.waiting = [] ∧ ∀ w ∈ l, w.sent = true; ∃ f : Frame, ∃ h : FabHdr, ∃ u : State, (s.mine31 9 = some (f, h, u)) ∧ (let status := leNat (slice 0 4 f.data) % 16; (let ack := leNat (slice 0 4 f.data) / 65536; (let left := u.fab.writes.filter (fun w => w.target != h.src || epochNewer w.wseq ack); (let failed := status ≠ 0 ∧ u.fab.writes.any (fun w => w.target == h.src && w.tag == h.tag && w.aperture) = true; ((calm left) ∧ (u.fab.reads.find? (fun x => x.tag == h.tag && x.target == h.src) = none) ∧ (¬ failed)))))))) ∧
    (∃ s : State, (let calm (l : List RaWrite) := s.fab.waiting = [] ∧ ∀ w ∈ l, w.sent = true; ∃ f : Frame, ∃ h : FabHdr, ∃ u : State, (s.mine31 9 = some (f, h, u)) ∧ (let status := leNat (slice 0 4 f.data) % 16; (let ack := leNat (slice 0 4 f.data) / 65536; (let left := u.fab.writes.filter (fun w => w.target != h.src || epochNewer w.wseq ack); (let failed := status ≠ 0 ∧ u.fab.writes.any (fun w => w.target == h.src && w.tag == h.tag && w.aperture) = true; ((calm left) ∧ (u.fab.reads.find? (fun x => x.tag == h.tag && x.target == h.src) = none) ∧ (failed)))))))) ∧
    (∃ s : State, (let calm (l : List RaWrite) := s.fab.waiting = [] ∧ ∀ w ∈ l, w.sent = true; ∃ f : Frame, ∃ h : FabHdr, ∃ u : State, (s.mine31 9 = some (f, h, u)) ∧ (let status := leNat (slice 0 4 f.data) % 16; (let ack := leNat (slice 0 4 f.data) / 65536; (let left := u.fab.writes.filter (fun w => w.target != h.src || epochNewer w.wseq ack); (calm left) ∧ ∃ x : RaRead, ((u.fab.reads = [x]) ∧ (x.tag = h.tag) ∧ (x.target = h.src) ∧ (u.fab.writes = [])) ∧ ∃ k : Nat, (status = 0) ∧ (u.fab.hostReads = [{ tag := k, parts := [(x.tag, none)] }])))))) ∧
    (∃ s : State, (let calm (l : List RaWrite) := s.fab.waiting = [] ∧ ∀ w ∈ l, w.sent = true; ∃ f : Frame, ∃ h : FabHdr, ∃ u : State, (s.mine31 9 = some (f, h, u)) ∧ (let status := leNat (slice 0 4 f.data) % 16; (let ack := leNat (slice 0 4 f.data) / 65536; (let left := u.fab.writes.filter (fun w => w.target != h.src || epochNewer w.wseq ack); (calm left) ∧ ∃ x : RaRead, ((u.fab.reads = [x]) ∧ (x.tag = h.tag) ∧ (x.target = h.src) ∧ (u.fab.writes = [])) ∧ ∃ k : Nat, ∃ j : Nat, ((status = 0) ∧ (u.fab.hostReads = [{ tag := k, parts := [(x.tag, none), (j, none)] }]) ∧ (j ≠ x.tag))))))) ∧
    (∃ s : State, (let calm (l : List RaWrite) := s.fab.waiting = [] ∧ ∀ w ∈ l, w.sent = true; ∃ f : Frame, ∃ h : FabHdr, ∃ u : State, (s.mine31 9 = some (f, h, u)) ∧ (let status := leNat (slice 0 4 f.data) % 16; (let ack := leNat (slice 0 4 f.data) / 65536; (let left := u.fab.writes.filter (fun w => w.target != h.src || epochNewer w.wseq ack); (calm left) ∧ ∃ x : RaRead, ((u.fab.reads = [x]) ∧ (x.tag = h.tag) ∧ (x.target = h.src) ∧ (u.fab.writes = [])) ∧ ∃ k : Nat, (2 ≤ status) ∧ (u.fab.hostReads = [{ tag := k, parts := [(x.tag, none)] }])))))) ∧
    (∃ s : State, (let calm (l : List RaWrite) := s.fab.waiting = [] ∧ ∀ w ∈ l, w.sent = true; ∃ f : Frame, ∃ h : FabHdr, ∃ u : State, (s.mine31 9 = some (f, h, u)) ∧ (let status := leNat (slice 0 4 f.data) % 16; (let ack := leNat (slice 0 4 f.data) / 65536; (let left := u.fab.writes.filter (fun w => w.target != h.src || epochNewer w.wseq ack); (calm left) ∧ ∃ x : RaRead, ((u.fab.reads = [x]) ∧ (x.tag = h.tag) ∧ (x.target = h.src) ∧ (u.fab.writes = []) ∧ (status ≠ 1) ∧ (u.fab.hostReads = []))))))) ∧
    (∃ s : State, (let calm (l : List RaWrite) := s.fab.waiting = [] ∧ ∀ w ∈ l, w.sent = true; ∃ f : Frame, ∃ h : FabHdr, ∃ u : State, (s.mine31 9 = some (f, h, u)) ∧ (let status := leNat (slice 0 4 f.data) % 16; (let ack := leNat (slice 0 4 f.data) / 65536; (let left := u.fab.writes.filter (fun w => w.target != h.src || epochNewer w.wseq ack); (calm left) ∧ ∃ x : RaRead, ((u.fab.reads = [x]) ∧ (x.tag = h.tag) ∧ (x.target = h.src) ∧ (u.fab.writes = []) ∧ (status = 1))))))) ∧
    (∃ s : State, ∃ tag : Nat, ∃ x : RaRead, ((s.fab.reads = [x]) ∧ (x.tag = tag) ∧ (x.retry = true))) := by
  exact ⟨⟨(((((on).setFld (FAB_APT0 3) FAB_APT0_en (1)).setFld (FAB_APT0 3) FAB_APT0_target (31)).setFld (FAB_APT1 3) FAB_APT1_base (0x30)).setFld (FAB_ROUTE 31) FAB_ROUTE_valid (1)), 67108860, 1, [7], by decide +kernel⟩,
    ⟨{ (((((on).setFld (FAB_APT0 3) FAB_APT0_en (1)).setFld (FAB_APT0 3) FAB_APT0_target (31)).setFld (FAB_APT1 3) FAB_APT1_base (0x30)).setFld (FAB_ROUTE 31) FAB_ROUTE_valid (1)) with fab := { on.fab with writes := [{ tag := 0, target := 31, wseq := 1, addr := 0, data := [], sent := true }, { tag := 1, target := 31, wseq := 2, addr := 0, data := [], sent := true }, { tag := 2, target := 31, wseq := 3, addr := 0, data := [], sent := true }, { tag := 3, target := 31, wseq := 4, addr := 0, data := [], sent := true }, { tag := 4, target := 31, wseq := 5, addr := 0, data := [], sent := true }, { tag := 5, target := 31, wseq := 6, addr := 0, data := [], sent := true }, { tag := 6, target := 31, wseq := 7, addr := 0, data := [], sent := true }, { tag := 7, target := 31, wseq := 8, addr := 0, data := [], sent := true }, { tag := 8, target := 31, wseq := 9, addr := 0, data := [], sent := true }, { tag := 9, target := 31, wseq := 10, addr := 0, data := [], sent := true }, { tag := 10, target := 31, wseq := 11, addr := 0, data := [], sent := true }, { tag := 11, target := 31, wseq := 12, addr := 0, data := [], sent := true }, { tag := 12, target := 31, wseq := 13, addr := 0, data := [], sent := true }, { tag := 13, target := 31, wseq := 14, addr := 0, data := [], sent := true }, { tag := 14, target := 31, wseq := 15, addr := 0, data := [], sent := true }, { tag := 15, target := 31, wseq := 16, addr := 0, data := [], sent := true }, { tag := 16, target := 31, wseq := 17, addr := 0, data := [], sent := true }, { tag := 17, target := 31, wseq := 18, addr := 0, data := [], sent := true }, { tag := 18, target := 31, wseq := 19, addr := 0, data := [], sent := true }, { tag := 19, target := 31, wseq := 20, addr := 0, data := [], sent := true }, { tag := 20, target := 31, wseq := 21, addr := 0, data := [], sent := true }, { tag := 21, target := 31, wseq := 22, addr := 0, data := [], sent := true }, { tag := 22, target := 31, wseq := 23, addr := 0, data := [], sent := true }, { tag := 23, target := 31, wseq := 24, addr := 0, data := [], sent := true }, { tag := 24, target := 31, wseq := 25, addr := 0, data := [], sent := true }, { tag := 25, target := 31, wseq := 26, addr := 0, data := [], sent := true }, { tag := 26, target := 31, wseq := 27, addr := 0, data := [], sent := true }, { tag := 27, target := 31, wseq := 28, addr := 0, data := [], sent := true }, { tag := 28, target := 31, wseq := 29, addr := 0, data := [], sent := true }, { tag := 29, target := 31, wseq := 30, addr := 0, data := [], sent := true }, { tag := 30, target := 31, wseq := 31, addr := 0, data := [], sent := true }, { tag := 31, target := 31, wseq := 32, addr := 0, data := [], sent := true }], issued := [(31, 65535)], nextTag := 2^32-1 } }, 67108860, 1, [7], by decide +kernel⟩,
    ⟨(((((on).setFld (FAB_APT0 3) FAB_APT0_en (1)).setFld (FAB_APT0 3) FAB_APT0_target (31)).setFld (FAB_APT1 3) FAB_APT1_base (0x30)).setFld (FAB_ROUTE 31) FAB_ROUTE_valid (1)), 67108860, 1, [], by decide +kernel⟩,
    ⟨(((((on).setFld (FAB_APT0 3) FAB_APT0_en (1)).setFld (FAB_APT0 3) FAB_APT0_target (31)).setFld (FAB_APT1 3) FAB_APT1_base (0x30)).setFld (FAB_ROUTE 31) FAB_ROUTE_valid (1)), 67108860, 1, [], by decide +kernel⟩,
    ⟨on, 67108860, 1, [7], by decide +kernel⟩,
    ⟨on, 67108860, 1, [], by decide +kernel⟩,
    ⟨on, 67108860, 2, [], by decide +kernel, false, by decide +kernel⟩,
    ⟨{ on with dev := { on.dev with state := .logicReset } }, 67108860, true, 1, [], by decide +kernel⟩,
    ⟨on, by decide +kernel⟩,
    ⟨{ ({ (((on).setFld (FAB_STATUS) FAB_STATUS_addressed (1)).setFld (FAB_STATUS) FAB_STATUS_addr (5)) with fab := { (on).fab with writes := [{ tag := 5, target := 3, wseq := 1, addr := 0x20000000, data := [7], aperture := false, sent := true }, { tag := 6, target := 3, wseq := 2, addr := 0x20000000, data := [7], aperture := false, sent := true }, { tag := 7, target := 4, wseq := 1, addr := 0x20000000, data := [7], aperture := false, sent := true }] } }) with sw := { ({ (((on).setFld (FAB_STATUS) FAB_STATUS_addressed (1)).setFld (FAB_STATUS) FAB_STATUS_addr (5)) with fab := { (on).fab with writes := [{ tag := 5, target := 3, wseq := 1, addr := 0x20000000, data := [7], aperture := false, sent := true }, { tag := 6, target := 3, wseq := 2, addr := 0x20000000, data := [7], aperture := false, sent := true }, { tag := 7, target := 4, wseq := 1, addr := 0x20000000, data := [7], aperture := false, sent := true }] } }).sw with staged := [(31, [{ input := 7, kind := .fabric, data := (leBytes 4 (1 * 65536)), fab := some { type := 9, tag := 5, dst := 5, src := 3 } }])] } }, { input := 7, kind := .fabric, data := (leBytes 4 (1 * 65536)), fab := some { type := 9, tag := 5, dst := 5, src := 3 } }, { type := 9, tag := 5, dst := 5, src := 3 }, (({ ({ (((on).setFld (FAB_STATUS) FAB_STATUS_addressed (1)).setFld (FAB_STATUS) FAB_STATUS_addr (5)) with fab := { (on).fab with writes := [{ tag := 5, target := 3, wseq := 1, addr := 0x20000000, data := [7], aperture := false, sent := true }, { tag := 6, target := 3, wseq := 2, addr := 0x20000000, data := [7], aperture := false, sent := true }, { tag := 7, target := 4, wseq := 1, addr := 0x20000000, data := [7], aperture := false, sent := true }] } }) with sw := { ({ (((on).setFld (FAB_STATUS) FAB_STATUS_addressed (1)).setFld (FAB_STATUS) FAB_STATUS_addr (5)) with fab := { (on).fab with writes := [{ tag := 5, target := 3, wseq := 1, addr := 0x20000000, data := [7], aperture := false, sent := true }, { tag := 6, target := 3, wseq := 2, addr := 0x20000000, data := [7], aperture := false, sent := true }, { tag := 7, target := 4, wseq := 1, addr := 0x20000000, data := [7], aperture := false, sent := true }] } }).sw with staged := [(31, [{ input := 7, kind := .fabric, data := (leBytes 4 (1 * 65536)), fab := some { type := 9, tag := 5, dst := 5, src := 3 } }])] } }).pop31), rfl, by decide +kernel⟩,
    ⟨{ ({ (((on).setFld (FAB_STATUS) FAB_STATUS_addressed (1)).setFld (FAB_STATUS) FAB_STATUS_addr (5)) with fab := { (on).fab with writes := [{ tag := 5, target := 3, wseq := 1, addr := 0x20000000, data := [7], aperture := true, sent := true }, { tag := 6, target := 3, wseq := 2, addr := 0x20000000, data := [7], aperture := false, sent := true }] } }) with sw := { ({ (((on).setFld (FAB_STATUS) FAB_STATUS_addressed (1)).setFld (FAB_STATUS) FAB_STATUS_addr (5)) with fab := { (on).fab with writes := [{ tag := 5, target := 3, wseq := 1, addr := 0x20000000, data := [7], aperture := true, sent := true }, { tag := 6, target := 3, wseq := 2, addr := 0x20000000, data := [7], aperture := false, sent := true }] } }).sw with staged := [(31, [{ input := 7, kind := .fabric, data := (leBytes 4 (1 * 65536 + 3)), fab := some { type := 9, tag := 5, dst := 5, src := 3 } }])] } }, { input := 7, kind := .fabric, data := (leBytes 4 (1 * 65536 + 3)), fab := some { type := 9, tag := 5, dst := 5, src := 3 } }, { type := 9, tag := 5, dst := 5, src := 3 }, (({ ({ (((on).setFld (FAB_STATUS) FAB_STATUS_addressed (1)).setFld (FAB_STATUS) FAB_STATUS_addr (5)) with fab := { (on).fab with writes := [{ tag := 5, target := 3, wseq := 1, addr := 0x20000000, data := [7], aperture := true, sent := true }, { tag := 6, target := 3, wseq := 2, addr := 0x20000000, data := [7], aperture := false, sent := true }] } }) with sw := { ({ (((on).setFld (FAB_STATUS) FAB_STATUS_addressed (1)).setFld (FAB_STATUS) FAB_STATUS_addr (5)) with fab := { (on).fab with writes := [{ tag := 5, target := 3, wseq := 1, addr := 0x20000000, data := [7], aperture := true, sent := true }, { tag := 6, target := 3, wseq := 2, addr := 0x20000000, data := [7], aperture := false, sent := true }] } }).sw with staged := [(31, [{ input := 7, kind := .fabric, data := (leBytes 4 (1 * 65536 + 3)), fab := some { type := 9, tag := 5, dst := 5, src := 3 } }])] } }).pop31), rfl, by decide +kernel⟩,
    ⟨{ ({ (((on).setFld (FAB_STATUS) FAB_STATUS_addressed (1)).setFld (FAB_STATUS) FAB_STATUS_addr (5)) with fab := { (on).fab with reads := [{ tag := 5, target := 3, addr := 0x20000000, words := 1, pref := false }], hostReads := [{ tag := 5, parts := [(5, none)] }] } }) with sw := { ({ (((on).setFld (FAB_STATUS) FAB_STATUS_addressed (1)).setFld (FAB_STATUS) FAB_STATUS_addr (5)) with fab := { (on).fab with reads := [{ tag := 5, target := 3, addr := 0x20000000, words := 1, pref := false }], hostReads := [{ tag := 5, parts := [(5, none)] }] } }).sw with staged := [(31, [{ input := 7, kind := .fabric, data := (leBytes 4 0 ++ leBytes 4 9), fab := some { type := 9, tag := 5, dst := 5, src := 3 } }])] } }, { input := 7, kind := .fabric, data := (leBytes 4 0 ++ leBytes 4 9), fab := some { type := 9, tag := 5, dst := 5, src := 3 } }, { type := 9, tag := 5, dst := 5, src := 3 }, (({ ({ (((on).setFld (FAB_STATUS) FAB_STATUS_addressed (1)).setFld (FAB_STATUS) FAB_STATUS_addr (5)) with fab := { (on).fab with reads := [{ tag := 5, target := 3, addr := 0x20000000, words := 1, pref := false }], hostReads := [{ tag := 5, parts := [(5, none)] }] } }) with sw := { ({ (((on).setFld (FAB_STATUS) FAB_STATUS_addressed (1)).setFld (FAB_STATUS) FAB_STATUS_addr (5)) with fab := { (on).fab with reads := [{ tag := 5, target := 3, addr := 0x20000000, words := 1, pref := false }], hostReads := [{ tag := 5, parts := [(5, none)] }] } }).sw with staged := [(31, [{ input := 7, kind := .fabric, data := (leBytes 4 0 ++ leBytes 4 9), fab := some { type := 9, tag := 5, dst := 5, src := 3 } }])] } }).pop31), rfl, by decide +kernel, { tag := 5, target := 3, addr := 0x20000000, words := 1, pref := false }, by decide +kernel, 5, by decide +kernel⟩,
    ⟨{ ({ (((on).setFld (FAB_STATUS) FAB_STATUS_addressed (1)).setFld (FAB_STATUS) FAB_STATUS_addr (5)) with fab := { (on).fab with reads := [{ tag := 5, target := 3, addr := 0x20000000, words := 1, pref := false }], hostReads := [{ tag := 5, parts := [(5, none), (6, none)] }] } }) with sw := { ({ (((on).setFld (FAB_STATUS) FAB_STATUS_addressed (1)).setFld (FAB_STATUS) FAB_STATUS_addr (5)) with fab := { (on).fab with reads := [{ tag := 5, target := 3, addr := 0x20000000, words := 1, pref := false }], hostReads := [{ tag := 5, parts := [(5, none), (6, none)] }] } }).sw with staged := [(31, [{ input := 7, kind := .fabric, data := (leBytes 4 0 ++ leBytes 4 9), fab := some { type := 9, tag := 5, dst := 5, src := 3 } }])] } }, { input := 7, kind := .fabric, data := (leBytes 4 0 ++ leBytes 4 9), fab := some { type := 9, tag := 5, dst := 5, src := 3 } }, { type := 9, tag := 5, dst := 5, src := 3 }, (({ ({ (((on).setFld (FAB_STATUS) FAB_STATUS_addressed (1)).setFld (FAB_STATUS) FAB_STATUS_addr (5)) with fab := { (on).fab with reads := [{ tag := 5, target := 3, addr := 0x20000000, words := 1, pref := false }], hostReads := [{ tag := 5, parts := [(5, none), (6, none)] }] } }) with sw := { ({ (((on).setFld (FAB_STATUS) FAB_STATUS_addressed (1)).setFld (FAB_STATUS) FAB_STATUS_addr (5)) with fab := { (on).fab with reads := [{ tag := 5, target := 3, addr := 0x20000000, words := 1, pref := false }], hostReads := [{ tag := 5, parts := [(5, none), (6, none)] }] } }).sw with staged := [(31, [{ input := 7, kind := .fabric, data := (leBytes 4 0 ++ leBytes 4 9), fab := some { type := 9, tag := 5, dst := 5, src := 3 } }])] } }).pop31), rfl, by decide +kernel, { tag := 5, target := 3, addr := 0x20000000, words := 1, pref := false }, by decide +kernel, 5, 6, by decide +kernel⟩,
    ⟨{ ({ (((on).setFld (FAB_STATUS) FAB_STATUS_addressed (1)).setFld (FAB_STATUS) FAB_STATUS_addr (5)) with fab := { (on).fab with reads := [{ tag := 5, target := 3, addr := 0x20000000, words := 1, pref := false }], hostReads := [{ tag := 5, parts := [(5, none)] }] } }) with sw := { ({ (((on).setFld (FAB_STATUS) FAB_STATUS_addressed (1)).setFld (FAB_STATUS) FAB_STATUS_addr (5)) with fab := { (on).fab with reads := [{ tag := 5, target := 3, addr := 0x20000000, words := 1, pref := false }], hostReads := [{ tag := 5, parts := [(5, none)] }] } }).sw with staged := [(31, [{ input := 7, kind := .fabric, data := (leBytes 4 2), fab := some { type := 9, tag := 5, dst := 5, src := 3 } }])] } }, { input := 7, kind := .fabric, data := (leBytes 4 2), fab := some { type := 9, tag := 5, dst := 5, src := 3 } }, { type := 9, tag := 5, dst := 5, src := 3 }, (({ ({ (((on).setFld (FAB_STATUS) FAB_STATUS_addressed (1)).setFld (FAB_STATUS) FAB_STATUS_addr (5)) with fab := { (on).fab with reads := [{ tag := 5, target := 3, addr := 0x20000000, words := 1, pref := false }], hostReads := [{ tag := 5, parts := [(5, none)] }] } }) with sw := { ({ (((on).setFld (FAB_STATUS) FAB_STATUS_addressed (1)).setFld (FAB_STATUS) FAB_STATUS_addr (5)) with fab := { (on).fab with reads := [{ tag := 5, target := 3, addr := 0x20000000, words := 1, pref := false }], hostReads := [{ tag := 5, parts := [(5, none)] }] } }).sw with staged := [(31, [{ input := 7, kind := .fabric, data := (leBytes 4 2), fab := some { type := 9, tag := 5, dst := 5, src := 3 } }])] } }).pop31), rfl, by decide +kernel, { tag := 5, target := 3, addr := 0x20000000, words := 1, pref := false }, by decide +kernel, 5, by decide +kernel⟩,
    ⟨{ ({ (((on).setFld (FAB_STATUS) FAB_STATUS_addressed (1)).setFld (FAB_STATUS) FAB_STATUS_addr (5)) with fab := { (on).fab with reads := [{ tag := 5, target := 3, addr := 0x20000000, words := 1, pref := false }] } }) with sw := { ({ (((on).setFld (FAB_STATUS) FAB_STATUS_addressed (1)).setFld (FAB_STATUS) FAB_STATUS_addr (5)) with fab := { (on).fab with reads := [{ tag := 5, target := 3, addr := 0x20000000, words := 1, pref := false }] } }).sw with staged := [(31, [{ input := 7, kind := .fabric, data := (leBytes 4 0 ++ leBytes 4 9), fab := some { type := 9, tag := 5, dst := 5, src := 3 } }])] } }, { input := 7, kind := .fabric, data := (leBytes 4 0 ++ leBytes 4 9), fab := some { type := 9, tag := 5, dst := 5, src := 3 } }, { type := 9, tag := 5, dst := 5, src := 3 }, (({ ({ (((on).setFld (FAB_STATUS) FAB_STATUS_addressed (1)).setFld (FAB_STATUS) FAB_STATUS_addr (5)) with fab := { (on).fab with reads := [{ tag := 5, target := 3, addr := 0x20000000, words := 1, pref := false }] } }) with sw := { ({ (((on).setFld (FAB_STATUS) FAB_STATUS_addressed (1)).setFld (FAB_STATUS) FAB_STATUS_addr (5)) with fab := { (on).fab with reads := [{ tag := 5, target := 3, addr := 0x20000000, words := 1, pref := false }] } }).sw with staged := [(31, [{ input := 7, kind := .fabric, data := (leBytes 4 0 ++ leBytes 4 9), fab := some { type := 9, tag := 5, dst := 5, src := 3 } }])] } }).pop31), rfl, by decide +kernel, { tag := 5, target := 3, addr := 0x20000000, words := 1, pref := false }, by decide +kernel⟩,
    ⟨{ ({ (((on).setFld (FAB_STATUS) FAB_STATUS_addressed (1)).setFld (FAB_STATUS) FAB_STATUS_addr (5)) with fab := { (on).fab with reads := [{ tag := 5, target := 3, addr := 0x20000000, words := 1, pref := false }], hostReads := [{ tag := 5, parts := [(5, none)] }] } }) with sw := { ({ (((on).setFld (FAB_STATUS) FAB_STATUS_addressed (1)).setFld (FAB_STATUS) FAB_STATUS_addr (5)) with fab := { (on).fab with reads := [{ tag := 5, target := 3, addr := 0x20000000, words := 1, pref := false }], hostReads := [{ tag := 5, parts := [(5, none)] }] } }).sw with staged := [(31, [{ input := 7, kind := .fabric, data := (leBytes 4 1), fab := some { type := 9, tag := 5, dst := 5, src := 3 } }])] } }, { input := 7, kind := .fabric, data := (leBytes 4 1), fab := some { type := 9, tag := 5, dst := 5, src := 3 } }, { type := 9, tag := 5, dst := 5, src := 3 }, (({ ({ (((on).setFld (FAB_STATUS) FAB_STATUS_addressed (1)).setFld (FAB_STATUS) FAB_STATUS_addr (5)) with fab := { (on).fab with reads := [{ tag := 5, target := 3, addr := 0x20000000, words := 1, pref := false }], hostReads := [{ tag := 5, parts := [(5, none)] }] } }) with sw := { ({ (((on).setFld (FAB_STATUS) FAB_STATUS_addressed (1)).setFld (FAB_STATUS) FAB_STATUS_addr (5)) with fab := { (on).fab with reads := [{ tag := 5, target := 3, addr := 0x20000000, words := 1, pref := false }], hostReads := [{ tag := 5, parts := [(5, none)] }] } }).sw with staged := [(31, [{ input := 7, kind := .fabric, data := (leBytes 4 1), fab := some { type := 9, tag := 5, dst := 5, src := 3 } }])] } }).pop31), rfl, by decide +kernel, { tag := 5, target := 3, addr := 0x20000000, words := 1, pref := false }, by decide +kernel⟩,
    ⟨{ on with fab := { on.fab with reads := [{ tag := 5, target := 3, addr := 0x20000000, words := 1, pref := false, retry := true }] } }, 5, { tag := 5, target := 3, addr := 0x20000000, words := 1, pref := false, retry := true }, by decide +kernel⟩⟩

theorem witness_BridgeSource_2 :
    (∃ s : State, ∃ tag : Nat, ∃ x : RaRead, ((s.fab.reads = [x]) ∧ (x.tag = tag) ∧ (x.retry = false))) ∧
    (∃ s : State, ∃ d : Fin 32, ∃ w : RaWrite, (s.fab.writes.filter (fun w => w.target == d.val && w.sent) = [w])) ∧
    (∃ s : State, ∃ d : Fin 32, (s.fab.writes.filter (fun w => w.target == d.val && w.sent) = [])) ∧
    (∃ s : State, ∃ tag : Nat, (s.fab.reads.any (fun x => x.tag == tag) = true)) ∧
    (∃ s : State, (let calm (l : List RaWrite) := s.fab.waiting = [] ∧ ∀ w ∈ l, w.sent = true; ∃ tag : Nat, ∃ w : RaWrite, ((s.fab.reads.any (fun x => x.tag == tag) = false) ∧ (s.fab.writes.find? (fun x => x.tag == tag) = some w) ∧ (calm s.fab.writes) ∧ (w.aperture = false)))) ∧
    (∃ s : State, (let calm (l : List RaWrite) := s.fab.waiting = [] ∧ ∀ w ∈ l, w.sent = true; ∃ tag : Nat, ∃ w : RaWrite, ((s.fab.reads.any (fun x => x.tag == tag) = false) ∧ (s.fab.writes.find? (fun x => x.tag == tag) = some w) ∧ (calm s.fab.writes) ∧ (w.aperture = true)))) ∧
    (∃ s : State, ∃ tag : Nat, (s.fab.reads.any (fun x => x.tag == tag) = false) ∧ (s.fab.writes.find? (fun x => x.tag == tag) = none)) ∧
    (∃ s : State, ∃ tag : Nat, ∃ y : HostRead, (s.fab.hostReads.find? (fun y => y.parts.any (fun p => p.1 == tag)) = some y)) ∧
    (∃ s : State, ∃ tag : Nat, (s.fab.hostReads.find? (fun y => y.parts.any (fun p => p.1 == tag)) = none)) := by
  exact ⟨⟨{ on with fab := { on.fab with reads := [{ tag := 5, target := 3, addr := 0x20000000, words := 1, pref := false }] } }, 5, { tag := 5, target := 3, addr := 0x20000000, words := 1, pref := false }, by decide +kernel⟩,
    ⟨{ on with fab := { on.fab with writes := [{ tag := 5, target := 31, wseq := 1, addr := 0x20000000, data := [7], aperture := false, sent := true }, { tag := 6, target := 31, wseq := 2, addr := 0x20000000, data := [7], aperture := false, sent := false }] } }, 31, { tag := 5, target := 31, wseq := 1, addr := 0x20000000, data := [7], aperture := false, sent := true }, by decide +kernel⟩,
    ⟨on, 31, by decide +kernel⟩,
    ⟨{ on with fab := { on.fab with reads := [{ tag := 5, target := 3, addr := 0x20000000, words := 1, pref := false }], hostReads := [{ tag := 5, parts := [(5, none)] }] } }, 5, by decide +kernel⟩,
    ⟨{ on with fab := { on.fab with writes := [{ tag := 5, target := 31, wseq := 1, addr := 0x20000000, data := [7], aperture := false, sent := true }, { tag := 6, target := 31, wseq := 2, addr := 0x20000000, data := [7], aperture := false, sent := true }] } }, 5, { tag := 5, target := 31, wseq := 1, addr := 0x20000000, data := [7], aperture := false, sent := true }, by decide +kernel⟩,
    ⟨{ on with fab := { on.fab with writes := [{ tag := 5, target := 31, wseq := 1, addr := 0x20000000, data := [7], aperture := true, sent := true }] } }, 5, { tag := 5, target := 31, wseq := 1, addr := 0x20000000, data := [7], aperture := true, sent := true }, by decide +kernel⟩,
    ⟨on, 5, by decide +kernel⟩,
    ⟨{ on with fab := { on.fab with hostReads := [{ tag := 1, parts := [(1, none)] }, { tag := 5, parts := [(5, none), (6, none)] }], reads := [{ tag := 5, target := 3, addr := 0x20000000, words := 1, pref := false }] } }, 6, { tag := 5, parts := [(5, none), (6, none)] }, by decide +kernel⟩,
    ⟨{ on with fab := { on.fab with hostReads := [{ tag := 5, parts := [(5, none), (6, none)] }] } }, 7, by decide +kernel⟩⟩

theorem witness_EngineLock :
    (∃ s : State, ∃ m : Master, ∃ v : Word, (s.writable m SEC_LOCK_REQ) ∧ (v.toNat.testBit 1 = false)) ∧
    (∃ s : State, ∃ m : Master, ∃ v : Word, (s.writable m SEC_LOCK_REQ) ∧ (v.toNat.testBit 1 = true)) ∧
    (∃ s : State, ∃ m : Master, ∃ v : Word, (s.writable m SEC_LOCK_REQ)) ∧
    (∃ s : State, ∃ m : Master, ∃ v : Word, (let q := s.sec.queue; (s.sec.owner ≠ none ∨ s.sec.eng ≠ none ∨ s.sec.kop ≠ none ∨ q = []))) ∧
    (∃ s : State, ∃ m : Master, ∃ v : Word, (let q := s.sec.queue; ∃ rest : List Nat, ((s.sec.owner = none) ∧ (s.sec.eng = none) ∧ (s.sec.kop = none) ∧ (q = 64 :: rest)))) ∧
    (∃ s : State, ∃ m : Master, ∃ v : Word, (let q := s.sec.queue; ∃ c : Fin 64, ∃ rest : List Nat, ((s.sec.owner = none) ∧ (s.sec.eng = none) ∧ (s.sec.kop = none) ∧ (q = c.val :: rest)) ∧ ∃ iv : Invocation, ∃ p : KPlace, ((s.inv c = some iv) ∧ (iv.ciphAt % 4 = 0) ∧ (s.range iv.ev.routine iv.ciphAt 32 = some p) ∧ (p.win = .priv ∨ p.win = .shared)))) ∧
    (∃ s : State, ∃ m : Master, ∃ v : Word, (let q := s.sec.queue; ∃ c : Fin 64, ∃ rest : List Nat, ((s.sec.owner = none) ∧ (s.sec.eng = none) ∧ (s.sec.kop = none) ∧ (q = c.val :: rest)) ∧ ∃ iv : Invocation, (s.inv c = some iv) ∧ (iv.ciphAt % 4 ≠ 0 ∨ (∀ p : KPlace, s.range iv.ev.routine iv.ciphAt 32 = some p → p.win ≠ .priv ∧ p.win ≠ .shared)))) ∧
    (∃ s : State, ∃ m : Master, ∃ v : Word, (let q := s.sec.queue; ∃ c : Fin 64, ∃ rest : List Nat, ((s.sec.owner = none) ∧ (s.sec.eng = none) ∧ (s.sec.kop = none) ∧ (q = c.val :: rest) ∧ (s.inv c = none)))) ∧
    (∃ s : State, ∃ m : Master, ∃ v : Word, ∃ r : Nat, ∃ w : List Nat, (let d := descOf w; (let bad := Desc.fieldsOk w = false ∨ ∃ x ∈ d.ranges, s.rangeOk r x = false; (bad)))) ∧
    (∃ s : State, ∃ m : Master, ∃ v : Word, ∃ r : Nat, ∃ w : List Nat, (let d := descOf w; (let a := s.slotAttr d.slot; (let bad := Desc.fieldsOk w = false ∨ ∃ x ∈ d.ranges, s.rangeOk r x = false; (¬bad) ∧ (a.testBit 0 = false))))) ∧
    (∃ s : State, ∃ m : Master, ∃ v : Word, ∃ r : Nat, ∃ w : List Nat, (let d := descOf w; (let a := s.slotAttr d.slot; (let usage := if d.alg ≤ 2 then a.testBit 10 else if d.alg ≤ 4 then a.testBit 11 else if d.alg = 5 then a.testBit 12 else a.testBit 13; (let keyKind := if d.alg ≤ 5 then attrType a ≤ 1 else attrType a = 2; (let bad := Desc.fieldsOk w = false ∨ ∃ x ∈ d.ranges, s.rangeOk r x = false; (¬bad) ∧ (a.testBit 0 = true) ∧ (usage = false ∨ ¬keyKind ∨ (r = 64 ∧ a.testBit 17 = false) ∨ (r ≠ 64 ∧ a.testBit 16 = false) ∨ (∃ iv : Invocation, r ≠ 64 ∧ s.inv r = some iv ∧ (s.routine iv.ev.routine).keyMask.testBit d.slot = false)))))))) ∧
    (∃ s : State, ∃ m : Master, ∃ v : Word, ∃ r : Nat, ∃ w : List Nat, (let d := descOf w; (let a := s.slotAttr d.slot; (let usage := if d.alg ≤ 2 then a.testBit 10 else if d.alg ≤ 4 then a.testBit 11 else if d.alg = 5 then a.testBit 12 else a.testBit 13; (let keyKind := if d.alg ≤ 5 then attrType a ≤ 1 else attrType a = 2; (let bad := Desc.fieldsOk w = false ∨ ∃ x ∈ d.ranges, s.rangeOk r x = false; ((¬bad) ∧ (a.testBit 0 = true) ∧ (usage = true) ∧ (keyKind) ∧ (r = 64) ∧ (a.testBit 17 = true)))))))) ∧
    (∃ s : State, ∃ m : Master, ∃ v : Word, ∃ r : Nat, ∃ w : List Nat, (let d := descOf w; (let a := s.slotAttr d.slot; (let usage := if d.alg ≤ 2 then a.testBit 10 else if d.alg ≤ 4 then a.testBit 11 else if d.alg = 5 then a.testBit 12 else a.testBit 13; (let keyKind := if d.alg ≤ 5 then attrType a ≤ 1 else attrType a = 2; (let bad := Desc.fieldsOk w = false ∨ ∃ x ∈ d.ranges, s.rangeOk r x = false; ∃ iv : Invocation, ((¬bad) ∧ (a.testBit 0 = true) ∧ (usage = true) ∧ (keyKind) ∧ (r ≠ 64) ∧ (a.testBit 16 = true) ∧ (s.inv r = some iv) ∧ ((s.routine iv.ev.routine).keyMask.testBit d.slot = true)))))))) ∧
    (∃ s : State, ∃ m : Master, ∃ v : Word, (let q := s.sec.queue; ∃ c : Fin 64, (c.val ∉ q))) ∧
    (∃ s : State, ∃ m : Master, ∃ v : Word, (let q := s.sec.queue; ∃ c : Fin 64, (c.val ∈ q) ∧ (s.inv c = none))) ∧
    (∃ s : State, ∃ m : Master, ∃ v : Word, (let q := s.sec.queue; ∃ c : Fin 64, (c.val ∈ q) ∧ ∃ iv : Invocation, (s.inv c = some iv))) ∧
    (∃ s : State, ∃ m : Master, ∃ v : Word, (s.sec.owner ≠ some 64)) ∧
    (∃ s : State, ∃ m : Master, ∃ v : Word, (s.sec.owner = some 64) ∧ ((∀ e : SecOp, s.sec.eng = some e → e.req = 64))) ∧
    (∃ s : State, ∃ m : Master, ∃ v : Word, (s.writable m SEC_ENG_CMD) ∧ (s.fldB SEC_ENG_CMD SEC_ENG_CMD_busy = true)) ∧
    (∃ s : State, ∃ m : Master, ∃ v : Word, ((s.writable m SEC_ENG_CMD) ∧ (s.fldB SEC_ENG_CMD SEC_ENG_CMD_busy = false) ∧ (s.sec.owner = some 64))) ∧
    (∃ s : State, ∃ m : Master, ∃ v : Word, ((s.writable m SEC_ENG_CMD) ∧ (s.fldB SEC_ENG_CMD SEC_ENG_CMD_busy = false) ∧ (s.sec.owner ≠ some 64))) ∧
    (∃ s : State, ∃ m : Master, ∃ v : Word, (s.sec.eng = none)) ∧
    (∃ s : State, ∃ m : Master, ∃ v : Word, ∃ e : SecOp, (s.sec.eng = some e) ∧ (let d := descOf e.desc; (let out := opCompute d e.key (s.opBytes e.req d.src d.len) (s.opBytes e.req d.aad d.aadLen) (s.opBytes e.req d.iv (if d.alg = 5 then 16 else 12)) (s.opBytes e.req d.tag d.tagLen); (let res := match e.early with | some r => r | none => if out.isSome then 0 else 8; (e.req = 64) ∧ (res < 16))))) ∧
    (∃ s : State, ∃ m : Master, ∃ v : Word, ∃ e : SecOp, (s.sec.eng = some e) ∧ ∃ c : Fin 64, ∃ iv : Invocation, (e.req = c.val) ∧ (s.inv c = some iv)) ∧
    (∃ s : State, ∃ m : Master, ∃ v : Word, ∃ d : Desc, ∃ key : List Byte, ∃ msg : List Byte, ∃ aad : List Byte, ∃ iv : List Byte, ∃ tag : List Byte, (d.alg = 1)) ∧
    (∃ s : State, ∃ m : Master, ∃ v : Word, ∃ d : Desc, ∃ key : List Byte, ∃ msg : List Byte, ∃ aad : List Byte, ∃ iv : List Byte, ∃ tag : List Byte, (d.alg = 2)) ∧
    (∃ s : State, ∃ m : Master, ∃ v : Word, ∃ d : Desc, ∃ key : List Byte, ∃ msg : List Byte, ∃ aad : List Byte, ∃ iv : List Byte, ∃ tag : List Byte, (d.alg = 3)) ∧
    (∃ s : State, ∃ m : Master, ∃ v : Word, ∃ d : Desc, ∃ key : List Byte, ∃ msg : List Byte, ∃ aad : List Byte, ∃ iv : List Byte, ∃ tag : List Byte, (d.alg = 4)) ∧
    (∃ s : State, ∃ m : Master, ∃ v : Word, ∃ d : Desc, ∃ key : List Byte, ∃ msg : List Byte, ∃ aad : List Byte, ∃ iv : List Byte, ∃ tag : List Byte, (d.alg = 5)) ∧
    (∃ s : State, ∃ m : Master, ∃ v : Word, ∃ d : Desc, ∃ key : List Byte, ∃ msg : List Byte, ∃ aad : List Byte, ∃ iv : List Byte, ∃ tag : List Byte, (d.alg = 6)) ∧
    (∃ s : State, ∃ m : Master, ∃ v : Word, ∃ d : Desc, ∃ key : List Byte, ∃ msg : List Byte, ∃ aad : List Byte, ∃ iv : List Byte, ∃ tag : List Byte, (d.alg = 7)) ∧
    (∃ s : State, ∃ m : Master, ∃ v : Word, (s.writable m SEC_RNG_ACK)) ∧
    (∃ s : State, ∃ m : Master, ∃ v : Word, (s.fldB SEC_RNG_STATUS SEC_RNG_STATUS_failed = false)) ∧
    (∃ s : State, ∃ m : Master, ∃ v : Word, (s.fldB SEC_RNG_STATUS SEC_RNG_STATUS_failed = true)) := by
  exact ⟨⟨on, .warden, 1, by decide +kernel⟩,
    ⟨{ (on) with sec := { (on).sec with owner := some 64, queue := [3] } }, .warden, 3, by decide +kernel⟩,
    ⟨{ (on) with sec := { (on).sec with owner := some 64 } }, .warden, 2, by decide +kernel⟩,
    ⟨on, .warden, 0, by decide +kernel⟩,
    ⟨{ (on) with sec := { (on).sec with queue := [64, 5] } }, .warden, 0, [5], by decide +kernel⟩,
    ⟨{ (kst on 0 ({ kiv 0 0 0 with ciphAt := 0x100000E0, ciphRd := 3, wait := .ciph })) with sec := { (kst on 0 ({ kiv 0 0 0 with ciphAt := 0x100000E0, ciphRd := 3, wait := .ciph })).sec with queue := [63, 5] } }, .warden, 0, 63, [5], by decide +kernel, { kiv 0 0 0 with ciphAt := 0x100000E0, ciphRd := 3, wait := .ciph }, { win := .priv, alia := .plain, off := 224 }, by decide +kernel⟩,
    ⟨{ (kst on 0 ({ kiv 0 0 0 with ciphAt := 0x100000E2, ciphRd := 0, wait := .ciph })) with sec := { (kst on 0 ({ kiv 0 0 0 with ciphAt := 0x100000E2, ciphRd := 0, wait := .ciph })).sec with queue := [63, 5] } }, .warden, 0, 63, [5], by decide +kernel, { kiv 0 0 0 with ciphAt := 0x100000E2, ciphRd := 0, wait := .ciph }, by decide +kernel⟩,
    ⟨{ (kst on 0 ({ kiv 0 0 0 with ciphAt := 0x100000E0, ciphRd := 3, wait := .ciph })) with sec := { (kst on 0 ({ kiv 0 0 0 with ciphAt := 0x100000E0, ciphRd := 3, wait := .ciph })).sec with queue := [62, 5] } }, .warden, 0, 62, [5], by decide +kernel⟩,
    ⟨on, .warden, 0, 64, ([1, 0, 0, 0, 0, 0, 0, 0]), by decide +kernel⟩,
    ⟨on, .warden, 0, 64, ([1 + 16 * 2 ^ 16, 0, 0, 0, 0, 0, 0, 0]), by decide +kernel⟩,
    ⟨((on.wr (SEC_SLOT 0) (1 + 2 ^ 10))), .warden, 0, 64, ([1 + 16 * 2 ^ 16, 0, 0, 0, 0, 0, 0, 0]), by decide +kernel, by decide +kernel, .inr (.inr (.inl (by decide +kernel)))⟩,
    ⟨((on.wr (SEC_SLOT 0) (1 + 2 ^ 10 + 2 ^ 17))), .warden, 0, 64, ([1 + 16 * 2 ^ 16, 0, 0, 0, 0, 0, 0, 0]), by decide +kernel⟩,
    ⟨{ (kst (on.wr (SEC_SLOT 0) (1 + 2 ^ 12 + 2 ^ 16)) 0 ({ kiv 0 0 0 with ciphAt := 0x100000E0, ciphRd := 3, wait := .ciph })) with plc := { (kst (on.wr (SEC_SLOT 0) (1 + 2 ^ 12 + 2 ^ 16)) 0 ({ kiv 0 0 0 with ciphAt := 0x100000E0, ciphRd := 3, wait := .ciph })).plc with prog := { (kst (on.wr (SEC_SLOT 0) (1 + 2 ^ 12 + 2 ^ 16)) 0 ({ kiv 0 0 0 with ciphAt := 0x100000E0, ciphRd := 3, wait := .ciph })).plc.prog with routines := (kst (on.wr (SEC_SLOT 0) (1 + 2 ^ 12 + 2 ^ 16)) 0 ({ kiv 0 0 0 with ciphAt := 0x100000E0, ciphRd := 3, wait := .ciph })).plc.prog.routines.modify 0 (fun r => { r with keyMask := 1 }) } } }, .warden, 0, 63, ([5, 0x10000000, 4, 0x10000010, 0, 0, 0x10000020, 0]), { kiv 0 0 0 with ciphAt := 0x100000E0, ciphRd := 3, wait := .ciph }, by decide +kernel⟩,
    ⟨{ (on) with sec := { (on).sec with queue := [5] } }, .warden, 0, 63, by decide +kernel⟩,
    ⟨{ (kst on 0 ({ kiv 0 0 0 with ciphAt := 0x100000E0, ciphRd := 3, wait := .ciph })) with sec := { (kst on 0 ({ kiv 0 0 0 with ciphAt := 0x100000E0, ciphRd := 3, wait := .ciph })).sec with queue := [5, 62, 64] } }, .warden, 0, 62, by decide +kernel⟩,
    ⟨{ (kst on 0 ({ kiv 0 0 0 with ciphAt := 0x100000E0, ciphRd := 3, wait := .ciph })) with sec := { (kst on 0 ({ kiv 0 0 0 with ciphAt := 0x100000E0, ciphRd := 3, wait := .ciph })).sec with queue := [63, 5] } }, .warden, 0, 63, by decide +kernel, { kiv 0 0 0 with ciphAt := 0x100000E0, ciphRd := 3, wait := .ciph }, by decide +kernel⟩,
    ⟨on, .warden, 0, by decide +kernel⟩,
    ⟨{ (on) with sec := { (on).sec with owner := some 64, queue := [3], eng := some { req := 64, desc := [1 + 16 * 2 ^ 16, 0, 0, 0, 0, 0, 0, 0], slot := 0, key := List.replicate 16 1 } } }, .warden, 0, by decide +kernel⟩,
    ⟨((on).setFld (SEC_ENG_CMD) SEC_ENG_CMD_busy (1)), .warden, 1, by decide +kernel⟩,
    ⟨{ (on) with sec := { (on).sec with owner := some 64 } }, .warden, 1, by decide +kernel⟩,
    ⟨on, .warden, 1, by decide +kernel⟩,
    ⟨on, .warden, 0, by decide +kernel⟩,
    ⟨{ ((on.wr SEC_ENG_CMD 0xFF)) with sec := { ((on.wr SEC_ENG_CMD 0xFF)).sec with owner := some 64, eng := some { req := 64, desc := [1 + 0 * 16 + 16 * 2 ^ 16, 0, 0, 0, 0, 0, 0, 0], slot := 0, key := List.replicate 16 1 } } }, .warden, 0, { req := 64, desc := [1 + 0 * 16 + 16 * 2 ^ 16, 0, 0, 0, 0, 0, 0, 0], slot := 0, key := List.replicate 16 1 }, by decide +kernel⟩,
    ⟨{ (kst on 0 ({ kiv 0 0 0 with ciphAt := 0x100000E0, ciphRd := 3, wait := .ciph })) with sec := { (kst on 0 ({ kiv 0 0 0 with ciphAt := 0x100000E0, ciphRd := 3, wait := .ciph })).sec with owner := some 63, eng := some { req := 63, desc := [1 + 0 * 16 + 16 * 2 ^ 16, 0x10000000, 4, 0, 0, 0, 0, 0x10000020], slot := 0, key := List.replicate 16 1 } } }, .warden, 0, { req := 63, desc := [1 + 0 * 16 + 16 * 2 ^ 16, 0x10000000, 4, 0, 0, 0, 0, 0x10000020], slot := 0, key := List.replicate 16 1 }, by decide +kernel, 63, { kiv 0 0 0 with ciphAt := 0x100000E0, ciphRd := 3, wait := .ciph }, by decide +kernel⟩,
    ⟨on, .warden, 0, ((descOf [1, 0, 0, 0, 0, 0, 0, 0])), (List.replicate 16 1), [], [], [], [], by decide +kernel⟩,
    ⟨on, .warden, 0, ((descOf [2, 0, 0, 0, 0, 0, 0, 0])), (List.replicate 16 1), [], [], [], [], by decide +kernel⟩,
    ⟨on, .warden, 0, ((descOf [3, 0, 0, 0, 0, 0, 0, 0])), (List.replicate 16 1), [], [], [], [], by decide +kernel⟩,
    ⟨on, .warden, 0, ((descOf [4, 0, 0, 0, 0, 0, 0, 0])), (List.replicate 16 1), [], [], [], [], by decide +kernel⟩,
    ⟨on, .warden, 0, ((descOf [5, 0, 0, 0, 0, 0, 0, 0])), (List.replicate 16 1), [], [], [], [], by decide +kernel⟩,
    ⟨on, .warden, 0, ((descOf [6, 0, 0, 0, 0, 0, 0, 0])), (List.replicate 16 1), [], [], [], [], by decide +kernel⟩,
    ⟨on, .warden, 0, ((descOf [7, 0, 0, 0, 0, 0, 0, 0])), (List.replicate 16 1), [], [], [], [], by decide +kernel⟩,
    ⟨{ (on) with sec := { (on).sec with rng := [1, 2] } }, .warden, 1, by decide +kernel⟩,
    ⟨on, .warden, 0, by decide +kernel⟩,
    ⟨((on).setFld (SEC_RNG_STATUS) SEC_RNG_STATUS_failed (1)), .warden, 0, by decide +kernel⟩⟩

theorem witness_KeyOperations :
    (∃ s : State, ∃ c, c ∈ ([(1, Instr.unwrap), (2, .wrap), (3, .derive), (4, .generate), (5, .erase)] : List (Nat × Instr)) ∧ ((∀ k : KopOp, s.sec.kop = some k → k.op ≠ c.1))) ∧
    (∃ s : State, ∃ c, c ∈ ([(1, Instr.unwrap), (2, .wrap), (3, .derive), (4, .generate), (5, .erase)] : List (Nat × Instr)) ∧ ∃ k : KopOp, ((s.sec.kop = some k) ∧ (k.op = c.1) ∧ (k.erased = true))) ∧
    (∃ s : State, ∃ k : KopOp, ((s.sec.kop = some k) ∧ (k.erased = false) ∧ (k.op = 1) ∧ (k.dst < 64))) ∧
    (∃ s : State, ∃ k : KopOp, ((s.sec.kop = some k) ∧ (k.erased = false) ∧ (k.op = 2))) ∧
    (∃ s : State, ∃ k : KopOp, ((s.sec.kop = some k) ∧ (k.erased = false) ∧ (k.op = 3) ∧ (k.dst < 64))) ∧
    (∃ s : State, ∃ k : KopOp, ((s.sec.kop = some k) ∧ (k.erased = false) ∧ (k.op = 4) ∧ (k.dst < 64))) ∧
    (∃ s : State, ∃ k : KopOp, ((s.sec.kop = some k) ∧ (k.erased = false) ∧ (k.op = 5) ∧ (k.dst < 64)) ∧ (let named := fun p : Nat => (List.range 36).any (fun x => let w := (s.rd (0x20080200 + 0x1000 * p + 32 * x)).toNat; w.testBit 0 && bits 6 1 w == k.dst); (let quiet := s.sec.eng = none ∧ s.sw.xfers = [] ∧ ∀ p < 20, (s.port p).rx = none; (quiet) ∧ ((∀ p < 20, named p = false))))) ∧
    (∃ s : State, ∃ k : KopOp, ((s.sec.kop = some k) ∧ (k.erased = false) ∧ (k.op = 5) ∧ (k.dst < 64)) ∧ (let named := fun p : Nat => (List.range 36).any (fun x => let w := (s.rd (0x20080200 + 0x1000 * p + 32 * x)).toNat; w.testBit 0 && bits 6 1 w == k.dst); (let quiet := s.sec.eng = none ∧ s.sw.xfers = [] ∧ ∀ p < 20, (s.port p).rx = none; ∃ p : Fin 20, ((quiet) ∧ (named p = true) ∧ ((∀ x < 20, x ≠ p.val → named x = false)))))) ∧
    (∃ s : State, ∃ m : Master, ∃ v : Word, (s.writable m SEC_SHA_CMD)) ∧
    (∃ s : State, ∃ m : Master, ∃ v : Word, (s.writable m SEC_SHA_CMD)) ∧
    (∃ s : State, ∃ m : Master, ∃ v : Word, (s.writable m SEC_SHA_CMD)) ∧
    (∃ s : State, ((∀ a : Nat, s.sec.pka ≠ some (1, a)))) ∧
    (∃ s : State, ((∀ a : Nat, s.sec.pka ≠ some (2, a)))) ∧
    (∃ s : State, ∃ a : Nat, (s.sec.pka = some (1, a))) ∧
    (∃ s : State, ∃ a : Nat, (s.sec.pka = some (2, a))) := by
  exact ⟨⟨{ (on) with sec := { (on).sec with kop := some { op := 1, dst := 63, src := 64, kek := 64, attr := 0x20, data := List.replicate 32 0, srcKey := List.replicate 16 1, srcAttr := 0x21, kekKey := List.replicate 16 2 } } }, ((2, .wrap)), by decide +kernel⟩,
    ⟨{ ((on.wr SEC_KOP_CMD 0xFFFFFFFF)) with sec := { ((on.wr SEC_KOP_CMD 0xFFFFFFFF)).sec with kop := some { op := 2, dst := 63, src := 64, kek := 64, attr := 0x20, data := List.replicate 32 0, srcKey := List.replicate 16 1, srcAttr := 0x21, kekKey := List.replicate 16 2, erased := true } } }, ((2, .wrap)), by decide +kernel, { op := 2, dst := 63, src := 64, kek := 64, attr := 0x20, data := List.replicate 32 0, srcKey := List.replicate 16 1, srcAttr := 0x21, kekKey := List.replicate 16 2, erased := true }, by decide +kernel⟩,
    ⟨{ ((on.wr SEC_KOP_CMD 0xFFFFFFFF)) with sec := { ((on.wr SEC_KOP_CMD 0xFFFFFFFF)).sec with kop := some { op := 1, dst := 63, src := 64, kek := 64, attr := 0x20, data := List.replicate 32 0, srcKey := List.replicate 16 1, srcAttr := 0x21, kekKey := List.replicate 16 2 } } }, { op := 1, dst := 63, src := 64, kek := 64, attr := 0x20, data := List.replicate 32 0, srcKey := List.replicate 16 1, srcAttr := 0x21, kekKey := List.replicate 16 2 }, by decide +kernel⟩,
    ⟨{ ((on.wr SEC_KOP_CMD 0xFFFFFFFF)) with sec := { ((on.wr SEC_KOP_CMD 0xFFFFFFFF)).sec with kop := some { op := 2, dst := 63, src := 64, kek := 64, attr := 0x20, data := List.replicate 32 0, srcKey := List.replicate 16 1, srcAttr := 0x21, kekKey := List.replicate 16 2 } } }, { op := 2, dst := 63, src := 64, kek := 64, attr := 0x20, data := List.replicate 32 0, srcKey := List.replicate 16 1, srcAttr := 0x21, kekKey := List.replicate 16 2 }, by decide +kernel⟩,
    ⟨{ ((on.wr SEC_KOP_CMD 0xFFFFFFFF)) with sec := { ((on.wr SEC_KOP_CMD 0xFFFFFFFF)).sec with kop := some { op := 3, dst := 63, src := 64, kek := 64, attr := 0x20, data := List.replicate 32 0, srcKey := List.replicate 16 1, srcAttr := 0x21, kekKey := List.replicate 16 2 } } }, { op := 3, dst := 63, src := 64, kek := 64, attr := 0x20, data := List.replicate 32 0, srcKey := List.replicate 16 1, srcAttr := 0x21, kekKey := List.replicate 16 2 }, by decide +kernel⟩,
    ⟨{ ((on.wr SEC_KOP_CMD 0xFFFFFFFF)) with sec := { ((on.wr SEC_KOP_CMD 0xFFFFFFFF)).sec with kop := some { op := 4, dst := 63, src := 64, kek := 64, attr := 0x20, data := List.replicate 32 0, srcKey := List.replicate 16 1, srcAttr := 0x21, kekKey := List.replicate 16 2 } } }, { op := 4, dst := 63, src := 64, kek := 64, attr := 0x20, data := List.replicate 32 0, srcKey := List.replicate 16 1, srcAttr := 0x21, kekKey := List.replicate 16 2 }, by decide +kernel⟩,
    ⟨{ ((on.wr SEC_KOP_CMD 0xFFFFFFFF)) with sec := { ((on.wr SEC_KOP_CMD 0xFFFFFFFF)).sec with kop := some { op := 5, dst := 63, src := 64, kek := 64, attr := 0x20, data := List.replicate 32 0, srcKey := List.replicate 16 1, srcAttr := 0x21, kekKey := List.replicate 16 2 } } }, { op := 5, dst := 63, src := 64, kek := 64, attr := 0x20, data := List.replicate 32 0, srcKey := List.replicate 16 1, srcAttr := 0x21, kekKey := List.replicate 16 2 }, by decide +kernel⟩,
    ⟨{ ((on.wr (0x20080200 + 0x1000 * 19 + 32 * 35) (1 + 63 * 2))) with sec := { ((on.wr (0x20080200 + 0x1000 * 19 + 32 * 35) (1 + 63 * 2))).sec with kop := some { op := 5, dst := 63, src := 64, kek := 64, attr := 0x20, data := List.replicate 32 0, srcKey := List.replicate 16 1, srcAttr := 0x21, kekKey := List.replicate 16 2 }, keys := [(63, [1])] } }, { op := 5, dst := 63, src := 64, kek := 64, attr := 0x20, data := List.replicate 32 0, srcKey := List.replicate 16 1, srcAttr := 0x21, kekKey := List.replicate 16 2 }, by decide +kernel, 19, by decide +kernel⟩,
    ⟨((on.wr SEC_SHA_SRC 0x01000000).wr SEC_SHA_LEN 64), .warden, 7, by decide +kernel⟩,
    ⟨((on.wr SEC_SHA_SRC 0x01000000).wr SEC_SHA_LEN 64), .warden, 7, by decide +kernel⟩,
    ⟨((on.wr SEC_SHA_SRC 0x01000000).wr SEC_SHA_LEN 64), .warden, 7, by decide +kernel⟩,
    ⟨on, fun a h => by have h1 : (none : Option Nat) = some 1 := congrArg (fun x : Option (Nat × Nat) => x.map Prod.fst) h; exact absurd h1 (by decide)⟩,
    ⟨{ on with sec := { on.sec with pka := some (1, 5) } }, fun a h => by have h1 : (some 1 : Option Nat) = some 2 := congrArg (fun x : Option (Nat × Nat) => x.map Prod.fst) h; exact absurd h1 (by decide)⟩,
    ⟨{ (on.wr SEC_PKA_CMD 0xFFFFFFFF) with sec := { on.sec with pka := some (1, 0x01000000) } }, 0x01000000, by decide +kernel⟩,
    ⟨{ (on.wr SEC_PKA_CMD 0xFFFFFFFF) with sec := { on.sec with pka := some (2, 0x01000000) } }, 0x01000000, by decide +kernel⟩⟩

theorem witness_CommandRing :
    (∃ s : State, ∃ m : Master, ∃ v : Word, (s.writable m SYS_CMD_PROD) ∧ (ringMaster m = true) ∧ (let n := v.toNat % 256; (ahead n s.ringAck ≤ 8) ∧ (ahead s.ringProd s.ringAck ≤ ahead n s.ringAck))) ∧
    (∃ s : State, ∃ m : Master, ∃ v : Word, (s.writable m SYS_CMD_PROD) ∧ (ringMaster m = true) ∧ (let n := v.toNat % 256; (8 < ahead n s.ringAck ∨ ahead n s.ringAck < ahead s.ringProd s.ringAck))) ∧
    (∃ s : State, ∃ m : Master, ∃ v : Word, (s.writable m SYS_CMD_ACK) ∧ (ringMaster m = true) ∧ (let n := v.toNat % 256; (ahead n s.ringAck ≤ ahead s.ringDone s.ringAck))) ∧
    (∃ s : State, ∃ m : Master, ∃ v : Word, (s.writable m SYS_CMD_ACK) ∧ (ringMaster m = true) ∧ (let n := v.toNat % 256; (ahead s.ringDone s.ringAck < ahead n s.ringAck))) ∧
    (∃ s : State, (s.serving = false ∨ s.wrd.inProgress = true ∨ s.wrd.arrivals = [])) ∧
    (∃ s : State, ∃ a : Arrival, ∃ rest : List Arrival, (s.wrd.arrivals = a :: rest) ∧ (let code := s.cmdCode; (let hold := s.dev.recovery = true ∧ ¬(a.fromHost = true ∧ (code = 0x0401 ∨ code = 0x0402 ∨ code = 0x0003)); (hold)))) ∧
    (∃ s : State, ∃ a : Arrival, ∃ rest : List Arrival, (s.wrd.arrivals = a :: rest) ∧ (let code := s.cmdCode; (let hold := s.dev.recovery = true ∧ ¬(a.fromHost = true ∧ (code = 0x0401 ∨ code = 0x0402 ∨ code = 0x0003)); (¬hold) ∧ (code ∉ commandCodes)))) ∧
    (∃ s : State, ∃ a : Arrival, ∃ rest : List Arrival, (s.wrd.arrivals = a :: rest) ∧ (let code := s.cmdCode; (let hold := s.dev.recovery = true ∧ ¬(a.fromHost = true ∧ (code = 0x0401 ∨ code = 0x0402 ∨ code = 0x0003)); (let barred := a.fromFabric = true ∧ (code = 0x0404 ∨ code = 0x0405 ∨ code = 0x0501); ((¬hold) ∧ (code ∈ commandCodes) ∧ (barred)))))) ∧
    (∃ s : State, ∃ a : Arrival, ∃ rest : List Arrival, (s.wrd.arrivals = a :: rest) ∧ (let code := s.cmdCode; (let hold := s.dev.recovery = true ∧ ¬(a.fromHost = true ∧ (code = 0x0401 ∨ code = 0x0402 ∨ code = 0x0003)); (let barred := a.fromFabric = true ∧ (code = 0x0404 ∨ code = 0x0405 ∨ code = 0x0501); ((¬hold) ∧ (code ∈ commandCodes) ∧ (¬barred) ∧ (4096 < s.cmdLen)))))) ∧
    (∃ s : State, ∃ a : Arrival, ∃ rest : List Arrival, (s.wrd.arrivals = a :: rest) ∧ (let code := s.cmdCode; (let hold := s.dev.recovery = true ∧ ¬(a.fromHost = true ∧ (code = 0x0401 ∨ code = 0x0402 ∨ code = 0x0003)); (let barred := a.fromFabric = true ∧ (code = 0x0404 ∨ code = 0x0405 ∨ code = 0x0501); ((¬hold) ∧ (code ∈ commandCodes) ∧ (¬barred) ∧ (s.cmdLen ≤ 4096)))))) ∧
    (∃ s : State, ∃ i : Nat, ∃ h : Bool, ∃ d : Bool, ∃ rest : List Arrival, ∃ r : Nat, ((s.wrd.arrivals = .ring i h d :: rest) ∧ (s.serving = true) ∧ (s.wrd.inProgress = false) ∧ (s.intake (.ring i h d) = some r))) ∧
    (∃ s : State, ∃ i : Nat, ∃ h : Bool, ∃ d : Bool, ∃ rest : List Arrival, ∃ res : Nat, ∃ vals : List Nat, ∃ out : List Byte, ((s.wrd.arrivals = .ring i h d :: rest) ∧ (res < 256) ∧ (out.length ≤ 4096))) ∧
    (∃ s : State, (s.taken 0x0001 = true)) ∧
    (∃ s : State, (s.taken 0x0002 = true)) ∧
    (∃ s : State, ∃ c, c ∈ ([(0x0001, .nopCommand), (0x0002, .readIdentity), (0x0003, .reset), (0x0004, .sleep), (0x0101, .switchProfile), (0x0102, .setStartOptions), (0x0103, .setPolders), (0x0201, .admitStream), (0x0202, .removeStream), (0x0203, .addTrieEntry), (0x0204, .removeTrieEntry), (0x0205, .addMacEntry), (0x0206, .removeMacEntry), (0x0207, .flushMacTable), (0x0301, .resumeRoutine), (0x0302, .setKeeperPolders), (0x0401, .writeImageChunk), (0x0402, .installImage), (0x0403, .loadBundle), (0x0404, .programCustomerRoot), (0x0405, .revokeCustomerRoot), (0x0406, .attest), (0x0407, .scrubMram), (0x0501, .setRemoteAccess)] : List (Nat × Instr)) ∧ (s.taken c.1 = false)) := by
  exact ⟨⟨on, .pcie, 8, by decide +kernel⟩,
    ⟨on, .debug, 9, by decide +kernel⟩,
    ⟨(on.setFld SYS_CMD_DONE SYS_CMD_DONE_done 1), .pcie, 1, by decide +kernel⟩,
    ⟨on, .pcie, 1, by decide +kernel⟩,
    ⟨on, by decide +kernel⟩,
    ⟨(rst ({ on with dev := { on.dev with recovery := true } }) [1, 0] []), (.ring 0 true false), [], by decide +kernel⟩,
    ⟨(rst on [5, 0] []), (.ring 0 true false), [], by decide +kernel⟩,
    ⟨(cst on [0x501] []), (.fabric 3 5 [0x501] [] false), [], by decide +kernel⟩,
    ⟨(rst on [0x501, 4097] []), (.ring 0 true false), [], by decide +kernel⟩,
    ⟨(rst on [0x501, 4096] []), (.ring 0 true false), [], by decide +kernel⟩,
    ⟨(rst on [5, 0] []), 0, true, false, [], 2, by decide +kernel⟩,
    ⟨(rst on [0x401, 0] []), 0, true, false, [], 7, ([1, 2, 3, 4, 5, 6]), ([1, 2, 3, 4, 5, 6, 7]), by decide +kernel⟩,
    ⟨(rst on [1, 0] []), by decide +kernel⟩,
    ⟨(cst on [2, 0] []), by decide +kernel⟩,
    ⟨on, ((0x0001, .nopCommand)), by decide +kernel⟩⟩

theorem witness_RingWriters :
    (∃ s : State, ∃ m : Master, ((s.running = true) ∧ (m ≠ .pcie) ∧ (m ≠ .debug))) ∧
    (∃ s : State, ∃ m : Master, ((s.running = true) ∧ (m ≠ .pcie) ∧ (m ≠ .debug))) ∧
    (∃ s : State, ∃ m : Master, ((s.running = true) ∧ (m ≠ .pcie) ∧ (m ≠ .debug)) ∧ ∃ a : BitVec 40, ∃ wide : Bool, ∃ v : DWord, ((0x20001000 ≤ a.toNat ∧ a.toNat < 0x20001400) ∨ (0x20008000 ≤ a.toNat ∧ a.toNat < 0x20010000)) ∧ (a.toNat % (if wide then 8 else 4) = 0)) ∧
    (∃ s : State, ∃ m : Master, (s.running = true) ∧ (m = .pcie ∨ m = .debug) ∧ ∃ v : Word, (ahead (v.toNat % 256) s.ringAck ≤ 8) ∧ (ahead s.ringProd s.ringAck ≤ ahead (v.toNat % 256) s.ringAck)) ∧
    (∃ s : State, ∃ m : Master, (s.running = true) ∧ (m = .pcie ∨ m = .debug) ∧ ∃ v : Word, (ahead (v.toNat % 256) s.ringAck ≤ ahead s.ringDone s.ringAck)) ∧
    (∃ s : State, ∃ m : Master, (s.running = true) ∧ (m = .pcie ∨ m = .debug) ∧ ∃ k : Fin 8, ∃ w : Fin 16, ∃ v : DWord, (s.slotTaken k = false)) ∧
    (∃ s : State, ∃ m : Master, (s.running = true) ∧ (m = .pcie ∨ m = .debug) ∧ ∃ k : Fin 8, ∃ w : Fin 1024, ∃ v : DWord, (s.slotTaken k = false)) := by
  exact ⟨⟨on, .warden, by decide +kernel⟩,
    ⟨on, .warden, by decide +kernel⟩,
    ⟨on, .warden, by decide +kernel, 0x2000FFF8, true, 5, by decide +kernel⟩,
    ⟨on, .debug, by decide +kernel, by decide +kernel, 8, by decide +kernel⟩,
    ⟨on, .pcie, by decide +kernel, by decide +kernel, 0, by decide +kernel⟩,
    ⟨on, .pcie, by decide +kernel, by decide +kernel, 7, 15, 9, by decide +kernel⟩,
    ⟨on, .debug, by decide +kernel, by decide +kernel, 7, 1023, 9, by decide +kernel⟩⟩

theorem witness_DeviceCommands :
    (∃ s : State, (s.taken 0x0003 = true)) ∧
    (∃ s : State, (s.taken 0x0004 = true) ∧ (let late := s.copying = true ∨ s.wrd.arrivals.head?.any Arrival.late = true; (late))) ∧
    (∃ s : State, (s.taken 0x0004 = true) ∧ (let late := s.copying = true ∨ s.wrd.arrivals.head?.any Arrival.late = true; (¬late) ∧ (s.bank.open_.isSome = true))) ∧
    (∃ s : State, (s.taken 0x0004 = true) ∧ (let late := s.copying = true ∨ s.wrd.arrivals.head?.any Arrival.late = true; ((¬late) ∧ (s.dikeReady) ∧ (s.sleepDeclined = true)))) ∧
    (∃ s : State, (s.taken 0x0004 = true) ∧ (let late := s.copying = true ∨ s.wrd.arrivals.head?.any Arrival.late = true; ((¬late) ∧ (s.dikeReady) ∧ (s.sleepDeclined = false)))) ∧
    (∃ s : State, (s.taken 0x0101 = true) ∧ (let ready := s.updating = false ∧ 2 ≤ s.phase ∧ s.wrd.switching = none; (¬ready))) ∧
    (∃ s : State, (s.taken 0x0101 = true) ∧ (let p := s.arg 2 % 4; (let running := s.wrd.run.isSome ∨ s.wrd.cold.isSome; (let ready := s.updating = false ∧ 2 ≤ s.phase ∧ s.wrd.switching = none; ((ready) ∧ (running) ∧ (s.activeProfile = p)))))) ∧
    (∃ s : State, (s.taken 0x0101 = true) ∧ (let p := s.arg 2 % 4; (let running := s.wrd.run.isSome ∨ s.wrd.cold.isSome; (let ready := s.updating = false ∧ 2 ≤ s.phase ∧ s.wrd.switching = none; ((ready) ∧ (¬(running ∧ s.activeProfile = p)) ∧ (s.slotHolds p = false)))))) ∧
    (∃ s : State, (s.taken 0x0101 = true) ∧ (let p := s.arg 2 % 4; (let running := s.wrd.run.isSome ∨ s.wrd.cold.isSome; (let ready := s.updating = false ∧ 2 ≤ s.phase ∧ s.wrd.switching = none; ((ready) ∧ (¬(running ∧ s.activeProfile = p)) ∧ (s.slotHolds p = true)))))) ∧
    (∃ s : State, (s.wrd.switching = none)) ∧
    (∃ s : State, ∃ x : Switching, (s.wrd.switching = some x)) ∧
    (∃ s : State, (s.wrd.switching = none)) ∧
    (∃ s : State, ∃ x : Switching, ((s.wrd.switching = some x) ∧ (x.written = false) ∧ (s.tide.toNat < x.instant))) ∧
    (∃ s : State, ∃ x : Switching, (s.wrd.switching = some x) ∧ (let pendings := fun u : State => x.ports.all (fun p => (u.tideOf p).pending.isNone); (let w := s.applySettings s.runSettings (s.newSettings x.bundle) x.ports; (let u : State := { w with wrd := { w.wrd with switching := some { x with written := true } } }; ((x.written = false) ∧ (x.instant ≤ s.tide.toNat) ∧ (pendings u = false)))))) ∧
    (∃ s : State, ∃ x : Switching, (s.wrd.switching = some x) ∧ (let pendings := fun u : State => x.ports.all (fun p => (u.tideOf p).pending.isNone); (let w := s.applySettings s.runSettings (s.newSettings x.bundle) x.ports; (let u : State := { w with wrd := { w.wrd with switching := some { x with written := true } } }; ((x.written = false) ∧ (x.instant ≤ s.tide.toNat) ∧ (pendings u = true) ∧ (x.start = none) ∧ (x.fault = none) ∧ (x.slot < 4)))))) ∧
    (∃ s : State, ∃ x : Switching, (s.wrd.switching = some x) ∧ (let pendings := fun u : State => x.ports.all (fun p => (u.tideOf p).pending.isNone); (let w := s.applySettings s.runSettings (s.newSettings x.bundle) x.ports; (let u : State := { w with wrd := { w.wrd with switching := some { x with written := true } } }; ((x.written = false) ∧ (x.instant ≤ s.tide.toNat) ∧ (pendings u = true) ∧ (x.start.isSome = true)))))) ∧
    (∃ s : State, ∃ x : Switching, (s.wrd.switching = some x) ∧ (let pendings := fun u : State => x.ports.all (fun p => (u.tideOf p).pending.isNone); (x.written = true) ∧ (pendings s = false))) ∧
    (∃ s : State, ∃ x : Switching, (s.wrd.switching = some x) ∧ (let pendings := fun u : State => x.ports.all (fun p => (u.tideOf p).pending.isNone); ((x.written = true) ∧ (pendings s = true) ∧ (x.start = none) ∧ (x.fault = none) ∧ (x.slot < 4)))) ∧
    (∃ s : State, ∃ x : Switching, (s.wrd.switching = some x) ∧ (let pendings := fun u : State => x.ports.all (fun p => (u.tideOf p).pending.isNone); ((x.written = true) ∧ (pendings s = true) ∧ (x.start.isSome = true)))) ∧
    (∃ s : State, (s.taken 0x0102 = true) ∧ (s.arg 2 % 8 ≤ 4)) ∧
    (∃ s : State, (s.taken 0x0102 = true) ∧ (4 < s.arg 2 % 8)) ∧
    (∃ s : State, (s.taken 0x0103 = true) ∧ (let on := s.arg 2 % 4096; (let off := s.arg 3 % 4096; (let mayOff := fun n : Nat => (s.fld SYS_POLDER SYS_POLDER_permit_off).testBit n = true ∧ (n = 2 → ∀ p < 8, s.fld (ETH_PHY_CFG p) ETH_PHY_CFG_en = 0) ∧ (n = 3 → ∀ p < 20, s.fld (ETH_PHY_CFG (p + 8)) ETH_PHY_CFG_en = 0) ∧ (n = 8 → (∀ p < 8, s.portEn p = false) ∧ ∀ b < 4, s.spillIn b = 0); (let bad := ∃ n < 12, (on.testBit n = true ∧ (n ∉ [2, 3, 8] ∨ off.testBit n = true)) ∨ (off.testBit n = true ∧ (n ∉ [2, 3, 8] ∨ ¬mayOff n)); (bad)))))) ∧
    (∃ s : State, (s.taken 0x0103 = true) ∧ (let on := s.arg 2 % 4096; (let off := s.arg 3 % 4096; (let mayOff := fun n : Nat => (s.fld SYS_POLDER SYS_POLDER_permit_off).testBit n = true ∧ (n = 2 → ∀ p < 8, s.fld (ETH_PHY_CFG p) ETH_PHY_CFG_en = 0) ∧ (n = 3 → ∀ p < 20, s.fld (ETH_PHY_CFG (p + 8)) ETH_PHY_CFG_en = 0) ∧ (n = 8 → (∀ p < 8, s.portEn p = false) ∧ ∀ b < 4, s.spillIn b = 0); (let bad := ∃ n < 12, (on.testBit n = true ∧ (n ∉ [2, 3, 8] ∨ off.testBit n = true)) ∨ (off.testBit n = true ∧ (n ∉ [2, 3, 8] ∨ ¬mayOff n)); (¬bad)))))) ∧
    (∃ s : State, (s.taken 0x0302 = true) ∧ (let free := s.plc.batch = [] ∧ s.plc.trigger = [] ∧ s.wrd.switching = none; (¬free))) ∧
    (∃ s : State, (s.taken 0x0302 = true) ∧ (let free := s.plc.batch = [] ∧ s.plc.trigger = [] ∧ s.wrd.switching = none; (free) ∧ (s.dev.state ≠ .full))) ∧
    (∃ s : State, (s.taken 0x0302 = true) ∧ (let free := s.plc.batch = [] ∧ s.plc.trigger = [] ∧ s.wrd.switching = none; (let gate := s.loadGate .placement (s.poldersCommit false); ((free) ∧ (s.dev.state = .full) ∧ (gate = .wait))))) ∧
    (∃ s : State, (s.taken 0x0302 = true) ∧ (let free := s.plc.batch = [] ∧ s.plc.trigger = [] ∧ s.wrd.switching = none; ((free) ∧ (s.dev.state = .full) ∧ (s.hlt.asked = none)))) ∧
    (∃ s : State, (s.taken 0x0302 = true) ∧ (let free := s.plc.batch = [] ∧ s.plc.trigger = [] ∧ s.wrd.switching = none; (let gate := s.loadGate .placement (s.poldersCommit false); ((free) ∧ (s.dev.state = .full) ∧ (gate = .go))))) ∧
    (∃ s : State, (s.taken 0x0302 = true) ∧ (let free := s.plc.batch = [] ∧ s.plc.trigger = [] ∧ s.wrd.switching = none; (let gate := s.loadGate .placement (s.poldersCommit false); ((free) ∧ (s.dev.state = .full) ∧ (gate = .refused))))) ∧
    (∃ s : State, (s.taken 0x0301 = true) ∧ (let r := s.arg 2 % 1024; ((s.rt r).suspended = false))) ∧
    (∃ s : State, (s.taken 0x0301 = true) ∧ (let r := s.arg 2 % 1024; ((s.rt r).suspended = true))) ∧
    (∃ s : State, (s.taken 0x0501 = true)) := by
  exact ⟨⟨((cst (on) [3, 0] ([]))), by decide +kernel⟩,
    ⟨{ (cst (on) [4, 0] ([])) with mram := { on.mram with journal0 := { rec_ := { state := 2 }, good := true } } }, by decide +kernel⟩,
    ⟨((cst ({ on with bank := { on.bank with open_ := some { master := none, frame := 0, tries := 0 } } }) [4, 0] ([]))), by decide +kernel⟩,
    ⟨((cst (({ on with bank := { on.bank with lastSeq := some 15 } }).setFld (BNK_WAKE_STATUS) BNK_WAKE_STATUS_edge (1)) [4, 0] ([]))), by decide +kernel⟩,
    ⟨((cst ({ on with bank := { on.bank with lastSeq := some 15 } }) [4, 0] ([]))), by decide +kernel⟩,
    ⟨{ ((cst (on) [0x101, 0, 3] ([]))) with wrd := { ((cst (on) [0x101, 0, 3] ([]))).wrd with switching := some { slot := 3, bundle := {}, command := true, instant := 5, ports := [] } } }, by decide +kernel⟩,
    ⟨{ ((cst (on) [0x101, 0, 0] ([]))) with wrd := { ((cst (on) [0x101, 0, 0] ([]))).wrd with cold := some {} } }, by decide +kernel⟩,
    ⟨((cst (on) [0x101, 0, 3] ([]))), by decide +kernel⟩,
    ⟨((cst (on.mwr (mramBase + profileBase 3) 4 0x4A519640) [0x101, 0, 3] ([]))), by decide +kernel⟩,
    ⟨on, by decide +kernel⟩,
    ⟨{ (cst (on) [0x101, 0, 3] ([])) with tide := 5, wrd := { ((cst (on) [0x101, 0, 3] ([]))).wrd with switching := some { slot := 3, bundle := {}, command := true, instant := 5, ports := [27], written := true }, inProgress := true }, dev := { on.dev with state := .full } }, { slot := 3, bundle := {}, command := true, instant := 5, ports := [27], written := true }, by decide +kernel⟩,
    ⟨on, by decide +kernel⟩,
    ⟨{ (on) with tide := 4, wrd := { (on).wrd with switching := some { slot := 3, bundle := {}, command := true, instant := 5, ports := [] } } }, { slot := 3, bundle := {}, command := true, instant := 5, ports := [] }, by decide +kernel⟩,
    ⟨{ ({ on with tm := { on.tm with scheds := [(27, { oper := some { list := 0, len := 1, cycle := 1000, base := 0 }, pending := some { sched := { list := 1, len := 1, cycle := 1000, base := 0 }, at_ := 6000 } })] } }) with tide := 5, wrd := { ({ on with tm := { on.tm with scheds := [(27, { oper := some { list := 0, len := 1, cycle := 1000, base := 0 }, pending := some { sched := { list := 1, len := 1, cycle := 1000, base := 0 }, at_ := 6000 } })] } }).wrd with switching := some { slot := 3, bundle := { set := { settings := [.reg (TMG_TT_CTL 27) 1, .reg (TMG_TT_LEN 27) 1, .reg (TMG_TT_CYCLE 27) 1000] } }, command := true, instant := 5, ports := [27] } } }, { slot := 3, bundle := { set := { settings := [.reg (TMG_TT_CTL 27) 1, .reg (TMG_TT_LEN 27) 1, .reg (TMG_TT_CYCLE 27) 1000] } }, command := true, instant := 5, ports := [27] }, by decide +kernel⟩,
    ⟨{ ((({ on with dev := { on.dev with state := .full }, wrd := { on.wrd with run := some bundle } }).setFld SYS_BOOT_STATUS SYS_BOOT_STATUS_phase 3)) with tide := 5, wrd := { ((({ on with dev := { on.dev with state := .full }, wrd := { on.wrd with run := some bundle } }).setFld SYS_BOOT_STATUS SYS_BOOT_STATUS_phase 3)).wrd with switching := some { slot := 3, bundle := {}, command := true, instant := 5, ports := [] } } }, { slot := 3, bundle := {}, command := true, instant := 5, ports := [] }, by decide +kernel⟩,
    ⟨{ ((cst (on) [0x101, 0, 3] ([]))) with tide := 5, wrd := { ((cst (on) [0x101, 0, 3] ([]))).wrd with switching := some { slot := 3, bundle := {}, command := true, instant := 5, ports := [27], start := some ([], false) }, inProgress := true }, dev := { on.dev with state := .cold } }, { slot := 3, bundle := {}, command := true, instant := 5, ports := [27], start := some ([], false) }, by decide +kernel⟩,
    ⟨{ ({ on with tm := { on.tm with scheds := [(27, { oper := some { list := 0, len := 1, cycle := 1000, base := 0 }, pending := some { sched := { list := 1, len := 1, cycle := 1000, base := 0 }, at_ := 6000 } })] } }) with tide := 5, wrd := { ({ on with tm := { on.tm with scheds := [(27, { oper := some { list := 0, len := 1, cycle := 1000, base := 0 }, pending := some { sched := { list := 1, len := 1, cycle := 1000, base := 0 }, at_ := 6000 } })] } }).wrd with switching := some { slot := 3, bundle := {}, command := true, instant := 5, ports := [27], written := true } } }, { slot := 3, bundle := {}, command := true, instant := 5, ports := [27], written := true }, by decide +kernel⟩,
    ⟨{ ((cst (on) [0x101, 0, 3] ([]))) with tide := 5, wrd := { ((cst (on) [0x101, 0, 3] ([]))).wrd with switching := some { slot := 3, bundle := {}, command := true, instant := 5, ports := [27], written := true }, inProgress := true }, dev := { on.dev with state := .full } }, { slot := 3, bundle := {}, command := true, instant := 5, ports := [27], written := true }, by decide +kernel⟩,
    ⟨{ ((cst (on) [0x101, 0, 3] ([]))) with tide := 5, wrd := { ((cst (on) [0x101, 0, 3] ([]))).wrd with switching := some { slot := 3, bundle := {}, command := true, instant := 5, ports := [27], written := true, start := some ([], false) }, inProgress := true }, dev := { on.dev with state := .cold } }, { slot := 3, bundle := {}, command := true, instant := 5, ports := [27], written := true, start := some ([], false) }, by decide +kernel⟩,
    ⟨((cst (on) [0x102, 0, 4] ([]))), by decide +kernel⟩,
    ⟨((rst (on) [0x102, 0, 7] ([]))), by decide +kernel⟩,
    ⟨((cst (on) [0x103, 0, 1, 0] ([]))), by decide +kernel⟩,
    ⟨((cst (on) [0x103, 0, 0x10C, 0] ([]))), by decide +kernel⟩,
    ⟨{ (cst (on) [0x302, 0, 3] ([])) with plc := { on.plc with trigger := [.derived] } }, by decide +kernel⟩,
    ⟨((cst (on) [0x302, 0, 3] ([]))), by decide +kernel⟩,
    ⟨{ ({ ((cst (on) [0x302, 0, 3] ([]))) with dev := { ((cst (on) [0x302, 0, 3] ([]))).dev with state := .full } }) with hlt := { ({ ((cst (on) [0x302, 0, 3] ([]))) with dev := { ((cst (on) [0x302, 0, 3] ([]))).dev with state := .full } }).hlt with asked := some .placement, raising := some 5 } }, by decide +kernel⟩,
    ⟨{ ((cst (on) [0x302, 0, 3] ([]))) with dev := { ((cst (on) [0x302, 0, 3] ([]))).dev with state := .full } }, by decide +kernel⟩,
    ⟨{ ({ ((cst (on) [0x302, 0, 3] ([]))) with dev := { ((cst (on) [0x302, 0, 3] ([]))).dev with state := .full } }) with hlt := { ({ ((cst (on) [0x302, 0, 3] ([]))) with dev := { ((cst (on) [0x302, 0, 3] ([]))).dev with state := .full } }).hlt with asked := some .placement } }, by decide +kernel⟩,
    ⟨{ ({ ({ ((cst (on) [0x302, 0, 3] ([]))) with dev := { ((cst (on) [0x302, 0, 3] ([]))).dev with state := .full } }) with hlt := { ({ ((cst (on) [0x302, 0, 3] ([]))) with dev := { ((cst (on) [0x302, 0, 3] ([]))).dev with state := .full } }).hlt with asked := some .placement, raising := some 0 } }) with elapsed := 2000000 }, by decide +kernel⟩,
    ⟨((cst (on) [0x301, 0, 1023] ([]))), by decide +kernel⟩,
    ⟨(((cst (on) [0x301, 0, 0xFFFFFFFF] ([]))).setRt 1023 { suspended := true, abortRun := 3, lastPc := 7 }), by decide +kernel⟩,
    ⟨((rst (on) [0x501, 0, 0xFF, 1] ([]))), by decide +kernel⟩⟩

theorem witness_TableCommands_1 :
    (∃ s : State, (s.taken 0x0201 = true) ∧ (let bs := s.cmdData; (let w0 := leNat (slice 0 4 bs); (let kt := bits 2 1 w0; (let role := bits 10 9 w0; (let good := s.cmdLen = 32 ∧ bit 0 w0 = true ∧ role ≠ 3 ∧ ¬(role = 2 ∧ kt = 0); (¬good))))))) ∧
    (∃ s : State, (s.taken 0x0201 = true) ∧ (let bs := s.cmdData; (let w0 := leNat (slice 0 4 bs); (let kt := bits 2 1 w0; (let role := bits 10 9 w0; (let word := streamWordOf kt (leNat (slice 16 8 bs)); (let good := s.cmdLen = 32 ∧ bit 0 w0 = true ∧ role ≠ 3 ∧ ¬(role = 2 ∧ kt = 0); (let load := s.admitEntry bs word kt role; (good) ∧ (s.loadGate .stream load = .wait))))))))) ∧
    (∃ s : State, (s.taken 0x0201 = true) ∧ (let bs := s.cmdData; (let w0 := leNat (slice 0 4 bs); (let kt := bits 2 1 w0; (let role := bits 10 9 w0; (let good := s.cmdLen = 32 ∧ bit 0 w0 = true ∧ role ≠ 3 ∧ ¬(role = 2 ∧ kt = 0); (good) ∧ (s.hlt.asked = none))))))) ∧
    (∃ s : State, (s.taken 0x0201 = true) ∧ (let bs := s.cmdData; (let w0 := leNat (slice 0 4 bs); (let kt := bits 2 1 w0; (let role := bits 10 9 w0; (let word := streamWordOf kt (leNat (slice 16 8 bs)); (let good := s.cmdLen = 32 ∧ bit 0 w0 = true ∧ role ≠ 3 ∧ ¬(role = 2 ∧ kt = 0); (let load := s.admitEntry bs word kt role; (good) ∧ (s.loadGate .stream load = .refused))))))))) ∧
    (∃ s : State, (s.taken 0x0201 = true) ∧ (let bs := s.cmdData; (let w0 := leNat (slice 0 4 bs); (let kt := bits 2 1 w0; (let role := bits 10 9 w0; (let word := streamWordOf kt (leNat (slice 16 8 bs)); (let ctx := leNat (slice 8 4 bs) % 512; (let ctxs := (s.members.map (fun h => (s.stream h).ctx)).dedup; (let good := s.cmdLen = 32 ∧ bit 0 w0 = true ∧ role ≠ 3 ∧ ¬(role = 2 ∧ kt = 0); (let excess := role = 2 ∧ (1024 ≤ s.members.length ∨ (ctx ∉ ctxs ∧ 512 ≤ ctxs.length)); (let load := s.admitEntry bs word kt role; (let goes := s.loadGate .stream load = .go; (good) ∧ (goes) ∧ (excess))))))))))))) ∧
    (∃ s : State, (s.taken 0x0201 = true) ∧ (let bs := s.cmdData; (let w0 := leNat (slice 0 4 bs); (let kt := bits 2 1 w0; (let role := bits 10 9 w0; (let word := streamWordOf kt (leNat (slice 16 8 bs)); (let ctx := leNat (slice 8 4 bs) % 512; (let ctxs := (s.members.map (fun h => (s.stream h).ctx)).dedup; (let good := s.cmdLen = 32 ∧ bit 0 w0 = true ∧ role ≠ 3 ∧ ¬(role = 2 ∧ kt = 0); (let excess := role = 2 ∧ (1024 ≤ s.members.length ∨ (ctx ∉ ctxs ∧ 512 ≤ ctxs.length)); (let group := if role = 2 then s.memberGroup word kt else []; (let load := s.admitEntry bs word kt role; (let goes := s.loadGate .stream load = .go; ∃ h : Nat, ((good) ∧ (goes) ∧ (¬excess) ∧ (group = []) ∧ (h < 16384) ∧ ((s.stream h).valid = false) ∧ ((∀ k < h, (s.stream k).valid = true)) ∧ (kt = 0))))))))))))))) ∧
    (∃ s : State, (s.taken 0x0201 = true) ∧ (let bs := s.cmdData; (let w0 := leNat (slice 0 4 bs); (let kt := bits 2 1 w0; (let role := bits 10 9 w0; (let word := streamWordOf kt (leNat (slice 16 8 bs)); (let ctx := leNat (slice 8 4 bs) % 512; (let ctxs := (s.members.map (fun h => (s.stream h).ctx)).dedup; (let good := s.cmdLen = 32 ∧ bit 0 w0 = true ∧ role ≠ 3 ∧ ¬(role = 2 ∧ kt = 0); (let excess := role = 2 ∧ (1024 ≤ s.members.length ∨ (ctx ∉ ctxs ∧ 512 ≤ ctxs.length)); (let group := if role = 2 then s.memberGroup word kt else []; (let load := s.admitEntry bs word kt role; (let goes := s.loadGate .stream load = .go; ∃ h : Nat, ((good) ∧ (goes) ∧ (¬excess) ∧ (group = []) ∧ (h < 16384) ∧ ((s.stream h).valid = false) ∧ ((∀ k < h, (s.stream k).valid = true))) ∧ (let x := s.trieInsert { word := word, result := h, len := 64, valid := true, ty := kt }; (kt ≠ 0) ∧ (x.2 = true))))))))))))))) := by
  exact ⟨⟨((cst (on) [0x201, 32] ((leBytes 4 (1 + 2 ^ 10 + 2 ^ 9) ++ leBytes 4 1 ++ leBytes 4 (0) ++ leBytes 4 0 ++ leBytes 4 5 ++ List.replicate 12 0)))), by decide +kernel⟩,
    ⟨{ ((cst (on) [0x201, 32] (leBytes 4 (1) ++ leBytes 4 1 ++ leBytes 4 (0) ++ leBytes 4 0 ++ leBytes 4 5 ++ List.replicate 12 0))) with hlt := { on.hlt with asked := some .stream, raising := some 5 } }, by decide +kernel⟩,
    ⟨((cst (on) [0x201, 32] (leBytes 4 (1) ++ leBytes 4 1 ++ leBytes 4 (0) ++ leBytes 4 0 ++ leBytes 4 5 ++ List.replicate 12 0))), by decide +kernel⟩,
    ⟨{ ({ ((cst (on) [0x201, 32] (leBytes 4 (1) ++ leBytes 4 1 ++ leBytes 4 (0) ++ leBytes 4 0 ++ leBytes 4 5 ++ List.replicate 12 0))) with hlt := { on.hlt with asked := some .stream, raising := some 0 } }) with elapsed := 2000000 }, by decide +kernel⟩,
    ⟨{ ((cst ({ on with mem := streams (fun _ => 1025) 1024 0 }) [0x201, 32] ((leBytes 4 (1 + 2 * 2 ^ 9 + 2) ++ leBytes 4 1 ++ leBytes 4 (0) ++ leBytes 4 0 ++ leBytes 4 5 ++ List.replicate 12 0)))) with hlt := { on.hlt with asked := some .stream } }, by decide +kernel, by decide +kernel, by decide +kernel, ⟨by decide +kernel, .inl (streams_full _ rfl)⟩⟩,
    ⟨{ ((cst (on) [0x201, 32] ((leBytes 4 (1) ++ leBytes 4 1 ++ leBytes 4 (0) ++ leBytes 4 0 ++ leBytes 4 5 ++ List.replicate 12 0)))) with hlt := { on.hlt with asked := some .stream } }, by decide +kernel, 0, by decide +kernel⟩,
    ⟨{ ((cst (on) [0x201, 32] ((leBytes 4 (1 + 2) ++ leBytes 4 1 ++ leBytes 4 (0) ++ leBytes 4 0 ++ leBytes 4 5 ++ List.replicate 12 0)))) with hlt := { on.hlt with asked := some .stream } }, by decide +kernel, 0, by decide +kernel⟩⟩

theorem witness_TableCommands_2 :
    (∃ s : State, (s.taken 0x0201 = true) ∧ (let bs := s.cmdData; (let w0 := leNat (slice 0 4 bs); (let kt := bits 2 1 w0; (let role := bits 10 9 w0; (let word := streamWordOf kt (leNat (slice 16 8 bs)); (let ctx := leNat (slice 8 4 bs) % 512; (let ctxs := (s.members.map (fun h => (s.stream h).ctx)).dedup; (let good := s.cmdLen = 32 ∧ bit 0 w0 = true ∧ role ≠ 3 ∧ ¬(role = 2 ∧ kt = 0); (let excess := role = 2 ∧ (1024 ≤ s.members.length ∨ (ctx ∉ ctxs ∧ 512 ≤ ctxs.length)); (let group := if role = 2 then s.memberGroup word kt else []; (let load := s.admitEntry bs word kt role; (let goes := s.loadGate .stream load = .go; ∃ h : Nat, ((good) ∧ (goes) ∧ (¬excess) ∧ (group = []) ∧ (h < 16384) ∧ ((s.stream h).valid = false) ∧ ((∀ k < h, (s.stream k).valid = true))) ∧ (let x := s.trieInsert { word := word, result := h, len := 64, valid := true, ty := kt }; (kt ≠ 0) ∧ (x.2 = false))))))))))))))) ∧
    (∃ s : State, (s.taken 0x0201 = true) ∧ (let bs := s.cmdData; (let w0 := leNat (slice 0 4 bs); (let kt := bits 2 1 w0; (let role := bits 10 9 w0; (let word := streamWordOf kt (leNat (slice 16 8 bs)); (let ctx := leNat (slice 8 4 bs) % 512; (let ctxs := (s.members.map (fun h => (s.stream h).ctx)).dedup; (let good := s.cmdLen = 32 ∧ bit 0 w0 = true ∧ role ≠ 3 ∧ ¬(role = 2 ∧ kt = 0); (let excess := role = 2 ∧ (1024 ≤ s.members.length ∨ (ctx ∉ ctxs ∧ 512 ≤ ctxs.length)); (let group := if role = 2 then s.memberGroup word kt else []; (let load := s.admitEntry bs word kt role; (let goes := s.loadGate .stream load = .go; ((good) ∧ (goes) ∧ (¬excess) ∧ (group = [])) ∧ ((∀ k < 16384, (s.stream k).valid = true))))))))))))))) ∧
    (∃ s : State, (s.taken 0x0201 = true) ∧ (let bs := s.cmdData; (let w0 := leNat (slice 0 4 bs); (let kt := bits 2 1 w0; (let role := bits 10 9 w0; (let word := streamWordOf kt (leNat (slice 16 8 bs)); (let ctx := leNat (slice 8 4 bs) % 512; (let ctxs := (s.members.map (fun h => (s.stream h).ctx)).dedup; (let good := s.cmdLen = 32 ∧ bit 0 w0 = true ∧ role ≠ 3 ∧ ¬(role = 2 ∧ kt = 0); (let excess := role = 2 ∧ (1024 ≤ s.members.length ∨ (ctx ∉ ctxs ∧ 512 ≤ ctxs.length)); (let group := if role = 2 then s.memberGroup word kt else []; (let load := s.admitEntry bs word kt role; (let goes := s.loadGate .stream load = .go; ∃ g : Nat, ∃ gs : List Nat, ((good) ∧ (goes) ∧ (¬excess) ∧ (group = g :: gs) ∧ (3 ≤ gs.length))))))))))))))) ∧
    (∃ s : State, (s.taken 0x0201 = true) ∧ (let bs := s.cmdData; (let w0 := leNat (slice 0 4 bs); (let kt := bits 2 1 w0; (let role := bits 10 9 w0; (let word := streamWordOf kt (leNat (slice 16 8 bs)); (let ctx := leNat (slice 8 4 bs) % 512; (let ctxs := (s.members.map (fun h => (s.stream h).ctx)).dedup; (let good := s.cmdLen = 32 ∧ bit 0 w0 = true ∧ role ≠ 3 ∧ ¬(role = 2 ∧ kt = 0); (let excess := role = 2 ∧ (1024 ≤ s.members.length ∨ (ctx ∉ ctxs ∧ 512 ≤ ctxs.length)); (let group := if role = 2 then s.memberGroup word kt else []; (let load := s.admitEntry bs word kt role; (let goes := s.loadGate .stream load = .go; ∃ g : Nat, ∃ gs : List Nat, ((good) ∧ (goes) ∧ (¬excess) ∧ (group = g :: gs)) ∧ (let h := g + gs.length + 1; (gs.length < 3) ∧ (16384 ≤ h ∨ (s.stream h).valid = true))))))))))))))) := by
  exact ⟨⟨{ ((cst ({ (on.trieInsert ({ word := 6, result := 9, len := 64, valid := true, ty := 1 } : Leaf)).1 with tbl := { (on.trieInsert ({ word := 6, result := 9, len := 64, valid := true, ty := 1 } : Leaf)).1.tbl with nodes := List.range 512 } }) [0x201, 32] ((leBytes 4 (1 + 2) ++ leBytes 4 1 ++ leBytes 4 (0) ++ leBytes 4 0 ++ leBytes 4 5 ++ List.replicate 12 0)))) with hlt := { on.hlt with asked := some .stream } }, by decide +kernel, 0, by decide +kernel⟩,
    ⟨{ ((cst ({ on with mem := streams (fun _ => 1) 16384 0 }) [0x201, 32] ((leBytes 4 (1 + 2 ^ 9) ++ leBytes 4 1 ++ leBytes 4 (0) ++ leBytes 4 0 ++ leBytes 4 5 ++ List.replicate 12 0)))) with hlt := { on.hlt with asked := some .stream } }, by decide +kernel, by decide +kernel, fun k hk => streams_valid (fun _ => 1) _ 16384 k rfl hk (by omega) rfl (by decide)⟩,
    ⟨{ ((cst ((((List.range 4).foldl (fun (t : State) k => t.mwbytes (0x30400000 + 32 * (0 + k)) (leBytes 4 (1 + 2 * 2 ^ 9 + 2) ++ leBytes 4 1 ++ leBytes 4 (0) ++ leBytes 4 0 ++ leBytes 4 5 ++ List.replicate 12 0)) on).trieInsert { word := 5, result := 0, len := 64, valid := true, ty := 1 }).1) [0x201, 32] ((leBytes 4 (1 + 2 * 2 ^ 9 + 2) ++ leBytes 4 1 ++ leBytes 4 (0) ++ leBytes 4 0 ++ leBytes 4 5 ++ List.replicate 12 0)))) with hlt := { on.hlt with asked := some .stream } }, by decide +kernel, 0, ([1, 2, 3]), by decide +kernel⟩,
    ⟨{ ((cst (((((List.range 2).foldl (fun (t : State) k => t.mwbytes (0x30400000 + 32 * (0 + k)) (leBytes 4 (1 + 2 * 2 ^ 9 + 2) ++ leBytes 4 1 ++ leBytes 4 (0) ++ leBytes 4 0 ++ leBytes 4 5 ++ List.replicate 12 0)) on).trieInsert { word := 5, result := 0, len := 64, valid := true, ty := 1 }).1).mwbytes 0x30400040 (leBytes 4 (1) ++ leBytes 4 1 ++ leBytes 4 (0) ++ leBytes 4 0 ++ leBytes 4 5 ++ List.replicate 12 0)) [0x201, 32] ((leBytes 4 (1 + 2 * 2 ^ 9 + 2) ++ leBytes 4 1 ++ leBytes 4 (0) ++ leBytes 4 0 ++ leBytes 4 5 ++ List.replicate 12 0)))) with hlt := { on.hlt with asked := some .stream } }, by decide +kernel, 0, [1], by decide +kernel⟩⟩

theorem witness_TableCommands_3 :
    (∃ s : State, (s.taken 0x0201 = true) ∧ (let bs := s.cmdData; (let w0 := leNat (slice 0 4 bs); (let kt := bits 2 1 w0; (let role := bits 10 9 w0; (let word := streamWordOf kt (leNat (slice 16 8 bs)); (let ctx := leNat (slice 8 4 bs) % 512; (let ctxs := (s.members.map (fun h => (s.stream h).ctx)).dedup; (let good := s.cmdLen = 32 ∧ bit 0 w0 = true ∧ role ≠ 3 ∧ ¬(role = 2 ∧ kt = 0); (let excess := role = 2 ∧ (1024 ≤ s.members.length ∨ (ctx ∉ ctxs ∧ 512 ≤ ctxs.length)); (let group := if role = 2 then s.memberGroup word kt else []; (let load := s.admitEntry bs word kt role; (let goes := s.loadGate .stream load = .go; ∃ g : Nat, ∃ gs : List Nat, ((good) ∧ (goes) ∧ (¬excess) ∧ (group = g :: gs)) ∧ (let h := g + gs.length + 1; ((gs.length < 3) ∧ (h < 16384) ∧ ((s.stream h).valid = false)))))))))))))))) ∧
    (∃ s : State, ∃ h : Nat, ∃ bs : List Byte, (h < 16384) ∧ (bs.length = 32) ∧ (let w0 := leNat (slice 0 4 bs); (let unbound := decide (bits 27 16 w0 ≠ 0) && s.policersTaken h; (bit 0 w0 = true) ∧ (unbound = true)))) ∧
    (∃ s : State, ∃ h : Nat, ∃ bs : List Byte, (h < 16384) ∧ (bs.length = 32) ∧ (let w0 := leNat (slice 0 4 bs); (let unbound := decide (bits 27 16 w0 ≠ 0) && s.policersTaken h; (bit 0 w0 = false ∨ unbound = false)))) ∧
    (∃ s : State, (s.taken 0x0202 = true) ∧ (let kt := s.arg 4 % 4; (kt = 0))) ∧
    (∃ s : State, (s.taken 0x0202 = true) ∧ (let kt := s.arg 4 % 4; (let word := streamWordOf kt (s.arg64 2); (kt ≠ 0) ∧ (s.trieExact word 64 kt = none)))) ∧
    (∃ s : State, (s.taken 0x0202 = true) ∧ (let kt := s.arg 4 % 4; (let word := streamWordOf kt (s.arg64 2); ∃ l : Nat, ((kt ≠ 0) ∧ (s.trieExact word 64 kt = some l) ∧ (bit 31 (s.leaf l).result = true))))) ∧
    (∃ s : State, (s.taken 0x0202 = true) ∧ (let kt := s.arg 4 % 4; (let word := streamWordOf kt (s.arg64 2); ∃ l : Nat, ((kt ≠ 0) ∧ (s.trieExact word 64 kt = some l) ∧ (bit 31 (s.leaf l).result = false))))) ∧
    (∃ s : State, (s.taken 0x0203 = true ∨ s.taken 0x0204 = true) ∧ (let w := s.arg64 2; (let len := s.arg 4 % 128; (let ty := s.arg 4 / 256 % 8; (let good := 1 ≤ ty ∧ ty ≤ 6 ∧ (if ty ≤ 3 then 64 else 4) ≤ len ∧ len ≤ (if ty = 5 then 36 else 64) ∧ (ty = 1 ∨ w / 2 ^ 60 = ty); (s.taken 0x0203 = true) ∧ (¬good)))))) ∧
    (∃ s : State, (s.taken 0x0203 = true ∨ s.taken 0x0204 = true) ∧ (let w := s.arg64 2; (let len := s.arg 4 % 128; (let ty := s.arg 4 / 256 % 8; (let good := 1 ≤ ty ∧ ty ≤ 6 ∧ (if ty ≤ 3 then 64 else 4) ≤ len ∧ len ≤ (if ty = 5 then 36 else 64) ∧ (ty = 1 ∨ w / 2 ^ 60 = ty); (let x := s.trieInsert { word := w, result := s.arg 5, len := len, valid := true, ty := ty }; ((s.taken 0x0203 = true) ∧ (good) ∧ (x.2 = true)))))))) ∧
    (∃ s : State, (s.taken 0x0203 = true ∨ s.taken 0x0204 = true) ∧ (let w := s.arg64 2; (let len := s.arg 4 % 128; (let ty := s.arg 4 / 256 % 8; (let good := 1 ≤ ty ∧ ty ≤ 6 ∧ (if ty ≤ 3 then 64 else 4) ≤ len ∧ len ≤ (if ty = 5 then 36 else 64) ∧ (ty = 1 ∨ w / 2 ^ 60 = ty); (let x := s.trieInsert { word := w, result := s.arg 5, len := len, valid := true, ty := ty }; ((s.taken 0x0203 = true) ∧ (good) ∧ (x.2 = false)))))))) ∧
    (∃ s : State, (s.taken 0x0203 = true ∨ s.taken 0x0204 = true) ∧ (let w := s.arg64 2; (let len := s.arg 4 % 128; (let ty := s.arg 4 / 256 % 8; (let good := 1 ≤ ty ∧ ty ≤ 6 ∧ (if ty ≤ 3 then 64 else 4) ≤ len ∧ len ≤ (if ty = 5 then 36 else 64) ∧ (ty = 1 ∨ w / 2 ^ 60 = ty); (s.taken 0x0204 = true) ∧ (¬good)))))) := by
  exact ⟨⟨{ ((cst ((((List.range 3).foldl (fun (t : State) k => t.mwbytes (0x30400000 + 32 * (0 + k)) (leBytes 4 (1 + 2 * 2 ^ 9 + 2) ++ leBytes 4 1 ++ leBytes 4 (0) ++ leBytes 4 0 ++ leBytes 4 5 ++ List.replicate 12 0)) on).trieInsert { word := 5, result := 0, len := 64, valid := true, ty := 1 }).1) [0x201, 32] ((leBytes 4 (1 + 2 * 2 ^ 9 + 2) ++ leBytes 4 1 ++ leBytes 4 (0) ++ leBytes 4 0 ++ leBytes 4 5 ++ List.replicate 12 0)))) with hlt := { on.hlt with asked := some .stream } }, by decide +kernel, 0, ([1, 2]), by decide +kernel⟩,
    ⟨{ on with mem := streams (fun k => (k + 1) * 65536 + 1) 4095 0 }, 16383, (((leBytes 4 (1 + 5 * 2 ^ 16) ++ leBytes 4 1 ++ leBytes 4 (0) ++ leBytes 4 0 ++ leBytes 4 5 ++ List.replicate 12 0))), by decide +kernel, by decide +kernel, by decide +kernel, by { show (decide (bits 27 16 _ ≠ 0) && _) = true; rw [streams_bound _ _ rfl (by omega)]; decide +kernel }⟩,
    ⟨on, 16383, (((leBytes 4 (1 + 5 * 2 ^ 16) ++ leBytes 4 1 ++ leBytes 4 (0) ++ leBytes 4 0 ++ leBytes 4 5 ++ List.replicate 12 0))), by decide +kernel⟩,
    ⟨((cst (on) [0x202, 0, 5, 0, 0] ([]))), by decide +kernel⟩,
    ⟨((cst (on) [0x202, 0, 5, 0, 3] ([]))), by decide +kernel⟩,
    ⟨((cst (({ on with tbl := { on.tbl with leaves := [0] } }.mwbytes (leafAddr 0) (({ word := 5, result := 2 ^ 31 + 9, len := 64, valid := true, ty := 1 } : Leaf)).bytes)) [0x202, 0, 5, 0, 1] ([]))), by decide +kernel, 0, by decide +kernel⟩,
    ⟨((cst ((({ on with tbl := { on.tbl with leaves := [0] } }.mwbytes (leafAddr 0) (({ word := 5, result := 7, len := 64, valid := true, ty := 1 } : Leaf)).bytes)).mwbytes (0x30400000 + 32 * 7) (leBytes 4 (1) ++ leBytes 4 1 ++ leBytes 4 (0) ++ leBytes 4 0 ++ leBytes 4 5 ++ List.replicate 12 0)) [0x202, 0, 5, 0, 1] ([]))), by decide +kernel, 0, by decide +kernel⟩,
    ⟨((cst (on) [0x203, 0, 5, 0, 0, 0] ([]))), by decide +kernel⟩,
    ⟨((cst (on) [0x203, 0, 5, 2 ^ 30, 36 + 2 ^ 8 * 4, 9] ([]))), by decide +kernel⟩,
    ⟨((cst ({ (on.trieInsert ({ word := 2 ^ 62 + 5 * 2 ^ 28, result := 9, len := 36, valid := true, ty := 4 } : Leaf)).1 with tbl := { (on.trieInsert ({ word := 2 ^ 62 + 5 * 2 ^ 28, result := 9, len := 36, valid := true, ty := 4 } : Leaf)).1.tbl with nodes := List.range 512 } }) [0x203, 0, 6 * 2 ^ 28, 2 ^ 30 + 0, 36 + 2 ^ 8 * 4, 9] ([]))), by decide +kernel⟩,
    ⟨((cst (on) [0x204, 0, 5, 0, 0] ([]))), by decide +kernel⟩⟩

theorem witness_TableCommands_4 :
    (∃ s : State, (s.taken 0x0203 = true ∨ s.taken 0x0204 = true) ∧ (let w := s.arg64 2; (let len := s.arg 4 % 128; (let ty := s.arg 4 / 256 % 8; (let good := 1 ≤ ty ∧ ty ≤ 6 ∧ (if ty ≤ 3 then 64 else 4) ≤ len ∧ len ≤ (if ty = 5 then 36 else 64) ∧ (ty = 1 ∨ w / 2 ^ 60 = ty); ((s.taken 0x0204 = true) ∧ (good) ∧ (s.trieExact w len ty = none))))))) ∧
    (∃ s : State, (s.taken 0x0203 = true ∨ s.taken 0x0204 = true) ∧ (let w := s.arg64 2; (let len := s.arg 4 % 128; (let ty := s.arg 4 / 256 % 8; (let good := 1 ≤ ty ∧ ty ≤ 6 ∧ (if ty ≤ 3 then 64 else 4) ≤ len ∧ len ≤ (if ty = 5 then 36 else 64) ∧ (ty = 1 ∨ w / 2 ^ 60 = ty); (s.taken 0x0204 = true) ∧ ∃ g : Nat, (good) ∧ (s.trieExact w len ty = some g)))))) ∧
    (∃ s : State, (s.taken 0x0205 = true) ∧ (let bs := s.cmdData; (let w1 := leNat (slice 4 4 bs); (let good := s.cmdLen = 16 ∧ bits 29 28 w1 = 3; (¬good))))) ∧
    (∃ s : State, (s.taken 0x0205 = true) ∧ (let bs := s.cmdData; (let w1 := leNat (slice 4 4 bs); (let m : MacEntry := { mac := leNat (slice 0 4 bs) + w1 % 2 ^ 16 * 2 ^ 32, vid := bits 27 16 w1, kind := 3, hit := false, seenClear := false, dest := leNat (slice 8 4 bs), stamp := 0 }; (let good := s.cmdLen = 16 ∧ bits 29 28 w1 = 3; ∃ e : Nat, (good) ∧ (s.macFind m.mac m.vid = some e)))))) ∧
    (∃ s : State, (s.taken 0x0205 = true) ∧ (let bs := s.cmdData; (let w1 := leNat (slice 4 4 bs); (let m : MacEntry := { mac := leNat (slice 0 4 bs) + w1 % 2 ^ 16 * 2 ^ 32, vid := bits 27 16 w1, kind := 3, hit := false, seenClear := false, dest := leNat (slice 8 4 bs), stamp := 0 }; (let b := 8 * macBucket m.mac m.vid; (let good := s.cmdLen = 16 ∧ bits 29 28 w1 = 3; (let kind := fun e : Nat => (s.macEntry e).kind; (let isNew := s.macFind m.mac m.vid = none; ∃ i : Nat, ((good) ∧ (isNew) ∧ (i < 8) ∧ (kind (b + i) = 0) ∧ ((∀ k < i, kind (b + k) ≠ 0))))))))))) ∧
    (∃ s : State, (s.taken 0x0205 = true) ∧ (let bs := s.cmdData; (let w1 := leNat (slice 4 4 bs); (let m : MacEntry := { mac := leNat (slice 0 4 bs) + w1 % 2 ^ 16 * 2 ^ 32, vid := bits 27 16 w1, kind := 3, hit := false, seenClear := false, dest := leNat (slice 8 4 bs), stamp := 0 }; (let b := 8 * macBucket m.mac m.vid; (let good := s.cmdLen = 16 ∧ bits 29 28 w1 = 3; (let kind := fun e : Nat => (s.macEntry e).kind; (let age := fun e : Nat => (s.sweepCount + 65536 - (s.macEntry e).stamp) % 65536; (let isNew := s.macFind m.mac m.vid = none; (let full := ∀ i < 8, kind (b + i) ≠ 0; ∃ i : Nat, ((good) ∧ (isNew) ∧ (full) ∧ (s.fldB TBL_CTL TBL_CTL_evict_random = false) ∧ (i < 8) ∧ (kind (b + i) = 1) ∧ ((∀ k < 8, kind (b + k) = 1 → if k < i then age (b + k) < age (b + i) else age (b + k) ≤ age (b + i)))))))))))))) := by
  exact ⟨⟨((cst (on) [0x204, 0, 5, 2 ^ 28, 64 + 2 ^ 8] ([]))), by decide +kernel⟩,
    ⟨((cst (({ on with tbl := { on.tbl with leaves := [0] } }.mwbytes (leafAddr 0) (({ word := 5, result := 7, len := 64, valid := true, ty := 1 } : Leaf)).bytes)) [0x204, 0, 5, 0, 64 + 2 ^ 8] ([]))), by decide +kernel, by decide +kernel, 0, by decide +kernel⟩,
    ⟨((cst (on) [0x205, 16] ((leBytes 4 5 ++ leBytes 4 (9 * 2 ^ 16 + 2 * 2 ^ 28) ++ leBytes 4 8 ++ leBytes 4 0)))), by decide +kernel⟩,
    ⟨((cst (((on.mwbytes (macAddr (8 * macBucket 5 9 + 0)) (leBytes 4 (100 + 0) ++ leBytes 4 (1 * 2 ^ 28) ++ leBytes 4 8 ++ leBytes 4 0)).mwbytes (macAddr (8 * macBucket 5 9 + 3)) (leBytes 4 5 ++ leBytes 4 (9 * 2 ^ 16 + 1 * 2 ^ 28) ++ leBytes 4 8 ++ leBytes 4 0))) [0x205, 16] ((leBytes 4 5 ++ leBytes 4 (9 * 2 ^ 16 + 3 * 2 ^ 28) ++ leBytes 4 8 ++ leBytes 4 0)))), by decide +kernel, (8 * macBucket 5 9 + 3), by decide +kernel⟩,
    ⟨((cst (on) [0x205, 16] ((leBytes 4 5 ++ leBytes 4 (9 * 2 ^ 16 + 3 * 2 ^ 28) ++ leBytes 4 8 ++ leBytes 4 0)))), by decide +kernel, 0, by decide +kernel⟩,
    ⟨((cst (((((((((on.mwbytes (macAddr (8 * macBucket 5 9 + 0)) (leBytes 4 (100 + 0) ++ leBytes 4 (3 * 2 ^ 28) ++ leBytes 4 8 ++ leBytes 4 0)).mwbytes (macAddr (8 * macBucket 5 9 + 1)) (leBytes 4 (100 + 1) ++ leBytes 4 (2 * 2 ^ 28) ++ leBytes 4 8 ++ leBytes 4 0)).mwbytes (macAddr (8 * macBucket 5 9 + 2)) (leBytes 4 (100 + 2) ++ leBytes 4 (1 * 2 ^ 28) ++ leBytes 4 8 ++ leBytes 4 5)).mwbytes (macAddr (8 * macBucket 5 9 + 3)) (leBytes 4 (100 + 3) ++ leBytes 4 (1 * 2 ^ 28) ++ leBytes 4 8 ++ leBytes 4 3)).mwbytes (macAddr (8 * macBucket 5 9 + 4)) (leBytes 4 (100 + 4) ++ leBytes 4 (1 * 2 ^ 28) ++ leBytes 4 8 ++ leBytes 4 3)).mwbytes (macAddr (8 * macBucket 5 9 + 5)) (leBytes 4 (100 + 5) ++ leBytes 4 (2 * 2 ^ 28) ++ leBytes 4 8 ++ leBytes 4 1)).mwbytes (macAddr (8 * macBucket 5 9 + 6)) (leBytes 4 (100 + 6) ++ leBytes 4 (3 * 2 ^ 28) ++ leBytes 4 8 ++ leBytes 4 0)).mwbytes (macAddr (8 * macBucket 5 9 + 7)) (leBytes 4 (100 + 7) ++ leBytes 4 (1 * 2 ^ 28) ++ leBytes 4 8 ++ leBytes 4 9))) [0x205, 16] ((leBytes 4 5 ++ leBytes 4 (9 * 2 ^ 16 + 3 * 2 ^ 28) ++ leBytes 4 8 ++ leBytes 4 0)))), by decide +kernel, 3, by decide +kernel⟩⟩

theorem witness_TableCommands_5 :
    (∃ s : State, (s.taken 0x0205 = true) ∧ (let bs := s.cmdData; (let w1 := leNat (slice 4 4 bs); (let m : MacEntry := { mac := leNat (slice 0 4 bs) + w1 % 2 ^ 16 * 2 ^ 32, vid := bits 27 16 w1, kind := 3, hit := false, seenClear := false, dest := leNat (slice 8 4 bs), stamp := 0 }; (let b := 8 * macBucket m.mac m.vid; (let good := s.cmdLen = 16 ∧ bits 29 28 w1 = 3; (let kind := fun e : Nat => (s.macEntry e).kind; (let isNew := s.macFind m.mac m.vid = none; (let full := ∀ i < 8, kind (b + i) ≠ 0; (let dyn := ((List.range 8).map (b + ·)).filter (fun e => kind e == 1); ∃ e : Nat, ((good) ∧ (isNew) ∧ (full) ∧ (s.fldB TBL_CTL TBL_CTL_evict_random = true)) ∧ (let r := lfsrStep s.tbl.lfsr; (dyn[r % 65536 * dyn.length / 65536]? = some e)))))))))))) ∧
    (∃ s : State, (s.taken 0x0205 = true) ∧ (let bs := s.cmdData; (let w1 := leNat (slice 4 4 bs); (let m : MacEntry := { mac := leNat (slice 0 4 bs) + w1 % 2 ^ 16 * 2 ^ 32, vid := bits 27 16 w1, kind := 3, hit := false, seenClear := false, dest := leNat (slice 8 4 bs), stamp := 0 }; (let b := 8 * macBucket m.mac m.vid; (let good := s.cmdLen = 16 ∧ bits 29 28 w1 = 3; (let kind := fun e : Nat => (s.macEntry e).kind; (let isNew := s.macFind m.mac m.vid = none; (let full := ∀ i < 8, kind (b + i) ≠ 0; (let dyn := ((List.range 8).map (b + ·)).filter (fun e => kind e == 1); ((good) ∧ (isNew) ∧ (full) ∧ (dyn = [])))))))))))) ∧
    (∃ s : State, (s.taken 0x0206 = true) ∧ (let find := s.macFind (s.arg 2 + s.arg 3 % 2 ^ 16 * 2 ^ 32) (bits 27 16 (s.arg 3)); (find = none))) ∧
    (∃ s : State, (s.taken 0x0206 = true) ∧ (let find := s.macFind (s.arg 2 + s.arg 3 % 2 ^ 16 * 2 ^ 32) (bits 27 16 (s.arg 3)); ∃ e : Nat, (find = some e))) ∧
    (∃ s : State, (s.taken 0x0207 = true)) := by
  exact ⟨⟨((cst ((((((((((on.mwbytes (macAddr (8 * macBucket 5 9 + 0)) (leBytes 4 (100 + 0) ++ leBytes 4 (3 * 2 ^ 28) ++ leBytes 4 8 ++ leBytes 4 0)).mwbytes (macAddr (8 * macBucket 5 9 + 1)) (leBytes 4 (100 + 1) ++ leBytes 4 (2 * 2 ^ 28) ++ leBytes 4 8 ++ leBytes 4 0)).mwbytes (macAddr (8 * macBucket 5 9 + 2)) (leBytes 4 (100 + 2) ++ leBytes 4 (1 * 2 ^ 28) ++ leBytes 4 8 ++ leBytes 4 0)).mwbytes (macAddr (8 * macBucket 5 9 + 3)) (leBytes 4 (100 + 3) ++ leBytes 4 (1 * 2 ^ 28) ++ leBytes 4 8 ++ leBytes 4 0)).mwbytes (macAddr (8 * macBucket 5 9 + 4)) (leBytes 4 (100 + 4) ++ leBytes 4 (1 * 2 ^ 28) ++ leBytes 4 8 ++ leBytes 4 0)).mwbytes (macAddr (8 * macBucket 5 9 + 5)) (leBytes 4 (100 + 5) ++ leBytes 4 (2 * 2 ^ 28) ++ leBytes 4 8 ++ leBytes 4 0)).mwbytes (macAddr (8 * macBucket 5 9 + 6)) (leBytes 4 (100 + 6) ++ leBytes 4 (3 * 2 ^ 28) ++ leBytes 4 8 ++ leBytes 4 0)).mwbytes (macAddr (8 * macBucket 5 9 + 7)) (leBytes 4 (100 + 7) ++ leBytes 4 (1 * 2 ^ 28) ++ leBytes 4 8 ++ leBytes 4 0))).setFld TBL_CTL TBL_CTL_evict_random 1) [0x205, 16] ((leBytes 4 5 ++ leBytes 4 (9 * 2 ^ 16 + 3 * 2 ^ 28) ++ leBytes 4 8 ++ leBytes 4 0)))), by decide +kernel, ((((List.range 8).map (8 * macBucket 5 9 + ·)).filter (fun e => ((((((((((on.mwbytes (macAddr (8 * macBucket 5 9 + 0)) (leBytes 4 (100 + 0) ++ leBytes 4 (3 * 2 ^ 28) ++ leBytes 4 8 ++ leBytes 4 0)).mwbytes (macAddr (8 * macBucket 5 9 + 1)) (leBytes 4 (100 + 1) ++ leBytes 4 (2 * 2 ^ 28) ++ leBytes 4 8 ++ leBytes 4 0)).mwbytes (macAddr (8 * macBucket 5 9 + 2)) (leBytes 4 (100 + 2) ++ leBytes 4 (1 * 2 ^ 28) ++ leBytes 4 8 ++ leBytes 4 0)).mwbytes (macAddr (8 * macBucket 5 9 + 3)) (leBytes 4 (100 + 3) ++ leBytes 4 (1 * 2 ^ 28) ++ leBytes 4 8 ++ leBytes 4 0)).mwbytes (macAddr (8 * macBucket 5 9 + 4)) (leBytes 4 (100 + 4) ++ leBytes 4 (1 * 2 ^ 28) ++ leBytes 4 8 ++ leBytes 4 0)).mwbytes (macAddr (8 * macBucket 5 9 + 5)) (leBytes 4 (100 + 5) ++ leBytes 4 (2 * 2 ^ 28) ++ leBytes 4 8 ++ leBytes 4 0)).mwbytes (macAddr (8 * macBucket 5 9 + 6)) (leBytes 4 (100 + 6) ++ leBytes 4 (3 * 2 ^ 28) ++ leBytes 4 8 ++ leBytes 4 0)).mwbytes (macAddr (8 * macBucket 5 9 + 7)) (leBytes 4 (100 + 7) ++ leBytes 4 (1 * 2 ^ 28) ++ leBytes 4 8 ++ leBytes 4 0))).macEntry e).kind == 1)).getD (lfsrStep on.tbl.lfsr % 65536 * 4 / 65536) 0), by decide +kernel⟩,
    ⟨((cst (((((((((on.mwbytes (macAddr (8 * macBucket 5 9 + 0)) (leBytes 4 (100 + 0) ++ leBytes 4 (3 * 2 ^ 28) ++ leBytes 4 8 ++ leBytes 4 0)).mwbytes (macAddr (8 * macBucket 5 9 + 1)) (leBytes 4 (100 + 1) ++ leBytes 4 (2 * 2 ^ 28) ++ leBytes 4 8 ++ leBytes 4 0)).mwbytes (macAddr (8 * macBucket 5 9 + 2)) (leBytes 4 (100 + 2) ++ leBytes 4 (3 * 2 ^ 28) ++ leBytes 4 8 ++ leBytes 4 0)).mwbytes (macAddr (8 * macBucket 5 9 + 3)) (leBytes 4 (100 + 3) ++ leBytes 4 (3 * 2 ^ 28) ++ leBytes 4 8 ++ leBytes 4 0)).mwbytes (macAddr (8 * macBucket 5 9 + 4)) (leBytes 4 (100 + 4) ++ leBytes 4 (2 * 2 ^ 28) ++ leBytes 4 8 ++ leBytes 4 0)).mwbytes (macAddr (8 * macBucket 5 9 + 5)) (leBytes 4 (100 + 5) ++ leBytes 4 (2 * 2 ^ 28) ++ leBytes 4 8 ++ leBytes 4 0)).mwbytes (macAddr (8 * macBucket 5 9 + 6)) (leBytes 4 (100 + 6) ++ leBytes 4 (3 * 2 ^ 28) ++ leBytes 4 8 ++ leBytes 4 0)).mwbytes (macAddr (8 * macBucket 5 9 + 7)) (leBytes 4 (100 + 7) ++ leBytes 4 (2 * 2 ^ 28) ++ leBytes 4 8 ++ leBytes 4 0))) [0x205, 16] ((leBytes 4 5 ++ leBytes 4 (9 * 2 ^ 16 + 3 * 2 ^ 28) ++ leBytes 4 8 ++ leBytes 4 0)))), by decide +kernel⟩,
    ⟨((cst (on) [0x206, 0, 5, 9 * 2 ^ 16] ([]))), by decide +kernel⟩,
    ⟨((cst (on.mwbytes (macAddr (8 * macBucket 5 9)) (leBytes 4 5 ++ leBytes 4 (9 * 2 ^ 16 + 3 * 2 ^ 28) ++ leBytes 4 8 ++ leBytes 4 0)) [0x206, 0, 5, 9 * 2 ^ 16] ([]))), by decide +kernel, (8 * macBucket 5 9), by decide +kernel⟩,
    ⟨((cst (on.mwbytes (macAddr (8 * macBucket 5 9)) (leBytes 4 5 ++ leBytes 4 (9 * 2 ^ 16 + 1 * 2 ^ 28) ++ leBytes 4 8 ++ leBytes 4 0)) [0x207, 0, 0xFF, 1] ([]))), by decide +kernel⟩⟩

theorem witness_ImageCommands :
    (∃ s : State, (s.taken 0x0401 = true) ∧ (s.updateBusy = true)) ∧
    (∃ s : State, ((s.taken 0x0401 = true) ∧ (s.updateBusy = false) ∧ (0x200000 < s.arg 2 + s.cmdLen))) ∧
    (∃ s : State, (let j := s.mram.journal; (s.taken 0x0401 = true) ∧ (let next := if j.state = 1 then j.length else 0; ((s.updateBusy = false) ∧ (s.arg 2 + s.cmdLen ≤ 0x200000) ∧ (s.arg 2 ≠ next))))) ∧
    (∃ s : State, (let j := s.mram.journal; (s.taken 0x0401 = true) ∧ (let next := if j.state = 1 then j.length else 0; ((s.updateBusy = false) ∧ (s.arg 2 + s.cmdLen ≤ 0x200000) ∧ (s.arg 2 = next))))) ∧
    (∃ s : State, (s.taken 0x0402 = true)) ∧
    (∃ s : State, ((s.taken 0x0403 = true) ∧ (s.wrd.run = none) ∧ (s.wrd.cold = none))) ∧
    (∃ s : State, (s.taken 0x0403 = true) ∧ (s.wrd.run ≠ none ∨ s.wrd.cold ≠ none)) ∧
    (∃ s : State, (let j := s.mram.journal; (let active := s.running = true ∧ s.bank.fatal = none ∧ s.wrd.inProgress = true; (¬active ∨ (j.state ≠ 2 ∧ j.state ≠ 3))))) ∧
    (∃ s : State, (let j := s.mram.journal; (let active := s.running = true ∧ s.bank.fatal = none ∧ s.wrd.inProgress = true; ((active) ∧ (j.state = 2 ∨ j.state = 3) ∧ (j.next + 1 < blocksOf j.length))))) ∧
    (∃ s : State, (let j := s.mram.journal; (let active := s.running = true ∧ s.bank.fatal = none ∧ s.wrd.inProgress = true; (active) ∧ (j.state = 2 ∨ j.state = 3) ∧ (let p := (s.setJournal { j with state := 3 }).mramPut (targetBase j.target + 4096 * j.next) (s.img inletBase (4096 * j.next) 4096); (let v := p.setJournal { j with state := 3, next := j.next + 1 }; (let readsBack := sha256 (v.img (targetBase j.target) 0 j.length) = j.digest; (blocksOf j.length ≤ j.next + 1) ∧ (¬readsBack))))))) ∧
    (∃ s : State, (let j := s.mram.journal; (let active := s.running = true ∧ s.bank.fatal = none ∧ s.wrd.inProgress = true; (active) ∧ (j.state = 2 ∨ j.state = 3) ∧ (let p := (s.setJournal { j with state := 3 }).mramPut (targetBase j.target + 4096 * j.next) (s.img inletBase (4096 * j.next) 4096); (let v := p.setJournal { j with state := 3, next := j.next + 1 }; (let readsBack := sha256 (v.img (targetBase j.target) 0 j.length) = j.digest; ((blocksOf j.length ≤ j.next + 1) ∧ (readsBack) ∧ (j.target ≠ 0)))))))) ∧
    (∃ s : State, (let j := s.mram.journal; (let active := s.running = true ∧ s.bank.fatal = none ∧ s.wrd.inProgress = true; (active) ∧ (j.state = 2 ∨ j.state = 3) ∧ (let p := (s.setJournal { j with state := 3 }).mramPut (targetBase j.target + 4096 * j.next) (s.img inletBase (4096 * j.next) 4096); (let v := p.setJournal { j with state := 3, next := j.next + 1 }; (let readsBack := sha256 (v.img (targetBase j.target) 0 j.length) = j.digest; ((blocksOf j.length ≤ j.next + 1) ∧ (readsBack) ∧ (j.target = 0) ∧ (s.otp.fuses < j.rb / 4096)))))))) ∧
    (∃ s : State, (let j := s.mram.journal; (let active := s.running = true ∧ s.bank.fatal = none ∧ s.wrd.inProgress = true; (active) ∧ (j.state = 2 ∨ j.state = 3) ∧ (let p := (s.setJournal { j with state := 3 }).mramPut (targetBase j.target + 4096 * j.next) (s.img inletBase (4096 * j.next) 4096); (let v := p.setJournal { j with state := 3, next := j.next + 1 }; (let readsBack := sha256 (v.img (targetBase j.target) 0 j.length) = j.digest; ((blocksOf j.length ≤ j.next + 1) ∧ (readsBack) ∧ (j.target = 0) ∧ (j.rb / 4096 ≤ s.otp.fuses)))))))) ∧
    (∃ s : State, (let a := s.mram.sub0; (a.valid = false))) ∧
    (∃ s : State, (let a := s.mram.sub0; (let b := s.mram.sub1; (a.valid = true) ∧ (b.valid = false)))) ∧
    (∃ s : State, (let a := s.mram.sub0; (let b := s.mram.sub1; ((a.valid = true) ∧ (b.valid = true) ∧ (a.seq < b.seq))))) ∧
    (∃ s : State, (let a := s.mram.sub0; (let b := s.mram.sub1; ((a.valid = true) ∧ (b.valid = true) ∧ (b.seq ≤ a.seq))))) ∧
    (∃ s : State, (let j := s.mram.journal; (let active := s.running = true ∧ s.bank.fatal = none ∧ s.wrd.inProgress = true; ∃ ok : Bool, (¬active ∨ j.state ≠ 4 ∨ j.target ≠ 0)))) ∧
    (∃ s : State, (let j := s.mram.journal; (let active := s.running = true ∧ s.bank.fatal = none ∧ s.wrd.inProgress = true; ((active) ∧ (j.state = 4) ∧ (j.target = 0) ∧ (s.otp.fuses + 1 < j.rb / 4096))))) ∧
    (∃ s : State, (let j := s.mram.journal; (let active := s.running = true ∧ s.bank.fatal = none ∧ s.wrd.inProgress = true; ((active) ∧ (j.state = 4) ∧ (j.target = 0) ∧ (j.rb / 4096 ≤ s.otp.fuses + 1))))) ∧
    (∃ s : State, (let j := s.mram.journal; (let active := s.running = true ∧ s.bank.fatal = none ∧ s.wrd.inProgress = true; ((active) ∧ (j.state = 4) ∧ (j.target = 0) ∧ (s.wrd.burns ≠ 2))))) ∧
    (∃ s : State, (let j := s.mram.journal; (let active := s.running = true ∧ s.bank.fatal = none ∧ s.wrd.inProgress = true; ((active) ∧ (j.state = 4) ∧ (j.target = 0) ∧ (s.wrd.burns = 2))))) ∧
    (∃ s : State, ∃ k : Journal, (s.mram.second = true)) ∧
    (∃ s : State, ∃ k : Journal, (s.mram.second = false) ∧ (s.mram.journal0.good = true)) ∧
    (∃ s : State, ∃ x : Section, ((s.imgSections vendorBase).head? = some x)) ∧
    (∃ s : State, ∃ outcome : Fin 3, ∃ pause : Nat, (let ready := s.wrd.handover = true ∧ s.running = true ∧ s.bank.fatal = none ∧ s.wrd.inProgress = false; (¬ready))) ∧
    (∃ s : State, ∃ outcome : Fin 3, ∃ pause : Nat, (let ready := s.wrd.handover = true ∧ s.running = true ∧ s.bank.fatal = none ∧ s.wrd.inProgress = false; (let base : State := { s with wrd := { s.wrd with handover := false } }; (let good := base.stageImage.2 = true ∧ s.wrd.stagingBad = false; (ready) ∧ (outcome = 1 ∨ ¬good))))) ∧
    (∃ s : State, ∃ outcome : Fin 3, ∃ pause : Nat, (let ready := s.wrd.handover = true ∧ s.running = true ∧ s.bank.fatal = none ∧ s.wrd.inProgress = false; (let base : State := { s with wrd := { s.wrd with handover := false } }; (let good := base.stageImage.2 = true ∧ s.wrd.stagingBad = false; ((ready) ∧ (outcome = 2) ∧ (good)))))) ∧
    (∃ s : State, ∃ outcome : Fin 3, ∃ pause : Nat, (let ready := s.wrd.handover = true ∧ s.running = true ∧ s.bank.fatal = none ∧ s.wrd.inProgress = false; (let base : State := { s with wrd := { s.wrd with handover := false } }; (let good := base.stageImage.2 = true ∧ s.wrd.stagingBad = false; ((ready) ∧ (outcome = 0) ∧ (good)))))) ∧
    (∃ s : State, (s.taken 0x0404 = true) ∧ (s.cmdLen ≠ 32)) ∧
    (∃ s : State, (s.taken 0x0404 = true) ∧ (let k := s.arg 2 % 4; (s.cmdLen = 32) ∧ (tget [] s.otp.roots k ≠ []))) ∧
    (∃ s : State, (s.taken 0x0404 = true) ∧ (let k := s.arg 2 % 4; (s.cmdLen = 32) ∧ (tget [] s.otp.roots k = []))) ∧
    (∃ s : State, (s.taken 0x0405 = true) ∧ (let k := s.arg 2 % 4; (let inUse := ∃ p < 4, s.slotHolds p = true ∧ s.imgRoot (profileBase p) = k; (inUse)))) ∧
    (∃ s : State, (s.taken 0x0405 = true) ∧ (let k := s.arg 2 % 4; (let inUse := ∃ p < 4, s.slotHolds p = true ∧ s.imgRoot (profileBase p) = k; (¬inUse)))) ∧
    (∃ s : State, (s.taken 0x0406 = true) ∧ (s.cmdLen ≠ 32)) ∧
    (∃ s : State, (s.taken 0x0406 = true) ∧ (s.cmdLen = 32)) ∧
    (∃ s : State, ∃ nonce : List Byte, (nonce.length = 32)) ∧
    (∃ s : State, (s.taken 0x0407 = true) ∧ (s.mram.scrubActive = true)) ∧
    (∃ s : State, (s.taken 0x0407 = true) ∧ (s.mram.scrubActive = false)) := by
  exact ⟨⟨{ (cst (on) [0x401, 4, 0] ([1, 2, 3, 4])) with mram := { ((cst (on) [0x401, 4, 0] ([1, 2, 3, 4]))).mram with journal0 := { rec_ := { state := 2 }, good := true } } }, by decide +kernel⟩,
    ⟨((cst (on) [0x401, 4, 0x1FFFFD] ([1, 2, 3, 4]))), by decide +kernel⟩,
    ⟨((cst (on) [0x401, 4, 4] ([1, 2, 3, 4]))), by decide +kernel⟩,
    ⟨((cst (on) [0x401, 4, 0] ([1, 2, 3, 4]))), by decide +kernel⟩,
    ⟨((cst (on) [0x402, 0, 5] ([]))), by decide +kernel⟩,
    ⟨((cst (on) [0x403, 0] ([]))), by decide +kernel⟩,
    ⟨{ (cst (on) [0x403, 0] ([])) with wrd := { ((cst (on) [0x403, 0] ([]))).wrd with run := some bundle } }, by decide +kernel⟩,
    ⟨{ on with mram := { (on).mram with journal0 := { rec_ := { state := 3 }, good := true } } }, by decide +kernel⟩,
    ⟨{ { on with mram := { (on).mram with journal0 := { rec_ := { state := 3, length := 8193, next := 1, target := 4 }, good := true } } } with wrd := { (on).wrd with inProgress := true } }, by decide +kernel⟩,
    ⟨{ { on with mram := { (on).mram with journal0 := { rec_ := { state := 3, length := 8193, next := 2, target := 4 }, good := true } } } with wrd := { (on).wrd with inProgress := true } }, by decide +kernel⟩,
    ⟨{ { on with mram := { (on).mram with journal0 := { rec_ := { state := 3, length := 10, target := 4, digest := sha256 (on.img (targetBase 4) 0 10) }, good := true } } } with wrd := { (on).wrd with inProgress := true } }, by decide +kernel⟩,
    ⟨{ { on with mram := { (on).mram with journal0 := { rec_ := { state := 3, length := 10, target := 0, rb := 8192, digest := sha256 (on.img (targetBase 0) 0 10) }, good := true } } } with wrd := { (on).wrd with inProgress := true } }, by decide +kernel⟩,
    ⟨{ { on with mram := { (on).mram with journal0 := { rec_ := { state := 3, length := 10, target := 0, rb := 4095, digest := sha256 (on.img (targetBase 0) 0 10) }, good := true } } } with wrd := { (on).wrd with inProgress := true } }, by decide +kernel⟩,
    ⟨{ on with mram := { on.mram with sub0 := { value := 1, seq := 4, valid := false }, sub1 := { value := 2, seq := 7, valid := true } } }, by decide +kernel⟩,
    ⟨{ on with mram := { on.mram with sub0 := { value := 1, seq := 4, valid := true }, sub1 := { value := 2, seq := 7, valid := false } } }, by decide +kernel⟩,
    ⟨{ on with mram := { on.mram with sub0 := { value := 1, seq := 4, valid := true }, sub1 := { value := 2, seq := 7, valid := true } } }, by decide +kernel⟩,
    ⟨{ on with mram := { on.mram with sub0 := { value := 1, seq := 4, valid := true }, sub1 := { value := 2, seq := 4, valid := true } } }, by decide +kernel⟩,
    ⟨on, true, by decide +kernel⟩,
    ⟨{ { on with mram := { (on).mram with journal0 := { rec_ := { state := 4, rb := 8192 }, good := true } } } with wrd := { (on).wrd with inProgress := true } }, by decide +kernel⟩,
    ⟨{ { on with mram := { (on).mram with journal0 := { rec_ := { state := 4, rb := 4096 }, good := true } } } with wrd := { (on).wrd with inProgress := true } }, by decide +kernel⟩,
    ⟨{ { on with mram := { (on).mram with journal0 := { rec_ := { state := 4, rb := 8192 }, good := true } } } with wrd := { (on).wrd with inProgress := true } }, by decide +kernel⟩,
    ⟨{ { { on with wrd := { on.wrd with burns := 2 } } with mram := { ({ on with wrd := { on.wrd with burns := 2 } }).mram with journal0 := { rec_ := { state := 4, rb := 8192 }, good := true } } } with wrd := { ({ on with wrd := { on.wrd with burns := 2 } }).wrd with inProgress := true } }, by decide +kernel⟩,
    ⟨{ on with mram := { on.mram with journal0 := { rec_ := { state := 2 }, seq := 4, good := true }, journal1 := { rec_ := { state := 2 }, seq := 5, good := true } } }, { state := 3, target := 2, length := 77, digest := [1,2], next := 1, rb := 4, deferred := true }, by decide +kernel⟩,
    ⟨{ on with mram := { on.mram with journal0 := { rec_ := { state := 2 }, seq := 6, good := true }, journal1 := { rec_ := { state := 2 }, seq := 5, good := true } } }, { state := 3, target := 2, length := 77, digest := [1,2], next := 1, rb := 4, deferred := true }, by decide +kernel⟩,
    ⟨(((on.mwr (mramBase + vendorBase + 6) 2 1).mwbytes (mramBase + vendorBase + 512 + 32) (beBytes 32 0xe3b0c44298fc1c149afbf4c8996fb92427ae41e4649b934ca495991b7852b855))), { type := 0, off := 0, len := 0, entry := List.replicate 32 0 ++ (beBytes 32 0xe3b0c44298fc1c149afbf4c8996fb92427ae41e4649b934ca495991b7852b855) }, by decide +kernel⟩,
    ⟨on, 0, 5, by decide +kernel⟩,
    ⟨{ on with wrd := { (on).wrd with handover := true } }, 1, 50001, by decide +kernel⟩,
    ⟨{ ((on.mwr (mramBase + vendorBase + 6) 2 1).mwbytes (mramBase + vendorBase + 512 + 32) (beBytes 32 0xe3b0c44298fc1c149afbf4c8996fb92427ae41e4649b934ca495991b7852b855)) with wrd := { (((on.mwr (mramBase + vendorBase + 6) 2 1).mwbytes (mramBase + vendorBase + 512 + 32) (beBytes 32 0xe3b0c44298fc1c149afbf4c8996fb92427ae41e4649b934ca495991b7852b855))).wrd with handover := true } }, 2, 50001, by decide +kernel⟩,
    ⟨{ ((on.mwr (mramBase + vendorBase + 6) 2 1).mwbytes (mramBase + vendorBase + 512 + 32) (beBytes 32 0xe3b0c44298fc1c149afbf4c8996fb92427ae41e4649b934ca495991b7852b855)) with wrd := { (((on.mwr (mramBase + vendorBase + 6) 2 1).mwbytes (mramBase + vendorBase + 512 + 32) (beBytes 32 0xe3b0c44298fc1c149afbf4c8996fb92427ae41e4649b934ca495991b7852b855))).wrd with handover := true } }, 0, 50001, by decide +kernel⟩,
    ⟨((rst (on) [0x404, 31, 3] ([]))), by decide +kernel⟩,
    ⟨((rst ({ on with otp := { on.otp with roots := [(3, [1])] } }) [0x404, 32, 3] ([]))), by decide +kernel⟩,
    ⟨((rst (on) [0x404, 32, 3] (List.replicate 32 7))), by decide +kernel⟩,
    ⟨((rst (on.mwr (mramBase + profileBase 3) 4 0x4A519640) [0x405, 0, 0] ([]))), by decide +kernel⟩,
    ⟨((rst (on) [0x405, 0, 3] ([]))), by decide +kernel⟩,
    ⟨((cst (on) [0x406, 31] ([]))), by decide +kernel⟩,
    ⟨((cst (on) [0x406, 32] (List.replicate 32 7))), by decide +kernel⟩,
    ⟨on, (List.replicate 32 7), by decide +kernel⟩,
    ⟨((cst ({ on with mram := { on.mram with scrubActive := true } }) [0x407, 0] ([]))), by decide +kernel⟩,
    ⟨((cst (on) [0x407, 0] ([]))), by decide +kernel⟩⟩

theorem witness_EventQueue :
    (∃ s : State, ∃ b : Fin 16, (tget [] s.flt.post (b.val + 1) = [])) ∧
    (∃ s : State, ∃ b : Fin 16, ∃ p : Posting, ∃ rest : List Posting, (tget [] s.flt.post (b.val + 1) = p :: rest) ∧ (s.flt.queue.length < 4096)) ∧
    (∃ s : State, ∃ b : Fin 16, ∃ p : Posting, ∃ rest : List Posting, (tget [] s.flt.post (b.val + 1) = p :: rest) ∧ (let up := p.esc = false ∧ 2 ≤ p.cls ∧ p.cls < 7 ∧ s.onStack p.code p.inst = true; (let c := if up then p.cls + 1 else p.cls; (4096 ≤ s.flt.queue.length) ∧ ((∀ e ∈ s.candidates, c < e.cls))))) ∧
    (∃ s : State, ∃ b : Fin 16, ∃ p : Posting, ∃ rest : List Posting, (tget [] s.flt.post (b.val + 1) = p :: rest) ∧ (let up := p.esc = false ∧ 2 ≤ p.cls ∧ p.cls < 7 ∧ s.onStack p.code p.inst = true; (let c := if up then p.cls + 1 else p.cls; ∃ v : EvEntry, ((s.victim = some v) ∧ (4096 ≤ s.flt.queue.length) ∧ (v.cls ≤ c))))) ∧
    (∃ s : State, ∃ pre : List EvEntry, ∃ post : List EvEntry, ∃ v : EvEntry, ((s.flt.queue.filter (fun e => e.handling != .stacked) = pre ++ v :: post) ∧ ((∀ x ∈ pre, v.cls < x.cls)) ∧ ((∀ x ∈ post, v.cls ≤ x.cls)))) ∧
    (∃ s : State, ∃ pre : List EvEntry, ∃ post : List EvEntry, ∃ w : EvEntry, ((s.flt.queue.filter (fun e => e.handling == .waiting) = pre ++ w :: post) ∧ ((∀ x ∈ pre, x.cls < w.cls)) ∧ ((∀ x ∈ post, x.cls ≤ w.cls)))) ∧
    (∃ s : State, ∃ m : Master, ∃ v : Word, (s.writable m FLT_FAULT_DONE)) ∧
    (∃ s : State, ∃ i : StackItem, (s.flt.stack.head? = some i) ∧ ∃ e : EvEntry, (s.topFault = some e) ∧ (i.timedOut = true)) ∧
    (∃ s : State, ∃ i : StackItem, (s.flt.stack.head? = some i) ∧ ∃ e : EvEntry, (s.topFault = some e) ∧ (i.timedOut = false)) ∧
    (∃ s : State, (s.topFault = none)) ∧
    (∃ s : State, (let host := s.fldB FLT_CTL FLT_CTL_reader; ∃ m : Master, ∃ v : Word, (s.writable m FLT_EVQ_ACK) ∧ (let reader := if host then Master.pcie else Master.warden; (m ≠ reader)))) ∧
    (∃ s : State, (let host := s.fldB FLT_CTL FLT_CTL_reader; ∃ m : Master, ∃ v : Word, (s.writable m FLT_EVQ_ACK) ∧ (let reader := if host then Master.pcie else Master.warden; (let found := s.flt.queue.find? (fun x => x.slot == v.toNat % 2 ^ 20 / 256 && x.gen == v.toNat % 256); (m = reader) ∧ (found = none))))) ∧
    (∃ s : State, (let host := s.fldB FLT_CTL FLT_CTL_reader; ∃ m : Master, ∃ v : Word, (s.writable m FLT_EVQ_ACK) ∧ (let reader := if host then Master.pcie else Master.warden; (let found := s.flt.queue.find? (fun x => x.slot == v.toNat % 2 ^ 20 / 256 && x.gen == v.toNat % 256); ∃ e : EvEntry, (found = some e) ∧ (m = reader))))) ∧
    (∃ s : State, ∃ code : Nat, (s.bank.open_ = none) ∧ (s.bank.posted = [])) ∧
    (∃ s : State, ∃ code : Nat, (s.bank.open_.isSome = true ∨ s.bank.posted ≠ [])) ∧
    (∃ s : State, (s.serving = false ∨ s.topFault = none)) ∧
    (∃ s : State, ∃ e : EvEntry, (s.topFault = some e) ∧ (s.serving = true) ∧ (let entry := ((s.profileNow.map (fun b => b.set.policy)).getD []).find? (fun p => p.code == e.code); (let act : Nat := match entry with | some p => if p.action = 0 then (if e.cls = 3 then 1 else 2) else p.action | none => if e.cls = 3 then 1 else 2; (act = 1)))) ∧
    (∃ s : State, ∃ e : EvEntry, (s.topFault = some e) ∧ (s.serving = true) ∧ (let entry := ((s.profileNow.map (fun b => b.set.policy)).getD []).find? (fun p => p.code == e.code); (let act : Nat := match entry with | some p => if p.action = 0 then (if e.cls = 3 then 1 else 2) else p.action | none => if e.cls = 3 then 1 else 2; (act = 2)))) ∧
    (∃ s : State, ∃ e : EvEntry, (s.topFault = some e) ∧ (s.serving = true) ∧ (let entry := ((s.profileNow.map (fun b => b.set.policy)).getD []).find? (fun p => p.code == e.code); (let act : Nat := match entry with | some p => if p.action = 0 then (if e.cls = 3 then 1 else 2) else p.action | none => if e.cls = 3 then 1 else 2; (let placed := (s.plc.prog.fixedRoutines.filter (fun r => (s.coreOf r).isSome)).reverse; (act = 3) ∧ ((∀ r ∈ placed, (s.routine r).shedClass = 3)))))) ∧
    (∃ s : State, ∃ e : EvEntry, (s.topFault = some e) ∧ (s.serving = true) ∧ (let entry := ((s.profileNow.map (fun b => b.set.policy)).getD []).find? (fun p => p.code == e.code); (let act : Nat := match entry with | some p => if p.action = 0 then (if e.cls = 3 then 1 else 2) else p.action | none => if e.cls = 3 then 1 else 2; (let placed := (s.plc.prog.fixedRoutines.filter (fun r => (s.coreOf r).isSome)).reverse; ∃ c, c < 3 ∧ ((act = 3) ∧ ((∃ r ∈ placed, (s.routine r).shedClass = c)) ∧ ((∀ r ∈ placed, c ≤ (s.routine r).shedClass))))))) ∧
    (∃ s : State, ∃ e : EvEntry, (s.topFault = some e) ∧ (s.serving = true) ∧ (let entry := ((s.profileNow.map (fun b => b.set.policy)).getD []).find? (fun p => p.code == e.code); (let act : Nat := match entry with | some p => if p.action = 0 then (if e.cls = 3 then 1 else 2) else p.action | none => if e.cls = 3 then 1 else 2; (let port := e.code / 256 = 8 ∨ e.code / 256 = 5 ∨ e.code ∈ [0x0404, 0x0405, 0x0406, 0x0408, 0x0409, 0x0A01, 0x0A02, 0x0A03]; (let unit := e.inst; ((act = 4) ∧ (port) ∧ (unit < 28))))))) ∧
    (∃ s : State, ∃ e : EvEntry, (s.topFault = some e) ∧ (s.serving = true) ∧ (let entry := ((s.profileNow.map (fun b => b.set.policy)).getD []).find? (fun p => p.code == e.code); (let act : Nat := match entry with | some p => if p.action = 0 then (if e.cls = 3 then 1 else 2) else p.action | none => if e.cls = 3 then 1 else 2; (let unit := e.inst; ((act = 4) ∧ (e.code / 256 = 9) ∧ (unit < 24)))))) ∧
    (∃ s : State, ∃ e : EvEntry, (s.topFault = some e) ∧ (s.serving = true) ∧ (let entry := ((s.profileNow.map (fun b => b.set.policy)).getD []).find? (fun p => p.code == e.code); (let act : Nat := match entry with | some p => if p.action = 0 then (if e.cls = 3 then 1 else 2) else p.action | none => if e.cls = 3 then 1 else 2; (let port := e.code / 256 = 8 ∨ e.code / 256 = 5 ∨ e.code ∈ [0x0404, 0x0405, 0x0406, 0x0408, 0x0409, 0x0A01, 0x0A02, 0x0A03]; (let unit := e.inst; ((act = 4) ∧ (¬(port ∧ unit < 28)) ∧ (¬(e.code / 256 = 9 ∧ unit < 24)))))))) ∧
    (∃ s : State, ∃ e : EvEntry, (s.topFault = some e) ∧ (s.serving = true) ∧ (let entry := ((s.profileNow.map (fun b => b.set.policy)).getD []).find? (fun p => p.code == e.code); (let act : Nat := match entry with | some p => if p.action = 0 then (if e.cls = 3 then 1 else 2) else p.action | none => if e.cls = 3 then 1 else 2; (let waits := s.wrd.inProgress = true ∨ s.wrd.switching.isSome = true ∨ s.updating = true; (act = 5) ∧ (waits))))) ∧
    (∃ s : State, ∃ e : EvEntry, (s.topFault = some e) ∧ (s.serving = true) ∧ (let entry := ((s.profileNow.map (fun b => b.set.policy)).getD []).find? (fun p => p.code == e.code); (let act : Nat := match entry with | some p => if p.action = 0 then (if e.cls = 3 then 1 else 2) else p.action | none => if e.cls = 3 then 1 else 2; (let profile := (entry.map (fun p => p.profile)).getD 0; (let waits := s.wrd.inProgress = true ∨ s.wrd.switching.isSome = true ∨ s.updating = true; (let active := s.wrd.run.isSome = true ∧ s.activeProfile = profile; ((act = 5) ∧ (¬waits) ∧ (active)))))))) ∧
    (∃ s : State, ∃ e : EvEntry, (s.topFault = some e) ∧ (s.serving = true) ∧ (let entry := ((s.profileNow.map (fun b => b.set.policy)).getD []).find? (fun p => p.code == e.code); (let act : Nat := match entry with | some p => if p.action = 0 then (if e.cls = 3 then 1 else 2) else p.action | none => if e.cls = 3 then 1 else 2; (let profile := (entry.map (fun p => p.profile)).getD 0; (let waits := s.wrd.inProgress = true ∨ s.wrd.switching.isSome = true ∨ s.updating = true; (let active := s.wrd.run.isSome = true ∧ s.activeProfile = profile; ((act = 5) ∧ (¬waits) ∧ (¬active)))))))) ∧
    (∃ s : State, ∃ e : EvEntry, (s.topFault = some e) ∧ (s.serving = true) ∧ (let entry := ((s.profileNow.map (fun b => b.set.policy)).getD []).find? (fun p => p.code == e.code); (let act : Nat := match entry with | some p => if p.action = 0 then (if e.cls = 3 then 1 else 2) else p.action | none => if e.cls = 3 then 1 else 2; (act = 6)))) ∧
    (∃ s : State, ∃ e : EvEntry, (s.topFault = some e) ∧ (s.serving = true) ∧ (let entry := ((s.profileNow.map (fun b => b.set.policy)).getD []).find? (fun p => p.code == e.code); (let act : Nat := match entry with | some p => if p.action = 0 then (if e.cls = 3 then 1 else 2) else p.action | none => if e.cls = 3 then 1 else 2; (7 ≤ act)))) := by
  exact ⟨⟨on, 15, by decide +kernel⟩,
    ⟨{ on with flt := { (on).flt with post := [(16, [{ code := 0x0803, cls := 0, inst := 7, detail := 9, ts := 5, esc := false }])] } }, 15, { code := 0x0803, cls := 0, inst := 7, detail := 9, ts := 5, esc := false }, [], by decide +kernel⟩,
    ⟨{ on with flt := { (on).flt with post := [(16, [{ code := 0x0803, cls := 1, inst := 7, detail := 9, ts := 5, esc := false }])], queue := (List.range 4096).map (fun k => evt 2 k .none) } }, 15, { code := 0x0803, cls := 1, inst := 7, detail := 9, ts := 5, esc := false }, [], by decide +kernel⟩,
    ⟨{ on with flt := { (on).flt with post := [(16, [{ code := 0x0803, cls := 2, inst := 7, detail := 9, ts := 5, esc := false }])], queue := (List.range 4096).map (fun k => evt 2 k .none) } }, 15, { code := 0x0803, cls := 2, inst := 7, detail := 9, ts := 5, esc := false }, [], by decide +kernel, ((evt 2 0 .none)), by decide +kernel⟩,
    ⟨{ on with flt := { (on).flt with queue := [evt 5 0 .stacked, evt 4 1 .waiting, evt 3 2 .waiting, evt 3 3 .none], stack := [{ slot := 0 }] } }, ([evt 4 1 .waiting]), ([evt 3 3 .none]), (evt 3 2 .waiting), by decide +kernel⟩,
    ⟨{ on with flt := { (on).flt with queue := [evt 5 0 .stacked, evt 3 2 .waiting, evt 4 1 .waiting, evt 4 3 .waiting] } }, ([evt 3 2 .waiting]), ([evt 4 3 .waiting]), (evt 4 1 .waiting), by decide +kernel⟩,
    ⟨{ on with flt := { (on).flt with queue := [evt 5 0 .stacked, evt 4 1 .waiting, evt 3 2 .waiting, evt 3 3 .none], stack := [{ slot := 0 }] } }, .warden, 1, by decide +kernel⟩,
    ⟨{ on with flt := { (on).flt with queue := [evt 6 0 .stacked], stack := [{ slot := 0, timedOut := true }, { slot := 5 }] } }, { slot := 0, timedOut := true }, by decide +kernel, (evt 6 0 .stacked), by decide +kernel⟩,
    ⟨{ on with flt := { (on).flt with queue := [evt 6 0 .stacked], stack := [{ slot := 0 }, { slot := 5 }] } }, { slot := 0 }, by decide +kernel, (evt 6 0 .stacked), by decide +kernel⟩,
    ⟨on, by decide +kernel⟩,
    ⟨{ on with flt := { (on).flt with queue := [evt 5 0 .stacked, evt 4 1 .waiting, evt 3 2 .waiting, evt 3 3 .none], stack := [{ slot := 0 }] } }, .debug, 0, by decide +kernel⟩,
    ⟨{ on with flt := { (on).flt with queue := [evt 5 0 .stacked, evt 4 1 .waiting, evt 3 2 .waiting, evt 3 3 .none], stack := [{ slot := 0 }] } }, .warden, 1, by decide +kernel⟩,
    ⟨{ on with flt := { (on).flt with queue := [evt 5 0 .stacked, evt 1 7 .none] } }, .warden, 0x700, by decide +kernel, (evt 1 7 .none), by decide +kernel⟩,
    ⟨on, 0, by decide +kernel⟩,
    ⟨{ on with bank := { on.bank with posted := [({ master := none, frame := 0, tries := 0 }, true, true)], nextSeq := 15 } }, 0x303, by decide +kernel⟩,
    ⟨on, by decide +kernel⟩,
    ⟨{ (({ on with dev := { on.dev with state := .full }, wrd := { on.wrd with run := some { set := { policy := [{ code := 0x0803, action := 1, profile := 2 }] } } } }).setFld SYS_BOOT_STATUS SYS_BOOT_STATUS_phase 3) with flt := { ((({ on with dev := { on.dev with state := .full }, wrd := { on.wrd with run := some { set := { policy := [{ code := 0x0803, action := 1, profile := 2 }] } } } }).setFld SYS_BOOT_STATUS SYS_BOOT_STATUS_phase 3)).flt with queue := [evt 4 0 .stacked, evt 3 1 .waiting], stack := [{ slot := 0 }] } }, (evt 4 0 .stacked), by decide +kernel⟩,
    ⟨{ (({ on with dev := { on.dev with state := .full }, wrd := { on.wrd with run := some { set := { policy := [{ code := 0x0803, action := 2, profile := 2 }] } } } }).setFld SYS_BOOT_STATUS SYS_BOOT_STATUS_phase 3) with flt := { ((({ on with dev := { on.dev with state := .full }, wrd := { on.wrd with run := some { set := { policy := [{ code := 0x0803, action := 2, profile := 2 }] } } } }).setFld SYS_BOOT_STATUS SYS_BOOT_STATUS_phase 3)).flt with queue := [evt 4 0 .stacked, evt 3 1 .waiting], stack := [{ slot := 0 }] } }, (evt 4 0 .stacked), by decide +kernel⟩,
    ⟨{ (({ on with dev := { on.dev with state := .full }, wrd := { on.wrd with run := some { set := { policy := [{ code := 0x0803, action := 3, profile := 2 }] } } } }).setFld SYS_BOOT_STATUS SYS_BOOT_STATUS_phase 3) with flt := { ((({ on with dev := { on.dev with state := .full }, wrd := { on.wrd with run := some { set := { policy := [{ code := 0x0803, action := 3, profile := 2 }] } } } }).setFld SYS_BOOT_STATUS SYS_BOOT_STATUS_phase 3)).flt with queue := [evt 4 0 .stacked, evt 3 1 .waiting], stack := [{ slot := 0 }] } }, (evt 4 0 .stacked), by decide +kernel⟩,
    ⟨((((((((((({ { (({ on with dev := { on.dev with state := .full }, wrd := { on.wrd with run := some { set := { policy := [{ code := 0x0803, action := 3, profile := 2 }] } } } }).setFld SYS_BOOT_STATUS SYS_BOOT_STATUS_phase 3) with flt := { ((({ on with dev := { on.dev with state := .full }, wrd := { on.wrd with run := some { set := { policy := [{ code := 0x0803, action := 3, profile := 2 }] } } } }).setFld SYS_BOOT_STATUS SYS_BOOT_STATUS_phase 3)).flt with queue := [evt 4 0 .stacked, evt 3 1 .waiting], stack := [{ slot := 0 }] } } with plc := { ({ (({ on with dev := { on.dev with state := .full }, wrd := { on.wrd with run := some { set := { policy := [{ code := 0x0803, action := 3, profile := 2 }] } } } }).setFld SYS_BOOT_STATUS SYS_BOOT_STATUS_phase 3) with flt := { ((({ on with dev := { on.dev with state := .full }, wrd := { on.wrd with run := some { set := { policy := [{ code := 0x0803, action := 3, profile := 2 }] } } } }).setFld SYS_BOOT_STATUS SYS_BOOT_STATUS_phase 3)).flt with queue := [evt 4 0 .stacked, evt 3 1 .waiting], stack := [{ slot := 0 }] } }).plc with prog := { routines := [{ code := [], shedClass := 3 }, { code := [], shedClass := 1 }, { code := [], shedClass := 0 }, { code := [], shedClass := 1 }, { code := [], shedClass := 0 }] } } }).setFld (PLC_MAP 0) PLC_MAP_placed 1).setFld (PLC_MAP 0) PLC_MAP_core 0).setFld (PLC_MAP 1) PLC_MAP_placed 1).setFld (PLC_MAP 1) PLC_MAP_core 1).setFld (PLC_MAP 2) PLC_MAP_placed 1).setFld (PLC_MAP 2) PLC_MAP_core 2).setFld (PLC_MAP 3) PLC_MAP_placed 1).setFld (PLC_MAP 3) PLC_MAP_core 3).setFld (PLC_MAP 4) PLC_MAP_placed 1).setFld (PLC_MAP 4) PLC_MAP_core 4), (evt 4 0 .stacked), by decide +kernel, by decide +kernel, 0, by decide +kernel⟩,
    ⟨{ (({ on with dev := { on.dev with state := .full }, wrd := { on.wrd with run := some { set := { policy := [{ code := 0x0803, action := 4, profile := 2 }] } } } }).setFld SYS_BOOT_STATUS SYS_BOOT_STATUS_phase 3) with flt := { ((({ on with dev := { on.dev with state := .full }, wrd := { on.wrd with run := some { set := { policy := [{ code := 0x0803, action := 4, profile := 2 }] } } } }).setFld SYS_BOOT_STATUS SYS_BOOT_STATUS_phase 3)).flt with queue := [evt 4 0 .stacked, evt 3 1 .waiting], stack := [{ slot := 0 }] } }, (evt 4 0 .stacked), by decide +kernel⟩,
    ⟨{ (({ on with dev := { on.dev with state := .full }, wrd := { on.wrd with run := some { set := { policy := [{ code := 0x0903, action := 4, profile := 2 }] } } } }).setFld SYS_BOOT_STATUS SYS_BOOT_STATUS_phase 3) with flt := { ((({ on with dev := { on.dev with state := .full }, wrd := { on.wrd with run := some { set := { policy := [{ code := 0x0903, action := 4, profile := 2 }] } } } }).setFld SYS_BOOT_STATUS SYS_BOOT_STATUS_phase 3)).flt with queue := [{ evt 4 0 .stacked with code := 0x0903 }, evt 3 1 .waiting], stack := [{ slot := 0 }] } }, { evt 4 0 .stacked with code := 0x0903 }, by decide +kernel⟩,
    ⟨{ (({ on with dev := { on.dev with state := .full }, wrd := { on.wrd with run := some { set := { policy := [{ code := 0x0A10, action := 4, profile := 2 }] } } } }).setFld SYS_BOOT_STATUS SYS_BOOT_STATUS_phase 3) with flt := { ((({ on with dev := { on.dev with state := .full }, wrd := { on.wrd with run := some { set := { policy := [{ code := 0x0A10, action := 4, profile := 2 }] } } } }).setFld SYS_BOOT_STATUS SYS_BOOT_STATUS_phase 3)).flt with queue := [{ evt 4 0 .stacked with code := 0x0A10 }, evt 3 1 .waiting], stack := [{ slot := 0 }] } }, { evt 4 0 .stacked with code := 0x0A10 }, by decide +kernel⟩,
    ⟨{ { (({ on with dev := { on.dev with state := .full }, wrd := { on.wrd with run := some { set := { policy := [{ code := 0x0803, action := 5, profile := 2 }] } } } }).setFld SYS_BOOT_STATUS SYS_BOOT_STATUS_phase 3) with flt := { ((({ on with dev := { on.dev with state := .full }, wrd := { on.wrd with run := some { set := { policy := [{ code := 0x0803, action := 5, profile := 2 }] } } } }).setFld SYS_BOOT_STATUS SYS_BOOT_STATUS_phase 3)).flt with queue := [evt 4 0 .stacked, evt 3 1 .waiting], stack := [{ slot := 0 }] } } with wrd := { ({ (({ on with dev := { on.dev with state := .full }, wrd := { on.wrd with run := some { set := { policy := [{ code := 0x0803, action := 5, profile := 2 }] } } } }).setFld SYS_BOOT_STATUS SYS_BOOT_STATUS_phase 3) with flt := { ((({ on with dev := { on.dev with state := .full }, wrd := { on.wrd with run := some { set := { policy := [{ code := 0x0803, action := 5, profile := 2 }] } } } }).setFld SYS_BOOT_STATUS SYS_BOOT_STATUS_phase 3)).flt with queue := [evt 4 0 .stacked, evt 3 1 .waiting], stack := [{ slot := 0 }] } }).wrd with inProgress := true } }, (evt 4 0 .stacked), by decide +kernel⟩,
    ⟨{ (({ on with dev := { on.dev with state := .full }, wrd := { on.wrd with run := some { set := { policy := [{ code := 0x0803, action := 5, profile := 0 }] } } } }).setFld SYS_BOOT_STATUS SYS_BOOT_STATUS_phase 3) with flt := { ((({ on with dev := { on.dev with state := .full }, wrd := { on.wrd with run := some { set := { policy := [{ code := 0x0803, action := 5, profile := 0 }] } } } }).setFld SYS_BOOT_STATUS SYS_BOOT_STATUS_phase 3)).flt with queue := [evt 4 0 .stacked, evt 3 1 .waiting], stack := [{ slot := 0 }] } }, (evt 4 0 .stacked), by decide +kernel⟩,
    ⟨{ (({ on with dev := { on.dev with state := .full }, wrd := { on.wrd with run := some { set := { policy := [{ code := 0x0803, action := 5, profile := 2 }] } } } }).setFld SYS_BOOT_STATUS SYS_BOOT_STATUS_phase 3) with flt := { ((({ on with dev := { on.dev with state := .full }, wrd := { on.wrd with run := some { set := { policy := [{ code := 0x0803, action := 5, profile := 2 }] } } } }).setFld SYS_BOOT_STATUS SYS_BOOT_STATUS_phase 3)).flt with queue := [evt 4 0 .stacked, evt 3 1 .waiting], stack := [{ slot := 0 }] } }, (evt 4 0 .stacked), by decide +kernel⟩,
    ⟨{ (({ on with dev := { on.dev with state := .full }, wrd := { on.wrd with run := some { set := { policy := [{ code := 0x0803, action := 6, profile := 2 }] } } } }).setFld SYS_BOOT_STATUS SYS_BOOT_STATUS_phase 3) with flt := { ((({ on with dev := { on.dev with state := .full }, wrd := { on.wrd with run := some { set := { policy := [{ code := 0x0803, action := 6, profile := 2 }] } } } }).setFld SYS_BOOT_STATUS SYS_BOOT_STATUS_phase 3)).flt with queue := [evt 4 0 .stacked, evt 3 1 .waiting], stack := [{ slot := 0 }] } }, (evt 4 0 .stacked), by decide +kernel⟩,
    ⟨{ (({ on with dev := { on.dev with state := .full }, wrd := { on.wrd with run := some { set := { policy := [{ code := 0x0803, action := 7, profile := 2 }] } } } }).setFld SYS_BOOT_STATUS SYS_BOOT_STATUS_phase 3) with flt := { ((({ on with dev := { on.dev with state := .full }, wrd := { on.wrd with run := some { set := { policy := [{ code := 0x0803, action := 7, profile := 2 }] } } } }).setFld SYS_BOOT_STATUS SYS_BOOT_STATUS_phase 3)).flt with queue := [evt 4 0 .stacked, evt 3 1 .waiting], stack := [{ slot := 0 }] } }, (evt 4 0 .stacked), by decide +kernel⟩⟩

theorem witness_Memories_1 :
    (∃ s : State, ∃ m : Master, ∃ addr : BitVec 40, ∃ bs : List (Option Byte), (s.running = false)) ∧
    (∃ s : State, ∃ m : Master, ∃ addr : BitVec 40, ∃ bs : List (Option Byte), (let n := bs.length; (let ok := accessOk m true addr.toNat n = true; ((s.running = true) ∧ (m ≠ .pcie) ∧ (¬ok))))) ∧
    (∃ s : State, (let lost := fun a : Nat => (memoryAt a).any (fun k => (s.eccOf k).lost.contains (a / 8)) = true; ∃ m : Master, ∃ addr : BitVec 40, ∃ bs : List (Option Byte), (let n := bs.length; (let a := addr.toNat % 2 ^ 38; (let all := ∀ b ∈ bs, b ≠ none; (let ok := accessOk m true addr.toNat n = true; ((s.running = true) ∧ (m ≠ .pcie) ∧ (ok) ∧ (all) ∧ (n < 8) ∧ (lost a)))))))) ∧
    (∃ s : State, ∃ m : Master, ∃ addr : BitVec 40, ∃ bs : List (Option Byte), (let n := bs.length; (let all := ∀ b ∈ bs, b ≠ none; (let ok := accessOk m true addr.toNat n = true; ((s.running = true) ∧ (m ≠ .pcie) ∧ (ok) ∧ (¬all)))))) ∧
    (∃ s : State, (let lost := fun a : Nat => (memoryAt a).any (fun k => (s.eccOf k).lost.contains (a / 8)) = true; ∃ m : Master, ∃ addr : BitVec 40, ∃ bs : List (Option Byte), (let n := bs.length; (let a := addr.toNat % 2 ^ 38; (let all := ∀ b ∈ bs, b ≠ none; (let ok := accessOk m true addr.toNat n = true; ((s.running = true) ∧ (m ≠ .pcie) ∧ (ok) ∧ (n = 8 ∨ ¬lost a) ∧ (all) ∧ (blockAt a = none) ∧ (isMram a = false) ∧ (streamsIn a n = []) ∧ (tableGap a = false)))))))) ∧
    (∃ s : State, ∃ m : Master, ∃ addr : BitVec 40, ∃ bs : List (Option Byte), (let n := bs.length; (let a := addr.toNat % 2 ^ 38; (let all := ∀ b ∈ bs, b ≠ none; (let ok := accessOk m true addr.toNat n = true; ((s.running = true) ∧ (m ≠ .pcie) ∧ (ok) ∧ (all) ∧ (tableGap a = true))))))) ∧
    (∃ s : State, ∃ m : Master, ∃ addr : BitVec 40, ∃ bs : List (Option Byte), (let n := bs.length; (let a := addr.toNat % 2 ^ 38; (let all := ∀ b ∈ bs, b ≠ none; (let ok := accessOk m true addr.toNat n = true; ((s.running = true) ∧ (m ≠ .pcie) ∧ (ok) ∧ (all) ∧ (isMram a = true) ∧ (n < 8) ∧ (s.mramLost (a - 0x10000000) n = true))))))) ∧
    (∃ s : State, ∃ m : Master, ∃ addr : BitVec 40, ∃ bs : List (Option Byte), (let n := bs.length; (let a := addr.toNat % 2 ^ 38; (let all := ∀ b ∈ bs, b ≠ none; (let ok := accessOk m true addr.toNat n = true; ((s.running = true) ∧ (m ≠ .pcie) ∧ (ok) ∧ (all) ∧ (isMram a = true) ∧ (n = 8 ∨ s.mramLost (a - 0x10000000) n = false)) ∧ ((∀ l, tget 0 s.mram.wear l < 79999999))))))) ∧
    (∃ s : State, ∃ m : Master, ∃ addr : BitVec 40, ∃ bs : List (Option Byte), (let n := bs.length; (let a := addr.toNat % 2 ^ 38; (let all := ∀ b ∈ bs, b ≠ none; (let ok := accessOk m true addr.toNat n = true; ((s.running = true) ∧ (m ≠ .pcie) ∧ (ok) ∧ (all) ∧ (streamsIn a n ≠ []) ∧ (s.csg.owed = []))))))) ∧
    (∃ s : State, ∃ m : Master, ∃ addr : BitVec 40, ∃ bs : List (Option Byte), (let n := bs.length; (let a := addr.toNat % 2 ^ 38; (let all := ∀ b ∈ bs, b ≠ none; (let ok := accessOk m true addr.toNat n = true; ((s.running = true) ∧ (m ≠ .pcie) ∧ (ok) ∧ (all) ∧ (blockAt a ≠ none))))))) ∧
    (∃ s : State, ∃ m : Master, ∃ addr : BitVec 40, ∃ bs : List (Option Byte), (let n := bs.length; (s.running = true) ∧ (blockAt addr.toNat = none ∨ addr.toNat % 4 ≠ 0 ∨ n % 4 ≠ 0))) ∧
    (∃ s : State, ∃ m : Master, ∃ addr : BitVec 40, ∃ bs : List (Option Byte), ∃ w : Word, ∃ x : Word, ((s.running = true) ∧ (blockAt addr.toNat ≠ none) ∧ (addr.toNat % 4 = 0))) ∧
    (∃ s : State, ∃ m : Master, ∃ addr : BitVec 40, ∃ bs : List (Option Byte), ∃ w : Word, ∃ x : Word, ((s.running = true) ∧ (blockAt addr.toNat ≠ none) ∧ (addr.toNat % 4 = 0)) ∧ (let inside := mapRegion addr.toNat = mapRegion (addr.toNat + 7); (inside))) ∧
    (∃ s : State, ∃ m : Master, ∃ addr : BitVec 40, ∃ bs : List (Option Byte), ∃ w : Word, ∃ x : Word, ((s.running = true) ∧ (blockAt addr.toNat ≠ none) ∧ (addr.toNat % 4 = 0)) ∧ (let inside := mapRegion addr.toNat = mapRegion (addr.toNat + 7); (inside))) ∧
    (∃ s : State, ∃ m : Master, ∃ addr : BitVec 40, ∃ bs : List (Option Byte), ∃ w : Word, ∃ x : Word, ((s.running = true) ∧ (blockAt addr.toNat ≠ none) ∧ (addr.toNat % 4 = 0)) ∧ (let inside := mapRegion addr.toNat = mapRegion (addr.toNat + 7); (¬inside))) ∧
    (∃ s : State, ∃ m : Master, ∃ addr : BitVec 40, ∃ bs : List (Option Byte), ∃ w : Word, ∃ x : Word, ((s.running = true) ∧ (blockAt addr.toNat ≠ none) ∧ (addr.toNat % 4 = 0)) ∧ (let inside := mapRegion addr.toNat = mapRegion (addr.toNat + 7); (¬inside))) ∧
    (∃ s : State, ∃ m : Master, ∃ addr : BitVec 40, ∃ bs : List (Option Byte), ∃ w : Word, ∃ x : Word, ((s.running = true) ∧ (blockAt addr.toNat ≠ none) ∧ (addr.toNat % 4 = 0))) ∧
    (∃ s : State, ∃ m : Master, ∃ clear : Bool, ∃ wide : Bool, ∃ addr : BitVec 38, ∃ v : DWord, (s.running = false)) ∧
    (∃ s : State, ∃ m : Master, ∃ clear : Bool, ∃ wide : Bool, ∃ addr : BitVec 38, ∃ v : DWord, (let n := if wide then 8 else 4; (let full := (if clear then 2 else 1) * 2 ^ 38 + addr.toNat; (let ok := accessOk m true full n = true; (s.running = true) ∧ (¬ok))))) ∧
    (∃ s : State, (let lost := fun a : Nat => (memoryAt a).any (fun k => (s.eccOf k).lost.contains (a / 8)) = true; ∃ m : Master, ∃ clear : Bool, ∃ wide : Bool, ∃ addr : BitVec 38, ∃ v : DWord, (let n := if wide then 8 else 4; (let full := (if clear then 2 else 1) * 2 ^ 38 + addr.toNat; (let a := addr.toNat; (let ok := accessOk m true full n = true; ((s.running = true) ∧ (ok) ∧ (lost a)))))))) ∧
    (∃ s : State, (let lost := fun a : Nat => (memoryAt a).any (fun k => (s.eccOf k).lost.contains (a / 8)) = true; ∃ m : Master, ∃ clear : Bool, ∃ wide : Bool, ∃ addr : BitVec 38, ∃ v : DWord, (let n := if wide then 8 else 4; (let full := (if clear then 2 else 1) * 2 ^ 38 + addr.toNat; (let a := addr.toNat; (let ok := accessOk m true full n = true; ((s.running = true) ∧ (ok) ∧ (¬lost a) ∧ (streamsIn a n = []) ∧ (tableGap a = false)))))))) ∧
    (∃ s : State, ∃ m : Master, ∃ clear : Bool, ∃ wide : Bool, ∃ addr : BitVec 38, ∃ v : DWord, (let n := if wide then 8 else 4; (let full := (if clear then 2 else 1) * 2 ^ 38 + addr.toNat; (let a := addr.toNat; (let ok := accessOk m true full n = true; ((s.running = true) ∧ (ok) ∧ (tableGap a = true))))))) ∧
    (∃ s : State, ∃ m : Master, ∃ clear : Bool, ∃ wide : Bool, ∃ addr : BitVec 38, ∃ v : DWord, (let n := if wide then 8 else 4; (let full := (if clear then 2 else 1) * 2 ^ 38 + addr.toNat; (let a := addr.toNat; (let ok := accessOk m true full n = true; ((s.running = true) ∧ (ok) ∧ (streamsIn a n ≠ []) ∧ (s.csg.owed = []))))))) ∧
    (∃ s : State, ∃ m : Master, ∃ v : Word, ∃ burst : Bool, ∃ n12 : Fin 12, ∃ k48 : Fin 48, ∃ p32 : Fin 32, ∃ k256 : Fin 256, ∃ p28 : Fin 28, ∃ g64 : Fin 64, ∃ c512 : Fin 512, ∃ p20 : Fin 20, ∃ e36 : Fin 36, ∃ n24 : Fin 24, ∃ k5 : Fin 5, ∃ b3 : Fin 3, (let rows1 : List (Instr × Nat) := [(.hb m v, BNK_CTL), (.sleepReq m v, BNK_CTL), (.heaterDemandWrite m n12 v, BNK_HTR_DEMAND n12), (.clear m n12 v, BNK_HTR_CMD n12), (.clrMin m v, BNK_SUP_CFG), (.needSwap m v, HLT_GOV_CTL), (.hltTideRateWrite m v, HLT_TIDE_RATE), (.stepGo m v, HLT_TIDE_CTL), (.clrCounts m v, HLT_PMB_CFG), (.clrMax m v, HLT_TEMP_LIM), (.bermConfigWrite m k48 v, if k48 < 32 then SWC_PORT_CFG k48 else SWC_BERM_LO 0 + 4 * (k48 - 32)), (.swcCntClr m p32, SWC_CNT_CLR), (.swcCntClrAll m v, SWC_CNT_CLR), (.policerWrite m v, TMG_POL_CMD), (.policerRead m v, TMG_POL_CMD), (.policerClr m v, TMG_POL_CMD), (.clrGateCnt m v, TMG_CTL), (.clrPolCnt m v, TMG_CTL)]; (let rows2 : List (Instr × Nat) := [(.shaperConfigWrite m k256 burst v, if burst then TMG_SHP_BURST k256 else TMG_SHP_CFG k256), (.change m p28 v, TMG_TT_CTL p28), (.ttEnable m p28 v, TMG_TT_CTL p28), (.tmgTtDataWrite m v, TMG_TT_DATA), (.tmgHistSelWrite m g64 v, TMG_HIST_SEL g64), (.clrWm m v, TMG_GAUGE_CTL), (.clrHist m v, TMG_GAUGE_CTL), (.revert m g64 v, CSG_G_REVERT g64), (.csgGCfgWrite m g64 v, CSG_G_CFG g64), (.csgGBackupWrite m g64 v, CSG_G_BACKUP g64), (.csgFrerCfgWrite m c512 v, CSG_FRER_CFG c512), (.csgClrGuards m v, CSG_CNT_CLR), (.csgClrFrer m v, CSG_CNT_CLR), (.csgClrRefused m v, CSG_CNT_CLR), (.ethPhyCfgWrite m p28 v, ETH_PHY_CFG p28), (.saWord0Write m p20 e36 v, saAddr p20 e36 0), (.txAnSwitch m p20 v, ETH_SEC_CFG p20), (.txtsAck m p28 v, ETH_TXTS_ACK p28)]; (let rows3 : List (Instr × Nat) := [(.tc10SleepReq m p28 v, ETH_TC10_CFG p28), (.wakeReq m p28 v, ETH_TC10_CFG p28), (.ethCntClr m p28 v, ETH_CNT_CLR p28), (.canModeWrite m n24 v, CAN_CTL n24), (.canConfigWrite m n24 k5 v, CAN_CTL n24 + 0x10 + 4 * k5), (.filterElementWrite m n24 v, CAN_FLT_DATA1 n24), (.rxqAck m n24 v, CAN_RXQ_ACK n24), (.submit m n24 v, CAN_TXR_CMD n24), (.cancel m n24 b3 v, CAN_TXB_CMD n24 b3), (.flush m n24 v, CAN_TX_CTL n24), (.canCntClr m n24 v, CAN_CNT_CLR n24), (.canCtlRecover m n24 v, CAN_CTL n24), (.sweepNow m v, TBL_CTL), (.tblCntClr m v, TBL_CNT_CLR), (.resume m v, KPR_RT_CMD), (.routineClr m v, KPR_RT_CMD), (.kprCntClr m v, KPR_CNT_CLR), (.plcCntClr m v, PLC_CNT_CLR)]; (let rows4 : List (Instr × Nat) := [(.go m v, FAB_SIG_SEND), (.rediscover m v, FAB_CTL), (.fabCntClr m v, FAB_CNT_CLR), (.req m v, SEC_LOCK_REQ), (.release m v, SEC_LOCK_REQ), (.engineGo m v, SEC_ENG_CMD), (.rngAck m v, SEC_RNG_ACK), (.secCntClr m v, SEC_CNT_CLR), (.init m v, SEC_SHA_CMD), (.update m v, SEC_SHA_CMD), (.final m v, SEC_SHA_CMD), (.doneFault m v, FLT_FAULT_DONE), (.evqAck m v, FLT_EVQ_ACK), (.fltClrLost m v, FLT_CNT_CLR), (.fltClrSrc m v, FLT_CNT_CLR), (.fltClrEcc m v, FLT_CNT_CLR), (.prod m v, SYS_CMD_PROD), (.cmdAck m v, SYS_CMD_ACK)]; (let rows : List (Instr × Nat) := rows1 ++ rows2 ++ rows3 ++ rows4; (s.running = false) ∧ ∃ x, x ∈ rows)))))) ∧
    (∃ s : State, ∃ m : Master, ∃ v : Word, ∃ burst : Bool, ∃ n12 : Fin 12, ∃ k48 : Fin 48, ∃ p32 : Fin 32, ∃ k256 : Fin 256, ∃ p28 : Fin 28, ∃ g64 : Fin 64, ∃ c512 : Fin 512, ∃ p20 : Fin 20, ∃ e36 : Fin 36, ∃ n24 : Fin 24, ∃ k5 : Fin 5, ∃ b3 : Fin 3, (let rows1 : List (Instr × Nat) := [(.hb m v, BNK_CTL), (.sleepReq m v, BNK_CTL), (.heaterDemandWrite m n12 v, BNK_HTR_DEMAND n12), (.clear m n12 v, BNK_HTR_CMD n12), (.clrMin m v, BNK_SUP_CFG), (.needSwap m v, HLT_GOV_CTL), (.hltTideRateWrite m v, HLT_TIDE_RATE), (.stepGo m v, HLT_TIDE_CTL), (.clrCounts m v, HLT_PMB_CFG), (.clrMax m v, HLT_TEMP_LIM), (.bermConfigWrite m k48 v, if k48 < 32 then SWC_PORT_CFG k48 else SWC_BERM_LO 0 + 4 * (k48 - 32)), (.swcCntClr m p32, SWC_CNT_CLR), (.swcCntClrAll m v, SWC_CNT_CLR), (.policerWrite m v, TMG_POL_CMD), (.policerRead m v, TMG_POL_CMD), (.policerClr m v, TMG_POL_CMD), (.clrGateCnt m v, TMG_CTL), (.clrPolCnt m v, TMG_CTL)]; (let rows2 : List (Instr × Nat) := [(.shaperConfigWrite m k256 burst v, if burst then TMG_SHP_BURST k256 else TMG_SHP_CFG k256), (.change m p28 v, TMG_TT_CTL p28), (.ttEnable m p28 v, TMG_TT_CTL p28), (.tmgTtDataWrite m v, TMG_TT_DATA), (.tmgHistSelWrite m g64 v, TMG_HIST_SEL g64), (.clrWm m v, TMG_GAUGE_CTL), (.clrHist m v, TMG_GAUGE_CTL), (.revert m g64 v, CSG_G_REVERT g64), (.csgGCfgWrite m g64 v, CSG_G_CFG g64), (.csgGBackupWrite m g64 v, CSG_G_BACKUP g64), (.csgFrerCfgWrite m c512 v, CSG_FRER_CFG c512), (.csgClrGuards m v, CSG_CNT_CLR), (.csgClrFrer m v, CSG_CNT_CLR), (.csgClrRefused m v, CSG_CNT_CLR), (.ethPhyCfgWrite m p28 v, ETH_PHY_CFG p28), (.saWord0Write m p20 e36 v, saAddr p20 e36 0), (.txAnSwitch m p20 v, ETH_SEC_CFG p20), (.txtsAck m p28 v, ETH_TXTS_ACK p28)]; (let rows3 : List (Instr × Nat) := [(.tc10SleepReq m p28 v, ETH_TC10_CFG p28), (.wakeReq m p28 v, ETH_TC10_CFG p28), (.ethCntClr m p28 v, ETH_CNT_CLR p28), (.canModeWrite m n24 v, CAN_CTL n24), (.canConfigWrite m n24 k5 v, CAN_CTL n24 + 0x10 + 4 * k5), (.filterElementWrite m n24 v, CAN_FLT_DATA1 n24), (.rxqAck m n24 v, CAN_RXQ_ACK n24), (.submit m n24 v, CAN_TXR_CMD n24), (.cancel m n24 b3 v, CAN_TXB_CMD n24 b3), (.flush m n24 v, CAN_TX_CTL n24), (.canCntClr m n24 v, CAN_CNT_CLR n24), (.canCtlRecover m n24 v, CAN_CTL n24), (.sweepNow m v, TBL_CTL), (.tblCntClr m v, TBL_CNT_CLR), (.resume m v, KPR_RT_CMD), (.routineClr m v, KPR_RT_CMD), (.kprCntClr m v, KPR_CNT_CLR), (.plcCntClr m v, PLC_CNT_CLR)]; (let rows4 : List (Instr × Nat) := [(.go m v, FAB_SIG_SEND), (.rediscover m v, FAB_CTL), (.fabCntClr m v, FAB_CNT_CLR), (.req m v, SEC_LOCK_REQ), (.release m v, SEC_LOCK_REQ), (.engineGo m v, SEC_ENG_CMD), (.rngAck m v, SEC_RNG_ACK), (.secCntClr m v, SEC_CNT_CLR), (.init m v, SEC_SHA_CMD), (.update m v, SEC_SHA_CMD), (.final m v, SEC_SHA_CMD), (.doneFault m v, FLT_FAULT_DONE), (.evqAck m v, FLT_EVQ_ACK), (.fltClrLost m v, FLT_CNT_CLR), (.fltClrSrc m v, FLT_CNT_CLR), (.fltClrEcc m v, FLT_CNT_CLR), (.prod m v, SYS_CMD_PROD), (.cmdAck m v, SYS_CMD_ACK)]; (let rows : List (Instr × Nat) := rows1 ++ rows2 ++ rows3 ++ rows4; (s.running = true) ∧ ∃ x, x ∈ rows ∧ (accessOk m true x.2 4 = false))))))) ∧
    (∃ s : State, ∃ m : Master, ∃ addr : BitVec 40, ∃ wide : Bool, ∃ v : DWord, (s.running = false)) ∧
    (∃ s : State, ∃ m : Master, ∃ addr : BitVec 40, ∃ wide : Bool, ∃ v : DWord, (let n := if wide then 8 else 4; ((s.running = true) ∧ (m ≠ .pcie) ∧ (accessOk m true addr.toNat n = false)))) ∧
    (∃ s : State, ∃ m : Master, ∃ addr : BitVec 40, ∃ wide : Bool, ∃ v : DWord, (s.running = true) ∧ (blockAt addr.toNat = none ∨ addr.toNat % 4 ≠ 0)) ∧
    (∃ s : State, ∃ m : Master, ∃ addr : BitVec 40, ∃ wide : Bool, ∃ v : DWord, ∃ lo : State, ∃ hi : State, ((s.running = true) ∧ (m ≠ .pcie) ∧ (accessOk m true addr.toNat 8 = true) ∧ (blockAt addr.toNat ≠ none)) ∧ (exec (.registerWrite m addr false v) s = .next lo) ∧ (exec (.registerWrite m (addr + 4) false (v >>> 32)) lo = .next hi)) ∧
    (∃ s : State, ∃ m : Master, ∃ off : Fin 16384, ∃ v : DWord, (let a := 0x200F0000 + 4 * off.val; (s.writable m a) ∧ (a ≠ PLC_CNT_CLR) ∧ ∃ d : RegDesc, (regAt a = some d))) ∧
    (∃ s : State, ∃ m : Master, ∃ off : Fin 16384, ∃ v : DWord, (let a := 0x200F0000 + 4 * off.val; ((s.writable m a) ∧ (a ≠ PLC_CNT_CLR) ∧ (regAt a = none)))) ∧
    (∃ s : State, ∃ mem : Fin 83, ∃ a : Nat, ∃ result : Fin 3, ∃ written : Bool, ∃ u : PatrolUnit, (s.running = false ∨ s.fldB FLT_ECC_CFG FLT_ECC_CFG_patrol_en = false)) ∧
    (∃ s : State, ∃ mem : Fin 83, ∃ a : Nat, ∃ written : Bool, ∃ u : PatrolUnit, (s.running = true) ∧ (s.fldB FLT_ECC_CFG FLT_ECC_CFG_patrol_en = true)) ∧
    (∃ s : State, ∃ mem : Fin 83, ∃ a : Nat, ∃ written : Bool, ∃ u : PatrolUnit, (s.running = true) ∧ (s.fldB FLT_ECC_CFG FLT_ECC_CFG_patrol_en = true)) ∧
    (∃ s : State, ∃ mem : Fin 83, ∃ a : Nat, ∃ written : Bool, ∃ u : PatrolUnit, (s.running = true) ∧ (s.fldB FLT_ECC_CFG FLT_ECC_CFG_patrol_en = true)) ∧
    (∃ s : State, ∃ mem : Fin 83, ∃ a : Nat, ∃ written : Bool, ∃ u : PatrolUnit, (s.running = true) ∧ (s.fldB FLT_ECC_CFG FLT_ECC_CFG_patrol_en = true) ∧ ∃ id : Nat, (mem.val < 8)) ∧
    (∃ s : State, ∃ mem : Fin 83, ∃ a : Nat, ∃ written : Bool, ∃ u : PatrolUnit, ((s.running = true) ∧ (s.fldB FLT_ECC_CFG FLT_ECC_CFG_patrol_en = true) ∧ (8 ≤ mem.val) ∧ (mem.val < 72))) ∧
    (∃ s : State, ∃ mem : Fin 83, ∃ a : Nat, ∃ written : Bool, ∃ u : PatrolUnit, ((s.running = true) ∧ (s.fldB FLT_ECC_CFG FLT_ECC_CFG_patrol_en = true) ∧ (72 ≤ mem.val) ∧ (mem.val < 76))) ∧
    (∃ s : State, ∃ mem : Fin 83, ∃ a : Nat, ∃ written : Bool, ∃ u : PatrolUnit, ((s.running = true) ∧ (s.fldB FLT_ECC_CFG FLT_ECC_CFG_patrol_en = true) ∧ (mem.val = 76 + s.wrd.half) ∧ (mem.val < 78))) ∧
    (∃ s : State, ∃ mem : Fin 83, ∃ a : Nat, ∃ written : Bool, ∃ u : PatrolUnit, ((s.running = true) ∧ (s.fldB FLT_ECC_CFG FLT_ECC_CFG_patrol_en = true) ∧ (76 ≤ mem.val) ∧ (mem.val < 78) ∧ (mem.val ≠ 76 + s.wrd.half))) ∧
    (∃ s : State, ∃ mem : Fin 83, ∃ a : Nat, ∃ written : Bool, ∃ u : PatrolUnit, ((s.running = true) ∧ (s.fldB FLT_ECC_CFG FLT_ECC_CFG_patrol_en = true) ∧ (mem.val = 78))) ∧
    (∃ s : State, ∃ mem : Fin 83, ∃ a : Nat, ∃ written : Bool, ∃ u : PatrolUnit, (s.running = true) ∧ (s.fldB FLT_ECC_CFG FLT_ECC_CFG_patrol_en = true) ∧ ∃ slot : Nat, (mem.val = 79)) ∧
    (∃ s : State, ∃ mem : Fin 83, ∃ a : Nat, ∃ written : Bool, ∃ u : PatrolUnit, ((s.running = true) ∧ (s.fldB FLT_ECC_CFG FLT_ECC_CFG_patrol_en = true) ∧ (80 ≤ mem.val))) ∧
    (∃ s : State, ∃ mem : Fin 83, ∃ a : Nat, ∃ written : Bool, ∃ u : PatrolUnit, ((s.running = true) ∧ (s.fldB FLT_ECC_CFG FLT_ECC_CFG_patrol_en = true) ∧ (mem.val < 8 ∨ mem.val = 79 ∨ 80 ≤ mem.val))) ∧
    (∃ s : State, ∃ off : Fin 16777216, ∃ bs : List Byte, ∃ fails : Fin 5, (s.running = false ∨ (bs = [] ∧ fails < 4))) ∧
    (∃ s : State, ∃ off : Fin 16777216, ∃ bs : List Byte, ∃ fails : Fin 5, (s.running = true) ∧ (fails < 4) ∧ ((∀ l, tget 0 s.mram.wear l < 79999999))) ∧
    (∃ s : State, ∃ off : Fin 16777216, ∃ bs : List Byte, ∃ fails : Fin 5, (let line := off.val / 256; (let one := bs ≠ [] ∧ off.val % 256 + bs.length ≤ 256; (let count := tget 0 s.mram.wear line + 1; ((s.running = true) ∧ (fails < 4) ∧ (one) ∧ (count < 80000000 ∨ s.spareFree = 0)))))) ∧
    (∃ s : State, ∃ off : Fin 16777216, ∃ bs : List Byte, ∃ fails : Fin 5, (let line := off.val / 256; (let one := bs ≠ [] ∧ off.val % 256 + bs.length ≤ 256; (let count := tget 0 s.mram.wear line + 1; ((s.running = true) ∧ (fails < 4) ∧ (one) ∧ (80000000 ≤ count)) ∧ (0 < s.spareFree))))) ∧
    (∃ s : State, ∃ off : Fin 16777216, ∃ bs : List Byte, ∃ fails : Fin 5, (let one := bs ≠ [] ∧ off.val % 256 + bs.length ≤ 256; ((s.running = true) ∧ (fails = 4) ∧ (one)) ∧ (0 < s.spareFree))) ∧
    (∃ s : State, ∃ off : Fin 16777216, ∃ bs : List Byte, ∃ fails : Fin 5, (s.running = true) ∧ (fails = 4) ∧ (s.spareFree = 0)) ∧
    (∃ s : State, ∃ off : Nat, ∃ bs : List Byte, ((∀ r ∈ s.mramRecords, off + bs.length ≤ r.1 ∨ r.1 + r.2.length ≤ off))) ∧
    (∃ s : State, (s.running = false)) ∧
    (∃ s : State, (s.running = true)) ∧
    (∃ s : State, ∃ n : Fin 65537, (s.running = false ∨ s.mram.scrubActive = false)) ∧
    (∃ s : State, ∃ n : Fin 65537, (s.running = true) ∧ (s.mram.scrubActive = true) ∧ ((∀ l, tget 0 s.mram.wear l < 79999999)) ∧ (let pos := s.mram.scrubPos; (let total := 65536 + s.mram.spareUsed; (pos ≤ total) ∧ (pos + n.val < total)))) ∧
    (∃ s : State, ∃ n : Fin 65537, (s.running = true) ∧ (s.mram.scrubActive = true) ∧ ((∀ l, tget 0 s.mram.wear l < 79999999)) ∧ (let pos := s.mram.scrubPos; (let total := 65536 + s.mram.spareUsed; (pos ≤ total) ∧ (total ≤ pos + n.val)))) := by
  exact ⟨⟨{ on with dev := { on.dev with state := .logicReset } }, .debug, 0x01000000, ([some 1]), by decide +kernel⟩,
    ⟨on, .debug, 0x01000001, ([some 1, some 2]), by decide +kernel⟩,
    ⟨{ on with flt := { (on).flt with ecc := [(76, { lost := [0x200000] })] } }, .warden, 0x01000004, ([some 1, some 2]), by decide +kernel⟩,
    ⟨on, .debug, 0x01000000, ([some 1, none, some 2, some 3]), by decide +kernel⟩,
    ⟨on, .debug, 0x01000006, ([some 1, some 2]), by decide +kernel⟩,
    ⟨on, .debug, 0x304B9800, ([some 1, some 2]), by decide +kernel⟩,
    ⟨{ (on) with mram := { (on).mram with lost := [31] } }, .warden, 0x100000FC, ([some 1, some 2, some 3, some 4]), by decide +kernel⟩,
    ⟨on, .warden, 0x100000F8, ([some 1, some 2, some 3, some 4, some 5, some 6, some 7, some 8]), by decide +kernel, by intro l; exact (by decide : (0 : Nat) < 79999999)⟩,
    ⟨{ on with mem := [(0x304000A0, 1), (0x304000AE, 3), (0x304000AF, 4)] }, .debug, 0x304000A8, ([some 1, some 2, some 3, some 4, some 5, some 6, some 7, some 8]), by decide +kernel⟩,
    ⟨on, .warden, 0x20060000, ([some 1, some 2, some 3, some 4]), by decide +kernel⟩,
    ⟨on, .pcie, 0x01000000, ([some 1, some 2, some 3, some 4]), by decide +kernel⟩,
    ⟨on, .pcie, 0x20030100, [], 0xFF00FF, 0x12345678, by decide +kernel⟩,
    ⟨on, .pcie, 0x20030100, [], 0xFF00FF, 0x12345678, by decide +kernel⟩,
    ⟨on, .pcie, 0x20030100, [], 0xFF00FF, 0x12345678, by decide +kernel⟩,
    ⟨on, .warden, 0x2000FFFC, [], 5, 0xFFFFFFFF, by decide +kernel⟩,
    ⟨on, .warden, 0x2000FFFC, [], 5, 0xFFFFFFFF, by decide +kernel⟩,
    ⟨on, .pcie, 0x20030100, [], 0xFF00FF, 0x12345678, by decide +kernel⟩,
    ⟨{ on with dev := { on.dev with state := .logicReset } }, .warden, true, true, 0x01000000, 5, by decide +kernel⟩,
    ⟨on, ((.remote 31)), false, false, 0x01000000, 5, by decide +kernel⟩,
    ⟨{ on with flt := { (on).flt with ecc := [(76, { lost := [0x200000] })] } }, .warden, true, true, 0x01000000, 5, by decide +kernel⟩,
    ⟨(on.mwr 0x01000000 8 0xFF00F0F0), .warden, true, true, 0x01000000, 0x3333333333333333, by decide +kernel⟩,
    ⟨on, .warden, false, true, 0x304B9800, 5, by decide +kernel⟩,
    ⟨{ on with mem := [(0x304000A0, 1), (0x304000AE, 3), (0x304000AF, 4)] }, .warden, false, true, 0x304000A8, 0xFFFFFFFFFFFFFFFF, by decide +kernel⟩,
    ⟨{ on with dev := { on.dev with state := .logicReset } }, .pcie, 5, false, 11, 47, 31, 255, 27, 63, 511, 19, 35, 23, 4, 2, by decide +kernel, ((.hb .pcie 5, BNK_CTL)), by decide +kernel⟩,
    ⟨on, .pcie, 5, false, 11, 47, 31, 255, 27, 63, 511, 19, 35, 23, 4, 2, by decide +kernel, ((.update .pcie 5, SEC_SHA_CMD)), by decide +kernel⟩,
    ⟨{ on with dev := { on.dev with state := .logicReset } }, .pcie, 0x20000000, true, 5, by decide +kernel⟩,
    ⟨on, .debug, 0x20000004, true, 5, by decide +kernel⟩,
    ⟨on, .pcie, 0x01000000, true, 5, by decide +kernel⟩,
    ⟨on, .warden, 0x20030100, true, 0x1234567800000099, ((after (exec (.registerWrite .warden 0x20030100 false 0x1234567800000099) (on)))), ((after (exec (.registerWrite .warden 0x20030104 false 0x12345678) ((after (exec (.registerWrite .warden 0x20030100 false 0x1234567800000099) (on))))))), by decide +kernel, rfl, rfl⟩,
    ⟨on, .warden, 4, 0xFFFFFFFFF, by decide +kernel, by decide +kernel, (((regAt (0x200F0000 + 4 * 4)).getD ⟨0, 0, 0, 0, 0, 0, []⟩)), by decide +kernel⟩,
    ⟨on, .debug, 16383, 5, by decide +kernel⟩,
    ⟨{ on with dev := { on.dev with state := .logicReset } }, 82, 8, 2, true, .none, by decide +kernel⟩,
    ⟨((on.setFld FLT_ECC_CFG FLT_ECC_CFG_patrol_en 1)), 82, 8, false, .none, by decide +kernel⟩,
    ⟨((on.setFld FLT_ECC_CFG FLT_ECC_CFG_patrol_en 1)), 82, 0x10FFFFFC, false, .none, by decide +kernel⟩,
    ⟨((on.setFld FLT_ECC_CFG FLT_ECC_CFG_patrol_en 1)), 82, 8, false, .none, by decide +kernel⟩,
    ⟨((on.setFld FLT_ECC_CFG FLT_ECC_CFG_patrol_en 1)), 7, 8, false, .none, by decide +kernel, by decide +kernel, 5, by decide +kernel⟩,
    ⟨((on.setFld FLT_ECC_CFG FLT_ECC_CFG_patrol_en 1)), 71, 0x507E0008, false, .none, by decide +kernel⟩,
    ⟨((on.setFld FLT_ECC_CFG FLT_ECC_CFG_patrol_en 1)), 75, 0x50880000, false, .none, by decide +kernel⟩,
    ⟨((on.setFld FLT_ECC_CFG FLT_ECC_CFG_patrol_en 1)), 76, 8, false, .none, by decide +kernel⟩,
    ⟨((on.setFld FLT_ECC_CFG FLT_ECC_CFG_patrol_en 1)), 77, 8, false, .none, by decide +kernel⟩,
    ⟨((on.setFld FLT_ECC_CFG FLT_ECC_CFG_patrol_en 1)), 78, 0x30000010, false, .none, by decide +kernel⟩,
    ⟨{ (on.setFld FLT_ECC_CFG FLT_ECC_CFG_patrol_en 1) with flt := { on.flt with queue := [evt 3 1 .stacked, evt 2 2 .none], stack := [{ slot := 1 }] } }, 79, 8, false, .none, by decide +kernel, by decide +kernel, 1, by decide +kernel⟩,
    ⟨((on.setFld FLT_ECC_CFG FLT_ECC_CFG_patrol_en 1)), 82, 8, false, (.none), by decide +kernel⟩,
    ⟨((on.setFld FLT_ECC_CFG FLT_ECC_CFG_patrol_en 1)), 7, 8, false, .none, by decide +kernel⟩,
    ⟨{ on with dev := { on.dev with state := .logicReset } }, 4, [1], 4, by decide +kernel⟩,
    ⟨on, 255, ([1, 2]), 3, by decide +kernel, by decide +kernel, by intro l; exact (by decide : (0 : Nat) < 79999999)⟩,
    ⟨{ on with mram := { on.mram with wear := [(1, 79999998)] } }, 511, [1], 3, by decide +kernel⟩,
    ⟨{ on with mram := { on.mram with wear := [(1, 79999999)] } }, 511, [1], 3, by decide +kernel, by { show 0 < 1024 - Config.mramTested.val - 0; have := Config.mramTested.isLt; omega }⟩,
    ⟨on, 511, [1], 4, by decide +kernel, by { show 0 < 1024 - Config.mramTested.val - 0; have := Config.mramTested.isLt; omega }⟩,
    ⟨{ on with mram := { on.mram with spareUsed := 100000 } }, 511, ([1, 2]), 4, by decide +kernel, by decide +kernel, by { show 1024 - Config.mramTested.val - 100000 = 0; omega }⟩,
    ⟨{ on with mram := { on.mram with certificate := [], sub0 := { valid := false }, sub1 := { valid := false } } }, 0x8201, (List.replicate 8 7), by decide +kernel⟩,
    ⟨{ on with dev := { on.dev with state := .logicReset } }, by decide +kernel⟩,
    ⟨on, by decide +kernel⟩,
    ⟨on, 5, by decide +kernel⟩,
    ⟨{ on with mram := { on.mram with scrubActive := true, scrubPos := 65530 } }, 5, by decide +kernel, by decide +kernel, by intro l; exact (by decide : (0 : Nat) < 79999999), by decide +kernel⟩,
    ⟨{ on with mram := { on.mram with scrubActive := true, scrubPos := 65530 } }, 65536, by decide +kernel, by decide +kernel, by intro l; exact (by decide : (0 : Nat) < 79999999), by decide +kernel⟩⟩

theorem witness_Memories_2 :
    (∃ s : State, ((s.running = true) ∧ (s.mram.scrubActive = true) ∧ (79999999 ≤ tget 0 s.mram.wear s.mram.scrubPos)) ∧ (0 < s.spareFree) ∧ (s.mram.scrubPos + 1 < 65536 + s.mram.spareUsed)) := by
  exact ⟨{ on with mram := { on.mram with scrubActive := true, scrubPos := 65530, wear := [(65530, 79999999)] } }, by decide +kernel, by { show 0 < 1024 - Config.mramTested.val - 0; have := Config.mramTested.isLt; omega }, by decide +kernel⟩

end Sys2Proof.Tests
end

/-! The register arithmetic of a keeper core (R251). A ready core executes the word that it stands at and writes one register;
each result of the model's arithmetic is the one that the rule's table names; the decoder takes no other ALU word. -/

namespace Sys2Proof.Machine

/-! A core's invocation -/

/-- A replaced invocation is read back by its own core; a core that runs nothing stays so. -/
theorem State.inv_setInv (s : State) (c k : Nat) (iv : Invocation) :
    (s.setInv c iv).inv k = if k = c then (s.inv c).map (fun _ => iv) else s.inv k := by
  have hfind : (s.setInv c iv).inv k
      = ((s.kpr.run.find? (fun e => e.1 == k)).map (fun e => if e.1 = c then (c, iv) else e)).map (fun e => e.2) := by
    have hkey : ((fun e : Nat × Invocation => e.1 == k) ∘ fun e => if e.1 = c then (c, iv) else e) = fun e => e.1 == k := by
      funext e
      by_cases he : e.1 = c <;> simp [he]
    simp only [State.inv, State.setInv, List.find?_map, hkey]
  rw [hfind]
  by_cases hk : k = c
  · subst hk
    cases hf : s.kpr.run.find? (fun e => e.1 == k) with
    | none => simp [State.inv, hf]
    | some e =>
      have he : e.1 = k := by simpa using List.find?_some hf
      simp [State.inv, hf, he]
  · cases hf : s.kpr.run.find? (fun e => e.1 == k) with
    | none => simp [State.inv, hf, hk]
    | some e =>
      have he : e.1 = k := by simpa using List.find?_some hf
      simp [State.inv, hf, he, hk]

theorem State.coreTo_setInv {s : State} {c : Fin 64} {iv : Invocation} (h : s.inv c = some iv) (iv' : Invocation) :
    s.coreTo (s.setInv c iv') c iv' :=
  ⟨by simp [State.inv_setInv, h], fun k hk => by simp [State.inv_setInv, hk], rfl⟩

/-- Paying from the budget and writing a register commute. -/
theorem Invocation.setG_left (iv : Invocation) (rd : Fin 32) (v : Word) (n : Nat) :
    ({ iv with left := n } : Invocation).setG rd v = { iv.setG rd v with left := n } := by
  simp only [Invocation.setG]
  split <;> rfl

/-- The write of rd that ends an instruction, once its cost is paid. -/
theorem State.coreTo_kSet {s : State} {c : Fin 64} {iv : Invocation} (h : s.inv c = some iv) (rd : Fin 32) (v : Word)
    (cost : Nat) : s.coreTo (s.kSet c { iv with left := iv.left - cost } rd v) c (iv.after rd v cost) := by
  have hset : s.kSet c { iv with left := iv.left - cost } rd v = s.setInv c (iv.after rd v cost) := by
    simp only [State.kSet, Invocation.after, Invocation.setG_left]
  exact hset ▸ State.coreTo_setInv h _

/-- A core that stands at an instruction's word and can pay for it pays and executes it (R271). -/
theorem State.kRun_of_kReady {s : State} {c : Fin 64} {iv : Invocation} {i : KInstr}
    (h : s.kReady c iv i.encode (kCost iv i)) :
    s.kRun c i = s.kExec c { iv with left := iv.left - kCost iv i } i := by
  obtain ⟨hinv, hwait, hfetch, hpay⟩ := h
  simp [State.kRun, hinv, hwait, hfetch, State.kCharge, Nat.not_lt.2 hpay]

/-! The rows of R251 -/

/-- The command of a register-register operation. -/
def AluOp.instr (c : Fin 64) (rd rs1 rs2 : Fin 32) : AluOp → Instr
  | .add => .add c rd rs1 rs2 | .sub => .sub c rd rs1 rs2 | .and => .and c rd rs1 rs2 | .or => .or c rd rs1 rs2
  | .xor => .xor c rd rs1 rs2 | .sll => .sll c rd rs1 rs2 | .srl => .srl c rd rs1 rs2 | .sra => .sra c rd rs1 rs2
  | .slt => .slt c rd rs1 rs2 | .sltu => .sltu c rd rs1 rs2 | .mul => .mul c rd rs1 rs2 | .mulh => .mulh c rd rs1 rs2
  | .mulhu => .mulhu c rd rs1 rs2 | .div => .div c rd rs1 rs2 | .divu => .divu c rd rs1 rs2 | .rem => .rem c rd rs1 rs2
  | .remu => .remu c rd rs1 rs2 | .min => .min c rd rs1 rs2 | .max => .max c rd rs1 rs2 | .minu => .minu c rd rs1 rs2
  | .maxu => .maxu c rd rs1 rs2

theorem exec_aluInstr (op : AluOp) (c : Fin 64) (rd rs1 rs2 : Fin 32) (s : State) :
    exec (op.instr c rd rs1 rs2) s = .next (s.kRun c (.alu op rd rs1 rs2)) := by
  cases op <;> rfl

section
variable {s : State} {c : Fin 64} {iv : Invocation} {rd rs1 : Fin 32}

/-- An operation whose result is `v` writes `v` to rd, for one unit. -/
theorem gives_alu {rs2 : Fin 32} {v : Word} (op : AluOp) (hv : aluOp op (iv.g rs1) (iv.g rs2) = v)
    (h : s.kReady c iv (fmtR 0x01 rd rs1 rs2 op.code) 1) :
    Gives (op.instr c rd rs1 rs2) s (fun t => s.coreTo t c (iv.after rd v 1)) := by
  subst hv
  refine ⟨_, exec_aluInstr op c rd rs1 rs2 s, ?_⟩
  rw [State.kRun_of_kReady (i := .alu op rd rs1 rs2) h]
  exact State.coreTo_kSet h.1 rd _ 1

theorem coreTo_kRun_rev {v : Word} (half : Bool) (hv : revWord half (iv.g rs1) = v)
    (h : s.kReady c iv (fmtR 0x01 rd rs1 0 (0x15 + boolNat half)) 1) :
    s.coreTo (s.kRun c (.rev half rd rs1)) c (iv.after rd v 1) := by
  subst hv
  rw [State.kRun_of_kReady (i := .rev half rd rs1) h]
  exact State.coreTo_kSet h.1 rd _ 1

end

/-! The results of R251 -/

section
variable (a b : Word)

/-- An arithmetic right shift divides the signed value and rounds down. -/
theorem aluOp_sra : aluOp .sra a b = BitVec.ofInt 32 (a.toInt / 2 ^ (b.toNat % 32)) := by
  have h : (a.sshiftRight (b.toNat % 32)).toInt = a.toInt / 2 ^ (b.toNat % 32) := by
    rw [BitVec.toInt_sshiftRight, Int.shiftRight_eq_div_pow]
    norm_cast
  rw [← h, BitVec.ofInt_toInt]
  rfl

theorem aluOp_slt : aluOp .slt a b = if a.toInt < b.toInt then 1 else 0 := by
  simp [aluOp, boolWord, BitVec.slt_iff_toInt_lt]

theorem aluOp_sltu : aluOp .sltu a b = if a.toNat < b.toNat then 1 else 0 := by
  simp [aluOp, boolWord, BitVec.ult_iff_lt, BitVec.lt_def]

/-- The quotient rounded towards zero, modulo 2^32: −2^31 / −1 wraps to −2^31. -/
theorem sdiv_eq_ofInt_tdiv : a.sdiv b = BitVec.ofInt 32 (a.toInt.tdiv b.toInt) := by
  apply BitVec.eq_of_toInt_eq
  rw [BitVec.toInt_sdiv, BitVec.toInt_ofInt]

theorem aluOp_div : aluOp .div a b = if b = 0 then 0xFFFFFFFF#32 else BitVec.ofInt 32 (a.toInt.tdiv b.toInt) := by
  simp only [aluOp, divWord, sdiv_eq_ofInt_tdiv]

theorem aluOp_divu : aluOp .divu a b = if b = 0 then 0xFFFFFFFF#32 else BitVec.ofNat 32 (a.toNat / b.toNat) := by
  simp only [aluOp, BitVec.udiv_def]

theorem aluOp_rem : aluOp .rem a b = if b = 0 then a else BitVec.ofInt 32 (a.toInt.tmod b.toInt) := by
  simp only [aluOp, remWord, ← BitVec.toInt_srem, BitVec.ofInt_toInt]

theorem aluOp_remu : aluOp .remu a b = if b = 0 then a else BitVec.ofNat 32 (a.toNat % b.toNat) := by
  simp only [aluOp, BitVec.umod_def]

theorem aluOp_min : aluOp .min a b = if a.toInt < b.toInt then a else b := by
  simp only [aluOp, BitVec.slt_iff_toInt_lt]

theorem aluOp_max : aluOp .max a b = if a.toInt < b.toInt then b else a := by
  simp only [aluOp, BitVec.slt_iff_toInt_lt]

theorem aluOp_minu : aluOp .minu a b = if a.toNat < b.toNat then a else b := by
  simp only [aluOp, BitVec.ult_iff_lt, BitVec.lt_def]

theorem aluOp_maxu : aluOp .maxu a b = if a.toNat < b.toNat then b else a := by
  simp only [aluOp, BitVec.ult_iff_lt, BitVec.lt_def]

end

/-- The value of two words one after the other. -/
theorem toNat_append_eq_mul_add {m n : Nat} (x : BitVec m) (y : BitVec n) : (x ++ y).toNat = x.toNat * 2 ^ n + y.toNat := by
  rw [BitVec.toNat_append, ← Nat.shiftLeft_add_eq_or_of_lt y.isLt, Nat.shiftLeft_eq]

/-- The byte of a word from bit `i` on. -/
theorem toNat_extractByte (a : Word) (i : Nat) : (a.extractLsb' i 8).toNat = a.toNat / 2 ^ i % 256 := by
  rw [BitVec.extractLsb'_toNat, Nat.shiftRight_eq_div_pow]

theorem revWord_false (a : Word) : revWord false a
    = a.extractLsb' 0 8 ++ a.extractLsb' 8 8 ++ a.extractLsb' 16 8 ++ a.extractLsb' 24 8 := by
  apply BitVec.eq_of_toNat_eq
  simp only [revWord, toNat_append_eq_mul_add, toNat_extractByte, BitVec.toNat_ofNat, Bool.false_eq_true, if_false,
    Nat.reduceMul]
  omega

theorem revWord_true (a : Word) : revWord true a = (0#16) ++ a.extractLsb' 0 8 ++ a.extractLsb' 8 8 := by
  apply BitVec.eq_of_toNat_eq
  simp only [revWord, toNat_append_eq_mul_add, toNat_extractByte, BitVec.toNat_ofNat, if_true, Nat.reduceMul]
  omega

/-! The words that ALU does not take -/

/-- The fields of a format R word are those that it was put together from (R249). -/
theorem kFields_fmtR {op fn : Nat} (a b c : Fin 32) (hfn : fn < 2048) :
    (kFields (fmtR op a b c fn)).op = op ∧ (kFields (fmtR op a b c fn)).a = a ∧ (kFields (fmtR op a b c fn)).b = b ∧
      (kFields (fmtR op a b c fn)).c = c ∧ (kFields (fmtR op a b c fn)).fn = fn := by
  obtain ⟨a, ha⟩ := a
  obtain ⟨b, hb⟩ := b
  obtain ⟨c, hc⟩ := c
  simp only [kFields, fmtR, fmtI, Fin.ofNat_eq_cast, Fin.ext_iff, Fin.val_natCast]
  omega

theorem AluOp.ofCode_eq_none {n : Nat} (h : 0x15 ≤ n) : AluOp.ofCode n = none := by
  obtain ⟨k, rfl⟩ := Nat.exists_eq_add_of_le' h
  rfl

theorem decodeAlu_eq_none_of_fn {f : KFields} (h : 0x17 ≤ f.fn) : decodeAlu f = none := by
  have hrev : f.fn ≠ 0x15 := by omega
  have hrevh : f.fn ≠ 0x16 := by omega
  simp [decodeAlu, hrev, hrevh, AluOp.ofCode_eq_none (show 0x15 ≤ f.fn by omega)]

/-- REV and REVH have rs2 reserved. -/
theorem decodeAlu_eq_none_of_reserved {f : KFields} (h : f.fn = 0x15 ∨ f.fn = 0x16) (hc : f.c ≠ 0) : decodeAlu f = none := by
  rcases h with h | h <;> simp [decodeAlu, h, onlyIf, hc]

section
variable {fn : Nat} {rd rs1 rs2 : Fin 32}

theorem atnDecode_fmtR_alu (hfn : fn < 2048) :
    atnDecode (fmtR 0x01 rd rs1 rs2 fn) = decodeAlu (kFields (fmtR 0x01 rd rs1 rs2 fn)) := by
  obtain ⟨hop, -⟩ := kFields_fmtR (op := 0x01) rd rs1 rs2 hfn
  simp only [atnDecode, decodeFields, hop]

theorem atnDecode_alu_of_fn (h : 0x17 ≤ fn) (hfn : fn < 2048) : atnDecode (fmtR 0x01 rd rs1 rs2 fn) = none := by
  obtain ⟨-, -, -, -, hf⟩ := kFields_fmtR (op := 0x01) rd rs1 rs2 hfn
  rw [atnDecode_fmtR_alu hfn, decodeAlu_eq_none_of_fn (h.trans_eq hf.symm)]

theorem atnDecode_rev_of_reserved (h : fn = 0x15 ∨ fn = 0x16) (hrs2 : rs2 ≠ 0) :
    atnDecode (fmtR 0x01 rd rs1 rs2 fn) = none := by
  have hfn : fn < 2048 := by omega
  obtain ⟨-, -, -, hc, hf⟩ := kFields_fmtR (op := 0x01) rd rs1 rs2 hfn
  rw [atnDecode_fmtR_alu hfn, decodeAlu_eq_none_of_reserved (hf.symm ▸ h) (hc.symm ▸ hrs2)]

end

/-- Settles O38: row by row of the rule's table, then REV and REVH, then the words that have no meaning. -/
theorem keeperAlu : Obligations.KeeperAlu := by
  unfold Obligations.KeeperAlu
  intro s c iv rd rs1 rs2 a b n
  refine ⟨?_, fun h => ⟨_, rfl, coreTo_kRun_rev false (revWord_false a) h⟩,
    fun h => ⟨_, rfl, coreTo_kRun_rev true (revWord_true a) h⟩,
    fun _ => atnDecode_alu_of_fn,
    fun hrs2 => ⟨atnDecode_rev_of_reserved (.inl rfl) hrs2, atnDecode_rev_of_reserved (.inr rfl) hrs2⟩⟩
  simp only [List.forall_mem_cons]
  exact ⟨gives_alu .add rfl, gives_alu .sub rfl, gives_alu .and rfl, gives_alu .or rfl, gives_alu .xor rfl,
    gives_alu .sll rfl, gives_alu .srl rfl, gives_alu .sra (aluOp_sra a b),
    gives_alu .slt (aluOp_slt a b), gives_alu .sltu (aluOp_sltu a b),
    gives_alu .mul rfl, gives_alu .mulh rfl, gives_alu .mulhu rfl,
    gives_alu .div (aluOp_div a b), gives_alu .divu (aluOp_divu a b),
    gives_alu .rem (aluOp_rem a b), gives_alu .remu (aluOp_remu a b),
    gives_alu .min (aluOp_min a b), gives_alu .max (aluOp_max a b),
    gives_alu .minu (aluOp_minu a b), gives_alu .maxu (aluOp_maxu a b), List.forall_mem_nil _⟩

end Sys2Proof.Machine

/-! Who writes the ring (R439). An access to the SYS block reaches `State.sysWrite` and nothing else; there the ring's registers
and the words of the slots take the values of the ring's masters, and lose those of any other. -/

namespace Sys2Proof.Machine

/-! Accesses to the SYS block (R26, R29) -/

section
variable {off : Nat}

theorem blockAt_sys (hoff : off < 0x10000) : blockAt (0x20000000 + off) = some (regsSYS, off) := by
  have hblock : (0x20000000 + off) / 0x10000 = 0x2000 := by omega
  have hrest : (0x20000000 + off) % 0x10000 = off := by omega
  simp only [blockAt, hblock, hrest]

theorem regionOf_sys (hoff : off < 0x10000) : regionOf (0x20000000 + off) = some .regsOpen := by
  have hrom : ¬ 0x20000000 + off ≤ 0x3FFFF := by omega
  have hsram : ¬ (0x01000000 ≤ 0x20000000 + off ∧ 0x20000000 + off ≤ 0x013FFFFF) := by omega
  have hmram : ¬ (0x10000000 ≤ 0x20000000 + off ∧ 0x20000000 + off ≤ 0x10FFFFFF) := by omega
  have hopen : ¬ 0x200D0000 ≤ 0x20000000 + off := by omega
  simp only [regionOf, hrom, hsram, hmram, hopen, blockAt_sys hoff, if_false, Option.isSome_some, if_true]

/-- Every master may write the open registers (R29): what a register does with the value is its own rule. -/
theorem mayWrite_regsOpen (m : Master) : mayWrite m .regsOpen = true := by
  cases m <;> rfl

theorem accessOk_sys (m : Master) (wide : Bool) (hoff : off < 0x10000) (halign : off % (if wide then 8 else 4) = 0) :
    accessOk m true (0x20000000 + off) (if wide then 8 else 4) = true := by
  have hkind : (0x20000000 + off) / 2 ^ 38 = 0 := by omega
  have hbase : (0x20000000 + off) % 2 ^ 38 = 0x20000000 + off := by omega
  have hsize : (0x20000000 + off) % (if wide then 8 else 4) = 0 := by
    cases wide <;> simp only [Bool.false_eq_true, if_true, if_false] at halign ⊢ <;> omega
  have hlast : regionOf (0x20000000 + off + (if wide then 8 else 4) - 1) = some .regsOpen := by
    cases wide with
    | false => exact regionOf_sys (off := off + 3) (by simp only [Bool.false_eq_true, if_false] at halign; omega)
    | true => exact regionOf_sys (off := off + 7) (by simp only [if_true] at halign; omega)
  simp only [accessOk, hkind, hbase, regionOf_sys hoff, hlast, hsize, mayWrite_regsOpen]
  cases wide <;> rfl

theorem State.regWrite_sys (s : State) (m : Master) (v : Word) (hoff : off < 0x10000) :
    s.regWrite m (0x20000000 + off) v = s.sysWrite m off v := by
  have hblock : (0x20000000 + off) / 0x10000 = 0x2000 := by omega
  have hrest : (0x20000000 + off) % 0x10000 = off := by omega
  simp only [State.regWrite, hblock, hrest]

/-- An aligned access to the SYS block writes its word, and the word above it where it is wide. -/
theorem State.busWrite_sys {s : State} (hrun : s.running = true) (m : Master) (wide : Bool) (v : Nat) (hoff : off < 0x10000)
    (halign : off % (if wide then 8 else 4) = 0) :
    s.busWrite m (0x20000000 + off) (if wide then 8 else 4) v =
      if wide then ((s.seen m).sysWrite m off (BitVec.ofNat 32 v)).sysWrite m (off + 4) (BitVec.ofNat 32 (v / 2 ^ 32))
      else (s.seen m).sysWrite m off (BitVec.ofNat 32 v) := by
  have hbase : addrBase (0x20000000 + off) = 0x20000000 + off := by
    simp only [addrBase]
    omega
  simp only [State.busWrite, hrun, accessOk_sys m wide hoff halign, hbase, blockAt_sys hoff, Bool.not_true,
    Bool.false_eq_true, if_false, Option.isSome_some, if_true, State.regWrite_sys _ m _ hoff]
  cases wide with
  | false => simp
  | true =>
    simp only [if_true] at halign ⊢
    rw [Nat.add_assoc, State.regWrite_sys _ m _ (by omega)]

theorem State.regCommand_sys {s : State} (hrun : s.running = true) (m : Master) (v : Word) (hoff : off < 0x10000)
    (halign : off % 4 = 0) : s.regCommand m (0x20000000 + off) v = (s.seen m).sysWrite m off v := by
  have h := State.busWrite_sys hrun m false v.toNat hoff (by simpa using halign)
  simpa [State.regCommand] using h

theorem leNat_leBytes_four (n : Nat) : leNat (leBytes 4 n) = n % 2 ^ 32 := by
  simp only [leBytes, leNat, BitVec.toNat_ofNat]
  omega

/-- A request of the PCIe host for one whole word of the SYS block is one access of its own (R473). -/
theorem State.pcieWrite_sys (s : State) (v : Nat) (hoff : off < 0x10000) (halign : off % 4 = 0) :
    s.pcieWrite (0x20000000 + off) ((leBytes 4 v).map some) = s.busWrite .pcie (0x20000000 + off) 4 (v % 2 ^ 32) := by
  have hlen : ((leBytes 4 v).map some).length = 4 := rfl
  have hword : ((leBytes 4 v).map some).take 4 = (leBytes 4 v).map some := rfl
  have hall : ((leBytes 4 v).map some).all Option.isSome = true := by simp
  have hregion : mapRegion (0x20000000 + off) = mapRegion (0x20000000 + off + 4 - 1) := by
    have h1 : (0x20000000 + off) / 0x10000 = 0x2000 := by omega
    have h2 : (0x20000000 + off + 4 - 1) / 0x10000 = 0x2000 := by omega
    simp only [mapRegion, h1, h2]
  have haddr : (0x20000000 + off) % 4 = 0 := by omega
  simp [State.pcieWrite, hlen, hword, hall, blockAt_sys hoff, hregion, haddr, leNat_leBytes_four]

end

/-! What a plain write of a register of the SYS block leaves -/

/-- Every register reads as before, and nothing beside the registers changes. -/
def State.SameWords (s t : State) : Prop := (∀ a, t.rd a = s.rd a) ∧ t = { s with regs := t.regs }

theorem State.SameWords.refl (s : State) : s.SameWords s := ⟨fun _ => rfl, rfl⟩

theorem State.SameWords.trans {s t u : State} (h1 : s.SameWords t) (h2 : t.SameWords u) : s.SameWords u := by
  obtain ⟨hrd1, he1⟩ := h1
  obtain ⟨hrd2, he2⟩ := h2
  exact ⟨fun a => (hrd2 a).trans (hrd1 a), by rw [he2, he1]⟩

/-- A register without a field that software writes keeps its value (R8). -/
theorem State.sameWords_wrPlain {a : Nat} (s : State) (v : Word) (h : ∀ d, regAt a = some d → d.fields = []) :
    s.SameWords (s.wrPlain a v) := by
  unfold State.wrPlain
  split
  · next d hd =>
    have hkeep : d.write (s.rd a) v = s.rd a := by simp [RegDesc.write, h d hd]
    refine ⟨fun b => ?_, rfl⟩
    rw [State.rd_wr, hkeep]
    split
    · next hb => rw [hb]
    · rfl
  · exact State.SameWords.refl s

/-- A register that is one field of 32 bits takes the word as it is. -/
theorem RegDesc.write_word {d : RegDesc} (h : d.fields = [.rw 31 0]) (old v : Word) : d.write old v = v := by
  apply BitVec.eq_of_toNat_eq
  have hold := old.isLt
  have hv := v.isLt
  simp only [RegDesc.write, h, List.foldl_cons, List.foldl_nil, FAcc.write,
    Fld.toNat_put ⟨31, 0⟩ old _ (by decide) (by decide), Fld.get_eq, Fld.width]
  omega

theorem State.rd_wrPlain_word {a : Nat} {d : RegDesc} (hd : regAt a = some d) (h : d.fields = [.rw 31 0]) (s : State) (v : Word) :
    (s.wrPlain a v).rd a = v := by
  simp [State.wrPlain, hd, RegDesc.write_word h]

/-! The slots' words (R436, R438) -/

/-- The registers of the slots: their entries, results and data buffers. -/
def slotArea (off : Nat) : Prop := (0x1000 ≤ off ∧ off < 0x1400) ∨ (0x8000 ≤ off ∧ off < 0x10000)

/-- An offset of the SYS block at which a slot takes a word: in its entry or in its data buffer. -/
def slotOffset (off : Nat) : Prop := (0x1000 ≤ off ∧ off < 0x1400 ∧ off % 0x80 < 0x40) ∨ (0x8000 ≤ off ∧ off < 0x10000)

section
variable {off : Nat}

theorem regAt_sys (hoff : off < 0x10000) : regAt (0x20000000 + off) = regsSYS.find? (fun d => d.holds off) := by
  simp only [regAt, blockAt_sys hoff]

/-- What every register that could hold an offset of the SYS block has as its fields, the register there has. -/
theorem fields_regAt_sys {d : RegDesc} {l : List FAcc} (hoff : off < 0x10000)
    (h : ∀ d ∈ regsSYS, d.holds off = true → d.fields = l) (hd : regAt (0x20000000 + off) = some d) : d.fields = l := by
  rw [regAt_sys hoff] at hd
  exact h d (List.mem_of_find?_eq_some hd) (List.find?_some (p := fun d : RegDesc => d.holds off) hd)

theorem RegDesc.holds_iff (d : RegDesc) : d.holds off = true ↔ d.off ≤ off ∧ (off - d.off) / d.s1 < d.c1 ∧
    (off - d.off) % d.s1 % d.s2 = 0 ∧ (off - d.off) % d.s1 / d.s2 < d.c2 := by
  simp [RegDesc.holds, and_assoc]

/-- The result words are written by the warden alone (R437). -/
theorem regAt_result (hlo : 0x1000 ≤ off) (hhi : off < 0x1400) (hres : 0x40 ≤ off % 0x80) :
    ∀ d, regAt (0x20000000 + off) = some d → d.fields = [] := by
  have hfields : ∀ d ∈ regsSYS, d.holds off = true → d.fields = [] := by
    simp only [regsSYS, regsSYS0, List.forall_mem_cons, RegDesc.holds_iff, reduceCtorEq, List.not_mem_nil, implies_true,
      false_implies, and_true, true_and]
    omega
  exact fun d => fields_regAt_sys (by omega) hfields

theorem regAt_slot (h : slotOffset off) (halign : off % 4 = 0) :
    ∃ d, regAt (0x20000000 + off) = some d ∧ d.fields = [.rw 31 0] := by
  unfold slotOffset at h
  have hfields : ∀ d ∈ regsSYS, d.holds off = true → d.fields = [.rw 31 0] := by
    simp only [regsSYS, regsSYS0, List.forall_mem_cons, RegDesc.holds_iff, List.cons.injEq, FAcc.rw.injEq, reduceCtorEq,
      List.not_mem_nil, implies_true, false_implies, and_true, true_and]
    omega
  have hsome : (regsSYS.find? (fun d => d.holds off)).isSome = true := by
    rw [List.find?_isSome]
    rcases h with ⟨hlo, hhi, hentry⟩ | ⟨hlo, hhi⟩
    · refine ⟨⟨0x1000, 128, 8, 4, 16, 0, [.rw 31 0]⟩, by decide, (RegDesc.holds_iff _).2 ?_⟩
      simp only
      omega
    · refine ⟨⟨0x8000, 4096, 8, 4, 1024, 0, [.rw 31 0]⟩, by decide, (RegDesc.holds_iff _).2 ?_⟩
      simp only
      omega
  rw [← regAt_sys (by omega)] at hsome
  obtain ⟨d, hd⟩ := Option.isSome_iff_exists.1 hsome
  exact ⟨d, hd, fields_regAt_sys (by omega) hfields hd⟩

theorem State.sysWrite_slot (s : State) (m : Master) (v : Word) (h : slotOffset off) :
    s.sysWrite m off v = s.slotWrite m (if off < 0x1400 then (off - 0x1000) / 0x80 else (off - 0x8000) / 0x1000) off v := by
  unfold slotOffset at h
  have h0 : off ≠ 0 := by omega
  have h8 : off ≠ 8 := by omega
  rcases h with ⟨hlo, hhi, hentry⟩ | ⟨hlo, -⟩
  · simp [State.sysWrite, h0, h8, hlo, hhi, hentry]
  · have hhi : ¬ off < 0x1400 := by omega
    simp [State.sysWrite, h0, h8, hlo, hhi]

theorem State.sysWrite_result (s : State) (m : Master) (v : Word) (hlo : 0x1000 ≤ off) (hhi : off < 0x1400)
    (hres : 0x40 ≤ off % 0x80) : s.sysWrite m off v = s.wrPlain (0x20000000 + off) v := by
  have h0 : off ≠ 0 := by omega
  have h8 : off ≠ 8 := by omega
  have hentry : ¬ off % 0x80 < 0x40 := by omega
  have hdata : ¬ 0x8000 ≤ off := by omega
  simp [State.sysWrite, h0, h8, hentry, hdata]

/-- A slot takes no word of a master other than the ring's. -/
theorem State.sysWrite_slotArea_of_not_ringMaster (s : State) {m : Master} (hm : ringMaster m = false) (v : Word)
    (h : slotArea off) : s.SameWords (s.sysWrite m off v) := by
  by_cases hslot : slotOffset off
  · rw [State.sysWrite_slot s m v hslot, State.slotWrite, hm]
    exact State.SameWords.refl s
  · have hresult : 0x1000 ≤ off ∧ off < 0x1400 ∧ 0x40 ≤ off % 0x80 := by
      unfold slotArea at h
      unfold slotOffset at hslot
      omega
    obtain ⟨hlo, hhi, hres⟩ := hresult
    rw [State.sysWrite_result s m v hlo hhi hres]
    exact State.sameWords_wrPlain s v (regAt_result hlo hhi hres)

/-- A free slot takes a word of the ring's masters. -/
theorem State.rd_slotWrite_of_free {s : State} {m : Master} {k : Nat} (hm : ringMaster m = true) (hfree : s.slotTaken k = false)
    (v : Word) (h : slotOffset off) (halign : off % 4 = 0) : (s.slotWrite m k off v).rd (0x20000000 + off) = v := by
  obtain ⟨d, hd, hword⟩ := regAt_slot h halign
  simp [State.slotWrite, hm, hfree, State.rd_wrPlain_word hd hword]

end

/-! The ring's masters -/

theorem ringMaster_iff (m : Master) : ringMaster m = true ↔ m = .pcie ∨ m = .debug := by
  cases m <;> simp [ringMaster]

theorem ringMaster_eq_false (m : Master) : ringMaster m = false ↔ m ≠ .pcie ∧ m ≠ .debug := by
  cases m <;> simp [ringMaster]

theorem State.seen_of_ne_debug (s : State) {m : Master} (hm : m ≠ .debug) : s.seen m = s := if_neg hm

@[simp] theorem State.seen_rd (s : State) (m : Master) (a : Nat) : (s.seen m).rd a = s.rd a := by
  unfold State.seen
  split <;> rfl

@[simp] theorem State.seen_ringProd (s : State) (m : Master) : (s.seen m).ringProd = s.ringProd := by
  simp [State.ringProd, State.fld]

@[simp] theorem State.seen_ringDone (s : State) (m : Master) : (s.seen m).ringDone = s.ringDone := by
  simp [State.ringDone, State.fld]

@[simp] theorem State.seen_ringAck (s : State) (m : Master) : (s.seen m).ringAck = s.ringAck := by
  simp [State.ringAck, State.fld]

@[simp] theorem State.seen_slotTaken (s : State) (m : Master) (k : Nat) : (s.seen m).slotTaken k = s.slotTaken k := by
  simp [State.slotTaken]

theorem State.ringProd_setFld (s : State) (n : Nat) : (s.setFld SYS_CMD_PROD SYS_CMD_PROD_prod n).ringProd = n % 256 := by
  rw [State.ringProd, State.fld, State.rd_setFld, if_pos rfl, Fld.get_put _ _ _ (by decide) (by decide)]
  rfl

theorem State.ringAck_setFld (s : State) (n : Nat) : (s.setFld SYS_CMD_ACK SYS_CMD_ACK_ack n).ringAck = n % 256 := by
  rw [State.ringAck, State.fld, State.rd_setFld, if_pos rfl, Fld.get_put _ _ _ (by decide) (by decide)]
  rfl

section
variable {s : State} {m : Master}

/-- An index in order becomes prod, and what it issues is served (R437). -/
theorem State.prodWrite_of_inOrder {v : Nat} (hm : ringMaster m = true) (hroom : ahead (v % 256) s.ringAck ≤ 8)
    (hback : ahead s.ringProd s.ringAck ≤ ahead (v % 256) s.ringAck) :
    ∃ u : State, s.prodWrite m v = u.served ∧ u.ringProd = v % 256 := by
  have hn : v % 256 % 256 = v % 256 := Nat.mod_mod _ _
  simp only [State.prodWrite, hm, if_true, hroom, hback, and_self]
  exact ⟨_, rfl, (State.ringProd_setFld s (v % 256)).trans hn⟩

theorem State.ackWrite_of_done {v : Nat} (hm : ringMaster m = true)
    (hdone : ahead (v % 256) s.ringAck ≤ ahead s.ringDone s.ringAck) : (s.ackWrite m v).ringAck = v % 256 := by
  simp only [State.ackWrite, hm, if_true, hdone, State.ringAck_setFld, Nat.mod_mod]

/-! The commands -/

theorem exec_prod (hrun : s.running = true) (v : Word) : exec (.prod m v) s = .next ((s.seen m).prodWrite m v.toNat) := by
  have h : s.regCommand m SYS_CMD_PROD v = (s.seen m).sysWrite m 0 v :=
    State.regCommand_sys (off := 0) hrun m v (by decide) (by decide)
  exact congrArg Host.Outcome.next h

theorem exec_cmdAck (hrun : s.running = true) (v : Word) : exec (.cmdAck m v) s = .next ((s.seen m).ackWrite m v.toNat) := by
  have h : s.regCommand m SYS_CMD_ACK v = (s.seen m).sysWrite m 8 v :=
    State.regCommand_sys (off := 8) hrun m v (by decide) (by decide)
  exact congrArg Host.Outcome.next h

/-- A write of one word by either master of the ring reaches its offset of the SYS block, with the operand's low half. -/
theorem exec_registerWrite_word (hrun : s.running = true) (hm : ringMaster m = true) {a : BitVec 40} {off : Nat} (v : DWord)
    (ha : a.toNat = 0x20000000 + off) (hoff : off < 0x10000) (halign : off % 4 = 0) :
    exec (.registerWrite m a false v) s = .next ((s.seen m).sysWrite m off (v.truncate 32)) := by
  have hbus : ∀ n : Nat, BitVec.ofNat 32 n = v.truncate 32 →
      s.busWrite m (0x20000000 + off) 4 n = (s.seen m).sysWrite m off (v.truncate 32) := by
    intro n hn
    have h := State.busWrite_sys hrun m false n hoff (by simpa using halign)
    simpa [hn] using h
  have hlow : BitVec.ofNat 32 (v.toNat % 2 ^ 32) = v.truncate 32 := by
    apply BitVec.eq_of_toNat_eq
    simp
  have hexec : exec (.registerWrite m a false v) s = .next (if m = .pcie then s.pcieWrite a.toNat ((leBytes 4 v.toNat).map some)
      else s.busWrite m a.toNat 4 v.toNat) := rfl
  rw [hexec, ha]
  rcases (ringMaster_iff m).1 hm with rfl | rfl
  · rw [if_pos rfl, State.pcieWrite_sys s _ hoff halign, hbus _ hlow]
  · rw [if_neg (by decide), hbus _ (by simp)]

/-- A free slot holds the word that a master of the ring has written to it. -/
theorem gives_registerWrite_slot (hrun : s.running = true) (hm : ringMaster m = true) {k a off : Nat} (v : DWord)
    (ha : a = 0x20000000 + off) (h : slotOffset off) (halign : off % 4 = 0)
    (hk : k = if off < 0x1400 then (off - 0x1000) / 0x80 else (off - 0x8000) / 0x1000) (hfree : s.slotTaken k = false) :
    Gives (.registerWrite m (BitVec.ofNat 40 a) false v) s (fun t => t.rd a = v.truncate 32) := by
  have hoff : off < 0x10000 := by
    unfold slotOffset at h
    omega
  have hnat : (BitVec.ofNat 40 a).toNat = 0x20000000 + off := by
    rw [BitVec.toNat_ofNat]
    omega
  refine ⟨_, exec_registerWrite_word hrun hm v hnat hoff halign, ?_⟩
  rw [State.sysWrite_slot _ m _ h, ← hk, ha]
  exact State.rd_slotWrite_of_free hm (by simpa using hfree) _ h halign

/-- A write of a slot by another master, of one word or of two, leaves every register as it was. -/
theorem gives_registerWrite_of_not_ringMaster (hrun : s.running = true) (hm : ringMaster m = false) {a : BitVec 40} (wide : Bool)
    (v : DWord) {off : Nat} (ha : a.toNat = 0x20000000 + off) (h : slotArea off) (halign : off % (if wide then 8 else 4) = 0) :
    Gives (.registerWrite m a wide v) s s.SameWords := by
  obtain ⟨hpcie, hdebug⟩ := (ringMaster_eq_false m).1 hm
  have hoff : off < 0x10000 := by
    unfold slotArea at h
    omega
  have hexec : exec (.registerWrite m a wide v) s = .next (s.busWrite m a.toNat (if wide then 8 else 4) v.toNat) := by
    show execRegisterWrite m a wide v s = _
    rw [execRegisterWrite, if_neg hpcie]
  refine ⟨_, hexec, ?_⟩
  rw [ha, State.busWrite_sys hrun m wide v.toNat hoff halign, State.seen_of_ne_debug s hdebug]
  have hlow := State.sysWrite_slotArea_of_not_ringMaster s hm (BitVec.ofNat 32 v.toNat) h
  cases wide with
  | false => exact hlow
  | true =>
    have hhigh : slotArea (off + 4) := by
      simp only [if_true] at halign
      unfold slotArea at h ⊢
      omega
    exact hlow.trans (State.sysWrite_slotArea_of_not_ringMaster _ hm _ hhigh)

end

/-- Settles O51: an access to the ring is permitted to every master and reaches `State.sysWrite`, which takes the values of the
ring's masters alone. -/
theorem ringWriters : Obligations.RingWriters := by
  unfold Obligations.RingWriters
  intro s m hrun
  refine ⟨fun hpcie hdebug => ?_, fun hmaster => ?_⟩
  · have hm : ringMaster m = false := (ringMaster_eq_false m).2 ⟨hpcie, hdebug⟩
    have hseen := State.seen_of_ne_debug s hdebug
    refine ⟨fun v => ⟨⟨_, exec_prod hrun v, ?_⟩, ⟨_, exec_cmdAck hrun v, ?_⟩⟩, fun a wide v ha halign => ?_⟩
    · simp [State.prodWrite, hm, hseen]
    · simp [State.ackWrite, hm, hseen]
    · refine gives_registerWrite_of_not_ringMaster hrun hm wide v (off := a.toNat - 0x20000000) (by omega) ?_ ?_
      · unfold slotArea
        omega
      · cases wide <;> simp only [Bool.false_eq_true, if_true, if_false] at halign ⊢ <;> omega
  · have hm : ringMaster m = true := (ringMaster_iff m).2 hmaster
    refine ⟨fun v hroom hback => ⟨_, exec_prod hrun v, ?_⟩, fun v hdone => ⟨_, exec_cmdAck hrun v, ?_⟩,
      fun k w v hfree => ?_, fun k w v hfree => ?_⟩
    · exact State.prodWrite_of_inOrder hm (by simpa using hroom) (by simpa using hback)
    · exact State.ackWrite_of_done hm (by simpa using hdone)
    · have hmod : k.val % 8 = k.val := Nat.mod_eq_of_lt k.isLt
      refine gives_registerWrite_slot hrun hm v (off := 0x1000 + 0x80 * k + 4 * w) ?_ ?_ ?_ ?_ hfree
      · simp only [entryAddr, hmod]
        omega
      · exact .inl (by omega)
      · omega
      · rw [if_pos (by omega)]
        omega
    · have hmod : k.val % 8 = k.val := Nat.mod_eq_of_lt k.isLt
      refine gives_registerWrite_slot hrun hm v (off := 0x8000 + 0x1000 * k + 4 * w) ?_ ?_ ?_ ?_ hfree
      · simp only [dataAddr, hmod]
        omega
      · exact .inr (by omega)
      · omega
      · rw [if_neg (by omega)]
        omega

end Sys2Proof.Machine

/-! The encoding of a keeper core's instructions (R249 to R268): what the fields of an encoded word are, and that the decoder
puts the instruction together again. -/

namespace Sys2Proof.Machine

/-- The fields of a word of format I, S, B or F are those that it was put together from (R249). -/
theorem kFields_fmtI {op low : Nat} (a b : Fin 32) (h : low < 65536) :
    (kFields (fmtI op a b low)).op = op ∧ (kFields (fmtI op a b low)).a = a ∧ (kFields (fmtI op a b low)).b = b ∧
      (kFields (fmtI op a b low)).imm = Fin.ofNat 65536 low := by
  obtain ⟨a, ha⟩ := a
  obtain ⟨b, hb⟩ := b
  simp only [kFields, fmtI, Fin.ofNat_eq_cast, Fin.ext_iff, Fin.val_natCast]
  omega

theorem kFields_jump (op : Nat) (off : Fin 67108864) :
    (kFields (op * 2 ^ 26 + off)).op = op ∧ (kFields (op * 2 ^ 26 + off)).off = off := by
  obtain ⟨off, hoff⟩ := off
  simp only [kFields, Fin.ofNat_eq_cast, Fin.ext_iff, Fin.val_natCast]
  omega

theorem fmtI_lt {op low : Nat} (a b : Fin 32) (hop : op < 64) (h : low < 65536) : fmtI op a b low < 2 ^ 32 := by
  obtain ⟨a, ha⟩ := a
  obtain ⟨b, hb⟩ := b
  simp only [fmtI]
  omega

theorem fmtR_lt {op fn : Nat} (a b c : Fin 32) (hop : op < 64) (h : fn < 2048) : fmtR op a b c fn < 2 ^ 32 :=
  fmtI_lt a b hop (by have := c.isLt; omega)

/-! Codes -/

theorem AluOp.code_lt (op : AluOp) : op.code < 21 := by cases op <;> decide

theorem AluOp.ofCode_code (op : AluOp) : AluOp.ofCode op.code = some op := by cases op <;> rfl

theorem SclOp.code_lt (op : SclOp) : op.code < 4 := by cases op <;> decide

theorem SclOp.ofCode_code (op : SclOp) : SclOp.ofCode op.code = op := by cases op <;> rfl

theorem ShOp.code_lt (op : ShOp) : op.code < 3 := by cases op <;> decide

theorem boolNat_lt (b : Bool) : boolNat b < 2 := by cases b <;> decide

/-! The decoder on the fields of each format -/

theorem decodeAlu_alu {f : KFields} (op : AluOp) (h : f.fn = op.code) : decodeAlu f = some (.alu op f.a f.b f.c) := by
  have hlt := op.code_lt
  simp [decodeAlu, h, AluOp.ofCode_code, show op.code ≠ 0x15 by omega, show op.code ≠ 0x16 by omega]

theorem decodeAlu_rev {f : KFields} (half : Bool) (h : f.fn = 0x015 + boolNat half) (hc : f.c = 0) :
    decodeAlu f = some (.rev half f.a f.b) := by
  cases half <;> simp [decodeAlu, h, hc, onlyIf, boolNat]

theorem decodeShi_shi {f : KFields} (op : ShOp) (amt : Fin 32) (h : f.imm = Fin.ofNat 65536 (op.code * 32 + amt)) :
    decodeShi f = some (.shi op f.a f.b amt) := by
  have hlt := op.code_lt
  have hamt := amt.isLt
  have himm : f.imm.val = op.code * 32 + amt := by rw [h]; simp only [Fin.ofNat_eq_cast, Fin.val_natCast]; omega
  have hop : (op.code * 32 + amt.val) / 32 = op.code := by omega
  have hfin : Fin.ofNat 32 (op.code * 32 + amt.val) = amt := by
    simp only [Fin.ofNat_eq_cast, Fin.ext_iff, Fin.val_natCast]
    omega
  simp only [decodeShi, himm, hop, hfin]
  cases op <;> rfl

/-- Format F holds start, length − 1, order and sign, each in its place (R254). -/
theorem bitFields {start : Fin 512} {len1 : Fin 32} {be sign : Bool} {n : Nat}
    (h : n = start.val * 128 + len1.val * 4 + boolNat be * 2 + boolNat sign) :
    Fin.ofNat 512 (n / 128) = start ∧ Fin.ofNat 32 (n / 4) = len1 ∧ n.testBit 1 = be ∧ n.testBit 0 = sign := by
  have hs := start.isLt
  have hl := len1.isLt
  simp only [Fin.ofNat_eq_cast, Fin.ext_iff, Fin.val_natCast, Nat.testBit_eq_decide_div_mod_eq, h]
  cases be <;> cases sign <;> simp [boolNat] <;> omega

theorem decodeBit_fields {f : KFields} (insert : Bool) {start : Fin 512} {len1 : Fin 32} {be sign : Bool}
    (h : f.imm = Fin.ofNat 65536 (start.val * 128 + len1.val * 4 + boolNat be * 2 + boolNat sign)) :
    decodeBit f insert = if insert then onlyIf (!sign) (.bfi f.a f.b start len1 be) else some (.bfx f.a f.b start len1 be sign) := by
  have himm : f.imm.val = start.val * 128 + len1.val * 4 + boolNat be * 2 + boolNat sign := by
    have := boolNat_lt be
    have := boolNat_lt sign
    rw [h]
    simp only [Fin.ofNat_eq_cast, Fin.val_natCast]
    omega
  obtain ⟨h1, h2, h3, h4⟩ := bitFields himm
  simp only [decodeBit, h1, h2, h3, h4]

/-- A flag's bit of a number that is put together from fields. -/
theorem testBit_flag (low high i : Nat) (b : Bool) (h : low < 2 ^ i) :
    (low + boolNat b * 2 ^ i + high * 2 ^ (i + 1)).testBit i = b := by
  have hdiv : (low + boolNat b * 2 ^ i + high * 2 ^ (i + 1)) / 2 ^ i = boolNat b + high * 2 := by
    rw [show low + boolNat b * 2 ^ i + high * 2 ^ (i + 1) = low + (boolNat b + high * 2) * 2 ^ i by ring,
      Nat.add_mul_div_right _ _ (Nat.two_pow_pos i), Nat.div_eq_of_lt h, Nat.zero_add]
  rw [Nat.testBit_eq_decide_div_mod_eq, hdiv]
  cases b <;> simp [boolNat]

theorem boolNat_decide_mod (b : Bool) : (boolNat b == 1) = b := by cases b <;> rfl

/-! Encoded words -/

section
variable {op fn low : Nat} {a b c : Fin 32}

/-- A word of format I decodes by its opcode, to what its fields say. -/
theorem atnDecode_fmtI (h : low < 65536) : ∃ f : KFields, atnDecode (fmtI op a b low) = decodeFields f ∧ f.op = op ∧ f.a = a ∧
    f.b = b ∧ f.imm = Fin.ofNat 65536 low := ⟨_, rfl, kFields_fmtI a b h⟩

theorem atnDecode_fmtR (h : fn < 2048) : ∃ f : KFields, atnDecode (fmtR op a b c fn) = decodeFields f ∧ f.op = op ∧ f.a = a ∧
    f.b = b ∧ f.c = c ∧ f.fn = fn := ⟨_, rfl, kFields_fmtR a b c h⟩

/-- A word of the SYS opcode that names rd alone. -/
theorem atnDecode_sys (rd : Fin 32) (h : fn < 2048) : ∃ f : KFields, atnDecode (fmtR 0x3E rd 0 0 fn) = decodeSys f ∧ f.a = rd ∧
    f.b = 0 ∧ f.c = 0 ∧ f.fn = fn := by
  obtain ⟨f, hd, hop, hf⟩ := atnDecode_fmtR (op := 0x3E) (a := rd) (b := 0) (c := 0) h
  exact ⟨f, by simp only [hd, decodeFields, hop], hf⟩

end

theorem Fin.ofNat_val_self {n : Nat} [NeZero n] (x : Fin n) : Fin.ofNat n x.val = x := by
  simp

theorem scl_fields (op : SclOp) (sign : Bool) (len1 : Fin 32) :
    SclOp.ofCode ((op.code + boolNat sign * 4 + len1.val * 8) % 4) = op ∧
    (op.code + boolNat sign * 4 + len1.val * 8).testBit 2 = sign ∧
    Fin.ofNat 32 ((op.code + boolNat sign * 4 + len1.val * 8) / 8) = len1 := by
  have hop := op.code_lt
  have hs := boolNat_lt sign
  have hl := len1.isLt
  have hcode : (op.code + boolNat sign * 4 + len1.val * 8) % 4 = op.code := by omega
  refine ⟨by rw [hcode, SclOp.ofCode_code], testBit_flag op.code len1.val 2 sign hop, ?_⟩
  simp only [Fin.ofNat_eq_cast, Fin.ext_iff, Fin.val_natCast]
  omega

theorem tarm_fields (timer : Fin 4) (periodic cancel : Bool) :
    Fin.ofNat 4 (timer.val + boolNat periodic * 4 + boolNat cancel * 8) = timer ∧
    (timer.val + boolNat periodic * 4 + boolNat cancel * 8).testBit 2 = periodic ∧
    (timer.val + boolNat periodic * 4 + boolNat cancel * 8).testBit 3 = cancel := by
  have ht := timer.isLt
  have hp := boolNat_lt periodic
  refine ⟨?_, testBit_flag timer.val (boolNat cancel) 2 periodic ht, ?_⟩
  · simp only [Fin.ofNat_eq_cast, Fin.ext_iff, Fin.val_natCast]
    omega
  · simpa using testBit_flag (timer.val + boolNat periodic * 4) 0 3 cancel (by omega)

theorem tlk_fields (type : Fin 8) (sr : Fin 32) :
    Fin.ofNat 8 (type.val + sr.val * 8) = type ∧ Fin.ofNat 32 ((type.val + sr.val * 8) / 8) = sr := by
  have ht := type.isLt
  have hs := sr.isLt
  simp only [Fin.ofNat_eq_cast, Fin.ext_iff, Fin.val_natCast]
  omega

theorem decodeSys_tnow {f : KFields} (pair : Fin 15) (ha : f.a = Fin.ofNat 32 (2 * pair + 2)) (hb : f.b = 0) (hc : f.c = 0)
    (hfn : f.fn = 1) : decodeSys f = some (.tnow pair) := by
  have hp := pair.isLt
  have hval : f.a.val = 2 * pair + 2 := by rw [ha]; simp only [Fin.ofNat_eq_cast, Fin.val_natCast]; omega
  simp [decodeSys, hb, hc, hfn, hval]

/-- Decoding gives back what was encoded. -/
theorem atnDecode_encode (i : KInstr) : atnDecode i.encode = some i := by
  cases i with
  | alu op rd rs1 rs2 =>
    obtain ⟨f, hd, hop, rfl, rfl, rfl, hfn⟩ := atnDecode_fmtR (op := 0x01) (a := rd) (b := rs1) (c := rs2) (fn := op.code) (by have := op.code_lt; omega)
    rw [KInstr.encode, hd, decodeFields, hop]
    exact decodeAlu_alu op hfn
  | rev half rd rs1 =>
    obtain ⟨f, hd, hop, rfl, rfl, hc, hfn⟩ := atnDecode_fmtR (op := 0x01) (a := rd) (b := rs1) (c := 0) (fn := 0x015 + boolNat half) (by have := boolNat_lt half; omega)
    rw [KInstr.encode, hd, decodeFields, hop]
    exact decodeAlu_rev half hfn hc
  | imm op rd rs1 i16 =>
    obtain ⟨f, hd, hop, rfl, rfl, hi⟩ := atnDecode_fmtI (op := op.code) (a := rd) (b := rs1) i16.isLt
    rw [Fin.ofNat_val_self] at hi
    rw [KInstr.encode, hd, decodeFields, hop, ← hi]
    cases op <;> rfl
  | shi op rd rs1 amt =>
    obtain ⟨f, hd, hop, rfl, rfl, hi⟩ := atnDecode_fmtI (op := 0x08) (a := rd) (b := rs1) (low := op.code * 32 + amt) (by have := op.code_lt; omega)
    rw [KInstr.encode, hd, decodeFields, hop]
    exact decodeShi_shi op amt hi
  | lui rd i16 =>
    obtain ⟨f, hd, hop, rfl, hb, hi⟩ := atnDecode_fmtI (op := 0x09) (a := rd) (b := 0) i16.isLt
    rw [Fin.ofNat_val_self] at hi
    simp [KInstr.encode, hd, decodeFields, hop, hb, hi, onlyIf]
  | lpc rd i16 =>
    obtain ⟨f, hd, hop, rfl, hb, hi⟩ := atnDecode_fmtI (op := 0x0A) (a := rd) (b := 0) i16.isLt
    rw [Fin.ofNat_val_self] at hi
    simp [KInstr.encode, hd, decodeFields, hop, hb, hi, onlyIf]
  | load op rd rs1 i16 =>
    obtain ⟨f, hd, hop, rfl, rfl, hi⟩ := atnDecode_fmtI (op := op.code) (a := rd) (b := rs1) i16.isLt
    rw [Fin.ofNat_val_self] at hi
    rw [KInstr.encode, hd, decodeFields, hop, ← hi]
    cases op <;> rfl
  | store op rs2 rs1 i16 =>
    obtain ⟨f, hd, hop, rfl, rfl, hi⟩ := atnDecode_fmtI (op := op.code) (a := rs2) (b := rs1) i16.isLt
    rw [Fin.ofNat_val_self] at hi
    rw [KInstr.encode, hd, decodeFields, hop, ← hi]
    cases op <;> rfl
  | branch op rs1 rs2 off =>
    obtain ⟨f, hd, hop, rfl, rfl, hi⟩ := atnDecode_fmtI (op := op.code) (a := rs1) (b := rs2) off.isLt
    rw [Fin.ofNat_val_self] at hi
    rw [KInstr.encode, hd, decodeFields, hop, ← hi]
    cases op <;> rfl
  | jump link off =>
    obtain ⟨hop, hoff⟩ := kFields_jump (0x19 + boolNat link) off
    rw [KInstr.encode, atnDecode, decodeFields, hop, hoff]
    cases link <;> rfl
  | jr rd rs1 i16 =>
    obtain ⟨f, hd, hop, rfl, rfl, hi⟩ := atnDecode_fmtI (op := 0x1B) (a := rd) (b := rs1) i16.isLt
    rw [Fin.ofNat_val_self] at hi
    simp only [KInstr.encode, hd, decodeFields, hop, hi]
  | atom add rd rs1 rs2 =>
    have hadd := boolNat_lt add
    obtain ⟨f, hd, hop, rfl, rfl, rfl, hfn⟩ := atnDecode_fmtR (op := 0x1C) (a := rd) (b := rs1) (c := rs2) (fn := boolNat add) (by omega)
    simp [KInstr.encode, hd, decodeFields, hop, hfn, hadd, boolNat_decide_mod, onlyIf]
  | bfx rd rs1 start len1 be sign =>
    obtain ⟨f, hd, hop, rfl, rfl, hi⟩ := atnDecode_fmtI (op := 0x20) (a := rd) (b := rs1)
      (low := start.val * 128 + len1.val * 4 + boolNat be * 2 + boolNat sign) (by have := boolNat_lt be; have := boolNat_lt sign; omega)
    rw [KInstr.encode, hd, decodeFields, hop]
    exact decodeBit_fields false hi
  | bfi rs2 rs1 start len1 be =>
    obtain ⟨f, hd, hop, rfl, rfl, hi⟩ := atnDecode_fmtI (op := 0x21) (a := rs2) (b := rs1)
      (low := start.val * 128 + len1.val * 4 + boolNat be * 2) (by have := boolNat_lt be; omega)
    rw [KInstr.encode, hd, decodeFields, hop]
    exact decodeBit_fields true (sign := false) hi
  | crc rd rs1 rs2 sel =>
    have hsel := sel.isLt
    obtain ⟨f, hd, hop, rfl, rfl, rfl, hfn⟩ := atnDecode_fmtR (op := 0x22) (a := rd) (b := rs1) (c := rs2) (fn := sel.val) (by omega)
    simp [KInstr.encode, hd, decodeFields, hop, hfn, hsel, onlyIf]
  | scl op rd rs1 rs2 sign len1 =>
    have hlt : op.code + boolNat sign * 4 + len1.val * 8 < 256 := by
      have := op.code_lt
      have := boolNat_lt sign
      omega
    obtain ⟨hscl, hsign, hlen⟩ := scl_fields op sign len1
    obtain ⟨f, hd, hop, rfl, rfl, rfl, hfn⟩ := atnDecode_fmtR (op := 0x23) (a := rd) (b := rs1) (c := rs2)
      (fn := op.code + boolNat sign * 4 + len1.val * 8) (by omega)
    simp only [KInstr.encode, hd, decodeFields, hop, hfn, hlt, hscl, hsign, hlen, onlyIf, decide_true, if_true]
  | tlk rd rs1 rs2 type sr =>
    have hlt : type.val + sr.val * 8 < 256 := by omega
    obtain ⟨htype, hsr⟩ := tlk_fields type sr
    obtain ⟨f, hd, hop, rfl, rfl, rfl, hfn⟩ := atnDecode_fmtR (op := 0x26) (a := rd) (b := rs1) (c := rs2)
      (fn := type.val + sr.val * 8) (by omega)
    simp only [KInstr.encode, hd, decodeFields, hop, hfn, hlt, htype, hsr, onlyIf, decide_true, if_true]
  | tarm rd rs1 rs2 timer periodic cancel =>
    have hlt : timer.val + boolNat periodic * 4 + boolNat cancel * 8 < 16 := by
      have := boolNat_lt periodic
      have := boolNat_lt cancel
      omega
    obtain ⟨htimer, hper, hcancel⟩ := tarm_fields timer periodic cancel
    obtain ⟨f, hd, hop, rfl, rfl, rfl, hfn⟩ := atnDecode_fmtR (op := 0x28) (a := rd) (b := rs1) (c := rs2)
      (fn := timer.val + boolNat periodic * 4 + boolNat cancel * 8) (by omega)
    simp only [KInstr.encode, hd, decodeFields, hop, hfn, hlt, htimer, hper, hcancel, onlyIf, decide_true, if_true]
  | mcpy rd rs1 rs2 | sget rd rs1 rs2 | sput rd rs1 rs2 | emit rd rs1 rs2 | hset rd rs1 rs2 =>
    obtain ⟨f, hd, hop, rfl, rfl, rfl, hfn⟩ := atnDecode_fmtR (a := rd) (b := rs1) (c := rs2) (fn := 0) (by omega)
    simp only [KInstr.encode]
    rw [hd, decodeFields, hop]
    simp [hfn, onlyIf]
  | ciph rd rs1 =>
    obtain ⟨f, hd, hop, rfl, rfl, hc, hfn⟩ := atnDecode_fmtR (op := 0x2A) (a := rd) (b := rs1) (c := 0) (fn := 0) (by omega)
    simp [KInstr.encode, hd, decodeFields, hop, hc, hfn, onlyIf]
  | tnow pair =>
    obtain ⟨f, hd, ha, hb, hc, hfn⟩ := atnDecode_sys (fn := 1) (Fin.ofNat 32 (2 * pair.val + 2)) (by decide)
    exact hd.trans (decodeSys_tnow pair ha hb hc hfn)
  | rnd rd =>
    obtain ⟨f, hd, rfl, hb, hc, hfn⟩ := atnDecode_sys (fn := 2) rd (by decide)
    simp [KInstr.encode, hd, decodeSys, hb, hc, hfn]
  | budl rd =>
    obtain ⟨f, hd, rfl, hb, hc, hfn⟩ := atnDecode_sys (fn := 3) rd (by decide)
    simp [KInstr.encode, hd, decodeSys, hb, hc, hfn]
  | who rd =>
    obtain ⟨f, hd, rfl, hb, hc, hfn⟩ := atnDecode_sys (fn := 4) rd (by decide)
    simp [KInstr.encode, hd, decodeSys, hb, hc, hfn]
  | nop | done | abandon => rfl

/-- An opcode has six bits, and what stands beside it its 26 bits (R249). -/
theorem KInstr.encode_lt (i : KInstr) : i.encode < 2 ^ 32 := by
  cases i with
  | alu op rd rs1 rs2 => exact fmtR_lt _ _ _ (by decide) (by have := op.code_lt; omega)
  | rev half rd rs1 => exact fmtR_lt _ _ _ (by decide) (by have := boolNat_lt half; omega)
  | imm op rd rs1 i16 | load op rd rs1 i16 | store op rd rs1 i16 | branch op rd rs1 i16 =>
    exact fmtI_lt _ _ (by cases op <;> decide) i16.isLt
  | shi op rd rs1 amt => exact fmtI_lt _ _ (by decide) (by have := op.code_lt; omega)
  | lui rd i16 | lpc rd i16 | jr rd rs1 i16 => exact fmtI_lt _ _ (by decide) i16.isLt
  | jump link off =>
    have := boolNat_lt link
    simp only [KInstr.encode]
    omega
  | atom add rd rs1 rs2 => exact fmtR_lt _ _ _ (by decide) (by have := boolNat_lt add; omega)
  | bfx rd rs1 start len1 be sign =>
    exact fmtI_lt _ _ (by decide) (by have := boolNat_lt be; have := boolNat_lt sign; omega)
  | bfi rs2 rs1 start len1 be => exact fmtI_lt _ _ (by decide) (by have := boolNat_lt be; omega)
  | crc rd rs1 rs2 sel => exact fmtR_lt _ _ _ (by decide) (by have := sel.isLt; omega)
  | scl op rd rs1 rs2 sign len1 =>
    exact fmtR_lt _ _ _ (by decide) (by have := op.code_lt; have := boolNat_lt sign; omega)
  | tlk rd rs1 rs2 type sr => exact fmtR_lt _ _ _ (by decide) (by omega)
  | tarm rd rs1 rs2 timer periodic cancel =>
    exact fmtR_lt _ _ _ (by decide) (by have := boolNat_lt periodic; have := boolNat_lt cancel; omega)
  | mcpy | sget | sput | emit | hset | ciph | nop | tnow | rnd | budl | who | done | abandon =>
    exact fmtR_lt _ _ _ (by decide) (by decide)

/-- Settles O59: what is encoded is 32 bits wide and decodes to itself, so encoding is injective. -/
theorem keeperRoundTrip : Obligations.KeeperRoundTrip := by
  unfold Obligations.KeeperRoundTrip
  exact ⟨fun i => ⟨i.encode_lt, atnDecode_encode i⟩, fun i j h => Option.some.inj (by rw [← atnDecode_encode i, h, atnDecode_encode j])⟩

end Sys2Proof.Machine

/-! The step and the reset state (R10, R54, R59), and the events of the supply sequence (R59, R60, R73, R78). -/

namespace Sys2Proof.Machine

/-- Settles O57: the two branches of the step. -/
theorem stepRunsCommand : Obligations.StepRunsCommand := by
  unfold Obligations.StepRunsCommand
  exact fun c s rest => ⟨rfl, fun h => by simp only [step, h]⟩

theorem State.rd_reset (a : Nat) : State.reset.rd a = if a = SYS_RESET_CAUSE then 1 else regDefault a := by
  simp only [State.rd, State.reset, tget, eq_comm (a := a)]
  rfl

/-- Settles O58: the only register off its reset value is the reset cause. -/
theorem resetState : Obligations.ResetState := by
  unfold Obligations.ResetState
  refine ⟨⟨rfl, by decide⟩, rfl, rfl, rfl, by decide, fun a ha => by rw [State.rd_reset, if_neg ha], rfl, rfl, rfl, rfl, rfl, rfl,
    by decide, rfl, rfl, rfl, rfl, rfl, ?_⟩
  decide

/-! The supply sequence -/

theorem tget_map {α β : Type} (d : α) (e : β) (f : α → β) (hf : f d = e) (t : Tab α) (k : Nat) :
    tget e (t.map (fun x => (x.1, f x.2))) k = f (tget d t k) := by
  induction t with
  | nil => exact hf.symm
  | cons x t ih =>
    simp only [List.map_cons, tget, ih]
    split <;> rfl

/-- What a BNK register, or any other, reads once the bank die has powered up (R10, R72). -/
theorem State.rd_bankPowerUp (s : State) (a : Nat) : s.bankPowerUp.rd a = if isBnk a then regDefault a else s.rd a := by
  have h := tget_filter (regDefault a) (fun x => !isBnk x) s.regs a
  simp only [State.rd, State.bankPowerUp, h]
  cases isBnk a <;> rfl

theorem State.wakeOf_bankPowerUp (s : State) (i : Nat) :
    s.bankPowerUp.wakeOf i = { pin := (s.wakeOf i).pin, filtering := (s.wakeOf i).pin } :=
  tget_map (α := WakeIn) (β := WakeIn) {} {} (fun w => { pin := w.pin, filtering := w.pin }) rfl s.bank.wakeIn i

/-- Settles O1: each event of the sequence at its stage and outside it. -/
theorem supplySequence : Obligations.SupplySequence := by
  unfold Obligations.SupplySequence
  intro s
  refine ⟨fun h => ⟨_, rfl, ?_⟩, fun hd hq ha => ⟨_, rfl, ?_⟩, fun hd hn => ⟨_, rfl, ?_⟩, fun hq he hm => ⟨_, rfl, ?_⟩,
    fun hq hh => ⟨_, rfl, ?_⟩, fun hq => ⟨_, rfl, ?_⟩, fun hq => ⟨_, rfl, ?_⟩, fun hq => ⟨_, rfl, ?_⟩,
    fun hp hq => ⟨_, rfl, ?_⟩, fun hn => ⟨_, rfl, ?_⟩, fun hq => ⟨_, rfl, ?_⟩, fun hq => ⟨_, rfl, ?_⟩,
    fun hq hb => ⟨_, rfl, ?_⟩, fun hn => ⟨_, rfl, ?_⟩⟩
  · simp only [State.vbatValid, h]
    exact ⟨rfl, s.rd_bankPowerUp, s.wakeOf_bankPowerUp⟩
  · simp [State.vbatValid, hd, hq, ha, State.recordCause, State.setBank, State.startSupply]
  · unfold State.vbatValid
    split
    · contradiction
    · exact if_neg (fun h => hn ⟨by assumption, h⟩)
    · rfl
  · simp [State.raiseLineVcore, hq, he, hm, State.setBank, State.setDev]
  · simp [State.raiseLineVcore, hq, hh, State.setBank, State.setDev]
  · simp [State.raiseLineVcore, hq]
  · simp [State.supPgHigh, hq, State.setBank]
  · simp [State.supPgHigh, hq, State.setBank]
  · simp [State.supplyTimeout, hp, hq, State.setBank, State.setDev, State.enablesLow]
  · refine if_neg (fun h => ?_)
    rcases hn with hn | hn <;> simp_all
  · simp [State.supplyRetry, hq, State.startSupply, State.setBank]
  · simp [State.supplyRetry, hq]
  · simp [State.brownRestart, hq, hb, State.startSupply, State.setBank]
  · refine if_neg (fun h => ?_)
    rcases hn with hn | hn <;> simp_all

end Sys2Proof.Machine

/-! A register write by a command of its own (R7, R8, R29), and the commands that clear counters. -/

namespace Sys2Proof.Machine

/-! What an authenticated debug access changes beside its effect -/

section
variable (s : State) (m : Master)

@[simp] theorem State.seen_pending : (s.seen m).pending = s.pending := by unfold State.seen; split <;> rfl
@[simp] theorem State.seen_elapsed : (s.seen m).elapsed = s.elapsed := by unfold State.seen; split <;> rfl
@[simp] theorem State.seen_tide : (s.seen m).tide = s.tide := by unfold State.seen; split <;> rfl
@[simp] theorem State.seen_tideFrac : (s.seen m).tideFrac = s.tideFrac := by unfold State.seen; split <;> rfl
@[simp] theorem State.seen_free : (s.seen m).free = s.free := by unfold State.seen; split <;> rfl
@[simp] theorem State.seen_outputs : (s.seen m).outputs = s.outputs := by unfold State.seen; split <;> rfl
@[simp] theorem State.seen_regs : (s.seen m).regs = s.regs := by unfold State.seen; split <;> rfl
@[simp] theorem State.seen_mem : (s.seen m).mem = s.mem := by unfold State.seen; split <;> rfl
@[simp] theorem State.seen_dev : (s.seen m).dev = s.dev := by unfold State.seen; split <;> rfl
@[simp] theorem State.seen_pins : (s.seen m).pins = s.pins := by unfold State.seen; split <;> rfl
@[simp] theorem State.seen_bank : (s.seen m).bank = s.bank := by unfold State.seen; split <;> rfl
@[simp] theorem State.seen_mram : (s.seen m).mram = s.mram := by unfold State.seen; split <;> rfl
@[simp] theorem State.seen_hlt : (s.seen m).hlt = s.hlt := by unfold State.seen; split <;> rfl
@[simp] theorem State.seen_flt : (s.seen m).flt = s.flt := by unfold State.seen; split <;> rfl
@[simp] theorem State.seen_sw : (s.seen m).sw = s.sw := by unfold State.seen; split <;> rfl
@[simp] theorem State.seen_tm : (s.seen m).tm = s.tm := by unfold State.seen; split <;> rfl
@[simp] theorem State.seen_csg : (s.seen m).csg = s.csg := by unfold State.seen; split <;> rfl
@[simp] theorem State.seen_eth : (s.seen m).eth = s.eth := by unfold State.seen; split <;> rfl
@[simp] theorem State.seen_tbl : (s.seen m).tbl = s.tbl := by unfold State.seen; split <;> rfl
@[simp] theorem State.seen_otp : (s.seen m).otp = s.otp := by unfold State.seen; split <;> rfl
@[simp] theorem State.seen_sec : (s.seen m).sec = s.sec := by unfold State.seen; split <;> rfl
@[simp] theorem State.seen_fab : (s.seen m).fab = s.fab := by unfold State.seen; split <;> rfl
@[simp] theorem State.seen_plc : (s.seen m).plc = s.plc := by unfold State.seen; split <;> rfl
@[simp] theorem State.seen_kpr : (s.seen m).kpr = s.kpr := by unfold State.seen; split <;> rfl
@[simp] theorem State.seen_can : (s.seen m).can = s.can := by unfold State.seen; split <;> rfl
@[simp] theorem State.seen_fld (a : Nat) (f : Fld) : (s.seen m).fld a f = s.fld a f := by simp [State.fld]
@[simp] theorem State.seen_pol (p : Nat) : (s.seen m).pol p = s.pol p := by simp [State.pol]
@[simp] theorem State.seen_frer (c : Nat) : (s.seen m).frer c = s.frer c := by simp [State.frer]
@[simp] theorem State.seen_eccOf (n : Nat) : (s.seen m).eccOf n = s.eccOf n := by simp [State.eccOf]
@[simp] theorem State.seen_running : (s.seen m).running = s.running := by simp [State.running]

end

/-! The write of one register -/

/-- A permitted write by a command reaches its register and nothing else (R7, R29). -/
theorem State.regCommand_eq {s : State} {m : Master} {a : Nat} (h : s.writable m a) (hblock : (blockAt a).isSome = true)
    (ha : a < 2 ^ 38) (v : Word) : s.regCommand m a v = (s.seen m).regWrite m a v := by
  obtain ⟨hrun, hok⟩ := h
  have hbase : addrBase a = a := Nat.mod_eq_of_lt ha
  simp [State.regCommand, State.busWrite, hrun, hok, hbase, hblock]

theorem State.sendOwed_of_none {s : State} (h : s.csg.owed = []) : s.sendOwed = s := by
  have hcsg : { s.csg with owed := [] } = s.csg := by rw [← h]
  simp only [State.sendOwed, h, List.foldl_nil, hcsg]

/-! The register blocks of the ports and of the CAN channels (R26) -/

section
variable {n off : Nat}

theorem blockAt_eth (hn : n < 28) (hoff : off < 0x1000) : blockAt (0x20080000 + 0x1000 * n + off) = some (regsETH, off) := by
  have hrest : (0x20080000 + 0x1000 * n + off) % 0x1000 = off := by omega
  by_cases hlow : n < 16
  · have hblock : (0x20080000 + 0x1000 * n + off) / 0x10000 = 0x2008 := by omega
    simp only [blockAt, hblock, hrest]
  · have hblock : (0x20080000 + 0x1000 * n + off) / 0x10000 = 0x2009 := by omega
    have hlast : (0x20080000 + 0x1000 * n + off) % 0x10000 < 0xC000 := by omega
    simp only [blockAt, hblock, hrest, hlast, if_true]

theorem State.regWrite_eth (s : State) (m : Master) (v : Word) (hn : n < 28) (hoff : off < 0x1000) :
    s.regWrite m (0x20080000 + 0x1000 * n + off) v = s.ethWrite n off v := by
  have hrest : (0x20080000 + 0x1000 * n + off) % 0x1000 = off := by omega
  have hport : (0x20080000 + 0x1000 * n + off - 0x20080000) / 0x1000 = n := by omega
  have hblock : (0x20080000 + 0x1000 * n + off) / 0x10000 = 0x2008 ∨ (0x20080000 + 0x1000 * n + off) / 0x10000 = 0x2009 := by omega
  rcases hblock with hblock | hblock <;> simp only [State.regWrite, hblock, hrest, hport]

theorem blockAt_can (hn : n < 24) (hoff : off < 0x1000) : blockAt (0x200A0000 + 0x1000 * n + off) = some (regsCAN, off) := by
  have hrest : (0x200A0000 + 0x1000 * n + off) % 0x1000 = off := by omega
  by_cases hlow : n < 16
  · have hblock : (0x200A0000 + 0x1000 * n + off) / 0x10000 = 0x200A := by omega
    simp only [blockAt, hblock, hrest]
  · have hblock : (0x200A0000 + 0x1000 * n + off) / 0x10000 = 0x200B := by omega
    have hlast : (0x200A0000 + 0x1000 * n + off) % 0x10000 < 0x8000 := by omega
    simp only [blockAt, hblock, hrest, hlast, if_true]

theorem State.regWrite_can (s : State) (m : Master) (v : Word) (hn : n < 24) (hoff : off < 0x1000) :
    s.regWrite m (0x200A0000 + 0x1000 * n + off) v = s.canWrite n off v := by
  have hrest : (0x200A0000 + 0x1000 * n + off) % 0x1000 = off := by omega
  have hchan : (0x200A0000 + 0x1000 * n + off - 0x200A0000) / 0x1000 = n := by omega
  have hblock : (0x200A0000 + 0x1000 * n + off) / 0x10000 = 0x200A ∨ (0x200A0000 + 0x1000 * n + off) / 0x10000 = 0x200B := by omega
  rcases hblock with hblock | hblock <;> simp only [State.regWrite, hblock, hrest, hchan]

end

section
variable {s : State} {m : Master} {v : Word} {p : Nat}

theorem State.regCommand_eth {off : Nat} (hp : p < 28) (hoff : off < 0x1000) (h : s.writable m (0x20080000 + 0x1000 * p + off)) :
    s.regCommand m (0x20080000 + 0x1000 * p + off) v = (s.seen m).ethWrite p off v := by
  rw [State.regCommand_eq h (by rw [blockAt_eth hp hoff]; rfl) (by omega), State.regWrite_eth _ m v hp hoff]

theorem State.regCommand_can {off : Nat} (hp : p < 24) (hoff : off < 0x1000) (h : s.writable m (0x200A0000 + 0x1000 * p + off)) :
    s.regCommand m (0x200A0000 + 0x1000 * p + off) v = (s.seen m).canWrite p off v := by
  rw [State.regCommand_eq h (by rw [blockAt_can hp hoff]; rfl) (by omega), State.regWrite_can _ m v hp hoff]

end

/-! Command bits beside a register's fields -/

/-- The bits that a field of a register takes. -/
def FAcc.span : FAcc → Fld
  | .rw hi lo | .rwr hi lo _ _ | .w1c hi lo => ⟨hi, lo⟩

theorem Fld.testBit_get (f : Fld) (w : Word) (i : Nat) : (f.get w).testBit i = (decide (i < f.width) && w.toNat.testBit (f.lo + i)) := by
  rw [Fld.get, Nat.testBit_mod_two_pow, Nat.testBit_shiftRight]

/-- Bits outside a field do not show in it. -/
theorem Fld.get_or {f : Fld} {k : Word} (h : f.get k = 0) (v : Word) : f.get (v ||| k) = f.get v := by
  apply Nat.eq_of_testBit_eq
  intro i
  have hk : (f.get k).testBit i = false := by rw [h, Nat.zero_testBit]
  rw [Fld.testBit_get] at hk
  rw [Fld.testBit_get, Fld.testBit_get, BitVec.toNat_or, Nat.testBit_or, Bool.and_or_distrib_left, hk, Bool.or_false]

theorem Fld.get_and_not_or {f : Fld} {k : Word} (h : f.get k = 0) (old v : Word) :
    f.get (old &&& ~~~(v ||| k)) = f.get (old &&& ~~~v) := by
  apply Nat.eq_of_testBit_eq
  intro i
  have hk : (f.get k).testBit i = false := by rw [h, Nat.zero_testBit]
  simp only [Fld.testBit_get, BitVec.testBit_toNat, BitVec.getLsbD_and, BitVec.getLsbD_not, BitVec.getLsbD_or] at hk ⊢
  cases hi : decide (i < f.width) <;> simp_all

theorem FAcc.write_or {f : FAcc} {k : Word} (h : f.span.get k = 0) (old v acc : Word) : f.write old (v ||| k) acc = f.write old v acc := by
  cases f with
  | rw hi lo => exact congrArg (Fld.put _ acc) (Fld.get_or h v)
  | rwr hi lo mn mx => exact congrArg (fun n => Fld.put _ acc (clampNat mn mx n)) (Fld.get_or h v)
  | w1c hi lo => exact congrArg (Fld.put _ acc) (Fld.get_and_not_or h old v)

/-- A command bit that no field of the register takes leaves the register's value as the rest of the word makes it. -/
theorem State.wrPlain_or {a : Nat} {k : Word} (h : ∀ d, regAt a = some d → ∀ f ∈ d.fields, f.span.get k = 0) (s : State) (v : Word) :
    s.wrPlain a (v ||| k) = s.wrPlain a v := by
  unfold State.wrPlain
  cases hd : regAt a with
  | none => rfl
  | some d =>
    have hfold : ∀ (l : List FAcc), (∀ f ∈ l, f.span.get k = 0) → ∀ acc,
        l.foldl (fun acc f => f.write (s.rd a) (v ||| k) acc) acc = l.foldl (fun acc f => f.write (s.rd a) v acc) acc := by
      intro l
      induction l with
      | nil => exact fun _ _ => rfl
      | cons f l ih =>
        intro hl acc
        rw [List.foldl_cons, List.foldl_cons, FAcc.write_or (hl f List.mem_cons_self)]
        exact ih (fun g hg => hl g (List.mem_cons_of_mem _ hg)) _
    exact congrArg (s.wr a) (hfold d.fields (h d hd) (s.rd a))

/-! Registers alone -/

/-- Registers of a list may have changed, and nothing else. -/
def State.wroteRegs (s t : State) (l : List Nat) : Prop := (∀ a, a ∉ l → t.rd a = s.rd a) ∧ t = { s with regs := t.regs }

section
variable {s t u : State} {l l' : List Nat}

theorem State.wroteRegs.refl (s : State) (l : List Nat) : s.wroteRegs s l := ⟨fun _ _ => rfl, rfl⟩

theorem State.wroteRegs.trans (h1 : s.wroteRegs t l) (h2 : t.wroteRegs u l) : s.wroteRegs u l := by
  obtain ⟨hrd1, he1⟩ := h1
  obtain ⟨hrd2, he2⟩ := h2
  exact ⟨fun a ha => (hrd2 a ha).trans (hrd1 a ha), by rw [he2, he1]⟩

theorem State.wroteRegs.mono (h : s.wroteRegs t l) (hl : ∀ a ∈ l, a ∈ l') : s.wroteRegs t l' :=
  ⟨fun a ha => h.1 a (fun h' => ha (hl a h')), h.2⟩

theorem State.wroteRegs.onlyRegs (h : s.wroteRegs t l) : s.onlyRegs t l := fun a ha _ => h.1 a ha

theorem State.wroteRegs_wr (s : State) {a : Nat} (v : Word) (ha : a ∈ l) : s.wroteRegs (s.wr a v) l :=
  ⟨fun _ hb => State.rd_wr_ne s v (fun e => hb (e ▸ ha)), rfl⟩

theorem State.wroteRegs_setFld (s : State) {a : Nat} (f : Fld) (v : Nat) (ha : a ∈ l) : s.wroteRegs (s.setFld a f v) l :=
  State.wroteRegs_wr s _ ha

theorem State.wroteRegs_wrPlain (s : State) {a : Nat} (v : Word) (ha : a ∈ l) : s.wroteRegs (s.wrPlain a v) l := by
  unfold State.wrPlain
  split
  · exact State.wroteRegs_wr s _ ha
  · exact State.wroteRegs.refl s l

theorem State.wroteRegs_clearRegs (s : State) (hl : ∀ a ∈ l', a ∈ l) : s.wroteRegs (s.clearRegs l') l := by
  obtain ⟨r, hr⟩ := State.clearRegs_eq s l'
  exact ⟨fun a ha => by rw [State.clearRegs_rd, if_neg (fun h => ha (hl a h))], by rw [hr]⟩

end

/-- A plain write reads the register alone. -/
theorem State.rd_wrPlain_seen (s : State) (m : Master) (a : Nat) (v : Word) : ((s.seen m).wrPlain a v).rd a = (s.wrPlain a v).rd a := by
  unfold State.wrPlain
  split
  · rw [State.rd_wr_same, State.rd_wr_same, State.seen_rd]
  · exact State.seen_rd s m a

/-! The commands that clear counters -/

section
variable {s : State} {m : Master}

/-- Clearing registers sets them to zero and changes nothing else. -/
theorem State.cleared (s : State) (l : List Nat) : (∀ a ∈ l, (s.clearRegs l).rd a = 0) ∧ s.wroteRegs (s.clearRegs l) l :=
  ⟨fun a ha => by rw [State.clearRegs_rd, if_pos ha], State.wroteRegs_clearRegs s (fun _ h => h)⟩

theorem State.onlyRegs_seen {t : State} {l : List Nat} (h : (s.seen m).onlyRegs t l) : s.onlyRegs t l :=
  fun a ha hlost => (h a ha hlost).trans (State.seen_rd s m a)

/-- A command that is one write of a register clears registers and changes nothing else, where that write does. -/
theorem gives_clears {c : Instr} {l : List Nat} (h : exec c s = .next ((s.seen m).clearRegs l)) :
    Gives c s (fun t => (∀ a ∈ l, t.rd a = 0) ∧ s.onlyRegs t l ∧ t = { s.seen m with regs := t.regs }) := by
  obtain ⟨hzero, hrest⟩ := State.cleared (s.seen m) l
  exact ⟨_, h, hzero, State.onlyRegs_seen hrest.onlyRegs, hrest.2⟩

theorem exec_regCommand {c : Instr} {a : Nat} {v : Word} {t : State} (hc : exec c s = .next (s.regCommand m a v)) (h : s.writable m a)
    (hblock : (blockAt a).isSome = true) (ha : a < 2 ^ 38) (ht : (s.seen m).regWrite m a v = t) : exec c s = .next t := by
  rw [hc, State.regCommand_eq h hblock ha, ht]

theorem testBit_or_set (v : Word) (k : Nat) {i : Nat} (hi : i < 32) (h : k.testBit i = true) :
    (v ||| BitVec.ofNat 32 k).toNat.testBit i = true := by
  rw [BitVec.toNat_or, Nat.testBit_or, BitVec.toNat_ofNat, Nat.testBit_mod_two_pow]
  simp [hi, h]

theorem testBit_or_clear (v : Word) {k i : Nat} (h : k.testBit i = false) :
    (v ||| BitVec.ofNat 32 k).toNat.testBit i = v.toNat.testBit i := by
  rw [BitVec.toNat_or, Nat.testBit_or, BitVec.toNat_ofNat, Nat.testBit_mod_two_pow]
  simp [h]

/-- The clear command of one block: its go bit clears the block's counters. -/
theorem gives_clears_bit {c : Instr} {a k : Nat} {v : Word} {l : List Nat} (i : Nat)
    (hc : exec c s = .next (s.regCommand m a (v ||| BitVec.ofNat 32 k))) (h : s.writable m a) (hblock : (blockAt a).isSome = true)
    (ha : a < 2 ^ 38) (hi : i < 32) (hk : k.testBit i = true)
    (hw : ∀ w : Word, w.toNat.testBit i = true → (s.seen m).regWrite m a w = (s.seen m).clearRegs l) :
    Gives c s (fun t => (∀ a ∈ l, t.rd a = 0) ∧ s.onlyRegs t l ∧ t = { s.seen m with regs := t.regs }) :=
  gives_clears (exec_regCommand hc h hblock ha (hw _ (testBit_or_set v k hi hk)))

theorem gives_swcCntClr (p : Fin 32) (h : s.writable m SWC_CNT_CLR) : Gives (.swcCntClr m p) s (fun t =>
    (∀ a ∈ (List.range 16).map (SWC_CNT p), t.rd a = 0) ∧ s.onlyRegs t ((List.range 16).map (SWC_CNT p)) ∧
      t = { s.seen m with regs := t.regs }) := by
  refine gives_clears (exec_regCommand rfl h rfl (by decide) ?_)
  have hp := p.isLt
  have hv : (BitVec.ofNat 32 (p.val + 64)).toNat = p.val + 64 := by
    rw [BitVec.toNat_ofNat]
    omega
  have hgo : bit 6 (p.val + 64) = true := by
    rw [bit, Nat.testBit_eq_decide_div_mod_eq]
    exact decide_eq_true (by omega)
  have hall : bit 5 (p.val + 64) = false := by
    rw [bit, Nat.testBit_eq_decide_div_mod_eq]
    exact decide_eq_false (by omega)
  have hmod : (p.val + 64) % 32 = p.val := by omega
  show (s.seen m).swcClear (BitVec.ofNat 32 (p.val + 64)).toNat = _
  simp only [State.swcClear, hv, hgo, hall, hmod, if_true, Bool.false_eq_true, if_false]

theorem regWrite_swcClear_all {w : Word} (h : w.toNat.testBit 6 = true) (h5 : w.toNat.testBit 5 = true) (s : State) :
    s.regWrite m SWC_CNT_CLR w = s.clearRegs ((List.range 32).flatMap (fun n => (List.range 16).map (SWC_CNT n)) ++
      (List.range 8).map SWC_BANK_COLLIDE) := by
  show s.swcClear w.toNat = _
  simp only [State.swcClear, bit, h, h5, if_true]

end

/-! A table of which every entry is changed -/

theorem tget_eq_default {α : Type} (d : α) {t : Tab α} {k : Nat} (h : k ∉ t.map (fun e => e.1)) : tget d t k = d := by
  induction t with
  | nil => rfl
  | cons e t ih =>
    simp only [List.map_cons, List.mem_cons, not_or] at h
    simp only [tget, if_neg (Ne.symm h.1), ih h.2]

section
variable {α : Type} [DecidableEq α]

/-- Changing the entries of a list of keys one after the other, where a second change of an entry has no effect. -/
theorem tget_foldl_tmod (d : α) (f : α → α) (hf : ∀ x, f (f x) = f x) (ks : List Nat) (t : Tab α) (k : Nat) :
    tget d (ks.foldl (fun t k => tmod d t k f) t) k = if k ∈ ks then f (tget d t k) else tget d t k := by
  induction ks generalizing t with
  | nil => simp
  | cons j ks ih =>
    rw [List.foldl_cons, ih, tmod, tget_tset d d _ _ _ _ (fun _ => rfl)]
    by_cases hj : k = j
    · subst hj
      simp [hf]
    · simp [hj]

/-- Every entry that the table lists is changed; an unlisted one reads as before, which the change leaves as it is. -/
theorem tget_foldl_tmod_keys (d : α) (f : α → α) (hf : ∀ x, f (f x) = f x) (hd : f d = d) (t : Tab α) (k : Nat) :
    tget d ((t.map (fun e => e.1)).foldl (fun t k => tmod d t k f) t) k = f (tget d t k) := by
  rw [tget_foldl_tmod d f hf]
  split
  · rfl
  · next h => rw [tget_eq_default d h, hd]

end

/-! Policers, gauge, camera stream path and event queue -/

/-- A policer with its counters at zero. -/
def Policer.cleared (x : Policer) : Policer := { x with pass := 0, drop := 0 }

theorem State.clrPolCnt_eq (s : State) : s.clrPolCnt =
    { s with tm := { s.tm with pol := (s.tm.pol.map (fun e => e.1)).foldl (fun t k => tmod {} t k Policer.cleared) s.tm.pol } } := by
  have hfold : ∀ (l : Tab Policer) (s : State), l.foldl (fun t e => t.polClr e.1) s =
      { s with tm := { s.tm with pol := (l.map (fun e => e.1)).foldl (fun t k => tmod {} t k Policer.cleared) s.tm.pol } } := by
    intro l
    induction l with
    | nil => exact fun _ => rfl
    | cons e l ih => exact fun s => ih _
  exact hfold _ s

theorem State.pol_clrPolCnt (s : State) (p : Nat) : s.clrPolCnt.pol p = { s.pol p with pass := 0, drop := 0 } := by
  rw [State.clrPolCnt_eq]
  exact tget_foldl_tmod_keys {} Policer.cleared (fun _ => rfl) rfl s.tm.pol p

/-- A recovery context with its counters at zero. -/
def FrerCtx.cleared (x : FrerCtx) : FrerCtx := { x with cnt := [0, 0, 0, 0, 0, 0] }

/-- The counters of every recovery context at zero (R159). -/
def State.clrFrer (s : State) : State := s.csg.ctx.foldl (fun t e => t.setFrer e.1 (t.frer e.1).cleared) s

theorem State.clrFrer_eq (s : State) : s.clrFrer =
    { s with csg := { s.csg with ctx := (s.csg.ctx.map (fun e => e.1)).foldl (fun t k => tmod {} t k FrerCtx.cleared) s.csg.ctx } } := by
  have hfold : ∀ (l : Tab FrerCtx) (s : State), l.foldl (fun t e => t.setFrer e.1 (t.frer e.1).cleared) s =
      { s with csg := { s.csg with ctx := (l.map (fun e => e.1)).foldl (fun t k => tmod {} t k FrerCtx.cleared) s.csg.ctx } } := by
    intro l
    induction l with
    | nil => exact fun _ => rfl
    | cons e l ih => exact fun s => ih _
  exact hfold _ s

theorem State.frer_clrFrer (s : State) (c : Nat) : s.clrFrer.frer c = { s.frer c with cnt := [0, 0, 0, 0, 0, 0] } := by
  rw [State.clrFrer_eq]
  exact tget_foldl_tmod_keys {} FrerCtx.cleared (fun _ => rfl) rfl s.csg.ctx c

section
variable {s : State} {m : Master} {v : Word}

theorem State.tmgCtlWrite_eq (s : State) (n : Nat) : s.tmgCtlWrite n =
    if n.testBit 1 then (if n.testBit 0 then s.clearRegs ((List.range 28).flatMap (fun p => [TMG_GATE_CNT p 0, TMG_GATE_CNT p 1]))
      else s).clrPolCnt
    else if n.testBit 0 then s.clearRegs ((List.range 28).flatMap (fun p => [TMG_GATE_CNT p 0, TMG_GATE_CNT p 1])) else s := rfl

/-- A write of TMG_CTL clears the gate counters and the policers' counters as its two bits say (R132). -/
theorem State.tmgCtlWrite_spec (s : State) (n : Nat) :
    let gates := (List.range 28).flatMap (fun p => [TMG_GATE_CNT p 0, TMG_GATE_CNT p 1])
    let t := s.tmgCtlWrite n
    (n.testBit 0 = true → ∀ a ∈ gates, t.rd a = 0) ∧ s.onlyRegs t (if n.testBit 0 then gates else []) ∧
    (n.testBit 1 = true → ∀ p, t.pol p = { s.pol p with pass := 0, drop := 0 }) ∧ (n.testBit 1 = false → t.tm = s.tm) ∧
    t = { s with regs := t.regs, tm := { s.tm with pol := t.tm.pol } } := by
  intro gates t
  have hgates : (n.testBit 0 = true → ∀ a ∈ gates, (if n.testBit 0 then s.clearRegs gates else s).rd a = 0) ∧
      s.wroteRegs (if n.testBit 0 then s.clearRegs gates else s) (if n.testBit 0 then gates else []) := by
    cases n.testBit 0 with
    | false => exact ⟨fun h => Bool.noConfusion h, State.wroteRegs.refl s _⟩
    | true => exact ⟨fun _ => (State.cleared s gates).1, (State.cleared s gates).2⟩
  obtain ⟨hzero, hrd, heq⟩ := hgates
  have ht : t = if n.testBit 1 then (if n.testBit 0 then s.clearRegs gates else s).clrPolCnt
      else if n.testBit 0 then s.clearRegs gates else s := rfl
  generalize (if n.testBit 0 then s.clearRegs gates else s) = u at hzero hrd heq ht
  cases h1 : n.testBit 1 with
  | false =>
    rw [h1, if_neg Bool.false_ne_true] at ht
    subst ht
    exact ⟨hzero, fun a ha _ => hrd a ha, fun h => Bool.noConfusion h, fun _ => by rw [heq], heq.trans (by rw [heq])⟩
  | true =>
    rw [h1, if_pos rfl] at ht
    have hregs : t.regs = u.regs := by rw [ht, State.clrPolCnt_eq]
    have hread : ∀ a, t.rd a = u.rd a := fun a => by simp only [State.rd, hregs]
    refine ⟨fun h a ha => (hread a).trans (hzero h a ha), fun a ha _ => (hread a).trans (hrd a ha), fun _ p => ?_,
      fun h => Bool.noConfusion h, ?_⟩
    · rw [ht, State.pol_clrPolCnt, heq]
      rfl
    · rw [ht, State.clrPolCnt_eq, heq]

/-- A write of TMG_GAUGE_CTL sets the gauge and clears watermarks and bins as its two bits say (R129, R132). -/
theorem State.gaugeCtlWrite_spec (s : State) (v : Word) :
    let bins := (List.range 64).flatMap histRegs
    let t := s.gaugeCtlWrite v
    t.rd TMG_GAUGE_CTL = (s.wrPlain TMG_GAUGE_CTL v).rd TMG_GAUGE_CTL ∧ (v.toNat.testBit 19 = true → ∀ a ∈ bins, t.rd a = 0) ∧
    s.onlyRegs t (TMG_GAUGE_CTL :: if v.toNat.testBit 19 then bins else []) ∧
    t = { s with regs := t.regs, tm := if v.toNat.testBit 18 then { s.tm with wmDepth := [], wmDelay := [] } else s.tm } := by
  intro bins t
  have hne : TMG_GAUGE_CTL ∉ bins := by
    simp only [bins, histRegs, List.mem_flatMap, List.mem_append, List.mem_map, TMG_GAUGE_CTL, TMG_HIST_DEPTH, TMG_HIST_DELAY]
    omega
  have hset := State.wroteRegs_wrPlain (l := TMG_GAUGE_CTL :: if v.toNat.testBit 19 then bins else []) s (a := TMG_GAUGE_CTL) v
    List.mem_cons_self
  have ht : t = if v.toNat.testBit 19 then ({ s.wrPlain TMG_GAUGE_CTL v with
      tm := if v.toNat.testBit 18 then { s.tm with wmDepth := [], wmDelay := [] } else s.tm } : State).clearRegs bins
      else { s.wrPlain TMG_GAUGE_CTL v with tm := if v.toNat.testBit 18 then { s.tm with wmDepth := [], wmDelay := [] } else s.tm } := by
    have htm : (s.wrPlain TMG_GAUGE_CTL v).tm = s.tm := by rw [hset.2]
    simp only [t, State.gaugeCtlWrite, htm, bins]
    cases v.toNat.testBit 18 with
    | false =>
      have hsame : s.wrPlain TMG_GAUGE_CTL v = { s.wrPlain TMG_GAUGE_CTL v with tm := s.tm } := by rw [← htm]
      simp only [Bool.false_eq_true, if_false, ← hsame]
    | true => rfl
  cases h19 : v.toNat.testBit 19 with
  | false =>
    rw [h19] at ht hset
    simp only [Bool.false_eq_true, if_false] at ht hset ⊢
    rw [ht]
    exact ⟨rfl, fun h => h.elim, hset.onlyRegs, by rw [hset.2]⟩
  | true =>
    rw [h19] at ht hset
    simp only [if_true] at ht hset ⊢
    rw [ht]
    obtain ⟨r, hr⟩ := State.clearRegs_eq ({ s.wrPlain TMG_GAUGE_CTL v with
      tm := if v.toNat.testBit 18 then { s.tm with wmDepth := [], wmDelay := [] } else s.tm } : State) bins
    refine ⟨?_, fun _ a ha => ?_, fun a ha hlost => ?_, ?_⟩
    · rw [State.clearRegs_rd, if_neg hne]
      rfl
    · rw [State.clearRegs_rd, if_pos ha]
    · rw [State.clearRegs_rd, if_neg (fun h => ha (List.mem_cons_of_mem _ h))]
      exact hset.onlyRegs a ha hlost
    · rw [hr, hset.2]

/-- The counters of every recovery context at zero where a bit says so. -/
def State.clrFrerIf (s : State) (b : Bool) : State := if b then s.clrFrer else s

theorem State.ite_clearRegs (s : State) (b : Bool) (l : List Nat) :
    (if b = true then s.clearRegs l else s) = s.clearRegs (if b then l else []) := by
  cases b <;> rfl

/-- A write of CSG_CNT_CLR clears what its three bits name (R159). -/
theorem State.csgClear_spec (s : State) (v : Word) (howed : s.csg.owed = []) :
    let guards := (List.range 64).flatMap (fun g => [CSG_G_MISS g, CSG_G_FAULTS g])
    let t := s.regWrite m CSG_CNT_CLR v
    let l := (if v.toNat.testBit 0 then guards else []) ++ (if v.toNat.testBit 2 then [CSG_REFUSED] else [])
    (∀ a ∈ l, t.rd a = 0) ∧ (v.toNat.testBit 1 = true → ∀ e ∈ s.csg.ctx, t.frer e.1 = { s.frer e.1 with cnt := [0, 0, 0, 0, 0, 0] }) ∧
    (v.toNat.testBit 1 = false → t.csg = s.csg) ∧ s.onlyRegs t l ∧
    t = { s with regs := t.regs, csg := { s.csg with ctx := t.csg.ctx } } := by
  intro guards t l
  have ht : t = (((s.clearRegs (if v.toNat.testBit 0 then guards else [])).clrFrerIf (v.toNat.testBit 1)).clearRegs
      (if v.toNat.testBit 2 then [CSG_REFUSED] else [])).sendOwed := by
    rw [← State.ite_clearRegs, ← State.ite_clearRegs]
    rfl
  obtain ⟨r1, h1⟩ := State.clearRegs_eq s (if v.toNat.testBit 0 then guards else [])
  generalize hu : s.clearRegs (if v.toNat.testBit 0 then guards else []) = u at h1 ht
  obtain ⟨r2, h2⟩ := State.clearRegs_eq (u.clrFrerIf (v.toNat.testBit 1)) (if v.toNat.testBit 2 then [CSG_REFUSED] else [])
  have hframe : u.clrFrerIf (v.toNat.testBit 1) = { u with csg := { u.csg with ctx := (u.clrFrerIf (v.toNat.testBit 1)).csg.ctx } } := by
    unfold State.clrFrerIf
    split
    · rw [State.clrFrer_eq]
    · rfl
  have hcsg : t.csg = { s.csg with ctx := (u.clrFrerIf (v.toNat.testBit 1)).csg.ctx } ∧
      t = { s with regs := t.regs, csg := t.csg } ∧ t.regs = r2 := by
    rw [State.sendOwed_of_none (by rw [h2, hframe, h1, howed])] at ht
    rw [ht, h2, hframe, h1]
    exact ⟨rfl, rfl, rfl⟩
  obtain ⟨hctx, heq, hr⟩ := hcsg
  have hrd : ∀ a, t.rd a = if a ∈ l then 0 else s.rd a := by
    intro a
    have ha : t.rd a = ((u.clrFrerIf (v.toNat.testBit 1)).clearRegs (if v.toNat.testBit 2 then [CSG_REFUSED] else [])).rd a := by
      simp only [State.rd, hr, h2]
    have hf : (u.clrFrerIf (v.toNat.testBit 1)).rd a = u.rd a := by
      rw [hframe]
      rfl
    rw [ha, State.clearRegs_rd, hf, ← hu, State.clearRegs_rd]
    simp only [l, List.mem_append]
    by_cases h1 : a ∈ (if v.toNat.testBit 0 = true then guards else []) <;>
      by_cases h2 : a ∈ (if v.toNat.testBit 2 = true then [CSG_REFUSED] else []) <;>
      simp only [h1, h2, or_true, or_false, if_true, if_false]
  refine ⟨fun a ha => by rw [hrd, if_pos ha], fun h e _ => ?_, fun h => ?_, fun a ha _ => by rw [hrd, if_neg ha], ?_⟩
  · rw [State.frer, hctx, h]
    show (u.clrFrer).frer e.1 = _
    rw [State.frer_clrFrer, h1]
    rfl
  · rw [hctx, h, h1]
    rfl
  · rw [hctx] at heq
    rw [heq]

/-- The counts of a memory at zero (R414). -/
def EccMem.cleared (x : EccMem) : EccMem := { x with corrected := 0, uncorrectable := 0, warned := false }

/-- A write of FLT_CNT_CLR clears what its three bits name (R414, R429, R435). -/
theorem State.fltClear_spec (s : State) (w : Word) :
    let t := s.regWrite m FLT_CNT_CLR w
    (w.toNat.testBit 0 = true → (∀ k < 8, t.rd (FLT_EVQ_LOST k) = 0) ∧ t.fld FLT_EVQ_STATUS FLT_EVQ_STATUS_ecc_lost = 0) ∧
    (w.toNat.testBit 1 = true → ∀ k < 16, t.rd (FLT_SRC_LOST (k + 1)) = 0) ∧
    (w.toNat.testBit 1 = false → ∀ k < 16, t.rd (FLT_SRC_LOST (k + 1)) = s.rd (FLT_SRC_LOST (k + 1))) ∧
    (w.toNat.testBit 2 = true → ∀ n : Nat, t.eccOf n = { s.eccOf n with corrected := 0, uncorrectable := 0, warned := false }) ∧
    (w.toNat.testBit 2 = false → t.flt = s.flt) ∧
    s.onlyRegs t (if w.toNat.testBit 0 then FLT_EVQ_STATUS :: (List.range 8).map FLT_EVQ_LOST else []) ∧
    t = { s with regs := t.regs, flt := { s.flt with ecc := t.flt.ecc } } := by
  intro t
  let evq := FLT_EVQ_STATUS :: (List.range 8).map FLT_EVQ_LOST
  let src := (List.range 16).map (fun i => FLT_SRC_LOST (i + 1))
  let u := if w.toNat.testBit 0 then (s.clearRegs ((List.range 8).map FLT_EVQ_LOST)).setFld FLT_EVQ_STATUS FLT_EVQ_STATUS_ecc_lost 0
    else s
  have hu : s.wroteRegs u (if w.toNat.testBit 0 then evq else []) := by
    by_cases h : w.toNat.testBit 0 = true
    · simp only [u, h, if_true]
      exact (State.wroteRegs_clearRegs s fun _ h => List.mem_cons_of_mem _ h).trans (State.wroteRegs_setFld _ _ _ List.mem_cons_self)
    · simp only [u, h]
      exact State.wroteRegs.refl s _
  have hu0 : w.toNat.testBit 0 = true → (∀ k < 8, u.rd (FLT_EVQ_LOST k) = 0) ∧ u.fld FLT_EVQ_STATUS FLT_EVQ_STATUS_ecc_lost = 0 := by
    intro h
    simp only [u, h, if_true]
    refine ⟨fun k hk => ?_, ?_⟩
    · rw [State.rd_setFld, if_neg (by simp only [FLT_EVQ_LOST, FLT_EVQ_STATUS]; omega), State.clearRegs_rd,
        if_pos (List.mem_map_of_mem (List.mem_range.2 hk))]
    · rw [State.fld, State.rd_setFld, if_pos rfl, Fld.get_put _ _ _ (by decide) (by decide)]
      rfl
  have ht : t = let x := u.clearRegs (if w.toNat.testBit 1 then src else [])
      if w.toNat.testBit 2 then { x with flt := { x.flt with ecc := x.flt.ecc.map (fun e => (e.1, e.2.cleared)) } } else x := by
    rw [← State.ite_clearRegs]
    rfl
  clear_value u
  have hmem : ∀ a, a ∈ src ↔ ∃ k < 16, a = FLT_SRC_LOST (k + 1) := by
    intro a
    simp only [src, List.mem_map, List.mem_range, eq_comm]
  have hsrc : ∀ k < 16, FLT_SRC_LOST (k + 1) ∉ (if w.toNat.testBit 0 = true then evq else []) := by
    intro k _ h
    split at h
    · simp only [evq, List.mem_cons, List.mem_map, List.mem_range, FLT_SRC_LOST, FLT_EVQ_STATUS, FLT_EVQ_LOST] at h
      omega
    · simp at h
  obtain ⟨r, hr⟩ := State.clearRegs_eq u (if w.toNat.testBit 1 then src else [])
  have hrd : ∀ a, t.rd a = if a ∈ (if w.toNat.testBit 1 then src else []) then 0 else u.rd a := by
    intro a
    rw [← State.clearRegs_rd, ht]
    cases w.toNat.testBit 2 <;> rfl
  have hecc : t = { s with
      regs := r
      flt := { s.flt with ecc := if w.toNat.testBit 2 then s.flt.ecc.map (fun e => (e.1, e.2.cleared)) else s.flt.ecc } } := by
    rw [ht, hr, hu.2]
    cases w.toNat.testBit 2 <;> rfl
  have hout : ∀ a, a ∉ src → t.rd a = u.rd a := fun a ha => by
    rw [hrd, if_neg (by split <;> simp [ha])]
  have hlow : ∀ a, a ∈ evq → a ∉ src := by
    intro a ha
    rw [hmem]
    simp only [evq, List.mem_cons, List.mem_map, List.mem_range, FLT_SRC_LOST, FLT_EVQ_STATUS, FLT_EVQ_LOST] at ha ⊢
    omega
  refine ⟨fun h => ⟨fun k hk => ?_, ?_⟩, fun h k hk => ?_, fun h k hk => ?_, fun h n => ?_, fun h => ?_, fun a ha hlost => ?_, ?_⟩
  · rw [hout _ (hlow _ (List.mem_cons_of_mem _ (List.mem_map_of_mem (List.mem_range.2 hk))))]
    exact (hu0 h).1 k hk
  · rw [State.fld, hout _ (hlow _ List.mem_cons_self)]
    exact (hu0 h).2
  · rw [hrd, h, if_pos rfl, if_pos ((hmem _).2 ⟨k, hk, rfl⟩)]
  · rw [hrd, h, if_neg Bool.false_ne_true, if_neg List.not_mem_nil]
    exact hu.1 _ (hsrc k hk)
  · rw [State.eccOf, hecc, h, if_pos rfl]
    exact tget_map {} {} EccMem.cleared rfl s.flt.ecc n
  · rw [hecc, h, if_neg Bool.false_ne_true]
  · rw [hout, hu.1 a ha]
    rw [hmem]
    simp only [FLT_SRC_LOST] at hlost ⊢
    omega
  · rw [hecc]

/-- The commands that write CSG_CNT_CLR. -/
theorem gives_csgClear {c : Instr} (w : Word) (h : s.writable m CSG_CNT_CLR) (howed : s.csg.owed = [])
    (hc : exec c s = .next (s.regCommand m CSG_CNT_CLR w)) : Gives c s (fun t =>
      let guards := (List.range 64).flatMap (fun g => [CSG_G_MISS g, CSG_G_FAULTS g])
      let l := (if w.toNat.testBit 0 then guards else []) ++ (if w.toNat.testBit 2 then [CSG_REFUSED] else [])
      (∀ a ∈ l, t.rd a = 0) ∧ (w.toNat.testBit 1 = true → ∀ e ∈ s.csg.ctx, t.frer e.1 = { s.frer e.1 with cnt := [0, 0, 0, 0, 0, 0] }) ∧
      (w.toNat.testBit 1 = false → t.csg = s.csg) ∧ s.onlyRegs t l ∧
      t = { s.seen m with regs := t.regs, csg := { s.csg with ctx := t.csg.ctx } }) := by
  have hspec := (s.seen m).csgClear_spec (m := m) w (by rw [State.seen_csg, howed])
  simp only [State.seen_csg, State.seen_frer] at hspec
  obtain ⟨hzero, hon, hoff, honly, he⟩ := hspec
  exact ⟨_, exec_regCommand hc h rfl (by decide) rfl, hzero, hon, hoff, State.onlyRegs_seen honly, he⟩

/-- The commands that write FLT_CNT_CLR. -/
theorem gives_fltClear {c : Instr} (w : Word) (h : s.writable m FLT_CNT_CLR) (hc : exec c s = .next (s.regCommand m FLT_CNT_CLR w)) :
    Gives c s (fun t =>
      (w.toNat.testBit 0 = true → (∀ k < 8, t.rd (FLT_EVQ_LOST k) = 0) ∧ t.fld FLT_EVQ_STATUS FLT_EVQ_STATUS_ecc_lost = 0) ∧
      (w.toNat.testBit 1 = true → ∀ k < 16, t.rd (FLT_SRC_LOST (k + 1)) = 0) ∧
      (w.toNat.testBit 1 = false → ∀ k < 16, t.rd (FLT_SRC_LOST (k + 1)) = s.rd (FLT_SRC_LOST (k + 1))) ∧
      (w.toNat.testBit 2 = true → ∀ n : Nat, t.eccOf n = { s.eccOf n with corrected := 0, uncorrectable := 0, warned := false }) ∧
      (w.toNat.testBit 2 = false → t.flt = s.flt) ∧
      s.onlyRegs t (if w.toNat.testBit 0 then FLT_EVQ_STATUS :: (List.range 8).map FLT_EVQ_LOST else []) ∧
      t = { s.seen m with regs := t.regs, flt := { s.flt with ecc := t.flt.ecc } }) := by
  have hspec := (s.seen m).fltClear_spec (m := m) w
  simp only [State.seen_flt, State.seen_eccOf, State.seen_rd] at hspec
  obtain ⟨h0, h1, h1', h2, h2', honly, he⟩ := hspec
  exact ⟨_, exec_regCommand hc h rfl (by decide) rfl, h0, h1, h1', h2, h2', State.onlyRegs_seen honly, he⟩

end

/-- Settles O31: each command is one write of its clear register. -/
theorem countersClear : Obligations.CountersClear := by
  unfold Obligations.CountersClear
  intro s m v clears gates policed gauge guards camera lost
  have hor : ∀ (k i : Nat) , i < 32 → k.testBit i = true → (v ||| BitVec.ofNat 32 k).toNat.testBit i = true :=
    fun k i hi => testBit_or_set v k hi
  have hand : ∀ k i : Nat, k.testBit i = false → (v ||| BitVec.ofNat 32 k).toNat.testBit i = v.toNat.testBit i :=
    fun k i => testBit_or_clear v
  refine ⟨fun p h => gives_swcCntClr p h, fun h => ?_, fun h => ?_, fun h => ?_, fun h => ?_, fun h => ?_, fun h ho => ?_, fun h ho => ?_, fun h ho => ?_,
    fun p h => ?_, fun p h => ?_, ?_, ?_, ?_, ?_, fun h => ?_, fun h => ?_, fun h => ?_⟩
  · exact gives_clears (exec_regCommand rfl h rfl (by decide)
      (regWrite_swcClear_all (hor 96 6 (by decide) (by decide)) (hor 96 5 (by decide) (by decide)) _))
  · have hb0 : (v ||| 1).toNat.testBit 0 = true := hor 1 0 (by decide) rfl
    have hb1 : (v ||| 1).toNat.testBit 1 = v.toNat.testBit 1 := hand 1 1 rfl
    have hspec := (s.seen m).tmgCtlWrite_spec (v ||| 1).toNat
    rw [hb0, hb1, State.seen_tm] at hspec
    obtain ⟨hz, ho, hp, hn, he⟩ := hspec
    exact ⟨_, exec_regCommand rfl h rfl (by decide) rfl, hz rfl, State.onlyRegs_seen ho,
      fun hon p => (hp hon p).trans (by rw [State.seen_pol]), hn, he⟩
  · have hb0 : (v ||| 2).toNat.testBit 0 = v.toNat.testBit 0 := hand 2 0 rfl
    have hb1 : (v ||| 2).toNat.testBit 1 = true := hor 2 1 (by decide) rfl
    have hspec := (s.seen m).tmgCtlWrite_spec (v ||| 2).toNat
    rw [hb0, hb1, State.seen_tm] at hspec
    obtain ⟨hz, ho, hp, hn, he⟩ := hspec
    exact ⟨_, exec_regCommand rfl h rfl (by decide) rfl, hz, State.onlyRegs_seen ho,
      fun hon p => (hp hon p).trans (by rw [State.seen_pol]), hn, he⟩
  · have hb18 : (v ||| 0x40000).toNat.testBit 18 = true := hor _ 18 (by decide) rfl
    have hb19 : (v ||| 0x40000).toNat.testBit 19 = v.toNat.testBit 19 := hand _ 19 rfl
    have hspec := (s.seen m).gaugeCtlWrite_spec (v ||| 0x40000)
    rw [hb18, hb19, State.wrPlain_or (by decide), State.rd_wrPlain_seen, State.seen_tm] at hspec
    obtain ⟨hset, hbins, ho, he⟩ := hspec
    exact ⟨_, exec_regCommand rfl h rfl (by decide) rfl, hset, hbins, State.onlyRegs_seen ho, he⟩
  · have hb18 : (v ||| 0x80000).toNat.testBit 18 = v.toNat.testBit 18 := hand _ 18 rfl
    have hb19 : (v ||| 0x80000).toNat.testBit 19 = true := hor _ 19 (by decide) rfl
    have hspec := (s.seen m).gaugeCtlWrite_spec (v ||| 0x80000)
    rw [hb18, hb19, State.wrPlain_or (by decide), State.rd_wrPlain_seen, State.seen_tm] at hspec
    obtain ⟨hset, hbins, ho, he⟩ := hspec
    exact ⟨_, exec_regCommand rfl h rfl (by decide) rfl, hset, hbins, State.onlyRegs_seen ho, he⟩
  · have hcam := gives_csgClear (v ||| 1) h ho (c := .csgClrGuards m v) rfl
    have h0 : (v ||| 1).toNat.testBit 0 = true := hor _ 0 (by decide) rfl
    have h1 : (v ||| 1).toNat.testBit 1 = v.toNat.testBit 1 := hand _ 1 rfl
    have h2 : (v ||| 1).toNat.testBit 2 = v.toNat.testBit 2 := hand _ 2 rfl
    rwa [h0, h1, h2] at hcam
  · have hcam := gives_csgClear (v ||| 2) h ho (c := .csgClrFrer m v) rfl
    have h0 : (v ||| 2).toNat.testBit 0 = v.toNat.testBit 0 := hand _ 0 rfl
    have h1 : (v ||| 2).toNat.testBit 1 = true := hor _ 1 (by decide) rfl
    have h2 : (v ||| 2).toNat.testBit 2 = v.toNat.testBit 2 := hand _ 2 rfl
    rwa [h0, h1, h2] at hcam
  · have hcam := gives_csgClear (v ||| 4) h ho (c := .csgClrRefused m v) rfl
    have h0 : (v ||| 4).toNat.testBit 0 = v.toNat.testBit 0 := hand _ 0 rfl
    have h1 : (v ||| 4).toNat.testBit 1 = v.toNat.testBit 1 := hand _ 1 rfl
    have h2 : (v ||| 4).toNat.testBit 2 = true := hor _ 2 (by decide) rfl
    rwa [h0, h1, h2] at hcam
  · refine gives_clears ?_
    have ha : ETH_CNT_CLR p = 0x20080000 + 0x1000 * p.val + 0x900 := by
      simp only [ETH_CNT_CLR]
      omega
    show Host.Outcome.next (s.regCommand m (ETH_CNT_CLR p) (v ||| 1)) = _
    rw [ha, State.regCommand_eth p.isLt (by decide) (ha ▸ h)]
    simp [State.ethWrite]
  · refine gives_clears ?_
    have ha : CAN_CNT_CLR p = 0x200A0000 + 0x1000 * p.val + 0x1E0 := by
      simp only [CAN_CNT_CLR]
      omega
    show Host.Outcome.next (s.regCommand m (CAN_CNT_CLR p) (v ||| 1)) = _
    rw [ha, State.regCommand_can p.isLt (by decide) (ha ▸ h)]
    simp [State.canWrite, bit]
  · exact fun h => gives_clears_bit (k := 1) 0 rfl h rfl (by decide) (by decide) rfl fun w hw => if_pos hw
  · exact fun h => gives_clears_bit (k := 1) 0 rfl h rfl (by decide) (by decide) rfl fun w hw => if_pos hw
  · intro h
    have hw : ∀ w : Word, w.toNat.testBit 0 = true →
        (s.seen m).regWrite m PLC_CNT_CLR w = (s.seen m).clearRegs ((List.range 6).map PLC_CNT ++ [PLC_MAX_PAUSE]) := by
      intro w hw
      rw [State.clearRegs, List.foldl_append]
      exact if_pos hw
    obtain ⟨t, hc, hzero, honly, he⟩ := gives_clears_bit (c := .plcCntClr m v) (k := 1) 0 rfl h rfl (by decide) (by decide) rfl hw
    have hperm : ∀ a, a ∈ PLC_MAX_PAUSE :: (List.range 6).map PLC_CNT ↔ a ∈ (List.range 6).map PLC_CNT ++ [PLC_MAX_PAUSE] :=
      fun a => by rw [List.mem_cons, List.mem_append, List.mem_singleton, or_comm]
    exact ⟨t, hc, fun a ha => hzero a ((hperm a).1 ha), fun a ha => honly a (fun h => ha ((hperm a).2 h)), he⟩
  · exact fun h => gives_clears_bit (k := 1) 0 rfl h rfl (by decide) (by decide) rfl fun w hw => if_pos hw
  · exact gives_fltClear (v ||| 1) h (c := .fltClrLost m v) rfl
  · exact gives_fltClear (v ||| 2) h (c := .fltClrSrc m v) rfl
  · exact gives_fltClear (v ||| 4) h (c := .fltClrEcc m v) rfl

end Sys2Proof.Machine

/-! The matcher's round (R97, R100) and the MAC table: a head that the round removes for its age is missing at a guard slot's output
(R143), the slot's status message enters at sp29 (R153), and its source address is looked up as any other's is (R227). -/

namespace Sys2Proof.Machine

-- The kernel evaluates the counterexample; one declaration after another, so that no evaluation waits for memory of others.
set_option Elab.async false

/-- One frame of stream 5 waits towards sp30 beyond its lifetime. Slot 0 watches the stream there, in OK, with status messages on;
sp29 learns, and the MAC table lists the status messages' source address as a static entry that has not been hit. -/
def agedWatchedHead : State :=
  { State.reset with
    elapsed := 2000
    sw := { frames := [{ id := 1, input := 0, data := List.replicate 64 0, handle := some 5, complete := true, dest := [30], residue := [30] }]
            queues := [(qIndex 0 30 0, [1])] }
    mem := [(macAddr (8 * macBucket 0 1) + 6, 1), (macAddr (8 * macBucket 0 1) + 7, 0x20), (macAddr (8 * macBucket 0 1) + 11, 0x20)]
    regs := [(SWC_LIFE 0, 1), (SWC_PORT_CFG 0, 289), (SWC_PORT_CFG 30, 289), (TBL_PORT_CFG 29, 0x1001),
      (CSG_G_CFG 0, BitVec.ofNat 32 (1 + 5 * 2 + 30 * 2 ^ 16 + 2 ^ 21)), (CSG_G_STATE 0, 2)] }

/-- The round marks the entry as hit. -/
theorem mem_matcherRound_agedWatchedHead : agedWatchedHead.matcherRound.sendOwed.mem ≠ agedWatchedHead.mem := by decide +kernel

/-- Refutes O21: a round that removes an aged head of a watched stream marks the MAC entry of the status messages' source as hit,
so it does change memory. -/
theorem not_matcherLocks : ¬ Obligations.MatcherLocks := by
  unfold Obligations.MatcherLocks
  intro h
  obtain ⟨hround, -⟩ := h agedWatchedHead
  obtain ⟨t, ht, -, -, hmem, -⟩ := hround rfl List.nodup_nil List.nodup_nil
  have hnext : agedWatchedHead.matcherRound.sendOwed = t := Host.Outcome.next.inj ht
  exact mem_matcherRound_agedWatchedHead (hnext ▸ hmem)

end Sys2Proof.Machine

/-! The reset of the logic die (R10, R16, R72, R74, R77, R78): what it loses, and what the bank die keeps. -/

namespace Sys2Proof.Machine

/-! The heaters (R77, R398) -/

/-- The heaters' registers and states may have changed, and nothing else. -/
structure HeaterFrame (s t : State) : Prop where
  eq : ∃ r h, t = { s with regs := r, bank := { s.bank with heaters := h } }
  rd : ∀ a, a ∉ htrStatus → t.rd a = s.rd a

theorem HeaterFrame.refl (s : State) : HeaterFrame s s := ⟨⟨s.regs, s.bank.heaters, rfl⟩, fun _ _ => rfl⟩

theorem HeaterFrame.trans {s t u : State} (h1 : HeaterFrame s t) (h2 : HeaterFrame t u) : HeaterFrame s u := by
  obtain ⟨⟨r1, b1, e1⟩, k1⟩ := h1
  obtain ⟨⟨r2, b2, e2⟩, k2⟩ := h2
  exact ⟨⟨r2, b2, by rw [e2, e1]⟩, fun a ha => (k2 a ha).trans (k1 a ha)⟩

theorem mem_htrStatus {a : Nat} : a ∈ htrStatus ↔ ∃ n < 12, BNK_HTR_STATUS n = a := by
  simp [htrStatus]

theorem State.rd_heaterOff (s : State) (n a : Nat) : (s.heaterOff n).rd a =
    if a = BNK_HTR_STATUS n then BNK_HTR_STATUS_eff_duty.put (s.rd (BNK_HTR_STATUS n)) 0 else s.rd a :=
  State.rd_setFld (s.accrue n) _ _ _ _

theorem State.heaterOff_frame (s : State) {n : Nat} (hn : n < 12) : HeaterFrame s (s.heaterOff n) :=
  ⟨⟨_, _, rfl⟩, fun a ha => by
    rw [State.rd_heaterOff, if_neg (fun h => ha (mem_htrStatus.2 ⟨n, hn, h.symm⟩))]⟩

theorem foldl_heaterOff_frame (l : List Nat) (hl : ∀ n ∈ l, n < 12) (s : State) : HeaterFrame s (l.foldl State.heaterOff s) := by
  induction l generalizing s with
  | nil => exact HeaterFrame.refl s
  | cons n l ih =>
    exact (s.heaterOff_frame (hl n List.mem_cons_self)).trans (ih (fun k hk => hl k (List.mem_cons_of_mem _ hk)) _)

theorem State.heatersOff_frame (s : State) : HeaterFrame s s.heatersOff :=
  foldl_heaterOff_frame _ (fun _ => List.mem_range.1) s

theorem State.heatersZero_heatersOff (s : State) : s.heatersOff.heatersZero := by
  intro n hn
  refine foldl_gets (fun t => t.fld (BNK_HTR_STATUS n) BNK_HTR_STATUS_eff_duty = 0) State.heaterOff _ n (List.mem_range.2 hn) ?_ ?_ s
  · intro t
    rw [State.fld, State.rd_heaterOff, if_pos rfl, Fld.get_put _ _ _ (by decide) (by decide)]
    rfl
  · intro t k h
    rw [State.fld, State.rd_heaterOff]
    split
    · next e =>
      rw [← e, Fld.get_put _ _ _ (by decide) (by decide)]
      rfl
    · exact h

/-! Standby (R407) -/

theorem State.allStandby_eq (s : State) : ∃ x d, s.allStandby = { s with bank := { s.bank with sel := x, decoding := d } } := by
  have hfold : ∀ (l : List Nat) (s : State), ∃ x d, l.foldl State.enterStandby s = { s with bank := { s.bank with sel := x, decoding := d } } := by
    intro l
    induction l with
    | nil => exact fun s => ⟨s.bank.sel, s.bank.decoding, rfl⟩
    | cons n l ih =>
      intro s
      obtain ⟨x, d, h⟩ := ih (s.enterStandby n)
      exact ⟨x, d, by rw [List.foldl_cons, h]; rfl⟩
  exact hfold _ s

/-! The logic die's registers and memory -/

theorem State.rd_clearLogic (s : State) (a : Nat) : s.clearLogic.rd a = if isBnk a then s.rd a else regDefault a :=
  tget_filter (regDefault a) isBnk s.regs a

theorem State.mb_clearLogic (s : State) (a : Nat) : s.clearLogic.mb a = if isMram a then s.mb a else memDefault a :=
  tget_filter (memDefault a) isMram s.mem a

theorem isBnk_htrStatus {a : Nat} (h : a ∈ htrStatus) : isBnk a = true := by
  obtain ⟨n, hn, rfl⟩ := mem_htrStatus.1 h
  simp only [isBnk, BNK_HTR_STATUS, Bool.and_eq_true]
  exact ⟨decide_eq_true (by omega), decide_eq_true (by omega)⟩

/-! The reset -/

theorem State.recordCause_bank (s : State) (cause event : Nat) : s.recordCause cause event = { s with bank := { s.bank with
    cause := cause, fatalEvent := if cause = 4 then event else 0
    fatals := if cause = 4 ∨ cause = 5 then s.elapsed :: s.fatalsNow else if cause = 1 ∨ cause = 3 ∨ cause = 7 then [] else s.bank.fatals
    reduced := if cause = 4 ∨ cause = 5 then s.bank.reduced || decide (3 ≤ s.fatalsNow.length + 1)
      else if cause = 1 ∨ cause = 3 ∨ cause = 7 then false else s.bank.reduced } } := by
  unfold State.recordCause
  split
  · simp only [*]
    rfl
  · next h =>
    have h4 : cause ≠ 4 := fun e => h (.inl e)
    split <;> simp only [*] <;> rfl

/-- The last part of the reset: the logic die's state lost, the link and the fatal sequence ended. -/
def State.loseLogic (w : State) : State :=
  (w.clearLogic.setBank { w.clearLogic.bank with fatal := none, fatalReq := none, attempts := 0, open_ := none, posted := [] }).setDev
    .logicReset

theorem State.assertReset_eq_loseLogic (s : State) (cause event : Nat) :
    s.assertReset cause event = (s.recordCause cause event).heatersOff.allStandby.loseLogic := rfl

theorem State.loseLogic_eq (w : State) : w.loseLogic = { w.clearLogic with
    dev := { state := .logicReset }
    bank := { w.bank with fatal := none, fatalReq := none, attempts := 0, open_ := none, posted := [] } } := rfl

theorem State.rd_loseLogic (w : State) (a : Nat) : w.loseLogic.rd a = if isBnk a then w.rd a else regDefault a :=
  w.rd_clearLogic a

theorem State.mb_loseLogic (w : State) (a : Nat) : w.loseLogic.mb a = if isMram a then w.mb a else memDefault a :=
  w.mb_clearLogic a

/-- The logic die is lost where beside registers and the bank die nothing else has changed before (R10, R16). -/
theorem State.logicLost_loseLogic {s w : State} {l : List Nat} (hw : w = { s with regs := w.regs, bank := w.bank }) (hzero : w.heatersZero)
    (hrd : ∀ a, a ∉ htrStatus ++ l → w.rd a = s.rd a) : s.logicLost w.loseLogic l := by
  have hmem : ∀ a, w.mb a = s.mb a := fun a => by rw [hw]; rfl
  refine ⟨fun a ha => ?_, fun n hn => ?_, fun a ha hl => ?_, fun a ha => ?_, fun a ha => ?_, ?_⟩
  · rw [State.rd_loseLogic, ha, if_neg Bool.false_ne_true]
  · rw [State.fld, State.rd_loseLogic, if_pos (isBnk_htrStatus (mem_htrStatus.2 ⟨n, hn, rfl⟩))]
    exact hzero n hn
  · rw [State.rd_loseLogic, if_pos ha, hrd a hl]
  · rw [State.mb_loseLogic, if_pos ha, hmem]
  · rw [State.mb_loseLogic, ha, if_neg Bool.false_ne_true]
  · rw [hw]
    rfl

/-- The state before the logic die is lost in a reset: the cause recorded, the heaters off, the transceivers in standby. -/
theorem State.beforeReset_spec (s : State) (cause event : Nat) :
    let w := (s.recordCause cause event).heatersOff.allStandby
    w = { s with regs := w.regs, bank := w.bank } ∧ w.heatersZero ∧ (∀ a, a ∉ htrStatus → w.rd a = s.rd a) ∧
    w.bank = { (s.recordCause cause event).bank with sel := w.bank.sel, decoding := w.bank.decoding, heaters := w.bank.heaters } := by
  intro w
  have hzero := (s.recordCause cause event).heatersZero_heatersOff
  obtain ⟨⟨r, h, heq⟩, hrd⟩ := (s.recordCause cause event).heatersOff_frame
  obtain ⟨x, d, hst⟩ := State.allStandby_eq (s.recordCause cause event).heatersOff
  have hrec := s.recordCause_bank cause event
  have hread : ∀ a, w.rd a = (s.recordCause cause event).heatersOff.rd a := fun a => by simp only [w, hst, State.rd]
  have hbank : w.bank = { (s.recordCause cause event).bank with sel := x, decoding := d, heaters := h } := by simp only [w, hst, heq]
  refine ⟨?_, fun n hn => ?_, fun a ha => ?_, ?_⟩
  · simp only [w, hst, heq]
    rw [hrec]
  · rw [State.fld, hread]
    exact hzero n hn
  · rw [hread, hrd a ha, hrec]
    rfl
  · rw [hbank]

/-- What every logic-die reset does, whatever its cause (R16, R80, R81). -/
theorem State.assertReset_spec (s : State) (cause event : Nat) :
    s.logicLost (s.assertReset cause event) [] ∧ (s.assertReset cause event).dev.state = .logicReset ∧
    (s.assertReset cause event).outputs = s.outputs ∧ (s.assertReset cause event).free = s.free ∧
    (s.assertReset cause event).bank = s.resetBank (s.assertReset cause event) cause event := by
  obtain ⟨hw, hzero, hrd, hbank⟩ := s.beforeReset_spec cause event
  rw [State.assertReset_eq_loseLogic]
  generalize (s.recordCause cause event).heatersOff.allStandby = w at hw hzero hrd hbank
  refine ⟨State.logicLost_loseLogic hw hzero (fun a ha => hrd a (by simpa using ha)), rfl, ?_, ?_, ?_⟩
  · rw [hw]
    rfl
  · rw [hw]
    rfl
  · rw [State.recordCause_bank] at hbank
    rw [State.loseLogic_eq, hbank]
    rfl

/-- The logic die is lost in the same way, whatever the bank die's own state was. -/
theorem State.logicLost_of_setBank {s t : State} {l : List Nat} (b : BankDie) (h : (s.setBank b).logicLost t l) : s.logicLost t l := h

/-- All enables low after the reset, or EN_VCORE alone: the logic die is lost still. -/
theorem State.logicLost_setBank {s t : State} {l : List Nat} (b : BankDie) (d : DevState) (h : s.logicLost t l) :
    s.logicLost ((t.setBank b).setDev d) l := by
  obtain ⟨hlogic, hzero, hbnk, hmram, hmem, he⟩ := h
  refine ⟨hlogic, hzero, hbnk, hmram, hmem, ?_⟩
  rw [he]
  rfl

theorem State.setDev_self {t : State} {d : DevState} (h : t.dev.state = d) : t.setDev d = t := by
  subst h
  rfl

theorem State.enablesLow_outputs (t : State) (n : SeqPhase) : (t.enablesLow n).outputs = t.outputs := by simp [State.enablesLow]

theorem State.enablesLow_free (t : State) (n : SeqPhase) : (t.enablesLow n).free = t.free := by simp [State.enablesLow]

theorem State.holdVcore_outputs (t : State) : t.holdVcore.outputs = t.outputs := by simp [State.holdVcore]

theorem State.holdVcore_free (t : State) : t.holdVcore.free = t.free := by simp [State.holdVcore]

theorem State.holdVcore_bank (t : State) :
    t.holdVcore.bank = { t.bank with enVcore := false, seq := .vcoreHold, minHold := true } := by simp [State.holdVcore]

theorem State.holdVcore_dev (t : State) : t.holdVcore.dev = t.dev := by simp [State.holdVcore]

/-- Of the state after the reset, the record depends on the selective-wake entries, the decoders and the heaters alone. -/
theorem State.resetBank_congr (s : State) {t u : State} (cause event : Nat) (hsel : u.bank.sel = t.bank.sel)
    (hdec : u.bank.decoding = t.bank.decoding) (hheat : u.bank.heaters = t.bank.heaters) :
    s.resetBank u cause event = s.resetBank t cause event := by
  simp only [State.resetBank, hsel, hdec, hheat]

/-- The enables low after a reset (R73, R74). -/
theorem State.brownOut_spec (s : State) (b : BankDie) (cause : Nat) :
    s.logicLost ((s.setBank b).brownOut cause) [] ∧ ((s.setBank b).brownOut cause).dev.state = .bankOnly ∧
    ((s.setBank b).brownOut cause).outputs = s.outputs ∧ ((s.setBank b).brownOut cause).free = s.free ∧
    ((s.setBank b).brownOut cause).bank = { (s.setBank b).resetBank ((s.setBank b).brownOut cause) cause 0 with
      enV18 := false, enVline := false, enVcore := false, seq := .brownWait, pgTimer := false, brownTimer := false, minHold := false } := by
  obtain ⟨hlost, -, hout, hfree, hbank⟩ := (s.setBank b).assertReset_spec cause 0
  unfold State.brownOut
  generalize (s.setBank b).assertReset cause 0 = t at hlost hout hfree hbank
  have hframe : (s.setBank b).resetBank (t.enablesLow .brownWait) cause 0 = (s.setBank b).resetBank t cause 0 :=
    State.resetBank_congr _ _ _ (by simp [State.enablesLow]) (by simp [State.enablesLow]) (by simp [State.enablesLow])
  have hlow : s.logicLost (t.enablesLow .brownWait) [] := by
    unfold State.enablesLow
    exact State.logicLost_setBank _ _ (State.logicLost_of_setBank b hlost)
  refine ⟨hlow, by simp [State.enablesLow], (t.enablesLow_outputs _).trans (hout.trans (s.setBank_outputs b)),
    (t.enablesLow_free _).trans (hfree.trans (s.setBank_free b)), ?_⟩
  rw [hframe, ← hbank]
  simp [State.enablesLow]

/-- EN_VCORE low after a reset (R77, R78). -/
theorem State.holdVcore_assertReset_spec (s : State) (b : BankDie) (cause event : Nat) :
    s.logicLost ((s.setBank b).assertReset cause event).holdVcore [] ∧
    ((s.setBank b).assertReset cause event).holdVcore.dev.state = .logicReset ∧
    ((s.setBank b).assertReset cause event).holdVcore.outputs = s.outputs ∧
    ((s.setBank b).assertReset cause event).holdVcore.free = s.free ∧
    ((s.setBank b).assertReset cause event).holdVcore.bank =
      { (s.setBank b).resetBank ((s.setBank b).assertReset cause event).holdVcore cause event with
        enVcore := false, seq := .vcoreHold, minHold := true } := by
  obtain ⟨hlost, hdev, hout, hfree, hbank⟩ := (s.setBank b).assertReset_spec cause event
  generalize (s.setBank b).assertReset cause event = t at hlost hdev hout hfree hbank
  have hframe : (s.setBank b).resetBank t.holdVcore cause event = (s.setBank b).resetBank t cause event :=
    State.resetBank_congr _ _ _ (by rw [State.holdVcore_bank]) (by rw [State.holdVcore_bank]) (by rw [State.holdVcore_bank])
  have hlow : s.logicLost t.holdVcore [] := by
    have h := State.logicLost_setBank { t.bank with enVcore := false, seq := .vcoreHold, minHold := true } .logicReset
      (State.logicLost_of_setBank b hlost)
    rw [State.setDev_self ((congrArg DevInfo.state (t.setBank_dev _)).trans hdev)] at h
    exact h
  refine ⟨hlow, (congrArg DevInfo.state t.holdVcore_dev).trans hdev,
    t.holdVcore_outputs.trans (hout.trans (s.setBank_outputs b)), t.holdVcore_free.trans (hfree.trans (s.setBank_free b)), ?_⟩
  rw [hframe, ← hbank, State.holdVcore_bank]

theorem State.fatalAssert_of_some {s : State} {c e : Nat} (h : s.bank.fatal = some (c, e)) :
    s.fatalAssert = ((s.setBank s.bank).assertReset c e).holdVcore := by
  simp only [State.fatalAssert, h]
  rfl

theorem State.supplyLost_of_running {s : State} (h : s.running = true) :
    s.supplyLost = (s.setBank { s.bank with supPg := false }).brownOut (if s.pins.vbat < 4500 then 3 else 9) := by
  simp only [State.supplyLost, h, if_true]

theorem State.extReset_of_running {s : State} (h : s.running = true) :
    s.extReset = ((s.setBank { s.bank with extLow := true }).assertReset 6 0).holdVcore := by
  simp only [State.extReset, h, if_true]

theorem State.rideExpiry_of_expired {s : State} {e : Nat} (he : s.bank.rideEnd = some e) (hle : e ≤ s.elapsed)
    (hd : s.dev.state ≠ .unpowered) : s.rideExpiry = (s.setBank { s.bank with rideEnd := none }).brownOut 3 := by
  simp [State.rideExpiry, he, hle, hd]

theorem State.not_running {s : State} (h : s.dev.state = .unpowered ∨ s.dev.state = .bankOnly ∨ s.dev.state = .logicReset) :
    s.running = false := by
  rcases h with h | h | h <;> simp [State.running, h]

/-- Settles O2: each cause of a logic-die reset is `State.assertReset` with what its rule does to the enables besides. -/
theorem logicDieReset : Obligations.LogicDieReset := by
  unfold Obligations.LogicDieReset
  intro s
  refine ⟨fun h => ⟨s.supplyLost, rfl, ?_⟩, fun h => ⟨s.supplyLost, rfl, ?_⟩, fun c e h => ⟨s.fatalAssert, rfl, ?_⟩,
    fun h => ⟨s.fatalAssert, rfl, ?_⟩, fun h => ⟨s.extReset, rfl, ?_⟩, fun h => ⟨s.extReset, rfl, ?_⟩, fun h => ⟨s.extReset, rfl, ?_⟩,
    fun h => ⟨s.extReset, rfl, ?_⟩, fun e he hle hd => ⟨s.rideExpiry, rfl, ?_⟩, fun h => ⟨s.rideExpiry, rfl, ?_⟩⟩
  · rw [State.supplyLost_of_running h]
    exact s.brownOut_spec _ _
  · simp only [State.supplyLost, h, Bool.false_eq_true, if_false, State.setBank]
    split <;> rfl
  · rw [State.fatalAssert_of_some h]
    exact s.holdVcore_assertReset_spec _ _ _
  · simp only [State.fatalAssert, h]
  · rw [State.extReset_of_running h]
    exact s.holdVcore_assertReset_spec _ _ _
  · simp [State.extReset, State.not_running (.inr (.inr h)), h, State.holdVcore, State.setBank]
  · simp [State.extReset, State.not_running (.inr (.inl h)), h, State.setBank]
  · simp [State.extReset, State.not_running (.inl h), h, State.setBank]
  · rw [State.rideExpiry_of_expired he hle hd]
    exact s.brownOut_spec _ _
  · refine if_neg (fun hc => ?_)
    obtain ⟨hexp, hpow⟩ := hc
    rcases h with h | ⟨e, he, hlt⟩ | h
    · simp [h] at hexp
    · simp only [he, Option.any_some, decide_eq_true_eq] at hexp
      omega
    · exact hpow h

end Sys2Proof.Machine

/-! The fatal sequence (R77) and a receive entry of a channel that the device does not have. -/

namespace Sys2Proof.Machine

-- The kernel evaluates the counterexample; one declaration after another, so that no evaluation waits for memory of others.
set_option Elab.async false

/-- A CAN record waits towards sp28 whose internal header names receive entry 0 of channel 100. -/
def recordOfChannel100 : State :=
  { State.reset with
    sw := { frames := [{ id := 1, input := 30, kind := .canRecord, data := List.replicate 40 0, complete := true, canEntry := some (100, 0)
                         dest := [28], residue := [28] }]
            queues := [(qIndex 30 28 0, [1])] } }

/-- Its acknowledgement counts at the address that the channel's counter would have, beyond the CAN blocks. -/
theorem rd_fatalRequest_recordOfChannel100 :
    recordOfChannel100.fatalRequest.rd (CAN_CNT 100 16) ≠ recordOfChannel100.rd (CAN_CNT 100 16) := by decide +kernel

/-- Refutes O3: the acknowledgement of a discarded record whose channel is above 23 changes a word outside the registers that the
statement lists. -/
theorem not_fatalSequence : ¬ Obligations.FatalSequence := by
  unfold Obligations.FatalSequence
  intro h
  obtain ⟨hfatal, -⟩ := h recordOfChannel100
  obtain ⟨⟨t, ht, -, -, hregs, -⟩, -⟩ := hfatal rfl rfl
  have hnext : recordOfChannel100.fatalRequest = t := Host.Outcome.next.inj ht
  have hsame := hregs (CAN_CNT 100 16) (by decide) (.inr (by decide)) (.inr (by decide))
  exact rd_fatalRequest_recordOfChannel100 (hnext ▸ hsame)

end Sys2Proof.Machine

/-! Events: what a raised event leaves in its block's buffer, and the frame that brings one of the bank die (R388, R422, R429). -/

namespace Sys2Proof.Machine

variable {s : State}

/-- The posting that an event raised now stands for. -/
def State.posting (s : State) (c k i d : Nat) : Posting :=
  { code := c, cls := k, inst := i % 4096, detail := d % 2 ^ 32, ts := s.tide.toNat % 2 ^ 44 }

theorem State.raise_of_stopped (h : s.running = false) (c k i d : Nat) : s.raise c k i d = s := by
  simp [State.raise, State.raiseP, h]

theorem State.requestFatal_flt (s : State) (c : Nat) : (s.requestFatal c).flt = s.flt := by
  simp only [State.requestFatal]
  split <;> rfl

/-- With room in the block's buffer an event does no more than stand last in it, beside its fatal request and its frame. -/
theorem State.raise_of_room (hr : s.running = true) {c : Nat} (k i d : Nat) (hroom : (tget [] s.flt.post (c / 256)).length < 16) :
    ∃ w : State, w.flt = s.flt ∧ s.raise c k i d = (w.putPosting (s.posting c k i d)).1 := by
  simp only [State.raise, State.raiseP, hr, if_true]
  have hflt0 : (if bankEvent c = true then (s.freeIx.2.out (.dike false (dikeFrame 3 0 0 (Config.dikeData s.freeIx.1).toNat))) else s).flt = s.flt := by
    split <;> rfl
  generalize (if bankEvent c = true then (s.freeIx.2.out (.dike false (dikeFrame 3 0 0 (Config.dikeData s.freeIx.1).toNat))) else s) = w at hflt0 ⊢
  have hflt : (if 7 ≤ k then w.requestFatal c else w).flt = s.flt := by
    split
    · rw [State.requestFatal_flt, hflt0]
    · exact hflt0
  generalize (if 7 ≤ k then w.requestFatal c else w) = u at hflt ⊢
  refine ⟨u, hflt, ?_⟩
  have hput : ∀ p : Posting, p.code = c → (u.putPosting p).2 = true := fun p hp => by
    simp only [State.putPosting, hp, hflt, hroom, if_true]
  simp only [hput, if_true]
  rfl

theorem State.post_raise (hr : s.running = true) {c : Nat} (k i d : Nat) (hroom : (tget [] s.flt.post (c / 256)).length < 16) (b : Nat) :
    tget [] (s.raise c k i d).flt.post b =
      if b = c / 256 then tget [] s.flt.post b ++ [s.posting c k i d] else tget [] s.flt.post b := by
  obtain ⟨w, hw, h⟩ := s.raise_of_room hr k i d hroom
  have hput : (w.putPosting (s.posting c k i d)).1.flt.post =
      tset [] s.flt.post (c / 256) (tget [] s.flt.post (c / 256) ++ [s.posting c k i d]) := by
    simp only [State.putPosting, State.posting, hw, hroom, if_true]
  rw [h, hput, tget_tset [] [] _ _ _ _ (fun _ => rfl)]
  split
  · next e => rw [e]
  · rfl

theorem State.posts_raise (s : State) (c k i d : Nat) : s.posts (s.raise c k i d) c k (i % 4096) := by
  intro hr hroom
  exact ⟨s.posting c k i d, by rw [State.post_raise hr k i d hroom, if_pos rfl], rfl, rfl, rfl⟩

/-! What stood in a buffer stays in it. -/

theorem State.mem_post_putPosting (s : State) (p : Posting) {x : Posting} {b : Nat} (h : x ∈ tget [] s.flt.post b) :
    x ∈ tget [] (s.putPosting p).1.flt.post b := by
  simp only [State.putPosting]
  split
  · simp only [tget_tset [] [] _ _ _ _ (fun _ => rfl)]
    split
    · next e => exact List.mem_append_left _ (e ▸ h)
    · exact h
  · exact h

theorem State.mem_post_raise (s : State) (c k i d : Nat) {x : Posting} {b : Nat} (h : x ∈ tget [] s.flt.post b) :
    x ∈ tget [] (s.raise c k i d).flt.post b := by
  simp only [State.raise, State.raiseP]
  split
  · have h0 : x ∈ tget [] (if bankEvent c = true then (s.freeIx.2.out (.dike false (dikeFrame 3 0 0 (Config.dikeData s.freeIx.1).toNat))) else s).flt.post b := by
      split <;> exact h
    generalize (if bankEvent c = true then (s.freeIx.2.out (.dike false (dikeFrame 3 0 0 (Config.dikeData s.freeIx.1).toNat))) else s) = w at h0 ⊢
    have h1 : x ∈ tget [] (if 7 ≤ k then w.requestFatal c else w).flt.post b := by
      split
      · rw [State.requestFatal_flt]; exact h0
      · exact h0
    generalize (if 7 ≤ k then w.requestFatal c else w) = u at h1 ⊢
    have h2 := u.mem_post_putPosting { code := c, cls := k, inst := i % 4096, detail := d % 2 ^ 32, ts := s.tide.toNat % 2 ^ 44 } h1
    generalize u.putPosting _ = y at h2 ⊢
    split
    · exact h2
    · split
      · exact State.mem_post_putPosting _ _ h2
      · exact h2
  · exact h

theorem PostFrame.running {s t : State} (h : PostFrame s t) : t.running = s.running := by simp [State.running, h.dev]

theorem isSrcLost_eq_false {a : Nat} : isSrcLost a = false ↔ a < FLT_SRC_LOST 1 ∨ FLT_SRC_LOST 16 < a := by
  simp only [isSrcLost, decide_eq_false_iff_not]
  omega

theorem PostFrame.onlyRegs {s t : State} (h : PostFrame s t) (l : List Nat) : s.onlyRegs t l :=
  fun a _ ha => h.rd a (isSrcLost_eq_false.2 ha)

theorem State.putPosting_link (s : State) (p : Posting) : SameLink s (s.putPosting p).1 := by
  simp only [State.putPosting]
  split
  · exact ⟨rfl, rfl, rfl⟩
  · exact ⟨State.setFld_bank _ _ _ _, State.setFld_outputs _ _ _ _, State.setFld_free _ _ _ _⟩

/-- Below class 7 an event leaves the bank die as it is, and no more than its own frame leaves the device. -/
theorem State.raise_frameLink (hr : s.running = true) (c i d : Nat) {k : Nat} (hk : k < 7) :
    SameLink (if bankEvent c = true then (s.freeIx.2.out (.dike false (dikeFrame 3 0 0 (Config.dikeData s.freeIx.1).toNat))) else s)
      (s.raise c k i d) := by
  simp only [State.raise, State.raiseP, hr, if_true, if_neg (Nat.not_le.2 hk)]
  generalize (if bankEvent c = true then (s.freeIx.2.out (.dike false (dikeFrame 3 0 0 (Config.dikeData s.freeIx.1).toNat))) else s) = w
  have hput := w.putPosting_link { code := c, cls := k, inst := i % 4096, detail := d % 2 ^ 32, ts := s.tide.toNat % 2 ^ 44 }
  generalize w.putPosting _ = x at hput ⊢
  obtain ⟨u, ok⟩ := x
  simp only at hput ⊢
  split
  · exact hput
  · split
    · have hmark : SameLink u (u.markRaise 0x0304 (c / 256)) := ⟨rfl, rfl, rfl⟩
      exact (hput.trans hmark).trans (State.putPosting_link _ _)
    · exact hput

theorem State.raise_bank (s : State) (c i d : Nat) {k : Nat} (hk : k < 7) : (s.raise c k i d).bank = s.bank := by
  by_cases hr : s.running = true
  · rw [(s.raise_frameLink hr c i d hk).bank]
    split <;> rfl
  · rw [State.raise_of_stopped (Bool.eq_false_iff.2 hr)]

theorem foldl_inv {σ α : Type} (P : σ → Prop) (f : σ → α → σ) (h : ∀ t x, P t → P (f t x)) (l : List α) {s : σ} (hs : P s) :
    P (l.foldl f s) :=
  List.foldlRecOn l f hs fun t ht x _ => h t x ht

theorem crc8_lt (n : Nat) : crc8 n < 2 ^ 8 := by
  refine Nat.xor_lt_two_pow (foldl_inv (· < 2 ^ 8) _ (fun c i _ => ?_) _ (by decide)) (by decide)
  have hsh : c * 2 % 256 < 2 ^ 8 := Nat.mod_lt _ (by decide)
  dsimp only
  split
  · exact Nat.xor_lt_two_pow hsh (by decide)
  · exact hsh

theorem bits_dikeFrame (cmd seq off data : Nat) : bits 63 60 (dikeFrame cmd seq off data).toNat = cmd % 16 := by
  have hcrc := crc8_lt (((cmd % 16 * 16 + seq % 16) * 2 ^ 16 + off % 2 ^ 16) * 2 ^ 32 + data % 2 ^ 32)
  simp only [dikeFrame, bits, BitVec.toNat_ofNat]
  generalize crc8 _ = c at hcrc ⊢
  omega

theorem State.eventFrames_raise (s : State) {c k : Nat} (hc : bankEvent c = true) (hk : k < 7) (i d : Nat) :
    s.eventFrames (s.raise c k i d) (boolNat s.running) := by
  by_cases hr : s.running = true
  · have h := s.raise_frameLink hr c i d hk
    rw [if_pos hc] at h
    rw [hr]
    exact ⟨h.free, [_], rfl, h.outputs, fun x hx => ⟨_, List.mem_singleton.1 hx, bits_dikeFrame _ _ _ _⟩⟩
  · rw [Bool.eq_false_iff.2 hr, State.raise_of_stopped (Bool.eq_false_iff.2 hr)]
    exact ⟨rfl, [], rfl, rfl, fun x hx => absurd hx List.not_mem_nil⟩

theorem State.bankPosts_raise (s : State) {c k : Nat} (hc : bankEvent c = true) (hk : k < 7) (i d : Nat) :
    s.bankPosts (s.raise c k i d) c k (i % 4096) :=
  ⟨s.posts_raise c k i d, s.eventFrames_raise hc hk i d⟩

/-- Several events of one block, where its buffer has room for them. -/
theorem foldl_raise_post (c k : Nat) (hc : c < 0x1100) (l : List Nat) (hr : s.running = true)
    (hroom : (tget [] s.flt.post (c / 256)).length + l.length ≤ 16) :
    tget [] (l.foldl (fun t i => t.raise c k i) s).flt.post (c / 256) =
      tget [] s.flt.post (c / 256) ++ l.map (fun i => s.posting c k i 0) := by
  induction l generalizing s with
  | nil => simp
  | cons i l ih =>
    rw [List.length_cons] at hroom
    have hpost := State.post_raise hr k i 0 (c := c) (by omega) (c / 256)
    have hframe := s.raise_frame c k i 0 hc
    rw [if_pos rfl] at hpost
    rw [List.foldl_cons, ih (hframe.running.trans hr) (by rw [hpost, List.length_append, List.length_singleton]; omega), hpost]
    simp [State.posting, hframe.tide]

theorem foldl_raise_frame (c : Nat) {k : Nat} (hc : c < 0x1100) (hk : k < 7) (l : List Nat) (s : State) :
    PostFrame s (l.foldl (fun t i => t.raise c k i) s) ∧ (l.foldl (fun t i => t.raise c k i) s).bank = s.bank := by
  induction l generalizing s with
  | nil => exact ⟨PostFrame.refl s, rfl⟩
  | cons i l ih =>
    exact ⟨(s.raise_frame c k i 0 hc).trans (ih _).1, (ih _).2.trans (s.raise_bank c i 0 hk)⟩

theorem foldl_raise_mem_post (c k : Nat) (l : List Nat) {x : Posting} {b : Nat} (h : x ∈ tget [] s.flt.post b) :
    x ∈ tget [] (l.foldl (fun t i => t.raise c k i) s).flt.post b :=
  foldl_inv (fun t : State => x ∈ tget [] t.flt.post b) _ (fun t i => t.mem_post_raise c k i 0) l h

theorem State.eventFrames.trans {s t u : State} {m n : Nat} (h1 : s.eventFrames t m) (h2 : t.eventFrames u n) : s.eventFrames u (m + n) := by
  obtain ⟨hf1, l1, hn1, ho1, hx1⟩ := h1
  obtain ⟨hf2, l2, hn2, ho2, hx2⟩ := h2
  refine ⟨by omega, l2 ++ l1, by simp [hn1, hn2, Nat.add_comm], by rw [ho2, ho1, List.append_assoc], fun x hx => ?_⟩
  exact (List.mem_append.1 hx).elim (hx2 x) (hx1 x)

theorem State.eventFrames.refl (s : State) : s.eventFrames s 0 := ⟨rfl, [], rfl, rfl, fun _ hx => absurd hx List.not_mem_nil⟩

end Sys2Proof.Machine

/-! The release of the logic die's reset (R61, R80, R81, R393, R396, R399), and how the reset is held (R42, R72, R77, R78). -/

namespace Sys2Proof.Machine

variable {s : State}

/-- The heater channel's demand is cleared at the release (R399). -/
def State.clearDemand (t : State) (n : Nat) : State :=
  let t1 := (t.setFld (BNK_HTR_DEMAND n) BNK_HTR_DEMAND_duty 0).setFld (BNK_HTR_STATUS n) BNK_HTR_STATUS_fresh 0
  let t2 := t1.setFld (BNK_HTR_STATUS n) BNK_HTR_STATUS_decaying 0
  t2.setBank { t2.bank with heaters := tmod {} t2.bank.heaters n (fun h => { h with demanded := false, pendFresh := false, dec := 0 }) }

/-- The release up to the reset record and the sampled balls. -/
def State.recordLoaded (s : State) : State :=
  let b := s.clearLogic.bank
  let s1 := (s.clearLogic.setBank
    { b with seq := .running, attempts := 0, failed := 0, fatals := s.clearLogic.fatalsNow, lastHb := s.elapsed }).setDev .boot
  let s2 := (((s1.setFld SYS_RESET_CAUSE SYS_RESET_CAUSE_cause b.cause).setFld SYS_RESET_CAUSE SYS_RESET_CAUSE_fatal_count
      (min 15 s.clearLogic.fatalsNow.length)).setFld SYS_RESET_CAUSE SYS_RESET_CAUSE_reduced (boolNat b.reduced)).setFld
      SYS_RESET_CAUSE SYS_RESET_CAUSE_fatal_event b.fatalEvent
  let s3 := s2.setFld SYS_RESET_CAUSE SYS_RESET_CAUSE_thermal_wait (boolNat (b.cause = 4 ∧ b.fatalEvent = 0x0212))
  (((s3.setFld SYS_BOOT_STATUS SYS_BOOT_STATUS_psel s.pins.psel).setFld SYS_BOOT_STATUS SYS_BOOT_STATUS_head
      (boolNat s.pins.head)).setFld SYS_BOOT_STATUS SYS_BOOT_STATUS_profile s.pins.psel).setFld SYS_BOOT_STATUS
      SYS_BOOT_STATUS_supply_retries b.failed

/-- The release up to its events. -/
def State.released (s : State) : State :=
  let t := ((List.range 12).foldl State.clearDemand s.recordLoaded).setFld BNK_CTL BNK_CTL_safe_run 0
  { t with dev := { t.dev with thermalWait := decide (s.bank.cause = 4 ∧ s.bank.fatalEvent = 0x0212), bootRef := s.elapsed } }

/-- The events of the release. -/
def State.releaseEvents (s t : State) : State :=
  let t1 := if s.bank.cause = 1 ∨ s.bank.cause = 2 then t else t.raise 0x0102 2 noInst (t.rd SYS_RESET_CAUSE).toNat
  let t2 := if s.bank.reduced then t1.raise 0x0105 5 else t1
  let t3 := t2.bank.stuckNew.foldl (fun t i => t.raise 0x0E08 2 i) t2
  t3.bank.overflowNew.foldl (fun t ch => t.raise 0x0E0C 2 ch) t3

theorem State.release_eq (s : State) : s.release =
    (s.releaseEvents s.released).setBank { (s.releaseEvents s.released).bank with stuckNew := [], overflowNew := [] } := rfl

theorem State.rd_recordLoaded_resetCause (s : State) : s.recordLoaded.rd SYS_RESET_CAUSE =
    SYS_RESET_CAUSE_thermal_wait.put (SYS_RESET_CAUSE_fatal_event.put (SYS_RESET_CAUSE_reduced.put
      (SYS_RESET_CAUSE_fatal_count.put (SYS_RESET_CAUSE_cause.put (s.clearLogic.rd SYS_RESET_CAUSE) s.bank.cause)
        (min 15 s.fatalsNow.length)) (boolNat s.bank.reduced)) s.bank.fatalEvent)
      (boolNat (s.bank.cause = 4 ∧ s.bank.fatalEvent = 0x0212)) := by
  have hne : SYS_RESET_CAUSE ≠ SYS_BOOT_STATUS := by decide
  simp only [State.recordLoaded, State.rd_setFld, if_neg hne, if_true]
  rfl

theorem State.rd_recordLoaded_bootStatus (s : State) : s.recordLoaded.rd SYS_BOOT_STATUS =
    SYS_BOOT_STATUS_supply_retries.put (SYS_BOOT_STATUS_profile.put (SYS_BOOT_STATUS_head.put
      (SYS_BOOT_STATUS_psel.put (s.clearLogic.rd SYS_BOOT_STATUS) s.pins.psel) (boolNat s.pins.head)) s.pins.psel) s.bank.failed := by
  have hne : SYS_BOOT_STATUS ≠ SYS_RESET_CAUSE := by decide
  simp only [State.recordLoaded, State.rd_setFld, if_neg hne, if_true]
  rfl

theorem State.rd_recordLoaded_of_ne {a : Nat} (h1 : a ≠ SYS_RESET_CAUSE) (h2 : a ≠ SYS_BOOT_STATUS) :
    s.recordLoaded.rd a = s.clearLogic.rd a := by
  simp only [State.recordLoaded, State.rd_setFld, if_neg h1, if_neg h2]
  rfl

theorem State.recordLoaded_eq (s : State) : ∃ r, s.recordLoaded = { s.clearLogic with
    regs := r, dev := { state := .boot }
    bank := { s.bank with seq := .running, attempts := 0, failed := 0, fatals := s.fatalsNow, lastHb := s.elapsed } } := by
  simp only [State.recordLoaded, State.setBank, State.setDev, State.setFld, State.wr]
  exact ⟨_, rfl⟩

theorem State.rd_clearDemand (t : State) (n a : Nat) : (t.clearDemand n).rd a =
    if a = BNK_HTR_STATUS n then BNK_HTR_STATUS_decaying.put (BNK_HTR_STATUS_fresh.put (t.rd a) 0) 0
    else if a = BNK_HTR_DEMAND n then BNK_HTR_DEMAND_duty.put (t.rd a) 0 else t.rd a := by
  have hne : BNK_HTR_STATUS n ≠ BNK_HTR_DEMAND n := by simp [BNK_HTR_STATUS, BNK_HTR_DEMAND]
  simp only [State.clearDemand, State.setBank_rd, State.rd_setFld]
  by_cases h1 : a = BNK_HTR_STATUS n
  · subst h1
    simp [hne]
  · by_cases h2 : a = BNK_HTR_DEMAND n
    · subst h2
      simp [h1]
    · simp [h1, h2]

/-- Only demands, heater status and heater states change. -/
structure DemandFrame (s t : State) : Prop where
  eq : ∃ r h, t = { s with regs := r, bank := { s.bank with heaters := h } }
  rd : ∀ a, a ∉ htrStatus ++ (List.range 12).map BNK_HTR_DEMAND → t.rd a = s.rd a

theorem DemandFrame.trans {s t u : State} (h1 : DemandFrame s t) (h2 : DemandFrame t u) : DemandFrame s u := by
  obtain ⟨⟨r1, b1, e1⟩, k1⟩ := h1
  obtain ⟨⟨r2, b2, e2⟩, k2⟩ := h2
  exact ⟨⟨r2, b2, by rw [e2, e1]⟩, fun a ha => (k2 a ha).trans (k1 a ha)⟩

theorem State.clearDemand_eq (t : State) (n : Nat) :
    ∃ r h, t.clearDemand n = { t with regs := r, bank := { t.bank with heaters := h } } := by
  simp only [State.clearDemand, State.setBank, State.setFld, State.wr]
  exact ⟨_, _, rfl⟩

theorem State.clearDemand_frame (t : State) {n : Nat} (hn : n < 12) : DemandFrame t (t.clearDemand n) := by
  refine ⟨t.clearDemand_eq n, fun a ha => ?_⟩
  simp only [htrStatus, List.mem_append, List.mem_map, List.mem_range, not_or, not_exists, not_and] at ha
  rw [State.rd_clearDemand, if_neg (fun h => ha.1 n hn h.symm), if_neg (fun h => ha.2 n hn h.symm)]

theorem foldl_clearDemand_frame (l : List Nat) (hl : ∀ n ∈ l, n < 12) (t : State) : DemandFrame t (l.foldl State.clearDemand t) := by
  induction l generalizing t with
  | nil => exact ⟨⟨t.regs, t.bank.heaters, rfl⟩, fun _ _ => rfl⟩
  | cons n l ih =>
    exact (t.clearDemand_frame (hl n List.mem_cons_self)).trans (ih (fun k hk => hl k (List.mem_cons_of_mem _ hk)) _)

/-- A field that each step clears in its own channel's register, and keeps elsewhere, is clear in every channel. -/
theorem foldl_clearDemand_fld {n : Nat} (hn : n < 12) (a : Nat) (f : Fld) (hset : ∀ t : State, (t.clearDemand n).fld a f = 0)
    (hkeep : ∀ (t : State) k, t.fld a f = 0 → (t.clearDemand k).fld a f = 0) (t : State) :
    ((List.range 12).foldl State.clearDemand t).fld a f = 0 :=
  foldl_gets (fun t => t.fld a f = 0) State.clearDemand _ n (List.mem_range.2 hn) hset hkeep t

theorem State.fld_clearDemand_duty (t : State) (n k : Nat) (h : k = n ∨ t.fld (BNK_HTR_DEMAND n) BNK_HTR_DEMAND_duty = 0) :
    (t.clearDemand k).fld (BNK_HTR_DEMAND n) BNK_HTR_DEMAND_duty = 0 := by
  have hne : BNK_HTR_DEMAND n ≠ BNK_HTR_STATUS k := by simp only [BNK_HTR_STATUS, BNK_HTR_DEMAND]; omega
  rw [State.fld, State.rd_clearDemand, if_neg hne]
  split
  · rw [Fld.get_put _ _ _ (by decide) (by decide), Nat.zero_mod]
  · next hk => exact h.resolve_left (fun e => hk (by rw [e]))

theorem State.fld_clearDemand_status (t : State) (n k : Nat) (f : Fld) (hf : f = BNK_HTR_STATUS_fresh ∨ f = BNK_HTR_STATUS_decaying)
    (h : k = n ∨ t.fld (BNK_HTR_STATUS n) f = 0) : (t.clearDemand k).fld (BNK_HTR_STATUS n) f = 0 := by
  have hne : BNK_HTR_STATUS n ≠ BNK_HTR_DEMAND k := by simp only [BNK_HTR_STATUS, BNK_HTR_DEMAND]; omega
  rw [State.fld, State.rd_clearDemand, if_neg hne]
  split
  · rcases hf with rfl | rfl
    · rw [Fld.get_put_ne _ _ _ _ (by decide) (by decide) (by decide) (by decide), Fld.get_put _ _ _ (by decide) (by decide), Nat.zero_mod]
    · rw [Fld.get_put _ _ _ (by decide) (by decide), Nat.zero_mod]
  · next hk => exact h.resolve_left (fun e => hk (by rw [e]))

theorem heaters_foldl_clearDemand (l : List Nat) (t : State) : (l.foldl State.clearDemand t).bank.heaters =
    l.foldl (fun hs n => tmod {} hs n (fun h => { h with demanded := false, pendFresh := false, dec := 0 })) t.bank.heaters := by
  induction l generalizing t with
  | nil => rfl
  | cons n l ih => rw [List.foldl_cons, List.foldl_cons, ih]; rfl

theorem State.heater_foldl_clearDemand (t : State) {n : Nat} (hn : n < 12) : ((List.range 12).foldl State.clearDemand t).heater n =
    { t.heater n with demanded := false, pendFresh := false, dec := 0 } := by
  rw [State.heater, heaters_foldl_clearDemand, tget_foldl_tmod]
  · rw [if_pos (List.mem_range.2 hn)]
    rfl
  · exact fun _ => rfl

/-! The release without its events -/

theorem State.released_demandFrame (s : State) :
    DemandFrame s.recordLoaded ((List.range 12).foldl State.clearDemand s.recordLoaded) :=
  foldl_clearDemand_frame _ (fun _ => List.mem_range.1) _

theorem State.rd_released (s : State) (a : Nat) : s.released.rd a = if a = BNK_CTL then BNK_CTL_safe_run.put
    (((List.range 12).foldl State.clearDemand s.recordLoaded).rd BNK_CTL) 0
    else ((List.range 12).foldl State.clearDemand s.recordLoaded).rd a := by
  simp only [State.released]
  generalize (List.range 12).foldl State.clearDemand s.recordLoaded = w
  exact w.rd_setFld _ _ _ _

theorem State.rd_released_of_not_mem {a : Nat} (h : a ∉ BNK_CTL :: htrStatus ++ (List.range 12).map BNK_HTR_DEMAND) :
    s.released.rd a = s.recordLoaded.rd a := by
  rw [List.cons_append, List.mem_cons, not_or] at h
  rw [State.rd_released, if_neg h.1, s.released_demandFrame.rd a h.2]

theorem isBnk_of_mem_demand {a : Nat} (h : a ∈ BNK_CTL :: htrStatus ++ (List.range 12).map BNK_HTR_DEMAND) : isBnk a = true := by
  simp only [htrStatus, List.mem_append, List.mem_cons, List.mem_map, List.mem_range] at h
  simp only [isBnk, Bool.and_eq_true, decide_eq_true_eq]
  rcases h with (rfl | ⟨n, hn, rfl⟩) | ⟨n, hn, rfl⟩
  · decide
  · simp only [BNK_HTR_STATUS]; omega
  · simp only [BNK_HTR_DEMAND]; omega

theorem State.rd_released_logic {a : Nat} (h : isBnk a = false) : s.released.rd a = s.recordLoaded.rd a :=
  State.rd_released_of_not_mem (fun hm => Bool.false_ne_true (h.symm.trans (isBnk_of_mem_demand hm)))

theorem State.fld_released_safeRun (s : State) : s.released.fld BNK_CTL BNK_CTL_safe_run = 0 := by
  rw [State.fld, State.rd_released, if_pos rfl, Fld.get_put _ _ _ (by decide) (by decide), Nat.zero_mod]

theorem State.fld_released_duty (s : State) {n : Nat} (hn : n < 12) : s.released.fld (BNK_HTR_DEMAND n) BNK_HTR_DEMAND_duty = 0 := by
  have hne : BNK_HTR_DEMAND n ≠ BNK_CTL := by simp only [BNK_HTR_DEMAND, BNK_CTL]; omega
  rw [State.fld, State.rd_released, if_neg hne]
  exact foldl_clearDemand_fld hn _ _ (fun t => t.fld_clearDemand_duty n n (.inl rfl)) (fun t k h => t.fld_clearDemand_duty n k (.inr h)) _

theorem State.fld_released_status (s : State) {n : Nat} (hn : n < 12) (f : Fld)
    (hf : f = BNK_HTR_STATUS_fresh ∨ f = BNK_HTR_STATUS_decaying) : s.released.fld (BNK_HTR_STATUS n) f = 0 := by
  have hne : BNK_HTR_STATUS n ≠ BNK_CTL := by simp only [BNK_HTR_STATUS, BNK_CTL]; omega
  rw [State.fld, State.rd_released, if_neg hne]
  exact foldl_clearDemand_fld hn _ _ (fun t => t.fld_clearDemand_status n n f hf (.inl rfl))
    (fun t k h => t.fld_clearDemand_status n k f hf (.inr h)) _

theorem State.heater_released (s : State) {n : Nat} (hn : n < 12) :
    s.released.heater n = { s.heater n with demanded := false, pendFresh := false, dec := 0 } := by
  have hloaded : s.recordLoaded.heater n = s.heater n := by
    obtain ⟨r, e⟩ := s.recordLoaded_eq
    rw [State.heater, e]
    rfl
  have h := s.recordLoaded.heater_foldl_clearDemand hn
  rw [hloaded] at h
  simp only [State.released]
  generalize (List.range 12).foldl State.clearDemand s.recordLoaded = w at h ⊢
  rw [← h]
  rfl

theorem State.released_eq (s : State) : ∃ r h, s.released = { s.clearLogic with
    regs := r
    dev := { state := .boot, thermalWait := decide (s.bank.cause = 4 ∧ s.bank.fatalEvent = 0x0212), bootRef := s.elapsed }
    bank := { s.bank with
      seq := .running, attempts := 0, failed := 0, fatals := s.fatalsNow, lastHb := s.elapsed, heaters := h } } := by
  obtain ⟨r, h, e⟩ := s.released_demandFrame.eq
  obtain ⟨r', e'⟩ := s.recordLoaded_eq
  rw [State.released, e, e']
  exact ⟨_, h, rfl⟩

/-! The events of the release -/

theorem PostFrame.ite {s t : State} {c : Prop} [Decidable c] (h : PostFrame s t ∧ t.bank = s.bank) :
    PostFrame s (if c then t else s) ∧ (if c then t else s).bank = s.bank := by
  split
  · exact h
  · exact ⟨PostFrame.refl s, rfl⟩

theorem State.raise_frame_bank (s : State) {c k : Nat} (hc : c < 0x1100) (hk : k < 7) (i d : Nat) :
    PostFrame s (s.raise c k i d) ∧ (s.raise c k i d).bank = s.bank :=
  ⟨s.raise_frame c k i d hc, s.raise_bank c i d hk⟩

/-- The events of the release in its cause's and its count's name (R81). -/
def State.releaseCause (s t : State) : State :=
  let t1 := if ¬ (s.bank.cause = 1 ∨ s.bank.cause = 2) then t.raise 0x0102 2 noInst (t.rd SYS_RESET_CAUSE).toNat else t
  if s.bank.reduced then t1.raise 0x0105 5 else t1

theorem State.releaseEvents_eq (s t : State) : s.releaseEvents t =
    ((s.releaseCause t).bank.stuckNew.foldl (fun t i => t.raise 0x0E08 2 i) (s.releaseCause t)).bank.overflowNew.foldl
      (fun t ch => t.raise 0x0E0C 2 ch) ((s.releaseCause t).bank.stuckNew.foldl (fun t i => t.raise 0x0E08 2 i) (s.releaseCause t)) := by
  simp only [State.releaseEvents, State.releaseCause, ite_not]

theorem State.releaseCause_frame (s t : State) : PostFrame t (s.releaseCause t) ∧ (s.releaseCause t).bank = t.bank := by
  have h1 := PostFrame.ite (c := ¬ (s.bank.cause = 1 ∨ s.bank.cause = 2))
    (t.raise_frame_bank (c := 0x0102) (k := 2) (by decide) (by decide) noInst (t.rd SYS_RESET_CAUSE).toNat)
  simp only [State.releaseCause]
  generalize (if ¬ (s.bank.cause = 1 ∨ s.bank.cause = 2) then t.raise 0x0102 2 noInst (t.rd SYS_RESET_CAUSE).toNat else t) = u at h1 ⊢
  have h2 := PostFrame.ite (c := s.bank.reduced = true) (u.raise_frame_bank (c := 0x0105) (k := 5) (by decide) (by decide) noInst 0)
  exact ⟨h1.1.trans h2.1, h2.2.trans h1.2⟩

theorem State.releaseEvents_frame (s t : State) : PostFrame t (s.releaseEvents t) ∧ (s.releaseEvents t).bank = t.bank := by
  have h1 := s.releaseCause_frame t
  rw [State.releaseEvents_eq]
  generalize s.releaseCause t = u at h1 ⊢
  have h2 := foldl_raise_frame 0x0E08 (k := 2) (by decide) (by decide) u.bank.stuckNew u
  generalize u.bank.stuckNew.foldl (fun t i => t.raise 0x0E08 2 i) u = w at h2 ⊢
  have h3 := foldl_raise_frame 0x0E0C (k := 2) (by decide) (by decide) w.bank.overflowNew w
  exact ⟨(h1.1.trans h2.1).trans h3.1, h3.2.trans (h2.2.trans h1.2)⟩

theorem State.releaseEvents_mem {s t : State} {x : Posting} {b : Nat} (h : x ∈ tget [] (s.releaseCause t).flt.post b) :
    x ∈ tget [] (s.releaseEvents t).flt.post b := by
  rw [State.releaseEvents_eq]
  exact foldl_raise_mem_post _ _ _ (foldl_raise_mem_post _ _ _ h)

/-- Into empty buffers. -/
theorem State.post_releaseCause {s t : State} (hr : t.running = true) (hp : ∀ b, tget [] t.flt.post b = []) (b : Nat) :
    tget [] (s.releaseCause t).flt.post b = if b = 1 then
      (if s.bank.cause = 1 ∨ s.bank.cause = 2 then [] else [t.posting 0x0102 2 noInst (t.rd SYS_RESET_CAUSE).toNat]) ++
      (if s.bank.reduced = true then [t.posting 0x0105 5 noInst 0] else []) else [] := by
  have h1 : ∀ b, tget [] (if ¬ (s.bank.cause = 1 ∨ s.bank.cause = 2) then t.raise 0x0102 2 noInst (t.rd SYS_RESET_CAUSE).toNat else t).flt.post b =
      if b = 1 then (if s.bank.cause = 1 ∨ s.bank.cause = 2 then [] else [t.posting 0x0102 2 noInst (t.rd SYS_RESET_CAUSE).toNat]) else [] := by
    intro b
    rw [ite_not]
    split
    · rw [hp, ite_self]
    · rw [State.post_raise hr _ _ _ (by rw [hp]; decide), hp]
      rfl
  have hu := PostFrame.ite (c := ¬ (s.bank.cause = 1 ∨ s.bank.cause = 2))
    (t.raise_frame_bank (c := 0x0102) (k := 2) (by decide) (by decide) noInst (t.rd SYS_RESET_CAUSE).toNat)
  simp only [State.releaseCause]
  generalize (if ¬ (s.bank.cause = 1 ∨ s.bank.cause = 2) then t.raise 0x0102 2 noInst (t.rd SYS_RESET_CAUSE).toNat else t) = u at h1 hu ⊢
  have hroom : (tget [] u.flt.post (0x0105 / 256)).length < 16 := by
    rw [h1, if_pos (by decide)]
    split <;> exact Nat.lt_of_sub_eq_succ rfl
  have hposting : u.posting 0x0105 5 noInst 0 = t.posting 0x0105 5 noInst 0 := by simp only [State.posting, hu.1.tide]
  split
  · rw [State.post_raise (hu.1.running.trans hr) _ _ _ hroom, h1, hposting, show (0x0105 / 256 : Nat) = 1 from rfl]
    split <;> rfl
  · rw [h1, List.append_nil]

/-- The events of inputs found stuck and of error overflows stand in their buffer where it has room for them. -/
theorem State.post_releaseEvents {s t : State} (hr : t.running = true)
    (hroom : t.bank.stuckNew.length + t.bank.overflowNew.length ≤ 16) (hcause : tget [] (s.releaseCause t).flt.post 14 = []) :
    tget [] (s.releaseEvents t).flt.post 14 =
      t.bank.stuckNew.map (fun i => t.posting 0x0E08 2 i 0) ++ t.bank.overflowNew.map (fun n => t.posting 0x0E0C 2 n 0) := by
  have h1 := s.releaseCause_frame t
  rw [State.releaseEvents_eq]
  generalize s.releaseCause t = u at h1 hcause ⊢
  obtain ⟨hframe, hbank⟩ := h1
  have hru := hframe.running.trans hr
  have h2 := foldl_raise_frame 0x0E08 (k := 2) (by decide) (by decide) u.bank.stuckNew u
  have hp2 := foldl_raise_post 0x0E08 2 (by decide) u.bank.stuckNew hru (by rw [hbank]; simp [hcause]; omega)
  generalize u.bank.stuckNew.foldl (fun t i => t.raise 0x0E08 2 i) u = w at h2 hp2 ⊢
  have hp3 := foldl_raise_post 0x0E0C 2 (by decide) w.bank.overflowNew (h2.1.running.trans hru)
    (by rw [h2.2, hbank, hp2]; simp [hcause, hbank]; omega)
  rw [show (14 : Nat) = 0x0E0C / 256 from rfl, hp3, show (0x0E0C / 256 : Nat) = 0x0E08 / 256 from rfl, hp2,
    show (0x0E08 / 256 : Nat) = 14 from rfl, hcause, h2.2, hbank]
  simp [State.posting, h2.1.tide, hframe.tide]

/-! The release -/

theorem State.releaseCause_link (s t : State) : SameLink t (s.releaseCause t) := by
  have h1 : SameLink t (if ¬ (s.bank.cause = 1 ∨ s.bank.cause = 2) then t.raise 0x0102 2 noInst (t.rd SYS_RESET_CAUSE).toNat else t) := by
    split
    · exact t.raise_link _ _ _ _ (by decide) (by decide) (by decide)
    · exact SameLink.refl t
  simp only [State.releaseCause]
  generalize (if ¬ (s.bank.cause = 1 ∨ s.bank.cause = 2) then t.raise 0x0102 2 noInst (t.rd SYS_RESET_CAUSE).toNat else t) = u at h1 ⊢
  split
  · exact h1.trans (u.raise_link _ _ _ _ (by decide) (by decide) (by decide))
  · exact h1

theorem State.releaseEvents_link {s t : State} (hstuck : t.bank.stuckNew = []) (hover : t.bank.overflowNew = []) :
    SameLink t (s.releaseEvents t) := by
  have h := s.releaseCause_link t
  rw [State.releaseEvents_eq, h.bank, hstuck, List.foldl_nil, h.bank, hover]
  exact h

/-! The release -/

theorem State.rd_release {a : Nat} (h : isSrcLost a = false) : s.release.rd a = s.released.rd a := by
  rw [State.release_eq, State.setBank_rd, (s.releaseEvents_frame _).1.rd a h]

theorem State.rd_release_logic {a : Nat} (h : isSrcLost a = false) (hb : isBnk a = false) : s.release.rd a = s.recordLoaded.rd a := by
  rw [State.rd_release h, State.rd_released_logic hb]

theorem State.bank_release (s : State) : s.release.bank = { s.bank with
    seq := .running, attempts := 0, failed := 0, fatals := s.fatalsNow, lastHb := s.elapsed, stuckNew := [], overflowNew := []
    heaters := s.released.bank.heaters } := by
  obtain ⟨r, h, e⟩ := s.released_eq
  rw [State.release_eq, State.setBank_bank, (s.releaseEvents_frame _).2, e]

theorem State.release_frame (s : State) : s.release = { s.clearLogic with
    regs := s.release.regs
    dev := { state := .boot, thermalWait := decide (s.bank.cause = 4 ∧ s.bank.fatalEvent = 0x0212), bootRef := s.elapsed }
    bank := s.release.bank, flt := s.release.flt, outputs := s.release.outputs, free := s.release.free } := by
  obtain ⟨f, r, e⟩ := (s.releaseEvents_frame s.released).1.eq
  obtain ⟨r', h, e'⟩ := s.released_eq
  rw [State.release_eq]
  generalize s.releaseEvents s.released = w at e ⊢
  generalize s.released = v at e e'
  subst e'
  rw [e]
  rfl

theorem State.heater_release (s : State) {n : Nat} (hn : n < 12) :
    s.release.heater n = { s.heater n with demanded := false, pendFresh := false, dec := 0 } := by
  have h := s.heater_released hn
  rw [State.heater] at h
  rw [State.heater, s.bank_release]
  dsimp only
  exact h

theorem State.released_running (s : State) : s.released.running = true := by
  obtain ⟨r, h, e⟩ := s.released_eq
  rw [e]
  rfl

theorem State.released_flt (s : State) : s.released.flt = {} := by
  obtain ⟨r, h, e⟩ := s.released_eq
  rw [e]
  rfl

theorem State.released_bank_new (s : State) : s.released.bank.stuckNew = s.bank.stuckNew ∧ s.released.bank.overflowNew = s.bank.overflowNew := by
  obtain ⟨r, h, e⟩ := s.released_eq
  rw [e]
  exact ⟨rfl, rfl⟩

theorem State.post_released (s : State) (b : Nat) : tget [] s.released.flt.post b = [] := by
  rw [s.released_flt]
  rfl

theorem State.release_flt (s : State) : s.release.flt = (s.releaseEvents s.released).flt := by
  rw [State.release_eq, State.setBank_flt]

/-- The reset record and the start's class stand in the buffer (R81). -/
theorem State.mem_post_release {x : Posting} (h : x ∈ tget [] (s.releaseCause s.released).flt.post 1) : x ∈ tget [] s.release.flt.post 1 := by
  rw [State.release_flt]
  exact State.releaseEvents_mem h

theorem State.post_release_wake (h : s.bank.stuckNew.length + s.bank.overflowNew.length ≤ 16) : tget [] s.release.flt.post 14 =
    s.bank.stuckNew.map (fun i => s.released.posting 0x0E08 2 i 0) ++ s.bank.overflowNew.map (fun n => s.released.posting 0x0E0C 2 n 0) := by
  obtain ⟨hstuck, hover⟩ := s.released_bank_new
  rw [State.release_flt, State.post_releaseEvents s.released_running, hstuck, hover]
  · rw [hstuck, hover]
    exact h
  · rw [State.post_releaseCause s.released_running s.post_released]
    rfl

/-- The release with the stored fallback profile (R61, R455). -/
def State.releaseFallback (s : State) : State := s.release.setFld SYS_PROFILE SYS_PROFILE_fallback s.release.mram.fallback

/-- The balls sampled at the release (R61). -/
def State.sampled (s : State) (psel : Nat) (head : Bool) : State := { s with pins := { s.pins with psel := psel, head := head } }

theorem State.resetRelease_of_wait {psel : Nat} {head : Bool} (h : s.bank.seq = .waitRelease) :
    s.resetRelease psel head = (s.sampled psel head).releaseFallback := by
  rw [State.resetRelease, if_pos h]
  rfl

theorem State.rd_releaseFallback {a : Nat} (h : a ≠ SYS_PROFILE) : s.releaseFallback.rd a = s.release.rd a := by
  rw [State.releaseFallback, State.rd_setFld, if_neg h]

theorem State.rd_releaseFallback_resetCause (s : State) : s.releaseFallback.rd SYS_RESET_CAUSE = s.recordLoaded.rd SYS_RESET_CAUSE := by
  rw [State.rd_releaseFallback (by decide), State.rd_release_logic (by decide) (by decide)]

theorem State.rd_releaseFallback_bootStatus (s : State) : s.releaseFallback.rd SYS_BOOT_STATUS = s.recordLoaded.rd SYS_BOOT_STATUS := by
  rw [State.rd_releaseFallback (by decide), State.rd_release_logic (by decide) (by decide)]

theorem State.releaseFallback_bootStatus (s : State) :
    s.releaseFallback.fld SYS_BOOT_STATUS SYS_BOOT_STATUS_phase = 0 ∧
    s.releaseFallback.fld SYS_BOOT_STATUS SYS_BOOT_STATUS_psel = s.pins.psel % 4 ∧
    s.releaseFallback.fld SYS_BOOT_STATUS SYS_BOOT_STATUS_head = boolNat s.pins.head % 2 ∧
    s.releaseFallback.fld SYS_BOOT_STATUS SYS_BOOT_STATUS_profile = s.pins.psel % 4 ∧
    s.releaseFallback.fld SYS_BOOT_STATUS SYS_BOOT_STATUS_supply_retries = s.bank.failed % 4 := by
  have hreset : s.clearLogic.rd SYS_BOOT_STATUS = regDefault SYS_BOOT_STATUS := by
    rw [State.rd_clearLogic, if_neg (by decide)]
  have hphase : SYS_BOOT_STATUS_phase.get (regDefault SYS_BOOT_STATUS) = 0 := by decide +kernel
  simp only [State.fld, s.rd_releaseFallback_bootStatus, s.rd_recordLoaded_bootStatus, hreset]
  simp (disch := decide) only [Fld.get_put_ne, Fld.get_put, hphase, true_and]
  exact ⟨rfl, rfl, rfl, rfl⟩

theorem State.releaseFallback_resetCause (s : State) :
    s.releaseFallback.fld SYS_RESET_CAUSE SYS_RESET_CAUSE_cause = s.bank.cause % 16 ∧
    s.releaseFallback.fld SYS_RESET_CAUSE SYS_RESET_CAUSE_fatal_count = min 15 s.fatalsNow.length % 16 ∧
    s.releaseFallback.fld SYS_RESET_CAUSE SYS_RESET_CAUSE_reduced = boolNat s.bank.reduced % 2 ∧
    s.releaseFallback.fld SYS_RESET_CAUSE SYS_RESET_CAUSE_fatal_event = s.bank.fatalEvent % 65536 ∧
    s.releaseFallback.fld SYS_RESET_CAUSE SYS_RESET_CAUSE_thermal_wait = boolNat (s.bank.cause = 4 ∧ s.bank.fatalEvent = 0x0212) % 2 := by
  simp only [State.fld, s.rd_releaseFallback_resetCause, s.rd_recordLoaded_resetCause]
  simp (disch := decide) only [Fld.get_put_ne, Fld.get_put]
  exact ⟨rfl, rfl, rfl, rfl, rfl⟩

theorem State.releaseFallback_profile (s : State) : s.releaseFallback.fld SYS_PROFILE SYS_PROFILE_fallback = s.mram.fallback % 8 := by
  rw [State.releaseFallback, State.fld, State.rd_setFld, if_pos rfl, Fld.get_put _ _ _ (by decide) (by decide), s.release_frame]
  rfl

theorem State.releaseFallback_demands (s : State) {n : Nat} (hn : n < 12) :
    s.releaseFallback.fld (BNK_HTR_DEMAND n) BNK_HTR_DEMAND_duty = 0 ∧ s.releaseFallback.htr n BNK_HTR_STATUS_fresh = 0 ∧
    s.releaseFallback.htr n BNK_HTR_STATUS_decaying = 0 ∧
    s.releaseFallback.heater n = { s.heater n with demanded := false, pendFresh := false, dec := 0 } := by
  have hd : s.releaseFallback.rd (BNK_HTR_DEMAND n) = s.released.rd (BNK_HTR_DEMAND n) := by
    rw [State.rd_releaseFallback (by simp only [BNK_HTR_DEMAND, SYS_PROFILE]; omega), State.rd_release]
    exact isSrcLost_eq_false.2 (.inr (by simp only [FLT_SRC_LOST, BNK_HTR_DEMAND]; omega))
  have hs : s.releaseFallback.rd (BNK_HTR_STATUS n) = s.released.rd (BNK_HTR_STATUS n) := by
    rw [State.rd_releaseFallback (by simp only [BNK_HTR_STATUS, SYS_PROFILE]; omega), State.rd_release]
    exact isSrcLost_eq_false.2 (.inr (by simp only [FLT_SRC_LOST, BNK_HTR_STATUS]; omega))
  refine ⟨?_, ?_, ?_, ?_⟩
  · rw [State.fld, hd]
    exact s.fld_released_duty hn
  · rw [State.htr, State.fld, hs]
    exact s.fld_released_status hn _ (.inl rfl)
  · rw [State.htr, State.fld, hs]
    exact s.fld_released_status hn _ (.inr rfl)
  · rw [State.releaseFallback, State.heater, State.setFld_bank]
    exact s.heater_release hn

theorem State.releaseFallback_safeRun (s : State) : s.releaseFallback.fld BNK_CTL BNK_CTL_safe_run = 0 := by
  rw [State.fld, State.rd_releaseFallback (by decide), State.rd_release (by decide)]
  exact s.fld_released_safeRun

theorem State.rd_releaseFallback_logic {a : Nat} (hb : isBnk a = false) (h : a ∉ [SYS_BOOT_STATUS, SYS_RESET_CAUSE, SYS_PROFILE])
    (hl : a < FLT_SRC_LOST 1 ∨ FLT_SRC_LOST 16 < a) : s.releaseFallback.rd a = regDefault a := by
  simp only [List.mem_cons, List.not_mem_nil, or_false, not_or] at h
  obtain ⟨h1, h2, h3⟩ := h
  rw [State.rd_releaseFallback h3, State.rd_release_logic (isSrcLost_eq_false.2 hl) hb, State.rd_recordLoaded_of_ne h2 h1,
    State.rd_clearLogic, if_neg (by rw [hb]; exact Bool.false_ne_true)]

theorem State.rd_releaseFallback_bank {a : Nat} (hb : isBnk a = true) (h : a ∉ BNK_CTL :: htrStatus ++ (List.range 12).map BNK_HTR_DEMAND) :
    s.releaseFallback.rd a = s.rd a := by
  have hrange : 0x20100000 ≤ a := by
    simp only [isBnk, Bool.and_eq_true, decide_eq_true_eq] at hb
    exact hb.1
  have hne : ∀ b, b < 0x20100000 → a ≠ b := fun b hlt e => by omega
  rw [State.rd_releaseFallback (hne _ (by decide)), State.rd_release (isSrcLost_eq_false.2 (.inr (Nat.lt_of_lt_of_le (by decide) hrange))),
    State.rd_released_of_not_mem h, State.rd_recordLoaded_of_ne (hne _ (by decide)) (hne _ (by decide)), State.rd_clearLogic, if_pos hb]

theorem State.releaseFallback_events (s : State) :
    (s.bank.cause ≠ 1 → s.bank.cause ≠ 2 → ∃ p ∈ tget [] s.releaseFallback.flt.post 1, p.code = 0x0102 ∧ p.cls = 2) ∧
    (s.bank.reduced = true → ∃ p ∈ tget [] s.releaseFallback.flt.post 1, p.code = 0x0105 ∧ p.cls = 5) ∧
    (s.bank.stuckNew.length + s.bank.overflowNew.length ≤ 16 →
      (∀ i ∈ s.bank.stuckNew, ∃ p ∈ tget [] s.releaseFallback.flt.post 14, p.code = 0x0E08 ∧ p.cls = 2 ∧ p.inst = i % 4096) ∧
      (∀ n ∈ s.bank.overflowNew, ∃ p ∈ tget [] s.releaseFallback.flt.post 14, p.code = 0x0E0C ∧ p.cls = 2 ∧ p.inst = n % 4096)) := by
  have hcause := State.post_releaseCause (s := s) s.released_running s.post_released 1
  rw [if_pos rfl] at hcause
  rw [State.releaseFallback, State.setFld_flt]
  refine ⟨fun h1 h2 => ⟨s.released.posting 0x0102 2 noInst (s.released.rd SYS_RESET_CAUSE).toNat, s.mem_post_release ?_, rfl, rfl⟩,
    fun h => ⟨s.released.posting 0x0105 5 noInst 0, s.mem_post_release ?_, rfl, rfl⟩, fun h => ?_⟩
  · rw [hcause, if_neg (not_or.2 ⟨h1, h2⟩)]
    exact List.mem_append_left _ (List.mem_singleton.2 rfl)
  · rw [hcause, if_pos h]
    exact List.mem_append_right _ (List.mem_singleton.2 rfl)
  · rw [State.post_release_wake h]
    exact ⟨fun i hi => ⟨_, List.mem_append_left _ (List.mem_map_of_mem hi), rfl, rfl, rfl⟩,
      fun n hn => ⟨_, List.mem_append_right _ (List.mem_map_of_mem hn), rfl, rfl, rfl⟩⟩

theorem State.releaseFallback_silent (h1 : s.bank.stuckNew = []) (h2 : s.bank.overflowNew = []) :
    s.releaseFallback.outputs = s.outputs ∧ s.releaseFallback.free = s.free := by
  obtain ⟨r, h, e⟩ := s.released_eq
  have hlink := State.releaseEvents_link (s := s) (s.released_bank_new.1.trans h1) (s.released_bank_new.2.trans h2)
  rw [State.releaseFallback, State.setFld_outputs, State.setFld_free, State.release_eq, State.setBank_outputs, State.setBank_free,
    hlink.outputs, hlink.free, e]
  exact ⟨rfl, rfl⟩

theorem State.releaseFallback_frame (s : State) : s.releaseFallback = { s.clearLogic with
    regs := s.releaseFallback.regs, mem := s.releaseFallback.mem
    dev := { state := .boot, thermalWait := decide (s.bank.cause = 4 ∧ s.bank.fatalEvent = 0x0212), bootRef := s.elapsed }
    bank := s.releaseFallback.bank, flt := s.releaseFallback.flt, outputs := s.releaseFallback.outputs, free := s.releaseFallback.free } := by
  have e := s.release_frame
  rw [State.releaseFallback]
  generalize s.release = w at e ⊢
  generalize w.mram.fallback = v
  rw [e]
  rfl

theorem State.releaseFallback_bank (s : State) : s.releaseFallback.bank = { s.bank with
    seq := .running, attempts := 0, failed := 0, fatals := s.fatalsNow, lastHb := s.elapsed, stuckNew := [], overflowNew := []
    heaters := s.releaseFallback.bank.heaters } := by
  rw [State.releaseFallback, State.setFld_bank, s.bank_release]

theorem State.mb_releaseFallback (s : State) (a : Nat) : s.releaseFallback.mb a = if isMram a then s.mb a else memDefault a := by
  have hmem : s.releaseFallback.mem = s.clearLogic.mem := by
    rw [State.releaseFallback, State.setFld_mem, s.release_frame]
  rw [State.mb, hmem]
  exact s.mb_clearLogic a

/-! The other events of the reset (R42, R72, R77, R78) -/

/-- The bank die's power-on reset loses the registers of both dies and every memory but the MRAM (R72). -/
theorem State.bankPor_spec (h : s.bank.lowTimer = true) : (∀ a, s.bankPor.rd a = regDefault a) ∧
    (∀ a, s.bankPor.mb a = if isMram a then s.mb a else memDefault a) ∧
    (∀ i, s.bankPor.wakeOf i = { pin := (s.wakeOf i).pin, filtering := (s.wakeOf i).pin }) ∧
    s.bankPor = { s with
      regs := s.bankPor.regs, mem := s.bankPor.mem, tide := 0, tideFrac := 0, dev := { state := .unpowered }
      bank := { supPg := s.bank.supPg, extLow := s.bank.extLow, modelAt := s.elapsed, wakeIn := s.bankPor.bank.wakeIn }
      hlt := {}, flt := {}, sw := {}, tm := {}, csg := {}, eth := {}, tbl := {}, wrd := {}, sec := {}, fab := {}, plc := {}, kpr := {}, can := {} } := by
  have heq : s.bankPor = (s.clearLogic.bankPowerUp).setDev .unpowered := by simp only [State.bankPor, h, if_true]
  refine ⟨fun a => ?_, fun a => ?_, fun i => ?_, ?_⟩
  · rw [heq, State.setDev_rd, State.rd_bankPowerUp, State.rd_clearLogic]
    split <;> rfl
  · rw [heq]
    exact s.mb_clearLogic a
  · rw [heq]
    exact s.clearLogic.wakeOf_bankPowerUp i
  · rw [heq]
    rfl

theorem State.sampled_heater (s : State) (psel : Nat) (head : Bool) (n : Nat) : (s.sampled psel head).heater n = s.heater n := rfl

/-- Settles O4: the release beside its events, its events, and the ways in which the reset is held. -/
theorem resetRelease : Obligations.ResetRelease := by
  unfold Obligations.ResetRelease
  intro s
  refine ⟨fun psel head h => ⟨s.resetRelease psel.val head, rfl, ?_⟩, fun psel head h => ⟨s.resetRelease psel.val head, rfl, if_neg h⟩,
    fun h1 h2 h3 => ⟨s.vcoreHoldEnd, rfl, ?_⟩, fun h1 h2 => ⟨s.vcoreHoldEnd, rfl, ?_⟩, fun h => ⟨s.vcoreHoldEnd, rfl, ?_⟩,
    fun h1 h2 h3 => ⟨s.extHigh, rfl, ?_⟩, fun h => ⟨s.extHigh, rfl, ?_⟩, fun h => ⟨s.bankPor, rfl, ?_⟩,
    fun h => ⟨s.bankPor, rfl, ?_⟩, fun h1 h2 h3 => ⟨s.thermalEnd, rfl, ?_⟩, fun h => ⟨s.thermalEnd, rfl, ?_⟩⟩
  · rw [State.resetRelease_of_wait h]
    obtain ⟨hphase, hps, hhead, hprof, hretry⟩ := (s.sampled psel.val head).releaseFallback_bootStatus
    obtain ⟨hc, hcnt, hred, hev, hth⟩ := (s.sampled psel.val head).releaseFallback_resetCause
    obtain ⟨he1, he2, he3⟩ := (s.sampled psel.val head).releaseFallback_events
    refine ⟨hphase, hps.trans (Nat.mod_eq_of_lt psel.isLt), hhead.trans (Nat.mod_eq_of_lt (boolNat_lt _)),
      hprof.trans (Nat.mod_eq_of_lt psel.isLt), hretry, hc, hcnt.trans (Nat.mod_eq_of_lt (Nat.lt_of_le_of_lt (Nat.min_le_left _ _) (by decide))),
      hred.trans (Nat.mod_eq_of_lt (boolNat_lt _)), hev, hth.trans ?_, (s.sampled psel.val head).releaseFallback_profile,
      fun n hn => ?_, (s.sampled psel.val head).releaseFallback_safeRun, fun a hb hm hl => State.rd_releaseFallback_logic (s := s.sampled psel.val head) hb hm hl,
      fun a hb hm => State.rd_releaseFallback_bank (s := s.sampled psel.val head) hb hm, he1, he2, he3,
      fun h1 h2 => State.releaseFallback_silent (s := s.sampled psel.val head) h1 h2, (s.sampled psel.val head).mb_releaseFallback,
      (s.sampled psel.val head).releaseFallback_bank, (s.sampled psel.val head).releaseFallback_frame⟩
    · rw [Nat.mod_eq_of_lt (boolNat_lt _)]
      exact if_congr decide_eq_true_iff rfl rfl
    · have hd := (s.sampled psel.val head).releaseFallback_demands hn
      rw [State.sampled_heater] at hd
      exact hd
  · simp [State.vcoreHoldEnd, h1, h2, h3, State.raiseVcore, State.setBank]
  · simp only [State.vcoreHoldEnd, h1, if_true, h2.symm, State.setBank]
  · simp [State.vcoreHoldEnd, h]
  · simp [State.extHigh, h1, h2, h3, State.raiseVcore, State.setBank]
  · have hno : ¬ (s.bank.extLow ∧ s.bank.seq = .vcoreHold ∧ !s.bank.minHold) := by
      rintro ⟨hlow, hseq, hhold⟩
      rcases h with h | h | h
      · exact h hseq
      · simp [h] at hlow
      · simp [h] at hhold
    rw [State.extHigh, if_neg hno]
    rfl
  · exact State.bankPor_spec h
  · simp [State.bankPor, h]
  · have hok : s.thermalOk = true := by
      simp only [State.thermalOk, h2, Bool.true_and, List.all_eq_true, List.mem_range, Bool.or_eq_true, Bool.not_eq_true', decide_eq_true_eq]
      intro n hn
      by_cases hv : s.tempValid n = true
      · exact .inr (h3 n hn hv)
      · exact .inl (Bool.eq_false_iff.2 hv)
    simp [State.thermalEnd, h1, hok]
  · have hno : ¬ (s.dev.thermalWait && s.thermalOk) = true := by
      simp only [State.thermalOk, Bool.and_eq_true, List.all_eq_true, List.mem_range, Bool.or_eq_true, Bool.not_eq_true', decide_eq_true_eq]
      rintro ⟨hwait, hseen, hall⟩
      rcases h with h | h | ⟨n, hn, hv, hlim⟩
      · simp [h] at hwait
      · simp [h] at hseen
      · rcases hall n hn with h' | h'
        · simp [h'] at hv
        · omega
    rw [State.thermalEnd, if_neg hno]

end Sys2Proof.Machine

/-! VBAT and its bands (R72, R390, R403, R406). -/

namespace Sys2Proof.Machine

variable {s : State}

/-! What the heaters have drawn (R403) -/

/-- A channel's account up to now. -/
def State.paid (s : State) (n : Nat) : Heater := { s.heater n with energy := s.supplied n, since := s.elapsed }

theorem State.heater_accrue (s : State) (n k : Nat) : (s.accrue n).heater k = if k = n then s.paid n else s.heater k := by
  simp only [State.accrue, State.heater, tget_tset (α := Heater) {} {} _ _ _ _ (fun _ => rfl)]
  split
  · next e =>
    simp only [State.paid, State.supplied, State.heater, State.htr, Nat.mul_assoc]
  · rfl

theorem State.heater_heaterOff (s : State) (n k : Nat) : (s.heaterOff n).heater k = if k = n then s.paid n else s.heater k := by
  rw [State.heaterOff, State.heater, State.setFld_bank]
  exact s.heater_accrue n k

/-- An account that is settled now stays as it is. -/
theorem State.paid_of_since {n : Nat} (h : (s.heater n).since = s.elapsed) : s.paid n = s.heater n := by
  simp only [State.paid, State.supplied, h, Nat.sub_self, Nat.mul_zero, Nat.add_zero]
  rw [← h]

/-- Channel by channel, each from its own account: a step that settles one channel and keeps what the others' accounts rest on
settles them all. -/
theorem foldl_settles (f : State → Nat → State) (hf : ∀ t n k, (f t n).heater k = if k = n then t.paid n else t.heater k)
    (hkeep : ∀ t n k, k ≠ n → (f t n).paid k = t.paid k) (s : State) (m n : Nat) :
    ((List.range m).foldl f s).heater n = (if n < m then s.paid n else s.heater n) ∧
      (m ≤ n → ((List.range m).foldl f s).paid n = s.paid n) := by
  induction m with
  | zero => exact ⟨rfl, fun _ => rfl⟩
  | succ m ih =>
    obtain ⟨ih1, ih2⟩ := ih
    rw [List.range_succ, List.foldl_append, List.foldl_cons, List.foldl_nil]
    refine ⟨?_, fun h => by rw [hkeep _ _ _ (by omega), ih2 (by omega)]⟩
    rw [hf]
    by_cases h : n = m
    · subst h
      rw [if_pos rfl, if_pos (Nat.lt_succ_self n), ih2 (Nat.le_refl n)]
    · rw [if_neg h, ih1]
      exact if_congr (by omega) rfl rfl

theorem State.accrue_eq (s : State) (n : Nat) : ∃ h, s.accrue n = { s with bank := { s.bank with heaters := h } } := ⟨_, rfl⟩

theorem foldl_accrue_eq (l : List Nat) (s : State) : ∃ h, l.foldl State.accrue s = { s with bank := { s.bank with heaters := h } } := by
  induction l generalizing s with
  | nil => exact ⟨s.bank.heaters, rfl⟩
  | cons n l ih =>
    obtain ⟨h, e⟩ := ih (s.accrue n)
    exact ⟨h, e⟩

theorem State.supplied_congr {s t : State} (n : Nat) (hh : t.heater n = s.heater n) (hm : t.rd (BNK_HTR_MEAS n) = s.rd (BNK_HTR_MEAS n))
    (hs : t.rd (BNK_HTR_STATUS n) = s.rd (BNK_HTR_STATUS n)) (hv : t.pins = s.pins) (he : t.elapsed = s.elapsed) : t.paid n = s.paid n := by
  simp only [State.paid, State.supplied, State.htr, State.fld, hh, hm, hs, hv, he]

theorem State.paid_accrue (t : State) {n k : Nat} (h : k ≠ n) : (t.accrue n).paid k = t.paid k :=
  State.supplied_congr k (by rw [State.heater_accrue, if_neg h]) rfl rfl rfl rfl

theorem State.paid_heaterOff (t : State) {n k : Nat} (h : k ≠ n) : (t.heaterOff n).paid k = t.paid k := by
  refine State.supplied_congr k (by rw [State.heater_heaterOff, if_neg h]) ?_ ?_ rfl rfl
  · rw [State.rd_heaterOff, if_neg (by simp only [BNK_HTR_MEAS, BNK_HTR_STATUS]; omega)]
  · rw [State.rd_heaterOff, if_neg (by simp only [BNK_HTR_STATUS]; omega)]

theorem State.heater_foldl_accrue (s : State) {n : Nat} (hn : n < 12) : ((List.range 12).foldl State.accrue s).heater n = s.paid n := by
  rw [(foldl_settles State.accrue State.heater_accrue (fun t _ _ h => t.paid_accrue h) s 12 n).1, if_pos hn]

theorem State.heater_heatersOff (s : State) {n : Nat} (hn : n < 12) : s.heatersOff.heater n = s.paid n := by
  rw [State.heatersOff, (foldl_settles State.heaterOff State.heater_heaterOff (fun t _ _ h => t.paid_heaterOff h) s 12 n).1, if_pos hn]

/-! A change of the bank die alone -/

theorem State.bankFrame_iff {s t : State} :
    s.bankFrame t ↔ ∃ r f b o k, t = { s with regs := r, flt := f, bank := b, outputs := o, free := k } :=
  ⟨fun h => ⟨_, _, _, _, _, h⟩, by rintro ⟨r, f, b, o, k, rfl⟩; rfl⟩

theorem State.bankFrame.trans {s t u : State} (h1 : s.bankFrame t) (h2 : t.bankFrame u) : s.bankFrame u := by
  obtain ⟨r, f, b, o, k, rfl⟩ := State.bankFrame_iff.1 h1
  obtain ⟨r', f', b', o', k', e⟩ := State.bankFrame_iff.1 h2
  exact State.bankFrame_iff.2 ⟨r', f', b', o', k', e⟩

theorem PostFrame.bankFrame {s t : State} (h : PostFrame s t) : s.bankFrame t := by
  obtain ⟨f, r, e⟩ := h.eq
  exact State.bankFrame_iff.2 ⟨r, f, t.bank, t.outputs, t.free, e⟩

/-! A band that turns the heaters off and raises its event -/

theorem State.posts_congr {s t u : State} {c k i : Nat} (hrun : t.running = s.running) (hflt : t.flt = s.flt) (h : t.posts u c k i) :
    s.posts u c k i := by
  simp only [State.posts, hrun, hflt] at h ⊢
  exact h

theorem State.eventFrames_congr {s t u : State} {n : Nat} (hout : t.outputs = s.outputs) (hfree : t.free = s.free) (h : t.eventFrames u n) :
    s.eventFrames u n := by
  simp only [State.eventFrames, hout, hfree] at h ⊢
  exact h

/-- What the entry into a band leaves: the heaters off, its event raised, and the bank die as given. -/
structure BandEntry (s t : State) (b : BankDie) (c : Nat) : Prop where
  bank : t.bank = b
  zero : t.heatersZero
  posts : s.posts t c 2 noInst
  frames : s.eventFrames t (boolNat s.running)
  rd : ∀ a, a ∉ htrStatus → isSrcLost a = false → t.rd a = s.rd a
  eq : ∃ r f o k, t = { s with regs := r, flt := f, bank := t.bank, outputs := o, free := k }

theorem isSrcLost_htrStatus {n : Nat} : isSrcLost (BNK_HTR_STATUS n) = false :=
  isSrcLost_eq_false.2 (.inr (by simp only [FLT_SRC_LOST, BNK_HTR_STATUS]; omega))

theorem State.bandEntry (s : State) (b : BankDie) {c : Nat} (hc : bankEvent c = true) (hlt : c < 0x1100) :
    BandEntry s ((s.heatersOff.setBank b).raise c 2) b c := by
  obtain ⟨r, h, e⟩ := s.heatersOff_frame.eq
  have hzero := s.heatersZero_heatersOff
  have hrd := s.heatersOff_frame.rd
  generalize s.heatersOff = w at e hzero hrd ⊢
  have hframe := (w.setBank b).raise_frame c 2 noInst 0 hlt
  have hposts := (w.setBank b).bankPosts_raise (k := 2) hc (by decide) noInst 0
  have hbank := (w.setBank b).raise_bank c noInst 0 (k := 2) (by decide)
  generalize (w.setBank b).raise c 2 = u at hframe hposts hbank ⊢
  refine ⟨hbank, fun n hn => ?_, State.posts_congr (t := w.setBank b) ?_ ?_ hposts.1,
    State.eventFrames_congr (t := w.setBank b) ?_ ?_ ?_, fun a ha hl => ?_, ?_⟩
  · rw [State.fld, hframe.rd _ isSrcLost_htrStatus]
    exact hzero n hn
  · rw [e]; rfl
  · rw [e]; rfl
  · rw [e]; rfl
  · rw [e]; rfl
  · have hrun : (w.setBank b).running = s.running := by rw [e]; rfl
    rw [← hrun]
    exact hposts.2
  · rw [hframe.rd a hl, State.setBank_rd, hrd a ha]
  · obtain ⟨f, r', e'⟩ := hframe.eq
    refine ⟨r', f, u.outputs, u.free, ?_⟩
    rw [e', e]
    rfl

/-! A reading of VBAT -/

/-- The reading taken. -/
def State.vbatLoaded (s : State) (mv : Nat) : State :=
  let low := if s.bank.minValid then min (s.fld BNK_VBAT BNK_VBAT_min_mv) mv else mv
  let s0 := (List.range 12).foldl State.accrue s
  let s1 := (s0.setFld BNK_VBAT BNK_VBAT_mv (min mv 0xFFFF)).setFld BNK_VBAT BNK_VBAT_min_mv (min low 0xFFFF)
  { s1 with pins := { s1.pins with vbat := mv } }

/-- The timers that it sets, before the bands are entered. -/
def State.vbatTimed (s : State) (mv : Nat) : State :=
  let ride := s.bank.rideEnd.getD (s.elapsed + 1000000 * s.fld BNK_SUP_CFG BNK_SUP_CFG_ride_ms)
  s.setBank { s.bank with minValid := true, lowTimer := mv < 3500
                          brownTimer := s.bank.seq = .brownWait ∧ 6000 ≤ mv
                          rideEnd := if mv < 4500 then some ride else none }

/-- Both. -/
def State.vbatTaken (s : State) (mv : Nat) : State :=
  let low := if s.bank.minValid then min (s.fld BNK_VBAT BNK_VBAT_min_mv) mv else mv
  let s0 := (List.range 12).foldl State.accrue s
  let s1 := (s0.setFld BNK_VBAT BNK_VBAT_mv (min mv 0xFFFF)).setFld BNK_VBAT BNK_VBAT_min_mv (min low 0xFFFF)
  let s2 := { s1 with pins := { s1.pins with vbat := mv } }
  let ride := s2.bank.rideEnd.getD (s2.elapsed + 1000000 * s2.fld BNK_SUP_CFG BNK_SUP_CFG_ride_ms)
  s2.setBank { s2.bank with minValid := true, lowTimer := mv < 3500
                            brownTimer := s2.bank.seq = .brownWait ∧ 6000 ≤ mv
                            rideEnd := if mv < 4500 then some ride else none }

/-- The bands that the reading enters. -/
def State.bandsEntered (s : State) (mv : Nat) : State :=
  if mv < 6000 then s.enterCranking
  else if 36000 < mv ∧ !s.bank.ovHeld then (s.heatersOff.setBank { s.heatersOff.bank with ovHeld := true }).raise 0x0E03 2
  else s

/-- The timers of the bands' ends, and the band shown. -/
def State.bandShown (s : State) (mv : Nat) : State :=
  (s.setBank { s.bank with crankTimer := decide (6000 ≤ mv) && s.bank.crankHeld
                           ovTimer := s.bank.ovHeld && decide (mv ≤ 35000) }).setBand s.bandNow

theorem State.vbatTaken_eq (s : State) (mv : Nat) : s.vbatTaken mv = (s.vbatLoaded mv).vbatTimed mv := rfl

theorem State.vbatReading_eq (s : State) (mv : Nat) : s.vbatReading mv = ((s.vbatTaken mv).bandsEntered mv).bandShown mv := rfl

theorem State.rd_congr {s t : State} (h : t.regs = s.regs) (a : Nat) : t.rd a = s.rd a := by
  simp only [State.rd, h]

theorem State.rd_vbatLoaded (s : State) (mv a : Nat) : (s.vbatLoaded mv).rd a = if a = BNK_VBAT then
    BNK_VBAT_min_mv.put (BNK_VBAT_mv.put (s.rd BNK_VBAT) (min mv 0xFFFF))
      (min (if s.bank.minValid then min (s.fld BNK_VBAT BNK_VBAT_min_mv) mv else mv) 0xFFFF) else s.rd a := by
  obtain ⟨h, e⟩ := foldl_accrue_eq (List.range 12) s
  simp only [State.vbatLoaded]
  generalize (List.range 12).foldl State.accrue s = w at e
  subst e
  rw [State.rd_congr (s := State.setFld _ _ _ _) (by dsimp only), State.rd_setFld, State.rd_setFld, if_pos rfl]
  split
  · rfl
  · next h => rw [State.rd_setFld, if_neg h]; rfl

theorem State.vbatLoaded_frame (s : State) (mv : Nat) : ∃ r, s.vbatLoaded mv = { s with
    regs := r, pins := { s.pins with vbat := mv }
    bank := { s.bank with heaters := ((List.range 12).foldl State.accrue s).bank.heaters } } := by
  obtain ⟨h, e⟩ := foldl_accrue_eq (List.range 12) s
  simp only [State.vbatLoaded]
  generalize (List.range 12).foldl State.accrue s = w at e ⊢
  subst e
  exact ⟨_, rfl⟩

theorem State.heater_vbatLoaded (s : State) (mv : Nat) {n : Nat} (hn : n < 12) : (s.vbatLoaded mv).heater n = s.paid n := by
  obtain ⟨r, e⟩ := s.vbatLoaded_frame mv
  have h := s.heater_foldl_accrue hn
  rw [State.heater] at h
  rw [State.heater, e, ← h]

theorem State.vbatLoaded_bank (s : State) (mv : Nat) :
    (s.vbatLoaded mv).bank = { s.bank with heaters := (s.vbatLoaded mv).bank.heaters } := by
  obtain ⟨r, e⟩ := s.vbatLoaded_frame mv
  rw [e]

theorem State.vbatTimed_frame (s : State) (mv : Nat) : (s.vbatTimed mv) = { s with bank := { s.bank with
      minValid := true, lowTimer := decide (mv < 3500), brownTimer := decide (s.bank.seq = .brownWait ∧ 6000 ≤ mv)
      rideEnd := (if mv < 4500 then some (s.bank.rideEnd.getD (s.elapsed + 1000000 * s.fld BNK_SUP_CFG BNK_SUP_CFG_ride_ms)) else none) } } := rfl

/-- A reading that enters no band. -/
theorem State.bandsEntered_none {mv : Nat} (h1 : mv < 6000 → s.bank.crankHeld = true) (h2 : 36000 < mv → s.bank.ovHeld = true) :
    s.bandsEntered mv = s := by
  rw [State.bandsEntered]
  split
  · next h => rw [State.enterCranking, if_pos (h1 h)]
  · rw [if_neg (fun h => by simp [h2 h.1] at h)]

theorem State.bandsEntered_crank {mv : Nat} (h1 : mv < 6000) (h2 : s.bank.crankHeld = false) :
    s.bandsEntered mv = (s.heatersOff.setBank { s.heatersOff.bank with crankHeld := true }).raise 0x0E01 2 := by
  rw [State.bandsEntered, if_pos h1, State.enterCranking, if_neg (by simp [h2])]

theorem State.bandsEntered_over {mv : Nat} (h1 : 36000 < mv) (h2 : s.bank.ovHeld = false) :
    s.bandsEntered mv = (s.heatersOff.setBank { s.heatersOff.bank with ovHeld := true }).raise 0x0E03 2 := by
  rw [State.bandsEntered, if_neg (by omega), if_pos ⟨h1, by simp [h2]⟩]

/-- The bands after a reading (R72, R390). -/
def BankDie.held (b : BankDie) (mv : Nat) (h : Tab Heater) : BankDie :=
  { b with crankHeld := b.crankHeld || decide (mv < 6000), ovHeld := b.ovHeld || decide (36000 < mv), heaters := h }

/-- What a reading that enters a band, or none, leaves. -/
structure BandStep (s t : State) (mv : Nat) : Prop where
  bank : t.bank = s.bank.held mv t.bank.heaters
  heater : ∀ n < 12, (s.heater n).since = s.elapsed → t.heater n = s.heater n
  crank : mv < 6000 → s.bank.crankHeld = false → s.posts t 0x0E01 2 noInst ∧ t.heatersZero
  high : 36000 < mv → s.bank.ovHeld = false → s.posts t 0x0E03 2 noInst ∧ t.heatersZero
  frames : s.eventFrames t (boolNat (s.running && ((decide (mv < 6000) && !s.bank.crankHeld) || (decide (36000 < mv) && !s.bank.ovHeld))))
  same : ((decide (mv < 6000) && !s.bank.crankHeld) || (decide (36000 < mv) && !s.bank.ovHeld)) = false → t = s
  rd : ∀ a, a ∉ htrStatus → isSrcLost a = false → t.rd a = s.rd a
  eq : ∃ r f o k, t = { s with regs := r, flt := f, bank := t.bank, outputs := o, free := k }

theorem State.bandEntry_heater {t : State} {b : BankDie} {c : Nat} (h : BandEntry s t b c) (hb : b.heaters = s.heatersOff.bank.heaters)
    {n : Nat} (hn : n < 12) (hs : (s.heater n).since = s.elapsed) : t.heater n = s.heater n := by
  have hoff := s.heater_heatersOff hn
  rw [State.paid_of_since hs, State.heater] at hoff
  rw [State.heater, h.bank, hb, hoff]

theorem State.heatersOff_bank (s : State) : s.heatersOff.bank = { s.bank with heaters := s.heatersOff.bank.heaters } := by
  obtain ⟨r, h, e⟩ := s.heatersOff_frame.eq
  rw [e]

theorem State.bandsEntered_step (s : State) (mv : Nat) : BandStep s (s.bandsEntered mv) mv := by
  by_cases h1 : mv < 6000 ∧ s.bank.crankHeld = false
  · obtain ⟨hmv, hheld⟩ := h1
    have h := s.bandEntry { s.heatersOff.bank with crankHeld := true } (c := 0x0E01) (by decide) (by decide)
    rw [← State.bandsEntered_crank hmv hheld] at h
    have hover : ¬ 36000 < mv := by omega
    refine ⟨?_, fun n hn hs => State.bandEntry_heater h (by dsimp only) hn hs, fun _ _ => ⟨h.posts, h.zero⟩, fun h' => absurd h' hover, ?_, ?_, h.rd, h.eq⟩
    · rw [h.bank, State.heatersOff_bank]
      simp [BankDie.held, hmv, hover]
    · simp only [hmv, hheld, decide_true, Bool.not_false, Bool.and_self, Bool.true_or, Bool.and_true]
      exact h.frames
    · simp [hmv, hheld]
  · by_cases h2 : 36000 < mv ∧ s.bank.ovHeld = false
    · obtain ⟨hmv, hheld⟩ := h2
      have h := s.bandEntry { s.heatersOff.bank with ovHeld := true } (c := 0x0E03) (by decide) (by decide)
      rw [← State.bandsEntered_over hmv hheld] at h
      have hlow : ¬ mv < 6000 := by omega
      refine ⟨?_, fun n hn hs => State.bandEntry_heater h (by dsimp only) hn hs, fun h' => absurd h' hlow, fun _ _ => ⟨h.posts, h.zero⟩, ?_, ?_, h.rd, h.eq⟩
      · rw [h.bank, State.heatersOff_bank]
        simp [BankDie.held, hmv, hlow]
      · simp only [hmv, hheld, decide_true, Bool.not_false, Bool.and_self, Bool.or_true, Bool.and_true]
        exact h.frames
      · simp [hmv, hheld]
    · have hc : mv < 6000 → s.bank.crankHeld = true := fun h => by simpa [h] using h1
      have ho : 36000 < mv → s.bank.ovHeld = true := fun h => by simpa [h] using h2
      rw [State.bandsEntered_none hc ho]
      refine ⟨?_, fun _ _ _ => rfl, fun h h' => by simp [hc h] at h', fun h h' => by simp [ho h] at h', ?_, fun _ => rfl, fun _ _ _ => rfl,
        ⟨s.regs, s.flt, s.outputs, s.free, rfl⟩⟩
      · have hcr : (s.bank.crankHeld || decide (mv < 6000)) = s.bank.crankHeld := by
          by_cases h : mv < 6000 <;> simp [h, hc]
        have hov : (s.bank.ovHeld || decide (36000 < mv)) = s.bank.ovHeld := by
          by_cases h : 36000 < mv <;> simp [h, ho]
        simp only [BankDie.held, hcr, hov]
      · have hno : ((decide (mv < 6000) && !s.bank.crankHeld) || (decide (36000 < mv) && !s.bank.ovHeld)) = false := by
          by_cases h : mv < 6000 <;> by_cases h' : 36000 < mv <;> simp [h, h', hc, ho]
        rw [hno, Bool.and_false]
        exact State.eventFrames.refl s

theorem State.rd_bandShown (s : State) (mv a : Nat) : (s.bandShown mv).rd a =
    if a = BNK_STATUS then BNK_STATUS_vbat_band.put (s.rd BNK_STATUS) s.bandNow else s.rd a :=
  State.rd_setFld _ _ _ _ _

theorem State.bandShown_frame (s : State) (mv : Nat) : ∃ r, s.bandShown mv = { s with regs := r, bank := { s.bank with
    crankTimer := decide (6000 ≤ mv) && s.bank.crankHeld, ovTimer := s.bank.ovHeld && decide (mv ≤ 35000) } } := ⟨_, rfl⟩

theorem State.fld_bandShown_band (s : State) (mv : Nat) : (s.bandShown mv).fld BNK_STATUS BNK_STATUS_vbat_band = s.bandNow := by
  have hlt : s.bandNow < 4 := by
    unfold State.bandNow
    split_ifs <;> decide
  rw [State.fld, State.rd_bandShown, if_pos rfl, Fld.get_put _ _ _ (by decide) (by decide)]
  exact Nat.mod_eq_of_lt hlt

theorem State.fld_bandShown_other (s : State) (mv : Nat) {f : Fld}
    (hf : f ∈ [BNK_STATUS_link_err, BNK_STATUS_sum_limit, BNK_STATUS_sleep_declined]) :
    (s.bandShown mv).fld BNK_STATUS f = s.fld BNK_STATUS f := by
  rw [State.fld, State.rd_bandShown, if_pos rfl]
  simp only [List.mem_cons, List.not_mem_nil, or_false] at hf
  rcases hf with rfl | rfl | rfl <;> exact Fld.get_put_ne _ _ _ _ (by decide) (by decide) (by decide) (by decide)

theorem vbat_not_mem_htrStatus : BNK_VBAT ∉ htrStatus ∧ BNK_STATUS ∉ htrStatus := by decide

/-- The end of a band that the bank die shows (R72, R390). -/
theorem State.bandEnd_spec (s : State) (b : BankDie) {c : Nat} (hc : bankEvent c = true) (hlt : c < 0x1100) (band : Nat) (hband : band < 4) :
    let t := ((s.setBank b).setBand band).raise c 0
    t.bank = b ∧ t.fld BNK_STATUS BNK_STATUS_vbat_band = band ∧ s.bankPosts t c 0 noInst ∧ s.onlyRegs t [BNK_STATUS] ∧ s.bankFrame t := by
  have hrd : ∀ a, ((s.setBank b).setBand band).rd a = if a = BNK_STATUS then BNK_STATUS_vbat_band.put (s.rd BNK_STATUS) band else s.rd a :=
    fun a => State.rd_setFld _ _ _ _ _
  obtain ⟨r, e⟩ : ∃ r, (s.setBank b).setBand band = { s with regs := r, bank := b } := ⟨_, rfl⟩
  generalize (s.setBank b).setBand band = w at hrd e ⊢
  have hframe := w.raise_frame c 0 noInst 0 hlt
  have hposts := w.bankPosts_raise (k := 0) hc (by decide) noInst 0
  have hbank := w.raise_bank c noInst 0 (k := 0) (by decide)
  dsimp only
  generalize w.raise c 0 = t at hframe hposts hbank ⊢
  have hrun : w.running = s.running := by rw [e]; rfl
  refine ⟨by rw [hbank, e], ?_, ⟨State.posts_congr (t := w) hrun (by rw [e]) hposts.1,
    State.eventFrames_congr (t := w) (by rw [e]) (by rw [e]) (hrun ▸ hposts.2)⟩, fun a ha hl => ?_, ?_⟩
  · rw [State.fld, hframe.rd _ (by decide), hrd, if_pos rfl, Fld.get_put _ _ _ (by decide) (by decide)]
    exact Nat.mod_eq_of_lt hband
  · rw [hframe.rd a (isSrcLost_eq_false.2 hl), hrd, if_neg (fun h => ha (List.mem_singleton.2 h))]
  · obtain ⟨f, r', e'⟩ := hframe.eq
    exact State.bankFrame_iff.2 ⟨r', f, t.bank, t.outputs, t.free, by rw [e', e]⟩

/-- The reading taken and timed, against the state before it. -/
structure VbatRead (s w : State) (mv : Nat) : Prop where
  rd : ∀ a, w.rd a = (s.vbatLoaded mv).rd a
  bank : w.bank = { s.bank with
    minValid := true, lowTimer := decide (mv < 3500), brownTimer := decide (s.bank.seq = .brownWait ∧ 6000 ≤ mv)
    rideEnd := (if mv < 4500 then some (s.bank.rideEnd.getD (s.elapsed + 1000000 * s.fld BNK_SUP_CFG BNK_SUP_CFG_ride_ms)) else none)
    heaters := w.bank.heaters }
  heater : ∀ n < 12, w.heater n = s.paid n
  eq : ∃ r b, w = { s with regs := r, pins := { s.pins with vbat := mv }, bank := b }

theorem State.vbatRead_of_loaded {s v : State} {mv : Nat} (hrd : ∀ a, v.rd a = (s.vbatLoaded mv).rd a)
    (hbank : v.bank = { s.bank with heaters := v.bank.heaters }) (hh : ∀ n < 12, v.heater n = s.paid n)
    (e : ∃ r b, v = { s with regs := r, pins := { s.pins with vbat := mv }, bank := b }) : VbatRead s (v.vbatTimed mv) mv := by
  have hride : v.fld BNK_SUP_CFG BNK_SUP_CFG_ride_ms = s.fld BNK_SUP_CFG BNK_SUP_CFG_ride_ms := by
    rw [State.fld, hrd, State.rd_vbatLoaded, if_neg (by decide), ← State.fld]
  obtain ⟨r, b, e⟩ := e
  have hel : v.elapsed = s.elapsed := by rw [e]
  refine ⟨hrd, ?_, hh, ?_⟩
  · rw [State.vbatTimed_frame, hride, hel]
    dsimp only
    rw [hbank]
  · rw [State.vbatTimed_frame, e]
    exact ⟨r, _, rfl⟩

theorem State.vbatRead (s : State) (mv : Nat) : VbatRead s ((s.vbatLoaded mv).vbatTimed mv) mv := by
  obtain ⟨r, e⟩ := s.vbatLoaded_frame mv
  exact State.vbatRead_of_loaded (fun _ => rfl) (s.vbatLoaded_bank mv) (fun n hn => s.heater_vbatLoaded mv hn) ⟨r, _, e⟩

section
variable {w u : State} {mv : Nat} (hw : VbatRead s w mv) (hu : BandStep w u mv)
include hw hu

theorem State.rd_bandShown_of_ne {a : Nat} (h : a ∉ htrStatus) (hs : a ≠ BNK_STATUS) (hl : isSrcLost a = false) :
    (u.bandShown mv).rd a = (s.vbatLoaded mv).rd a := by
  rw [State.rd_bandShown, if_neg hs, hu.rd a h hl, hw.rd]

theorem State.fld_bandShown_vbat : (u.bandShown mv).fld BNK_VBAT BNK_VBAT_mv = min mv 65535 ∧
    (u.bandShown mv).fld BNK_VBAT BNK_VBAT_min_mv =
      min (if s.bank.minValid then min (s.fld BNK_VBAT BNK_VBAT_min_mv) mv else mv) 65535 := by
  have hmod : ∀ x : Nat, min x 65535 % 2 ^ 16 = min x 65535 := fun x => Nat.mod_eq_of_lt (by omega)
  simp only [State.fld, State.rd_bandShown_of_ne hw hu vbat_not_mem_htrStatus.1 (by decide) (by decide), State.rd_vbatLoaded, if_true]
  rw [Fld.get_put_ne _ _ _ _ (by decide) (by decide) (by decide) (by decide), Fld.get_put _ _ _ (by decide) (by decide),
    Fld.get_put _ _ _ (by decide) (by decide)]
  exact ⟨hmod _, hmod _⟩

theorem BandStep.held : u.bank.crankHeld = (s.bank.crankHeld || decide (mv < 6000)) ∧ u.bank.ovHeld = (s.bank.ovHeld || decide (36000 < mv)) := by
  have h1 := congrArg BankDie.crankHeld hu.bank
  have h2 := congrArg BankDie.ovHeld hu.bank
  have h3 := congrArg BankDie.crankHeld hw.bank
  have h4 := congrArg BankDie.ovHeld hw.bank
  dsimp only [BankDie.held] at h1 h2 h3 h4
  exact ⟨by rw [h1, h3], by rw [h2, h4]⟩

theorem BandStep.pins : u.pins.vbat = mv := by
  obtain ⟨r, b, e⟩ := hw.eq
  obtain ⟨r', f, o, k, e'⟩ := hu.eq
  rw [e', e]

theorem State.bandShown_bank : (u.bandShown mv).bank = { s.bank with
    minValid := true, lowTimer := decide (mv < 3500), brownTimer := decide (s.bank.seq = .brownWait ∧ 6000 ≤ mv)
    rideEnd := (if mv < 4500 then some (s.bank.rideEnd.getD (s.elapsed + 1000000 * s.fld BNK_SUP_CFG BNK_SUP_CFG_ride_ms)) else none)
    crankHeld := s.bank.crankHeld || decide (mv < 6000), ovHeld := s.bank.ovHeld || decide (36000 < mv)
    crankTimer := decide (6000 ≤ mv) && s.bank.crankHeld
    ovTimer := (s.bank.ovHeld || decide (36000 < mv)) && decide (mv ≤ 35000), heaters := (u.bandShown mv).bank.heaters } := by
  obtain ⟨r, e⟩ := u.bandShown_frame mv
  obtain ⟨hcrank, hover⟩ := BandStep.held hw hu
  have hc : (decide (6000 ≤ mv) && (s.bank.crankHeld || decide (mv < 6000))) = (decide (6000 ≤ mv) && s.bank.crankHeld) := by
    by_cases h : 6000 ≤ mv
    · simp [h, Nat.not_lt.2 h]
    · simp [h]
  rw [e]
  dsimp only
  rw [hcrank, hover, hc, hu.bank, BankDie.held, hw.bank]

theorem State.bandShown_heater {n : Nat} (hn : n < 12) : (u.bandShown mv).heater n = s.paid n := by
  obtain ⟨r, e⟩ := u.bandShown_frame mv
  obtain ⟨r', b, e'⟩ := hw.eq
  have hel : w.elapsed = s.elapsed := by rw [e']
  have hsince : (w.heater n).since = w.elapsed := by rw [hw.heater n hn, hel]; rfl
  have hheater : (u.bandShown mv).heater n = u.heater n := by rw [State.heater, e]; rfl
  rw [hheater, hu.heater n hn hsince, hw.heater n hn]

omit hu in
theorem State.bandShown_entry {c : Nat} (h : w.posts u c 2 noInst ∧ u.heatersZero) :
    s.posts (u.bandShown mv) c 2 noInst ∧ (u.bandShown mv).heatersZero := by
  obtain ⟨hposts, hzero⟩ := h
  obtain ⟨r, e⟩ := u.bandShown_frame mv
  obtain ⟨r', b, e'⟩ := hw.eq
  refine ⟨?_, fun n hn => ?_⟩
  · have h := State.posts_congr (s := s) (t := w) (by rw [e']; rfl) (by rw [e']) hposts
    rw [State.posts, e]
    exact h
  · rw [State.fld, State.rd_bandShown, if_neg (fun h => vbat_not_mem_htrStatus.2 (mem_htrStatus.2 ⟨n, hn, h⟩))]
    exact hzero n hn

theorem State.bandShown_frames : s.eventFrames (u.bandShown mv)
    (boolNat (s.running && ((decide (mv < 6000) && !s.bank.crankHeld) || (decide (36000 < mv) && !s.bank.ovHeld)))) := by
  obtain ⟨r, e⟩ := u.bandShown_frame mv
  obtain ⟨r', b, e'⟩ := hw.eq
  have hrun : w.running = s.running := by rw [e']; rfl
  have hcrank : w.bank.crankHeld = s.bank.crankHeld := by rw [hw.bank]
  have hover : w.bank.ovHeld = s.bank.ovHeld := by rw [hw.bank]
  have h := State.eventFrames_congr (s := s) (by rw [e']) (by rw [e']) hu.frames
  rw [hrun, hcrank, hover] at h
  rw [State.eventFrames, e]
  exact h

theorem State.bandShown_same (h : ((decide (mv < 6000) && !s.bank.crankHeld) || (decide (36000 < mv) && !s.bank.ovHeld)) = false) :
    (u.bandShown mv).flt = s.flt ∧ s.onlyRegs (u.bandShown mv) [BNK_VBAT, BNK_STATUS] := by
  obtain ⟨r, e⟩ := u.bandShown_frame mv
  obtain ⟨r', b, e'⟩ := hw.eq
  have hcrank : w.bank.crankHeld = s.bank.crankHeld := by rw [hw.bank]
  have hover : w.bank.ovHeld = s.bank.ovHeld := by rw [hw.bank]
  have hsame := hu.same (by rw [hcrank, hover]; exact h)
  refine ⟨by rw [e, hsame, e'], fun a ha _ => ?_⟩
  simp only [List.mem_cons, List.not_mem_nil, or_false, not_or] at ha
  rw [State.rd_bandShown, if_neg ha.2, hsame, hw.rd, State.rd_vbatLoaded, if_neg ha.1]

theorem State.bandShown_onlyRegs : s.onlyRegs (u.bandShown mv) (BNK_VBAT :: BNK_STATUS :: htrStatus) := by
  intro a ha hl
  simp only [List.mem_cons, not_or] at ha
  obtain ⟨h1, h2, h3⟩ := ha
  rw [State.rd_bandShown_of_ne hw hu h3 h2 (isSrcLost_eq_false.2 hl), State.rd_vbatLoaded, if_neg h1]

theorem State.bandShown_eq : u.bandShown mv = { s with
    regs := (u.bandShown mv).regs, flt := (u.bandShown mv).flt, bank := (u.bandShown mv).bank, outputs := (u.bandShown mv).outputs
    free := (u.bandShown mv).free, pins := { s.pins with vbat := mv } } := by
  obtain ⟨r, e⟩ := u.bandShown_frame mv
  obtain ⟨r', b, e'⟩ := hw.eq
  obtain ⟨r2, f, o, k, e2⟩ := hu.eq
  rw [e]
  rw [e'] at e2
  rw [e2]

theorem State.bandShown_status : (u.bandShown mv).fld BNK_STATUS BNK_STATUS_vbat_band =
      (if mv < 4500 then 2 else if mv < 6000 then 1 else if s.bank.ovHeld || decide (36000 < mv) then 3
        else if s.bank.crankHeld || decide (mv < 6000) then 1 else 0) ∧
    ∀ f ∈ [BNK_STATUS_link_err, BNK_STATUS_sum_limit, BNK_STATUS_sleep_declined], (u.bandShown mv).fld BNK_STATUS f = s.fld BNK_STATUS f := by
  obtain ⟨hcrank, hover⟩ := BandStep.held hw hu
  refine ⟨?_, fun f hf => ?_⟩
  · rw [State.fld_bandShown_band, State.bandNow, BandStep.pins hw hu, hcrank, hover]
  · rw [State.fld_bandShown_other u mv hf, State.fld, hu.rd _ vbat_not_mem_htrStatus.2 (by decide), hw.rd, State.rd_vbatLoaded,
      if_neg (by decide)]
    rfl

end

/-- Settles O5: a reading loads the registers, sets the timers, enters its bands and shows the band; an end shows the band left. -/
theorem vbatSupervision : Obligations.VbatSupervision := by
  unfold Obligations.VbatSupervision
  intro s
  refine ⟨fun mv h => ⟨s.vbatSample mv, rfl, if_pos h⟩, fun mv h => ?_, fun h => ⟨s.crankingEnd, rfl, ?_⟩,
    fun h => ⟨s.crankingEnd, rfl, ?_⟩, fun h => ⟨s.overvoltageExit, rfl, ?_⟩, fun h => ⟨s.overvoltageExit, rfl, ?_⟩⟩
  · refine ⟨s.vbatReading mv, ?_, ?_⟩
    · exact congrArg Host.Outcome.next (if_neg h)
    · rw [State.vbatReading_eq, State.vbatTaken_eq]
      have hw := s.vbatRead mv
      generalize (s.vbatLoaded mv).vbatTimed mv = w at hw ⊢
      have hu := w.bandsEntered_step mv
      generalize w.bandsEntered mv = u at hu ⊢
      obtain ⟨hmv, hmin⟩ := State.fld_bandShown_vbat hw hu
      obtain ⟨hband, hother⟩ := State.bandShown_status hw hu
      have hcrank : w.bank.crankHeld = s.bank.crankHeld := by rw [hw.bank]
      have hover : w.bank.ovHeld = s.bank.ovHeld := by rw [hw.bank]
      exact ⟨hmv, hmin, hband, hother, State.bandShown_bank hw hu, fun n hn => State.bandShown_heater hw hu hn,
        fun h1 h2 => State.bandShown_entry hw (hu.crank h1 (hcrank.trans h2)),
        fun h1 h2 => State.bandShown_entry hw (hu.high h1 (hover.trans h2)), State.bandShown_frames hw hu,
        State.bandShown_same hw hu, State.bandShown_onlyRegs hw hu, State.bandShown_eq hw hu⟩
  · have hend := s.bandEnd_spec { s.bank with crankHeld := false, crankTimer := false } (c := 0x0E02) (by decide) (by decide)
      (if s.pins.vbat < 4500 then 2 else if s.pins.vbat < 6000 then 1 else if s.bank.ovHeld then 3 else 0) (by split_ifs <;> decide)
    rw [State.crankingEnd, if_pos h]
    exact hend
  · rw [State.crankingEnd, if_neg (by simp [h])]
  · have hend := s.bandEnd_spec { s.bank with ovHeld := false, ovTimer := false } (c := 0x0E04) (by decide) (by decide)
      (if s.pins.vbat < 4500 then 2 else if s.pins.vbat < 6000 then 1 else if s.bank.crankHeld then 1 else 0) (by split_ifs <;> decide)
    rw [State.overvoltageExit, if_pos h]
    exact hend
  · rw [State.overvoltageExit, if_neg (by simp [h])]

end Sys2Proof.Machine

/-! The heater budget (R399, R401) and a decaying duty that its register cannot hold. -/

namespace Sys2Proof.Machine

-- The kernel evaluates the counterexample; one declaration after another, so that no evaluation waits for memory of others.
set_option Elab.async false

/-- Channel 0 is enabled and decays from a duty of 1,024, one above what a duty field holds; the budget allows it. -/
def decayFrom1024 : State :=
  { State.reset with
    regs := [(BNK_HTR_GLB, 0x400000), (BNK_HTR_CFG 0, 0x400)]
    bank := { State.reset.bank with heaters := [(0, { demanded := true, dec := 1024 })] } }

/-- Its status shows a duty of zero after the period start, and yet its pulse has been measured. -/
theorem pwmPeriod_decayFrom1024 : (decayFrom1024.pwmPeriod [7]).htr 0 BNK_HTR_STATUS_eff_duty = 0 ∧
    (decayFrom1024.pwmPeriod [7]).fld (BNK_HTR_MEAS 0) BNK_HTR_MEAS_i_ma ≠ decayFrom1024.fld (BNK_HTR_MEAS 0) BNK_HTR_MEAS_i_ma := by
  decide +kernel

/-- Refutes O9: a channel whose duty reads back as zero gets a measurement, where the decaying duty in the state is beyond the field's
range. -/
theorem not_heaterBudget : ¬ Obligations.HeaterBudget := by
  unfold Obligations.HeaterBudget
  intro h
  obtain ⟨-, t, ht, -, -, -, hchannel, -⟩ := h decayFrom1024 [7]
  have hnext : decayFrom1024.pwmPeriod [7] = t := Host.Outcome.next.inj ht
  obtain ⟨-, -, -, -, -, -, hmeas⟩ := hchannel 0 (by decide)
  obtain ⟨hduty, hne⟩ := pwmPeriod_decayFrom1024
  rw [← hnext] at hmeas
  have hfirst : ∀ f : Nat → Nat, ((List.range 12).map f).getD 0 0 = f 0 := fun _ => rfl
  rw [hfirst] at hmeas
  exact hne (hmeas.trans (if_pos (.inr hduty)))

end Sys2Proof.Machine

/-! What a loopback has handed back and its port has not received yet (R161): the next row of a port takes it in, also one that the
statements say leaves the state as it is. -/

namespace Sys2Proof.Machine

-- The kernel evaluates the counterexample; one declaration after another, so that no evaluation waits for memory of others.
set_option Elab.async false

/-- A cut frame in near-end loopback at port 0 waits for the port's own receiver; no link is up and nothing is in transfer. -/
def echoWaits : State := { State.reset with sw := { State.reset.sw with echo := [(0, [])] } }

/-- Once it has settled, nothing waits any more. -/
theorem settled_echoWaits : echoWaits.settled ≠ echoWaits := by
  intro h
  have hecho : echoWaits.settled.sw.echo = [] := by decide +kernel
  rw [h] at hecho
  exact absurd hecho (by decide)

/-- Refutes O20: a frame at a port that is down still lets the looped-back one in. -/
theorem not_frameReception : ¬ Obligations.FrameReception := by
  unfold Obligations.FrameReception
  intro h
  obtain ⟨hdown, -⟩ := h echoWaits 1 rfl
  obtain ⟨t, ht, hsame⟩ := hdown [] false (.inr (.inl (by decide +kernel)))
  have hnext : (if echoWaits.loopback 1 then echoWaits else (echoWaits.receive 1 [] false).settled) = t := Host.Outcome.next.inj ht
  have hreceive : (if echoWaits.loopback 1 then echoWaits else (echoWaits.receive 1 [] false).settled) = echoWaits.settled := by
    rw [if_neg (by decide +kernel), State.receive, if_pos (by decide +kernel)]
  exact settled_echoWaits (hreceive.symm.trans (hnext.trans hsame))

/-- Refutes O22: the end of a transfer at an input without one lets the looped-back frame in. -/
theorem not_transfers : ¬ Obligations.Transfers := by
  unfold Obligations.Transfers
  intro h
  obtain ⟨hnone, -⟩ := h echoWaits rfl
  obtain ⟨t, ht, hsame⟩ := hnone 0 rfl
  have hnext : echoWaits.settled = t := Host.Outcome.next.inj ht
  exact settled_echoWaits (hnext.trans hsame)

/-- Refutes O24: the loss of a link that is not up lets the looped-back frame in. -/
theorem not_portLinks : ¬ Obligations.PortLinks := by
  unfold Obligations.PortLinks
  intro h
  obtain ⟨-, hdown, -⟩ := h echoWaits 1
  have hlink : echoWaits.linkUp 1 = false := by decide +kernel
  obtain ⟨t, ht, hsame⟩ := hdown hlink rfl
  have hnext : (echoWaits.linkDown 1).settled = t := Host.Outcome.next.inj ht
  rw [State.linkDown, if_neg (by rw [hlink]; exact Bool.false_ne_true)] at hnext
  exact settled_echoWaits (hnext.trans hsame)

end Sys2Proof.Machine

/-! The aging sweep (R229) and what lies behind the MAC table. -/

namespace Sys2Proof.Machine

-- The kernel evaluates the counterexample; one declaration after another, so that no evaluation waits for memory of others.
set_option Elab.async false

/-- Aging is on with a limit of no sweeps. The MAC table is empty; a word of the trie's root table behind it reads as a dynamic entry
would, were the table twice as long. -/
def rootBehindMacTable : State :=
  { State.reset with mem := [(macAddr 16384 + 7, 0x10)], regs := [(TBL_CTL, 1), (TBL_AGE_CFG, 0)] }

/-- The sweep leaves that word, which is no entry of the table, as it was. -/
theorem sweep_rootBehindMacTable : (rootBehindMacTable.macEntry 16384).kind = 1 ∧
    ((rootBehindMacTable.sweepStart.sweepRun []).macEntry 16384).kind = 1 ∧
    rootBehindMacTable.fld TBL_AGE_CFG TBL_AGE_CFG_age_sweeps = 0 ∧ rootBehindMacTable.fld TBL_CTL TBL_CTL_age_en = 1 := by
  decide +kernel

/-- Refutes O23: the statement has the sweep age 32,768 entries, and the table holds 16,384 (R225); what an index beyond them names
is trie memory, which no sweep touches. -/
theorem not_spillAndLearning : ¬ Obligations.SpillAndLearning := by
  unfold Obligations.SpillAndLearning
  intro h
  obtain ⟨hkind, hkept, hlimit, hage⟩ := sweep_rootBehindMacTable
  obtain ⟨-, -, -, -, -, hsweep, -⟩ := h rootBehindMacTable
  obtain ⟨t, ht, -, -, hentries, -⟩ := hsweep [] (.inr hage)
  have hnext : rootBehindMacTable.sweepStart.sweepRun [] = t := Host.Outcome.next.inj ht
  have hgone := hentries 16384 (by decide) rfl hkind
  rw [hlimit, if_pos (Nat.zero_le _), ← hnext, hkept] at hgone
  exact absurd hgone (by decide)

end Sys2Proof.Machine

/-! The status message of a guard slot (R153) and a frame number that is in use. -/

namespace Sys2Proof.Machine

-- The kernel evaluates the counterexample; one declaration after another, so that no evaluation waits for memory of others.
set_option Elab.async false

/-- Slot 0 is in OK and reports every millisecond towards sp30; the switch holds one frame, and the next frame is to have the same
number. -/
def numberInUse : State :=
  { State.reset with
    sw := { State.reset.sw with frames := [{ id := State.reset.sw.nextId, input := 0, data := [], complete := true }] }
    regs := [(SWC_PORT_CFG 29, 0x121), (SWC_PORT_CFG 30, 0x121), (SWC_BERM_HI 7, 0x40000000),
      (CSG_G_CFG 0, BitVec.ofNat 32 (1 + 30 * 2 ^ 16 + 2 ^ 21)), (CSG_G_MSG 0, 0x10000), (CSG_G_STATE 0, 2)] }

/-- The message finds room: its queue's berm has the cells, and no policer acts. -/
theorem roomFor_numberInUse : numberInUse.roomFor 29 (numberInUse.gMon 0) 7 0 := by decide +kernel

/-- Slot 0 is to send: it is in OK, with a period. -/
theorem sends_numberInUse : numberInUse.gState 0 ≠ 0 ∧ numberInUse.fld (CSG_G_MSG 0) CSG_G_MSG_ok_period_ms ≠ 0 ∧
    numberInUse.gState 0 = 2 ∧ numberInUse.fldB (CSG_G_CFG 0) CSG_G_CFG_act_msg = true := by
  decide +kernel

/-- No policer acts, and the source is not looked up. -/
theorem unpoliced_numberInUse : (numberInUse.pol (numberInUse.fld (TMG_PORT_CLS 29) TMG_PORT_CLS_pol)).en = false ∧
    numberInUse.fld (TBL_PORT_CFG 29) TBL_PORT_CFG_learn_en = 0 ∧
    numberInUse.tooManyCells { input := 29, data := numberInUse.statusFrame 0 } = false := by
  decide +kernel

/-- By its number the earlier frame is still the one that is found. -/
theorem frame_numberInUse :
    ((numberInUse.statusRepeat 0).sendOwed.frame numberInUse.sw.nextId).map (fun f => f.input) = some 0 := by
  decide +kernel

/-- Refutes O32: the statement finds the message by the number that it takes, and another frame may hold this number already. -/
theorem not_streamGuard : ¬ Obligations.StreamGuard := by
  unfold Obligations.StreamGuard
  intro h
  obtain ⟨hst, hperiod, hok, hmsg⟩ := sends_numberInUse
  obtain ⟨hpol, hlearn, hcells⟩ := unpoliced_numberInUse
  obtain ⟨-, -, -, -, -, ⟨-, -, hplaced⟩, -⟩ := h numberInUse 0 rfl
  obtain ⟨t, ht, -, -, hframe, -⟩ :=
    hplaced hst ((if_pos hok).symm ▸ hperiod) hmsg hpol hlearn roomFor_numberInUse hcells
  have hnext : (numberInUse.statusRepeat 0).sendOwed = t := Host.Outcome.next.inj ht
  have hold := frame_numberInUse
  rw [hnext, hframe] at hold
  exact absurd hold (by decide)

end Sys2Proof.Machine

/-! The hand-over of a received CAN record (R198) and a frame number that is in use. -/

namespace Sys2Proof.Machine

-- The kernel evaluates the counterexample; one declaration after another, so that no evaluation waits for memory of others.
set_option Elab.async false

/-- The record that channel 0 has received. -/
def waitingEntry : CanEntry := { no := 0, record := [] }

/-- Channel 0 has one record for a routine; the switch holds one frame, and the next frame is to have the same number. -/
def recordWithNumberInUse : State :=
  { State.reset with
    sw := { State.reset.sw with frames := [{ id := State.reset.sw.nextId, input := 0, data := [], complete := true }] }
    can := { chans := [(0, { rxq0 := [waitingEntry] })] }
    mem := [(0x30480000, 1)]
    regs := [(SYS_POLDER, 0xFFF), (SWC_PORT_CFG 30, 0x121), (SWC_PORT_CFG 28, 0x121), (CAN_AGG_CFG 0, 0), (SWC_BERM_LO 6, 0x40)] }

/-- The aggregator hands that record over, and its binding is found. -/
theorem turn_recordWithNumberInUse : recordWithNumberInUse.aggNext true recordWithNumberInUse.can.rr0 = some (0, waitingEntry) ∧
    recordWithNumberInUse.canBinding 0 waitingEntry.record = some 1 := by
  decide +kernel

/-- Its frame finds room, and no policer acts. -/
theorem room_recordWithNumberInUse :
    (recordWithNumberInUse.pol (recordWithNumberInUse.fld (TMG_PORT_CLS 30) TMG_PORT_CLS_pol)).en = false ∧
    recordWithNumberInUse.roomFor 30 28 (recordWithNumberInUse.fld (CAN_AGG_CFG 0) CAN_AGG_CFG_tc_q0) 0 ∧
    recordWithNumberInUse.tooManyCells { input := 30, data := [] } = false := by
  decide +kernel

/-- By its number the earlier frame is still the one that is found. -/
theorem frame_recordWithNumberInUse :
    (recordWithNumberInUse.aggHandoff.frame recordWithNumberInUse.sw.nextId).map (fun f => f.input) = some 0 := by
  decide +kernel

/-- Refutes O36: the statement finds the record's frame by the number that it takes, and another frame may hold this number
already. -/
theorem not_canReception : ¬ Obligations.CanReception := by
  unfold Obligations.CanReception
  intro h
  obtain ⟨hturn, hbinding⟩ := turn_recordWithNumberInUse
  obtain ⟨hpol, hroom, hcells⟩ := room_recordWithNumberInUse
  obtain ⟨-, -, -, -, hhand, -⟩ := h recordWithNumberInUse 0
  obtain ⟨-, hbound⟩ := hhand false waitingEntry (fun hq => absurd hq (by decide)) hturn
  obtain ⟨t, ht, -, -, -, -, -, hframe, -⟩ := hbound 1 hbinding hpol hroom hcells
  have hnext : recordWithNumberInUse.aggHandoff = t := Host.Outcome.next.inj ht
  have hold := frame_recordWithNumberInUse
  rw [hnext, hframe] at hold
  exact absurd hold (by decide)

end Sys2Proof.Machine

/-! The aggregator's refusal of a record for no channel (R201) while the event queue's buffer is full (R429). -/

namespace Sys2Proof.Machine

-- The kernel evaluates the counterexample; one declaration after another, so that no evaluation waits for memory of others.
set_option Elab.async false

/-- A record for channel 31 is staged for the aggregator; 16 events of the CAN block wait for the event queue. -/
def refusedWithFullBuffer : State :=
  { State.reset with
    sw := { State.reset.sw with staged := [(30, [{ id := 0, input := 28, data := [31] }])] }
    flt := { State.reset.flt with
      post := [(9, List.replicate 16 { code := 0x0901, cls := 3, inst := 0, detail := 0, ts := 0 })] } }

/-- The posting that finds no room counts in a register. -/
theorem lost_refusedWithFullBuffer : refusedWithFullBuffer.aggTx.rd (FLT_SRC_LOST 9) = 1 ∧
    refusedWithFullBuffer.rd (FLT_SRC_LOST 9) = 0 := by
  decide +kernel

/-- Refutes O37: the statement has a record for no channel change no register, and its event counts as lost where the CAN block's
buffer is full. -/
theorem not_canTransmission : ¬ Obligations.CanTransmission := by
  unfold Obligations.CanTransmission
  intro h
  obtain ⟨-, hstaged, -⟩ := h refusedWithFullBuffer 0
  obtain ⟨hnobody, -⟩ := hstaged { id := 0, input := 28, data := [31] } [] rfl
  obtain ⟨t, ht, hkeeps⟩ := hnobody (by decide)
  have hnext : refusedWithFullBuffer.aggTx = t := Host.Outcome.next.inj ht
  obtain ⟨hlost, hzero⟩ := lost_refusedWithFullBuffer
  have hrd : t.rd (FLT_SRC_LOST 9) = refusedWithFullBuffer.rd (FLT_SRC_LOST 9) := by rw [hkeeps]; rfl
  rw [← hnext, hlost, hzero] at hrd
  exact absurd hrd (by decide)

end Sys2Proof.Machine

/-! An emit to the host port (R261, R270) and a frame number that is in use. -/

namespace Sys2Proof.Machine

-- The kernel evaluates the counterexample; one declaration after another, so that no evaluation waits for memory of others.
set_option Elab.async false

/-- Routine 0 of core 0 stands at a DONE, with an emit of no bytes towards sp30 buffered. -/
def emitAtDone : Invocation :=
  { ev := { kind := 3, routine := 0 }, pc := 0, regs := Vector.replicate 32 0, left := 1
    emits := [leBytes 4 (2 + 4 * (0 : Fin 8).val) ++ leBytes 4 0 ++ []] }

/-- The switch holds one frame, and the next frame is to have the same number. -/
def emitWithNumberInUse : State :=
  { State.reset with
    sw := { State.reset.sw with frames := [{ id := State.reset.sw.nextId, input := 0, data := [], complete := true }] }
    kpr := { State.reset.kpr with run := [(0, emitAtDone)] }
    plc := { State.reset.plc with prog := { State.reset.plc.prog with routines := [{ code := [0, 0, 0, 0xFC] }] } }
    mem := [(0x50000003, 0xFC)]
    regs := [(SYS_POLDER, 0xFFF), (SWC_PORT_CFG 30, 0x121), (SWC_PORT_CFG 28, 0x121), (SWC_BERM_LO 7, 0x40)] }

/-- Core 0 stands at the word of DONE, and its emit has room in the outbound buffer. -/
theorem ready_emitWithNumberInUse : emitWithNumberInUse.kReady 0 emitAtDone (fmtR 0x3F 0 0 0 0) 1 ∧
    emitWithNumberInUse.outboundRoom (0 : Fin 64).val emitAtDone = true := by
  decide +kernel

/-- The emit's frame finds room, and no policer acts. -/
theorem room_emitWithNumberInUse :
    (emitWithNumberInUse.pol (emitWithNumberInUse.fld (TMG_PORT_CLS 28) TMG_PORT_CLS_pol)).en = false ∧
    emitWithNumberInUse.roomFor 28 30 (0 : Fin 8).val 0 ∧
    emitWithNumberInUse.tooManyCells { input := 28, data := [] } = false := by
  decide +kernel

/-- By its number the earlier frame is still the one that is found. -/
theorem frame_emitWithNumberInUse :
    ((emitWithNumberInUse.kRun 0 .done).frame emitWithNumberInUse.sw.nextId).map (fun f => f.input) = some 0 := by
  decide +kernel

/-- Refutes O43: the statement finds the emit's frame by the number that it takes, and another frame may hold this number
already. -/
theorem not_keeperSystem : ¬ Obligations.KeeperSystem := by
  unfold Obligations.KeeperSystem
  intro h
  obtain ⟨hready, hout⟩ := ready_emitWithNumberInUse
  obtain ⟨hpol, hroom, hcells⟩ := room_emitWithNumberInUse
  obtain ⟨-, -, -, -, -, -, -, -, hemit, -⟩ := h emitWithNumberInUse 0 emitAtDone 0
  obtain ⟨t, ht, -, -, -, hframe, -⟩ := hemit [] 0 hready rfl rfl rfl rfl hout hpol hroom hcells
  have hnext : emitWithNumberInUse.kRun 0 .done = t := Host.Outcome.next.inj ht
  have hold := frame_emitWithNumberInUse
  rw [hnext, hframe] at hold
  exact absurd hold (by decide)

end Sys2Proof.Machine

/-! The last migration of a batch (R293) and the keeper polders that it leaves unused (R452). -/

namespace Sys2Proof.Machine

-- The kernel evaluates the counterexample; one declaration after another, so that no evaluation waits for memory of others.
set_option Elab.async false

/-- The mobile routine 0 is about to leave for another device. A frame with a CAN record waits for the keepers, whose polders
may go off once no routine is left; the next program is to follow. -/
def lastRoutineLeaves : State :=
  { State.reset with
    plc := { State.reset.plc with batch := [{ routine := 0, target := 0, away := some 1 }], trigger := [.program {} [] false] }
    sw := { State.reset.sw with
      frames := [{ id := 0, input := 30, data := [], canEntry := some (0, 0), complete := true, dest := [28], residue := [28] }]
      queues := [(qIndex 30 28 0, [0])] }
    can := { chans := [(0, { rxq0 := [waitingEntry] })] }
    regs := [(SYS_POLDER, 0x60060)] }

/-- The record is taken from its channel: its frame is dropped as the keepers' port stops. -/
theorem can_lastRoutineLeaves : ((lastRoutineLeaves.migrate 0).chan 0).rxq0 = [] := by decide +kernel

/-- Refutes O45: the statement has a migration leave the CAN channels as they are; the last one of a batch may put the keeper polders
off, and frames with CAN records that wait for the keepers are dropped and acknowledged then. -/
theorem not_placement : ¬ Obligations.Placement := by
  unfold Obligations.Placement
  intro h
  obtain ⟨-, -, -, -, -, hmove, -⟩ := h lastRoutineLeaves
  obtain ⟨-, hidle⟩ := hmove 0 { routine := 0, target := 0, away := some 1 } [] rfl
  obtain ⟨t, ht, -, -, -, -, -, -, -, -, -, -, -, -, hcan⟩ := hidle rfl (by decide)
  have hnext : lastRoutineLeaves.migrate 0 = t := Host.Outcome.next.inj ht
  have hfreed := can_lastRoutineLeaves
  rw [hnext, State.chan, hcan] at hfreed
  exact absurd hfreed (by decide)

end Sys2Proof.Machine

/-! The length of a wrapped key (R345) and the field that shows it. -/

namespace Sys2Proof.Machine

-- The kernel evaluates the counterexample; one declaration after another, so that no evaluation waits for memory of others.
set_option Elab.async false

theorem length_xorBytes (a b : List Byte) : (xorBytes a b).length = min a.length b.length := by
  fun_induction xorBytes a b with
  | case1 x xs y ys ih => simp [ih]
  | case2 xs ys hnot =>
    cases xs with
    | nil => simp
    | cons x xs => cases ys with
      | nil => simp
      | cons y ys => exact absurd rfl (hnot x xs y ys rfl)

/-- A key under which a block keeps its length: its last round key is a block long. -/
def WholeBlocks (kek : List Byte) : Prop := ((roundKeys kek).tail.getLastD []).length = 16

theorem length_aesEnc {kek : List Byte} (hk : WholeBlocks kek) (block : List Byte) : (aesEnc kek block).length = 16 := by
  unfold WholeBlocks at hk
  unfold aesEnc
  cases h : roundKeys kek with
  | nil => simp [h] at hk
  | cons k ks =>
    rw [h, List.tail_cons] at hk
    simp only [length_xorBytes, hk, shiftRows, List.length_map, List.length_range, Nat.min_self]

/-- One step of the wrapping, on the check block and the blocks of the key. -/
def wrapStep (kek : List Byte) (n : Nat) (acc : List Byte × List (List Byte)) (t : Nat) : List Byte × List (List Byte) :=
  let b := aesEnc kek (acc.1 ++ acc.2.getD (t % n) [])
  (beBytes 8 (Nat.xor (beNat (b.take 8)) (t + 1)), acc.2.set (t % n) (b.drop 8))

/-- So many blocks of eight bytes, and a check block. -/
def BlocksOfEight (n : Nat) (acc : List Byte × List (List Byte)) : Prop :=
  acc.1.length = 8 ∧ acc.2.length = n ∧ ∀ b ∈ acc.2, b.length = 8

theorem length_leBytes (n v : Nat) : (leBytes n v).length = n := by
  induction n generalizing v with
  | zero => rfl
  | succ n ih => simp [leBytes, ih]

theorem length_beBytes (n v : Nat) : (beBytes n v).length = n := by
  rw [beBytes, List.length_reverse, length_leBytes]

theorem wrapStep_blocksOfEight {kek : List Byte} (hk : WholeBlocks kek) {n : Nat} {acc : List Byte × List (List Byte)}
    (h : BlocksOfEight n acc) (t : Nat) : BlocksOfEight n (wrapStep kek n acc t) := by
  obtain ⟨-, hn, hall⟩ := h
  refine ⟨length_beBytes _ _, (List.length_set ..).trans hn, fun b hb => ?_⟩
  cases List.mem_or_eq_of_mem_set hb with
  | inl hold => exact hall b hold
  | inr hnew => rw [hnew, List.length_drop, length_aesEnc hk]

theorem foldl_wrapStep_blocksOfEight {kek : List Byte} (hk : WholeBlocks kek) {n : Nat} (l : List Nat)
    {acc : List Byte × List (List Byte)} (h : BlocksOfEight n acc) : BlocksOfEight n (l.foldl (wrapStep kek n) acc) := by
  induction l generalizing acc with
  | nil => exact h
  | cons t l ih => exact ih (wrapStep_blocksOfEight hk h t)

/-- A wrapped key is eight bytes longer than its blocks. -/
theorem length_kwWrap {kek : List Byte} (hk : WholeBlocks kek) (pt : List Byte) :
    (kwWrap kek pt).length = 8 + pt.length / 8 * 8 := by
  have hfirst : BlocksOfEight (pt.length / 8) (beBytes 8 kwIv, (List.range (pt.length / 8)).map (fun i => slice (8 * i) 8 pt)) := by
    refine ⟨length_beBytes _ _, by rw [List.length_map, List.length_range], fun b hb => ?_⟩
    obtain ⟨i, hi, rfl⟩ := List.mem_map.mp hb
    have := List.mem_range.mp hi
    rw [slice, List.length_take, List.length_drop]
    omega
  obtain ⟨hcheck, hn, hall⟩ := foldl_wrapStep_blocksOfEight hk (List.range (6 * (pt.length / 8))) hfirst
  have hwrap : kwWrap kek pt = ((List.range (6 * (pt.length / 8))).foldl (wrapStep kek (pt.length / 8))
      (beBytes 8 kwIv, (List.range (pt.length / 8)).map (fun i => slice (8 * i) 8 pt))).1 ++
      ((List.range (6 * (pt.length / 8))).foldl (wrapStep kek (pt.length / 8))
      (beBytes 8 kwIv, (List.range (pt.length / 8)).map (fun i => slice (8 * i) 8 pt))).2.flatten := rfl
  rw [hwrap, List.length_append, hcheck, List.length_flatten, List.map_eq_replicate_iff.mpr hall, List.sum_replicate, hn,
    smul_eq_mul]

/-- A WRAP of 112 bytes of key is in progress. -/
def longKeyWrapped : KopOp :=
  { op := 2, dst := 0, src := 0, kek := 0, attr := 0, data := [], srcKey := List.replicate 112 0, srcAttr := 0
    kekKey := List.replicate 16 0 }

def longWrap : State := { State.reset with sec := { State.reset.sec with kop := some longKeyWrapped } }

theorem wholeBlocks_longKeyWrapped : WholeBlocks longKeyWrapped.kekKey := by
  unfold WholeBlocks
  decide +kernel

/-- Refutes O49: the statement has out_len show the length of every wrapped key, and a wrapped key of 128 bytes or more does not go
into its seven bits. -/
theorem not_keyOperations : ¬ Obligations.KeyOperations := by
  unfold Obligations.KeyOperations
  intro h
  obtain ⟨-, hkop, -⟩ := h longWrap
  obtain ⟨-, hwrap, -⟩ := hkop longKeyWrapped rfl rfl
  obtain ⟨t, -, ⟨-, -, hlen, -⟩, -⟩ := hwrap rfl
  have hfits : t.fld SEC_KOP_STATUS SEC_KOP_STATUS_out_len < 2 ^ 7 := Nat.mod_lt _ (by decide)
  rw [hlen, length_kwWrap wholeBlocks_longKeyWrapped] at hfits
  simp [longKeyWrapped, length_leBytes] at hfits

end Sys2Proof.Machine

/-! A profile switch in reduced operation (R80, R449) whose bank settings ask for sleep (R392). -/

namespace Sys2Proof.Machine

-- The kernel evaluates the counterexample; one declaration after another, so that no evaluation waits for memory of others.
set_option Elab.async false

/-- A bundle whose tables write the sleep request of BNK_CTL. -/
def sleepBundle : Bundle := { tables := [.reg BNK_CTL 2] }

/-- The switch to it has been written and ends now. -/
def sleepSwitch : Switching := { slot := 0, bundle := sleepBundle, command := false, instant := 0, ports := [], written := true }

/-- Reduced operation, with one event of block 1 raised before. -/
def switchToSleep : State :=
  { State.reset with
    bank := { State.reset.bank with reduced := true }
    mram := { State.reset.mram with journal0 := { rec_ := { state := 2 }, good := true } }
    wrd := { State.reset.wrd with switching := some sleepSwitch }
    flt := { State.reset.flt with post := [(1, [{ code := 0x0101, cls := 0, inst := 0, detail := 0, ts := 0 }])] } }

/-- The logic die is lost in between, and the event with it: what the end of the switch raises is the only one. -/
theorem posts_switchToSleep : (tget [] switchToSleep.switchInstant.flt.post (0x0108 / 256)).length = 1 := by decide +kernel

/-- Refutes O52: the statement has the end of a switch raise 0x0108 behind the events raised before, and the bank settings of the new
profile may take the device into sleep, where these are lost. -/
theorem not_deviceCommands : ¬ Obligations.DeviceCommands := by
  unfold Obligations.DeviceCommands
  intro h
  obtain ⟨-, -, -, -, -, -, hswitch, -⟩ := h switchToSleep
  obtain ⟨-, -, -, -, -, hends, -⟩ := hswitch sleepSwitch rfl
  obtain ⟨t, ht, -, -, -, -, -, -, htells, -⟩ := hends rfl rfl rfl rfl (by decide)
  have hnext : switchToSleep.switchInstant = t := Host.Outcome.next.inj ht
  obtain ⟨p, hp, -⟩ := htells rfl (by decide)
  have hlen : (tget [] switchToSleep.flt.post (0x0108 / 256)).length = 1 := rfl
  rw [List.drop_eq_nil_of_le (by rw [hlen, ← hnext, posts_switchToSleep])] at hp
  exact List.not_mem_nil hp

end Sys2Proof.Machine

/-! A PCIe link that changes and the function-level reset (R64, R333); recovery contexts (R141, R142). -/

namespace Sys2Proof.Machine

/-- An event that is neither fatal nor the bank die's changes the event queue's buffers and a lost-posting counter alone. -/
theorem State.raise_regFrame (s : State) {c k : Nat} (i d : Nat) (hc : c < 0x1100) (hk : k < 7) (hb : bankEvent c = false) :
    s.regFrame (s.raise c k i d) := by
  obtain ⟨⟨f, r, he⟩, -⟩ := s.raise_frame c k i d hc
  have hl := s.raise_link c k i d hc hk hb
  rw [hl.bank, hl.outputs, hl.free] at he
  rw [State.regFrame]
  generalize s.raise c k i d = u at he ⊢
  rw [he]

/-- The same with what comes before: a change that keeps what an event reads, then the event. -/
theorem State.raised {s u : State} (hrun : u.running = s.running) (hflt : u.flt = s.flt) {l : List Nat} (hregs : s.onlyRegs u l)
    {c k : Nat} (i d : Nat) (hc : c < 0x1100) (hk : k < 7) (hb : bankEvent c = false) :
    s.posts (u.raise c k i d) c k (i % 4096) ∧ s.onlyRegs (u.raise c k i d) l ∧ u.regFrame (u.raise c k i d) :=
  ⟨State.posts_congr hrun hflt (u.posts_raise c k i d),
    fun a hl ha => ((u.raise_frame c k i d hc).onlyRegs l a hl ha).trans (hregs a hl ha), u.raise_regFrame i d hc hk hb⟩

theorem State.onlyRegs.refl (s : State) (l : List Nat) : s.onlyRegs s l := fun _ _ _ => rfl

/-! The PCIe link -/

section
variable {s : State} {up : Bool}

theorem State.pcieLink_of_change (hrun : s.running = true) (htrain : s.dev.pcieTrain = true) (hup : s.dev.pcieUp ≠ up) :
    s.pcieLink up = { s with dev := { s.dev with pcieUp := up } }.raise (if up then 0x0A30 else 0x0A31) (if up then 0 else 3) := by
  simp [State.pcieLink, hrun, htrain, hup]

theorem State.pcieLink_of_no_change (h : s.running = false ∨ s.dev.pcieTrain = false ∨ s.dev.pcieUp = up) : s.pcieLink up = s := by
  rcases h with h | h | h <;> simp [State.pcieLink, h]

/-- The registers that a function-level reset returns to their reset values: the aperture and MSI-X registers (R333). -/
def isFunctionReg (a : Nat) : Bool :=
  decide (0x200C0500 ≤ a ∧ a < 0x200C0520) || decide (0x200C4000 ≤ a ∧ a < 0x200C4080) || a == FAB_PBA

theorem isFunctionReg_iff (a : Nat) :
    isFunctionReg a = true ↔ 0x200C0500 ≤ a ∧ a < 0x200C0520 ∨ 0x200C4000 ≤ a ∧ a < 0x200C4080 ∨ a = FAB_PBA := by
  simp [isFunctionReg, or_assoc]

theorem State.rd_functionReset (s : State) (a : Nat) :
    s.functionReset.rd a = if isFunctionReg a = true then regDefault a else s.rd a := by
  have h : s.functionReset.rd a = if (!isFunctionReg a) = true then s.rd a else regDefault a :=
    tget_filter (regDefault a) (fun k => !isFunctionReg k) s.regs a
  rw [h]
  cases isFunctionReg a <;> rfl

/-- Settles O16: the link change is one event beside the link's state, and the reset drops the listed registers from the table, in
which an unlisted register reads its reset value. -/
theorem pcieLink : Obligations.PcieLink := by
  unfold Obligations.PcieLink
  intro s
  refine ⟨fun up hrun htrain hup => ⟨s.pcieLink up, rfl, ?_⟩, fun up h => ⟨s, ?_, rfl⟩, ⟨s.functionReset, rfl, rfl, fun a ha => ?_, fun a ha => ?_⟩⟩
  · rw [State.pcieLink_of_change hrun htrain hup]
    obtain ⟨hposts, honly, hframe⟩ := State.raised (s := s) (u := { s with dev := { s.dev with pcieUp := up } }) rfl rfl
      (State.onlyRegs.refl s []) (c := if up then 0x0A30 else 0x0A31) (k := if up then 0 else 3) noInst 0
      (by cases up <;> decide) (by cases up <;> decide) (by cases up <;> decide)
    exact ⟨hposts, honly, hframe⟩
  · exact congrArg Host.Outcome.next (State.pcieLink_of_no_change h)
  · exact (s.rd_functionReset a).trans (if_pos ((isFunctionReg_iff a).2 ha))
  · exact (s.rd_functionReset a).trans (if_neg (fun h => ha ((isFunctionReg_iff a).1 h)))

end

/-! Recovery contexts -/

section
variable {s : State}

theorem State.seen_fldB (s : State) (m : Master) (a : Nat) (f : Fld) : (s.seen m).fldB a f = s.fldB a f := by
  simp [State.fldB]

theorem State.frer_setFrer (s : State) (c : Nat) (x : FrerCtx) (k : Nat) : (s.setFrer c x).frer k = if k = c then x else s.frer k :=
  tget_tset (α := FrerCtx) {} {} _ _ _ _ (fun _ => rfl)

theorem State.frer_setFrer_self (s : State) (c : Nat) (x : FrerCtx) : (s.setFrer c x).frer c = x := by
  rw [State.frer_setFrer, if_pos rfl]

theorem State.frer_setFrer_ne (s : State) {c k : Nat} (x : FrerCtx) (h : k ≠ c) : (s.setFrer c x).frer k = s.frer k := by
  rw [State.frer_setFrer, if_neg h]

/-- What an event leaves of a context that was set before it. -/
theorem State.setFrer_raise (s : State) (c : Nat) (x : FrerCtx) {code k : Nat} (i : Nat) (hc : code < 0x1100) (hk : k < 7)
    (hb : bankEvent code = false) :
    ((s.setFrer c x).raise code k i).frer c = x ∧ (∀ j, j ≠ c → ((s.setFrer c x).raise code k i).frer j = s.frer j) ∧
      s.posts ((s.setFrer c x).raise code k i) code k (i % 4096) ∧ s.onlyRegs ((s.setFrer c x).raise code k i) [] ∧
      (s.setFrer c x).raise code k i = { s with
        regs := ((s.setFrer c x).raise code k i).regs, flt := ((s.setFrer c x).raise code k i).flt
        csg := { s.csg with ctx := ((s.setFrer c x).raise code k i).csg.ctx } } := by
  obtain ⟨hposts, honly, hframe⟩ := State.raised (s := s) (u := s.setFrer c x) rfl rfl (State.onlyRegs.refl s []) i 0 hc hk hb
  have hcsg := ((s.setFrer c x).raise_frame code k i 0 hc).csg
  generalize (s.setFrer c x).raise code k i = t at hposts honly hframe hcsg ⊢
  have hfrer : ∀ j, t.frer j = (s.setFrer c x).frer j := fun j => by rw [State.frer, State.frer, hcsg]
  refine ⟨?_, fun j hj => ?_, hposts, honly, ?_⟩
  · rw [hfrer, State.frer_setFrer_self]
  · rw [hfrer, State.frer_setFrer_ne s x hj]
  · rw [hframe]
    rfl

theorem State.regWrite_csg (s : State) (m : Master) (v : Word) {off : Nat} (hoff : off < 0x10000) :
    s.regWrite m (0x20060000 + off) v = (s.csgWrite off v).sendOwed := by
  have hblock : (0x20060000 + off) / 0x10000 = 0x2006 := by omega
  have hrest : (0x20060000 + off) % 0x10000 = off := by omega
  simp only [State.regWrite, hblock, hrest]

theorem State.csgWrite_frerCfg (s : State) {c : Nat} (hc : c < 512) (v : Word) : s.csgWrite (0x4000 + 4 * c) v = s.frerCfgWrite c v := by
  have hindex : (0x4000 + 4 * c - 0x4000) / 4 = c := by omega
  have hrange : 0x4000 ≤ 0x4000 + 4 * c ∧ 0x4000 + 4 * c < 0x4800 ∧ (0x4000 + 4 * c) % 4 = 0 := by omega
  rw [State.csgWrite, if_neg (by omega), if_neg (by omega), if_pos hrange, hindex]

/-- What a write of a context's configuration leaves in its context. -/
def State.frerAfter (s : State) (c : Nat) (v : Word) : FrerCtx :=
  if v.toNat.testBit 0 then
    if s.fldB (CSG_FRER_CFG c) CSG_FRER_CFG_en then s.frer c else { s.frer c with takeAny := true, timer := false, waiting := 0 }
  else { s.frer c with timer := false, waiting := 0 }

/-- A write of a context's configuration is the write of its register, and of the context where that changes. -/
theorem State.frerCfgWrite_cases (s : State) (c : Nat) (v : Word) :
    s.frerCfgWrite c v = (s.wrPlain (CSG_FRER_CFG c) v).setFrer c (s.frerAfter c v) ∨
      s.frerCfgWrite c v = s.wrPlain (CSG_FRER_CFG c) v ∧ s.frerAfter c v = s.frer c := by
  have hfrer : (s.wrPlain (CSG_FRER_CFG c) v).frer c = s.frer c := by
    rw [(State.wroteRegs_wrPlain s v (List.mem_singleton_self _)).2]
    rfl
  simp only [State.frerCfgWrite, State.frerAfter, hfrer]
  cases v.toNat.testBit 0 <;> cases s.fldB (CSG_FRER_CFG c) CSG_FRER_CFG_en <;> simp

theorem State.frerCfgWrite_spec (s : State) (c : Nat) (v : Word) :
    (s.frerCfgWrite c v).frer c = s.frerAfter c v ∧ (∀ k, k ≠ c → (s.frerCfgWrite c v).frer k = s.frer k) ∧
    (s.frerCfgWrite c v).regs = (s.wrPlain (CSG_FRER_CFG c) v).regs ∧
    s.frerCfgWrite c v = { s with regs := (s.frerCfgWrite c v).regs, csg := { s.csg with ctx := (s.frerCfgWrite c v).csg.ctx } } := by
  have hregs := (State.wroteRegs_wrPlain s v (List.mem_singleton_self (CSG_FRER_CFG c))).2
  rcases s.frerCfgWrite_cases c v with h | ⟨h, hsame⟩
  · rw [h]
    generalize s.wrPlain (CSG_FRER_CFG c) v = u at hregs ⊢
    refine ⟨State.frer_setFrer_self u c _, fun k hk => ?_, rfl, ?_⟩
    · rw [State.frer_setFrer_ne u _ hk, hregs]
      rfl
    · rw [hregs]
      rfl
  · rw [h, hsame]
    generalize s.wrPlain (CSG_FRER_CFG c) v = u at hregs ⊢
    exact ⟨by rw [hregs]; rfl, fun k _ => by rw [hregs]; rfl, rfl, by rw [hregs]⟩

theorem State.frerCfgWrite_owed (s : State) (c : Nat) (v : Word) : (s.frerCfgWrite c v).csg.owed = s.csg.owed := by
  obtain ⟨-, -, -, he⟩ := s.frerCfgWrite_spec c v
  rw [he]

theorem State.wrPlain_seen_rd (s : State) (m : Master) (a : Nat) (v : Word) (b : Nat) :
    ((s.seen m).wrPlain a v).rd b = (s.wrPlain a v).rd b := by
  by_cases h : b = a
  · rw [h, State.rd_wrPlain_seen]
  · have h' : b ∉ [a] := fun hm => h (List.mem_singleton.1 hm)
    rw [(State.wroteRegs_wrPlain _ v (List.mem_singleton_self a)).1 b h', (State.wroteRegs_wrPlain s v (List.mem_singleton_self a)).1 b h',
      State.seen_rd]

theorem State.regCommand_frerCfg {m : Master} {c : Nat} (hc : c < 512) (h : s.writable m (CSG_FRER_CFG c)) (howed : s.csg.owed = [])
    (v : Word) : s.regCommand m (CSG_FRER_CFG c) v = (s.seen m).frerCfgWrite c v := by
  have haddr : CSG_FRER_CFG c = 0x20060000 + (0x4000 + 4 * c) := by simp only [CSG_FRER_CFG]; omega
  have hblock : (blockAt (0x20060000 + (0x4000 + 4 * c))).isSome = true := by
    have hb : (0x20060000 + (0x4000 + 4 * c)) / 0x10000 = 0x2006 := by omega
    simp only [blockAt, hb]
    rfl
  have howed' : ((s.seen m).frerCfgWrite c v).csg.owed = [] := by
    rw [State.frerCfgWrite_owed, State.seen_csg]
    exact howed
  rw [haddr] at h ⊢
  rw [State.regCommand_eq h hblock (by omega), State.regWrite_csg _ m v (by omega), State.csgWrite_frerCfg _ hc,
    State.sendOwed_of_none howed']

/-- Settles O34: the write by what it leaves of the context, the timer and the silent member each as one event beside it. -/
theorem recovery : Obligations.Recovery := by
  unfold Obligations.Recovery
  intro s c
  refine ⟨fun m v howed hw => ⟨(s.seen m).frerCfgWrite c v, ?_, ?_⟩, fun hx => ⟨s, ?_, rfl⟩, fun hx => ⟨s.frerReset c, rfl, ?_⟩,
    fun j hj => ⟨s, ?_, rfl⟩, fun j hw hs => ⟨s.memberSilent c j, rfl, ?_⟩⟩
  · exact congrArg Host.Outcome.next (State.regCommand_frerCfg c.isLt hw howed v)
  · obtain ⟨hself, hothers, hregs, heq⟩ := (s.seen m).frerCfgWrite_spec c v
    have hrd : ∀ a, ((s.seen m).frerCfgWrite c v).rd a = (s.wrPlain (CSG_FRER_CFG c) v).rd a := fun a =>
      (State.rd_congr hregs a).trans (State.wrPlain_seen_rd s m (CSG_FRER_CFG c) v a)
    simp only [State.seen_csg] at heq
    refine ⟨hrd _, hself.trans ?_, fun k hk => (hothers k hk).trans (by rw [State.seen_frer]), fun a ha _ => ?_, heq⟩
    · have hafter : (s.seen m).frerAfter c v = s.frerAfter c v := by
        rw [State.frerAfter, State.frerAfter, State.seen_fldB, State.seen_frer]
      rw [hafter]
      rfl
    · exact (hrd a).trans ((State.wroteRegs_wrPlain s v (List.mem_singleton_self _)).1 a ha)
  · exact congrArg Host.Outcome.next (by simp only [State.frerReset, hx, Bool.false_eq_true, if_false])
  · simp only [State.frerReset, hx, if_true]
    obtain ⟨h1, h2, h3, h4, h5⟩ := s.setFrer_raise c { (s.frer c).count 5 with takeAny := true, timer := false, waiting := 0 }
      (code := 0x0731) (k := 1) c (by decide) (by decide) rfl
    rw [Nat.mod_eq_of_lt (by omega)] at h3
    exact ⟨h1, h2, h3, h4, h5⟩
  · refine congrArg Host.Outcome.next ?_
    rcases hj with hj | hj <;> simp [State.memberSilent, hj]
  · simp only [State.memberSilent, hw, hs, Bool.not_false, Bool.and_self, if_true]
    obtain ⟨h1, h2, h3, h4, h5⟩ := s.setFrer_raise c { s.frer c with silent := withBit (s.frer c).silent j true }
      (code := 0x0732) (k := 3) c (by decide) (by decide) rfl
    rw [Nat.mod_eq_of_lt (by omega)] at h3
    exact ⟨h1, h2, h3, h4, h5⟩

end

end Sys2Proof.Machine

/-! Events, invocations and timers of the keepers (R243 to R249, R263, R274, R276, R282). -/

namespace Sys2Proof.Machine

section
variable {s : State}

/-! A counter register beside an event -/

/-- An event limited in time changes no more than the event. -/
theorem State.raiseLim_regFrame (s : State) {c k : Nat} (i d : Nat) (hc : c < 0x1100) (hk : k < 7) (hb : bankEvent c = false) :
    s.regFrame (s.raiseLim c k i d) := by
  obtain ⟨⟨f, r, he⟩, -⟩ := s.raiseLim_frame c k i d hc
  have hl := s.raiseLim_link c k i d hc hk hb
  rw [hl.bank, hl.outputs, hl.free] at he
  rw [State.regFrame]
  generalize s.raiseLim c k i d = u at he ⊢
  rw [he]

theorem State.wroteRegs_bump (s : State) (a n : Nat) : s.wroteRegs (s.bump a n) [a] :=
  State.wroteRegs_setFld s _ _ (List.mem_singleton_self a)

theorem State.counts_bump (s : State) (a : Nat) : s.counts (s.bump a) a := by
  have hget : ∀ w : Word, Fld.get ⟨31, 0⟩ w = w.toNat := fun w => by
    have hall : w.toNat / 2 ^ 0 % 2 ^ 32 = w.toNat := by
      have := w.isLt
      omega
    rw [Fld.get_eq]
    exact hall
  have hput : ((s.bump a).rd a).toNat = Fld.get ⟨31, 0⟩ ((s.bump a).rd a) := (hget _).symm
  rw [State.counts, hput, State.bump, State.addFld, State.rd_setFld, if_pos rfl, Fld.get_put _ _ _ (by decide) (by decide),
    State.fld, hget]
  have hw : Fld.width ⟨31, 0⟩ = 32 := rfl
  rw [hw, satAdd]
  omega

/-- The registers of a keeper's routine and of its placement are no lost-posting counters. -/
theorem isSrcLost_plcCnt {k : Nat} (hk : k < 16) : isSrcLost (PLC_CNT k) = false := by
  rw [isSrcLost_eq_false]
  simp only [PLC_CNT, FLT_SRC_LOST]
  omega

/-! Routine state -/

theorem State.rt_setRt (s : State) (r : Nat) (x : RtState) (q : Nat) : (s.setRt r x).rt q = if q = r then x else s.rt q :=
  tget_tset (α := RtState) {} {} _ _ _ _ (fun _ => rfl)

theorem State.rt_setRt_self (s : State) (r : Nat) (x : RtState) : (s.setRt r x).rt r = x := by rw [State.rt_setRt, if_pos rfl]

theorem State.rt_setRt_ne (s : State) {r q : Nat} (x : RtState) (h : q ≠ r) : (s.setRt r x).rt q = s.rt q := by
  rw [State.rt_setRt, if_neg h]

theorem getD_modAt {α : Type} (l : List α) (d : α) (f : α → α) {k : Nat} (h : k < l.length) : (modAt l k f).getD k d = f (l.getD k d) := by
  simp [modAt, h]

/-- A routine's counter counts, and no other routine changes. -/
theorem State.rtCount_spec (s : State) (r k : Nat) :
    (∀ q, q ≠ r → (s.rtCount r k).rt q = s.rt q) ∧ (s.rtCount r k).rt r = { s.rt r with cnt := ((s.rtCount r k).rt r).cnt } ∧
    (k < (s.rt r).cnt.length → ((s.rtCount r k).rt r).cnt.getD k 0 =
      if k = 0 then ((s.rt r).cnt.getD k 0 + 1) % 2 ^ 32 else min ((s.rt r).cnt.getD k 0 + 1) (2 ^ 32 - 1)) ∧
    s.rtCount r k = { s with kpr := { s.kpr with rts := (s.rtCount r k).kpr.rts } } := by
  have hself : (s.rtCount r k).rt r = { s.rt r with cnt := modAt (s.rt r).cnt k (fun n => if k = 0 then (n + 1) % 2 ^ 32 else satAdd 32 n 1) } :=
    State.rt_setRt_self s r _
  refine ⟨fun q hq => State.rt_setRt_ne s _ hq, ?_, fun hk => ?_, rfl⟩
  · rw [hself]
  · rw [hself]
    exact getD_modAt _ _ _ hk

/-! The event that a core takes -/

/-- Of two events the later one is taken only where its routine has the higher priority. -/
def State.better (s : State) (best : Option KEvent) (e : KEvent) : Option KEvent :=
  match best with
  | none => some e
  | some b => if (s.routine b.routine).prio < (s.routine e.routine).prio then some e else some b

theorem State.better_cases (s : State) (best : Option KEvent) (y : KEvent) :
    s.better best y = some y ∧ (∀ b, best = some b → (s.routine b.routine).prio ≤ (s.routine y.routine).prio) ∨
      ∃ b, best = some b ∧ s.better best y = best ∧ (s.routine y.routine).prio ≤ (s.routine b.routine).prio := by
  cases best with
  | none => exact .inl ⟨rfl, fun b hb => by cases hb⟩
  | some b =>
    by_cases hlt : (s.routine b.routine).prio < (s.routine y.routine).prio
    · exact .inl ⟨if_pos hlt, fun b' hb' => by cases hb'; omega⟩
    · exact .inr ⟨b, rfl, if_neg hlt, by omega⟩

theorem State.foldl_better (s : State) (l : List KEvent) (best : Option KEvent) {e : KEvent} (h : l.foldl s.better best = some e) :
    (e ∈ l ∨ best = some e) ∧ (∀ x ∈ l, (s.routine x.routine).prio ≤ (s.routine e.routine).prio) ∧
      ∀ b, best = some b → (s.routine b.routine).prio ≤ (s.routine e.routine).prio := by
  induction l generalizing best with
  | nil =>
    rw [List.foldl_nil] at h
    exact ⟨.inr h, fun x hx => absurd hx List.not_mem_nil, fun b hb => by rw [h] at hb; cases hb; exact Nat.le_refl _⟩
  | cons y l ih =>
    rw [List.foldl_cons] at h
    obtain ⟨hmem, hall, hbest⟩ := ih _ h
    rcases s.better_cases best y with ⟨hy, hle⟩ | ⟨b, rfl, hb, hle⟩
    · have hye := hbest y hy
      refine ⟨.inl ?_, List.forall_mem_cons.2 ⟨hye, hall⟩, fun b hb => (hle b hb).trans hye⟩
      rcases hmem with hmem | hmem
      · exact List.mem_cons_of_mem _ hmem
      · rw [hy] at hmem
        exact Option.some.inj hmem ▸ List.mem_cons_self
    · rw [hb] at hmem hbest
      have hbe := hbest b rfl
      exact ⟨hmem.imp (List.mem_cons_of_mem _) id, List.forall_mem_cons.2 ⟨hle.trans hbe, hall⟩, fun b' hb' => by cases hb'; exact hbe⟩

/-- The event that a core takes is one of its pending events, of the highest priority. -/
theorem State.nextEvent_some {c : Nat} {e : KEvent} (h : s.nextEvent c = some e) :
    e ∈ s.kpr.pend ∧ s.coreOf e.routine = some c ∧ ∀ x ∈ s.kpr.pend, s.coreOf x.routine = some c → (s.rt x.routine).suspended = false →
      (s.routine x.routine).prio ≤ (s.routine e.routine).prio := by
  obtain ⟨hmem, hall, -⟩ := s.foldl_better _ none (e := e) h
  have hmem := hmem.resolve_right (by simp)
  simp only [List.mem_filter, Bool.and_eq_true, beq_iff_eq, Bool.not_eq_true'] at hmem hall
  exact ⟨hmem.1, hmem.2.1, fun x hx hc hs => hall x ⟨hx, hc, hs⟩⟩

/-! The entry registers (R244) -/

/-- The invocation that an event starts. -/
def State.entered (s : State) (e : KEvent) : Invocation :=
  { ev := e, pc := 4 * (s.routine e.routine).entryWord, regs := entryRegs e, left := (s.routine e.routine).units }

theorem State.startInvocation_of_next {c : Nat} {e : KEvent} (hruns : s.coreRuns c = true) (hfree : s.inv c = none)
    (hnext : s.nextEvent c = some e) : s.startInvocation c =
      (s.setKpr { s.kpr with pend := s.kpr.pend.erase e, run := s.kpr.run ++ [(c, s.entered e)] }).rtCount e.routine 0 := by
  simp only [State.startInvocation, hruns, hfree, hnext, Bool.not_true, Bool.false_eq_true, Option.isSome_none, or_self, if_false]
  rfl

theorem State.startInvocation_of_not {c : Nat} (h : s.coreRuns c = false ∨ s.inv c ≠ none ∨ s.nextEvent c = none) :
    s.startInvocation c = s := by
  rcases h with h | h | h
  · simp [State.startInvocation, h]
  · simp [State.startInvocation, Option.isSome_iff_ne_none.2 h]
  · rw [State.startInvocation, h]
    split <;> rfl

theorem g_entryRegs (iv : Invocation) (e : KEvent) (h : iv.regs = entryRegs e) :
    iv.g 1 = BitVec.ofNat 32 e.kind ∧ iv.g 2 = BitVec.ofNat 32 e.g2 ∧ iv.g 3 = BitVec.ofNat 32 e.g3 ∧
    iv.g 4 = BitVec.ofNat 32 e.time ∧ iv.g 5 = BitVec.ofNat 32 (e.time / 2 ^ 32) ∧ iv.g 6 = BitVec.ofNat 32 e.g6 ∧
    iv.g 7 = BitVec.ofNat 32 e.g7 ∧ (∀ j : Fin 32, 8 ≤ j.val → iv.g j = 0) := by
  have hg : ∀ r : Fin 32, r ≠ 0 → iv.g r = (entryRegs e)[r] := fun r hr => by rw [Invocation.g, if_neg hr, h]
  refine ⟨(hg _ (by decide)).trans ?_, (hg _ (by decide)).trans ?_, (hg _ (by decide)).trans ?_, (hg _ (by decide)).trans ?_,
    (hg _ (by decide)).trans ?_, (hg _ (by decide)).trans ?_, (hg _ (by decide)).trans ?_, fun j hj => ?_⟩
  iterate 7 simp [entryRegs]
  have hj0 : j ≠ 0 := fun e => by simp [e] at hj
  rw [hg j hj0]
  have hne : ∀ k : Nat, k < 8 → k ≠ j.val := fun k hk => by omega
  simp [entryRegs, hne]

/-! Commands on routines (R274, R276) -/

theorem State.regCommand_kpr {m : Master} {off : Nat} (hoff : off < 0x10000) (h : s.writable m (0x200E0000 + off)) (v : Word) :
    s.regCommand m (0x200E0000 + off) v = (s.seen m).kprWrite off v := by
  have hblock : (0x200E0000 + off) / 0x10000 = 0x200E := by omega
  have hrest : (0x200E0000 + off) % 0x10000 = off := by omega
  rw [State.regCommand_eq h (by simp only [blockAt, hblock]; rfl) (by omega)]
  simp only [State.regWrite, hblock, hrest]

/-- A routine with its counters and its highest use at zero. -/
def RtState.cleared (y : RtState) : RtState := { y with cnt := [0, 0, 0, 0, 0, 0, 0, 0, 0], maxUsed := 0 }

/-- The table with every routine's counters at zero. -/
def clearedRts (l : Tab RtState) (t : Tab RtState) : Tab RtState := l.foldl (fun t e => tset {} t e.1 e.2.cleared) t

theorem tget_clearedRts_zero (l : Tab RtState) (q : Nat) :
    (tget {} (clearedRts l []) q).cnt = [0, 0, 0, 0, 0, 0, 0, 0, 0] ∧ (tget {} (clearedRts l []) q).maxUsed = 0 := by
  refine foldl_inv (fun t : Tab RtState => (tget {} t q).cnt = [0, 0, 0, 0, 0, 0, 0, 0, 0] ∧ (tget {} t q).maxUsed = 0) _
    (fun t e ht => ?_) l ⟨rfl, rfl⟩
  rw [tget_tset (α := RtState) {} {} _ _ _ _ (fun _ => rfl)]
  split
  · exact ⟨rfl, rfl⟩
  · exact ht

theorem tget_clearedRts (l : Tab RtState) (h : twf (fun _ => ({} : RtState)) l = true) (t : Tab RtState) (q : Nat) :
    tget {} (clearedRts l t) q = if q ∈ l.map (fun e => e.1) then (tget {} l q).cleared else tget {} t q := by
  induction l generalizing t with
  | nil => rfl
  | cons e l ih =>
    obtain ⟨k, x⟩ := e
    obtain ⟨-, hrise, hwf⟩ := (twf_cons _ _ _ _).1 h
    rw [clearedRts, List.foldl_cons]
    refine (ih hwf _).trans ?_
    rw [tget_tset (α := RtState) {} {} _ _ _ _ (fun _ => rfl)]
    by_cases hq : q = k
    · subst hq
      have hnot : q ∉ l.map (fun e => e.1) := fun hm => by
        obtain ⟨e, he, hk⟩ := List.mem_map.1 hm
        exact absurd (hrise e he) (by omega)
      simp [hnot, tget]
    · simp only [tget, if_neg (Ne.symm hq), if_false, List.map_cons, List.mem_cons, hq, false_or]

theorem tget_clearedRts_wf {l : Tab RtState} (h : twf (fun _ => ({} : RtState)) l = true) (q : Nat) :
    tget {} (clearedRts l []) q = (tget {} l q).cleared := by
  rw [tget_clearedRts l h]
  split
  · rfl
  · next hn => rw [tget_eq_default _ hn]; rfl

/-! The cluster port (R246, R274, R282) -/

section
variable {f : Frame} {rest : List Frame}

/-- The state once the head of sp28 has been taken. -/
def State.took28 (s : State) (rest : List Frame) : State := { s with sw := { s.sw with staged := tset [] s.sw.staged 28 rest } }

theorem State.clusterTake_of_unbound (hf : s.stagedAt 28 = f :: rest) (hb : s.bindingOf f = none) :
    s.clusterTake = ((s.took28 rest).bump (PLC_CNT 3)).raiseLim 0x0D0A 1 := by
  simp only [State.clusterTake, hf, hb]
  rfl

theorem State.clusterTake_of_deaf {r arg : Nat} (hf : s.stagedAt 28 = f :: rest) (hb : s.bindingOf f = some (r, arg))
    (hd : s.deaf r = true) : s.clusterTake = (s.took28 rest).discardEvent r true f.canEntry := by
  simp only [State.clusterTake, hf, hb, hd, if_true]
  rfl

theorem State.clusterTake_of_core {r arg c : Nat} (hf : s.stagedAt 28 = f :: rest) (hb : s.bindingOf f = some (r, arg))
    (hd : s.deaf r = false) (hc : s.coreOf r = some c) :
    s.clusterTake = if s.clusterRoom c f.data.length [] then (s.took28 rest).addEvent (s.eventOf f r arg) else s := by
  simp only [State.clusterTake, hf, hb, hd, hc, Bool.false_eq_true, if_false]
  rfl

theorem State.discardEvent_spec (s : State) (r : Nat) (entry : Option (Nat × Nat)) :
    let t := s.discardEvent r true entry
    t.kpr = (s.rtCount r 8).kpr ∧ t.can = (match entry with | some (ch, no) => (s.canFree ch no).can | none => s.can) ∧
      t = { s with can := t.can, kpr := { s.kpr with rts := t.kpr.rts } } := by
  rcases entry with _ | ⟨ch, no⟩ <;> exact ⟨rfl, rfl, rfl⟩

/-- What taking a frame for a routine that takes no events leaves of the routines. -/
theorem State.clusterTake_discards {r arg : Nat} (hf : s.stagedAt 28 = f :: rest) (hb : s.bindingOf f = some (r, arg))
    (hd : s.deaf r = true) :
    (∀ q, q ≠ r → s.clusterTake.rt q = s.rt q) ∧ s.clusterTake.rt r = { s.rt r with cnt := (s.clusterTake.rt r).cnt } ∧
    ((s.rt r).cnt.length = 9 → (s.clusterTake.rt r).cnt.getD 8 0 = min ((s.rt r).cnt.getD 8 0 + 1) (2 ^ 32 - 1)) ∧
    s.clusterTake.can = (match f.canEntry with | some (ch, no) => (s.canFree ch no).can | none => s.can) ∧
    s.clusterTake = { s.took28 rest with can := s.clusterTake.can, kpr := { s.kpr with rts := s.clusterTake.kpr.rts } } := by
  obtain ⟨hkpr, hcan, he⟩ := (s.took28 rest).discardEvent_spec r f.canEntry
  obtain ⟨hothers, hself, hcnt, -⟩ := (s.took28 rest).rtCount_spec r 8
  rw [State.clusterTake_of_deaf hf hb hd]
  generalize (s.took28 rest).discardEvent r true f.canEntry = t at hkpr hcan he ⊢
  have hrt : ∀ q, t.rt q = ((s.took28 rest).rtCount r 8).rt q := fun q => by rw [State.rt, hkpr]; rfl
  refine ⟨fun q hq => (hrt q).trans (hothers q hq), ?_, fun hlen => ?_, hcan, he⟩
  · rw [hrt]
    exact hself
  · rw [hrt, hcnt (hlen ▸ by decide)]
    rfl

end

/-! Timers (R247, R263) -/

section
variable {r n : Nat} {x : KTimer}

/-- The timers once this one has fallen due: it goes on with its period, or is gone. -/
def State.timersAfter (s : State) (k : Nat) (x : KTimer) : Tab KTimer :=
  match x.period with
  | some p => tput s.kpr.timers k { x with due := x.due + p }
  | none => tdel s.kpr.timers k

/-- The state then. -/
def State.timerWent (s : State) (k : Nat) (x : KTimer) : State := s.setKpr { s.kpr with timers := s.timersAfter k x }

/-- An event of this timer is still pending. -/
def State.timerWaits (s : State) (r n : Nat) : Bool := s.kpr.pend.any (fun e => e.kind == 3 && e.routine == r && e.g2 == n)

theorem State.timerDue_of_armed (h : s.kpr.timers.find? (fun e => e.1 == 4 * r + n) = some (4 * r + n, x)) :
    s.timerDue r n = if s.elapsed < x.due then s
      else if s.deaf r then s.timerWent (4 * r + n) x
      else if s.timerWaits r n then ((s.timerWent (4 * r + n) x).rtCount r 6).raiseLim 0x0C06 1 r
      else (s.timerWent (4 * r + n) x).addEvent { kind := 3, routine := r, g2 := n, time := s.dueTide x.due, g6 := x.arg } := by
  simp only [State.timerDue, h]
  rfl

theorem State.timerDue_of_disarmed (h : s.kpr.timers.find? (fun e => e.1 == 4 * r + n) = none) : s.timerDue r n = s := by
  simp only [State.timerDue, h]

/-- A timer event that merges counts, and changes no more than the event that says so. -/
theorem State.rtCount_raiseLim (s : State) (r k : Nat) {c : Nat} (i : Nat) (hc : c < 0x1100) (hb : bankEvent c = false) (hk : 0 < k) :
    let t := (s.rtCount r k).raiseLim c 1 i
    (k < (s.rt r).cnt.length → (t.rt r).cnt.getD k 0 = min ((s.rt r).cnt.getD k 0 + 1) (2 ^ 32 - 1)) ∧ (∀ q, q ≠ r → t.rt q = s.rt q) ∧
      s.onlyRegs t [] ∧ t = { s with regs := t.regs, flt := t.flt, kpr := { s.kpr with rts := t.kpr.rts } } := by
  obtain ⟨hothers, -, hcnt, -⟩ := s.rtCount_spec r k
  have hframe := (s.rtCount r k).raiseLim_frame c 1 i 0 hc
  have heq := (s.rtCount r k).raiseLim_regFrame (k := 1) i 0 hc (by decide) hb
  intro t
  have hkpr : t.kpr = (s.rtCount r k).kpr := hframe.kpr
  have hrt : ∀ q, t.rt q = (s.rtCount r k).rt q := fun q => by rw [State.rt, hkpr]; rfl
  refine ⟨fun hlen => ?_, fun q hq => (hrt q).trans (hothers q hq), hframe.onlyRegs [], heq.trans ?_⟩
  · rw [hrt, hcnt hlen, if_neg (by omega)]
  · rw [hkpr]
    rfl

end

end

/-! The commands on the selected routine -/

section
variable {s : State} {m : Master} {v : Word}

/-- What `resume` and `clr` in one write do to a routine, resume first (R274, R276). -/
def State.rtCommand (s : State) (r : Nat) (resume clr : Bool) : State :=
  let u := if resume then s.resume r else s
  if clr then u.rtClear r else u

theorem State.kprWrite_rtCmd (s : State) (w : Word) :
    s.kprWrite 0x20 w = s.rtCommand (s.fld KPR_RT_SEL KPR_RT_SEL_routine) (w.toNat.testBit 0) (w.toNat.testBit 1) := rfl

theorem exec_rtCommand {c : Instr} {w : Word} {b0 b1 : Bool} (hc : exec c s = .next (s.regCommand m KPR_RT_CMD w))
    (h : s.writable m KPR_RT_CMD) (h0 : w.toNat.testBit 0 = b0) (h1 : w.toNat.testBit 1 = b1) :
    exec c s = .next ((s.seen m).rtCommand (s.fld KPR_RT_SEL KPR_RT_SEL_routine) b0 b1) := by
  have hw := State.regCommand_kpr (off := 0x20) (by decide) h w
  rw [hc, show KPR_RT_CMD = 0x200E0000 + 0x20 from rfl, hw, State.kprWrite_rtCmd, State.seen_fld, h0, h1]

/-- Resuming a routine ends its suspension with one event; one that is not suspended stays as it is. -/
theorem State.resume_spec (s : State) (r : Nat) :
    (s.resume r).rt r = (if (s.rt r).suspended = true then { s.rt r with suspended := false, abortRun := 0 } else s.rt r) ∧
    (∀ q, q ≠ r → (s.resume r).rt q = s.rt q) ∧ s.onlyRegs (s.resume r) [] ∧
    ((s.rt r).suspended = true → s.posts (s.resume r) 0x0C04 0 (r % 4096)) ∧
    s.resume r = { s with regs := (s.resume r).regs, flt := (s.resume r).flt, kpr := { s.kpr with rts := (s.resume r).kpr.rts } } := by
  rw [State.resume]
  by_cases h : (s.rt r).suspended = true
  · simp only [h, if_true]
    obtain ⟨hposts, honly, heq⟩ := State.raised (s := s) (u := s.setRt r { s.rt r with suspended := false, abortRun := 0 }) rfl rfl
      (State.onlyRegs.refl s []) (c := 0x0C04) (k := 0) r 0 (by decide) (by decide) rfl
    have hkpr := ((s.setRt r { s.rt r with suspended := false, abortRun := 0 }).raise_frame 0x0C04 0 r 0 (by decide)).kpr
    generalize State.raise _ 0x0C04 0 r = t at hposts honly heq hkpr ⊢
    have hrt : ∀ q, t.rt q = (s.setRt r { s.rt r with suspended := false, abortRun := 0 }).rt q := fun q => by rw [State.rt, hkpr]; rfl
    refine ⟨by rw [hrt, State.rt_setRt_self], fun q hq => by rw [hrt, State.rt_setRt_ne s _ hq], honly, fun _ => hposts, heq.trans ?_⟩
    rw [hkpr]
    rfl
  · simp only [h]
    exact ⟨rfl, fun _ _ => rfl, State.onlyRegs.refl s [], fun h' => absurd h' (by simp), rfl⟩

/-- Of a state with the same routines and registers, and the event's buffers beside them. -/
theorem State.rtClear_spec (s : State) (r : Nat) :
    (s.rtClear r).rt r = (s.rt r).cleared ∧ (∀ q, q ≠ r → (s.rtClear r).rt q = s.rt q) :=
  ⟨State.rt_setRt_self s r _, fun _ hq => State.rt_setRt_ne s _ hq⟩

theorem State.seen_rt (s : State) (m : Master) (r : Nat) : (s.seen m).rt r = s.rt r := by simp [State.rt]

/-- The write that resumes, clears, or both. -/
theorem State.rtCommand_spec (s : State) (r : Nat) (resume clr : Bool) :
    let resumed := if resume = true ∧ (s.rt r).suspended = true then { s.rt r with suspended := false, abortRun := 0 } else s.rt r
    let t := s.rtCommand r resume clr
    t.rt r = (if clr = true then resumed.cleared else resumed) ∧ (∀ q, q ≠ r → t.rt q = s.rt q) ∧ s.onlyRegs t [] ∧
    (resume = true → (s.rt r).suspended = true → s.posts t 0x0C04 0 (r % 4096)) ∧ (resume = false → t.flt = s.flt) ∧
    t = { s with regs := t.regs, flt := t.flt, kpr := { s.kpr with rts := t.kpr.rts } } := by
  obtain ⟨hself, hothers, honly, hposts, heq⟩ := s.resume_spec r
  have hu : ∃ u, (if resume = true then s.resume r else s) = u ∧
      u.rt r = (if resume = true ∧ (s.rt r).suspended = true then { s.rt r with suspended := false, abortRun := 0 } else s.rt r) ∧
      (∀ q, q ≠ r → u.rt q = s.rt q) ∧ s.onlyRegs u [] ∧
      (resume = true → (s.rt r).suspended = true → s.posts u 0x0C04 0 (r % 4096)) ∧ (resume = false → u.flt = s.flt) ∧
      u = { s with regs := u.regs, flt := u.flt, kpr := { s.kpr with rts := u.kpr.rts } } := by
    cases resume with
    | true => exact ⟨_, rfl, by simpa using hself, hothers, honly, fun _ => hposts, fun h => Bool.noConfusion h, heq⟩
    | false => exact ⟨_, rfl, by simp, fun _ _ => rfl, State.onlyRegs.refl s [], fun h => Bool.noConfusion h, fun _ => rfl, rfl⟩
  clear hself hothers honly hposts heq
  obtain ⟨u, hu, hself, hothers, honly, hposts, hflt, heq⟩ := hu
  simp only [State.rtCommand, hu]
  cases clr with
  | true =>
    simp only [if_true]
    obtain ⟨hclr, hrest⟩ := u.rtClear_spec r
    refine ⟨by rw [hclr, hself], fun q hq => (hrest q hq).trans (hothers q hq), honly, hposts, hflt, ?_⟩
    rw [State.rtClear, State.setRt, heq]
  | false =>
    simp only [Bool.false_eq_true, if_false]
    exact ⟨hself, hothers, honly, hposts, hflt, heq⟩

end

/-! The statement, event by event -/

section
variable {s : State}

theorem gives_clusterPortTake {f : Frame} {rest : List Frame} (hf : s.stagedAt 28 = f :: rest) :
    (s.bindingOf f = none → Gives .clusterPortTake s (fun t => s.counts t (PLC_CNT 3) ∧
      s.onlyRegs t [PLC_CNT 3] ∧ t = { s.took28 rest with regs := t.regs, flt := t.flt })) ∧
    (∀ r arg : Nat, s.bindingOf f = some (r, arg) → s.deaf r = true → Gives .clusterPortTake s (fun t => (∀ q, q ≠ r → t.rt q = s.rt q) ∧
      t.rt r = { s.rt r with cnt := (t.rt r).cnt } ∧
      ((s.rt r).cnt.length = 9 → (t.rt r).cnt.getD 8 0 = min ((s.rt r).cnt.getD 8 0 + 1) (2 ^ 32 - 1)) ∧
      t.can = (match f.canEntry with | some (ch, no) => (s.canFree ch no).can | none => s.can) ∧
      t = { s.took28 rest with can := t.can, kpr := { s.kpr with rts := t.kpr.rts } })) ∧
    (∀ r arg c : Nat, s.bindingOf f = some (r, arg) → s.deaf r = false → s.coreOf r = some c →
      (s.clusterRoom c f.data.length [] = true → Gives .clusterPortTake s (fun t =>
        t = { s.took28 rest with kpr := { s.kpr with pend := s.kpr.pend ++ [s.eventOf f r arg] } })) ∧
      (s.clusterRoom c f.data.length [] = false → Gives .clusterPortTake s (fun t => t = s))) := by
  refine ⟨fun hb => ⟨s.clusterTake, rfl, ?_⟩, fun r arg hb hd => ⟨s.clusterTake, rfl, ?_⟩, fun r arg c hb hd hc => ⟨fun hroom => ?_, fun hroom => ?_⟩⟩
  · rw [State.clusterTake_of_unbound hf hb]
    have hbump := (s.took28 rest).wroteRegs_bump (PLC_CNT 3) 1
    have hcounts := (s.took28 rest).counts_bump (PLC_CNT 3)
    have hframe := ((s.took28 rest).bump (PLC_CNT 3)).raiseLim_frame 0x0D0A 1 noInst 0 (by decide)
    have hreg := ((s.took28 rest).bump (PLC_CNT 3)).raiseLim_regFrame (c := 0x0D0A) (k := 1) noInst 0 (by decide) (by decide) rfl
    refine ⟨?_, fun a ha hl => ((hframe.onlyRegs [] a List.not_mem_nil hl)).trans (hbump.1 a ha), hreg⟩
    rw [State.counts, hframe.rd _ (isSrcLost_plcCnt (by decide))]
    exact hcounts
  · exact State.clusterTake_discards hf hb hd
  · exact ⟨_, congrArg Host.Outcome.next ((State.clusterTake_of_core hf hb hd hc).trans (if_pos hroom)), rfl⟩
  · exact ⟨s, congrArg Host.Outcome.next ((State.clusterTake_of_core hf hb hd hc).trans (if_neg (by simp [hroom]))), rfl⟩

theorem gives_invocationStart {c : Fin 64} {e : KEvent} (hruns : s.coreRuns c = true) (hfree : s.inv c = none)
    (hnext : s.nextEvent c = some e) : Gives (.invocationStart c) s (fun t =>
      (∀ q, q ≠ e.routine → t.rt q = s.rt q) ∧ t.rt e.routine = { s.rt e.routine with cnt := (t.rt e.routine).cnt } ∧
      ((s.rt e.routine).cnt.length = 9 → (t.rt e.routine).cnt.getD 0 0 = ((s.rt e.routine).cnt.getD 0 0 + 1) % 2 ^ 32) ∧
      t = { s with kpr := { s.kpr with pend := s.kpr.pend.erase e, run := s.kpr.run ++ [(c.val, s.entered e)], rts := t.kpr.rts } }) := by
  obtain ⟨hothers, hself, hcnt, heq⟩ :=
    (s.setKpr { s.kpr with pend := s.kpr.pend.erase e, run := s.kpr.run ++ [(c.val, s.entered e)] }).rtCount_spec e.routine 0
  refine ⟨s.startInvocation c, rfl, ?_⟩
  rw [State.startInvocation_of_next hruns hfree hnext]
  refine ⟨hothers, hself, fun hlen => ?_, heq⟩
  have hlt : 0 < ((s.setKpr { s.kpr with pend := s.kpr.pend.erase e, run := s.kpr.run ++ [(c.val, s.entered e)] }).rt e.routine).cnt.length := by
    show 0 < (s.rt e.routine).cnt.length
    omega
  exact hcnt hlt

theorem gives_keeperTimerDue {r : Fin 1024} {n : Fin 4} {x : KTimer}
    (h : s.kpr.timers.find? (fun e => e.1 == 4 * r.val + n.val) = some (4 * r.val + n.val, x)) :
    (s.elapsed < x.due → Gives (.keeperTimerDue r n) s (fun t => t = s)) ∧
    (x.due ≤ s.elapsed → s.deaf r = true → Gives (.keeperTimerDue r n) s (fun t => t = s.timerWent (4 * r.val + n.val) x)) ∧
    (x.due ≤ s.elapsed → s.deaf r = false → s.timerWaits r n = true → Gives (.keeperTimerDue r n) s (fun t =>
      ((s.rt r).cnt.length = 9 → (t.rt r).cnt.getD 6 0 = min ((s.rt r).cnt.getD 6 0 + 1) (2 ^ 32 - 1)) ∧ (∀ q, q ≠ r.val → t.rt q = s.rt q) ∧
      s.onlyRegs t [] ∧
      t = { s with regs := t.regs, flt := t.flt, kpr := { s.kpr with timers := s.timersAfter (4 * r.val + n.val) x, rts := t.kpr.rts } })) ∧
    (x.due ≤ s.elapsed → s.deaf r = false → s.timerWaits r n = false → Gives (.keeperTimerDue r n) s (fun t =>
      t = { s with kpr := { s.kpr with
        timers := s.timersAfter (4 * r.val + n.val) x
        pend := s.kpr.pend ++ [{ kind := 3, routine := r.val, g2 := n.val, time := s.dueTide x.due, g6 := x.arg }] } })) := by
  have hdue := State.timerDue_of_armed h
  refine ⟨fun hlt => ⟨s, ?_, rfl⟩, fun hle hd => ⟨_, ?_, rfl⟩, fun hle hd hw =>
    ⟨((s.timerWent (4 * r.val + n.val) x).rtCount r 6).raiseLim 0x0C06 1 r, ?_, ?_⟩, fun hle hd hw =>
    ⟨(s.timerWent (4 * r.val + n.val) x).addEvent { kind := 3, routine := r.val, g2 := n.val, time := s.dueTide x.due, g6 := x.arg }, ?_, rfl⟩⟩
  · exact congrArg Host.Outcome.next (hdue.trans (if_pos hlt))
  · exact congrArg Host.Outcome.next (by rw [hdue, if_neg (Nat.not_lt.2 hle), if_pos hd])
  · exact congrArg Host.Outcome.next (by rw [hdue, if_neg (Nat.not_lt.2 hle), if_neg (by simp [hd]), if_pos hw])
  · obtain ⟨hcnt, hothers, honly, heq⟩ := (s.timerWent (4 * r.val + n.val) x).rtCount_raiseLim r 6 r (c := 0x0C06) (by decide) rfl (by decide)
    exact ⟨fun hlen => hcnt (by show 6 < (s.rt r).cnt.length; omega), hothers, honly, heq⟩
  · exact congrArg Host.Outcome.next (by rw [hdue, if_neg (Nat.not_lt.2 hle), if_neg (by simp [hd]), if_neg (by simp [hw])])

theorem gives_kprCntClr {m : Master} (v : Word) (h : s.writable m KPR_CNT_CLR) : Gives (.kprCntClr m v) s (fun t =>
    (∀ q, (t.rt q).cnt = [0, 0, 0, 0, 0, 0, 0, 0, 0] ∧ (t.rt q).maxUsed = 0) ∧
    (twf (fun _ => ({} : RtState)) s.kpr.rts = true → ∀ q, t.rt q = (s.rt q).cleared) ∧
    t = { s.seen m with kpr := { s.kpr with rts := t.kpr.rts } }) := by
  have hgo := testBit_or_set v 1 (i := 0) (by decide) rfl
  have hw := State.regCommand_kpr (off := 0x200) (by decide) h (v ||| 1)
  have hclr : (s.seen m).kprWrite 0x200 (v ||| 1) = (s.seen m).setKpr { s.kpr with rts := clearedRts s.kpr.rts [] } := by
    rw [State.kprWrite, if_neg (by decide), if_pos rfl, if_pos (show bit 0 (v ||| 1).toNat = true from hgo), State.seen_kpr]
    rfl
  exact ⟨_, congrArg Host.Outcome.next (hw.trans hclr), fun q => tget_clearedRts_zero _ q, fun hwf q => tget_clearedRts_wf hwf q, rfl⟩

/-- Settles O44: taking a frame, starting an invocation, a timer and a command each by its own lemma; that the event is the highest is
the fold's property. -/
theorem keeperEvents : Obligations.KeeperEvents := by
  unfold Obligations.KeeperEvents
  intro s
  refine ⟨fun h => ⟨s, congrArg Host.Outcome.next (by rw [State.clusterTake, h]), rfl⟩, fun f rest hf => gives_clusterPortTake hf,
    fun c e hruns hfree hnext => ?_, fun c h => ⟨s, congrArg Host.Outcome.next (State.startInvocation_of_not h), rfl⟩,
    fun r n h => ⟨s, congrArg Host.Outcome.next (State.timerDue_of_disarmed h), rfl⟩, fun r n x h => gives_keeperTimerDue h, fun m v => ?_⟩
  · obtain ⟨t, ht, hothers, hself, hcnt, heq⟩ := gives_invocationStart hruns hfree hnext
    obtain ⟨hmem, hcore, hprio⟩ := State.nextEvent_some hnext
    exact ⟨t, ht, hmem, hcore, hprio, hothers, hself, hcnt, heq, g_entryRegs (s.entered e) e rfl⟩
  · have hr : s.fld KPR_RT_SEL KPR_RT_SEL_routine % 4096 = s.fld KPR_RT_SEL KPR_RT_SEL_routine :=
      Nat.mod_eq_of_lt (Nat.lt_of_lt_of_le (Fld.get_lt _ _) (by decide))
    have hspec := (s.seen m).rtCommand_spec (s.fld KPR_RT_SEL KPR_RT_SEL_routine)
    simp only [State.seen_rt, State.seen_kpr, hr] at hspec
    refine ⟨fun hw h1 => ?_, fun hw h0 => ?_, fun hw h0 h1 hs => ?_, gives_kprCntClr v⟩
    · obtain ⟨hself, hothers, honly, hposts, -, heq⟩ := hspec true false
      have hx := exec_rtCommand (c := .resume m v) rfl hw (testBit_or_set v 1 (i := 0) (by decide) rfl) ((testBit_or_clear v (k := 1) (i := 1) rfl).trans h1)
      refine ⟨_, hx, ⟨hothers, State.onlyRegs_seen honly, heq⟩, ?_, fun hs => State.posts_congr (by simp) (by simp) (hposts rfl hs)⟩
      simpa using hself
    · obtain ⟨hself, hothers, honly, hposts, hflt, heq⟩ := hspec false true
      have hx := exec_rtCommand (c := .routineClr m v) rfl hw ((testBit_or_clear v (k := 2) (i := 0) rfl).trans h0) (testBit_or_set v 2 (i := 1) (by decide) rfl)
      refine ⟨_, hx, ⟨hothers, State.onlyRegs_seen honly, heq⟩, ?_, (hflt rfl).trans (State.seen_flt _ _)⟩
      simpa [RtState.cleared] using hself
    · obtain ⟨hself, hothers, honly, hposts, -, heq⟩ := hspec true true
      have hx := exec_rtCommand (c := .resume m v) rfl hw (testBit_or_set v 1 (i := 0) (by decide) rfl) ((testBit_or_clear v (k := 1) (i := 1) rfl).trans h1)
      refine ⟨_, hx, ⟨hothers, State.onlyRegs_seen honly, heq⟩, ?_, State.posts_congr (by simp) (by simp) (hposts rfl hs)⟩
      simpa [hs, RtState.cleared] using hself

end

end Sys2Proof.Machine

/-! Policer commands and shaper registers (R117, R119, R132); the registers of a port's MACsec and timestamps (R173 to R182). -/

namespace Sys2Proof.Machine

/-! What a plain write leaves in a field -/

theorem State.rd_wrPlain_of {a : Nat} {d : RegDesc} (h : regAt a = some d) (s : State) (v : Word) :
    (s.wrPlain a v).rd a = d.write (s.rd a) v := by
  rw [State.wrPlain, h]
  exact State.rd_wr_same s a _

/-- A block's list finds a register by one of its rows, where every row that holds the offset has these fields. -/
theorem find_holds {l : List RegDesc} {off : Nat} {fs : List FAcc} {d0 : RegDesc} (hmem : d0 ∈ l) (hd0 : d0.holds off = true)
    (hall : ∀ d ∈ l, d.holds off = true → d.fields = fs) : ∃ d, l.find? (fun d => d.holds off) = some d ∧ d.fields = fs := by
  obtain ⟨d, hd⟩ := Option.isSome_iff_exists.1 (List.find?_isSome (p := fun d : RegDesc => d.holds off) |>.2 ⟨d0, hmem, hd0⟩)
  exact ⟨d, hd, hall d (List.mem_of_find?_eq_some hd) (List.find?_some (p := fun d : RegDesc => d.holds off) hd)⟩

theorem Fld.get_mod (f : Fld) (v : Word) : f.get v % 2 ^ f.width = f.get v := Nat.mod_eq_of_lt (f.get_lt v)

section
variable {s : State} {m : Master} {v : Word}

/-! The traffic manager's registers -/

theorem State.regCommand_tmg {off : Nat} (hoff : off < 0x10000) (h : s.writable m (0x20040000 + off)) (v : Word) :
    s.regCommand m (0x20040000 + off) v = (s.seen m).tmgWrite off v := by
  have hblock : (0x20040000 + off) / 0x10000 = 0x2004 := by omega
  have hrest : (0x20040000 + off) % 0x10000 = off := by omega
  rw [State.regCommand_eq h (by simp only [blockAt, hblock]; rfl) (by omega)]
  simp only [State.regWrite, hblock, hrest]

theorem regAt_tmg {off : Nat} (hoff : off < 0x10000) : regAt (0x20040000 + off) = regsTMG.find? (fun d => d.holds off) := by
  have hblock : (0x20040000 + off) / 0x10000 = 0x2004 := by omega
  have hrest : (0x20040000 + off) % 0x10000 = off := by omega
  simp only [regAt, blockAt, hblock, hrest]

theorem regAt_shpCfg {k : Nat} (hk : k < 256) : ∃ d, regAt (TMG_SHP_CFG k) = some d ∧ d.fields = [.rw 23 0, .rw 29 24, .rw 31 31] := by
  have haddr : TMG_SHP_CFG k = 0x20040000 + (0x1000 + 8 * k) := by rw [TMG_SHP_CFG]; omega
  rw [haddr, regAt_tmg (by omega)]
  refine find_holds (d0 := ⟨0x1000, 8, 256, 4, 1, 0x14000000, [.rw 23 0, .rw 29 24, .rw 31 31]⟩) (by decide)
    ((RegDesc.holds_iff _).2 (by dsimp only; omega)) ?_
  simp only [regsTMG, regsTMG0, regsTMG1, List.cons_append, List.nil_append, List.forall_mem_cons, RegDesc.holds_iff, List.cons.injEq,
    FAcc.rw.injEq, reduceCtorEq, List.not_mem_nil, implies_true, false_implies, and_true, true_and]
  omega

/-! Shapers -/

theorem State.shpEn_wrPlain_cfg (s : State) {k : Nat} (hk : k < 256) (v : Word) :
    (s.wrPlain (TMG_SHP_CFG k) v).shpEn k = true ↔ TMG_SHP_CFG_en.get v = 1 := by
  obtain ⟨d, hd, hf⟩ := regAt_shpCfg hk
  have hget : TMG_SHP_CFG_en.get (d.write (s.rd (TMG_SHP_CFG k)) v) = TMG_SHP_CFG_en.get v := by
    simp (disch := decide) only [RegDesc.write, hf, List.foldl, FAcc.write, TMG_SHP_CFG_en, Fld.get_put, Fld.get_mod]
  have hlt := TMG_SHP_CFG_en.get_lt v
  rw [State.shpEn, State.fldB, State.fld, State.rd_wrPlain_of hd, hget, bne_iff_ne]
  have hw : 2 ^ TMG_SHP_CFG_en.width = 2 := rfl
  omega

/-- A shaper that is turned on starts with a full burst, any other keeps at most the new burst. -/
theorem State.shaperWrite_eq (s : State) (k a : Nat) (v : Word) :
    s.shaperWrite k a v = (s.wrPlain a v).setCredit k (if (s.wrPlain a v).shpEn k = true ∧ s.shpEn k = false then
      (((s.wrPlain a v).shpBurst k : Nat) : Int) else min (s.credit k) (((s.wrPlain a v).shpBurst k : Nat) : Int)) := by
  simp only [State.shaperWrite]
  generalize s.wrPlain a v = u
  cases u.shpEn k <;> cases s.shpEn k <;> simp

theorem State.shaperWrite_spec (s : State) (k a : Nat) (v : Word) :
    let t := s.shaperWrite k a v
    (∀ b, t.rd b = (s.wrPlain a v).rd b) ∧
    tget {} t.tm.shp k = { credit := (if t.shpEn k = true ∧ s.shpEn k = false then ((t.shpBurst k : Nat) : Int)
      else min (s.credit k) ((t.shpBurst k : Nat) : Int)), last := s.elapsed } ∧
    (∀ j, j ≠ k → tget {} t.tm.shp j = tget {} s.tm.shp j) ∧ t = { s with regs := t.regs, tm := { s.tm with shp := t.tm.shp } } := by
  have hw := (State.wroteRegs_wrPlain s v (List.mem_singleton_self a)).2
  rw [State.shaperWrite_eq]
  generalize s.wrPlain a v = u at hw ⊢
  refine ⟨fun b => rfl, ?_, fun j hj => ?_, ?_⟩
  · rw [State.setCredit, tget_tset (α := Shaper) {} {} _ _ _ _ (fun _ => rfl), if_pos rfl, hw]
    rfl
  · rw [State.setCredit, tget_tset (α := Shaper) {} {} _ _ _ _ (fun _ => rfl), if_neg hj, hw]
  · rw [State.setCredit, hw]

theorem State.seen_shpEn (s : State) (m : Master) (k : Nat) : (s.seen m).shpEn k = s.shpEn k := s.seen_fldB m _ _

theorem State.seen_credit (s : State) (m : Master) (k : Nat) : (s.seen m).credit k = s.credit k := by
  simp only [State.credit, State.seen_shpEn, State.shpBurst, State.seen_fld, State.seen_tm, State.seen_elapsed]

theorem gives_shaperConfigWrite (k : Fin 256) (b : Bool) (v : Word) :
    let a := if b then TMG_SHP_BURST k.val else TMG_SHP_CFG k.val
    s.writable m a →
    Gives (.shaperConfigWrite m k b v) s (fun t => t.rd a = (s.wrPlain a v).rd a ∧
      (b = false → (t.shpEn k = true ↔ TMG_SHP_CFG_en.get v = 1)) ∧
      tget {} t.tm.shp k = { credit := (if t.shpEn k = true ∧ s.shpEn k = false then ((t.shpBurst k : Nat) : Int)
        else min (s.credit k) ((t.shpBurst k : Nat) : Int)), last := s.elapsed } ∧
      (∀ j, j ≠ k.val → tget {} t.tm.shp j = tget {} s.tm.shp j) ∧ s.onlyRegs t [a] ∧
      t = { s.seen m with regs := t.regs, tm := { s.tm with shp := t.tm.shp } }) := by
  intro a hw
  obtain ⟨off, ha, hoff, hlo, hhi, hk⟩ : ∃ off, a = 0x20040000 + off ∧ off < 0x10000 ∧ 0x1000 ≤ off ∧ off < 0x1800 ∧ (off - 0x1000) / 8 = k.val := by
    have := k.isLt
    cases b with
    | true => exact ⟨0x1004 + 8 * k.val, by show TMG_SHP_BURST k.val = _; rw [TMG_SHP_BURST]; omega, by omega, by omega, by omega, by omega⟩
    | false => exact ⟨0x1000 + 8 * k.val, by show TMG_SHP_CFG k.val = _; rw [TMG_SHP_CFG]; omega, by omega, by omega, by omega, by omega⟩
  have hwrite : s.regCommand m a v = (s.seen m).shaperWrite k a v := by
    rw [ha] at hw ⊢
    rw [State.regCommand_tmg hoff hw, State.tmgWrite, if_neg (by omega), if_neg (by omega), if_pos ⟨hlo, hhi⟩, hk]
  obtain ⟨hrd, hself, hothers, heq⟩ := (s.seen m).shaperWrite_spec k a v
  rw [State.seen_shpEn, State.seen_credit, State.seen_elapsed] at hself
  rw [State.seen_tm] at hothers heq
  have hrd' : ∀ c, ((s.seen m).shaperWrite k a v).rd c = (s.wrPlain a v).rd c := fun c =>
    (hrd c).trans (State.wrPlain_seen_rd s m a v c)
  refine ⟨_, congrArg Host.Outcome.next hwrite, hrd' a, fun hb => ?_, hself, hothers,
    fun c hc _ => (hrd' c).trans ((State.wroteRegs_wrPlain s v (List.mem_singleton_self a)).1 c hc), heq⟩
  subst hb
  have hen := s.shpEn_wrPlain_cfg k.isLt v
  rw [State.shpEn, State.fldB, State.fld] at hen ⊢
  rw [hrd']
  exact hen

/-! Policers -/

/-- The registers that a read of a policer shows it in. -/
def polRegs : List Nat := [TMG_POL_RATE, TMG_POL_BURST, TMG_POL_LEVEL, TMG_POL_PASS, TMG_POL_DROP]

/-- A policer's level now: an enabled one's has risen. -/
def Policer.now (x : Policer) (elapsed : Nat) : Int := if x.en then x.levelAt elapsed else x.level

/-- The registers show a policer. -/
def State.showsPol (t : State) (elapsed : Nat) (y : Policer) : Prop :=
  t.rd TMG_POL_RATE = BitVec.ofNat 32 (y.rate + boolNat y.en * 2 ^ 31) ∧ t.rd TMG_POL_BURST = BitVec.ofNat 32 y.burst ∧
  t.rd TMG_POL_LEVEL = BitVec.ofInt 32 (y.now elapsed / (unitsPerByte : Int)) ∧
  t.rd TMG_POL_PASS = BitVec.ofNat 32 y.pass ∧ t.rd TMG_POL_DROP = BitVec.ofNat 32 y.drop

theorem State.showsPol_congr {t u : State} {elapsed : Nat} {y : Policer} (h : u.regs = t.regs) (ht : t.showsPol elapsed y) :
    u.showsPol elapsed y := by
  simp only [State.showsPol, State.rd_congr h]
  exact ht

theorem State.polRead_spec (s : State) (p : Nat) : (s.polRead p).showsPol s.elapsed (s.pol p) ∧ s.wroteRegs (s.polRead p) polRegs := by
  have hw : ∀ (u : State) (a : Nat) (v : Word), a ∈ polRegs → u.wroteRegs (u.wr a v) polRegs := fun u a v ha => State.wroteRegs_wr u v ha
  refine ⟨⟨?_, ?_, ?_, ?_, ?_⟩, ?_⟩
  iterate 5 simp (disch := decide) only [State.polRead, State.rd_wr_ne, State.rd_wr_same, Policer.now]
  exact ((((hw _ _ _ (by decide)).trans (hw _ _ _ (by decide))).trans (hw _ _ _ (by decide))).trans (hw _ _ _ (by decide))).trans
    (hw _ _ _ (by decide))

theorem State.pol_setPol (s : State) (p : Nat) (x : Policer) (q : Nat) : (s.setPol p x).pol q = if q = p then x else s.pol q :=
  tget_tset (α := Policer) {} {} _ _ _ _ (fun _ => rfl)

/-- One policer becomes another value, and nothing else changes. -/
def State.polTo (s t : State) (p : Nat) (x : Policer) : Prop :=
  t.pol p = x ∧ (∀ q, q ≠ p → t.pol q = s.pol q) ∧ t = { s with tm := { s.tm with pol := t.tm.pol } }

theorem State.polTo_setPol (s : State) (p : Nat) (x : Policer) : s.polTo (s.setPol p x) p x :=
  ⟨by rw [State.pol_setPol, if_pos rfl], fun q hq => by rw [State.pol_setPol, if_neg hq], rfl⟩

theorem State.polTo.refl (s : State) (p : Nat) : s.polTo s p (s.pol p) := ⟨rfl, fun _ _ => rfl, rfl⟩

/-- What the write command makes of a policer (R117, R132). -/
def State.polWrote (s : State) (p : Nat) : Policer :=
  let x := s.pol p
  let burst := s.fld TMG_POL_BURST TMG_POL_BURST_burst_bytes
  let en := s.fldB TMG_POL_RATE TMG_POL_RATE_en
  { x with
    rate := s.fld TMG_POL_RATE TMG_POL_RATE_rate_kbps, burst := burst, en := en, last := s.elapsed
    level := if en = true ∧ x.en = false then ((burst * unitsPerByte : Nat) : Int)
      else min (x.now s.elapsed) ((burst * unitsPerByte : Nat) : Int) }

theorem State.polWrite_eq (s : State) (p : Nat) : s.polWrite p = s.setPol p (s.polWrote p) := by
  simp only [State.polWrite, State.polSet, State.polWrote, Policer.now]
  congr 1
  cases s.fldB TMG_POL_RATE TMG_POL_RATE_en <;> cases (s.pol p).en <;> simp

/-- The parts of a policer command, write before read before clr (R132). -/
def State.polParts (s : State) (p : Nat) (write read clr : Bool) : State :=
  let s1 := if write then s.polWrite p else s
  let s2 := if read then s1.polRead p else s1
  if clr then s2.polClr p else s2

/-- What a policer command leaves. -/
def State.polAfter (s t : State) (p : Nat) (write read clr : Bool) : Prop :=
  let y := if write then s.polWrote p else s.pol p
  t.pol p = (if clr then { y with pass := 0, drop := 0 } else y) ∧ (read = true → t.showsPol s.elapsed y) ∧
  (read = false → t.regs = s.regs) ∧ (∀ q, q ≠ p → t.pol q = s.pol q) ∧ s.onlyRegs t polRegs ∧
  t = { s with regs := t.regs, tm := { s.tm with pol := t.tm.pol } }

theorem State.polAfter_polParts (s : State) (p : Nat) (write read clr : Bool) :
    s.polAfter (s.polParts p write read clr) p write read clr := by
  have h1 : s.polTo (if write then s.polWrite p else s) p (if write then s.polWrote p else s.pol p) := by
    cases write with
    | true => exact s.polWrite_eq p ▸ s.polTo_setPol p _
    | false => exact State.polTo.refl s p
  simp only [State.polParts, State.polAfter]
  generalize (if write then s.polWrite p else s) = s1 at h1 ⊢
  generalize (if write then s.polWrote p else s.pol p) = y at h1 ⊢
  obtain ⟨hself, hothers, heq⟩ := h1
  have hregs : s1.regs = s.regs := by rw [heq]
  have hnow : s1.elapsed = s.elapsed := by rw [heq]
  have h2 : s1.wroteRegs (if read then s1.polRead p else s1) polRegs ∧
      (read = true → (if read then s1.polRead p else s1).showsPol s.elapsed y) ∧
      (read = false → (if read then s1.polRead p else s1).regs = s.regs) := by
    cases read with
    | true =>
      obtain ⟨hshow, hwrote⟩ := s1.polRead_spec p
      exact ⟨hwrote, fun _ => hnow ▸ hself ▸ hshow, fun h => Bool.noConfusion h⟩
    | false => exact ⟨State.wroteRegs.refl s1 _, fun h => Bool.noConfusion h, fun _ => hregs⟩
  generalize (if read then s1.polRead p else s1) = s2 at h2 ⊢
  obtain ⟨⟨hrd, he⟩, hshow, hsame⟩ := h2
  have hpol : ∀ q, s2.pol q = s1.pol q := fun q => by rw [he]; rfl
  have honly : s.onlyRegs s2 polRegs := fun a ha _ => (hrd a ha).trans (State.rd_congr hregs a)
  have heq2 : s2 = { s with regs := s2.regs, tm := { s.tm with pol := s2.tm.pol } } := by
    have htm : s2.tm = s1.tm := by rw [he]
    rw [htm]
    exact he.trans (by rw [heq])
  cases clr with
  | false =>
    simp only [Bool.false_eq_true, if_false]
    exact ⟨(hpol p).trans hself, hshow, hsame, fun q hq => (hpol q).trans (hothers q hq), honly, heq2⟩
  | true =>
    simp only [if_true]
    obtain ⟨hclr, hrest, -⟩ := s2.polTo_setPol p { s2.pol p with pass := 0, drop := 0 }
    refine ⟨hclr.trans (by rw [hpol, hself]), hshow, hsame, fun q hq => (hrest q hq).trans ((hpol q).trans (hothers q hq)), honly, ?_⟩
    obtain ⟨r, l, rfl⟩ : ∃ r l, s2 = { s with regs := r, tm := { s.tm with pol := l } } := ⟨_, _, heq2⟩
    rfl

theorem State.tmgWrite_polCmd (s : State) (w : Word) : s.tmgWrite 0x40C w =
    s.polParts (s.fld TMG_POL_SEL TMG_POL_SEL_index) (w.toNat.testBit 0) (w.toNat.testBit 1) (w.toNat.testBit 2) := rfl

theorem State.polAfter_seen (s t : State) {p : Nat} {write read clr : Bool} (h : (s.seen m).polAfter t p write read clr) :
    (let y := if write then s.polWrote p else s.pol p
     t.pol p = (if clr then { y with pass := 0, drop := 0 } else y) ∧ (read = true → t.showsPol s.elapsed y) ∧
     (read = false → t.regs = s.regs) ∧ (∀ q, q ≠ p → t.pol q = s.pol q) ∧ s.onlyRegs t polRegs ∧
     t = { s.seen m with regs := t.regs, tm := { s.tm with pol := t.tm.pol } }) := by
  have hwrote : (s.seen m).polWrote p = s.polWrote p := by
    rw [State.polWrote, State.polWrote, State.seen_pol, State.seen_fld, State.seen_fld, State.seen_fldB, State.seen_elapsed]
  simp only [State.polAfter, hwrote, State.seen_pol, State.seen_elapsed, State.seen_regs, State.seen_tm] at h
  obtain ⟨hself, hshow, hsame, hothers, honly, heq⟩ := h
  exact ⟨hself, hshow, hsame, hothers, State.onlyRegs_seen honly, heq.trans (by simp only [State.seen_elapsed])⟩

/-- A policer command runs the parts whose bits its word has. -/
theorem gives_polCommand {c : Instr} {w : Word} {write read clr : Bool} (hc : exec c s = .next (s.regCommand m TMG_POL_CMD w))
    (h : s.writable m TMG_POL_CMD) (h0 : w.toNat.testBit 0 = write) (h1 : w.toNat.testBit 1 = read) (h2 : w.toNat.testBit 2 = clr) :
    Gives c s (fun t =>
      let p := s.fld TMG_POL_SEL TMG_POL_SEL_index
      let y := if write then s.polWrote p else s.pol p
      t.pol p = (if clr then { y with pass := 0, drop := 0 } else y) ∧ (read = true → t.showsPol s.elapsed y) ∧
      (read = false → t.regs = s.regs) ∧ (∀ q, q ≠ p → t.pol q = s.pol q) ∧ s.onlyRegs t polRegs ∧
      t = { s.seen m with regs := t.regs, tm := { s.tm with pol := t.tm.pol } }) := by
  have hw := State.regCommand_tmg (off := 0x40C) (by decide) h w
  rw [State.tmgWrite_polCmd, State.seen_fld, h0, h1, h2] at hw
  exact ⟨_, hc.trans (congrArg Host.Outcome.next hw), State.polAfter_seen s _ (State.polAfter_polParts _ _ _ _ _)⟩

/-- Settles O28: a policer command as its parts in order, a shaper's write as the register and the credit that follows it. -/
theorem policersAndShapers : Obligations.PolicersAndShapers := by
  unfold Obligations.PolicersAndShapers
  intro s m v
  refine ⟨fun hw => ?_, fun hw => ?_, fun hw => ?_, fun k b hw => ?_⟩
  · exact gives_polCommand rfl hw (testBit_or_set v 1 (i := 0) (by decide) rfl) (testBit_or_clear v (k := 1) (i := 1) rfl)
      (testBit_or_clear v (k := 1) (i := 2) rfl)
  · exact gives_polCommand rfl hw (testBit_or_clear v (k := 2) (i := 0) rfl) (testBit_or_set v 2 (i := 1) (by decide) rfl)
      (testBit_or_clear v (k := 2) (i := 2) rfl)
  · exact gives_polCommand rfl hw (testBit_or_clear v (k := 4) (i := 0) rfl) (testBit_or_clear v (k := 4) (i := 1) rfl)
      (testBit_or_set v 4 (i := 2) (by decide) rfl)
  · exact gives_shaperConfigWrite k b v hw

end

end Sys2Proof.Machine

/-! The registers of a port's MACsec associations and of its timestamps (R173, R174, R177, R181, R182). -/

namespace Sys2Proof.Machine

section
variable {s : State} {m : Master} {v : Word}

theorem State.port_setPort (s : State) (p : Nat) (x : EthPort) (q : Nat) : (s.setPort p x).port q = if q = p then x else s.port q :=
  tget_tset (α := EthPort) {} {} _ _ _ _ (fun _ => rfl)

@[simp] theorem State.port_setPort_self (s : State) (p : Nat) (x : EthPort) : (s.setPort p x).port p = x := by
  rw [State.port_setPort, if_pos rfl]

theorem State.port_setPort_ne (s : State) {p q : Nat} (x : EthPort) (h : q ≠ p) : (s.setPort p x).port q = s.port q := by
  rw [State.port_setPort, if_neg h]

theorem State.seen_port (s : State) (m : Master) (p : Nat) : (s.seen m).port p = s.port p := by simp [State.port]

theorem State.seen_xpn (s : State) (m : Master) (p : Nat) : (s.seen m).xpn p = s.xpn p := s.seen_fldB m _ _

/-! The words of an association -/

/-- Word `k + 1` that is staged for an association, as it takes effect (R173). -/
def State.saStaged (s : State) (p e k : Nat) : Option Word :=
  ((s.port p).staged.find? (fun y => y.1 == 8 * e + (k + 1))).map (fun y => if k = 6 ∨ (k = 2 ∧ !s.xpn p) then 0 else y.2)

/-- That word takes effect. -/
def State.saStep (s : State) (p e : Nat) (t : State) (k : Nat) : State := (s.saStaged p e k).elim t (t.wr (saAddr p e (k + 1)))

theorem State.saWrite_word0 (s : State) (p e : Nat) (v : Word) :
    s.saWrite p e 0 v = (((List.range 7).foldl (s.saStep p e) s).wr (saAddr p e 0) (BitVec.ofNat 32 (v.toNat % 128))).setPort p
      { s.port p with staged := (s.port p).staged.filter (fun y => y.1 / 8 != e), warned := (s.port p).warned.filter (· != e) } := by
  have hstep : s.saStep p e = fun t k =>
      match (s.port p).staged.find? (fun y => y.1 == 8 * e + (k + 1)) with
      | some y => t.wr (saAddr p e (k + 1)) (if k = 6 ∨ (k = 2 ∧ !s.xpn p) then 0 else y.2)
      | none => t := by
    funext t k
    rw [State.saStep, State.saStaged]
    cases (s.port p).staged.find? (fun y => y.1 == 8 * e + (k + 1)) <;> rfl
  rw [hstep]
  rfl

theorem State.wroteRegs_saStep (s : State) (p e : Nat) (t : State) {k : Nat} (hk : k < 7) :
    t.wroteRegs (s.saStep p e t k) ((List.range 8).map (saAddr p e)) := by
  rw [State.saStep]
  cases s.saStaged p e k with
  | none => exact State.wroteRegs.refl t _
  | some w => exact State.wroteRegs_wr t w (List.mem_map.2 ⟨k + 1, List.mem_range.2 (by omega), rfl⟩)

/-- The first `n` words staged, in effect. -/
theorem State.foldl_saStep (s : State) (p e : Nat) {n : Nat} (hn : n ≤ 7) :
    let t := (List.range n).foldl (s.saStep p e) s
    s.wroteRegs t ((List.range 8).map (saAddr p e)) ∧
    ∀ k, t.rd (saAddr p e (k + 1)) = if k < n then (s.saStaged p e k).getD (s.rd (saAddr p e (k + 1))) else s.rd (saAddr p e (k + 1)) := by
  induction n with
  | zero => exact ⟨State.wroteRegs.refl s _, fun k => rfl⟩
  | succ n ih =>
    obtain ⟨hwrote, hrd⟩ := ih (by omega)
    rw [List.range_succ, List.foldl_append, List.foldl_cons, List.foldl_nil]
    generalize (List.range n).foldl (s.saStep p e) s = u at hwrote hrd ⊢
    refine ⟨hwrote.trans (s.wroteRegs_saStep p e u (by omega)), fun k => ?_⟩
    have haddr : saAddr p e (k + 1) = saAddr p e (n + 1) ↔ k = n := by simp only [saAddr]; omega
    have hstep : (s.saStep p e u n).rd (saAddr p e (k + 1)) =
        if k = n then (s.saStaged p e k).getD (u.rd (saAddr p e (k + 1))) else u.rd (saAddr p e (k + 1)) := by
      rw [State.saStep]
      by_cases hk : k = n
      · subst hk
        rw [if_pos rfl]
        cases s.saStaged p e k with
        | none => rfl
        | some w => exact State.rd_wr_same u _ w
      · rw [if_neg hk]
        cases s.saStaged p e n with
        | none => rfl
        | some w => exact State.rd_wr_ne u w (fun h => hk (haddr.1 h))
    rw [hstep, hrd]
    by_cases hk : k = n
    · subst hk
      simp
    · have hlt : k < n + 1 ↔ k < n := by omega
      simp only [hk, hlt, if_false]

/-- What the write of word 0 leaves. -/
theorem State.saWrite_word0_spec (s : State) (p e : Nat) (v : Word) :
    let t := s.saWrite p e 0 v
    t.sa p e 0 = v.toNat % 128 ∧ (∀ q, t.port q = if q = p then
      { s.port p with staged := (s.port p).staged.filter (fun y => y.1 / 8 != e), warned := (s.port p).warned.filter (· != e) }
      else s.port q) ∧
    (∀ k < 7, t.rd (saAddr p e (k + 1)) = (s.saStaged p e k).getD (s.rd (saAddr p e (k + 1)))) ∧
    (∀ a, a ∉ (List.range 8).map (saAddr p e) → t.rd a = s.rd a) ∧ t = { s with regs := t.regs, eth := t.eth } := by
  obtain ⟨⟨hkeep, heq⟩, hwords⟩ := s.foldl_saStep p e (n := 7) (Nat.le_refl 7)
  rw [State.saWrite_word0]
  generalize (List.range 7).foldl (s.saStep p e) s = u at hkeep heq hwords ⊢
  have hport : ∀ q, (u.wr (saAddr p e 0) (BitVec.ofNat 32 (v.toNat % 128))).port q = s.port q := fun q => by rw [heq]; rfl
  have hrd : ∀ x a, ((u.wr (saAddr p e 0) (BitVec.ofNat 32 (v.toNat % 128))).setPort p x).rd a =
      if a = saAddr p e 0 then BitVec.ofNat 32 (v.toNat % 128) else u.rd a := fun x a => State.rd_wr u _ a _
  refine ⟨?_, fun q => ?_, fun k hk => ?_, fun a ha => ?_, ?_⟩
  · rw [State.sa, hrd, if_pos rfl, BitVec.toNat_ofNat]
    omega
  · rw [State.port_setPort, hport]
  · rw [hrd, if_neg (by simp only [saAddr]; omega), hwords, if_pos hk]
  · rw [hrd, if_neg (fun h => ha (List.mem_map.2 ⟨0, by decide, h.symm⟩)), hkeep a ha]
  · rw [heq]
    rfl

theorem regCommand_saWord0 {p e : Nat} (hp : p < 20) (he : e < 36) (h : s.writable m (saAddr p e 0)) (v : Word) :
    s.regCommand m (saAddr p e 0) v = (s.seen m).saWrite p e 0 v := by
  have haddr : saAddr p e 0 = 0x20080000 + 0x1000 * p + (0x200 + 32 * e) := by rw [saAddr]; omega
  have hentry : (0x200 + 32 * e - 0x200) / 32 = e := by omega
  have hword : (0x200 + 32 * e) % 32 / 4 = 0 := by omega
  rw [haddr] at h ⊢
  rw [State.regCommand_eth (by omega) (by omega) h, State.ethWrite, if_neg (by omega), if_neg (by omega), if_neg (by omega),
    if_neg (by omega), if_pos (by omega), if_neg (by omega), if_pos (by omega), hentry, hword]

/-! The configuration of a port's MACsec, and the timestamp queue -/

theorem regAt_eth {n off : Nat} (hn : n < 28) (hoff : off < 0x1000) :
    regAt (0x20080000 + 0x1000 * n + off) = regsETH.find? (fun d => d.holds off) := by
  simp only [regAt, blockAt_eth hn hoff]

theorem regAt_secCfg {p : Nat} (hp : p < 28) : ∃ d, regAt (ETH_SEC_CFG p) = some d ∧
    d.fields = [.rw 0 0, .rw 1 1, .rw 2 2, .rw 4 3, .rw 5 5, .rw 6 6, .rw 7 7, .rw 9 8] := by
  have haddr : ETH_SEC_CFG p = 0x20080000 + 0x1000 * p + 0x100 := by rw [ETH_SEC_CFG]; omega
  rw [haddr, regAt_eth hp (by decide)]
  exact ⟨_, rfl, rfl⟩

theorem regCommand_secCfg {p : Nat} (hp : p < 20) (h : s.writable m (ETH_SEC_CFG p)) (v : Word) :
    s.regCommand m (ETH_SEC_CFG p) v = (s.seen m).wrPlain (ETH_SEC_CFG p) v := by
  have haddr : ETH_SEC_CFG p = 0x20080000 + 0x1000 * p + 0x100 := by rw [ETH_SEC_CFG]; omega
  rw [haddr] at h ⊢
  rw [State.regCommand_eth (by omega) (by decide) h, State.ethWrite, if_neg (by decide), if_neg (by decide), if_neg (by decide),
    if_neg (by decide), if_pos (by decide), if_neg (by omega), if_neg (by decide)]

theorem regCommand_txtsAck {p : Nat} (hp : p < 28) (h : s.writable m (ETH_TXTS_ACK p)) (v : Word) (h0 : v.toNat.testBit 0 = true) :
    s.regCommand m (ETH_TXTS_ACK p) v = (s.seen m).setPort p { s.port p with txts := (s.port p).txts.drop 1 } := by
  have haddr : ETH_TXTS_ACK p = 0x20080000 + 0x1000 * p + 0x9C := by rw [ETH_TXTS_ACK]; omega
  rw [haddr] at h ⊢
  rw [State.regCommand_eth hp (by decide) h, State.ethWrite, if_neg (by decide), if_pos rfl, if_pos h0, State.seen_port]

/-- Settles O27: word 0 as the words staged for it, a configuration as a plain write, an acknowledgement as one timestamp less. -/
theorem securePorts : Obligations.SecurePorts := by
  unfold Obligations.SecurePorts
  intro s m v
  refine ⟨fun p e hw => ?_, fun p hw => ?_, fun p hw => ?_⟩
  · obtain ⟨h0, hport, hwords, hkeep, heq⟩ := (s.seen m).saWrite_word0_spec p e v
    have hstaged : ∀ k, (s.seen m).saStaged p e k = s.saStaged p e k := fun k => by
      rw [State.saStaged, State.saStaged, State.seen_port, State.seen_xpn]
    simp only [State.seen_port] at hport
    refine ⟨_, congrArg Host.Outcome.next (regCommand_saWord0 p.isLt e.isLt hw v), h0, (hport p).trans (if_pos rfl), fun k hk => ?_,
      fun a ha _ => (hkeep a ha).trans (State.seen_rd s m a), fun q hq => (hport q).trans (if_neg hq), heq⟩
    have hword := hwords k hk
    rw [hstaged, State.seen_rd, State.saStaged] at hword
    rw [State.sa, hword]
    cases hfind : (s.port p).staged.find? (fun y => y.1 == 8 * e.val + (k + 1)) with
    | none => rfl
    | some y =>
      by_cases hz : k = 6 ∨ (k = 2 ∧ s.xpn p = false)
      · simp [hz]
      · simp [hz]
  · obtain ⟨d, hd, hf⟩ := regAt_secCfg (p := p) (by omega)
    have hrd : ∀ f : Fld, ((s.seen m).wrPlain (ETH_SEC_CFG p) v).fld (ETH_SEC_CFG p) f = f.get (d.write (s.rd (ETH_SEC_CFG p)) v) := fun f => by
      rw [State.fld, State.rd_wrPlain_of hd, State.seen_rd]
    have hwrote := State.wroteRegs_wrPlain (s.seen m) v (List.mem_singleton_self (ETH_SEC_CFG p))
    refine ⟨_, congrArg Host.Outcome.next (regCommand_secCfg p.isLt hw v), (hrd _).trans ?_, (hrd _).trans ?_, (hrd _).trans ?_,
      State.onlyRegs_seen hwrote.onlyRegs, hwrote.2⟩ <;>
    simp (disch := decide) only [RegDesc.write, hf, List.foldl, FAcc.write, ETH_SEC_CFG_tx_an, ETH_SEC_CFG_tx_en, ETH_SEC_CFG_rx_en,
      Fld.get_put_ne, Fld.get_put, Fld.get_mod]
  · have h0 : (v ||| 1).toNat.testBit 0 = true := testBit_or_set v 1 (by decide) rfl
    refine ⟨_, congrArg Host.Outcome.next (regCommand_txtsAck p.isLt hw (v ||| 1) h0), State.port_setPort_self _ _ _, fun q hq => ?_, rfl⟩
    rw [State.port_setPort_ne _ _ hq, State.seen_port]

end

end Sys2Proof.Machine

/-! Registers and events alone: what many commands change. The berm and port registers (R87, R90, R111). -/

namespace Sys2Proof.Machine

/-- Registers of a list and events may have changed, and nothing else. -/
def State.wroteEvents (s t : State) (l : List Nat) : Prop := s.onlyRegs t l ∧ s.regFrame t

section
variable {s t u : State} {l l' : List Nat}

theorem State.wroteEvents.refl (s : State) (l : List Nat) : s.wroteEvents s l := ⟨State.onlyRegs.refl s l, rfl⟩

theorem State.wroteEvents.trans (h1 : s.wroteEvents t l) (h2 : t.wroteEvents u l) : s.wroteEvents u l := by
  obtain ⟨hrd1, he1⟩ := h1
  obtain ⟨hrd2, he2⟩ := h2
  refine ⟨fun a ha hl => (hrd2 a ha hl).trans (hrd1 a ha hl), ?_⟩
  rw [State.regFrame] at he1 he2 ⊢
  rw [he2, he1]

theorem State.wroteEvents.mono (h : s.wroteEvents t l) (hl : ∀ a ∈ l, a ∈ l') : s.wroteEvents t l' :=
  ⟨fun a ha hlost => h.1 a (fun h' => ha (hl a h')) hlost, h.2⟩

theorem State.wroteRegs.wroteEvents (h : s.wroteRegs t l) : s.wroteEvents t l := by
  refine ⟨h.onlyRegs, ?_⟩
  have he := h.2
  rw [State.regFrame, he]

theorem State.wroteEvents_setFld (s : State) {a : Nat} (f : Fld) (v : Nat) (ha : a ∈ l) : s.wroteEvents (s.setFld a f v) l :=
  (State.wroteRegs_setFld s f v ha).wroteEvents

theorem State.wroteEvents_wr (s : State) {a : Nat} (v : Word) (ha : a ∈ l) : s.wroteEvents (s.wr a v) l :=
  (State.wroteRegs_wr s v ha).wroteEvents

theorem State.wroteEvents_wrPlain (s : State) {a : Nat} (v : Word) (ha : a ∈ l) : s.wroteEvents (s.wrPlain a v) l :=
  (State.wroteRegs_wrPlain s v ha).wroteEvents

theorem State.wroteEvents_raise (s : State) {c k : Nat} (i d : Nat) (hc : c < 0x1100) (hk : k < 7) (hb : bankEvent c = false) :
    s.wroteEvents (s.raise c k i d) l :=
  ⟨(s.raise_frame c k i d hc).onlyRegs l, s.raise_regFrame i d hc hk hb⟩

theorem State.wroteEvents_raiseLim (s : State) {c k : Nat} (i d : Nat) (hc : c < 0x1100) (hk : k < 7) (hb : bankEvent c = false) :
    s.wroteEvents (s.raiseLim c k i d) l :=
  ⟨(s.raiseLim_frame c k i d hc).onlyRegs l, s.raiseLim_regFrame i d hc hk hb⟩

theorem State.wroteEvents_ite {p : Prop} [Decidable p] (ht : s.wroteEvents t l) (hu : s.wroteEvents u l) :
    s.wroteEvents (if p then t else u) l := by
  split
  · exact ht
  · exact hu

theorem State.wroteEvents_foldl {α : Type} (f : State → α → State) (xs : List α)
    (hf : ∀ (t : State) (x : α), x ∈ xs → t.wroteEvents (f t x) l) (s : State) : s.wroteEvents (xs.foldl f s) l :=
  List.foldlRecOn (motive := fun t => s.wroteEvents t l) xs f (.refl s l) fun t ht x hx => ht.trans (hf t x hx)

end

/-! The banks' spill registers (R90) -/

theorem mem_spillRegs {b : Nat} (hb : b < 8) : SWC_BANK_SPILL b ∈ spillRegs := List.mem_map.2 ⟨b, List.mem_range.2 hb, rfl⟩

theorem State.wroteEvents_spillCheck (s : State) {b : Nat} (hb : b < 8) : s.wroteEvents (s.spillCheck b) spillRegs := by
  have ha := mem_spillRegs hb
  simp only [State.spillCheck]
  refine State.wroteEvents_ite (State.wroteEvents_ite ?_ (.refl s _)) (State.wroteEvents_ite ?_ (.refl s _))
  · exact ((State.wroteEvents_setFld s _ _ ha).trans (State.wroteEvents_setFld _ _ _ ha)).trans
      (State.wroteEvents_raise _ b 0 (by decide) (by decide) rfl)
  · exact (State.wroteEvents_setFld s _ _ ha).trans (State.wroteEvents_raise _ b 0 (by decide) (by decide) rfl)

theorem State.wroteEvents_chooseTarget (s : State) {b : Nat} (hb : b < 8) : s.wroteEvents (s.chooseTarget b) spillRegs := by
  have ha := mem_spillRegs hb
  have htwo : ∀ (f g : Fld) (x y : Nat), s.wroteEvents ((s.setFld (SWC_BANK_SPILL b) f x).setFld (SWC_BANK_SPILL b) g y) spillRegs :=
    fun f g x y => (State.wroteEvents_setFld s f x ha).trans (State.wroteEvents_setFld _ g y ha)
  simp only [State.chooseTarget]
  split
  · exact htwo _ _ _ _
  · exact State.wroteEvents_ite (htwo _ _ _ _) ((htwo _ _ _ _).trans (State.wroteEvents_raise _ b 0 (by decide) (by decide) rfl))

theorem State.wroteEvents_spillTarget (was s : State) {b : Nat} (hb : b < 8) : s.wroteEvents (was.spillTarget s b) spillRegs :=
  State.wroteEvents_ite (s.wroteEvents_chooseTarget hb) (.refl s _)

/-- Any change of the banks' pools changes no more than their spill registers, and raises events. -/
theorem State.wroteEvents_spillAll (s : State) : s.wroteEvents s.spillAll spillRegs := by
  rw [State.spillAll]
  have h1 := State.wroteEvents_foldl State.spillCheck (List.range 8) (fun t b hb => t.wroteEvents_spillCheck (List.mem_range.1 hb)) s
  exact h1.trans (State.wroteEvents_foldl s.spillTarget (List.range 8)
    (fun t b hb => State.wroteEvents_spillTarget s t (List.mem_range.1 hb)) _)

/-! The berm and port registers -/

section
variable {s : State} {m : Master} {v : Word}

theorem State.regCommand_swc {off : Nat} (hoff : off < 0x10000) (h : s.writable m (0x20030000 + off)) (v : Word) :
    s.regCommand m (0x20030000 + off) v = (s.seen m).swcWrite off v := by
  have hblock : (0x20030000 + off) / 0x10000 = 0x2003 := by omega
  have hrest : (0x20030000 + off) % 0x10000 = off := by omega
  rw [State.regCommand_eq h (by simp only [blockAt, hblock]; rfl) (by omega)]
  simp only [State.regWrite, hblock, hrest]

/-- A berm is judged by registers alone. -/
theorem State.bermTotal_congr {t u : State} (h : ∀ a, u.rd a = t.rd a) (b : Nat) : u.bermTotal b = t.bermTotal b := by
  have hfld : ∀ a f, u.fld a f = t.fld a f := fun a f => by rw [State.fld, State.fld, h]
  have hen : u.portEn = t.portEn := funext fun i => by rw [State.portEn, State.portEn, State.fldB, State.fldB, hfld]
  have hberm : ∀ c, u.bermOf c = t.bermOf c := fun c => funext fun i => by rw [State.bermOf, State.bermOf, h]
  simp only [State.bermTotal, hen, hberm]

/-- A write that some bank's berm does not allow. -/
theorem State.bermWrite_of_exceeds {a : Nat} (h : ∃ b < 8, 12288 < (s.wrPlain a v).bermTotal b) :
    s.bermWrite a v = (s.setFld SWC_STATUS SWC_STATUS_berm_refused 1).raise 0x0401 2 := by
  obtain ⟨b, hb, hlt⟩ := h
  exact if_pos (List.any_eq_true.2 ⟨b, List.mem_range.2 hb, decide_eq_true hlt⟩)

theorem State.bermWrite_of_fits {a : Nat} (h : ∀ b < 8, (s.wrPlain a v).bermTotal b ≤ 12288) :
    s.bermWrite a v = (s.wrPlain a v).spillAll := by
  refine if_neg fun hany => ?_
  obtain ⟨b, hb, hlt⟩ := List.any_eq_true.1 hany
  exact absurd (h b (List.mem_range.1 hb)) (Nat.not_le.2 (of_decide_eq_true hlt))

/-- The registers that have a berm's size or a port's enable: the four bytes of a berm, and the port configurations. -/
theorem regCommand_berm {a off : Nat} (ha : a = 0x20030000 + off) (hoff : (0x100 ≤ off ∧ off < 0x180) ∨ (0x200 ≤ off ∧ off < 0x240))
    (h : s.writable m a) (v : Word) : s.regCommand m a v = (s.seen m).bermWrite a v := by
  subst ha
  rw [State.regCommand_swc (by omega) h, State.swcWrite, if_pos hoff]

/-- Settles O26: a write that some bank's berm does not allow is one status bit and one event, any other the register and the spills. -/
theorem bermWrites : Obligations.BermWrites := by
  unfold Obligations.BermWrites
  intro s m k v a hw
  obtain ⟨off, ha, hoff⟩ : ∃ off, a = 0x20030000 + off ∧ ((0x100 ≤ off ∧ off < 0x180) ∨ (0x200 ≤ off ∧ off < 0x240)) := by
    have hk := k.isLt
    by_cases h : k.val < 32
    · exact ⟨0x100 + 4 * k.val, by simp only [a, if_pos h, SWC_PORT_CFG]; omega, by omega⟩
    · exact ⟨0x200 + 4 * (k.val - 32), by simp only [a, if_neg h, SWC_BERM_LO]; omega, by omega⟩
  have hx : exec (.bermConfigWrite m k v) s = .next (s.regCommand m a v) := rfl
  clear_value a
  have hwrite := regCommand_berm ha hoff hw v
  have hlost : a < FLT_SRC_LOST 1 ∨ FLT_SRC_LOST 16 < a := by simp only [FLT_SRC_LOST]; omega
  have htotal : ∀ b, ((s.seen m).wrPlain a v).bermTotal b = (s.wrPlain a v).bermTotal b :=
    State.bermTotal_congr fun c => State.wrPlain_seen_rd s m a v c
  refine ⟨fun hover => ?_, fun hfits => ?_⟩
  · have hb := State.bermWrite_of_exceeds (s := s.seen m) (v := v) (a := a) (by simpa only [htotal] using hover)
    have hw1 := State.wroteEvents_setFld (s.seen m) SWC_STATUS_berm_refused 1 (List.mem_singleton_self SWC_STATUS)
    have hw2 := State.wroteEvents_raise (l := [SWC_STATUS]) ((s.seen m).setFld SWC_STATUS SWC_STATUS_berm_refused 1)
      (c := 0x0401) (k := 2) noInst 0 (by decide) (by decide) rfl
    obtain ⟨honly, hframe⟩ := hw1.trans hw2
    have hposts := ((s.seen m).setFld SWC_STATUS SWC_STATUS_berm_refused 1).posts_raise 0x0401 2 noInst 0
    refine ⟨_, hx.trans (congrArg Host.Outcome.next (hwrite.trans hb)), ?_, ?_, State.posts_congr (by simp) (by simp) hposts, State.onlyRegs_seen honly, hframe⟩
    · have hne : a ∉ [SWC_STATUS] := fun hmem => by
        rw [List.mem_singleton, SWC_STATUS] at hmem
        omega
      exact (honly a hne hlost).trans (State.seen_rd s m a)
    · rw [State.fld, State.raise_rd _ _ _ _ _ _ (by decide) (by decide), State.rd_setFld, if_pos rfl, Fld.get_put _ _ _ (by decide) (by decide)]
      rfl
  · have hb := State.bermWrite_of_fits (s := s.seen m) (v := v) (a := a) (by simpa only [htotal] using hfits)
    have hspill := State.wroteEvents_spillAll ((s.seen m).wrPlain a v)
    have hall := (State.wroteEvents_wrPlain (l := a :: spillRegs) (s.seen m) v List.mem_cons_self).trans
      (hspill.mono fun c hc => List.mem_cons_of_mem _ hc)
    obtain ⟨honly, hframe⟩ := hall
    refine ⟨_, hx.trans (congrArg Host.Outcome.next (hwrite.trans hb)), ?_, State.onlyRegs_seen honly, hframe⟩
    have hne : a ∉ spillRegs := fun hmem => by
      obtain ⟨b, hb, he⟩ := List.mem_map.1 hmem
      rw [List.mem_range] at hb
      rw [SWC_BANK_SPILL] at he
      omega
    exact (hspill.1 a hne hlost).trans (State.wrPlain_seen_rd s m a v a)

end

end Sys2Proof.Machine

/-! A gauge period (R130) whose selections in force stand out of order. -/

namespace Sys2Proof.Machine

-- The kernel evaluates the counterexample; one declaration after another, so that no evaluation waits for memory of others.
set_option Elab.async false

/-- The gauge is on, and slot 3's selection in force, listed behind that of slot 5, is written again. -/
def gaugeUnordered : State :=
  { (State.reset.wr TMG_GAUGE_CTL 1).wr (TMG_HIST_SEL 3) 0x80000000 with
    tm := { State.reset.tm with histSel := [(5, 1), (3, 0x80000000)], histPend := [3] } }

/-- The table then lists slot 3 twice, and its bin counts twice. -/
theorem rd_gaugeUnordered : gaugeUnordered.gaugeSample.rd (TMG_HIST_DEPTH 3 0) = 2 ∧ gaugeUnordered.rd (TMG_HIST_DEPTH 3 0) = 0 := by
  decide +kernel

theorem gaugeOf_gaugeUnordered : gaugeUnordered.gaugeOf 0x80000000 = (0, 0) := by decide +kernel

/-- Refutes O30: slots listed once are not enough for a period to count once; the keys must rise as well, or a selection that takes
effect stands in the table beside the old one. -/
theorem not_gaugesAndHistograms : ¬ Obligations.GaugesAndHistograms := by
  unfold Obligations.GaugesAndHistograms
  intro h
  obtain ⟨-, hsample⟩ := h gaugeUnordered
  obtain ⟨t, ht, -, hcounts, -⟩ := hsample (by decide) (by decide) (by decide)
  have hnext : gaugeUnordered.gaugeSample = t := Host.Outcome.next.inj ht
  have hsel : (if 3 ∈ gaugeUnordered.tm.histPend then gaugeUnordered.rd (TMG_HIST_SEL 3) else tget 0 gaugeUnordered.tm.histSel 3) =
      0x80000000 := by decide
  obtain ⟨hdepth, -⟩ := hcounts 3 (by decide) (by dsimp only; rw [hsel]; decide)
  dsimp only at hdepth
  rw [hsel] at hdepth
  have hbin : TMG_HIST_DEPTH 3 (depthBin (gaugeUnordered.gaugeOf (0x80000000 : Word).toNat).1) = TMG_HIST_DEPTH 3 0 :=
    congrArg (fun x : Nat × Nat => TMG_HIST_DEPTH 3 (depthBin x.1)) gaugeOf_gaugeUnordered
  rw [hbin, State.counts, ← hnext, rd_gaugeUnordered.1, rd_gaugeUnordered.2] at hdepth
  exact absurd hdepth (by decide)

end Sys2Proof.Machine

/-! Tide tables (R121 to R128). -/

namespace Sys2Proof.Machine

section
variable {s t u : State} {p : Nat}

/-! What a command on a port's table may change -/

/-- The tide state of one port, its control register and events may have changed, and nothing else. -/
def State.tideOnly (s t : State) (p : Nat) : Prop :=
  (∀ q, q ≠ p → t.tideOf q = s.tideOf q) ∧ s.onlyRegs t [TMG_TT_CTL p] ∧
    t = { s with regs := t.regs, flt := t.flt, tm := { s.tm with scheds := t.tm.scheds } }

theorem State.tideOnly.refl (s : State) (p : Nat) : s.tideOnly s p := ⟨fun _ _ => rfl, State.onlyRegs.refl s _, rfl⟩

theorem State.tideOnly.trans (h1 : s.tideOnly t p) (h2 : t.tideOnly u p) : s.tideOnly u p := by
  obtain ⟨hq1, hrd1, he1⟩ := h1
  obtain ⟨hq2, hrd2, he2⟩ := h2
  exact ⟨fun q hq => (hq2 q hq).trans (hq1 q hq), fun a ha hl => (hrd2 a ha hl).trans (hrd1 a ha hl), by rw [he2, he1]⟩

theorem State.wroteEvents.tideOnly (h : s.wroteEvents t [TMG_TT_CTL p]) : s.tideOnly t p := by
  obtain ⟨hrd, he⟩ := h
  rw [State.regFrame] at he
  have htm : t.tm = s.tm := by rw [he]
  exact ⟨fun q _ => by rw [State.tideOf, htm]; rfl, hrd, by rw [htm]; exact he⟩

theorem State.tideOf_setTide (s : State) (p : Nat) (x : TideSched) (q : Nat) : (s.setTide p x).tideOf q = if q = p then x else s.tideOf q :=
  tget_tset (α := TideSched) {} {} _ _ _ _ (fun _ => rfl)

@[simp] theorem State.tideOf_setTide_self (s : State) (p : Nat) (x : TideSched) : (s.setTide p x).tideOf p = x := by
  rw [State.tideOf_setTide, if_pos rfl]

theorem State.tideOnly_setTide (s : State) (p : Nat) (x : TideSched) : s.tideOnly (s.setTide p x) p :=
  ⟨fun q hq => by rw [State.tideOf_setTide, if_neg hq], State.onlyRegs.refl s _, rfl⟩

/-! The gate state function reads the schedules and the entries -/

theorem State.gatesAt_congr (hentries : t.tm.entries = s.tm.entries) (hoper : (t.tideOf p).oper = (s.tideOf p).oper)
    (hheld : (t.tideOf p).held = (s.tideOf p).held) (hpending : (t.tideOf p).pending = (s.tideOf p).pending) (now : Nat) :
    t.gatesAt p now = s.gatesAt p now := by
  have hsegs : t.schedSegs = s.schedSegs := funext fun p => funext fun c => by
    have hentry : ∀ l i, t.ttEntry p l i = s.ttEntry p l i := fun l i => by rw [State.ttEntry, hentries, State.ttEntry]
    simp only [State.schedSegs, hentry]
  have hgates : ∀ ph now, t.phaseGates p ph now = s.phaseGates p ph now := fun ph now => by
    cases ph with
    | const g => rfl
    | sched c => rw [State.phaseGates, State.phaseGates, State.gateState, State.gateState, hsegs]
  have hon : ∀ l now, t.gatesOn p l now = s.gatesOn p l now := fun l => by
    induction l with
    | nil => exact fun _ => rfl
    | cons x l ih =>
      obtain ⟨u, ph⟩ := x
      intro now
      cases u with
      | none => exact hgates ph now
      | some u => rw [State.gatesOn, State.gatesOn, hgates, ih]
  have hphases : t.phases p = s.phases p := by
    simp only [State.phases, hoper, hheld, hpending]
  rw [State.gatesAt, State.gatesAt, hon, hphases]

theorem State.gatesAt_of_closed (hoper : (s.tideOf p).oper = none) (now : Nat) : s.gatesAt p now = 0xFF := by
  have hphases : s.phases p = [(none, .const 0xFF)] := by rw [State.phases, hoper]
  rw [State.gatesAt, hphases]
  split <;> rfl

/-- The hold that is left at this instant (R39). -/
def TideSched.heldAt (x : TideSched) (now : Nat) : Option (Nat × Nat) :=
  match x.held with
  | some (g, u) => if u ≤ now then none else some (g, u)
  | none => none

/-- The gates follow the state function, the hold over where its end is reached. -/
theorem State.gatesRefresh_spec (s : State) (p : Nat) :
    (s.gatesRefresh p).tideOf p = { s.tideOf p with held := (s.tideOf p).heldAt s.tide.toNat, gates := (s.gatesRefresh p).gatesAt p s.tide.toNat } ∧
    (∀ q, q ≠ p → (s.gatesRefresh p).tideOf q = s.tideOf q) ∧
    s.gatesRefresh p = { s with tm := { s.tm with scheds := (s.gatesRefresh p).tm.scheds } } := by
  obtain ⟨x, hx⟩ : ∃ x, { s.tideOf p with held := (s.tideOf p).heldAt s.tide.toNat } = x := ⟨_, rfl⟩
  have hform : s.gatesRefresh p = (s.setTide p x).setTide p { x with gates := (s.setTide p x).gatesAt p s.tide.toNat } := by
    have h : s.gatesRefresh p = (s.setTide p x).setTide p { (s.setTide p x).tideOf p with gates := (s.setTide p x).gatesAt p s.tide.toNat } := by
      rw [← hx]
      rfl
    rw [h, State.tideOf_setTide_self]
  have hgates : (s.gatesRefresh p).gatesAt p s.tide.toNat = (s.setTide p x).gatesAt p s.tide.toNat := by
    rw [hform]
    exact State.gatesAt_congr (s := s.setTide p x) (t := (s.setTide p x).setTide p _) (p := p) rfl (by simp) (by simp) (by simp) _
  refine ⟨?_, fun q hq => ?_, ?_⟩
  · rw [hgates, hform, State.tideOf_setTide_self, ← hx]
  · rw [hform, State.tideOf_setTide, if_neg hq, State.tideOf_setTide, if_neg hq]
  · rw [hform]
    rfl

theorem State.tideOnly_gatesRefresh (s : State) (p : Nat) : s.tideOnly (s.gatesRefresh p) p := by
  obtain ⟨-, hothers, he⟩ := s.gatesRefresh_spec p
  have hregs : (s.gatesRefresh p).regs = s.regs := by rw [he]
  refine ⟨hothers, fun a _ _ => State.rd_congr hregs a, ?_⟩
  have hflt : (s.gatesRefresh p).flt = s.flt := by rw [he]
  rw [hregs, hflt]
  exact he

/-! The steps of a write of the control register -/

section
variable {f g : Fld} {v : Word}

theorem State.tideOf_of_tm (h : t.tm = s.tm) (q : Nat) : t.tideOf q = s.tideOf q := by rw [State.tideOf, h, State.tideOf]

/-- The fields of a port's control register that a command leaves as it found them or sets. -/
theorem State.fld_setFld_ne (s : State) {a : Nat} (v : Nat) (hf : f.lo ≤ f.hi) (hf32 : f.hi < 32) (hg : g.lo ≤ g.hi)
    (hne : g.hi < f.lo ∨ f.hi < g.lo) : (s.setFld a f v).fld a g = s.fld a g := by
  rw [State.fld, State.rd_setFld, if_pos rfl, Fld.get_put_ne _ _ _ _ hf hf32 hg hne, State.fld]

theorem State.fld_setFld_same (s : State) (a v : Nat) (hf : f.lo ≤ f.hi) (hf32 : f.hi < 32) : (s.setFld a f v).fld a f = v % 2 ^ f.width := by
  rw [State.fld, State.rd_setFld, if_pos rfl, Fld.get_put _ _ _ hf hf32]

theorem State.ttRefuse_spec (s : State) {p : Nat} (hp : p < 28) (f : Fld) :
    s.tideOnly (s.ttRefuse p f) p ∧ (∀ q, (s.ttRefuse p f).tideOf q = s.tideOf q) ∧
    (∀ g, (s.ttRefuse p f).fld (TMG_TT_CTL p) g = (s.setFld (TMG_TT_CTL p) f 1).fld (TMG_TT_CTL p) g) ∧ s.posts (s.ttRefuse p f) 0x0505 2 p := by
  have hwrote := (State.wroteEvents_setFld s f 1 (List.mem_singleton_self (TMG_TT_CTL p))).trans
    (State.wroteEvents_raise (s.setFld (TMG_TT_CTL p) f 1) (c := 0x0505) (k := 2) p 0 (by decide) (by decide) rfl)
  have hframe := (s.setFld (TMG_TT_CTL p) f 1).raise_frame 0x0505 2 p 0 (by decide)
  have hposts := (s.setFld (TMG_TT_CTL p) f 1).posts_raise 0x0505 2 p 0
  rw [Nat.mod_eq_of_lt (by omega)] at hposts
  refine ⟨hwrote.tideOnly, State.tideOf_of_tm (hframe.tm.trans rfl), fun g => ?_, State.posts_congr rfl rfl hposts⟩
  rw [State.fld, State.fld, State.ttRefuse, hframe.rd _ (isSrcLost_eq_false.2 (by simp only [TMG_TT_CTL, FLT_SRC_LOST]; omega))]

/-- A change is asked for the other list, or refused (R126, R127). -/
def State.changeAsked (s t : State) (p : Nat) (c : Sched) : Prop :=
  let n := s.adminSched p (1 - c.list)
  let chg := s.rd64 (TMG_TT_CHG_LO p) (TMG_TT_CHG_HI p)
  (n.valid = true → t.fld (TMG_TT_CTL p) TMG_TT_CTL_pending = 1 ∧ (t.tideOf p).oper = some c ∧
    (t.tideOf p).pending = some { sched := n, at_ := if chg < s.tide.toNat then c.boundary (s.tide.toNat + 1) else c.boundary chg }) ∧
  (n.valid = false → t.fld (TMG_TT_CTL p) TMG_TT_CTL_change_refused = 1 ∧ (t.tideOf p).oper = some c ∧ s.posts t 0x0505 2 p)

/-- The fields of a port's control register beside the change: enable and list. -/
def State.sameCtl (s t : State) (p : Nat) : Prop :=
  t.fld (TMG_TT_CTL p) TMG_TT_CTL_en = s.fld (TMG_TT_CTL p) TMG_TT_CTL_en ∧
    t.fld (TMG_TT_CTL p) TMG_TT_CTL_list = s.fld (TMG_TT_CTL p) TMG_TT_CTL_list

theorem State.ttRefuse_change (s : State) {p : Nat} (hp : p < 28) :
    let t := s.ttRefuse p TMG_TT_CTL_change_refused
    s.tideOnly t p ∧ (∀ q, t.tideOf q = s.tideOf q) ∧ t.fld (TMG_TT_CTL p) TMG_TT_CTL_change_refused = 1 ∧
      t.fld (TMG_TT_CTL p) TMG_TT_CTL_pending = s.fld (TMG_TT_CTL p) TMG_TT_CTL_pending ∧ s.sameCtl t p ∧ s.posts t 0x0505 2 p := by
  obtain ⟨honly, htide, hfld, hposts⟩ := s.ttRefuse_spec hp TMG_TT_CTL_change_refused
  refine ⟨honly, htide, (hfld _).trans (State.fld_setFld_same s _ _ (by decide) (by decide)), (hfld _).trans ?_, ⟨(hfld _).trans ?_, (hfld _).trans ?_⟩, hposts⟩
  all_goals exact State.fld_setFld_ne s _ (by decide) (by decide) (by decide) (by decide)

theorem State.ttChange_of_none (h : (s.tideOf p).oper = none) : s.ttChange p = s.ttRefuse p TMG_TT_CTL_change_refused := by
  rw [State.ttChange, h]

theorem State.ttChange_of_some (s : State) {p : Nat} (hp : p < 28) {c : Sched} (h : (s.tideOf p).oper = some c) :
    s.changeAsked (s.ttChange p) p c ∧ s.sameCtl (s.ttChange p) p ∧
      ((s.adminSched p (1 - c.list)).valid = false → (s.ttChange p).tideOf p = s.tideOf p) ∧ s.tideOnly (s.ttChange p) p := by
  by_cases hn : (s.adminSched p (1 - c.list)).valid = true
  · obtain ⟨x, hx⟩ : ∃ x : TidePending, { sched := s.adminSched p (1 - c.list)
                                          at_ := if s.rd64 (TMG_TT_CHG_LO p) (TMG_TT_CHG_HI p) < s.tide.toNat then c.boundary (s.tide.toNat + 1)
                                            else c.boundary (s.rd64 (TMG_TT_CHG_LO p) (TMG_TT_CHG_HI p)) } = x := ⟨_, rfl⟩
    have hform : s.ttChange p = (s.setTide p { s.tideOf p with pending := some x }).setFld (TMG_TT_CTL p) TMG_TT_CTL_pending 1 := by
      rw [State.ttChange, h]
      simp only [hn, if_true, hx]
    have htide : ((s.setTide p { s.tideOf p with pending := some x }).setFld (TMG_TT_CTL p) TMG_TT_CTL_pending 1).tideOf p =
        { s.tideOf p with pending := some x } := State.tideOf_setTide_self s p _
    rw [hform]
    refine ⟨⟨fun _ => ⟨State.fld_setFld_same _ _ _ (by decide) (by decide), ?_, ?_⟩, fun h' => ?_⟩, ⟨?_, ?_⟩, fun h' => ?_, ?_⟩
    · rw [htide]
      exact h
    · rw [htide, ← hx]
    · rw [hn] at h'
      exact Bool.noConfusion h'
    · exact State.fld_setFld_ne (s.setTide p { s.tideOf p with pending := some x }) _ (by decide) (by decide) (by decide) (by decide)
    · exact State.fld_setFld_ne (s.setTide p { s.tideOf p with pending := some x }) _ (by decide) (by decide) (by decide) (by decide)
    · rw [hn] at h'
      exact Bool.noConfusion h'
    · exact (s.tideOnly_setTide p _).trans (State.wroteEvents_setFld _ _ _ (List.mem_singleton_self _)).tideOnly
  · have hform : s.ttChange p = s.ttRefuse p TMG_TT_CTL_change_refused := by
      rw [State.ttChange, h]
      simp only [hn, if_false, Bool.false_eq_true]
    obtain ⟨honly, htide, hrefused, -, hctl, hposts⟩ := s.ttRefuse_change hp
    rw [hform]
    exact ⟨⟨fun h' => absurd h' hn, fun _ => ⟨hrefused, by rw [htide]; exact h, hposts⟩⟩, hctl, fun _ => htide p, honly⟩

/-! The same seen from a state before it -/

theorem State.adminSched_of_tideOnly (hp : p < 28) (h : s.tideOnly t p) (l : Nat) : t.adminSched p l = s.adminSched p l := by
  have hrd : ∀ a, a ≠ TMG_TT_CTL p → 0x20042000 ≤ a → t.rd a = s.rd a := fun a ha hlo =>
    h.2.1 a (fun hm => ha (List.mem_singleton.1 hm)) (Or.inr (by simp only [FLT_SRC_LOST]; omega))
  have hlen := hrd (TMG_TT_LEN p) (by simp only [TMG_TT_LEN, TMG_TT_CTL]; omega) (by simp only [TMG_TT_LEN]; omega)
  have hcyc := hrd (TMG_TT_CYCLE p) (by simp only [TMG_TT_CYCLE, TMG_TT_CTL]; omega) (by simp only [TMG_TT_CYCLE]; omega)
  have hlo := hrd (TMG_TT_BASE_LO p) (by simp only [TMG_TT_BASE_LO, TMG_TT_CTL]; omega) (by simp only [TMG_TT_BASE_LO]; omega)
  have hhi := hrd (TMG_TT_BASE_HI p) (by simp only [TMG_TT_BASE_HI, TMG_TT_CTL]; omega) (by simp only [TMG_TT_BASE_HI]; omega)
  simp only [State.adminSched, State.ttLen, State.fld, State.rd64, hlen, hcyc, hlo, hhi]

theorem State.changeAsked_congr {c : Sched} (hp : p < 28) (h : s.tideOnly t p) (hflt : t.flt = s.flt) (ha : t.changeAsked u p c) :
    s.changeAsked u p c := by
  have hrd : ∀ a, a ≠ TMG_TT_CTL p → 0x20042000 ≤ a → t.rd a = s.rd a := fun a ha hlo =>
    h.2.1 a (fun hm => ha (List.mem_singleton.1 hm)) (Or.inr (by simp only [FLT_SRC_LOST]; omega))
  have hlo := hrd (TMG_TT_CHG_LO p) (by simp only [TMG_TT_CHG_LO, TMG_TT_CTL]; omega) (by simp only [TMG_TT_CHG_LO]; omega)
  have hhi := hrd (TMG_TT_CHG_HI p) (by simp only [TMG_TT_CHG_HI, TMG_TT_CTL]; omega) (by simp only [TMG_TT_CHG_HI]; omega)
  have htide : t.tide = s.tide := by rw [h.2.2]
  have hrun : t.running = s.running := by rw [h.2.2]; rfl
  simp only [State.changeAsked, State.adminSched_of_tideOnly hp h, State.rd64, hlo, hhi, htide] at ha ⊢
  exact ⟨ha.1, fun hn => ⟨(ha.2 hn).1, (ha.2 hn).2.1, State.posts_congr hrun hflt (ha.2 hn).2.2⟩⟩

end

/-! The write of the control register -/

/-- A field of one bit. -/
theorem Fld.get_bit (i : Nat) (v : Word) : Fld.get ⟨i, i⟩ v = boolNat (v.toNat.testBit i) := by
  have hw : Fld.width ⟨i, i⟩ = 1 := by simp only [Fld.width]; omega
  rw [Fld.get_eq, hw, Nat.testBit_eq_decide_div_mod_eq]
  by_cases h : v.toNat / 2 ^ i % 2 = 1
  · simp [boolNat, h]
  · have h0 : v.toNat / 2 ^ i % 2 = 0 := by omega
    simp [boolNat, h0]

theorem regAt_ttCtl (hp : p < 28) : ∃ d, regAt (TMG_TT_CTL p) = some d ∧ d.fields = [.rw 0 0, .rw 1 1, .w1c 4 4, .w1c 5 5] := by
  have haddr : TMG_TT_CTL p = 0x20040000 + (0x2100 + 32 * p) := by rw [TMG_TT_CTL]; omega
  rw [haddr, regAt_tmg (by omega)]
  refine find_holds (d0 := ⟨0x2100, 32, 28, 4, 1, 0x0, [.rw 0 0, .rw 1 1, .w1c 4 4, .w1c 5 5]⟩) (by decide)
    ((RegDesc.holds_iff _).2 (by dsimp only; omega)) ?_
  simp only [regsTMG, regsTMG0, regsTMG1, List.cons_append, List.nil_append, List.forall_mem_cons, RegDesc.holds_iff, List.cons.injEq,
    FAcc.rw.injEq, reduceCtorEq, List.not_mem_nil, implies_true, false_implies, and_true, true_and]
  omega

/-- What a plain write leaves of the control register: enable and list as written, pending as it was. -/
theorem State.fld_wrPlain_ttCtl (s : State) (hp : p < 28) (v : Word) :
    let t := s.wrPlain (TMG_TT_CTL p) v
    t.fld (TMG_TT_CTL p) TMG_TT_CTL_en = boolNat (v.toNat.testBit 0) ∧ t.fld (TMG_TT_CTL p) TMG_TT_CTL_list = TMG_TT_CTL_list.get v ∧
      s.tideOnly t p ∧ t.flt = s.flt ∧ t.tm = s.tm := by
  obtain ⟨d, hd, hf⟩ := regAt_ttCtl hp
  have hwrote := State.wroteRegs_wrPlain s v (List.mem_singleton_self (TMG_TT_CTL p))
  refine ⟨?_, ?_, hwrote.wroteEvents.tideOnly, by rw [hwrote.2], by rw [hwrote.2]⟩
  · rw [State.fld, State.rd_wrPlain_of hd, ← Fld.get_bit 0 v]
    simp (disch := decide) only [RegDesc.write, hf, List.foldl, FAcc.write, TMG_TT_CTL_en, Fld.get_put_ne, Fld.get_put, Fld.get_mod]
  · rw [State.fld, State.rd_wrPlain_of hd]
    simp (disch := decide) only [RegDesc.write, hf, List.foldl, FAcc.write, TMG_TT_CTL_list, Fld.get_put_ne, Fld.get_put, Fld.get_mod]

section
variable {v : Word}

/-- The table is closed: its gates are open, and no change is pending. -/
def State.ttClosed (s : State) (p : Nat) (v : Word) : State :=
  ((s.wrPlain (TMG_TT_CTL p) v).setTide p {}).setFld (TMG_TT_CTL p) TMG_TT_CTL_pending 0

/-- The table stays open: list keeps its value. -/
def State.ttKept (s : State) (p : Nat) (v : Word) : State :=
  (s.wrPlain (TMG_TT_CTL p) v).setFld (TMG_TT_CTL p) TMG_TT_CTL_list (s.fld (TMG_TT_CTL p) TMG_TT_CTL_list)

/-- The table is opened with the list that the write names. -/
def State.ttOpened (s : State) (p : Nat) (v : Word) (c : Sched) : State :=
  ((s.wrPlain (TMG_TT_CTL p) v).setTide p { (s.wrPlain (TMG_TT_CTL p) v).tideOf p with oper := some c, pending := none, held := none }).gatesRefresh p

/-- The list that the write names is not valid: the table stays closed. -/
def State.ttInvalid (s : State) (p : Nat) (v : Word) : State :=
  ((s.wrPlain (TMG_TT_CTL p) v).setFld (TMG_TT_CTL p) TMG_TT_CTL_en 0).ttRefuse p TMG_TT_CTL_change_refused

/-- A write of the control register without its change bit. -/
def State.ttEnabled (s : State) (p : Nat) (v : Word) : State :=
  if v.toNat.testBit 0 then
    if s.fldB (TMG_TT_CTL p) TMG_TT_CTL_en then s.ttKept p v
    else if (s.adminSched p (TMG_TT_CTL_list.get v)).valid then s.ttOpened p v (s.adminSched p (TMG_TT_CTL_list.get v))
    else s.ttInvalid p v
  else s.ttClosed p v

/-- The write: first the enabling, then the change (assumption 90). -/
theorem State.ttCtlWrite_eq (s : State) (hp : p < 28) (v : Word) :
    s.ttCtlWrite p v = if v.toNat.testBit 2 then
      if v.toNat.testBit 0 then (s.ttEnabled p v).ttChange p else (s.ttEnabled p v).ttRefuse p TMG_TT_CTL_change_refused
      else s.ttEnabled p v := by
  obtain ⟨-, hlist, honly, -, -⟩ := s.fld_wrPlain_ttCtl hp v
  have hsched : (s.wrPlain (TMG_TT_CTL p) v).adminSched p ((s.wrPlain (TMG_TT_CTL p) v).fld (TMG_TT_CTL p) TMG_TT_CTL_list) =
      s.adminSched p (TMG_TT_CTL_list.get v) := by rw [hlist, State.adminSched_of_tideOnly hp honly]
  simp only [State.ttCtlWrite, State.ttEnabled, hsched]
  cases v.toNat.testBit 0 <;> cases v.toNat.testBit 2 <;> rfl

theorem State.ttClosed_spec (s : State) (hp : p < 28) (v : Word) (h0 : v.toNat.testBit 0 = false) :
    (s.ttClosed p v).tideOf p = {} ∧ (s.ttClosed p v).fld (TMG_TT_CTL p) TMG_TT_CTL_en = 0 ∧
      (s.ttClosed p v).fld (TMG_TT_CTL p) TMG_TT_CTL_pending = 0 ∧ s.tideOnly (s.ttClosed p v) p ∧ (s.ttClosed p v).flt = s.flt := by
  obtain ⟨hen, -, honly, hflt, -⟩ := s.fld_wrPlain_ttCtl hp v
  rw [h0] at hen
  rw [State.ttClosed]
  generalize s.wrPlain (TMG_TT_CTL p) v = w at hen honly hflt ⊢
  refine ⟨State.tideOf_setTide_self w p {}, ?_, State.fld_setFld_same _ _ _ (by decide) (by decide),
    (honly.trans (w.tideOnly_setTide p {})).trans (State.wroteEvents_setFld _ _ _ (List.mem_singleton_self _)).tideOnly, hflt⟩
  exact (State.fld_setFld_ne (w.setTide p {}) _ (by decide) (by decide) (by decide) (by decide)).trans hen

theorem State.ttKept_spec (s : State) (hp : p < 28) (v : Word) (h0 : v.toNat.testBit 0 = true) :
    (s.ttKept p v).tideOf p = s.tideOf p ∧ (s.ttKept p v).fld (TMG_TT_CTL p) TMG_TT_CTL_en = 1 ∧
      (s.ttKept p v).fld (TMG_TT_CTL p) TMG_TT_CTL_list = s.fld (TMG_TT_CTL p) TMG_TT_CTL_list ∧ s.tideOnly (s.ttKept p v) p ∧
      (s.ttKept p v).flt = s.flt := by
  obtain ⟨hen, -, honly, hflt, htm⟩ := s.fld_wrPlain_ttCtl hp v
  have hlt := Fld.get_mod TMG_TT_CTL_list (s.rd (TMG_TT_CTL p))
  rw [h0] at hen
  rw [State.ttKept]
  generalize s.wrPlain (TMG_TT_CTL p) v = w at hen honly hflt htm ⊢
  refine ⟨State.tideOf_of_tm htm p, (State.fld_setFld_ne w _ (by decide) (by decide) (by decide) (by decide)).trans hen,
    (State.fld_setFld_same w _ _ (by decide) (by decide)).trans hlt, honly.trans (State.wroteEvents_setFld _ _ _ (List.mem_singleton_self _)).tideOnly, hflt⟩

theorem State.ttOpened_spec (s : State) (hp : p < 28) (v : Word) (h0 : v.toNat.testBit 0 = true) (c : Sched) :
    (s.ttOpened p v c).tideOf p = { oper := some c, gates := (s.ttOpened p v c).gatesAt p s.tide.toNat } ∧
      (s.ttOpened p v c).fld (TMG_TT_CTL p) TMG_TT_CTL_en = 1 ∧ (s.ttOpened p v c).fld (TMG_TT_CTL p) TMG_TT_CTL_list = TMG_TT_CTL_list.get v ∧
      s.tideOnly (s.ttOpened p v c) p ∧ (s.ttOpened p v c).flt = s.flt := by
  obtain ⟨hen, hlist, honly, hflt, -⟩ := s.fld_wrPlain_ttCtl hp v
  have hnow : (s.wrPlain (TMG_TT_CTL p) v).tide = s.tide := by rw [honly.2.2]
  rw [h0] at hen
  rw [State.ttOpened]
  generalize s.wrPlain (TMG_TT_CTL p) v = w at hen hlist honly hflt hnow ⊢
  have hset := w.tideOnly_setTide p { w.tideOf p with oper := some c, pending := none, held := none }
  have hself := w.tideOf_setTide_self p { w.tideOf p with oper := some c, pending := none, held := none }
  obtain ⟨y, hy⟩ : ∃ y, w.setTide p { w.tideOf p with oper := some c, pending := none, held := none } = y := ⟨_, rfl⟩
  have hyregs : y.regs = w.regs := by rw [← hy]; rfl
  have hyflt : y.flt = w.flt := by rw [← hy]; rfl
  have hytide : y.tide = s.tide := by rw [← hnow, ← hy]; rfl
  rw [hy] at hset hself ⊢
  obtain ⟨hgates, -, he⟩ := y.gatesRefresh_spec p
  have hregs : (y.gatesRefresh p).regs = w.regs := by rw [he, ← hyregs]
  rw [hself, hytide] at hgates
  refine ⟨hgates, ?_, ?_, (honly.trans hset).trans (y.tideOnly_gatesRefresh p), by rw [he, ← hflt, ← hyflt]⟩
  · rw [State.fld, State.rd_congr hregs]
    exact hen
  · rw [State.fld, State.rd_congr hregs]
    exact hlist

theorem State.ttInvalid_spec (s : State) (hp : p < 28) (v : Word) :
    (s.ttInvalid p v).tideOf p = s.tideOf p ∧ (s.ttInvalid p v).fld (TMG_TT_CTL p) TMG_TT_CTL_en = 0 ∧
      (s.ttInvalid p v).fld (TMG_TT_CTL p) TMG_TT_CTL_change_refused = 1 ∧ s.posts (s.ttInvalid p v) 0x0505 2 p ∧
      s.tideOnly (s.ttInvalid p v) p := by
  obtain ⟨-, -, honly, hflt, htm⟩ := s.fld_wrPlain_ttCtl hp v
  have hrun : (s.wrPlain (TMG_TT_CTL p) v).running = s.running := by rw [honly.2.2]; rfl
  rw [State.ttInvalid]
  generalize s.wrPlain (TMG_TT_CTL p) v = w at honly hflt htm hrun ⊢
  obtain ⟨hr, htide, hrefused, -, ⟨hen, -⟩, hposts⟩ := (w.setFld (TMG_TT_CTL p) TMG_TT_CTL_en 0).ttRefuse_change hp
  refine ⟨(htide p).trans (State.tideOf_of_tm htm p), hen.trans (State.fld_setFld_same _ _ _ (by decide) (by decide)), hrefused,
    State.posts_congr hrun hflt hposts, (honly.trans (State.wroteEvents_setFld w _ _ (List.mem_singleton_self _)).tideOnly).trans hr⟩

end

end

/-! A command on the table, from the state it is given in -/

section
variable {s t : State} {m : Master} {p : Nat} {v : Word}

theorem State.seen_tideOf (s : State) (m : Master) (p : Nat) : (s.seen m).tideOf p = s.tideOf p := State.tideOf_of_tm (s.seen_tm m) p

theorem State.seen_adminSched (s : State) (m : Master) (p l : Nat) : (s.seen m).adminSched p l = s.adminSched p l := by
  simp only [State.adminSched, State.ttLen, State.seen_fld, State.rd64, State.seen_rd]

/-- What a command that a master gives may change. -/
def State.tideOnlyBy (s t : State) (m : Master) (p : Nat) : Prop :=
  (∀ q, q ≠ p → t.tideOf q = s.tideOf q) ∧ s.onlyRegs t [TMG_TT_CTL p] ∧
    t = { s.seen m with regs := t.regs, flt := t.flt, tm := { s.tm with scheds := t.tm.scheds } }

theorem State.tideOnlyBy_of_seen (h : (s.seen m).tideOnly t p) : s.tideOnlyBy t m p := by
  obtain ⟨hothers, honly, he⟩ := h
  rw [State.seen_tm] at he
  exact ⟨fun q hq => (hothers q hq).trans (s.seen_tideOf m q), State.onlyRegs_seen honly, he⟩

theorem State.changeAsked_of_seen {c : Sched} (h : (s.seen m).changeAsked t p c) : s.changeAsked t p c := by
  simp only [State.changeAsked, State.seen_adminSched, State.rd64, State.seen_rd, State.seen_tide] at h ⊢
  exact ⟨h.1, fun hn => ⟨(h.2 hn).1, (h.2 hn).2.1, State.posts_congr (s.seen_running m) (s.seen_flt m) (h.2 hn).2.2⟩⟩

theorem regCommand_ttCtl (hp : p < 28) (h : s.writable m (TMG_TT_CTL p)) (v : Word) :
    s.regCommand m (TMG_TT_CTL p) v = (s.seen m).ttCtlWrite p v := by
  have haddr : TMG_TT_CTL p = 0x20040000 + (0x2100 + 32 * p) := by rw [TMG_TT_CTL]; omega
  have hport : (0x2100 + 32 * p - 0x2100) / 32 = p := by omega
  have hrange : 0x2100 ≤ 0x2100 + 32 * p ∧ 0x2100 + 32 * p < 0x2480 ∧ (0x2100 + 32 * p) % 32 = 0 := by omega
  rw [haddr] at h ⊢
  rw [State.regCommand_tmg (by omega) h, State.tmgWrite, if_neg (by omega), if_neg (by omega), if_neg (by omega), if_neg (by omega),
    if_pos hrange, hport]

/-- Two events of one block, the second behind the first: the first stands among those raised. -/
theorem State.tells_raise {u : State} {c k i : Nat} (hpost : s.posts u c k i) (hrun : u.running = s.running) (k' i' d' : Nat) :
    s.tells (u.raise c k' i' d') 2 c k i := by
  intro hr hroom
  obtain ⟨x, hx, hcode, hcls, hinst⟩ := hpost hr (by omega)
  have hlen : (tget [] u.flt.post (c / 256)).length < 16 := by
    rw [hx, List.length_append, List.length_singleton]
    omega
  refine ⟨x, ?_, hcode, hcls, hinst⟩
  rw [State.post_raise (hrun.trans hr) k' i' d' hlen, if_pos rfl, hx]
  simp

/-! The four kinds of write -/

section
variable {p : Fin 28}

theorem exec_ttEnable (hw : s.writable m (TMG_TT_CTL p)) (h2 : v.toNat.testBit 2 = false) :
    exec (.ttEnable m p v) s = .next ((s.seen m).ttEnabled p v) := by
  refine congrArg Host.Outcome.next ((regCommand_ttCtl p.isLt hw v).trans ?_)
  rw [State.ttCtlWrite_eq _ p.isLt, h2]
  rfl

/-- The write with its change bit set. -/
theorem exec_change (hw : s.writable m (TMG_TT_CTL p)) :
    exec (.change m p v) s = .next (if v.toNat.testBit 0 then ((s.seen m).ttEnabled p (v ||| 4)).ttChange p
      else ((s.seen m).ttEnabled p (v ||| 4)).ttRefuse p TMG_TT_CTL_change_refused) := by
  have h2 : (v ||| 4).toNat.testBit 2 = true := testBit_or_set v 4 (by decide) rfl
  have h0 : (v ||| 4).toNat.testBit 0 = v.toNat.testBit 0 := testBit_or_clear v rfl
  refine congrArg Host.Outcome.next ((regCommand_ttCtl p.isLt hw (v ||| 4)).trans ?_)
  rw [State.ttCtlWrite_eq _ p.isLt, h2, h0]
  rfl

theorem exec_ttEnable_change (h2 : v.toNat.testBit 2 = true) : exec (.ttEnable m p v) s = exec (.change m p v) s := by
  have hv : v ||| 4 = v := by
    apply BitVec.eq_of_getLsbD_eq
    intro i hi
    have h4 : (4 : Word).getLsbD i = true → i = 2 := by
      revert hi
      revert i
      decide
    rw [BitVec.getLsbD_or]
    cases hb : (4 : Word).getLsbD i with
    | false => rw [Bool.or_false]
    | true => rw [h4 hb, Bool.or_true]; exact h2.symm
  show Host.Outcome.next (s.regCommand m (TMG_TT_CTL p.val) v) = Host.Outcome.next (s.regCommand m (TMG_TT_CTL p.val) (v ||| 4))
  rw [hv]

theorem getList_or (v : Word) : TMG_TT_CTL_list.get (v ||| 4) = TMG_TT_CTL_list.get v := Fld.get_or (by decide) v

theorem State.ttEnabled_of_off {s : State} {p : Nat} (h0 : v.toNat.testBit 0 = false) : s.ttEnabled p v = s.ttClosed p v := by
  rw [State.ttEnabled, h0]
  rfl

theorem State.ttEnabled_of_on {s : State} {p : Nat} (h0 : v.toNat.testBit 0 = true) (hwas : s.fldB (TMG_TT_CTL p) TMG_TT_CTL_en = true) :
    s.ttEnabled p v = s.ttKept p v := by
  rw [State.ttEnabled, h0, hwas]
  rfl

theorem State.ttEnabled_of_valid {s : State} {p : Nat} (h0 : v.toNat.testBit 0 = true) (hwas : s.fldB (TMG_TT_CTL p) TMG_TT_CTL_en = false)
    (hv : (s.adminSched p (TMG_TT_CTL_list.get v)).valid = true) :
    s.ttEnabled p v = s.ttOpened p v (s.adminSched p (TMG_TT_CTL_list.get v)) := by
  rw [State.ttEnabled, h0, hwas, hv]
  rfl

theorem State.ttEnabled_of_invalid {s : State} {p : Nat} (h0 : v.toNat.testBit 0 = true) (hwas : s.fldB (TMG_TT_CTL p) TMG_TT_CTL_en = false)
    (hv : (s.adminSched p (TMG_TT_CTL_list.get v)).valid = false) : s.ttEnabled p v = s.ttInvalid p v := by
  rw [State.ttEnabled, h0, hwas, hv]
  rfl

/-- The table is closed by the write, and the change refused. -/
theorem gives_change_off (hw : s.writable m (TMG_TT_CTL p)) (h0 : v.toNat.testBit 0 = false) : Gives (.change m p v) s (fun t =>
    t.tideOf p = {} ∧ t.fld (TMG_TT_CTL p) TMG_TT_CTL_change_refused = 1 ∧ t.fld (TMG_TT_CTL p) TMG_TT_CTL_pending = 0 ∧
    t.fld (TMG_TT_CTL p) TMG_TT_CTL_en = 0 ∧ s.posts t 0x0505 2 p ∧ s.tideOnlyBy t m p) := by
  have h4 : (v ||| 4).toNat.testBit 0 = false := (testBit_or_clear v rfl).trans h0
  have hx := exec_change (v := v) hw
  rw [h0, State.ttEnabled_of_off h4] at hx
  obtain ⟨htide, hen, hpend, honly, hflt⟩ := (s.seen m).ttClosed_spec p.isLt (v ||| 4) h4
  obtain ⟨hr, hsame, hrefused, hp2, ⟨hen2, -⟩, hposts⟩ := ((s.seen m).ttClosed p (v ||| 4)).ttRefuse_change p.isLt
  have hrun : ((s.seen m).ttClosed p (v ||| 4)).running = s.running := by rw [honly.2.2]; exact s.seen_running m
  exact ⟨_, hx, (hsame p).trans htide, hrefused, hp2.trans hpend, hen2.trans hen,
    State.posts_congr hrun (hflt.trans (s.seen_flt m)) hposts, State.tideOnlyBy_of_seen (honly.trans hr)⟩

/-- The table is open: the change is asked for, or refused where no list operates. -/
theorem gives_change_on (hw : s.writable m (TMG_TT_CTL p)) (h0 : v.toNat.testBit 0 = true) (hwas : s.fldB (TMG_TT_CTL p) TMG_TT_CTL_en = true) :
    ((s.tideOf p).oper = none → Gives (.change m p v) s (fun t => t.tideOf p = s.tideOf p ∧
      t.fld (TMG_TT_CTL p) TMG_TT_CTL_change_refused = 1 ∧ s.posts t 0x0505 2 p ∧ s.tideOnlyBy t m p)) ∧
    (∀ c : Sched, (s.tideOf p).oper = some c → Gives (.change m p v) s (fun t => s.changeAsked t p c ∧
      t.fld (TMG_TT_CTL p) TMG_TT_CTL_list = s.fld (TMG_TT_CTL p) TMG_TT_CTL_list ∧
      ((s.adminSched p (1 - c.list)).valid = false → t.tideOf p = s.tideOf p) ∧ s.tideOnlyBy t m p)) := by
  have h4 : (v ||| 4).toNat.testBit 0 = true := (testBit_or_clear v rfl).trans h0
  have hx := exec_change (v := v) hw
  rw [h0, State.ttEnabled_of_on h4 ((s.seen_fldB m _ _).trans hwas)] at hx
  obtain ⟨htide, -, hlist, honly, hflt⟩ := (s.seen m).ttKept_spec p.isLt (v ||| 4) h4
  have hrun : ((s.seen m).ttKept p (v ||| 4)).running = s.running := by rw [honly.2.2]; exact s.seen_running m
  rw [State.seen_tideOf] at htide
  rw [State.seen_fld] at hlist
  generalize (s.seen m).ttKept p (v ||| 4) = u at hx htide hlist honly hflt hrun
  refine ⟨fun hnone => ?_, fun c hc => ?_⟩
  · obtain ⟨hr, hsame, hrefused, -, -, hposts⟩ := u.ttRefuse_change p.isLt
    rw [State.ttChange_of_none (htide ▸ hnone)] at hx
    exact ⟨_, hx, (hsame p).trans htide, hrefused, State.posts_congr hrun (hflt.trans (s.seen_flt m)) hposts,
      State.tideOnlyBy_of_seen (honly.trans hr)⟩
  · obtain ⟨hasked, ⟨-, hlist2⟩, hsame, hch⟩ := u.ttChange_of_some p.isLt (htide ▸ hc)
    refine ⟨_, hx, State.changeAsked_of_seen (State.changeAsked_congr p.isLt honly hflt hasked), hlist2.trans hlist, fun hn => ?_,
      State.tideOnlyBy_of_seen (honly.trans hch)⟩
    rw [← State.seen_adminSched s m, ← State.adminSched_of_tideOnly p.isLt honly] at hn
    exact (hsame hn).trans htide

/-- The table was closed: it is opened, and the change asked for from there. -/
theorem gives_change_open (hw : s.writable m (TMG_TT_CTL p)) (h0 : v.toNat.testBit 0 = true) (hwas : s.fldB (TMG_TT_CTL p) TMG_TT_CTL_en = false) :
    ((s.adminSched p (TMG_TT_CTL_list.get v)).valid = true → Gives (.change m p v) s (fun t =>
      s.changeAsked t p (s.adminSched p (TMG_TT_CTL_list.get v)) ∧ t.fld (TMG_TT_CTL p) TMG_TT_CTL_en = 1 ∧ s.tideOnlyBy t m p)) ∧
    ((s.adminSched p (TMG_TT_CTL_list.get v)).valid = false → (s.tideOf p).oper = none → Gives (.change m p v) s (fun t =>
      t.tideOf p = s.tideOf p ∧ t.fld (TMG_TT_CTL p) TMG_TT_CTL_en = 0 ∧ t.fld (TMG_TT_CTL p) TMG_TT_CTL_change_refused = 1 ∧
      s.tells t 2 0x0505 2 p ∧ s.tideOnlyBy t m p)) := by
  have h4 : (v ||| 4).toNat.testBit 0 = true := (testBit_or_clear v rfl).trans h0
  have hwas' : (s.seen m).fldB (TMG_TT_CTL p) TMG_TT_CTL_en = false := (s.seen_fldB m _ _).trans hwas
  have hx := exec_change (v := v) hw
  rw [h0] at hx
  have hfirst : (s.seen m).adminSched p (TMG_TT_CTL_list.get (v ||| 4)) = s.adminSched p (TMG_TT_CTL_list.get v) := by
    rw [getList_or, State.seen_adminSched]
  refine ⟨fun hv => ?_, fun hv hnone => ?_⟩
  · rw [State.ttEnabled_of_valid h4 hwas' (hfirst ▸ hv), hfirst] at hx
    obtain ⟨htide, hen, -, honly, hflt⟩ := (s.seen m).ttOpened_spec p.isLt (v ||| 4) h4 (s.adminSched p (TMG_TT_CTL_list.get v))
    generalize (s.seen m).ttOpened p (v ||| 4) (s.adminSched p (TMG_TT_CTL_list.get v)) = u at hx htide hen honly hflt
    obtain ⟨hasked, ⟨hen2, -⟩, -, hch⟩ := u.ttChange_of_some p.isLt (c := s.adminSched p (TMG_TT_CTL_list.get v)) (by rw [htide])
    exact ⟨_, hx, State.changeAsked_of_seen (State.changeAsked_congr p.isLt honly hflt hasked), hen2.trans hen,
      State.tideOnlyBy_of_seen (honly.trans hch)⟩
  · rw [State.ttEnabled_of_invalid h4 hwas' (hfirst ▸ hv)] at hx
    obtain ⟨htide, hen, -, hpost, honly⟩ := (s.seen m).ttInvalid_spec p.isLt (v ||| 4)
    have hrun : ((s.seen m).ttInvalid p (v ||| 4)).running = s.running := by rw [honly.2.2]; exact s.seen_running m
    rw [State.seen_tideOf] at htide
    have hpost := State.posts_congr (s := s) (s.seen_running m) (s.seen_flt m) hpost
    generalize (s.seen m).ttInvalid p (v ||| 4) = u at hx htide hen hpost honly hrun
    rw [State.ttChange_of_none (htide ▸ hnone)] at hx
    obtain ⟨hr, hsame, hrefused, -, ⟨hen2, -⟩, -⟩ := u.ttRefuse_change p.isLt
    have hset := u.wroteEvents_setFld TMG_TT_CTL_change_refused 1 (List.mem_singleton_self (TMG_TT_CTL p))
    exact ⟨_, hx, (hsame p).trans htide, hen2.trans hen, hrefused,
      State.tells_raise (u := u.setFld (TMG_TT_CTL p) TMG_TT_CTL_change_refused 1) hpost hrun 2 p 0,
      State.tideOnlyBy_of_seen (honly.trans hr)⟩

/-- The write without its change bit. -/
theorem gives_ttEnable (hw : s.writable m (TMG_TT_CTL p)) (h2 : v.toNat.testBit 2 = false) :
    let was := s.fldB (TMG_TT_CTL p) TMG_TT_CTL_en
    let first := s.adminSched p (TMG_TT_CTL_list.get v)
    (v.toNat.testBit 0 = false → Gives (.ttEnable m p v) s (fun t => t.tideOf p = {} ∧ (∀ now, t.gatesAt p now = 0xFF) ∧
      t.fld (TMG_TT_CTL p) TMG_TT_CTL_en = 0 ∧ t.fld (TMG_TT_CTL p) TMG_TT_CTL_pending = 0 ∧ s.tideOnlyBy t m p)) ∧
    (v.toNat.testBit 0 = true → was = true → Gives (.ttEnable m p v) s (fun t => t.tideOf p = s.tideOf p ∧
      t.fld (TMG_TT_CTL p) TMG_TT_CTL_en = 1 ∧ t.fld (TMG_TT_CTL p) TMG_TT_CTL_list = s.fld (TMG_TT_CTL p) TMG_TT_CTL_list ∧ s.tideOnlyBy t m p)) ∧
    (v.toNat.testBit 0 = true → was = false → first.valid = true → Gives (.ttEnable m p v) s (fun t =>
      t.tideOf p = { oper := some first, gates := t.gatesAt p s.tide.toNat } ∧ t.fld (TMG_TT_CTL p) TMG_TT_CTL_en = 1 ∧
      t.fld (TMG_TT_CTL p) TMG_TT_CTL_list = TMG_TT_CTL_list.get v ∧ s.tideOnlyBy t m p)) ∧
    (v.toNat.testBit 0 = true → was = false → first.valid = false → Gives (.ttEnable m p v) s (fun t => t.tideOf p = s.tideOf p ∧
      t.fld (TMG_TT_CTL p) TMG_TT_CTL_en = 0 ∧ t.fld (TMG_TT_CTL p) TMG_TT_CTL_change_refused = 1 ∧ s.posts t 0x0505 2 p ∧
      s.tideOnlyBy t m p)) := by
  have hx := exec_ttEnable hw h2
  have hseen := s.seen_fldB m (TMG_TT_CTL p) TMG_TT_CTL_en
  have hfirst := s.seen_adminSched m p (TMG_TT_CTL_list.get v)
  refine ⟨fun h0 => ?_, fun h0 hwas => ?_, fun h0 hwas hv => ?_, fun h0 hwas hv => ?_⟩
  · rw [State.ttEnabled_of_off h0] at hx
    obtain ⟨htide, hen, hpend, honly, -⟩ := (s.seen m).ttClosed_spec p.isLt v h0
    exact ⟨_, hx, htide, fun now => State.gatesAt_of_closed (by rw [htide]) now, hen, hpend, State.tideOnlyBy_of_seen honly⟩
  · rw [State.ttEnabled_of_on h0 (hseen.trans hwas)] at hx
    obtain ⟨htide, hen, hlist, honly, -⟩ := (s.seen m).ttKept_spec p.isLt v h0
    exact ⟨_, hx, htide.trans (s.seen_tideOf m p), hen, hlist.trans (s.seen_fld m _ _), State.tideOnlyBy_of_seen honly⟩
  · rw [State.ttEnabled_of_valid h0 (hseen.trans hwas) (hfirst ▸ hv), hfirst] at hx
    obtain ⟨htide, hen, hlist, honly, -⟩ := (s.seen m).ttOpened_spec p.isLt v h0 (s.adminSched p (TMG_TT_CTL_list.get v))
    rw [State.seen_tide] at htide
    exact ⟨_, hx, htide, hen, hlist, State.tideOnlyBy_of_seen honly⟩
  · rw [State.ttEnabled_of_invalid h0 (hseen.trans hwas) (hfirst ▸ hv)] at hx
    obtain ⟨htide, hen, hrefused, hpost, honly⟩ := (s.seen m).ttInvalid_spec p.isLt v
    exact ⟨_, hx, htide.trans (s.seen_tideOf m p), hen, hrefused, State.posts_congr (s.seen_running m) (s.seen_flt m) hpost,
      State.tideOnlyBy_of_seen honly⟩

end

end

/-! The switch instant, and the entries -/

section
variable {s : State} {m : Master} {v : Word}

/-- A pending change takes effect (R126). -/
theorem State.applyPending_spec (s : State) {p : Nat} (hp : p < 28) (n : TidePending) :
    let t := s.applyPending p n
    (t.tideOf p).oper = some n.sched ∧ (t.tideOf p).pending = none ∧ (t.tideOf p).gates = t.gatesAt p s.tide.toNat ∧
    t.fld (TMG_TT_CTL p) TMG_TT_CTL_pending = 0 ∧ t.fld (TMG_TT_CTL p) TMG_TT_CTL_list = n.sched.list % 2 ∧ s.posts t 0x0504 0 p ∧
    s.tideOnly t p := by
  obtain ⟨w, hw⟩ : ∃ w, ((s.setTide p { s.tideOf p with oper := some n.sched, pending := none }).setFld (TMG_TT_CTL p) TMG_TT_CTL_pending 0).setFld
    (TMG_TT_CTL p) TMG_TT_CTL_list n.sched.list = w := ⟨_, rfl⟩
  have hform : s.applyPending p n = (w.raise 0x0504 0 p).gatesRefresh p := by
    rw [← hw]
    rfl
  have hwtide : w.tideOf p = { s.tideOf p with oper := some n.sched, pending := none } := by
    rw [← hw]
    exact State.tideOf_setTide_self s p _
  have hwpend : w.fld (TMG_TT_CTL p) TMG_TT_CTL_pending = 0 := by
    rw [← hw, State.fld_setFld_ne _ _ (by decide) (by decide) (by decide) (by decide), State.fld_setFld_same _ _ _ (by decide) (by decide)]
    rfl
  have hwlist : w.fld (TMG_TT_CTL p) TMG_TT_CTL_list = n.sched.list % 2 := by
    rw [← hw, State.fld_setFld_same _ _ _ (by decide) (by decide)]
    rfl
  have hwonly : s.tideOnly w p := by
    rw [← hw]
    exact ((s.tideOnly_setTide p _).trans (State.wroteEvents_setFld _ _ _ (List.mem_singleton_self _)).tideOnly).trans
      (State.wroteEvents_setFld _ _ _ (List.mem_singleton_self _)).tideOnly
  have hwflt : w.flt = s.flt := by rw [← hw]; rfl
  have hwrun : w.running = s.running := by rw [← hw]; rfl
  have hwnow : w.tide = s.tide := by rw [← hw]; rfl
  clear hw
  have hframe := w.raise_frame 0x0504 0 p 0 (by decide)
  have hposts := State.posts_congr hwrun hwflt (w.posts_raise 0x0504 0 p 0)
  have hraise := (State.wroteEvents_raise (l := [TMG_TT_CTL p]) w (c := 0x0504) (k := 0) p 0 (by decide) (by decide) rfl).tideOnly
  rw [Nat.mod_eq_of_lt (by omega)] at hposts
  rw [hform]
  generalize w.raise 0x0504 0 p = y at hframe hposts hraise ⊢
  have hctl : ∀ f, y.fld (TMG_TT_CTL p) f = w.fld (TMG_TT_CTL p) f := fun f => by
    rw [State.fld, State.fld, hframe.rd _ (isSrcLost_eq_false.2 (by simp only [TMG_TT_CTL, FLT_SRC_LOST]; omega))]
  obtain ⟨hgates, -, he⟩ := y.gatesRefresh_spec p
  have hregs : (y.gatesRefresh p).regs = y.regs := by rw [he]
  have hflt : (y.gatesRefresh p).flt = y.flt := by rw [he]
  rw [State.tideOf_of_tm hframe.tm p, hwtide, hframe.tide, hwnow] at hgates
  have hrd : ∀ f, (y.gatesRefresh p).fld (TMG_TT_CTL p) f = w.fld (TMG_TT_CTL p) f := fun f => by
    rw [← hctl, State.fld, State.rd_congr hregs]
    rfl
  refine ⟨by rw [hgates], by rw [hgates], by rw [hgates], (hrd _).trans hwpend, (hrd _).trans hwlist, ?_,
    (hwonly.trans hraise).trans (y.tideOnly_gatesRefresh p)⟩
  rw [State.posts, hflt]
  exact hposts

theorem State.switchFinish_of_none (h : s.wrd.switching = none) : s.switchFinish = s := by
  rw [State.switchFinish, h]

theorem gives_scheduleSwitch {p : Fin 28} {n : TidePending} (hn : (s.tideOf p).pending = some n) (hat : n.at_ ≤ s.tide.toNat)
    (hsw : s.wrd.switching = none) : exec (.scheduleSwitch p) s = .next (s.applyPending p n) := by
  have h : s.scheduleSwitch p = s.applyPending p n := by
    rw [State.scheduleSwitch, hn]
    exact if_pos hat
  have hwrd : (s.applyPending p n).wrd = s.wrd := by
    obtain ⟨-, -, -, -, -, -, honly⟩ := s.applyPending_spec p.isLt n
    rw [honly.2.2]
  show Host.Outcome.next (s.scheduleSwitch p).switchFinish = _
  rw [h, State.switchFinish_of_none (hwrd ▸ hsw)]

theorem exec_scheduleSwitch_early {p : Fin 28} (h : ∀ n ∈ (s.tideOf p).pending, s.tide.toNat < n.at_) (hsw : s.wrd.switching = none) :
    exec (.scheduleSwitch p) s = .next s := by
  have hs : s.scheduleSwitch p = s := by
    rw [State.scheduleSwitch]
    split
    · next n hn => exact if_neg (Nat.not_le.2 (h n hn))
    · rfl
  show Host.Outcome.next (s.scheduleSwitch p).switchFinish = _
  rw [hs, State.switchFinish_of_none hsw]

theorem exec_ttData (hw : s.writable m TMG_TT_DATA) : exec (.tmgTtDataWrite m v) s = .next ((s.seen m).ttDataWrite v) :=
  congrArg Host.Outcome.next (State.regCommand_tmg (off := 0x2004) (by decide) hw v)

/-- An entry's list operates, or is pending (R127). -/
def State.listBusy (s : State) (p l : Nat) : Prop :=
  (∃ c ∈ (s.tideOf p).oper, c.list = l) ∨ (∃ n ∈ (s.tideOf p).pending, n.sched.list = l)

theorem State.listBusy_iff (s : State) (p l : Nat) :
    ((s.tideOf p).oper.any (fun c => c.list == l) || (s.tideOf p).pending.any (fun n => n.sched.list == l)) = true ↔ s.listBusy p l := by
  rw [State.listBusy, Bool.or_eq_true]
  refine or_congr ?_ ?_
  · cases (s.tideOf p).oper <;> simp
  · cases (s.tideOf p).pending <;> simp

/-- The entry that the data register writes, and the index that goes on. -/
theorem State.ttDataWrite_of_port (s : State) (v : Word) (hp : s.fld TMG_TT_ADDR TMG_TT_ADDR_port < 28) :
    let p := s.fld TMG_TT_ADDR TMG_TT_ADDR_port
    let l := s.fld TMG_TT_ADDR TMG_TT_ADDR_list
    let i := s.fld TMG_TT_ADDR TMG_TT_ADDR_index
    (s.listBusy p l → s.ttDataWrite v = (s.ttRefuse p TMG_TT_CTL_write_refused).setFld TMG_TT_ADDR TMG_TT_ADDR_index ((i + 1) % 1024)) ∧
    (¬ s.listBusy p l → s.ttDataWrite v =
      { s with tm := { s.tm with entries := tset 0 s.tm.entries (p * 2048 + l * 1024 + i) v } }.setFld TMG_TT_ADDR TMG_TT_ADDR_index ((i + 1) % 1024)) := by
  intro p l i
  refine ⟨fun h => ?_, fun h => ?_⟩ <;> rw [← State.listBusy_iff] at h <;> rw [State.ttDataWrite, if_neg (Nat.not_le.2 hp)] <;> dsimp only
  · rw [if_pos h]
  · rw [if_neg h]

theorem State.setFld_index (s : State) (i : Nat) :
    (s.setFld TMG_TT_ADDR TMG_TT_ADDR_index (i % 1024)).fld TMG_TT_ADDR TMG_TT_ADDR_index = i % 1024 :=
  (State.fld_setFld_same s _ _ (by decide) (by decide)).trans (Nat.mod_eq_of_lt (Nat.mod_lt _ (by decide)))

/-- Settles O29: each kind of write by the table's state that it leaves, the switch instant, and the entries. -/
theorem tideTables : Obligations.TideTables := by
  unfold Obligations.TideTables
  intro s m v
  refine ⟨fun p => ⟨s.gatesRefresh p, rfl, s.gatesRefresh_spec p⟩, fun p hw => ?_, fun p n hn hat hsw => ?_,
    fun p h hsw => ⟨s, exec_scheduleSwitch_early h hsw, rfl⟩, fun hw => ?_⟩
  · refine ⟨fun h0 => gives_change_off hw h0, fun h0 hwas => (gives_change_on hw h0 hwas).1, fun c h0 hwas => (gives_change_on hw h0 hwas).2 c,
      fun h0 hwas => (gives_change_open hw h0 hwas).1, fun h0 hwas => (gives_change_open hw h0 hwas).2, exec_ttEnable_change,
      fun h2 => (gives_ttEnable hw h2).1, fun h2 => (gives_ttEnable hw h2).2.1, fun h2 => (gives_ttEnable hw h2).2.2.1,
      fun h2 => (gives_ttEnable hw h2).2.2.2⟩
  · obtain ⟨hoper, hpend, hgates, hfp, hfl, hposts, hothers, honly, he⟩ := s.applyPending_spec p.isLt n
    exact ⟨_, gives_scheduleSwitch hn hat hsw, hoper, hpend, hgates, hfp, hfl, hposts, hothers, honly, he⟩
  · have hx := exec_ttData (v := v) hw
    have hseen := (s.seen m).ttDataWrite_of_port v
    have hbusy : ∀ p l, (s.seen m).listBusy p l ↔ s.listBusy p l := fun p l => by
      rw [State.listBusy, State.listBusy, State.seen_tideOf]
    simp only [State.seen_fld, hbusy] at hseen
    refine ⟨fun hp => ?_, fun hp hnot => ?_, fun hp hb => ?_⟩
    · refine ⟨_, hx, ?_⟩
      rw [State.ttDataWrite, if_pos (by rw [State.seen_fld]; exact hp)]
    · rw [(hseen hp).2 hnot] at hx
      refine ⟨_, hx, State.setFld_index _ _, ?_, fun e he => ?_, fun a ha _ => ?_, ?_⟩
      · exact tget_tset_same _ _ _ _
      · exact (tget_tset_ne _ _ _ he).trans (by rw [State.seen_tm])
      · exact (State.rd_wr_ne _ _ (fun h => ha (List.mem_singleton.2 h))).trans (s.seen_rd m a)
      · rw [State.seen_tm]
        rfl
    · rw [(hseen hp).1 hb] at hx
      obtain ⟨-, -, hfld, hposts⟩ := (s.seen m).ttRefuse_spec hp TMG_TT_CTL_write_refused
      have hset := (State.wroteEvents_setFld (s.seen m) TMG_TT_CTL_write_refused 1 (List.mem_singleton_self (TMG_TT_CTL (s.fld TMG_TT_ADDR TMG_TT_ADDR_port)))).trans
        (State.wroteEvents_raise _ (c := 0x0505) (k := 2) (s.fld TMG_TT_ADDR TMG_TT_ADDR_port) 0 (by decide) (by decide) rfl)
      obtain ⟨honly, he⟩ := (hset.mono (l' := [TMG_TT_ADDR, TMG_TT_CTL (s.fld TMG_TT_ADDR TMG_TT_ADDR_port)])
        (fun _ => List.mem_cons_of_mem _)).trans
        (State.wroteEvents_setFld ((s.seen m).ttRefuse (s.fld TMG_TT_ADDR TMG_TT_ADDR_port) TMG_TT_CTL_write_refused) TMG_TT_ADDR_index
          ((s.fld TMG_TT_ADDR TMG_TT_ADDR_index + 1) % 1024) List.mem_cons_self)
      refine ⟨_, hx, State.setFld_index _ _, ?_, ?_, State.onlyRegs_seen honly, he⟩
      · have hne : TMG_TT_CTL (s.fld TMG_TT_ADDR TMG_TT_ADDR_port) ≠ TMG_TT_ADDR := by simp only [TMG_TT_CTL, TMG_TT_ADDR]; omega
        rw [State.fld, State.rd_setFld, if_neg hne]
        exact (hfld _).trans (State.fld_setFld_same _ _ _ (by decide) (by decide))
      · exact State.posts_congr (s.seen_running m) (s.seen_flt m) hposts

end

end Sys2Proof.Machine

/-! The event queue and the fault manager (R422 to R432). -/

namespace Sys2Proof.Machine

/-! The first of the best entries of a list -/

/-- Of two entries the later one is taken only where it is better. -/
def firstBest (better : EvEntry → EvEntry → Bool) (best : Option EvEntry) (e : EvEntry) : Option EvEntry :=
  match best with
  | none => some e
  | some b => if better b e then some e else some b

theorem firstBest_cases (better : EvEntry → EvEntry → Bool) (best : Option EvEntry) (e : EvEntry) :
    firstBest better best e = some e ∨ firstBest better best e = best := by
  cases best with
  | none => exact .inl rfl
  | some b =>
    rw [firstBest]
    split
    · exact .inl rfl
    · exact .inr rfl

theorem mem_of_foldl_firstBest (better : EvEntry → EvEntry → Bool) (l : List EvEntry) {e : EvEntry}
    (h : l.foldl (firstBest better) none = some e) : e ∈ l := by
  have hinv : ∀ x, l.foldl (firstBest better) none = some x → x ∈ l :=
    List.foldlRecOn (motive := fun b => ∀ x, b = some x → x ∈ l) l _ (fun x hx => by cases hx) fun b hb y hy x hx => by
      rcases firstBest_cases better b y with h' | h' <;> rw [h'] at hx
      · exact Option.some.inj hx ▸ hy
      · exact hb x hx
  exact hinv e h

/-- An entry that beats every one before it, and that none behind it beats, is the first of the best. -/
theorem foldl_firstBest (better : EvEntry → EvEntry → Bool) (pre post : List EvEntry) (v : EvEntry)
    (hpre : ∀ x ∈ pre, better x v = true) (hpost : ∀ x ∈ post, better v x = false) :
    (pre ++ v :: post).foldl (firstBest better) none = some v := by
  have hv : firstBest better (pre.foldl (firstBest better) none) v = some v := by
    cases h : pre.foldl (firstBest better) none with
    | none => rfl
    | some b => exact if_pos (hpre b (mem_of_foldl_firstBest better pre h))
  rw [List.foldl_append, List.foldl_cons, hv]
  exact List.foldlRecOn (motive := fun b => b = some v) post _ rfl fun b hb x hx => by
    rw [hb]
    exact if_neg (by rw [hpost x hx]; decide)

section
variable {s : State}

theorem State.victim_eq (s : State) : s.victim = s.candidates.foldl (firstBest (fun b e => decide (e.cls < b.cls))) none := by
  have h : (fun (best : Option EvEntry) (e : EvEntry) => match best with
      | none => some e
      | some b => if e.cls < b.cls then some e else some b) = firstBest (fun b e => decide (e.cls < b.cls)) := by
    funext best e
    cases best <;> simp [firstBest]
  exact congrArg (fun f => s.candidates.foldl f none) h

theorem State.nextWaiting_eq (s : State) :
    s.nextWaiting = (s.flt.queue.filter (fun e => e.handling == .waiting)).foldl (firstBest (fun b e => decide (b.cls < e.cls))) none := by
  have h : (fun (best : Option EvEntry) (e : EvEntry) => match best with
      | none => some e
      | some b => if b.cls < e.cls then some e else some b) = firstBest (fun b e => decide (b.cls < e.cls)) := by
    funext best e
    cases best <;> simp [firstBest]
  exact congrArg (fun f => (s.flt.queue.filter (fun e => e.handling == .waiting)).foldl f none) h

theorem State.victim_congr {t : State} (h : t.flt.queue = s.flt.queue) : t.victim = s.victim := by
  rw [State.victim_eq, State.victim_eq, State.candidates, State.candidates, h]

/-- The oldest candidate of the lowest class is overwritten. -/
theorem State.victim_of_split {pre post : List EvEntry} {v : EvEntry} (h : s.candidates = pre ++ v :: post)
    (hpre : ∀ x ∈ pre, v.cls < x.cls) (hpost : ∀ x ∈ post, v.cls ≤ x.cls) : s.victim = some v := by
  rw [State.victim_eq, h]
  exact foldl_firstBest _ pre post v (fun x hx => decide_eq_true (hpre x hx)) fun x hx => decide_eq_false (Nat.not_lt.2 (hpost x hx))

/-- The oldest waiting fault of the highest class is next. -/
theorem State.nextWaiting_of_split {pre post : List EvEntry} {w : EvEntry}
    (h : s.flt.queue.filter (fun e => e.handling == .waiting) = pre ++ w :: post)
    (hpre : ∀ x ∈ pre, x.cls < w.cls) (hpost : ∀ x ∈ post, x.cls ≤ w.cls) : s.nextWaiting = some w := by
  rw [State.nextWaiting_eq, h]
  exact foldl_firstBest _ pre post w (fun x hx => decide_eq_true (hpre x hx)) fun x hx => decide_eq_false (Nat.not_lt.2 (hpost x hx))

theorem State.victim_mem {v : EvEntry} (h : s.victim = some v) : v ∈ s.candidates :=
  mem_of_foldl_firstBest _ _ (s.victim_eq ▸ h)

/-! The fault stack -/

theorem State.onStack_iff (s : State) (code inst : Nat) : s.onStack code inst = true ↔
    ∃ i ∈ s.flt.stack, ∃ e : EvEntry, s.entryAt i.slot = some e ∧ e.inst = inst ∧
      (if e.code = 0x0302 then e.detail else e.code / 256) = code / 256 := by
  rw [State.onStack, List.any_eq_true]
  refine exists_congr fun i => and_congr_right fun _ => ?_
  cases s.entryAt i.slot with
  | none => simp
  | some e => simp [EvEntry.block, and_comm]

/-- The top fault's handling has ended (R423, R431). -/
def State.poppedFault (s : State) (i : StackItem) : State :=
  { s with flt := { s.flt with
      queue := (s.flt.queue.map (fun e => if e.slot = i.slot then { e with handling := .ended } else e)).filter (fun e => !e.gone)
      stack := s.flt.stack.tail } }

/-- A stored fault is on the stack. -/
def State.pushedFault (s : State) (slot : Nat) : State :=
  { s with flt := { s.flt with
      queue := s.flt.queue.map (fun e => if e.slot = slot then { e with handling := .stacked } else e)
      stack := { slot := slot } :: s.flt.stack } }

theorem State.pushFault_eq (s : State) (e : EvEntry) : s.pushFault e = s.pushedFault e.slot := rfl

/-- What the end of a handling leaves: the next of the waiting faults is pushed where it is above what is then on top. -/
def State.handlingEnded (s t : State) : Prop :=
  (s.flt.stack = [] → t = s) ∧
  ∀ i, s.flt.stack.head? = some i →
    ((∀ w, (s.poppedFault i).nextWaiting = some w → w.cls ≤ (s.poppedFault i).topClass) → t = s.poppedFault i) ∧
    ∀ w, (s.poppedFault i).nextWaiting = some w → (s.poppedFault i).topClass < w.cls → t = (s.poppedFault i).pushedFault w.slot

theorem State.faultDone_of_cons {i : StackItem} (h : s.flt.stack.head? = some i) : s.faultDone =
    match (s.poppedFault i).nextWaiting with
    | some w => if (s.poppedFault i).topClass < w.cls then (s.poppedFault i).pushedFault w.slot else s.poppedFault i
    | none => s.poppedFault i := by
  obtain ⟨l, hl⟩ : ∃ l, s.flt.stack = i :: l := by
    cases hs : s.flt.stack with
    | nil => rw [hs] at h; cases h
    | cons j l => rw [hs] at h; cases h; exact ⟨l, rfl⟩
  rw [State.faultDone, hl]
  simp only [State.poppedFault, hl, List.tail_cons]
  rfl

theorem State.handlingEnded_faultDone (s : State) : s.handlingEnded s.faultDone := by
  refine ⟨fun h => by rw [State.faultDone, h], fun i hi => ?_⟩
  rw [State.faultDone_of_cons hi]
  cases (s.poppedFault i).nextWaiting with
  | none => exact ⟨fun _ => rfl, fun w hw => by cases hw⟩
  | some w =>
    exact ⟨fun h => if_neg (Nat.not_lt.2 (h w rfl)), fun w' hw' hlt => by cases hw'; exact if_pos hlt⟩

/-! A posting enters the queue -/

/-- A fault of a resource whose fault is being handled counts one class higher (R424). -/
abbrev State.escalates (s : State) (p : Posting) : Prop := p.esc = false ∧ 2 ≤ p.cls ∧ p.cls < 7 ∧ s.onStack p.code p.inst = true

/-- The class that a posting counts with. -/
def State.classOf (s : State) (p : Posting) : Nat := if s.escalates p then p.cls + 1 else p.cls

theorem State.le_classOf (s : State) (p : Posting) : p.cls ≤ s.classOf p := by
  rw [State.classOf]
  split <;> omega

theorem State.escalate_eq (s : State) (p : Posting) : s.escalate p = (s.classOf p, p.esc || decide (s.escalates p)) := by
  rw [State.escalate, State.classOf]
  by_cases hesc : p.esc = true
  · have hnot : ¬ s.escalates p := fun h => by rw [h.1] at hesc; cases hesc
    rw [if_pos hesc, if_neg hnot, decide_eq_false hnot, hesc]
    rfl
  · have hesc' := Bool.eq_false_iff.2 hesc
    by_cases h : 2 ≤ p.cls ∧ p.cls < 7 ∧ s.onStack p.code p.inst = true
    · have hup : s.escalates p := ⟨hesc', h⟩
      rw [if_neg hesc, if_pos h, if_pos hup, decide_eq_true hup, Bool.or_true]
    · have hup : ¬ s.escalates p := fun hup => h hup.2
      rw [if_neg hesc, if_neg h, if_neg hup, decide_eq_false hup, hesc']
      rfl

/-- The block's buffer without its oldest posting. -/
def State.unposted (s : State) (b : Nat) (rest : List Posting) : State :=
  { s with flt := { s.flt with post := tset [] s.flt.post b rest } }

/-- What becomes of a posting that has entered the queue, or not. -/
def State.handleStored (s1 : State) (p : Posting) (c : Nat) (e : Option EvEntry) : State :=
  let s2 := if e.isSome && s1.fldB FLT_CTL FLT_CTL_reader then s1.irq 0 else s1
  if 7 ≤ p.cls then s2 else s2.postFault p.code c e

theorem State.takePosting_of_cons {b : Nat} {p : Posting} {rest : List Posting} (h : tget [] s.flt.post b = p :: rest) :
    s.takePosting b = (((s.unposted b rest).enqueue p (s.classOf p) (p.esc || decide (s.escalates p))).1.handleStored p (s.classOf p)
      ((s.unposted b rest).enqueue p (s.classOf p) (p.esc || decide (s.escalates p))).2) := by
  have hesc : (s.unposted b rest).escalate p = (s.classOf p, p.esc || decide (s.escalates p)) := s.escalate_eq p
  have hform : s.takePosting b = (let x := (s.unposted b rest).escalate p
      let y := (s.unposted b rest).enqueue p x.1 x.2
      y.1.handleStored p x.1 y.2) := by
    rw [State.takePosting, h]
    rfl
  rw [hform, hesc]

/-- The posting in a storage slot, its generation the number of the slot's uses (R428). -/
def State.stored (s u : State) (p : Posting) (slot : Nat) : State :=
  { u with flt := { u.flt with
      queue := u.flt.queue ++ [{ code := p.code, cls := s.classOf p, esc := p.esc || decide (s.escalates p), inst := p.inst
                                 detail := p.detail, ts := p.ts, gen := tget 0 s.flt.uses slot % 256, slot := slot
                                 handling := if 3 ≤ s.classOf p ∧ s.classOf p < 7 then .waiting else .none }]
      uses := tset 0 u.flt.uses slot (tget 0 s.flt.uses slot + 1) } }

/-- What is done once the posting stands in its slot: the reader's interrupt, and the handling of its class. -/
def State.storedHandled (s : State) (p : Posting) (u t : State) (slot : Nat) : Prop :=
  let v := if s.fldB FLT_CTL FLT_CTL_reader then u.irq 0 else u
  (7 ≤ s.classOf p → t = (if 7 ≤ p.cls then v else v.requestFatal p.code)) ∧
  (s.classOf p < 7 → 3 ≤ s.classOf p → v.topClass < s.classOf p → t = v.pushedFault slot) ∧
  (s.classOf p < 7 → s.classOf p < 3 ∨ s.classOf p ≤ v.topClass → t = v)

theorem State.storedHandled_handleStored {u : State} (p : Posting) {e : EvEntry}
    (hreader : u.fldB FLT_CTL FLT_CTL_reader = s.fldB FLT_CTL FLT_CTL_reader) :
    s.storedHandled p u (u.handleStored p (s.classOf p) (some e)) e.slot := by
  have hle := s.le_classOf p
  rw [State.storedHandled, State.handleStored, hreader]
  simp only [Option.isSome_some, Bool.true_and]
  generalize (if s.fldB FLT_CTL FLT_CTL_reader then u.irq 0 else u) = v
  refine ⟨fun h7 => ?_, fun h7 h3 htop => ?_, fun h7 hlow => ?_⟩
  · rw [State.postFault, if_pos h7]
  · rw [if_neg (by omega), State.postFault, if_neg (by omega)]
    exact if_pos ⟨h3, htop⟩
  · rw [if_neg (by omega), State.postFault, if_neg (by omega)]
    exact if_neg (by omega)

/-- A queue with fewer entries than slots has a free slot, and a posting takes one. -/
theorem State.pickSlot_spec (s : State) (h : s.flt.queue.length < 4096) :
    ∃ slot < 4096, (∀ x ∈ s.flt.queue, x.slot ≠ slot) ∧ s.pickSlot = (slot, { s with free := s.free + 1 }) := by
  obtain ⟨free, hfree⟩ : ∃ l, (List.range 4096).filter (fun i => !(s.flt.queue.any (fun e => e.slot == i))) = l := ⟨_, rfl⟩
  have hne : free ≠ [] := fun hnil => by
    rw [hnil, List.filter_eq_nil_iff] at hfree
    have hsub : List.range 4096 ⊆ s.flt.queue.map EvEntry.slot := fun i hi => by
      have hi' := hfree i hi
      rw [Bool.not_eq_true', Bool.not_eq_false, List.any_eq_true] at hi'
      obtain ⟨e, he, hslot⟩ := hi'
      exact List.mem_map.2 ⟨e, he, beq_iff_eq.1 hslot⟩
    have hlen := (List.nodup_range.subperm hsub).length_le
    rw [List.length_range, List.length_map] at hlen
    omega
  have hlt : Config.freeSlotPick s.free % free.length < free.length := Nat.mod_lt _ (List.length_pos_iff.2 hne)
  have hmem : free[Config.freeSlotPick s.free % free.length] ∈ free := List.getElem_mem hlt
  have hpick : s.pickSlot = (free.getD (Config.freeSlotPick s.free % free.length) 0, { s with free := s.free + 1 }) := by
    rw [← hfree]
    rfl
  rw [List.getD_eq_getElem _ _ hlt] at hpick
  generalize free[Config.freeSlotPick s.free % free.length] = slot at hmem hpick
  rw [← hfree, List.mem_filter, List.mem_range, Bool.not_eq_true', List.any_eq_false] at hmem
  exact ⟨slot, hmem.1, fun x hx hslot => hmem.2 x hx (beq_iff_eq.2 hslot), hpick⟩

/-! The three ways into the queue (R432) -/

theorem State.takePosting_room {b : Nat} {p : Posting} {rest : List Posting} (h : tget [] s.flt.post b = p :: rest)
    (hroom : s.flt.queue.length < 4096) : ∃ slot < 4096, (∀ x ∈ s.flt.queue, x.slot ≠ slot) ∧
      s.storedHandled p { s.stored (s.unposted b rest) p slot with free := s.free + 1 } (s.takePosting b) slot := by
  obtain ⟨slot, hlt, hfree, hpick⟩ := (s.unposted b rest).pickSlot_spec hroom
  have henq : (s.unposted b rest).enqueue p (s.classOf p) (p.esc || decide (s.escalates p)) =
      ({ s.stored (s.unposted b rest) p slot with free := s.free + 1 }, some
        { code := p.code, cls := s.classOf p, esc := p.esc || decide (s.escalates p), inst := p.inst
          detail := p.detail, ts := p.ts, gen := tget 0 s.flt.uses slot % 256, slot := slot
          handling := if 3 ≤ s.classOf p ∧ s.classOf p < 7 then .waiting else .none }) := by
    rw [State.enqueue, if_pos (show (s.unposted b rest).flt.queue.length < 4096 from hroom), hpick]
    rfl
  refine ⟨slot, hlt, hfree, ?_⟩
  rw [State.takePosting_of_cons h, henq]
  exact State.storedHandled_handleStored p (e := { code := p.code, cls := s.classOf p, inst := p.inst, detail := p.detail, ts := p.ts, gen := _, slot := slot, handling := _, esc := _ }) rfl

/-- A full queue that holds nothing of a class as low discards the posting. -/
theorem State.takePosting_discards {b : Nat} {p : Posting} {rest : List Posting} (h : tget [] s.flt.post b = p :: rest)
    (hfull : 4096 ≤ s.flt.queue.length) (hall : ∀ e ∈ s.candidates, s.classOf p < e.cls) :
    let u := (((s.unposted b rest).setFld FLT_EVQ_STATUS FLT_EVQ_STATUS_overflow 1).bump (FLT_EVQ_LOST (s.classOf p))).raiseLim 0x0301 1
    s.takePosting b = if 7 ≤ s.classOf p ∧ p.cls < 7 then u.requestFatal p.code else u := by
  intro u
  have henq : (s.unposted b rest).enqueue p (s.classOf p) (p.esc || decide (s.escalates p)) = (u, none) := by
    have hnot : ¬ (s.unposted b rest).flt.queue.length < 4096 := by
      show ¬ s.flt.queue.length < 4096
      omega
    rw [State.enqueue, if_neg hnot]
    have hvictim : ((s.unposted b rest).setFld FLT_EVQ_STATUS FLT_EVQ_STATUS_overflow 1).victim = s.victim :=
      State.victim_congr rfl
    dsimp only
    rw [hvictim]
    cases hv : s.victim with
    | none => rfl
    | some v => exact if_neg (Nat.not_le.2 (hall v (State.victim_mem hv)))
  rw [State.takePosting_of_cons h, henq, State.handleStored]
  simp only [Option.isSome_none, Bool.false_and, Bool.false_eq_true, if_false, State.postFault]
  by_cases h7 : 7 ≤ p.cls
  · rw [if_pos h7, if_neg (by omega)]
  · rw [if_neg h7]
    exact if_congr (by omega) rfl rfl

/-- The queue once an entry is overwritten: lost, and counted. -/
def State.overwrites (u : State) (v : EvEntry) : State :=
  let x := if v.handling = .waiting then u.setFld FLT_STATUS FLT_STATUS_fault_lost 1 else u
  let w := x.bump (FLT_EVQ_LOST v.cls)
  { w with flt := { w.flt with queue := w.flt.queue.filter (fun e => e.slot != v.slot) } }

theorem State.overwrites_reader (u : State) (v : EvEntry) : (u.overwrites v).rd FLT_CTL = u.rd FLT_CTL := by
  have hlost : FLT_CTL ≠ FLT_EVQ_LOST v.cls := by simp only [FLT_CTL, FLT_EVQ_LOST]; omega
  have hbump : ∀ x : State, (x.bump (FLT_EVQ_LOST v.cls)).rd FLT_CTL = x.rd FLT_CTL := fun x => State.rd_wr_ne x _ hlost
  show ((if v.handling = .waiting then u.setFld FLT_STATUS FLT_STATUS_fault_lost 1 else u).bump (FLT_EVQ_LOST v.cls)).rd FLT_CTL = _
  rw [hbump]
  split
  · exact State.rd_wr_ne u _ (by decide)
  · rfl

/-- A full queue overwrites the oldest entry of its lowest class by a posting that is not below it. -/
theorem State.takePosting_overwrites {b : Nat} {p : Posting} {rest : List Posting} (h : tget [] s.flt.post b = p :: rest)
    (hfull : 4096 ≤ s.flt.queue.length) {v : EvEntry} (hv : s.victim = some v) (hle : v.cls ≤ s.classOf p) :
    s.storedHandled p ((s.stored (((s.unposted b rest).setFld FLT_EVQ_STATUS FLT_EVQ_STATUS_overflow 1).overwrites v) p v.slot).raiseLim 0x0301 1)
      (s.takePosting b) v.slot := by
  obtain ⟨e, he, henq⟩ : ∃ e : EvEntry, e.slot = v.slot ∧ (s.unposted b rest).enqueue p (s.classOf p) (p.esc || decide (s.escalates p)) =
      ((s.stored (((s.unposted b rest).setFld FLT_EVQ_STATUS FLT_EVQ_STATUS_overflow 1).overwrites v) p v.slot).raiseLim 0x0301 1, some e) := by
    have hvictim : ((s.unposted b rest).setFld FLT_EVQ_STATUS FLT_EVQ_STATUS_overflow 1).victim = some v :=
      (State.victim_congr (s := s) (by rfl)).trans hv
    have hwait : ∀ x y : State, (if v.handling == .waiting then x else y) = if v.handling = .waiting then x else y :=
      fun x y => if_congr beq_iff_eq rfl rfl
    refine ⟨{ code := p.code, cls := s.classOf p, esc := p.esc || decide (s.escalates p), inst := p.inst, detail := p.detail, ts := p.ts
              gen := tget 0 s.flt.uses v.slot % 256, slot := v.slot
              handling := if 3 ≤ s.classOf p ∧ s.classOf p < 7 then .waiting else .none }, rfl, ?_⟩
    have hnot : ¬ (s.unposted b rest).flt.queue.length < 4096 := by
      show ¬ s.flt.queue.length < 4096
      omega
    rw [State.enqueue, if_neg hnot]
    dsimp only
    rw [hvictim]
    dsimp only
    rw [if_pos hle, hwait, State.overwrites]
    by_cases hw : v.handling = .waiting
    · rw [if_pos hw]
      rfl
    · rw [if_neg hw]
      rfl
  rw [State.takePosting_of_cons h, henq, ← he]
  refine State.storedHandled_handleStored p ?_
  have hover := ((s.unposted b rest).setFld FLT_EVQ_STATUS FLT_EVQ_STATUS_overflow 1).overwrites_reader v
  have hrd : ((s.unposted b rest).setFld FLT_EVQ_STATUS FLT_EVQ_STATUS_overflow 1).rd FLT_CTL = s.rd FLT_CTL :=
    State.rd_wr_ne (s.unposted b rest) _ (by decide)
  rw [he, State.fldB, State.fldB, State.fld, State.fld, State.raiseLim_rd _ _ _ _ _ _ (by decide) (by decide)]
  exact congrArg (fun w => (Fld.get FLT_CTL_reader w) != 0) (hover.trans hrd)

/-! The readers of the queue, and the fatal request -/

/-- An entry copied to the MRAM event log (R427). -/
def State.logged (s : State) (e : EvEntry) : State :=
  let w := s.mramPut (0xE00000 + 16 * s.mram.logNext) (e.words.flatMap (leBytes 4))
  { w with mram := { w.mram with logNext := (s.mram.logNext + 1) % 65536 } }

/-- An entry marked as read, and gone once no handling of it remains. -/
def State.ackedEntry (s : State) (slot : Nat) : State :=
  { s with flt := { s.flt with
      queue := (s.flt.queue.map (fun x => if x.slot = slot then { x with read := true } else x)).filter (fun e => !e.gone) } }

theorem State.evAck_eq (s : State) (m : Master) (tag : Nat) : s.evAck m tag =
    if m = (if s.fldB FLT_CTL FLT_CTL_reader then Master.pcie else Master.warden) then
      match s.flt.queue.find? (fun e => e.slot == tag / 256 && e.gen == tag % 256) with
      | none => s.setFld FLT_EVQ_STATUS FLT_EVQ_STATUS_ack_miss 1
      | some e => (if m = .warden ∧ !e.read ∧ s.fld FLT_CTL FLT_CTL_log_min ≤ e.cls then s.logged e else s).ackedEntry e.slot
    else s := rfl

section
variable {m : Master}

theorem State.regCommand_flt {off : Nat} (hoff : off < 0x10000) (h : s.writable m (0x20020000 + off)) (v : Word) :
    s.regCommand m (0x20020000 + off) v = (s.seen m).fltWrite m off v := by
  have hblock : (0x20020000 + off) / 0x10000 = 0x2002 := by omega
  have hrest : (0x20020000 + off) % 0x10000 = off := by omega
  rw [State.regCommand_eq h (by simp only [blockAt, hblock]; rfl) (by omega)]
  simp only [State.regWrite, hblock, hrest]

theorem exec_doneFault (hw : s.writable m FLT_FAULT_DONE) (v : Word) : exec (.doneFault m v) s = .next (s.seen m).faultDone := by
  have hgo : (v ||| 1).toNat.testBit 0 = true := testBit_or_set v 1 (by decide) rfl
  refine congrArg Host.Outcome.next ((State.regCommand_flt (off := 0x20) (by decide) hw (v ||| 1)).trans ?_)
  rw [State.fltWrite, if_pos rfl, if_pos hgo]

theorem exec_evqAck (hw : s.writable m FLT_EVQ_ACK) (v : Word) : exec (.evqAck m v) s = .next ((s.seen m).evAck m (v.toNat % 2 ^ 20)) := by
  refine congrArg Host.Outcome.next ((State.regCommand_flt (off := 0x110) (by decide) hw v).trans ?_)
  rw [State.fltWrite, if_neg (by decide), if_pos rfl]

/-- What an acknowledgement leaves. -/
theorem gives_evqAck (hw : s.writable m FLT_EVQ_ACK) (v : Word) :
    let reader := if s.fldB FLT_CTL FLT_CTL_reader then Master.pcie else Master.warden
    let found := s.flt.queue.find? (fun x => x.slot == v.toNat % 2 ^ 20 / 256 && x.gen == v.toNat % 256)
    (m ≠ reader → Gives (.evqAck m v) s (fun t => t = s.seen m)) ∧
    (m = reader → found = none → Gives (.evqAck m v) s (fun t => t = (s.seen m).setFld FLT_EVQ_STATUS FLT_EVQ_STATUS_ack_miss 1)) ∧
    (∀ e : EvEntry, found = some e → m = reader → Gives (.evqAck m v) s (fun t =>
      t = (if m = .warden ∧ e.read = false ∧ s.fld FLT_CTL FLT_CTL_log_min ≤ e.cls then (s.seen m).logged e else s.seen m).ackedEntry e.slot)) := by
  have hx := exec_evqAck hw v
  have hgen : v.toNat % 2 ^ 20 % 256 = v.toNat % 256 := by omega
  rw [State.evAck_eq, State.seen_fldB, State.seen_flt, State.seen_fld, hgen] at hx
  refine ⟨fun hm => ⟨_, hx, if_neg hm⟩, fun hm hnone => ⟨_, hx, ?_⟩, fun e he hm => ⟨_, hx, ?_⟩⟩
  · rw [if_pos hm, hnone]
  · rw [if_pos hm, he]
    simp only [Bool.not_eq_true']

end

/-- The frame of a fatal request. -/
theorem State.fatalFrame_eq (s : State) : dikeFrame 2 s.bank.nextSeq 0 (4 + 8 * s.fld BNK_CTL BNK_CTL_safe_run) =
    dikeFrame 2 s.bank.nextSeq 0 (if s.fldB BNK_CTL BNK_CTL_safe_run then 12 else 4) := by
  have hbit : s.fld BNK_CTL BNK_CTL_safe_run = boolNat ((s.rd BNK_CTL).toNat.testBit 3) := Fld.get_bit 3 _
  rw [State.fldB, hbit]
  cases (s.rd BNK_CTL).toNat.testBit 3 <;> rfl

theorem State.requestFatal_of_idle (h : s.bank.open_ = none) (hp : s.bank.posted = []) (code : Nat) : ∃ answer : Nat,
    s.requestFatal code = { s with
      bank := { s.bank with nextSeq := (s.bank.nextSeq + 1) % 16, lastSeq := some s.bank.nextSeq
                            fatalReq := some (s.bank.fatalReq.getD code) }
      outputs := .dike false (dikeFrame 2 s.bank.nextSeq 0 answer) ::
        .dike true (dikeFrame 2 s.bank.nextSeq 0 (if s.fldB BNK_CTL BNK_CTL_safe_run then 12 else 4)) :: s.outputs
      free := s.free + 1 } := by
  have hidle : s.dikeIdle = true := by rw [State.dikeIdle, h, hp]; rfl
  refine ⟨(Config.dikeData s.free).toNat, ?_⟩
  rw [State.requestFatal, if_pos hidle, State.fatalFrame_eq]
  rfl

theorem State.requestFatal_of_busy (h : s.bank.open_.isSome = true ∨ s.bank.posted ≠ []) (code : Nat) : s.requestFatal code = { s with
    bank := { s.bank with
      nextSeq := (s.bank.nextSeq + 1) % 16
      posted := s.bank.posted ++ [({ master := none, frame := dikeFrame 2 s.bank.nextSeq 0 (if s.fldB BNK_CTL BNK_CTL_safe_run then 12 else 4)
                                     tries := 0, event := code }, true, true)] } } := by
  have hbusy : s.dikeIdle = false := by
    rcases h with h | h
    · rw [State.dikeIdle, Option.isNone_eq_false_iff.2 h]
      rfl
    · rw [State.dikeIdle, List.isEmpty_eq_false_iff.2 h, Bool.and_false]
  rw [State.requestFatal, if_neg (by rw [hbusy]; decide), State.fatalFrame_eq]

/-! The fault policy (R427) -/

/-- The entry that the profile's policy has for a code. -/
def State.policyEntry (s : State) (e : EvEntry) : Option Policy :=
  ((s.profileNow.map (fun b => b.set.policy)).getD []).find? (fun p => p.code == e.code)

/-- The action for a fault: that of its entry, or the default of its class. -/
def State.policyAct (s : State) (e : EvEntry) : Nat :=
  match s.policyEntry e with
  | some p => if p.action = 0 then (if e.cls = 3 then 1 else 2) else p.action
  | none => if e.cls = 3 then 1 else 2

theorem State.policyOf_fst (s : State) (e : EvEntry) : (s.policyOf e).1 = s.policyAct e := by
  rw [State.policyOf, State.policyAct, State.policyEntry]
  cases ((s.profileNow.map (fun b => b.set.policy)).getD []).find? (fun p => p.code == e.code) with
  | none => rfl
  | some p => exact apply_ite Prod.fst _ _ _

theorem State.policyOf_snd {e : EvEntry} (h : s.policyAct e = 5) : (s.policyOf e).2 = ((s.policyEntry e).map (fun p => p.profile)).getD 0 := by
  rw [State.policyAct, State.policyEntry] at h
  rw [State.policyOf, State.policyEntry]
  cases he : ((s.profileNow.map (fun b => b.set.policy)).getD []).find? (fun p => p.code == e.code) with
  | none => rfl
  | some p =>
    rw [he] at h
    have hne : p.action ≠ 0 := fun h0 => by
      dsimp only at h
      rw [if_pos h0] at h
      split at h <;> omega
    dsimp only
    rw [if_neg hne]
    rfl

/-- The warden acts where it serves and a fault is on top. -/
theorem State.policyAction_of_top {e : EvEntry} (htop : s.topFault = some e) (hserv : s.serving = true) : s.policyAction =
    if s.policyAct e = 1 then (s.logged e).faultDone
    else if s.policyAct e = 2 then ((s.logged e).irq 0).faultDone
    else if s.policyAct e = 3 then s.shedClass.faultDone
    else if s.policyAct e = 4 then (s.restartUnit e.code e.inst).faultDone
    else if s.policyAct e = 5 then s.policySwitch e.slot (s.policyOf e).2
    else if s.policyAct e = 6 then s.resetCommand
    else s.requestFatal e.code := by
  rw [← State.policyOf_fst, State.policyAction, hserv, htop]
  rfl

theorem State.policyAction_of_none (h : s.serving = false ∨ s.topFault = none) : s.policyAction = s := by
  rw [State.policyAction]
  rcases h with h | h
  · rw [h]
    rfl
  · rw [h]
    split <;> rfl

/-- No class below 3 has a routine placed: nothing is shed. -/
theorem State.shedClass_of_top
    (h : ∀ r ∈ (s.plc.prog.fixedRoutines.filter (fun r => (s.coreOf r).isSome)).reverse, (s.routine r).shedClass = 3) : s.shedClass = s := by
  have hnone : (List.range 3).find? (fun c => (s.plc.prog.fixedRoutines.filter (fun r => (s.coreOf r).isSome)).reverse.any
      (fun r => (s.routine r).shedClass == c)) = none := by
    refine List.find?_eq_none.2 fun c hc hany => ?_
    obtain ⟨r, hr, hcls⟩ := List.any_eq_true.1 hany
    rw [beq_iff_eq, h r hr] at hcls
    rw [List.mem_range] at hc
    omega
  rw [State.shedClass]
  rw [hnone]

/-- The lowest class that has a routine placed is shed. -/
theorem State.shedClass_of_lowest {c : Nat} (hc : c < 3)
    (hex : ∃ r ∈ (s.plc.prog.fixedRoutines.filter (fun r => (s.coreOf r).isSome)).reverse, (s.routine r).shedClass = c)
    (hall : ∀ r ∈ (s.plc.prog.fixedRoutines.filter (fun r => (s.coreOf r).isSome)).reverse, c ≤ (s.routine r).shedClass) :
    s.shedClass = (((s.plc.prog.fixedRoutines.filter (fun r => (s.coreOf r).isSome)).reverse.filter
      (fun r => (s.routine r).shedClass == c)).foldl State.shedRoutine s).plcRefresh := by
  obtain ⟨placed, hplaced⟩ : ∃ l, (s.plc.prog.fixedRoutines.filter (fun r => (s.coreOf r).isSome)).reverse = l := ⟨_, rfl⟩
  have hform : s.shedClass = match (List.range 3).find? (fun c => placed.any (fun r => (s.routine r).shedClass == c)) with
      | some c => ((placed.filter (fun r => (s.routine r).shedClass == c)).foldl State.shedRoutine s).plcRefresh
      | none => s := by
    rw [← hplaced]
    rfl
  rw [hplaced] at hex hall ⊢
  have hfind : (List.range 3).find? (fun c => placed.any (fun r => (s.routine r).shedClass == c)) = some c := by
    refine List.find?_range_eq_some.2 ⟨?_, List.mem_range.2 hc, fun j hj => ?_⟩
    · obtain ⟨r, hr, hcls⟩ := hex
      exact List.any_eq_true.2 ⟨r, hr, beq_iff_eq.2 hcls⟩
    · rw [Bool.not_eq_true', List.any_eq_false]
      intro r hr hcls
      have := hall r hr
      rw [beq_iff_eq] at hcls
      omega
  rw [hform, hfind]

/-- The instance of an event's code names an external port. -/
def portCode (code : Nat) : Prop :=
  code / 256 = 8 ∨ code / 256 = 5 ∨ code ∈ [0x0404, 0x0405, 0x0406, 0x0408, 0x0409, 0x0A01, 0x0A02, 0x0A03]

theorem portEvent_iff (code : Nat) : portEvent code = true ↔ portCode code := by
  rw [portEvent, portCode, Bool.or_eq_true, Bool.or_eq_true, beq_iff_eq, beq_iff_eq, List.contains_iff_mem, or_assoc]

theorem State.restartUnit_port {code n : Nat} (hport : portCode code) (hn : n < 28) :
    s.restartUnit code n = (s.dropLink n).training n (s.fldB (ETH_PHY_CFG n) ETH_PHY_CFG_en) :=
  if_pos ⟨(portEvent_iff code).2 hport, hn⟩

theorem State.restartUnit_can {code n : Nat} (hcan : code / 256 = 9) (hn : n < 24) :
    s.restartUnit code n = (s.canOff n).canRequest n (s.canMode n) := by
  have hport : ¬ portCode code := fun h => by
    rcases h with h | h | h
    · omega
    · omega
    · have hlist : ∀ x ∈ [0x0404, 0x0405, 0x0406, 0x0408, 0x0409, 0x0A01, 0x0A02, 0x0A03], x / 256 ≠ 9 := by decide
      exact hlist code h hcan
  rw [State.restartUnit, if_neg (fun h => hport ((portEvent_iff code).1 h.1)), if_pos ⟨hcan, hn⟩]

theorem State.restartUnit_none {code n : Nat} (hport : ¬ (portCode code ∧ n < 28)) (hcan : ¬ (code / 256 = 9 ∧ n < 24)) :
    s.restartUnit code n = s := by
  rw [State.restartUnit, if_neg (fun h => hport ⟨(portEvent_iff code).1 h.1, h.2⟩), if_neg hcan]

/-- Action 5 (R447). -/
theorem State.policySwitch_spec (s : State) (slot p : Nat) :
    let waits := s.wrd.inProgress = true ∨ s.wrd.switching.isSome = true ∨ s.updating = true
    let active := s.wrd.run.isSome = true ∧ s.activeProfile = p
    (waits → s.policySwitch slot p = s) ∧ (¬waits → active → s.handlingEnded (s.policySwitch slot p)) ∧
    (¬waits → ¬active → (∀ r vals, s.switchCheck p = .error (r, vals) → (s.switchFailed p r vals).handlingEnded (s.policySwitch slot p)) ∧
      ∀ b : Bundle, s.switchCheck p = .ok b → s.policySwitch slot p =
        s.switchPrepare { slot := p, bundle := b, command := false, fault := some slot, instant := 0, ports := [] } id State.faultDone) := by
  refine ⟨fun hw => if_pos hw, fun hw ha => ?_, fun hw ha => ?_⟩
  · rw [State.policySwitch, if_neg hw, if_pos ha]
    exact s.handlingEnded_faultDone
  · rw [State.policySwitch, if_neg hw, if_neg ha]
    refine ⟨fun r vals hcheck => ?_, fun b hcheck => ?_⟩ <;> rw [hcheck]
    exact (s.switchFailed p r vals).handlingEnded_faultDone

/-- A posting taken from a block's buffer. -/
theorem gives_eventPost {b : Fin 16} {p : Posting} {rest : List Posting} (h : tget [] s.flt.post (b.val + 1) = p :: rest) :
    (s.flt.queue.length < 4096 → Gives (.eventPost b) s (fun t => ∃ slot < 4096, (∀ x ∈ s.flt.queue, x.slot ≠ slot) ∧
      s.storedHandled p { s.stored (s.unposted (b.val + 1) rest) p slot with free := s.free + 1 } t slot)) ∧
    (4096 ≤ s.flt.queue.length → (∀ e ∈ s.candidates, s.classOf p < e.cls) → Gives (.eventPost b) s (fun t =>
      let u := (((s.unposted (b.val + 1) rest).setFld FLT_EVQ_STATUS FLT_EVQ_STATUS_overflow 1).bump (FLT_EVQ_LOST (s.classOf p))).raiseLim 0x0301 1
      t = (if 7 ≤ s.classOf p ∧ p.cls < 7 then u.requestFatal p.code else u))) ∧
    (∀ v : EvEntry, s.victim = some v → 4096 ≤ s.flt.queue.length → v.cls ≤ s.classOf p → Gives (.eventPost b) s (fun t =>
      s.storedHandled p ((s.stored (((s.unposted (b.val + 1) rest).setFld FLT_EVQ_STATUS FLT_EVQ_STATUS_overflow 1).overwrites v) p v.slot).raiseLim
        0x0301 1) t v.slot)) :=
  ⟨fun hroom => ⟨_, rfl, State.takePosting_room h hroom⟩, fun hfull hall => ⟨_, rfl, State.takePosting_discards h hfull hall⟩,
    fun _ hv hfull hle => ⟨_, rfl, State.takePosting_overwrites h hfull hv hle⟩⟩

/-- The handling time limit. -/
theorem State.handleTimeout_spec {i : StackItem} {e : EvEntry} (hi : s.flt.stack.head? = some i) (he : s.topFault = some e) :
    s.handleTimeout = if i.timedOut then s else
      ({ s with flt := { s.flt with stack := { i with timedOut := true } :: s.flt.stack.tail } } : State).raiseP
        { code := 0x0302, cls := min 7 (e.cls + 1), inst := e.inst, detail := e.block, ts := s.tide.toNat % 2 ^ 44, esc := true } := by
  obtain ⟨l, hl⟩ : ∃ l, s.flt.stack = i :: l := by
    cases hs : s.flt.stack with
    | nil => rw [hs] at hi; cases hi
    | cons j l => rw [hs] at hi; cases hi; exact ⟨l, rfl⟩
  rw [State.handleTimeout, he, hl]
  rfl

theorem State.handleTimeout_of_none (h : s.topFault = none) : s.handleTimeout = s := by
  rw [State.handleTimeout, h]
  cases s.flt.stack <;> rfl

/-- What the policy does for the fault on top, action by action. -/
theorem gives_faultPolicyAction {e : EvEntry} (htop : s.topFault = some e) (hserv : s.serving = true) :
    let placed := (s.plc.prog.fixedRoutines.filter (fun r => (s.coreOf r).isSome)).reverse
    let profile := ((s.policyEntry e).map (fun p => p.profile)).getD 0
    let waits := s.wrd.inProgress = true ∨ s.wrd.switching.isSome = true ∨ s.updating = true
    let active := s.wrd.run.isSome = true ∧ s.activeProfile = profile
    let act := s.policyAct e
    (act = 1 → Gives .faultPolicyAction s (fun t => (s.logged e).handlingEnded t)) ∧
    (act = 2 → Gives .faultPolicyAction s (fun t => ((s.logged e).irq 0).handlingEnded t)) ∧
    (act = 3 → (∀ r ∈ placed, (s.routine r).shedClass = 3) → Gives .faultPolicyAction s (fun t => s.handlingEnded t)) ∧
    (∀ c < 3, act = 3 → (∃ r ∈ placed, (s.routine r).shedClass = c) → (∀ r ∈ placed, c ≤ (s.routine r).shedClass) →
      Gives .faultPolicyAction s (fun t =>
        ((placed.filter (fun r => (s.routine r).shedClass == c)).foldl State.shedRoutine s).plcRefresh.handlingEnded t)) ∧
    (act = 4 → portCode e.code → e.inst < 28 → Gives .faultPolicyAction s (fun t =>
      ((s.dropLink e.inst).training e.inst (s.fldB (ETH_PHY_CFG e.inst) ETH_PHY_CFG_en)).handlingEnded t)) ∧
    (act = 4 → e.code / 256 = 9 → e.inst < 24 → Gives .faultPolicyAction s (fun t =>
      ((s.canOff e.inst).canRequest e.inst (s.canMode e.inst)).handlingEnded t)) ∧
    (act = 4 → ¬(portCode e.code ∧ e.inst < 28) → ¬(e.code / 256 = 9 ∧ e.inst < 24) → Gives .faultPolicyAction s (fun t => s.handlingEnded t)) ∧
    (act = 5 → waits → Gives .faultPolicyAction s (fun t => t = s)) ∧
    (act = 5 → ¬waits → active → Gives .faultPolicyAction s (fun t => s.handlingEnded t)) ∧
    (act = 5 → ¬waits → ¬active → Gives .faultPolicyAction s (fun t =>
      (∀ r vals, s.switchCheck profile = .error (r, vals) → (s.switchFailed profile r vals).handlingEnded t) ∧
      (∀ b : Bundle, s.switchCheck profile = .ok b →
        t = s.switchPrepare { slot := profile, bundle := b, command := false, fault := some e.slot, instant := 0, ports := [] } id State.faultDone))) ∧
    (act = 6 → Gives .faultPolicyAction s (fun t => t = s.saveBlocks.fatalStart 7 0 true)) ∧
    (7 ≤ act → Gives .faultPolicyAction s (fun t => t = s.requestFatal e.code)) := by
  have hform := State.policyAction_of_top htop hserv
  intro placed profile waits active act
  have hx : ∀ t, s.policyAction = t → exec .faultPolicyAction s = .next t := fun t ht => congrArg Host.Outcome.next ht
  have hshed : act = 3 → s.policyAction = s.shedClass.faultDone := fun h => by
    rw [hform, if_neg (by omega), if_neg (by omega), if_pos h]
  have hrestart : act = 4 → s.policyAction = (s.restartUnit e.code e.inst).faultDone := fun h => by
    rw [hform, if_neg (by omega), if_neg (by omega), if_neg (by omega), if_pos h]
  have hswitch : act = 5 → s.policyAction = s.policySwitch e.slot profile := fun h => by
    rw [hform, if_neg (by omega), if_neg (by omega), if_neg (by omega), if_neg (by omega), if_pos h, State.policyOf_snd h]
  obtain ⟨hwaits, hactive, hfresh⟩ := s.policySwitch_spec e.slot profile
  have hends : ∀ u : State, s.policyAction = u.faultDone → Gives .faultPolicyAction s (fun t => u.handlingEnded t) := fun u hu =>
    ⟨_, hx _ hu, u.handlingEnded_faultDone⟩
  refine ⟨fun h => hends _ ?_, fun h => hends _ ?_, fun h hall => hends _ ?_, fun c hc h hex hall => hends _ ?_, fun h hport hn => hends _ ?_,
    fun h hcan hn => hends _ ?_, fun h hport hcan => hends _ ?_, fun h hw => ⟨_, hx _ (hswitch h), hwaits hw⟩,
    fun h hw ha => ⟨_, hx _ (hswitch h), hactive hw ha⟩, fun h hw ha => ⟨_, hx _ (hswitch h), hfresh hw ha⟩, fun h => ⟨_, hx _ ?_, rfl⟩,
    fun h => ⟨_, hx _ ?_, rfl⟩⟩
  · rw [hform, if_pos h]
  · rw [hform, if_neg (by omega), if_pos h]
  · rw [hshed h, State.shedClass_of_top hall]
  · rw [hshed h, State.shedClass_of_lowest hc hex hall]
  · rw [hrestart h, State.restartUnit_port hport hn]
  · rw [hrestart h, State.restartUnit_can hcan hn]
  · rw [hrestart h, State.restartUnit_none hport hcan]
  · rw [hform, if_neg (by omega), if_neg (by omega), if_neg (by omega), if_neg (by omega), if_neg (by omega), if_pos h]
    rfl
  · rw [hform, if_neg (by omega), if_neg (by omega), if_neg (by omega), if_neg (by omega), if_neg (by omega), if_neg (by omega)]

/-- Settles O55: each command of the queue and of the fault manager by its own lemma. -/
theorem eventQueue : Obligations.EventQueue := by
  unfold Obligations.EventQueue
  intro s
  refine ⟨fun b => ⟨fun h => ⟨s, congrArg Host.Outcome.next (by rw [State.takePosting, h]), rfl⟩, fun p rest h => gives_eventPost h⟩,
    s.onStack_iff, fun pre post v => State.victim_of_split, fun pre post w => State.nextWaiting_of_split,
    fun m v hw => ⟨_, exec_doneFault hw v, (s.seen m).handlingEnded_faultDone⟩, fun i hi e he => ⟨fun ht => ⟨s, ?_, rfl⟩, fun ht => ⟨_, ?_, rfl⟩⟩,
    fun h => ⟨s, congrArg Host.Outcome.next (State.handleTimeout_of_none h), rfl⟩, fun m v hw => gives_evqAck hw v,
    fun code => ⟨fun h hp => State.requestFatal_of_idle h hp code, fun h => State.requestFatal_of_busy h code⟩,
    fun h => ⟨s, congrArg Host.Outcome.next (State.policyAction_of_none h), rfl⟩, fun e htop hserv => gives_faultPolicyAction htop hserv⟩
  · exact congrArg Host.Outcome.next (by rw [State.handleTimeout_spec hi he, if_pos ht])
  · exact congrArg Host.Outcome.next (by rw [State.handleTimeout_spec hi he, if_neg (by rw [ht]; decide)]; rfl)

end

end Sys2Proof.Machine

/-! The command ring (R436 to R444). -/

namespace Sys2Proof.Machine

/-! Words stored from a register address on -/

section
variable {s t : State}

theorem State.wroteRegs_putWords (s : State) (a : Nat) (l : List Nat) :
    s.wroteRegs (s.putWords a l) ((List.range l.length).map (fun k => a + 4 * k)) := by
  induction l generalizing s a with
  | nil => exact State.wroteRegs.refl s _
  | cons w l ih =>
    have hhead : s.wroteRegs (s.wr a (BitVec.ofNat 32 w)) ((List.range (w :: l).length).map (fun k => a + 4 * k)) :=
      State.wroteRegs_wr s _ (List.mem_map.2 ⟨0, by simp, rfl⟩)
    refine hhead.trans ((ih (s.wr a (BitVec.ofNat 32 w)) (a + 4)).mono fun b hb => ?_)
    obtain ⟨k, hk, rfl⟩ := List.mem_map.1 hb
    rw [List.mem_range] at hk
    exact List.mem_map.2 ⟨k + 1, by rw [List.mem_range, List.length_cons]; omega, by omega⟩

theorem State.rd_putWords (s : State) (a : Nat) (l : List Nat) {k : Nat} (hk : k < l.length) :
    (s.putWords a l).rd (a + 4 * k) = BitVec.ofNat 32 (l.getD k 0) := by
  induction l generalizing s a k with
  | nil => simp at hk
  | cons w l ih =>
    cases k with
    | zero =>
      have hnot : a ∉ (List.range l.length).map (fun k => a + 4 + 4 * k) := fun hm => by
        obtain ⟨k, -, hk⟩ := List.mem_map.1 hm
        omega
      have hrest := ((s.wr a (BitVec.ofNat 32 w)).wroteRegs_putWords (a + 4) l).1 a hnot
      exact hrest.trans (State.rd_wr_same s a _)
    | succ k =>
      rw [List.length_cons] at hk
      have h := ih (s.wr a (BitVec.ofNat 32 w)) (a + 4) (k := k) (by omega)
      rw [show a + 4 * (k + 1) = a + 4 + 4 * k by omega]
      exact h

/-! Bytes as words and back -/

theorem leBytes_leNat_four (b0 b1 b2 b3 : Byte) : leBytes 4 (BitVec.ofNat 32 (leNat [b0, b1, b2, b3])).toNat = [b0, b1, b2, b3] := by
  have h0 := b0.isLt
  have h1 := b1.isLt
  have h2 := b2.isLt
  have h3 := b3.isLt
  have hn : (BitVec.ofNat 32 (leNat [b0, b1, b2, b3])).toNat = b0.toNat + 256 * (b1.toNat + 256 * (b2.toNat + 256 * b3.toNat)) := by
    simp only [leNat, BitVec.toNat_ofNat, Nat.mul_zero, Nat.add_zero]
    omega
  rw [hn]
  simp only [leBytes, List.cons.injEq, and_true]
  refine ⟨?_, ?_, ?_, ?_⟩ <;> apply BitVec.eq_of_toNat_eq <;> rw [BitVec.toNat_ofNat] <;> omega

/-- Whole words keep their bytes. -/
theorem bytesWords_spec (l : List Byte) (h : l.length % 4 = 0) :
    (bytesWords l).length = l.length / 4 ∧ (bytesWords l).flatMap (fun w => leBytes 4 (BitVec.ofNat 32 w).toNat) = l := by
  induction l using bytesWords.induct with
  | case1 b0 b1 b2 b3 l ih =>
    simp only [List.length_cons] at h
    obtain ⟨hlen, hbytes⟩ := ih (by omega)
    rw [bytesWords, List.length_cons, List.flatMap_cons, hlen, hbytes, leBytes_leNat_four]
    simp only [List.length_cons]
    exact ⟨by omega, rfl⟩
  | case2 => exact ⟨rfl, rfl⟩
  | case3 l hlong hne =>
    exfalso
    match l, hlong, hne with
    | [], _, hne => exact hne rfl
    | [_], _, _ => simp at h
    | [_, _], _, _ => simp at h
    | [_, _, _], _, _ => simp at h
    | b0 :: b1 :: b2 :: b3 :: l, hlong, _ => exact hlong b0 b1 b2 b3 l rfl

theorem length_flatMap_leBytes {α : Type} (f : α → Nat) (l : List α) : (l.flatMap (fun x => leBytes 4 (f x))).length = 4 * l.length := by
  induction l with
  | nil => rfl
  | cons x l ih =>
    rw [List.flatMap_cons, List.length_append, ih, length_leBytes, List.length_cons]
    omega

theorem State.length_regBytes (s : State) (a n : Nat) : (s.regBytes a n).length = n := by
  rw [State.regBytes, List.length_take, length_flatMap_leBytes, List.length_range]
  omega

/-- Returned bytes with the rest of their last word: whole words. -/
theorem State.bufferWords_spec (s : State) (a : Nat) (out : List Byte) :
    (s.bufferWords a out).length = (out.length + 3) / 4 ∧
      ((s.bufferWords a out).flatMap (fun w => leBytes 4 (BitVec.ofNat 32 w).toNat)).take out.length = out := by
  obtain ⟨rest, hrest⟩ : ∃ l, (s.regBytes a ((out.length + 3) / 4 * 4)).drop out.length = l := ⟨_, rfl⟩
  have hlen : rest.length = (out.length + 3) / 4 * 4 - out.length := by rw [← hrest, List.length_drop, State.length_regBytes]
  have hall : (out ++ rest).length = (out.length + 3) / 4 * 4 := by rw [List.length_append, hlen]; omega
  obtain ⟨hwords, hbytes⟩ := bytesWords_spec (out ++ rest) (by omega)
  rw [State.bufferWords, hrest, hwords, hbytes, hall]
  exact ⟨by omega, List.take_left' rfl⟩

/-- What stands in the registers once they are stored. -/
theorem State.regBytes_of_words {a : Nat} {l : List Nat} (h : ∀ k < l.length, t.rd (a + 4 * k) = BitVec.ofNat 32 (l.getD k 0)) {n : Nat}
    (hn : (n + 3) / 4 = l.length) : t.regBytes a n = (l.flatMap (fun w => leBytes 4 (BitVec.ofNat 32 w).toNat)).take n := by
  have hmap : (List.range l.length).map (fun k => l.getD k 0) = l := by
    refine List.ext_getElem (by simp) fun k h1 h2 => ?_
    rw [List.getElem_map, List.getElem_range, List.getD_eq_getElem _ _ h2]
  have hflat : (List.range l.length).flatMap (fun k => leBytes 4 (t.rd (a + 4 * k)).toNat) =
      l.flatMap (fun w => leBytes 4 (BitVec.ofNat 32 w).toNat) := by
    conv_rhs => rw [← hmap, List.flatMap_map]
    refine List.flatMap_congr fun k hk => ?_
    rw [h k (List.mem_range.1 hk)]
  rw [State.regBytes, hn, hflat]

/-! The interrupt of a vector -/

theorem testBit_withBit_self (n i : Nat) : (withBit n i true).testBit i = true := by
  rw [withBit]
  split
  · assumption
  · next h => rw [if_pos rfl, Nat.add_comm, Nat.testBit_two_pow_add_eq, Bool.eq_false_iff.2 h]; rfl

/-- An interrupt is one status bit, and a message or its pending bit. -/
theorem State.irq_spec (s : State) {v : Nat} (hv : v < 32) :
    ((s.irq v).rd FAB_IRQ_STATUS).toNat.testBit v = true ∧ (∀ a, a ∉ [FAB_IRQ_STATUS, FAB_PBA] → (s.irq v).rd a = s.rd a) ∧
      s.irq v = { s with regs := (s.irq v).regs, outputs := (s.irq v).outputs } := by
  have hmsix : ∀ u : State, (∀ a, a ≠ FAB_PBA → (u.sendMsix v).rd a = u.rd a) ∧
      u.sendMsix v = { u with regs := (u.sendMsix v).regs, outputs := (u.sendMsix v).outputs } := fun u => by
    rw [State.sendMsix]
    split
    · exact ⟨fun a ha => State.rd_wr_ne u _ ha, rfl⟩
    · exact ⟨fun _ _ => rfl, rfl⟩
  rw [State.irq]
  by_cases h : (s.rd FAB_IRQ_STATUS).toNat.testBit v = true
  · rw [if_pos h]
    exact ⟨h, fun _ _ => rfl, rfl⟩
  · rw [if_neg h]
    obtain ⟨w, hw⟩ : ∃ w, s.wr FAB_IRQ_STATUS (BitVec.ofNat 32 (withBit (s.rd FAB_IRQ_STATUS).toNat v true)) = w := ⟨_, rfl⟩
    have hbit : (w.rd FAB_IRQ_STATUS).toNat.testBit v = true := by
      rw [← hw, State.rd_wr_same, BitVec.toNat_ofNat, Nat.testBit_mod_two_pow, testBit_withBit_self]
      simp [hv]
    have hrd : ∀ a, a ≠ FAB_IRQ_STATUS → w.rd a = s.rd a := fun a ha => by rw [← hw]; exact State.rd_wr_ne s _ ha
    have heq : w = { s with regs := w.regs } := by rw [← hw]; rfl
    dsimp only
    rw [hw]
    obtain ⟨hkeep, hms⟩ := hmsix w
    by_cases hmask : (s.rd FAB_IRQ_MASK).toNat.testBit v = true
    · rw [if_pos hmask]
      exact ⟨hbit, fun a ha => hrd a (fun h => ha (by rw [h]; exact List.mem_cons_self)), heq.trans (by rw [heq])⟩
    · rw [if_neg hmask]
      refine ⟨by rw [hkeep _ (by decide)]; exact hbit, fun a ha => ?_, hms.trans (by rw [heq])⟩
      rw [List.mem_cons, List.mem_singleton, not_or] at ha
      exact (hkeep a ha.2).trans (hrd a ha.1)

end

/-! A command of the ring completes (R438, R440) -/

section
variable {s : State} {i : Nat} {h d : Bool} {rest : List Arrival}

/-- The state with the command at the front gone from those that wait. -/
def State.popped (s : State) (rest : List Arrival) : State := s.setWrd { s.wrd with arrivals := rest, inProgress := false }

/-- The result words and the returned bytes in their slot. -/
def State.slotFilled (s : State) (rest : List Arrival) (i res : Nat) (vals : List Nat) (out : List Byte) : State :=
  ((s.popped rest).putWords (resultAddr i 0) (resultWords res s.cmdCode vals out.length)).putWords (dataAddr i) (s.bufferWords (dataAddr i) out)

theorem State.bufferWords_congr {t : State} (hregs : ∀ a, t.rd a = s.rd a) (a : Nat) (out : List Byte) : t.bufferWords a out = s.bufferWords a out := by
  simp only [State.bufferWords, State.regBytes, hregs]

theorem State.post_ring (ha : s.wrd.arrivals = .ring i h d :: rest) (res : Nat) (vals : List Nat) (out : List Byte) :
    s.post res vals out = ((s.slotFilled rest i res vals out).setFld SYS_CMD_DONE SYS_CMD_DONE_done ((i + 1) % 256)).irq 1 := by
  unfold State.post
  rw [ha]
  rfl

theorem length_resultWords (res code : Nat) (vals : List Nat) (out : Nat) : (resultWords res code vals out).length = 8 := by
  simp only [resultWords, List.length_append, List.length_take, List.length_replicate, List.length_cons, List.length_nil]
  omega

theorem getD_resultWords (res code : Nat) (vals : List Nat) (out : Nat) {k : Nat} (hk : k < 6) :
    (resultWords res code vals out).getD (k + 2) 0 = vals.getD k 0 := by
  have hcons : (resultWords res code vals out).getD (k + 2) 0 = ((vals ++ List.replicate 6 0).take 6).getD k 0 := rfl
  rw [hcons, List.getD_eq_getElem?_getD, List.getElem?_take_of_lt hk, List.getD_eq_getElem?_getD]
  by_cases hlen : k < vals.length
  · rw [List.getElem?_append_left hlen]
  · rw [List.getElem?_append_right (by omega), List.getElem?_eq_none (l := vals) (by omega),
      List.getElem?_replicate_of_lt (by omega)]
    rfl

/-- Where a completion writes. -/
def slotRegs (i n : Nat) : List Nat :=
  (List.range 8).map (resultAddr i) ++ (List.range ((n + 3) / 4)).map (fun k => dataAddr i + 4 * k)

theorem slotRegs_bounds {i n a : Nat} (hn : n ≤ 4096) (h : a ∈ slotRegs i n) : 0x20001000 ≤ a ∧ a < 0x20010000 := by
  rw [slotRegs, List.mem_append, List.mem_map, List.mem_map] at h
  rcases h with ⟨k, hk, rfl⟩ | ⟨k, hk, rfl⟩ <;> rw [List.mem_range] at hk
  · simp only [resultAddr]
    omega
  · simp only [dataAddr]
    omega

theorem State.slotFilled_spec (s : State) (rest : List Arrival) (i res : Nat) (vals : List Nat) (out : List Byte) :
    let t := s.slotFilled rest i res vals out
    (∀ k < 8, t.rd (resultAddr i k) = BitVec.ofNat 32 ((resultWords res s.cmdCode vals out.length).getD k 0)) ∧
      (∀ k < (out.length + 3) / 4, t.rd (dataAddr i + 4 * k) = BitVec.ofNat 32 ((s.bufferWords (dataAddr i) out).getD k 0)) ∧
      (s.popped rest).wroteRegs t (slotRegs i out.length) := by
  obtain ⟨hlen, -⟩ := s.bufferWords_spec (dataAddr i) out
  generalize hw : s.bufferWords (dataAddr i) out = w at hlen
  obtain ⟨u, hu⟩ : ∃ u, (s.popped rest).putWords (resultAddr i 0) (resultWords res s.cmdCode vals out.length) = u := ⟨_, rfl⟩
  have hfirst : (s.popped rest).wroteRegs u ((List.range 8).map (resultAddr i)) := by
    have h := (s.popped rest).wroteRegs_putWords (resultAddr i 0) (resultWords res s.cmdCode vals out.length)
    rw [length_resultWords, hu] at h
    exact h
  have hrest : u.wroteRegs (u.putWords (dataAddr i) w) ((List.range ((out.length + 3) / 4)).map (fun k => dataAddr i + 4 * k)) := by
    have h := u.wroteRegs_putWords (dataAddr i) w
    rwa [hlen] at h
  have ht : s.slotFilled rest i res vals out = u.putWords (dataAddr i) w := by rw [State.slotFilled, hu, hw]
  rw [ht]
  refine ⟨fun k hk => ?_, fun k hk => State.rd_putWords u _ w (by rw [hlen]; exact hk),
    (hfirst.mono fun a ha => List.mem_append_left _ ha).trans (hrest.mono fun a ha => List.mem_append_right _ ha)⟩
  have hnot : resultAddr i k ∉ (List.range ((out.length + 3) / 4)).map (fun k => dataAddr i + 4 * k) := fun hm => by
    obtain ⟨j, -, hj⟩ := List.mem_map.1 hm
    simp only [dataAddr, resultAddr] at hj
    omega
  rw [hrest.1 _ hnot, ← hu]
  exact State.rd_putWords (s.popped rest) (resultAddr i 0) _ (by rw [length_resultWords]; exact hk)

/-- The registers and the state that a completion leaves. -/
theorem State.post_ring_spec (ha : s.wrd.arrivals = .ring i h d :: rest) {res : Nat} (vals : List Nat) {out : List Byte} (hout : out.length ≤ 4096) :
    let t := s.post res vals out
    t.rd (resultAddr i 0) = BitVec.ofNat 32 (res + s.cmdCode * 256) ∧ t.rd (resultAddr i 1) = BitVec.ofNat 32 out.length ∧
      (∀ k < 6, t.rd (resultAddr i (k + 2)) = BitVec.ofNat 32 (vals.getD k 0)) ∧ t.regBytes (dataAddr i) out.length = out ∧
      t.ringDone = (i + 1) % 256 ∧ (t.rd FAB_IRQ_STATUS).toNat.testBit 1 = true ∧
      s.onlyRegs t (slotRegs i out.length ++ [SYS_CMD_DONE, FAB_IRQ_STATUS, FAB_PBA]) ∧
      t = { s with regs := t.regs, outputs := t.outputs, wrd := { s.wrd with arrivals := rest, inProgress := false } } := by
  rw [State.post_ring ha]
  obtain ⟨hresult, hdata, hfilled⟩ := s.slotFilled_spec rest i res vals out
  generalize s.slotFilled rest i res vals out = u at hresult hdata hfilled
  have hdone : u.wroteRegs (u.setFld SYS_CMD_DONE SYS_CMD_DONE_done ((i + 1) % 256)) [SYS_CMD_DONE] :=
    State.wroteRegs_setFld u _ _ (List.mem_singleton_self _)
  have hring : (u.setFld SYS_CMD_DONE SYS_CMD_DONE_done ((i + 1) % 256)).ringDone = (i + 1) % 256 := by
    rw [State.ringDone, State.fld, State.rd_setFld, if_pos rfl, Fld.get_put _ _ _ (by decide) (by decide)]
    exact Nat.mod_mod _ _
  generalize u.setFld SYS_CMD_DONE SYS_CMD_DONE_done ((i + 1) % 256) = w at hdone hring
  obtain ⟨hbit, hkeep, hirq⟩ := w.irq_spec (v := 1) (by decide)
  generalize w.irq 1 = t at hbit hkeep hirq
  have hslot : ∀ a, 0x20001000 ≤ a → a < 0x20010000 → t.rd a = u.rd a := fun a hlo hhi => by
    have h1 : a ∉ [FAB_IRQ_STATUS, FAB_PBA] := by
      simp only [List.mem_cons, List.not_mem_nil, or_false, FAB_IRQ_STATUS, FAB_PBA]
      omega
    have h2 : a ∉ [SYS_CMD_DONE] := by
      simp only [List.mem_cons, List.not_mem_nil, or_false, SYS_CMD_DONE]
      omega
    exact (hkeep a h1).trans (hdone.1 a h2)
  have hword : ∀ k < 8, t.rd (resultAddr i k) = BitVec.ofNat 32 ((resultWords res s.cmdCode vals out.length).getD k 0) := fun k hk =>
    (hslot _ (by simp only [resultAddr]; omega) (by simp only [resultAddr]; omega)).trans (hresult k hk)
  obtain ⟨hlen, hbytes⟩ := s.bufferWords_spec (dataAddr i) out
  refine ⟨hword 0 (by decide), hword 1 (by decide), fun k hk => ?_, ?_, ?_, hbit, fun a hnot _ => ?_, ?_⟩
  · rw [hword (k + 2) (by omega), getD_resultWords _ _ _ _ hk]
  · rw [State.regBytes_of_words (l := s.bufferWords (dataAddr i) out) (fun k hk => ?_) hlen.symm, hbytes]
    rw [hlen] at hk
    exact (hslot _ (by simp only [dataAddr]; omega) (by simp only [dataAddr]; omega)).trans (hdata k hk)
  · rw [State.ringDone, State.fld, hkeep _ (by decide)]
    exact hring
  · rw [List.mem_append, not_or, List.mem_cons, not_or] at hnot
    obtain ⟨hs, hd, hi⟩ := hnot
    exact (hkeep a hi).trans ((hdone.1 a (by rw [List.mem_singleton]; exact hd)).trans (hfilled.1 a hs))
  · rw [hirq, hdone.2, hfilled.2]
    rfl

/-! Commands that complete at once (R442, R444) -/

theorem State.serving_post_ring (ha : s.wrd.arrivals = .ring i h d :: rest) (res : Nat) : (s.post res).serving = s.serving := by
  obtain ⟨-, -, -, -, -, -, hregs, heq⟩ := State.post_ring_spec ha (res := res) [] (out := []) (by decide)
  have hdev : (s.post res).dev = s.dev := by rw [heq]
  have hbank : (s.post res).bank = s.bank := by rw [heq]
  have hphase : (s.post res).rd SYS_BOOT_STATUS = s.rd SYS_BOOT_STATUS := by
    refine hregs SYS_BOOT_STATUS (fun hm => ?_) (by decide)
    rw [List.mem_append] at hm
    rcases hm with hm | hm
    · exact absurd (slotRegs_bounds (by decide) hm).1 (by decide)
    · exact absurd hm (by decide)
  simp only [State.serving, State.running, State.fld, hdev, hbank, hphase]

theorem State.served_of_intake (ha : s.wrd.arrivals = .ring i h d :: rest) (hserve : s.serving = true) (hbusy : s.wrd.inProgress = false)
    {r : Nat} (hr : s.intake (.ring i h d) = some r) : s.served = (s.post r).served := by
  have hrest : (s.post r).wrd.arrivals = rest := by
    rw [(State.post_ring_spec ha (res := r) [] (out := []) (by decide)).2.2.2.2.2.2.2]
  rw [State.served, if_pos hserve, ha, List.length_cons, State.settle, State.served, State.serving_post_ring ha, if_pos hserve, hrest]
  simp only [ha, hbusy, hr, Bool.false_eq_true, if_false]

/-- Nothing is served where the warden does not serve, has a command in progress, or has none that waits. -/
theorem State.served_of_idle (hidle : s.serving = false ∨ s.wrd.inProgress = true ∨ s.wrd.arrivals = []) : s.served = s := by
  rw [State.served]
  rcases hidle with h | h | h
  · rw [h]
    rfl
  · cases ha : s.wrd.arrivals with
    | nil => simp [State.settle]
    | cons a rest => simp [State.settle, ha, h]
  · simp [h, State.settle]

/-- A command that the warden can run stays at the front. -/
theorem State.served_of_intake_none {a : Arrival} (ha : s.wrd.arrivals = a :: rest) (hnone : s.intake a = none) : s.served = s := by
  rw [State.served, ha, List.length_cons, State.settle]
  simp only [ha, hnone]
  simp

/-! How a command at the front is judged, in the order of its checks -/

theorem mem_of_contains_eq_false {code : Nat} (h : code ∉ commandCodes) : commandCodes.contains code = false := by
  rw [← Bool.not_eq_true, List.contains_iff_mem]
  exact h

theorem State.held_iff (s : State) (a : Arrival) :
    (s.dev.recovery = true ∧ (!decide (a.fromHost = true ∧ (s.cmdCode = 0x0401 ∨ s.cmdCode = 0x0402 ∨ s.cmdCode = 0x0003))) = true) ↔
      (s.dev.recovery = true ∧ ¬(a.fromHost = true ∧ (s.cmdCode = 0x0401 ∨ s.cmdCode = 0x0402 ∨ s.cmdCode = 0x0003))) := by
  rw [Bool.not_eq_true', decide_eq_false_iff_not]

theorem State.intake_cases (s : State) (a : Arrival) :
    let code := s.cmdCode
    let hold := s.dev.recovery = true ∧ ¬(a.fromHost = true ∧ (code = 0x0401 ∨ code = 0x0402 ∨ code = 0x0003))
    let barred := a.fromFabric = true ∧ (code = 0x0404 ∨ code = 0x0405 ∨ code = 0x0501)
    (hold → s.intake a = some 12) ∧ (¬hold → code ∉ commandCodes → s.intake a = some 2) ∧
      (¬hold → code ∈ commandCodes → barred → s.intake a = some 4) ∧
      (¬hold → code ∈ commandCodes → ¬barred → 4096 < s.cmdLen → s.intake a = some 3) ∧
      (¬hold → code ∈ commandCodes → ¬barred → s.cmdLen ≤ 4096 → s.intake a = none) := by
  have hknown : s.cmdCode ∈ commandCodes → ¬ (!commandCodes.contains s.cmdCode) = true := fun h => by
    rw [List.contains_iff_mem.2 h]
    decide
  have hheld := s.held_iff a
  dsimp only
  refine ⟨fun h => ?_, fun h hc => ?_, fun h hc hb => ?_, fun h hc hb hl => ?_, fun h hc hb hl => ?_⟩
  · exact if_pos (hheld.2 h)
  · exact (if_neg (mt hheld.1 h)).trans (if_pos (by rw [mem_of_contains_eq_false hc]; rfl))
  · exact (if_neg (mt hheld.1 h)).trans ((if_neg (hknown hc)).trans (if_pos hb))
  · exact (if_neg (mt hheld.1 h)).trans ((if_neg (hknown hc)).trans ((if_neg hb).trans (if_pos hl)))
  · exact (if_neg (mt hheld.1 h)).trans ((if_neg (hknown hc)).trans ((if_neg hb).trans (if_neg (by omega))))

/-! A command's event where the warden does not take it -/

theorem State.onCommand_of_taken {code : Nat} (f : State → State) (ht : s.taken code = true) : s.onCommand code f = f s := if_pos ht

end

/-- A command's event that has no effect unless the warden takes a command of its code. -/
def guards (p : Nat × Instr) : Prop := ∃ f : State → State, ∀ s : State, exec p.2 s = .next (s.onCommand p.1 f)

/-- Every command's event has its code's guard. -/
theorem guards_commands : ∀ c ∈ ([(0x0001, .nopCommand), (0x0002, .readIdentity), (0x0003, .reset), (0x0004, .sleep), (0x0101, .switchProfile),
    (0x0102, .setStartOptions), (0x0103, .setPolders), (0x0201, .admitStream), (0x0202, .removeStream), (0x0203, .addTrieEntry),
    (0x0204, .removeTrieEntry), (0x0205, .addMacEntry), (0x0206, .removeMacEntry), (0x0207, .flushMacTable), (0x0301, .resumeRoutine),
    (0x0302, .setKeeperPolders), (0x0401, .writeImageChunk), (0x0402, .installImage), (0x0403, .loadBundle), (0x0404, .programCustomerRoot),
    (0x0405, .revokeCustomerRoot), (0x0406, .attest), (0x0407, .scrubMram), (0x0501, .setRemoteAccess)] : List (Nat × Instr)), guards c := by
  simp only [List.forall_mem_cons, guards]
  exact ⟨⟨_, fun _ => rfl⟩, ⟨_, fun _ => rfl⟩, ⟨_, fun _ => rfl⟩, ⟨_, fun _ => rfl⟩, ⟨_, fun _ => rfl⟩, ⟨_, fun _ => rfl⟩, ⟨_, fun _ => rfl⟩,
    ⟨_, fun _ => rfl⟩, ⟨_, fun _ => rfl⟩, ⟨_, fun _ => rfl⟩, ⟨_, fun _ => rfl⟩, ⟨_, fun _ => rfl⟩, ⟨_, fun _ => rfl⟩, ⟨_, fun _ => rfl⟩,
    ⟨_, fun _ => rfl⟩, ⟨_, fun _ => rfl⟩, ⟨_, fun _ => rfl⟩, ⟨_, fun _ => rfl⟩, ⟨_, fun _ => rfl⟩, ⟨_, fun _ => rfl⟩, ⟨_, fun _ => rfl⟩,
    ⟨_, fun _ => rfl⟩, ⟨_, fun _ => rfl⟩, ⟨_, fun _ => rfl⟩, fun _ h => absurd h List.not_mem_nil⟩

theorem gives_same_of_guards {c : Nat × Instr} (hc : guards c) {s : State} (ht : s.taken c.1 = false) : Gives c.2 s (fun t => t = s) := by
  obtain ⟨f, hf⟩ := hc
  refine ⟨_, hf s, ?_⟩
  rw [State.onCommand, ht]
  rfl

section
variable {s : State} {m : Master}

theorem State.seen_copying : (s.seen m).copying = s.copying := by simp only [State.copying, State.seen_mram]

theorem State.seen_arrivals : (s.seen m).wrd.arrivals = s.wrd.arrivals := by
  unfold State.seen
  split <;> rfl

/-- An index in order becomes prod, and its commands wait behind the others (R437). -/
theorem State.prodWrite_eq_of_inOrder {v : Nat} (hm : ringMaster m = true) (hroom : ahead (v % 256) s.ringAck ≤ 8)
    (hback : ahead s.ringProd s.ringAck ≤ ahead (v % 256) s.ringAck) :
    s.prodWrite m v = ((s.setFld SYS_CMD_PROD SYS_CMD_PROD_prod (v % 256)).setWrd
      { s.wrd with arrivals := s.wrd.arrivals ++ issued m s.ringProd (ahead (v % 256) s.ringProd) s.copying }).served :=
  (if_pos hm).trans (if_pos ⟨hroom, hback⟩)

theorem State.prodWrite_eq_of_bad {v : Nat} (hm : ringMaster m = true)
    (hbad : 8 < ahead (v % 256) s.ringAck ∨ ahead (v % 256) s.ringAck < ahead s.ringProd s.ringAck) :
    s.prodWrite m v = s.setFld SYS_CMD_STATUS SYS_CMD_STATUS_prod_err 1 :=
  (if_pos hm).trans (if_neg (by omega))

end

/-- Settles O50: a write of the ring's indices and the service of its front command, case by case. -/
theorem commandRing : Obligations.CommandRing := by
  unfold Obligations.CommandRing
  intro s
  refine ⟨fun m v hw hm => ⟨fun hroom hback => ⟨_, exec_prod hw.1 v, ?_⟩, fun hbad => ⟨_, exec_prod hw.1 v, ?_⟩⟩,
    fun m v hw hm => ⟨fun hdone => ⟨_, exec_cmdAck hw.1 v, ?_⟩, fun hbad => ⟨_, exec_cmdAck hw.1 v, ?_⟩⟩,
    State.served_of_idle, fun a rest ha => ?_, fun i h d rest r ha hserve hbusy => State.served_of_intake ha hserve hbusy,
    fun i h d rest res vals out ha _ hout => State.post_ring_spec ha vals hout,
    fun ht => ⟨_, rfl, State.onCommand_of_taken _ ht⟩, fun ht => ⟨_, rfl, State.onCommand_of_taken _ ht⟩,
    fun c hc => gives_same_of_guards (guards_commands c hc)⟩
  · rw [State.prodWrite_eq_of_inOrder hm (by simpa using hroom) (by simpa using hback), State.seen_arrivals, State.seen_ringProd,
      State.seen_copying]
    rfl
  · exact State.prodWrite_eq_of_bad hm (by simpa using hbad)
  · exact (if_pos hm).trans (if_pos (by simpa using hdone))
  · exact (if_pos hm).trans (if_neg (by simpa using hbad))
  · obtain ⟨hold, hunknown, hbarred, hlong, hnone⟩ := s.intake_cases a
    exact ⟨hold, hunknown, hbarred, hlong, fun h hc hb hl => ⟨hnone h hc hb hl, State.served_of_intake_none ha (hnone h hc hb hl)⟩⟩

end Sys2Proof.Machine

/-! The bridge as target (R299, R322 to R329, R441). -/

namespace Sys2Proof.Machine

/-! A counter register beside an event limited in time -/

section
variable {s : State} {l : List Nat}

theorem State.wroteEvents_markRaise (s : State) (c i : Nat) : s.wroteEvents (s.markRaise c i) l := ⟨State.onlyRegs.refl s l, rfl⟩

theorem State.wroteEvents_raiseOnce (s : State) {c k : Nat} (i : Nat) (hc : c < 0x1100) (hk : k < 7) (hb : bankEvent c = false) :
    s.wroteEvents (s.raiseOnce c k i) l := by
  rw [State.raiseOnce]
  exact State.wroteEvents_ite ((s.wroteEvents_markRaise c noInst).trans (State.wroteEvents_raise _ i 0 hc hk hb)) (.refl s l)

/-- A counter that counts and an event that leaves it. -/
theorem State.counts_of_wroteEvents {t u : State} {a : Nat} (hu : s.counts u a) (ht : u.wroteEvents t []) (ha : isSrcLost a = false) :
    s.counts t a := by
  rw [State.counts, ht.1 a List.not_mem_nil (isSrcLost_eq_false.1 ha)]
  exact hu

/-- What a discarded frame does beside leaving its place: its counter and an event. -/
theorem State.bump_event {s t : State} {a : Nat} (ht : (s.bump a).wroteEvents t []) (ha : isSrcLost a = false) :
    s.counts t a ∧ s.wroteEvents t [a] :=
  ⟨State.counts_of_wroteEvents (s.counts_bump a) ht ha,
    ((s.wroteRegs_bump a 1).wroteEvents.trans (ht.mono fun _ h => absurd h List.not_mem_nil))⟩

theorem isSrcLost_fabCnt {k : Nat} (hk : k < 16) : isSrcLost (FAB_CNT k) = false := by
  rw [isSrcLost_eq_false]
  simp only [FAB_CNT, FLT_SRC_LOST]
  omega

end

/-! The frame at the head of sp31 -/

section
variable {s : State} {type : Nat} {f : Frame} {h : FabHdr} {u : State}

theorem State.mine31_some (hm : s.mine31 type = some (f, h, u)) : s.head31 = some f ∧ u = s.pop31 := by
  rw [State.mine31] at hm
  split at hm
  · next f' h' t ht =>
    split at hm
    · obtain ⟨rfl, rfl, rfl⟩ : f' = f ∧ h' = h ∧ t = u := by simpa using hm
      rw [State.take31] at ht
      split at ht
      · next g hhead =>
        split at ht
        · split at ht
          · obtain ⟨rfl, -, rfl⟩ : g = f' ∧ _ ∧ s.pop31 = t := by simpa using ht
            exact ⟨hhead, rfl⟩
          · exact absurd ht (by simp)
        · exact absurd ht (by simp)
      · exact absurd ht (by simp)
    · exact absurd hm (by simp)
  · exact absurd hm (by simp)

theorem State.stagedAt_pop31 (s : State) : s.pop31.stagedAt 31 = (s.stagedAt 31).drop 1 := by
  rw [State.stagedAt]
  exact (tget_tset (α := List Frame) [] [] _ _ _ _ (fun _ => rfl)).trans (if_pos rfl)

/-- The op of the head's request. -/
theorem State.raOp_of_mine31 (hm : s.mine31 type = some (f, h, u)) : s.raOp = (raReqOf f.data).op := by
  rw [State.raOp, (State.mine31_some hm).1]
  rfl

/-! Messages (R299, R322) -/

/-- What the bridge does with a message taken from sp31. -/
def State.msgServe (t : State) (f : Frame) (h : FabHdr) (forwarded : Bool) : State :=
  match t.hostElsewhere (h.tag % 1024) with
  | some host =>
    if forwarded then (t.bump (PLC_CNT 4)).raiseOnce 0x0D0B 1 (h.tag % 1024)
    else if h.hop = 0 then (t.fabCount 4).raiseLim 0x0A14 2
    else t.fabSend { h with dst := host, hop := h.hop - 1 } f.data
  | none =>
    if forwarded ∧ (t.coreOf (h.tag % 1024)).isNone then (t.bump (PLC_CNT 4)).raiseOnce 0x0D0B 1 (h.tag % 1024)
    else
      (t.fabCount 12).sendInternal { f with input := 31, kind := .message, tc := h.tc, colour := h.colour
                                            routine := some (h.tag % 1024, State.defaultArg (h.tag % 1024)) } (2 ^ 28)

theorem State.msgTake_of_mine31 (hm : s.mine31 7 = some (f, h, u)) (fwd : Bool) : s.msgTake fwd = u.msgServe f h fwd := by
  rw [State.msgTake, hm]
  rfl

theorem State.msgServe_here {fwd : Bool} (hhost : u.hostElsewhere (h.tag % 1024) = none) (hcore : fwd = false ∨ u.coreOf (h.tag % 1024) ≠ none) :
    u.msgServe f h fwd = (u.fabCount 12).sendInternal { f with input := 31, kind := .message, tc := h.tc, colour := h.colour
                                                               routine := some (h.tag % 1024, State.defaultArg (h.tag % 1024)) } (2 ^ 28) := by
  have hnot : ¬(fwd = true ∧ (u.coreOf (h.tag % 1024)).isNone = true) := fun hc => by
    rcases hcore with hf | hne
    · exact absurd (hf.symm.trans hc.1) (by decide)
    · exact hne (Option.isNone_iff_eq_none.1 hc.2)
  rw [State.msgServe, hhost]
  exact if_neg hnot

/-- A forwarded message that finds no host here is discarded. -/
theorem State.msgServe_lost (hlost : u.coreOf (h.tag % 1024) = none ∨ u.hostElsewhere (h.tag % 1024) ≠ none) :
    u.msgServe f h true = (u.bump (PLC_CNT 4)).raiseOnce 0x0D0B 1 (h.tag % 1024) := by
  rw [State.msgServe]
  cases hhost : u.hostElsewhere (h.tag % 1024) with
  | some a => exact if_pos rfl
  | none =>
    rw [hhost] at hlost
    exact if_pos ⟨rfl, Option.isNone_iff_eq_none.2 (hlost.resolve_right fun hne => hne rfl)⟩

theorem State.msgServe_elsewhere {a : Nat} (hhost : u.hostElsewhere (h.tag % 1024) = some a) :
    u.msgServe f h false = if h.hop = 0 then (u.fabCount 4).raiseLim 0x0A14 2 else u.fabSend { h with dst := a, hop := h.hop - 1 } f.data := by
  rw [State.msgServe, hhost]
  rfl

/-- A discarded message leaves its place, a counter and an event. -/
theorem State.discarded_spec {t : State} {a : Nat} (hm : s.mine31 type = some (f, h, u)) (ht : (u.bump a).wroteEvents t []) (ha : isSrcLost a = false) :
    s.counts t a ∧ t.stagedAt 31 = (s.stagedAt 31).drop 1 ∧ s.onlyRegs t [a] ∧ t = { u with regs := t.regs, flt := t.flt } := by
  obtain ⟨hcount, honly, hframe⟩ := State.bump_event ht ha
  have hsw : t.sw = u.sw := by rw [hframe]
  obtain ⟨-, rfl⟩ := State.mine31_some hm
  refine ⟨hcount, ?_, honly, hframe⟩
  rw [← State.stagedAt_pop31, State.stagedAt, hsw]
  rfl

/-! Commands from the fabric (R322, R441) -/

/-- What the bridge does with a command taken from sp31. -/
def State.cmdServe (t : State) (f : Frame) (h : FabHdr) : State :=
  let e := (bytesWords (padTo 64 f.data))
  let code := e.getD 0 0 % 65536
  if !(t.rd FAB_CMD_ALLOW).toNat.testBit h.src then (t.fabCount 7).cmdRefuse h 4 code
  else if 8 ≤ t.fabWaiting then t.cmdRefuse h 1 code
  else (t.setWrd { t.wrd with arrivals := t.wrd.arrivals ++ [.fabric h.src h.tag e (f.data.drop 64) t.copying] }).served

theorem State.cmdFrame_of_mine31 (hm : s.mine31 11 = some (f, h, u)) : s.cmdFrame = u.cmdServe f h := by
  rw [State.cmdFrame, hm]
  rfl

theorem State.cmdServe_denied (hdeny : (u.rd FAB_CMD_ALLOW).toNat.testBit h.src = false) :
    u.cmdServe f h = (u.fabCount 7).cmdRefuse h 4 ((bytesWords (padTo 64 f.data)).getD 0 0 % 65536) :=
  if_pos (by rw [hdeny]; rfl)

theorem State.cmdServe_busy (hallow : (u.rd FAB_CMD_ALLOW).toNat.testBit h.src = true) (hfull : 8 ≤ u.fabWaiting) :
    u.cmdServe f h = u.cmdRefuse h 1 ((bytesWords (padTo 64 f.data)).getD 0 0 % 65536) :=
  (if_neg (by rw [hallow]; decide)).trans (if_pos hfull)

theorem State.cmdServe_waits (hallow : (u.rd FAB_CMD_ALLOW).toNat.testBit h.src = true) (hroom : u.fabWaiting < 8)
    (hidle : u.serving = false ∨ u.wrd.inProgress = true) :
    u.cmdServe f h = u.setWrd { u.wrd with arrivals := u.wrd.arrivals ++
      [.fabric h.src h.tag (bytesWords (padTo 64 f.data)) (f.data.drop 64) u.copying] } := by
  have hserved : ∀ x : WrdState, x.inProgress = u.wrd.inProgress → (u.setWrd x).served = u.setWrd x := fun x hx =>
    State.served_of_idle (hidle.elim (fun hs => .inl hs) fun hp => .inr (.inl (hx.trans hp)))
  exact (if_neg (by rw [hallow]; decide)).trans ((if_neg (by omega)).trans (hserved _ rfl))

/-! Read requests (R323, R324, R326, R329) -/

/-- What the bridge does with a request, other than a posted write, taken from sp31. -/
def State.readServe (t : State) (f : Frame) (h : FabHdr) : State :=
  let q := raReqOf f.data
  if q.op ≠ 1 ∨ !q.ok then t.raAnswer h 5
  else if !t.raAllowed h.src FAB_RA_ALLOW then (t.raDenied h.src).raAnswer h 2
  else if !remoteOk false h.src q then (t.refuse (remoteMaster h.src) q.addr).raAnswer h 3
  else match t.lostWord q.addr (4 * q.words) with
    | some x => (t.uncorrectable x.1 (8 * x.2) .none).raAnswer h 3
    | none => t.readAnswer h q

theorem State.raRead_of_mine31 (hm : s.mine31 8 = some (f, h, u)) (hop : (raReqOf f.data).op ≠ 2) : s.raRead = u.readServe f h := by
  rw [State.raRead, if_neg (by rw [State.raOp_of_mine31 hm]; exact hop), hm]
  rfl

theorem State.raRead_of_write (hm : s.mine31 8 = some (f, h, u)) (hop : (raReqOf f.data).op = 2) : s.raRead = s :=
  if_pos ((State.raOp_of_mine31 hm).trans hop)

theorem State.raRead_of_none (hm : s.mine31 8 = none) : s.raRead = s := by
  rw [State.raRead, hm]
  split <;> rfl

section
variable {q : RaReq}

theorem State.readServe_malformed (hq : raReqOf f.data = q) (hbad : q.op ≠ 1 ∨ q.ok = false) : u.readServe f h = u.raAnswer h 5 := by
  subst hq
  exact if_pos (hbad.imp_right fun hok => by rw [hok]; rfl)

theorem RaReq.wellFormed (hop : q.op = 1) (hok : q.ok = true) : ¬(q.op ≠ 1 ∨ (!q.ok) = true) := by
  rw [hok]
  exact not_or.2 ⟨not_not.2 hop, by decide⟩

theorem State.readServe_denied (hq : raReqOf f.data = q) (hop : q.op = 1) (hok : q.ok = true) (hdeny : u.raAllowed h.src FAB_RA_ALLOW = false) :
    u.readServe f h = (u.raDenied h.src).raAnswer h 2 := by
  subst hq
  exact (if_neg (RaReq.wellFormed hop hok)).trans (if_pos (by rw [hdeny]; rfl))

theorem State.readServe_refused (hq : raReqOf f.data = q) (hop : q.op = 1) (hok : q.ok = true) (hallow : u.raAllowed h.src FAB_RA_ALLOW = true)
    (hmap : remoteOk false h.src q = false) : u.readServe f h = (u.refuse (remoteMaster h.src) q.addr).raAnswer h 3 := by
  subst hq
  exact (if_neg (RaReq.wellFormed hop hok)).trans ((if_neg (by rw [hallow]; decide)).trans (if_pos (by rw [hmap]; rfl)))

theorem State.readServe_permitted (hq : raReqOf f.data = q) (hop : q.op = 1) (hok : q.ok = true) (hallow : u.raAllowed h.src FAB_RA_ALLOW = true)
    (hmap : remoteOk false h.src q = true) :
    u.readServe f h = match u.lostWord q.addr (4 * q.words) with
      | some x => (u.uncorrectable x.1 (8 * x.2) .none).raAnswer h 3
      | none => u.readAnswer h q := by
  subst hq
  exact (if_neg (RaReq.wellFormed hop hok)).trans
    ((if_neg (by rw [hallow]; decide)).trans ((if_neg (by rw [hmap]; decide)).trans rfl))

theorem State.readServe_lost (hq : raReqOf f.data = q) (hop : q.op = 1) (hok : q.ok = true) (hallow : u.raAllowed h.src FAB_RA_ALLOW = true)
    (hmap : remoteOk false h.src q = true) {x : Nat × Nat} (hx : u.lostWord q.addr (4 * q.words) = some x) :
    u.readServe f h = (u.uncorrectable x.1 (8 * x.2) .none).raAnswer h 3 := by
  rw [State.readServe_permitted hq hop hok hallow hmap, hx]

theorem State.readServe_answer (hq : raReqOf f.data = q) (hop : q.op = 1) (hok : q.ok = true) (hallow : u.raAllowed h.src FAB_RA_ALLOW = true)
    (hmap : remoteOk false h.src q = true) (hx : u.lostWord q.addr (4 * q.words) = none) : u.readServe f h = u.readAnswer h q := by
  rw [State.readServe_permitted hq hop hok hallow hmap, hx]

/-! Slots -/

/-- The first number from `i` on, within `n`, for which `p` holds. -/
theorem findFrom_eq_some (p : Nat → Bool) {n i k : Nat} (hi : i ≤ k) (hk : k < i + n) (hp : p k = true) (hlow : ∀ j, i ≤ j → j < k → p j = false) :
    findFrom p n i = some k := by
  induction n generalizing i with
  | zero => omega
  | succ n ih =>
    rw [findFrom]
    rcases Nat.eq_or_lt_of_le hi with rfl | hlt
    · rw [if_pos hp]
    · rw [hlow i (Nat.le_refl i) hlt, if_neg (by decide)]
      exact ih hlt (by omega) fun j hj hjk => hlow j (by omega) hjk

theorem findFrom_eq_none (p : Nat → Bool) {n i : Nat} (hp : ∀ j, i ≤ j → j < i + n → p j = false) : findFrom p n i = none := by
  induction n generalizing i with
  | zero => rfl
  | succ n ih =>
    rw [findFrom, hp i (Nat.le_refl i) (by omega), if_neg (by decide)]
    exact ih fun j hj hjn => hp j (by omega) (by omega)

/-- The slot that a read starts to fill. -/
def freshSlot (src tag : Nat) (q : RaReq) (no : Nat) : ReadSlot :=
  { no := no, src := src, tag := tag, pref := q.pref, wseq := q.wseq, addr := if q.pref then q.addr / 256 * 256 else q.addr
    words := if q.pref then 64 else q.words }

/-- The lowest number that no slot has. -/
def firstFree (l : List ReadSlot) (no : Nat) : Prop := no < 16 ∧ (∀ x ∈ l, x.no ≠ no) ∧ ∀ k < no, ∃ x ∈ l, x.no = k

theorem slotFree_iff (l : List ReadSlot) (n : Nat) : (!l.any (fun x => x.no == n)) = true ↔ ∀ x ∈ l, x.no ≠ n := by
  simp

theorem slotFree_eq_false (l : List ReadSlot) (n : Nat) : (!l.any (fun x => x.no == n)) = false ↔ ∃ x ∈ l, x.no = n := by
  simp [List.any_eq_true]

theorem State.fetchBegin_of_free {no : Nat} (hfree : firstFree u.fab.slots no) (src tag : Nat) (q : RaReq) :
    u.fetchBegin src tag q = u.setFab { u.fab with slots := u.fab.slots ++ [freshSlot src tag q no] } := by
  obtain ⟨hlt, hnone, hlow⟩ := hfree
  have hfind : findFrom (fun n => !u.fab.slots.any (fun x => x.no == n)) 16 0 = some no :=
    findFrom_eq_some _ (Nat.zero_le no) (by omega) ((slotFree_iff _ _).2 hnone) fun j _ hj => (slotFree_eq_false _ _).2 (hlow j hj)
  rw [State.fetchBegin, hfind]
  rfl

theorem State.fetchBegin_of_full (hfull : ∀ no < 16, ∃ x ∈ u.fab.slots, x.no = no) (src tag : Nat) (q : RaReq) : u.fetchBegin src tag q = u := by
  have hfind : findFrom (fun n => !u.fab.slots.any (fun x => x.no == n)) 16 0 = none :=
    findFrom_eq_none _ fun j _ hj => (slotFree_eq_false _ _).2 (hfull j (by omega))
  rw [State.fetchBegin, hfind]

theorem State.readAnswer_of_none (hk : u.fab.slots.find? (fun x => x.serves h.src h.tag q) = none) :
    u.readAnswer h q = (u.fetchBegin h.src h.tag q).raAnswer h 1 := by
  rw [State.readAnswer, hk]

theorem State.readAnswer_of_old {x : ReadSlot} (hk : u.fab.slots.find? (fun x => x.serves h.src h.tag q) = some x) (hold : x.old q = true) :
    u.readAnswer h q =
      ((u.setFab { u.fab with slots := u.fab.slots.filter (fun y => y.no != x.no) }).fetchBegin h.src h.tag q).raAnswer h 1 := by
  rw [State.readAnswer, hk]
  exact if_pos hold

theorem State.readAnswer_of_waiting {x : ReadSlot} (hk : u.fab.slots.find? (fun x => x.serves h.src h.tag q) = some x) (hold : x.old q = false)
    (hwait : x.data = none ∨ (∃ w ∈ u.fab.writes, w.target = h.src) ∨ u.messageOwed h.src = true) : u.readAnswer h q = u.raAnswer h 1 := by
  rw [State.readAnswer, hk]
  dsimp only
  rw [hold, if_neg (by decide)]
  cases hd : x.data with
  | none => rfl
  | some d =>
    rw [hd] at hwait
    have hw : (u.fab.writes.any fun w => w.target == h.src) = true ∨ u.messageOwed h.src = true :=
      (hwait.resolve_left (by simp)).imp_left fun hex => by simpa [List.any_eq_true] using hex
    exact if_pos hw

theorem State.readAnswer_of_data {x : ReadSlot} {d : List Word} (hk : u.fab.slots.find? (fun x => x.serves h.src h.tag q) = some x)
    (hd : x.data = some d) (hold : x.old q = false) (hwrites : ∀ w ∈ u.fab.writes, w.target ≠ h.src) (hmsg : u.messageOwed h.src = false) :
    u.readAnswer h q = u.raAnswer h 0 ((d.drop ((q.addr - x.addr) / 4)).take q.words) := by
  rw [State.readAnswer, hk]
  dsimp only
  rw [hold, if_neg (by decide), hd]
  refine if_neg (not_or.2 ⟨?_, by rw [hmsg]; decide⟩)
  simpa [List.any_eq_true] using hwrites

/-! Posted writes (R325, R327) -/

/-- What the bridge does with a posted write taken from sp31. -/
def State.writeServe (t : State) (f : Frame) (h : FabHdr) : State :=
  let q := raReqOf f.data
  let a := t.appliedFrom h.src
  if !t.fab.members.any (fun m => m.2 == h.src && decide (h.src < 32)) then (t.raDenied h.src).raAnswer h 2
  else if q.wseq = (a + 1) % 65536 then State.earlyApply h 32 (t.writeApply h q)
  else if epochNewer q.wseq a then
    if t.fab.early.any (fun e => e.1 == h.src && e.2.wseq == q.wseq) then t.fabCount 11
    else t.setFab { t.fab with early := t.fab.early ++ [(h.src,
      { tag := h.tag, target := h.src, wseq := q.wseq, addr := q.addr, data := q.data.take q.words })] }
  else (t.fabCount 11).raAnswer h 0

theorem State.raWrite_of_mine31 (hm : s.mine31 8 = some (f, h, u)) (hop : (raReqOf f.data).op = 2) : s.raWrite = u.writeServe f h := by
  rw [State.raWrite, if_neg (by rw [State.raOp_of_mine31 hm, hop]; decide), hm]
  rfl

theorem State.raWrite_of_read (hm : s.mine31 8 = some (f, h, u)) (hop : (raReqOf f.data).op ≠ 2) : s.raWrite = s :=
  if_pos (by rw [State.raOp_of_mine31 hm]; exact hop)

theorem State.raWrite_of_none (hm : s.mine31 8 = none) : s.raWrite = s := by
  rw [State.raWrite, hm]
  split <;> rfl

/-- The sender is a member of the fabric with an address below 32. -/
def State.isMember (t : State) (src : Nat) : Bool := t.fab.members.any (fun m => m.2 == src && decide (src < 32))

theorem State.writeServe_denied (hmem : u.isMember h.src = false) : u.writeServe f h = (u.raDenied h.src).raAnswer h 2 :=
  if_pos (by rw [State.isMember] at hmem; rw [hmem]; rfl)

theorem State.not_denied (hmem : u.isMember h.src = true) : ¬ (!u.fab.members.any (fun m => m.2 == h.src && decide (h.src < 32))) = true := by
  rw [State.isMember] at hmem
  rw [hmem]
  decide

theorem State.writeServe_inTurn (hmem : u.isMember h.src = true) (hq : raReqOf f.data = q) (hturn : q.wseq = (u.appliedFrom h.src + 1) % 65536) :
    u.writeServe f h = State.earlyApply h 32 (u.writeApply h q) := by
  subst hq
  exact (if_neg (State.not_denied hmem)).trans (if_pos hturn)

theorem State.writeServe_repeat (hmem : u.isMember h.src = true) (hq : raReqOf f.data = q) (hturn : ¬q.wseq = (u.appliedFrom h.src + 1) % 65536)
    (hold : epochNewer q.wseq (u.appliedFrom h.src) = false) : u.writeServe f h = (u.fabCount 11).raAnswer h 0 := by
  subst hq
  exact (if_neg (State.not_denied hmem)).trans ((if_neg hturn).trans (if_neg (by rw [hold]; decide)))

theorem early_any_iff (u : State) (src n : Nat) :
    (u.fab.early.any fun e => e.1 == src && e.2.wseq == n) = true ↔ ∃ e ∈ u.fab.early, e.1 = src ∧ e.2.wseq = n := by
  simp only [List.any_eq_true, Bool.and_eq_true, beq_iff_eq]

theorem State.writeServe_held_again (hmem : u.isMember h.src = true) (hq : raReqOf f.data = q)
    (hturn : ¬q.wseq = (u.appliedFrom h.src + 1) % 65536) (hnew : epochNewer q.wseq (u.appliedFrom h.src) = true)
    (hheld : ∃ e ∈ u.fab.early, e.1 = h.src ∧ e.2.wseq = q.wseq) : u.writeServe f h = u.fabCount 11 := by
  subst hq
  exact (if_neg (State.not_denied hmem)).trans ((if_neg hturn).trans ((if_pos hnew).trans (if_pos ((early_any_iff u _ _).2 hheld))))

theorem State.writeServe_held (hmem : u.isMember h.src = true) (hq : raReqOf f.data = q)
    (hturn : ¬q.wseq = (u.appliedFrom h.src + 1) % 65536) (hnew : epochNewer q.wseq (u.appliedFrom h.src) = true)
    (hheld : ∀ e ∈ u.fab.early, ¬(e.1 = h.src ∧ e.2.wseq = q.wseq)) :
    u.writeServe f h = u.setFab { u.fab with early := u.fab.early ++ [(h.src,
      { tag := h.tag, target := h.src, wseq := q.wseq, addr := q.addr, data := q.data.take q.words })] } := by
  subst hq
  exact (if_neg (State.not_denied hmem)).trans ((if_neg hturn).trans ((if_pos hnew).trans (if_neg (mt (early_any_iff u _ _).1 (fun ⟨e, he, hw⟩ => hheld e he hw)))))

/-- The state in which a write from a device has taken its turn. -/
def State.turned (t : State) (src : Nat) (q : RaReq) : State := t.setFab { t.fab with applied := tset 0 t.fab.applied src q.wseq }

theorem State.writeApply_malformed (hok : q.ok = false) : u.writeApply h q = (u.turned h.src q).raAnswer h 5 := if_pos (by rw [hok]; rfl)

theorem RaReq.not_malformed (hok : q.ok = true) : ¬(!q.ok) = true := by
  rw [hok]
  decide

theorem State.writeApply_denied (hok : q.ok = true) (hdeny : u.raAllowed h.src FAB_RA_ALLOW_W = false) :
    u.writeApply h q = ((u.turned h.src q).raDenied h.src).raAnswer h 2 := by
  have hb : (!(u.turned h.src q).raAllowed h.src FAB_RA_ALLOW_W) = true := congrArg (!·) hdeny
  exact (if_neg (RaReq.not_malformed hok)).trans (if_pos hb)

theorem State.not_writeDenied (hallow : u.raAllowed h.src FAB_RA_ALLOW_W = true) : ¬(!(u.turned h.src q).raAllowed h.src FAB_RA_ALLOW_W) = true := by
  have hb : (!(u.turned h.src q).raAllowed h.src FAB_RA_ALLOW_W) = false := congrArg (!·) hallow
  rw [hb]
  decide

theorem State.writeApply_refused (hok : q.ok = true) (hallow : u.raAllowed h.src FAB_RA_ALLOW_W = true) (hmap : remoteOk true h.src q = false) :
    u.writeApply h q = ((u.turned h.src q).refuse (remoteMaster h.src) q.addr).raAnswer h 3 :=
  (if_neg (RaReq.not_malformed hok)).trans ((if_neg (State.not_writeDenied hallow)).trans (if_pos (by rw [hmap]; rfl)))

theorem State.writeApply_word (hok : q.ok = true) (hallow : u.raAllowed h.src FAB_RA_ALLOW_W = true) (hmap : remoteOk true h.src q = true)
    {w : Word} (hone : q.words = 1) (hdata : q.data = [w]) :
    u.writeApply h q = ((u.turned h.src q).busWrite (remoteMaster h.src) q.addr 4 w.toNat).raAnswer h 0 := by
  refine (if_neg (RaReq.not_malformed hok)).trans ((if_neg (State.not_writeDenied hallow)).trans ((if_neg (by rw [hmap]; decide)).trans ?_))
  rw [hone, hdata]
  rfl

/-! Fetches and their slots -/

theorem State.fetchReady_iff (s : State) (x : ReadSlot) :
    (x.data.isNone = true ∧ (!epochNewer x.wseq (s.appliedFrom x.src)) = true ∧ (!(s.dikeBusy && x.onBank)) = true) ↔
      x.data = none ∧ epochNewer x.wseq (s.appliedFrom x.src) = false ∧ ¬(s.dikeBusy = true ∧ x.onBank = true) := by
  rw [Option.isNone_iff_eq_none, Bool.not_eq_true', Bool.not_eq_true', ← Bool.and_eq_true, Bool.not_eq_true]

theorem State.fetchDone_of_ready {n : Nat} {x : ReadSlot} (hx : s.fab.slots.find? (fun y => y.no == n) = some x)
    (hready : x.data = none ∧ epochNewer x.wseq (s.appliedFrom x.src) = false ∧ ¬(s.dikeBusy = true ∧ x.onBank = true)) :
    s.fetchDone n = { s with free := s.free + 1, fab := { s.fab with slots := s.fab.slots.map (fun (y : ReadSlot) =>
      if y.no = n then { y with data := some (s.readWords x.addr x.words) } else y) } } := by
  rw [State.fetchDone, hx]
  exact if_pos ((s.fetchReady_iff x).2 hready)

theorem State.fetchDone_of_not_ready {n : Nat} {x : ReadSlot} (hx : s.fab.slots.find? (fun y => y.no == n) = some x)
    (hready : ¬(x.data = none ∧ epochNewer x.wseq (s.appliedFrom x.src) = false ∧ ¬(s.dikeBusy = true ∧ x.onBank = true))) : s.fetchDone n = s := by
  rw [State.fetchDone, hx]
  exact if_neg (mt (s.fetchReady_iff x).1 hready)

theorem State.fetchDone_of_none {n : Nat} (hx : s.fab.slots.find? (fun y => y.no == n) = none) : s.fetchDone n = s := by
  rw [State.fetchDone, hx]

theorem State.slotExpiry_eq (s : State) (n : Nat) :
    s.slotExpiry n = { s with fab := { s.fab with slots := s.fab.slots.filter (fun (x : ReadSlot) => x.no != n || x.data.isNone) } } := by
  have hpred : (fun x : ReadSlot => !(x.no == n && x.data.isSome)) = fun x => x.no != n || x.data.isNone := by
    funext x
    cases x.data <;> simp [bne]
  rw [State.slotExpiry, hpred]
  rfl

end

end

/-- Settles O46: each row is the case of its function that the statement names, for the frame that it takes. -/
theorem bridgeTarget : Obligations.BridgeTarget := by
  unfold Obligations.BridgeTarget
  intro s f h u
  dsimp only
  generalize hq : raReqOf f.data = q
  have hpop : ∀ {n : Nat}, s.mine31 n = some (f, h, u) → u = s.pop31 := fun hm => (State.mine31_some hm).2
  have hread : s.mine31 8 = some (f, h, u) → q.op ≠ 2 → exec .raRead s = .next (u.readServe f h) := fun hm hop =>
    congrArg Host.Outcome.next (State.raRead_of_mine31 hm (by rw [hq]; exact hop))
  have hwrite : s.mine31 8 = some (f, h, u) → q.op = 2 → exec .raPostedWrite s = .next (u.writeServe f h) := fun hm hop =>
    congrArg Host.Outcome.next (State.raWrite_of_mine31 hm (by rw [hq]; exact hop))
  have hone : q.op = 1 → q.op ≠ 2 := fun h => by omega
  refine ⟨fun fwd hm hhost hcore => ⟨_, congrArg Host.Outcome.next (State.msgTake_of_mine31 hm fwd), State.msgServe_here hhost hcore⟩,
    fun fwd hm => ⟨fun hfwd hlost => ?_, fun hfwd hhost hhop => ?_, fun a hfwd hhost hhop => ?_⟩,
    fun fwd hm => ⟨_, rfl, by rw [State.msgTake, hm]⟩,
    fun hm => ⟨fun hdeny => ?_, fun hallow hfull => ?_, fun hallow hroom hidle => ?_⟩,
    fun hm => ⟨_, rfl, by rw [State.cmdFrame, hm]⟩,
    fun hm => ⟨⟨_, rfl, State.raRead_of_none hm⟩, ⟨_, rfl, State.raWrite_of_none hm⟩⟩,
    fun hm hop => ⟨_, rfl, State.raWrite_of_read hm (by rw [hq]; exact hop)⟩,
    fun hm hop => ⟨_, rfl, State.raRead_of_write hm (by rw [hq]; exact hop)⟩,
    fun hm hop => ⟨fun hbad => ⟨_, hread hm hop, State.readServe_malformed hq hbad⟩,
      fun h1 hok hdeny => ⟨_, hread hm hop, State.readServe_denied hq h1 hok hdeny⟩,
      fun h1 hok hallow hmap => ⟨_, hread hm hop, State.readServe_refused hq h1 hok hallow hmap⟩,
      fun x h1 hok hallow hmap hx => ⟨_, hread hm hop, State.readServe_lost hq h1 hok hallow hmap hx⟩⟩,
    fun hm h1 hok hallow hmap hx => ?_, fun hm hop hmem => ⟨_, hwrite hm hop, State.writeServe_denied hmem⟩,
    fun w hm hop hmem => ⟨?_, ?_, ?_, ?_, ?_, ?_, ?_⟩,
    fun n x hx => ⟨fun hready => ⟨_, rfl, State.fetchDone_of_ready hx hready⟩, fun hready => ⟨_, rfl, State.fetchDone_of_not_ready hx hready⟩⟩,
    fun n hx => ⟨_, rfl, State.fetchDone_of_none hx⟩, fun n => ⟨_, rfl, s.slotExpiry_eq n⟩⟩
  · subst hfwd
    exact ⟨_, congrArg Host.Outcome.next ((State.msgTake_of_mine31 hm true).trans (State.msgServe_lost hlost)),
      State.discarded_spec hm (State.wroteEvents_raiseOnce _ _ (by decide) (by decide) rfl) (isSrcLost_plcCnt (by decide))⟩
  · subst hfwd
    obtain ⟨a, ha⟩ := Option.ne_none_iff_exists'.1 hhost
    exact ⟨_, congrArg Host.Outcome.next ((State.msgTake_of_mine31 hm false).trans ((State.msgServe_elsewhere ha).trans (if_pos hhop))),
      State.discarded_spec hm (State.wroteEvents_raiseLim _ _ _ (by decide) (by decide) rfl) (isSrcLost_fabCnt (by decide))⟩
  · subst hfwd
    exact ⟨_, congrArg Host.Outcome.next (State.msgTake_of_mine31 hm false), (State.msgServe_elsewhere hhost).trans (if_neg hhop)⟩
  · obtain rfl := hpop hm
    exact ⟨_, congrArg Host.Outcome.next (State.cmdFrame_of_mine31 hm), State.cmdServe_denied hdeny⟩
  · obtain rfl := hpop hm
    exact ⟨_, congrArg Host.Outcome.next (State.cmdFrame_of_mine31 hm), State.cmdServe_busy hallow hfull⟩
  · obtain rfl := hpop hm
    exact ⟨_, congrArg Host.Outcome.next ((State.cmdFrame_of_mine31 hm).trans (State.cmdServe_waits hallow hroom hidle)),
      s.stagedAt_pop31, rfl⟩
  · have hanswer := State.readServe_answer hq h1 hok hallow hmap hx
    exact ⟨fun no hk hfree => ⟨_, hread hm (hone h1), hanswer.trans ((State.readAnswer_of_none hk).trans
        (congrArg (State.raAnswer · h 1) (State.fetchBegin_of_free hfree h.src h.tag q)))⟩,
      fun hk hfull => ⟨_, hread hm (hone h1), hanswer.trans ((State.readAnswer_of_none hk).trans
        (congrArg (State.raAnswer · h 1) (State.fetchBegin_of_full hfull h.src h.tag q)))⟩,
      fun x no hk hold hfree => ⟨_, hread hm (hone h1), hanswer.trans ((State.readAnswer_of_old hk hold).trans
        (congrArg (State.raAnswer · h 1) (State.fetchBegin_of_free
          (u := u.setFab { u.fab with slots := u.fab.slots.filter (fun y => y.no != x.no) }) hfree h.src h.tag q)))⟩,
      fun x hk hold hwait => ⟨_, hread hm (hone h1), hanswer.trans (State.readAnswer_of_waiting hk hold hwait)⟩,
      fun x d hk hd hold hwrites hmsg => ⟨_, hread hm (hone h1), hanswer.trans (State.readAnswer_of_data hk hd hold hwrites hmsg)⟩⟩
  · exact fun hturn hok => ⟨_, hwrite hm hop, (State.writeServe_inTurn hmem hq hturn).trans
      (congrArg (State.earlyApply h 32) (State.writeApply_malformed hok))⟩
  · exact fun hturn hok hdeny => ⟨_, hwrite hm hop, (State.writeServe_inTurn hmem hq hturn).trans
      (congrArg (State.earlyApply h 32) (State.writeApply_denied hok hdeny))⟩
  · exact fun hturn hok hallow hmap => ⟨_, hwrite hm hop, (State.writeServe_inTurn hmem hq hturn).trans
      (congrArg (State.earlyApply h 32) (State.writeApply_refused hok hallow hmap))⟩
  · exact fun hturn hone hdata hok hallow hmap => ⟨_, hwrite hm hop, (State.writeServe_inTurn hmem hq hturn).trans
      (congrArg (State.earlyApply h 32) (State.writeApply_word hok hallow hmap hone hdata))⟩
  · exact fun hturn hold => ⟨_, hwrite hm hop, State.writeServe_repeat hmem hq hturn hold⟩
  · exact fun hturn hnew hheld => ⟨_, hwrite hm hop, State.writeServe_held_again hmem hq hturn hnew hheld⟩
  · obtain rfl := hpop hm
    exact fun hturn hnew hheld => ⟨_, hwrite hm hop, State.writeServe_held hmem hq hturn hnew hheld⟩

end Sys2Proof.Machine

/-! How a keeper core's invocation ends or goes on (R239, R252, R268 to R273). -/

namespace Sys2Proof.Machine

/-! Aborts -/

section
variable {s t : State} {c r pc cause : Nat}

/-- What an abort leaves: the core is free, cause and pc are recorded, and beside events nothing outside the keepers has changed but the
CAN queues (R273). -/
def State.aborted (s t : State) (c r pc cause : Nat) : Prop :=
  t.inv c = none ∧ (∀ k, k ≠ c → t.inv k = s.inv k) ∧ (t.rt r).lastCause = cause ∧ (t.rt r).lastPc = pc ∧
  t.fld KPR_STATUS KPR_STATUS_abort_seen = 1 ∧
  t = { s with regs := t.regs, flt := t.flt, can := t.can, kpr := { s.kpr with run := t.kpr.run, rts := t.kpr.rts, pend := t.kpr.pend } }

/-- A later change that keeps the core and what is recorded of the abort. -/
theorem State.aborted.and_then {u : State} (h : s.aborted t c r pc cause) (hrun : u.kpr.run = t.kpr.run)
    (hcause : (u.rt r).lastCause = (t.rt r).lastCause) (hpc : (u.rt r).lastPc = (t.rt r).lastPc) (hseen : u.rd KPR_STATUS = t.rd KPR_STATUS)
    (heq : u = { t with regs := u.regs, flt := u.flt, can := u.can, kpr := { t.kpr with rts := u.kpr.rts, pend := u.kpr.pend } }) :
    s.aborted u c r pc cause := by
  obtain ⟨hnone, hothers, hc, hp, hs, ht⟩ := h
  have hinv : ∀ k, u.inv k = t.inv k := fun k => by rw [State.inv, State.inv, hrun]
  refine ⟨(hinv c).trans hnone, fun k hk => (hinv k).trans (hothers k hk), hcause.trans hc, hpc.trans hp, ?_, ?_⟩
  · rw [State.fld, hseen]
    exact hs
  · rw [heq, ht]

theorem State.aborted.raised {u : State} (h : s.aborted t c r pc cause) (hframe : t.regFrame u) (hseen : u.rd KPR_STATUS = t.rd KPR_STATUS) :
    s.aborted u c r pc cause := by
  have hkpr : u.kpr = t.kpr := by rw [hframe]
  have hrt : u.rt r = t.rt r := by rw [State.rt, State.rt, hkpr]
  refine h.and_then (by rw [hkpr]) (by rw [hrt]) (by rw [hrt]) hseen ?_
  rw [hframe]

/-- The core is free once its invocation has ended, and its CAN entry is acknowledged. -/
theorem State.endRun_spec (s : State) (c : Nat) (iv : Invocation) :
    (s.endRun c iv).inv c = none ∧ (∀ k, k ≠ c → (s.endRun c iv).inv k = s.inv k) ∧
      s.endRun c iv = { s with can := (s.endRun c iv).can, kpr := { s.kpr with run := (s.endRun c iv).kpr.run } } := by
  have hrun : (s.endRun c iv).kpr.run = s.kpr.run.filter (fun e => e.1 != c) ∧
      s.endRun c iv = { s with can := (s.endRun c iv).can, kpr := { s.kpr with run := (s.endRun c iv).kpr.run } } := by
    rw [State.endRun]
    rcases iv.ev.canEntry with _ | ⟨ch, no⟩ <;> exact ⟨rfl, rfl⟩
  refine ⟨?_, fun k hk => ?_, hrun.2⟩
  · rw [State.inv, hrun.1, List.find?_eq_none.2 fun e he => ?_]
    · rfl
    · rw [List.mem_filter] at he
      simpa using he.2
  · rw [State.inv, hrun.1, List.find?_filter]
    congr 2
    funext e
    by_cases h : e.1 = k
    · simp [h, hk]
    · simp [h]

theorem State.aborted_discardEvent (h : s.aborted t c r pc cause) (q : Nat) (frameLike : Bool) (entry : Option (Nat × Nat)) :
    s.aborted (t.discardEvent q frameLike entry) c r pc cause := by
  have hcount : s.aborted (if frameLike then t.rtCount q 8 else t) c r pc cause := by
    split
    · obtain ⟨hothers, hself, -, heq⟩ := t.rtCount_spec q 8
      have hrt : ((t.rtCount q 8).rt r).lastCause = (t.rt r).lastCause ∧ ((t.rtCount q 8).rt r).lastPc = (t.rt r).lastPc := by
        by_cases hq : r = q
        · subst hq
          rw [hself]
          exact ⟨rfl, rfl⟩
        · rw [hothers r hq]
          exact ⟨rfl, rfl⟩
      exact h.and_then rfl hrt.1 hrt.2 rfl rfl
    · exact h
  rw [State.discardEvent.eq_def]
  rcases entry with _ | ⟨ch, no⟩
  · exact hcount
  · exact hcount.and_then rfl rfl rfl rfl rfl

theorem State.aborted_suspend (h : s.aborted t c r pc cause) (q : Nat) : s.aborted (t.suspend q) c r pc cause := by
  have hset : s.aborted (t.setRt q { t.rt q with suspended := true }) c r pc cause := by
    have hrt : ((t.setRt q { t.rt q with suspended := true }).rt r).lastCause = (t.rt r).lastCause ∧
        ((t.setRt q { t.rt q with suspended := true }).rt r).lastPc = (t.rt r).lastPc := by
      rw [State.rt_setRt]
      split
      · next hq => rw [hq]; exact ⟨rfl, rfl⟩
      · exact ⟨rfl, rfl⟩
    exact h.and_then rfl hrt.1 hrt.2 rfl rfl
  have hraise := hset.raised (State.raise_regFrame (c := 0x0C03) (k := 4) _ q 0 (by decide) (by decide) rfl)
    (State.raise_rd _ _ _ _ _ _ (by decide) (by decide))
  rw [State.suspend]
  generalize (t.setRt q { t.rt q with suspended := true }).raise 0x0C03 4 q = u at hraise ⊢
  exact List.foldlRecOn (motive := fun t => s.aborted t c r pc cause) _ _ (hraise.and_then rfl rfl rfl rfl rfl)
    fun x hx e _ => State.aborted_discardEvent hx _ _ _

theorem State.aborted_kAbort (s : State) (c : Nat) (iv : Invocation) (cause : Nat) :
    s.aborted (s.kAbort c iv cause) c iv.ev.routine (iv.pc % 2 ^ 15) cause := by
  obtain ⟨hnone, hothers, hend⟩ := s.endRun_spec c iv
  obtain ⟨-, -, -, hcount⟩ := (s.endRun c iv).rtCount_spec iv.ev.routine (if cause = causeBudget then 3 else 4)
  rw [State.kAbort]
  generalize (s.endRun c iv).rtCount iv.ev.routine (if cause = causeBudget then 3 else 4) = u at hcount ⊢
  have hrun : u.kpr.run = (s.endRun c iv).kpr.run := by rw [hcount]
  have hu : u = { s with can := u.can, kpr := { s.kpr with run := u.kpr.run, rts := u.kpr.rts } } := by rw [hcount, hend]
  obtain ⟨x, hx⟩ : ∃ x : RtState, { u.rt iv.ev.routine with
    lastPc := iv.pc % 2 ^ 15, lastCause := cause, abortRun := (u.rt iv.ev.routine).abortRun + 1 } = x := ⟨_, rfl⟩
  have hrec : s.aborted ((u.setRt iv.ev.routine x).setFld KPR_STATUS KPR_STATUS_abort_seen 1) c iv.ev.routine (iv.pc % 2 ^ 15) cause := by
    have hinv : ∀ k, ((u.setRt iv.ev.routine x).setFld KPR_STATUS KPR_STATUS_abort_seen 1).inv k = (s.endRun c iv).inv k := fun k =>
      congrArg (fun l : List (Nat × Invocation) => (l.find? (fun e : Nat × Invocation => e.1 == k)).map (fun e : Nat × Invocation => e.2)) hrun
    have hrt : ((u.setRt iv.ev.routine x).setFld KPR_STATUS KPR_STATUS_abort_seen 1).rt iv.ev.routine = x := State.rt_setRt_self u _ x
    refine ⟨(hinv c).trans hnone, fun k hk => (hinv k).trans (hothers k hk), by rw [hrt, ← hx], by rw [hrt, ← hx], ?_, ?_⟩
    · rw [State.fld, State.rd_setFld, if_pos rfl, Fld.get_put _ _ _ (by decide) (by decide)]
      rfl
    · rw [hu]
      rfl
  rw [hx]
  generalize (u.setRt iv.ev.routine x).setFld KPR_STATUS KPR_STATUS_abort_seen 1 = w at hrec ⊢
  have hevent : s.aborted (if cause = causeBudget then w.raiseLim 0x0C01 2 iv.ev.routine else w.raiseLim 0x0C02 3 iv.ev.routine)
      c iv.ev.routine (iv.pc % 2 ^ 15) cause := by
    split
    · exact hrec.raised (w.raiseLim_regFrame _ _ (by decide) (by decide) rfl) (w.raiseLim_rd _ _ _ _ _ (by decide) (by decide))
    · exact hrec.raised (w.raiseLim_regFrame _ _ (by decide) (by decide) rfl) (w.raiseLim_rd _ _ _ _ _ (by decide) (by decide))
  split
  · exact State.aborted_suspend hevent _
  · exact hevent

end

section
variable {s : State} {c : Fin 64} {iv : Invocation}

/-- An abort with the budget that is left. -/
theorem State.aborts_kAbort (s : State) (c : Fin 64) (iv : Invocation) (n cause : Nat) :
    s.aborts (s.kAbort c.val { iv with left := n } cause) c iv cause := by
  obtain ⟨hnone, hothers, hcause, hpc, hseen, heq⟩ := s.aborted_kAbort c.val { iv with left := n } cause
  generalize s.kAbort c.val { iv with left := n } cause = t at hnone hothers hcause hpc hseen heq ⊢
  refine ⟨hnone, hothers, hcause, hpc, hseen, ?_, ?_, ?_, ?_, ?_, ?_⟩ <;> rw [heq]

/-! Ends -/

/-- What an end without outputs leaves: the core is free, the routine's state is updated, and a CAN entry is acknowledged (R268). -/
theorem State.kEnd_spec (s : State) (c : Nat) (iv : Invocation) (k : Nat) :
    (s.kEnd c iv k).inv c = none ∧ (∀ j, j ≠ c → (s.kEnd c iv k).inv j = s.inv j) ∧
      s.kEnd c iv k = { s with can := (s.kEnd c iv k).can, kpr := { s.kpr with run := (s.kEnd c iv k).kpr.run, rts := (s.kEnd c iv k).kpr.rts } } := by
  obtain ⟨hnone, hothers, hend⟩ := s.endRun_spec c iv
  have hrun : (s.kEnd c iv k).kpr.run = (s.endRun c iv).kpr.run := rfl
  have hinv : ∀ j, (s.kEnd c iv k).inv j = (s.endRun c iv).inv j := fun j =>
    congrArg (fun l : List (Nat × Invocation) => (l.find? (fun e : Nat × Invocation => e.1 == j)).map (fun e : Nat × Invocation => e.2)) hrun
  refine ⟨(hinv c).trans hnone, fun j hj => (hinv j).trans (hothers j hj), ?_⟩
  rw [State.kEnd]
  dsimp only
  generalize s.endRun c iv = u at hend ⊢
  rw [hend]
  rfl

/-- With nothing buffered an end commits nothing (R268). -/
theorem State.commitRest_of_empty (hemits : iv.emits = []) (htimers : iv.timers = []) (hhsets : iv.hsets = []) (c : Nat) :
    s.commitRest c iv = s.kEnd c { iv with wait := .none } 1 := by
  have hloop : (List.range 4).foldl (fun t k => (iv.timers.filter (fun o => o.timer == k)).foldl (fun u o => u.timerApply iv.ev.routine o) t) s = s := by
    rw [htimers]
    exact foldl_inv (fun t => t = s) _ (fun t k ht => ht) _ rfl
  rw [State.commitRest, hemits, hhsets]
  exact congrArg (fun t : State => t.kEnd c { iv with wait := .none } 1) hloop

/-! One instruction -/

/-- A core that stands at an instruction's word and can pay for it executes it with what is left. -/
theorem gives_kExec {i : KInstr} {x : Instr} (hx : exec x s = .next (s.kRun c i)) (h : s.kReady c iv i.encode (kCost iv i)) {P : State → Prop}
    (hP : P (s.kExec c { iv with left := iv.left - kCost iv i } i)) : Gives x s P :=
  ⟨_, hx, by rw [State.kRun_of_kReady h]; exact hP⟩

theorem State.coreTo_kSet_of (h : s.inv c = some iv) {iv' iv'' : Invocation} {rd : Fin 32} {v : Word}
    (heq : { iv'.setG rd v with pc := iv'.pc + 4 } = iv'') : s.coreTo (s.kSet c iv' rd v) c iv'' :=
  heq ▸ State.coreTo_setInv h _

end

end Sys2Proof.Machine

/-! Immediates, shifts, branches, jumps and system instructions of a keeper core (R239, R250, R252, R267, R268). -/

namespace Sys2Proof.Machine

/-! The immediate operands -/

section
variable (a : Word) (k : Fin 65536)

theorem zext16_eq : zext16 k = (BitVec.ofNat 16 k.val).zeroExtend 32 := by
  apply BitVec.eq_of_toNat_eq
  have hk := k.isLt
  simp only [zext16, BitVec.toNat_ofNat, BitVec.truncate_eq_setWidth, BitVec.toNat_setWidth]
  omega

theorem immOp_andi : immOp .andi a k = a &&& (BitVec.ofNat 16 k.val).zeroExtend 32 := congrArg (a &&& ·) (zext16_eq k)
theorem immOp_ori : immOp .ori a k = a ||| (BitVec.ofNat 16 k.val).zeroExtend 32 := congrArg (a ||| ·) (zext16_eq k)
theorem immOp_xori : immOp .xori a k = a ^^^ (BitVec.ofNat 16 k.val).zeroExtend 32 := congrArg (a ^^^ ·) (zext16_eq k)

theorem immOp_slti : immOp .slti a k = if a.toInt < (sext16 k).toInt then 1 else 0 := aluOp_slt a (sext16 k)
theorem immOp_sltiu : immOp .sltiu a k = if a.toNat < (sext16 k).toNat then 1 else 0 := aluOp_sltu a (sext16 k)

theorem shOp_srai (n : Fin 32) : shOp .srai a n.val = BitVec.ofInt 32 (a.toInt / 2 ^ n.val) := by
  have hn : (BitVec.ofNat 32 n.val).toNat % 32 = n.val := by
    rw [BitVec.toNat_ofNat]
    omega
  have h := aluOp_sra a (BitVec.ofNat 32 n.val)
  rwa [aluOp, hn] at h

theorem lui_word : zext16 k <<< 16 = BitVec.ofNat 32 (k.val * 65536) := by
  apply BitVec.eq_of_toNat_eq
  have hk := k.isLt
  simp only [zext16, BitVec.toNat_shiftLeft, BitVec.toNat_ofNat, Nat.shiftLeft_eq]
  omega

/-- When a branch is taken, as numbers. -/
theorem branchTaken_spec (a b : Word) :
    branchTaken .beq a b = decide (a = b) ∧ branchTaken .bne a b = decide (a ≠ b) ∧ branchTaken .blt a b = decide (a.toInt < b.toInt) ∧
      branchTaken .bge a b = decide (b.toInt ≤ a.toInt) ∧ branchTaken .bltu a b = decide (a.toNat < b.toNat) ∧
      branchTaken .bgeu a b = decide (b.toNat ≤ a.toNat) := by
  have hs : a.slt b = decide (a.toInt < b.toInt) := BitVec.slt_eq_decide
  have hu : a.ult b = decide (a.toNat < b.toNat) := BitVec.ult_eq_decide
  refine ⟨(Bool.beq_eq_decide_eq a b), ?_, hs, ?_, hu, ?_⟩
  · have h : branchTaken .bne a b = !decide (a = b) := congrArg (!·) (Bool.beq_eq_decide_eq a b)
    rw [h, ← decide_not]
  · have h : branchTaken .bge a b = !decide (a.toInt < b.toInt) := congrArg (!·) hs
    rw [h, ← decide_not]
    simp only [Int.not_lt]
  · have h : branchTaken .bgeu a b = !decide (a.toNat < b.toNat) := congrArg (!·) hu
    rw [h, ← decide_not]
    simp only [Nat.not_lt]

end

/-! Registers of an invocation (R239) -/

theorem Invocation.g_setG (iv : Invocation) (rd : Fin 32) (v : Word) (r : Fin 32) :
    (iv.setG rd v).g r = if r = 0 then 0 else if r = rd then v else iv.g r := by
  by_cases hr : r = 0
  · simp [Invocation.g, hr]
  · by_cases hd : rd = 0
    · simp [Invocation.g, Invocation.setG, hr, hd]
    · by_cases hrd : r = rd
      · subst hrd
        simp [Invocation.g, Invocation.setG, hr]
      · have hne : ¬(rd : Nat) = (r : Nat) := fun h => hrd (Fin.ext h.symm)
        simp [Invocation.g, Invocation.setG, hr, hd, hrd, hne]

/-! One instruction each -/

section
variable {s : State} {c : Fin 64} {iv : Invocation} {rd rs1 rs2 : Fin 32} {k : Fin 65536}

/-- An instruction that computes a word for rd. -/
theorem gives_kSet {i : KInstr} {x : Instr} {v : Word} {cost : Nat} (hx : exec x s = .next (s.kRun c i)) (hcost : kCost iv i = cost)
    (hexec : s.kExec c { iv with left := iv.left - cost } i = s.kSet c { iv with left := iv.left - cost } rd v)
    (h : s.kReady c iv i.encode cost) : Gives x s (fun t => s.coreTo t c (iv.after rd v cost)) := by
  subst hcost
  refine gives_kExec hx h ?_
  rw [hexec]
  exact State.coreTo_kSet h.1 rd v _

theorem gives_imm {x : Instr} {v : Word} (op : ImmOp) (hx : exec x s = .next (s.kRun c (.imm op rd rs1 k))) (hv : immOp op (iv.g rs1) k = v)
    (h : s.kReady c iv (fmtI op.code rd rs1 k) 1) : Gives x s (fun t => s.coreTo t c (iv.after rd v 1)) :=
  gives_kSet (i := .imm op rd rs1 k) hx rfl (congrArg (s.kSet c { iv with left := iv.left - 1 } rd) hv) h

theorem gives_shi {x : Instr} {v : Word} {n : Fin 32} (op : ShOp) (hx : exec x s = .next (s.kRun c (.shi op rd rs1 n)))
    (hv : shOp op (iv.g rs1) n.val = v) (h : s.kReady c iv (fmtI 0x08 rd rs1 (op.code * 32 + n)) 1) :
    Gives x s (fun t => s.coreTo t c (iv.after rd v 1)) :=
  gives_kSet (i := .shi op rd rs1 n) hx rfl (congrArg (s.kSet c { iv with left := iv.left - 1 } rd) hv) h

theorem gives_branch {x : Instr} {taken : Bool} (op : BranchOp) (hx : exec x s = .next (s.kRun c (.branch op rs1 rs2 k)))
    (hv : branchTaken op (iv.g rs1) (iv.g rs2) = taken) (h : s.kReady c iv (fmtI op.code rs1 rs2 k) 1) :
    Gives x s (fun t => s.coreTo t c { iv with
      pc := (if taken then (BitVec.ofNat 32 iv.pc + 4 * (BitVec.ofNat 16 k.val).signExtend 32).toNat else iv.pc + 4), left := iv.left - 1 }) := by
  refine gives_kExec (i := .branch op rs1 rs2 k) hx h ?_
  have hexec : s.kExec c { iv with left := iv.left - 1 } (.branch op rs1 rs2 k) = s.setInv c { iv with
      pc := (if taken then (BitVec.ofNat 32 iv.pc + 4 * (BitVec.ofNat 16 k.val).signExtend 32).toNat else iv.pc + 4), left := iv.left - 1 } := by
    have hg : ∀ r, ({ iv with left := iv.left - 1 } : Invocation).g r = iv.g r := fun _ => rfl
    rw [State.kExec, hg, hg, hv]
    cases taken <;> rfl
  exact hexec.symm ▸ State.coreTo_setInv h.1 _

/-- A core's next word, with nothing but the cost paid. -/
theorem after_zero (iv : Invocation) (n : Nat) : iv.after 0 0 n = { iv with pc := iv.pc + 4, left := iv.left - n } := rfl

/-- The word pair of TNOW. -/
theorem kTnow_eq {pair : Fin 15} {lo hi : Fin 32} (hlo : lo.val = 2 * pair.val + 2) (hhi : hi.val = lo.val + 1) (n : Nat) :
    s.kTnow c { iv with left := iv.left - n } pair.val = s.setInv c (Invocation.after (iv.setG lo (BitVec.ofNat 32 s.tide.toNat)) hi
      (BitVec.ofNat 32 (s.tide.toNat / 2 ^ 32)) n) := by
  have h1 : Fin.ofNat 32 (2 * pair.val + 2) = lo := Fin.ext (by simp only [Fin.ofNat]; omega)
  have h2 : Fin.ofNat 32 (2 * pair.val + 3) = hi := Fin.ext (by simp only [Fin.ofNat]; omega)
  have hleft : (iv.setG lo (BitVec.ofNat 32 s.tide.toNat)).left = iv.left := by
    rw [Invocation.setG]
    split <;> rfl
  rw [State.kTnow, h1, h2]
  simp only [State.kSet, Invocation.after, Invocation.setG_left, hleft]

/-- A word of the generator is drawn, and a reseed where it is due (R267, R356). -/
theorem State.drbgUse_spec (s : State) : s.drbgUse = { s with sec := s.drbgUse.sec } := by
  rw [State.drbgUse]
  dsimp only
  split
  · rw [State.reseed]
    split <;> rfl
  · rfl

theorem State.inv_congr {s t : State} (h : t.kpr.run = s.kpr.run) (j : Nat) : t.inv j = s.inv j := by
  rw [State.inv, State.inv, h]

/-- What an end without outputs leaves. -/
def State.over (s t : State) (c : Fin 64) : Prop :=
  t.inv c = none ∧ (∀ j, j ≠ c.val → t.inv j = s.inv j) ∧ t.sw = s.sw ∧ t.bank = s.bank ∧ t.regs = s.regs ∧ t.outputs = s.outputs ∧ s.keeps t

theorem State.over_kEnd (s : State) (c : Fin 64) (iv : Invocation) (k : Nat) :
    s.over (s.kEnd c.val iv k) c ∧ (s.kEnd c.val iv k).kpr.timers = s.kpr.timers := by
  obtain ⟨hnone, hothers, heq⟩ := s.kEnd_spec c.val iv k
  generalize s.kEnd c.val iv k = t at hnone hothers heq ⊢
  refine ⟨⟨hnone, hothers, ?_, ?_, ?_, ?_, ?_, ?_, ?_⟩, ?_⟩ <;> rw [heq]

/-- DONE with nothing buffered. -/
theorem State.kDone_of_empty (hsputs : iv.sputs = []) (hemits : iv.emits = []) (htimers : iv.timers = []) (hhsets : iv.hsets = [])
    (hroom : s.outboundRoom c iv = true) (n : Nat) : s.kDone c { iv with left := n } = s.kEnd c { iv with left := n, wait := .none, sputs := [] } 1 := by
  have hgo : ∀ iv' : Invocation, iv'.emits = iv.emits → s.outboundRoom c iv' = true := fun iv' h => by
    rw [State.outboundRoom, Invocation.emitBytes, h]
    exact hroom
  rw [State.kDone, hsputs]
  exact (if_pos (hgo _ rfl)).trans (State.commitRest_of_empty (iv := { iv with left := n, sputs := [] }) hemits htimers hhsets c)

end

/-- Settles O39: row by row of the rule's tables. -/
theorem keeperControl : Obligations.KeeperControl := by
  unfold Obligations.KeeperControl
  intro s c iv rd rs1 rs2 k n o
  obtain ⟨hbeq, hbne, hblt, hbge, hbltu, hbgeu⟩ := branchTaken_spec (iv.g rs1) (iv.g rs2)
  refine ⟨?_, ?_, gives_kSet (i := .lui rd k) rfl rfl (congrArg (s.kSet c _ rd) (lui_word k)), gives_kSet (i := .lpc rd k) rfl rfl rfl,
    fun v r => iv.g_setG rd v r, ?_, fun h => gives_kExec (i := .jump false o) rfl h (State.coreTo_setInv h.1 _),
    fun h => gives_kExec (i := .jump true o) rfl h ?_, fun h => ⟨fun halign => ?_, fun halign => ?_⟩, ?_, fun pair lo hi hlo hhi h => ?_, fun h => ?_,
    fun hsputs hemits htimers hhsets hroom => ⟨fun h => ?_, fun hinv hwait => ?_⟩, fun h => ?_, fun w h hw => ?_⟩
  · simp only [List.forall_mem_cons]
    exact ⟨gives_imm .addi rfl rfl, gives_imm .andi rfl (immOp_andi _ k), gives_imm .ori rfl (immOp_ori _ k), gives_imm .xori rfl (immOp_xori _ k),
      gives_imm .slti rfl (immOp_slti _ k), gives_imm .sltiu rfl (immOp_sltiu _ k), List.forall_mem_nil _⟩
  · simp only [List.forall_mem_cons]
    exact ⟨gives_shi .slli rfl rfl, gives_shi .srli rfl rfl, gives_shi .srai rfl (shOp_srai _ n), List.forall_mem_nil _⟩
  · simp only [List.forall_mem_cons]
    exact ⟨gives_branch .beq rfl hbeq, gives_branch .bne rfl hbne, gives_branch .blt rfl hblt, gives_branch .bge rfl hbge,
      gives_branch .bltu rfl hbltu, gives_branch .bgeu rfl hbgeu, List.forall_mem_nil _⟩
  · exact State.coreTo_setInv h.1 _
  · have hexec : s.kExec c { iv with left := iv.left - 1 } (.jr rd rs1 k) =
        s.setInv c { iv.setG rd (BitVec.ofNat 32 (iv.pc + 4)) with pc := (iv.g rs1 + sext16 k).toNat, left := iv.left - 1 } := by
      rw [State.kExec]
      simp only [Invocation.setG_left]
      exact if_pos halign
    exact gives_kExec (i := .jr rd rs1 k) rfl h (hexec.symm ▸ State.coreTo_setInv h.1 _)
  · have hexec : s.kExec c { iv with left := iv.left - 1 } (.jr rd rs1 k) = s.kAbort c { iv with left := iv.left - 1 } 5 := if_neg halign
    exact gives_kExec (i := .jr rd rs1 k) rfl h (hexec.symm ▸ s.aborts_kAbort c iv _ 5)
  · simp only [List.forall_mem_cons]
    exact ⟨fun h => gives_kExec (i := .nop) rfl h (State.coreTo_setInv h.1 _), gives_kSet (i := .budl rd) rfl rfl rfl,
      gives_kSet (i := .who rd) rfl rfl rfl, List.forall_mem_nil _⟩
  · have hword : Fin.ofNat 32 (2 * pair.val + 2) = lo := Fin.ext (by simp only [Fin.ofNat]; omega)
    refine gives_kExec (i := .tnow pair) rfl (by rw [KInstr.encode, hword]; exact h) ?_
    have hexec : s.kExec c { iv with left := iv.left - 1 } (.tnow pair) = _ := kTnow_eq hlo hhi 1
    have hcost : kCost iv (.tnow pair) = 1 := rfl
    rw [hcost, hexec]
    exact State.coreTo_setInv h.1 _
  · have hdraw := s.drbgUse_spec
    refine gives_kExec (i := .rnd rd) rfl h ?_
    obtain ⟨u, hu⟩ : ∃ u : State, { s.drbgUse with free := s.drbgUse.free + 1 } = u := ⟨_, rfl⟩
    have hfree : s.drbgUse.free = s.free := by rw [hdraw]
    have hinv : ∀ j, u.inv j = s.inv j := State.inv_congr (by rw [← hu, hdraw])
    obtain ⟨hself, hothers, heq⟩ := State.coreTo_kSet ((hinv c).trans h.1) rd (Config.drbgWord s.drbgUse.free) 1
    have hexec : s.kExec c { iv with left := iv.left - 1 } (.rnd rd) = u.kSet c { iv with left := iv.left - 1 } rd (Config.drbgWord s.drbgUse.free) := by
      rw [← hu]
      rfl
    have hcost : kCost iv (.rnd rd) = 1 := rfl
    rw [hcost, hexec]
    refine ⟨by rw [hself, hfree], fun j hj => (hothers j hj).trans (hinv j), ?_⟩
    rw [heq, ← hu, hdraw]
  · obtain ⟨⟨hnone, hothers, hsw, hbank, hregs, houts, hkeeps⟩, -⟩ := s.over_kEnd c { iv with left := iv.left - 1, wait := .none, sputs := [] } 1
    refine gives_kExec (i := .done) rfl h ?_
    have hexec : s.kExec c { iv with left := iv.left - 1 } .done = _ := State.kDone_of_empty hsputs hemits htimers hhsets hroom (iv.left - 1)
    have hcost : kCost iv .done = 1 := rfl
    rw [hcost, hexec]
    exact ⟨hnone, hothers, hsw, hbank, hregs, houts, hkeeps⟩
  · have hexec : s.doneWaitEnd c = s.kEnd c { iv with wait := .none } 1 := by
      rw [State.doneWaitEnd, hinv]
      exact (if_pos ⟨hwait, hroom⟩).trans (State.commitRest_of_empty hemits htimers hhsets c)
    exact ⟨_, congrArg Host.Outcome.next hexec, (s.over_kEnd c { iv with wait := .none } 1).1⟩
  · obtain ⟨⟨hnone, hothers, hsw, hbank, hregs, houts, hkeeps⟩, htimers⟩ := s.over_kEnd c { iv with left := iv.left - 1 } 2
    exact gives_kExec (i := .abandon) rfl h ⟨hnone, hothers, hsw, hbank, htimers, hregs, houts, hkeeps⟩
  · obtain ⟨hinv, hwait, hfetch, -⟩ := h
    have hexec : s.kIllegal c = s.kAbort c iv 2 := by
      simp only [State.kIllegal, hinv, hwait, hfetch, hw, Option.isNone_none, ne_eq, not_true_eq_false, if_false, if_true]
      rfl
    exact ⟨_, congrArg Host.Outcome.next hexec, s.aborts_kAbort c iv iv.left 2⟩

end Sys2Proof.Machine

/-! Loads, stores, ATOM and MCPY of a keeper core (R240 to R243, R250, R253). -/

namespace Sys2Proof.Machine

/-! Bytes stored through the routine's view -/

section
variable {s : State} {c : Fin 64} {iv : Invocation} {p : KPlace}

theorem State.kPuts_data (hwin : p.win = .priv ∨ p.win = .shared) (s : State) (core : Nat) (iv : Invocation) (bs : List Byte) :
    s.kPuts core iv p bs = s.mwbytes (s.kAddr core iv.ev.routine p) bs := by
  induction bs generalizing s p with
  | nil => rfl
  | cons b bs ih =>
    have hput : s.kPut core iv p b = s.mwb (s.kAddr core iv.ev.routine p) b := by
      rcases hwin with h | h <;> simp [State.kPut, h]
    have haddr : (s.mwb (s.kAddr core iv.ev.routine p) b).kAddr core iv.ev.routine { p with off := p.off + 1 } =
        s.kAddr core iv.ev.routine p + 1 := by
      have hsame : ∀ q, (s.mwb (s.kAddr core iv.ev.routine p) b).kAddr core iv.ev.routine q = s.kAddr core iv.ev.routine q := fun _ => rfl
      rw [hsame]
      rcases hwin with h | h
      · simp only [State.kAddr, h]
        rfl
      · simp only [State.kAddr, h]
        split <;> rfl
    rw [State.kPuts, ih (p := { p with off := p.off + 1 }) hwin, hput, haddr]
    rfl

/-- Bytes of the core's emit buffer. -/
theorem State.kPuts_emit (hwin : p.win = .emit) (s : State) (core : Nat) (iv : Invocation) (bs : List Byte) :
    s.kPuts core iv p bs = { s with kpr := { s.kpr with emitBuf := (s.kPuts core iv p bs).kpr.emitBuf } } ∧
    ∀ x, tget 0 (s.kPuts core iv p bs).kpr.emitBuf (16384 * core + x) =
      if p.off ≤ x ∧ x < p.off + bs.length then bs.getD (x - p.off) 0 else tget 0 s.kpr.emitBuf (16384 * core + x) := by
  induction bs generalizing s p with
  | nil => exact ⟨rfl, fun x => by rw [if_neg (by simp only [List.length_nil]; omega)]; rfl⟩
  | cons b bs ih =>
    have hput : s.kPut core iv p b = { s with kpr := { s.kpr with emitBuf := tset 0 s.kpr.emitBuf (core * 16384 + p.off) b } } := by
      simp [State.kPut, hwin]
    rw [State.kPuts, hput]
    obtain ⟨heq, hbuf⟩ := ih (p := { p with off := p.off + 1 }) hwin { s with kpr := { s.kpr with emitBuf := tset 0 s.kpr.emitBuf (core * 16384 + p.off) b } }
    refine ⟨by rw [heq], fun x => ?_⟩
    rw [hbuf x]
    dsimp only
    rw [tget_tset 0 0 _ _ _ _ (fun _ => rfl), List.length_cons]
    by_cases hx : x = p.off
    · subst hx
      rw [if_neg (by omega), if_pos (by omega), if_pos (by omega), Nat.sub_self]
      rfl
    · by_cases hin : p.off ≤ x ∧ x < p.off + (bs.length + 1)
      · rw [if_pos (by omega), if_pos hin, show x - p.off = (x - (p.off + 1)) + 1 by omega]
        rfl
      · rw [if_neg (by omega), if_neg (by omega), if_neg hin]

/-- A store to the private or the shared window ends an instruction. -/
theorem State.coreStores_kPuts (h : s.inv c = some iv) (hwin : p.win = .priv ∨ p.win = .shared) (ivx iv' : Invocation)
    (hev : ivx.ev = iv.ev) (bs : List Byte) :
    s.coreStores ((s.kPuts c ivx p bs).setInv c iv') c iv' (s.kAddr c iv.ev.routine p) bs := by
  have hputs : s.kPuts c ivx p bs = s.mwbytes (s.kAddr c iv.ev.routine p) bs := by rw [State.kPuts_data hwin, hev]
  obtain ⟨m, heq⟩ := s.mwbytes_eq (s.kAddr c iv.ev.routine p) bs
  have hmb := fun x => s.mb_mwbytes (s.kAddr c iv.ev.routine p) x bs
  rw [hputs]
  generalize s.mwbytes (s.kAddr c iv.ev.routine p) bs = u at heq hmb ⊢
  have hinv : ∀ j, u.inv j = s.inv j := State.inv_congr (by rw [heq])
  obtain ⟨hself, hothers, ht⟩ := State.coreTo_setInv ((hinv c).trans h) iv'
  exact ⟨hself, fun k hk => (hothers k hk).trans (hinv k), by rw [ht, heq], hmb⟩

theorem State.coreEmits_kPuts (h : s.inv c = some iv) (hwin : p.win = .emit) (ivx iv' : Invocation) (bs : List Byte) :
    s.coreEmits ((s.kPuts c ivx p bs).setInv c iv') c iv' p.off bs := by
  obtain ⟨heq, hbuf⟩ := State.kPuts_emit hwin s c ivx bs
  generalize s.kPuts c ivx p bs = u at heq hbuf ⊢
  have hinv : ∀ j, u.inv j = s.inv j := State.inv_congr (by rw [heq])
  obtain ⟨hself, hothers, ht⟩ := State.coreTo_setInv ((hinv c).trans h) iv'
  exact ⟨hself, fun k hk => (hothers k hk).trans (hinv k), by rw [ht, heq], hbuf⟩

/-! Where an access may be made -/

theorem State.loadAt_of_range {r a n al : Nat} (halign : a % al = 0) (hp : s.range r a n = some p) : s.loadAt r a n al = .ok p := by
  rw [State.loadAt, if_neg (not_not.2 halign), hp]

theorem State.loadAt_outside {r a n al : Nat} (halign : a % al = 0) (hp : s.range r a n = none) : s.loadAt r a n al = .error 3 := by
  rw [State.loadAt, if_neg (not_not.2 halign), hp]
  rfl

theorem State.loadAt_misaligned {r a n al : Nat} (halign : a % al ≠ 0) : s.loadAt r a n al = .error 5 := if_pos halign

theorem State.storeAtK_misaligned {r a n al : Nat} {word : Bool} (halign : a % al ≠ 0) : s.storeAtK r a n al word = .error 5 := if_pos halign

theorem State.storeAtK_outside {r a n al : Nat} {word : Bool} (halign : a % al = 0) (hp : s.range r a n = none) :
    s.storeAtK r a n al word = .error 3 := by
  rw [State.storeAtK, if_neg (not_not.2 halign), hp]
  rfl

theorem State.storeAtK_plain {r a n al : Nat} {word : Bool} (halign : a % al = 0) (hp : s.range r a n = some p) (hplain : p.alia = .plain)
    (hwin : p.win = .priv ∨ p.win = .shared ∨ p.win = .emit) : s.storeAtK r a n al word = .ok p := by
  have hw : p.win.writable = true := by rcases hwin with h | h | h <;> rw [h] <;> rfl
  rw [State.storeAtK, if_neg (not_not.2 halign), hp]
  simp only [hw, hplain, Bool.not_true, Bool.false_eq_true, if_false, if_true]

theorem State.storeAtK_alias {r a n al : Nat} (halign : a % al = 0) (hp : s.range r a n = some p) (halias : p.alia ≠ .plain)
    (hwin : p.win = .priv ∨ p.win = .shared) : s.storeAtK r a n al true = .ok p := by
  have hw : p.win.writable = true ∧ (p.win != .emit) = true := by rcases hwin with h | h <;> rw [h] <;> exact ⟨rfl, rfl⟩
  rw [State.storeAtK, if_neg (not_not.2 halign), hp]
  simp only [hw, halias, Bool.not_true, Bool.false_eq_true, if_false, if_true, Bool.and_self]

theorem State.storeAtK_denied {r a n al : Nat} {word : Bool} (halign : a % al = 0) (hp : s.range r a n = some p)
    (hdeny : p.win = .code ∨ p.win = .frame ∨ (p.alia ≠ .plain ∧ (word = false ∨ p.win = .emit))) : s.storeAtK r a n al word = .error 4 := by
  rw [State.storeAtK, if_neg (not_not.2 halign), hp]
  dsimp only
  by_cases hw : (!p.win.writable) = true
  · rw [if_pos hw]
    rfl
  · have hnot : p.win ≠ .code ∧ p.win ≠ .frame := by
      constructor <;> intro h <;> rw [h] at hw <;> exact hw rfl
    obtain ⟨halias, hor⟩ := (hdeny.resolve_left hnot.1).resolve_left hnot.2
    have hcond : ¬(word && p.win != .emit) = true := by
      rcases hor with h | h <;> rw [h] <;> simp
    rw [if_neg hw, if_neg halias, if_neg hcond]
    rfl

/-! Loads -/

theorem gives_load {x : Instr} {rd rs1 : Fin 32} {k : Fin 65536} {v : Word} {n : Nat} (op : LoadOp) (hx : exec x s = .next (s.kRun c (.load op rd rs1 k)))
    (hn : op.size = n) (hv : loadExtend op (leNat (s.kBytes c iv p n)) = v) (h : s.kReady c iv (fmtI op.code rd rs1 k) 1) :
    ((iv.g rs1 + sext16 k).toNat % n = 0 → s.range iv.ev.routine (iv.g rs1 + sext16 k).toNat n = some p →
        Gives x s (fun t => s.coreTo t c (iv.after rd v 1))) ∧
      ((iv.g rs1 + sext16 k).toNat % n = 0 → s.range iv.ev.routine (iv.g rs1 + sext16 k).toNat n = none →
        Gives x s (fun t => s.aborts t c iv 3)) ∧
      ((iv.g rs1 + sext16 k).toNat % n ≠ 0 → Gives x s (fun t => s.aborts t c iv 5)) := by
  subst hn hv
  have hgo : s.kExec c { iv with left := iv.left - 1 } (.load op rd rs1 k) =
      match s.loadAt iv.ev.routine (iv.g rs1 + sext16 k).toNat op.size op.size with
      | .ok p => s.kSet c { iv with left := iv.left - 1 } rd (loadExtend op (leNat (s.kBytes c iv p op.size)))
      | .error cause => s.kAbort c { iv with left := iv.left - 1 } cause := rfl
  have hcost : kCost iv (.load op rd rs1 k) = 1 := rfl
  refine ⟨fun halign hp => ?_, fun halign hp => ?_, fun halign => ?_⟩ <;> refine gives_kExec (i := .load op rd rs1 k) hx h ?_ <;> rw [hcost, hgo]
  · rw [State.loadAt_of_range halign hp]
    exact State.coreTo_kSet h.1 rd _ 1
  · rw [State.loadAt_outside halign hp]
    exact s.aborts_kAbort c iv _ 3
  · rw [State.loadAt_misaligned halign]
    exact s.aborts_kAbort c iv _ 5

/-! Stores -/

/-- The core's next word, with one unit paid. -/
def Invocation.went (iv : Invocation) : Invocation := { iv with pc := iv.pc + 4, left := iv.left - 1 }

/-- The bytes that a permitted store puts. -/
def State.storedBytes (s : State) (c : Nat) (iv : Invocation) (p : KPlace) (op : StoreOp) (v : Word) : List Byte :=
  if op = .sw then
    leBytes 4 (match p.alia with
      | .plain => v
      | .set => BitVec.ofNat 32 (leNat (s.kBytes c iv p 4)) ||| v
      | .clear => BitVec.ofNat 32 (leNat (s.kBytes c iv p 4)) &&& ~~~v).toNat
  else leBytes op.size v.toNat

theorem State.kExec_store {rs2 rs1 : Fin 32} {k : Fin 65536} (op : StoreOp) :
    s.kExec c { iv with left := iv.left - 1 } (.store op rs2 rs1 k) =
      match s.storeAtK iv.ev.routine (iv.g rs1 + sext16 k).toNat op.size op.size (op == .sw) with
      | .ok p => (s.kPuts c { iv with left := iv.left - 1 } p (s.storedBytes c iv p op (iv.g rs2))).setInv c iv.went
      | .error cause => s.kAbort c { iv with left := iv.left - 1 } cause := by
  have hdef : s.kExec c { iv with left := iv.left - 1 } (.store op rs2 rs1 k) =
      match s.storeAtK iv.ev.routine (iv.g rs1 + sext16 k).toNat op.size op.size (op == .sw) with
      | .ok p => (if op = .sw then s.kPutWord c { iv with left := iv.left - 1 } p (iv.g rs2)
          else s.kPuts c { iv with left := iv.left - 1 } p (leBytes op.size (iv.g rs2).toNat)).kNext c { iv with left := iv.left - 1 }
      | .error cause => s.kAbort c { iv with left := iv.left - 1 } cause := rfl
  rw [hdef]
  cases s.storeAtK iv.ev.routine (iv.g rs1 + sext16 k).toNat op.size op.size (op == .sw) with
  | error e => rfl
  | ok p =>
    dsimp only
    rw [State.storedBytes]
    by_cases hop : op = .sw
    · rw [if_pos hop, if_pos hop]
      rfl
    · rw [if_neg hop, if_neg hop]
      rfl

/-- What a store does at a place that it may change, and where it aborts. -/
theorem gives_store {x : Instr} {rs2 rs1 : Fin 32} {k : Fin 65536} (op : StoreOp) (hx : exec x s = .next (s.kRun c (.store op rs2 rs1 k)))
    (h : s.kReady c iv (fmtI op.code rs2 rs1 k) 1) :
    (∀ p, s.storeAtK iv.ev.routine (iv.g rs1 + sext16 k).toNat op.size op.size (op == .sw) = .ok p → p.win = .priv ∨ p.win = .shared →
        Gives x s (fun t => s.coreStores t c iv.went (s.kAddr c iv.ev.routine p) (s.storedBytes c iv p op (iv.g rs2)))) ∧
      (∀ p, s.storeAtK iv.ev.routine (iv.g rs1 + sext16 k).toNat op.size op.size (op == .sw) = .ok p → p.win = .emit →
        Gives x s (fun t => s.coreEmits t c iv.went p.off (s.storedBytes c iv p op (iv.g rs2)))) ∧
      (∀ e, s.storeAtK iv.ev.routine (iv.g rs1 + sext16 k).toNat op.size op.size (op == .sw) = .error e →
        Gives x s (fun t => s.aborts t c iv e)) := by
  have hcost : kCost iv (.store op rs2 rs1 k) = 1 := rfl
  refine ⟨fun p hp hwin => ?_, fun p hp hwin => ?_, fun e he => ?_⟩ <;> refine gives_kExec (i := .store op rs2 rs1 k) hx h ?_ <;>
    rw [hcost, State.kExec_store]
  · rw [hp]
    exact State.coreStores_kPuts h.1 hwin { iv with left := iv.left - 1 } _ rfl _
  · rw [hp]
    exact State.coreEmits_kPuts h.1 hwin { iv with left := iv.left - 1 } _ _
  · rw [he]
    exact s.aborts_kAbort c iv _ e

theorem State.storedBytes_plain (hplain : p.alia = .plain) (op : StoreOp) (v : Word) : s.storedBytes c iv p op v = leBytes op.size v.toNat := by
  rw [State.storedBytes, hplain]
  cases op <;> rfl

/-- A store of any size, case by case of the place. -/
theorem gives_store_cases {x : Instr} {rs2 rs1 : Fin 32} {k : Fin 65536} {n : Nat} (op : StoreOp) (hx : exec x s = .next (s.kRun c (.store op rs2 rs1 k)))
    (hn : op.size = n) (h : s.kReady c iv (fmtI op.code rs2 rs1 k) 1) :
    let a := (iv.g rs1 + sext16 k).toNat
    let r := iv.ev.routine
    (a % n = 0 → s.range r a n = some p → p.alia = .plain → p.win = .priv ∨ p.win = .shared →
        Gives x s (fun t => s.coreStores t c iv.went (s.kAddr c r p) (leBytes n (iv.g rs2).toNat))) ∧
      (a % n = 0 → s.range r a n = some p → p.alia = .plain → p.win = .emit →
        Gives x s (fun t => s.coreEmits t c iv.went p.off (leBytes n (iv.g rs2).toNat))) ∧
      (a % n = 0 → s.range r a n = some p → p.win = .code ∨ p.win = .frame ∨ (p.alia ≠ .plain ∧ (n ≠ 4 ∨ p.win = .emit)) →
        Gives x s (fun t => s.aborts t c iv 4)) ∧
      (a % n = 0 → s.range r a n = none → Gives x s (fun t => s.aborts t c iv 3)) ∧
      (a % n ≠ 0 → Gives x s (fun t => s.aborts t c iv 5)) := by
  subst hn
  obtain ⟨hdata, hemit, habort⟩ := gives_store (iv := iv) op hx h
  refine ⟨fun halign hp hplain hwin => ?_, fun halign hp hplain hwin => ?_, fun halign hp hdeny => ?_, fun halign hp => ?_, fun halign => ?_⟩
  · rw [← State.storedBytes_plain (s := s) (c := c) (iv := iv) hplain op]
    exact hdata p (State.storeAtK_plain halign hp hplain (hwin.imp_right .inl)) hwin
  · rw [← State.storedBytes_plain (s := s) (c := c) (iv := iv) hplain op]
    exact hemit p (State.storeAtK_plain halign hp hplain (.inr (.inr hwin))) hwin
  · refine habort 4 (State.storeAtK_denied halign hp (hdeny.imp_right (Or.imp_right fun ⟨ha, hor⟩ => ⟨ha, hor.imp_left fun hsize => ?_⟩)))
    cases op
    · exact absurd rfl hsize
    · rfl
    · rfl
  · exact habort 3 (State.storeAtK_outside halign hp)
  · exact habort 5 (State.storeAtK_misaligned halign)

/-! ATOM -/

theorem State.atomAt_ok {r a : Nat} (hp : s.atomAt r a = .ok p) : (p.win = .priv ∨ p.win = .shared) ∧ p.alia = .plain := by
  rw [State.atomAt] at hp
  split at hp
  · next q hq =>
    split at hp
    · next hcond =>
      cases hp
      exact hcond
    · cases hp
  · cases hp

/-- The word that stands at a place of the data windows. -/
theorem State.kBytes_data (hwin : p.win = .priv ∨ p.win = .shared) (n x : Nat)
    (hx : s.kAddr c iv.ev.routine p ≤ x ∧ x < s.kAddr c iv.ev.routine p + n) :
    (s.kBytes c iv p n).getD (x - s.kAddr c iv.ev.routine p) 0 = s.mb x := by
  have hlen : x - s.kAddr c iv.ev.routine p < n := by omega
  have haddr : ∀ i, s.kAddr c iv.ev.routine { p with off := p.off + i } = s.kAddr c iv.ev.routine p + i := fun i => by
    rcases hwin with h | h
    · simp only [State.kAddr, h]
      omega
    · simp only [State.kAddr, h]
      split <;> omega
  have hbyte : s.kByte c iv { p with off := p.off + (x - s.kAddr c iv.ev.routine p) } = s.mb x := by
    have hb : ∀ q : KPlace, q.win = .priv ∨ q.win = .shared → s.kByte c iv q = s.mb (s.kAddr c iv.ev.routine q) := fun q hq => by
      rcases hq with h | h <;> simp [State.kByte, h]
    rw [hb { p with off := p.off + (x - s.kAddr c iv.ev.routine p) } hwin, haddr]
    congr 1
    omega
  rw [State.kBytes, List.getD_eq_getElem?_getD, List.getElem?_map, List.getElem?_range hlen]
  exact hbyte

theorem State.length_kBytes (s : State) (c : Nat) (iv : Invocation) (p : KPlace) (n : Nat) : (s.kBytes c iv p n).length = n := by
  rw [State.kBytes, List.length_map, List.length_range]

/-- A store that leaves each byte as it is. -/
theorem State.coreStores_same (h : s.inv c = some iv) (hwin : p.win = .priv ∨ p.win = .shared) (iv' : Invocation) (n : Nat) :
    s.coreStores (s.setInv c iv') c iv' (s.kAddr c iv.ev.routine p) (s.kBytes c iv p n) := by
  obtain ⟨hself, hothers, ht⟩ := State.coreTo_setInv h iv'
  refine ⟨hself, hothers, ht, fun x => ?_⟩
  have hmb : (s.setInv c iv').mb x = s.mb x := rfl
  rw [hmb]
  split
  · next hx =>
    rw [State.length_kBytes] at hx
    exact (State.kBytes_data hwin n x hx).symm
  · rfl

theorem gives_atom {x : Instr} {rd rs1 rs2 : Fin 32} (add : Bool) (hx : exec x s = .next (s.kRun c (.atom add rd rs1 rs2)))
    (h : s.kReady c iv (fmtR 0x1C rd rs1 rs2 (boolNat add)) 2) :
    (s.atomAt iv.ev.routine (iv.g rs1).toNat = .ok p →
      let old : Word := BitVec.ofNat 32 (leNat (s.kBytes c iv p 4))
      Gives x s (fun t => s.coreStores t c (iv.after rd old 2) (s.kAddr c iv.ev.routine p)
        (if add = true then leBytes 4 (old + iv.g rs2).toNat else if old = iv.g rd then leBytes 4 (iv.g rs2).toNat else s.kBytes c iv p 4))) ∧
      (∀ e, s.atomAt iv.ev.routine (iv.g rs1).toNat = .error e → Gives x s (fun t => s.aborts t c iv e)) := by
  have hcost : kCost iv (.atom add rd rs1 rs2) = 2 := rfl
  have hafter : ∀ (u : State) (v : Word), u.kSet c { iv with left := iv.left - 2 } rd v = u.setInv c (iv.after rd v 2) := fun u v => by
    simp only [State.kSet, Invocation.after, Invocation.setG_left]
  have hgo : s.kExec c { iv with left := iv.left - 2 } (.atom add rd rs1 rs2) =
      match s.atomAt iv.ev.routine (iv.g rs1).toNat with
      | .ok p =>
        (if add then s.kPutWord c { iv with left := iv.left - 2 } p (BitVec.ofNat 32 (leNat (s.kBytes c iv p 4)) + iv.g rs2)
          else if BitVec.ofNat 32 (leNat (s.kBytes c iv p 4)) = iv.g rd then s.kPutWord c { iv with left := iv.left - 2 } p (iv.g rs2)
          else s).kSet c { iv with left := iv.left - 2 } rd (BitVec.ofNat 32 (leNat (s.kBytes c iv p 4)))
      | .error cause => s.kAbort c { iv with left := iv.left - 2 } cause := rfl
  refine ⟨fun hp => ?_, fun e he => ?_⟩ <;> refine gives_kExec (i := .atom add rd rs1 rs2) hx h ?_ <;> rw [hcost, hgo]
  · obtain ⟨hwin, hplain⟩ := State.atomAt_ok hp
    have hput : ∀ v : Word, s.kPutWord c { iv with left := iv.left - 2 } p v = s.kPuts c { iv with left := iv.left - 2 } p (leBytes 4 v.toNat) := fun v => by
      rw [State.kPutWord, hplain]
    rw [hp]
    dsimp only
    rw [hafter]
    cases add with
    | true =>
      rw [if_pos rfl, if_pos rfl, hput]
      exact State.coreStores_kPuts h.1 hwin { iv with left := iv.left - 2 } _ rfl _
    | false =>
      simp only [Bool.false_eq_true, if_false]
      by_cases hold : BitVec.ofNat 32 (leNat (s.kBytes c iv p 4)) = iv.g rd
      · rw [if_pos hold, if_pos hold, hput]
        exact State.coreStores_kPuts h.1 hwin { iv with left := iv.left - 2 } _ rfl _
      · rw [if_neg hold, if_neg hold]
        exact State.coreStores_same h.1 hwin _ 4
  · rw [he]
    exact s.aborts_kAbort c iv _ e

/-! MCPY -/

/-- The core's next word, with the cost of a copy paid. -/
def Invocation.copied (iv : Invocation) (n : Nat) : Invocation := { iv with pc := iv.pc + 4, left := iv.left - (1 + (n + 31) / 32) }

theorem gives_mcpy {rd rs1 rs2 : Fin 32} (h : s.kReady c iv (fmtR 0x1D rd rs1 rs2 0) (1 + ((iv.g rs2).toNat + 31) / 32)) {P : State → Prop}
    (hP : P (s.kCopy c { iv with left := iv.left - (1 + ((iv.g rs2).toNat + 31) / 32) } (iv.g rd).toNat (iv.g rs1).toNat (iv.g rs2).toNat)) :
    Gives (.mcpy c rd rs1 rs2) s P :=
  gives_kExec (i := .mcpy rd rs1 rs2) rfl h hP

section
variable {dst src n left : Nat}

theorem State.kCopy_of_ok {q : KPlace} (hpos : 0 < n) (hmax : n ≤ 16384) (hsrc : s.range iv.ev.routine src n = some q)
    (hdst : s.storeAtK iv.ev.routine dst n 1 false = .ok p) :
    s.kCopy c { iv with left := left } dst src n =
      (s.kPuts c { iv with left := left } p (s.kBytes c iv q n)).setInv c { iv with pc := iv.pc + 4, left := left } := by
  have hload : s.loadAt iv.ev.routine src n 1 = .ok q := State.loadAt_of_range (Nat.mod_one _) hsrc
  rw [State.kCopy, if_neg (by omega), if_neg (by omega)]
  dsimp only
  rw [hload, hdst]
  rfl

theorem State.kCopy_of_no_source (hpos : 0 < n) (hmax : n ≤ 16384) (hsrc : s.range iv.ev.routine src n = none) :
    s.kCopy c { iv with left := left } dst src n = s.kAbort c { iv with left := left } 3 := by
  have hload : s.loadAt iv.ev.routine src n 1 = .error 3 := State.loadAt_outside (Nat.mod_one _) hsrc
  rw [State.kCopy, if_neg (by omega), if_neg (by omega)]
  dsimp only
  rw [hload]

theorem State.kCopy_of_bad_target {e : Nat} {q : KPlace} (hpos : 0 < n) (hmax : n ≤ 16384) (hsrc : s.range iv.ev.routine src n = some q)
    (hdst : s.storeAtK iv.ev.routine dst n 1 false = .error e) :
    s.kCopy c { iv with left := left } dst src n = s.kAbort c { iv with left := left } e := by
  have hload : s.loadAt iv.ev.routine src n 1 = .ok q := State.loadAt_of_range (Nat.mod_one _) hsrc
  rw [State.kCopy, if_neg (by omega), if_neg (by omega)]
  dsimp only
  rw [hload, hdst]

end

end

/-- Settles O40: each access by the place that it names. -/
theorem keeperMemory : Obligations.KeeperMemory := by
  unfold Obligations.KeeperMemory
  intro s c iv rd rs1 rs2 k p
  refine ⟨?_, ?_, fun h halign hp hwin => ?_, fun old hold hp => ⟨fun h => ?_, fun h => ?_⟩, fun e he => ⟨fun h => (gives_atom false rfl h (p := p)).2 e he,
    fun h => (gives_atom true rfl h (p := p)).2 e he⟩, fun h => ⟨fun q hpos hmax hsrc hdst hwin => ?_, fun q hpos hmax hsrc hdst hwin => ?_,
    fun e hpos hmax hdst => ?_, fun hpos hmax hsrc => ?_, fun hzero => ?_, fun hmax => ?_⟩⟩
  · simp only [List.forall_mem_cons]
    exact ⟨gives_load .lw rfl rfl rfl, gives_load .lh rfl rfl rfl, gives_load .lhu rfl rfl rfl, gives_load .lb rfl rfl rfl,
      gives_load .lbu rfl rfl rfl, List.forall_mem_nil _⟩
  · simp only [List.forall_mem_cons]
    exact ⟨gives_store_cases .sw rfl rfl, gives_store_cases .sh rfl rfl, gives_store_cases .sb rfl rfl, List.forall_mem_nil _⟩
  · have hstore : ∀ a : KAlias, a ≠ .plain → p.alia = a → s.storeAtK iv.ev.routine (iv.g rs1 + sext16 k).toNat 4 4 true = .ok p :=
      fun a hne ha => State.storeAtK_alias halign hp (ha.symm ▸ hne) hwin
    have hdata := (gives_store (iv := iv) (x := .sw c rs2 rs1 k) .sw rfl h).1 p
    have hbytes : s.storedBytes c iv p .sw (iv.g rs2) = leBytes 4 (match p.alia with
      | .plain => iv.g rs2
      | .set => BitVec.ofNat 32 (leNat (s.kBytes c iv p 4)) ||| iv.g rs2
      | .clear => BitVec.ofNat 32 (leNat (s.kBytes c iv p 4)) &&& ~~~iv.g rs2).toNat := rfl
    refine ⟨fun ha => ?_, fun ha => ?_⟩ <;> rw [ha] at hbytes <;> dsimp only at hbytes <;> rw [hbytes] at hdata
    · exact hdata (hstore _ (by decide) ha) hwin
    · exact hdata (hstore _ (by decide) ha) hwin
  · have hgives := (gives_atom (x := .cas c rd rs1 rs2) false rfl h).1 hp
    rw [← hold] at hgives
    simpa only [Bool.false_eq_true, if_false] using hgives
  · have hgives := (gives_atom (x := .aadd c rd rs1 rs2) true rfl h).1 hp
    rw [← hold] at hgives
    simpa only [if_true] using hgives
  · exact gives_mcpy h (State.kCopy_of_ok hpos hmax hsrc hdst ▸
      State.coreStores_kPuts h.1 hwin { iv with left := iv.left - (1 + ((iv.g rs2).toNat + 31) / 32) } _ rfl _)
  · exact gives_mcpy h (State.kCopy_of_ok hpos hmax hsrc hdst ▸
      State.coreEmits_kPuts h.1 hwin { iv with left := iv.left - (1 + ((iv.g rs2).toNat + 31) / 32) } _ _)
  · refine gives_mcpy h ?_
    cases hsrc : s.range iv.ev.routine (iv.g rs1).toNat (iv.g rs2).toNat with
    | none =>
      rw [if_pos rfl, State.kCopy_of_no_source hpos hmax hsrc]
      exact s.aborts_kAbort c iv _ 3
    | some q =>
      rw [if_neg (by simp), State.kCopy_of_bad_target hpos hmax hsrc hdst]
      exact s.aborts_kAbort c iv _ e
  · exact gives_mcpy h (State.kCopy_of_no_source hpos hmax hsrc ▸ s.aborts_kAbort c iv _ 3)
  · refine gives_mcpy h ?_
    rw [hzero]
    exact State.coreTo_setInv h.1 _
  · have hlong : s.kCopy c { iv with left := iv.left - (1 + ((iv.g rs2).toNat + 31) / 32) } (iv.g rd).toNat (iv.g rs1).toNat (iv.g rs2).toNat =
        s.kAbort c { iv with left := iv.left - (1 + ((iv.g rs2).toNat + 31) / 32) } 3 := by
      rw [State.kCopy, if_neg (by omega), if_pos hmax]
      rfl
    exact gives_mcpy h (hlong ▸ s.aborts_kAbort c iv _ 3)

end Sys2Proof.Machine

/-! Signals, lookups and the buffered outputs of a keeper core (R258 to R265). -/

namespace Sys2Proof.Machine

section
variable {s : State} {c : Fin 64} {iv : Invocation} {rd rs1 rs2 : Fin 32} {p : KPlace}

/-- An instruction that changes the core's invocation alone, beside its cost. -/
theorem gives_setInv {i : KInstr} {x : Instr} {iv' : Invocation} {cost : Nat} (hx : exec x s = .next (s.kRun c i)) (hcost : kCost iv i = cost)
    (hexec : s.kExec c { iv with left := iv.left - cost } i = s.setInv c iv') (h : s.kReady c iv i.encode cost) :
    Gives x s (fun t => s.coreTo t c iv') := by
  subst hcost
  exact gives_kExec hx h (hexec ▸ State.coreTo_setInv h.1 iv')

theorem gives_kAbort {i : KInstr} {x : Instr} {e cost : Nat} (hx : exec x s = .next (s.kRun c i)) (hcost : kCost iv i = cost)
    (hexec : s.kExec c { iv with left := iv.left - cost } i = s.kAbort c { iv with left := iv.left - cost } e) (h : s.kReady c iv i.encode cost) :
    Gives x s (fun t => s.aborts t c iv e) := by
  subst hcost
  exact gives_kExec hx h (hexec ▸ s.aborts_kAbort c iv _ e)

theorem State.kSet_eq (s : State) (c : Nat) (iv : Invocation) (rd : Fin 32) (v : Word) (n : Nat) :
    s.kSet c { iv with left := iv.left - n } rd v = s.setInv c (iv.after rd v n) := by
  simp only [State.kSet, Invocation.after, Invocation.setG_left]

/-! A refused access (R258, R259, R264) -/

/-- What a refused access leaves: status 4, the routine's count and the event. -/
def State.refusedTo (s t : State) (c : Fin 64) (iv : Invocation) (rd : Fin 32) : Prop :=
  t.inv c = some (iv.after rd 4 2) ∧ (∀ k, k ≠ c.val → t.inv k = s.inv k) ∧
    ((s.rt iv.ev.routine).cnt.length = 9 → (t.rt iv.ev.routine).cnt.getD 5 0 = min ((s.rt iv.ev.routine).cnt.getD 5 0 + 1) (2 ^ 32 - 1)) ∧
    (∀ q, q ≠ iv.ev.routine → t.rt q = s.rt q) ∧ s.onlyRegs t [] ∧
    t = { s with regs := t.regs, flt := t.flt, kpr := { s.kpr with run := t.kpr.run, rts := t.kpr.rts } }

theorem State.rt_congr {s t : State} (h : t.kpr.rts = s.kpr.rts) (q : Nat) : t.rt q = s.rt q := by rw [State.rt, State.rt, h]

theorem State.refusedTo_rtRefused (h : s.inv c = some iv) :
    s.refusedTo ((s.rtRefused iv.ev.routine).kSet c { iv with left := iv.left - 2 } rd 4) c iv rd := by
  obtain ⟨hothers, -, hcnt, hcount⟩ := s.rtCount_spec iv.ev.routine 5
  have hevent := (s.rtCount iv.ev.routine 5).wroteEvents_raiseLim (l := []) (c := 0x0C05) (k := 1) iv.ev.routine 0 (by decide) (by decide) rfl
  rw [State.rtRefused, State.kSet_eq]
  have hregs : (s.rtCount iv.ev.routine 5).regs = s.regs := rfl
  generalize s.rtCount iv.ev.routine 5 = u at hothers hcnt hcount hevent hregs ⊢
  obtain ⟨honly, hframe⟩ := hevent
  generalize u.raiseLim 0x0C05 1 iv.ev.routine = w at honly hframe ⊢
  have hkpr : w.kpr = u.kpr := by rw [hframe]
  have hrun : w.kpr.run = s.kpr.run := by rw [hkpr, hcount]
  have hinv : ∀ j, w.inv j = s.inv j := State.inv_congr hrun
  obtain ⟨hself, hkeep, ht⟩ := State.coreTo_setInv ((hinv c).trans h) (iv.after rd 4 2)
  have hrt : ∀ q, (w.setInv c (iv.after rd 4 2)).rt q = u.rt q := fun q =>
    State.rt_congr (s := u) (t := w.setInv c (iv.after rd 4 2)) (by rw [← hkpr]; rfl) q
  refine ⟨hself, fun k hk => (hkeep k hk).trans (hinv k), fun hlen => ?_, fun q hq => (hrt q).trans (hothers q hq), fun a hl ha => ?_, ?_⟩
  · rw [hrt]
    exact hcnt (by rw [hlen]; decide)
  · have hrd : (w.setInv c (iv.after rd 4 2)).rd a = w.rd a := rfl
    rw [hrd, honly a hl ha, State.rd, hregs]
    rfl
  · rw [ht, hframe, hcount]

theorem gives_refused {i : KInstr} {x : Instr} (hx : exec x s = .next (s.kRun c i)) (hcost : kCost iv i = 2)
    (hexec : s.kExec c { iv with left := iv.left - 2 } i = (s.rtRefused iv.ev.routine).kSet c { iv with left := iv.left - 2 } rd 4)
    (h : s.kReady c iv i.encode 2) : Gives x s (fun t => s.refusedTo t c iv rd) := by
  rw [← hcost] at h hexec
  refine gives_kExec hx h ?_
  rw [hexec, hcost]
  exact State.refusedTo_rtRefused h.1

/-! SGET and SPUT (R258, R259) -/

theorem State.kSget_of_error {e n : Nat} (he : s.entryAt16 iv.ev.routine (iv.g rs2).toNat = .error e) :
    s.kExec c { iv with left := n } (.sget rd rs1 rs2) = s.kAbort c { iv with left := n } e := by
  have hdef : s.kExec c { iv with left := n } (.sget rd rs1 rs2) = s.kSget c { iv with left := n } rd rs1 rs2 := rfl
  have hat : s.entryAt16 ({ iv with left := n } : Invocation).ev.routine (({ iv with left := n } : Invocation).g rs2).toNat = .error e := he
  rw [hdef, State.kSget, hat]

/-- SGET at a place that it may write. -/
theorem State.kSget_of_ok {n : Nat} (hp : s.entryAt16 iv.ev.routine (iv.g rs2).toNat = .ok p) :
    s.kExec c { iv with left := iv.left - n } (.sget rd rs1 rs2) =
      if 262144 ≤ (iv.g rs1).toNat then (s.rtRefused iv.ev.routine).kSet c { iv with left := iv.left - n } rd 4
      else if 250000 ≤ (iv.g rs1).toNat then
        (({ s with free := s.free + 1 } : State).kPuts c { iv with left := iv.left - n } p (leBytes 16 (Config.ownSignal s.free (iv.g rs1).toNat))).setInv c
          (iv.after rd 0 n)
      else (s.kPuts c { iv with left := iv.left - n } p (s.mbytes (signalAddr (iv.g rs1).toNat) 16)).setInv c (iv.after rd 0 n) := by
  have hdef : s.kExec c { iv with left := iv.left - n } (.sget rd rs1 rs2) = s.kSget c { iv with left := iv.left - n } rd rs1 rs2 := rfl
  have hat : s.entryAt16 ({ iv with left := iv.left - n } : Invocation).ev.routine (({ iv with left := iv.left - n } : Invocation).g rs2).toNat = .ok p := hp
  rw [hdef, State.kSget, hat]
  dsimp only [State.freeIx]
  simp only [State.kSet_eq]
  rfl

theorem State.kSput_of_error {e n : Nat} (he : s.entryAt16 iv.ev.routine (iv.g rs2).toNat = .error e) :
    s.kExec c { iv with left := n } (.sput rd rs1 rs2) = s.kAbort c { iv with left := n } e := by
  have hdef : s.kExec c { iv with left := n } (.sput rd rs1 rs2) = s.kSput c { iv with left := n } rd rs1 rs2 := rfl
  have hat : s.entryAt16 ({ iv with left := n } : Invocation).ev.routine (({ iv with left := n } : Invocation).g rs2).toNat = .error e := he
  rw [hdef, State.kSput]
  dsimp only at hat ⊢
  rw [hat]

theorem bits_23_21 (n : Nat) : bits 23 21 n = n / 2 ^ 21 % 8 := by
  rw [bits, Nat.shiftRight_eq_div_pow]
  rfl

/-- The write that SPUT buffers. -/
def State.sputWrite (s : State) (c : Fin 64) (iv : Invocation) (p : KPlace) (i : Nat) : SigWrite :=
  { index := i, value := leNat ((s.kBytes c iv p 16).take 8), status := leNat (slice 12 4 (s.kBytes c iv p 16)) / 2 ^ 21 % 8 }

/-! The invocation after an instruction that also buffers an output -/

theorem State.kSet_of_setG (s : State) (c : Nat) {iv' iv'' : Invocation} {rd : Fin 32} {v : Word} (hset : iv'.setG rd v = iv'') :
    s.kSet c iv' rd v = s.setInv c { iv'' with pc := iv'.pc + 4 } := congrArg (fun x : Invocation => s.setInv c { x with pc := iv'.pc + 4 }) hset

theorem State.kSet_sputs (s : State) (c : Nat) (iv : Invocation) (rd : Fin 32) (v : Word) (n : Nat) (l : List SigWrite) :
    s.kSet c { iv with left := iv.left - n, sputs := l } rd v = s.setInv c { iv.after rd v n with sputs := l } :=
  State.kSet_of_setG s c (iv'' := { iv.setG rd v with left := iv.left - n, sputs := l }) (by simp only [Invocation.setG]; split <;> rfl)

theorem State.kSet_emits (s : State) (c : Nat) (iv : Invocation) (rd : Fin 32) (v : Word) (n : Nat) (l : List (List Byte)) :
    s.kSet c { iv with left := iv.left - n, emits := l } rd v = s.setInv c { iv.after rd v n with emits := l } :=
  State.kSet_of_setG s c (iv'' := { iv.setG rd v with left := iv.left - n, emits := l }) (by simp only [Invocation.setG]; split <;> rfl)

theorem State.kSet_timers (s : State) (c : Nat) (iv : Invocation) (rd : Fin 32) (v : Word) (n : Nat) (l : List TimerOp) :
    s.kSet c { iv with left := iv.left - n, timers := l } rd v = s.setInv c { iv.after rd v n with timers := l } :=
  State.kSet_of_setG s c (iv'' := { iv.setG rd v with left := iv.left - n, timers := l }) (by simp only [Invocation.setG]; split <;> rfl)

theorem State.kSet_hsets (s : State) (c : Nat) (iv : Invocation) (rd : Fin 32) (v : Word) (n : Nat) (l : List (Nat × Nat)) :
    s.kSet c { iv with left := iv.left - n, hsets := l } rd v = s.setInv c { iv.after rd v n with hsets := l } :=
  State.kSet_of_setG s c (iv'' := { iv.setG rd v with left := iv.left - n, hsets := l }) (by simp only [Invocation.setG]; split <;> rfl)

/-- SPUT at a place that it may read. -/
theorem State.kSput_of_ok {n : Nat} (hp : s.entryAt16 iv.ev.routine (iv.g rs2).toNat = .ok p) :
    s.kExec c { iv with left := iv.left - n } (.sput rd rs1 rs2) =
      if 250000 ≤ (iv.g rs1).toNat ∨ (!s.maySput iv.ev.routine (iv.g rs1).toNat) = true then
        (s.rtRefused iv.ev.routine).kSet c { iv with left := iv.left - n } rd 4
      else if (iv.sputs.any (fun x => x.index == (iv.g rs1).toNat)) = true then
        s.setInv c { iv.after rd 0 n with
          sputs := iv.sputs.map (fun x => if x.index = (iv.g rs1).toNat then s.sputWrite c iv p (iv.g rs1).toNat else x) }
      else if 64 ≤ iv.sputs.length then s.setInv c (iv.after rd 2 n)
      else s.setInv c { iv.after rd 0 n with sputs := iv.sputs ++ [s.sputWrite c iv p (iv.g rs1).toNat] } := by
  have hdef : s.kExec c { iv with left := iv.left - n } (.sput rd rs1 rs2) = s.kSput c { iv with left := iv.left - n } rd rs1 rs2 := rfl
  have hat : s.entryAt16 ({ iv with left := iv.left - n } : Invocation).ev.routine (({ iv with left := iv.left - n } : Invocation).g rs2).toNat = .ok p := hp
  have hw : ({ index := (iv.g rs1).toNat, value := leNat ((s.kBytes c iv p 16).take 8), status := bits 23 21 (leNat (slice 12 4 (s.kBytes c iv p 16))) } : SigWrite) =
      s.sputWrite c iv p (iv.g rs1).toNat := by rw [State.sputWrite, bits_23_21]
  rw [hdef, State.kSput]
  dsimp only at hat ⊢
  rw [hat]
  dsimp only
  rw [← State.kSet_eq, ← State.kSet_sputs, ← State.kSet_sputs, ← hw]
  rfl

/-! TLK (R260) -/

/-- The registers that TLK leaves. -/
theorem State.kTlk_eq {sr : Fin 32} {n w st k : Nat} (hl : s.lookup k (iv.g rs1).toNat (iv.g rs2).toNat = (w, st)) :
    s.kTlk c { iv with left := iv.left - n } rd rs1 rs2 k sr = s.setInv c
      (if rd = sr then iv.after rd (BitVec.ofNat 32 (if Config.tlkStatusStands then st else w)) n
        else Invocation.after (iv.setG rd (BitVec.ofNat 32 w)) sr (BitVec.ofNat 32 st) n) := by
  have hat : s.lookup k (({ iv with left := iv.left - n } : Invocation).g rs1).toNat (({ iv with left := iv.left - n } : Invocation).g rs2).toNat = (w, st) := hl
  have hval : (if Config.tlkStatusStands then BitVec.ofNat 32 st else BitVec.ofNat 32 w) = BitVec.ofNat 32 (if Config.tlkStatusStands then st else w) := by
    split <;> rfl
  rw [State.kTlk, hat]
  dsimp only
  by_cases h : rd = sr
  · rw [if_pos h, if_pos h, State.kSet_eq, hval]
  · have hleft : (iv.setG rd (BitVec.ofNat 32 w)).left = iv.left := by
      rw [Invocation.setG]
      split <;> rfl
    rw [if_neg h, if_neg h, Invocation.setG_left, ← hleft, State.kSet_eq]

end

theorem bits_31_28 {n : Nat} (h : n < 2 ^ 32) : bits 31 28 n = n / 2 ^ 28 := by
  rw [bits, Nat.shiftRight_eq_div_pow]
  omega

section
variable {s : State} {type hi lo : Nat}

theorem State.lookup_reserved (hi lo : Nat) : s.lookup 7 hi lo = (0, 3) := rfl

theorem State.lookup_direct_outside (hlo : 49151 < lo) : s.lookup 0 hi lo = (0, 3) :=
  (if_neg (by decide)).trans ((if_pos rfl).trans (if_pos hlo))

theorem State.lookup_direct (hlo : lo ≤ 49151) :
    s.lookup 0 hi lo = if bit 0 (s.mem32 (0x30480000 + 4 * lo)) then (s.mem32 (0x30480000 + 4 * lo), 0) else (0, 1) :=
  (if_neg (by decide)).trans ((if_pos rfl).trans (if_neg (by omega)))

theorem State.lookup_mistyped (hhi : hi < 2 ^ 32) (h1 : 2 ≤ type) (h2 : type ≤ 6) (hne : hi / 2 ^ 28 ≠ type) : s.lookup type hi lo = (0, 1) :=
  (if_neg (by omega)).trans ((if_neg (by omega)).trans (if_pos ⟨h1, by rw [bits_31_28 hhi]; exact hne⟩))

theorem State.lookup_trie_none (h1 : 1 ≤ type) (h2 : type ≤ 6) (hnone : s.trieLookup (hi * 2 ^ 32 + lo) type = none) :
    s.lookup type hi lo = (0, 1) := by
  refine (if_neg (by omega)).trans ((if_neg (by omega)).trans ?_)
  split
  · rfl
  · rw [hnone]

theorem State.lookup_trie_some (hhi : hi < 2 ^ 32) (h1 : 1 ≤ type) (h2 : type ≤ 6) (htype : type = 1 ∨ hi / 2 ^ 28 = type) {x : Nat}
    (hx : s.trieLookup (hi * 2 ^ 32 + lo) type = some x) : s.lookup type hi lo = (x, 0) := by
  have hnot : ¬(2 ≤ type ∧ bits 31 28 hi ≠ type) := by
    rw [bits_31_28 hhi]
    omega
  refine (if_neg (by omega)).trans ((if_neg (by omega)).trans ((if_neg hnot).trans ?_))
  rw [hx]

end

/-! EMIT, TARM, HSET and CIPH (R261 to R265) -/

section
variable {s : State} {c : Fin 64} {iv : Invocation} {rd rs1 rs2 : Fin 32} {p : KPlace} {n : Nat}

theorem State.kEmit_of_bad_length (hb : (iv.g rs2).toNat < 8 ∨ 9220 < (iv.g rs2).toNat) :
    s.kExec c { iv with left := iv.left - n } (.emit rd rs1 rs2) = s.setInv c (iv.after rd 3 n) := by
  have hdef : s.kExec c { iv with left := iv.left - n } (.emit rd rs1 rs2) = s.kSet c { iv with left := iv.left - n } rd 3 := if_pos hb
  rw [hdef, State.kSet_eq]

theorem State.kEmit_of_error {e : Nat} (h8 : 8 ≤ (iv.g rs2).toNat) (h9 : (iv.g rs2).toNat ≤ 9220)
    (he : s.emitAt iv.ev.routine (iv.g rs1).toNat (iv.g rs2).toNat = .error e) :
    s.kExec c { iv with left := n } (.emit rd rs1 rs2) = s.kAbort c { iv with left := n } e := by
  have hdef : s.kExec c { iv with left := n } (.emit rd rs1 rs2) = s.kEmit c { iv with left := n } rd rs1 rs2 := rfl
  have hat : s.emitAt ({ iv with left := n } : Invocation).ev.routine (({ iv with left := n } : Invocation).g rs1).toNat
      (({ iv with left := n } : Invocation).g rs2).toNat = .error e := he
  have hlen : ¬((({ iv with left := n } : Invocation).g rs2).toNat < 8 ∨ 9220 < (({ iv with left := n } : Invocation).g rs2).toNat) := by
    have hg : ({ iv with left := n } : Invocation).g rs2 = iv.g rs2 := rfl
    rw [hg]
    omega
  rw [hdef, State.kEmit]
  dsimp only
  rw [if_neg hlen, hat]

theorem State.kEmit_of_ok (h8 : 8 ≤ (iv.g rs2).toNat) (h9 : (iv.g rs2).toNat ≤ 9220)
    (hp : s.emitAt iv.ev.routine (iv.g rs1).toNat (iv.g rs2).toNat = .ok p) :
    s.kExec c { iv with left := iv.left - n } (.emit rd rs1 rs2) =
      if (!emitOk (s.kBytes c iv p (iv.g rs2).toNat)) = true then s.setInv c (iv.after rd 3 n)
      else if 16 ≤ iv.emits.length ∨ 16384 < iv.emitBytes + (iv.g rs2).toNat then s.setInv c (iv.after rd 2 n)
      else s.setInv c { iv.after rd 0 n with emits := iv.emits ++ [s.kBytes c iv p (iv.g rs2).toNat] } := by
  have hdef : s.kExec c { iv with left := iv.left - n } (.emit rd rs1 rs2) = s.kEmit c { iv with left := iv.left - n } rd rs1 rs2 := rfl
  have hat : s.emitAt ({ iv with left := iv.left - n } : Invocation).ev.routine (({ iv with left := iv.left - n } : Invocation).g rs1).toNat
      (({ iv with left := iv.left - n } : Invocation).g rs2).toNat = .ok p := hp
  have hlen : ¬((({ iv with left := iv.left - n } : Invocation).g rs2).toNat < 8 ∨ 9220 < (({ iv with left := iv.left - n } : Invocation).g rs2).toNat) := by
    have hg : ({ iv with left := iv.left - n } : Invocation).g rs2 = iv.g rs2 := rfl
    rw [hg]
    omega
  rw [hdef, State.kEmit]
  dsimp only
  rw [if_neg hlen, hat]
  dsimp only
  rw [← State.kSet_eq, ← State.kSet_eq, ← State.kSet_emits]
  rfl

theorem State.kTimer_eq (t : Fin 4) (periodic cancel : Bool) (ha : cancel = true ∨ (iv.g rs1).toNat ≠ 0) :
    s.kExec c { iv with left := iv.left - n } (.tarm rd rs1 rs2 t periodic cancel) = s.setInv c { iv.after rd 0 n with
      timers := iv.timers.filter (fun x => x.timer != t.val) ++
        [{ timer := t.val, delay := if cancel then 0 else (iv.g rs1).toNat, periodic := periodic, arg := (iv.g rs2).toNat }] } := by
  have hnot : ¬((!cancel) = true ∧ (iv.g rs1).toNat = 0) := fun h => by
    rcases ha with h1 | h1
    · rw [h1] at h
      exact absurd h.1 (by decide)
    · exact h1 h.2
  rw [← State.kSet_timers]
  exact if_neg hnot

theorem State.kTimer_of_zero (t : Fin 4) (periodic : Bool) (ha : (iv.g rs1).toNat = 0) :
    s.kExec c { iv with left := iv.left - n } (.tarm rd rs1 rs2 t periodic false) = s.setInv c (iv.after rd 3 n) := by
  rw [← State.kSet_eq]
  exact if_pos ⟨rfl, ha⟩

theorem State.kHset_eq :
    s.kExec c { iv with left := iv.left - n } (.hset rd rs1 rs2) =
      if 11 < (iv.g rs1).toNat ∨ 1000 < (iv.g rs2).toNat then s.setInv c (iv.after rd 3 n)
      else if (!(s.routine iv.ev.routine).heaterMask.testBit (iv.g rs1).toNat) = true then
        (s.rtRefused iv.ev.routine).kSet c { iv with left := iv.left - n } rd 4
      else s.setInv c { iv.after rd 0 n with
        hsets := iv.hsets.filter (fun x => x.1 != (iv.g rs1).toNat) ++ [((iv.g rs1).toNat, (iv.g rs2).toNat)] } := by
  rw [← State.kSet_eq, ← State.kSet_hsets]
  rfl

/-- CIPH: the core waits in the queue of the engine lock. -/
theorem State.kCiph_spec (h : s.inv c = some iv) :
    let t := s.kExec c { iv with left := iv.left - 4 } (.ciph rd rs1)
    t.inv c = some { iv with left := iv.left - 4, wait := .ciph, ciphRd := rd, ciphAt := (iv.g rs1).toNat } ∧
      (∀ k, k ≠ c.val → t.inv k = s.inv k) ∧
      t.sec = (if s.sec.owner = some c.val ∨ c.val ∈ s.sec.queue then s.sec else { s.sec with queue := s.sec.queue ++ [c.val] }) ∧
      t = { s with sec := t.sec, kpr := { s.kpr with run := t.kpr.run } } := by
  obtain ⟨hself, hothers, heq⟩ := State.coreTo_setInv h { iv with left := iv.left - 4, wait := .ciph, ciphRd := rd, ciphAt := (iv.g rs1).toNat }
  have hgo : s.kExec c { iv with left := iv.left - 4 } (.ciph rd rs1) =
      (s.setInv c { iv with left := iv.left - 4, wait := .ciph, ciphRd := rd, ciphAt := (iv.g rs1).toNat }).lockRequest c := rfl
  rw [hgo]
  generalize s.setInv c { iv with left := iv.left - 4, wait := .ciph, ciphRd := rd, ciphAt := (iv.g rs1).toNat } = u at hself hothers heq ⊢
  have hsec : u.sec = s.sec := by rw [heq]
  rw [State.lockRequest, hsec]
  split
  · exact ⟨hself, hothers, hsec, by rw [heq]⟩
  · refine ⟨hself, hothers, rfl, ?_⟩
    rw [heq]
    rfl

end

/-- Settles O42: each instruction by the cases of its table. -/
theorem keeperTables : Obligations.KeeperTables := by
  unfold Obligations.KeeperTables
  intro s c iv rd rs1 rs2
  have hhi : (iv.g rs1).toNat < 2 ^ 32 := (iv.g rs1).isLt
  refine ⟨fun e he => ⟨gives_kAbort (i := .sget rd rs1 rs2) rfl rfl (State.kSget_of_error he), gives_kAbort (i := .sput rd rs1 rs2) rfl rfl (State.kSput_of_error he)⟩,
    fun p hp => ⟨fun h => ?_, fun h => ?_⟩, fun type sr h => ?_, fun h => ⟨fun hb => ?_, fun e h8 h9 he => ?_, fun p h8 h9 hp hok => ?_,
      fun p h8 h9 hp hok => ⟨fun h16 hbytes => ?_, fun hfull => ?_⟩⟩,
    fun n per => ⟨fun h => ⟨fun ha => ?_, fun ha => ?_⟩, fun h => ?_⟩, fun h => ⟨fun h11 h1000 hmask => ?_, fun hb => ?_, fun h11 h1000 hmask => ?_⟩,
    fun h => gives_kExec (i := .ciph rd rs1) rfl h (State.kCiph_spec h.1)⟩
  · have hgo := State.kSget_of_ok (c := c) (rd := rd) (rs1 := rs1) (n := 2) hp
    refine ⟨fun ha hwin => ?_, fun ha hwin => ?_, fun ha ha' hwin => ?_, fun ha ha' hwin => ?_, fun ha => ?_⟩
    · rw [if_neg (by omega), if_neg (by omega)] at hgo
      exact gives_kExec (i := .sget rd rs1 rs2) rfl h (hgo ▸ State.coreStores_kPuts h.1 hwin { iv with left := iv.left - 2 } _ rfl _)
    · rw [if_neg (by omega), if_neg (by omega)] at hgo
      exact gives_kExec (i := .sget rd rs1 rs2) rfl h (hgo ▸ State.coreEmits_kPuts h.1 hwin { iv with left := iv.left - 2 } _ _)
    · rw [if_neg (by omega), if_pos ha] at hgo
      exact gives_kExec (i := .sget rd rs1 rs2) rfl h (hgo ▸ State.coreStores_kPuts (s := { s with free := s.free + 1 }) h.1 hwin
        { iv with left := iv.left - 2 } _ rfl _)
    · rw [if_neg (by omega), if_pos ha] at hgo
      exact gives_kExec (i := .sget rd rs1 rs2) rfl h (hgo ▸ State.coreEmits_kPuts (s := { s with free := s.free + 1 }) h.1 hwin
        { iv with left := iv.left - 2 } _ _)
    · rw [if_pos ha] at hgo
      exact gives_refused (i := .sget rd rs1 rs2) rfl rfl hgo h
  · have hgo := State.kSput_of_ok (c := c) (rd := rd) (rs1 := rs1) (n := 2) hp
    have hmay : (iv.g rs1).toNat < 250000 → s.maySput iv.ev.routine (iv.g rs1).toNat = true →
        ¬(250000 ≤ (iv.g rs1).toNat ∨ (!s.maySput iv.ev.routine (iv.g rs1).toNat) = true) := fun ha hm => by
      rw [hm]
      exact not_or.2 ⟨by omega, by decide⟩
    have hany : (iv.sputs.any fun x => x.index == (iv.g rs1).toNat) = true ↔ ∃ x ∈ iv.sputs, x.index = (iv.g rs1).toNat := by
      simp only [List.any_eq_true, beq_iff_eq]
    refine ⟨fun ha hm hnew => ⟨fun hroom => ?_, fun hfull => ?_⟩, fun ha hm hold => ?_, fun hdeny => ?_⟩
    · rw [if_neg (hmay ha hm), if_neg (mt hany.1 fun ⟨x, hx, hi⟩ => hnew x hx hi), if_neg (by omega)] at hgo
      exact gives_setInv (i := .sput rd rs1 rs2) rfl rfl hgo h
    · rw [if_neg (hmay ha hm), if_neg (mt hany.1 fun ⟨x, hx, hi⟩ => hnew x hx hi), if_pos hfull] at hgo
      exact gives_setInv (i := .sput rd rs1 rs2) rfl rfl hgo h
    · rw [if_neg (hmay ha hm), if_pos (hany.2 hold)] at hgo
      exact gives_setInv (i := .sput rd rs1 rs2) rfl rfl hgo h
    · rw [if_pos (hdeny.imp_right fun hm => by rw [hm]; rfl)] at hgo
      exact gives_refused (i := .sput rd rs1 rs2) rfl rfl hgo h
  · have hout : ∀ {w st : Nat}, s.lookup type.val (iv.g rs1).toNat (iv.g rs2).toNat = (w, st) →
        Gives (.tlk c rd rs1 rs2 type sr) s (fun t => s.coreTo t c
          (if rd = sr then iv.after rd (BitVec.ofNat 32 (if Config.tlkStatusStands then st else w)) 2
            else Invocation.after (iv.setG rd (BitVec.ofNat 32 w)) sr (BitVec.ofNat 32 st) 2)) := fun hl =>
      gives_setInv (i := .tlk rd rs1 rs2 type sr) rfl rfl (State.kTlk_eq hl) h
    have hbit : ∀ n : Nat, bit 0 n = decide (n % 2 = 1) := fun n => Nat.testBit_zero n
    refine ⟨fun ht => hout ?_, fun ht hb => hout ?_, fun ht hb hw => hout ?_, fun ht hb hw => hout ?_, fun h2 h6 hne => hout (State.lookup_mistyped hhi h2 h6 hne),
      fun h1 h6 hnone => hout (State.lookup_trie_none h1 h6 hnone), fun x h1 h6 htype hx => hout (State.lookup_trie_some hhi h1 h6 htype hx)⟩
    · rw [ht]
      exact State.lookup_reserved _ _
    · rw [ht]
      exact State.lookup_direct_outside hb
    · rw [ht, State.lookup_direct hb, hbit]
      exact if_pos (decide_eq_true hw)
    · rw [ht, State.lookup_direct hb, hbit]
      exact if_neg (by rw [hw]; decide)
  · exact gives_setInv (i := .emit rd rs1 rs2) rfl rfl (State.kEmit_of_bad_length hb) h
  · exact gives_kAbort (i := .emit rd rs1 rs2) rfl rfl (State.kEmit_of_error h8 h9 he) h
  · exact gives_setInv (i := .emit rd rs1 rs2) rfl rfl ((State.kEmit_of_ok h8 h9 hp).trans (if_pos (by rw [hok]; rfl))) h
  · exact gives_setInv (i := .emit rd rs1 rs2) rfl rfl
      ((State.kEmit_of_ok h8 h9 hp).trans ((if_neg (by rw [hok]; decide)).trans (if_neg (by omega)))) h
  · exact gives_setInv (i := .emit rd rs1 rs2) rfl rfl ((State.kEmit_of_ok h8 h9 hp).trans ((if_neg (by rw [hok]; decide)).trans (if_pos hfull))) h
  · exact gives_setInv (i := .tarm rd rs1 rs2 n per false) rfl rfl (State.kTimer_eq n per false (.inr ha)) h
  · exact gives_setInv (i := .tarm rd rs1 rs2 n per false) rfl rfl (State.kTimer_of_zero n per ha) h
  · exact gives_setInv (i := .tarm rd rs1 rs2 n per true) rfl rfl (State.kTimer_eq n per true (.inl rfl)) h
  · exact gives_setInv (i := .hset rd rs1 rs2) rfl rfl (State.kHset_eq.trans ((if_neg (by omega)).trans (if_neg (by rw [hmask]; decide)))) h
  · exact gives_setInv (i := .hset rd rs1 rs2) rfl rfl (State.kHset_eq.trans (if_pos hb)) h
  · exact gives_refused (i := .hset rd rs1 rs2) rfl rfl (State.kHset_eq.trans ((if_neg (by omega)).trans (if_pos (by rw [hmask]; rfl)))) h

end Sys2Proof.Machine

/-! Bit fields, CRC and scaling of a keeper core (R254 to R257). -/

namespace Sys2Proof.Machine

/-! The bits of a field (R254) -/

/-- The place of a bit when each byte is read from its other end. -/
def mirror (b : Nat) : Nat := b / 8 * 8 + (7 - b % 8)

theorem mirror_mirror (b : Nat) : mirror (mirror b) = b := by
  unfold mirror
  omega

theorem mirror_div (b : Nat) : mirror b / 8 = b / 8 := by
  unfold mirror
  omega

/-- Against the field's order the next bit is the next one of the mirrored count. -/
theorem mirror_next (b : Nat) : (if b % 8 = 0 then b + 15 else b - 1) = mirror (mirror b + 1) := by
  unfold mirror
  split <;> omega

/-- Where bit `j` of a field of `n + 1` bits stands. -/
def fieldBit (start n : Nat) (be : Bool) (j : Nat) : Nat := if be then mirror (mirror start + (n - j)) else start + j

theorem foldl_fieldBits (start n : Nat) :
    (List.range n).foldl (fun (l : List Nat) _ => match l with
      | [] => l
      | b :: _ => (if b % 8 = 0 then b + 15 else b - 1) :: l) [start] = (List.range (n + 1)).map (fieldBit start n true) := by
  induction n with
  | zero => simp [fieldBit, mirror_mirror]
  | succ n ih =>
    have hshift : ∀ m, (List.range m).map (fieldBit start n true) = (List.range m).map (fieldBit start (n + 1) true ∘ Nat.succ) := fun m => by
      refine List.map_congr_left fun j _ => ?_
      simp only [fieldBit, if_true, Function.comp_apply]
      congr 2
      omega
    have hlonger : (List.range (n + 1 + 1)).map (fieldBit start (n + 1) true) =
        fieldBit start (n + 1) true 0 :: (List.range (n + 1)).map (fieldBit start n true) := by
      rw [List.range_succ_eq_map (n := n + 1), List.map_cons, List.map_map, ← hshift]
    have hhead : (if fieldBit start n true 0 % 8 = 0 then fieldBit start n true 0 + 15 else fieldBit start n true 0 - 1) =
        fieldBit start (n + 1) true 0 := by
      rw [mirror_next]
      simp only [fieldBit, if_true, mirror_mirror, Nat.sub_zero, Nat.add_assoc]
    rw [List.range_succ, List.foldl_append, ih, hlonger, List.range_succ_eq_map (n := n), List.map_cons, List.foldl_cons, List.foldl_nil]
    dsimp only
    rw [hhead]

theorem fieldBits_eq (start n : Nat) (be : Bool) : fieldBits start (n + 1) be = (List.range (n + 1)).map (fieldBit start n be) := by
  cases be with
  | false => rfl
  | true => exact foldl_fieldBits start n

theorem length_fieldBits (start n : Nat) (be : Bool) : (fieldBits start (n + 1) be).length = n + 1 := by
  rw [fieldBits_eq, List.length_map, List.length_range]

theorem getD_fieldBits (start n : Nat) (be : Bool) {j : Nat} (hj : j ≤ n) : (fieldBits start (n + 1) be).getD j 0 = fieldBit start n be j := by
  rw [fieldBits_eq, List.getD_eq_getElem?_getD, List.getElem?_map, List.getElem?_range (by omega)]
  rfl

theorem fieldBit_inj (start n : Nat) (be : Bool) {i j : Nat} (hi : i ≤ n) (hj : j ≤ n) (h : fieldBit start n be i = fieldBit start n be j) : i = j := by
  cases be with
  | false =>
    simp only [fieldBit, Bool.false_eq_true, if_false] at h
    omega
  | true =>
    have hm := congrArg mirror h
    simp only [fieldBit, if_true, mirror_mirror] at hm
    omega

theorem nodup_fieldBits (start n : Nat) (be : Bool) : (fieldBits start (n + 1) be).Nodup := by
  rw [fieldBits_eq]
  refine List.Nodup.map_on (fun i hi j hj h => ?_) List.nodup_range
  rw [List.mem_range] at hi hj
  exact fieldBit_inj start n be (by omega) (by omega) h

theorem fieldBit_div (start n : Nat) (be : Bool) (j : Nat) : fieldBit start n be j / 8 ≤ (start + 7 + n + j) / 8 := by
  cases be with
  | false =>
    simp only [fieldBit, Bool.false_eq_true, if_false]
    omega
  | true =>
    simp only [fieldBit, if_true, mirror_div]
    unfold mirror
    omega

theorem nodup_eraseDups (l : List Nat) : l.eraseDups.Nodup := by
  match l with
  | [] => exact List.nodup_nil
  | a :: l =>
    rw [List.eraseDups_cons, List.nodup_cons, List.mem_eraseDups, List.mem_filter]
    exact ⟨fun h => by simp at h, nodup_eraseDups _⟩
termination_by l.length
decreasing_by exact Nat.lt_succ_of_le (List.length_filter_le _ _)

theorem mem_fieldBytes {bs : List Nat} {o : Nat} : o ∈ fieldBytes bs ↔ ∃ b ∈ bs, b / 8 = o := by
  simp only [fieldBytes, List.mem_eraseDups, List.mem_map]

theorem fieldBytes_lt {start n : Nat} {be : Bool} (hs : start < 512) (hn : n < 32) {o : Nat} (ho : o ∈ fieldBytes (fieldBits start (n + 1) be)) :
    o < 1024 := by
  obtain ⟨b, hb, rfl⟩ := mem_fieldBytes.1 ho
  rw [fieldBits_eq, List.mem_map] at hb
  obtain ⟨j, hj, rfl⟩ := hb
  rw [List.mem_range] at hj
  have := fieldBit_div start n be j
  omega

/-! Extraction -/

/-- The number whose bits, from the lowest on, are `p` of each element. -/
def bitsNat (p : Nat → Bool) : List Nat → Nat
  | [] => 0
  | b :: l => Nat.bit (p b) (bitsNat p l)

theorem testBit_bitsNat (p : Nat → Bool) (l : List Nat) (j : Nat) : (bitsNat p l).testBit j = if j < l.length then p (l.getD j 0) else false := by
  induction l generalizing j with
  | nil => simp [bitsNat]
  | cons b l ih =>
    cases j with
    | zero => simp [bitsNat]
    | succ j => simp [bitsNat, Nat.testBit_bit_succ, ih]

theorem bitsNat_lt (p : Nat → Bool) (l : List Nat) : bitsNat p l < 2 ^ l.length :=
  Nat.lt_pow_two_of_testBit _ fun i hi => by rw [testBit_bitsNat, if_neg (by omega)]

theorem sum_zipIdx_bits (p : Nat → Bool) (l : List Nat) (n : Nat) :
    ((l.zipIdx n).map (fun (b, k) => boolNat (p b) * 2 ^ k)).sum = 2 ^ n * bitsNat p l := by
  induction l generalizing n with
  | nil => simp [bitsNat]
  | cons b l ih =>
    have hb : boolNat (p b) = (p b).toNat := by cases p b <;> rfl
    rw [List.zipIdx_cons, List.map_cons, List.sum_cons, ih (n + 1), bitsNat, Nat.bit_val, Nat.pow_succ]
    dsimp only
    rw [hb]
    ring

section
variable {s : State} {c : Nat} {iv : Invocation} {base : Nat}

/-- A bit of the view, by its number from the base on. -/
def State.viewBit (s : State) (c : Nat) (iv : Invocation) (base b : Nat) : Bool := (s.viewByte c iv (addr32 base (b / 8))).toNat.testBit (b % 8)

theorem State.fieldGet_eq (bs : List Nat) : s.fieldGet c iv base bs = bitsNat (s.viewBit c iv base) bs := by
  have h := sum_zipIdx_bits (s.viewBit c iv base) bs 0
  rw [Nat.pow_zero, Nat.one_mul] at h
  exact h

end

theorem signed_eq_toInt (n : Nat) {w : Nat} (hw : 0 < w) : signed w n = (BitVec.ofNat w n).toInt := by
  obtain ⟨k, rfl⟩ : ∃ k, w = k + 1 := ⟨w - 1, by omega⟩
  have hpow : 2 ^ (k + 1) = 2 * 2 ^ k := by rw [Nat.pow_succ, Nat.mul_comm]
  rw [signed, BitVec.toInt_eq_toNat_cond, BitVec.toNat_ofNat, Nat.add_sub_cancel]
  by_cases h : n % 2 ^ (k + 1) < 2 ^ k
  · rw [if_pos h, if_pos (by omega)]
  · rw [if_neg h, if_neg (by omega)]

/-- The word that BFX gives, bit by bit. -/
theorem testBit_extracted (p : Nat → Bool) {l : List Nat} {n : Nat} (hlen : l.length = n + 1) (sign : Bool) {j : Nat} (hj : j < 32) :
    (if sign then BitVec.ofInt 32 (signed (n + 1) (bitsNat p l)) else BitVec.ofNat 32 (bitsNat p l)).toNat.testBit j =
      if j ≤ n ∨ sign = true then p (l.getD (min j n) 0) else false := by
  have hlt := bitsNat_lt p l
  rw [hlen] at hlt
  cases sign with
  | false =>
    simp only [Bool.false_eq_true, if_false, or_false]
    rw [BitVec.toNat_ofNat, Nat.testBit_mod_two_pow, testBit_bitsNat, hlen]
    simp only [hj, decide_true, Bool.true_and]
    by_cases h : j ≤ n
    · rw [if_pos (by omega), if_pos h, Nat.min_eq_left h]
    · rw [if_neg (by omega), if_neg h]
  | true =>
    have hword : BitVec.ofInt 32 (signed (n + 1) (bitsNat p l)) = (BitVec.ofNat (n + 1) (bitsNat p l)).signExtend 32 := by
      rw [signed_eq_toInt _ (by omega)]
      rfl
    have hbit : ∀ i, i ≤ n → (BitVec.ofNat (n + 1) (bitsNat p l)).getLsbD i = p (l.getD i 0) := fun i hi => by
      rw [BitVec.getLsbD_ofNat, testBit_bitsNat, hlen, if_pos (by omega)]
      simp only [show i < n + 1 by omega, decide_true, Bool.true_and]
    simp only [if_true, or_true]
    rw [hword, BitVec.testBit_toNat, BitVec.getLsbD_signExtend]
    simp only [hj, decide_true, Bool.true_and]
    by_cases h : j ≤ n
    · rw [if_pos (by omega), hbit j h, Nat.min_eq_left h]
    · rw [if_neg (by omega), BitVec.msb_eq_getLsbD_last, Nat.add_sub_cancel, hbit n (Nat.le_refl n), Nat.min_eq_right (by omega)]

/-! Insertion -/

/-- Setting a bit changes the number above it by one at most, and no higher bit. -/
theorem withBit_eq (n i : Nat) (b : Bool) :
    ∃ a, a / 2 = n / 2 ^ i / 2 ∧ a.testBit 0 = b ∧ withBit n i b = 2 ^ i * a + n % 2 ^ i := by
  have hn : 2 ^ i * (n / 2 ^ i) + n % 2 ^ i = n := Nat.div_add_mod n (2 ^ i)
  have hbit : n.testBit i = decide (n / 2 ^ i % 2 = 1) := Nat.testBit_eq_decide_div_mod_eq
  have hmul : ∀ a, 2 ^ i * (a + 1) = 2 ^ i * a + 2 ^ i := fun a => Nat.mul_succ (2 ^ i) a
  generalize n / 2 ^ i = a at hn hbit
  rw [withBit]
  by_cases hb : n.testBit i = b
  · rw [if_pos hb]
    exact ⟨a, rfl, by rw [← hb, hbit, Nat.testBit_zero], hn.symm⟩
  · rw [if_neg hb]
    cases b with
    | true =>
      have ha : a % 2 ≠ 1 := fun h => hb (by rw [hbit]; exact decide_eq_true h)
      refine ⟨a + 1, by omega, by rw [Nat.testBit_zero]; exact decide_eq_true (by omega), ?_⟩
      rw [if_pos rfl, hmul]
      omega
    | false =>
      have ha : a % 2 = 1 := by
        rw [hbit] at hb
        exact of_not_not fun h => hb (decide_eq_false h)
      obtain ⟨k, rfl⟩ : ∃ k, a = k + 1 := ⟨a - 1, by omega⟩
      refine ⟨k, by omega, by rw [Nat.testBit_zero]; exact decide_eq_false (by omega), ?_⟩
      rw [hmul] at hn
      rw [if_neg (by decide)]
      omega

theorem testBit_withBit (n i : Nat) (b : Bool) (j : Nat) : (withBit n i b).testBit j = if j = i then b else n.testBit j := by
  obtain ⟨a, hhalf, hzero, heq⟩ := withBit_eq n i b
  have hr : n % 2 ^ i < 2 ^ i := Nat.mod_lt _ (Nat.two_pow_pos i)
  have hn : n.testBit j = (2 ^ i * (n / 2 ^ i) + n % 2 ^ i).testBit j := by rw [Nat.div_add_mod]
  rw [heq, hn, Nat.testBit_two_pow_mul_add _ hr, Nat.testBit_two_pow_mul_add _ hr]
  by_cases hj : j = i
  · rw [if_pos hj, hj, if_neg (Nat.lt_irrefl i), Nat.sub_self, hzero]
  · rw [if_neg hj]
    by_cases hlt : j < i
    · rw [if_pos hlt, if_pos hlt]
    · obtain ⟨k, hk⟩ : ∃ k, j - i = k + 1 := ⟨j - i - 1, by omega⟩
      rw [if_neg hlt, if_neg hlt, hk, Nat.testBit_succ, Nat.testBit_succ, hhalf]

theorem foldl_withBit_of_not_mem (v : Nat) {i : Nat} (l : List (Nat × Nat)) (m : Nat) (h : ∀ e ∈ l, e.1 % 8 ≠ i) :
    (l.foldl (fun m (b, k) => withBit m (b % 8) (v.testBit k)) m).testBit i = m.testBit i := by
  induction l generalizing m with
  | nil => rfl
  | cons e l ih =>
    rw [List.foldl_cons, ih _ fun e he => h e (List.mem_cons_of_mem _ he)]
    exact (testBit_withBit _ _ _ _).trans (if_neg (Ne.symm (h e List.mem_cons_self)))

theorem foldl_withBit_of_mem (v : Nat) {e : Nat × Nat} (l : List (Nat × Nat)) (m : Nat) (hl : l.Pairwise (fun x y => x.1 % 8 ≠ y.1 % 8)) (he : e ∈ l) :
    (l.foldl (fun m (b, k) => withBit m (b % 8) (v.testBit k)) m).testBit (e.1 % 8) = v.testBit e.2 := by
  induction l generalizing m with
  | nil => exact absurd he List.not_mem_nil
  | cons x l ih =>
    obtain ⟨hx, hl⟩ := List.pairwise_cons.1 hl
    rw [List.foldl_cons]
    rcases List.mem_cons.1 he with rfl | hin
    · rw [foldl_withBit_of_not_mem v l _ fun y hy => Ne.symm (hx y hy)]
      exact (testBit_withBit _ _ _ _).trans (if_pos rfl)
    · exact ih _ hl hin

section
variable {bs : List Nat} {o v : Nat} {old : Byte}

theorem insertBits_testBit {i : Nat} (hi : i < 8) : (insertBits bs o v old).toNat.testBit i =
    ((bs.zipIdx.filter (fun (b, _) => b / 8 == o)).foldl (fun m (b, k) => withBit m (b % 8) (v.testBit k)) old.toNat).testBit i := by
  rw [insertBits, BitVec.toNat_ofNat, Nat.testBit_mod_two_pow]
  simp only [hi, decide_true, Bool.true_and]

/-- A bit outside the field is kept. -/
theorem insertBits_of_not_mem {i : Nat} (hi : i < 8) (h : 8 * o + i ∉ bs) : (insertBits bs o v old).toNat.testBit i = old.toNat.testBit i := by
  rw [insertBits_testBit hi]
  refine foldl_withBit_of_not_mem v _ _ fun e he hmod => h ?_
  obtain ⟨hin, hdiv⟩ := List.mem_filter.1 he
  have hb : e.1 = 8 * o + i := by
    have : e.1 / 8 = o := by simpa using hdiv
    omega
  rw [← hb]
  exact List.mem_of_getElem? (List.mem_zipIdx_iff_getElem?.1 hin)

/-- A bit of the field is the word's. -/
theorem insertBits_of_mem (hnodup : bs.Nodup) {j : Nat} (hj : j < bs.length) :
    (insertBits bs (bs.getD j 0 / 8) v old).toNat.testBit (bs.getD j 0 % 8) = v.testBit j := by
  rw [insertBits_testBit (by omega)]
  have hmem : (bs.getD j 0, j) ∈ bs.zipIdx := by
    rw [List.mem_zipIdx_iff_getElem?, List.getD_eq_getElem _ _ hj]
    exact List.getElem?_eq_getElem hj
  have hpair : (bs.zipIdx.filter (fun (b, _) => b / 8 == bs.getD j 0 / 8)).Pairwise (fun x y => x.1 % 8 ≠ y.1 % 8) := by
    have hne : bs.zipIdx.Pairwise (fun x y => x.1 ≠ y.1) := by
      have h : (bs.zipIdx.map Prod.fst).Nodup := by rwa [List.zipIdx_map_fst]
      exact List.pairwise_map.1 h
    refine (hne.filter _).imp_of_mem fun {x y} hx hy hxy hmod => hxy ?_
    have h1 : x.1 / 8 = bs.getD j 0 / 8 := by simpa using (List.mem_filter.1 hx).2
    have h2 : y.1 / 8 = bs.getD j 0 / 8 := by simpa using (List.mem_filter.1 hy).2
    omega
  exact foldl_withBit_of_mem v _ _ hpair (List.mem_filter.2 ⟨hmem, by simp⟩)

end

/-! Bytes of a window, one by one -/

section
variable {s t : State} {c : Nat} {iv : Invocation} {p q : KPlace} {r base : Nat}

/-- A data window or the emit buffer: what a routine may write. -/
def isDataWin (w : KWin) : Prop := w = .priv ∨ w = .shared ∨ w = .emit

theorem State.kAddr_off (hwin : p.win = .priv ∨ p.win = .shared) (h : q.win = p.win) : s.kAddr c r p + q.off = s.kAddr c r q + p.off := by
  rcases hwin with hp | hp
  · simp only [State.kAddr, hp, h]
    omega
  · simp only [State.kAddr, hp, h]
    split <;> omega

/-- A byte put at one place of a window is read there, and no other byte of the window changes. -/
theorem State.kByte_kPut (hp : isDataWin p.win) (hq : q.win = p.win) (s : State) (b : Byte) :
    (s.kPut c iv p b).kByte c iv q = if q.off = p.off then b else s.kByte c iv q := by
  have hdata : p.win = .priv ∨ p.win = .shared → (s.kPut c iv p b).kByte c iv q = if q.off = p.off then b else s.kByte c iv q := fun hwin => by
    have hbyte : ∀ u : State, u.kByte c iv q = u.mb (u.kAddr c iv.ev.routine q) := fun u => by
      rcases hwin with h | h <;> simp [State.kByte, hq, h]
    have hput : s.kPut c iv p b = s.mwb (s.kAddr c iv.ev.routine p) b := by
      rcases hwin with h | h <;> simp [State.kPut, h]
    have hsame : (s.mwb (s.kAddr c iv.ev.routine p) b).kAddr c iv.ev.routine q = s.kAddr c iv.ev.routine q := rfl
    have hoff := State.kAddr_off (s := s) (c := c) (r := iv.ev.routine) hwin hq
    rw [hput, hbyte, hsame, State.mb_mwb, hbyte]
    by_cases h : q.off = p.off
    · rw [if_pos h, if_pos (by omega)]
    · rw [if_neg h, if_neg (by omega)]
  rcases hp with h | h | h
  · exact hdata (.inl h)
  · exact hdata (.inr h)
  · have hput : (s.kPut c iv p b).kpr.emitBuf = tset 0 s.kpr.emitBuf (c * 16384 + p.off) b := by simp [State.kPut, h]
    have hbyte : ∀ u : State, u.kByte c iv q = tget 0 u.kpr.emitBuf (c * 16384 + q.off) := fun u => by simp [State.kByte, hq, h]
    rw [hbyte, hput, tget_tset 0 0 _ _ _ _ (fun _ => rfl), hbyte]
    by_cases ho : q.off = p.off
    · rw [if_pos ho, if_pos (by omega)]
    · rw [if_neg ho, if_neg (by omega)]

/-- Where a plain place of a window stands in the routine's addresses. -/
theorem State.place_plain {a : Nat} (h : s.place r a = some p) (hplain : p.alia = .plain) :
    a / 2 ^ 26 % 4 = 0 ∧ (p.win = .priv → a / 2 ^ 28 = 1 ∧ p.off = a % 2 ^ 26) ∧ (p.win = .shared → a / 2 ^ 28 = 2 ∧ p.off = a % 2 ^ 26) ∧
      (p.win = .emit → a / 2 ^ 28 = 3 ∧ p.off + 0x10000 = a % 2 ^ 26) := by
  rw [State.place] at h
  generalize ha : a / 2 ^ 26 % 4 = k at h
  generalize hw : a / 2 ^ 28 = w at h
  generalize ho : a % 2 ^ 26 = o at h
  have hk : k = 0 := by
    split at h
    · next al win off hal hwin =>
      split at h
      · cases h
        have hal' : al = .plain := hplain
        rw [hal'] at hal
        match k, hal with
        | 0, _ => rfl
        | 1, hal => simp at hal
        | 2, hal => simp at hal
        | n + 3, hal => simp at hal
      · cases h
    · cases h
  split at h
  · next al win off hal hwin =>
    split at h
    · cases h
      match w, hwin with
      | 0, hwin => cases hwin; exact ⟨hk, by simp, by simp, by simp⟩
      | 1, hwin => cases hwin; exact ⟨hk, by simp, by simp, by simp⟩
      | 2, hwin => cases hwin; exact ⟨hk, by simp, by simp, by simp⟩
      | 3, hwin =>
        have hframe : (if o < 0x10000 then some (KWin.frame, o) else some (KWin.emit, o - 0x10000)) = some (win, off) := hwin
        split at hframe
        · cases hframe; exact ⟨hk, by simp, by simp, by simp⟩
        · cases hframe
          exact ⟨hk, by simp, by simp, fun _ => ⟨rfl, Nat.sub_add_cancel (by omega)⟩⟩
      | n + 4, hwin => simp at hwin
    · cases h
  · cases h

/-- Different addresses of one window are different places of it. -/
theorem State.place_inj {a b : Nat} (hp : s.place r a = some p) (hq : s.place r b = some q) (hpa : p.alia = .plain) (hqa : q.alia = .plain)
    (hwin : isDataWin p.win) (hsame : q.win = p.win) (hoff : q.off = p.off) : a = b := by
  obtain ⟨ha, hpriv, hshared, hemit⟩ := State.place_plain hp hpa
  obtain ⟨hb, hpriv', hshared', hemit'⟩ := State.place_plain hq hqa
  rcases hwin with h | h | h
  · obtain ⟨h1, h2⟩ := hpriv h
    obtain ⟨h3, h4⟩ := hpriv' (hsame.trans h)
    omega
  · obtain ⟨h1, h2⟩ := hshared h
    obtain ⟨h3, h4⟩ := hshared' (hsame.trans h)
    omega
  · obtain ⟨h1, h2⟩ := hemit h
    obtain ⟨h3, h4⟩ := hemit' (hsame.trans h)
    omega

/-! The field's bytes, one after another -/

/-- Nothing has changed but bytes of memory and of the emit buffers. -/
def State.bytesOnly (s t : State) : Prop := t = { s with mem := t.mem, kpr := { s.kpr with emitBuf := t.kpr.emitBuf } }

theorem State.bytesOnly.place_eq (h : s.bytesOnly t) (r a : Nat) : t.place r a = s.place r a := by
  rw [h]
  rfl

theorem State.bytesOnly.kAddr_eq (h : s.bytesOnly t) (c r : Nat) (p : KPlace) : t.kAddr c r p = s.kAddr c r p := by
  rw [h]
  rfl

/-- One byte of the field takes its bits. -/
def State.fieldPut (c : Nat) (iv : Invocation) (base : Nat) (bs : List Nat) (v : Nat) (t : State) (o : Nat) : State :=
  match t.place iv.ev.routine (addr32 base o) with
  | some p => t.kPut c iv p (insertBits bs o v (t.kByte c iv p))
  | none => t

/-- What the bytes of a field are once those of a list have taken their bits. -/
structure State.FieldDone (s t : State) (c : Nat) (iv : Invocation) (base : Nat) (bs : List Nat) (v : Nat) (w : KWin) (done : List Nat) : Prop where
  only : s.bytesOnly t
  mem : w = .emit → t.mem = s.mem
  buf : w ≠ .emit → t.kpr.emitBuf = s.kpr.emitBuf
  others_buf : ∀ x, (∀ o ∈ fieldBytes bs, ∀ p, s.place iv.ev.routine (addr32 base o) = some p → 16384 * c + p.off ≠ x) →
    tget 0 t.kpr.emitBuf x = tget 0 s.kpr.emitBuf x
  others_mem : ∀ x, (∀ o ∈ fieldBytes bs, ∀ p, s.place iv.ev.routine (addr32 base o) = some p → s.kAddr c iv.ev.routine p ≠ x) → t.mb x = s.mb x
  bytes : ∀ o ∈ fieldBytes bs, t.viewByte c iv (addr32 base o) =
    if o ∈ done then insertBits bs o v (s.viewByte c iv (addr32 base o)) else s.viewByte c iv (addr32 base o)

theorem State.FieldDone.start (s : State) (c : Nat) (iv : Invocation) (base : Nat) (bs : List Nat) (v : Nat) (w : KWin) :
    s.FieldDone s c iv base bs v w [] where
  only := rfl
  mem _ := rfl
  buf _ := rfl
  others_buf _ _ := rfl
  others_mem _ _ := rfl
  bytes _ _ := by rw [if_neg List.not_mem_nil]

theorem State.viewByte_of_place {a : Nat} (h : s.place iv.ev.routine a = some p) : s.viewByte c iv a = s.kByte c iv p := by
  rw [State.viewByte, h]

theorem addr32_inj {o o' : Nat} (ho : o < 1024) (ho' : o' < 1024) (h : addr32 base o = addr32 base o') : o = o' := by
  simp only [addr32] at h
  omega

/-- Putting a byte changes that byte of memory or of the core's emit buffer alone. -/
theorem State.kPut_spec (hwin : isDataWin p.win) (t : State) (b : Byte) :
    t.bytesOnly (t.kPut c iv p b) ∧ (p.win = .emit → (t.kPut c iv p b).mem = t.mem) ∧ (p.win ≠ .emit → (t.kPut c iv p b).kpr.emitBuf = t.kpr.emitBuf) ∧
      (∀ x, 16384 * c + p.off ≠ x → tget 0 (t.kPut c iv p b).kpr.emitBuf x = tget 0 t.kpr.emitBuf x) ∧
      ∀ x, t.kAddr c iv.ev.routine p ≠ x → (t.kPut c iv p b).mb x = t.mb x := by
  by_cases h : p.win = .emit
  · have hput : t.kPut c iv p b = { t with kpr := { t.kpr with emitBuf := tset 0 t.kpr.emitBuf (c * 16384 + p.off) b } } := by simp [State.kPut, h]
    rw [hput]
    refine ⟨rfl, fun _ => rfl, fun hne => absurd h hne, fun x hx => ?_, fun _ _ => rfl⟩
    exact tget_tset_ne 0 _ _ (by omega)
  · have hput : t.kPut c iv p b = t.mwb (t.kAddr c iv.ev.routine p) b := by
      rcases hwin with h' | h' | h'
      · simp [State.kPut, h']
      · simp [State.kPut, h']
      · exact absurd h' h
    rw [hput]
    exact ⟨rfl, fun he => absurd he h, fun _ => rfl, fun _ _ => rfl, fun x hx => by rw [State.mb_mwb, if_neg (Ne.symm hx)]⟩

/-- One more byte of the field. -/
theorem State.FieldDone.step {bs : List Nat} {v : Nat} {w : KWin} {done : List Nat} (hw : isDataWin w) (hlt : ∀ o ∈ fieldBytes bs, o < 1024)
    (hplaces : ∀ o ∈ fieldBytes bs, ∃ p, s.place iv.ev.routine (addr32 base o) = some p ∧ p.win = w ∧ p.alia = .plain)
    (h : s.FieldDone t c iv base bs v w done) {o : Nat} (ho : o ∈ fieldBytes bs) (hnew : o ∉ done) :
    s.FieldDone (State.fieldPut c iv base bs v t o) c iv base bs v w (o :: done) := by
  obtain ⟨p, hp, hpw, hpa⟩ := hplaces o ho
  have hplace : t.place iv.ev.routine (addr32 base o) = some p := (h.only.place_eq _ _).trans hp
  have hwin : isDataWin p.win := hpw.symm ▸ hw
  have hold : t.kByte c iv p = s.viewByte c iv (addr32 base o) := by
    have hb := h.bytes o ho
    rw [if_neg hnew, State.viewByte_of_place hplace] at hb
    exact hb
  have hput : State.fieldPut c iv base bs v t o = t.kPut c iv p (insertBits bs o v (s.viewByte c iv (addr32 base o))) := by
    rw [State.fieldPut, hplace]
    dsimp only
    rw [hold]
  rw [hput]
  obtain ⟨honly, hmem, hbuf, hkeepbuf, hkeepmem⟩ := State.kPut_spec (c := c) (iv := iv) hwin t (insertBits bs o v (s.viewByte c iv (addr32 base o)))
  have hread : ∀ q : KPlace, q.win = p.win → (t.kPut c iv p (insertBits bs o v (s.viewByte c iv (addr32 base o)))).kByte c iv q =
      if q.off = p.off then insertBits bs o v (s.viewByte c iv (addr32 base o)) else t.kByte c iv q := fun q hq => State.kByte_kPut hwin hq t _
  generalize t.kPut c iv p (insertBits bs o v (s.viewByte c iv (addr32 base o))) = u at honly hmem hbuf hkeepbuf hkeepmem hread ⊢
  have honly' : s.bytesOnly u := by
    rw [State.bytesOnly, honly, h.only]
  refine ⟨honly', fun he => (hmem (hpw.trans he)).trans (h.mem he), fun hne => (hbuf (fun he => hne (hpw.symm.trans he))).trans (h.buf hne),
    fun x hx => (hkeepbuf x (hx o ho p hp)).trans (h.others_buf x hx),
    fun x hx => (hkeepmem x (by rw [h.only.kAddr_eq]; exact hx o ho p hp)).trans (h.others_mem x hx), fun o' ho' => ?_⟩
  obtain ⟨q, hq, hqw, hqa⟩ := hplaces o' ho'
  have hqt : t.place iv.ev.routine (addr32 base o') = some q := (h.only.place_eq _ _).trans hq
  rw [State.viewByte_of_place ((honly'.place_eq _ _).trans hq), hread q (hqw.trans hpw.symm)]
  by_cases hoo : o' = o
  · subst hoo
    obtain rfl : p = q := Option.some.inj (hp.symm.trans hq)
    rw [if_pos rfl, if_pos List.mem_cons_self]
  · have hne : q.off ≠ p.off := fun hoff =>
      hoo (addr32_inj (hlt o' ho') (hlt o ho) (State.place_inj hp hq hpa hqa hwin (hqw.trans hpw.symm) hoff).symm)
    have hb := h.bytes o' ho'
    rw [State.viewByte_of_place hqt] at hb
    rw [if_neg hne, hb]
    simp only [List.mem_cons, hoo, false_or]

theorem State.fieldDone_foldl {bs : List Nat} {v : Nat} {w : KWin} (hw : isDataWin w) (hlt : ∀ o ∈ fieldBytes bs, o < 1024)
    (hplaces : ∀ o ∈ fieldBytes bs, ∃ p, s.place iv.ev.routine (addr32 base o) = some p ∧ p.win = w ∧ p.alia = .plain)
    (l : List Nat) (done : List Nat) (h : s.FieldDone t c iv base bs v w done) (hl : ∀ o ∈ l, o ∈ fieldBytes bs ∧ o ∉ done) (hnodup : l.Nodup) :
    ∃ done', (∀ o, o ∈ done' ↔ o ∈ done ∨ o ∈ l) ∧ s.FieldDone (l.foldl (State.fieldPut c iv base bs v) t) c iv base bs v w done' := by
  induction l generalizing t done with
  | nil => exact ⟨done, fun o => by simp, h⟩
  | cons o l ih =>
    obtain ⟨hin, hnew⟩ := hl o List.mem_cons_self
    obtain ⟨hnot, hnodup⟩ := List.nodup_cons.1 hnodup
    obtain ⟨done', hdone, hfield⟩ := ih (o :: done) (h.step hw hlt hplaces hin hnew) (fun x hx => ⟨(hl x (List.mem_cons_of_mem _ hx)).1, fun hmem => by
      rcases List.mem_cons.1 hmem with rfl | hmem
      · exact hnot hx
      · exact (hl x (List.mem_cons_of_mem _ hx)).2 hmem⟩) hnodup
    refine ⟨done', fun x => ?_, hfield⟩
    rw [hdone, List.mem_cons, List.mem_cons]
    tauto

end

/-! BFX and BFI -/

section
variable {s : State} {c : Fin 64} {iv : Invocation} {rd rs1 rs2 : Fin 32} {start : Fin 512} {len1 : Fin 32} {be sign : Bool}

theorem State.range_one (s : State) (r a : Nat) : s.range r a 1 = s.place r a := by
  rw [State.range, Nat.add_sub_cancel]
  cases s.place r a with
  | none => rfl
  | some p => exact if_pos ⟨rfl, rfl⟩

/-- Bytes that stand in plain places of a window may be written. -/
theorem State.byteFault_none {r base : Nat} {offs : List Nat} (h : ∀ o ∈ offs, ∃ p, s.place r (addr32 base o) = some p ∧ isDataWin p.win ∧ p.alia = .plain) :
    s.byteFault r base true offs = none := by
  rw [State.byteFault, List.findSome?_eq_none_iff]
  intro o ho
  obtain ⟨p, hp, hwin, hplain⟩ := h o ho
  rw [if_pos rfl, State.storeAtK_plain (Nat.mod_one _) ((s.range_one r _).trans hp) hplain hwin]

theorem State.kExtract_of_fault {e : Nat} (n : Nat) (he : s.byteFault iv.ev.routine (iv.g rs1).toNat false (fieldBytes (fieldBits start (len1 + 1) be)) = some e) :
    s.kExec c { iv with left := n } (.bfx rd rs1 start len1 be sign) = s.kAbort c { iv with left := n } e := by
  have hdef : s.kExec c { iv with left := n } (.bfx rd rs1 start len1 be sign) =
      match s.byteFault iv.ev.routine (iv.g rs1).toNat false (fieldBytes (fieldBits start (len1 + 1) be)) with
      | some e => s.kAbort c { iv with left := n } e
      | none => s.kSet c { iv with left := n } rd
        (if sign then BitVec.ofInt 32 (signed (len1 + 1) (s.fieldGet c iv (iv.g rs1).toNat (fieldBits start (len1 + 1) be)))
          else BitVec.ofNat 32 (s.fieldGet c iv (iv.g rs1).toNat (fieldBits start (len1 + 1) be))) := rfl
  rw [hdef, he]

theorem State.kExtract_of_ok (n : Nat) (hok : s.byteFault iv.ev.routine (iv.g rs1).toNat false (fieldBytes (fieldBits start (len1 + 1) be)) = none) :
    s.kExec c { iv with left := n } (.bfx rd rs1 start len1 be sign) = s.kSet c { iv with left := n } rd
      (if sign then BitVec.ofInt 32 (signed (len1 + 1) (bitsNat (s.viewBit c iv (iv.g rs1).toNat) (fieldBits start (len1 + 1) be)))
        else BitVec.ofNat 32 (bitsNat (s.viewBit c iv (iv.g rs1).toNat) (fieldBits start (len1 + 1) be))) := by
  have hdef : s.kExec c { iv with left := n } (.bfx rd rs1 start len1 be sign) =
      match s.byteFault iv.ev.routine (iv.g rs1).toNat false (fieldBytes (fieldBits start (len1 + 1) be)) with
      | some e => s.kAbort c { iv with left := n } e
      | none => s.kSet c { iv with left := n } rd
        (if sign then BitVec.ofInt 32 (signed (len1 + 1) (s.fieldGet c iv (iv.g rs1).toNat (fieldBits start (len1 + 1) be)))
          else BitVec.ofNat 32 (s.fieldGet c iv (iv.g rs1).toNat (fieldBits start (len1 + 1) be))) := rfl
  rw [hdef, hok, State.fieldGet_eq]

theorem State.kInsert_eq (n : Nat) :
    s.kExec c { iv with left := n } (.bfi rs2 rs1 start len1 be) =
      match s.byteFault iv.ev.routine (iv.g rs1).toNat true (fieldBytes (fieldBits start (len1 + 1) be)) with
      | some e => s.kAbort c { iv with left := n } e
      | none => ((fieldBytes (fieldBits start (len1 + 1) be)).foldl (State.fieldPut c { iv with left := n } (iv.g rs1).toNat
          (fieldBits start (len1 + 1) be) (iv.g rs2).toNat) s).setInv c { iv with pc := iv.pc + 4, left := n } := rfl

theorem nodup_fieldBytes (bs : List Nat) : (fieldBytes bs).Nodup := nodup_eraseDups _

/-- What BFI leaves in a window (R254). -/
theorem State.kInsert_spec {w : KWin} (hw : isDataWin w) (n : Nat) (h : s.inv c = some iv)
    (hplaces : ∀ o ∈ fieldBytes (fieldBits start (len1 + 1) be),
      ∃ p, s.place iv.ev.routine (addr32 (iv.g rs1).toNat o) = some p ∧ p.win = w ∧ p.alia = .plain) :
    let t := s.kExec c { iv with left := n } (.bfi rs2 rs1 start len1 be)
    let base := (iv.g rs1).toNat
    let bs := fieldBits start (len1 + 1) be
    t.inv c = some { iv with pc := iv.pc + 4, left := n } ∧ (∀ k, k ≠ c.val → t.inv k = s.inv k) ∧
      t = { s with mem := t.mem, kpr := { s.kpr with run := t.kpr.run, emitBuf := t.kpr.emitBuf } } ∧
      (w = .emit → t.mem = s.mem) ∧ (w ≠ .emit → t.kpr.emitBuf = s.kpr.emitBuf) ∧
      (∀ x, (∀ o ∈ fieldBytes bs, ∀ p, s.place iv.ev.routine (addr32 base o) = some p → 16384 * c.val + p.off ≠ x) →
        tget 0 t.kpr.emitBuf x = tget 0 s.kpr.emitBuf x) ∧
      (∀ j ≤ len1.val, (t.viewByte c iv (addr32 base (bs.getD j 0 / 8))).toNat.testBit (bs.getD j 0 % 8) = (iv.g rs2).toNat.testBit j) ∧
      (∀ o ∈ fieldBytes bs, ∀ i < 8, 8 * o + i ∉ bs → (t.viewByte c iv (addr32 base o)).toNat.testBit i =
        (s.viewByte c iv (addr32 base o)).toNat.testBit i) ∧
      (∀ x, (∀ o ∈ fieldBytes bs, ∀ p, s.place iv.ev.routine (addr32 base o) = some p → s.kAddr c iv.ev.routine p ≠ x) → t.mb x = s.mb x) := by
  have hfault := State.byteFault_none (s := s) fun o ho => by
    obtain ⟨p, hp, hpw, hpa⟩ := hplaces o ho
    exact ⟨p, hp, hpw.symm ▸ hw, hpa⟩
  have hlt : ∀ o ∈ fieldBytes (fieldBits start (len1 + 1) be), o < 1024 := fun o ho => fieldBytes_lt start.isLt len1.isLt ho
  obtain ⟨done, hdone, hfield⟩ := State.fieldDone_foldl (iv := { iv with left := n }) hw hlt hplaces (fieldBytes (fieldBits start (len1 + 1) be)) []
    (State.FieldDone.start s c { iv with left := n } (iv.g rs1).toNat (fieldBits start (len1 + 1) be) (iv.g rs2).toNat w)
    (fun o ho => ⟨ho, List.not_mem_nil⟩) (nodup_fieldBytes _)
  rw [State.kInsert_eq, hfault]
  dsimp only
  generalize (fieldBytes (fieldBits start (len1 + 1) be)).foldl (State.fieldPut c { iv with left := n } (iv.g rs1).toNat
    (fieldBits start (len1 + 1) be) (iv.g rs2).toNat) s = u at hfield
  obtain ⟨honly, hmem, hbuf, hothersbuf, hothersmem, hbytes⟩ := hfield
  have hinv : ∀ j, u.inv j = s.inv j := State.inv_congr (by rw [honly])
  obtain ⟨hself, hkeep, heq⟩ := State.coreTo_setInv ((hinv c).trans h) { iv with pc := iv.pc + 4, left := n }
  have hview : ∀ o ∈ fieldBytes (fieldBits start (len1 + 1) be),
      (u.setInv c { iv with pc := iv.pc + 4, left := n }).viewByte c iv (addr32 (iv.g rs1).toNat o) =
        insertBits (fieldBits start (len1 + 1) be) o (iv.g rs2).toNat (s.viewByte c iv (addr32 (iv.g rs1).toNat o)) := fun o ho => by
    have hb := hbytes o ho
    rw [if_pos ((hdone o).2 (.inr ho))] at hb
    exact hb
  refine ⟨hself, fun k hk => (hkeep k hk).trans (hinv k), by rw [heq, honly], hmem, hbuf, hothersbuf, fun j hj => ?_, fun o ho i hi hnot => ?_, hothersmem⟩
  · have hjl : j < (fieldBits start (len1 + 1) be).length := by
      rw [length_fieldBits]
      omega
    have hin : (fieldBits start (len1 + 1) be).getD j 0 ∈ fieldBits start (len1 + 1) be := by
      rw [List.getD_eq_getElem _ _ hjl]
      exact List.getElem_mem hjl
    rw [hview _ (mem_fieldBytes.2 ⟨_, hin, rfl⟩)]
    exact insertBits_of_mem (nodup_fieldBits _ _ _) hjl
  · rw [hview o ho]
    exact insertBits_of_not_mem hi hnot

/-! CRC and scaling (R255 to R257) -/

theorem State.kCrc_of_ok {sel : Fin 7} (n : Nat) (hlen : (iv.g rs2).toNat ≤ 9216) (hread : s.readable iv.ev.routine (iv.g rs1).toNat (iv.g rs2).toNat = true) :
    s.kExec c { iv with left := n } (.crc rd rs1 rs2 sel) = s.kSet c { iv with left := n } rd (BitVec.ofNat 32
      ((s.viewBytes c iv (iv.g rs1).toNat (iv.g rs2).toNat).foldl (crcStep sel) ((iv.g rd).toNat % 2 ^ (crcParams sel).1))) := by
  have hnot : ¬(9216 < (iv.g rs2).toNat ∨ (!s.readable iv.ev.routine (iv.g rs1).toNat (iv.g rs2).toNat) = true) := by
    rw [hread]
    exact not_or.2 ⟨by omega, by decide⟩
  exact if_neg hnot

theorem State.kCrc_of_bad {sel : Fin 7} (n : Nat) (hbad : 9216 < (iv.g rs2).toNat ∨ s.readable iv.ev.routine (iv.g rs1).toNat (iv.g rs2).toNat = false) :
    s.kExec c { iv with left := n } (.crc rd rs1 rs2 sel) = s.kAbort c { iv with left := n } 3 := by
  have hcond : 9216 < (iv.g rs2).toNat ∨ (!s.readable iv.ev.routine (iv.g rs1).toNat (iv.g rs2).toNat) = true :=
    hbad.imp_right fun h => by rw [h]; rfl
  exact if_pos hcond

theorem State.kScale_of_error {e : Nat} {op : SclOp} (n : Nat) (he : s.loadAt iv.ev.routine (iv.g rs2).toNat 12 4 = .error e) :
    s.kExec c { iv with left := n } (.scl op rd rs1 rs2 sign len1) = s.kAbort c { iv with left := n } e := by
  have hdef : s.kExec c { iv with left := n } (.scl op rd rs1 rs2 sign len1) = match s.loadAt iv.ev.routine (iv.g rs2).toNat 12 4 with
      | .ok p => s.kSet c { iv with left := n } rd (sclResult op (iv.g rs1) (len1 + 1) sign (leNat (slice 0 4 (s.kBytes c iv p 12)))
          (leNat (slice 4 4 (s.kBytes c iv p 12))) (leNat (slice 8 4 (s.kBytes c iv p 12))))
      | .error e => s.kAbort c { iv with left := n } e := rfl
  rw [hdef, he]

/-- The parameters of a conversion, from the three words at rs2. -/
theorem gives_scl {x : Instr} {op : SclOp} {p : KPlace} {v : Word} (hx : exec x s = .next (s.kRun c (.scl op rd rs1 rs2 sign len1)))
    (hp : s.loadAt iv.ev.routine (iv.g rs2).toNat 12 4 = .ok p)
    (hv : sclResult op (iv.g rs1) (len1 + 1) sign (leNat (slice 0 4 (s.kBytes c iv p 12))) (leNat (slice 4 4 (s.kBytes c iv p 12)))
      (leNat (slice 8 4 (s.kBytes c iv p 12))) = v)
    (h : s.kReady c iv (fmtR 0x23 rd rs1 rs2 (op.code + boolNat sign * 4 + len1.val * 8)) 2) :
    Gives x s (fun t => s.coreTo t c (iv.after rd v 2)) := by
  have hdef : s.kExec c { iv with left := iv.left - 2 } (.scl op rd rs1 rs2 sign len1) = match s.loadAt iv.ev.routine (iv.g rs2).toNat 12 4 with
      | .ok p => s.kSet c { iv with left := iv.left - 2 } rd (sclResult op (iv.g rs1) (len1 + 1) sign (leNat (slice 0 4 (s.kBytes c iv p 12)))
          (leNat (slice 4 4 (s.kBytes c iv p 12))) (leNat (slice 8 4 (s.kBytes c iv p 12))))
      | .error e => s.kAbort c { iv with left := iv.left - 2 } e := rfl
  rw [hp] at hdef
  exact gives_kSet (i := .scl op rd rs1 rs2 sign len1) hx rfl (hdef.trans (congrArg (s.kSet c { iv with left := iv.left - 2 } rd) hv)) h

/-- SCX limits its result to the 32-bit range (R256). -/
theorem scx_eq (raw m a : Int) (n : Nat) : scx raw m a n = max (-2 ^ 31) (min (2 ^ 31 - 1) (raw * m / 2 ^ n + a)) := by
  have hpow : ((2 ^ n : Nat) : Int) = 2 ^ n := by push_cast; rfl
  have hsat : ∀ v : Int, satLen 32 true v = max (-2 ^ 31) (min v (2 ^ 31 - 1)) := fun v => rfl
  rw [scx, hsat, hpow, min_comm]

end

/-- Settles O41: the bits of a field by their closed form, then each instruction. -/
theorem keeperFields : Obligations.KeeperFields := by
  unfold Obligations.KeeperFields
  intro s c iv rd rs1 rs2 start len1 be sign
  refine ⟨⟨length_fieldBits _ _ _, fun hbe j hj => ?_, fun hbe => ⟨?_, fun j hj => ?_⟩⟩, fun h hok => ?_, fun e h he => ?_, fun e h he => ?_,
    fun w hw h hplaces => ?_, fun sel h => ⟨fun hlen hread => ?_, fun hbad => ?_⟩, ?_, fun e he => ?_, fun p p0 p1 p2 hp h0 h1 h2 => ?_⟩
  · subst hbe
    rw [getD_fieldBits _ _ _ hj]
    rfl
  · subst hbe
    rw [getD_fieldBits _ _ _ (Nat.le_refl _), fieldBit, if_pos rfl, Nat.sub_self]
    exact mirror_mirror _
  · subst hbe
    rw [getD_fieldBits _ _ _ (by omega), getD_fieldBits _ _ _ (by omega), mirror_next]
    simp only [fieldBit, if_true, mirror_mirror]
    congr 1
    omega
  · refine gives_kExec (i := .bfx rd rs1 start len1 be sign) rfl h ⟨_, ?_, fun j hj =>
      testBit_extracted (s.viewBit c iv (iv.g rs1).toNat) (length_fieldBits _ _ _) sign hj⟩
    rw [State.kExtract_of_ok _ hok]
    exact State.coreTo_kSet h.1 rd _ 1
  · exact gives_kAbort (i := .bfx rd rs1 start len1 be sign) rfl rfl (State.kExtract_of_fault _ he) h
  · have hgo := s.kInsert_eq (c := c) (iv := iv) (rs1 := rs1) (rs2 := rs2) (start := start) (len1 := len1) (be := be) (iv.left - 1)
    rw [he] at hgo
    exact gives_kAbort (i := .bfi rs2 rs1 start len1 be) rfl rfl hgo h
  · exact gives_kExec (i := .bfi rs2 rs1 start len1 be) rfl h (State.kInsert_spec hw (iv.left - 1) h.1 hplaces)
  · exact gives_kSet (i := .crc rd rs1 rs2 sel) rfl rfl (State.kCrc_of_ok _ hlen hread) h
  · exact gives_kAbort (i := .crc rd rs1 rs2 sel) rfl rfl (State.kCrc_of_bad _ hbad) h
  · decide +kernel
  · simp only [List.forall_mem_cons]
    exact ⟨gives_kAbort (i := .scl .scx rd rs1 rs2 sign len1) rfl rfl (State.kScale_of_error _ he),
      gives_kAbort (i := .scl .scf rd rs1 rs2 sign len1) rfl rfl (State.kScale_of_error _ he),
      gives_kAbort (i := .scl .usx rd rs1 rs2 sign len1) rfl rfl (State.kScale_of_error _ he),
      gives_kAbort (i := .scl .ufs rd rs1 rs2 sign len1) rfl rfl (State.kScale_of_error _ he), List.forall_mem_nil _⟩
  · subst h0 h1 h2
    exact ⟨gives_scl (op := .scx) rfl hp (congrArg (BitVec.ofInt 32) (scx_eq _ _ _ _)), gives_scl (op := .scf) rfl hp rfl,
      gives_scl (op := .usx) rfl hp rfl, gives_scl (op := .ufs) rfl hp rfl⟩

end Sys2Proof.Machine

/-! The dike link and accesses to the BNK registers (R14, R388, R389). -/

namespace Sys2Proof.Machine

/-! The fields of a frame -/

section
variable (cmd seq off data : Nat)

theorem toNat_dikeFrame : ∃ k < 256, (dikeFrame cmd seq off data).toNat =
    ((cmd % 16 * 16 + seq % 16) * 2 ^ 16 + off % 2 ^ 16) * 2 ^ 32 * 256 + data % 2 ^ 32 * 256 + k := by
  have hcrc := crc8_lt (((cmd % 16 * 16 + seq % 16) * 2 ^ 16 + off % 2 ^ 16) * 2 ^ 32 + data % 2 ^ 32)
  refine ⟨_, hcrc, ?_⟩
  simp only [dikeFrame, BitVec.toNat_ofNat]
  omega

theorem dikeFrame_seq : bits 59 56 (dikeFrame cmd seq off data).toNat = seq % 16 := by
  obtain ⟨k, hk, h⟩ := toNat_dikeFrame cmd seq off data
  rw [bits, Nat.shiftRight_eq_div_pow, h]
  omega

theorem dikeFrame_off : bits 55 40 (dikeFrame cmd seq off data).toNat = off % 2 ^ 16 := by
  obtain ⟨k, hk, h⟩ := toNat_dikeFrame cmd seq off data
  rw [bits, Nat.shiftRight_eq_div_pow, h]
  omega

theorem dikeFrame_data : bits 39 8 (dikeFrame cmd seq off data).toNat = data % 2 ^ 32 := by
  obtain ⟨k, hk, h⟩ := toNat_dikeFrame cmd seq off data
  rw [bits, Nat.shiftRight_eq_div_pow, h]
  omega

end

/-! One try of a transaction -/

section
variable {s : State} {q : DikeReq}

/-- The frame asks the bank die for an answer. -/
abbrev DikeReq.asks (q : DikeReq) : Prop := bits 63 60 q.frame.toNat = 1 ∨ bits 63 60 q.frame.toNat = 2

/-- A frame that does not arrive counts and leaves its transaction open. -/
theorem State.dikeTry_lost (hq : q.asks) (s : State) (answered : Bool) :
    s.dikeTry q false answered = ((s.out (.dike true q.frame)).addFld BNK_STATUS BNK_STATUS_link_err 1).setBank { s.bank with open_ := some q } := by
  unfold State.dikeTry
  dsimp only
  rw [if_neg (by decide)]
  exact if_pos hq

/-- A read that arrives and is answered goes back to its master, and leaves the link free. -/
theorem State.dikeTry_read (hrun : s.running = true) (hcmd : bits 63 60 q.frame.toNat = 1) {m : Master} (hm : q.master = some m) :
    let off := bits 55 40 q.frame.toNat
    let r := dikeFrame 1 0 off (s.bnkRead off)
    s.dikeTry q true true = { s with
      bank := { s.bank with open_ := none }
      outputs := .busRead m (0x20100000 + off) (bits 39 8 r.toNat) :: .dike false r :: .dike true q.frame :: s.outputs } := by
  have htakes : ∀ u : State, u.bankTakes q.frame q.event = (u, some (dikeFrame 1 0 (bits 55 40 q.frame.toNat) (u.bnkRead (bits 55 40 q.frame.toNat)))) :=
    fun u => if_pos hcmd
  unfold State.dikeTry
  dsimp only
  rw [if_pos rfl, htakes]
  dsimp only
  rw [if_pos ⟨rfl, hrun⟩, hm]
  dsimp only
  rw [if_pos hcmd]
  rfl

/-- A write that the bank die has taken before is answered and not applied again. -/
theorem State.dikeTry_write_again (hrun : s.running = true) (hcmd : bits 63 60 q.frame.toNat = 2)
    (hseq : s.bank.lastSeq = some (bits 59 56 q.frame.toNat)) :
    s.dikeTry q true true = { s with
      free := s.free + 1
      bank := { s.bank with open_ := none }
      outputs := .dike false (dikeFrame 2 (bits 59 56 q.frame.toNat) (bits 55 40 q.frame.toNat) (Config.dikeData s.free).toNat) ::
        .dike true q.frame :: s.outputs } := by
  have htakes : (s.out (.dike true q.frame)).bankTakes q.frame q.event =
      ({ s.out (.dike true q.frame) with free := s.free + 1 },
        some (dikeFrame 2 (bits 59 56 q.frame.toNat) (bits 55 40 q.frame.toNat) (Config.dikeData s.free).toNat)) :=
    (if_neg (by rw [hcmd]; decide)).trans ((if_pos hcmd).trans (if_pos hseq))
  unfold State.dikeTry
  dsimp only
  rw [if_pos rfl, htakes]
  dsimp only
  rw [if_pos ⟨rfl, hrun⟩]
  cases q.master with
  | none => rfl
  | some m =>
    dsimp only
    rw [if_neg (by rw [hcmd]; decide)]
    rfl

/-! The link's queue (R14) -/

theorem State.dikeDrain_of_open {n : Nat} (h : s.bank.open_.isSome = true) : State.dikeDrain n s = s := by
  obtain ⟨q, hq⟩ := Option.isSome_iff_exists.1 h
  cases n with
  | zero => rfl
  | succ n => rw [State.dikeDrain, hq]

theorem State.dikeDrain_of_empty {n : Nat} (h : s.bank.posted = []) : State.dikeDrain n s = s := by
  cases n with
  | zero => rfl
  | succ n =>
    rw [State.dikeDrain, h]
    split
    · next heq => cases heq
    · rfl

/-- The first access posted takes a free link. -/
theorem State.dikeDrain_of_free {p : DikeReq} {a b : Bool} {rest : List (DikeReq × Bool × Bool)} (n : Nat) (hopen : s.bank.open_ = none)
    (hposted : s.bank.posted = (p, a, b) :: rest) :
    State.dikeDrain (n + 1) s = State.dikeDrain n ((s.setBank { s.bank with posted := rest }).dikeTry p a b) := by
  rw [State.dikeDrain, hopen, hposted]

theorem State.dikePost_of_open (h : s.bank.open_.isSome = true) (a b : Bool) :
    s.dikePost q a b = s.setBank { s.bank with posted := s.bank.posted ++ [(q, a, b)] } :=
  State.dikeDrain_of_open (s := s.setBank { s.bank with posted := s.bank.posted ++ [(q, a, b)] }) h

theorem BankDie.with_posted_nil {x : BankDie} (h : x.posted = []) : { x with posted := [] } = x := by
  cases x
  cases h
  rfl

theorem BankDie.with_open_none {x : BankDie} (h : x.open_ = none) : { x with open_ := none } = x := by
  cases x
  cases h
  rfl

theorem State.dikePost_of_free (hopen : s.bank.open_ = none) (hposted : s.bank.posted = []) (a b : Bool) : s.dikePost q a b = s.dikeTry q a b := by
  have hback : (s.setBank { s.bank with posted := [(q, a, b)] }).setBank { (s.setBank { s.bank with posted := [(q, a, b)] }).bank with posted := [] } = s :=
    congrArg s.setBank (BankDie.with_posted_nil hposted)
  rw [State.dikePost, hposted]
  refine (State.dikeDrain_of_free (s := s.setBank { s.bank with posted := [(q, a, b)] }) 0 hopen rfl).trans ?_
  rw [hback]
  rfl

/-! Accesses -/

/-- The request of an access. -/
def State.dikeRequest (s : State) (m : Option Master) (write : Bool) (off : Nat) (v : Word) : DikeReq :=
  { master := m, frame := if write then dikeFrame 2 s.bank.nextSeq off v.toNat else dikeFrame 1 0 off 0, tries := 0 }

theorem State.dikeRequest_asks (s : State) (m : Option Master) (write : Bool) (off : Nat) (v : Word) : (s.dikeRequest m write off v).asks := by
  cases write with
  | false => exact .inl (bits_dikeFrame _ _ _ _)
  | true => exact .inr (bits_dikeFrame _ _ _ _)

/-- The next sequence number, once an access has been made. -/
def State.numbered (s : State) (write : Bool) : State := s.setBank { s.bank with nextSeq := if write then (s.bank.nextSeq + 1) % 16 else s.bank.nextSeq }

/-- The heartbeat's frame follows a write of BNK_CTL with hb. -/
def beats (write : Bool) (off : Nat) (v : Word) : Bool := write && decide (off = 0) && v.toNat.testBit 0

theorem State.dikeAccess_eq (hrun : s.running = true) (m : Option Master) (write : Bool) (off : Nat) (v : Word) (arrives answered : Bool) :
    s.dikeAccess m write off v arrives answered =
      let u := (s.numbered write).dikePost (s.dikeRequest m write off v) arrives answered
      if beats write off v = true ∧ u.running = true then u.heartbeat arrives else u := by
  have hcond : ∀ u : State, (write = true ∧ off = 0 ∧ v.toNat.testBit 0 = true ∧ u.running = true) ↔ (beats write off v = true ∧ u.running = true) := fun u => by
    simp only [beats, Bool.and_eq_true, decide_eq_true_eq]
    tauto
  rw [State.dikeAccess, hrun]
  exact (if_neg (by decide)).trans (if_congr (hcond _) rfl rfl)

/-- The heartbeat's frame. -/
def beat : DikeReq := { master := none, frame := dikeFrame 4 0 0 0, tries := 0 }

/-- A read over a free link. -/
theorem State.dikeAccess_read (hrun : s.running = true) (hopen : s.bank.open_ = none) (hposted : s.bank.posted = []) (m : Master) {off : Nat}
    (hoff : off < 65536) (v : Word) :
    let r := dikeFrame 1 0 off (s.bnkRead off)
    s.dikeAccess (some m) false off v true true =
      { s with outputs := .busRead m (0x20100000 + off) (bits 39 8 r.toNat) :: .dike false r :: .dike true (dikeFrame 1 0 off 0) :: s.outputs } := by
  have hsame : s.numbered false = s := rfl
  have hbits : bits 55 40 (s.dikeRequest (some m) false off v).frame.toNat = off :=
    (dikeFrame_off _ _ _ _).trans (Nat.mod_eq_of_lt hoff)
  have htry := State.dikeTry_read (q := s.dikeRequest (some m) false off v) hrun (bits_dikeFrame _ _ _ _) rfl
  rw [hbits, BankDie.with_open_none hopen] at htry
  rw [State.dikeAccess_eq hrun]
  dsimp only
  rw [hsame, State.dikePost_of_free hopen hposted, htry]
  exact if_neg (by simp [beats])

/-- An access whose first frame is lost stays open, and its heartbeat waits behind it. -/
theorem State.dikeAccess_lost (hrun : s.running = true) (hopen : s.bank.open_ = none) (hposted : s.bank.posted = []) (m : Master) (write : Bool)
    (off : Nat) (v : Word) (answered : Bool) :
    let q := s.dikeRequest (some m) write off v
    s.dikeAccess (some m) write off v false answered = { s.addFld BNK_STATUS BNK_STATUS_link_err 1 with
      outputs := .dike true q.frame :: s.outputs
      bank := { s.bank with
        open_ := some q, posted := (if beats write off v then [(beat, false, true)] else [])
        nextSeq := (if write then (s.bank.nextSeq + 1) % 16 else s.bank.nextSeq) } } := by
  have htry := State.dikeTry_lost (s.dikeRequest_asks (some m) write off v) (s.numbered write) answered
  have hrun' : ((s.numbered write).dikeTry (s.dikeRequest (some m) write off v) false answered).running = true := by
    rw [htry]
    exact hrun
  rw [State.dikeAccess_eq hrun]
  dsimp only
  rw [State.dikePost_of_free (s := s.numbered write) hopen hposted]
  by_cases hb : beats write off v = true
  · rw [if_pos ⟨hb, hrun'⟩, if_pos hb, State.heartbeat, State.dikePost_of_open (by rw [htry]; rfl), htry]
    have hbank : ((s.numbered write).bank.posted) = [] := hposted
    exact congrArg (fun l => State.setBank _ { (s.numbered write).bank with
      open_ := some (s.dikeRequest (some m) write off v), posted := l ++ [(beat, false, true)] }) hbank
  · rw [if_neg (fun h => hb h.1), if_neg hb, htry]
    have hbank : { (s.numbered write).bank with open_ := some (s.dikeRequest (some m) write off v) } =
        { (s.numbered write).bank with open_ := some (s.dikeRequest (some m) write off v), posted := [] } :=
      (BankDie.with_posted_nil (x := { (s.numbered write).bank with open_ := some (s.dikeRequest (some m) write off v) }) hposted).symm
    exact congrArg (State.setBank _) hbank

/-- An access that finds one open waits behind those posted. -/
theorem State.dikeAccess_waits (hrun : s.running = true) (hopen : s.bank.open_.isSome = true) (m : Master) (write : Bool) (off : Nat) (v : Word)
    (arrives answered : Bool) :
    let q := s.dikeRequest (some m) write off v
    s.dikeAccess (some m) write off v arrives answered = { s with bank := { s.bank with
      posted := s.bank.posted ++ (q, arrives, answered) :: (if beats write off v then [(beat, arrives, true)] else [])
      nextSeq := (if write then (s.bank.nextSeq + 1) % 16 else s.bank.nextSeq) } } := by
  have hpost := State.dikePost_of_open (s := s.numbered write) (q := s.dikeRequest (some m) write off v) hopen arrives answered
  have hrun' : ((s.numbered write).dikePost (s.dikeRequest (some m) write off v) arrives answered).running = true := by
    rw [hpost]
    exact hrun
  rw [State.dikeAccess_eq hrun]
  dsimp only
  by_cases hb : beats write off v = true
  · rw [if_pos ⟨hb, hrun'⟩, if_pos hb, State.heartbeat, State.dikePost_of_open (by rw [hpost]; exact hopen), hpost]
    have happ : ((s.numbered write).bank.posted ++ [(s.dikeRequest (some m) write off v, arrives, answered)]) ++ [(beat, arrives, true)] =
        s.bank.posted ++ [(s.dikeRequest (some m) write off v, arrives, answered), (beat, arrives, true)] := List.append_assoc _ _ _
    exact congrArg (fun l => s.setBank { (s.numbered write).bank with posted := l }) happ
  · rw [if_neg (fun h => hb h.1), if_neg hb, hpost]
    rfl

/-! Retries (R389) -/

theorem State.dikeRetry_of_none (h : s.bank.open_ = none) (a b : Bool) : s.dikeRetry a b = s := by
  rw [State.dikeRetry, h]

theorem State.dikeRetry_again (h : s.bank.open_ = some q) (htries : q.tries < 3) (a b : Bool) :
    s.dikeRetry a b = (let t := s.dikeTry { q with tries := q.tries + 1 } a b; State.dikeDrain t.bank.posted.length t) := by
  rw [State.dikeRetry, h]
  dsimp only
  rw [if_pos htries]

theorem State.dikeRetry_failed (h : s.bank.open_ = some q) (htries : 3 ≤ q.tries) (a b : Bool) :
    s.dikeRetry a b = State.dikeDrain (s.dikeFailed q).bank.posted.length (s.dikeFailed q) := by
  rw [State.dikeRetry, h]
  dsimp only
  rw [if_neg (by omega)]

/-- The error response of an access that has ended without an answer. -/
def State.accessEnded (s : State) (q : DikeReq) : State :=
  match q.master with
  | some m => (s.setBank { s.bank with open_ := none }).out (.busError m (0x20100000 + bits 55 40 q.frame.toNat))
  | none => s.setBank { s.bank with open_ := none }

theorem State.accessEnded_spec (s : State) (q : DikeReq) :
    (s.accessEnded q).outputs = (q.master.map (fun m => Output.busError m (0x20100000 + bits 55 40 q.frame.toNat))).toList ++ s.outputs ∧
      s.accessEnded q = { s with bank := { s.bank with open_ := none }, outputs := (s.accessEnded q).outputs } := by
  rw [State.accessEnded]
  cases q.master <;> exact ⟨rfl, rfl⟩

/-- What a failed access leaves, beside its event. -/
theorem State.dikeFailed_spec (s : State) (q : DikeReq) :
    let t := s.dikeFailed q
    t.bank = { s.bank with open_ := none } ∧
      t.outputs = (q.master.map (fun m => Output.busError m (0x20100000 + bits 55 40 q.frame.toNat))).toList ++ s.outputs ∧
      s.posts t 0x0E20 5 noInst ∧ s.onlyRegs t [] ∧ t = { s with outputs := t.outputs, regs := t.regs, flt := t.flt, bank := t.bank } := by
  have ht : s.dikeFailed q = (s.accessEnded q).raise 0x0E20 5 := rfl
  obtain ⟨houts, heq⟩ := s.accessEnded_spec q
  rw [ht]
  generalize s.accessEnded q = u at houts heq
  have hrun : u.running = s.running := by rw [heq]; rfl
  have hflt : u.flt = s.flt := by rw [heq]
  have hregs : s.onlyRegs u [] := fun a _ _ => by rw [heq]; rfl
  have hbank : u.bank = { s.bank with open_ := none } := by rw [heq]
  obtain ⟨hposts, honly, hframe⟩ := State.raised hrun hflt hregs (c := 0x0E20) (k := 5) noInst 0 (by decide) (by decide) rfl
  generalize u.raise 0x0E20 5 = t at hposts honly hframe ⊢
  refine ⟨by rw [hframe, hbank], by rw [hframe, houts], hposts, honly, ?_⟩
  rw [hframe, heq]

end

/-! Refused accesses -/

theorem State.refuse_spec (s : State) (m : Master) (a : Nat) :
    (s.refuse m a).outputs = .busError m a :: s.outputs ∧ (s.refuse m a).bank = s.bank ∧ s.onlyRegs (s.refuse m a) [] ∧
      s.refuse m a = { s with outputs := (s.refuse m a).outputs, regs := (s.refuse m a).regs, flt := (s.refuse m a).flt
                              dev := { s.dev with aer := (s.refuse m a).dev.aer } } := by
  obtain ⟨u, hu⟩ : ∃ u : State, (if m = .pcie then s.pcieError 20 else s).out (.busError m a) = u := ⟨_, rfl⟩
  have heq : u = { s with outputs := .busError m a :: s.outputs, dev := { s.dev with aer := u.dev.aer } } := by
    rw [← hu]
    split <;> rfl
  have ht : s.refuse m a = u.raiseLim 0x0140 1 m.number (a % 2 ^ 32) := by rw [← hu]; rfl
  obtain ⟨honly, hframe⟩ := u.wroteEvents_raiseLim (l := []) (c := 0x0140) (k := 1) m.number (a % 2 ^ 32) (by decide) (by decide) rfl
  have houts : u.outputs = .busError m a :: s.outputs := by rw [heq]
  have hbank : u.bank = s.bank := by rw [heq]
  have hrd : ∀ b, u.rd b = s.rd b := fun b => by rw [heq]; rfl
  rw [ht]
  generalize u.raiseLim 0x0140 1 m.number (a % 2 ^ 32) = t at honly hframe ⊢
  refine ⟨by rw [hframe, houts], by rw [hframe, hbank], fun b hl hb => (honly b hl hb).trans (hrd b), ?_⟩
  rw [hframe, heq]

section
variable {s : State} {m : Master}

theorem State.seen_bnkRead (off : Nat) : (s.seen m).bnkRead off = s.bnkRead off := by
  unfold State.seen
  split <;> rfl

theorem exec_dikeAccess (hrun : s.running = true) {off : Fin 65536} {write : Bool} (hok : accessOk m write (0x20100000 + off.val) 4 = true) (v : Word)
    (a b : Bool) : exec (.dikeLinkTransaction m write off v a b) s = .next ((s.seen m).dikeAccess (some m) write off.val v a b) := by
  have h : exec (.dikeLinkTransaction m write off v a b) s = .next (if !s.running then s
    else if accessOk m write (0x20100000 + off.val) 4 then (s.seen m).dikeAccess (some m) write off.val v a b
    else (s.seen m).refuse m (0x20100000 + off.val)) := rfl
  rw [h, hrun, hok]
  rfl

theorem link_err_counted (s : State) : (s.addFld BNK_STATUS BNK_STATUS_link_err 1).fld BNK_STATUS BNK_STATUS_link_err =
    min (s.fld BNK_STATUS BNK_STATUS_link_err + 1) 255 := by
  rw [State.addFld, State.fld, State.rd_setFld, if_pos rfl, Fld.get_put _ _ _ (by decide) (by decide)]
  have hlt : satAdd BNK_STATUS_link_err.width (s.fld BNK_STATUS BNK_STATUS_link_err) 1 = min (s.fld BNK_STATUS BNK_STATUS_link_err + 1) 255 := rfl
  rw [hlt]
  exact Nat.mod_eq_of_lt (by have := Nat.min_le_right (s.fld BNK_STATUS BNK_STATUS_link_err + 1) 255; exact Nat.lt_succ_of_le this)

end

section
variable {s : State} {m : Master}

theorem State.seen_dikeRequest (x : Option Master) (write : Bool) (off : Nat) (v : Word) : (s.seen m).dikeRequest x write off v = s.dikeRequest x write off v := by
  simp only [State.dikeRequest, State.seen_bank]

/-- What an access leaves whose first frame is lost. -/
theorem State.lost_spec (hrun : s.running = true) (hopen : s.bank.open_ = none) (hposted : s.bank.posted = []) (m : Master) (write : Bool)
    (off : Nat) (v : Word) (answered : Bool) :
    let q := s.dikeRequest (some m) write off v
    let t := s.dikeAccess (some m) write off v false answered
    t.bank = { s.bank with
        open_ := some q, posted := (if beats write off v then [(beat, false, true)] else [])
        nextSeq := (if write then (s.bank.nextSeq + 1) % 16 else s.bank.nextSeq) } ∧
      t.fld BNK_STATUS BNK_STATUS_link_err = min (s.fld BNK_STATUS BNK_STATUS_link_err + 1) 255 ∧ s.onlyRegs t [BNK_STATUS] ∧
      t = { s with regs := t.regs, bank := t.bank, outputs := .dike true q.frame :: s.outputs } := by
  dsimp only
  rw [State.dikeAccess_lost hrun hopen hposted]
  exact ⟨rfl, link_err_counted s, (State.wroteRegs_setFld s _ _ (List.mem_singleton_self _)).onlyRegs, rfl⟩

end

/-- Settles O7: the access over a free link, over one in use, its retries and its end. -/
theorem dikeLink : Obligations.DikeLink := by
  unfold Obligations.DikeLink
  intro s
  refine ⟨fun m off v hrun hok hopen hposted => ⟨_, exec_dikeAccess hrun hok v true true, ?_⟩,
    fun m write off v answered hrun hok hopen hposted => ⟨_, exec_dikeAccess hrun hok v false answered, ?_⟩,
    fun m write off v arrives answered hrun hok hopen => ⟨_, exec_dikeAccess hrun hok v arrives answered, ?_⟩,
    fun m write off v arrives answered => ⟨fun hrun => ?_, fun hrun hok => ?_⟩,
    fun q arrives answered hq => ⟨fun htries hasks => ⟨_, rfl, ?_⟩, fun htries hposted hrun hcmd hseq => ⟨_, rfl, ?_⟩,
      fun m htries hposted hrun hcmd hm => ⟨_, rfl, ?_⟩, fun htries hposted => ⟨_, rfl, ?_⟩, fun p b rest htries hasks hposted => ⟨_, rfl, ?_⟩⟩,
    fun arrives answered hnone => ⟨_, rfl, State.dikeRetry_of_none hnone _ _⟩⟩
  · have h := State.dikeAccess_read (s := s.seen m) (by simpa using hrun) (by simpa using hopen) (by simpa using hposted) m off.isLt v
    rw [State.seen_bnkRead, State.seen_outputs] at h
    exact h
  · obtain ⟨hbank, hfld, honly, heq⟩ := State.lost_spec (s := s.seen m) (by simpa using hrun) (by simpa using hopen) (by simpa using hposted) m write off.val v answered
    rw [State.seen_dikeRequest, State.seen_bank] at hbank
    rw [State.seen_fld] at hfld
    rw [State.seen_dikeRequest, State.seen_outputs] at heq
    exact ⟨hbank, hfld, State.onlyRegs_seen honly, heq⟩
  · have h := State.dikeAccess_waits (s := s.seen m) (by simpa using hrun) (by simpa using hopen) m write off.val v arrives answered
    rw [State.seen_dikeRequest, State.seen_bank] at h
    exact h
  · refine ⟨_, rfl, ?_⟩
    rw [hrun]
    rfl
  · obtain ⟨houts, hbank, honly, heq⟩ := (s.seen m).refuse_spec m (0x20100000 + off.val)
    rw [State.seen_outputs] at houts
    rw [State.seen_bank] at hbank
    rw [State.seen_dev] at heq
    have hgo : exec (.dikeLinkTransaction m write off v arrives answered) s = .next ((s.seen m).refuse m (0x20100000 + off.val)) := by
      have h : exec (.dikeLinkTransaction m write off v arrives answered) s = .next (if !s.running then s
        else if accessOk m write (0x20100000 + off.val) 4 then (s.seen m).dikeAccess (some m) write off.val v arrives answered
        else (s.seen m).refuse m (0x20100000 + off.val)) := rfl
      rw [h, hrun, hok]
      rfl
    exact ⟨_, hgo, houts, hbank, State.onlyRegs_seen honly, heq⟩
  · have htry := State.dikeTry_lost (q := { q with tries := q.tries + 1 }) hasks s answered
    rw [State.dikeRetry_again hq htries, htry]
    dsimp only
    rw [State.dikeDrain_of_open rfl]
    exact ⟨rfl, link_err_counted s, (State.wroteRegs_setFld s _ _ (List.mem_singleton_self _)).onlyRegs, rfl⟩
  · have htry := State.dikeTry_write_again (q := { q with tries := q.tries + 1 }) hrun hcmd hseq
    rw [State.dikeRetry_again hq htries, htry]
    exact ⟨_, State.dikeDrain_of_empty hposted⟩
  · have htry := State.dikeTry_read (q := { q with tries := q.tries + 1 }) hrun hcmd hm
    rw [State.dikeRetry_again hq htries, htry]
    exact State.dikeDrain_of_empty hposted
  · have hspec := s.dikeFailed_spec q
    rw [State.dikeRetry_failed hq htries, State.dikeDrain_of_empty (by rw [hspec.1]; exact hposted)]
    exact hspec
  · obtain ⟨hbank, houts, hposts, honly, heq⟩ := s.dikeFailed_spec q
    rw [State.dikeRetry_failed hq htries]
    generalize s.dikeFailed q = u at hbank houts hposts honly heq ⊢
    have hlist : u.bank.posted = (p, false, b) :: rest := by rw [hbank]; exact hposted
    have hfree : u.bank.open_ = none := by rw [hbank]
    have htry := State.dikeTry_lost (q := p) hasks (u.setBank { u.bank with posted := rest }) b
    rw [hlist, List.length_cons, State.dikeDrain_of_free rest.length hfree hlist, htry, State.dikeDrain_of_open rfl]
    have hbase : s.onlyRegs ((u.setBank { u.bank with posted := rest }).out (.dike true p.frame)) [] := honly
    have hregs := (State.wroteRegs_setFld ((u.setBank { u.bank with posted := rest }).out (.dike true p.frame)) (l := [BNK_STATUS])
      BNK_STATUS_link_err (satAdd BNK_STATUS_link_err.width (u.fld BNK_STATUS BNK_STATUS_link_err) 1) (List.mem_singleton_self _)).1
    refine ⟨congrArg (fun x : BankDie => { x with open_ := some p, posted := rest }) hbank, hposts, fun a hl ha => (hregs a hl).trans (hbase a List.not_mem_nil ha), ?_, ?_, ?_⟩
    · have hmem : u.mem = s.mem := by rw [heq]
      exact hmem
    · have hmram : u.mram = s.mram := by rw [heq]
      exact hmram
    · have hotp : u.otp = s.otp := by rw [heq]
      exact hotp

end Sys2Proof.Machine

/-! Writes of the BNK registers over a free dike link (R75, R77, R389, R392, R400, R402, R406). -/

namespace Sys2Proof.Machine

section
variable {s : State}

/-! A write over a free link -/

/-- The bank die has taken a new write: the frame has crossed the link, its sequence number is noted and an answer is being made. -/
def State.writeTaken (s : State) (off : Nat) (v : Word) : State :=
  { s with bank := s.linkBank, free := s.free + 1, outputs := .dike true (dikeFrame 2 s.bank.nextSeq off v.toNat) :: s.outputs }

theorem BitVec_ofNat_bits {v : Word} : BitVec.ofNat 32 (v.toNat % 2 ^ 32) = v := by
  rw [Nat.mod_eq_of_lt v.isLt, BitVec.ofNat_toNat, BitVec.setWidth_eq]

/-- The bank die notes the sequence number of a write that it takes. -/
def State.writeNoted (s : State) (seq : Nat) : State := { s with bank := { s.bank with lastSeq := some seq }, free := s.free + 1 }

theorem State.bankTakes_write {f : DWord} (hcmd : bits 63 60 f.toNat = 2) {event : Nat} : s.bankTakes f event =
    if s.bank.lastSeq = some (bits 59 56 f.toNat) then
      ({ s with free := s.free + 1 }, some (dikeFrame 2 (bits 59 56 f.toNat) (bits 55 40 f.toNat) (Config.dikeData s.free).toNat))
    else ((s.writeNoted (bits 59 56 f.toNat)).bnkWrite (bits 55 40 f.toNat) (BitVec.ofNat 32 (bits 39 8 f.toNat)) event,
      some (dikeFrame 2 (bits 59 56 f.toNat) (bits 55 40 f.toNat) (Config.dikeData s.free).toNat)) :=
  (if_neg (by rw [hcmd]; decide)).trans (if_pos hcmd)

/-- A write that is taken and answered leaves the link free, and brings nothing back to its master. -/
theorem State.dikeTry_answered {q : DikeReq} (hcmd : bits 63 60 q.frame.toNat = 2) {w : State} {r : DWord}
    (htakes : (s.out (.dike true q.frame)).bankTakes q.frame q.event = (w, some r)) :
    s.dikeTry q true true = { w with bank := { w.bank with open_ := none }, outputs := .dike false r :: w.outputs } := by
  unfold State.dikeTry
  dsimp only
  rw [if_pos rfl, htakes]
  dsimp only
  cases hrun : w.running with
  | true =>
    rw [if_pos ⟨rfl, hrun⟩, hcmd]
    cases q.master <;> rfl
  | false =>
    have hoff : (w.out (.dike false r)).running = false := hrun
    rw [if_neg (fun h => Bool.false_ne_true (hoff.symm.trans h.2)), hoff]
    rfl

/-- A new write of a BNK register takes effect, and its answer frees the link. -/
theorem State.dikeTry_write (hseq : s.bank.lastSeq ≠ some (s.bank.nextSeq % 16)) (m : Option Master) {off : Nat} (hoff : off < 65536) (v : Word) :
    ∃ r, (s.numbered true).dikeTry (s.dikeRequest m true off v) true true =
      (let w := (s.writeTaken off v).bnkWrite off v
       { w with bank := { w.bank with open_ := none }, outputs := .dike false r :: w.outputs }) := by
  have hcmd : bits 63 60 (dikeFrame 2 s.bank.nextSeq off v.toNat).toNat = 2 := bits_dikeFrame _ _ _ _
  have htakes : ((s.numbered true).out (.dike true (dikeFrame 2 s.bank.nextSeq off v.toNat))).bankTakes (dikeFrame 2 s.bank.nextSeq off v.toNat) 0 =
      ((s.writeTaken off v).bnkWrite off v, some (dikeFrame 2 (s.bank.nextSeq % 16) off (Config.dikeData s.free).toNat)) := by
    have hlast : ((s.numbered true).out (.dike true (dikeFrame 2 s.bank.nextSeq off v.toNat))).bank.lastSeq ≠ some (s.bank.nextSeq % 16) := hseq
    have hstate : ((s.numbered true).out (.dike true (dikeFrame 2 s.bank.nextSeq off v.toNat))).writeNoted (s.bank.nextSeq % 16) = s.writeTaken off v := rfl
    have hfree : ((s.numbered true).out (.dike true (dikeFrame 2 s.bank.nextSeq off v.toNat))).free = s.free := rfl
    rw [State.bankTakes_write hcmd, dikeFrame_seq, dikeFrame_off, dikeFrame_data, BitVec_ofNat_bits, Nat.mod_eq_of_lt (show off < 2 ^ 16 from hoff),
      if_neg hlast, hstate, hfree]
  exact ⟨_, State.dikeTry_answered (q := s.dikeRequest m true off v) hcmd htakes⟩

/-- A heartbeat over a free link. -/
theorem State.heartbeat_of_free (hopen : s.bank.open_ = none) (hposted : s.bank.posted = []) :
    s.heartbeat true = { s with
      bank := { s.bank with lastHb := s.elapsed }, outputs := .dike true (dikeFrame 4 0 0 0) :: s.outputs } := by
  have hcmd : bits 63 60 (dikeFrame 4 0 0 0).toNat = 4 := bits_dikeFrame _ _ _ _
  rw [State.heartbeat, State.dikePost_of_free hopen hposted]
  unfold State.dikeTry
  dsimp only
  rw [if_pos rfl]
  unfold State.bankTakes
  dsimp only
  rw [hcmd]
  rfl

/-- The access as a whole. -/
theorem State.dikeAccess_write (hrun : s.running = true) (hready : s.dikeReady) (m : Option Master) {off : Nat} (hoff : off < 65536) (v : Word) :
    ∃ r, s.dikeAccess m true off v true true =
      (let w := (s.writeTaken off v).bnkWrite off v
       let u : State := { w with bank := { w.bank with open_ := none }, outputs := .dike false r :: w.outputs }
       if beats true off v = true ∧ u.running = true then u.heartbeat true else u) := by
  obtain ⟨hopen, hposted, hseq⟩ := hready
  obtain ⟨r, hr⟩ := State.dikeTry_write hseq m hoff v
  refine ⟨r, ?_⟩
  rw [State.dikeAccess_eq hrun]
  dsimp only
  rw [State.dikePost_of_free (s := s.numbered true) hopen hposted, hr]

/-- After a write that stops the logic die no heartbeat follows. -/
theorem State.dikeAccess_write_stopped (hrun : s.running = true) (hready : s.dikeReady) (m : Option Master) {off : Nat} (hoff : off < 65536) {v : Word}
    {w : State} (hbnk : (s.writeTaken off v).bnkWrite off v = w) (hstop : w.running = false) :
    ∃ r, s.dikeAccess m true off v true true = { w with bank := { w.bank with open_ := none }, outputs := .dike false r :: w.outputs } := by
  obtain ⟨r, hr⟩ := State.dikeAccess_write hrun hready m hoff v
  rw [hbnk] at hr
  exact ⟨r, hr.trans (if_neg (fun h => Bool.false_ne_true (hstop.symm.trans h.2)))⟩

/-! A write that keeps the logic die running -/

theorem State.regCommand_bnk {m : Master} {off : Nat} (hoff : off < 0x10000) (h : s.writable m (0x20100000 + off)) (v : Word) :
    s.regCommand m (0x20100000 + off) v = (s.seen m).dikeAccess (some m) true off v true true := by
  have hblock : (0x20100000 + off) / 0x10000 = 0x2010 := by omega
  have hrest : (0x20100000 + off) % 0x10000 = off := by omega
  rw [State.regCommand_eq h (by simp only [blockAt, hblock]; rfl) (by omega)]
  simp only [State.regWrite, hblock, hrest]

theorem regAt_bnk {off : Nat} (hoff : off < 0x10000) : regAt (0x20100000 + off) = regsBNK.find? (fun d => d.holds off) := by
  have hblock : (0x20100000 + off) / 0x10000 = 0x2010 := by omega
  have hrest : (0x20100000 + off) % 0x10000 = off := by omega
  simp only [regAt, blockAt, hblock, hrest]

/-- What a write leaves in the bank die, once the link is free again and the heartbeat has been refreshed. -/
def State.bankBeaten (s : State) (b : BankDie) (off : Nat) (v : Word) : BankDie :=
  { b with lastHb := if off = 0 ∧ v.toNat.testBit 0 = true then s.elapsed else b.lastHb }

/-- A command that writes a BNK register, where the write changes registers and the bank die alone. -/
theorem State.linkWrote_regCommand {m : Master} {off : Nat} (hoff : off < 65536) (hw : s.writable m (0x20100000 + off)) (hready : s.dikeReady)
    {v : Word} {l : List Nat} {w : State} (hbnk : ((s.seen m).writeTaken off v).bnkWrite off v = w)
    (hopen : w.bank.open_ = none) (hposted : w.bank.posted = []) (honly : s.onlyRegs w l)
    (hframe : w = { (s.seen m).writeTaken off v with regs := w.regs, bank := w.bank }) :
    ∃ t, s.regCommand m (0x20100000 + off) v = t ∧ s.linkWrote t m off v l ∧ t.regs = w.regs ∧ t.bank = s.bankBeaten w.bank off v := by
  have hrun : (s.seen m).running = true := by rw [State.seen_running]; exact hw.1
  have hready' : (s.seen m).dikeReady := by
    rw [State.dikeReady, State.seen_bank]
    exact hready
  obtain ⟨r, hr⟩ := State.dikeAccess_write hrun hready' (some m) hoff v
  rw [hbnk] at hr
  dsimp only at hr
  have hwrun : w.running = true := by
    rw [hframe]
    exact hrun
  have hel : w.elapsed = s.elapsed := by
    rw [hframe]
    exact s.seen_elapsed m
  have hout : w.outputs = .dike true (dikeFrame 2 s.bank.nextSeq off v.toNat) :: s.outputs := by
    rw [hframe]
    exact congrArg₂ (fun b l => .dike true (dikeFrame 2 (BankDie.nextSeq b) off v.toNat) :: l) (s.seen_bank m) (s.seen_outputs m)
  have hfree : w.free = s.free + 1 := by
    rw [hframe]
    exact congrArg (· + 1) (s.seen_free m)
  have hseen : w = { s.seen m with free := s.free + 1, outputs := w.outputs, regs := w.regs, bank := w.bank } := by
    rw [← hfree, hframe]
    rfl
  have hset : ∀ o b, { w with outputs := o, bank := b } = { s.seen m with free := s.free + 1, outputs := o, regs := w.regs, bank := b } := fun o b =>
    congrArg (fun x : State => { x with outputs := o, bank := b }) hseen
  have hbeats : beats true off v = true ↔ (off = 0 ∧ v.toNat.testBit 0 = true) := by
    simp only [beats, Bool.true_and, Bool.and_eq_true, decide_eq_true_eq]
  refine ⟨_, (State.regCommand_bnk hoff hw v).trans hr, ?_⟩
  by_cases hb : off = 0 ∧ v.toNat.testBit 0 = true
  · have hnone : { w.bank with open_ := none } = w.bank := BankDie.with_open_none hopen
    rw [if_pos ⟨hbeats.2 hb, hwrun⟩, hnone, State.heartbeat_of_free (s := { w with bank := w.bank, outputs := .dike false r :: w.outputs }) hopen hposted]
    refine ⟨⟨hset _ _, honly, r, ?_⟩, rfl, ?_⟩
    · rw [if_pos hb, hout]
      rfl
    · rw [State.bankBeaten, if_pos hb, hel]
  · have hnone : { w.bank with open_ := none } = w.bank := BankDie.with_open_none hopen
    rw [if_neg (fun h => hb (hbeats.1 h.1)), hnone]
    refine ⟨⟨hset _ _, honly, r, ?_⟩, rfl, ?_⟩
    · rw [if_neg hb, hout]
      rfl
    · rw [State.bankBeaten, if_neg hb]

/-! BNK_CTL (R75, R77, R389) -/

/-- BNK_CTL is written and a fatal request taken, but no sleep request has been acted on. -/
def State.ctlWritten (s : State) (v : Word) : State :=
  if v.toNat.testBit 2 then (s.wrPlain BNK_CTL v).fatalTaken 0 else s.wrPlain BNK_CTL v

theorem State.bnkWrite_ctl (s : State) (v : Word) : s.bnkWrite 0 v = if v.toNat.testBit 1 then (s.ctlWritten v).sleepRequest else s.ctlWritten v := rfl

/-- The fatal request that stands after a write of BNK_CTL. -/
def BankDie.fatalReqAfter (b : BankDie) (v : Word) : Option Nat := if v.toNat.testBit 2 then some (b.fatalReq.getD 0) else b.fatalReq

theorem State.ctlWritten_spec (s : State) (v : Word) :
    (s.ctlWritten v).fld BNK_CTL BNK_CTL_safe_run = BNK_CTL_safe_run.get v ∧ (∀ a, a ∉ [BNK_CTL] → (s.ctlWritten v).rd a = s.rd a) ∧
      s.ctlWritten v = { s with regs := (s.ctlWritten v).regs, bank := { s.bank with fatalReq := s.bank.fatalReqAfter v } } := by
  obtain ⟨d, hd, hf⟩ : ∃ d, regAt BNK_CTL = some d ∧ d.fields = [.rw 3 3] := ⟨_, rfl, rfl⟩
  have hwritten := State.rd_wrPlain_of hd s v
  obtain ⟨hothers, hframe⟩ := State.wroteRegs_wrPlain s v (List.mem_singleton_self BNK_CTL)
  have hfld : (s.wrPlain BNK_CTL v).fld BNK_CTL BNK_CTL_safe_run = BNK_CTL_safe_run.get v := by
    rw [State.fld, hwritten]
    simp (disch := decide) only [RegDesc.write, hf, List.foldl, FAcc.write, BNK_CTL_safe_run, Fld.get_put, Fld.get_mod]
  generalize hw : s.wrPlain BNK_CTL v = w at hothers hframe hfld
  rw [State.ctlWritten, BankDie.fatalReqAfter, hw]
  have hbank : w.bank = s.bank := by rw [hframe]
  split
  · refine ⟨hfld, hothers, ?_⟩
    rw [State.fatalTaken, hbank]
    exact congrArg (fun x : State => { x with bank := { s.bank with fatalReq := some (s.bank.fatalReq.getD 0) } }) hframe
  · exact ⟨hfld, hothers, hframe⟩

/-- An edge or a CAN flag is set. -/
abbrev State.wakeSet (s : State) : Prop := s.fld BNK_WAKE_STATUS BNK_WAKE_STATUS_edge ≠ 0 ∨ s.fld BNK_CANW_STATUS BNK_CANW_STATUS_flag ≠ 0

theorem State.wakeSet_congr {t : State} (h : ∀ a, a ∉ [BNK_CTL] → t.rd a = s.rd a) : t.wakeSet ↔ s.wakeSet := by
  rw [State.wakeSet, State.fld, State.fld, h _ (by decide), h _ (by decide)]
  rfl

/-- What the logic die loses in a sleep is lost as from the state before the write. -/
theorem State.logicLost_of_written {x t : State} {l : List Nat} {m : Master} {f : Nat} {o : List Output} {b : BankDie}
    (hframe : x = { s.seen m with free := f, outputs := o, regs := x.regs, bank := b }) (hothers : ∀ a, a ∉ l → x.rd a = s.rd a)
    (h : x.logicLost t []) : s.logicLost t l := by
  obtain ⟨hlogic, hzero, hbnk, hmram, hmem, heq⟩ := h
  have hmb : ∀ a, x.mb a = s.mb a := fun a => by rw [State.mb, hframe]; exact congrArg (fun r => tget (memDefault a) r a) (s.seen_mem m)
  refine ⟨hlogic, hzero, fun a ha hl => ?_, fun a ha => (hmram a ha).trans (hmb a), hmem, ?_⟩
  · rw [List.mem_append, not_or] at hl
    rw [hbnk a ha (by rw [List.append_nil]; exact hl.1), hothers a hl.2]
  · rw [heq, hframe]
    unfold State.seen
    split <;> rfl

theorem State.resetBank_zero (x t : State) : x.resetBank t 0 0 = { x.bank with
    cause := 0, fatalEvent := 0, fatal := none, fatalReq := none, attempts := 0, open_ := none, posted := []
    sel := t.bank.sel, decoding := t.bank.decoding, heaters := t.bank.heaters } := by
  have h4 : ¬ ((0 : Nat) = 4 ∨ (0 : Nat) = 5) := by decide
  have h1 : ¬ ((0 : Nat) = 1 ∨ (0 : Nat) = 3 ∨ (0 : Nat) = 7) := by decide
  simp only [State.resetBank, h4, h1, if_false, ite_self]

/-- The bank die's own state with every supply of the line and the logic die low, and no record of fatal resets. -/
def BankDie.dark (b : BankDie) : BankDie :=
  { b with enV18 := false, enVline := false, enVcore := false, seq := .idle, pgTimer := false, brownTimer := false, minHold := false
           fatals := [], reduced := false }

/-- The device goes into bank only (R393). -/
def State.fallAsleep (x : State) : State := ((x.assertReset 0 0).setBank (x.assertReset 0 0).bank.dark).setDev .bankOnly

theorem State.sleepRequest_of_set (h : s.wakeSet) : s.sleepRequest = s.setFld BNK_STATUS BNK_STATUS_sleep_declined 1 := if_pos h

theorem State.darkened (t : State) :
    (t.enablesLow .idle).setBank { (t.enablesLow .idle).bank with fatals := [], reduced := false } = (t.setBank t.bank.dark).setDev .bankOnly := rfl

theorem State.sleepRequest_of_clear (h : ¬ s.wakeSet) : s.sleepRequest = s.fallAsleep :=
  (if_neg h).trans (s.assertReset 0 0).darkened

theorem State.fallAsleep_spec (x : State) :
    x.logicLost x.fallAsleep [] ∧ x.fallAsleep.dev.state = .bankOnly ∧ x.fallAsleep.bank = (x.resetBank x.fallAsleep 0 0).dark := by
  obtain ⟨hlost, -, -, -, hbank⟩ := x.assertReset_spec 0 0
  unfold State.fallAsleep
  generalize x.assertReset 0 0 = t at hlost hbank
  have hcongr : x.resetBank ((t.setBank t.bank.dark).setDev .bankOnly) 0 0 = x.resetBank t 0 0 := State.resetBank_congr x 0 0 rfl rfl rfl
  refine ⟨State.logicLost_setBank t.bank.dark .bankOnly hlost, rfl, ?_⟩
  rw [hcongr, ← hbank]
  rfl

/-- What the logic die has lost is lost whatever crosses the link then. -/
theorem State.logicLost_out {x : State} {l : List Nat} (h : s.logicLost x l) (b : BankDie) (o : List Output) :
    s.logicLost { x with bank := b, outputs := o } l := by
  obtain ⟨hlogic, hzero, hbnk, hmram, hmem, heq⟩ := h
  exact ⟨hlogic, hzero, hbnk, hmram, hmem, congrArg (fun y : State => { y with bank := b, outputs := o }) heq⟩

theorem State.asleep_bank {w x t : State} {q : Option Nat} (hw : w.bank = { s.linkBank with fatalReq := q })
    (hx : x.bank = (w.resetBank x 0 0).dark) (ht : t.bank = { x.bank with open_ := none }) : t.bank = { s.resetBank t 0 0 with
      fatals := [], reduced := false, nextSeq := (s.bank.nextSeq + 1) % 16, lastSeq := some (s.bank.nextSeq % 16)
      enV18 := false, enVline := false, enVcore := false, seq := .idle, pgTimer := false, brownTimer := false, minHold := false } := by
  have hsame : s.resetBank t 0 0 = s.resetBank x 0 0 :=
    s.resetBank_congr 0 0 (by rw [ht]) (by rw [ht]) (by rw [ht])
  rw [State.resetBank_zero, hw] at hx
  rw [ht, hsame, State.resetBank_zero]
  exact congrArg (fun b : BankDie => { b with open_ := none }) hx

theorem State.writeTaken_rd (m : Master) (off : Nat) (v : Word) (a : Nat) : ((s.seen m).writeTaken off v).rd a = s.rd a :=
  State.rd_congr (s.seen_regs m) a

theorem State.writeTaken_bank (m : Master) (off : Nat) (v : Word) : ((s.seen m).writeTaken off v).bank = s.linkBank :=
  congrArg (fun b : BankDie => { b with nextSeq := (b.nextSeq + 1) % 16, lastSeq := some (b.nextSeq % 16) }) (s.seen_bank m)

section
variable {m : Master} {v k : Word}

/-- A write of BNK_CTL that asks for no sleep. -/
theorem gives_ctl (hready : s.dikeReady) (hw : s.writable m BNK_CTL) (hk : BNK_CTL_safe_run.get k = 0) (h1 : (v ||| k).toNat.testBit 1 = false) :
    ∃ t, s.regCommand m BNK_CTL (v ||| k) = t ∧ s.linkWrote t m 0 (v ||| k) [BNK_CTL] ∧ t.fld BNK_CTL BNK_CTL_safe_run = BNK_CTL_safe_run.get v ∧
      t.bank = { s.linkBank with
        lastHb := (if (v ||| k).toNat.testBit 0 = true then s.elapsed else s.bank.lastHb), fatalReq := s.bank.fatalReqAfter (v ||| k) } := by
  have hwrite : ((s.seen m).writeTaken 0 (v ||| k)).bnkWrite 0 (v ||| k) = ((s.seen m).writeTaken 0 (v ||| k)).ctlWritten (v ||| k) := by
    rw [State.bnkWrite_ctl, if_neg (by rw [h1]; decide)]
  obtain ⟨hrun, hothers, hframe⟩ := ((s.seen m).writeTaken 0 (v ||| k)).ctlWritten_spec (v ||| k)
  rw [State.writeTaken_bank] at hframe
  generalize ((s.seen m).writeTaken 0 (v ||| k)).ctlWritten (v ||| k) = w at hwrite hrun hothers hframe
  have hbank : w.bank = { s.linkBank with fatalReq := s.bank.fatalReqAfter (v ||| k) } := by rw [hframe]; rfl
  obtain ⟨t, ht, hlink, hregs, htbank⟩ := State.linkWrote_regCommand (l := [BNK_CTL]) (by decide) hw hready hwrite (by rw [hbank]; exact hready.1)
    (by rw [hbank]; exact hready.2.1) (fun a hl _ => (hothers a hl).trans (State.writeTaken_rd _ _ _ _)) (by rw [hbank]; exact hframe)
  refine ⟨t, ht, hlink, ?_, ?_⟩
  · rw [State.fld, State.rd_congr hregs]
    exact hrun.trans (Fld.get_or hk v)
  · rw [htbank, hbank, State.bankBeaten]
    simp only [true_and]
    rfl

/-- A sleep request that is declined. -/
theorem gives_declined (hready : s.dikeReady) (hw : s.writable m BNK_CTL) (hset : s.wakeSet) (v : Word) :
    ∃ t, s.regCommand m BNK_CTL (v ||| 2) = t ∧ s.linkWrote t m 0 (v ||| 2) [BNK_CTL, BNK_STATUS] ∧
      t.fld BNK_STATUS BNK_STATUS_sleep_declined = 1 ∧ t.fld BNK_CTL BNK_CTL_safe_run = BNK_CTL_safe_run.get v ∧
      t.bank = { s.linkBank with
        lastHb := (if (v ||| 2).toNat.testBit 0 = true then s.elapsed else s.bank.lastHb), fatalReq := s.bank.fatalReqAfter (v ||| 2) } := by
  obtain ⟨hrun, hothers, hframe⟩ := ((s.seen m).writeTaken 0 (v ||| 2)).ctlWritten_spec (v ||| 2)
  have hbit : (v ||| 2).toNat.testBit 1 = true := testBit_or_set v 2 (by decide) (by decide)
  have hwrite := ((s.seen m).writeTaken 0 (v ||| 2)).bnkWrite_ctl (v ||| 2)
  rw [if_pos hbit] at hwrite
  rw [State.writeTaken_bank] at hframe
  generalize ((s.seen m).writeTaken 0 (v ||| 2)).ctlWritten (v ||| 2) = w at hwrite hrun hothers hframe
  have hrd : ∀ a, a ∉ [BNK_CTL] → w.rd a = s.rd a := fun a ha => (hothers a ha).trans (State.writeTaken_rd _ _ _ _)
  rw [State.sleepRequest_of_set ((State.wakeSet_congr hrd).2 hset)] at hwrite
  have hbank : w.bank = { s.linkBank with fatalReq := s.bank.fatalReqAfter (v ||| 2) } := by rw [hframe]; rfl
  have hstatus := State.wroteRegs_setFld w (l := [BNK_STATUS]) BNK_STATUS_sleep_declined 1 (List.mem_singleton_self _)
  have hone := State.fld_setFld_same (f := BNK_STATUS_sleep_declined) w BNK_STATUS 1 (by decide) (by decide)
  have hctl : (w.setFld BNK_STATUS BNK_STATUS_sleep_declined 1).fld BNK_CTL BNK_CTL_safe_run = w.fld BNK_CTL BNK_CTL_safe_run := by
    rw [State.fld, State.rd_setFld, if_neg (by decide), State.fld]
  generalize w.setFld BNK_STATUS BNK_STATUS_sleep_declined 1 = x at hwrite hstatus hone hctl
  have hxbank : x.bank = { s.linkBank with fatalReq := s.bank.fatalReqAfter (v ||| 2) } := by rw [hstatus.2, hbank]
  obtain ⟨t, ht, hlink, hregs, htbank⟩ := State.linkWrote_regCommand (l := [BNK_CTL, BNK_STATUS]) (by decide) hw hready hwrite
    (by rw [hxbank]; exact hready.1) (by rw [hxbank]; exact hready.2.1)
    (fun a hl _ => (hstatus.1 a (fun h => hl (List.mem_cons_of_mem _ h))).trans (hrd a (fun h => hl (List.mem_cons.2 (.inl (List.mem_singleton.1 h))))))
    (by rw [hstatus.2, hframe])
  refine ⟨t, ht, hlink, ?_, ?_, ?_⟩
  · rw [State.fld, State.rd_congr hregs]
    exact hone
  · rw [State.fld, State.rd_congr hregs]
    exact hctl.trans (hrun.trans (Fld.get_or (by decide) v))
  · rw [htbank, hxbank, State.bankBeaten]
    simp only [true_and]
    rfl

/-- A sleep request that takes the device into bank only. -/
theorem gives_asleep (hready : s.dikeReady) (hw : s.writable m BNK_CTL) (hclear : ¬ s.wakeSet) (v : Word) :
    ∃ t, s.regCommand m BNK_CTL (v ||| 2) = t ∧ s.logicLost t [BNK_CTL] ∧ t.dev.state = .bankOnly ∧
      t.bank = { s.resetBank t 0 0 with
        fatals := [], reduced := false, nextSeq := (s.bank.nextSeq + 1) % 16, lastSeq := some (s.bank.nextSeq % 16)
        enV18 := false, enVline := false, enVcore := false, seq := .idle, pgTimer := false, brownTimer := false, minHold := false } := by
  obtain ⟨-, hothers, hframe⟩ := ((s.seen m).writeTaken 0 (v ||| 2)).ctlWritten_spec (v ||| 2)
  have hbit : (v ||| 2).toNat.testBit 1 = true := testBit_or_set v 2 (by decide) (by decide)
  have hwrite := ((s.seen m).writeTaken 0 (v ||| 2)).bnkWrite_ctl (v ||| 2)
  rw [if_pos hbit] at hwrite
  rw [State.writeTaken_bank] at hframe
  generalize ((s.seen m).writeTaken 0 (v ||| 2)).ctlWritten (v ||| 2) = w at hwrite hothers hframe
  have hrd : ∀ a, a ∉ [BNK_CTL] → w.rd a = s.rd a := fun a ha => (hothers a ha).trans (State.writeTaken_rd _ _ _ _)
  rw [State.sleepRequest_of_clear (fun h => hclear ((State.wakeSet_congr hrd).1 h))] at hwrite
  have hbank : w.bank = { s.linkBank with fatalReq := s.bank.fatalReqAfter (v ||| 2) } := by rw [hframe]; rfl
  obtain ⟨hlost, hstate, hxbank⟩ := w.fallAsleep_spec
  have hslost := State.logicLost_of_written hframe hrd hlost
  generalize w.fallAsleep = x at hwrite hstate hxbank hslost
  obtain ⟨r, hr⟩ := State.dikeAccess_write_stopped (s := s.seen m) (by rw [State.seen_running]; exact hw.1)
    (by rw [State.dikeReady, State.seen_bank]; exact hready) (some m) (off := 0) (by decide) hwrite (State.not_running (.inr (.inl hstate)))
  exact ⟨_, (State.regCommand_bnk (by decide) hw _).trans hr, State.logicLost_out hslost _ _, hstate, State.asleep_bank hbank hxbank rfl⟩

/-- A command that writes a BNK register without a heartbeat, where the write changes registers and the heaters alone. -/
theorem State.linkWrote_plain {off : Nat} (hpos : 0 < off) (hoff : off < 65536) (hw : s.writable m (0x20100000 + off)) (hready : s.dikeReady) {l : List Nat}
    {w : State} (hbnk : ((s.seen m).writeTaken off v).bnkWrite off v = w) (honly : ∀ a, a ∉ l → w.rd a = ((s.seen m).writeTaken off v).rd a)
    {h : Tab Heater} (hframe : w = { (s.seen m).writeTaken off v with regs := w.regs, bank := { s.linkBank with heaters := h } }) :
    ∃ t, s.regCommand m (0x20100000 + off) v = t ∧ s.linkWrote t m off v l ∧ t.regs = w.regs ∧ t.bank = { s.linkBank with heaters := h } := by
  have hbank : w.bank = { s.linkBank with heaters := h } := by rw [hframe]
  obtain ⟨t, ht, hlink, hregs, htbank⟩ := State.linkWrote_regCommand (l := l) hoff hw hready hbnk (by rw [hbank]; exact hready.1)
    (by rw [hbank]; exact hready.2.1) (fun a hl _ => (honly a hl).trans (State.writeTaken_rd _ _ _ _)) (by rw [hbank]; exact hframe)
  refine ⟨t, ht, hlink, hregs, ?_⟩
  rw [htbank, hbank, State.bankBeaten, if_neg (fun h => absurd h.1 (by omega))]

theorem regAt_htrDemand (n : Fin 12) : ∃ d, regAt (BNK_HTR_DEMAND n) = some d ∧ d.fields = [.rwr 9 0 0 1000] := by
  have haddr : BNK_HTR_DEMAND n = 0x20100000 + (0x400 + 32 * n.val) := by rw [BNK_HTR_DEMAND]; omega
  rw [haddr, regAt_bnk (by omega)]
  refine find_holds (d0 := ⟨0x400, 32, 12, 4, 1, 0x0, [.rwr 9 0 0 1000]⟩) (by decide) ((RegDesc.holds_iff _).2 (by dsimp only; omega)) ?_
  simp only [regsBNK, regsBNK0, List.forall_mem_cons, RegDesc.holds_iff, List.cons.injEq, FAcc.rwr.injEq, reduceCtorEq, List.not_mem_nil, implies_true,
    false_implies, and_true, true_and]
  omega

theorem State.heater_setHeater (s : State) (n : Nat) (h : Heater) (k : Nat) : (s.setHeater n h).heater k = if k = n then h else s.heater k :=
  tget_tset (α := Heater) {} {} _ _ _ _ (fun _ => rfl)

theorem State.heater_congr {t u : State} (h : t.bank.heaters = u.bank.heaters) (k : Nat) : t.heater k = u.heater k :=
  congrArg (fun x : Tab Heater => tget (α := Heater) {} x k) h

/-- A heater's demand. -/
theorem gives_demand (hready : s.dikeReady) (n : Fin 12) (hw : s.writable m (BNK_HTR_DEMAND n)) (v : Word) :
    Gives (.heaterDemandWrite m n v) s (fun t => s.linkWrote t m (0x400 + 32 * n.val) v [BNK_HTR_DEMAND n] ∧
      t.fld (BNK_HTR_DEMAND n) BNK_HTR_DEMAND_duty = min (BNK_HTR_DEMAND_duty.get v) 1000 ∧
      t.heater n = { s.heater n with demanded := true, pendFresh := true } ∧ (∀ k, k ≠ n.val → t.heater k = s.heater k) ∧
      t.bank = { s.linkBank with heaters := t.bank.heaters }) := by
  have hlt := n.isLt
  have haddr : BNK_HTR_DEMAND n = 0x20100000 + (0x400 + 32 * n.val) := by rw [BNK_HTR_DEMAND]; omega
  have hbnk : ∀ u : State, u.bnkWrite (0x400 + 32 * n.val) v = u.demandWrite n v := fun u => by
    have hn : (0x400 + 32 * n.val - 0x400) / 32 = n.val := by omega
    unfold State.bnkWrite
    dsimp only
    rw [if_neg (by omega), if_neg (by omega), if_neg (by omega), if_neg (by omega), if_pos (by omega), if_pos (by omega), hn]
  obtain ⟨d, hd, hf⟩ := regAt_htrDemand n
  have hduty : (s.wrPlain (BNK_HTR_DEMAND n) v).fld (BNK_HTR_DEMAND n) BNK_HTR_DEMAND_duty = min (BNK_HTR_DEMAND_duty.get v) 1000 := by
    have hclamp : clampNat 0 1000 (BNK_HTR_DEMAND_duty.get v) = min (BNK_HTR_DEMAND_duty.get v) 1000 := by
      unfold clampNat
      omega
    rw [State.fld, State.rd_wrPlain_of hd]
    simp (disch := decide) only [RegDesc.write, hf, List.foldl, FAcc.write, BNK_HTR_DEMAND_duty, Fld.get_put]
    exact (congrArg (· % 2 ^ 10) hclamp).trans (Nat.mod_eq_of_lt (by omega))
  obtain ⟨u, hu⟩ : ∃ u, (s.seen m).writeTaken (0x400 + 32 * n.val) v = u := ⟨_, rfl⟩
  have hubank : u.bank = s.linkBank := by rw [← hu]; exact State.writeTaken_bank _ _ _
  have hurd : ∀ a, u.rd a = s.rd a := fun a => by rw [← hu]; exact State.writeTaken_rd _ _ _ _
  have hplain := State.wroteRegs_wrPlain u v (List.mem_singleton_self (BNK_HTR_DEMAND n))
  have hpbank : (u.wrPlain (BNK_HTR_DEMAND n) v).bank = s.linkBank := by rw [hplain.2, hubank]
  have hpduty : (u.wrPlain (BNK_HTR_DEMAND n) v).fld (BNK_HTR_DEMAND n) BNK_HTR_DEMAND_duty = min (BNK_HTR_DEMAND_duty.get v) 1000 := by
    rw [← hduty, State.fld, State.rd_wrPlain_of hd, hurd, State.fld, State.rd_wrPlain_of hd]
  have hheater := fun k => State.heater_setHeater (u.wrPlain (BNK_HTR_DEMAND n) v) n.val
    { (u.wrPlain (BNK_HTR_DEMAND n) v).heater n with demanded := true, pendFresh := true } k
  have hpheat : ∀ k, (u.wrPlain (BNK_HTR_DEMAND n) v).heater k = s.heater k := fun k => State.heater_congr (by rw [hpbank]; rfl) k
  have hwrite : u.bnkWrite (0x400 + 32 * n.val) v = (u.wrPlain (BNK_HTR_DEMAND n) v).setHeater n
    { (u.wrPlain (BNK_HTR_DEMAND n) v).heater n with demanded := true, pendFresh := true } := hbnk u
  generalize u.wrPlain (BNK_HTR_DEMAND n) v = p at hplain hpbank hpduty hheater hpheat hwrite
  rw [hpheat n] at hheater hwrite
  obtain ⟨t, ht, hlink, hregs, htbank⟩ := State.linkWrote_plain (l := [BNK_HTR_DEMAND n]) (v := v)
    (h := tset {} p.bank.heaters n { s.heater n with demanded := true, pendFresh := true }) (by omega) (by omega) (haddr ▸ hw) hready
    (hu.symm ▸ hwrite) (by rw [hu]; exact hplain.1) (by
      rw [hu, ← hpbank]
      exact congrArg (State.setBank · (p.setHeater n { s.heater n with demanded := true, pendFresh := true }).bank) hplain.2)
  have hth : ∀ k, t.heater k = if k = n.val then { s.heater n with demanded := true, pendFresh := true } else p.heater k := fun k =>
    (State.heater_congr (by rw [htbank]; rfl) k).trans (hheater k)
  refine ⟨t, congrArg Host.Outcome.next ((congrArg (fun a => s.regCommand m a v) haddr).trans ht), hlink, ?_, (hth n).trans (if_pos rfl),
    fun k hk => (hth k).trans ((if_neg hk).trans (hpheat k)), ?_⟩
  · rw [State.fld, State.rd_congr hregs]
    exact hpduty
  · rw [htbank]

/-- The clear bit of a heater. -/
theorem gives_heaterClear (hready : s.dikeReady) (n : Fin 12) (hw : s.writable m (BNK_HTR_CMD n)) (v : Word) :
    Gives (.clear m n v) s (fun t => s.linkWrote t m (0x41C + 32 * n.val) (v ||| 1) [BNK_HTR_STATUS n] ∧
      t.htr n BNK_HTR_STATUS_short_latched = 0 ∧ t.htr n BNK_HTR_STATUS_eff_duty = s.htr n BNK_HTR_STATUS_eff_duty ∧
      t.heater n = { s.heater n with shorts := (s.heater n).shorts.filter (fun x => x == s.elapsed) } ∧
      (∀ k, k ≠ n.val → t.heater k = s.heater k) ∧ t.bank = { s.linkBank with heaters := t.bank.heaters }) := by
  have hlt := n.isLt
  have haddr : BNK_HTR_CMD n = 0x20100000 + (0x41C + 32 * n.val) := by rw [BNK_HTR_CMD]; omega
  have hbit : (v ||| 1).toNat.testBit 0 = true := testBit_or_set v 1 (by decide) (by decide)
  have hbnk : ∀ u : State, u.bnkWrite (0x41C + 32 * n.val) (v ||| 1) = (u.setHtr n BNK_HTR_STATUS_short_latched 0).setHeater n
      { u.heater n with shorts := (u.heater n).shorts.filter (· == u.elapsed) } := fun u => by
    have hn : (0x41C + 32 * n.val - 0x400) / 32 = n.val := by omega
    unfold State.bnkWrite
    dsimp only
    rw [if_neg (by omega), if_neg (by omega), if_neg (by omega), if_neg (by omega), if_pos (by omega), if_neg (by omega), if_neg (by omega),
      if_pos (by omega), hn]
    exact if_pos hbit
  have hwrite := hbnk ((s.seen m).writeTaken (0x41C + 32 * n.val) (v ||| 1))
  have hubank : ((s.seen m).writeTaken (0x41C + 32 * n.val) (v ||| 1)).bank = s.linkBank := State.writeTaken_bank _ _ _
  have hurd : ∀ a, ((s.seen m).writeTaken (0x41C + 32 * n.val) (v ||| 1)).rd a = s.rd a := State.writeTaken_rd _ _ _
  have hel : ((s.seen m).writeTaken (0x41C + 32 * n.val) (v ||| 1)).elapsed = s.elapsed := s.seen_elapsed m
  have hheat : ∀ k, ((s.seen m).writeTaken (0x41C + 32 * n.val) (v ||| 1)).heater k = s.heater k := State.heater_congr (by rw [hubank]; rfl)
  rw [hel, hheat n] at hwrite
  obtain ⟨u, hu⟩ : ∃ u, (s.seen m).writeTaken (0x41C + 32 * n.val) (v ||| 1) = u := ⟨_, rfl⟩
  rw [hu] at hwrite hubank hurd hheat
  have hset := State.wroteRegs_setFld u (l := [BNK_HTR_STATUS n]) BNK_HTR_STATUS_short_latched 0 (List.mem_singleton_self _)
  have hlatch : (u.setHtr n BNK_HTR_STATUS_short_latched 0).htr n BNK_HTR_STATUS_short_latched = 0 :=
    State.fld_setFld_same (f := BNK_HTR_STATUS_short_latched) u (BNK_HTR_STATUS n) 0 (by decide) (by decide)
  have hduty : (u.setHtr n BNK_HTR_STATUS_short_latched 0).htr n BNK_HTR_STATUS_eff_duty = u.htr n BNK_HTR_STATUS_eff_duty :=
    State.fld_setFld_ne (f := BNK_HTR_STATUS_short_latched) (g := BNK_HTR_STATUS_eff_duty) u 0 (by decide) (by decide) (by decide) (by decide)
  have hheater := State.heater_setHeater (u.setHtr n BNK_HTR_STATUS_short_latched 0) n.val
    { s.heater n with shorts := (s.heater n).shorts.filter (· == s.elapsed) }
  have hsame : u.setHtr n BNK_HTR_STATUS_short_latched 0 = u.setFld (BNK_HTR_STATUS n) BNK_HTR_STATUS_short_latched 0 := rfl
  rw [← hsame] at hset
  generalize u.setHtr n BNK_HTR_STATUS_short_latched 0 = p at hwrite hset hlatch hduty hheater
  have hpbank : p.bank = s.linkBank := by rw [hset.2, hubank]
  obtain ⟨t, ht, hlink, hregs, htbank⟩ := State.linkWrote_plain (l := [BNK_HTR_STATUS n]) (v := v ||| 1)
    (h := tset {} p.bank.heaters n { s.heater n with shorts := (s.heater n).shorts.filter (· == s.elapsed) }) (by omega) (by omega) (haddr ▸ hw) hready
    (hu.symm ▸ hwrite) (by rw [hu]; exact hset.1) (by
      rw [hu, ← hpbank]
      exact congrArg (State.setBank · (p.setHeater n { s.heater n with shorts := (s.heater n).shorts.filter (· == s.elapsed) }).bank) hset.2)
  have hth : ∀ k, t.heater k = if k = n.val then { s.heater n with shorts := (s.heater n).shorts.filter (· == s.elapsed) } else p.heater k := fun k =>
    (State.heater_congr (by rw [htbank]; rfl) k).trans (hheater k)
  have hpheat : ∀ k, p.heater k = s.heater k := State.heater_congr (by rw [hpbank]; rfl)
  refine ⟨t, congrArg Host.Outcome.next ((congrArg (fun a => s.regCommand m a (v ||| 1)) haddr).trans ht), hlink, ?_, ?_, (hth n).trans (if_pos rfl),
    fun k hk => (hth k).trans ((if_neg hk).trans (hpheat k)), ?_⟩
  · rw [State.htr, State.fld, State.rd_congr hregs]
    exact hlatch
  · rw [State.htr, State.fld, State.rd_congr hregs]
    exact hduty.trans (by rw [State.htr, State.fld, hurd]; rfl)
  · rw [htbank]

/-- The least reading of VBAT begins anew. -/
theorem gives_clrMin (hready : s.dikeReady) (hw : s.writable m BNK_SUP_CFG) (v : Word) :
    Gives (.clrMin m v) s (fun t => s.linkWrote t m 0x10 (v ||| 0x100) [BNK_SUP_CFG, BNK_VBAT] ∧
      t.fld BNK_VBAT BNK_VBAT_min_mv = s.fld BNK_VBAT BNK_VBAT_mv ∧ t.fld BNK_VBAT BNK_VBAT_mv = s.fld BNK_VBAT BNK_VBAT_mv ∧ t.bank = s.linkBank) := by
  have hbit : (v ||| 0x100).toNat.testBit 8 = true := testBit_or_set v 0x100 (by decide) (by decide)
  have hbnk : ∀ u : State, u.bnkWrite 0x10 (v ||| 0x100) = (u.wrPlain BNK_SUP_CFG (v ||| 0x100)).setFld BNK_VBAT BNK_VBAT_min_mv
      ((u.wrPlain BNK_SUP_CFG (v ||| 0x100)).fld BNK_VBAT BNK_VBAT_mv) := fun u => if_pos hbit
  have hwrite := hbnk ((s.seen m).writeTaken 0x10 (v ||| 0x100))
  have hubank : ((s.seen m).writeTaken 0x10 (v ||| 0x100)).bank = s.linkBank := State.writeTaken_bank _ _ _
  have hurd : ∀ a, ((s.seen m).writeTaken 0x10 (v ||| 0x100)).rd a = s.rd a := State.writeTaken_rd _ _ _
  obtain ⟨u, hu⟩ : ∃ u, (s.seen m).writeTaken 0x10 (v ||| 0x100) = u := ⟨_, rfl⟩
  rw [hu] at hwrite hubank hurd
  have hplain := State.wroteRegs_wrPlain u (v ||| 0x100) (List.mem_singleton_self BNK_SUP_CFG)
  generalize u.wrPlain BNK_SUP_CFG (v ||| 0x100) = p at hwrite hplain
  have hpvbat : p.rd BNK_VBAT = s.rd BNK_VBAT := (hplain.1 _ (by decide)).trans (hurd _)
  have hpmv : p.fld BNK_VBAT BNK_VBAT_mv = s.fld BNK_VBAT BNK_VBAT_mv := congrArg BNK_VBAT_mv.get hpvbat
  rw [hpmv] at hwrite
  have hset := State.wroteRegs_setFld p (l := [BNK_VBAT]) BNK_VBAT_min_mv (s.fld BNK_VBAT BNK_VBAT_mv) (List.mem_singleton_self _)
  have hmin := State.fld_setFld_same (f := BNK_VBAT_min_mv) p BNK_VBAT (s.fld BNK_VBAT BNK_VBAT_mv) (by decide) (by decide)
  have hmv := State.fld_setFld_ne (f := BNK_VBAT_min_mv) (g := BNK_VBAT_mv) p (a := BNK_VBAT) (s.fld BNK_VBAT BNK_VBAT_mv) (by decide) (by decide)
    (by decide) (by decide)
  have hfit : s.fld BNK_VBAT BNK_VBAT_mv % 2 ^ BNK_VBAT_min_mv.width = s.fld BNK_VBAT BNK_VBAT_mv := Nat.mod_eq_of_lt (BNK_VBAT_mv.get_lt _)
  rw [hfit] at hmin
  rw [hpmv] at hmv
  generalize p.setFld BNK_VBAT BNK_VBAT_min_mv (s.fld BNK_VBAT BNK_VBAT_mv) = w at hwrite hset hmin hmv
  have hwu : w = { u with regs := w.regs } := by
    rw [hset.2, hplain.2]
  obtain ⟨t, ht, hlink, hregs, htbank⟩ := State.linkWrote_plain (l := [BNK_SUP_CFG, BNK_VBAT]) (v := v ||| 0x100) (h := s.linkBank.heaters) (by decide)
    (by decide) hw hready (hu.symm ▸ hwrite) (fun a ha => by
      rw [hu]
      exact (hset.1 a (fun h => ha (List.mem_cons_of_mem _ h))).trans (hplain.1 a (fun h => ha (List.mem_cons.2 (.inl (List.mem_singleton.1 h))))))
    (by
      rw [hu, show ({ s.linkBank with heaters := s.linkBank.heaters } : BankDie) = s.linkBank from rfl, ← hubank]
      exact hwu)
  refine ⟨t, congrArg Host.Outcome.next ht, hlink, ?_, ?_, htbank⟩
  · rw [State.fld, State.rd_congr hregs]
    exact hmin
  · rw [State.fld, State.rd_congr hregs]
    exact hmv

end

end

/-- Settles O8: each command is one write over the free link, whose effect in the bank die is that of its register. -/
theorem bankWrites : Obligations.BankWrites := by
  unfold Obligations.BankWrites
  intro s m v hready
  refine ⟨fun hw h1 => ?_, fun hw h1 => ?_, fun hw hset => ?_, fun hw hedge hflag => ?_, fun n hw => gives_demand hready n hw v,
    fun n hw => gives_heaterClear hready n hw v, fun hw => gives_clrMin hready hw v⟩
  · have hbit0 : (v ||| 1).toNat.testBit 0 = true := testBit_or_set v 1 (by decide) (by decide)
    have hbit1 : (v ||| 1).toNat.testBit 1 = false := (testBit_or_clear v (k := 1) (by decide)).trans h1
    have hbit2 : (v ||| 1).toNat.testBit 2 = v.toNat.testBit 2 := testBit_or_clear v (k := 1) (by decide)
    obtain ⟨t, ht, hlink, hfld, hbank⟩ := gives_ctl (k := 1) (v := v) hready hw (by decide) hbit1
    rw [if_pos hbit0, BankDie.fatalReqAfter, hbit2] at hbank
    exact ⟨t, congrArg Host.Outcome.next ht, hlink, hfld, hbank⟩
  · have hsame : v ||| 1 ||| 2 = v ||| 1 := by
      refine BitVec.eq_of_toNat_eq (Nat.eq_of_testBit_eq fun i => ?_)
      by_cases h : i = 1
      · subst h
        exact (testBit_or_set (v ||| 1) 2 (by decide) (by decide)).trans ((testBit_or_clear v (k := 1) (by decide)).trans h1).symm
      · exact testBit_or_clear (v ||| 1) (k := 2) (Nat.testBit_two_pow_of_ne (n := 1) (Ne.symm h))
    exact congrArg (fun x => Host.Outcome.next (s.regCommand m BNK_CTL x)) hsame.symm
  · have hbit0 : (v ||| 2).toNat.testBit 0 = v.toNat.testBit 0 := testBit_or_clear v (k := 2) (by decide)
    have hbit2 : (v ||| 2).toNat.testBit 2 = v.toNat.testBit 2 := testBit_or_clear v (k := 2) (by decide)
    obtain ⟨t, ht, hlink, hdeclined, hfld, hbank⟩ := gives_declined (v := v) hready hw hset
    rw [BankDie.fatalReqAfter, hbit0, hbit2] at hbank
    exact ⟨t, congrArg Host.Outcome.next ht, hlink, hdeclined, hfld, hbank⟩
  · obtain ⟨t, ht, hlost, hstate, hbank⟩ := gives_asleep hready hw (fun h => h.elim (fun h => h hedge) (fun h => h hflag)) v
    exact ⟨t, congrArg Host.Outcome.next ht, hlost, hstate, hbank⟩

end Sys2Proof.Machine

/-! The PMBus link to the regulator (R50, R51). -/

namespace Sys2Proof.Machine

section
variable {s t u : State}

/-! What the link's steps leave unchanged -/

/-- Nothing changes but HLT_PMB_STATUS, the link's state, what it sends and the event queue's buffers. -/
def State.pmbFrame (s t : State) : Prop :=
  s.onlyRegs t [HLT_PMB_STATUS] ∧ t = { s with regs := t.regs, flt := t.flt, hlt := t.hlt, outputs := t.outputs }

theorem State.pmbFrame.trans (h1 : s.pmbFrame t) (h2 : t.pmbFrame u) : s.pmbFrame u := by
  obtain ⟨honly, heq⟩ := h1
  obtain ⟨honly', heq'⟩ := h2
  refine ⟨fun a hl ha => (honly' a hl ha).trans (honly a hl ha), ?_⟩
  rw [heq', heq]

theorem State.pmbFrame.running (h : s.pmbFrame t) : t.running = s.running := by
  rw [h.2]
  rfl

/-- The regulator's address, which the link's steps leave as it is. -/
abbrev State.pmbAddr (s : State) : Nat := s.fld HLT_PMB_CFG HLT_PMB_CFG_addr

theorem State.pmbFrame.pmbAddr (h : s.pmbFrame t) : t.pmbAddr = s.pmbAddr :=
  congrArg HLT_PMB_CFG_addr.get (h.1 HLT_PMB_CFG (by decide) (by decide))

/-- A change of the link's state and of what it sends. -/
theorem State.pmbFrame_of_hlt (h : t = { s with hlt := t.hlt, outputs := t.outputs }) : s.pmbFrame t := by
  refine ⟨fun a _ _ => by rw [h]; rfl, ?_⟩
  rw [h]

theorem State.wroteRegs.pmbFrame (h : s.wroteRegs t [HLT_PMB_STATUS]) : s.pmbFrame t := by
  refine ⟨h.onlyRegs, ?_⟩
  rw [h.2]

theorem State.pmbFrame_of_raised (honly : s.onlyRegs t [HLT_PMB_STATUS]) (h : s.regFrame t) : s.pmbFrame t := by
  refine ⟨honly, ?_⟩
  rw [h]

/-! A field of the status that is set with its event -/

/-- A field of HLT_PMB_STATUS is set and an event raised. -/
theorem State.marked_spec (s : State) {f : Fld} (hle : f.lo ≤ f.hi) (h32 : f.hi < 32) {c k : Nat} (hc : c < 0x1100) (hk : k < 7) (hb : bankEvent c = false) :
    let t := (s.setFld HLT_PMB_STATUS f 1).raise c k
    t.fld HLT_PMB_STATUS f = 1 ∧ (∀ g : Fld, g.lo ≤ g.hi → (g.hi < f.lo ∨ f.hi < g.lo) → t.fld HLT_PMB_STATUS g = s.fld HLT_PMB_STATUS g) ∧
      s.posts t c k noInst ∧ s.onlyRegs t [HLT_PMB_STATUS] ∧ s.regFrame t := by
  have hw : 1 % 2 ^ f.width = 1 := Nat.mod_eq_of_lt (Nat.one_lt_two_pow (by rw [Fld.width]; omega))
  have hset := State.wroteRegs_setFld s (l := [HLT_PMB_STATUS]) f 1 (List.mem_singleton_self _)
  have hself := State.fld_setFld_same (f := f) s HLT_PMB_STATUS 1 hle h32
  have hothers : ∀ g : Fld, g.lo ≤ g.hi → (g.hi < f.lo ∨ f.hi < g.lo) →
      (s.setFld HLT_PMB_STATUS f 1).fld HLT_PMB_STATUS g = s.fld HLT_PMB_STATUS g := fun g hg hne => State.fld_setFld_ne s 1 hle h32 hg hne
  generalize s.setFld HLT_PMB_STATUS f 1 = u at hset hself hothers
  obtain ⟨hposts, honly, hframe⟩ := State.raised (s := s) (u := u) (by rw [hset.2]; rfl) (by rw [hset.2]) hset.onlyRegs (c := c) (k := k) noInst 0 hc hk hb
  have hrd : (u.raise c k).rd HLT_PMB_STATUS = u.rd HLT_PMB_STATUS := (u.raise_frame c k noInst 0 hc).onlyRegs [] _ List.not_mem_nil (by decide)
  refine ⟨?_, fun g hg hne => ?_, hposts, honly, ?_⟩
  · rw [State.fld, hrd]
    exact hself.trans hw
  · rw [State.fld, hrd]
    exact hothers g hg hne
  · show u.raise c k = _
    generalize u.raise c k = t at hframe
    rw [hframe, hset.2]

/-! The link's transactions -/

theorem State.pmbEnd_none (h : s.hlt.pmbWait = []) : s.pmbEnd = s.setHlt { s.hlt with pmb := none } := by
  rw [State.pmbEnd, h]

theorem State.pmbEnd_next {d : PmbCmd} {l : List PmbCmd} (h : s.hlt.pmbWait = d :: l) :
    s.pmbEnd = { s with hlt := { s.hlt with pmb := some (d, 0), pmbWait := l }, outputs := .pmbus s.pmbAddr d :: s.outputs } := by
  rw [State.pmbEnd, h]
  rfl

theorem State.pmbEnd_frame (s : State) : s.pmbEnd = { s with hlt := s.pmbEnd.hlt, outputs := s.pmbEnd.outputs } := by
  cases h : s.hlt.pmbWait with
  | nil => rw [State.pmbEnd_none h]; rfl
  | cons d l => rw [State.pmbEnd_next h]

/-- What the end of a transaction leaves, after steps that changed HLT_PMB_STATUS and events alone. -/
theorem State.pmbEnd_after (hframe : s.regFrame u) (honly : s.onlyRegs u [HLT_PMB_STATUS]) :
    (s.hlt.pmbWait = [] → u.pmbEnd.hlt = { s.hlt with pmb := none } ∧ u.pmbEnd.outputs = s.outputs) ∧
      (∀ (d : PmbCmd) (l : List PmbCmd), s.hlt.pmbWait = d :: l →
        u.pmbEnd.hlt = { s.hlt with pmb := some (d, 0), pmbWait := l } ∧ u.pmbEnd.outputs = .pmbus s.pmbAddr d :: s.outputs) := by
  have haddr := (State.pmbFrame_of_raised honly hframe).pmbAddr
  have hhlt : u.hlt = s.hlt := by rw [hframe]
  have hout : u.outputs = s.outputs := by rw [hframe]
  refine ⟨fun h => ?_, fun d l h => ?_⟩
  · rw [State.pmbEnd_none (by rw [hhlt, h]), ← hhlt, ← hout]
    exact ⟨rfl, rfl⟩
  · rw [State.pmbEnd_next (by rw [hhlt, h]), haddr, hhlt, hout]
    exact ⟨rfl, rfl⟩

/-- A read-back is compared with its command. -/
def State.readBack (s : State) (mv : Nat) : PmbCmd → State
  | .readVout x => s.checkVout x mv
  | _ => s

/-- A transaction other than VOUT_COMMAND that has gone through. -/
theorem State.pmbDone_ok {c : PmbCmd} {n : Nat} (h : s.hlt.pmb = some (c, n)) (hc : c.isVout = false) (mv : Nat) :
    s.pmbDone (.ok mv) = (s.readBack mv c).pmbEnd := by
  unfold State.pmbDone
  dsimp only
  rw [h]
  cases c with
  | vout x => cases hc
  | voutMode => rfl
  | readVout x => rfl
  | statusWord => rfl
  | clearFaults => rfl

theorem State.err_counted (s : State) (k : Nat) :
    (s.addFld HLT_PMB_STATUS HLT_PMB_STATUS_err_count k).fld HLT_PMB_STATUS HLT_PMB_STATUS_err_count =
      min (s.fld HLT_PMB_STATUS HLT_PMB_STATUS_err_count + k) 65535 := by
  have hlt : satAdd HLT_PMB_STATUS_err_count.width (s.fld HLT_PMB_STATUS HLT_PMB_STATUS_err_count) k =
      min (s.fld HLT_PMB_STATUS HLT_PMB_STATUS_err_count + k) 65535 := rfl
  have hfit : min (s.fld HLT_PMB_STATUS HLT_PMB_STATUS_err_count + k) 65535 < 2 ^ HLT_PMB_STATUS_err_count.width :=
    Nat.lt_succ_of_le (Nat.min_le_right _ _)
  rw [State.addFld, State.fld_setFld_same (f := HLT_PMB_STATUS_err_count) s HLT_PMB_STATUS _ (by decide) (by decide), hlt, Nat.mod_eq_of_lt hfit]

/-- An attempt that fails is counted. -/
theorem State.err_frame (s : State) (k : Nat) : s.wroteRegs (s.addFld HLT_PMB_STATUS HLT_PMB_STATUS_err_count k) [HLT_PMB_STATUS] :=
  State.wroteRegs_setFld s _ _ (List.mem_singleton_self _)

theorem State.err_other (s : State) (k : Nat) {g : Fld} (hg : g.lo ≤ g.hi) (hne : 15 < g.lo) :
    (s.addFld HLT_PMB_STATUS HLT_PMB_STATUS_err_count k).fld HLT_PMB_STATUS g = s.fld HLT_PMB_STATUS g :=
  State.fld_setFld_ne s _ (by decide) (by decide) hg (.inr hne)

/-- The loss of the link. -/
theorem State.pmbLost_spec (s : State) :
    s.pmbLost.fld HLT_PMB_STATUS HLT_PMB_STATUS_link_lost = 1 ∧
      s.pmbLost.fld HLT_PMB_STATUS HLT_PMB_STATUS_err_count = s.fld HLT_PMB_STATUS HLT_PMB_STATUS_err_count ∧
      s.posts s.pmbLost 0x0230 4 noInst ∧ s.onlyRegs s.pmbLost [HLT_PMB_STATUS] ∧ s.regFrame s.pmbLost := by
  obtain ⟨hself, hothers, hrest⟩ := s.marked_spec (f := HLT_PMB_STATUS_link_lost) (c := 0x0230) (k := 4) (by decide) (by decide) (by decide) (by decide) rfl
  exact ⟨hself, hothers HLT_PMB_STATUS_err_count (by decide) (by decide), hrest⟩

/-- The loss of the link, after steps that raised nothing. -/
theorem State.pmbLost_after (hframe : s.pmbFrame u) (hflt : u.flt = s.flt) :
    u.pmbLost.fld HLT_PMB_STATUS HLT_PMB_STATUS_link_lost = 1 ∧
      u.pmbLost.fld HLT_PMB_STATUS HLT_PMB_STATUS_err_count = u.fld HLT_PMB_STATUS HLT_PMB_STATUS_err_count ∧
      s.posts u.pmbLost 0x0230 4 noInst ∧ u.pmbLost.hlt = u.hlt ∧ u.pmbLost.outputs = u.outputs ∧ s.pmbFrame u.pmbLost := by
  obtain ⟨hlost, herr, hposts, honly, hreg⟩ := u.pmbLost_spec
  have hlframe := hframe.trans (State.pmbFrame_of_raised honly hreg)
  generalize u.pmbLost = t at hlost herr hposts honly hreg hlframe
  exact ⟨hlost, herr, State.posts_congr hframe.running hflt hposts, by rw [hreg], by rw [hreg], hlframe⟩

/-- A failed attempt. -/
theorem State.pmbError_spec {c : PmbCmd} {n : Nat} (h : s.hlt.pmb = some (c, n)) :
    let t := s.pmbError
    t.fld HLT_PMB_STATUS HLT_PMB_STATUS_err_count = min (s.fld HLT_PMB_STATUS HLT_PMB_STATUS_err_count + 1) 65535 ∧
      (n < 3 → t.hlt = { s.hlt with pmb := some (c, n + 1) } ∧ t.outputs = .pmbus s.pmbAddr c :: s.outputs ∧ t.flt = s.flt ∧
        t.fld HLT_PMB_STATUS HLT_PMB_STATUS_link_lost = s.fld HLT_PMB_STATUS HLT_PMB_STATUS_link_lost) ∧
      (3 ≤ n → t.fld HLT_PMB_STATUS HLT_PMB_STATUS_link_lost = 1 ∧ s.posts t 0x0230 4 noInst) ∧
      (3 ≤ n → s.hlt.pmbWait = [] → t.hlt = { s.hlt with pmb := none } ∧ t.outputs = s.outputs) ∧
      (∀ (d : PmbCmd) (l : List PmbCmd), 3 ≤ n → s.hlt.pmbWait = d :: l →
        t.hlt = { s.hlt with pmb := some (d, 0), pmbWait := l } ∧ t.outputs = .pmbus s.pmbAddr d :: s.outputs) ∧ s.pmbFrame t := by
  have herror : s.pmbError = (let s1 := s.addFld HLT_PMB_STATUS HLT_PMB_STATUS_err_count 1
      if n < 3 then (s1.setHlt { s1.hlt with pmb := some (c, n + 1) }).pmbOut c else s1.pmbEnd.pmbLost) := by
    rw [State.pmbError, h]
  rw [herror]
  have herr := s.err_counted 1
  have hlost := s.err_other 1 (g := HLT_PMB_STATUS_link_lost) (by decide) (by decide)
  have hwrote := s.err_frame 1
  generalize s.addFld HLT_PMB_STATUS HLT_PMB_STATUS_err_count 1 = u at herr hlost hwrote
  have hframe := hwrote.pmbFrame
  have hflt : u.flt = s.flt := by rw [hwrote.2]
  dsimp only
  by_cases hn : n < 3
  · rw [if_pos hn]
    refine ⟨herr, fun _ => ⟨?_, ?_, hflt, hlost⟩, fun h => absurd h (by omega), fun h => absurd h (by omega), fun _ _ h => absurd h (by omega),
      hframe.trans (State.pmbFrame_of_hlt rfl)⟩
    · show { u.hlt with pmb := some (c, n + 1) } = _
      rw [hwrote.2]
    · show Output.pmbus u.pmbAddr c :: u.outputs = _
      rw [hframe.pmbAddr, hwrote.2]
  · rw [if_neg hn]
    have hreg : s.regFrame u := by
      rw [State.regFrame, hwrote.2]
    obtain ⟨hnone, hnext⟩ := State.pmbEnd_after hreg hwrote.onlyRegs
    have heframe := u.pmbEnd_frame
    generalize u.pmbEnd = v at hnone hnext heframe
    have hverr : v.fld HLT_PMB_STATUS HLT_PMB_STATUS_err_count = u.fld HLT_PMB_STATUS HLT_PMB_STATUS_err_count := by rw [heframe]; rfl
    obtain ⟨hlink, hlerr, hposts, hhlt, hout, hlframe⟩ := State.pmbLost_after (u := v) (hframe.trans (State.pmbFrame_of_hlt heframe))
      (by rw [heframe]; exact hflt)
    refine ⟨hlerr.trans (hverr.trans herr), fun h => absurd h hn, fun _ => ⟨hlink, hposts⟩, fun _ hw => ?_, fun d l _ hw => ?_, hlframe⟩
    · rw [hhlt, hout]
      exact hnone hw
    · rw [hhlt, hout]
      exact hnext d l hw

/-! Reads that the device makes at once -/

theorem foldl_pmbOut (c : PmbCmd) (s : State) (l : List Nat) :
    l.foldl (fun t _ => State.pmbOut t c) s = { s with outputs := List.replicate l.length (.pmbus s.pmbAddr c) ++ s.outputs } := by
  induction l generalizing s with
  | nil => rfl
  | cons n l ih =>
    rw [List.foldl_cons, ih, List.length_cons, List.replicate_succ']
    simp only [List.append_assoc]
    rfl

/-- The attempts at a read, before a fourth failure loses the link. -/
def State.pmbTried (s : State) (c : PmbCmd) (fails : Nat) : State :=
  ((List.range (min 4 (fails + 1))).foldl (fun t _ => t.pmbOut c) s).addFld HLT_PMB_STATUS HLT_PMB_STATUS_err_count (min 4 fails)

theorem State.pmbRead_eq (s : State) (c : PmbCmd) (fails : Nat) :
    s.pmbRead c fails = if fails < 4 then (s.pmbTried c fails, true) else ((s.pmbTried c fails).pmbLost, false) := rfl

theorem State.pmbTried_spec (s : State) (c : PmbCmd) (fails : Fin 5) :
    let t := s.pmbTried c fails
    t.fld HLT_PMB_STATUS HLT_PMB_STATUS_err_count = min (s.fld HLT_PMB_STATUS HLT_PMB_STATUS_err_count + fails) 65535 ∧
      (∀ g : Fld, g.lo ≤ g.hi → 15 < g.lo → t.fld HLT_PMB_STATUS g = s.fld HLT_PMB_STATUS g) ∧
      t.outputs = List.replicate (min 4 (fails + 1)) (Output.pmbus s.pmbAddr c) ++ s.outputs ∧ t.hlt = s.hlt ∧ t.flt = s.flt ∧ s.pmbFrame t := by
  have hmin : min 4 fails.val = fails.val := by omega
  have hfold := foldl_pmbOut c s (List.range (min 4 (fails.val + 1)))
  rw [List.length_range] at hfold
  rw [State.pmbTried, hfold, hmin]
  obtain ⟨u, hu⟩ : ∃ u : State, { s with outputs := List.replicate (min 4 (fails.val + 1)) (.pmbus s.pmbAddr c) ++ s.outputs } = u := ⟨_, rfl⟩
  rw [hu]
  have herr := u.err_counted fails
  have hothers := fun (g : Fld) hg hne => u.err_other fails (g := g) hg hne
  have hwrote := u.err_frame fails
  have hufld : ∀ g, u.fld HLT_PMB_STATUS g = s.fld HLT_PMB_STATUS g := fun g => by rw [← hu]; rfl
  have huframe : s.pmbFrame u := State.pmbFrame_of_hlt (by rw [← hu])
  generalize u.addFld HLT_PMB_STATUS HLT_PMB_STATUS_err_count fails = t at herr hothers hwrote
  rw [hufld] at herr
  refine ⟨herr, fun g hg hne => (hothers g hg hne).trans (hufld g), ?_, ?_, ?_, huframe.trans hwrote.pmbFrame⟩
  · rw [hwrote.2, ← hu]
  · rw [hwrote.2, ← hu]
  · rw [hwrote.2, ← hu]

/-- CLEAR_FAULTS starts on a free link and waits behind another transaction. -/
theorem State.pmbSend_clearFaults (s : State) :
    (s.hlt.pmb = none → (s.pmbSend .clearFaults).outputs = .pmbus s.pmbAddr .clearFaults :: s.outputs ∧
        (s.pmbSend .clearFaults).hlt = { s.hlt with pmb := some (.clearFaults, 0) }) ∧
      (s.hlt.pmb ≠ none → (s.pmbSend .clearFaults).outputs = s.outputs ∧
        (s.pmbSend .clearFaults).hlt = { s.hlt with pmbWait := s.hlt.pmbWait ++ [.clearFaults] }) ∧
      s.pmbSend .clearFaults = { s with hlt := (s.pmbSend .clearFaults).hlt, outputs := (s.pmbSend .clearFaults).outputs } := by
  rw [State.pmbSend]
  cases s.hlt.pmb with
  | none => exact ⟨fun _ => ⟨rfl, rfl⟩, fun h => absurd rfl h, rfl⟩
  | some q => exact ⟨fun h => absurd h (by simp), fun _ => ⟨rfl, rfl⟩, rfl⟩

theorem State.pmbAlert_failed (hrun : s.running = true) (status : Nat) : s.pmbAlert 4 status = (s.pmbTried .statusWord 4).pmbLost := by
  rw [State.pmbAlert, hrun, State.pmbRead_eq]
  rfl

theorem State.pmbAlert_answered (hrun : s.running = true) {fails : Nat} (h : fails < 4) (status : Nat) :
    s.pmbAlert fails status = if status = 0 then s.pmbTried .statusWord fails
      else (((s.pmbTried .statusWord fails).setFld HLT_PMB_STATUS HLT_PMB_STATUS_reg_fault 1).raise 0x0231 4).pmbSend .clearFaults := by
  rw [State.pmbAlert, hrun, State.pmbRead_eq, if_pos h]
  rfl

/-- PMB_ALERT_N of a running logic die. -/
theorem State.pmbAlert_spec (hrun : s.running = true) (fails : Fin 5) (status : BitVec 16) :
    let t := s.pmbAlert fails status.toNat
    let reads := List.replicate (min 4 (fails + 1)) (Output.pmbus s.pmbAddr .statusWord) ++ s.outputs
    t.fld HLT_PMB_STATUS HLT_PMB_STATUS_err_count = min (s.fld HLT_PMB_STATUS HLT_PMB_STATUS_err_count + fails) 65535 ∧
      (fails = 4 → t.fld HLT_PMB_STATUS HLT_PMB_STATUS_link_lost = 1 ∧ s.posts t 0x0230 4 noInst ∧ t.outputs = reads ∧ t.hlt = s.hlt) ∧
      (fails ≠ 4 → status = 0 → t.flt = s.flt ∧ t.outputs = reads ∧ t.hlt = s.hlt ∧
        t.fld HLT_PMB_STATUS HLT_PMB_STATUS_reg_fault = s.fld HLT_PMB_STATUS HLT_PMB_STATUS_reg_fault) ∧
      (fails ≠ 4 → status ≠ 0 → t.fld HLT_PMB_STATUS HLT_PMB_STATUS_reg_fault = 1 ∧ s.posts t 0x0231 4 noInst ∧
        (s.hlt.pmb = none → t.outputs = .pmbus s.pmbAddr .clearFaults :: reads ∧ t.hlt = { s.hlt with pmb := some (.clearFaults, 0) }) ∧
        (s.hlt.pmb ≠ none → t.outputs = reads ∧ t.hlt = { s.hlt with pmbWait := s.hlt.pmbWait ++ [.clearFaults] })) ∧
      s.pmbFrame t := by
  dsimp only
  obtain ⟨herr, hothers, hout, hhlt, hflt, hframe⟩ := s.pmbTried_spec .statusWord fails
  by_cases hf : fails = 4
  · subst hf
    rw [show ((4 : Fin 5) : Nat) = 4 from rfl] at herr hout hothers hhlt hflt hframe ⊢
    rw [State.pmbAlert_failed hrun]
    obtain ⟨hlink, hlerr, hposts, hlhlt, hlout, hlframe⟩ := State.pmbLost_after hframe hflt
    exact ⟨hlerr.trans herr, fun _ => ⟨hlink, hposts, hlout.trans hout, hlhlt.trans hhlt⟩, fun h => absurd rfl h, fun h => absurd rfl h, hlframe⟩
  · rw [State.pmbAlert_answered hrun (by omega)]
    by_cases hs : status = 0
    · have h0 : status.toNat = 0 := by rw [hs]; rfl
      rw [if_pos h0]
      exact ⟨herr, fun h => absurd h hf, fun _ _ => ⟨hflt, hout, hhlt, hothers HLT_PMB_STATUS_reg_fault (by decide) (by decide)⟩,
        fun _ h => absurd hs h, hframe⟩
    · have h0 : status.toNat ≠ 0 := fun h => hs (BitVec.eq_of_toNat_eq h)
      rw [if_neg h0]
      obtain ⟨hmark, hkept, hposts, honly, hreg⟩ := (s.pmbTried .statusWord fails).marked_spec (f := HLT_PMB_STATUS_reg_fault) (c := 0x0231) (k := 4)
        (by decide) (by decide) (by decide) (by decide) rfl
      have hposts' := State.posts_congr hframe.running hflt hposts
      have herr' := (hkept HLT_PMB_STATUS_err_count (by decide) (by decide)).trans herr
      have hmframe := hframe.trans (State.pmbFrame_of_raised honly hreg)
      generalize ((s.pmbTried .statusWord fails).setFld HLT_PMB_STATUS HLT_PMB_STATUS_reg_fault 1).raise 0x0231 4 = u at hmark hreg hposts' herr' hmframe
      have huhlt : u.hlt = s.hlt := by rw [hreg]; exact hhlt
      have huout := (congrArg State.outputs hreg).trans hout
      obtain ⟨hfree, hbusy, heq⟩ := u.pmbSend_clearFaults
      rw [huhlt, huout, hmframe.pmbAddr] at hfree
      rw [huhlt, huout] at hbusy
      generalize u.pmbSend .clearFaults = t at hfree hbusy heq
      have hfld : ∀ g, t.fld HLT_PMB_STATUS g = u.fld HLT_PMB_STATUS g := fun g => by rw [heq]; rfl
      refine ⟨(hfld _).trans herr', fun h => absurd h hf, fun _ h => absurd h hs, fun _ _ => ⟨(hfld _).trans hmark, ?_, hfree, hbusy⟩,
        hmframe.trans (State.pmbFrame_of_hlt heq)⟩
      have htflt : t.flt = u.flt := by rw [heq]
      simp only [State.posts, htflt] at hposts' ⊢
      exact hposts'

theorem State.voutMode_failed (hrun : s.running = true) (linear : Bool) : s.voutMode 4 linear = (s.pmbTried .voutMode 4).pmbLost := by
  rw [State.voutMode, hrun, State.pmbRead_eq]
  rfl

theorem State.voutMode_answered (hrun : s.running = true) {fails : Nat} (h : fails < 4) (linear : Bool) :
    s.voutMode fails linear = (let u := (s.pmbTried .voutMode fails).setHlt { (s.pmbTried .voutMode fails).hlt with notLinear := !linear }
      if linear then u else (u.setFld HLT_PMB_STATUS HLT_PMB_STATUS_mode_refused 1).raise 0x0232 5) := by
  rw [State.voutMode, hrun, State.pmbRead_eq, if_pos h]
  rfl

/-- The format read of a running logic die. -/
theorem State.voutMode_spec (hrun : s.running = true) (fails : Fin 5) (linear : Bool) :
    let t := s.voutMode fails linear
    t.fld HLT_PMB_STATUS HLT_PMB_STATUS_err_count = min (s.fld HLT_PMB_STATUS HLT_PMB_STATUS_err_count + fails) 65535 ∧
      t.outputs = List.replicate (min 4 (fails + 1)) (Output.pmbus s.pmbAddr .voutMode) ++ s.outputs ∧
      (fails = 4 → t.fld HLT_PMB_STATUS HLT_PMB_STATUS_link_lost = 1 ∧ s.posts t 0x0230 4 noInst ∧ t.hlt = s.hlt) ∧
      (fails ≠ 4 → t.hlt = { s.hlt with notLinear := !linear } ∧
        (linear = true → t.flt = s.flt ∧ t.fld HLT_PMB_STATUS HLT_PMB_STATUS_mode_refused = s.fld HLT_PMB_STATUS HLT_PMB_STATUS_mode_refused) ∧
        (linear = false → t.fld HLT_PMB_STATUS HLT_PMB_STATUS_mode_refused = 1 ∧ s.posts t 0x0232 5 noInst)) ∧
      s.pmbFrame t := by
  dsimp only
  obtain ⟨herr, hothers, hout, hhlt, hflt, hframe⟩ := s.pmbTried_spec .voutMode fails
  by_cases hf : fails = 4
  · subst hf
    rw [show ((4 : Fin 5) : Nat) = 4 from rfl] at herr hout hothers hhlt hflt hframe ⊢
    rw [State.voutMode_failed hrun]
    obtain ⟨hlink, hlerr, hposts, hlhlt, hlout, hlframe⟩ := State.pmbLost_after hframe hflt
    exact ⟨hlerr.trans herr, hlout.trans hout, fun _ => ⟨hlink, hposts, hlhlt.trans hhlt⟩, fun h => absurd rfl h, hlframe⟩
  · rw [State.voutMode_answered hrun (by omega)]
    generalize s.pmbTried .voutMode fails = r at herr hothers hout hhlt hflt hframe
    obtain ⟨u, hu⟩ : ∃ u : State, r.setHlt { r.hlt with notLinear := !linear } = u := ⟨_, rfl⟩
    have huframe : s.pmbFrame u := hframe.trans (State.pmbFrame_of_hlt (by rw [← hu]; rfl))
    have hufld : ∀ g, u.fld HLT_PMB_STATUS g = r.fld HLT_PMB_STATUS g := fun g => by rw [← hu]; rfl
    have huhlt : u.hlt = { s.hlt with notLinear := !linear } := by rw [← hu, ← hhlt]; rfl
    have huout : u.outputs = r.outputs := by rw [← hu]; rfl
    have huflt : u.flt = s.flt := by rw [← hu]; exact hflt
    dsimp only
    rw [hu]
    cases linear with
    | true =>
      rw [if_pos rfl]
      exact ⟨(hufld _).trans herr, huout.trans hout, fun h => absurd h hf,
        fun _ => ⟨huhlt, fun _ => ⟨huflt, (hufld _).trans (hothers HLT_PMB_STATUS_mode_refused (by decide) (by decide))⟩, fun h => by cases h⟩, huframe⟩
    | false =>
      rw [if_neg Bool.false_ne_true]
      obtain ⟨hmark, hkept, hposts, honly, hreg⟩ := u.marked_spec (f := HLT_PMB_STATUS_mode_refused) (c := 0x0232) (k := 5)
        (by decide) (by decide) (by decide) (by decide) rfl
      have hmframe := huframe.trans (State.pmbFrame_of_raised honly hreg)
      have hposts' := State.posts_congr huframe.running huflt hposts
      have herr' := (hkept HLT_PMB_STATUS_err_count (by decide) (by decide)).trans ((hufld _).trans herr)
      generalize (u.setFld HLT_PMB_STATUS HLT_PMB_STATUS_mode_refused 1).raise 0x0232 5 = t at hmark hposts' hreg hmframe herr'
      have hthlt : t.hlt = u.hlt := by rw [hreg]
      have htout : t.outputs = u.outputs := by rw [hreg]
      exact ⟨herr', htout.trans (huout.trans hout), fun h => absurd h hf, fun _ => ⟨hthlt.trans huhlt, fun h => absurd h Bool.false_ne_true, fun _ => ⟨hmark, hposts'⟩⟩, hmframe⟩

/-- The end of an answered transaction other than VOUT_COMMAND. -/
theorem State.pmbDone_spec {c : PmbCmd} {n : Nat} (h : s.hlt.pmb = some (c, n)) (hc : c.isVout = false) (mv : Nat) :
    let t := s.pmbDone (.ok mv)
    (s.hlt.pmbWait = [] → t.hlt = { s.hlt with pmb := none } ∧ t.outputs = s.outputs) ∧
      (∀ (d : PmbCmd) (l : List PmbCmd), s.hlt.pmbWait = d :: l →
        t.hlt = { s.hlt with pmb := some (d, 0), pmbWait := l } ∧ t.outputs = .pmbus s.pmbAddr d :: s.outputs) ∧
      (∀ x : Nat, c = .readVout x → 25 < absDiff mv x → t.fld HLT_PMB_STATUS HLT_PMB_STATUS_vmismatch = 1 ∧ s.posts t 0x0233 4 noInst) ∧
      ((∀ x : Nat, c = .readVout x → absDiff mv x ≤ 25) → t.regs = s.regs ∧ t.flt = s.flt) ∧
      t.fld HLT_PMB_STATUS HLT_PMB_STATUS_err_count = s.fld HLT_PMB_STATUS HLT_PMB_STATUS_err_count ∧ s.pmbFrame t := by
  dsimp only
  rw [State.pmbDone_ok h hc]
  by_cases hoff : ∃ x, c = .readVout x ∧ 25 < absDiff mv x
  · obtain ⟨x, rfl, hx⟩ := hoff
    obtain ⟨hmark, hkept, hposts, honly, hreg⟩ := s.marked_spec (f := HLT_PMB_STATUS_vmismatch) (c := 0x0233) (k := 4)
      (by decide) (by decide) (by decide) (by decide) rfl
    have herr := hkept HLT_PMB_STATUS_err_count (by decide) (by decide)
    have hcheck : s.checkVout x mv = (s.setFld HLT_PMB_STATUS HLT_PMB_STATUS_vmismatch 1).raise 0x0233 4 := if_pos hx
    rw [State.readBack, hcheck]
    generalize (s.setFld HLT_PMB_STATUS HLT_PMB_STATUS_vmismatch 1).raise 0x0233 4 = u at hmark hposts honly hreg herr
    obtain ⟨hnone, hnext⟩ := State.pmbEnd_after hreg honly
    have heq := u.pmbEnd_frame
    generalize u.pmbEnd = t at hnone hnext heq
    have hfld : ∀ g, t.fld HLT_PMB_STATUS g = u.fld HLT_PMB_STATUS g := fun g => by rw [heq]; rfl
    have htflt : t.flt = u.flt := by rw [heq]
    refine ⟨hnone, hnext, fun _ _ _ => ⟨(hfld _).trans hmark, ?_⟩, fun hall => absurd (hall x rfl) (by omega), (hfld _).trans herr,
      (State.pmbFrame_of_raised honly hreg).trans (State.pmbFrame_of_hlt heq)⟩
    simp only [State.posts, htflt] at hposts ⊢
    exact hposts
  · have hsame : s.readBack mv c = s := by
      cases c with
      | readVout x => exact if_neg (fun hx => hoff ⟨x, rfl, hx⟩)
      | _ => rfl
    rw [hsame]
    obtain ⟨hnone, hnext⟩ := State.pmbEnd_after (s := s) (u := s) rfl (State.onlyRegs.refl s _)
    have heq := s.pmbEnd_frame
    generalize s.pmbEnd = t at hnone hnext heq
    have hregs : t.regs = s.regs := by rw [heq]
    have hflt : t.flt = s.flt := by rw [heq]
    exact ⟨hnone, hnext, fun x hx hgt => absurd ⟨x, hx, hgt⟩ hoff, fun _ => ⟨hregs, hflt⟩, by rw [State.fld, State.rd_congr hregs]; rfl,
      State.pmbFrame_of_hlt heq⟩

end

/-- Settles O12: each answer, failed attempt, alert and format read by the rule of the link for it. -/
theorem regulatorLink : Obligations.RegulatorLink := by
  unfold Obligations.RegulatorLink
  intro s
  refine ⟨fun x n mv h => ⟨_, rfl, ?_⟩, fun c n mv h hc => ⟨_, rfl, State.pmbDone_spec h hc mv⟩, fun c n cmd h hcmd => ?_, fun r cmd h hcmd => ?_,
    fun fails status hrun => ⟨_, rfl, State.pmbAlert_spec hrun fails status⟩, fun fails linear hrun => ⟨_, rfl, State.voutMode_spec hrun fails linear⟩,
    fun fails status linear hrun => ⟨⟨_, rfl, ?_⟩, ⟨_, rfl, ?_⟩⟩⟩
  · have hdone : s.pmbDone (.ok mv) = s.pmbStart (.readVout x) := by
      unfold State.pmbDone
      dsimp only
      rw [h]
    exact hdone
  · rcases hcmd with rfl | rfl | rfl <;> exact ⟨_, rfl, State.pmbError_spec h⟩
  · have herror : s.pmbError = s := by rw [State.pmbError, h]
    rcases hcmd with rfl | rfl
    · cases r with
      | ok mv =>
        refine ⟨_, rfl, ?_⟩
        unfold State.pmbDone
        dsimp only
        rw [h]
      | nack => exact ⟨_, rfl, herror⟩
      | pecError => exact ⟨_, rfl, herror⟩
    · exact ⟨_, rfl, herror⟩
  · rw [State.pmbAlert, hrun]
    rfl
  · rw [State.voutMode, hrun]
    rfl

end Sys2Proof.Machine

/-! The events that a step raises in one block's buffer, in order (R429). -/

namespace Sys2Proof.Machine

section
variable {s t u : State} {b : Nat} {es es' : List (Nat × Nat × Nat)}

/-- The buffer of a block. -/
abbrev State.postBuf (s : State) (b : Nat) : List Posting := tget [] s.flt.post b

/-- What a posting says: its code, class and unit. -/
def Posting.says (p : Posting) : Nat × Nat × Nat := (p.code, p.cls, p.inst)

/-- While the logic die runs and where the block's buffer has room, these events, given by code, class and unit, stand behind what stood
in it, in order. -/
def State.logs (s t : State) (b : Nat) (es : List (Nat × Nat × Nat)) : Prop :=
  s.running = true → (s.postBuf b).length + es.length ≤ 16 → ∃ ps, t.postBuf b = s.postBuf b ++ ps ∧ ps.map Posting.says = es

theorem State.logs_of_flt (h : t.flt = s.flt) : s.logs t b [] := fun _ _ => ⟨[], by rw [State.postBuf, h, List.append_nil], rfl⟩

theorem State.logs.refl (s : State) (b : Nat) : s.logs s b [] := State.logs_of_flt rfl

theorem State.logs.trans (h1 : s.logs t b es) (hrun : t.running = s.running) (h2 : t.logs u b es') : s.logs u b (es ++ es') := by
  intro hr hroom
  rw [List.length_append] at hroom
  obtain ⟨ps, hps, hmap⟩ := h1 hr (by omega)
  have hlen : ps.length = es.length := by rw [← hmap, List.length_map]
  obtain ⟨qs, hqs, hmap'⟩ := h2 (hrun.trans hr) (by rw [hps, List.length_append]; omega)
  exact ⟨ps ++ qs, by rw [hqs, hps, List.append_assoc], by rw [List.map_append, hmap, hmap']⟩

theorem State.logs_raise (s : State) {c k : Nat} (i d : Nat) : s.logs (s.raise c k i d) (c / 256) [(c, k, i % 4096)] := by
  intro hr hroom
  exact ⟨[s.posting c k i d], by rw [State.postBuf, State.post_raise hr k i d hroom, if_pos rfl], rfl⟩

theorem State.postBuf_putPosting_ne (s : State) {p : Posting} (h : p.code / 256 ≠ b) : (s.putPosting p).1.postBuf b = s.postBuf b := by
  simp only [State.putPosting, State.postBuf]
  split
  · simp only [tget_tset [] [] _ _ _ _ (fun _ => rfl)]
    exact if_neg (fun e => h e.symm)
  · rfl

/-- An event leaves the buffers of the other blocks as they are; what overflows is told in block 3. -/
theorem State.postBuf_raise_ne (s : State) {c k : Nat} (i d : Nat) (h : c / 256 ≠ b) (h3 : b ≠ 3) : (s.raise c k i d).postBuf b = s.postBuf b := by
  simp only [State.raise, State.raiseP]
  split
  · have h0 : State.postBuf (if bankEvent c = true then (s.freeIx.2.out (.dike false (dikeFrame 3 0 0 (Config.dikeData s.freeIx.1).toNat))) else s) b = s.postBuf b := by
      split <;> rfl
    generalize (if bankEvent c = true then (s.freeIx.2.out (.dike false (dikeFrame 3 0 0 (Config.dikeData s.freeIx.1).toNat))) else s) = w at h0 ⊢
    have h1 : State.postBuf (if 7 ≤ k then w.requestFatal c else w) b = s.postBuf b := by
      split
      · rw [State.postBuf, State.requestFatal_flt]
        exact h0
      · exact h0
    generalize (if 7 ≤ k then w.requestFatal c else w) = x at h1 ⊢
    have h2 := (x.postBuf_putPosting_ne (p := { code := c, cls := k, inst := i % 4096, detail := d % 2 ^ 32, ts := s.tide.toNat % 2 ^ 44 }) h).trans h1
    generalize x.putPosting _ = y at h2 ⊢
    split
    · exact h2
    · split
      · exact (State.postBuf_putPosting_ne (b := b) (y.1.markRaise 0x0304 (c / 256))
          (p := { code := 0x0304, cls := 2, inst := c / 256, detail := 0, ts := s.tide.toNat % 2 ^ 44 }) (by dsimp only; omega)).trans h2
      · exact h2
  · rfl

theorem State.logs_raise_ne (s : State) {c k : Nat} (i d : Nat) (h : c / 256 ≠ b) (h3 : b ≠ 3) : s.logs (s.raise c k i d) b [] := fun _ _ =>
  ⟨[], by rw [s.postBuf_raise_ne i d h h3, List.append_nil], rfl⟩

/-- Each of the events is told. -/
theorem State.logs.tells (h : s.logs t b es) {n c k i : Nat} (hmem : (c, k, i) ∈ es) (hn : es.length ≤ n) (hb : c / 256 = b) :
    s.tells t n c k i := by
  intro hr hroom
  subst hb
  obtain ⟨ps, hps, hmap⟩ := h hr (le_trans (Nat.add_le_add_left hn _) hroom)
  rw [← hmap] at hmem
  obtain ⟨p, hp, hsays⟩ := List.mem_map.1 hmem
  rw [Posting.says, Prod.mk.injEq, Prod.mk.injEq] at hsays
  obtain ⟨hc, hk, hi⟩ := hsays
  refine ⟨p, ?_, hc, hk, hi⟩
  rw [State.postBuf, State.postBuf] at hps
  rw [hps, List.drop_left]
  exact hp

theorem State.logs_ite {p : Prop} [Decidable p] {s t u : State} (ht : s.logs t b es) (hu : s.logs u b es') : s.logs (if p then t else u) b (if p then es else es') := by
  split
  · exact ht
  · exact hu

/-- A fold of steps, each with its own events. -/
theorem State.logs_foldl {α : Type} {f : State → α → State} {e : α → List (Nat × Nat × Nat)} {l : List α} {P : State → Prop}
    (hstep : ∀ t x, x ∈ l → P t → t.logs (f t x) b (e x) ∧ (f t x).running = t.running ∧ P (f t x)) (hs : P s) :
    s.logs (l.foldl f s) b (l.flatMap e) ∧ (l.foldl f s).running = s.running := by
  induction l generalizing s with
  | nil => exact ⟨State.logs.refl s b, rfl⟩
  | cons x l ih =>
    obtain ⟨hlog, hrun, hP⟩ := hstep s x List.mem_cons_self hs
    obtain ⟨hrest, hrun'⟩ := ih (fun t y hy => hstep t y (List.mem_cons_of_mem _ hy)) hP
    rw [List.foldl_cons, List.flatMap_cons]
    exact ⟨hlog.trans hrun hrest, hrun'.trans hrun⟩

end

/-! A fold over distinct units, each of which has its own part of the state -/

/-- What a fold leaves in one unit's part: what that unit's step leaves in it, and nothing where the fold does not reach it. -/
theorem foldl_cell {σ α β : Type} (f : σ → α → σ) (g : σ → β) (I : σ → Prop) (n : α) (F : β → β) {l : List α} (hself : n ∈ l → ∀ t, I t → g (f t n) = F (g t))
    (hother : ∀ t k, k ∈ l → I t → k ≠ n → g (f t k) = g t) (hI : ∀ t k, k ∈ l → I t → I (f t k)) (hl : l.Nodup) {s : σ} (hs : I s) :
    (n ∈ l → g (l.foldl f s) = F (g s)) ∧ (n ∉ l → g (l.foldl f s) = g s) := by
  induction l generalizing s with
  | nil => exact ⟨fun h => absurd h List.not_mem_nil, fun _ => rfl⟩
  | cons k l ih =>
    obtain ⟨hk, hl⟩ := List.nodup_cons.1 hl
    obtain ⟨hin, hout⟩ := ih (fun h => hself (List.mem_cons_of_mem _ h)) (fun t j hj => hother t j (List.mem_cons_of_mem _ hj))
      (fun t j hj => hI t j (List.mem_cons_of_mem _ hj)) hl (hI s k List.mem_cons_self hs)
    rw [List.foldl_cons]
    constructor
    · intro h
      by_cases hkn : k = n
      · subst hkn
        exact (hout hk).trans (hself List.mem_cons_self s hs)
      · rw [hin ((List.mem_cons.1 h).resolve_left (Ne.symm hkn)), hother s k List.mem_cons_self hs hkn]
    · intro h
      rw [List.mem_cons, not_or] at h
      rw [hout h.2, hother s k List.mem_cons_self hs (Ne.symm h.1)]

end Sys2Proof.Machine

/-! The temperature sensors and the voltage monitors (R40, R41, R43, R50, R53). -/

namespace Sys2Proof.Machine

section
variable {s t u : State} {l l' : List Nat}

/-! Changes of the health block alone -/

/-- Nothing changes but registers of a list, the health block's state and the event queue's buffers. -/
def State.hltFrame (s t : State) (l : List Nat) : Prop := s.onlyRegs t l ∧ t = { s with regs := t.regs, flt := t.flt, hlt := t.hlt }

theorem State.hltFrame.refl (s : State) (l : List Nat) : s.hltFrame s l := ⟨State.onlyRegs.refl s l, rfl⟩

theorem State.hltFrame.trans (h1 : s.hltFrame t l) (h2 : t.hltFrame u l) : s.hltFrame u l := by
  refine ⟨fun a hl ha => (h2.1 a hl ha).trans (h1.1 a hl ha), ?_⟩
  rw [h2.2, h1.2]

theorem State.hltFrame.mono (h : s.hltFrame t l) (hl : ∀ a ∈ l, a ∈ l') : s.hltFrame t l' := ⟨fun a ha hl' => h.1 a (fun hm => ha (hl a hm)) hl', h.2⟩

theorem State.hltFrame.running (h : s.hltFrame t l) : t.running = s.running := by
  rw [h.2]
  rfl

theorem State.wroteEvents.hltFrame (h : s.wroteEvents t l) : s.hltFrame t l := by
  refine ⟨h.1, ?_⟩
  rw [h.2]

theorem State.hltFrame_setHlt (s : State) (h : HltState) (l : List Nat) : s.hltFrame (s.setHlt h) l := ⟨State.onlyRegs.refl _ _, rfl⟩

theorem State.hltFrame_ite {p : Prop} [Decidable p] (ht : s.hltFrame t l) (hu : s.hltFrame u l) : s.hltFrame (if p then t else u) l := by
  split
  · exact ht
  · exact hu

theorem State.hltFrame_raise (s : State) {c k : Nat} (i d : Nat) (hc : c < 0x1100) (hk : k < 7) (hb : bankEvent c = false) (l : List Nat) :
    s.hltFrame (s.raise c k i d) l := (State.wroteEvents_raise s i d hc hk hb).hltFrame

/-- An event leaves the health block's state as it is. -/
theorem State.raise_hlt (s : State) {c k : Nat} (i d : Nat) (hc : c < 0x1100) (hk : k < 7) (hb : bankEvent c = false) : (s.raise c k i d).hlt = s.hlt := by
  have h := s.raise_regFrame i d hc hk hb
  rw [h]

/-! One sensor's reading (R40) -/

/-- The sensor is invalid from this reading on. -/
def State.tempBadNow (s : State) (r : List Int) (n : Nat) : Bool := s.hlt.tempBad.testBit n || s.tempImplausible r n

/-- The sensor is found invalid by this reading. -/
def State.tempFound (s : State) (r : List Int) (n : Nat) : Bool := s.tempBadNow r n && !s.hlt.tempBad.testBit n

/-- What the sensor's register holds as its highest reading. -/
def State.tempHold (s : State) (r : List Int) (n : Nat) : Int :=
  if s.hlt.tempSeen then max (signed 12 (s.fld (HLT_TEMP n) HLT_TEMP_max_hold)) (r.getD n 0) else r.getD n 0

/-- A sensor that is found invalid is noted, with its event. -/
def State.tempNoted (s : State) (r : List Int) (t : State) (n : Nat) : State :=
  if s.tempFound r n then (t.setHlt { t.hlt with tempBad := withBit t.hlt.tempBad n true }).raise 0x0213 3 n else t

/-- A sensor's register takes its reading. -/
def State.tempShown (s : State) (r : List Int) (t : State) (n : Nat) : State :=
  ((t.setFld (HLT_TEMP n) HLT_TEMP_temp (unsigned 12 (r.getD n 0))).setFld (HLT_TEMP n) HLT_TEMP_valid (boolNat (!s.tempBadNow r n))).setFld
    (HLT_TEMP n) HLT_TEMP_max_hold (unsigned 12 (s.tempHold r n))

/-- One sensor of a sample. -/
def State.tempRead (s : State) (r : List Int) (t : State) (n : Nat) : State := s.tempShown r (s.tempNoted r t n) n

theorem unsigned_lt (w : Nat) (i : Int) : unsigned w i < 2 ^ w := by
  have hpos : (0 : Int) < ((2 ^ w : Nat) : Int) := Int.natCast_pos.2 (Nat.two_pow_pos w)
  have hlt := Int.emod_lt_of_pos i hpos
  have hge := Int.emod_nonneg i (ne_of_gt hpos)
  rw [unsigned]
  omega

theorem State.tempShown_spec (s : State) (r : List Int) (t : State) (n : Nat) :
    t.wroteRegs (s.tempShown r t n) [HLT_TEMP n] ∧ (s.tempShown r t n).fld (HLT_TEMP n) HLT_TEMP_temp = unsigned 12 (r.getD n 0) ∧
      (s.tempShown r t n).fld (HLT_TEMP n) HLT_TEMP_valid = boolNat (!s.tempBadNow r n) ∧
      (s.tempShown r t n).fld (HLT_TEMP n) HLT_TEMP_max_hold = unsigned 12 (s.tempHold r n) := by
  have hw : ∀ (x : State) (f : Fld) (v : Nat), x.wroteRegs (x.setFld (HLT_TEMP n) f v) [HLT_TEMP n] := fun x f v =>
    State.wroteRegs_setFld x f v (List.mem_singleton_self _)
  have htemp := Nat.mod_eq_of_lt (unsigned_lt 12 (r.getD n 0))
  have hhold := Nat.mod_eq_of_lt (unsigned_lt 12 (s.tempHold r n))
  have hvalid := Nat.mod_eq_of_lt (boolNat_lt (!s.tempBadNow r n))
  refine ⟨((hw _ _ _).trans (hw _ _ _)).trans (hw _ _ _), ?_, ?_, ?_⟩
  · rw [State.tempShown, State.fld_setFld_ne (f := HLT_TEMP_max_hold) (g := HLT_TEMP_temp) _ _ (by decide) (by decide) (by decide) (by decide),
      State.fld_setFld_ne (f := HLT_TEMP_valid) (g := HLT_TEMP_temp) _ _ (by decide) (by decide) (by decide) (by decide),
      State.fld_setFld_same (f := HLT_TEMP_temp) _ _ _ (by decide) (by decide)]
    exact htemp
  · rw [State.tempShown, State.fld_setFld_ne (f := HLT_TEMP_max_hold) (g := HLT_TEMP_valid) _ _ (by decide) (by decide) (by decide) (by decide),
      State.fld_setFld_same (f := HLT_TEMP_valid) _ _ _ (by decide) (by decide)]
    exact hvalid
  · rw [State.tempShown, State.fld_setFld_same (f := HLT_TEMP_max_hold) _ _ _ (by decide) (by decide)]
    exact hhold

/-- The event of a sensor that is found invalid. -/
def State.tempEvents (s : State) (r : List Int) (n : Nat) : List (Nat × Nat × Nat) := if s.tempFound r n then [(0x0213, 3, n % 4096)] else []

theorem State.tempNoted_spec (s : State) (r : List Int) (t : State) (n : Nat) :
    t.hltFrame (s.tempNoted r t n) [] ∧
      (s.tempNoted r t n).hlt = { t.hlt with tempBad := if s.tempFound r n then withBit t.hlt.tempBad n true else t.hlt.tempBad } ∧
      t.logs (s.tempNoted r t n) 2 (s.tempEvents r n) ∧ t.logs (s.tempNoted r t n) 14 [] := by
  rw [State.tempNoted, State.tempEvents]
  by_cases h : s.tempFound r n = true
  · have hset := t.hltFrame_setHlt { t.hlt with tempBad := withBit t.hlt.tempBad n true } []
    have hstart : ∀ b, t.logs (t.setHlt { t.hlt with tempBad := withBit t.hlt.tempBad n true }) b [] := fun b => State.logs_of_flt rfl
    rw [if_pos h, if_pos h, if_pos h]
    refine ⟨hset.trans (State.hltFrame_raise _ _ _ (by decide) (by decide) rfl []), State.raise_hlt _ _ _ (by decide) (by decide) rfl,
      (hstart 2).trans rfl (State.logs_raise _ n 0), (hstart 14).trans rfl (State.logs_raise_ne _ n 0 (by decide) (by decide))⟩
  · rw [if_neg h, if_neg h, if_neg h]
    exact ⟨State.hltFrame.refl t [], rfl, State.logs.refl t 2, State.logs.refl t 14⟩

/-- What one sensor's reading leaves. -/
theorem State.tempRead_spec (s : State) (r : List Int) (t : State) (n : Nat) :
    t.hltFrame (s.tempRead r t n) [HLT_TEMP n] ∧
      (s.tempRead r t n).hlt = { t.hlt with tempBad := if s.tempFound r n then withBit t.hlt.tempBad n true else t.hlt.tempBad } ∧
      t.logs (s.tempRead r t n) 2 (s.tempEvents r n) ∧ t.logs (s.tempRead r t n) 14 [] := by
  obtain ⟨hframe, hhlt, hlog, hlog'⟩ := s.tempNoted_spec r t n
  obtain ⟨hwrote, -⟩ := s.tempShown_spec r (s.tempNoted r t n) n
  rw [State.tempRead]
  generalize s.tempNoted r t n = u at hframe hhlt hlog hlog' hwrote
  have hend : ∀ b, u.logs (s.tempShown r u n) b [] := fun b => State.logs_of_flt (by rw [hwrote.2])
  refine ⟨(hframe.mono (fun _ h => absurd h List.not_mem_nil)).trans hwrote.wroteEvents.hltFrame, ?_, ?_, hlog'.trans hframe.running (hend 14)⟩
  · rw [← hhlt, hwrote.2]
  · rw [← List.append_nil (s.tempEvents r n)]
    exact hlog.trans hframe.running (hend 2)

theorem HLT_TEMP_inj {n k : Nat} (h : HLT_TEMP n = HLT_TEMP k) : n = k := by
  rw [HLT_TEMP, HLT_TEMP] at h
  omega

theorem HLT_TEMP_not_lost {n : Nat} (hn : n < 24) : HLT_TEMP n < FLT_SRC_LOST 1 ∨ FLT_SRC_LOST 16 < HLT_TEMP n := .inl (by
  rw [HLT_TEMP, FLT_SRC_LOST]
  omega)

/-! The sensors of a sample -/

/-- All sensors of a sample. -/
def State.tempsRead (s : State) (r : List Int) : State := (List.range 24).foldl (s.tempRead r) (s.setHlt { s.hlt with tempSeen := true })

theorem foldl_tempRead_bad (s : State) (r : List Int) (n : Nat) (l : List Nat) (t : State) :
    (l.foldl (s.tempRead r) t).hlt.tempBad.testBit n = (t.hlt.tempBad.testBit n || (decide (n ∈ l) && s.tempFound r n)) ∧
      (l.foldl (s.tempRead r) t).hlt = { t.hlt with tempBad := (l.foldl (s.tempRead r) t).hlt.tempBad } := by
  induction l generalizing t with
  | nil => exact ⟨by simp, rfl⟩
  | cons k l ih =>
    obtain ⟨-, hhlt, -⟩ := s.tempRead_spec r t k
    obtain ⟨hbit, heq⟩ := ih (s.tempRead r t k)
    rw [List.foldl_cons]
    refine ⟨?_, heq.trans (by rw [hhlt])⟩
    rw [hbit, hhlt]
    by_cases hf : s.tempFound r k = true
    · simp only [hf, if_true, testBit_withBit]
      by_cases hk : n = k
      · subst hk
        simp [hf]
      · simp [hk]
    · simp only [if_neg hf]
      by_cases hk : n = k
      · subst hk
        simp [hf]
      · simp [hk]

/-- What all sensors' readings leave. -/
theorem State.tempsRead_spec (s : State) (r : List Int) :
    s.hltFrame (s.tempsRead r) ((List.range 24).map HLT_TEMP) ∧
      (s.tempsRead r).hlt = { s.hlt with tempSeen := true, tempBad := (s.tempsRead r).hlt.tempBad } ∧
      (∀ n < 24, (s.tempsRead r).hlt.tempBad.testBit n = s.tempBadNow r n ∧
        (s.tempsRead r).fld (HLT_TEMP n) HLT_TEMP_temp = unsigned 12 (r.getD n 0) ∧
        (s.tempsRead r).fld (HLT_TEMP n) HLT_TEMP_valid = boolNat (!s.tempBadNow r n) ∧
        (s.tempsRead r).fld (HLT_TEMP n) HLT_TEMP_max_hold = unsigned 12 (s.tempHold r n)) ∧
      s.logs (s.tempsRead r) 2 ((List.range 24).flatMap (s.tempEvents r)) ∧ s.logs (s.tempsRead r) 14 [] := by
  have hmem : ∀ n ∈ List.range 24, HLT_TEMP n ∈ (List.range 24).map HLT_TEMP := fun n hn => List.mem_map.2 ⟨n, hn, rfl⟩
  have hframe : s.hltFrame (s.tempsRead r) ((List.range 24).map HLT_TEMP) := by
    refine (s.hltFrame_setHlt { s.hlt with tempSeen := true } _).trans ?_
    refine List.foldlRecOn (motive := fun t => (s.setHlt { s.hlt with tempSeen := true }).hltFrame t ((List.range 24).map HLT_TEMP)) _ _
      (State.hltFrame.refl _ _) fun t ht n hn => ht.trans ((s.tempRead_spec r t n).1.mono fun a ha => ?_)
    rw [List.mem_singleton.1 ha]
    exact hmem n hn
  have hlogs : ∀ (b : Nat) (e : Nat → List (Nat × Nat × Nat)), (∀ (t : State) n, t.logs (s.tempRead r t n) b (e n)) →
      s.logs (s.tempsRead r) b ((List.range 24).flatMap e) := fun b e he => by
    refine State.logs.trans (es := []) (State.logs_of_flt (t := s.setHlt { s.hlt with tempSeen := true }) rfl) rfl ?_
    exact (State.logs_foldl (P := fun _ => True) (fun t n _ _ => ⟨he t n, (s.tempRead_spec r t n).1.running, trivial⟩) trivial).1
  refine ⟨hframe, (foldl_tempRead_bad s r 0 _ _).2, fun n hn => ⟨?_, ?_⟩, hlogs 2 _ (fun t n => (s.tempRead_spec r t n).2.2.1), ?_⟩
  · rw [State.tempsRead, (foldl_tempRead_bad s r n _ _).1]
    rw [decide_eq_true (List.mem_range.2 hn), State.tempFound]
    show (s.hlt.tempBad.testBit n || (true && (s.tempBadNow r n && !s.hlt.tempBad.testBit n))) = s.tempBadNow r n
    rw [State.tempBadNow]
    cases s.hlt.tempBad.testBit n <;> simp
  · refine foldl_gets (fun t : State => t.fld (HLT_TEMP n) HLT_TEMP_temp = unsigned 12 (r.getD n 0) ∧
      t.fld (HLT_TEMP n) HLT_TEMP_valid = boolNat (!s.tempBadNow r n) ∧ t.fld (HLT_TEMP n) HLT_TEMP_max_hold = unsigned 12 (s.tempHold r n))
      (s.tempRead r) (List.range 24) n (List.mem_range.2 hn) (fun t => (s.tempShown_spec r (s.tempNoted r t n) n).2) (fun t k ht => ?_) _
    by_cases hk : k = n
    · rw [hk]
      exact (s.tempShown_spec r (s.tempNoted r t n) n).2
    · have hrd : (s.tempRead r t k).rd (HLT_TEMP n) = t.rd (HLT_TEMP n) :=
        (s.tempRead_spec r t k).1.1 _ (fun h => hk (HLT_TEMP_inj (List.mem_singleton.1 h)).symm) (HLT_TEMP_not_lost hn)
      simp only [State.fld, hrd] at ht ⊢
      exact ht
  · have h := hlogs 14 (fun _ => []) (fun t n => (s.tempRead_spec r t n).2.2.2)
    rwa [List.flatMap_eq_nil_iff.2 (fun _ _ => rfl)] at h

/-! The thresholds (R41) -/

/-- The warning against a hottest sensor. -/
def State.tempWarned (s : State) (top : Int) : State :=
  if s.hlt.warnActive then
    if top < 8 * s.fld HLT_TEMP_LIM HLT_TEMP_LIM_warn - 40 then (s.setHlt { s.hlt with warnActive := false }).raise 0x0214 0 else s
  else if 8 * s.fld HLT_TEMP_LIM HLT_TEMP_LIM_warn ≤ top then (s.setHlt { s.hlt with warnActive := true }).raise 0x0210 3 else s

/-- The limit against a hottest sensor. -/
def State.tempLimited (s : State) (top : Int) : State :=
  if s.hlt.limitActive then
    if top < 960 then s.setHlt { s.hlt with limitActive := false } else s
  else if 1000 ≤ top then (s.setHlt { s.hlt with limitActive := true }).raise 0x0211 5 else s

/-- The three thresholds. -/
def State.tempJudged (s : State) (top : Int) : State :=
  let u := (s.tempWarned top).tempLimited top
  u.setHlt { u.hlt with critTimer := 1040 ≤ top }

/-- The events of the warning and of the limit. -/
def State.warnEvents (s : State) (top : Int) : List (Nat × Nat × Nat) :=
  if s.hlt.warnActive then if top < 8 * s.fld HLT_TEMP_LIM HLT_TEMP_LIM_warn - 40 then [(0x0214, 0, noInst)] else []
  else if 8 * s.fld HLT_TEMP_LIM HLT_TEMP_LIM_warn ≤ top then [(0x0210, 3, noInst)] else []

def State.limitEvents (s : State) (top : Int) : List (Nat × Nat × Nat) :=
  if s.hlt.limitActive then [] else if 1000 ≤ top then [(0x0211, 5, noInst)] else []

/-- A change of the health block's state with an event of its own block. -/
theorem State.hltRaised (s : State) (h : HltState) {c k : Nat} (hc : c < 0x1100) (hk : k < 7) (hb : bankEvent c = false) (hblock : c / 256 = 2) :
    s.hltFrame ((s.setHlt h).raise c k) [] ∧ ((s.setHlt h).raise c k).hlt = h ∧ s.logs ((s.setHlt h).raise c k) 2 [(c, k, noInst)] ∧
      s.logs ((s.setHlt h).raise c k) 14 [] := by
  have hstart : ∀ b, s.logs (s.setHlt h) b [] := fun b => State.logs_of_flt rfl
  have hlog : s.logs ((s.setHlt h).raise c k) (c / 256) [(c, k, noInst)] := (hstart _).trans rfl (State.logs_raise _ noInst 0)
  rw [hblock] at hlog
  exact ⟨(s.hltFrame_setHlt h []).trans (State.hltFrame_raise _ _ _ hc hk hb []), State.raise_hlt _ _ _ hc hk hb, hlog,
    (hstart 14).trans rfl (State.logs_raise_ne _ _ _ (by omega) (by decide))⟩

theorem State.tempWarned_spec (s : State) (top : Int) :
    let warn : Int := 8 * s.fld HLT_TEMP_LIM HLT_TEMP_LIM_warn
    s.hltFrame (s.tempWarned top) [] ∧
      (s.tempWarned top).hlt = { s.hlt with warnActive := if s.hlt.warnActive then decide (warn - 40 ≤ top) else decide (warn ≤ top) } ∧
      s.logs (s.tempWarned top) 2 (s.warnEvents top) ∧ s.logs (s.tempWarned top) 14 [] := by
  dsimp only
  rw [State.tempWarned, State.warnEvents]
  generalize 8 * ((s.fld HLT_TEMP_LIM HLT_TEMP_LIM_warn : Nat) : Int) = warn
  have hsame : ∀ b, s.hlt.warnActive = b → s.hlt = { s.hlt with warnActive := b } := fun b h => by rw [← h]
  by_cases hw : s.hlt.warnActive = true
  · rw [if_pos hw, if_pos hw, if_pos hw]
    by_cases h : top < warn - 40
    · rw [if_pos h, if_pos h, decide_eq_false (by omega)]
      exact s.hltRaised _ (by decide) (by decide) rfl rfl
    · rw [if_neg h, if_neg h, decide_eq_true (by omega)]
      exact ⟨State.hltFrame.refl s [], hsame _ hw, State.logs.refl s 2, State.logs.refl s 14⟩
  · rw [if_neg hw, if_neg hw, if_neg hw]
    by_cases h : warn ≤ top
    · rw [if_pos h, if_pos h, decide_eq_true h]
      exact s.hltRaised _ (by decide) (by decide) rfl rfl
    · rw [if_neg h, if_neg h, decide_eq_false h]
      exact ⟨State.hltFrame.refl s [], hsame _ (Bool.eq_false_iff.2 hw), State.logs.refl s 2, State.logs.refl s 14⟩

theorem State.tempLimited_spec (s : State) (top : Int) :
    s.hltFrame (s.tempLimited top) [] ∧
      (s.tempLimited top).hlt = { s.hlt with limitActive := if s.hlt.limitActive then decide (960 ≤ top) else decide (1000 ≤ top) } ∧
      s.logs (s.tempLimited top) 2 (s.limitEvents top) ∧ s.logs (s.tempLimited top) 14 [] := by
  rw [State.tempLimited, State.limitEvents]
  have hsame : ∀ b, s.hlt.limitActive = b → s.hlt = { s.hlt with limitActive := b } := fun b h => by rw [← h]
  by_cases hw : s.hlt.limitActive = true
  · rw [if_pos hw, if_pos hw, if_pos hw]
    by_cases h : top < 960
    · rw [if_pos h, decide_eq_false (by omega)]
      exact ⟨s.hltFrame_setHlt _ [], rfl, State.logs_of_flt rfl, State.logs_of_flt rfl⟩
    · rw [if_neg h, decide_eq_true (by omega)]
      exact ⟨State.hltFrame.refl s [], hsame _ hw, State.logs.refl s 2, State.logs.refl s 14⟩
  · rw [if_neg hw, if_neg hw, if_neg hw]
    by_cases h : 1000 ≤ top
    · rw [if_pos h, if_pos h, decide_eq_true h]
      exact s.hltRaised _ (by decide) (by decide) rfl rfl
    · rw [if_neg h, if_neg h, decide_eq_false h]
      exact ⟨State.hltFrame.refl s [], hsame _ (Bool.eq_false_iff.2 hw), State.logs.refl s 2, State.logs.refl s 14⟩

theorem State.tempJudged_spec (s : State) (top : Int) :
    let warn : Int := 8 * s.fld HLT_TEMP_LIM HLT_TEMP_LIM_warn
    s.hltFrame (s.tempJudged top) [] ∧
      (s.tempJudged top).hlt = { s.hlt with
        warnActive := if s.hlt.warnActive then decide (warn - 40 ≤ top) else decide (warn ≤ top)
        limitActive := if s.hlt.limitActive then decide (960 ≤ top) else decide (1000 ≤ top)
        critTimer := decide (1040 ≤ top) } ∧
      s.logs (s.tempJudged top) 2 (s.warnEvents top ++ s.limitEvents top) ∧ s.logs (s.tempJudged top) 14 [] := by
  obtain ⟨hframe, hhlt, hlog, hlog'⟩ := s.tempWarned_spec top
  rw [State.tempJudged]
  generalize s.tempWarned top = w at hframe hhlt hlog hlog'
  obtain ⟨hframe2, hhlt2, hlog2, hlog2'⟩ := w.tempLimited_spec top
  have hlim : w.limitEvents top = s.limitEvents top := by rw [State.limitEvents, State.limitEvents, hhlt]
  rw [hlim] at hlog2
  generalize w.tempLimited top = u at hframe2 hhlt2 hlog2 hlog2'
  have hend : ∀ b, u.logs (u.setHlt { u.hlt with critTimer := decide (1040 ≤ top) }) b [] := fun b => State.logs_of_flt rfl
  refine ⟨(hframe.trans hframe2).trans (u.hltFrame_setHlt _ []), ?_, ?_, (hlog'.trans hframe.running hlog2').trans (hframe.trans hframe2).running (hend 14)⟩
  · show { u.hlt with critTimer := decide (1040 ≤ top) } = _
    rw [hhlt2, hhlt]
  · rw [← List.append_nil (s.warnEvents top ++ s.limitEvents top)]
    exact (hlog.trans hframe.running hlog2).trans (hframe.trans hframe2).running (hend 2)

/-- The hottest of several readings against the thresholds; without one nothing changes. -/
def State.tempsJudged (s : State) : List Int → State
  | [] => s
  | v :: vs => s.tempJudged (vs.foldl max v)

theorem foldl_max_eq {top : Int} {vs : List Int} {v : Int} (hmem : top ∈ v :: vs) (hle : ∀ x ∈ v :: vs, x ≤ top) : vs.foldl max v = top := by
  induction vs generalizing v with
  | nil => exact (List.mem_singleton.1 hmem).symm
  | cons y vs ih =>
    rw [List.foldl_cons]
    have hv := hle v List.mem_cons_self
    have hy := hle y (List.mem_cons_of_mem _ List.mem_cons_self)
    refine ih ?_ (fun x hx => ?_)
    · rcases List.mem_cons.1 hmem with rfl | hm
      · rw [max_eq_left hy]
        exact List.mem_cons_self
      · rcases List.mem_cons.1 hm with rfl | hm
        · rw [max_eq_right hv]
          exact List.mem_cons_self
        · exact List.mem_cons_of_mem _ hm
    · rcases List.mem_cons.1 hx with rfl | hx
      · exact max_le hv hy
      · exact hle x (List.mem_cons_of_mem _ (List.mem_cons_of_mem _ hx))

theorem State.tempsJudged_of_top (s : State) {vals : List Int} {top : Int} (hmem : top ∈ vals) (hle : ∀ v ∈ vals, v ≤ top) :
    s.tempsJudged vals = s.tempJudged top := by
  cases vals with
  | nil => exact absurd hmem List.not_mem_nil
  | cons v vs => exact congrArg s.tempJudged (foldl_max_eq hmem hle)

theorem State.tempsJudged_frame (s : State) (vals : List Int) :
    ∃ es, s.hltFrame (s.tempsJudged vals) [] ∧ (s.tempsJudged vals).hlt.tempSeen = s.hlt.tempSeen ∧ (s.tempsJudged vals).hlt.tempBad = s.hlt.tempBad ∧
      es.length ≤ 2 ∧ s.logs (s.tempsJudged vals) 2 es ∧ s.logs (s.tempsJudged vals) 14 [] := by
  cases vals with
  | nil => exact ⟨[], State.hltFrame.refl s [], rfl, rfl, by decide, State.logs.refl s 2, State.logs.refl s 14⟩
  | cons v vs =>
    obtain ⟨hframe, hhlt, hlog, hlog'⟩ := s.tempJudged_spec (vs.foldl max v)
    have hseen := congrArg HltState.tempSeen hhlt
    have hbad := congrArg HltState.tempBad hhlt
    refine ⟨_, hframe, hseen, hbad, ?_, hlog, hlog'⟩
    have hw : (s.warnEvents (vs.foldl max v)).length ≤ 1 := by
      rw [State.warnEvents]
      split <;> split <;> decide
    have hl : (s.limitEvents (vs.foldl max v)).length ≤ 1 := by
      rw [State.limitEvents]
      split
      · decide
      · split <;> decide
    rw [List.length_append]
    omega

/-! The switch groups (R404) -/

/-- Whether a group is hot after a reading. -/
def groupHot (was : Bool) : Option Int → Bool
  | none => was
  | some t => if 1200 ≤ t then true else if t < 1080 then false else was

theorem State.groupTemp_spec (s : State) (g : Nat) (x : Option Int) :
    s.groupTemp g x = { s with bank := { s.bank with hot := (s.groupTemp g x).bank.hot } } ∧
      ∀ j, (s.groupTemp g x).bank.hot.testBit j = if j = g then groupHot (s.bank.hot.testBit g) x else s.bank.hot.testBit j := by
  have hsame : ∀ j, s.bank.hot.testBit j = if j = g then s.bank.hot.testBit g else s.bank.hot.testBit j := fun j => by
    split
    · next h => rw [h]
    · rfl
  cases x with
  | none => exact ⟨rfl, hsame⟩
  | some t =>
    rw [State.groupTemp, groupHot]
    by_cases h1 : 1200 ≤ t
    · rw [if_pos h1, if_pos h1]
      exact ⟨rfl, fun j => testBit_withBit _ _ _ _⟩
    · rw [if_neg h1, if_neg h1]
      by_cases h2 : t < 1080
      · rw [if_pos h2, if_pos h2]
        exact ⟨rfl, fun j => testBit_withBit _ _ _ _⟩
      · rw [if_neg h2, if_neg h2]
        exact ⟨rfl, hsame⟩

/-- The reading of a group's sensor, none where the sensor is invalid. -/
def State.groupReading (s : State) (r : List Int) (g : Nat) : Option Int := if s.tempValid (20 + g) then some (r.getD (20 + g) 0) else none

/-- The four groups take their readings. -/
def State.groupsTaken (s : State) (r : List Int) : State :=
  (((s.groupTemp 0 (s.groupReading r 0)).groupTemp 1 (s.groupReading r 1)).groupTemp 2 (s.groupReading r 2)).groupTemp 3 (s.groupReading r 3)

theorem State.groupsTaken_spec (s : State) (r : List Int) :
    s.groupsTaken r = { s with bank := { s.bank with hot := (s.groupsTaken r).bank.hot } } ∧
      ∀ g < 4, (s.groupsTaken r).bank.hot.testBit g = groupHot (s.bank.hot.testBit g) (s.groupReading r g) := by
  obtain ⟨h0, b0⟩ := s.groupTemp_spec 0 (s.groupReading r 0)
  rw [State.groupsTaken]
  generalize s.groupTemp 0 (s.groupReading r 0) = t0 at h0 b0
  obtain ⟨h1, b1⟩ := t0.groupTemp_spec 1 (s.groupReading r 1)
  generalize t0.groupTemp 1 (s.groupReading r 1) = t1 at h1 b1
  obtain ⟨h2, b2⟩ := t1.groupTemp_spec 2 (s.groupReading r 2)
  generalize t1.groupTemp 2 (s.groupReading r 2) = t2 at h2 b2
  obtain ⟨h3, b3⟩ := t2.groupTemp_spec 3 (s.groupReading r 3)
  generalize t2.groupTemp 3 (s.groupReading r 3) = t3 at h3 b3
  refine ⟨by rw [h3, h2, h1, h0], fun g hg => ?_⟩
  rw [b3, b2, b2, b1, b1, b1, b0, b0, b0, b0]
  match g, hg with
  | 0, _ => rfl
  | 1, _ => rfl
  | 2, _ => rfl
  | 3, _ => rfl

/-- The channel's switch group, or group 3 that stands for all, is hot. -/
def State.groupHotOf (s : State) (n : Nat) : Bool := s.bank.hot.testBit (n / 4) || s.bank.hot.testBit 3

/-- The channel is stopped now for the heat of its group. -/
def State.groupStops (s : State) (n : Nat) : Bool := s.groupHotOf n && decide (s.htr n BNK_HTR_STATUS_ot_group = 0)

/-- One channel of the groups. -/
def State.groupStep (t : State) (n : Nat) : State :=
  let t1 := t.setHtr n BNK_HTR_STATUS_ot_group (boolNat (t.groupHotOf n))
  if t.groupStops n then (t1.heaterOff n).raise 0x0E16 3 n else t1

theorem State.groupsApply_eq (s : State) : s.groupsApply = (List.range 12).foldl State.groupStep s := by
  have hstep : ∀ (t : State) (n : Nat), (let ot := t.bank.hot.testBit (n / 4) || t.bank.hot.testBit 3
      let was := t.htr n BNK_HTR_STATUS_ot_group ≠ 0
      let t1 := t.setHtr n BNK_HTR_STATUS_ot_group (boolNat ot)
      if ot && !was then (t1.heaterOff n).raise 0x0E16 3 n else t1) = t.groupStep n := fun t n => by
    have hcond : ((t.bank.hot.testBit (n / 4) || t.bank.hot.testBit 3) && !decide (t.htr n BNK_HTR_STATUS_ot_group ≠ 0)) = t.groupStops n := by
      rw [State.groupStops, State.groupHotOf, decide_not, Bool.not_not]
    dsimp only
    rw [hcond]
    rfl
  rw [State.groupsApply]
  exact congrArg (fun f : State → Nat → State => (List.range 12).foldl f s) (funext fun t => funext fun n => hstep t n)

/-- What the groups leave of one channel. -/
structure GroupCell (s t : State) (n : Nat) : Prop where
  ot : t.htr n BNK_HTR_STATUS_ot_group = boolNat (s.groupHotOf n)
  duty : t.htr n BNK_HTR_STATUS_eff_duty = if s.groupStops n then 0 else s.htr n BNK_HTR_STATUS_eff_duty
  heater : t.heater n = if s.groupStops n then s.paid n else s.heater n

/-- What the groups leave of the whole device, but for a channel's own state. -/
structure GroupFrame (s t : State) : Prop where
  rd : ∀ a, a ∉ htrStatus → isSrcLost a = false → t.rd a = s.rd a
  eq : t = { s with regs := t.regs, flt := t.flt, outputs := t.outputs, free := t.free, bank := { s.bank with heaters := t.bank.heaters } }

theorem GroupFrame.refl (s : State) : GroupFrame s s := ⟨fun _ _ _ => rfl, rfl⟩

theorem GroupFrame.trans (h1 : GroupFrame s t) (h2 : GroupFrame t u) : GroupFrame s u := by
  refine ⟨fun a ha hl => (h2.rd a ha hl).trans (h1.rd a ha hl), ?_⟩
  rw [h2.eq, h1.eq]

theorem GroupFrame.running (h : GroupFrame s t) : t.running = s.running := by
  rw [h.eq]
  rfl

theorem GroupFrame.groupHotOf (h : GroupFrame s t) (n : Nat) : t.groupHotOf n = s.groupHotOf n := by
  rw [h.eq]
  rfl

theorem htrStatus_inj {n k : Nat} (h : BNK_HTR_STATUS n = BNK_HTR_STATUS k) : n = k := by
  rw [BNK_HTR_STATUS, BNK_HTR_STATUS] at h
  omega

/-- The event of a channel that is stopped. -/
def State.groupEvents (s : State) (n : Nat) : List (Nat × Nat × Nat) := if s.groupStops n then [(0x0E16, 3, n % 4096)] else []

theorem State.groupStep_spec (t : State) {n : Nat} (hn : n < 12) (hrun : t.running = true) :
    GroupCell t (t.groupStep n) n ∧ GroupFrame t (t.groupStep n) ∧
      (∀ k, k ≠ n → (t.groupStep n).rd (BNK_HTR_STATUS k) = t.rd (BNK_HTR_STATUS k) ∧ (t.groupStep n).heater k = t.heater k) ∧
      t.eventFrames (t.groupStep n) (boolNat (t.groupStops n)) ∧ t.logs (t.groupStep n) 14 (t.groupEvents n) := by
  have hmem : BNK_HTR_STATUS n ∈ htrStatus := mem_htrStatus.2 ⟨n, hn, rfl⟩
  have hw := State.wroteRegs_setFld t (l := [BNK_HTR_STATUS n]) BNK_HTR_STATUS_ot_group (boolNat (t.groupHotOf n)) (List.mem_singleton_self _)
  have hot : (t.setHtr n BNK_HTR_STATUS_ot_group (boolNat (t.groupHotOf n))).htr n BNK_HTR_STATUS_ot_group = boolNat (t.groupHotOf n) :=
    (State.fld_setFld_same (f := BNK_HTR_STATUS_ot_group) t (BNK_HTR_STATUS n) _ (by decide) (by decide)).trans (Nat.mod_eq_of_lt (boolNat_lt _))
  have hduty : (t.setHtr n BNK_HTR_STATUS_ot_group (boolNat (t.groupHotOf n))).htr n BNK_HTR_STATUS_eff_duty = t.htr n BNK_HTR_STATUS_eff_duty :=
    State.fld_setFld_ne (f := BNK_HTR_STATUS_ot_group) (g := BNK_HTR_STATUS_eff_duty) t _ (by decide) (by decide) (by decide) (by decide)
  have hsame : t.setHtr n BNK_HTR_STATUS_ot_group (boolNat (t.groupHotOf n)) = t.setFld (BNK_HTR_STATUS n) BNK_HTR_STATUS_ot_group (boolNat (t.groupHotOf n)) := rfl
  rw [← hsame] at hw
  rw [State.groupStep, State.groupEvents]
  generalize t.setHtr n BNK_HTR_STATUS_ot_group (boolNat (t.groupHotOf n)) = u at hw hot hduty
  have hheater : ∀ k, u.heater k = t.heater k := fun k => by rw [hw.2]; rfl
  have hflt : u.flt = t.flt := by rw [hw.2]
  have hothers : ∀ k, k ≠ n → u.rd (BNK_HTR_STATUS k) = t.rd (BNK_HTR_STATUS k) := fun k hk =>
    hw.1 _ (fun h => hk (htrStatus_inj (List.mem_singleton.1 h)))
  have huframe : GroupFrame t u := ⟨fun a ha _ => hw.1 a (fun h => ha (by rw [List.mem_singleton.1 h]; exact hmem)), by rw [hw.2]⟩
  by_cases hs : t.groupStops n = true
  · have hpaid : u.paid n = t.paid n := by
      have hmeas : u.rd (BNK_HTR_MEAS n) = t.rd (BNK_HTR_MEAS n) := hw.1 _ (by simp only [BNK_HTR_MEAS, BNK_HTR_STATUS, List.mem_singleton]; omega)
      have hpins : u.pins = t.pins := by rw [hw.2]
      have hel : u.elapsed = t.elapsed := by rw [hw.2]
      simp only [State.paid, State.supplied, State.fld, hheater, hmeas, hpins, hel, hduty]
    obtain ⟨⟨r, b, heq⟩, hrd⟩ := u.heaterOff_frame hn
    have hzero : (u.heaterOff n).htr n BNK_HTR_STATUS_eff_duty = 0 := by
      rw [State.htr, State.fld, State.rd_heaterOff, if_pos rfl, Fld.get_put _ _ _ (by decide) (by decide)]
      rfl
    have hkeepot : (u.heaterOff n).htr n BNK_HTR_STATUS_ot_group = u.htr n BNK_HTR_STATUS_ot_group := by
      rw [State.htr, State.fld, State.rd_heaterOff, if_pos rfl, Fld.get_put_ne _ _ _ _ (by decide) (by decide) (by decide) (by decide)]
      rfl
    have hoff : ∀ k, (u.heaterOff n).heater k = if k = n then t.paid n else t.heater k := fun k => by
      rw [State.heater_heaterOff, hpaid, hheater]
    have hofrd : ∀ k, k ≠ n → (u.heaterOff n).rd (BNK_HTR_STATUS k) = t.rd (BNK_HTR_STATUS k) := fun k hk => by
      rw [State.rd_heaterOff, if_neg (fun h => hk (htrStatus_inj h)), hothers k hk]
    generalize u.heaterOff n = v at heq hrd hzero hkeepot hoff hofrd
    have hvt : v = { t with regs := r, bank := { t.bank with heaters := b } } := by rw [heq, hw.2]
    have hrd' : ∀ a, isSrcLost a = false → (v.raise 0x0E16 3 n).rd a = v.rd a := fun a ha => (v.raise_frame 0x0E16 3 n 0 (by decide)).rd a ha
    have hframes := v.eventFrames_raise (c := 0x0E16) (k := 3) rfl (by decide) n 0
    have hlog : v.logs (v.raise 0x0E16 3 n) 14 [(0x0E16, 3, n % 4096)] := v.logs_raise n 0
    obtain ⟨f, r', hraise⟩ := (v.raise_frame 0x0E16 3 n 0 (by decide)).eq
    have hbank := v.raise_bank 0x0E16 n 0 (k := 3) (by decide)
    have hvrun : v.running = t.running := by rw [hvt]; rfl
    rw [if_pos hs, if_pos hs, hs]
    generalize v.raise 0x0E16 3 n = w at hrd' hframes hlog hraise hbank
    have hwheater : ∀ k, w.heater k = v.heater k := fun k => State.heater_congr (by rw [hbank]) k
    have hwst : ∀ k, w.rd (BNK_HTR_STATUS k) = v.rd (BNK_HTR_STATUS k) := fun k => hrd' _ isSrcLost_htrStatus
    refine ⟨⟨?_, ?_, ?_⟩, ⟨fun a ha hl => ?_, ?_⟩, fun k hk => ⟨(hwst k).trans (hofrd k hk), ?_⟩, ?_, ?_⟩
    · rw [State.htr, State.fld, hwst]
      exact hkeepot.trans hot
    · rw [State.htr, State.fld, hwst, if_pos hs]
      exact hzero
    · rw [hwheater, hoff, if_pos rfl, if_pos hs]
    · exact (hrd' a hl).trans ((hrd a ha).trans (huframe.rd a ha hl))
    · rw [hbank] at hraise
      rw [hraise, hvt]
    · rw [hwheater, hoff, if_neg hk]
    · rw [hvrun, hrun] at hframes
      exact State.eventFrames_congr (by rw [hvt]) (by rw [hvt]) hframes
    · exact State.logs.trans (es := []) (State.logs_of_flt (by rw [hvt])) hvrun hlog
  · rw [if_neg hs, if_neg hs, Bool.eq_false_iff.2 hs]
    refine ⟨⟨hot, ?_, ?_⟩, huframe, fun k hk => ⟨hothers k hk, hheater k⟩, ?_, State.logs_of_flt hflt⟩
    · rw [if_neg hs]
      exact hduty
    · rw [if_neg hs]
      exact hheater n
    · exact State.eventFrames_congr (by rw [hw.2]) (by rw [hw.2]) (State.eventFrames.refl u)

theorem GroupCell.congr {s0 : State} {n : Nat} (h : GroupCell s t n) (hhot : s.groupHotOf n = s0.groupHotOf n)
    (hrd : s.rd (BNK_HTR_STATUS n) = s0.rd (BNK_HTR_STATUS n)) (hheater : s.heater n = s0.heater n) (hpaid : s.paid n = s0.paid n) : GroupCell s0 t n := by
  have hfld : ∀ f, s.htr n f = s0.htr n f := fun f => congrArg f.get hrd
  have hstops : s.groupStops n = s0.groupStops n := by rw [State.groupStops, State.groupStops, hhot, hfld]
  exact ⟨h.ot.trans (congrArg boolNat hhot), by rw [h.duty, hstops, hfld], by rw [h.heater, hstops, hheater, hpaid]⟩

theorem foldl_groupStep (l : List Nat) (hl : l.Nodup) (hlt : ∀ n ∈ l, n < 12) (s : State) (hrun : s.running = true) :
    let t := l.foldl State.groupStep s
    (∀ n ∈ l, GroupCell s t n) ∧ GroupFrame s t ∧
      (∀ n, n ∉ l → t.rd (BNK_HTR_STATUS n) = s.rd (BNK_HTR_STATUS n) ∧ t.heater n = s.heater n) ∧
      s.eventFrames t (l.filter s.groupStops).length ∧ s.logs t 14 (l.flatMap s.groupEvents) := by
  induction l generalizing s with
  | nil => exact ⟨fun n h => absurd h List.not_mem_nil, GroupFrame.refl s, fun _ _ => ⟨rfl, rfl⟩, State.eventFrames.refl s, State.logs.refl s 14⟩
  | cons k l ih =>
    obtain ⟨hk, hl⟩ := List.nodup_cons.1 hl
    obtain ⟨hcell, hframe, hothers, hframes, hlog⟩ := s.groupStep_spec (hlt k List.mem_cons_self) hrun
    obtain ⟨hcells, hframe', hothers', hframes', hlog'⟩ := ih hl (fun n hn => hlt n (List.mem_cons_of_mem _ hn)) (s.groupStep k) (hframe.running.trans hrun)
    rw [List.foldl_cons]
    generalize s.groupStep k = u at hcell hframe hothers hframes hlog hcells hframe' hothers' hframes' hlog'
    have hstops : ∀ n ∈ l, u.groupStops n = s.groupStops n := fun n hn => by
      rw [State.groupStops, State.groupStops, hframe.groupHotOf, State.htr, State.fld, (hothers n (fun h => hk (h ▸ hn))).1]
      rfl
    have hpaid : ∀ n, n ≠ k → u.paid n = s.paid n := fun n hn =>
      State.supplied_congr n (hothers n hn).2 (hframe.rd _ (fun h => by
          obtain ⟨j, -, hj⟩ := mem_htrStatus.1 h
          simp only [BNK_HTR_MEAS, BNK_HTR_STATUS] at hj
          omega) (isSrcLost_eq_false.2 (.inr (by simp only [BNK_HTR_MEAS, FLT_SRC_LOST]; omega)))) (hothers n hn).1
        (by rw [hframe.eq]) (by rw [hframe.eq])
    refine ⟨fun n hn => ?_, hframe.trans hframe', fun n hn => ?_, ?_, ?_⟩
    · rcases List.mem_cons.1 hn with rfl | hn
      · have hsame := hothers' n hk
        have hfld : ∀ f, (l.foldl State.groupStep u).htr n f = u.htr n f := fun f => congrArg f.get hsame.1
        exact ⟨(hfld _).trans hcell.ot, (hfld _).trans hcell.duty, hsame.2.trans hcell.heater⟩
      · have hne : n ≠ k := fun h => hk (h ▸ hn)
        exact (hcells n hn).congr (hframe.groupHotOf n) (hothers n hne).1 (hothers n hne).2 (hpaid n hne)
    · rw [List.mem_cons, not_or] at hn
      exact ⟨(hothers' n hn.2).1.trans (hothers n hn.1).1, (hothers' n hn.2).2.trans (hothers n hn.1).2⟩
    · have hcount : ((k :: l).filter s.groupStops).length = boolNat (s.groupStops k) + (l.filter u.groupStops).length := by
        rw [List.filter_congr hstops, List.filter_cons]
        cases s.groupStops k
        · exact (Nat.zero_add _).symm
        · exact Nat.add_comm _ 1
      rw [hcount]
      exact hframes.trans hframes'
    · have hevents : l.flatMap s.groupEvents = l.flatMap u.groupEvents := by
        refine List.flatMap_congr fun n hn => ?_
        rw [State.groupEvents, State.groupEvents, hstops n hn]
      rw [List.flatMap_cons, hevents]
      exact hlog.trans hframe.running hlog'

/-- The groups raise events of the bank die alone. -/
theorem State.groupStep_quiet (t : State) (n : Nat) : t.logs (t.groupStep n) 2 [] ∧ (t.groupStep n).running = t.running := by
  rw [State.groupStep]
  split
  · have hrun := ((((t.setHtr n BNK_HTR_STATUS_ot_group (boolNat (t.groupHotOf n))).heaterOff n).raise_frame 0x0E16 3 n 0 (by decide))).running
    refine ⟨State.logs.trans (es := []) (State.logs_of_flt (t := (t.setHtr n BNK_HTR_STATUS_ot_group (boolNat (t.groupHotOf n))).heaterOff n) rfl) rfl
      (State.logs_raise_ne _ n 0 (by decide) (by decide)), hrun⟩
  · exact ⟨State.logs_of_flt rfl, rfl⟩

theorem foldl_groupStep_quiet (s : State) (l : List Nat) : s.logs (l.foldl State.groupStep s) 2 [] := by
  have h := (State.logs_foldl (s := s) (b := 2) (f := State.groupStep) (e := fun _ => []) (l := l) (P := fun _ => True)
    (fun t n _ _ => ⟨(t.groupStep_quiet n).1, (t.groupStep_quiet n).2, trivial⟩) trivial).1
  rwa [List.flatMap_eq_nil_iff.2 (fun _ _ => rfl)] at h

end

end Sys2Proof.Machine

/-! The temperature sample, the voltage sample and the commands of the monitors (R40, R41, R43, R50, R53). -/

namespace Sys2Proof.Machine

section
variable {s t u : State}

/-! The temperature sample -/

/-- The readings of the valid logic- and line-die sensors. -/
def State.tempVals (s : State) (r : List Int) : List Int := ((List.range 20).filter s.tempValid).map (fun n => r.getD n 0)

/-- What follows the sensors' readings in a sample, but for the heaters. -/
def State.tempAfter (s : State) (r : List Int) : State := (s.tempsJudged (s.tempVals r)).groupsTaken r

theorem State.tempSample_eq (hrun : s.running = true) (r : List Int) : s.tempSample r = ((s.tempsRead r).tempAfter r).groupsApply := by
  have hgo : ¬ ((!s.running) = true) := by rw [hrun]; decide
  refine (if_neg hgo).trans ?_
  extract_lets h0 s1 vals warn h s2 grp
  have h1 : s1 = s.tempsRead r := rfl
  clear_value s1
  subst h1
  have hv : vals = (s.tempsRead r).tempVals r := rfl
  clear_value vals
  subst hv
  have h2 : s2 = (s.tempsRead r).tempsJudged ((s.tempsRead r).tempVals r) := by
    cases hv : (s.tempsRead r).tempVals r with
    | nil => simp only [s2, hv]; rfl
    | cons v vs => simp only [s2, hv]; rfl
  clear_value s2
  subst h2
  rfl

theorem length_tempEvents (s : State) (r : List Int) (l : List Nat) :
    (l.flatMap (s.tempEvents r)).length = (l.filter (fun n => s.tempFound r n)).length := by
  induction l with
  | nil => rfl
  | cons n l ih =>
    rw [List.flatMap_cons, List.length_append, ih, State.tempEvents, List.filter_cons]
    split
    · exact Nat.add_comm _ _
    · exact Nat.zero_add _

theorem mem_tempEvents {r : List Int} {n : Nat} (hn : n < 24) (h : s.tempFound r n = true) :
    (0x0213, 3, n) ∈ (List.range 24).flatMap (s.tempEvents r) := by
  refine List.mem_flatMap.2 ⟨n, List.mem_range.2 hn, ?_⟩
  rw [State.tempEvents, if_pos h, Nat.mod_eq_of_lt (show n < 4096 by omega)]
  exact List.mem_singleton_self _

theorem mem_groupEvents {n : Nat} (hn : n < 12) (h : s.groupStops n = true) : (0x0E16, 3, n) ∈ (List.range 12).flatMap s.groupEvents := by
  refine List.mem_flatMap.2 ⟨n, List.mem_range.2 hn, ?_⟩
  rw [State.groupEvents, if_pos h, Nat.mod_eq_of_lt (show n < 4096 by omega)]
  exact List.mem_singleton_self _

theorem length_groupEvents (s : State) (l : List Nat) : (l.flatMap s.groupEvents).length ≤ l.length := by
  induction l with
  | nil => exact Nat.le_refl 0
  | cons n l ih =>
    have hle : (s.groupEvents n).length ≤ 1 := by
      rw [State.groupEvents]
      split
      · exact Nat.le_refl 1
      · exact Nat.zero_le 1
    rw [List.flatMap_cons, List.length_append, List.length_cons]
    omega

theorem State.logs_of_postBuf {b : Nat} (h : t.postBuf b = s.postBuf b) : s.logs t b [] := fun _ _ => ⟨[], by rw [h, List.append_nil], rfl⟩

/-- What stands in a buffer before a step that raises nothing there is told as before it. -/
theorem State.logs.then_none {b : Nat} {es : List (Nat × Nat × Nat)} (h1 : s.logs t b es) (hrun : t.running = s.running) (h2 : t.logs u b []) :
    s.logs u b es := by
  rw [← List.append_nil es]
  exact h1.trans hrun h2

/-- What the sensors' readings and the thresholds leave, before the groups. -/
structure TempJudged (s t : State) (r : List Int) : Prop where
  frame : s.hltFrame t ((List.range 24).map HLT_TEMP)
  seen : t.hlt.tempSeen = true
  cell : ∀ n < 24, t.hlt.tempBad.testBit n = s.tempBadNow r n ∧ t.fld (HLT_TEMP n) HLT_TEMP_temp = unsigned 12 (r.getD n 0) ∧
    t.fld (HLT_TEMP n) HLT_TEMP_valid = boolNat (!s.tempBadNow r n) ∧ t.fld (HLT_TEMP n) HLT_TEMP_max_hold = unsigned 12 (s.tempHold r n)
  log : ∃ es, es.length ≤ 2 ∧ s.logs t 2 ((List.range 24).flatMap (s.tempEvents r) ++ es)
  quiet : s.logs t 14 []

/-- The valid readings, given by what is invalid after the sample. -/
def State.tempValsNow (s : State) (r : List Int) : List Int := ((List.range 20).filter (fun n => !s.tempBadNow r n)).map (fun n => r.getD n 0)

theorem State.tempVals_tempsRead (s : State) (r : List Int) : (s.tempsRead r).tempVals r = s.tempValsNow r := by
  refine congrArg (List.map _) (List.filter_congr fun n hn => ?_)
  have hlt := List.mem_range.1 hn
  rw [State.tempValid, ((s.tempsRead_spec r).2.2.1 n (by omega)).1]

theorem State.tempsJudged_read (s : State) (r : List Int) : TempJudged s ((s.tempsRead r).tempsJudged (s.tempValsNow r)) r := by
  obtain ⟨hframe, hhlt, hcell, hlog, hquiet⟩ := s.tempsRead_spec r
  have hseen := congrArg HltState.tempSeen hhlt
  generalize s.tempsRead r = u at hframe hseen hcell hlog hquiet
  obtain ⟨es, hframe', hseen', hbad, hlen, hlog', hquiet'⟩ := u.tempsJudged_frame (s.tempValsNow r)
  generalize u.tempsJudged (s.tempValsNow r) = t at hframe' hseen' hbad hlog' hquiet'
  refine ⟨hframe.trans (hframe'.mono (fun _ h => absurd h List.not_mem_nil)), hseen'.trans hseen, fun n hn => ?_,
    ⟨es, hlen, hlog.trans hframe.running hlog'⟩, hquiet.trans hframe.running hquiet'⟩
  obtain ⟨h1, h2, h3, h4⟩ := hcell n hn
  have hrd : t.rd (HLT_TEMP n) = u.rd (HLT_TEMP n) := hframe'.1 _ List.not_mem_nil (HLT_TEMP_not_lost hn)
  simp only [State.fld, hrd, hbad]
  exact ⟨h1, h2, h3, h4⟩

/-- The thresholds against the hottest valid reading. -/
theorem State.tempsJudged_top (s : State) (r : List Int) {top : Int} (hmem : top ∈ s.tempValsNow r) (hle : ∀ v ∈ s.tempValsNow r, v ≤ top) :
    let warn : Int := 8 * s.fld HLT_TEMP_LIM HLT_TEMP_LIM_warn
    let t := (s.tempsRead r).tempsJudged (s.tempValsNow r)
    t.hlt.warnActive = (if s.hlt.warnActive then decide (warn - 40 ≤ top) else decide (warn ≤ top)) ∧
      t.hlt.limitActive = (if s.hlt.limitActive then decide (960 ≤ top) else decide (1000 ≤ top)) ∧ t.hlt.critTimer = decide (1040 ≤ top) ∧
      s.logs t 2 ((List.range 24).flatMap (s.tempEvents r) ++ (s.warnEvents top ++ s.limitEvents top)) := by
  obtain ⟨hframe, hhlt, -, hlog, -⟩ := s.tempsRead_spec r
  have hlim : (s.tempsRead r).fld HLT_TEMP_LIM HLT_TEMP_LIM_warn = s.fld HLT_TEMP_LIM HLT_TEMP_LIM_warn :=
    congrArg HLT_TEMP_LIM_warn.get (hframe.1 _ (by decide) (by decide))
  have hwarn := congrArg HltState.warnActive hhlt
  have hlimit := congrArg HltState.limitActive hhlt
  have hwe : (s.tempsRead r).warnEvents top = s.warnEvents top := by rw [State.warnEvents, State.warnEvents, hlim, hwarn]
  have hle' : (s.tempsRead r).limitEvents top = s.limitEvents top := by rw [State.limitEvents, State.limitEvents, hlimit]
  obtain ⟨-, hhlt', hlog', -⟩ := (s.tempsRead r).tempJudged_spec top
  dsimp only
  rw [State.tempsJudged_of_top _ hmem hle, ← hwe, ← hle', hhlt', hwarn, hlimit, hlim]
  exact ⟨rfl, rfl, rfl, hlog.trans hframe.running hlog'⟩

theorem State.tempsJudged_none (s : State) (r : List Int) (h : s.tempValsNow r = []) :
    let t := (s.tempsRead r).tempsJudged (s.tempValsNow r)
    t.hlt.warnActive = s.hlt.warnActive ∧ t.hlt.limitActive = s.hlt.limitActive ∧ t.hlt.critTimer = s.hlt.critTimer := by
  obtain ⟨-, hhlt, -⟩ := s.tempsRead_spec r
  rw [h]
  dsimp only [State.tempsJudged]
  rw [hhlt]
  exact ⟨rfl, rfl, rfl⟩

/-- What a channel's status says of its group: hot since this sample. -/
abbrev State.groupNew (s t : State) (n : Nat) : Prop := t.htr n BNK_HTR_STATUS_ot_group = 1 ∧ s.htr n BNK_HTR_STATUS_ot_group = 0

/-- The whole sample. -/
theorem State.tempSample_groups (hrun : s.running = true) (r : List Int) :
    let j := (s.tempsRead r).tempsJudged (s.tempValsNow r)
    let t := s.tempSample r
    GroupFrame (j.groupsTaken r) t ∧ t.hlt = j.hlt ∧
      (∀ g < 4, t.bank.hot.testBit g = groupHot (s.bank.hot.testBit g) (if s.tempBadNow r (20 + g) then none else some (r.getD (20 + g) 0))) ∧
      (∀ n < 12, t.htr n BNK_HTR_STATUS_ot_group = boolNat (t.bank.hot.testBit (n / 4) || t.bank.hot.testBit 3) ∧
        (s.groupNew t n → t.htr n BNK_HTR_STATUS_eff_duty = 0 ∧ t.heater n = s.paid n ∧ s.tells t 12 0x0E16 3 n) ∧
        (¬ s.groupNew t n → t.htr n BNK_HTR_STATUS_eff_duty = s.htr n BNK_HTR_STATUS_eff_duty ∧ t.heater n = s.heater n)) ∧
      s.eventFrames t ((List.range 12).filter (fun n => decide (s.groupNew t n))).length ∧ j.logs t 2 [] ∧
      s.onlyRegs t ((List.range 24).map HLT_TEMP ++ htrStatus) ∧
      t = { s with regs := t.regs, flt := t.flt, hlt := t.hlt, outputs := t.outputs, free := t.free
                   bank := { s.bank with hot := t.bank.hot, heaters := t.bank.heaters } } := by
  dsimp only
  have hsample : s.tempSample r = (((s.tempsRead r).tempsJudged (s.tempValsNow r)).groupsTaken r).groupsApply := by
    rw [State.tempSample_eq hrun, State.tempAfter, State.tempVals_tempsRead]
  rw [hsample]
  obtain ⟨hjframe, -, hjcell, -, hjquiet⟩ := s.tempsJudged_read r
  generalize (s.tempsRead r).tempsJudged (s.tempValsNow r) = j at hjframe hjcell hjquiet
  obtain ⟨hgeq, hghot⟩ := j.groupsTaken_spec r
  generalize j.groupsTaken r = g at hgeq hghot
  have hgrd : ∀ a, g.rd a = j.rd a := fun a => by rw [hgeq]; rfl
  have hgrun : g.running = true := by
    rw [hgeq]
    exact hjframe.running.trans hrun
  obtain ⟨hcell, hframe, -, hframes, hlog⟩ := foldl_groupStep (List.range 12) List.nodup_range (fun n hn => List.mem_range.1 hn) g hgrun
  have hquiet := foldl_groupStep_quiet g (List.range 12)
  rw [State.groupsApply_eq]
  generalize (List.range 12).foldl State.groupStep g = t at hcell hframe hframes hlog hquiet
  have hjbank : j.bank = s.bank := by rw [hjframe.2]
  have hthot : t.bank.hot = g.bank.hot := by rw [hframe.eq]
  have hstatus : ∀ n, g.rd (BNK_HTR_STATUS n) = s.rd (BNK_HTR_STATUS n) := fun n => (hgrd _).trans (hjframe.1 _ (fun h => by
    obtain ⟨k, hk, he⟩ := List.mem_map.1 h
    have := List.mem_range.1 hk
    simp only [HLT_TEMP, BNK_HTR_STATUS] at he
    omega) (isSrcLost_eq_false.1 isSrcLost_htrStatus))
  have hgfld : ∀ n f, g.htr n f = s.htr n f := fun n f => congrArg f.get (hstatus n)
  have hgheaters : g.bank.heaters = s.bank.heaters := by rw [hgeq, ← hjbank]
  have hgheater : ∀ n, g.heater n = s.heater n := State.heater_congr hgheaters
  have hmeas : ∀ n, g.rd (BNK_HTR_MEAS n) = s.rd (BNK_HTR_MEAS n) := fun n => (hgrd _).trans (hjframe.1 _ (fun h => by
    obtain ⟨k, hk, he⟩ := List.mem_map.1 h
    have := List.mem_range.1 hk
    simp only [HLT_TEMP, BNK_HTR_MEAS] at he
    omega) (.inr (by simp only [BNK_HTR_MEAS, FLT_SRC_LOST]; omega)))
  have hgpins : g.pins = s.pins := by rw [hgeq, hjframe.2]
  have hgel : g.elapsed = s.elapsed := by rw [hgeq, hjframe.2]
  have hgpaid : ∀ n, g.paid n = s.paid n := fun n => State.supplied_congr n (hgheater n) (hmeas n) (hstatus n) hgpins hgel
  have hnew : ∀ n, n < 12 → (s.groupNew t n ↔ g.groupStops n = true) := fun n hn => by
    have hot := (hcell n (List.mem_range.2 hn)).ot
    rw [State.groupNew, hot, State.groupStops, hgfld]
    cases g.groupHotOf n <;> simp [boolNat]
  have hgflt : g.flt = j.flt := by rw [hgeq]
  have hout : g.outputs = s.outputs := by rw [hgeq, hjframe.2]
  have hfree : g.free = s.free := by rw [hgeq, hjframe.2]
  have hlog14 : s.logs t 14 ((List.range 12).flatMap g.groupEvents) :=
    ((hjquiet.then_none hjframe.running (State.logs_of_flt hgflt)).trans (es := []) (by rw [hgrun, hrun]) hlog)
  refine ⟨hframe, by rw [hframe.eq, hgeq], fun k hk => ?_, fun n hn => ⟨?_, fun h => ?_, fun h => ?_⟩, ?_, ?_, fun a ha hl => ?_, ?_⟩
  · rw [hthot, hghot k hk, hjbank, State.groupReading, State.tempValid, (hjcell (20 + k) (by omega)).1]
    cases s.tempBadNow r (20 + k) <;> rfl
  · rw [(hcell n (List.mem_range.2 hn)).ot, hthot]
    rfl
  · have hs := (hnew n hn).1 h
    have hc := hcell n (List.mem_range.2 hn)
    refine ⟨by rw [hc.duty, if_pos hs], by rw [hc.heater, if_pos hs, hgpaid], hlog14.tells (mem_groupEvents hn hs) ?_ rfl⟩
    exact (length_groupEvents g _).trans (by rw [List.length_range])
  · have hs : ¬ g.groupStops n = true := fun hs => h ((hnew n hn).2 hs)
    have hc := hcell n (List.mem_range.2 hn)
    exact ⟨by rw [hc.duty, if_neg hs, hgfld], by rw [hc.heater, if_neg hs, hgheater]⟩
  · have hfilter : (List.range 12).filter (fun n => decide (s.groupNew t n)) = (List.range 12).filter g.groupStops :=
      List.filter_congr fun n hn => by
        rw [Bool.eq_iff_iff, decide_eq_true_eq]
        exact hnew n (List.mem_range.1 hn)
    rw [hfilter]
    exact State.eventFrames_congr hout hfree hframes
  · refine (State.logs_of_flt hgflt).then_none (by rw [hgrun, hjframe.running, hrun]) ?_
    exact hquiet
  · rw [List.mem_append, not_or] at ha
    exact (hframe.rd a ha.2 (isSrcLost_eq_false.2 hl)).trans ((hgrd a).trans (hjframe.1 a ha.1 hl))
  · rw [hframe.eq, hgeq, hjframe.2]

/-- An event after a change of registers. -/
theorem State.wroteRegs.logs_raise {l : List Nat} (h : s.wroteRegs u l) {c k : Nat} (i d : Nat) :
    s.logs (u.raise c k i d) (c / 256) [(c, k, i % 4096)] := by
  have hrun : u.running = s.running := by rw [h.2]; rfl
  exact State.logs.trans (es := []) (State.logs_of_flt (by rw [h.2])) hrun (u.logs_raise i d)

/-! The voltage sample (R43, R50) -/

/-- Two folds whose steps agree while an invariant of the second holds. -/
theorem foldl_congr_inv {σ α : Type} {f g : σ → α → σ} {l : List α} (I : σ → Prop) (hI : ∀ t x, x ∈ l → I t → I (g t x))
    (h : ∀ t x, x ∈ l → I t → f t x = g t x) {s : σ} (hs : I s) : l.foldl f s = l.foldl g s := by
  induction l generalizing s with
  | nil => rfl
  | cons x l ih =>
    rw [List.foldl_cons, List.foldl_cons, h s x List.mem_cons_self hs]
    exact ih (fun t y hy => hI t y (List.mem_cons_of_mem _ hy)) (fun t y hy => h t y (List.mem_cons_of_mem _ hy)) (hI s x List.mem_cons_self hs)

section
variable (s : State) (r : List Nat)

/-- The reading is below its lower limit, above its upper limit, off the command. -/
def State.vmonLow (n : Nat) : Bool := decide (r.getD n 0 < s.fld (HLT_VMON_LIM n) HLT_VMON_LIM_lo_mv)
def State.vmonHigh (n : Nat) : Bool := decide (s.fld (HLT_VMON_LIM n) HLT_VMON_LIM_hi_mv < r.getD n 0)
def State.vmonOff (n : Nat) : Bool := decide (25 < absDiff (r.getD n 0) s.vcoreCmd)

/-- A voltage register's word after a reading. -/
def State.vmonWord (n : Nat) (w : Word) : Word :=
  let w1 := HLT_VMON_mv.put w (min (r.getD n 0) 4095)
  let w2 := if s.vmonLow r n then HLT_VMON_low.put w1 1 else w1
  if s.vmonHigh r n then HLT_VMON_high.put w2 1 else w2

/-- A voltage register takes its reading. -/
def State.vmonShown (t : State) (n : Nat) : State :=
  let t1 := t.setFld (HLT_VMON n) HLT_VMON_mv (min (r.getD n 0) 4095)
  let u := if s.vmonLow r n then t1.setFld (HLT_VMON n) HLT_VMON_low 1 else t1
  if s.vmonHigh r n then u.setFld (HLT_VMON n) HLT_VMON_high 1 else u

/-- The event of a reading outside its limits. -/
def State.vmonTold (t : State) (n : Nat) : State :=
  if s.vmonLow r n || s.vmonHigh r n then (s.vmonShown r t n).raise 0x0240 4 n else s.vmonShown r t n

/-- A core supply off its command. -/
def State.vmonChecked (t : State) (n : Nat) : State :=
  let u := t.setHlt { t.hlt with underTimer := withBit t.hlt.underTimer n (decide (r.getD n 0 < 680)) }
  if s.vmonOff r n then (u.setFld HLT_PMB_STATUS HLT_PMB_STATUS_vmismatch 1).raise 0x0233 4 else u

/-- One monitor of a voltage sample. -/
def State.vmonStep (t : State) (n : Nat) : State := if n < 4 then s.vmonChecked r (s.vmonTold r t n) n else s.vmonTold r t n

/-- The registers of a voltage sample. -/
def vmonRegs : List Nat := HLT_PMB_STATUS :: (List.range 12).map HLT_VMON

theorem mem_vmonRegs {n : Nat} (hn : n < 12) : HLT_VMON n ∈ vmonRegs := List.mem_cons_of_mem _ (List.mem_map.2 ⟨n, List.mem_range.2 hn, rfl⟩)

theorem vmonLim_not_mem {n : Nat} (hn : n < 12) : HLT_VMON_LIM n ∉ vmonRegs := by
  intro h
  rcases List.mem_cons.1 h with h | h
  · simp only [HLT_VMON_LIM, HLT_PMB_STATUS] at h
    omega
  · obtain ⟨k, hk, he⟩ := List.mem_map.1 h
    have := List.mem_range.1 hk
    simp only [HLT_VMON, HLT_VMON_LIM] at he
    omega

theorem HLT_VMON_not_lost {n : Nat} (hn : n < 12) : HLT_VMON n < FLT_SRC_LOST 1 ∨ FLT_SRC_LOST 16 < HLT_VMON n := .inl (by
  rw [HLT_VMON, FLT_SRC_LOST]
  omega)

theorem State.vmonShown_spec (t : State) (n : Nat) :
    t.wroteRegs (s.vmonShown r t n) [HLT_VMON n] ∧ (s.vmonShown r t n).rd (HLT_VMON n) = s.vmonWord r n (t.rd (HLT_VMON n)) := by
  have hset : ∀ (x : State) (f : Fld) (v : Nat), x.wroteRegs (x.setFld (HLT_VMON n) f v) [HLT_VMON n] ∧
      (x.setFld (HLT_VMON n) f v).rd (HLT_VMON n) = f.put (x.rd (HLT_VMON n)) v := fun x f v =>
    ⟨State.wroteRegs_setFld x f v (List.mem_singleton_self _), by rw [State.rd_setFld, if_pos rfl]⟩
  have hif : ∀ (b : Bool) (x : State) (f : Fld), x.wroteRegs (if b then x.setFld (HLT_VMON n) f 1 else x) [HLT_VMON n] ∧
      State.rd (if b then x.setFld (HLT_VMON n) f 1 else x) (HLT_VMON n) = if b then f.put (x.rd (HLT_VMON n)) 1 else x.rd (HLT_VMON n) := fun b x f => by
    cases b
    · exact ⟨State.wroteRegs.refl _ _, rfl⟩
    · exact hset x f 1
  obtain ⟨h1, e1⟩ := hset t HLT_VMON_mv (min (r.getD n 0) 4095)
  rw [State.vmonShown, State.vmonWord]
  generalize t.setFld (HLT_VMON n) HLT_VMON_mv (min (r.getD n 0) 4095) = t1 at h1 e1
  obtain ⟨h2, e2⟩ := hif (s.vmonLow r n) t1 HLT_VMON_low
  generalize (if s.vmonLow r n then t1.setFld (HLT_VMON n) HLT_VMON_low 1 else t1) = t2 at h2 e2
  obtain ⟨h3, e3⟩ := hif (s.vmonHigh r n) t2 HLT_VMON_high
  exact ⟨(h1.trans h2).trans h3, by rw [e3, e2, e1]⟩

/-- The events of one monitor. -/
def State.vmonLimEvents (n : Nat) : List (Nat × Nat × Nat) := if s.vmonLow r n || s.vmonHigh r n then [(0x0240, 4, n % 4096)] else []
def State.vmonOffEvents (n : Nat) : List (Nat × Nat × Nat) := if n < 4 ∧ s.vmonOff r n = true then [(0x0233, 4, noInst)] else []

theorem State.vmonTold_spec (t : State) {n : Nat} (hn : n < 12) :
    t.hltFrame (s.vmonTold r t n) [HLT_VMON n] ∧ (s.vmonTold r t n).rd (HLT_VMON n) = (s.vmonShown r t n).rd (HLT_VMON n) ∧
      (s.vmonTold r t n).hlt = t.hlt ∧ t.logs (s.vmonTold r t n) 2 (s.vmonLimEvents r n) ∧
      (s.vmonLimEvents r n = [] → (s.vmonTold r t n).flt = t.flt) := by
  obtain ⟨hw, -⟩ := s.vmonShown_spec r t n
  rw [State.vmonTold, State.vmonLimEvents]
  generalize s.vmonShown r t n = u at hw
  have hflt : u.flt = t.flt := by rw [hw.2]
  have hhlt : u.hlt = t.hlt := by rw [hw.2]
  by_cases h : (s.vmonLow r n || s.vmonHigh r n) = true
  · rw [if_pos h, if_pos h]
    have hrun : u.running = t.running := by rw [hw.2]; rfl
    refine ⟨hw.wroteEvents.hltFrame.trans (State.hltFrame_raise u n 0 (by decide) (by decide) rfl _), ?_, (State.raise_hlt u n 0 (by decide) (by decide) rfl).trans hhlt,
      State.logs.trans (es := []) (State.logs_of_flt hflt) hrun (State.logs_raise u n 0), fun h => absurd h (List.cons_ne_nil _ _)⟩
    exact (u.raise_frame 0x0240 4 n 0 (by decide)).onlyRegs [] _ List.not_mem_nil (HLT_VMON_not_lost hn)
  · rw [if_neg h, if_neg h]
    exact ⟨hw.wroteEvents.hltFrame, rfl, hhlt, State.logs_of_flt hflt, fun _ => hflt⟩

theorem State.vmonChecked_spec (t : State) (n : Nat) :
    let es := if s.vmonOff r n then [(0x0233, 4, noInst)] else []
    t.hltFrame (s.vmonChecked r t n) [HLT_PMB_STATUS] ∧
      (s.vmonChecked r t n).hlt = { t.hlt with underTimer := withBit t.hlt.underTimer n (decide (r.getD n 0 < 680)) } ∧
      (s.vmonOff r n = true → (s.vmonChecked r t n).fld HLT_PMB_STATUS HLT_PMB_STATUS_vmismatch = 1) ∧
      (s.vmonOff r n = false → (s.vmonChecked r t n).regs = t.regs ∧ (s.vmonChecked r t n).flt = t.flt) ∧ t.logs (s.vmonChecked r t n) 2 es := by
  rw [State.vmonChecked]
  obtain ⟨u, hu⟩ : ∃ u : State, t.setHlt { t.hlt with underTimer := withBit t.hlt.underTimer n (decide (r.getD n 0 < 680)) } = u := ⟨_, rfl⟩
  have huframe : t.hltFrame u [HLT_PMB_STATUS] := by
    rw [← hu]
    exact t.hltFrame_setHlt _ _
  have huhlt : u.hlt = { t.hlt with underTimer := withBit t.hlt.underTimer n (decide (r.getD n 0 < 680)) } := (congrArg State.hlt hu).symm
  have huflt : u.flt = t.flt := by rw [← hu]; rfl
  have huregs : u.regs = t.regs := by rw [← hu]; rfl
  rw [hu]
  cases hoff : s.vmonOff r n with
  | true =>
    obtain ⟨hmark, -, -, honly, hreg⟩ := u.marked_spec (f := HLT_PMB_STATUS_vmismatch) (c := 0x0233) (k := 4) (by decide) (by decide) (by decide) (by decide) rfl
    have hlog : u.logs ((u.setFld HLT_PMB_STATUS HLT_PMB_STATUS_vmismatch 1).raise 0x0233 4) 2 [(0x0233, 4, noInst)] := by
      have hw := State.wroteRegs_setFld u (l := [HLT_PMB_STATUS]) HLT_PMB_STATUS_vmismatch 1 (List.mem_singleton_self _)
      exact hw.logs_raise noInst 0
    dsimp only
    rw [if_pos rfl, if_pos rfl]
    generalize (u.setFld HLT_PMB_STATUS HLT_PMB_STATUS_vmismatch 1).raise 0x0233 4 = v at hmark honly hreg hlog
    have hvframe : u.hltFrame v [HLT_PMB_STATUS] := ⟨honly, by rw [hreg]⟩
    exact ⟨huframe.trans hvframe, by rw [hreg]; exact huhlt, fun _ => hmark, fun h => absurd h (by decide),
      State.logs.trans (es := []) (State.logs_of_flt huflt) huframe.running hlog⟩
  | false =>
    rw [if_neg Bool.false_ne_true, if_neg Bool.false_ne_true]
    exact ⟨huframe, huhlt, fun h => absurd h Bool.false_ne_true, fun _ => ⟨huregs, huflt⟩, State.logs_of_flt huflt⟩

/-- What one monitor's reading leaves. -/
structure VmonStep (s : State) (r : List Nat) (t u : State) (n : Nat) : Prop where
  frame : t.hltFrame u [HLT_VMON n, HLT_PMB_STATUS]
  word : u.rd (HLT_VMON n) = s.vmonWord r n (t.rd (HLT_VMON n))
  hlt : u.hlt = { t.hlt with underTimer := if n < 4 then withBit t.hlt.underTimer n (decide (r.getD n 0 < 680)) else t.hlt.underTimer }
  off : n < 4 → s.vmonOff r n = true → u.fld HLT_PMB_STATUS HLT_PMB_STATUS_vmismatch = 1
  on : (n < 4 → s.vmonOff r n = false) → u.rd HLT_PMB_STATUS = t.rd HLT_PMB_STATUS
  kept : t.fld HLT_PMB_STATUS HLT_PMB_STATUS_vmismatch = 1 → u.fld HLT_PMB_STATUS HLT_PMB_STATUS_vmismatch = 1
  log : t.logs u 2 (s.vmonLimEvents r n ++ s.vmonOffEvents r n)
  quiet : s.vmonLimEvents r n ++ s.vmonOffEvents r n = [] → u.flt = t.flt

theorem State.vmonStep_spec (t : State) {n : Nat} (hn : n < 12) : VmonStep s r t (s.vmonStep r t n) n := by
  obtain ⟨hframe, hrd, hhlt, hlog, hquiet⟩ := s.vmonTold_spec r t hn
  have hword := hrd.trans (s.vmonShown_spec r t n).2
  have hne : HLT_VMON n ≠ HLT_PMB_STATUS := by
    simp only [HLT_VMON, HLT_PMB_STATUS]
    omega
  rw [State.vmonStep]
  generalize s.vmonTold r t n = u at hframe hhlt hlog hquiet hword
  have hpmb : u.rd HLT_PMB_STATUS = t.rd HLT_PMB_STATUS :=
    hframe.1 _ (fun h => hne (List.mem_singleton.1 h).symm) (by decide)
  by_cases h4 : n < 4
  · obtain ⟨hframe', hhlt', hoff, hon, hlog'⟩ := s.vmonChecked_spec r u n
    rw [if_pos h4]
    generalize s.vmonChecked r u n = v at hframe' hhlt' hoff hon hlog'
    have hoe : s.vmonOffEvents r n = if s.vmonOff r n then [(0x0233, 4, noInst)] else [] := by
      rw [State.vmonOffEvents]
      exact if_congr (and_iff_right h4) rfl rfl
    have hvrd : v.rd (HLT_VMON n) = u.rd (HLT_VMON n) := hframe'.1 _ (fun h => hne (List.mem_singleton.1 h)) (HLT_VMON_not_lost hn)
    refine ⟨(hframe.mono ?_).trans (hframe'.mono ?_), hvrd.trans hword, ?_, fun _ h => hoff h, fun h => ?_, fun h => ?_, ?_, fun h => ?_⟩
    · exact fun a ha => List.mem_cons.2 (.inl (List.mem_singleton.1 ha))
    · exact fun a ha => List.mem_cons_of_mem _ ha
    · rw [hhlt', hhlt, if_pos h4]
    · rw [State.rd_congr (hon (h h4)).1, hpmb]
    · cases hb : s.vmonOff r n with
      | true => exact hoff hb
      | false =>
        rw [State.fld, State.rd_congr (hon hb).1, hpmb]
        exact h
    · rw [hoe]
      exact hlog.trans hframe.running hlog'
    · rw [List.append_eq_nil_iff] at h
      have hb : s.vmonOff r n = false := by
        rw [hoe] at h
        cases hb : s.vmonOff r n with
        | false => rfl
        | true =>
          rw [hb] at h
          exact absurd h.2 (List.cons_ne_nil _ _)
      exact (hon hb).2.trans (hquiet h.1)
  · have hoe : s.vmonOffEvents r n = [] := by
      rw [State.vmonOffEvents]
      exact if_neg (fun h => h4 h.1)
    rw [if_neg h4]
    refine ⟨hframe.mono (fun a ha => List.mem_cons.2 (.inl (List.mem_singleton.1 ha))), hword, ?_, fun h => absurd h h4, fun _ => hpmb, fun h => ?_, ?_, fun h => ?_⟩
    · rw [hhlt, if_neg h4]
    · rw [State.fld, hpmb]
      exact h
    · rw [hoe, List.append_nil]
      exact hlog
    · exact hquiet (List.append_eq_nil_iff.1 h).1

/-- The model's step, wherever the limits and the command are as before the sample. -/
theorem State.vmonStep_eq {t : State} {n : Nat} (hn : n < 12) (hkeep : s.onlyRegs t vmonRegs) :
    (let mv := r.getD n 0
      let t1 := t.setFld (HLT_VMON n) HLT_VMON_mv (min mv 4095)
      let low := decide (mv < t1.fld (HLT_VMON_LIM n) HLT_VMON_LIM_lo_mv)
      let high := decide (t1.fld (HLT_VMON_LIM n) HLT_VMON_LIM_hi_mv < mv)
      let u := if low then t1.setFld (HLT_VMON n) HLT_VMON_low 1 else t1
      let u1 := if high then u.setFld (HLT_VMON n) HLT_VMON_high 1 else u
      let t2 := if low || high then u1.raise 0x0240 4 n else u1
      if n < 4 then
        (t2.setHlt { t2.hlt with underTimer := withBit t2.hlt.underTimer n (mv < 680) }).checkVcore mv
      else t2) = s.vmonStep r t n := by
  have hlim : ∀ f, (t.setFld (HLT_VMON n) HLT_VMON_mv (min (r.getD n 0) 4095)).fld (HLT_VMON_LIM n) f = s.fld (HLT_VMON_LIM n) f := fun f => by
    rw [State.fld, State.rd_setFld, if_neg (by simp only [HLT_VMON, HLT_VMON_LIM]; omega), hkeep _ (vmonLim_not_mem hn) (.inl (by simp only [HLT_VMON_LIM, FLT_SRC_LOST]; omega))]
    rfl
  have htold : (s.vmonTold r t n).vcoreCmd = s.vcoreCmd := by
    obtain ⟨hframe, -⟩ := s.vmonTold_spec r t hn
    have h1 : (s.vmonTold r t n).rd HLT_GOV_STATUS = t.rd HLT_GOV_STATUS :=
      hframe.1 _ (fun h => by have := List.mem_singleton.1 h; simp only [HLT_VMON, HLT_GOV_STATUS] at this; omega) (by decide)
    rw [State.vcoreCmd, State.fld, h1, hkeep _ (by decide) (by decide)]
    rfl
  dsimp only
  rw [hlim, hlim]
  show (if n < 4 then _ else s.vmonTold r t n) = _
  rw [State.vmonStep]
  refine if_congr Iff.rfl ?_ rfl
  show State.checkVcore ((s.vmonTold r t n).setHlt { (s.vmonTold r t n).hlt with underTimer := withBit (s.vmonTold r t n).hlt.underTimer n (decide (r.getD n 0 < 680)) }) (r.getD n 0) = _
  have hcmd : ((s.vmonTold r t n).setHlt { (s.vmonTold r t n).hlt with underTimer := withBit (s.vmonTold r t n).hlt.underTimer n (decide (r.getD n 0 < 680)) }).vcoreCmd = s.vcoreCmd := htold
  rw [State.checkVcore, hcmd, State.checkVout, State.vmonChecked, State.vmonOff]
  exact if_congr decide_eq_true_iff.symm rfl rfl

/-- The whole voltage sample. -/
structure VmonSample (s : State) (r : List Nat) (t : State) : Prop where
  frame : s.hltFrame t vmonRegs
  hlt : t.hlt = { s.hlt with underTimer := t.hlt.underTimer }
  word : ∀ n < 12, t.rd (HLT_VMON n) = s.vmonWord r n (s.rd (HLT_VMON n))
  under : ∀ n < 4, t.hlt.underTimer.testBit n = decide (r.getD n 0 < 680)
  off : ∀ n < 4, s.vmonOff r n = true → t.fld HLT_PMB_STATUS HLT_PMB_STATUS_vmismatch = 1
  on : (∀ n < 4, s.vmonOff r n = false) → t.rd HLT_PMB_STATUS = s.rd HLT_PMB_STATUS
  log : s.logs t 2 ((List.range 12).flatMap (fun n => s.vmonLimEvents r n ++ s.vmonOffEvents r n))
  quiet : (List.range 12).flatMap (fun n => s.vmonLimEvents r n ++ s.vmonOffEvents r n) = [] → t.flt = s.flt

theorem State.vmonSample_eq (hrun : s.running = true) : s.vmonSample r = (List.range 12).foldl (s.vmonStep r) s := by
  have hgo : ¬ ((!s.running) = true) := by rw [hrun]; decide
  refine (if_neg hgo).trans (foldl_congr_inv (fun t => s.onlyRegs t vmonRegs) (fun t n hn ht => ?_) (fun t n hn ht => s.vmonStep_eq r (List.mem_range.1 hn) ht)
    (State.onlyRegs.refl s vmonRegs))
  have hlt := List.mem_range.1 hn
  have hstep := (s.vmonStep_spec r t hlt).frame.1
  intro a ha hl
  rw [hstep a (fun h => ?_) hl, ht a ha hl]
  rcases List.mem_cons.1 h with h | h
  · exact ha (h ▸ mem_vmonRegs hlt)
  · exact ha (List.mem_cons.2 (.inl (List.mem_singleton.1 h)))

theorem State.vmonSample_spec (hrun : s.running = true) : VmonSample s r (s.vmonSample r) := by
  have hstep : ∀ t n, n ∈ List.range 12 → VmonStep s r t (s.vmonStep r t n) n := fun t n hn => s.vmonStep_spec r t (List.mem_range.1 hn)
  have hmono : ∀ n ∈ List.range 12, ∀ a ∈ [HLT_VMON n, HLT_PMB_STATUS], a ∈ vmonRegs := fun n hn a ha => by
    rcases List.mem_cons.1 ha with rfl | h
    · exact mem_vmonRegs (List.mem_range.1 hn)
    · exact List.mem_cons.2 (.inl (List.mem_singleton.1 h))
  have hframe : s.hltFrame ((List.range 12).foldl (s.vmonStep r) s) vmonRegs ∧
      ((List.range 12).foldl (s.vmonStep r) s).hlt = { s.hlt with underTimer := ((List.range 12).foldl (s.vmonStep r) s).hlt.underTimer } := by
    refine List.foldlRecOn (motive := fun t : State => s.hltFrame t vmonRegs ∧ t.hlt = { s.hlt with underTimer := t.hlt.underTimer }) _ _
      ⟨State.hltFrame.refl s _, rfl⟩ fun t ht n hn => ⟨ht.1.trans ((hstep t n hn).frame.mono (hmono n hn)), ?_⟩
    rw [(hstep t n hn).hlt, ht.2]
  have hword : ∀ n < 12, ((List.range 12).foldl (s.vmonStep r) s).rd (HLT_VMON n) = s.vmonWord r n (s.rd (HLT_VMON n)) := fun n hn => by
    refine (foldl_cell (s.vmonStep r) (fun t => t.rd (HLT_VMON n)) (fun _ => True) n (s.vmonWord r n) (fun hmem t _ => (hstep t n hmem).word)
      (fun t k hk _ hne => ?_) (fun _ _ _ _ => trivial) List.nodup_range trivial).1 (List.mem_range.2 hn)
    refine (hstep t k hk).frame.1 _ (fun h => ?_) (HLT_VMON_not_lost hn)
    simp only [List.mem_cons, List.not_mem_nil, or_false, HLT_VMON, HLT_PMB_STATUS] at h
    omega
  have hunder : ∀ n < 4, ((List.range 12).foldl (s.vmonStep r) s).hlt.underTimer.testBit n = decide (r.getD n 0 < 680) := fun n hn => by
    refine (foldl_cell (s.vmonStep r) (fun t => t.hlt.underTimer.testBit n) (fun _ => True) n (fun _ => decide (r.getD n 0 < 680)) (fun hmem t _ => ?_)
      (fun t k hk _ hne => ?_) (fun _ _ _ _ => trivial) List.nodup_range trivial).1 (List.mem_range.2 (by omega))
    · rw [(hstep t n hmem).hlt]
      simp only [hn, if_true, testBit_withBit]
    · rw [(hstep t k hk).hlt]
      split
      · simp only [testBit_withBit, if_neg (Ne.symm hne)]
      · rfl
  have hoff : ∀ n < 4, s.vmonOff r n = true → ((List.range 12).foldl (s.vmonStep r) s).fld HLT_PMB_STATUS HLT_PMB_STATUS_vmismatch = 1 := fun n hn ho => by
    have hkeep : ∀ (l : List Nat) (t : State), (∀ k ∈ l, k ∈ List.range 12) → t.fld HLT_PMB_STATUS HLT_PMB_STATUS_vmismatch = 1 →
        (l.foldl (s.vmonStep r) t).fld HLT_PMB_STATUS HLT_PMB_STATUS_vmismatch = 1 := fun l t hl ht =>
      List.foldlRecOn (motive := fun t : State => t.fld HLT_PMB_STATUS HLT_PMB_STATUS_vmismatch = 1) _ _ ht fun t ht k hk => (hstep t k (hl k hk)).kept ht
    obtain ⟨pre, post, hsplit⟩ := List.append_of_mem (List.mem_range.2 (show n < 12 by omega))
    have hpost : ∀ k ∈ post, k ∈ List.range 12 := fun k hk => by
      rw [hsplit]
      exact List.mem_append_right _ (List.mem_cons_of_mem _ hk)
    rw [hsplit, List.foldl_append, List.foldl_cons]
    exact hkeep post _ hpost ((hstep _ n (List.mem_range.2 (by omega))).off hn ho)
  have hon : (∀ n < 4, s.vmonOff r n = false) → ((List.range 12).foldl (s.vmonStep r) s).rd HLT_PMB_STATUS = s.rd HLT_PMB_STATUS := fun h =>
    List.foldlRecOn (motive := fun t : State => t.rd HLT_PMB_STATUS = s.rd HLT_PMB_STATUS) _ _ rfl fun t ht k hk => ((hstep t k hk).on (h k)).trans ht
  have hlog := (State.logs_foldl (s := s) (b := 2) (f := s.vmonStep r) (e := fun n => s.vmonLimEvents r n ++ s.vmonOffEvents r n) (l := List.range 12)
    (P := fun _ => True) (fun t n hn _ => ⟨(hstep t n hn).log, (hstep t n hn).frame.running, trivial⟩) trivial).1
  have hquiet : (List.range 12).flatMap (fun n => s.vmonLimEvents r n ++ s.vmonOffEvents r n) = [] → ((List.range 12).foldl (s.vmonStep r) s).flt = s.flt := fun h =>
    List.foldlRecOn (motive := fun t : State => t.flt = s.flt) _ _ rfl fun t ht k hk => ((hstep t k hk).quiet (List.flatMap_eq_nil_iff.1 h k hk)).trans ht
  rw [State.vmonSample_eq s r hrun]
  exact ⟨hframe.1, hframe.2, hword, hunder, hoff, hon, hlog, hquiet⟩

theorem State.vmonWord_fields (n : Nat) (w : Word) :
    HLT_VMON_mv.get (s.vmonWord r n w) = min (r.getD n 0) 4095 ∧
      HLT_VMON_low.get (s.vmonWord r n w) = (if s.vmonLow r n then 1 else HLT_VMON_low.get w) ∧
      HLT_VMON_high.get (s.vmonWord r n w) = (if s.vmonHigh r n then 1 else HLT_VMON_high.get w) := by
  have hfit : min (r.getD n 0) 4095 % 2 ^ HLT_VMON_mv.width = min (r.getD n 0) 4095 := Nat.mod_eq_of_lt (Nat.lt_succ_of_le (Nat.min_le_right _ _))
  have hone : 1 % 2 ^ HLT_VMON_low.width = 1 ∧ 1 % 2 ^ HLT_VMON_high.width = 1 := ⟨rfl, rfl⟩
  rw [State.vmonWord]
  cases s.vmonLow r n <;> cases s.vmonHigh r n <;>
    simp (disch := decide) only [Bool.false_eq_true, if_true, if_false, Fld.get_put, Fld.get_put_ne, hfit, hone, and_self]

theorem length_vmonEvents (l : List Nat) : (l.flatMap (fun n => s.vmonLimEvents r n ++ s.vmonOffEvents r n)).length =
    (l.filter (fun n => s.vmonLow r n || s.vmonHigh r n)).length + (l.filter (fun n => decide (n < 4) && s.vmonOff r n)).length := by
  induction l with
  | nil => rfl
  | cons n l ih =>
    have hlim : (s.vmonLimEvents r n).length = boolNat (s.vmonLow r n || s.vmonHigh r n) := by
      rw [State.vmonLimEvents]
      cases (s.vmonLow r n || s.vmonHigh r n) <;> rfl
    have hoff : (s.vmonOffEvents r n).length = boolNat (decide (n < 4) && s.vmonOff r n) := by
      rw [State.vmonOffEvents]
      by_cases h : n < 4
      · cases hb : s.vmonOff r n <;> simp [h, boolNat]
      · simp [h, boolNat]
    have hcons : ∀ (p : Nat → Bool), ((n :: l).filter p).length = boolNat (p n) + (l.filter p).length := fun p => by
      rw [List.filter_cons]
      cases p n
      · exact (Nat.zero_add _).symm
      · exact Nat.add_comm _ 1
    rw [List.flatMap_cons, List.length_append, List.length_append, ih, hlim, hoff, hcons, hcons]
    omega

theorem filter_vmonOff : (List.range 12).filter (fun n => decide (n < 4) && s.vmonOff r n) = (List.range 4).filter (s.vmonOff r) := by
  have hsplit : List.range 12 = List.range 4 ++ [4, 5, 6, 7, 8, 9, 10, 11] := by decide
  have hrest : [4, 5, 6, 7, 8, 9, 10, 11].filter (fun n => decide (n < 4) && s.vmonOff r n) = [] :=
    List.filter_eq_nil_iff.2 fun n hn => by
      have h4 : decide (n < 4) = false := List.all_eq_true.1 (show [4, 5, 6, 7, 8, 9, 10, 11].all (fun n => decide (n < 4) == false) = true by decide) n hn |> beq_iff_eq.1
      rw [h4]
      exact Bool.false_ne_true
  rw [hsplit, List.filter_append, hrest, List.append_nil]
  exact List.filter_congr fun n hn => by rw [decide_eq_true (List.mem_range.1 hn), Bool.true_and]

end

/-! Class 7 events (R41, R43) -/

/-- An event at class 7 makes the fatal request; the bank die, what leaves the device and the free values are as the request leaves them. -/
theorem State.raise_fatal (hrun : s.running = true) {c : Nat} (hb : bankEvent c = false) (i d : Nat) :
    SameLink (s.requestFatal c) (s.raise c 7 i d) := by
  simp only [State.raise, State.raiseP, hrun, if_true, hb, Bool.false_eq_true, if_false]
  rw [if_pos (Nat.le_refl 7)]
  have hput := (s.requestFatal c).putPosting_link { code := c, cls := 7, inst := i % 4096, detail := d % 2 ^ 32, ts := s.tide.toNat % 2 ^ 44 }
  generalize (s.requestFatal c).putPosting _ = x at hput ⊢
  obtain ⟨u, ok⟩ := x
  simp only at hput ⊢
  split
  · exact hput
  · split
    · have hmark : SameLink u (u.markRaise 0x0304 (c / 256)) := ⟨rfl, rfl, rfl⟩
      exact (hput.trans hmark).trans (State.putPosting_link _ _)
    · exact hput

theorem State.fatalAsked_of_request {c : Nat} (h : SameLink (s.requestFatal c) t) : s.fatalAsked t c := by
  refine ⟨fun hidle => ?_, fun hbusy => ?_⟩
  · have hreq : s.requestFatal c = _ := if_pos hidle
    refine ⟨?_, ⟨dikeFrame 2 s.bank.nextSeq 0 (Config.dikeData s.free).toNat, ?_⟩⟩
    · rw [h.bank, hreq]
      rfl
    · rw [h.outputs, hreq]
      rfl
  · have hreq : s.requestFatal c = _ := if_neg (by rw [hbusy]; exact Bool.false_ne_true)
    refine ⟨?_, ?_, ?_⟩
    · rw [h.bank, hreq]
    · rw [h.outputs, hreq]
    · rw [h.free, hreq]

/-- What a class 7 event leaves. -/
theorem State.raise_fatal_spec (hrun : s.running = true) {c : Nat} (hc : c < 0x1100) (hb : bankEvent c = false) (i : Nat) :
    s.posts (s.raise c 7 i) c 7 (i % 4096) ∧ s.fatalAsked (s.raise c 7 i) c ∧ s.onlyRegs (s.raise c 7 i) [] ∧ s.bankFrame (s.raise c 7 i) :=
  ⟨s.posts_raise c 7 i 0, State.fatalAsked_of_request (State.raise_fatal hrun hb i 0), (s.raise_frame c 7 i 0 hc).onlyRegs [],
    (s.raise_frame c 7 i 0 hc).bankFrame⟩

section
variable {m : Master} {v : Word}

/-! Commands of the health block -/

theorem State.regCommand_hlt {off : Nat} (hoff : off < 0x10000) (h : s.writable m (0x20010000 + off)) (v : Word) :
    s.regCommand m (0x20010000 + off) v = (s.seen m).hltWrite off v := by
  have hblock : (0x20010000 + off) / 0x10000 = 0x2001 := by omega
  have hrest : (0x20010000 + off) % 0x10000 = off := by omega
  rw [State.regCommand_eq h (by simp only [blockAt, hblock]; rfl) (by omega)]
  simp only [State.regWrite, hblock, hrest]

theorem State.rd_clrMax (s : State) : (∀ a, a ∉ (List.range 24).map HLT_TEMP → s.clrMax.rd a = s.rd a) ∧ s.clrMax = { s with regs := s.clrMax.regs } ∧
    ∀ n < 24, s.clrMax.rd (HLT_TEMP n) = HLT_TEMP_max_hold.put (s.rd (HLT_TEMP n)) (HLT_TEMP_temp.get (s.rd (HLT_TEMP n))) := by
  have hstep : ∀ (t : State) n, n ∈ List.range 24 → t.wroteRegs (t.setFld (HLT_TEMP n) HLT_TEMP_max_hold (t.fld (HLT_TEMP n) HLT_TEMP_temp)) ((List.range 24).map HLT_TEMP) :=
    fun t n hn => State.wroteRegs_setFld t _ _ (List.mem_map.2 ⟨n, hn, rfl⟩)
  have hframe : s.wroteRegs s.clrMax ((List.range 24).map HLT_TEMP) :=
    List.foldlRecOn (motive := fun t : State => s.wroteRegs t ((List.range 24).map HLT_TEMP)) _ _ (State.wroteRegs.refl s _) fun t ht n hn => ht.trans (hstep t n hn)
  refine ⟨hframe.1, hframe.2, fun n hn => ?_⟩
  exact (foldl_cell (fun (t : State) n => t.setFld (HLT_TEMP n) HLT_TEMP_max_hold (t.fld (HLT_TEMP n) HLT_TEMP_temp)) (fun t => t.rd (HLT_TEMP n)) (fun _ => True) n
    (fun w => HLT_TEMP_max_hold.put w (HLT_TEMP_temp.get w)) (fun _ t _ => by rw [State.rd_setFld, if_pos rfl, State.fld])
    (fun t k _ _ hne => by rw [State.rd_setFld, if_neg (fun h => hne (HLT_TEMP_inj h).symm)]) (fun _ _ _ _ => trivial) List.nodup_range trivial).1 (List.mem_range.2 hn)

/-- HLT_TEMP_LIM.clr_max. -/
theorem gives_clrMax (hw : s.writable m HLT_TEMP_LIM) (v : Word) :
    Gives (.clrMax m v) s (fun t => t = { s.seen m with regs := t.regs } ∧ s.onlyRegs t (HLT_TEMP_LIM :: (List.range 24).map HLT_TEMP) ∧
      t.fld HLT_TEMP_LIM HLT_TEMP_LIM_warn = max 85 (min (HLT_TEMP_LIM_warn.get v) 124) ∧
      t.fld HLT_TEMP_LIM HLT_TEMP_LIM_limit = s.fld HLT_TEMP_LIM HLT_TEMP_LIM_limit ∧
      t.fld HLT_TEMP_LIM HLT_TEMP_LIM_crit = s.fld HLT_TEMP_LIM HLT_TEMP_LIM_crit ∧
      ∀ n < 24, t.fld (HLT_TEMP n) HLT_TEMP_max_hold = s.fld (HLT_TEMP n) HLT_TEMP_temp ∧
        t.fld (HLT_TEMP n) HLT_TEMP_temp = s.fld (HLT_TEMP n) HLT_TEMP_temp ∧
        t.fld (HLT_TEMP n) HLT_TEMP_valid = s.fld (HLT_TEMP n) HLT_TEMP_valid) := by
  have hbit : (v ||| 0x1000000).toNat.testBit 24 = true := testBit_or_set v 0x1000000 (by decide) (by decide)
  have hgo : s.regCommand m HLT_TEMP_LIM (v ||| 0x1000000) = ((s.seen m).wrPlain HLT_TEMP_LIM (v ||| 0x1000000)).clrMax := by
    rw [show HLT_TEMP_LIM = 0x20010000 + 0x480 from rfl, State.regCommand_hlt (by decide) hw, State.hltWrite]
    exact if_pos hbit
  obtain ⟨d, hd, hf⟩ : ∃ d, regAt HLT_TEMP_LIM = some d ∧ d.fields = [.rwr 7 0 85 124] := ⟨_, rfl, rfl⟩
  have hword := State.rd_wrPlain_of hd (s.seen m) (v ||| 0x1000000)
  have hwrote := State.wroteRegs_wrPlain (s.seen m) (v ||| 0x1000000) (List.mem_singleton_self HLT_TEMP_LIM)
  have hseen : (s.seen m).rd HLT_TEMP_LIM = s.rd HLT_TEMP_LIM := State.rd_congr (s.seen_regs m) _
  have hor : HLT_TEMP_LIM_warn.get (v ||| 0x1000000) = HLT_TEMP_LIM_warn.get v := Fld.get_or (by decide) v
  have hclamp : clampNat 85 124 (HLT_TEMP_LIM_warn.get v) = max 85 (min (HLT_TEMP_LIM_warn.get v) 124) := by
    unfold clampNat
    omega
  have hfit : max 85 (min (HLT_TEMP_LIM_warn.get v) 124) % 2 ^ HLT_TEMP_LIM_warn.width = max 85 (min (HLT_TEMP_LIM_warn.get v) 124) :=
    Nat.mod_eq_of_lt (show _ < 256 by omega)
  have hput : d.write (s.rd HLT_TEMP_LIM) (v ||| 0x1000000) = HLT_TEMP_LIM_warn.put (s.rd HLT_TEMP_LIM) (max 85 (min (HLT_TEMP_LIM_warn.get v) 124)) := by
    rw [RegDesc.write, hf, ← hclamp, ← hor]
    rfl
  rw [hseen, hput] at hword
  generalize (s.seen m).wrPlain HLT_TEMP_LIM (v ||| 0x1000000) = u at hgo hword hwrote
  obtain ⟨hothers, hframe, hcell⟩ := u.rd_clrMax
  have hlim : u.clrMax.rd HLT_TEMP_LIM = u.rd HLT_TEMP_LIM := hothers _ (by decide)
  have hus : ∀ n, n < 24 → u.rd (HLT_TEMP n) = s.rd (HLT_TEMP n) := fun n hn =>
    (hwrote.1 _ (fun h => by have := List.mem_singleton.1 h; simp only [HLT_TEMP, HLT_TEMP_LIM] at this; omega)).trans (State.rd_congr (s.seen_regs m) _)
  have htemp : ∀ w : Word, HLT_TEMP_temp.get w % 2 ^ HLT_TEMP_max_hold.width = HLT_TEMP_temp.get w := fun w => Nat.mod_eq_of_lt (HLT_TEMP_temp.get_lt w)
  refine ⟨_, congrArg Host.Outcome.next hgo, ?_, fun a ha _ => ?_, ?_, ?_, ?_, fun n hn => ?_⟩
  · rw [hframe, hwrote.2]
  · rw [List.mem_cons, not_or] at ha
    exact (hothers a ha.2).trans ((hwrote.1 a (fun h => ha.1 (List.mem_singleton.1 h))).trans (State.rd_congr (s.seen_regs m) _))
  · rw [State.fld, hlim, hword, Fld.get_put _ _ _ (by decide) (by decide), hfit]
  · rw [State.fld, hlim, hword, Fld.get_put_ne _ _ _ _ (by decide) (by decide) (by decide) (by decide)]
    rfl
  · rw [State.fld, hlim, hword, Fld.get_put_ne _ _ _ _ (by decide) (by decide) (by decide) (by decide)]
    rfl
  · simp only [State.fld, hcell n hn, hus n hn]
    refine ⟨?_, ?_, ?_⟩
    · rw [Fld.get_put _ _ _ (by decide) (by decide), htemp]
    · rw [Fld.get_put_ne _ _ _ _ (by decide) (by decide) (by decide) (by decide)]
    · rw [Fld.get_put_ne _ _ _ _ (by decide) (by decide) (by decide) (by decide)]

/-- HLT_PMB_CFG.clr_counts. -/
theorem gives_clrCounts (hw : s.writable m HLT_PMB_CFG) (v : Word) :
    Gives (.clrCounts m v) s (fun t => t.fld HLT_PMB_STATUS HLT_PMB_STATUS_err_count = 0 ∧
      (∀ f ∈ [HLT_PMB_STATUS_link_lost, HLT_PMB_STATUS_reg_fault, HLT_PMB_STATUS_mode_refused, HLT_PMB_STATUS_vmismatch],
        t.fld HLT_PMB_STATUS f = s.fld HLT_PMB_STATUS f) ∧
      t.fld HLT_PMB_CFG HLT_PMB_CFG_addr = HLT_PMB_CFG_addr.get v ∧ t.fld HLT_PMB_CFG HLT_PMB_CFG_fast_plus = HLT_PMB_CFG_fast_plus.get v ∧
      s.onlyRegs t [HLT_PMB_CFG, HLT_PMB_STATUS] ∧ t = { s.seen m with regs := t.regs }) := by
  have hbit : (v ||| 512).toNat.testBit 9 = true := testBit_or_set v 512 (by decide) (by decide)
  have hgo : s.regCommand m HLT_PMB_CFG (v ||| 512) = ((s.seen m).wrPlain HLT_PMB_CFG (v ||| 512)).setFld HLT_PMB_STATUS HLT_PMB_STATUS_err_count 0 := by
    rw [show HLT_PMB_CFG = 0x20010000 + 0x110 from rfl, State.regCommand_hlt (by decide) hw, State.hltWrite]
    exact if_pos hbit
  obtain ⟨d, hd, hf⟩ : ∃ d, regAt HLT_PMB_CFG = some d ∧ d.fields = [.rw 6 0, .rw 8 8] := ⟨_, rfl, rfl⟩
  have hword := State.rd_wrPlain_of hd (s.seen m) (v ||| 512)
  have hwrote := State.wroteRegs_wrPlain (s.seen m) (v ||| 512) (List.mem_singleton_self HLT_PMB_CFG)
  have haddr : HLT_PMB_CFG_addr.get (d.write ((s.seen m).rd HLT_PMB_CFG) (v ||| 512)) = HLT_PMB_CFG_addr.get v := by
    simp (disch := decide) only [RegDesc.write, hf, List.foldl, FAcc.write, HLT_PMB_CFG_addr, Fld.get_put, Fld.get_put_ne, Fld.get_mod, Fld.get_or]
  have hfast : HLT_PMB_CFG_fast_plus.get (d.write ((s.seen m).rd HLT_PMB_CFG) (v ||| 512)) = HLT_PMB_CFG_fast_plus.get v := by
    simp (disch := decide) only [RegDesc.write, hf, List.foldl, FAcc.write, HLT_PMB_CFG_fast_plus, Fld.get_put, Fld.get_put_ne, Fld.get_mod, Fld.get_or]
  rw [← hword] at haddr hfast
  generalize (s.seen m).wrPlain HLT_PMB_CFG (v ||| 512) = u at hgo hwrote haddr hfast
  have hset := State.wroteRegs_setFld u (l := [HLT_PMB_STATUS]) HLT_PMB_STATUS_err_count 0 (List.mem_singleton_self _)
  have hzero := State.fld_setFld_same (f := HLT_PMB_STATUS_err_count) u HLT_PMB_STATUS 0 (by decide) (by decide)
  have hus : u.rd HLT_PMB_STATUS = s.rd HLT_PMB_STATUS := (hwrote.1 _ (by decide)).trans (State.rd_congr (s.seen_regs m) _)
  have hkept : ∀ f ∈ [HLT_PMB_STATUS_link_lost, HLT_PMB_STATUS_reg_fault, HLT_PMB_STATUS_mode_refused, HLT_PMB_STATUS_vmismatch],
      (u.setFld HLT_PMB_STATUS HLT_PMB_STATUS_err_count 0).fld HLT_PMB_STATUS f = s.fld HLT_PMB_STATUS f := fun f hfm => by
    have hrange : f.lo ≤ f.hi ∧ 15 < f.lo := by
      fin_cases hfm <;> decide
    rw [State.fld_setFld_ne (f := HLT_PMB_STATUS_err_count) (g := f) u 0 (by decide) (by decide) hrange.1 (.inr hrange.2), State.fld, hus]
    rfl
  have hcfg : (u.setFld HLT_PMB_STATUS HLT_PMB_STATUS_err_count 0).rd HLT_PMB_CFG = u.rd HLT_PMB_CFG := hset.1 _ (by decide)
  generalize u.setFld HLT_PMB_STATUS HLT_PMB_STATUS_err_count 0 = t at hgo hset hzero hkept hcfg
  refine ⟨t, congrArg Host.Outcome.next hgo, hzero, hkept, ?_, ?_, fun a ha _ => ?_, by rw [hset.2, hwrote.2]⟩
  · rw [State.fld, hcfg]
    exact haddr
  · rw [State.fld, hcfg]
    exact hfast
  · simp only [List.mem_cons, List.not_mem_nil, or_false, not_or] at ha
    exact (hset.1 a (fun h => ha.2 (List.mem_singleton.1 h))).trans
      ((hwrote.1 a (fun h => ha.1 (List.mem_singleton.1 h))).trans (State.rd_congr (s.seen_regs m) _))

end

end

/-- Settles O13: the sensors and monitors of a sample one by one, the thresholds against the hottest, the groups channel by channel. -/
theorem sensors : Obligations.Sensors := by
  unfold Obligations.Sensors
  intro s
  refine ⟨fun r hrun => ⟨_, rfl, ?_⟩, fun r hrun => ⟨_, rfl, ?_⟩, fun hcrit hrun => ⟨_, rfl, ?_⟩, fun h => ⟨_, rfl, ?_⟩, fun r hrun => ⟨_, rfl, ?_⟩,
    fun r hrun => ⟨_, rfl, ?_⟩, fun n hunder hrun => ⟨_, rfl, ?_⟩, fun n h => ⟨_, rfl, ?_⟩, fun m v hw => gives_clrMax hw v, fun m v hw => gives_clrCounts hw v⟩
  · rw [State.tempSample, hrun]
    rfl
  · obtain ⟨hframe, hhlt, hhot, hcell, hframes, hquiet, honly, heq⟩ := s.tempSample_groups hrun r
    obtain ⟨hjframe, hseen, hjcell, ⟨es, hlen, hlog⟩, -⟩ := s.tempsJudged_read r
    have htop := fun top => s.tempsJudged_top r (top := top)
    have hnone := s.tempsJudged_none r
    have hnewly : ((List.range 24).flatMap (s.tempEvents r)).length =
        ((List.range 24).filter (fun n => !s.hlt.tempBad.testBit n && (s.hlt.tempBad.testBit n || s.tempImplausible r n))).length := by
      rw [length_tempEvents]
      exact congrArg List.length (List.filter_congr fun n _ => Bool.and_comm _ _)
    generalize (s.tempsRead r).tempsJudged (s.tempValsNow r) = j at hframe hhlt hquiet hjframe hseen hjcell hlog htop hnone
    have hrd : ∀ n, n < 24 → (s.tempSample r).rd (HLT_TEMP n) = j.rd (HLT_TEMP n) := fun n hn => by
      have hg : (j.groupsTaken r).rd (HLT_TEMP n) = j.rd (HLT_TEMP n) := by
        rw [(j.groupsTaken_spec r).1]
        rfl
      refine (hframe.rd _ (fun h => ?_) (isSrcLost_eq_false.2 (HLT_TEMP_not_lost hn))).trans hg
      obtain ⟨k, -, hk⟩ := mem_htrStatus.1 h
      simp only [HLT_TEMP, BNK_HTR_STATUS] at hk
      omega
    refine ⟨by rw [hhlt]; exact hseen, fun n hn => ?_, fun h => ?_, fun top hmem hle => ?_, fun g hg => ?_, fun n hn => hcell n hn, hframes, honly, heq⟩
    · obtain ⟨hbad, htemp, hvalid, hhold⟩ := hjcell n hn
      simp only [State.fld, hrd n hn, hhlt]
      refine ⟨htemp, hvalid, hhold, hbad, fun hwas hnow => ?_⟩
      have hfound : s.tempFound r n = true := by
        rw [State.tempFound, State.tempBadNow, hnow, hwas]
        rfl
      have hall := hlog.then_none hjframe.running hquiet
      refine hall.tells (List.mem_append_left _ (mem_tempEvents hn hfound)) ?_ rfl
      rw [List.length_append, hnewly]
      exact Nat.add_le_add_left hlen _
    · rw [hhlt]
      exact hnone h
    · obtain ⟨hwarn, hlimit, hcrit, hlog'⟩ := htop top hmem hle
      have hall := hlog'.then_none hjframe.running hquiet
      have hlen' : ((List.range 24).flatMap (s.tempEvents r) ++ (s.warnEvents top ++ s.limitEvents top)).length ≤
          ((List.range 24).filter (fun n => !s.hlt.tempBad.testBit n && (s.hlt.tempBad.testBit n || s.tempImplausible r n))).length + 2 := by
        have hw : (s.warnEvents top).length ≤ 1 := by
          rw [State.warnEvents]
          split <;> split <;> decide
        have hl : (s.limitEvents top).length ≤ 1 := by
          rw [State.limitEvents]
          split
          · decide
          · split <;> decide
        rw [List.length_append, List.length_append, hnewly]
        omega
      rw [hhlt]
      refine ⟨hwarn, hlimit, hcrit, fun hoff hle' => ?_, fun hon hlt => ?_, fun hoff hle' => ?_⟩
      · refine hall.tells (List.mem_append_right _ (List.mem_append_left _ ?_)) hlen' rfl
        rw [State.warnEvents, if_neg (by rw [hoff]; decide), if_pos hle']
        exact List.mem_singleton_self _
      · refine hall.tells (List.mem_append_right _ (List.mem_append_left _ ?_)) hlen' rfl
        rw [State.warnEvents, if_pos hon, if_pos hlt]
        exact List.mem_singleton_self _
      · refine hall.tells (List.mem_append_right _ (List.mem_append_right _ ?_)) hlen' rfl
        rw [State.limitEvents, if_neg (by rw [hoff]; decide), if_pos hle']
        exact List.mem_singleton_self _
    · rw [hhot g hg]
      show groupHot _ (if s.tempBadNow r (20 + g) then _ else _) = if s.tempBadNow r (20 + g) then _ else _
      cases s.tempBadNow r (20 + g) <;> rfl
  · rw [State.tempCritical, if_pos hcrit]
    exact State.raise_fatal_spec hrun (by decide) rfl noInst
  · rw [State.tempCritical]
    rcases h with h | h
    · rw [if_neg (by rw [h]; decide)]
    · rw [State.raise_of_stopped h, ite_self]
  · rw [State.vmonSample, hrun]
    rfl
  · obtain ⟨hframe, hhlt, hword, hunder, hoff, hon, hlog, hquiet⟩ := s.vmonSample_spec r hrun
    have hlen := length_vmonEvents s r (List.range 12)
    rw [filter_vmonOff s r] at hlen
    refine ⟨fun n hn => ?_, hunder, fun n hn ho => ⟨hoff n hn ho, hlog.tells ?_ (Nat.le_of_eq hlen) rfl⟩, hon,
      fun hk => hquiet (List.length_eq_zero_iff.1 (hlen.trans hk)), hframe.1, ?_⟩
    · obtain ⟨h1, h2, h3⟩ := s.vmonWord_fields r n (s.rd (HLT_VMON n))
      simp only [State.fld, hword n hn]
      refine ⟨h1, h2, h3, fun h => hlog.tells ?_ (Nat.le_of_eq hlen) rfl⟩
      refine List.mem_flatMap.2 ⟨n, List.mem_range.2 hn, List.mem_append_left _ ?_⟩
      have hb : (s.vmonLow r n || s.vmonHigh r n) = true := Bool.or_eq_true_iff.2 h
      rw [State.vmonLimEvents, if_pos hb, Nat.mod_eq_of_lt (show n < 4096 by omega)]
      exact List.mem_singleton_self _
    · refine List.mem_flatMap.2 ⟨n, List.mem_range.2 (by omega), List.mem_append_right _ ?_⟩
      rw [State.vmonOffEvents, if_pos ⟨hn, ho⟩]
      exact List.mem_singleton_self _
    · have hf := hframe.2
      rw [hhlt] at hf
      exact hf
  · have hlt := n.isLt
    have h := State.raise_fatal_spec (c := 0x0241) hrun (by decide) rfl n.val
    rw [Nat.mod_eq_of_lt (show n.val < 4096 by omega)] at h
    rw [State.undervolt, if_pos hunder]
    exact h
  · rw [State.undervolt]
    rcases h with h | h
    · rw [if_neg (by rw [h]; decide)]
    · rw [State.raise_of_stopped h, ite_self]

end Sys2Proof.Machine

/-! The governor: the law, the rates of a period, the command and the needs (R44 to R47). -/

namespace Sys2Proof.Machine

section
variable {s t u : State} {l l' : List Nat}

/-! The law (R46) -/

section
variable {cmd above floorPct lowerPct dwell vmin hold r d : Nat} {noLower : Bool}

/-- What the law makes of the raise that the margin asks for and of whether the margin is above lower_pct. -/
def lawOf (cmd above dwell vmin hold : Nat) (noLower : Bool) (up : Nat) (high : Bool) : Nat × Nat :=
  let (c, a) :=
    if 0 < up then (min (cmd + up) 900, 0)
    else if high then
      if max 1 dwell ≤ above + 1 then (if noLower then cmd else max (max (cmd - 5) vmin) hold, 0) else (cmd, above + 1)
    else (cmd, 0)
  (max c hold, a)

theorem govLaw_some : govLaw cmd above floorPct lowerPct dwell vmin hold noLower (some (r, d)) = lawOf cmd above dwell vmin hold noLower
    (if 100 * r < (100 + 5) * d then 30 else if 100 * r < (100 + floorPct) * d then 10 else 0) (decide ((100 + lowerPct) * d < 100 * r)) := by
  unfold govLaw lawOf
  simp only [decide_eq_true_eq]

theorem govLaw_none : govLaw cmd above floorPct lowerPct dwell vmin hold noLower none = lawOf cmd above dwell vmin hold noLower 0 true := rfl

theorem lawOf_up {up : Nat} {high : Bool} (h : 0 < up) : lawOf cmd above dwell vmin hold noLower up high = (max (min (cmd + up) 900) hold, 0) := by
  unfold lawOf
  rw [if_pos h]

theorem lawOf_keep : lawOf cmd above dwell vmin hold noLower 0 false = (max cmd hold, 0) := rfl

theorem lawOf_counts (h : above + 1 < max 1 dwell) : lawOf cmd above dwell vmin hold noLower 0 true = (max cmd hold, above + 1) := by
  unfold lawOf
  rw [if_neg (by decide), if_pos rfl, if_neg (by omega)]

theorem lawOf_down (h : max 1 dwell ≤ above + 1) : lawOf cmd above dwell vmin hold noLower 0 true =
    (max (if noLower then cmd else max (max (cmd - 5) vmin) hold) hold, 0) := by
  unfold lawOf
  rw [if_neg (by decide), if_pos rfl, if_pos h]

/-- The law, by where the margin lies. -/
theorem govLaw_cases (hfloor : 5 ≤ floorPct) (hlower : floorPct + 5 ≤ lowerPct) :
    let law := govLaw cmd above floorPct lowerPct dwell vmin hold noLower (some (r, d))
    let down := max (if noLower then cmd else max (max (cmd - 5) vmin) hold) hold
    (100 * r < 105 * d → law = (max (min (cmd + 30) 900) hold, 0)) ∧
    (105 * d ≤ 100 * r → 100 * r < (100 + floorPct) * d → law = (max (min (cmd + 10) 900) hold, 0)) ∧
    ((100 + floorPct) * d ≤ 100 * r → 100 * r ≤ (100 + lowerPct) * d → law = (max cmd hold, 0)) ∧
    ((100 + lowerPct) * d < 100 * r → above + 1 < max 1 dwell → law = (max cmd hold, above + 1)) ∧
    ((100 + lowerPct) * d < 100 * r → max 1 dwell ≤ above + 1 → law = (down, 0)) ∧
    (above + 1 < max 1 dwell → govLaw cmd above floorPct lowerPct dwell vmin hold noLower none = (max cmd hold, above + 1)) ∧
    (max 1 dwell ≤ above + 1 → govLaw cmd above floorPct lowerPct dwell vmin hold noLower none = (down, 0)) := by
  have h5 : (100 + 5) * d ≤ (100 + floorPct) * d := Nat.mul_le_mul_right d (by omega)
  have hle : (100 + floorPct) * d ≤ (100 + lowerPct) * d := Nat.mul_le_mul_right d (by omega)
  rw [govLaw_some, govLaw_none]
  generalize (100 + floorPct) * d = x at h5 hle ⊢
  generalize (100 + lowerPct) * d = y at hle ⊢
  refine ⟨fun h => ?_, fun h h' => ?_, fun h h' => ?_, fun h h' => ?_, fun h h' => ?_, lawOf_counts, lawOf_down⟩
  · rw [if_pos (by omega)]
    exact lawOf_up (by decide)
  · rw [if_neg (by omega), if_pos (by omega)]
    exact lawOf_up (by decide)
  · rw [if_neg (by omega), if_neg (by omega), decide_eq_false (by omega)]
    exact lawOf_keep
  · rw [if_neg (by omega), if_neg (by omega), decide_eq_true h]
    exact lawOf_counts h'
  · rw [if_neg (by omega), if_neg (by omega), decide_eq_true h]
    exact lawOf_down h'

end

/-! Changes of the governor -/

/-- Nothing changes but registers of a list, the health block's state, the event queue's buffers and what is sent on the PMBus. -/
def State.govFrame (s t : State) (l : List Nat) : Prop :=
  s.onlyRegs t l ∧ t = { s with regs := t.regs, flt := t.flt, hlt := t.hlt, outputs := t.outputs }

theorem State.govFrame.refl (s : State) (l : List Nat) : s.govFrame s l := ⟨State.onlyRegs.refl s l, rfl⟩

theorem State.govFrame.trans (h1 : s.govFrame t l) (h2 : t.govFrame u l) : s.govFrame u l := by
  refine ⟨fun a hl ha => (h2.1 a hl ha).trans (h1.1 a hl ha), ?_⟩
  rw [h2.2, h1.2]

theorem State.govFrame.mono (h : s.govFrame t l) (hl : ∀ a ∈ l, a ∈ l') : s.govFrame t l' := ⟨fun a ha hl' => h.1 a (fun hm => ha (hl a hm)) hl', h.2⟩

theorem State.hltFrame.govFrame (h : s.hltFrame t l) : s.govFrame t l := ⟨h.1, by rw [h.2]⟩

theorem State.hltFrame.outputs (h : s.hltFrame t l) : t.outputs = s.outputs := by rw [h.2]

theorem State.govFrame.running (h : s.govFrame t l) : t.running = s.running := by
  rw [h.2]
  rfl

/-! The rates of a period (R44) -/

theorem RATE_MEAS_inj {n k : Nat} (h : HLT_RATE_MEAS n = HLT_RATE_MEAS k) : n = k := by
  rw [HLT_RATE_MEAS, HLT_RATE_MEAS] at h
  omega

theorem RATE_NEED_inj {n k : Nat} (h : HLT_RATE_NEED n = HLT_RATE_NEED k) : n = k := by
  rw [HLT_RATE_NEED, HLT_RATE_NEED] at h
  omega

theorem RATE_MEAS_not_lost {n : Nat} (hn : n < 32) : HLT_RATE_MEAS n < FLT_SRC_LOST 1 ∨ FLT_SRC_LOST 16 < HLT_RATE_MEAS n := .inl (by
  rw [HLT_RATE_MEAS, FLT_SRC_LOST]
  omega)

theorem RATE_NEED_not_lost {n : Nat} (hn : n < 32) : HLT_RATE_NEED n < FLT_SRC_LOST 1 ∨ FLT_SRC_LOST 16 < HLT_RATE_NEED n := .inl (by
  rw [HLT_RATE_NEED, FLT_SRC_LOST]
  omega)

theorem RATE_NEED_ne_MEAS {n k : Nat} (hn : n < 32) : HLT_RATE_NEED n ≠ HLT_RATE_MEAS k := by
  rw [HLT_RATE_NEED, HLT_RATE_MEAS]
  omega

/-- The monitor is found faulty by this rate. -/
def State.rateBad (s : State) (n rate : Nat) : Bool :=
  s.monOn n && !s.hlt.faulty.testBit n &&
    (min rate 0xFFFF == 0 || (s.hlt.havePrev && !s.hlt.vcoreChanged && rateJump (s.fld (HLT_RATE_MEAS n) HLT_RATE_MEAS_rate) (min rate 0xFFFF)))

/-- The event of a monitor found faulty. -/
def State.rateEvents (s : State) (n rate : Nat) : List (Nat × Nat × Nat) := if s.rateBad n rate then [(0x0222, 3, n % 4096)] else []

/-- What a period's end leaves of one monitor. -/
structure RateCell (s t : State) (n rate : Nat) : Prop where
  shown : t.fld (HLT_RATE_MEAS n) HLT_RATE_MEAS_rate = min rate 65535
  faulty : t.hlt.faulty.testBit n = (s.hlt.faulty.testBit n || s.rateBad n rate)
  fault : t.fld (HLT_RATE_MEAS n) HLT_RATE_MEAS_fault = if s.rateBad n rate then 1 else s.fld (HLT_RATE_MEAS n) HLT_RATE_MEAS_fault
  excluded : t.fld (HLT_RATE_MEAS n) HLT_RATE_MEAS_excluded =
    boolNat (s.fld (HLT_RATE_NEED n) HLT_RATE_NEED_need_active = 0 || !s.monOn n || (s.hlt.faulty.testBit n || s.rateBad n rate))

/-- A monitor found faulty is noted. -/
def State.rateNoted (s : State) (n rate : Nat) : State :=
  let s1 := s.setFld (HLT_RATE_MEAS n) HLT_RATE_MEAS_rate (min rate 0xFFFF)
  if s.rateBad n rate then
    ((s1.setHlt { s1.hlt with faulty := withBit s1.hlt.faulty n true }).setFld (HLT_RATE_MEAS n) HLT_RATE_MEAS_fault 1).raise 0x0222 3 n
  else s1

/-- Whether a monitor is left out of the margin. -/
def State.rateOut (s : State) (n : Nat) : Bool :=
  s.fld (HLT_RATE_NEED n) HLT_RATE_NEED_need_active = 0 || !s.monOn n || s.hlt.faulty.testBit n

theorem State.measureRate_eq (s : State) (n rate : Nat) : s.measureRate n rate =
    (s.rateNoted n rate).setFld (HLT_RATE_MEAS n) HLT_RATE_MEAS_excluded (boolNat ((s.rateNoted n rate).rateOut n)) := rfl

theorem State.rateNoted_spec (s : State) {n : Nat} (hn : n < 32) (rate : Nat) :
    s.hltFrame (s.rateNoted n rate) [HLT_RATE_MEAS n] ∧
      (s.rateNoted n rate).hlt = { s.hlt with faulty := if s.rateBad n rate then withBit s.hlt.faulty n true else s.hlt.faulty } ∧
      (s.rateNoted n rate).fld (HLT_RATE_MEAS n) HLT_RATE_MEAS_rate = min rate 65535 ∧
      (s.rateNoted n rate).fld (HLT_RATE_MEAS n) HLT_RATE_MEAS_fault = (if s.rateBad n rate then 1 else s.fld (HLT_RATE_MEAS n) HLT_RATE_MEAS_fault) ∧
      s.logs (s.rateNoted n rate) 2 (s.rateEvents n rate) := by
  have hw := State.wroteRegs_setFld s (l := [HLT_RATE_MEAS n]) HLT_RATE_MEAS_rate (min rate 0xFFFF) (List.mem_singleton_self _)
  have hrate : (s.setFld (HLT_RATE_MEAS n) HLT_RATE_MEAS_rate (min rate 0xFFFF)).fld (HLT_RATE_MEAS n) HLT_RATE_MEAS_rate = min rate 65535 :=
    (State.fld_setFld_same (f := HLT_RATE_MEAS_rate) s _ _ (by decide) (by decide)).trans (Nat.mod_eq_of_lt (Nat.lt_succ_of_le (Nat.min_le_right _ _)))
  have hfault : (s.setFld (HLT_RATE_MEAS n) HLT_RATE_MEAS_rate (min rate 0xFFFF)).fld (HLT_RATE_MEAS n) HLT_RATE_MEAS_fault = s.fld (HLT_RATE_MEAS n) HLT_RATE_MEAS_fault :=
    State.fld_setFld_ne (f := HLT_RATE_MEAS_rate) (g := HLT_RATE_MEAS_fault) s _ (by decide) (by decide) (by decide) (by decide)
  rw [State.rateNoted, State.rateEvents]
  generalize s.setFld (HLT_RATE_MEAS n) HLT_RATE_MEAS_rate (min rate 0xFFFF) = s1 at hw hrate hfault
  have hhlt : s1.hlt = s.hlt := by rw [hw.2]
  have hflt : s1.flt = s.flt := by rw [hw.2]
  by_cases hb : s.rateBad n rate = true
  · have hset := s1.hltFrame_setHlt { s1.hlt with faulty := withBit s1.hlt.faulty n true } [HLT_RATE_MEAS n]
    obtain ⟨s2, hs2⟩ : ∃ s2, s1.setHlt { s1.hlt with faulty := withBit s1.hlt.faulty n true } = s2 := ⟨_, rfl⟩
    have h2hlt : s2.hlt = { s1.hlt with faulty := withBit s1.hlt.faulty n true } := (congrArg State.hlt hs2).symm
    have h2fld : ∀ f, s2.fld (HLT_RATE_MEAS n) f = s1.fld (HLT_RATE_MEAS n) f := fun f => by rw [← hs2]; rfl
    have h2flt : s2.flt = s.flt := (congrArg State.flt hs2).symm.trans hflt
    have hw3 := State.wroteRegs_setFld s2 (l := [HLT_RATE_MEAS n]) HLT_RATE_MEAS_fault 1 (List.mem_singleton_self _)
    have hone := State.fld_setFld_same (f := HLT_RATE_MEAS_fault) s2 (HLT_RATE_MEAS n) 1 (by decide) (by decide)
    have hkept := State.fld_setFld_ne (f := HLT_RATE_MEAS_fault) (g := HLT_RATE_MEAS_rate) s2 (a := HLT_RATE_MEAS n) 1 (by decide) (by decide) (by decide) (by decide)
    have hlog := hw3.logs_raise (c := 0x0222) (k := 3) n 0
    rw [if_pos hb, if_pos hb, if_pos hb, if_pos hb]
    rw [hs2] at hset ⊢
    generalize s2.setFld (HLT_RATE_MEAS n) HLT_RATE_MEAS_fault 1 = s3 at hw3 hone hkept hlog
    have h3hlt : s3.hlt = s2.hlt := by rw [hw3.2]
    have hrd : (s3.raise 0x0222 3 n).rd (HLT_RATE_MEAS n) = s3.rd (HLT_RATE_MEAS n) :=
      (s3.raise_frame 0x0222 3 n 0 (by decide)).onlyRegs [] _ List.not_mem_nil (RATE_MEAS_not_lost hn)
    refine ⟨((hw.wroteEvents.hltFrame.trans hset).trans hw3.wroteEvents.hltFrame).trans (State.hltFrame_raise s3 n 0 (by decide) (by decide) rfl _),
      ?_, ?_, ?_, ?_⟩
    · rw [State.raise_hlt s3 n 0 (by decide) (by decide) rfl, h3hlt, h2hlt, hhlt]
    · rw [State.fld, hrd]
      exact hkept.trans ((h2fld _).trans hrate)
    · rw [State.fld, hrd]
      exact hone
    · have hrun : s2.running = s.running := (hw.wroteEvents.hltFrame.trans hset).running
      exact State.logs.trans (es := []) (State.logs_of_flt h2flt) hrun hlog
  · rw [if_neg hb, if_neg hb, if_neg hb, if_neg hb]
    exact ⟨hw.wroteEvents.hltFrame, hhlt, hrate, hfault, State.logs_of_flt hflt⟩

theorem State.monOn_congr (h : t.rd SYS_POLDER = s.rd SYS_POLDER) (n : Nat) : t.monOn n = s.monOn n := by
  rw [State.monOn, State.fld, h]
  rfl

theorem State.measureRate_spec (s : State) {n : Nat} (hn : n < 32) (rate : Nat) :
    RateCell s (s.measureRate n rate) n rate ∧ s.hltFrame (s.measureRate n rate) [HLT_RATE_MEAS n] ∧
      (s.measureRate n rate).hlt = { s.hlt with faulty := (s.measureRate n rate).hlt.faulty } ∧
      (∀ k, k ≠ n → (s.measureRate n rate).hlt.faulty.testBit k = s.hlt.faulty.testBit k) ∧
      s.logs (s.measureRate n rate) 2 (s.rateEvents n rate) := by
  obtain ⟨hframe, hhlt, hrate, hfault, hlog⟩ := s.rateNoted_spec hn rate
  rw [State.measureRate_eq]
  generalize s.rateNoted n rate = u at hframe hhlt hrate hfault hlog
  have hbit : u.hlt.faulty.testBit n = (s.hlt.faulty.testBit n || s.rateBad n rate) := by
    rw [hhlt]
    cases s.rateBad n rate
    · exact (Bool.or_false _).symm
    · exact (testBit_withBit_self _ _).trans (Bool.or_true _).symm
  have hpolder : u.rd SYS_POLDER = s.rd SYS_POLDER := hframe.1 _ (fun h => by
    have := List.mem_singleton.1 h
    simp only [SYS_POLDER, HLT_RATE_MEAS] at this
    omega) (by decide)
  have hneed : u.rd (HLT_RATE_NEED n) = s.rd (HLT_RATE_NEED n) :=
    hframe.1 _ (fun h => RATE_NEED_ne_MEAS hn (List.mem_singleton.1 h)) (RATE_NEED_not_lost hn)
  have hout : u.rateOut n = (s.fld (HLT_RATE_NEED n) HLT_RATE_NEED_need_active = 0 || !s.monOn n || (s.hlt.faulty.testBit n || s.rateBad n rate)) := by
    rw [State.rateOut, State.fld, hneed, State.monOn_congr hpolder, hbit]
    rfl
  have hw := State.wroteRegs_setFld u (l := [HLT_RATE_MEAS n]) HLT_RATE_MEAS_excluded (boolNat (u.rateOut n)) (List.mem_singleton_self _)
  have hex := State.fld_setFld_same (f := HLT_RATE_MEAS_excluded) u (HLT_RATE_MEAS n) (boolNat (u.rateOut n)) (by decide) (by decide)
  have hfit : boolNat (u.rateOut n) % 2 ^ HLT_RATE_MEAS_excluded.width = boolNat (u.rateOut n) := Nat.mod_eq_of_lt (boolNat_lt _)
  have hkeep : ∀ g : Fld, g.lo ≤ g.hi → (g.hi < 16 ∨ 16 < g.lo) → (u.setFld (HLT_RATE_MEAS n) HLT_RATE_MEAS_excluded (boolNat (u.rateOut n))).fld (HLT_RATE_MEAS n) g =
      u.fld (HLT_RATE_MEAS n) g := fun g hg hne => State.fld_setFld_ne (f := HLT_RATE_MEAS_excluded) u _ (by decide) (by decide) hg hne
  rw [hfit] at hex
  generalize u.setFld (HLT_RATE_MEAS n) HLT_RATE_MEAS_excluded (boolNat (u.rateOut n)) = t at hw hex hkeep
  have hthlt : t.hlt = u.hlt := by rw [hw.2]
  refine ⟨⟨(hkeep _ (by decide) (by decide)).trans hrate, by rw [hthlt]; exact hbit, (hkeep _ (by decide) (by decide)).trans hfault, hex.trans (congrArg boolNat hout)⟩,
    hframe.trans hw.wroteEvents.hltFrame, ?_, fun k hk => ?_, hlog.then_none hframe.running (State.logs_of_flt (by rw [hw.2]))⟩
  · rw [hthlt, hhlt]
  · rw [hthlt, hhlt]
    cases s.rateBad n rate
    · rfl
    · exact (testBit_withBit _ _ _ _).trans (if_neg hk)

theorem RateCell.congr {s0 : State} {n rate : Nat} (h : RateCell s t n rate) (hfaulty : s.hlt.faulty.testBit n = s0.hlt.faulty.testBit n)
    (hprev : s.hlt.havePrev = s0.hlt.havePrev) (hcmd : s.hlt.vcoreChanged = s0.hlt.vcoreChanged) (hmeas : s.rd (HLT_RATE_MEAS n) = s0.rd (HLT_RATE_MEAS n))
    (hneed : s.rd (HLT_RATE_NEED n) = s0.rd (HLT_RATE_NEED n)) (hpolder : s.rd SYS_POLDER = s0.rd SYS_POLDER) :
    RateCell s0 t n rate ∧ s.rateBad n rate = s0.rateBad n rate := by
  have hmon := State.monOn_congr hpolder n
  have hbad : s.rateBad n rate = s0.rateBad n rate := by
    rw [State.rateBad, State.rateBad, hmon, hfaulty, hprev, hcmd, State.fld, hmeas]
    rfl
  refine ⟨⟨h.shown, by rw [h.faulty, hfaulty, hbad], ?_, ?_⟩, hbad⟩
  · rw [h.fault, hbad, State.fld, hmeas]
    rfl
  · rw [h.excluded, hbad, hmon, hfaulty, State.fld, hneed]
    rfl

theorem foldl_measureRate (rates : List Nat) (l : List Nat) (hl : l.Nodup) (hlt : ∀ n ∈ l, n < 32) (s : State) :
    let t := l.foldl (fun (x : State) n => x.measureRate n (rates.getD n 0)) s
    (∀ n ∈ l, RateCell s t n (rates.getD n 0)) ∧ s.hltFrame t (l.map HLT_RATE_MEAS) ∧ t.hlt = { s.hlt with faulty := t.hlt.faulty } ∧
      (∀ n, n ∉ l → t.hlt.faulty.testBit n = s.hlt.faulty.testBit n) ∧ s.logs t 2 (l.flatMap (fun n => s.rateEvents n (rates.getD n 0))) := by
  induction l generalizing s with
  | nil => exact ⟨fun n h => absurd h List.not_mem_nil, State.hltFrame.refl s _, rfl, fun _ _ => rfl, State.logs.refl s 2⟩
  | cons k l ih =>
    obtain ⟨hk, hl⟩ := List.nodup_cons.1 hl
    have hk32 := hlt k List.mem_cons_self
    obtain ⟨hcell, hframe, hhlt, hothers, hlog⟩ := s.measureRate_spec hk32 (rates.getD k 0)
    obtain ⟨hcells, hframe', hhlt', hothers', hlog'⟩ := ih hl (fun n hn => hlt n (List.mem_cons_of_mem _ hn)) (s.measureRate k (rates.getD k 0))
    rw [List.foldl_cons]
    generalize s.measureRate k (rates.getD k 0) = u at hcell hframe hhlt hothers hlog hcells hframe' hhlt' hothers' hlog'
    have hpolder : u.rd SYS_POLDER = s.rd SYS_POLDER := hframe.1 _ (fun h => by
      have := List.mem_singleton.1 h
      simp only [SYS_POLDER, HLT_RATE_MEAS] at this
      omega) (by decide)
    have hprev := congrArg HltState.havePrev hhlt
    have hchanged := congrArg HltState.vcoreChanged hhlt
    have hagree : ∀ {t : State} {n}, n ∈ l → RateCell u t n (rates.getD n 0) → RateCell s t n (rates.getD n 0) ∧ u.rateBad n (rates.getD n 0) = s.rateBad n (rates.getD n 0) :=
      fun {t n} hn h => by
        have hne : n ≠ k := fun e => hk (e ▸ hn)
        have hn32 := hlt n (List.mem_cons_of_mem _ hn)
        exact h.congr (hothers n hne) hprev hchanged
          (hframe.1 _ (fun e => hne (RATE_MEAS_inj (List.mem_singleton.1 e))) (RATE_MEAS_not_lost hn32))
          (hframe.1 _ (fun e => RATE_NEED_ne_MEAS hn32 (List.mem_singleton.1 e)) (RATE_NEED_not_lost hn32)) hpolder
    refine ⟨fun n hn => ?_, (hframe.mono ?_).trans (hframe'.mono ?_), hhlt'.trans (by rw [hhlt]), fun n hn => ?_, ?_⟩
    · rcases List.mem_cons.1 hn with rfl | hn
      · have hrd : ∀ f, (l.foldl (fun (x : State) n => x.measureRate n (rates.getD n 0)) u).fld (HLT_RATE_MEAS n) f = u.fld (HLT_RATE_MEAS n) f := fun f =>
          congrArg f.get (hframe'.1 _ (fun h => by
            obtain ⟨j, hj, he⟩ := List.mem_map.1 h
            exact hk (RATE_MEAS_inj he ▸ hj)) (RATE_MEAS_not_lost hk32))
        exact ⟨(hrd _).trans hcell.shown, (hothers' n hk).trans hcell.faulty, (hrd _).trans hcell.fault, (hrd _).trans hcell.excluded⟩
      · exact (hagree hn (hcells n hn)).1
    · exact fun a ha => List.mem_map.2 ⟨k, List.mem_cons_self, (List.mem_singleton.1 ha).symm⟩
    · exact fun a ha => by
        obtain ⟨j, hj, he⟩ := List.mem_map.1 ha
        exact List.mem_map.2 ⟨j, List.mem_cons_of_mem _ hj, he⟩
    · rw [List.mem_cons, not_or] at hn
      exact (hothers' n hn.2).trans (hothers n hn.1)
    · have hevents : l.flatMap (fun n => s.rateEvents n (rates.getD n 0)) = l.flatMap (fun n => u.rateEvents n (rates.getD n 0)) := by
        refine List.flatMap_congr fun n hn => ?_
        rw [State.rateEvents, State.rateEvents, (hagree hn (hcells n hn)).2]
      rw [List.flatMap_cons, hevents]
      exact hlog.trans hframe.running hlog'

end

end Sys2Proof.Machine

/-! The governor's command, its period and the marks of a swap of needs (R45 to R48). -/

namespace Sys2Proof.Machine

section
variable {s t u : State} {l l' : List Nat}

/-! The command (R46, R50) -/

/-- What is sent for a changed command. -/
theorem State.sendVout_spec (s : State) : ∃ p w, s.sendVout = { s with hlt := { s.hlt with pmb := p, pmbWait := w }, outputs := s.sendVout.outputs } := by
  rw [State.sendVout]
  split
  · exact ⟨s.hlt.pmb, s.hlt.pmbWait, rfl⟩
  · rw [State.pmbSend]
    split
    · exact ⟨_, _, rfl⟩
    · exact ⟨_, _, rfl⟩

theorem State.sendVout_frame (s : State) (l : List Nat) : s.govFrame s.sendVout l ∧ s.sendVout.regs = s.regs ∧ s.sendVout.flt = s.flt := by
  obtain ⟨p, w, heq⟩ := s.sendVout_spec
  generalize s.sendVout = t at heq
  exact ⟨⟨fun a _ _ => by rw [heq]; rfl, by rw [heq]⟩, by rw [heq], by rw [heq]⟩

/-- The fields of HLT_GOV_STATUS that the command leaves. -/
def govFields : List Fld := [HLT_GOV_STATUS_worst_mon, HLT_GOV_STATUS_min_margin, HLT_GOV_STATUS_headroom_alarm, HLT_GOV_STATUS_load_not_met]

/-- What a change of the command leaves. -/
structure Commanded (s t : State) (mv : Nat) : Prop where
  frame : s.govFrame t [HLT_GOV_STATUS]
  cmd : t.vcoreCmd = mv % 1024
  kept : ∀ f ∈ govFields, t.fld HLT_GOV_STATUS f = s.fld HLT_GOV_STATUS f
  flt : t.flt = s.flt
  hlt : ∃ p w c r, t.hlt = { s.hlt with pmb := p, pmbWait := w, vcoreChanged := c, lastRaise := r }

theorem State.vcoreCmd_lt (s : State) : s.vcoreCmd < 1024 := by
  have h := HLT_GOV_STATUS_vcore_cmd_mv.get_lt (s.rd HLT_GOV_STATUS)
  rwa [show 2 ^ HLT_GOV_STATUS_vcore_cmd_mv.width = 1024 from rfl] at h

theorem Commanded.refl (s : State) : Commanded s s s.vcoreCmd :=
  ⟨State.govFrame.refl s _, (Nat.mod_eq_of_lt s.vcoreCmd_lt).symm, fun _ _ => rfl, rfl, s.hlt.pmb, s.hlt.pmbWait, s.hlt.vcoreChanged, s.hlt.lastRaise, rfl⟩

theorem State.govFields_bounds : ∀ f ∈ govFields, f.lo ≤ f.hi ∧ 9 < f.lo ∧ (f.hi < 28 ∨ 28 < f.lo) := by decide

/-- Sending a command that has not changed. -/
theorem State.sendVout_commanded (s : State) : Commanded s s.sendVout s.vcoreCmd := by
  obtain ⟨p, w, heq⟩ := s.sendVout_spec
  generalize s.sendVout = t at heq
  have hrd : ∀ a, t.rd a = s.rd a := fun a => by rw [heq]; rfl
  refine ⟨⟨fun a _ _ => hrd a, by rw [heq]⟩, ?_, fun f _ => congrArg f.get (hrd _), by rw [heq], p, w, s.hlt.vcoreChanged, s.hlt.lastRaise, by rw [heq]⟩
  rw [State.vcoreCmd, State.fld, hrd]
  exact (Nat.mod_eq_of_lt s.vcoreCmd_lt).symm

/-- A command that has been loaded is sent. -/
theorem Commanded.of_sent {mv : Nat} (hw : s.wroteRegs u [HLT_GOV_STATUS]) (hcmd : u.vcoreCmd = mv % 1024)
    (hkept : ∀ f ∈ govFields, u.fld HLT_GOV_STATUS f = s.fld HLT_GOV_STATUS f) (c r : Bool) :
    Commanded s (u.setHlt { u.hlt with vcoreChanged := c, lastRaise := r }).sendVout mv := by
  have hset := u.hltFrame_setHlt { u.hlt with vcoreChanged := c, lastRaise := r } [HLT_GOV_STATUS]
  obtain ⟨x, hx⟩ : ∃ x, u.setHlt { u.hlt with vcoreChanged := c, lastRaise := r } = x := ⟨_, rfl⟩
  have hxhlt : x.hlt = { u.hlt with vcoreChanged := c, lastRaise := r } := (congrArg State.hlt hx).symm
  have hxregs : x.regs = u.regs := (congrArg State.regs hx).symm
  have hxflt : x.flt = u.flt := (congrArg State.flt hx).symm
  rw [hx] at hset ⊢
  obtain ⟨p, w, heq⟩ := x.sendVout_spec
  obtain ⟨hframe, hregs, hflt⟩ := x.sendVout_frame [HLT_GOV_STATUS]
  generalize x.sendVout = t at heq hframe hregs hflt
  have hrd : ∀ a, t.rd a = u.rd a := State.rd_congr (hregs.trans hxregs)
  refine ⟨(hw.wroteEvents.hltFrame.trans hset).govFrame.trans hframe, (congrArg HLT_GOV_STATUS_vcore_cmd_mv.get (hrd _)).trans hcmd,
    fun f hf => (congrArg f.get (hrd _)).trans (hkept f hf), hflt.trans (hxflt.trans (by rw [hw.2])), ⟨p, w, c, r, ?_⟩⟩
  rw [heq]
  show { x.hlt with pmb := p, pmbWait := w } = _
  rw [hxhlt, hw.2]

theorem State.setVcore_spec (s : State) (mv : Nat) : Commanded s (s.setVcore mv) mv := by
  by_cases h : mv = s.vcoreCmd
  · have hsame : s.setVcore mv = s := if_pos h
    rw [hsame, h]
    exact Commanded.refl s
  · have hset : s.setVcore mv = (let s1 := (s.setFld HLT_GOV_STATUS HLT_GOV_STATUS_vcore_cmd_mv mv).setFld HLT_GOV_STATUS HLT_GOV_STATUS_at_vmax (boolNat (mv = 900))
        (s1.setHlt { s1.hlt with vcoreChanged := true, lastRaise := decide (s.vcoreCmd < mv) }).sendVout) := if_neg h
    have hw1 := State.wroteRegs_setFld s (l := [HLT_GOV_STATUS]) HLT_GOV_STATUS_vcore_cmd_mv mv (List.mem_singleton_self _)
    have hcmd := State.fld_setFld_same (f := HLT_GOV_STATUS_vcore_cmd_mv) s HLT_GOV_STATUS mv (by decide) (by decide)
    rw [show 2 ^ HLT_GOV_STATUS_vcore_cmd_mv.width = 1024 from rfl] at hcmd
    have hkept : ∀ f ∈ govFields, (s.setFld HLT_GOV_STATUS HLT_GOV_STATUS_vcore_cmd_mv mv).fld HLT_GOV_STATUS f = s.fld HLT_GOV_STATUS f := fun f hf => by
      obtain ⟨h1, h2, -⟩ := State.govFields_bounds f hf
      exact State.fld_setFld_ne (f := HLT_GOV_STATUS_vcore_cmd_mv) s mv (by decide) (by decide) h1 (.inr h2)
    rw [hset]
    dsimp only
    generalize s.setFld HLT_GOV_STATUS HLT_GOV_STATUS_vcore_cmd_mv mv = u1 at hw1 hcmd hkept ⊢
    have hw2 := State.wroteRegs_setFld u1 (l := [HLT_GOV_STATUS]) HLT_GOV_STATUS_at_vmax (boolNat (mv = 900)) (List.mem_singleton_self _)
    have hcmd2 : (u1.setFld HLT_GOV_STATUS HLT_GOV_STATUS_at_vmax (boolNat (mv = 900))).vcoreCmd = u1.fld HLT_GOV_STATUS HLT_GOV_STATUS_vcore_cmd_mv :=
      State.fld_setFld_ne (f := HLT_GOV_STATUS_at_vmax) (g := HLT_GOV_STATUS_vcore_cmd_mv) u1 _ (by decide) (by decide) (by decide) (by decide)
    have hkept2 : ∀ f ∈ govFields, (u1.setFld HLT_GOV_STATUS HLT_GOV_STATUS_at_vmax (boolNat (mv = 900))).fld HLT_GOV_STATUS f = u1.fld HLT_GOV_STATUS f := fun f hf => by
      obtain ⟨h1, -, h3⟩ := State.govFields_bounds f hf
      exact State.fld_setFld_ne (f := HLT_GOV_STATUS_at_vmax) u1 _ (by decide) (by decide) h1 h3
    generalize u1.setFld HLT_GOV_STATUS HLT_GOV_STATUS_at_vmax (boolNat (mv = 900)) = u2 at hw2 hcmd2 hkept2 ⊢
    have hw := hw1.trans hw2
    exact Commanded.of_sent hw (hcmd2.trans hcmd) (fun f hf => (hkept2 f hf).trans (hkept f hf)) true _

/-! The stages of a period -/

/-- The least margin is shown. -/
def State.marginShown (t : State) : Option (Nat × Nat × Nat) → State
  | some (n, r, d) => (t.setFld HLT_GOV_STATUS HLT_GOV_STATUS_worst_mon n).setFld HLT_GOV_STATUS HLT_GOV_STATUS_min_margin (unsigned 12 (marginTenths r d))
  | none => t.setFld HLT_GOV_STATUS HLT_GOV_STATUS_min_margin 2047

/-- A margin below zero is noted. -/
def State.marginNoted (t : State) (neg : Bool) : State :=
  let s4 := t.setHlt { t.hlt with marginNeg := neg }
  if neg then s4 else s4.setFld HLT_GOV_STATUS HLT_GOV_STATUS_load_not_met 0

/-- A margin that is not below the floor ends the alarm and the wait for a raise. -/
def State.alarmEnded (t : State) (low : Bool) : State :=
  if low then t else (t.setHlt { t.hlt with raising := none }).setFld HLT_GOV_STATUS HLT_GOV_STATUS_headroom_alarm 0

/-- The headroom alarm. -/
def State.alarmRaised (t : State) (low : Bool) : State :=
  if low ∧ t.vcoreCmd = 900 ∧ !t.fldB HLT_GOV_STATUS HLT_GOV_STATUS_headroom_alarm then
    (t.setFld HLT_GOV_STATUS HLT_GOV_STATUS_headroom_alarm 1).raise 0x0220 3 else t

/-- The law of a state, at a floor and a least rate over need. -/
def State.lawNow (t : State) (cmd floorPct : Nat) (m : Option (Nat × Nat)) : Nat × Nat :=
  govLaw cmd t.hlt.above floorPct (t.fld HLT_GOV_CTL HLT_GOV_CTL_lower_pct)
    (t.fld HLT_GOV_CTL2 HLT_GOV_CTL2_dwell) (t.fld HLT_GOV_CTL2 HLT_GOV_CTL2_vmin_mv) t.floorHold (t.fldB HLT_PMB_STATUS HLT_PMB_STATUS_link_lost) m

/-- The command takes what the law gives. -/
def State.lawApplied (t : State) (cmd : Nat) (law : Nat × Nat) : State :=
  match law with
  | (c, a) =>
    let t1 := t.setHlt { t.hlt with above := a }
    if t.fldB HLT_PMB_STATUS HLT_PMB_STATUS_link_lost ∧ c = cmd then (if t1.hlt.lastRaise then t1.sendVout else t1) else t1.setVcore c

/-- The enabled governor's part of a period. -/
def State.governed (t : State) (floorPct : Nat) (low : Bool) (m : Option (Nat × Nat)) : State :=
  if t.fldB HLT_GOV_CTL HLT_GOV_CTL_enable then
    (t.alarmRaised low).lawApplied t.vcoreCmd ((t.alarmRaised low).lawNow t.vcoreCmd floorPct m)
  else t

/-- The rates of a period are loaded. -/
def State.ratesLoaded (s : State) (rates : List Nat) : State :=
  (List.range 32).foldl (fun (x : State) n => x.measureRate n (rates.getD n 0)) s

/-- The period is no longer the first, and its command has not changed yet. -/
def State.periodBegun (t : State) : State := t.setHlt { t.hlt with havePrev := true, vcoreChanged := false }

def worstNeg (w : Option (Nat × Nat × Nat)) : Bool :=
  match w with
  | some (_, r, d) => decide (r < d)
  | none => false

def worstLow (w : Option (Nat × Nat × Nat)) (floorPct : Nat) : Bool :=
  match w with
  | some (_, r, d) => decide (100 * r < (100 + floorPct) * d)
  | none => false

/-- A period up to the governor's command. -/
def State.periodShown (t : State) (w : Option (Nat × Nat × Nat)) : State := (t.marginShown w).marginNoted (worstNeg w)

theorem State.rd_marginNoted (t : State) (neg : Bool) {a : Nat} (ha : a ≠ HLT_GOV_STATUS) : (t.marginNoted neg).rd a = t.rd a := by
  cases neg
  · exact (State.rd_setFld _ _ _ _ _).trans (if_neg ha)
  · rfl

theorem State.worst_congr (h : ∀ a, t.rd a = s.rd a) : t.worst = s.worst := by
  have hrd : t.rd = s.rd := funext h
  unfold State.worst State.fldB State.fld
  rw [hrd]

/-- A period up to the swap of the needs, from the rates on. -/
def State.periodGoverned (t : State) (w : Option (Nat × Nat × Nat)) : State :=
  let v := t.periodShown w
  let floorPct := v.fld HLT_GOV_CTL HLT_GOV_CTL_floor_pct
  (v.alarmEnded (worstLow w floorPct)).governed floorPct (worstLow w floorPct) (w.map (fun x => (x.2.1, x.2.2)))

theorem State.periodGoverned_eq (s2 : State) (w : Option (Nat × Nat × Nat)): 
 (let s3 := match w with
    | some (n, r, d) => (s2.setFld HLT_GOV_STATUS HLT_GOV_STATUS_worst_mon n).setFld HLT_GOV_STATUS
        HLT_GOV_STATUS_min_margin (unsigned 12 (marginTenths r d))
    | none => s2.setFld HLT_GOV_STATUS HLT_GOV_STATUS_min_margin 2047
  let neg := match w with | some (_, r, d) => decide (r < d) | none => false
  let s4 := s3.setHlt { s3.hlt with marginNeg := neg }
  let s5 := if neg then s4 else s4.setFld HLT_GOV_STATUS HLT_GOV_STATUS_load_not_met 0
  let floorPct := s5.fld HLT_GOV_CTL HLT_GOV_CTL_floor_pct
  let belowFloor := match w with | some (_, r, d) => decide (100 * r < (100 + floorPct) * d) | none => false
  let s5 := if belowFloor then s5
    else (s5.setHlt { s5.hlt with raising := none }).setFld HLT_GOV_STATUS HLT_GOV_STATUS_headroom_alarm 0
    if s5.fldB HLT_GOV_CTL HLT_GOV_CTL_enable then
      let cmd := s5.vcoreCmd
      let t := if belowFloor ∧ cmd = 900 ∧ !s5.fldB HLT_GOV_STATUS HLT_GOV_STATUS_headroom_alarm then
            (s5.setFld HLT_GOV_STATUS HLT_GOV_STATUS_headroom_alarm 1).raise 0x0220 3 else s5
      let lost := t.fldB HLT_PMB_STATUS HLT_PMB_STATUS_link_lost
      let (c, a) := govLaw cmd t.hlt.above floorPct (t.fld HLT_GOV_CTL HLT_GOV_CTL_lower_pct)
        (t.fld HLT_GOV_CTL2 HLT_GOV_CTL2_dwell) (t.fld HLT_GOV_CTL2 HLT_GOV_CTL2_vmin_mv)
        t.floorHold lost (w.map (fun x => (x.2.1, x.2.2)))
      let t1 := t.setHlt { t.hlt with above := a }
      if lost ∧ c = cmd then (if t1.hlt.lastRaise then t1.sendVout else t1) else t1.setVcore c
    else s5) = s2.periodGoverned w:= rfl

/-- A period, by its stages. -/
theorem State.govPeriod_eq (s : State) (rates : List Nat) : s.govPeriod rates = if !s.running then s else
    ((s.ratesLoaded rates).periodBegun.periodGoverned (s.ratesLoaded rates).periodBegun.worst).swapNeeds := by
  rw [State.govPeriod, State.ratesLoaded, State.periodBegun]
  generalize (List.range 32).foldl (fun (x : State) n => x.measureRate n (rates.getD n 0)) s = s1
  exact if_congr Iff.rfl rfl (congrArg State.swapNeeds (State.periodGoverned_eq (s1.setHlt { s1.hlt with havePrev := true, vcoreChanged := false })
    (s1.setHlt { s1.hlt with havePrev := true, vcoreChanged := false }).worst))

/-! What each stage leaves -/

theorem State.setStatus_kept (t : State) {f : Fld} (v : Nat) (hf : f.lo ≤ f.hi) (h32 : f.hi < 32) {l : List Fld}
    (hl : ∀ g ∈ l, g.lo ≤ g.hi ∧ (g.hi < f.lo ∨ f.hi < g.lo)) : ∀ g ∈ l, (t.setFld HLT_GOV_STATUS f v).fld HLT_GOV_STATUS g = t.fld HLT_GOV_STATUS g :=
  fun g hg => State.fld_setFld_ne (f := f) t v hf h32 (hl g hg).1 (hl g hg).2

theorem State.marginShown_spec (t : State) {w : Option (Nat × Nat × Nat)} (hw : ∀ x ∈ w, x.1 < 32) :
    t.wroteRegs (t.marginShown w) [HLT_GOV_STATUS] ∧
      (∀ x ∈ w, (t.marginShown w).fld HLT_GOV_STATUS HLT_GOV_STATUS_worst_mon = x.1 ∧
        (t.marginShown w).fld HLT_GOV_STATUS HLT_GOV_STATUS_min_margin = unsigned 12 (marginTenths x.2.1 x.2.2)) ∧
      (w = none → (t.marginShown w).fld HLT_GOV_STATUS HLT_GOV_STATUS_min_margin = 2047) ∧
      ∀ f ∈ [HLT_GOV_STATUS_vcore_cmd_mv, HLT_GOV_STATUS_headroom_alarm, HLT_GOV_STATUS_load_not_met],
        (t.marginShown w).fld HLT_GOV_STATUS f = t.fld HLT_GOV_STATUS f := by
  cases w with
  | none =>
    exact ⟨t.wroteRegs_setFld _ _ (List.mem_singleton_self _), fun x hx => absurd hx (by simp),
      fun _ => State.fld_setFld_same (f := HLT_GOV_STATUS_min_margin) t _ _ (by decide) (by decide), t.setStatus_kept (f := HLT_GOV_STATUS_min_margin) _ (by decide) (by decide) (by decide)⟩
  | some x =>
    obtain ⟨n, r, d⟩ := x
    have hn : n < 32 := hw _ rfl
    have hmon := State.fld_setFld_same (f := HLT_GOV_STATUS_worst_mon) t HLT_GOV_STATUS n (by decide) (by decide)
    have hkept := t.setStatus_kept (f := HLT_GOV_STATUS_worst_mon) n (by decide) (by decide)
      (l := [HLT_GOV_STATUS_vcore_cmd_mv, HLT_GOV_STATUS_headroom_alarm, HLT_GOV_STATUS_load_not_met]) (by decide)
    have hw1 := t.wroteRegs_setFld (l := [HLT_GOV_STATUS]) HLT_GOV_STATUS_worst_mon n (List.mem_singleton_self _)
    rw [show 2 ^ HLT_GOV_STATUS_worst_mon.width = 64 from rfl, Nat.mod_eq_of_lt (by omega)] at hmon
    rw [State.marginShown]
    generalize t.setFld HLT_GOV_STATUS HLT_GOV_STATUS_worst_mon n = u at hmon hkept hw1
    have hmargin := State.fld_setFld_same (f := HLT_GOV_STATUS_min_margin) u HLT_GOV_STATUS (unsigned 12 (marginTenths r d)) (by decide) (by decide)
    have hkept' := u.setStatus_kept (f := HLT_GOV_STATUS_min_margin) (unsigned 12 (marginTenths r d)) (by decide) (by decide)
      (l := [HLT_GOV_STATUS_worst_mon, HLT_GOV_STATUS_vcore_cmd_mv, HLT_GOV_STATUS_headroom_alarm, HLT_GOV_STATUS_load_not_met]) (by decide)
    have hw2 := u.wroteRegs_setFld (l := [HLT_GOV_STATUS]) HLT_GOV_STATUS_min_margin (unsigned 12 (marginTenths r d)) (List.mem_singleton_self _)
    rw [show 2 ^ HLT_GOV_STATUS_min_margin.width = 2 ^ 12 from rfl, Nat.mod_eq_of_lt (unsigned_lt 12 _)] at hmargin
    exact ⟨hw1.trans hw2, fun x hx => by cases hx; exact ⟨(hkept' _ List.mem_cons_self).trans hmon, hmargin⟩, fun h => absurd h (by simp),
      fun f hf => (hkept' f (List.mem_cons_of_mem _ hf)).trans (hkept f hf)⟩

/-- A stage of a period: the fields of HLT_GOV_STATUS that it leaves. -/
structure StatusStage (s t : State) (l : List Fld) : Prop where
  frame : s.hltFrame t [HLT_GOV_STATUS]
  flt : t.flt = s.flt
  kept : ∀ f ∈ l, t.fld HLT_GOV_STATUS f = s.fld HLT_GOV_STATUS f

theorem State.setHlt_stage (t : State) (h : HltState) (l : List Fld) : StatusStage t (t.setHlt h) l := ⟨t.hltFrame_setHlt h _, rfl, fun _ _ => rfl⟩

theorem StatusStage.then_set {l : List Fld} (h : StatusStage s t l) {f : Fld} (v : Nat) (hf : f.lo ≤ f.hi) (h32 : f.hi < 32)
    (hl : ∀ g ∈ l, g.lo ≤ g.hi ∧ (g.hi < f.lo ∨ f.hi < g.lo)) :
    StatusStage s (t.setFld HLT_GOV_STATUS f v) l ∧ (t.setFld HLT_GOV_STATUS f v).hlt = t.hlt ∧ (t.setFld HLT_GOV_STATUS f v).fld HLT_GOV_STATUS f = v % 2 ^ f.width := by
  have hw := t.wroteRegs_setFld (l := [HLT_GOV_STATUS]) f v (List.mem_singleton_self _)
  have hkept := t.setStatus_kept v hf h32 hl
  have hset := State.fld_setFld_same (f := f) t HLT_GOV_STATUS v hf h32
  generalize t.setFld HLT_GOV_STATUS f v = u at hw hkept hset
  exact ⟨⟨h.frame.trans hw.wroteEvents.hltFrame, (by rw [hw.2] : u.flt = t.flt).trans h.flt, fun g hg => (hkept g hg).trans (h.kept g hg)⟩, by rw [hw.2], hset⟩

theorem State.marginNoted_spec (t : State) (neg : Bool) :
    StatusStage t (t.marginNoted neg) [HLT_GOV_STATUS_vcore_cmd_mv, HLT_GOV_STATUS_headroom_alarm, HLT_GOV_STATUS_worst_mon, HLT_GOV_STATUS_min_margin] ∧
      (t.marginNoted neg).hlt = { t.hlt with marginNeg := neg } ∧ (neg = false → (t.marginNoted neg).fld HLT_GOV_STATUS HLT_GOV_STATUS_load_not_met = 0) := by
  cases neg
  · obtain ⟨hstage, hhlt, hzero⟩ := (t.setHlt_stage { t.hlt with marginNeg := false }
      [HLT_GOV_STATUS_vcore_cmd_mv, HLT_GOV_STATUS_headroom_alarm, HLT_GOV_STATUS_worst_mon, HLT_GOV_STATUS_min_margin]).then_set
      (f := HLT_GOV_STATUS_load_not_met) 0 (by decide) (by decide) (by decide)
    exact ⟨hstage, hhlt, fun _ => hzero⟩
  · exact ⟨t.setHlt_stage _ _, rfl, nofun⟩

theorem State.alarmEnded_spec (t : State) (low : Bool) :
    StatusStage t (t.alarmEnded low) [HLT_GOV_STATUS_vcore_cmd_mv, HLT_GOV_STATUS_worst_mon, HLT_GOV_STATUS_min_margin, HLT_GOV_STATUS_load_not_met] ∧
      (t.alarmEnded low).hlt = { t.hlt with raising := if low then t.hlt.raising else none } ∧
      (low = false → (t.alarmEnded low).fld HLT_GOV_STATUS HLT_GOV_STATUS_headroom_alarm = 0) ∧ (low = true → t.alarmEnded low = t) := by
  cases low
  · obtain ⟨hstage, hhlt, hzero⟩ := (t.setHlt_stage { t.hlt with raising := none }
      [HLT_GOV_STATUS_vcore_cmd_mv, HLT_GOV_STATUS_worst_mon, HLT_GOV_STATUS_min_margin, HLT_GOV_STATUS_load_not_met]).then_set
      (f := HLT_GOV_STATUS_headroom_alarm) 0 (by decide) (by decide) (by decide)
    exact ⟨hstage, hhlt, fun _ => hzero, nofun⟩
  · exact ⟨⟨State.hltFrame.refl t _, rfl, fun _ _ => rfl⟩, rfl, nofun, fun _ => rfl⟩

/-- The event of the headroom alarm. -/
def State.alarmEvents (t : State) (low : Bool) : List (Nat × Nat × Nat) :=
  if low ∧ t.vcoreCmd = 900 ∧ !t.fldB HLT_GOV_STATUS HLT_GOV_STATUS_headroom_alarm then [(0x0220, 3, noInst)] else []

/-- The headroom alarm, where the governor is enabled. -/
structure AlarmStage (s t : State) (low : Bool) : Prop where
  frame : s.hltFrame t [HLT_GOV_STATUS]
  hlt : t.hlt = s.hlt
  kept : ∀ f ∈ [HLT_GOV_STATUS_vcore_cmd_mv, HLT_GOV_STATUS_worst_mon, HLT_GOV_STATUS_min_margin, HLT_GOV_STATUS_load_not_met],
    t.fld HLT_GOV_STATUS f = s.fld HLT_GOV_STATUS f
  clear : low = false → t.fld HLT_GOV_STATUS HLT_GOV_STATUS_headroom_alarm = s.fld HLT_GOV_STATUS HLT_GOV_STATUS_headroom_alarm
  alarm : low = true → s.vcoreCmd = 900 → t.fld HLT_GOV_STATUS HLT_GOV_STATUS_headroom_alarm = 1
  log : s.logs t 2 (s.alarmEvents low)

theorem Fld.fld_one_of_fldB {a : Nat} {f : Fld} (hf : f.width = 1) (h : s.fldB a f = true) : s.fld a f = 1 := by
  have hlt := f.get_lt (s.rd a)
  rw [hf] at hlt
  have hne : s.fld a f ≠ 0 := by simpa [State.fldB] using h
  rw [State.fld] at hne ⊢
  omega

theorem State.alarmRaised_spec (t : State) (low : Bool) : AlarmStage t (t.alarmRaised low) low := by
  by_cases h : low = true ∧ t.vcoreCmd = 900 ∧ (!t.fldB HLT_GOV_STATUS HLT_GOV_STATUS_headroom_alarm) = true
  · have hev : t.alarmEvents low = [(0x0220, 3, noInst)] := if_pos h
    have heq : t.alarmRaised low = (t.setFld HLT_GOV_STATUS HLT_GOV_STATUS_headroom_alarm 1).raise 0x0220 3 := if_pos h
    have hw := t.wroteRegs_setFld (l := [HLT_GOV_STATUS]) HLT_GOV_STATUS_headroom_alarm 1 (List.mem_singleton_self _)
    have hkept := t.setStatus_kept (f := HLT_GOV_STATUS_headroom_alarm) 1 (by decide) (by decide)
      (l := [HLT_GOV_STATUS_vcore_cmd_mv, HLT_GOV_STATUS_worst_mon, HLT_GOV_STATUS_min_margin, HLT_GOV_STATUS_load_not_met]) (by decide)
    have hone := State.fld_setFld_same (f := HLT_GOV_STATUS_headroom_alarm) t HLT_GOV_STATUS 1 (by decide) (by decide)
    have hlog := hw.logs_raise (c := 0x0220) (k := 3) noInst 0
    rw [heq]
    generalize t.setFld HLT_GOV_STATUS HLT_GOV_STATUS_headroom_alarm 1 = u at hw hkept hone hlog
    have hrd : (u.raise 0x0220 3).rd HLT_GOV_STATUS = u.rd HLT_GOV_STATUS := (u.raise_frame 0x0220 3 _ _ (by decide)).onlyRegs [] _ List.not_mem_nil (by decide)
    have hfld : ∀ f, (u.raise 0x0220 3).fld HLT_GOV_STATUS f = u.fld HLT_GOV_STATUS f := fun f => congrArg f.get hrd
    exact ⟨hw.wroteEvents.hltFrame.trans (State.hltFrame_raise u _ _ (by decide) (by decide) rfl _),
      (State.raise_hlt u _ _ (by decide) (by decide) rfl).trans (by rw [hw.2]), fun f hf => (hfld f).trans (hkept f hf),
      fun hl => absurd h.1 (by rw [hl]; decide), fun _ _ => (hfld _).trans hone, hev ▸ hlog⟩
  · have hev : t.alarmEvents low = [] := if_neg h
    have heq : t.alarmRaised low = t := if_neg h
    rw [heq]
    exact ⟨State.hltFrame.refl t _, rfl, fun _ _ => rfl, fun _ => rfl,
      fun hl hc => Fld.fld_one_of_fldB rfl (by simpa [hl, hc] using h), hev ▸ State.logs.refl t 2⟩

/-- What the law's application leaves of the governor's state. -/
structure LawStage (s t : State) (law : Nat × Nat) : Prop where
  frame : s.govFrame t [HLT_GOV_STATUS]
  cmd : t.vcoreCmd = law.1 % 1024
  kept : ∀ f ∈ govFields, t.fld HLT_GOV_STATUS f = s.fld HLT_GOV_STATUS f
  flt : t.flt = s.flt
  hlt : ∃ p w c r, t.hlt = { s.hlt with above := law.2, pmb := p, pmbWait := w, vcoreChanged := c, lastRaise := r }

theorem Commanded.lawStage {h : HltState} {c a : Nat} (hh : h = { s.hlt with above := a }) (hc : Commanded (s.setHlt h) t c) : LawStage s t (c, a) := by
  obtain ⟨p, w, c', r, heq⟩ := hc.hlt
  refine ⟨(s.hltFrame_setHlt h _).govFrame.trans hc.frame, hc.cmd, hc.kept, hc.flt, p, w, c', r, heq.trans ?_⟩
  subst hh
  rfl

theorem State.lawApplied_spec (t : State) (law : Nat × Nat) : LawStage t (t.lawApplied t.vcoreCmd law) law := by
  obtain ⟨c, a⟩ := law
  by_cases h : t.fldB HLT_PMB_STATUS HLT_PMB_STATUS_link_lost = true ∧ c = t.vcoreCmd
  · have heq : t.lawApplied t.vcoreCmd (c, a) = if (t.setHlt { t.hlt with above := a }).hlt.lastRaise then (t.setHlt { t.hlt with above := a }).sendVout
        else t.setHlt { t.hlt with above := a } := if_pos h
    have hcmd : (t.setHlt { t.hlt with above := a }).vcoreCmd = c := h.2.symm
    rw [heq]
    split
    · exact (hcmd ▸ (t.setHlt { t.hlt with above := a }).sendVout_commanded).lawStage rfl
    · exact (hcmd ▸ Commanded.refl (t.setHlt { t.hlt with above := a })).lawStage rfl
  · have heq : t.lawApplied t.vcoreCmd (c, a) = (t.setHlt { t.hlt with above := a }).setVcore c := if_neg h
    rw [heq]
    exact ((t.setHlt { t.hlt with above := a }).setVcore_spec c).lawStage rfl

/-! The needs (R45) -/

theorem State.needsRise_congr (h : ∀ n < 32, t.rd (HLT_RATE_NEED n) = s.rd (HLT_RATE_NEED n)) : t.needsRise = s.needsRise := by
  rw [State.needsRise, State.needsRise, Bool.eq_iff_iff, List.any_eq_true, List.any_eq_true]
  have hcell : ∀ n ∈ List.range 32, (t.fld (HLT_RATE_NEED n) HLT_RATE_NEED_need_active < t.fld (HLT_RATE_NEED n) HLT_RATE_NEED_need_next ↔
      s.fld (HLT_RATE_NEED n) HLT_RATE_NEED_need_active < s.fld (HLT_RATE_NEED n) HLT_RATE_NEED_need_next) := fun n hn => by
    rw [State.fld, State.fld, h n (List.mem_range.1 hn)]
    rfl
  exact exists_congr fun n => and_congr_right fun hn => by rw [decide_eq_true_iff, decide_eq_true_iff]; exact hcell n hn

/-- A monitor's waiting need is taken. -/
def State.needTaken (t : State) (n : Nat) : State := t.setFld (HLT_RATE_NEED n) HLT_RATE_NEED_need_active (t.fld (HLT_RATE_NEED n) HLT_RATE_NEED_need_next)

theorem foldl_needTaken (l : List Nat) (s : State) : s.wroteRegs (l.foldl State.needTaken s) (l.map HLT_RATE_NEED) ∧
    ∀ n, (l.foldl State.needTaken s).fld (HLT_RATE_NEED n) HLT_RATE_NEED_need_next = s.fld (HLT_RATE_NEED n) HLT_RATE_NEED_need_next ∧
      (l.foldl State.needTaken s).fld (HLT_RATE_NEED n) HLT_RATE_NEED_need_active =
        if n ∈ l then s.fld (HLT_RATE_NEED n) HLT_RATE_NEED_need_next else s.fld (HLT_RATE_NEED n) HLT_RATE_NEED_need_active := by
  induction l generalizing s with
  | nil => exact ⟨State.wroteRegs.refl s _, fun n => ⟨rfl, rfl⟩⟩
  | cons k l ih =>
    obtain ⟨hw, hcells⟩ := ih (s.needTaken k)
    have hwk : s.wroteRegs (s.needTaken k) [HLT_RATE_NEED k] := s.wroteRegs_setFld _ _ (List.mem_singleton_self _)
    have hnext : ∀ n, (s.needTaken k).fld (HLT_RATE_NEED n) HLT_RATE_NEED_need_next = s.fld (HLT_RATE_NEED n) HLT_RATE_NEED_need_next := fun n => by
      by_cases hn : n = k
      · subst hn
        exact State.fld_setFld_ne (f := HLT_RATE_NEED_need_active) s _ (by decide) (by decide) (by decide) (by decide)
      · exact congrArg HLT_RATE_NEED_need_next.get ((s.rd_setFld _ _ _ _).trans (if_neg fun e => hn (RATE_NEED_inj e)))
    have hself : (s.needTaken k).fld (HLT_RATE_NEED k) HLT_RATE_NEED_need_active = s.fld (HLT_RATE_NEED k) HLT_RATE_NEED_need_next :=
      (State.fld_setFld_same (f := HLT_RATE_NEED_need_active) s _ _ (by decide) (by decide)).trans (Nat.mod_eq_of_lt (HLT_RATE_NEED_need_next.get_lt (s.rd (HLT_RATE_NEED k))))
    have hother : ∀ n, n ≠ k → (s.needTaken k).fld (HLT_RATE_NEED n) HLT_RATE_NEED_need_active = s.fld (HLT_RATE_NEED n) HLT_RATE_NEED_need_active := fun n hn =>
      congrArg HLT_RATE_NEED_need_active.get ((s.rd_setFld _ _ _ _).trans (if_neg fun e => hn (RATE_NEED_inj e)))
    rw [List.foldl_cons]
    refine ⟨(hwk.mono ?_).trans (hw.mono ?_), fun n => ⟨(hcells n).1.trans (hnext n), (hcells n).2.trans ?_⟩⟩
    · exact fun a ha => List.mem_map.2 ⟨k, List.mem_cons_self, (List.mem_singleton.1 ha).symm⟩
    · exact fun a ha => by
        obtain ⟨j, hj, he⟩ := List.mem_map.1 ha
        exact List.mem_map.2 ⟨j, List.mem_cons_of_mem _ hj, he⟩
    · rw [hnext]
      by_cases hn : n = k
      · subst hn
        rw [if_pos List.mem_cons_self, hself, ite_self]
      · rw [hother n hn]
        simp only [List.mem_cons, hn, false_or]

/-- The swap of the needs at a period's end. -/
structure SwapStage (s t : State) : Prop where
  frame : s.hltFrame t ((List.range 32).map HLT_RATE_NEED)
  flt : t.flt = s.flt
  hlt : t.hlt = { s.hlt with swapPending := false, raising := if s.hlt.swapPending then (if s.needsRise then some s.hlt.swapAt else none) else s.hlt.raising }
  next : ∀ n < 32, t.fld (HLT_RATE_NEED n) HLT_RATE_NEED_need_next = s.fld (HLT_RATE_NEED n) HLT_RATE_NEED_need_next
  active : ∀ n < 32, t.fld (HLT_RATE_NEED n) HLT_RATE_NEED_need_active =
    if s.hlt.swapPending then s.fld (HLT_RATE_NEED n) HLT_RATE_NEED_need_next else s.fld (HLT_RATE_NEED n) HLT_RATE_NEED_need_active

theorem State.swapNeeds_spec (s : State) : SwapStage s s.swapNeeds := by
  by_cases h : s.hlt.swapPending = true
  · have heq : s.swapNeeds = (List.range 32).foldl State.needTaken (s.setHlt { s.hlt with swapPending := false, raising := if s.needsRise then some s.hlt.swapAt else none }) := if_pos h
    have hset := s.hltFrame_setHlt { s.hlt with swapPending := false, raising := if s.needsRise then some s.hlt.swapAt else none } ((List.range 32).map HLT_RATE_NEED)
    have hfld : ∀ a f, (s.setHlt { s.hlt with swapPending := false, raising := if s.needsRise then some s.hlt.swapAt else none }).fld a f = s.fld a f := fun _ _ => rfl
    have hhlt : (s.setHlt { s.hlt with swapPending := false, raising := if s.needsRise then some s.hlt.swapAt else none }).hlt =
      { s.hlt with swapPending := false, raising := if s.needsRise then some s.hlt.swapAt else none } := rfl
    have hflt : (s.setHlt { s.hlt with swapPending := false, raising := if s.needsRise then some s.hlt.swapAt else none }).flt = s.flt := rfl
    rw [heq]
    generalize s.setHlt { s.hlt with swapPending := false, raising := if s.needsRise then some s.hlt.swapAt else none } = u at hset hfld hhlt hflt ⊢
    obtain ⟨hw, hcells⟩ := foldl_needTaken (List.range 32) u
    generalize (List.range 32).foldl State.needTaken u = t at hw hcells ⊢
    refine ⟨hset.trans hw.wroteEvents.hltFrame, (by rw [hw.2] : t.flt = u.flt).trans hflt, ?_, fun n _ => (hcells n).1.trans (hfld _ _), fun n hn => ?_⟩
    · rw [if_pos h, ← hhlt, hw.2]
    · rw [if_pos h, (hcells n).2, if_pos (List.mem_range.2 hn), hfld]
  · have heq : s.swapNeeds = s := if_neg h
    rw [heq]
    refine ⟨State.hltFrame.refl s _, rfl, ?_, fun _ _ => rfl, fun _ _ => by rw [if_neg h]⟩
    have hfalse : s.hlt.swapPending = false := eq_false_of_ne_true h
    rw [if_neg h, ← hfalse]

end

end Sys2Proof.Machine

/-! A governor period as a whole, the swap of needs and the load alarm (R44 to R48). -/

namespace Sys2Proof.Machine

section
variable {s t u z : State} {l : List Nat}

/-! The least margin -/

/-- One monitor's part in the search for the least margin. -/
def State.worstStep (s : State) (best : Option (Nat × Nat × Nat)) (n : Nat) : Option (Nat × Nat × Nat) :=
  if s.fldB (HLT_RATE_MEAS n) HLT_RATE_MEAS_excluded then best
  else
    let r := s.fld (HLT_RATE_MEAS n) HLT_RATE_MEAS_rate
    let d := s.fld (HLT_RATE_NEED n) HLT_RATE_NEED_need_active
    match best with
    | none => some (n, r, d)
    | some (_, r', d') => if r * d' < r' * d then some (n, r, d) else best

theorem State.worst_eq (s : State) : s.worst = (List.range 32).foldl s.worstStep none := rfl

theorem State.worstStep_mon (s : State) (best : Option (Nat × Nat × Nat)) (n : Nat) : s.worstStep best n = best ∨ ∃ r d, s.worstStep best n = some (n, r, d) := by
  rw [State.worstStep]
  split
  · exact .inl rfl
  · dsimp only
    cases best with
    | none => exact .inr ⟨_, _, rfl⟩
    | some x =>
      dsimp only
      split
      · exact .inr ⟨_, _, rfl⟩
      · exact .inl rfl

/-- The least margin is that of one of the monitors. -/
theorem State.worst_lt (s : State) : ∀ x ∈ s.worst, x.1 < 32 := by
  rw [State.worst_eq]
  refine List.foldlRecOn (motive := fun best : Option (Nat × Nat × Nat) => ∀ x ∈ best, x.1 < 32) _ _ (by simp) fun best ih n hn => ?_
  rcases s.worstStep_mon best n with h | ⟨r, d, h⟩
  · rw [h]
    exact ih
  · rw [h]
    intro x hx
    cases hx
    exact List.mem_range.1 hn

/-! The stages of a period together -/

/-- What a period shows of the margin. -/
structure MarginStage (s t : State) (w : Option (Nat × Nat × Nat)) (low : Bool) : Prop where
  frame : s.hltFrame t [HLT_GOV_STATUS]
  flt : t.flt = s.flt
  hlt : t.hlt = { s.hlt with havePrev := true, vcoreChanged := false, marginNeg := worstNeg w, raising := if low then s.hlt.raising else none }
  cmd : t.vcoreCmd = s.vcoreCmd
  shown : ∀ x ∈ w, t.fld HLT_GOV_STATUS HLT_GOV_STATUS_worst_mon = x.1 ∧ t.fld HLT_GOV_STATUS HLT_GOV_STATUS_min_margin = unsigned 12 (marginTenths x.2.1 x.2.2)
  noMargin : w = none → t.fld HLT_GOV_STATUS HLT_GOV_STATUS_min_margin = 2047
  met : worstNeg w = false → t.fld HLT_GOV_STATUS HLT_GOV_STATUS_load_not_met = 0
  clear : low = false → t.fld HLT_GOV_STATUS HLT_GOV_STATUS_headroom_alarm = 0
  kept : low = true → t.fld HLT_GOV_STATUS HLT_GOV_STATUS_headroom_alarm = s.fld HLT_GOV_STATUS HLT_GOV_STATUS_headroom_alarm

theorem State.marginStage (s : State) {w : Option (Nat × Nat × Nat)} (hw : ∀ x ∈ w, x.1 < 32) (low : Bool) :
    MarginStage s ((s.periodBegun.periodShown w).alarmEnded low) w low := by
  have h0 := s.hltFrame_setHlt { s.hlt with havePrev := true, vcoreChanged := false } [HLT_GOV_STATUS]
  have h0hlt : s.periodBegun.hlt = { s.hlt with havePrev := true, vcoreChanged := false } := rfl
  have h0fld : ∀ f, s.periodBegun.fld HLT_GOV_STATUS f = s.fld HLT_GOV_STATUS f := fun _ => rfl
  have h0flt : s.periodBegun.flt = s.flt := rfl
  change s.hltFrame s.periodBegun _ at h0
  generalize s.periodBegun = b at h0 h0hlt h0fld h0flt ⊢
  obtain ⟨h1, hshown, hnone, hkept1⟩ := b.marginShown_spec hw
  rw [State.periodShown]
  generalize b.marginShown w = x at h1 hshown hnone hkept1 ⊢
  obtain ⟨h2, h2hlt, hmet⟩ := x.marginNoted_spec (worstNeg w)
  generalize x.marginNoted (worstNeg w) = y at h2 h2hlt hmet ⊢
  obtain ⟨h3, h3hlt, hclear, hsame⟩ := y.alarmEnded_spec low
  generalize y.alarmEnded low = z at h3 h3hlt hclear hsame ⊢
  have hyhlt : y.hlt = { s.hlt with havePrev := true, vcoreChanged := false, marginNeg := worstNeg w } := by
    rw [h2hlt, (by rw [h1.2] : x.hlt = b.hlt), h0hlt]
  refine ⟨((h0.trans h1.wroteEvents.hltFrame).trans h2.frame).trans h3.frame, h3.flt.trans (h2.flt.trans ((by rw [h1.2] : x.flt = b.flt).trans h0flt)), ?_, ?_,
    fun x hx => ⟨?_, ?_⟩, fun h => ?_, fun h => ?_, hclear, fun h => ?_⟩
  · rw [h3hlt, hyhlt]
  · exact (h3.kept _ (by decide)).trans ((h2.kept _ (by decide)).trans ((hkept1 _ (by decide)).trans (h0fld _)))
  · exact (h3.kept _ (by decide)).trans ((h2.kept _ (by decide)).trans (hshown x hx).1)
  · exact (h3.kept _ (by decide)).trans ((h2.kept _ (by decide)).trans (hshown x hx).2)
  · exact (h3.kept _ (by decide)).trans ((h2.kept _ (by decide)).trans (hnone h))
  · exact (h3.kept _ (by decide)).trans (hmet h)
  · rw [hsame h]
    exact (h2.kept _ (by decide)).trans ((hkept1 _ (by decide)).trans (h0fld _))

/-- What the governor's part of a period leaves, with the law that it applies. -/
structure GovernStage (s t : State) (low : Bool) (law : Nat × Nat) : Prop where
  frame : s.govFrame t [HLT_GOV_STATUS]
  kept : ∀ f ∈ [HLT_GOV_STATUS_worst_mon, HLT_GOV_STATUS_min_margin, HLT_GOV_STATUS_load_not_met], t.fld HLT_GOV_STATUS f = s.fld HLT_GOV_STATUS f
  clear : low = false → t.fld HLT_GOV_STATUS HLT_GOV_STATUS_headroom_alarm = s.fld HLT_GOV_STATUS HLT_GOV_STATUS_headroom_alarm
  hlt : ∃ a p w c r, t.hlt = { s.hlt with above := a, pmb := p, pmbWait := w, vcoreChanged := c, lastRaise := r }
  on : s.fld HLT_GOV_CTL HLT_GOV_CTL_enable = 1 → t.vcoreCmd = law.1 % 1024 ∧ t.hlt.above = law.2 ∧
    (low = true → s.vcoreCmd = 900 → t.fld HLT_GOV_STATUS HLT_GOV_STATUS_headroom_alarm = 1)
  off : ¬ s.fld HLT_GOV_CTL HLT_GOV_CTL_enable = 1 → t = s
  log : s.logs t 2 (if s.fld HLT_GOV_CTL HLT_GOV_CTL_enable = 1 then s.alarmEvents low else [])

theorem State.fldB_iff_one {a : Nat} {f : Fld} (hf : f.width = 1) : s.fldB a f = true ↔ s.fld a f = 1 :=
  ⟨Fld.fld_one_of_fldB hf, fun h => by rw [State.fldB, h]; rfl⟩

/-- The registers that the law reads. -/
def lawRegs : List Nat := [HLT_GOV_CTL, HLT_GOV_CTL2, HLT_PMB_STATUS]

/-- The law is that of every state with the same command's registers, count of periods above lower_pct and faulty monitors. -/
theorem State.lawNow_congr (hrd : ∀ a ∈ lawRegs, t.rd a = s.rd a) (habove : t.hlt.above = s.hlt.above) (hfaulty : t.hlt.faulty = s.hlt.faulty)
    (cmd floorPct : Nat) (m : Option (Nat × Nat)) :
    t.lawNow cmd floorPct m = s.lawNow cmd floorPct m := by
  have h1 := hrd HLT_GOV_CTL (by decide)
  have h2 := hrd HLT_GOV_CTL2 (by decide)
  have h3 := hrd HLT_PMB_STATUS (by decide)
  simp only [State.lawNow, State.floorHold, State.fldB, State.fld, h1, h2, h3, habove, hfaulty]

theorem State.governStage (s : State) (floorPct : Nat) (low : Bool) (m : Option (Nat × Nat)) :
    GovernStage s (s.governed floorPct low m) low (s.lawNow s.vcoreCmd floorPct m) := by
  by_cases hen : s.fld HLT_GOV_CTL HLT_GOV_CTL_enable = 1
  · have heq : s.governed floorPct low m = (s.alarmRaised low).lawApplied s.vcoreCmd ((s.alarmRaised low).lawNow s.vcoreCmd floorPct m) :=
      if_pos ((State.fldB_iff_one rfl).2 hen)
    have h1 := s.alarmRaised_spec low
    rw [heq]
    generalize s.alarmRaised low = x at h1 ⊢
    have hrd : ∀ a ∈ lawRegs, x.rd a = s.rd a := fun a ha => h1.frame.1 a (by revert ha; revert a; decide) (by revert ha; revert a; decide)
    have hcmd : x.vcoreCmd = s.vcoreCmd := h1.kept _ (by decide)
    have h2 := x.lawApplied_spec (x.lawNow s.vcoreCmd floorPct m)
    rw [hcmd] at h2
    rw [State.lawNow_congr hrd (by rw [h1.hlt]) (by rw [h1.hlt])] at h2 ⊢
    generalize x.lawApplied s.vcoreCmd (s.lawNow s.vcoreCmd floorPct m) = t at h2 ⊢
    obtain ⟨p, w, c, r, hhlt⟩ := h2.hlt
    refine ⟨h1.frame.govFrame.trans h2.frame, fun f hf => ?_, fun h => (h2.kept _ (by decide)).trans (h1.clear h), ⟨_, p, w, c, r, by rw [hhlt, h1.hlt]⟩,
      fun _ => ⟨h2.cmd, by rw [hhlt], fun hl hc => (h2.kept _ (by decide)).trans (h1.alarm hl hc)⟩, fun h => absurd hen h, ?_⟩
    · exact (h2.kept f (by revert hf; revert f; decide)).trans (h1.kept f (by revert hf; revert f; decide))
    · rw [if_pos hen]
      exact h1.log.then_none h1.frame.running (State.logs_of_flt h2.flt)
  · have heq : s.governed floorPct low m = s := if_neg fun h => hen ((State.fldB_iff_one rfl).1 h)
    rw [heq]
    exact ⟨State.govFrame.refl s _, fun _ _ => rfl, fun _ => rfl, ⟨_, _, _, _, _, rfl⟩, fun h => absurd h hen, fun _ => rfl, if_neg hen ▸ State.logs.refl s 2⟩

/-! The period (R44 to R47) -/

/-- The registers of a period. -/
def periodRegs : List Nat := HLT_GOV_STATUS :: (List.range 32).map HLT_RATE_MEAS ++ (List.range 32).map HLT_RATE_NEED

theorem mem_periodRegs {a : Nat} : a ∈ periodRegs ↔ a = HLT_GOV_STATUS ∨ a ∈ (List.range 32).map HLT_RATE_MEAS ∨ a ∈ (List.range 32).map HLT_RATE_NEED := by
  rw [periodRegs, List.cons_append, List.mem_cons, List.mem_append]

theorem meas_not_need {n : Nat} : HLT_RATE_MEAS n ∉ (List.range 32).map HLT_RATE_NEED := fun h => by
  obtain ⟨k, hk, he⟩ := List.mem_map.1 h
  exact RATE_NEED_ne_MEAS (List.mem_range.1 hk) he

theorem need_not_meas {n : Nat} (hn : n < 32) : HLT_RATE_NEED n ∉ (List.range 32).map HLT_RATE_MEAS := fun h => by
  obtain ⟨k, -, he⟩ := List.mem_map.1 h
  exact RATE_NEED_ne_MEAS hn he.symm

theorem status_not_meas : HLT_GOV_STATUS ∉ (List.range 32).map HLT_RATE_MEAS := by decide

theorem status_not_need : HLT_GOV_STATUS ∉ (List.range 32).map HLT_RATE_NEED := by decide

theorem law_not_meas : ∀ a ∈ lawRegs, a ∉ (List.range 32).map HLT_RATE_MEAS ∧ (a < FLT_SRC_LOST 1 ∨ FLT_SRC_LOST 16 < a) := by decide

theorem HLT_RATE_MEAS_ne_status {n : Nat} (hn : n < 32) : HLT_RATE_MEAS n ∉ [HLT_GOV_STATUS] := fun h => by
  have := List.mem_singleton.1 h
  rw [HLT_RATE_MEAS, HLT_GOV_STATUS] at this
  omega

theorem HLT_RATE_NEED_ne_status {n : Nat} (hn : n < 32) : HLT_RATE_NEED n ∉ [HLT_GOV_STATUS] := fun h => by
  have := List.mem_singleton.1 h
  rw [HLT_RATE_NEED, HLT_GOV_STATUS] at this
  omega

/-- A monitor's cell is what the rates' loading left, where a change leaves its register and the faulty monitors as they are. -/
theorem RateCell.kept {n rate : Nat} (h : RateCell s u n rate) (hrd : t.rd (HLT_RATE_MEAS n) = u.rd (HLT_RATE_MEAS n)) (hfaulty : t.hlt.faulty = u.hlt.faulty) : RateCell s t n rate := by
  refine ⟨(congrArg HLT_RATE_MEAS_rate.get hrd).trans h.shown, ?_, (congrArg HLT_RATE_MEAS_fault.get hrd).trans h.fault,
    (congrArg HLT_RATE_MEAS_excluded.get hrd).trans h.excluded⟩
  rw [hfaulty]
  exact h.faulty

/-- What a period leaves; `u` is what the loading of its rates left, `w` its least margin. -/
structure PeriodEnd (s u t : State) (w : Option (Nat × Nat × Nat)) (low : Bool) (law : Nat × Nat) (rates : List Nat) : Prop where
  cells : ∀ n < 32, RateCell s t n (rates.getD n 0)
  next : ∀ n < 32, t.fld (HLT_RATE_NEED n) HLT_RATE_NEED_need_next = s.fld (HLT_RATE_NEED n) HLT_RATE_NEED_need_next
  active : ∀ n < 32, t.fld (HLT_RATE_NEED n) HLT_RATE_NEED_need_active =
    if s.hlt.swapPending then s.fld (HLT_RATE_NEED n) HLT_RATE_NEED_need_next else s.fld (HLT_RATE_NEED n) HLT_RATE_NEED_need_active
  hlt : ∃ a p q c r, t.hlt = { s.hlt with
    faulty := u.hlt.faulty, swapPending := false, havePrev := true, vcoreChanged := c, marginNeg := worstNeg w, above := a, pmb := p, pmbWait := q,
    lastRaise := r, raising := if s.hlt.swapPending then (if s.needsRise then some s.hlt.swapAt else none) else if low then s.hlt.raising else none }
  shown : ∀ x ∈ w, t.fld HLT_GOV_STATUS HLT_GOV_STATUS_worst_mon = x.1 ∧ t.fld HLT_GOV_STATUS HLT_GOV_STATUS_min_margin = unsigned 12 (marginTenths x.2.1 x.2.2)
  noMargin : w = none → t.fld HLT_GOV_STATUS HLT_GOV_STATUS_min_margin = 2047
  met : worstNeg w = false → t.fld HLT_GOV_STATUS HLT_GOV_STATUS_load_not_met = 0
  clear : low = false → t.fld HLT_GOV_STATUS HLT_GOV_STATUS_headroom_alarm = 0
  on : s.fld HLT_GOV_CTL HLT_GOV_CTL_enable = 1 → t.vcoreCmd = law.1 % 1024 ∧ t.hlt.above = law.2 ∧
    (low = true → s.vcoreCmd = 900 → t.fld HLT_GOV_STATUS HLT_GOV_STATUS_headroom_alarm = 1)
  off : ¬ s.fld HLT_GOV_CTL HLT_GOV_CTL_enable = 1 → t.vcoreCmd = s.vcoreCmd ∧ t.hlt.above = s.hlt.above ∧ t.outputs = s.outputs
  log : s.logs t 2 ((List.range 32).flatMap (fun n => s.rateEvents n (rates.getD n 0)) ++
    if s.fld HLT_GOV_CTL HLT_GOV_CTL_enable = 1 then s.alarmEvents low else [])
  frame : s.govFrame t periodRegs

theorem State.alarmEvents_congr (hcmd : t.vcoreCmd = s.vcoreCmd) {low : Bool}
    (h : low = true → t.fld HLT_GOV_STATUS HLT_GOV_STATUS_headroom_alarm = s.fld HLT_GOV_STATUS HLT_GOV_STATUS_headroom_alarm) : t.alarmEvents low = s.alarmEvents low := by
  cases low
  · simp only [State.alarmEvents, Bool.false_eq_true, false_and, if_false]
  · rw [State.alarmEvents, State.alarmEvents, hcmd, State.fldB, h rfl]
    rfl

theorem State.rd_periodShown (t : State) (w : Option (Nat × Nat × Nat)) {a : Nat} (ha : a ≠ HLT_GOV_STATUS) : (t.periodShown w).rd a = t.rd a := by
  refine (State.rd_marginNoted _ _ ha).trans ?_
  cases w with
  | none => exact (t.rd_setFld _ _ _ _).trans (if_neg ha)
  | some x => exact (State.rd_setFld _ _ _ _ _).trans ((if_neg ha).trans ((t.rd_setFld _ _ _ _).trans (if_neg ha)))

theorem State.periodGoverned_of_floor (t : State) (w : Option (Nat × Nat × Nat)) {floorPct : Nat} (h : t.fld HLT_GOV_CTL HLT_GOV_CTL_floor_pct = floorPct) :
    t.periodGoverned w = ((t.periodShown w).alarmEnded (worstLow w floorPct)).governed floorPct (worstLow w floorPct) (w.map (fun x => (x.2.1, x.2.2))) := by
  subst h
  have hv : (t.periodShown w).fld HLT_GOV_CTL HLT_GOV_CTL_floor_pct = t.fld HLT_GOV_CTL HLT_GOV_CTL_floor_pct := congrArg HLT_GOV_CTL_floor_pct.get (t.rd_periodShown w (by decide))
  rw [State.periodGoverned, hv]

theorem State.govPeriod_spec (hrun : s.running = true) {rates : List Nat} (hu : s.ratesLoaded rates = u) {w : Option (Nat × Nat × Nat)} (hw : u.worst = w) {floorPct : Nat}
    (hfloor : s.fld HLT_GOV_CTL HLT_GOV_CTL_floor_pct = floorPct) :
    PeriodEnd s u (s.govPeriod rates) w (worstLow w floorPct) (u.lawNow s.vcoreCmd floorPct (w.map (fun x => (x.2.1, x.2.2)))) rates := by
  have hworst : u.periodBegun.worst = w := (State.worst_congr fun _ => rfl).trans hw
  have hgo : s.govPeriod rates = (u.periodBegun.periodGoverned w).swapNeeds := by
    rw [s.govPeriod_eq rates, if_neg (by rw [hrun]; decide), hu, hworst]
  obtain ⟨hcells, h1, h1hlt, -, h1log⟩ := foldl_measureRate rates (List.range 32) List.nodup_range (fun n hn => List.mem_range.1 hn) s
  rw [← State.ratesLoaded, hu] at hcells h1 h1hlt h1log
  have hmon : ∀ x ∈ w, x.1 < 32 := hw ▸ u.worst_lt
  have hlawRd : ∀ a ∈ lawRegs, u.rd a = s.rd a := fun a ha => h1.1 a (law_not_meas a ha).1 (law_not_meas a ha).2
  have hstatus : u.rd HLT_GOV_STATUS = s.rd HLT_GOV_STATUS := h1.1 _ status_not_meas (by decide)
  have hneed : ∀ n < 32, u.rd (HLT_RATE_NEED n) = s.rd (HLT_RATE_NEED n) := fun n hn => h1.1 _ (need_not_meas hn) (RATE_NEED_not_lost hn)
  have hfloor' : u.periodBegun.fld HLT_GOV_CTL HLT_GOV_CTL_floor_pct = floorPct := (congrArg HLT_GOV_CTL_floor_pct.get (hlawRd _ (by decide))).trans hfloor
  rw [hgo, State.periodGoverned_of_floor _ _ hfloor']
  clear hgo hworst hu hw hfloor hfloor'
  generalize w.map (fun x => (x.2.1, x.2.2)) = m
  have h2 := u.marginStage hmon (worstLow w floorPct)
  generalize (u.periodBegun.periodShown w).alarmEnded (worstLow w floorPct) = z at h2 ⊢
  have h3 := z.governStage floorPct (worstLow w floorPct) m
  have hzcmd : z.vcoreCmd = s.vcoreCmd := h2.cmd.trans (congrArg HLT_GOV_STATUS_vcore_cmd_mv.get hstatus)
  have hlaw : z.lawNow z.vcoreCmd floorPct m = u.lawNow s.vcoreCmd floorPct m := by
    rw [State.lawNow_congr (s := u) (fun a ha => ?_) (by rw [h2.hlt]) (by rw [h2.hlt]), hzcmd]
    exact h2.frame.1 a (fun h => absurd (List.mem_singleton.1 h ▸ ha) (by decide)) (law_not_meas a ha).2
  rw [hlaw] at h3
  generalize z.governed floorPct (worstLow w floorPct) m = g at h3 ⊢
  have h4 := g.swapNeeds_spec
  generalize g.swapNeeds = t at h4 ⊢
  generalize worstLow w floorPct = low at h2 h3 ⊢
  generalize u.lawNow s.vcoreCmd floorPct m = law at h3 ⊢
  have hctl : z.fld HLT_GOV_CTL HLT_GOV_CTL_enable = s.fld HLT_GOV_CTL HLT_GOV_CTL_enable :=
    congrArg HLT_GOV_CTL_enable.get ((h2.frame.1 _ (by decide) (by decide)).trans (hlawRd _ (by decide)))
  have hgmeas : ∀ n < 32, t.rd (HLT_RATE_MEAS n) = u.rd (HLT_RATE_MEAS n) := fun n hn =>
    (h4.frame.1 _ meas_not_need (RATE_MEAS_not_lost hn)).trans
      ((h3.frame.1 _ (HLT_RATE_MEAS_ne_status hn) (RATE_MEAS_not_lost hn)).trans (h2.frame.1 _ (HLT_RATE_MEAS_ne_status hn) (RATE_MEAS_not_lost hn)))
  have hgneed : ∀ n < 32, g.rd (HLT_RATE_NEED n) = s.rd (HLT_RATE_NEED n) := fun n hn =>
    (h3.frame.1 _ (HLT_RATE_NEED_ne_status hn) (RATE_NEED_not_lost hn)).trans
      ((h2.frame.1 _ (HLT_RATE_NEED_ne_status hn) (RATE_NEED_not_lost hn)).trans (hneed n hn))
  have htstatus : ∀ f, t.fld HLT_GOV_STATUS f = g.fld HLT_GOV_STATUS f := fun f => congrArg f.get (h4.frame.1 _ status_not_need (by decide))
  obtain ⟨a, p, q, c, r, hghlt⟩ := h3.hlt
  have hgs : g.hlt = { s.hlt with
    faulty := u.hlt.faulty, havePrev := true, vcoreChanged := c, marginNeg := worstNeg w, above := a, pmb := p, pmbWait := q,
    lastRaise := r, raising := if low then s.hlt.raising else none } := by
    rw [hghlt, h2.hlt]
    generalize u.hlt.faulty = fa at h1hlt
    rw [h1hlt]
  have hswap := congrArg HltState.swapPending hgs
  have hthlt : t.hlt = { s.hlt with
    faulty := u.hlt.faulty, swapPending := false, havePrev := true, vcoreChanged := c, marginNeg := worstNeg w, above := a, pmb := p, pmbWait := q,
    lastRaise := r, raising := if s.hlt.swapPending then (if s.needsRise then some s.hlt.swapAt else none) else if low then s.hlt.raising else none } := by
    rw [h4.hlt, State.needsRise_congr hgneed, hgs]
  have habove : t.hlt.above = g.hlt.above := by rw [h4.hlt]
  refine ⟨fun n hn => (hcells n (List.mem_range.2 hn)).kept (hgmeas n hn) (by rw [hthlt]),
    fun n hn => (h4.next n hn).trans (congrArg HLT_RATE_NEED_need_next.get (hgneed n hn)), fun n hn => ?_, ⟨a, p, q, c, r, hthlt⟩,
    fun x hx => ⟨?_, ?_⟩, fun h => ?_, fun h => ?_, fun h => ?_, fun h => ?_, fun h => ?_, ?_, ?_⟩
  · rw [h4.active n hn, hswap, State.fld, State.fld, hgneed n hn]
    rfl
  · exact (htstatus _).trans ((h3.kept _ (by decide)).trans (h2.shown x hx).1)
  · exact (htstatus _).trans ((h3.kept _ (by decide)).trans (h2.shown x hx).2)
  · exact (htstatus _).trans ((h3.kept _ (by decide)).trans (h2.noMargin h))
  · exact (htstatus _).trans ((h3.kept _ (by decide)).trans (h2.met h))
  · exact (htstatus _).trans ((h3.clear h).trans (h2.clear h))
  · obtain ⟨hcmd, hab, halarm⟩ := h3.on (hctl.trans h)
    exact ⟨(htstatus _).trans hcmd, habove.trans hab, fun hl hc => (htstatus _).trans (halarm hl (hzcmd.trans hc))⟩
  · have hgz := h3.off (fun e => h (hctl.symm.trans e))
    refine ⟨(htstatus _).trans (hgz ▸ hzcmd), habove.trans ?_, (h4.frame.outputs).trans (hgz ▸ (h2.frame.outputs.trans h1.outputs))⟩
    rw [hgz, h2.hlt, h1hlt]
  · have hev : z.alarmEvents low = s.alarmEvents low := State.alarmEvents_congr hzcmd fun hl => (h2.kept hl).trans (congrArg HLT_GOV_STATUS_headroom_alarm.get hstatus)
    have hlog := h3.log
    rw [hctl, hev] at hlog
    have hzrun : z.running = s.running := h2.frame.running.trans h1.running
    exact (h1log.then_none h1.running (State.logs_of_flt h2.flt)).trans hzrun (hlog.then_none h3.frame.running (State.logs_of_flt h4.flt))
  · exact (((h1.govFrame.mono fun a ha => mem_periodRegs.2 (.inr (.inl ha))).trans (h2.frame.govFrame.mono fun a ha => mem_periodRegs.2 (.inl (List.mem_singleton.1 ha)))).trans
      (h3.frame.mono fun a ha => mem_periodRegs.2 (.inl (List.mem_singleton.1 ha)))).trans (h4.frame.govFrame.mono fun a ha => mem_periodRegs.2 (.inr (.inr ha)))

/-! The swap of needs (R45) -/

/-- What a mode's command leaves: the command, registers and the health block's state. -/
structure ModeStage (s t : State) : Prop where
  frame : s.govFrame t [HLT_GOV_STATUS]
  flt : t.flt = s.flt
  hlt : ∃ e p w c r, t.hlt = { s.hlt with everEnabled := e, pmb := p, pmbWait := w, vcoreChanged := c, lastRaise := r }
  on : s.fld HLT_GOV_CTL HLT_GOV_CTL_enable = 1 → t.vcoreCmd = max (max s.vcoreCmd (s.fld HLT_GOV_CTL2 HLT_GOV_CTL2_vmin_mv)) s.floorHold
  off : ¬ s.fld HLT_GOV_CTL HLT_GOV_CTL_enable = 1 → t.vcoreCmd = if s.hlt.everEnabled then s.fld HLT_GOV_CTL2 HLT_GOV_CTL2_fixed_mv else s.vcoreCmd

theorem State.floorHold_lt (s : State) : s.floorHold < 1024 := by
  rw [State.floorHold]
  split <;> omega

theorem State.govMode_spec (s : State) : ModeStage s s.govMode := by
  by_cases hen : s.fld HLT_GOV_CTL HLT_GOV_CTL_enable = 1
  · have heq : s.govMode = (s.setHlt { s.hlt with everEnabled := true }).setVcore (max (max s.vcoreCmd (s.fld HLT_GOV_CTL2 HLT_GOV_CTL2_vmin_mv)) s.floorHold) :=
      if_pos ((State.fldB_iff_one rfl).2 hen)
    have h := (s.setHlt { s.hlt with everEnabled := true }).setVcore_spec (max (max s.vcoreCmd (s.fld HLT_GOV_CTL2 HLT_GOV_CTL2_vmin_mv)) s.floorHold)
    rw [heq]
    obtain ⟨p, w, c, r, hhlt⟩ := h.hlt
    have hmin := HLT_GOV_CTL2_vmin_mv.get_lt (s.rd HLT_GOV_CTL2)
    rw [show 2 ^ HLT_GOV_CTL2_vmin_mv.width = 1024 from rfl] at hmin
    have hlt : max (max s.vcoreCmd (s.fld HLT_GOV_CTL2 HLT_GOV_CTL2_vmin_mv)) s.floorHold < 1024 := max_lt (max_lt s.vcoreCmd_lt hmin) s.floorHold_lt
    exact ⟨(s.hltFrame_setHlt _ _).govFrame.trans h.frame, h.flt, ⟨true, p, w, c, r, hhlt⟩, fun _ => h.cmd.trans (Nat.mod_eq_of_lt hlt), fun h => absurd hen h⟩
  · have hoff : ¬ s.fldB HLT_GOV_CTL HLT_GOV_CTL_enable = true := fun h => hen ((State.fldB_iff_one rfl).1 h)
    by_cases hever : s.hlt.everEnabled = true
    · have heq : s.govMode = s.setVcore (s.fld HLT_GOV_CTL2 HLT_GOV_CTL2_fixed_mv) := (if_neg hoff).trans (if_pos hever)
      have h := s.setVcore_spec (s.fld HLT_GOV_CTL2 HLT_GOV_CTL2_fixed_mv)
      obtain ⟨p, w, c, r, hhlt⟩ := h.hlt
      have hfix := HLT_GOV_CTL2_fixed_mv.get_lt (s.rd HLT_GOV_CTL2)
      rw [show 2 ^ HLT_GOV_CTL2_fixed_mv.width = 1024 from rfl] at hfix
      rw [heq]
      exact ⟨h.frame, h.flt, ⟨_, p, w, c, r, hhlt⟩, fun h => absurd h hen, fun _ => (h.cmd.trans (Nat.mod_eq_of_lt hfix)).trans (if_pos hever).symm⟩
    · have heq : s.govMode = s := (if_neg hoff).trans (if_neg hever)
      rw [heq]
      exact ⟨State.govFrame.refl s _, rfl, ⟨_, _, _, _, _, rfl⟩, fun h => absurd h hen, fun _ => (if_neg hever).symm⟩

/-- A write of HLT_GOV_CTL that marks the swap, up to the mode. -/
structure SwapMarked (s t : State) (v : Word) : Prop where
  frame : s.hltFrame t [HLT_GOV_CTL]
  flt : t.flt = s.flt
  hlt : ∃ a, t.hlt = { s.hlt with swapPending := true, swapAt := s.elapsed, above := a }
  enable : t.fld HLT_GOV_CTL HLT_GOV_CTL_enable = HLT_GOV_CTL_enable.get v
  period : t.fld HLT_GOV_CTL HLT_GOV_CTL_period = min (HLT_GOV_CTL_period.get v) 100
  floor : t.fld HLT_GOV_CTL HLT_GOV_CTL_floor_pct = max 15 (min (HLT_GOV_CTL_floor_pct.get v) 250)
  lower : t.fld HLT_GOV_CTL HLT_GOV_CTL_lower_pct = min 255 (max (HLT_GOV_CTL_lower_pct.get v) (t.fld HLT_GOV_CTL HLT_GOV_CTL_floor_pct + 5))

/-- The fields of HLT_GOV_CTL that a write with need_swap set leaves. -/
theorem govCtlWord {d : RegDesc} (hf : d.fields = [.rw 0 0, .rwr 15 8 0 100, .rwr 23 16 15 250, .rw 31 24]) (old v : Word) :
    HLT_GOV_CTL_enable.get (d.write old (v ||| 2)) = HLT_GOV_CTL_enable.get v ∧
      HLT_GOV_CTL_period.get (d.write old (v ||| 2)) = min (HLT_GOV_CTL_period.get v) 100 ∧
      HLT_GOV_CTL_floor_pct.get (d.write old (v ||| 2)) = max 15 (min (HLT_GOV_CTL_floor_pct.get v) 250) := by
  have hp := (Fld.mk 15 8).get_lt v
  have hq := (Fld.mk 23 16).get_lt v
  rw [show 2 ^ (Fld.mk 15 8).width = 256 from rfl] at hp
  rw [show 2 ^ (Fld.mk 23 16).width = 256 from rfl] at hq
  refine ⟨?_, ?_, ?_⟩
  · simp (disch := decide) only [RegDesc.write, hf, List.foldl, FAcc.write, HLT_GOV_CTL_enable, Fld.get_put, Fld.get_put_ne, Fld.get_mod, Fld.get_or]
  · simp (disch := decide) only [RegDesc.write, hf, List.foldl, FAcc.write, HLT_GOV_CTL_period, Fld.get_put, Fld.get_put_ne, Fld.get_or, clampNat]
    rw [show 2 ^ (Fld.mk 15 8).width = 256 from rfl]
    omega
  · simp (disch := decide) only [RegDesc.write, hf, List.foldl, FAcc.write, HLT_GOV_CTL_floor_pct, Fld.get_put, Fld.get_put_ne, Fld.get_or, clampNat]
    rw [show 2 ^ (Fld.mk 23 16).width = 256 from rfl]
    omega

/-- The swap is marked. -/
def State.swapMark (u : State) (a : Nat) : State := u.setHlt { u.hlt with swapPending := true, swapAt := u.elapsed, above := a }

theorem State.swapMark_ite (u : State) (p : Prop) [Decidable p] :
    (let t := u.setHlt { u.hlt with swapPending := true, swapAt := u.elapsed }
      if p then t else t.setHlt { t.hlt with above := 0 }) = u.swapMark (if p then u.hlt.above else 0) := by
  dsimp only
  split <;> rfl

theorem SwapMarked.of_wrote {v : Word} (hw : s.wroteRegs u [HLT_GOV_CTL])
    (henable : u.fld HLT_GOV_CTL HLT_GOV_CTL_enable = HLT_GOV_CTL_enable.get v) (hperiod : u.fld HLT_GOV_CTL HLT_GOV_CTL_period = min (HLT_GOV_CTL_period.get v) 100)
    (hfloor : u.fld HLT_GOV_CTL HLT_GOV_CTL_floor_pct = max 15 (min (HLT_GOV_CTL_floor_pct.get v) 250))
    (hlower : u.fld HLT_GOV_CTL HLT_GOV_CTL_lower_pct = min 255 (max (HLT_GOV_CTL_lower_pct.get v) (u.fld HLT_GOV_CTL HLT_GOV_CTL_floor_pct + 5))) (a : Nat) :
    SwapMarked s (u.swapMark a) v := by
  have hset := u.hltFrame_setHlt { u.hlt with swapPending := true, swapAt := u.elapsed, above := a } [HLT_GOV_CTL]
  refine ⟨hw.wroteEvents.hltFrame.trans hset, (by rw [hw.2] : u.flt = s.flt), ⟨a, ?_⟩, henable, hperiod, hfloor, hlower⟩
  show ({ u.hlt with swapPending := true, swapAt := u.elapsed, above := a } : HltState) = _
  rw [hw.2]

/-- HLT_GOV_CTL takes its fields, of which lower_pct keeps 5 % above floor_pct. -/
def State.govCtlLoaded (s : State) (v : Word) : State :=
  let u := s.wrPlain HLT_GOV_CTL v
  u.setFld HLT_GOV_CTL HLT_GOV_CTL_lower_pct (min 255 (max (HLT_GOV_CTL_lower_pct.get v) (u.fld HLT_GOV_CTL HLT_GOV_CTL_floor_pct + 5)))

theorem State.govCtlWrite_eq (s : State) {v : Word} (hbit : v.toNat.testBit 1 = true) :
    ∃ a, s.govCtlWrite v = ((s.govCtlLoaded v).swapMark a).govMode := by
  unfold State.govCtlWrite State.govCtlLoaded
  generalize s.wrPlain HLT_GOV_CTL v = u1
  dsimp only
  rw [if_pos hbit]
  generalize u1.setFld HLT_GOV_CTL HLT_GOV_CTL_lower_pct _ = u2
  exact ⟨_, congrArg State.govMode (u2.swapMark_ite _)⟩

theorem State.govCtlLoaded_spec (s : State) (v : Word) (a : Nat) : SwapMarked s ((s.govCtlLoaded (v ||| 2)).swapMark a) v := by
  obtain ⟨d, hd, hf⟩ : ∃ d, regAt HLT_GOV_CTL = some d ∧ d.fields = [.rw 0 0, .rwr 15 8 0 100, .rwr 23 16 15 250, .rw 31 24] := ⟨_, rfl, rfl⟩
  have hword := State.rd_wrPlain_of hd s (v ||| 2)
  have hwrote := State.wroteRegs_wrPlain s (v ||| 2) (List.mem_singleton_self HLT_GOV_CTL)
  obtain ⟨henable, hperiod, hfloor⟩ := govCtlWord hf (s.rd HLT_GOV_CTL) v
  rw [← hword] at henable hperiod hfloor
  have hlow : HLT_GOV_CTL_lower_pct.get (v ||| 2) = HLT_GOV_CTL_lower_pct.get v := by
    simp (disch := decide) only [HLT_GOV_CTL_lower_pct, Fld.get_or]
  rw [State.govCtlLoaded, hlow]
  generalize s.wrPlain HLT_GOV_CTL (v ||| 2) = u1 at hwrote henable hperiod hfloor ⊢
  generalize hx : min 255 (max (HLT_GOV_CTL_lower_pct.get v) (u1.fld HLT_GOV_CTL HLT_GOV_CTL_floor_pct + 5)) = x
  have hkept : ∀ g : Fld, g.lo ≤ g.hi → g.hi < 24 → (u1.setFld HLT_GOV_CTL HLT_GOV_CTL_lower_pct x).fld HLT_GOV_CTL g = u1.fld HLT_GOV_CTL g := fun g hg hlt =>
    State.fld_setFld_ne (f := HLT_GOV_CTL_lower_pct) u1 x (by decide) (by decide) hg (.inl hlt)
  have hxlt : x < 256 := hx ▸ lt_of_le_of_lt (Nat.min_le_left _ _) (by decide)
  have hlower := State.fld_setFld_same (f := HLT_GOV_CTL_lower_pct) u1 HLT_GOV_CTL x (by decide) (by decide)
  rw [show 2 ^ HLT_GOV_CTL_lower_pct.width = 256 from rfl, Nat.mod_eq_of_lt hxlt] at hlower
  have hw2 := u1.wroteRegs_setFld (l := [HLT_GOV_CTL]) HLT_GOV_CTL_lower_pct x (List.mem_singleton_self _)
  have hfl := hkept HLT_GOV_CTL_floor_pct (by decide) (by decide)
  have henable' := (hkept HLT_GOV_CTL_enable (by decide) (by decide)).trans henable
  have hperiod' := (hkept HLT_GOV_CTL_period (by decide) (by decide)).trans hperiod
  have hfloor' := hfl.trans hfloor
  generalize u1.setFld HLT_GOV_CTL HLT_GOV_CTL_lower_pct x = u2 at hw2 henable' hperiod' hfloor' hlower hfl ⊢
  rw [← hx, ← hfl] at hlower
  exact SwapMarked.of_wrote (hwrote.trans hw2) henable' hperiod' hfloor' hlower a

theorem State.govCtlWrite_swap (s : State) (v : Word) : ∃ u, s.govCtlWrite (v ||| 2) = u.govMode ∧ SwapMarked s u v := by
  obtain ⟨a, h⟩ := s.govCtlWrite_eq (testBit_or_set v 2 (i := 1) (by decide) (by decide))
  exact ⟨_, h, s.govCtlLoaded_spec v a⟩

theorem gives_needSwap {m : Master} (hw : s.writable m HLT_GOV_CTL) (v : Word) :
    Gives (.needSwap m v) s (fun t => t.hlt.swapPending = true ∧ t.hlt.swapAt = s.elapsed ∧
      t.fld HLT_GOV_CTL HLT_GOV_CTL_enable = HLT_GOV_CTL_enable.get v ∧
      t.fld HLT_GOV_CTL HLT_GOV_CTL_period = min (HLT_GOV_CTL_period.get v) 100 ∧
      t.fld HLT_GOV_CTL HLT_GOV_CTL_floor_pct = max 15 (min (HLT_GOV_CTL_floor_pct.get v) 250) ∧
      t.fld HLT_GOV_CTL HLT_GOV_CTL_lower_pct = min 255 (max (HLT_GOV_CTL_lower_pct.get v) (t.fld HLT_GOV_CTL HLT_GOV_CTL_floor_pct + 5)) ∧
      (HLT_GOV_CTL_enable.get v = 1 → t.vcoreCmd = max (max s.vcoreCmd (s.fld HLT_GOV_CTL2 HLT_GOV_CTL2_vmin_mv)) (if s.hlt.faulty ≠ 0 then 850 else 0)) ∧
      (HLT_GOV_CTL_enable.get v = 0 → t.vcoreCmd = (if s.hlt.everEnabled then s.fld HLT_GOV_CTL2 HLT_GOV_CTL2_fixed_mv else s.vcoreCmd)) ∧
      s.onlyRegs t [HLT_GOV_CTL, HLT_GOV_STATUS] ∧ t = { s.seen m with regs := t.regs, hlt := t.hlt, outputs := t.outputs }) := by
  have hgo : s.regCommand m HLT_GOV_CTL (v ||| 2) = (s.seen m).govCtlWrite (v ||| 2) := by
    rw [show HLT_GOV_CTL = 0x20010000 + 0x100 from rfl, State.regCommand_hlt (by decide) hw]
    rfl
  have hseen : ∀ a, (s.seen m).rd a = s.rd a := State.rd_congr (s.seen_regs m)
  have hseenHlt : (s.seen m).hlt = s.hlt := s.seen_hlt m
  have hseenEl : (s.seen m).elapsed = s.elapsed := s.seen_elapsed m
  generalize s.seen m = x at hgo hseen hseenHlt hseenEl
  obtain ⟨u, heq, h1⟩ := x.govCtlWrite_swap v
  have h2 := u.govMode_spec
  rw [heq] at hgo
  generalize u.govMode = t at hgo h2
  obtain ⟨a, huhlt⟩ := h1.hlt
  obtain ⟨e, p, w, c, r, hthlt⟩ := h2.hlt
  have hctl : ∀ f, t.fld HLT_GOV_CTL f = u.fld HLT_GOV_CTL f := fun f => congrArg f.get (h2.frame.1 _ (by decide) (by decide))
  have hus : ∀ a, a ≠ HLT_GOV_CTL → (a < FLT_SRC_LOST 1 ∨ FLT_SRC_LOST 16 < a) → u.rd a = s.rd a := fun a ha hl =>
    (h1.frame.1 a (fun h => ha (List.mem_singleton.1 h)) hl).trans (hseen a)
  have hcmd : u.vcoreCmd = s.vcoreCmd := congrArg HLT_GOV_STATUS_vcore_cmd_mv.get (hus _ (by decide) (by decide))
  have hctl2 : ∀ f, u.fld HLT_GOV_CTL2 f = s.fld HLT_GOV_CTL2 f := fun f => congrArg f.get (hus _ (by decide) (by decide))
  have hfaulty : u.hlt.faulty = s.hlt.faulty := by rw [huhlt, hseenHlt]
  have hever : u.hlt.everEnabled = s.hlt.everEnabled := by rw [huhlt, hseenHlt]
  refine ⟨t, congrArg Host.Outcome.next hgo, by rw [hthlt, huhlt], by rw [hthlt, huhlt]; exact hseenEl, (hctl _).trans h1.enable, (hctl _).trans h1.period,
    (hctl _).trans h1.floor, ?_, fun h => ?_, fun h => ?_, fun a ha hl => ?_, ?_⟩
  · rw [hctl, hctl]
    exact h1.lower
  · rw [h2.on (h1.enable.trans h), hcmd, hctl2, State.floorHold, hfaulty]
  · rw [h2.off (by rw [h1.enable, h]; decide), hcmd, hctl2, hever]
  · simp only [List.mem_cons, List.not_mem_nil, or_false, not_or] at ha
    exact (h2.frame.1 a (fun h => ha.2 (List.mem_singleton.1 h)) hl).trans (hus a ha.1 hl)
  · have hu : u = { x with regs := u.regs, hlt := u.hlt } := h1.frame.2.trans (by rw [h1.flt])
    rw [h2.frame.2, h2.flt, hu]

/-! The load alarm (R47) -/

theorem State.loadNotMet_of_below (hneg : s.hlt.marginNeg = true) (hmet : s.fld HLT_GOV_STATUS HLT_GOV_STATUS_load_not_met = 0) :
    s.loadNotMet = (s.setFld HLT_GOV_STATUS HLT_GOV_STATUS_load_not_met 1).raise 0x0221 5 := by
  refine if_pos ⟨hneg, ?_⟩
  rw [State.fldB, hmet]
  rfl

theorem gives_loadNotMet (hneg : s.hlt.marginNeg = true) (hmet : s.fld HLT_GOV_STATUS HLT_GOV_STATUS_load_not_met = 0) :
    Gives .loadNotMet s (fun t => t.fld HLT_GOV_STATUS HLT_GOV_STATUS_load_not_met = 1 ∧ t.vcoreCmd = s.vcoreCmd ∧ s.posts t 0x0221 5 noInst ∧
      s.onlyRegs t [HLT_GOV_STATUS] ∧ s.regFrame t) := by
  have hgo := State.loadNotMet_of_below hneg hmet
  have hw := s.wroteRegs_setFld (l := [HLT_GOV_STATUS]) HLT_GOV_STATUS_load_not_met 1 (List.mem_singleton_self _)
  have hone := State.fld_setFld_same (f := HLT_GOV_STATUS_load_not_met) s HLT_GOV_STATUS 1 (by decide) (by decide)
  have hcmd : (s.setFld HLT_GOV_STATUS HLT_GOV_STATUS_load_not_met 1).vcoreCmd = s.vcoreCmd :=
    State.fld_setFld_ne (f := HLT_GOV_STATUS_load_not_met) s 1 (by decide) (by decide) (by decide) (by decide)
  generalize s.setFld HLT_GOV_STATUS HLT_GOV_STATUS_load_not_met 1 = u at hgo hw hone hcmd
  obtain ⟨hposts, honly, hframe⟩ := State.raised (s := s) (u := u) hw.wroteEvents.hltFrame.running (by rw [hw.2]) (fun a hl _ => hw.1 a hl) (c := 0x0221) (k := 5) noInst 0
    (by decide) (by decide) rfl
  have hrd : (u.raise 0x0221 5).rd HLT_GOV_STATUS = u.rd HLT_GOV_STATUS := (u.raise_frame 0x0221 5 _ _ (by decide)).onlyRegs [] _ List.not_mem_nil (by decide)
  refine ⟨u.raise 0x0221 5, congrArg Host.Outcome.next hgo, (congrArg HLT_GOV_STATUS_load_not_met.get hrd).trans hone,
    (congrArg HLT_GOV_STATUS_vcore_cmd_mv.get hrd).trans hcmd, hposts, honly, ?_⟩
  rw [State.regFrame] at hframe ⊢
  rw [hframe, hw.2]

theorem loadNotMet_of_met (h : s.hlt.marginNeg = false ∨ s.fld HLT_GOV_STATUS HLT_GOV_STATUS_load_not_met = 1) : s.loadNotMet = s := by
  refine if_neg fun hc => ?_
  rcases h with h | h
  · exact absurd (h.symm.trans hc.1) (by decide)
  · have hb : s.fldB HLT_GOV_STATUS HLT_GOV_STATUS_load_not_met = true := (State.fldB_iff_one rfl).2 h
    exact absurd hc.2 (by rw [hb]; decide)

end

/-! The governor as a whole -/

theorem mem_rateEvents {s : State} {rates : List Nat} {n : Nat} (hn : n < 32) (h : s.rateBad n (rates.getD n 0) = true) :
    (0x0222, 3, n) ∈ (List.range 32).flatMap (fun n => s.rateEvents n (rates.getD n 0)) := by
  refine List.mem_flatMap.2 ⟨n, List.mem_range.2 hn, ?_⟩
  rw [State.rateEvents, if_pos h, Nat.mod_eq_of_lt (by omega)]
  exact List.mem_singleton_self _

theorem length_rateEvents (s : State) (rates : List Nat) (l : List Nat) :
    (l.flatMap (fun n => s.rateEvents n (rates.getD n 0))).length = (l.filter (fun n => s.rateBad n (rates.getD n 0))).length := by
  induction l with
  | nil => rfl
  | cons n l ih =>
    rw [List.flatMap_cons, List.length_append, ih, List.filter_cons, State.rateEvents]
    split
    · exact Nat.add_comm _ _
    · rw [List.length_nil, Nat.zero_add]

theorem length_alarmEvents (s : State) (low : Bool) : (s.alarmEvents low).length ≤ 1 := by
  rw [State.alarmEvents]
  split <;> decide

theorem any_eq_worstNeg (w : Option (Nat × Nat × Nat)) : w.any (fun w => decide (w.2.1 < w.2.2)) = worstNeg w := by cases w <;> rfl

theorem any_eq_worstLow (w : Option (Nat × Nat × Nat)) (floorPct : Nat) : w.any (fun w => decide (100 * w.2.1 < (100 + floorPct) * w.2.2)) = worstLow w floorPct := by
  cases w <;> rfl

/-- The law after the rates' loading reads the same registers as before it. -/
theorem State.lawNow_ratesLoaded (s : State) (rates : List Nat) (cmd floorPct : Nat) (m : Option (Nat × Nat)) :
    (s.ratesLoaded rates).lawNow cmd floorPct m = govLaw cmd s.hlt.above floorPct (s.fld HLT_GOV_CTL HLT_GOV_CTL_lower_pct) (s.fld HLT_GOV_CTL2 HLT_GOV_CTL2_dwell)
      (s.fld HLT_GOV_CTL2 HLT_GOV_CTL2_vmin_mv) (if (s.ratesLoaded rates).hlt.faulty ≠ 0 then 850 else 0) (s.fldB HLT_PMB_STATUS HLT_PMB_STATUS_link_lost) m := by
  obtain ⟨-, h1, h1hlt, -, -⟩ := foldl_measureRate rates (List.range 32) List.nodup_range (fun n hn => List.mem_range.1 hn) s
  rw [← State.ratesLoaded] at h1 h1hlt
  generalize s.ratesLoaded rates = u at h1 h1hlt ⊢
  have hrd : ∀ a ∈ lawRegs, u.rd a = s.rd a := fun a ha => h1.1 a (law_not_meas a ha).1 (law_not_meas a ha).2
  have habove : u.hlt.above = s.hlt.above := by
    generalize u.hlt.faulty = fa at h1hlt
    rw [h1hlt]
  have h1 := hrd HLT_GOV_CTL (by decide)
  have h2 := hrd HLT_GOV_CTL2 (by decide)
  have h3 := hrd HLT_PMB_STATUS (by decide)
  simp only [State.lawNow, State.floorHold, State.fldB, State.fld, h1, h2, h3, habove]

/-- What a period tells. -/
theorem PeriodEnd.tells {s u t : State} {w : Option (Nat × Nat × Nat)} {low : Bool} {law : Nat × Nat} {rates : List Nat} (h : PeriodEnd s u t w low law rates) {c k i : Nat}
    (hb : c / 256 = 2) (hmem : (c, k, i) ∈ (List.range 32).flatMap (fun n => s.rateEvents n (rates.getD n 0)) ++
      if s.fld HLT_GOV_CTL HLT_GOV_CTL_enable = 1 then s.alarmEvents low else []) :
    s.tells t (((List.range 32).filter (fun n => s.rateBad n (rates.getD n 0))).length + 1) c k i := by
  refine h.log.tells hmem ?_ hb
  rw [List.length_append, length_rateEvents]
  have halarm := length_alarmEvents s low
  split
  · omega
  · rw [List.length_nil]
    omega

theorem gives_governorPeriod {s : State} (hrun : s.running = true) (rates : List Nat) {u : State} (hu : s.ratesLoaded rates = u) {low neg : Bool} {law : Nat × Nat}
    (hlow : low = worstLow u.worst (s.fld HLT_GOV_CTL HLT_GOV_CTL_floor_pct)) (hneg : neg = worstNeg u.worst)
    (hlaw : law = u.lawNow s.vcoreCmd (s.fld HLT_GOV_CTL HLT_GOV_CTL_floor_pct) (u.worst.map (fun w => (w.2.1, w.2.2)))) :
    Gives (.governorPeriod rates) s (fun t =>
      (∀ n < 32, t.fld (HLT_RATE_MEAS n) HLT_RATE_MEAS_rate = min (rates.getD n 0) 65535 ∧
        t.hlt.faulty.testBit n = (s.hlt.faulty.testBit n || s.rateBad n (rates.getD n 0)) ∧
        t.fld (HLT_RATE_MEAS n) HLT_RATE_MEAS_fault = (if s.rateBad n (rates.getD n 0) then 1 else s.fld (HLT_RATE_MEAS n) HLT_RATE_MEAS_fault) ∧
        (s.rateBad n (rates.getD n 0) = true → s.tells t (((List.range 32).filter (fun n => s.rateBad n (rates.getD n 0))).length + 1) 0x0222 3 n) ∧
        t.fld (HLT_RATE_MEAS n) HLT_RATE_MEAS_excluded = boolNat (s.fld (HLT_RATE_NEED n) HLT_RATE_NEED_need_active = 0 || !s.monOn n || t.hlt.faulty.testBit n) ∧
        t.fld (HLT_RATE_NEED n) HLT_RATE_NEED_need_next = s.fld (HLT_RATE_NEED n) HLT_RATE_NEED_need_next ∧
        t.fld (HLT_RATE_NEED n) HLT_RATE_NEED_need_active =
          (if s.hlt.swapPending then s.fld (HLT_RATE_NEED n) HLT_RATE_NEED_need_next else s.fld (HLT_RATE_NEED n) HLT_RATE_NEED_need_active)) ∧
      t.hlt.swapPending = false ∧ t.hlt.havePrev = true ∧ t.hlt.marginNeg = neg ∧
      t.hlt.raising = (if s.hlt.swapPending then (if s.needsRise then some s.hlt.swapAt else none) else if low then s.hlt.raising else none) ∧
      (∀ w ∈ u.worst, t.fld HLT_GOV_STATUS HLT_GOV_STATUS_worst_mon = w.1 ∧
        t.fld HLT_GOV_STATUS HLT_GOV_STATUS_min_margin = unsigned 12 (marginTenths w.2.1 w.2.2)) ∧
      (u.worst = none → t.fld HLT_GOV_STATUS HLT_GOV_STATUS_min_margin = 2047) ∧
      (neg = false → t.fld HLT_GOV_STATUS HLT_GOV_STATUS_load_not_met = 0) ∧
      (low = false → t.fld HLT_GOV_STATUS HLT_GOV_STATUS_headroom_alarm = 0) ∧
      (low = true → s.vcoreCmd = 900 → s.fld HLT_GOV_CTL HLT_GOV_CTL_enable = 1 → t.fld HLT_GOV_STATUS HLT_GOV_STATUS_headroom_alarm = 1 ∧
        (s.fld HLT_GOV_STATUS HLT_GOV_STATUS_headroom_alarm = 0 → s.tells t (((List.range 32).filter (fun n => s.rateBad n (rates.getD n 0))).length + 1) 0x0220 3 noInst)) ∧
      (s.fld HLT_GOV_CTL HLT_GOV_CTL_enable = 1 → t.vcoreCmd = law.1 % 1024 ∧ t.hlt.above = law.2) ∧
      (¬ s.fld HLT_GOV_CTL HLT_GOV_CTL_enable = 1 → t.vcoreCmd = s.vcoreCmd ∧ t.hlt.above = s.hlt.above ∧ t.outputs = s.outputs) ∧
      s.onlyRegs t periodRegs ∧ t = { s with regs := t.regs, flt := t.flt, hlt := t.hlt, outputs := t.outputs }) := by
  have h := State.govPeriod_spec hrun hu rfl rfl
  rw [← hlow, ← hlaw] at h
  obtain ⟨a, p, q, c, r, hhlt⟩ := h.hlt
  rw [← hneg] at hhlt
  refine ⟨s.govPeriod rates, rfl, fun n hn => ⟨(h.cells n hn).shown, (h.cells n hn).faulty, (h.cells n hn).fault, fun hb => ?_, ?_, h.next n hn, h.active n hn⟩,
    by rw [hhlt], by rw [hhlt], by rw [hhlt], by rw [hhlt], h.shown, h.noMargin, fun hn => h.met (hneg ▸ hn), h.clear,
    fun hl hc hen => ⟨(h.on hen).2.2 hl hc, fun h0 => h.tells rfl ?_⟩, fun hen => ⟨(h.on hen).1, (h.on hen).2.1⟩, h.off, h.frame.1, h.frame.2⟩
  · exact h.tells rfl (List.mem_append_left _ (mem_rateEvents hn hb))
  · rw [(h.cells n hn).excluded, (h.cells n hn).faulty]
  · refine List.mem_append_right _ ?_
    rw [if_pos hen, State.alarmEvents, if_pos ⟨hl, hc, by rw [State.fldB, h0]; rfl⟩]
    exact List.mem_singleton_self _

/-- Settles O11: a period is the fold over the monitors, the margin shown, the alarm's end, the enabled governor's part by the law, and
the swap; each stage has its own specification. -/
theorem governorPeriod : Obligations.GovernorPeriod := by
  unfold Obligations.GovernorPeriod
  intro s
  refine ⟨fun cmd above floorPct lowerPct dwell vmin hold r d noLower hf hl => govLaw_cases hf hl, fun rates hrun => ⟨s, ?_, rfl⟩, fun rates hrun => ?_,
    fun m v hw => gives_needSwap hw v, fun hneg hmet => gives_loadNotMet hneg hmet, fun h => ⟨s, congrArg Host.Outcome.next (loadNotMet_of_met h), rfl⟩⟩
  · exact congrArg Host.Outcome.next (if_pos (by rw [hrun]; rfl))
  · exact gives_governorPeriod hrun rates rfl (any_eq_worstLow _ _) (any_eq_worstNeg _) (s.lawNow_ratesLoaded rates _ _ _).symm

end Sys2Proof.Machine

/-! The tide clock's step and the gates of the running schedules (R38, R128). -/

namespace Sys2Proof.Machine

section
variable {s t u : State} {p : Nat}

/-! One port -/

/-- The schedule held through a step: the gates as they stand, until a boundary of `c`. -/
def State.tideHeld (s : State) (p g now : Nat) (c : Sched) : State := s.setTide p { s.tideOf p with held := some (g, c.boundary now), gates := g }

theorem State.tideStepPort_of_closed (h : (s.tideOf p).oper = none) (now : Nat) : s.tideStepPort now p = s := by
  simp only [State.tideStepPort, h]

theorem State.tideStepPort_of_kept {c : Sched} (h : (s.tideOf p).oper = some c) {now : Nat} (hn : ∀ n, (s.tideOf p).pending = some n → now < n.at_) :
    s.tideStepPort now p = s.tideHeld p (s.gatesAt p s.tide.toNat) now c := by
  cases hp : (s.tideOf p).pending with
  | none => simp only [State.tideStepPort, h, hp, State.tideHeld]
  | some n => simp only [State.tideStepPort, h, hp, if_neg (Nat.not_le.2 (hn n hp)), State.tideHeld]

theorem State.tideStepPort_of_due {c : Sched} (h : (s.tideOf p).oper = some c) {now : Nat} {n : TidePending} (hp : (s.tideOf p).pending = some n) (hn : n.at_ ≤ now) :
    s.tideStepPort now p = (s.applyPending p n).tideHeld p (s.gatesAt p s.tide.toNat) now n.sched := by
  simp only [State.tideStepPort, h, hp, if_pos hn, State.tideHeld]

/-- The other blocks' event buffers stay as they are. -/
def State.otherBufs (s t : State) : Prop := ∀ b, b ≠ 5 → b ≠ 3 → t.postBuf b = s.postBuf b

theorem State.otherBufs_of_flt (h : t.flt = s.flt) : s.otherBufs t := fun b _ _ => by rw [State.postBuf, h]

theorem State.otherBufs.trans (h1 : s.otherBufs t) (h2 : t.otherBufs u) : s.otherBufs u := fun b hb h3 => (h2 b hb h3).trans (h1 b hb h3)

theorem State.otherBufs_applyPending (s : State) (p : Nat) (n : TidePending) : s.otherBufs (s.applyPending p n) := by
  intro b hb h3
  rw [State.applyPending]
  dsimp only
  obtain ⟨-, -, he⟩ := ((((s.setTide p { s.tideOf p with oper := some n.sched, pending := none }).setFld (TMG_TT_CTL p) TMG_TT_CTL_pending 0).setFld
    (TMG_TT_CTL p) TMG_TT_CTL_list n.sched.list).raise 0x0504 0 p).gatesRefresh_spec p
  rw [State.postBuf, he]
  exact (State.postBuf_raise_ne _ _ _ (Ne.symm hb) h3)

/-- What a step leaves of one port, whose schedules and gates were those of `s`. -/
structure TidePort (s t : State) (now p : Nat) : Prop where
  closed : (s.tideOf p).oper = none → t.tideOf p = s.tideOf p
  kept : ∀ c, (s.tideOf p).oper = some c → (∀ n, (s.tideOf p).pending = some n → now < n.at_) →
    t.tideOf p = { s.tideOf p with held := some (s.gatesAt p s.tide.toNat, c.boundary now), gates := s.gatesAt p s.tide.toNat }
  due : ∀ c n, (s.tideOf p).oper = some c → (s.tideOf p).pending = some n → n.at_ ≤ now →
    t.tideOf p = { s.tideOf p with
      oper := some n.sched, pending := none, held := some (s.gatesAt p s.tide.toNat, n.sched.boundary now), gates := s.gatesAt p s.tide.toNat } ∧
    t.fld (TMG_TT_CTL p) TMG_TT_CTL_pending = 0 ∧ t.fld (TMG_TT_CTL p) TMG_TT_CTL_list = n.sched.list % 2

theorem State.tideStepPort_spec (s : State) (hp : p < 28) (now : Nat) :
    TidePort s (s.tideStepPort now p) now p ∧ s.tideOnly (s.tideStepPort now p) p ∧ s.otherBufs (s.tideStepPort now p) := by
  cases ho : (s.tideOf p).oper with
  | none =>
    rw [State.tideStepPort_of_closed ho]
    exact ⟨⟨fun _ => rfl, fun c h => absurd (ho.symm.trans h) nofun, fun c n h => absurd (ho.symm.trans h) nofun⟩, State.tideOnly.refl s p, State.otherBufs_of_flt rfl⟩
  | some c =>
    by_cases hdue : ∃ n, (s.tideOf p).pending = some n ∧ n.at_ ≤ now
    · obtain ⟨n, hn, hat⟩ := hdue
      rw [State.tideStepPort_of_due ho hn hat]
      obtain ⟨hoper, hpend, -, hfp, hfl, -, honly⟩ := s.applyPending_spec hp n
      have hbufs := s.otherBufs_applyPending p n
      generalize s.applyPending p n = u at hoper hpend hfp hfl honly hbufs ⊢
      refine ⟨⟨fun h => absurd (ho.symm.trans h) nofun, fun c' _ h => absurd hat (Nat.not_le.2 (h n hn)), fun c' n' _ hn' _ => ?_⟩,
        honly.trans (u.tideOnly_setTide p _), hbufs.trans (State.otherBufs_of_flt rfl)⟩
      obtain rfl : n = n' := Option.some.inj (hn.symm.trans hn')
      refine ⟨(u.tideOf_setTide_self p _).trans ?_, hfp, hfl⟩
      dsimp only
      rw [hoper, hpend]
    · have hlate : ∀ n, (s.tideOf p).pending = some n → now < n.at_ := fun n hn => Nat.lt_of_not_le fun h => hdue ⟨n, hn, h⟩
      rw [State.tideStepPort_of_kept ho hlate]
      refine ⟨⟨fun h => absurd (ho.symm.trans h) nofun, fun c' hc _ => ?_, fun c' n _ hn hat => absurd ⟨n, hn, hat⟩ hdue⟩, s.tideOnly_setTide p _, State.otherBufs_of_flt rfl⟩
      obtain rfl : c = c' := Option.some.inj (ho.symm.trans hc)
      exact s.tideOf_setTide_self p _

/-! All ports -/

/-- The tide state of ports, their control registers and events may have changed, and nothing else. -/
def State.tideFrame (s t : State) (l : List Nat) : Prop :=
  (∀ q, q ∉ l → t.tideOf q = s.tideOf q) ∧ s.onlyRegs t (l.map TMG_TT_CTL) ∧
    t = { s with regs := t.regs, flt := t.flt, tm := { s.tm with scheds := t.tm.scheds } }

theorem TMG_TT_CTL_inj {n k : Nat} (h : TMG_TT_CTL n = TMG_TT_CTL k) : n = k := by
  rw [TMG_TT_CTL, TMG_TT_CTL] at h
  omega

theorem TMG_TT_CTL_not_lost {n : Nat} (hn : n < 28) : TMG_TT_CTL n < FLT_SRC_LOST 1 ∨ FLT_SRC_LOST 16 < TMG_TT_CTL n := by
  rw [TMG_TT_CTL, FLT_SRC_LOST, FLT_SRC_LOST]
  omega

/-- A port's part speaks of its own tide state and gates alone. -/
theorem TidePort.congr {now : Nat} (h : TidePort u t now p) (htide : u.tideOf p = s.tideOf p) (hnow : u.tide = s.tide) (hentries : u.tm.entries = s.tm.entries) :
    TidePort s t now p := by
  have hgates : u.gatesAt p u.tide.toNat = s.gatesAt p s.tide.toNat := by
    rw [hnow]
    exact State.gatesAt_congr hentries (by rw [htide]) (by rw [htide]) (by rw [htide]) _
  obtain ⟨h1, h2, h3⟩ := h
  rw [htide] at h1
  simp only [htide, hgates] at h2 h3
  exact ⟨h1, h2, h3⟩

theorem foldl_tideStepPort (now : Nat) (l : List Nat) (hl : l.Nodup) (hlt : ∀ p ∈ l, p < 28) (s : State) :
    (∀ p ∈ l, TidePort s (l.foldl (fun u p => u.tideStepPort now p) s) now p) ∧ s.tideFrame (l.foldl (fun u p => u.tideStepPort now p) s) l ∧
      s.otherBufs (l.foldl (fun u p => u.tideStepPort now p) s) := by
  induction l generalizing s with
  | nil => exact ⟨fun p hp => absurd hp List.not_mem_nil, ⟨fun _ _ => rfl, State.onlyRegs.refl s _, rfl⟩, State.otherBufs_of_flt rfl⟩
  | cons k l ih =>
    obtain ⟨hk, hl⟩ := List.nodup_cons.1 hl
    have hk28 := hlt k List.mem_cons_self
    obtain ⟨hport, ⟨hothers, hrd, he⟩, hbufs⟩ := s.tideStepPort_spec hk28 now
    obtain ⟨hports, ⟨hothers', hrd', he'⟩, hbufs'⟩ := ih hl (fun p hp => hlt p (List.mem_cons_of_mem _ hp)) (s.tideStepPort now k)
    rw [List.foldl_cons]
    generalize s.tideStepPort now k = x at hport hothers hrd he hbufs hports hothers' hrd' he' hbufs' ⊢
    generalize l.foldl (fun u p => u.tideStepPort now p) x = t at hports hothers' hrd' he' hbufs' ⊢
    have hnow : x.tide = s.tide := by rw [he]
    have hentries : x.tm.entries = s.tm.entries := by rw [he]
    refine ⟨fun p hp => ?_, ⟨fun q hq => ?_, fun a ha hal => ?_, by rw [he', he]⟩, hbufs.trans hbufs'⟩
    · rcases List.mem_cons.1 hp with rfl | hp
      · have hreg : t.rd (TMG_TT_CTL p) = x.rd (TMG_TT_CTL p) := hrd' _ (fun h => by
          obtain ⟨j, hj, hje⟩ := List.mem_map.1 h
          exact hk (TMG_TT_CTL_inj hje ▸ hj)) (TMG_TT_CTL_not_lost hk28)
        have htide := hothers' p hk
        exact ⟨fun h => htide.trans (hport.closed h), fun c h h' => htide.trans (hport.kept c h h'), fun c n h h' h'' => by
          obtain ⟨h1, h2, h3⟩ := hport.due c n h h' h''
          exact ⟨htide.trans h1, (congrArg TMG_TT_CTL_pending.get hreg).trans h2, (congrArg TMG_TT_CTL_list.get hreg).trans h3⟩⟩
      · exact (hports p hp).congr (hothers p fun e => hk (e ▸ hp)) hnow hentries
    · rw [List.mem_cons, not_or] at hq
      exact (hothers' q hq.2).trans (hothers q hq.1)
    · rw [List.map_cons, List.mem_cons, not_or] at ha
      exact (hrd' a ha.2 hal).trans (hrd a (fun h => ha.1 (List.mem_singleton.1 h)) hal)

end

end Sys2Proof.Machine

/-! The tide clock: rate, step, Sync and the gPTP messages (R35 to R39, R147, R177, R420). -/

namespace Sys2Proof.Machine

section
variable {s t u : State} {p : Nat} {m : Master} {v : Word}

theorem State.posts_of_postBuf {c k i : Nat} (hrun : t.running = s.running) (hbuf : t.postBuf (c / 256) = s.postBuf (c / 256)) (h : t.posts u c k i) : s.posts u c k i := by
  rw [State.postBuf, State.postBuf] at hbuf
  rw [State.posts, hrun, hbuf] at h
  exact h

/-- What needs more room than a buffer has is told whenever it is asked for. -/
theorem State.tells_of_large {n c k i : Nat} (h : 16 < n) : s.tells t n c k i := fun _ hroom => absurd hroom (by omega)

/-! The step (R38) -/

/-- What a step of the clock leaves. -/
structure TideStepped (s t : State) (now : DWord) : Prop where
  tide : t.tide = now
  ports : ∀ p < 28, TidePort s t now.toNat p
  done : t.fld HLT_TIDE_STATUS HLT_TIDE_STATUS_step_done = 1
  posts : s.posts t 0x0201 0 noInst
  bufs : ∀ b, b ≠ 2 → b ≠ 3 → b ≠ 5 → t.postBuf b = s.postBuf b
  regs : s.onlyRegs t (HLT_TIDE_STATUS :: (List.range 28).map TMG_TT_CTL)
  frame : t = { s with regs := t.regs, flt := t.flt, tide := now, tm := { s.tm with scheds := t.tm.scheds }, csg := { s.csg with suspended := true } }

/-- The clock takes its new value, with the presentation check suspended. -/
def State.tideSet (s : State) (now : DWord) : State := { s with tide := now, csg := { s.csg with suspended := true } }

theorem State.tideStep_eq (s : State) (d : Int) : s.tideStep d =
    ((((List.range 28).foldl (fun u p => u.tideStepPort (BitVec.ofInt 64 ((s.tide.toNat : Int) + d)).toNat p) s).tideSet
      (BitVec.ofInt 64 ((s.tide.toNat : Int) + d))).setFld HLT_TIDE_STATUS HLT_TIDE_STATUS_step_done 1).raise 0x0201 0 := rfl

theorem TMG_TT_CTL_ne_status (p : Nat) : TMG_TT_CTL p ≠ HLT_TIDE_STATUS := by
  rw [TMG_TT_CTL, HLT_TIDE_STATUS]
  omega

theorem TidePort.kept_by {now : Nat} (h : TidePort s u now p) (htide : t.tideOf p = u.tideOf p) (hrd : t.rd (TMG_TT_CTL p) = u.rd (TMG_TT_CTL p)) : TidePort s t now p :=
  ⟨fun h' => htide.trans (h.closed h'), fun c h' h'' => htide.trans (h.kept c h' h''), fun c n h' h'' h3 => by
    obtain ⟨h4, h5, h6⟩ := h.due c n h' h'' h3
    exact ⟨htide.trans h4, (congrArg TMG_TT_CTL_pending.get hrd).trans h5, (congrArg TMG_TT_CTL_list.get hrd).trans h6⟩⟩

theorem State.tideStep_spec (s : State) (d : Int) : TideStepped s (s.tideStep d) (BitVec.ofInt 64 ((s.tide.toNat : Int) + d)) := by
  rw [State.tideStep_eq]
  generalize BitVec.ofInt 64 ((s.tide.toNat : Int) + d) = now
  obtain ⟨hports, ⟨-, hrd, he⟩, hbufs⟩ := foldl_tideStepPort now.toNat (List.range 28) List.nodup_range (fun p hp => List.mem_range.1 hp) s
  generalize (List.range 28).foldl (fun u p => u.tideStepPort now.toNat p) s = x at hports hrd he hbufs ⊢
  have hyregs : (x.tideSet now).regs = x.regs := rfl
  have hyflt : (x.tideSet now).flt = x.flt := rfl
  have hytm : (x.tideSet now).tm = x.tm := rfl
  have hyrun : (x.tideSet now).running = x.running := rfl
  have hye : x.tideSet now = { x with tide := now, csg := { x.csg with suspended := true } } := rfl
  generalize x.tideSet now = y at hyregs hyflt hytm hyrun hye ⊢
  have hw := y.wroteRegs_setFld (l := [HLT_TIDE_STATUS]) HLT_TIDE_STATUS_step_done 1 (List.mem_singleton_self _)
  have hdone := State.fld_setFld_same (f := HLT_TIDE_STATUS_step_done) y HLT_TIDE_STATUS 1 (by decide) (by decide)
  generalize y.setFld HLT_TIDE_STATUS HLT_TIDE_STATUS_step_done 1 = z at hw hdone ⊢
  have hzflt : z.flt = x.flt := (by rw [hw.2] : z.flt = y.flt).trans hyflt
  have hztm : z.tm = x.tm := (by rw [hw.2] : z.tm = y.tm).trans hytm
  have hzrun : z.running = s.running := hw.wroteEvents.hltFrame.running.trans (hyrun.trans (by rw [he]; rfl))
  have hframe := z.raise_frame 0x0201 0 noInst 0 (by decide)
  have hposts := z.posts_raise 0x0201 0 noInst 0
  have hother := fun b h3 h2 => z.postBuf_raise_ne (b := b) (c := 0x0201) (k := 0) noInst 0 h2 h3
  obtain ⟨honly, hreg⟩ := z.wroteEvents_raise (l := []) (c := 0x0201) (k := 0) noInst 0 (by decide) (by decide) rfl
  generalize z.raise 0x0201 0 = t at hposts hother honly hreg ⊢
  have hzbuf : ∀ b, b ≠ 5 → b ≠ 3 → z.postBuf b = s.postBuf b := fun b h5 h3 => (congrArg (tget [] · b) (congrArg FltState.post hzflt)).trans (hbufs b h5 h3)
  have htm : t.tm = x.tm := (by rw [hreg] : t.tm = z.tm).trans hztm
  have htx : ∀ a, a ≠ HLT_TIDE_STATUS → (a < FLT_SRC_LOST 1 ∨ FLT_SRC_LOST 16 < a) → t.rd a = x.rd a := fun a ha hl =>
    (honly a List.not_mem_nil hl).trans ((hw.1 a (fun h => ha (List.mem_singleton.1 h))).trans (State.rd_congr hyregs a))
  refine ⟨?_, fun p hp => (hports p (List.mem_range.2 hp)).kept_by (State.tideOf_of_tm htm p) (htx _ (TMG_TT_CTL_ne_status p) (TMG_TT_CTL_not_lost hp)),
    (congrArg HLT_TIDE_STATUS_step_done.get (honly _ List.not_mem_nil (by decide))).trans hdone,
    State.posts_of_postBuf hzrun (hzbuf 2 (by decide) (by decide)) hposts, fun b h2 h3 h5 => (hother b h3 (Ne.symm h2)).trans (hzbuf b h5 h3), fun a ha hl => ?_, ?_⟩
  · rw [hreg, hw.2, hye]
  · rw [List.mem_cons, not_or] at ha
    exact (htx a ha.1 hl).trans (hrd a ha.2 hl)
  · rw [htm, hreg, hw.2, hye, he]

/-! The rate (R36) -/

theorem State.clampTo_spec (s : State) (r : Int) :
    let t := State.rateWrite.clampTo s r
    s.regFrame t ∧ t.rd HLT_TIDE_RATE = BitVec.ofInt 32 r ∧ s.posts t 0x0203 1 noInst ∧ t.fld HLT_TIDE_STATUS HLT_TIDE_STATUS_rate_clamped = 1 ∧
      s.onlyRegs t [HLT_TIDE_RATE, HLT_TIDE_STATUS] := by
  rw [State.rateWrite.clampTo]
  have hw := s.wroteRegs_wr (l := [HLT_TIDE_RATE, HLT_TIDE_STATUS]) (a := HLT_TIDE_RATE) (BitVec.ofInt 32 r) List.mem_cons_self
  have hrate : (s.wr HLT_TIDE_RATE (BitVec.ofInt 32 r)).rd HLT_TIDE_RATE = BitVec.ofInt 32 r := State.rd_wr_same _ _ _
  generalize s.wr HLT_TIDE_RATE (BitVec.ofInt 32 r) = x at hw hrate ⊢
  have hw2 := x.wroteRegs_setFld (l := [HLT_TIDE_RATE, HLT_TIDE_STATUS]) (a := HLT_TIDE_STATUS) HLT_TIDE_STATUS_rate_clamped 1 (by decide)
  have hone := State.fld_setFld_same (f := HLT_TIDE_STATUS_rate_clamped) x HLT_TIDE_STATUS 1 (by decide) (by decide)
  have hrd : (x.setFld HLT_TIDE_STATUS HLT_TIDE_STATUS_rate_clamped 1).rd HLT_TIDE_RATE = x.rd HLT_TIDE_RATE := (x.rd_setFld _ _ _ _).trans (if_neg (by decide))
  generalize x.setFld HLT_TIDE_STATUS HLT_TIDE_STATUS_rate_clamped 1 = y at hw2 hone hrd ⊢
  have hwy := hw.trans hw2
  obtain ⟨honly, hreg⟩ := y.wroteEvents_raise (l := []) (c := 0x0203) (k := 1) noInst 0 (by decide) (by decide) rfl
  have hposts := State.posts_congr hwy.wroteEvents.hltFrame.running (by rw [hwy.2]) (y.posts_raise 0x0203 1 noInst 0)
  generalize y.raise 0x0203 1 = t at honly hreg hposts ⊢
  have hty : ∀ a, (a < FLT_SRC_LOST 1 ∨ FLT_SRC_LOST 16 < a) → t.rd a = y.rd a := fun a hl => honly a List.not_mem_nil hl
  refine ⟨?_, (hty _ (by decide)).trans (hrd.trans hrate), hposts, (congrArg HLT_TIDE_STATUS_rate_clamped.get (hty _ (by decide))).trans hone,
    fun a ha hl => (hty a hl).trans (hwy.1 a ha)⟩
  rw [State.regFrame] at hreg ⊢
  rw [hreg, hwy.2]

theorem State.rateWrite_of_within (s : State) {v : Word} (h1 : -549755814 ≤ signed 32 v.toNat) (h2 : signed 32 v.toNat ≤ 549755814) : s.rateWrite v = s.wr HLT_TIDE_RATE v := by
  simp only [State.rateWrite, if_neg (Int.not_lt.2 h2), if_neg (Int.not_lt.2 h1)]

theorem State.rateWrite_of_above (s : State) {v : Word} (h : 549755814 < signed 32 v.toNat) : s.rateWrite v = State.rateWrite.clampTo s 549755814 := if_pos h

theorem State.rateWrite_of_below (s : State) {v : Word} (h : signed 32 v.toNat < -549755814) : s.rateWrite v = State.rateWrite.clampTo s (-549755814) :=
  (if_neg (by omega)).trans (if_pos h)

theorem gives_tideRate (hw : s.writable m HLT_TIDE_RATE) (v : Word) :
    Gives (.hltTideRateWrite m v) s (fun t => t = { s.seen m with regs := t.regs, flt := t.flt } ∧
      (-549755814 ≤ signed 32 v.toNat → signed 32 v.toNat ≤ 549755814 → t.rd HLT_TIDE_RATE = v ∧ s.onlyRegs t [HLT_TIDE_RATE] ∧ t.flt = s.flt) ∧
      (549755814 < signed 32 v.toNat → t.rd HLT_TIDE_RATE = BitVec.ofInt 32 549755814) ∧
      (signed 32 v.toNat < -549755814 → t.rd HLT_TIDE_RATE = BitVec.ofInt 32 (-549755814)) ∧
      (549755814 < signed 32 v.toNat ∨ signed 32 v.toNat < -549755814 → s.posts t 0x0203 1 noInst ∧
        t.fld HLT_TIDE_STATUS HLT_TIDE_STATUS_rate_clamped = 1 ∧ s.onlyRegs t [HLT_TIDE_RATE, HLT_TIDE_STATUS])) := by
  have hgo : s.regCommand m HLT_TIDE_RATE v = (s.seen m).rateWrite v := by
    rw [show HLT_TIDE_RATE = 0x20010000 + 0x8 from rfl, State.regCommand_hlt (by decide) hw]
    rfl
  refine ⟨(s.seen m).rateWrite v, congrArg Host.Outcome.next hgo, ?_⟩
  rcases Int.lt_or_le 549755814 (signed 32 v.toNat) with hhi | hhi
  · rw [State.rateWrite_of_above _ hhi]
    obtain ⟨hframe, hrate, hposts, hone, honly⟩ := (s.seen m).clampTo_spec 549755814
    exact ⟨hframe, fun _ h => absurd h (by omega), fun _ => hrate, fun h => absurd h (by omega),
      fun _ => ⟨State.posts_congr (s.seen_running m) (s.seen_flt m) hposts, hone, State.onlyRegs_seen honly⟩⟩
  · rcases Int.lt_or_le (signed 32 v.toNat) (-549755814) with hlo | hlo
    · rw [State.rateWrite_of_below _ hlo]
      obtain ⟨hframe, hrate, hposts, hone, honly⟩ := (s.seen m).clampTo_spec (-549755814)
      exact ⟨hframe, fun h => absurd h (by omega), fun h => absurd h (by omega), fun _ => hrate,
        fun _ => ⟨State.posts_congr (s.seen_running m) (s.seen_flt m) hposts, hone, State.onlyRegs_seen honly⟩⟩
    · rw [State.rateWrite_of_within _ hlo hhi]
      have hwr := (s.seen m).wroteRegs_wr (l := [HLT_TIDE_RATE]) (a := HLT_TIDE_RATE) v List.mem_cons_self
      have hrate : ((s.seen m).wr HLT_TIDE_RATE v).rd HLT_TIDE_RATE = v := State.rd_wr_same _ _ _
      generalize (s.seen m).wr HLT_TIDE_RATE v = t at hwr hrate ⊢
      obtain ⟨honly, hframe⟩ := hwr.wroteEvents
      exact ⟨hframe, fun _ _ => ⟨hrate, State.onlyRegs_seen honly, (by rw [hwr.2] : t.flt = (s.seen m).flt).trans (s.seen_flt m)⟩,
        fun h => absurd h (by omega), fun h => absurd h (by omega), fun h => absurd h (by omega)⟩

/-! The written step (R38) -/

theorem ofInt_signed (n : Nat) : BitVec.ofInt 64 (signed 64 n) = BitVec.ofNat 64 n := by
  have h : signed 64 n = (BitVec.ofNat 64 n).toInt := by
    rw [signed, BitVec.toInt_eq_toNat_cond, BitVec.toNat_ofNat]
    have hm := Nat.mod_lt n (show 0 < 2 ^ 64 by decide)
    generalize n % 2 ^ 64 = k at hm ⊢
    rw [show (2 : Nat) ^ 64 = 18446744073709551616 from rfl, show (2 : Nat) ^ (64 - 1) = 9223372036854775808 from rfl] at *
    split <;> split <;> omega
  rw [h, BitVec.ofInt_toInt]

/-- The new value is the clock's with the staged words added. -/
theorem State.stepped_tide (s : State) : BitVec.ofInt 64 ((s.tide.toNat : Int) + s.stepValue) = s.tide + (s.rd HLT_TIDE_STEP_HI ++ s.rd HLT_TIDE_STEP_LO) := by
  have happend : BitVec.ofNat 64 (s.rd64 HLT_TIDE_STEP_LO HLT_TIDE_STEP_HI) = s.rd HLT_TIDE_STEP_HI ++ s.rd HLT_TIDE_STEP_LO := by
    apply BitVec.eq_of_toNat_eq
    rw [BitVec.toNat_append, BitVec.toNat_ofNat, State.rd64]
    have h1 := (s.rd HLT_TIDE_STEP_LO).isLt
    have h2 := (s.rd HLT_TIDE_STEP_HI).isLt
    rw [← Nat.shiftLeft_add_eq_or_of_lt h1, Nat.shiftLeft_eq, Nat.add_comm]
    exact Nat.mod_eq_of_lt (by omega)
  rw [BitVec.ofInt_add, State.stepValue, ofInt_signed, happend, BitVec.ofInt_natCast, BitVec.ofNat_toNat, BitVec.setWidth_eq]

theorem gives_stepGo (hw : s.writable m HLT_TIDE_CTL) (v : Word) {now : DWord} (hnow : s.tide + (s.rd HLT_TIDE_STEP_HI ++ s.rd HLT_TIDE_STEP_LO) = now) :
    Gives (.stepGo m v) s (fun t => t.tide = now ∧ t.fld HLT_TIDE_STATUS HLT_TIDE_STATUS_step_done = 1 ∧
      t.fld HLT_TIDE_CTL HLT_TIDE_CTL_holdover = HLT_TIDE_CTL_holdover.get v ∧ s.posts t 0x0201 0 noInst ∧
      (∀ p < 28, TidePort s t now.toNat p) ∧
      s.onlyRegs t (HLT_TIDE_CTL :: HLT_TIDE_STATUS :: (List.range 28).map TMG_TT_CTL) ∧
      t = { s.seen m with regs := t.regs, flt := t.flt, tide := now, tm := { s.tm with scheds := t.tm.scheds }, csg := { s.csg with suspended := true } }) := by
  have hbit : (v ||| 1).toNat.testBit 0 = true := testBit_or_set v 1 (by decide) (by decide)
  have hgo : s.regCommand m HLT_TIDE_CTL (v ||| 1) = ((s.seen m).wrPlain HLT_TIDE_CTL (v ||| 1)).tideStep ((s.seen m).wrPlain HLT_TIDE_CTL (v ||| 1)).stepValue := by
    rw [show HLT_TIDE_CTL = 0x20010000 + 0x18 from rfl, State.regCommand_hlt (by decide) hw]
    exact if_pos hbit
  obtain ⟨d, hd, hf⟩ : ∃ d, regAt HLT_TIDE_CTL = some d ∧ d.fields = [.rw 1 1] := ⟨_, rfl, rfl⟩
  have hword := State.rd_wrPlain_of hd (s.seen m) (v ||| 1)
  have hwrote := State.wroteRegs_wrPlain (s.seen m) (v ||| 1) (List.mem_singleton_self HLT_TIDE_CTL)
  have hhold : HLT_TIDE_CTL_holdover.get (d.write ((s.seen m).rd HLT_TIDE_CTL) (v ||| 1)) = HLT_TIDE_CTL_holdover.get v := by
    simp (disch := decide) only [RegDesc.write, hf, List.foldl, FAcc.write, HLT_TIDE_CTL_holdover, Fld.get_put, Fld.get_mod, Fld.get_or]
  rw [← hword] at hhold
  generalize (s.seen m).wrPlain HLT_TIDE_CTL (v ||| 1) = x at hgo hwrote hhold
  have hxrd : ∀ a, a ≠ HLT_TIDE_CTL → x.rd a = s.rd a := fun a ha => (hwrote.1 a (fun h => ha (List.mem_singleton.1 h))).trans (State.rd_congr (s.seen_regs m) a)
  have hxtide : x.tide = s.tide := (by rw [hwrote.2] : x.tide = (s.seen m).tide).trans (s.seen_tide m)
  have hxtm : x.tm = s.tm := (by rw [hwrote.2] : x.tm = (s.seen m).tm).trans (s.seen_tm m)
  have hxflt : x.flt = s.flt := (by rw [hwrote.2] : x.flt = (s.seen m).flt).trans (s.seen_flt m)
  have hxrun : x.running = s.running := hwrote.wroteEvents.hltFrame.running.trans (s.seen_running m)
  have hxcsg : x.csg = s.csg := (by rw [hwrote.2] : x.csg = (s.seen m).csg).trans (s.seen_csg m)
  have hval := x.stepped_tide
  rw [hxtide, hxrd _ (by decide), hxrd _ (by decide), hnow] at hval
  have h := x.tideStep_spec x.stepValue
  rw [hxtide, hval] at h
  generalize x.tideStep x.stepValue = t at hgo h
  refine ⟨t, congrArg Host.Outcome.next hgo, h.tide, h.done, (congrArg HLT_TIDE_CTL_holdover.get (h.regs _ (by decide) (by decide))).trans hhold,
    State.posts_congr hxrun hxflt h.posts, fun p hp => (h.ports p hp).congr (State.tideOf_of_tm hxtm p) hxtide (by rw [hxtm]), fun a ha hl => ?_, ?_⟩
  · rw [List.mem_cons, not_or] at ha
    exact (h.regs a ha.2 hl).trans (hxrd a ha.1)
  · rw [h.frame, hxtm, hxcsg, hwrote.2]

/-! A scrub pass that is overdue (R420) -/

/-- Events outside a block, and the scrub's state, may have changed. -/
structure ScrubFrame (s t : State) : Prop where
  regs : s.onlyRegs t []
  frame : t = { s with regs := t.regs, flt := t.flt, mram := t.mram }
  bufs : ∀ b, b ≠ 15 → b ≠ 3 → t.postBuf b = s.postBuf b

theorem ScrubFrame.refl (s : State) : ScrubFrame s s := ⟨State.onlyRegs.refl s _, rfl, fun _ _ _ => rfl⟩

theorem State.scrubBegin_spec (s : State) : ScrubFrame s s.scrubBegin ∧ s.scrubBegin.mram.scrubActive = true ∧ s.scrubBegin.flt = s.flt := by
  by_cases h : s.mram.scrubActive = true
  · have heq : s.scrubBegin = s := if_pos h
    rw [heq]
    exact ⟨ScrubFrame.refl s, h, rfl⟩
  · have heq : s.scrubBegin = s.setMram { s.mram with
        scrubActive := true, scrubDue := true, scrubPos := 0, scrubStart := if s.dev.synced then .gptp s.dev.gptpTime else .unsynced s.elapsed } := if_neg h
    rw [heq]
    exact ⟨⟨State.onlyRegs.refl _ _, rfl, fun _ _ _ => rfl⟩, rfl, rfl⟩

theorem State.scrubOverdue_spec (s : State) (was : Bool) : ScrubFrame s (s.scrubOverdue was) ∧
    ∀ age, s.passAge = some age → fiveYears < age →
      (s.scrubOverdue was).mram.scrubActive = true ∧ (was = false → s.tells (s.scrubOverdue was) 1 0x0F09 3 noInst) := by
  by_cases h : (!was) = true ∧ s.passAge.any (fun n => decide (fiveYears < n)) = true
  · have heq : s.scrubOverdue was = (s.raise 0x0F09 3).scrubBegin := if_pos h
    obtain ⟨honly, hreg⟩ := s.wroteEvents_raise (l := []) (c := 0x0F09) (k := 3) noInst 0 (by decide) (by decide) rfl
    have hother := fun b hb h3 => s.postBuf_raise_ne (b := b) (c := 0x0F09) (k := 3) noInst 0 hb h3
    have hlog := s.logs_raise (c := 0x0F09) (k := 3) noInst 0
    rw [heq]
    generalize s.raise 0x0F09 3 = x at honly hreg hother hlog ⊢
    obtain ⟨⟨honly', hframe', hother'⟩, hactive, hflt⟩ := x.scrubBegin_spec
    generalize x.scrubBegin = t at honly' hframe' hother' hactive hflt ⊢
    have hrun : x.running = s.running := by rw [hreg]; rfl
    refine ⟨⟨fun a ha hl => (honly' a ha hl).trans (honly a ha hl), ?_, fun b h15 h3 => (hother' b h15 h3).trans (hother b (Ne.symm h15) h3)⟩,
      fun _ _ _ => ⟨hactive, fun _ => ?_⟩⟩
    · rw [State.regFrame] at hreg
      rw [hframe', hreg]
    · exact (hlog.then_none hrun (State.logs_of_flt hflt)).tells (List.mem_singleton_self _) (Nat.le_refl 1) rfl
  · have heq : s.scrubOverdue was = if s.scrubOld then s.scrubBegin else s := if_neg h
    have hold : ∀ age, s.passAge = some age → fiveYears < age → s.scrubOld = true ∧ ¬ was = false := fun age hage hlt => by
      refine ⟨?_, fun hwas => h ⟨by rw [hwas]; rfl, ?_⟩⟩
      · rw [State.scrubOld, hage]
        exact decide_eq_true (Nat.le_of_lt hlt)
      · rw [hage]
        exact decide_eq_true hlt
    rw [heq]
    by_cases ho : s.scrubOld = true
    · rw [if_pos ho]
      exact ⟨s.scrubBegin_spec.1, fun age hage hlt => ⟨s.scrubBegin_spec.2.1, fun hwas => absurd hwas (hold age hage hlt).2⟩⟩
    · rw [if_neg ho]
      exact ⟨ScrubFrame.refl s, fun age hage hlt => absurd (hold age hage hlt).1 ho⟩

/-! A received Sync (R37, R147) -/

/-- The clock is synchronised: the time, no holdover and a valid time are noted. -/
def State.syncNoted (s : State) (time : Nat) : State :=
  (({ s with dev := { s.dev with synced := true, gptpTime := time } }).setFld HLT_TIDE_CTL HLT_TIDE_CTL_holdover 0).setFld CSG_CTL CSG_CTL_time_valid 1

structure SyncNoted (s t : State) (time : Nat) : Prop where
  hold : t.fld HLT_TIDE_CTL HLT_TIDE_CTL_holdover = 0
  valid : t.fld CSG_CTL CSG_CTL_time_valid = 1
  rd : ∀ a, a ∉ [HLT_TIDE_CTL, CSG_CTL] → t.rd a = s.rd a
  frame : t = { s with regs := t.regs, dev := { s.dev with synced := true, gptpTime := time } }

theorem State.syncNoted_spec (s : State) (time : Nat) : SyncNoted s (s.syncNoted time) time := by
  have hxregs : ({ s with dev := { s.dev with synced := true, gptpTime := time } } : State).regs = s.regs := rfl
  obtain ⟨x, hx⟩ : ∃ x : State, ({ s with dev := { s.dev with synced := true, gptpTime := time } } : State) = x := ⟨_, rfl⟩
  rw [State.syncNoted, hx]
  rw [hx] at hxregs
  have hw1 := x.wroteRegs_setFld (l := [HLT_TIDE_CTL, CSG_CTL]) (a := HLT_TIDE_CTL) HLT_TIDE_CTL_holdover 0 (by decide)
  have hhold := State.fld_setFld_same (f := HLT_TIDE_CTL_holdover) x HLT_TIDE_CTL 0 (by decide) (by decide)
  generalize x.setFld HLT_TIDE_CTL HLT_TIDE_CTL_holdover 0 = y at hw1 hhold ⊢
  have hw2 := y.wroteRegs_setFld (l := [HLT_TIDE_CTL, CSG_CTL]) (a := CSG_CTL) CSG_CTL_time_valid 1 (by decide)
  have hvalid := State.fld_setFld_same (f := CSG_CTL_time_valid) y CSG_CTL 1 (by decide) (by decide)
  have hkept : (y.setFld CSG_CTL CSG_CTL_time_valid 1).rd HLT_TIDE_CTL = y.rd HLT_TIDE_CTL := (y.rd_setFld _ _ _ _).trans (if_neg (by decide))
  generalize y.setFld CSG_CTL CSG_CTL_time_valid 1 = t at hw2 hvalid hkept ⊢
  have hw := hw1.trans hw2
  exact ⟨(congrArg HLT_TIDE_CTL_holdover.get hkept).trans hhold, hvalid, fun a ha => (hw.1 a ha).trans (State.rd_congr hxregs a), by rw [hw.2, ← hx]⟩

theorem State.gptpSync_of_far (hrun : s.running = true) (hport : s.slavePort.isSome = true) {offset : Int} (h : 1000 < offset ∨ offset < -1000) (time : Nat) :
    s.gptpSync offset time = ((s.syncNoted time).wr64 HLT_TIDE_STEP_LO HLT_TIDE_STEP_HI (BitVec.ofInt 64 (-offset)).toNat).tideStep (-offset) :=
  (if_neg (by simp [hrun, Option.isSome_iff_ne_none.1 hport])).trans (if_pos h)

theorem State.gptpSync_of_equal (hrun : s.running = true) (hport : s.slavePort.isSome = true) (time : Nat) : s.gptpSync 0 time = s.syncNoted time :=
  (if_neg (by simp [hrun, Option.isSome_iff_ne_none.1 hport])).trans rfl

/-- The rate that the servo sets is a free value. -/
def servoWord (k : Nat) : Word := BitVec.ofInt 32 ((Config.servoRate k).toNat % 1099511629 - 549755814)

theorem State.gptpSync_of_near (hrun : s.running = true) (hport : s.slavePort.isSome = true) {offset : Int} (h0 : offset ≠ 0) (h1 : -1000 ≤ offset) (h2 : offset ≤ 1000)
    (time : Nat) : s.gptpSync offset time = (s.syncNoted time).freeIx.2.rateWrite (servoWord s.free) :=
  (if_neg (by simp [hrun, Option.isSome_iff_ne_none.1 hport])).trans ((if_neg (by omega)).trans (if_neg h0))

theorem signed_ofInt {i : Int} (h1 : -549755814 ≤ i) (h2 : i ≤ 549755814) : signed 32 (BitVec.ofInt 32 i).toNat = i := by
  rw [signed, BitVec.toNat_ofInt]
  rw [show (2 : Nat) ^ 32 = 4294967296 from rfl, show (2 : Nat) ^ (32 - 1) = 2147483648 from rfl]
  split <;> omega

theorem servoWord_within (k : Nat) : -549755814 ≤ signed 32 (servoWord k).toNat ∧ signed 32 (servoWord k).toNat ≤ 549755814 := by
  have hm := Nat.mod_lt (Config.servoRate k).toNat (show 0 < 1099511629 by decide)
  rw [servoWord, signed_ofInt (by omega) (by omega)]
  omega

/-- What a Sync leaves, before an overdue scrub pass begins. -/
structure SyncDone (s t : State) (offset : Int) (time : Nat) : Prop where
  hold : t.fld HLT_TIDE_CTL HLT_TIDE_CTL_holdover = 0
  valid : t.fld CSG_CTL CSG_CTL_time_valid = 1
  frame : t = { s with
    dev := { s.dev with synced := true, gptpTime := time }, regs := t.regs, flt := t.flt, free := t.free, tide := t.tide, tm := t.tm, csg := t.csg }
  buf : t.postBuf 15 = s.postBuf 15
  far : 1000 < offset ∨ offset < -1000 → t.tide = s.tide + BitVec.ofInt 64 (-offset) ∧ t.csg.suspended = true ∧
    t.fld HLT_TIDE_STATUS HLT_TIDE_STATUS_step_done = 1 ∧ s.posts t 0x0201 0 noInst ∧ t.rd HLT_TIDE_RATE = s.rd HLT_TIDE_RATE
  near : -1000 ≤ offset → offset ≤ 1000 → t.tide = s.tide ∧ t.tm = s.tm ∧ t.csg = s.csg ∧ s.onlyRegs t [HLT_TIDE_CTL, HLT_TIDE_RATE, CSG_CTL] ∧
    (offset = 0 → t.rd HLT_TIDE_RATE = s.rd HLT_TIDE_RATE) ∧
    (offset ≠ 0 → -549755814 ≤ signed 32 (t.rd HLT_TIDE_RATE).toNat ∧ signed 32 (t.rd HLT_TIDE_RATE).toNat ≤ 549755814)

theorem SyncNoted.running {time : Nat} (h : SyncNoted s t time) : t.running = s.running := by
  rw [h.frame]
  rfl

theorem SyncNoted.far {time : Nat} (h : SyncNoted s t time) {offset : Int} (hoff : 1000 < offset ∨ offset < -1000) (d : Nat) :
    SyncDone s ((t.wr64 HLT_TIDE_STEP_LO HLT_TIDE_STEP_HI d).tideStep (-offset)) offset time := by
  have hw1 := t.wroteRegs_wr (l := [HLT_TIDE_STEP_LO, HLT_TIDE_STEP_HI]) (a := HLT_TIDE_STEP_LO) (BitVec.ofNat 32 d) (by decide)
  have hw2 := (t.wr HLT_TIDE_STEP_LO (BitVec.ofNat 32 d)).wroteRegs_wr (l := [HLT_TIDE_STEP_LO, HLT_TIDE_STEP_HI]) (a := HLT_TIDE_STEP_HI) (BitVec.ofNat 32 (d / 2 ^ 32)) (by decide)
  have hw := hw1.trans hw2
  change t.wroteRegs (t.wr64 HLT_TIDE_STEP_LO HLT_TIDE_STEP_HI d) _ at hw
  generalize t.wr64 HLT_TIDE_STEP_LO HLT_TIDE_STEP_HI d = x at hw ⊢
  have hstep := x.tideStep_spec (-offset)
  generalize x.tideStep (-offset) = u at hstep ⊢
  have hframe : x = { s with regs := x.regs, dev := { s.dev with synced := true, gptpTime := time } } := by rw [hw.2, h.frame]
  have hxtide : x.tide = s.tide := by rw [hframe]
  have hxflt : x.flt = s.flt := by rw [hframe]
  have hxrun : x.running = s.running := hw.wroteEvents.hltFrame.running.trans h.running
  have hrd : ∀ a, a ∉ HLT_TIDE_STATUS :: (List.range 28).map TMG_TT_CTL → (a < FLT_SRC_LOST 1 ∨ FLT_SRC_LOST 16 < a) → a ∉ [HLT_TIDE_STEP_LO, HLT_TIDE_STEP_HI] → u.rd a = t.rd a :=
    fun a ha hl hx => (hstep.regs a ha hl).trans (hw.1 a hx)
  refine ⟨(congrArg HLT_TIDE_CTL_holdover.get (hrd _ (by decide) (by decide) (by decide))).trans h.hold,
    (congrArg CSG_CTL_time_valid.get (hrd _ (by decide) (by decide) (by decide))).trans h.valid, ?_,
    (hstep.bufs 15 (by decide) (by decide) (by decide)).trans (by rw [State.postBuf, hxflt]), fun _ => ⟨?_, ?_, hstep.done, State.posts_congr hxrun hxflt hstep.posts,
    (hrd _ (by decide) (by decide) (by decide)).trans (h.rd _ (by decide))⟩, fun h1 h2 => absurd hoff (by omega)⟩
  · have htide := hstep.tide
    generalize BitVec.ofInt 64 ((x.tide.toNat : Int) + -offset) = now at hstep htide
    subst htide
    rw [hstep.frame, hframe]
  · rw [hstep.tide, hxtide, BitVec.ofInt_add, BitVec.ofInt_natCast, BitVec.ofNat_toNat, BitVec.setWidth_eq]
  · have h4 := congrArg (fun z : State => z.csg.suspended) hstep.frame
    exact h4

theorem SyncNoted.equal {time : Nat} (h : SyncNoted s t time) : SyncDone s t 0 time :=
  ⟨h.hold, h.valid, by rw [h.frame], by rw [h.frame], fun h => absurd h (by decide), fun _ _ => ⟨by rw [h.frame], by rw [h.frame], by rw [h.frame],
    fun a ha _ => h.rd a (fun h' => ha (by
      rcases List.mem_cons.1 h' with rfl | h'
      · exact List.mem_cons_self
      · exact List.mem_cons_of_mem _ (List.mem_cons_of_mem _ h'))), fun _ => h.rd _ (by decide), fun h => absurd rfl h⟩⟩

theorem SyncNoted.near {time : Nat} (h : SyncNoted s t time) {offset : Int} (h0 : offset ≠ 0) (h1 : -1000 ≤ offset) (h2 : offset ≤ 1000) {w : Word}
    (hw1 : -549755814 ≤ signed 32 w.toNat) (hw2 : signed 32 w.toNat ≤ 549755814) : SyncDone s (t.freeIx.2.rateWrite w) offset time := by
  have hfree : t.freeIx.2 = { t with free := t.free + 1 } := rfl
  have hregs : t.freeIx.2.regs = t.regs := rfl
  rw [State.rateWrite_of_within _ hw1 hw2]
  generalize t.freeIx.2 = x at hfree hregs ⊢
  have hw := x.wroteRegs_wr (l := [HLT_TIDE_RATE]) (a := HLT_TIDE_RATE) w List.mem_cons_self
  have hrate : (x.wr HLT_TIDE_RATE w).rd HLT_TIDE_RATE = w := State.rd_wr_same _ _ _
  generalize x.wr HLT_TIDE_RATE w = u at hw hrate ⊢
  have hframe : u = { s with regs := u.regs, free := u.free, dev := { s.dev with synced := true, gptpTime := time } } := by rw [hw.2, hfree, h.frame]
  have hrd : ∀ a, a ≠ HLT_TIDE_RATE → u.rd a = t.rd a := fun a ha => (hw.1 a (fun h' => ha (List.mem_singleton.1 h'))).trans (State.rd_congr hregs a)
  refine ⟨(congrArg HLT_TIDE_CTL_holdover.get (hrd _ (by decide))).trans h.hold, (congrArg CSG_CTL_time_valid.get (hrd _ (by decide))).trans h.valid,
    by rw [hframe], by rw [hframe], fun h' => absurd h' (by omega), fun _ _ => ⟨by rw [hframe], by rw [hframe], by rw [hframe], fun a ha _ => ?_,
    fun h' => absurd h' h0, fun _ => by rw [hrate]; exact ⟨hw1, hw2⟩⟩⟩
  simp only [List.mem_cons, List.not_mem_nil, or_false, not_or] at ha
  obtain ⟨ha1, ha2, ha3⟩ := ha
  refine (hrd a ha2).trans (h.rd a ?_)
  simp only [List.mem_cons, List.not_mem_nil, or_false, not_or]
  exact ⟨ha1, ha3⟩

theorem State.gptpSync_spec (hrun : s.running = true) (hport : s.slavePort.isSome = true) (offset : Int) (time : Nat) : SyncDone s (s.gptpSync offset time) offset time := by
  have h := s.syncNoted_spec time
  by_cases hfar : 1000 < offset ∨ offset < -1000
  · rw [State.gptpSync_of_far hrun hport hfar]
    exact h.far hfar _
  · by_cases h0 : offset = 0
    · subst h0
      rw [State.gptpSync_of_equal hrun hport]
      exact h.equal
    · rw [State.gptpSync_of_near hrun hport h0 (by omega) (by omega)]
      exact h.near h0 (by omega) (by omega) (servoWord_within _).1 (servoWord_within _).2

theorem gives_gptpSync (hrun : s.running = true) (hport : s.slavePort.isSome = true) (offset : Int) (time : Nat) :
    Gives (.gptpSync offset time) s (fun t => t.dev = { s.dev with synced := true, gptpTime := time } ∧
      t.fld HLT_TIDE_CTL HLT_TIDE_CTL_holdover = 0 ∧ t.fld CSG_CTL CSG_CTL_time_valid = 1 ∧ t.elapsed = s.elapsed ∧ t.mem = s.mem ∧ t.otp = s.otp ∧ t.wrd = s.wrd ∧ t.bank = s.bank ∧
      (1000 < offset ∨ offset < -1000 → t.tide = s.tide + BitVec.ofInt 64 (-offset) ∧ t.csg.suspended = true ∧
        t.fld HLT_TIDE_STATUS HLT_TIDE_STATUS_step_done = 1 ∧ s.tells t 1 0x0201 0 noInst ∧ t.rd HLT_TIDE_RATE = s.rd HLT_TIDE_RATE) ∧
      (-1000 ≤ offset → offset ≤ 1000 → t.tide = s.tide ∧ t.tm = s.tm ∧ t.csg = s.csg ∧ s.onlyRegs t [HLT_TIDE_CTL, HLT_TIDE_RATE, CSG_CTL] ∧
        (offset = 0 → t.rd HLT_TIDE_RATE = s.rd HLT_TIDE_RATE) ∧
        (offset ≠ 0 → -549755814 ≤ signed 32 (t.rd HLT_TIDE_RATE).toNat ∧ signed 32 (t.rd HLT_TIDE_RATE).toNat ≤ 549755814)) ∧
      (∀ age : Nat, ({ s with dev := t.dev } : State).passAge = some age → fiveYears < age →
        t.mram.scrubActive = true ∧ (s.dev.gptpTime = 0 → s.tells t 1 0x0F09 3 noInst))) := by
  have h := State.gptpSync_spec hrun hport offset time
  have hgo : exec (.gptpSync offset time) s = .next ((s.gptpSync offset time).scrubOverdue (decide (s.dev.gptpTime ≠ 0))) :=
    congrArg Host.Outcome.next (if_pos ⟨hrun, hport⟩)
  generalize s.gptpSync offset time = u at h hgo
  obtain ⟨hscrub, hpass⟩ := u.scrubOverdue_spec (decide (s.dev.gptpTime ≠ 0))
  generalize u.scrubOverdue (decide (s.dev.gptpTime ≠ 0)) = t at hscrub hpass hgo
  have hrd : ∀ a, (a < FLT_SRC_LOST 1 ∨ FLT_SRC_LOST 16 < a) → t.rd a = u.rd a := fun a hl => hscrub.regs a List.not_mem_nil hl
  have hdev : t.dev = { s.dev with synced := true, gptpTime := time } := by rw [hscrub.frame, h.frame]
  have hage : ({ s with dev := t.dev } : State).passAge = u.passAge := by
    rw [hdev, h.frame]
    rfl
  have hurun : u.running = s.running := by
    rw [h.frame]
    rfl
  refine ⟨t, hgo, hdev, (congrArg HLT_TIDE_CTL_holdover.get (hrd _ (by decide))).trans h.hold, (congrArg CSG_CTL_time_valid.get (hrd _ (by decide))).trans h.valid,
    by rw [hscrub.frame, h.frame], by rw [hscrub.frame, h.frame], by rw [hscrub.frame, h.frame], by rw [hscrub.frame, h.frame], by rw [hscrub.frame, h.frame],
    fun hfar => ?_, fun h1 h2 => ?_, fun age ha hlt => ?_⟩
  · obtain ⟨htide, hsusp, hdone, hposts, hrate⟩ := h.far hfar
    refine ⟨(by rw [hscrub.frame] : t.tide = u.tide).trans htide, (by rw [hscrub.frame] : t.csg.suspended = u.csg.suspended).trans hsusp,
      (congrArg HLT_TIDE_STATUS_step_done.get (hrd _ (by decide))).trans hdone, fun hr hroom => ?_, (hrd _ (by decide)).trans hrate⟩
    obtain ⟨p, hp, hsays⟩ := hposts hr (by omega)
    have hbuf := hscrub.bufs 2 (by decide) (by decide)
    rw [State.postBuf, State.postBuf] at hbuf
    refine ⟨p, ?_, hsays⟩
    rw [show 0x0201 / 256 = 2 from rfl] at hp ⊢
    rw [hbuf, hp, List.drop_left]
    exact List.mem_singleton_self _
  · obtain ⟨htide, htm, hcsg, honly, hzero, hbound⟩ := h.near h1 h2
    refine ⟨(by rw [hscrub.frame] : t.tide = u.tide).trans htide, (by rw [hscrub.frame] : t.tm = u.tm).trans htm, (by rw [hscrub.frame] : t.csg = u.csg).trans hcsg,
      fun a ha hl => (hrd a hl).trans (honly a ha hl), fun h0 => (hrd _ (by decide)).trans (hzero h0), fun h0 => ?_⟩
    rw [hrd _ (by decide)]
    exact hbound h0
  · obtain ⟨hactive, htells⟩ := hpass age (hage ▸ ha) hlt
    refine ⟨hactive, fun h0 hr hroom => ?_⟩
    have hbuf := h.buf
    rw [State.postBuf, State.postBuf] at hbuf
    have htold := htells (by rw [h0]; rfl) (hurun.trans hr)
    rw [show 0x0F09 / 256 = 15 from rfl] at htold hroom ⊢
    rw [hbuf] at htold
    exact htold hroom

/-! A lost Sync (R39) -/

theorem gives_syncTimeout (hrun : s.running = true) (hport : s.slavePort.isSome = true) :
    Gives .syncReceiptTimeout s (fun t => t.fld HLT_TIDE_CTL HLT_TIDE_CTL_holdover = 1 ∧ t.fld CSG_CTL CSG_CTL_time_valid = 1 ∧
      s.posts t 0x0202 2 noInst ∧ s.onlyRegs t [HLT_TIDE_CTL, CSG_CTL] ∧
      t = { s with regs := t.regs, flt := t.flt, dev := { s.dev with synced := false } }) := by
  have hgo : s.syncTimeout = ((({ s with dev := { s.dev with synced := false } } : State).setFld HLT_TIDE_CTL HLT_TIDE_CTL_holdover 1).setFld CSG_CTL
      CSG_CTL_time_valid 1).raise 0x0202 2 := if_pos ⟨hrun, hport⟩
  obtain ⟨x, hx⟩ : ∃ x : State, ({ s with dev := { s.dev with synced := false } } : State) = x := ⟨_, rfl⟩
  have hxregs : x.regs = s.regs := by rw [← hx]
  have hxflt : x.flt = s.flt := by rw [← hx]
  have hxrun : x.running = s.running := by
    rw [← hx]
    rfl
  rw [hx] at hgo
  have hw1 := x.wroteRegs_setFld (l := [HLT_TIDE_CTL, CSG_CTL]) (a := HLT_TIDE_CTL) HLT_TIDE_CTL_holdover 1 (by decide)
  have hhold := State.fld_setFld_same (f := HLT_TIDE_CTL_holdover) x HLT_TIDE_CTL 1 (by decide) (by decide)
  generalize x.setFld HLT_TIDE_CTL HLT_TIDE_CTL_holdover 1 = y at hw1 hhold hgo
  have hw2 := y.wroteRegs_setFld (l := [HLT_TIDE_CTL, CSG_CTL]) (a := CSG_CTL) CSG_CTL_time_valid 1 (by decide)
  have hvalid := State.fld_setFld_same (f := CSG_CTL_time_valid) y CSG_CTL 1 (by decide) (by decide)
  have hkept : (y.setFld CSG_CTL CSG_CTL_time_valid 1).rd HLT_TIDE_CTL = y.rd HLT_TIDE_CTL := (y.rd_setFld _ _ _ _).trans (if_neg (by decide))
  generalize y.setFld CSG_CTL CSG_CTL_time_valid 1 = z at hw2 hvalid hkept hgo
  have hw := hw1.trans hw2
  obtain ⟨hposts, honly, hframe⟩ := State.raised (s := s) (u := z) (hw.wroteEvents.hltFrame.running.trans hxrun) ((by rw [hw.2] : z.flt = x.flt).trans hxflt)
    (fun a hl _ => (hw.1 a hl).trans (State.rd_congr hxregs a)) (c := 0x0202) (k := 2) noInst 0 (by decide) (by decide) rfl
  have hrd : ∀ a, (a < FLT_SRC_LOST 1 ∨ FLT_SRC_LOST 16 < a) → (z.raise 0x0202 2).rd a = z.rd a := fun a hl =>
    (z.raise_frame 0x0202 2 _ _ (by decide)).onlyRegs [] a List.not_mem_nil hl
  refine ⟨z.raise 0x0202 2, congrArg Host.Outcome.next hgo, (congrArg HLT_TIDE_CTL_holdover.get ((hrd _ (by decide)).trans hkept)).trans hhold,
    (congrArg CSG_CTL_time_valid.get (hrd _ (by decide))).trans hvalid, hposts, honly, ?_⟩
  rw [State.regFrame] at hframe
  rw [hframe, hw.2, ← hx]

theorem State.gptpSync_stopped (h : s.running = false ∨ s.slavePort = none) (offset : Int) (time : Nat) :
    exec (.gptpSync offset time) s = .next s ∧ exec .syncReceiptTimeout s = .next s := by
  have hno : ¬ (s.running = true ∧ s.slavePort.isSome = true) := by
    rintro ⟨h1, h2⟩
    rcases h with h | h
    · exact absurd (h.symm.trans h1) (by decide)
    · rw [h] at h2
      exact absurd h2 (by decide)
  exact ⟨congrArg Host.Outcome.next (if_neg hno), congrArg Host.Outcome.next (if_neg hno)⟩

/-! The gPTP messages (R177) -/

theorem filter_eq_singleton {n : Nat} {q : Nat → Bool} (hp : p < n) (hq : q p = true) (h : ∀ k < n, k ≠ p → q k = false) : (List.range n).filter q = [p] := by
  refine List.perm_singleton.1 ((List.perm_ext_iff_of_nodup (List.nodup_range.filter _) (List.nodup_singleton p)).2 fun k => ?_)
  rw [List.mem_filter, List.mem_range, List.mem_singleton]
  constructor
  · rintro ⟨hk, hqk⟩
    by_contra hne
    rw [h k hk hne] at hqk
    exact absurd hqk (by decide)
  · rintro rfl
    exact ⟨hp, hq⟩

theorem State.gptpTo_of_none (s : State) {q : Nat → Bool} (h : ∀ p < 28, s.linkUp p = true → q p = false) : s.gptpTo ((List.range 28).filter q) = s := by
  rw [State.gptpTo, List.filter_filter, List.filter_eq_nil_iff.2 fun p hp => ?_]
  · rfl
  · rw [Bool.and_eq_true, not_and]
    exact fun hl => by rw [h p (List.mem_range.1 hp) hl]; decide

theorem State.gptpTo_of_one (s : State) {q : Nat → Bool} (hp : p < 28) (hl : s.linkUp p = true) (hq : q p = true)
    (h : ∀ k < 28, k ≠ p → s.linkUp k = true → q k = false) :
    s.gptpTo ((List.range 28).filter q) = { s with free := s.free + 1 }.gptpSend p (Config.gptpBytes s.free) (Config.gptpTag s.free).toNat := by
  rw [State.gptpTo, List.filter_filter, filter_eq_singleton hp (by rw [hl, hq]; rfl) fun k hk hne => ?_]
  · rfl
  · cases hlk : s.linkUp k
    · rfl
    · rw [h k hk hne hlk]
      rfl

theorem State.syncSend_of_profile {b : Bundle} (haware : s.timeAware = true) (hb : s.profileNow = some b) : s.syncSend = s.gptpTo (bitsOf 28 b.set.master) := by
  rw [State.syncSend, if_pos haware, hb]
  rfl

theorem State.peerDelay_of_profile {b : Bundle} (haware : s.timeAware = true) (hb : s.profileNow = some b) :
    s.peerDelay = s.gptpTo ((List.range 28).filter (fun p => !b.set.fixedDelay.any (fun e => e.1 == p))) := by
  rw [State.peerDelay, if_pos haware, hb]
  rfl

end

/-- Settles O14: the rate by its range, the step port by port, a Sync by its offset with the scrub that it starts, and the messages by
the ports with a link. -/
theorem tideClock : Obligations.TideClock := by
  unfold Obligations.TideClock
  intro s
  refine ⟨fun m v hw => gives_tideRate hw v, fun m v hw => ?_, fun offset time hrun hport => gives_gptpSync hrun hport offset time, fun hrun hport => gives_syncTimeout hrun hport,
    fun offset time h => ⟨⟨s, (State.gptpSync_stopped h offset time).1, rfl⟩, ⟨s, (State.gptpSync_stopped h offset time).2, rfl⟩⟩, ⟨_, rfl, rfl⟩,
    fun h => ⟨⟨s, congrArg Host.Outcome.next (if_neg (by rw [h]; decide)), rfl⟩, ⟨s, congrArg Host.Outcome.next (if_neg (by rw [h]; decide)), rfl⟩⟩,
    fun b haware hb => ?_, fun b haware hb => ⟨⟨_, congrArg Host.Outcome.next (State.syncSend_of_profile haware hb), rfl⟩, ⟨_, congrArg Host.Outcome.next (State.peerDelay_of_profile haware hb), rfl⟩⟩⟩
  · obtain ⟨t, hgo, htide, hdone, hhold, hposts, hports, honly, hframe⟩ := gives_stepGo hw v rfl
    refine ⟨t, hgo, htide, hdone, hhold, hposts, fun p hp => (hports p hp).closed, fun p c hp ho => ⟨(hports p hp).kept c ho, fun n hn hat => ?_⟩, honly, hframe⟩
    obtain ⟨h1, h2, h3⟩ := (hports p hp).due c n ho hn hat
    exact ⟨h1, h2, h3, State.tells_of_large (by decide)⟩
  · have hsync : exec .syncInterval s = .next (s.gptpTo (bitsOf 28 b.set.master)) := congrArg Host.Outcome.next (State.syncSend_of_profile haware hb)
    have hdelay : exec .peerDelayMeasurement s = .next (s.gptpTo ((List.range 28).filter (fun p => !b.set.fixedDelay.any (fun e => e.1 == p)))) :=
      congrArg Host.Outcome.next (State.peerDelay_of_profile haware hb)
    refine ⟨fun h => ⟨s, hsync.trans (congrArg Host.Outcome.next (s.gptpTo_of_none h)), rfl⟩,
      fun h => ⟨s, hdelay.trans (congrArg Host.Outcome.next (s.gptpTo_of_none fun p hp hl => by rw [h p hp hl]; rfl)), rfl⟩,
      fun p hp hl => ⟨fun hm h => ⟨_, hsync.trans (congrArg Host.Outcome.next (s.gptpTo_of_one hp hl hm h)), rfl⟩,
        fun hm h => ⟨_, hdelay.trans (congrArg Host.Outcome.next (s.gptpTo_of_one hp hl (by rw [hm]; rfl) fun k hk hne hlk => by rw [h k hk hne hlk]; rfl)), rfl⟩⟩⟩

end Sys2Proof.Machine

/-! One heater channel: expiry, decay, shorts (R399, R400, R402). -/

namespace Sys2Proof.Machine

section
variable {s t u : State} {n : Nat}

/-! What a change of one channel leaves -/

/-- One channel's state and status register may have changed, and nothing else. -/
structure ChanWrite (s t : State) (n : Nat) : Prop where
  others : ∀ k, k ≠ n → t.heater k = s.heater k
  regs : ∀ a, a ≠ BNK_HTR_STATUS n → t.rd a = s.rd a
  frame : t = { s with regs := t.regs, bank := { s.bank with heaters := t.bank.heaters } }

theorem ChanWrite.refl (s : State) (n : Nat) : ChanWrite s s n := ⟨fun _ _ => rfl, fun _ _ => rfl, rfl⟩

theorem ChanWrite.trans (h1 : ChanWrite s t n) (h2 : ChanWrite t u n) : ChanWrite s u n :=
  ⟨fun k hk => (h2.others k hk).trans (h1.others k hk), fun a ha => (h2.regs a ha).trans (h1.regs a ha), by rw [h2.frame, h1.frame]⟩

theorem ChanWrite.setHeater (s : State) (n : Nat) (h : Heater) : ChanWrite s (s.setHeater n h) n :=
  ⟨fun k hk => (s.heater_setHeater n h k).trans (if_neg hk), fun _ _ => rfl, rfl⟩

theorem ChanWrite.setHtr (s : State) (n : Nat) (f : Fld) (v : Nat) : ChanWrite s (s.setHtr n f v) n :=
  ⟨fun _ _ => rfl, fun a ha => (s.rd_setFld _ a f v).trans (if_neg ha), rfl⟩

theorem ChanWrite.heaterOff (s : State) (n : Nat) : ChanWrite s (s.heaterOff n) n :=
  ⟨fun k hk => (s.heater_heaterOff n k).trans (if_neg hk), fun a ha => (s.rd_heaterOff n a).trans (if_neg ha), rfl⟩

theorem ChanWrite.running (h : ChanWrite s t n) : t.running = s.running := by
  rw [h.frame]
  rfl

theorem ChanWrite.flt (h : ChanWrite s t n) : t.flt = s.flt := by rw [h.frame]

theorem ChanWrite.elapsed (h : ChanWrite s t n) : t.elapsed = s.elapsed := by rw [h.frame]

theorem State.bank_setHtr (s : State) (n : Nat) (f : Fld) (v : Nat) : (s.setHtr n f v).bank = s.bank := rfl

theorem State.heater_setHtr (s : State) (n : Nat) (f : Fld) (v k : Nat) : (s.setHtr n f v).heater k = s.heater k := rfl

theorem State.htr_setHtr_same (s : State) (n : Nat) (f : Fld) (v : Nat) (hf : f.lo ≤ f.hi) (h32 : f.hi < 32) : (s.setHtr n f v).htr n f = v % 2 ^ f.width :=
  State.fld_setFld_same (f := f) s (BNK_HTR_STATUS n) v hf h32

theorem State.htr_setHtr_ne (s : State) (n : Nat) {f g : Fld} (v : Nat) (hf : f.lo ≤ f.hi) (h32 : f.hi < 32) (hg : g.lo ≤ g.hi) (hne : g.hi < f.lo ∨ f.hi < g.lo) :
    (s.setHtr n f v).htr n g = s.htr n g := State.fld_setFld_ne (f := f) (g := g) s v hf h32 hg hne

theorem State.htr_heaterOff_duty (s : State) (n : Nat) : (s.heaterOff n).htr n BNK_HTR_STATUS_eff_duty = 0 :=
  State.fld_setFld_same (f := BNK_HTR_STATUS_eff_duty) (s.accrue n) (BNK_HTR_STATUS n) 0 (by decide) (by decide)

theorem State.htr_heaterOff_ne (s : State) (n : Nat) {g : Fld} (hg : g.lo ≤ g.hi) (hne : 9 < g.lo) : (s.heaterOff n).htr n g = s.htr n g :=
  State.fld_setFld_ne (f := BNK_HTR_STATUS_eff_duty) (s.accrue n) 0 (by decide) (by decide) hg (.inr hne)

theorem State.htr_raise (s : State) {c : Nat} (k i d : Nat) (hc : c < 0x1100) (n : Nat) (f : Fld) : (s.raise c k i d).htr n f = s.htr n f := by
  rw [State.htr, State.fld, (s.raise_frame c k i d hc).rd _ isSrcLost_htrStatus]
  rfl

theorem State.heater_raise (s : State) (c i d : Nat) {k : Nat} (hk : k < 7) (n : Nat) : (s.raise c k i d).heater n = s.heater n :=
  State.heater_congr (by rw [s.raise_bank c i d hk]) n

/-- One channel's state and status register, events and their frames may have changed, and nothing else. -/
structure Channel (s t : State) (n : Nat) : Prop where
  others : ∀ k, k ≠ n → t.heater k = s.heater k
  regs : s.onlyRegs t [BNK_HTR_STATUS n]
  frame : s.bankFrame t
  bank : t.bank = { s.bank with heaters := t.bank.heaters }

theorem ChanWrite.channel (h : ChanWrite s t n) : Channel s t n :=
  ⟨h.others, fun a ha _ => h.regs a (fun e => ha (List.mem_singleton.2 e)), State.bankFrame_iff.2 ⟨t.regs, s.flt, _, s.outputs, s.free, h.frame⟩, by rw [h.frame]⟩

theorem Channel.trans (h1 : Channel s t n) (h2 : Channel t u n) : Channel s u n :=
  ⟨fun k hk => (h2.others k hk).trans (h1.others k hk), fun a ha hl => (h2.regs a ha hl).trans (h1.regs a ha hl), h1.frame.trans h2.frame, by rw [h2.bank, h1.bank]⟩

theorem Channel.raise (s : State) (n : Nat) {c k : Nat} (i d : Nat) (hc : c < 0x1100) (hk : k < 7) : Channel s (s.raise c k i d) n :=
  ⟨fun j _ => s.heater_raise c i d hk j, (s.raise_frame c k i d hc).onlyRegs _, (s.raise_frame c k i d hc).bankFrame, by rw [s.raise_bank c i d hk]⟩

/-- A channel's change and its event. -/
theorem ChanWrite.bankPosts (h : ChanWrite s t n) {c k : Nat} (hc : bankEvent c = true) (hk : k < 7) (hn : n < 12) : s.bankPosts (t.raise c k n) c k n := by
  have hp := t.posts_raise c k n 0
  rw [Nat.mod_eq_of_lt (show n < 4096 by omega)] at hp
  have he := t.eventFrames_raise hc hk n 0
  rw [h.running] at he
  exact ⟨State.posts_congr h.running h.flt hp, State.eventFrames_congr (by rw [h.frame]) (by rw [h.frame]) he⟩

/-! Expiry and decay of a demand (R399, R400) -/

theorem State.demandExpiry_of_due {n : Nat} (hfresh : s.htr n BNK_HTR_STATUS_fresh ≠ 0) (hpend : (s.heater n).pendFresh = false) {d : Nat}
    (hd : (if s.fld (BNK_HTR_CFG n) BNK_HTR_CFG_decay_step = 0 then s.fld (BNK_HTR_CFG n) BNK_HTR_CFG_safe_duty else s.fld (BNK_HTR_DEMAND n) BNK_HTR_DEMAND_duty) = d) :
    s.demandExpiry n = (((s.setHeater n { s.heater n with dec := d }).setHtr n BNK_HTR_STATUS_fresh 0).setHtr n BNK_HTR_STATUS_decaying 1).raise 0x0E14 2 n := by
  unfold State.demandExpiry
  rw [if_pos ⟨hfresh, by rw [hpend]; rfl⟩, hd]

theorem gives_demandExpiry {n : Fin 12} (hfresh : s.htr n BNK_HTR_STATUS_fresh ≠ 0) (hpend : (s.heater n).pendFresh = false) :
    Gives (.demandExpiry n) s (fun t => t.htr n BNK_HTR_STATUS_fresh = 0 ∧ t.htr n BNK_HTR_STATUS_decaying = 1 ∧
      t.htr n BNK_HTR_STATUS_eff_duty = s.htr n BNK_HTR_STATUS_eff_duty ∧
      t.heater n = { s.heater n with dec := (if s.fld (BNK_HTR_CFG n) BNK_HTR_CFG_decay_step = 0 then s.fld (BNK_HTR_CFG n) BNK_HTR_CFG_safe_duty
        else s.fld (BNK_HTR_DEMAND n) BNK_HTR_DEMAND_duty) } ∧ (∀ k, k ≠ n.val → t.heater k = s.heater k) ∧
      s.bankPosts t 0x0E14 2 n ∧ s.onlyRegs t [BNK_HTR_STATUS n] ∧ s.bankFrame t ∧ t.bank = { s.bank with heaters := t.bank.heaters }) := by
  obtain ⟨d, hd⟩ : ∃ d, (if s.fld (BNK_HTR_CFG n) BNK_HTR_CFG_decay_step = 0 then s.fld (BNK_HTR_CFG n) BNK_HTR_CFG_safe_duty
    else s.fld (BNK_HTR_DEMAND n) BNK_HTR_DEMAND_duty) = d := ⟨_, rfl⟩
  have hgo := State.demandExpiry_of_due hfresh hpend hd
  rw [hd]
  generalize ({ s.heater n with dec := d } : Heater) = h at hgo ⊢
  have hw1 := ChanWrite.setHeater s n h
  have hheater := (s.heater_setHeater n h n).trans (if_pos rfl)
  have hduty1 : (s.setHeater n h).htr n BNK_HTR_STATUS_eff_duty = s.htr n BNK_HTR_STATUS_eff_duty := rfl
  generalize s.setHeater n h = x at hgo hw1 hheater hduty1
  have hw2 := ChanWrite.setHtr x n BNK_HTR_STATUS_fresh 0
  have hf := x.htr_setHtr_same n BNK_HTR_STATUS_fresh 0 (by decide) (by decide)
  have hduty2 := x.htr_setHtr_ne n (f := BNK_HTR_STATUS_fresh) (g := BNK_HTR_STATUS_eff_duty) 0 (by decide) (by decide) (by decide) (by decide)
  have hheater2 : (x.setHtr n BNK_HTR_STATUS_fresh 0).heater n = x.heater n := x.heater_setHtr n _ _ n
  generalize x.setHtr n BNK_HTR_STATUS_fresh 0 = y at hgo hw2 hf hduty2 hheater2
  have hw3 := ChanWrite.setHtr y n BNK_HTR_STATUS_decaying 1
  have hd := y.htr_setHtr_same n BNK_HTR_STATUS_decaying 1 (by decide) (by decide)
  have hf3 := y.htr_setHtr_ne n (f := BNK_HTR_STATUS_decaying) (g := BNK_HTR_STATUS_fresh) 1 (by decide) (by decide) (by decide) (by decide)
  have hduty3 := y.htr_setHtr_ne n (f := BNK_HTR_STATUS_decaying) (g := BNK_HTR_STATUS_eff_duty) 1 (by decide) (by decide) (by decide) (by decide)
  have hheater3 : (y.setHtr n BNK_HTR_STATUS_decaying 1).heater n = y.heater n := y.heater_setHtr n _ _ n
  generalize y.setHtr n BNK_HTR_STATUS_decaying 1 = z at hgo hw3 hd hf3 hduty3 hheater3
  have hw := (hw1.trans hw2).trans hw3
  have hchan := hw.channel.trans (Channel.raise z n (c := 0x0E14) (k := 2) n 0 (by decide) (by decide))
  have hhtr := fun f => z.htr_raise (c := 0x0E14) 2 n 0 (by decide) n f
  exact ⟨z.raise 0x0E14 2 n, congrArg Host.Outcome.next hgo, (hhtr _).trans (hf3.trans hf), (hhtr _).trans hd, (hhtr _).trans (hduty3.trans (hduty2.trans hduty1)),
    (z.heater_raise 0x0E14 n 0 (k := 2) (by decide) n).trans (hheater3.trans (hheater2.trans hheater)), hchan.others, hw.bankPosts rfl (by decide) n.isLt,
    hchan.regs, hchan.frame, hchan.bank⟩

theorem State.demandExpiry_of_fresh {n : Nat} (h : s.htr n BNK_HTR_STATUS_fresh = 0 ∨ (s.heater n).pendFresh = true) : s.demandExpiry n = s := by
  refine if_neg fun hc => ?_
  rcases h with h | h
  · exact hc.1 h
  · rw [h] at hc
    exact absurd hc.2 (by decide)

/-- The decaying duty moves by a step towards the safe duty. -/
def decayTo (safe st dec : Nat) : Nat := if st = 0 then safe else if safe < dec then max safe (dec - st) else min safe (dec + st)

theorem decayTo_spec (safe st dec : Nat) : (st = 0 → decayTo safe st dec = safe) ∧ (st ≠ 0 → safe + st ≤ dec → decayTo safe st dec = dec - st) ∧
    (st ≠ 0 → dec + st ≤ safe → decayTo safe st dec = dec + st) ∧ (dec < safe + st → safe < dec + st → decayTo safe st dec = safe) := by
  unfold decayTo
  refine ⟨fun h => if_pos h, fun h h1 => ?_, fun h h1 => ?_, fun h1 h2 => ?_⟩
  · rw [if_neg h, if_pos (by omega)]
    omega
  · rw [if_neg h, if_neg (by omega)]
    omega
  · split
    · rfl
    · split <;> omega

theorem State.decayStep_of_decaying {n : Nat} (h : s.htr n BNK_HTR_STATUS_decaying ≠ 0) : s.decayStep n = s.setHeater n { s.heater n with
    dec := decayTo (s.fld (BNK_HTR_CFG n) BNK_HTR_CFG_safe_duty) (10 * s.fld (BNK_HTR_CFG n) BNK_HTR_CFG_decay_step) (s.heater n).dec } := if_pos h

theorem gives_decayStep {n : Fin 12} (hdec : s.htr n BNK_HTR_STATUS_decaying ≠ 0) {safe st : Nat} (hsafe : s.fld (BNK_HTR_CFG n) BNK_HTR_CFG_safe_duty = safe)
    (hst : 10 * s.fld (BNK_HTR_CFG n) BNK_HTR_CFG_decay_step = st) {h : Heater} (hh : s.heater n = h) :
    Gives (.decayStep n) s (fun t => t = { s with bank := { s.bank with heaters := t.bank.heaters } } ∧
      (∀ k, k ≠ n.val → t.heater k = s.heater k) ∧ t.heater n = { h with dec := (t.heater n).dec } ∧
      (st = 0 → (t.heater n).dec = safe) ∧ (st ≠ 0 → safe + st ≤ h.dec → (t.heater n).dec = h.dec - st) ∧
      (st ≠ 0 → h.dec + st ≤ safe → (t.heater n).dec = h.dec + st) ∧
      (h.dec < safe + st → safe < h.dec + st → (t.heater n).dec = safe)) := by
  have hgo := State.decayStep_of_decaying hdec
  rw [hsafe, hst, hh] at hgo
  obtain ⟨h1, h2, h3, h4⟩ := decayTo_spec safe st h.dec
  generalize decayTo safe st h.dec = d at hgo h1 h2 h3 h4
  have hw := ChanWrite.setHeater s n { h with dec := d }
  have hheater := (s.heater_setHeater n { h with dec := d } n).trans (if_pos rfl)
  have hframe : s.setHeater n { h with dec := d } = { s with bank := { s.bank with heaters := (s.setHeater n { h with dec := d }).bank.heaters } } := rfl
  generalize s.setHeater n { h with dec := d } = t at hgo hw hheater hframe
  have hd : (t.heater n).dec = d := by rw [hheater]
  exact ⟨t, congrArg Host.Outcome.next hgo, hframe, hw.others, by rw [hheater], fun h => hd.trans (h1 h), fun h h' => hd.trans (h2 h h'), fun h h' => hd.trans (h3 h h'),
    fun h h' => hd.trans (h4 h h')⟩

/-! Shorts (R402) -/

/-- The shorts of the last 10 s. -/
def State.recentShorts (s : State) (n : Nat) : List Nat := (s.heater n).shorts.filter (fun x => decide (s.elapsed < x + 10000000000))

theorem State.shortRun_eq (s : State) (n : Nat) : s.shortRun n = min 3 (s.recentShorts n).length := rfl

theorem filter_take_shorts (now : Nat) (l : List Nat) :
    ((now :: l.filter (fun x => decide (now < x + 10000000000))).take 3).filter (fun x => decide (now < x + 10000000000)) =
      (now :: l.filter (fun x => decide (now < x + 10000000000))).take 3 := by
  refine List.filter_eq_self.2 fun x hx => ?_
  rcases List.mem_cons.1 (List.mem_of_mem_take hx) with rfl | hx
  · exact decide_eq_true (by omega)
  · exact (List.mem_filter.1 hx).2

/-- The channel is off, with the short in its run. -/
def State.shortNoted (s : State) (n : Nat) : State :=
  (s.heaterOff n).setHeater n { (s.heaterOff n).heater n with
    shortOff := true, shorts := (s.elapsed :: ((s.heaterOff n).heater n).shorts.filter (fun t => decide (s.elapsed < t + 10000000000))).take 3 }

/-- The short is told where it is the first. -/
def State.shortTold (s t : State) (n : Nat) : State := if s.htr n BNK_HTR_STATUS_short = 0 then (t.setHtr n BNK_HTR_STATUS_short 1).raise 0x0E11 4 n else t

/-- The third short latches the channel off. -/
def State.shortLatched (s t u : State) (n : Nat) : State :=
  if t.shortRun n = 3 ∧ s.htr n BNK_HTR_STATUS_short_latched = 0 then (u.setHtr n BNK_HTR_STATUS_short_latched 1).raise 0x0E12 4 n else u

theorem State.heaterShort_of_on {n : Nat} (h : s.htr n BNK_HTR_STATUS_eff_duty ≠ 0) :
    s.heaterShort n = s.shortLatched (s.shortNoted n) (s.shortTold (s.shortNoted n) n) n := if_neg h

theorem State.shortNoted_spec (s : State) (n : Nat) : ChanWrite s (s.shortNoted n) n ∧
    (s.shortNoted n).heater n = { s.heater n with shortOff := true, shorts := (s.elapsed :: s.recentShorts n).take 3, energy := s.supplied n, since := s.elapsed } ∧
    (s.shortNoted n).htr n BNK_HTR_STATUS_eff_duty = 0 ∧ (∀ g : Fld, g.lo ≤ g.hi → 9 < g.lo → (s.shortNoted n).htr n g = s.htr n g) ∧
    (s.shortNoted n).shortRun n = min 3 ((s.recentShorts n).length + 1) := by
  have hoff := ChanWrite.heaterOff s n
  have hheater := (s.heater_heaterOff n n).trans (if_pos rfl)
  have hduty := s.htr_heaterOff_duty n
  have hkept : ∀ g : Fld, g.lo ≤ g.hi → 9 < g.lo → (s.heaterOff n).htr n g = s.htr n g := fun g => s.htr_heaterOff_ne n
  rw [State.shortNoted, hheater]
  generalize s.heaterOff n = x at hoff hheater hduty hkept ⊢
  obtain ⟨h, hh⟩ : ∃ h : Heater, { s.paid n with
    shortOff := true, shorts := (s.elapsed :: (s.paid n).shorts.filter (fun t => decide (s.elapsed < t + 10000000000))).take 3 } = h := ⟨_, rfl⟩
  rw [hh]
  have hset := ChanWrite.setHeater x n h
  have hself := (x.heater_setHeater n h n).trans (if_pos rfl)
  have hhtr : ∀ g, (x.setHeater n h).htr n g = x.htr n g := fun _ => rfl
  generalize x.setHeater n h = y at hset hself hhtr ⊢
  have hw := hoff.trans hset
  refine ⟨hw, hself.trans hh.symm, (hhtr _).trans hduty, fun g hg h9 => (hhtr g).trans (hkept g hg h9), ?_⟩
  have hshorts : h.shorts = (s.elapsed :: s.recentShorts n).take 3 := by
    rw [← hh]
    rfl
  rw [State.shortRun, hself, hw.elapsed, hshorts, State.recentShorts, filter_take_shorts, List.length_take, List.length_cons]
  omega

theorem State.shortTold_spec (s t : State) {n : Nat} (hn : n < 12) (hkept : t.htr n BNK_HTR_STATUS_short = s.htr n BNK_HTR_STATUS_short) :
    Channel t (s.shortTold t n) n ∧ (s.shortTold t n).heater n = t.heater n ∧ (s.shortTold t n).htr n BNK_HTR_STATUS_short = 1 ∧
      (∀ g ∈ [BNK_HTR_STATUS_eff_duty, BNK_HTR_STATUS_short_latched], (s.shortTold t n).htr n g = t.htr n g) ∧
      t.logs (s.shortTold t n) 14 (if s.htr n BNK_HTR_STATUS_short = 0 then [(0x0E11, 4, n)] else []) ∧
      t.eventFrames (s.shortTold t n) (boolNat (t.running && decide (s.htr n BNK_HTR_STATUS_short = 0))) := by
  by_cases h : s.htr n BNK_HTR_STATUS_short = 0
  · have heq : s.shortTold t n = (t.setHtr n BNK_HTR_STATUS_short 1).raise 0x0E11 4 n := if_pos h
    have hw := ChanWrite.setHtr t n BNK_HTR_STATUS_short 1
    have hheater : (t.setHtr n BNK_HTR_STATUS_short 1).heater n = t.heater n := t.heater_setHtr n _ _ n
    have hone := t.htr_setHtr_same n BNK_HTR_STATUS_short 1 (by decide) (by decide)
    have hsame : ∀ g ∈ [BNK_HTR_STATUS_eff_duty, BNK_HTR_STATUS_short_latched], (t.setHtr n BNK_HTR_STATUS_short 1).htr n g = t.htr n g := fun g hg =>
      t.htr_setHtr_ne n (f := BNK_HTR_STATUS_short) 1 (by decide) (by decide) (by revert hg; revert g; decide) (by revert hg; revert g; decide)
    rw [heq, if_pos h, decide_eq_true h, Bool.and_true]
    generalize t.setHtr n BNK_HTR_STATUS_short 1 = u at hw hheater hone hsame ⊢
    have hhtr := fun f => u.htr_raise (c := 0x0E11) 4 n 0 (by decide) n f
    have hlog := u.logs_raise (c := 0x0E11) (k := 4) n 0
    rw [Nat.mod_eq_of_lt (show n < 4096 by omega)] at hlog
    have hev := u.eventFrames_raise (c := 0x0E11) (k := 4) rfl (by decide) n 0
    rw [hw.running] at hev
    exact ⟨hw.channel.trans (Channel.raise u n n 0 (by decide) (by decide)), (u.heater_raise 0x0E11 n 0 (by decide) n).trans hheater, (hhtr _).trans hone,
      fun g hg => (hhtr g).trans (hsame g hg), State.logs.trans (es := []) (State.logs_of_flt hw.flt) hw.running hlog,
      State.eventFrames_congr (by rw [hw.frame]) (by rw [hw.frame]) hev⟩
  · have heq : s.shortTold t n = t := if_neg h
    have hlt := BNK_HTR_STATUS_short.get_lt (s.rd (BNK_HTR_STATUS n))
    rw [show 2 ^ BNK_HTR_STATUS_short.width = 2 from rfl] at hlt
    rw [heq, if_neg h, decide_eq_false h, Bool.and_false]
    refine ⟨(ChanWrite.refl t n).channel, rfl, hkept.trans ?_, fun _ _ => rfl, State.logs.refl t 14, State.eventFrames.refl t⟩
    rw [State.htr, State.fld] at h ⊢
    omega

theorem State.shortLatched_spec (s t u : State) {n : Nat} (hn : n < 12) (hkept : u.htr n BNK_HTR_STATUS_short_latched = s.htr n BNK_HTR_STATUS_short_latched)
    {latches : Bool} (hl : latches = decide (t.shortRun n = 3 ∧ s.htr n BNK_HTR_STATUS_short_latched = 0)) :
    Channel u (s.shortLatched t u n) n ∧ (s.shortLatched t u n).heater n = u.heater n ∧
      (s.shortLatched t u n).htr n BNK_HTR_STATUS_short_latched = (if latches then 1 else s.htr n BNK_HTR_STATUS_short_latched) ∧
      (∀ g ∈ [BNK_HTR_STATUS_eff_duty, BNK_HTR_STATUS_short], (s.shortLatched t u n).htr n g = u.htr n g) ∧
      u.logs (s.shortLatched t u n) 14 (if latches then [(0x0E12, 4, n)] else []) ∧
      u.eventFrames (s.shortLatched t u n) (boolNat (u.running && latches)) := by
  subst hl
  by_cases h : t.shortRun n = 3 ∧ s.htr n BNK_HTR_STATUS_short_latched = 0
  · have heq : s.shortLatched t u n = (u.setHtr n BNK_HTR_STATUS_short_latched 1).raise 0x0E12 4 n := if_pos h
    have hw := ChanWrite.setHtr u n BNK_HTR_STATUS_short_latched 1
    have hheater : (u.setHtr n BNK_HTR_STATUS_short_latched 1).heater n = u.heater n := u.heater_setHtr n _ _ n
    have hone := u.htr_setHtr_same n BNK_HTR_STATUS_short_latched 1 (by decide) (by decide)
    have hsame : ∀ g ∈ [BNK_HTR_STATUS_eff_duty, BNK_HTR_STATUS_short], (u.setHtr n BNK_HTR_STATUS_short_latched 1).htr n g = u.htr n g := fun g hg =>
      u.htr_setHtr_ne n (f := BNK_HTR_STATUS_short_latched) 1 (by decide) (by decide) (by revert hg; revert g; decide) (by revert hg; revert g; decide)
    rw [heq, decide_eq_true h, Bool.and_true, if_pos rfl, if_pos rfl]
    generalize u.setHtr n BNK_HTR_STATUS_short_latched 1 = w at hw hheater hone hsame ⊢
    have hhtr := fun f => w.htr_raise (c := 0x0E12) 4 n 0 (by decide) n f
    have hlog := w.logs_raise (c := 0x0E12) (k := 4) n 0
    rw [Nat.mod_eq_of_lt (show n < 4096 by omega)] at hlog
    have hev := w.eventFrames_raise (c := 0x0E12) (k := 4) rfl (by decide) n 0
    rw [hw.running] at hev
    exact ⟨hw.channel.trans (Channel.raise w n n 0 (by decide) (by decide)), (w.heater_raise 0x0E12 n 0 (by decide) n).trans hheater, (hhtr _).trans hone,
      fun g hg => (hhtr g).trans (hsame g hg), State.logs.trans (es := []) (State.logs_of_flt hw.flt) hw.running hlog,
      State.eventFrames_congr (by rw [hw.frame]) (by rw [hw.frame]) hev⟩
  · have heq : s.shortLatched t u n = u := if_neg h
    rw [heq, decide_eq_false h, Bool.and_false, if_neg Bool.false_ne_true, if_neg Bool.false_ne_true]
    exact ⟨(ChanWrite.refl u n).channel, rfl, hkept, fun _ _ => rfl, State.logs.refl u 14, State.eventFrames.refl u⟩

theorem gives_heaterShort {n : Fin 12} (hon : s.htr n BNK_HTR_STATUS_eff_duty ≠ 0) {recent : List Nat} (hrecent : s.recentShorts n = recent) {first latches : Bool}
    (hfirst : first = decide (s.htr n BNK_HTR_STATUS_short = 0)) (hlatches : latches = decide (2 ≤ recent.length ∧ s.htr n BNK_HTR_STATUS_short_latched = 0)) :
    Gives (.heaterShort n) s (fun t => t.htr n BNK_HTR_STATUS_eff_duty = 0 ∧ t.htr n BNK_HTR_STATUS_short = 1 ∧
      t.heater n = { s.heater n with shortOff := true, shorts := (s.elapsed :: recent).take 3, energy := s.supplied n, since := s.elapsed } ∧
      (∀ k, k ≠ n.val → t.heater k = s.heater k) ∧ t.shortRun n = min 3 (recent.length + 1) ∧
      (first = true → s.tells t 2 0x0E11 4 n) ∧ (latches = true → s.tells t 2 0x0E12 4 n) ∧
      t.htr n BNK_HTR_STATUS_short_latched = (if latches then 1 else s.htr n BNK_HTR_STATUS_short_latched) ∧
      s.eventFrames t (boolNat (s.running && first) + boolNat (s.running && latches)) ∧
      s.onlyRegs t [BNK_HTR_STATUS n] ∧ s.bankFrame t ∧ t.bank = { s.bank with heaters := t.bank.heaters }) := by
  have hgo := State.heaterShort_of_on hon
  obtain ⟨hw, hheater, hduty, hkept, hrun⟩ := s.shortNoted_spec n
  rw [hrecent] at hheater hrun
  generalize s.shortNoted n = x at hgo hw hheater hduty hkept hrun
  obtain ⟨hc2, hheater2, hshort2, hkept2, hlog2, hev2⟩ := s.shortTold_spec x n.isLt (hkept _ (by decide) (by decide))
  generalize s.shortTold x n = y at hgo hc2 hheater2 hshort2 hkept2 hlog2 hev2
  have hl : latches = decide (x.shortRun n = 3 ∧ s.htr n BNK_HTR_STATUS_short_latched = 0) := by
    rw [hlatches, hrun]
    refine decide_eq_decide.2 (and_congr_left fun _ => ?_)
    omega
  obtain ⟨hc3, hheater3, hlatch3, hkept3, hlog3, hev3⟩ := s.shortLatched_spec x y n.isLt ((hkept2 _ (by decide)).trans (hkept _ (by decide) (by decide))) hl
  generalize s.shortLatched x y n = t at hgo hc3 hheater3 hlatch3 hkept3 hlog3 hev3
  have hchan := (hw.channel.trans hc2).trans hc3
  have hyrun : y.running = s.running := by
    obtain ⟨r, f, b, o, k, he⟩ := State.bankFrame_iff.1 (hw.channel.trans hc2).frame
    rw [he]
    rfl
  have hlog : s.logs t 14 ((if s.htr n BNK_HTR_STATUS_short = 0 then [(0x0E11, 4, n.val)] else []) ++ if latches then [(0x0E12, 4, n.val)] else []) :=
    State.logs.trans (es := []) (State.logs_of_flt hw.flt) hw.running (hlog2.trans (hyrun.trans hw.running.symm) hlog3)
  have hlen : ((if s.htr n BNK_HTR_STATUS_short = 0 then [(0x0E11, 4, n.val)] else []) ++ if latches then [(0x0E12, 4, n.val)] else []).length ≤ 2 := by
    split <;> split <;> exact Nat.le_of_ble_eq_true rfl
  have hth : t.heater n = { s.heater n with shortOff := true, shorts := (s.elapsed :: recent).take 3, energy := s.supplied n, since := s.elapsed } :=
    hheater3.trans (hheater2.trans hheater)
  have htel : t.elapsed = x.elapsed := by
    obtain ⟨r, f, b, o, k, he⟩ := State.bankFrame_iff.1 (hc2.trans hc3).frame
    rw [he]
  refine ⟨t, congrArg Host.Outcome.next hgo, (hkept3 _ (by decide)).trans ((hkept2 _ (by decide)).trans hduty), (hkept3 _ (by decide)).trans hshort2, hth, hchan.others, ?_,
    fun h => hlog.tells (List.mem_append_left _ ?_) hlen rfl, fun h => hlog.tells (List.mem_append_right _ ?_) hlen rfl, hlatch3, ?_, hchan.regs, hchan.frame, hchan.bank⟩
  · rw [State.shortRun, htel, hheater3.trans hheater2]
    exact hrun
  · rw [hfirst, decide_eq_true_eq] at h
    rw [if_pos h]
    exact List.mem_singleton_self _
  · rw [if_pos h]
    exact List.mem_singleton_self _
  · have hev := State.eventFrames_congr (s := s) (by rw [hw.frame]) (by rw [hw.frame]) (hev2.trans hev3)
    rw [hw.running, hyrun, ← hfirst] at hev
    exact hev

theorem gives_shortRetry (n : Fin 12) : Gives (.shortRetry n) s (fun t => t.heater n = { s.heater n with shortOff := false } ∧ (∀ k, k ≠ n.val → t.heater k = s.heater k) ∧
    t = { s with bank := { s.bank with heaters := t.bank.heaters } }) :=
  ⟨_, rfl, (s.heater_setHeater n _ n).trans (if_pos rfl), (ChanWrite.setHeater s n _).others, rfl⟩

theorem gives_shortRunReset (n : Fin 12) : Gives (.shortRunReset n) s (fun t => t.shortRun n = s.shortRun n ∧ (s.shortRun n = 0 → (t.heater n).shorts = []) ∧
    (s.shortRun n ≠ 0 → t = s) ∧ t.heater n = { s.heater n with shorts := (t.heater n).shorts } ∧
    (∀ k, k ≠ n.val → t.heater k = s.heater k) ∧ t = { s with bank := { s.bank with heaters := t.bank.heaters } }) := by
  by_cases h : s.shortRun n = 0
  · have hgo : s.shortRunReset n = s.setHeater n { s.heater n with shorts := [] } := if_pos h
    have hself := (s.heater_setHeater n { s.heater n with shorts := [] } n).trans (if_pos rfl)
    refine ⟨_, congrArg Host.Outcome.next hgo, ?_, fun _ => by rw [hself], fun h' => absurd h h', by rw [hself], (ChanWrite.setHeater s n _).others, rfl⟩
    rw [h, State.shortRun, hself]
    rfl
  · have hgo : s.shortRunReset n = s := if_neg h
    exact ⟨s, congrArg Host.Outcome.next hgo, rfl, fun h' => absurd h' h, fun _ => rfl, rfl, fun _ _ => rfl, rfl⟩

theorem gives_vbatShort {n : Fin 12} (hoff : s.htr n BNK_HTR_STATUS_eff_duty = 0) (hnew : s.htr n BNK_HTR_STATUS_vbat_short = 0) :
    Gives (.vbatShort n) s (fun t => t.htr n BNK_HTR_STATUS_vbat_short = 1 ∧ s.bankPosts t 0x0E17 4 n ∧
      s.onlyRegs t [BNK_HTR_STATUS n] ∧ s.bankFrame t ∧ t.bank = s.bank) := by
  have hgo : s.vbatShort n = (s.setHtr n BNK_HTR_STATUS_vbat_short 1).raise 0x0E17 4 n := if_pos ⟨hoff, hnew⟩
  have hw := ChanWrite.setHtr s n BNK_HTR_STATUS_vbat_short 1
  have hone := s.htr_setHtr_same n BNK_HTR_STATUS_vbat_short 1 (by decide) (by decide)
  have hbank : (s.setHtr n BNK_HTR_STATUS_vbat_short 1).bank = s.bank := s.bank_setHtr n _ _
  generalize s.setHtr n BNK_HTR_STATUS_vbat_short 1 = x at hgo hw hone hbank
  have hchan := hw.channel.trans (Channel.raise x n (c := 0x0E17) (k := 4) n 0 (by decide) (by decide))
  exact ⟨_, congrArg Host.Outcome.next hgo, (x.htr_raise 4 n 0 (by decide) n _).trans hone, hw.bankPosts rfl (by decide) n.isLt, hchan.regs, hchan.frame,
    (x.raise_bank 0x0E17 n 0 (by decide)).trans hbank⟩

end

end Sys2Proof.Machine

/-! The PWM period start and the thermal model over all channels (R399, R401, R403). -/

namespace Sys2Proof.Machine

section
variable {s t u : State} {n : Nat} {L L' : List Fld}

/-! What a part of the period start keeps -/

/-- The waiting demands, some fields of the channels' status and the demands are as before. -/
structure ChanKept (s t : State) (L : List Fld) : Prop where
  pend : ∀ k, (t.heater k).pendFresh = (s.heater k).pendFresh
  htr : ∀ k, ∀ f ∈ L, t.htr k f = s.htr k f
  demand : ∀ k, t.rd (BNK_HTR_DEMAND k) = s.rd (BNK_HTR_DEMAND k)
  frame : s.bankFrame t

theorem ChanKept.refl (s : State) (L : List Fld) : ChanKept s s L := ⟨fun _ => rfl, fun _ _ _ => rfl, fun _ => rfl, rfl⟩

theorem ChanKept.trans (h1 : ChanKept s t L) (h2 : ChanKept t u L) : ChanKept s u L :=
  ⟨fun k => (h2.pend k).trans (h1.pend k), fun k f hf => (h2.htr k f hf).trans (h1.htr k f hf), fun k => (h2.demand k).trans (h1.demand k), h1.frame.trans h2.frame⟩

theorem ChanKept.mono (h : ChanKept s t L') (hL : ∀ f ∈ L, f ∈ L') : ChanKept s t L := ⟨h.pend, fun k f hf => h.htr k f (hL f hf), h.demand, h.frame⟩

theorem BNK_HTR_DEMAND_ne_status (k n : Nat) : BNK_HTR_DEMAND k ≠ BNK_HTR_STATUS n := by
  rw [BNK_HTR_DEMAND, BNK_HTR_STATUS]
  omega

theorem BNK_HTR_MEAS_ne_status (k n : Nat) : BNK_HTR_MEAS k ≠ BNK_HTR_STATUS n := by
  rw [BNK_HTR_MEAS, BNK_HTR_STATUS]
  omega

theorem BNK_HTR_DEMAND_ne_meas (k n : Nat) : BNK_HTR_DEMAND k ≠ BNK_HTR_MEAS n := by
  rw [BNK_HTR_DEMAND, BNK_HTR_MEAS]
  omega

theorem BNK_HTR_STATUS_inj {k n : Nat} (h : BNK_HTR_STATUS k = BNK_HTR_STATUS n) : k = n := by
  rw [BNK_HTR_STATUS, BNK_HTR_STATUS] at h
  omega

theorem BNK_HTR_MEAS_inj {k n : Nat} (h : BNK_HTR_MEAS k = BNK_HTR_MEAS n) : k = n := by
  rw [BNK_HTR_MEAS, BNK_HTR_MEAS] at h
  omega

theorem State.htr_setHtr_other (s : State) {n k : Nat} (h : k ≠ n) (f g : Fld) (v : Nat) : (s.setHtr n f v).htr k g = s.htr k g :=
  congrArg g.get ((s.rd_setFld _ _ f v).trans (if_neg fun e => h (BNK_HTR_STATUS_inj e)))

theorem bankFrame_setFld (s : State) (a : Nat) (f : Fld) (v : Nat) : s.bankFrame (s.setFld a f v) := rfl

theorem ChanKept.setHtr (s : State) (n : Nat) {f : Fld} (v : Nat) (hf : f.lo ≤ f.hi) (h32 : f.hi < 32) (hL : ∀ g ∈ L, g.lo ≤ g.hi ∧ (g.hi < f.lo ∨ f.hi < g.lo)) :
    ChanKept s (s.setHtr n f v) L := by
  refine ⟨fun _ => rfl, fun k g hg => ?_, fun k => (s.rd_setFld _ _ f v).trans (if_neg (BNK_HTR_DEMAND_ne_status k n)), bankFrame_setFld s _ f v⟩
  by_cases h : k = n
  · subst h
    exact s.htr_setHtr_ne k v hf h32 (hL g hg).1 (hL g hg).2
  · exact s.htr_setHtr_other h f g v

/-- A register that is neither a status nor a demand. -/
theorem ChanKept.setFld (s : State) {a : Nat} (ha : ∀ k, BNK_HTR_STATUS k ≠ a ∧ BNK_HTR_DEMAND k ≠ a) (f : Fld) (v : Nat) (L : List Fld) : ChanKept s (s.setFld a f v) L :=
  ⟨fun _ => rfl, fun k g _ => congrArg g.get ((s.rd_setFld _ _ f v).trans (if_neg (ha k).1)), fun k => (s.rd_setFld _ _ f v).trans (if_neg (ha k).2),
    bankFrame_setFld s a f v⟩

theorem ChanKept.setBank (s : State) {b : BankDie} (h : b.heaters = s.bank.heaters) (L : List Fld) : ChanKept s (s.setBank b) L :=
  ⟨fun k => congrArg Heater.pendFresh (State.heater_congr (t := s.setBank b) h k), fun _ _ _ => rfl, fun _ => rfl, rfl⟩

theorem ChanKept.accrue (s : State) (n : Nat) (L : List Fld) : ChanKept s (s.accrue n) L := by
  refine ⟨fun k => ?_, fun _ _ _ => rfl, fun _ => rfl, rfl⟩
  rw [State.heater_accrue]
  split
  · next h => rw [h]; rfl
  · rfl

theorem ChanKept.setHeater (s : State) (n : Nat) {h : Heater} (hp : h.pendFresh = (s.heater n).pendFresh) (L : List Fld) : ChanKept s (s.setHeater n h) L := by
  refine ⟨fun k => ?_, fun _ _ _ => rfl, fun _ => rfl, rfl⟩
  rw [State.heater_setHeater]
  split
  · next e => rw [e]; exact hp
  · rfl

theorem isSrcLost_htrDemand (k : Nat) : isSrcLost (BNK_HTR_DEMAND k) = false := isSrcLost_eq_false.2 (by
  rw [BNK_HTR_DEMAND, FLT_SRC_LOST, FLT_SRC_LOST]
  omega)

theorem ChanKept.raise (s : State) {c k : Nat} (i d : Nat) (hc : c < 0x1100) (hk : k < 7) (L : List Fld) : ChanKept s (s.raise c k i d) L :=
  ⟨fun j => by rw [s.heater_raise c i d hk], fun j f _ => s.htr_raise k i d hc j f, fun j => (s.raise_frame c k i d hc).rd _ (isSrcLost_htrDemand j),
    (s.raise_frame c k i d hc).bankFrame⟩

theorem ChanKept.foldl {f : State → Nat → State} {l : List Nat} (h : ∀ t k, ChanKept t (f t k) L) (s : State) : ChanKept s (l.foldl f s) L :=
  List.foldlRecOn (motive := fun t => ChanKept s t L) l f (ChanKept.refl s L) fun t ht k _ => ht.trans (h t k)

/-! The parts of a period start (R399, R401) -/

/-- The demand written before the period counts as fresh. -/
def State.freshTaken (t : State) (n : Nat) : State :=
  let h := t.heater n
  if h.pendFresh then
    ((t.setHeater n { h with pendFresh := false }).setHtr n BNK_HTR_STATUS_fresh 1).setHtr n BNK_HTR_STATUS_decaying 0
  else t

/-- A channel's duty in force is shown. -/
def State.dutyShown (tg d : List Nat) (t : State) (n : Nat) : State :=
  ((t.accrue n).setHtr n BNK_HTR_STATUS_eff_duty (d.getD n 0)).setHtr n BNK_HTR_STATUS_budget_cut (boolNat (d.getD n 0 < tg.getD n 0))

/-- The budget's cut is told. -/
def State.cutTold (s0 s1 : State) (tg d1 : List Nat) : State :=
  if d1 ≠ tg ∧ (s1.bank.lastBudget = 0 ∨ s1.bank.lastBudget + 1000000000 ≤ s1.elapsed + 1) then
    (s1.setBank { s1.bank with lastBudget := s1.elapsed + 1 }).raise 0x0E15 1 (s0.firstCut tg d1) else s1

/-- The current guard's cut is shown and told. -/
def State.guardTold (s0 s2 : State) (d1 d2 : List Nat) : State :=
  if d2 ≠ d1 then
    let t := s2.setFld BNK_STATUS BNK_STATUS_sum_limit 1
    if t.bank.lastGuard = 0 ∨ t.bank.lastGuard + 1000000000 ≤ t.elapsed + 1 then
      (t.setBank { t.bank with lastGuard := t.elapsed + 1 }).raise 0x0E18 3 (s0.firstCut d1 d2) else t
  else s2

/-- The pulses that are long enough are measured. -/
def State.measured (s3 : State) (d2 currents : List Nat) (t : State) (n : Nat) : State :=
  if d2.getD n 0 ≠ 0 ∧ s3.longPulse (d2.getD n 0) then t.measure n (currents.getD n 0) else t

/-- The period start from its duties on. -/
def State.dutiesApplied (s0 : State) (tg d1 d2 currents : List Nat) : State :=
  let s3 := s0.guardTold (s0.cutTold ((List.range 12).foldl (State.dutyShown tg d2) s0) tg d1) d1 d2
  (List.range 12).foldl (s3.measured d2 currents) s3

/-- The duties of a period start after the budget reduction. -/
def State.budgetDuties (s0 : State) : List Nat :=
  cutDuties s0.cutOrder (((List.range 12).map s0.target).sum - s0.fld BNK_HTR_GLB BNK_HTR_GLB_budget) ((List.range 12).map s0.target)

/-- The duties in force. -/
def State.guardDuties (s0 : State) : List Nat := guardCut ((List.range 12).map s0.guardMa) 12100 s0.cutOrder s0.budgetDuties

theorem State.pwmPeriod_eq {s0 : State} (h0 : (List.range 12).foldl State.freshTaken s = s0) (currents : List Nat) :
    s.pwmPeriod currents = s0.dutiesApplied ((List.range 12).map s0.target) s0.budgetDuties s0.guardDuties currents := by
  unfold State.pwmPeriod
  extract_lets x tg budget d1 ma d2 s1 b1 s2 v b2 s3
  have ex : x = s0 := h0
  clear_value x
  subst ex
  have etg : tg = (List.range 12).map x.target := rfl
  have ebudget : budget = x.fld BNK_HTR_GLB BNK_HTR_GLB_budget := rfl
  have ema : ma = (List.range 12).map x.guardMa := rfl
  clear_value tg budget ma
  have ed1 : d1 = cutDuties x.cutOrder (tg.sum - budget) tg := rfl
  have ed2 : d2 = guardCut ma 12100 x.cutOrder d1 := rfl
  clear_value d2 d1
  have es1 : s1 = (List.range 12).foldl (State.dutyShown tg d2) x := rfl
  clear_value s1
  have es2 : s2 = x.cutTold s1 tg d1 := rfl
  clear_value s2
  have es3 : s3 = x.guardTold s2 d1 d2 := rfl
  clear_value s3
  rw [State.dutiesApplied, State.guardDuties, State.budgetDuties, ← etg, ← ebudget, ← ed1, ← ema, ← ed2, ← es1, ← es2, ← es3]
  rfl

theorem BNK_STATUS_ne (k : Nat) : BNK_HTR_STATUS k ≠ BNK_STATUS ∧ BNK_HTR_DEMAND k ≠ BNK_STATUS := by
  rw [BNK_HTR_STATUS, BNK_HTR_DEMAND, BNK_STATUS]
  omega

theorem ChanKept.cutTold (s0 s1 : State) (tg d1 : List Nat) (L : List Fld) : ChanKept s1 (s0.cutTold s1 tg d1) L := by
  rw [State.cutTold]
  split
  · exact (ChanKept.setBank s1 (b := { s1.bank with lastBudget := s1.elapsed + 1 }) rfl L).trans (ChanKept.raise _ (c := 0x0E15) (k := 1) _ _ (by decide) (by decide) L)
  · exact ChanKept.refl s1 L

theorem ChanKept.guardTold (s0 s2 : State) (d1 d2 : List Nat) (L : List Fld) : ChanKept s2 (s0.guardTold s2 d1 d2) L := by
  have hset := ChanKept.setFld s2 BNK_STATUS_ne BNK_STATUS_sum_limit 1 L
  rw [State.guardTold]
  split
  · generalize s2.setFld BNK_STATUS BNK_STATUS_sum_limit 1 = t at hset ⊢
    dsimp only
    split
    · exact hset.trans ((ChanKept.setBank t (b := { t.bank with lastGuard := t.elapsed + 1 }) rfl L).trans (ChanKept.raise _ (c := 0x0E18) (k := 3) _ _ (by decide) (by decide) L))
    · exact hset
  · exact ChanKept.refl s2 L

theorem ChanKept.measure (s : State) (n ma : Nat) (hL : ∀ g ∈ L, g.lo ≤ g.hi ∧ (g.hi < 14 ∨ 14 < g.lo)) : ChanKept s (s.measure n ma) L := by
  have h1 := ChanKept.accrue s n L
  have h2 := ChanKept.setFld (s.accrue n) (a := BNK_HTR_MEAS n) (fun k => ⟨(BNK_HTR_MEAS_ne_status n k).symm, BNK_HTR_DEMAND_ne_meas k n⟩) BNK_HTR_MEAS_i_ma (min ma 4095) L
  have h3 := fun r => ChanKept.setHeater ((s.accrue n).setFld (BNK_HTR_MEAS n) BNK_HTR_MEAS_i_ma (min ma 4095)) n
    (h := { (s.accrue n).heater n with measured := true, openRun := r }) rfl L
  rw [State.measure]
  generalize (if ma < s.fld (BNK_HTR_DIAG n) BNK_HTR_DIAG_open_ma then ((s.accrue n).heater n).openRun + 1 else 0) = run
  split
  · exact ((h1.trans h2).trans (h3 _)).trans ((ChanKept.setHtr _ n (f := BNK_HTR_STATUS_open_load) 1 (by decide) (by decide) hL).trans
      (ChanKept.raise _ (c := 0x0E10) (k := 3) _ _ (by decide) (by decide) L))
  · exact (h1.trans h2).trans (h3 _)

/-! The duties of a period -/

theorem getD_set (d : List Nat) (i x n : Nat) : (d.set i x).getD n 0 = if n = i ∧ i < d.length then x else d.getD n 0 := by
  rw [List.getD_eq_getElem?_getD, List.getD_eq_getElem?_getD, List.getElem?_set]
  by_cases h : i = n
  · subst h
    by_cases hlt : i < d.length
    · simp only [hlt, if_true, and_self, Option.getD_some]
    · simp only [hlt, if_true, if_false, and_false, List.getElem?_eq_none (Nat.le_of_not_lt hlt)]
  · rw [if_neg h, if_neg fun e => h e.1.symm]

theorem getD_set_sub_le (d : List Nat) (i x n : Nat) : (d.set i (d.getD i 0 - x)).getD n 0 ≤ d.getD n 0 := by
  rw [getD_set]
  split
  · next h => rw [h.1]; exact Nat.sub_le _ _
  · exact Nat.le_refl _

theorem cutDuties_le (l : List Nat) (excess : Nat) (d : List Nat) (n : Nat) : (cutDuties l excess d).getD n 0 ≤ d.getD n 0 := by
  induction l generalizing excess d with
  | nil => exact Nat.le_refl _
  | cons k l ih => exact (ih _ _).trans (getD_set_sub_le d k _ n)

theorem guardCut_le (ma : List Nat) (fuel : Nat) (l d : List Nat) (n : Nat) : (guardCut ma fuel l d).getD n 0 ≤ d.getD n 0 := by
  induction fuel generalizing l d with
  | zero =>
    rw [guardCut]
  | succ fuel ih =>
    cases l with
    | nil => exact Nat.le_refl _
    | cons k l =>
      rw [guardCut]
      split
      · exact Nat.le_refl _
      · split
        · exact ih l d
        · exact (ih (k :: l) _).trans (getD_set_sub_le d k 1 n)

theorem State.guardDuties_le (s : State) {n : Nat} (hn : n < 12) : s.guardDuties.getD n 0 ≤ s.target n := by
  have h := (guardCut_le ((List.range 12).map s.guardMa) 12100 s.cutOrder s.budgetDuties n).trans
    (cutDuties_le s.cutOrder (((List.range 12).map s.target).sum - s.fld BNK_HTR_GLB BNK_HTR_GLB_budget) ((List.range 12).map s.target) n)
  rwa [List.getD_eq_getElem?_getD (l := (List.range 12).map s.target), List.getElem?_map, List.getElem?_range hn] at h

theorem State.target_of_disabled (h : s.fld (BNK_HTR_CFG n) BNK_HTR_CFG_en = 0) : s.target n = 0 := by
  have hb : s.fldB (BNK_HTR_CFG n) BNK_HTR_CFG_en = false := by rw [State.fldB, h]; rfl
  rw [State.target, hb, Bool.not_false, Bool.or_true]
  rfl

/-! Fresh demands -/

/-- What the period start does with a channel's waiting demand: whether one waits, and whether the status is fresh and decaying. -/
def freshOf (x : Bool × Nat × Nat) : Bool × Nat × Nat := if x.1 then (false, 1, 0) else x

/-- A channel's waiting demand and the fields that its taking sets. -/
def State.freshCell (s : State) (n : Nat) : Bool × Nat × Nat := ((s.heater n).pendFresh, s.htr n BNK_HTR_STATUS_fresh, s.htr n BNK_HTR_STATUS_decaying)

theorem State.freshTaken_spec (s : State) (n : Nat) : (s.freshTaken n).freshCell n = freshOf (s.freshCell n) ∧
    (∀ k, k ≠ n → (s.freshTaken n).freshCell k = s.freshCell k) ∧ (∀ a, a ≠ BNK_HTR_STATUS n → (s.freshTaken n).rd a = s.rd a) ∧ s.bankFrame (s.freshTaken n) := by
  by_cases h : (s.heater n).pendFresh = true
  · have heq : s.freshTaken n = ((s.setHeater n { s.heater n with pendFresh := false }).setHtr n BNK_HTR_STATUS_fresh 1).setHtr n BNK_HTR_STATUS_decaying 0 := if_pos h
    have hself := (s.heater_setHeater n { s.heater n with pendFresh := false } n).trans (if_pos rfl)
    have hw1 := ChanWrite.setHeater s n { s.heater n with pendFresh := false }
    rw [heq]
    generalize s.setHeater n { s.heater n with pendFresh := false } = x at hself hw1 ⊢
    have hw2 := ChanWrite.setHtr x n BNK_HTR_STATUS_fresh 1
    have hone := x.htr_setHtr_same n BNK_HTR_STATUS_fresh 1 (by decide) (by decide)
    have hheater2 := x.heater_setHtr n BNK_HTR_STATUS_fresh 1 n
    generalize x.setHtr n BNK_HTR_STATUS_fresh 1 = y at hw2 hone hheater2 ⊢
    have hw3 := ChanWrite.setHtr y n BNK_HTR_STATUS_decaying 0
    have hzero := y.htr_setHtr_same n BNK_HTR_STATUS_decaying 0 (by decide) (by decide)
    have hkept := y.htr_setHtr_ne n (f := BNK_HTR_STATUS_decaying) (g := BNK_HTR_STATUS_fresh) 0 (by decide) (by decide) (by decide) (by decide)
    have hheater3 := y.heater_setHtr n BNK_HTR_STATUS_decaying 0 n
    generalize y.setHtr n BNK_HTR_STATUS_decaying 0 = z at hw3 hzero hkept hheater3 ⊢
    have hw := (hw1.trans hw2).trans hw3
    refine ⟨?_, fun k hk => ?_, hw.regs, hw.channel.frame⟩
    · rw [State.freshCell, State.freshCell, freshOf, if_pos h, hheater3, hheater2, hself, hkept, hone, hzero]
      rfl
    · have hrd : ∀ f, z.htr k f = s.htr k f := fun f => congrArg f.get (hw.regs _ fun e => hk (BNK_HTR_STATUS_inj e))
      rw [State.freshCell, State.freshCell, hw.others k hk, hrd, hrd]
  · have heq : s.freshTaken n = s := if_neg h
    rw [heq]
    refine ⟨?_, fun _ _ => rfl, fun _ _ => rfl, rfl⟩
    rw [freshOf, State.freshCell, if_neg h]

theorem foldl_freshTaken (s : State) (hn : n < 12) : ((List.range 12).foldl State.freshTaken s).freshCell n = freshOf (s.freshCell n) ∧
    (∀ a, (∀ k, a ≠ BNK_HTR_STATUS k) → ((List.range 12).foldl State.freshTaken s).rd a = s.rd a) ∧ s.bankFrame ((List.range 12).foldl State.freshTaken s) := by
  refine ⟨(foldl_cell State.freshTaken (fun t => t.freshCell n) (fun _ => True) n freshOf (fun _ t _ => (t.freshTaken_spec n).1)
    (fun t k _ _ hk => (t.freshTaken_spec k).2.1 n hk.symm) (fun _ _ _ _ => trivial) List.nodup_range trivial).1 (List.mem_range.2 hn), fun a ha => ?_, ?_⟩
  · exact List.foldlRecOn (motive := fun t : State => t.rd a = s.rd a) _ _ rfl fun t ht k _ => ((t.freshTaken_spec k).2.2.1 a (ha k)).trans ht
  · exact List.foldlRecOn (motive := fun t : State => s.bankFrame t) _ _ rfl fun t ht k _ => State.bankFrame.trans ht (t.freshTaken_spec k).2.2.2

/-! The duties in force are shown -/

theorem State.dutyShown_duty (tg d : List Nat) (t : State) (n : Nat) : (State.dutyShown tg d t n).htr n BNK_HTR_STATUS_eff_duty = d.getD n 0 % 1024 ∧
    ∀ k, k ≠ n → (State.dutyShown tg d t n).htr k BNK_HTR_STATUS_eff_duty = t.htr k BNK_HTR_STATUS_eff_duty := by
  rw [State.dutyShown]
  refine ⟨?_, fun k hk => ?_⟩
  · exact (State.htr_setHtr_ne _ n (f := BNK_HTR_STATUS_budget_cut) (g := BNK_HTR_STATUS_eff_duty) _ (by decide) (by decide) (by decide) (by decide)).trans
      ((t.accrue n).htr_setHtr_same n BNK_HTR_STATUS_eff_duty _ (by decide) (by decide))
  · exact (State.htr_setHtr_other _ hk _ _ _).trans ((t.accrue n).htr_setHtr_other hk _ _ _)

theorem ChanKept.dutyShown (tg d : List Nat) (t : State) (n : Nat) : ChanKept t (State.dutyShown tg d t n) [BNK_HTR_STATUS_fresh, BNK_HTR_STATUS_decaying] :=
  ((ChanKept.accrue t n _).trans (ChanKept.setHtr _ n (f := BNK_HTR_STATUS_eff_duty) _ (by decide) (by decide) (by decide))).trans
    (ChanKept.setHtr _ n (f := BNK_HTR_STATUS_budget_cut) _ (by decide) (by decide) (by decide))

theorem foldl_dutyShown (tg d : List Nat) (t : State) (hn : n < 12) : ((List.range 12).foldl (State.dutyShown tg d) t).htr n BNK_HTR_STATUS_eff_duty = d.getD n 0 % 1024 :=
  (foldl_cell (State.dutyShown tg d) (fun t => t.htr n BNK_HTR_STATUS_eff_duty) (fun _ => True) n (fun _ => d.getD n 0 % 1024) (fun _ t _ => (t.dutyShown_duty tg d n).1)
    (fun t k _ _ hk => (State.dutyShown_duty tg d t k).2 n hk.symm) (fun _ _ _ _ => trivial) List.nodup_range trivial).1 (List.mem_range.2 hn)

/-- A period start from its duties on. -/
theorem State.dutiesApplied_spec (s : State) (tg d1 d2 currents : List Nat) : ChanKept s (s.dutiesApplied tg d1 d2 currents) [BNK_HTR_STATUS_fresh, BNK_HTR_STATUS_decaying] ∧
    ∀ n < 12, (s.dutiesApplied tg d1 d2 currents).htr n BNK_HTR_STATUS_eff_duty = d2.getD n 0 % 1024 := by
  rw [State.dutiesApplied]
  have h1 := ChanKept.foldl (fun t k => ChanKept.dutyShown tg d2 t k) (l := List.range 12) s
  have hduty := fun n (hn : n < 12) => foldl_dutyShown tg d2 s hn
  generalize (List.range 12).foldl (State.dutyShown tg d2) s = x at h1 hduty ⊢
  have h2 := ChanKept.cutTold s x tg d1 [BNK_HTR_STATUS_eff_duty, BNK_HTR_STATUS_fresh, BNK_HTR_STATUS_decaying]
  generalize s.cutTold x tg d1 = y at h2 ⊢
  have h3 := ChanKept.guardTold s y d1 d2 [BNK_HTR_STATUS_eff_duty, BNK_HTR_STATUS_fresh, BNK_HTR_STATUS_decaying]
  generalize s.guardTold y d1 d2 = z at h3 ⊢
  have hstep : ∀ t k, ChanKept t (z.measured d2 currents t k) [BNK_HTR_STATUS_eff_duty, BNK_HTR_STATUS_fresh, BNK_HTR_STATUS_decaying] := fun t k => by
    rw [State.measured]
    split
    · exact ChanKept.measure t k _ (by decide)
    · exact ChanKept.refl t _
  have h := (h2.trans h3).trans (ChanKept.foldl hstep (l := List.range 12) z)
  exact ⟨h1.trans (h.mono (by decide)), fun n hn => (h.htr n _ (by decide)).trans (hduty n hn)⟩

theorem gives_pwmPeriod (n : Fin 12) (currents : List Nat) : Gives (.pwmPeriodStart currents) s (fun t => (t.heater n).pendFresh = false ∧
    (s.fld (BNK_HTR_CFG n) BNK_HTR_CFG_en = 0 → t.htr n BNK_HTR_STATUS_eff_duty = 0) ∧
    ((s.heater n).pendFresh = true → t.htr n BNK_HTR_STATUS_fresh = 1 ∧ t.htr n BNK_HTR_STATUS_decaying = 0) ∧
    t.fld (BNK_HTR_DEMAND n) BNK_HTR_DEMAND_duty = s.fld (BNK_HTR_DEMAND n) BNK_HTR_DEMAND_duty ∧ s.bankFrame t) := by
  obtain ⟨s0, h0⟩ : ∃ s0, (List.range 12).foldl State.freshTaken s = s0 := ⟨_, rfl⟩
  obtain ⟨hcell, hrd, hframe⟩ := foldl_freshTaken s n.isLt
  rw [h0] at hcell hrd hframe
  obtain ⟨hkept, hduty⟩ := s0.dutiesApplied_spec ((List.range 12).map s0.target) s0.budgetDuties s0.guardDuties currents
  have hgo := State.pwmPeriod_eq h0 currents
  generalize s0.dutiesApplied ((List.range 12).map s0.target) s0.budgetDuties s0.guardDuties currents = t at hkept hduty hgo
  have hpend : (s0.heater n).pendFresh = false := by
    have h := congrArg Prod.fst hcell
    rw [freshOf] at h
    split at h
    · exact h
    · next hp => exact h.trans (eq_false_of_ne_true hp)
  refine ⟨t, congrArg Host.Outcome.next hgo, (hkept.pend n).trans hpend, fun hen => ?_, fun hp => ?_, ?_, hframe.trans hkept.frame⟩
  · have hen0 : s0.fld (BNK_HTR_CFG n) BNK_HTR_CFG_en = 0 := (congrArg BNK_HTR_CFG_en.get (hrd _ fun k => by
      rw [BNK_HTR_CFG, BNK_HTR_STATUS]
      omega)).trans hen
    have hle := s0.guardDuties_le n.isLt
    rw [State.target_of_disabled hen0] at hle
    rw [hduty n n.isLt, Nat.le_zero.1 hle]
  · have hfresh := congrArg (fun x => x.2.1) hcell
    have hdec := congrArg (fun x => x.2.2) hcell
    rw [freshOf, if_pos (show (s.freshCell n).1 = true from hp)] at hfresh hdec
    exact ⟨(hkept.htr n _ (by decide)).trans hfresh, (hkept.htr n _ (by decide)).trans hdec⟩
  · exact congrArg BNK_HTR_DEMAND_duty.get ((hkept.demand n).trans (hrd _ fun k => BNK_HTR_DEMAND_ne_status n k))

end

end Sys2Proof.Machine

/-! The thermal model (R403). -/

namespace Sys2Proof.Machine

section
variable {s t u : State} {n : Nat}

/-- The model's resistance of a channel. -/
def State.rth (s : State) (n : Nat) : Nat := s.fld (BNK_HTR_MODEL n) BNK_HTR_MODEL_r_th

/-- The model's next value, from the power averaged since its last update. -/
def State.nextTheta (s : State) (n : Nat) : Nat :=
  thetaStep (s.heater n).theta (s.rth n) (max 1 (s.fld (BNK_HTR_MODEL n) BNK_HTR_MODEL_tau_s))
    (if s.elapsed - s.bank.modelAt = 0 then s.fld (BNK_HTR_MEAS n) BNK_HTR_MEAS_i_ma * s.pins.vbat * s.htr n BNK_HTR_STATUS_eff_duty else s.supplied n)
    (max 1 (s.elapsed - s.bank.modelAt))

/-- The value at which a channel is clamped, and the one at which it is freed. -/
def State.clampAt (s : State) (n : Nat) : Nat := s.fld (BNK_HTR_LIMIT n) BNK_HTR_LIMIT_th_max * 256
def State.freeAt (s : State) (n : Nat) : Nat :=
  (s.fld (BNK_HTR_LIMIT n) BNK_HTR_LIMIT_th_max - min (s.fld (BNK_HTR_LIMIT n) BNK_HTR_LIMIT_th_hyst) (s.fld (BNK_HTR_LIMIT n) BNK_HTR_LIMIT_th_max)) * 256

/-- The update clamps the channel. -/
def State.clamps (s : State) (n : Nat) : Bool := decide (s.rth n ≠ 0 ∧ s.htr n BNK_HTR_STATUS_model_clamp = 0 ∧ s.clampAt n ≤ s.nextTheta n)

/-- The event of a channel's update. -/
def State.clampEvents (s : State) (n : Nat) : List (Nat × Nat × Nat) := if s.clamps n then [(0x0E13, 2, n)] else []

/-- What an update leaves of one channel. -/
structure ModelCell (s t : State) (n : Nat) : Prop where
  heater : t.heater n = { s.heater n with energy := 0, since := s.elapsed, theta := if s.rth n = 0 then (s.heater n).theta else s.nextTheta n }
  none : s.rth n = 0 → t.htr n BNK_HTR_STATUS_model_clamp = 0
  shown : s.rth n ≠ 0 → t.fld (BNK_HTR_MEAS n) BNK_HTR_MEAS_theta = min (s.nextTheta n / 256) 65535
  clamped : s.clamps n = true → t.htr n BNK_HTR_STATUS_model_clamp = 1 ∧ t.htr n BNK_HTR_STATUS_eff_duty = 0
  below : s.rth n ≠ 0 → s.htr n BNK_HTR_STATUS_model_clamp = 0 → s.nextTheta n < s.clampAt n → t.htr n BNK_HTR_STATUS_model_clamp = 0
  freed : s.rth n ≠ 0 → s.htr n BNK_HTR_STATUS_model_clamp ≠ 0 → s.nextTheta n ≤ s.freeAt n → t.htr n BNK_HTR_STATUS_model_clamp = 0
  held : s.rth n ≠ 0 → s.htr n BNK_HTR_STATUS_model_clamp ≠ 0 → s.freeAt n < s.nextTheta n → t.htr n BNK_HTR_STATUS_model_clamp ≠ 0

/-- One channel's state, status and measurement register, events and their frames may have changed, and nothing else. -/
structure ModelFrame (s t : State) (n : Nat) : Prop where
  others : ∀ k, k ≠ n → t.heater k = s.heater k
  regs : s.onlyRegs t [BNK_HTR_STATUS n, BNK_HTR_MEAS n]
  frame : s.bankFrame t
  bank : t.bank = { s.bank with heaters := t.bank.heaters }

theorem Channel.modelFrame (h : Channel s t n) : ModelFrame s t n :=
  ⟨h.others, fun a ha hl => h.regs a (fun e => ha (List.mem_cons.2 (.inl (List.mem_singleton.1 e)))) hl, h.frame, h.bank⟩

theorem ModelFrame.trans (h1 : ModelFrame s t n) (h2 : ModelFrame t u n) : ModelFrame s u n :=
  ⟨fun k hk => (h2.others k hk).trans (h1.others k hk), fun a ha hl => (h2.regs a ha hl).trans (h1.regs a ha hl), h1.frame.trans h2.frame, by rw [h2.bank, h1.bank]⟩

theorem ModelFrame.of_bankFrame (h : s.bankFrame t) : t.running = s.running ∧ t.elapsed = s.elapsed ∧ t.pins = s.pins := by
  obtain ⟨r, f, b, o, k, he⟩ := State.bankFrame_iff.1 h
  rw [he]
  exact ⟨rfl, rfl, rfl⟩

theorem BNK_HTR_MEAS_not_lost (n : Nat) : BNK_HTR_MEAS n < FLT_SRC_LOST 1 ∨ FLT_SRC_LOST 16 < BNK_HTR_MEAS n := by
  rw [BNK_HTR_MEAS, FLT_SRC_LOST, FLT_SRC_LOST]
  omega

/-- The channel's power is taken, and its new temperature shown. -/
def State.thetaShown (s : State) (n th : Nat) : State :=
  let s0 := s.setHeater n { (s.accrue n).heater n with energy := 0 }
  (s0.setHeater n { s0.heater n with theta := th }).setFld (BNK_HTR_MEAS n) BNK_HTR_MEAS_theta (min (th / 256) 0xFFFF)

theorem State.modelUpdate1_none (h : s.rth n = 0) : s.modelUpdate1 n = (s.setHeater n { (s.accrue n).heater n with energy := 0 }).setHtr n BNK_HTR_STATUS_model_clamp 0 := if_pos h

theorem State.modelUpdate1_some (hr : s.rth n ≠ 0) : s.modelUpdate1 n =
    if s.htr n BNK_HTR_STATUS_model_clamp = 0 then
      if s.clampAt n ≤ s.nextTheta n then (((s.thetaShown n (s.nextTheta n)).heaterOff n).setHtr n BNK_HTR_STATUS_model_clamp 1).raise 0x0E13 2 n
      else s.thetaShown n (s.nextTheta n)
    else if s.nextTheta n ≤ s.freeAt n then (s.thetaShown n (s.nextTheta n)).setHtr n BNK_HTR_STATUS_model_clamp 0
    else s.thetaShown n (s.nextTheta n) := by
  rw [State.rth] at hr
  have hpaid := (s.heater_accrue n n).trans (if_pos rfl)
  unfold State.modelUpdate1 State.clampAt State.freeAt State.nextTheta State.rth State.thetaShown
  rw [hpaid, if_neg hr]
  rfl

theorem State.modelUpdate1_clamps (h : s.clamps n = true) :
    s.modelUpdate1 n = (((s.thetaShown n (s.nextTheta n)).heaterOff n).setHtr n BNK_HTR_STATUS_model_clamp 1).raise 0x0E13 2 n := by
  obtain ⟨hr, hc, hle⟩ := of_decide_eq_true h
  rw [State.modelUpdate1_some hr, if_pos hc, if_pos hle]

theorem State.modelUpdate1_below (hr : s.rth n ≠ 0) (hc : s.htr n BNK_HTR_STATUS_model_clamp = 0) (h : s.nextTheta n < s.clampAt n) :
    s.modelUpdate1 n = s.thetaShown n (s.nextTheta n) := by
  rw [State.modelUpdate1_some hr, if_pos hc, if_neg (Nat.not_le.2 h)]

theorem State.modelUpdate1_freed (hr : s.rth n ≠ 0) (hc : s.htr n BNK_HTR_STATUS_model_clamp ≠ 0) (h : s.nextTheta n ≤ s.freeAt n) :
    s.modelUpdate1 n = (s.thetaShown n (s.nextTheta n)).setHtr n BNK_HTR_STATUS_model_clamp 0 := by
  rw [State.modelUpdate1_some hr, if_neg hc, if_pos h]

theorem State.modelUpdate1_held (hr : s.rth n ≠ 0) (hc : s.htr n BNK_HTR_STATUS_model_clamp ≠ 0) (h : s.freeAt n < s.nextTheta n) :
    s.modelUpdate1 n = s.thetaShown n (s.nextTheta n) := by
  rw [State.modelUpdate1_some hr, if_neg hc, if_neg (Nat.not_le.2 h)]

theorem State.regs_setHeater (s : State) (n : Nat) (h : Heater) : (s.setHeater n h).regs = s.regs := rfl

theorem State.thetaShown_spec (s : State) (n th : Nat) :
    (s.thetaShown n th).heater n = { s.heater n with energy := 0, since := s.elapsed, theta := th } ∧
      (∀ k, k ≠ n → (s.thetaShown n th).heater k = s.heater k) ∧ (∀ a, a ≠ BNK_HTR_MEAS n → (s.thetaShown n th).rd a = s.rd a) ∧
      (s.thetaShown n th).fld (BNK_HTR_MEAS n) BNK_HTR_MEAS_theta = min (th / 256) 65535 ∧
      s.thetaShown n th = { s with regs := (s.thetaShown n th).regs, bank := { s.bank with heaters := (s.thetaShown n th).bank.heaters } } := by
  have hacc := (s.heater_accrue n n).trans (if_pos rfl)
  rw [State.thetaShown, hacc]
  dsimp only
  have hself := (s.heater_setHeater n { s.paid n with energy := 0 } n).trans (if_pos rfl)
  rw [hself]
  have hw1 := ChanWrite.setHeater s n { s.paid n with energy := 0 }
  have hregs1 := s.regs_setHeater n { s.paid n with energy := 0 }
  generalize s.setHeater n { s.paid n with energy := 0 } = x at hw1 hregs1 ⊢
  have hself2 := (x.heater_setHeater n { s.paid n with energy := 0, theta := th } n).trans (if_pos rfl)
  have hw2 := hw1.trans (ChanWrite.setHeater x n { s.paid n with energy := 0, theta := th })
  have hregs2 := (x.regs_setHeater n { s.paid n with energy := 0, theta := th }).trans hregs1
  generalize x.setHeater n { s.paid n with energy := 0, theta := th } = y at hself2 hw2 hregs2 ⊢
  have hshown := State.fld_setFld_same (f := BNK_HTR_MEAS_theta) y (BNK_HTR_MEAS n) (min (th / 256) 65535) (by decide) (by decide)
  have hset := y.wroteRegs_setFld (l := [BNK_HTR_MEAS n]) BNK_HTR_MEAS_theta (min (th / 256) 65535) (List.mem_singleton_self _)
  generalize y.setFld (BNK_HTR_MEAS n) BNK_HTR_MEAS_theta (min (th / 256) 65535) = z at hshown hset ⊢
  have hz : ∀ k, z.heater k = y.heater k := State.heater_congr (by rw [hset.2])
  refine ⟨(hz n).trans hself2, fun k hk => (hz k).trans (hw2.others k hk), fun a ha => ?_, hshown.trans ?_, ?_⟩
  · exact (hset.1 a (fun h => ha (List.mem_singleton.1 h))).trans (State.rd_congr hregs2 a)
  · rw [show 2 ^ BNK_HTR_MEAS_theta.width = 65536 from rfl]
    exact Nat.mod_eq_of_lt (Nat.lt_succ_of_le (Nat.min_le_right _ _))
  · rw [hset.2, hw2.frame]

theorem State.thetaShown_frame (s : State) (n th : Nat) : ModelFrame s (s.thetaShown n th) n ∧ (s.thetaShown n th).flt = s.flt ∧
    (s.thetaShown n th).running = s.running ∧ (s.thetaShown n th).elapsed = s.elapsed ∧ ∀ f, (s.thetaShown n th).htr n f = s.htr n f := by
  obtain ⟨-, hothers, hrd, -, hframe⟩ := s.thetaShown_spec n th
  generalize s.thetaShown n th = t at hothers hrd hframe ⊢
  have hbf : s.bankFrame t := State.bankFrame_iff.2 ⟨_, _, _, _, _, hframe⟩
  exact ⟨⟨hothers, fun a ha _ => hrd a (fun h => ha (List.mem_cons_of_mem _ (List.mem_singleton.2 h))), hbf, by rw [hframe]⟩, by rw [hframe],
    (ModelFrame.of_bankFrame hbf).1, by rw [hframe], fun f => congrArg f.get (hrd _ (BNK_HTR_MEAS_ne_status n n).symm)⟩

/-- The cell of a channel whose temperature is shown and whose clamp stands at `c`. -/
theorem ModelCell.of_shown (hr : s.rth n ≠ 0) (hheater : t.heater n = { s.heater n with energy := 0, since := s.elapsed, theta := s.nextTheta n })
    (hshown : t.fld (BNK_HTR_MEAS n) BNK_HTR_MEAS_theta = min (s.nextTheta n / 256) 65535)
    (hclamped : s.clamps n = true → t.htr n BNK_HTR_STATUS_model_clamp = 1 ∧ t.htr n BNK_HTR_STATUS_eff_duty = 0)
    (hbelow : s.htr n BNK_HTR_STATUS_model_clamp = 0 → s.nextTheta n < s.clampAt n → t.htr n BNK_HTR_STATUS_model_clamp = 0)
    (hfreed : s.htr n BNK_HTR_STATUS_model_clamp ≠ 0 → s.nextTheta n ≤ s.freeAt n → t.htr n BNK_HTR_STATUS_model_clamp = 0)
    (hheld : s.htr n BNK_HTR_STATUS_model_clamp ≠ 0 → s.freeAt n < s.nextTheta n → t.htr n BNK_HTR_STATUS_model_clamp ≠ 0) : ModelCell s t n :=
  ⟨by rw [hheater, if_neg hr], fun h => absurd h hr, fun _ => hshown, hclamped, fun _ => hbelow, fun _ => hfreed, fun _ => hheld⟩

theorem State.clamps_eq_false (h : s.rth n = 0 ∨ s.htr n BNK_HTR_STATUS_model_clamp ≠ 0 ∨ s.nextTheta n < s.clampAt n) : s.clamps n = false := by
  refine decide_eq_false fun hc => ?_
  obtain ⟨hr, hz, hle⟩ := hc
  rcases h with h | h | h
  · exact hr h
  · exact h hz
  · exact absurd hle (Nat.not_le.2 h)

theorem State.clampEvents_eq_nil (h : s.clamps n = false) : s.clampEvents n = [] := by rw [State.clampEvents, h, if_neg Bool.false_ne_true]

theorem State.modelUpdate1_spec (s : State) (hn : n < 12) : ModelCell s (s.modelUpdate1 n) n ∧ ModelFrame s (s.modelUpdate1 n) n ∧ s.logs (s.modelUpdate1 n) 14 (s.clampEvents n) := by
  by_cases hr : s.rth n = 0
  · have hc := State.clamps_eq_false (s := s) (n := n) (.inl hr)
    have hacc := (s.heater_accrue n n).trans (if_pos rfl)
    have hself := (s.heater_setHeater n { s.paid n with energy := 0 } n).trans (if_pos rfl)
    have hw1 := ChanWrite.setHeater s n { s.paid n with energy := 0 }
    rw [State.modelUpdate1_none hr, hacc, State.clampEvents_eq_nil hc]
    generalize s.setHeater n { s.paid n with energy := 0 } = x at hself hw1 ⊢
    have hw := hw1.trans (ChanWrite.setHtr x n BNK_HTR_STATUS_model_clamp 0)
    have hzero := x.htr_setHtr_same n BNK_HTR_STATUS_model_clamp 0 (by decide) (by decide)
    have hheater := (x.heater_setHtr n BNK_HTR_STATUS_model_clamp 0 n).trans hself
    generalize x.setHtr n BNK_HTR_STATUS_model_clamp 0 = t at hw hzero hheater ⊢
    refine ⟨⟨?_, fun _ => hzero, fun h => absurd hr h, fun h => absurd (hc.symm.trans h) (by decide), fun h => absurd hr h, fun h => absurd hr h, fun h => absurd hr h⟩,
      hw.channel.modelFrame, State.logs_of_flt hw.flt⟩
    rw [hheater, if_pos hr]
    rfl
  · obtain ⟨hheater, -, hrd, hshown, -⟩ := s.thetaShown_spec n (s.nextTheta n)
    obtain ⟨hframe, hflt, hrun, helapsed, hhtr⟩ := s.thetaShown_frame n (s.nextTheta n)
    by_cases hz : s.htr n BNK_HTR_STATUS_model_clamp = 0
    · rcases Nat.lt_or_ge (s.nextTheta n) (s.clampAt n) with hlt | hge
      · have hc := State.clamps_eq_false (s := s) (n := n) (.inr (.inr hlt))
        rw [State.modelUpdate1_below hr hz hlt, State.clampEvents_eq_nil hc]
        exact ⟨ModelCell.of_shown hr hheater hshown (fun h => absurd (hc.symm.trans h) (by decide)) (fun _ _ => (hhtr _).trans hz) (fun h => absurd hz h) (fun h => absurd hz h),
          hframe, State.logs_of_flt hflt⟩
      · have hc : s.clamps n = true := decide_eq_true ⟨hr, hz, hge⟩
        rw [State.modelUpdate1_clamps hc, State.clampEvents, if_pos hc]
        generalize s.thetaShown n (s.nextTheta n) = x at hheater hshown hframe hflt hrun helapsed hhtr ⊢
        have hoff := ChanWrite.heaterOff x n
        have hduty := x.htr_heaterOff_duty n
        have hoffH : (x.heaterOff n).heater n = x.heater n :=
          ((x.heater_heaterOff n n).trans (if_pos rfl)).trans (State.paid_of_since (by rw [hheater, helapsed]))
        generalize x.heaterOff n = y at hoff hduty hoffH ⊢
        have hset := ChanWrite.setHtr y n BNK_HTR_STATUS_model_clamp 1
        have hone := y.htr_setHtr_same n BNK_HTR_STATUS_model_clamp 1 (by decide) (by decide)
        have hdutyS := y.htr_setHtr_ne n (f := BNK_HTR_STATUS_model_clamp) (g := BNK_HTR_STATUS_eff_duty) 1 (by decide) (by decide) (by decide) (by decide)
        have hsetH := y.heater_setHtr n BNK_HTR_STATUS_model_clamp 1 n
        generalize y.setHtr n BNK_HTR_STATUS_model_clamp 1 = z at hset hone hdutyS hsetH ⊢
        have hw := hoff.trans hset
        have hzhtr := fun f => z.htr_raise (c := 0x0E13) 2 n 0 (by decide) n f
        have hlog := z.logs_raise (c := 0x0E13) (k := 2) n 0
        rw [Nat.mod_eq_of_lt (show n < 4096 by omega)] at hlog
        have hmeas : (z.raise 0x0E13 2 n).rd (BNK_HTR_MEAS n) = x.rd (BNK_HTR_MEAS n) :=
          ((z.raise_frame 0x0E13 2 n 0 (by decide)).onlyRegs [] _ List.not_mem_nil (BNK_HTR_MEAS_not_lost n)).trans (hw.regs _ (BNK_HTR_MEAS_ne_status n n))
        refine ⟨ModelCell.of_shown hr ?_ ((congrArg BNK_HTR_MEAS_theta.get hmeas).trans hshown) (fun _ => ⟨(hzhtr _).trans hone, (hzhtr _).trans (hdutyS.trans hduty)⟩)
          (fun _ h => absurd hge (Nat.not_le.2 h)) (fun h => absurd hz h) (fun h => absurd hz h),
          hframe.trans (hw.channel.trans (Channel.raise z n n 0 (by decide) (by decide))).modelFrame, ?_⟩
        · exact (z.heater_raise 0x0E13 n 0 (by decide) n).trans (hsetH.trans (hoffH.trans hheater))
        · exact State.logs.trans (es := []) (State.logs_of_flt (hw.flt.trans hflt)) (hw.running.trans hrun) hlog
    · have hc := State.clamps_eq_false (s := s) (n := n) (.inr (.inl hz))
      rw [State.clampEvents_eq_nil hc]
      rcases Nat.lt_or_ge (s.freeAt n) (s.nextTheta n) with hlt | hge
      · rw [State.modelUpdate1_held hr hz hlt]
        exact ⟨ModelCell.of_shown hr hheater hshown (fun h => absurd (hc.symm.trans h) (by decide)) (fun h => absurd h hz) (fun _ h => absurd hlt (Nat.not_lt.2 h))
          (fun _ _ => by rw [hhtr]; exact hz), hframe, State.logs_of_flt hflt⟩
      · rw [State.modelUpdate1_freed hr hz hge]
        generalize s.thetaShown n (s.nextTheta n) = x at hheater hrd hshown hframe hflt hrun helapsed hhtr ⊢
        have hset := ChanWrite.setHtr x n BNK_HTR_STATUS_model_clamp 0
        have hzero := x.htr_setHtr_same n BNK_HTR_STATUS_model_clamp 0 (by decide) (by decide)
        have hsetH := x.heater_setHtr n BNK_HTR_STATUS_model_clamp 0 n
        generalize x.setHtr n BNK_HTR_STATUS_model_clamp 0 = t at hset hzero hsetH ⊢
        exact ⟨ModelCell.of_shown hr (hsetH.trans hheater) ((congrArg BNK_HTR_MEAS_theta.get (hset.regs _ (BNK_HTR_MEAS_ne_status n n))).trans hshown)
          (fun h => absurd (hc.symm.trans h) (by decide)) (fun h => absurd h hz) (fun _ _ => hzero) (fun _ h => absurd hge (Nat.not_le.2 h)),
          hframe.trans hset.channel.modelFrame, State.logs_of_flt (hset.flt.trans hflt)⟩

/-! All channels -/

/-- What a channel's update reads is the same. -/
structure ModelSame (s t : State) (n : Nat) : Prop where
  heater : t.heater n = s.heater n
  model : t.rd (BNK_HTR_MODEL n) = s.rd (BNK_HTR_MODEL n)
  limit : t.rd (BNK_HTR_LIMIT n) = s.rd (BNK_HTR_LIMIT n)
  meas : t.rd (BNK_HTR_MEAS n) = s.rd (BNK_HTR_MEAS n)
  status : t.rd (BNK_HTR_STATUS n) = s.rd (BNK_HTR_STATUS n)
  elapsed : t.elapsed = s.elapsed
  vbat : t.pins = s.pins
  modelAt : t.bank.modelAt = s.bank.modelAt

theorem ModelSame.facts (h : ModelSame s t n) : t.rth n = s.rth n ∧ t.nextTheta n = s.nextTheta n ∧ t.clampAt n = s.clampAt n ∧ t.freeAt n = s.freeAt n ∧
    (∀ f, t.htr n f = s.htr n f) ∧ t.clamps n = s.clamps n := by
  have hr : t.rth n = s.rth n := congrArg BNK_HTR_MODEL_r_th.get h.model
  have hs : ∀ f, t.htr n f = s.htr n f := fun f => congrArg f.get h.status
  have hsup : t.supplied n = s.supplied n := congrArg Heater.energy (State.supplied_congr n h.heater h.meas h.status h.vbat h.elapsed)
  have hth : t.nextTheta n = s.nextTheta n := by
    rw [State.nextTheta, State.nextTheta, hr, hs, hsup, h.heater, h.elapsed, h.modelAt, h.vbat, State.fld, State.fld, h.model, h.meas]
    rfl
  have hcl : t.clampAt n = s.clampAt n := by
    rw [State.clampAt, State.clampAt, State.fld, h.limit]
    rfl
  have hfr : t.freeAt n = s.freeAt n := by
    rw [State.freeAt, State.freeAt, State.fld, State.fld, h.limit]
    rfl
  exact ⟨hr, hth, hcl, hfr, hs, by rw [State.clamps, State.clamps, hr, hth, hcl, hs]⟩

theorem ModelCell.congr (hc : ModelCell t u n) (h : ModelSame s t n) : ModelCell s u n := by
  obtain ⟨hr, hth, hcl, hfr, hs, hclamps⟩ := h.facts
  obtain ⟨h1, h2, h3, h4, h5, h6, h7⟩ := hc
  rw [h.heater, h.elapsed, hr, hth] at h1
  rw [hr] at h2 h3 h5 h6 h7
  rw [hth] at h3 h5 h6 h7
  rw [hclamps] at h4
  rw [hs, hcl] at h5
  rw [hs, hfr] at h6 h7
  exact ⟨h1, h2, h3, h4, h5, h6, h7⟩

theorem BNK_regs_ne {n k : Nat} (hne : n ≠ k) : BNK_HTR_MODEL n ∉ [BNK_HTR_STATUS k, BNK_HTR_MEAS k] ∧ BNK_HTR_LIMIT n ∉ [BNK_HTR_STATUS k, BNK_HTR_MEAS k] ∧
    BNK_HTR_MEAS n ∉ [BNK_HTR_STATUS k, BNK_HTR_MEAS k] ∧ BNK_HTR_STATUS n ∉ [BNK_HTR_STATUS k, BNK_HTR_MEAS k] := by
  simp only [List.mem_cons, List.not_mem_nil, or_false, BNK_HTR_MODEL, BNK_HTR_LIMIT, BNK_HTR_MEAS, BNK_HTR_STATUS]
  omega

theorem BNK_HTR_MODEL_not_lost (n : Nat) : (BNK_HTR_MODEL n < FLT_SRC_LOST 1 ∨ FLT_SRC_LOST 16 < BNK_HTR_MODEL n) ∧ (BNK_HTR_LIMIT n < FLT_SRC_LOST 1 ∨ FLT_SRC_LOST 16 < BNK_HTR_LIMIT n) := by
  rw [BNK_HTR_MODEL, BNK_HTR_LIMIT, FLT_SRC_LOST, FLT_SRC_LOST]
  omega

theorem BNK_HTR_STATUS_not_lost (n : Nat) : BNK_HTR_STATUS n < FLT_SRC_LOST 1 ∨ FLT_SRC_LOST 16 < BNK_HTR_STATUS n := isSrcLost_eq_false.1 isSrcLost_htrStatus

theorem ModelFrame.same {k : Nat} (h : ModelFrame s t k) (hne : n ≠ k) : ModelSame s t n := by
  obtain ⟨h1, h2, h3, h4⟩ := BNK_regs_ne hne
  obtain ⟨-, helapsed, hpins⟩ := ModelFrame.of_bankFrame h.frame
  exact ⟨h.others n hne, h.regs _ h1 (BNK_HTR_MODEL_not_lost n).1, h.regs _ h2 (BNK_HTR_MODEL_not_lost n).2, h.regs _ h3 (BNK_HTR_MEAS_not_lost n),
    h.regs _ h4 (BNK_HTR_STATUS_not_lost n), helapsed, hpins, by rw [h.bank]⟩

/-- A later update of another channel leaves this one's cell as it is. -/
theorem ModelCell.kept (hc : ModelCell s t n) (hheater : u.heater n = t.heater n) (hstatus : u.rd (BNK_HTR_STATUS n) = t.rd (BNK_HTR_STATUS n))
    (hmeas : u.rd (BNK_HTR_MEAS n) = t.rd (BNK_HTR_MEAS n)) : ModelCell s u n := by
  have hs : ∀ f, u.htr n f = t.htr n f := fun f => congrArg f.get hstatus
  refine ⟨hheater.trans hc.heater, fun h => (hs _).trans (hc.none h), fun h => (congrArg BNK_HTR_MEAS_theta.get hmeas).trans (hc.shown h),
    fun h => ⟨(hs _).trans (hc.clamped h).1, (hs _).trans (hc.clamped h).2⟩, fun h h' h'' => (hs _).trans (hc.below h h' h''),
    fun h h' h'' => (hs _).trans (hc.freed h h' h''), fun h h' h'' => ?_⟩
  rw [hs]
  exact hc.held h h' h''

/-- The registers of an update. -/
def modelRegs (l : List Nat) : List Nat := l.map BNK_HTR_STATUS ++ l.map BNK_HTR_MEAS

theorem foldl_modelUpdate1 (l : List Nat) (hl : l.Nodup) (hlt : ∀ n ∈ l, n < 12) (s : State) :
    let t := l.foldl State.modelUpdate1 s
    (∀ n ∈ l, ModelCell s t n) ∧ (∀ n, n ∉ l → t.heater n = s.heater n) ∧ s.onlyRegs t (modelRegs l) ∧ s.bankFrame t ∧ t.bank = { s.bank with heaters := t.bank.heaters } ∧
      s.logs t 14 (l.flatMap s.clampEvents) := by
  induction l generalizing s with
  | nil => exact ⟨fun n h => absurd h List.not_mem_nil, fun _ _ => rfl, State.onlyRegs.refl s _, rfl, rfl, State.logs.refl s 14⟩
  | cons k l ih =>
    obtain ⟨hk, hl⟩ := List.nodup_cons.1 hl
    have hk12 := hlt k List.mem_cons_self
    obtain ⟨hcell, hframe, hlog⟩ := s.modelUpdate1_spec hk12
    obtain ⟨hcells, hothers, hregs, hbf, hbank, hlog'⟩ := ih hl (fun n hn => hlt n (List.mem_cons_of_mem _ hn)) (s.modelUpdate1 k)
    rw [List.foldl_cons]
    generalize s.modelUpdate1 k = x at hcell hframe hlog hcells hothers hregs hbf hbank hlog' ⊢
    have hne : ∀ n ∈ l, n ≠ k := fun n hn e => hk (e ▸ hn)
    have hrun : x.running = s.running := (ModelFrame.of_bankFrame hframe.frame).1
    refine ⟨fun n hn => ?_, fun n hn => ?_, fun a ha hal => ?_, hframe.frame.trans hbf, by rw [hbank, hframe.bank], ?_⟩
    · rcases List.mem_cons.1 hn with rfl | hn
      · have hst : BNK_HTR_STATUS n ∉ modelRegs l := by
          rw [modelRegs, List.mem_append, not_or]
          refine ⟨fun h => ?_, fun h => ?_⟩
          · obtain ⟨j, hj, he⟩ := List.mem_map.1 h
            exact hk (BNK_HTR_STATUS_inj he ▸ hj)
          · obtain ⟨j, -, he⟩ := List.mem_map.1 h
            exact BNK_HTR_MEAS_ne_status j n he
        have hme : BNK_HTR_MEAS n ∉ modelRegs l := by
          rw [modelRegs, List.mem_append, not_or]
          refine ⟨fun h => ?_, fun h => ?_⟩
          · obtain ⟨j, -, he⟩ := List.mem_map.1 h
            exact BNK_HTR_MEAS_ne_status n j he.symm
          · obtain ⟨j, hj, he⟩ := List.mem_map.1 h
            exact hk (BNK_HTR_MEAS_inj he ▸ hj)
        exact hcell.kept (hothers n hk) (hregs _ hst (BNK_HTR_STATUS_not_lost n)) (hregs _ hme (BNK_HTR_MEAS_not_lost n))
      · exact (hcells n hn).congr (hframe.same (hne n hn))
    · rw [List.mem_cons, not_or] at hn
      exact (hothers n hn.2).trans (hframe.others n hn.1)
    · rw [modelRegs, List.map_cons, List.map_cons, List.cons_append, List.mem_cons, List.mem_append, List.mem_cons, not_or, not_or, not_or] at ha
      obtain ⟨ha1, ha2, ha3, ha4⟩ := ha
      refine (hregs a ?_ hal).trans (hframe.regs a ?_ hal)
      · rw [modelRegs, List.mem_append, not_or]
        exact ⟨ha2, ha4⟩
      · simp only [List.mem_cons, List.not_mem_nil, or_false, not_or]
        exact ⟨ha1, ha3⟩
    · have hevents : l.flatMap s.clampEvents = l.flatMap x.clampEvents := List.flatMap_congr fun n hn => by
        rw [State.clampEvents, State.clampEvents, (hframe.same (hne n hn)).facts.2.2.2.2.2]
      rw [List.flatMap_cons, hevents]
      exact hlog.trans hrun hlog'

theorem length_clampEvents (s : State) (l : List Nat) : (l.flatMap s.clampEvents).length ≤ l.length := by
  induction l with
  | nil => exact Nat.le_refl _
  | cons n l ih =>
    rw [List.flatMap_cons, List.length_append, List.length_cons, State.clampEvents]
    split
    · exact (Nat.add_comm _ _).trans_le (Nat.add_le_add_right ih 1)
    · exact (Nat.zero_add _).trans_le (ih.trans (Nat.le_succ _))

theorem gives_thermalModel (s : State) : ∃ t, exec .thermalModelUpdate s = .next t ∧ (∀ n < 12, ModelCell s t n ∧ (s.clamps n = true → s.tells t 12 0x0E13 2 n)) ∧
    s.onlyRegs t (htrStatus ++ (List.range 12).map BNK_HTR_MEAS) ∧ s.bankFrame t ∧ t.bank = { s.bank with heaters := t.bank.heaters, modelAt := s.elapsed } := by
  obtain ⟨hcells, -, hregs, hbf, hbank, hlog⟩ := foldl_modelUpdate1 (List.range 12) List.nodup_range (fun n hn => List.mem_range.1 hn) s
  have hgo : s.modelUpdate = ((List.range 12).foldl State.modelUpdate1 s).setBank { ((List.range 12).foldl State.modelUpdate1 s).bank with modelAt := s.elapsed } := rfl
  generalize (List.range 12).foldl State.modelUpdate1 s = x at hcells hregs hbf hbank hlog hgo
  have hx : x.setBank { x.bank with modelAt := s.elapsed } = { x with bank := { x.bank with modelAt := s.elapsed } } := rfl
  have hheaters : (x.setBank { x.bank with modelAt := s.elapsed }).bank.heaters = x.bank.heaters := rfl
  have hbank' : (x.setBank { x.bank with modelAt := s.elapsed }).bank = { x.bank with modelAt := s.elapsed } := rfl
  have htregs : (x.setBank { x.bank with modelAt := s.elapsed }).regs = x.regs := rfl
  have htflt : (x.setBank { x.bank with modelAt := s.elapsed }).flt = x.flt := rfl
  generalize x.setBank { x.bank with modelAt := s.elapsed } = t at hgo hx hheaters hbank' htregs htflt
  have hrd : ∀ a, t.rd a = x.rd a := State.rd_congr htregs
  have hxrun : x.running = s.running := (ModelFrame.of_bankFrame hbf).1
  have htlog := hlog.then_none hxrun (State.logs_of_flt htflt)
  refine ⟨t, congrArg Host.Outcome.next hgo, fun n hn => ⟨(hcells n (List.mem_range.2 hn)).kept (State.heater_congr hheaters n) (hrd _) (hrd _), fun hc => ?_⟩,
    fun a ha hl => (hrd a).trans (hregs a ha hl), ?_, ?_⟩
  · refine htlog.tells (List.mem_flatMap.2 ⟨n, List.mem_range.2 hn, ?_⟩) (length_clampEvents s _) rfl
    rw [State.clampEvents, if_pos hc]
    exact List.mem_singleton_self _
  · exact hbf.trans (State.bankFrame_iff.2 ⟨_, _, _, _, _, hx⟩)
  · rw [hheaters, hbank', hbank]

end

/-- Settles O10: each event of a channel by what it writes in the channel's state and status, the period start by the duties it computes
from what it reads, and the thermal model channel by channel. -/
theorem heaterChannels : Obligations.HeaterChannels := by
  unfold Obligations.HeaterChannels
  intro s n
  refine ⟨fun hf hp => gives_demandExpiry hf hp, fun h => ⟨s, congrArg Host.Outcome.next (State.demandExpiry_of_fresh h), rfl⟩, fun h => gives_decayStep h rfl rfl rfl,
    fun h => ⟨s, congrArg Host.Outcome.next (if_neg fun h' => h' h), rfl⟩, fun h => gives_heaterShort h rfl rfl rfl,
    fun h => ⟨s, congrArg Host.Outcome.next (if_pos h), rfl⟩, gives_shortRetry n, gives_shortRunReset n, fun h h' => gives_vbatShort h h',
    fun h => ⟨s, congrArg Host.Outcome.next (if_neg fun hc => h.elim (fun h => h hc.1) fun h => h hc.2), rfl⟩, fun currents => gives_pwmPeriod n currents, ?_⟩
  obtain ⟨t, hgo, hcells, hregs, hframe, hbank⟩ := gives_thermalModel s
  obtain ⟨hcell, htells⟩ := hcells n n.isLt
  exact ⟨t, hgo, hcell.heater, hcell.none, fun hr => ⟨hcell.shown hr, fun hz hge => ⟨(hcell.clamped (decide_eq_true ⟨hr, hz, hge⟩)).1, (hcell.clamped (decide_eq_true ⟨hr, hz, hge⟩)).2,
    htells (decide_eq_true ⟨hr, hz, hge⟩)⟩, hcell.below hr, hcell.freed hr, hcell.held hr⟩, hregs, hframe, hbank⟩

end Sys2Proof.Machine

/-! Wake inputs and CAN wake (R71, R391 to R396). -/

namespace Sys2Proof.Machine

section
variable {s t u : State} {src ch i : Nat}

/-! A source's bit -/

theorem State.wroteRegs_markEdge (s : State) (h : src ≤ 8) (ch : Nat) : s.wroteRegs (s.markSource src ch) [BNK_WAKE_STATUS] := by
  rw [State.markSource, if_pos h]
  exact State.wroteRegs_setFld _ _ _ (List.mem_singleton_self _)

theorem State.wroteRegs_markFlag (s : State) (h : 8 < src) (ch : Nat) : s.wroteRegs (s.markSource src ch) [BNK_CANW_STATUS] := by
  rw [State.markSource, if_neg (Nat.not_le.2 h)]
  exact State.wroteRegs_setFld _ _ _ (List.mem_singleton_self _)

theorem State.wroteRegs_markSource (s : State) (src ch : Nat) : s.wroteRegs (s.markSource src ch) [BNK_WAKE_STATUS, BNK_CANW_STATUS] := by
  by_cases h : src ≤ 8
  · exact (s.wroteRegs_markEdge h ch).mono (by simp)
  · exact (s.wroteRegs_markFlag (Nat.lt_of_not_le h) ch).mono (by simp)

/-- A field as wide as a bit's position shows that bit. -/
theorem testBit_setFld_withBit (s : State) (a : Nat) (f : Fld) (n : Nat) (b : Bool) (hf : f.lo ≤ f.hi) (h32 : f.hi < 32) (hi : i < f.width) :
    ((s.setFld a f (withBit n i b)).fld a f).testBit i = b := by
  rw [State.fld_setFld_same _ _ _ hf h32, Nat.testBit_mod_two_pow, testBit_withBit, if_pos rfl, decide_eq_true hi, Bool.true_and]

theorem State.edge_markSource (s : State) (h : i < 8) (ch : Nat) :
    ((s.markSource (i + 1) ch).fld BNK_WAKE_STATUS BNK_WAKE_STATUS_edge).testBit i = true := by
  rw [State.markSource, if_pos (Nat.succ_le_of_lt h), Nat.add_sub_cancel]
  exact testBit_setFld_withBit s _ _ _ _ (by decide) (by decide) h

theorem State.flag_markSource (s : State) (h : 8 < src) (hch : ch < 24) :
    ((s.markSource src ch).fld BNK_CANW_STATUS BNK_CANW_STATUS_flag).testBit ch = true := by
  rw [State.markSource, if_neg (Nat.not_le.2 h)]
  exact testBit_setFld_withBit s _ _ _ _ (by decide) (by decide) hch

theorem State.masked_markSource (s : State) (src ch : Nat) :
    (s.markSource src ch).fld BNK_WAKE_STATUS BNK_WAKE_STATUS_masked = s.fld BNK_WAKE_STATUS BNK_WAKE_STATUS_masked := by
  by_cases h : src ≤ 8
  · rw [State.markSource, if_pos h]
    exact State.fld_setFld_ne _ _ (by decide) (by decide) (by decide) (by decide)
  · rw [State.fld, (s.wroteRegs_markFlag (Nat.lt_of_not_le h) ch).1 _ (by decide), State.fld]

/-! A source that fires in the tick of the wake -/

/-- The source has become the cause, and the cause before has its bit set. -/
structure Joined (s t : State) (src ch : Nat) : Prop where
  wrote : s.wroteRegs t [BNK_WAKE_STATUS, BNK_WAKE_CAUSE, BNK_CANW_STATUS]
  cause : t.fld BNK_WAKE_CAUSE BNK_WAKE_CAUSE_src = src
  channel : t.fld BNK_WAKE_CAUSE BNK_WAKE_CAUSE_channel = ch
  masked : t.fld BNK_WAKE_STATUS BNK_WAKE_STATUS_masked = s.fld BNK_WAKE_STATUS BNK_WAKE_STATUS_masked
  flag : 8 < src → (t.fld BNK_CANW_STATUS BNK_CANW_STATUS_flag).testBit ch = true

/-- The cause register takes a source and its channel. -/
def State.setCause (s : State) (src ch : Nat) : State :=
  (s.setFld BNK_WAKE_CAUSE BNK_WAKE_CAUSE_src src).setFld BNK_WAKE_CAUSE BNK_WAKE_CAUSE_channel ch

theorem State.setCause_spec (s : State) (hsrc : src < 16) (hch : ch < 32) : s.wroteRegs (s.setCause src ch) [BNK_WAKE_CAUSE] ∧
    (s.setCause src ch).fld BNK_WAKE_CAUSE BNK_WAKE_CAUSE_src = src ∧ (s.setCause src ch).fld BNK_WAKE_CAUSE BNK_WAKE_CAUSE_channel = ch := by
  refine ⟨(State.wroteRegs_setFld s _ _ (List.mem_singleton_self _)).trans (State.wroteRegs_setFld _ _ _ (List.mem_singleton_self _)), ?_, ?_⟩
  · exact (State.fld_setFld_ne _ _ (by decide) (by decide) (by decide) (by decide)).trans
      ((State.fld_setFld_same _ _ _ (by decide) (by decide)).trans (Nat.mod_eq_of_lt hsrc))
  · exact (State.fld_setFld_same _ _ _ (by decide) (by decide)).trans (Nat.mod_eq_of_lt hch)

theorem State.wakeJoin_of_not (h : ¬ s.joins src) (ch : Nat) : s.wakeJoin src ch = s.markSource src ch := if_neg h

theorem State.joined (h : s.joins src) (hsrc : src < 16) (hch : ch < 24) : Joined s (s.wakeJoin src ch) src ch := by
  have he : s.wakeJoin src ch = (if src ≤ 8 then s.markSource (s.fld BNK_WAKE_CAUSE BNK_WAKE_CAUSE_src) (s.fld BNK_WAKE_CAUSE BNK_WAKE_CAUSE_channel)
      else (s.markSource (s.fld BNK_WAKE_CAUSE BNK_WAKE_CAUSE_src) (s.fld BNK_WAKE_CAUSE BNK_WAKE_CAUSE_channel)).markSource src ch).setCause src ch := if_pos h
  rw [he]
  have h1 := s.wroteRegs_markSource (s.fld BNK_WAKE_CAUSE BNK_WAKE_CAUSE_src) (s.fld BNK_WAKE_CAUSE BNK_WAKE_CAUSE_channel)
  have hm1 := s.masked_markSource (s.fld BNK_WAKE_CAUSE BNK_WAKE_CAUSE_src) (s.fld BNK_WAKE_CAUSE BNK_WAKE_CAUSE_channel)
  generalize s.markSource (s.fld BNK_WAKE_CAUSE BNK_WAKE_CAUSE_src) (s.fld BNK_WAKE_CAUSE BNK_WAKE_CAUSE_channel) = v at h1 hm1 ⊢
  have h2 : v.wroteRegs (if src ≤ 8 then v else v.markSource src ch) [BNK_WAKE_STATUS, BNK_CANW_STATUS] ∧
      (if src ≤ 8 then v else v.markSource src ch).fld BNK_WAKE_STATUS BNK_WAKE_STATUS_masked = v.fld BNK_WAKE_STATUS BNK_WAKE_STATUS_masked ∧
      (8 < src → ((if src ≤ 8 then v else v.markSource src ch).fld BNK_CANW_STATUS BNK_CANW_STATUS_flag).testBit ch = true) := by
    by_cases hs : src ≤ 8
    · rw [if_pos hs]
      exact ⟨State.wroteRegs.refl _ _, rfl, fun h8 => absurd hs (Nat.not_le.2 h8)⟩
    · rw [if_neg hs]
      exact ⟨v.wroteRegs_markSource src ch, v.masked_markSource src ch, fun h8 => v.flag_markSource h8 hch⟩
  generalize (if src ≤ 8 then v else v.markSource src ch) = w at h2 ⊢
  obtain ⟨hw2, hm2, hf2⟩ := h2
  obtain ⟨hw, hsrc', hch'⟩ := w.setCause_spec hsrc (Nat.lt_trans hch (by decide : 24 < 32))
  generalize w.setCause src ch = x at hw hsrc' hch' ⊢
  refine ⟨((h1.trans hw2).mono (by simp)).trans (hw.mono (by simp)), hsrc', hch', ?_, fun h8 => ?_⟩
  · rw [← hm1, ← hm2, State.fld, hw.1 _ (by decide), State.fld]
  · rw [State.fld, hw.1 _ (by decide)]
    exact hf2 h8

/-! A wake -/

/-- The bank die as a wake event leaves it. -/
def State.wokenBank (s : State) : BankDie :=
  { s.bank with cause := 2, fatalEvent := 0, attempts := 0, wokeAt := some s.elapsed, enV18 := true, seq := .waitLine, pgTimer := true }

/-- A wake event has started the supply sequence: the cause register and the bank die have changed, and nothing else. -/
structure Started (s t : State) (src ch : Nat) : Prop where
  rd : ∀ a, a ≠ BNK_WAKE_CAUSE → t.rd a = s.rd a
  cause : t.fld BNK_WAKE_CAUSE BNK_WAKE_CAUSE_src = src
  channel : t.fld BNK_WAKE_CAUSE BNK_WAKE_CAUSE_channel = ch
  bank : t.bank = s.wokenBank
  frame : t = { s with regs := t.regs, bank := t.bank }

theorem State.started (s : State) (hsrc : src < 16) (hch : ch < 32) : Started s (s.wakeStart src ch) src ch := by
  obtain ⟨hw, hs, hc⟩ := s.setCause_spec hsrc hch
  have he : s.wakeStart src ch = (s.setCause src ch).setBank s.wokenBank := rfl
  rw [he]
  refine ⟨fun a ha => hw.1 a (by simpa using ha), hs, hc, rfl, ?_⟩
  have hframe := hw.2
  generalize s.setCause src ch = v at hframe ⊢
  rw [State.setBank, hframe]

theorem Started.woken (h : Started u t src ch) {v : Tab WakeIn} (hbank : u.bank = { s.bank with wakeIn := v }) (hel : u.elapsed = s.elapsed) :
    s.woken t src ch := by
  refine ⟨h.cause, h.channel, ?_⟩
  rw [h.bank, State.wokenBank, hbank, hel]

/-! What a wake leaves of the rest -/

/-- Nothing changes but registers and the bank die. -/
def State.wakeFrame (s t : State) : Prop := t = { s with regs := t.regs, bank := t.bank }

theorem State.wakeFrame_iff : s.wakeFrame t ↔ ∃ r b, t = { s with regs := r, bank := b } := ⟨fun h => ⟨_, _, h⟩, by rintro ⟨r, b, rfl⟩; rfl⟩

theorem State.wakeFrame.trans (h1 : s.wakeFrame t) (h2 : t.wakeFrame u) : s.wakeFrame u := by
  obtain ⟨r, b, rfl⟩ := State.wakeFrame_iff.1 h1
  obtain ⟨r', b', e⟩ := State.wakeFrame_iff.1 h2
  exact State.wakeFrame_iff.2 ⟨r', b', e⟩

theorem State.wroteRegs.wakeFrame {l : List Nat} (h : s.wroteRegs t l) : s.wakeFrame t := State.wakeFrame_iff.2 ⟨_, s.bank, h.2⟩

theorem State.wroteRegs.bank {l : List Nat} (h : s.wroteRegs t l) : t.bank = s.bank := by rw [h.2]

theorem State.wakeFrame.facts (h : s.wakeFrame t) : t.running = s.running ∧ t.flt = s.flt ∧ t.outputs = s.outputs ∧ t.free = s.free ∧
    t.dev = s.dev ∧ t.elapsed = s.elapsed := by
  rw [State.running, h, State.running]
  exact ⟨rfl, rfl, rfl, rfl, rfl, rfl⟩

theorem State.wakeFrame.bankFrame (h : s.wakeFrame t) : s.bankFrame t :=
  State.bankFrame_iff.2 ⟨t.regs, s.flt, t.bank, s.outputs, s.free, h⟩

theorem State.wakeFrame.quiet (h : s.wakeFrame t) : t.flt = s.flt ∧ s.eventFrames t 0 := by
  obtain ⟨_, hflt, hout, hfree, _⟩ := h.facts
  exact ⟨hflt, State.eventFrames_congr hout hfree (State.eventFrames.refl t)⟩

theorem State.asleep_congr (hdev : t.dev = s.dev) (hseq : t.bank.seq = s.bank.seq) : t.asleep = s.asleep := by
  rw [State.asleep, hdev, hseq, State.asleep]

theorem State.bankOnly_of_asleep (h : s.asleep = true) : s.dev.state = .bankOnly ∧ s.running = false := by
  have hst : s.dev.state = .bankOnly := by simpa using (Bool.and_eq_true_iff.1 h).1
  exact ⟨hst, by rw [State.running, hst]⟩

theorem State.joins.stopped (h : s.joins src) : s.running = false := by rw [State.running, h.1]

/-- The bank die's event after such a change: it is posted, its frame crosses the link, and the registers outside the list are kept. -/
theorem State.wakeFrame.raised (h : s.wakeFrame u) {c k : Nat} (hc : bankEvent c = true) (hlt : c < 0x1100) (hk : k < 7) (hi : i < 4096) :
    s.bankPosts (u.raise c k i) c k i ∧ s.bankFrame (u.raise c k i) ∧ (u.raise c k i).bank = u.bank ∧
    ∀ a, (a < FLT_SRC_LOST 1 ∨ FLT_SRC_LOST 16 < a) → (u.raise c k i).rd a = u.rd a := by
  obtain ⟨hrun, hflt, hout, hfree, _⟩ := h.facts
  have hp := u.bankPosts_raise hc hk i 0
  rw [Nat.mod_eq_of_lt hi] at hp
  refine ⟨⟨State.posts_congr hrun hflt hp.1, ?_⟩, h.bankFrame.trans (u.raise_frame c k i 0 hlt).bankFrame, u.raise_bank c i 0 hk,
    fun a ha => (u.raise_frame c k i 0 hlt).rd a (isSrcLost_eq_false.2 ha)⟩
  have hf := hp.2
  rw [hrun] at hf
  exact State.eventFrames_congr hout hfree hf

end

/-! The wake inputs -/

section
variable {s t u : State}

theorem State.wakeOf_setWake (s : State) (i j : Nat) (w : WakeIn) : (s.setWake i w).wakeOf j = if j = i then w else s.wakeOf j :=
  tget_tset _ _ _ _ _ _ (fun _ => rfl)

theorem State.wakeOf_setWake_same (s : State) (i : Nat) (w : WakeIn) : (s.setWake i w).wakeOf i = w := (s.wakeOf_setWake i i w).trans (if_pos rfl)

theorem State.wakeOf_setWake_ne (s : State) {i j : Nat} (w : WakeIn) (h : j ≠ i) : (s.setWake i w).wakeOf j = s.wakeOf j :=
  (s.wakeOf_setWake i j w).trans (if_neg h)

theorem State.wakeOf_congr (h : t.bank.wakeIn = s.bank.wakeIn) (j : Nat) : t.wakeOf j = s.wakeOf j := by rw [State.wakeOf, h, State.wakeOf]

theorem State.setMaskBit_spec (s : State) {f : Fld} {i : Nat} (b : Bool) (hf : f.lo ≤ f.hi) (h32 : f.hi < 32) (hi : i < f.width) :
    s.wroteRegs (s.setMaskBit f i b) [BNK_WAKE_STATUS] ∧ ((s.setMaskBit f i b).fld BNK_WAKE_STATUS f).testBit i = b ∧
    ∀ g : Fld, g.lo ≤ g.hi → (g.hi < f.lo ∨ f.hi < g.lo) → (s.setMaskBit f i b).fld BNK_WAKE_STATUS g = s.fld BNK_WAKE_STATUS g :=
  ⟨State.wroteRegs_setFld _ _ _ (List.mem_singleton_self _), testBit_setFld_withBit s _ _ _ _ hf h32 hi,
    fun _ hg hne => State.fld_setFld_ne _ _ hf h32 hg hne⟩

theorem gives_wakeInputChange (s : State) (i : Fin 8) (level : Bool) :
    Gives (.wakeInputChange i level) s (fun t =>
      t.wakeOf i = { s.wakeOf i with pin := level, filtering := s.wakeEnabled i && level != (s.wakeOf i).level } ∧
      (∀ j, j ≠ i.val → t.wakeOf j = s.wakeOf j) ∧ t = { s with bank := { s.bank with wakeIn := t.bank.wakeIn } }) :=
  ⟨_, rfl, s.wakeOf_setWake_same i _, fun _ h => s.wakeOf_setWake_ne _ h, rfl⟩

/-- What a filter's end has an input hold. -/
def State.filtered (s : State) (i : Nat) : WakeIn := { s.wakeOf i with level := (s.wakeOf i).pin, filtering := false }

theorem State.wakeFilter_of_filtering {i : Nat} (h : (s.wakeOf i).filtering = true) :
    s.wakeFilter i = (s.setWake i (s.filtered i)).wakeUpdate i (s.wakeActive i) := if_pos h

theorem State.wakeActive_setWake (s : State) (i : Nat) (w : WakeIn) :
    (s.setWake i w).wakeActive i = (w.level != (s.fld BNK_WAKE_CFG BNK_WAKE_CFG_low_act).testBit i) := by
  rw [State.wakeActive, State.wakeOf_setWake_same]
  rfl

theorem State.wakeActive_filtered (s : State) (i : Nat) : (s.setWake i (s.filtered i)).wakeActive i =
    if (s.wakeOf i).pin = (s.wakeOf i).level then s.wakeActive i else !s.wakeActive i := by
  rw [State.wakeActive_setWake, State.filtered, State.wakeActive]
  cases (s.wakeOf i).pin <;> cases (s.wakeOf i).level <;> cases (s.fld BNK_WAKE_CFG BNK_WAKE_CFG_low_act).testBit i <;> rfl

theorem State.setWake_setWake (s : State) (i : Nat) (v w : WakeIn) (j : Nat) : ((s.setWake i v).setWake i w).wakeOf j = (s.setWake i w).wakeOf j := by
  rw [State.wakeOf_setWake, State.wakeOf_setWake, State.wakeOf_setWake]
  split <;> rfl

/-- An input that has become active, with its mask set: what a wake event starts from. -/
def State.activeNow (s : State) (i : Nat) : State :=
  ((s.setWake i (s.filtered i)).setWake i { s.filtered i with armTimer := false, armed := false, stuckTimer := true }).setMaskBit
    BNK_WAKE_STATUS_masked i true

theorem State.activeNow_spec (s : State) {i : Nat} (hi : i < 8) :
    (s.activeNow i).wakeOf i = { s.filtered i with armTimer := false, armed := false, stuckTimer := true } ∧
    (∀ j, j ≠ i → (s.activeNow i).wakeOf j = s.wakeOf j) ∧ (∀ a, a ≠ BNK_WAKE_STATUS → (s.activeNow i).rd a = s.rd a) ∧
    ((s.activeNow i).fld BNK_WAKE_STATUS BNK_WAKE_STATUS_masked).testBit i = true ∧
    (s.activeNow i).fld BNK_WAKE_STATUS BNK_WAKE_STATUS_edge = s.fld BNK_WAKE_STATUS BNK_WAKE_STATUS_edge ∧
    (∃ v, (s.activeNow i).bank = { s.bank with wakeIn := v }) ∧ s.wakeFrame (s.activeNow i) := by
  have hof : ∀ j, (s.activeNow i).wakeOf j = if j = i then { s.filtered i with armTimer := false, armed := false, stuckTimer := true } else s.wakeOf j :=
    fun j => (State.setWake_setWake s i _ _ j).trans (State.wakeOf_setWake s i j _)
  obtain ⟨hw, hbit, hfld⟩ := ((s.setWake i (s.filtered i)).setWake i { s.filtered i with
    armTimer := false, armed := false, stuckTimer := true }).setMaskBit_spec (f := BNK_WAKE_STATUS_masked) true (by decide) (by decide) hi
  exact ⟨(hof i).trans (if_pos rfl), fun j h => (hof j).trans (if_neg h), fun a ha => hw.1 a (by simpa using ha), hbit,
    hfld BNK_WAKE_STATUS_edge (by decide) (by decide), ⟨_, rfl⟩, rfl⟩

theorem State.wakeUpdate_same {v : State} {i : Nat} (h : v.wakeActive i = was) : v.wakeUpdate i was = v := by
  subst h
  rw [State.wakeUpdate]
  cases v.wakeActive i <;> rfl

theorem State.wakeUpdate_ended {v : State} {i : Nat} (h : v.wakeActive i = false) :
    v.wakeUpdate i true = v.setWake i { v.wakeOf i with armTimer := true, stuckTimer := false } := by
  rw [State.wakeUpdate, h]
  rfl

theorem State.wakeUpdate_began {v x : State} {i : Nat} (h : v.wakeActive i = true)
    (hx : x = (v.setWake i { v.wakeOf i with armTimer := false, armed := false, stuckTimer := true }).setMaskBit BNK_WAKE_STATUS_masked i true) :
    v.wakeUpdate i false = if (v.wakeOf i).armed = true then (if x.asleep = true then x.wakeStart (i + 1) 0 else (x.wakeJoin (i + 1) 0).raise 0x0E09 0 i)
      else x := by
  subst hx
  rw [State.wakeUpdate, h]
  rfl

/-- The filter's end where the level is now an active one. -/
theorem State.wakeFilter_began {i : Nat} (hf : (s.wakeOf i).filtering = true) (hch : (s.wakeOf i).pin ≠ (s.wakeOf i).level) (hact : s.wakeActive i = false) :
    s.wakeFilter i = if (s.wakeOf i).armed = true then
      (if s.asleep = true then (s.activeNow i).wakeStart (i + 1) 0 else ((s.activeNow i).wakeJoin (i + 1) 0).raise 0x0E09 0 i) else s.activeNow i := by
  have hnow : (s.setWake i (s.filtered i)).wakeActive i = true := by rw [State.wakeActive_filtered, if_neg hch, hact]; rfl
  have hof := s.wakeOf_setWake_same i (s.filtered i)
  rw [State.wakeFilter_of_filtering hf, hact, State.wakeUpdate_began (x := s.activeNow i) hnow (by rw [hof]; rfl), hof]
  rfl

/-- The filter's end without a change of the level, and where the level is now an inactive one. -/
theorem State.wakeFilter_same {i : Nat} (hf : (s.wakeOf i).filtering = true) (hch : (s.wakeOf i).pin = (s.wakeOf i).level) :
    s.wakeFilter i = s.setWake i (s.filtered i) := by
  rw [State.wakeFilter_of_filtering hf]
  exact State.wakeUpdate_same (by rw [State.wakeActive_filtered, if_pos hch])

theorem State.wakeFilter_ended {i : Nat} (hf : (s.wakeOf i).filtering = true) (hch : (s.wakeOf i).pin ≠ (s.wakeOf i).level) (hact : s.wakeActive i = true) :
    s.wakeFilter i = (s.setWake i (s.filtered i)).setWake i { s.filtered i with armTimer := true, stuckTimer := false } := by
  rw [State.wakeFilter_of_filtering hf, hact, State.wakeUpdate_ended (by rw [State.wakeActive_filtered, if_neg hch, hact]; rfl),
    State.wakeOf_setWake_same]

theorem State.joins_congr {src : Nat} (hdev : t.dev = s.dev) (hwoke : t.bank.wokeAt = s.bank.wokeAt) (hel : t.elapsed = s.elapsed)
    (hcause : t.rd BNK_WAKE_CAUSE = s.rd BNK_WAKE_CAUSE) : t.joins src ↔ s.joins src := by
  rw [State.joins, hdev, hwoke, hel, State.fld, hcause, State.joins, State.fld]

/-- An armed input that becomes active while the device does not sleep. -/
theorem State.wakeFilter_edge {i : Nat} (hi : i < 8) {x v : State} (hx : s.activeNow i = x) (hv : (x.wakeJoin (i + 1) 0).raise 0x0E09 0 i = v) :
    s.bankPosts v 0x0E09 0 i ∧ s.bankFrame v ∧ (∀ j, v.wakeOf j = x.wakeOf j) ∧
    s.onlyRegs v [BNK_WAKE_STATUS, BNK_WAKE_CAUSE, BNK_CANW_STATUS] ∧ (v.fld BNK_WAKE_STATUS BNK_WAKE_STATUS_masked).testBit i = true ∧
    (s.joins (i + 1) → v.fld BNK_WAKE_CAUSE BNK_WAKE_CAUSE_src = i + 1 ∧ v.fld BNK_WAKE_CAUSE BNK_WAKE_CAUSE_channel = 0) ∧
    (¬ s.joins (i + 1) → (v.fld BNK_WAKE_STATUS BNK_WAKE_STATUS_edge).testBit i = true ∧ s.onlyRegs v [BNK_WAKE_STATUS]) := by
  obtain ⟨-, -, hrd, hmask, -, ⟨b, hbank⟩, hframe⟩ := s.activeNow_spec hi
  rw [hx] at hrd hmask hbank hframe
  obtain ⟨-, -, -, -, hdev, hel⟩ := hframe.facts
  have hj : x.joins (i + 1) ↔ s.joins (i + 1) := State.joins_congr hdev (by rw [hbank]) hel (hrd _ (by decide))
  have hnl : ∀ a ∈ [BNK_WAKE_STATUS, BNK_WAKE_CAUSE], a < FLT_SRC_LOST 1 ∨ FLT_SRC_LOST 16 < a := by decide
  by_cases h : s.joins (i + 1)
  · have hjoined := State.joined (hj.2 h) (Nat.succ_lt_succ (Nat.lt_trans hi (by decide : 8 < 15))) (by decide : 0 < 24)
    generalize x.wakeJoin (i + 1) 0 = u at hjoined hv
    obtain ⟨hpost, hbf, hb, hr⟩ := (hframe.trans hjoined.wrote.wakeFrame).raised (c := 0x0E09) (k := 0) (i := i) rfl (by decide) (by decide)
      (Nat.lt_trans hi (by decide))
    rw [hv] at hpost hbf hb hr
    refine ⟨hpost, hbf, fun j => State.wakeOf_congr (by rw [hb, hjoined.wrote.bank]) j, fun a ha hl => ?_, ?_, fun _ => ⟨?_, ?_⟩, fun hn => absurd h hn⟩
    · rw [hr a hl, hjoined.wrote.1 a ha, hrd a (fun he => ha (he ▸ List.mem_cons_self))]
    · rw [State.fld, hr _ (hnl _ (by decide)), ← State.fld, hjoined.masked]
      exact hmask
    · rw [State.fld, hr _ (hnl _ (by decide)), ← State.fld, hjoined.cause]
    · rw [State.fld, hr _ (hnl _ (by decide)), ← State.fld, hjoined.channel]
  · have hmark := x.wroteRegs_markEdge (Nat.succ_le_of_lt hi) 0
    have hedge := x.edge_markSource hi 0
    have hmasked := x.masked_markSource (i + 1) 0
    rw [State.wakeJoin_of_not (fun hx => h (hj.1 hx))] at hv
    generalize x.markSource (i + 1) 0 = u at hmark hedge hmasked hv
    obtain ⟨hpost, hbf, hb, hr⟩ := (hframe.trans hmark.wakeFrame).raised (c := 0x0E09) (k := 0) (i := i) rfl (by decide) (by decide)
      (Nat.lt_trans hi (by decide))
    rw [hv] at hpost hbf hb hr
    have honly : s.onlyRegs v [BNK_WAKE_STATUS] := fun a ha hl => by
      rw [hr a hl, hmark.1 a ha, hrd a (by simpa using ha)]
    refine ⟨hpost, hbf, fun j => State.wakeOf_congr (by rw [hb, hmark.bank]) j, fun a ha hl => honly a (fun he => ha ?_) hl, ?_,
      fun hy => absurd hy h, fun _ => ⟨?_, honly⟩⟩
    · rw [List.mem_singleton.1 he]
      exact List.mem_cons_self
    · rw [State.fld, hr _ (hnl _ (by decide)), ← State.fld, hmasked]
      exact hmask
    · rw [State.fld, hr _ (hnl _ (by decide)), ← State.fld]
      exact hedge

/-- An armed input that becomes active in sleep. -/
theorem State.wakeFilter_woke {i : Nat} (hi : i < 8) {x v : State} (hx : s.activeNow i = x) (hv : x.wakeStart (i + 1) 0 = v) :
    s.woken v (i + 1) 0 ∧ s.wakeFrame v ∧ (∀ j, v.wakeOf j = x.wakeOf j) ∧ s.onlyRegs v [BNK_WAKE_STATUS, BNK_WAKE_CAUSE, BNK_CANW_STATUS] ∧
    (v.fld BNK_WAKE_STATUS BNK_WAKE_STATUS_masked).testBit i = true := by
  obtain ⟨-, -, hrd, hmask, -, ⟨b, hbank⟩, hframe⟩ := s.activeNow_spec hi
  rw [hx] at hrd hmask hbank hframe
  have hst := x.started (src := i + 1) (ch := 0) (Nat.succ_lt_succ (Nat.lt_trans hi (by decide : 8 < 15))) (by decide)
  rw [hv] at hst
  refine ⟨hst.woken hbank hframe.facts.2.2.2.2.2, hframe.trans hst.frame, fun j => State.wakeOf_congr (by rw [hst.bank]; rfl) j, fun a ha _ => ?_, ?_⟩
  · rw [hst.rd a (fun he => ha (by rw [he]; decide)), hrd a (fun he => ha (by rw [he]; decide))]
  · rw [State.fld, hst.rd _ (by decide), ← State.fld]
    exact hmask

/-- What the end of an input's filter does, for each case of its level (R391, R394). -/
theorem gives_wakeFilterExpiry (s : State) (i : Fin 8) (hf : (s.wakeOf i).filtering = true) :
    Gives (.wakeFilterExpiry i) s (fun t =>
      let w := { s.wakeOf i with level := (s.wakeOf i).pin, filtering := false }
      let changed := (s.wakeOf i).pin ≠ (s.wakeOf i).level
      (∀ j, j ≠ i.val → t.wakeOf j = s.wakeOf j) ∧ s.onlyRegs t [BNK_WAKE_STATUS, BNK_WAKE_CAUSE, BNK_CANW_STATUS] ∧ s.bankFrame t ∧
      (¬ changed → t.wakeOf i = w ∧ t.regs = s.regs ∧ t.flt = s.flt ∧ s.eventFrames t 0) ∧
      (changed → s.wakeActive i = true → t.wakeOf i = { w with armTimer := true, stuckTimer := false } ∧ t.regs = s.regs ∧ t.flt = s.flt ∧ s.eventFrames t 0) ∧
      (changed → s.wakeActive i = false → t.wakeOf i = { w with armTimer := false, armed := false, stuckTimer := true } ∧
        (t.fld BNK_WAKE_STATUS BNK_WAKE_STATUS_masked).testBit i = true ∧
        ((s.wakeOf i).armed = false → s.onlyRegs t [BNK_WAKE_STATUS] ∧ t.flt = s.flt ∧ s.eventFrames t 0 ∧
          t.fld BNK_WAKE_STATUS BNK_WAKE_STATUS_edge = s.fld BNK_WAKE_STATUS BNK_WAKE_STATUS_edge) ∧
        ((s.wakeOf i).armed = true → s.asleep = true → s.woken t (i.val + 1) 0 ∧ t.flt = s.flt ∧ s.eventFrames t 0) ∧
        ((s.wakeOf i).armed = true → s.asleep = false → s.bankPosts t 0x0E09 0 i ∧
          (s.joins (i.val + 1) → t.fld BNK_WAKE_CAUSE BNK_WAKE_CAUSE_src = i.val + 1 ∧ t.fld BNK_WAKE_CAUSE BNK_WAKE_CAUSE_channel = 0) ∧
          (¬ s.joins (i.val + 1) → (t.fld BNK_WAKE_STATUS BNK_WAKE_STATUS_edge).testBit i = true ∧
            s.onlyRegs t [BNK_WAKE_STATUS])))) := by
  have hquiet : ∀ v : WakeIn, s.wakeFrame ((s.setWake i (s.filtered i)).setWake i v) := fun _ => rfl
  have hq : s.wakeFrame (s.setWake i (s.filtered i)) := rfl
  refine ⟨_, rfl, ?_⟩
  by_cases hch : (s.wakeOf i).pin = (s.wakeOf i).level
  · rw [State.wakeFilter_same hf hch]
    exact ⟨fun _ h => s.wakeOf_setWake_ne _ h, State.onlyRegs.refl s _, hq.bankFrame, fun _ => ⟨s.wakeOf_setWake_same i _, rfl, hq.quiet⟩,
      fun h => absurd hch h, fun h => absurd hch h⟩
  · cases hact : s.wakeActive i with
    | true =>
      rw [State.wakeFilter_ended hf hch hact]
      exact ⟨fun j h => (s.setWake_setWake i _ _ j).trans (s.wakeOf_setWake_ne _ h), State.onlyRegs.refl s _, (hquiet _).bankFrame, fun h => absurd hch h,
        fun _ _ => ⟨(s.setWake_setWake i _ _ i).trans (s.wakeOf_setWake_same i _), rfl, (hquiet _).quiet⟩, fun _ h => Bool.noConfusion h⟩
    | false =>
      rw [State.wakeFilter_began hf hch hact]
      obtain ⟨hself, hother, hrd, hmask, hedge, -, hframe⟩ := s.activeNow_spec i.isLt
      cases harm : (s.wakeOf i).armed with
      | false =>
        rw [if_neg Bool.false_ne_true]
        exact ⟨hother, fun a ha _ => hrd a (fun he => ha (he ▸ List.mem_cons_self)), hframe.bankFrame, fun h => absurd hch h, fun _ h => Bool.noConfusion h,
          fun _ _ => ⟨hself, hmask, fun _ => ⟨fun a ha _ => hrd a (by simpa using ha), hframe.quiet.1, hframe.quiet.2, hedge⟩, fun h => Bool.noConfusion h,
            fun h => Bool.noConfusion h⟩⟩
      | true =>
        rw [if_pos rfl]
        generalize hx : s.activeNow i = x at hself hother
        cases has : s.asleep with
        | true =>
          rw [if_pos rfl]
          generalize hv : x.wakeStart (i + 1) 0 = v
          obtain ⟨hwoken, hfr, hof, honly, hm⟩ := State.wakeFilter_woke i.isLt hx hv
          exact ⟨fun j h => (hof j).trans (hother j h), honly, hfr.bankFrame, fun h => absurd hch h, fun _ h => Bool.noConfusion h,
            fun _ _ => ⟨(hof i).trans hself, hm, fun h => Bool.noConfusion h, fun _ _ => ⟨hwoken, hfr.quiet⟩, fun _ h => Bool.noConfusion h⟩⟩
        | false =>
          rw [if_neg Bool.false_ne_true]
          generalize hv : (x.wakeJoin (i + 1) 0).raise 0x0E09 0 i = v
          obtain ⟨hposts, hfr, hof, honly, hm, hj, hnj⟩ := State.wakeFilter_edge i.isLt hx hv
          exact ⟨fun j h => (hof j).trans (hother j h), honly, hfr, fun h => absurd hch h, fun _ h => Bool.noConfusion h,
            fun _ _ => ⟨(hof i).trans hself, hm, fun h => Bool.noConfusion h, fun _ h => Bool.noConfusion h, fun _ _ => ⟨hposts, hj, hnj⟩⟩⟩

theorem gives_wakeArm (s : State) (i : Fin 8) (harm : (s.wakeOf i).armTimer = true) (hfilt : (s.wakeOf i).filtering = false)
    (hen : s.wakeEnabled i = true) (hact : s.wakeActive i = false) :
    Gives (.wakeArm i) s (fun t => t.wakeOf i = { s.wakeOf i with armed := true, armTimer := false } ∧
      (∀ j, j ≠ i.val → t.wakeOf j = s.wakeOf j) ∧ (t.fld BNK_WAKE_STATUS BNK_WAKE_STATUS_masked).testBit i = false ∧
      (∀ f ∈ [BNK_WAKE_STATUS_edge, BNK_WAKE_STATUS_stuck], t.fld BNK_WAKE_STATUS f = s.fld BNK_WAKE_STATUS f) ∧
      s.onlyRegs t [BNK_WAKE_STATUS] ∧ t = { s with regs := t.regs, bank := { s.bank with wakeIn := t.bank.wakeIn } }) := by
  have he : s.wakeArm i = (s.setWake i { s.wakeOf i with armed := true, armTimer := false }).setMaskBit BNK_WAKE_STATUS_masked i false :=
    if_pos ⟨harm, by rw [hfilt]; rfl, hen, by rw [hact]; rfl⟩
  obtain ⟨hw, hbit, hfld⟩ := (s.setWake i { s.wakeOf i with armed := true, armTimer := false }).setMaskBit_spec (f := BNK_WAKE_STATUS_masked) false
    (by decide) (by decide) i.isLt
  have hof : ∀ j, ((s.setWake i { s.wakeOf i with armed := true, armTimer := false }).setMaskBit BNK_WAKE_STATUS_masked i false).wakeOf j =
    (s.setWake i { s.wakeOf i with armed := true, armTimer := false }).wakeOf j := fun _ => rfl
  refine ⟨_, congrArg Host.Outcome.next he, (hof i).trans (s.wakeOf_setWake_same i _), fun j h => (hof j).trans (s.wakeOf_setWake_ne _ h), hbit, ?_,
    hw.onlyRegs, rfl⟩
  exact List.forall_mem_cons.2 ⟨hfld _ (by decide) (by decide), List.forall_mem_singleton.2 (hfld _ (by decide) (by decide))⟩

theorem State.wakeArm_idle {i : Nat} (h : (s.wakeOf i).armTimer = false ∨ (s.wakeOf i).filtering = true ∨ s.wakeEnabled i = false ∨ s.wakeActive i = true) :
    s.wakeArm i = s :=
  if_neg fun ⟨ha, hf, he, hc⟩ => by
    rcases h with h | h | h | h
    · exact Bool.noConfusion (ha.symm.trans h)
    · rw [h] at hf; exact Bool.noConfusion hf
    · exact Bool.noConfusion (he.symm.trans h)
    · rw [h] at hc; exact Bool.noConfusion hc

/-- An entry moved to the end of a list without repetition. -/
theorem mem_filter_append {l : List Nat} {n : Nat} : n ∈ l.filter (· != n) ++ [n] ∧ ∀ k, k ≠ n → (k ∈ l.filter (· != n) ++ [n] ↔ k ∈ l) := by
  refine ⟨List.mem_append_right _ (List.mem_singleton_self n), fun k hk => ?_⟩
  simp [hk]

theorem State.wroteRegs.setBank {l : List Nat} (h : s.wroteRegs u l) (b : BankDie) :
    s.onlyRegs (u.setBank b) l ∧ u.setBank b = { s with regs := u.regs, bank := b } :=
  ⟨h.onlyRegs, congrArg (fun x : State => x.setBank b) h.2⟩

theorem State.fld_setBank (s : State) (b : BankDie) (a : Nat) (f : Fld) : (s.setBank b).fld a f = s.fld a f := rfl

/-- The bank die with an input noted as found stuck since the last release. -/
def BankDie.foundStuck (b : BankDie) (i : Nat) : BankDie := { b with stuckNew := b.stuckNew.filter (· != i) ++ [i] }

theorem gives_wakeStuck (s : State) (i : Fin 8) (hst : s.dev.state = .bankOnly) (ht : (s.wakeOf i).stuckTimer = true) (hact : s.wakeActive i = true)
    (hm : (s.fld BNK_WAKE_STATUS BNK_WAKE_STATUS_masked).testBit i = true) (hs : (s.fld BNK_WAKE_STATUS BNK_WAKE_STATUS_stuck).testBit i = false) :
    Gives (.wakeStuck i) s (fun t => (t.fld BNK_WAKE_STATUS BNK_WAKE_STATUS_stuck).testBit i = true ∧ i.val ∈ t.bank.stuckNew ∧
      (∀ k, k ≠ i.val → (k ∈ t.bank.stuckNew ↔ k ∈ s.bank.stuckNew)) ∧ s.onlyRegs t [BNK_WAKE_STATUS] ∧
      t = { s with regs := t.regs, bank := { s.bank with stuckNew := t.bank.stuckNew } }) := by
  have he : s.wakeStuck i = (s.setMaskBit BNK_WAKE_STATUS_stuck i true).setBank ((s.setMaskBit BNK_WAKE_STATUS_stuck i true).bank.foundStuck i) := by
    rw [State.wakeStuck]
    exact if_pos ⟨hst, ht, hact, hm, by rw [hs]; rfl⟩
  obtain ⟨hw, hbit, -⟩ := s.setMaskBit_spec (f := BNK_WAKE_STATUS_stuck) true (by decide) (by decide) i.isLt
  refine ⟨_, congrArg Host.Outcome.next he, ?_⟩
  generalize s.setMaskBit BNK_WAKE_STATUS_stuck i true = u at hw hbit ⊢
  rw [hw.bank]
  obtain ⟨honly, hframe⟩ := hw.setBank (s.bank.foundStuck i)
  exact ⟨(congrArg (Nat.testBit · i) (u.fld_setBank _ _ _)).trans hbit, mem_filter_append.1, mem_filter_append.2, honly, hframe⟩

theorem State.wakeStuck_idle {i : Nat} (h : s.dev.state ≠ .bankOnly ∨ (s.wakeOf i).stuckTimer = false ∨ s.wakeActive i = false ∨
    (s.fld BNK_WAKE_STATUS BNK_WAKE_STATUS_masked).testBit i = false ∨ (s.fld BNK_WAKE_STATUS BNK_WAKE_STATUS_stuck).testBit i = true) :
    s.wakeStuck i = s :=
  if_neg fun ⟨hd, ht, ha, hm, hs⟩ => by
    rcases h with h | h | h | h | h
    · exact h hd
    · exact Bool.noConfusion (ht.symm.trans h)
    · exact Bool.noConfusion (ha.symm.trans h)
    · exact Bool.noConfusion (hm.symm.trans h)
    · rw [h] at hs; exact Bool.noConfusion hs

end

end Sys2Proof.Machine

/-! CAN wake: patterns and selective-wake frames (R190, R395, R396). -/

namespace Sys2Proof.Machine

section
variable {s t u : State} {src ch : Nat}

theorem State.joins_stopped (h : s.joins src) : s.running = false := by rw [State.running, h.1]

theorem State.canWake_asleep (h : s.asleep = true) (src ch : Nat) : s.canWake src ch = (s.markSource src ch).wakeStart src ch := if_pos h

theorem State.canWake_flagged (h : s.asleep = false) (hf : (s.fld BNK_CANW_STATUS BNK_CANW_STATUS_flag).testBit ch = true) (src : Nat) :
    s.canWake src ch = s := by
  rw [State.canWake, h, hf]
  rfl

theorem State.canWake_new (h : s.asleep = false) (hf : (s.fld BNK_CANW_STATUS BNK_CANW_STATUS_flag).testBit ch = false) (src : Nat) :
    s.canWake src ch = (s.wakeJoin src ch).raise 0x0E0A 0 ch := by
  rw [State.canWake, h, hf]
  rfl

/-- A CAN detection that wakes the device. -/
theorem State.canWake_woke (h : s.asleep = true) (hsrc : src < 16) (h8 : 8 < src) (hch : ch < 24) :
    s.woken (s.canWake src ch) src ch ∧ ((s.canWake src ch).fld BNK_CANW_STATUS BNK_CANW_STATUS_flag).testBit ch = true ∧
    s.onlyRegs (s.canWake src ch) [BNK_WAKE_CAUSE, BNK_CANW_STATUS] ∧ s.wakeFrame (s.canWake src ch) := by
  rw [State.canWake_asleep h]
  have hmark := s.wroteRegs_markFlag h8 ch
  have hflag := s.flag_markSource h8 hch
  generalize s.markSource src ch = u at hmark hflag ⊢
  have hst := u.started hsrc (Nat.lt_trans hch (by decide : 24 < 32))
  generalize u.wakeStart src ch = v at hst ⊢
  have hel : u.elapsed = s.elapsed := by rw [hmark.2]
  refine ⟨hst.woken hmark.bank hel, ?_, fun a ha _ => ?_, hmark.wakeFrame.trans hst.frame⟩
  · rw [State.fld, hst.rd _ (by decide), ← State.fld]
    exact hflag
  · rw [hst.rd a (fun he => ha (by rw [he]; decide)), hmark.1 a (fun he => ha (List.mem_cons_of_mem _ he))]

/-- A CAN detection of an awake device whose flag is down. -/
theorem State.canWake_marked (h : s.asleep = false) (hf : (s.fld BNK_CANW_STATUS BNK_CANW_STATUS_flag).testBit ch = false) (hj : ¬ s.joins src)
    (h8 : 8 < src) (hch : ch < 24) :
    ((s.canWake src ch).fld BNK_CANW_STATUS BNK_CANW_STATUS_flag).testBit ch = true ∧ s.bankPosts (s.canWake src ch) 0x0E0A 0 ch ∧
    s.onlyRegs (s.canWake src ch) [BNK_CANW_STATUS] ∧ s.bankFrame (s.canWake src ch) ∧ (s.canWake src ch).bank = s.bank := by
  rw [State.canWake_new h hf, State.wakeJoin_of_not hj]
  have hmark := s.wroteRegs_markFlag h8 ch
  have hflag := s.flag_markSource h8 hch
  generalize s.markSource src ch = u at hmark hflag ⊢
  obtain ⟨hpost, hbf, hb, hr⟩ := hmark.wakeFrame.raised (c := 0x0E0A) (k := 0) (i := ch) rfl (by decide) (by decide) (Nat.lt_trans hch (by decide))
  generalize u.raise 0x0E0A 0 ch = v at hpost hbf hb hr ⊢
  refine ⟨?_, hpost, fun a ha hl => (hr a hl).trans (hmark.1 a ha), hbf, hb.trans hmark.bank⟩
  rw [State.fld, hr _ (by decide), ← State.fld]
  exact hflag

/-- A CAN detection that joins those of the tick of the wake as the lowest. -/
theorem State.canWake_joined (h : s.asleep = false) (hf : (s.fld BNK_CANW_STATUS BNK_CANW_STATUS_flag).testBit ch = false) (hj : s.joins src)
    (hsrc : src < 16) (hch : ch < 24) : Joined s (s.canWake src ch) src ch := by
  have hjoined := State.joined hj hsrc hch
  have hrun : (s.wakeJoin src ch).running = false := by rw [hjoined.wrote.wakeFrame.facts.1, State.joins_stopped hj]
  rw [State.canWake_new h hf, State.raise_of_stopped hrun]
  exact hjoined

/-! Wake-up patterns -/

theorem gives_canWakePattern (s : State) (n : Fin 24) :
    let flag := (s.fld BNK_CANW_STATUS BNK_CANW_STATUS_flag).testBit n
    let sel := s.bank.sel.any (fun e => e.1 == n.val)
    let wup := (s.fld BNK_CANW_CFG BNK_CANW_CFG_wup_en).testBit n
    (s.inStandby n = false → Gives (.canWakePattern n) s (fun t => t = s)) ∧
    (s.inStandby n = true → sel = true → Gives (.canWakePattern n) s (fun t => n.val ∈ t.bank.decoding ∧
      (∀ k, k ≠ n.val → (k ∈ t.bank.decoding ↔ k ∈ s.bank.decoding)) ∧ t = { s with bank := { s.bank with decoding := t.bank.decoding } })) ∧
    (s.inStandby n = true → sel = false → wup = false → Gives (.canWakePattern n) s (fun t => t = s)) ∧
    (s.asleep = true → sel = false → wup = true → Gives (.canWakePattern n) s (fun t => s.woken t 9 n ∧
      (t.fld BNK_CANW_STATUS BNK_CANW_STATUS_flag).testBit n = true ∧ s.onlyRegs t [BNK_WAKE_CAUSE, BNK_CANW_STATUS] ∧
      t = { s with regs := t.regs, bank := t.bank })) ∧
    (s.inStandby n = true → s.asleep = false → sel = false → wup = true → flag = true → Gives (.canWakePattern n) s (fun t => t = s)) ∧
    (s.inStandby n = true → s.asleep = false → sel = false → wup = true → flag = false → ¬ s.joins 9 → Gives (.canWakePattern n) s (fun t =>
      (t.fld BNK_CANW_STATUS BNK_CANW_STATUS_flag).testBit n = true ∧ s.bankPosts t 0x0E0A 0 n ∧ s.onlyRegs t [BNK_CANW_STATUS] ∧ s.bankFrame t ∧ t.bank = s.bank)) ∧
    (s.inStandby n = true → s.asleep = false → sel = false → wup = true → flag = false → s.joins 9 → Gives (.canWakePattern n) s (fun t =>
      t.fld BNK_WAKE_CAUSE BNK_WAKE_CAUSE_src = 9 ∧ t.fld BNK_WAKE_CAUSE BNK_WAKE_CAUSE_channel = n ∧
      (t.fld BNK_CANW_STATUS BNK_CANW_STATUS_flag).testBit n = true ∧ s.onlyRegs t [BNK_WAKE_STATUS, BNK_WAKE_CAUSE, BNK_CANW_STATUS] ∧ s.regFrame t)) := by
  intro flag sel wup
  have hexec : exec (.canWakePattern n) s = .next (s.canPattern n) := rfl
  have hwup : s.inStandby n = true → sel = false → wup = true → s.canPattern n = s.canWake 9 n := fun h1 h2 h3 => by
    rw [State.canPattern, h1, show (s.bank.sel.any (fun e => e.1 == n.val)) = false from h2]
    exact if_pos h3
  have hstandby : s.asleep = true → s.inStandby n = true := fun h => by
    rw [State.inStandby, (State.bankOnly_of_asleep h).1]
    rfl
  refine ⟨fun h => ⟨_, hexec, ?_⟩, fun h hs => ⟨_, hexec, ?_⟩, fun h hs hw => ⟨_, hexec, ?_⟩, fun h hs hw => ⟨_, hexec, ?_⟩,
    fun h ha hs hw hf => ⟨_, hexec, ?_⟩, fun h ha hs hw hf hj => ⟨_, hexec, ?_⟩, fun h ha hs hw hf hj => ⟨_, hexec, ?_⟩⟩
  · rw [State.canPattern, h]
    rfl
  · have he : s.canPattern n = s.setBank { s.bank with decoding := s.bank.decoding.filter (· != n.val) ++ [n.val] } := by
      rw [State.canPattern, h, show (s.bank.sel.any (fun e => e.1 == n.val)) = true from hs]
      rfl
    rw [he]
    exact ⟨mem_filter_append.1, mem_filter_append.2, rfl⟩
  · rw [State.canPattern, h, show (s.bank.sel.any (fun e => e.1 == n.val)) = false from hs]
    exact if_neg (Bool.eq_false_iff.1 hw)
  · rw [hwup (hstandby h) hs hw]
    exact State.canWake_woke h (by decide) (by decide) n.isLt
  · rw [hwup h hs hw]
    exact State.canWake_flagged ha hf 9
  · rw [hwup h hs hw]
    exact State.canWake_marked ha hf hj (by decide) n.isLt
  · rw [hwup h hs hw]
    have hjoined := State.canWake_joined ha hf hj (by decide) n.isLt
    generalize s.canWake 9 n = v at hjoined ⊢
    refine ⟨hjoined.cause, hjoined.channel, hjoined.flag (by decide), hjoined.wrote.onlyRegs, ?_⟩
    rw [State.regFrame, hjoined.wrote.wakeFrame.facts.2.1]
    exact hjoined.wrote.2

/-! Selective-wake frames -/

variable {n : Fin 24} {f : WakeFrame} {e : SelEntry}

/-- The frame error count of a selective-wake entry takes a value. -/
def State.selCounted (s : State) (i v : Nat) : State := s.wr (BNK_SEL i 5) (BitVec.ofNat 32 v)

/-- The count has overflowed: it wakes the device, joins the wake of the same tick, is reported, or is noted. -/
def State.selOverflowed (s : State) (ch : Nat) : State :=
  let u := if s.asleep then s.wakeStart 11 ch
    else if s.dev.state = .bankOnly ∧ s.bank.wokeAt = some s.elapsed then s.wakeJoin 11 ch else s
  if u.running then u.raise 0x0E0C 2 ch else u.setBank { u.bank with overflowNew := ch :: u.bank.overflowNew }

/-- A frame is taken by the entry in force on its channel. -/
def State.selHears (s : State) (n : Nat) (f : WakeFrame) (e : SelEntry) : Prop :=
  s.inStandby n = true ∧ n ∈ s.bank.decoding ∧ f.fd = false ∧ f.rate = e.rate

theorem State.selectiveFrame_none (h : s.bank.sel.find? (fun x => x.1 == n.val) = none) : s.selectiveFrame n f = s := by
  rw [State.selectiveFrame, h]

theorem State.selectiveFrame_unheard (h : s.bank.sel.find? (fun x => x.1 == n.val) = some (n.val, e)) (hn : ¬ s.selHears n f e) : s.selectiveFrame n f = s := by
  rw [State.selectiveFrame, h]
  exact if_neg fun ⟨h1, h2, h3, h4⟩ => hn ⟨h1, h2, by simpa using h3, h4⟩

theorem State.selectiveFrame_heard (h : s.bank.sel.find? (fun x => x.1 == n.val) = some (n.val, e)) (hh : s.selHears n f e) :
    s.selectiveFrame n f = if f.error = true then
      (if (s.rd (BNK_SEL e.index 5)).toNat = 31 then (s.selCounted e.index (min 63 ((s.rd (BNK_SEL e.index 5)).toNat + 1))).selOverflowed n
        else s.selCounted e.index (min 63 ((s.rd (BNK_SEL e.index 5)).toNat + 1)))
      else if e.matches f = true then (s.selCounted e.index ((s.rd (BNK_SEL e.index 5)).toNat - 1)).canWake 10 n
        else s.selCounted e.index ((s.rd (BNK_SEL e.index 5)).toNat - 1) := by
  obtain ⟨h1, h2, h3, h4⟩ := hh
  rw [State.selectiveFrame, h]
  exact if_pos ⟨h1, h2, by rw [h3]; rfl, h4⟩

theorem BNK_SEL_apart {i : Nat} (h : i < 8) : BNK_SEL i 5 ∉ [BNK_WAKE_STATUS, BNK_WAKE_CAUSE, BNK_CANW_STATUS] ∧
    (BNK_SEL i 5 < FLT_SRC_LOST 1 ∨ FLT_SRC_LOST 16 < BNK_SEL i 5) := by
  simp only [BNK_SEL, BNK_WAKE_STATUS, BNK_WAKE_CAUSE, BNK_CANW_STATUS, FLT_SRC_LOST, List.mem_cons, List.not_mem_nil, or_false, not_or]
  refine ⟨⟨?_, ?_, ?_⟩, ?_⟩ <;> omega

/-- A counted frame: the entry's count, and nothing else. -/
structure Counted (s t : State) (a v : Nat) : Prop where
  count : (t.rd a).toNat = v
  wrote : s.wroteRegs t [a]
  apart : a ∉ [BNK_WAKE_STATUS, BNK_WAKE_CAUSE, BNK_CANW_STATUS]
  known : a < FLT_SRC_LOST 1 ∨ FLT_SRC_LOST 16 < a

theorem State.counted (s : State) {i v : Nat} (hi : i < 8) (hv : v < 2 ^ 32) : Counted s (s.selCounted i v) (BNK_SEL i 5) v where
  count := by rw [State.selCounted, State.rd_wr_same, BitVec.toNat_ofNat, Nat.mod_eq_of_lt hv]
  wrote := State.wroteRegs_wr s _ (List.mem_singleton_self _)
  apart := (BNK_SEL_apart hi).1
  known := (BNK_SEL_apart hi).2

section
variable {a v : Nat} (hc : Counted s u a v)
include hc

theorem Counted.rd_wake {b : Nat} (hb : b ∈ [BNK_WAKE_STATUS, BNK_WAKE_CAUSE, BNK_CANW_STATUS]) : u.rd b = s.rd b :=
  hc.wrote.1 b (fun h => hc.apart (List.mem_singleton.1 h ▸ hb))

theorem Counted.asleep : u.asleep = s.asleep := State.asleep_congr hc.wrote.wakeFrame.facts.2.2.2.2.1 (by rw [hc.wrote.bank])

theorem Counted.joins : u.joins src ↔ s.joins src :=
  State.joins_congr hc.wrote.wakeFrame.facts.2.2.2.2.1 (by rw [hc.wrote.bank]) hc.wrote.wakeFrame.facts.2.2.2.2.2 (hc.rd_wake (by decide))

theorem Counted.flag : u.fld BNK_CANW_STATUS BNK_CANW_STATUS_flag = s.fld BNK_CANW_STATUS BNK_CANW_STATUS_flag := by
  rw [State.fld, hc.rd_wake (by decide), State.fld]

theorem Counted.woken (h : u.woken t src ch) : s.woken t src ch := by
  obtain ⟨h1, h2, h3⟩ := h
  rw [hc.wrote.bank, hc.wrote.wakeFrame.facts.2.2.2.2.2] at h3
  exact ⟨h1, h2, h3⟩

theorem Counted.bankPosts {c k i : Nat} (h : u.bankPosts t c k i) : s.bankPosts t c k i := by
  obtain ⟨hrun, hflt, hout, hfree, -⟩ := hc.wrote.wakeFrame.facts
  have h2 := h.2
  rw [hrun] at h2
  exact ⟨State.posts_congr hrun hflt h.1, State.eventFrames_congr hout hfree h2⟩

/-- What leaves the wake registers alone leaves the count, and what it changes is changed of the state before. -/
theorem Counted.onlyRegs {l : List Nat} (h : u.onlyRegs t l) (hl : ∀ b ∈ l, b ∈ [BNK_WAKE_STATUS, BNK_WAKE_CAUSE, BNK_CANW_STATUS]) :
    (t.rd a).toNat = v ∧ s.onlyRegs t (a :: l) :=
  ⟨by rw [h a (fun hm => hc.apart (hl a hm)) hc.known, hc.count],
    fun b hb hk => (h b (fun hm => hb (List.mem_cons_of_mem _ hm)) hk).trans (hc.wrote.1 b (fun hm => hb (List.mem_singleton.1 hm ▸ List.mem_cons_self)))⟩

end

/-! The overflow of the count -/

theorem State.selOverflowed_eq {v : State}
    (hv : v = (if s.asleep = true then s.wakeStart 11 ch else if s.dev.state = .bankOnly ∧ s.bank.wokeAt = some s.elapsed then s.wakeJoin 11 ch else s)) :
    s.selOverflowed ch = if v.running = true then v.raise 0x0E0C 2 ch else v.setBank { v.bank with overflowNew := ch :: v.bank.overflowNew } := by
  subst hv
  rfl

theorem State.selOverflowed_of_stopped {v : State}
    (hv : v = (if s.asleep = true then s.wakeStart 11 ch else if s.dev.state = .bankOnly ∧ s.bank.wokeAt = some s.elapsed then s.wakeJoin 11 ch else s))
    (h : v.running = false) : s.selOverflowed ch = v.setBank { v.bank with overflowNew := ch :: v.bank.overflowNew } := by
  rw [State.selOverflowed_eq hv, h, if_neg Bool.false_ne_true]

theorem State.selOverflowed_woke (h : s.asleep = true) (hch : ch < 24) :
    s.woken (s.selOverflowed ch) 11 ch ∧ (s.selOverflowed ch).bank.overflowNew = ch :: s.bank.overflowNew ∧
    s.onlyRegs (s.selOverflowed ch) [BNK_WAKE_CAUSE] ∧ s.wakeFrame (s.selOverflowed ch) := by
  have hst := s.started (src := 11) (by decide) (Nat.lt_trans hch (by decide : 24 < 32))
  have hrun : (s.wakeStart 11 ch).running = false :=
    (State.wakeFrame.facts hst.frame).1.trans (State.bankOnly_of_asleep h).2
  rw [State.selOverflowed_of_stopped (if_pos h).symm hrun]
  generalize s.wakeStart 11 ch = v at hst ⊢
  refine ⟨⟨hst.cause, hst.channel, ?_⟩, ?_, fun a ha _ => hst.rd a (by simpa using ha), State.wakeFrame.trans hst.frame (State.wakeFrame_iff.2 ⟨_, _, rfl⟩)⟩
  · rw [State.setBank, hst.bank]
    rfl
  · rw [State.setBank, hst.bank]
    rfl

theorem State.selOverflowed_reported (h : s.running = true) (hch : ch < 24) :
    s.bankPosts (s.selOverflowed ch) 0x0E0C 2 ch ∧ s.onlyRegs (s.selOverflowed ch) [] ∧ s.bankFrame (s.selOverflowed ch) ∧
    (s.selOverflowed ch).bank = s.bank := by
  have hst : s.dev.state ≠ .bankOnly := fun hb => by rw [State.running, hb] at h; exact Bool.noConfusion h
  have has : ¬ s.asleep = true := fun ha => hst (State.bankOnly_of_asleep ha).1
  have he : s.selOverflowed ch = s.raise 0x0E0C 2 ch := by
    rw [State.selOverflowed_eq (v := s) (by rw [if_neg has, if_neg (fun hb => hst hb.1)]), if_pos h]
  rw [he]
  obtain ⟨hpost, hbf, hb, hr⟩ := (State.wroteRegs.refl s []).wakeFrame.raised (c := 0x0E0C) (k := 2) (i := ch) rfl (by decide) (by decide)
    (Nat.lt_trans hch (by decide))
  exact ⟨hpost, fun a _ hl => hr a hl, hbf, hb⟩

theorem State.selOverflowed_noted (h : s.running = false) (ha : s.asleep = false) (hw : ¬ (s.dev.state = .bankOnly ∧ s.bank.wokeAt = some s.elapsed)) :
    s.selOverflowed ch = s.setBank { s.bank with overflowNew := ch :: s.bank.overflowNew } :=
  State.selOverflowed_of_stopped (by rw [ha, if_neg Bool.false_ne_true, if_neg hw]) h

theorem State.selOverflowed_joined (ha : s.asleep = false) (hw : s.dev.state = .bankOnly ∧ s.bank.wokeAt = some s.elapsed) (hch : ch < 24) :
    ((s.selOverflowed ch).fld BNK_CANW_STATUS BNK_CANW_STATUS_flag).testBit ch = true ∧
    s.onlyRegs (s.selOverflowed ch) [BNK_WAKE_STATUS, BNK_WAKE_CAUSE, BNK_CANW_STATUS] ∧
    (s.joins 11 → (s.selOverflowed ch).fld BNK_WAKE_CAUSE BNK_WAKE_CAUSE_src = 11 ∧ (s.selOverflowed ch).fld BNK_WAKE_CAUSE BNK_WAKE_CAUSE_channel = ch) ∧
    (¬ s.joins 11 → s.onlyRegs (s.selOverflowed ch) [BNK_CANW_STATUS]) ∧
    s.selOverflowed ch = { s with regs := (s.selOverflowed ch).regs, bank := { s.bank with overflowNew := ch :: s.bank.overflowNew } } := by
  have hjoin : s.wroteRegs (s.wakeJoin 11 ch) [BNK_WAKE_STATUS, BNK_WAKE_CAUSE, BNK_CANW_STATUS] ∧
      ((s.wakeJoin 11 ch).fld BNK_CANW_STATUS BNK_CANW_STATUS_flag).testBit ch = true ∧
      (s.joins 11 → (s.wakeJoin 11 ch).fld BNK_WAKE_CAUSE BNK_WAKE_CAUSE_src = 11 ∧ (s.wakeJoin 11 ch).fld BNK_WAKE_CAUSE BNK_WAKE_CAUSE_channel = ch) ∧
      (¬ s.joins 11 → s.onlyRegs (s.wakeJoin 11 ch) [BNK_CANW_STATUS]) := by
    by_cases hj : s.joins 11
    · have h := State.joined hj (by decide) hch
      exact ⟨h.wrote, h.flag (by decide), fun _ => ⟨h.cause, h.channel⟩, fun hn => absurd hj hn⟩
    · rw [State.wakeJoin_of_not hj]
      have h := s.wroteRegs_markFlag (by decide : 8 < 11) ch
      exact ⟨h.mono (by simp), s.flag_markSource (by decide) hch, fun h' => absurd h' hj, fun _ => h.onlyRegs⟩
  obtain ⟨hwrote, hflag, hj, hnj⟩ := hjoin
  have hrun : (s.wakeJoin 11 ch).running = false := by
    rw [hwrote.wakeFrame.facts.1, State.running, hw.1]
  rw [State.selOverflowed_of_stopped (by rw [ha, if_neg Bool.false_ne_true, if_pos hw]) hrun]
  generalize s.wakeJoin 11 ch = v at hwrote hflag hj hnj ⊢
  rw [hwrote.bank]
  refine ⟨hflag, hwrote.onlyRegs, hj, hnj, ?_⟩
  exact congrArg (fun x : State => x.setBank { s.bank with overflowNew := ch :: s.bank.overflowNew }) hwrote.2

theorem gives_selectiveWakeFrame (hfind : s.bank.sel.find? (fun x => x.1 == n.val) = some (n.val, e)) (hi : e.index < 8) :
    let a := BNK_SEL e.index 5
    let k := (s.rd a).toNat
    let heard := s.inStandby n = true ∧ n.val ∈ s.bank.decoding ∧ f.fd = false ∧ f.rate = e.rate
    let count := fun (t : State) (v : Nat) => (t.rd a).toNat = v
    let woke := s.dev.state = .bankOnly ∧ s.bank.wokeAt = some s.elapsed
    (¬ heard → Gives (.selectiveWakeFrame n f) s (fun t => t = s)) ∧
    (heard → f.error = true → k ≠ 31 → Gives (.selectiveWakeFrame n f) s (fun t => count t (min 63 (k + 1)) ∧ s.onlyRegs t [a] ∧
      t = { s with regs := t.regs })) ∧
    (heard → f.error = true → k = 31 → s.asleep = true → Gives (.selectiveWakeFrame n f) s (fun t => count t 32 ∧ s.woken t 11 n ∧
      t.bank.overflowNew = n.val :: s.bank.overflowNew ∧ s.onlyRegs t [a, BNK_WAKE_CAUSE] ∧ t = { s with regs := t.regs, bank := t.bank })) ∧
    (heard → f.error = true → k = 31 → s.running = true → Gives (.selectiveWakeFrame n f) s (fun t => count t 32 ∧
      s.bankPosts t 0x0E0C 2 n ∧ s.onlyRegs t [a] ∧ s.bankFrame t ∧ t.bank = s.bank)) ∧
    (heard → f.error = true → k = 31 → s.running = false → s.asleep = false → ¬ woke → Gives (.selectiveWakeFrame n f) s (fun t => count t 32 ∧
      s.onlyRegs t [a] ∧ t = { s with regs := t.regs, bank := { s.bank with overflowNew := n.val :: s.bank.overflowNew } })) ∧
    (heard → f.error = true → k = 31 → s.asleep = false → woke → Gives (.selectiveWakeFrame n f) s (fun t => count t 32 ∧
      (t.fld BNK_CANW_STATUS BNK_CANW_STATUS_flag).testBit n = true ∧ s.onlyRegs t [a, BNK_WAKE_STATUS, BNK_WAKE_CAUSE, BNK_CANW_STATUS] ∧
      (s.joins 11 → t.fld BNK_WAKE_CAUSE BNK_WAKE_CAUSE_src = 11 ∧ t.fld BNK_WAKE_CAUSE BNK_WAKE_CAUSE_channel = n) ∧
      (¬ s.joins 11 → s.onlyRegs t [a, BNK_CANW_STATUS]) ∧
      t = { s with regs := t.regs, bank := { s.bank with overflowNew := n.val :: s.bank.overflowNew } })) ∧
    (heard → f.error = false → e.matches f = false → Gives (.selectiveWakeFrame n f) s (fun t => count t (k - 1) ∧ s.onlyRegs t [a] ∧
      t = { s with regs := t.regs })) ∧
    (heard → f.error = false → e.matches f = true → s.asleep = true → Gives (.selectiveWakeFrame n f) s (fun t => count t (k - 1) ∧
      s.woken t 10 n ∧ (t.fld BNK_CANW_STATUS BNK_CANW_STATUS_flag).testBit n = true ∧
      s.onlyRegs t [a, BNK_WAKE_CAUSE, BNK_CANW_STATUS] ∧ t = { s with regs := t.regs, bank := t.bank })) ∧
    (heard → f.error = false → e.matches f = true → s.asleep = false → ¬ s.joins 10 ∨ (s.fld BNK_CANW_STATUS BNK_CANW_STATUS_flag).testBit n = true → Gives (.selectiveWakeFrame n f) s (fun t =>
      count t (k - 1) ∧ (t.fld BNK_CANW_STATUS BNK_CANW_STATUS_flag).testBit n = true ∧
      ((s.fld BNK_CANW_STATUS BNK_CANW_STATUS_flag).testBit n = false → s.bankPosts t 0x0E0A 0 n) ∧
      ((s.fld BNK_CANW_STATUS BNK_CANW_STATUS_flag).testBit n = true → t.flt = s.flt ∧ s.eventFrames t 0) ∧
      s.onlyRegs t [a, BNK_CANW_STATUS] ∧ s.bankFrame t ∧ t.bank = s.bank)) ∧
    (heard → f.error = false → e.matches f = true → s.asleep = false → (s.fld BNK_CANW_STATUS BNK_CANW_STATUS_flag).testBit n = false →
      s.joins 10 → Gives (.selectiveWakeFrame n f) s (fun t => count t (k - 1) ∧ (t.fld BNK_CANW_STATUS BNK_CANW_STATUS_flag).testBit n = true ∧
      t.fld BNK_WAKE_CAUSE BNK_WAKE_CAUSE_src = 10 ∧ t.fld BNK_WAKE_CAUSE BNK_WAKE_CAUSE_channel = n ∧
      s.onlyRegs t [a, BNK_WAKE_STATUS, BNK_WAKE_CAUSE, BNK_CANW_STATUS] ∧ t = { s with regs := t.regs })) := by
  intro a k heard count woke
  have hexec : exec (.selectiveWakeFrame n f) s = .next (s.selectiveFrame n f) := rfl
  have hk : k - 1 < 2 ^ 32 := Nat.lt_of_le_of_lt (Nat.sub_le _ _) (s.rd a).isLt
  have hup := s.counted hi (Nat.lt_of_le_of_lt (Nat.min_le_left 63 (k + 1)) (by decide))
  have hdown := s.counted hi hk
  have herr : heard → f.error = true → s.selectiveFrame n f = if k = 31 then (s.selCounted e.index (min 63 (k + 1))).selOverflowed n
      else s.selCounted e.index (min 63 (k + 1)) := fun h he => (State.selectiveFrame_heard hfind h).trans (if_pos he)
  have hgood : heard → f.error = false → s.selectiveFrame n f = if e.matches f = true then (s.selCounted e.index (k - 1)).canWake 10 n
      else s.selCounted e.index (k - 1) := fun h he => (State.selectiveFrame_heard hfind h).trans (if_neg (Bool.eq_false_iff.1 he))
  have hover : heard → f.error = true → k = 31 → s.selectiveFrame n f = (s.selCounted e.index (min 63 (k + 1))).selOverflowed n :=
    fun h he hk31 => (herr h he).trans (if_pos hk31)
  have hmatch : heard → f.error = false → e.matches f = true → s.selectiveFrame n f = (s.selCounted e.index (k - 1)).canWake 10 n :=
    fun h he hm => (hgood h he).trans (if_pos hm)
  have hfull : k = 31 → min 63 (k + 1) = 32 := fun h => by rw [h]; rfl
  generalize s.selCounted e.index (min 63 (k + 1)) = u at hup herr hover
  generalize s.selCounted e.index (k - 1) = v at hdown hgood hmatch
  obtain ⟨hrun, -, -, -, hdev, hel⟩ := hup.wrote.wakeFrame.facts
  have hwoke : (u.dev.state = .bankOnly ∧ u.bank.wokeAt = some u.elapsed) ↔ woke := by rw [hdev, hup.wrote.bank, hel]
  refine ⟨fun h => ⟨_, hexec, State.selectiveFrame_unheard hfind h⟩, fun h he hne => ⟨_, hexec, ?_⟩, fun h he h31 ha => ⟨_, hexec, ?_⟩,
    fun h he h31 hr => ⟨_, hexec, ?_⟩, fun h he h31 hr ha hw => ⟨_, hexec, ?_⟩, fun h he h31 ha hw => ⟨_, hexec, ?_⟩,
    fun h he hm => ⟨_, hexec, ?_⟩, fun h he hm ha => ⟨_, hexec, ?_⟩, fun h he hm ha hor => ⟨_, hexec, ?_⟩, fun h he hm ha hflag hj => ⟨_, hexec, ?_⟩⟩
  · rw [herr h he, if_neg hne]
    exact ⟨hup.count, hup.wrote.onlyRegs, hup.wrote.2⟩
  · rw [hover h he h31]
    obtain ⟨hwoken, hbank, honly, hframe⟩ := State.selOverflowed_woke (hup.asleep.trans ha) n.isLt
    obtain ⟨hcount, honly⟩ := hup.onlyRegs honly (by decide)
    exact ⟨hcount.trans (hfull h31), hup.woken hwoken, hbank.trans (by rw [hup.wrote.bank]), honly, hup.wrote.wakeFrame.trans hframe⟩
  · rw [hover h he h31]
    obtain ⟨hpost, honly, hframe, hbank⟩ := State.selOverflowed_reported (hrun.trans hr) n.isLt
    obtain ⟨hcount, honly⟩ := hup.onlyRegs honly (by decide)
    exact ⟨hcount.trans (hfull h31), hup.bankPosts hpost, honly, hup.wrote.wakeFrame.bankFrame.trans hframe, hbank.trans hup.wrote.bank⟩
  · rw [hover h he h31, State.selOverflowed_noted (hrun.trans hr) (hup.asleep.trans ha) (fun h => hw (hwoke.1 h)), hup.wrote.bank]
    exact ⟨hup.count.trans (hfull h31), hup.wrote.setBank _⟩
  · rw [hover h he h31]
    obtain ⟨hflag, honly, hj, hnj, hframe⟩ := State.selOverflowed_joined (hup.asleep.trans ha) (hwoke.2 hw) n.isLt
    obtain ⟨hcount, honly⟩ := hup.onlyRegs honly (by decide)
    refine ⟨hcount.trans (hfull h31), hflag, honly, fun h => hj (hup.joins.2 h), fun h => (hup.onlyRegs (hnj (fun h' => h (hup.joins.1 h'))) (by decide)).2, ?_⟩
    rw [hup.wrote.bank] at hframe
    exact hframe.trans (congrArg (fun x : State => { x with
      regs := (u.selOverflowed n).regs, bank := { s.bank with overflowNew := n.val :: s.bank.overflowNew } }) hup.wrote.2)
  · rw [hgood h he, if_neg (Bool.eq_false_iff.1 hm)]
    exact ⟨hdown.count, hdown.wrote.onlyRegs, hdown.wrote.2⟩
  · rw [hmatch h he hm]
    obtain ⟨hwoken, hflag, honly, hframe⟩ := State.canWake_woke (hdown.asleep.trans ha) (by decide : 10 < 16) (by decide) n.isLt
    obtain ⟨hcount, honly⟩ := hdown.onlyRegs honly (by decide)
    exact ⟨hcount, hdown.woken hwoken, hflag, honly, hdown.wrote.wakeFrame.trans hframe⟩
  · rw [hmatch h he hm]
    cases hf : (s.fld BNK_CANW_STATUS BNK_CANW_STATUS_flag).testBit n with
    | true =>
      rw [State.canWake_flagged (hdown.asleep.trans ha) (by rw [hdown.flag, hf]) 10]
      have hq := hdown.wrote.wakeFrame.quiet
      exact ⟨hdown.count, by rw [hdown.flag, hf], fun h => Bool.noConfusion h, fun _ => hq, (hdown.wrote.mono (fun b hb => List.mem_singleton.1 hb ▸ List.mem_cons_self)).onlyRegs,
        hdown.wrote.wakeFrame.bankFrame, hdown.wrote.bank⟩
    | false =>
      have hj : ¬ s.joins 10 := hor.resolve_right (fun h => Bool.noConfusion (h.symm.trans hf))
      obtain ⟨hbit, hpost, honly, hframe, hbank⟩ := State.canWake_marked (hdown.asleep.trans ha) (by rw [hdown.flag, hf]) (fun h => hj (hdown.joins.1 h))
        (by decide) n.isLt
      obtain ⟨hcount, honly⟩ := hdown.onlyRegs honly (by decide)
      exact ⟨hcount, hbit, fun _ => hdown.bankPosts hpost, fun h => Bool.noConfusion h, honly, hdown.wrote.wakeFrame.bankFrame.trans hframe,
        hbank.trans hdown.wrote.bank⟩
  · rw [hmatch h he hm]
    have hjoined := State.canWake_joined (hdown.asleep.trans ha) (by rw [hdown.flag, hflag]) (hdown.joins.2 hj) (by decide) n.isLt
    obtain ⟨hcount, honly⟩ := hdown.onlyRegs hjoined.wrote.onlyRegs (by decide)
    exact ⟨hcount, hjoined.flag (by decide), hjoined.cause, hjoined.channel, honly, ((hdown.wrote.mono (l' := [a, BNK_WAKE_STATUS, BNK_WAKE_CAUSE, BNK_CANW_STATUS])
      (by simp [a])).trans (hjoined.wrote.mono (by simp))).2⟩

/-- A transceiver out of standby that ends a dominant drive. -/
theorem gives_transceiverDominantTimeout (s : State) (n : Fin 24) :
    (s.inStandby n = false → Gives (.transceiverDominantTimeout n) s (fun t =>
      s.bankPosts t 0x0E0B 3 n ∧ s.onlyRegs t [] ∧ s.bankFrame t ∧ t.bank = s.bank)) ∧
    (s.inStandby n = true → Gives (.transceiverDominantTimeout n) s (fun t => t = s)) := by
  refine ⟨fun h => ⟨_, congrArg Host.Outcome.next (if_neg (Bool.eq_false_iff.1 h)), ?_⟩, fun h => ⟨_, congrArg Host.Outcome.next (if_pos h), rfl⟩⟩
  obtain ⟨hpost, hbf, hb, hr⟩ := (State.wroteRegs.refl s []).wakeFrame.raised (c := 0x0E0B) (k := 3) (i := n) rfl (by decide) (by decide)
    (Nat.lt_trans n.isLt (by decide))
  exact ⟨hpost, fun a _ hl => hr a hl, hbf, hb⟩

end

/-- Settles O6: each row by the rule of the function it runs; of the sources of one tick the lowest is the cause. -/
theorem wakeInputs : Obligations.WakeInputs := by
  unfold Obligations.WakeInputs
  intro s
  exact ⟨gives_wakeInputChange s, fun i h => ⟨_, congrArg Host.Outcome.next (if_neg (Bool.eq_false_iff.1 h)), rfl⟩, gives_wakeFilterExpiry s,
    gives_wakeArm s, fun i h => ⟨_, congrArg Host.Outcome.next (State.wakeArm_idle h), rfl⟩, gives_wakeStuck s,
    fun i h => ⟨_, congrArg Host.Outcome.next (State.wakeStuck_idle h), rfl⟩, gives_canWakePattern s,
    fun n f e h hi => gives_selectiveWakeFrame h hi, fun n f h => ⟨_, congrArg Host.Outcome.next (State.selectiveFrame_none h), rfl⟩,
    gives_transceiverDominantTimeout s⟩

end Sys2Proof.Machine

/-! A hello at a link that probes (R307, R308) whose port octet is above the field that shows it. -/

namespace Sys2Proof.Machine

-- The kernel evaluates the counterexample; one declaration after another, so that no evaluation waits for memory of others.
set_option Elab.async false

/-- A hello from port 32 of the neighbour, and its header. -/
def helloHdr : FabHdr := { type := 1, tc := 6, dst := 0xFF, src := 0, epoch := 0, tag := 0 }
def helloFrom32 : Frame :=
  { input := 0, kind := .fabric, data := List.replicate 14 0 ++ [32] ++ List.replicate 17 0, fab := some helloHdr }

/-- The bridge is on, the link of port 0 is up and probes, and the hello waits at sp31. -/
def linkProbing : State :=
  let s := (((((State.reset.wr SYS_POLDER 0xFFFFFFFF).wr FAB_CTL 1).setFld (FAB_PORT_CFG 0) FAB_PORT_CFG_role 1).setFld
    (ETH_PHY_STATUS 0) ETH_PHY_STATUS_link 1).setFld (FAB_PORT_STATUS 0) FAB_PORT_STATUS_state 1)
  { s with dev := { s.dev with state := .full }, sw := { s.sw with staged := [(31, [helloFrom32])] } }

/-- What a hello leaves at a link that probes, where the neighbour has sent none before: the port shows the neighbour. -/
def State.helloShown (s : State) (p : Nat) (h : FabHdr) (d : List Byte) (run : Nat) : State :=
  (((((s.fabCount 0).setFabPort p {
    run := run, last := (s.fabCount 0).elapsed, heard := true, peer := beNat (slice 0 8 d), mac := beNat (slice 8 6 d)
    role := beNat (slice 15 1 d), addr := h.src, epoch := h.epoch, head := beNat (slice 24 8 d) }).sawEpoch h.epoch).wr64 (FAB_PEER_LO p)
    (FAB_PEER_HI p) (beNat (slice 0 8 d))).setFld (FAB_PORT_STATUS p) FAB_PORT_STATUS_peer_port (beNat (slice 14 1 d))).relink

theorem State.helloTake_first {s : State} {p : Nat} {d : List Byte} (hlink : (s.fabCount 0).linkState p = 1) (hport : (s.fabCount 0).fabPort p = {})
    (hhead : beNat (slice 24 8 d) = 0) (h : FabHdr) : ∃ run ≤ 1, s.helloTake p h d = s.helloShown p h d run := by
  refine ⟨if beNat (slice 16 8 d) == ownId then 1 else 0, by split <;> decide, ?_⟩
  have hsame : (decide (2 ≤ (s.fabCount 0).linkState p) && (s.fabCount 0).peerId p != beNat (slice 0 8 d)) = false := by rw [hlink]; rfl
  have hstep : ∀ x : FabPort, (((s.fabCount 0).setFabPort p x).sawEpoch h.epoch).linkState p ≠ 0 := fun x => by
    rw [show (((s.fabCount 0).setFabPort p x).sawEpoch h.epoch).linkState p = 1 from hlink]
    decide
  have hrun : (if (beNat (slice 16 8 d) == ownId) = true then 1 else 0) ≠ 3 := by split <;> decide
  unfold State.helloTake State.helloShown
  simp only [hsame, Bool.false_eq_true, if_false, hport, hhead, Bool.false_and, if_neg (hstep _), ne_eq, not_true_eq_false, and_false, hrun]

/-- Its port octet does not fit the field of five bits. -/
theorem linkProbing_shown (run : Nat) (h : run ≤ 1) :
    (linkProbing.pop31.helloShown 0 helloHdr helloFrom32.data run).fld
      (FAB_PORT_STATUS 0) FAB_PORT_STATUS_peer_port = 0 := by
  obtain rfl | rfl : run = 0 ∨ run = 1 := by omega
  · decide +kernel
  · decide +kernel

theorem linkProbing_take : linkProbing.take31 1 = some (helloFrom32, helloHdr, linkProbing.pop31) := by
  have hhead : linkProbing.head31 = some helloFrom32 := by decide +kernel
  rw [State.take31, hhead]
  rfl

theorem linkProbing_hello : linkProbing.hello = linkProbing.pop31.helloTake 0 helloHdr helloFrom32.data := by
  have hon : linkProbing.pop31.bridgeOn = true ∧ linkProbing.pop31.fabLink 0 = true ∧ linkProbing.pop31.linkUp 0 = true := by decide +kernel
  rw [State.hello, linkProbing_take]
  exact if_pos hon


theorem linkProbing_up : linkProbing.pop31.bridgeOn = true ∧ linkProbing.pop31.fabLink 0 = true ∧ linkProbing.pop31.linkUp 0 = true ∧
    linkProbing.pop31.linkState 0 ≠ 0 := by decide +kernel

theorem linkProbing_port : linkProbing.hello.fld (FAB_PORT_STATUS 0) FAB_PORT_STATUS_peer_port = 0 := by
  obtain ⟨run, hrun, htake⟩ := State.helloTake_first (s := linkProbing.pop31) (p := 0) (d := helloFrom32.data) (by decide +kernel) (by decide +kernel)
    (by decide) helloHdr
  rw [linkProbing_hello, htake]
  exact linkProbing_shown run hrun

theorem helloFrom32_port : beNat (slice 14 1 helloFrom32.data) = 32 := by decide

/-- Refutes O17: FAB_PORT_STATUS.peer_port has five bits and a hello's port octet has eight, so a hello from port 32 shows as port 0. -/
theorem not_fabricLinks : ¬ Obligations.FabricLinks := by
  unfold Obligations.FabricLinks
  intro h
  obtain ⟨-, -, hhello, -⟩ := h linkProbing
  obtain ⟨hon, hlink, hup, hstate⟩ := linkProbing_up
  obtain ⟨t, ht, -, -, -, -, -, -, -, -, -, hpeer, -⟩ := hhello helloFrom32 helloHdr linkProbing.pop31 linkProbing_take hon hlink hup
  obtain ⟨-, hport⟩ := hpeer hstate
  rw [helloFrom32_port, ← Host.Outcome.next.inj ht] at hport
  exact absurd (linkProbing_port.symm.trans hport) (by decide)

end Sys2Proof.Machine

/-! What the switch leaves alone as it admits, queues, drops and cuts frames. -/

namespace Sys2Proof.Machine

/-- An address outside the switch core's, the guards', the tables' and the lost-posting registers, and apart from the counters of the CAN
channels and the ports: no work of the switch writes it. -/
def quiet (a : Nat) : Prop :=
  (a < FLT_SRC_LOST 1 ∨ FLT_SRC_LOST 16 < a) ∧ (a < 0x20030000 ∨ 0x20040000 ≤ a) ∧ (a < 0x20050000 ∨ 0x20070000 ≤ a) ∧
  (a < 0x200A0000 ∨ a % 0x1000 ≠ 0x1C0) ∧ (a < 0x20080000 ∨ 0x200A0000 ≤ a ∨ a % 0x1000 < 0x800)

/-- The switch has worked from `s` on: beside registers, only its own blocks, the ports, the CAN queues, events and outputs have changed, and
no register at an address of `P`. -/
structure SwKept (P : Nat → Prop) (s t : State) : Prop where
  eq : ∃ r f w m c e x b o k, t = { s with
    regs := r, flt := f, sw := w, tm := m, csg := c, eth := e, can := x, bank := b, outputs := o, free := k }
  rd : ∀ a, P a → t.rd a = s.rd a

section
variable {P : Nat → Prop} {s t u : State}

theorem SwKept.refl (P : Nat → Prop) (s : State) : SwKept P s s := ⟨⟨_, _, _, _, _, _, _, _, _, _, rfl⟩, fun _ _ => rfl⟩

theorem SwKept.trans (h1 : SwKept P s t) (h2 : SwKept P t u) : SwKept P s u := by
  obtain ⟨⟨r, f, w, m, c, e, x, b, o, k, h⟩, hr⟩ := h1
  obtain ⟨⟨r', f', w', m', c', e', x', b', o', k', h'⟩, hr'⟩ := h2
  exact ⟨⟨r', f', w', m', c', e', x', b', o', k', by rw [h', h]⟩, fun a ha => (hr' a ha).trans (hr a ha)⟩

theorem SwKept.facts (h : SwKept P s t) : t.mem = s.mem ∧ t.mram = s.mram ∧ t.otp = s.otp ∧ t.fab = s.fab ∧ t.dev = s.dev ∧ t.pins = s.pins ∧
    t.elapsed = s.elapsed := by
  obtain ⟨⟨_, _, _, _, _, _, _, _, _, _, rfl⟩, -⟩ := h
  exact ⟨rfl, rfl, rfl, rfl, rfl, rfl, rfl⟩

theorem SwKept.foldl {α : Type} {f : State → α → State} {l : List α} (hf : ∀ t x, x ∈ l → SwKept P s t → SwKept P s (f t x)) (h : SwKept P s t) :
    SwKept P s (l.foldl f t) := by
  induction l generalizing t with
  | nil => exact h
  | cons x l ih => exact ih (fun t y hy => hf t y (List.mem_cons_of_mem _ hy)) (hf t x List.mem_cons_self h)

theorem SwKept.ite {p : Prop} [Decidable p] {v : State} (h1 : p → SwKept P s u) (h2 : ¬ p → SwKept P s v) : SwKept P s (if p then u else v) := by
  split
  · exact h1 ‹_›
  · exact h2 ‹_›

/-! What leaves every register alone -/

theorem SwKept.blocks (h : SwKept P s t) {r : State} (he : ∃ f w m c e x b o k, r = { t with
    flt := f, sw := w, tm := m, csg := c, eth := e, can := x, bank := b, outputs := o, free := k }) : SwKept P s r := by
  obtain ⟨_, _, _, _, _, _, _, _, _, rfl⟩ := he
  exact h.trans ⟨⟨t.regs, _, _, _, _, _, _, _, _, _, rfl⟩, fun _ _ => rfl⟩

variable (h : SwKept P s t)
include h

theorem SwKept.setSw (w : SwState) : SwKept P s { t with sw := w } := h.blocks ⟨_, _, _, _, _, _, _, _, _, rfl⟩
theorem SwKept.setQ (q : Nat) (l : List Nat) : SwKept P s (t.setQ q l) := h.setSw _
theorem SwKept.modFrame (id : Nat) (g : Frame → Frame) : SwKept P s (t.modFrame id g) := h.setSw _
theorem SwKept.airCut (p : Nat) : SwKept P s (t.airCut p) := h.setSw _
theorem SwKept.freeIx : SwKept P s t.freeIx.2 := h.blocks ⟨_, _, _, _, _, _, _, _, _, rfl⟩
theorem SwKept.out (o : Output) : SwKept P s (t.out o) := h.blocks ⟨_, _, _, _, _, _, _, _, _, rfl⟩
theorem SwKept.markRaise (c i : Nat) : SwKept P s (t.markRaise c i) := h.blocks ⟨_, _, _, _, _, _, _, _, _, rfl⟩
theorem SwKept.setPol (p : Nat) (x : Policer) : SwKept P s (t.setPol p x) := h.blocks ⟨_, _, _, _, _, _, _, _, _, rfl⟩
theorem SwKept.setSlot (g : Nat) (x : Guard) : SwKept P s (t.setSlot g x) := h.blocks ⟨_, _, _, _, _, _, _, _, _, rfl⟩
theorem SwKept.setPort (p : Nat) (x : EthPort) : SwKept P s (t.setPort p x) := h.blocks ⟨_, _, _, _, _, _, _, _, _, rfl⟩
theorem SwKept.setChan (n : Nat) (x : CanChan) : SwKept P s (t.setChan n x) := h.blocks ⟨_, _, _, _, _, _, _, _, _, rfl⟩
theorem SwKept.wmDelay (q ns : Nat) : SwKept P s (t.wmDelay q ns) := h.blocks ⟨_, _, _, _, _, _, _, _, _, rfl⟩
theorem SwKept.wmDepth (q : Nat) : SwKept P s (t.wmDepth q) := h.blocks ⟨_, _, _, _, _, _, _, _, _, rfl⟩
theorem SwKept.policeEnd (p n : Nat) : SwKept P s (t.policeEnd p n) := h.setPol _ _
theorem SwKept.canFree (ch no : Nat) : SwKept P s (t.canFree ch no) := h.setChan _ _
theorem SwKept.setOwed (l : List Nat) : SwKept P s { t with csg := { t.csg with owed := l } } := h.blocks ⟨_, _, _, _, _, _, _, _, _, rfl⟩

theorem SwKept.wr {a : Nat} (v : Word) (ha : ¬ P a) : SwKept P s (t.wr a v) :=
  h.trans ⟨⟨_, t.flt, t.sw, t.tm, t.csg, t.eth, t.can, t.bank, t.outputs, t.free, rfl⟩,
    fun _ hb => t.rd_wr_ne v (fun he => ha (he ▸ hb))⟩

theorem SwKept.setFld {a : Nat} (f : Fld) (v : Nat) (ha : ¬ P a) : SwKept P s (t.setFld a f v) := h.wr _ ha

theorem SwKept.bump {a : Nat} (n : Nat) (ha : ¬ P a) : SwKept P s (t.bump a n) := h.wr _ ha

end

section
variable {P : Nat → Prop} {s t u : State} (hP : ∀ a, P a → quiet a)
include hP

theorem not_quiet_swc {a : Nat} (h1 : 0x20030000 ≤ a) (h2 : a < 0x20040000) : ¬ P a := fun ha => by
  obtain ⟨-, h, -⟩ := hP a ha
  omega

theorem not_quiet_csg {a : Nat} (h1 : 0x20050000 ≤ a) (h2 : a < 0x20070000) : ¬ P a := fun ha => by
  obtain ⟨-, -, h, -⟩ := hP a ha
  omega

theorem not_quiet_spill {b : Nat} (hb : b < 8) : ¬ P (SWC_BANK_SPILL b) :=
  not_quiet_swc hP (by simp only [SWC_BANK_SPILL]; omega) (by simp only [SWC_BANK_SPILL]; omega)

theorem not_quiet_can (ch : Nat) : ¬ P (CAN_CNT ch 16) := fun ha => by
  obtain ⟨-, -, -, h, -⟩ := hP _ ha
  simp only [CAN_CNT] at h
  omega

theorem not_quiet_eth {p k : Nat} (hp : p < 28) (hk : k < 512) : ¬ P (ETH_CNT p k) := fun ha => by
  obtain ⟨-, -, -, -, h⟩ := hP _ ha
  simp only [ETH_CNT] at h
  omega

variable (h : SwKept P s t)
include h

theorem SwKept.raise {c : Nat} (hc : c < 0x1100) (k i d : Nat) : SwKept P s (t.raise c k i d) := by
  obtain ⟨⟨f, r, e⟩, hr⟩ := t.raise_frame c k i d hc
  exact h.trans ⟨⟨r, f, t.sw, t.tm, t.csg, t.eth, t.can, _, _, _, e⟩, fun a ha => hr a (isSrcLost_eq_false.2 (hP a ha).1)⟩

theorem SwKept.raiseLim {c : Nat} (hc : c < 0x1100) (k i d : Nat) : SwKept P s (t.raiseLim c k i d) := by
  unfold State.raiseLim
  exact SwKept.ite (fun _ => (h.markRaise c i).raise hP hc k i d) (fun _ => h)

theorem SwKept.swCount {p k : Nat} (hp : p < 32) (hk : k < 16) (n : Nat) : SwKept P s (t.swCount p k n) :=
  h.bump n (not_quiet_swc hP (by simp only [SWC_CNT]; omega) (by simp only [SWC_CNT]; omega))

/-! The CAN records of undelivered frames -/

theorem SwKept.canDropped (ch no : Nat) : SwKept P s (t.canDropped ch no) :=
  ((h.bump 1 (not_quiet_can hP ch)).raiseLim hP (by decide) 2 ch 0).canFree ch no

theorem SwKept.undelivered (f : Frame) (o : Nat) : SwKept P s (t.undelivered f o) := by
  unfold State.undelivered
  split
  · exact SwKept.ite (fun _ => h.canDropped hP _ _) (fun _ => h)
  · exact h

/-! Spilling -/

theorem SwKept.spillCheck {b : Nat} (hb : b < 8) : SwKept P s (t.spillCheck b) := by
  have ha := not_quiet_spill hP hb
  unfold State.spillCheck
  exact SwKept.ite (fun _ => SwKept.ite (fun _ => ((h.setFld _ _ ha).setFld _ _ ha).raise hP (by decide) 0 b 0) (fun _ => h))
    (fun _ => SwKept.ite (fun _ => (h.setFld _ _ ha).raise hP (by decide) 1 b 0) (fun _ => h))

theorem SwKept.chooseTarget {b : Nat} (hb : b < 8) : SwKept P s (t.chooseTarget b) := by
  have ha := not_quiet_spill hP hb
  unfold State.chooseTarget
  extract_lets a best
  clear_value best
  split
  · exact (h.setFld _ _ ha).setFld _ _ ha
  · exact SwKept.ite (fun _ => (h.setFld _ _ ha).setFld _ _ ha) (fun _ => ((h.setFld _ _ ha).setFld _ _ ha).raise hP (by decide) 3 b 0)

theorem SwKept.spillTarget (was : State) {b : Nat} (hb : b < 8) : SwKept P s (was.spillTarget t b) := by
  unfold State.spillTarget
  exact SwKept.ite (fun _ => h.chooseTarget hP hb) (fun _ => h)

theorem SwKept.spillAll : SwKept P s t.spillAll :=
  SwKept.foldl (fun _ _ hb hk => hk.spillTarget hP t (List.mem_range.1 hb))
    (SwKept.foldl (fun _ _ hb hk => hk.spillCheck hP (List.mem_range.1 hb)) h)

/-! Frames that leave a queue -/

omit hP in
theorem SwKept.freeIfDone (id : Nat) : SwKept P s (t.freeIfDone id) := by
  unfold State.freeIfDone
  split
  · exact SwKept.ite (fun _ => h.setSw _) (fun _ => h)
  · exact h

omit hP in
theorem SwKept.leaveQueue (id o : Nat) : SwKept P s (t.leaveQueue id o) := by
  unfold State.leaveQueue
  split
  · exact h
  · extract_lets q s1 s2
    have h1 : SwKept P s s1 := SwKept.ite (fun _ => h.wmDelay _ _) (fun _ => h)
    exact (h1.setQ _ _).modFrame _ _

theorem SwKept.removed (id o : Nat) : SwKept P s (t.removeDest id o none false) := by
  unfold State.removeDest
  split
  · exact h
  · exact (((h.leaveQueue id o).freeIfDone id).setSw _).undelivered hP _ o

theorem SwKept.dropFrame (id : Nat) : SwKept P s (t.dropFrame id) := by
  unfold State.dropFrame
  split
  · exact h
  · exact SwKept.foldl (fun _ _ _ hk => hk.removed hP id _) h

end

section
variable {P : Nat → Prop} {s t u : State} (hP : ∀ a, P a → quiet a)
include hP

/-! Guard slots that miss a removed frame -/

theorem not_quiet_guard {g : Nat} (hg : g < 64) : ¬ P (CSG_G_STATE g) ∧ ¬ P (CSG_G_MISS g) ∧ ¬ P (CSG_G_FAULTS g) := by
  refine ⟨not_quiet_csg hP ?_ ?_, not_quiet_csg hP ?_ ?_, not_quiet_csg hP ?_ ?_⟩ <;> simp only [CSG_G_STATE, CSG_G_MISS, CSG_G_FAULTS] <;> omega

variable (h : SwKept P s t) {g : Nat} (hg : g < 64)
include h

omit hP in
theorem SwKept.owe (g : Nat) : SwKept P s (t.owe g) := by
  unfold State.owe
  exact SwKept.ite (fun _ => h.setOwed _) (fun _ => h)

include hg

theorem SwKept.gEnter (st : Nat) : SwKept P s (t.gEnter g st) := ((h.setFld _ _ (not_quiet_guard hP hg).1).setSlot g _).owe g

theorem SwKept.redirect : SwKept P s (t.redirect g) := by
  have ha := (not_quiet_guard hP hg).1
  exact (((h.setFld _ _ ha).setFld _ _ ha).setSlot g _).raise hP (by decide) 3 g 0

theorem SwKept.endRedir (event : Bool) : SwKept P s (t.endRedir g event) := by
  have ha := (not_quiet_guard hP hg).1
  unfold State.endRedir
  exact SwKept.ite (fun _ => SwKept.ite (fun _ => (((h.setSlot g _).setFld _ _ ha).setFld _ _ ha).raise hP (by decide) 1 g 0)
    (fun _ => ((h.setSlot g _).setFld _ _ ha).setFld _ _ ha)) (fun _ => h.setSlot g _)

theorem SwKept.redirAtFault : SwKept P s (t.redirAtFault g) := by
  unfold State.redirAtFault
  exact SwKept.ite (fun _ => SwKept.ite (fun _ => h.redirect hP hg) (fun _ => (h.setSlot g _).raise hP (by decide) 3 g 0)) (fun _ => h)

theorem SwKept.gFault : SwKept P s (t.gFault g) :=
  SwKept.foldl (fun _ _ hk hs => SwKept.ite (fun _ => hs.endRedir hP (List.mem_range.1 hk) true) (fun _ => hs))
    (((h.gEnter hP hg 3).bump 1 (not_quiet_guard hP hg).2.2).redirAtFault hP hg)

theorem SwKept.findings {ks : List Nat} (hks : ∀ k ∈ ks, k < 16) : SwKept P s (t.findings g ks) := by
  have ha := (not_quiet_guard hP hg).1
  refine SwKept.foldl (fun u k hk hs => SwKept.ite (fun _ => hs) (fun _ => ?_)) h
  have hc : findingEvent k < 0x1100 := Nat.lt_of_lt_of_le (Nat.add_lt_add_left (hks k hk) 0x0710) (by decide)
  extract_lets x fresh w t1 t2
  have h1 : SwKept P s t1 := (hs.setFld _ _ ha).setSlot g _
  have h2 : SwKept P s t2 := SwKept.ite (fun _ => (h1.raise hP hc 4 g 0).owe g) (fun _ => h1)
  exact SwKept.ite (fun _ => h2) (fun _ => h2.gFault hP hg)

theorem SwKept.gMissing (n : Nat) : SwKept P s (t.gMissing g n).1 ∧ ∀ k ∈ (t.gMissing g n).2, k < 16 := by
  refine ⟨(h.setSlot g _).bump n (not_quiet_guard hP hg).2.1, fun k hk => ?_⟩
  simp only [State.gMissing] at hk
  split at hk
  · rw [List.mem_singleton.1 hk]
    decide
  · exact absurd hk List.not_mem_nil

omit hg

theorem SwKept.guardRemoved (hd : Option Nat) (o : Nat) : SwKept P s (t.guardRemoved hd o) := by
  cases hd with
  | none => exact h
  | some hd =>
    refine SwKept.foldl (fun u g hg hs => SwKept.ite (fun _ => ?_) (fun _ => hs)) h
    have hm := hs.gMissing hP (List.mem_range.1 hg) 1
    exact hm.1.findings hP (List.mem_range.1 hg) hm.2

theorem SwKept.removeDest (id : Nat) {o k : Nat} (ho : o < 32) (hk : k < 16) (guard : Bool) : SwKept P s (t.removeDest id o (some k) guard) := by
  unfold State.removeDest
  split
  · exact h
  · have h2 := ((h.leaveQueue id o).freeIfDone id).swCount hP ho hk 1
    exact SwKept.ite (fun _ => ((h2.setSw _).undelivered hP _ o).guardRemoved hP _ o) (fun _ => (h2.setSw _).undelivered hP _ o)

/-! Admission -/

omit hP h in
/-- A policer's verdict changes that policer alone. -/
theorem State.police_fst (t : State) (p : Nat) : ∃ x, (t.police p).1 = t.setPol p x := by
  simp only [State.police]
  split_ifs <;> exact ⟨_, rfl⟩

omit hP h in
/-- Random early detection changes its averages and its register alone. -/
theorem State.redDrop_fst (t : State) (o tc colour : Nat) : ∃ w, (t.redDrop o tc colour).1 = { t with sw := w } := by
  simp only [State.redDrop]
  split_ifs <;> exact ⟨_, rfl⟩

omit hP in
theorem SwKept.police (p : Nat) : SwKept P s (t.police p).1 := by
  obtain ⟨x, e⟩ := t.police_fst p
  rw [e]
  exact h.setPol p x

omit hP in
theorem SwKept.redDrop (o tc colour : Nat) : SwKept P s (t.redDrop o tc colour).1 := by
  obtain ⟨w, e⟩ := t.redDrop_fst o tc colour
  rw [e]
  exact h.setSw w

theorem SwKept.admitDest (i : Nat) {o : Nat} (ho : o < 32) (tc colour hd : Nat) (handle : Option Nat) :
    SwKept P s (t.admitDest i o tc colour hd handle).1 := by
  unfold State.admitDest
  have h1 := h.redDrop o tc colour
  generalize t.redDrop o tc colour = x at h1 ⊢
  obtain ⟨s1, drop⟩ := x
  dsimp only at h1 ⊢
  split
  · exact (h.swCount hP ho (by decide) 1).guardRemoved hP handle o
  · split
    · exact (h1.swCount hP ho (by omega) 1).guardRemoved hP handle o
    · split
      · exact (h1.swCount hP ho (by decide) 1).guardRemoved hP handle o
      · exact h1

theorem SwKept.admitDests (i tc colour hd : Nat) (handle : Option Nat) {ds : List Nat} (hds : ∀ o ∈ ds, o < 32) :
    SwKept P s (t.admitDests i tc colour hd handle ds).1 := by
  induction ds generalizing t with
  | nil => exact h
  | cons o rest ih =>
    exact ih (h.admitDest hP i (hds o List.mem_cons_self) tc colour hd handle) (fun x hx => hds x (List.mem_cons_of_mem _ hx))

theorem SwKept.descDrop {i : Nat} (hi : i < 32) : SwKept P s (t.descDrop i) :=
  ((h.swCount hP hi (by decide) 1).setFld _ _ (not_quiet_swc hP (by decide) (by decide))).raiseLim hP (by decide) 3 i 0

omit hP in
/-- The frame in its queues, as admission leaves it. -/
theorem SwKept.queued (l : List Nat) (i tc id : Nat) :
    SwKept P s (l.foldl (fun t o => let k := qIndex i o tc; (t.setQ k (t.queue k ++ [id])).wmDepth k) t) :=
  SwKept.foldl (fun _ _ _ hs => (hs.setQ _ _).wmDepth _) h

omit hP h in
/-- A spilling bank's target fits its field. -/
theorem State.targetTakes_lt {b n c : Nat} (h : t.targetTakes b n = some c) : c < 8 := by
  simp only [State.targetTakes] at h
  split at h
  · exact Option.some.inj h ▸ Fld.get_lt _ _
  · cases h

omit hP h in
theorem homeBank_lt (i : Nat) : homeBank i < 8 := by
  unfold homeBank
  split_ifs <;> omega

omit hP h in
/-- The bank whose cells a frame takes is its input's or the spill target. -/
theorem source_lt {p p' : Prop} [Decidable p] [Decidable p'] {q i n cb : Nat} {berm : Option Nat}
    (h : (if p then some (some q, homeBank i) else match t.targetTakes (homeBank i) n with
      | some t => some (none, t)
      | none => if p' then some (none, homeBank i) else none) = some (berm, cb)) : cb < 8 := by
  split at h
  · cases h
    exact homeBank_lt i
  · split at h
    · rename_i ht
      cases h
      exact State.targetTakes_lt ht
    · split at h
      · cases h
        exact homeBank_lt i
      · cases h

theorem SwKept.admitOne {f : Frame} (hi : f.input < 32) {ds : List Nat} (hds : ∀ o ∈ ds, o < 32) (native : Bool) :
    SwKept P s (t.admitOne f ds native).1 := by
  simp only [State.admitOne]
  have h1 := h.admitDests hP f.input f.tc f.colour (t.headroom f.input) f.handle hds
  generalize t.admitDests f.input f.tc f.colour (t.headroom f.input) f.handle ds = x at h1 ⊢
  obtain ⟨s1, d⟩ := x
  dsimp only at h1 ⊢
  split
  · exact h1.undelivered hP f 28
  · split
    · exact (h1.swCount hP hi (by decide : 10 < 16) 1).undelivered hP f 28
    · split
      · exact (h1.descDrop hP hi).undelivered hP f 28
      · rename_i cb hsrc _
        have hcb : cb < 8 := source_lt hsrc
        have ha := not_quiet_swc hP (a := SWC_BANK_COLLIDE cb) (by simp only [SWC_BANK_COLLIDE]; omega) (by simp only [SWC_BANK_COLLIDE]; omega)
        dsimp only
        refine SwKept.spillAll hP ?_
        split
        · exact SwKept.queued (h1.setSw _) _ _ _ _
        · refine SwKept.bump (SwKept.freeIx (SwKept.swCount hP ?_ hi (by decide : 13 < 16) 1)) _ ha
          exact SwKept.queued (h1.setSw _) _ _ _ _

theorem SwKept.admitCopies {f : Frame} (hi : f.input < 32) {ds : List Nat} (hds : ∀ o ∈ ds, o < 32) (n : Nat) :
    SwKept P s (t.admitCopies f ds n).1 := by
  induction ds generalizing t n with
  | nil => exact h
  | cons o rest ih =>
    have hrest : ∀ x ∈ rest, x < 32 := fun x hx => hds x (List.mem_cons_of_mem _ hx)
    simp only [State.admitCopies]
    split
    · exact ih (h.freeIx.swCount hP hi (by decide) 1) hrest n
    · exact ih (h.freeIx.admitOne hP hi (fun x hx => List.mem_singleton.1 hx ▸ hds o List.mem_cons_self) false) hrest _

omit hP h in
theorem bitsOf_lt {n m o : Nat} (h : o ∈ bitsOf n m) : o < n := List.mem_range.1 (List.mem_filter.1 h).1

theorem SwKept.admitFrame {f : Frame} (hi : f.input < 32) (dest : Nat) : SwKept P s (t.admitFrame f dest).1 := by
  simp only [State.admitFrame]
  split
  · exact h.admitCopies hP hi (fun _ => bitsOf_lt) 0
  · exact h.admitOne hP hi (fun _ => bitsOf_lt) true

theorem SwKept.writeLast (id : Nat) : SwKept P s (t.writeLast id) := by
  unfold State.writeLast
  split
  · exact h
  · exact SwKept.ite (fun _ => h) (fun _ => (h.modFrame id _).spillAll hP)

theorem SwKept.admitWhole {f : Frame} (hi : f.input < 32) (dest : Nat) : SwKept P s (t.admitWhole f dest) := by
  have h1 := h.admitFrame hP hi dest
  unfold State.admitWhole
  generalize t.admitFrame f dest = x at h1 ⊢
  obtain ⟨u, ids⟩ := x
  exact SwKept.ite
    (fun _ => ((SwKept.foldl (fun _ id _ hs => hs.dropFrame hP id) h1).swCount hP hi (by decide) 1).spillAll hP)
    (fun _ => SwKept.foldl (fun _ id _ hs => hs.writeLast hP id) h1)

/-- A frame of the device's own that is not an Ethernet frame teaches no address. -/
theorem SwKept.sendInternal {f : Frame} (hi : f.input < 32) (hk : f.kind ≠ .eth) (dest : Nat) : SwKept P s (t.sendInternal f dest) := by
  simp only [State.sendInternal, State.sendTo, if_neg hk]
  have h1 := h.police (t.fld (TMG_PORT_CLS f.input) TMG_PORT_CLS_pol)
  generalize t.police (t.fld (TMG_PORT_CLS f.input) TMG_PORT_CLS_pol) = x at h1 ⊢
  obtain ⟨u, ok⟩ := x
  have h2 : SwKept P s (u.admitWhole { f with handle := none } dest) := SwKept.admitWhole hP h1 (f := { f with handle := none }) hi dest
  exact SwKept.ite (fun _ => SwKept.ite (fun _ => h2.policeEnd _ _) (fun _ => h2)) (fun _ => h1.undelivered hP f 28)

end

end Sys2Proof.Machine

/-! What leaves by the bridge (R318, R325, R327): frames, the posts that wait their turn, and the failure of a host access. -/

namespace Sys2Proof.Machine

section
variable {s t : State} {h : FabHdr}

/-! A fabric frame leaves -/

/-- The bridge's own state and all memory are as before. -/
theorem State.fabOut_facts (s : State) {p : Nat} (h : FabHdr) (data : List Byte) (msg : Option FabMsg) :
    (s.fabOut p h data msg).fab = s.fab ∧ s.keeps (s.fabOut p h data msg) := by
  have hk : SwKept (fun _ => False) s (s.fabOut p h data msg) :=
    (SwKept.refl _ s).sendInternal (fun _ h => h.elim) (f := { input := 31, kind := .fabric, data := data, tc := h.tc, colour := h.colour, fab := some h
                                                               msg := msg, ts := s.tide.toNat })
      (show 31 < 32 by decide) (show FrameKind.fabric ≠ .eth by decide) (2 ^ p)
  obtain ⟨hmem, hmram, hotp, hfab, -⟩ := hk.facts
  exact ⟨hfab, hmem, hmram, hotp⟩

theorem State.fabCount_facts (s : State) (k : Nat) : (s.fabCount k).fab = s.fab ∧ s.keeps (s.fabCount k) := by
  unfold State.fabCount
  split <;> exact ⟨rfl, rfl, rfl, rfl⟩

theorem State.fabSend_facts (s : State) (h : FabHdr) (data : List Byte) : (s.fabSend h data).fab = s.fab ∧ s.keeps (s.fabSend h data) := by
  unfold State.fabSend
  split
  · exact s.fabOut_facts h data none
  · exact s.fabCount_facts 6

theorem State.raSend_facts (s : State) (d tag : Nat) (q : RaReq) : (s.raSend d tag q).fab = s.fab ∧ s.keeps (s.raSend d tag q) := s.fabSend_facts _ _

theorem State.keeps.trans {u : State} (h1 : s.keeps t) (h2 : t.keeps u) : s.keeps u :=
  ⟨h2.1.trans h1.1, h2.2.1.trans h1.2.1, h2.2.2.trans h1.2.2⟩

/-! The posts that wait their turn -/

/-- Nothing waits, and every write has been sent. -/
def FabState.calm (f : FabState) : Prop := f.waiting = [] ∧ ∀ w ∈ f.writes, w.sent = true

theorem State.writeReady_of_sent {w : RaWrite} (h : w.sent = true) : s.writeReady w = false := by
  rw [State.writeReady, h]
  rfl

theorem State.find?_writeReady (h : ∀ w ∈ s.fab.writes, w.sent = true) : s.fab.writes.find? s.writeReady = none :=
  List.find?_eq_none.2 fun w hw => by
    rw [State.writeReady_of_sent (h w hw)]
    exact Bool.false_ne_true

theorem State.postSteps_of_calm (h : s.fab.calm) (n : Nat) : State.postSteps n s = s := by
  cases n with
  | zero => rfl
  | succ n => rw [State.postSteps, h.1, List.find?_nil, State.find?_writeReady h.2]

theorem State.postsGo_of_calm (h : s.fab.calm) : s.postsGo = s := State.postSteps_of_calm h _

/-- A write of a target may leave: fewer than 32 of its writes are under way, and no message to it is inside the switch (R325, R327). -/
abbrev State.writeRoom (s : State) (l : List RaWrite) (d : Nat) : Prop := (l.filter (fun y => y.target == d)).length < 32 ∧ s.msgInside d = false

section
variable {l : List RaWrite} {w : RaWrite} (hwait : s.fab.waiting = []) (hwrites : s.fab.writes = l ++ [w]) (hsent : ∀ x ∈ l, x.sent = true)
  (hw : w.sent = false)
include hwait hwrites hsent hw

theorem State.writeReady_last : s.writeReady w = decide (s.writeRoom l w.target) := by
  have hfilter : (l ++ [w]).filter (fun x => x.target == w.target && x.sent) = l.filter (fun y => y.target == w.target) := by
    rw [List.filter_append, List.filter_cons_of_neg (by rw [hw, Bool.and_false]; exact Bool.false_ne_true), List.filter_nil, List.append_nil]
    exact List.filter_congr fun x hx => by rw [hsent x hx, Bool.and_true]
  rw [State.writeReady, hwait, hwrites, hfilter, hw, Bool.decide_and]
  cases s.msgInside w.target <;> simp

theorem State.find?_last : s.fab.writes.find? s.writeReady = if s.writeRoom l w.target then some w else none := by
  have hnone : l.find? s.writeReady = none := List.find?_eq_none.2 fun x hx => by
    rw [State.writeReady_of_sent (hsent x hx)]
    exact Bool.false_ne_true
  rw [hwrites, List.find?_append, hnone, Option.none_or, List.find?_cons, State.writeReady_last hwait hwrites hsent hw, List.find?_nil]
  by_cases h : s.writeRoom l w.target
  · rw [if_pos h, decide_eq_true h]
  · rw [if_neg h, decide_eq_false h]

theorem State.postsGo_held (h : ¬ s.writeRoom l w.target) : s.postsGo = s := by
  unfold State.postsGo
  cases s.fab.waiting.length + s.fab.writes.length with
  | zero => rfl
  | succ n => rw [State.postSteps, hwait, List.find?_nil, State.find?_last hwait hwrites hsent hw, if_neg h]

theorem State.postsGo_sent (h : s.writeRoom l w.target) :
    s.postsGo = ({ s with fab := { s.fab with writes := l ++ [{ w with sent := true }] } } : State).raSend w.target w.tag w.req := by
  have hmap : s.fab.writes.map (fun x => if x = w then { x with sent := true } else x) = l ++ [{ w with sent := true }] := by
    rw [hwrites, List.map_append, List.map_singleton, if_pos rfl]
    congr 1
    exact (List.map_congr_left fun x hx => if_neg (fun he => by rw [← he, hsent x hx] at hw; exact Bool.noConfusion hw)).trans (List.map_id l)
  have hlen : s.fab.waiting.length + s.fab.writes.length = l.length + 1 := by rw [hwait, hwrites]; simp
  unfold State.postsGo
  rw [hlen, State.postSteps, hwait, List.find?_nil, State.find?_last hwait hwrites hsent hw, if_pos h]
  dsimp only
  rw [hmap]
  refine State.postSteps_of_calm ⟨?_, ?_⟩ _
  · rw [(State.raSend_facts _ _ _ _).1]
    exact hwait
  · rw [(State.raSend_facts _ _ _ _).1]
    intro x hx
    rcases List.mem_append.1 hx with hx | hx
    · exact hsent x hx
    · rw [List.mem_singleton.1 hx]

end

/-! The failure of a host access -/

theorem State.irq_outputs (s : State) (v : Nat) : ∃ l, (s.irq v).outputs = l ++ s.outputs := by
  have hmsix : ∀ u : State, ∃ l, (u.sendMsix v).outputs = l ++ u.outputs := fun u => by
    unfold State.sendMsix
    split
    · exact ⟨[], rfl⟩
    · exact ⟨[_], rfl⟩
  unfold State.irq
  split
  · exact ⟨[], rfl⟩
  · obtain ⟨l, hl⟩ := hmsix (s.wr FAB_IRQ_STATUS (BitVec.ofNat 32 (withBit (s.rd FAB_IRQ_STATUS).toNat v true)))
    generalize hu : s.wr FAB_IRQ_STATUS (BitVec.ofNat 32 (withBit (s.rd FAB_IRQ_STATUS).toNat v true)) = u at hl
    have hout : u.outputs = s.outputs := by rw [← hu]; rfl
    dsimp only
    split
    · exact ⟨[], hout⟩
    · exact ⟨l, hl.trans (by rw [hout])⟩

/-- Interrupt 4 stands in the status, and its message or its pending bit may have changed. -/
theorem State.apertureFail_spec (s : State) : (s.apertureFail.rd FAB_IRQ_STATUS).toNat.testBit 4 = true ∧ s.onlyRegs s.apertureFail [FAB_IRQ_STATUS, FAB_PBA] ∧
    (∃ l, s.apertureFail.outputs = l ++ s.outputs) ∧ s.apertureFail = { s with regs := s.apertureFail.regs, flt := s.apertureFail.flt, outputs := s.apertureFail.outputs } := by
  obtain ⟨hbit, hrd, hframe⟩ := s.irq_spec (v := 4) (by decide)
  obtain ⟨l, hout⟩ := s.irq_outputs 4
  unfold State.apertureFail
  generalize s.irq 4 = u at hbit hrd hframe hout ⊢
  have hreg := u.raiseLim_regFrame (c := 0x0A32) (k := 2) noInst 0 (by decide) (by decide) rfl
  have hkeep := (u.raiseLim_frame 0x0A32 2 noInst 0 (by decide)).onlyRegs []
  generalize u.raiseLim 0x0A32 2 = v at hreg hkeep ⊢
  rw [State.regFrame] at hreg
  refine ⟨?_, fun a ha hl => (hkeep a List.not_mem_nil hl).trans (hrd a ha), ⟨l, ?_⟩, ?_⟩
  · rw [hkeep _ List.not_mem_nil (by decide)]
    exact hbit
  · rw [hreg]
    exact hout
  · rw [hreg, hframe]

end

end Sys2Proof.Machine

/-! The bridge as source (R324 to R327, R331, R335): apertures, responses, repeats and time-outs. -/

namespace Sys2Proof.Machine

section
variable {s t u : State}

/-! The blocks of a host access -/

theorem blockParts_zero (fuel a : Nat) : blockParts fuel a 0 = [] := by
  cases fuel <;> rfl

theorem blockParts_succ (fuel a : Nat) {n : Nat} (hn : 0 < n) :
    blockParts (fuel + 1) a n = (a, min n (64 - a % 256 / 4)) :: blockParts fuel (a + 4 * min n (64 - a % 256 / 4)) (n - min n (64 - a % 256 / 4)) := by
  rw [blockParts, if_neg (Nat.pos_iff_ne_zero.1 hn)]

theorem blockParts_one {a n : Nat} (hn : 0 < n) (hle : n ≤ 64 - a % 256 / 4) : blockParts n a n = [(a, n)] := by
  obtain ⟨m, rfl⟩ := Nat.exists_eq_succ_of_ne_zero (Nat.pos_iff_ne_zero.1 hn)
  rw [Nat.succ_eq_add_one, blockParts_succ m a hn, Nat.min_eq_left hle, Nat.sub_self, blockParts_zero]

/-- With a unit of fuel for each word, the blocks hold all the words, and each lies in one block of 256 bytes. -/
theorem blockParts_spec {fuel a n : Nat} (hfuel : n ≤ fuel) (ha : a % 4 = 0) : ((blockParts fuel a n).map (fun p => p.2)).sum = n ∧
    ∀ p ∈ blockParts fuel a n, 0 < p.2 ∧ (p.1 + 4 * p.2 - 1) / 256 = p.1 / 256 := by
  induction fuel generalizing a n with
  | zero =>
    obtain rfl := Nat.le_zero.1 hfuel
    exact ⟨rfl, fun p hp => absurd hp List.not_mem_nil⟩
  | succ fuel ih =>
    rcases Nat.eq_zero_or_pos n with rfl | hn
    · rw [blockParts_zero]
      exact ⟨rfl, fun p hp => absurd hp List.not_mem_nil⟩
    · rw [blockParts_succ fuel a hn]
      have hk : 0 < min n (64 - a % 256 / 4) ∧ min n (64 - a % 256 / 4) ≤ n ∧ min n (64 - a % 256 / 4) ≤ 64 - a % 256 / 4 := by omega
      generalize min n (64 - a % 256 / 4) = k at hk ⊢
      obtain ⟨hsum, hall⟩ := ih (a := a + 4 * k) (n := n - k) (by omega) (by omega)
      refine ⟨by rw [List.map_cons, List.sum_cons, hsum]; omega, List.forall_mem_cons.2 ⟨⟨hk.1, ?_⟩, hall⟩⟩
      show (a + 4 * k - 1) / 256 = a / 256
      omega

/-! A host write -/

/-- The next write to a target, and the bridge's state once it stands behind the others. -/
def State.newWrite (s : State) (d addr : Nat) (data : List Word) (aperture : Bool) : RaWrite :=
  { tag := s.fab.nextTag, target := d, wseq := (s.issuedTo d + 1) % 65536, addr := addr, data := data, aperture := aperture, ord := s.fab.ord }
def State.writeQueued (s : State) (w : RaWrite) : FabState :=
  { s.fab with nextTag := (s.fab.nextTag + 1) % 2 ^ 32, ord := s.fab.ord + 1, issued := tset 0 s.fab.issued w.target ((s.issuedTo w.target + 1) % 65536)
               writes := s.fab.writes ++ [w] }

theorem State.writePost_eq (s : State) (d addr : Nat) (data : List Word) (aperture : Bool) :
    s.writePost d addr data aperture = ({ s with fab := s.writeQueued (s.newWrite d addr data aperture) } : State).postsGo := rfl

theorem State.postsGo_write {w : RaWrite} (hc : s.fab.calm) (hw : w.sent = false) :
    (s.writeRoom s.fab.writes w.target → ({ s with fab := s.writeQueued w } : State).postsGo =
      ({ s with fab := s.writeQueued { w with sent := true } } : State).raSend w.target w.tag w.req) ∧
    (¬ s.writeRoom s.fab.writes w.target → ({ s with fab := s.writeQueued w } : State).postsGo = { s with fab := s.writeQueued w }) :=
  ⟨fun h => State.postsGo_sent (s := { s with fab := s.writeQueued w }) hc.1 rfl hc.2 hw h,
    fun h => State.postsGo_held (s := { s with fab := s.writeQueued w }) hc.1 rfl hc.2 hw h⟩

/-! A host read -/

/-- A remote read of one block leaves with the next tag. -/
def State.readOut (d : Nat) (pref : Bool) (s : State) (p : Nat × Nat) : State :=
  ({ s with fab := { s.fab with nextTag := (s.fab.nextTag + 1) % 2 ^ 32
                                reads := s.fab.reads ++ [{ tag := s.fab.nextTag, target := d, addr := p.1, words := p.2, pref := pref }] } } : State).readSend
    { tag := s.fab.nextTag, target := d, addr := p.1, words := p.2, pref := pref }

theorem State.readSend_facts (s : State) (x : RaRead) : (s.readSend x).fab = s.fab ∧ s.keeps (s.readSend x) := s.raSend_facts _ _ _

theorem State.hostRead_eq {d addr n : Nat} {pref : Bool} {parts : List (Nat × Nat)} (hparts : blockParts n addr n = parts) (hne : parts ≠ []) :
    s.hostRead d addr n pref = parts.foldl (State.readOut d pref) { s with fab := { s.fab with hostReads := s.fab.hostReads ++
      [{ tag := s.fab.nextTag, parts := (List.range parts.length).map (fun i => ((s.fab.nextTag + i) % 2 ^ 32, none)) }] } } := by
  subst hparts
  exact if_neg hne

theorem State.readOut_foldl (d : Nat) (pref : Bool) (parts : List (Nat × Nat)) (s : State) :
    ∃ new : List RaRead, (parts.foldl (State.readOut d pref) s).fab.reads = s.fab.reads ++ new ∧ new.map (fun y => (y.addr, y.words)) = parts ∧
      (∀ y ∈ new, y.target = d) ∧ s.keeps (parts.foldl (State.readOut d pref) s) := by
  induction parts generalizing s with
  | nil => exact ⟨[], (List.append_nil _).symm, rfl, fun _ hy => absurd hy List.not_mem_nil, rfl, rfl, rfl⟩
  | cons p parts ih =>
    obtain ⟨new, hreads, hmap, htarget, hkeeps⟩ := ih (s.readOut d pref p)
    obtain ⟨hfab, hkeep⟩ := State.readSend_facts ({ s with fab := { s.fab with
      nextTag := (s.fab.nextTag + 1) % 2 ^ 32
      reads := s.fab.reads ++ [{ tag := s.fab.nextTag, target := d, addr := p.1, words := p.2, pref := pref }] } } : State)
      { tag := s.fab.nextTag, target := d, addr := p.1, words := p.2, pref := pref }
    refine ⟨{ tag := s.fab.nextTag, target := d, addr := p.1, words := p.2, pref := pref } :: new, ?_, by rw [List.map_cons, hmap],
      List.forall_mem_cons.2 ⟨rfl, htarget⟩, State.keeps.trans hkeep hkeeps⟩
    rw [List.foldl_cons, hreads, State.readOut, hfab]
    exact List.append_assoc _ [_] new

/-! A host access through an aperture -/

section
variable {off : Nat} {b : Bool} {n : Nat} {data : List Word} {d addr : Nat}

theorem State.apertureAccess_stopped (h : s.running = false) : s.apertureAccess off b n data = s := by
  rw [State.apertureAccess, h]
  rfl

theorem State.apertureAccess_beyond (hrun : s.running = true) (h : ¬ off % 2 ^ 24 + 4 * (if b then data.length else n) ≤ 2 ^ 24) :
    s.apertureAccess off b n data = s.refuse .pcie off := by
  rw [State.apertureAccess, hrun]
  exact if_pos (Nat.lt_of_not_le h)

variable (hrun : s.running = true) (hin : off % 2 ^ 24 + 4 * (if b then data.length else n) ≤ 2 ^ 24) (hoff : off < 67108864)
include hrun hin hoff

theorem State.apertureAccess_closed (h : ¬ (s.fldB (FAB_APT0 (off / 2 ^ 24)) FAB_APT0_en = true ∧
      s.fldB (FAB_ROUTE (s.fld (FAB_APT0 (off / 2 ^ 24)) FAB_APT0_target)) FAB_ROUTE_valid = true)) :
    s.apertureAccess off b n data = (if b then s else (s.out (.completion none)).pcieError 15).apertureFail := by
  have hk : off / 2 ^ 24 % 4 = off / 2 ^ 24 := by omega
  rw [State.apertureAccess, hrun, hk]
  refine (if_neg Bool.false_ne_true).trans ((if_neg (Nat.not_lt.2 hin)).trans (if_pos ?_))
  rw [Bool.not_eq_true', Bool.not_eq_true', ← Bool.not_eq_true, ← Bool.not_eq_true]
  exact not_and_or.1 h

theorem State.apertureAccess_open (h : s.fldB (FAB_APT0 (off / 2 ^ 24)) FAB_APT0_en = true ∧
      s.fldB (FAB_ROUTE (s.fld (FAB_APT0 (off / 2 ^ 24)) FAB_APT0_target)) FAB_ROUTE_valid = true)
    (hd : s.fld (FAB_APT0 (off / 2 ^ 24)) FAB_APT0_target = d) (haddr : s.fld (FAB_APT1 (off / 2 ^ 24)) FAB_APT1_base * 2 ^ 24 + off % 2 ^ 24 = addr) :
    s.apertureAccess off b n data = if b then
      (blockParts (if b then data.length else n) addr (if b then data.length else n)).foldl (fun t p =>
        t.writePost d p.1 ((data.drop ((p.1 - addr) / 4)).take p.2) true) s
      else s.hostRead d addr n (s.fldB (FAB_APT0 (off / 2 ^ 24)) FAB_APT0_pref) := by
  subst hd haddr
  have hk : off / 2 ^ 24 % 4 = off / 2 ^ 24 := by omega
  rw [State.apertureAccess, hrun, hk]
  refine (if_neg Bool.false_ne_true).trans ((if_neg (Nat.not_lt.2 hin)).trans (if_neg ?_))
  rw [h.1, h.2]
  decide

end

theorem State.apertureWrite_open {off n : Nat} {data : List Word} {d addr : Nat} (hrun : s.running = true) (hin : off % 2 ^ 24 + 4 * data.length ≤ 2 ^ 24)
    (hoff : off < 67108864) (h : s.fldB (FAB_APT0 (off / 2 ^ 24)) FAB_APT0_en = true ∧
      s.fldB (FAB_ROUTE (s.fld (FAB_APT0 (off / 2 ^ 24)) FAB_APT0_target)) FAB_ROUTE_valid = true)
    (hd : s.fld (FAB_APT0 (off / 2 ^ 24)) FAB_APT0_target = d) (haddr : s.fld (FAB_APT1 (off / 2 ^ 24)) FAB_APT1_base * 2 ^ 24 + off % 2 ^ 24 = addr)
    (hblock : 0 < data.length ∧ data.length ≤ 64 - addr % 256 / 4) :
    s.apertureAccess off true n data = ({ s with fab := s.writeQueued (s.newWrite d addr data true) } : State).postsGo := by
  rw [State.apertureAccess_open hrun hin hoff h hd haddr, if_pos rfl, if_pos rfl, blockParts_one hblock.1 hblock.2, List.foldl_cons, List.foldl_nil,
    Nat.sub_self, Nat.zero_div, List.drop_zero, List.take_length, State.writePost_eq]

/-! Responses -/

section
variable {f : Frame} {h : FabHdr}

/-- A response's status and its acknowledgement. -/
def rspStatus (f : Frame) : Nat := leNat (slice 0 4 f.data) % 16
def rspAck (f : Frame) : Nat := leNat (slice 0 4 f.data) / 65536

/-- The writes that a response leaves unacknowledged. -/
def FabState.unacked (x : FabState) (h : FabHdr) (ack : Nat) : List RaWrite := x.writes.filter (fun w => w.target != h.src || epochNewer w.wseq ack)

/-- A response that fails a write of the host. -/
def FabState.hostWrite (x : FabState) (h : FabHdr) : Bool := x.writes.any (fun w => w.target == h.src && w.tag == h.tag && w.aperture)

/-- The bridge once the acknowledged writes are gone, and the host has been told of one that failed. -/
def State.acknowledged (u : State) (f : Frame) (h : FabHdr) : State :=
  if rspStatus f ≠ 0 ∧ u.fab.hostWrite h = true then ({ u with fab := { u.fab with writes := u.fab.unacked h (rspAck f) } } : State).apertureFail
  else { u with fab := { u.fab with writes := u.fab.unacked h (rspAck f) } }

theorem leNat_lt (bs : List Byte) : leNat bs < 256 ^ bs.length := by
  induction bs with
  | nil => decide
  | cons b bs ih =>
    have hb : b.toNat < 256 := b.isLt
    rw [leNat, List.length_cons, Nat.pow_succ]
    omega

theorem leNat_word_lt (bs : List Byte) : leNat (slice 0 4 bs) < 2 ^ 32 :=
  Nat.lt_of_lt_of_le (leNat_lt _) (Nat.pow_le_pow_right (by decide : 0 < 256) (List.length_take_le _ _))

theorem State.acknowledged_failed (hst : rspStatus f ≠ 0) (hw : u.fab.hostWrite h = true) :
    u.acknowledged f h = ({ u with fab := { u.fab with writes := u.fab.unacked h (rspAck f) } } : State).apertureFail := if_pos ⟨hst, hw⟩

theorem State.acknowledged_done (hn : ¬ (rspStatus f ≠ 0 ∧ u.fab.hostWrite h = true)) :
    u.acknowledged f h = { u with fab := { u.fab with writes := u.fab.unacked h (rspAck f) } } := if_neg hn

theorem State.fab_acknowledged (u : State) (f : Frame) (h : FabHdr) :
    (u.acknowledged f h).fab = { u.fab with writes := u.fab.unacked h (rspAck f) } := by
  unfold State.acknowledged
  split
  · rw [(State.apertureFail_spec _).2.2.2]
  · rfl

/-- What a response does with the read that it answers. -/
def State.rspTaken (v : State) (f : Frame) (h : FabHdr) : State :=
  match v.fab.reads.find? (fun x => x.tag == h.tag && x.target == h.src) with
  | some x =>
    if rspStatus f = 1 then
      (v.fabCount 8).setFab { v.fab with reads := v.fab.reads.map (fun y => if y.tag = x.tag then { y with retry := true } else y) }
    else
      (v.setFab { v.fab with reads := v.fab.reads.filter (fun y => y.tag != x.tag) }).hostEnd x.tag
        (if rspStatus f = 0 then some ((f.data.drop 4).take (4 * x.words)) else none)
  | none => v

theorem State.raRsp_of_mine31 (hm : s.mine31 9 = some (f, h, u)) (hwait : u.fab.waiting = []) (hsent : ∀ w ∈ u.fab.unacked h (rspAck f), w.sent = true) :
    s.raRsp = (u.acknowledged f h).rspTaken f h := by
  have hlow : bits 3 0 (leNat (slice 0 4 f.data)) = rspStatus f := by simp [bits, rspStatus]
  have hhigh : bits 31 16 (leNat (slice 0 4 f.data)) = rspAck f := by
    have := leNat_word_lt f.data
    simp only [bits, rspAck, Nat.shiftRight_eq_div_pow]
    omega
  have hacked : u.acked h.src (rspAck f) = { u with fab := { u.fab with writes := u.fab.unacked h (rspAck f) } } :=
    State.postsGo_of_calm (s := { u with fab := { u.fab with writes := u.fab.unacked h (rspAck f) } }) ⟨hwait, hsent⟩
  have hack : (if decide (rspStatus f ≠ 0) && u.fab.writes.any (fun w => w.target == h.src && w.tag == h.tag && w.aperture) then
      (u.acked h.src (rspAck f)).apertureFail else u.acked h.src (rspAck f)) = u.acknowledged f h := by
    rw [hacked]
    exact if_congr (Bool.and_eq_true_iff.trans (and_congr_left' decide_eq_true_iff)) rfl rfl
  rw [State.raRsp, hm]
  simp only [hlow, hhigh, hack]
  rfl

section
variable {v : State} {x : RaRead}

theorem State.rspTaken_none (hx : v.fab.reads.find? (fun x => x.tag == h.tag && x.target == h.src) = none) : v.rspTaken f h = v := by
  rw [State.rspTaken, hx]

theorem find?_only (htag : x.tag = h.tag) (hsrc : x.target = h.src) : [x].find? (fun x => x.tag == h.tag && x.target == h.src) = some x :=
  List.find?_cons_of_pos (by rw [htag, hsrc, BEq.rfl, BEq.rfl]; rfl)

variable (hreads : v.fab.reads = [x]) (htag : x.tag = h.tag) (hsrc : x.target = h.src)
include hreads htag hsrc

theorem State.rspTaken_retry (hst : rspStatus f = 1) : v.rspTaken f h = (v.fabCount 8).setFab { v.fab with reads := [{ x with retry := true }] } := by
  rw [State.rspTaken, hreads, find?_only htag hsrc]
  dsimp only
  rw [if_pos hst, List.map_singleton, if_pos rfl]

theorem State.rspTaken_end (hst : rspStatus f ≠ 1) : v.rspTaken f h = (v.setFab { v.fab with reads := [] }).hostEnd x.tag
    (if rspStatus f = 0 then some ((f.data.drop 4).take (4 * x.words)) else none) := by
  rw [State.rspTaken, hreads, find?_only htag hsrc]
  dsimp only
  rw [if_neg hst, List.filter_cons_of_neg (by rw [bne_self_eq_false]; exact Bool.false_ne_true), List.filter_nil]

end

/-! The end of a host read -/

theorem State.hostEnd_none {tag : Nat} (hx : s.fab.hostReads.find? (fun y => y.parts.any (fun p => p.1 == tag)) = none) (val : Option (List Byte)) :
    s.hostEnd tag val = s := by
  rw [State.hostEnd, hx]

/-- A host read that fails ends with Completer Abort, and takes its other remote reads along. -/
theorem State.hostEnd_failed {tag : Nat} {y : HostRead} (hx : s.fab.hostReads.find? (fun y => y.parts.any (fun p => p.1 == tag)) = some y) :
    s.hostEnd tag none = ((({ s with fab := { s.fab with
      reads := s.fab.reads.filter (fun x => !y.parts.any (fun p => p.1 == x.tag))
      hostReads := s.fab.hostReads.filter (fun z => z.tag != y.tag) } } : State).out (.completion none)).pcieError 15).apertureFail := by
  have hany : ∀ x : RaRead, (y.parts.map (fun p => if p.1 = tag then (p.1, (none : Option (List Byte))) else p)).any (fun p => p.1 == x.tag) =
      y.parts.any (fun p => p.1 == x.tag) := fun x => by
    rw [List.any_map]
    congr 1
    funext p
    by_cases hp : p.1 = tag
    · rw [Function.comp, if_pos hp]
    · rw [Function.comp, if_neg hp]
  rw [State.hostEnd, hx]
  simp only [hany]
  rfl

section
variable {k tag : Nat} {bytes : List Byte}

theorem State.hostEnd_single (hr : s.fab.hostReads = [{ tag := k, parts := [(tag, none)] }]) :
    s.hostEnd tag (some bytes) = ({ s with fab := { s.fab with hostReads := [] } } : State).out (.completion (some (leNat bytes))) := by
  have hfind : [({ tag := k, parts := [(tag, none)] } : HostRead)].find? (fun y => y.parts.any (fun p => p.1 == tag)) =
      some { tag := k, parts := [(tag, none)] } := List.find?_cons_of_pos (by simp)
  rw [State.hostEnd, hr, hfind]
  simp [State.setFab]

theorem State.hostEnd_first {j : Nat} (hr : s.fab.hostReads = [{ tag := k, parts := [(tag, none), (j, none)] }]) (hj : j ≠ tag) :
    s.hostEnd tag (some bytes) = { s with fab := { s.fab with hostReads := [{ tag := k, parts := [(tag, some bytes), (j, none)] }] } } := by
  have hfind : [({ tag := k, parts := [(tag, none), (j, none)] } : HostRead)].find? (fun y => y.parts.any (fun p => p.1 == tag)) =
      some { tag := k, parts := [(tag, none), (j, none)] } := List.find?_cons_of_pos (by simp)
  rw [State.hostEnd, hr, hfind]
  simp [State.setFab, hj]

end

end

end

end Sys2Proof.Machine

/-! The bridge as source: the rows (R324 to R327, R331, R335). -/

namespace Sys2Proof.Machine

section
variable {s t u : State}

/-- What a row that tells the host of a failure leaves (R335). -/
def State.toldHost (s : State) (o : List Output) (t : State) : Prop :=
  (t.rd FAB_IRQ_STATUS).toNat.testBit 4 = true ∧ s.onlyRegs t [FAB_IRQ_STATUS, FAB_PBA] ∧ ∃ l, t.outputs = l ++ o

theorem State.toldHost_apertureFail (s : State) : s.toldHost s.outputs s.apertureFail :=
  ⟨s.apertureFail_spec.1, s.apertureFail_spec.2.1, s.apertureFail_spec.2.2.1⟩

/-! Accesses of the host -/

section
variable {off n : Nat} {data : List Word} {d addr : Nat} (hrun : s.running = true) (hoff : off < 67108864)
  (hopen : s.fldB (FAB_APT0 (off / 2 ^ 24)) FAB_APT0_en = true ∧
    s.fldB (FAB_ROUTE (s.fld (FAB_APT0 (off / 2 ^ 24)) FAB_APT0_target)) FAB_ROUTE_valid = true)
  (hd : s.fld (FAB_APT0 (off / 2 ^ 24)) FAB_APT0_target = d) (haddr : s.fld (FAB_APT1 (off / 2 ^ 24)) FAB_APT1_base * 2 ^ 24 + off % 2 ^ 24 = addr)
include hrun hoff hopen hd haddr

theorem State.apertureWrite_sent (hin : off % 2 ^ 24 + 4 * data.length ≤ 2 ^ 24) (hblock : 0 < data.length ∧ data.length ≤ 64 - addr % 256 / 4)
    (hc : s.fab.calm) (hroom : s.writeRoom s.fab.writes d) : s.apertureAccess off true n data =
      ({ s with fab := s.writeQueued { s.newWrite d addr data true with sent := true } } : State).raSend d s.fab.nextTag (s.newWrite d addr data true).req :=
  (State.apertureWrite_open hrun hin hoff hopen hd haddr hblock).trans ((State.postsGo_write (w := s.newWrite d addr data true) hc rfl).1 hroom)

theorem State.apertureWrite_held (hin : off % 2 ^ 24 + 4 * data.length ≤ 2 ^ 24) (hblock : 0 < data.length ∧ data.length ≤ 64 - addr % 256 / 4)
    (hc : s.fab.calm) (hroom : ¬ s.writeRoom s.fab.writes d) :
    s.apertureAccess off true n data = { s with fab := s.writeQueued (s.newWrite d addr data true) } :=
  (State.apertureWrite_open hrun hin hoff hopen hd haddr hblock).trans ((State.postsGo_write (w := s.newWrite d addr data true) hc rfl).2 hroom)

theorem State.apertureRead_open (hin : off % 2 ^ 24 + 4 * n ≤ 2 ^ 24) :
    s.apertureAccess off false n data = s.hostRead d addr n (s.fldB (FAB_APT0 (off / 2 ^ 24)) FAB_APT0_pref) :=
  (State.apertureAccess_open hrun hin hoff hopen hd haddr).trans (if_neg Bool.false_ne_true)

/-- A host read of one block is one remote read. -/
theorem State.apertureRead_block (hin : off % 2 ^ 24 + 4 * n ≤ 2 ^ 24) (hblock : 0 < n ∧ n ≤ 64 - addr % 256 / 4) :
    s.apertureAccess off false n data = State.readSend { s with fab := { s.fab with
      nextTag := (s.fab.nextTag + 1) % 2 ^ 32
      reads := s.fab.reads ++ [{ tag := s.fab.nextTag, target := d, addr := addr, words := n, pref := s.fldB (FAB_APT0 (off / 2 ^ 24)) FAB_APT0_pref }]
      hostReads := s.fab.hostReads ++ [{ tag := s.fab.nextTag, parts := [(s.fab.nextTag % 2 ^ 32, none)] }] } }
      { tag := s.fab.nextTag, target := d, addr := addr, words := n, pref := s.fldB (FAB_APT0 (off / 2 ^ 24)) FAB_APT0_pref } := by
  rw [State.apertureRead_open hrun hoff hopen hd haddr hin, State.hostRead_eq (blockParts_one hblock.1 hblock.2) (List.cons_ne_nil _ _)]
  rfl

/-- A host read is one remote read for each block, and changes no memory. -/
theorem State.apertureRead_blocks (hin : off % 2 ^ 24 + 4 * n ≤ 2 ^ 24) (halign : off % 4 = 0) (hn : 0 < n) :
    (s.apertureAccess off false n data).fab.reads.take s.fab.reads.length = s.fab.reads ∧
    (((s.apertureAccess off false n data).fab.reads.drop s.fab.reads.length).map (fun y => y.words)).sum = n ∧ s.keeps (s.apertureAccess off false n data) ∧
    ∀ y ∈ (s.apertureAccess off false n data).fab.reads.drop s.fab.reads.length,
      y.target = d ∧ 0 < y.words ∧ (y.addr + 4 * y.words - 1) / 256 = y.addr / 256 := by
  have ha : addr % 4 = 0 := by
    rw [← haddr]
    omega
  obtain ⟨hsum, hblocks⟩ := blockParts_spec (Nat.le_refl n) ha
  have hne : blockParts n addr n ≠ [] := fun he => by
    rw [he] at hsum
    exact absurd hsum (Nat.pos_iff_ne_zero.1 hn).symm
  rw [State.apertureRead_open hrun hoff hopen hd haddr hin, State.hostRead_eq rfl hne]
  obtain ⟨new, hreads, hmap, htarget, hkeeps⟩ := State.readOut_foldl d (s.fldB (FAB_APT0 (off / 2 ^ 24)) FAB_APT0_pref) (blockParts n addr n)
    { s with fab := { s.fab with hostReads := s.fab.hostReads ++
      [{ tag := s.fab.nextTag, parts := (List.range (blockParts n addr n).length).map (fun i => ((s.fab.nextTag + i) % 2 ^ 32, none)) }] } }
  generalize (blockParts n addr n).foldl (State.readOut d _) _ = v at hreads hkeeps ⊢
  have hdrop : v.fab.reads.drop s.fab.reads.length = new := by rw [hreads]; exact List.drop_left
  rw [hdrop]
  refine ⟨by rw [hreads]; exact List.take_left, ?_, hkeeps, fun y hy => ⟨htarget y hy, ?_⟩⟩
  · rw [← hsum, ← hmap, List.map_map]
    rfl
  · exact hblocks (y.addr, y.words) (hmap ▸ List.mem_map_of_mem hy)

end

/-! Time-outs -/

/-- An access that is abandoned counts, with its event. -/
theorem State.abandoned_spec {x : FabState} (hs : t = ((({ s with fab := x } : State).fabCount 9).raise 0x0A11 3)) :
    s.counts t (FAB_CNT 9) ∧ s.posts t 0x0A11 3 noInst ∧ s.logs t 10 [(0x0A11, 3, noInst)] ∧ s.onlyRegs t [FAB_CNT 9] ∧
    t = { s with regs := t.regs, flt := t.flt, fab := x } := by
  have hc := ({ s with fab := x } : State).counts_bump (FAB_CNT 9)
  have hw := ({ s with fab := x } : State).wroteRegs_bump (FAB_CNT 9) 1
  have hcount : ({ s with fab := x } : State).fabCount 9 = ({ s with fab := x } : State).bump (FAB_CNT 9) := if_neg (by decide)
  rw [hcount] at hs
  generalize ({ s with fab := x } : State).bump (FAB_CNT 9) = v at hc hw hs
  have hp := v.posts_raise 0x0A11 3 noInst 0
  have hl := v.logs_raise (c := 0x0A11) (k := 3) noInst 0
  have hreg := v.raise_regFrame (c := 0x0A11) (k := 3) noInst 0 (by decide) (by decide) rfl
  have hkeep := (v.raise_frame 0x0A11 3 noInst 0 (by decide)).onlyRegs []
  rw [← hs] at hp hl hreg hkeep
  rw [State.regFrame] at hreg
  have hrun : v.running = s.running := by rw [hw.2]; rfl
  have hflt : v.flt = s.flt := by rw [hw.2]
  refine ⟨?_, State.posts_congr hrun hflt hp, ?_, fun a ha hl => (hkeep a List.not_mem_nil hl).trans (hw.1 a ha), ?_⟩
  · rw [State.counts, hkeep _ List.not_mem_nil (by decide)]
    exact hc
  · exact (State.logs_of_flt hflt).trans hrun hl
  · rw [hreg, hw.2]

end

/-- An access of the host through an aperture (R324, R331, R335). -/
theorem gives_apertureAccess (s : State) :
  let calm (l : List RaWrite) := s.fab.waiting = [] ∧ ∀ w ∈ l, w.sent = true
  let irq4 := fun (o : List Output) (t : State) => (t.rd FAB_IRQ_STATUS).toNat.testBit 4 = true ∧ s.onlyRegs t [FAB_IRQ_STATUS, FAB_PBA] ∧ ∃ l, t.outputs = l ++ o
  (∀ (off : Fin 67108864) (n : Nat) (data : List Word), s.running = true →
    let k := off.val / 2 ^ 24
    let d := s.fld (FAB_APT0 k) FAB_APT0_target
    let addr := s.fld (FAB_APT1 k) FAB_APT1_base * 2 ^ 24 + off.val % 2 ^ 24
    let open_ := s.fldB (FAB_APT0 k) FAB_APT0_en = true ∧ s.fldB (FAB_ROUTE d) FAB_ROUTE_valid = true
    let within (len : Nat) := off.val % 2 ^ 24 + 4 * len ≤ 2 ^ 24
    let block (len : Nat) := 0 < len ∧ len ≤ 64 - addr % 256 / 4
    let first := s.fab.nextTag
    let tagged := { s.fab with nextTag := (first + 1) % 2 ^ 32 }
    let x : RaRead := { tag := first, target := d, addr := addr, words := n, pref := s.fldB (FAB_APT0 k) FAB_APT0_pref }
    let w : RaWrite := { tag := first, target := d, wseq := (s.issuedTo d + 1) % 65536, addr := addr, data := data, aperture := true, ord := s.fab.ord }
    let posted := { tagged with ord := s.fab.ord + 1, issued := tset 0 s.fab.issued d ((s.issuedTo d + 1) % 65536) }
    let room := (s.fab.writes.filter (fun y => y.target == d)).length < 32 ∧ s.msgInside d = false
    let failed := { s with dev := { s.dev with aer := BitVec.ofNat 32 (withBit s.dev.aer.toNat 15 true) } }
    (open_ → within data.length → block data.length → calm s.fab.writes → room → Gives (.apertureAccess off true n data) s (fun t =>
      t = State.raSend { s with fab := { posted with writes := s.fab.writes ++ [{ w with sent := true }] } } d first w.req)) ∧
    (open_ → within data.length → block data.length → calm s.fab.writes → ¬ room → Gives (.apertureAccess off true n data) s (fun t =>
      t = { s with fab := { posted with writes := s.fab.writes ++ [w] } })) ∧
    (open_ → within n → block n → Gives (.apertureAccess off false n data) s (fun t => t = State.readSend { s with
      fab := { tagged with reads := s.fab.reads ++ [x], hostReads := s.fab.hostReads ++ [{ tag := first, parts := [(first % 2 ^ 32, none)] }] } } x)) ∧
    (open_ → within n → off.val % 4 = 0 → 0 < n → Gives (.apertureAccess off false n data) s (fun t =>
      let new := t.fab.reads.drop s.fab.reads.length
      t.fab.reads.take s.fab.reads.length = s.fab.reads ∧ (new.map (fun y => y.words)).sum = n ∧ s.keeps t ∧
      ∀ y ∈ new, y.target = d ∧ 0 < y.words ∧ (y.addr + 4 * y.words - 1) / 256 = y.addr / 256)) ∧
    (¬ open_ → within data.length → Gives (.apertureAccess off true n data) s (fun t => irq4 s.outputs t ∧
      t = { s with regs := t.regs, flt := t.flt, outputs := t.outputs })) ∧
    (¬ open_ → within n → Gives (.apertureAccess off false n data) s (fun t => irq4 (.completion none :: s.outputs) t ∧
      t = { failed with regs := t.regs, flt := t.flt, outputs := t.outputs })) ∧
    (∀ b : Bool, ¬ within (if b then data.length else n) → Gives (.apertureAccess off b n data) s (fun t => t = s.refuse .pcie off))) := by
  intro calm irq4 off n data hrun k d addr open_ within block first tagged x w posted room failed
  have hexec : ∀ b : Bool, exec (.apertureAccess off b n data) s = .next (s.apertureAccess off b n data) := fun _ => rfl
  refine ⟨fun ho hin hb hc hr => ⟨_, hexec true, ?_⟩, fun ho hin hb hc hr => ⟨_, hexec true, ?_⟩, fun ho hin hb => ⟨_, hexec false, ?_⟩,
    fun ho hin ha hn => ⟨_, hexec false, ?_⟩, fun ho hin => ⟨_, hexec true, ?_⟩, fun ho hin => ⟨_, hexec false, ?_⟩, fun b hin => ⟨_, hexec b, ?_⟩⟩
  · exact State.apertureWrite_sent hrun off.isLt ho rfl rfl hin hb hc hr
  · exact State.apertureWrite_held hrun off.isLt ho rfl rfl hin hb hc hr
  · exact State.apertureRead_block hrun off.isLt ho rfl rfl hin hb
  · exact State.apertureRead_blocks hrun off.isLt ho rfl rfl hin ha hn
  · rw [State.apertureAccess_closed hrun hin off.isLt ho, if_pos rfl]
    exact ⟨s.toldHost_apertureFail, s.apertureFail_spec.2.2.2⟩
  · rw [State.apertureAccess_closed hrun hin off.isLt ho, if_neg Bool.false_ne_true]
    exact ⟨((s.out (.completion none)).pcieError 15).toldHost_apertureFail, ((s.out (.completion none)).pcieError 15).apertureFail_spec.2.2.2⟩
  · exact State.apertureAccess_beyond hrun hin

/-- The host is told of a failed read (R335): its completion aborts, the uncorrectable error shows, and interrupt 4. -/
theorem State.toldAbort_spec (s : State) : s.toldHost (.completion none :: s.outputs) ((s.out (.completion none)).pcieError 15).apertureFail ∧
    ((s.out (.completion none)).pcieError 15).apertureFail.dev.aer.toNat.testBit 15 = true ∧
    ((s.out (.completion none)).pcieError 15).apertureFail = { s with
      regs := ((s.out (.completion none)).pcieError 15).apertureFail.regs, flt := ((s.out (.completion none)).pcieError 15).apertureFail.flt
      outputs := ((s.out (.completion none)).pcieError 15).apertureFail.outputs
      dev := { s.dev with aer := ((s.out (.completion none)).pcieError 15).apertureFail.dev.aer } } := by
  have haer : ((s.out (.completion none)).pcieError 15).dev.aer.toNat.testBit 15 = true := by
    show (BitVec.ofNat 32 (withBit s.dev.aer.toNat 15 true)).toNat.testBit 15 = true
    rw [BitVec.toNat_ofNat, Nat.testBit_mod_two_pow, testBit_withBit_self]
    rfl
  have htold := ((s.out (.completion none)).pcieError 15).toldHost_apertureFail
  have hframe := ((s.out (.completion none)).pcieError 15).apertureFail_spec.2.2.2
  generalize ((s.out (.completion none)).pcieError 15).apertureFail = v at htold hframe ⊢
  refine ⟨htold, ?_, ?_⟩
  · rw [hframe]
    exact haer
  · rw [hframe]
    rfl

theorem State.setFab_hostEnd {u : State} {k : Nat} {p : RaRead → Bool} (h : u.fab.hostReads.filter (fun z => z.tag != k) = []) :
    ({ u.setFab { u.fab with reads := [] } with fab := { (u.setFab { u.fab with reads := [] }).fab with
      reads := (u.setFab { u.fab with reads := [] }).fab.reads.filter p
      hostReads := (u.setFab { u.fab with reads := [] }).fab.hostReads.filter (fun z => z.tag != k) } } : State) =
    { u with fab := { u.fab with reads := [], hostReads := [] } } := by
  show ({ u with fab := { u.fab with reads := [].filter p, hostReads := u.fab.hostReads.filter (fun z => z.tag != k) } } : State) = _
  rw [h, List.filter_nil]

/-- A response to the one read under way. -/
theorem gives_raRsp_read {s : State} {f : Frame} {h : FabHdr} {x : RaRead} (hrsp : s.raRsp = s.pop31.rspTaken f h) (hx : s.fab.reads = [x])
    (htag : x.tag = h.tag) (hsrc : x.target = h.src) :
    let u := s.pop31
    let status := leNat (slice 0 4 f.data) % 16
    let irq4 := fun (o : List Output) (t : State) => (t.rd FAB_IRQ_STATUS).toNat.testBit 4 = true ∧ s.onlyRegs t [FAB_IRQ_STATUS, FAB_PBA] ∧ ∃ l, t.outputs = l ++ o
    let bytes := (f.data.drop 4).take (4 * x.words)
    (∀ k : Nat, status = 0 → u.fab.hostReads = [{ tag := k, parts := [(x.tag, none)] }] → Gives .raRsp s (fun t =>
      t = { u with outputs := .completion (some (leNat bytes)) :: s.outputs, fab := { u.fab with reads := [], hostReads := [] } })) ∧
    (∀ k j : Nat, status = 0 → u.fab.hostReads = [{ tag := k, parts := [(x.tag, none), (j, none)] }] → j ≠ x.tag → Gives .raRsp s (fun t =>
      t = { u with fab := { u.fab with reads := [], hostReads := [{ tag := k, parts := [(x.tag, some bytes), (j, none)] }] } })) ∧
    (∀ k : Nat, 2 ≤ status → u.fab.hostReads = [{ tag := k, parts := [(x.tag, none)] }] → Gives .raRsp s (fun t => irq4 (.completion none :: s.outputs) t ∧
      t.dev.aer.toNat.testBit 15 = true ∧
      t = { u with regs := t.regs, flt := t.flt, outputs := t.outputs, dev := { s.dev with aer := t.dev.aer }, fab := { u.fab with reads := [], hostReads := [] } })) ∧
    (status ≠ 1 → u.fab.hostReads = [] → Gives .raRsp s (fun t => t = { u with fab := { u.fab with reads := [] } })) ∧
    (status = 1 → Gives .raRsp s (fun t => s.counts t (FAB_CNT 8) ∧ s.onlyRegs t [FAB_CNT 8] ∧
      t = { u with regs := t.regs, fab := { u.fab with reads := [{ x with retry := true }] } })) := by
  intro u status irq4 bytes
  have hexec : exec .raRsp s = .next s.raRsp := rfl
  have hend : status ≠ 1 → s.raRsp = (u.setFab { u.fab with reads := [] }).hostEnd x.tag (if status = 0 then some bytes else none) :=
    fun hst => hrsp.trans (State.rspTaken_end hx htag hsrc hst)
  refine ⟨fun k hst hr => ⟨_, hexec, ?_⟩, fun k j hst hr hj => ⟨_, hexec, ?_⟩, fun k hst hr => ⟨_, hexec, ?_⟩, fun hst hr => ⟨_, hexec, ?_⟩,
    fun hst => ⟨_, hexec, ?_⟩⟩
  · refine (hend (by rw [hst]; decide)).trans ?_
    rw [if_pos hst]
    exact State.hostEnd_single (s := u.setFab { u.fab with reads := [] }) hr
  · refine (hend (by rw [hst]; decide)).trans ?_
    rw [if_pos hst]
    exact State.hostEnd_first (s := u.setFab { u.fab with reads := [] }) hr hj
  · have hfind : (u.setFab { u.fab with reads := [] }).fab.hostReads.find? (fun y => y.parts.any (fun p => p.1 == x.tag)) =
        some { tag := k, parts := [(x.tag, none)] } := by
      rw [show (u.setFab { u.fab with reads := [] }).fab.hostReads = [{ tag := k, parts := [(x.tag, none)] }] from hr]
      exact List.find?_cons_of_pos (by simp)
    have hdrop : u.fab.hostReads.filter (fun z => z.tag != k) = [] := by
      rw [hr, List.filter_cons_of_neg (by simp), List.filter_nil]
    have hq := (hend (by omega)).trans (by rw [if_neg (by omega), State.hostEnd_failed hfind])
    rw [State.setFab_hostEnd hdrop] at hq
    rw [hq]
    exact State.toldAbort_spec { u with fab := { u.fab with reads := [], hostReads := [] } }
  · exact (hend hst).trans (State.hostEnd_none (s := u.setFab { u.fab with reads := [] })
      (by rw [show (u.setFab { u.fab with reads := [] }).fab.hostReads = [] from hr, List.find?_nil]) _)
  · have hc := u.counts_bump (FAB_CNT 8)
    have hw := u.wroteRegs_bump (FAB_CNT 8) 1
    rw [hrsp.trans (State.rspTaken_retry (v := u) hx htag hsrc hst), show u.fabCount 8 = u.bump (FAB_CNT 8) from if_neg (by decide)]
    exact ⟨hc, hw.onlyRegs, rfl⟩

/-- A response to the bridge (R325, R326, R335). -/
theorem gives_raRsp (s : State) :
  let calm (l : List RaWrite) := s.fab.waiting = [] ∧ ∀ w ∈ l, w.sent = true
  let irq4 := fun (o : List Output) (t : State) => (t.rd FAB_IRQ_STATUS).toNat.testBit 4 = true ∧ s.onlyRegs t [FAB_IRQ_STATUS, FAB_PBA] ∧ ∃ l, t.outputs = l ++ o
  (∀ (f : Frame) (h : FabHdr) (u : State), s.mine31 9 = some (f, h, u) →
    let status := leNat (slice 0 4 f.data) % 16
    let ack := leNat (slice 0 4 f.data) / 65536
    let left := u.fab.writes.filter (fun w => w.target != h.src || epochNewer w.wseq ack)
    let failed := status ≠ 0 ∧ u.fab.writes.any (fun w => w.target == h.src && w.tag == h.tag && w.aperture) = true
    calm left →
    (u.fab.reads.find? (fun x => x.tag == h.tag && x.target == h.src) = none → ¬ failed → Gives .raRsp s (fun t =>
      t = { u with fab := { u.fab with writes := left } })) ∧
    (u.fab.reads.find? (fun x => x.tag == h.tag && x.target == h.src) = none → failed → Gives .raRsp s (fun t => irq4 s.outputs t ∧
      t = { u with regs := t.regs, flt := t.flt, outputs := t.outputs, fab := { u.fab with writes := left } })) ∧
    (∀ x : RaRead, u.fab.reads = [x] → x.tag = h.tag → x.target = h.src → u.fab.writes = [] →
      let bytes := (f.data.drop 4).take (4 * x.words)
      (∀ k : Nat, status = 0 → u.fab.hostReads = [{ tag := k, parts := [(x.tag, none)] }] → Gives .raRsp s (fun t =>
        t = { u with outputs := .completion (some (leNat bytes)) :: s.outputs, fab := { u.fab with reads := [], hostReads := [] } })) ∧
      (∀ k j : Nat, status = 0 → u.fab.hostReads = [{ tag := k, parts := [(x.tag, none), (j, none)] }] → j ≠ x.tag → Gives .raRsp s (fun t =>
        t = { u with fab := { u.fab with reads := [], hostReads := [{ tag := k, parts := [(x.tag, some bytes), (j, none)] }] } })) ∧
      (∀ k : Nat, 2 ≤ status → u.fab.hostReads = [{ tag := k, parts := [(x.tag, none)] }] → Gives .raRsp s (fun t => irq4 (.completion none :: s.outputs) t ∧
        t.dev.aer.toNat.testBit 15 = true ∧
        t = { u with regs := t.regs, flt := t.flt, outputs := t.outputs, dev := { s.dev with aer := t.dev.aer }, fab := { u.fab with reads := [], hostReads := [] } })) ∧
      (status ≠ 1 → u.fab.hostReads = [] → Gives .raRsp s (fun t => t = { u with fab := { u.fab with reads := [] } })) ∧
      (status = 1 → Gives .raRsp s (fun t => s.counts t (FAB_CNT 8) ∧ s.onlyRegs t [FAB_CNT 8] ∧
        t = { u with regs := t.regs, fab := { u.fab with reads := [{ x with retry := true }] } })))) := by
  intro calm irq4 f h u hm status ack left failed hc
  obtain ⟨hwait, hsent⟩ := hc
  obtain rfl := (State.mine31_some hm).2
  have hrsp := State.raRsp_of_mine31 hm hwait hsent
  have hexec : exec .raRsp s = .next s.raRsp := rfl
  have hreads : (s.pop31.acknowledged f h).fab.reads = s.pop31.fab.reads := by rw [State.fab_acknowledged]
  refine ⟨fun hx hn => ⟨_, hexec, ?_⟩, fun hx hfail => ⟨_, hexec, ?_⟩, fun x hx htag hsrc hwr => ?_⟩
  · rw [hrsp, State.rspTaken_none (by rw [hreads]; exact hx)]
    exact State.acknowledged_done hn
  · rw [hrsp, State.rspTaken_none (by rw [hreads]; exact hx), State.acknowledged_failed hfail.1 hfail.2]
    exact ⟨State.toldHost_apertureFail _, (State.apertureFail_spec _).2.2.2⟩
  · have hself : s.pop31.acknowledged f h = s.pop31 := by
      have hleft : s.pop31.fab.unacked h (rspAck f) = s.pop31.fab.writes := by rw [FabState.unacked, hwr, List.filter_nil]
      rw [State.acknowledged_done (fun hfail => by rw [FabState.hostWrite, hwr] at hfail; exact Bool.noConfusion hfail.2), hleft]
    rw [hself] at hrsp
    exact gives_raRsp_read hrsp hx htag hsrc


end Sys2Proof.Machine

/-! The bridge as source: repeats and time-outs, and the obligation. -/

namespace Sys2Proof.Machine

section
variable {s t u : State}

/-! A read issued again and writes sent again -/

theorem State.readReissue_single {x : RaRead} (hx : s.fab.reads = [x]) (hretry : x.retry = true) :
    s.readReissue x.tag = State.readSend { s with fab := { s.fab with reads := [{ x with retry := false }] } } x := by
  have hfind : s.fab.reads.find? (fun y => y.tag == x.tag && y.retry) = some x := by
    rw [hx]
    exact List.find?_cons_of_pos (by simp [hretry])
  rw [State.readReissue, hfind]
  dsimp only
  rw [hx, List.map_singleton, if_pos rfl]
  rfl

theorem State.readReissue_none {x : RaRead} (hx : s.fab.reads = [x]) (hretry : x.retry = false) (tag : Nat) : s.readReissue tag = s := by
  have hfind : s.fab.reads.find? (fun y => y.tag == tag && y.retry) = none := by
    rw [hx, List.find?_cons_of_neg (by simp [hretry]), List.find?_nil]
  rw [State.readReissue, hfind]

/-! The failure of a host's write -/

/-- A rate-limited event is told once or not at all. -/
theorem State.logs_raiseLim (s : State) (c k i d b : Nat) (h3 : b ≠ 3) : ∃ es, es.length ≤ 1 ∧ s.logs (s.raiseLim c k i d) b es := by
  have hmark : s.logs (s.markRaise c i) b [] := fun _ _ => ⟨[], by rw [List.append_nil]; rfl, rfl⟩
  unfold State.raiseLim
  split
  · by_cases hb : c / 256 = b
    · subst hb
      exact ⟨[(c, k, i % 4096)], Nat.le_refl 1, hmark.trans rfl ((s.markRaise c i).logs_raise i d)⟩
    · exact ⟨[], Nat.zero_le 1, hmark.trans rfl ((s.markRaise c i).logs_raise_ne i d hb h3)⟩
  · exact ⟨[], Nat.zero_le 1, State.logs.refl s b⟩

theorem State.logs_apertureFail (s : State) : ∃ es, es.length ≤ 1 ∧ s.logs s.apertureFail 10 es := by
  have hflt : (s.irq 4).flt = s.flt := by rw [(s.irq_spec (v := 4) (by decide)).2.2]
  have hrun : (s.irq 4).running = s.running := by rw [(s.irq_spec (v := 4) (by decide)).2.2]; rfl
  obtain ⟨es, hlen, hlog⟩ := (s.irq 4).logs_raiseLim 0x0A32 2 noInst 0 10 (by decide)
  exact ⟨es, hlen, State.logs.trans (es := []) (State.logs_of_flt hflt) hrun hlog⟩

/-- A write that is abandoned, of the host. -/
theorem State.abandoned_host {x : FabState} (hu : u = (({ s with fab := x } : State).fabCount 9).raise 0x0A11 3) (ht : t = u.apertureFail) :
    s.counts t (FAB_CNT 9) ∧ s.tells t 2 0x0A11 3 noInst ∧ (t.rd FAB_IRQ_STATUS).toNat.testBit 4 = true ∧
    s.onlyRegs t [FAB_CNT 9, FAB_IRQ_STATUS, FAB_PBA] ∧ t = { s with regs := t.regs, flt := t.flt, outputs := t.outputs, fab := x } := by
  obtain ⟨hcount, -, hlog, honly, hframe⟩ := State.abandoned_spec hu
  obtain ⟨hbit, htonly, -, htframe⟩ := u.apertureFail_spec
  obtain ⟨es, hlen, htlog⟩ := u.logs_apertureFail
  rw [← ht] at hbit htonly htframe htlog
  have hrun : u.running = s.running := by rw [hframe]; rfl
  refine ⟨?_, ?_, hbit, fun a ha hl => ?_, htframe.trans (by rw [hframe])⟩
  · rw [State.counts, htonly _ (by decide) (by decide)]
    exact hcount
  · exact (hlog.trans hrun htlog).tells List.mem_cons_self (by rw [List.length_append, List.length_singleton]; omega) rfl
  · simp only [List.mem_cons, not_or] at ha
    exact (htonly a (by simp [ha]) hl).trans (honly a (by simp [ha]) hl)

theorem State.calm_of_fab {x : FabState} (h : t.fab = x) (hx : x.calm) : t.fab.calm := h ▸ hx

/-! The rows -/

/-- A read or a write that is not completed in time (R326, R335). -/
theorem gives_raTimeout (s : State) (tag : Nat) :
    (s.fab.reads.any (fun x => x.tag == tag) = true →
      Gives (.raTimeout tag) s (fun t => s.counts t (FAB_CNT 9) ∧ s.posts t 0x0A11 3 noInst ∧ s.onlyRegs t [FAB_CNT 9] ∧
        t = { s with regs := t.regs, flt := t.flt, fab := { s.fab with reads := s.fab.reads.filter (fun x => x.tag != tag) } })) ∧
    (∀ w : RaWrite, s.fab.reads.any (fun x => x.tag == tag) = false → s.fab.writes.find? (fun x => x.tag == tag) = some w → s.fab.calm →
      let left := { s.fab with writes := s.fab.writes.filter (fun x => x.tag != tag) }
      (w.aperture = false → Gives (.raTimeout tag) s (fun t => s.counts t (FAB_CNT 9) ∧ s.posts t 0x0A11 3 noInst ∧ s.onlyRegs t [FAB_CNT 9] ∧
        t = { s with regs := t.regs, flt := t.flt, fab := left })) ∧
      (w.aperture = true → Gives (.raTimeout tag) s (fun t => s.counts t (FAB_CNT 9) ∧ s.tells t 2 0x0A11 3 noInst ∧
        (t.rd FAB_IRQ_STATUS).toNat.testBit 4 = true ∧ s.onlyRegs t [FAB_CNT 9, FAB_IRQ_STATUS, FAB_PBA] ∧
        t = { s with regs := t.regs, flt := t.flt, outputs := t.outputs, fab := left }))) ∧
    (s.fab.reads.any (fun x => x.tag == tag) = false → s.fab.writes.find? (fun x => x.tag == tag) = none →
      Gives (.raTimeout tag) s (fun t => t = s)) := by
  have hexec : exec (.raTimeout tag) s = .next (s.raTimeout tag) := rfl
  unfold State.raTimeout at hexec
  refine ⟨fun hr => ?_, fun w hr hw hc => ?_, fun hr hw => ?_⟩
  · rw [if_pos hr] at hexec
    obtain ⟨hcount, hposts, -, honly, hframe⟩ := State.abandoned_spec (s := s) rfl
    exact ⟨_, hexec, hcount, hposts, honly, hframe⟩
  · rw [if_neg (by rw [hr]; exact Bool.false_ne_true), hw] at hexec
    have hcalm : ({ s.fab with writes := s.fab.writes.filter (fun x => x.tag != tag) } : FabState).calm :=
      ⟨hc.1, fun x hx => hc.2 x (List.mem_filter.1 hx).1⟩
    refine ⟨fun hap => ?_, fun hap => ?_⟩
    · dsimp only at hexec
      rw [if_neg (by rw [hap]; exact Bool.false_ne_true)] at hexec
      obtain ⟨hcount, hposts, -, honly, hframe⟩ := State.abandoned_spec (s := s) rfl
      rw [State.postsGo_of_calm] at hexec
      · exact ⟨_, hexec, hcount, hposts, honly, hframe⟩
      · exact State.calm_of_fab (congrArg State.fab hframe) hcalm
    · dsimp only at hexec
      rw [if_pos hap] at hexec
      obtain ⟨hcount, htells, hbit, honly, hframe⟩ := State.abandoned_host (s := s) rfl rfl
      rw [State.postsGo_of_calm] at hexec
      · exact ⟨_, hexec, hcount, htells, hbit, honly, hframe⟩
      · exact State.calm_of_fab (congrArg State.fab hframe) hcalm
  · rw [if_neg (by rw [hr]; exact Bool.false_ne_true), hw] at hexec
    exact ⟨s, hexec, rfl⟩

end

/-- Settles O47: the writes, reads, responses and time-outs of the bridge as source, row by row. -/
theorem bridgeSource : Obligations.BridgeSource := by
  intro s calm irq4
  refine ⟨gives_apertureAccess s, fun off b n data hrun => ⟨s, ?_, rfl⟩, fun hm => ⟨s, ?_, rfl⟩, gives_raRsp s, fun tag x hx htag => ?_, fun d w hw => ⟨_, ?_, rfl⟩,
    fun d hw => ⟨_, ?_, rfl⟩, fun tag => (gives_raTimeout s tag).1, fun tag => (gives_raTimeout s tag).2.1, fun tag => (gives_raTimeout s tag).2.2,
    fun tag y hy => ⟨_, congrArg Host.Outcome.next (State.hostEnd_failed hy), State.toldAbort_spec _⟩,
    fun tag hy => ⟨_, congrArg Host.Outcome.next (State.hostEnd_none hy none), rfl⟩⟩
  · exact congrArg Host.Outcome.next (State.apertureAccess_stopped hrun)
  · exact congrArg Host.Outcome.next (show s.raRsp = s by rw [State.raRsp, hm])
  · subst htag
    exact ⟨fun hr => ⟨_, congrArg Host.Outcome.next (State.readReissue_single hx hr), rfl⟩,
      fun hr => ⟨_, congrArg Host.Outcome.next (State.readReissue_none hx hr _), rfl⟩⟩
  · exact congrArg Host.Outcome.next (show s.writeResend d.val = _ by rw [State.writeResend, hw]; rfl)
  · exact congrArg Host.Outcome.next (show s.writeResend d.val = s by rw [State.writeResend, hw]; rfl)

end Sys2Proof.Machine

/-! What the bridge's own work leaves alone: floods, advertisements, lost links and the choice of a head (R308 to R311). -/

namespace Sys2Proof.Machine

section
variable {P : Nat → Prop} {s t u : State}

/-! A message to every other bridge -/

theorem SwKept.fabOut (hP : ∀ a, P a → quiet a) (h : SwKept P s t) (p : Nat) (x : FabHdr) (data : List Byte) (msg : Option FabMsg) :
    SwKept P s (t.fabOut p x data msg) :=
  h.sendInternal hP (f := { input := 31, kind := .fabric, data := data, tc := x.tc, colour := x.colour, fab := some x, msg := msg, ts := t.tide.toNat })
    (show 31 < 32 by decide) (show FrameKind.fabric ≠ .eth by decide) (2 ^ p)

theorem SwKept.flood (hP : ∀ a, P a → quiet a) (h : SwKept P s t) (m : FabMsg) (type : Nat) (but : Option Nat) : SwKept P s (t.flood m type but) :=
  SwKept.foldl (fun _ p _ hs => hs.fabOut hP p _ [] (some m)) h

theorem State.flood_facts (s : State) (m : FabMsg) (type : Nat) (but : Option Nat) : (s.flood m type but).fab = s.fab ∧ s.keeps (s.flood m type but) := by
  obtain ⟨hmem, hmram, hotp, hfab, -⟩ := ((SwKept.refl (fun _ => False) s).flood (fun _ h => h.elim) m type but).facts
  exact ⟨hfab, hmem, hmram, hotp⟩

/-- A register of the bridge: no flood writes it. -/
def bridgeReg (a : Nat) : Prop := 0x200C0000 ≤ a ∧ a < 0x200CFFFF ∧ a % 0x1000 ≠ 0x1C0

theorem quiet_of_bridgeReg {a : Nat} (h : bridgeReg a) : quiet a := by
  obtain ⟨h1, h2, h3⟩ := h
  refine ⟨.inr (lt_of_lt_of_le ?_ h1), .inr (le_trans ?_ h1), .inr (le_trans ?_ h1), .inr h3, .inr (.inl (le_trans ?_ h1))⟩ <;> decide

theorem State.rd_flood (s : State) (m : FabMsg) (type : Nat) (but : Option Nat) {a : Nat} (ha : bridgeReg a) : (s.flood m type but).rd a = s.rd a :=
  ((SwKept.refl bridgeReg s).flood (fun _ h => quiet_of_bridgeReg h) m type but).rd a ha

theorem State.fld_flood (s : State) (m : FabMsg) (type : Nat) (but : Option Nat) {a : Nat} (f : Fld) (ha : bridgeReg a) :
    (s.flood m type but).fld a f = s.fld a f := by
  rw [State.fld, State.rd_flood s m type but ha]
  rfl

/-! The bridge's state -/

/-- The database has the device's own advertisement, or room for it. -/
def State.ownRoom (s : State) : Prop := dbOf s.fab.db ownId ≠ none ∨ s.fab.db.length < 64

/-- The bridge has worked from `s` on: beside what the switch may change, its own state has changed, not its room for its advertisement. -/
structure FabKept (P : Nat → Prop) (s t : State) : Prop where
  kept : ∃ x, SwKept P { s with fab := x } t
  room : s.ownRoom → t.ownRoom

theorem FabKept.refl (P : Nat → Prop) (s : State) : FabKept P s s := ⟨⟨s.fab, SwKept.refl P s⟩, id⟩

theorem FabKept.facts (h : FabKept P s t) : s.keeps t ∧ ∀ a, P a → t.rd a = s.rd a := by
  obtain ⟨⟨x, hx⟩, -⟩ := h
  obtain ⟨hmem, hmram, hotp, -⟩ := hx.facts
  exact ⟨⟨hmem, hmram, hotp⟩, hx.rd⟩

variable (h : FabKept P s t)
include h

theorem FabKept.step (hu : SwKept P t u) : FabKept P s u := by
  obtain ⟨⟨x, hx⟩, hroom⟩ := h
  refine ⟨⟨x, hx.trans hu⟩, fun hr => ?_⟩
  rw [State.ownRoom, hu.facts.2.2.2.1]
  exact hroom hr

theorem FabKept.setFab {x : FabState} (hx : t.ownRoom → (t.setFab x).ownRoom) : FabKept P s (t.setFab x) := by
  obtain ⟨⟨y, ⟨r, f, w, m, c, e, z, b, o, k, rfl⟩, hrd⟩, hroom⟩ := h
  exact ⟨⟨x, ⟨r, f, w, m, c, e, z, b, o, k, rfl⟩, hrd⟩, fun hr => hx (hroom hr)⟩

theorem FabKept.wr {a : Nat} (v : Word) (ha : ¬ P a) : FabKept P s (t.wr a v) := h.step ((SwKept.refl P t).wr v ha)

theorem FabKept.setFld {a : Nat} (f : Fld) (v : Nat) (ha : ¬ P a) : FabKept P s (t.setFld a f v) := h.wr _ ha

theorem FabKept.wr64 {a b : Nat} (v : Nat) (ha : ¬ P a) (hb : ¬ P b) : FabKept P s (t.wr64 a b v) := (h.wr _ ha).wr _ hb

theorem FabKept.raise (hP : ∀ a, P a → quiet a) {c : Nat} (hc : c < 0x1100) (k i d : Nat) : FabKept P s (t.raise c k i d) :=
  h.step ((SwKept.refl P t).raise hP hc k i d)

omit h in
theorem FabKept.ite {p : Prop} [Decidable p] {v w : State} (h1 : p → FabKept P s v) (h2 : ¬ p → FabKept P s w) : FabKept P s (if p then v else w) := by
  split
  · exact h1 ‹_›
  · exact h2 ‹_›

omit h in
theorem FabKept.foldl {α : Type} {f : State → α → State} {l : List α} (hf : ∀ t x, x ∈ l → FabKept P s t → FabKept P s (f t x)) (h : FabKept P s t) :
    FabKept P s (l.foldl f t) := by
  induction l generalizing t with
  | nil => exact h
  | cons x l ih => exact ih (fun t y hy => hf t y (List.mem_cons_of_mem _ hy)) (hf t x List.mem_cons_self h)

/-! Floods and advertisements -/

omit h in
theorem FabKept.flood (h : FabKept P s t) (hP : ∀ a, P a → quiet a) (m : FabMsg) (type : Nat) (but : Option Nat) : FabKept P s (t.flood m type but) :=
  h.step ((SwKept.refl P t).flood hP m type but)

omit h in
theorem dbOf_isSome {db : List Lsa} {id : Nat} : dbOf db id ≠ none ↔ db.any (fun x => x.origin == id) = true := by
  rw [dbOf, Option.ne_none_iff_isSome, List.find?_isSome, List.any_eq_true]

omit h in
/-- An advertisement for which the database has room is found in it. -/
theorem dbOf_dbPut {db : List Lsa} {l : Lsa} (h : dbOf db l.origin ≠ none ∨ db.length < 64) : dbOf (dbPut db l) l.origin = some l := by
  rw [dbOf_isSome] at h
  unfold dbPut
  by_cases hany : db.any (fun x => x.origin == l.origin) = true
  · rw [if_pos hany]
    clear h
    induction db with
    | nil => exact Bool.noConfusion hany
    | cons x db ih =>
      rw [List.map_cons]
      by_cases hx : x.origin = l.origin
      · rw [if_pos hx]
        exact List.find?_cons_of_pos (beq_self_eq_true _)
      · rw [if_neg hx]
        have hne : ¬ (x.origin == l.origin) = true := fun he => hx (eq_of_beq he)
        rw [List.any_cons, (Bool.not_eq_true _).mp hne, Bool.false_or] at hany
        rw [dbOf, List.find?_cons_of_neg (p := fun y : Lsa => y.origin == l.origin) hne]
        exact ih hany
  · rw [if_neg hany, if_pos (h.resolve_left hany)]
    have hnone : db.find? (fun x => x.origin == l.origin) = none := List.find?_eq_none.2 fun x hx hb => hany (List.any_eq_true.2 ⟨x, hx, hb⟩)
    rw [dbOf, List.find?_append, hnone, Option.none_or]
    exact List.find?_cons_of_pos (beq_self_eq_true _)

omit h in
/-- The state as it sends its next advertisement. -/
def State.nextSeq (s : State) : State := s.setFab { s.fab with seq := (s.fab.seq + 1) % 2 ^ 32 }

omit h in
/-- The device's own advertisement goes out and, where there is room, stands in the database. -/
theorem State.lsaSend_fab (s : State) : s.lsaSend.fab = { s.fab with seq := (s.fab.seq + 1) % 2 ^ 32, db := dbPut s.fab.db s.nextSeq.ownLsa } :=
  (State.flood_facts _ _ _ _).1

theorem FabKept.lsaSend (hP : ∀ a, P a → quiet a) : FabKept P s t.lsaSend := by
  refine FabKept.flood (FabKept.setFab (h.setFab (x := { t.fab with seq := (t.fab.seq + 1) % 2 ^ 32 }) (fun hr => hr)) (fun hr => .inl ?_)) hP _ _ _
  exact (dbOf_dbPut (l := State.ownLsa t.nextSeq) hr).symm ▸ Option.some_ne_none _

end

/-! Work that leaves the bridge's control and status registers alone -/

/-- One of the bridge's control and status registers. -/
def ctlReg (a : Nat) : Prop := 0x200C0000 ≤ a ∧ a < 0x200C0020

theorem quiet_ctlReg : ∀ a, ctlReg a → quiet a := fun a ⟨h1, h2⟩ => quiet_of_bridgeReg ⟨h1, by omega, by omega⟩

theorem State.irq_kept {v : Nat} (hv : v < 32) (s : State) : SwKept ctlReg s (s.irq v) := by
  obtain ⟨-, hrd, hframe⟩ := s.irq_spec hv
  refine ⟨⟨(s.irq v).regs, s.flt, s.sw, s.tm, s.csg, s.eth, s.can, s.bank, (s.irq v).outputs, s.free, hframe⟩, fun a ha => hrd a ?_⟩
  rw [List.mem_cons, List.mem_singleton]
  obtain ⟨-, h2⟩ := ha
  rintro (rfl | rfl)
  · exact absurd h2 (by decide)
  · exact absurd h2 (by decide)

section
variable {s t : State} (h : SwKept ctlReg s t)
include h

theorem SwKept.wrAbove {a : Nat} (v : Word) (ha : 0x200C0020 ≤ a) : SwKept ctlReg s (t.wr a v) := h.wr v (fun he => absurd he.2 (Nat.not_lt.2 ha))

theorem SwKept.raised {c : Nat} (hc : c < 0x1100) (k i d : Nat) : SwKept ctlReg s (t.raise c k i d) := h.raise quiet_ctlReg hc k i d

theorem SwKept.irq {v : Nat} (hv : v < 32) : SwKept ctlReg s (t.irq v) := h.trans (t.irq_kept hv)

theorem SwKept.setLink (p st : Nat) : SwKept ctlReg s (t.setLink p st) := h.wrAbove _ (by rw [FAB_PORT_STATUS]; omega)

theorem SwKept.relink : SwKept ctlReg s t.relink := SwKept.foldl (fun _ p _ hs => hs.setLink p _) h

theorem SwKept.mapAddress : SwKept ctlReg s t.mapAddress :=
  SwKept.foldl (fun _ r _ hs => SwKept.ite (fun _ => hs.wrAbove _ (by rw [PLC_MAP]; omega)) (fun _ => hs)) h

theorem SwKept.computeRoutes (commit : Bool) : SwKept ctlReg s (t.computeRoutes commit) := by
  unfold State.computeRoutes
  refine SwKept.foldl (fun u a _ hs => ?_) h
  have hroute : 0x200C0020 ≤ FAB_ROUTE a := by rw [FAB_ROUTE]; omega
  extract_lets +onlyGivenNames id old
  clear_value id old
  generalize (if id = 0 ∨ id = ownId ∨ !u.addressed then none else u.routeTo id) = way
  cases way with
  | some x => exact hs.wrAbove _ hroute
  | none =>
    have h1 : SwKept ctlReg s (u.wr (FAB_ROUTE a) 0) := hs.wrAbove _ hroute
    exact SwKept.ite (fun _ => h1.raised (by decide) 3 noInst a) (fun _ => h1)

end

/-! A head's choice, lost links and the refresh of the links; the address is FAB_CTL, which only a command writes -/

/-- The bridge's control register. -/
abbrev atCtl (a : Nat) : Prop := a = FAB_CTL

theorem ctlReg_of_atCtl : ∀ a, atCtl a → ctlReg a := by
  rintro a rfl
  exact ⟨by decide, by decide⟩

theorem quiet_atCtl : ∀ a, atCtl a → quiet a := fun a ha => quiet_ctlReg a (ctlReg_of_atCtl a ha)

section
variable {s t : State} (h : FabKept atCtl s t)
include h

/-- Work that leaves every control and status register alone. -/
theorem FabKept.offCtl {u : State} (hu : SwKept ctlReg t u) : FabKept atCtl s u := h.step ⟨hu.eq, fun a ha => hu.rd a (ctlReg_of_atCtl a ha)⟩

theorem FabKept.wrAbove {a : Nat} (v : Word) (ha : 0x200C0000 < a) : FabKept atCtl s (t.wr a v) := h.wr v (fun he => absurd ha (by rw [he]; decide))

theorem FabKept.setFldAbove {a : Nat} (f : Fld) (v : Nat) (ha : 0x200C0000 < a) : FabKept atCtl s (t.setFld a f v) := h.wrAbove _ ha

theorem FabKept.wr64Above {a b : Nat} (v : Nat) (ha : 0x200C0000 < a) (hb : 0x200C0000 < b) : FabKept atCtl s (t.wr64 a b v) := (h.wrAbove _ ha).wrAbove _ hb

theorem FabKept.raised {c : Nat} (hc : c < 0x1100) (k i d : Nat) : FabKept atCtl s (t.raise c k i d) := h.raise quiet_atCtl hc k i d

theorem FabKept.setLink (p st : Nat) : FabKept atCtl s (t.setLink p st) := h.offCtl ((SwKept.refl ctlReg t).setLink p st)

theorem FabKept.relink : FabKept atCtl s t.relink := h.offCtl (SwKept.refl ctlReg t).relink

theorem FabKept.mapAddress : FabKept atCtl s t.mapAddress := h.offCtl (SwKept.refl ctlReg t).mapAddress

theorem FabKept.computeRoutes (commit : Bool) : FabKept atCtl s (t.computeRoutes commit) := h.offCtl ((SwKept.refl ctlReg t).computeRoutes commit)

omit h in
/-- No head is known: the device's place in the fabric is gone. -/
def State.placeGone (s : State) : State :=
  (((s.setFld FAB_STATUS FAB_STATUS_state 0).setFld FAB_STATUS FAB_STATUS_addr 0).setFld FAB_STATUS FAB_STATUS_addressed 0).setFld FAB_STATUS FAB_STATUS_is_head 0

omit h in
/-- No head is known: the members and their addresses are gone as well. -/
def State.membersGone (s : State) : State :=
  ((List.range 32).foldl (fun t a => t.wr64 (FAB_MEMBER_LO a) (FAB_MEMBER_HI a) 0)
    ((s.placeGone.wr64 FAB_HEAD_LO FAB_HEAD_HI 0).setFab { s.placeGone.fab with members := [] })).relink.mapAddress

omit h in
theorem State.headless_eq (s : State) : s.headless = if s.fabState = 0 then s.membersGone else (s.membersGone.raise 0x0A09 2).irq 2 := rfl

theorem FabKept.placeGone : FabKept atCtl s t.placeGone := by
  have hs : 0x200C0000 < FAB_STATUS := by decide
  exact (((h.setFldAbove _ 0 hs).setFldAbove _ 0 hs).setFldAbove _ 0 hs).setFldAbove _ 0 hs

theorem FabKept.membersGone : FabKept atCtl s t.membersGone := by
  have h1 := h.placeGone
  unfold State.membersGone
  generalize t.placeGone = u at h1 ⊢
  refine FabKept.mapAddress (FabKept.relink (FabKept.foldl (fun _ a _ hu => hu.wr64Above 0 ?_ ?_) (FabKept.setFab (h1.wr64Above 0 ?_ ?_) (fun hr => hr))))
  · rw [FAB_MEMBER_LO]; omega
  · rw [FAB_MEMBER_HI]; omega
  · decide
  · decide

theorem FabKept.headless : FabKept atCtl s t.headless := by
  have h1 := h.membersGone
  rw [State.headless_eq]
  generalize t.membersGone = u at h1 ⊢
  exact FabKept.ite (fun _ => h1) (fun _ => (h1.raised (by decide) 2 noInst 0).offCtl (State.irq_kept (by decide) _))

theorem FabKept.follow (x : Nat) : FabKept atCtl s (t.follow x) := by
  have hs : 0x200C0000 < FAB_STATUS := by decide
  unfold State.follow
  extract_lets +onlyGivenNames s1
  have h1 : FabKept atCtl s s1 := (h.wr64Above x (by decide) (by decide)).setFldAbove _ _ hs
  clear_value s1
  exact FabKept.ite (fun _ => h1.setFldAbove _ 3 hs) (fun _ => h1)

theorem FabKept.headAgain : FabKept atCtl s t.headAgain := by
  unfold State.headAgain
  extract_lets +onlyGivenNames reach n s1 f1 s2 x
  have h1 : FabKept atCtl s s1 := FabKept.ite (fun _ => h.raised (by decide) 2 noInst 0) (fun _ => h)
  have h2 : FabKept atCtl s s2 := h1.setFab (fun hr => hr)
  clear_value x s2
  exact FabKept.ite (fun _ => h2.headless) (fun _ => h2.follow x)

omit h in
/-- The choice of a head goes on without a sequence. -/
def State.headChosen (s : State) : State := (s.setFab { s.fab with open_ := none }).headAgain

omit h in
/-- The settle time starts at a head. -/
def State.settles (s : State) : State := s.setFab { s.fab with settling := s.isHead }

omit h in
theorem State.dbChanged_eq (s : State) : s.dbChanged = s.headChosen.settles.computeRoutes := by
  rw [State.dbChanged, State.headChosen, State.settles]

theorem FabKept.settles : FabKept atCtl s t.settles := h.setFab (fun hr => hr)

theorem FabKept.dbChanged : FabKept atCtl s t.dbChanged := by
  have h1 : FabKept atCtl s (t.setFab { t.fab with open_ := none }) := h.setFab (fun hr => hr)
  rw [State.dbChanged_eq]
  exact h1.headAgain.settles.computeRoutes false

omit h in
/-- A link is lost: its port forgets its neighbour. -/
def State.peerGone (s : State) (p next : Nat) : State :=
  (((s.setLink p next).setFabPort p {}).wr64 (FAB_PEER_LO p) (FAB_PEER_HI p) 0).setFld (FAB_PORT_STATUS p) FAB_PORT_STATUS_peer_port 0

omit h in
theorem State.fabLinkLost_eq (s : State) (p next : Nat) : s.fabLinkLost p next = if 2 ≤ s.linkState p then
    ((((s.peerGone p next).setFld (FAB_PORT_STATUS p) FAB_PORT_STATUS_went_down 1).fabCount 1).raise 0x0A02 2 p).linksChanged
    else if s.linkState p = 1 then (s.peerGone p next).raise 0x0A02 2 p else s.peerGone p next := rfl

theorem FabKept.peerGone (p next : Nat) : FabKept atCtl s (t.peerGone p next) := by
  have h1 := h.setLink p next
  unfold State.peerGone
  generalize t.setLink p next = u at h1 ⊢
  refine FabKept.setFldAbove (FabKept.wr64Above (FabKept.setFab h1 (x := { u.fab with ports := tset {} u.fab.ports p {} }) (fun hr => hr)) 0 ?_ ?_) _ 0 ?_
  · rw [FAB_PEER_LO]; omega
  · rw [FAB_PEER_HI]; omega
  · rw [FAB_PORT_STATUS]; omega

theorem FabKept.fabCount {k : Nat} : FabKept atCtl s (t.fabCount k) := by
  have ha : 0x200C0000 < FAB_CNT k := by rw [FAB_CNT]; omega
  unfold State.fabCount
  exact FabKept.ite (fun _ => h.wrAbove _ ha) (fun _ => h.wrAbove _ ha)

theorem FabKept.fabLinkLost (p next : Nat) : FabKept atCtl s (t.fabLinkLost p next) := by
  have h1 := h.peerGone p next
  rw [State.fabLinkLost_eq]
  generalize t.peerGone p next = u at h1 ⊢
  refine FabKept.ite (fun _ => ?_) (fun _ => FabKept.ite (fun _ => h1.raised (by decide) 2 p 0) (fun _ => h1))
  have h2 := (h1.setFldAbove FAB_PORT_STATUS_went_down 1 (a := FAB_PORT_STATUS p) (by rw [FAB_PORT_STATUS]; omega)).fabCount (k := 1)
  exact FabKept.dbChanged ((h2.raised (by decide) 2 p 0).lsaSend quiet_atCtl)

theorem FabKept.fabRefresh : FabKept atCtl s t.fabRefresh :=
  FabKept.foldl (fun _ p _ hu => FabKept.ite (fun _ => FabKept.ite (fun _ => hu.setLink p 1) (fun _ => hu))
    (fun _ => FabKept.ite (fun _ => hu.fabLinkLost p 0) (fun _ => hu))) h

end

end Sys2Proof.Machine

/-! What the bridge does with the head of sp31, with signals in and out, and with a write of its control register (R317, R322, R327, R332). -/

namespace Sys2Proof.Machine

/-! The registers of the bridge -/

section
variable {s t u : State} {m : Master}

theorem State.regCommand_fab {off : Nat} (hoff : off < 0x10000) (h : s.writable m (0x200C0000 + off)) (v : Word) :
    s.regCommand m (0x200C0000 + off) v = (s.seen m).fabWrite off v := by
  have hblock : (0x200C0000 + off) / 0x10000 = 0x200C := by omega
  have hrest : (0x200C0000 + off) % 0x10000 = off := by omega
  rw [State.regCommand_eq h (by simp only [blockAt, hblock]; rfl) (by omega)]
  simp only [State.regWrite, hblock, hrest]

/-! Items that leave by the bridge -/

/-- An item to `d` waits behind what was posted to `d` before. -/
abbrev State.behind (s : State) (d : Nat) : Prop := s.msgInside d = true ∨ ∃ w ∈ s.fab.writes, w.target = d ∧ w.ord < s.fab.ord

/-- The state with the next order number taken. -/
def State.ordTaken (s : State) : State := { s with fab := { s.fab with ord := s.fab.ord + 1 } }

def State.nextItem (s : State) (d : Nat) (item : FabItem) : FabWait := { ord := s.fab.ord, dst := d, item := item }

/-- The state with one item that waits. -/
def State.withItem (s : State) (d : Nat) (item : FabItem) : State := { s.ordTaken with fab := { s.ordTaken.fab with waiting := [s.nextItem d item] } }

theorem State.itemPost_calm (h : s.fab.calm) (d : Nat) (item : FabItem) : s.itemPost d item = (s.withItem d item).postsGo := by
  have hw : s.fab.waiting ++ [s.nextItem d item] = [s.nextItem d item] := by rw [h.1, List.nil_append]
  show (s.ordTaken.setFab { s.ordTaken.fab with waiting := s.fab.waiting ++ [s.nextItem d item] }).postsGo = _
  rw [hw]
  rfl

theorem State.itemReady_withItem (s : State) (d : Nat) (item : FabItem) : (s.withItem d item).itemReady (s.nextItem d item) = true ↔ ¬ s.behind d := by
  have hself : (s.withItem d item).fab.waiting.any (fun y => y.dst == d && decide (y.ord < s.fab.ord)) = false := by
    show [s.nextItem d item].any (fun y => y.dst == d && decide (y.ord < s.fab.ord)) = false
    simp [State.nextItem]
  have hinside : (s.withItem d item).msgInside d = s.msgInside d := rfl
  have hwrites : (s.withItem d item).fab.writes = s.fab.writes := rfl
  show (!(s.withItem d item).fab.writes.any (fun w => w.target == d && decide (w.ord < s.fab.ord)) &&
    !(s.withItem d item).fab.waiting.any (fun y => y.dst == d && decide (y.ord < s.fab.ord)) && !(s.withItem d item).msgInside d) = true ↔ _
  have hany : s.fab.writes.any (fun w => w.target == d && decide (w.ord < s.fab.ord)) = true ↔ ∃ w ∈ s.fab.writes, w.target = d ∧ w.ord < s.fab.ord := by simp
  rw [hself, hinside, hwrites, State.behind, ← hany]
  cases s.fab.writes.any (fun w => w.target == d && decide (w.ord < s.fab.ord)) <;> cases s.msgInside d <;> simp

theorem State.itemPost_behind (h : s.fab.calm) {d : Nat} (hb : s.behind d) (item : FabItem) : s.itemPost d item = s.withItem d item := by
  have hfind : (s.withItem d item).fab.waiting.find? (s.withItem d item).itemReady = none :=
    List.find?_eq_none.2 fun x hx hr => by
      rw [List.mem_singleton.1 hx, State.itemReady_withItem] at hr
      exact hr hb
  have hwr : (s.withItem d item).fab.writes.find? (s.withItem d item).writeReady = none := State.find?_writeReady h.2
  rw [State.itemPost_calm h, State.postsGo]
  cases (s.withItem d item).fab.waiting.length + (s.withItem d item).fab.writes.length with
  | zero => rfl
  | succ n => rw [State.postSteps, hfind, hwr]

theorem State.itemOut_fab (s : State) (x : FabWait) : (s.itemOut x).fab = s.fab := by
  obtain ⟨ord, dst, item⟩ := x
  cases item with
  | message f =>
    rw [State.itemOut]
    dsimp only
    split
    · exact (State.fabSend_facts _ _ _).1
    · rfl
  | signal tag val => exact (State.fabSend_facts _ _ _).1

theorem State.itemPost_ready (h : s.fab.calm) {d : Nat} (hb : ¬ s.behind d) (item : FabItem) : s.itemPost d item = s.ordTaken.itemOut (s.nextItem d item) := by
  have hfind : (s.withItem d item).fab.waiting.find? (s.withItem d item).itemReady = some (s.nextItem d item) :=
    List.find?_cons_of_pos ((s.itemReady_withItem d item).2 hb)
  have hleft : (s.withItem d item).setFab { (s.withItem d item).fab with
      waiting := (s.withItem d item).fab.waiting.filter (fun y => y.ord != (s.nextItem d item).ord) } = s.ordTaken := by
    have hnil : (s.withItem d item).fab.waiting.filter (fun y => y.ord != (s.nextItem d item).ord) = s.fab.waiting := by
      rw [h.1]
      show [s.nextItem d item].filter (fun y => y.ord != (s.nextItem d item).ord) = []
      simp
    rw [hnil]
    rfl
  have hcalm : (s.ordTaken.itemOut (s.nextItem d item)).fab.calm := by
    rw [State.itemOut_fab]
    exact h
  have hlen : (s.withItem d item).fab.waiting.length + (s.withItem d item).fab.writes.length = s.fab.writes.length + 1 := Nat.add_comm 1 _
  rw [State.itemPost_calm h, State.postsGo, hlen, State.postSteps, hfind]
  dsimp only
  rw [hleft]
  exact State.postSteps_of_calm hcalm _

end

/-! The frame at the head of sp31 -/

/-- A frame that is discarded counts, with its event. -/
theorem State.discardCounted_spec {k c cls : Nat} (hk : ¬ (k = 0 ∨ k = 12)) (hk16 : k < 16) (hc : c < 0x1100) (hcls : cls < 7) (hb : bankEvent c = false)
    (s : State) (i d : Nat) : s.counts ((s.fabCount k).raiseLim c cls i d) (FAB_CNT k) ∧ s.onlyRegs ((s.fabCount k).raiseLim c cls i d) [FAB_CNT k] ∧
      (s.fabCount k).raiseLim c cls i d = { s with regs := ((s.fabCount k).raiseLim c cls i d).regs, flt := ((s.fabCount k).raiseLim c cls i d).flt } := by
  have hcount : s.fabCount k = s.bump (FAB_CNT k) := if_neg hk
  rw [hcount]
  obtain ⟨hcnt, honly, hframe⟩ := State.bump_event (State.wroteEvents_raiseLim (s.bump (FAB_CNT k)) i d hc hcls hb) (isSrcLost_fabCnt hk16)
  exact ⟨hcnt, honly, hframe⟩

theorem State.staleFrame_spec (s : State) : s.counts s.staleFrame (FAB_CNT 3) ∧ s.onlyRegs s.staleFrame [FAB_CNT 3] ∧
    s.staleFrame = { s with regs := s.staleFrame.regs, flt := s.staleFrame.flt } :=
  State.discardCounted_spec (by decide) (by decide) (by decide) (by decide) rfl s _ _

section
variable {s : State} {f : Frame} {h : FabHdr}

/-- A message of a keeper waits behind what was posted to its target, or leaves (R327, R332). -/
theorem gives_forward_message (s : State) (f : Frame) (h : FabHdr) (hf : s.head31 = some f) (hk : f.kind = .message) (hh : f.fab = some h) (hc : s.fab.calm) :
    let w := { s.pop31 with fab := { s.fab with ord := s.fab.ord + 1 } }
    (s.behind h.dst → Gives .fabricFrameForward s (fun t =>
      t = { w with fab := { w.fab with waiting := [{ ord := s.fab.ord, dst := h.dst, item := .message f }] } })) ∧
    (¬ s.behind h.dst → Gives .fabricFrameForward s (fun t => t = w.fabSend { s.newHdr 7 f.tc h.dst h.tag with colour := f.colour } f.data)) := by
  have hexec : exec .fabricFrameForward s = .next (s.pop31.itemPost h.dst (.message f)) := by
    show Host.Outcome.next s.fabForward = _
    rw [State.fabForward, hf]
    dsimp only
    rw [hk, State.msgSend, hh]
  refine ⟨fun hb => ⟨_, hexec, State.itemPost_behind (s := s.pop31) hc hb _⟩, fun hb => ⟨_, hexec, ?_⟩⟩
  rw [State.itemPost_ready (s := s.pop31) hc hb]
  show s.pop31.ordTaken.itemOut { ord := s.fab.ord, dst := h.dst, item := .message f } = _
  rw [State.itemOut]
  dsimp only
  rw [hh]
  rfl

/-- A fabric frame goes on, is held or is discarded (R317). -/
theorem gives_forward_fabric (s : State) (f : Frame) (h : FabHdr) (hf : s.head31 = some f) (hk : f.kind = .fabric) (hh : f.fab = some h) :
    let newer := epochNewer h.epoch s.fabEpoch
    let mine := s.addressed = true ∧ h.dst = s.fabAddr
    (h.type < 7 → Gives .fabricFrameForward s (fun t => t = s)) ∧
    (7 ≤ h.type → newer = true → Gives .fabricFrameForward s (fun t =>
      t = { s.pop31 with fab := { s.fab with held := s.fab.held ++ [(s.elapsed, f)] } })) ∧
    (7 ≤ h.type → newer = false → h.epoch ≠ s.fabEpoch → Gives .fabricFrameForward s (fun t => s.counts t (FAB_CNT 3) ∧
      s.onlyRegs t [FAB_CNT 3] ∧ t = { s.pop31 with regs := t.regs, flt := t.flt })) ∧
    (7 ≤ h.type → newer = false → h.epoch = s.fabEpoch → mine → Gives .fabricFrameForward s (fun t => t = if h.type = 12 then s.pop31 else s)) ∧
    (7 ≤ h.type → newer = false → h.epoch = s.fabEpoch → ¬ mine → h.hop ≠ 0 → Gives .fabricFrameForward s (fun t =>
      t = s.pop31.fabSend { h with hop := h.hop - 1 } f.data)) ∧
    (7 ≤ h.type → newer = false → h.epoch = s.fabEpoch → ¬ mine → h.hop = 0 → Gives .fabricFrameForward s (fun t =>
      s.counts t (FAB_CNT 4) ∧ s.onlyRegs t [FAB_CNT 4] ∧ t = { s.pop31 with regs := t.regs, flt := t.flt })) := by
  intro newer mine
  have hexec : exec .fabricFrameForward s = .next (if h.type < 7 then s else if newer = true then
      s.pop31.setFab { s.fab with held := s.fab.held ++ [(s.elapsed, f)] } else if h.epoch ≠ s.fabEpoch then s.pop31.staleFrame
      else if mine then (if h.type = 12 then s.pop31 else s) else if h.hop = 0 then (s.pop31.fabCount 4).raiseLim 0x0A14 2
      else s.pop31.fabSend { h with hop := h.hop - 1 } f.data) := by
    show Host.Outcome.next s.fabForward = _
    rw [State.fabForward, hf]
    dsimp only
    rw [hk, hh]
    rfl
  refine ⟨fun ht => ⟨_, hexec, if_pos ht⟩, fun ht hn => ⟨_, hexec, ?_⟩, fun ht hn he => ⟨_, hexec, ?_⟩, fun ht hn he hm => ⟨_, hexec, ?_⟩,
    fun ht hn he hm hh => ⟨_, hexec, ?_⟩, fun ht hn he hm hh => ⟨_, hexec, ?_⟩⟩
  all_goals rw [if_neg (Nat.not_lt.2 ht)]
  · rw [if_pos hn]
    rfl
  · rw [if_neg (c := newer = true) (by rw [hn]; exact Bool.false_ne_true), if_pos he]
    exact State.staleFrame_spec _
  · rw [if_neg (c := newer = true) (by rw [hn]; exact Bool.false_ne_true), if_neg (c := h.epoch ≠ s.fabEpoch) (not_not.2 he), if_pos (c := mine) hm]
  · rw [if_neg (c := newer = true) (by rw [hn]; exact Bool.false_ne_true), if_neg (c := h.epoch ≠ s.fabEpoch) (not_not.2 he), if_neg hm, if_neg hh]
  · rw [if_neg (c := newer = true) (by rw [hn]; exact Bool.false_ne_true), if_neg (c := h.epoch ≠ s.fabEpoch) (not_not.2 he), if_neg hm, if_pos hh]
    exact State.discardCounted_spec (by decide) (by decide) (by decide) (by decide) (by decide) _ _ _

end

end Sys2Proof.Machine

/-! Signals, rediscovery, and the forwarding of frames (R317, R322, R327, R332). -/

namespace Sys2Proof.Machine

/-! A received signal -/

theorem foldl_be_lt (bs : List Byte) (n : Nat) : bs.foldl (fun a b => a * 256 + b.toNat) n < (n + 1) * 256 ^ bs.length := by
  induction bs generalizing n with
  | nil => rw [List.foldl_nil, List.length_nil, Nat.pow_zero]; omega
  | cons b bs ih =>
    have hb : b.toNat < 256 := b.isLt
    calc (b :: bs).foldl (fun a b => a * 256 + b.toNat) n = bs.foldl (fun a b => a * 256 + b.toNat) (n * 256 + b.toNat) := rfl
      _ < (n * 256 + b.toNat + 1) * 256 ^ bs.length := ih _
      _ ≤ ((n + 1) * 256) * 256 ^ bs.length := Nat.mul_le_mul_right _ (by omega)
      _ = (n + 1) * 256 ^ (b :: bs).length := by rw [List.length_cons, Nat.pow_succ, Nat.mul_assoc, Nat.mul_comm 256]

theorem beNat_word_lt (bs : List Byte) : beNat (slice 0 4 bs) < 2 ^ 32 :=
  calc beNat (slice 0 4 bs) < (0 + 1) * 256 ^ (slice 0 4 bs).length := foldl_be_lt _ 0
    _ ≤ 2 ^ 32 := by
      rw [Nat.zero_add, Nat.one_mul]
      exact Nat.pow_le_pow_right (by decide : 0 < 256) (List.length_take_le _ _)

section
variable {s t u : State} {m : Master}

theorem State.signalTake_of_mine31 {f : Frame} {h : FabHdr} (hm : s.mine31 10 = some (f, h, u)) : s.signalTake =
    (((u.wr FAB_SIG_RX (BitVec.ofNat 32 (beNat (slice 0 4 f.data)))).fabCount 13).raise 0x0A20 0 h.src (beNat (slice 0 4 f.data))).irq 3 := by
  rw [State.signalTake, hm]

/-- A signal shows its value, counts, and is told by its event and its interrupt. -/
theorem State.signalShown_spec (u : State) {v : Nat} (hv : v < 2 ^ 32) (src : Nat)
    (ht : t = (((u.wr FAB_SIG_RX (BitVec.ofNat 32 v)).fabCount 13).raise 0x0A20 0 src v).irq 3) :
    (t.rd FAB_SIG_RX).toNat = v ∧ (t.rd FAB_IRQ_STATUS).toNat.testBit 3 = true ∧ u.counts t (FAB_CNT 13) ∧ u.posts t 0x0A20 0 (src % 4096) ∧
    u.onlyRegs t [FAB_SIG_RX, FAB_IRQ_STATUS, FAB_CNT 13, FAB_PBA] ∧ t = { u with regs := t.regs, flt := t.flt, outputs := t.outputs } := by
  have hrx : ((u.wr FAB_SIG_RX (BitVec.ofNat 32 v)).rd FAB_SIG_RX).toNat = v := by
    rw [State.rd_wr_same, BitVec.toNat_ofNat, Nat.mod_eq_of_lt hv]
  have hw := State.wroteRegs_wr u (BitVec.ofNat 32 v) (List.mem_singleton_self FAB_SIG_RX)
  generalize u.wr FAB_SIG_RX (BitVec.ofNat 32 v) = w at hrx hw ht
  have hc := w.counts_bump (FAB_CNT 13)
  have hb := w.wroteRegs_bump (FAB_CNT 13) 1
  have hcount : w.fabCount 13 = w.bump (FAB_CNT 13) := if_neg (by decide)
  rw [hcount] at ht
  generalize w.bump (FAB_CNT 13) = x at hc hb ht
  have hp := x.posts_raise 0x0A20 0 src v
  have hreg := x.raise_regFrame (c := 0x0A20) (k := 0) src v (by decide) (by decide) rfl
  have hkeep := (x.raise_frame 0x0A20 0 src v (by decide)).onlyRegs []
  generalize x.raise 0x0A20 0 src v = y at hp hreg hkeep ht
  rw [State.regFrame] at hreg
  obtain ⟨hbit, hrd, hframe⟩ := y.irq_spec (v := 3) (by decide)
  rw [← ht] at hbit hrd hframe
  have hflt : x.flt = u.flt := by rw [hb.2, hw.2]
  have hrun : x.running = u.running := by rw [hb.2, hw.2]; rfl
  have hpost : t.flt = y.flt := by rw [hframe]
  refine ⟨?_, hbit, ?_, ?_, fun a ha hl => ?_, ?_⟩
  · rw [hrd _ (by decide), hkeep _ List.not_mem_nil (by decide), hb.1 _ (by decide), hrx]
  · rw [State.counts, hrd _ (by decide), hkeep _ List.not_mem_nil (by decide), ← hw.1 _ (by decide)]
    exact hc
  · have hpy := State.posts_congr hrun hflt hp
    rw [State.posts] at hpy ⊢
    rw [hpost]
    exact hpy
  · simp only [List.mem_cons, List.not_mem_nil, or_false, not_or] at ha
    obtain ⟨h1, h2, h3, h4⟩ := ha
    rw [hrd a (by simp [h2, h4]), hkeep a List.not_mem_nil hl, hb.1 a (by simp [h3]), hw.1 a (by simp [h1])]
  · rw [hframe, hreg, hb.2, hw.2]

/-! A signal sent -/

/-- A written signal command takes the next tag, and its item. -/
theorem State.fabWrite_sigSend (s : State) {v : Word} (hv : v.toNat.testBit 5 = true) : s.fabWrite 0x410 v = (s.wrPlain FAB_SIG_SEND v).signalSend := by
  show (if v.toNat.testBit 5 = true then _ else _) = _
  exact if_pos hv

theorem State.fabSrc_congr (h : t.rd FAB_STATUS = s.rd FAB_STATUS) : t.fabSrc = s.fabSrc := by
  have hfld : ∀ f, t.fld FAB_STATUS f = s.fld FAB_STATUS f := fun f => congrArg f.get h
  have hadd : t.addressed = s.addressed := by rw [State.addressed, State.fldB, hfld]; rfl
  rw [State.fabSrc, hadd, hfld]
  rfl

theorem State.newHdr_congr (h : t.rd FAB_STATUS = s.rd FAB_STATUS) (type tc dst tag : Nat) : t.newHdr type tc dst tag = s.newHdr type tc dst tag := by
  simp only [State.newHdr, State.fabSrc_congr h, State.fabEpoch, State.fld, h]

theorem State.msgInside_congr (h : t.rd FAB_STATUS = s.rd FAB_STATUS) (hsw : t.sw = s.sw) (d : Nat) : t.msgInside d = s.msgInside d := by
  rw [State.msgInside, State.msgInside, State.fabSrc_congr h, hsw]

/-- The target that a written signal command names. -/
theorem State.sigSend_dst (s : State) (v : Word) : (s.wrPlain FAB_SIG_SEND (v ||| 32)).fld FAB_SIG_SEND FAB_SIG_SEND_dst = FAB_SIG_SEND_dst.get v := by
  obtain ⟨d, hd, hf⟩ : ∃ d, regAt FAB_SIG_SEND = some d ∧ d.fields = [.rw 4 0] := ⟨_, rfl, rfl⟩
  have hplain : s.wrPlain FAB_SIG_SEND (v ||| 32) = s.wrPlain FAB_SIG_SEND v := by
    refine State.wrPlain_or (fun e he f hfe => ?_) s v
    rw [hd] at he
    rw [← Option.some.inj he, hf, List.mem_singleton] at hfe
    rw [hfe]
    rfl
  rw [hplain, State.fld, State.rd_wrPlain_of hd]
  simp (disch := decide) only [RegDesc.write, hf, List.foldl, FAcc.write, FAB_SIG_SEND_dst, Fld.get_put, Fld.get_mod]

/-- The state with the next tag taken. -/
def State.tagTaken (s : State) : State := { s with fab := { s.fab with nextTag := (s.fab.nextTag + 1) % 2 ^ 32 } }

theorem State.signalSend_eq (s : State) :
    s.signalSend = s.tagTaken.itemPost (s.fld FAB_SIG_SEND FAB_SIG_SEND_dst) (.signal s.fab.nextTag (s.rd FAB_SIG_VAL).toNat) := rfl

/-- A signal leaves with the next tag, or waits behind what was posted to its target (R327, R332). -/
theorem gives_signalSend (s : State) (m : Master) (v : Word) (hw : s.writable m FAB_SIG_SEND) (hc : s.fab.calm) :
    let dst := FAB_SIG_SEND_dst.get v
    let w := { (s.seen m).wrPlain FAB_SIG_SEND (v ||| 32) with
      fab := { s.fab with nextTag := (s.fab.nextTag + 1) % 2 ^ 32, ord := s.fab.ord + 1 } }
    let item : FabItem := .signal s.fab.nextTag (s.rd FAB_SIG_VAL).toNat
    (s.behind dst → Gives (.go m v) s (fun t => t = { w with fab := { w.fab with waiting := [{ ord := s.fab.ord, dst := dst, item := item }] } })) ∧
    (¬ s.behind dst → Gives (.go m v) s (fun t =>
      t = w.fabSend (s.newHdr 10 (s.fld FAB_RA_CFG FAB_RA_CFG_tc) dst s.fab.nextTag) (beBytes 4 (s.rd FAB_SIG_VAL).toNat))) := by
  intro dst w item
  have hcmd : s.regCommand m FAB_SIG_SEND (v ||| 32) = ((s.seen m).wrPlain FAB_SIG_SEND (v ||| 32)).signalSend :=
    (State.regCommand_fab (off := 0x410) (by decide) hw _).trans (State.fabWrite_sigSend _ (testBit_or_set v 32 (by decide) rfl))
  have hexec : exec (.go m v) s = .next (s.regCommand m FAB_SIG_SEND (v ||| 32)) := rfl
  have hdst : ((s.seen m).wrPlain FAB_SIG_SEND (v ||| 32)).fld FAB_SIG_SEND FAB_SIG_SEND_dst = dst := State.sigSend_dst _ v
  have hplain := State.wroteRegs_wrPlain (s.seen m) (v ||| 32) (List.mem_singleton_self FAB_SIG_SEND)
  rw [hcmd, State.signalSend_eq, hdst] at hexec
  have hrd : ∀ a, a ≠ FAB_SIG_SEND → ((s.seen m).wrPlain FAB_SIG_SEND (v ||| 32)).rd a = s.rd a := fun a ha =>
    (hplain.1 a (fun h => ha (List.mem_singleton.1 h))).trans (State.seen_rd s m a)
  have hfab : ((s.seen m).wrPlain FAB_SIG_SEND (v ||| 32)).fab = s.fab := by rw [hplain.2]; exact State.seen_fab s m
  have hsw : ((s.seen m).wrPlain FAB_SIG_SEND (v ||| 32)).sw = s.sw := by rw [hplain.2]; exact State.seen_sw s m
  have hval := hrd FAB_SIG_VAL (by decide)
  have hst := hrd FAB_STATUS (by decide)
  have hcfg := hrd FAB_RA_CFG (by decide)
  have hwdef : w = { (s.seen m).wrPlain FAB_SIG_SEND (v ||| 32) with
      fab := { s.fab with nextTag := (s.fab.nextTag + 1) % 2 ^ 32, ord := s.fab.ord + 1 } } := rfl
  generalize (s.seen m).wrPlain FAB_SIG_SEND (v ||| 32) = u at hexec hfab hsw hval hst hcfg hwdef
  rw [hfab, hval] at hexec
  have hcalm : u.tagTaken.fab.calm := by
    show u.fab.calm
    rw [hfab]
    exact hc
  have hbehind : u.tagTaken.behind dst ↔ s.behind dst := by
    have hinside : u.tagTaken.msgInside dst = s.msgInside dst := State.msgInside_congr (t := u.tagTaken) hst hsw dst
    show (u.tagTaken.msgInside dst = true ∨ ∃ w ∈ u.fab.writes, w.target = dst ∧ w.ord < u.fab.ord) ↔ _
    rw [hinside, hfab]
  have hord : u.tagTaken.ordTaken = w := by
    show ({ u with fab := { u.fab with nextTag := (u.fab.nextTag + 1) % 2 ^ 32, ord := u.fab.ord + 1 } } : State) = w
    rw [hwdef, hfab]
  refine ⟨fun hb => ⟨_, hexec, ?_⟩, fun hb => ⟨_, hexec, ?_⟩⟩
  · rw [State.itemPost_behind hcalm (hbehind.2 hb), State.withItem, hord]
    show ({ w with fab := { w.fab with waiting := [{ ord := u.fab.ord, dst := dst, item := item }] } } : State) = _
    rw [hfab]
  · rw [State.itemPost_ready hcalm (fun h => hb (hbehind.1 h)), hord]
    have hhdr : w.newHdr 10 (w.fld FAB_RA_CFG FAB_RA_CFG_tc) dst s.fab.nextTag = s.newHdr 10 (s.fld FAB_RA_CFG FAB_RA_CFG_tc) dst s.fab.nextTag := by
      have hwst : w.rd FAB_STATUS = s.rd FAB_STATUS := by rw [hwdef]; exact hst
      have hwcfg : w.rd FAB_RA_CFG = s.rd FAB_RA_CFG := by rw [hwdef]; exact hcfg
      rw [State.newHdr_congr hwst, State.fld, hwcfg]
      rfl
    show w.fabSend (w.newHdr 10 (w.fld FAB_RA_CFG FAB_RA_CFG_tc) dst s.fab.nextTag) _ = _
    rw [hhdr]

/-! Rediscovery -/

/-- The device's advertisement says what its registers say. -/
theorem State.ownLsa_congr (hseq : t.fab.seq = s.fab.seq) (hrd : ∀ a, bridgeReg a → t.rd a = s.rd a) : t.ownLsa = s.ownLsa := by
  have hfld : ∀ a f, bridgeReg a → t.fld a f = s.fld a f := fun a f ha => congrArg f.get (hrd a ha)
  have hcfg : ∀ p < 8, bridgeReg (FAB_PORT_CFG p) ∧ bridgeReg (FAB_PORT_STATUS p) ∧ bridgeReg (FAB_PEER_LO p) ∧ bridgeReg (FAB_PEER_HI p) := by
    intro p hp
    simp only [bridgeReg, FAB_PORT_CFG, FAB_PORT_STATUS, FAB_PEER_LO, FAB_PEER_HI]
    omega
  have hhead : t.fldB FAB_STATUS FAB_STATUS_head_in = s.fldB FAB_STATUS FAB_STATUS_head_in := by
    rw [State.fldB, hfld _ _ ⟨by decide, by decide, by decide⟩]
    rfl
  have hlinks : (List.range 8).filter (fun p => t.fabLink p && decide (2 ≤ t.linkState p)) = (List.range 8).filter (fun p => s.fabLink p && decide (2 ≤ s.linkState p)) :=
    List.filter_congr fun p hp => by
      obtain ⟨h1, h2, -⟩ := hcfg p (List.mem_range.1 hp)
      rw [State.fabLink, State.linkState, hfld _ _ h1, hfld _ _ h2]
      rfl
  rw [State.ownLsa, State.ownLsa, hseq, hhead, hlinks]
  refine congrArg (Lsa.mk _ _ _) (List.map_congr_left fun p hp => ?_)
  obtain ⟨h1, h2, h3, h4⟩ := hcfg p (List.mem_range.1 (List.mem_filter.1 hp).1)
  rw [State.peerId, State.rd64, hfld _ _ h1, hfld _ _ h2, hrd _ h3, hrd _ h4]
  rfl

/-- The bridge's own state once the settle time starts at a head, without a sequence. -/
def State.settlesAnew (s : State) : State := s.setFab { s.fab with settling := s.isHead, open_ := none }

/-- A written rediscovery sends the device's advertisement, and the settle time starts again at a head. -/
theorem State.fabWrite_rediscover (s : State) {v : Word} (hv : v.toNat.testBit 1 = true) :
    s.fabWrite 0 v = (s.wrPlain FAB_CTL v).fabRefresh.lsaSend.settlesAnew := by
  unfold State.fabWrite
  extract_lets +onlyGivenNames a n
  rw [if_pos rfl]
  extract_lets +onlyGivenNames s1
  rw [if_pos (show bit 1 n = true from hv)]
  have hs1 : s1 = (s.wrPlain FAB_CTL v).fabRefresh := rfl
  clear_value s1
  rw [← hs1]
  rfl

/-- What the bridge's control register shows of a written enable. -/
theorem State.fabCtl_en (s : State) (v : Word) : (s.wrPlain FAB_CTL (v ||| 2)).fld FAB_CTL FAB_CTL_en = FAB_CTL_en.get v := by
  obtain ⟨d, hd, hf⟩ : ∃ d, regAt FAB_CTL = some d ∧ d.fields = [.rw 0 0, .rwr 15 8 10 150] := ⟨_, rfl, rfl⟩
  have hplain : s.wrPlain FAB_CTL (v ||| 2) = s.wrPlain FAB_CTL v := by
    refine State.wrPlain_or (fun e he f hfe => ?_) s v
    rw [hd] at he
    rw [← Option.some.inj he, hf] at hfe
    rcases List.mem_cons.1 hfe with rfl | hfe
    · rfl
    · rw [List.mem_singleton.1 hfe]
      rfl
  rw [hplain, State.fld, State.rd_wrPlain_of hd]
  simp (disch := decide) only [RegDesc.write, hf, List.foldl, FAcc.write, FAB_CTL_en, Fld.get_put, Fld.get_put_ne, Fld.get_mod]

/-- Once the device has advertised itself and the settle time has started, the database holds what it says of itself. -/
theorem State.dbOf_advertised (s : State) (h : s.ownRoom) : dbOf s.lsaSend.settlesAnew.fab.db ownId = some s.lsaSend.settlesAnew.ownLsa := by
  have hdb : s.lsaSend.settlesAnew.fab.db = dbPut s.fab.db s.nextSeq.ownLsa := by
    show s.lsaSend.fab.db = _
    rw [State.lsaSend_fab]
  have hown : s.lsaSend.settlesAnew.ownLsa = s.nextSeq.ownLsa := by
    refine State.ownLsa_congr ?_ (fun a ha => State.rd_flood _ _ _ _ ha)
    show s.lsaSend.fab.seq = _
    rw [State.lsaSend_fab]
    rfl
  rw [hdb, hown]
  exact dbOf_dbPut (l := s.nextSeq.ownLsa) h

/-- A command to discover the fabric again (R308, R310). -/
theorem gives_rediscover (s : State) (m : Master) (v : Word) (hw : s.writable m FAB_CTL) :
    Gives (.rediscover m v) s (fun t => t.fld FAB_CTL FAB_CTL_en = FAB_CTL_en.get v ∧ t.fab.settling = t.isHead ∧ t.fab.open_ = none ∧
      (dbOf s.fab.db ownId ≠ none ∨ s.fab.db.length < 64 → dbOf t.fab.db ownId = some { t.ownLsa with seq := t.fab.seq }) ∧
      t.mem = s.mem ∧ t.mram = s.mram ∧ t.otp = s.otp) := by
  have hcmd : s.regCommand m FAB_CTL (v ||| 2) = ((s.seen m).wrPlain FAB_CTL (v ||| 2)).fabRefresh.lsaSend.settlesAnew :=
    (State.regCommand_fab (off := 0) (by decide) hw _).trans (State.fabWrite_rediscover _ (testBit_or_set v 2 (by decide) rfl))
  have hen := (s.seen m).fabCtl_en v
  have hplain := State.wroteRegs_wrPlain (s.seen m) (v ||| 2) (List.mem_singleton_self FAB_CTL)
  refine ⟨_, congrArg Host.Outcome.next hcmd, ?_⟩
  generalize (s.seen m).wrPlain FAB_CTL (v ||| 2) = u at hen hplain ⊢
  have hkept := FabKept.fabRefresh (FabKept.refl atCtl u)
  obtain ⟨⟨hmem, hmram, hotp⟩, hrd⟩ := (hkept.lsaSend quiet_atCtl).facts
  have hdb := u.fabRefresh.dbOf_advertised
  generalize u.fabRefresh.lsaSend = x at hmem hmram hotp hrd hdb ⊢
  refine ⟨?_, rfl, rfl, fun hroom => ?_, ?_, ?_, ?_⟩
  · rw [← hen]
    exact congrArg FAB_CTL_en.get (hrd FAB_CTL rfl)
  · refine (hdb (hkept.room ?_)).trans rfl
    rw [State.ownRoom, hplain.2]
    show dbOf (s.seen m).fab.db ownId ≠ none ∨ (s.seen m).fab.db.length < 64
    rw [State.seen_fab]
    exact hroom
  · exact hmem.trans (by rw [hplain.2]; exact State.seen_mem s m)
  · exact hmram.trans (by rw [hplain.2]; exact State.seen_mram s m)
  · exact hotp.trans (by rw [hplain.2]; exact State.seen_otp s m)

end

/-- Settles O19: frames forwarded, held and discarded, signals in and out, and rediscovery, row by row. -/
theorem fabricForwarding : Obligations.FabricForwarding := by
  intro s calm behind
  refine ⟨fun hf => ⟨s, ?_, rfl⟩, fun f hf hk1 hk2 => ⟨_, ?_, rfl⟩, gives_forward_message s, fun f hf hk hh => ⟨_, ?_, rfl⟩, gives_forward_fabric s,
    fun x rest hx => ?_, fun hx => ⟨s, ?_, rfl⟩, fun f h u hm => ?_, fun hm => ⟨s, ?_, rfl⟩, gives_signalSend s, gives_rediscover s⟩
  · exact congrArg Host.Outcome.next (show s.fabForward = s by rw [State.fabForward, hf])
  · refine congrArg Host.Outcome.next (show s.fabForward = s.pop31 from ?_)
    rw [State.fabForward, hf]
    dsimp only
    split
    · exact absurd ‹_› hk2
    · exact absurd ‹_› hk1
    · rfl
  · refine congrArg Host.Outcome.next (show s.fabForward = s.pop31 from ?_)
    rw [State.fabForward, hf]
    dsimp only
    rw [hk, State.msgSend, hh]
  · have hexec : exec .epochHoldExpiry s = .next ({ s with fab := { s.fab with held := rest } } : State).staleFrame := by
      show Host.Outcome.next s.epochHoldExpiry = _
      rw [State.epochHoldExpiry, hx]
      rfl
    exact ⟨_, hexec, State.staleFrame_spec _⟩
  · exact congrArg Host.Outcome.next (show s.epochHoldExpiry = s by rw [State.epochHoldExpiry, hx])
  · obtain rfl := (State.mine31_some hm).2
    exact ⟨_, congrArg Host.Outcome.next (State.signalTake_of_mine31 hm), State.signalShown_spec s.pop31 (beNat_word_lt f.data) h.src rfl⟩
  · exact congrArg Host.Outcome.next (show s.signalTake = s by rw [State.signalTake, hm])

end Sys2Proof.Machine

/-! What a commitment of an assignment leaves (R313, R314, R331). -/

namespace Sys2Proof.Machine

section
variable {s t u : State} {a : Assign}

/-! The device's own place -/

/-- The entry that an assignment has for this device: position 64 stands for one that the head never heard of. -/
def State.ownEntry (s : State) (a : Assign) : Option (Nat × Nat) :=
  (a.order.find? (fun m => m.1 == ownId)).or (if s.neverNamed a then some (ownId, 64) else none)

/-- The status shows the place that an entry gives. -/
def State.placed (t : State) (mine : Option (Nat × Nat)) (epoch : Nat) : Prop :=
  (∀ i k, mine = some (i, k) → k < 32 → t.fld FAB_STATUS FAB_STATUS_addressed = 1 ∧ t.fld FAB_STATUS FAB_STATUS_addr = k ∧
    t.fld FAB_STATUS FAB_STATUS_state = 1 ∧ t.fld FAB_STATUS FAB_STATUS_epoch = epoch % 65536) ∧
  (∀ i k, mine = some (i, k) → 32 ≤ k → t.fld FAB_STATUS FAB_STATUS_addressed = 0 ∧ t.fld FAB_STATUS FAB_STATUS_state = 2) ∧
  (mine = none → t.fld FAB_STATUS FAB_STATUS_addressed = 0 ∧ t.fld FAB_STATUS FAB_STATUS_state = 3)

theorem State.placed_congr {mine : Option (Nat × Nat)} {e : Nat} (hf : ∀ f ∈ [FAB_STATUS_addressed, FAB_STATUS_addr, FAB_STATUS_state, FAB_STATUS_epoch],
    t.fld FAB_STATUS f = s.fld FAB_STATUS f) (h : s.placed mine e) : t.placed mine e := by
  simp only [List.forall_mem_cons, List.not_mem_nil, false_implies, implies_true, and_true] at hf
  obtain ⟨h1, h2, h3, h4⟩ := hf
  rw [State.placed, h1, h2, h3, h4]
  exact h

/-- The status of a device in a place that an entry gives. -/
def State.statusShown (s : State) (mine : Option (Nat × Nat)) (epoch : Nat) : State :=
  match mine with
  | some (_, k) =>
    if k < 32 then (((s.setFld FAB_STATUS FAB_STATUS_state 1).setFld FAB_STATUS FAB_STATUS_addr k).setFld FAB_STATUS FAB_STATUS_addressed 1).setFld
      FAB_STATUS FAB_STATUS_epoch epoch
    else (((s.setFld FAB_STATUS FAB_STATUS_state 2).setFld FAB_STATUS FAB_STATUS_addr 0).setFld FAB_STATUS FAB_STATUS_addressed 0).raise 0x0A07 3
  | none => ((s.setFld FAB_STATUS FAB_STATUS_state 3).setFld FAB_STATUS FAB_STATUS_addr 0).setFld FAB_STATUS FAB_STATUS_addressed 0

theorem State.statusSet_spec (s : State) (st k b : Nat) (hk : k < 32) (hst : st < 4) (hb : b < 2) :
    (((s.setFld FAB_STATUS FAB_STATUS_state st).setFld FAB_STATUS FAB_STATUS_addr k).setFld FAB_STATUS FAB_STATUS_addressed b).fld FAB_STATUS FAB_STATUS_addressed = b ∧
    (((s.setFld FAB_STATUS FAB_STATUS_state st).setFld FAB_STATUS FAB_STATUS_addr k).setFld FAB_STATUS FAB_STATUS_addressed b).fld FAB_STATUS FAB_STATUS_addr = k ∧
    (((s.setFld FAB_STATUS FAB_STATUS_state st).setFld FAB_STATUS FAB_STATUS_addr k).setFld FAB_STATUS FAB_STATUS_addressed b).fld FAB_STATUS FAB_STATUS_state = st := by
  refine ⟨?_, ?_, ?_⟩
  · rw [State.fld_setFld_same _ _ _ (by decide) (by decide)]
    exact Nat.mod_eq_of_lt hb
  · rw [State.fld_setFld_ne _ _ (by decide) (by decide) (by decide) (by decide), State.fld_setFld_same _ _ _ (by decide) (by decide)]
    exact Nat.mod_eq_of_lt hk
  · rw [State.fld_setFld_ne _ _ (by decide) (by decide) (by decide) (by decide), State.fld_setFld_ne _ _ (by decide) (by decide) (by decide) (by decide),
      State.fld_setFld_same _ _ _ (by decide) (by decide)]
    exact Nat.mod_eq_of_lt hst

/-- An address that no assignment names. -/
abbrev anyReg (_ : Nat) : Prop := False

theorem State.statusShown_spec (s : State) (mine : Option (Nat × Nat)) (e : Nat) : (s.statusShown mine e).placed mine e ∧ SwKept anyReg s (s.statusShown mine e) := by
  have hset : ∀ (t : State) f v, SwKept anyReg s t → SwKept anyReg s (t.setFld FAB_STATUS f v) := fun t f v h => h.setFld f v id
  have hs := SwKept.refl anyReg s
  cases mine with
  | none =>
    obtain ⟨h1, -, h3⟩ := s.statusSet_spec 3 0 0 (by decide) (by decide) (by decide)
    exact ⟨⟨fun _ _ h => (nomatch h), fun _ _ h => (nomatch h), fun _ => ⟨h1, h3⟩⟩, hset _ _ _ (hset _ _ _ (hset _ _ _ hs))⟩
  | some x =>
    obtain ⟨i, k⟩ := x
    rw [State.statusShown]
    by_cases hk : k < 32
    · obtain ⟨h1, h2, h3⟩ := s.statusSet_spec 1 k 1 hk (by decide) (by decide)
      rw [if_pos hk]
      have hkept := hset _ FAB_STATUS_epoch e (hset _ FAB_STATUS_addressed 1 (hset _ FAB_STATUS_addr k (hset _ FAB_STATUS_state 1 hs)))
      generalize ((s.setFld FAB_STATUS FAB_STATUS_state 1).setFld FAB_STATUS FAB_STATUS_addr k).setFld FAB_STATUS FAB_STATUS_addressed 1 = w at h1 h2 h3 hkept ⊢
      refine ⟨⟨fun j n he _ => ?_, fun j n he hn => ?_, fun h => nomatch h⟩, hkept⟩
      · obtain ⟨-, rfl⟩ := Prod.mk.inj (Option.some.inj he)
        have hne : ∀ g ∈ [FAB_STATUS_addressed, FAB_STATUS_addr, FAB_STATUS_state], (w.setFld FAB_STATUS FAB_STATUS_epoch e).fld FAB_STATUS g = w.fld FAB_STATUS g := by
          intro g hg
          simp only [List.mem_cons, List.not_mem_nil, or_false] at hg
          rcases hg with rfl | rfl | rfl <;> exact State.fld_setFld_ne _ _ (by decide) (by decide) (by decide) (by decide)
        exact ⟨(hne _ (by simp)).trans h1, (hne _ (by simp)).trans h2, (hne _ (by simp)).trans h3, State.fld_setFld_same _ _ _ (by decide) (by decide)⟩
      · obtain ⟨-, rfl⟩ := Prod.mk.inj (Option.some.inj he)
        exact absurd hk (Nat.not_lt.2 hn)
    · obtain ⟨h1, -, h3⟩ := s.statusSet_spec 2 0 0 (by decide) (by decide) (by decide)
      rw [if_neg hk]
      have hkept := hset _ FAB_STATUS_addressed 0 (hset _ FAB_STATUS_addr 0 (hset _ FAB_STATUS_state 2 hs))
      generalize ((s.setFld FAB_STATUS FAB_STATUS_state 2).setFld FAB_STATUS FAB_STATUS_addr 0).setFld FAB_STATUS FAB_STATUS_addressed 0 = w at h1 h3 hkept ⊢
      have hrd : ∀ f, (w.raise 0x0A07 3).fld FAB_STATUS f = w.fld FAB_STATUS f := fun f =>
        congrArg f.get (((SwKept.refl ctlReg w).raised (by decide) 3 noInst 0).rd FAB_STATUS ⟨by decide, by decide⟩)
      refine ⟨⟨fun j n he hn => ?_, fun j n _ _ => ⟨(hrd _).trans h1, (hrd _).trans h3⟩, fun h => nomatch h⟩,
        hkept.raise (fun _ h => h.elim) (by decide) 3 noInst 0⟩
      obtain ⟨-, rfl⟩ := Prod.mk.inj (Option.some.inj he)
      exact absurd hn hk

/-- The head that an assignment names is shown. -/
def State.headShown (s : State) (head : Option (Nat × Nat)) : State :=
  match head with
  | some m => if s.headId = m.1 then s else (s.wr64 FAB_HEAD_LO FAB_HEAD_HI m.1).setFld FAB_STATUS FAB_STATUS_is_head (boolNat (m.1 == ownId))
  | none => s

theorem State.headShown_spec (s : State) (head : Option (Nat × Nat)) {mine : Option (Nat × Nat)} {e : Nat} (h : s.placed mine e) :
    (s.headShown head).placed mine e ∧ SwKept anyReg s (s.headShown head) ∧ ∀ m, head = some m → m.1 < 2 ^ 64 → (s.headShown head).headId = m.1 := by
  cases head with
  | none => exact ⟨h, SwKept.refl anyReg s, fun _ hm => nomatch hm⟩
  | some m =>
    rw [State.headShown]
    by_cases hm : s.headId = m.1
    · rw [if_pos hm]
      exact ⟨h, SwKept.refl anyReg s, fun x hx _ => hm.trans (congrArg Prod.fst (Option.some.inj hx))⟩
    · rw [if_neg hm]
      refine ⟨State.placed_congr (fun f hf => ?_) h, ((SwKept.refl anyReg s).wr _ id |>.wr _ id).setFld _ _ id, fun x hx hlt => ?_⟩
      · have hst : (s.wr64 FAB_HEAD_LO FAB_HEAD_HI m.1).fld FAB_STATUS f = s.fld FAB_STATUS f :=
          congrArg f.get (((s.wr _ _).rd_wr_ne _ (by decide)).trans (s.rd_wr_ne _ (by decide)))
        rw [← hst]
        simp only [List.mem_cons, List.not_mem_nil, or_false] at hf
        rcases hf with rfl | rfl | rfl | rfl <;> exact State.fld_setFld_ne _ _ (by decide) (by decide) (by decide) (by decide)
      · obtain rfl := Option.some.inj hx
        have hlo : ((s.wr64 FAB_HEAD_LO FAB_HEAD_HI m.1).setFld FAB_STATUS FAB_STATUS_is_head (boolNat (m.1 == ownId))).rd FAB_HEAD_LO = BitVec.ofNat 32 m.1 :=
          ((State.rd_wr_ne _ _ (by decide)).trans (State.rd_wr_ne _ _ (by decide))).trans (State.rd_wr_same _ _ _)
        have hhi : ((s.wr64 FAB_HEAD_LO FAB_HEAD_HI m.1).setFld FAB_STATUS FAB_STATUS_is_head (boolNat (m.1 == ownId))).rd FAB_HEAD_HI = BitVec.ofNat 32 (m.1 / 2 ^ 32) :=
          (State.rd_wr_ne _ _ (by decide)).trans (State.rd_wr_same _ _ _)
        rw [State.headId, State.rd64, hlo, hhi, BitVec.toNat_ofNat, BitVec.toNat_ofNat]
        omega

end

end Sys2Proof.Machine

/-! A commitment as a whole: the bridge's state, the status and the head that it leaves (R313, R314, R331). -/

namespace Sys2Proof.Machine

section
variable {s t u : State} {a : Assign}

/-- The bridge's own state after a commitment: its members, no sequence, and no remote access under way. -/
structure FabState.committed (f g : FabState) (a : Assign) : Prop where
  members : g.members = a.order
  open_ : g.open_ = none
  reads : g.reads = []
  writes : g.writes = []
  waiting : g.waiting = []
  settling : g.settling = f.settling
  seen : FabMsg.commit a ∈ f.seen → FabMsg.commit a ∈ g.seen

/-- What a commitment leaves. -/
structure State.committed (s t : State) (a : Assign) : Prop where
  fab : s.fab.committed t.fab a
  mem : t.mem = s.mem
  place : t.placed (s.ownEntry a) a.epoch
  head : ∀ m, a.order.find? (fun m => m.2 == 0) = some m → m.1 < 2 ^ 64 → t.headId = m.1

theorem SwKept.fab_eq {P : Nat → Prop} (h : SwKept P s t) : t.fab = s.fab := h.facts.2.2.2.1

theorem SwKept.mem_eq {P : Nat → Prop} (h : SwKept P s t) : t.mem = s.mem := h.facts.1

/-- Work that leaves the control and status registers alone keeps what a commitment has shown. -/
theorem State.committed.kept (h : s.committed t a) (hu : SwKept ctlReg t u) : s.committed u a := by
  have hrd := hu.rd
  obtain ⟨hfab, hmem, hplace, hhead⟩ := h
  refine ⟨hu.fab_eq ▸ hfab, hu.mem_eq.trans hmem, State.placed_congr (fun f _ => congrArg f.get (hrd _ ⟨by decide, by decide⟩)) hplace, fun m hm hlt => ?_⟩
  rw [← hhead m hm hlt, State.headId, State.rd64, hrd _ ⟨by decide, by decide⟩, hrd _ ⟨by decide, by decide⟩]
  rfl

/-- Held frames that go on change the switch and what is held alone. -/
theorem State.committed.held (h : s.committed t a) (rest : List (Nat × Frame)) (w : SwState) : s.committed { t.setFab { t.fab with held := rest } with sw := w } a := by
  obtain ⟨⟨h1, h2, h3, h4, h5, h6, h7⟩, hmem, hplace, hhead⟩ := h
  exact ⟨⟨h1, h2, h3, h4, h5, h6, h7⟩, hmem, hplace, hhead⟩

theorem SwKept.apertureFail (h : SwKept anyReg s t) : SwKept anyReg s t.apertureFail := by
  have hi := t.irq_kept (v := 4) (by decide)
  exact (h.trans ⟨hi.eq, fun _ h => h.elim⟩).raiseLim (fun _ h => h.elim) (by decide) 2 noInst 0

/-- A commitment (R313, R314). The steps of its definition are taken one by one; after the first, and where its registers stand, the rest is closed over them,
so that none is evaluated for the next. -/
theorem State.commitTake_spec (s : State) (a : Assign) : s.committed (s.commitTake a) a := by
  suffices h : ∀ f, f = State.commitTake → s.committed (f s a) a from h _ rfl
  intro f hf
  delta State.commitTake at hf
  subst hf
  beta_reduce
  extract_lets +onlyGivenNames mine old aborts s1
  have hs1 : SwKept ctlReg s s1 := SwKept.foldl (fun _ k _ h => (h.wrAbove _ (by rw [FAB_MEMBER_LO]; omega)).wrAbove _ (by rw [FAB_MEMBER_HI]; omega)) (SwKept.refl ctlReg s)
  have hmine : mine = s.ownEntry a := rfl
  have hfab1 := hs1.fab_eq
  have hmem1 := hs1.mem_eq
  clear hs1
  clear_value mine old aborts s1
  revert mine old aborts s1
  refine id ?_
  intro mine old aborts s1 hmine hfab1 hmem1
  generalize h2 : (s1.sawEpoch a.epoch).setFab _ = s2
  have hfab2 : s.fab.committed s2.fab a := by
    rw [← h2]
    refine ⟨rfl, rfl, rfl, rfl, rfl, (show _ = s1.fab.settling from rfl).trans (congrArg FabState.settling hfab1), fun hc => ?_⟩
    exact List.mem_filter.2 ⟨hfab1 ▸ hc, beq_self_eq_true a⟩
  have hmem2 : s2.mem = s.mem := by
    rw [← h2]
    exact hmem1
  extract_lets +onlyGivenNames s2 s2' s3 s4
  have h3 : SwKept anyReg s2 s3 := by
    have h2' : SwKept anyReg s2 s2' := SwKept.ite (fun _ => (SwKept.refl anyReg s2).apertureFail) (fun _ => SwKept.refl anyReg s2)
    exact SwKept.ite (fun _ => h2') (fun _ => (h2'.wr _ id).raise (fun _ h => h.elim) (by decide) 1 noInst 0)
  have h4 : s4 = s3.statusShown mine a.epoch := by
    rcases mine with _ | ⟨i, k⟩
    · rfl
    · rfl
  clear_value s4
  extract_lets +onlyGivenNames s4' s5 s6
  have h6 : s.committed s6 a := by
    obtain ⟨hplace, hkept⟩ := s3.statusShown_spec mine a.epoch
    rw [← h4, hmine] at hplace
    have hkept4 : SwKept anyReg s2 s4 := h3.trans (h4 ▸ hkept)
    obtain ⟨hplace', hkept', hhead⟩ := s4.headShown_spec (a.order.find? (fun m => m.2 == 0)) hplace
    have h4' : s4' = s4.headShown (a.order.find? (fun m => m.2 == 0)) := by
      show _ = State.headShown _ _
      unfold State.headShown
      rfl
    rw [← h4'] at hplace' hkept' hhead
    have hall := hkept4.trans hkept'
    have hcom : s.committed s4' a := ⟨hall.fab_eq ▸ hfab2, hall.mem_eq.trans hmem2, hplace', hhead⟩
    exact hcom.kept ((((((SwKept.refl ctlReg s4').mapAddress).relink).computeRoutes true).raised (by decide) 1 noInst a.epoch).irq (by decide))
  clear_value s6
  revert s6
  refine id ?_
  intro s6 h6
  extract_lets joined left t t1 s7
  have h7 : s.committed s7 a := by
    refine h6.kept (SwKept.ite (fun _ => ?_) (fun _ => SwKept.refl ctlReg s6))
    exact SwKept.foldl (fun _ m _ h => h.raised (by decide) 3 noInst _) (SwKept.foldl (fun _ m _ h => h.raised (by decide) 2 noInst _)
      (SwKept.foldl (fun _ m _ h => h.raised (by decide) 1 noInst _) (SwKept.refl ctlReg s6)))
  clear_value s7
  generalize List.partition _ s7.fab.held = x
  obtain ⟨now, rest⟩ := x
  exact h7.held rest _

end

end Sys2Proof.Machine

/-! Addressing: settle time, assignments, acknowledgements and commitments, row by row (R311, R313, R314, R331). -/

namespace Sys2Proof.Machine

section
variable {s t u : State} {a : Assign}

/-! What the status says of a place -/

theorem State.addressed_of_fld (h : t.fld FAB_STATUS FAB_STATUS_addressed = 1) : t.addressed = true := by
  rw [State.addressed, State.fldB, h]
  rfl

theorem State.not_addressed_of_fld (h : t.fld FAB_STATUS FAB_STATUS_addressed = 0) : t.addressed = false := by
  rw [State.addressed, State.fldB, h]
  rfl

theorem State.placed.inside {i k e : Nat} (h : t.placed (some (i, k)) e) (hk : k < 32) :
    t.addressed = true ∧ t.fabAddr = k ∧ t.fabState = 1 ∧ t.fabEpoch = e % 65536 := by
  obtain ⟨h1, h2, h3, h4⟩ := h.1 i k rfl hk
  have hadd := State.addressed_of_fld h1
  exact ⟨hadd, by rw [State.fabAddr, if_pos hadd, h2], h3, h4⟩

theorem State.placed.outside {i k e : Nat} (h : t.placed (some (i, k)) e) (hk : 32 ≤ k) : t.addressed = false ∧ t.fabState = 2 := by
  obtain ⟨h1, h2⟩ := h.2.1 i k rfl hk
  exact ⟨State.not_addressed_of_fld h1, h2⟩

theorem State.placed.nowhere {e : Nat} (h : t.placed none e) : t.addressed = false ∧ t.fabState = 3 := by
  obtain ⟨h1, h2⟩ := h.2.2 rfl
  exact ⟨State.not_addressed_of_fld h1, h2⟩

/-! Messages passed on -/

/-- A message is noted and passed on. -/
def State.told (s : State) (m : FabMsg) (type : Nat) (but : Option Nat) : State := (s.noteSeen m).flood m type but

theorem State.told_facts (s : State) (m : FabMsg) (type : Nat) (but : Option Nat) :
    (s.told m type but).fab = { s.fab with seen := m :: s.fab.seen } ∧ (s.told m type but).mem = s.mem := by
  obtain ⟨hfab, hmem, -⟩ := (s.noteSeen m).flood_facts m type but
  exact ⟨hfab, hmem⟩

/-- The commitment of those of an assignment that acknowledged it. -/
def onlyAcked (a : Assign) (acks : List Nat) : Assign := { a with order := a.order.filter (fun m => acks.contains m.1) }

theorem onlyAcked_of_all {acks : List Nat} (h : a.order.all (fun m => acks.contains m.1) = true) : onlyAcked a acks = a := by
  rw [onlyAcked, List.filter_eq_self.2 (List.all_eq_true.1 h)]

/-- A commitment that the head sends. -/
theorem State.commitSend_spec (s : State) (a : Assign) (acks : List Nat) :
    (s.told (.commit (onlyAcked a acks)) 5 none).committed (s.commitSend a acks) (onlyAcked a acks) ∧ (s.commitSend a acks).mem = s.mem ∧
      (s.commitSend a acks).fab.settling = s.fab.settling := by
  have h := State.commitTake_spec (s.told (.commit (onlyAcked a acks)) 5 none) (onlyAcked a acks)
  obtain ⟨hfab, hmem⟩ := s.told_facts (.commit (onlyAcked a acks)) 5 none
  refine ⟨h, h.mem.trans hmem, h.fab.settling.trans ?_⟩
  rw [hfab]

/-! The settle time ends -/

/-- The fabric is as it was addressed (R311). -/
abbrev State.asAddressed (s : State) : Prop :=
  s.addressed = true ∧ s.fabAddr = 0 ∧ (positions s.fab.db ownId).length = s.fab.members.length ∧
    (positions s.fab.db ownId).all (fun id => s.fab.members.any (fun m => m.1 == id)) = true

/-- The state without the settle time. -/
def State.timeEnded (s : State) : State := { s with fab := { s.fab with settling := false } }

/-- The assignment that a head opens. -/
def State.newAssign (s : State) : Assign := { epoch := s.nextEpoch, order := (positions s.fab.db ownId).zipIdx }

/-- The state with an assignment sent. -/
def State.opened (s : State) : State := { s.timeEnded with fab := { s.timeEnded.fab with open_ := some (s.newAssign, 1, [ownId]) } }

theorem State.settleEnd_eq (h : s.fab.settling = true) : s.settleEnd = if s.isHead = true then
    if s.asAddressed then s.timeEnded
    else if positions s.fab.db ownId = [ownId] then (s.opened.flood (.assign s.newAssign 1) 3 none).commitSend s.newAssign [ownId]
    else s.opened.flood (.assign s.newAssign 1) 3 none
    else s.timeEnded := by
  have hsame : (s.addressed && s.fabAddr == 0 && (positions s.fab.db ownId).length == s.fab.members.length &&
      (positions s.fab.db ownId).all (fun id => s.fab.members.any (fun m => m.1 == id))) = true ↔ s.asAddressed := by
    simp only [Bool.and_eq_true, beq_iff_eq, State.asAddressed, and_assoc]
  rw [State.settleEnd, if_pos h]
  show (if s.isHead = true then (if (s.addressed && s.fabAddr == 0 && (positions s.fab.db ownId).length == s.fab.members.length &&
    (positions s.fab.db ownId).all (fun id => s.fab.members.any (fun m => m.1 == id))) = true then s.timeEnded else _) else s.timeEnded) = _
  simp only [hsame]
  rfl

theorem gives_settleEnd (s : State) :
    let order := positions s.fab.db ownId
    (s.fab.settling = false → Gives .settleEnd s (fun t => t = s)) ∧
    (s.fab.settling = true → s.isHead = false ∨ s.asAddressed → Gives .settleEnd s (fun t => t = s.timeEnded)) ∧
    (s.fab.settling = true → s.isHead = true → ¬ s.asAddressed → order = [ownId] →
      Gives .settleEnd s (fun t => t.fab.settling = false ∧ t.fab.open_ = none ∧ t.addressed = true ∧ t.fabAddr = 0 ∧ t.fabState = 1 ∧
        t.fabEpoch = s.nextEpoch ∧ t.fab.members = [(ownId, 0)] ∧ t.mem = s.mem)) ∧
    (s.fab.settling = true → s.isHead = true → ¬ s.asAddressed → order ≠ [ownId] →
      Gives .settleEnd s (fun t => t.fab = { s.fab with settling := false, open_ := some ({ epoch := s.nextEpoch, order := order.zipIdx }, 1, [ownId]) } ∧
        t.addressed = s.addressed ∧ t.mem = s.mem)) := by
  intro order
  have hexec : exec .settleEnd s = .next s.settleEnd := rfl
  refine ⟨fun h => ⟨s, ?_, rfl⟩, fun h hq => ⟨_, hexec, ?_⟩, fun h hh hn ho => ⟨_, hexec, ?_⟩, fun h hh hn ho => ⟨_, hexec, ?_⟩⟩
  · exact congrArg Host.Outcome.next (by rw [State.settleEnd, if_neg (by rw [h]; exact Bool.false_ne_true)])
  · rw [State.settleEnd_eq h]
    by_cases hh : s.isHead = true
    · rw [if_pos hh, if_pos (hq.resolve_left (by rw [hh]; exact Bool.noConfusion))]
    · rw [if_neg hh]
  · rw [State.settleEnd_eq h, if_pos hh, if_neg hn, if_pos ho]
    have hacked : onlyAcked s.newAssign [ownId] = s.newAssign := onlyAcked_of_all (by
      rw [State.newAssign]
      show ((positions s.fab.db ownId).zipIdx).all _ = true
      rw [show positions s.fab.db ownId = [ownId] from ho]
      simp)
    have horder : s.newAssign.order = [(ownId, 0)] := congrArg List.zipIdx ho
    obtain ⟨hcom, hmem, hset⟩ := (s.opened.flood (.assign s.newAssign 1) 3 none).commitSend_spec s.newAssign [ownId]
    rw [hacked] at hcom
    obtain ⟨hfab, hmem', -⟩ := s.opened.flood_facts (.assign s.newAssign 1) 3 none
    have hentry : ∀ v : State, v.ownEntry s.newAssign = some (ownId, 0) := fun v => by
      have hfind : s.newAssign.order.find? (fun m => m.1 == ownId) = some (ownId, 0) := by
        rw [horder]
        exact List.find?_cons_of_pos (beq_self_eq_true _)
      rw [State.ownEntry, hfind]
      rfl
    have hplace := hcom.place
    rw [hentry] at hplace
    obtain ⟨h1, h2, h3, h4⟩ := hplace.inside (by decide)
    refine ⟨hset.trans (by rw [hfab]; rfl), hcom.fab.open_, h1, h2, h3, h4.trans (Nat.mod_mod _ _), hcom.fab.members.trans horder, hmem.trans hmem'⟩
  · rw [State.settleEnd_eq h, if_pos hh, if_neg hn, if_neg ho]
    obtain ⟨hfab, hmem, -⟩ := s.opened.flood_facts (.assign s.newAssign 1) 3 none
    refine ⟨hfab, ?_, hmem⟩
    rw [State.addressed, State.fldB, State.fld_flood _ _ _ _ _ ⟨by decide, by decide, by decide⟩]
    rfl

/-! Assignments and acknowledgements -/

theorem State.take31_some {type : Nat} {f : Frame} {h : FabHdr} (hm : s.take31 type = some (f, h, u)) : u = s.pop31 := by
  unfold State.take31 at hm
  split at hm
  · split at hm
    · split at hm
      · exact (Prod.mk.inj (Prod.mk.inj (Option.some.inj hm)).2).2.symm
      · cases hm
    · cases hm
  · cases hm

theorem State.seenBefore_iff (s : State) (m : FabMsg) : s.seenBefore m = true ↔ m ∈ s.fab.seen := List.contains_iff_mem

theorem gives_assignRepeat (s : State) (a : Assign) (n : Nat) (acks : List Nat) (ho : s.fab.open_ = some (a, n, acks)) :
    (n < 4 → Gives .assignRepeat s (fun t => t.fab = { s.fab with open_ := some (a, n + 1, acks) } ∧ t.mem = s.mem)) ∧
    (4 ≤ n → Gives .assignRepeat s (fun t => t.fab.open_ = none ∧ t.fab.members = a.order.filter (fun m => acks.contains m.1) ∧
      t.fab.reads = [] ∧ t.fab.writes = [] ∧ t.mem = s.mem)) := by
  have hexec : exec .assignRepeat s = .next (if 4 ≤ n then s.commitSend a acks
      else ({ s with fab := { s.fab with open_ := some (a, n + 1, acks) } } : State).flood (.assign a (n + 1)) 3 none) := by
    show Host.Outcome.next s.assignRepeat = _
    rw [State.assignRepeat, ho]
    rfl
  refine ⟨fun hn => ⟨_, hexec, ?_⟩, fun hn => ⟨_, hexec, ?_⟩⟩
  · rw [if_neg (Nat.not_le.2 hn)]
    obtain ⟨hfab, hmem, -⟩ := ({ s with fab := { s.fab with open_ := some (a, n + 1, acks) } } : State).flood_facts (.assign a (n + 1)) 3 none
    exact ⟨hfab, hmem⟩
  · rw [if_pos hn]
    obtain ⟨hcom, hmem, -⟩ := s.commitSend_spec a acks
    exact ⟨hcom.fab.open_, hcom.fab.members, hcom.fab.reads, hcom.fab.writes, hmem⟩

section
variable {id epoch rep : Nat} {f : Frame} {h : FabHdr} (hm : s.take31 4 = some (f, h, u))
include hm

theorem State.ackTake_seen (hseen : FabMsg.ack id epoch rep ∈ s.fab.seen) : s.ackTake id epoch rep = s.pop31 := by
  obtain rfl := State.take31_some hm
  rw [State.ackTake, hm]
  exact if_pos ((State.seenBefore_iff _ _).2 hseen)

theorem State.ackTake_closed (hseen : FabMsg.ack id epoch rep ∉ s.fab.seen) (ho : s.fab.open_ = none) :
    s.ackTake id epoch rep = s.pop31.told (.ack id epoch rep) 4 (some f.input) := by
  obtain rfl := State.take31_some hm
  have hopen : (s.pop31.told (.ack id epoch rep) 4 (some f.input)).fab.open_ = none := by
    rw [(State.told_facts _ _ _ _).1]
    exact ho
  rw [State.ackTake, hm]
  refine (if_neg (fun hb => hseen ((State.seenBefore_iff _ _).1 hb))).trans ?_
  unfold State.told at hopen ⊢
  dsimp only
  rw [hopen]

/-- The acknowledgements once one more has come. -/
def acksWith (acks : List Nat) (id : Nat) : List Nat := if acks.contains id then acks else id :: acks

theorem State.ackTake_open {a : Assign} {n : Nat} {acks : List Nat} (hseen : FabMsg.ack id epoch rep ∉ s.fab.seen) (ho : s.fab.open_ = some (a, n, acks))
    (ht : t = s.pop31.told (.ack id epoch rep) 4 (some f.input)) : s.ackTake id epoch rep =
    if a.epoch = epoch ∧ a.order.any (fun m => m.1 == id) = true then
      if a.order.all (fun m => (acksWith acks id).contains m.1) = true then t.commitSend a (acksWith acks id)
      else t.setFab { t.fab with open_ := some (a, n, acksWith acks id) }
    else t := by
  obtain rfl := State.take31_some hm
  have hopen : (s.pop31.told (.ack id epoch rep) 4 (some f.input)).fab.open_ = some (a, n, acks) := by
    rw [(State.told_facts _ _ _ _).1]
    exact ho
  rw [State.ackTake, hm]
  refine (if_neg (fun hb => hseen ((State.seenBefore_iff _ _).1 hb))).trans ?_
  rw [ht]
  unfold State.told at hopen ⊢
  dsimp only
  rw [hopen]
  rfl

/-- An acknowledgement (R313). -/
theorem gives_ack : 
    (FabMsg.ack id epoch rep ∈ s.fab.seen → Gives (.ack id epoch rep) s (fun t => t = u)) ∧
    (FabMsg.ack id epoch rep ∉ s.fab.seen → s.fab.open_ = none →
      Gives (.ack id epoch rep) s (fun t => t.fab = { s.fab with seen := FabMsg.ack id epoch rep :: s.fab.seen } ∧ t.mem = s.mem)) ∧
    (∀ (a : Assign) (n : Nat) (acks : List Nat), FabMsg.ack id epoch rep ∉ s.fab.seen → s.fab.open_ = some (a, n, acks) →
      let acks1 := if acks.contains id then acks else id :: acks
      let named := a.epoch = epoch ∧ a.order.any (fun m => m.1 == id) = true
      (¬ named → Gives (.ack id epoch rep) s (fun t => t.fab = { s.fab with seen := FabMsg.ack id epoch rep :: s.fab.seen } ∧ t.mem = s.mem)) ∧
      (named → a.order.all (fun m => acks1.contains m.1) = false → Gives (.ack id epoch rep) s (fun t =>
        t.fab = { s.fab with seen := FabMsg.ack id epoch rep :: s.fab.seen, open_ := some (a, n, acks1) } ∧ t.mem = s.mem)) ∧
      (named → a.order.all (fun m => acks1.contains m.1) = true → Gives (.ack id epoch rep) s (fun t =>
        t.fab.open_ = none ∧ t.fab.members = a.order ∧ t.mem = s.mem))) := by
  have hexec : exec (.ack id epoch rep) s = .next (s.ackTake id epoch rep) := rfl
  obtain ⟨hfab, hmem⟩ := s.pop31.told_facts (.ack id epoch rep) 4 (some f.input)
  have hu := State.take31_some hm
  refine ⟨fun hs => ⟨_, hexec, ?_⟩, fun hs ho => ⟨_, hexec, ?_⟩, fun a n acks hs ho => ⟨fun hn => ⟨_, hexec, ?_⟩, fun hn hall => ⟨_, hexec, ?_⟩,
    fun hn hall => ⟨_, hexec, ?_⟩⟩⟩
  · rw [State.ackTake_seen hm hs, hu]
  · rw [State.ackTake_closed hm hs ho]
    exact ⟨hfab, hmem⟩
  · rw [State.ackTake_open hm hs ho rfl, if_neg hn]
    exact ⟨hfab, hmem⟩
  · rw [State.ackTake_open hm hs ho rfl, if_pos hn, if_neg (c := a.order.all (fun m => (acksWith acks id).contains m.1) = true) (Bool.not_eq_true _ ▸ hall)]
    refine ⟨?_, hmem⟩
    show ({ (s.pop31.told (.ack id epoch rep) 4 (some f.input)).fab with open_ := some (a, n, acksWith acks id) } : FabState) = _
    rw [hfab]
    rfl
  · rw [State.ackTake_open hm hs ho rfl, if_pos hn, if_pos (c := a.order.all (fun m => (acksWith acks id).contains m.1) = true) hall]
    obtain ⟨hcom, hmem', -⟩ := (s.pop31.told (.ack id epoch rep) 4 (some f.input)).commitSend_spec a (acksWith acks id)
    have hacked : onlyAcked a (acksWith acks id) = a := onlyAcked_of_all hall
    rw [hacked] at hcom
    exact ⟨hcom.fab.open_, hcom.fab.members, hmem'.trans hmem⟩

end

/-- An assignment (R313). -/
theorem gives_assign {rep : Nat} {f : Frame} {h : FabHdr} (hm : s.take31 3 = some (f, h, u)) :
    (FabMsg.assign a rep ∈ s.fab.seen → Gives (.assign a rep) s (fun t => t = u)) ∧
    (FabMsg.assign a rep ∉ s.fab.seen → a.order.any (fun m => m.1 == ownId) = true → Gives (.assign a rep) s (fun t =>
      t.fab = { s.fab with seen := FabMsg.ack ownId a.epoch rep :: FabMsg.assign a rep :: s.fab.seen } ∧ t.mem = s.mem)) ∧
    (FabMsg.assign a rep ∉ s.fab.seen → a.order.any (fun m => m.1 == ownId) = false → Gives (.assign a rep) s (fun t =>
      t.fab = { s.fab with seen := FabMsg.assign a rep :: s.fab.seen } ∧ t.mem = s.mem)) := by
  obtain rfl := State.take31_some hm
  have hexec : exec (.assign a rep) s = .next (if FabMsg.assign a rep ∈ s.fab.seen then s.pop31
      else if a.order.any (fun m => m.1 == ownId) = true then
        (s.pop31.told (.assign a rep) 3 (some f.input)).told (.ack ownId a.epoch rep) 4 none
      else s.pop31.told (.assign a rep) 3 (some f.input)) := by
    show Host.Outcome.next (s.assignTake a rep) = _
    rw [State.assignTake, hm]
    by_cases hs : FabMsg.assign a rep ∈ s.fab.seen
    · rw [if_pos hs]
      exact congrArg _ (if_pos ((State.seenBefore_iff _ _).2 hs))
    · rw [if_neg hs]
      exact congrArg _ (if_neg (fun hb => hs ((State.seenBefore_iff _ _).1 hb)))
  obtain ⟨hfab, hmem⟩ := s.pop31.told_facts (.assign a rep) 3 (some f.input)
  refine ⟨fun hs => ⟨_, hexec, if_pos hs⟩, fun hs ho => ⟨_, hexec, ?_⟩, fun hs ho => ⟨_, hexec, ?_⟩⟩
  · rw [if_neg hs, if_pos ho]
    obtain ⟨hfab', hmem'⟩ := (s.pop31.told (.assign a rep) 3 (some f.input)).told_facts (.ack ownId a.epoch rep) 4 none
    refine ⟨hfab'.trans ?_, hmem'.trans hmem⟩
    rw [hfab]
    rfl
  · rw [if_neg hs, if_neg (by rw [ho]; exact Bool.false_ne_true)]
    exact ⟨hfab, hmem⟩

/-! Commitments -/

/-- The head cannot have heard of this device (R311, R313). -/
abbrev State.unheard (s : State) (a : Assign) : Prop := s.fab.db.length = 64 ∧ ∀ rep : Nat, FabMsg.ack ownId a.epoch rep ∉ s.fab.seen

theorem State.neverNamed_iff (s : State) (a : Assign) : s.neverNamed a = true ↔ s.unheard a := by
  unfold State.neverNamed
  rw [Bool.and_eq_true, beq_iff_eq, Bool.not_eq_true', List.any_eq_false]
  refine and_congr_right fun _ => ⟨fun h rep hm => ?_, fun h m hm => ?_⟩
  · exact h _ hm (by simp)
  · cases m with
    | ack id e rep =>
      intro hb
      simp only [Bool.and_eq_true, beq_iff_eq] at hb
      obtain ⟨rfl, rfl⟩ := hb
      exact h rep hm
    | lsa l => exact Bool.false_ne_true
    | assign b r => exact Bool.false_ne_true
    | commit b => exact Bool.false_ne_true

/-- A commitment passed on is not an acknowledgement. -/
theorem State.neverNamed_told (s : State) (a b : Assign) (type : Nat) (but : Option Nat) : (s.told (.commit b) type but).neverNamed a = true ↔ s.unheard a := by
  rw [State.neverNamed_iff, State.unheard, (s.told_facts _ _ _).1]
  refine and_congr_right fun _ => forall_congr' fun rep => not_congr ?_
  rw [List.mem_cons]
  exact or_iff_right (by simp)

/-- A commitment (R313, R314, R331). -/
theorem gives_commit {f : Frame} {h : FabHdr} (hm : s.take31 5 = some (f, h, u)) :
    let mine := a.order.find? (fun m => m.1 == ownId)
    let past := FabMsg.commit a ∈ s.fab.seen ∨ s.oldCommit a = true
    (past → Gives (.commit a) s (fun t => t = u)) ∧
    (¬ past → Gives (.commit a) s (fun t => t.fab.members = a.order ∧ t.fab.open_ = none ∧ t.fab.reads = [] ∧
      t.fab.writes = [] ∧ t.fab.waiting = [] ∧ FabMsg.commit a ∈ t.fab.seen ∧ t.mem = s.mem ∧
      (∀ m : Nat × Nat, a.order.find? (fun m => m.2 == 0) = some m → m.1 < 2 ^ 64 → t.headId = m.1) ∧
      (∀ k : Nat, mine = some (ownId, k) → k < 32 → t.addressed = true ∧ t.fabAddr = k ∧ t.fabState = 1 ∧ t.fabEpoch = a.epoch % 65536) ∧
      (∀ k : Nat, mine = some (ownId, k) → 32 ≤ k → t.addressed = false ∧ t.fabState = 2) ∧
      (mine = none → s.unheard a → t.addressed = false ∧ t.fabState = 2) ∧
      (mine = none → ¬ s.unheard a → t.addressed = false ∧ t.fabState = 3))) := by
  obtain rfl := State.take31_some hm
  intro mine past
  have hexec : exec (.commit a) s = .next (if past then s.pop31 else (s.pop31.told (.commit a) 5 (some f.input)).commitTake a) := by
    have hpast : (s.pop31.seenBefore (.commit a) = true ∨ s.pop31.oldCommit a = true) ↔ past := or_congr (State.seenBefore_iff _ _) Iff.rfl
    show Host.Outcome.next (s.commitRecv a) = _
    rw [State.commitRecv, hm]
    by_cases hp : past
    · rw [if_pos hp]
      exact congrArg _ (if_pos (hpast.2 hp))
    · rw [if_neg hp]
      exact congrArg _ (if_neg (fun hb => hp (hpast.1 hb)))
  refine ⟨fun hp => ⟨_, hexec, if_pos hp⟩, fun hp => ⟨_, hexec, ?_⟩⟩
  rw [if_neg hp]
  obtain ⟨hfab, hmem⟩ := s.pop31.told_facts (.commit a) 5 (some f.input)
  have hnever := s.pop31.neverNamed_told a a 5 (some f.input)
  have hseen : FabMsg.commit a ∈ (s.pop31.told (.commit a) 5 (some f.input)).fab.seen := by
    rw [hfab]
    exact List.mem_cons_self
  generalize s.pop31.told (.commit a) 5 (some f.input) = v at hmem hnever hseen ⊢
  obtain ⟨hbridge, hvmem, hplace, hhead⟩ := v.commitTake_spec a
  have hentry : v.ownEntry a = mine.or (if v.neverNamed a then some (ownId, 64) else none) := rfl
  have hmine : ∀ x, mine = some x → v.ownEntry a = some x := fun x hx => by rw [hentry, hx, Option.some_or]
  refine ⟨hbridge.members, hbridge.open_, hbridge.reads, hbridge.writes, hbridge.waiting, hbridge.seen hseen, hvmem.trans hmem, hhead,
    fun k hk hlt => ?_, fun k hk hle => ?_, fun hn hf => ?_, fun hn hf => ?_⟩
  · rw [hmine _ hk] at hplace
    exact hplace.inside hlt
  · rw [hmine _ hk] at hplace
    exact hplace.outside hle
  · rw [hentry, hn, Option.none_or, if_pos (hnever.2 hf)] at hplace
    exact hplace.outside (by decide)
  · rw [hentry, hn, Option.none_or, if_neg (fun hb => hf (hnever.1 hb))] at hplace
    exact hplace.nowhere

end

/-- Settles O18: settle time, repeats, acknowledgements, assignments and commitments, row by row. -/
theorem fabricAddressing : Obligations.FabricAddressing := by
  intro s order same quiet
  obtain ⟨h1, h2, h3, h4⟩ := gives_settleEnd s
  refine ⟨h1, h2, h3, h4, fun ho => ⟨s, ?_, rfl⟩, gives_assignRepeat s, fun id epoch rep f h u hm => gives_ack hm, fun id epoch rep hm => ⟨s, ?_, rfl⟩,
    fun a rep f h u hm => gives_assign hm, fun a rep hm => ⟨s, ?_, rfl⟩, fun a f h u hm => gives_commit hm, fun a hm => ⟨s, ?_, rfl⟩⟩
  · exact congrArg Host.Outcome.next (show s.assignRepeat = s by rw [State.assignRepeat, ho])
  · exact congrArg Host.Outcome.next (show s.ackTake id epoch rep = s by rw [State.ackTake, hm])
  · exact congrArg Host.Outcome.next (show s.assignTake a rep = s by rw [State.assignTake, hm])
  · exact congrArg Host.Outcome.next (show s.commitRecv a = s by rw [State.commitRecv, hm])

end Sys2Proof.Machine

/-! What the loss of a link and the frames of the stream guard leave alone (R106, R153, R161). -/

namespace Sys2Proof.Machine

section
variable {P : Nat → Prop} {s t u : State}

/-- From `s` on, the registers at the addresses of `P`, the MRAM and the one-time memory are as before. -/
structure RegsKept (P : Nat → Prop) (s t : State) : Prop where
  rd : ∀ a, P a → t.rd a = s.rd a
  mram : t.mram = s.mram
  otp : t.otp = s.otp

theorem SwKept.regsKept (h : SwKept P s t) : RegsKept P s t := by
  obtain ⟨-, hmram, hotp, -⟩ := h.facts
  exact ⟨h.rd, hmram, hotp⟩

theorem RegsKept.refl (P : Nat → Prop) (s : State) : RegsKept P s s := ⟨fun _ _ => rfl, rfl, rfl⟩

theorem RegsKept.trans (h1 : RegsKept P s t) (h2 : RegsKept P t u) : RegsKept P s u :=
  ⟨fun a ha => (h2.rd a ha).trans (h1.rd a ha), h2.mram.trans h1.mram, h2.otp.trans h1.otp⟩

theorem RegsKept.sw (h : RegsKept P s t) (hu : SwKept P t u) : RegsKept P s u := h.trans hu.regsKept

theorem RegsKept.ite {p : Prop} [Decidable p] {v : State} (h1 : p → RegsKept P s u) (h2 : ¬ p → RegsKept P s v) : RegsKept P s (if p then u else v) := by
  split
  · exact h1 ‹_›
  · exact h2 ‹_›

theorem RegsKept.foldl {α : Type} {f : State → α → State} (hf : ∀ t x, RegsKept P t (f t x)) (l : List α) (s : State) : RegsKept P s (l.foldl f s) := by
  induction l generalizing s with
  | nil => exact RegsKept.refl P s
  | cons x l ih => exact (hf s x).trans (ih _)

/-! Cut frames and charges -/

theorem SwKept.sendCut (h : SwKept P s t) (o : Nat) (bytes : List Byte) : SwKept P s (t.sendCut o bytes) := by
  unfold State.sendCut
  exact SwKept.ite (fun _ => h.freeIx.setSw _) (fun _ => h.out _)

theorem SwKept.chargeEnd (h : SwKept P s t) (x : RxFrame) (n : Nat) : SwKept P s (t.chargeEnd x n) := by
  unfold State.chargeEnd
  cases x.policer with
  | none => exact h
  | some q => exact h.policeEnd q n

/-! Bytes in memory, and what a frame teaches -/

theorem RegsKept.mwbytes (a : Nat) (l : List Byte) (t : State) : RegsKept P t (t.mwbytes a l) := by
  induction l generalizing t a with
  | nil => exact RegsKept.refl P t
  | cons x l ih => exact RegsKept.trans (t := t.mwb a x) ⟨fun _ _ => rfl, rfl, rfl⟩ (ih (a + 1) (t.mwb a x))

variable (hP : ∀ a, P a → quiet a)
include hP

theorem SwKept.tblCount (h : SwKept P s t) {k : Nat} (hk : k < 32) : SwKept P s (t.tblCount k) :=
  h.bump _ (not_quiet_csg hP (by rw [TBL_CNT]; omega) (by rw [TBL_CNT]; omega))

theorem SwKept.tblStatus (h : SwKept P s t) (f : Fld) (v : Nat) : SwKept P s (t.setFld TBL_STATUS f v) :=
  h.setFld f v (not_quiet_csg hP (by decide) (by decide))

theorem RegsKept.learnFrom (port mac vid : Nat) (t : State) : RegsKept P t (t.learnFrom port mac vid) := by
  have h := SwKept.refl P t
  unfold State.learnFrom
  refine RegsKept.ite (fun _ => RegsKept.refl P t) (fun _ => ?_)
  cases t.macFind mac vid with
  | some e =>
    refine RegsKept.ite (fun _ => ?_) (fun _ => RegsKept.ite (fun _ => ?_) (fun _ => ?_))
    · refine RegsKept.ite (fun _ => RegsKept.ite (fun _ => RegsKept.refl P t) (fun _ => RegsKept.mwbytes _ _ t)) (fun _ => ?_)
      exact RegsKept.ite (fun _ => RegsKept.ite (fun _ => RegsKept.refl P t) (fun _ => RegsKept.mwbytes _ _ t)) (fun _ => RegsKept.refl P t)
    · exact (RegsKept.mwbytes _ _ t).sw ((SwKept.refl P _).tblCount hP (by decide))
    · exact (((h.tblCount hP (by decide)).tblStatus hP _ _).raise hP (by decide) _ _ _).regsKept
  | none =>
    refine RegsKept.ite (fun _ => RegsKept.refl P t) (fun _ => RegsKept.ite (fun _ => ⟨fun _ _ => rfl, rfl, rfl⟩) (fun _ => ?_))
    exact (((h.tblCount hP (by decide)).tblStatus hP _ _).raiseLim hP (by decide) _ _ _).regsKept

/-! Status messages of the guard -/

theorem RegsKept.sendInternal {f : Frame} (hi : f.input < 32) (dest : Nat) (t : State) : RegsKept P t (t.sendInternal f dest) := by
  simp only [State.sendInternal, State.sendTo]
  have h1 := (SwKept.refl P t).police (t.fld (TMG_PORT_CLS f.input) TMG_PORT_CLS_pol)
  generalize t.police (t.fld (TMG_PORT_CLS f.input) TMG_PORT_CLS_pol) = x at h1 ⊢
  obtain ⟨u, ok⟩ := x
  have h2 : RegsKept P t (if f.kind = .eth then u.learn f.input f.data else u) :=
    RegsKept.ite (fun _ => h1.regsKept.trans (RegsKept.learnFrom hP _ _ _ u)) (fun _ => h1.regsKept)
  have h3 := h2.sw (SwKept.admitWhole hP (SwKept.refl P _) (f := { f with handle := none }) hi dest)
  exact RegsKept.ite (fun _ => RegsKept.ite (fun _ => h3.sw ((SwKept.refl P _).policeEnd _ _)) (fun _ => h3))
    (fun _ => (h1.undelivered hP f 28).regsKept)

theorem RegsKept.sendOwed (t : State) : RegsKept P t t.sendOwed :=
  ((SwKept.refl P t).setOwed []).regsKept.trans (RegsKept.foldl (fun u g =>
    ((SwKept.refl P u).setSlot g _).regsKept.trans (RegsKept.sendInternal hP (by dsimp only; decide) _ _)) _ _)

/-! Frames in reception, in transfer and in the staging buffer of a port whose link goes down -/

variable (h : SwKept P s t)
include h

theorem SwKept.endSent (id o : Nat) : SwKept P s (t.endSent id o) := by
  unfold State.endSent
  dsimp only
  have h1 := h.removed hP id o
  refine SwKept.ite (fun ho => ?_) (fun _ => h1)
  exact SwKept.sendCut (SwKept.wr ((h1.airCut o).setSw _) _ (not_quiet_eth hP ho.1 (by decide))) o _

/-- The frame may name any output: the counter of a failed frame may have any address of the form that `SWC_CNT` gives it. -/
theorem SwKept.failFrame (id k : Nat) (hk : ∀ o, ¬ P (SWC_CNT o k)) : SwKept P s (t.failFrame id (some k)) := by
  unfold State.failFrame
  cases t.frame id with
  | none => exact h
  | some f =>
    exact SwKept.foldl (fun _ o _ hs => SwKept.ite (fun _ => (hs.endSent hP id o).bump _ (hk o)) (fun _ => hs.removed hP id o)) h

theorem SwKept.inputLost {p : Nat} (hp : p < 32) (hk : t.receiving p ≠ [] → ∀ o, ¬ P (SWC_CNT o 9)) : SwKept P s (t.inputLost p) := by
  unfold State.inputLost
  cases (t.port p).rx with
  | none => exact h
  | some x =>
    have h0 : SwKept P s (t.setPort p { t.port p with rx := none }).freeIx.2 := (h.setPort p _).freeIx
    have h1 := SwKept.chargeEnd h0 x (min x.bytes (Config.lostBytes (t.setPort p { t.port p with rx := none }).freeIx.1))
    have h2 := SwKept.foldl (f := fun u (f : Frame) => u.failFrame f.id (some 9)) (l := t.receiving p)
      (fun _ f hf hs => hs.failFrame hP f.id 9 (hk (List.ne_nil_of_mem hf))) h1
    exact (SwKept.ite (fun _ => h2.swCount hP hp (by decide) 1) (fun _ => h2)).spillAll hP

theorem SwKept.stagingLost {p : Nat} (hp : p < 32) : SwKept P s (t.stagingLost p) := by
  unfold State.stagingLost
  dsimp only
  have h1 := (h.swCount hP hp (k := 3) (by decide) (t.stagedAt p).length).setSw { t.sw with
    staged := tset [] t.sw.staged p [], busy := tset 0 t.sw.busy p 0 }
  exact (SwKept.foldl (fun _ x _ hs => hs.removeDest hP x.id hp (by decide) true) h1).spillAll hP

theorem SwKept.flushOutput {o : Nat} (ho : o < 32) : SwKept P s (t.flushOutput o) := by
  unfold State.flushOutput
  exact (SwKept.foldl (fun _ id _ hs => hs.removeDest hP id ho (by decide) true) h).spillAll hP

theorem SwKept.holdExpiry {p : Nat} (hp : p < 32) : SwKept P s (t.holdExpiry p) := by
  unfold State.holdExpiry
  exact SwKept.ite (fun _ => ((h.setSw _).flushOutput hP hp).raise hP (by decide) _ _ _) (fun _ => h)

theorem SwKept.outputLost {p : Nat} (hp : p < 32) : SwKept P s (t.outputLost p) := by
  have h1 := (h.stagingLost hP hp).setSw { (t.stagingLost p).sw with holding := p :: (t.stagingLost p).sw.holding.filter (· != p) }
  exact SwKept.ite (fun _ => h1.holdExpiry hP hp) (fun _ => h1)

theorem SwKept.ethCount {p k : Nat} (hp : p < 28) (hk : k < 512) : SwKept P s (t.ethCount p k) := by
  unfold State.ethCount
  exact SwKept.ite (fun _ => h.wr _ (not_quiet_eth hP hp hk)) (fun _ => h.bump _ (not_quiet_eth hP hp hk))

end

/-! A port that is not a fabric port loses its link -/

/-- The link is down, and the loss is noted in the port's status. -/
def State.unlinked (s : State) (p : Nat) : State := (s.setFld (ETH_PHY_STATUS p) ETH_PHY_STATUS_link 0).setFld (ETH_PHY_STATUS p) ETH_PHY_STATUS_link_lost 1

theorem State.fabPhy_of_port (s : State) {p : Nat} (hp : 8 ≤ p) (up : Bool) : s.fabPhy p up = s := by
  rw [State.fabPhy, if_neg]
  rintro ⟨h, -⟩
  rw [State.fabLink, Bool.and_eq_true, decide_eq_true_iff] at h
  omega

theorem State.receiving_raise (s : State) {c : Nat} (hc : c < 0x1100) (k i d p : Nat) : (s.raise c k i d).receiving p = s.receiving p := by
  obtain ⟨⟨_, _, he⟩, -⟩ := s.raise_frame c k i d hc
  rw [State.receiving, he]
  rfl

theorem State.dropLink_down {s : State} {p : Nat} (h : s.linkUp p = false) : s.dropLink p = s := by
  rw [State.dropLink, h, if_neg Bool.false_ne_true]

/-- What follows the change of the port's status leaves every other quiet register as it was. -/
theorem State.dropLink_up {P : Nat → Prop} (hP : ∀ a, P a → quiet a) {s : State} {p : Nat} (h8 : 8 ≤ p) (hp : p < 28) (h : s.linkUp p = true)
    (hk : s.receiving p ≠ [] → ∀ o, ¬ P (SWC_CNT o 9)) : RegsKept P (s.unlinked p) (s.dropLink p) := by
  rw [State.dropLink, if_pos h]
  dsimp only
  rw [State.fabPhy_of_port _ h8]
  have h1 : SwKept P (s.unlinked p) (((s.unlinked p).ethCount p 16).raise 0x0802 2 p) :=
    SwKept.raise hP ((SwKept.refl P (s.unlinked p)).ethCount hP hp (by decide)) (by decide) 2 p 0
  have hrec : (((s.unlinked p).ethCount p 16).raise 0x0802 2 p).receiving p = s.receiving p := by
    rw [State.receiving_raise _ (by decide)]
    rfl
  have h2 := SwKept.inputLost hP h1 (p := p) (by omega) (hrec ▸ hk)
  exact (SwKept.ite (fun _ => h2.outputLost hP (by omega)) (fun _ => h2.stagingLost hP (by omega))).regsKept.trans (RegsKept.sendOwed hP _)

end Sys2Proof.Machine

/-! TC10 sleep and wake-up of a link (R178, R179). -/

namespace Sys2Proof.Machine

section
variable {s t : State} {m : Master} {p : Nat} {v : Word}

/-! The state of TC10 beside the port's status -/

/-- What a new TC10 state leaves: the state, the status bit that shows sleep, and every other field of the two registers. -/
theorem State.setTc10_spec (s : State) (p : Nat) {st : Nat} (hst : st < 4) :
    let t := s.setTc10 p st
    t.tc10State p = st ∧ t.fld (ETH_PHY_STATUS p) ETH_PHY_STATUS_asleep = boolNat (st == 2) ∧
    (∀ f : Fld, f.lo ≤ f.hi → f.hi < 6 → t.fld (ETH_PHY_STATUS p) f = s.fld (ETH_PHY_STATUS p) f) ∧
    (∀ f : Fld, f.lo ≤ f.hi → 1 < f.lo → t.fld (ETH_TC10_STATUS p) f = s.fld (ETH_TC10_STATUS p) f) ∧
    s.wroteRegs t [ETH_TC10_STATUS p, ETH_PHY_STATUS p] := by
  have hne : ETH_TC10_STATUS p ≠ ETH_PHY_STATUS p := by rw [ETH_TC10_STATUS, ETH_PHY_STATUS]; omega
  have htc : ∀ f : Fld, (s.setTc10 p st).fld (ETH_TC10_STATUS p) f = (s.setFld (ETH_TC10_STATUS p) ETH_TC10_STATUS_state st).fld (ETH_TC10_STATUS p) f :=
    fun f => by rw [State.setTc10, State.fld, State.rd_setFld, if_neg hne, State.fld]
  have hphy : ∀ f : Fld, (s.setFld (ETH_TC10_STATUS p) ETH_TC10_STATUS_state st).fld (ETH_PHY_STATUS p) f = s.fld (ETH_PHY_STATUS p) f :=
    fun f => by rw [State.fld, State.rd_setFld, if_neg hne.symm, State.fld]
  refine ⟨?_, ?_, fun f hf hlt => ?_, fun f hf hlt => ?_, ?_⟩
  · rw [State.tc10State, htc, State.fld_setFld_same _ _ _ (by decide) (by decide)]
    exact Nat.mod_eq_of_lt hst
  · rw [State.setTc10, State.fld_setFld_same _ _ _ (by decide) (by decide)]
    exact Nat.mod_eq_of_lt (boolNat_lt _)
  · rw [State.setTc10, State.fld_setFld_ne _ _ (by decide) (by decide) hf (Or.inl hlt), hphy]
  · rw [htc, State.fld_setFld_ne _ _ (by decide) (by decide) hf (Or.inr hlt)]
  · exact (s.wroteRegs_setFld _ _ List.mem_cons_self).trans (State.wroteRegs_setFld _ _ _ (List.mem_cons_of_mem _ (List.mem_singleton_self _)))

theorem State.wroteRegs_training (s : State) (p : Nat) (on : Bool) : s.wroteRegs (s.training p on) [ETH_PHY_STATUS p] :=
  s.wroteRegs_setFld _ _ (List.mem_singleton_self _)

theorem State.training_fld (s : State) (p : Nat) (on : Bool) : (s.training p on).fld (ETH_PHY_STATUS p) ETH_PHY_STATUS_training = boolNat on := by
  rw [State.training, State.fld_setFld_same _ _ _ (by decide) (by decide)]
  exact Nat.mod_eq_of_lt (boolNat_lt _)

theorem boolNat_fldB {f : Fld} (a : Nat) (hf : f.width = 1) (s : State) : boolNat (s.fldB a f) = s.fld a f := by
  have h := f.get_lt (s.rd a)
  rw [hf] at h
  change s.fld a f < 2 at h
  rw [State.fldB]
  generalize s.fld a f = n at h ⊢
  interval_cases n <;> rfl

/-- Leaving sleep, or giving up an open request: the link that slept trains where it is enabled. -/
theorem State.tc10Wake_spec (s : State) (p : Nat) :
    let t := s.tc10Wake p
    t.tc10State p = 0 ∧ t.fld (ETH_PHY_STATUS p) ETH_PHY_STATUS_asleep = 0 ∧
    (s.tc10State p = 2 → t.fld (ETH_PHY_STATUS p) ETH_PHY_STATUS_training = s.fld (ETH_PHY_CFG p) ETH_PHY_CFG_en) ∧
    (∀ f : Fld, f.lo ≤ f.hi → 1 < f.lo → t.fld (ETH_TC10_STATUS p) f = s.fld (ETH_TC10_STATUS p) f) ∧
    s.wroteRegs t [ETH_TC10_STATUS p, ETH_PHY_STATUS p] := by
  obtain ⟨hstate, hasleep, -, hkeep, hwrote⟩ := s.setTc10_spec p (st := 0) (by decide)
  have hne : ETH_TC10_STATUS p ≠ ETH_PHY_STATUS p := by rw [ETH_TC10_STATUS, ETH_PHY_STATUS]; omega
  rw [State.tc10Wake]
  by_cases h2 : s.tc10State p = 2
  · rw [if_pos h2]
    have htc : ∀ f : Fld, ((s.setTc10 p 0).training p (s.fldB (ETH_PHY_CFG p) ETH_PHY_CFG_en)).fld (ETH_TC10_STATUS p) f =
        (s.setTc10 p 0).fld (ETH_TC10_STATUS p) f := fun f => by rw [State.training, State.fld, State.rd_setFld, if_neg hne, State.fld]
    refine ⟨(htc _).trans hstate, ?_, fun _ => ?_, fun f hf hlt => (htc f).trans (hkeep f hf hlt),
      hwrote.trans ((State.wroteRegs_training _ p _).mono (List.forall_mem_singleton.2 (List.mem_cons_of_mem _ (List.mem_singleton_self _))))⟩
    · rw [State.training, State.fld_setFld_ne _ _ (by decide) (by decide) (by decide) (Or.inr (by decide)), hasleep]
      rfl
    · rw [State.training_fld, boolNat_fldB _ rfl]
  · rw [if_neg h2]
    exact ⟨hstate, hasleep, fun h => absurd h h2, hkeep, hwrote⟩

/-! The write of a port's TC10 configuration -/

theorem regCommand_tc10 {p : Nat} (hp : p < 28) (h : s.writable m (ETH_TC10_CFG p)) (v : Word) :
    s.regCommand m (ETH_TC10_CFG p) v = (s.seen m).tc10Write p v := by
  have haddr : ETH_TC10_CFG p = 0x20080000 + 0x1000 * p + 0xA0 := by rw [ETH_TC10_CFG]; omega
  rw [haddr] at h ⊢
  rw [State.regCommand_eth hp (by decide) h, State.ethWrite, if_neg (by decide), if_neg (by decide), if_pos rfl]

/-- The configuration as this value is written: the two command bits are not kept. -/
def State.tc10Set (s : State) (p : Nat) (v : Word) : State := s.wrPlain (ETH_TC10_CFG p) v

theorem regAt_tc10Cfg {p : Nat} (hp : p < 28) : ∃ d, regAt (ETH_TC10_CFG p) = some d ∧ d.fields = [.rw 0 0, .rw 1 1] := by
  have haddr : ETH_TC10_CFG p = 0x20080000 + 0x1000 * p + 0xA0 := by rw [ETH_TC10_CFG]; omega
  rw [haddr, regAt_eth hp (by decide)]
  exact ⟨_, rfl, rfl⟩

theorem State.tc10Set_cfg (s : State) {p : Nat} (hp : p < 28) (v : Word) :
    (s.tc10Set p v).fld (ETH_TC10_CFG p) ETH_TC10_CFG_en = ETH_TC10_CFG_en.get v ∧
    (s.tc10Set p v).fld (ETH_TC10_CFG p) ETH_TC10_CFG_accept_sleep = ETH_TC10_CFG_accept_sleep.get v := by
  obtain ⟨d, hd, hf⟩ := regAt_tc10Cfg hp
  constructor <;>
  · rw [State.tc10Set, State.fld, State.rd_wrPlain_of hd]
    simp (disch := decide) only [RegDesc.write, hf, List.foldl, FAcc.write, ETH_TC10_CFG_en, ETH_TC10_CFG_accept_sleep, Fld.get_put_ne, Fld.get_put, Fld.get_mod]

theorem State.wroteRegs_tc10Set (s : State) (p : Nat) (v : Word) : s.wroteRegs (s.tc10Set p v) [ETH_TC10_CFG p] :=
  s.wroteRegs_wrPlain v (List.mem_singleton_self _)

theorem State.tc10Set_fld (s : State) (p : Nat) (v : Word) {a : Nat} (ha : a ≠ ETH_TC10_CFG p) (f : Fld) : (s.tc10Set p v).fld a f = s.fld a f := by
  rw [State.fld, (s.wroteRegs_tc10Set p v).1 a (fun h => ha (List.mem_singleton.1 h)), State.fld]

/-- What the write of the configuration leaves: the link's state and the port's settings. -/
theorem State.tc10Set_link (s : State) (p : Nat) (v : Word) :
    (s.tc10Set p v).tc10State p = s.tc10State p ∧ (s.tc10Set p v).linkUp p = s.linkUp p ∧
    (s.tc10Set p v).fld (ETH_PHY_CFG p) ETH_PHY_CFG_en = s.fld (ETH_PHY_CFG p) ETH_PHY_CFG_en :=
  ⟨s.tc10Set_fld p v (by rw [ETH_TC10_STATUS, ETH_TC10_CFG]; omega) _,
    congrArg (· != 0) (s.tc10Set_fld p v (by rw [ETH_PHY_STATUS, ETH_TC10_CFG]; omega) _),
    s.tc10Set_fld p v (by rw [ETH_PHY_CFG, ETH_TC10_CFG]; omega) _⟩

theorem State.tc10Set_on (s : State) (h8 : 8 ≤ p) (hp : p < 28) (v : Word) : (s.tc10Set p v).tc10On p = v.toNat.testBit 0 := by
  have hbit : (ETH_TC10_CFG_en.get v != 0) = v.toNat.testBit 0 := by
    rw [ETH_TC10_CFG_en, Fld.get_bit]
    cases v.toNat.testBit 0 <;> rfl
  rw [State.tc10On, decide_eq_true h8, Bool.true_and, State.fldB, (s.tc10Set_cfg hp v).1, hbit]

/-- The value with a command bit set writes the same configuration. -/
theorem State.tc10Set_or (s : State) {p : Nat} (hp : p < 28) (v : Word) {k : Word} (hk : k = 4 ∨ k = 8) : s.tc10Set p (v ||| k) = s.tc10Set p v := by
  refine State.wrPlain_or (fun d hd f hf => ?_) s v
  obtain ⟨d', hd', hfs⟩ := regAt_tc10Cfg hp
  rw [hd'] at hd
  cases Option.some.inj hd
  rw [hfs] at hf
  fin_cases hf <;> rcases hk with rfl | rfl <;> rfl

theorem State.tc10Write_below (s : State) (hp : p < 8) (v : Word) : s.tc10Write p v = s := if_pos hp

theorem State.tc10Write_off (s : State) (h8 : 8 ≤ p) (hp : p < 28) (h0 : v.toNat.testBit 0 = false) : s.tc10Write p v = s.tc10Set p v := by
  have hon := s.tc10Set_on h8 hp v
  rw [State.tc10Set, h0] at hon
  rw [State.tc10Write, if_neg (by omega)]
  dsimp only
  rw [hon]
  rfl

theorem State.tc10Write_wake (s : State) (h8 : 8 ≤ p) (hp : p < 28) (h0 : v.toNat.testBit 0 = true) (h3 : v.toNat.testBit 3 = true) :
    s.tc10Write p v = ((s.tc10Set p v).out (.tc10 p 3)).tc10Wake p := by
  have hon := s.tc10Set_on h8 hp v
  rw [State.tc10Set, h0] at hon
  rw [State.tc10Write, if_neg (by omega)]
  dsimp only
  rw [hon, h3]
  rfl

theorem State.tc10Write_sleep (s : State) (h8 : 8 ≤ p) (hp : p < 28) (h0 : v.toNat.testBit 0 = true) (h3 : v.toNat.testBit 3 = false)
    (h2 : v.toNat.testBit 2 = true) : s.tc10Write p v =
      if s.tc10State p = 0 ∧ s.linkUp p = true then ((s.tc10Set p v).out (.tc10 p 0)).setTc10 p 1 else s.tc10Set p v := by
  have hon := s.tc10Set_on h8 hp v
  obtain ⟨hstate, hlink, -⟩ := s.tc10Set_link p v
  rw [State.tc10Set] at hon hstate hlink
  rw [State.tc10Write, if_neg (by omega)]
  dsimp only
  rw [hon, h0, h3, h2, hstate, hlink]
  simp only [Bool.not_true, Bool.false_eq_true, if_false, true_and]
  rfl

/-- What stands in the port's configuration after a write of this value. -/
def State.tc10Cfg (t : State) (p : Nat) (v : Word) : Prop :=
  t.fld (ETH_TC10_CFG p) ETH_TC10_CFG_en = ETH_TC10_CFG_en.get v ∧ t.fld (ETH_TC10_CFG p) ETH_TC10_CFG_accept_sleep = ETH_TC10_CFG_accept_sleep.get v

/-- The two status registers of a port's link. -/
def tc10Regs (p : Nat) : List Nat := [ETH_TC10_STATUS p, ETH_PHY_STATUS p]

theorem tc10Cfg_not_mem (p : Nat) : ETH_TC10_CFG p ∉ tc10Regs p := by
  simp [tc10Regs, ETH_TC10_CFG, ETH_TC10_STATUS, ETH_PHY_STATUS]

theorem State.tc10Set_spec (s : State) (m : Master) {p : Nat} (hp : p < 28) (v : Word) :
    let t := (s.seen m).tc10Set p v
    t.tc10Cfg p v ∧ s.onlyRegs t [ETH_TC10_CFG p] ∧ t = { s.seen m with regs := t.regs } := by
  have hwrote := (s.seen m).wroteRegs_tc10Set p v
  exact ⟨(s.seen m).tc10Set_cfg hp v, State.onlyRegs_seen hwrote.onlyRegs, hwrote.2⟩

theorem State.out_of_regs {a u : State} (h : u = { a with regs := u.regs }) {l : List Output} (ho : a.outputs = l) (o : Output) :
    u.out o = { a with regs := u.regs, outputs := o :: l } := by
  subst ho
  rw [h]
  rfl

/-- A message to the link partner after the configuration is written, and a change of the port's status. -/
theorem State.tc10Told_spec (s : State) (m : Master) {p : Nat} (hp : p < 28) (v : Word) {k : Nat}
    (hu : ((((s.seen m).tc10Set p v).out (.tc10 p k)).wroteRegs t (tc10Regs p))) :
    t.tc10Cfg p v ∧ s.onlyRegs t [ETH_TC10_CFG p, ETH_TC10_STATUS p, ETH_PHY_STATUS p] ∧
    t = { s.seen m with regs := t.regs, outputs := .tc10 p k :: s.outputs } := by
  obtain ⟨⟨hen, haccept⟩, honly, heq⟩ := s.tc10Set_spec m hp v
  have hfld : ∀ f : Fld, t.fld (ETH_TC10_CFG p) f = ((s.seen m).tc10Set p v).fld (ETH_TC10_CFG p) f := fun f => by
    rw [State.fld, hu.1 _ (tc10Cfg_not_mem p)]
    rfl
  refine ⟨⟨(hfld _).trans hen, (hfld _).trans haccept⟩, fun a ha hlost => ?_, ?_⟩
  · rw [List.mem_cons, not_or] at ha
    exact (hu.1 a ha.2).trans (honly a (fun h => ha.1 (List.mem_singleton.1 h)) hlost)
  · have h2 := hu.2
    rw [h2, State.out_of_regs heq (State.seen_outputs s m)]

theorem State.gives_regCommand_tc10 {c : Instr} {k : Word} (hc : exec c s = .next (s.regCommand m (ETH_TC10_CFG p) (v ||| k))) (hp : p < 28)
    (hw : s.writable m (ETH_TC10_CFG p)) {Q : State → Prop} (hQ : Q ((s.seen m).tc10Write p (v ||| k))) : Gives c s Q :=
  ⟨_, hc.trans (congrArg Host.Outcome.next (regCommand_tc10 hp hw _)), hQ⟩

/-! What the link partner asks for -/

/-- A request refused: the two bits that say so. -/
theorem State.partnerSleep_refused (s : State) (hon : s.tc10On p = true) (hst : s.tc10State p ≠ 2)
    (h : s.fld (ETH_TC10_CFG p) ETH_TC10_CFG_accept_sleep = 0 ∨ s.portEmpty p = false) :
    s.partnerSleep p = ((s.setFld (ETH_TC10_STATUS p) ETH_TC10_STATUS_sleep_rx 1).out (.tc10 p 2)).setFld (ETH_TC10_STATUS p)
      ETH_TC10_STATUS_sleep_refused 1 := by
  rw [State.partnerSleep, if_pos ⟨hon, hst⟩]
  dsimp only
  rw [if_neg]
  rintro ⟨h1, h2⟩
  rw [State.fldB, bne_iff_ne] at h1
  exact h.elim h1 (fun h => absurd h2 (h ▸ Bool.false_ne_true))

theorem State.partnerSleep_accepted (s : State) (hon : s.tc10On p = true) (hst : s.tc10State p ≠ 2)
    (h : s.fld (ETH_TC10_CFG p) ETH_TC10_CFG_accept_sleep = 1) (hempty : s.portEmpty p = true) :
    s.partnerSleep p = ((s.setFld (ETH_TC10_STATUS p) ETH_TC10_STATUS_sleep_rx 1).out (.tc10 p 1)).tc10Sleep p := by
  rw [State.partnerSleep, if_pos ⟨hon, hst⟩]
  exact if_pos ⟨bne_iff_ne.2 (h ▸ Nat.one_ne_zero), hempty⟩

/-- The link's state and, where the port receives nothing, the notes of TC10 outlive a loss of the link. -/
def sleepReg (s : State) (p a : Nat) : Prop := a = ETH_PHY_STATUS p ∨ (s.receiving p = [] ∧ a = ETH_TC10_STATUS p)

theorem quiet_of_sleepReg (hp : p < 28) (a : Nat) (ha : sleepReg s p a) : quiet a := by
  simp only [sleepReg, ETH_PHY_STATUS, ETH_TC10_STATUS] at ha
  simp only [quiet, FLT_SRC_LOST]
  rcases ha with rfl | ⟨-, rfl⟩ <;> omega

theorem State.dropLink_kept (s : State) (h8 : 8 ≤ p) (hp : p < 28) :
    (s.dropLink p).linkUp p = false ∧ (s.dropLink p).mram = s.mram ∧ (s.dropLink p).otp = s.otp ∧
    (s.receiving p = [] → (s.dropLink p).rd (ETH_TC10_STATUS p) = s.rd (ETH_TC10_STATUS p)) := by
  cases hup : s.linkUp p with
  | false =>
    rw [State.dropLink_down hup]
    exact ⟨hup, rfl, rfl, fun _ => rfl⟩
  | true =>
    have hkept := State.dropLink_up (P := sleepReg s p) (quiet_of_sleepReg hp) h8 hp hup (fun hr o ho => by
      simp only [sleepReg, hr, false_and, or_false, SWC_CNT, ETH_PHY_STATUS] at ho
      omega)
    have hne : ETH_TC10_STATUS p ≠ ETH_PHY_STATUS p := by rw [ETH_TC10_STATUS, ETH_PHY_STATUS]; omega
    have hlink : (s.unlinked p).fld (ETH_PHY_STATUS p) ETH_PHY_STATUS_link = 0 := by
      rw [State.unlinked, State.fld_setFld_ne _ _ (by decide) (by decide) (by decide) (Or.inl (by decide)),
        State.fld_setFld_same _ _ _ (by decide) (by decide), Nat.zero_mod]
    refine ⟨?_, hkept.mram, hkept.otp, fun hr => ?_⟩
    · rw [State.linkUp, State.fldB, State.fld, hkept.rd _ (Or.inl rfl)]
      exact bne_eq_false_iff_eq.2 hlink
    · rw [hkept.rd _ (Or.inr ⟨hr, rfl⟩), State.unlinked, State.rd_setFld, if_neg hne, State.rd_setFld, if_neg hne]

/-- A link that goes to sleep is down and does not train. -/
theorem State.tc10Sleep_spec (s : State) (h8 : 8 ≤ p) (hp : p < 28) :
    let t := s.tc10Sleep p
    t.tc10State p = 2 ∧ t.fld (ETH_PHY_STATUS p) ETH_PHY_STATUS_asleep = 1 ∧ t.fld (ETH_PHY_STATUS p) ETH_PHY_STATUS_training = 0 ∧
    t.linkUp p = false ∧ t.mram = s.mram ∧ t.otp = s.otp ∧
    (s.receiving p = [] → t.fld (ETH_TC10_STATUS p) ETH_TC10_STATUS_sleep_rx = s.fld (ETH_TC10_STATUS p) ETH_TC10_STATUS_sleep_rx) ∧
    (s.linkUp p = false → t.outputs = s.outputs ∧ s.posts t 0x0808 0 p) := by
  obtain ⟨hlink, hmram, hotp, htc⟩ := s.dropLink_kept h8 hp
  have hdown := fun h => State.dropLink_down (s := s) (p := p) h
  rw [State.tc10Sleep]
  generalize s.dropLink p = d at hlink hmram hotp htc hdown ⊢
  have hwrote := d.wroteRegs_training p false
  have htrain := d.training_fld p false
  have htlink : (d.training p false).fld (ETH_PHY_STATUS p) ETH_PHY_STATUS_link = 0 := by
    rw [State.training, State.fld_setFld_ne _ _ (by decide) (by decide) (by decide) (Or.inl (by decide))]
    exact bne_eq_false_iff_eq.1 hlink
  have htrd : (d.training p false).rd (ETH_TC10_STATUS p) = d.rd (ETH_TC10_STATUS p) :=
    hwrote.1 _ (by simp only [List.mem_singleton, ETH_TC10_STATUS, ETH_PHY_STATUS]; omega)
  generalize d.training p false = u at hwrote htrain htlink htrd ⊢
  obtain ⟨hstate, hasleep, hphy, hkeep, hwrote'⟩ := u.setTc10_spec p (st := 2) (by decide)
  have hall := (hwrote.mono (l' := tc10Regs p) (List.forall_mem_singleton.2 (List.mem_cons_of_mem _ (List.mem_singleton_self _)))).trans hwrote'
  generalize u.setTc10 p 2 = w at hstate hasleep hphy hkeep hwrote' hall ⊢
  have hquiet : ∀ a, sleepReg { s with sw := { s.sw with frames := [] } } p a → (w.raise 0x0808 0 p).rd a = w.rd a := fun a ha =>
    (w.raise_frame 0x0808 0 p 0 (by decide)).rd a (isSrcLost_eq_false.2 (quiet_of_sleepReg hp a ha).1)
  have hP := hquiet (ETH_PHY_STATUS p) (Or.inl rfl)
  have hT := hquiet (ETH_TC10_STATUS p) (Or.inr ⟨rfl, rfl⟩)
  have hfr := w.raise_regFrame p 0 (c := 0x0808) (k := 0) (by decide) (by decide) rfl
  have hposts := w.posts_raise 0x0808 0 p 0
  generalize w.raise 0x0808 0 p = r at hP hT hfr hposts ⊢
  have hw2 := hall.2
  refine ⟨?_, ?_, ?_, ?_, ?_, ?_, fun hr => ?_, fun h => ⟨?_, ?_⟩⟩
  · rw [State.tc10State, State.fld, hT]
    exact hstate
  · rw [State.fld, hP]
    exact hasleep
  · rw [State.fld, hP]
    exact (hphy _ (by decide) (by decide)).trans htrain
  · rw [State.linkUp, State.fldB, State.fld, hP]
    exact bne_eq_false_iff_eq.2 ((hphy _ (by decide) (by decide)).trans htlink)
  · rw [hfr, hw2]
    exact hmram
  · rw [hfr, hw2]
    exact hotp
  · rw [State.fld, hT]
    refine (hkeep _ (by decide) (by decide)).trans ?_
    rw [State.fld, htrd, htc hr, State.fld]
  · rw [hfr, hw2, hdown h]
  · rw [Nat.mod_eq_of_lt (by omega)] at hposts
    rw [hdown h] at hw2
    exact State.posts_congr (by rw [hw2]; rfl) (by rw [hw2]) hposts

theorem State.receiving_of_empty {s : State} (h : s.portEmpty p = true) : s.receiving p = [] := by
  rw [State.portEmpty, Bool.and_eq_true] at h
  exact List.isEmpty_iff.1 h.2

/-- What the state of TC10, the link and its notes say to a command is what they say before its answer and the mark of the request. -/
theorem State.sleepMark_spec (s : State) (p k : Nat) :
    let u := (s.setFld (ETH_TC10_STATUS p) ETH_TC10_STATUS_sleep_rx 1).out (.tc10 p k)
    u.fld (ETH_TC10_STATUS p) ETH_TC10_STATUS_sleep_rx = 1 ∧ u.tc10State p = s.tc10State p ∧ u.linkUp p = s.linkUp p := by
  refine ⟨State.fld_setFld_same _ _ _ (by decide) (by decide), State.fld_setFld_ne _ _ (by decide) (by decide) (by decide) (Or.inl (by decide)), ?_⟩
  have hrd : ((s.setFld (ETH_TC10_STATUS p) ETH_TC10_STATUS_sleep_rx 1).out (.tc10 p k)).rd (ETH_PHY_STATUS p) = s.rd (ETH_PHY_STATUS p) := by
    refine (State.rd_setFld s _ _ _ _).trans (if_neg ?_)
    rw [ETH_TC10_STATUS, ETH_PHY_STATUS]
    omega
  rw [State.linkUp, State.fldB, State.fld, hrd]
  rfl

/-! A wake-up received -/

/-- The wake-up noted, counted and reported, before the link leaves sleep. -/
def State.wakeNoted (s : State) (p : Nat) : State :=
  ((s.setFld (ETH_TC10_STATUS p) ETH_TC10_STATUS_wake_rx 1).ethCount p 17).raise 0x0809 1 p

theorem State.wakeNoted_spec (s : State) (hp : p < 28) :
    let t := s.wakeNoted p
    t.fld (ETH_TC10_STATUS p) ETH_TC10_STATUS_wake_rx = 1 ∧ t.tc10State p = s.tc10State p ∧
    t.fld (ETH_PHY_CFG p) ETH_PHY_CFG_en = s.fld (ETH_PHY_CFG p) ETH_PHY_CFG_en ∧ s.counts t (ETH_CNT p 17) ∧ s.posts t 0x0809 1 p ∧
    s.onlyRegs t [ETH_TC10_STATUS p, ETH_CNT p 17] ∧ s.regFrame t := by
  have hcnt : ETH_CNT p 17 ≠ ETH_TC10_STATUS p := by rw [ETH_CNT, ETH_TC10_STATUS]; omega
  have hw1 := s.wroteRegs_setFld ETH_TC10_STATUS_wake_rx 1 (List.mem_singleton_self (ETH_TC10_STATUS p))
  have hrx := State.fld_setFld_same (f := ETH_TC10_STATUS_wake_rx) s (ETH_TC10_STATUS p) 1 (by decide) (by decide)
  have hst : (s.setFld (ETH_TC10_STATUS p) ETH_TC10_STATUS_wake_rx 1).tc10State p = s.tc10State p :=
    State.fld_setFld_ne _ _ (by decide) (by decide) (by decide) (Or.inl (by decide))
  rw [State.wakeNoted]
  generalize s.setFld (ETH_TC10_STATUS p) ETH_TC10_STATUS_wake_rx 1 = u at hw1 hrx hst ⊢
  have hcount : u.ethCount p 17 = u.bump (ETH_CNT p 17) := if_neg (by decide)
  have hw2 := u.wroteRegs_bump (ETH_CNT p 17) 1
  have hc : s.counts (u.bump (ETH_CNT p 17)) (ETH_CNT p 17) := by
    rw [State.counts, ← hw1.1 _ (fun h => hcnt (List.mem_singleton.1 h))]
    exact u.counts_bump _
  have htc : (u.bump (ETH_CNT p 17)).rd (ETH_TC10_STATUS p) = u.rd (ETH_TC10_STATUS p) := hw2.1 _ (fun h => hcnt.symm (List.mem_singleton.1 h))
  have hall : s.wroteRegs (u.bump (ETH_CNT p 17)) [ETH_TC10_STATUS p, ETH_CNT p 17] :=
    (hw1.mono (List.forall_mem_singleton.2 List.mem_cons_self)).trans
      (hw2.mono (List.forall_mem_singleton.2 (List.mem_cons_of_mem _ (List.mem_singleton_self _))))
  rw [hcount]
  generalize u.bump (ETH_CNT p 17) = w at hc htc hall ⊢
  have heq := hall.2
  obtain ⟨hposts, honly, hframe⟩ := State.raised (s := s) (u := w) (by rw [heq]; rfl) (by rw [heq]) hall.onlyRegs p 0 (c := 0x0809) (k := 1)
    (by decide) (by decide) rfl
  have hkeep : ∀ a, 0x20080000 ≤ a → (w.raise 0x0809 1 p).rd a = w.rd a := fun a ha =>
    (w.raise_frame 0x0809 1 p 0 (by decide)).rd a (isSrcLost_eq_false.2 (Or.inr (by simp only [FLT_SRC_LOST]; omega)))
  have hT := hkeep (ETH_TC10_STATUS p) (by rw [ETH_TC10_STATUS]; omega)
  refine ⟨?_, ?_, ?_, ?_, ?_, honly, ?_⟩
  · rw [State.fld, hT, htc]
    exact hrx
  · rw [State.tc10State, State.fld, hT, htc]
    exact hst
  · rw [State.fld, hkeep _ (by rw [ETH_PHY_CFG]; omega), hall.1 _ (by simp [ETH_PHY_CFG, ETH_TC10_STATUS, ETH_CNT]; omega), State.fld]
  · rw [State.counts, hkeep _ (by rw [ETH_CNT]; omega)]
    exact hc
  · rwa [Nat.mod_eq_of_lt (by omega)] at hposts
  · rw [State.regFrame, hframe, heq]

theorem State.tc10Received_on (s : State) (h : s.tc10On p = true) : s.tc10Received p = (s.wakeNoted p).tc10Wake p := if_pos h

end

/-- Settles O25: a write by the bits of its value, a request of the partner by the port's settings and its frames, a wake-up as its note and
the end of sleep; only where a link goes down does more than registers change. -/
theorem tc10 : Obligations.Tc10 := by
  unfold Obligations.Tc10
  intro s ⟨p, hp⟩
  dsimp only
  refine ⟨fun m v hw => ⟨fun h => ?_, fun h8 h0 => ?_, fun h8 h0 h3 hst hup => ?_, fun h8 h0 h3 h => ?_, fun h8 h0 => ?_⟩, fun h => ?_, fun hon hst h => ?_,
    fun hon hst hacc hempty => ?_, fun hon hst => ?_, fun h => ?_, fun hon => ?_, fun h => ?_⟩
  · exact ⟨State.gives_regCommand_tc10 rfl hp hw (State.tc10Write_below _ h _), State.gives_regCommand_tc10 rfl hp hw (State.tc10Write_below _ h _)⟩
  · have hkeep := fun k (hk : k.testBit 0 = false) => testBit_or_clear v (k := k) (i := 0) hk
    have hspec := s.tc10Set_spec m hp v
    refine ⟨State.gives_regCommand_tc10 rfl hp hw ?_, State.gives_regCommand_tc10 rfl hp hw ?_⟩
    · rw [State.tc10Write_off (v := v ||| 4) _ h8 hp ((hkeep 4 rfl).trans h0), State.tc10Set_or _ hp _ (Or.inl rfl)]
      exact hspec
    · rw [State.tc10Write_off (v := v ||| 8) _ h8 hp ((hkeep 8 rfl).trans h0), State.tc10Set_or _ hp _ (Or.inr rfl)]
      exact hspec
  · refine State.gives_regCommand_tc10 rfl hp hw ?_
    have hseen : (s.seen m).tc10State p = 0 ∧ (s.seen m).linkUp p = true := ⟨(s.seen_fld m _ _).trans hst, (s.seen_fldB m _ _).trans hup⟩
    rw [State.tc10Write_sleep (v := v ||| 4) _ h8 hp ((testBit_or_clear v (k := 4) rfl).trans h0) ((testBit_or_clear v (k := 4) rfl).trans h3)
      (testBit_or_set v 4 (by decide) rfl), if_pos hseen, State.tc10Set_or _ hp _ (Or.inl rfl)]
    obtain ⟨hstate, -, -, -, hwrote⟩ := (((s.seen m).tc10Set p v).out (.tc10 p 0)).setTc10_spec p (st := 1) (by decide)
    obtain ⟨hcfg, honly, heq⟩ := State.tc10Told_spec s m hp v hwrote
    exact ⟨hcfg, hstate, honly, heq⟩
  · refine State.gives_regCommand_tc10 rfl hp hw ?_
    have hseen : ¬ ((s.seen m).tc10State p = 0 ∧ (s.seen m).linkUp p = true) := by
      rintro ⟨h1, h2⟩
      rw [State.tc10State, State.seen_fld] at h1
      rw [State.linkUp, State.seen_fldB] at h2
      exact h.elim (fun h => h h1) (fun h => Bool.false_ne_true (h.symm.trans h2))
    rw [State.tc10Write_sleep (v := v ||| 4) _ h8 hp ((testBit_or_clear v (k := 4) rfl).trans h0) ((testBit_or_clear v (k := 4) rfl).trans h3)
      (testBit_or_set v 4 (by decide) rfl), if_neg hseen, State.tc10Set_or _ hp _ (Or.inl rfl)]
    exact s.tc10Set_spec m hp v
  · refine State.gives_regCommand_tc10 rfl hp hw ?_
    rw [State.tc10Write_wake (v := v ||| 8) _ h8 hp ((testBit_or_clear v (k := 8) rfl).trans h0) (testBit_or_set v 8 (by decide) rfl),
      State.tc10Set_or _ hp _ (Or.inr rfl)]
    obtain ⟨hstate, hasleep, htrain, -, hwrote⟩ := (((s.seen m).tc10Set p v).out (.tc10 p 3)).tc10Wake_spec p
    obtain ⟨hst, -, hen⟩ := (s.seen m).tc10Set_link p v
    obtain ⟨hcfg, honly, heq⟩ := State.tc10Told_spec s m hp v hwrote
    exact ⟨hcfg, hstate, hasleep, fun h => (htrain ((hst.trans (s.seen_fld m _ _)).trans h)).trans (hen.trans (s.seen_fld m _ _)), honly, heq⟩
  · refine ⟨_, rfl, if_neg ?_⟩
    rintro ⟨h1, h2⟩
    exact h.elim (fun h => Bool.false_ne_true (h.symm.trans h1)) h2
  · refine ⟨_, congrArg Host.Outcome.next (s.partnerSleep_refused hon hst h), ?_⟩
    obtain ⟨hrx, hstate, -⟩ := s.sleepMark_spec p 2
    have hw1 := s.wroteRegs_setFld ETH_TC10_STATUS_sleep_rx 1 (List.mem_singleton_self (ETH_TC10_STATUS p))
    have ho := State.out_of_regs hw1.2 rfl (.tc10 p 2)
    have hrd : ∀ a, a ∉ [ETH_TC10_STATUS p] → ((s.setFld (ETH_TC10_STATUS p) ETH_TC10_STATUS_sleep_rx 1).out (.tc10 p 2)).rd a = s.rd a := hw1.1
    generalize (s.setFld (ETH_TC10_STATUS p) ETH_TC10_STATUS_sleep_rx 1).out (.tc10 p 2) = u at hrx hstate ho hrd ⊢
    have hw2 := u.wroteRegs_setFld ETH_TC10_STATUS_sleep_refused 1 (List.mem_singleton_self (ETH_TC10_STATUS p))
    refine ⟨(State.fld_setFld_ne _ _ (by decide) (by decide) (by decide) (Or.inl (by decide))).trans hrx,
      State.fld_setFld_same _ _ _ (by decide) (by decide),
      (State.fld_setFld_ne _ _ (by decide) (by decide) (by decide) (Or.inl (by decide))).trans hstate,
      fun a ha _ => (hw2.1 a ha).trans (hrd a ha), ?_⟩
    rw [hw2.2, ho]
  · refine ⟨_, congrArg Host.Outcome.next (s.partnerSleep_accepted hon hst hacc hempty), ?_⟩
    have h8 : 8 ≤ p := of_decide_eq_true (Bool.and_eq_true_iff.1 hon).1
    obtain ⟨hrx, -, hlink⟩ := s.sleepMark_spec p 1
    obtain ⟨hstate, hasleep, -, hdown, hmram, hotp, hkeep, hout⟩ :=
      ((s.setFld (ETH_TC10_STATUS p) ETH_TC10_STATUS_sleep_rx 1).out (.tc10 p 1)).tc10Sleep_spec h8 hp
    exact ⟨hstate, hasleep, hdown, (hkeep (State.receiving_of_empty hempty)).trans hrx, fun h => hout (hlink.trans h), hmram, hotp⟩
  · refine ⟨_, congrArg Host.Outcome.next (if_pos ⟨hon, hst⟩), ?_⟩
    have h8 : 8 ≤ p := of_decide_eq_true (Bool.and_eq_true_iff.1 hon).1
    obtain ⟨hstate, hasleep, htrain, hdown, hmram, hotp, -⟩ := s.tc10Sleep_spec h8 hp
    exact ⟨hstate, hasleep, htrain, hdown, hmram, hotp⟩
  · refine ⟨_, rfl, if_neg ?_⟩
    rintro ⟨h1, h2⟩
    exact h.elim (fun h => Bool.false_ne_true (h.symm.trans h1)) (fun h => h h2)
  · refine ⟨_, congrArg Host.Outcome.next (s.tc10Received_on hon), ?_⟩
    obtain ⟨hrx, hst, hen, hcnt, hposts, honly, hframe⟩ := s.wakeNoted_spec hp
    generalize s.wakeNoted p = u at hrx hst hen hcnt hposts honly hframe ⊢
    obtain ⟨hstate, hasleep, htrain, hkeep, hwrote⟩ := u.tc10Wake_spec p
    have hmem : ETH_CNT p 17 ∉ [ETH_TC10_STATUS p, ETH_PHY_STATUS p] := by simp [ETH_CNT, ETH_TC10_STATUS, ETH_PHY_STATUS]; omega
    have heq := hwrote.2
    refine ⟨hstate, (hkeep _ (by decide) (by decide)).trans hrx, hasleep, fun h => (htrain (hst.trans h)).trans hen, ?_, ?_, fun a ha hlost => ?_, ?_⟩
    · rw [State.counts, hwrote.1 _ hmem]
      exact hcnt
    · rw [heq]
      exact hposts
    · simp only [List.mem_cons, List.not_mem_nil, or_false, not_or] at ha
      obtain ⟨ha1, ha2, ha3⟩ := ha
      exact (hwrote.1 a (by simp [ha1, ha2])).trans (honly a (by simp [ha1, ha3]) hlost)
    · rw [heq, hframe]
      rfl
  · exact ⟨_, congrArg Host.Outcome.next (if_neg (h ▸ Bool.false_ne_true)), rfl⟩

end Sys2Proof.Machine

/-! How an operation of the shared engine ends, and what its requester is told (R265, R348, R352, R359). -/

namespace Sys2Proof.Machine

section
variable {s t u : State}

/-! The counters of the engine -/

/-- The result shows to the warden, and the engine is not busy. -/
def State.engShown (t : State) (r : Nat) : Prop :=
  t.fld SEC_ENG_STATUS SEC_ENG_STATUS_result = r ∧ t.fld SEC_ENG_STATUS SEC_ENG_STATUS_done = 1 ∧ t.fld SEC_ENG_CMD SEC_ENG_CMD_busy = 0

/-- An operation has counted, and once more by its result. -/
def State.engCounted (s t : State) (r : Nat) : Prop :=
  t.rd (SEC_CNT 0) = s.rd (SEC_CNT 0) + 1 ∧ (r = 8 → s.counts t (SEC_CNT 1)) ∧ (r = 9 → s.counts t (SEC_CNT 2)) ∧
  (r = 10 → s.counts t (SEC_CNT 3)) ∧ (r = 11 → s.counts t (SEC_CNT 4))

/-- The counters that a result counts in. -/
def engCounters (r : Nat) : List Nat := SEC_CNT 0 :: (if 8 ≤ r ∧ r ≤ 11 then [SEC_CNT (r - 7)] else [])

/-- An operation with this result counts. -/
def State.opCount (s : State) (r : Nat) : State :=
  if r = 8 then (s.secCount 0).secCount 1 else if r = 9 then (s.secCount 0).secCount 2 else if r = 10 then (s.secCount 0).secCount 3
  else if r = 11 then (s.secCount 0).secCount 4 else s.secCount 0

theorem State.opEnd_eq (s : State) (e : SecOp) (r : Nat) : s.opEnd e r =
    (({ s with sec := { s.sec with eng := none, owner := if e.req = 64 then s.sec.owner else none } } : State).opCount r).opResult e.req r := rfl

theorem State.secCount_pos {k : Nat} (hk : k ≠ 0) (s : State) : s.secCount k = s.bump (SEC_CNT k) := if_neg hk

theorem State.secCount_zero_spec (s : State) : (s.secCount 0).rd (SEC_CNT 0) = s.rd (SEC_CNT 0) + 1 ∧ s.wroteRegs (s.secCount 0) [SEC_CNT 0] :=
  ⟨State.rd_wr_same s _ _, State.wroteRegs_wr s _ (List.mem_singleton_self _)⟩

/-- An operation counts, and then in one counter more. -/
theorem State.secCounts_spec (s : State) {k : Nat} (hk : k ≠ 0) :
    let t := (s.secCount 0).secCount k
    t.rd (SEC_CNT 0) = s.rd (SEC_CNT 0) + 1 ∧ s.counts t (SEC_CNT k) ∧ s.wroteRegs t [SEC_CNT 0, SEC_CNT k] := by
  obtain ⟨hcnt, hwrote⟩ := s.secCount_zero_spec
  rw [State.secCount_pos hk]
  have hne : SEC_CNT k ≠ SEC_CNT 0 := by simp only [SEC_CNT]; omega
  have hbump := (s.secCount 0).wroteRegs_bump (SEC_CNT k) 1
  refine ⟨(hbump.1 _ (fun h => hne (List.mem_singleton.1 h).symm)).trans hcnt, ?_,
    (hwrote.mono (List.forall_mem_singleton.2 List.mem_cons_self)).trans
      (hbump.mono (List.forall_mem_singleton.2 (List.mem_cons_of_mem _ (List.mem_singleton_self _))))⟩
  rw [State.counts, ← hwrote.1 _ (fun h => hne (List.mem_singleton.1 h))]
  exact (s.secCount 0).counts_bump _

theorem State.opCount_spec (s : State) (r : Nat) : s.engCounted (s.opCount r) r ∧ s.wroteRegs (s.opCount r) (engCounters r) := by
  have hsub : ∀ k, r = k + 7 → 1 ≤ k → k ≤ 4 → engCounters r = [SEC_CNT 0, SEC_CNT k] := fun k hr h1 h4 => by
    rw [engCounters, if_pos (by omega), hr, Nat.add_sub_cancel]
  unfold State.opCount
  split_ifs with h8 h9 h10 h11
  · obtain ⟨h0, hk, hw⟩ := s.secCounts_spec (k := 1) (by decide)
    rw [hsub 1 h8 (by decide) (by decide)]
    exact ⟨⟨h0, fun _ => hk, fun h => by omega, fun h => by omega, fun h => by omega⟩, hw⟩
  · obtain ⟨h0, hk, hw⟩ := s.secCounts_spec (k := 2) (by decide)
    rw [hsub 2 h9 (by decide) (by decide)]
    exact ⟨⟨h0, fun h => by omega, fun _ => hk, fun h => by omega, fun h => by omega⟩, hw⟩
  · obtain ⟨h0, hk, hw⟩ := s.secCounts_spec (k := 3) (by decide)
    rw [hsub 3 h10 (by decide) (by decide)]
    exact ⟨⟨h0, fun h => by omega, fun h => by omega, fun _ => hk, fun h => by omega⟩, hw⟩
  · obtain ⟨h0, hk, hw⟩ := s.secCounts_spec (k := 4) (by decide)
    rw [hsub 4 h11 (by decide) (by decide)]
    exact ⟨⟨h0, fun h => by omega, fun h => by omega, fun h => by omega, fun _ => hk⟩, hw⟩
  · obtain ⟨h0, hw⟩ := s.secCount_zero_spec
    rw [engCounters, if_neg (by omega)]
    exact ⟨⟨h0, fun h => absurd h h8, fun h => absurd h h9, fun h => absurd h h10, fun h => absurd h h11⟩, hw⟩

theorem engCounters_lt {r a : Nat} (ha : a ∈ engCounters r) : 0x200D0400 ≤ a ∧ a ≤ 0x200D0410 := by
  rw [engCounters, List.mem_cons] at ha
  rcases ha with rfl | ha
  · exact ⟨by decide, by decide⟩
  · split_ifs at ha with h
    · rw [List.mem_singleton.1 ha, SEC_CNT]
      omega
    · cases ha

/-! The warden's result -/

theorem State.opResult_warden (s : State) {r : Nat} (hr : r < 16) :
    (s.opResult 64 r).engShown r ∧ s.wroteRegs (s.opResult 64 r) [SEC_ENG_STATUS, SEC_ENG_CMD] := by
  have heq : s.opResult 64 r = ((s.setFld SEC_ENG_STATUS SEC_ENG_STATUS_result r).setFld SEC_ENG_STATUS SEC_ENG_STATUS_done 1).setFld SEC_ENG_CMD
      SEC_ENG_CMD_busy 0 := if_pos rfl
  have hstatus : ∀ (w : State) (f : Fld), (w.setFld SEC_ENG_CMD SEC_ENG_CMD_busy 0).fld SEC_ENG_STATUS f = w.fld SEC_ENG_STATUS f :=
    fun w f => by rw [State.fld, State.rd_setFld, if_neg (by decide), State.fld]
  rw [heq]
  refine ⟨⟨?_, ?_, State.fld_setFld_same _ _ _ (by decide) (by decide)⟩, ?_⟩
  · rw [hstatus, State.fld_setFld_ne _ _ (by decide) (by decide) (by decide) (Or.inl (by decide)), State.fld_setFld_same _ _ _ (by decide) (by decide)]
    exact Nat.mod_eq_of_lt hr
  · rw [hstatus]
    exact State.fld_setFld_same _ _ _ (by decide) (by decide)
  · exact ((s.wroteRegs_setFld _ _ List.mem_cons_self).trans (State.wroteRegs_setFld _ _ _ List.mem_cons_self)).trans
      (State.wroteRegs_setFld _ _ _ (List.mem_cons_of_mem _ (List.mem_singleton_self _)))

/-- An operation of the warden ends. -/
theorem State.opEnd_warden (s : State) {e : SecOp} (he : e.req = 64) {r : Nat} (hr : r < 16) :
    let t := s.opEnd e r
    t.sec = { s.sec with eng := none } ∧ t.engShown r ∧ s.engCounted t r ∧ (∀ a, a ∉ [SEC_ENG_STATUS, SEC_ENG_CMD] ++ engCounters r → t.rd a = s.rd a) ∧
    t = { s with regs := t.regs, sec := t.sec } := by
  rw [State.opEnd_eq, he, if_pos rfl]
  obtain ⟨⟨h0, h8, h9, h10, h11⟩, hw1⟩ := State.opCount_spec { s with sec := { s.sec with eng := none, owner := s.sec.owner } } r
  generalize ({ s with sec := { s.sec with eng := none, owner := s.sec.owner } } : State).opCount r = u at h0 h8 h9 h10 h11 hw1 ⊢
  obtain ⟨hshown, hw2⟩ := u.opResult_warden hr
  generalize u.opResult 64 r = t at hshown hw2 ⊢
  have hcnt : ∀ k, k < 5 → t.rd (SEC_CNT k) = u.rd (SEC_CNT k) := fun k hk => hw2.1 _ (by
    simp only [List.mem_cons, List.not_mem_nil, or_false, SEC_CNT, SEC_ENG_STATUS, SEC_ENG_CMD]
    omega)
  have hcounts : ∀ k, k < 5 → s.counts u (SEC_CNT k) → s.counts t (SEC_CNT k) := fun k hk h => by
    rw [State.counts, hcnt k hk]
    exact h
  have heq : t = { s with regs := t.regs, sec := { s.sec with eng := none } } := by
    rw [hw2.2, hw1.2]
  have hsec : t.sec = { s.sec with eng := none } := by rw [heq]
  refine ⟨hsec, hshown, ⟨(hcnt 0 (by decide)).trans h0, fun h => hcounts 1 (by decide) (h8 h), fun h => hcounts 2 (by decide) (h9 h),
    fun h => hcounts 3 (by decide) (h10 h), fun h => hcounts 4 (by decide) (h11 h)⟩, fun a ha => ?_, by rw [hsec]; exact heq⟩
  rw [List.mem_append, not_or] at ha
  exact (hw2.1 a ha.1).trans (hw1.1 a ha.2)

/-! A keeper's result -/

/-- A keeper that goes on with this result of its operation. -/
def Invocation.told (iv : Invocation) (r : Nat) : Invocation :=
  { iv.setG (Fin.ofNat 32 iv.ciphRd) (BitVec.ofNat 32 r) with wait := .none, pc := iv.pc + 4 }

/-- The keeper that waits at a core goes on with this result, and its routine counts one that is not OK. -/
def State.keeperTold (s t : State) (c : Nat) (iv : Invocation) (r : Nat) : Prop :=
  t.inv c = some (iv.told r) ∧ (∀ k, k ≠ c → t.inv k = s.inv k) ∧ (∀ k, k ≠ iv.ev.routine → t.rt k = s.rt k) ∧
  t.rt iv.ev.routine = { s.rt iv.ev.routine with cnt := (t.rt iv.ev.routine).cnt } ∧ (r = 0 → t.rt iv.ev.routine = s.rt iv.ev.routine) ∧
  (r ≠ 0 → (s.rt iv.ev.routine).cnt.length = 9 → (t.rt iv.ev.routine).cnt.getD 7 0 = min ((s.rt iv.ev.routine).cnt.getD 7 0 + 1) (2 ^ 32 - 1))

theorem State.keeperTold.congr {s' t' : State} {c : Nat} {iv : Invocation} {r : Nat} (h : s.keeperTold t c iv r) (hrun : s'.kpr.run = s.kpr.run)
    (hrts : s'.kpr.rts = s.kpr.rts) (hrun' : t'.kpr.run = t.kpr.run) (hrts' : t'.kpr.rts = t.kpr.rts) : s'.keeperTold t' c iv r := by
  have hinv : ∀ k, t'.inv k = t.inv k := fun k => by rw [State.inv, hrun', State.inv]
  have hinv0 : ∀ k, s'.inv k = s.inv k := fun k => by rw [State.inv, hrun, State.inv]
  have hrt : ∀ k, t'.rt k = t.rt k := fun k => by rw [State.rt, hrts', State.rt]
  have hrt0 : ∀ k, s'.rt k = s.rt k := fun k => by rw [State.rt, hrts, State.rt]
  simp only [State.keeperTold, hinv, hinv0, hrt, hrt0]
  exact h

theorem State.opResult_keeper (s : State) {c : Nat} {iv : Invocation} (hc : c ≠ 64) (hinv : s.inv c = some iv) (r : Nat) :
    let t := s.opResult c r
    s.keeperTold t c iv r ∧ t = { s with kpr := { s.kpr with run := t.kpr.run, rts := t.kpr.rts } } := by
  have heq : s.opResult c r = if r = 0 then s.setInv c (iv.told r) else (s.setInv c (iv.told r)).rtCount iv.ev.routine 7 := by
    rw [State.opResult, if_neg (c := c = wardenReq) hc, hinv]
    rfl
  have hself : (s.setInv c (iv.told r)).inv c = some (iv.told r) := by rw [State.inv_setInv, if_pos rfl, hinv, Option.map_some]
  have hothers : ∀ k, k ≠ c → (s.setInv c (iv.told r)).inv k = s.inv k := fun k hk => by rw [State.inv_setInv, if_neg hk]
  have hset : s.setInv c (iv.told r) = { s with kpr := { s.kpr with run := (s.setInv c (iv.told r)).kpr.run } } := rfl
  dsimp only
  rw [heq]
  generalize s.setInv c (iv.told r) = u at hself hothers hset ⊢
  have hrt : ∀ k, u.rt k = s.rt k := fun k => by rw [hset]; rfl
  split_ifs with h0
  · refine ⟨⟨hself, hothers, fun k _ => hrt k, ?_, fun _ => hrt _, fun h => absurd h0 h⟩, hset.trans ?_⟩
    · rw [hrt]
    · rw [hset]
  · obtain ⟨hrest, hrec, hcnt, hframe⟩ := u.rtCount_spec iv.ev.routine 7
    have hrun : (u.rtCount iv.ev.routine 7).kpr.run = u.kpr.run := rfl
    generalize u.rtCount iv.ev.routine 7 = w at hrest hrec hcnt hframe hrun ⊢
    have hinv' : ∀ k, w.inv k = u.inv k := fun k => by rw [State.inv, hrun, State.inv]
    rw [hrt] at hrec hcnt
    refine ⟨⟨(hinv' c).trans hself, fun k hk => (hinv' k).trans (hothers k hk), fun k hk => (hrest k hk).trans (hrt k), hrec, fun h => absurd h h0,
      fun _ hlen => hcnt (by omega)⟩, ?_⟩
    rw [hframe, hset]

/-- An operation of a keeper ends. -/
theorem State.opEnd_keeper (s : State) {e : SecOp} {c : Nat} {iv : Invocation} (hc : c ≠ 64) (he : e.req = c) (hinv : s.inv c = some iv) (r : Nat) :
    let t := s.opEnd e r
    t.sec = { s.sec with eng := none, owner := none } ∧ s.keeperTold t c iv r ∧ s.engCounted t r ∧ (∀ a, a ∉ engCounters r → t.rd a = s.rd a) ∧
    t = { s with regs := t.regs, sec := t.sec, kpr := { s.kpr with run := t.kpr.run, rts := t.kpr.rts } } := by
  rw [State.opEnd_eq, he, if_neg hc]
  obtain ⟨hcnt, hw⟩ := State.opCount_spec { s with sec := { s.sec with eng := none, owner := none } } r
  generalize ({ s with sec := { s.sec with eng := none, owner := none } } : State).opCount r = u at hcnt hw ⊢
  have hu : u = { s with regs := u.regs, sec := { s.sec with eng := none, owner := none } } := hw.2
  have hkpr : u.kpr = s.kpr := by rw [hu]
  obtain ⟨htold, heq⟩ := u.opResult_keeper (iv := iv) hc (r := r) ((congrArg (fun k => (k.run.find? (fun e => e.1 == c)).map (fun e => e.2)) hkpr).trans hinv)
  generalize u.opResult c r = t at htold heq ⊢
  have hrd : ∀ a, t.rd a = u.rd a := fun a => by rw [heq]; rfl
  have hsec : t.sec = { s.sec with eng := none, owner := none } := by rw [heq, hu]
  refine ⟨hsec, htold.congr (by rw [hkpr]) (by rw [hkpr]) rfl rfl, ?_, fun a ha => (hrd a).trans (hw.1 a ha), ?_⟩
  · simp only [State.engCounted, State.counts, hrd]
    exact hcnt
  · rw [hsec]
    rw [heq, hu]

end

end Sys2Proof.Machine

/-! The engine lock (R265, R347 to R349) and what the setup of an operation refuses (R342, R350). -/

namespace Sys2Proof.Machine

section
variable {s t u : State} {m : Master} {v : Word}

theorem State.regCommand_sec {off : Nat} (hoff : off < 0x10000) (h : s.writable m (0x200D0000 + off)) (v : Word) :
    s.regCommand m (0x200D0000 + off) v = (s.seen m).secWrite off v := by
  have hblock : (0x200D0000 + off) / 0x10000 = 0x200D := by omega
  have hrest : (0x200D0000 + off) % 0x10000 = off := by omega
  rw [State.regCommand_eq h (by simp only [blockAt, hblock]; rfl) (by omega)]
  simp only [State.regWrite, hblock, hrest]

/-! The warden's request and its release -/

/-- The lock without the warden, as holder or as one that waits. -/
def SecState.unlocked (x : SecState) : SecState := if x.owner = some 64 then { x with owner := none } else { x with queue := x.queue.filter (· != 64) }

theorem State.lockRelease_eq (s : State) : s.lockRelease = { s with sec := s.sec.unlocked } := by
  rw [State.lockRelease, SecState.unlocked, wardenReq]
  split <;> rfl

/-- A request that is released at once leaves the lock as the release alone does. -/
theorem State.lockRelease_request (s : State) : (s.lockRequest 64).lockRelease = s.lockRelease := by
  rw [State.lockRequest]
  split_ifs with h
  · rfl
  · rw [not_or] at h
    rw [State.lockRelease_eq, State.lockRelease_eq, SecState.unlocked, SecState.unlocked, if_neg h.1]
    have hf : (s.sec.queue ++ [64]).filter (· != 64) = s.sec.queue.filter (· != 64) := by simp
    refine congrArg (fun x => ({ s with sec := x } : State)) ((if_neg h.1).trans ?_)
    rw [← hf]
    rfl

theorem State.secWrite_lock (s : State) (v : Word) : s.secWrite 4 v =
    if v.toNat.testBit 1 then (if v.toNat.testBit 0 then s.lockRequest 64 else s).lockRelease
    else if v.toNat.testBit 0 then s.lockRequest 64 else s := rfl

theorem State.secWrite_release (s : State) (h1 : v.toNat.testBit 1 = true) : s.secWrite 4 v = { s with sec := s.sec.unlocked } := by
  rw [State.secWrite_lock, if_pos h1]
  split
  · rw [State.lockRelease_request, State.lockRelease_eq]
  · exact s.lockRelease_eq

/-! The grant -/

/-- The lock is granted to the head of its queue, and the rest waits. -/
def State.granted (s : State) (q : Nat) (rest : List Nat) (eng : Option SecOp) : State :=
  { s with sec := { s.sec with owner := some q, queue := rest, eng := eng } }

/-- The descriptor that a keeper names stands in its private or its shared data. -/
def State.descHeld (s : State) (iv : Invocation) : Bool :=
  (s.range iv.ev.routine iv.ciphAt 32).any (fun p => (p.win == .priv || p.win == .shared) && iv.ciphAt % 4 == 0)

theorem State.lockGrant_none (h : s.sec.owner ≠ none ∨ s.sec.eng ≠ none ∨ s.sec.kop ≠ none ∨ s.sec.queue = []) : s.lockGrant = s := by
  unfold State.lockGrant
  split
  · next ho he hk hq =>
    rw [ho, he, hk, hq] at h
    simp at h
  · rfl

section
variable {c : Nat} {rest : List Nat} {iv : Invocation} (ho : s.sec.owner = none) (he : s.sec.eng = none) (hk : s.sec.kop = none)
include ho he hk

theorem State.lockGrant_warden (hq : s.sec.queue = 64 :: rest) : s.lockGrant = { s with sec := { s.sec with owner := some 64, queue := rest } } := by
  rw [State.lockGrant, ho, he, hk, hq]
  rfl

theorem State.lockGrant_keeper (hc : c ≠ 64) (hq : s.sec.queue = c :: rest) (hinv : s.inv c = some iv) :
    s.lockGrant = if s.descHeld iv = true then
      (s.granted c rest none).opStart c ((List.range 8).map (fun k => leNat (s.viewBytes c iv (iv.ciphAt + 4 * k) 4)))
    else s.granted c rest (some { req := c, desc := [], slot := 64, key := [], early := some 13 }) := by
  have hset : (s.setSec { s.sec with owner := some c, queue := rest }) = s.granted c rest none := by rw [State.granted, ← he, State.setSec]
  have hinv' : (s.granted c rest none).inv c = some iv := hinv
  rw [State.lockGrant, ho, he, hk, hq]
  dsimp only
  rw [if_neg (c := c = wardenReq) hc, hset, hinv', State.descHeld]
  have hrange : (s.granted c rest none).range iv.ev.routine iv.ciphAt 32 = s.range iv.ev.routine iv.ciphAt 32 := rfl
  dsimp only
  rw [hrange]
  cases s.range iv.ev.routine iv.ciphAt 32 <;> rfl

theorem State.lockGrant_gone (hc : c ≠ 64) (hq : s.sec.queue = c :: rest) (hinv : s.inv c = none) :
    s.lockGrant = { s with sec := { s.sec with queue := rest } } := by
  have hset : (s.setSec { s.sec with owner := some c, queue := rest }) = s.granted c rest none := by rw [State.granted, ← he, State.setSec]
  have hinv' : (s.granted c rest none).inv c = none := hinv
  have hleft : ({ s with sec := { s.sec with queue := rest } } : State) = { s with sec := { s.sec with owner := none, eng := none, queue := rest } } := by
    dsimp only
    rw [ho, he]
  rw [State.lockGrant, ho, he, hk, hq, hleft]
  dsimp only
  rw [if_neg (c := c = wardenReq) hc, hset, hinv']
  rfl

end

theorem State.descHeld_of {iv : Invocation} {p : KPlace} (halign : iv.ciphAt % 4 = 0) (hp : s.range iv.ev.routine iv.ciphAt 32 = some p)
    (hwin : p.win = .priv ∨ p.win = .shared) : s.descHeld iv = true := by
  rw [State.descHeld, hp, Option.any_some, halign]
  rcases hwin with h | h <;> rw [h] <;> rfl

theorem State.descHeld_not {iv : Invocation}
    (h : iv.ciphAt % 4 ≠ 0 ∨ (∀ p : KPlace, s.range iv.ev.routine iv.ciphAt 32 = some p → p.win ≠ .priv ∧ p.win ≠ .shared)) : s.descHeld iv = false := by
  rw [State.descHeld]
  cases hp : s.range iv.ev.routine iv.ciphAt 32 with
  | none => rfl
  | some p =>
    rw [Option.any_some, Bool.and_eq_false_iff, Bool.or_eq_false_iff]
    rcases h with h | h
    · exact Or.inr (beq_false_of_ne h)
    · obtain ⟨h1, h2⟩ := h p hp
      exact Or.inl ⟨beq_false_of_ne h1, beq_false_of_ne h2⟩

/-! What the setup refuses -/

section
variable {r : Nat} {w : List Nat}

/-- A field out of range, or a range that the requester may not read or write. -/
def State.badDesc (s : State) (r : Nat) (w : List Nat) : Prop := Desc.fieldsOk w = false ∨ ∃ x ∈ (descOf w).ranges, s.rangeOk r x = false

theorem State.badDesc_iff : s.badDesc r w ↔ (!Desc.fieldsOk w || !(descOf w).ranges.all (s.rangeOk r)) = true := by
  simp [State.badDesc]

theorem State.opRefusal_bad (h : s.badDesc r w) : s.opRefusal r w = some 13 := if_pos (State.badDesc_iff.1 h)

theorem State.opRefusal_good (h : ¬ s.badDesc r w) : s.opRefusal r w =
    if (s.slotAttr (descOf w).slot).testBit 0 = true then (if s.keyUse r (descOf w) = true then none else some 11) else some 10 := by
  rw [State.badDesc_iff] at h
  rw [State.opRefusal, if_neg h, State.slotLoaded, bit]
  cases (s.slotAttr (descOf w).slot).testBit 0 <;> cases s.keyUse r (descOf w) <;> rfl

/-- The use that the operation is, as the slot's attributes permit it. -/
def Desc.usage (d : Desc) (a : Nat) : Bool :=
  if d.alg ≤ 2 then a.testBit 10 else if d.alg ≤ 4 then a.testBit 11 else if d.alg = 5 then a.testBit 12 else a.testBit 13

/-- The kind of key that the operation takes. -/
abbrev Desc.keyKind (d : Desc) (a : Nat) : Prop := if d.alg ≤ 5 then attrType a ≤ 1 else attrType a = 2

theorem State.keyUse_eq (s : State) (r : Nat) (d : Desc) : s.keyUse r d =
    (d.usage (s.slotAttr d.slot) && decide (d.keyKind (s.slotAttr d.slot)) &&
      (if r = 64 then (s.slotAttr d.slot).testBit 17
      else (s.slotAttr d.slot).testBit 16 && (s.inv r).any (fun iv => (s.routine iv.ev.routine).keyMask.testBit d.slot))) := by
  unfold State.keyUse
  cases s.inv r <;> rfl

end

end

end Sys2Proof.Machine

/-! Requests that wait too long, the hold limit, operations and random words (R347 to R349, R352, R356). -/

namespace Sys2Proof.Machine

section
variable {s t u : State} {m : Master} {v : Word} {c : Nat} {iv : Invocation}

/-! A request that waits too long -/

/-- A rate-limited event that is not held back is told. -/
theorem State.posts_raiseLim {k i d : Nat} (h : s.mayRaise c i = true) : s.posts (s.raiseLim c k i d) c k (i % 4096) := by
  intro hrun hroom
  rw [State.raiseLim, hrun, h, Bool.and_true, if_pos rfl]
  exact (s.markRaise c i).posts_raise c k i d hrun hroom

theorem State.lockTimeout_not (h : c ∉ s.sec.queue) : s.lockTimeout c = s := if_neg (fun hc => h hc.1)

theorem State.lockTimeout_gone (hq : c ∈ s.sec.queue) (hc : c ≠ 64) (hinv : s.inv c = none) :
    s.lockTimeout c = { s with sec := { s.sec with queue := s.sec.queue.filter (· != c) } } := by
  rw [State.lockTimeout, if_pos ⟨hq, hc⟩, hinv]
  rfl

theorem State.lockTimeout_keeper (hq : c ∈ s.sec.queue) (hc : c ≠ 64) (hinv : s.inv c = some iv) :
    s.lockTimeout c = ((({ s with sec := { s.sec with queue := s.sec.queue.filter (· != c) } } : State).bump (SEC_CNT 5)).opResult c 12).raiseLim
      0x0C07 2 iv.ev.routine := by
  rw [State.lockTimeout, if_pos ⟨hq, hc⟩, hinv]
  rfl

theorem State.lockTimeout_spec (hq : c ∈ s.sec.queue) (hc : c ≠ 64) (hinv : s.inv c = some iv) :
    let t := s.lockTimeout c
    s.keeperTold t c iv 12 ∧ s.counts t (SEC_CNT 5) ∧ (s.mayRaise 0x0C07 iv.ev.routine = true → s.posts t 0x0C07 2 (iv.ev.routine % 4096)) ∧
    s.onlyRegs t [SEC_CNT 5] ∧
    t = { s with regs := t.regs, flt := t.flt, kpr := { s.kpr with run := t.kpr.run, rts := t.kpr.rts },
                 sec := { s.sec with queue := s.sec.queue.filter (· != c) } } := by
  dsimp only
  rw [State.lockTimeout_keeper hq hc hinv]
  have hw := State.wroteRegs_bump { s with sec := { s.sec with queue := s.sec.queue.filter (· != c) } } (SEC_CNT 5) 1
  have hcnt : s.counts (({ s with sec := { s.sec with queue := s.sec.queue.filter (· != c) } } : State).bump (SEC_CNT 5)) (SEC_CNT 5) :=
    State.counts_bump _ _
  have hbinv : (({ s with sec := { s.sec with queue := s.sec.queue.filter (· != c) } } : State).bump (SEC_CNT 5)).inv c = some iv := hinv
  generalize ({ s with sec := { s.sec with queue := s.sec.queue.filter (· != c) } } : State).bump (SEC_CNT 5) = u at hw hcnt hbinv ⊢
  have hu := hw.2
  obtain ⟨htold, hframe⟩ := u.opResult_keeper hc hbinv 12
  generalize u.opResult c 12 = w at htold hframe ⊢
  have hwrd : ∀ a, w.rd a = u.rd a := fun a => by rw [hframe]; rfl
  have hflt : w.flt = s.flt := by rw [hframe, hu]
  have hrun : w.running = s.running := by rw [hframe, hu]; rfl
  have hmay : w.mayRaise 0x0C07 iv.ev.routine = s.mayRaise 0x0C07 iv.ev.routine := by rw [hframe, hu]; rfl
  have hlim := w.raiseLim_frame 0x0C07 2 iv.ev.routine 0 (by decide)
  have hreg := w.raiseLim_regFrame (k := 2) iv.ev.routine 0 (c := 0x0C07) (by decide) (by decide) rfl
  have hposts := fun h => State.posts_congr hrun hflt (w.posts_raiseLim (k := 2) (d := 0) (hmay.trans h))
  generalize w.raiseLim 0x0C07 2 iv.ev.routine = t at hlim hreg hposts ⊢
  have hkpr : t.kpr = w.kpr := hlim.kpr
  refine ⟨htold.congr (by rw [hu]) (by rw [hu]) (by rw [hkpr]) (by rw [hkpr]), ?_, hposts, fun a ha hl => ?_, ?_⟩
  · rw [State.counts, hlim.rd _ (by decide), hwrd]
    exact hcnt
  · exact (hlim.onlyRegs [] a List.not_mem_nil hl).trans ((hwrd a).trans (hw.1 a ha))
  · rw [hkpr, hreg, hframe, hu]

/-! The hold limit -/

/-- The warden's operation in progress ends as exceeded. -/
def State.engCut (s : State) : State := s.sec.eng.elim s (fun e => s.opEnd e 14)

/-- The key operation in progress ends as exceeded. -/
def State.kopCut (s : State) : State := if s.sec.kop.isSome then s.kopEnd 9 none else s

/-- Nobody holds the lock. -/
def State.unheld (s : State) : State := { s with sec := { s.sec with owner := none } }

theorem State.holdExceeded_eq (h : s.sec.owner = some 64) : s.holdExceeded =
    ((s.engCut.kopCut.unheld.setFld SEC_LOCK_STATUS SEC_LOCK_STATUS_hold_exceeded 1).bump (SEC_CNT 6)).raise 0x0B01 3 := by
  rw [State.holdExceeded, if_pos (c := s.sec.owner = some wardenReq) h, State.engCut]
  cases s.sec.eng <;> rfl

/-- Registers written one after the other, each once. -/
theorem State.foldl_wr_range {a : Nat → Nat} (ha : ∀ i j, a i = a j → i = j) (w : Nat → Word) (s : State) (n : Nat) :
    let t := (List.range n).foldl (fun t k => t.wr (a k) (w k)) s
    (∀ j < n, t.rd (a j) = w j) ∧ s.wroteRegs t ((List.range n).map a) := by
  induction n with
  | zero => exact ⟨fun j hj => absurd hj (Nat.not_lt_zero j), State.wroteRegs.refl s _⟩
  | succ n ih =>
    obtain ⟨hrd, hw⟩ := ih
    rw [List.range_succ, List.foldl_append, List.foldl_cons, List.foldl_nil]
    generalize (List.range n).foldl (fun t k => t.wr (a k) (w k)) s = u at hrd hw ⊢
    refine ⟨fun j hj => ?_, (hw.mono fun b hb => ?_).trans (State.wroteRegs_wr u _ ?_)⟩
    · rw [State.rd_wr]
      split_ifs with h
      · rw [ha j n h]
      · exact hrd j (by have : j ≠ n := fun e => h (congrArg a e); omega)
    · rw [List.map_append]
      exact List.mem_append_left _ hb
    · rw [List.map_append]
      exact List.mem_append_right _ (List.mem_singleton_self _)

/-- The registers of a key operation. -/
def kopRegs : List Nat := SEC_KOP_CMD :: SEC_KOP_STATUS :: (List.range 20).map SEC_KOP_DATA

/-- The end of a key operation without output, as the registers show it. -/
def State.kopShown (s : State) (r : Nat) : State :=
  (((s.setFld SEC_KOP_CMD SEC_KOP_CMD_busy 0).setFld SEC_KOP_STATUS SEC_KOP_STATUS_result r).setFld SEC_KOP_STATUS SEC_KOP_STATUS_done
    1).setFld SEC_KOP_STATUS SEC_KOP_STATUS_out_len 0

theorem State.kopShown_spec (s : State) {r : Nat} (hr : r < 16) :
    let t := s.kopShown r
    t.fld SEC_KOP_STATUS SEC_KOP_STATUS_result = r ∧ t.fld SEC_KOP_STATUS SEC_KOP_STATUS_done = 1 ∧ t.fld SEC_KOP_CMD SEC_KOP_CMD_busy = 0 ∧
    s.wroteRegs t [SEC_KOP_CMD, SEC_KOP_STATUS] := by
  have hmem : ∀ (w : State) (f : Fld) (n : Nat), w.wroteRegs (w.setFld SEC_KOP_STATUS f n) [SEC_KOP_CMD, SEC_KOP_STATUS] := fun w f n =>
    w.wroteRegs_setFld f n (List.mem_cons_of_mem _ (List.mem_singleton_self _))
  have hbusy : ∀ (w : State) (f : Fld) (n : Nat), (w.setFld SEC_KOP_STATUS f n).fld SEC_KOP_CMD SEC_KOP_CMD_busy = w.fld SEC_KOP_CMD SEC_KOP_CMD_busy :=
    fun w f n => by rw [State.fld, State.rd_setFld, if_neg (by decide), State.fld]
  refine ⟨?_, ?_, ?_, (((s.wroteRegs_setFld _ _ List.mem_cons_self).trans (hmem _ _ _)).trans (hmem _ _ _)).trans (hmem _ _ _)⟩
  · rw [State.kopShown, State.fld_setFld_ne _ _ (by decide) (by decide) (by decide) (Or.inl (by decide)),
      State.fld_setFld_ne _ _ (by decide) (by decide) (by decide) (Or.inl (by decide)), State.fld_setFld_same _ _ _ (by decide) (by decide)]
    exact Nat.mod_eq_of_lt hr
  · rw [State.kopShown, State.fld_setFld_ne _ _ (by decide) (by decide) (by decide) (Or.inl (by decide)),
      State.fld_setFld_same _ _ _ (by decide) (by decide)]
    rfl
  · rw [State.kopShown, hbusy, hbusy, hbusy, State.fld_setFld_same _ _ _ (by decide) (by decide)]
    rfl

theorem State.kopEnd_nothing (s : State) {r : Nat} (hr : r < 16) :
    let t := s.kopEnd r none
    t.fld SEC_KOP_STATUS SEC_KOP_STATUS_result = r ∧ t.fld SEC_KOP_STATUS SEC_KOP_STATUS_done = 1 ∧ t.fld SEC_KOP_CMD SEC_KOP_CMD_busy = 0 ∧
    (∀ j < 20, t.rd (SEC_KOP_DATA j) = 0) ∧ t.sec = { s.sec with kop := none } ∧ (∀ a, a ∉ kopRegs → t.rd a = s.rd a) ∧
    t = { s with regs := t.regs, sec := t.sec } := by
  have heq : s.kopEnd r none = (List.range 20).foldl (fun t k => t.wr (SEC_KOP_DATA k) (BitVec.ofNat 32 (leNat (slice (4 * k) 4 []))))
    (({ s with sec := { s.sec with kop := none } } : State).kopShown r) := rfl
  obtain ⟨hres, hdone, hbusy, hw1⟩ := State.kopShown_spec { s with sec := { s.sec with kop := none } } hr
  rw [heq]
  generalize ({ s with sec := { s.sec with kop := none } } : State).kopShown r = u at hres hdone hbusy hw1 ⊢
  obtain ⟨hdata, hw2⟩ := u.foldl_wr_range (a := SEC_KOP_DATA) (fun i j h => by simp only [SEC_KOP_DATA] at h; omega)
    (fun k => BitVec.ofNat 32 (leNat (slice (4 * k) 4 []))) 20
  generalize (List.range 20).foldl (fun t k => t.wr (SEC_KOP_DATA k) (BitVec.ofNat 32 (leNat (slice (4 * k) 4 [])))) u = t at hdata hw2 ⊢
  have hnot : ∀ a, a < SEC_KOP_DATA 0 → a ∉ (List.range 20).map SEC_KOP_DATA := fun a ha h => by
    obtain ⟨k, -, rfl⟩ := List.mem_map.1 h
    simp only [SEC_KOP_DATA] at ha
    omega
  have hstatus : ∀ f, t.fld SEC_KOP_STATUS f = u.fld SEC_KOP_STATUS f := fun f => by rw [State.fld, hw2.1 _ (hnot _ (by decide)), State.fld]
  have hcmd : ∀ f, t.fld SEC_KOP_CMD f = u.fld SEC_KOP_CMD f := fun f => by rw [State.fld, hw2.1 _ (hnot _ (by decide)), State.fld]
  have hframe : t = { s with regs := t.regs, sec := { s.sec with kop := none } } := by rw [hw2.2, hw1.2]
  have hsec : t.sec = { s.sec with kop := none } := by rw [hframe]
  refine ⟨(hstatus _).trans hres, (hstatus _).trans hdone, (hcmd _).trans hbusy, fun j hj => (hdata j hj).trans ?_, hsec, fun a ha => ?_, ?_⟩
  · rw [show slice (4 * j) 4 ([] : List Byte) = [] by simp [slice]]
    rfl
  · rw [kopRegs, List.mem_cons, List.mem_cons, not_or, not_or] at ha
    obtain ⟨h1, h2, h3⟩ := ha
    exact (hw2.1 a h3).trans (hw1.1 a (by simp [h1, h2]))
  · rw [hsec]
    exact hframe

/-- The registers that the end of a key operation writes, if there is one. -/
def State.kopTouched (s : State) : List Nat := if s.sec.kop ≠ none then kopRegs else []

theorem State.kopCut_spec (s : State) :
    let t := s.kopCut
    (s.sec.kop ≠ none → t.fld SEC_KOP_STATUS SEC_KOP_STATUS_result = 9 ∧ t.fld SEC_KOP_STATUS SEC_KOP_STATUS_done = 1 ∧
      t.fld SEC_KOP_CMD SEC_KOP_CMD_busy = 0 ∧ ∀ j < 20, t.rd (SEC_KOP_DATA j) = 0) ∧ t.sec = { s.sec with kop := none } ∧
    (∀ a, a ∉ s.kopTouched → t.rd a = s.rd a) ∧ t = { s with regs := t.regs, sec := t.sec } := by
  rw [State.kopCut, State.kopTouched]
  by_cases h : s.sec.kop = none
  · rw [h]
    refine ⟨fun hn => absurd rfl hn, ?_, fun _ _ => rfl, rfl⟩
    conv_lhs => rw [if_neg (by decide)]
    rw [← h]
  · rw [if_pos (Option.isSome_iff_ne_none.2 h), if_pos h]
    obtain ⟨hres, hdone, hbusy, hdata, hsec, hrd, hframe⟩ := s.kopEnd_nothing (r := 9) (by decide)
    exact ⟨fun _ => ⟨hres, hdone, hbusy, hdata⟩, hsec, hrd, hframe⟩

/-- The registers that the end of the warden's operation writes, if there is one. -/
def State.engTouched (s : State) : List Nat := if s.sec.eng ≠ none then [SEC_ENG_STATUS, SEC_ENG_CMD, SEC_CNT 0] else []

theorem State.engCut_spec (s : State) (h : ∀ e : SecOp, s.sec.eng = some e → e.req = 64) :
    let t := s.engCut
    (s.sec.eng ≠ none → s.engCounted t 14 ∧ t.engShown 14) ∧ t.sec = { s.sec with eng := none } ∧
    (∀ a, a ∉ s.engTouched → t.rd a = s.rd a) ∧ t = { s with regs := t.regs, sec := t.sec } := by
  rw [State.engCut, State.engTouched]
  cases he : s.sec.eng with
  | none => exact ⟨fun hn => absurd rfl hn, by rw [Option.elim_none, ← he], fun _ _ => rfl, rfl⟩
  | some e =>
    obtain ⟨hsec, hshown, hcounted, hrd, hframe⟩ := s.opEnd_warden (h e he) (r := 14) (by decide)
    rw [Option.elim_some, if_pos (Option.some_ne_none e)]
    exact ⟨fun _ => ⟨hcounted, hshown⟩, hsec, hrd, hframe⟩

/-- What the limit marks, counts and tells, whatever it cut. -/
theorem State.holdMarked_spec (s : State) :
    let t := ((s.unheld.setFld SEC_LOCK_STATUS SEC_LOCK_STATUS_hold_exceeded 1).bump (SEC_CNT 6)).raise 0x0B01 3
    t.sec = { s.sec with owner := none } ∧ t.fld SEC_LOCK_STATUS SEC_LOCK_STATUS_hold_exceeded = 1 ∧ s.counts t (SEC_CNT 6) ∧ s.posts t 0x0B01 3 noInst ∧
    s.onlyRegs t [SEC_LOCK_STATUS, SEC_CNT 6] ∧ t = { s with regs := t.regs, flt := t.flt, sec := t.sec } := by
  have hw := s.unheld.wroteRegs_setFld SEC_LOCK_STATUS_hold_exceeded 1 (List.mem_singleton_self SEC_LOCK_STATUS)
  have hset := State.fld_setFld_same (f := SEC_LOCK_STATUS_hold_exceeded) s.unheld SEC_LOCK_STATUS 1 (by decide) (by decide)
  generalize s.unheld.setFld SEC_LOCK_STATUS SEC_LOCK_STATUS_hold_exceeded 1 = u at hw hset ⊢
  have hb := u.wroteRegs_bump (SEC_CNT 6) 1
  have hc := u.counts_bump (SEC_CNT 6)
  generalize u.bump (SEC_CNT 6) = w at hb hc ⊢
  have hwu : w = { s with regs := w.regs, sec := { s.sec with owner := none } } := by rw [hb.2, hw.2, State.unheld]
  have hall : s.onlyRegs w [SEC_LOCK_STATUS, SEC_CNT 6] := fun a ha _ => by
    simp only [List.mem_cons, List.not_mem_nil, or_false, not_or] at ha
    exact (hb.1 a (fun h => ha.2 (List.mem_singleton.1 h))).trans (hw.1 a (fun h => ha.1 (List.mem_singleton.1 h)))
  obtain ⟨hposts, honly, hframe⟩ := State.raised (s := s) (u := w) (by rw [hwu]; rfl) (by rw [hwu]) hall noInst 0 (c := 0x0B01) (k := 3)
    (by decide) (by decide) rfl
  have hrd := (w.raise_frame 0x0B01 3 noInst 0 (by decide)).rd
  generalize w.raise 0x0B01 3 = t at hposts honly hframe hrd ⊢
  have heq : t = { s with regs := t.regs, flt := t.flt, sec := { s.sec with owner := none } } := by rw [hframe, hwu]
  have hsec : t.sec = { s.sec with owner := none } := by rw [heq]
  refine ⟨hsec, ?_, ?_, hposts, honly, by rw [hsec]; exact heq⟩
  · rw [State.fld, hrd _ (by decide), hb.1 _ (by decide)]
    exact hset
  · rw [State.counts, hrd _ (by decide), show s.rd (SEC_CNT 6) = u.rd (SEC_CNT 6) from (hw.1 _ (by decide)).symm]
    exact hc

theorem State.engCounted.congr {r : Nat} (h : s.engCounted t r) (hrd : ∀ k < 5, u.rd (SEC_CNT k) = t.rd (SEC_CNT k)) : s.engCounted u r := by
  simp only [State.engCounted, State.counts, hrd 0 (by decide), hrd 1 (by decide), hrd 2 (by decide), hrd 3 (by decide), hrd 4 (by decide)]
  exact h

theorem State.engShown.congr {r : Nat} (h : t.engShown r) (hstatus : u.rd SEC_ENG_STATUS = t.rd SEC_ENG_STATUS) (hcmd : u.rd SEC_ENG_CMD = t.rd SEC_ENG_CMD) :
    u.engShown r := by
  simp only [State.engShown, State.fld, hstatus, hcmd]
  exact h

theorem State.holdExceeded_spec (h : s.sec.owner = some 64) (he : ∀ e : SecOp, s.sec.eng = some e → e.req = 64) :
    let t := s.holdExceeded
    t.sec = { s.sec with owner := none, eng := none, kop := none } ∧ t.fld SEC_LOCK_STATUS SEC_LOCK_STATUS_hold_exceeded = 1 ∧
    s.counts t (SEC_CNT 6) ∧ s.posts t 0x0B01 3 noInst ∧ (s.sec.eng ≠ none → s.engCounted t 14 ∧ t.engShown 14) ∧
    (s.sec.kop ≠ none → t.fld SEC_KOP_STATUS SEC_KOP_STATUS_result = 9 ∧ t.fld SEC_KOP_STATUS SEC_KOP_STATUS_done = 1 ∧
      t.fld SEC_KOP_CMD SEC_KOP_CMD_busy = 0 ∧ ∀ j < 20, t.rd (SEC_KOP_DATA j) = 0) ∧
    s.onlyRegs t ([SEC_LOCK_STATUS, SEC_CNT 6] ++ s.engTouched ++ s.kopTouched) ∧ t = { s with regs := t.regs, flt := t.flt, sec := t.sec } := by
  rw [State.holdExceeded_eq h]
  obtain ⟨heng, hesec, herd, hefr⟩ := s.engCut_spec he
  have htouch : ∀ a ∈ s.engTouched, a = SEC_ENG_STATUS ∨ a = SEC_ENG_CMD ∨ a = SEC_CNT 0 := fun a ha => by
    rw [State.engTouched] at ha
    split_ifs at ha
    · simpa using ha
    · cases ha
  generalize s.engCut = d at heng hesec herd hefr ⊢
  obtain ⟨hkop, hksec, hkrd, hkfr⟩ := d.kopCut_spec
  have hdk : d.sec.kop = s.sec.kop := by rw [hesec]
  have hkt : d.kopTouched = s.kopTouched := by rw [State.kopTouched, hdk, State.kopTouched]
  rw [hkt] at hkrd
  have hktouch : ∀ a ∈ s.kopTouched, 0x200D0200 ≤ a ∧ a < 0x200D0300 := fun a ha => by
    rw [State.kopTouched] at ha
    split_ifs at ha
    · simp only [kopRegs, List.mem_cons, List.mem_map, List.mem_range] at ha
      rcases ha with rfl | rfl | ⟨k, hk, rfl⟩
      · decide
      · decide
      · rw [SEC_KOP_DATA]
        omega
    · cases ha
  generalize d.kopCut = k at hkop hksec hkrd hkfr ⊢
  obtain ⟨hsec, hset, hcnt, hposts, honly, hframe⟩ := k.holdMarked_spec
  generalize ((k.unheld.setFld SEC_LOCK_STATUS SEC_LOCK_STATUS_hold_exceeded 1).bump (SEC_CNT 6)).raise 0x0B01 3 = t at hsec hset hcnt hposts honly hframe ⊢
  have hoff : ∀ a, ¬ (0x200D0200 ≤ a ∧ a < 0x200D0300) → k.rd a = d.rd a := fun a ha => hkrd a (fun hm => ha (hktouch a hm))
  have hk6 : k.rd (SEC_CNT 6) = s.rd (SEC_CNT 6) := (hoff _ (by decide)).trans (herd _ (fun hm => absurd (htouch _ hm) (by decide)))
  have htk : ∀ a, a ∉ [SEC_LOCK_STATUS, SEC_CNT 6] → 0x200D0000 ≤ a → t.rd a = k.rd a := fun a ha hl =>
    honly a ha (Or.inr (by simp only [FLT_SRC_LOST]; omega))
  have hkds : k = { s with regs := k.regs, sec := { s.sec with eng := none, kop := none } } := by
    have hks : k.sec = { s.sec with eng := none, kop := none } := by rw [hksec, hesec]
    rw [← hks]
    exact hkfr.trans (by rw [hefr])
  refine ⟨?_, hset, ?_, State.posts_congr (by rw [hkds]; rfl) (by rw [hkds]) hposts, fun hn => ⟨?_, ?_⟩, fun hn => ?_, fun a ha hl => ?_, ?_⟩
  · rw [hsec, hksec, hesec]
  · rw [State.counts, ← hk6]
    exact hcnt
  · refine (heng hn).1.congr fun j hj => ?_
    have hj1 : SEC_CNT j ∉ [SEC_LOCK_STATUS, SEC_CNT 6] := by
      simp only [SEC_CNT, SEC_LOCK_STATUS, List.mem_cons, List.not_mem_nil, or_false]
      omega
    exact (htk _ hj1 (by rw [SEC_CNT]; omega)).trans (hoff _ (by rw [SEC_CNT]; omega))
  · exact (heng hn).2.congr ((htk _ (by decide) (by decide)).trans (hoff _ (by decide))) ((htk _ (by decide) (by decide)).trans (hoff _ (by decide)))
  · obtain ⟨hres, hdone, hbusy, hdata⟩ := hkop (hdk ▸ hn)
    refine ⟨?_, ?_, ?_, fun j hj => (htk _ ?_ (by rw [SEC_KOP_DATA]; omega)).trans (hdata j hj)⟩
    · rw [State.fld, htk _ (by decide) (by decide)]
      exact hres
    · rw [State.fld, htk _ (by decide) (by decide)]
      exact hdone
    · rw [State.fld, htk _ (by decide) (by decide)]
      exact hbusy
    · simp only [SEC_KOP_DATA, SEC_LOCK_STATUS, SEC_CNT, List.mem_cons, List.not_mem_nil, or_false]
      omega
  · rw [List.mem_append, List.mem_append, not_or, not_or] at ha
    obtain ⟨⟨ha1, ha2⟩, ha3⟩ := ha
    exact (honly a ha1 hl).trans ((hkrd a ha3).trans (herd a ha2))
  · exact hframe.trans (by rw [hkds])

end

end Sys2Proof.Machine

/-! Operations of the shared engine, random words, and the obligation (R342, R350 to R352, R356). -/

namespace Sys2Proof.Machine

section
variable {s t u : State} {m : Master} {v : Word} {c : Nat} {iv : Invocation}

/-! The warden starts an operation -/

/-- The descriptor that the warden has written. -/
def State.engDesc (s : State) : List Nat := (List.range 8).map (fun k => (s.rd (SEC_ENG_DESC k)).toNat)

/-- An operation as it is set up. -/
def State.opSet (s : State) (q : Nat) (w : List Nat) : SecOp :=
  { req := q, desc := w, slot := (descOf w).slot, key := s.slotKey (descOf w).slot, early := s.opRefusal q w }

theorem State.seen_opSet (s : State) (m : Master) (q : Nat) (w : List Nat) : (s.seen m).opSet q w = s.opSet q w := by
  unfold State.seen
  split <;> rfl

theorem State.seen_engDesc (s : State) (m : Master) : (s.seen m).engDesc = s.engDesc := by
  simp only [State.engDesc, State.seen_rd]

theorem State.secWrite_engCmd (s : State) (h0 : v.toNat.testBit 0 = true) : s.secWrite 0x120 v = s.engineGo := by
  have heq : s.secWrite 0x120 v = if v.toNat.testBit 0 then s.engineGo else s := rfl
  rw [heq, if_pos h0]

theorem State.engineGo_busy (h : s.fldB SEC_ENG_CMD SEC_ENG_CMD_busy = true) : s.engineGo = s := if_pos h

theorem State.engineGo_held (h : s.fldB SEC_ENG_CMD SEC_ENG_CMD_busy = false) (ho : s.sec.owner = some 64) :
    s.engineGo = ({ s with sec := { s.sec with eng := some (s.opSet 64 s.engDesc) } } : State).setFld SEC_ENG_CMD SEC_ENG_CMD_busy 1 := by
  rw [State.engineGo, h, if_neg Bool.false_ne_true, if_pos (c := s.sec.owner = some wardenReq) ho]
  rfl

theorem State.engineGo_unheld (h : s.fldB SEC_ENG_CMD SEC_ENG_CMD_busy = false) (ho : s.sec.owner ≠ some 64) :
    s.engineGo = ((s.setFld SEC_ENG_STATUS SEC_ENG_STATUS_result 15).setFld SEC_ENG_STATUS SEC_ENG_STATUS_done 1).secCount 0 := by
  rw [State.engineGo, h, if_neg Bool.false_ne_true, if_neg (c := s.sec.owner = some wardenReq) ho]

theorem State.engineGo_unheld_spec (h : s.fldB SEC_ENG_CMD SEC_ENG_CMD_busy = false) (ho : s.sec.owner ≠ some 64) :
    s.engineGo.engShown 15 ∧ s.engCounted s.engineGo 15 ∧ s.wroteRegs s.engineGo [SEC_ENG_STATUS, SEC_CNT 0] := by
  rw [State.engineGo_unheld h ho]
  have hw1 := (s.wroteRegs_setFld SEC_ENG_STATUS_result 15 (List.mem_singleton_self SEC_ENG_STATUS)).trans
    (State.wroteRegs_setFld _ SEC_ENG_STATUS_done 1 (List.mem_singleton_self SEC_ENG_STATUS))
  have hres : ((s.setFld SEC_ENG_STATUS SEC_ENG_STATUS_result 15).setFld SEC_ENG_STATUS SEC_ENG_STATUS_done 1).fld SEC_ENG_STATUS
      SEC_ENG_STATUS_result = 15 := by
    rw [State.fld_setFld_ne _ _ (by decide) (by decide) (by decide) (Or.inl (by decide)), State.fld_setFld_same _ _ _ (by decide) (by decide)]
    rfl
  have hdone := State.fld_setFld_same (f := SEC_ENG_STATUS_done) (s.setFld SEC_ENG_STATUS SEC_ENG_STATUS_result 15) SEC_ENG_STATUS 1
    (by decide) (by decide)
  generalize (s.setFld SEC_ENG_STATUS SEC_ENG_STATUS_result 15).setFld SEC_ENG_STATUS SEC_ENG_STATUS_done 1 = u at hw1 hres hdone ⊢
  obtain ⟨hcnt, hw2⟩ := u.secCount_zero_spec
  have hfld : ∀ f, (u.secCount 0).fld SEC_ENG_STATUS f = u.fld SEC_ENG_STATUS f := fun f => by rw [State.fld, hw2.1 _ (by decide), State.fld]
  refine ⟨⟨(hfld _).trans hres, (hfld _).trans hdone, ?_⟩, ⟨?_, fun h => ?_, fun h => ?_, fun h => ?_, fun h => ?_⟩,
    (hw1.mono (List.forall_mem_singleton.2 List.mem_cons_self)).trans
      (hw2.mono (List.forall_mem_singleton.2 (List.mem_cons_of_mem _ (List.mem_singleton_self _))))⟩
  · rw [State.fld, hw2.1 _ (by decide), hw1.1 _ (by decide)]
    exact bne_eq_false_iff_eq.1 h
  · rw [hcnt, hw1.1 _ (by decide)]
  all_goals omega

/-! The end of an operation -/

/-- What the engine computes for an operation. -/
def State.opOut (s : State) (e : SecOp) : Option (List Byte × List Byte) :=
  opCompute (descOf e.desc) e.key (s.opBytes e.req (descOf e.desc).src (descOf e.desc).len) (s.opBytes e.req (descOf e.desc).aad (descOf e.desc).aadLen)
    (s.opBytes e.req (descOf e.desc).iv (if (descOf e.desc).alg = 5 then 16 else 12)) (s.opBytes e.req (descOf e.desc).tag (descOf e.desc).tagLen)

/-- The state in which an operation's output and its tag are stored. -/
def State.opStore (s : State) (e : SecOp) (o : List Byte × List Byte) : State :=
  (s.opWrite e.req (descOf e.desc).dst o.1).opWrite e.req (descOf e.desc).tag o.2

theorem State.cipherEnd_none (h : s.sec.eng = none) : s.cipherEnd = s := by rw [State.cipherEnd, h]

section
variable {e : SecOp} (he : s.sec.eng = some e)
include he

theorem State.cipherEnd_refused {r : Nat} (hr : e.early = some r) : s.cipherEnd = s.opEnd e r := by
  rw [State.cipherEnd, he]
  dsimp only
  rw [hr]

theorem State.cipherEnd_done {o : List Byte × List Byte} (hr : e.early = none) (ho : s.opOut e = some o) :
    s.cipherEnd = (s.opStore e o).opEnd e 0 := by
  rw [State.cipherEnd, he]
  dsimp only
  rw [hr]
  rw [State.opOut] at ho
  dsimp only
  rw [ho]
  rfl

theorem State.cipherEnd_failed (hr : e.early = none) (ho : s.opOut e = none) : s.cipherEnd = s.opEnd e 8 := by
  rw [State.cipherEnd, he]
  dsimp only
  rw [hr]
  rw [State.opOut] at ho
  dsimp only
  rw [ho]

end

/-! What an operation stores -/

/-- Memory and the emit buffers alone differ. -/
def State.storesBytes (s t : State) : Prop := ∃ x b, t = { s with mem := x, kpr := { s.kpr with emitBuf := b } }

theorem State.storesBytes.refl (s : State) : s.storesBytes s := ⟨s.mem, s.kpr.emitBuf, rfl⟩

theorem State.storesBytes.trans (h1 : s.storesBytes t) (h2 : t.storesBytes u) : s.storesBytes u := by
  obtain ⟨_, _, rfl⟩ := h1
  obtain ⟨x, b, rfl⟩ := h2
  exact ⟨x, b, rfl⟩

theorem State.storesBytes_kPuts (s : State) (core : Nat) (iv : Invocation) (p : KPlace) (bs : List Byte) : s.storesBytes (s.kPuts core iv p bs) := by
  induction bs generalizing s p with
  | nil => exact State.storesBytes.refl s
  | cons b bs ih =>
    refine State.storesBytes.trans ?_ (ih (s.kPut core iv p b) _)
    unfold State.kPut
    split
    · exact State.storesBytes.refl s
    · exact ⟨s.mem, _, rfl⟩
    · exact ⟨_, s.kpr.emitBuf, rfl⟩

theorem State.mwbytes_mem (s : State) (a : Nat) (l : List Byte) : s.mwbytes a l = { s with mem := (s.mwbytes a l).mem } := by
  induction l generalizing s a with
  | nil => rfl
  | cons x l ih => exact ih (s.mwb a x) (a + 1)

theorem State.storesBytes_opWrite (s : State) (q a : Nat) (bs : List Byte) : s.storesBytes (s.opWrite q a bs) := by
  unfold State.opWrite
  split
  · exact ⟨_, s.kpr.emitBuf, s.mwbytes_mem _ bs⟩
  · cases s.inv q with
    | none => exact State.storesBytes.refl s
    | some iv =>
      simp only [State.viewWrite]
      split
      · exact State.storesBytes.refl s
      · cases s.range iv.ev.routine a bs.length with
        | none => exact State.storesBytes.refl s
        | some p => exact s.storesBytes_kPuts q iv p bs

theorem State.opWrite_warden (s : State) (a : Nat) (bs : List Byte) : s.opWrite 64 a bs = { s with mem := (s.opWrite 64 a bs).mem } := by
  have heq : s.opWrite 64 a bs = s.mwbytes (sramBase + a) bs := if_pos rfl
  rw [heq]
  exact s.mwbytes_mem _ bs

/-- The end of an operation after what it stored. -/
theorem State.storesBytes.opEnd_keeper (hs : s.storesBytes u) {e : SecOp} (hc : c ≠ 64) (he : e.req = c) (hinv : s.inv c = some iv) (r : Nat) :
    let t := u.opEnd e r
    t.sec = { s.sec with eng := none, owner := none } ∧ s.keeperTold t c iv r ∧ s.engCounted t r ∧ t.mem = u.mem ∧ (∀ a, a ∉ engCounters r → t.rd a = s.rd a) ∧
    t = { s with regs := t.regs, mem := t.mem, sec := t.sec, kpr := { s.kpr with run := t.kpr.run, rts := t.kpr.rts, emitBuf := u.kpr.emitBuf } } := by
  obtain ⟨x, b, rfl⟩ := hs
  obtain ⟨hsec, htold, hcnt, hrd, hframe⟩ := State.opEnd_keeper { s with mem := x, kpr := { s.kpr with emitBuf := b } } hc he hinv r
  generalize ({ s with mem := x, kpr := { s.kpr with emitBuf := b } } : State).opEnd e r = t at hsec htold hcnt hrd hframe ⊢
  have hmem : t.mem = x := by rw [hframe]
  refine ⟨hsec, htold.congr rfl rfl rfl rfl, hcnt, hmem, hrd, ?_⟩
  rw [hmem]
  exact hframe

theorem State.opEnd_warden_stored {x : Tab Byte} {e : SecOp} (he : e.req = 64) {r : Nat} (hr : r < 16) :
    let t := ({ s with mem := x } : State).opEnd e r
    t.sec = { s.sec with eng := none } ∧ t.engShown r ∧ s.engCounted t r ∧ t.mem = x ∧
    (∀ a, a ∉ [SEC_ENG_STATUS, SEC_ENG_CMD] ++ engCounters r → t.rd a = s.rd a) ∧ t = { s with regs := t.regs, mem := t.mem, sec := t.sec } := by
  obtain ⟨hsec, hshown, hcnt, hrd, hframe⟩ := State.opEnd_warden { s with mem := x } he hr
  generalize ({ s with mem := x } : State).opEnd e r = t at hsec hshown hcnt hrd hframe ⊢
  have hmem : t.mem = x := by rw [hframe]
  refine ⟨hsec, hshown, hcnt, hmem, hrd, ?_⟩
  rw [hmem]
  exact hframe

/-! Random words -/

theorem State.secWrite_rngAck (s : State) (h0 : v.toNat.testBit 0 = true) : s.secWrite 0x308 v = { s with sec := { s.sec with rng := s.sec.rng.tail } } := by
  have heq : s.secWrite 0x308 v = if v.toNat.testBit 0 then s.rngAck else s := rfl
  rw [heq, if_pos h0, State.rngAck, List.drop_one]
  rfl

/-- The mark and the count of a health failure. -/
def State.trngMarked (s : State) : State := (s.setFld SEC_RNG_STATUS SEC_RNG_STATUS_health_fail 1).addFld SEC_RNG_STATUS SEC_RNG_STATUS_restarts 1

/-- The third failure in one reseed interval fails the generator, once. -/
def State.trngFails (s : State) : Bool := decide (2 ≤ s.sec.failures) && !s.fldB SEC_RNG_STATUS SEC_RNG_STATUS_failed

theorem State.trngMarked_spec (s : State) :
    let t := s.trngMarked
    t.fld SEC_RNG_STATUS SEC_RNG_STATUS_health_fail = 1 ∧
    t.fld SEC_RNG_STATUS SEC_RNG_STATUS_restarts = min (s.fld SEC_RNG_STATUS SEC_RNG_STATUS_restarts + 1) 255 ∧
    t.fldB SEC_RNG_STATUS SEC_RNG_STATUS_failed = s.fldB SEC_RNG_STATUS SEC_RNG_STATUS_failed ∧ s.wroteRegs t [SEC_RNG_STATUS] := by
  have hmem := List.mem_singleton_self SEC_RNG_STATUS
  have hold : (s.setFld SEC_RNG_STATUS SEC_RNG_STATUS_health_fail 1).fld SEC_RNG_STATUS SEC_RNG_STATUS_restarts = s.fld SEC_RNG_STATUS SEC_RNG_STATUS_restarts :=
    State.fld_setFld_ne _ _ (by decide) (by decide) (by decide) (Or.inr (by decide))
  refine ⟨?_, ?_, ?_, (s.wroteRegs_setFld _ _ hmem).trans (State.wroteRegs_setFld _ _ _ hmem)⟩
  · rw [State.trngMarked, State.addFld, State.fld_setFld_ne _ _ (by decide) (by decide) (by decide) (Or.inl (by decide)),
      State.fld_setFld_same _ _ _ (by decide) (by decide)]
    rfl
  · rw [State.trngMarked, State.addFld, State.fld_setFld_same _ _ _ (by decide) (by decide), hold, satAdd]
    have hw : SEC_RNG_STATUS_restarts.width = 8 := rfl
    rw [hw]
    omega
  · refine congrArg (· != 0) ?_
    rw [State.trngMarked, State.addFld, State.fld_setFld_ne _ _ (by decide) (by decide) (by decide) (Or.inl (by decide)),
      State.fld_setFld_ne _ _ (by decide) (by decide) (by decide) (Or.inr (by decide))]

theorem State.trngFail_eq (s : State) : s.trngFail =
    let u : State := { s.trngMarked.raise 0x0B04 3 with sec := { s.sec with failures := s.sec.failures + 1 } }
    if s.trngFails = true then (u.setFld SEC_RNG_STATUS SEC_RNG_STATUS_failed 1).raise 0x0B05 5 else u := by
  have hfr := s.trngMarked.raise_frame 0x0B04 3 noInst 0 (by decide)
  have hrd : (s.trngMarked.raise 0x0B04 3).fldB SEC_RNG_STATUS SEC_RNG_STATUS_failed = s.fldB SEC_RNG_STATUS SEC_RNG_STATUS_failed := by
    rw [State.fldB, State.fld, hfr.rd _ (by decide)]
    exact s.trngMarked_spec.2.2.1
  have hsec : (s.trngMarked.raise 0x0B04 3).sec = s.sec := hfr.sec
  have hfold : (s.setFld SEC_RNG_STATUS SEC_RNG_STATUS_health_fail 1).addFld SEC_RNG_STATUS SEC_RNG_STATUS_restarts 1 = s.trngMarked := rfl
  rw [State.trngFail, hfold]
  dsimp only
  generalize s.trngMarked.raise 0x0B04 3 = w at hrd hsec ⊢
  have hcond : (3 ≤ s.sec.failures + 1 ∧ (!(w.setSec { w.sec with failures := s.sec.failures + 1 }).fldB SEC_RNG_STATUS SEC_RNG_STATUS_failed) = true) ↔
      s.trngFails = true := by
    have hset : (w.setSec { w.sec with failures := s.sec.failures + 1 }).fldB SEC_RNG_STATUS SEC_RNG_STATUS_failed = w.fldB SEC_RNG_STATUS SEC_RNG_STATUS_failed := rfl
    rw [hset, hrd, State.trngFails, Bool.and_eq_true, decide_eq_true_iff]
    exact and_congr (by omega) Iff.rfl
  rw [if_congr hcond rfl rfl, hsec]
  rfl

theorem State.trngFail_spec (s : State) :
    let t := s.trngFail
    t.sec = { s.sec with failures := s.sec.failures + 1 } ∧ t.fld SEC_RNG_STATUS SEC_RNG_STATUS_health_fail = 1 ∧
    t.fld SEC_RNG_STATUS SEC_RNG_STATUS_restarts = min (s.fld SEC_RNG_STATUS SEC_RNG_STATUS_restarts + 1) 255 ∧
    t.fldB SEC_RNG_STATUS SEC_RNG_STATUS_failed = (s.fldB SEC_RNG_STATUS SEC_RNG_STATUS_failed || s.trngFails) ∧ s.tells t 2 0x0B04 3 noInst ∧
    (s.trngFails = true → s.tells t 2 0x0B05 5 noInst) ∧ s.onlyRegs t [SEC_RNG_STATUS] ∧
    t = { s with regs := t.regs, flt := t.flt, sec := t.sec } := by
  obtain ⟨hhealth, hrestarts, hfailed, hw⟩ := s.trngMarked_spec
  rw [State.trngFail_eq]
  generalize s.trngMarked = w at hhealth hrestarts hfailed hw ⊢
  have hlog := hw.logs_raise (c := 0x0B04) (k := 3) noInst 0
  have hfr := w.raise_frame 0x0B04 3 noInst 0 (by decide)
  have hreg := w.raise_regFrame (c := 0x0B04) (k := 3) noInst 0 (by decide) (by decide) rfl
  generalize w.raise 0x0B04 3 = x at hlog hfr hreg ⊢
  have hx : ∀ f, x.fld SEC_RNG_STATUS f = w.fld SEC_RNG_STATUS f := fun f => by rw [State.fld, hfr.rd _ (by decide), State.fld]
  have hxonly : s.onlyRegs x [SEC_RNG_STATUS] := fun a ha hl => (hfr.onlyRegs [] a List.not_mem_nil hl).trans (hw.1 a ha)
  have hxframe : x = { s with regs := x.regs, flt := x.flt } := by rw [hreg, hw.2]
  have hxrun : x.running = s.running := by rw [hxframe]; rfl
  dsimp only
  by_cases hf : s.trngFails = true
  · rw [if_pos hf, hf, Bool.or_true]
    have hy := State.wroteRegs_setFld { x with sec := { s.sec with failures := s.sec.failures + 1 } } SEC_RNG_STATUS_failed 1
      (List.mem_singleton_self SEC_RNG_STATUS)
    have hyne : ∀ f : Fld, f.lo ≤ f.hi → (f.hi < 5 ∨ 5 < f.lo) →
        (({ x with sec := { s.sec with failures := s.sec.failures + 1 } } : State).setFld SEC_RNG_STATUS SEC_RNG_STATUS_failed 1).fld SEC_RNG_STATUS f =
          x.fld SEC_RNG_STATUS f := fun f hlo hne => State.fld_setFld_ne _ _ (by decide) (by decide) hlo hne
    have hyset := State.fld_setFld_same (f := SEC_RNG_STATUS_failed) { x with sec := { s.sec with failures := s.sec.failures + 1 } } SEC_RNG_STATUS 1
      (by decide) (by decide)
    generalize ({ x with sec := { s.sec with failures := s.sec.failures + 1 } } : State).setFld SEC_RNG_STATUS SEC_RNG_STATUS_failed 1 = y at hy hyne hyset ⊢
    have hyrun : y.running = x.running := by rw [hy.2]; rfl
    have hylog := (State.logs.trans hlog hxrun (State.logs_of_flt (t := y) (by rw [hy.2]))).trans (hyrun.trans hxrun)
      (y.logs_raise (c := 0x0B05) (k := 5) noInst 0)
    have hyfr := y.raise_frame 0x0B05 5 noInst 0 (by decide)
    have hyreg := y.raise_regFrame (c := 0x0B05) (k := 5) noInst 0 (by decide) (by decide) rfl
    generalize y.raise 0x0B05 5 = t at hylog hyfr hyreg ⊢
    have ht : ∀ f, t.fld SEC_RNG_STATUS f = y.fld SEC_RNG_STATUS f := fun f => by rw [State.fld, hyfr.rd _ (by decide), State.fld]
    have hsec : t.sec = { s.sec with failures := s.sec.failures + 1 } := by rw [hyreg, hy.2]
    refine ⟨hsec, ?_, ?_, ?_, ?_, fun _ => ?_, fun a ha hl => ?_, ?_⟩
    · rw [ht, hyne _ (by decide) (by decide), hx, hhealth]
    · rw [ht, hyne _ (by decide) (by decide), hx, hrestarts]
    · exact (congrArg (· != 0) ((ht _).trans hyset)).trans rfl
    · exact hylog.tells (by decide) (by decide) rfl
    · exact hylog.tells (by decide) (by decide) rfl
    · exact (hyfr.onlyRegs [] a List.not_mem_nil hl).trans ((hy.1 a ha).trans (hxonly a ha hl))
    · rw [hsec, hyreg, hy.2, hxframe]
  · rw [if_neg hf, Bool.eq_false_of_not_eq_true hf, Bool.or_false]
    refine ⟨rfl, (hx _).trans hhealth, (hx _).trans hrestarts, ?_, ?_, fun h => absurd h Bool.false_ne_true, hxonly, ?_⟩
    · exact (congrArg (· != 0) (hx _)).trans hfailed
    · exact hlog.tells (List.mem_singleton_self _) (by decide) rfl
    · rw [hxframe]

theorem State.reseed_failed (h : s.fldB SEC_RNG_STATUS SEC_RNG_STATUS_failed = true) : s.reseed = s := if_pos h

theorem State.reseed_ready (h : s.fldB SEC_RNG_STATUS SEC_RNG_STATUS_failed = false) :
    s.reseed = { s with sec := { s.sec with failures := 0, requests := 0 } } := by
  rw [State.reseed, h]
  rfl

end

end Sys2Proof.Machine

/-! The engine lock and the shared engine: the obligation (R265, R340, R342, R347 to R352, R356). -/

namespace Sys2Proof.Machine

section
variable {s : State} {m : Master} {v : Word} {r : Nat} {w : List Nat}

/-! Uses that a slot's attributes deny and permit -/

theorem State.opRefusal_empty (h : ¬ s.badDesc r w) (h0 : (s.slotAttr (descOf w).slot).testBit 0 = false) : s.opRefusal r w = some 10 := by
  rw [State.opRefusal_good h, h0]
  rfl

theorem State.opRefusal_denied (h : ¬ s.badDesc r w) (h0 : (s.slotAttr (descOf w).slot).testBit 0 = true) (hu : s.keyUse r (descOf w) = false) :
    s.opRefusal r w = some 11 := by
  rw [State.opRefusal_good h, h0, hu]
  rfl

theorem State.opRefusal_none (h : ¬ s.badDesc r w) (h0 : (s.slotAttr (descOf w).slot).testBit 0 = true) (hu : s.keyUse r (descOf w) = true) :
    s.opRefusal r w = none := by
  rw [State.opRefusal_good h, h0, hu]
  rfl

theorem State.keyUse_false {d : Desc} (h : d.usage (s.slotAttr d.slot) = false ∨ ¬ d.keyKind (s.slotAttr d.slot) ∨
      (r = 64 ∧ (s.slotAttr d.slot).testBit 17 = false) ∨ (r ≠ 64 ∧ (s.slotAttr d.slot).testBit 16 = false) ∨
      (∃ iv : Invocation, r ≠ 64 ∧ s.inv r = some iv ∧ (s.routine iv.ev.routine).keyMask.testBit d.slot = false)) : s.keyUse r d = false := by
  rw [State.keyUse_eq]
  rcases h with h | h | ⟨hr, h⟩ | ⟨hr, h⟩ | ⟨iv, hr, hinv, h⟩
  · rw [h, Bool.false_and, Bool.false_and]
  · rw [decide_eq_false h, Bool.and_false, Bool.false_and]
  · rw [if_pos hr, h, Bool.and_false]
  · rw [if_neg hr, h, Bool.false_and, Bool.and_false]
  · rw [if_neg hr, hinv, Option.any_some, h, Bool.and_false, Bool.and_false]

theorem State.keyUse_warden {d : Desc} (hu : d.usage (s.slotAttr d.slot) = true) (hk : d.keyKind (s.slotAttr d.slot)) (hr : r = 64)
    (h : (s.slotAttr d.slot).testBit 17 = true) : s.keyUse r d = true := by
  rw [State.keyUse_eq, hu, decide_eq_true hk, if_pos hr, h]
  rfl

theorem State.keyUse_keeper {d : Desc} {iv : Invocation} (hu : d.usage (s.slotAttr d.slot) = true) (hk : d.keyKind (s.slotAttr d.slot)) (hr : r ≠ 64)
    (h : (s.slotAttr d.slot).testBit 16 = true) (hinv : s.inv r = some iv) (hmask : (s.routine iv.ev.routine).keyMask.testBit d.slot = true) :
    s.keyUse r d = true := by
  rw [State.keyUse_eq, hu, decide_eq_true hk, if_neg hr, h, hinv, Option.any_some, hmask]
  rfl

/-! Registers of the engine -/

theorem State.gives_regCommand_sec {c : Instr} {off : Nat} {k : Word} (hc : exec c s = .next (s.regCommand m (0x200D0000 + off) (v ||| k)))
    (hoff : off < 0x10000) (hw : s.writable m (0x200D0000 + off)) {Q : State → Prop} (hQ : Q ((s.seen m).secWrite off (v ||| k))) : Gives c s Q :=
  ⟨_, hc.trans (congrArg Host.Outcome.next (State.regCommand_sec hoff hw _)), hQ⟩

/-- A request of the warden alone. -/
theorem State.secWrite_request (s : State) (h0 : v.toNat.testBit 0 = true) (h1 : v.toNat.testBit 1 = false) :
    s.secWrite 4 v = if s.sec.owner = some 64 ∨ 64 ∈ s.sec.queue then s else { s with sec := { s.sec with queue := s.sec.queue ++ [64] } } := by
  rw [State.secWrite_lock, h1, h0, if_neg Bool.false_ne_true, if_pos rfl]
  rfl

/-! The end of an operation, by what was stored before it -/

theorem State.opStore_warden {e : SecOp} (he : e.req = 64) (o : List Byte × List Byte) : s.opStore e o = { s with mem := (s.opStore e o).mem } := by
  rw [State.opStore, he]
  have h1 := s.opWrite_warden (descOf e.desc).dst o.1
  generalize s.opWrite 64 (descOf e.desc).dst o.1 = u at h1 ⊢
  refine (u.opWrite_warden (descOf e.desc).tag o.2).trans ?_
  generalize (u.opWrite 64 (descOf e.desc).tag o.2).mem = x
  rw [h1]

theorem State.storesBytes_opStore (e : SecOp) (o : List Byte × List Byte) : s.storesBytes (s.opStore e o) :=
  (s.storesBytes_opWrite _ _ _).trans (State.storesBytes_opWrite _ _ _ _)

/-- The warden's operation has ended with this result, in the state in which its output was stored. -/
theorem State.gives_cipherEnd_warden {e : SecOp} (he : e.req = 64) {u : State} (hu : u = { s with mem := u.mem }) (hr : r < 16)
    (hend : s.cipherEnd = u.opEnd e r) : Gives .cipherOperationEnd s (fun t => t.sec = { s.sec with eng := none } ∧ t.engShown r ∧ s.engCounted t r ∧
      t.mem = u.mem ∧ s.onlyRegs t ([SEC_ENG_STATUS, SEC_ENG_CMD] ++ engCounters r) ∧ t = { s with regs := t.regs, mem := t.mem, sec := t.sec }) := by
  generalize u.mem = x at hu ⊢
  subst hu
  obtain ⟨hsec, hshown, hcnt, hmem, hrd, hframe⟩ := State.opEnd_warden_stored (s := s) (x := x) he hr
  exact ⟨_, congrArg Host.Outcome.next hend, hsec, hshown, hcnt, hmem, fun a ha _ => hrd a ha, hframe⟩

/-- The same of a keeper's operation. -/
theorem State.gives_cipherEnd_keeper {e : SecOp} {c : Nat} {iv : Invocation} (hc : c ≠ 64) (he : e.req = c) (hinv : s.inv c = some iv) {u : State}
    (hu : s.storesBytes u) (hend : s.cipherEnd = u.opEnd e r) : Gives .cipherOperationEnd s (fun t =>
      t.sec = { s.sec with eng := none, owner := none } ∧ s.keeperTold t c iv r ∧ s.engCounted t r ∧ t.mem = u.mem ∧ s.onlyRegs t (engCounters r) ∧
      t = { s with regs := t.regs, mem := t.mem, sec := t.sec, kpr := { s.kpr with run := t.kpr.run, rts := t.kpr.rts, emitBuf := u.kpr.emitBuf } }) := by
  obtain ⟨hsec, htold, hcnt, hmem, hrd, hframe⟩ := hu.opEnd_keeper hc he hinv r
  exact ⟨_, congrArg Host.Outcome.next hend, hsec, htold, hcnt, hmem, fun a ha _ => hrd a ha, hframe⟩

theorem fin_ne_warden (c : Fin 64) : c.val ≠ 64 := by omega

end

/-- Settles O48: each row as one change of the lock or of the operation in progress, and the setup's checks in their order. -/
theorem engineLock : Obligations.EngineLock := by
  unfold Obligations.EngineLock
  intro s m v
  refine ⟨fun hw => ⟨fun h1 => ?_, fun h1 => ?_, ?_⟩, fun h => ?_, fun rest ho he hk hq => ?_, fun c rest ho he hk hq => ⟨fun iv p hinv halign hp hwin => ?_,
    fun iv hinv h => ?_, fun hinv => ?_⟩, fun r w => ⟨fun h => ?_, fun h h0 => ?_, fun h h0 hd => ?_, fun h h0 hu hk hr h17 => ?_, fun iv h h0 hu hk hr h16 hinv hm => ?_⟩,
    fun c hc => ?_, fun c hc => ⟨fun hinv => ?_, fun iv hinv => ?_⟩, fun h => ?_, fun ho he => ?_, fun hw => ⟨fun hb => ?_, fun hb ho => ?_, fun hb ho => ?_⟩,
    fun he => ?_, fun e he => ?_, fun d key msg aad iv tag => ?_, fun hw => ?_, ?_, fun h => ?_, fun h => ?_⟩
  · refine State.gives_regCommand_sec (off := 4) (k := 1) rfl (by decide) hw ?_
    rw [State.secWrite_request (v := v ||| 1) _ (testBit_or_set v 1 (by decide) rfl) ((testBit_or_clear v (k := 1) rfl).trans h1), State.seen_sec]
  · refine State.gives_regCommand_sec (off := 4) (k := 1) rfl (by decide) hw ?_
    rw [State.secWrite_release (v := v ||| 1) _ ((testBit_or_clear v (k := 1) rfl).trans h1), State.seen_sec]
    rfl
  · refine State.gives_regCommand_sec (off := 4) (k := 2) rfl (by decide) hw ?_
    rw [State.secWrite_release (v := v ||| 2) _ (testBit_or_set v 2 (by decide) rfl), State.seen_sec]
    rfl
  · exact ⟨_, congrArg Host.Outcome.next (State.lockGrant_none h), rfl⟩
  · exact ⟨_, congrArg Host.Outcome.next (State.lockGrant_warden ho he hk hq), rfl⟩
  · refine ⟨_, congrArg Host.Outcome.next (State.lockGrant_keeper ho he hk (fin_ne_warden c) hq hinv), ?_⟩
    rw [if_pos (State.descHeld_of halign hp hwin)]
    rfl
  · refine ⟨_, congrArg Host.Outcome.next (State.lockGrant_keeper ho he hk (fin_ne_warden c) hq hinv), ?_⟩
    rw [State.descHeld_not h, if_neg Bool.false_ne_true]
    rfl
  · exact ⟨_, congrArg Host.Outcome.next (State.lockGrant_gone ho he hk (fin_ne_warden c) hq hinv), rfl⟩
  · exact State.opRefusal_bad h
  · exact State.opRefusal_empty h h0
  · exact State.opRefusal_denied h h0 (State.keyUse_false hd)
  · exact State.opRefusal_none h h0 (State.keyUse_warden hu hk hr h17)
  · exact State.opRefusal_none h h0 (State.keyUse_keeper hu hk hr h16 hinv hm)
  · exact ⟨_, congrArg Host.Outcome.next (State.lockTimeout_not hc), rfl⟩
  · exact ⟨_, congrArg Host.Outcome.next (State.lockTimeout_gone hc (fin_ne_warden c) hinv), rfl⟩
  · exact ⟨_, rfl, State.lockTimeout_spec hc (fin_ne_warden c) hinv⟩
  · exact ⟨_, congrArg Host.Outcome.next (if_neg (c := s.sec.owner = some wardenReq) h), rfl⟩
  · obtain ⟨hsec, hset, hcnt, hposts, heng, hkop, honly, hframe⟩ := State.holdExceeded_spec ho he
    exact ⟨_, rfl, hsec, hset, hcnt, hposts, heng, hkop, honly, hframe⟩
  · refine State.gives_regCommand_sec (off := 0x120) (k := 1) rfl (by decide) hw ?_
    rw [State.secWrite_engCmd (v := v ||| 1) _ (testBit_or_set v 1 (by decide) rfl), State.engineGo_busy ((s.seen_fldB m _ _).trans hb)]
  · refine State.gives_regCommand_sec (off := 0x120) (k := 1) rfl (by decide) hw ?_
    rw [State.secWrite_engCmd (v := v ||| 1) _ (testBit_or_set v 1 (by decide) rfl), State.engineGo_held ((s.seen_fldB m _ _).trans hb)
      ((congrArg SecState.owner (s.seen_sec m)).trans ho), State.seen_engDesc, State.seen_opSet, State.seen_sec]
    have hwrote := State.wroteRegs_setFld { s.seen m with sec := { s.sec with eng := some (s.opSet 64 s.engDesc) } } SEC_ENG_CMD_busy 1
      (List.mem_singleton_self SEC_ENG_CMD)
    exact ⟨State.fld_setFld_same _ _ _ (by decide) (by decide), State.onlyRegs_seen hwrote.onlyRegs, hwrote.2⟩
  · refine State.gives_regCommand_sec (off := 0x120) (k := 1) rfl (by decide) hw ?_
    rw [State.secWrite_engCmd (v := v ||| 1) _ (testBit_or_set v 1 (by decide) rfl)]
    obtain ⟨hshown, hcnt, hwrote⟩ := State.engineGo_unheld_spec (s := s.seen m) ((s.seen_fldB m _ _).trans hb)
      (fun h => ho ((congrArg SecState.owner (s.seen_sec m)).symm.trans h))
    simp only [State.engCounted, State.counts, State.seen_rd] at hcnt
    exact ⟨hshown, hcnt, State.onlyRegs_seen hwrote.onlyRegs, hwrote.2⟩
  · exact ⟨_, congrArg Host.Outcome.next (State.cipherEnd_none he), rfl⟩
  · obtain ⟨req, desc, slot, key, early, stale⟩ := e
    cases early with
    | some r => exact ⟨fun hreq hr => State.gives_cipherEnd_warden (u := s) hreq rfl hr (State.cipherEnd_refused he rfl),
        fun c iv hreq hinv => State.gives_cipherEnd_keeper (u := s) (fin_ne_warden c) hreq hinv (State.storesBytes.refl s) (State.cipherEnd_refused he rfl)⟩
    | none =>
      intro d out res stored
      rcases ho : s.opOut { req := req, desc := desc, slot := slot, key := key, early := none, stale := stale } with _ | o
      · have hout : out = none := ho
        clear_value out
        subst hout
        exact ⟨fun hreq hr => State.gives_cipherEnd_warden (u := s) hreq rfl hr (State.cipherEnd_failed he rfl ho),
          fun c iv hreq hinv => State.gives_cipherEnd_keeper (u := s) (fin_ne_warden c) hreq hinv (State.storesBytes.refl s) (State.cipherEnd_failed he rfl ho)⟩
      · have hout : out = some o := ho
        clear_value out
        subst hout
        exact ⟨fun hreq hr => State.gives_cipherEnd_warden hreq (State.opStore_warden hreq o) hr (State.cipherEnd_done he rfl ho),
          fun c iv hreq hinv => State.gives_cipherEnd_keeper (fin_ne_warden c) hreq hinv (State.storesBytes_opStore _ o) (State.cipherEnd_done he rfl ho)⟩
  · refine ⟨?_, ?_, ?_, ?_, ?_, ?_, ?_⟩
    all_goals
      intro h
      rw [opCompute, h]
      rfl
  · refine State.gives_regCommand_sec (off := 0x308) (k := 1) rfl (by decide) hw ?_
    rw [State.secWrite_rngAck (v := v ||| 1) _ (testBit_or_set v 1 (by decide) rfl), State.seen_sec]
  · obtain ⟨hsec, hhealth, hrestarts, hfailed, htold, htold', honly, hframe⟩ := s.trngFail_spec
    exact ⟨_, rfl, hsec, hhealth, hrestarts, hfailed, htold, htold', honly, hframe⟩
  · exact ⟨_, congrArg Host.Outcome.next (State.reseed_ready h), rfl⟩
  · exact ⟨_, congrArg Host.Outcome.next (State.reseed_failed h), rfl⟩

end Sys2Proof.Machine

/-! A CAN channel's record, its transmit buffers, and what turning the channel off leaves (R188, R190). -/

namespace Sys2Proof.Machine

section
variable {s t u : State} {n : Nat}

/-! The record of a channel -/

theorem State.chan_setChan (s : State) (n : Nat) (c : CanChan) (k : Nat) : (s.setChan n c).chan k = if k = n then c else s.chan k :=
  tget_tset (α := CanChan) {} {} _ _ _ _ (fun _ => rfl)

@[simp] theorem State.chan_setChan_self (s : State) (n : Nat) (c : CanChan) : (s.setChan n c).chan n = c := by rw [State.chan_setChan, if_pos rfl]

theorem State.chan_setChan_ne (s : State) {n k : Nat} (c : CanChan) (h : k ≠ n) : (s.setChan n c).chan k = s.chan k := by
  rw [State.chan_setChan, if_neg h]

theorem State.chan_setChan_again (s : State) (n : Nat) (c d : CanChan) (k : Nat) : ((s.setChan n c).setChan n d).chan k = (s.setChan n d).chan k := by
  simp only [State.chan_setChan]
  split <;> rfl

theorem CanChan.loaded_bufs (c : CanChan) (b k : Nat) : ({ c with bufs := tset [] c.bufs b [] } : CanChan).loaded k = (decide (k ≠ b) && c.loaded k) := by
  have hget : tget [] (tset [] c.bufs b []) k = if k = b then [] else tget [] c.bufs k := tget_tset (α := List Byte) [] [] _ _ _ _ (fun _ => rfl)
  rw [CanChan.loaded, CanChan.buf, CanChan.loaded, CanChan.buf]
  dsimp only
  rw [hget]
  by_cases h : k = b <;> simp [h]

/-- The registers that say what became of a buffer's frame, with the counters of cancelled and flushed frames. -/
def isTxReg (n a : Nat) : Prop := (∃ b, a = CAN_TXB_STATUS n b) ∨ a = CAN_CNT n 6 ∨ a = CAN_CNT n 18

/-- From `s` on, a channel's frames have left it: registers of its buffers and its own record alone have changed, and that record only in
what it is about to send. -/
structure TxOnly (n : Nat) (s t : State) : Prop where
  eq : t = { s with regs := t.regs, can := t.can }
  rd : ∀ a, ¬ isTxReg n a → t.rd a = s.rd a
  others : ∀ k, k ≠ n → t.chan k = s.chan k
  chan : ∃ l b o y, t.chan n = { s.chan n with backlog := l, bufs := b, lateCancel := y, onBus := o }

theorem TxOnly.refl (n : Nat) (s : State) : TxOnly n s s := ⟨rfl, fun _ _ => rfl, fun _ _ => rfl, _, _, _, _, rfl⟩

theorem TxOnly.trans (h1 : TxOnly n s t) (h2 : TxOnly n t u) : TxOnly n s u := by
  obtain ⟨l, b, o, y, hc⟩ := h2.chan
  obtain ⟨l', b', o', y', hc'⟩ := h1.chan
  have he := h2.eq
  rw [h1.eq] at he
  exact ⟨he, fun a ha => (h2.rd a ha).trans (h1.rd a ha), fun k hk => (h2.others k hk).trans (h1.others k hk), l, b, o, y, by rw [hc, hc']⟩

theorem TxOnly.wr (s : State) {a : Nat} (v : Word) (ha : isTxReg n a) : TxOnly n s (s.wr a v) :=
  ⟨rfl, fun _ hb => s.rd_wr_ne v (fun e => hb (e ▸ ha)), fun _ _ => rfl, _, _, _, _, rfl⟩

theorem TxOnly.setBuf (s : State) (n b : Nat) (r : List Byte) : TxOnly n s (s.setBuf n b r) :=
  ⟨rfl, fun _ _ => rfl, fun _ hk => s.chan_setChan_ne _ hk, _, _, _, _, s.chan_setChan_self n _⟩

theorem TxOnly.txEnd (s : State) (n b r : Nat) : TxOnly n s (s.txEnd n b r) :=
  (TxOnly.setBuf s n b []).trans (TxOnly.wr _ _ (Or.inl ⟨b, rfl⟩))

theorem TxOnly.emptyBacklog (s : State) (n : Nat) : TxOnly n s (s.emptyBacklog n) :=
  (TxOnly.wr s _ (Or.inr (Or.inr rfl))).trans
    ⟨rfl, fun _ _ => rfl, fun _ hk => State.chan_setChan_ne _ _ hk, _, _, _, _, State.chan_setChan_self _ n _⟩

theorem State.txEnd_chan (s : State) (n b r : Nat) : (s.txEnd n b r).chan n = { s.chan n with
    bufs := tset [] (s.chan n).bufs b [], lateCancel := (s.chan n).lateCancel.filter (· != b),
    onBus := if (s.chan n).onBus = some b then none else (s.chan n).onBus } := s.chan_setChan_self n _

theorem State.txEnd_loaded (s : State) (n b r k : Nat) : ((s.txEnd n b r).chan n).loaded k = (decide (k ≠ b) && (s.chan n).loaded k) := by
  rw [State.txEnd_chan]
  exact (s.chan n).loaded_bufs b k

/-! A flush while the channel sends nothing -/

/-- One buffer's part in a flush. -/
def flushStep (n : Nat) (t : State) (b : Nat) : State :=
  if (t.chan n).loaded b ∧ (t.chan n).onBus ≠ some b then (t.txEnd n b 5).canCount n 18 else t

theorem TxOnly.flushStep (n : Nat) (t : State) (b : Nat) : TxOnly n t (flushStep n t b) := by
  unfold Machine.flushStep
  split
  · exact (TxOnly.txEnd t n b 5).trans (TxOnly.wr _ _ (Or.inr (Or.inr rfl)))
  · exact TxOnly.refl n t

theorem flushStep_idle {b : Nat} (h : (t.chan n).onBus = none) :
    ((flushStep n t b).chan n).onBus = none ∧ ∀ k, ((flushStep n t b).chan n).loaded k = (decide (k ≠ b) && (t.chan n).loaded k) := by
  rw [flushStep]
  by_cases hb : (t.chan n).loaded b = true
  · rw [if_pos ⟨hb, fun e => by rw [h] at e; cases e⟩]
    have hc : ((t.txEnd n b 5).canCount n 18).chan n = (t.txEnd n b 5).chan n := rfl
    rw [hc]
    refine ⟨?_, fun k => t.txEnd_loaded n b 5 k⟩
    rw [State.txEnd_chan, h]
    rfl
  · rw [if_neg (fun e => hb e.1)]
    refine ⟨h, fun k => ?_⟩
    by_cases hk : k = b
    · rw [hk, Bool.eq_false_of_not_eq_true hb, Bool.and_false]
    · rw [decide_eq_true hk, Bool.true_and]

/-- The buffers flushed, lowest first. -/
theorem foldl_flushStep (h : (s.chan n).onBus = none) (m : Nat) :
    let t := (List.range m).foldl (flushStep n) s
    TxOnly n s t ∧ (t.chan n).onBus = none ∧ ∀ k < m, (t.chan n).loaded k = false := by
  induction m with
  | zero => exact ⟨TxOnly.refl n s, h, fun k hk => absurd hk (Nat.not_lt_zero k)⟩
  | succ m ih =>
    obtain ⟨hkept, hidle, hempty⟩ := ih
    rw [List.range_succ, List.foldl_append, List.foldl_cons, List.foldl_nil]
    generalize (List.range m).foldl (flushStep n) s = w at hkept hidle hempty ⊢
    obtain ⟨hidle', hload⟩ := flushStep_idle (b := m) hidle
    refine ⟨hkept.trans (TxOnly.flushStep n w m), hidle', fun k hk => ?_⟩
    rw [hload]
    by_cases hkm : k = m
    · rw [decide_eq_false (not_not.2 hkm), Bool.false_and]
    · rw [hempty k (by omega), Bool.and_false]

theorem State.flushTx_spec (h : (s.chan n).onBus = none) :
    let t := s.flushTx n
    TxOnly n s t ∧ (t.chan n).onBus = none ∧ (t.chan n).backlog = [] ∧ ∀ k < 3, (t.chan n).loaded k = false := by
  have heq : s.flushTx n = ((List.range 3).foldl (flushStep n) s).emptyBacklog n := rfl
  rw [heq]
  obtain ⟨hkept, hidle, hempty⟩ := foldl_flushStep h 3
  generalize (List.range 3).foldl (flushStep n) s = w at hkept hidle hempty ⊢
  have hc : (w.emptyBacklog n).chan n = { w.chan n with backlog := [] } := State.chan_setChan_self _ n _
  refine ⟨hkept.trans (TxOnly.emptyBacklog w n), ?_, ?_, fun k hk => ?_⟩
  · rw [hc]
    exact hidle
  · rw [hc]
  · rw [hc]
    exact hempty k hk

/-! A channel turned off -/

/-- The channel is off and sends nothing; what it received and its filters are kept. -/
def State.chanOff (s t : State) (n : Nat) : Prop :=
  t.canSt n = 0 ∧ t.canTec n = 0 ∧ t.canRec n = 0 ∧ (t.chan n).mode = 0 ∧ (t.chan n).change = none ∧ (t.chan n).onBus = none ∧
  (t.chan n).backlog = [] ∧ (∀ b < 3, (t.chan n).loaded b = false) ∧ (t.chan n).rxq0 = (s.chan n).rxq0 ∧ (t.chan n).rxq1 = (s.chan n).rxq1 ∧
  (t.chan n).flt = (s.chan n).flt ∧ (∀ k, k ≠ n → t.chan k = s.chan k) ∧ s.keeps t

theorem State.chanOff.congr {s' : State} (h : s.chanOff t n) (hc : ∀ k, k ≠ n → s.chan k = s'.chan k) (h0 : (s.chan n).rxq0 = (s'.chan n).rxq0)
    (h1 : (s.chan n).rxq1 = (s'.chan n).rxq1) (hf : (s.chan n).flt = (s'.chan n).flt) (hk : s'.keeps s) : s'.chanOff t n := by
  obtain ⟨hst, htec, hrec, hmode, hchange, hbus, hlog, hload, hq0, hq1, hflt, hothers, hmem, hmram, hotp⟩ := h
  obtain ⟨hmem', hmram', hotp'⟩ := hk
  exact ⟨hst, htec, hrec, hmode, hchange, hbus, hlog, hload, hq0.trans h0, hq1.trans h1, hflt.trans hf, fun k hk => (hothers k hk).trans (hc k hk),
    hmem.trans hmem', hmram.trans hmram', hotp.trans hotp'⟩

/-- The counters and the state of a channel that is off. -/
def State.canCleared (s : State) (n : Nat) : State :=
  (((s.setFld (CAN_ERR n) CAN_ERR_tec 0).setFld (CAN_ERR n) CAN_ERR_rec 0).setFld (CAN_STATUS n) CAN_STATUS_rec_seq 0).setCanSt n 0

theorem CAN_ERR_ne_STATUS (n : Nat) : CAN_ERR n ≠ CAN_STATUS n := by rw [CAN_ERR, CAN_STATUS]; omega

theorem State.canCleared_spec (s : State) (n : Nat) :
    let t := s.canCleared n
    t.canSt n = 0 ∧ t.canTec n = 0 ∧ t.canRec n = 0 ∧
    (∀ f : Fld, f.lo ≤ f.hi → 2 < f.lo → f.hi < 8 → t.fld (CAN_STATUS n) f = s.fld (CAN_STATUS n) f) ∧
    (∀ f : Fld, f.lo ≤ f.hi → 15 < f.lo → t.fld (CAN_ERR n) f = s.fld (CAN_ERR n) f) ∧ s.wroteRegs t [CAN_ERR n, CAN_STATUS n] := by
  have herr : ∀ f, (s.canCleared n).fld (CAN_ERR n) f = ((s.setFld (CAN_ERR n) CAN_ERR_tec 0).setFld (CAN_ERR n) CAN_ERR_rec 0).fld (CAN_ERR n) f := fun f => by
    rw [State.canCleared, State.setCanSt, State.fld, State.rd_setFld, if_neg (CAN_ERR_ne_STATUS n), State.rd_setFld, if_neg (CAN_ERR_ne_STATUS n), State.fld]
  have hst : ∀ f, ((s.setFld (CAN_ERR n) CAN_ERR_tec 0).setFld (CAN_ERR n) CAN_ERR_rec 0).fld (CAN_STATUS n) f = s.fld (CAN_STATUS n) f := fun f => by
    rw [State.fld, State.rd_setFld, if_neg (CAN_ERR_ne_STATUS n).symm, State.rd_setFld, if_neg (CAN_ERR_ne_STATUS n).symm, State.fld]
  have hmem : CAN_STATUS n ∈ [CAN_ERR n, CAN_STATUS n] := List.mem_cons_of_mem _ (List.mem_singleton_self _)
  refine ⟨State.fld_setFld_same _ _ _ (by decide) (by decide), ?_, ?_, fun f hlo h2 h8 => ?_, fun f hlo h => ?_,
    (((s.wroteRegs_setFld _ _ List.mem_cons_self).trans (State.wroteRegs_setFld _ _ _ List.mem_cons_self)).trans
      (State.wroteRegs_setFld _ _ _ hmem)).trans (State.wroteRegs_setFld _ _ _ hmem)⟩
  · rw [State.canTec, herr, State.fld_setFld_ne _ _ (by decide) (by decide) (by decide) (Or.inl (by decide)),
      State.fld_setFld_same _ _ _ (by decide) (by decide)]
    rfl
  · rw [State.canRec, herr, State.fld_setFld_same _ _ _ (by decide) (by decide)]
    rfl
  · rw [State.canCleared, State.setCanSt, State.fld_setFld_ne _ _ (by decide) (by decide) hlo (Or.inr h2),
      State.fld_setFld_ne _ _ (by decide) (by decide) hlo (Or.inl h8), hst]
  · have h7 : CAN_ERR_tec.hi = 7 := rfl
    have h15 : CAN_ERR_rec.hi = 15 := rfl
    rw [herr, State.fld_setFld_ne _ _ (by decide) (by decide) hlo (Or.inr (by omega)),
      State.fld_setFld_ne _ _ (by decide) (by decide) hlo (Or.inr (by omega))]

/-- What turning a channel off leaves beside the channel. -/
structure OffKept (n : Nat) (s t : State) : Prop where
  rd : ∀ a, ¬ isTxReg n a → a ≠ CAN_ERR n → a ≠ CAN_STATUS n → t.rd a = s.rd a
  status : ∀ f : Fld, f.lo ≤ f.hi → 2 < f.lo → f.hi < 8 → t.fld (CAN_STATUS n) f = s.fld (CAN_STATUS n) f
  err : ∀ f : Fld, f.lo ≤ f.hi → 15 < f.lo → t.fld (CAN_ERR n) f = s.fld (CAN_ERR n) f
  flt : t.flt = s.flt
  outputs : t.outputs = s.outputs

theorem not_isTxReg_err (n : Nat) : ¬ isTxReg n (CAN_ERR n) := by
  rintro (⟨b, h⟩ | h | h) <;> simp only [CAN_ERR, CAN_TXB_STATUS, CAN_CNT] at h <;> omega

theorem not_isTxReg_status (n : Nat) : ¬ isTxReg n (CAN_STATUS n) := by
  rintro (⟨b, h⟩ | h | h) <;> simp only [CAN_STATUS, CAN_TXB_STATUS, CAN_CNT] at h <;> omega

/-- A channel that is told to stop: the record before its frames are flushed. -/
def State.canSilent (s : State) (n : Nat) : State := s.setChan n { s.chan n with onBus := none, sender := false, rxSof := none }

theorem State.canOff_eq (s : State) (n : Nat) : s.canOff n =
    let w := ((s.canSilent n).flushTx n).canCleared n
    (w.setChan n { w.chan n with mode := 0, change := none }).enterStandby n := rfl

theorem State.canOff_spec (s : State) (n : Nat) : s.chanOff (s.canOff n) n ∧ OffKept n s (s.canOff n) := by
  rw [State.canOff_eq]
  have hsil : (s.canSilent n).chan n = { s.chan n with onBus := none, sender := false, rxSof := none } := s.chan_setChan_self n _
  have hsilo : ∀ k, k ≠ n → (s.canSilent n).chan k = s.chan k := fun k hk => s.chan_setChan_ne _ hk
  obtain ⟨htx, hidle, hlog, hload⟩ := State.flushTx_spec (s := s.canSilent n) (n := n) (by rw [hsil])
  have hsilrd : ∀ a, (s.canSilent n).rd a = s.rd a := fun _ => rfl
  have hsileq : s.canSilent n = { s with can := (s.canSilent n).can } := rfl
  generalize s.canSilent n = v at hsil hsilo htx hidle hlog hload hsilrd hsileq ⊢
  generalize v.flushTx n = u at htx hidle hlog hload ⊢
  obtain ⟨hst, htec, hrec, hstatus, herr, hwrote⟩ := u.canCleared_spec n
  generalize u.canCleared n = w at hst htec hrec hstatus herr hwrote ⊢
  dsimp only
  obtain ⟨l, b, o, y, hchan⟩ := htx.chan
  have hwc : ∀ k, w.chan k = u.chan k := fun k => by rw [hwrote.2]; rfl
  have hc : ((w.setChan n { w.chan n with mode := 0, change := none }).enterStandby n).chan n = { u.chan n with mode := 0, change := none } := by
    rw [← hwc]
    exact w.chan_setChan_self n _
  have hco : ∀ k, k ≠ n → ((w.setChan n { w.chan n with mode := 0, change := none }).enterStandby n).chan k = s.chan k := fun k hk =>
    (w.chan_setChan_ne _ hk).trans ((hwc k).trans ((htx.others k hk).trans (hsilo k hk)))
  have hrd : ∀ a, ((w.setChan n { w.chan n with mode := 0, change := none }).enterStandby n).rd a = w.rd a := fun _ => rfl
  have hweq : w = { s with regs := w.regs, can := w.can } := by
    have h1 := hwrote.2
    have h2 := htx.eq
    rw [h1]
    dsimp only
    rw [h2, hsileq]
  have hfld : ∀ a f, ((w.setChan n { w.chan n with mode := 0, change := none }).enterStandby n).fld a f = w.fld a f := fun _ _ => rfl
  have hframe : ∀ x : State, x = (w.setChan n { w.chan n with mode := 0, change := none }).enterStandby n →
      x.mem = s.mem ∧ x.mram = s.mram ∧ x.otp = s.otp ∧ x.flt = s.flt ∧ x.outputs = s.outputs := fun x hx => by
    subst hx
    have h1 : w.mem = s.mem ∧ w.mram = s.mram ∧ w.otp = s.otp ∧ w.flt = s.flt ∧ w.outputs = s.outputs := by
      rw [hweq]
      exact ⟨rfl, rfl, rfl, rfl, rfl⟩
    exact h1
  generalize (w.setChan n { w.chan n with mode := 0, change := none }).enterStandby n = x at hc hco hrd hfld hframe ⊢
  obtain ⟨hmem, hmram, hotp, hflt, hout⟩ := hframe x rfl
  refine ⟨⟨(hfld _ _).trans hst, (hfld _ _).trans htec, (hfld _ _).trans hrec, ?_, ?_, ?_, ?_, fun k hk => ?_, ?_, ?_, ?_, hco, hmem, hmram, hotp⟩,
    fun a h1 h2 h3 => ?_, fun f hlo h2 h8 => ?_, fun f hlo h => ?_, hflt, hout⟩
  · rw [hc]
  · rw [hc]
  · rw [hc]
    exact hidle
  · rw [hc]
    exact hlog
  · rw [hc]
    exact hload k hk
  · rw [hc, hchan, hsil]
  · rw [hc, hchan, hsil]
  · rw [hc, hchan, hsil]
  · rw [hrd, hwrote.1 a (by simp [h2, h3]), htx.rd a h1, hsilrd]
  · rw [hfld, hstatus f hlo h2 h8, State.fld, htx.rd _ (not_isTxReg_status n), hsilrd, State.fld]
  · rw [hfld, herr f hlo h, State.fld, htx.rd _ (not_isTxReg_err n), hsilrd, State.fld]

end

end Sys2Proof.Machine

/-! A write of a CAN channel's control register (R187, R188, R190). -/

namespace Sys2Proof.Machine

section
variable {s t u w : State} {m : Master} {n : Nat} {v : Word}

/-! A setting that is refused while the channel is not off -/

theorem State.cfgRefuse_spec (s : State) (hn : n < 24) :
    let t := s.cfgRefuse n
    t.fld (CAN_STATUS n) CAN_STATUS_cfg_refused = 1 ∧
    (∀ f : Fld, f.lo ≤ f.hi → f.hi < 4 ∨ 4 < f.lo → t.fld (CAN_STATUS n) f = s.fld (CAN_STATUS n) f) ∧
    (∀ a, a ≠ CAN_STATUS n → isSrcLost a = false → t.rd a = s.rd a) ∧ s.posts t 0x090C 2 n ∧ s.logs t 9 [(0x090C, 2, n)] ∧ s.regFrame t := by
  have hw := s.wroteRegs_setFld CAN_STATUS_cfg_refused 1 (List.mem_singleton_self (CAN_STATUS n))
  have hset := State.fld_setFld_same (f := CAN_STATUS_cfg_refused) s (CAN_STATUS n) 1 (by decide) (by decide)
  have hne : ∀ f : Fld, f.lo ≤ f.hi → f.hi < 4 ∨ 4 < f.lo →
      (s.setFld (CAN_STATUS n) CAN_STATUS_cfg_refused 1).fld (CAN_STATUS n) f = s.fld (CAN_STATUS n) f := fun f hlo h =>
    State.fld_setFld_ne _ _ (by decide) (by decide) hlo h
  rw [State.cfgRefuse]
  have hinst : n % 4096 = n := Nat.mod_eq_of_lt (by omega)
  generalize s.setFld (CAN_STATUS n) CAN_STATUS_cfg_refused 1 = u at hw hset hne ⊢
  obtain ⟨hposts, -, hreg⟩ := State.raised (s := s) (u := u) (by rw [hw.2]; rfl) (by rw [hw.2]) hw.onlyRegs n 0 (c := 0x090C) (k := 2)
    (by decide) (by decide) rfl
  have hlog := hw.logs_raise (c := 0x090C) (k := 2) n 0
  have hfr := u.raise_frame 0x090C 2 n 0 (by decide)
  generalize u.raise 0x090C 2 n = t at hposts hreg hlog hfr ⊢
  rw [hinst] at hposts hlog
  have hstat : t.rd (CAN_STATUS n) = u.rd (CAN_STATUS n) := hfr.rd _ (isSrcLost_eq_false.2 (Or.inr (by simp only [FLT_SRC_LOST, CAN_STATUS]; omega)))
  refine ⟨?_, fun f hlo h => ?_, fun a ha hl => (hfr.rd a hl).trans (hw.1 a (fun h => ha (List.mem_singleton.1 h))), hposts, hlog, ?_⟩
  · rw [State.fld, hstat]
    exact hset
  · rw [State.fld, hstat]
    exact hne f hlo h
  · rw [State.regFrame, hreg, hw.2]

/-! The register itself -/

/-- A write that changes the receive queues of a channel that is not off. -/
abbrev State.ctlRefused (s : State) (n : Nat) (v : Word) : Prop :=
  CAN_CTL_rxq_mode.get v ≠ s.fld (CAN_CTL n) CAN_CTL_rxq_mode ∧ s.cfgOpen n = false

/-- What the control register shows after a write. -/
def State.ctlShown (s t : State) (n : Nat) (v : Word) : Prop :=
  t.fld (CAN_CTL n) CAN_CTL_mode = CAN_CTL_mode.get v ∧ t.fld (CAN_CTL n) CAN_CTL_boff_mode = CAN_CTL_boff_mode.get v ∧
  t.fld (CAN_CTL n) CAN_CTL_rxq_mode = (if s.ctlRefused n v then s.fld (CAN_CTL n) CAN_CTL_rxq_mode else CAN_CTL_rxq_mode.get v) ∧
  (s.ctlRefused n v → t.fld (CAN_STATUS n) CAN_STATUS_cfg_refused = 1 ∧ s.tells t 1 0x090C 2 n)

/-- The control register written, before the mode acts. -/
def State.ctlSet (s : State) (n : Nat) (v : Word) : State :=
  if s.ctlRefused n v then ((s.wrPlain (CAN_CTL n) v).setFld (CAN_CTL n) CAN_CTL_rxq_mode (s.fld (CAN_CTL n) CAN_CTL_rxq_mode)).cfgRefuse n
  else s.wrPlain (CAN_CTL n) v

theorem CAN_CTL_ne_STATUS (n : Nat) : CAN_CTL n ≠ CAN_STATUS n := by rw [CAN_CTL, CAN_STATUS]; omega

theorem regAt_canCtl (hn : n < 24) : ∃ d, regAt (CAN_CTL n) = some d ∧
    d.fields = [.rw 2 0, .rw 3 3, .rw 5 5, .rw 6 6, .rw 7 7, .rw 8 8, .rw 10 9, .rw 11 11, .rw 12 12] := by
  have haddr : CAN_CTL n = 0x200A0000 + 0x1000 * n + 0 := by rw [CAN_CTL]; omega
  rw [haddr]
  simp only [regAt, blockAt_can hn (off := 0) (by decide)]
  exact ⟨_, rfl, rfl⟩

theorem State.wrPlain_canCtl (s : State) (hn : n < 24) (v : Word) :
    let t := s.wrPlain (CAN_CTL n) v
    t.fld (CAN_CTL n) CAN_CTL_mode = CAN_CTL_mode.get v ∧ t.fld (CAN_CTL n) CAN_CTL_boff_mode = CAN_CTL_boff_mode.get v ∧
    t.fld (CAN_CTL n) CAN_CTL_rxq_mode = CAN_CTL_rxq_mode.get v := by
  obtain ⟨d, hd, hf⟩ := regAt_canCtl hn
  have hrd : ∀ f : Fld, (s.wrPlain (CAN_CTL n) v).fld (CAN_CTL n) f = f.get (d.write (s.rd (CAN_CTL n)) v) := fun f => by
    rw [State.fld, State.rd_wrPlain_of hd]
  refine ⟨(hrd _).trans ?_, (hrd _).trans ?_, (hrd _).trans ?_⟩ <;>
    simp (disch := decide) only [RegDesc.write, hf, List.foldl, FAcc.write, CAN_CTL_mode, CAN_CTL_boff_mode, CAN_CTL_rxq_mode,
      Fld.get_put_ne, Fld.get_put, Fld.get_mod]

theorem State.ctlSet_spec (s : State) (hn : n < 24) (v : Word) :
    let t := s.ctlSet n v
    s.ctlShown t n v ∧ (∀ f : Fld, f.lo ≤ f.hi → f.hi < 4 ∨ 4 < f.lo → t.fld (CAN_STATUS n) f = s.fld (CAN_STATUS n) f) ∧
    s.onlyRegs t [CAN_CTL n, CAN_STATUS n] ∧ s.regFrame t := by
  obtain ⟨hmode, hboff, hrxq⟩ := s.wrPlain_canCtl hn v
  have hw := s.wroteRegs_wrPlain v (List.mem_singleton_self (CAN_CTL n))
  rw [State.ctlSet]
  by_cases hr : s.ctlRefused n v
  · rw [if_pos hr]
    have hw2 := hw.trans (State.wroteRegs_setFld (s.wrPlain (CAN_CTL n) v) CAN_CTL_rxq_mode (s.fld (CAN_CTL n) CAN_CTL_rxq_mode) (List.mem_singleton_self (CAN_CTL n)))
    have hmode2 := (State.fld_setFld_ne (f := CAN_CTL_rxq_mode) (g := CAN_CTL_mode) (a := CAN_CTL n) (s.wrPlain (CAN_CTL n) v)
      (s.fld (CAN_CTL n) CAN_CTL_rxq_mode) (by decide) (by decide) (by decide) (Or.inl (by decide))).trans hmode
    have hboff2 := (State.fld_setFld_ne (f := CAN_CTL_rxq_mode) (g := CAN_CTL_boff_mode) (a := CAN_CTL n) (s.wrPlain (CAN_CTL n) v)
      (s.fld (CAN_CTL n) CAN_CTL_rxq_mode) (by decide) (by decide) (by decide) (Or.inl (by decide))).trans hboff
    have hrxq2 := (State.fld_setFld_same (f := CAN_CTL_rxq_mode) (s.wrPlain (CAN_CTL n) v) (CAN_CTL n) (s.fld (CAN_CTL n) CAN_CTL_rxq_mode)
      (by decide) (by decide)).trans (CAN_CTL_rxq_mode.get_mod (s.rd (CAN_CTL n)))
    generalize (s.wrPlain (CAN_CTL n) v).setFld (CAN_CTL n) CAN_CTL_rxq_mode (s.fld (CAN_CTL n) CAN_CTL_rxq_mode) = u at hw2 hmode2 hboff2 hrxq2 ⊢
    obtain ⟨hset, hkeep, hrd, -, hlog, hreg⟩ := u.cfgRefuse_spec hn
    have hctl : ∀ f, (u.cfgRefuse n).fld (CAN_CTL n) f = u.fld (CAN_CTL n) f := fun f => by
      rw [State.fld, hrd _ (CAN_CTL_ne_STATUS n) (isSrcLost_eq_false.2 (Or.inr (by simp only [FLT_SRC_LOST, CAN_CTL]; omega))), State.fld]
    have hstat : ∀ f, u.fld (CAN_STATUS n) f = s.fld (CAN_STATUS n) f := fun f => by
      rw [State.fld, hw2.1 _ (fun h => CAN_CTL_ne_STATUS n (List.mem_singleton.1 h).symm), State.fld]
    have hlog' : s.logs (u.cfgRefuse n) 9 [(0x090C, 2, n)] :=
      State.logs.trans (es := []) (State.logs_of_flt (t := u) (by rw [hw2.2])) (by rw [hw2.2]; rfl) hlog
    refine ⟨⟨(hctl _).trans hmode2, (hctl _).trans hboff2, ?_, fun _ => ⟨hset, hlog'.tells (List.mem_singleton_self _) (Nat.le_refl 1) rfl⟩⟩,
      fun f hlo h => (hkeep f hlo h).trans (hstat f), fun a ha hl => ?_, ?_⟩
    · rw [if_pos hr]
      exact (hctl _).trans hrxq2
    · simp only [List.mem_cons, List.not_mem_nil, or_false, not_or] at ha
      exact (hrd a ha.2 (isSrcLost_eq_false.2 hl)).trans (hw2.1 a (fun h => ha.1 (List.mem_singleton.1 h)))
    · rw [State.regFrame, hreg, hw2.2]
  · rw [if_neg hr]
    refine ⟨⟨hmode, hboff, ?_, fun h => absurd h hr⟩, fun f _ _ => ?_, (hw.mono (List.forall_mem_singleton.2 List.mem_cons_self)).onlyRegs, ?_⟩
    · rw [if_neg hr]
      exact hrxq
    · rw [State.fld, hw.1 _ (fun h => CAN_CTL_ne_STATUS n (List.mem_singleton.1 h).symm), State.fld]
    · rw [State.regFrame, hw.2]

theorem State.ctlShown.congr (h : s.ctlShown t n v) (hctl : u.rd (CAN_CTL n) = t.rd (CAN_CTL n))
    (hst : u.fld (CAN_STATUS n) CAN_STATUS_cfg_refused = t.fld (CAN_STATUS n) CAN_STATUS_cfg_refused) (hflt : u.flt = t.flt) : s.ctlShown u n v := by
  obtain ⟨hmode, hboff, hrxq, href⟩ := h
  have hfld : ∀ f, u.fld (CAN_CTL n) f = t.fld (CAN_CTL n) f := fun f => by rw [State.fld, hctl, State.fld]
  refine ⟨(hfld _).trans hmode, (hfld _).trans hboff, (hfld _).trans hrxq, fun hr => ⟨hst.trans (href hr).1, ?_⟩⟩
  have h2 := (href hr).2
  rw [State.tells] at h2 ⊢
  rw [hflt]
  exact h2

/-- The mode that a value asks for. -/
def ctlMode (v : Word) : Nat := canModeOf (CAN_CTL_mode.get v)

/-- A recovery that the register asks for begins. -/
def State.recoverBegun (s : State) (n : Nat) : State := (s.setCanSt n 5).setFld (CAN_STATUS n) CAN_STATUS_rec_seq 0

theorem State.canCtlWrite_eq (s : State) (hn : n < 24) (v : Word) : s.canCtlWrite n v =
    let r := (s.ctlSet n v).canRequest n (ctlMode v)
    if CAN_CTL_recover.get v = 1 ∧ r.canSt n = 4 ∧ r.fldB (CAN_CTL n) CAN_CTL_boff_mode = true then r.recoverBegun n else r := by
  have hset : (if (CAN_CTL_rxq_mode.get v != s.fld (CAN_CTL n) CAN_CTL_rxq_mode && !s.cfgOpen n) = true then
      ((s.wrPlain (CAN_CTL n) v).setFld (CAN_CTL n) CAN_CTL_rxq_mode (s.fld (CAN_CTL n) CAN_CTL_rxq_mode)).cfgRefuse n else s.wrPlain (CAN_CTL n) v) =
      s.ctlSet n v := by
    rw [State.ctlSet]
    exact if_congr (by simp [State.ctlRefused]) rfl rfl
  have hmode : (s.ctlSet n v).canMode n = ctlMode v := congrArg canModeOf (s.ctlSet_spec hn v).1.1
  rw [State.canCtlWrite]
  dsimp only
  rw [hset, hmode]
  rfl

end

end Sys2Proof.Machine

/-! The modes of a CAN channel as its control register asks for them (R188, R190). -/

namespace Sys2Proof.Machine

section
variable {s t u w : State} {m : Master} {n : Nat} {v : Word}

/-! What a request for a mode does in each state of the channel -/

/-- The channel's record with the change that waits, where the mode asked for is another one. -/
def CanChan.waits (c : CanChan) (md : Nat) : CanChan := { c with change := if md = c.mode then none else some md }

theorem State.canRequest_stays (h : s.canSt n = 0) {md : Nat} (hm : md = 0 ∨ s.dev.state ≠ .full) : s.canRequest n md = s := by
  rw [State.canRequest, h]
  exact if_pos hm

theorem State.canRequest_starts (h : s.canSt n = 0) {md : Nat} (hm : md ≠ 0) (hf : s.dev.state = .full) : s.canRequest n md =
    let u := (s.setChan n { s.chan n with mode := md, change := none }).setCanSt n 1
    { u with bank := { s.bank with decoding := s.bank.decoding.filter (· != n) } } := by
  rw [State.canRequest, h]
  exact if_neg (not_or.2 ⟨hm, not_not.2 hf⟩)

theorem State.canRequest_integrating (h : s.canSt n = 1) {md : Nat} (hm : md ≠ 0) :
    s.canRequest n md = s.setChan n { s.chan n with mode := md, change := none } := by
  rw [State.canRequest, h]
  exact if_neg hm

theorem State.canRequest_on (h : s.canSt n = 2 ∨ s.canSt n = 3) (md : Nat) : s.canRequest n md = s.setChan n ((s.chan n).waits md) := by
  rcases h with h | h <;> rw [State.canRequest, h] <;> rfl

/-- The states beyond those in operation: bus-off and recovery. -/
theorem canSt_beyond {k : Nat} (h : 4 ≤ k) : ∃ j, k = j + 4 := ⟨k - 4, by omega⟩

theorem State.canRequest_off (h : s.canSt n = 1 ∨ 4 ≤ s.canSt n) : s.canRequest n 0 = s.canOff n := by
  rcases h with h | h
  · rw [State.canRequest, h]
    rfl
  · obtain ⟨j, hj⟩ := canSt_beyond h
    rw [State.canRequest, hj]
    rfl

theorem State.canRequest_beyond (h : 4 ≤ s.canSt n) {md : Nat} (hm : md ≠ 0) : s.canRequest n md = s.setChan n ((s.chan n).waits md) := by
  obtain ⟨j, hj⟩ := canSt_beyond h
  rw [State.canRequest, hj]
  exact if_neg hm

/-! What a write leaves, by what follows the register -/

/-- The channel's record is this one, no other channel changes, and of the registers only the two of the channel's state. -/
def State.ctlOnly (s t : State) (n : Nat) (c : CanChan) : Prop :=
  t.chan n = c ∧ (∀ k, k ≠ n → t.chan k = s.chan k) ∧ s.onlyRegs t [CAN_CTL n, CAN_STATUS n] ∧ t = { s with regs := t.regs, flt := t.flt, can := t.can }

theorem State.ctlSet_chan (s : State) (hn : n < 24) (v : Word) (k : Nat) : (s.ctlSet n v).chan k = s.chan k := by
  obtain ⟨-, -, -, hreg⟩ := s.ctlSet_spec hn v
  rw [hreg]
  rfl

theorem State.ctlSet_canSt (s : State) (hn : n < 24) (v : Word) : (s.ctlSet n v).canSt n = s.canSt n :=
  (s.ctlSet_spec hn v).2.1 _ (by decide) (Or.inl (by decide))

theorem State.ctlSet_dev (s : State) (hn : n < 24) (v : Word) : (s.ctlSet n v).dev = s.dev := by
  obtain ⟨-, -, -, hreg⟩ := s.ctlSet_spec hn v
  rw [hreg]

/-- The register as written, and after it a change of the channel's record and its state alone. -/
theorem State.ctlFollowed (hn : n < 24) (v : Word) {c : CanChan} (hrd : ∀ a, a ≠ CAN_STATUS n → t.rd a = (s.ctlSet n v).rd a)
    (hcfg : t.fld (CAN_STATUS n) CAN_STATUS_cfg_refused = (s.ctlSet n v).fld (CAN_STATUS n) CAN_STATUS_cfg_refused)
    (heq : t = { s.ctlSet n v with regs := t.regs, can := ((s.ctlSet n v).setChan n c).can }) : s.ctlShown t n v ∧ s.ctlOnly t n c := by
  obtain ⟨hshown, -, honly, hreg⟩ := s.ctlSet_spec hn v
  have hchan := s.ctlSet_chan hn v
  generalize s.ctlSet n v = w at hrd hcfg heq hshown honly hreg hchan
  have hflt : t.flt = w.flt := by rw [heq]
  have hc : ∀ k, t.chan k = (w.setChan n c).chan k := fun k => by rw [heq]; rfl
  refine ⟨hshown.congr (hrd _ (CAN_CTL_ne_STATUS n)) hcfg hflt, (hc n).trans (w.chan_setChan_self n c),
    fun k hk => (hc k).trans ((w.chan_setChan_ne c hk).trans (hchan k)), fun a ha hl => ?_, ?_⟩
  · refine (hrd a (fun h => ha (h ▸ List.mem_cons_of_mem _ (List.mem_singleton_self _)))).trans (honly a ha hl)
  · rw [heq, hreg]

/-- A change of the record alone. -/
theorem State.ctlSet_setChan (s : State) (hn : n < 24) (v : Word) (c : CanChan) :
    let t := (s.ctlSet n v).setChan n c
    s.ctlShown t n v ∧ t.canSt n = s.canSt n ∧ s.ctlOnly t n c := by
  obtain ⟨hshown, honly⟩ := State.ctlFollowed (s := s) (t := (s.ctlSet n v).setChan n c) hn v (c := c) (fun _ _ => rfl) rfl rfl
  exact ⟨hshown, s.ctlSet_canSt hn v, honly⟩

/-- A change of the record and of the state. -/
theorem State.ctlSet_setCanSt (s : State) (hn : n < 24) (v : Word) (c : CanChan) {k : Nat} (hk : k < 8) :
    let t := ((s.ctlSet n v).setChan n c).setCanSt n k
    s.ctlShown t n v ∧ t.canSt n = k ∧ s.ctlOnly t n c := by
  obtain ⟨hshown, honly⟩ := State.ctlFollowed (s := s) (t := ((s.ctlSet n v).setChan n c).setCanSt n k) hn v (c := c)
    (fun a ha => (State.rd_setFld _ _ _ _ _).trans (if_neg ha))
    (State.fld_setFld_ne _ _ (by decide) (by decide) (by decide) (Or.inr (by decide))) rfl
  exact ⟨hshown, (State.fld_setFld_same _ _ _ (by decide) (by decide)).trans (Nat.mod_eq_of_lt hk), honly⟩

/-- The begin of recovery after a change of the record. -/
theorem State.ctlSet_recover (s : State) (hn : n < 24) (v : Word) (c : CanChan) :
    let t := ((s.ctlSet n v).setChan n c).recoverBegun n
    s.ctlShown t n v ∧ t.canSt n = 5 ∧ t.fld (CAN_STATUS n) CAN_STATUS_rec_seq = 0 ∧ s.ctlOnly t n c := by
  obtain ⟨hshown, honly⟩ := State.ctlFollowed (s := s) (t := ((s.ctlSet n v).setChan n c).recoverBegun n) hn v (c := c)
    (fun a ha => ((State.rd_setFld _ _ _ _ _).trans (if_neg ha)).trans ((State.rd_setFld _ _ _ _ _).trans (if_neg ha)))
    ((State.fld_setFld_ne _ _ (by decide) (by decide) (by decide) (Or.inl (by decide))).trans
      (State.fld_setFld_ne _ _ (by decide) (by decide) (by decide) (Or.inr (by decide)))) rfl
  exact ⟨hshown, (State.fld_setFld_ne _ _ (by decide) (by decide) (by decide) (Or.inl (by decide))).trans
    (State.fld_setFld_same _ _ _ (by decide) (by decide)), State.fld_setFld_same _ _ _ (by decide) (by decide), honly⟩

/-! The write, state by state -/

/-- The write begins a recovery that waits for it. -/
abbrev State.ctlRecovers (s : State) (n : Nat) (v : Word) : Prop := s.canSt n = 4 ∧ CAN_CTL_recover.get v = 1 ∧ CAN_CTL_boff_mode.get v = 1

/-- Outside bus-off a write is its register and the request. -/
theorem State.canCtlWrite_request (hn : n < 24) (h : ((s.ctlSet n v).canRequest n (ctlMode v)).canSt n ≠ 4) :
    s.canCtlWrite n v = (s.ctlSet n v).canRequest n (ctlMode v) := by
  rw [State.canCtlWrite_eq s hn v]
  exact if_neg (fun hc => h hc.2.1)

theorem State.canCtlWrite_stays (hn : n < 24) (hst : s.canSt n = 0) (hm : ctlMode v = 0 ∨ s.dev.state ≠ .full) : s.canCtlWrite n v = s.ctlSet n v := by
  have hreq : (s.ctlSet n v).canRequest n (ctlMode v) = s.ctlSet n v :=
    State.canRequest_stays ((s.ctlSet_canSt hn v).trans hst) (by rw [s.ctlSet_dev hn v]; exact hm)
  rw [State.canCtlWrite_request hn (by rw [hreq, s.ctlSet_canSt hn v, hst]; decide), hreq]

theorem State.canCtlWrite_starts (hn : n < 24) (hst : s.canSt n = 0) (hm : ctlMode v ≠ 0) (hf : s.dev.state = .full) : s.canCtlWrite n v =
    let u := ((s.ctlSet n v).setChan n { s.chan n with mode := ctlMode v, change := none }).setCanSt n 1
    { u with bank := { s.bank with decoding := s.bank.decoding.filter (· != n) } } := by
  have hbank : (s.ctlSet n v).bank = s.bank := by
    obtain ⟨-, -, -, hreg⟩ := s.ctlSet_spec hn v
    rw [hreg]
  have hreq := State.canRequest_starts ((s.ctlSet_canSt hn v).trans hst) hm (by rw [s.ctlSet_dev hn v]; exact hf)
  rw [s.ctlSet_chan hn v, hbank] at hreq
  rw [State.canCtlWrite_request hn ?_, hreq]
  rw [hreq]
  exact fun h => absurd ((s.ctlSet_setCanSt hn v { s.chan n with mode := ctlMode v, change := none } (k := 1) (by decide)).2.1.symm.trans h) (by decide)

theorem State.canCtlWrite_integrating (hn : n < 24) (hst : s.canSt n = 1) (hm : ctlMode v ≠ 0) :
    s.canCtlWrite n v = (s.ctlSet n v).setChan n { s.chan n with mode := ctlMode v, change := none } := by
  have hreq := State.canRequest_integrating ((s.ctlSet_canSt hn v).trans hst) hm
  rw [s.ctlSet_chan hn v] at hreq
  rw [State.canCtlWrite_request hn ?_, hreq]
  rw [hreq]
  exact fun h => absurd ((hst.symm.trans (s.ctlSet_canSt hn v).symm).trans h) (by decide)

theorem State.canCtlWrite_on (hn : n < 24) (hst : s.canSt n = 2 ∨ s.canSt n = 3) :
    s.canCtlWrite n v = (s.ctlSet n v).setChan n ((s.chan n).waits (ctlMode v)) := by
  have hreq := State.canRequest_on (s := s.ctlSet n v) (n := n) (by rwa [s.ctlSet_canSt hn v]) (ctlMode v)
  rw [s.ctlSet_chan hn v] at hreq
  rw [State.canCtlWrite_request hn ?_, hreq]
  rw [hreq]
  intro h
  have h4 : s.canSt n = 4 := (s.ctlSet_canSt hn v).symm.trans h
  omega

theorem State.canCtlWrite_off (hn : n < 24) (hst : s.canSt n = 1 ∨ 4 ≤ s.canSt n) (hm : ctlMode v = 0) : s.canCtlWrite n v = (s.ctlSet n v).canOff n := by
  have hreq := State.canRequest_off (s := s.ctlSet n v) (n := n) (by rwa [s.ctlSet_canSt hn v])
  rw [← hm] at hreq
  rw [State.canCtlWrite_request hn ?_, hreq]
  rw [hreq]
  obtain ⟨hoff, -⟩ := (s.ctlSet n v).canOff_spec n
  exact fun h => absurd (hoff.1.symm.trans h) (by decide)

theorem State.canCtlWrite_beyond (hn : n < 24) (hst : 4 ≤ s.canSt n) (hm : ctlMode v ≠ 0) : s.canCtlWrite n v =
    if s.ctlRecovers n v then ((s.ctlSet n v).setChan n ((s.chan n).waits (ctlMode v))).recoverBegun n
    else (s.ctlSet n v).setChan n ((s.chan n).waits (ctlMode v)) := by
  have hreq := State.canRequest_beyond (s := s.ctlSet n v) (n := n) (by rwa [s.ctlSet_canSt hn v]) hm
  rw [s.ctlSet_chan hn v] at hreq
  rw [State.canCtlWrite_eq s hn v, hreq]
  refine if_congr ?_ rfl rfl
  have hst' : ((s.ctlSet n v).setChan n ((s.chan n).waits (ctlMode v))).canSt n = s.canSt n := s.ctlSet_canSt hn v
  have hboff : ((s.ctlSet n v).setChan n ((s.chan n).waits (ctlMode v))).fld (CAN_CTL n) CAN_CTL_boff_mode = CAN_CTL_boff_mode.get v :=
    (s.ctlSet_spec hn v).1.2.1
  have hlt := CAN_CTL_boff_mode.get_lt v
  rw [hst', State.fldB, hboff, bne_iff_ne, State.ctlRecovers]
  have hw : 2 ^ CAN_CTL_boff_mode.width = 2 := rfl
  constructor <;> (rintro ⟨h1, h2, h3⟩; exact ⟨by omega, by omega, by omega⟩)

/-! The write as a command -/

theorem State.seen_chan (s : State) (m : Master) (k : Nat) : (s.seen m).chan k = s.chan k := by rw [State.chan, State.seen_can, State.chan]

theorem State.seen_canSt (s : State) (m : Master) (n : Nat) : (s.seen m).canSt n = s.canSt n := s.seen_fld m _ _

theorem State.seen_cfgOpen (s : State) (m : Master) (n : Nat) : (s.seen m).cfgOpen n = s.cfgOpen n := by
  simp only [State.cfgOpen, State.canMode, State.canSt, State.seen_fld]

theorem State.ctlShown_seen (h : (s.seen m).ctlShown t n v) : s.ctlShown t n v := by
  simp only [State.ctlShown, State.ctlRefused, State.seen_fld, State.seen_cfgOpen, State.tells, State.seen_running, State.seen_flt] at h
  exact h

theorem regCommand_canCtl (hn : n < 24) (hw : s.writable m (CAN_CTL n)) (v : Word) : s.regCommand m (CAN_CTL n) v = (s.seen m).canCtlWrite n v := by
  have haddr : CAN_CTL n = 0x200A0000 + 0x1000 * n + 0 := by rw [CAN_CTL]; omega
  rw [haddr] at hw ⊢
  rw [State.regCommand_can hn (by decide) hw]
  rfl

/-- What a write of the control register gives, with the request and without it. -/
theorem State.gives_canCtl {c : Instr} {v' : Word} (hc : exec c s = .next (s.regCommand m (CAN_CTL n) v')) (hn : n < 24) (hw : s.writable m (CAN_CTL n))
    {Q : State → Prop} (hQ : Q ((s.seen m).canCtlWrite n v')) : Gives c s Q :=
  ⟨_, hc.trans (congrArg Host.Outcome.next (regCommand_canCtl hn hw v')), hQ⟩

end

end Sys2Proof.Machine

/-! Bus idle, configuration, integration, recovery and a stuck bus of a CAN channel (R56, R187 to R189, R203). -/

namespace Sys2Proof.Machine

section
variable {s t u w : State} {m : Master} {n : Nat} {v : Word}

/-! Mode 0 of a channel that takes no part -/

theorem not_isTxReg_ctl (n : Nat) : ¬ isTxReg n (CAN_CTL n) := by
  rintro (⟨b, h⟩ | h | h) <;> simp only [CAN_CTL, CAN_TXB_STATUS, CAN_CNT] at h <;> omega

theorem State.canCtlWrite_off_spec (hn : n < 24) (hst : s.canSt n = 1 ∨ 4 ≤ s.canSt n) (hm : ctlMode v = 0) :
    s.ctlShown (s.canCtlWrite n v) n v ∧ s.chanOff (s.canCtlWrite n v) n := by
  rw [State.canCtlWrite_off hn hst hm]
  obtain ⟨hshown, -, -, hreg⟩ := s.ctlSet_spec hn v
  have hchan := s.ctlSet_chan hn v
  generalize s.ctlSet n v = w at hshown hreg hchan ⊢
  obtain ⟨hoff, hkept⟩ := w.canOff_spec n
  refine ⟨hshown.congr (hkept.rd _ (not_isTxReg_ctl n) ?_ (CAN_CTL_ne_STATUS n)) (hkept.status _ (by decide) (by decide) (by decide)) hkept.flt,
    hoff.congr (fun k _ => hchan k) (by rw [hchan]) (by rw [hchan]) (by rw [hchan]) ?_⟩
  · rw [CAN_CTL, CAN_ERR]
    omega
  · rw [hreg]
    exact ⟨rfl, rfl, rfl⟩

/-! Bus idle -/

/-- The channel's record at bus idle: it sends and receives nothing. -/
def CanChan.still (c : CanChan) : CanChan := { c with sender := false, rxSof := none }

/-- The frame that a channel offers starts, where it takes part and the bus is not stuck. -/
def State.canStarts (s : State) (n : Nat) (x : CanChan) (on : Bool) : CanChan :=
  if on && !s.fldB (CAN_STATUS n) CAN_STATUS_bus_stuck then
    (x.offered (s.fldB (CAN_CTL n) CAN_CTL_tx_order)).elim x (fun b => { x with onBus := some b, since := s.elapsed, sof := s.tide.toNat, sender := true })
  else x

theorem State.canStart_spec (s : State) (n : Nat) :
    let t := s.canStart n
    t.chan n = s.canStarts n (s.chan n) (s.canPart n && s.counting n) ∧ (∀ k, k ≠ n → t.chan k = s.chan k) ∧ t = { s with can := t.can } := by
  rw [State.canStart, State.canStarts]
  dsimp only
  split
  · cases (s.chan n).offered (s.fldB (CAN_CTL n) CAN_CTL_tx_order) with
    | none => exact ⟨rfl, fun _ _ => rfl, rfl⟩
    | some b => exact ⟨s.chan_setChan_self n _, fun k hk => s.chan_setChan_ne _ hk, rfl⟩
  · exact ⟨rfl, fun _ _ => rfl, rfl⟩

theorem State.canStart_apart (h : s.canPart n = false) : s.canStart n = s := by
  rw [State.canStart, h]
  rfl

theorem State.canIdle_busy (h : (s.chan n).onBus ≠ none) : s.canIdle n = s := if_pos (Option.isSome_iff_ne_none.2 h)

theorem State.canIdle_eq (h : (s.chan n).onBus = none) : s.canIdle n =
    let u := s.setChan n (s.chan n).still
    (s.chan n).change.elim (u.canStart n) (fun m => if s.canPart n then (u.canApply n m).canStart n else u) := by
  have hidle : ∀ u : State, (match (u.chan n).change with
      | some md => if u.canPart n then (u.canApply n md).canStart n else u
      | none => u.canStart n) = (u.chan n).change.elim (u.canStart n) (fun md => if u.canPart n then (u.canApply n md).canStart n else u) := fun u => by
    cases (u.chan n).change <;> rfl
  have hc : ((s.setChan n (s.chan n).still).chan n).change = (s.chan n).change := by
    rw [State.chan_setChan_self]
    rfl
  refine (if_neg ?_).trans ((hidle (s.setChan n (s.chan n).still)).trans ?_)
  · rw [h]
    decide
  · rw [hc]
    rfl

theorem State.canIdle_unchanged (h : (s.chan n).onBus = none) (hc : (s.chan n).change = none) :
    let t := s.canIdle n
    t.chan n = s.canStarts n (s.chan n).still (s.canPart n && s.counting n) ∧ (∀ k, k ≠ n → t.chan k = s.chan k) ∧ t = { s with can := t.can } := by
  rw [State.canIdle_eq h, hc, Option.elim_none]
  have hself := s.chan_setChan_self n (s.chan n).still
  have hothers : ∀ k, k ≠ n → (s.setChan n (s.chan n).still).chan k = s.chan k := fun k hk => s.chan_setChan_ne _ hk
  have hcount : (s.setChan n (s.chan n).still).counting n = s.counting n := by
    rw [State.counting, hself]
    rfl
  obtain ⟨hchan, hrest, heq⟩ := (s.setChan n (s.chan n).still).canStart_spec n
  rw [hself, hcount] at hchan
  exact ⟨hchan, fun k hk => (hrest k hk).trans (hothers k hk), heq⟩

theorem State.canIdle_apart (h : (s.chan n).onBus = none) (hc : (s.chan n).change ≠ none) (hp : s.canPart n = false) :
    s.canIdle n = s.setChan n (s.chan n).still := by
  obtain ⟨md, hmd⟩ := Option.ne_none_iff_exists'.1 hc
  rw [State.canIdle_eq h, hmd, Option.elim_some, hp]
  rfl

theorem State.canIdle_applies (h : (s.chan n).onBus = none) {md : Nat} (hc : (s.chan n).change = some md) (hp : s.canPart n = true) :
    s.canIdle n = ((s.setChan n (s.chan n).still).canApply n md).canStart n := by
  rw [State.canIdle_eq h, hc, Option.elim_some, hp]
  rfl

theorem State.canApply_off (s : State) (n : Nat) : s.canApply n 0 = s.canOff n := rfl

theorem State.canApply_integrates {md : Nat} (h0 : md ≠ 0) (h : md = 4 ∨ (s.chan n).mode = 4) :
    s.canApply n md = (s.setChan n { s.chan n with mode := md, change := none }).setCanSt n 1 := by
  rw [State.canApply, if_neg h0]
  exact if_pos h

theorem State.canApply_takes {md : Nat} (h0 : md ≠ 0) (h : ¬ (md = 4 ∨ (s.chan n).mode = 4)) :
    s.canApply n md = s.setChan n { s.chan n with mode := md, change := none } := by
  rw [State.canApply, if_neg h0]
  exact if_neg h

theorem State.keeps.refl (s : State) : s.keeps s := ⟨rfl, rfl, rfl⟩

theorem State.canPart_of_st {k : Nat} (h : s.canSt n = k) (h2 : k ≠ 2) (h3 : k ≠ 3) : s.canPart n = false := by
  rw [State.canPart, h, Bool.or_eq_false_iff]
  exact ⟨beq_false_of_ne h2, beq_false_of_ne h3⟩

/-- Mode 0 at bus idle. -/
theorem State.canIdle_off (h : (s.chan n).onBus = none) (hc : (s.chan n).change = some 0) (hp : s.canPart n = true) : s.chanOff (s.canIdle n) n := by
  rw [State.canIdle_applies h hc hp, State.canApply_off]
  have hself := s.chan_setChan_self n (s.chan n).still
  have hothers : ∀ k, k ≠ n → (s.setChan n (s.chan n).still).chan k = s.chan k := fun k hk => s.chan_setChan_ne _ hk
  have hkeeps : s.keeps (s.setChan n (s.chan n).still) := ⟨rfl, rfl, rfl⟩
  generalize s.setChan n (s.chan n).still = u at hself hothers hkeeps ⊢
  obtain ⟨hoff, -⟩ := u.canOff_spec n
  rw [State.canStart_apart (State.canPart_of_st hoff.1 (by decide) (by decide))]
  exact hoff.congr hothers (by rw [hself]; rfl) (by rw [hself]; rfl) (by rw [hself]; rfl) hkeeps

theorem State.canIdle_integrates (h : (s.chan n).onBus = none) {md : Nat} (hc : (s.chan n).change = some md) (hp : s.canPart n = true) (h0 : md ≠ 0)
    (h4 : md = 4 ∨ (s.chan n).mode = 4) :
    let t := s.canIdle n
    t.canSt n = 1 ∧ t.chan n = { (s.chan n).still with mode := md, change := none } ∧ (∀ k, k ≠ n → t.chan k = s.chan k) ∧
    s.onlyRegs t [CAN_STATUS n] ∧ t = { s with regs := t.regs, can := t.can } := by
  have hself := s.chan_setChan_self n (s.chan n).still
  have happly := State.canApply_integrates (s := s.setChan n (s.chan n).still) (n := n) h0 (by rw [hself]; exact h4)
  rw [hself] at happly
  have hst : (((s.setChan n (s.chan n).still).setChan n { (s.chan n).still with mode := md, change := none }).setCanSt n 1).canSt n = 1 :=
    State.fld_setFld_same _ _ _ (by decide) (by decide)
  rw [State.canIdle_applies h hc hp, happly, State.canStart_apart (State.canPart_of_st hst (by decide) (by decide))]
  refine ⟨hst, State.chan_setChan_self _ n _, fun k hk => (State.chan_setChan_ne _ _ hk).trans (s.chan_setChan_ne _ hk), fun a ha _ => ?_, rfl⟩
  exact (State.rd_setFld _ _ _ _ _).trans (if_neg (fun h => ha (List.mem_singleton.2 h)))

theorem State.canIdle_takes (h : (s.chan n).onBus = none) {md : Nat} (hc : (s.chan n).change = some md) (hp : s.canPart n = true) (h0 : md ≠ 0)
    (h4 : md ≠ 4) (hm : (s.chan n).mode ≠ 4) :
    let t := s.canIdle n
    t.chan n = s.canStarts n { (s.chan n).still with mode := md, change := none } (md == 1) ∧ (∀ k, k ≠ n → t.chan k = s.chan k) ∧
    t = { s with can := t.can } := by
  have hself := s.chan_setChan_self n (s.chan n).still
  have happly := State.canApply_takes (s := s.setChan n (s.chan n).still) (n := n) h0 (by rw [hself]; exact not_or.2 ⟨h4, hm⟩)
  rw [hself] at happly
  rw [State.canIdle_applies h hc hp, happly]
  have hself' := (s.setChan n (s.chan n).still).chan_setChan_self n { (s.chan n).still with mode := md, change := none }
  have hothers : ∀ k, k ≠ n → ((s.setChan n (s.chan n).still).setChan n { (s.chan n).still with mode := md, change := none }).chan k = s.chan k :=
    fun k hk => (State.chan_setChan_ne _ _ hk).trans (s.chan_setChan_ne _ hk)
  have hpart : ((s.setChan n (s.chan n).still).setChan n { (s.chan n).still with mode := md, change := none }).canPart n = true := hp
  have hcount : ((s.setChan n (s.chan n).still).setChan n { (s.chan n).still with mode := md, change := none }).counting n = (md == 1) := by
    rw [State.counting, hself']
    change (md == 1 || md == 4) = (md == 1)
    rw [beq_false_of_ne h4, Bool.or_false]
  obtain ⟨hchan, hrest, heq⟩ := ((s.setChan n (s.chan n).still).setChan n { (s.chan n).still with mode := md, change := none }).canStart_spec n
  rw [hself', hpart, hcount, Bool.true_and] at hchan
  exact ⟨hchan, fun k hk => (hrest k hk).trans (hothers k hk), heq⟩

/-! Configuration -/

theorem regCommand_canConfig (hn : n < 24) {k : Nat} (hk : k < 5) (hw : s.writable m (CAN_CTL n + 0x10 + 4 * k)) (v : Word) :
    s.regCommand m (CAN_CTL n + 0x10 + 4 * k) v = (s.seen m).canWrite n (0x10 + 4 * k) v := by
  have haddr : CAN_CTL n + 0x10 + 4 * k = 0x200A0000 + 0x1000 * n + (0x10 + 4 * k) := by rw [CAN_CTL]; omega
  rw [haddr] at hw ⊢
  exact State.regCommand_can hn (by omega) hw

theorem State.canWrite_config (s : State) {k : Nat} (hk : k < 5) (v : Word) : s.canWrite n (0x10 + 4 * k) v =
    if 8 ≤ n ∧ (k = 2 ∨ k = 3) then s else if s.cfgOpen n = false then s.cfgRefuse n
    else if 8 ≤ n ∧ k = 4 then (s.wrPlain (CAN_CTL n + 0x10 + 4 * k) v).setFld (CAN_CTL n + 0x10 + 4 * k) CAN_FD_CFG_xl_en 0
    else s.wrPlain (CAN_CTL n + 0x10 + 4 * k) v := by
  have haddr : CAN_CTL n + (0x10 + 4 * k) = CAN_CTL n + 0x10 + 4 * k := by omega
  rw [State.canWrite, if_neg (by omega), if_pos (by omega), haddr]
  refine if_congr (by omega) rfl (if_congr (by rw [Bool.not_eq_true']) rfl (if_congr (by omega) rfl rfl))

/-! Integration -/

theorem State.integrated_spec (h : s.canSt n = 1) :
    (s.integrated n).canSt n = (if 128 ≤ s.canTec n ∨ 128 ≤ s.canRec n then 3 else 2) ∧ s.wroteRegs (s.integrated n) [CAN_STATUS n] := by
  rw [State.integrated, if_pos h]
  refine ⟨(State.fld_setFld_same _ _ _ (by decide) (by decide)).trans (Nat.mod_eq_of_lt ?_), State.wroteRegs_setFld _ _ _ (List.mem_singleton_self _)⟩
  have hw : 2 ^ CAN_STATUS_state.width = 8 := rfl
  split_ifs <;> omega

/-! A stuck bus -/

theorem isSrcLost_can {a : Nat} (h : 0x200A0000 ≤ a) : isSrcLost a = false := isSrcLost_eq_false.2 (Or.inr (by simp only [FLT_SRC_LOST]; omega))

theorem State.busStuck_spec (hn : n < 24) (h : s.canSt n ≠ 0) :
    let t := s.busStuck n
    t.fld (CAN_STATUS n) CAN_STATUS_bus_stuck = 1 ∧ t.canSt n = s.canSt n ∧ s.counts t (CAN_CNT n 14) ∧ s.posts t 0x090A 4 n ∧
    s.onlyRegs t [CAN_STATUS n, CAN_CNT n 14] ∧ s.regFrame t := by
  have hne : CAN_CNT n 14 ≠ CAN_STATUS n := by rw [CAN_CNT, CAN_STATUS]; omega
  have hw1 := s.wroteRegs_setFld CAN_STATUS_bus_stuck 1 (List.mem_singleton_self (CAN_STATUS n))
  have hset := State.fld_setFld_same (f := CAN_STATUS_bus_stuck) s (CAN_STATUS n) 1 (by decide) (by decide)
  have hst : (s.setFld (CAN_STATUS n) CAN_STATUS_bus_stuck 1).canSt n = s.canSt n :=
    State.fld_setFld_ne _ _ (by decide) (by decide) (by decide) (Or.inl (by decide))
  rw [State.busStuck, if_neg h]
  generalize s.setFld (CAN_STATUS n) CAN_STATUS_bus_stuck 1 = u at hw1 hset hst ⊢
  have hw2 := u.wroteRegs_bump (CAN_CNT n 14) 1
  have hcnt : s.counts (u.canCount n 14) (CAN_CNT n 14) := by
    rw [State.counts, ← hw1.1 _ (fun h => hne (List.mem_singleton.1 h))]
    exact u.counts_bump _
  have hstat : (u.canCount n 14).rd (CAN_STATUS n) = u.rd (CAN_STATUS n) := hw2.1 _ (fun h => hne.symm (List.mem_singleton.1 h))
  have hall : s.wroteRegs (u.canCount n 14) [CAN_STATUS n, CAN_CNT n 14] :=
    (hw1.mono (List.forall_mem_singleton.2 List.mem_cons_self)).trans
      (hw2.mono (List.forall_mem_singleton.2 (List.mem_cons_of_mem _ (List.mem_singleton_self _))))
  generalize u.canCount n 14 = w at hcnt hstat hall ⊢
  obtain ⟨hposts, honly, hreg⟩ := State.raised (s := s) (u := w) (by rw [hall.2]; rfl) (by rw [hall.2]) hall.onlyRegs n 0 (c := 0x090A) (k := 4)
    (by decide) (by decide) rfl
  have hrd := (w.raise_frame 0x090A 4 n 0 (by decide)).rd
  have h1 := hrd (CAN_STATUS n) (isSrcLost_can (by rw [CAN_STATUS]; omega))
  have h2 := hrd (CAN_CNT n 14) (isSrcLost_can (by rw [CAN_CNT]; omega))
  rw [Nat.mod_eq_of_lt (by omega)] at hposts
  refine ⟨?_, ?_, ?_, hposts, honly, ?_⟩
  · rw [State.fld, h1, hstat]
    exact hset
  · rw [State.canSt, State.fld, h1, hstat]
    exact hst
  · rw [State.counts, h2]
    exact hcnt
  · rw [State.regFrame, hreg, hall.2]

end

end Sys2Proof.Machine

/-! Errors on a CAN bus, bus-off and its recovery (R187, R189, R190, R203). -/

namespace Sys2Proof.Machine

section
variable {s t u w : State} {n : Nat} {e : CanError}

/-! The error as it is noted and signalled -/

/-- The error register shows this error. -/
def State.errNoted (t : State) (n : Nat) (e : CanError) : Prop :=
  t.fld (CAN_ERR n) CAN_ERR_last_err = e.kind ∧ t.fld (CAN_ERR n) CAN_ERR_last_err_data = boolNat e.dataPhase

/-- The channel sends an error flag. -/
abbrev State.errSignals (s : State) (n : Nat) (e : CanError) : Prop := e.flag = true ∧ s.signals n e.xl e.dataPhase = true

/-- The error flag leaves and counts, where the channel sends one. -/
def State.errShown (s t : State) (n : Nat) (e : CanError) : Prop :=
  (s.errSignals n e → t.outputs = .canError n :: s.outputs ∧ s.counts t (CAN_CNT n 15)) ∧
  (¬ s.errSignals n e → t.outputs = s.outputs ∧ t.rd (CAN_CNT n 15) = s.rd (CAN_CNT n 15))

theorem State.errShown.congr (h : s.errShown t n e) (hout : u.outputs = t.outputs) (hrd : u.rd (CAN_CNT n 15) = t.rd (CAN_CNT n 15)) : s.errShown u n e := by
  simp only [State.errShown, State.counts, hout, hrd]
  exact h

theorem State.errNoted.congr (h : t.errNoted n e) (herr : ∀ f : Fld, f.lo ≤ f.hi → 15 < f.lo → u.fld (CAN_ERR n) f = t.fld (CAN_ERR n) f) :
    u.errNoted n e := ⟨(herr _ (by decide) (by decide)).trans h.1, (herr _ (by decide) (by decide)).trans h.2⟩

/-- The error noted, in a channel that takes part. -/
def State.errMarked (s : State) (n : Nat) (e : CanError) : State :=
  (s.noteErr n e.kind.val e.dataPhase).setChan n { (s.noteErr n e.kind.val e.dataPhase).chan n with rxSof := none }

/-- The error noted and its flag sent. -/
def State.errTold (s : State) (n : Nat) (e : CanError) : State :=
  if s.errSignals n e then ((s.errMarked n e).canCount n 15).out (.canError n) else s.errMarked n e

theorem State.noteErr_spec (s : State) (n : Nat) {kind : Nat} (hk : kind < 16) (dataPhase : Bool) :
    let t := s.noteErr n kind dataPhase
    t.fld (CAN_ERR n) CAN_ERR_last_err = kind ∧ t.fld (CAN_ERR n) CAN_ERR_last_err_data = boolNat dataPhase ∧ t.canTec n = s.canTec n ∧
    t.canRec n = s.canRec n ∧ s.wroteRegs t [CAN_ERR n] := by
  have hmem := List.mem_singleton_self (CAN_ERR n)
  rw [State.noteErr]
  refine ⟨?_, ?_, ?_, ?_, (s.wroteRegs_setFld _ _ hmem).trans (State.wroteRegs_setFld _ _ _ hmem)⟩
  · rw [State.fld_setFld_ne _ _ (by decide) (by decide) (by decide) (Or.inl (by decide)), State.fld_setFld_same _ _ _ (by decide) (by decide)]
    exact Nat.mod_eq_of_lt hk
  · rw [State.fld_setFld_same _ _ _ (by decide) (by decide)]
    exact Nat.mod_eq_of_lt (boolNat_lt _)
  · rw [State.canTec, State.fld_setFld_ne _ _ (by decide) (by decide) (by decide) (Or.inl (by decide)),
      State.fld_setFld_ne _ _ (by decide) (by decide) (by decide) (Or.inl (by decide)), State.canTec]
  · rw [State.canRec, State.fld_setFld_ne _ _ (by decide) (by decide) (by decide) (Or.inl (by decide)),
      State.fld_setFld_ne _ _ (by decide) (by decide) (by decide) (Or.inl (by decide)), State.canRec]

theorem State.rd_of_regs (h : t.regs = u.regs) (a : Nat) : t.rd a = u.rd a := by rw [State.rd, h, State.rd]

theorem State.setChan_of_regs {a : State} (h : u = { a with regs := u.regs }) (n : Nat) (c : CanChan) :
    u.setChan n c = { a with regs := (u.setChan n c).regs, can := (u.setChan n c).can } := by
  have ht : u.setChan n c = { u with can := (u.setChan n c).can } := rfl
  have hr : (u.setChan n c).regs = u.regs := rfl
  generalize u.setChan n c = t at ht hr ⊢
  rw [hr]
  exact ht.trans (by rw [h])

theorem State.errMarked_spec (s : State) (n : Nat) (e : CanError) :
    let t := s.errMarked n e
    t.errNoted n e ∧ t.canTec n = s.canTec n ∧ t.canRec n = s.canRec n ∧ t.chan n = { s.chan n with rxSof := none } ∧
    (∀ k, k ≠ n → t.chan k = s.chan k) ∧ (∀ a, a ≠ CAN_ERR n → t.rd a = s.rd a) ∧ t = { s with regs := t.regs, can := t.can } := by
  obtain ⟨hkind, hdata, htec, hrec, hw⟩ := s.noteErr_spec n (kind := e.kind.val) (by omega) e.dataPhase
  rw [State.errMarked]
  generalize s.noteErr n e.kind.val e.dataPhase = u at hkind hdata htec hrec hw ⊢
  have hcan : u.can = s.can := by rw [hw.2]
  have hc : ∀ k, u.chan k = s.chan k := fun k => by rw [State.chan, hcan, State.chan]
  have hself := u.chan_setChan_self n { u.chan n with rxSof := none }
  have hrest : ∀ k, k ≠ n → (u.setChan n { u.chan n with rxSof := none }).chan k = u.chan k := fun k hk => u.chan_setChan_ne _ hk
  have heq := State.setChan_of_regs hw.2 n { u.chan n with rxSof := none }
  have hregs : (u.setChan n { u.chan n with rxSof := none }).regs = u.regs := rfl
  generalize u.setChan n { u.chan n with rxSof := none } = t at hself hrest heq hregs ⊢
  have hrd : ∀ a, t.rd a = u.rd a := fun a => State.rd_of_regs hregs a
  have hfld : ∀ a f, t.fld a f = u.fld a f := fun a f => congrArg f.get (hrd a)
  refine ⟨⟨(hfld _ _).trans hkind, (hfld _ _).trans hdata⟩, (hfld _ _).trans htec, (hfld _ _).trans hrec, ?_, fun k hk => (hrest k hk).trans (hc k),
    fun a ha => (hrd a).trans (hw.1 a (fun h => ha (List.mem_singleton.1 h))), heq⟩
  rw [hself, hc]

theorem CAN_CNT_ne_ERR (n k : Nat) : CAN_CNT n k ≠ CAN_ERR n := by rw [CAN_CNT, CAN_ERR]; omega

theorem State.errTold_spec (s : State) (n : Nat) (e : CanError) :
    let t := s.errTold n e
    t.errNoted n e ∧ s.errShown t n e ∧ t.canTec n = s.canTec n ∧ t.canRec n = s.canRec n ∧ t.chan n = { s.chan n with rxSof := none } ∧
    (∀ k, k ≠ n → t.chan k = s.chan k) ∧ (∀ a, a ≠ CAN_ERR n → a ≠ CAN_CNT n 15 → t.rd a = s.rd a) ∧
    t = { s with regs := t.regs, outputs := t.outputs, can := t.can } := by
  obtain ⟨hnoted, htec, hrec, hchan, hothers, hrd, heq⟩ := s.errMarked_spec n e
  have hout : (s.errMarked n e).outputs = s.outputs := by rw [heq]
  rw [State.errTold]
  generalize s.errMarked n e = u at hnoted htec hrec hchan hothers hrd heq hout ⊢
  have hne := CAN_CNT_ne_ERR n 15
  split_ifs with hs
  · have hw := u.wroteRegs_bump (CAN_CNT n 15) 1
    have hc := u.counts_bump (CAN_CNT n 15)
    rw [State.canCount]
    generalize u.bump (CAN_CNT n 15) = v at hw hc ⊢
    have hv := State.out_of_regs hw.2 hout (.canError n)
    generalize v.out (.canError n) = t at hv ⊢
    have ho : t.outputs = .canError n :: s.outputs := by rw [hv]
    have hvreg : t.regs = v.regs := by rw [hv]
    have hvcan : t.can = u.can := by rw [hv]
    have hvrd := State.rd_of_regs hvreg
    have herr : ∀ f, t.fld (CAN_ERR n) f = u.fld (CAN_ERR n) f := fun f =>
      congrArg f.get ((hvrd _).trans (hw.1 _ (fun h => hne (List.mem_singleton.1 h).symm)))
    have htc : ∀ k, t.chan k = u.chan k := fun k => by rw [State.chan, hvcan, State.chan]
    refine ⟨⟨(herr _).trans hnoted.1, (herr _).trans hnoted.2⟩, ⟨fun _ => ⟨ho, ?_⟩, fun h => absurd hs h⟩, (herr _).trans htec, (herr _).trans hrec,
      (htc n).trans hchan, fun k hk => (htc k).trans (hothers k hk), fun a h1 h2 => ?_, ?_⟩
    · rw [State.counts, ← hrd _ hne, hvrd]
      exact hc
    · exact (hvrd a).trans ((hw.1 a (fun h => h2 (List.mem_singleton.1 h))).trans (hrd a h1))
    · rw [ho, hvreg, hvcan]
      exact hv.trans (by rw [heq])
  · refine ⟨hnoted, ⟨fun h => absurd h hs, fun _ => ⟨hout, hrd _ hne⟩⟩, htec, hrec, hchan, hothers, fun a h1 _ => hrd a h1, ?_⟩
    rw [hout]
    exact heq

/-! The error counters -/

/-- The transmit error counter after an error, unclamped. -/
def State.errTec (s : State) (n : Nat) (e : CanError) : Nat :=
  if e.rule = .transmitter ∧ (s.chan n).sender = true then s.canTec n + 8 else s.canTec n

/-- The receive error counter after an error, unclamped. -/
def State.errRec (s : State) (n : Nat) (e : CanError) : Nat :=
  if e.rule = .receiver8 then s.canRec n + 8 else if e.rule = .transmitter ∧ (s.chan n).sender = true then s.canRec n else s.canRec n + 1

theorem State.canError_apart (h : s.canPart n = false) : s.canError n e = s := by
  rw [State.canError, h]
  rfl

theorem State.canError_silent (h : s.canPart n = true) (hc : s.counting n = false) : s.canError n e = s.errMarked n e := by
  rw [State.canError, h, hc]
  rfl

theorem State.canError_exempt (h : s.canPart n = true) (hc : s.counting n = true) (hr : e.rule = .exempt) : s.canError n e = s.errTold n e := by
  rw [State.canError, h, hc, hr]
  rfl

theorem State.canError_counts (h : s.canPart n = true) (hc : s.counting n = true) (hr : e.rule ≠ .exempt) :
    s.canError n e = (s.errTold n e).setCounters n (s.errTec n e) (s.errRec n e) := by
  obtain ⟨-, -, htec, hrec, -⟩ := s.errTold_spec n e
  have heq : s.canError n e = match e.rule with
      | .receiver => (s.errTold n e).setCounters n ((s.errTold n e).canTec n) ((s.errTold n e).canRec n + 1)
      | .receiver8 => (s.errTold n e).setCounters n ((s.errTold n e).canTec n) ((s.errTold n e).canRec n + 8)
      | .transmitter =>
        if (s.chan n).sender then (s.errTold n e).setCounters n ((s.errTold n e).canTec n + 8) ((s.errTold n e).canRec n)
        else (s.errTold n e).setCounters n ((s.errTold n e).canTec n) ((s.errTold n e).canRec n + 1)
      | .exempt => s.errTold n e := by
    rw [State.canError, h, hc]
    rfl
  rw [heq, htec, hrec]
  generalize s.errTold n e = u
  rw [State.errTec, State.errRec]
  cases hrule : e.rule with
  | receiver => simp
  | receiver8 => simp
  | transmitter => cases (s.chan n).sender <;> simp
  | exempt => exact absurd hrule hr

theorem CAN_CNT_ne_STATUS (n k : Nat) : CAN_CNT n k ≠ CAN_STATUS n := by rw [CAN_CNT, CAN_STATUS]; omega

/-- The two counters, as they are stored. -/
def State.countersSet (s : State) (n tec rec : Nat) : State :=
  (s.setFld (CAN_ERR n) CAN_ERR_tec (min tec 255)).setFld (CAN_ERR n) CAN_ERR_rec (min rec 255)

theorem State.countersSet_spec (s : State) (n tec rec : Nat) :
    let t := s.countersSet n tec rec
    t.canTec n = min tec 255 ∧ t.canRec n = min rec 255 ∧ (∀ f : Fld, f.lo ≤ f.hi → 15 < f.lo → t.fld (CAN_ERR n) f = s.fld (CAN_ERR n) f) ∧
    s.wroteRegs t [CAN_ERR n] := by
  have hmem := List.mem_singleton_self (CAN_ERR n)
  have hw1 : 2 ^ CAN_ERR_tec.width = 256 := rfl
  have hw2 : 2 ^ CAN_ERR_rec.width = 256 := rfl
  refine ⟨?_, ?_, fun f hlo h => ?_, (s.wroteRegs_setFld _ _ hmem).trans (State.wroteRegs_setFld _ _ _ hmem)⟩
  · refine (State.fld_setFld_ne _ _ (by decide) (by decide) (by decide) (Or.inl (by decide))).trans
      ((State.fld_setFld_same _ _ _ (by decide) (by decide)).trans (Nat.mod_eq_of_lt (by omega)))
  · exact (State.fld_setFld_same _ _ _ (by decide) (by decide)).trans (Nat.mod_eq_of_lt (by omega))
  · have h7 : CAN_ERR_tec.hi = 7 := rfl
    have h15 : CAN_ERR_rec.hi = 15 := rfl
    exact (State.fld_setFld_ne _ _ (by decide) (by decide) hlo (Or.inr (by omega))).trans
      (State.fld_setFld_ne _ _ (by decide) (by decide) hlo (Or.inr (by omega)))

/-- What the counters and their thresholds leave alone. -/
structure ErrKept (n : Nat) (s t : State) : Prop where
  err : ∀ f : Fld, f.lo ≤ f.hi → 15 < f.lo → t.fld (CAN_ERR n) f = s.fld (CAN_ERR n) f
  rd : ∀ a, a ≠ CAN_ERR n → a ≠ CAN_STATUS n → a ≠ CAN_CNT n 12 → a ≠ CAN_CNT n 13 → isSrcLost a = false → t.rd a = s.rd a
  eq : t = { s with regs := t.regs, flt := t.flt }

/-- A new state of the channel, reported; the counters stay. -/
theorem State.stateTold (s : State) (hn : n < 24) {st : Nat} (hst : st < 8) {c k : Nat} (hc : c < 0x1100) (hk : k < 7) (hb : bankEvent c = false) :
    let t := (s.setCanSt n st).raise c k n
    t.canSt n = st ∧ s.posts t c k n ∧ (∀ a, a ≠ CAN_STATUS n → isSrcLost a = false → t.rd a = s.rd a) ∧ s.regFrame t := by
  have hw := s.wroteRegs_setFld CAN_STATUS_state st (List.mem_singleton_self (CAN_STATUS n))
  have hset := (State.fld_setFld_same (f := CAN_STATUS_state) s (CAN_STATUS n) st (by decide) (by decide)).trans (Nat.mod_eq_of_lt hst)
  rw [State.setCanSt]
  generalize s.setFld (CAN_STATUS n) CAN_STATUS_state st = u at hw hset ⊢
  obtain ⟨hposts, -, hreg⟩ := State.raised (s := s) (u := u) (by rw [hw.2]; rfl) (by rw [hw.2]) hw.onlyRegs n 0 hc hk hb
  have hrd := (u.raise_frame c k n 0 hc).rd
  rw [Nat.mod_eq_of_lt (by omega)] at hposts
  refine ⟨?_, hposts, fun a ha hl => (hrd a hl).trans (hw.1 a (fun h => ha (List.mem_singleton.1 h))), ?_⟩
  · rw [State.canSt, State.fld, hrd _ (isSrcLost_can (by rw [CAN_STATUS]; omega))]
    exact hset
  · rw [State.regFrame, hreg, hw.2]

/-- The channel becomes error passive. -/
theorem State.passiveTold (s : State) (hn : n < 24) :
    let t := ((s.setCanSt n 3).canCount n 13).raise 0x0903 2 n
    t.canSt n = 3 ∧ s.posts t 0x0903 2 n ∧ s.counts t (CAN_CNT n 13) ∧
    (∀ a, a ≠ CAN_STATUS n → a ≠ CAN_CNT n 13 → isSrcLost a = false → t.rd a = s.rd a) ∧ s.regFrame t := by
  have hw1 := s.wroteRegs_setFld CAN_STATUS_state 3 (List.mem_singleton_self (CAN_STATUS n))
  have hset := State.fld_setFld_same (f := CAN_STATUS_state) s (CAN_STATUS n) 3 (by decide) (by decide)
  have hne := CAN_CNT_ne_STATUS n 13
  rw [State.setCanSt]
  generalize s.setFld (CAN_STATUS n) CAN_STATUS_state 3 = u at hw1 hset ⊢
  have hw2 := u.wroteRegs_bump (CAN_CNT n 13) 1
  have hc := u.counts_bump (CAN_CNT n 13)
  rw [State.canCount]
  generalize u.bump (CAN_CNT n 13) = w at hw2 hc ⊢
  have hall : s.wroteRegs w [CAN_STATUS n, CAN_CNT n 13] := (hw1.mono (List.forall_mem_singleton.2 List.mem_cons_self)).trans
    (hw2.mono (List.forall_mem_singleton.2 (List.mem_cons_of_mem _ (List.mem_singleton_self _))))
  obtain ⟨hposts, -, hreg⟩ := State.raised (s := s) (u := w) (by rw [hall.2]; rfl) (by rw [hall.2]) hall.onlyRegs n 0 (c := 0x0903) (k := 2)
    (by decide) (by decide) rfl
  have hrd := (w.raise_frame 0x0903 2 n 0 (by decide)).rd
  rw [Nat.mod_eq_of_lt (by omega)] at hposts
  refine ⟨?_, hposts, ?_, fun a h1 h2 hl => (hrd a hl).trans (hall.1 a (by simp [h1, h2])), ?_⟩
  · rw [State.canSt, State.fld, hrd _ (isSrcLost_can (by rw [CAN_STATUS]; omega)), hw2.1 _ (fun h => hne.symm (List.mem_singleton.1 h))]
    exact hset
  · rw [State.counts, hrd _ (isSrcLost_can (by rw [CAN_CNT]; omega)), ← hw1.1 _ (fun h => hne (List.mem_singleton.1 h))]
    exact hc
  · rw [State.regFrame, hreg, hall.2]

/-- Below the bus-off limit the counters set the channel's state. -/
theorem State.setCounters_spec (s : State) (hn : n < 24) (hp : s.canPart n = true) {tec rec : Nat} (ht : tec < 256) :
    let t := s.setCounters n tec rec
    t.canTec n = tec ∧ t.canRec n = min rec 255 ∧
    (128 ≤ tec ∨ 128 ≤ rec → t.canSt n = 3 ∧ (s.canSt n = 2 → s.posts t 0x0903 2 n ∧ s.counts t (CAN_CNT n 13))) ∧
    (¬ (128 ≤ tec ∨ 128 ≤ rec) → t.canSt n = 2 ∧ (s.canSt n = 3 → s.posts t 0x0904 0 n)) ∧ ErrKept n s t := by
  have hst : s.canSt n = 2 ∨ s.canSt n = 3 := by
    simpa [State.canPart] using hp
  obtain ⟨htec, hrec, herr, hw⟩ := s.countersSet_spec n tec rec
  have heq : s.setCounters n tec rec = if 256 ≤ tec then (s.countersSet n tec rec).busOff n
      else if 128 ≤ tec ∨ 128 ≤ rec then
        if s.canSt n = 2 then (((s.countersSet n tec rec).setCanSt n 3).canCount n 13).raise 0x0903 2 n else s.countersSet n tec rec
      else if s.canSt n = 3 then ((s.countersSet n tec rec).setCanSt n 2).raise 0x0904 0 n
      else s.countersSet n tec rec := rfl
  rw [heq, if_neg (by omega)]
  generalize s.countersSet n tec rec = u at htec hrec herr hw ⊢
  have hust : u.canSt n = s.canSt n := by
    rw [State.canSt, State.fld, hw.1 _ (fun h => CAN_ERR_ne_STATUS n (List.mem_singleton.1 h).symm)]
    rfl
  have hukept : ErrKept n s u := ⟨herr, fun a h1 _ _ _ _ => hw.1 a (fun h => h1 (List.mem_singleton.1 h)), hw.2.trans (by rw [hw.2])⟩
  have hflt : u.flt = s.flt := by rw [hw.2]
  have hrun : u.running = s.running := by rw [hw.2]; rfl
  rw [Nat.min_eq_left (by omega)] at htec
  have herrlost : isSrcLost (CAN_ERR n) = false := isSrcLost_can (by rw [CAN_ERR]; omega)
  split_ifs with hpas h2 h3
  · obtain ⟨hnew, hposts, hcnt, hrd, hreg⟩ := u.passiveTold hn
    generalize ((u.setCanSt n 3).canCount n 13).raise 0x0903 2 n = t at hnew hposts hcnt hrd hreg ⊢
    have hE : t.rd (CAN_ERR n) = u.rd (CAN_ERR n) := hrd _ (CAN_ERR_ne_STATUS n) (CAN_CNT_ne_ERR n 13).symm herrlost
    refine ⟨?_, ?_, fun _ => ⟨hnew, fun _ => ⟨State.posts_congr hrun hflt hposts, ?_⟩⟩, fun h => absurd hpas h, fun f hlo h => ?_, fun a h1 h2 h3 h4 hl => ?_, ?_⟩
    · rw [State.canTec, State.fld, hE]
      exact htec
    · rw [State.canRec, State.fld, hE]
      exact hrec
    · rw [State.counts, ← hw.1 _ (fun h => CAN_CNT_ne_ERR n 13 (List.mem_singleton.1 h))]
      exact hcnt
    · rw [State.fld, hE]
      exact herr f hlo h
    · exact (hrd a h2 h4 hl).trans (hukept.rd a h1 h2 h3 h4 hl)
    · rw [hreg, hw.2]
  · have h3 : u.canSt n = 3 := by omega
    exact ⟨htec, hrec, fun _ => ⟨h3, fun h => absurd h h2⟩, fun h => absurd hpas h, hukept⟩
  · obtain ⟨hnew, hposts, hrd, hreg⟩ := u.stateTold hn (st := 2) (c := 0x0904) (k := 0) (by decide) (by decide) (by decide) rfl
    generalize (u.setCanSt n 2).raise 0x0904 0 n = t at hnew hposts hrd hreg ⊢
    have hE : t.rd (CAN_ERR n) = u.rd (CAN_ERR n) := hrd _ (CAN_ERR_ne_STATUS n) herrlost
    refine ⟨?_, ?_, fun h => absurd h hpas, fun _ => ⟨hnew, fun _ => State.posts_congr hrun hflt hposts⟩, fun f hlo h => ?_, fun a h1 h2 h3 h4 hl => ?_, ?_⟩
    · rw [State.canTec, State.fld, hE]
      exact htec
    · rw [State.canRec, State.fld, hE]
      exact hrec
    · rw [State.fld, hE]
      exact herr f hlo h
    · exact (hrd a h2 hl).trans (hukept.rd a h1 h2 h3 h4 hl)
    · rw [hreg, hw.2]
  · exact ⟨htec, hrec, fun h => absurd h hpas, fun _ => ⟨by omega, fun h => absurd h h3⟩, hukept⟩

end

end Sys2Proof.Machine

/-! Bus-off, and its recovery (R189, R190, R203, R204). -/

namespace Sys2Proof.Machine

section
variable {s t u w : State} {n : Nat} {e : CanError}

/-! The frame on the bus when the channel goes bus-off -/

/-- The state that a channel goes to when its counter is past the limit. -/
def State.busOffState (s : State) (n : Nat) : Nat := if s.fldB (CAN_CTL n) CAN_CTL_boff_mode then 4 else 5

/-- The channel bus-off, before its frame ends. -/
def State.offMarked (s : State) (n : Nat) : State :=
  (((s.setCanSt n (s.busOffState n)).setFld (CAN_ERR n) CAN_ERR_tec 255).setFld (CAN_STATUS n) CAN_STATUS_rec_seq 0).canCount n 12

theorem State.offMarked_spec (s : State) (n : Nat) :
    let t := s.offMarked n
    t.canSt n = s.busOffState n ∧ t.canTec n = 255 ∧ t.canRec n = s.canRec n ∧ t.fld (CAN_STATUS n) CAN_STATUS_rec_seq = 0 ∧
    (∀ f : Fld, f.lo ≤ f.hi → 15 < f.lo → t.fld (CAN_ERR n) f = s.fld (CAN_ERR n) f) ∧ s.counts t (CAN_CNT n 12) ∧
    s.wroteRegs t [CAN_ERR n, CAN_STATUS n, CAN_CNT n 12] := by
  have hlt : s.busOffState n < 8 := by
    rw [State.busOffState]
    split_ifs <;> decide
  have hES := CAN_ERR_ne_STATUS n
  have hstat : ∀ (v : State) (f : Fld) (x : Nat) (g : Fld), (v.setFld (CAN_ERR n) f x).fld (CAN_STATUS n) g = v.fld (CAN_STATUS n) g := fun v f x g => by
    rw [State.fld, State.rd_setFld, if_neg hES.symm, State.fld]
  have herr : ∀ (v : State) (f : Fld) (x : Nat) (g : Fld), (v.setFld (CAN_STATUS n) f x).fld (CAN_ERR n) g = v.fld (CAN_ERR n) g := fun v f x g => by
    rw [State.fld, State.rd_setFld, if_neg hES, State.fld]
  have hw1 := ((s.wroteRegs_setFld CAN_STATUS_state (s.busOffState n) (a := CAN_STATUS n) (l := [CAN_ERR n, CAN_STATUS n]) (by simp)).trans
    (State.wroteRegs_setFld _ CAN_ERR_tec 255 (a := CAN_ERR n) (by simp))).trans (State.wroteRegs_setFld _ CAN_STATUS_rec_seq 0 (a := CAN_STATUS n) (by simp))
  have h1 := hstat (s.setCanSt n (s.busOffState n)) CAN_ERR_tec 255 CAN_STATUS_state
  have hst : (((s.setCanSt n (s.busOffState n)).setFld (CAN_ERR n) CAN_ERR_tec 255).setFld (CAN_STATUS n) CAN_STATUS_rec_seq 0).canSt n = s.busOffState n := by
    rw [State.canSt, State.fld_setFld_ne _ _ (by decide) (by decide) (by decide) (Or.inl (by decide)), h1, State.setCanSt,
      State.fld_setFld_same _ _ _ (by decide) (by decide)]
    exact Nat.mod_eq_of_lt hlt
  have htec : (((s.setCanSt n (s.busOffState n)).setFld (CAN_ERR n) CAN_ERR_tec 255).setFld (CAN_STATUS n) CAN_STATUS_rec_seq 0).canTec n = 255 := by
    rw [State.canTec, herr, State.fld_setFld_same _ _ _ (by decide) (by decide)]
    rfl
  have hother : ∀ f : Fld, f.lo ≤ f.hi → 7 < f.lo →
      (((s.setCanSt n (s.busOffState n)).setFld (CAN_ERR n) CAN_ERR_tec 255).setFld (CAN_STATUS n) CAN_STATUS_rec_seq 0).fld (CAN_ERR n) f =
        s.fld (CAN_ERR n) f := fun f hlo h => by
    rw [herr, State.fld_setFld_ne _ _ (by decide) (by decide) hlo (Or.inr h), State.setCanSt, herr]
  have hseq := State.fld_setFld_same (f := CAN_STATUS_rec_seq) ((s.setCanSt n (s.busOffState n)).setFld (CAN_ERR n) CAN_ERR_tec 255) (CAN_STATUS n) 0
    (by decide) (by decide)
  rw [State.offMarked, State.canCount]
  rw [← State.setCanSt] at hw1
  generalize ((s.setCanSt n (s.busOffState n)).setFld (CAN_ERR n) CAN_ERR_tec 255).setFld (CAN_STATUS n) CAN_STATUS_rec_seq 0 = v at hw1 hst htec hother hseq ⊢
  have hw2 := v.wroteRegs_bump (CAN_CNT n 12) 1
  have hc := v.counts_bump (CAN_CNT n 12)
  generalize v.bump (CAN_CNT n 12) = t at hw2 hc ⊢
  have hfld : ∀ a f, a = CAN_ERR n ∨ a = CAN_STATUS n → t.fld a f = v.fld a f := fun a f ha => congrArg f.get (hw2.1 a (fun h => by
    have h := List.mem_singleton.1 h
    rcases ha with ha | ha
    · exact CAN_CNT_ne_ERR n 12 (h.symm.trans ha)
    · exact CAN_CNT_ne_STATUS n 12 (h.symm.trans ha)))
  refine ⟨(hfld _ _ (Or.inr rfl)).trans hst, (hfld _ _ (Or.inl rfl)).trans htec, (hfld _ _ (Or.inl rfl)).trans (hother _ (by decide) (by decide)),
    (hfld _ _ (Or.inr rfl)).trans hseq, fun f hlo h => (hfld _ _ (Or.inl rfl)).trans (hother f hlo (by omega)), ?_,
    (hw1.mono fun a ha => ?_).trans (hw2.mono fun a ha => ?_)⟩
  · rw [State.counts, ← hw1.1 _ (by simp [CAN_CNT_ne_ERR, CAN_CNT_ne_STATUS])]
    exact hc
  · simp only [List.mem_cons, List.not_mem_nil, or_false] at ha ⊢
    exact ha.elim Or.inl (fun h => Or.inr (Or.inl h))
  · simp only [List.mem_cons, List.not_mem_nil, or_false] at ha ⊢
    exact Or.inr (Or.inr ha)

/-! The frame on the bus -/

theorem CAN_TXB_mod (n b : Nat) : CAN_TXB_STATUS n b % 32 = 0 := by rw [CAN_TXB_STATUS]; omega

/-- The end of a frame that fails: by its late cancel, by the mode that does not repeat, or not yet. -/
theorem State.txFailed_spec (s : State) (n b : Nat) :
    let t := s.txFailed n b
    ((s.chan n).lateCancel.contains b = true → (t.chan n).loaded b = false ∧ t.fld (CAN_TXB_STATUS n b) CAN_TXB_STATUS_result = 2 ∧ s.counts t (CAN_CNT n 6)) ∧
    ((s.chan n).lateCancel.contains b = false → s.fldB (CAN_CTL n) CAN_CTL_dar = true →
      (t.chan n).loaded b = false ∧ t.fld (CAN_TXB_STATUS n b) CAN_TXB_STATUS_result = 4) ∧
    ((s.chan n).lateCancel.contains b = false → s.fldB (CAN_CTL n) CAN_CTL_dar = false → t = s) ∧
    TxOnly n s t ∧ (∀ a, a ≠ CAN_TXB_STATUS n b → a ≠ CAN_CNT n 6 → t.rd a = s.rd a) := by
  have hload : ∀ r, ((s.txEnd n b r).chan n).loaded b = false := fun r => by
    rw [State.txEnd_loaded, decide_eq_false (not_not.2 rfl), Bool.false_and]
  have hres : ∀ r, r < 8 → (s.txEnd n b r).fld (CAN_TXB_STATUS n b) CAN_TXB_STATUS_result = r := fun r hr =>
    (State.fld_setFld_same _ _ _ (by decide) (by decide)).trans (Nat.mod_eq_of_lt hr)
  have hrd : ∀ r a, a ≠ CAN_TXB_STATUS n b → (s.txEnd n b r).rd a = s.rd a := fun r a ha => (State.rd_setFld _ _ _ _ _).trans (if_neg ha)
  rw [State.txFailed]
  have hne : CAN_CNT n 6 ≠ CAN_TXB_STATUS n b := fun h => by
    have := CAN_TXB_mod n b
    rw [← h, CAN_CNT] at this
    omega
  split_ifs with hl hd
  · have htx := TxOnly.txEnd s n b 2
    have hl2 := hload 2
    have hr2 := hres 2 (by decide)
    have hrd2 := hrd 2
    rw [State.txCancelled]
    generalize s.txEnd n b 2 = u at htx hl2 hr2 hrd2 ⊢
    have hcoll := u.wroteRegs_setFld CAN_TXB_STATUS_coll_run 0 (List.mem_singleton_self (CAN_TXB_STATUS n b))
    have hcres : (u.setColl n b 0).fld (CAN_TXB_STATUS n b) CAN_TXB_STATUS_result = 2 :=
      (State.fld_setFld_ne _ _ (by decide) (by decide) (by decide) (Or.inl (by decide))).trans hr2
    rw [State.setColl] at hcres ⊢
    have htx2 : TxOnly n u (u.setFld (CAN_TXB_STATUS n b) CAN_TXB_STATUS_coll_run 0) := TxOnly.wr u _ (Or.inl ⟨b, rfl⟩)
    have hch2 : (u.setFld (CAN_TXB_STATUS n b) CAN_TXB_STATUS_coll_run 0).chan n = u.chan n := rfl
    generalize u.setFld (CAN_TXB_STATUS n b) CAN_TXB_STATUS_coll_run 0 = v at hcoll hcres htx2 hch2 ⊢
    have hb := v.wroteRegs_bump (CAN_CNT n 6) 1
    have hc := v.counts_bump (CAN_CNT n 6)
    have htx3 : TxOnly n v (v.bump (CAN_CNT n 6)) := TxOnly.wr v _ (Or.inr (Or.inl rfl))
    have hch3 : (v.bump (CAN_CNT n 6)).chan n = v.chan n := rfl
    rw [State.canCount]
    generalize v.bump (CAN_CNT n 6) = t at hb hc htx3 hch3 ⊢
    refine ⟨fun _ => ⟨?_, ?_, ?_⟩, fun h => absurd (h.symm.trans hl) Bool.false_ne_true, fun h => absurd (h.symm.trans hl) Bool.false_ne_true,
      (htx.trans htx2).trans htx3, fun a h1 h2 => ?_⟩
    · rw [hch3, hch2]
      exact hl2
    · exact (congrArg CAN_TXB_STATUS_result.get (hb.1 _ (fun h => hne.symm (List.mem_singleton.1 h)))).trans hcres
    · rw [State.counts, ← hrd2 _ hne, ← hcoll.1 _ (fun h => hne (List.mem_singleton.1 h))]
      exact hc
    · exact (hb.1 a (fun h => h2 (List.mem_singleton.1 h))).trans ((hcoll.1 a (fun h => h1 (List.mem_singleton.1 h))).trans (hrd2 a h1))
  · exact ⟨fun h => absurd h hl, fun _ _ => ⟨hload 4, hres 4 (by decide)⟩, fun _ h => absurd (h.symm.trans hd) Bool.false_ne_true, TxOnly.txEnd s n b 4,
      fun a h1 _ => hrd 4 a h1⟩
  · exact ⟨fun h => absurd h hl, fun _ h => absurd h hd, fun _ _ => rfl, TxOnly.refl n s, fun _ _ _ => rfl⟩

/-! The channel goes bus-off -/

/-- The channel bus-off and reported, its record without the frame on the bus. -/
def State.offTold (s : State) (n : Nat) : State :=
  ((s.offMarked n).raise 0x0901 3 n).setChan n { ((s.offMarked n).raise 0x0901 3 n).chan n with onBus := none, sender := false, rxSof := none }

theorem State.busOff_eq (s : State) (n : Nat) : s.busOff n =
    let u := (s.chan n).onBus.elim (s.offTold n) (fun b => (s.offTold n).txFailed n b)
    if (u.chan n).change = some 0 then u.canOff n else u := by
  have heq : s.busOff n =
      let u := match (s.chan n).onBus with
        | some b => (s.offTold n).txFailed n b
        | none => s.offTold n
      if (u.chan n).change = some 0 then u.canOff n else u := rfl
  rw [heq]
  cases (s.chan n).onBus <;> rfl

theorem State.offTold_spec (s : State) (hn : n < 24) :
    let t := s.offTold n
    t.canSt n = s.busOffState n ∧ t.canTec n = 255 ∧ t.canRec n = s.canRec n ∧ t.fld (CAN_STATUS n) CAN_STATUS_rec_seq = 0 ∧
    s.counts t (CAN_CNT n 12) ∧ s.posts t 0x0901 3 n ∧ t.chan n = { s.chan n with onBus := none, sender := false, rxSof := none } ∧
    (∀ k, k ≠ n → t.chan k = s.chan k) ∧ (∀ f : Fld, f.lo ≤ f.hi → 15 < f.lo → t.fld (CAN_ERR n) f = s.fld (CAN_ERR n) f) ∧
    (∀ a, a ∉ [CAN_ERR n, CAN_STATUS n, CAN_CNT n 12] → isSrcLost a = false → t.rd a = s.rd a) ∧
    t = { s with regs := t.regs, flt := t.flt, can := t.can } := by
  obtain ⟨hst, htec, hrec, hseq, herr, hcnt, hw⟩ := s.offMarked_spec n
  rw [State.offTold]
  generalize s.offMarked n = u at hst htec hrec hseq herr hcnt hw ⊢
  obtain ⟨hposts, -, hreg⟩ := State.raised (s := s) (u := u) (by rw [hw.2]; rfl) (by rw [hw.2]) hw.onlyRegs n 0 (c := 0x0901) (k := 3)
    (by decide) (by decide) rfl
  have hrd := (u.raise_frame 0x0901 3 n 0 (by decide)).rd
  rw [Nat.mod_eq_of_lt (by omega)] at hposts
  generalize u.raise 0x0901 3 n = v at hposts hreg hrd ⊢
  have hcan : v.can = s.can := by rw [hreg, hw.2]
  have hchan : ∀ k, v.chan k = s.chan k := fun k => by rw [State.chan, hcan, State.chan]
  have hself := v.chan_setChan_self n { v.chan n with onBus := none, sender := false, rxSof := none }
  have hrest : ∀ k, k ≠ n → (v.setChan n { v.chan n with onBus := none, sender := false, rxSof := none }).chan k = v.chan k :=
    fun k hk => v.chan_setChan_ne _ hk
  have heq : v.setChan n { v.chan n with onBus := none, sender := false, rxSof := none } =
      { v with can := (v.setChan n { v.chan n with onBus := none, sender := false, rxSof := none }).can } := rfl
  generalize v.setChan n { v.chan n with onBus := none, sender := false, rxSof := none } = t at hself hrest heq ⊢
  have hregs : t.regs = v.regs := by rw [heq]
  have hflt : t.flt = v.flt := by rw [heq]
  have htrd : ∀ a, 0x200A0000 ≤ a → t.rd a = u.rd a := fun a ha => (State.rd_of_regs hregs a).trans (hrd a (isSrcLost_can ha))
  have hE : t.rd (CAN_ERR n) = u.rd (CAN_ERR n) := htrd _ (by rw [CAN_ERR]; omega)
  have hS : t.rd (CAN_STATUS n) = u.rd (CAN_STATUS n) := htrd _ (by rw [CAN_STATUS]; omega)
  refine ⟨(congrArg CAN_STATUS_state.get hS).trans hst, (congrArg CAN_ERR_tec.get hE).trans htec, (congrArg CAN_ERR_rec.get hE).trans hrec,
    (congrArg CAN_STATUS_rec_seq.get hS).trans hseq, ?_, ?_, ?_, fun k hk => (hrest k hk).trans (hchan k),
    fun f hlo h => (congrArg f.get hE).trans (herr f hlo h), fun a ha hl => (State.rd_of_regs hregs a).trans ((hrd a hl).trans (hw.1 a ha)), ?_⟩
  · rw [State.counts, htrd _ (by rw [CAN_CNT]; omega)]
    exact hcnt
  · rw [State.posts, hflt]
    exact hposts
  · rw [hself, hchan]
  · rw [hregs, hflt]
    exact heq.trans (by rw [hreg, hw.2])

end

end Sys2Proof.Machine

/-! Errors that take a CAN channel off the bus, and the end of its recovery (R189, R190, R203). -/

namespace Sys2Proof.Machine

section
variable {s t u w : State} {n : Nat} {e : CanError}

/-- The channel bus-off, with its frame on the bus failed. -/
def State.offEnded (s : State) (n : Nat) : State := (s.chan n).onBus.elim (s.offTold n) (fun b => (s.offTold n).txFailed n b)

/-- The record of a channel that has left the bus. -/
def CanChan.leftBus (c : CanChan) : CanChan := { c with onBus := none, sender := false, rxSof := none }

theorem CAN_TXB_ne {n b a : Nat} (ha : a % 32 ≠ 0) : a ≠ CAN_TXB_STATUS n b := fun h => ha (h ▸ CAN_TXB_mod n b)

theorem CAN_ERR_mod (n : Nat) : CAN_ERR n % 32 = 8 := by rw [CAN_ERR]; omega
theorem CAN_STATUS_mod (n : Nat) : CAN_STATUS n % 32 = 4 := by rw [CAN_STATUS]; omega
theorem CAN_CNT_mod (n k : Nat) : CAN_CNT n k % 32 = 4 * k % 32 := by rw [CAN_CNT]; omega

/-- What became of the frame on the bus. -/
def State.frameFailed (s t : State) (n b : Nat) : Prop :=
  ((s.chan n).lateCancel.contains b = true → ((t.chan n).loaded b = false ∧ t.fld (CAN_TXB_STATUS n b) CAN_TXB_STATUS_result = 2) ∧ s.counts t (CAN_CNT n 6)) ∧
  ((s.chan n).lateCancel.contains b = false → s.fldB (CAN_CTL n) CAN_CTL_dar = true →
    (t.chan n).loaded b = false ∧ t.fld (CAN_TXB_STATUS n b) CAN_TXB_STATUS_result = 4) ∧
  ((s.chan n).lateCancel.contains b = false → s.fldB (CAN_CTL n) CAN_CTL_dar = false → t.chan n = (s.chan n).leftBus)

/-- What going bus-off leaves, whatever becomes of the frame. -/
structure BusOff (n : Nat) (s t : State) : Prop where
  st : t.canSt n = s.busOffState n
  tec : t.canTec n = 255
  rec_ : t.canRec n = s.canRec n
  seq : t.fld (CAN_STATUS n) CAN_STATUS_rec_seq = 0
  counts : s.counts t (CAN_CNT n 12)
  posts : s.posts t 0x0901 3 n
  err : ∀ f : Fld, f.lo ≤ f.hi → 15 < f.lo → t.fld (CAN_ERR n) f = s.fld (CAN_ERR n) f
  others : ∀ k, k ≠ n → t.chan k = s.chan k
  chan : ∃ l b o y, t.chan n = { (s.chan n).leftBus with backlog := l, bufs := b, lateCancel := y, onBus := o }
  rd : ∀ a, a ∉ [CAN_TXB_STATUS n ((s.chan n).onBus.getD 0), CAN_CNT n 6, CAN_ERR n, CAN_STATUS n, CAN_CNT n 12] → isSrcLost a = false → t.rd a = s.rd a
  eq : t = { s with regs := t.regs, flt := t.flt, can := t.can }

theorem State.offEnded_spec (s : State) (hn : n < 24) :
    let t := s.offEnded n
    BusOff n s t ∧ ((s.chan n).onBus = none → t.chan n = (s.chan n).leftBus) ∧ (∀ b, (s.chan n).onBus = some b → s.frameFailed t n b) := by
  obtain ⟨hst, htec, hrec, hseq, hcnt, hposts, hchan, hothers, herr, hrd, heq⟩ := s.offTold_spec hn
  have hleft : (s.offTold n).chan n = (s.chan n).leftBus := hchan
  rw [State.offEnded]
  generalize s.offTold n = u at hst htec hrec hseq hcnt hposts hleft hothers herr hrd heq ⊢
  cases hbus : (s.chan n).onBus with
  | none =>
    rw [Option.elim_none]
    exact ⟨⟨hst, htec, hrec, hseq, hcnt, hposts, herr, hothers, ⟨_, _, _, _, hleft⟩, fun a ha hl => hrd a (fun h => ha (by
      simp only [List.mem_cons, List.not_mem_nil, or_false] at h ⊢
      exact Or.inr (Or.inr h))) hl, heq⟩, fun _ => hleft, fun b h => nomatch h⟩
  | some b =>
    rw [Option.elim_some]
    obtain ⟨hlate, hdar, hstay, htx, hkept⟩ := u.txFailed_spec n b
    have hul : (u.chan n).lateCancel = (s.chan n).lateCancel := by rw [hleft]; rfl
    have hctl : u.fldB (CAN_CTL n) CAN_CTL_dar = s.fldB (CAN_CTL n) CAN_CTL_dar := by
      refine congrArg (fun w => CAN_CTL_dar.get w != 0) (hrd _ ?_ (isSrcLost_can (by rw [CAN_CTL]; omega)))
      simp only [List.mem_cons, List.not_mem_nil, or_false, CAN_CTL, CAN_ERR, CAN_STATUS, CAN_CNT]
      omega
    rw [hul] at hlate hdar hstay
    rw [hctl] at hdar hstay
    have h6 : u.rd (CAN_CNT n 6) = s.rd (CAN_CNT n 6) := hrd _ (by
      simp only [List.mem_cons, List.not_mem_nil, or_false, CAN_ERR, CAN_STATUS, CAN_CNT]
      omega) (isSrcLost_can (by rw [CAN_CNT]; omega))
    generalize u.txFailed n b = t at hlate hdar hstay htx hkept ⊢
    have hE : t.rd (CAN_ERR n) = u.rd (CAN_ERR n) := hkept _ (CAN_TXB_ne (by rw [CAN_ERR_mod]; decide)) (CAN_CNT_ne_ERR n 6).symm
    have hS : t.rd (CAN_STATUS n) = u.rd (CAN_STATUS n) := hkept _ (CAN_TXB_ne (by rw [CAN_STATUS_mod]; decide)) (CAN_CNT_ne_STATUS n 6).symm
    have h12 : t.rd (CAN_CNT n 12) = u.rd (CAN_CNT n 12) := hkept _ (CAN_TXB_ne (by rw [CAN_CNT_mod]; decide)) (by simp only [CAN_CNT]; omega)
    obtain ⟨l, bs, o, y, hc⟩ := htx.chan
    have htf : t.flt = u.flt := by rw [htx.eq]
    refine ⟨⟨(congrArg CAN_STATUS_state.get hS).trans hst, (congrArg CAN_ERR_tec.get hE).trans htec, (congrArg CAN_ERR_rec.get hE).trans hrec,
      (congrArg CAN_STATUS_rec_seq.get hS).trans hseq, ?_, ?_, fun f hlo h => (congrArg f.get hE).trans (herr f hlo h),
      fun k hk => (htx.others k hk).trans (hothers k hk), ⟨l, bs, o, y, by rw [hc, hleft]⟩, fun a ha hl => ?_, ?_⟩, fun h => (nomatch h), fun b' hb' => ?_⟩
    · rw [State.counts, h12]
      exact hcnt
    · rw [State.posts, htf]
      exact hposts
    · simp only [hbus, Option.getD_some, List.mem_cons, List.not_mem_nil, or_false, not_or] at ha
      obtain ⟨ha1, ha2, ha3, ha4, ha5⟩ := ha
      exact (hkept a ha1 ha2).trans (hrd a (by simp [ha3, ha4, ha5]) hl)
    · rw [htf]
      exact htx.eq.trans (by rw [heq])
    · cases hb'
      refine ⟨fun h => ⟨⟨(hlate h).1, (hlate h).2.1⟩, ?_⟩, hdar, fun h1 h2 => (congrArg (fun x : State => x.chan n) (hstay h1 h2)).trans hleft⟩
      rw [State.counts, ← h6]
      exact (hlate h).2.2

theorem State.busOff_stays (hn : n < 24) (h : (s.chan n).change ≠ some 0) : s.busOff n = s.offEnded n := by
  obtain ⟨hb, -⟩ := s.offEnded_spec hn
  obtain ⟨l, b, o, y, hc⟩ := hb.chan
  have hch : ((s.offEnded n).chan n).change = (s.chan n).change := by rw [hc]; rfl
  rw [State.busOff_eq]
  exact if_neg (fun h' => h (hch.symm.trans h'))

theorem State.busOff_ends (hn : n < 24) (h : (s.chan n).change = some 0) : s.busOff n = (s.offEnded n).canOff n := by
  obtain ⟨hb, -⟩ := s.offEnded_spec hn
  obtain ⟨l, b, o, y, hc⟩ := hb.chan
  have hch : ((s.offEnded n).chan n).change = (s.chan n).change := by rw [hc]; rfl
  rw [State.busOff_eq]
  exact if_pos (hch.trans h)

/-! The error that does it -/

/-- The error told and the counters past their limit. -/
def State.errPast (s : State) (n : Nat) (e : CanError) : State := (s.errTold n e).countersSet n (s.errTec n e) (s.errRec n e)

theorem State.canError_past (h : s.canPart n = true) (hc : s.counting n = true) (hr : e.rule ≠ .exempt) (ht : 256 ≤ s.errTec n e) :
    s.canError n e = (s.errPast n e).busOff n := by
  rw [State.canError_counts h hc hr]
  exact if_pos ht

theorem State.errPast_spec (s : State) (ht : 256 ≤ s.errTec n e) :
    let t := s.errPast n e
    t.errNoted n e ∧ s.errShown t n e ∧ t.canRec n = s.canRec n ∧ t.chan n = { s.chan n with rxSof := none } ∧ (∀ k, k ≠ n → t.chan k = s.chan k) ∧
    (∀ a, a ≠ CAN_ERR n → a ≠ CAN_CNT n 15 → t.rd a = s.rd a) ∧ t = { s with regs := t.regs, outputs := t.outputs, can := t.can } := by
  have htx : e.rule = .transmitter ∧ (s.chan n).sender = true := by
    by_contra hn
    have hlt : s.canTec n < 256 := CAN_ERR_tec.get_lt _
    rw [State.errTec, if_neg hn] at ht
    omega
  have hrec : s.errRec n e = s.canRec n := by
    rw [State.errRec, if_neg (by rw [htx.1]; decide), if_pos htx]
  obtain ⟨hnoted, hshown, -, -, hchan, hothers, hrd, heq⟩ := s.errTold_spec n e
  rw [State.errPast, hrec]
  generalize s.errTold n e = u at hnoted hshown hchan hothers hrd heq ⊢
  obtain ⟨-, hr, herr, hw⟩ := u.countersSet_spec n (s.errTec n e) (s.canRec n)
  generalize u.countersSet n (s.errTec n e) (s.canRec n) = t at hr herr hw ⊢
  have hlt : s.canRec n < 256 := CAN_ERR_rec.get_lt _
  have hcan : t.can = u.can := by rw [hw.2]
  have hout : t.outputs = u.outputs := by rw [hw.2]
  have hc : ∀ k, t.chan k = u.chan k := fun k => by rw [State.chan, hcan, State.chan]
  have htrd : ∀ a, a ≠ CAN_ERR n → t.rd a = u.rd a := fun a ha => hw.1 a (fun h => ha (List.mem_singleton.1 h))
  refine ⟨hnoted.congr herr, hshown.congr hout (htrd _ (CAN_CNT_ne_ERR n 15)), hr.trans (Nat.min_eq_left (by omega)), (hc n).trans hchan,
    fun k hk => (hc k).trans (hothers k hk), fun a h1 h2 => (htrd a h1).trans (hrd a h1 h2), ?_⟩
  rw [hout, hcan]
  exact hw.2.trans (by rw [heq])

/-! The end of recovery -/

/-- The channel recovered and reported, before a change of its mode that waited. -/
def State.recoveredTold (s : State) (n : Nat) : State :=
  ((((s.setFld (CAN_STATUS n) CAN_STATUS_rec_seq 128).setFld (CAN_ERR n) CAN_ERR_tec 0).setFld (CAN_ERR n) CAN_ERR_rec 0).setCanSt n 2).raise 0x0902 0 n

theorem State.recovered_apart {k : Nat} (h : s.canSt n ≠ 5) : s.recovered n k = s := if_neg h

theorem State.recovered_counts {k : Nat} (h : s.canSt n = 5) (hk : s.fld (CAN_STATUS n) CAN_STATUS_rec_seq + k < 128) :
    s.recovered n k = s.setFld (CAN_STATUS n) CAN_STATUS_rec_seq (s.fld (CAN_STATUS n) CAN_STATUS_rec_seq + k) := by
  rw [State.recovered, if_pos h, Nat.min_eq_right (by omega)]
  exact if_pos hk

theorem State.recovered_done {k : Nat} (h : s.canSt n = 5) (hk : 128 ≤ s.fld (CAN_STATUS n) CAN_STATUS_rec_seq + k) :
    s.recovered n k = ((s.recoveredTold n).chan n).change.elim (s.recoveredTold n) (fun md => (s.recoveredTold n).canApply n md) := by
  have heq : s.recovered n k = match ((s.recoveredTold n).chan n).change with
      | some md => (s.recoveredTold n).canApply n md
      | none => s.recoveredTold n := by
    rw [State.recovered, if_pos h, Nat.min_eq_left hk]
    rfl
  rw [heq]
  cases ((s.recoveredTold n).chan n).change <;> rfl

theorem State.recoveredTold_spec (s : State) (hn : n < 24) :
    let t := s.recoveredTold n
    t.canSt n = 2 ∧ t.canTec n = 0 ∧ t.canRec n = 0 ∧ t.fld (CAN_STATUS n) CAN_STATUS_rec_seq = 128 ∧ s.posts t 0x0902 0 n ∧
    (∀ k, t.chan k = s.chan k) ∧ s.onlyRegs t [CAN_STATUS n, CAN_ERR n] ∧ s.regFrame t := by
  have hES := CAN_ERR_ne_STATUS n
  have hw1 := s.wroteRegs_setFld CAN_STATUS_rec_seq 128 (List.mem_singleton_self (CAN_STATUS n))
  have hseq := State.fld_setFld_same (f := CAN_STATUS_rec_seq) s (CAN_STATUS n) 128 (by decide) (by decide)
  rw [State.recoveredTold]
  generalize s.setFld (CAN_STATUS n) CAN_STATUS_rec_seq 128 = a at hw1 hseq ⊢
  obtain ⟨htec, hrec, -, hw2⟩ := a.countersSet_spec n 0 0
  have hfold : (a.setFld (CAN_ERR n) CAN_ERR_tec 0).setFld (CAN_ERR n) CAN_ERR_rec 0 = a.countersSet n 0 0 := rfl
  rw [hfold]
  generalize a.countersSet n 0 0 = b at htec hrec hw2 ⊢
  have hbseq : b.fld (CAN_STATUS n) CAN_STATUS_rec_seq = 128 := (congrArg CAN_STATUS_rec_seq.get (hw2.1 _ (fun h => hES (List.mem_singleton.1 h).symm))).trans hseq
  have hw3 := b.wroteRegs_setFld CAN_STATUS_state 2 (List.mem_singleton_self (CAN_STATUS n))
  have hst := State.fld_setFld_same (f := CAN_STATUS_state) b (CAN_STATUS n) 2 (by decide) (by decide)
  have hcseq : (b.setFld (CAN_STATUS n) CAN_STATUS_state 2).fld (CAN_STATUS n) CAN_STATUS_rec_seq = 128 :=
    (State.fld_setFld_ne _ _ (by decide) (by decide) (by decide) (Or.inr (by decide))).trans hbseq
  rw [State.setCanSt]
  generalize b.setFld (CAN_STATUS n) CAN_STATUS_state 2 = c at hw3 hst hcseq ⊢
  have hall : s.wroteRegs c [CAN_STATUS n, CAN_ERR n] := ((hw1.mono (by simp)).trans (hw2.mono (by simp))).trans (hw3.mono (by simp))
  have hcerr : c.rd (CAN_ERR n) = b.rd (CAN_ERR n) := hw3.1 _ (fun h => hES (List.mem_singleton.1 h))
  obtain ⟨hposts, honly, hreg⟩ := State.raised (s := s) (u := c) (by rw [hall.2]; rfl) (by rw [hall.2]) hall.onlyRegs n 0 (c := 0x0902) (k := 0)
    (by decide) (by decide) rfl
  have hrd := (c.raise_frame 0x0902 0 n 0 (by decide)).rd
  rw [Nat.mod_eq_of_lt (by omega)] at hposts
  generalize c.raise 0x0902 0 n = t at hposts honly hreg hrd ⊢
  have hE : t.rd (CAN_ERR n) = b.rd (CAN_ERR n) := (hrd _ (isSrcLost_can (by rw [CAN_ERR]; omega))).trans hcerr
  have hS : t.rd (CAN_STATUS n) = c.rd (CAN_STATUS n) := hrd _ (isSrcLost_can (by rw [CAN_STATUS]; omega))
  have hcan : t.can = s.can := by rw [hreg, hall.2]
  refine ⟨(congrArg CAN_STATUS_state.get hS).trans hst, (congrArg CAN_ERR_tec.get hE).trans htec, (congrArg CAN_ERR_rec.get hE).trans hrec,
    (congrArg CAN_STATUS_rec_seq.get hS).trans hcseq, hposts, fun k => by rw [State.chan, hcan, State.chan], honly, ?_⟩
  rw [State.regFrame, hreg, hall.2]

end

end Sys2Proof.Machine

/-! CAN modes, configuration, error counters, bus-off and a stuck bus: the obligation (R56, R187 to R190, R203, R205). -/

namespace Sys2Proof.Machine

section
variable {s t u : State} {m : Master} {n : Nat} {v : Word} {e : CanError}

/-! Writes of the control register, as commands -/

/-- What the register and the channel show after a write that leaves the channel on. -/
theorem State.ctlGiven {st : Nat} {c : CanChan} (h : (s.seen m).ctlShown t n v ∧ t.canSt n = st ∧ (s.seen m).ctlOnly t n c) :
    s.ctlShown t n v ∧ t.canSt n = st ∧ t.chan n = c ∧ (∀ k, k ≠ n → t.chan k = s.chan k) ∧ s.onlyRegs t [CAN_CTL n, CAN_STATUS n] ∧
    t = { s.seen m with regs := t.regs, flt := t.flt, can := t.can } := by
  obtain ⟨hshown, hst, hc, hothers, honly, heq⟩ := h
  exact ⟨State.ctlShown_seen hshown, hst, hc, fun k hk => (hothers k hk).trans (s.seen_chan m k), State.onlyRegs_seen honly, heq⟩

theorem State.ctlGiven_recover {c : CanChan}
    (h : (s.seen m).ctlShown t n v ∧ t.canSt n = 5 ∧ t.fld (CAN_STATUS n) CAN_STATUS_rec_seq = 0 ∧ (s.seen m).ctlOnly t n c) :
    s.ctlShown t n v ∧ t.canSt n = 5 ∧ t.fld (CAN_STATUS n) CAN_STATUS_rec_seq = 0 ∧ t.chan n = c ∧ (∀ k, k ≠ n → t.chan k = s.chan k) ∧
    s.onlyRegs t [CAN_CTL n, CAN_STATUS n] ∧ t = { s.seen m with regs := t.regs, flt := t.flt, can := t.can } := by
  obtain ⟨hshown, hst, hseq, hc, hothers, honly, heq⟩ := h
  exact ⟨State.ctlShown_seen hshown, hst, hseq, hc, fun k hk => (hothers k hk).trans (s.seen_chan m k), State.onlyRegs_seen honly, heq⟩

section
variable (hn : n < 24)
include hn

theorem State.canCtl_starts (hst : s.canSt n = 0) (hm : ctlMode v ≠ 0) (hf : s.dev.state = .full) :
    let t := (s.seen m).canCtlWrite n v
    s.ctlShown t n v ∧ t.canSt n = 1 ∧ t.chan n = { s.chan n with mode := ctlMode v, change := none } ∧ (∀ k, k ≠ n → t.chan k = s.chan k) ∧
    s.onlyRegs t [CAN_CTL n, CAN_STATUS n] ∧
    t = { s.seen m with regs := t.regs, flt := t.flt, can := t.can, bank := { s.bank with decoding := s.bank.decoding.filter (· != n) } } := by
  have hw := State.canCtlWrite_starts (s := s.seen m) (v := v) hn ((s.seen_canSt m n).trans hst) hm (by rw [State.seen_dev]; exact hf)
  have h := State.ctlGiven ((s.seen m).ctlSet_setCanSt hn v { (s.seen m).chan n with mode := ctlMode v, change := none } (k := 1) (by decide))
  dsimp only at hw
  rw [State.seen_bank] at hw
  rw [hw]
  generalize ((((s.seen m).ctlSet n v).setChan n { (s.seen m).chan n with mode := ctlMode v, change := none }).setCanSt n 1) = u at h ⊢
  obtain ⟨hshown, hst', hc, hothers, honly, heq⟩ := h
  refine ⟨hshown, hst', ?_, hothers, honly, ?_⟩
  · refine hc.trans ?_
    rw [State.seen_chan]
  · dsimp only
    rw [heq]

theorem State.canCtl_stays (hst : s.canSt n = 0) (hm : ctlMode v = 0 ∨ s.dev.state ≠ .full) :
    let t := (s.seen m).canCtlWrite n v
    s.ctlShown t n v ∧ t.canSt n = 0 ∧ t.can = s.can ∧ (∀ k, k ≠ n → t.chan k = s.chan k) ∧ s.onlyRegs t [CAN_CTL n, CAN_STATUS n] ∧
    t = { s.seen m with regs := t.regs, flt := t.flt, can := t.can } := by
  rw [State.canCtlWrite_stays (s := s.seen m) hn ((s.seen_canSt m n).trans hst) (by rw [State.seen_dev]; exact hm)]
  obtain ⟨hshown, -, honly, hreg⟩ := (s.seen m).ctlSet_spec hn v
  have hst' := ((s.seen m).ctlSet_canSt hn v).trans ((s.seen_canSt m n).trans hst)
  generalize (s.seen m).ctlSet n v = t at hshown honly hreg hst' ⊢
  have hcan : t.can = s.can := by rw [hreg, State.seen_can]
  refine ⟨State.ctlShown_seen hshown, hst', hcan, fun k _ => by rw [State.chan, hcan, State.chan], State.onlyRegs_seen honly, ?_⟩
  rw [hcan, ← State.seen_can s m]
  exact hreg

theorem State.canCtl_integrating (hst : s.canSt n = 1) (hm : ctlMode v ≠ 0) :
    let t := (s.seen m).canCtlWrite n v
    s.ctlShown t n v ∧ t.canSt n = 1 ∧ t.chan n = { s.chan n with mode := ctlMode v, change := none } ∧ (∀ k, k ≠ n → t.chan k = s.chan k) ∧
    s.onlyRegs t [CAN_CTL n, CAN_STATUS n] ∧ t = { s.seen m with regs := t.regs, flt := t.flt, can := t.can } := by
  rw [State.canCtlWrite_integrating (s := s.seen m) hn ((s.seen_canSt m n).trans hst) hm, State.seen_chan]
  have h := State.ctlGiven ((s.seen m).ctlSet_setChan hn v { s.chan n with mode := ctlMode v, change := none })
  rwa [State.seen_canSt, hst] at h

theorem State.canCtl_on (hst : s.canSt n = 2 ∨ s.canSt n = 3) :
    let t := (s.seen m).canCtlWrite n v
    s.ctlShown t n v ∧ t.canSt n = s.canSt n ∧ t.chan n = (s.chan n).waits (ctlMode v) ∧ (∀ k, k ≠ n → t.chan k = s.chan k) ∧
    s.onlyRegs t [CAN_CTL n, CAN_STATUS n] ∧ t = { s.seen m with regs := t.regs, flt := t.flt, can := t.can } := by
  rw [State.canCtlWrite_on (s := s.seen m) hn (by rwa [State.seen_canSt]), State.seen_chan]
  have h := State.ctlGiven ((s.seen m).ctlSet_setChan hn v ((s.chan n).waits (ctlMode v)))
  rwa [State.seen_canSt] at h

theorem State.canCtl_off (hst : s.canSt n = 1 ∨ 4 ≤ s.canSt n) (hm : ctlMode v = 0) :
    s.ctlShown ((s.seen m).canCtlWrite n v) n v ∧ s.chanOff ((s.seen m).canCtlWrite n v) n := by
  obtain ⟨hshown, hoff⟩ := State.canCtlWrite_off_spec (s := s.seen m) hn (by rwa [State.seen_canSt]) hm
  exact ⟨State.ctlShown_seen hshown, hoff.congr (fun k _ => s.seen_chan m k) (by rw [State.seen_chan]) (by rw [State.seen_chan]) (by rw [State.seen_chan])
    ⟨s.seen_mem m, s.seen_mram m, s.seen_otp m⟩⟩

theorem State.canCtl_beyond (hst : 4 ≤ s.canSt n) (hm : ctlMode v ≠ 0) (hr : ¬ s.ctlRecovers n v) :
    let t := (s.seen m).canCtlWrite n v
    s.ctlShown t n v ∧ t.canSt n = s.canSt n ∧ t.chan n = (s.chan n).waits (ctlMode v) ∧ (∀ k, k ≠ n → t.chan k = s.chan k) ∧
    s.onlyRegs t [CAN_CTL n, CAN_STATUS n] ∧ t = { s.seen m with regs := t.regs, flt := t.flt, can := t.can } := by
  rw [State.canCtlWrite_beyond (s := s.seen m) hn (by rwa [State.seen_canSt]) hm,
    if_neg (show ¬ (s.seen m).ctlRecovers n v by rwa [State.ctlRecovers, State.seen_canSt]), State.seen_chan]
  have h := State.ctlGiven ((s.seen m).ctlSet_setChan hn v ((s.chan n).waits (ctlMode v)))
  rwa [State.seen_canSt] at h

theorem State.canCtl_recovers (hm : ctlMode v ≠ 0) (hr : s.ctlRecovers n v) :
    let t := (s.seen m).canCtlWrite n v
    s.ctlShown t n v ∧ t.canSt n = 5 ∧ t.fld (CAN_STATUS n) CAN_STATUS_rec_seq = 0 ∧ t.chan n = (s.chan n).waits (ctlMode v) ∧
    (∀ k, k ≠ n → t.chan k = s.chan k) ∧ s.onlyRegs t [CAN_CTL n, CAN_STATUS n] ∧ t = { s.seen m with regs := t.regs, flt := t.flt, can := t.can } := by
  rw [State.canCtlWrite_beyond (s := s.seen m) hn (by rw [State.seen_canSt, hr.1]) hm,
    if_pos (show (s.seen m).ctlRecovers n v by rwa [State.ctlRecovers, State.seen_canSt]), State.seen_chan]
  exact State.ctlGiven_recover ((s.seen m).ctlSet_recover hn v ((s.chan n).waits (ctlMode v)))

end

/-! The recovery bit beside the mode -/

theorem ctlMode_or (v : Word) : ctlMode (v ||| 16) = ctlMode v := by rw [ctlMode, Fld.get_or rfl, ctlMode]

theorem State.ctlShown_or (h : s.ctlShown t n (v ||| 16)) : s.ctlShown t n v := by
  simp only [State.ctlShown, State.ctlRefused, Fld.get_or (show CAN_CTL_mode.get (16 : Word) = 0 from rfl),
    Fld.get_or (show CAN_CTL_boff_mode.get (16 : Word) = 0 from rfl), Fld.get_or (show CAN_CTL_rxq_mode.get (16 : Word) = 0 from rfl)] at h
  exact h

theorem recover_or (v : Word) : CAN_CTL_recover.get (v ||| 16) = 1 :=
  (Fld.get_bit 4 (v ||| 16)).trans (congrArg boolNat (testBit_or_set v 16 (by decide) rfl))

/-! Errors -/

theorem State.canError_counted (hn : n < 24) (hp : s.canPart n = true) (hc : s.counting n = true) (hr : e.rule ≠ .exempt) (ht : s.errTec n e < 256) :
    let t := s.canError n e
    t.errNoted n e ∧ s.errShown t n e ∧ t.canTec n = s.errTec n e ∧ t.canRec n = min (s.errRec n e) 255 ∧
    (128 ≤ s.errTec n e ∨ 128 ≤ s.errRec n e → t.canSt n = 3 ∧ (s.canSt n = 2 → s.posts t 0x0903 2 n ∧ s.counts t (CAN_CNT n 13))) ∧
    (¬ (128 ≤ s.errTec n e ∨ 128 ≤ s.errRec n e) → t.canSt n = 2 ∧ (s.canSt n = 3 → s.posts t 0x0904 0 n)) ∧
    (t.chan n = { s.chan n with rxSof := none } ∧ ∀ k, k ≠ n → t.chan k = s.chan k) ∧
    s.onlyRegs t [CAN_ERR n, CAN_STATUS n, CAN_CNT n 12, CAN_CNT n 13, CAN_CNT n 15] ∧
    t = { s with regs := t.regs, flt := t.flt, outputs := t.outputs, can := t.can } := by
  rw [State.canError_counts hp hc hr]
  obtain ⟨hnoted, hshown, -, -, hchan, hothers, hrd, heq⟩ := s.errTold_spec n e
  generalize s.errTold n e = u at hnoted hshown hchan hothers hrd heq ⊢
  have hust : u.canSt n = s.canSt n := congrArg CAN_STATUS_state.get (hrd _ (CAN_ERR_ne_STATUS n).symm (CAN_CNT_ne_STATUS n 15).symm)
  have hup : u.canPart n = true := by rwa [State.canPart, hust]
  have hflt : u.flt = s.flt := by rw [heq]
  have hrun : u.running = s.running := by rw [heq]; rfl
  obtain ⟨htec, hrec, hpassive, hactive, hkept⟩ := u.setCounters_spec hn hup (rec := s.errRec n e) ht
  rw [hust] at hpassive hactive
  generalize u.setCounters n (s.errTec n e) (s.errRec n e) = t at htec hrec hpassive hactive hkept ⊢
  have hcan : t.can = u.can := by rw [hkept.eq]
  have hout : t.outputs = u.outputs := by rw [hkept.eq]
  have hc : ∀ k, t.chan k = u.chan k := fun k => by rw [State.chan, hcan, State.chan]
  have h13 : u.rd (CAN_CNT n 13) = s.rd (CAN_CNT n 13) := hrd _ (CAN_CNT_ne_ERR n 13) (by simp only [CAN_CNT]; omega)
  have h15 : t.rd (CAN_CNT n 15) = u.rd (CAN_CNT n 15) := hkept.rd _ (CAN_CNT_ne_ERR n 15) (CAN_CNT_ne_STATUS n 15) (by simp only [CAN_CNT]; omega)
    (by simp only [CAN_CNT]; omega) (isSrcLost_can (by rw [CAN_CNT]; omega))
  refine ⟨hnoted.congr hkept.err, hshown.congr hout h15, htec, hrec, fun h => ⟨(hpassive h).1, fun h2 => ⟨State.posts_congr hrun hflt ((hpassive h).2 h2).1, ?_⟩⟩,
    fun h => ⟨(hactive h).1, fun h3 => State.posts_congr hrun hflt ((hactive h).2 h3)⟩, ⟨(hc n).trans hchan, fun k hk => (hc k).trans (hothers k hk)⟩,
    fun a ha hl => ?_, ?_⟩
  · rw [State.counts, ← h13]
    exact ((hpassive h).2 h2).2
  · simp only [List.mem_cons, List.not_mem_nil, or_false, not_or] at ha
    obtain ⟨h1, h2, h3, h4, h5⟩ := ha
    exact (hkept.rd a h1 h2 h3 h4 (isSrcLost_eq_false.2 hl)).trans (hrd a h1 h5)
  · rw [hout, hcan]
    exact hkept.eq.trans (by rw [heq])

theorem State.keeps_of_eq {r : Tab Word} {f : FltState} {o : List Output} {x : CanState} (h : t = { s with regs := r, flt := f, outputs := o, can := x }) :
    s.keeps t := by
  rw [h]
  exact ⟨rfl, rfl, rfl⟩

end

end Sys2Proof.Machine

/-! CAN modes, configuration, error counters, bus-off and a stuck bus: the obligation (R56, R187 to R190, R203, R205). -/

namespace Sys2Proof.Machine

section
variable {s t u : State} {m : Master} {n : Nat} {v : Word} {e : CanError}

/-! Errors that take the channel off the bus -/

/-- The registers that an error writes. -/
def errRegs (n : Nat) : List Nat := [CAN_ERR n, CAN_STATUS n, CAN_CNT n 12, CAN_CNT n 13, CAN_CNT n 15]

/-- What going bus-off by an error leaves, in terms of the state before the error. -/
theorem State.errPast_busOff (hn : n < 24) (ht : 256 ≤ s.errTec n e) :
    let t := (s.errPast n e).offEnded n
    t.errNoted n e ∧ s.errShown t n e ∧ BusOff n (s.errPast n e) t ∧ s.counts t (CAN_CNT n 12) ∧ s.posts t 0x0901 3 n ∧ t.canRec n = s.canRec n ∧
    t.canSt n = s.busOffState n ∧ (∀ k, k ≠ n → t.chan k = s.chan k) ∧
    s.onlyRegs t (CAN_TXB_STATUS n ((s.chan n).onBus.getD 0) :: CAN_CNT n 6 :: errRegs n) ∧
    t = { s with regs := t.regs, flt := t.flt, outputs := t.outputs, can := t.can } := by
  obtain ⟨hnoted, hshown, hrec, hchan, hothers, hrd, heq⟩ := s.errPast_spec ht
  generalize s.errPast n e = u at hnoted hshown hrec hchan hothers hrd heq ⊢
  obtain ⟨hb, -⟩ := u.offEnded_spec hn
  generalize u.offEnded n = t at hb ⊢
  have hbus : (u.chan n).onBus = (s.chan n).onBus := by rw [hchan]
  have h12 : u.rd (CAN_CNT n 12) = s.rd (CAN_CNT n 12) := hrd _ (CAN_CNT_ne_ERR n 12) (by simp only [CAN_CNT]; omega)
  have hctl : u.busOffState n = s.busOffState n := by
    have hc : u.rd (CAN_CTL n) = s.rd (CAN_CTL n) := hrd _ (by rw [CAN_CTL, CAN_ERR]; omega) (by rw [CAN_CTL, CAN_CNT]; omega)
    rw [State.busOffState, State.fldB, State.fld, hc]
    rfl
  have h15 : t.rd (CAN_CNT n 15) = u.rd (CAN_CNT n 15) := hb.rd _ (by
    have htxb := CAN_TXB_ne (n := n) (b := (u.chan n).onBus.getD 0) (a := CAN_CNT n 15) (by rw [CAN_CNT_mod]; decide)
    simp only [List.mem_cons, List.not_mem_nil, or_false, not_or]
    exact ⟨htxb, by simp only [CAN_CNT]; omega, CAN_CNT_ne_ERR n 15, CAN_CNT_ne_STATUS n 15, by simp only [CAN_CNT]; omega⟩) (isSrcLost_can (by rw [CAN_CNT]; omega))
  have hout : t.outputs = u.outputs := by rw [hb.eq]
  refine ⟨hnoted.congr hb.err, hshown.congr hout h15, hb, ?_, State.posts_congr (by rw [heq]; rfl) (by rw [heq]) hb.posts, hb.rec_.trans hrec,
    hb.st.trans hctl, fun k hk => (hb.others k hk).trans (hothers k hk), fun a ha hl => ?_, ?_⟩
  · rw [State.counts, ← h12]
    exact hb.counts
  · rw [← hbus] at ha
    simp only [errRegs, List.mem_cons, List.not_mem_nil, or_false, not_or] at ha
    obtain ⟨h1, h2, h3, h4, h5, -, h7⟩ := ha
    exact (hb.rd a (by simp [h1, h2, h3, h4, h5]) (isSrcLost_eq_false.2 hl)).trans (hrd a h3 h7)
  · rw [hout]
    exact hb.eq.trans (by rw [heq])

/-- What became of the frame on the bus, in terms of the state before the error. -/
theorem State.errPast_frame (hn : n < 24) (ht : 256 ≤ s.errTec n e) :
    ((s.chan n).onBus = none → ((s.errPast n e).offEnded n).chan n = (s.chan n).leftBus) ∧
    ∀ b, (s.chan n).onBus = some b → s.frameFailed ((s.errPast n e).offEnded n) n b := by
  obtain ⟨-, -, -, hchan, -, hrd, -⟩ := s.errPast_spec ht
  generalize s.errPast n e = u at hchan hrd ⊢
  obtain ⟨-, hnone, hsome⟩ := u.offEnded_spec hn
  have hleft : (u.chan n).leftBus = (s.chan n).leftBus := by rw [hchan]; rfl
  have hbus : (u.chan n).onBus = (s.chan n).onBus := by rw [hchan]
  have hlate : (u.chan n).lateCancel = (s.chan n).lateCancel := by rw [hchan]
  have h6 : u.rd (CAN_CNT n 6) = s.rd (CAN_CNT n 6) := hrd _ (CAN_CNT_ne_ERR n 6) (by simp only [CAN_CNT]; omega)
  have hdar : u.fldB (CAN_CTL n) CAN_CTL_dar = s.fldB (CAN_CTL n) CAN_CTL_dar := by
    have hc : u.rd (CAN_CTL n) = s.rd (CAN_CTL n) := hrd _ (by rw [CAN_CTL, CAN_ERR]; omega) (by rw [CAN_CTL, CAN_CNT]; omega)
    rw [State.fldB, State.fld, hc]
    rfl
  refine ⟨fun h => (hnone (hbus.trans h)).trans hleft, fun b h => ?_⟩
  have hf := hsome b (hbus.trans h)
  simp only [State.frameFailed, hlate, hdar, hleft, State.counts, h6] at hf
  exact hf

/-- Bus-off with mode 0 waiting turns the channel off. -/
theorem State.errPast_off (hn : n < 24) (ht : 256 ≤ s.errTec n e) :
    let t := ((s.errPast n e).offEnded n).canOff n
    t.errNoted n e ∧ s.errShown t n e ∧ s.chanOff t n ∧ s.counts t (CAN_CNT n 12) ∧ s.posts t 0x0901 3 n := by
  obtain ⟨hnoted, hshown, hb, hcnt, hposts, -, -, hothers, -, heq⟩ := State.errPast_busOff (s := s) (e := e) hn ht
  obtain ⟨-, -, -, hchan, -⟩ := s.errPast_spec ht
  generalize (s.errPast n e).offEnded n = u at hnoted hshown hb hcnt hposts hothers heq ⊢
  obtain ⟨l, bs, o, y, hc⟩ := hb.chan
  rw [hchan] at hc
  obtain ⟨hoff, hkept⟩ := u.canOff_spec n
  generalize u.canOff n = t at hoff hkept ⊢
  have hnot : ∀ k, k = 12 ∨ k = 15 → ¬ isTxReg n (CAN_CNT n k) := by
    rintro k hk (⟨b, h⟩ | h | h)
    · exact CAN_TXB_ne (by rw [CAN_CNT_mod]; omega) h
    · simp only [CAN_CNT] at h
      omega
    · simp only [CAN_CNT] at h
      omega
  have hrd : ∀ k, k = 12 ∨ k = 15 → t.rd (CAN_CNT n k) = u.rd (CAN_CNT n k) := fun k hk =>
    hkept.rd _ (hnot k hk) (CAN_CNT_ne_ERR n k) (CAN_CNT_ne_STATUS n k)
  refine ⟨hnoted.congr hkept.err, hshown.congr hkept.outputs (hrd 15 (Or.inr rfl)),
    hoff.congr hothers (by rw [hc]; rfl) (by rw [hc]; rfl) (by rw [hc]; rfl) (State.keeps_of_eq heq), ?_, ?_⟩
  · rw [State.counts, hrd 12 (Or.inl rfl)]
    exact hcnt
  · rw [State.posts, hkept.flt]
    exact hposts

/-! A change of mode that waited for the end of recovery -/

theorem State.recovered_takes (hn : n < 24) {k : Nat} (h : s.canSt n = 5) (hk : 128 ≤ s.fld (CAN_STATUS n) CAN_STATUS_rec_seq + k) {md : Nat}
    (hc : (s.chan n).change = some md) (h0 : md ≠ 0) :
    let t := s.recovered n k
    (t.canTec n = 0 ∧ t.canRec n = 0 ∧ t.fld (CAN_STATUS n) CAN_STATUS_rec_seq = 128 ∧ s.posts t 0x0902 0 n ∧ (∀ k, k ≠ n → t.chan k = s.chan k) ∧
      s.onlyRegs t [CAN_STATUS n, CAN_ERR n] ∧ t = { s with regs := t.regs, flt := t.flt, can := t.can }) ∧
    t.canSt n = (if md = 4 ∨ (s.chan n).mode = 4 then 1 else 2) ∧ t.chan n = { s.chan n with mode := md, change := none } := by
  obtain ⟨hst, htec, hrec, hseq, hposts, hchan, honly, hreg⟩ := s.recoveredTold_spec hn
  rw [State.recovered_done h hk, hchan, hc, Option.elim_some]
  generalize s.recoveredTold n = u at hst htec hrec hseq hposts hchan honly hreg ⊢
  have hself := u.chan_setChan_self n { u.chan n with mode := md, change := none }
  have hrest : ∀ j, j ≠ n → (u.setChan n { u.chan n with mode := md, change := none }).chan j = u.chan j := fun j hj => u.chan_setChan_ne _ hj
  have heq : u.setChan n { u.chan n with mode := md, change := none } = { u with can := (u.setChan n { u.chan n with mode := md, change := none }).can } := rfl
  by_cases h4 : md = 4 ∨ (u.chan n).mode = 4
  · rw [State.canApply_integrates h0 h4]
    generalize u.setChan n { u.chan n with mode := md, change := none } = w at hself hrest heq ⊢
    have hregs : w.regs = u.regs := by rw [heq]
    have hw := w.wroteRegs_setFld CAN_STATUS_state 1 (List.mem_singleton_self (CAN_STATUS n))
    have hwst := State.fld_setFld_same (f := CAN_STATUS_state) w (CAN_STATUS n) 1 (by decide) (by decide)
    have hwseq : (w.setFld (CAN_STATUS n) CAN_STATUS_state 1).fld (CAN_STATUS n) CAN_STATUS_rec_seq = w.fld (CAN_STATUS n) CAN_STATUS_rec_seq :=
      State.fld_setFld_ne _ _ (by decide) (by decide) (by decide) (Or.inr (by decide))
    rw [State.setCanSt]
    generalize w.setFld (CAN_STATUS n) CAN_STATUS_state 1 = t at hw hwst hwseq ⊢
    have hcan : t.can = w.can := by rw [hw.2]
    have hflt : t.flt = u.flt := by rw [hw.2, heq]
    have hrd : ∀ a, a ≠ CAN_STATUS n → t.rd a = u.rd a := fun a ha => (hw.1 a (fun h => ha (List.mem_singleton.1 h))).trans (State.rd_of_regs hregs a)
    have hE := hrd _ (CAN_ERR_ne_STATUS n)
    have hc' : ∀ j, t.chan j = w.chan j := fun j => by rw [State.chan, hcan, State.chan]
    rw [hchan] at h4
    refine ⟨⟨(congrArg CAN_ERR_tec.get hE).trans htec, (congrArg CAN_ERR_rec.get hE).trans hrec,
      (hwseq.trans (congrArg CAN_STATUS_rec_seq.get (State.rd_of_regs hregs _))).trans hseq, ?_, fun j hj => (hc' j).trans ((hrest j hj).trans (hchan j)),
      fun a ha hl => ?_, ?_⟩, ?_, ?_⟩
    · rw [State.posts, hflt]
      exact hposts
    · simp only [List.mem_cons, List.not_mem_nil, or_false, not_or] at ha
      exact (hrd a ha.1).trans (honly a (by simp [ha.1, ha.2]) hl)
    · rw [hcan, hflt]
      exact hw.2.trans (by rw [heq, hreg])
    · rw [if_pos h4]
      exact hwst
    · rw [hc', hself, hchan]
  · rw [State.canApply_takes h0 h4]
    generalize u.setChan n { u.chan n with mode := md, change := none } = t at hself hrest heq ⊢
    have hregs : t.regs = u.regs := by rw [heq]
    have hflt : t.flt = u.flt := by rw [heq]
    have hfld : ∀ a f, t.fld a f = u.fld a f := fun a f => congrArg f.get (State.rd_of_regs hregs a)
    rw [hchan] at h4
    refine ⟨⟨(hfld _ _).trans htec, (hfld _ _).trans hrec, (hfld _ _).trans hseq, ?_, fun j hj => (hrest j hj).trans (hchan j),
      fun a ha hl => (State.rd_of_regs hregs a).trans (honly a ha hl), ?_⟩, ?_, ?_⟩
    · rw [State.posts, hflt]
      exact hposts
    · rw [hregs, hflt]
      exact heq.trans (by rw [hreg])
    · rw [if_neg h4]
      exact (hfld _ _).trans hst
    · rw [hself, hchan]

theorem State.recovered_off (hn : n < 24) {k : Nat} (h : s.canSt n = 5) (hk : 128 ≤ s.fld (CAN_STATUS n) CAN_STATUS_rec_seq + k)
    (hc : (s.chan n).change = some 0) : s.chanOff (s.recovered n k) n ∧ s.posts (s.recovered n k) 0x0902 0 n := by
  obtain ⟨-, -, -, -, hposts, hchan, -, hreg⟩ := s.recoveredTold_spec hn
  rw [State.recovered_done h hk, hchan, hc, Option.elim_some, State.canApply_off]
  generalize s.recoveredTold n = u at hposts hchan hreg ⊢
  obtain ⟨hoff, hkept⟩ := u.canOff_spec n
  refine ⟨hoff.congr (fun j _ => hchan j) (by rw [hchan]) (by rw [hchan]) (by rw [hchan]) (by rw [hreg]; exact ⟨rfl, rfl, rfl⟩), ?_⟩
  rw [State.posts, hkept.flt]
  exact hposts

/-! A configuration register -/

theorem State.gives_canConfig {k : Fin 5} {n : Fin 24} {Q : State → Prop} (hw : s.writable m (CAN_CTL n + 0x10 + 4 * k))
    (hQ : Q ((s.seen m).canWrite n (0x10 + 4 * k) v)) : Gives (.canConfigWrite m n k v) s Q :=
  ⟨_, congrArg Host.Outcome.next (regCommand_canConfig n.isLt k.isLt hw v), hQ⟩

end

end Sys2Proof.Machine

/-! CAN modes, configuration, error counters, bus-off and a stuck bus: the obligation (R56, R187 to R190, R203, R205). -/

namespace Sys2Proof.Machine

section
variable {s t : State} {m : Master} {n : Fin 24} {v : Word} {e : CanError}

/-- The recovery bit starts the recovery of a bus-off that is kept. -/
theorem State.gives_canRecover (hst : s.canSt n = 4) (hm : ctlMode v ≠ 0) (hb : CAN_CTL_boff_mode.get v = 1) (hw : s.writable m (CAN_CTL n)) :
    Gives (.canCtlRecover m n v) s (fun t => s.ctlShown t n v ∧ t.canSt n = 5 ∧ t.fld (CAN_STATUS n) CAN_STATUS_rec_seq = 0 ∧
      t.chan n = (s.chan n).waits (ctlMode v) ∧ (∀ k, k ≠ n.val → t.chan k = s.chan k) ∧ s.onlyRegs t [CAN_CTL n, CAN_STATUS n] ∧
      t = { s.seen m with regs := t.regs, flt := t.flt, can := t.can }) := by
  have hbm : CAN_CTL_boff_mode.get (v ||| 16) = CAN_CTL_boff_mode.get v := Fld.get_or rfl v
  obtain ⟨hshown, hrest⟩ := State.canCtl_recovers (s := s) (m := m) n.isLt (by rwa [ctlMode_or]) (v := v ||| 16) ⟨hst, recover_or v, hbm.trans hb⟩
  rw [ctlMode_or] at hrest
  exact State.gives_canCtl rfl n.isLt hw ⟨State.ctlShown_or hshown, hrest⟩

theorem State.gives_canRecover_on (hst : s.canSt n = 2 ∨ s.canSt n = 3) (hw : s.writable m (CAN_CTL n)) :
    Gives (.canCtlRecover m n v) s (fun t => s.ctlShown t n v ∧ t.canSt n = s.canSt n ∧ t.chan n = (s.chan n).waits (ctlMode v) ∧
      (∀ k, k ≠ n.val → t.chan k = s.chan k) ∧ s.onlyRegs t [CAN_CTL n, CAN_STATUS n] ∧
      t = { s.seen m with regs := t.regs, flt := t.flt, can := t.can }) := by
  obtain ⟨hshown, hrest⟩ := State.canCtl_on (s := s) (m := m) n.isLt hst (v := v ||| 16)
  rw [ctlMode_or] at hrest
  exact State.gives_canCtl rfl n.isLt hw ⟨State.ctlShown_or hshown, hrest⟩

/-! A configuration register -/

theorem State.gives_canConfig_absent {k : Fin 5} (hw : s.writable m (CAN_CTL n + 0x10 + 4 * k)) (h : 8 ≤ n.val ∧ (k.val = 2 ∨ k.val = 3)) :
    Gives (.canConfigWrite m n k v) s (fun t => t = s.seen m) :=
  State.gives_canConfig hw (by rw [State.canWrite_config _ k.isLt, if_pos h])

theorem seen_cfgOpen (s : State) (m : Master) (n : Nat) : (s.seen m).cfgOpen n = s.cfgOpen n := by
  rw [State.cfgOpen, State.seen_canSt, State.canMode, State.seen_fld]
  rfl

theorem State.gives_canConfig_written {k : Fin 5} (hw : s.writable m (CAN_CTL n + 0x10 + 4 * k)) (h : ¬ (8 ≤ n.val ∧ (k.val = 2 ∨ k.val = 3)))
    (ho : s.cfgOpen n = true) (hk : n.val < 8 ∨ k.val ≠ 4) :
    Gives (.canConfigWrite m n k v) s (fun t => t.rd (CAN_CTL n + 0x10 + 4 * k) = (s.wrPlain (CAN_CTL n + 0x10 + 4 * k) v).rd (CAN_CTL n + 0x10 + 4 * k) ∧
      s.onlyRegs t [CAN_CTL n + 0x10 + 4 * k] ∧ t = { s.seen m with regs := t.regs }) := by
  refine State.gives_canConfig hw ?_
  rw [State.canWrite_config _ k.isLt, if_neg h, seen_cfgOpen, ho, if_neg (Ne.symm Bool.false_ne_true), if_neg (by omega)]
  obtain ⟨hrd, heq⟩ := (s.seen m).wroteRegs_wrPlain v (List.mem_singleton_self (CAN_CTL n + 0x10 + 4 * k))
  exact ⟨s.rd_wrPlain_seen m _ v, State.onlyRegs_seen fun a ha _ => hrd a ha, heq⟩

theorem State.gives_canConfig_noXl {k : Fin 5} (hw : s.writable m (CAN_CTL n + 0x10 + 4 * k)) (hn : 8 ≤ n.val) (hk : k.val = 4) (ho : s.cfgOpen n = true) :
    Gives (.canConfigWrite m n k v) s (fun t =>
      t.rd (CAN_CTL n + 0x10 + 4 * k) = ((s.wrPlain (CAN_CTL n + 0x10 + 4 * k) v).setFld (CAN_CTL n + 0x10 + 4 * k) CAN_FD_CFG_xl_en 0).rd (CAN_CTL n + 0x10 + 4 * k) ∧
      t.fld (CAN_FD_CFG n) CAN_FD_CFG_xl_en = 0 ∧ s.onlyRegs t [CAN_CTL n + 0x10 + 4 * k] ∧ t = { s.seen m with regs := t.regs }) := by
  refine State.gives_canConfig hw ?_
  rw [State.canWrite_config _ k.isLt, if_neg (by omega), seen_cfgOpen, ho, if_neg (Ne.symm Bool.false_ne_true), if_pos ⟨hn, hk⟩]
  have ha : CAN_FD_CFG n = CAN_CTL n + 0x10 + 4 * k := by simp only [CAN_FD_CFG, CAN_CTL]; omega
  rw [ha]
  have hmem := List.mem_singleton_self (CAN_CTL n + 0x10 + 4 * k)
  have hset := State.fld_setFld_same (f := CAN_FD_CFG_xl_en) ((s.seen m).wrPlain (CAN_CTL n + 0x10 + 4 * k) v) (CAN_CTL n + 0x10 + 4 * k) 0 (by decide) (by decide)
  obtain ⟨hrd, heq⟩ := ((s.seen m).wroteRegs_wrPlain v hmem).trans (State.wroteRegs_setFld _ CAN_FD_CFG_xl_en 0 hmem)
  exact ⟨by rw [State.setFld, State.setFld, State.rd_wr_same, State.rd_wr_same, s.rd_wrPlain_seen], hset, State.onlyRegs_seen fun a ha _ => hrd a ha, heq⟩

theorem State.gives_canConfig_refused {k : Fin 5} (hw : s.writable m (CAN_CTL n + 0x10 + 4 * k)) (h : ¬ (8 ≤ n.val ∧ (k.val = 2 ∨ k.val = 3)))
    (ho : s.cfgOpen n = false) :
    Gives (.canConfigWrite m n k v) s (fun t => t.fld (CAN_STATUS n) CAN_STATUS_cfg_refused = 1 ∧ s.posts t 0x090C 2 n ∧ s.onlyRegs t [CAN_STATUS n] ∧
      t = { s.seen m with regs := t.regs, flt := t.flt }) := by
  refine State.gives_canConfig hw ?_
  rw [State.canWrite_config _ k.isLt, if_neg h, seen_cfgOpen, if_pos ho]
  obtain ⟨hset, -, hrd, hposts, -, hreg⟩ := (s.seen m).cfgRefuse_spec n.isLt
  exact ⟨hset, State.posts_congr (State.seen_running s m) (State.seen_flt s m) hposts, State.onlyRegs_seen fun a ha hl =>
    hrd a (fun h => ha (List.mem_singleton.2 h)) (isSrcLost_eq_false.2 hl), hreg⟩

/-! Errors of a channel that takes part -/

section
variable (hp : s.canPart n = true) (hc : s.counting n = true) (hr : e.rule ≠ .exempt)
include hp

theorem State.gives_canError_silent (hc : s.counting n = false) : Gives (.canError n e) s (fun t => t.errNoted n e ∧ t.canTec n = s.canTec n ∧
    t.canRec n = s.canRec n ∧ (t.chan n = { s.chan n with rxSof := none } ∧ ∀ k, k ≠ n.val → t.chan k = s.chan k) ∧ s.onlyRegs t [CAN_ERR n] ∧
    t = { s with regs := t.regs, can := t.can }) := by
  obtain ⟨hnoted, htec, hrec, hchan, hothers, hrd, heq⟩ := s.errMarked_spec n e
  exact ⟨_, congrArg Host.Outcome.next (State.canError_silent hp hc), hnoted, htec, hrec, ⟨hchan, hothers⟩,
    fun a ha _ => hrd a (fun h => ha (List.mem_singleton.2 h)), heq⟩

include hc

theorem State.gives_canError_exempt (hr : e.rule = .exempt) : Gives (.canError n e) s (fun t => t.errNoted n e ∧ s.errShown t n e ∧
    t.canTec n = s.canTec n ∧ t.canRec n = s.canRec n ∧ t.canSt n = s.canSt n ∧
    (t.chan n = { s.chan n with rxSof := none } ∧ ∀ k, k ≠ n.val → t.chan k = s.chan k) ∧
    s.onlyRegs t [CAN_ERR n, CAN_STATUS n, CAN_CNT n 12, CAN_CNT n 13, CAN_CNT n 15] ∧
    t = { s with regs := t.regs, outputs := t.outputs, can := t.can }) := by
  obtain ⟨hnoted, hshown, htec, hrec, hchan, hothers, hrd, heq⟩ := s.errTold_spec n e
  have hst : (s.errTold n e).canSt n = s.canSt n :=
    congrArg CAN_STATUS_state.get (hrd _ (CAN_ERR_ne_STATUS n).symm (CAN_CNT_ne_STATUS n 15).symm)
  refine ⟨_, congrArg Host.Outcome.next (State.canError_exempt hp hc hr), hnoted, hshown, htec, hrec, hst, ⟨hchan, hothers⟩, fun a ha _ => ?_, heq⟩
  simp only [List.mem_cons, List.not_mem_nil, or_false, not_or] at ha
  exact hrd a ha.1 ha.2.2.2.2

include hr

theorem State.gives_canError_busOff (ht : 256 ≤ s.errTec n e) (h : (s.chan n).change ≠ some 0) :
    Gives (.canError n e) s (fun t => t.errNoted n e ∧ s.errShown t n e ∧ t.canTec n = 255 ∧ t.canRec n = s.canRec n ∧ t.canSt n = s.busOffState n ∧
      t.fld (CAN_STATUS n) CAN_STATUS_rec_seq = 0 ∧ s.counts t (CAN_CNT n 12) ∧ s.posts t 0x0901 3 n ∧
      ((s.chan n).onBus = none → t.chan n = (s.chan n).leftBus) ∧ (∀ b : Fin 3, (s.chan n).onBus = some b.val → s.frameFailed t n b) ∧
      (∀ k, k ≠ n.val → t.chan k = s.chan k) ∧ s.onlyRegs t (CAN_TXB_STATUS n ((s.chan n).onBus.getD 0) :: CAN_CNT n 6 :: errRegs n) ∧
      t = { s with regs := t.regs, flt := t.flt, outputs := t.outputs, can := t.can }) := by
  have hchan : (s.errPast n e).chan n = { s.chan n with rxSof := none } := (s.errPast_spec ht).2.2.2.1
  obtain ⟨hnoted, hshown, hb, hcnt, hposts, hrec, hst, hothers, honly, heq⟩ := State.errPast_busOff n.isLt ht
  obtain ⟨hnone, hsome⟩ := State.errPast_frame n.isLt ht
  exact ⟨_, congrArg Host.Outcome.next ((State.canError_past hp hc hr ht).trans (State.busOff_stays n.isLt (by rw [hchan]; exact h))), hnoted, hshown,
    hb.tec, hrec, hst, hb.seq, hcnt, hposts, hnone, fun b => hsome b, hothers, honly, heq⟩

theorem State.gives_canError_off (ht : 256 ≤ s.errTec n e) (h : (s.chan n).change = some 0) :
    Gives (.canError n e) s (fun t => t.errNoted n e ∧ s.errShown t n e ∧ s.chanOff t n ∧ s.counts t (CAN_CNT n 12) ∧ s.posts t 0x0901 3 n) := by
  have hchan : (s.errPast n e).chan n = { s.chan n with rxSof := none } := (s.errPast_spec ht).2.2.2.1
  exact ⟨_, congrArg Host.Outcome.next ((State.canError_past hp hc hr ht).trans (State.busOff_ends n.isLt (by rw [hchan]; exact h))),
    State.errPast_off n.isLt ht⟩

end

/-! The end of recovery -/

theorem State.recovered_settles {k : Nat} (h : s.canSt n = 5) (hk : 128 ≤ s.fld (CAN_STATUS n) CAN_STATUS_rec_seq + k) (hc : (s.chan n).change = none) :
    let t := s.recovered n k
    (t.canTec n = 0 ∧ t.canRec n = 0 ∧ t.fld (CAN_STATUS n) CAN_STATUS_rec_seq = 128 ∧ s.posts t 0x0902 0 n ∧ (∀ k, k ≠ n.val → t.chan k = s.chan k) ∧
      s.onlyRegs t [CAN_STATUS n, CAN_ERR n] ∧ t = { s with regs := t.regs, flt := t.flt, can := t.can }) ∧ t.canSt n = 2 ∧ t.chan n = s.chan n := by
  obtain ⟨hst, htec, hrec, hseq, hposts, hchan, honly, hreg⟩ := s.recoveredTold_spec n.isLt
  rw [State.recovered_done h hk, hchan, hc, Option.elim_none]
  generalize s.recoveredTold n = t at hst htec hrec hseq hposts hchan honly hreg ⊢
  exact ⟨⟨htec, hrec, hseq, hposts, fun j _ => hchan j, honly, by rw [hreg]⟩, hst, hchan n⟩

end

/-- Settles O35: each command of a channel by its case, the error counters by the rule that counts them. -/
theorem canBus : Obligations.CanBus := by
  unfold Obligations.CanBus
  intro s n
  refine ⟨fun m v hw => ⟨?_, ?_, ?_, ?_, ?_, ?_, ?_, ?_, ?_, rfl⟩, fun m k v hw => ⟨?_, ?_, ?_, ?_⟩, ?_, ?_, ?_, ?_, ?_, ?_, fun m hb hc hp => ⟨?_, ?_⟩,
    fun e => ⟨?_, ?_, ?_, ?_, ?_, ?_⟩, fun k => ⟨?_, ?_, ?_, fun m => ?_, ?_⟩, ?_, ?_, ?_⟩
  · exact fun hst hm hf => State.gives_canCtl rfl n.isLt hw (State.canCtl_starts n.isLt hst hm hf)
  · exact fun hst hm => State.gives_canCtl rfl n.isLt hw (State.canCtl_stays n.isLt hst hm)
  · exact fun hst hm => State.gives_canCtl rfl n.isLt hw (State.canCtl_integrating n.isLt hst hm)
  · exact fun hst => State.gives_canCtl rfl n.isLt hw (State.canCtl_on n.isLt hst)
  · exact fun hst hm => State.gives_canCtl rfl n.isLt hw (State.canCtl_off n.isLt hst hm)
  · exact fun hst hm hr => State.gives_canCtl rfl n.isLt hw (State.canCtl_beyond n.isLt hst hm hr)
  · exact fun hm hr => State.gives_canCtl rfl n.isLt hw (State.canCtl_recovers n.isLt hm hr)
  · exact fun hst hm hb => State.gives_canRecover hst hm hb hw
  · exact fun hst => State.gives_canRecover_on hst hw
  · exact State.gives_canConfig_absent hw
  · exact State.gives_canConfig_written hw
  · exact State.gives_canConfig_noXl hw
  · exact State.gives_canConfig_refused hw
  · intro h
    obtain ⟨hst, hrd, heq⟩ := s.integrated_spec (n := n) h
    exact ⟨_, rfl, hst, fun a ha _ => hrd a ha, heq⟩
  · exact fun h => ⟨_, congrArg Host.Outcome.next (if_neg h), rfl⟩
  · exact fun h => ⟨_, congrArg Host.Outcome.next (State.canIdle_busy h), rfl⟩
  · intro hb hc
    obtain ⟨hchan, hothers, heq⟩ := State.canIdle_unchanged hb hc
    refine ⟨_, rfl, hchan.trans ?_, hothers, heq⟩
    dsimp only [State.canStarts, CanChan.still]
    generalize CanChan.offered _ _ = o
    cases o <;> rfl
  · exact fun hb hc hp => ⟨_, congrArg Host.Outcome.next (State.canIdle_apart hb hc hp), s.chan_setChan_self n _, fun k hk => s.chan_setChan_ne _ hk, rfl⟩
  · exact fun hb hc hp => ⟨_, rfl, State.canIdle_off hb hc hp⟩
  · exact fun h0 h4 => ⟨_, rfl, State.canIdle_integrates hb hc hp h0 h4⟩
  · intro h0 h4 hm
    obtain ⟨hchan, hothers, heq⟩ := State.canIdle_takes hb hc hp h0 h4 hm
    refine ⟨_, rfl, hchan.trans ?_, hothers, heq⟩
    dsimp only [State.canStarts, CanChan.still]
    generalize CanChan.offered _ _ = o
    cases o <;> rfl
  · exact fun hp => ⟨_, congrArg Host.Outcome.next (State.canError_apart hp), rfl⟩
  · exact fun hp hc => State.gives_canError_silent hp hc
  · exact fun hp hc hr => State.gives_canError_exempt hp hc hr
  · exact fun hp hc hr ht => ⟨_, rfl, State.canError_counted n.isLt hp hc hr ht⟩
  · exact fun hp hc hr ht h => State.gives_canError_busOff hp hc hr ht h
  · exact fun hp hc hr ht h => State.gives_canError_off hp hc hr ht h
  · exact fun h => ⟨_, congrArg Host.Outcome.next (State.recovered_apart h), rfl⟩
  · intro h hk
    have hw := s.wroteRegs_setFld CAN_STATUS_rec_seq (s.fld (CAN_STATUS n) CAN_STATUS_rec_seq + k.val) (List.mem_singleton_self (CAN_STATUS n))
    exact ⟨_, congrArg Host.Outcome.next (State.recovered_counts h hk),
      (State.fld_setFld_ne _ _ (by decide) (by decide) (by decide) (Or.inl (by decide))).trans h,
      (State.fld_setFld_same _ _ _ (by decide) (by decide)).trans (Nat.mod_eq_of_lt (lt_of_lt_of_le hk (by decide))), fun a ha _ => hw.1 a ha, hw.2⟩
  · exact fun h hk hc => ⟨_, rfl, State.recovered_settles h hk hc⟩
  · exact fun h hk hc h0 => ⟨_, rfl, State.recovered_takes n.isLt h hk hc h0⟩
  · exact fun h hk hc => ⟨_, rfl, State.recovered_off n.isLt h hk hc⟩
  · exact fun h => ⟨_, congrArg Host.Outcome.next (if_pos h), rfl⟩
  · exact fun h => ⟨_, rfl, s.busStuck_spec n.isLt h⟩
  · have hw := s.wroteRegs_setFld CAN_STATUS_bus_stuck 0 (List.mem_singleton_self (CAN_STATUS n))
    exact ⟨_, rfl, State.fld_setFld_same _ _ _ (by decide) (by decide),
      State.fld_setFld_ne _ _ (by decide) (by decide) (by decide) (Or.inl (by decide)), fun a ha _ => hw.1 a ha, hw.2⟩

end Sys2Proof.Machine
